-- ==== Sys2Proof/Word.lean ====
section
/-! DEFINITION. The word types of the S884 and their plainest arithmetic. -/

namespace Sys2Proof

/-- A byte of a frame, a point record or a buffer. -/
abbrev Byte := BitVec 8

/-- A register of the S884: 32 bits (R27). -/
abbrev Word := BitVec 32

/-- Bits `lo + w - 1` down to `lo` of a number. -/
def bitsOf (x lo w : Nat) : Nat := x / 2 ^ lo % 2 ^ w

/-- Bit `i` of a number. -/
def bitOf (x i : Nat) : Bool := x.testBit i

/-- The number with bits `lo + w - 1` down to `lo` replaced by `v`. -/
def setBits (x lo w v : Nat) : Nat :=
  x / 2 ^ (lo + w) * 2 ^ (lo + w) + v % 2 ^ w * 2 ^ lo + x % 2 ^ lo

/-- A number read as a two's complement number of `w` bits. -/
def signedOf (w x : Nat) : Int :=
  if x % 2 ^ w < 2 ^ (w - 1) then (x % 2 ^ w : Int) else (x % 2 ^ w : Int) - (2 ^ w : Nat)

/-- An integer held in `w` bits, in two's complement. -/
def wrapInt (w : Nat) (i : Int) : Nat := (i % ((2 ^ w : Nat) : Int)).toNat

/-- `x` held between `lo` and `hi`. -/
def clampNat (lo hi x : Nat) : Nat := if x < lo then lo else if hi < x then hi else x

/-- 1 for true, 0 for false. -/
def b2n (b : Bool) : Nat := if b then 1 else 0

end Sys2Proof
end

