-- ==== Sys2Proof/Syntax.lean ====
section
/-! DEFINITION. The commands of the S884 block: one constructor of `Instr` per row of the opcode table, with the operands that
the outside brings (an address, a value, a sample, the bytes of a frame). Operands that index one of a fixed number of like
things are `Fin`; the rest are numbers, bytes, or records of them, and WellFormed says which are well formed. -/

namespace Sys2Proof

/-- A master of register and point accesses (R32): its master ID, and for the ring remote (0x10) the originating node. -/
structure Master where
  mid : Fin 32
  node : BitVec 16
deriving DecidableEq, Repr

/-- A Pelum frame (R96): the header fields, then the payload. `west` is DIR and `planeB` is PLANE. -/
structure Frame where
  dst : Nat
  src : Nat
  cls : Nat
  typ : Nat
  flow : Nat
  planeB : Bool
  west : Bool
  seq : Nat
  len : Nat
  hops : Nat
  an : Nat
  rescorr : Nat
  pn : Nat
  turns : Nat
  sec : Bool
  work : Bool
  epoch : Nat
  payload : List Byte
deriving DecidableEq, Repr


/-- A CAN frame (R350, R360): identifier, flags, DLC and data bytes. -/
structure CanFrame where
  ide : Bool
  fdf : Bool
  brs : Bool
  rtr : Bool
  esi : Bool
  id : Nat
  dlc : Nat
  data : List Byte
deriving DecidableEq, Repr

/-- How a transmission on a CAN bus ends (R352, R357, R359): sent, arbitration lost, or an error; `bump` when R359 raises TEC for
it. -/
inductive CanEnd where
  | ok | arb | error (bump : Bool)
deriving DecidableEq, Repr

/-- The atomics of R64. -/
inductive AtomicOp where
  | add | or | and | cas
deriving DecidableEq, Repr

/-- What an error code shows when a word or a line is read (R196, R491). -/
inductive EccFind where
  | good | corrected | uncorrectable
deriving DecidableEq, Repr

/-- A word that the patrol scrub reads (R491): in the active unit's banks by local address, in Cistern memory by Cistern (and whether
it is a packet header), a point's attribute word, or a tile's header word. -/
inductive ScrubMem where
  | bank (addr : Fin 0x90000)
  | cistern (n : Fin 256) (header : Bool)
  | attr (point : Fin 262144)
  | tileHdr (tile : Fin 16384)
deriving DecidableEq, Repr

/-- An error that factory test injects (R494): one or two bits of a SECDED word, or of a DEC-TED word of Reservoir by its byte; a tile's CRC;
a journal line's CRC; the trailer of the next frame at a ring port; a voter mismatch on a core; a comparator output forced, or let
go; a domain's supply monitor tripped. -/
inductive Inject where
  | flip (mem : ScrubMem) (two : Bool)
  | flipReservoir (off : Nat) (two : Bool)
  | tileCrc (tile : Fin 16384)
  | lineCrc (line : Fin 65536)
  | trailer (port : Fin 4)
  | voter (core : Fin 3)
  | comparator (n : Fin 24) (level : Option Bool)
  | supply (d : Fin 16)
deriving DecidableEq, Repr

/-- A feature of a downstream hub port that the upstream host sets or clears (R365). -/
inductive PortFeat where
  | power | reset | suspend | enable | overCurrentChange
deriving DecidableEq, Repr

/-- An endpoint behind a transaction translator (R366): device address, endpoint number, direction, and whether it is periodic. -/
structure TtEp where
  dev : Fin 128
  ep : Fin 16
  isIn : Bool
  periodic : Bool
deriving DecidableEq, Repr

/-- How a transaction on a downstream port ended: done with the bytes it received, NAK, STALL, or not completed. -/
inductive TtRes where
  | done (data : List Byte)
  | nak | stall | failed
deriving DecidableEq, Repr

/-- What else happens on the hub's ports in a microframe: a start-split arrives, a transaction of a TT ends on the downstream port, a
complete-split arrives (R366), or the local host engine builds an output report of `len` bytes (R369). -/
inductive UsbBus where
  | startSplit (port : Fin 4) (e : TtEp) (data : List Byte)
  | ran (port : Fin 4) (e : TtEp) (r : TtRes)
  | completeSplit (port : Fin 4) (e : TtEp)
  | outReport (port : Fin 4) (id : Fin 256) (len : Nat)
deriving DecidableEq, Repr

/-- A control request at its status stage (R365, R372): those of the function, then those of the hub's ports; `localFeature` is the
request of the local host engine to a port of its own (R367). `other` names a request that is answered with STALL, Get_TT_State and
Stop_TT among them. -/
inductive UsbReq where
  | setAddress (a : Fin 128)
  | setConfiguration (c : Fin 256)
  | remoteWakeup (on : Bool)
  | endpointHalt (on : Bool)
  | hubInterface (alt : Fin 2)
  | portFeature (port : Fin 4) (f : PortFeat) (on : Bool)
  | localFeature (port : Fin 4) (f : PortFeat) (on : Bool)
  | clearTt (port : Fin 4) (e : TtEp)
  | resetTt (port : Fin 4)
  | other
deriving DecidableEq, Repr

/-- Where HCS_N rises before a response is complete (R238): in the command phase, before the response is ready, or in the response. -/
inductive HostPhase where
  | command | waiting | response
deriving DecidableEq, Repr

/-- One core's copy of a step (R289): the kind (0 fetch, 1 load, 2 store, 3 direct register access), the local address, the bytes of a
read, the bytes written (none for a read), and whether the core is in user mode. -/
structure CoreStep where
  kind : Fin 4
  addr : BitVec 32
  len : Nat
  data : List Byte
  user : Bool
deriving DecidableEq, Repr

/-- A command of the block: one constructor per row of the opcode table, those with operands first. -/
inductive Instr where
  /-- REGISTER_WRITE (R37). -/
  | registerWrite (m : Master) (off width : Nat) (val : Word)
  /-- MULTIWORD_READ_LATCH (R41). -/
  | multiwordReadLatch (m : Master) (off : Nat)
  /-- MULTIWORD_STAGED_WRITE (R42). -/
  | multiwordStagedWrite (m : Master) (off : Nat) (val : Word)
  /-- COUNTER_CLEAR (R43). -/
  | counterClear (m : Master) (off : Nat) (val : Word)
  /-- AVS_EVALUATE (R17). -/
  | avsEvaluate (demand capacity : Nat)
  /-- GOVERNOR_STEP (R516). -/
  | governorStep (tj : Int)
  /-- POINT_READ (R61). -/
  | pointRead (m : Master) (off len : Nat)
  /-- POINT_WRITE (R62). -/
  | pointWrite (m : Master) (off : Nat) (data : List Byte)
  /-- POINT_ATOMIC (R64). -/
  | pointAtomic (m : Master) (off : Nat) (op : AtomicOp) (a b : BitVec 64)
  /-- PATROL_VISIT (R68). -/
  | patrolVisit (tile : Fin 16384) (bad1 bad2 : Bool)
  /-- TILE_CACHE_ENTRY (R82). -/
  | tileCacheEntry (tile : Fin 16384) (bad1 bad2 : Bool)
  /-- ATTR_DATA_WRITE (R86). -/
  | attrDataWrite (m : Master) (val : Word)
  /-- PROFILE_WRITE (R88). -/
  | profileWrite (m : Master) (k : Fin 4) (val : Word)
  /-- WINDOW_READ (R79). -/
  | windowRead (m : Master) (w : Fin 256) (obj : BitVec 32) (len : Nat)
  /-- WINDOW_DEVICE_ANSWER (R79). -/
  | windowDeviceAnswer (w : Fin 256) (ok : Bool) (data : List Byte)
  /-- WINDOW_TIMEOUT (R79). -/
  | windowTimeout (w : Fin 256)
  /-- WINDOW_REFRESH (R80). -/
  | windowRefresh (pt : Fin 262144)
  /-- PELUM_FRAME_RECEIVE (R104). -/
  | pelumFrameReceive (p : Fin 4) (hdr : List Byte) (q : Fin 16) (slow : Bool)
  /-- FRAME_TRAILER_CHECK (R106): the payload as it stands on the wire, the ICV of a secured frame, and the trailer; `tile` is the tile of the
  point table, if one, whose array gives wrong bytes as an extract brings it in (R84, R154). -/
  | frameTrailerCheck (p : Fin 4) (payload icv : List Byte) (trailer : Word) (tile : Option (Fin 16384))
  /-- EGRESS_FRAME_START (R107). -/
  | egressFrameStart (p : Fin 4) (sub : Fin 16) (bad : Option Nat)
  /-- HEARTBEAT_SEND (R115). -/
  | heartbeatSend (p : Fin 4)
  /-- CREDIT_SET_RECEIVE (R213). -/
  | creditSetReceive (p : Fin 4) (h l : Fin 256)
  /-- SIGNAL_LOST (R116). -/
  | signalLost (p : Fin 4)
  /-- PCS_LOCK_LOST (R116). -/
  | pcsLockLost (p : Fin 4)
  /-- NEIGHBOUR_STOPPED (R116). -/
  | neighbourStopped (p : Fin 4)
  /-- DEGRADED_SPAN_WINDOW (R116). -/
  | degradedSpanWindow (p : Fin 4) (corr uncorr : Nat)
  /-- SIGNAL_DETECT (R121). -/
  | signalDetect (p : Fin 4)
  /-- PCS_LOCK_ACQUIRE (R121). -/
  | pcsLockAcquire (p : Fin 4)
  /-- HELLO_SEND (R523). -/
  | helloSend (p : Fin 4)
  /-- HELLO_RECEIVE (R123). -/
  | helloReceive (p : Fin 4) (f : Frame)
  /-- HOLD_EXPIRE (R121). -/
  | holdExpire (p : Fin 4)
  /-- RING_STATE_WRAP_RECEIVE (R102). -/
  | ringStateWrapReceive (p : Fin 4) (f : Frame) (bad : Option Nat := none)
  /-- HEAL_READY_RECEIVE (R102). -/
  | healReadyReceive (p : Fin 4) (f : Frame) (bad : Option Nat := none)
  /-- UNWRAP_RECEIVE (R102). -/
  | unwrapReceive (p : Fin 4) (f : Frame) (bad : Option Nat := none)
  /-- UNWRAP_AT (R118). -/
  | unwrapAt (plane : Fin 2)
  /-- LDLY_REQ_SEND (R110). -/
  | ldlyReqSend (p : Fin 4)
  /-- LDLY_REQ_RECEIVE (R101). -/
  | ldlyReqReceive (p : Fin 4) (f : Frame) (q : Fin 16)
  /-- LDLY_RSP_RECEIVE (R110). -/
  | ldlyRspReceive (p : Fin 4) (f : Frame) (q : Fin 16)
  /-- PORT_MODE_WRITE (R128). -/
  | portModeWrite (m : Master) (p : Fin 4) (val : Word)
  /-- BYPASS_INSERT_WRITE (R125). -/
  | bypassInsertWrite (m : Master) (val : Word)
  /-- SUMMATION_FRAME_PASS (R140). -/
  | summationFramePass (p : Fin 4) (f : Frame)
  /-- RING_CFG_WRITE (R151). -/
  | ringCfgWrite (m : Master) (val : Word)
  /-- RING_APPLY_WRITE (R135). -/
  | ringApplyWrite (m : Master) (val : Word)
  /-- SUBSCRIPTION_WRITE (R156). -/
  | subscriptionWrite (m : Master) (k : Fin 2) (val : Word)
  /-- WORK_SUBMIT (R166). -/
  | workSubmit (m : Master) (flow : Fin 1024) (op : Fin 256) (addr : BitVec 64) (data : List Byte) (seg : Fin 4)
  /-- SUBMIT_UNBLOCK (R164). -/
  | submitUnblock (f : Fin 1024)
  /-- WORK_ARRIVAL (R178). -/
  | workArrival (f : Frame) (bad : Option Nat := none)
  /-- WORK_ACK_RECEIVE (R184). -/
  | workAckReceive (f : Frame) (bad : Option Nat := none)
  /-- RESEND_TIMER_EXPIRE (R177). -/
  | resendTimerExpire (f : Fin 1024)
  /-- REACH_TIMEOUT (R185). -/
  | reachTimeout (f : Fin 1024)
  /-- FLOW_ABANDON (R186). -/
  | flowAbandon (m : Master)
  /-- FLOW_PROBE (R187). -/
  | flowProbe (m : Master)
  /-- COMMIT_INTERVAL_WRITE (R169). -/
  | commitIntervalWrite (m : Master) (val : Word)
  /-- RESERVOIR_PATROL (R196). -/
  | reservoirPatrol (off : Nat) (e : EccFind)
  /-- REMOTE_READ_REQUEST (R522). -/
  | remoteReadRequest (m : Master) (addr : BitVec 64) (len : Nat)
  /-- RREAD_RECEIVE (R522). -/
  | rreadReceive (f : Frame) (bad : Option Nat := none)
  /-- RREAD_RSP_RECEIVE (R522). -/
  | rreadRspReceive (f : Frame) (bad : Option Nat := none)
  /-- RREAD_RETRY_EXPIRE (R522). -/
  | rreadRetryExpire (tag : Nat)
  /-- RREAD_REACH_TIMEOUT (R522). -/
  | rreadReachTimeout (tag : Nat)
  /-- JOURNAL_WINDOW_READ (R198). -/
  | journalWindowRead (m : Master) (w : Fin 256) (off : BitVec 32) (len : Nat)
  /-- FRAME_ADMIT (R208). -/
  | frameAdmit (inPort : Fin 11) (cls : Fin 8) (bad : Option Nat := none)
  /-- ETH_FRAME_RECEIVE (R221). -/
  | ethFrameReceive (n : Fin 4) (bytes : List Byte) (fcsGood codeErr : Bool) (bad : Option Nat := none)
  /-- PAUSE_FRAME_RECEIVE (R224). -/
  | pauseFrameReceive (n : Fin 4) (pfc : Bool) (enable : Fin 256) (quanta : List Nat)
  /-- XOFF_REPEAT (R224). -/
  | xoffRepeat (n : Fin 4)
  /-- ETH_LINK_DOWN (R223). -/
  | ethLinkDown (n : Fin 4)
  /-- ETH_LINK_UP (R223). -/
  | ethLinkUp (n : Fin 4) (lpPause : Fin 4)
  /-- MDIO_START (R225). -/
  | mdioStart (m : Master) (n : Fin 4) (val : Word)
  /-- MDIO_DONE (R225). -/
  | mdioDone (n : Fin 4) (data : Option (BitVec 16))
  /-- HOST_WRITE (R246). -/
  | hostWrite (addr : BitVec 64) (data : List Byte) (crcOk : Bool)
  /-- HOST_READ (R240). -/
  | hostRead (addr : BitVec 64) (len : Nat) (crcOk : Bool)
  /-- HOST_CLAIM (R241). -/
  | hostClaim (tag : Fin 256) (crcOk : Bool)
  /-- HOST_READ_ONCE (R243). -/
  | hostReadOnce (addr : BitVec 64) (len : Nat) (crcOk : Bool)
  /-- HOST_STATUS (R237). -/
  | hostStatus (crcOk : Bool)
  /-- HOST_ABORT (R238). -/
  | hostAbort (phase : HostPhase)
  /-- DELAYED_READ_COMPLETE (R241). -/
  | delayedReadComplete (tag : Fin 64)
  /-- CLAIM_WINDOW_EXPIRE (R241). -/
  | claimWindowExpire (tag : Fin 64)
  /-- STRANDED_POP (R245). -/
  | strandedPop (m : Master) (val : Word)
  /-- PWF_POP (R248). -/
  | pwfPop (m : Master) (val : Word)
  /-- HOST_BACKOFF (R251). -/
  | hostBackoff (tag : Option (Fin 64))
  /-- SIGNAL_UPDATE (R252). -/
  | signalUpdate (kind : Fin 16) (unit obj : Nat) (payload : List Byte) (fault : Bool)
  /-- TUNNEL_FRAME_ARRIVE (R254). -/
  | tunnelFrameArrive (f : Frame) (bad : Option Nat := none)
  /-- TIME_INC_WRITE (R264). -/
  | timeIncWrite (m : Master) (val : Word)
  /-- TIME_SLEW_WRITE (R265). -/
  | timeSlewWrite (m : Master) (val : Word)
  /-- TIME_STEP_WRITE (R266). -/
  | timeStepWrite (m : Master) (val : Word)
  /-- TIME_SET_WRITE (R266). -/
  | timeSetWrite (m : Master) (val : Word)
  /-- SYNC_RECEIVE (R271). -/
  | syncReceive (p : Fin 4) (f : Frame) (q : Fin 16)
  /-- PTP_EVENT_RECEIVE (R275). -/
  | ptpEventReceive (n : Fin 4) (bytes : List Byte) (q : Fin 16) (bad : Option Nat := none)
  /-- PTP_STAMP_POP (R275). -/
  | ptpStampPop (m : Master) (n : Fin 4) (val : Word)
  /-- PIN_EDGE (R277). -/
  | pinEdge (n : Fin 256) (rising : Bool) (sub : Fin 4)
  /-- EDGE_POP (R279). -/
  | edgePop (m : Master) (b : Fin 8) (val : Word)
  /-- TIMED_ACTION_FIRE (R281). -/
  | timedActionFire (pin : Fin 256)
  /-- TIMED_PULSE_END (R281). -/
  | timedPulseEnd (pin : Fin 256)
  /-- ACTION_FLUSH (R283). -/
  | actionFlush (m : Master) (val : Word)
  /-- LATE_POP (R283). -/
  | latePop (m : Master) (val : Word)
  /-- TRIGGER_ARM (R284). -/
  | triggerArm (m : Master) (n : Fin 8) (val : Word)
  /-- TRIGGER_FIRE (R284). -/
  | triggerFire (n : Fin 8)
  /-- VOTED_OUTPUT (R290). -/
  | votedOutput (u : Fin 2) (c0 c1 c2 : CoreStep) (bad : Bool)
  /-- STEP_TIMEOUT (R291). -/
  | stepTimeout (u : Fin 2) (core : Fin 3) (kind : Fin 4) (addr : BitVec 32) (late : Nat := 0)
  /-- WATCHDOG_KICK (R308). -/
  | watchdogKick (m : Master)
  /-- DOMAIN_SUPPLY_TRIP (R291). -/
  | domainSupplyTrip (d : Fin 16)
  /-- CHECKPOINT_COMMAND (R294). -/
  | checkpointCommand (m : Master)
  /-- FH_RELEASE (R298). -/
  | fhRelease (m : Master)
  /-- PROOF_COMMAND (R303). -/
  | proofCommand (m : Master)
  /-- PROOF_WAKE_DONE (R303). -/
  | proofWakeDone (failed : Option (Fin 6)) (corrected : Nat)
  /-- JET_GOTO (R320). -/
  | jetGoto (j : Fin 64)
  /-- JET_SET (R320). -/
  | jetSet (j : Fin 64)
  /-- JET_SEND (R321). -/
  | jetSend (j : Fin 64)
  /-- JET_RECV (R321). -/
  | jetRecv (j : Fin 64)
  /-- JET_LOAD (R321). -/
  | jetLoad (j : Fin 64)
  /-- JET_POST (R321). -/
  | jetPost (j : Fin 64)
  /-- JET_NSET (R320). -/
  | jetNset (j : Fin 64)
  /-- JET_REP (R321). -/
  | jetRep (j : Fin 64)
  /-- JET_WAITE (R321). -/
  | jetWaite (j : Fin 64)
  /-- JET_MARK (R320). -/
  | jetMark (j : Fin 64)
  /-- JET_PACK (R321). -/
  | jetPack (j : Fin 64)
  /-- JET_SIG (R321). -/
  | jetSig (j : Fin 64)
  /-- JET_FAULT (R322). -/
  | jetFault (j : Fin 64)
  /-- JET_TX_WRITE (R323). -/
  | jetTxWrite (m : Master) (j : Fin 64) (val : Word)
  /-- JET_RX_POP (R323). -/
  | jetRxPop (m : Master) (j : Fin 64) (val : Word)
  /-- JET_RUN (R327). -/
  | jetRun (m : Master) (j : Fin 64)
  /-- JET_STOP (R327). -/
  | jetStop (m : Master) (j : Fin 64)
  /-- JET_STEP (R327). -/
  | jetStep (m : Master) (j : Fin 64)
  /-- JET_CLEAR (R327). -/
  | jetClear (m : Master) (j : Fin 64)
  /-- JET_PC_WRITE (R327). -/
  | jetPcWrite (m : Master) (j : Fin 64) (val : Word)
  /-- JET_D_WRITE (R327). -/
  | jetDWrite (m : Master) (j : Fin 64) (val : Word)
  /-- JET_PROG_WRITE (R328). -/
  | jetProgWrite (m : Master) (j : Fin 64) (k : Fin 128) (val : Word)
  /-- JET_GROUP_GO (R329). -/
  | jetGroupGo (m : Master) (val : Word)
  /-- JET_GROUP_ACT (R329). -/
  | jetGroupAct (b : Fin 2)
  /-- PIN_OWNER_WRITE (R311). -/
  | pinOwnerWrite (m : Master) (n : Fin 256) (val : Word)
  /-- PIN_LEVEL_WRITE (R310). -/
  | pinLevelWrite (m : Master) (k : Fin 16) (val : Word)
  /-- PIN_IN_BIND_WRITE (R314). -/
  | pinInBindWrite (m : Master) (n : Fin 256) (val : Word)
  /-- PIN_OUT_BIND_WRITE (R315). -/
  | pinOutBindWrite (m : Master) (n : Fin 256) (val : Word)
  /-- PIN_FILTER_EXPIRE (R314). -/
  | pinFilterExpire (n : Fin 256)
  /-- PIN_COUNT_WRITE (R314). -/
  | pinCountWrite (n : Fin 256)
  /-- VIO_BANK_GOOD_CHANGE (R309). -/
  | vioBankGoodChange (b : Fin 8) (mv : Nat)
  /-- CISTERN_PUSH (R338). -/
  | cisternPush (m : Master) (n : Fin 256) (data : List Byte)
  /-- CISTERN_PUSH_CLOSE (R338). -/
  | cisternPushClose (m : Master) (n : Fin 256) (typ : Fin 128) (data : List Byte)
  /-- CISTERN_CLOSE (R337). -/
  | cisternClose (m : Master) (n : Fin 256) (typ : Fin 128)
  /-- CISTERN_ABORT (R337). -/
  | cisternAbort (m : Master) (n : Fin 256)
  /-- CISTERN_POP (R340). -/
  | cisternPop (m : Master) (n : Fin 256) (len : Nat) (bad : Option Nat) (corr : Nat)
  /-- CISTERN_PUSH_RESUME (R339). -/
  | cisternPushResume (n : Fin 256)
  /-- CISTERN_TUNNEL_TAKE (R341). -/
  | cisternTunnelTake (n : Fin 256) (bad : Option Nat) (corr : Nat)
  /-- CISTERN_FLUSH (R346). -/
  | cisternFlush (m : Master) (n : Fin 256)
  /-- CISTERN_ABORT_CMD (R349). -/
  | cisternAbortCmd (m : Master) (n : Fin 256)
  /-- CST_TLOG_POP (R342). -/
  | cstTlogPop (m : Master) (val : Word)
  /-- CAN_FRAME_RECEIVE (R351). -/
  | canFrameReceive (n : Fin 8) (f : CanFrame) (age : BitVec 24) (err : Fin 9 := 0)
  /-- CAN_TXREQ (R353). -/
  | canTxreq (m : Master) (n : Fin 8) (obj : Fin 64)
  /-- CAN_CANCEL (R354). -/
  | canCancel (m : Master) (n : Fin 8) (obj : Fin 64)
  /-- CAN_COMMIT_DATA (R352). -/
  | canCommitData (m : Master) (n : Fin 8) (obj : Fin 64)
  /-- CAN_RECOVER (R359). -/
  | canRecover (m : Master) (n : Fin 8)
  /-- CAN_PERIOD_EXPIRE (R353). -/
  | canPeriodExpire (n : Fin 8) (o : Fin 64)
  /-- CAN_TX_COMMIT (R352). -/
  | canTxCommit (n : Fin 8)
  /-- CAN_TX_DONE (R357). -/
  | canTxDone (n : Fin 8) (e : CanEnd) (age : BitVec 24)
  /-- CAN_RECOVERY_DONE (R359). -/
  | canRecoveryDone (n : Fin 8)
  /-- CAN_WINDOW_OPEN (R356). -/
  | canWindowOpen (n : Fin 8) (w : Fin 32) (idle : Bool)
  /-- CAN_TXEN_EXPIRE (R357). -/
  | canTxenExpire (n : Fin 8)
  /-- CAN_TT_APPLY (R358). -/
  | canTtApply (n : Fin 8)
  /-- CAN_MODE_INIT_WRITE (R362). -/
  | canModeInitWrite (m : Master) (n : Fin 8)
  /-- USB_WRITE (R375). -/
  | usbWrite (tag : BitVec 16) (addr : BitVec 64) (data : List Byte)
  /-- USB_READ (R376). -/
  | usbRead (tag : BitVec 16) (addr : BitVec 64) (len : Nat)
  /-- USB_READ_ONCE (R376). -/
  | usbReadOnce (tag : BitVec 16) (addr : BitVec 64) (len : Nat)
  /-- USB_BAD_COMMAND (R373). -/
  | usbBadCommand (tag : BitVec 16)
  /-- USB_ISO_MICROFRAME (R378). -/
  | usbIsoMicroframe (collected : Bool) (bus : List UsbBus := [])
  /-- USB_RESPONSE_IN (R374). -/
  | usbResponseIn (acked : Bool := true)
  /-- USB_CONTROL_REQUEST (R372). -/
  | usbControlRequest (r : UsbReq)
  /-- USB_BUS_RESET (R382). -/
  | usbBusReset (high : Bool)
  /-- USB_OVERCURRENT (R367). -/
  | usbOvercurrent (n : Fin 4)
  /-- USB_LOCAL_WRITE (R369). -/
  | usbLocalWrite (m : Master) (val : Word)
  /-- HID_REPORT_RECEIVE (R369). -/
  | hidReportReceive (n : Fin 4) (id : Fin 256) (data : List Byte)
  /-- FEED_ON (R386). -/
  | feedOn (m : Master) (n : Fin 16)
  /-- FEED_OFF (R386). -/
  | feedOff (m : Master) (n : Fin 16)
  /-- FEED_RESTART (R394). -/
  | feedRestart (m : Master) (n : Fin 16)
  /-- FEED_CLEAR (R396). -/
  | feedClear (m : Master) (n : Fin 16)
  /-- FEED_KILL_CMD (R396). -/
  | feedKillCmd (m : Master)
  /-- FEED_CLEAR_KILL (R396). -/
  | feedClearKill (m : Master)
  /-- FEED_SAMPLE (R393). -/
  | feedSample (n : Fin 16) (sense : Int) (vin vout vgs : Nat) (tdie : Int) (ntc : Option Nat)
  /-- FEED_FAST_TRIP (R391). -/
  | feedFastTrip (n : Fin 16)
  /-- FEED_OVERLOAD_STEP (R392). -/
  | feedOverloadStep (n : Fin 16)
  /-- FEED_RAMP_TIMEOUT (R388). -/
  | feedRampTimeout (n : Fin 16)
  /-- FEED_PG_CHANGE (R389). -/
  | feedPgChange (n : Fin 16)
  /-- FEED_RETRY_END (R394). -/
  | feedRetryEnd (n : Fin 16)
  /-- FEED_RAIL_OK (R390). -/
  | feedRailOk (n : Fin 16)
  /-- FEED_TRIP_COUNT_RESET (R394). -/
  | feedTripCountReset (n : Fin 16)
  /-- FEED_DAMAGE_DETECT (R395). -/
  | feedDamageDetect (n : Fin 16)
  /-- FEED_MEAS_UPDATE (R397). -/
  | feedMeasUpdate (n : Fin 16)
  /-- DOMAIN_VOTE_WRITE (R404). -/
  | domainVoteWrite (m : Master) (d : Fin 16) (val : Word)
  /-- DOMAIN_ENTRY_BEGIN (R406). -/
  | domainEntryBegin (d : Fin 16)
  /-- DOMAIN_TRANSITION_DONE (R407). -/
  | domainTransitionDone (d : Fin 16)
  /-- CMP_RAW_CHANGE (R411). -/
  | cmpRawChange (n : Fin 24) (x : Nat)
  /-- CMP_FILTER_EXPIRE (R411). -/
  | cmpFilterExpire (n : Fin 24)
  /-- CFG_RESET_SYSTEM (R424). -/
  | cfgResetSystem (m : Master)
  /-- CFG_RESET_CONTROL (R424). -/
  | cfgResetControl (m : Master)
  /-- BOOT_SEQUENCE_START (R426). -/
  | bootSequenceStart (selfTestOk : Bool)
  /-- BOOT_DOMAINS_READY (R427). -/
  | bootDomainsReady (size : Nat) (modes : Fin 16)
  /-- BOOT_LOAD_DONE (R433). -/
  | bootLoadDone (img : List Byte) (unitA unitB : Bool)
  /-- RUNNEL_OFFER_RECEIVE (R445). -/
  | runnelOfferReceive (p : Fin 4) (f : Frame)
  /-- RUNNEL_ANSWER_RECEIVE (R445). -/
  | runnelAnswerReceive (p : Fin 4) (f : Frame)
  /-- RUNNEL_CHUNK_RECEIVE (R446). -/
  | runnelChunkReceive (p : Fin 4) (f : Frame)
  /-- RUNNEL_HAVE_RECEIVE (R445). -/
  | runnelHaveReceive (p : Fin 4) (f : Frame)
  /-- RUNNEL_CHUNK_RESEND (R445). -/
  | runnelChunkResend (p : Fin 4)
  /-- UPD_INJECT (R448). -/
  | updInject (m : Master) (val : Word)
  /-- UPD_STAGE (R450). -/
  | updStage (m : Master)
  /-- FH_HANDOVER (R451). -/
  | fhHandover (m : Master)
  /-- UPD_COMMIT (R451). -/
  | updCommit (m : Master)
  /-- UPD_CONFIRM (R454). -/
  | updConfirm (m : Master)
  /-- UPD_REVERT (R455). -/
  | updRevert (m : Master)
  /-- UPD_DISCARD (R459). -/
  | updDiscard (m : Master)
  /-- UPD_REAPPLY (R455). -/
  | updReapply (m : Master)
  /-- SEC_ENROL (R464). -/
  | secEnrol (m : Master)
  /-- SEC_KEYLOAD (R465). -/
  | secKeyload (m : Master)
  /-- SEC_REVOKE (R464). -/
  | secRevoke (m : Master)
  /-- SEC_NODECERT (R469). -/
  | secNodecert (m : Master)
  /-- SEC_SVN_RAISE (R464). -/
  | secSvnRaise (m : Master)
  /-- SEC_ZEROISE (R464). -/
  | secZeroise (m : Master)
  /-- SEC_TRANSFER (R464). -/
  | secTransfer (m : Master)
  /-- SESSION_OPEN (R467). -/
  | sessionOpen (m : Master)
  /-- SESSION_VERIFY (R467). -/
  | sessionVerify (m : Master)
  /-- SESSION_CLOSE (R467). -/
  | sessionClose (m : Master)
  /-- KA_INIT_RECEIVE (R470). -/
  | kaInitReceive (p : Fin 4) (f : Frame)
  /-- KA_RESP_RECEIVE (R471). -/
  | kaRespReceive (p : Fin 4) (f : Frame)
  /-- KA_CONFIRM_RECEIVE (R471). -/
  | kaConfirmReceive (p : Fin 4) (f : Frame)
  /-- KA_TX_SWITCH (R471). -/
  | kaTxSwitch (p : Fin 4)
  /-- KA_OLD_AN_CLEAR (R471). -/
  | kaOldAnClear (p : Fin 4)
  /-- KA_TIMEOUT (R471). -/
  | kaTimeout (p : Fin 4)
  /-- REKEY_PERIODIC (R471). -/
  | rekeyPeriodic (p : Fin 4)
  /-- DEBUG_UNLOCK (R468). -/
  | debugUnlock (nonce token : List Byte)
  /-- EVENT_OCCURRENCE (R476). -/
  | eventOccurrence (ev : Fin 512) (cls : Fin 5) (rep : Nat)
  /-- EVENT_CLEAR (R476). -/
  | eventClear (m : Master) (k : Fin 16) (val : Word)
  /-- SOFTWARE_EVENT (R475). -/
  | softwareEvent (m : Master) (val : Word)
  /-- ALARM_RECEIVE (R485). -/
  | alarmReceive (f : Frame) (bad : Option Nat := none)
  /-- SNAP_TAKE (R487). -/
  | snapTake (m : Master)
  /-- SNAP_RELEASE (R490). -/
  | snapRelease (m : Master)
  /-- SCRUB_PASS (R491). -/
  | scrubPass (mem : ScrubMem) (e : EccFind)
  /-- CALIBRATION_VISIT (R492). -/
  | calibrationVisit (atEnd : Bool)
  /-- TELEMETRY_READ (R493). -/
  | telemetryRead (t0 t1 t2 t3 t4 feed : Int)
  /-- CREDIT_SET_SEND (R213). -/
  | creditSetSend (p : Fin 4)
  /-- ETH_EGRESS_SEND (R215). -/
  | ethEgressSend (n : Fin 4) (q : Fin 16) (bad : Option Nat)
  /-- FIELD_PIN_LEVEL_CHANGE (R314). -/
  | fieldPinLevelChange (n : Fin 256) (level : Bool) (sub : Fin 4)
  /-- USB_PORT_CONNECT (R368). -/
  | usbPortConnect (n : Fin 4) (conn : Bool) (speed : Fin 3) (hid : Bool)
  /-- HELD_ACCESS_COMPLETE (R10). -/
  | heldAccessComplete
  /-- AVS_TRANSACTION_FAIL (R19). -/
  | avsTransactionFail
  /-- PATROL_LATE (R68). -/
  | patrolLate
  /-- CYCLE_START (R131). -/
  | cycleStart
  /-- SYNC_WINDOW_OPEN (R269). -/
  | syncWindowOpen
  /-- SUMMATION_LAUNCH (R137). -/
  | summationLaunch
  /-- CYCLIC_WINDOW_CLOSE (R149). -/
  | cyclicWindowClose
  /-- JOIN_TIMEOUT (R151). -/
  | joinTimeout
  /-- CYCLE_APPLY_AT (R135). -/
  | cycleApplyAt
  /-- GROUP_CLOSE (R167). -/
  | groupClose
  /-- GROUP_COMMIT_DONE (R165). -/
  | groupCommitDone
  /-- WAITING_ITEM_APPLY (R178). -/
  | waitingItemApply
  /-- OUTSTATE_SWEEP (R173). -/
  | outstateSweep
  /-- FLOW_RECOVER (R189). -/
  | flowRecover
  /-- RECOVERY_RESEND (R189). -/
  | recoveryResend
  /-- HOST_BAD_OPCODE (R233). -/
  | hostBadOpcode
  /-- POSTED_WRITE_DRAIN (R247). -/
  | postedWriteDrain
  /-- PREFETCH_EXPIRE (R244). -/
  | prefetchExpire
  /-- SLEW_END (R265). -/
  | slewEnd
  /-- WATCHDOG_EXPIRE (R291). -/
  | watchdogExpire
  /-- SIDE_EFFECT_READ_KEPT (R293). -/
  | sideEffectReadKept
  /-- CHECKPOINT_START (R294). -/
  | checkpointStart
  /-- CHECKPOINT_COMPLETE (R296). -/
  | checkpointComplete
  /-- STANDBY_READY (R298). -/
  | standbyReady
  /-- FAILOVER_DEADLINE (R299). -/
  | failoverDeadline
  /-- REARM_PROOF (R300). -/
  | rearmProof
  /-- PROOF_WAKE_START (R303). -/
  | proofWakeStart
  /-- ZONE_BUDGET_EXHAUST (R305). -/
  | zoneBudgetExhaust
  /-- USB_WRITE_ACK (R375). -/
  | usbWriteAck
  /-- USB_NOTICE_IN (R377). -/
  | usbNoticeIn
  /-- USB_DISCONNECT (R382). -/
  | usbDisconnect
  /-- USB_SUSPEND (R379). -/
  | usbSuspend
  /-- USB_RESUME (R381). -/
  | usbResume
  /-- USB_REMOTE_WAKE (R380). -/
  | usbRemoteWake
  /-- USB_WAKE_DRIVE_END (R380). -/
  | usbWakeDriveEnd
  /-- POWER_ON_RESET (R423). -/
  | powerOnReset
  /-- RST_N_ASSERT (R423). -/
  | rstNAssert
  /-- UPDATE_BUILD_DONE (R447). -/
  | updateBuildDone
  /-- STAGING_DONE (R450). -/
  | stagingDone
  /-- HANDOVER_AT_BOUNDARY (R451). -/
  | handoverAtBoundary
  /-- HANDOVER_APPLIED (R451). -/
  | handoverApplied
  /-- HANDOVER_DEADLINE (R452). -/
  | handoverDeadline
  /-- SESSION_EXPIRE (R467). -/
  | sessionExpire
  /-- NOISE_HEALTH_FAIL (R461). -/
  | noiseHealthFail
  /-- TAMPER_DETECT (R472). -/
  | tamperDetect
  /-- REACTION_RESET (R479). -/
  | reactionReset
  /-- LOG_WINDOW_END (R484). -/
  | logWindowEnd
  /-- SNAP_TREQ (R489). -/
  | snapTreq
  /-- SNAP_MARK (R488). -/
  | snapMark
  /-- SNAP_COPY_DONE (R488). -/
  | snapCopyDone
  /-- MGMT_SEND (R493). -/
  | mgmtSend
  /-- VAON_LOSS (R507). -/
  | vaonLoss
  /-- JTAG_RESET (R423). -/
  | jtagReset
  /-- IMAGE_BUILD_COMPLETE (R447). -/
  | imageBuildComplete
deriving DecidableEq, Repr

end Sys2Proof
end

