-- ==== Sys2Proof/WellFormed.lean ====
section
/-! DEFINITION. Which commands are well formed: what can stand in the fields of a frame, and how long the bytes of a command can be. The
machine gives every command its effect, well formed or not. -/

namespace Sys2Proof

/-- A Pelum frame whose fields fit the header (R96) and whose LEN is its payload's. -/
def Frame.ok (f : Frame) : Bool :=
  decide (f.dst < 2 ^ 16 ∧ f.src < 2 ^ 16 ∧ f.cls < 8 ∧ f.typ < 32 ∧ f.flow < 1024 ∧ f.seq < 2 ^ 32 ∧ f.len = f.payload.length ∧
    f.len ≤ 16384 ∧ f.hops < 4096 ∧ f.an < 4 ∧ f.rescorr < 2 ^ 64 ∧ f.pn < 2 ^ 32 ∧ f.turns < 4 ∧ f.epoch < 256)

/-- A CAN frame whose fields fit (R350). -/
def CanFrame.ok (f : CanFrame) : Bool := decide (f.id < 2 ^ 29 ∧ f.dlc < 16 ∧ f.data.length ≤ 64)

/-- A core's step of at most 8 bytes (R289). -/
def CoreStep.ok (c : CoreStep) : Bool := decide (c.len ≤ 8 ∧ c.data.length ≤ 8)

/-- The length of a point or window access that an agent can make. -/
def lenOk (n : Nat) : Bool := decide (1 ≤ n ∧ n ≤ 65536)

/-- LEN of a host or USB command (R233, R373). -/
def cmdLenOk (n : Nat) : Bool := decide (1 ≤ n ∧ n ≤ 1024)

/-- The index of a bad tile of the buffer (R203). -/
def badOk (b : Option Nat) : Bool :=
  match b with
  | none => true
  | some n => decide (n < 24576)

/-- Bytes on the hub's downstream ports: at most 188 of a split in a microframe, and 64 of a report (R366). -/
def busOk (b : UsbBus) : Bool :=
  match b with
  | .startSplit _ _ d => decide (d.length ≤ 188)
  | .ran _ _ (.done d) => decide (d.length ≤ 1023)
  | .outReport _ _ n => decide (n ≤ 64)
  | _ => true

/-- Whether a command is well formed. -/
def Instr.wellFormed (i : Instr) : Bool :=
  match i with
  | .registerWrite _ off width _ => decide (off < 2 ^ 40) && (width == 1 || width == 2 || width == 4 || width == 8)
  | .heldAccessComplete => true
  | .multiwordReadLatch _ off => decide (off < 2 ^ 40)
  | .multiwordStagedWrite _ off _ => decide (off < 2 ^ 40)
  | .counterClear _ off _ => decide (off < 2 ^ 40)
  | .avsEvaluate _ _ => true
  | .avsTransactionFail => true
  | .governorStep _ => true
  | .pointRead _ off len => decide (off < 2 ^ 40) && lenOk len
  | .pointWrite _ off data => decide (off < 2 ^ 40) && lenOk data.length
  | .pointAtomic _ off _ _ _ => decide (off < 2 ^ 40)
  | .patrolVisit _ _ _ => true
  | .patrolLate => true
  | .tileCacheEntry _ _ _ => true
  | .attrDataWrite _ _ => true
  | .profileWrite _ _ _ => true
  | .windowRead _ _ _ len => lenOk len
  | .windowDeviceAnswer _ _ data => decide (data.length ≤ 256)
  | .windowTimeout _ => true
  | .windowRefresh _ => true
  | .pelumFrameReceive _ hdr _ _ => hdr.length == 32
  | .frameTrailerCheck _ payload icv _ _ => decide (payload.length ≤ 16384) && decide (icv.length ≤ 16)
  | .egressFrameStart _ _ bad => badOk bad
  | .heartbeatSend _ => true
  | .creditSetReceive _ _ _ => true
  | .signalLost _ => true
  | .pcsLockLost _ => true
  | .neighbourStopped _ => true
  | .degradedSpanWindow _ _ _ => true
  | .signalDetect _ => true
  | .pcsLockAcquire _ => true
  | .helloSend _ => true
  | .helloReceive _ f => f.ok
  | .holdExpire _ => true
  | .ringStateWrapReceive _ f bad => f.ok && badOk bad
  | .healReadyReceive _ f bad => f.ok && badOk bad
  | .unwrapReceive _ f bad => f.ok && badOk bad
  | .unwrapAt _ => true
  | .ldlyReqSend _ => true
  | .ldlyReqReceive _ f _ => f.ok
  | .ldlyRspReceive _ f _ => f.ok
  | .portModeWrite _ _ _ => true
  | .bypassInsertWrite _ _ => true
  | .cycleStart => true
  | .syncWindowOpen => true
  | .summationLaunch => true
  | .summationFramePass _ f => f.ok
  | .cyclicWindowClose => true
  | .joinTimeout => true
  | .ringCfgWrite _ _ => true
  | .ringApplyWrite _ _ => true
  | .cycleApplyAt => true
  | .subscriptionWrite _ _ _ => true
  | .workSubmit _ _ _ _ data _ => decide (data.length ≤ 65535)
  | .submitUnblock _ => true
  | .groupClose => true
  | .groupCommitDone => true
  | .workArrival f bad => f.ok && badOk bad
  | .waitingItemApply => true
  | .workAckReceive f bad => f.ok && badOk bad
  | .resendTimerExpire _ => true
  | .reachTimeout _ => true
  | .flowAbandon _ => true
  | .flowProbe _ => true
  | .outstateSweep => true
  | .commitIntervalWrite _ _ => true
  | .flowRecover => true
  | .recoveryResend => true
  | .reservoirPatrol off _ => decide (off < 4194304 ∧ off % 8 = 0)
  | .remoteReadRequest _ _ len => lenOk len
  | .rreadReceive f bad => f.ok && badOk bad
  | .rreadRspReceive f bad => f.ok && badOk bad
  | .rreadRetryExpire tag => decide (tag < 2 ^ 32)
  | .rreadReachTimeout tag => decide (tag < 2 ^ 32)
  | .journalWindowRead _ _ _ len => lenOk len
  | .frameAdmit _ _ bad => badOk bad
  | .ethFrameReceive _ bytes _ _ bad => decide (bytes.length ≤ 16384) && badOk bad
  | .pauseFrameReceive _ _ _ quanta => decide (quanta.length ≤ 8 ∧ ∀ x ∈ quanta, x < 65536)
  | .xoffRepeat _ => true
  | .ethLinkDown _ => true
  | .ethLinkUp _ _ => true
  | .mdioStart _ _ _ => true
  | .mdioDone _ _ => true
  | .hostWrite _ data _ => cmdLenOk data.length
  | .hostRead _ len _ => cmdLenOk len
  | .hostClaim _ _ => true
  | .hostReadOnce _ len _ => cmdLenOk len
  | .hostStatus _ => true
  | .hostBadOpcode => true
  | .hostAbort _ => true
  | .delayedReadComplete _ => true
  | .claimWindowExpire _ => true
  | .strandedPop _ _ => true
  | .pwfPop _ _ => true
  | .postedWriteDrain => true
  | .hostBackoff _ => true
  | .prefetchExpire => true
  | .signalUpdate _ _ _ payload _ => decide (payload.length ≤ 64)
  | .tunnelFrameArrive f bad => f.ok && badOk bad
  | .timeIncWrite _ _ => true
  | .timeSlewWrite _ _ => true
  | .slewEnd => true
  | .timeStepWrite _ _ => true
  | .timeSetWrite _ _ => true
  | .syncReceive _ f _ => f.ok
  | .ptpEventReceive _ bytes _ bad => decide (bytes.length ≤ 16384) && badOk bad
  | .ptpStampPop _ _ _ => true
  | .pinEdge _ _ _ => true
  | .edgePop _ _ _ => true
  | .timedActionFire _ => true
  | .timedPulseEnd _ => true
  | .actionFlush _ _ => true
  | .latePop _ _ => true
  | .triggerArm _ _ _ => true
  | .triggerFire _ => true
  | .votedOutput _ c0 c1 c2 _ => c0.ok && c1.ok && c2.ok
  | .stepTimeout _ _ _ _ _ => true
  | .watchdogExpire => true
  | .watchdogKick _ => true
  | .domainSupplyTrip _ => true
  | .sideEffectReadKept => true
  | .checkpointStart => true
  | .checkpointCommand _ => true
  | .checkpointComplete => true
  | .standbyReady => true
  | .fhRelease _ => true
  | .failoverDeadline => true
  | .rearmProof => true
  | .proofWakeStart => true
  | .proofCommand _ => true
  | .proofWakeDone _ _ => true
  | .zoneBudgetExhaust => true
  | .jetGoto _ => true
  | .jetSet _ => true
  | .jetSend _ => true
  | .jetRecv _ => true
  | .jetLoad _ => true
  | .jetPost _ => true
  | .jetNset _ => true
  | .jetRep _ => true
  | .jetWaite _ => true
  | .jetMark _ => true
  | .jetPack _ => true
  | .jetSig _ => true
  | .jetFault _ => true
  | .jetTxWrite _ _ _ => true
  | .jetRxPop _ _ _ => true
  | .jetRun _ _ => true
  | .jetStop _ _ => true
  | .jetStep _ _ => true
  | .jetClear _ _ => true
  | .jetPcWrite _ _ _ => true
  | .jetDWrite _ _ _ => true
  | .jetProgWrite _ _ _ _ => true
  | .jetGroupGo _ _ => true
  | .jetGroupAct _ => true
  | .pinOwnerWrite _ _ _ => true
  | .pinLevelWrite _ _ _ => true
  | .pinInBindWrite _ _ _ => true
  | .pinOutBindWrite _ _ _ => true
  | .pinFilterExpire _ => true
  | .pinCountWrite _ => true
  | .vioBankGoodChange _ mv => decide (mv ≤ 6000)
  | .cisternPush _ _ data => decide (data.length ≤ 65536)
  | .cisternPushClose _ _ _ data => decide (data.length ≤ 65536)
  | .cisternClose _ _ _ => true
  | .cisternAbort _ _ => true
  | .cisternPop _ _ len _ _ => decide (0 < len ∧ len ≤ 65536)
  | .cisternPushResume _ => true
  | .cisternTunnelTake _ _ _ => true
  | .cisternFlush _ _ => true
  | .cisternAbortCmd _ _ => true
  | .cstTlogPop _ _ => true
  | .canFrameReceive _ f _ _ => f.ok
  | .canTxreq _ _ _ => true
  | .canCancel _ _ _ => true
  | .canCommitData _ _ _ => true
  | .canRecover _ _ => true
  | .canPeriodExpire _ _ => true
  | .canTxCommit _ => true
  | .canTxDone _ _ _ => true
  | .canRecoveryDone _ => true
  | .canWindowOpen _ _ _ => true
  | .canTxenExpire _ => true
  | .canTtApply _ => true
  | .canModeInitWrite _ _ => true
  | .usbWrite _ _ data => cmdLenOk data.length
  | .usbWriteAck => true
  | .usbRead _ _ len => cmdLenOk len
  | .usbReadOnce _ _ len => cmdLenOk len
  | .usbBadCommand _ => true
  | .usbResponseIn _ => true
  | .usbNoticeIn => true
  | .usbIsoMicroframe _ bus => bus.all busOk
  | .usbControlRequest _ => true
  | .usbBusReset _ => true
  | .usbDisconnect => true
  | .usbSuspend => true
  | .usbResume => true
  | .usbRemoteWake => true
  | .usbWakeDriveEnd => true
  | .usbOvercurrent _ => true
  | .usbLocalWrite _ _ => true
  | .hidReportReceive _ _ data => decide (data.length ≤ 64)
  | .feedOn _ _ => true
  | .feedOff _ _ => true
  | .feedRestart _ _ => true
  | .feedClear _ _ => true
  | .feedKillCmd _ => true
  | .feedClearKill _ => true
  | .feedSample _ _ vin vout vgs _ _ => decide (vin ≤ 100000 ∧ vout ≤ 100000 ∧ vgs ≤ 100000)
  | .feedFastTrip _ => true
  | .feedOverloadStep _ => true
  | .feedRampTimeout _ => true
  | .feedPgChange _ => true
  | .feedRetryEnd _ => true
  | .feedRailOk _ => true
  | .feedTripCountReset _ => true
  | .feedDamageDetect _ => true
  | .feedMeasUpdate _ => true
  | .domainVoteWrite _ _ _ => true
  | .domainEntryBegin _ => true
  | .domainTransitionDone _ => true
  | .cmpRawChange _ x => decide (x ≤ 1024)
  | .cmpFilterExpire _ => true
  | .powerOnReset => true
  | .rstNAssert => true
  | .cfgResetSystem _ => true
  | .cfgResetControl _ => true
  | .bootSequenceStart _ => true
  | .bootDomainsReady size _ => decide (size ≤ 1024)
  | .bootLoadDone img _ _ => decide (img.length ≤ 33554432)
  | .runnelOfferReceive _ f => f.ok
  | .runnelAnswerReceive _ f => f.ok
  | .runnelChunkReceive _ f => f.ok
  | .runnelHaveReceive _ f => f.ok
  | .runnelChunkResend _ => true
  | .updateBuildDone => true
  | .updInject _ _ => true
  | .updStage _ => true
  | .stagingDone => true
  | .fhHandover _ => true
  | .handoverAtBoundary => true
  | .updCommit _ => true
  | .handoverApplied => true
  | .handoverDeadline => true
  | .updConfirm _ => true
  | .updRevert _ => true
  | .updDiscard _ => true
  | .updReapply _ => true
  | .secEnrol _ => true
  | .secKeyload _ => true
  | .secRevoke _ => true
  | .secNodecert _ => true
  | .secSvnRaise _ => true
  | .secZeroise _ => true
  | .secTransfer _ => true
  | .sessionOpen _ => true
  | .sessionVerify _ => true
  | .sessionClose _ => true
  | .sessionExpire => true
  | .kaInitReceive _ f => f.ok
  | .kaRespReceive _ f => f.ok
  | .kaConfirmReceive _ f => f.ok
  | .kaTxSwitch _ => true
  | .kaOldAnClear _ => true
  | .kaTimeout _ => true
  | .rekeyPeriodic _ => true
  | .noiseHealthFail => true
  | .tamperDetect => true
  | .debugUnlock nonce token => decide (nonce.length ≤ 64 ∧ token.length ≤ 96)
  | .eventOccurrence _ _ _ => true
  | .eventClear _ _ _ => true
  | .softwareEvent _ _ => true
  | .reactionReset => true
  | .logWindowEnd => true
  | .alarmReceive f bad => f.ok && badOk bad
  | .snapTake _ => true
  | .snapRelease _ => true
  | .snapTreq => true
  | .snapMark => true
  | .snapCopyDone => true
  | .scrubPass _ _ => true
  | .calibrationVisit _ => true
  | .telemetryRead _ _ _ _ _ _ => true
  | .mgmtSend => true
  | .vaonLoss => true
  | .jtagReset => true
  | .creditSetSend _ => true
  | .ethEgressSend _ _ bad => badOk bad
  | .fieldPinLevelChange _ _ _ => true
  | .usbPortConnect _ _ _ _ => true
  | .imageBuildComplete => true

end Sys2Proof
end

