-- ==== Sys2Proof/Decode.lean ====
section
/-! DEFINITION. The command that a word of the opcode table spells. The table gives none of its rows bits: commands come as register
accesses, frames, events and edges, with operands of their own, so no word spells one. -/

namespace Sys2Proof

/-- The command spelled by the low `nbits` bits of `w` (none of the table's rows has bits). -/
def decodeTableWord (_nbits _w : Nat) : Option Instr := none

end Sys2Proof
end

