-- ==== Sys2Proof/Machine/Crc.lean ====
section
/-! DEFINITION. The check codes: the CRC-16 of a Pelum header (R97) and the CRC-32C of tiles, trailers and journal lines (R81, R97), and
the Ethernet FCS. -/

namespace Sys2Proof.Machine

/-- One bit of the header CRC: polynomial 0x1021, most significant bit first (R97). -/
def crc16Bit (c : Nat) : Nat := if c.testBit 15 then (c * 2) % 65536 ^^^ 0x1021 else (c * 2) % 65536

/-- One byte of the header CRC. -/
def crc16Byte (c : Nat) (b : Byte) : Nat :=
  let c := c ^^^ (b.toNat * 256)
  crc16Bit (crc16Bit (crc16Bit (crc16Bit (crc16Bit (crc16Bit (crc16Bit (crc16Bit c)))))))

/-- The CRC-16 of R97: initial value 0xFFFF, no reflection, no final XOR. -/
def crc16 (l : List Byte) : Nat := l.foldl crc16Byte 0xFFFF

/-- One bit of the CRC-32C in its reflected form. -/
def crc32cBit (c : Nat) : Nat := if c.testBit 0 then c / 2 ^^^ 0x82F63B78 else c / 2

/-- One byte of the CRC-32C. -/
def crc32cByte (c : Nat) (b : Byte) : Nat :=
  let c := c ^^^ b.toNat
  crc32cBit (crc32cBit (crc32cBit (crc32cBit (crc32cBit (crc32cBit (crc32cBit (crc32cBit c)))))))

/-- The CRC-32C of R81. -/
def crc32c (l : List Byte) : Nat := l.foldl crc32cByte 0xFFFFFFFF ^^^ 0xFFFFFFFF

/-- One bit, and one byte, of the Ethernet FCS: CRC-32 in its reflected form. PRESUMED: IEEE 802.3. -/
def fcsBit (c : Nat) : Nat := if c.testBit 0 then c / 2 ^^^ 0xEDB88320 else c / 2
def fcsByte (c : Nat) (b : Byte) : Nat :=
  let c := c ^^^ b.toNat
  fcsBit (fcsBit (fcsBit (fcsBit (fcsBit (fcsBit (fcsBit (fcsBit c)))))))

/-- The FCS of a frame, as its four bytes stand on the wire. -/
def ethFcs (l : List Byte) : List Byte :=
  let c := l.foldl fcsByte 0xFFFFFFFF ^^^ 0xFFFFFFFF
  [BitVec.ofNat 8 c, BitVec.ofNat 8 (c / 2 ^ 8), BitVec.ofNat 8 (c / 2 ^ 16), BitVec.ofNat 8 (c / 2 ^ 24)]

end Sys2Proof.Machine
end

