-- ==== Sys2Proof/Config.lean ====
section
/-! DEFINITION. What an implementation of the S884 fixes and the manual leaves open: identity, fuses, cryptography, and the free
values. Nothing here has a body that a proof could lean on. -/

namespace Sys2Proof

/-- A value the manual leaves open, by the number of such values drawn before it. -/
opaque Config.freeValue : Nat → BitVec 64

/-- DEV_UID: the 64-bit number fixed at manufacture, unique to each S884 (R46). -/
opaque Config.uid : BitVec 64

/-- Whether the part is an S884-IX (R4, R46). -/
opaque Config.isIX : Bool

/-- DEV_ID of revision B1 (R6, R46). -/
def Config.devId : Nat := if Config.isIX then 0x08842120 else 0x08842110

/-- The life cycle state that the fuses hold when the part powers on: 0 FACTORY, 1 UNOWNED, 2 OWNED (R462). -/
opaque Config.fuseLife : Nat

/-- The owner root public key that the key store holds when the part powers on (R463). -/
opaque Config.ownerRoot : List Byte

/-- The minimum SVN that the key store holds when the part powers on (R474). -/
opaque Config.svnMin : BitVec 32

/-- Words of the device identity key's public half (R463). -/
opaque Config.dik : Nat → BitVec 32

/-- Words of Yunaper's signature over it (R463). -/
opaque Config.dikSig : Nat → BitVec 32

/-- ECDSA on P-384 with SHA-384 (R460): whether a signature over a message verifies under a public key. -/
opaque Config.ecdsa : List Byte → List Byte → List Byte → Bool

/-- A signature of the device identity key over a message (R470). -/
opaque Config.dikSign : List Byte → List Byte

/-- The ephemeral P-384 public key of a number (R470). -/
opaque Config.ephPub : Nat → List Byte

/-- The 64 bytes that the KDF gives, from this side's ephemeral key (its number), the peer's, and the bytes named by R470. -/
opaque Config.kdf : Nat → List Byte → List Byte → List Byte

/-- The AES key of a key record: unwrapped from WRAP under the key derived from ECDH(EPH, DIK); none when its tag fails (R465). -/
opaque Config.unwrap : List Byte → List Byte → Option (List Byte)

/-- AES-256-GCM (R460): the plaintext of a message under a key, an IV and additional data; none when its tag fails. -/
opaque Config.gcmOpen : List Byte → List Byte → List Byte → List Byte → List Byte → Option (List Byte)

/-- The key stream of AES-256-GCM applied to bytes, under a key and an IV (R111): it encrypts and decrypts. -/
opaque Config.gcmCtr : List Byte → List Byte → List Byte → List Byte

/-- The tag of AES-256-GCM over additional data and an encrypted message, under a key and an IV (R111). -/
opaque Config.gcmTag : List Byte → List Byte → List Byte → List Byte → List Byte

/-- What a write of a word at an offset of the TST block injects in factory test (R494), if it injects anything: the manual does not lay
the block out. -/
opaque Config.tst : Nat → BitVec 32 → Option Inject

/-- The temperature in 0.1 °C that the B equation gives for an NTC of a resistance in Ω, by R25 in 10 Ω units and B in K (R393). -/
opaque Config.ntcTemp : Nat → Nat → Nat → Int

/-- The object that the configuration image binds a WINDOW point to, by IMAGE_ID and point: its window, object address, size in
bytes and refresh period in µs (R80). The manual gives the image no section that holds it. -/
opaque Config.winBind : BitVec 32 → Nat → Nat × Nat × Nat × Nat

end Sys2Proof
end

