-- ==== Sys2Proof/Machine/SMap.lean ====
section
/-! DEFINITION. Sparse tables as plain data: a list of keys strictly rising, no entry equal to what an unlisted key reads as. -/

namespace Sys2Proof.Machine

/-- A sparse table from numbers to `α`; what an unlisted key reads as is an argument of every operation on it. -/
abbrev SMap (α : Type) := List (Nat × α)

variable {α : Type} [DecidableEq α]

/-- The value at a key: that of its entry; `d` gives what an unlisted key reads as. -/
def SMap.get (d : Nat → α) : SMap α → Nat → α
  | [], k => d k
  | (j, v) :: r, k => if j = k then v else SMap.get d r k

/-- The table with an entry put in before the first larger key. -/
def SMap.insert (k : Nat) (v : α) : SMap α → SMap α
  | [] => [(k, v)]
  | (j, u) :: r => if k < j then (k, v) :: (j, u) :: r else (j, u) :: SMap.insert k v r

/-- The table without the entry of a key. -/
def SMap.erase (k : Nat) (m : SMap α) : SMap α := m.filter (fun e => e.1 != k)

/-- The table with the value at a key replaced, kept in its canonical form: no entry when the value is what an unlisted key reads as. -/
def SMap.set (d : Nat → α) (m : SMap α) (k : Nat) (v : α) : SMap α :=
  if v = d k then SMap.erase k m else SMap.insert k v (SMap.erase k m)

/-- Every key of the table is above `lo`, keys rise strictly, and no entry equals the unlisted value. -/
def SMap.wfFrom (d : Nat → α) : Nat → SMap α → Bool
  | _, [] => true
  | lo, (j, v) :: r => decide (lo ≤ j) && decide (v ≠ d j) && SMap.wfFrom d (j + 1) r

/-- The canonical form of a table. -/
def SMap.wf (d : Nat → α) (m : SMap α) : Bool := SMap.wfFrom d 0 m

/-- The table with every key that `p` selects returned to its unlisted value. -/
def SMap.drop (p : Nat → Bool) (m : SMap α) : SMap α := m.filter (fun e => !p e.1)

end Sys2Proof.Machine
end

