-- ==== Sys2Proof/Machine/Regs.lean ====
section
/-! DEFINITION. The register map of space 0x01 (R26): every register of the manual's register summaries, with the access
code, the guard and the reset value of each field, and a name for each offset and each field. Bits that no field names are
reserved (R28). An indexed register (one that a selector points into a table) keeps entry `i` of its table under the key
`off + (i + 1) * 2 ^ 22`; a selector that keeps one value per master ID keeps it under the key of that master ID. -/

namespace Sys2Proof.Machine

/-- Access codes of register fields: read only, read and write, write only, write 1 to clear, masked write (R31),
error or event counter (R43), and a maximum that only a write of 0 clears. -/
inductive Acc where
  | ro | rw | wo | w1c | mw | cnt | clr0
deriving DecidableEq, Repr

/-- Guards of register fields (R34). -/
inductive Guard where
  | any | priv | secure
deriving DecidableEq, Repr

/-- One field of a register: highest and lowest bit, access code, guard and reset value. -/
structure FieldDef where
  hi : Nat
  lo : Nat
  acc : Acc
  guard : Guard
  reset : Nat
deriving DecidableEq, Repr

/-- A register or a regular family of registers: base offset, the strides and counts of its instances, its fields, and
for an error counter the offset of the SAT register of instance 0 and the SAT bit. -/
structure RegRow where
  base : Nat
  dims : List (Nat × Nat)
  fields : List FieldDef
  sat : Option (Nat × Nat)
deriving DecidableEq, Repr

/-- A field as a place: register key, lowest bit and width. -/
structure FRef where
  off : Nat
  lsb : Nat
  width : Nat
deriving DecidableEq, Repr

/-- The key of entry `i` of an indexed register. -/
def bankKey (off i : Nat) : Nat := off + (i + 1) * 2 ^ 22

/-- The same field in entry `i` of an indexed register. -/
def FRef.at (f : FRef) (i : Nat) : FRef := { f with off := bankKey f.off i }

/-- Whether the distance `d` from a row's base lands on one of its instances. -/
def dimsHas : List (Nat × Nat) → Nat → Bool
  | [], d => d == 0
  | (s, n) :: r, d => decide (d / s < n) && dimsHas r (d % s)

/-- Whether the row defines the offset. -/
def RegRow.has (r : RegRow) (off : Nat) : Bool := decide (r.base ≤ off) && dimsHas r.dims (off - r.base)

/-- Registers at offsets 0x00_0000 to 0x00_FFFF: DEV. -/
def regs00 : List RegRow :=
  [
  ⟨0x000000, [], [⟨31, 16, .ro, .any, 0x884⟩, ⟨15, 12, .ro, .any, 2⟩, ⟨11, 8, .ro, .any, 1⟩, ⟨7, 4, .ro, .any, 1⟩], none⟩,
  ⟨0x000004, [], [⟨31, 0, .ro, .any, 0⟩], none⟩,
  ⟨0x000008, [], [⟨31, 0, .ro, .any, 0⟩], none⟩,
  ⟨0x00000C, [], [⟨18, 18, .ro, .any, 0⟩, ⟨17, 17, .ro, .any, 0⟩, ⟨16, 16, .ro, .any, 0⟩, ⟨15, 0, .ro, .any, 0⟩], none⟩,
  ⟨0x000010, [], [⟨24, 24, .ro, .any, 0⟩, ⟨23, 6, .rw, .priv, 0⟩, ⟨5, 5, .ro, .any, 0⟩, ⟨4, 0, .rw, .priv, 0⟩], none⟩,
  ⟨0x000014, [], [⟨31, 0, .rw, .any, 0⟩], none⟩]

/-- Registers at offsets 0x01_0000 to 0x01_FFFF: PWR. -/
def regs01 : List RegRow :=
  [
  ⟨0x010000, [], [⟨31, 0, .ro, .any, 2⟩], none⟩,
  ⟨0x010004, [], [⟨23, 0, .w1c, .any, 0⟩], none⟩,
  ⟨0x010008, [], [⟨31, 31, .w1c, .any, 0⟩, ⟨30, 28, .ro, .any, 0⟩, ⟨20, 16, .ro, .any, 0⟩, ⟨15, 0, .ro, .any, 0⟩], none⟩,
  ⟨0x01000C, [], [⟨31, 0, .ro, .any, 0⟩], none⟩,
  ⟨0x010010, [], [⟨2, 0, .w1c, .any, 0⟩], none⟩,
  ⟨0x010040, [], [⟨31, 0, .cnt, .any, 0⟩], some (0x10010, 0)⟩,
  ⟨0x010044, [], [⟨31, 0, .cnt, .any, 0⟩], some (0x10010, 1)⟩,
  ⟨0x010048, [], [⟨31, 0, .cnt, .any, 0⟩], some (0x10010, 2)⟩,
  ⟨0x010100, [(0x10, 16)], [⟨31, 16, .mw, .priv, 0⟩, ⟨15, 8, .mw, .priv, 0⟩, ⟨5, 5, .ro, .any, 0⟩, ⟨4, 4, .mw, .priv, 0⟩, ⟨3, 3, .ro, .any, 0⟩, ⟨2, 2, .mw, .priv, 0⟩, ⟨1, 1, .mw, .priv, 0⟩, ⟨0, 0, .mw, .priv, 0⟩], none⟩,
  ⟨0x010104, [(0x10, 16)], [⟨0, 0, .rw, .priv, 1⟩], none⟩,
  ⟨0x010108, [(0x10, 16)], [⟨15, 0, .rw, .priv, 0⟩], none⟩,
  ⟨0x01010C, [(0x10, 16)], [⟨31, 16, .ro, .any, 0⟩, ⟨10, 8, .ro, .any, 0⟩, ⟨6, 4, .ro, .any, 0⟩, ⟨2, 0, .ro, .any, 0⟩], none⟩,
  ⟨0x010800, [], [⟨23, 16, .rw, .priv, 0x5a⟩, ⟨15, 8, .rw, .priv, 0x50⟩, ⟨0, 0, .rw, .priv, 1⟩], none⟩,
  ⟨0x010804, [], [⟨25, 16, .rw, .priv, 0x384⟩, ⟨9, 0, .rw, .priv, 0x2bc⟩], none⟩,
  ⟨0x010808, [], [⟨31, 31, .w1c, .any, 0⟩, ⟨24, 24, .ro, .any, 0⟩, ⟨23, 16, .ro, .any, 0xff⟩, ⟨9, 0, .ro, .any, 0x2bc⟩], none⟩,
  ⟨0x01080C, [], [⟨31, 16, .ro, .any, 0⟩, ⟨15, 0, .ro, .any, 0⟩], none⟩,
  ⟨0x010810, [], [⟨31, 0, .cnt, .any, 0⟩], some (0x10808, 31)⟩,
  ⟨0x010814, [], [⟨31, 0, .cnt, .any, 0⟩], some (0x10808, 31)⟩]

/-- Registers at offsets 0x02_0000 to 0x02_FFFF: EVT, SUMP. -/
def regs02 : List RegRow :=
  [
  ⟨0x020000, [], [⟨31, 28, .rw, .priv, 8⟩, ⟨27, 20, .rw, .priv, 0x3c⟩, ⟨17, 16, .rw, .priv, 3⟩, ⟨11, 10, .rw, .priv, 0⟩, ⟨9, 8, .rw, .priv, 0⟩, ⟨7, 0, .rw, .priv, 0xa⟩], none⟩,
  ⟨0x020004, [], [⟨31, 31, .ro, .any, 0⟩, ⟨30, 30, .ro, .any, 0⟩, ⟨23, 16, .ro, .any, 0⟩, ⟨15, 8, .ro, .any, 0⟩, ⟨7, 0, .ro, .any, 0⟩], none⟩,
  ⟨0x020008, [], [⟨15, 0, .rw, .priv, 0x40⟩], none⟩,
  ⟨0x02000C, [], [⟨31, 31, .rw, .priv, 0⟩, ⟨23, 16, .rw, .priv, 4⟩, ⟨15, 0, .rw, .priv, 0xffff⟩], none⟩,
  ⟨0x020010, [], [⟨31, 31, .ro, .any, 0⟩, ⟨18, 16, .ro, .any, 0⟩, ⟨8, 0, .ro, .any, 0⟩], none⟩,
  ⟨0x020014, [], [⟨10, 8, .wo, .priv, 0⟩, ⟨5, 0, .wo, .priv, 0⟩], none⟩,
  ⟨0x020018, [], [⟨31, 31, .ro, .any, 0⟩, ⟨15, 0, .ro, .any, 0⟩], none⟩,
  ⟨0x02001C, [], [⟨4, 0, .w1c, .any, 0⟩], none⟩,
  ⟨0x020020, [], [⟨31, 31, .w1c, .any, 0⟩, ⟨30, 26, .ro, .any, 0⟩, ⟨25, 24, .ro, .any, 0⟩, ⟨23, 23, .ro, .any, 0⟩, ⟨15, 0, .ro, .any, 0⟩], none⟩,
  ⟨0x020024, [], [⟨31, 0, .ro, .any, 0⟩], none⟩,
  ⟨0x020028, [], [⟨31, 0, .ro, .any, 0⟩], none⟩,
  ⟨0x02002C, [], [⟨31, 0, .ro, .any, 0⟩], none⟩,
  ⟨0x020030, [], [⟨15, 0, .ro, .any, 0⟩], none⟩,
  ⟨0x020040, [], [⟨31, 0, .cnt, .any, 0⟩], some (0x2001c, 0)⟩,
  ⟨0x020044, [], [⟨31, 0, .cnt, .any, 0⟩], some (0x2001c, 1)⟩,
  ⟨0x020048, [], [⟨31, 0, .cnt, .any, 0⟩], some (0x2001c, 2)⟩,
  ⟨0x02004C, [], [⟨31, 0, .cnt, .any, 0⟩], some (0x2001c, 3)⟩,
  ⟨0x020050, [], [⟨31, 0, .cnt, .any, 0⟩], some (0x2001c, 4)⟩,
  ⟨0x020100, [(0x4, 16)], [⟨31, 0, .w1c, .any, 0⟩], none⟩,
  ⟨0x021000, [(0x4, 512)], [⟨26, 24, .rw, .priv, 0⟩, ⟨7, 7, .rw, .priv, 0⟩, ⟨4, 4, .rw, .priv, 0⟩, ⟨3, 3, .rw, .priv, 0⟩, ⟨2, 2, .rw, .priv, 1⟩, ⟨1, 1, .rw, .priv, 1⟩], none⟩]

/-- Registers at offsets 0x03_0000 to 0x03_FFFF: SNAP. -/
def regs03 : List RegRow :=
  [
  ⟨0x030000, [], [⟨31, 31, .rw, .priv, 0⟩, ⟨30, 30, .rw, .priv, 0⟩, ⟨29, 29, .rw, .priv, 0⟩, ⟨28, 28, .rw, .priv, 0⟩, ⟨27, 24, .rw, .priv, 0⟩, ⟨22, 20, .rw, .priv, 0⟩, ⟨7, 0, .rw, .priv, 8⟩], none⟩,
  ⟨0x030004, [], [⟨31, 30, .ro, .any, 0⟩, ⟨29, 27, .ro, .any, 0⟩, ⟨15, 0, .ro, .any, 0⟩], none⟩,
  ⟨0x030008, [], [⟨1, 0, .wo, .priv, 0⟩], none⟩,
  ⟨0x03000C, [], [⟨9, 8, .rw, .priv, 1⟩, ⟨7, 0, .rw, .priv, 0⟩], none⟩,
  ⟨0x030010, [], [⟨2, 0, .w1c, .any, 0⟩], none⟩,
  ⟨0x030040, [], [⟨31, 0, .cnt, .any, 0⟩], some (0x30010, 0)⟩,
  ⟨0x030044, [], [⟨31, 0, .cnt, .any, 0⟩], some (0x30010, 1)⟩,
  ⟨0x030048, [], [⟨31, 0, .cnt, .any, 0⟩], some (0x30010, 2)⟩,
  ⟨0x030100, [(0x4, 16)], [⟨31, 31, .rw, .priv, 0⟩, ⟨26, 16, .rw, .priv, 0⟩, ⟨13, 0, .rw, .priv, 0⟩], none⟩]

/-- Registers at offsets 0x04_0000 to 0x04_FFFF: TIME. -/
def regs04 : List RegRow :=
  [
  ⟨0x040000, [], [⟨15, 8, .rw, .priv, 0x32⟩, ⟨4, 4, .rw, .priv, 0⟩, ⟨1, 1, .rw, .priv, 1⟩, ⟨0, 0, .rw, .priv, 1⟩], none⟩,
  ⟨0x040004, [], [⟨31, 24, .ro, .any, 0⟩, ⟨11, 8, .w1c, .any, 0⟩, ⟨4, 4, .w1c, .any, 0⟩], none⟩,
  ⟨0x040008, [], [⟨2, 2, .rw, .priv, 0⟩, ⟨1, 0, .rw, .priv, 0⟩], none⟩,
  ⟨0x04000C, [], [⟨3, 0, .w1c, .any, 0⟩], none⟩,
  ⟨0x040010, [], [⟨31, 0, .ro, .any, 0⟩], none⟩,
  ⟨0x040014, [], [⟨31, 0, .ro, .any, 0⟩], none⟩,
  ⟨0x040018, [], [⟨31, 0, .ro, .any, 0⟩], none⟩,
  ⟨0x04001C, [], [⟨15, 0, .ro, .any, 0⟩], none⟩,
  ⟨0x040020, [], [⟨31, 0, .ro, .any, 0⟩], none⟩,
  ⟨0x040024, [], [⟨31, 0, .ro, .any, 0⟩], none⟩,
  ⟨0x040028, [], [⟨31, 0, .rw, .priv, 0⟩], none⟩,
  ⟨0x04002C, [], [⟨15, 0, .rw, .priv, 0⟩], none⟩,
  ⟨0x040030, [], [⟨31, 0, .rw, .priv, 0⟩], none⟩,
  ⟨0x040034, [], [⟨7, 0, .rw, .priv, 4⟩], none⟩,
  ⟨0x040038, [], [⟨31, 0, .rw, .priv, 0⟩], none⟩,
  ⟨0x04003C, [], [⟨31, 0, .rw, .priv, 0⟩], none⟩,
  ⟨0x040040, [], [⟨31, 0, .wo, .priv, 0⟩], none⟩,
  ⟨0x040044, [], [⟨31, 0, .wo, .priv, 0⟩], none⟩,
  ⟨0x040048, [], [⟨31, 0, .wo, .priv, 0⟩], none⟩,
  ⟨0x04004C, [], [⟨15, 0, .wo, .priv, 0⟩], none⟩,
  ⟨0x040060, [], [⟨31, 0, .cnt, .any, 0⟩], some (0x4000c, 0)⟩,
  ⟨0x040064, [], [⟨31, 0, .cnt, .any, 0⟩], some (0x4000c, 1)⟩,
  ⟨0x040068, [], [⟨31, 0, .cnt, .any, 0⟩], some (0x4000c, 2)⟩,
  ⟨0x04006C, [], [⟨31, 0, .cnt, .any, 0⟩], some (0x4000c, 3)⟩] ++ [
  ⟨0x040070, [], [⟨12, 0, .ro, .any, 0⟩], none⟩,
  ⟨0x040074, [], [⟨8, 8, .wo, .priv, 0⟩, ⟨7, 0, .wo, .priv, 0⟩], none⟩,
  ⟨0x040100, [(0x10, 4)], [⟨31, 0, .ro, .any, 0⟩], none⟩,
  ⟨0x040104, [(0x10, 4)], [⟨31, 0, .ro, .any, 0⟩], none⟩,
  ⟨0x040108, [(0x10, 4)], [⟨31, 31, .ro, .any, 0⟩, ⟨30, 29, .ro, .any, 0⟩, ⟨27, 16, .ro, .any, 0⟩, ⟨15, 8, .ro, .any, 0⟩, ⟨7, 0, .ro, .any, 0⟩], none⟩,
  ⟨0x040180, [(0x4, 4)], [⟨15, 0, .rw, .priv, 0⟩], none⟩,
  ⟨0x0401A0, [], [⟨31, 0, .ro, .any, 0⟩], none⟩,
  ⟨0x0401A4, [], [⟨31, 0, .ro, .any, 0⟩], none⟩,
  ⟨0x0401A8, [], [⟨31, 0, .ro, .any, 0⟩], none⟩,
  ⟨0x0401AC, [], [⟨31, 0, .ro, .any, 0⟩], none⟩,
  ⟨0x040200, [(0x10, 8)], [⟨31, 0, .ro, .any, 0⟩], none⟩,
  ⟨0x040204, [(0x10, 8)], [⟨31, 31, .ro, .any, 0⟩, ⟨30, 30, .ro, .any, 0⟩, ⟨29, 29, .ro, .any, 0⟩, ⟨28, 28, .ro, .any, 0⟩, ⟨27, 24, .ro, .any, 0⟩, ⟨23, 16, .ro, .any, 0⟩, ⟨15, 0, .ro, .any, 0⟩], none⟩,
  ⟨0x040208, [(0x10, 8)], [⟨3, 0, .wo, .any, 0⟩], none⟩,
  ⟨0x04020C, [(0x10, 8)], [⟨31, 31, .rw, .priv, 0⟩, ⟨27, 19, .ro, .any, 0⟩, ⟨17, 0, .rw, .priv, 0⟩], none⟩,
  ⟨0x040280, [(0x4, 32)], [⟨31, 16, .mw, .priv, 0⟩, ⟨15, 0, .mw, .priv, 0⟩], none⟩,
  ⟨0x040300, [(0x8, 8)], [⟨31, 0, .rw, .priv, 0⟩], none⟩,
  ⟨0x040304, [(0x8, 8)], [⟨31, 31, .rw, .priv, 0⟩, ⟨30, 30, .w1c, .any, 0⟩, ⟨29, 29, .w1c, .any, 0⟩, ⟨15, 0, .rw, .priv, 0⟩], none⟩,
  ⟨0x040380, [], [⟨31, 31, .ro, .any, 0⟩, ⟨30, 24, .ro, .any, 0⟩, ⟨19, 16, .ro, .any, 0⟩, ⟨15, 8, .ro, .any, 0⟩, ⟨7, 0, .ro, .any, 0⟩], none⟩,
  ⟨0x040384, [], [⟨31, 0, .ro, .any, 0⟩], none⟩,
  ⟨0x040388, [], [⟨15, 0, .ro, .any, 0⟩], none⟩,
  ⟨0x04038C, [], [⟨31, 0, .ro, .any, 0⟩], none⟩,
  ⟨0x040390, [], [⟨25, 18, .ro, .any, 0⟩, ⟨17, 0, .ro, .any, 0⟩], none⟩,
  ⟨0x040394, [], [⟨6, 0, .wo, .any, 0⟩], none⟩,
  ⟨0x040400, [(0x40, 4)], [⟨31, 31, .rw, .priv, 0⟩, ⟨30, 30, .rw, .priv, 1⟩, ⟨29, 29, .rw, .priv, 0⟩, ⟨28, 28, .rw, .priv, 0⟩, ⟨27, 26, .rw, .priv, 0⟩], none⟩] ++ [
  ⟨0x040404, [(0x40, 4)], [⟨31, 0, .rw, .priv, 0⟩], none⟩,
  ⟨0x040408, [(0x40, 4)], [⟨31, 31, .ro, .any, 0⟩, ⟨27, 24, .ro, .any, 0⟩, ⟨17, 16, .ro, .any, 0⟩, ⟨15, 0, .ro, .any, 0⟩], none⟩,
  ⟨0x04040C, [(0x40, 4)], [⟨31, 0, .ro, .any, 0⟩], none⟩,
  ⟨0x040410, [(0x40, 4)], [⟨31, 0, .ro, .any, 0⟩], none⟩,
  ⟨0x040414, [(0x40, 4)], [⟨15, 0, .wo, .any, 0⟩], none⟩]

/-- Registers at offsets 0x05_0000 to 0x05_FFFF: SEC. -/
def regs05 : List RegRow :=
  [
  ⟨0x050000, [], [⟨31, 31, .rw, .priv, 1⟩, ⟨23, 16, .rw, .priv, 0x18⟩, ⟨15, 0, .rw, .priv, 0xe10⟩], none⟩,
  ⟨0x050004, [], [⟨31, 31, .ro, .any, 0⟩, ⟨30, 30, .w1c, .any, 0⟩, ⟨29, 28, .ro, .any, 0⟩, ⟨27, 27, .ro, .any, 0⟩, ⟨26, 26, .ro, .any, 0⟩, ⟨25, 21, .ro, .any, 0⟩, ⟨13, 8, .ro, .any, 0⟩, ⟨3, 0, .ro, .any, 0⟩], none⟩,
  ⟨0x050008, [], [⟨2, 0, .wo, .any, 0⟩], none⟩,
  ⟨0x05000C, [], [⟨3, 0, .ro, .any, 0⟩], none⟩,
  ⟨0x050010, [], [⟨31, 0, .ro, .any, 0⟩], none⟩,
  ⟨0x050014, [], [⟨1, 0, .wo, .any, 0⟩], none⟩,
  ⟨0x050018, [], [⟨31, 31, .ro, .any, 0⟩, ⟨15, 0, .ro, .any, 0⟩], none⟩,
  ⟨0x05001C, [], [⟨3, 0, .w1c, .any, 0⟩], none⟩,
  ⟨0x050040, [], [⟨31, 0, .cnt, .any, 0⟩], some (0x5001c, 0)⟩,
  ⟨0x050044, [], [⟨31, 0, .cnt, .any, 0⟩], some (0x5001c, 1)⟩,
  ⟨0x050048, [], [⟨31, 0, .cnt, .any, 0⟩], some (0x5001c, 2)⟩,
  ⟨0x05004C, [], [⟨31, 0, .cnt, .any, 0⟩], some (0x5001c, 3)⟩,
  ⟨0x050100, [(0x4, 12)], [⟨31, 0, .ro, .any, 0⟩], none⟩,
  ⟨0x050200, [(0x4, 24)], [⟨31, 0, .ro, .any, 0⟩], none⟩,
  ⟨0x050280, [(0x4, 24)], [⟨31, 0, .ro, .any, 0⟩], none⟩,
  ⟨0x050400, [(0x4, 128)], [⟨31, 0, .rw, .any, 0⟩], none⟩]

/-- Registers at offsets 0x06_0000 to 0x06_FFFF: CFG. -/
def regs06 : List RegRow :=
  [
  ⟨0x060000, [], [⟨31, 16, .ro, .any, 0⟩, ⟨13, 12, .ro, .any, 0⟩, ⟨9, 9, .ro, .any, 0⟩, ⟨8, 8, .ro, .any, 0⟩, ⟨2, 0, .ro, .any, 1⟩], none⟩,
  ⟨0x060004, [], [⟨31, 28, .ro, .any, 0⟩, ⟨27, 24, .ro, .any, 0⟩, ⟨21, 16, .ro, .any, 0⟩, ⟨15, 0, .ro, .any, 0⟩], none⟩,
  ⟨0x060008, [], [⟨31, 24, .wo, .priv, 0⟩, ⟨1, 0, .wo, .priv, 0⟩], none⟩,
  ⟨0x06000C, [], [⟨12, 8, .ro, .any, 0⟩, ⟨7, 4, .ro, .any, 0⟩, ⟨1, 0, .ro, .any, 0⟩], none⟩,
  ⟨0x060010, [], [⟨31, 0, .ro, .any, 0⟩], none⟩,
  ⟨0x060014, [], [⟨31, 0, .ro, .any, 0⟩], none⟩,
  ⟨0x060018, [], [⟨31, 24, .ro, .any, 0⟩, ⟨9, 8, .ro, .any, 0⟩, ⟨7, 0, .ro, .any, 0⟩], none⟩,
  ⟨0x06001C, [], [⟨15, 0, .ro, .any, 0⟩], none⟩,
  ⟨0x060020, [], [⟨1, 0, .w1c, .any, 0⟩], none⟩,
  ⟨0x060040, [], [⟨31, 0, .cnt, .any, 0⟩], some (0x60020, 0)⟩,
  ⟨0x060044, [], [⟨31, 0, .cnt, .any, 0⟩], some (0x60020, 1)⟩]

/-- Registers at offsets 0x07_0000 to 0x07_FFFF: UPD. -/
def regs07 : List RegRow :=
  [
  ⟨0x070000, [], [⟨8, 8, .rw, .priv, 0⟩, ⟨7, 4, .rw, .priv, 2⟩, ⟨0, 0, .rw, .priv, 1⟩], none⟩,
  ⟨0x070004, [], [⟨29, 29, .ro, .any, 0⟩, ⟨28, 28, .ro, .any, 0⟩, ⟨27, 27, .ro, .any, 0⟩, ⟨23, 20, .ro, .any, 0⟩, ⟨15, 12, .ro, .any, 0⟩, ⟨3, 0, .ro, .any, 0⟩], none⟩,
  ⟨0x070008, [], [⟨2, 0, .wo, .priv, 0⟩], none⟩,
  ⟨0x07000C, [], [⟨31, 0, .ro, .any, 0⟩], none⟩,
  ⟨0x070010, [], [⟨31, 0, .ro, .any, 0⟩], none⟩,
  ⟨0x070014, [], [⟨30, 16, .ro, .any, 0⟩, ⟨14, 0, .ro, .any, 0⟩], none⟩,
  ⟨0x070018, [], [⟨23, 16, .rw, .priv, 8⟩, ⟨15, 0, .rw, .priv, 0x3e8⟩], none⟩,
  ⟨0x07001C, [], [⟨15, 0, .ro, .any, 0⟩], none⟩,
  ⟨0x070020, [], [⟨31, 31, .ro, .any, 0⟩, ⟨28, 14, .rw, .priv, 0⟩, ⟨13, 0, .rw, .priv, 0⟩], none⟩,
  ⟨0x070024, [], [⟨4, 0, .w1c, .any, 0⟩], none⟩,
  ⟨0x070040, [], [⟨31, 0, .cnt, .any, 0⟩], some (0x70024, 0)⟩,
  ⟨0x070044, [], [⟨31, 0, .cnt, .any, 0⟩], some (0x70024, 1)⟩,
  ⟨0x070048, [], [⟨31, 0, .cnt, .any, 0⟩], some (0x70024, 2)⟩,
  ⟨0x07004C, [], [⟨31, 0, .cnt, .any, 0⟩], some (0x70024, 3)⟩,
  ⟨0x070050, [], [⟨31, 0, .cnt, .any, 0⟩], some (0x70024, 4)⟩,
  ⟨0x074000, [(0x4, 2064)], [⟨31, 0, .rw, .priv, 0⟩], none⟩]

/-- Registers at offsets 0x08_0000 to 0x08_FFFF: RING. -/
def regs08 : List RegRow :=
  [
  ⟨0x080000, [], [⟨11, 8, .rw, .priv, 3⟩, ⟨1, 1, .rw, .priv, 0⟩, ⟨0, 0, .rw, .priv, 0⟩], none⟩,
  ⟨0x080004, [], [⟨12, 12, .w1c, .any, 0⟩, ⟨11, 11, .ro, .any, 0⟩, ⟨10, 10, .ro, .any, 0⟩, ⟨9, 9, .w1c, .any, 0⟩, ⟨8, 8, .w1c, .any, 0⟩, ⟨5, 5, .ro, .any, 0⟩, ⟨2, 0, .ro, .any, 0⟩], none⟩,
  ⟨0x080008, [], [⟨31, 16, .ro, .any, 0xffff⟩, ⟨15, 0, .ro, .any, 0xffff⟩], none⟩,
  ⟨0x08000C, [], [⟨31, 0, .ro, .any, 0⟩], none⟩,
  ⟨0x080010, [], [⟨31, 0, .ro, .any, 0⟩], none⟩,
  ⟨0x080014, [], [⟨31, 0, .ro, .any, 0⟩], none⟩,
  ⟨0x080018, [], [⟨31, 0, .clr0, .any, 0⟩], none⟩,
  ⟨0x08001C, [], [⟨5, 0, .w1c, .any, 0⟩], none⟩,
  ⟨0x080020, [], [⟨31, 0, .rw, .priv, 0⟩], none⟩,
  ⟨0x080024, [], [⟨26, 16, .rw, .priv, 1⟩, ⟨14, 0, .rw, .priv, 0x20⟩], none⟩,
  ⟨0x080040, [], [⟨31, 0, .cnt, .any, 0⟩], some (0x8001c, 0)⟩,
  ⟨0x080044, [], [⟨31, 0, .cnt, .any, 0⟩], some (0x8001c, 1)⟩,
  ⟨0x080048, [], [⟨31, 0, .cnt, .any, 0⟩], some (0x8001c, 2)⟩,
  ⟨0x08004C, [], [⟨31, 0, .cnt, .any, 0⟩], some (0x8001c, 3)⟩,
  ⟨0x080050, [], [⟨31, 0, .cnt, .any, 0⟩], some (0x8001c, 4)⟩,
  ⟨0x080054, [], [⟨31, 0, .cnt, .any, 0⟩], some (0x8001c, 5)⟩,
  ⟨0x080100, [], [⟨3, 0, .rw, .priv, 5⟩], none⟩,
  ⟨0x080104, [], [⟨19, 0, .rw, .priv, 0x10⟩], none⟩,
  ⟨0x080108, [], [⟨19, 0, .rw, .priv, 0xc80⟩], none⟩,
  ⟨0x08010C, [], [⟨19, 0, .rw, .priv, 0x640⟩], none⟩,
  ⟨0x080110, [], [⟨19, 0, .rw, .priv, 0x320⟩], none⟩,
  ⟨0x080114, [], [⟨19, 0, .rw, .priv, 0x640⟩], none⟩,
  ⟨0x080118, [], [⟨31, 0, .rw, .priv, 0⟩], none⟩,
  ⟨0x08011C, [], [⟨15, 0, .rw, .priv, 0⟩], none⟩] ++ [
  ⟨0x080140, [], [⟨3, 0, .ro, .any, 5⟩], none⟩,
  ⟨0x080144, [], [⟨19, 0, .ro, .any, 0x10⟩], none⟩,
  ⟨0x080148, [], [⟨19, 0, .ro, .any, 0xc80⟩], none⟩,
  ⟨0x08014C, [], [⟨19, 0, .ro, .any, 0x640⟩], none⟩,
  ⟨0x080150, [], [⟨19, 0, .ro, .any, 0x320⟩], none⟩,
  ⟨0x080154, [], [⟨19, 0, .ro, .any, 0x640⟩], none⟩,
  ⟨0x080200, [], [⟨31, 31, .rw, .priv, 0⟩, ⟨29, 20, .rw, .priv, 0⟩, ⟨17, 8, .rw, .priv, 0⟩, ⟨7, 0, .rw, .priv, 0⟩], none⟩,
  ⟨0x080210, [], [⟨3, 0, .rw, .priv, 0⟩], none⟩,
  ⟨0x080214, [], [⟨31, 31, .rw, .priv, 0⟩, ⟨25, 18, .rw, .priv, 0⟩, ⟨17, 0, .rw, .priv, 0⟩], none⟩,
  ⟨0x080300, [], [⟨9, 0, .rw, .priv, 0⟩], none⟩,
  ⟨0x080304, [], [⟨31, 31, .rw, .priv, 0⟩, ⟨15, 0, .rw, .priv, 0⟩], none⟩,
  ⟨0x080308, [], [⟨31, 22, .rw, .priv, 0⟩, ⟨21, 12, .rw, .priv, 0⟩, ⟨11, 4, .rw, .priv, 0⟩], none⟩,
  ⟨0x08030C, [], [⟨25, 18, .rw, .priv, 0⟩, ⟨17, 0, .rw, .priv, 0⟩], none⟩]

/-- Registers at offsets 0x0A_0000 to 0x0A_FFFF: PORT. -/
def regs0A : List RegRow :=
  [
  ⟨0x0A0000, [(0x4000, 2), (0x1000, 2)], [⟨31, 24, .rw, .priv, 0x10⟩, ⟨5, 5, .rw, .priv, 0⟩, ⟨4, 4, .rw, .priv, 0⟩, ⟨1, 0, .rw, .priv, 0⟩], none⟩,
  ⟨0x0A0004, [(0x4000, 2), (0x1000, 2)], [⟨18, 16, .ro, .any, 0⟩, ⟨15, 15, .w1c, .any, 0⟩, ⟨14, 12, .ro, .any, 0⟩, ⟨9, 9, .ro, .any, 0⟩, ⟨8, 8, .ro, .any, 0⟩, ⟨7, 7, .ro, .any, 0⟩, ⟨2, 0, .ro, .any, 0⟩], none⟩,
  ⟨0x0A0008, [(0x4000, 2), (0x1000, 2)], [⟨31, 31, .ro, .any, 0⟩, ⟨17, 16, .ro, .any, 0⟩, ⟨15, 0, .ro, .any, 0⟩], none⟩,
  ⟨0x0A000C, [(0x4000, 2), (0x1000, 2)], [⟨31, 0, .ro, .any, 0⟩], none⟩,
  ⟨0x0A0010, [(0x4000, 2), (0x1000, 2)], [⟨31, 0, .ro, .any, 0⟩], none⟩,
  ⟨0x0A0014, [(0x4000, 2), (0x1000, 2)], [⟨31, 0, .clr0, .any, 0⟩], none⟩,
  ⟨0x0A0018, [(0x4000, 2), (0x1000, 2)], [⟨7, 4, .rw, .secure, 0⟩, ⟨1, 0, .rw, .secure, 0⟩], none⟩,
  ⟨0x0A001C, [(0x4000, 2), (0x1000, 2)], [⟨31, 31, .w1c, .any, 0⟩, ⟨11, 8, .ro, .any, 0⟩, ⟨7, 4, .ro, .any, 0⟩, ⟨1, 0, .ro, .any, 0⟩], none⟩,
  ⟨0x0A0020, [(0x4000, 2), (0x1000, 2)], [⟨31, 0, .ro, .any, 0⟩], none⟩,
  ⟨0x0A0024, [(0x4000, 2), (0x1000, 2)], [⟨10, 0, .w1c, .any, 0⟩], none⟩,
  ⟨0x0A0040, [(0x4000, 2), (0x1000, 2)], [⟨31, 0, .cnt, .any, 0⟩], some (0xa0024, 0)⟩,
  ⟨0x0A0044, [(0x4000, 2), (0x1000, 2)], [⟨31, 0, .cnt, .any, 0⟩], some (0xa0024, 1)⟩,
  ⟨0x0A0048, [(0x4000, 2), (0x1000, 2)], [⟨31, 0, .cnt, .any, 0⟩], some (0xa0024, 2)⟩,
  ⟨0x0A004C, [(0x4000, 2), (0x1000, 2)], [⟨31, 0, .cnt, .any, 0⟩], some (0xa0024, 3)⟩,
  ⟨0x0A0050, [(0x4000, 2), (0x1000, 2)], [⟨31, 0, .cnt, .any, 0⟩], some (0xa0024, 4)⟩,
  ⟨0x0A0054, [(0x4000, 2), (0x1000, 2)], [⟨31, 0, .cnt, .any, 0⟩], some (0xa0024, 5)⟩,
  ⟨0x0A0058, [(0x4000, 2), (0x1000, 2)], [⟨31, 0, .cnt, .any, 0⟩], some (0xa0024, 6)⟩,
  ⟨0x0A005C, [(0x4000, 2), (0x1000, 2)], [⟨31, 0, .cnt, .any, 0⟩], some (0xa0024, 7)⟩,
  ⟨0x0A0060, [(0x4000, 2), (0x1000, 2)], [⟨31, 0, .cnt, .any, 0⟩], some (0xa0024, 8)⟩,
  ⟨0x0A0064, [(0x4000, 2), (0x1000, 2)], [⟨31, 0, .cnt, .any, 0⟩], some (0xa0024, 9)⟩,
  ⟨0x0A0068, [(0x4000, 2), (0x1000, 2)], [⟨31, 0, .cnt, .any, 0⟩], some (0xa0024, 10)⟩,
  ⟨0x0A0080, [(0x4000, 2), (0x1000, 2)], [⟨31, 0, .ro, .any, 0⟩], none⟩,
  ⟨0x0A0084, [(0x4000, 2), (0x1000, 2)], [⟨31, 0, .ro, .any, 0⟩], none⟩,
  ⟨0x0A0088, [(0x4000, 2), (0x1000, 2)], [⟨31, 0, .ro, .any, 0⟩], none⟩] ++ [
  ⟨0x0A008C, [(0x4000, 2), (0x1000, 2)], [⟨31, 0, .ro, .any, 0⟩], none⟩,
  ⟨0x0A0090, [(0x4000, 2), (0x1000, 2)], [⟨31, 0, .ro, .any, 0⟩], none⟩,
  ⟨0x0A0094, [(0x4000, 2), (0x1000, 2)], [⟨31, 0, .ro, .any, 0⟩], none⟩,
  ⟨0x0A0098, [(0x4000, 2), (0x1000, 2)], [⟨31, 0, .ro, .any, 0⟩], none⟩,
  ⟨0x0A009C, [(0x4000, 2), (0x1000, 2)], [⟨31, 0, .ro, .any, 0⟩], none⟩,
  ⟨0x0A2000, [(0x4000, 2)], [⟨31, 16, .ro, .any, 0⟩, ⟨9, 9, .ro, .any, 0⟩, ⟨8, 8, .ro, .any, 0⟩, ⟨7, 0, .ro, .any, 0⟩], none⟩,
  ⟨0x0A2004, [(0x4000, 2)], [⟨31, 31, .rw, .priv, 1⟩, ⟨13, 0, .rw, .priv, 0x14⟩], none⟩,
  ⟨0x0A2008, [(0x4000, 2)], [⟨9, 0, .rw, .priv, 0x7d⟩], none⟩,
  ⟨0x0A200C, [], [⟨1, 1, .ro, .any, 0⟩, ⟨0, 0, .rw, .priv, 0⟩], none⟩]

/-- Registers at offsets 0x0C_0000 to 0x0C_FFFF: FLOW. -/
def regs0C : List RegRow :=
  [
  ⟨0x0C0000, [], [⟨6, 0, .rw, .priv, 0x14⟩], none⟩,
  ⟨0x0C0004, [], [⟨31, 20, .rw, .priv, 0xa⟩, ⟨9, 0, .rw, .priv, 5⟩], none⟩,
  ⟨0x0C0008, [], [⟨9, 9, .ro, .any, 0⟩, ⟨8, 8, .ro, .any, 0⟩, ⟨4, 4, .ro, .any, 0⟩, ⟨1, 0, .ro, .any, 0⟩], none⟩,
  ⟨0x0C000C, [], [⟨28, 16, .ro, .any, 0⟩, ⟨12, 0, .ro, .any, 0⟩], none⟩,
  ⟨0x0C0010, [], [⟨31, 16, .ro, .any, 0⟩, ⟨15, 0, .ro, .any, 0⟩], none⟩,
  ⟨0x0C0014, [], [⟨11, 0, .w1c, .any, 0⟩], none⟩,
  ⟨0x0C0040, [], [⟨31, 0, .cnt, .any, 0⟩], some (0xc0014, 0)⟩,
  ⟨0x0C0044, [], [⟨31, 0, .cnt, .any, 0⟩], some (0xc0014, 1)⟩,
  ⟨0x0C0048, [], [⟨31, 0, .cnt, .any, 0⟩], some (0xc0014, 2)⟩,
  ⟨0x0C004C, [], [⟨31, 0, .cnt, .any, 0⟩], some (0xc0014, 3)⟩,
  ⟨0x0C0050, [], [⟨31, 0, .cnt, .any, 0⟩], some (0xc0014, 4)⟩,
  ⟨0x0C0054, [], [⟨31, 0, .cnt, .any, 0⟩], some (0xc0014, 5)⟩,
  ⟨0x0C0058, [], [⟨31, 0, .cnt, .any, 0⟩], some (0xc0014, 6)⟩,
  ⟨0x0C005C, [], [⟨31, 0, .cnt, .any, 0⟩], some (0xc0014, 7)⟩,
  ⟨0x0C0060, [], [⟨31, 0, .cnt, .any, 0⟩], some (0xc0014, 8)⟩,
  ⟨0x0C0064, [], [⟨31, 0, .cnt, .any, 0⟩], some (0xc0014, 9)⟩,
  ⟨0x0C0068, [], [⟨31, 0, .cnt, .any, 0⟩], some (0xc0014, 10)⟩,
  ⟨0x0C006C, [], [⟨31, 0, .cnt, .any, 0⟩], some (0xc0014, 11)⟩,
  ⟨0x0C0080, [], [⟨31, 0, .ro, .any, 0⟩], none⟩,
  ⟨0x0C0084, [], [⟨31, 0, .ro, .any, 0⟩], none⟩,
  ⟨0x0C0088, [], [⟨31, 0, .ro, .any, 0⟩], none⟩,
  ⟨0x0C008C, [], [⟨31, 0, .ro, .any, 0⟩], none⟩,
  ⟨0x0C0090, [], [⟨31, 0, .ro, .any, 0⟩], none⟩,
  ⟨0x0C0094, [], [⟨31, 0, .ro, .any, 0⟩], none⟩] ++ [
  ⟨0x0C0100, [], [⟨9, 0, .rw, .priv, 0⟩], none⟩,
  ⟨0x0C0104, [], [⟨31, 31, .rw, .priv, 0⟩, ⟨30, 30, .rw, .priv, 0⟩, ⟨15, 0, .rw, .priv, 0⟩], none⟩,
  ⟨0x0C0108, [], [⟨24, 16, .ro, .any, 0⟩, ⟨8, 0, .ro, .any, 0⟩], none⟩,
  ⟨0x0C010C, [], [⟨31, 0, .ro, .any, 0⟩], none⟩,
  ⟨0x0C0110, [], [⟨31, 0, .ro, .any, 0⟩], none⟩,
  ⟨0x0C0114, [], [⟨31, 0, .ro, .any, 0⟩], none⟩,
  ⟨0x0C0118, [], [⟨1, 0, .wo, .priv, 0⟩], none⟩,
  ⟨0x0C0200, [], [⟨7, 0, .rw, .priv, 0⟩], none⟩,
  ⟨0x0C0204, [], [⟨31, 31, .rw, .priv, 0⟩, ⟨28, 16, .rw, .priv, 0⟩, ⟨11, 0, .rw, .priv, 0⟩], none⟩,
  ⟨0x0C0210, [], [⟨11, 0, .rw, .priv, 0⟩], none⟩,
  ⟨0x0C0214, [], [⟨15, 0, .rw, .priv, 0⟩], none⟩,
  ⟨0x0C0220, [(0x4, 8)], [⟨31, 0, .rw, .priv, 0⟩], none⟩]

/-- Registers at offsets 0x0E_0000 to 0x0E_FFFF: PNT. -/
def regs0E : List RegRow :=
  [
  ⟨0x0E0000, [], [⟨31, 31, .w1c, .any, 0⟩, ⟨30, 30, .w1c, .any, 0⟩, ⟨29, 29, .w1c, .any, 0⟩, ⟨28, 28, .w1c, .any, 0⟩, ⟨9, 9, .w1c, .any, 0⟩, ⟨8, 8, .w1c, .any, 0⟩, ⟨3, 0, .ro, .any, 0⟩], none⟩,
  ⟨0x0E0004, [], [⟨27, 16, .rw, .priv, 0x3e8⟩, ⟨0, 0, .rw, .priv, 1⟩], none⟩,
  ⟨0x0E0008, [], [⟨31, 31, .w1c, .any, 0⟩, ⟨13, 0, .ro, .any, 0⟩], none⟩,
  ⟨0x0E000C, [], [⟨31, 0, .cnt, .any, 0⟩], some (0xe0000, 31)⟩,
  ⟨0x0E0010, [], [⟨31, 0, .cnt, .any, 0⟩], some (0xe0000, 30)⟩,
  ⟨0x0E0014, [], [⟨31, 0, .cnt, .any, 0⟩], some (0xe0000, 29)⟩,
  ⟨0x0E0018, [], [⟨31, 0, .cnt, .any, 0⟩], some (0xe0000, 28)⟩,
  ⟨0x0E0100, [], [⟨7, 0, .rw, .priv, 0⟩], none⟩,
  ⟨0x0E0104, [], [⟨25, 16, .rw, .priv, 0⟩, ⟨10, 10, .rw, .priv, 0⟩, ⟨9, 9, .rw, .priv, 0⟩, ⟨8, 8, .rw, .priv, 0⟩, ⟨7, 4, .rw, .priv, 0⟩, ⟨2, 0, .rw, .priv, 0⟩], none⟩,
  ⟨0x0E0108, [], [⟨22, 0, .rw, .priv, 0⟩], none⟩,
  ⟨0x0E010C, [], [⟨31, 0, .rw, .priv, 0⟩], none⟩,
  ⟨0x0E0110, [], [⟨31, 0, .rw, .priv, 0⟩], none⟩,
  ⟨0x0E0200, [], [⟨17, 0, .rw, .priv, 0⟩], none⟩,
  ⟨0x0E0204, [], [⟨15, 8, .rw, .priv, 0⟩, ⟨3, 0, .rw, .priv, 0⟩], none⟩,
  ⟨0x0E0300, [], [⟨11, 0, .rw, .priv, 0⟩], none⟩,
  ⟨0x0E0304, [], [⟨31, 31, .rw, .priv, 0⟩, ⟨27, 18, .rw, .priv, 0⟩, ⟨17, 0, .rw, .priv, 0⟩], none⟩,
  ⟨0x0E0308, [], [⟨31, 0, .rw, .priv, 0⟩], none⟩,
  ⟨0x0E030C, [], [⟨31, 0, .rw, .priv, 0⟩], none⟩,
  ⟨0x0E0400, [], [⟨7, 0, .rw, .priv, 0⟩], none⟩,
  ⟨0x0E0404, [], [⟨31, 31, .rw, .priv, 0⟩, ⟨26, 24, .rw, .priv, 0⟩, ⟨21, 16, .rw, .priv, 0⟩, ⟨15, 8, .rw, .priv, 0⟩, ⟨7, 0, .rw, .priv, 0xa⟩], none⟩]

/-- Registers at offsets 0x10_0000 to 0x10_FFFF: SW. -/
def regs10 : List RegRow :=
  [
  ⟨0x100000, [], [⟨16, 16, .w1c, .any, 0⟩, ⟨15, 15, .w1c, .any, 0⟩, ⟨14, 0, .ro, .any, 0⟩], none⟩,
  ⟨0x100004, [], [⟨31, 16, .ro, .any, 0x5860⟩, ⟨15, 0, .ro, .any, 0x5c00⟩], none⟩,
  ⟨0x100008, [], [⟨6, 0, .w1c, .any, 0⟩], none⟩,
  ⟨0x100040, [], [⟨31, 0, .cnt, .any, 0⟩], some (0x100008, 0)⟩,
  ⟨0x100044, [], [⟨31, 0, .cnt, .any, 0⟩], some (0x100008, 1)⟩,
  ⟨0x100048, [], [⟨31, 0, .cnt, .any, 0⟩], some (0x100008, 2)⟩,
  ⟨0x10004C, [], [⟨31, 0, .cnt, .any, 0⟩], some (0x100008, 3)⟩,
  ⟨0x100050, [], [⟨31, 0, .cnt, .any, 0⟩], some (0x100008, 4)⟩,
  ⟨0x100054, [], [⟨31, 0, .cnt, .any, 0⟩], some (0x100008, 5)⟩,
  ⟨0x100058, [], [⟨31, 0, .cnt, .any, 0⟩], some (0x100008, 6)⟩,
  ⟨0x100100, [], [⟨6, 3, .rw, .priv, 0⟩, ⟨2, 0, .rw, .priv, 0⟩], none⟩,
  ⟨0x100104, [], [⟨14, 0, .rw, .priv, 0⟩], none⟩,
  ⟨0x100108, [], [⟨14, 0, .ro, .any, 0⟩], none⟩,
  ⟨0x100200, [], [⟨9, 0, .rw, .priv, 0⟩], none⟩,
  ⟨0x100204, [], [⟨31, 0, .rw, .priv, 0⟩], none⟩,
  ⟨0x100208, [], [⟨31, 31, .rw, .priv, 0⟩, ⟨27, 16, .rw, .priv, 0⟩, ⟨15, 0, .rw, .priv, 0⟩], none⟩,
  ⟨0x10020C, [], [⟨10, 4, .rw, .priv, 0⟩], none⟩,
  ⟨0x100300, [(0x4, 4)], [⟨31, 24, .ro, .any, 0⟩, ⟨23, 16, .ro, .any, 0⟩, ⟨15, 8, .ro, .any, 0⟩, ⟨7, 0, .ro, .any, 0⟩], none⟩,
  ⟨0x100400, [(0x10, 4)], [⟨31, 31, .rw, .priv, 0⟩, ⟨17, 16, .rw, .priv, 0⟩, ⟨14, 12, .rw, .priv, 0⟩, ⟨10, 0, .rw, .priv, 0x80⟩], none⟩,
  ⟨0x100404, [(0x10, 4)], [⟨26, 16, .rw, .priv, 0⟩, ⟨10, 0, .rw, .priv, 0⟩], none⟩,
  ⟨0x100500, [(0x4, 3)], [⟨7, 0, .rw, .priv, 0⟩], none⟩]

/-- Registers at offsets 0x12_0000 to 0x12_FFFF: ETH. -/
def regs12 : List RegRow :=
  [
  ⟨0x120000, [(0x1000, 4)], [⟨5, 4, .rw, .priv, 0⟩, ⟨2, 2, .rw, .priv, 1⟩, ⟨1, 0, .rw, .priv, 0⟩], none⟩,
  ⟨0x120004, [(0x1000, 4)], [⟨31, 24, .ro, .any, 0⟩, ⟨23, 16, .ro, .any, 0⟩, ⟨3, 2, .ro, .any, 0⟩, ⟨1, 1, .ro, .any, 0⟩, ⟨0, 0, .ro, .any, 0⟩], none⟩,
  ⟨0x120008, [(0x1000, 4)], [⟨21, 16, .rw, .priv, 0x30⟩, ⟨5, 0, .rw, .priv, 0x20⟩], none⟩,
  ⟨0x12000C, [(0x1000, 4)], [⟨26, 24, .rw, .priv, 2⟩, ⟨23, 0, .rw, .priv, 0x492492⟩], none⟩,
  ⟨0x120010, [(0x1000, 4)], [⟨23, 0, .rw, .priv, 0xfac688⟩], none⟩,
  ⟨0x120014, [(0x1000, 4)], [⟨10, 4, .rw, .priv, 0⟩], none⟩,
  ⟨0x120018, [(0x1000, 4)], [⟨31, 31, .wo, .priv, 0⟩, ⟨30, 30, .rw, .priv, 0⟩, ⟨29, 28, .rw, .priv, 2⟩, ⟨25, 21, .rw, .priv, 0⟩, ⟨20, 16, .rw, .priv, 0⟩, ⟨15, 0, .rw, .priv, 0⟩], none⟩,
  ⟨0x12001C, [(0x1000, 4)], [⟨31, 31, .ro, .any, 0⟩, ⟨30, 30, .w1c, .any, 0⟩, ⟨15, 0, .ro, .any, 0⟩], none⟩,
  ⟨0x120020, [(0x1000, 4)], [⟨5, 0, .w1c, .any, 0⟩], none⟩,
  ⟨0x120040, [(0x1000, 4)], [⟨31, 0, .cnt, .any, 0⟩], some (0x120020, 0)⟩,
  ⟨0x120044, [(0x1000, 4)], [⟨31, 0, .cnt, .any, 0⟩], some (0x120020, 1)⟩,
  ⟨0x120048, [(0x1000, 4)], [⟨31, 0, .cnt, .any, 0⟩], some (0x120020, 2)⟩,
  ⟨0x12004C, [(0x1000, 4)], [⟨31, 0, .cnt, .any, 0⟩], some (0x120020, 3)⟩,
  ⟨0x120050, [(0x1000, 4)], [⟨31, 0, .cnt, .any, 0⟩], some (0x120020, 4)⟩,
  ⟨0x120054, [(0x1000, 4)], [⟨31, 0, .cnt, .any, 0⟩], some (0x120020, 5)⟩,
  ⟨0x120080, [(0x1000, 4)], [⟨31, 0, .ro, .any, 0⟩], none⟩,
  ⟨0x120084, [(0x1000, 4)], [⟨31, 0, .ro, .any, 0⟩], none⟩,
  ⟨0x120088, [(0x1000, 4)], [⟨31, 0, .ro, .any, 0⟩], none⟩,
  ⟨0x12008C, [(0x1000, 4)], [⟨31, 0, .ro, .any, 0⟩], none⟩,
  ⟨0x120090, [(0x1000, 4)], [⟨31, 0, .ro, .any, 0⟩], none⟩,
  ⟨0x120094, [(0x1000, 4)], [⟨31, 0, .ro, .any, 0⟩], none⟩,
  ⟨0x120098, [(0x1000, 4)], [⟨31, 0, .ro, .any, 0⟩], none⟩,
  ⟨0x12009C, [(0x1000, 4)], [⟨31, 0, .ro, .any, 0⟩], none⟩]

/-- Registers at offsets 0x14_0000 to 0x14_FFFF: BRG. -/
def regs14 : List RegRow :=
  [
  ⟨0x140000, [], [⟨25, 16, .rw, .priv, 1⟩, ⟨8, 8, .rw, .priv, 1⟩, ⟨3, 0, .rw, .priv, 4⟩], none⟩,
  ⟨0x140004, [], [⟨31, 31, .ro, .any, 0⟩, ⟨30, 30, .ro, .any, 0⟩, ⟨29, 24, .ro, .any, 0⟩, ⟨22, 16, .ro, .any, 0⟩, ⟨8, 0, .ro, .any, 0⟩], none⟩,
  ⟨0x140008, [], [⟨31, 16, .ro, .any, 0xffff⟩, ⟨15, 0, .ro, .any, 0⟩], none⟩,
  ⟨0x14000C, [], [⟨15, 0, .ro, .any, 0xffff⟩], none⟩,
  ⟨0x140010, [], [⟨5, 0, .w1c, .any, 0⟩], none⟩,
  ⟨0x140040, [], [⟨31, 0, .cnt, .any, 0⟩], some (0x140010, 0)⟩,
  ⟨0x140044, [], [⟨31, 0, .cnt, .any, 0⟩], some (0x140010, 1)⟩,
  ⟨0x140048, [], [⟨31, 0, .cnt, .any, 0⟩], some (0x140010, 2)⟩,
  ⟨0x14004C, [], [⟨31, 0, .cnt, .any, 0⟩], some (0x140010, 3)⟩,
  ⟨0x140050, [], [⟨31, 0, .cnt, .any, 0⟩], some (0x140010, 4)⟩,
  ⟨0x140054, [], [⟨31, 0, .cnt, .any, 0⟩], some (0x140010, 5)⟩,
  ⟨0x140080, [], [⟨31, 31, .ro, .any, 0⟩, ⟨30, 28, .ro, .any, 0⟩, ⟨23, 16, .ro, .any, 0⟩, ⟨15, 0, .ro, .any, 0⟩], none⟩,
  ⟨0x140084, [], [⟨31, 0, .ro, .any, 0⟩], none⟩,
  ⟨0x140088, [], [⟨31, 0, .ro, .any, 0⟩], none⟩,
  ⟨0x14008C, [], [⟨31, 0, .ro, .any, 0⟩], none⟩,
  ⟨0x140090, [], [⟨31, 0, .ro, .any, 0⟩], none⟩,
  ⟨0x140094, [], [⟨15, 0, .wo, .any, 0⟩], none⟩,
  ⟨0x1400A0, [], [⟨31, 31, .ro, .any, 0⟩, ⟨30, 24, .ro, .any, 0⟩, ⟨23, 16, .ro, .any, 0⟩, ⟨15, 8, .ro, .any, 0⟩, ⟨7, 0, .ro, .any, 0⟩], none⟩,
  ⟨0x1400A4, [], [⟨31, 0, .ro, .any, 0⟩], none⟩,
  ⟨0x1400A8, [], [⟨31, 0, .ro, .any, 0⟩], none⟩,
  ⟨0x1400AC, [], [⟨31, 0, .ro, .any, 0⟩], none⟩,
  ⟨0x1400B0, [], [⟨31, 0, .ro, .any, 0⟩], none⟩,
  ⟨0x1400B4, [], [⟨31, 0, .ro, .any, 0⟩], none⟩,
  ⟨0x1400B8, [], [⟨31, 0, .ro, .any, 0⟩], none⟩] ++ [
  ⟨0x1400BC, [], [⟨31, 0, .ro, .any, 0⟩], none⟩,
  ⟨0x1400C0, [], [⟨6, 0, .wo, .any, 0⟩], none⟩,
  ⟨0x140100, [], [⟨7, 0, .rw, .priv, 0⟩], none⟩,
  ⟨0x140104, [], [⟨31, 31, .rw, .priv, 0⟩, ⟨25, 16, .rw, .priv, 0⟩, ⟨15, 0, .rw, .priv, 0⟩], none⟩,
  ⟨0x140200, [], [⟨10, 0, .rw, .priv, 0⟩], none⟩,
  ⟨0x140204, [], [⟨31, 31, .rw, .priv, 0⟩, ⟨30, 30, .rw, .priv, 0⟩, ⟨29, 27, .rw, .priv, 0⟩, ⟨26, 26, .rw, .priv, 0⟩, ⟨25, 25, .rw, .priv, 0⟩, ⟨24, 24, .rw, .priv, 0⟩, ⟨23, 20, .rw, .priv, 0⟩, ⟨19, 12, .rw, .priv, 0⟩, ⟨11, 0, .rw, .priv, 0⟩], none⟩,
  ⟨0x140208, [], [⟨24, 18, .rw, .priv, 0⟩, ⟨17, 0, .rw, .priv, 0⟩], none⟩,
  ⟨0x140300, [], [⟨7, 0, .rw, .priv, 0⟩], none⟩,
  ⟨0x140304, [], [⟨31, 31, .rw, .priv, 0⟩, ⟨30, 30, .rw, .priv, 0⟩, ⟨29, 28, .rw, .priv, 0⟩, ⟨9, 0, .rw, .priv, 0⟩], none⟩,
  ⟨0x140308, [], [⟨31, 24, .rw, .priv, 0⟩, ⟨23, 16, .rw, .priv, 0⟩, ⟨15, 0, .rw, .priv, 0⟩], none⟩,
  ⟨0x14030C, [], [⟨23, 16, .rw, .priv, 0⟩, ⟨15, 0, .rw, .priv, 0⟩], none⟩]

/-- Registers at offsets 0x16_0000 to 0x16_FFFF: CST. -/
def regs16 : List RegRow :=
  [
  ⟨0x160000, [(0x20, 256)], [⟨31, 31, .rw, .priv, 0⟩, ⟨30, 29, .rw, .priv, 1⟩, ⟨28, 27, .rw, .priv, 0⟩, ⟨26, 26, .rw, .priv, 0⟩, ⟨22, 16, .rw, .priv, 1⟩], none⟩,
  ⟨0x160004, [(0x20, 256)], [⟨27, 16, .rw, .priv, 0⟩, ⟨12, 0, .rw, .priv, 0⟩], none⟩,
  ⟨0x160008, [(0x20, 256)], [⟨20, 16, .rw, .priv, 0⟩, ⟨15, 0, .rw, .priv, 0⟩], none⟩,
  ⟨0x16000C, [(0x20, 256)], [⟨31, 31, .rw, .priv, 0⟩, ⟨30, 27, .rw, .priv, 0⟩, ⟨25, 13, .rw, .priv, 0⟩, ⟨12, 0, .rw, .priv, 0⟩], none⟩,
  ⟨0x160010, [(0x20, 256)], [⟨31, 31, .ro, .any, 0⟩, ⟨30, 30, .w1c, .any, 0⟩, ⟨29, 29, .ro, .any, 0⟩, ⟨28, 28, .ro, .any, 0⟩, ⟨27, 27, .ro, .any, 0⟩, ⟨26, 26, .w1c, .any, 0⟩, ⟨18, 0, .ro, .any, 0⟩], none⟩,
  ⟨0x160014, [(0x20, 256)], [⟨31, 16, .ro, .any, 0⟩, ⟨15, 0, .ro, .any, 0⟩], none⟩,
  ⟨0x160018, [(0x20, 256)], [⟨1, 0, .wo, .priv, 0⟩], none⟩]

/-- Registers at offsets 0x17_0000 to 0x17_FFFF: CST. -/
def regs17 : List RegRow :=
  [
  ⟨0x170000, [], [⟨15, 0, .rw, .priv, 0⟩], none⟩,
  ⟨0x170004, [], [⟨15, 0, .ro, .any, 0⟩], none⟩,
  ⟨0x170008, [], [⟨4, 0, .w1c, .any, 0⟩], none⟩,
  ⟨0x170040, [], [⟨31, 0, .cnt, .any, 0⟩], some (0x170008, 0)⟩,
  ⟨0x170044, [], [⟨31, 0, .cnt, .any, 0⟩], some (0x170008, 1)⟩,
  ⟨0x170048, [], [⟨31, 0, .cnt, .any, 0⟩], some (0x170008, 2)⟩,
  ⟨0x17004C, [], [⟨31, 0, .cnt, .any, 0⟩], some (0x170008, 3)⟩,
  ⟨0x170050, [], [⟨31, 0, .cnt, .any, 0⟩], some (0x170008, 4)⟩,
  ⟨0x170080, [], [⟨31, 31, .ro, .any, 0⟩, ⟨30, 28, .ro, .any, 0⟩, ⟨27, 24, .ro, .any, 0⟩, ⟨23, 16, .ro, .any, 0⟩, ⟨15, 8, .ro, .any, 0⟩, ⟨7, 0, .ro, .any, 0⟩], none⟩,
  ⟨0x170084, [], [⟨31, 0, .ro, .any, 0⟩], none⟩,
  ⟨0x170088, [], [⟨31, 0, .ro, .any, 0⟩], none⟩,
  ⟨0x17008C, [], [⟨3, 0, .wo, .any, 0⟩], none⟩]

/-- Registers at offsets 0x18_0000 to 0x18_FFFF: JET. -/
def regs18 : List RegRow :=
  [
  ⟨0x180000, [(0x400, 64)], [⟨31, 31, .wo, .priv, 0⟩, ⟨30, 30, .wo, .priv, 0⟩, ⟨14, 8, .rw, .priv, 0⟩, ⟨5, 4, .rw, .priv, 0⟩, ⟨0, 0, .rw, .priv, 0⟩], none⟩,
  ⟨0x180004, [(0x400, 64)], [⟨31, 29, .ro, .any, 0⟩, ⟨28, 26, .ro, .any, 0⟩, ⟨25, 23, .ro, .any, 0⟩, ⟨22, 22, .w1c, .any, 0⟩, ⟨21, 16, .ro, .any, 0⟩, ⟨15, 8, .ro, .any, 0⟩, ⟨6, 0, .ro, .any, 0⟩], none⟩,
  ⟨0x180008, [(0x400, 64)], [⟨6, 0, .rw, .priv, 0⟩], none⟩,
  ⟨0x18000C, [(0x400, 64)], [⟨31, 0, .wo, .priv, 0⟩], none⟩,
  ⟨0x180010, [(0x400, 64)], [⟨31, 0, .ro, .priv, 0⟩], none⟩,
  ⟨0x180014, [(0x400, 64)], [⟨31, 0, .wo, .priv, 0⟩], none⟩,
  ⟨0x180018, [(0x400, 64)], [⟨12, 8, .rw, .priv, 0⟩, ⟨1, 1, .rw, .priv, 1⟩, ⟨0, 0, .rw, .priv, 0⟩], none⟩,
  ⟨0x18001C, [(0x400, 64)], [⟨19, 16, .rw, .priv, 0⟩, ⟨15, 8, .rw, .priv, 0⟩, ⟨7, 0, .rw, .priv, 0⟩], none⟩,
  ⟨0x180020, [(0x400, 64), (0x4, 2)], [⟨31, 0, .rw, .priv, 0⟩], none⟩,
  ⟨0x180028, [(0x400, 64), (0x4, 2)], [⟨31, 0, .rw, .priv, 0⟩], none⟩,
  ⟨0x180030, [(0x400, 64)], [⟨31, 0, .rw, .priv, 0⟩], none⟩,
  ⟨0x180034, [(0x400, 64)], [⟨15, 8, .rw, .priv, 0⟩, ⟨7, 0, .rw, .priv, 0⟩], none⟩,
  ⟨0x180038, [(0x400, 64)], [⟨31, 0, .rw, .priv, 0⟩], none⟩,
  ⟨0x18003C, [(0x400, 64)], [⟨31, 31, .rw, .priv, 0⟩, ⟨30, 30, .rw, .priv, 0⟩, ⟨17, 0, .rw, .priv, 0⟩], none⟩,
  ⟨0x180040, [(0x400, 64)], [⟨31, 31, .rw, .priv, 0⟩, ⟨17, 0, .rw, .priv, 0⟩], none⟩,
  ⟨0x180044, [(0x400, 64)], [⟨3, 0, .w1c, .any, 0⟩], none⟩,
  ⟨0x180048, [(0x400, 64)], [⟨31, 0, .cnt, .any, 0⟩], some (0x180044, 0)⟩,
  ⟨0x18004C, [(0x400, 64)], [⟨31, 0, .cnt, .any, 0⟩], some (0x180044, 1)⟩,
  ⟨0x180050, [(0x400, 64)], [⟨31, 0, .cnt, .any, 0⟩], some (0x180044, 2)⟩,
  ⟨0x180054, [(0x400, 64)], [⟨31, 0, .cnt, .any, 0⟩], some (0x180044, 3)⟩,
  ⟨0x180058, [(0x400, 64)], [⟨31, 0, .rw, .priv, 0⟩], none⟩,
  ⟨0x180200, [(0x400, 64), (0x4, 128)], [⟨15, 0, .rw, .priv, 0⟩], none⟩]

/-- Registers at offsets 0x19_0000 to 0x19_FFFF: JET. -/
def regs19 : List RegRow :=
  [
  ⟨0x190000, [(0x10, 2), (0x4, 4)], [⟨31, 31, .rw, .priv, 1⟩, ⟨30, 16, .rw, .priv, 2⟩, ⟨15, 0, .rw, .priv, 0⟩], none⟩,
  ⟨0x190020, [], [⟨15, 8, .ro, .any, 0⟩, ⟨7, 0, .ro, .any, 0⟩], none⟩,
  ⟨0x190100, [(0x10, 8)], [⟨31, 31, .rw, .priv, 0⟩, ⟨27, 24, .rw, .priv, 0⟩, ⟨17, 16, .rw, .priv, 0⟩, ⟨7, 0, .rw, .priv, 0⟩], none⟩,
  ⟨0x190104, [(0x10, 8)], [⟨31, 0, .rw, .priv, 0⟩], none⟩,
  ⟨0x190108, [(0x10, 8)], [⟨31, 0, .rw, .priv, 0⟩], none⟩,
  ⟨0x190200, [], [⟨7, 0, .wo, .priv, 0⟩], none⟩,
  ⟨0x190204, [], [⟨7, 0, .w1c, .any, 0⟩], none⟩]

/-- Registers at offsets 0x1A_0000 to 0x1A_FFFF: FIO. -/
def regs1A : List RegRow :=
  [
  ⟨0x1A0000, [(0x10, 256)], [⟨31, 30, .rw, .priv, 3⟩, ⟨29, 29, .rw, .priv, 0⟩, ⟨28, 28, .rw, .priv, 0⟩, ⟨27, 26, .rw, .priv, 0⟩, ⟨25, 24, .rw, .priv, 1⟩, ⟨23, 23, .rw, .priv, 0⟩, ⟨17, 16, .rw, .priv, 0⟩, ⟨13, 8, .rw, .priv, 0⟩], none⟩,
  ⟨0x1A0004, [(0x10, 256)], [⟨31, 31, .rw, .priv, 0⟩, ⟨30, 30, .rw, .priv, 0⟩, ⟨23, 20, .rw, .priv, 0⟩, ⟨17, 0, .rw, .priv, 0⟩], none⟩,
  ⟨0x1A0008, [(0x10, 256)], [⟨31, 31, .rw, .priv, 0⟩, ⟨30, 30, .rw, .priv, 0⟩, ⟨29, 29, .rw, .priv, 0⟩, ⟨17, 0, .rw, .priv, 0⟩], none⟩,
  ⟨0x1A1000, [(0x8, 8)], [⟨1, 0, .rw, .priv, 0⟩], none⟩,
  ⟨0x1A1004, [(0x8, 8)], [⟨0, 0, .ro, .any, 0⟩], none⟩,
  ⟨0x1A1100, [(0x4, 16)], [⟨31, 16, .mw, .priv, 0⟩, ⟨15, 0, .mw, .priv, 0⟩], none⟩,
  ⟨0x1A1180, [(0x4, 8)], [⟨31, 0, .ro, .any, 0⟩], none⟩,
  ⟨0x1A11C0, [], [⟨1, 0, .w1c, .any, 0⟩], none⟩,
  ⟨0x1A11C4, [], [⟨31, 0, .cnt, .any, 0⟩], some (0x1a11c0, 0)⟩,
  ⟨0x1A11C8, [], [⟨31, 0, .cnt, .any, 0⟩], some (0x1a11c0, 1)⟩]

/-- Registers at offsets 0x1C_0000 to 0x1C_FFFF: CAN. -/
def regs1C : List RegRow :=
  [
  ⟨0x1C0000, [(0x2000, 8)], [⟨4, 4, .rw, .priv, 0⟩, ⟨3, 3, .rw, .priv, 0⟩, ⟨1, 0, .rw, .priv, 0⟩], none⟩,
  ⟨0x1C0004, [(0x2000, 8)], [⟨18, 16, .ro, .any, 0⟩, ⟨15, 8, .ro, .any, 0⟩, ⟨7, 0, .ro, .any, 0⟩], none⟩,
  ⟨0x1C0008, [(0x2000, 8)], [⟨31, 23, .rw, .priv, 0⟩, ⟨22, 15, .rw, .priv, 0x3e⟩, ⟨14, 8, .rw, .priv, 0xf⟩, ⟨6, 0, .rw, .priv, 0xf⟩], none⟩,
  ⟨0x1C000C, [(0x2000, 8)], [⟨31, 31, .rw, .priv, 0⟩, ⟨30, 24, .rw, .priv, 0⟩, ⟨20, 16, .rw, .priv, 0⟩, ⟨12, 8, .rw, .priv, 6⟩, ⟨7, 4, .rw, .priv, 1⟩, ⟨3, 0, .rw, .priv, 1⟩], none⟩,
  ⟨0x1C0010, [(0x2000, 8)], [⟨10, 8, .wo, .priv, 0⟩, ⟨5, 0, .wo, .priv, 0⟩], none⟩,
  ⟨0x1C0014, [(0x2000, 8)], [⟨18, 16, .rw, .priv, 0⟩, ⟨15, 0, .rw, .priv, 0x3e8⟩], none⟩,
  ⟨0x1C0018, [(0x2000, 8)], [⟨15, 0, .rw, .priv, 0⟩], none⟩,
  ⟨0x1C001C, [(0x2000, 8)], [⟨13, 8, .ro, .any, 0⟩, ⟨4, 0, .ro, .any, 0⟩], none⟩,
  ⟨0x1C0020, [(0x2000, 8)], [⟨6, 0, .w1c, .any, 0⟩], none⟩,
  ⟨0x1C0040, [(0x2000, 8)], [⟨31, 0, .cnt, .any, 0⟩], some (0x1c0020, 0)⟩,
  ⟨0x1C0044, [(0x2000, 8)], [⟨31, 0, .cnt, .any, 0⟩], some (0x1c0020, 1)⟩,
  ⟨0x1C0048, [(0x2000, 8)], [⟨31, 0, .cnt, .any, 0⟩], some (0x1c0020, 2)⟩,
  ⟨0x1C004C, [(0x2000, 8)], [⟨31, 0, .cnt, .any, 0⟩], some (0x1c0020, 3)⟩,
  ⟨0x1C0050, [(0x2000, 8)], [⟨31, 0, .cnt, .any, 0⟩], some (0x1c0020, 4)⟩,
  ⟨0x1C0054, [(0x2000, 8)], [⟨31, 0, .cnt, .any, 0⟩], some (0x1c0020, 5)⟩,
  ⟨0x1C0058, [(0x2000, 8)], [⟨31, 0, .cnt, .any, 0⟩], some (0x1c0020, 6)⟩,
  ⟨0x1C0080, [(0x2000, 8)], [⟨31, 0, .ro, .any, 0⟩], none⟩,
  ⟨0x1C0084, [(0x2000, 8)], [⟨31, 0, .ro, .any, 0⟩], none⟩,
  ⟨0x1C0088, [(0x2000, 8)], [⟨31, 0, .ro, .any, 0⟩], none⟩,
  ⟨0x1C008C, [(0x2000, 8)], [⟨31, 0, .ro, .any, 0⟩], none⟩,
  ⟨0x1C0100, [(0x2000, 8)], [⟨5, 0, .rw, .priv, 0⟩], none⟩,
  ⟨0x1C0104, [(0x2000, 8)], [⟨31, 31, .rw, .priv, 0⟩, ⟨30, 30, .rw, .priv, 0⟩, ⟨25, 16, .rw, .priv, 0⟩, ⟨15, 0, .rw, .priv, 0⟩], none⟩,
  ⟨0x1C0108, [(0x2000, 8)], [⟨31, 31, .rw, .priv, 0⟩, ⟨30, 30, .rw, .priv, 0⟩, ⟨29, 29, .rw, .priv, 0⟩, ⟨28, 0, .rw, .priv, 0⟩], none⟩,
  ⟨0x1C010C, [(0x2000, 8)], [⟨28, 0, .rw, .priv, 0x1fffffff⟩], none⟩] ++ [
  ⟨0x1C0110, [(0x2000, 8)], [⟨31, 31, .ro, .any, 0⟩, ⟨30, 30, .ro, .any, 0⟩, ⟨29, 29, .w1c, .any, 0⟩, ⟨10, 8, .ro, .any, 0⟩, ⟨3, 0, .ro, .any, 0⟩], none⟩,
  ⟨0x1C0114, [(0x2000, 8)], [⟨31, 0, .ro, .any, 0⟩], none⟩,
  ⟨0x1C0118, [(0x2000, 8)], [⟨15, 0, .ro, .any, 0⟩], none⟩,
  ⟨0x1C0180, [(0x2000, 8)], [⟨13, 8, .rw, .priv, 0⟩, ⟨4, 0, .rw, .priv, 0⟩], none⟩,
  ⟨0x1C0184, [(0x2000, 8)], [⟨9, 8, .rw, .priv, 0⟩, ⟨5, 0, .rw, .priv, 0⟩], none⟩,
  ⟨0x1C0200, [(0x2000, 8), (0x4, 32)], [⟨31, 31, .rw, .priv, 0⟩, ⟨19, 16, .rw, .priv, 3⟩, ⟨15, 0, .rw, .priv, 0⟩], none⟩,
  ⟨0x1C1000, [(0x2000, 8), (0x40, 64), (0x4, 16)], [⟨31, 0, .rw, .priv, 0⟩], none⟩]

/-- Registers at offsets 0x1E_0000 to 0x1E_FFFF: USB. -/
def regs1E : List RegRow :=
  [
  ⟨0x1E0000, [], [⟨7, 4, .rw, .priv, 0⟩, ⟨3, 3, .rw, .priv, 0⟩, ⟨2, 2, .rw, .priv, 1⟩, ⟨0, 0, .rw, .priv, 0⟩], none⟩,
  ⟨0x1E0004, [], [⟨31, 31, .w1c, .any, 1⟩, ⟨23, 16, .ro, .any, 0⟩, ⟨15, 15, .ro, .any, 0⟩, ⟨14, 8, .ro, .any, 0⟩, ⟨5, 4, .ro, .any, 0⟩, ⟨2, 0, .ro, .any, 0⟩], none⟩,
  ⟨0x1E0008, [], [⟨0, 0, .rw, .priv, 0⟩], none⟩,
  ⟨0x1E000C, [], [⟨31, 16, .ro, .any, 0xffff⟩, ⟨15, 0, .ro, .any, 0⟩], none⟩,
  ⟨0x1E0010, [(0x4, 4)], [⟨9, 8, .ro, .any, 0⟩, ⟨7, 6, .ro, .any, 0⟩, ⟨5, 5, .ro, .any, 0⟩, ⟨4, 4, .ro, .any, 0⟩, ⟨3, 3, .ro, .any, 0⟩, ⟨2, 2, .ro, .any, 0⟩, ⟨1, 1, .ro, .any, 0⟩, ⟨0, 0, .ro, .any, 0⟩], none⟩,
  ⟨0x1E0020, [], [⟨31, 31, .rw, .priv, 0⟩, ⟨1, 0, .rw, .priv, 1⟩], none⟩,
  ⟨0x1E0024, [], [⟨5, 0, .w1c, .any, 0⟩], none⟩,
  ⟨0x1E0040, [], [⟨31, 0, .cnt, .any, 0⟩], some (0x1e0024, 0)⟩,
  ⟨0x1E0044, [], [⟨31, 0, .cnt, .any, 0⟩], some (0x1e0024, 1)⟩,
  ⟨0x1E0048, [], [⟨31, 0, .cnt, .any, 0⟩], some (0x1e0024, 2)⟩,
  ⟨0x1E004C, [], [⟨31, 0, .cnt, .any, 0⟩], some (0x1e0024, 3)⟩,
  ⟨0x1E0050, [], [⟨31, 0, .cnt, .any, 0⟩], some (0x1e0024, 4)⟩,
  ⟨0x1E0054, [], [⟨31, 0, .cnt, .any, 0⟩], some (0x1e0024, 5)⟩,
  ⟨0x1E0080, [], [⟨31, 0, .ro, .any, 0⟩], none⟩,
  ⟨0x1E0084, [], [⟨31, 0, .ro, .any, 0⟩], none⟩,
  ⟨0x1E0088, [], [⟨31, 0, .ro, .any, 0⟩], none⟩,
  ⟨0x1E008C, [], [⟨31, 0, .ro, .any, 0⟩], none⟩,
  ⟨0x1E0100, [(0x4, 16)], [⟨31, 31, .rw, .priv, 0⟩, ⟨23, 20, .rw, .priv, 0⟩, ⟨17, 0, .rw, .priv, 0⟩], none⟩]

/-- Registers at offsets 0x20_0000 to 0x20_FFFF: FEED. -/
def regs20 : List RegRow :=
  [
  ⟨0x200000, [(0x100, 16)], [⟨5, 5, .rw, .priv, 1⟩, ⟨4, 4, .rw, .priv, 0⟩, ⟨3, 0, .rw, .priv, 3⟩], none⟩,
  ⟨0x200004, [(0x100, 16)], [⟨24, 16, .rw, .priv, 0x1f4⟩, ⟨9, 0, .rw, .priv, 0⟩], none⟩,
  ⟨0x200008, [(0x100, 16)], [⟨25, 16, .rw, .priv, 0x64⟩, ⟨9, 0, .rw, .priv, 0xa⟩], none⟩,
  ⟨0x20000C, [(0x100, 16)], [⟨23, 16, .rw, .priv, 0x96⟩, ⟨9, 0, .rw, .priv, 0xc8⟩], none⟩,
  ⟨0x200010, [(0x100, 16)], [⟨9, 0, .rw, .priv, 0xa⟩], none⟩,
  ⟨0x200014, [(0x100, 16)], [⟨25, 16, .rw, .priv, 0x258⟩, ⟨9, 0, .rw, .priv, 0x64⟩], none⟩,
  ⟨0x200018, [(0x100, 16)], [⟨25, 16, .rw, .priv, 0x64⟩, ⟨9, 0, .rw, .priv, 0x14⟩], none⟩,
  ⟨0x20001C, [(0x100, 16)], [⟨15, 0, .rw, .priv, 0⟩], none⟩,
  ⟨0x200020, [(0x100, 16)], [⟨31, 16, .rw, .priv, 0xd7a⟩, ⟨15, 0, .rw, .priv, 0x3e8⟩], none⟩,
  ⟨0x200024, [(0x100, 16), (0x4, 3)], [⟨31, 31, .rw, .priv, 0⟩, ⟨30, 16, .rw, .priv, 0x64⟩, ⟨15, 0, .rw, .priv, 0⟩], none⟩,
  ⟨0x200030, [(0x100, 16)], [⟨2, 0, .wo, .priv, 0⟩], none⟩,
  ⟨0x200034, [(0x100, 16)], [⟨19, 16, .ro, .any, 0⟩, ⟨11, 8, .ro, .any, 0⟩, ⟨5, 5, .ro, .any, 0⟩, ⟨4, 4, .ro, .any, 0⟩, ⟨2, 0, .ro, .any, 0⟩], none⟩,
  ⟨0x200038, [(0x100, 16)], [⟨31, 0, .ro, .any, 0⟩], none⟩,
  ⟨0x20003C, [(0x100, 16)], [⟨31, 16, .ro, .any, 0⟩, ⟨15, 0, .ro, .any, 0⟩], none⟩,
  ⟨0x200040, [(0x100, 16)], [⟨31, 16, .ro, .any, 0⟩, ⟨8, 0, .ro, .any, 0⟩], none⟩,
  ⟨0x201000, [], [⟨7, 0, .rw, .priv, 1⟩], none⟩,
  ⟨0x201004, [], [⟨31, 31, .ro, .any, 0⟩, ⟨15, 0, .ro, .any, 0⟩], none⟩,
  ⟨0x201008, [], [⟨1, 0, .wo, .priv, 0⟩], none⟩,
  ⟨0x20100C, [], [⟨5, 0, .w1c, .any, 0⟩], none⟩,
  ⟨0x201040, [], [⟨31, 0, .cnt, .any, 0⟩], some (0x20100c, 0)⟩,
  ⟨0x201044, [], [⟨31, 0, .cnt, .any, 0⟩], some (0x20100c, 1)⟩,
  ⟨0x201048, [], [⟨31, 0, .cnt, .any, 0⟩], some (0x20100c, 2)⟩,
  ⟨0x20104C, [], [⟨31, 0, .cnt, .any, 0⟩], some (0x20100c, 3)⟩,
  ⟨0x201050, [], [⟨31, 0, .cnt, .any, 0⟩], some (0x20100c, 4)⟩] ++ [
  ⟨0x201054, [], [⟨31, 0, .cnt, .any, 0⟩], some (0x20100c, 5)⟩]

/-- Registers at offsets 0x22_0000 to 0x22_FFFF: CMP. -/
def regs22 : List RegRow :=
  [
  ⟨0x220000, [(0x10, 24)], [⟨31, 31, .rw, .priv, 0⟩, ⟨30, 30, .rw, .priv, 0⟩, ⟨28, 24, .rw, .priv, 4⟩, ⟨23, 16, .rw, .priv, 0⟩, ⟨9, 0, .rw, .priv, 0⟩], none⟩,
  ⟨0x220004, [(0x10, 24)], [⟨31, 31, .rw, .priv, 0⟩, ⟨15, 1, .rw, .priv, 0⟩], none⟩,
  ⟨0x220008, [(0x10, 24)], [⟨3, 3, .ro, .any, 0⟩, ⟨2, 2, .w1c, .any, 0⟩, ⟨1, 1, .w1c, .any, 0⟩, ⟨0, 0, .ro, .any, 0⟩], none⟩,
  ⟨0x220200, [], [⟨23, 0, .ro, .any, 0⟩], none⟩,
  ⟨0x220204, [], [⟨0, 0, .w1c, .any, 0⟩], none⟩,
  ⟨0x220240, [], [⟨31, 0, .cnt, .any, 0⟩], some (0x220204, 0)⟩]

/-- Registers at offsets 0x24_0000 to 0x24_FFFF: FH. -/
def regs24 : List RegRow :=
  [
  ⟨0x240000, [], [⟨31, 24, .rw, .priv, 8⟩, ⟨23, 16, .rw, .priv, 0x14⟩, ⟨15, 8, .rw, .priv, 0xa⟩, ⟨3, 3, .rw, .priv, 1⟩, ⟨2, 2, .rw, .priv, 0⟩, ⟨1, 1, .rw, .priv, 0⟩, ⟨0, 0, .rw, .priv, 1⟩], none⟩,
  ⟨0x240004, [], [⟨25, 25, .ro, .any, 0⟩, ⟨24, 24, .ro, .any, 0⟩, ⟨18, 16, .ro, .any, 0⟩, ⟨2, 0, .ro, .any, 0⟩], none⟩,
  ⟨0x240008, [], [⟨2, 0, .wo, .priv, 0⟩], none⟩,
  ⟨0x24000C, [], [⟨15, 0, .wo, .priv, 0⟩], none⟩,
  ⟨0x240010, [], [⟨31, 31, .rw, .priv, 1⟩, ⟨9, 0, .rw, .priv, 0xa⟩], none⟩,
  ⟨0x240014, [], [⟨31, 31, .ro, .any, 0⟩, ⟨30, 30, .ro, .any, 0⟩, ⟨29, 29, .ro, .any, 0⟩], none⟩,
  ⟨0x240018, [], [⟨31, 0, .ro, .any, 0⟩], none⟩,
  ⟨0x24001C, [], [⟨31, 31, .rw, .priv, 1⟩, ⟨9, 0, .rw, .priv, 0x18⟩], none⟩,
  ⟨0x240020, [], [⟨31, 31, .ro, .any, 0⟩, ⟨30, 30, .ro, .any, 0⟩, ⟨26, 24, .ro, .any, 0⟩, ⟨15, 0, .ro, .any, 0xffff⟩], none⟩,
  ⟨0x240024, [], [⟨31, 31, .w1c, .any, 0⟩, ⟨30, 30, .ro, .any, 0⟩, ⟨26, 24, .ro, .any, 0⟩, ⟨23, 22, .ro, .any, 0⟩, ⟨21, 20, .ro, .any, 0⟩], none⟩,
  ⟨0x240028, [], [⟨31, 0, .ro, .any, 0⟩], none⟩,
  ⟨0x24002C, [], [⟨15, 0, .ro, .any, 0⟩], none⟩,
  ⟨0x240030, [], [⟨6, 0, .w1c, .any, 0⟩], none⟩,
  ⟨0x240040, [], [⟨31, 0, .cnt, .any, 0⟩], some (0x240030, 0)⟩,
  ⟨0x240044, [], [⟨31, 0, .cnt, .any, 0⟩], some (0x240030, 1)⟩,
  ⟨0x240048, [], [⟨31, 0, .cnt, .any, 0⟩], some (0x240030, 2)⟩,
  ⟨0x24004C, [], [⟨31, 0, .cnt, .any, 0⟩], some (0x240030, 3)⟩,
  ⟨0x240050, [], [⟨31, 0, .cnt, .any, 0⟩], some (0x240030, 4)⟩,
  ⟨0x240054, [], [⟨31, 0, .cnt, .any, 0⟩], some (0x240030, 5)⟩,
  ⟨0x240058, [], [⟨31, 0, .cnt, .any, 0⟩], some (0x240030, 6)⟩,
  ⟨0x240060, [], [⟨31, 31, .w1c, .any, 0⟩, ⟨15, 8, .ro, .any, 0⟩, ⟨3, 0, .ro, .any, 0⟩], none⟩,
  ⟨0x240064, [], [⟨31, 0, .ro, .any, 0⟩], none⟩,
  ⟨0x240068, [], [⟨31, 0, .ro, .any, 0⟩], none⟩,
  ⟨0x24006C, [], [⟨31, 0, .ro, .any, 0⟩], none⟩] ++ [
  ⟨0x240070, [], [⟨31, 0, .ro, .any, 0⟩], none⟩,
  ⟨0x240080, [], [⟨7, 0, .rw, .priv, 0xf⟩], none⟩,
  ⟨0x240100, [(0x4, 8)], [⟨31, 31, .rw, .priv, 0⟩, ⟨29, 20, .rw, .priv, 0⟩, ⟨10, 0, .rw, .priv, 0⟩], none⟩,
  ⟨0x240200, [(0x8, 16)], [⟨31, 31, .rw, .priv, 0⟩, ⟨19, 16, .rw, .priv, 3⟩, ⟨9, 0, .rw, .priv, 0⟩], none⟩,
  ⟨0x240204, [(0x8, 16)], [⟨31, 31, .w1c, .any, 0⟩, ⟨30, 30, .ro, .any, 0⟩, ⟨19, 16, .ro, .any, 0⟩, ⟨9, 0, .ro, .any, 0⟩], none⟩,
  ⟨0x240280, [], [⟨4, 4, .rw, .priv, 0⟩, ⟨3, 0, .rw, .priv, 0⟩], none⟩,
  ⟨0x240400, [(0x80, 2), (0x8, 16)], [⟨31, 26, .rw, .priv, 0⟩], none⟩,
  ⟨0x240404, [(0x80, 2), (0x8, 16)], [⟨31, 0, .rw, .priv, 0⟩], none⟩]

/-- Registers at offsets 0x26_0000 to 0x26_FFFF: TEL. -/
def regs26 : List RegRow :=
  [
  ⟨0x260000, [], [⟨31, 16, .rw, .priv, 0⟩, ⟨15, 0, .rw, .priv, 0x3e8⟩], none⟩,
  ⟨0x260004, [], [⟨15, 0, .rw, .priv, 0⟩], none⟩,
  ⟨0x260008, [], [⟨15, 0, .rw, .priv, 0x3c⟩], none⟩,
  ⟨0x26000C, [], [⟨15, 0, .rw, .priv, 0x3c⟩], none⟩,
  ⟨0x260010, [], [⟨31, 16, .ro, .any, 0⟩, ⟨15, 0, .ro, .any, 0⟩], none⟩,
  ⟨0x260014, [], [⟨7, 0, .rw, .priv, 0x6e⟩], none⟩,
  ⟨0x260018, [], [⟨31, 0, .ro, .any, 0⟩], none⟩,
  ⟨0x260020, [(0x4, 4)], [⟨31, 0, .ro, .any, 0⟩], none⟩,
  ⟨0x260030, [], [⟨3, 0, .w1c, .any, 0⟩], none⟩,
  ⟨0x260040, [], [⟨31, 0, .cnt, .any, 0⟩], some (0x260030, 0)⟩,
  ⟨0x260044, [], [⟨31, 0, .cnt, .any, 0⟩], some (0x260030, 1)⟩,
  ⟨0x260048, [], [⟨31, 0, .cnt, .any, 0⟩], some (0x260030, 2)⟩,
  ⟨0x26004C, [], [⟨31, 0, .cnt, .any, 0⟩], some (0x260030, 3)⟩]

/-- Registers at offsets 0x28_0000 to 0x28_FFFF: HST. -/
def regs28 : List RegRow :=
  [
  ⟨0x280000, [], [⟨2, 2, .rw, .any, 1⟩, ⟨1, 0, .rw, .any, 0⟩], none⟩,
  ⟨0x280004, [], [⟨8, 8, .w1c, .any, 1⟩, ⟨4, 4, .ro, .any, 1⟩, ⟨1, 0, .ro, .any, 0⟩], none⟩,
  ⟨0x280008, [], [⟨4, 4, .w1c, .any, 0⟩, ⟨3, 3, .w1c, .any, 0⟩, ⟨2, 2, .w1c, .any, 0⟩, ⟨1, 1, .ro, .any, 0⟩, ⟨0, 0, .ro, .any, 0⟩], none⟩,
  ⟨0x28000C, [], [⟨4, 0, .rw, .any, 0xb⟩], none⟩,
  ⟨0x280010, [], [⟨31, 16, .ro, .any, 0⟩, ⟨8, 0, .ro, .any, 0⟩], none⟩,
  ⟨0x280014, [], [⟨2, 0, .w1c, .any, 0⟩], none⟩,
  ⟨0x280040, [], [⟨31, 0, .cnt, .any, 0⟩], some (0x280014, 0)⟩,
  ⟨0x280044, [], [⟨31, 0, .cnt, .any, 0⟩], some (0x280014, 1)⟩,
  ⟨0x280048, [], [⟨31, 0, .cnt, .any, 0⟩], some (0x280014, 2)⟩]

/-- Registers at offsets 0x2A_0000 to 0x2A_FFFF: TST. -/
def regs2A : List RegRow :=
  [
  ⟨0x2A0000, [], [⟨1, 0, .ro, .any, 0⟩], none⟩]

/-- The rows of the 64 KiB window that holds an offset. PORT registers repeat at 0x0A_0000 and JET, CAN, FEED and CST ones run
across windows, so the window of a family is that of its block (R26). -/
def blockRows (win : Nat) : List RegRow :=
  match win with
  | 0x00 => regs00
  | 0x01 => regs01
  | 0x02 => regs02
  | 0x03 => regs03
  | 0x04 => regs04
  | 0x05 => regs05
  | 0x06 => regs06
  | 0x07 => regs07
  | 0x08 => regs08
  | 0x09 => regs08
  | 0x0A => regs0A
  | 0x0B => regs0A
  | 0x0C => regs0C
  | 0x0D => regs0C
  | 0x0E => regs0E
  | 0x0F => regs0E
  | 0x10 => regs10
  | 0x11 => regs10
  | 0x12 => regs12
  | 0x13 => regs12
  | 0x14 => regs14
  | 0x15 => regs14
  | 0x16 => regs16
  | 0x17 => regs17
  | 0x18 => regs18
  | 0x19 => regs19
  | 0x1A => regs1A
  | 0x1B => regs1A
  | 0x1C => regs1C
  | 0x1D => regs1C
  | 0x1E => regs1E
  | 0x1F => regs1E
  | 0x20 => regs20
  | 0x21 => regs20
  | 0x22 => regs22
  | 0x23 => regs22
  | 0x24 => regs24
  | 0x25 => regs24
  | 0x26 => regs26
  | 0x27 => regs26
  | 0x28 => regs28
  | 0x29 => regs28
  | 0x2A => regs2A
  | _ => []

/-- The row that defines an offset of space 0x01; none where the offset is no register (R26, R27). -/
def regRow (off : Nat) : Option RegRow := (blockRows (off / 2 ^ 16)).find? (fun r => r.has off)

abbrev DEV_ID.off : Nat := 0x000000
abbrev DEV_ID.PART : FRef := ⟨DEV_ID.off, 16, 16⟩
abbrev DEV_ID.REV_MAJOR : FRef := ⟨DEV_ID.off, 12, 4⟩
abbrev DEV_ID.REV_MINOR : FRef := ⟨DEV_ID.off, 8, 4⟩
abbrev DEV_ID.ORDER : FRef := ⟨DEV_ID.off, 4, 4⟩
abbrev DEV_UID_LO.off : Nat := 0x000004
abbrev DEV_UID_LO.VAL : FRef := ⟨DEV_UID_LO.off, 0, 32⟩
abbrev DEV_UID_HI.off : Nat := 0x000008
abbrev DEV_UID_HI.VAL : FRef := ⟨DEV_UID_HI.off, 0, 32⟩
abbrev DEV_NODE.off : Nat := 0x00000C
abbrev DEV_NODE.BACKUP : FRef := ⟨DEV_NODE.off, 18, 1⟩
abbrev DEV_NODE.MASTER : FRef := ⟨DEV_NODE.off, 17, 1⟩
abbrev DEV_NODE.PLANE_B : FRef := ⟨DEV_NODE.off, 16, 1⟩
abbrev DEV_NODE.NODE_ID : FRef := ⟨DEV_NODE.off, 0, 16⟩
abbrev DEV_RMT_MAP.off : Nat := 0x000010
abbrev DEV_RMT_MAP.TST : FRef := ⟨DEV_RMT_MAP.off, 24, 1⟩
abbrev DEV_RMT_MAP.OPEN_HI : FRef := ⟨DEV_RMT_MAP.off, 6, 18⟩
abbrev DEV_RMT_MAP.SEC : FRef := ⟨DEV_RMT_MAP.off, 5, 1⟩
abbrev DEV_RMT_MAP.OPEN_LO : FRef := ⟨DEV_RMT_MAP.off, 0, 5⟩
abbrev DEV_SCRATCH.off : Nat := 0x000014
abbrev DEV_SCRATCH.VALUE : FRef := ⟨DEV_SCRATCH.off, 0, 32⟩
abbrev PWR_STAT.off : Nat := 0x010000
abbrev PWR_STAT.S : FRef := ⟨PWR_STAT.off, 0, 32⟩
abbrev PWR_WAKE_SRC.off : Nat := 0x010004
abbrev PWR_WAKE_SRC.SRC : FRef := ⟨PWR_WAKE_SRC.off, 0, 24⟩
abbrev PWR_WAKE_LAST.off : Nat := 0x010008
abbrev PWR_WAKE_LAST.VALID : FRef := ⟨PWR_WAKE_LAST.off, 31, 1⟩
abbrev PWR_WAKE_LAST.OUTCOME : FRef := ⟨PWR_WAKE_LAST.off, 28, 3⟩
abbrev PWR_WAKE_LAST.CMP : FRef := ⟨PWR_WAKE_LAST.off, 16, 5⟩
abbrev PWR_WAKE_LAST.DOMAINS : FRef := ⟨PWR_WAKE_LAST.off, 0, 16⟩
abbrev PWR_WAKE_TIME.off : Nat := 0x01000C
abbrev PWR_WAKE_TIME.FNS : FRef := ⟨PWR_WAKE_TIME.off, 0, 32⟩
abbrev PWR_SAT.off : Nat := 0x010010
abbrev PWR_SAT.SAT : FRef := ⟨PWR_SAT.off, 0, 3⟩
abbrev PWR_WAKE_CNT.off : Nat := 0x010040
abbrev PWR_WAKE_CNT.CNT : FRef := ⟨PWR_WAKE_CNT.off, 0, 32⟩
abbrev PWR_CFGERR_CNT.off : Nat := 0x010044
abbrev PWR_CFGERR_CNT.CNT : FRef := ⟨PWR_CFGERR_CNT.off, 0, 32⟩
abbrev PWR_SUPPLY_FLT.off : Nat := 0x010048
abbrev PWR_SUPPLY_FLT.CNT : FRef := ⟨PWR_SUPPLY_FLT.off, 0, 32⟩
abbrev PWR_DOM_VOTE.off (i : Nat) : Nat := 0x010100 + i * 0x10
abbrev PWR_DOM_VOTE.MASK (i : Nat) : FRef := ⟨PWR_DOM_VOTE.off i, 16, 16⟩
abbrev PWR_DOM_VOTE.CLIENT (i : Nat) : FRef := ⟨PWR_DOM_VOTE.off i, 8, 8⟩
abbrev PWR_DOM_VOTE.LINK (i : Nat) : FRef := ⟨PWR_DOM_VOTE.off i, 5, 1⟩
abbrev PWR_DOM_VOTE.HOST (i : Nat) : FRef := ⟨PWR_DOM_VOTE.off i, 4, 1⟩
abbrev PWR_DOM_VOTE.DEP (i : Nat) : FRef := ⟨PWR_DOM_VOTE.off i, 3, 1⟩
abbrev PWR_DOM_VOTE.WAKE (i : Nat) : FRef := ⟨PWR_DOM_VOTE.off i, 2, 1⟩
abbrev PWR_DOM_VOTE.FW (i : Nat) : FRef := ⟨PWR_DOM_VOTE.off i, 1, 1⟩
abbrev PWR_DOM_VOTE.BOOT (i : Nat) : FRef := ⟨PWR_DOM_VOTE.off i, 0, 1⟩
abbrev PWR_DOM_CFG.off (i : Nat) : Nat := 0x010104 + i * 0x10
abbrev PWR_DOM_CFG.IDLE (i : Nat) : FRef := ⟨PWR_DOM_CFG.off i, 0, 1⟩
abbrev PWR_DOM_RET.off (i : Nat) : Nat := 0x010108 + i * 0x10
abbrev PWR_DOM_RET.BANKS (i : Nat) : FRef := ⟨PWR_DOM_RET.off i, 0, 16⟩
abbrev PWR_DOM_STAT.off (i : Nat) : Nat := 0x01010C + i * 0x10
abbrev PWR_DOM_STAT.TRANS (i : Nat) : FRef := ⟨PWR_DOM_STAT.off i, 16, 16⟩
abbrev PWR_DOM_STAT.WOUT (i : Nat) : FRef := ⟨PWR_DOM_STAT.off i, 8, 3⟩
abbrev PWR_DOM_STAT.HOLD (i : Nat) : FRef := ⟨PWR_DOM_STAT.off i, 4, 3⟩
abbrev PWR_DOM_STAT.STATE (i : Nat) : FRef := ⟨PWR_DOM_STAT.off i, 0, 3⟩
abbrev PWR_AVS_CTRL.off : Nat := 0x010800
abbrev PWR_AVS_CTRL.LOWER : FRef := ⟨PWR_AVS_CTRL.off, 16, 8⟩
abbrev PWR_AVS_CTRL.TARGET : FRef := ⟨PWR_AVS_CTRL.off, 8, 8⟩
abbrev PWR_AVS_CTRL.EN : FRef := ⟨PWR_AVS_CTRL.off, 0, 1⟩
abbrev PWR_AVS_LIMIT.off : Nat := 0x010804
abbrev PWR_AVS_LIMIT.CEIL : FRef := ⟨PWR_AVS_LIMIT.off, 16, 10⟩
abbrev PWR_AVS_LIMIT.FLOOR : FRef := ⟨PWR_AVS_LIMIT.off, 0, 10⟩
abbrev PWR_AVS_STAT.off : Nat := 0x010808
abbrev PWR_AVS_STAT.SAT : FRef := ⟨PWR_AVS_STAT.off, 31, 1⟩
abbrev PWR_AVS_STAT.LOW : FRef := ⟨PWR_AVS_STAT.off, 24, 1⟩
abbrev PWR_AVS_STAT.MARGIN : FRef := ⟨PWR_AVS_STAT.off, 16, 8⟩
abbrev PWR_AVS_STAT.VSET : FRef := ⟨PWR_AVS_STAT.off, 0, 10⟩
abbrev PWR_AVS_RATE.off : Nat := 0x01080C
abbrev PWR_AVS_RATE.CAP : FRef := ⟨PWR_AVS_RATE.off, 16, 16⟩
abbrev PWR_AVS_RATE.DEMAND : FRef := ⟨PWR_AVS_RATE.off, 0, 16⟩
abbrev PWR_AVS_LOWCNT.off : Nat := 0x010810
abbrev PWR_AVS_LOWCNT.CNT : FRef := ⟨PWR_AVS_LOWCNT.off, 0, 32⟩
abbrev PWR_AVS_FAILCNT.off : Nat := 0x010814
abbrev PWR_AVS_FAILCNT.CNT : FRef := ⟨PWR_AVS_FAILCNT.off, 0, 32⟩
abbrev SUMP_CFG.off : Nat := 0x020000
abbrev SUMP_CFG.ESC_N : FRef := ⟨SUMP_CFG.off, 28, 4⟩
abbrev SUMP_CFG.ESC_WIN : FRef := ⟨SUMP_CFG.off, 20, 8⟩
abbrev SUMP_CFG.PIN_CLASS : FRef := ⟨SUMP_CFG.off, 16, 2⟩
abbrev SUMP_CFG.REACT_SEV : FRef := ⟨SUMP_CFG.off, 10, 2⟩
abbrev SUMP_CFG.REACT_DEG : FRef := ⟨SUMP_CFG.off, 8, 2⟩
abbrev SUMP_CFG.REACT_DLY : FRef := ⟨SUMP_CFG.off, 0, 8⟩
abbrev SUMP_STAT.off : Nat := 0x020004
abbrev SUMP_STAT.GRAVE : FRef := ⟨SUMP_STAT.off, 31, 1⟩
abbrev SUMP_STAT.SPILL : FRef := ⟨SUMP_STAT.off, 30, 1⟩
abbrev SUMP_STAT.SEVERE : FRef := ⟨SUMP_STAT.off, 16, 8⟩
abbrev SUMP_STAT.DEGRADED : FRef := ⟨SUMP_STAT.off, 8, 8⟩
abbrev SUMP_STAT.NOTE : FRef := ⟨SUMP_STAT.off, 0, 8⟩
abbrev SUMP_SPILL.off : Nat := 0x020008
abbrev SUMP_SPILL.LOG_RATE : FRef := ⟨SUMP_SPILL.off, 0, 16⟩
abbrev SUMP_ALARM.off : Nat := 0x02000C
abbrev SUMP_ALARM.EN : FRef := ⟨SUMP_ALARM.off, 31, 1⟩
abbrev SUMP_ALARM.MAX : FRef := ⟨SUMP_ALARM.off, 16, 8⟩
abbrev SUMP_ALARM.DST : FRef := ⟨SUMP_ALARM.off, 0, 16⟩
abbrev EVT_NEXT.off : Nat := 0x020010
abbrev EVT_NEXT.VALID : FRef := ⟨EVT_NEXT.off, 31, 1⟩
abbrev EVT_NEXT.CLASS : FRef := ⟨EVT_NEXT.off, 16, 3⟩
abbrev EVT_NEXT.EV : FRef := ⟨EVT_NEXT.off, 0, 9⟩
abbrev EVT_SWSET.off : Nat := 0x020014
abbrev EVT_SWSET.CLASS : FRef := ⟨EVT_SWSET.off, 8, 3⟩
abbrev EVT_SWSET.INDEX : FRef := ⟨EVT_SWSET.off, 0, 6⟩
abbrev SUMP_LOG_HEAD.off : Nat := 0x020018
abbrev SUMP_LOG_HEAD.VALID : FRef := ⟨SUMP_LOG_HEAD.off, 31, 1⟩
abbrev SUMP_LOG_HEAD.SERIAL : FRef := ⟨SUMP_LOG_HEAD.off, 0, 16⟩
abbrev SUMP_SAT.off : Nat := 0x02001C
abbrev SUMP_SAT.SAT : FRef := ⟨SUMP_SAT.off, 0, 5⟩
abbrev SUMP_FEC0.off : Nat := 0x020020
abbrev SUMP_FEC0.VALID : FRef := ⟨SUMP_FEC0.off, 31, 1⟩
abbrev SUMP_FEC0.MID : FRef := ⟨SUMP_FEC0.off, 26, 5⟩
abbrev SUMP_FEC0.KIND : FRef := ⟨SUMP_FEC0.off, 24, 2⟩
abbrev SUMP_FEC0.GUARD : FRef := ⟨SUMP_FEC0.off, 23, 1⟩
abbrev SUMP_FEC0.NODE : FRef := ⟨SUMP_FEC0.off, 0, 16⟩
abbrev SUMP_FEC1.off : Nat := 0x020024
abbrev SUMP_FEC1.ADDR : FRef := ⟨SUMP_FEC1.off, 0, 32⟩
abbrev SUMP_FEC2.off : Nat := 0x020028
abbrev SUMP_FEC2.ADDR : FRef := ⟨SUMP_FEC2.off, 0, 32⟩
abbrev SUMP_FEC3.off : Nat := 0x02002C
abbrev SUMP_FEC3.FNS : FRef := ⟨SUMP_FEC3.off, 0, 32⟩
abbrev SUMP_FEC4.off : Nat := 0x020030
abbrev SUMP_FEC4.FNS : FRef := ⟨SUMP_FEC4.off, 0, 16⟩
abbrev SUMP_BUSERR_CNT.off : Nat := 0x020040
abbrev SUMP_BUSERR_CNT.CNT : FRef := ⟨SUMP_BUSERR_CNT.off, 0, 32⟩
abbrev SUMP_GUARD_CNT.off : Nat := 0x020044
abbrev SUMP_GUARD_CNT.CNT : FRef := ⟨SUMP_GUARD_CNT.off, 0, 32⟩
abbrev SUMP_LOG_DROP.off : Nat := 0x020048
abbrev SUMP_LOG_DROP.CNT : FRef := ⟨SUMP_LOG_DROP.off, 0, 32⟩
abbrev SUMP_ALARM_DROP.off : Nat := 0x02004C
abbrev SUMP_ALARM_DROP.CNT : FRef := ⟨SUMP_ALARM_DROP.off, 0, 32⟩
abbrev SUMP_REACT_CNT.off : Nat := 0x020050
abbrev SUMP_REACT_CNT.CNT : FRef := ⟨SUMP_REACT_CNT.off, 0, 32⟩
abbrev EVT_PEND.off (i : Nat) : Nat := 0x020100 + i * 4
abbrev EVT_PEND.PEND (i : Nat) : FRef := ⟨EVT_PEND.off i, 0, 32⟩
abbrev EVT_ROUTE.off (i : Nat) : Nat := 0x021000 + i * 4
abbrev EVT_ROUTE.RAISE (i : Nat) : FRef := ⟨EVT_ROUTE.off i, 24, 3⟩
abbrev EVT_ROUTE.SNAP (i : Nat) : FRef := ⟨EVT_ROUTE.off i, 7, 1⟩
abbrev EVT_ROUTE.ALARM (i : Nat) : FRef := ⟨EVT_ROUTE.off i, 4, 1⟩
abbrev EVT_ROUTE.HOST (i : Nat) : FRef := ⟨EVT_ROUTE.off i, 3, 1⟩
abbrev EVT_ROUTE.FH (i : Nat) : FRef := ⟨EVT_ROUTE.off i, 2, 1⟩
abbrev EVT_ROUTE.LOG (i : Nat) : FRef := ⟨EVT_ROUTE.off i, 1, 1⟩
abbrev SNAP_CFG.off : Nat := 0x030000
abbrev SNAP_CFG.EN : FRef := ⟨SNAP_CFG.off, 31, 1⟩
abbrev SNAP_CFG.RING : FRef := ⟨SNAP_CFG.off, 30, 1⟩
abbrev SNAP_CFG.RMT : FRef := ⟨SNAP_CFG.off, 29, 1⟩
abbrev SNAP_CFG.OVERWRITE : FRef := ⟨SNAP_CFG.off, 28, 1⟩
abbrev SNAP_CFG.TRIG : FRef := ⟨SNAP_CFG.off, 24, 4⟩
abbrev SNAP_CFG.TRIGN : FRef := ⟨SNAP_CFG.off, 20, 3⟩
abbrev SNAP_CFG.RLEAD : FRef := ⟨SNAP_CFG.off, 0, 8⟩
abbrev SNAP_STAT.off : Nat := 0x030004
abbrev SNAP_STAT.STATE : FRef := ⟨SNAP_STAT.off, 30, 2⟩
abbrev SNAP_STAT.CAUSE : FRef := ⟨SNAP_STAT.off, 27, 3⟩
abbrev SNAP_STAT.SERIAL : FRef := ⟨SNAP_STAT.off, 0, 16⟩
abbrev SNAP_CMD.off : Nat := 0x030008
abbrev SNAP_CMD.OP : FRef := ⟨SNAP_CMD.off, 0, 2⟩
abbrev SNAP_PIN.off : Nat := 0x03000C
abbrev SNAP_PIN.EDGE : FRef := ⟨SNAP_PIN.off, 8, 2⟩
abbrev SNAP_PIN.PIN : FRef := ⟨SNAP_PIN.off, 0, 8⟩
abbrev SNAP_SAT.off : Nat := 0x030010
abbrev SNAP_SAT.SAT : FRef := ⟨SNAP_SAT.off, 0, 3⟩
abbrev SNAP_LOST.off : Nat := 0x030040
abbrev SNAP_LOST.CNT : FRef := ⟨SNAP_LOST.off, 0, 32⟩
abbrev SNAP_LATE.off : Nat := 0x030044
abbrev SNAP_LATE.CNT : FRef := ⟨SNAP_LATE.off, 0, 32⟩
abbrev SNAP_CFGERR_CNT.off : Nat := 0x030048
abbrev SNAP_CFGERR_CNT.CNT : FRef := ⟨SNAP_CFGERR_CNT.off, 0, 32⟩
abbrev SNAP_RANGE.off (i : Nat) : Nat := 0x030100 + i * 4
abbrev SNAP_RANGE.VALID (i : Nat) : FRef := ⟨SNAP_RANGE.off i, 31, 1⟩
abbrev SNAP_RANGE.COUNT (i : Nat) : FRef := ⟨SNAP_RANGE.off i, 16, 11⟩
abbrev SNAP_RANGE.FIRST (i : Nat) : FRef := ⟨SNAP_RANGE.off i, 0, 14⟩
abbrev TIME_CFG.off : Nat := 0x040000
abbrev TIME_CFG.LEAD : FRef := ⟨TIME_CFG.off, 8, 8⟩
abbrev TIME_CFG.LATE_EXEC : FRef := ⟨TIME_CFG.off, 4, 1⟩
abbrev TIME_CFG.CAPT_EN : FRef := ⟨TIME_CFG.off, 1, 1⟩
abbrev TIME_CFG.SYNC_EN : FRef := ⟨TIME_CFG.off, 0, 1⟩
abbrev TIME_STAT.off : Nat := 0x040004
abbrev TIME_STAT.STEPCNT : FRef := ⟨TIME_STAT.off, 24, 8⟩
abbrev TIME_STAT.SEEN : FRef := ⟨TIME_STAT.off, 8, 4⟩
abbrev TIME_STAT.EPOCH_ERR : FRef := ⟨TIME_STAT.off, 4, 1⟩
abbrev TIME_SERVO.off : Nat := 0x040008
abbrev TIME_SERVO.TRACE : FRef := ⟨TIME_SERVO.off, 2, 1⟩
abbrev TIME_SERVO.STATE : FRef := ⟨TIME_SERVO.off, 0, 2⟩
abbrev TIME_SAT.off : Nat := 0x04000C
abbrev TIME_SAT.SAT : FRef := ⟨TIME_SAT.off, 0, 4⟩
abbrev TIME_NOW_FRAC.off : Nat := 0x040010
abbrev TIME_NOW_FRAC.FRAC : FRef := ⟨TIME_NOW_FRAC.off, 0, 32⟩
abbrev TIME_NOW_NS.off : Nat := 0x040014
abbrev TIME_NOW_NS.NS : FRef := ⟨TIME_NOW_NS.off, 0, 32⟩
abbrev TIME_NOW_SEC_LO.off : Nat := 0x040018
abbrev TIME_NOW_SEC_LO.SEC : FRef := ⟨TIME_NOW_SEC_LO.off, 0, 32⟩
abbrev TIME_NOW_SEC_HI.off : Nat := 0x04001C
abbrev TIME_NOW_SEC_HI.SEC : FRef := ⟨TIME_NOW_SEC_HI.off, 0, 16⟩
abbrev TIME_FNS_LO.off : Nat := 0x040020
abbrev TIME_FNS_LO.FNS : FRef := ⟨TIME_FNS_LO.off, 0, 32⟩
abbrev TIME_FNS_HI.off : Nat := 0x040024
abbrev TIME_FNS_HI.FNS : FRef := ⟨TIME_FNS_HI.off, 0, 32⟩
abbrev TIME_EPOCH_LO.off : Nat := 0x040028
abbrev TIME_EPOCH_LO.SEC : FRef := ⟨TIME_EPOCH_LO.off, 0, 32⟩
abbrev TIME_EPOCH_HI.off : Nat := 0x04002C
abbrev TIME_EPOCH_HI.SEC : FRef := ⟨TIME_EPOCH_HI.off, 0, 16⟩
abbrev TIME_INC_LO.off : Nat := 0x040030
abbrev TIME_INC_LO.INC : FRef := ⟨TIME_INC_LO.off, 0, 32⟩
abbrev TIME_INC_HI.off : Nat := 0x040034
abbrev TIME_INC_HI.INC : FRef := ⟨TIME_INC_HI.off, 0, 8⟩
abbrev TIME_SLEW_INC.off : Nat := 0x040038
abbrev TIME_SLEW_INC.DELTA : FRef := ⟨TIME_SLEW_INC.off, 0, 32⟩
abbrev TIME_SLEW_CNT.off : Nat := 0x04003C
abbrev TIME_SLEW_CNT.CNT : FRef := ⟨TIME_SLEW_CNT.off, 0, 32⟩
abbrev TIME_STEP.off : Nat := 0x040040
abbrev TIME_STEP.STEP : FRef := ⟨TIME_STEP.off, 0, 32⟩
abbrev TIME_SET_NS.off : Nat := 0x040044
abbrev TIME_SET_NS.NS : FRef := ⟨TIME_SET_NS.off, 0, 32⟩
abbrev TIME_SET_SEC_LO.off : Nat := 0x040048
abbrev TIME_SET_SEC_LO.SEC : FRef := ⟨TIME_SET_SEC_LO.off, 0, 32⟩
abbrev TIME_SET_SEC_HI.off : Nat := 0x04004C
abbrev TIME_SET_SEC_HI.SEC : FRef := ⟨TIME_SET_SEC_HI.off, 0, 16⟩
abbrev TIME_LATE_CNT.off : Nat := 0x040060
abbrev TIME_LATE_CNT.CNT : FRef := ⟨TIME_LATE_CNT.off, 0, 32⟩
abbrev TIME_EDGE_OVF.off : Nat := 0x040064
abbrev TIME_EDGE_OVF.CNT : FRef := ⟨TIME_EDGE_OVF.off, 0, 32⟩
abbrev TIME_SYNC_ERR.off : Nat := 0x040068
abbrev TIME_SYNC_ERR.CNT : FRef := ⟨TIME_SYNC_ERR.off, 0, 32⟩
abbrev TIME_CFGERR_CNT.off : Nat := 0x04006C
abbrev TIME_CFGERR_CNT.CNT : FRef := ⟨TIME_CFGERR_CNT.off, 0, 32⟩
abbrev TIME_ACT_STAT.off : Nat := 0x040070
abbrev TIME_ACT_STAT.USED : FRef := ⟨TIME_ACT_STAT.off, 0, 13⟩
abbrev TIME_ACT_FLUSH.off : Nat := 0x040074
abbrev TIME_ACT_FLUSH.ALL : FRef := ⟨TIME_ACT_FLUSH.off, 8, 1⟩
abbrev TIME_ACT_FLUSH.PIN : FRef := ⟨TIME_ACT_FLUSH.off, 0, 8⟩
abbrev TIME_SYNC_OFF_LO.off (i : Nat) : Nat := 0x040100 + i * 0x10
abbrev TIME_SYNC_OFF_LO.OFF (i : Nat) : FRef := ⟨TIME_SYNC_OFF_LO.off i, 0, 32⟩
abbrev TIME_SYNC_OFF_HI.off (i : Nat) : Nat := 0x040104 + i * 0x10
abbrev TIME_SYNC_OFF_HI.OFF (i : Nat) : FRef := ⟨TIME_SYNC_OFF_HI.off i, 0, 32⟩
abbrev TIME_SYNC_INFO.off (i : Nat) : Nat := 0x040108 + i * 0x10
abbrev TIME_SYNC_INFO.VALID (i : Nat) : FRef := ⟨TIME_SYNC_INFO.off i, 31, 1⟩
abbrev TIME_SYNC_INFO.TURNS (i : Nat) : FRef := ⟨TIME_SYNC_INFO.off i, 29, 2⟩
abbrev TIME_SYNC_INFO.HOPS (i : Nat) : FRef := ⟨TIME_SYNC_INFO.off i, 16, 12⟩
abbrev TIME_SYNC_INFO.STEPCNT (i : Nat) : FRef := ⟨TIME_SYNC_INFO.off i, 8, 8⟩
abbrev TIME_SYNC_INFO.CYCLE (i : Nat) : FRef := ⟨TIME_SYNC_INFO.off i, 0, 8⟩
abbrev TIME_ASYM.off (i : Nat) : Nat := 0x040180 + i * 4
abbrev TIME_ASYM.ASYM (i : Nat) : FRef := ⟨TIME_ASYM.off i, 0, 16⟩
abbrev TIME_LAP_E.off : Nat := 0x0401A0
abbrev TIME_LAP_E.OFF : FRef := ⟨TIME_LAP_E.off, 0, 32⟩
abbrev TIME_LAP_W.off : Nat := 0x0401A4
abbrev TIME_LAP_W.OFF : FRef := ⟨TIME_LAP_W.off, 0, 32⟩
abbrev TIME_LAP_BE.off : Nat := 0x0401A8
abbrev TIME_LAP_BE.OFF : FRef := ⟨TIME_LAP_BE.off, 0, 32⟩
abbrev TIME_LAP_BW.off : Nat := 0x0401AC
abbrev TIME_LAP_BW.OFF : FRef := ⟨TIME_LAP_BW.off, 0, 32⟩
abbrev TIME_EDGE_HEAD_LO.off (i : Nat) : Nat := 0x040200 + i * 0x10
abbrev TIME_EDGE_HEAD_LO.STAMP (i : Nat) : FRef := ⟨TIME_EDGE_HEAD_LO.off i, 0, 32⟩
abbrev TIME_EDGE_HEAD_HI.off (i : Nat) : Nat := 0x040204 + i * 0x10
abbrev TIME_EDGE_HEAD_HI.VALID (i : Nat) : FRef := ⟨TIME_EDGE_HEAD_HI.off i, 31, 1⟩
abbrev TIME_EDGE_HEAD_HI.OVF (i : Nat) : FRef := ⟨TIME_EDGE_HEAD_HI.off i, 30, 1⟩
abbrev TIME_EDGE_HEAD_HI.STEP (i : Nat) : FRef := ⟨TIME_EDGE_HEAD_HI.off i, 29, 1⟩
abbrev TIME_EDGE_HEAD_HI.LEVEL (i : Nat) : FRef := ⟨TIME_EDGE_HEAD_HI.off i, 28, 1⟩
abbrev TIME_EDGE_HEAD_HI.SERIAL (i : Nat) : FRef := ⟨TIME_EDGE_HEAD_HI.off i, 24, 4⟩
abbrev TIME_EDGE_HEAD_HI.PIN (i : Nat) : FRef := ⟨TIME_EDGE_HEAD_HI.off i, 16, 8⟩
abbrev TIME_EDGE_HEAD_HI.STAMP (i : Nat) : FRef := ⟨TIME_EDGE_HEAD_HI.off i, 0, 16⟩
abbrev TIME_EDGE_POP.off (i : Nat) : Nat := 0x040208 + i * 0x10
abbrev TIME_EDGE_POP.SERIAL (i : Nat) : FRef := ⟨TIME_EDGE_POP.off i, 0, 4⟩
abbrev TIME_EDGE_CFG.off (i : Nat) : Nat := 0x04020C + i * 0x10
abbrev TIME_EDGE_CFG.BIND (i : Nat) : FRef := ⟨TIME_EDGE_CFG.off i, 31, 1⟩
abbrev TIME_EDGE_CFG.FILL (i : Nat) : FRef := ⟨TIME_EDGE_CFG.off i, 19, 9⟩
abbrev TIME_EDGE_CFG.POINT (i : Nat) : FRef := ⟨TIME_EDGE_CFG.off i, 0, 18⟩
abbrev TIME_ECAP.off (i : Nat) : Nat := 0x040280 + i * 4
abbrev TIME_ECAP.MASK (i : Nat) : FRef := ⟨TIME_ECAP.off i, 16, 16⟩
abbrev TIME_ECAP.EN (i : Nat) : FRef := ⟨TIME_ECAP.off i, 0, 16⟩
abbrev TIME_TRIG_LO.off (i : Nat) : Nat := 0x040300 + i * 8
abbrev TIME_TRIG_LO.TARGET (i : Nat) : FRef := ⟨TIME_TRIG_LO.off i, 0, 32⟩
abbrev TIME_TRIG_HI.off (i : Nat) : Nat := 0x040304 + i * 8
abbrev TIME_TRIG_HI.EN (i : Nat) : FRef := ⟨TIME_TRIG_HI.off i, 31, 1⟩
abbrev TIME_TRIG_HI.FIRED (i : Nat) : FRef := ⟨TIME_TRIG_HI.off i, 30, 1⟩
abbrev TIME_TRIG_HI.LATE (i : Nat) : FRef := ⟨TIME_TRIG_HI.off i, 29, 1⟩
abbrev TIME_TRIG_HI.TARGET (i : Nat) : FRef := ⟨TIME_TRIG_HI.off i, 0, 16⟩
abbrev TIME_LATE0.off : Nat := 0x040380
abbrev TIME_LATE0.VALID : FRef := ⟨TIME_LATE0.off, 31, 1⟩
abbrev TIME_LATE0.SERIAL : FRef := ⟨TIME_LATE0.off, 24, 7⟩
abbrev TIME_LATE0.CAUSE : FRef := ⟨TIME_LATE0.off, 16, 4⟩
abbrev TIME_LATE0.ACTION : FRef := ⟨TIME_LATE0.off, 8, 8⟩
abbrev TIME_LATE0.PIN : FRef := ⟨TIME_LATE0.off, 0, 8⟩
abbrev TIME_LATE1.off : Nat := 0x040384
abbrev TIME_LATE1.G : FRef := ⟨TIME_LATE1.off, 0, 32⟩
abbrev TIME_LATE2.off : Nat := 0x040388
abbrev TIME_LATE2.G : FRef := ⟨TIME_LATE2.off, 0, 16⟩
abbrev TIME_LATE3.off : Nat := 0x04038C
abbrev TIME_LATE3.RELEASE : FRef := ⟨TIME_LATE3.off, 0, 32⟩
abbrev TIME_LATE4.off : Nat := 0x040390
abbrev TIME_LATE4.ARG : FRef := ⟨TIME_LATE4.off, 18, 8⟩
abbrev TIME_LATE4.POINT : FRef := ⟨TIME_LATE4.off, 0, 18⟩
abbrev TIME_LATE_POP.off : Nat := 0x040394
abbrev TIME_LATE_POP.SERIAL : FRef := ⟨TIME_LATE_POP.off, 0, 7⟩
abbrev TIME_PTP_CFG.off (i : Nat) : Nat := 0x040400 + i * 0x40
abbrev TIME_PTP_CFG.EN (i : Nat) : FRef := ⟨TIME_PTP_CFG.off i, 31, 1⟩
abbrev TIME_PTP_CFG.L2 (i : Nat) : FRef := ⟨TIME_PTP_CFG.off i, 30, 1⟩
abbrev TIME_PTP_CFG.UDP4 (i : Nat) : FRef := ⟨TIME_PTP_CFG.off i, 29, 1⟩
abbrev TIME_PTP_CFG.ONESTEP (i : Nat) : FRef := ⟨TIME_PTP_CFG.off i, 28, 1⟩
abbrev TIME_PTP_CFG.TC (i : Nat) : FRef := ⟨TIME_PTP_CFG.off i, 26, 2⟩
abbrev TIME_PTP_LDLY.off (i : Nat) : Nat := 0x040404 + i * 0x40
abbrev TIME_PTP_LDLY.LDLY (i : Nat) : FRef := ⟨TIME_PTP_LDLY.off i, 0, 32⟩
abbrev TIME_PTP_TX_INFO.off (i : Nat) : Nat := 0x040408 + i * 0x40
abbrev TIME_PTP_TX_INFO.VALID (i : Nat) : FRef := ⟨TIME_PTP_TX_INFO.off i, 31, 1⟩
abbrev TIME_PTP_TX_INFO.MSGTYPE (i : Nat) : FRef := ⟨TIME_PTP_TX_INFO.off i, 24, 4⟩
abbrev TIME_PTP_TX_INFO.QNS (i : Nat) : FRef := ⟨TIME_PTP_TX_INFO.off i, 16, 2⟩
abbrev TIME_PTP_TX_INFO.SEQID (i : Nat) : FRef := ⟨TIME_PTP_TX_INFO.off i, 0, 16⟩
abbrev TIME_PTP_TX_NS.off (i : Nat) : Nat := 0x04040C + i * 0x40
abbrev TIME_PTP_TX_NS.NS (i : Nat) : FRef := ⟨TIME_PTP_TX_NS.off i, 0, 32⟩
abbrev TIME_PTP_TX_SEC_LO.off (i : Nat) : Nat := 0x040410 + i * 0x40
abbrev TIME_PTP_TX_SEC_LO.SEC (i : Nat) : FRef := ⟨TIME_PTP_TX_SEC_LO.off i, 0, 32⟩
abbrev TIME_PTP_TX_POP.off (i : Nat) : Nat := 0x040414 + i * 0x40
abbrev TIME_PTP_TX_POP.SEQID (i : Nat) : FRef := ⟨TIME_PTP_TX_POP.off i, 0, 16⟩
abbrev SEC_CFG.off : Nat := 0x050000
abbrev SEC_CFG.SVN_AUTO : FRef := ⟨SEC_CFG.off, 31, 1⟩
abbrev SEC_CFG.REKEY_H : FRef := ⟨SEC_CFG.off, 16, 8⟩
abbrev SEC_CFG.LIFE : FRef := ⟨SEC_CFG.off, 0, 16⟩
abbrev SEC_STAT.off : Nat := 0x050004
abbrev SEC_STAT.ERR : FRef := ⟨SEC_STAT.off, 31, 1⟩
abbrev SEC_STAT.TAMPER : FRef := ⟨SEC_STAT.off, 30, 1⟩
abbrev SEC_STAT.LIFE : FRef := ⟨SEC_STAT.off, 28, 2⟩
abbrev SEC_STAT.DEBUG : FRef := ⟨SEC_STAT.off, 27, 1⟩
abbrev SEC_STAT.BUSY : FRef := ⟨SEC_STAT.off, 26, 1⟩
abbrev SEC_STAT.MID : FRef := ⟨SEC_STAT.off, 21, 5⟩
abbrev SEC_STAT.KEYS : FRef := ⟨SEC_STAT.off, 8, 6⟩
abbrev SEC_STAT.SESS : FRef := ⟨SEC_STAT.off, 0, 4⟩
abbrev SEC_CMD.off : Nat := 0x050008
abbrev SEC_CMD.OP : FRef := ⟨SEC_CMD.off, 0, 3⟩
abbrev SEC_RESULT.off : Nat := 0x05000C
abbrev SEC_RESULT.CODE : FRef := ⟨SEC_RESULT.off, 0, 4⟩
abbrev SEC_SVN_MIN.off : Nat := 0x050010
abbrev SEC_SVN_MIN.SVN : FRef := ⟨SEC_SVN_MIN.off, 0, 32⟩
abbrev SEC_SESS_CMD.off : Nat := 0x050014
abbrev SEC_SESS_CMD.OP : FRef := ⟨SEC_SESS_CMD.off, 0, 2⟩
abbrev SEC_SESS_STAT.off : Nat := 0x050018
abbrev SEC_SESS_STAT.VALID : FRef := ⟨SEC_SESS_STAT.off, 31, 1⟩
abbrev SEC_SESS_STAT.REMAIN : FRef := ⟨SEC_SESS_STAT.off, 0, 16⟩
abbrev SEC_SAT.off : Nat := 0x05001C
abbrev SEC_SAT.SAT : FRef := ⟨SEC_SAT.off, 0, 4⟩
abbrev SEC_AUTH_FAIL.off : Nat := 0x050040
abbrev SEC_AUTH_FAIL.CNT : FRef := ⟨SEC_AUTH_FAIL.off, 0, 32⟩
abbrev SEC_KA_FAIL.off : Nat := 0x050044
abbrev SEC_KA_FAIL.CNT : FRef := ⟨SEC_KA_FAIL.off, 0, 32⟩
abbrev SEC_TAMPER_CNT.off : Nat := 0x050048
abbrev SEC_TAMPER_CNT.CNT : FRef := ⟨SEC_TAMPER_CNT.off, 0, 32⟩
abbrev SEC_CMD_ERR.off : Nat := 0x05004C
abbrev SEC_CMD_ERR.CNT : FRef := ⟨SEC_CMD_ERR.off, 0, 32⟩
abbrev SEC_NONCE.off (i : Nat) : Nat := 0x050100 + i * 4
abbrev SEC_NONCE.DATA (i : Nat) : FRef := ⟨SEC_NONCE.off i, 0, 32⟩
abbrev SEC_DIK.off (i : Nat) : Nat := 0x050200 + i * 4
abbrev SEC_DIK.DATA (i : Nat) : FRef := ⟨SEC_DIK.off i, 0, 32⟩
abbrev SEC_DIKSIG.off (i : Nat) : Nat := 0x050280 + i * 4
abbrev SEC_DIKSIG.DATA (i : Nat) : FRef := ⟨SEC_DIKSIG.off i, 0, 32⟩
abbrev SEC_BUF.off (i : Nat) : Nat := 0x050400 + i * 4
abbrev SEC_BUF.DATA (i : Nat) : FRef := ⟨SEC_BUF.off i, 0, 32⟩
abbrev CFG_BOOT.off : Nat := 0x060000
abbrev CFG_BOOT.FORMAT : FRef := ⟨CFG_BOOT.off, 16, 16⟩
abbrev CFG_BOOT.KIND : FRef := ⟨CFG_BOOT.off, 12, 2⟩
abbrev CFG_BOOT.FALLBACK : FRef := ⟨CFG_BOOT.off, 9, 1⟩
abbrev CFG_BOOT.SLOT : FRef := ⟨CFG_BOOT.off, 8, 1⟩
abbrev CFG_BOOT.STAGE : FRef := ⟨CFG_BOOT.off, 0, 3⟩
abbrev CFG_BOOT_ERR.off : Nat := 0x060004
abbrev CFG_BOOT_ERR.CAUSE1 : FRef := ⟨CFG_BOOT_ERR.off, 28, 4⟩
abbrev CFG_BOOT_ERR.CAUSE0 : FRef := ⟨CFG_BOOT_ERR.off, 24, 4⟩
abbrev CFG_BOOT_ERR.SECTION : FRef := ⟨CFG_BOOT_ERR.off, 16, 6⟩
abbrev CFG_BOOT_ERR.RECORD : FRef := ⟨CFG_BOOT_ERR.off, 0, 16⟩
abbrev CFG_RESET.off : Nat := 0x060008
abbrev CFG_RESET.KEY : FRef := ⟨CFG_RESET.off, 24, 8⟩
abbrev CFG_RESET.OP : FRef := ⟨CFG_RESET.off, 0, 2⟩
abbrev CFG_RST_CAUSE.off : Nat := 0x06000C
abbrev CFG_RST_CAUSE.MID : FRef := ⟨CFG_RST_CAUSE.off, 8, 5⟩
abbrev CFG_RST_CAUSE.SRC : FRef := ⟨CFG_RST_CAUSE.off, 4, 4⟩
abbrev CFG_RST_CAUSE.KIND : FRef := ⟨CFG_RST_CAUSE.off, 0, 2⟩
abbrev CFG_IMAGE_ID.off : Nat := 0x060010
abbrev CFG_IMAGE_ID.ID : FRef := ⟨CFG_IMAGE_ID.off, 0, 32⟩
abbrev CFG_IMAGE_SEQ.off : Nat := 0x060014
abbrev CFG_IMAGE_SEQ.SEQ : FRef := ⟨CFG_IMAGE_SEQ.off, 0, 32⟩
abbrev CFG_NOR.off : Nat := 0x060018
abbrev CFG_NOR.SIZE : FRef := ⟨CFG_NOR.off, 24, 8⟩
abbrev CFG_NOR.MODE : FRef := ⟨CFG_NOR.off, 8, 2⟩
abbrev CFG_NOR.MHZ : FRef := ⟨CFG_NOR.off, 0, 8⟩
abbrev CFG_T_BOOT.off : Nat := 0x06001C
abbrev CFG_T_BOOT.TIME : FRef := ⟨CFG_T_BOOT.off, 0, 16⟩
abbrev CFG_SAT.off : Nat := 0x060020
abbrev CFG_SAT.SAT : FRef := ⟨CFG_SAT.off, 0, 2⟩
abbrev CFG_RST_CNT.off : Nat := 0x060040
abbrev CFG_RST_CNT.CNT : FRef := ⟨CFG_RST_CNT.off, 0, 32⟩
abbrev CFG_FALLBACK_CNT.off : Nat := 0x060044
abbrev CFG_FALLBACK_CNT.CNT : FRef := ⟨CFG_FALLBACK_CNT.off, 0, 32⟩
abbrev UPD_CFG.off : Nat := 0x070000
abbrev UPD_CFG.AUTO_STAGE : FRef := ⟨UPD_CFG.off, 8, 1⟩
abbrev UPD_CFG.RATE : FRef := ⟨UPD_CFG.off, 4, 4⟩
abbrev UPD_CFG.EN : FRef := ⟨UPD_CFG.off, 0, 1⟩
abbrev UPD_STAT.off : Nat := 0x070004
abbrev UPD_STAT.APPLIED : FRef := ⟨UPD_STAT.off, 29, 1⟩
abbrev UPD_STAT.OLD : FRef := ⟨UPD_STAT.off, 28, 1⟩
abbrev UPD_STAT.BOOT : FRef := ⟨UPD_STAT.off, 27, 1⟩
abbrev UPD_STAT.BCAUSE : FRef := ⟨UPD_STAT.off, 20, 4⟩
abbrev UPD_STAT.CAUSE : FRef := ⟨UPD_STAT.off, 12, 4⟩
abbrev UPD_STAT.STATE : FRef := ⟨UPD_STAT.off, 0, 4⟩
abbrev UPD_CMD.off : Nat := 0x070008
abbrev UPD_CMD.OP : FRef := ⟨UPD_CMD.off, 0, 3⟩
abbrev UPD_PKG_ID.off : Nat := 0x07000C
abbrev UPD_PKG_ID.ID : FRef := ⟨UPD_PKG_ID.off, 0, 32⟩
abbrev UPD_PKG_SEQ.off : Nat := 0x070010
abbrev UPD_PKG_SEQ.SEQ : FRef := ⟨UPD_PKG_SEQ.off, 0, 32⟩
abbrev UPD_PROG.off : Nat := 0x070014
abbrev UPD_PROG.CHUNKS : FRef := ⟨UPD_PROG.off, 16, 15⟩
abbrev UPD_PROG.HAVE : FRef := ⟨UPD_PROG.off, 0, 15⟩
abbrev UPD_HO_CFG.off : Nat := 0x070018
abbrev UPD_HO_CFG.DEADLINE : FRef := ⟨UPD_HO_CFG.off, 16, 8⟩
abbrev UPD_HO_CFG.LEAD : FRef := ⟨UPD_HO_CFG.off, 0, 16⟩
abbrev UPD_HO_STAT.off : Nat := 0x07001C
abbrev UPD_HO_STAT.GAP : FRef := ⟨UPD_HO_STAT.off, 0, 16⟩
abbrev UPD_INJ_CTRL.off : Nat := 0x070020
abbrev UPD_INJ_CTRL.BUSY : FRef := ⟨UPD_INJ_CTRL.off, 31, 1⟩
abbrev UPD_INJ_CTRL.INDEX : FRef := ⟨UPD_INJ_CTRL.off, 14, 15⟩
abbrev UPD_INJ_CTRL.LEN : FRef := ⟨UPD_INJ_CTRL.off, 0, 14⟩
abbrev UPD_SAT.off : Nat := 0x070024
abbrev UPD_SAT.SAT : FRef := ⟨UPD_SAT.off, 0, 5⟩
abbrev UPD_TAG_ERR.off : Nat := 0x070040
abbrev UPD_TAG_ERR.CNT : FRef := ⟨UPD_TAG_ERR.off, 0, 32⟩
abbrev UPD_REFUSE_CNT.off : Nat := 0x070044
abbrev UPD_REFUSE_CNT.CNT : FRef := ⟨UPD_REFUSE_CNT.off, 0, 32⟩
abbrev UPD_RESEND_CNT.off : Nat := 0x070048
abbrev UPD_RESEND_CNT.CNT : FRef := ⟨UPD_RESEND_CNT.off, 0, 32⟩
abbrev UPD_ABORT_CNT.off : Nat := 0x07004C
abbrev UPD_ABORT_CNT.CNT : FRef := ⟨UPD_ABORT_CNT.off, 0, 32⟩
abbrev UPD_CFGERR_CNT.off : Nat := 0x070050
abbrev UPD_CFGERR_CNT.CNT : FRef := ⟨UPD_CFGERR_CNT.off, 0, 32⟩
abbrev UPD_INJ_BUF.off (i : Nat) : Nat := 0x074000 + i * 4
abbrev UPD_INJ_BUF.DATA (i : Nat) : FRef := ⟨UPD_INJ_BUF.off i, 0, 32⟩
abbrev RING_CFG.off : Nat := 0x080000
abbrev RING_CFG.JOIN : FRef := ⟨RING_CFG.off, 8, 4⟩
abbrev RING_CFG.ELIG : FRef := ⟨RING_CFG.off, 1, 1⟩
abbrev RING_CFG.EN : FRef := ⟨RING_CFG.off, 0, 1⟩
abbrev RING_STAT.off : Nat := 0x080004
abbrev RING_STAT.TAKEOVER : FRef := ⟨RING_STAT.off, 12, 1⟩
abbrev RING_STAT.HANDOFF : FRef := ⟨RING_STAT.off, 11, 1⟩
abbrev RING_STAT.SLOT_ERR : FRef := ⟨RING_STAT.off, 10, 1⟩
abbrev RING_STAT.MAP_ERR : FRef := ⟨RING_STAT.off, 9, 1⟩
abbrev RING_STAT.K_ERR : FRef := ⟨RING_STAT.off, 8, 1⟩
abbrev RING_STAT.APPLY_PEND : FRef := ⟨RING_STAT.off, 5, 1⟩
abbrev RING_STAT.ROLE : FRef := ⟨RING_STAT.off, 0, 3⟩
abbrev RING_ROLE.off : Nat := 0x080008
abbrev RING_ROLE.BACKUP : FRef := ⟨RING_ROLE.off, 16, 16⟩
abbrev RING_ROLE.MASTER : FRef := ⟨RING_ROLE.off, 0, 16⟩
abbrev RING_CYCLE.off : Nat := 0x08000C
abbrev RING_CYCLE.CYCLE : FRef := ⟨RING_CYCLE.off, 0, 32⟩
abbrev RING_PASS.off : Nat := 0x080010
abbrev RING_PASS.OFFSET : FRef := ⟨RING_PASS.off, 0, 32⟩
abbrev RING_LAP.off : Nat := 0x080014
abbrev RING_LAP.LAP : FRef := ⟨RING_LAP.off, 0, 32⟩
abbrev RING_LAP_MAX.off : Nat := 0x080018
abbrev RING_LAP_MAX.LAP : FRef := ⟨RING_LAP_MAX.off, 0, 32⟩
abbrev RING_SAT.off : Nat := 0x08001C
abbrev RING_SAT.SAT : FRef := ⟨RING_SAT.off, 0, 6⟩
abbrev RING_MAP.off : Nat := 0x080020
abbrev RING_MAP.MAP_ID : FRef := ⟨RING_MAP.off, 0, 32⟩
abbrev RING_SUM.off : Nat := 0x080024
abbrev RING_SUM.FRAMES : FRef := ⟨RING_SUM.off, 16, 11⟩
abbrev RING_SUM.LEN : FRef := ⟨RING_SUM.off, 0, 15⟩
abbrev RING_MISS_CNT.off : Nat := 0x080040
abbrev RING_MISS_CNT.CNT : FRef := ⟨RING_MISS_CNT.off, 0, 32⟩
abbrev RING_LATE_CNT.off : Nat := 0x080044
abbrev RING_LATE_CNT.CNT : FRef := ⟨RING_LATE_CNT.off, 0, 32⟩
abbrev RING_SLICE_ERR.off : Nat := 0x080048
abbrev RING_SLICE_ERR.CNT : FRef := ⟨RING_SLICE_ERR.off, 0, 32⟩
abbrev RING_OVERRUN_CNT.off : Nat := 0x08004C
abbrev RING_OVERRUN_CNT.CNT : FRef := ⟨RING_OVERRUN_CNT.off, 0, 32⟩
abbrev RING_CFGERR_CNT.off : Nat := 0x080050
abbrev RING_CFGERR_CNT.CNT : FRef := ⟨RING_CFGERR_CNT.off, 0, 32⟩
abbrev RING_MASTER_CHG.off : Nat := 0x080054
abbrev RING_MASTER_CHG.CNT : FRef := ⟨RING_MASTER_CHG.off, 0, 32⟩
abbrev RING_NEXT_CYC.off : Nat := 0x080100
abbrev RING_NEXT_CYC.K : FRef := ⟨RING_NEXT_CYC.off, 0, 4⟩
abbrev RING_NEXT_S.off : Nat := 0x080104
abbrev RING_NEXT_S.LEN : FRef := ⟨RING_NEXT_S.off, 0, 20⟩
abbrev RING_NEXT_C.off : Nat := 0x080108
abbrev RING_NEXT_C.LEN : FRef := ⟨RING_NEXT_C.off, 0, 20⟩
abbrev RING_NEXT_W.off : Nat := 0x08010C
abbrev RING_NEXT_W.LEN : FRef := ⟨RING_NEXT_W.off, 0, 20⟩
abbrev RING_NEXT_T.off : Nat := 0x080110
abbrev RING_NEXT_T.LEN : FRef := ⟨RING_NEXT_T.off, 0, 20⟩
abbrev RING_NEXT_G.off : Nat := 0x080114
abbrev RING_NEXT_G.LEN : FRef := ⟨RING_NEXT_G.off, 0, 20⟩
abbrev RING_APPLY_LO.off : Nat := 0x080118
abbrev RING_APPLY_LO.TIME : FRef := ⟨RING_APPLY_LO.off, 0, 32⟩
abbrev RING_APPLY_HI.off : Nat := 0x08011C
abbrev RING_APPLY_HI.TIME : FRef := ⟨RING_APPLY_HI.off, 0, 16⟩
abbrev RING_ACT_CYC.off : Nat := 0x080140
abbrev RING_ACT_CYC.K : FRef := ⟨RING_ACT_CYC.off, 0, 4⟩
abbrev RING_ACT_S.off : Nat := 0x080144
abbrev RING_ACT_S.LEN : FRef := ⟨RING_ACT_S.off, 0, 20⟩
abbrev RING_ACT_C.off : Nat := 0x080148
abbrev RING_ACT_C.LEN : FRef := ⟨RING_ACT_C.off, 0, 20⟩
abbrev RING_ACT_W.off : Nat := 0x08014C
abbrev RING_ACT_W.LEN : FRef := ⟨RING_ACT_W.off, 0, 20⟩
abbrev RING_ACT_T.off : Nat := 0x080150
abbrev RING_ACT_T.LEN : FRef := ⟨RING_ACT_T.off, 0, 20⟩
abbrev RING_ACT_G.off : Nat := 0x080154
abbrev RING_ACT_G.LEN : FRef := ⟨RING_ACT_G.off, 0, 20⟩
abbrev RING_SLOT.off : Nat := 0x080200
abbrev RING_SLOT.VALID : FRef := ⟨RING_SLOT.off, 31, 1⟩
abbrev RING_SLOT.FRAME : FRef := ⟨RING_SLOT.off, 20, 10⟩
abbrev RING_SLOT.OFFSET : FRef := ⟨RING_SLOT.off, 8, 10⟩
abbrev RING_SLOT.LEN : FRef := ⟨RING_SLOT.off, 0, 8⟩
abbrev RING_PUB_SEL.off : Nat := 0x080210
abbrev RING_PUB_SEL.RANGE : FRef := ⟨RING_PUB_SEL.off, 0, 4⟩
abbrev RING_PUB_CFG.off : Nat := 0x080214
abbrev RING_PUB_CFG.VALID : FRef := ⟨RING_PUB_CFG.off, 31, 1⟩
abbrev RING_PUB_CFG.COUNT : FRef := ⟨RING_PUB_CFG.off, 18, 8⟩
abbrev RING_PUB_CFG.FIRST : FRef := ⟨RING_PUB_CFG.off, 0, 18⟩
abbrev RING_SUB_SEL.off : Nat := 0x080300
abbrev RING_SUB_SEL.ENTRY : FRef := ⟨RING_SUB_SEL.off, 0, 10⟩
abbrev RING_SUB_NODE.off : Nat := 0x080304
abbrev RING_SUB_NODE.VALID : FRef := ⟨RING_SUB_NODE.off, 31, 1⟩
abbrev RING_SUB_NODE.NODE : FRef := ⟨RING_SUB_NODE.off, 0, 16⟩
abbrev RING_SUB_SLOT.off : Nat := 0x080308
abbrev RING_SUB_SLOT.FRAME : FRef := ⟨RING_SUB_SLOT.off, 22, 10⟩
abbrev RING_SUB_SLOT.OFFSET : FRef := ⟨RING_SUB_SLOT.off, 12, 10⟩
abbrev RING_SUB_SLOT.FIRST : FRef := ⟨RING_SUB_SLOT.off, 4, 8⟩
abbrev RING_SUB_DST.off : Nat := 0x08030C
abbrev RING_SUB_DST.COUNT : FRef := ⟨RING_SUB_DST.off, 18, 8⟩
abbrev RING_SUB_DST.POINT : FRef := ⟨RING_SUB_DST.off, 0, 18⟩
abbrev PORT_CFG.off (p : Nat) : Nat := 0x0A0000 + p / 2 * 0x4000 + p % 2 * 0x1000
abbrev PORT_CFG.DEG_THR (p : Nat) : FRef := ⟨PORT_CFG.off p, 24, 8⟩
abbrev PORT_CFG.SEC (p : Nat) : FRef := ⟨PORT_CFG.off p, 5, 1⟩
abbrev PORT_CFG.FEC (p : Nat) : FRef := ⟨PORT_CFG.off p, 4, 1⟩
abbrev PORT_CFG.MODE (p : Nat) : FRef := ⟨PORT_CFG.off p, 0, 2⟩
abbrev PORT_STAT.off (p : Nat) : Nat := 0x0A0004 + p / 2 * 0x4000 + p % 2 * 0x1000
abbrev PORT_STAT.LOSS (p : Nat) : FRef := ⟨PORT_STAT.off p, 16, 3⟩
abbrev PORT_STAT.NBR_CHG (p : Nat) : FRef := ⟨PORT_STAT.off p, 15, 1⟩
abbrev PORT_STAT.CHK (p : Nat) : FRef := ⟨PORT_STAT.off p, 12, 3⟩
abbrev PORT_STAT.TURNED (p : Nat) : FRef := ⟨PORT_STAT.off p, 9, 1⟩
abbrev PORT_STAT.LOCK (p : Nat) : FRef := ⟨PORT_STAT.off p, 8, 1⟩
abbrev PORT_STAT.SD (p : Nat) : FRef := ⟨PORT_STAT.off p, 7, 1⟩
abbrev PORT_STAT.STATE (p : Nat) : FRef := ⟨PORT_STAT.off p, 0, 3⟩
abbrev PORT_NBR.off (p : Nat) : Nat := 0x0A0008 + p / 2 * 0x4000 + p % 2 * 0x1000
abbrev PORT_NBR.VALID (p : Nat) : FRef := ⟨PORT_NBR.off p, 31, 1⟩
abbrev PORT_NBR.PORT (p : Nat) : FRef := ⟨PORT_NBR.off p, 16, 2⟩
abbrev PORT_NBR.NODE_ID (p : Nat) : FRef := ⟨PORT_NBR.off p, 0, 16⟩
abbrev PORT_LDLY.off (p : Nat) : Nat := 0x0A000C + p / 2 * 0x4000 + p % 2 * 0x1000
abbrev PORT_LDLY.DELAY (p : Nat) : FRef := ⟨PORT_LDLY.off p, 0, 32⟩
abbrev PORT_RES_LAST.off (p : Nat) : Nat := 0x0A0010 + p / 2 * 0x4000 + p % 2 * 0x1000
abbrev PORT_RES_LAST.RES (p : Nat) : FRef := ⟨PORT_RES_LAST.off p, 0, 32⟩
abbrev PORT_RES_MAX.off (p : Nat) : Nat := 0x0A0014 + p / 2 * 0x4000 + p % 2 * 0x1000
abbrev PORT_RES_MAX.RES (p : Nat) : FRef := ⟨PORT_RES_MAX.off p, 0, 32⟩
abbrev PORT_SA_CTRL.off (p : Nat) : Nat := 0x0A0018 + p / 2 * 0x4000 + p % 2 * 0x1000
abbrev PORT_SA_CTRL.RX_EN (p : Nat) : FRef := ⟨PORT_SA_CTRL.off p, 4, 4⟩
abbrev PORT_SA_CTRL.TX_AN (p : Nat) : FRef := ⟨PORT_SA_CTRL.off p, 0, 2⟩
abbrev PORT_SA_STAT.off (p : Nat) : Nat := 0x0A001C + p / 2 * 0x4000 + p % 2 * 0x1000
abbrev PORT_SA_STAT.REKEY (p : Nat) : FRef := ⟨PORT_SA_STAT.off p, 31, 1⟩
abbrev PORT_SA_STAT.RX_KEY (p : Nat) : FRef := ⟨PORT_SA_STAT.off p, 8, 4⟩
abbrev PORT_SA_STAT.TX_KEY (p : Nat) : FRef := ⟨PORT_SA_STAT.off p, 4, 4⟩
abbrev PORT_SA_STAT.TX_ACT (p : Nat) : FRef := ⟨PORT_SA_STAT.off p, 0, 2⟩
abbrev PORT_TX_PN.off (p : Nat) : Nat := 0x0A0020 + p / 2 * 0x4000 + p % 2 * 0x1000
abbrev PORT_TX_PN.PN (p : Nat) : FRef := ⟨PORT_TX_PN.off p, 0, 32⟩
abbrev PORT_SAT.off (p : Nat) : Nat := 0x0A0024 + p / 2 * 0x4000 + p % 2 * 0x1000
abbrev PORT_SAT.SAT (p : Nat) : FRef := ⟨PORT_SAT.off p, 0, 11⟩
abbrev PORT_HDR_ERR.off (p : Nat) : Nat := 0x0A0040 + p / 2 * 0x4000 + p % 2 * 0x1000
abbrev PORT_HDR_ERR.CNT (p : Nat) : FRef := ⟨PORT_HDR_ERR.off p, 0, 32⟩
abbrev PORT_CRC_ERR.off (p : Nat) : Nat := 0x0A0044 + p / 2 * 0x4000 + p % 2 * 0x1000
abbrev PORT_CRC_ERR.CNT (p : Nat) : FRef := ⟨PORT_CRC_ERR.off p, 0, 32⟩
abbrev PORT_STOMP_RX.off (p : Nat) : Nat := 0x0A0048 + p / 2 * 0x4000 + p % 2 * 0x1000
abbrev PORT_STOMP_RX.CNT (p : Nat) : FRef := ⟨PORT_STOMP_RX.off p, 0, 32⟩
abbrev PORT_ICV_ERR.off (p : Nat) : Nat := 0x0A004C + p / 2 * 0x4000 + p % 2 * 0x1000
abbrev PORT_ICV_ERR.CNT (p : Nat) : FRef := ⟨PORT_ICV_ERR.off p, 0, 32⟩
abbrev PORT_SA_ERR.off (p : Nat) : Nat := 0x0A0050 + p / 2 * 0x4000 + p % 2 * 0x1000
abbrev PORT_SA_ERR.CNT (p : Nat) : FRef := ⟨PORT_SA_ERR.off p, 0, 32⟩
abbrev PORT_HOP_DROP.off (p : Nat) : Nat := 0x0A0054 + p / 2 * 0x4000 + p % 2 * 0x1000
abbrev PORT_HOP_DROP.CNT (p : Nat) : FRef := ⟨PORT_HOP_DROP.off p, 0, 32⟩
abbrev PORT_TURN_DROP.off (p : Nat) : Nat := 0x0A0058 + p / 2 * 0x4000 + p % 2 * 0x1000
abbrev PORT_TURN_DROP.CNT (p : Nat) : FRef := ⟨PORT_TURN_DROP.off p, 0, 32⟩
abbrev PORT_EPOCH_DROP.off (p : Nat) : Nat := 0x0A005C + p / 2 * 0x4000 + p % 2 * 0x1000
abbrev PORT_EPOCH_DROP.CNT (p : Nat) : FRef := ⟨PORT_EPOCH_DROP.off p, 0, 32⟩
abbrev PORT_LOSS_CNT.off (p : Nat) : Nat := 0x0A0060 + p / 2 * 0x4000 + p % 2 * 0x1000
abbrev PORT_LOSS_CNT.CNT (p : Nat) : FRef := ⟨PORT_LOSS_CNT.off p, 0, 32⟩
abbrev PORT_FEC_CORR.off (p : Nat) : Nat := 0x0A0064 + p / 2 * 0x4000 + p % 2 * 0x1000
abbrev PORT_FEC_CORR.CNT (p : Nat) : FRef := ⟨PORT_FEC_CORR.off p, 0, 32⟩
abbrev PORT_FEC_UNCORR.off (p : Nat) : Nat := 0x0A0068 + p / 2 * 0x4000 + p % 2 * 0x1000
abbrev PORT_FEC_UNCORR.CNT (p : Nat) : FRef := ⟨PORT_FEC_UNCORR.off p, 0, 32⟩
abbrev PORT_RX_BYTES_LO.off (p : Nat) : Nat := 0x0A0080 + p / 2 * 0x4000 + p % 2 * 0x1000
abbrev PORT_RX_BYTES_LO.VAL (p : Nat) : FRef := ⟨PORT_RX_BYTES_LO.off p, 0, 32⟩
abbrev PORT_RX_BYTES_HI.off (p : Nat) : Nat := 0x0A0084 + p / 2 * 0x4000 + p % 2 * 0x1000
abbrev PORT_RX_BYTES_HI.VAL (p : Nat) : FRef := ⟨PORT_RX_BYTES_HI.off p, 0, 32⟩
abbrev PORT_TX_BYTES_LO.off (p : Nat) : Nat := 0x0A0088 + p / 2 * 0x4000 + p % 2 * 0x1000
abbrev PORT_TX_BYTES_LO.VAL (p : Nat) : FRef := ⟨PORT_TX_BYTES_LO.off p, 0, 32⟩
abbrev PORT_TX_BYTES_HI.off (p : Nat) : Nat := 0x0A008C + p / 2 * 0x4000 + p % 2 * 0x1000
abbrev PORT_TX_BYTES_HI.VAL (p : Nat) : FRef := ⟨PORT_TX_BYTES_HI.off p, 0, 32⟩
abbrev PORT_RX_FRAMES_LO.off (p : Nat) : Nat := 0x0A0090 + p / 2 * 0x4000 + p % 2 * 0x1000
abbrev PORT_RX_FRAMES_LO.VAL (p : Nat) : FRef := ⟨PORT_RX_FRAMES_LO.off p, 0, 32⟩
abbrev PORT_RX_FRAMES_HI.off (p : Nat) : Nat := 0x0A0094 + p / 2 * 0x4000 + p % 2 * 0x1000
abbrev PORT_RX_FRAMES_HI.VAL (p : Nat) : FRef := ⟨PORT_RX_FRAMES_HI.off p, 0, 32⟩
abbrev PORT_TX_FRAMES_LO.off (p : Nat) : Nat := 0x0A0098 + p / 2 * 0x4000 + p % 2 * 0x1000
abbrev PORT_TX_FRAMES_LO.VAL (p : Nat) : FRef := ⟨PORT_TX_FRAMES_LO.off p, 0, 32⟩
abbrev PORT_TX_FRAMES_HI.off (p : Nat) : Nat := 0x0A009C + p / 2 * 0x4000 + p % 2 * 0x1000
abbrev PORT_TX_FRAMES_HI.VAL (p : Nat) : FRef := ⟨PORT_TX_FRAMES_HI.off p, 0, 32⟩
abbrev PORT_RING.off (i : Nat) : Nat := 0x0A2000 + i * 0x4000
abbrev PORT_RING.BREAK_ID (i : Nat) : FRef := ⟨PORT_RING.off i, 16, 16⟩
abbrev PORT_RING.WRAPPED (i : Nat) : FRef := ⟨PORT_RING.off i, 9, 1⟩
abbrev PORT_RING.UNWRAP_PEND (i : Nat) : FRef := ⟨PORT_RING.off i, 8, 1⟩
abbrev PORT_RING.EPOCH (i : Nat) : FRef := ⟨PORT_RING.off i, 0, 8⟩
abbrev PORT_HEAL.off (i : Nat) : Nat := 0x0A2004 + i * 0x4000
abbrev PORT_HEAL.BACKOFF (i : Nat) : FRef := ⟨PORT_HEAL.off i, 31, 1⟩
abbrev PORT_HEAL.HOLD (i : Nat) : FRef := ⟨PORT_HEAL.off i, 0, 14⟩
abbrev PORT_LDLY_CFG.off (i : Nat) : Nat := 0x0A2008 + i * 0x4000
abbrev PORT_LDLY_CFG.PERIOD (i : Nat) : FRef := ⟨PORT_LDLY_CFG.off i, 0, 10⟩
abbrev PORT_BYP.off : Nat := 0x0A200C
abbrev PORT_BYP.PIN : FRef := ⟨PORT_BYP.off, 1, 1⟩
abbrev PORT_BYP.INSERT : FRef := ⟨PORT_BYP.off, 0, 1⟩
abbrev FLOW_CTRL.off : Nat := 0x0C0000
abbrev FLOW_CTRL.COMMIT : FRef := ⟨FLOW_CTRL.off, 0, 7⟩
abbrev FLOW_TIMING.off : Nat := 0x0C0004
abbrev FLOW_TIMING.REACH : FRef := ⟨FLOW_TIMING.off, 20, 12⟩
abbrev FLOW_TIMING.RETRY : FRef := ⟨FLOW_TIMING.off, 0, 10⟩
abbrev FLOW_STAT.off : Nat := 0x0C0008
abbrev FLOW_STAT.RESERVE_LOW : FRef := ⟨FLOW_STAT.off, 9, 1⟩
abbrev FLOW_STAT.DOUBT : FRef := ⟨FLOW_STAT.off, 8, 1⟩
abbrev FLOW_STAT.BUDGET : FRef := ⟨FLOW_STAT.off, 4, 1⟩
abbrev FLOW_STAT.STATE : FRef := ⟨FLOW_STAT.off, 0, 2⟩
abbrev FLOW_LOAD.off : Nat := 0x0C000C
abbrev FLOW_LOAD.INB : FRef := ⟨FLOW_LOAD.off, 16, 13⟩
abbrev FLOW_LOAD.OUT : FRef := ⟨FLOW_LOAD.off, 0, 13⟩
abbrev FLOW_JRNL.off : Nat := 0x0C0010
abbrev FLOW_JRNL.RETIRED : FRef := ⟨FLOW_JRNL.off, 16, 16⟩
abbrev FLOW_JRNL.LIVE : FRef := ⟨FLOW_JRNL.off, 0, 16⟩
abbrev FLOW_SAT.off : Nat := 0x0C0014
abbrev FLOW_SAT.SAT : FRef := ⟨FLOW_SAT.off, 0, 12⟩
abbrev FLOW_BP_CNT.off : Nat := 0x0C0040
abbrev FLOW_BP_CNT.CNT : FRef := ⟨FLOW_BP_CNT.off, 0, 32⟩
abbrev FLOW_DUP_CNT.off : Nat := 0x0C0044
abbrev FLOW_DUP_CNT.CNT : FRef := ⟨FLOW_DUP_CNT.off, 0, 32⟩
abbrev FLOW_HOLD_DROP.off : Nat := 0x0C0048
abbrev FLOW_HOLD_DROP.CNT : FRef := ⟨FLOW_HOLD_DROP.off, 0, 32⟩
abbrev FLOW_INB_FULL.off : Nat := 0x0C004C
abbrev FLOW_INB_FULL.CNT : FRef := ⟨FLOW_INB_FULL.off, 0, 32⟩
abbrev FLOW_RESEND_CNT.off : Nat := 0x0C0050
abbrev FLOW_RESEND_CNT.CNT : FRef := ⟨FLOW_RESEND_CNT.off, 0, 32⟩
abbrev FLOW_DOUBT_CNT.off : Nat := 0x0C0054
abbrev FLOW_DOUBT_CNT.CNT : FRef := ⟨FLOW_DOUBT_CNT.off, 0, 32⟩
abbrev FLOW_LOST_CNT.off : Nat := 0x0C0058
abbrev FLOW_LOST_CNT.CNT : FRef := ⟨FLOW_LOST_CNT.off, 0, 32⟩
abbrev FLOW_TORN_CNT.off : Nat := 0x0C005C
abbrev FLOW_TORN_CNT.CNT : FRef := ⟨FLOW_TORN_CNT.off, 0, 32⟩
abbrev FLOW_ECC_CORR.off : Nat := 0x0C0060
abbrev FLOW_ECC_CORR.CNT : FRef := ⟨FLOW_ECC_CORR.off, 0, 32⟩
abbrev FLOW_ECC_UNCORR.off : Nat := 0x0C0064
abbrev FLOW_ECC_UNCORR.CNT : FRef := ⟨FLOW_ECC_UNCORR.off, 0, 32⟩
abbrev FLOW_ACK_STRAY.off : Nat := 0x0C0068
abbrev FLOW_ACK_STRAY.CNT : FRef := ⟨FLOW_ACK_STRAY.off, 0, 32⟩
abbrev FLOW_CFGERR_CNT.off : Nat := 0x0C006C
abbrev FLOW_CFGERR_CNT.CNT : FRef := ⟨FLOW_CFGERR_CNT.off, 0, 32⟩
abbrev FLOW_ACC_LO.off : Nat := 0x0C0080
abbrev FLOW_ACC_LO.VAL : FRef := ⟨FLOW_ACC_LO.off, 0, 32⟩
abbrev FLOW_ACC_HI.off : Nat := 0x0C0084
abbrev FLOW_ACC_HI.VAL : FRef := ⟨FLOW_ACC_HI.off, 0, 32⟩
abbrev FLOW_APPLIED_LO.off : Nat := 0x0C0088
abbrev FLOW_APPLIED_LO.VAL : FRef := ⟨FLOW_APPLIED_LO.off, 0, 32⟩
abbrev FLOW_APPLIED_HI.off : Nat := 0x0C008C
abbrev FLOW_APPLIED_HI.VAL : FRef := ⟨FLOW_APPLIED_HI.off, 0, 32⟩
abbrev FLOW_LINES_LO.off : Nat := 0x0C0090
abbrev FLOW_LINES_LO.VAL : FRef := ⟨FLOW_LINES_LO.off, 0, 32⟩
abbrev FLOW_LINES_HI.off : Nat := 0x0C0094
abbrev FLOW_LINES_HI.VAL : FRef := ⟨FLOW_LINES_HI.off, 0, 32⟩
abbrev FLOW_SEL.off : Nat := 0x0C0100
abbrev FLOW_SEL.FLOW : FRef := ⟨FLOW_SEL.off, 0, 10⟩
abbrev FLOW_CFG.off : Nat := 0x0C0104
abbrev FLOW_CFG.VALID : FRef := ⟨FLOW_CFG.off, 31, 1⟩
abbrev FLOW_CFG.GROUP : FRef := ⟨FLOW_CFG.off, 30, 1⟩
abbrev FLOW_CFG.NODE : FRef := ⟨FLOW_CFG.off, 0, 16⟩
abbrev FLOW_FSTAT.off : Nat := 0x0C0108
abbrev FLOW_FSTAT.DOUBT : FRef := ⟨FLOW_FSTAT.off, 16, 9⟩
abbrev FLOW_FSTAT.OUT : FRef := ⟨FLOW_FSTAT.off, 0, 9⟩
abbrev FLOW_NEXT.off : Nat := 0x0C010C
abbrev FLOW_NEXT.SEQ : FRef := ⟨FLOW_NEXT.off, 0, 32⟩
abbrev FLOW_LOW.off : Nat := 0x0C0110
abbrev FLOW_LOW.SEQ : FRef := ⟨FLOW_LOW.off, 0, 32⟩
abbrev FLOW_INC.off : Nat := 0x0C0114
abbrev FLOW_INC.INC : FRef := ⟨FLOW_INC.off, 0, 32⟩
abbrev FLOW_CMD.off : Nat := 0x0C0118
abbrev FLOW_CMD.OP : FRef := ⟨FLOW_CMD.off, 0, 2⟩
abbrev FLOW_GRP_SEL.off : Nat := 0x0C0200
abbrev FLOW_GRP_SEL.GROUP : FRef := ⟨FLOW_GRP_SEL.off, 0, 8⟩
abbrev FLOW_GRP_CFG.off : Nat := 0x0C0204
abbrev FLOW_GRP_CFG.VALID : FRef := ⟨FLOW_GRP_CFG.off, 31, 1⟩
abbrev FLOW_GRP_CFG.COUNT : FRef := ⟨FLOW_GRP_CFG.off, 16, 13⟩
abbrev FLOW_GRP_CFG.FIRST : FRef := ⟨FLOW_GRP_CFG.off, 0, 12⟩
abbrev FLOW_MEM_SEL.off : Nat := 0x0C0210
abbrev FLOW_MEM_SEL.ENTRY : FRef := ⟨FLOW_MEM_SEL.off, 0, 12⟩
abbrev FLOW_MEM.off : Nat := 0x0C0214
abbrev FLOW_MEM.NODE : FRef := ⟨FLOW_MEM.off, 0, 16⟩
abbrev FLOW_GRPMEM.off (i : Nat) : Nat := 0x0C0220 + i * 4
abbrev FLOW_GRPMEM.MEMBER (i : Nat) : FRef := ⟨FLOW_GRPMEM.off i, 0, 32⟩
abbrev PNT_STAT.off : Nat := 0x0E0000
abbrev PNT_STAT.TILE_SAT : FRef := ⟨PNT_STAT.off, 31, 1⟩
abbrev PNT_STAT.REJECT_SAT : FRef := ⟨PNT_STAT.off, 30, 1⟩
abbrev PNT_STAT.STALE_SAT : FRef := ⟨PNT_STAT.off, 29, 1⟩
abbrev PNT_STAT.CFGERR_SAT : FRef := ⟨PNT_STAT.off, 28, 1⟩
abbrev PNT_STAT.REPEAT : FRef := ⟨PNT_STAT.off, 9, 1⟩
abbrev PNT_STAT.PATROL_LATE : FRef := ⟨PNT_STAT.off, 8, 1⟩
abbrev PNT_STAT.LAST_ERR : FRef := ⟨PNT_STAT.off, 0, 4⟩
abbrev PNT_PATROL.off : Nat := 0x0E0004
abbrev PNT_PATROL.PERIOD : FRef := ⟨PNT_PATROL.off, 16, 12⟩
abbrev PNT_PATROL.EN : FRef := ⟨PNT_PATROL.off, 0, 1⟩
abbrev PNT_TILE_LAST.off : Nat := 0x0E0008
abbrev PNT_TILE_LAST.VALID : FRef := ⟨PNT_TILE_LAST.off, 31, 1⟩
abbrev PNT_TILE_LAST.TILE : FRef := ⟨PNT_TILE_LAST.off, 0, 14⟩
abbrev PNT_TILE_CNT.off : Nat := 0x0E000C
abbrev PNT_TILE_CNT.CNT : FRef := ⟨PNT_TILE_CNT.off, 0, 32⟩
abbrev PNT_REJECT_CNT.off : Nat := 0x0E0010
abbrev PNT_REJECT_CNT.CNT : FRef := ⟨PNT_REJECT_CNT.off, 0, 32⟩
abbrev PNT_STALE_CNT.off : Nat := 0x0E0014
abbrev PNT_STALE_CNT.CNT : FRef := ⟨PNT_STALE_CNT.off, 0, 32⟩
abbrev PNT_CFGERR_CNT.off : Nat := 0x0E0018
abbrev PNT_CFGERR_CNT.CNT : FRef := ⟨PNT_CFGERR_CNT.off, 0, 32⟩
abbrev PNT_PROF_SEL.off : Nat := 0x0E0100
abbrev PNT_PROF_SEL.PROF : FRef := ⟨PNT_PROF_SEL.off, 0, 8⟩
abbrev PNT_PROF_CFG.off : Nat := 0x0E0104
abbrev PNT_PROF_CFG.FLOW : FRef := ⟨PNT_PROF_CFG.off, 16, 10⟩
abbrev PNT_PROF_CFG.ONSTALE : FRef := ⟨PNT_PROF_CFG.off, 10, 1⟩
abbrev PNT_PROF_CFG.RMT_WR : FRef := ⟨PNT_PROF_CFG.off, 9, 1⟩
abbrev PNT_PROF_CFG.RMT_RD : FRef := ⟨PNT_PROF_CFG.off, 8, 1⟩
abbrev PNT_PROF_CFG.WR : FRef := ⟨PNT_PROF_CFG.off, 4, 4⟩
abbrev PNT_PROF_CFG.OWNER : FRef := ⟨PNT_PROF_CFG.off, 0, 3⟩
abbrev PNT_PROF_FRESH.off : Nat := 0x0E0108
abbrev PNT_PROF_FRESH.FRESH : FRef := ⟨PNT_PROF_FRESH.off, 0, 23⟩
abbrev PNT_PROF_SAFE_LO.off : Nat := 0x0E010C
abbrev PNT_PROF_SAFE_LO.VALUE : FRef := ⟨PNT_PROF_SAFE_LO.off, 0, 32⟩
abbrev PNT_PROF_SAFE_HI.off : Nat := 0x0E0110
abbrev PNT_PROF_SAFE_HI.VALUE : FRef := ⟨PNT_PROF_SAFE_HI.off, 0, 32⟩
abbrev PNT_ATTR_SEL.off : Nat := 0x0E0200
abbrev PNT_ATTR_SEL.POINT : FRef := ⟨PNT_ATTR_SEL.off, 0, 18⟩
abbrev PNT_ATTR_DATA.off : Nat := 0x0E0204
abbrev PNT_ATTR_DATA.PROF : FRef := ⟨PNT_ATTR_DATA.off, 8, 8⟩
abbrev PNT_ATTR_DATA.TYPE : FRef := ⟨PNT_ATTR_DATA.off, 0, 4⟩
abbrev PNT_OUT_SEL.off : Nat := 0x0E0300
abbrev PNT_OUT_SEL.ENTRY : FRef := ⟨PNT_OUT_SEL.off, 0, 12⟩
abbrev PNT_OUT_CFG.off : Nat := 0x0E0304
abbrev PNT_OUT_CFG.VALID : FRef := ⟨PNT_OUT_CFG.off, 31, 1⟩
abbrev PNT_OUT_CFG.FLOW : FRef := ⟨PNT_OUT_CFG.off, 18, 10⟩
abbrev PNT_OUT_CFG.POINT : FRef := ⟨PNT_OUT_CFG.off, 0, 18⟩
abbrev PNT_OUT_DST_LO.off : Nat := 0x0E0308
abbrev PNT_OUT_DST_LO.ADDR : FRef := ⟨PNT_OUT_DST_LO.off, 0, 32⟩
abbrev PNT_OUT_DST_HI.off : Nat := 0x0E030C
abbrev PNT_OUT_DST_HI.ADDR : FRef := ⟨PNT_OUT_DST_HI.off, 0, 32⟩
abbrev PNT_WIN_SEL.off : Nat := 0x0E0400
abbrev PNT_WIN_SEL.WINDOW : FRef := ⟨PNT_WIN_SEL.off, 0, 8⟩
abbrev PNT_WIN_CFG.off : Nat := 0x0E0404
abbrev PNT_WIN_CFG.VALID : FRef := ⟨PNT_WIN_CFG.off, 31, 1⟩
abbrev PNT_WIN_CFG.KIND : FRef := ⟨PNT_WIN_CFG.off, 24, 3⟩
abbrev PNT_WIN_CFG.PORT : FRef := ⟨PNT_WIN_CFG.off, 16, 6⟩
abbrev PNT_WIN_CFG.UNIT : FRef := ⟨PNT_WIN_CFG.off, 8, 8⟩
abbrev PNT_WIN_CFG.TMO : FRef := ⟨PNT_WIN_CFG.off, 0, 8⟩
abbrev SW_STAT.off : Nat := 0x100000
abbrev SW_STAT.REPEAT : FRef := ⟨SW_STAT.off, 16, 1⟩
abbrev SW_STAT.VALID : FRef := ⟨SW_STAT.off, 15, 1⟩
abbrev SW_STAT.TILE : FRef := ⟨SW_STAT.off, 0, 15⟩
abbrev SW_POOL.off : Nat := 0x100004
abbrev SW_POOL.SUM : FRef := ⟨SW_POOL.off, 16, 16⟩
abbrev SW_POOL.FREE : FRef := ⟨SW_POOL.off, 0, 16⟩
abbrev SW_SAT.off : Nat := 0x100008
abbrev SW_SAT.SAT : FRef := ⟨SW_SAT.off, 0, 7⟩
abbrev SW_OVERRUN.off : Nat := 0x100040
abbrev SW_OVERRUN.CNT : FRef := ⟨SW_OVERRUN.off, 0, 32⟩
abbrev SW_CT_ABORT.off : Nat := 0x100044
abbrev SW_CT_ABORT.CNT : FRef := ⟨SW_CT_ABORT.off, 0, 32⟩
abbrev SW_TILE_ERR.off : Nat := 0x100048
abbrev SW_TILE_ERR.CNT : FRef := ⟨SW_TILE_ERR.off, 0, 32⟩
abbrev SW_MC_PARTIAL.off : Nat := 0x10004C
abbrev SW_MC_PARTIAL.CNT : FRef := ⟨SW_MC_PARTIAL.off, 0, 32⟩
abbrev SW_LINK_DROP.off : Nat := 0x100050
abbrev SW_LINK_DROP.CNT : FRef := ⟨SW_LINK_DROP.off, 0, 32⟩
abbrev SW_MIR_SKIP.off : Nat := 0x100054
abbrev SW_MIR_SKIP.CNT : FRef := ⟨SW_MIR_SKIP.off, 0, 32⟩
abbrev SW_CFGERR_CNT.off : Nat := 0x100058
abbrev SW_CFGERR_CNT.CNT : FRef := ⟨SW_CFGERR_CNT.off, 0, 32⟩
abbrev SW_LIM_SEL.off : Nat := 0x100100
abbrev SW_LIM_SEL.PORT : FRef := ⟨SW_LIM_SEL.off, 3, 4⟩
abbrev SW_LIM_SEL.CLASS : FRef := ⟨SW_LIM_SEL.off, 0, 3⟩
abbrev SW_LIM.off : Nat := 0x100104
abbrev SW_LIM.LIMIT : FRef := ⟨SW_LIM.off, 0, 15⟩
abbrev SW_FILL.off : Nat := 0x100108
abbrev SW_FILL.FILL : FRef := ⟨SW_FILL.off, 0, 15⟩
abbrev SW_FWD_SEL.off : Nat := 0x100200
abbrev SW_FWD_SEL.ENTRY : FRef := ⟨SW_FWD_SEL.off, 0, 10⟩
abbrev SW_FWD_KEY_LO.off : Nat := 0x100204
abbrev SW_FWD_KEY_LO.MAC : FRef := ⟨SW_FWD_KEY_LO.off, 0, 32⟩
abbrev SW_FWD_KEY_HI.off : Nat := 0x100208
abbrev SW_FWD_KEY_HI.VALID : FRef := ⟨SW_FWD_KEY_HI.off, 31, 1⟩
abbrev SW_FWD_KEY_HI.VID : FRef := ⟨SW_FWD_KEY_HI.off, 16, 12⟩
abbrev SW_FWD_KEY_HI.MAC : FRef := ⟨SW_FWD_KEY_HI.off, 0, 16⟩
abbrev SW_FWD_PORTS.off : Nat := 0x10020C
abbrev SW_FWD_PORTS.DEST : FRef := ⟨SW_FWD_PORTS.off, 4, 7⟩
abbrev SW_CRED.off (i : Nat) : Nat := 0x100300 + i * 4
abbrev SW_CRED.ARR_L (i : Nat) : FRef := ⟨SW_CRED.off i, 24, 8⟩
abbrev SW_CRED.ARR_H (i : Nat) : FRef := ⟨SW_CRED.off i, 16, 8⟩
abbrev SW_CRED.CRED_L (i : Nat) : FRef := ⟨SW_CRED.off i, 8, 8⟩
abbrev SW_CRED.CRED_H (i : Nat) : FRef := ⟨SW_CRED.off i, 0, 8⟩
abbrev SW_MIR_CFG.off (i : Nat) : Nat := 0x100400 + i * 0x10
abbrev SW_MIR_CFG.EN (i : Nat) : FRef := ⟨SW_MIR_CFG.off i, 31, 1⟩
abbrev SW_MIR_CFG.DEST (i : Nat) : FRef := ⟨SW_MIR_CFG.off i, 16, 2⟩
abbrev SW_MIR_CFG.MCLASS (i : Nat) : FRef := ⟨SW_MIR_CFG.off i, 12, 3⟩
abbrev SW_MIR_CFG.SNAP (i : Nat) : FRef := ⟨SW_MIR_CFG.off i, 0, 11⟩
abbrev SW_MIR_SRC.off (i : Nat) : Nat := 0x100404 + i * 0x10
abbrev SW_MIR_SRC.EG (i : Nat) : FRef := ⟨SW_MIR_SRC.off i, 16, 11⟩
abbrev SW_MIR_SRC.IN (i : Nat) : FRef := ⟨SW_MIR_SRC.off i, 0, 11⟩
abbrev SW_RATE.off (i : Nat) : Nat := 0x100500 + i * 4
abbrev SW_RATE.RATE (i : Nat) : FRef := ⟨SW_RATE.off i, 0, 8⟩
abbrev ETH_CFG.off (i : Nat) : Nat := 0x120000 + i * 0x1000
abbrev ETH_CFG.FC (i : Nat) : FRef := ⟨ETH_CFG.off i, 4, 2⟩
abbrev ETH_CFG.AN (i : Nat) : FRef := ⟨ETH_CFG.off i, 2, 1⟩
abbrev ETH_CFG.MODE (i : Nat) : FRef := ⟨ETH_CFG.off i, 0, 2⟩
abbrev ETH_STAT.off (i : Nat) : Nat := 0x120004 + i * 0x1000
abbrev ETH_STAT.PAUSED (i : Nat) : FRef := ⟨ETH_STAT.off i, 24, 8⟩
abbrev ETH_STAT.XOFF (i : Nat) : FRef := ⟨ETH_STAT.off i, 16, 8⟩
abbrev ETH_STAT.LP_PAUSE (i : Nat) : FRef := ⟨ETH_STAT.off i, 2, 2⟩
abbrev ETH_STAT.AN_DONE (i : Nat) : FRef := ⟨ETH_STAT.off i, 1, 1⟩
abbrev ETH_STAT.LINK (i : Nat) : FRef := ⟨ETH_STAT.off i, 0, 1⟩
abbrev ETH_FC.off (i : Nat) : Nat := 0x120008 + i * 0x1000
abbrev ETH_FC.XON_FREE (i : Nat) : FRef := ⟨ETH_FC.off i, 16, 6⟩
abbrev ETH_FC.XOFF_FREE (i : Nat) : FRef := ⟨ETH_FC.off i, 0, 6⟩
abbrev ETH_CLASS_MAP.off (i : Nat) : Nat := 0x12000C + i * 0x1000
abbrev ETH_CLASS_MAP.DEF (i : Nat) : FRef := ⟨ETH_CLASS_MAP.off i, 24, 3⟩
abbrev ETH_CLASS_MAP.PCP (i : Nat) : FRef := ⟨ETH_CLASS_MAP.off i, 0, 24⟩
abbrev ETH_PRI_MAP.off (i : Nat) : Nat := 0x120010 + i * 0x1000
abbrev ETH_PRI_MAP.PRI (i : Nat) : FRef := ⟨ETH_PRI_MAP.off i, 0, 24⟩
abbrev ETH_FLOOD.off (i : Nat) : Nat := 0x120014 + i * 0x1000
abbrev ETH_FLOOD.DEST (i : Nat) : FRef := ⟨ETH_FLOOD.off i, 4, 7⟩
abbrev ETH_MDIO_CMD.off (i : Nat) : Nat := 0x120018 + i * 0x1000
abbrev ETH_MDIO_CMD.GO (i : Nat) : FRef := ⟨ETH_MDIO_CMD.off i, 31, 1⟩
abbrev ETH_MDIO_CMD.C45 (i : Nat) : FRef := ⟨ETH_MDIO_CMD.off i, 30, 1⟩
abbrev ETH_MDIO_CMD.OP (i : Nat) : FRef := ⟨ETH_MDIO_CMD.off i, 28, 2⟩
abbrev ETH_MDIO_CMD.PHYAD (i : Nat) : FRef := ⟨ETH_MDIO_CMD.off i, 21, 5⟩
abbrev ETH_MDIO_CMD.REG (i : Nat) : FRef := ⟨ETH_MDIO_CMD.off i, 16, 5⟩
abbrev ETH_MDIO_CMD.DATA (i : Nat) : FRef := ⟨ETH_MDIO_CMD.off i, 0, 16⟩
abbrev ETH_MDIO_STAT.off (i : Nat) : Nat := 0x12001C + i * 0x1000
abbrev ETH_MDIO_STAT.BUSY (i : Nat) : FRef := ⟨ETH_MDIO_STAT.off i, 31, 1⟩
abbrev ETH_MDIO_STAT.OVR (i : Nat) : FRef := ⟨ETH_MDIO_STAT.off i, 30, 1⟩
abbrev ETH_MDIO_STAT.DATA (i : Nat) : FRef := ⟨ETH_MDIO_STAT.off i, 0, 16⟩
abbrev ETH_SAT.off (i : Nat) : Nat := 0x120020 + i * 0x1000
abbrev ETH_SAT.SAT (i : Nat) : FRef := ⟨ETH_SAT.off i, 0, 6⟩
abbrev ETH_FCS_ERR.off (i : Nat) : Nat := 0x120040 + i * 0x1000
abbrev ETH_FCS_ERR.CNT (i : Nat) : FRef := ⟨ETH_FCS_ERR.off i, 0, 32⟩
abbrev ETH_LEN_ERR.off (i : Nat) : Nat := 0x120044 + i * 0x1000
abbrev ETH_LEN_ERR.CNT (i : Nat) : FRef := ⟨ETH_LEN_ERR.off i, 0, 32⟩
abbrev ETH_CODE_ERR.off (i : Nat) : Nat := 0x120048 + i * 0x1000
abbrev ETH_CODE_ERR.CNT (i : Nat) : FRef := ⟨ETH_CODE_ERR.off i, 0, 32⟩
abbrev ETH_NOTGT.off (i : Nat) : Nat := 0x12004C + i * 0x1000
abbrev ETH_NOTGT.CNT (i : Nat) : FRef := ⟨ETH_NOTGT.off i, 0, 32⟩
abbrev ETH_PAUSE_RX.off (i : Nat) : Nat := 0x120050 + i * 0x1000
abbrev ETH_PAUSE_RX.CNT (i : Nat) : FRef := ⟨ETH_PAUSE_RX.off i, 0, 32⟩
abbrev ETH_PAUSE_TX.off (i : Nat) : Nat := 0x120054 + i * 0x1000
abbrev ETH_PAUSE_TX.CNT (i : Nat) : FRef := ⟨ETH_PAUSE_TX.off i, 0, 32⟩
abbrev ETH_RX_BYTES_LO.off (i : Nat) : Nat := 0x120080 + i * 0x1000
abbrev ETH_RX_BYTES_LO.VAL (i : Nat) : FRef := ⟨ETH_RX_BYTES_LO.off i, 0, 32⟩
abbrev ETH_RX_BYTES_HI.off (i : Nat) : Nat := 0x120084 + i * 0x1000
abbrev ETH_RX_BYTES_HI.VAL (i : Nat) : FRef := ⟨ETH_RX_BYTES_HI.off i, 0, 32⟩
abbrev ETH_TX_BYTES_LO.off (i : Nat) : Nat := 0x120088 + i * 0x1000
abbrev ETH_TX_BYTES_LO.VAL (i : Nat) : FRef := ⟨ETH_TX_BYTES_LO.off i, 0, 32⟩
abbrev ETH_TX_BYTES_HI.off (i : Nat) : Nat := 0x12008C + i * 0x1000
abbrev ETH_TX_BYTES_HI.VAL (i : Nat) : FRef := ⟨ETH_TX_BYTES_HI.off i, 0, 32⟩
abbrev ETH_RX_FRAMES_LO.off (i : Nat) : Nat := 0x120090 + i * 0x1000
abbrev ETH_RX_FRAMES_LO.VAL (i : Nat) : FRef := ⟨ETH_RX_FRAMES_LO.off i, 0, 32⟩
abbrev ETH_RX_FRAMES_HI.off (i : Nat) : Nat := 0x120094 + i * 0x1000
abbrev ETH_RX_FRAMES_HI.VAL (i : Nat) : FRef := ⟨ETH_RX_FRAMES_HI.off i, 0, 32⟩
abbrev ETH_TX_FRAMES_LO.off (i : Nat) : Nat := 0x120098 + i * 0x1000
abbrev ETH_TX_FRAMES_LO.VAL (i : Nat) : FRef := ⟨ETH_TX_FRAMES_LO.off i, 0, 32⟩
abbrev ETH_TX_FRAMES_HI.off (i : Nat) : Nat := 0x12009C + i * 0x1000
abbrev ETH_TX_FRAMES_HI.VAL (i : Nat) : FRef := ⟨ETH_TX_FRAMES_HI.off i, 0, 32⟩
abbrev BRG_CFG.off : Nat := 0x140000
abbrev BRG_CFG.CLAIM : FRef := ⟨BRG_CFG.off, 16, 10⟩
abbrev BRG_CFG.PF : FRef := ⟨BRG_CFG.off, 8, 1⟩
abbrev BRG_CFG.WAIT : FRef := ⟨BRG_CFG.off, 0, 4⟩
abbrev BRG_STAT.off : Nat := 0x140004
abbrev BRG_STAT.STR_PEND : FRef := ⟨BRG_STAT.off, 31, 1⟩
abbrev BRG_STAT.PWF_PEND : FRef := ⟨BRG_STAT.off, 30, 1⟩
abbrev BRG_STAT.STR_USED : FRef := ⟨BRG_STAT.off, 24, 6⟩
abbrev BRG_STAT.DR_USED : FRef := ⟨BRG_STAT.off, 16, 7⟩
abbrev BRG_STAT.PW_FILL : FRef := ⟨BRG_STAT.off, 0, 9⟩
abbrev BRG_PW_SEQ.off : Nat := 0x140008
abbrev BRG_PW_SEQ.DRAINED : FRef := ⟨BRG_PW_SEQ.off, 16, 16⟩
abbrev BRG_PW_SEQ.NEXT : FRef := ⟨BRG_PW_SEQ.off, 0, 16⟩
abbrev BRG_PW_RES.off : Nat := 0x14000C
abbrev BRG_PW_RES.RESOLVED : FRef := ⟨BRG_PW_RES.off, 0, 16⟩
abbrev BRG_SAT.off : Nat := 0x140010
abbrev BRG_SAT.SAT : FRef := ⟨BRG_SAT.off, 0, 6⟩
abbrev BRG_DR_EXPIRE.off : Nat := 0x140040
abbrev BRG_DR_EXPIRE.CNT : FRef := ⟨BRG_DR_EXPIRE.off, 0, 32⟩
abbrev BRG_STRAND_CNT.off : Nat := 0x140044
abbrev BRG_STRAND_CNT.CNT : FRef := ⟨BRG_STRAND_CNT.off, 0, 32⟩
abbrev BRG_PWF_OVF.off : Nat := 0x140048
abbrev BRG_PWF_OVF.CNT : FRef := ⟨BRG_PWF_OVF.off, 0, 32⟩
abbrev BRG_BACKOFF_CNT.off : Nat := 0x14004C
abbrev BRG_BACKOFF_CNT.CNT : FRef := ⟨BRG_BACKOFF_CNT.off, 0, 32⟩
abbrev BRG_PF_DROP.off : Nat := 0x140050
abbrev BRG_PF_DROP.CNT : FRef := ⟨BRG_PF_DROP.off, 0, 32⟩
abbrev BRG_CFGERR_CNT.off : Nat := 0x140054
abbrev BRG_CFGERR_CNT.CNT : FRef := ⟨BRG_CFGERR_CNT.off, 0, 32⟩
abbrev BRG_PWF0.off : Nat := 0x140080
abbrev BRG_PWF0.VALID : FRef := ⟨BRG_PWF0.off, 31, 1⟩
abbrev BRG_PWF0.STAGE : FRef := ⟨BRG_PWF0.off, 28, 3⟩
abbrev BRG_PWF0.STATUS : FRef := ⟨BRG_PWF0.off, 16, 8⟩
abbrev BRG_PWF0.PWSEQ : FRef := ⟨BRG_PWF0.off, 0, 16⟩
abbrev BRG_PWF1.off : Nat := 0x140084
abbrev BRG_PWF1.ADDR : FRef := ⟨BRG_PWF1.off, 0, 32⟩
abbrev BRG_PWF2.off : Nat := 0x140088
abbrev BRG_PWF2.ADDR : FRef := ⟨BRG_PWF2.off, 0, 32⟩
abbrev BRG_PWF3.off : Nat := 0x14008C
abbrev BRG_PWF3.SEQ : FRef := ⟨BRG_PWF3.off, 0, 32⟩
abbrev BRG_PWF4.off : Nat := 0x140090
abbrev BRG_PWF4.TIME : FRef := ⟨BRG_PWF4.off, 0, 32⟩
abbrev BRG_PWF_POP.off : Nat := 0x140094
abbrev BRG_PWF_POP.PWSEQ : FRef := ⟨BRG_PWF_POP.off, 0, 16⟩
abbrev BRG_STR0.off : Nat := 0x1400A0
abbrev BRG_STR0.VALID : FRef := ⟨BRG_STR0.off, 31, 1⟩
abbrev BRG_STR0.SERIAL : FRef := ⟨BRG_STR0.off, 24, 7⟩
abbrev BRG_STR0.STATUS : FRef := ⟨BRG_STR0.off, 16, 8⟩
abbrev BRG_STR0.LEN : FRef := ⟨BRG_STR0.off, 8, 8⟩
abbrev BRG_STR0.TAG : FRef := ⟨BRG_STR0.off, 0, 8⟩
abbrev BRG_STR1.off : Nat := 0x1400A4
abbrev BRG_STR1.ADDR : FRef := ⟨BRG_STR1.off, 0, 32⟩
abbrev BRG_STR2.off : Nat := 0x1400A8
abbrev BRG_STR2.ADDR : FRef := ⟨BRG_STR2.off, 0, 32⟩
abbrev BRG_STR3.off : Nat := 0x1400AC
abbrev BRG_STR3.TIME : FRef := ⟨BRG_STR3.off, 0, 32⟩
abbrev BRG_STR4.off : Nat := 0x1400B0
abbrev BRG_STR4.DATA : FRef := ⟨BRG_STR4.off, 0, 32⟩
abbrev BRG_STR5.off : Nat := 0x1400B4
abbrev BRG_STR5.DATA : FRef := ⟨BRG_STR5.off, 0, 32⟩
abbrev BRG_STR6.off : Nat := 0x1400B8
abbrev BRG_STR6.DATA : FRef := ⟨BRG_STR6.off, 0, 32⟩
abbrev BRG_STR7.off : Nat := 0x1400BC
abbrev BRG_STR7.DATA : FRef := ⟨BRG_STR7.off, 0, 32⟩
abbrev BRG_STR_POP.off : Nat := 0x1400C0
abbrev BRG_STR_POP.SERIAL : FRef := ⟨BRG_STR_POP.off, 0, 7⟩
abbrev BRG_ROUTE_SEL.off : Nat := 0x140100
abbrev BRG_ROUTE_SEL.ENTRY : FRef := ⟨BRG_ROUTE_SEL.off, 0, 8⟩
abbrev BRG_ROUTE.off : Nat := 0x140104
abbrev BRG_ROUTE.VALID : FRef := ⟨BRG_ROUTE.off, 31, 1⟩
abbrev BRG_ROUTE.FLOW : FRef := ⟨BRG_ROUTE.off, 16, 10⟩
abbrev BRG_ROUTE.NODE : FRef := ⟨BRG_ROUTE.off, 0, 16⟩
abbrev BRG_SIG_SEL.off : Nat := 0x140200
abbrev BRG_SIG_SEL.ENTRY : FRef := ⟨BRG_SIG_SEL.off, 0, 11⟩
abbrev BRG_SIG_SRC.off : Nat := 0x140204
abbrev BRG_SIG_SRC.VALID : FRef := ⟨BRG_SIG_SRC.off, 31, 1⟩
abbrev BRG_SIG_SRC.DIR : FRef := ⟨BRG_SIG_SRC.off, 30, 1⟩
abbrev BRG_SIG_SRC.KIND : FRef := ⟨BRG_SIG_SRC.off, 27, 3⟩
abbrev BRG_SIG_SRC.MOTOROLA : FRef := ⟨BRG_SIG_SRC.off, 26, 1⟩
abbrev BRG_SIG_SRC.SIGNED : FRef := ⟨BRG_SIG_SRC.off, 25, 1⟩
abbrev BRG_SIG_SRC.QGATE : FRef := ⟨BRG_SIG_SRC.off, 24, 1⟩
abbrev BRG_SIG_SRC.UNIT : FRef := ⟨BRG_SIG_SRC.off, 20, 4⟩
abbrev BRG_SIG_SRC.OBJ : FRef := ⟨BRG_SIG_SRC.off, 12, 8⟩
abbrev BRG_SIG_SRC.BITPOS : FRef := ⟨BRG_SIG_SRC.off, 0, 12⟩
abbrev BRG_SIG_DST.off : Nat := 0x140208
abbrev BRG_SIG_DST.BITLEN : FRef := ⟨BRG_SIG_DST.off, 18, 7⟩
abbrev BRG_SIG_DST.POINT : FRef := ⟨BRG_SIG_DST.off, 0, 18⟩
abbrev BRG_TUN_SEL.off : Nat := 0x140300
abbrev BRG_TUN_SEL.TUNNEL : FRef := ⟨BRG_TUN_SEL.off, 0, 8⟩
abbrev BRG_TUN_CFG.off : Nat := 0x140304
abbrev BRG_TUN_CFG.VALID : FRef := ⟨BRG_TUN_CFG.off, 31, 1⟩
abbrev BRG_TUN_CFG.MODE : FRef := ⟨BRG_TUN_CFG.off, 30, 1⟩
abbrev BRG_TUN_CFG.KIND : FRef := ⟨BRG_TUN_CFG.off, 28, 2⟩
abbrev BRG_TUN_CFG.FLOW : FRef := ⟨BRG_TUN_CFG.off, 0, 10⟩
abbrev BRG_TUN_LOCAL.off : Nat := 0x140308
abbrev BRG_TUN_LOCAL.A : FRef := ⟨BRG_TUN_LOCAL.off, 24, 8⟩
abbrev BRG_TUN_LOCAL.B : FRef := ⟨BRG_TUN_LOCAL.off, 16, 8⟩
abbrev BRG_TUN_LOCAL.C : FRef := ⟨BRG_TUN_LOCAL.off, 0, 16⟩
abbrev BRG_TUN_REMOTE.off : Nat := 0x14030C
abbrev BRG_TUN_REMOTE.RTUN : FRef := ⟨BRG_TUN_REMOTE.off, 16, 8⟩
abbrev BRG_TUN_REMOTE.NODE : FRef := ⟨BRG_TUN_REMOTE.off, 0, 16⟩
abbrev HST_CFG.off : Nat := 0x280000
abbrev HST_CFG.CRC : FRef := ⟨HST_CFG.off, 2, 1⟩
abbrev HST_CFG.LINES : FRef := ⟨HST_CFG.off, 0, 2⟩
abbrev HST_STAT.off : Nat := 0x280004
abbrev HST_STAT.RST : FRef := ⟨HST_STAT.off, 8, 1⟩
abbrev HST_STAT.DOWN : FRef := ⟨HST_STAT.off, 4, 1⟩
abbrev HST_STAT.LINES : FRef := ⟨HST_STAT.off, 0, 2⟩
abbrev HST_ATTN.off : Nat := 0x280008
abbrev HST_ATTN.EVT : FRef := ⟨HST_ATTN.off, 4, 1⟩
abbrev HST_ATTN.PW_LOST : FRef := ⟨HST_ATTN.off, 3, 1⟩
abbrev HST_ATTN.DR_DONE : FRef := ⟨HST_ATTN.off, 2, 1⟩
abbrev HST_ATTN.STR : FRef := ⟨HST_ATTN.off, 1, 1⟩
abbrev HST_ATTN.PWF : FRef := ⟨HST_ATTN.off, 0, 1⟩
abbrev HST_ATTN_EN.off : Nat := 0x28000C
abbrev HST_ATTN_EN.EN : FRef := ⟨HST_ATTN_EN.off, 0, 5⟩
abbrev HST_PW_LOST.off : Nat := 0x280010
abbrev HST_PW_LOST.FIRST : FRef := ⟨HST_PW_LOST.off, 16, 16⟩
abbrev HST_PW_LOST.COUNT : FRef := ⟨HST_PW_LOST.off, 0, 9⟩
abbrev HST_SAT.off : Nat := 0x280014
abbrev HST_SAT.SAT : FRef := ⟨HST_SAT.off, 0, 3⟩
abbrev HST_CRC_ERR.off : Nat := 0x280040
abbrev HST_CRC_ERR.CNT : FRef := ⟨HST_CRC_ERR.off, 0, 32⟩
abbrev HST_ABORT_CNT.off : Nat := 0x280044
abbrev HST_ABORT_CNT.CNT : FRef := ⟨HST_ABORT_CNT.off, 0, 32⟩
abbrev HST_OPC_ERR.off : Nat := 0x280048
abbrev HST_OPC_ERR.CNT : FRef := ⟨HST_OPC_ERR.off, 0, 32⟩
abbrev FH_CTRL.off : Nat := 0x240000
abbrev FH_CTRL.RESUME : FRef := ⟨FH_CTRL.off, 24, 8⟩
abbrev FH_CTRL.WDOG : FRef := ⟨FH_CTRL.off, 16, 8⟩
abbrev FH_CTRL.STEP_TMO : FRef := ⟨FH_CTRL.off, 8, 8⟩
abbrev FH_CTRL.REARM : FRef := ⟨FH_CTRL.off, 3, 1⟩
abbrev FH_CTRL.SAFE_JETS : FRef := ⟨FH_CTRL.off, 2, 1⟩
abbrev FH_CTRL.SAFE_PINS : FRef := ⟨FH_CTRL.off, 1, 1⟩
abbrev FH_CTRL.FO_EN : FRef := ⟨FH_CTRL.off, 0, 1⟩
abbrev FH_STAT.off : Nat := 0x240004
abbrev FH_STAT.SAFE : FRef := ⟨FH_STAT.off, 25, 1⟩
abbrev FH_STAT.ACTIVE : FRef := ⟨FH_STAT.off, 24, 1⟩
abbrev FH_STAT.STATE_B : FRef := ⟨FH_STAT.off, 16, 3⟩
abbrev FH_STAT.STATE_A : FRef := ⟨FH_STAT.off, 0, 3⟩
abbrev FH_CMD.off : Nat := 0x240008
abbrev FH_CMD.OP : FRef := ⟨FH_CMD.off, 0, 3⟩
abbrev FH_WDOG.off : Nat := 0x24000C
abbrev FH_WDOG.KICK : FRef := ⟨FH_WDOG.off, 0, 16⟩
abbrev FH_CKPT_CFG.off : Nat := 0x240010
abbrev FH_CKPT_CFG.EN : FRef := ⟨FH_CKPT_CFG.off, 31, 1⟩
abbrev FH_CKPT_CFG.INTERVAL : FRef := ⟨FH_CKPT_CFG.off, 0, 10⟩
abbrev FH_CKPT_STAT.off : Nat := 0x240014
abbrev FH_CKPT_STAT.BUSY : FRef := ⟨FH_CKPT_STAT.off, 31, 1⟩
abbrev FH_CKPT_STAT.SLOT : FRef := ⟨FH_CKPT_STAT.off, 30, 1⟩
abbrev FH_CKPT_STAT.VALID : FRef := ⟨FH_CKPT_STAT.off, 29, 1⟩
abbrev FH_CKPT_SEQ.off : Nat := 0x240018
abbrev FH_CKPT_SEQ.SEQ : FRef := ⟨FH_CKPT_SEQ.off, 0, 32⟩
abbrev FH_PROOF_CFG.off : Nat := 0x24001C
abbrev FH_PROOF_CFG.EN : FRef := ⟨FH_PROOF_CFG.off, 31, 1⟩
abbrev FH_PROOF_CFG.PERIOD : FRef := ⟨FH_PROOF_CFG.off, 0, 10⟩
abbrev FH_PROOF_STAT.off : Nat := 0x240020
abbrev FH_PROOF_STAT.DONE : FRef := ⟨FH_PROOF_STAT.off, 31, 1⟩
abbrev FH_PROOF_STAT.PASS : FRef := ⟨FH_PROOF_STAT.off, 30, 1⟩
abbrev FH_PROOF_STAT.STEP : FRef := ⟨FH_PROOF_STAT.off, 24, 3⟩
abbrev FH_PROOF_STAT.AGE : FRef := ⟨FH_PROOF_STAT.off, 0, 16⟩
abbrev FH_MISM.off : Nat := 0x240024
abbrev FH_MISM.VALID : FRef := ⟨FH_MISM.off, 31, 1⟩
abbrev FH_MISM.UNIT : FRef := ⟨FH_MISM.off, 30, 1⟩
abbrev FH_MISM.CAUSE : FRef := ⟨FH_MISM.off, 24, 3⟩
abbrev FH_MISM.CORE : FRef := ⟨FH_MISM.off, 22, 2⟩
abbrev FH_MISM.KIND : FRef := ⟨FH_MISM.off, 20, 2⟩
abbrev FH_MISM_ADDR.off : Nat := 0x240028
abbrev FH_MISM_ADDR.ADDR : FRef := ⟨FH_MISM_ADDR.off, 0, 32⟩
abbrev FH_FO_TIME.off : Nat := 0x24002C
abbrev FH_FO_TIME.TIME : FRef := ⟨FH_FO_TIME.off, 0, 16⟩
abbrev FH_SAT.off : Nat := 0x240030
abbrev FH_SAT.SAT : FRef := ⟨FH_SAT.off, 0, 7⟩
abbrev FH_FO_CNT.off : Nat := 0x240040
abbrev FH_FO_CNT.CNT : FRef := ⟨FH_FO_CNT.off, 0, 32⟩
abbrev FH_TRIG_CNT.off : Nat := 0x240044
abbrev FH_TRIG_CNT.CNT : FRef := ⟨FH_TRIG_CNT.off, 0, 32⟩
abbrev FH_ECC_CORR.off : Nat := 0x240048
abbrev FH_ECC_CORR.CNT : FRef := ⟨FH_ECC_CORR.off, 0, 32⟩
abbrev FH_PROOF_FAIL.off : Nat := 0x24004C
abbrev FH_PROOF_FAIL.CNT : FRef := ⟨FH_PROOF_FAIL.off, 0, 32⟩
abbrev FH_OVERRUN_CNT.off : Nat := 0x240050
abbrev FH_OVERRUN_CNT.CNT : FRef := ⟨FH_OVERRUN_CNT.off, 0, 32⟩
abbrev FH_CKPT_SKIP.off : Nat := 0x240054
abbrev FH_CKPT_SKIP.CNT : FRef := ⟨FH_CKPT_SKIP.off, 0, 32⟩
abbrev FH_CFGERR_CNT.off : Nat := 0x240058
abbrev FH_CFGERR_CNT.CNT : FRef := ⟨FH_CFGERR_CNT.off, 0, 32⟩
abbrev FH_LOST0.off : Nat := 0x240060
abbrev FH_LOST0.VALID : FRef := ⟨FH_LOST0.off, 31, 1⟩
abbrev FH_LOST0.STATUS : FRef := ⟨FH_LOST0.off, 8, 8⟩
abbrev FH_LOST0.LEN : FRef := ⟨FH_LOST0.off, 0, 4⟩
abbrev FH_LOST1.off : Nat := 0x240064
abbrev FH_LOST1.ADDR : FRef := ⟨FH_LOST1.off, 0, 32⟩
abbrev FH_LOST2.off : Nat := 0x240068
abbrev FH_LOST2.ADDR : FRef := ⟨FH_LOST2.off, 0, 32⟩
abbrev FH_LOST3.off : Nat := 0x24006C
abbrev FH_LOST3.DATA : FRef := ⟨FH_LOST3.off, 0, 32⟩
abbrev FH_LOST4.off : Nat := 0x240070
abbrev FH_LOST4.DATA : FRef := ⟨FH_LOST4.off, 0, 32⟩
abbrev FH_BANKS.off : Nat := 0x240080
abbrev FH_BANKS.PROG : FRef := ⟨FH_BANKS.off, 0, 8⟩
abbrev FH_CKPT_RGN.off (i : Nat) : Nat := 0x240100 + i * 4
abbrev FH_CKPT_RGN.VALID (i : Nat) : FRef := ⟨FH_CKPT_RGN.off i, 31, 1⟩
abbrev FH_CKPT_RGN.LEN (i : Nat) : FRef := ⟨FH_CKPT_RGN.off i, 20, 10⟩
abbrev FH_CKPT_RGN.BASE (i : Nat) : FRef := ⟨FH_CKPT_RGN.off i, 0, 11⟩
abbrev FH_ZP_CFG.off (i : Nat) : Nat := 0x240200 + i * 8
abbrev FH_ZP_CFG.EN (i : Nat) : FRef := ⟨FH_ZP_CFG.off i, 31, 1⟩
abbrev FH_ZP_CFG.LIMIT (i : Nat) : FRef := ⟨FH_ZP_CFG.off i, 16, 4⟩
abbrev FH_ZP_CFG.BUDGET (i : Nat) : FRef := ⟨FH_ZP_CFG.off i, 0, 10⟩
abbrev FH_ZP_STAT.off (i : Nat) : Nat := 0x240204 + i * 8
abbrev FH_ZP_STAT.SUSP (i : Nat) : FRef := ⟨FH_ZP_STAT.off i, 31, 1⟩
abbrev FH_ZP_STAT.OVR (i : Nat) : FRef := ⟨FH_ZP_STAT.off i, 30, 1⟩
abbrev FH_ZP_STAT.RUNOVR (i : Nat) : FRef := ⟨FH_ZP_STAT.off i, 16, 4⟩
abbrev FH_ZP_STAT.USED (i : Nat) : FRef := ⟨FH_ZP_STAT.off i, 0, 10⟩
abbrev FH_ZP_RUN.off : Nat := 0x240280
abbrev FH_ZP_RUN.VALID : FRef := ⟨FH_ZP_RUN.off, 4, 1⟩
abbrev FH_ZP_RUN.PROG : FRef := ⟨FH_ZP_RUN.off, 0, 4⟩
abbrev FH_WIN_LO.off (i : Nat) (j : Nat) : Nat := 0x240400 + i * 0x80 + j * 8
abbrev FH_WIN_LO.ADDR (i : Nat) (j : Nat) : FRef := ⟨FH_WIN_LO.off i j, 26, 6⟩
abbrev FH_WIN_HI.off (i : Nat) (j : Nat) : Nat := 0x240404 + i * 0x80 + j * 8
abbrev FH_WIN_HI.ADDR (i : Nat) (j : Nat) : FRef := ⟨FH_WIN_HI.off i j, 0, 32⟩
abbrev JET_CTRL.off (i : Nat) : Nat := 0x180000 + i * 0x400
abbrev JET_CTRL.CLR (i : Nat) : FRef := ⟨JET_CTRL.off i, 31, 1⟩
abbrev JET_CTRL.STEP (i : Nat) : FRef := ⟨JET_CTRL.off i, 30, 1⟩
abbrev JET_CTRL.ENTRY (i : Nat) : FRef := ⟨JET_CTRL.off i, 8, 7⟩
abbrev JET_CTRL.TG (i : Nat) : FRef := ⟨JET_CTRL.off i, 4, 2⟩
abbrev JET_CTRL.RUN (i : Nat) : FRef := ⟨JET_CTRL.off i, 0, 1⟩
abbrev JET_STAT.off (i : Nat) : Nat := 0x180004 + i * 0x400
abbrev JET_STAT.STATE (i : Nat) : FRef := ⟨JET_STAT.off i, 29, 3⟩
abbrev JET_STAT.TXFILL (i : Nat) : FRef := ⟨JET_STAT.off i, 26, 3⟩
abbrev JET_STAT.RXFILL (i : Nat) : FRef := ⟨JET_STAT.off i, 23, 3⟩
abbrev JET_STAT.EVT (i : Nat) : FRef := ⟨JET_STAT.off i, 22, 1⟩
abbrev JET_STAT.CUR (i : Nat) : FRef := ⟨JET_STAT.off i, 16, 6⟩
abbrev JET_STAT.LCNT (i : Nat) : FRef := ⟨JET_STAT.off i, 8, 8⟩
abbrev JET_STAT.PC (i : Nat) : FRef := ⟨JET_STAT.off i, 0, 7⟩
abbrev JET_PC.off (i : Nat) : Nat := 0x180008 + i * 0x400
abbrev JET_PC.PC (i : Nat) : FRef := ⟨JET_PC.off i, 0, 7⟩
abbrev JET_TX.off (i : Nat) : Nat := 0x18000C + i * 0x400
abbrev JET_TX.DATA (i : Nat) : FRef := ⟨JET_TX.off i, 0, 32⟩
abbrev JET_RX.off (i : Nat) : Nat := 0x180010 + i * 0x400
abbrev JET_RX.DATA (i : Nat) : FRef := ⟨JET_RX.off i, 0, 32⟩
abbrev JET_RX_POP.off (i : Nat) : Nat := 0x180014 + i * 0x400
abbrev JET_RX_POP.ANY (i : Nat) : FRef := ⟨JET_RX_POP.off i, 0, 32⟩
abbrev JET_FRAME.off (i : Nat) : Nat := 0x180018 + i * 0x400
abbrev JET_FRAME.WIDTH (i : Nat) : FRef := ⟨JET_FRAME.off i, 8, 5⟩
abbrev JET_FRAME.IDLE (i : Nat) : FRef := ⟨JET_FRAME.off i, 1, 1⟩
abbrev JET_FRAME.ORDER (i : Nat) : FRef := ⟨JET_FRAME.off i, 0, 1⟩
abbrev JET_MAPEN.off (i : Nat) : Nat := 0x18001C + i * 0x400
abbrev JET_MAPEN.SIDE_EN (i : Nat) : FRef := ⟨JET_MAPEN.off i, 16, 4⟩
abbrev JET_MAPEN.OUT_EN (i : Nat) : FRef := ⟨JET_MAPEN.off i, 8, 8⟩
abbrev JET_MAPEN.IN_EN (i : Nat) : FRef := ⟨JET_MAPEN.off i, 0, 8⟩
abbrev JET_IMAP.off (i : Nat) (j : Nat) : Nat := 0x180020 + i * 0x400 + j * 4
abbrev JET_IMAP.PINS (i : Nat) (j : Nat) : FRef := ⟨JET_IMAP.off i j, 0, 32⟩
abbrev JET_OMAP.off (i : Nat) (j : Nat) : Nat := 0x180028 + i * 0x400 + j * 4
abbrev JET_OMAP.PINS (i : Nat) (j : Nat) : FRef := ⟨JET_OMAP.off i j, 0, 32⟩
abbrev JET_SMAP.off (i : Nat) : Nat := 0x180030 + i * 0x400
abbrev JET_SMAP.PINS (i : Nat) : FRef := ⟨JET_SMAP.off i, 0, 32⟩
abbrev JET_N.off (i : Nat) : Nat := 0x180034 + i * 0x400
abbrev JET_N.N1 (i : Nat) : FRef := ⟨JET_N.off i, 8, 8⟩
abbrev JET_N.N0 (i : Nat) : FRef := ⟨JET_N.off i, 0, 8⟩
abbrev JET_M.off (i : Nat) : Nat := 0x180038 + i * 0x400
abbrev JET_M.M (i : Nat) : FRef := ⟨JET_M.off i, 0, 32⟩
abbrev JET_PNT_TX.off (i : Nat) : Nat := 0x18003C + i * 0x400
abbrev JET_PNT_TX.EN (i : Nat) : FRef := ⟨JET_PNT_TX.off i, 31, 1⟩
abbrev JET_PNT_TX.QGATE (i : Nat) : FRef := ⟨JET_PNT_TX.off i, 30, 1⟩
abbrev JET_PNT_TX.POINT (i : Nat) : FRef := ⟨JET_PNT_TX.off i, 0, 18⟩
abbrev JET_PNT_RX.off (i : Nat) : Nat := 0x180040 + i * 0x400
abbrev JET_PNT_RX.EN (i : Nat) : FRef := ⟨JET_PNT_RX.off i, 31, 1⟩
abbrev JET_PNT_RX.POINT (i : Nat) : FRef := ⟨JET_PNT_RX.off i, 0, 18⟩
abbrev JET_SAT.off (i : Nat) : Nat := 0x180044 + i * 0x400
abbrev JET_SAT.SAT (i : Nat) : FRef := ⟨JET_SAT.off i, 0, 4⟩
abbrev JET_TX_OVF.off (i : Nat) : Nat := 0x180048 + i * 0x400
abbrev JET_TX_OVF.CNT (i : Nat) : FRef := ⟨JET_TX_OVF.off i, 0, 32⟩
abbrev JET_RX_UNDER.off (i : Nat) : Nat := 0x18004C + i * 0x400
abbrev JET_RX_UNDER.CNT (i : Nat) : FRef := ⟨JET_RX_UNDER.off i, 0, 32⟩
abbrev JET_POST_DROP.off (i : Nat) : Nat := 0x180050 + i * 0x400
abbrev JET_POST_DROP.CNT (i : Nat) : FRef := ⟨JET_POST_DROP.off i, 0, 32⟩
abbrev JET_CFGERR_CNT.off (i : Nat) : Nat := 0x180054 + i * 0x400
abbrev JET_CFGERR_CNT.CNT (i : Nat) : FRef := ⟨JET_CFGERR_CNT.off i, 0, 32⟩
abbrev JET_D.off (i : Nat) : Nat := 0x180058 + i * 0x400
abbrev JET_D.D (i : Nat) : FRef := ⟨JET_D.off i, 0, 32⟩
abbrev JET_PROG.off (i : Nat) (j : Nat) : Nat := 0x180200 + i * 0x400 + j * 4
abbrev JET_PROG.WORD (i : Nat) (j : Nat) : FRef := ⟨JET_PROG.off i j, 0, 16⟩
abbrev JET_TG.off (i : Nat) (j : Nat) : Nat := 0x190000 + i * 0x10 + j * 4
abbrev JET_TG.EN (i : Nat) (j : Nat) : FRef := ⟨JET_TG.off i j, 31, 1⟩
abbrev JET_TG.INT (i : Nat) (j : Nat) : FRef := ⟨JET_TG.off i j, 16, 15⟩
abbrev JET_TG.FRAC (i : Nat) (j : Nat) : FRef := ⟨JET_TG.off i j, 0, 16⟩
abbrev JET_SIG.off : Nat := 0x190020
abbrev JET_SIG.SIG1 : FRef := ⟨JET_SIG.off, 8, 8⟩
abbrev JET_SIG.SIG0 : FRef := ⟨JET_SIG.off, 0, 8⟩
abbrev JET_GRP_CFG.off (i : Nat) : Nat := 0x190100 + i * 0x10
abbrev JET_GRP_CFG.ARM (i : Nat) : FRef := ⟨JET_GRP_CFG.off i, 31, 1⟩
abbrev JET_GRP_CFG.SRC (i : Nat) : FRef := ⟨JET_GRP_CFG.off i, 24, 4⟩
abbrev JET_GRP_CFG.ACTION (i : Nat) : FRef := ⟨JET_GRP_CFG.off i, 16, 2⟩
abbrev JET_GRP_CFG.TGMASK (i : Nat) : FRef := ⟨JET_GRP_CFG.off i, 0, 8⟩
abbrev JET_GRP_LO.off (i : Nat) : Nat := 0x190104 + i * 0x10
abbrev JET_GRP_LO.MEMBER (i : Nat) : FRef := ⟨JET_GRP_LO.off i, 0, 32⟩
abbrev JET_GRP_HI.off (i : Nat) : Nat := 0x190108 + i * 0x10
abbrev JET_GRP_HI.MEMBER (i : Nat) : FRef := ⟨JET_GRP_HI.off i, 0, 32⟩
abbrev JET_GRP_GO.off : Nat := 0x190200
abbrev JET_GRP_GO.GO : FRef := ⟨JET_GRP_GO.off, 0, 8⟩
abbrev JET_GRP_STAT.off : Nat := 0x190204
abbrev JET_GRP_STAT.FIRED : FRef := ⟨JET_GRP_STAT.off, 0, 8⟩
abbrev FIO_PIN_CFG.off (i : Nat) : Nat := 0x1A0000 + i * 0x10
abbrev FIO_PIN_CFG.SAFE (i : Nat) : FRef := ⟨FIO_PIN_CFG.off i, 30, 2⟩
abbrev FIO_PIN_CFG.QOFF (i : Nat) : FRef := ⟨FIO_PIN_CFG.off i, 29, 1⟩
abbrev FIO_PIN_CFG.OD (i : Nat) : FRef := ⟨FIO_PIN_CFG.off i, 28, 1⟩
abbrev FIO_PIN_CFG.PULL (i : Nat) : FRef := ⟨FIO_PIN_CFG.off i, 26, 2⟩
abbrev FIO_PIN_CFG.DRIVE (i : Nat) : FRef := ⟨FIO_PIN_CFG.off i, 24, 2⟩
abbrev FIO_PIN_CFG.SLOW (i : Nat) : FRef := ⟨FIO_PIN_CFG.off i, 23, 1⟩
abbrev FIO_PIN_CFG.OWNER (i : Nat) : FRef := ⟨FIO_PIN_CFG.off i, 16, 2⟩
abbrev FIO_PIN_CFG.JET (i : Nat) : FRef := ⟨FIO_PIN_CFG.off i, 8, 6⟩
abbrev FIO_PIN_IN.off (i : Nat) : Nat := 0x1A0004 + i * 0x10
abbrev FIO_PIN_IN.EN (i : Nat) : FRef := ⟨FIO_PIN_IN.off i, 31, 1⟩
abbrev FIO_PIN_IN.MODE (i : Nat) : FRef := ⟨FIO_PIN_IN.off i, 30, 1⟩
abbrev FIO_PIN_IN.FILT (i : Nat) : FRef := ⟨FIO_PIN_IN.off i, 20, 4⟩
abbrev FIO_PIN_IN.POINT (i : Nat) : FRef := ⟨FIO_PIN_IN.off i, 0, 18⟩
abbrev FIO_PIN_OUT.off (i : Nat) : Nat := 0x1A0008 + i * 0x10
abbrev FIO_PIN_OUT.EN (i : Nat) : FRef := ⟨FIO_PIN_OUT.off i, 31, 1⟩
abbrev FIO_PIN_OUT.MODE (i : Nat) : FRef := ⟨FIO_PIN_OUT.off i, 30, 1⟩
abbrev FIO_PIN_OUT.QGATE (i : Nat) : FRef := ⟨FIO_PIN_OUT.off i, 29, 1⟩
abbrev FIO_PIN_OUT.POINT (i : Nat) : FRef := ⟨FIO_PIN_OUT.off i, 0, 18⟩
abbrev FIO_BANK_CFG.off (i : Nat) : Nat := 0x1A1000 + i * 8
abbrev FIO_BANK_CFG.VIO (i : Nat) : FRef := ⟨FIO_BANK_CFG.off i, 0, 2⟩
abbrev FIO_BANK_STAT.off (i : Nat) : Nat := 0x1A1004 + i * 8
abbrev FIO_BANK_STAT.GOOD (i : Nat) : FRef := ⟨FIO_BANK_STAT.off i, 0, 1⟩
abbrev FIO_LEVEL.off (i : Nat) : Nat := 0x1A1100 + i * 4
abbrev FIO_LEVEL.MASK (i : Nat) : FRef := ⟨FIO_LEVEL.off i, 16, 16⟩
abbrev FIO_LEVEL.LEVEL (i : Nat) : FRef := ⟨FIO_LEVEL.off i, 0, 16⟩
abbrev FIO_IN.off (i : Nat) : Nat := 0x1A1180 + i * 4
abbrev FIO_IN.LEVEL (i : Nat) : FRef := ⟨FIO_IN.off i, 0, 32⟩
abbrev FIO_SAT.off : Nat := 0x1A11C0
abbrev FIO_SAT.SAT : FRef := ⟨FIO_SAT.off, 0, 2⟩
abbrev FIO_CFGERR_CNT.off : Nat := 0x1A11C4
abbrev FIO_CFGERR_CNT.CNT : FRef := ⟨FIO_CFGERR_CNT.off, 0, 32⟩
abbrev FIO_VIO_FAIL.off : Nat := 0x1A11C8
abbrev FIO_VIO_FAIL.CNT : FRef := ⟨FIO_VIO_FAIL.off, 0, 32⟩
abbrev CST_CFG.off (i : Nat) : Nat := 0x160000 + i * 0x20
abbrev CST_CFG.EN (i : Nat) : FRef := ⟨CST_CFG.off i, 31, 1⟩
abbrev CST_CFG.SVC (i : Nat) : FRef := ⟨CST_CFG.off i, 29, 2⟩
abbrev CST_CFG.PROD (i : Nat) : FRef := ⟨CST_CFG.off i, 27, 2⟩
abbrev CST_CFG.CONS (i : Nat) : FRef := ⟨CST_CFG.off i, 26, 1⟩
abbrev CST_CFG.TYPE (i : Nat) : FRef := ⟨CST_CFG.off i, 16, 7⟩
abbrev CST_REGION.off (i : Nat) : Nat := 0x160004 + i * 0x20
abbrev CST_REGION.BASE (i : Nat) : FRef := ⟨CST_REGION.off i, 16, 12⟩
abbrev CST_REGION.SIZE (i : Nat) : FRef := ⟨CST_REGION.off i, 0, 13⟩
abbrev CST_PROD.off (i : Nat) : Nat := 0x160008 + i * 0x20
abbrev CST_PROD.MID (i : Nat) : FRef := ⟨CST_PROD.off i, 16, 5⟩
abbrev CST_PROD.NODE (i : Nat) : FRef := ⟨CST_PROD.off i, 0, 16⟩
abbrev CST_WEIR.off (i : Nat) : Nat := 0x16000C + i * 0x20
abbrev CST_WEIR.EN (i : Nat) : FRef := ⟨CST_WEIR.off i, 31, 1⟩
abbrev CST_WEIR.PIN (i : Nat) : FRef := ⟨CST_WEIR.off i, 27, 4⟩
abbrev CST_WEIR.HIGH (i : Nat) : FRef := ⟨CST_WEIR.off i, 13, 13⟩
abbrev CST_WEIR.LOW (i : Nat) : FRef := ⟨CST_WEIR.off i, 0, 13⟩
abbrev CST_STAT.off (i : Nat) : Nat := 0x160010 + i * 0x20
abbrev CST_STAT.WEIR (i : Nat) : FRef := ⟨CST_STAT.off i, 31, 1⟩
abbrev CST_STAT.NOTICE (i : Nat) : FRef := ⟨CST_STAT.off i, 30, 1⟩
abbrev CST_STAT.FLUSH_PEND (i : Nat) : FRef := ⟨CST_STAT.off i, 29, 1⟩
abbrev CST_STAT.OPEN (i : Nat) : FRef := ⟨CST_STAT.off i, 28, 1⟩
abbrev CST_STAT.MID (i : Nat) : FRef := ⟨CST_STAT.off i, 27, 1⟩
abbrev CST_STAT.LOSTALL (i : Nat) : FRef := ⟨CST_STAT.off i, 26, 1⟩
abbrev CST_STAT.FILL (i : Nat) : FRef := ⟨CST_STAT.off i, 0, 19⟩
abbrev CST_PKTS.off (i : Nat) : Nat := 0x160014 + i * 0x20
abbrev CST_PKTS.NOTICES (i : Nat) : FRef := ⟨CST_PKTS.off i, 16, 16⟩
abbrev CST_PKTS.CLOSED (i : Nat) : FRef := ⟨CST_PKTS.off i, 0, 16⟩
abbrev CST_CMD.off (i : Nat) : Nat := 0x160018 + i * 0x20
abbrev CST_CMD.OP (i : Nat) : FRef := ⟨CST_CMD.off i, 0, 2⟩
abbrev CST_WEIR_POL.off : Nat := 0x170000
abbrev CST_WEIR_POL.POL : FRef := ⟨CST_WEIR_POL.off, 0, 16⟩
abbrev CST_WEIR_STAT.off : Nat := 0x170004
abbrev CST_WEIR_STAT.ASSERTED : FRef := ⟨CST_WEIR_STAT.off, 0, 16⟩
abbrev CST_SAT.off : Nat := 0x170008
abbrev CST_SAT.SAT : FRef := ⟨CST_SAT.off, 0, 5⟩
abbrev CST_ECC_CORR.off : Nat := 0x170040
abbrev CST_ECC_CORR.CNT : FRef := ⟨CST_ECC_CORR.off, 0, 32⟩
abbrev CST_ECC_UNCORR.off : Nat := 0x170044
abbrev CST_ECC_UNCORR.CNT : FRef := ⟨CST_ECC_UNCORR.off, 0, 32⟩
abbrev CST_DROP.off : Nat := 0x170048
abbrev CST_DROP.CNT : FRef := ⟨CST_DROP.off, 0, 32⟩
abbrev CST_TLOG_OVF.off : Nat := 0x17004C
abbrev CST_TLOG_OVF.CNT : FRef := ⟨CST_TLOG_OVF.off, 0, 32⟩
abbrev CST_CFGERR_CNT.off : Nat := 0x170050
abbrev CST_CFGERR_CNT.CNT : FRef := ⟨CST_CFGERR_CNT.off, 0, 32⟩
abbrev CST_TLOG0.off : Nat := 0x170080
abbrev CST_TLOG0.VALID : FRef := ⟨CST_TLOG0.off, 31, 1⟩
abbrev CST_TLOG0.STAGE : FRef := ⟨CST_TLOG0.off, 28, 3⟩
abbrev CST_TLOG0.SERIAL : FRef := ⟨CST_TLOG0.off, 24, 4⟩
abbrev CST_TLOG0.STATUS : FRef := ⟨CST_TLOG0.off, 16, 8⟩
abbrev CST_TLOG0.TUNNEL : FRef := ⟨CST_TLOG0.off, 8, 8⟩
abbrev CST_TLOG0.CISTERN : FRef := ⟨CST_TLOG0.off, 0, 8⟩
abbrev CST_TLOG1.off : Nat := 0x170084
abbrev CST_TLOG1.SEQ : FRef := ⟨CST_TLOG1.off, 0, 32⟩
abbrev CST_TLOG2.off : Nat := 0x170088
abbrev CST_TLOG2.TIME : FRef := ⟨CST_TLOG2.off, 0, 32⟩
abbrev CST_TLOG_POP.off : Nat := 0x17008C
abbrev CST_TLOG_POP.SERIAL : FRef := ⟨CST_TLOG_POP.off, 0, 4⟩
abbrev CAN_CFG.off (i : Nat) : Nat := 0x1C0000 + i * 0x2000
abbrev CAN_CFG.TT (i : Nat) : FRef := ⟨CAN_CFG.off i, 4, 1⟩
abbrev CAN_CFG.FD (i : Nat) : FRef := ⟨CAN_CFG.off i, 3, 1⟩
abbrev CAN_CFG.MODE (i : Nat) : FRef := ⟨CAN_CFG.off i, 0, 2⟩
abbrev CAN_STAT.off (i : Nat) : Nat := 0x1C0004 + i * 0x2000
abbrev CAN_STAT.STATE (i : Nat) : FRef := ⟨CAN_STAT.off i, 16, 3⟩
abbrev CAN_STAT.REC (i : Nat) : FRef := ⟨CAN_STAT.off i, 8, 8⟩
abbrev CAN_STAT.TEC (i : Nat) : FRef := ⟨CAN_STAT.off i, 0, 8⟩
abbrev CAN_NBT.off (i : Nat) : Nat := 0x1C0008 + i * 0x2000
abbrev CAN_NBT.BRP (i : Nat) : FRef := ⟨CAN_NBT.off i, 23, 9⟩
abbrev CAN_NBT.TSEG1 (i : Nat) : FRef := ⟨CAN_NBT.off i, 15, 8⟩
abbrev CAN_NBT.TSEG2 (i : Nat) : FRef := ⟨CAN_NBT.off i, 8, 7⟩
abbrev CAN_NBT.SJW (i : Nat) : FRef := ⟨CAN_NBT.off i, 0, 7⟩
abbrev CAN_DBT.off (i : Nat) : Nat := 0x1C000C + i * 0x2000
abbrev CAN_DBT.TDC (i : Nat) : FRef := ⟨CAN_DBT.off i, 31, 1⟩
abbrev CAN_DBT.TDCO (i : Nat) : FRef := ⟨CAN_DBT.off i, 24, 7⟩
abbrev CAN_DBT.BRP (i : Nat) : FRef := ⟨CAN_DBT.off i, 16, 5⟩
abbrev CAN_DBT.TSEG1 (i : Nat) : FRef := ⟨CAN_DBT.off i, 8, 5⟩
abbrev CAN_DBT.TSEG2 (i : Nat) : FRef := ⟨CAN_DBT.off i, 4, 4⟩
abbrev CAN_DBT.SJW (i : Nat) : FRef := ⟨CAN_DBT.off i, 0, 4⟩
abbrev CAN_CMD.off (i : Nat) : Nat := 0x1C0010 + i * 0x2000
abbrev CAN_CMD.OP (i : Nat) : FRef := ⟨CAN_CMD.off i, 8, 3⟩
abbrev CAN_CMD.OBJ (i : Nat) : FRef := ⟨CAN_CMD.off i, 0, 6⟩
abbrev CAN_TT_CFG.off (i : Nat) : Nat := 0x1C0014 + i * 0x2000
abbrev CAN_TT_CFG.MC (i : Nat) : FRef := ⟨CAN_TT_CFG.off i, 16, 3⟩
abbrev CAN_TT_CFG.BC_LEN (i : Nat) : FRef := ⟨CAN_TT_CFG.off i, 0, 16⟩
abbrev CAN_TT_PHASE.off (i : Nat) : Nat := 0x1C0018 + i * 0x2000
abbrev CAN_TT_PHASE.PHASE (i : Nat) : FRef := ⟨CAN_TT_PHASE.off i, 0, 16⟩
abbrev CAN_TT_STAT.off (i : Nat) : Nat := 0x1C001C + i * 0x2000
abbrev CAN_TT_STAT.ROW (i : Nat) : FRef := ⟨CAN_TT_STAT.off i, 8, 6⟩
abbrev CAN_TT_STAT.WIN (i : Nat) : FRef := ⟨CAN_TT_STAT.off i, 0, 5⟩
abbrev CAN_SAT.off (i : Nat) : Nat := 0x1C0020 + i * 0x2000
abbrev CAN_SAT.SAT (i : Nat) : FRef := ⟨CAN_SAT.off i, 0, 7⟩
abbrev CAN_BUSOFF_CNT.off (i : Nat) : Nat := 0x1C0040 + i * 0x2000
abbrev CAN_BUSOFF_CNT.CNT (i : Nat) : FRef := ⟨CAN_BUSOFF_CNT.off i, 0, 32⟩
abbrev CAN_RX_OVR.off (i : Nat) : Nat := 0x1C0044 + i * 0x2000
abbrev CAN_RX_OVR.CNT (i : Nat) : FRef := ⟨CAN_RX_OVR.off i, 0, 32⟩
abbrev CAN_TX_FAIL.off (i : Nat) : Nat := 0x1C0048 + i * 0x2000
abbrev CAN_TX_FAIL.CNT (i : Nat) : FRef := ⟨CAN_TX_FAIL.off i, 0, 32⟩
abbrev CAN_TUN_DROP.off (i : Nat) : Nat := 0x1C004C + i * 0x2000
abbrev CAN_TUN_DROP.CNT (i : Nat) : FRef := ⟨CAN_TUN_DROP.off i, 0, 32⟩
abbrev CAN_CANCEL_CNT.off (i : Nat) : Nat := 0x1C0050 + i * 0x2000
abbrev CAN_CANCEL_CNT.CNT (i : Nat) : FRef := ⟨CAN_CANCEL_CNT.off i, 0, 32⟩
abbrev CAN_CFGERR_CNT.off (i : Nat) : Nat := 0x1C0054 + i * 0x2000
abbrev CAN_CFGERR_CNT.CNT (i : Nat) : FRef := ⟨CAN_CFGERR_CNT.off i, 0, 32⟩
abbrev CAN_EVT_CNT.off (i : Nat) : Nat := 0x1C0058 + i * 0x2000
abbrev CAN_EVT_CNT.CNT (i : Nat) : FRef := ⟨CAN_EVT_CNT.off i, 0, 32⟩
abbrev CAN_RX_FRAMES_LO.off (i : Nat) : Nat := 0x1C0080 + i * 0x2000
abbrev CAN_RX_FRAMES_LO.VAL (i : Nat) : FRef := ⟨CAN_RX_FRAMES_LO.off i, 0, 32⟩
abbrev CAN_RX_FRAMES_HI.off (i : Nat) : Nat := 0x1C0084 + i * 0x2000
abbrev CAN_RX_FRAMES_HI.VAL (i : Nat) : FRef := ⟨CAN_RX_FRAMES_HI.off i, 0, 32⟩
abbrev CAN_TX_FRAMES_LO.off (i : Nat) : Nat := 0x1C0088 + i * 0x2000
abbrev CAN_TX_FRAMES_LO.VAL (i : Nat) : FRef := ⟨CAN_TX_FRAMES_LO.off i, 0, 32⟩
abbrev CAN_TX_FRAMES_HI.off (i : Nat) : Nat := 0x1C008C + i * 0x2000
abbrev CAN_TX_FRAMES_HI.VAL (i : Nat) : FRef := ⟨CAN_TX_FRAMES_HI.off i, 0, 32⟩
abbrev CAN_OBJ_SEL.off (i : Nat) : Nat := 0x1C0100 + i * 0x2000
abbrev CAN_OBJ_SEL.OBJ (i : Nat) : FRef := ⟨CAN_OBJ_SEL.off i, 0, 6⟩
abbrev CAN_OBJ_CFG.off (i : Nat) : Nat := 0x1C0104 + i * 0x2000
abbrev CAN_OBJ_CFG.EN (i : Nat) : FRef := ⟨CAN_OBJ_CFG.off i, 31, 1⟩
abbrev CAN_OBJ_CFG.TX (i : Nat) : FRef := ⟨CAN_OBJ_CFG.off i, 30, 1⟩
abbrev CAN_OBJ_CFG.WCET (i : Nat) : FRef := ⟨CAN_OBJ_CFG.off i, 16, 10⟩
abbrev CAN_OBJ_CFG.PERIOD (i : Nat) : FRef := ⟨CAN_OBJ_CFG.off i, 0, 16⟩
abbrev CAN_OBJ_ID.off (i : Nat) : Nat := 0x1C0108 + i * 0x2000
abbrev CAN_OBJ_ID.IDE (i : Nat) : FRef := ⟨CAN_OBJ_ID.off i, 31, 1⟩
abbrev CAN_OBJ_ID.FDF (i : Nat) : FRef := ⟨CAN_OBJ_ID.off i, 30, 1⟩
abbrev CAN_OBJ_ID.BRS (i : Nat) : FRef := ⟨CAN_OBJ_ID.off i, 29, 1⟩
abbrev CAN_OBJ_ID.ID (i : Nat) : FRef := ⟨CAN_OBJ_ID.off i, 0, 29⟩
abbrev CAN_OBJ_MASK.off (i : Nat) : Nat := 0x1C010C + i * 0x2000
abbrev CAN_OBJ_MASK.MASK (i : Nat) : FRef := ⟨CAN_OBJ_MASK.off i, 0, 29⟩
abbrev CAN_OBJ_STAT.off (i : Nat) : Nat := 0x1C0110 + i * 0x2000
abbrev CAN_OBJ_STAT.PEND (i : Nat) : FRef := ⟨CAN_OBJ_STAT.off i, 31, 1⟩
abbrev CAN_OBJ_STAT.UNREAD (i : Nat) : FRef := ⟨CAN_OBJ_STAT.off i, 30, 1⟩
abbrev CAN_OBJ_STAT.CXL_LATE (i : Nat) : FRef := ⟨CAN_OBJ_STAT.off i, 29, 1⟩
abbrev CAN_OBJ_STAT.LAST (i : Nat) : FRef := ⟨CAN_OBJ_STAT.off i, 8, 3⟩
abbrev CAN_OBJ_STAT.DLC (i : Nat) : FRef := ⟨CAN_OBJ_STAT.off i, 0, 4⟩
abbrev CAN_OBJ_STAMP_LO.off (i : Nat) : Nat := 0x1C0114 + i * 0x2000
abbrev CAN_OBJ_STAMP_LO.STAMP (i : Nat) : FRef := ⟨CAN_OBJ_STAMP_LO.off i, 0, 32⟩
abbrev CAN_OBJ_STAMP_HI.off (i : Nat) : Nat := 0x1C0118 + i * 0x2000
abbrev CAN_OBJ_STAMP_HI.STAMP (i : Nat) : FRef := ⟨CAN_OBJ_STAMP_HI.off i, 0, 16⟩
abbrev CAN_CELL_SEL.off (i : Nat) : Nat := 0x1C0180 + i * 0x2000
abbrev CAN_CELL_SEL.ROW (i : Nat) : FRef := ⟨CAN_CELL_SEL.off i, 8, 6⟩
abbrev CAN_CELL_SEL.WIN (i : Nat) : FRef := ⟨CAN_CELL_SEL.off i, 0, 5⟩
abbrev CAN_CELL.off (i : Nat) : Nat := 0x1C0184 + i * 0x2000
abbrev CAN_CELL.KIND (i : Nat) : FRef := ⟨CAN_CELL.off i, 8, 2⟩
abbrev CAN_CELL.OBJ (i : Nat) : FRef := ⟨CAN_CELL.off i, 0, 6⟩
abbrev CAN_WIN.off (i : Nat) (j : Nat) : Nat := 0x1C0200 + i * 0x2000 + j * 4
abbrev CAN_WIN.EN (i : Nat) (j : Nat) : FRef := ⟨CAN_WIN.off i j, 31, 1⟩
abbrev CAN_WIN.TXEN (i : Nat) (j : Nat) : FRef := ⟨CAN_WIN.off i j, 16, 4⟩
abbrev CAN_WIN.START (i : Nat) (j : Nat) : FRef := ⟨CAN_WIN.off i j, 0, 16⟩
abbrev CAN_OBJ_DATA.off (i : Nat) (j : Nat) (k : Nat) : Nat := 0x1C1000 + i * 0x2000 + j * 0x40 + k * 4
abbrev CAN_OBJ_DATA.DATA (i : Nat) (j : Nat) (k : Nat) : FRef := ⟨CAN_OBJ_DATA.off i j k, 0, 32⟩
abbrev USB_CFG.off : Nat := 0x1E0000
abbrev USB_CFG.LOCAL : FRef := ⟨USB_CFG.off, 4, 4⟩
abbrev USB_CFG.NOTE_WAKE : FRef := ⟨USB_CFG.off, 3, 1⟩
abbrev USB_CFG.SUSP_RET : FRef := ⟨USB_CFG.off, 2, 1⟩
abbrev USB_CFG.EN : FRef := ⟨USB_CFG.off, 0, 1⟩
abbrev USB_STAT.off : Nat := 0x1E0004
abbrev USB_STAT.FRESH : FRef := ⟨USB_STAT.off, 31, 1⟩
abbrev USB_STAT.CONFIG : FRef := ⟨USB_STAT.off, 16, 8⟩
abbrev USB_STAT.RWE : FRef := ⟨USB_STAT.off, 15, 1⟩
abbrev USB_STAT.ADDR : FRef := ⟨USB_STAT.off, 8, 7⟩
abbrev USB_STAT.SPEED : FRef := ⟨USB_STAT.off, 4, 2⟩
abbrev USB_STAT.STATE : FRef := ⟨USB_STAT.off, 0, 3⟩
abbrev USB_WAKE.off : Nat := 0x1E0008
abbrev USB_WAKE.REQ : FRef := ⟨USB_WAKE.off, 0, 1⟩
abbrev USB_FN_SEQ.off : Nat := 0x1E000C
abbrev USB_FN_SEQ.RESOLVED : FRef := ⟨USB_FN_SEQ.off, 16, 16⟩
abbrev USB_FN_SEQ.NEXT : FRef := ⟨USB_FN_SEQ.off, 0, 16⟩
abbrev USB_PORT_STAT.off (i : Nat) : Nat := 0x1E0010 + i * 4
abbrev USB_PORT_STAT.CLASS (i : Nat) : FRef := ⟨USB_PORT_STAT.off i, 8, 2⟩
abbrev USB_PORT_STAT.SPEED (i : Nat) : FRef := ⟨USB_PORT_STAT.off i, 6, 2⟩
abbrev USB_PORT_STAT.OWNER (i : Nat) : FRef := ⟨USB_PORT_STAT.off i, 5, 1⟩
abbrev USB_PORT_STAT.OC (i : Nat) : FRef := ⟨USB_PORT_STAT.off i, 4, 1⟩
abbrev USB_PORT_STAT.POWER (i : Nat) : FRef := ⟨USB_PORT_STAT.off i, 3, 1⟩
abbrev USB_PORT_STAT.SUSP (i : Nat) : FRef := ⟨USB_PORT_STAT.off i, 2, 1⟩
abbrev USB_PORT_STAT.EN (i : Nat) : FRef := ⟨USB_PORT_STAT.off i, 1, 1⟩
abbrev USB_PORT_STAT.CONN (i : Nat) : FRef := ⟨USB_PORT_STAT.off i, 0, 1⟩
abbrev USB_ISO_CFG.off : Nat := 0x1E0020
abbrev USB_ISO_CFG.EN : FRef := ⟨USB_ISO_CFG.off, 31, 1⟩
abbrev USB_ISO_CFG.MULT : FRef := ⟨USB_ISO_CFG.off, 0, 2⟩
abbrev USB_SAT.off : Nat := 0x1E0024
abbrev USB_SAT.SAT : FRef := ⟨USB_SAT.off, 0, 6⟩
abbrev USB_NOTE_OVF.off : Nat := 0x1E0040
abbrev USB_NOTE_OVF.CNT : FRef := ⟨USB_NOTE_OVF.off, 0, 32⟩
abbrev USB_CMD_ERR.off : Nat := 0x1E0044
abbrev USB_CMD_ERR.CNT : FRef := ⟨USB_CMD_ERR.off, 0, 32⟩
abbrev USB_OC_CNT.off : Nat := 0x1E0048
abbrev USB_OC_CNT.CNT : FRef := ⟨USB_OC_CNT.off, 0, 32⟩
abbrev USB_TT_ERR.off : Nat := 0x1E004C
abbrev USB_TT_ERR.CNT : FRef := ⟨USB_TT_ERR.off, 0, 32⟩
abbrev USB_ISO_SKIP.off : Nat := 0x1E0050
abbrev USB_ISO_SKIP.CNT : FRef := ⟨USB_ISO_SKIP.off, 0, 32⟩
abbrev USB_CFGERR_CNT.off : Nat := 0x1E0054
abbrev USB_CFGERR_CNT.CNT : FRef := ⟨USB_CFGERR_CNT.off, 0, 32⟩
abbrev USB_RX_BYTES_LO.off : Nat := 0x1E0080
abbrev USB_RX_BYTES_LO.VAL : FRef := ⟨USB_RX_BYTES_LO.off, 0, 32⟩
abbrev USB_RX_BYTES_HI.off : Nat := 0x1E0084
abbrev USB_RX_BYTES_HI.VAL : FRef := ⟨USB_RX_BYTES_HI.off, 0, 32⟩
abbrev USB_TX_BYTES_LO.off : Nat := 0x1E0088
abbrev USB_TX_BYTES_LO.VAL : FRef := ⟨USB_TX_BYTES_LO.off, 0, 32⟩
abbrev USB_TX_BYTES_HI.off : Nat := 0x1E008C
abbrev USB_TX_BYTES_HI.VAL : FRef := ⟨USB_TX_BYTES_HI.off, 0, 32⟩
abbrev USB_ISO_RANGE.off (i : Nat) : Nat := 0x1E0100 + i * 4
abbrev USB_ISO_RANGE.VALID (i : Nat) : FRef := ⟨USB_ISO_RANGE.off i, 31, 1⟩
abbrev USB_ISO_RANGE.COUNTM1 (i : Nat) : FRef := ⟨USB_ISO_RANGE.off i, 20, 4⟩
abbrev USB_ISO_RANGE.FIRST (i : Nat) : FRef := ⟨USB_ISO_RANGE.off i, 0, 18⟩
abbrev FEED_CFG.off (i : Nat) : Nat := 0x200000 + i * 0x100
abbrev FEED_CFG.KILL_EN (i : Nat) : FRef := ⟨FEED_CFG.off i, 5, 1⟩
abbrev FEED_CFG.TMODE (i : Nat) : FRef := ⟨FEED_CFG.off i, 4, 1⟩
abbrev FEED_CFG.RETRIES (i : Nat) : FRef := ⟨FEED_CFG.off i, 0, 4⟩
abbrev FEED_LIM.off (i : Nat) : Nat := 0x200004 + i * 0x100
abbrev FEED_LIM.PEAK (i : Nat) : FRef := ⟨FEED_LIM.off i, 16, 9⟩
abbrev FEED_LIM.RATED (i : Nat) : FRef := ⟨FEED_LIM.off i, 0, 10⟩
abbrev FEED_RAMP.off (i : Nat) : Nat := 0x200008 + i * 0x100
abbrev FEED_RAMP.RAMP_TMO (i : Nat) : FRef := ⟨FEED_RAMP.off i, 16, 10⟩
abbrev FEED_RAMP.SLEW (i : Nat) : FRef := ⟨FEED_RAMP.off i, 0, 10⟩
abbrev FEED_PG.off (i : Nat) : Nat := 0x20000C + i * 0x100
abbrev FEED_PG.TMAX (i : Nat) : FRef := ⟨FEED_PG.off i, 16, 8⟩
abbrev FEED_PG.VDS_PG (i : Nat) : FRef := ⟨FEED_PG.off i, 0, 10⟩
abbrev FEED_RETRY.off (i : Nat) : Nat := 0x200010 + i * 0x100
abbrev FEED_RETRY.RETRY (i : Nat) : FRef := ⟨FEED_RETRY.off i, 0, 10⟩
abbrev FEED_RAIL.off (i : Nat) : Nat := 0x200014 + i * 0x100
abbrev FEED_RAIL.OV (i : Nat) : FRef := ⟨FEED_RAIL.off i, 16, 10⟩
abbrev FEED_RAIL.UV (i : Nat) : FRef := ⟨FEED_RAIL.off i, 0, 10⟩
abbrev FEED_DMG.off (i : Nat) : Nat := 0x200018 + i * 0x100
abbrev FEED_DMG.ARM (i : Nat) : FRef := ⟨FEED_DMG.off i, 16, 10⟩
abbrev FEED_DMG.DMG_V (i : Nat) : FRef := ⟨FEED_DMG.off i, 0, 10⟩
abbrev FEED_SHUNT.off (i : Nat) : Nat := 0x20001C + i * 0x100
abbrev FEED_SHUNT.SHUNT (i : Nat) : FRef := ⟨FEED_SHUNT.off i, 0, 16⟩
abbrev FEED_NTC.off (i : Nat) : Nat := 0x200020 + i * 0x100
abbrev FEED_NTC.B (i : Nat) : FRef := ⟨FEED_NTC.off i, 16, 16⟩
abbrev FEED_NTC.R25 (i : Nat) : FRef := ⟨FEED_NTC.off i, 0, 16⟩
abbrev FEED_POLE.off (i : Nat) (j : Nat) : Nat := 0x200024 + i * 0x100 + j * 4
abbrev FEED_POLE.UNIT (i : Nat) (j : Nat) : FRef := ⟨FEED_POLE.off i j, 31, 1⟩
abbrev FEED_POLE.TAU (i : Nat) (j : Nat) : FRef := ⟨FEED_POLE.off i j, 16, 15⟩
abbrev FEED_POLE.R (i : Nat) (j : Nat) : FRef := ⟨FEED_POLE.off i j, 0, 16⟩
abbrev FEED_CHCMD.off (i : Nat) : Nat := 0x200030 + i * 0x100
abbrev FEED_CHCMD.OP (i : Nat) : FRef := ⟨FEED_CHCMD.off i, 0, 3⟩
abbrev FEED_CHSTAT.off (i : Nat) : Nat := 0x200034 + i * 0x100
abbrev FEED_CHSTAT.RUNTRIP (i : Nat) : FRef := ⟨FEED_CHSTAT.off i, 16, 4⟩
abbrev FEED_CHSTAT.CAUSE (i : Nat) : FRef := ⟨FEED_CHSTAT.off i, 8, 4⟩
abbrev FEED_CHSTAT.LIM (i : Nat) : FRef := ⟨FEED_CHSTAT.off i, 5, 1⟩
abbrev FEED_CHSTAT.PG (i : Nat) : FRef := ⟨FEED_CHSTAT.off i, 4, 1⟩
abbrev FEED_CHSTAT.STATE (i : Nat) : FRef := ⟨FEED_CHSTAT.off i, 0, 3⟩
abbrev FEED_I.off (i : Nat) : Nat := 0x200038 + i * 0x100
abbrev FEED_I.I (i : Nat) : FRef := ⟨FEED_I.off i, 0, 32⟩
abbrev FEED_V.off (i : Nat) : Nat := 0x20003C + i * 0x100
abbrev FEED_V.VOUT (i : Nat) : FRef := ⟨FEED_V.off i, 16, 16⟩
abbrev FEED_V.VIN (i : Nat) : FRef := ⟨FEED_V.off i, 0, 16⟩
abbrev FEED_TEMP.off (i : Nat) : Nat := 0x200040 + i * 0x100
abbrev FEED_TEMP.TFET (i : Nat) : FRef := ⟨FEED_TEMP.off i, 16, 16⟩
abbrev FEED_TEMP.OVL (i : Nat) : FRef := ⟨FEED_TEMP.off i, 0, 9⟩
abbrev FEED_CTRL.off : Nat := 0x201000
abbrev FEED_CTRL.MEAS_PER : FRef := ⟨FEED_CTRL.off, 0, 8⟩
abbrev FEED_STAT.off : Nat := 0x201004
abbrev FEED_STAT.KILL : FRef := ⟨FEED_STAT.off, 31, 1⟩
abbrev FEED_STAT.TDIE : FRef := ⟨FEED_STAT.off, 0, 16⟩
abbrev FEED_CMD.off : Nat := 0x201008
abbrev FEED_CMD.OP : FRef := ⟨FEED_CMD.off, 0, 2⟩
abbrev FEED_SAT.off : Nat := 0x20100C
abbrev FEED_SAT.SAT : FRef := ⟨FEED_SAT.off, 0, 6⟩
abbrev FEED_TRIP_CNT.off : Nat := 0x201040
abbrev FEED_TRIP_CNT.CNT : FRef := ⟨FEED_TRIP_CNT.off, 0, 32⟩
abbrev FEED_RETRY_CNT.off : Nat := 0x201044
abbrev FEED_RETRY_CNT.CNT : FRef := ⟨FEED_RETRY_CNT.off, 0, 32⟩
abbrev FEED_LATCH_CNT.off : Nat := 0x201048
abbrev FEED_LATCH_CNT.CNT : FRef := ⟨FEED_LATCH_CNT.off, 0, 32⟩
abbrev FEED_DMG_CNT.off : Nat := 0x20104C
abbrev FEED_DMG_CNT.CNT : FRef := ⟨FEED_DMG_CNT.off, 0, 32⟩
abbrev FEED_PGLOSS_CNT.off : Nat := 0x201050
abbrev FEED_PGLOSS_CNT.CNT : FRef := ⟨FEED_PGLOSS_CNT.off, 0, 32⟩
abbrev FEED_CFGERR_CNT.off : Nat := 0x201054
abbrev FEED_CFGERR_CNT.CNT : FRef := ⟨FEED_CFGERR_CNT.off, 0, 32⟩
abbrev CMP_CFG.off (i : Nat) : Nat := 0x220000 + i * 0x10
abbrev CMP_CFG.EN (i : Nat) : FRef := ⟨CMP_CFG.off i, 31, 1⟩
abbrev CMP_CFG.POL (i : Nat) : FRef := ⟨CMP_CFG.off i, 30, 1⟩
abbrev CMP_CFG.HYST (i : Nat) : FRef := ⟨CMP_CFG.off i, 24, 5⟩
abbrev CMP_CFG.FILT (i : Nat) : FRef := ⟨CMP_CFG.off i, 16, 8⟩
abbrev CMP_CFG.THR (i : Nat) : FRef := ⟨CMP_CFG.off i, 0, 10⟩
abbrev CMP_WAKE.off (i : Nat) : Nat := 0x220004 + i * 0x10
abbrev CMP_WAKE.EN (i : Nat) : FRef := ⟨CMP_WAKE.off i, 31, 1⟩
abbrev CMP_WAKE.DOMAINS (i : Nat) : FRef := ⟨CMP_WAKE.off i, 1, 15⟩
abbrev CMP_STAT.off (i : Nat) : Nat := 0x220008 + i * 0x10
abbrev CMP_STAT.RAW (i : Nat) : FRef := ⟨CMP_STAT.off i, 3, 1⟩
abbrev CMP_STAT.ROSE (i : Nat) : FRef := ⟨CMP_STAT.off i, 2, 1⟩
abbrev CMP_STAT.FELL (i : Nat) : FRef := ⟨CMP_STAT.off i, 1, 1⟩
abbrev CMP_STAT.OUT (i : Nat) : FRef := ⟨CMP_STAT.off i, 0, 1⟩
abbrev CMP_OUT.off : Nat := 0x220200
abbrev CMP_OUT.OUT : FRef := ⟨CMP_OUT.off, 0, 24⟩
abbrev CMP_SAT.off : Nat := 0x220204
abbrev CMP_SAT.SAT : FRef := ⟨CMP_SAT.off, 0, 1⟩
abbrev CMP_CFGERR_CNT.off : Nat := 0x220240
abbrev CMP_CFGERR_CNT.CNT : FRef := ⟨CMP_CFGERR_CNT.off, 0, 32⟩
abbrev TEL_CFG.off : Nat := 0x260000
abbrev TEL_CFG.MGMT : FRef := ⟨TEL_CFG.off, 16, 16⟩
abbrev TEL_CFG.PERIOD : FRef := ⟨TEL_CFG.off, 0, 16⟩
abbrev TEL_DEST.off : Nat := 0x260004
abbrev TEL_DEST.NODE : FRef := ⟨TEL_DEST.off, 0, 16⟩
abbrev TEL_SCRUB.off : Nat := 0x260008
abbrev TEL_SCRUB.PERIOD : FRef := ⟨TEL_SCRUB.off, 0, 16⟩
abbrev TEL_CAL.off : Nat := 0x26000C
abbrev TEL_CAL.PERIOD : FRef := ⟨TEL_CAL.off, 0, 16⟩
abbrev TEL_TEMP.off : Nat := 0x260010
abbrev TEL_TEMP.MIN : FRef := ⟨TEL_TEMP.off, 16, 16⟩
abbrev TEL_TEMP.MAX : FRef := ⟨TEL_TEMP.off, 0, 16⟩
abbrev TEL_THERM.off : Nat := 0x260014
abbrev TEL_THERM.GOV : FRef := ⟨TEL_THERM.off, 0, 8⟩
abbrev TEL_LIFE_HRS.off : Nat := 0x260018
abbrev TEL_LIFE_HRS.HRS : FRef := ⟨TEL_LIFE_HRS.off, 0, 32⟩
abbrev TEL_BIN.off (i : Nat) : Nat := 0x260020 + i * 4
abbrev TEL_BIN.HRS (i : Nat) : FRef := ⟨TEL_BIN.off i, 0, 32⟩
abbrev TEL_SAT.off : Nat := 0x260030
abbrev TEL_SAT.SAT : FRef := ⟨TEL_SAT.off, 0, 4⟩
abbrev TEL_SCRUB_CORR.off : Nat := 0x260040
abbrev TEL_SCRUB_CORR.CNT : FRef := ⟨TEL_SCRUB_CORR.off, 0, 32⟩
abbrev TEL_SCRUB_UNCORR.off : Nat := 0x260044
abbrev TEL_SCRUB_UNCORR.CNT : FRef := ⟨TEL_SCRUB_UNCORR.off, 0, 32⟩
abbrev TEL_CAL_ERR.off : Nat := 0x260048
abbrev TEL_CAL_ERR.CNT : FRef := ⟨TEL_CAL_ERR.off, 0, 32⟩
abbrev TEL_CFGERR_CNT.off : Nat := 0x26004C
abbrev TEL_CFGERR_CNT.CNT : FRef := ⟨TEL_CFGERR_CNT.off, 0, 32⟩
abbrev TST_LOCK.off : Nat := 0x2A0000
abbrev TST_LOCK.LIFE : FRef := ⟨TST_LOCK.off, 0, 2⟩

end Sys2Proof.Machine
end

