-- ==== Sys2Proof/Machine/RegReset.lean ====
section
/-! DEFINITION. What a register reads as until it is written: its value after power-on reset (R45). -/

namespace Sys2Proof.Machine

/-- The reset word of a row: the reset values of its fields. -/
def RegRow.resetWord (r : RegRow) : Word :=
  BitVec.ofNat 32 (r.fields.foldl (fun acc f => acc + f.reset * 2 ^ f.lo) 0)

/-- Reset limit of an egress queue, in tiles, by port of R200 and class (R206). -/
def limReset (p c : Nat) : Nat :=
  let row := if p < 4 then [256, 256, 1024, 256, 256, 64, 160, 8]
    else if p < 8 then [512, 64, 1024, 128, 128, 64, 16, 16]
    else if p = 8 then [256, 512, 512, 256, 256, 256, 16, 16]
    else if p = 9 then [64, 64, 1024, 64, 512, 512, 64, 64]
    else [256, 64, 512, 64, 64, 256, 16, 16]
  row.getD c 0

/-- Reset value of CMPn_CFG: enable and threshold as R410 gives them, HYST 4. -/
def cmpReset (n : Nat) : Nat :=
  let (en, thr) := if n < 16 then (0, 0x200) else if n < 22 then (1, 0x0C0) else if n = 22 then (1, 0x239) else (1, 0x2AB)
  en * 2 ^ 31 + 4 * 2 ^ 24 + thr

/-- Reset value of PWR_DOMd_RET (R408, R419). -/
def retReset (d : Nat) : Nat :=
  if d = 1 ∨ d = 2 then 0x01FF
  else if d = 6 ∨ d = 12 ∨ d = 13 then 0x000F
  else if d = 7 ∨ d = 8 ∨ d = 10 ∨ d = 11 ∨ d = 14 then 0xFFFF
  else 0

/-- Reset word of a register key whose reset value depends on its instance; none for the others. -/
def resetSpecial (off idx : Nat) : Option Nat :=
  if off = DEV_ID.off then some Config.devId
  else if off = DEV_UID_LO.off then some (Config.uid.toNat % 2 ^ 32)
  else if off = DEV_UID_HI.off then some (Config.uid.toNat / 2 ^ 32)
  else if off = SEC_SVN_MIN.off then some Config.svnMin.toNat
  else if SEC_DIK.off 0 ≤ off ∧ off < SEC_DIK.off 24 then some (Config.dik ((off - SEC_DIK.off 0) / 4)).toNat
  else if SEC_DIKSIG.off 0 ≤ off ∧ off < SEC_DIKSIG.off 24 then some (Config.dikSig ((off - SEC_DIKSIG.off 0) / 4)).toNat
  else if off = PWR_STAT.off then some 2
  else if 0x010100 ≤ off ∧ off < 0x010200 then
    let d := (off - 0x010100) / 16
    if off % 16 = 8 then some (retReset d) else if off = PWR_DOM_STAT.off 0 then some 2 else none
  else if 0x220000 ≤ off ∧ off < 0x220180 ∧ off % 16 = 0 then some (cmpReset ((off - 0x220000) / 16))
  else if off = FLOW_GRPMEM.off 7 then some (2 ^ 31)
  else if off = SW_POOL.off then some 0x58605C00
  else if off = SW_LIM.off ∧ idx ≠ 0 then some (limReset ((idx - 1) / 8) ((idx - 1) % 8))
  else if off = SW_RATE.off 0 then some 0x50
  else if off = SW_RATE.off 1 then some 0x64
  else if off = SW_RATE.off 2 then some 0x14
  else none

/-- What a register key reads as until it is written (R45): the reset value of its fields; 0 where the key names no register. -/
def regReset (key : Nat) : Word :=
  let off := key % 2 ^ 22
  match resetSpecial off (key / 2 ^ 22) with
  | some v => BitVec.ofNat 32 v
  | none =>
    match regRow off with
    | some r => r.resetWord
    | none => 0

end Sys2Proof.Machine
end

