-- ==== Sys2Proof/Machine/State.lean ====
section
/-! DEFINITION. The state of the S884 block as plain data: the queue of waiting commands, the register map, and what the manual
gives each block beside its registers. -/

namespace Sys2Proof.Machine

/-- What a master is told of its access: the last response the block gave (R29, R30, R51, R235). -/
structure Resp where
  mid : Nat
  status : Nat
  data : List Byte
deriving DecidableEq, Repr

/-- A word held for one master ID: a read latch of R41, by register key, or a staging latch of R42, by register offset. -/
structure MWord where
  mid : Nat
  key : Nat
  word : Word
deriving DecidableEq, Repr

/-- What a held access does: a read of a number of bytes, a write of bytes, or an atomic. -/
inductive HeldOp where
  | read (len : Nat)
  | write (data : List Byte)
  | atomic (op : AtomicOp) (a b : BitVec 64)
deriving DecidableEq, Repr

/-- An access held while its domain goes to on, or while another block holds its address (R10, R451): its master, space, offset,
and, for a remote read, the tag that its response carries. -/
structure Held where
  m : Master
  space : Nat
  off : Nat
  op : HeldOp
  tag : Option Nat
deriving DecidableEq, Repr

/-- A reset asked for and not yet entered (R423): kind 0 POWER-ON, 1 SYSTEM, 2 CONTROL; source and master ID as in
CFG_RST_CAUSE. -/
structure ResetReq where
  kind : Nat
  src : Nat
  mid : Nat
deriving DecidableEq, Repr

/-- An entry of an edge queue (R278, R285). -/
structure EdgeEnt where
  pin : Nat
  stamp : Nat
  level : Bool
  ovf : Bool
  step : Bool
  serial : Nat
deriving DecidableEq, Repr

/-- What a pending timed action does to the level of its pin (R73, R281). -/
inductive ActKind where
  | low | high | toggle
deriving DecidableEq, Repr

/-- A pending timed action (R280): its pin, grid instant, effect, release order, and the item it came from, with its release FNS. `second` marks
the second edge of a pulse. -/
structure TAct where
  pin : Nat
  g : Nat
  kind : ActKind
  second : Bool
  order : Nat
  action : Nat
  arg : Nat
  point : Nat
  release : Nat
deriving DecidableEq, Repr

/-- An entry of the late log (R283). -/
structure LateEnt where
  serial : Nat
  cause : Nat
  action : Nat
  pin : Nat
  g : Nat
  release : Nat
  arg : Nat
  point : Nat
deriving DecidableEq, Repr

/-- A stamp of the PTP stamp queue of an ETH port (R275). -/
structure PtpStamp where
  sec : Nat
  ns : Nat
  qns : Nat
  msgType : Nat
  seqId : Nat
deriving DecidableEq, Repr

/-- Clepsydra (R259 to R284): the time counter, the SYNC captures made (ring port, CYCLE of the SYNC), edge queues, timed actions, the late log,
the PTP stamp queues, and the triggers armed at an instant already past. Increment, slew, EPOCH and the triggers are in the register map. -/
structure Clep where
  sec : Nat
  ns : Nat
  frac : Nat
  syncSeen : List (Nat × Nat)
  epochErrAt : Option Nat
  edgeQ : SMap (List EdgeEnt)
  edgeLost : List Nat
  edgeStep : List Nat
  edgeSerial : SMap Nat
  acts : List TAct
  actOrder : Nat
  late : List LateEnt
  lateSerial : Nat
  ptpQ : SMap (List PtpStamp)
  trigPast : List Nat
deriving DecidableEq, Repr

/-- An entry of the fault log (R483). -/
structure LogEnt where
  fns : Nat
  ev : Nat
  cls : Nat
  summary : Bool
  rep : Nat
  serial : Nat
  detail : Word
deriving DecidableEq, Repr

/-- A source in the Spillway table (R484): occurrences not written, and their highest class. -/
structure SpillEnt where
  ev : Nat
  count : Nat
  cls : Nat
deriving DecidableEq, Repr

/-- A Stillwater snapshot (R486). -/
structure Snap where
  serial : Nat
  cause : Nat
  origin : Nat
  instant : Nat
  tiles : Nat
  mark : Nat
  pins : List Word
  cmpOut : Word
  cycle : Nat
  feedI : List Word
  body : List Byte
deriving DecidableEq, Repr

/-- Sump, Spillway, Stillwater and the telemetry engine (R475 to R493). `telMs` are the ms of each hour counter not yet a whole hour. `kept` is the class Sump keeps for each pending event;
`react` is the reaction reset waiting for its delay (kind 1 CONTROL, 2 SYSTEM, and the instant it falls due). `inboxNext` is the place of the
inbox that the next ALARM takes, `mgmtAt` the instant of the last MGMT frame; `inj` are the injected errors not yet met, and `injected` is
set while what an injected error does is carried out (R494). -/
structure Sump where
  kept : SMap Nat
  log : List LogEnt
  logSerial : Nat
  logAny : Bool
  winEntries : Nat
  winOffers : Nat
  winEntered : Bool
  spill : Bool
  spillTab : List SpillEnt
  spillSeen : List Nat
  alarmSent : Nat
  alarmLost : Nat
  alarmLostCls : Nat
  inbox : List (List Byte)
  inboxNext : Nat
  react : Option (Nat × Int)
  reactTimes : List Int
  grave : Bool
  hot : Bool
  snapArm : Option (Nat × Nat)
  snapMark : Option (Nat × Nat × Nat)
  snapPins : Option (List Word)
  snap : Option Snap
  snapSerial : Nat
  telRec : List Byte
  telAt : Int
  telMs : SMap Nat
  mgmtSerial : Nat
  mgmtAt : Int
  inj : List Inject
  injected : Bool
deriving DecidableEq, Repr

/-- Sump at power-on reset: nothing pending, no log, no snapshot. -/
def Sump.reset : Sump :=
  { kept := [], log := [], logSerial := 0, logAny := false, winEntries := 0, winOffers := 0, winEntered := false, spill := false,
    spillTab := [], spillSeen := [], alarmSent := 0, alarmLost := 0, alarmLostCls := 0, inbox := [], inboxNext := 0, react := none,
    reactTimes := [], grave := false, hot := false, snapArm := none, snapMark := none, snapPins := none, snap := none,
    snapSerial := 0, telRec := [], telAt := 0, telMs := [], mgmtSerial := 0,
    mgmtAt := 0, inj := [], injected := false }

/-- What the neighbour's latest HELLO told a ring port (R100, R123). -/
structure NbrHello where
  node : Nat
  port : Nat
  turned : Bool
  uid : Nat
deriving DecidableEq, Repr

/-- A frame being received at a ring port: its header as received, its arrival instant, and what Aqueduct decided: whether it is
extracted, the stored cut-through frame, whether its payload has been changed in passing, the arrival pool it fills, and whether it
was discarded at its header. -/
structure RxSlot where
  hdr : List Byte
  frame : Frame
  tIn : Nat
  extract : Bool
  stored : Option Nat
  passed : Bool
  pool : Option Nat
  dead : Bool
deriving DecidableEq, Repr

/-- A unit on a ring line (R95, R115, R213): a 64b/66b control block with its type and seven bytes (in an ordered set, type 0x4B, the O code
last), a 64b/66b data block, or an 8b/10b code group, K or D, by its byte. -/
inductive LineUnit where
  | control (typ : Nat) (bytes : List Byte)
  | block (bytes : List Byte)
  | code (k : Bool) (v : Byte)
deriving DecidableEq, Repr

/-- A ring port beside its registers (R100 to R124, R213): neighbour, span-delay exchange with the instant of the last request,
per-association packet numbers, how often the hold has been doubled, whether it has ended and when it began, the
instants of the last heal and loss, the error window and the DEG_THR it runs under, the frames being received and sent, whether the latter
ended stomped, the credit counters, what the port put on the line last, and the instant at which its last frame byte or heartbeat has left. -/
structure Port where
  nbr : Option NbrHello
  reqId : Nat
  reqT1 : Option Nat
  ldlyAt : Option Int
  txNext : SMap Nat
  rxHigh : SMap Nat
  hold : Nat
  holdDone : Bool
  holdAt : Option Nat
  lastHeal : Option Int
  lastLoss : Option Int
  winErr : Nat
  winThr : Nat
  rx : Option RxSlot
  tx : Option Frame
  txBad : Bool
  freedH : Nat
  freedL : Nat
  freedSent : Option (Nat × Nat)
  credH : Nat
  credL : Nat
  arrH : Nat
  arrL : Nat
  rxSet : Option (Nat × Nat)
  nbrFreedH : Nat
  nbrFreedL : Nat
  line : List LineUnit
  busyTo : Int
deriving DecidableEq, Repr

/-- A HEAL_READY that the cycle master holds (R102, R121). -/
structure HealReady where
  plane : Nat
  node : Nat
  port : Nat
  nbr : Nat
  nbrTurned : Bool
deriving DecidableEq, Repr

/-- A turn that a node has announced on a plane and that has not ended (R102, R121): the turned end, and whether its HEAL_READY has come. -/
structure TurnEnd where
  plane : Nat
  node : Nat
  port : Nat
  ready : Bool
deriving DecidableEq, Repr

/-- An unwrap that is pending on a plane (R118, R121, R523): its epoch, its instant, whether the cycle master scheduled it,
and the node and port that the UNWRAP names. -/
structure Unwrap where
  plane : Nat
  epoch : Nat
  at_ : Nat
  byMaster : Bool
  end_ : Nat × Nat
deriving DecidableEq, Repr

/-- Aqueduct's link side: the four ports, pending unwraps, HEAL_READY frames held, the turns in force, the duplicate windows of R105 per source and
class (highest SEQ, and the window below it), and the sequence numbers of the frames this node originates per class. -/
structure Links where
  ports : SMap Port
  unwraps : List Unwrap
  heals : List HealReady
  turns : List TurnEnd
  dupHigh : SMap Nat
  dupMask : SMap Nat
  seqNext : SMap Nat
deriving DecidableEq, Repr

/-- A ring port as power-on reset leaves it. -/
def Port.dflt (_ : Nat) : Port :=
  { nbr := none, reqId := 0, reqT1 := none, ldlyAt := none, txNext := [], rxHigh := [], hold := 0, holdDone := false,
    holdAt := none, lastHeal := none, lastLoss := none, winErr := 0, winThr := 0x10, rx := none, tx := none, txBad := false,
    freedH := 0, freedL := 0, freedSent := none, credH := 0, credL := 0, arrH := 0, arrL := 0, rxSet := none, nbrFreedH := 0,
    nbrFreedL := 0, line := [], busyTo := 0 }

/-- Where the acceptance and the outcome of a work item are reported (R193): nowhere, to a stalled store, to a remote atomic's master, to a posted
write's entry, to a USB piece, to a remote READ_ONCE of the host port (its delayed-read entry) or of USB, to the Cistern that a PKT
tunnel empties, to the CAN object that a tunnel takes from, or to the ETH tunnel. -/
inductive Path where
  | none
  | store (m : Master)
  | atomic (m : Master)
  | posted (pw : Nat)
  | usb (useq : Nat)
  | hostOnce (tag : Nat)
  | usbOnce
  | cist (tunnel n : Nat)
  | can (n obj : Nat)
  | eth (tunnel : Nat)
deriving DecidableEq, Repr

/-- A work item at its originator (R163, R172, R175): flow, SEQ and INC, OP, target address, data, acceptance time, the master ID of
its initiator, FIRST and LAST (bits 0 and 1), the outlet point it came from, and its path. -/
structure Item where
  flow : Nat
  seq : Nat
  inc : Nat
  op : Nat
  addr : Nat
  data : List Byte
  accept : Nat
  mid : Nat
  seg : Nat
  outlet : Option Nat
  path : Path
deriving DecidableEq, Repr

/-- An outstanding item (R183 to R185): whether it is in DOUBT, the members that have acknowledged, the first non-OK status of a
group, the resends sent, and the line of its ACC record. -/
structure OutItem where
  it : Item
  doubt : Bool
  acked : List Nat
  status : Nat
  sends : Nat
  lsn : Nat
deriving DecidableEq, Repr

/-- A work item at its destination (R175, R178); `local_` marks one of this node's own flows (R176). -/
structure InItem where
  src : Nat
  flow : Nat
  seq : Nat
  inc : Nat
  low : Nat
  op : Nat
  addr : Nat
  data : List Byte
  seg : Nat
  group : Bool
  local_ : Bool
  mid : Nat
deriving DecidableEq, Repr

/-- A retained result (R181), with the line of its APPLIED record. -/
structure Kept where
  src : Nat
  flow : Nat
  seq : Nat
  inc : Nat
  status : Nat
  apply : Nat
  result : Nat
  rstamp : Nat
  rqual : Nat
  rtype : Nat
  lsn : Nat
deriving DecidableEq, Repr

/-- An inbound entry (R178): INC and NEXT, INC and NEXT as the journal holds them, the time of the last application, the items held
above NEXT, the item waiting at NEXT, the items staged and not yet released, whether a two-phase item is in progress, and the line of
its newest state. -/
structure InEntry where
  src : Nat
  flow : Nat
  inc : Nat
  next : Nat
  cinc : Nat
  cnext : Nat
  last : Nat
  held : List InItem
  wait : Option InItem
  staged : Nat
  two : Bool
  lsn : Option Nat
deriving DecidableEq, Repr

/-- A journal record that a group collects (R172). `fresh` marks a record that accepts its item or starts its second phase; the
others are relocations (R173). `applied` acts as its group commits; `done` carries an outcome already known, to be acknowledged when
`fresh`. -/
inductive JRec where
  | acc (it : Item) (fresh : Bool)
  | intent (it : InItem) (fresh : Bool)
  | applied (it : InItem)
  | done (it : InItem) (k : Kept) (keep fresh : Bool)
  | outstate (flows : List Nat)
  | instate (ents : List (Nat × Nat))
  | newInc (src flow inc next : Nat)
deriving DecidableEq, Repr

/-- A group of journal records (R167): its records, lines, the instant of its first line and the instant it closes. -/
structure JGroup where
  recs : List JRec
  lines : Nat
  first : Int
  closeAt : Int
deriving DecidableEq, Repr

/-- A flow as an originator (R163, R177): INC, NEXT, LOW, the resend interval in ms, the instant its resend timer expires, and
whether LOW or INC has changed since the last sweep. -/
structure Flow where
  inc : Nat
  next : Nat
  low : Nat
  ival : Nat
  due : Option Int
  dirty : Bool
deriving DecidableEq, Repr

/-- A flow of an empty journal. -/
def Flow.dflt (_ : Nat) : Flow := ⟨0, 0, 0, 0, none, false⟩

/-- Who waits for a read (R522, R240, R376): a local master, a delayed-read entry of the host port, or the USB function. -/
inductive ReadFor where
  | master (m : Master)
  | dr (tag : Nat)
  | usb
deriving DecidableEq, Repr

/-- A remote read pending (R522): its tag, destination, address, length, initiator, when it was first sent, the present interval in
ms and the instant it is sent again. -/
structure RRead where
  tag : Nat
  node : Nat
  addr : Nat
  len : Nat
  mid : Nat
  who : ReadFor
  first : Int
  ival : Nat
  due : Int
deriving DecidableEq, Repr

/-- The flow engine (R158 to R198): flows, outstanding items, waiting submissions (and whether each has been counted as
back-pressured), the open, closed and committing groups, the journal ring and the next LSN, the line budget in ns of its refill
time, the records of outcomes that wait for the budget, the inbound table, retained results, those dropped and those of OP 0x06, two-phase items in progress, flows being abandoned, remote reads, the
instant of the last inbound-full fault, the lines of the newest OUTSTATE entries, retired lines with the reserve line each is mapped to,
the last patrol correction per line, the LSN from which inbound records count (R434), and the node ID of the lifetime records. -/
structure Flows where
  flows : SMap Flow
  out : List OutItem
  subs : List (Item × Bool)
  opened : Option JGroup
  closed : List JGroup
  commit : Option JGroup
  ring : SMap (List Byte)
  lsn : Nat
  bud : Nat
  budAt : Int
  arrWait : Bool
  owed : List JRec
  inb : List InEntry
  kept : List Kept
  gone : List (Nat × Nat × Nat × Nat)
  sens : List (Nat × Nat × Nat × Nat)
  two : List (InItem × Nat)
  leaving : List Nat
  reads : List RRead
  readWait : List RRead
  readTag : Nat
  fullAt : Option Int
  outLsn : SMap (Option Nat)
  retired : SMap Nat
  corrAt : SMap (Option Int)
  cut : Nat
  nodeRec : Option Nat
deriving DecidableEq, Repr

/-- The flow engine over an empty Reservoir: a full budget, nothing outstanding. -/
def Flows.reset : Flows :=
  { flows := [], out := [], subs := [], opened := none, closed := [], commit := none, ring := [], lsn := 0, bud := 16384000,
    budAt := 0, arrWait := false, owed := [], inb := [], kept := [], gone := [], sens := [], two := [], leaving := [], reads := [], readWait := [],
    readTag := 0, fullAt := none, outLsn := [], retired := [], corrAt := [], cut := 0, nodeRec := none }

/-- An entry of the delayed-read table (R240, R241): its TAG, the read's address and length, whether it is a READ_ONCE and whether it
has a side effect, the pieces not yet issued (address, bytes), whether a piece is in flight and, for a remote READ_ONCE, whether its
item is in DOUBT, the bytes gathered, whether the host was answered RETRY, the status and the instant of completion, the claim
window in ms in force then, and the PWSEQ before which it waits for posted writes (R242). -/
structure DrEnt where
  tag : Nat
  addr : Nat
  len : Nat
  once : Bool
  side : Bool
  pieces : List (Nat × Nat)
  flying : Bool
  doubt : Bool
  data : List Byte
  retried : Bool
  done : Option (Nat × Int)
  window : Nat
  after : Nat
deriving DecidableEq, Repr

/-- An entry of the posted-write buffer (R246, R247, R256): PWSEQ, address, bytes, the flow that its route named when it was posted, the instant
from which its wait counts (R251), and whether it has been handed to the flow engine. -/
structure PwEnt where
  pw : Nat
  addr : Nat
  data : List Byte
  flow : Option Nat
  since : Int
  handed : Bool
deriving DecidableEq, Repr

/-- An entry of the posted-write failure log (R248). -/
structure PwfEnt where
  stage : Nat
  status : Nat
  pw : Nat
  addr : Nat
  seq : Nat
  time : Nat
deriving DecidableEq, Repr

/-- An entry of the stranded store (R245). -/
structure StrEnt where
  serial : Nat
  status : Nat
  tag : Nat
  addr : Nat
  time : Nat
  data : List Byte
deriving DecidableEq, Repr

/-- What the host port waits for before it answers the command in hand (R240, R246): the end of a read in the delayed-read table, by
TAG, a free entry of that table for a read (address, length, READ_ONCE), or room in the posted-write buffer for a WRITE (address, bytes). -/
inductive HostWait where
  | read (tag : Nat)
  | entry (addr len : Nat) (once : Bool)
  | room (addr : Nat) (data : List Byte)
deriving DecidableEq, Repr

/-- Sluice (R231 to R256): the delayed-read table, the entry whose data the present response carries, what the response waits for and the
end of WAIT, posted writes not drained, PWSEQs
not resolved with their addresses, the failure log, the stranded store and its next serial, the prefetch buffer (tile, instant, bytes), and the tunnel
segments of an Ethernet frame that arrived so far per source and flow. -/
structure Brg where
  dr : List DrEnt
  inResp : Option DrEnt
  await : Option (HostWait × Int)
  posted : List PwEnt
  unres : List (Nat × Nat)
  pwf : List PwfEnt
  str : List StrEnt
  strSerial : Nat
  pf : Option (Nat × Int × List Byte)
  ethSeg : SMap (List Byte)
deriving DecidableEq, Repr

/-- Sluice at reset: empty. -/
def Brg.reset : Brg := ⟨[], none, none, [], [], [], [], 0, none, []⟩

/-- A response queued on EP1 (R374): status, TAG, USEQ, PIECES, data, and for a stranded result the address and whether the read had a
side effect. -/
structure UResp where
  status : Nat
  tag : Nat
  useq : Nat
  pieces : Nat
  data : List Byte
  addr : Nat
  side : Bool
  busErr : Bool
deriving DecidableEq, Repr

/-- A piece of a USB WRITE submitted and not yet applied or accepted (R375). -/
structure UPiece where
  useq : Nat
  addr : Nat
  data : List Byte
  handed : Bool
deriving DecidableEq, Repr

/-- The handshake or data that answers a split (R366). -/
inductive TtHand where
  | ack | nak | nyet | stall | err
  | data (b : List Byte)
deriving DecidableEq, Repr

/-- A transaction in a TT (R366): its endpoint, the bytes to send, how it ended on the downstream port once it has, and the microframes since
its start-split. -/
structure TtEnt where
  ep : TtEp
  data : List Byte
  res : Option TtRes
  age : Nat
deriving DecidableEq, Repr

/-- The transaction translator of a downstream port (R366): its non-periodic buffers, at most two, and its periodic pipeline. -/
structure Tt where
  np : List TtEnt
  per : List TtEnt
deriving DecidableEq, Repr

/-- A TT with nothing in it. -/
def Tt.empty : Tt := ⟨[], []⟩

/-- The hub and the fabric function (R365 to R382): queued responses and notices, the WRITE whose last packet waits (its TAG, first USEQ, PIECES), the
pieces not yet applied or accepted, the USEQs not resolved with their addresses, the READ in progress, whether EP1 is halted, the count of microframes
sent, the instant suspend began, since when resume is being driven, the interface of the hub's multi-TT alternate, whether the read in progress
began before the last reset, whether the last control request was answered with STALL, the four TTs, the answers to the splits of the
last microframe, the ports whose C_PORT_OVER_CURRENT is set, and the last output report sent per port and report ID. -/
structure Usb where
  resps : List UResp
  notes : List (List Byte)
  write : Option (Nat × Nat × Nat)
  pieces : List UPiece
  unres : List (Nat × Nat)
  read : Option DrEnt
  halted : Bool
  mframe : Nat
  suspAt : Option Int
  driving : Option Int
  alt : Nat
  readLost : Bool
  stalled : Bool
  tt : List Tt
  ttAns : List TtHand
  ocChg : List Nat
  hidOut : List ((Nat × Nat) × List Byte)
deriving DecidableEq, Repr

/-- The fabric function at reset. -/
def Usb.reset : Usb := ⟨[], [], none, [], [], none, false, 0, none, none, 0, false, false,
  List.replicate 4 Tt.empty, [], [], []⟩

/-- A frame in Cascade's buffer (R203): `eth` marks an Ethernet frame, whose bytes without FCS are `frame.payload`. `cut` is set
while a cut-through frame is still arriving; `started` names the ring egresses on which a copy of it has begun, with the header sent there;
`delivered` is set once a copy has ended well; `partialCounted` once it has counted in SW_MC_PARTIAL; `mirror` marks a mirror copy, and
`source` the frame it is taken from while that still arrives, with the bytes of it to be copied. -/
structure SFrame where
  id : Nat
  frame : Frame
  eth : Bool
  inPort : Nat
  bytes : Nat
  tiles : Nat
  cut : Bool
  started : List (Nat × Frame)
  delivered : Bool
  partialCounted : Bool
  mirror : Bool
  source : Option (Nat × Nat)
  tIn : Nat
deriving DecidableEq, Repr

/-- A copy waiting in an egress queue (R205, R210): its port, class, tiles charged, whether it is transit, the frame, and the
header that this copy carries. -/
structure QEnt where
  port : Nat
  cls : Nat
  tiles : Nat
  transit : Bool
  id : Nat
  hdr : Frame
deriving DecidableEq, Repr

/-- A frame that waits for admission (R208): in an arrival pool (`pool` 0 is H, 1 is L), an arrival FIFO or its source. -/
structure WEnt where
  inPort : Nat
  cls : Nat
  targets : List Nat
  frame : Frame
  eth : Bool
  bytes : Nat
  pool : Option Nat
  tIn : Nat
deriving DecidableEq, Repr

/-- A flow-control frame (R224): PFC or PAUSE, the priorities it names, its quanta. -/
structure FlowCtl where
  pfc : Bool
  pri : Nat
  quanta : Nat
deriving DecidableEq, Repr

/-- An ETH port beside its registers: the instants until which the partner pauses each priority, the frame it sent last, FCS
included, the flow-control frame it sent last and when, the PAUSE abilities that Clause 37 advertises (bit 0 symmetric, bit 1 asymmetric)
beside full duplex, the MDIO frame in progress, true for a read, and the sequenceId and ingress stamp of the last
Pdelay_Req received (R276). -/
structure EthPort where
  pauseEnd : SMap Int
  lastSent : List Byte
  lastFc : Option FlowCtl
  fcAt : Int
  advert : Option Nat
  mdio : Option Bool
  pdelay : Option (Nat × Nat)
deriving DecidableEq, Repr

/-- An ETH port as power-on reset leaves it. -/
def EthPort.dflt (_ : Nat) : EthPort := { pauseEnd := [], lastSent := [], lastFc := none, fcAt := 0, advert := none, mdio := none, pdelay := none }

/-- Cascade (R200 to R226): frames stored, egress queues in admission order, frames waiting for admission in arrival order, the
fill of the rate buckets of CPU, TUNNEL and USB in eightieths of a byte and the instants they were brought up to date, the ETH
ports, and the frame that CPU and USB each were handed last beside those that other commands take. -/
structure Switch where
  nextId : Nat
  frames : List SFrame
  queues : List QEnt
  waiting : List WEnt
  bucket : SMap Nat
  bucketAt : SMap Int
  eth : SMap EthPort
  handed : SMap (List Byte)
deriving DecidableEq, Repr

/-- The power controller beside its registers (R402 to R417, R17 to R19): the outcome each domain's wake records when the domain
reaches ON (`none` for no wake waiting), the domains the last wake still waits for, the retention mask taken at each entry, the
state each transition to ON began from, the instants the comparator filters run from, the input codes of the comparators, the instant of
each raw output's last change, and the
AVS loop's run of evaluations above LOWER, its run of failed transactions, the last transaction that may still turn out not to be
acknowledged (the setpoint and the run of failures before it), the thermal ceiling (R516), the instant of the last wake, and each CMPn_WAKE
as it was before its last write, with that write's instant (R416, R418), and the comparator outputs that factory test forces (R494). -/
structure Power where
  wakeOut : SMap (Option Nat)
  lastWait : List Nat
  retUsed : SMap Nat
  onFrom : SMap Nat
  cmpFilt : SMap (Option Nat)
  cmpIn : SMap Nat
  rawAt : SMap Int
  avsHigh : Nat
  avsFails : Nat
  avsOpen : Option (Nat × Nat)
  thermCeil : Option Nat
  wakeAt : Option Int
  maskWas : SMap (Option (Int × Word))
  cmpForce : SMap (Option Bool)
deriving DecidableEq, Repr

/-- A point record (R52): VALUE, STAMP, QUALITY code and TYPE code. -/
structure PRec where
  value : BitVec 64
  stamp : Nat
  qual : Nat
  typ : Nat
deriving DecidableEq, Repr

/-- A state write that waits for its tile to enter the cache (R85): the writer, first point, the bytes written, the status of each
of its records as judged when the write entered the point engine (R88), and where its outcome is reported. -/
structure WaitWrite where
  m : Master
  first : Nat
  data : List Byte
  verdict : List Nat
  path : Path
deriving DecidableEq, Repr

/-- Who waits for a downstream window request (R79, R80): a local read, a remote read by its node, tag and master ID, an applied work item (with the record of its write that the request serves, and the first status that was not OK with
the device's code), or a WINDOW point's refresh. -/
inductive WinFor where
  | reader (who : ReadFor)
  | rread (node tag mid : Nat)
  | item (src flow seq inc rec_ st code : Nat)
  | refresh (point : Nat)
deriving DecidableEq, Repr

/-- A request in flight to the device behind a window (R79). -/
structure WinReq where
  window : Nat
  addr : Nat
  len : Nat
  write : Bool
  data : List Byte
  who : WinFor
  due : Int
deriving DecidableEq, Repr

/-- What the configuration image binds a WINDOW point to (R80): window, object address, size in bytes, refresh period in µs. -/
structure WinBind where
  window : Nat
  obj : Nat
  size : Nat
  period : Nat
deriving DecidableEq, Repr

/-- The CRC-32C of a tile of 256 zero bytes (R81): the header word of a tile that nothing has written. -/
def hdrDflt (_ : Nat) : Word := 0xB872B190

/-- The point engine (R52 to R88): records, the tile-header memory (R81), the profile and the last refresh of each point, the tiles
in the 64-tile cache (latest used first), waiting writes, window requests, the bindings of WINDOW points and the instant of each
one's last refresh, and of the patrol pass its start, the tiles visited (bit by tile) and whether its overrun has been reported. -/
structure Points where
  recs : SMap PRec
  hdr : SMap Word
  prof : SMap Nat
  refresh : SMap Nat
  cache : List Nat
  waits : List WaitWrite
  reqs : List WinReq
  binds : SMap (Option WinBind)
  refAt : SMap (Option Int)
  patrolStart : Int
  patrolSeen : Nat
  patrolOver : Bool
deriving DecidableEq, Repr

/-- The point engine with an empty table, a patrol pass beginning at an instant. -/
def Points.empty (at_ : Int) : Points :=
  { recs := [], hdr := [], prof := [], refresh := [], cache := [], waits := [], reqs := [], binds := [], refAt := [],
    patrolStart := at_, patrolSeen := 0, patrolOver := false }

/-- The point engine at power-on reset. -/
def Points.reset : Points := Points.empty 0

/-- The field pins beside their registers (R309 to R316): the level and enable of each pad latch, the level at each ball, the
present level of each input binding (the level that last persisted), the JET pins whose latch safe state holds, the stamp
latches, the change that each FILT time runs for (its edge stamp), and the rising edges counted since a count binding's last
write with the
stamp of the latest and the instant of that write, the WEIR pins that their drivers in AON
hold asserted since CASCADE went OFF and the asserted levels they use (R344), and the supply of each bank in mV as its monitor sees it. -/
structure Pins where
  padLevel : BitVec 256
  padEn : BitVec 256
  ball : BitVec 256
  present : BitVec 256
  jetHeld : BitVec 256
  stampLatch : SMap Nat
  filtFrom : SMap (Option Nat)
  rises : SMap Nat
  riseStamp : SMap Nat
  countAt : SMap (Option Int)
  weirHeld : Nat
  weirPol : Nat
  vioMv : SMap Nat
deriving DecidableEq, Repr

/-- A Jet beside its registers (R317): cursor, repeat unit, files, slot levels and output enables, and whether a WAITE of kind 2
has seen the other level. -/
structure Jet where
  cur : Nat
  ls : Nat
  le : Nat
  lcnt : Nat
  tx : List Word
  rx : List Word
  out : BitVec 8
  outEn : BitVec 8
  side : BitVec 4
  seen : Bool
deriving DecidableEq, Repr

/-- A start group that has fired and on which a bank has not acted yet (R329, R330): the group, the bank, and the group's configuration
and members as they stood at the firing. -/
structure GrpFire where
  grp : Nat
  bank : Nat
  cfg : Word
  lo : Word
  hi : Word
deriving DecidableEq, Repr

/-- The Jets, the start groups fired and not yet acted on, the instants at which tick generators last restarted, and whether safe
state has stopped the Jets. -/
structure Jets where
  jets : SMap Jet
  fired : List GrpFire
  tgRestarts : SMap Nat
  safeStop : Bool
deriving DecidableEq, Repr

/-- A Jet as power-on reset leaves it. -/
def Jet.dflt (_ : Nat) : Jet :=
  { cur := 0, ls := 0, le := 0, lcnt := 0, tx := [], rx := [], out := 0, outEn := 0, side := 0, seen := false }

/-- A closed packet of a Cistern (R336): its type, its length in bytes and its data words. -/
structure Packet where
  typ : Nat
  len : Nat
  words : List Word
deriving DecidableEq, Repr

/-- A push that waits for room (R339): its master, port of R337, type field, bytes. -/
structure PushWait where
  m : Master
  port : Nat
  typ : Nat
  data : List Byte
deriving DecidableEq, Repr

/-- A Cistern beside its registers (R335 to R346): closed packets oldest first, the bytes of the open packet, the words still to
be returned of the packet the consumer is inside, whether OP 0x10 items are refused up to the next LAST, how many of the
oldest packets the tunnel has submitted, and the pushes waiting for room. -/
structure Cistern where
  closed : List Packet
  opened : Option (List Byte)
  inside : List Word
  refuse : Bool
  sending : Nat
  waits : List PushWait
deriving DecidableEq, Repr

/-- An entry of the tunnel log (R342). -/
structure TlogEnt where
  stage : Nat
  serial : Nat
  status : Nat
  tunnel : Nat
  cistern : Nat
  seq : Nat
  time : Nat
deriving DecidableEq, Repr

/-- The Cisterns and the tunnel log. -/
structure Cisterns where
  cist : SMap Cistern
  tlog : List TlogEnt
  tlogSerial : Nat
deriving DecidableEq, Repr

/-- An empty Cistern. -/
def Cistern.dflt (_ : Nat) : Cistern :=
  { closed := [], opened := none, inside := [], refuse := false, sending := 0, waits := [] }

/-- The frame in a controller's shift register (R352): its object, whether it is a single attempt (R357), and whether a late
cancel forbids a further attempt (R354). -/
structure CanTx where
  obj : Nat
  frame : CanFrame
  single : Bool
  cancelled : Bool
deriving DecidableEq, Repr

/-- A CAN controller beside its registers (R351 to R361): the shift register, the object whose single attempt waits for the bus (marked when it is a reference,
with the instant its window opened and that window's TXEN), the
shadow copies of the objects' data, the frame that a tunnel has placed in an object until its data is next committed, the active schedule
(R358), the staged one with the number of the basic cycle it was written in, the objects whose
frame a MODE 1 tunnel holds until acceptance, the objects attempted in the present arbitrating window, whether one is open, the basic
cycle and window opened last, and the last multiple of its PERIOD that made each object pending. -/
structure Can where
  tx : Option CanTx
  waitSingle : Option (Nat × Bool × Int × Nat)
  shadow : SMap Word
  arr : SMap (Option CanFrame)
  bcLen : Nat
  mc : Nat
  phase : Nat
  stagedTT : Option (Nat × Nat × Nat × Int)
  held : List Nat
  tried : List Nat
  arbOpen : Bool
  opened : Option (Int × Nat)
  perAt : SMap (Option Int)
deriving DecidableEq, Repr

/-- A CAN controller as reset leaves it: the active schedule holds the reset values of its registers. -/
def Can.dflt (_ : Nat) : Can :=
  { tx := none, waitSingle := none, shadow := [], arr := [], bcLen := 1000, mc := 0, phase := 0, stagedTT := none, held := [],
    tried := [], arbOpen := false, opened := none, perAt := [] }

/-- An open session (R467): its master, the originating node for the ring remote, and the instant it ends. -/
structure Session where
  mid : Nat
  node : Nat
  ends : Int
deriving DecidableEq, Repr

/-- An owner key entry (R463, R465): KEY_ID, KIND, NODE, public key, the owner's ephemeral key and the wrapped AES key. -/
structure KeyEnt where
  id : Nat
  kind : Nat
  node : Nat
  pub : List Byte
  eph : List Byte
  wrap : List Byte
deriving DecidableEq, Repr

/-- A key agreement of a ring port (R470, R471): how far it is (0 none, 1 INIT sent, 2 RESP sent, 3 CONFIRM sent), its AN, whether the
link is coming up, the blocks so far, this side's ephemeral key (its number), the peer's ephemeral key, the instants of its start
and of CONFIRM; the block that the next HELLO carries; the old ANs to clear and since when; and when the last association was set
up. -/
structure Ka where
  stage : Nat
  an : Nat
  newLink : Bool
  blocks : List Byte
  eph : Nat
  peer : List Byte
  startAt : Int
  confAt : Int
  out : List Byte
  old : List (Nat × Int)
  setAt : Int
deriving DecidableEq, Repr

/-- No key agreement. -/
def Ka.dflt (_ : Nat) : Ka :=
  { stage := 0, an := 0, newLink := false, blocks := [], eph := 0, peer := [], startAt := 0, confAt := 0, out := [], old := [],
    setAt := 0 }

/-- Grotto beside its registers (R460 to R473): the life cycle, open sessions, the owner root, the key entries, the node certificate,
the node of the master that holds the buffer's claim, the master whose nonce stands, whether a debug unlock has made the ENC
entries unusable, the link keys by port, AN and direction, the key agreements, and the number of ephemeral keys made. -/
structure Sec where
  life : Nat
  sessions : List Session
  root : List Byte
  keys : List KeyEnt
  cert : Option (List Byte)
  claimNode : Nat
  nonceFor : Option (Nat × Nat)
  encOff : Bool
  linkKeys : SMap (List Byte)
  ka : SMap Ka
  ephNo : Nat
deriving DecidableEq, Repr

/-- Grotto as the part powers on. -/
def Sec.reset : Sec :=
  { life := Config.fuseLife, sessions := [], root := Config.ownerRoot, keys := [], cert := none, claimNode := 0, nonceFor := none, encOff := false,
    linkKeys := [], ka := [], ephNo := 0 }

/-- A checkpoint slot of Reservoir (R296): CKSEQ, the instant, RING_CYCLE, IMAGE_ID, UNIT, the region words, NEXT of the flows and the
region data. -/
structure Ckpt where
  seq : Nat
  fns : Nat
  cycle : Nat
  image : Nat
  unit : Nat
  regions : List Word
  next : List Nat
  data : List Byte
deriving DecidableEq, Repr

/-- The Fountainhead units beside the FH registers (R286 to R307): whether the first RELEASE after the start-up has come; the banks
and scratch banks of both units (byte `a` of unit `u` under key `u * 2^20 + a`); the units halted; the restoring unit released at
its resume vector; the instant the watchdog was last restarted; the trigger instant of the fail-over that runs, and whether a case
of R299 has arisen; the complete checkpoint slots, the slot being copied with its content, whether that copy is the handover's, the
instant of the last checkpoint interval, the last CKSEQ; the unit under proof-wake, the instant of the last periodic proof-wake,
the unit and the instant of a REARM proof-wake, the instant of the last pass; the unit whose last voted step was in user mode, the instant up to which the time of zone programs is
accumulated, that time in ns in the present cycle, and the programs that have overrun in it; and the
address, length, status and bytes of the voted read with a side effect whose response no core has taken yet. -/
structure Fh where
  released : Bool
  mem : SMap Byte
  halted : List Nat
  resumed : Option Nat
  wdogAt : Int
  trig : Option Int
  stuck : Bool
  slots : SMap (Option Ckpt)
  copy : Option (Nat × Ckpt)
  ckAt : Int
  ckSeq : Nat
  proof : Option Nat
  proofAt : Int
  rearm : Option (Nat × Int)
  passAt : Option Int
  zoneUser : Option Nat
  zoneAt : Int
  zoneAcc : SMap Nat
  zoneOver : List Nat
  reading : Option (Nat × Nat × Nat × List Byte)
deriving DecidableEq, Repr

/-- The units as power-on reset leaves them. -/
def Fh.reset : Fh :=
  { released := false, mem := [], halted := [], resumed := none, wdogAt := 0, trig := none, stuck := false, slots := [], copy := none,
    ckAt := 0, ckSeq := 0, proof := none, proofAt := 0, rearm := none, passAt := none, zoneUser := none, zoneAt := 0, zoneAcc := [], zoneOver := [], reading := none }

/-- Records that Aqueduct staged from a passing summation frame until its trailer verifies (R142, R216): the ingress port, the
subscription entry, the first local point, and the 16-byte records. -/
structure Staged where
  port : Nat
  entry : Nat
  point : Nat
  recs : List (List Byte)
deriving DecidableEq, Repr

/-- A captured cycle set awaiting its apply time (R135): K, S, C, W, T, G and the instant in fabric ns. -/
structure ApplySet where
  k : Nat
  sw : Nat
  cw : Nat
  ww : Nat
  tw : Nat
  g : Nat
  at_ : Int
deriving DecidableEq, Repr

/-- The cycle machinery beside the RING registers (R131 to R156). Of this cycle: whether its cyclic window has closed, whether its SYNC frames have been sent, the lowest
MASTER accepted, the entries copied, the frames of the master's train received per direction and their number, whether an accepted
INDEX 0 frame has come, whether the K or MAP_ID fault has been raised, the claims of the INDEX 0 frames that returned, and the
launch instant. Across cycles: cycles without an accepted INDEX 0 frame, whether this node launches, whether as candidate, BACKUP
and FLAGS of its next header, whether a lower train has beaten it, the flags of its first header once a hand-off or take-over gives it
the following cycle, whether it stops with the following cycle, and the staged extracts. `began` is the instant the cycle began. -/
structure Cycle where
  num : Nat
  began : Int
  closed : Bool
  synced : Bool
  accMin : Option Nat
  taken : List Nat
  gotE : List Nat
  gotW : List Nat
  frames : Nat
  got0 : Bool
  errDone : Bool
  returned : List (Nat × Nat)
  launchAt : Option Int
  noMaster : Nat
  launching : Bool
  cand : Bool
  hdrBackup : Nat
  hdrFlags : Nat
  beaten : Bool
  special : Option Nat
  stopNext : Bool
  pend : Option ApplySet
  staged : List Staged
deriving DecidableEq, Repr

/-- The cycle machinery at reset: no cycle taken part in. -/
def Cycle.reset : Cycle :=
  { num := 0, began := 0, closed := false, synced := false, accMin := none, taken := [], gotE := [], gotW := [], frames := 0, got0 := false, errDone := false,
    returned := [], launchAt := none, noMaster := 0, launching := false, cand := false, hdrBackup := 0xFFFF, hdrFlags := 0,
    beaten := false, special := none, stopNext := false, pend := none, staged := [] }

/-- How a feed channel holds the gate of its FET (R386, R387, R391): pulled to the source, regulated for slew, regulated to hold the
current at LIMIT, or 12 V above the source. -/
inductive FeedGate where
  | off | slew | limit | full
deriving DecidableEq, Repr

/-- A feed channel beside its registers (R384 to R400): the last sample (sense in µV, VIN, VOUT and VGS in mV), the rises of the three
poles in kelvin, the gate, the overload timer in tenths of a ms; the instant and the VOUT that the ramp regulates from, and when
RAMP began; whether RETRY came from a rail fault, and when the retry timer ends; and the instants since which: VIN has stayed
within UV to OV, the channel has been commanded off, the sense has exceeded RATED, VOUT has stayed above DMG_V, both have been
below, the conditions of PG have been as they are, and the channel has been ON; `offCmd` is the instant of an OFF command that ended RAMP or ON,
`temp` the FET temperature in 0.1 °C, `measAt` the last update of the measurements. -/
structure FeedCh where
  sense : Int
  vin : Nat
  vout : Nat
  vgs : Nat
  rise : List Rat
  gate : FeedGate
  ovl : Nat
  slewAt : Int
  slewV : Nat
  rampAt : Int
  rail : Bool
  due : Int
  railAt : Option Int
  offAt : Option Int
  offCmd : Option Int
  temp : Int
  measAt : Option Int
  curAt : Option Int
  voltAt : Option Int
  calmAt : Option Int
  pgOk : Bool
  pgAt : Int
  onAt : Int
deriving DecidableEq, Repr

/-- A feed channel as reset leaves it. -/
def FeedCh.dflt (_ : Nat) : FeedCh :=
  { sense := 0, vin := 0, vout := 0, vgs := 0, rise := [0, 0, 0], gate := .off, ovl := 0, slewAt := 0, slewV := 0, rampAt := 0,
    rail := false, due := 0, railAt := none, offAt := none, offCmd := none, temp := 0, measAt := none, curAt := none, voltAt := none,
    calmAt := none, pgOk := false, pgAt := 0, onAt := 0 }

/-- The boot sequencer (R426 to R437): whether a start-up runs, its kind, the instant it is timed from, the slot being read, whether it
is the first slot tried, and the SVN of the running image; the NOR modes that its SFDP table offers (bit by NOR_MODE); the descriptors that a USB_DESC section loaded; and the two image slots of
the NOR as they were last read or built. -/
structure Boot where
  busy : Bool
  kind : Nat
  from_ : Int
  slot : Nat
  first : Bool
  svn : Nat
  modes : Nat
  desc : List Byte
  slots : SMap (List Byte)
deriving DecidableEq, Repr

/-- The boot sequencer as VAON rises. -/
def Boot.reset : Boot := ⟨false, 0, 0, 0, true, 0, 0, [], []⟩

/-- A neighbour in a relay (R445): whether it has accepted the package, its last reported HAVE, the chunk frames sent to it in this
cycle, the chunks sent and not confirmed with the instant of sending, and whether the package has been offered to it. -/
structure RunPeer where
  accepted : Bool
  have_ : Nat
  inCycle : Nat
  sent : List (Nat × Int)
  offered : Bool
deriving DecidableEq, Repr

/-- No relay to the neighbour. -/
def RunPeer.dflt (_ : Nat) : RunPeer := ⟨false, 0, 0, [], false⟩

/-- The Runnel engine and the handover (R441 to R458): the package header held, the chunks held (still encrypted, with the cycle each
arrived in), the neighbours; whether a build into the spare slot runs; the REG records staged, whether the
staging is a revert's or follows a CONFIRM, the unit being loaded; the handover record (0 none, 1 PREPARED, 2 COMMITTED), the
instant of C before it, that of C once taken, the old unit, whether the records are being applied, without a swap when they are a
REAPPLY's, and the cause of a trigger that waits for the application's end. -/
structure Upd where
  hdr : Option (List Byte)
  chunks : SMap (Option (Nat × List Byte))
  peers : SMap RunPeer
  building : Bool
  records : List (Nat × Word)
  revert : Bool
  confirm : Bool
  loading : Option Nat
  rec_ : Nat
  cDue : Option Int
  cAt : Option Int
  old : Nat
  applying : Bool
  reapply : Bool
  lateTrig : Bool
deriving DecidableEq, Repr

/-- The update machinery with an empty update record. -/
def Upd.reset : Upd :=
  { hdr := none, chunks := [], peers := [], building := false, records := [], revert := false, confirm := false,
    loading := none, rec_ := 0, cDue := none, cAt := none, old := 0, applying := false, reapply := false, lateTrig := false }

/-- Why a step stops with a fault. Nothing in this model raises it: the manual gives every command an effect, and an access that
it refuses ends with a status (safe). -/
inductive Fault where
  /-- Raised by nothing: it stands for a command to which the manual would give no effect at all (safe). -/
  | noSuchEffect
deriving DecidableEq, Repr

/-- Why a step refuses a command. -/
inductive Refusal where
  /-- Raised by `exec` on a command that has no meaning yet, named as the opcode table names it (safe). -/
  | notModelled (mnemonic : String)
deriving DecidableEq, Repr

/-- The state of the block (R8 to R523). `pending` is the queue of commands waiting, first in, first out; `resp` is what the
last access told its master; `freeCtr` is the model's own counter of free values drawn. -/
structure State where
  pending : List Instr
  regs : SMap Word
  latches : List MWord
  staging : List MWord
  held : List Held
  resp : Option Resp
  freeCtr : Nat
  resetReq : Option ResetReq
  clep : Clep
  sump : Sump
  links : Links
  sw : Switch
  power : Power
  pts : Points
  pins : Pins
  jets : Jets
  cst : Cisterns
  can : SMap Can
  sec : Sec
  fh : Fh
  cyc : Cycle
  flow : Flows
  brg : Brg
  usb : Usb
  feeds : SMap FeedCh
  boot : Boot
  upd : Upd
deriving DecidableEq, Repr

/-- The machine right after power-on reset (R45, R423). -/
def State.reset : State :=
  { pending := [],
    regs := [],
    latches := [],
    staging := [],
    held := [],
    resp := none,
    freeCtr := 0,
    resetReq := none,
    clep := ⟨0, 0, 0, [], none, [], [], [], [], [], 0, [], 0, [], []⟩,
    sump := Sump.reset,
    links := ⟨[], [], [], [], [], [], []⟩,
    sw := ⟨0, [], [], [], [], [], [], []⟩,
    power := ⟨[], [], [], [], [], [], [], 0, 0, none, none, none, [], []⟩,
    pts := Points.reset,
    pins := ⟨0, 0, 0, 0, 0, [], [], [], [], [], 0, 0, []⟩,
    jets := ⟨[], [], [], false⟩,
    cst := ⟨[], [], 0⟩,
    can := [],
    sec := Sec.reset,
    fh := Fh.reset,
    cyc := Cycle.reset,
    flow := Flows.reset,
    brg := Brg.reset,
    usb := Usb.reset,
    feeds := [],
    boot := Boot.reset,
    upd := Upd.reset }

end Sys2Proof.Machine
end

