-- ==== Sys2Proof/Machine/Ops.lean ====
section
/-! DEFINITION. The named operations on the register map and on time that every meaning is written with: reading and writing a
register or a field, the privilege classes and guards (R32 to R36), the write of a register's fields by access code (R28, R31,
R34, R40, R43), counters (R43, R44), the read and staging latches (R41, R42) and fabric time (R259 to R261). -/

namespace Sys2Proof.Machine

/-! ### Bit fields -/

/-- The field's value in a register word. -/
def FRef.get (f : FRef) (w : Word) : Nat := bitsOf w.toNat f.lsb f.width

/-- The register word with the field replaced. -/
def FRef.put (f : FRef) (w : Word) (v : Nat) : Word := BitVec.ofNat 32 (setBits w.toNat f.lsb f.width v)

/-! ### The register map -/

/-- The word a register key holds. -/
def State.rd (s : State) (key : Nat) : Word := SMap.get regReset s.regs key

/-- The register map with the word at a key replaced. -/
def State.wr (s : State) (key : Nat) (w : Word) : State := { s with regs := SMap.set regReset s.regs key w }

/-- A field of a register. -/
def State.g (s : State) (f : FRef) : Nat := f.get (s.rd f.off)

/-- A one-bit field of a register. -/
def State.flag (s : State) (f : FRef) : Bool := s.g f ≠ 0

/-- A field of a register replaced, whatever its access code: the hardware's own update. -/
def State.p (s : State) (f : FRef) (v : Nat) : State := s.wr f.off (f.put (s.rd f.off) v)

/-- A one-bit field set or cleared by the hardware. -/
def State.pb (s : State) (f : FRef) (b : Bool) : State := s.p f (b2n b)

/-- Two consecutive registers as one number, the lowest word at the lowest offset (R41). -/
def State.rd64 (s : State) (key : Nat) : Nat := (s.rd key).toNat + 2 ^ 32 * (s.rd (key + 4)).toNat

/-- Two consecutive registers written as one number. -/
def State.wr64 (s : State) (key v : Nat) : State :=
  (s.wr key (BitVec.ofNat 32 v)).wr (key + 4) (BitVec.ofNat 32 (v / 2 ^ 32))

/-- A 64-bit traffic counter increased, wrapping (R44). -/
def State.traffic (s : State) (key n : Nat) : State := s.wr64 key ((s.rd64 key + n) % 2 ^ 64)

/-! ### Free values -/

/-- A value the manual leaves open, drawn from the counter of free values, and the state with that counter advanced. -/
def State.free (s : State) : Nat × State := ((Config.freeValue s.freeCtr).toNat, { s with freeCtr := s.freeCtr + 1 })

/-! ### Fabric time -/

/-- EPOCH of R261, in seconds. -/
def State.epochSec (s : State) : Nat := s.rd64 TIME_EPOCH_LO.off % 2 ^ 48

/-- The time counter in nanoseconds (R259). -/
def State.absNs (s : State) : Int := (s.clep.sec : Int) * 1000000000 + (s.clep.ns : Int)

/-- FNS of R261: fabric nanoseconds, signed. -/
def State.fns (s : State) : Int := ((s.clep.sec : Int) - (s.epochSec : Int)) * 1000000000 + (s.clep.ns : Int)

/-- FNS modulo 2^48, as the STAMP, ACCEPT, APPLY and TARGET fields hold it (R261). -/
def State.fns48 (s : State) : Nat := wrapInt 48 s.fns

/-- Fabric time in µs modulo 2^32. -/
def State.us32 (s : State) : Nat := wrapInt 32 (s.fns / 1000)

/-- Whether the instant `due` has come. -/
def State.past (s : State) (due : Int) : Bool := decide (due ≤ s.fns)

/-! ### Domains -/

/-- The domain a register block lies in (R8), by offset of space 0x01. -/
def domainOf (off : Nat) : Nat :=
  if off < 0x050000 then 0
  else if off < 0x060000 then 14
  else if off < 0x080000 then 0
  else if off < 0x0A0000 then 5
  else if off < 0x0A4000 then 3
  else if off < 0x0C0000 then 4
  else if off < 0x0E0000 then 8
  else if off < 0x100000 then 7
  else if off < 0x120000 then 6
  else if off < 0x140000 then 9
  else if off < 0x180000 then 6
  else if off < 0x188000 then 12
  else if off < 0x190000 then 13
  else if off < 0x190010 then 12
  else if off < 0x190020 then 13
  else if off < 0x1C0000 then 0
  else if off < 0x1E0000 then 11
  else if off < 0x200000 then 10
  else if off < 0x220000 then 15
  else 0

/-- Domain states as PWR_DOMd_STAT.STATE codes them (R419). -/
def dsOff : Nat := 0
def dsRet : Nat := 1
def dsOn : Nat := 2
def dsToOn : Nat := 3
def dsToRet : Nat := 4
def dsToOff : Nat := 5
def dsPending : Nat := 6

/-- The state of a domain; AON is always ON (R403). -/
def State.dom (s : State) (d : Nat) : Nat := if d = 0 then dsOn else s.g (PWR_DOM_STAT.STATE d)

/-- Whether the blocks of a domain serve accesses: ON, or PENDING, which stays ON (R406). -/
def State.domOn (s : State) (d : Nat) : Bool := s.dom d = dsOn || s.dom d = dsPending

/-! ### Privilege classes -/

/-- The class a master ID holds at power-on (R32): 0 Remote, 1 Normal, 2 Privileged, 3 Secure; none for an ID that names no
master, and for the Test master outside factory test mode (R469). -/
def baseClass (mid : Nat) : Option Nat :=
  if mid = 0x00 ∨ mid = 0x01 then some 3
  else if mid = 0x02 ∨ mid = 0x04 then some 2
  else if mid = 0x03 ∨ mid = 0x05 then some 1
  else if mid = 0x08 ∨ mid = 0x09 then some 1
  else if mid = 0x10 then some 0
  else if 0x11 ≤ mid ∧ mid ≤ 0x14 then some 2
  else none

/-- The life cycle state of R462: 0 FACTORY, 1 UNOWNED, 2 OWNED. -/
def State.life (s : State) : Nat := s.sec.life

/-- Whether an entry kept by master ID, and by originating node for the ring remote, is a master's. -/
def ofMaster (m : Master) (mid node : Nat) : Bool := mid == m.mid.val && (m.mid.val != 0x10 || node == m.node.toNat)

/-- Whether Grotto has an open session for a master (R33, R467): for the ring remote, one of that node. -/
def State.hasSession (s : State) (m : Master) : Bool :=
  s.sec.sessions.any (fun e => ofMaster m e.mid e.node && decide (s.absNs < e.ends))

/-- The class a master holds now (R32, R33); 0x1F is Secure in factory test mode only. -/
def State.cls (s : State) (m : Master) : Option Nat :=
  if m.mid.val = 0x1F then (if s.life = 0 then some 3 else none)
  else if (m.mid.val = 0x08 ∨ m.mid.val = 0x09 ∨ m.mid.val = 0x10) ∧ s.hasSession m then some 2
  else baseClass m.mid.val

/-- The map bit of the block that holds an offset (R26). -/
def mapBit (off : Nat) : Nat := if off < 0x060000 then off / 0x10000 else off / 0x20000 + 3

/-- Whether a Remote-class access reaches the block (R35). -/
def State.remoteOpen (s : State) (off : Nat) : Bool := (s.rd DEV_RMT_MAP.off).toNat.testBit (mapBit off)

/-- Whether an access by class `c` reaches a field of guard `g` at offset `off` (R34, R35). -/
def State.reaches (s : State) (c off : Nat) (g : Guard) : Bool :=
  (c != 0 || s.remoteOpen off) &&
    match g with
    | .any => true
    | .priv => decide (2 ≤ c)
    | .secure => decide (3 ≤ c)

/-! ### Writing a register by its access codes -/

/-- Bits `hi` to `lo` of a word as a mask number. -/
def fieldMask (f : FieldDef) : Nat := 2 ^ (f.hi + 1) - 2 ^ f.lo

/-- The new value of a field's bits, in place, when `wv` is written over `old` (R28, R31, R40, R43). Write-only fields keep
nothing; an error counter and a maximum are cleared by 0 and ignore other values. -/
def fieldWrite (f : FieldDef) (old wv : Nat) : Nat :=
  let m := fieldMask f
  match f.acc with
  | .ro => old &&& m
  | .wo => 0
  | .rw => wv &&& m
  | .w1c => (old &&& m) - ((old &&& m) &&& (wv &&& m))
  | .mw =>
    if 16 ≤ f.lo then 0
    else
      let en := (wv / 2 ^ 16) &&& m
      ((old &&& m) - ((old &&& m) &&& en)) ||| (wv &&& en)
  | .cnt => if wv = 0 then 0 else old &&& m
  | .clr0 => if wv = 0 then 0 else old &&& m

/-- Whether a write of `wv` over `old` would have an effect on the field: what makes it a guard miss for a writer below the
field's guard (R34). -/
def fieldTouched (f : FieldDef) (old wv : Nat) : Bool :=
  let m := fieldMask f
  match f.acc with
  | .wo => (wv &&& m) != 0
  | _ => fieldWrite f old wv != (old &&& m)

/-- The word after a write by class `c`, and whether the write is a guard miss (R34). -/
def State.maskedWrite (s : State) (c off : Nat) (r : RegRow) (old wv : Word) : Word × Bool :=
  r.fields.foldl (fun (acc : Word × Bool) f =>
    if s.reaches c off f.guard then (acc.1 ||| BitVec.ofNat 32 (fieldWrite f old.toNat wv.toNat), acc.2)
    else (acc.1 ||| BitVec.ofNat 32 (old.toNat &&& fieldMask f), acc.2 || fieldTouched f old.toNat wv.toNat)) (0, false)

/-- The bits of a written word that reach a field the writer may write: what the block sees of the write. -/
def State.effectiveWrite (s : State) (c off : Nat) (r : RegRow) (wv : Word) : Word :=
  r.fields.foldl (fun (acc : Word) f =>
    if s.reaches c off f.guard then acc ||| BitVec.ofNat 32 (wv.toNat &&& fieldMask f) else acc) 0

/-- The word a read by class `c` returns, and whether the read is a guard miss: every field that is not reserved lies above the
reader (R34). Write-only fields and masks read 0. -/
def State.maskedRead (s : State) (c off : Nat) (r : RegRow) (w : Word) : Word × Bool :=
  r.fields.foldl (fun (acc : Word × Bool) f =>
    if s.reaches c off f.guard then
      (if f.acc = .wo ∨ (f.acc = .mw ∧ 16 ≤ f.lo) then (acc.1, false)
       else (acc.1 ||| BitVec.ofNat 32 (w.toNat &&& fieldMask f), false))
    else acc) (0, true)

/-! ### Counters -/

/-- An error counter increased by 1, and whether it has just saturated: at 0xFFFF_FFFF it stops and sets its SAT bit (R43). -/
def State.bump (s : State) (off : Nat) : State × Bool :=
  let v := (s.rd off).toNat
  if v + 1 < 0xFFFFFFFF then (s.wr off (BitVec.ofNat 32 (v + 1)), false)
  else if v = 0xFFFFFFFF then (s, false)
  else
    let s' := s.wr off (BitVec.ofNat 32 0xFFFFFFFF)
    match regRow off with
    | some ⟨base, _, _, some (sat, bit)⟩ =>
      let so := sat + (off - base)
      (s'.wr so (s'.rd so ||| BitVec.ofNat 32 (2 ^ bit)), true)
    | _ => (s', true)

/-! ### Read latches and staging latches -/

/-- The word held for a master at a key. -/
def mwGet (l : List MWord) (mid key : Nat) : Option Word :=
  (l.find? (fun e => e.mid == mid && e.key == key)).map (·.word)

/-- The list with the words of a master at the given keys removed. -/
def mwDrop (l : List MWord) (mid : Nat) (keys : List Nat) : List MWord :=
  l.filter (fun e => !(e.mid == mid && keys.contains e.key))

/-- The list with the word of a master at a key replaced. -/
def mwPut (l : List MWord) (mid key : Nat) (w : Word) : List MWord :=
  ⟨mid, key, w⟩ :: mwDrop l mid [key]

/-- The multi-word values (R41, R42): offset of the lowest word, strides and counts of its instances, number of words. -/
def mwTable : List (Nat × List (Nat × Nat) × Nat) := [
  (DEV_UID_LO.off, [], 2),
  (PWR_WAKE_LAST.off, [], 2),
  (SUMP_FEC0.off, [], 5),
  (TIME_NOW_FRAC.off, [], 4),
  (TIME_FNS_LO.off, [], 2),
  (TIME_EPOCH_LO.off, [], 2),
  (TIME_INC_LO.off, [], 2),
  (TIME_SLEW_INC.off, [], 2),
  (TIME_SET_NS.off, [], 3),
  (TIME_SYNC_OFF_LO.off 0, [(0x10, 4)], 3),
  (TIME_EDGE_HEAD_LO.off 0, [(0x10, 8)], 2),
  (TIME_TRIG_LO.off 0, [(8, 8)], 2),
  (TIME_LATE0.off, [], 5),
  (TIME_PTP_TX_INFO.off 0, [(0x40, 4)], 3)] ++ [
  (RING_APPLY_LO.off, [], 2),
  (RING_SUB_NODE.off, [], 3),
  (PORT_RX_BYTES_LO.off 0, [(0x4000, 2), (0x1000, 2), (8, 4)], 2),
  (FLOW_ACC_LO.off, [(8, 3)], 2),
  (PNT_PROF_SAFE_LO.off, [], 2),
  (PNT_OUT_DST_LO.off, [], 2),
  (SW_FWD_KEY_LO.off, [], 3),
  (ETH_RX_BYTES_LO.off 0, [(0x1000, 4), (8, 4)], 2),
  (BRG_PWF0.off, [], 5),
  (BRG_STR0.off, [], 8),
  (BRG_SIG_SRC.off, [], 2),
  (BRG_TUN_CFG.off, [], 3)] ++ [
  (FH_LOST0.off, [], 5),
  (FH_WIN_LO.off 0 0, [(0x80, 2), (8, 16)], 2),
  (CST_TLOG0.off, [], 3),
  (CAN_TT_CFG.off 0, [(0x2000, 8)], 2),
  (CAN_RX_FRAMES_LO.off 0, [(0x2000, 8), (8, 2)], 2),
  (CAN_OBJ_STAMP_LO.off 0, [(0x2000, 8)], 2),
  (USB_RX_BYTES_LO.off, [(8, 2)], 2)]

/-- The multi-word value an offset belongs to: the offset of its lowest word and its number of words. -/
def mwGroup (off : Nat) : Option (Nat × Nat) :=
  mwTable.findSome? (fun e =>
    (List.range e.2.2).findSome? (fun i =>
      if e.1 + 4 * i ≤ off ∧ dimsHas e.2.1 (off - (e.1 + 4 * i)) then some (off - 4 * i, e.2.2) else none))

/-- Whether the offset is the lowest word of a multi-word value. -/
def isLowest (off : Nat) : Bool := (mwGroup off).any (fun e => e.1 == off)

/-- Whether the offset is the highest word of a multi-word value. -/
def isHighest (off : Nat) : Bool := (mwGroup off).any (fun e => e.1 + 4 * (e.2 - 1) == off)

/-! ### Jets' status word -/

/-- A Jet's record. -/
def State.jet (s : State) (j : Nat) : Jet := SMap.get Jet.dflt s.jets.jets j

/-- A Jet's record replaced. -/
def State.setJet (s : State) (j : Nat) (v : Jet) : State :=
  { s with jets := { s.jets with jets := SMap.set Jet.dflt s.jets.jets j v } }

/-- JET_STAT of a Jet: STATE and EVT as held, fills, cursor, repeat passes and program counter as they stand (R333). -/
def State.jetStat (s : State) (j : Nat) : Word :=
  let v := s.jet j
  let w := s.rd (JET_STAT.off j)
  let w := (JET_STAT.TXFILL j).put w v.tx.length
  let w := (JET_STAT.RXFILL j).put w v.rx.length
  let w := (JET_STAT.CUR j).put w v.cur
  let w := (JET_STAT.LCNT j).put w v.lcnt
  (JET_STAT.PC j).put w (s.g (JET_PC.PC j))

/-! ### Responses -/

/-- The response given to a master. -/
def State.answer (s : State) (m : Master) (status : Nat) (data : List Byte) : State :=
  { s with resp := some ⟨m.mid.val, status, data⟩ }

/-- The bytes of a number, least significant first. -/
def bytesLE (n v : Nat) : List Byte := (List.range n).map (fun i => BitVec.ofNat 8 (v / 2 ^ (8 * i)))

/-- The bytes of a number, most significant first. -/
def bytesBE (n v : Nat) : List Byte := (bytesLE n v).reverse

/-- The number that bytes spell, least significant first. -/
def natLE : List Byte → Nat
  | [] => 0
  | b :: r => b.toNat + 256 * natLE r

/-- The number that bytes spell, most significant first. -/
def natBE (l : List Byte) : Nat := natLE l.reverse

/-- `n` bytes of a list from position `i`, padded with zeros. -/
def slice (l : List Byte) (i n : Nat) : List Byte :=
  let r := (l.drop i).take n
  r ++ List.replicate (n - r.length) 0

end Sys2Proof.Machine
end

