-- ==== Sys2Proof/Machine/Offer.lean ====
section
/-! DEFINITION. Frames that this node originates (R2, R96, R99, R200): how a block offers one to Cascade, and the frame types
and port kinds. Offering only puts the frame among those waiting for admission; FRAME_ADMIT admits it (R208). -/

namespace Sys2Proof.Machine

/-! ### Frame types (R99) -/

def tyHello : Nat := 0x01
def tyLdlyReq : Nat := 0x02
def tyLdlyRsp : Nat := 0x03
def tyRingState : Nat := 0x04
def tySync : Nat := 0x05
def tySummation : Nat := 0x08
def tyWork : Nat := 0x0C
def tyWorkAck : Nat := 0x0D
def tyRread : Nat := 0x0E
def tyRreadRsp : Nat := 0x0F
def tyTunCan : Nat := 0x10
def tyTunEth : Nat := 0x11
def tyTunPkt : Nat := 0x12
def tyMgmt : Nat := 0x14
def tyAlarm : Nat := 0x15
def tyRunnel : Nat := 0x18
def tyBest : Nat := 0x1C

/-- The link-local types of R99: consumed by the port, never forwarded. -/
def linkLocal (t : Nat) : Bool := t == tyHello || t == tyLdlyReq || t == tyLdlyRsp || t == tyRunnel

/-- Whether R99 allows the class for the type; false for a reserved type. -/
def classAllowed (t c : Nat) (work : Bool) : Bool :=
  if t = tyHello ∨ t = tyLdlyReq ∨ t = tyLdlyRsp ∨ t = tyRingState ∨ t = tySync then c == 7
  else if t = tySummation then c == 6
  else if t = tyWork ∨ t = tyWorkAck ∨ t = tyRread ∨ t = tyRreadRsp then c == 5
  else if t = tyTunCan then c == 4 || (c == 5 && work)
  else if t = tyTunEth then c == 2 || (c == 5 && work)
  else if t = tyTunPkt then c == 5 && work
  else if t = tyMgmt ∨ t = tyAlarm then c == 3
  else if t = tyRunnel then c == 1
  else if t = tyBest then c == 0
  else false

/-! ### Nodes, planes and ports -/

/-- This node's ID (R46). -/
def State.node (s : State) : Nat := s.g DEV_NODE.NODE_ID

/-- NODE, SPACE and OFFSET of a fabric address (R47). -/
def adNode (a : Nat) : Nat := a / 2 ^ 48
def adSpace (a : Nat) : Nat := a / 2 ^ 40 % 256
def adOff (a : Nat) : Nat := a % 2 ^ 40

/-- Whether an address names this node (R3, R48). -/
def State.isHere (s : State) (a : Nat) : Bool := adNode a == 0 || adNode a == s.node

/-- Whether plane B is configured (R46). DEDUCED: it is while one of its two ports has a MODE other than 0 (R91, R130). -/
def State.planeB (s : State) : Bool := s.g (PORT_CFG.MODE 2) != 0 || s.g (PORT_CFG.MODE 3) != 0

/-- The ring ports of the planes in use (R90). -/
def State.ringPorts (s : State) : List Nat := if s.planeB then [0, 1, 2, 3] else [0, 1]

/-- The plane of a ring port: 0 plane A, 1 plane B. -/
def planeOf (p : Nat) : Nat := p / 2

/-- The other ring port of the same plane. -/
def otherPort (p : Nat) : Nat := if p % 2 = 0 then p + 1 else p - 1

/-- Whether this node belongs to a group destination (R104, R199); every node belongs to 0xFFFF. -/
def State.inGroup (s : State) (dst : Nat) : Bool :=
  dst == 0xFFFF || (decide (0xFF00 ≤ dst) && (s.rd (FLOW_GRPMEM.off ((dst - 0xFF00) / 32))).toNat.testBit ((dst - 0xFF00) % 32))

/-- Whether a ring port runs: its domain and Aqueduct are on and MODE is not 0. -/
def State.portRuns (s : State) (p : Nat) : Bool := s.domOn (3 + planeOf p) && s.domOn 5 && s.g (PORT_CFG.MODE p) != 0

/-- Whether the port's SFP cage transmitter is disabled (R91): the level of its TXDIS ball. -/
def State.txDis (s : State) (p : Nat) : Bool := s.g (PORT_CFG.MODE p) == 0

/-- A ring port's record. -/
def State.port (s : State) (p : Nat) : Port := SMap.get Port.dflt s.links.ports p

/-- A ring port's record replaced. -/
def State.setPort (s : State) (p : Nat) (v : Port) : State :=
  { s with links := { s.links with ports := SMap.set Port.dflt s.links.ports p v } }

/-! ### Frames -/

/-- Bytes a Pelum frame occupies in the buffer: header, payload, any ICV and trailer (R203). -/
def frameBytes (f : Frame) : Nat := 36 + f.len + (if f.sec then 16 else 0)

/-- Byte time of a mode in hundredths of a ns (R92). -/
def byteTime (mode : Nat) : Nat := if mode = 1 then 800 else if mode = 2 then 80 else 32

/-- Bytes that a frame takes as it leaves a ring port (R95, R111): the ICV where the port is secured, but for HELLO. -/
def State.wireLen (s : State) (p : Nat) (f : Frame) : Nat :=
  36 + f.len + (if s.g (PORT_CFG.SEC p) ≠ 0 ∧ f.typ ≠ tyHello then 16 else 0)

/-- Bytes that a frame of this node's own takes in the buffer (R203): with its ICV where a ring port it goes to is secured. -/
def State.localBytes (s : State) (targets : List Nat) (f : Frame) : Nat :=
  targets.foldl (fun b p => if p < 4 then max b (s.wireLen p f) else b) (frameBytes f)

/-- Tiles for a number of bytes (R203). -/
def tilesFor (b : Nat) : Nat := (b + 255) / 256

/-- A frame this node originates, RESCORR 0, TURNS 0 (R96, R109). -/
def State.mkFrame (s : State) (typ cls dst flow seq : Nat) (work : Bool) (payload : List Byte) : Frame :=
  { dst := dst, src := s.node, cls := cls, typ := typ, flow := flow, planeB := false, west := false, seq := seq,
    len := payload.length, hops := 0, an := 0, rescorr := 0, pn := 0, turns := 0, sec := false, work := work, epoch := 0,
    payload := payload }

/-- The next SEQ of this node's frames of a class that are not work, and the state with it used (R96). -/
def State.takeSeq (s : State) (cls : Nat) : Nat × State :=
  let n := SMap.get (fun _ => 0) s.links.seqNext cls
  (n, { s with links := { s.links with seqNext := SMap.set (fun _ => 0) s.links.seqNext cls ((n + 1) % 2 ^ 32) } })

/-- A stamp in quarter ns modulo 2^50, `q` quarter ns after the tick (R109). -/
def State.now4 (s : State) (q : Nat) : Nat := (4 * s.fns48 + q) % 2 ^ 50

/-- SEC, NS and the quarter nanosecond of an instant `q` quarter ns after the tick (R270, R275). -/
def State.stampQ (s : State) (q : Nat) : Nat × Nat × Nat :=
  let ns := s.clep.ns + q / 4
  if 1000000000 ≤ ns then ((s.clep.sec + 1) % 2 ^ 48, ns - 1000000000, q % 4) else (s.clep.sec, ns, q % 4)

/-- A Pelum frame offered at an internal port for the given egress ports (R208, R211). -/
def State.offerTo (s : State) (inPort : Nat) (targets : List Nat) (f : Frame) : State :=
  { s with sw := { s.sw with waiting := s.sw.waiting ++
      [⟨inPort, f.cls, targets, f, false, s.localBytes targets f, none, s.now4 0⟩] } }

/-- A frame not of work offered at an internal port toward the ring, both ways on each plane in use (R2). A class 4 or 3 frame
of more than 1,024 bytes is refused by the port with WIDTH (R202): the answer is false and nothing is offered. -/
def State.offerRing (s : State) (inPort typ cls dst : Nat) (payload : List Byte) : Bool × State :=
  if (cls = 4 ∨ cls = 3) ∧ 1024 < payload.length then (false, s)
  else
    let (n, s) := s.takeSeq cls
    (true, s.offerTo inPort s.ringPorts (s.mkFrame typ cls dst 0 n false payload))

/-- A link-local or plane-wide class 7 frame offered for one ring port (R102, R133). -/
def State.offerPort (s : State) (p typ cls dst : Nat) (payload : List Byte) : State :=
  let (n, s) := s.takeSeq cls
  s.offerTo 8 [p] (s.mkFrame typ cls dst 0 n false payload)

end Sys2Proof.Machine
end

