-- ==== Sys2Proof/Machine/Sump.lean ====
section
/-! DEFINITION. Sump's taking of an event (R475 to R490): pending bits and kept classes, the routes, the fault log with
Spillway, the alarm path, Stillwater's triggers, the reactions and the GRAVE fault; and counting with the saturation event
(R43). Every block raises its events through `State.raise`. -/

namespace Sys2Proof.Machine

/-! ### Classes and event numbers (R475, R476) -/

def clEvent : Nat := 0
def clNote : Nat := 1
def clDegraded : Nat := 2
def clSevere : Nat := 3
def clGrave : Nat := 4

/-- First event number of each source's range (R475). -/
def evSump (i : Nat) : Nat := i
def evPwr (i : Nat) : Nat := 8 + i
def evCmp (n : Nat) : Nat := 16 + n
def evCfg (i : Nat) : Nat := 40 + i
def evTime (i : Nat) : Nat := 48 + i
def evSec (i : Nat) : Nat := 64 + i
def evPort (p i : Nat) : Nat := 72 + 8 * p + i
def evRing (i : Nat) : Nat := 104 + i
def evFlow (i : Nat) : Nat := 120 + i
def evPnt (i : Nat) : Nat := 136 + i
def evSw (i : Nat) : Nat := 144 + i
def evEth (n i : Nat) : Nat := 152 + 4 * n + i
def evBrg (i : Nat) : Nat := 168 + i
def evCst (i : Nat) : Nat := 176 + i
def evCistern (n : Nat) : Nat := 184 + n % 16
def evJet (n : Nat) : Nat := 200 + n
def evFio (i : Nat) : Nat := 264 + i
def evCan (n : Nat) : Nat := 272 + n
def evUsb (i : Nat) : Nat := 280 + i
def evFeed (n : Nat) : Nat := 288 + n
def evFeedC (i : Nat) : Nat := 304 + i
def evFh (i : Nat) : Nat := 312 + i
def evTel (i : Nat) : Nat := 320 + i

/-- The saturation event of the block that holds a counter (R43, R475): the instance's event where a range has one event per
instance, else index 0 of the block's range. Comparators have no range of their own beside their instances: PWR's is used. -/
def satEvent (off : Nat) : Nat :=
  if off < 0x020000 then evPwr 0
  else if off < 0x040000 then evSump 0
  else if off < 0x050000 then evTime 0
  else if off < 0x060000 then evSec 0
  else if off < 0x080000 then evCfg 0
  else if off < 0x0A0000 then evRing 0
  else if off < 0x0C0000 then evPort ((off - 0x0A0000) / 0x4000 * 2 + (off - 0x0A0000) % 0x4000 / 0x1000) 0
  else if off < 0x0E0000 then evFlow 0
  else if off < 0x100000 then evPnt 0
  else if off < 0x120000 then evSw 0
  else if off < 0x140000 then evEth ((off - 0x120000) / 0x1000) 0
  else if off < 0x160000 then evBrg 0
  else if off < 0x180000 then evCst 0
  else if off < 0x1A0000 then evJet ((off - 0x180000) / 0x400)
  else if off < 0x1C0000 then evFio 0
  else if off < 0x1E0000 then evCan ((off - 0x1C0000) / 0x2000)
  else if off < 0x200000 then evUsb 0
  else if off < 0x220000 then evFeedC 0
  else if off < 0x240000 then evPwr 0
  else if off < 0x260000 then evFh 0
  else if off < 0x280000 then evTel 0
  else evBrg 0

/-! ### Pending bits -/

/-- Whether an event is pending (R476). -/
def State.evPend (s : State) (ev : Nat) : Bool := (s.rd (EVT_PEND.off (ev / 32))).toNat.testBit (ev % 32)

/-- The class Sump keeps for a pending event (R476). -/
def State.evKept (s : State) (ev : Nat) : Nat := SMap.get (fun _ => 0) s.sump.kept ev

/-- The present faults of a class (R478). -/
def State.present (s : State) (c : Nat) : Nat :=
  ((List.range 512).filter (fun e => s.evPend e && s.evKept e == c)).length

/-- Whether a source's condition still holds, so that a clear has no effect (R476). -/
def State.lasting (s : State) (ev : Nat) : Bool :=
  (decide (288 ≤ ev ∧ ev < 304) && s.g (FEED_CHSTAT.STATE (ev - 288)) == 5) ||
  (ev == evCfg 2 && s.g CFG_BOOT.STAGE == 6) || (ev == evTel 6 && s.sump.hot) || (ev == evSec 7 && s.flag SEC_STAT.ERR)

/-- The status register of an event's instance in the per-instance ranges, else 0 (R483). -/
def State.evStat (s : State) (ev : Nat) : Word :=
  if 16 ≤ ev ∧ ev < 40 then s.rd (CMP_STAT.off (ev - 16))
  else if 200 ≤ ev ∧ ev < 264 then s.jetStat (ev - 200)
  else if 272 ≤ ev ∧ ev < 280 then s.rd (CAN_STAT.off (ev - 272))
  else if 288 ≤ ev ∧ ev < 304 then s.rd (FEED_CHSTAT.off (ev - 288))
  else 0

/-- DETAIL of a log entry (R483); bit 31 set for what an injected error does (R494). -/
def State.evDetail (s : State) (ev : Nat) : Word := if s.sump.injected then s.evStat ev ||| 0x80000000 else s.evStat ev

/-- What an injected error does, its log entries marked (R494). -/
def State.asInjected (s : State) (f : State → State) : State :=
  let t := f { s with sump := { s.sump with injected := true } }
  { t with sump := { t.sump with injected := false } }

/-- What an error does, as an injected one where it is one. -/
def State.asIf (s : State) (inj : Bool) (f : State → State) : State := if inj then s.asInjected f else f s

/-- Whether an injected error is one of a journal line's CRC; the scan of FLOW_RECOVER meets it. -/
def Inject.isLine : Inject → Bool
  | .lineCrc _ => true
  | .flip .. | .flipReservoir .. | .tileCrc _ | .trailer _ | .voter _ | .comparator .. | .supply _ => false

/-- An injected error that has been met. -/
def State.injMet (s : State) (x : Inject) : State := { s with sump := { s.sump with inj := s.sump.inj.filter (· != x) } }

/-! ### The fault log and Spillway (R483, R484) -/

/-- One entry written to the fault log at the next SERIAL; the newest 256 are kept. -/
def State.writeLog (s : State) (ev cls rep : Nat) (summary : Bool) : State :=
  let n := if s.sump.logAny then (s.sump.logSerial + 1) % 65536 else 0
  let e : LogEnt := ⟨s.fns48, ev, cls, summary, min rep 65535, n, if summary then 0 else s.evDetail ev⟩
  { s with sump := { s.sump with log := (e :: s.sump.log).take 256, logSerial := n, logAny := true } }

/-- The Spillway table with one more occurrence of a source. -/
def spillAdd (l : List SpillEnt) (ev cls rep : Nat) : List SpillEnt :=
  if l.any (fun e => e.ev == ev) then
    l.map (fun e => if e.ev = ev then { e with count := e.count + rep, cls := max e.cls cls } else e)
  else l ++ [⟨ev, rep, cls⟩]

/-- An occurrence offered to the fault log (R484), and the events this raises. -/
def State.offerLog (s : State) (ev cls rep : Nat) : State × List (Nat × Nat) :=
  let lim := max 1 (s.g SUMP_SPILL.LOG_RATE)
  let s := { s with sump := { s.sump with winOffers := s.sump.winOffers + 1 } }
  let enter := !s.sump.spill && decide (lim ≤ s.sump.winEntries)
  let s := if enter then { s with sump := { s.sump with spill := true, winEntered := true, spillTab := [], spillSeen := [] } } else s
  let evs := if enter then [(evSump 2, clEvent)] else []
  if s.sump.spill then
    if clDegraded ≤ cls ∧ !s.sump.spillSeen.contains ev then
      let s := s.writeLog ev cls rep false
      ({ s with sump := { s.sump with winEntries := s.sump.winEntries + 1, spillSeen := ev :: s.sump.spillSeen } }, evs)
    else
      let s := { s with sump := { s.sump with spillTab := spillAdd s.sump.spillTab ev cls rep } }
      let (s, sat) := s.bump SUMP_LOG_DROP.off
      (s, evs ++ if sat then [(evSump 0, clEvent)] else [])
  else
    let s := s.writeLog ev cls rep false
    ({ s with sump := { s.sump with winEntries := s.sump.winEntries + 1 } }, evs)

/-! ### The alarm path (R485) -/

/-- SRC of a log entry or an ALARM frame (R483). -/
def srcField (ev cls : Nat) (summary : Bool) : Nat := ev + 4096 * cls + (if summary then 32768 else 0)

/-- The 32 bytes of an ALARM payload (R485). -/
def alarmBytes (fns ev cls : Nat) (detail : Word) (dropped dcls : Nat) (treq : Option Nat) : List Byte :=
  bytesBE 6 fns ++ bytesBE 2 (srcField ev cls false) ++ bytesBE 4 detail.toNat ++ bytesBE 2 (min dropped 65535) ++
    bytesBE 1 dcls ++ bytesBE 1 (b2n treq.isSome) ++ bytesBE 6 (treq.getD 0) ++ List.replicate 10 0

/-- An ALARM frame sent (TYPE 0x15, class 3) with the number and highest class of those dropped before it. -/
def State.sendAlarm (s : State) (ev cls : Nat) (treq : Option Nat) : State :=
  let pl := alarmBytes s.fns48 ev cls (s.evDetail ev) s.sump.alarmLost s.sump.alarmLostCls treq
  let (_, s) := s.offerRing 8 tyAlarm 3 (s.g SUMP_ALARM.DST) pl
  { s with sump := { s.sump with alarmLost := 0, alarmLostCls := 0 } }

/-- An occurrence offered to the alarm path: sent while the cycle's MAX allows, else counted as dropped. -/
def State.offerAlarm (s : State) (ev cls : Nat) : State × List (Nat × Nat) :=
  if !s.flag SUMP_ALARM.EN then (s, [])
  else if s.sump.alarmSent < max 1 (s.g SUMP_ALARM.MAX) then
    let s := s.sendAlarm ev cls none
    ({ s with sump := { s.sump with alarmSent := s.sump.alarmSent + 1 } }, [])
  else
    let s := { s with sump := { s.sump with alarmLost := min 65535 (s.sump.alarmLost + 1), alarmLostCls := max s.sump.alarmLostCls cls } }
    let (s, sat) := s.bump SUMP_ALARM_DROP.off
    (s, if sat then [(evSump 0, clEvent)] else [])

/-! ### Stillwater triggers (R487 to R490) -/

/-- Snapshot causes (R486). -/
def snPin : Nat := 1
def snEvt : Nat := 2
def snReg : Nat := 3
def snTime : Nat := 4
def snRing : Nat := 5

/-- A refused trigger: counts SNAP_LOST and raises EV006 (R490). -/
def State.snapRefuse (s : State) (cnt : Nat) : State × List (Nat × Nat) :=
  let (s, sat) := s.bump cnt
  (s, (evSump 6, clEvent) :: if sat then [(evSump 0, clEvent)] else [])

/-- The levels of the field pins at their balls, pin n at bit n, as eight words (R486). -/
def State.pinWords (s : State) : List Word := (List.range 8).map (fun k => s.pins.ball.extractLsb' (32 * k) 32)

/-- A trigger that fires at an instant: the slot starts COPYING, its MARK awaited, unless the slot is taken (R490);
for TIME and RING the pin levels are latched now (R487). -/
def State.snapFire (s : State) (cause origin instant : Nat) : State × List (Nat × Nat) :=
  let st := s.g SNAP_STAT.STATE
  if st = 2 ∧ (s.sump.snapMark.any (fun m => m.2.2 == instant) || s.sump.snap.any (fun n => n.instant == instant)) then
    (s.p SNAP_STAT.CAUSE (min cause (s.g SNAP_STAT.CAUSE)), [])
  else if st = 2 ∨ (st = 3 ∧ !s.flag SNAP_CFG.OVERWRITE) then s.snapRefuse SNAP_LOST.off
  else
    let s := (s.p SNAP_STAT.STATE 2).p SNAP_STAT.CAUSE cause
    let pins := if cause = snTime ∨ cause = snRing then some s.pinWords else none
    ({ s with sump := { s.sump with snap := none, snapPins := pins, snapMark := some (cause, origin, instant), snapArm := if st = 1 ∧ cause ≠ snRing then s.sump.snapArm else none } }, [])

/-- The cycle period in ns for the active K (R131). -/
def State.periodNs (s : State) : Nat := 31250 * 2 ^ s.g RING_ACT_CYC.K

/-- A PIN or EVT trigger (R487, R489): a snapshot at once, or with SNAP_CFG.RING = 1 an arming for the start of cycle n + RLEAD
and an ALARM frame with SNAPREQ. -/
def State.snapLocal (s : State) (cause instant ev cls : Nat) : State × List (Nat × Nat) :=
  if !s.flag SNAP_CFG.EN ∨ !(s.g SNAP_CFG.TRIG).testBit (cause - 1) then (s, [])
  else if !s.flag SNAP_CFG.RING then s.snapFire cause s.node instant
  else
    let per := s.periodNs
    let treq := (instant / per + max 2 (s.g SNAP_CFG.RLEAD)) * per
    match s.sump.snapArm with
    | some (t, _) =>
      if t = treq then (s, []) else s.snapRefuse SNAP_LOST.off
    | none =>
      let st := s.g SNAP_STAT.STATE
      if st = 2 ∨ (st = 3 ∧ !s.flag SNAP_CFG.OVERWRITE) then s.snapRefuse SNAP_LOST.off
      else
        let s := { s.p SNAP_STAT.STATE 1 with sump := { s.sump with snapArm := some (treq, s.node) } }
        (s.sendAlarm ev cls (some treq), [])

/-! ### The GRAVE fault and the reactions (R478, R479, R481) -/

/-- BYP_N driven low and INSERT left at 0 (R125). -/
def State.bypassDrop (s : State) : State := (s.pb PORT_BYP.INSERT false).pb PORT_BYP.PIN false

/-- The stronger of two reset requests (R439): POWER-ON, then SYSTEM, then CONTROL. -/
def State.askReset (s : State) (r : ResetReq) : State :=
  match s.resetReq with
  | some q => if q.kind ≤ r.kind then s else { s with resetReq := some r }
  | none => { s with resetReq := some r }

/-- What an occurrence of class GRAVE does: FAULT_N and SAFE_N go low with the fault kept, BYP_N goes low, and a SYSTEM reset is
requested at once (R481). -/
def State.graveAct (s : State) : State :=
  ({ s.bypassDrop with sump := { s.sump with grave := true } }).askReset ⟨1, 4, 0⟩

/-- A reaction of kind `k` (1 CONTROL, 2 SYSTEM) asked for by a DEGRADED or SEVERE occurrence: due REACT_DLY ms later; one that
falls due during the delay joins, and the stronger kind is taken (R479). -/
def State.react (s : State) (k : Nat) : State :=
  if k ≠ 1 ∧ k ≠ 2 then s
  else
    match s.sump.react with
    | some (k0, due) => { s with sump := { s.sump with react := some (max k0 k, due) } }
    | none => { s with sump := { s.sump with react := some (k, s.absNs + 1000000 * (s.g SUMP_CFG.REACT_DLY : Int)) } }

/-! ### One occurrence -/

/-- The parts of an occurrence up to the routes: the pending bit set and the class kept (R476), HST_ATTN set on the HOST route
(R477). -/
def State.setPend (s : State) (ev cls : Nat) : State :=
  let k := if s.evPend ev then max (s.evKept ev) cls else cls
  let s := s.wr (EVT_PEND.off (ev / 32)) (s.rd (EVT_PEND.off (ev / 32)) ||| BitVec.ofNat 32 (2 ^ (ev % 32)))
  let s := { s with sump := { s.sump with kept := SMap.set (fun _ => 0) s.sump.kept ev k } }
  if s.flag (EVT_ROUTE.HOST ev) then s.pb HST_ATTN.EVT true else s

/-- An occurrence of event `ev` whose rule names class `cls` reaches Sump, standing for `rep` occurrences. The events that this
itself raises (Spillway, saturations, refused triggers) follow as occurrences, at most `fuel` deep. -/
def State.raiseN : Nat → State → Nat → Nat → Nat → State
  | 0, s, _, _, _ => s
  | fuel + 1, s, ev, cls, rep =>
    let c := max cls (min 3 (s.g (EVT_ROUTE.RAISE ev)))
    let s := s.setPend ev c
    let quiet := ev == evSump 2 || ev == evSump 3
    let (s, e1) := if s.flag (EVT_ROUTE.LOG ev) && !quiet then s.offerLog ev c rep else (s, [])
    let (s, e2) := if s.flag (EVT_ROUTE.ALARM ev) && !quiet then s.offerAlarm ev c else (s, [])
    let (s, e3) := if s.flag (EVT_ROUTE.SNAP ev) then s.snapLocal snEvt s.fns48 ev c else (s, [])
    let s := if c = clDegraded then s.react (s.g SUMP_CFG.REACT_DEG)
      else if c = clSevere then s.react (s.g SUMP_CFG.REACT_SEV) else s
    let s := if c = clGrave then s.graveAct else s
    (e1 ++ e2 ++ e3).foldl (fun s e => State.raiseN fuel s e.1 e.2 1) s

/-- An event raised once at a class (R476). -/
def State.raise (s : State) (ev cls : Nat) : State := State.raiseN 4 s ev cls 1

/-- An event raised when a condition holds. -/
def State.raiseIf (s : State) (b : Bool) (ev cls : Nat) : State := if b then s.raise ev cls else s

/-- An error counter increased by 1 with its saturation event (R43). -/
def State.count (s : State) (off : Nat) : State :=
  let (s', sat) := s.bump off
  if sat then s'.raise (satEvent off) clEvent else s'

/-- A counter increased when a condition holds. -/
def State.countIf (s : State) (b : Bool) (off : Nat) : State := if b then s.count off else s

/-- A refused configuration write: the block's counter counts, and its refused-configuration event (index 1 of its range, or the
instance's event) is raised (R475). -/
def State.cfgErr (s : State) (off ev : Nat) : State := (s.count off).raise ev clEvent

/-! ### First-error capture (R482) -/

/-- A bus error or a guard miss counted, and captured while SUMP_FEC0.VALID is 0. Kinds: 0 read, 1 write, 2 atomic, 3 fetch. -/
def State.firstError (s : State) (m : Master) (kind : Nat) (guard : Bool) (addr : Nat) : State :=
  let s := if s.flag SUMP_FEC0.VALID then s
    else
      let nd := if m.mid.val = 0x10 then m.node.toNat else 0
      let s := (((((s.p SUMP_FEC0.VALID 1).p SUMP_FEC0.MID m.mid.val).p SUMP_FEC0.KIND kind).pb SUMP_FEC0.GUARD guard).p
        SUMP_FEC0.NODE nd)
      let s := s.wr64 SUMP_FEC1.off addr
      s.wr64 SUMP_FEC3.off s.fns48
  s.count (if guard then SUMP_GUARD_CNT.off else SUMP_BUSERR_CNT.off)

/-- The event by which the block of an internal master reports its own error completion (R29). DESIGN CHOICE: R475 gives none of
its own; the model takes index 1 of the range of that block. -/
def ownEvent (mid : Nat) : Option Nat :=
  if mid = 0x00 ∨ mid = 0x14 then some (evCfg 1)
  else if mid = 0x01 then some (evSec 1)
  else if mid = 0x11 then some (evRing 1)
  else if mid = 0x12 then some (evPnt 1)
  else if mid = 0x13 then some (evTel 1)
  else none

/-- A bus error (R29): counted and captured, with the event of an internal master's block. -/
def State.busFault (s : State) (m : Master) (kind addr : Nat) : State :=
  let s := s.firstError m kind false addr
  match ownEvent m.mid.val with
  | some e => s.raise e clEvent
  | none => s

/-! ### The output pins that Sump drives (R478) -/

/-- The level of FAULT_N: low while a present fault reaches PIN_CLASS, or a GRAVE fault is present. -/
def State.faultN (s : State) : Bool :=
  let pc := max 1 (s.g SUMP_CFG.PIN_CLASS)
  !(s.sump.grave || (List.range 512).any (fun e => s.evPend e && decide (pc ≤ s.evKept e)))

/-- The level of SAFE_N: low in safe state, until the first RELEASE after a start-up (R422), and while a GRAVE fault is
present. -/
def State.safeN (s : State) : Bool := !(s.flag FH_STAT.SAFE || !s.fh.released || s.sump.grave)

/-- The active unit's machine external interrupt: some pending event has FH = 1 (R477). -/
def State.fhIrq (s : State) : Bool := (List.range 512).any (fun e => s.evPend e && s.flag (EVT_ROUTE.FH e))

end Sys2Proof.Machine
end

