-- ==== Sys2Proof/Machine/Pads.lean ====
section
/-! DEFINITION. Pad latches, direct levels and what reaches the ball of a field pin (R309 to R312). -/

namespace Sys2Proof.Machine

/-- A bit of a pin vector replaced. -/
def setPin (v : BitVec 256) (n : Nat) (b : Bool) : BitVec 256 :=
  if b then v ||| BitVec.ofNat 256 (2 ^ n) else v &&& ~~~(BitVec.ofNat 256 (2 ^ n))

/-- The pin's owner: 0 NONE, 1 DIRECT, 2 JET (R310). -/
def State.owner (s : State) (n : Nat) : Nat := s.g (FIO_PIN_CFG.OWNER n)

/-- The direct level D(n): bit n mod 16 of FIO_LEVEL(n / 16) (R310). -/
def State.dlev (s : State) (n : Nat) : Bool := (s.rd (FIO_LEVEL.off (n / 16))).toNat.testBit (n % 16)

/-- The pad latch of a pin written. -/
def State.latchPin (s : State) (n : Nat) (level en : Bool) : State :=
  { s with pins := { s.pins with padLevel := setPin s.pins.padLevel n level, padEn := setPin s.pins.padEn n en } }

/-- D(n) written (R310): it changes whatever the owner is, and reaches the latch only while OWNER is DIRECT. -/
def State.setD (s : State) (n : Nat) (b : Bool) : State :=
  let w := s.rd (FIO_LEVEL.off (n / 16))
  let s := s.wr (FIO_LEVEL.off (n / 16)) (BitVec.ofNat 32 (setBits w.toNat (n % 16) 1 (b2n b)))
  if s.owner n = 1 then s.latchPin n b true else s

/-- A Jet's write of a pin (R310, R326): it reaches the latch only while OWNER is JET and JET names that Jet, and safe state does
not hold the pin (R312). -/
def State.jetPin (s : State) (j n : Nat) (level en : Bool) : State :=
  if s.owner n = 2 ∧ s.g (FIO_PIN_CFG.JET n) = j ∧
      !(s.flag FH_STAT.SAFE && s.jets.safeStop && s.g (FIO_PIN_CFG.SAFE n) != 0) then
    { s.latchPin n level en with pins := { (s.latchPin n level en).pins with jetHeld := setPin s.pins.jetHeld n false } }
  else s

/-- The latch of a pin as its safe level makes it (R312): 1 low, 2 high, 3 release; 0 holds. -/
def safeLatch (code : Nat) (level en : Bool) : Bool × Bool :=
  if code = 1 then (false, true) else if code = 2 then (true, true) else if code = 3 then (level, false) else (level, en)

/-- The level and enable of a pin after the safe override of a DIRECT pin (R312). -/
def State.pinEff (s : State) (n : Nat) : Bool × Bool :=
  let level := s.pins.padLevel.getLsbD n
  let en := s.pins.padEn.getLsbD n
  if s.owner n = 1 ∧ s.flag FH_STAT.SAFE ∧ s.flag FH_CTRL.SAFE_PINS then safeLatch (s.g (FIO_PIN_CFG.SAFE n)) level en
  else (level, en)

/-- What a pin drives onto its ball: a level, or none where the pad releases or its bank is an input bank (R309, R310). -/
def State.drives (s : State) (n : Nat) : Option Bool :=
  let (level, en) := s.pinEff n
  if s.g (FIO_BANK_CFG.VIO (n / 32)) = 0 then none
  else if s.flag (FIO_PIN_CFG.OD n) then (if en && !level then some false else none)
  else if en then some level
  else none

/-- The pins of the Jets that safe state stops (R312): each JET pin with a safe level takes it and keeps it until its Jet writes
the pin. -/
def State.safeJetPins (s : State) : State :=
  (List.range 256).foldl (fun s n =>
    let code := s.g (FIO_PIN_CFG.SAFE n)
    if s.owner n = 2 ∧ code ≠ 0 then
      let (l, e) := safeLatch code (s.pins.padLevel.getLsbD n) (s.pins.padEn.getLsbD n)
      let s := s.latchPin n l e
      { s with pins := { s.pins with jetHeld := setPin s.pins.jetHeld n true } }
    else s) s

/-- The instances of a register family that differ from their reset value: index and word. -/
def State.listed (s : State) (base stride count : Nat) : List (Nat × Word) :=
  s.regs.filterMap (fun e =>
    if base ≤ e.1 ∧ e.1 < base + stride * count ∧ (e.1 - base) % stride = 0 then some ((e.1 - base) / stride, e.2) else none)

/-- The entries of an indexed register that differ from their reset value: index and word. -/
def State.listedBank (s : State) (off : Nat) : List (Nat × Word) :=
  s.regs.filterMap (fun e => if e.1 % 2 ^ 22 = off ∧ 2 ^ 22 ≤ e.1 then some (e.1 / 2 ^ 22 - 1, e.2) else none)

end Sys2Proof.Machine
end

