-- ==== Sys2Proof/Machine/Points.lean ====
section
/-! DEFINITION. The point table (R52 to R88): records, encodings, profiles, freshness, reads with their read-sensitive sources,
state writes, tiles and their cache. -/

namespace Sys2Proof.Machine

/-! ### Status codes (R51, R198, R235) -/

def stOK : Nat := 0x0
def stADDR : Nat := 0x1
def stWIDTH : Nat := 0x2
def stOWNER : Nat := 0x3
def stTYPE : Nat := 0x4
def stRSENS : Nat := 0x5
def stCFG : Nat := 0x6
def stGUARD : Nat := 0x7
def stTIMEOUT : Nat := 0x8
def stDEVICE : Nat := 0x9
def stDATA : Nat := 0xB

/-! ### Quality, type and owner codes (R53, R54, R58) -/

def qGood : Nat := 0
def qStale : Nat := 1
def qSubst : Nat := 2
def qFault : Nat := 3
def qTile : Nat := 4
def qDoubt : Nat := 5

def tyUndef : Nat := 0x0
def tyBit : Nat := 0x1
def tyU16 : Nat := 0x2
def tyU32 : Nat := 0x3
def tyU64 : Nat := 0x4
def tyS32 : Nat := 0x5
def tyS64 : Nat := 0x6
def tyF32 : Nat := 0x7
def tyF64 : Nat := 0x8
def tyCount : Nat := 0x9
def tyCommand : Nat := 0xA
def tyTimed : Nat := 0xB
def tyWindow : Nat := 0xC
def tyReadsens : Nat := 0xD

def okLocal : Nat := 0
def okField : Nat := 1
def okRing : Nat := 2
def okFlow : Nat := 3
def okOutlet : Nat := 4
def okAgent : Nat := 5

/-- The owner kinds that may hold a type (R53). -/
def typeAllows (t k : Nat) : Bool :=
  if 1 ≤ t ∧ t ≤ 9 then k == okLocal || k == okField || k == okRing
  else if t = tyCommand then k == okFlow || k == okOutlet
  else if t = tyTimed then k == okFlow
  else if t = tyWindow then k == okAgent
  else if t = tyReadsens then k == okField
  else false

/-- Whether a VALUE is a valid encoding of the type (R53, R55); a TIMED value has an action code 0x01 to 0x05 (R73). -/
def encOk (t v : Nat) : Bool :=
  if t = tyUndef then v == 0
  else if t = tyBit then decide (v < 2)
  else if t = tyU16 then decide (v < 2 ^ 16)
  else if t = tyU32 ∨ t = tyF32 then decide (v < 2 ^ 32)
  else if t = tyS32 then decide (v < 2 ^ 31) || decide (2 ^ 64 - 2 ^ 31 ≤ v)
  else if t = tyTimed then decide (1 ≤ bitsOf v 8 8 ∧ bitsOf v 8 8 ≤ 5)
  else true

/-! ### Records -/

/-- The record of a point never written: all zero, type UNDEF (R53). -/
def PRec.dflt (_ : Nat) : PRec := ⟨0, 0, 0, 0⟩

/-- A point's record. -/
def State.pt (s : State) (i : Nat) : PRec := SMap.get PRec.dflt s.pts.recs i

/-- The profile of a point. -/
def State.profOf (s : State) (i : Nat) : Nat := SMap.get (fun _ => 0) s.pts.prof i

/-- The owner kind of a point's profile (R58). -/
def State.ownerKind (s : State) (i : Nat) : Nat := s.g (PNT_PROF_CFG.OWNER.at (s.profOf i))

/-- The SAFE value of a profile. -/
def State.safeOf (s : State) (p : Nat) : Nat :=
  (s.rd (bankKey PNT_PROF_SAFE_LO.off p)).toNat + 2 ^ 32 * (s.rd (bankKey PNT_PROF_SAFE_HI.off p)).toNat

/-- Fabric time in whole µs modulo 2^24, as REFRESH holds it (R57). -/
def State.us24 (s : State) : Nat := wrapInt 24 (s.fns / 1000)

/-- The record and its byte form (R52). -/
def PRec.bytes (r : PRec) : List Byte :=
  bytesLE 8 r.value.toNat ++ bytesLE 6 r.stamp ++ bytesLE 1 r.qual ++ bytesLE 1 r.typ

/-- The 256 bytes of a tile, in address order (R81). -/
def State.tileBytes (s : State) (t : Nat) : List Byte :=
  ((List.range 16).map (fun k => (s.pt (16 * t + k)).bytes)).flatten

/-- The level a level binding takes from a record (R315): VALUE bit 0, or bit 0 of SAFE under QGATE while not GOOD. -/
def State.bindLevel (s : State) (i : Nat) (qgate : Bool) : Bool :=
  let r := s.pt i
  if qgate && r.qual != qGood then (s.safeOf (s.profOf i)).testBit 0 else r.value.getLsbD 0

/-- The pins that a MODE 0 output binding ties to a point (R315): pin, and QGATE. -/
def State.boundPins (s : State) (i : Nat) : List (Nat × Bool) :=
  (s.listed (FIO_PIN_OUT.off 0) 0x10 256).filterMap (fun e =>
    let w := e.2.toNat
    if w.testBit 31 && !w.testBit 30 && bitsOf w 0 18 == i then some (e.1, w.testBit 29) else none)

/-- The prefetch buffer discarded unused and counted. -/
def State.pfDrop (s : State) : State := if s.brg.pf.isSome then ({ s with brg := { s.brg with pf := none } }).count BRG_PF_DROP.off else s

/-- A write by any master to the tile in the buffer discards it. -/
def State.pfTile (s : State) (t : Nat) : State := if s.brg.pf.any (fun p => p.1 == t) then s.pfDrop else s

/-- The header word of a tile (R81). -/
def State.tileHdr (s : State) (t : Nat) : Word := SMap.get hdrDflt s.pts.hdr t

/-- The header word of a tile replaced. -/
def State.setHdr (s : State) (t : Nat) (w : Word) : State :=
  { s with pts := { s.pts with hdr := SMap.set hdrDflt s.pts.hdr t w } }

/-- What the CRC of a tile changes by when record `k` of it changes from `old` to `new` (R83): it depends on the XOR of the changed
bytes and on their place alone. -/
def crcDelta (k : Nat) (old new : List Byte) : Nat :=
  (List.zipWith (· ^^^ ·) old new ++ List.replicate (16 * (15 - k)) 0).foldl crc32cByte 0

/-- A point's record stored and the tile's CRC updated from the old one (R83); every level binding of the point then sets its D(n)
(R315). -/
def State.putRec (s : State) (i : Nat) (r : PRec) : State :=
  let old := s.pt i
  let s := ({ s with pts := { s.pts with recs := SMap.set PRec.dflt s.pts.recs i r } }).pfTile (i / 16)
  if r = old then s
  else
    let s := s.setHdr (i / 16) (s.tileHdr (i / 16) ^^^ BitVec.ofNat 32 (crcDelta (i % 16) old.bytes r.bytes))
    (s.boundPins i).foldl (fun s e => s.setD e.1 (s.bindLevel i e.2)) s

/-- REFRESH of a point set to the present (R58). -/
def State.refreshPt (s : State) (i : Nat) : State :=
  { s with pts := { s.pts with refresh := SMap.set (fun _ => 0) s.pts.refresh i s.us24 } }

/-- QUALITY of a record replaced, the rest kept. -/
def State.markQual (s : State) (i q : Nat) : State :=
  if (s.pt i).typ = tyUndef then s else s.putRec i { s.pt i with qual := q }

/-! ### Tiles (R81 to R85) -/

/-- Whether the bytes of a tile agree with the CRC in its header word (R82). -/
def State.tileSound (s : State) (t : Nat) : Bool := s.tileHdr t == BitVec.ofNat 32 (crc32c (s.tileBytes t))

/-- A confirmed tile failure (R84): defined points take QUALITY TILE, UNDEF records are zeroed, the CRC is computed over the bytes as
they then stand, the index is recorded, and a Note event or, on a repeat, a Degraded fault is raised. -/
def State.tileFail (s : State) (t : Nat) : State :=
  let s := (List.range 16).foldl (fun s k =>
    if (s.pt (16 * t + k)).typ = tyUndef then s.putRec (16 * t + k) (PRec.dflt 0) else s.markQual (16 * t + k) qTile) s
  let s := s.setHdr t (BitVec.ofNat 32 (crc32c (s.tileBytes t)))
  let rep := s.flag PNT_TILE_LAST.VALID && s.g PNT_TILE_LAST.TILE == t
  let s := ((s.p PNT_TILE_LAST.VALID 1).p PNT_TILE_LAST.TILE t).count PNT_TILE_CNT.off
  if rep then (s.pb PNT_STAT.REPEAT true).raise (evPnt 3) clDegraded else s.raise (evPnt 2) clNote

/-- A tile verified with the two reads of R84: a read mismatches where the array gives wrong bytes (`bad1`, `bad2`), or where the bytes
stored do not agree with the header word. -/
def State.verifyTile (s : State) (t : Nat) (bad1 bad2 : Bool) : State :=
  if (bad1 && bad2) || !s.tileSound t then
    let x := Inject.tileCrc (Fin.ofNat 16384 t)
    (s.injMet x).asIf (s.sump.inj.contains x) (·.tileFail t)
  else s

/-- A tile put at the front of the 64-tile cache; the tile used longest ago leaves. -/
def State.pushTile (s : State) (t : Nat) : State :=
  { s with pts := { s.pts with cache := (t :: s.pts.cache.filter (fun x => x != t)).take 64 } }

/-- A tile in the cache brought to its front (R82); one that is not enters it, verified against its header word, and the tile used
longest ago leaves. DESIGN CHOICE: the array reads the stored bytes at such an entry; TILE_CACHE_ENTRY, PATROL_VISIT and
FRAME_TRAILER_CHECK carry what else a read may find. -/
def State.touchTile (s : State) (t : Nat) : State :=
  (if s.pts.cache.contains t then s else s.verifyTile t false false).pushTile t

/-- QUALITY of a point set by its owner or by the flow engine, its tile in the cache. -/
def State.setQual (s : State) (i q : Nat) : State := if (s.pt i).typ = tyUndef then s else (s.touchTile (i / 16)).markQual i q

/-- An owner's write (R56, R58, R66): VALUE, STAMP and QUALITY stored and the point refreshed. A VALUE that breaks the type's
encoding is refused with TYPE and leaves the point (R55). -/
def State.ownerWrite (s : State) (i v stamp q : Nat) : State :=
  let r := s.pt i
  if r.typ = tyUndef then s
  else if !encOk r.typ (v % 2 ^ 64) then (s.p PNT_STAT.LAST_ERR stTYPE).count PNT_REJECT_CNT.off
  else ((s.touchTile (i / 16)).putRec i { r with value := BitVec.ofNat 64 v, stamp := stamp % 2 ^ 48, qual := q }).refreshPt i

/-! ### Freshness (R67) -/

/-- The freshness check of a point: a GOOD point whose age exceeds FRESH becomes STALE, or takes SAFE and SUBST. -/
def State.fresh (s : State) (i : Nat) : State :=
  let r := s.pt i
  let p := s.profOf i
  let bound := s.g (PNT_PROF_FRESH.FRESH.at p)
  let age := (s.us24 + 2 ^ 24 - SMap.get (fun _ => 0) s.pts.refresh i) % 2 ^ 24
  if r.typ = tyUndef ∨ r.qual ≠ qGood ∨ bound = 0 ∨ age ≤ bound then s
  else if s.flag (PNT_PROF_CFG.ONSTALE.at p) then
    (s.putRec i { r with value := BitVec.ofNat 64 (s.safeOf p), qual := qSubst, stamp := s.fns48 }).count PNT_STALE_CNT.off
  else (s.putRec i { r with qual := qStale }).count PNT_STALE_CNT.off

/-- The freshness check as a block of this node reads a point, its tile in the cache. -/
def State.freshRead (s : State) (i : Nat) : State := (s.touchTile (i / 16)).fresh i

/-! ### Edge queues as read-sensitive sources (R74, R278, R279) -/

/-- The edge queue of a bank. -/
def State.edgeQ (s : State) (b : Nat) : List EdgeEnt := SMap.get (fun _ => []) s.clep.edgeQ b

/-- The edge queue of a bank replaced. -/
def State.setEdgeQ (s : State) (b : Nat) (q : List EdgeEnt) : State :=
  { s with clep := { s.clep with edgeQ := SMap.set (fun _ => []) s.clep.edgeQ b q } }

/-- TIME_EDGEb_HEAD_LO and HEAD_HI (R285); both 0 when the queue is empty. -/
def edgeHead : List EdgeEnt → Word × Word
  | [] => (0, 0)
  | e :: _ =>
    (BitVec.ofNat 32 e.stamp,
     BitVec.ofNat 32 (2 ^ 31 + b2n e.ovf * 2 ^ 30 + b2n e.step * 2 ^ 29 + b2n e.level * 2 ^ 28 + e.serial % 16 * 2 ^ 24 +
       e.pin * 2 ^ 16 + e.stamp / 2 ^ 32 % 2 ^ 16))

/-- The head of a bank's edge queue removed; the bank's edge event is raised again while entries remain (R278). -/
def State.edgePop (s : State) (b : Nat) : State :=
  let q := (s.edgeQ b).drop 1
  (s.setEdgeQ b q).raiseIf (!q.isEmpty) (evTime (8 + b)) clEvent

/-- The bank whose edge queue is bound to a point, if one is (R279). -/
def State.edgeSource (s : State) (i : Nat) : Option Nat :=
  (List.range 8).find? (fun b => s.flag (TIME_EDGE_CFG.BIND b) && s.g (TIME_EDGE_CFG.POINT b) == i)

/-- The single-record read of a READSENS point with its side effect, once (R74): the record read. -/
def State.readSens (s : State) (i : Nat) : PRec × State :=
  let r := s.pt i
  match s.edgeSource i with
  | none => ({ r with value := 0, qual := qFault }, s)
  | some b =>
    let q := s.edgeQ b
    let (lo, hi) := edgeHead q
    let r := { r with value := hi ++ lo, stamp := (q.head?.map (·.stamp)).getD r.stamp, qual := qGood }
    (r, if q.isEmpty then s else s.edgePop b)

/-! ### Refusals -/

/-- Whether a master is one of this node's own (R32): every one but the ring remote. -/
def isLocal (m : Master) : Bool := m.mid.val != 0x10

/-- A refused access in space 0x00 or 0x04 (R51): LAST_ERR takes the code, a refused write counts in PNT_REJECT_CNT where its code
is OWNER, TYPE or WIDTH, a refusal with CFG in PNT_CFGERR_CNT (R89), and a local master also gets the bus error of R29. DEDUCED: a read
refused with RSENS counts in PNT_REJECT_CNT too. -/
def State.ptRefuse (s : State) (m : Master) (kind addr st : Nat) : State :=
  let s := s.p PNT_STAT.LAST_ERR st
  let s := s.countIf (kind != 0 && (st == stOWNER || st == stTYPE || st == stWIDTH) || st == stRSENS) PNT_REJECT_CNT.off
  let s := s.countIf (st == stCFG) PNT_CFGERR_CNT.off
  if isLocal m then s.busFault m kind addr else s

/-- A refused access in any space (R29, R51): in spaces 0x00 and 0x04 as the point engine refuses it while it is on, else a bus error
counted and captured. -/
def State.accErr (s : State) (m : Master) (kind addr st : Nat) : State :=
  if (adSpace addr = 0 ∨ adSpace addr = 4) ∧ s.domOn 7 then s.ptRefuse m kind addr st
  else if (adSpace addr = 0 ∨ adSpace addr = 4) ∧ !isLocal m then s
  else s.busFault m kind addr

/-! ### Reads (R61, R65, R67, R74) -/

/-- The form of a read of `len` bytes at byte `off` of space 0x00: first point and number of records; none where R61 allows no
such form. -/
def readForm (m : Master) (off len : Nat) : Option (Nat × Nat) :=
  let i := off / 16
  let b := off % 16
  if len = 8 ∧ b = 0 then some (i, 1)
  else if len = 16 ∧ b = 0 then some (i, 1)
  else if len = 4 ∧ b % 4 = 0 ∧ 2 ≤ m.mid.val ∧ m.mid.val ≤ 5 then some (i, 1)
  else if 32 ≤ len ∧ len ≤ 256 ∧ len % 16 = 0 ∧ b = 0 ∧ i % 16 + len / 16 ≤ 16 then some (i, len / 16)
  else none

/-- The bytes of a point as a read returns them, after its freshness check. -/
def State.readPts (s : State) (i n : Nat) : List Byte × State :=
  (List.range n).foldl (fun (acc : List Byte × State) k =>
    let s := acc.2.freshRead (i + k)
    (acc.1 ++ (s.pt (i + k)).bytes, s)) ([], s)

/-- A read in space 0x00 (R50, R61): status, data, and the state after it. `item` marks a read carried as a work item (R65). -/
def State.pointRead (s : State) (m : Master) (off len : Nat) (item : Bool) : Nat × List Byte × State :=
  if 0x400000 < off + max 1 len then (stADDR, [], s)
  else
    match readForm m off len with
    | none => (stWIDTH, [], s)
    | some (i, n) =>
      let pts := (List.range n).map (· + i)
      let defd := pts.filter (fun j => (s.pt j).typ != tyUndef)
      if n = 1 ∧ defd = [] then (stADDR, [], s)
      else if !isLocal m ∧ defd.any (fun j =>
          !s.flag (PNT_PROF_CFG.RMT_RD.at (s.profOf j)) && !(item && (s.pt j).typ == tyReadsens)) then (stOWNER, [], s)
      else if 1 < n ∧ defd.any (fun j => (s.pt j).typ == tyReadsens) then (stRSENS, [], s)
      else if n = 1 ∧ (s.pt i).typ = tyReadsens then
        if len = 4 then (stWIDTH, [], s)
        else if !isLocal m ∧ !item then (stRSENS, [], s)
        else
          let (r, s) := (s.touchTile (i / 16)).readSens i
          (stOK, r.bytes.take len, s)
      else
        let (bs, s) := s.readPts i n
        (stOK, (bs.drop (off % 16)).take len, s)

/-! ### State writes (R59, R62, R65) -/

/-- The bit of the WR mask of R89 that permits a local writer; none for a master the mask does not name. -/
def wrBit (mid : Nat) : Option Nat :=
  if mid = 2 ∨ mid = 4 then some 0
  else if mid = 3 ∨ mid = 5 then some 1
  else if mid = 8 then some 2
  else if mid = 9 then some 3
  else none

/-- Whether a profile's WR mask permits a local master (R59). -/
def State.wrOk (s : State) (m : Master) (i : Nat) : Bool :=
  (wrBit m.mid.val).any (fun b => (s.g (PNT_PROF_CFG.WR.at (s.profOf i))).testBit b)

/-- The form of a write of `len` bytes at byte `off` of space 0x00 (R62): first point and number of records. -/
def writeForm (off len : Nat) : Option (Nat × Nat) :=
  let i := off / 16
  if off % 16 ≠ 0 then none
  else if len = 8 then some (i, 1)
  else if 16 ≤ len ∧ len ≤ 256 ∧ len % 16 = 0 ∧ i % 16 + len / 16 ≤ 16 then some (i, len / 16)
  else none

/-- VALUE of the k-th record of a write. -/
def writeValue (data : List Byte) (k : Nat) : Nat := natLE (slice data (16 * k) 8)

/-- The row of R65 a write of a point falls in: 0 state, 1 FLOW, 2 OUTLET, 3 WINDOW. -/
def State.writeRow (s : State) (i : Nat) : Nat :=
  let k := s.ownerKind i
  if k = okFlow then 1 else if k = okOutlet then 2 else if k = okAgent then 3 else 0

/-- The row of a whole write, or the status it is refused with (R62): UNDEF records take no part; the others must take one row and,
as work, one FLOW; a multi-record write that covers an OUTLET point is refused with WIDTH. -/
def State.writeKind (s : State) (i n : Nat) : Nat ⊕ Nat :=
  let defd := ((List.range n).map (· + i)).filter (fun j => (s.pt j).typ != tyUndef)
  match defd with
  | [] => .inr stADDR
  | j :: r =>
    let row := s.writeRow j
    if 1 < n ∧ defd.any (fun k => s.writeRow k == 2) then .inr stWIDTH
    else if r.any (fun k => s.writeRow k != row) then .inr stOWNER
    else if (row = 1 ∨ row = 3) ∧
        r.any (fun k => s.g (PNT_PROF_CFG.FLOW.at (s.profOf k)) != s.g (PNT_PROF_CFG.FLOW.at (s.profOf j))) then .inr stOWNER
    else .inl row

/-- How one record of a state write is judged (R55, R59, R62): its status; OK for an UNDEF record, which is left as it is. -/
def State.localJudge (s : State) (m : Master) (i v : Nat) : Nat :=
  let r := s.pt i
  if r.typ = tyUndef then stOK
  else if s.ownerKind i ≠ okLocal ∨ !isLocal m ∨ !s.wrOk m i then stOWNER
  else if !encOk r.typ v then stTYPE
  else stOK

/-- The judgement of every record of a state write, as it enters the point engine (R88). -/
def State.localVerdict (s : State) (m : Master) (i : Nat) (data : List Byte) (n : Nat) : List Nat :=
  (List.range n).map (fun k => s.localJudge m (i + k) (writeValue data k))

/-- One record of a state write, judged: written, or left and counted (R56, R62). -/
def State.localRec (s : State) (i v st : Nat) : State :=
  if st = stOK then s.ownerWrite i v s.fns48 qGood else s.count PNT_REJECT_CNT.off

/-- The records of a state write as they were judged, in order: the status of the refused record at the lowest address, else OK (R62). -/
def State.localRecs (s : State) (i : Nat) (data : List Byte) (verdict : List Nat) : Nat × State :=
  ((verdict.find? (fun st => st != stOK)).getD stOK,
   verdict.zipIdx.foldl (fun (s : State) e => s.localRec (i + e.2) (writeValue data e.2) e.1) s)

/-! ### Atomics (R64) -/

/-- Whether R64 allows the atomic on the type. -/
def atomicAllows : AtomicOp → Nat → Bool
  | .add, t => t == tyU32 || t == tyU64 || t == tyS32 || t == tyS64 || t == tyCount
  | .or, t => t == tyBit || t == tyU16 || t == tyU32 || t == tyU64
  | .and, t => t == tyBit || t == tyU16 || t == tyU32 || t == tyU64
  | .cas, t => decide (1 ≤ t ∧ t ≤ 9)

/-- The VALUE an atomic leaves; `b` is the new value of a compare-and-swap, `a` its compare value. -/
def atomicValue (op : AtomicOp) (old a b : BitVec 64) : BitVec 64 :=
  match op with
  | .add => old + a
  | .or => old ||| a
  | .and => old &&& a
  | .cas => if old = a then b else old

/-- An atomic on a point by a master whose permission is `ok` (R59, R64, R65): status, old VALUE, and the state after it. DESIGN CHOICE: the
permission is judged before the type, and the type before the owner kind; a compare-and-swap whose compare value does not match is an
accepted write of the old VALUE. -/
def State.atomicApply (s : State) (ok : Bool) (i : Nat) (op : AtomicOp) (a b : BitVec 64) : Nat × BitVec 64 × State :=
  let r := s.pt i
  if !ok then (stOWNER, 0, s)
  else if !atomicAllows op r.typ then (stTYPE, 0, s)
  else if s.ownerKind i ≠ okLocal then (stOWNER, 0, s)
  else
    let v := atomicValue op r.value a b
    if !encOk r.typ v.toNat then (stTYPE, 0, s)
    else (stOK, r.value, s.ownerWrite i v.toNat s.fns48 qGood)

/-- A patrol pass begins (R68): no tile visited yet. -/
def State.patrolBegin (s : State) : State :=
  { s with pts := { s.pts with patrolStart := s.absNs, patrolSeen := 0, patrolOver := false } }

/-! ### Initialisation (R60) -/

/-- Every defined point at its profile's SAFE value, STAMP 0, QUALITY SUBST, refreshed at the initialisation. -/
def State.pointsInit (s : State) : State :=
  let s := { s with pts := { s.pts with cache := [], waits := [] } }
  s.pts.recs.foldl (fun s e =>
    if e.2.typ = tyUndef then s.putRec e.1 (PRec.dflt 0)
    else (s.putRec e.1 { e.2 with value := BitVec.ofNat 64 (s.safeOf (s.profOf e.1)), stamp := 0, qual := qSubst }).refreshPt e.1) s

end Sys2Proof.Machine
end

