-- ==== Sys2Proof/Machine/FieldPins.lean ====
section
/-! DEFINITION. Field pins (R309, R311 to R315): bank supplies, input and output bindings, and the effects of writes to the FIO
registers. -/

namespace Sys2Proof.Machine

/-- The monitor range of a named level, in mV (R309, and the monitor ranges of the electrical chapter). -/
def vioInRange (code mv : Nat) : Bool :=
  if code = 1 then decide (1620 ≤ mv ∧ mv ≤ 1980)
  else if code = 2 then decide (2250 ≤ mv ∧ mv ≤ 2750)
  else if code = 3 then decide (2970 ≤ mv ∧ mv ≤ 3630)
  else false

/-- Whether a bank's supply is good (R309). -/
def State.bankGood (s : State) (b : Nat) : Bool := s.flag (FIO_BANK_STAT.GOOD b)

/-- The quality an input binding of a pin writes: GOOD, or FAULT while its bank's supply is not good (R309). -/
def State.pinQual (s : State) (n : Nat) : Nat := if s.bankGood (n / 32) then qGood else qFault

/-- Whether a pin has an input binding in force. -/
def State.pinBound (s : State) (n : Nat) : Bool := s.flag (FIO_PIN_IN.EN n)

/-- The pins with an input binding in force. -/
def State.boundIns (s : State) : List Nat :=
  (s.listed (FIO_PIN_IN.off 0) 0x10 256).filterMap (fun e => if e.2.toNat.testBit 31 then some e.1 else none)

/-- An input binding writes its point with its present level, or its point's count, at a stamp (R314). -/
def State.bindWrite (s : State) (n stamp : Nat) : State :=
  let i := s.g (FIO_PIN_IN.POINT n)
  if s.flag (FIO_PIN_IN.MODE n) then s.ownerWrite i (s.pt i).value.toNat stamp (s.pinQual n)
  else s.ownerWrite i (b2n (s.pins.present.getLsbD n)) stamp (s.pinQual n)

/-- The confirmation of a binding at a cycle boundary (R314): the point refreshed with VALUE and STAMP kept, or written with the
present level where it differs. -/
def State.pinConfirm (s : State) (n : Nat) : State :=
  let i := s.g (FIO_PIN_IN.POINT n)
  if !s.flag (FIO_PIN_IN.MODE n) ∧ (s.pt i).value.getLsbD 0 ≠ s.pins.present.getLsbD n then s.bindWrite n s.fns48
  else if (s.pt i).typ = tyUndef then s
  else (s.setQual i (s.pinQual n)).refreshPt i

/-- GOOD of a bank evaluated again (R309): a fall while VIO names a level counts and raises a Degraded fault; at a fall every input
binding of the bank writes FAULT keeping VALUE and STAMP, and at a rise it writes its present level or count. -/
def State.evalGood (s : State) (b : Nat) : State :=
  let code := s.g (FIO_BANK_CFG.VIO b)
  let good := vioInRange code (SMap.get (fun _ => 0) s.pins.vioMv b)
  let old := s.bankGood b
  let s := s.pb (FIO_BANK_STAT.GOOD b) good
  let pins := s.boundIns.filter (fun n => n / 32 == b)
  if old && !good then
    let s := pins.foldl (fun s n => let i := s.g (FIO_PIN_IN.POINT n)
      if (s.pt i).typ = tyUndef then s else (s.setQual i qFault).refreshPt i) s
    if code ≠ 0 then (s.count FIO_VIO_FAIL.off).raise (evFio 2) clDegraded else s
  else if !old && good then pins.foldl (fun s n => s.bindWrite n s.fns48) s
  else s

/-- A level change at the ball (R313, R314): a level binding writes at once with FILT 0, or the persistence time starts; a count
binding counts a rising edge. `stamp` is the edge's. -/
def State.ballChange (s : State) (n : Nat) (level : Bool) (stamp : Nat) : State :=
  let old := s.pins.ball.getLsbD n
  let s := { s with pins := { s.pins with ball := setPin s.pins.ball n level } }
  if old = level ∨ !s.pinBound n then s
  else if s.flag (FIO_PIN_IN.MODE n) then
    if level then
      { s with pins := { s.pins with rises := SMap.set (fun _ => 0) s.pins.rises n (SMap.get (fun _ => 0) s.pins.rises n + 1),
                                     riseStamp := SMap.set (fun _ => 0) s.pins.riseStamp n stamp } }
    else s
  else if s.g (FIO_PIN_IN.FILT n) = 0 then
    { s with pins := { s.pins with present := setPin s.pins.present n level } }.bindWrite n stamp
  else if level = s.pins.present.getLsbD n then
    { s with pins := { s.pins with filtFrom := SMap.set (fun _ => none) s.pins.filtFrom n none } }
  else { s with pins := { s.pins with filtFrom := SMap.set (fun _ => none) s.pins.filtFrom n (some stamp) } }

/-- The persistence time of a pin ends (R314): the level that lasted FILT µs becomes the present level and is written with the
stamp of the edge that began it. -/
def State.filterExpire (s : State) (n : Nat) : State :=
  match SMap.get (fun _ => none) s.pins.filtFrom n with
  | some stamp =>
    if s.pinBound n ∧ !s.flag (FIO_PIN_IN.MODE n) ∧ s.g (FIO_PIN_IN.FILT n) * 1000 ≤ (s.fns48 + 2 ^ 48 - stamp) % 2 ^ 48 then
      { s with pins := { s.pins with present := setPin s.pins.present n (s.pins.ball.getLsbD n),
                                     filtFrom := SMap.set (fun _ => none) s.pins.filtFrom n none } }.bindWrite n stamp
    else s
  | none => s

/-- A count binding writes the rising edges since its last write, at most once per µs (R314). -/
def State.countWrite (s : State) (n : Nat) : State :=
  let k := SMap.get (fun _ => 0) s.pins.rises n
  let soon := (SMap.get (fun _ => none) s.pins.countAt n).any (fun t => decide (s.absNs < t + 1000))
  if !s.pinBound n ∨ !s.flag (FIO_PIN_IN.MODE n) ∨ k = 0 ∨ soon then s
  else
    let i := s.g (FIO_PIN_IN.POINT n)
    let stamp := SMap.get (fun _ => 0) s.pins.riseStamp n
    { s with pins := { s.pins with rises := SMap.set (fun _ => 0) s.pins.rises n 0,
                                   countAt := SMap.set (fun _ => none) s.pins.countAt n (some s.absNs) } }.ownerWrite i
      (((s.pt i).value.toNat + k) % 2 ^ 64) stamp (s.pinQual n)

/-! ### Writes to the FIO registers -/

/-- A refused FIO write. -/
def State.fioRefuse (s : State) : Nat × State := (stCFG, s.cfgErr FIO_CFGERR_CNT.off (evFio 1))

/-- A write of FIO_PINn_CFG (R310, R311): OWNER 3 and PULL 3 are refused. -/
def State.pinCfgWrite (s : State) (n : Nat) (new : Word) : Nat × State :=
  if (FIO_PIN_CFG.OWNER n).get new = 3 ∨ (FIO_PIN_CFG.PULL n).get new = 3 then s.fioRefuse
  else
    let s := s.wr (FIO_PIN_CFG.off n) new
    (stOK, if s.owner n = 1 then s.latchPin n (s.dlev n) true
      else if s.owner n = 0 then s.latchPin n (s.pins.padLevel.getLsbD n) false else s)

/-- A write of FIO_LEVELk: each masked bit sets its direct level (R31, R310). -/
def State.levelWrite (s : State) (k : Nat) (wv : Word) : Nat × State :=
  (stOK, (List.range 16).foldl (fun s j => if wv.getLsbD (16 + j) then s.setD (16 * k + j) (wv.getLsbD j) else s) s)

/-- A write of FIO_BANKb_CFG (R309). -/
def State.bankWrite (s : State) (b : Nat) (new : Word) : Nat × State := (stOK, (s.wr (FIO_BANK_CFG.off b) new).evalGood b)

/-- A write of FIO_PINn_IN (R314): the point must have type BIT (level) or COUNT (count) and owner kind FIELD; a binding newly in
force or changed writes its point once. -/
def State.inBindWrite (s : State) (n : Nat) (new : Word) : Nat × State :=
  let old := s.rd (FIO_PIN_IN.off n)
  let en := (FIO_PIN_IN.EN n).get new = 1
  let mode := (FIO_PIN_IN.MODE n).get new
  let i := (FIO_PIN_IN.POINT n).get new
  if en ∧ ((s.pt i).typ ≠ (if mode = 0 then tyBit else tyCount) ∨ s.ownerKind i ≠ okField) then s.fioRefuse
  else
    let s := s.wr (FIO_PIN_IN.off n) new
    if en ∧ new ≠ old then
      let fresh := (FIO_PIN_IN.EN n).get old = 0 ∨ (FIO_PIN_IN.MODE n).get old ≠ mode
      let now := fresh || (FIO_PIN_IN.FILT n).get new == 0
      let s := { s with pins := { s.pins with
        present := if now then setPin s.pins.present n (s.pins.ball.getLsbD n) else s.pins.present,
        rises := if fresh then SMap.set (fun _ => 0) s.pins.rises n 0 else s.pins.rises,
        filtFrom := if now then SMap.set (fun _ => none) s.pins.filtFrom n none else s.pins.filtFrom } }
      (stOK, s.bindWrite n s.fns48)
    else (stOK, s)

/-- The pin a timed binding ties to a point (R280, R315). -/
def State.timedPin (s : State) (i : Nat) : Option Nat :=
  ((s.listed (FIO_PIN_OUT.off 0) 0x10 256).find? (fun e =>
    e.2.toNat.testBit 31 && e.2.toNat.testBit 30 && bitsOf e.2.toNat 0 18 == i)).map (·.1)

/-- A write of FIO_PINn_OUT (R315): a level binding needs type BIT; a timed binding needs type TIMED and a point no other pin is
timed-bound to. A level binding newly in force or changed sets D(n) at once. -/
def State.outBindWrite (s : State) (n : Nat) (new : Word) : Nat × State :=
  let old := s.rd (FIO_PIN_OUT.off n)
  let en := (FIO_PIN_OUT.EN n).get new = 1
  let timed := (FIO_PIN_OUT.MODE n).get new = 1
  let i := (FIO_PIN_OUT.POINT n).get new
  if en ∧ ((s.pt i).typ ≠ (if timed then tyTimed else tyBit) ∨ (timed ∧ (s.timedPin i).any (fun p => p != n))) then s.fioRefuse
  else
    let s := s.wr (FIO_PIN_OUT.off n) new
    if en ∧ !timed ∧ new ≠ old then (stOK, s.setD n (s.bindLevel i ((FIO_PIN_OUT.QGATE n).get new == 1))) else (stOK, s)

/-! ### Commands of the field pins -/

/-- FIELD_PIN_LEVEL_CHANGE (R313, R314): the level at a ball changes; `sub` is the edge's ns within the tick. -/
def fieldPinLevelChange (n : Fin 256) (level : Bool) (sub : Fin 4) (s : State) : State :=
  s.ballChange n.val level ((s.fns48 + sub.val) % 2 ^ 48)

/-- VIO_BANK_GOOD_CHANGE (R309): the monitor finds a bank's supply at `mv` mV. -/
def vioBankGoodChange (b : Fin 8) (mv : Nat) (s : State) : State :=
  { s with pins := { s.pins with vioMv := SMap.set (fun _ => 0) s.pins.vioMv b.val mv } }.evalGood b.val

end Sys2Proof.Machine
end

