-- ==== Sys2Proof/Machine/Jets.lean ====
section
/-! DEFINITION. The Jets (R317 to R331): the instruction set, files, the crossbar, register writes, start groups and stops. -/

namespace Sys2Proof.Machine

/-! ### JET_STAT.STATE codes (R333) -/

def jsStopped : Nat := 0
def jsRunning : Nat := 1
def jsStallLoad : Nat := 2
def jsStallPost : Nat := 3
def jsWait : Nat := 4
def jsFault : Nat := 5

/-! ### Slots, signals and the frame register -/

/-- The pin an input, output or side slot names (R326). -/
def State.inPin (s : State) (j k : Nat) : Nat := bitsOf (s.rd (JET_IMAP.off j (k / 4))).toNat (8 * (k % 4)) 8
def State.outPin (s : State) (j k : Nat) : Nat := bitsOf (s.rd (JET_OMAP.off j (k / 4))).toNat (8 * (k % 4)) 8
def State.sidePin (s : State) (j k : Nat) : Nat := bitsOf (s.rd (JET_SMAP.off j)).toNat (8 * k) 8

/-- The level an input slot reads: its pin's, or 0 while the slot is not enabled (R326). -/
def State.slotIn (s : State) (j k : Nat) : Bool :=
  (s.g (JET_MAPEN.IN_EN j)).testBit k && s.pins.ball.getLsbD (s.inPin j k)

/-- The stamp latch of input slot 0's pin (R313, R320). -/
def State.slotStamp (s : State) (j : Nat) : Nat := SMap.get (fun _ => 0) s.pins.stampLatch (s.inPin j 0)

/-- The bank of a Jet (R317), and the place of its bank's signals. -/
def jetBank (j : Nat) : Nat := j / 32

/-- A bank signal's level. -/
def State.sig (s : State) (j i : Nat) : Bool := (s.rd JET_SIG.off).toNat.testBit (8 * jetBank j + i)

/-- A bank signal written. -/
def State.setSig (s : State) (j i : Nat) (b : Bool) : State :=
  s.wr JET_SIG.off (BitVec.ofNat 32 (setBits (s.rd JET_SIG.off).toNat (8 * jetBank j + i) 1 (b2n b)))

/-- The frame width W: 1 to 32, where code 0 means 32 (R321). -/
def State.frameW (s : State) (j : Nat) : Nat := let w := s.g (JET_FRAME.WIDTH j); if w = 0 then 32 else w

/-- The frame register D. -/
def State.jetD (s : State) (j : Nat) : Word := s.rd (JET_D.off j)

/-- One bit gathered into D and CUR (R321, RECV and PACK). -/
def gatherBit (order : Bool) (d : Word) (cur : Nat) (b : Bool) : Word × Nat :=
  let bit : Word := if b then 1 else 0
  (if order then (d <<< 1) ||| bit else (d >>> 1) ||| (bit <<< 31), min 32 (cur + 1))

/-- The low `n` bits of a word gathered, lowest first (R321, PACK). -/
def gather (order : Bool) (d : Word) (cur : Nat) (src n : Nat) : Word × Nat :=
  (List.range n).foldl (fun (a : Word × Nat) k => gatherBit order a.1 a.2 (src.testBit k)) (d, cur)

/-- The gathered bits of D, right-aligned, as POST delivers them (R321). -/
def postWord (order : Bool) (d : Word) (cur : Nat) : Word :=
  if cur = 0 then 0 else if order then d &&& BitVec.ofNat 32 (2 ^ cur - 1) else d >>> (32 - cur)

/-- An output slot's present level and enable driven onto its pin, where the slot is enabled (R310, R326). -/
def State.driveOut (s : State) (j k : Nat) : State :=
  if (s.g (JET_MAPEN.OUT_EN j)).testBit k then
    s.jetPin j (s.outPin j k) ((s.jet j).out.getLsbD k) ((s.jet j).outEn.getLsbD k) else s

/-- A side slot's present level driven onto its pin, where the slot is enabled. -/
def State.driveSide (s : State) (j k : Nat) : State :=
  if (s.g (JET_MAPEN.SIDE_EN j)).testBit k then s.jetPin j (s.sidePin j k) ((s.jet j).side.getLsbD k) true else s

/-- Whether a GOTO condition holds (R320). -/
def State.jetCond (s : State) (j c : Nat) : Bool :=
  let v := s.jet j
  match c with
  | 0 => true
  | 1 => v.cur == 0
  | 2 => v.cur != 0
  | 3 => s.g (JET_N.N0 j) == 0
  | 4 => s.g (JET_N.N0 j) != 0
  | 5 => s.g (JET_N.N1 j) == 0
  | 6 => s.g (JET_N.N1 j) != 0
  | 7 => !v.tx.isEmpty
  | 8 => decide (v.rx.length < 4)
  | 9 => s.slotIn j 0
  | 10 => s.slotIn j 1
  | 11 => (s.jetD j).getLsbD 0
  | 12 => (s.jetD j).getLsbD 31
  | 13 => s.sig j 0
  | _ => false

/-! ### Words -/

/-- The word at PC, fetched afresh (R328). -/
def State.jetWord (s : State) (j : Nat) : Nat := s.g (JET_PROG.WORD j (s.g (JET_PC.PC j)))

/-- OP of a word (R320). -/
def jetOp (w : Nat) : Nat := bitsOf w 12 4

/-- Whether a Jet faults on a word (R320, R322): a reserved OP, code or bit, or a REP while LCNT ≠ 0 or past word 127. -/
def State.jetIllegal (s : State) (j w : Nat) : Bool :=
  let z := fun lo n => bitsOf w lo n != 0
  match jetOp w with
  | 0x0 => decide (14 ≤ bitsOf w 8 4) || z 7 1
  | 0x1 => decide (5 ≤ bitsOf w 9 3) || z 8 1
  | 0x2 => z 0 9
  | 0x3 => z 0 9
  | 0x4 => z 0 11
  | 0x5 => z 0 11
  | 0x6 => z 8 2 || (bitsOf w 10 1 == 1 && z 0 8)
  | 0x7 => bitsOf w 0 8 == 0 || (s.jet j).lcnt != 0 || decide (127 < s.g (JET_PC.PC j) + bitsOf w 8 4 + 1)
  | 0x8 => z 0 5 || (bitsOf w 10 2 == 3 && z 6 4)
  | 0x9 => decide (6 ≤ bitsOf w 9 3) || z 0 9
  | 0xA => z 5 5
  | 0xB => z 0 7
  | _ => true

/-! ### Completion of a word -/

/-- The word at PC completes: the repeat unit takes the next address (R321, REP), and the Jet shows RUNNING. -/
def State.jetNext (s : State) (j : Nat) : State :=
  let v := s.jet j
  let pc := s.g (JET_PC.PC j)
  let s := (s.setJet j { v with seen := false }).p (JET_STAT.STATE j) jsRunning
  let v := s.jet j
  if v.lcnt ≠ 0 ∧ pc = v.le then
    if 1 < v.lcnt then (s.setJet j { v with lcnt := v.lcnt - 1 }).p (JET_PC.PC j) v.ls
    else (s.setJet j { v with lcnt := 0 }).p (JET_PC.PC j) ((pc + 1) % 128)
  else s.p (JET_PC.PC j) ((pc + 1) % 128)

/-- A stall or a wait: nothing changes but STATE (R325). -/
def State.jetHold (s : State) (j st : Nat) : State := s.p (JET_STAT.STATE j) st

/-! ### The instructions (R320, R321) -/

/-- GOTO. -/
def State.jetGoto (s : State) (j w : Nat) : State :=
  if s.jetCond j (bitsOf w 8 4) then
    ((s.setJet j { s.jet j with lcnt := 0, seen := false }).p (JET_PC.PC j) (bitsOf w 0 7)).p (JET_STAT.STATE j) jsRunning
  else s.jetNext j

/-- One bit of SET in a group (R320): 0, 1 output slots, 2 side slots, 3, 4 output enables. -/
def State.jetSetBit (s : State) (j grp k : Nat) (b : Bool) : State :=
  let v := s.jet j
  let put8 := fun (x : BitVec 8) (i : Nat) => BitVec.ofNat 8 (setBits x.toNat i 1 (b2n b))
  if grp < 2 then (s.setJet j { v with out := put8 v.out (4 * grp + k) }).driveOut j (4 * grp + k)
  else if grp = 2 then (s.setJet j { v with side := BitVec.ofNat 4 (setBits v.side.toNat k 1 (b2n b)) }).driveSide j k
  else (s.setJet j { v with outEn := put8 v.outEn (4 * (grp - 3) + k) }).driveOut j (4 * (grp - 3) + k)

/-- SET. -/
def State.jetSet (s : State) (j w : Nat) : State :=
  ((List.range 4).foldl (fun s k =>
    if w.testBit (4 + k) then s.jetSetBit j (bitsOf w 9 3) k (w.testBit k) else s) s).jetNext j

/-- SEND. -/
def State.jetSend (s : State) (j w : Nat) : State :=
  let v := s.jet j
  let d := s.jetD j
  let order := s.flag (JET_FRAME.ORDER j)
  let k := bitsOf w 9 3
  let b := if v.cur = 0 then s.flag (JET_FRAME.IDLE j) else if order then d.getLsbD 31 else d.getLsbD 0
  let v' := { v with out := BitVec.ofNat 8 (setBits v.out.toNat k 1 (b2n b)), cur := v.cur - 1 }
  let s := if v.cur = 0 then s else s.wr (JET_D.off j) (if order then d <<< 1 else d >>> 1)
  ((s.setJet j v').driveOut j k).jetNext j

/-- RECV. -/
def State.jetRecv (s : State) (j w : Nat) : State :=
  let v := s.jet j
  let (d, cur) := gatherBit (s.flag (JET_FRAME.ORDER j)) (s.jetD j) v.cur (s.slotIn j (bitsOf w 9 3))
  ((s.wr (JET_D.off j) d).setJet j { v with cur := cur }).jetNext j

/-- The word that a TX point binding gives LOAD (R324). -/
def State.boundTx (s : State) (j : Nat) : Word × State :=
  let i := s.g (JET_PNT_TX.POINT j)
  let s := s.freshRead i
  let r := s.pt i
  (if s.flag (JET_PNT_TX.QGATE j) && r.qual != qGood then BitVec.ofNat 32 (s.safeOf (s.profOf i)) else r.value.setWidth 32, s)

/-- D and CUR after LOAD takes word `x` (R321). -/
def State.loadWord (s : State) (j : Nat) (x : Word) : State :=
  let w := s.frameW j
  (s.wr (JET_D.off j) (if s.flag (JET_FRAME.ORDER j) then x <<< (32 - w) else x)).setJet j { s.jet j with cur := w }

/-- LOAD. -/
def State.jetLoad (s : State) (j w : Nat) : State :=
  if s.flag (JET_PNT_TX.EN j) then
    let (x, s) := s.boundTx j
    (s.loadWord j x).jetNext j
  else
    match (s.jet j).tx with
    | x :: r => ((s.setJet j { s.jet j with tx := r }).loadWord j x).jetNext j
    | [] =>
      if w.testBit 11 then (s.setJet j { s.jet j with cur := 0 }).jetNext j
      else s.jetHold j jsStallLoad

/-- D and CUR cleared after POST. -/
def State.postClear (s : State) (j : Nat) : State := (s.wr (JET_D.off j) 0).setJet j { s.jet j with cur := 0 }

/-- POST. -/
def State.jetPost (s : State) (j w : Nat) : State :=
  let v := s.jet j
  let x := postWord (s.flag (JET_FRAME.ORDER j)) (s.jetD j) v.cur
  if s.flag (JET_PNT_RX.EN j) then
    ((s.ownerWrite (s.g (JET_PNT_RX.POINT j)) x.toNat s.fns48 qGood).postClear j).jetNext j
  else if v.rx.length < 4 then ((s.setJet j { v with rx := v.rx ++ [x] }).postClear j).jetNext j
  else if w.testBit 11 then ((s.count (JET_POST_DROP.off j)).postClear j).jetNext j
  else s.jetHold j jsStallPost

/-- The count register N(SEL). -/
def nRef (j : Nat) (sel : Bool) : FRef := if sel then JET_N.N1 j else JET_N.N0 j

/-- NSET. -/
def State.jetNset (s : State) (j w : Nat) : State :=
  let f := nRef j (w.testBit 11)
  (s.p f (if w.testBit 10 then s.g f - 1 else bitsOf w 0 8)).jetNext j

/-- REP. -/
def State.jetRep (s : State) (j w : Nat) : State :=
  let pc := s.g (JET_PC.PC j)
  let s := s.jetNext j
  s.setJet j { s.jet j with ls := pc + 1, le := pc + bitsOf w 8 4 + 1, lcnt := bitsOf w 0 8 }

/-- WAITE. -/
def State.jetWaite (s : State) (j w : Nat) : State :=
  let kind := bitsOf w 10 2
  let lv := w.testBit 9
  let i := bitsOf w 6 3
  let v := s.jet j
  if kind = 0 then (if s.slotIn j i = lv then s.jetNext j else s.jetHold j jsWait)
  else if kind = 1 then (if s.sig j i = lv then s.jetNext j else s.jetHold j jsWait)
  else if kind = 2 then
    if s.slotIn j i = lv then (if v.seen then s.jetNext j else s.jetHold j jsWait)
    else (s.setJet j { v with seen := true }).jetHold j jsWait
  else
    let f := nRef j (w.testBit 5)
    if s.g f = 0 then s.jetNext j else (s.p f (s.g f - 1)).jetHold j jsRunning

/-- MARK. -/
def State.jetMark (s : State) (j w : Nat) : State :=
  let m := s.rd (JET_M.off j)
  let fn := bitsOf w 9 3
  let s := if fn = 0 then s.wr (JET_M.off j) (BitVec.ofNat 32 (s.slotStamp j))
    else if fn = 1 then s.wr (JET_M.off j) (s.jetD j)
    else if fn = 2 then (s.wr (JET_D.off j) m).setJet j { s.jet j with cur := 32 }
    else if fn = 3 then s.wr (JET_M.off j) (m + 1)
    else if fn = 4 then s.wr (JET_M.off j) (m - 1)
    else s.wr (JET_M.off j) 0
  s.jetNext j

/-- PACK. -/
def State.jetPack (s : State) (j w : Nat) : State :=
  let v := s.jet j
  let src := bitsOf w 10 2
  let x := if src = 0 then (s.rd (JET_M.off j)).toNat else if src = 1 then s.slotStamp j else if src = 2 then 0 else 2 ^ 32 - 1
  let n := let c := bitsOf w 0 5; if c = 0 then 32 else c
  let (d, cur) := gather (s.flag (JET_FRAME.ORDER j)) (s.jetD j) v.cur x n
  ((s.wr (JET_D.off j) d).setJet j { v with cur := cur }).jetNext j

/-- SIG. -/
def State.jetSig (s : State) (j w : Nat) : State :=
  let s := (s.setSig j (bitsOf w 8 3) (w.testBit 11)).jetNext j
  if w.testBit 7 then (s.pb (JET_STAT.EVT j) true).raise (evJet j) clEvent else s

/-- A fault on the word at PC (R322): nothing of the word is done, RUN and STATE show it, PC stays. -/
def State.jetFaultStop (s : State) (j : Nat) : State :=
  ((s.pb (JET_CTRL.RUN j) false).p (JET_STAT.STATE j) jsFault).raise (evJet j) clNote

/-- The word at PC executed for one tick (R319). -/
def State.jetExec (s : State) (j : Nat) : State :=
  let w := s.jetWord j
  if s.jetIllegal j w then s.jetFaultStop j
  else
    match jetOp w with
    | 0x0 => s.jetGoto j w
    | 0x1 => s.jetSet j w
    | 0x2 => s.jetSend j w
    | 0x3 => s.jetRecv j w
    | 0x4 => s.jetLoad j w
    | 0x5 => s.jetPost j w
    | 0x6 => s.jetNset j w
    | 0x7 => s.jetRep j w
    | 0x8 => s.jetWaite j w
    | 0x9 => s.jetMark j w
    | 0xA => s.jetPack j w
    | _ => s.jetSig j w

/-- Whether a Jet executes at a tick of its generator (R318, R319, R331): its bank's domain is on, its generator runs, RUN is 1. -/
def State.jetRuns (s : State) (j : Nat) : Bool :=
  s.domOn (12 + jetBank j) && s.flag (JET_CTRL.RUN j) && s.flag (JET_TG.EN (jetBank j) (s.g (JET_CTRL.TG j)))

/-- A tick at which the word at PC is a legal word of the named instruction: executed. At any other word the named instruction
does not occur, and nothing changes. -/
def State.jetTick (s : State) (j op : Nat) : State :=
  if s.jetRuns j ∧ jetOp (s.jetWord j) = op ∧ !s.jetIllegal j (s.jetWord j) then s.jetExec j else s

/-! ### Register writes (R323, R324, R326, R327) -/

/-- A refused write of a Jet's registers. -/
def State.jetRefuse (s : State) (j : Nat) : Nat × State := (stCFG, s.cfgErr (JET_CFGERR_CNT.off j) (evJet j))

/-- A write of JET_CTRL (R327): RUN, TG and ENTRY stored; CLR clears the files, D, CUR and LCNT; STEP executes one instruction
while RUN is 0. -/
def State.jetCtrlWrite (s : State) (j : Nat) (new eff : Word) : Nat × State :=
  let run := new.getLsbD 0
  let was := s.flag (JET_CTRL.RUN j)
  let s := s.wr (JET_CTRL.off j) new
  let s := if run then (if was then s else s.p (JET_STAT.STATE j) jsRunning)
    else if was then s.p (JET_STAT.STATE j) jsStopped else s
  let s := if eff.getLsbD 31 then
    (s.wr (JET_D.off j) 0).setJet j { s.jet j with tx := [], rx := [], cur := 0, lcnt := 0 } else s
  if eff.getLsbD 30 && !run then
    let s := s.jetExec j
    (stOK, if s.g (JET_STAT.STATE j) = jsFault then s else s.p (JET_STAT.STATE j) jsStopped)
  else (stOK, s)

/-- A write of JET_PC (R322, R327): the next tick executes there, a stalled instruction is abandoned, LCNT is 0, FAULT ends. -/
def State.jetPcWrite (s : State) (j : Nat) (new : Word) : Nat × State :=
  let s := (s.wr (JET_PC.off j) new).setJet j { s.jet j with lcnt := 0, seen := false }
  (stOK, s.p (JET_STAT.STATE j) (if s.flag (JET_CTRL.RUN j) then jsRunning else jsStopped))

/-- A write of JET_D (R327): D and CUR ← W. -/
def State.jetDWrite (s : State) (j : Nat) (new : Word) : Nat × State :=
  (stOK, (s.wr (JET_D.off j) new).setJet j { s.jet j with cur := s.frameW j })

/-- A write of JET_TX (R323). -/
def State.jetTxWrite (s : State) (j : Nat) (x : Word) : Nat × State :=
  if (s.jet j).tx.length < 4 then (stOK, s.setJet j { s.jet j with tx := (s.jet j).tx ++ [x] })
  else (stOK, s.count (JET_TX_OVF.off j))

/-- A write of JET_RX_POP (R323). -/
def State.jetRxPop (s : State) (j : Nat) : Nat × State :=
  match (s.jet j).rx with
  | [] => (stOK, s.count (JET_RX_UNDER.off j))
  | _ :: r => (stOK, s.setJet j { s.jet j with rx := r })

/-- The pins that a Jet's enabled output and side slots name. -/
def State.jetPins (s : State) (j : Nat) : List Nat :=
  (List.range 8).filterMap (fun k => if (s.g (JET_MAPEN.OUT_EN j)).testBit k then some (s.outPin j k) else none) ++
  (List.range 4).filterMap (fun k => if (s.g (JET_MAPEN.SIDE_EN j)).testBit k then some (s.sidePin j k) else none)

/-- Whether a list names nothing twice. -/
def noDup : List Nat → Bool
  | [] => true
  | x :: r => !r.contains x && noDup r

/-- A write of a map register or JET_MAPEN (R326): refused where the enabled slots would name a pin twice. -/
def State.jetMapWrite (s : State) (j off : Nat) (new : Word) : Nat × State :=
  let s' := s.wr off new
  if noDup (s'.jetPins j) then (stOK, s') else s.jetRefuse j

/-- A write of JET_PNT_TX or JET_PNT_RX (R324). -/
def State.jetPntWrite (s : State) (j off : Nat) (rx : Bool) (new : Word) : Nat × State :=
  let i := bitsOf new.toNat 0 18
  let ok := if rx then (s.pt i).typ == tyU32 && s.ownerKind i == okField else decide (1 ≤ (s.pt i).typ ∧ (s.pt i).typ ≤ 9)
  if new.getLsbD 31 && !ok then s.jetRefuse j else (stOK, s.wr off new)

/-! ### Start groups (R329, R330) -/

/-- A start group fires: both banks will act, and its FIRED bit is set. DEDUCED: the acting edge uses the configuration that stood at
the firing (R330). -/
def State.groupFire (s : State) (g : Nat) : State :=
  let f := fun b => GrpFire.mk g b (s.rd (JET_GRP_CFG.off g)) (s.rd (JET_GRP_LO.off g)) (s.rd (JET_GRP_HI.off g))
  let s := { s with jets := { s.jets with fired := s.jets.fired ++ [f 0, f 1] } }
  s.wr JET_GRP_STAT.off (s.rd JET_GRP_STAT.off ||| BitVec.ofNat 32 (2 ^ g))

/-- A write of JET_GRP_GO. -/
def State.groupGo (s : State) (go : Word) : Nat × State :=
  (stOK, (List.range 8).foldl (fun s g => if go.getLsbD g then s.groupFire g else s) s)

/-- Whether a Jet is a member of a group that has fired. -/
def GrpFire.member (f : GrpFire) (j : Nat) : Bool := if j < 32 then f.lo.getLsbD j else f.hi.getLsbD (j - 32)

/-- The action of the groups on a Jet: STOP before RESTART before START (R330); none for a Jet of no group. -/
def strongest (acts : List Nat) : Option Nat :=
  if acts.contains 1 then some 1 else if acts.contains 2 then some 2 else if acts.contains 0 then some 0 else none

/-- A Jet takes a group's action (R329): 0 START, 1 STOP, 2 RESTART. -/
def State.groupAct (s : State) (j a : Nat) : State :=
  if a = 1 then (s.pb (JET_CTRL.RUN j) false).p (JET_STAT.STATE j) jsStopped
  else if a = 2 then
    let s := ((s.p (JET_PC.PC j) (s.g (JET_CTRL.ENTRY j))).wr (JET_D.off j) 0).setJet j
      { s.jet j with cur := 0, lcnt := 0, seen := false }
    (s.pb (JET_CTRL.RUN j) true).p (JET_STAT.STATE j) jsRunning
  else (s.pb (JET_CTRL.RUN j) true).p (JET_STAT.STATE j) jsRunning

/-- A bank's acting edge (R329): the generators of TGMASK restart and every member takes its action. -/
def State.bankAct (s : State) (b : Nat) : State :=
  let fs := s.jets.fired.filter (fun e => e.bank == b)
  let s := { s with jets := { s.jets with fired := s.jets.fired.filter (fun e => e.bank != b) } }
  let s := fs.foldl (fun s f => (List.range 4).foldl (fun s k =>
    if ((JET_GRP_CFG.TGMASK f.grp).get f.cfg).testBit (4 * b + k) then
      { s with jets := { s.jets with tgRestarts := SMap.set (fun _ => 0) s.jets.tgRestarts (4 * b + k) s.fns48 } } else s) s) s
  (List.range 32).foldl (fun s k =>
    let j := 32 * b + k
    match strongest ((fs.filter (fun f => f.member j)).map (fun f => (JET_GRP_CFG.ACTION f.grp).get f.cfg)) with
    | some a => s.groupAct j a
    | none => s) s

/-! ### Stops (R331) -/

/-- A Jet stopped with everything else kept. -/
def State.jetHalt (s : State) (j : Nat) : State :=
  if s.flag (JET_CTRL.RUN j) then (s.pb (JET_CTRL.RUN j) false).p (JET_STAT.STATE j) jsStopped else s

/-- Every Jet of a bank stopped. -/
def State.bankHalt (s : State) (b : Nat) : State := (List.range 32).foldl (fun s k => s.jetHalt (32 * b + k)) s

/-- Safe state with SAFE_JETS = 1: every Jet stops and its pins take their safe levels (R312, R331). -/
def State.safeStopJets (s : State) : State :=
  { (((s.bankHalt 0).bankHalt 1).safeJetPins) with jets := { (((s.bankHalt 0).bankHalt 1).safeJetPins).jets with safeStop := true } }

end Sys2Proof.Machine
end

