-- ==== Sys2Proof/Machine/Clep.lean ====
section
/-! DEFINITION. Clepsydra (R259 to R284): the time counter and its adjustment, edge capture, timed outputs, the late log, time
triggers and the PTP stamp queues. -/

namespace Sys2Proof.Machine

/-! ### Time -/

/-- A refused TIME write: CFG, counted, with the refused-configuration event of TIME. -/
def State.timeRefuse (s : State) : Nat × State := (stCFG, s.cfgErr TIME_CFGERR_CNT.off (evTime 1))

/-- The increment of the present tick in units of 2^-32 ns (R259, R260, R265). -/
def State.tickInc (s : State) : Int :=
  let inc : Int := (s.rd64 TIME_INC_LO.off % 2 ^ 40 : Nat)
  if s.g TIME_SLEW_CNT.CNT = 0 then inc else inc + signedOf 32 (s.g TIME_SLEW_INC.DELTA)

/-- One tick of the 250 MHz timebase (R259, R265). -/
def State.timeTick (s : State) : State :=
  let t : Nat := (((s.clep.ns * 2 ^ 32 + s.clep.frac : Nat) : Int) + s.tickInc).toNat
  let ns := t / 2 ^ 32
  let wrap := decide (1000000000 ≤ ns)
  let s := s.p TIME_SLEW_CNT.CNT (s.g TIME_SLEW_CNT.CNT - 1)
  { s with clep := { s.clep with
      frac := t % 2 ^ 32,
      ns := if wrap then ns - 1000000000 else ns,
      sec := if wrap then (s.clep.sec + 1) % 2 ^ 48 else s.clep.sec } }

/-- The signed distance from `b` to `a`, both modulo 2^48. -/
def sgn48 (a b : Nat) : Int := signedOf 48 (a % 2 ^ 48 + 2 ^ 48 - b % 2 ^ 48)

/-- Whether the instant `g`, modulo 2^48, has come. -/
def State.come (s : State) (g : Nat) : Bool := decide (0 ≤ sgn48 s.fns48 g)

/-! ### The late log (R282, R283) -/

/-- A late-log cause: stored while the log has room, counted, and the late event raised. -/
def State.lateEnter (s : State) (cause action pin g release arg point : Nat) : State :=
  let s := if s.clep.late.length < 32 then
    { s with clep := { s.clep with late := s.clep.late ++ [⟨s.clep.lateSerial, cause, action, pin, g, release, arg, point⟩],
                                   lateSerial := (s.clep.lateSerial + 1) % 128 } } else s
  (s.count TIME_LATE_CNT.off).raise (evTime 4) clEvent

/-! ### Timed outputs (R280 to R283) -/

/-- Whether an action comes before another: earlier grid instant, then earlier release (R281). -/
def actBefore (a b : TAct) : Bool :=
  let d := sgn48 a.g b.g
  decide (d < 0) || (decide (d = 0) && decide (a.order < b.order))

/-- The first pending action of a list in the order they are performed. -/
def firstAct : List TAct → Option TAct
  | [] => none
  | a :: r =>
    match firstAct r with
    | some b => if actBefore b a then some b else some a
    | none => some a

/-- The actions pending for a pin. -/
def State.pinActs (s : State) (n : Nat) : List TAct := s.clep.acts.filter (fun a => a.pin == n)

/-- An action performed: D(n) takes its level (R316). -/
def State.actDo (s : State) (a : TAct) : State :=
  s.setD a.pin (match a.kind with | .low => false | .high => true | .toggle => !s.dlev a.pin)

/-- A pending action removed. -/
def State.actDrop (s : State) (a : TAct) : State :=
  { s with clep := { s.clep with acts := s.clep.acts.filter (fun b => !(b == a)) } }

/-- The pending actions of one item (R73) released at `rel`: one edge, or the two edges of a pulse. -/
def actsOf (pin g action arg point order rel : Nat) : List TAct :=
  let a : TAct := ⟨pin, g % 2 ^ 48, .low, false, order, action, arg, point, rel⟩
  let e := (g + max 1 arg * 1000) % 2 ^ 48
  if action = 1 then [a]
  else if action = 2 then [{ a with kind := .high }]
  else if action = 3 then [{ a with kind := .toggle }]
  else if action = 4 then [{ a with kind := .high }, { a with g := e, second := true, order := order + 1 }]
  else [a, { a with g := e, kind := .high, second := true, order := order + 1 }]

/-- Whether the 4,096 pending actions of the part or the 16 of the pin leave no room for an item's (R280). -/
def State.actFull (s : State) (pin action : Nat) : Bool :=
  let n := (actsOf pin 0 action 0 0 0 0).length
  decide (4096 < s.clep.acts.length + n) || decide (16 < (s.pinActs pin).length + n)

/-- An action pending for the instant `g` (R280). -/
def State.actHold (s : State) (pin g action arg point : Nat) : State :=
  { s with clep := { s.clep with
      acts := s.clep.acts ++ actsOf pin g action arg point s.clep.actOrder s.fns48, actOrder := s.clep.actOrder + 2 } }

/-- TIME_CFG.LEAD in ns: below 0x19 acts as 0x19 (R282). -/
def State.leadNs (s : State) : Nat := 4 * max 0x19 (s.g TIME_CFG.LEAD)

/-- The first grid instant at or after `t`. -/
def gridUp (t : Nat) : Nat := (t + 3) / 4 * 4 % 2 ^ 48

/-- Whether a grid instant, read within (now - 2^47, now + 2^47] (R281), is at least LEAD ahead (R282). -/
def State.inTime (s : State) (g : Nat) : Bool :=
  let d := (g + 2 ^ 48 - s.fns48) % 2 ^ 48
  decide (s.leadNs ≤ d) && decide (d ≤ 2 ^ 47)

/-- A TIMED item released by the flow engine (R280 to R283). `v` is its VALUE (R73). A late action performed takes the first grid instant
at least LEAD away; DEDUCED: a pulse moves as a whole, so its second edge falls ARG × 1,000 ns after that. An action, late or not, for
which there is no room is discarded with cause 3. -/
def State.timedRelease (s : State) (point v : Nat) : State :=
  let g := bitsOf v 16 48 / 4 * 4
  let action := bitsOf v 8 8
  let arg := bitsOf v 0 8
  let now := s.fns48
  match s.timedPin point with
  | none => s.lateEnter 5 action 0 g now arg point
  | some pin =>
    if (s.inTime g || s.flag TIME_CFG.LATE_EXEC) && s.actFull pin action then s.lateEnter 3 action pin g now arg point
    else if s.inTime g then s.actHold pin g action arg point
    else if s.flag TIME_CFG.LATE_EXEC then
      let at_ := gridUp (now + s.leadNs)
      (s.actHold pin at_ action arg point).lateEnter 2 action pin g at_ arg point
    else s.lateEnter 1 action pin g now arg point

/-- The first pending action of a pin performed at its grid instant; `second` selects the end of a pulse (R281). -/
def State.timedFire (s : State) (pin : Nat) (second : Bool) : State :=
  match firstAct (s.pinActs pin) with
  | some a => if a.second = second ∧ s.come a.g then (s.actDrop a).actDo a else s
  | none => s

/-- A write of TIME_ACT_FLUSH (R283): actions due at this tick are performed first, then those of the pin, or of every pin, are
discarded. -/
def State.actFlush (s : State) (w : Word) : Nat × State :=
  let all := TIME_ACT_FLUSH.ALL.get w = 1
  let pin := TIME_ACT_FLUSH.PIN.get w
  let due := s.clep.acts.filter (fun a => (all || a.pin == pin) && s.come a.g)
  let s := (List.range due.length).foldl (fun s _ =>
    match firstAct (s.clep.acts.filter (fun a => (all || a.pin == pin) && s.come a.g)) with
    | some a => (s.actDrop a).actDo a
    | none => s) s
  (stOK, { s with clep := { s.clep with acts := s.clep.acts.filter (fun a => !(all || a.pin == pin)) } })

/-- A write of TIME_LATE_POP: the head leaves on a matching SERIAL (R279, R283). -/
def State.latePop (s : State) (w : Word) : Nat × State :=
  match s.clep.late with
  | e :: r => (stOK, if e.serial = TIME_LATE_POP.SERIAL.get w then { s with clep := { s.clep with late := r } } else s)
  | [] => (stOK, s)

/-! ### Triggers (R284) -/

/-- The grid instant of a trigger's TARGET. -/
def State.trigG (s : State) (n : Nat) : Nat :=
  (s.g (TIME_TRIG_LO.TARGET n) + 2 ^ 32 * s.g (TIME_TRIG_HI.TARGET n)) / 4 * 4

/-- A trigger fires: FIRED is set, EN cleared, its event raised, its start groups fire (R329) and Stillwater's TIME trigger
(R487). `late` marks one armed at a past instant or passed over by a step. -/
def State.trigFire (s : State) (n : Nat) (late : Bool) : State :=
  let s := (s.pb (TIME_TRIG_HI.FIRED n) true).pb (TIME_TRIG_HI.EN n) false
  let s := if late then s.pb (TIME_TRIG_HI.LATE n) true else s
  let s := s.raise (evTime 6) clEvent
  let s := (List.range 8).foldl (fun s g =>
    if s.flag (JET_GRP_CFG.ARM g) && s.g (JET_GRP_CFG.SRC g) == n + 1 then s.groupFire g else s) s
  if s.flag SNAP_CFG.EN && (s.g SNAP_CFG.TRIG).testBit 3 && s.g SNAP_CFG.TRIGN == n then
    let (s, evs) := s.snapFire snTime s.node (s.trigG n)
    evs.foldl (fun s e => s.raise e.1 e.2) s
  else s

/-- A write that completes TIME_TRIGn (R42, R284): EN = 1 arms it. One that meets the firing tick of the armed trigger lets the
firing go first and then arms anew; `eff` are the bits of the highest word that reach their fields. -/
def State.trigWrite (s : State) (n : Nat) (lo hi eff : Word) : Nat × State :=
  let due := s.flag (TIME_TRIG_HI.EN n) && s.come (s.trigG n)
  let s := if due then s.trigFire n (s.clep.trigPast.contains n) else s
  let hi := if due then
      let w := (TIME_TRIG_HI.EN n).put hi ((TIME_TRIG_HI.EN n).get eff)
      w ||| (s.rd (TIME_TRIG_HI.off n) &&& ~~~eff &&& 0x60000000)
    else hi
  let s := (s.wr (TIME_TRIG_LO.off n) lo).wr (TIME_TRIG_HI.off n) hi
  let others := s.clep.trigPast.filter (fun x => x != n)
  (stOK, { s with clep := { s.clep with
    trigPast := if s.flag (TIME_TRIG_HI.EN n) && s.come (s.trigG n) then n :: others else others } })

/-! ### Steps and sets (R266, R267) -/

/-- Time moved to `t` ns at one tick, `frac` its fraction, with the scheduled work that a forward step passes over. -/
def State.moveTime (s : State) (t : Int) (frac : Nat) : State :=
  let armed := (List.range 8).filter (fun n => s.flag (TIME_TRIG_HI.EN n) && !s.come (s.trigG n))
  let ahead := s.clep.acts.filter (fun a => !s.come a.g)
  let m := (t % ((2 ^ 48 * 1000000000 : Nat) : Int)).toNat
  let s := { s with clep := { s.clep with sec := m / 1000000000, ns := m % 1000000000, frac := frac,
                                          edgeStep := List.range 8 } }
  let s := s.p TIME_STAT.STEPCNT (s.g TIME_STAT.STEPCNT + 1)
  let passed := ahead.filter (fun a => s.come a.g)
  let s := (List.range passed.length).foldl (fun s _ =>
    match firstAct (s.clep.acts.filter (fun a => passed.contains a)) with
    | some a => ((s.actDrop a).actDo a).lateEnter 4 a.action a.pin a.g a.release a.arg a.point
    | none => s) s
  armed.foldl (fun s n => if s.come (s.trigG n) then s.trigFire n true else s) s

/-- A write of TIME_STEP (R266). -/
def State.stepWrite (s : State) (w : Word) : Nat × State :=
  let d := w.toInt
  if s.flag RING_CFG.EN ∧ 1000 < d.natAbs then s.timeRefuse else (stOK, s.moveTime (s.absNs + d) s.clep.frac)

/-- A completed write of TIME_SET (R266). -/
def State.setWrite (s : State) (ns lo hi : Word) : Nat × State :=
  if s.flag RING_CFG.EN ∨ 1000000000 ≤ ns.toNat then s.timeRefuse
  else (stOK, s.moveTime (((lo.toNat + 2 ^ 32 * (hi.toNat % 2 ^ 16)) * 1000000000 + ns.toNat : Nat) : Int) 0)

/-- A completed write of TIME_INC (R260, R264). -/
def State.incWrite (s : State) (lo hi : Word) : Nat × State :=
  let v := lo.toNat + 2 ^ 32 * (hi.toNat % 2 ^ 8)
  if 0x03F0000000 ≤ v ∧ v ≤ 0x0410000000 then (stOK, s.wr64 TIME_INC_LO.off v) else s.timeRefuse

/-- A completed write of TIME_EPOCH (R261). -/
def State.epochWrite (s : State) (lo hi : Word) : Nat × State :=
  if s.flag RING_CFG.EN then s.timeRefuse else (stOK, s.wr64 TIME_EPOCH_LO.off (lo.toNat + 2 ^ 32 * (hi.toNat % 2 ^ 16)))

/-- A completed write of the slew (R265). -/
def State.slewWrite (s : State) (inc cnt : Word) : Nat × State :=
  (stOK, (s.wr TIME_SLEW_INC.off inc).wr TIME_SLEW_CNT.off cnt)

/-! ### Edge capture (R277 to R279, R313) -/

/-- Whether the rising or the falling edges of a pin are captured (TIME_ECAP). -/
def State.captures (s : State) (n : Nat) (rising : Bool) : Bool :=
  (s.g (TIME_ECAP.EN (n / 8))).testBit (2 * (n % 8) + (if rising then 0 else 1))

/-- An entry appended to a bank's edge queue (R278). -/
def State.edgeStore (s : State) (n stamp : Nat) (level : Bool) : State :=
  let b := n / 32
  let q := s.edgeQ b
  if 256 ≤ q.length then
    ({ s with clep := { s.clep with edgeLost := b :: s.clep.edgeLost.filter (fun x => x != b) } }).count TIME_EDGE_OVF.off
  else
    let ser := SMap.get (fun _ => 0) s.clep.edgeSerial b
    let e : EdgeEnt := ⟨n, stamp, level, s.clep.edgeLost.contains b, s.clep.edgeStep.contains b, ser⟩
    let s := s.setEdgeQ b (q ++ [e])
    let s := { s with clep := { s.clep with
      edgeLost := s.clep.edgeLost.filter (fun x => x != b), edgeStep := s.clep.edgeStep.filter (fun x => x != b),
      edgeSerial := SMap.set (fun _ => 0) s.clep.edgeSerial b ((ser + 1) % 16) } }
    s.raiseIf q.isEmpty (evTime (8 + b)) clEvent

/-- Stillwater's PIN trigger at an edge (R487): EDGE bit 0 rising, bit 1 falling. -/
def State.snapPinEdge (s : State) (n stamp : Nat) (rising : Bool) : State :=
  if s.g SNAP_PIN.PIN = n ∧ (s.g SNAP_PIN.EDGE).testBit (if rising then 0 else 1) then
    let (s, evs) := s.snapLocal snPin stamp 0 clEvent
    evs.foldl (fun s e => s.raise e.1 e.2) s
  else s

/-- An edge at a ball that is captured (R277, R313): the stamp latch, the edge queue unless QOFF, and the PIN trigger. -/
def State.pinEdge (s : State) (n : Nat) (rising : Bool) (sub : Nat) : State :=
  if !s.captures n rising then s
  else
    let stamp := (s.fns48 + sub) % 2 ^ 48
    let s := { s with pins := { s.pins with stampLatch := SMap.set (fun _ => 0) s.pins.stampLatch n (stamp % 2 ^ 32) } }
    let s := if s.flag (FIO_PIN_CFG.QOFF n) then s else s.edgeStore n stamp rising
    s.snapPinEdge n stamp rising

/-- A write of TIME_EDGEb_POP: the head leaves on a matching SERIAL; any other value is ignored (R279). -/
def State.edgePopWrite (s : State) (b : Nat) (w : Word) : Nat × State :=
  match s.edgeQ b with
  | e :: _ => (stOK, if e.serial = (TIME_EDGE_POP.SERIAL b).get w then s.edgePop b else s)
  | [] => (stOK, s)

/-! ### PTP on the ETH ports (R275) -/

/-- The PTP stamp queue of an ETH port. -/
def State.ptpQ (s : State) (n : Nat) : List PtpStamp := SMap.get (fun _ => []) s.clep.ptpQ n

/-- The PTP stamp queue of an ETH port replaced. -/
def State.setPtpQ (s : State) (n : Nat) (q : List PtpStamp) : State :=
  { s with clep := { s.clep with ptpQ := SMap.set (fun _ => []) s.clep.ptpQ n q } }

/-- The stamp of a two-step send stored, or the send counted as unstamped when the 16 entries are taken (R275). -/
def State.ptpStore (s : State) (n : Nat) (e : PtpStamp) : State :=
  let q := s.ptpQ n
  if 16 ≤ q.length then s.count TIME_SYNC_ERR.off
  else (s.setPtpQ n (q ++ [e])).raiseIf q.isEmpty (evTime 5) clEvent

/-- A write of TIME_PTPn_TX_POP: the head leaves on a matching sequenceId (R275). -/
def State.ptpPop (s : State) (n : Nat) (w : Word) : Nat × State :=
  match s.ptpQ n with
  | e :: r =>
    (stOK, if e.seqId = (TIME_PTP_TX_POP.SEQID n).get w then (s.setPtpQ n r).raiseIf (!r.isEmpty) (evTime 5) clEvent else s)
  | [] => (stOK, s)

/-! ### Commands of Clepsydra -/

/-- TIMED_ACTION_FIRE (R281). -/
def timedActionFire (pin : Fin 256) (s : State) : State := s.timedFire pin.val false

/-- TIMED_PULSE_END (R281). -/
def timedPulseEnd (pin : Fin 256) (s : State) : State := s.timedFire pin.val true

/-- TRIGGER_FIRE (R284): an armed trigger at its grid instant; one armed at a past instant sets LATE. -/
def triggerFire (n : Fin 8) (s : State) : State :=
  if s.flag (TIME_TRIG_HI.EN n.val) ∧ s.come (s.trigG n.val) then
    s.trigFire n.val (s.clep.trigPast.contains n.val)
  else s

/-- SLEW_END (R265): the tick that brings SLEW_CNT to 0. -/
def slewEnd (s : State) : State := if s.g TIME_SLEW_CNT.CNT = 1 then s.timeTick else s

/-- PIN_EDGE (R277): `sub` is the edge's nanosecond within the tick. -/
def pinEdge (n : Fin 256) (rising : Bool) (sub : Fin 4) (s : State) : State := s.pinEdge n.val rising sub.val

end Sys2Proof.Machine
end

