-- ==== Sys2Proof/Machine/Signal.lean ====
section
/-! DEFINITION. The signal map (R252, R253): fields of sources written into FIELD points, and fields of sinks built from
points. -/

namespace Sys2Proof.Machine

/-- Bit `p` of a payload: bit `p mod 8` of byte `p / 8`; 0 past its end. -/
def payloadBit (l : List Byte) (p : Nat) : Bool := (l.getD (p / 8) 0).getLsbD (p % 8)

/-- A bit of a payload replaced; a bit past its end is lost. -/
def setPayloadBit (l : List Byte) (p : Nat) (b : Bool) : List Byte :=
  l.set (p / 8) (BitVec.ofNat 8 (setBits (l.getD (p / 8) 0).toNat (p % 8) 1 (b2n b)))

/-- The position of the next bit of a field in Motorola order: down to bit 0 of a byte, then bit 7 of the next byte. PRESUMED:
the usual numbering of Motorola fields, BITPOS naming the most significant bit. -/
def motNext (p : Nat) : Nat := if p % 8 = 0 then p + 15 else p - 1

/-- The positions of a field of `len` bits from `pos`, most significant bit first in Motorola order, least significant first in
Intel order (R252). -/
def fieldBits (motorola : Bool) (pos : Nat) : Nat → List Nat
  | 0 => []
  | n + 1 => pos :: fieldBits motorola (if motorola then motNext pos else pos + 1) n

/-- The number a field holds. -/
def fieldGet (motorola : Bool) (pos len : Nat) (l : List Byte) : Nat :=
  let bits := (fieldBits motorola pos len).map (payloadBit l)
  (if motorola then bits.reverse else bits).foldr (fun b a => b2n b + 2 * a) 0

/-- A payload with the low `len` bits of `v` placed in a field. -/
def fieldSet (motorola : Bool) (pos len v : Nat) (l : List Byte) : List Byte :=
  let ps := fieldBits motorola pos len
  let ps := if motorola then ps.reverse else ps
  (List.range len).foldl (fun l k => setPayloadBit l (ps.getD k 0) (v.testBit k)) l

/-- The entries of the signal map in a direction that name a source or sink: entry number. A comparator is named by OBJ alone. -/
def State.sigEntries (s : State) (dir : Bool) (kind unit obj : Nat) : List Nat :=
  (s.listedBank BRG_SIG_SRC.off).filterMap (fun e =>
    let w := e.2
    if BRG_SIG_SRC.VALID.get w = 1 ∧ BRG_SIG_SRC.DIR.get w = b2n dir ∧ BRG_SIG_SRC.KIND.get w = kind ∧
        BRG_SIG_SRC.OBJ.get w = obj ∧ (kind = 3 ∨ BRG_SIG_SRC.UNIT.get w = unit) then some e.1 else none)

/-- A source updates (R252): every entry that names it writes its field into its point with the source's stamp and quality. -/
def State.signalUpdate (s : State) (kind unit obj : Nat) (payload : List Byte) (stamp : Nat) (fault : Bool) : State :=
  (s.sigEntries false kind unit obj).foldl (fun s e =>
    let len := s.g (BRG_SIG_DST.BITLEN.at e)
    let v := fieldGet (s.flag (BRG_SIG_SRC.MOTOROLA.at e)) (s.g (BRG_SIG_SRC.BITPOS.at e)) len payload
    let v := if s.flag (BRG_SIG_SRC.SIGNED.at e) then wrapInt 64 (signedOf len v) else v
    s.ownerWrite (s.g (BRG_SIG_DST.POINT.at e)) v stamp (if fault then qFault else qGood)) s

/-- The payload of a sink as it is built (R253): every entry that names it places the low bits of its point's VALUE, which Sluice reads with
the freshness check of R67. -/
def State.sinkBuild (s : State) (kind unit obj : Nat) (payload : List Byte) : List Byte × State :=
  (s.sigEntries true kind unit obj).foldl (fun (acc : List Byte × State) e =>
    let i := acc.2.g (BRG_SIG_DST.POINT.at e)
    let s := acc.2.freshRead i
    let r := s.pt i
    let v := if s.flag (BRG_SIG_SRC.QGATE.at e) && r.qual != qGood then s.safeOf (s.profOf i) else r.value.toNat
    (fieldSet (s.flag (BRG_SIG_SRC.MOTOROLA.at e)) (s.g (BRG_SIG_SRC.BITPOS.at e)) (s.g (BRG_SIG_DST.BITLEN.at e)) v acc.1, s)) (payload, s)

end Sys2Proof.Machine
end

