-- ==== Sys2Proof/Machine/Power.lean ====
section
/-! DEFINITION. The power controller (R402 to R420) as far as it needs no other block: votes, targets and the beginnings of
transitions, wakes and comparators; the AVS loop (R17 to R19) and the thermal governor (R516, R517). -/

namespace Sys2Proof.Machine

/-! ### Targets and transitions -/

/-- The parents that a domain holds ON (R405). -/
def parents (d : Nat) : List Nat :=
  if d = 3 ∨ d = 4 then [5]
  else if d = 5 then [6, 7, 8]
  else if d = 9 ∨ d = 10 ∨ d = 11 then [6]
  else if d = 12 ∨ d = 13 then [7]
  else []

/-- The children of a domain. -/
def childrenOf (p : Nat) : List Nat := (List.range 16).filter (fun d => (parents d).contains p)

/-- States of a Fountainhead unit (R308). -/
def fhOff : Nat := 0
def fhLoad : Nat := 1
def fhStandby : Nat := 2
def fhProof : Nat := 3
def fhRestore : Nat := 4
def fhActive : Nat := 5
def fhFailed : Nat := 6

/-- The state of a unit: 0 is A, 1 is B. -/
def State.unit (s : State) (u : Nat) : Nat := if u = 0 then s.g FH_STAT.STATE_A else s.g FH_STAT.STATE_B

/-- The state of a unit replaced. -/
def State.setUnit (s : State) (u v : Nat) : State := if u = 0 then s.p FH_STAT.STATE_A v else s.p FH_STAT.STATE_B v

/-- The votes of a domain that are set. -/
def State.votes (s : State) (d : Nat) : Nat := (s.rd (PWR_DOM_VOTE.off d)).toNat % 2 ^ 16

/-- Whether the target of a domain is ON (R301, R403, R404): a unit that is active, loading, restoring or under proof is held
ON, a standby in RETENTION; only a unit in FAILED or OFF follows its votes. -/
def State.wantsOn (s : State) (d : Nat) : Bool :=
  if d = 0 then true
  else if d = 1 ∨ d = 2 then
    let u := s.unit (d - 1)
    if u = fhFailed ∨ u = fhOff then s.votes d != 0 else u != fhStandby
  else s.votes d != 0

/-- Whether the idle state of a domain is OFF (R404); a standby's is RETENTION (R301). -/
def State.idleOff (s : State) (d : Nat) : Bool :=
  !s.flag (PWR_DOM_CFG.IDLE d) && !((d == 1 || d == 2) && s.unit (d - 1) == fhStandby)

/-- STATE of a domain replaced. -/
def State.setDom (s : State) (d st : Nat) : State := s.p (PWR_DOM_STAT.STATE d) st

/-- A transition of a domain begins (R407, PWR_DOMd_STAT.TRANS). -/
def State.beginTrans (s : State) (d st : Nat) : State :=
  (s.setDom d st).p (PWR_DOM_STAT.TRANS d) (s.g (PWR_DOM_STAT.TRANS d) + 1)

/-- The OFF-to-ON transitions running (R407). -/
def State.offToOn (s : State) : Nat :=
  ((List.range 16).filter (fun d => s.dom d == dsToOn && SMap.get (fun _ => 0) s.power.onFrom d == 0)).length

/-- A transition to ON begins from OFF (0) or RETENTION (1). -/
def State.beginOn (s : State) (d frm : Nat) : State :=
  { (s.beginTrans d dsToOn) with power := { s.power with onFrom := SMap.set (fun _ => 0) s.power.onFrom d frm } }

/-- The DEP bits (R405): set while a child is ON, going to ON, pending or completing entry, or wants to go to ON. -/
def State.depEval (s : State) : State :=
  [6, 7, 8, 5].foldl (fun s p =>
    s.pb (PWR_DOM_VOTE.DEP p) ((childrenOf p).any (fun c => (s.dom c != dsOff && s.dom c != dsRet) || s.wantsOn c)))
    ([5, 6, 7, 8].foldl (fun s p =>
      s.pb (PWR_DOM_VOTE.DEP p) ((childrenOf p).any (fun c => (s.dom c != dsOff && s.dom c != dsRet) || s.wantsOn c))) s)

/-- One domain evaluated against its target (R404 to R407, R415). -/
def State.domEval (s : State) (d : Nat) : State :=
  let st := s.dom d
  if s.wantsOn d then
    let ready := (parents d).all (fun p => s.dom p == dsOn || s.dom p == dsToOn || s.dom p == dsPending)
    if st = dsPending then s.setDom d dsOn
    else if st = dsRet ∧ ready then s.beginOn d 1
    else if st = dsOff ∧ ready ∧ s.offToOn < 2 then s.beginOn d 0
    else s
  else if st = dsOn then s.setDom d dsPending
  else if st = dsRet ∧ s.idleOff d then s.beginTrans d dsToOff
  else s

/-- Every domain evaluated (R405, R407): the DEP bits, then the domains in number order; children whose parents have begun only then follow. -/
def State.powerEval (s : State) : State :=
  ([1, 2, 3, 4, 5, 6, 7, 8, 9, 10, 11, 12, 13, 14, 15] ++ [5, 3, 4, 9, 10, 11, 12, 13]).foldl State.domEval s.depEval

/-- What a domain's state sets on the main die (R409): reverse bias on the periphery of kept banks, the supply of the SRAM arrays in mV
(0 gated; in RETENTION that of the kept banks), and the write and read assists. None while a transition runs. -/
def domBias (st : Nat) : Option (Bool × Nat × Bool) :=
  if st = dsOn ∨ st = dsPending then some (false, 800, true)
  else if st = dsRet then some (true, 550, false)
  else if st = dsOff then some (false, 0, false)
  else none

/-- The word PWR_STAT shows (R419). -/
def State.pwrStat (s : State) : Word :=
  BitVec.ofNat 32 ((List.range 16).foldl (fun a d =>
    let st := s.dom d
    a + 4 ^ d * (if st = dsOff then 0 else if st = dsRet then 1 else if st = dsOn then 2 else 3)) 0)

/-! ### Wakes (R412, R415 to R417) -/

/-- Outcome codes of PWR_WAKE_LAST. -/
def woNone : Nat := 0
def woRet : Nat := 1
def woOff : Nat := 2
def woCancelled : Nat := 3
def woAfter : Nat := 4

/-- The outcome a wake has for a domain in a state, and whether it waits for the domain to reach ON. -/
def wakeOutcome (st : Nat) : Nat × Bool :=
  if st = dsPending then (woCancelled, false)
  else if st = dsRet then (woRet, true)
  else if st = dsOff then (woOff, true)
  else if st = dsToRet ∨ st = dsToOff then (woAfter, true)
  else (woNone, false)

/-- CMPn_WAKE as a wake uses it: written at the very instant of the wake, the old word (R418). -/
def State.wakeWord (s : State) (n : Nat) : Word :=
  match SMap.get (fun _ => none) s.power.maskWas n with
  | some (t, w) => if t = s.absNs then w else s.rd (CMP_WAKE.off n)
  | none => s.rd (CMP_WAKE.off n)

/-- The wake of a comparator (R412). A unit whose target the wake does not move makes no transition. -/
def State.wake (s : State) (n : Nat) : State :=
  let mask := s.wakeWord n
  let doms := (List.range 16).filter (fun d => d != 0 && mask.getLsbD d)
  let s := doms.foldl (fun s d => s.pb (PWR_DOM_VOTE.WAKE d) true) s
  let outs := doms.map (fun d => (d, if s.wantsOn d then wakeOutcome (s.dom d) else (woNone, false)))
  let s := (s.wr PWR_WAKE_SRC.off (s.rd PWR_WAKE_SRC.off ||| BitVec.ofNat 32 (2 ^ n))).count PWR_WAKE_CNT.off
  let s := (((s.p PWR_WAKE_LAST.VALID 1).p PWR_WAKE_LAST.CMP n).p PWR_WAKE_LAST.DOMAINS (mask.toNat % 2 ^ 16 / 2 * 2))
  let s := s.wr PWR_WAKE_TIME.off (BitVec.ofNat 32 s.fns48)
  let s := outs.foldl (fun s e =>
    if e.2.2 then { s with power := { s.power with wakeOut := SMap.set (fun _ => none) s.power.wakeOut e.1 (some e.2.1) } }
    else s.p (PWR_DOM_STAT.WOUT e.1) e.2.1) s
  let waits := (outs.filter (fun e => e.2.2)).map (·.1)
  let s := if waits = [] then
      s.p PWR_WAKE_LAST.OUTCOME (if outs.any (fun e => e.2.1 == woCancelled) then woCancelled else woNone)
    else s
  let s := { s with power := { s.power with lastWait := waits, wakeAt := some s.absNs } }
  s.powerEval.raise (evPwr 2) clEvent

/-- A domain that has reached ON records the outcome of the wake it served (R412). -/
def State.wakeDone (s : State) (d : Nat) : State :=
  match SMap.get (fun _ => none) s.power.wakeOut d with
  | none => s
  | some o =>
    let s := s.p (PWR_DOM_STAT.WOUT d) o
    let rest := s.power.lastWait.filter (fun x => x != d)
    let last := s.power.lastWait.contains d && rest.isEmpty
    let s := { s with power := { s.power with wakeOut := SMap.set (fun _ => none) s.power.wakeOut d none, lastWait := rest } }
    if last then s.p PWR_WAKE_LAST.OUTCOME o else s

/-! ### Comparators (R410 to R414) -/

/-- The raw output a comparator settles at for input code `x` (R411). -/
def cmpRaw (w : Word) (x : Nat) (old : Bool) : Bool :=
  let thr := bitsOf w.toNat 0 10
  let hyst := bitsOf w.toNat 24 5
  if !w.getLsbD 31 then false
  else if !w.getLsbD 30 then (if thr < x then true else if x + hyst < thr then false else old)
  else if x < thr then true
  else if thr + hyst < x then false
  else old

/-- A change of a filtered output (R412, R414, R420): flags, event, signal source, and the wake. -/
def State.cmpChange (s : State) (n : Nat) (b : Bool) : State :=
  let s := (s.pb (CMP_STAT.OUT n) b).pb (if b then CMP_STAT.ROSE n else CMP_STAT.FELL n) true
  let s := s.wr CMP_OUT.off (BitVec.ofNat 32 (setBits (s.rd CMP_OUT.off).toNat n 1 (b2n b)))
  let s := s.raise (evCmp n) clEvent
  let s := s.signalUpdate 3 0 n (bytesLE 4 (b2n b)) s.fns48 false
  if b && s.flag (CMP_WAKE.EN n) then s.wake n else s

/-- PORT_STAT.SD of a ring port follows the raw output of its comparator (R91, R411). -/
def State.ringDetect (s : State) (n : Nat) (b : Bool) : State :=
  if 16 ≤ n ∧ n < 20 ∧ s.portRuns (n - 16) then s.pb (PORT_STAT.SD (n - 16)) b else s

/-- Whether the comparator of ring port `p` shows a signal, and the ns since its raw output changed (R91). -/
def State.ringSignal (s : State) (p : Nat) : Bool := s.flag (CMP_STAT.RAW (16 + p))
def State.ringSignalAge (s : State) (p : Nat) : Int := s.absNs - SMap.get (fun _ => (0 : Int)) s.power.rawAt (16 + p)

/-- Whether CMP00 to CMP15 compare: FEED is ON or in RETENTION, or on its way between the two (R413). -/
def State.feedCompares (s : State) : Bool :=
  let st := s.dom 15
  !(st == dsOff || st == dsToOff || (st == dsToOn && SMap.get (fun _ => 0) s.power.onFrom 15 == 0))

/-- The raw output of a comparator evaluated again; with FILT 0, or the comparator off, the filtered output follows at once. -/
def State.cmpEval (s : State) (n : Nat) : State :=
  if n < 16 ∧ !s.feedCompares then s
  else
    let w := s.rd (CMP_CFG.off n)
    let old := s.flag (CMP_STAT.RAW n)
    let raw := (SMap.get (fun _ => none) s.power.cmpForce n).getD (cmpRaw w (SMap.get (fun _ => 0) s.power.cmpIn n) old)
    let s := if raw = old then s
      else State.ringDetect { (s.pb (CMP_STAT.RAW n) raw) with power := { s.power with
        cmpFilt := SMap.set (fun _ => none) s.power.cmpFilt n (some s.fns48), rawAt := SMap.set (fun _ => (0 : Int)) s.power.rawAt n s.absNs } } n raw
    if raw ≠ s.flag (CMP_STAT.OUT n) ∧ ((CMP_CFG.FILT n).get w = 0 ∨ !w.getLsbD 31) then s.cmpChange n raw else s

/-- CMP_RAW_CHANGE (R411): a comparator's input moves to code `x` of its full scale. -/
def cmpRawChange (n : Fin 24) (x : Nat) (s : State) : State :=
  { s with power := { s.power with cmpIn := SMap.set (fun _ => 0) s.power.cmpIn n.val x } }.cmpEval n.val

/-- CMP_FILTER_EXPIRE (R411): the raw output has held its level for FILT × 100 ns. -/
def cmpFilterExpire (n : Fin 24) (s : State) : State :=
  match SMap.get (fun _ => none) s.power.cmpFilt n.val with
  | none => s
  | some t =>
    let raw := s.flag (CMP_STAT.RAW n.val)
    if raw ≠ s.flag (CMP_STAT.OUT n.val) ∧ (s.g (CMP_CFG.FILT n.val) * 100 : Int) ≤ sgn48 s.fns48 t then
      { s with power := { s.power with cmpFilt := SMap.set (fun _ => none) s.power.cmpFilt n.val none } }.cmpChange n.val raw
    else s

/-! ### Writes to the PWR and CMP registers -/

/-- A refused PWR write. -/
def State.pwrRefuse (s : State) : Nat × State := (stCFG, s.cfgErr PWR_CFGERR_CNT.off (evPwr 1))

/-- A write of PWR_DOMd_VOTE (R404); ignored for domain 0 (R403). One that releases the last vote but WAKE at the instant of the wake
that set it would have begun an entry: the outcome is CANCELLED (R416). -/
def State.voteWrite (s : State) (d : Nat) (new : Word) : Nat × State :=
  if d = 0 then (stOK, s)
  else
    let meets := s.power.wakeAt = some s.absNs ∧ (s.g PWR_WAKE_LAST.DOMAINS).testBit d ∧ s.dom d = dsOn ∧ s.votes d ≠ 4
    let s := (s.wr (PWR_DOM_VOTE.off d) new).powerEval
    if meets ∧ s.votes d = 4 then
      let s := s.p (PWR_DOM_STAT.WOUT d) woCancelled
      (stOK, if s.power.lastWait = [] then s.p PWR_WAKE_LAST.OUTCOME woCancelled else s)
    else (stOK, s)

/-- A write of PWR_DOMd_CFG (R407, R413). -/
def State.idleWrite (s : State) (d : Nat) (new : Word) : Nat × State :=
  if d = 0 then (stOK, s)
  else if d = 15 ∧ (PWR_DOM_CFG.IDLE d).get new = 0 ∧ (List.range 16).any (fun n => s.flag (CMP_WAKE.EN n)) then s.pwrRefuse
  else (stOK, (s.wr (PWR_DOM_CFG.off d) new).powerEval)

/-- The bits of PWR_DOMd_RET that select a bank (R408). -/
def retBits (d : Nat) : Nat :=
  if d = 1 ∨ d = 2 then 0x01FF else if d = 6 ∨ d = 12 ∨ d = 13 then 0x000F else 0

/-- A write of PWR_DOMd_RET (R408): only selectable bits change; ignored where the selection is fixed. -/
def State.retWrite (s : State) (d : Nat) (new : Word) : Nat × State :=
  if retBits d = 0 then (stOK, s) else (stOK, s.wr (PWR_DOM_RET.off d) (new &&& BitVec.ofNat 32 (retBits d)))

/-- A write of CMPn_CFG (R418): the comparator is evaluated again. -/
def State.cmpCfgWrite (s : State) (n : Nat) (new : Word) : Nat × State := (stOK, (s.wr (CMP_CFG.off n) new).cmpEval n)

/-- A write of CMPn_WAKE (R413). -/
def State.cmpWakeWrite (s : State) (n : Nat) (new : Word) : Nat × State :=
  if n < 16 ∧ (CMP_WAKE.EN n).get new = 1 ∧ !s.flag (PWR_DOM_CFG.IDLE 15) then s.pwrRefuse
  else
    let was := s.rd (CMP_WAKE.off n)
    (stOK, { (s.wr (CMP_WAKE.off n) new) with power := { s.power with
      maskWas := SMap.set (fun _ => none) s.power.maskWas n (some (s.absNs, was)) } })

/-! ### The AVS loop (R17 to R19) and the thermal governor (R516) -/

/-- The TARGET and LOWER values used, in 1/64 units (R18). -/
def State.avsTarget (s : State) : Nat := max 0x50 (s.g PWR_AVS_CTRL.TARGET)
def State.avsLower (s : State) : Nat := max (s.g PWR_AVS_CTRL.LOWER) (s.avsTarget + 8)

/-- The effective ceiling and floor in mV (R18, R516). -/
def State.avsCeil (s : State) : Nat :=
  let c := min (s.g PWR_AVS_LIMIT.CEIL) 900
  match s.power.thermCeil with
  | some t => min c t
  | none => c
def State.avsFloor (s : State) : Nat := max (s.g PWR_AVS_LIMIT.FLOOR) 600

/-- A setpoint held on the 5 mV grid within the effective floor and ceiling; the ceiling wins (R18). DESIGN CHOICE: a floor off the grid
acts as the next grid point above it, a ceiling off the grid as the next one below it. -/
def State.avsHold (s : State) (v : Nat) : Nat := min (max (v / 5 * 5) ((s.avsFloor + 4) / 5 * 5)) (s.avsCeil / 5 * 5)

/-- The setpoint that the integrator writes with EN = 0, within the effective floor and ceiling (R18, R19). DESIGN CHOICE: it is taken
as written, on the grid or off it. -/
def State.avsFixed (s : State) : Nat := min s.avsFloor s.avsCeil

/-- A setpoint sent to the regulator, taken as acknowledged (R19) until AVS_TRANSACTION_FAIL says that it was not. -/
def State.avsMove (s : State) (v : Nat) : State :=
  let old := s.g PWR_AVS_STAT.VSET
  if v = old then { s with power := { s.power with avsOpen := none } }
  else { (s.p PWR_AVS_STAT.VSET v) with power := { s.power with avsOpen := some (old, s.power.avsFails), avsFails := 0 } }

/-- The margin in 1/64 units, saturating at 0xFF. -/
def avsMargin (demand capacity : Nat) : Nat := if demand = 0 then 0xFF else min 0xFF (capacity * 64 / demand)

/-- The setpoint after an evaluation, and whether the run above LOWER has lasted 100 ms (R17). -/
def State.avsNext (s : State) (demand capacity : Nat) : Nat :=
  let v := s.g PWR_AVS_STAT.VSET
  if capacity * 64 < s.avsTarget * demand then s.avsHold (v + 10)
  else if 1000 ≤ s.power.avsHigh then s.avsHold (v - 5)
  else s.avsHold v

/-- The measurements of an evaluation stored, with the run above LOWER and the count of margins below 1.00 (R17, R20). -/
def State.avsMeasure (s : State) (demand capacity : Nat) : State :=
  let s := (s.p PWR_AVS_RATE.CAP (min 0xFFFF capacity)).p PWR_AVS_RATE.DEMAND (min 0xFFFF demand)
  let s := (s.p PWR_AVS_STAT.MARGIN (avsMargin demand capacity)).pb PWR_AVS_STAT.LOW
    (decide (capacity * 64 < s.avsTarget * demand))
  let s := { s with power := { s.power with
    avsHigh := if s.avsLower * demand < capacity * 64 then s.power.avsHigh + 1 else 0 } }
  if capacity < demand then (s.count PWR_AVS_LOWCNT.off).raise (evPwr 6) clEvent else s

/-- AVS_EVALUATE (R17): one evaluation, every 100 µs while EN is 1. Demand and capacity are in M tokens/s. -/
def avsEvaluate (demand capacity : Nat) (s : State) : State :=
  if !s.flag PWR_AVS_CTRL.EN then s
  else
    let s := s.avsMeasure demand capacity
    s.avsMove (s.avsNext demand capacity)

/-- AVS_TRANSACTION_FAIL (R19): the regulator has not acknowledged a transaction: the last setpoint it acknowledged stays. -/
def avsTransactionFail (s : State) : State :=
  let v := (s.power.avsOpen.map (·.1)).getD (s.g PWR_AVS_STAT.VSET)
  let n := (s.power.avsOpen.map (·.2)).getD s.power.avsFails + 1
  let s := { (s.p PWR_AVS_STAT.VSET v) with power := { s.power with avsFails := if n = 3 then 0 else n, avsOpen := none } }
  let s := (s.count PWR_AVS_FAILCNT.off).raise (evPwr 3) clEvent
  if n = 3 then s.raise (evPwr 4) clDegraded else s

/-- A write of PWR_AVS_CTRL or PWR_AVS_LIMIT, in force at once (R37): with EN = 0 the setpoint is where the integrator writes it (R19,
R20), with EN = 1 it is brought within the floor and the ceiling (R18). -/
def State.avsWrite (s : State) (off : Nat) (new : Word) : Nat × State :=
  let s := s.wr off new
  (stOK, s.avsMove (if s.flag PWR_AVS_CTRL.EN then s.avsHold (s.g PWR_AVS_STAT.VSET) else s.avsFixed))

/-- The thermal ceiling after a 100 ms step at a highest main-die reading of `tj` °C (R516). -/
def State.thermNext (s : State) (tj : Int) : Option Nat :=
  let gov : Int := s.g TEL_THERM.GOV
  match s.power.thermCeil with
  | none => if gov ≤ tj then some (max 700 (s.g PWR_AVS_STAT.VSET - 10)) else none
  | some c =>
    if gov ≤ tj then some (max 700 (c - 10))
    else if tj ≤ gov - 5 then (if s.g PWR_AVS_LIMIT.CEIL ≤ c + 5 then none else some (c + 5))
    else some c

/-- GOVERNOR_STEP (R516): a 100 ms step of the thermal governor; its event is raised when a ceiling is first set. -/
def governorStep (tj : Int) (s : State) : State :=
  let c := s.thermNext tj
  let fresh := s.power.thermCeil.isNone && c.isSome
  let s := { s with power := { s.power with thermCeil := c } }
  (s.avsMove (min (s.g PWR_AVS_STAT.VSET) s.avsCeil)).raiseIf fresh (evTel 5) clEvent

end Sys2Proof.Machine
end

