-- ==== Sys2Proof/Machine/Operands.lean ====
section
/-! DEFINITION. The operand forms of the block: the Pelum header and its check (R96), the trailer and its stomped form
(R98), the header checks (R103, R202), and the payloads of the link frames (R100 to R102). -/

namespace Sys2Proof.Machine

/-! ### Trailers -/

/-- What a trailer is against the right CRC (R98): 0 good, 1 stomped, 2 wrong. -/
def trailerKind (bytes : List Byte) (trailer : Word) : Nat :=
  if trailer.toNat = crc32c bytes then 0 else if trailer.toNat = crc32c bytes ^^^ 0xFFFFFFFF then 1 else 2

/-! ### The Pelum header (R96) -/

/-- Header bytes 0 to 29. -/
def hdr30 (f : Frame) : List Byte :=
  bytesBE 2 f.dst ++ bytesBE 2 f.src ++ bytesBE 1 (f.cls % 8 * 32 + f.typ % 32) ++
  bytesBE 2 (f.flow % 1024 * 64 + b2n f.planeB * 32 + b2n f.west * 16) ++ bytesBE 4 f.seq ++ bytesBE 2 f.len ++
  bytesBE 2 (f.hops % 4096 * 16 + f.an % 4 * 4) ++ bytesBE 8 f.rescorr ++ bytesBE 4 f.pn ++
  bytesBE 2 (f.turns % 4 * 16384 + b2n f.sec * 8192 + b2n f.work * 4096) ++ bytesBE 1 f.epoch

/-- The 32 header bytes with their HCRC. -/
def encHeader (f : Frame) : List Byte := hdr30 f ++ bytesBE 2 (crc16 (hdr30 f))

/-- `n` bytes from position `i` as a big-endian number. -/
def beAt (l : List Byte) (i n : Nat) : Nat := natBE (slice l i n)

/-- The fields of a header, the payload still to come. -/
def decHeader (h : List Byte) : Frame :=
  { dst := beAt h 0 2, src := beAt h 2 2, cls := beAt h 4 1 / 32, typ := beAt h 4 1 % 32, flow := beAt h 5 2 / 64,
    planeB := bitOf (beAt h 5 2) 5, west := bitOf (beAt h 5 2) 4, seq := beAt h 7 4, len := beAt h 11 2,
    hops := beAt h 13 2 / 16, an := bitsOf (beAt h 13 2) 2 2, rescorr := beAt h 15 8, pn := beAt h 23 4,
    turns := beAt h 27 2 / 16384, sec := bitOf (beAt h 27 2) 13, work := bitOf (beAt h 27 2) 12, epoch := beAt h 29 1,
    payload := [] }

/-- Whether a reserved bit of the header is 1. -/
def hdrReserved (h : List Byte) : Bool :=
  beAt h 5 2 % 16 != 0 || beAt h 13 2 % 4 != 0 || beAt h 27 2 % 4096 != 0

/-- Whether the header checks discard the frame (R103, R202). -/
def hdrBad (h : List Byte) : Bool :=
  let f := decHeader h
  crc16 (h.take 30) != beAt h 30 2 || decide (16384 < f.len) || !classAllowed f.typ f.cls f.work ||
    (f.dst == 0 && !linkLocal f.typ) || f.turns == 3 || hdrReserved h || ((f.cls == 4 || f.cls == 3) && decide (1024 < f.len))

/-! ### A frame on the wire (R95, R97, R98, R111) -/

/-- The IV of a secured hop (R111): the transmitter's DEV_UID, then PN. -/
def hopIv (uid pn : Nat) : List Byte := bytesBE 8 uid ++ bytesBE 4 pn

/-- A payload encrypted or decrypted under a hop's key (R111). -/
def hopCtr (key iv l : List Byte) : List Byte := slice (Config.gcmCtr key iv l) 0 l.length

/-- The 16-byte ICV of a hop, over header bytes 0 to 29 and the encrypted payload (R111). -/
def hopTag (key iv aad ct : List Byte) : List Byte := slice (Config.gcmTag key iv aad ct) 0 16

/-- What follows a frame's header before its trailer: the payload, with SEC encrypted under the hop's key and followed by its ICV. -/
def hopBody (key : List Byte) (uid : Nat) (f : Frame) : List Byte :=
  if f.sec then
    let iv := hopIv uid f.pn
    let c := hopCtr key iv f.payload
    c ++ hopTag key iv (hdr30 f) c
  else f.payload

/-- Bytes followed by their CRC-32C trailer, or by its inverse where the frame ends stomped (R97, R98). -/
def withTrailer (bad : Bool) (l : List Byte) : List Byte :=
  l ++ bytesBE 4 (if bad then crc32c l ^^^ 0xFFFFFFFF else crc32c l)

/-- A frame as it stands on the wire (R95, R97): header with its HCRC, payload, ICV, trailer. -/
def frameWire (key : List Byte) (uid : Nat) (f : Frame) (bad : Bool) : List Byte := withTrailer bad (encHeader f ++ hopBody key uid f)

/-! ### The line (R95, R115, R213) -/

/-- The block type of a terminate block with `n` bytes. PRESUMED: IEEE 802.3 Clause 49. -/
def termType (n : Nat) : Nat := [0x87, 0x99, 0xAA, 0xB4, 0xCC, 0xD2, 0xE1, 0xFF].getD n 0

/-- Bytes as 64b/66b data blocks, and the terminate block that ends them. -/
def dataBlocks : Nat → List Byte → List LineUnit
  | 0, l => [.control (termType l.length) l]
  | fuel + 1, l => if l.length < 8 then [.control (termType l.length) l] else .block (l.take 8) :: dataBlocks fuel (l.drop 8)

/-- The bytes of a frame as the PCS of a mode delimits them (R95), with the idle that must follow. -/
def frameLine (mode : Nat) (l : List Byte) : List LineUnit :=
  if mode = 1 then
    .code true 0xFB :: l.map (.code false) ++ [.code true 0xFD, .code true 0xF7, .code true 0xBC, .code false 0x50, .code true 0xBC,
      .code false 0x50]
  else .control 0x78 (l.take 7) :: dataBlocks (l.length / 8) (l.drop 7) ++ [.control 0x1E (List.replicate 7 0)]

/-- The heartbeat ordered set (R115): O code 0xA, or /K28.5/D6.2/. -/
def heartbeatLine (mode : Nat) : List LineUnit :=
  if mode = 1 then [.code true 0xBC, .code false 0x46] else [.control 0x4B [0, 0, 0, 0xA]]

/-- The credit ordered set (R213): O code 0xB, or /K28.5/D7.2/Dh/Dl/. -/
def creditLine (mode h l : Nat) : List LineUnit :=
  if mode = 1 then [.code true 0xBC, .code false 0x47, .code false (BitVec.ofNat 8 h), .code false (BitVec.ofNat 8 l)]
  else [.control 0x4B [BitVec.ofNat 8 h, BitVec.ofNat 8 l, 0, 0xB]]

/-! ### Payloads of the link frames -/

/-- HELLO (R100). -/
structure Hello where
  node : Nat
  port : Nat
  sec : Bool
  fec : Bool
  ka : Bool
  turned : Bool
  state : Nat
  epoch : Nat
  uid : Nat
  mapId : Nat
deriving DecidableEq, Repr

def decHello (l : List Byte) : Hello :=
  let fl := beAt l 3 1
  { node := beAt l 0 2, port := beAt l 2 1 % 4, sec := bitOf fl 0, fec := bitOf fl 1, ka := bitOf fl 2, turned := bitOf fl 3,
    state := beAt l 4 1 % 8, epoch := beAt l 5 1, uid := beAt l 8 8, mapId := beAt l 16 4 }

def encHello (h : Hello) : List Byte :=
  bytesBE 2 h.node ++ bytesBE 1 h.port ++ bytesBE 1 (b2n h.sec + 2 * b2n h.fec + 4 * b2n h.ka + 8 * b2n h.turned) ++
  bytesBE 1 h.state ++ bytesBE 1 h.epoch ++ bytesBE 2 0 ++ bytesBE 8 h.uid ++ bytesBE 4 h.mapId ++ List.replicate 12 0

/-- RING_STATE (R102). -/
structure RingState where
  kind : Nat
  epoch : Nat
  node : Nat
  port : Nat
  nbrTurned : Bool
  cycle : Nat
  at_ : Nat
  nbr : Nat
deriving DecidableEq, Repr

def decRingState (l : List Byte) : RingState :=
  { kind := beAt l 0 1, epoch := beAt l 1 1, node := beAt l 2 2, port := beAt l 4 1 % 4, nbrTurned := bitOf (beAt l 5 1) 0,
    cycle := beAt l 8 4, at_ := beAt l 12 6, nbr := beAt l 18 2 }

def encRingState (r : RingState) : List Byte :=
  bytesBE 1 r.kind ++ bytesBE 1 r.epoch ++ bytesBE 2 r.node ++ bytesBE 1 r.port ++ bytesBE 1 (b2n r.nbrTurned) ++ bytesBE 2 0 ++
  bytesBE 4 r.cycle ++ bytesBE 6 r.at_ ++ bytesBE 2 r.nbr ++ List.replicate 12 0

/-- LDLY_REQ and LDLY_RSP (R101). -/
def encLdly (reqId t2 t3 : Nat) : List Byte := bytesBE 4 reqId ++ bytesBE 8 t2 ++ bytesBE 8 t3 ++ List.replicate 12 0

/-- SYNC (R270). -/
structure Sync where
  osec : Nat
  ons : Nat
  linksum : Nat
  cycle : Nat
  stepcnt : Nat
  flags : Nat
  epoch : Nat
deriving DecidableEq, Repr

def decSync (l : List Byte) : Sync :=
  { osec := beAt l 0 6, ons := beAt l 6 4, linksum := beAt l 10 8, cycle := beAt l 18 4, stepcnt := beAt l 22 1,
    flags := beAt l 23 1, epoch := beAt l 24 6 }

def encSync (y : Sync) : List Byte :=
  bytesBE 6 y.osec ++ bytesBE 4 y.ons ++ bytesBE 8 y.linksum ++ bytesBE 4 y.cycle ++ bytesBE 1 y.stepcnt ++ bytesBE 1 y.flags ++
  bytesBE 6 y.epoch ++ bytesBE 2 0

end Sys2Proof.Machine
end

