-- ==== Sys2Proof/Machine/Sec.lean ====
section
/-! DEFINITION. Grotto (R460 to R474): owner commands, sessions, the tamper response and debug, and the beginning of a key agreement
of a ring hop. -/

namespace Sys2Proof.Machine

/-! ### Results and the buffer -/

def srOK : Nat := 0
def srBUSY : Nat := 1
def srCLASS : Nat := 2
def srSTATE : Nat := 3
def srSIG : Nat := 4
def srFORMAT : Nat := 5
def srFULL : Nat := 6
def srKEY : Nat := 7
def srSCOPE : Nat := 8
def srEXPIRED : Nat := 9

/-- KIND bits of a key entry (R465). -/
def kIMAGESIG : Nat := 0
def kIMAGEENC : Nat := 1
def kPKGSIG : Nat := 2
def kPKGENC : Nat := 3
def kSESSIONCA : Nat := 4
def kNODECA : Nat := 5
def kDEBUG : Nat := 6

/-- Grotto's record changed. -/
def State.sm (s : State) (f : Sec → Sec) : State := { s with sec := f s.sec }

/-- Bytes of the command buffer, little-endian words (R474). -/
def State.secBuf (s : State) (i n : Nat) : List Byte :=
  slice ((List.range 128).flatMap (fun k => bytesLE 4 (s.rd (SEC_BUF.off k)).toNat)) i n

/-- A little-endian number of the command buffer. -/
def State.bufLE (s : State) (i n : Nat) : Nat := natLE (s.secBuf i n)

/-- SEC_RESULT.CODE set. -/
def State.secResult (s : State) (c : Nat) : State := s.p SEC_RESULT.CODE c

/-- Whether another master holds the buffer's claim (R464). -/
def State.claimedBy (s : State) (m : Master) : Bool := s.flag SEC_STAT.BUSY && ofMaster m (s.g SEC_STAT.MID) s.sec.claimNode

/-- Whether the buffer is claimed by a master other than `m`. -/
def State.claimedOther (s : State) (m : Master) : Bool := s.flag SEC_STAT.BUSY && !s.claimedBy m

/-- The buffer claimed for a master. -/
def State.claim (s : State) (m : Master) : State :=
  ((s.pb SEC_STAT.BUSY true).p SEC_STAT.MID m.mid.val).sm (fun c => { c with claimNode := m.node.toNat })

/-- The claim released. -/
def State.unclaim (s : State) : State := (s.pb SEC_STAT.BUSY false).p SEC_STAT.MID 0

/-- The key entry of a KEY_ID that has a KIND bit, as a service of Grotto finds it: none in the error state (R461), and none with IMAGE_ENC or
PKG_ENC after a debug unlock (R468). -/
def State.keyOf (s : State) (id kind : Nat) : Option KeyEnt :=
  if s.flag SEC_STAT.ERR then none
  else s.sec.keys.find? (fun e =>
    e.id == id && e.kind.testBit kind && !(s.sec.encOff && (e.kind.testBit kIMAGEENC || e.kind.testBit kPKGENC)))

/-- Whether a master holds Privileged class at least. -/
def State.privileged (s : State) (m : Master) : Bool := (s.cls m).any (fun c => decide (2 ≤ c))

/-! ### Sessions (R467) -/

/-- Every session ended, and a nonce drawn for one. -/
def State.endSessions (s : State) : State := s.sm (fun c => { c with sessions := [], nonceFor := none })

/-- A session opened for a master, in place of one it has; `notAfter` in fabric seconds, if its credential bounds it. -/
def State.openSession (s : State) (m : Master) (notAfter : Option Nat) : State :=
  let life : Int := s.absNs + 1000000000 * (max 1 (s.g SEC_CFG.LIFE) : Nat)
  let ends := match notAfter with
    | some t => min life (1000000000 * (t : Int))
    | none => life
  let rest := s.sec.sessions.filter (fun e => !ofMaster m e.mid e.node)
  (s.sm (fun c => { c with sessions := rest ++ [⟨m.mid.val, if m.mid.val = 0x10 then m.node.toNat else 0, ends⟩] })).raise
    (evSec 2) clEvent

/-- Whether a new session of a master has room (R467). -/
def State.sessionRoom (s : State) (m : Master) : Bool :=
  decide ((s.sec.sessions.filter (fun e => !ofMaster m e.mid e.node)).length < 8)

/-- A nonce drawn into SEC_NONCE0 to SEC_NONCE11. -/
def State.drawNonce (s : State) : State :=
  (List.range 12).foldl (fun s k =>
    let (v, s) := s.free
    s.wr (SEC_NONCE.off k) (BitVec.ofNat 32 v)) s

/-- OPEN: the buffer claimed and a fresh nonce drawn. -/
def State.sessOpen (s : State) (m : Master) : State :=
  if s.flag SEC_STAT.ERR then s.secResult srSTATE
  else if s.flag SEC_STAT.BUSY then s.secResult srBUSY
  else ((s.claim m).drawNonce.sm (fun c => { c with nonceFor := some (m.mid.val, m.node.toNat) })).secResult srOK

/-- The SCOPE bit of a master (R467). -/
def scopeBit (m : Master) : Option Nat :=
  if m.mid.val = 0x08 then some 0 else if m.mid.val = 0x09 then some 1 else if m.mid.val = 0x10 then some 2 else none

/-- The message that an operator signs (R467). -/
def State.sessionMsg (s : State) (m : Master) : List Byte :=
  (List.range 12).flatMap (fun k => bytesBE 4 (s.rd (SEC_NONCE.off k)).toNat) ++ bytesLE 8 Config.uid.toNat ++
    bytesLE 1 m.mid.val ++ bytesLE 2 (if m.mid.val = 0x10 then m.node.toNat else 0)

/-- What VERIFY finds (R467). -/
def State.verifyFinding (s : State) (m : Master) : Nat :=
  if s.flag SEC_STAT.ERR ∨ !s.sec.nonceFor.any (fun n => ofMaster m n.1 n.2) then srSTATE
  else if s.bufLE 0 4 ≠ 0x59314F50 ∨ 8 ≤ s.bufLE 6 1 ∨ s.bufLE 7 1 ≠ 0 ∨ s.bufLE 14 2 ≠ 0 ∨ natLE (s.secBuf 116 44) ≠ 0 then srFORMAT
  else
    match s.keyOf (s.bufLE 112 4) kSESSIONCA with
    | none => srKEY
    | some ca =>
      if !Config.ecdsa ca.pub (s.secBuf 0 160) (s.secBuf 160 96) then srSIG
      else if !(scopeBit m).any (fun b => (s.bufLE 6 1).testBit b) ∨ (s.bufLE 4 2 ≠ 0xFFFF ∧ s.bufLE 4 2 ≠ s.node) then srSCOPE
      else if m.mid.val = 0x10 ∧ (!s.flag (PORT_CFG.SEC 0) ∨ !s.flag (PORT_CFG.SEC 1)) then srSCOPE
      else if s.bufLE 8 6 ≤ s.clep.sec then srEXPIRED
      else if !Config.ecdsa (s.secBuf 16 96) (s.sessionMsg m) (s.secBuf 256 96) then srSIG
      else if !s.sessionRoom m then srFULL
      else srOK

/-- VERIFY: the credential checked and a session opened, or SEC_AUTH_FAIL counted; the nonce and the claim end. -/
def State.sessVerify (s : State) (m : Master) : State :=
  if s.claimedOther m then s.secResult srBUSY
  else
    let r := s.verifyFinding m
    let s' := (if r = srOK then s.openSession m (some (s.bufLE 8 6)) else (s.count SEC_AUTH_FAIL.off).raise (evSec 3) clEvent)
    ((s'.sm (fun c => { c with nonceFor := none })).unclaim).secResult r

/-- CLOSE: the writer's session ends. -/
def State.sessClose (s : State) (m : Master) : State :=
  if s.flag SEC_STAT.ERR then s.secResult srSTATE
  else if s.claimedOther m then s.secResult srBUSY
  else
    let s := s.sm (fun c => { c with sessions := c.sessions.filter (fun e => !ofMaster m e.mid e.node) })
    s.unclaim.secResult srOK

/-- A write of SEC_SESS_CMD. -/
def State.sessCmdWrite (s : State) (m : Master) (eff : Word) : Nat × State :=
  match SEC_SESS_CMD.OP.get eff with
  | 1 => (0, s.sessOpen m)
  | 2 => (0, s.sessVerify m)
  | 3 => (0, s.sessClose m)
  | _ => (0, s)

/-- SESSION_EXPIRE (R467): sessions at their end leave. -/
def sessionExpire (s : State) : State :=
  s.sm (fun c => { c with sessions := c.sessions.filter (fun e => decide (s.absNs < e.ends)) })

/-! ### Owner commands (R464, R465) -/

/-- LIFE replaced. -/
def State.setLife (s : State) (l : Nat) : State := s.sm (fun c => { c with life := l })

/-- Whether the part is OWNED. -/
def State.owned (s : State) : Bool := s.life == 2

/-- ENROL. -/
def State.secEnrol (s : State) (m : Master) : Nat × State :=
  if s.life ≠ 1 then (srSTATE, s)
  else if m.mid.val ≠ 0x08 ∧ m.mid.val ≠ 0x09 then (srCLASS, s)
  else (srOK, ((s.sm (fun c => { c with root := s.secBuf 0 96 })).setLife 2).openSession m none)

/-- The conditions of the other commands: OWNED, and a Privileged writer. -/
def State.ownerOk (s : State) (m : Master) : Nat := if !s.owned then srSTATE else if !s.privileged m then srCLASS else srOK

/-- KEYLOAD: the key record of R465 checked and stored, or replaced. -/
def State.secKeyload (s : State) : Nat × State :=
  let id := s.bufLE 4 4
  let kind := s.bufLE 8 1
  let nd := s.bufLE 9 2
  let rest := s.sec.keys.filter (fun e => e.id != id)
  if s.bufLE 0 4 ≠ 0x59314B52 ∨ 128 ≤ kind ∨ natLE (s.secBuf 11 5) ≠ 0 then (srFORMAT, s)
  else if nd ≠ 0xFFFF ∧ nd ≠ s.node then (srSCOPE, s)
  else if !Config.ecdsa s.sec.root (s.secBuf 0 256) (s.secBuf 256 96) then (srSIG, s)
  else if (kind.testBit kIMAGEENC || kind.testBit kPKGENC) && (Config.unwrap (s.secBuf 112 96) (s.secBuf 208 48)).isNone then (srKEY, s)
  else if 32 ≤ rest.length then (srFULL, s)
  else (srOK, s.sm (fun c => { c with keys := rest ++ [⟨id, kind, nd, s.secBuf 16 96, s.secBuf 112 96, s.secBuf 208 48⟩] }))

/-- REVOKE. -/
def State.secRevoke (s : State) : Nat × State :=
  let id := s.bufLE 0 4
  if !s.sec.keys.any (fun e => e.id == id) then (srKEY, s)
  else if !Config.ecdsa s.sec.root (s.secBuf 0 4) (s.secBuf 4 96) then (srSIG, s)
  else (srOK, s.sm (fun c => { c with keys := c.keys.filter (fun e => e.id != id) }))

/-- NODECERT. -/
def State.secNodecert (s : State) : Nat × State :=
  if s.bufLE 110 2 ≠ 0 then (srFORMAT, s)
  else
    match s.keyOf (s.bufLE 106 4) kNODECA with
    | none => (srKEY, s)
    | some ca =>
      if Config.ecdsa ca.pub (s.secBuf 0 112) (s.secBuf 112 96) then (srOK, s.sm (fun c => { c with cert := some (s.secBuf 0 208) }))
      else (srSIG, s)

/-- SVN_RAISE. -/
def State.secSvnRaise (s : State) : Nat × State :=
  if s.bufLE 0 4 < s.g SEC_SVN_MIN.SVN then (srSTATE, s) else (srOK, s.p SEC_SVN_MIN.SVN (s.bufLE 0 4))

/-- ZEROISE. -/
def State.secZeroise (s : State) : Nat × State :=
  (srOK, (s.sm (fun c => { c with root := [], keys := [], cert := none })).endSessions.setLife 1)

/-- TRANSFER. -/
def State.secTransfer (s : State) : Nat × State :=
  if !Config.ecdsa s.sec.root (s.secBuf 0 96) (s.secBuf 96 96) then (srSIG, s)
  else (srOK, (s.sm (fun c => { c with root := s.secBuf 0 96, keys := [], cert := none })).endSessions)

/-- The command of an OP. -/
def State.secDo (s : State) (m : Master) (op : Nat) : Nat × State :=
  if op = 1 then s.secEnrol m
  else if op = 6 then (if s.privileged m then s.secZeroise else (srCLASS, s))
  else
    let c := s.ownerOk m
    if c ≠ srOK then (c, s)
    else if op = 2 then s.secKeyload
    else if op = 3 then s.secRevoke
    else if op = 4 then s.secNodecert
    else if op = 5 then s.secSvnRaise
    else s.secTransfer

/-- A write of SEC_CMD (R464): the command runs, or fails with its result and SEC_CMD_ERR. -/
def State.secCmdWrite (s : State) (m : Master) (eff : Word) : Nat × State :=
  let op := SEC_CMD.OP.get eff
  if op = 0 then (0, s)
  else
    let (r, t) := if s.flag SEC_STAT.ERR then (srSTATE, s) else if s.claimedOther m then (srBUSY, s) else s.secDo m op
    let t := if r = srBUSY ∧ s.claimedOther m then t else t.unclaim
    (0, (if r = srOK then t else t.count SEC_CMD_ERR.off).secResult r)

/-- A write of a SEC_BUF word: ignored from a master that does not hold the claim. -/
def State.secBufWrite (s : State) (m : Master) (k : Nat) (new : Word) : Nat × State :=
  if s.claimedOther m then (0, s) else (0, s.wr (SEC_BUF.off k) new)

/-! ### Key agreement: blocks and the INIT (R470, R471) -/

/-- A port's key agreement. -/
def State.kaOf (s : State) (p : Nat) : Ka := SMap.get Ka.dflt s.sec.ka p

/-- A port's key agreement replaced. -/
def State.setKa (s : State) (p : Nat) (k : Ka) : State := s.sm (fun c => { c with ka := SMap.set Ka.dflt c.ka p k })

/-- A link key: port, AN, and whether it is the receive key. -/
def State.linkKey (s : State) (p an : Nat) (rx : Bool) : List Byte := SMap.get (fun _ => []) s.sec.linkKeys (8 * p + 2 * an + b2n rx)

/-- A link key installed. -/
def State.setLinkKey (s : State) (p an : Nat) (rx : Bool) (k : List Byte) : State :=
  s.sm (fun c => { c with linkKeys := SMap.set (fun _ => []) c.linkKeys (8 * p + 2 * an + b2n rx) k })

/-- The signed part of a key agreement block, its signature field zero. -/
def kaBody (kind an : Nat) (cert eph : List Byte) : List Byte :=
  bytesBE 1 kind ++ bytesBE 1 an ++ bytesBE 2 0 ++ slice cert 0 208 ++ slice eph 0 96 ++ List.replicate 96 0

/-- A block signed after the blocks before it. -/
def kaSign (before body : List Byte) : List Byte := body.take 308 ++ slice (Config.dikSign (before ++ body)) 0 96

/-- The neighbour's node ID as its latest HELLO gave it. -/
def State.nbrId (s : State) (p : Nat) : Nat := ((s.port p).nbr.map (·.node)).getD 0

/-- Whether this node initiates the agreement of a port (R470): it has the lower node ID. -/
def State.kaLower (s : State) (p : Nat) : Bool := decide (s.node < s.nbrId p)

/-- A new association started on a port (R114, R470, R471): INIT goes out in the next HELLO. On a link coming up the node with the lower ID
starts it. DEDUCED: an association that lives is renewed by either side, which R473's meeting of two INITs needs; one that this side is
answering or confirming goes on. -/
def State.kaStart (s : State) (p : Nat) (newLink : Bool) : State :=
  let k := s.kaOf p
  if !newLink ∧ (k.stage = 2 ∨ k.stage = 3) ∧ !k.newLink then s
  else if (newLink ∧ !s.kaLower p) ∨ s.flag SEC_STAT.ERR then
    s.setKa p { k with stage := 0, newLink := newLink, blocks := [], out := [], startAt := s.absNs }
  else
    let an := if newLink then 0 else (s.g (PORT_SA_STAT.TX_ACT p) + 1) % 4
    let n := s.sec.ephNo
    let blk := kaSign [] (kaBody 1 an (s.sec.cert.getD []) (Config.ephPub n))
    (s.sm (fun c => { c with ephNo := n + 1 })).setKa p { k with
      stage := 1, an := an, newLink := newLink, blocks := blk, eph := n, peer := [], startAt := s.absNs, out := blk }

/-- Whether a port is secured and past HELLO: its associations matter. -/
def State.kaLive (s : State) (p : Nat) : Bool := s.flag (PORT_CFG.SEC p) && decide (3 ≤ s.g (PORT_STAT.STATE p) ∧ s.g (PORT_STAT.STATE p) ≤ 5)

/-! ### Tamper, noise and debug (R461, R468, R472) -/

/-- Grotto's error state (R461). -/
def State.secError (s : State) : State := (s.pb SEC_STAT.ERR true).raise (evSec 7) clGrave

/-- NOISE_HEALTH_FAIL (R461). -/
def noiseHealthFail (s : State) : State := if s.domOn 14 then s.secError else s

/-- TAMPER_DETECT (R472). -/
def tamperDetect (s : State) : State :=
  if !s.domOn 14 then s
  else
    let s := s.endSessions.unclaim.sm (fun c => { c with ka := c.ka.map (fun e => (e.1, { e.2 with stage := 0, eph := 0, peer := [], blocks := [] })) })
    let s := [0, 1, 2, 3].foldl (fun s p => if s.kaLive p then s.kaStart p (s.g (PORT_STAT.STATE p) == 3) else s) s
    ((s.pb SEC_STAT.TAMPER true).count SEC_TAMPER_CNT.off).raise (evSec 5) clSevere

/-- DEBUG_UNLOCK (R468, R473): a token over the nonce it was given and DEV_UID. -/
def debugUnlock (nonce token : List Byte) (s : State) : State :=
  if !s.owned then s
  else
    let msg := nonce ++ bytesLE 8 Config.uid.toNat
    let good := s.sec.keys.any (fun e => e.kind.testBit kDEBUG && Config.ecdsa e.pub msg token)
    if s.flag PORT_BYP.INSERT ∨ s.flag PORT_BYP.PIN ∨ s.flag SEC_STAT.ERR ∨ !good then s.count SEC_CMD_ERR.off
    else
      ((s.pb SEC_STAT.DEBUG true).endSessions.unclaim.sm (fun c => { c with encOff := true })).raise (evSec 6) clNote

/-- Whether JTAG is open (R462, R468): outside OWNED, or after a debug unlock. -/
def State.jtagOpen (s : State) : Bool := !s.owned || s.flag SEC_STAT.DEBUG

end Sys2Proof.Machine
end

