-- ==== Sys2Proof/Machine/Switch.lean ====
section
/-! DEFINITION. Cascade (R200 to R228): the tiled buffer, limits, admission, back-pressure, mirroring, hand-over to internal
ports, and the local Ethernet ports. -/

namespace Sys2Proof.Machine

/-! ### Queues and limits (R203 to R207, R210) -/

/-- A stored frame by its number. -/
def State.sframe (s : State) (id : Nat) : Option SFrame := s.sw.frames.find? (fun f => f.id == id)

/-- Tiles charged to the queue of a port and class (SW_FILL). -/
def State.fill (s : State) (p c : Nat) : Nat :=
  ((s.sw.queues.filter (fun q => q.port == p && q.cls == c)).map (·.tiles)).sum

/-- The limit of a queue (SW_LIM). -/
def State.limit (s : State) (p c : Nat) : Nat := s.g (SW_LIM.LIMIT.at (p * 8 + c))

/-- The sum of the 88 limits (R205). -/
def State.limSum (s : State) : Nat := ((List.range 88).map (fun k => s.g (SW_LIM.LIMIT.at k))).sum

/-- Tiles of the queue pool in use. -/
def State.poolUsed (s : State) : Nat := (s.sw.frames.map (·.tiles)).sum

/-- The transit reserve of a class at a ring egress (R210). -/
def State.reserve (s : State) (c : Nat) : Nat :=
  if c = 7 ∨ c = 5 then 3 else if c = 6 then tilesFor (s.g RING_SUM.LEN + 52) else if c = 4 ∨ c = 3 then 5 else 65

/-- Whether a queue has room for a frame (R208, R210): a local frame at a ring egress leaves the transit reserve free. -/
def State.hasRoom (s : State) (p c tiles : Nat) (transit : Bool) : Bool :=
  decide (s.fill p c + tiles ≤ (if p < 4 && !transit then s.limit p c - s.reserve c else s.limit p c))

/-! ### The frames in the buffer -/

/-- A stored frame replaced. -/
def State.setSframe (s : State) (f : SFrame) : State :=
  { s with sw := { s.sw with frames := s.sw.frames.map (fun g => if g.id = f.id then f else g) } }

/-- A frame whose last copy has gone leaves the buffer; one that is still arriving stays. -/
def State.tidy (s : State) (id : Nat) : State :=
  if s.sw.queues.any (fun q => q.id == id) then s
  else { s with sw := { s.sw with frames := s.sw.frames.filter (fun f => f.id != id || f.cut) } }

/-- A frame stored with a copy queued at every target (R208): its number, and the state. `transit` tells which targets it passes in
transit. -/
def State.store (s : State) (inPort cls : Nat) (targets : List (Nat × Bool × Frame)) (f : Frame) (eth cut mirror : Bool)
    (bytes tIn : Nat) : Nat × State :=
  let id := s.sw.nextId
  let t := tilesFor bytes
  let sf : SFrame := ⟨id, f, eth, inPort, bytes, t, cut, [], false, false, mirror, none, tIn⟩
  (id, { s with sw := { s.sw with
    nextId := id + 1,
    frames := if targets = [] ∧ !cut then s.sw.frames else s.sw.frames ++ [sf],
    queues := s.sw.queues ++ targets.map (fun e => ⟨e.1, cls, t, e.2.1, id, e.2.2⟩) } })

/-! ### Mirroring (R226, R227) -/

/-- DEV_UID of the transmitter of the frames of a hop (R111): the neighbour's, as its HELLO gave it, or this node's own. -/
def State.hopUid (s : State) (p : Nat) (rx : Bool) : Nat := if rx then ((s.port p).nbr.map (·.uid)).getD 0 else Config.uid.toNat

/-- The bytes of a stored frame as it stands on the wire at a port, its trailer or FCS included; `bad` for a copy that ended stomped or with
an inverted FCS. -/
def State.wireBytes (s : State) (f : Frame) (eth : Bool) (port : Nat) (egress bad : Bool) : List Byte :=
  if eth then f.payload ++ (ethFcs f.payload).map (fun b => if bad then ~~~b else b)
  else frameWire (s.linkKey port f.an (!egress)) (s.hopUid port (!egress)) f bad

/-- The 48-bit source address of a mirror copy. -/
def mirrorHead (session port flags cls node tIn : Nat) : List Byte :=
  List.replicate 6 0xFF ++ [0x02, 0x59, 0x4E, 0x00] ++ bytesBE 2 node ++ bytesBE 2 0x88B5 ++ bytesBE 1 session ++
    bytesBE 1 port ++ bytesBE 1 flags ++ bytesBE 1 cls ++ bytesBE 4 tIn

/-- A frame with no Pelum header of its own: an Ethernet frame's bytes without FCS. -/
def ethFrame (cls : Nat) (bytes : List Byte) : Frame :=
  { dst := 0, src := 0, cls := cls, typ := 0, flow := 0, planeB := false, west := false, seq := 0, len := bytes.length, hops := 0,
    an := 0, rescorr := 0, pn := 0, turns := 0, sec := false, work := false, epoch := 0, payload := bytes }

/-- One mirror session's copy of a frame taken at a port: queued where the queue has room, else counted (R226). `source` names the stored
frame that the copy is taken from while its payload still arrives; its bytes are filled in as it ends. -/
def State.mirrorOne (s : State) (m : Nat) (f : Frame) (eth : Bool) (port cls tIn : Nat) (egress bad : Bool) (source : Option Nat) :
    State :=
  let src := s.rd (SW_MIR_SRC.off m)
  let dest := 4 + s.g (SW_MIR_CFG.DEST m)
  let mask := if egress then (SW_MIR_SRC.EG m).get src else (SW_MIR_SRC.IN m).get src
  if !s.flag (SW_MIR_CFG.EN m) || !mask.testBit port || port == dest then s
  else
    let snap := clampNat 64 2000 (s.g (SW_MIR_CFG.SNAP m))
    let w := s.wireBytes f eth port egress bad
    let len := if source.isSome then frameBytes f else w.length
    let w := if source.isSome then List.replicate len 0 else w
    let body := mirrorHead m port (b2n egress + 2 * b2n (decide (snap < len)) + 4 * b2n bad) cls s.node (tIn / 4 % 2 ^ 32) ++
      w.take snap
    let body := body ++ List.replicate (64 - body.length) 0
    let mc := s.g (SW_MIR_CFG.MCLASS m)
    let g := ethFrame mc body
    if s.flag (ETH_STAT.LINK (dest - 4)) && s.hasRoom dest mc (tilesFor (body.length + 4)) true then
      let (id, s) := s.store port mc [(dest, false, g)] g true source.isSome true (body.length + 4) tIn
      match s.sframe id with
      | some x => s.setSframe { x with source := source.map (fun k => (k, min snap len)) }
      | none => s
    else s.count SW_MIR_SKIP.off

/-- Every mirror session's copy of a frame taken at a port; a mirror copy is never mirrored again. -/
def State.mirror (s : State) (f : Frame) (eth mir : Bool) (port cls tIn : Nat) (egress bad : Bool) : State :=
  if mir then s else (List.range 4).foldl (fun s m => s.mirrorOne m f eth port cls tIn egress bad none) s

/-- Every mirror session's copy of a frame that is admitted while it still arrives (R226). -/
def State.mirrorCut (s : State) (f : Frame) (port id tIn : Nat) : State :=
  (List.range 4).foldl (fun s m => s.mirrorOne m f false port f.cls tIn false false (some id)) s

/-- The copies taken of a frame that still arrived filled in with its bytes, now that it has ended. -/
def State.mirrorFill (s : State) (id : Nat) (w : List Byte) : State :=
  (s.sw.frames.filter (fun g => g.source.any (fun k => k.1 == id))).foldl (fun s g =>
    let n := (g.source.map (·.2)).getD 0
    let pl := g.frame.payload.take 22 ++ slice w 0 n ++ g.frame.payload.drop (22 + n)
    let s := s.setSframe { g with frame := { g.frame with payload := pl }, cut := false, source := none }
    { s with sw := { s.sw with queues := s.sw.queues.map (fun (q : QEnt) =>
      if q.id = g.id then { q with hdr := { q.hdr with payload := pl } } else q) } }) s

/-! ### Flow control of the Ethernet ports (R222, R224) -/

/-- An ETH port's record. -/
def State.ethp (s : State) (n : Nat) : EthPort := SMap.get EthPort.dflt s.sw.eth n

/-- An ETH port's record replaced. -/
def State.setEthp (s : State) (n : Nat) (v : EthPort) : State :=
  { s with sw := { s.sw with eth := SMap.set EthPort.dflt s.sw.eth n v } }

/-- The frames waiting in a port's arrival FIFO (R222). -/
def State.fifoOf (s : State) (n : Nat) : List WEnt := s.sw.waiting.filter (fun w => w.inPort == 4 + n && w.eth)

/-- Free bytes of a port's 16 KiB arrival FIFO. -/
def State.fifoFree (s : State) (n : Nat) : Nat := 16384 - ((s.fifoOf n).map (·.bytes)).sum

/-- The PFC priority of a class (ETH_PRI_MAP). -/
def State.priOf (s : State) (n c : Nat) : Nat := bitsOf (s.g (ETH_PRI_MAP.PRI n)) (3 * c) 3

/-- The priorities that the conditions of R224 hold off now. -/
def State.xoffNeed (s : State) (n : Nat) : Nat :=
  let low := decide (s.fifoFree n < 256 * s.g (ETH_FC.XOFF_FREE n))
  let fc := s.g (ETH_CFG.FC n)
  if fc = 0 then 0
  else if low ∨ (fc = 1 ∧ s.fifoOf n ≠ []) then 0xFF
  else (s.fifoOf n).foldl (fun a w => a ||| 2 ^ s.priOf n w.cls) 0

/-- A flow-control frame sent (R224): PAUSE, or PFC for the priorities `pri`, with its quanta; counted. -/
def State.sendFc (s : State) (n pri quanta : Nat) : State :=
  (s.setEthp n { s.ethp n with lastFc := some ⟨s.g (ETH_CFG.FC n) == 2, pri, quanta⟩, fcAt := s.absNs }).count (ETH_PAUSE_TX.off n)

/-- Flow control of a port evaluated (R224): XOFF sent for what is newly to be held off, and quanta 0 once the FIFO has drained. -/
def State.ethXoff (s : State) (n : Nat) : State :=
  let held := s.g (ETH_STAT.XOFF n)
  let need := s.xoffNeed n
  if s.g (ETH_CFG.FC n) = 0 then s
  else if held ||| need ≠ held then (s.p (ETH_STAT.XOFF n) (held ||| need)).sendFc n need 0xFFFF
  else if held ≠ 0 ∧ s.fifoOf n = [] ∧ 256 * s.g (ETH_FC.XON_FREE n) ≤ s.fifoFree n then
    (s.p (ETH_STAT.XOFF n) 0).sendFc n held 0
  else s

/-! ### Admission (R208, R209, R212, R223) -/

/-- The targets of a frame with the Ethernet ports whose link is down removed (R223). -/
def State.liveTargets (s : State) (l : List Nat) : List Nat :=
  l.filter (fun p => p < 4 || 8 ≤ p || s.flag (ETH_STAT.LINK (p - 4)))

/-- SW_RATE.RATE of an internal port in use: 0 acts as 1 (R229). -/
def State.rateOf (s : State) (p : Nat) : Nat := max 1 (s.g (SW_RATE.RATE (p - 8)))

/-- The fill of an internal port's bucket now, in eightieths of a byte (R212). -/
def State.bucketNow (s : State) (p : Nat) : Nat :=
  let held := SMap.get (fun _ => 0) s.sw.bucket p
  let since := (s.absNs - SMap.get (fun _ => (0 : Int)) s.sw.bucketAt p).toNat
  min (32768 * 80) (held + since * s.rateOf p)

/-- Whether the rate limiter of an internal port lets a frame pass. -/
def State.rateOk (s : State) (p bytes : Nat) : Bool := p < 8 || decide (80 * bytes ≤ s.bucketNow p)

/-- The bytes of an admitted frame taken from its port's bucket. -/
def State.rateTake (s : State) (p bytes : Nat) : State :=
  if p < 8 then s
  else { s with sw := { s.sw with
    bucket := SMap.set (fun _ => 0) s.sw.bucket p (s.bucketNow p - 80 * bytes),
    bucketAt := SMap.set (fun _ => (0 : Int)) s.sw.bucketAt p s.absNs } }

/-- Tiles that leave an arrival pool of a ring port: FREED counts them, and the pool's use falls (R213). -/
def State.poolFree (s : State) (p pool tiles : Nat) : State :=
  let q := s.port p
  s.setPort p (if pool = 0 then { q with freedH := (q.freedH + tiles) % 256, arrH := q.arrH - tiles }
    else { q with freedL := (q.freedL + tiles) % 256, arrL := q.arrL - tiles })

/-- The header of a copy at a ring egress (R104, R117): where the port is turned, the turned header and the other port. The answer
is none where the copy is discarded, with the port whose counter counts it. -/
def State.turnCopy (s : State) (p : Nat) (f : Frame) : (Nat × Frame) ⊕ Nat :=
  if !s.flag (PORT_STAT.TURNED p) then .inl (p, f)
  else
    let o := otherPort p
    if s.flag (PORT_STAT.TURNED o) ∨ s.g (PORT_STAT.STATE o) ≠ 5 ∨ f.turns = 2 then .inr p
    else .inl (o, { f with west := !f.west, turns := f.turns + 1, hops := 0, epoch := s.g (PORT_RING.EPOCH (planeOf p)) })

/-- A frame as it leaves toward a ring port: plane and direction of that port (R90, R96). -/
def ringHdr (p : Nat) (f : Frame) : Frame := { f with planeB := decide (2 ≤ p), west := decide (p % 2 = 1) }

/-- The plane epoch of this node written into a frame it originates. -/
def State.stampEpoch (s : State) (p : Nat) (f : Frame) : Frame := { f with epoch := s.g (PORT_RING.EPOCH (planeOf p)) }

/-- The copies of a locally offered frame: at each target port, its header, with turned ring ports resolved; link-local frames keep
their port; a copy that R117 discards counts in PORT_TURN_DROP. -/
def State.localCopies (s : State) (f : Frame) (eth : Bool) (targets : List Nat) : List (Nat × Bool × Frame) × State :=
  targets.foldl (fun (acc : List (Nat × Bool × Frame) × State) p =>
    if p < 4 ∧ linkLocal f.typ then (acc.1 ++ [(p, false, acc.2.stampEpoch p (ringHdr p f))], acc.2)
    else if p < 4 ∧ !eth then
      match acc.2.turnCopy p (acc.2.stampEpoch p (ringHdr p f)) with
      | .inl (q, g) => (acc.1 ++ [(q, false, g)], acc.2)
      | .inr q => (acc.1, acc.2.count (PORT_TURN_DROP.off q))
    else (acc.1 ++ [(p, false, f)], acc.2)) ([], s)

/-- A frame that begins to wait for admission. -/
def State.pushWait (s : State) (w : WEnt) : State := { s with sw := { s.sw with waiting := s.sw.waiting ++ [w] } }

/-- The waiting frame at the front for an ingress port and class. -/
def State.waitHead (s : State) (inPort cls : Nat) : Option WEnt :=
  s.sw.waiting.find? (fun w => w.inPort == inPort && w.cls == cls)

/-- A waiting frame taken from its place; the tiles of an arrival pool are freed. -/
def State.dropWait (s : State) (w : WEnt) : State :=
  let s := { s with sw := { s.sw with waiting := s.sw.waiting.erase w } }
  match w.pool with
  | some k => s.poolFree w.inPort k (tilesFor w.bytes)
  | none => s

/-- The copies of a frame that came in on a ring port (R104, R117): each names an egress, its header with HOPS increased, and that it
passes in transit; the copy for an internal port keeps the header as received. -/
def State.transitCopies (s : State) (f : Frame) (targets : List Nat) : List (Nat × Bool × Frame) × State :=
  targets.foldl (fun (acc : List (Nat × Bool × Frame) × State) p =>
    if p < 4 then
      match acc.2.turnCopy p { f with hops := f.hops + 1 } with
      | .inl (q, g) => (acc.1 ++ [(q, true, g)], acc.2)
      | .inr q => (acc.1, acc.2.count (PORT_TURN_DROP.off q))
    else (acc.1 ++ [(p, false, f)], acc.2)) ([], s)

/-- The copies a waiting frame is admitted as. -/
def State.copiesOf (s : State) (w : WEnt) : List (Nat × Bool × Frame) × State :=
  if w.inPort < 4 then s.transitCopies w.frame w.targets else s.localCopies w.frame w.eth (s.liveTargets w.targets)

/-- Whether every queue of the copies has room for a frame of class `c` and `t` tiles. -/
def State.roomAll (s : State) (cs : List (Nat × Bool × Frame)) (c t : Nat) : Bool :=
  cs.all (fun e => s.hasRoom e.1 c t e.2.1)

/-- Whether every queue of a frame's target set has room, and the rate limiter lets it pass (R208, R212). -/
def State.canAdmit (s : State) (w : WEnt) : Bool :=
  s.rateOk w.inPort w.bytes && s.roomAll (s.copiesOf w).1 w.cls (tilesFor w.bytes)

/-! ### Ends of copies (R215 to R218) -/

/-- A frame counted once in SW_MC_PARTIAL, with its Note event (R218). -/
def State.partialCopy (s : State) (id : Nat) : State :=
  match s.sframe id with
  | some f =>
    if f.partialCounted then s
    else ((s.setSframe { f with partialCounted := true }).count SW_MC_PARTIAL.off).raise (evSw 4) clNote
  | none => s

/-- A copy taken from its queue. -/
def State.unqueue (s : State) (q : QEnt) : State := { s with sw := { s.sw with queues := s.sw.queues.erase q } }

/-- A copy that ended well. -/
def State.copyDone (s : State) (q : QEnt) : State :=
  match s.sframe q.id with
  | some f =>
    let s := (s.unqueue q).setSframe { f with delivered := true }
    let s := s.mirror q.hdr f.eth f.mirror q.port q.cls f.tIn true false
    s.tidy q.id
  | none => s.unqueue q

/-- Both reads of a tile mismatched as a copy was dequeued (R217): the frame is bad, the copy ends, later copies are discarded. `tile` is
the tile's index in the buffer; the manual does not say which tiles a frame takes, so the command brings it. -/
def State.tileBad (s : State) (q : QEnt) (tile : Nat) : State :=
  let rep := s.flag SW_STAT.VALID && s.g SW_STAT.TILE == tile
  let s := ((s.pb SW_STAT.VALID true).p SW_STAT.TILE tile).count SW_TILE_ERR.off
  let s := if rep then (s.pb SW_STAT.REPEAT true).raise (evSw 3) clDegraded else s.raise (evSw 3) clNote
  let s := s.unqueue q
  let del := (s.sframe q.id).any (·.delivered)
  let s := match s.sframe q.id with
    | some f => s.mirror q.hdr f.eth f.mirror q.port q.cls f.tIn true true
    | none => s
  let s := if del then s.partialCopy q.id else s
  ({ s with sw := { s.sw with queues := s.sw.queues.filter (fun e => e.id != q.id) } }).tidy q.id

/-- The copy of an extracted frame queued at an internal port is read for its block (R203, R217): its charge is released. The answer is false,
and the frame is discarded, where the read meets a bad tile. -/
def State.handOver (s : State) (p : Nat) (f : Frame) (bad : Option Nat) : Bool × State :=
  match s.sw.queues.find? (fun q => q.port == p && q.hdr.typ == f.typ && q.hdr.src == f.src && q.hdr.seq == f.seq &&
      q.hdr.cls == f.cls && q.hdr.flow == f.flow && (s.sframe q.id).any (fun f => !f.cut)) with
  | some q => match bad with
    | some t => (false, s.tileBad q t)
    | none => (true, s.copyDone q)
  | none => (true, s)

/-- A command that takes an extracted frame at the CPU port: `act`, unless the frame's tiles read bad. -/
def State.takeCpu (s : State) (f : Frame) (bad : Option Nat) (act : State → State) : State :=
  match s.handOver 8 f bad with
  | (true, s) => act s
  | (false, s) => s

/-- Whether a frame queued at an internal port is one that no command of its own takes (R215): at CPU an Ethernet, MGMT or BEST frame, for
firmware; at USB every frame. -/
def State.handsNow (s : State) (q : QEnt) : Bool :=
  (s.sframe q.id).any (fun f => !f.cut) &&
    (q.port == 10 || (q.port == 8 && ((s.sframe q.id).any (·.eth) || q.hdr.typ == tyMgmt || q.hdr.typ == tyBest)))

/-- A complete frame handed to CPU or USB as it is queued there, its tiles read (R203, R215, R217). -/
def State.handNow (s : State) (bad : Option Nat) : State :=
  (s.sw.queues.filter (fun q => s.handsNow q)).foldl (fun s q =>
    match bad with
    | some t => if s.sw.queues.contains q then s.tileBad q t else s
    | none =>
      let b := if (s.sframe q.id).any (·.eth) then q.hdr.payload else encHeader q.hdr ++ q.hdr.payload
      ({ s with sw := { s.sw with handed := SMap.set (fun _ => []) s.sw.handed q.port b } }).copyDone q) s

/-- The first waiting frame of an ingress port and class admitted whole, if every target has room (R208). -/
def State.admitFrame (s : State) (inPort cls : Nat) (bad : Option Nat) : State :=
  match s.waitHead inPort cls with
  | none => s
  | some w =>
    if !s.canAdmit w then s
    else
      let s := (s.dropWait w).rateTake w.inPort w.bytes
      let s := s.mirror w.frame w.eth false w.inPort w.cls w.tIn false false
      let (cs, s) := s.copiesOf w
      (s.store w.inPort w.cls cs w.frame w.eth false false w.bytes w.tIn).2.handNow bad

/-- FRAME_ADMIT (R208): the frame waiting first at an ingress port in a class; at an Ethernet port, its flow control follows (R224). -/
def frameAdmit (inPort : Fin 11) (cls : Fin 8) (bad : Option Nat) (s : State) : State :=
  let s := s.admitFrame inPort.val cls.val bad
  if 4 ≤ inPort.val ∧ inPort.val < 8 then s.ethXoff (inPort.val - 4) else s

/-! ### SW register writes (R205, R212, R228) -/

/-- A refused SW write. -/
def State.swRefuse (s : State) : Nat × State := (stCFG, s.cfgErr SW_CFGERR_CNT.off (evSw 1))

/-- A write of SW_LIM for queue `k` = 8 × port + class (R205). -/
def State.limWrite (s : State) (k : Nat) (new : Word) : Nat × State :=
  let sum := s.limSum - s.g (SW_LIM.LIMIT.at k) + SW_LIM.LIMIT.get new
  if 23552 < sum ∧ s.limSum < sum then s.swRefuse else (stOK, s.wr (bankKey SW_LIM.off k) new)

/-- A write that completes forwarding entry `e` (R228): refused where another valid entry holds its valid key. -/
def State.fwdWrite (s : State) (e : Nat) (lo hi ports : Word) : Nat × State :=
  let dup := SW_FWD_KEY_HI.VALID.get hi = 1 ∧ (s.listedBank SW_FWD_KEY_HI.off).any (fun x =>
    x.1 != e && x.2 == hi && s.rd (bankKey SW_FWD_KEY_LO.off x.1) == lo)
  if dup then s.swRefuse
  else (stOK, ((s.wr (bankKey SW_FWD_KEY_LO.off e) lo).wr (bankKey SW_FWD_KEY_HI.off e) hi).wr (bankKey SW_FWD_PORTS.off e) ports)

/-- A write of SW_RATEp (R212). -/
def State.swRateWrite (s : State) (k : Nat) (new : Word) : Nat × State :=
  let sum := ((List.range 3).map (fun j => if j = k then (SW_RATE.RATE k).get new else s.g (SW_RATE.RATE j))).sum
  let old := ((List.range 3).map (fun j => s.g (SW_RATE.RATE j))).sum
  if 200 < sum ∧ old < sum then s.swRefuse
  else
    let p := 8 + k
    let s := { s with sw := { s.sw with
      bucket := SMap.set (fun _ => 0) s.sw.bucket p (s.bucketNow p),
      bucketAt := SMap.set (fun _ => (0 : Int)) s.sw.bucketAt p s.absNs } }
    (stOK, s.wr (SW_RATE.off k) new)

/-! ### Ethernet ports (R219 to R225) -/

/-- The two bytes at a position of a frame as a number. -/
def be2 (l : List Byte) (i : Nat) : Nat := beAt l i 2

/-- Whether an Ethernet frame carries an IEEE 802.1Q tag. -/
def tagged (l : List Byte) : Bool := be2 l 12 == 0x8100

/-- EtherType of a frame, after its tag if it has one. -/
def etherType (l : List Byte) : Nat := if tagged l then be2 l 16 else be2 l 12

/-- The class of an Ethernet frame (R201). -/
def State.ethClass (s : State) (n : Nat) (l : List Byte) : Nat :=
  if tagged l then bitsOf (s.g (ETH_CLASS_MAP.PCP n)) (3 * (be2 l 14 / 8192)) 3 else s.g (ETH_CLASS_MAP.DEF n)

/-- The VID a lookup uses: 0 for an untagged frame (R221). -/
def ethVid (l : List Byte) : Nat := if tagged l then be2 l 14 % 4096 else 0

/-- The ports a mask of R229 names, the ingress port removed. -/
def maskPorts (mask inPort : Nat) : List Nat := (List.range 11).filter (fun p => 4 ≤ p && mask.testBit (p - 4) && p != inPort)

/-- The port mask the forwarding table gives for a frame: its entry's, or the flood mask of the port (R221). -/
def State.fwdMask (s : State) (n : Nat) (l : List Byte) : Nat :=
  let mac := beAt l 0 6
  let vid := ethVid l
  match (s.listedBank SW_FWD_KEY_HI.off).find? (fun e =>
    SW_FWD_KEY_HI.VALID.get e.2 == 1 && SW_FWD_KEY_HI.VID.get e.2 == vid && SW_FWD_KEY_HI.MAC.get e.2 == mac / 2 ^ 32 &&
      (s.rd (bankKey SW_FWD_KEY_LO.off e.1)).toNat == mac % 2 ^ 32) with
  | some e => s.g (SW_FWD_PORTS.DEST.at e.1)
  | none => s.g (ETH_FLOOD.DEST n)

/-- Whether a port runs: its domain is on, MODE is not 0 and its link is up. -/
def State.ethUp (s : State) (n : Nat) : Bool := s.domOn 9 && s.g (ETH_CFG.MODE n) != 0 && s.flag (ETH_STAT.LINK n)

/-- A good frame received at an ETH port offered to the ports of a mask, with its stamp in quarter ns (R208, R221). -/
def State.ethOffer (s : State) (n : Nat) (targets : List Nat) (bytes : List Byte) (len tIn : Nat) (bad : Option Nat) : State :=
  let c := s.ethClass n bytes
  (s.pushWait ⟨4 + n, c, targets, ethFrame c bytes, true, len, none, tIn⟩).admitFrame (4 + n) c bad

/-! ### PTP on Ethernet frames (R274 to R276) -/

/-- The place of the PTP message in an Ethernet frame, by the transports a port supports (R274). -/
def State.ptpAt (s : State) (n : Nat) (l : List Byte) : Option Nat :=
  let h := if tagged l then 18 else 14
  if !s.flag (TIME_PTP_CFG.EN n) then none
  else if etherType l = 0x88F7 ∧ s.flag (TIME_PTP_CFG.L2 n) then some h
  else if etherType l = 0x0800 ∧ s.flag (TIME_PTP_CFG.UDP4 n) ∧ beAt l (h + 9) 1 = 17 then
    let u := h + beAt l h 1 % 16 * 4
    if be2 l (u + 2) = 319 then some (u + 8) else none
  else none

/-- messageType of a PTP message. -/
def ptpType (l : List Byte) (k : Nat) : Nat := beAt l k 1 % 16

/-- Whether a message is an event message that is stamped (R274). -/
def ptpEvent (t : Nat) : Bool := decide (t < 4)

/-- A good PTP event message at position `k` of a received frame (R275, R276): to the CPU port followed by its 12-byte stamp, with the
event; in a transparent-clock mode the frame also goes where its lookup sends it. DEDUCED: in no other mode does the block forward it. -/
def State.ptpIn (s : State) (n k : Nat) (bytes : List Byte) (q : Nat) (bad : Option Nat) : State :=
  let (sec, ns, qns) := s.stampQ q
  let l := bytes ++ (bytesBE 6 sec ++ bytesBE 4 ns ++ bytesBE 2 qns)
  let t := s.now4 q
  let s := if ptpType bytes k = 2 then s.setEthp n { s.ethp n with pdelay := some (be2 bytes (k + 30), t) } else s
  let ts := (maskPorts (s.fwdMask n bytes) (4 + n)).filter (fun p => p != 8)
  let s := s.ethOffer n [8] l (l.length + 4) t bad
  let s := if s.g (TIME_PTP_CFG.TC n) ≠ 0 ∧ s.liveTargets ts ≠ [] then s.ethOffer n ts bytes (bytes.length + 4) t none else s
  State.raise (s.ethXoff n) (evEth n 3) clEvent

/-- What an ETH port does with a frame received with a right FCS and length (R221, R224, R275); `q` is its stamp's quarter ns. -/
def State.ethGood (s : State) (n : Nat) (bytes : List Byte) (q : Nat) (bad : Option Nat) : State :=
  if etherType bytes = 0x8808 then s
  else
    match (s.ptpAt n bytes).filter (fun k => ptpEvent (ptpType bytes k)) with
    | some k => s.ptpIn n k bytes q bad
    | none =>
      let ts := maskPorts (s.fwdMask n bytes) (4 + n)
      if s.liveTargets ts = [] then s.count (ETH_NOTGT.off n)
      else State.ethXoff (s.ethOffer n ts bytes (bytes.length + 4) (s.now4 q) bad) n

/-- A frame of `len` bytes, FCS included, counted at its ETH port (R230). -/
def State.ethRxCount (s : State) (n len : Nat) : State := (s.traffic (ETH_RX_BYTES_LO.off n) len).traffic (ETH_RX_FRAMES_LO.off n) 1

/-- ETH_FRAME_RECEIVE (R201, R220 to R223): a frame without its FCS arrives; `codeErr` marks a code violation, `fcsGood` a right
FCS. -/
def ethFrameReceive (n : Fin 4) (bytes : List Byte) (fcsGood codeErr : Bool) (bad : Option Nat) (s : State) : State :=
  let i := n.val
  let len := bytes.length + 4
  if !s.ethUp i then s
  else
    let s := s.ethRxCount i len
    if codeErr then s.count (ETH_CODE_ERR.off i)
    else if len < 64 ∨ 2048 < len then s.count (ETH_LEN_ERR.off i)
    else if !fcsGood then s.count (ETH_FCS_ERR.off i)
    else s.ethGood i bytes 0 bad

/-- PTP_EVENT_RECEIVE (R275): a good event message received at an ETH port; `q` is the quarter nanosecond of its stamp within the tick,
0 to 15. -/
def ptpEventReceive (n : Fin 4) (bytes : List Byte) (q : Fin 16) (bad : Option Nat) (s : State) : State :=
  if s.ethUp n.val ∧ (s.ptpAt n.val bytes).any (fun k => ptpEvent (ptpType bytes k)) ∧ 60 ≤ bytes.length ∧ bytes.length ≤ 2044 then
    (s.ethRxCount n.val (bytes.length + 4)).ethGood n.val bytes q.val bad
  else s

/-- The duration of a pause quantum, in tenths of a ns: 512 bit times of the line (R219, R224). -/
def quantum (mode : Nat) : Nat := if mode = 2 then 2048 else 5120

/-- A priority paused by the partner for `q` quanta, or released by quanta 0. -/
def State.pausePri (s : State) (n pri q : Nat) : State :=
  let e := s.ethp n
  let until_ : Int := if q = 0 then 0 else s.absNs + ((q * quantum (s.g (ETH_CFG.MODE n)) / 10 : Nat) : Int)
  s.setEthp n { e with pauseEnd := SMap.set (fun _ => (0 : Int)) e.pauseEnd pri until_ }

/-- Whether the partner pauses a priority now. -/
def State.paused (s : State) (n pri : Nat) : Bool := decide (s.absNs < SMap.get (fun _ => (0 : Int)) (s.ethp n).pauseEnd pri)

/-- PAUSE_FRAME_RECEIVE (R224): a PAUSE (`pfc` false, quanta first in the list) or PFC frame (enable vector and eight quanta). -/
def pauseFrameReceive (n : Fin 4) (pfc : Bool) (enable : Fin 256) (quanta : List Nat) (s : State) : State :=
  let i := n.val
  if !s.ethUp i then s
  else
    let s := s.count (ETH_PAUSE_RX.off i)
    let fc := s.g (ETH_CFG.FC i)
    if fc = 1 ∧ !pfc then (List.range 8).foldl (fun s q => s.pausePri i q (quanta.getD 0 0 % 65536)) s
    else if fc = 2 ∧ pfc then
      (List.range 8).foldl (fun s q => if enable.val.testBit q then s.pausePri i q (quanta.getD q 0 % 65536) else s) s
    else s

/-- XOFF_REPEAT (R224): a condition that persists repeats the flow-control frame every 5 ms. -/
def xoffRepeat (n : Fin 4) (s : State) : State :=
  let i := n.val
  if s.ethUp i ∧ s.g (ETH_CFG.FC i) ≠ 0 ∧ s.g (ETH_STAT.XOFF i) ≠ 0 ∧ s.xoffNeed i ≠ 0 ∧ 5000000 ≤ s.absNs - (s.ethp i).fcAt then
    s.sendFc i (s.xoffNeed i) 0xFFFF
  else s

/-- The copies queued to an ETH port whose link goes: each is discarded and counted, and its frame counts as partial where it was
admitted to other ports too (R218, R223). -/
def State.flushEth (s : State) (n : Nat) : State :=
  (s.sw.queues.filter (fun q => q.port == 4 + n)).foldl (fun s q =>
    let multi := (s.sw.queues.any (fun e => e.id == q.id && e.port != q.port)) || (s.sframe q.id).any (·.delivered)
    let s := if multi then s.partialCopy q.id else s
    ((s.unqueue q).count SW_LINK_DROP.off).tidy q.id) s

/-- The PAUSE abilities that Clause 37 advertises (R219). DESIGN CHOICE: both with FC = 1, none else. -/
def State.pauseAbility (s : State) (n : Nat) : Nat := if s.g (ETH_CFG.FC n) = 1 then 3 else 0

/-- An ETH port leaves link up (R223). -/
def State.ethDown (s : State) (n : Nat) : State :=
  if !s.flag (ETH_STAT.LINK n) then s
  else
    let s := ((s.pb (ETH_STAT.LINK n) false).pb (ETH_STAT.AN_DONE n) false).p (ETH_STAT.LP_PAUSE n) 0
    let s := (s.setEthp n { s.ethp n with pauseEnd := [] }).flushEth n
    s.raise (evEth n 1) clEvent

/-- ETH_LINK_DOWN (R223). -/
def ethLinkDown (n : Fin 4) (s : State) : State := s.ethDown n.val

/-- ETH_LINK_UP (R219, R223): the link returns; with Clause 37 in use, `lpPause` is the partner's PAUSE ability. -/
def ethLinkUp (n : Fin 4) (lpPause : Fin 4) (s : State) : State :=
  let i := n.val
  if !s.domOn 9 ∨ s.g (ETH_CFG.MODE i) = 0 ∨ s.flag (ETH_STAT.LINK i) then s
  else
    let an := s.g (ETH_CFG.MODE i) = 1 ∧ s.flag (ETH_CFG.AN i)
    let s := s.pb (ETH_STAT.LINK i) true
    let s := if an then
        ((s.pb (ETH_STAT.AN_DONE i) true).p (ETH_STAT.LP_PAUSE i) lpPause.val).setEthp i { s.ethp i with advert := some (s.pauseAbility i) }
      else s
    s.raise (evEth i 1) clEvent

/-- A write of ETH_MDIO_CMD (R225). -/
def State.mdioWrite (s : State) (n : Nat) (new eff : Word) : Nat × State :=
  if s.flag (ETH_MDIO_STAT.BUSY n) then (stOK, s.pb (ETH_MDIO_STAT.OVR n) true)
  else
    let s := s.wr (ETH_MDIO_CMD.off n) new
    if eff.getLsbD 31 then
      let op := s.g (ETH_MDIO_CMD.OP n)
      let read := if s.flag (ETH_MDIO_CMD.C45 n) then decide (2 ≤ op) else op == 2
      (stOK, (s.pb (ETH_MDIO_STAT.BUSY n) true).setEthp n { s.ethp n with mdio := some read })
    else (stOK, s)

/-- MDIO_DONE (R225): the frame in progress completes; `data` is what a PHY answered, none where none did. -/
def mdioDone (n : Fin 4) (data : Option (BitVec 16)) (s : State) : State :=
  match (s.ethp n.val).mdio with
  | none => s
  | some read =>
    let s := (s.setEthp n.val { s.ethp n.val with mdio := none }).pb (ETH_MDIO_STAT.BUSY n.val) false
    let s := if read then s.p (ETH_MDIO_STAT.DATA n.val) ((data.map (·.toNat)).getD 0xFFFF) else s
    s.raise (evEth n.val 2) clEvent

/-- A write of ETH_CFG (R219, R228, R230). -/
def State.ethCfgWrite (s : State) (n : Nat) (new : Word) : Nat × State :=
  if (ETH_CFG.MODE n).get new = 3 ∨ (ETH_CFG.FC n).get new = 3 then (stCFG, s)
  else
    let old := s.rd (ETH_CFG.off n)
    let restart := (ETH_CFG.MODE n).get new ≠ (ETH_CFG.MODE n).get old ∨ (ETH_CFG.AN n).get new ≠ (ETH_CFG.AN n).get old
    let stop := (ETH_CFG.FC n).get new = 0 ∧ s.g (ETH_STAT.XOFF n) ≠ 0
    let s := if stop then (s.p (ETH_STAT.XOFF n) 0).sendFc n (s.g (ETH_STAT.XOFF n)) 0 else s
    let s := s.wr (ETH_CFG.off n) new
    (stOK, if restart then s.ethDown n else s)

/-- The time from an ingress stamp to a departure `q` quarter ns after the tick, in 2^-16 ns (R109, R276). -/
def State.sinceIn (s : State) (tIn q : Nat) : Int := signedOf 50 (s.now4 q + 2 ^ 50 - tIn % 2 ^ 50) * 16384

/-! ### PTP messages sent (R275, R276) -/

/-- Bytes of a list from position `i` replaced. -/
def putBytes (l : List Byte) (i : Nat) (b : List Byte) : List Byte := l.take i ++ b ++ l.drop (i + b.length)

/-- The correctionField of a message with an amount in 2^-16 ns added (R276). -/
def addCorrection (l : List Byte) (k : Nat) (d : Int) : List Byte :=
  putBytes l (k + 8) (bytesBE 8 (wrapInt 64 ((beAt l (k + 8) 8 : Int) + d)))

/-- The UDP checksum of a message over IPv4 set to 0 (R276). -/
def zeroUdp (l : List Byte) (k : Nat) : List Byte := if etherType l = 0x0800 then putBytes l (k - 2) [0, 0] else l

/-- What an egress does to a PTP event message it sends (R275, R276): the bytes sent, and the state with a two-step stamp stored. The
turnaround that a Pdelay_Resp takes runs from the stamp of the Pdelay_Req with its sequenceId, the last that the port received; DESIGN
CHOICE: to a response that answers no such request nothing is added.
`q` is the departure's quarter nanosecond within the tick. -/
def State.ptpSend (s : State) (n : Nat) (f : SFrame) (l : List Byte) (q : Nat) : List Byte × State :=
  match s.ptpAt n l with
  | none => (l, s)
  | some k =>
    let t := ptpType l k
    let (sec, ns, qns) := s.stampQ q
    if !ptpEvent t then (l, s)
    else if 4 ≤ f.inPort ∧ f.inPort < 8 ∧ s.g (TIME_PTP_CFG.TC n) ≠ 0 then
      let res := s.sinceIn f.tIn q
      let d := if s.g (TIME_PTP_CFG.TC n) = 2 then res + (s.g (TIME_PTP_LDLY.LDLY (f.inPort - 4)) * 4096 : Nat) else res
      (zeroUdp (addCorrection l k d) k, s)
    else if f.inPort ≠ 8 then (l, s)
    else if s.flag (TIME_PTP_CFG.ONESTEP n) ∧ t = 0 then
      (zeroUdp (putBytes l (k + 34) (bytesBE 6 sec ++ bytesBE 4 ns)) k, s)
    else if s.flag (TIME_PTP_CFG.ONESTEP n) ∧ t = 3 then
      match (s.ethp n).pdelay with
      | some (seq, tIn) => (zeroUdp (if seq = be2 l (k + 30) then addCorrection l k (s.sinceIn tIn q) else l) k, s)
      | none => (zeroUdp l k, s)
    else (l, s.ptpStore n ⟨sec % 2 ^ 32, ns, qns, t, be2 l (k + 30)⟩)

/-- The copy an ETH egress sends next: highest class whose priority is not paused, in admission order (R215). -/
def State.ethNext (s : State) (n : Nat) : Option QEnt :=
  [7, 6, 5, 4, 3, 2, 1, 0].findSome? (fun c =>
    if s.paused n (if s.g (ETH_CFG.FC n) = 2 then s.priOf n c else c) then none
    else s.sw.queues.find? (fun q => q.port == 4 + n && q.cls == c && (s.sframe q.id).any (fun f => !f.cut)))

/-- ETH_EGRESS_SEND (R215, R217, R275, R276): a free Ethernet egress sends its next frame; `q` is the departure's quarter
nanosecond, `bad` the tile whose two reads mismatched, if one did. -/
def ethEgressSend (n : Fin 4) (q : Fin 16) (bad : Option Nat) (s : State) : State :=
  let i := n.val
  if !s.ethUp i then s
  else
    match s.ethNext i with
    | none => s
    | some e =>
      match bad with
      | some t =>
        let l := e.hdr.payload
        (s.setEthp i { s.ethp i with lastSent := l ++ (ethFcs l).map (fun b => ~~~b) }).tileBad e t
      | none =>
        match s.sframe e.id with
        | none => s
        | some f =>
          let (l, s) := s.ptpSend i f e.hdr.payload q.val
          let s := (s.traffic (ETH_TX_BYTES_LO.off i) (l.length + 4)).traffic (ETH_TX_FRAMES_LO.off i) 1
          (s.setEthp i { s.ethp i with lastSent := l ++ ethFcs l }).copyDone e

end Sys2Proof.Machine
end

