-- ==== Sys2Proof/Machine/Cycle.lean ====
section
/-! DEFINITION. The ring cycle (R131 to R157): windows, the summation train, publication and subscription, mastership, and the
writes of the RING registers. -/

namespace Sys2Proof.Machine

/-! ### Cycles and windows (R131 to R134) -/

/-- The number of the cycle that holds the present. -/
def State.cycleNow (s : State) : Nat := (s.fns / (s.periodNs : Int)).toNat

/-- The instant at which the cycle that holds the present began. -/
def State.cycleBegan (s : State) : Int := s.fns - s.fns % (s.periodNs : Int)

/-- ns from the start of the present cycle. -/
def State.cycOff (s : State) : Nat := (s.fns % (s.periodNs : Int)).toNat

/-- Window lengths in ns. -/
def State.winS (s : State) : Nat := 125 * s.g RING_ACT_S.LEN
def State.winC (s : State) : Nat := 125 * s.g RING_ACT_C.LEN
def State.winW (s : State) : Nat := 125 * s.g RING_ACT_W.LEN
def State.winT (s : State) : Nat := 125 * s.g RING_ACT_T.LEN
def State.winG (s : State) : Nat := 125 * s.g RING_ACT_G.LEN

/-- Whether the present lies from `a` up to `b` ns in its cycle. -/
def State.inWin (s : State) (a b : Nat) : Bool := decide (a ≤ s.cycOff ∧ s.cycOff < b)

/-- Whether a frame may start at ring port `p` now (R107, R133, R134): `transit` is a frame in passing. -/
def State.mayStart (s : State) (p : Nat) (f : Frame) (transit : Bool) : Bool :=
  let launch := s.inWin s.winS (s.winS + s.winC + s.winW - s.winG)
  if f.typ = tyHello ∨ f.typ = tyLdlyReq ∨ f.typ = tyLdlyRsp ∨ f.typ = tyRingState then true
  else if f.cls ≥ 5 ∧ transit then true
  else if f.typ = tySync then s.inWin 0 s.winS
  else if f.typ = tySummation then s.inWin s.winS (s.winS + s.winC)
  else if f.cls ≥ 5 then launch
  else
    let open_ := s.winS + s.winC + s.winW + (if f.cls ≤ 2 then s.winT else 0)
    let dur := s.wireLen p f * byteTime (s.g (PORT_CFG.MODE p))
    decide (open_ ≤ s.cycOff) && decide (s.cycOff * 100 + dur ≤ s.periodNs * 100)

/-! ### Roles (R146, R147, R157) -/

/-- No master or backup. -/
def noNode : Nat := 0xFFFF

def State.curM (s : State) : Nat := s.g RING_ROLE.MASTER
def State.curB (s : State) : Nat := s.g RING_ROLE.BACKUP

/-- Whether the node takes part in cycles. -/
def State.ringEn (s : State) : Bool := s.flag RING_CFG.EN

/-- Whether the node is eligible as cycle master (R146). -/
def State.eligible (s : State) : Bool :=
  s.ringEn && s.flag RING_CFG.ELIG && (s.g (PORT_STAT.STATE 0) == 5 || s.g (PORT_STAT.STATE 1) == 5) &&
    s.present clSevere == 0 && s.present clGrave == 0

/-- ROLE codes of RING_STAT. -/
def roOff : Nat := 0
def roJoining : Nat := 1
def roMember : Nat := 2
def roBackup : Nat := 3
def roMaster : Nat := 4
def roCandidate : Nat := 5

/-- ROLE by what the node holds (R157). -/
def State.roleNow (s : State) : Nat :=
  if !s.ringEn then roOff
  else if s.curM = s.node then roMaster
  else if s.cyc.cand ∧ s.cyc.launching then roCandidate
  else if s.curB = s.node then roBackup
  else if s.curM = noNode then roJoining
  else roMember

/-- RING_STAT.ROLE, and DEV_NODE.MASTER and BACKUP, which follow it (R147). -/
def State.setRole (s : State) : State :=
  let r := s.roleNow
  ((s.p RING_STAT.ROLE r).pb DEV_NODE.MASTER (r == roMaster)).pb DEV_NODE.BACKUP (r == roBackup)

/-- The current master changes: counted, with a Note event (R147). -/
def State.setMaster (s : State) (m : Nat) : State :=
  if m = s.curM then s
  else (((s.p RING_ROLE.MASTER m).count RING_MASTER_CHG.off).raise (evRing 2) clNote).setRole

/-- The cycle record changed. -/
def State.cy (s : State) (f : Cycle → Cycle) : State := { s with cyc := f s.cyc }

/-! ### Cycle start (R131, R149 to R151, R305, R314) -/

/-- The active unit (R308). -/
def State.active (s : State) : Nat := s.g FH_STAT.ACTIVE

/-- Whether a unit runs: released, on, and not halted. -/
def State.unitRuns (s : State) (u : Nat) : Bool :=
  s.domOn (u + 1) && !s.fh.halted.contains u && (s.unit u == fhActive || (s.unit u == fhRestore && s.fh.resumed == some u))

/-- The zone program whose time runs (R305): the one that FH_ZP_RUN names while the active unit runs in user mode. DEDUCED: the mode is
that of its last voted step. -/
def State.zoneRuns (s : State) : Option Nat :=
  if s.flag FH_ZP_RUN.VALID && s.unitRuns s.active && s.fh.zoneUser == some s.active then some (s.g FH_ZP_RUN.PROG) else none

/-- The fabric time in ns that a zone program has used in the present cycle (R305). -/
def State.zoneNs (s : State) (n : Nat) : Nat :=
  SMap.get (fun _ => 0) s.fh.zoneAcc n + (if s.zoneRuns = some n then (s.fns - s.fh.zoneAt).toNat else 0)

/-- The time of the running zone program accumulated up to now. -/
def State.zoneAccrue (s : State) : State :=
  { s with fh := { s.fh with
      zoneAcc := match s.zoneRuns with
        | some n => SMap.set (fun _ => 0) s.fh.zoneAcc n (s.zoneNs n)
        | none => s.fh.zoneAcc,
      zoneAt := s.fns } }

/-- FH_ZPn_STAT.USED: the time used in thousandths of P, saturating at 1,000 (R308). -/
def State.zoneUsed (s : State) (n : Nat) : Nat := min 1000 (s.zoneNs n * 1000 / s.periodNs)

/-- The 16 zone programs at a cycle boundary (R305): the accumulated time returns to 0, OVR shows the cycle that ends, and consecutive
overruns are kept or ended. -/
def State.zoneBoundary (s : State) : State :=
  let s := (List.range 16).foldl (fun s n =>
    let ovr := s.fh.zoneOver.contains n
    let s := s.pb (FH_ZP_STAT.OVR n) ovr
    if ovr then s else s.p (FH_ZP_STAT.RUNOVR n) 0) s
  { s with fh := { s.fh with zoneAcc := [], zoneAt := s.cyc.began, zoneOver := [] } }

/-- A new cycle begins (R131): its number, its sets empty, hand-offs and stops due, budgets returned, bindings confirmed. -/
def State.cycleBegin (s : State) (n : Nat) : State :=
  let s := s.p RING_CYCLE.CYCLE n
  let s := s.cy (fun c => { c with
    num := n, began := s.cycleBegan, closed := false, synced := false, accMin := none, taken := [], gotE := [], gotW := [], frames := 0, got0 := false, errDone := false, returned := [], launchAt := none })
  let s := if s.cyc.beaten ∨ s.cyc.stopNext then
      s.cy (fun c => { c with launching := false, cand := c.cand && !c.beaten, beaten := false, stopNext := false })
    else s
  let s := match s.cyc.special with
    | some fl =>
      let s := s.cy (fun c => { c with special := none })
      if s.ringEn then
        (s.cy (fun c => { c with hdrBackup := noNode, hdrFlags := fl, launching := true, cand := false })).setMaster s.node
      else s
    | none => s
  let s := s.setRole
  let s := { s.zoneBoundary with sump := { s.zoneBoundary.sump with alarmSent := 0 } }
  s.boundIns.foldl (fun s k => s.pinConfirm k) s

/-- CYCLE_APPLY_AT (R135): at the apply time the captured set replaces the active one. -/
def cycleApplyAt (s : State) : State :=
  match s.cyc.pend with
  | some a =>
    if s.past a.at_ then
      let s := (((((s.p RING_ACT_CYC.K a.k).p RING_ACT_S.LEN a.sw).p RING_ACT_C.LEN a.cw).p RING_ACT_W.LEN a.ww).p RING_ACT_T.LEN
        a.tw).p RING_ACT_G.LEN a.g
      ((s.cy (fun c => { c with pend := none })).pb RING_STAT.APPLY_PEND false).raise (evRing 8) clEvent
    else s
  | none => s

/-- CYCLE_START (R131, R154): the boundary of a cycle that has not begun yet; a set whose apply time has come governs that cycle. -/
def cycleStart (s : State) : State :=
  let s := cycleApplyAt s
  if s.cycleBegan = s.cyc.began then s else s.cycleBegin s.cycleNow

/-! ### Publication (R139, R141, R156) -/

/-- One record as a slice carries it: after the freshness check; a READSENS point as VALUE 0, FAULT; UNDEF as zeros (R141). -/
def State.pubRec (s : State) (i : Nat) : List Byte × State :=
  let s := s.freshRead i
  let r := s.pt i
  (if r.typ = tyReadsens then { r with value := 0, qual := qFault : PRec }.bytes else r.bytes, s)

/-- The publication ranges in range order: first point and count. -/
def State.pubRanges (s : State) : List (Nat × Nat) :=
  (List.range 16).filterMap (fun k =>
    if s.flag (RING_PUB_CFG.VALID.at k) then some (s.g (RING_PUB_CFG.FIRST.at k), s.g (RING_PUB_CFG.COUNT.at k)) else none)

/-- The records of the node's slice. -/
def State.sliceRecs (s : State) : List Byte × Nat × State :=
  s.pubRanges.foldl (fun (acc : List Byte × Nat × State) e =>
    (List.range e.2).foldl (fun (acc : List Byte × Nat × State) k =>
      let (b, s) := acc.2.2.pubRec (e.1 + k)
      (acc.1 ++ b, acc.2.1 + 1, s)) acc) ([], 0, s)

/-- The slice header (R139). -/
def sliceHead (node count cycle insert : Nat) : List Byte :=
  bytesBE 2 node ++ bytesBE 1 count ++ bytesBE 1 0 ++ bytesBE 4 cycle ++ bytesBE 6 insert ++ bytesBE 2 0

/-- The insert into a passing or launched frame's payload (R141): the payload, and the state. -/
def State.insert (s : State) (pl : List Byte) : List Byte × State :=
  let at_ := 32 + 16 * s.g RING_SLOT.OFFSET
  if !s.flag RING_SLOT.VALID ∨ s.flag RING_STAT.SLOT_ERR ∨ beAt pl 12 2 % 1024 ≠ s.g RING_SLOT.FRAME then (pl, s)
  else
    let owner := beAt pl at_ 2
    if owner = 0 then
      let (recs, n, s) := s.sliceRecs
      (putBytes pl at_ (sliceHead s.node n (s.cyc.num % 2 ^ 32) s.fns48 ++ recs), s)
    else if owner = s.node ∧ beAt pl (at_ + 4) 4 = s.cyc.num % 2 ^ 32 then (pl, s)
    else (pl, (s.count RING_SLICE_ERR.off).raise (evRing 4) clNote)

/-! ### The train (R137, R138) -/

/-- FLAGS of the summation header. -/
def flHandoff : Nat := 1
def flTakeover : Nat := 2

/-- The summation header at launch (R138). -/
def sumHead (cycle master backup index frames k flags mapId : Nat) : List Byte :=
  bytesBE 4 cycle ++ bytesBE 2 master ++ bytesBE 2 backup ++ bytesBE 2 0xFFFF ++ bytesBE 2 0xFFFF ++ bytesBE 2 index ++
    bytesBE 2 frames ++ bytesBE 1 k ++ bytesBE 1 flags ++ bytesBE 2 0 ++ bytesBE 4 mapId ++ List.replicate 8 0

/-- One frame of the train offered out of PA_E and PA_W (R137). -/
def State.launchOne (s : State) (idx : Nat) : State :=
  let n := s.cyc.num
  let frames := s.g RING_SUM.FRAMES
  let pl := sumHead (n % 2 ^ 32) s.node s.cyc.hdrBackup idx frames (s.g RING_ACT_CYC.K) s.cyc.hdrFlags (s.g RING_MAP.MAP_ID) ++
    List.replicate (s.g RING_SUM.LEN - 32) 0
  let (pl, s) := s.insert pl
  let f := s.mkFrame tySummation 6 0xFFFF 0 (n % 2 ^ 22 * 1024 + idx) false pl
  (s.offerTo 8 [0] f).offerTo 8 [1] f

/-- SUMMATION_LAUNCH (R137, R149 to R151): the opening of the cyclic window at a node that launches. -/
def summationLaunch (s : State) : State :=
  if !s.ringEn ∨ !s.cyc.launching ∨ s.cyc.launchAt.isSome ∨ !s.inWin s.winS (s.winS + s.winC) then s
  else
    let s := (s.cy (fun c => { c with launchAt := some s.fns, stopNext := c.hdrFlags == flHandoff })).pb RING_STAT.HANDOFF false
    let s := (List.range (s.g RING_SUM.FRAMES)).foldl State.launchOne s
    s.cy (fun c => { c with hdrFlags := 0 })

/-! ### A passing summation frame (R140 to R142, R147, R148) -/

/-- Whether a train's MASTER is accepted (R147), and the state with it accepted. -/
def State.trainAccept (s : State) (m : Nat) : Bool × State :=
  let higher := match s.cyc.accMin with
    | some a => decide (a < m)
    | none => false
  if higher then (false, s.count RING_LATE_CNT.off)
  else if m ≤ s.curM ∨ m = s.curB ∨ s.curM = noNode then
    let s := if s.cyc.accMin = some m then s else s.cy (fun c => { c with accMin := some m, gotE := [], gotW := [], frames := 0 })
    (true, s.setMaster m)
  else (false, s)

/-- The claims after this node's update (R148). -/
def claimUpdate (me c1 c2 : Nat) : Nat × Nat :=
  if c1 = me ∨ c2 = me then (c1, c2) else if me < c1 then (me, c1) else if me < c2 then (c1, me) else (c1, c2)

/-- What an accepted INDEX 0 frame does (R147 to R149, R151): its payload with claims, and the state. -/
def State.index0 (s : State) (f : Frame) (pl : List Byte) (m : Nat) : List Byte × State :=
  let me := s.node
  let off := s.cycOff
  let s := if s.cyc.got0 then s else s.p RING_PASS.OFFSET off
  let s := s.cy (fun c => { c with got0 := true, noMaster := 0 })
  let s := s.p RING_ROLE.BACKUP (beAt pl 6 2)
  let s := if s.cyc.launching ∧ m < me then s.cy (fun c => { c with beaten := true }) else s
  let s := if bitOf (beAt pl 17 1) 0 ∧ beAt pl 6 2 = me ∧ m ≠ me then
      (s.pb RING_STAT.HANDOFF true).cy (fun c => { c with special := some 0 })
    else s
  let cl := claimUpdate me (beAt pl 8 2) (beAt pl 10 2)
  let pl := if m ≠ me ∧ s.eligible then putBytes pl 8 (bytesBE 2 cl.1 ++ bytesBE 2 cl.2) else pl
  let s := if f.src = me ∧ m = me ∧ (f.turns = 0 ∨ f.turns = 2) then
      let s := s.cy (fun c => { c with returned := c.returned ++ [(beAt pl 8 2, beAt pl 10 2)] })
      match s.cyc.launchAt with
      | some t =>
        if s.cyc.returned.length = 2 then
          let lap := (s.fns - t).toNat
          (s.p RING_LAP.LAP lap).p RING_LAP_MAX.LAP (max lap (s.g RING_LAP_MAX.LAP))
        else s
      | none => s
    else s
  (pl, s.setRole)

/-- The subscriptions that a frame serves (R142): each is staged until the trailer verifies, skipped or counted. -/
def State.stageSubs (s : State) (p : Nat) (pl : List Byte) : State :=
  (s.listedBank RING_SUB_NODE.off).foldl (fun s e =>
    let k := e.1
    if RING_SUB_NODE.VALID.get e.2 = 0 ∨ s.g (RING_SUB_SLOT.FRAME.at k) ≠ beAt pl 12 2 % 1024 then s
    else
      let at_ := 32 + 16 * s.g (RING_SUB_SLOT.OFFSET.at k)
      let first := s.g (RING_SUB_SLOT.FIRST.at k)
      let cnt := s.g (RING_SUB_DST.COUNT.at k)
      if beAt pl at_ 2 = 0 then s
      else if beAt pl at_ 2 ≠ RING_SUB_NODE.NODE.get e.2 ∨ beAt pl (at_ + 2) 1 < first + cnt then s.count RING_SLICE_ERR.off
      else if beAt pl (at_ + 4) 4 ≠ beAt pl 0 4 then s
      else
        let recs := (List.range cnt).map (fun j => slice pl (at_ + 16 + 16 * (first + j)) 16)
        s.cy (fun c => { c with staged := c.staged ++ [⟨p, k, s.g (RING_SUB_DST.POINT.at k), recs⟩] })) s

/-- One extracted record written into its local point (R142), its VALUE checked as every write is (R55). -/
def State.extractRec (s : State) (i : Nat) (b : List Byte) : State :=
  let r := s.pt i
  if b.getD 15 0 = BitVec.ofNat 8 r.typ then
    if r.typ = tyUndef then s
    else if !encOk r.typ (natLE (slice b 0 8)) then (s.p PNT_STAT.LAST_ERR stTYPE).count PNT_REJECT_CNT.off
    else ((s.touchTile (i / 16)).putRec i
      { r with value := BitVec.ofNat 64 (natLE (slice b 0 8)), stamp := natLE (slice b 8 6), qual := (b.getD 14 0).toNat }).refreshPt i
  else (if r.typ = tyUndef then s else (s.setQual i qFault).refreshPt i).count RING_SLICE_ERR.off

/-- The tile of a point that an extract is to be written into, where the array gives wrong bytes for it as it enters the cache: R84 up to
step 3, before the extract (R85, R154). -/
def State.tileReadsWrong (s : State) (tile : Option (Fin 16384)) (i : Nat) : State :=
  if tile.any (fun t => t.val == i / 16) && !s.pts.cache.contains (i / 16) then (s.verifyTile (i / 16) true true).pushTile (i / 16) else s

/-- The extracts staged from a port's frame: written where its trailer has verified and the entry has no copy yet in this cycle
(R142, R216), else dropped. `tile` names a tile that the array reads wrongly. -/
def State.endExtracts (s : State) (p : Nat) (good : Bool) (tile : Option (Fin 16384)) : State :=
  let l := s.cyc.staged.filter (fun e => e.port == p)
  let s := s.cy (fun c => { c with staged := c.staged.filter (fun e => e.port != p) })
  if !good then s
  else l.foldl (fun s e =>
    if s.cyc.taken.contains e.entry then s
    else
      let s := s.cy (fun c => { c with taken := e.entry :: c.taken })
      (List.range e.recs.length).foldl (fun s j => (s.tileReadsWrong tile (e.point + j)).extractRec (e.point + j) (e.recs.getD j [])) s) s

/-- A passing summation frame at port `p` (R140): its payload as it leaves, and the state. -/
def State.sumPass (s : State) (p : Nat) (f : Frame) : List Byte × State :=
  let pl := f.payload
  let kerr := beAt pl 16 1 % 16 ≠ s.g RING_ACT_CYC.K
  let merr := beAt pl 20 4 ≠ s.g RING_MAP.MAP_ID
  if !s.ringEn ∨ f.planeB then (pl, s)
  else if kerr ∨ merr then
    let s := if kerr then s.pb RING_STAT.K_ERR true else s
    let s := if merr then s.pb RING_STAT.MAP_ERR true else s
    let s := if beAt pl 0 4 ≠ s.cyc.num % 2 ^ 32 then s.count RING_LATE_CNT.off else s
    (pl, if s.cyc.errDone then s else (s.cy (fun c => { c with errDone := true })).raise (evRing 3) clDegraded)
  else if beAt pl 0 4 ≠ s.cyc.num % 2 ^ 32 then (pl, s.count RING_LATE_CNT.off)
  else
    let m := beAt pl 4 2
    let (ok, s) := s.trainAccept m
    if !ok then (pl, s)
    else
      let s := if s.winS + s.winC ≤ s.cycOff then s.count RING_LATE_CNT.off else s
      let idx := beAt pl 12 2 % 1024
      let east := f.west == decide (f.turns % 2 = 1)
      let s := if m = s.curM then s.cy (fun c =>
          let c := if east then { c with gotE := if c.gotE.contains idx then c.gotE else idx :: c.gotE }
            else { c with gotW := if c.gotW.contains idx then c.gotW else idx :: c.gotW }
          { c with frames := beAt pl 14 2 % 2048 }) else s
      let (pl, s) := if idx = 0 then s.index0 f pl m else (pl, s)
      let (pl, s) := s.insert pl
      (pl, s.stageSubs p pl)

/-- The payload of a frame in passing replaced, in the copies of it that are stored and in the port's receiver. -/
def State.passPayload (s : State) (p : Nat) (pl : List Byte) : State :=
  let q := s.port p
  match q.rx with
  | some r => s.setPort p { q with rx := some { r with frame := { r.frame with payload := pl }, passed := true } }
  | none => s

/-- SUMMATION_FRAME_PASS (R140 to R142, R147, R148): the summation frame being received at a ring port passes. -/
def summationFramePass (p : Fin 4) (f : Frame) (s : State) : State :=
  if f.typ ≠ tySummation then s
  else
    let (pl, s) := s.sumPass p.val f
    s.passPayload p.val pl

/-! ### The close of the cyclic window (R143, R149, R150) and joining (R151) -/

/-- The lowest of the claims that returned, this node's own and empty ones left out (R149). -/
def State.lowestClaim (s : State) : Nat :=
  (s.cyc.returned.foldl (fun l e => l ++ [e.1, e.2]) []).foldl (fun a c => if c = s.node then a else min a c) noNode

/-- BACKUP and FLAGS of the next cycle's header (R149). -/
def State.nextHeader (s : State) : Nat × Nat :=
  let b := s.cyc.hdrBackup
  let l1 := s.lowestClaim
  if !s.eligible ∧ b ≠ noNode then (b, flHandoff)
  else if !s.eligible ∧ l1 ≠ noNode then (l1, flHandoff)
  else if s.cyc.returned = [] then (b, 0)
  else if l1 = noNode then (noNode, 0)
  else if s.node < l1 then (l1, 0)
  else (l1, flHandoff)

/-- CYCLIC_WINDOW_CLOSE (R143, R149, R150). -/
def cyclicWindowClose (s : State) : State :=
  if !s.ringEn ∨ s.cyc.closed ∨ s.cycOff < s.winS + s.winC then s
  else
    let s := s.cy (fun c => { c with closed := true })
    let missed := (s.listedBank RING_SUB_NODE.off).any (fun e =>
      RING_SUB_NODE.VALID.get e.2 == 1 && !s.cyc.taken.contains e.1)
    let s := if missed then (s.count RING_MISS_CNT.off).raise (evRing 5) clEvent else s
    let s := if s.cyc.launching ∧ s.cyc.launchAt.isSome then
        let h := s.nextHeader
        s.cy (fun c => { c with hdrBackup := h.1, hdrFlags := h.2 })
      else s
    let full := s.cyc.frames ≠ 0 ∧ (s.cyc.frames ≤ s.cyc.gotE.length ∨ s.cyc.frames ≤ s.cyc.gotW.length)
    let s := if s.curB = s.node ∧ s.curM ≠ s.node ∧ s.curM ≠ noNode ∧ (!s.cyc.launching ∨ s.cyc.beaten) ∧ s.eligible ∧ !full then
        ((s.cy (fun c => { c with special := some flTakeover })).pb RING_STAT.TAKEOVER true).raise (evRing 7) clEvent
      else s
    (s.cy (fun c => { c with noMaster := if c.got0 then 0 else c.noMaster + 1 })).setRole

/-- RING_CFG.JOIN in use: 0 and 1 act as 2 (R157). -/
def State.joinN (s : State) : Nat := max 2 (s.g RING_CFG.JOIN)

/-- JOIN_TIMEOUT (R151): JOIN consecutive cycles have passed without an accepted INDEX 0 frame. -/
def joinTimeout (s : State) : State :=
  if !s.ringEn ∨ s.cyc.noMaster < s.joinN ∨ s.cyc.special.isSome then s
  else
    let s := if s.curM = noNode then s
      else ((s.p RING_ROLE.BACKUP noNode).cy (fun c => { c with launching := false, cand := false, beaten := false, stopNext := false })).setMaster noNode
    let s := s.p RING_ROLE.BACKUP noNode
    let s := if s.eligible ∧ !s.cyc.launching then
        s.cy (fun c => { c with launching := true, cand := true, hdrBackup := noNode, hdrFlags := 0 })
      else s
    s.setRole

/-! ### SYNC (R269 to R272) -/

/-- One SYNC frame offered for a ring port (R269): ORIGIN and RESCORR are written at departure. -/
def State.offerSync (s : State) (p : Nat) : State :=
  let y : Sync := ⟨0, 0, 0, s.cyc.num % 2 ^ 32, s.g TIME_STAT.STEPCNT, s.g TIME_SERVO.STATE + 4 * s.g TIME_SERVO.TRACE, s.epochSec⟩
  let o := otherPort p
  let ok := s.g (PORT_STAT.STATE p) = 5 ∨ (s.flag (PORT_STAT.TURNED p) ∧ s.g (PORT_STAT.STATE o) = 5)
  if ok then s.offerTo 8 [p] (s.mkFrame tySync 7 0xFFFF 0 (s.cyc.num % 2 ^ 32) false (encSync y)) else s

/-- SYNC_WINDOW_OPEN (R269): a master whose SYNC_EN is 1 sends one SYNC per direction on each plane in use, once in a cycle. -/
def syncWindowOpen (s : State) : State :=
  if s.g RING_STAT.ROLE = roMaster ∧ s.flag TIME_CFG.SYNC_EN ∧ s.inWin 0 s.winS ∧ !s.cyc.synced then
    s.ringPorts.foldl State.offerSync (s.cy (fun c => { c with synced := true }))
  else s

/-- LINKSUM's share of an ingress port: d × 4,096, with d = PORT_LDLY + TIME_ASYM in 1/16 ns (R271). -/
def State.linkShare (s : State) (p : Nat) : Int :=
  ((s.g (PORT_LDLY.DELAY p) : Int) + signedOf 16 (s.g (TIME_ASYM.ASYM p))) * 4096

/-- The offset of a SYNC at an ingress stamp of `q` quarter ns after the tick, in 2^-16 ns (R271). -/
def State.syncOff (s : State) (p : Nat) (f : Frame) (y : Sync) (q : Nat) : Int :=
  let trx := s.fns * 65536 + (q * 16384 : Nat)
  let origin := ((y.osec : Int) - (s.epochSec : Int)) * 1000000000 + (y.ons : Int)
  trx - (origin * 65536 + (f.rescorr : Int) + (y.linksum : Int) + s.linkShare p)

/-- A lap offset in 1/16 ns, saturating (R272). -/
def lapWord (off : Int) : Nat :=
  let v := off / 4096
  wrapInt 32 (if v < -(2 ^ 31) then -(2 ^ 31) else if 2 ^ 31 - 1 < v then 2 ^ 31 - 1 else v)

/-- The capture of R271 steps 2 to 4. DEDUCED: the cycle of a copy is the one its CYCLE field names, so that a node whose RING_CFG.EN
is 0 captures in each cycle too. -/
def State.syncCapture (s : State) (p : Nat) (f : Frame) (y : Sync) (q : Nat) : State :=
  if y.epoch ≠ s.epochSec then
    let s := (s.count TIME_SYNC_ERR.off).pb TIME_STAT.EPOCH_ERR true
    let recent := match s.clep.epochErrAt with
      | some t => decide (s.absNs < (t : Int) + 1000000000)
      | none => false
    if recent then s else ({ s with clep := { s.clep with epochErrAt := some s.absNs.toNat } }).raise (evTime 3) clDegraded
  else if !s.flag TIME_CFG.CAPT_EN ∨ s.clep.syncSeen.contains (p, y.cycle) then s
  else
    let s := { s with clep := { s.clep with syncSeen := (p, y.cycle) :: s.clep.syncSeen.filter (fun e => e.1 != p) } }
    let s := s.wr64 (TIME_SYNC_OFF_LO.off p) (wrapInt 64 (s.syncOff p f y q))
    let s := ((((s.pb (TIME_SYNC_INFO.VALID p) true).p (TIME_SYNC_INFO.TURNS p) f.turns).p (TIME_SYNC_INFO.HOPS p) f.hops).p
      (TIME_SYNC_INFO.STEPCNT p) y.stepcnt).p (TIME_SYNC_INFO.CYCLE p) y.cycle
    let s := s.p TIME_STAT.SEEN (s.g TIME_STAT.SEEN ||| 2 ^ p)
    s.raise (evTime 2) clEvent

/-- The master's own SYNC back from its lap, measured before it is stripped (R272). -/
def State.lapMeasure (s : State) (p : Nat) (f : Frame) (y : Sync) (q : Nat) : State :=
  let w := lapWord (s.syncOff p f y q)
  if p = 1 then s.p TIME_LAP_E.OFF w else if p = 0 then s.p TIME_LAP_W.OFF w
  else if p = 3 then s.p TIME_LAP_BE.OFF w else s.p TIME_LAP_BW.OFF w

/-- SYNC_RECEIVE (R271, R272): a SYNC arrives at a ring port; `q` is its stamp's quarter ns within the tick. -/
def syncReceive (p : Fin 4) (f : Frame) (q : Fin 16) (s : State) : State :=
  let y := decSync f.payload
  if f.typ ≠ tySync then s
  else if f.src = s.node then
    if (f.turns = 0 ∨ f.turns = 2) ∧ s.curM = s.node then s.lapMeasure p.val f y q.val else s
  else if s.curM ≠ f.src ∧ s.curM ≠ noNode then s
  else
    let s := s.passPayload p.val (encSync { y with linksum := wrapInt 64 ((y.linksum : Int) + s.linkShare p.val) })
    s.syncCapture p.val f y q.val

/-! ### RING register writes (R135, R151, R156, R157) -/

/-- A refused RING write. -/
def State.ringRefuse (s : State) : Nat × State := (stCFG, s.cfgErr RING_CFGERR_CNT.off (evRing 1))

/-- Whether the node's slot lies outside the train (R156). -/
def State.slotOut (s : State) : Bool :=
  s.flag RING_SLOT.VALID && (decide (s.g RING_SUM.FRAMES ≤ s.g RING_SLOT.FRAME) ||
    decide (s.g RING_SUM.LEN < 32 + 16 * s.g RING_SLOT.OFFSET + 16 + 16 * s.g RING_SLOT.LEN))

/-- A write of RING_CFG (R151, R156). -/
def State.ringCfgWrite (s : State) (new : Word) : Nat × State :=
  let was := s.ringEn
  let s := s.wr RING_CFG.off new
  let s := if s.ringEn ∧ !was then (s.pb RING_STAT.SLOT_ERR s.slotOut).cy (fun c => { c with noMaster := 0 }) else s
  let s := if s.ringEn then s
    else (s.pb RING_STAT.HANDOFF false).cy (fun c =>
      { c with launching := false, cand := false, beaten := false, special := none, stopNext := false, staged := [] })
  (stOK, s.setRole)

/-- A write that completes RING_APPLY (R135). -/
def State.applyWrite (s : State) (lo hi : Word) : Nat × State :=
  let k := s.g RING_NEXT_CYC.K
  let (S, C, W, T, G) := (s.g RING_NEXT_S.LEN, s.g RING_NEXT_C.LEN, s.g RING_NEXT_W.LEN, s.g RING_NEXT_T.LEN, s.g RING_NEXT_G.LEN)
  let pnew := 31250 * 2 ^ k
  let per := max pnew s.periodNs
  let d := sgn48 ((lo.toNat + 2 ^ 32 * hi.toNat) % 2 ^ 48) s.fns48
  let at_ := s.fns + d
  if 11 < k ∨ S < 8 ∨ pnew < (S + C + W + T) * 125 ∨ G = 0 ∨ C + W < G ∨ at_ % (per : Int) ≠ 0 ∨ d < 2 * (per : Int) then s.ringRefuse
  else
    let s := (s.wr RING_APPLY_LO.off lo).wr RING_APPLY_HI.off hi
    (stOK, (s.cy (fun c => { c with pend := some ⟨k, S, C, W, T, G, at_⟩ })).pb RING_STAT.APPLY_PEND true)

/-- The sum of COUNT over the valid publication ranges, with range `k` holding `w`. -/
def State.pubSum (s : State) (k : Nat) (w : Word) : Nat :=
  ((List.range 16).map (fun j =>
    let x := if j = k then w else s.rd (bankKey RING_PUB_CFG.off j)
    if RING_PUB_CFG.VALID.get x = 1 then RING_PUB_CFG.COUNT.get x else 0)).sum

/-- A write of RING_MAP, RING_SUM or RING_SLOT (R156, R157): refused while EN is 1. -/
def State.mapWrite (s : State) (new : Word) : Nat × State :=
  if s.ringEn then s.ringRefuse else (stOK, s.wr RING_MAP.off new)
def State.sumWrite (s : State) (new : Word) : Nat × State :=
  let fr := RING_SUM.FRAMES.get new
  let len := RING_SUM.LEN.get new
  if s.ringEn ∨ fr = 0 ∨ 1024 < fr ∨ len < 32 ∨ 16384 < len ∨ len % 16 ≠ 0 then s.ringRefuse else (stOK, s.wr RING_SUM.off new)
def State.slotWrite (s : State) (new : Word) : Nat × State :=
  if s.ringEn ∨ RING_SLOT.LEN.get new < s.pubSum 16 0 then s.ringRefuse else (stOK, s.wr RING_SLOT.off new)

/-- A write of publication range `k` (R156). -/
def State.pubWrite (s : State) (k : Nat) (new : Word) : Nat × State :=
  if s.g RING_SLOT.LEN < s.pubSum k new then s.ringRefuse else (stOK, s.wr (bankKey RING_PUB_CFG.off k) new)

/-- The sum of COUNT over the valid subscriptions other than entry `e`. -/
def State.subSum (s : State) (e : Nat) : Nat :=
  ((s.listedBank RING_SUB_NODE.off).map (fun x =>
    if x.1 = e ∨ RING_SUB_NODE.VALID.get x.2 = 0 then 0 else s.g (RING_SUB_DST.COUNT.at x.1))).sum

/-- A write that completes subscription entry `e` (R156). -/
def State.subWrite (s : State) (e : Nat) (node slot dst : Word) : Nat × State :=
  let cnt := RING_SUB_DST.COUNT.get dst
  let pt := RING_SUB_DST.POINT.get dst
  if RING_SUB_NODE.VALID.get node = 1 ∧ (RING_SUB_NODE.NODE.get node = s.node ∨ 4096 < s.subSum e + cnt ∨
      (List.range cnt).any (fun j => s.ownerKind (pt + j) != okRing)) then s.ringRefuse
  else (stOK, ((s.wr (bankKey RING_SUB_NODE.off e) node).wr (bankKey RING_SUB_SLOT.off e) slot).wr (bankKey RING_SUB_DST.off e) dst)

end Sys2Proof.Machine
end

