-- ==== Sys2Proof/Machine/Links.lean ====
section
/-! DEFINITION. Aqueduct's links (R90 to R128, R213, R214, R523): reception and its trailer, egress, link loss and turns, healing
and unwrapping, span delay, credit, and the writes of PORT_CFG and PORT_BYP. -/

namespace Sys2Proof.Machine

/-! ### Port states (R129) -/

def psDown : Nat := 0
def psTrain : Nat := 1
def psHello : Nat := 2
def psSecure : Nat := 3
def psHold : Nat := 4
def psUp : Nat := 5
def psLoop : Nat := 6

/-- The state of a port. -/
def State.pst (s : State) (p : Nat) : Nat := s.g (PORT_STAT.STATE p)

/-- The state of a port replaced. -/
def State.setPst (s : State) (p v : Nat) : State := s.p (PORT_STAT.STATE p) v

/-- A port's record changed. -/
def State.pm (s : State) (p : Nat) (f : Port → Port) : State := s.setPort p (f (s.port p))

/-- Whether a port is turned. -/
def State.turned (s : State) (p : Nat) : Bool := s.flag (PORT_STAT.TURNED p)

/-! ### Epochs and wrap state (R118) -/

/-- The plane epoch. -/
def State.epochOf (s : State) (plane : Nat) : Nat := s.g (PORT_RING.EPOCH plane)

/-- Whether epoch `a` is newer than `b` in serial-number arithmetic modulo 256. -/
def newer (a b : Nat) : Bool := let d := (a + 256 - b % 256) % 256; decide (0 < d ∧ d < 128)

/-- An epoch adopted if it is newer (R118). -/
def State.adopt (s : State) (plane e : Nat) : State := if newer e (s.epochOf plane) then s.p (PORT_RING.EPOCH plane) e else s

/-- The turn that a node announces for its port is in force on a plane (R102): WRAPPED and BREAK_ID, with the plane's wrap event. -/
def State.setWrapped (s : State) (plane node port : Nat) : State :=
  let was := s.flag (PORT_RING.WRAPPED plane)
  let rest := s.links.turns.filter (fun t => !(t.plane == plane && t.node == node && t.port == port))
  let s := { s with links := { s.links with turns := rest ++ [(⟨plane, node, port, false⟩ : TurnEnd)] } }
  ((s.pb (PORT_RING.WRAPPED plane) true).p (PORT_RING.BREAK_ID plane) node).raiseIf (!was) (evPort (2 * plane) 7) clEvent

/-- A turned end is ready to heal (R121): marked among the turns. DEDUCED: where its neighbour's end is not turned, a turn still noted for that
end has ended. -/
def State.turnReady (s : State) (plane node port nbr : Nat) (nbrTurned : Bool) : State :=
  let l := s.links.turns.filter (fun t => nbrTurned || !(t.plane == plane && t.node == nbr && t.port == otherPort port))
  { s with links := { s.links with turns := l.map (fun t =>
      if t.plane = plane ∧ t.node = node ∧ t.port = port then { t with ready := true } else t) } }

/-- A HEAL_READY that the cycle master holds from an end that turns again is dropped. -/
def State.dropHeal (s : State) (plane node port : Nat) : State :=
  { s with links := { s.links with heals := s.links.heals.filter (fun h => !(h.plane == plane && h.node == node && h.port == port)) } }

/-- The newer of the plane epoch and the epochs of unwraps pending on the plane (R118). -/
def State.newestEpoch (s : State) (plane : Nat) : Nat :=
  (s.links.unwraps.filter (fun u => u.plane == plane)).foldl (fun a u => if newer u.epoch a then u.epoch else a) (s.epochOf plane)

/-! ### Frames that go first -/

/-- A class 7 frame of this node put at the head of a ring egress, before every frame queued there (R118, R523). -/
def State.sendFirst (s : State) (p typ dst : Nat) (pl : List Byte) : State :=
  let (n, s) := s.takeSeq 7
  let f := s.stampEpoch p (ringHdr p (s.mkFrame typ 7 dst 0 n false pl))
  let (_, s) := s.store 8 7 [(p, true, f)] f false false false (s.wireLen p f) (s.now4 0)
  match s.sw.queues.getLast? with
  | some q => { s with sw := { s.sw with queues := q :: s.sw.queues.dropLast } }
  | none => s

/-! ### Frames caught by a failure or a bad trailer (R120, R216) -/

/-- What a ring egress puts on the line for a frame (R95, R97, R111): its bytes under the hop's key, ending stomped where `bad`. -/
def State.putLine (s : State) (p : Nat) (f : Frame) (bad : Bool) : State :=
  let w := frameWire (s.linkKey p f.an false) Config.uid.toNat f bad
  s.pm p (fun q => { q with tx := some f, txBad := bad, line := frameLine (s.g (PORT_CFG.MODE p)) w })

/-- A cut-through frame found bad (R216): egresses that have begun it end it stomped (R98, R106), with the payload that came, other copies
are discarded. -/
def State.cutBad (s : State) (id : Nat) (pl : List Byte) : State :=
  match s.sframe id with
  | some f =>
    let s := f.started.foldl (fun s e =>
      let g := { e.2 with payload := pl }
      ((s.count SW_CT_ABORT.off).putLine e.1 g true).mirror g false f.mirror e.1 g.cls f.tIn true true) s
    { s with sw := { s.sw with queues := s.sw.queues.filter (fun q => q.id != id),
                               frames := s.sw.frames.filter (fun g => g.id != id) } }
  | none => s

/-- The frame being received at a port is lost with it (R120, R128, R213). -/
def State.dropRx (s : State) (p : Nat) : State :=
  match (s.port p).rx with
  | some r =>
    let s := (s.pm p (fun q => { q with rx := none })).endExtracts p false none
    match r.stored with
    | some id => (s.mirrorFill id r.hdr).cutBad id []
    | none => s
  | none => s

/-- Every copy queued for a port that turns (R117, R120): turned to the other port, or discarded and counted; link-local frames go
with the link. A frame admitted to other ports too counts in SW_MC_PARTIAL (R218). -/
def State.turnQueue (s : State) (p : Nat) : State :=
  (s.sw.queues.filter (fun q => q.port == p)).foldl (fun s q =>
    let multi := s.sw.queues.any (fun e => e.id == q.id && e.port != p) || (s.sframe q.id).any (fun f => f.delivered || !f.started.isEmpty)
    let s := if multi then s.partialCopy q.id else s
    let s := s.unqueue q
    if linkLocal q.hdr.typ then s.tidy q.id
    else
      match s.turnCopy p q.hdr with
      | .inl (o, g) => { s with sw := { s.sw with queues := s.sw.queues ++ [{ q with port := o, hdr := g }] } }
      | .inr o => (s.count (PORT_TURN_DROP.off o)).tidy q.id) s

/-! ### Hold and heal times (R121, R124) -/

/-- HOLD in ms in use (R130): 0 acts as 1, above 10,000 as 10,000. -/
def State.holdMs (s : State) (p : Nat) : Nat := clampNat 1 10000 (s.g (PORT_HEAL.HOLD (planeOf p)))

/-- Ten seconds in ns. -/
def tenSec : Int := 10000000000

/-- Whether an instant lies less than 10 s back. -/
def State.within10 (s : State) (t : Option Int) : Bool :=
  match t with
  | some x => decide (s.absNs - x < tenSec)
  | none => false

/-- The doublings of the hold that stand at a port (R124): none once 10 s have passed without a loss. -/
def State.holdDbl (s : State) (p : Nat) : Nat := if s.within10 (s.port p).lastLoss then (s.port p).hold else 0

/-- The hold in ms of a port (R124): HOLD doubled as often as stands, at most 10,240 ms or HOLD. -/
def State.holdNow (s : State) (p : Nat) : Nat := min (s.holdMs p * 2 ^ (s.port p).hold) (max 10240 (s.holdMs p))

/-- The doublings after a loss (R124); 14 of them reach the greatest hold from any HOLD. -/
def State.holdAfterLoss (s : State) (p : Nat) : Nat :=
  if s.flag (PORT_HEAL.BACKOFF (planeOf p)) ∧ s.within10 (s.port p).lastHeal then min 14 (s.holdDbl p + 1) else s.holdDbl p

/-! ### Link loss (R116, R117, R119) -/

/-- A port turns (R117, R118, R119): the epoch advances, WRAP goes first out of the surviving port, queued frames turn. -/
def State.turnPort (s : State) (p : Nat) : State :=
  let pl := planeOf p
  let o := otherPort p
  let e := (s.newestEpoch pl + 1) % 256
  let s := (s.pb (PORT_STAT.TURNED p) true).p (PORT_RING.EPOCH pl) e
  let s := s.setWrapped pl s.node p
  let s := s.turnQueue p
  if s.pst o = psUp ∧ !s.turned o then
    s.sendFirst o tyRingState 0xFFFF (encRingState ⟨1, e, s.node, p, false, 0, 0, 0⟩)
  else s

/-- A port declares link loss with a cause (R116, R124), if its state declares. -/
def State.linkLoss (s : State) (p cause : Nat) : State :=
  let st := s.pst p
  if st < psHello ∨ psUp < st then s
  else
    let h := s.holdAfterLoss p
    let s := (s.dropRx p).pm p (fun q =>
      { q with hold := h, lastLoss := some s.absNs, holdDone := false, holdAt := none, reqT1 := none, ldlyAt := none, rxSet := none })
    let s := ((s.p (PORT_STAT.LOSS p) cause).pb (PORT_STAT.LOCK p) false).setPst p psDown
    let s := (s.count (PORT_LOSS_CNT.off p)).raise (evPort p 2) clDegraded
    if s.turned p then s else s.turnPort p

/-- A loss of signal or lock at a port that declares nothing returns it to DOWN (R116). -/
def State.quietDown (s : State) (p : Nat) : State :=
  if s.pst p = psTrain ∨ s.pst p = psLoop then ((s.dropRx p).pb (PORT_STAT.LOCK p) false).setPst p psDown else s

/-- SIGNAL_LOST (R91, R116, cause 1): the raw output of the port's comparator has shown no signal for 2 µs. -/
def signalLost (p : Fin 4) (s : State) : State :=
  if s.ringSignal p.val ∨ s.ringSignalAge p.val < 2000 then s
  else ((s.pb (PORT_STAT.SD p.val) false).linkLoss p.val 1).quietDown p.val

/-- PCS_LOCK_LOST (R116, cause 2). -/
def pcsLockLost (p : Fin 4) (s : State) : State := ((s.pb (PORT_STAT.LOCK p.val) false).linkLoss p.val 2).quietDown p.val

/-- NEIGHBOUR_STOPPED (R116, cause 3). -/
def neighbourStopped (p : Fin 4) (s : State) : State := s.linkLoss p.val 3

/-- An error counter increased by `n` (R43). -/
def State.countBy (s : State) (off n : Nat) : State :=
  let v := (s.rd off).toNat
  if n = 0 then s
  else if v + n < 0xFFFFFFFF then s.wr off (BitVec.ofNat 32 (v + n))
  else if v = 0xFFFFFFFF then s
  else (s.wr off (BitVec.ofNat 32 0xFFFFFFFE)).count off

/-- A header fault counted (R103, R102), toward cause 4 too (R116). -/
def State.hdrErr (s : State) (p : Nat) : State := (s.count (PORT_HDR_ERR.off p)).pm p (fun q => { q with winErr := q.winErr + 1 })

/-- DEGRADED_SPAN_WINDOW (R116, R128, cause 4): the end of a 1 ms window with its FEC codewords corrected and uncorrected. The next window runs
under DEG_THR as it stands then. -/
def degradedSpanWindow (p : Fin 4) (corr uncorr : Nat) (s : State) : State :=
  let i := p.val
  let fec := s.g (PORT_CFG.MODE i) = 3 ∧ s.flag (PORT_CFG.FEC i)
  let s := if fec then (s.countBy (PORT_FEC_CORR.off i) corr).countBy (PORT_FEC_UNCORR.off i) uncorr else s
  let n := (s.port i).winErr + (if fec then uncorr else 0)
  let thr := (s.port i).winThr
  let s := s.pm i (fun q => { q with winErr := 0, winThr := s.g (PORT_CFG.DEG_THR i) })
  if thr ≠ 0 ∧ thr ≤ n then s.linkLoss i 4 else s

/-! ### Coming up (R121, R123, R523) -/

/-- SIGNAL_DETECT (R91, R121 step 1): the port's comparator shows a signal. -/
def signalDetect (p : Fin 4) (s : State) : State :=
  if !s.portRuns p.val ∨ !s.ringSignal p.val then s
  else
    let s := s.pb (PORT_STAT.SD p.val) true
    if s.pst p.val = psDown then s.setPst p.val psTrain else s

/-- PCS_LOCK_ACQUIRE (R121 step 2). -/
def pcsLockAcquire (p : Fin 4) (s : State) : State :=
  if s.portRuns p.val ∧ s.pst p.val = psTrain then (s.pb (PORT_STAT.LOCK p.val) true).setPst p.val psHello else s

/-- This node's HELLO for a port (R100). -/
def State.hello (s : State) (p : Nat) : Hello :=
  { node := s.node, port := p, sec := s.flag (PORT_CFG.SEC p), fec := s.flag (PORT_CFG.FEC p), ka := !(s.kaOf p).out.isEmpty, turned := s.turned p,
    state := s.pst p, epoch := s.epochOf (planeOf p), uid := Config.uid.toNat, mapId := s.g RING_MAP.MAP_ID }

/-- HELLO_SEND (R100, R470, R523): every 1 ms from state HELLO onward, with the key agreement block that waits, if one does. -/
def helloSend (p : Fin 4) (s : State) : State :=
  if s.portRuns p.val ∧ psHello ≤ s.pst p.val then
    let k := s.kaOf p.val
    (s.offerPort p.val tyHello 7 0 (encHello (s.hello p.val) ++ k.out)).setKa p.val { k with out := [] }
  else s

/-- A port enters UP (R121 step 7, R523, R213): a turned one first sends its HELLO with TURNED 0; credit starts afresh. -/
def State.enterUp (s : State) (p : Nat) : State :=
  let was := s.turned p
  let s := (s.pb (PORT_STAT.TURNED p) false).setPst p psUp
  let s := if was then s.sendFirst p tyHello 0 (encHello { s.hello p with ka := false }) else s
  let s := s.pm p (fun q => { q with
    holdDone := false, holdAt := none, lastHeal := if was then some s.absNs else q.lastHeal,
    freedH := 0, freedL := 0, freedSent := none, credH := 32, credL := 224, rxSet := none, nbrFreedH := 0, nbrFreedL := 0 })
  s.raise (evPort p 3) clEvent

/-- A port enters HOLD (R121). -/
def State.enterHold (s : State) (p : Nat) : State :=
  (s.setPst p psHold).pm p (fun q => { q with holdDone := false, holdAt := some s.fns48, hold := s.holdDbl p })

/-- The finding of a HELLO that is not this node's own (R123): 0 accepted. -/
def State.helloFinding (s : State) (p : Nat) (f : Frame) (h : Hello) : Nat :=
  if f.planeB ≠ decide (2 ≤ p) then 1
  else if h.port % 2 = p % 2 then 2
  else if h.sec ≠ s.flag (PORT_CFG.SEC p) then 3
  else 0

/-- An accepted HELLO (R123): the neighbour recorded, and the port advanced. -/
def State.helloAccept (s : State) (p : Nat) (h : Hello) : State :=
  let chg := s.flag (PORT_NBR.VALID p) && s.g (PORT_NBR.NODE_ID p) != h.node
  let s := ((s.pb (PORT_NBR.VALID p) true).p (PORT_NBR.PORT p) h.port).p (PORT_NBR.NODE_ID p) h.node
  let s := s.pm p (fun q => { q with nbr := some ⟨h.node, h.port, h.turned, h.uid⟩ })
  let s := if chg then (s.pb (PORT_STAT.NBR_CHG p) true).raise (evPort p 5) clNote else s
  let st := s.pst p
  if st = psHello ∨ st = psLoop then (if s.flag (PORT_CFG.SEC p) then (s.setPst p psSecure).kaStart p true else s.enterHold p)
  else if st = psHold ∧ (s.port p).holdDone ∧ !s.turned p ∧ !h.turned then s.enterUp p
  else s

/-- HELLO_RECEIVE (R123, R126, R523). CHK stays 4 while the port is in SECURE with its key agreement failed. -/
def helloReceive (p : Fin 4) (f : Frame) (s : State) : State :=
  let i := p.val
  let h := decHello f.payload
  if !s.portRuns i ∨ s.pst i < psHello then s
  else if h.uid = Config.uid.toNat then
    (s.p (PORT_STAT.CHK i) 0).setPst i psLoop |>.raiseIf (s.pst i != psLoop) (evPort i 6) clEvent
  else
    let k := s.helloFinding i f h
    let ka := s.kaOf i
    let s := s.p (PORT_STAT.CHK i) (if k = 0 ∧ s.pst i = psSecure ∧ ka.stage = 4 ∧ ka.newLink then 4 else k)
    if k ≠ 0 then s.raise (evPort i 5) clNote else s.helloAccept i h

/-! ### Healing and unwrapping (R118, R121, R523) -/

/-- An unwrap becomes pending on a plane. -/
def State.addUnwrap (s : State) (u : Unwrap) : State :=
  { s.pb (PORT_RING.UNWRAP_PEND u.plane) true with links := { s.links with unwraps := s.links.unwraps ++ [u] } }

/-- The cycle master schedules an unwrap at the start of cycle C + 2 (R121 step 6). -/
def State.scheduleUnwrap (s : State) (plane : Nat) : State :=
  let c := s.cycleNow + 2
  let at_ := c * s.periodNs % 2 ^ 48
  let e := (s.epochOf plane + 1) % 256
  let pl := encRingState ⟨3, e, s.node, 0, false, c % 2 ^ 32, at_, 0⟩
  let s := (s.offerPort (2 * plane) tyRingState 7 0xFFFF pl).offerPort (2 * plane + 1) tyRingState 7 0xFFFF pl
  s.addUnwrap ⟨plane, e, at_, true, (s.node, 0)⟩

/-- Whether this node is the cycle master. -/
def State.isMaster (s : State) : Bool := s.ringEn && s.curM == s.node

/-- The cycle master holds a HEAL_READY and pairs it with that of the span's other end (R102, R121). DESIGN CHOICE: an unpaired one is held
until its end turns again. -/
def State.pairHeal (s : State) (h : HealReady) : State :=
  if !h.nbrTurned then s.scheduleUnwrap h.plane
  else if s.links.heals.any (fun x => x.plane == h.plane && x.node == h.nbr && x.nbr == h.node) then
    ({ s with links := { s.links with heals := s.links.heals.filter (fun x =>
      !(x.plane == h.plane && ((x.node == h.nbr && x.nbr == h.node) || (x.node == h.node && x.nbr == h.nbr)))) } }).scheduleUnwrap
      h.plane
  else if s.links.heals.contains h then s
  else { s with links := { s.links with heals := s.links.heals ++ [h] } }

/-- HOLD_EXPIRE (R121 step 5, R523): the hold of a port ends with no loss. -/
def holdExpire (p : Fin 4) (s : State) : State :=
  let i := p.val
  let q := s.port i
  let ms := s.holdNow i
  let due := match q.holdAt with
    | some t => decide ((ms * 1000000 : Int) ≤ sgn48 s.fns48 t)
    | none => false
  if s.pst i ≠ psHold ∨ q.holdDone ∨ !due then s
  else
    let s := s.pm i (fun q => { q with holdDone := true })
    let nbr := q.nbr.getD ⟨0, 0, false, 0⟩
    let pl := planeOf i
    let o := otherPort i
    if !s.turned i then (if nbr.turned then s else s.enterUp i)
    else if s.curM = noNode ∨ !s.ringEn then
      let e := (s.epochOf pl + 1) % 256
      let at_ := (s.fns48 + 2000000) % 2 ^ 48
      (s.offerPort o tyRingState 7 0xFFFF (encRingState ⟨3, e, s.node, i, false, 0, at_, 0⟩)).addUnwrap ⟨pl, e, at_, false, (s.node, i)⟩
    else
      let s := s.offerPort o tyRingState 7 0xFFFF (encRingState ⟨2, s.epochOf pl, s.node, i, nbr.turned, 0, 0, nbr.node⟩)
      let s := s.turnReady pl s.node i nbr.node nbr.turned
      if s.isMaster then s.pairHeal ⟨pl, s.node, i, nbr.node, nbr.turned⟩ else s

/-- A RING_STATE frame taken by Aqueduct, with KIND `k`; any other KIND is discarded and counted (R102). -/
def State.ringState (s : State) (p : Nat) (f : Frame) (bad : Option Nat) (k : Nat) (act : RingState → State → State) : State :=
  if f.typ ≠ tyRingState then s
  else s.takeCpu f bad (fun s =>
    let r := decRingState f.payload
    if r.kind = 0 ∨ 3 < r.kind then s.hdrErr p
    else if r.kind = k then act r s else s)

/-- RING_STATE_WRAP_RECEIVE (R102, R118): the end that turned leaves the heals that the cycle master holds. -/
def ringStateWrapReceive (p : Fin 4) (f : Frame) (bad : Option Nat) (s : State) : State :=
  s.ringState p.val f bad 1 (fun r s =>
    let pl := planeOf p.val
    ((s.adopt pl r.epoch).setWrapped pl r.node r.port).dropHeal pl r.node r.port)

/-- HEAL_READY_RECEIVE (R102, R118, R121). -/
def healReadyReceive (p : Fin 4) (f : Frame) (bad : Option Nat) (s : State) : State :=
  s.ringState p.val f bad 2 (fun r s =>
    let s := (s.adopt (planeOf p.val) r.epoch).turnReady (planeOf p.val) r.node r.port r.nbr r.nbrTurned
    if s.isMaster ∧ r.node ≠ s.node then s.pairHeal ⟨planeOf p.val, r.node, r.port, r.nbr, r.nbrTurned⟩ else s)

/-- UNWRAP_RECEIVE (R102): pending until AT. -/
def unwrapReceive (p : Fin 4) (f : Frame) (bad : Option Nat) (s : State) : State :=
  s.ringState p.val f bad 3 (fun r s =>
    let u : Unwrap := ⟨planeOf p.val, r.epoch, r.at_, r.cycle != 0 || r.node == s.curM, (r.node, r.port)⟩
    if r.node = s.node ∨ s.links.unwraps.contains u then s else s.addUnwrap u)

/-- The turned ports of a plane that an unwrap ends: those whose hold has ended, for the cycle master's; the named port, for one
this node scheduled on its own. -/
def State.unwrapPorts (s : State) (u : Unwrap) : List Nat :=
  [2 * u.plane, 2 * u.plane + 1].filter (fun p =>
    s.turned p && s.pst p == psHold && (s.port p).holdDone && (u.byMaster || u.end_ == (s.node, p)))

/-- The turns that an unwrap ends leave the plane's turns (R121 step 7): the named end, for one that a turned node scheduled on its own; for
the cycle master's, those whose HEAL_READY has come, and this node's own ends that stop turning. -/
def State.endTurns (s : State) (u : Unwrap) : State :=
  { s with links := { s.links with turns := s.links.turns.filter (fun t =>
      !(t.plane == u.plane && (if t.node == s.node then !s.turned t.port else if u.byMaster then t.ready else (t.node, t.port) == u.end_))) } }

/-- An unwrap at its AT (R118, R121 step 7). -/
def State.doUnwrap (s : State) (u : Unwrap) : State :=
  let s := { s with links := { s.links with unwraps := s.links.unwraps.erase u } }
  let s := (s.unwrapPorts u).foldl (fun s p => (s.enterUp p).raise (evPort p 7) clNote) s
  let s := (s.adopt u.plane u.epoch).endTurns u
  let s := s.pb (PORT_RING.UNWRAP_PEND u.plane) (s.links.unwraps.any (fun x => x.plane == u.plane))
  if s.links.turns.any (fun t => t.plane == u.plane) then s
  else (s.pb (PORT_RING.WRAPPED u.plane) false).p (PORT_RING.BREAK_ID u.plane) 0

/-- UNWRAP_AT (R118): the unwraps of a plane whose instant has come, in the order they became pending. -/
def unwrapAt (plane : Fin 2) (s : State) : State :=
  (s.links.unwraps.filter (fun u => u.plane == plane.val && s.come u.at_)).foldl State.doUnwrap s

/-! ### Span delay (R101, R110) -/

/-- PERIOD in ms in use (R130): 0 acts as 1, above 1,000 as 1,000. -/
def State.ldlyMs (s : State) (p : Nat) : Nat := clampNat 1 1000 (s.g (PORT_LDLY_CFG.PERIOD (planeOf p)))

/-- Whether a request is due (R110): PERIOD after the last one. -/
def State.ldlyDue (s : State) (p : Nat) : Bool :=
  match (s.port p).ldlyAt with
  | some t => decide (1000000 * (s.ldlyMs p : Int) ≤ s.absNs - t)
  | none => true

/-- LDLY_REQ_SEND (R110): t1 is kept as the request leaves. -/
def ldlyReqSend (p : Fin 4) (s : State) : State :=
  let i := p.val
  if s.portRuns i ∧ (s.pst i = psUp ∨ s.pst i = psLoop) ∧ s.ldlyDue i = true then
    let n := ((s.port i).reqId + 1) % 2 ^ 32
    (s.pm i (fun q => { q with reqId := n, reqT1 := none, ldlyAt := some s.absNs })).offerPort i tyLdlyReq 7 0 (encLdly n 0 0)
  else s

/-- LDLY_REQ_RECEIVE (R101): the answer carries T2 now, and T3 as it leaves. -/
def ldlyReqReceive (p : Fin 4) (f : Frame) (q : Fin 16) (s : State) : State :=
  if s.portRuns p.val ∧ psHello ≤ s.pst p.val then
    s.offerPort p.val tyLdlyRsp 7 0 (encLdly (beAt f.payload 0 4) (wrapInt 64 (s.fns * 65536 + (q.val * 16384 : Nat))) 0)
  else s

/-- The span delay in 1/16 ns from t1 and t4 in quarter ns and T2, T3 in 2^-16 ns (R110). -/
def spanDelay (t1 t4 t2 t3 : Nat) : Int :=
  (signedOf 50 (t4 + 2 ^ 50 - t1 % 2 ^ 50) * 16384 - signedOf 64 (t3 + 2 ^ 64 - t2 % 2 ^ 64)) / 2 / 4096

/-- LDLY_RSP_RECEIVE (R101, R110). -/
def ldlyRspReceive (p : Fin 4) (f : Frame) (q : Fin 16) (s : State) : State :=
  let i := p.val
  match (s.port i).reqT1 with
  | some t1 =>
    if beAt f.payload 0 4 ≠ (s.port i).reqId then s
    else s.p (PORT_LDLY.DELAY i) (wrapInt 32 (spanDelay t1 (s.now4 q.val) (beAt f.payload 4 8) (beAt f.payload 12 8)))
  | none => s

/-! ### Reception (R103 to R106, R113) -/

/-- The arrival pool of a class (R204): 0 is H, 1 is L. -/
def poolOf (c : Nat) : Nat := if 3 ≤ c then 0 else 1

/-- Whether the security checks of the header pass (R111 to R113). -/
def State.saOk (s : State) (p : Nat) (f : Frame) : Bool :=
  if f.sec then
    (s.g (PORT_SA_CTRL.RX_EN p)).testBit f.an && (s.g (PORT_SA_STAT.RX_KEY p)).testBit f.an &&
      decide (SMap.get (fun _ => 0) (s.port p).rxHigh f.an < f.pn)
  else !s.flag (PORT_CFG.SEC p) || f.typ == tyHello

/-- The internal port that an extracted frame goes to (R200, R254); none for those that Aqueduct and Clepsydra act on in
passing. -/
def extractPort (t : Nat) : Option Nat :=
  if t = tySummation ∨ t = tySync then none
  else if t = tyTunCan ∨ t = tyTunEth ∨ t = tyTunPkt then some 9
  else some 8

/-- What R104 does with a frame: consumed, stripped or discarded (the counter that counts it, if one does), or extracted and
forwarded. -/
inductive RxAct where
  | drop (cnt : Option Nat)
  | pass (extract forward : Bool)
deriving DecidableEq, Repr

/-- The first matching row of R104. -/
def State.rxRow (s : State) (p : Nat) (f : Frame) : RxAct :=
  if linkLocal f.typ then .pass false false
  else if 1 ≤ f.turns ∧ f.epoch ≠ s.epochOf (planeOf p) then .drop (some (PORT_EPOCH_DROP.off p))
  else if f.src = s.node ∧ (f.turns = 0 ∨ f.turns = 2) then .pass false false
  else if f.dst = s.node then .pass true false
  else if s.inGroup f.dst then .pass true (f.hops != 4095)
  else if f.hops = 4095 then .drop (some (PORT_HOP_DROP.off p))
  else .pass false true

/-- The frame begins to be received: nothing of it is used. -/
def State.rxDead (s : State) (p : Nat) (h : List Byte) : State :=
  s.pm p (fun q => { q with rx := some ⟨h, decHeader h, s.now4 0, false, none, false, none, true⟩ })

/-- The internal and ring targets of a frame that passes. -/
def rxTargets (p : Nat) (f : Frame) (extract forward : Bool) : List Nat :=
  (if forward then [otherPort p] else []) ++ (if extract then (extractPort f.typ).toList else [])

/-- A ring frame of class 7, 6 or 5 admitted, or counted as an overrun where a target queue is full (R208, R209): the number of the
frame stored, if one is. -/
def State.admitRing (s : State) (p : Nat) (f : Frame) (targets : List Nat) (cut : Bool) (tIn : Nat) : Option Nat × State :=
  let (cs, s') := s.transitCopies f targets
  if s.roomAll cs f.cls (tilesFor (frameBytes f)) then
    let (id, s) := s'.store p f.cls cs f false cut false (frameBytes f) tIn
    (some id, if cut then s.mirrorCut f p id tIn else s.mirror f false false p f.cls tIn false false)
  else (none, (s.count SW_OVERRUN.off).raise (evSw 2) clDegraded)

/-- The port that a frame received at port `p` leaves through (R104, R117). -/
def State.egressOf (s : State) (p : Nat) : Nat := if s.turned (otherPort p) then p else otherPort p

/-- PELUM_FRAME_RECEIVE (R103, R104, R106, R113, R16): the 32 header bytes of a frame arrive at a ring port, `q` quarter ns after the
tick; `slow` tells that the token rate cannot take it at line rate. -/
def pelumFrameReceive (p : Fin 4) (hdr : List Byte) (q : Fin 16) (slow : Bool) (s : State) : State :=
  let i := p.val
  let f := decHeader hdr
  if !s.portRuns i ∨ s.pst i < psHello then s
  else if hdrBad hdr then
    (s.hdrErr i).rxDead i hdr
  else if !s.saOk i f then (s.count (PORT_SA_ERR.off i)).rxDead i hdr
  else if s.pst i ≠ psUp ∧ !linkLocal f.typ then s.rxDead i hdr
  else if slow ∧ 5 ≤ f.cls ∧ s.g PWR_AVS_STAT.VSET < 700 then
    ((s.count RING_OVERRUN_CNT.off).raise (evRing 6) clDegraded).rxDead i hdr
  else
    match s.rxRow i f with
    | .drop c => (match c with | some k => s.count k | none => s).rxDead i hdr
    | .pass ex fw =>
      let s := if !fw ∧ ex ∧ f.dst ≠ s.node then s.count (PORT_HOP_DROP.off i) else s
      let ts := rxTargets i f ex fw
      let cut := decide (5 ≤ f.cls) && !linkLocal f.typ && decide (s.g (PORT_CFG.MODE (s.egressOf i)) ≤ s.g (PORT_CFG.MODE i))
      if cut ∧ ts ≠ [] then
        let (id, s) := s.admitRing i f ts true (s.now4 q.val)
        s.pm i (fun x => { x with rx := some ⟨hdr, f, s.now4 q.val, ex, id, false, none, id.isNone⟩ })
      else
        s.pm i (fun x => { x with rx := some ⟨hdr, f, s.now4 q.val, ex, none, false,
          if f.cls ≤ 4 then some (poolOf f.cls) else none, false⟩ })

/-- The duplicate check of extracted frames that are not work (R105): whether the copy is new, and the state with it accepted. `dupHigh` holds
the highest SEQ plus 1; 0 for none. DESIGN CHOICE: SEQ is compared in serial-number arithmetic modulo 2^32. -/
def State.fresh105 (s : State) (f : Frame) : Bool × State :=
  let k := f.src * 8 + f.cls
  let hi := SMap.get (fun _ => 0) s.links.dupHigh k
  let ahead := (f.seq + 1 + 2 ^ 32 - hi) % 2 ^ 32
  let back := (hi + 2 ^ 32 - (f.seq + 1)) % 2 ^ 32
  let mask := SMap.get (fun _ => 0) s.links.dupMask k
  let put := fun (h m : Nat) => { s with links := { s.links with
    dupHigh := SMap.set (fun _ => 0) s.links.dupHigh k h, dupMask := SMap.set (fun _ => 0) s.links.dupMask k m } }
  if hi = 0 then (true, put (f.seq + 1) 0)
  else if 0 < ahead ∧ ahead < 2 ^ 31 then (true, put (f.seq + 1) (if 64 < ahead then 0 else (mask * 2 + 1) * 2 ^ (ahead - 1) % 2 ^ 64))
  else if back = 0 ∨ 64 < back ∨ mask.testBit (back - 1) then (false, s)
  else (true, put hi (mask ||| 2 ^ (back - 1)))

/-- The end of a good frame that was stored cut-through: its payload is known, it is complete. -/
def State.cutGood (s : State) (id : Nat) (pl : List Byte) : State :=
  match s.sframe id with
  | some f =>
    let g := { f.frame with payload := pl }
    let s := { s with sw := { s.sw with queues := s.sw.queues.map (fun (q : QEnt) =>
      if q.id = id then { q with hdr := { q.hdr with payload := pl } } else q) } }
    let s := s.setSframe { f with frame := g, cut := false, delivered := f.delivered || !f.started.isEmpty }
    let s := f.started.foldl (fun s e =>
      let h := { e.2 with payload := pl }
      (s.putLine e.1 h false).mirror h false false e.1 h.cls f.tIn true false) s
    s.tidy id
  | none => s

/-- The tiles of a class 4 to 0 frame that takes no place in its arrival pool: FREED counts them. -/
def State.freeRx (s : State) (p : Nat) (r : RxSlot) : State :=
  match r.pool with
  | some k => s.poolFree p k (tilesFor (frameBytes r.frame))
  | none => s

/-- The end of a good frame that was received whole. -/
def State.wholeGood (s : State) (p : Nat) (r : RxSlot) (f : Frame) : State :=
  let fw := match s.rxRow p f with | .pass _ b => b | .drop _ => false
  let dupCheck := r.extract && decide (f.cls ≤ 4) && !f.work
  let (new, s) := if dupCheck then s.fresh105 f else (true, s)
  let ts := if linkLocal f.typ then [] else rxTargets p f (r.extract && new) fw
  match r.pool with
  | some k =>
    if ts = [] then s.freeRx p r
    else
      let t := tilesFor (frameBytes f)
      let s := s.pm p (fun q => if k = 0 then { q with arrH := q.arrH + t } else { q with arrL := q.arrL + t })
      s.pushWait ⟨p, f.cls, ts, f, false, frameBytes f, some k, r.tIn⟩
  | none => if ts = [] then s else (s.admitRing p f ts false r.tIn).2

/-- The payload of a received frame, decrypted where it is secured, and whether its ICV is right (R111, R113). -/
def State.rxPlain (s : State) (p : Nat) (r : RxSlot) (wire : List Byte) : List Byte × Bool :=
  if r.frame.sec then
    let key := s.linkKey p r.frame.an true
    let iv := hopIv (s.hopUid p true) r.frame.pn
    let ct := wire.take r.frame.len
    (hopCtr key iv ct, wire.drop r.frame.len == hopTag key iv (r.hdr.take 30) ct)
  else (wire, true)

/-- The end of the frame that a port is receiving (R98, R106, R113, R216): the bytes between header and trailer, and the trailer. DESIGN CHOICE: the trailer of a frame discarded at its header is not looked at, and a PN counts as accepted with a good trailer and
ICV. -/
def State.frameEnd (s : State) (i : Nat) (wire : List Byte) (trailer : Word) (tile : Option (Fin 16384)) : State :=
  match (s.port i).rx with
  | none => s
  | some r =>
    let s := s.pm i (fun q => { q with rx := none })
    let s := (s.traffic (PORT_RX_BYTES_LO.off i) (36 + wire.length)).traffic (PORT_RX_FRAMES_LO.off i) 1
    if r.dead then s
    else
      let kind := trailerKind (r.hdr ++ wire) trailer
      let long := wire.length ≠ r.frame.len + (if r.frame.sec then 16 else 0)
      let (plain, icvGood) := s.rxPlain i r wire
      let icv := r.frame.sec && !icvGood
      let pl := if r.passed then r.frame.payload else plain
      let s := match r.stored with
        | some id => s.mirrorFill id (r.hdr ++ wire ++ bytesBE 4 trailer.toNat)
        | none => s
      let s := if kind = 1 then s.count (PORT_STOMP_RX.off i)
        else if kind = 2 ∨ long then (s.count (PORT_CRC_ERR.off i)).pm i (fun q => { q with winErr := q.winErr + 1 })
        else if icv then (s.count (PORT_ICV_ERR.off i)).pm i (fun q => { q with winErr := q.winErr + 1 })
        else s
      if kind ≠ 0 ∨ long ∨ icv then
        let s := (s.endExtracts i false none).freeRx i r
        match r.stored with
        | some id => s.cutBad id pl
        | none => s
      else
        let s := if r.frame.sec then
            s.pm i (fun q => { q with rxHigh := SMap.set (fun _ => 0) q.rxHigh r.frame.an (max r.frame.pn (SMap.get (fun _ => 0) q.rxHigh r.frame.an)) })
          else s
        let f := { r.frame with payload := pl }
        let s := match r.stored with
          | some id => s.cutGood id pl
          | none => s.wholeGood i r f
        s.endExtracts i true tile

/-- FRAME_TRAILER_CHECK (R98, R494): the end of the frame being received; an injected error inverts a bit of its trailer. -/
def frameTrailerCheck (p : Fin 4) (payload icv : List Byte) (trailer : Word) (tile : Option (Fin 16384)) (s : State) : State :=
  if s.sump.inj.contains (.trailer p) ∧ (s.port p.val).rx.isSome then
    (s.injMet (.trailer p)).asInjected (·.frameEnd p.val (payload ++ icv) (trailer ^^^ 1) tile)
  else s.frameEnd p.val (payload ++ icv) trailer tile

/-! ### Egress (R107, R109, R111 to R114, R133, R213 to R215) -/

/-- The tiles that a copy fills at the downstream neighbour (R214): as it stands on this hop, with its ICV. -/
def State.hopTiles (s : State) (p : Nat) (q : QEnt) : Nat := tilesFor (s.wireLen p q.hdr)

/-- Whether the credit at the downstream neighbour suffices for a class 4 to 0 frame (R214). -/
def State.creditOk (s : State) (p : Nat) (q : QEnt) : Bool :=
  if 5 ≤ q.cls then true
  else
    let need := s.hopTiles p q + (if q.transit then 0 else if 3 ≤ q.cls then 5 else 65)
    decide (need ≤ (if poolOf q.cls = 0 then (s.port p).credH else (s.port p).credL))

/-- The AN that the next secured frame of a port takes (R112). -/
def State.nextAn (s : State) (p : Nat) : Nat :=
  let an := s.g (PORT_SA_CTRL.TX_AN p)
  if (s.g (PORT_SA_STAT.TX_KEY p)).testBit an then an else s.g (PORT_SA_STAT.TX_ACT p)

/-- Whether a frame that leaves a port is secured (R111), and whether the port has the key it needs. -/
def State.secures (s : State) (p : Nat) (f : Frame) : Bool := s.flag (PORT_CFG.SEC p) && f.typ != tyHello
def State.keyReady (s : State) (p : Nat) (f : Frame) : Bool := !s.secures p f || (s.g (PORT_SA_STAT.TX_KEY p)).testBit (s.nextAn p)

/-- Whether a queued copy may start at a ring egress now: in UP any frame, else link-local ones, in LOOP those of R126 alone. -/
def State.canStart (s : State) (p : Nat) (q : QEnt) : Bool :=
  q.port == p && (s.pst p == psUp || (linkLocal q.hdr.typ && (s.pst p != psLoop || q.hdr.typ != tyRunnel))) &&
    s.keyReady p q.hdr && s.mayStart p q.hdr q.transit && s.creditOk p q

/-- The copy a ring egress starts next (R107): highest class, transit before local. -/
def State.ringNext (s : State) (p : Nat) : Option QEnt :=
  [7, 6, 5, 4, 3, 2, 1, 0].findSome? (fun c =>
    match s.sw.queues.find? (fun q => q.cls == c && q.transit && s.canStart p q) with
    | some q => some q
    | none => s.sw.queues.find? (fun q => q.cls == c && !q.transit && s.canStart p q))

/-- The header fields that the egress writes at departure (R101, R109, R269): RESCORR, ORIGIN of a SYNC, T3 of an LDLY_RSP. -/
def State.depart (s : State) (f : Frame) (local_ : Bool) (tIn q : Nat) : Frame :=
  if !local_ then { f with rescorr := wrapInt 64 ((f.rescorr : Int) + s.sinceIn tIn q) }
  else if f.typ = tySync then
    let y := decSync f.payload
    { f with rescorr := q % 4 * 16384,
             payload := encSync { y with osec := (s.stampQ q).1, ons := (s.stampQ q).2.1 } }
  else if f.typ = tyLdlyRsp then
    { f with payload := f.payload.take 12 ++ bytesBE 8 (wrapInt 64 (s.fns * 65536 + (q * 16384 : Nat))) ++ f.payload.drop 20 }
  else f

/-- The transmit association put in use at a frame start (R112). -/
def State.useTxAn (s : State) (p : Nat) : State :=
  let an := s.g (PORT_SA_CTRL.TX_AN p)
  if (s.g (PORT_SA_STAT.TX_KEY p)).testBit an ∧ an ≠ s.g (PORT_SA_STAT.TX_ACT p) then
    (s.p (PORT_SA_STAT.TX_ACT p) an).p (PORT_TX_PN.PN p) (SMap.get (fun _ => 1) (s.port p).txNext an)
  else s

/-- The packet number of a secured frame used (R113, R114): PN 1 is the first; at 0xC000_0000 REKEY is set with a Note event. -/
def State.usePn (s : State) (p : Nat) : Nat × State :=
  let an := s.g (PORT_SA_STAT.TX_ACT p)
  let n := SMap.get (fun _ => 1) (s.port p).txNext an
  let s := s.pm p (fun q => { q with txNext := SMap.set (fun _ => 1) q.txNext an (n + 1) })
  let s := s.p (PORT_TX_PN.PN p) (n + 1)
  (n, if n + 1 = 0xC0000000 then ((s.pb (PORT_SA_STAT.REKEY p) true).raise (evPort p 4) clNote).kaStart p false else s)

/-- The residence of a class 7 to 5 transit frame recorded, in 1/16 ns (R129). -/
def State.residence (s : State) (p : Nat) (q : QEnt) (tIn sub : Nat) : State :=
  if q.transit ∧ 5 ≤ q.cls then
    let r := (s.sinceIn tIn sub / 4096).toNat
    (s.p (PORT_RES_LAST.RES p) r).p (PORT_RES_MAX.RES p) (max r (s.g (PORT_RES_MAX.RES p)))
  else s

/-- A copy started at a ring egress: departure stamps, security, counters, credit, and the copy's end or its cut-through tail. -/
def State.startCopy (s : State) (p : Nat) (e : QEnt) (f : SFrame) (sub : Nat) : State :=
  let s := s.useTxAn p
  let sec := s.secures p e.hdr
  let g := s.depart e.hdr (4 ≤ f.inPort) f.tIn sub
  let (pn, s) := if sec then s.usePn p else (0, s)
  let g := { g with sec := sec, an := if sec then s.g (PORT_SA_STAT.TX_ACT p) else 0, pn := pn }
  let s := s.residence p e f.tIn sub
  let s := (s.traffic (PORT_TX_BYTES_LO.off p) (frameBytes g)).traffic (PORT_TX_FRAMES_LO.off p) 1
  let t := s.hopTiles p e
  let dur : Int := (frameBytes g * byteTime (s.g (PORT_CFG.MODE p)) + 99 : Nat) / 100
  let s := s.pm p (fun q =>
    let q := { q with tx := some g, busyTo := s.absNs + dur, reqT1 := if g.typ = tyLdlyReq then some (s.now4 sub) else q.reqT1 }
    if 5 ≤ e.cls then q
    else if poolOf e.cls = 0 then { q with credH := q.credH - t } else { q with credL := q.credL - t })
  if f.cut then (s.unqueue e).setSframe { f with started := f.started ++ [(p, g)] }
  else ((s.unqueue e).putLine p g false).copyDone { e with hdr := g }

/-- EGRESS_FRAME_START (R107): a free ring egress starts its next frame, `sub` quarter ns after the tick; `bad` is the tile whose two
reads mismatched, if one did (R217). At PN 0xFFFF_FFFF the port stops and declares link loss with cause 6 (R114). -/
def egressFrameStart (p : Fin 4) (sub : Fin 16) (bad : Option Nat) (s : State) : State :=
  let i := p.val
  if !s.portRuns i ∨ s.pst i < psHello ∨ s.absNs < (s.port i).busyTo then s
  else
    match s.ringNext i with
    | none => s
    | some e =>
      match s.sframe e.id with
      | none => s
      | some f =>
        match bad with
        | some t => (s.putLine i e.hdr true).tileBad e t
        | none =>
          if s.secures i e.hdr ∧ 0xFFFFFFFF ≤ SMap.get (fun _ => 1) (s.port i).txNext (s.nextAn i) then s.linkLoss i 6
          else s.startCopy i e f sub.val

/-! ### Ordered sets (R115, R213) -/

/-- HEARTBEAT_SEND (R115): the heartbeat on a port past TRAIN, 1 µs after the last frame byte or heartbeat. -/
def heartbeatSend (p : Fin 4) (s : State) : State :=
  let i := p.val
  if s.portRuns i ∧ psHello ≤ s.pst i ∧ 1000 ≤ s.absNs - (s.port i).busyTo then
    s.pm i (fun q => { q with line := heartbeatLine (s.g (PORT_CFG.MODE i)), busyTo := s.absNs })
  else s

/-- CREDIT_SET_SEND (R213): between frames, the set with FREED_H and FREED_L, twice back to back. -/
def creditSetSend (p : Fin 4) (s : State) : State :=
  let i := p.val
  if s.portRuns i ∧ s.pst i = psUp ∧ (s.port i).busyTo ≤ s.absNs then
    s.pm i (fun q =>
      let l := creditLine (s.g (PORT_CFG.MODE i)) q.freedH q.freedL
      { q with line := l ++ l, freedSent := some (q.freedH, q.freedL) })
  else s

/-- CREDIT_SET_RECEIVE (R213): a count is adopted from two consecutive identical sets. -/
def creditSetReceive (p : Fin 4) (h l : Fin 256) (s : State) : State :=
  let i := p.val
  if !s.portRuns i ∨ s.pst i ≠ psUp then s
  else if (s.port i).rxSet = some (h.val, l.val) then
    s.pm i (fun q => { q with
      credH := q.credH + (h.val + 256 - q.nbrFreedH) % 256, credL := q.credL + (l.val + 256 - q.nbrFreedL) % 256,
      nbrFreedH := h.val, nbrFreedL := l.val })
  else s.pm i (fun q => { q with rxSet := some (h.val, l.val) })

/-! ### Register writes (R125, R128) -/

/-- A write of PORT_CFG (R128): a change of MODE, FEC or SEC restarts the PCS. -/
def State.portCfgWrite (s : State) (p : Nat) (new : Word) : Nat × State :=
  let old := s.rd (PORT_CFG.off p)
  let chg := (PORT_CFG.MODE p).get new ≠ (PORT_CFG.MODE p).get old ∨ (PORT_CFG.FEC p).get new ≠ (PORT_CFG.FEC p).get old ∨
    (PORT_CFG.SEC p).get new ≠ (PORT_CFG.SEC p).get old
  let s := s.wr (PORT_CFG.off p) new
  let s := if (PORT_CFG.MODE p).get new ≠ 0 then s.pb (PORT_STAT.SD p) (s.ringSignal p) else s
  if !chg then (stOK, s)
  else
    let st := s.pst p
    if psHello ≤ st ∧ st ≤ psUp then (stOK, s.linkLoss p 5)
    else
      let s := (s.dropRx p).pb (PORT_STAT.LOCK p) false
      (stOK, s.setPst p (if (PORT_CFG.MODE p).get new ≠ 0 ∧ s.flag (PORT_STAT.SD p) then psTrain else psDown))

/-- A write of PORT_BYP (R125): INSERT = 1 drives BYP_N high while RING_A and AQUEDUCT are on; 0 drives it low. -/
def State.bypWrite (s : State) (new : Word) : Nat × State :=
  if PORT_BYP.INSERT.get new = 1 ∧ s.domOn 3 ∧ s.domOn 5 then (stOK, (s.pb PORT_BYP.INSERT true).pb PORT_BYP.PIN true)
  else (stOK, s.bypassDrop)

end Sys2Proof.Machine
end

