-- ==== Sys2Proof/Machine/Ka.lean ====
section
/-! DEFINITION. Key agreement of the ring hops (R470, R471, R473): the blocks received, the switch to the new association, and its
retries. -/

namespace Sys2Proof.Machine

/-- A received block: its KIND, AN, certificate, ephemeral key and signature. -/
def kaKind (b : List Byte) : Nat := beAt b 0 1
def kaAn (b : List Byte) : Nat := beAt b 1 1 % 4
def kaCert (b : List Byte) : List Byte := slice b 4 208
def kaEph (b : List Byte) : List Byte := slice b 212 96

/-- A block with its signature field zero. -/
def kaBlank (b : List Byte) : List Byte := slice b 0 308 ++ List.replicate 96 0

/-- Whether a node certificate is accepted from a neighbour (R470): the issuer entry has NODE_CA, the signature verifies, and NODE_ID
is the HELLO sender. -/
def State.certOk (s : State) (nd : Nat) (c : List Byte) : Bool :=
  (s.keyOf (natLE (slice c 106 4)) kNODECA).any (fun ca =>
    Config.ecdsa ca.pub (slice c 0 112) (slice c 112 96)) && natLE (slice c 0 2) == nd

/-- Whether a block's signature verifies under a certificate's DIK, after the blocks before it. -/
def kaSigned (cert before b : List Byte) : Bool := Config.ecdsa (slice cert 10 96) (before ++ kaBlank b) (slice b 308 96)

/-- A key agreement that failed (R471, R123): counted; CHK 4 with a Note event on a link coming up. It is retried after 1 s. -/
def State.kaFail (s : State) (p : Nat) : State :=
  let k := s.kaOf p
  let s := (s.count SEC_KA_FAIL.off).raise (evSec 4) clEvent
  let s := s.setKa p { k with stage := 4, out := [], startAt := s.absNs }
  if k.newLink then (s.p (PORT_STAT.CHK p) 4).raise (evPort p 5) clNote else s

/-- The two link keys of an agreement (R470): the lower ID's sending key first. -/
def State.kaKeys (s : State) (p : Nat) (k : Ka) : List Byte × List Byte :=
  let me := s.node
  let nb := s.nbrId p
  let mine := Config.ephPub k.eph
  let lower := me < nb
  let info := [0x50, 0x45, 0x4C, 0x55, 0x4D] ++ bytesLE 2 (min me nb) ++ bytesLE 2 (max me nb) ++ bytesLE 1 k.an ++
    (if lower then mine ++ k.peer else k.peer ++ mine)
  let out := Config.kdf k.eph k.peer info
  (slice out 0 32, slice out 32 32)

/-- The receive key of an agreement installed in its AN: a new association starts at PN 1 (R113). -/
def State.installRx (s : State) (p : Nat) (k : Ka) : State :=
  let (lo, hi) := s.kaKeys p k
  let s := s.setLinkKey p k.an true (if s.kaLower p then hi else lo)
  let s := s.p (PORT_SA_STAT.RX_KEY p) (setBits (s.g (PORT_SA_STAT.RX_KEY p)) k.an 1 1)
  let s := s.p (PORT_SA_CTRL.RX_EN p) (setBits (s.g (PORT_SA_CTRL.RX_EN p)) k.an 1 1)
  s.pm p (fun q => { q with rxHigh := SMap.set (fun _ => 0) q.rxHigh k.an 0 })

/-- The transmit key of an agreement installed and TX_AN set; the old AN leaves RX_EN 1 s later; a link coming up goes on to HOLD
(R471, R121). -/
def State.installTx (s : State) (p : Nat) (k : Ka) : State :=
  let (lo, hi) := s.kaKeys p k
  let old := s.g (PORT_SA_CTRL.TX_AN p)
  let s := s.setLinkKey p k.an false (if s.kaLower p then lo else hi)
  let s := s.p (PORT_SA_STAT.TX_KEY p) (setBits (s.g (PORT_SA_STAT.TX_KEY p)) k.an 1 1)
  let s := s.p (PORT_SA_CTRL.TX_AN p) k.an
  let s := s.pm p (fun q => { q with txNext := SMap.set (fun _ => 1) q.txNext k.an 1 })
  let s := if s.g (PORT_SA_STAT.TX_ACT p) = k.an then s.p (PORT_TX_PN.PN p) 1 else s
  let drop := if old ≠ k.an then [(old, s.absNs)] else []
  let s := s.setKa p { k with stage := 0, blocks := [], eph := 0, peer := [], old := k.old ++ drop, setAt := s.absNs }
  if s.pst p = psSecure then (s.p (PORT_STAT.CHK p) 0).enterHold p else s

/-- Whether an INIT is discarded (R470, R473): on a link coming up by the node with the lower ID; else by it while its own INIT stands. -/
def State.kaDiscard (s : State) (p : Nat) : Bool := s.kaLower p && (s.pst p == psSecure || (s.kaOf p).stage == 1)

/-- KA_INIT_RECEIVE (R470, R473): the responder verifies INIT and answers RESP. -/
def kaInitReceive (p : Fin 4) (f : Frame) (s : State) : State :=
  let i := p.val
  let b := f.payload.drop 32
  if !s.kaLive i ∨ !s.portRuns i ∨ s.kaDiscard i ∨ kaKind b ≠ 1 ∨ s.flag SEC_STAT.ERR then s
  else
    let k := { s.kaOf i with newLink := s.pst i == psSecure }
    if !s.certOk (s.nbrId i) (kaCert b) ∨ !kaSigned (kaCert b) [] b then (s.setKa i k).kaFail i
    else
      let n := s.sec.ephNo
      let r := kaSign b (kaBody 2 (kaAn b) (s.sec.cert.getD []) (Config.ephPub n))
      (s.sm (fun c => { c with ephNo := n + 1 })).setKa i { k with
        stage := 2, an := kaAn b, blocks := b ++ r, eph := n, peer := kaCert b ++ kaEph b, startAt := s.absNs, out := r }

/-- KA_RESP_RECEIVE (R471 step 1): the initiator verifies RESP, installs its receive key and sends CONFIRM. -/
def kaRespReceive (p : Fin 4) (f : Frame) (s : State) : State :=
  let i := p.val
  let b := f.payload.drop 32
  let k := s.kaOf i
  if !s.kaLive i ∨ k.stage ≠ 1 ∨ kaKind b ≠ 2 then s
  else if kaAn b ≠ k.an ∨ !s.certOk (s.nbrId i) (kaCert b) ∨ !kaSigned (kaCert b) k.blocks b then s.kaFail i
  else
    let c := kaSign (k.blocks ++ b) (kaBody 3 k.an [] [])
    let k := { k with stage := 3, peer := kaEph b, blocks := k.blocks ++ b ++ c, confAt := s.absNs, out := c }
    (s.installRx i k).setKa i k

/-- KA_CONFIRM_RECEIVE (R471 step 2): the responder verifies CONFIRM, installs both keys and sets TX_AN. -/
def kaConfirmReceive (p : Fin 4) (f : Frame) (s : State) : State :=
  let i := p.val
  let b := f.payload.drop 32
  let k := s.kaOf i
  if !s.kaLive i ∨ k.stage ≠ 2 ∨ kaKind b ≠ 3 then s
  else if kaAn b ≠ k.an ∨ !kaSigned (k.peer.take 208) k.blocks b then s.kaFail i
  else
    let k := { k with peer := k.peer.drop 208 }
    (s.installRx i k).installTx i k

/-- KA_TX_SWITCH (R471 step 3): the first frame under the new AN has arrived, or 1 ms has passed since CONFIRM. -/
def kaTxSwitch (p : Fin 4) (s : State) : State :=
  let k := s.kaOf p.val
  let seen := SMap.get (fun _ => 0) (s.port p.val).rxHigh k.an ≠ 0
  if k.stage = 3 ∧ (seen ∨ 1000000 ≤ s.absNs - k.confAt) then s.installTx p.val k else s

/-- KA_OLD_AN_CLEAR (R471 step 4): 1 s after its own switch a side clears the old AN from RX_EN. -/
def kaOldAnClear (p : Fin 4) (s : State) : State :=
  let i := p.val
  let k := s.kaOf i
  let due := k.old.filter (fun e => decide (1000000000 ≤ s.absNs - e.2))
  let s := due.foldl (fun s e =>
    if e.1 = s.g (PORT_SA_CTRL.TX_AN i) then s
    else s.p (PORT_SA_CTRL.RX_EN i) (setBits (s.g (PORT_SA_CTRL.RX_EN i)) e.1 1 0)) s
  s.setKa i { k with old := k.old.filter (fun e => decide (s.absNs - e.2 < 1000000000)) }

/-- KA_TIMEOUT (R471): no answer within 1 s counts a failure; the agreement is tried again. -/
def kaTimeout (p : Fin 4) (s : State) : State :=
  let i := p.val
  let k := s.kaOf i
  if !s.kaLive i ∨ s.absNs - k.startAt < 1000000000 ∨ k.stage = 0 ∨ k.stage = 3 then s
  else (if k.stage = 4 then s else s.kaFail i).kaStart i (s.pst i == psSecure)

/-- REKEY_PERIODIC (R471): REKEY_H hours after the last association. -/
def rekeyPeriodic (p : Fin 4) (s : State) : State :=
  let i := p.val
  let h := s.g SEC_CFG.REKEY_H
  let k := s.kaOf i
  if s.kaLive i ∧ s.pst i ≠ psSecure ∧ h ≠ 0 ∧ k.stage = 0 ∧ 3600000000000 * (h : Int) ≤ s.absNs - k.setAt then s.kaStart i false else s

end Sys2Proof.Machine
end

