-- ==== Sys2Proof/Machine/FlowCore.lean ====
section
/-! DEFINITION. The flow engine's own part of exactly-once delivery (R161 to R176, R180 to R183): journal lines and groups, the line
budget, submission and its limits, work frames and acknowledgements, and the reading of a journal after a stop. What an item does to
its target, and what its outcome does to its initiator's path, is in FlowPath and FlowApply. -/

namespace Sys2Proof.Machine

/-- LOST, and the host-port codes for a reported outcome (R180, R235). -/
def stLOST : Nat := 0xA
def stDOUBT : Nat := 0x16
def stABANDONED : Nat := 0x17

/-- States of the flow engine (FLOW_STAT.STATE). -/
def feRecover : Nat := 0
def feRun : Nat := 1
def feStopping : Nat := 2

/-- Whether the flow engine runs. -/
def State.flowRuns (s : State) : Bool := s.g FLOW_STAT.STATE == feRun

/-- The flow engine's record changed. -/
def State.fm (s : State) (f : Flows → Flows) : State := { s with flow := f s.flow }

/-- A flow's record. -/
def State.fl (s : State) (f : Nat) : Flow := SMap.get Flow.dflt s.flow.flows f

/-- A flow's record replaced. -/
def State.setFl (s : State) (f : Nat) (v : Flow) : State := s.fm (fun x => { x with flows := SMap.set Flow.dflt x.flows f v })

/-- Serial-number comparison modulo 2^32 (R163): whether `a` comes after `b`. -/
def after32 (a b : Nat) : Bool := let d := (a + 2 ^ 32 - b % 2 ^ 32) % 2 ^ 32; decide (0 < d ∧ d < 2 ^ 31)

/-! ### Destinations (R162, R182, R183) -/

/-- FLOW_CFG of a flow. -/
def State.flowValid (s : State) (f : Nat) : Bool := s.flag (FLOW_CFG.VALID.at f)
def State.flowGroup (s : State) (f : Nat) : Bool := s.flag (FLOW_CFG.GROUP.at f)
def State.flowNode (s : State) (f : Nat) : Nat := s.g (FLOW_CFG.NODE.at f)

/-- Whether a flow's destination is this node. -/
def State.flowLocal (s : State) (f : Nat) : Bool := !s.flowGroup f && (s.flowNode f == 0 || s.flowNode f == s.node)

/-- The member table entries of a group (R183), by its number: group 0xFF00 + n, 255 for 0xFFFF. -/
def State.memberRange (s : State) (g : Nat) : List Nat :=
  if s.flag (FLOW_GRP_CFG.VALID.at g) then
    (List.range (s.g (FLOW_GRP_CFG.COUNT.at g))).map (fun k => s.g (FLOW_GRP_CFG.FIRST.at g) + k)
  else []

/-- The nodes listed for the group of a flow. -/
def State.members (s : State) (f : Nat) : List Nat :=
  ((s.memberRange (s.flowNode f % 256)).map (fun e => s.g (FLOW_MEM.NODE.at e))).filter (fun n => n != 0)

/-! ### Journal lines (R171, R172) -/

/-- Lines of an item record of `d` data bytes (R172). -/
def accLines (d : Nat) : Nat := if d ≤ 24 then 1 else 1 + (d - 24 + 51) / 52

/-- Lines of a record. -/
def recLines : JRec → Nat
  | .acc it _ => accLines it.data.length
  | _ => 1

/-- Bytes padded with zeros to `n`. -/
def padTo (n : Nat) (l : List Byte) : List Byte := l ++ List.replicate (n - l.length) 0

/-- A list cut into parts of `n` elements, at most `k` parts. -/
def chunks {α : Type} (n : Nat) : Nat → List α → List (List α)
  | 0, _ => []
  | k + 1, l => if l.isEmpty then [] else l.take n :: chunks n k (l.drop n)

/-- The lines of an ACC record: KIND, CONT and BODY of each. -/
def accBodies (it : Item) : List (Nat × Bool × List Byte) :=
  let head := bytesLE 2 it.flow ++ bytesLE 1 it.op ++ bytesLE 1 it.mid ++ bytesLE 4 it.seq ++ bytesLE 4 it.inc ++
    bytesLE 8 it.addr ++ bytesLE 2 it.data.length ++ bytesLE 6 it.accept ++ padTo 24 (it.data.take 24)
  (1, false, head) :: (chunks 52 8 (it.data.drop 24)).map (fun c => (1, true, padTo 52 c))

/-- The line of an INTENT record. -/
def intentBody (it : InItem) : List (Nat × Bool × List Byte) :=
  [(2, false, padTo 52 (bytesLE 2 it.src ++ bytesLE 2 it.flow ++ bytesLE 4 it.seq ++ bytesLE 4 it.inc ++ bytesLE 1 it.op ++
    List.replicate 7 0 ++ bytesLE 8 it.addr))]

/-- The line of an APPLIED record. -/
def appliedBody (k : Kept) (keep : Bool) : List (Nat × Bool × List Byte) :=
  [(3, false, padTo 52 (bytesLE 2 k.src ++ bytesLE 2 k.flow ++ bytesLE 4 k.seq ++ bytesLE 4 k.inc ++ bytesLE 1 k.status ++
    bytesLE 1 (b2n keep) ++ bytesLE 6 k.apply ++ bytesLE 8 k.result))]

/-- The line of an OUTSTATE record: flow, INC, LOW of at most four flows. -/
def outBody (l : List (Nat × Nat × Nat)) : List (Nat × Bool × List Byte) :=
  [(4, false, padTo 52 ((l.map (fun e => bytesLE 2 (e.1 + 32768) ++ bytesLE 2 0 ++ bytesLE 4 e.2.1 ++ bytesLE 4 e.2.2)).flatten))]

/-- The line of an INSTATE record: source, flow, INC, NEXT of at most four entries. -/
def inBody (l : List (Nat × Nat × Nat × Nat)) : List (Nat × Bool × List Byte) :=
  [(5, false, padTo 52 ((l.map (fun e =>
    bytesLE 2 e.1 ++ bytesLE 2 (e.2.1 + 32768) ++ bytesLE 4 e.2.2.1 ++ bytesLE 4 e.2.2.2)).flatten))]

/-- A journal line (R171). -/
def lineBytes (lsn : Nat) (last : Bool) (b : Nat × Bool × List Byte) : List Byte :=
  let l := bytesLE 7 lsn ++ bytesLE 1 (b2n last * 128 + b2n b.2.1 * 64 + b.1) ++ padTo 52 b.2.2
  l ++ bytesLE 4 (crc32c l)

/-- Journal ring lines (R170). -/
def ringLines : Nat := 49152

/-- A line never written. -/
def lineDflt (_ : Nat) : List Byte := []

/-- Lines written at the head in order, the last with LAST = 1 (R171, R174). -/
def State.writeLines (s : State) (l : List (Nat × Bool × List Byte)) : State :=
  let n := l.length
  let s := (l.zipIdx).foldl (fun s e => s.fm (fun x => { x with
    ring := SMap.set lineDflt x.ring ((x.lsn + e.2) % ringLines) (lineBytes (x.lsn + e.2) (e.2 + 1 == n) e.1) })) s
  (s.fm (fun x => { x with lsn := (x.lsn + n) % 2 ^ 56 })).traffic FLOW_LINES_LO.off n

/-! ### The line budget and the groups (R167 to R169) -/

/-- The budget now, in ns of refill: 4,000 ns a line, at most 4,096 lines (R168). -/
def State.budNow (s : State) : Nat := min 16384000 (s.flow.bud + (s.absNs - s.flow.budAt).toNat)

/-- COMMIT in ns (R199): below 5 µs acts as 5, above 100 as 100. -/
def State.commitNs (s : State) : Int := 1000 * (clampNat 5 100 (s.g FLOW_CTRL.COMMIT) : Nat)

/-- The records of every group not yet committed. -/
def State.groupRecs (s : State) : List JRec :=
  ((s.flow.commit.toList ++ s.flow.closed ++ s.flow.opened.toList).map (·.recs)).flatten

/-- The open group closed (R167): it commits at once when no other group does, else waits for its turn. -/
def State.closeGroup (s : State) : State :=
  match s.flow.opened with
  | none => s
  | some g =>
    if s.flow.commit.isNone ∧ s.flow.closed = [] then s.fm (fun x => { x with opened := none, commit := some g })
    else s.fm (fun x => { x with opened := none, closed := x.closed ++ [g] })

/-- A record put into the open group, its lines taken from the budget; a group at 256 lines closes. -/
def State.putRecord (s : State) (r : JRec) : State :=
  let n := recLines r
  let full := s.flow.opened.any (fun g => decide (256 < g.lines + n))
  let s := if full then s.closeGroup else s
  let g : JGroup := s.flow.opened.getD ⟨[], 0, s.absNs, s.absNs + s.commitNs⟩
  let s := s.fm (fun x => { x with
    opened := some { g with recs := g.recs ++ [r], lines := g.lines + n }, bud := s.budNow - 4000 * n, budAt := s.absNs })
  if 256 ≤ g.lines + n then s.closeGroup else s

/-- A record put where the budget has its lines (R168), and whether it had. -/
def State.putIf (s : State) (r : JRec) : Bool × State := if s.budNow < 4000 * recLines r then (false, s) else (true, s.putRecord r)

/-! ### Relocation (R173) -/

/-- Lines of the groups not yet committed. -/
def State.pendLines (s : State) : Nat := ((s.flow.commit.toList ++ s.flow.closed ++ s.flow.opened.toList).map (·.lines)).sum

/-- Whether the head reaches the line `l` within 1,024 lines of those that the groups hold already. -/
def State.endangered (s : State) (l : Nat) : Bool := decide (l + ringLines < s.flow.lsn + s.pendLines + 1024)

/-- The relocations due: live records whose lines the head is about to reach. -/
def State.relocs (s : State) : List JRec :=
  let pend := s.groupRecs
  ((s.flow.out.filter (fun o => s.endangered o.lsn)).map (fun o => JRec.acc o.it false)) ++
  ((s.flow.kept.filter (fun k => s.endangered k.lsn)).map (fun k =>
    JRec.done ⟨k.src, k.flow, k.seq, k.inc, 0, 0, 0, [], 3, false, false, 0⟩ k true false)) ++
  ((s.flow.two.filter (fun t => s.endangered t.2)).map (fun t => JRec.intent t.1 false)) ++
  ((s.flow.outLsn.filter (fun e => e.2.any s.endangered)).map (fun e => JRec.outstate [e.1])) ++
  ((s.flow.inb.filter (fun e => e.lsn.any s.endangered)).map (fun e => JRec.instate [(e.src, e.flow)]))
  |>.filter (fun r => !pend.contains r)

/-- Every live record that the head is about to reach rewritten at the head, as far as the budget goes (R173). -/
def State.relocate (s : State) : State := s.relocs.foldl (fun s r => (s.putIf r).2) s

/-- The lines that hold a live record, each once (R173). -/
def State.liveLines (s : State) : Nat :=
  (s.flow.out.map (fun o => accLines o.it.data.length)).sum +
    ((s.flow.kept.map (·.lsn) ++ s.flow.two.map (·.2) ++ s.flow.outLsn.filterMap (·.2) ++ s.flow.inb.filterMap (·.lsn)).dedup).length

/-! ### Lines and the budget (R168) -/

/-- The records of outcomes that wait for the budget put in order, as far as it goes. -/
def State.payList (s : State) : List JRec → State
  | [] => s.fm (fun x => { x with owed := [] })
  | r :: l =>
    match s.putIf r with
    | (true, s) => s.payList l
    | (false, s) => s.fm (fun x => { x with owed := r :: l })

/-- What the budget owes first: relocations, then outcomes (R168, R173). -/
def State.payOwed (s : State) : State := let s := s.relocate; s.payList s.flow.owed

/-- A record of an outcome journaled as soon as the budget has its line (R168). -/
def State.oweRecord (s : State) (r : JRec) : State := (s.fm (fun x => { x with owed := x.owed ++ [r] })).payOwed

/-- A record journaled, if the budget has its lines (R168): what is owed goes first, and lines for arriving items go before lines for new
acceptance. -/
def State.addRec (s : State) (r : JRec) (arrival : Bool) : Bool × State :=
  let s := s.payOwed
  if s.flow.owed ≠ [] ∨ s.relocs ≠ [] ∨ s.budNow < 4000 * recLines r ∨ (s.flow.arrWait ∧ !arrival) then
    (false, if arrival then s.fm (fun x => { x with arrWait := true }) else s)
  else (true, (if arrival then s.fm (fun x => { x with arrWait := false }) else s).putRecord r)

/-! ### Frames (R104, R175, R176, R180) -/

/-- The frame type of an item's OP (R161). -/
def opType (op : Nat) : Nat := if op = 0x10 then tyTunPkt else if op = 0x11 then tyTunCan else if op = 0x12 then tyTunEth else tyWork

/-- The 32-byte item header (R175). -/
def itemHead (addr op flags dlen inc low accept : Nat) : List Byte :=
  bytesBE 8 addr ++ bytesBE 1 op ++ bytesBE 1 flags ++ bytesBE 2 dlen ++ bytesBE 4 inc ++ bytesBE 4 low ++ bytesBE 6 accept ++
    List.replicate 6 0

/-- A work frame of an outstanding item offered both ways on each plane in use (R176). -/
def State.sendItem (s : State) (it : Item) (resend : Bool) : State :=
  let g := s.flowGroup it.flow
  let flags := it.seg % 4 + 4 * b2n resend + 8 * b2n g
  let pl := itemHead it.addr it.op flags it.data.length it.inc (s.fl it.flow).low it.accept ++ it.data
  let t := opType it.op
  if !s.flowValid it.flow then s
  else s.offerTo (if t = tyWork then 8 else 9) s.ringPorts (s.mkFrame t 5 (s.flowNode it.flow) it.flow it.seq true pl)

/-- RETRY in ms (R199). -/
def State.retryMs (s : State) : Nat := clampNat 1 1000 (s.g FLOW_TIMING.RETRY)

/-- REACH in ns (R199). -/
def State.reachNs (s : State) : Int := 1000000000 * (clampNat 1 3600 (s.g FLOW_TIMING.REACH) : Nat)

/-- The resend timer of a flow started at RETRY (R177). -/
def State.armFlow (s : State) (f : Nat) : State :=
  s.setFl f { s.fl f with ival := s.retryMs, due := some (s.absNs + 1000000 * (s.retryMs : Int)) }

/-- A WORK_ACK (R180). -/
def State.sendAck (s : State) (it : InItem) (k : Kept) (dup gone : Bool) : State :=
  let pl := bytesBE 4 it.inc ++ bytesBE 1 k.status ++ bytesBE 1 (b2n dup + 2 * b2n gone) ++ bytesBE 6 k.apply ++
    bytesBE 8 k.result ++ bytesBE 6 k.rstamp ++ bytesBE 1 k.rqual ++ bytesBE 1 k.rtype ++ List.replicate 4 0
  s.offerTo 8 s.ringPorts (s.mkFrame tyWorkAck 5 it.src it.flow it.seq true pl)

/-! ### Submission (R163 to R168) -/

/-- Items of a flow outstanding, or journaled and not yet accepted. -/
def State.accPending (s : State) (f : Nat) : Nat :=
  (s.groupRecs.filter (fun r => match r with | .acc it true => it.flow == f | _ => false)).length

/-- NEXT of a flow (R163): the SEQ of the item accepted next. Those journaled and not yet accepted come before the model's own count. -/
def State.nextOf (s : State) (f : Nat) : Nat := ((s.fl f).next + 2 ^ 32 - s.accPending f) % 2 ^ 32

def State.flowOut (s : State) (f : Nat) : Nat := (s.flow.out.filter (fun o => o.it.flow == f)).length + s.accPending f

/-- Every flow with an item outstanding or journaled, once for each. -/
def State.busyFlows (s : State) : List Nat :=
  s.flow.out.map (fun o => o.it.flow) ++ s.groupRecs.filterMap (fun r => match r with | .acc it true => some it.flow | _ => none)

/-- Whether a limit of R164 stands against a further item of a flow. -/
def State.flowFull (s : State) (f : Nat) : Bool :=
  let l := s.busyFlows
  decide (4096 ≤ l.length) ||
    if s.flowGroup f then decide (8 ≤ s.flowOut f) || decide (32 ≤ (l.filter s.flowGroup).length) else decide (256 ≤ s.flowOut f)

/-- The status that refuses a submission (R166); 0 for none. -/
def State.submitCheck (s : State) (it : Item) : Nat :=
  let node := it.addr / 2 ^ 48
  let off := it.addr % 2 ^ 40
  if !s.flowValid it.flow then stCFG
  else if s.flowGroup it.flow ∧ s.members it.flow = [] then stCFG
  else if (if s.flowLocal it.flow then node ≠ 0 ∧ node ≠ s.node else node ≠ s.flowNode it.flow) then stADDR
  else if 256 < it.data.length ∨ (it.op ≠ 0x11 ∧ it.op ≠ 0x12 ∧ it.data ≠ [] ∧ off / 256 ≠ (off + it.data.length - 1) / 256) then stWIDTH
  else stOK

/-- A checked submission journaled at the flow's NEXT (R163), if no limit and no earlier submission stands against it. -/
def State.submitTry (s : State) (it : Item) : Bool × State :=
  let f := s.fl it.flow
  if !s.flowRuns ∨ s.flow.leaving.contains it.flow ∨ s.flowFull it.flow then (false, s)
  else
    match s.addRec (.acc { it with seq := f.next, inc := f.inc } true) false with
    | (true, s) => (true, s.setFl it.flow { s.fl it.flow with next := (f.next + 1) % 2 ^ 32 })
    | (false, s) => (false, s)

/-- WORK_SUBMIT (R166): an item submitted; refused, journaled, or back-pressured until it can be (R164). -/
def State.submit (s : State) (it : Item) : Nat × State :=
  let st := s.submitCheck it
  if st ≠ stOK then (st, s)
  else if s.flow.subs.any (fun w => w.1.flow == it.flow) then
    (stOK, (s.fm (fun x => { x with subs := x.subs ++ [(it, true)] })).count FLOW_BP_CNT.off)
  else
    match s.submitTry it with
    | (true, s) => (stOK, s)
    | (false, s) =>
      let bp := s.flowRuns && !s.flow.leaving.contains it.flow
      (stOK, (s.fm (fun x => { x with subs := x.subs ++ [(it, bp)] })).countIf bp FLOW_BP_CNT.off)

/-- An item with no data of its own path yet: what a block fills in to submit. -/
def newItem (flow op addr : Nat) (data : List Byte) (mid : Nat) (path : Path) : Item :=
  ⟨flow, 0, 0, op, addr, data, 0, mid, 3, none, path⟩

/-- SUBMIT_UNBLOCK (R164): the first back-pressured submission of a flow proceeds, if it can. -/
def submitUnblock (f : Fin 1024) (s : State) : State :=
  match s.flow.subs.find? (fun w => w.1.flow == f.val) with
  | none => s
  | some w =>
    match s.submitTry w.1 with
    | (true, s) => s.fm (fun x => { x with subs := x.subs.erase w })
    | (false, s) => s

/-- GROUP_CLOSE (R167, R173): the open group closes at its time. -/
def groupClose (s : State) : State :=
  match s.flow.opened with
  | some g => if g.closeAt ≤ s.absNs ∨ 256 ≤ g.lines then s.closeGroup.payOwed else s
  | none => s

/-- A write of FLOW_CTRL (R169): the open group closes at the earlier of its old time and its first line plus the new interval. -/
def State.flowCtrlWrite (s : State) (new : Word) : Nat × State :=
  let s := s.wr FLOW_CTRL.off new
  (stOK, s.fm (fun x => { x with opened := x.opened.map (fun g => { g with closeAt := min g.closeAt (g.first + s.commitNs) }) }))

/-! ### Resending (R177, R187) -/

/-- Every outstanding item of a flow sent again, in sequence order. -/
def State.resendAll (s : State) (f : Nat) : State :=
  let l := s.flow.out.filter (fun o => o.it.flow == f)
  let s := l.foldl (fun s o => s.sendItem o.it true) s
  s.fm (fun x => { x with out := x.out.map (fun o => if o.it.flow = f then { o with sends := o.sends + 1 } else o) })

/-- RESEND_TIMER_EXPIRE (R177). -/
def resendTimerExpire (f : Fin 1024) (s : State) : State :=
  let v := s.fl f.val
  match v.due with
  | some t =>
    if t ≤ s.absNs ∧ s.flowRuns ∧ !s.flowLocal f.val ∧ s.flow.out.any (fun o => o.it.flow == f.val) then
      let n := min 1000 (2 * v.ival)
      let s := s.resendAll f.val
      (s.setFl f.val { s.fl f.val with ival := n, due := some (s.absNs + 1000000 * (n : Int)) }).count FLOW_RESEND_CNT.off
    else s
  | none => s

/-- FLOW_CMD PROBE (R187). -/
def State.probe (s : State) (f : Nat) : State :=
  if !s.flowLocal f ∧ s.flow.out.any (fun o => o.it.flow == f) then (s.resendAll f).armFlow f else s

/-- RECOVERY_RESEND (R189 step 7): once the role is MEMBER or higher, every outstanding item is sent with RESEND = 1. -/
def recoveryResend (s : State) : State :=
  if s.flowRuns ∧ 2 ≤ s.g RING_STAT.ROLE then
    ((s.flow.out.map (fun o => o.it.flow)).dedup).foldl (fun s f => s.probe f) s
  else s

/-- OUTSTATE_SWEEP (R173): an entry for every flow whose LOW or INC changed, four to a line. -/
def outstateSweep (s : State) : State :=
  if !s.flowRuns then s
  else
    let l := (s.flow.flows.filter (fun e => e.2.dirty)).map (·.1)
    let s := (chunks 4 256 l).foldl (fun s c =>
      match s.addRec (.outstate c) true with
      | (true, s) => c.foldl (fun s f => s.setFl f { s.fl f with dirty := false }) s
      | (false, s) => s) s
    s.payOwed

/-! ### Configuration (R162, R183, R199) -/

/-- A refused FLOW write. -/
def State.flowRefuse (s : State) : Nat × State := (stCFG, s.cfgErr FLOW_CFGERR_CNT.off (evFlow 1))

/-- A write of FLOW_CFG for a flow (R162). -/
def State.flowCfgWrite (s : State) (f : Nat) (new : Word) : Nat × State :=
  let grp := FLOW_CFG.GROUP.get new = 1
  let node := FLOW_CFG.NODE.get new
  let old := s.rd (bankKey FLOW_CFG.off f)
  let busy := 0 < s.flowOut f
  let moves := FLOW_CFG.GROUP.get new ≠ FLOW_CFG.GROUP.get old ∨ node ≠ FLOW_CFG.NODE.get old
  let clears := FLOW_CFG.VALID.get old = 1 ∧ FLOW_CFG.VALID.get new = 0
  if (grp ∧ node < 0xFF00) ∨ (!grp ∧ 0xFF00 ≤ node) then s.flowRefuse
  else if busy ∧ (moves ∨ clears) then s.flowRefuse
  else (stOK, s.wr (bankKey FLOW_CFG.off f) new)

/-- Whether a group has items outstanding on some flow. -/
def State.groupBusy (s : State) (g : Nat) : Bool :=
  s.busyFlows.any (fun f => s.flowGroup f && s.flowNode f % 256 == g)

/-- A write of FLOW_GRP_CFG for a group (R183, R199). -/
def State.grpCfgWrite (s : State) (g : Nat) (new : Word) : Nat × State :=
  if 4096 < FLOW_GRP_CFG.FIRST.get new + FLOW_GRP_CFG.COUNT.get new then s.flowRefuse
  else if new ≠ s.rd (bankKey FLOW_GRP_CFG.off g) ∧ s.flag (FLOW_GRP_CFG.VALID.at g) ∧ s.groupBusy g then s.flowRefuse
  else (stOK, s.wr (bankKey FLOW_GRP_CFG.off g) new)

/-- A write of FLOW_MEM for a member table entry (R183, R199). -/
def State.memWrite (s : State) (e : Nat) (new : Word) : Nat × State :=
  if new ≠ s.rd (bankKey FLOW_MEM.off e) ∧ (List.range 256).any (fun g => s.groupBusy g && (s.memberRange g).contains e) then
    s.flowRefuse
  else (stOK, s.wr (bankKey FLOW_MEM.off e) new)

/-! ### The journal windows of space 0x03 (R198) -/

/-- The outbound entry of a flow. -/
def State.outEntry (s : State) (f : Nat) : List Byte :=
  let v := s.fl f
  let l := s.flow.out.filter (fun o => o.it.flow == f)
  let d := (l.filter (·.doubt)).length
  bytesLE 2 (s.flowNode f) ++ bytesLE 1 (b2n (s.flowValid f) + 2 * b2n (s.flowGroup f) + 4 * b2n (decide (0 < d))) ++ [0] ++
    bytesLE 4 v.inc ++ bytesLE 4 (s.nextOf f) ++ bytesLE 4 v.low ++ bytesLE 2 l.length ++ bytesLE 2 d ++ bytesLE 4 v.ival ++
    padTo 8 (bytesLE 6 ((l.head?.map (·.it.accept)).getD 0))

/-- The inbound table: the entries of other nodes' flows (R176, R178). -/
def State.inbTable (s : State) : List InEntry := s.flow.inb.filter (fun e => e.src != s.node)

/-- The inbound entry at a place of the table. -/
def State.inEntryBytes (s : State) (i : Nat) : List Byte :=
  match s.inbTable[i]? with
  | some e =>
    bytesLE 2 e.src ++ bytesLE 1 1 ++ [0] ++ bytesLE 4 e.inc ++ bytesLE 4 e.next ++ bytesLE 4 (e.flow + 65536 * e.held.length) ++
      padTo 8 (bytesLE 6 e.last) ++ List.replicate 8 0
  | none => List.replicate 32 0

/-- The member table index of the first listed member that has not acknowledged a group item. -/
def State.firstUnacked (s : State) (o : OutItem) : Nat :=
  if !s.flowGroup o.it.flow then 0
  else
    ((s.memberRange (s.flowNode o.it.flow % 256)).find? (fun e =>
      s.g (FLOW_MEM.NODE.at e) != 0 && !o.acked.contains (s.g (FLOW_MEM.NODE.at e)))).getD 0xFFFFFFFF

/-- The outstanding item at a slot. -/
def State.outItemBytes (s : State) (i : Nat) : List Byte :=
  match s.flow.out[i]? with
  | some o =>
    bytesLE 2 (o.it.flow + 32768) ++ bytesLE 1 (b2n o.doubt) ++ bytesLE 1 o.it.mid ++ bytesLE 4 o.it.seq ++ bytesLE 4 o.it.inc ++
      bytesLE 4 (s.firstUnacked o) ++ bytesLE 8 o.it.addr ++ bytesLE 6 o.it.accept ++ bytesLE 1 (min 255 o.sends) ++
      bytesLE 1 o.it.op
  | none => List.replicate 32 0

/-- A journal ring line as stored. -/
def State.ringLine (s : State) (i : Nat) : List Byte := padTo 64 (SMap.get lineDflt s.flow.ring i)

/-- Bytes of a window made of equal entries. -/
def entriesRead (size off len : Nat) (entry : Nat → List Byte) : List Byte :=
  slice (((List.range ((off % size + len + size - 1) / size)).map (fun k => entry (off / size + k))).flatten) (off % size) len

/-- A read of windows 0x00 to 0x03 (R198); none outside them. -/
def State.flowWindow (s : State) (win off len : Nat) : Option (List Byte) :=
  if win = 0 ∧ off + len ≤ 3145728 then some (entriesRead 64 off len s.ringLine)
  else if win = 1 ∧ off + len ≤ 32768 then some (entriesRead 32 off len s.outEntry)
  else if win = 2 ∧ off + len ≤ 131072 then some (entriesRead 32 off len s.inEntryBytes)
  else if win = 3 ∧ off + len ≤ 131072 then some (entriesRead 32 off len s.outItemBytes)
  else none

/-! ### Whether the flow engine is idle (R188) -/

/-- No open or committing group, no outstanding item, no held item, no two-phase item in progress. -/
def State.flowIdle (s : State) : Bool :=
  s.flow.opened.isNone && s.flow.commit.isNone && s.flow.closed.isEmpty && s.flow.owed.isEmpty && s.flow.out.isEmpty && s.flow.two.isEmpty &&
    s.flow.inb.all (fun e => e.held.isEmpty && e.wait.isNone)

/-! ### Reading the journal after a stop (R174, R189) -/

/-- A line read back: LSN, LAST, CONT, KIND and BODY, when its LCRC is right. -/
structure JLine where
  lsn : Nat
  last : Bool
  cont : Bool
  kind : Nat
  body : List Byte
deriving DecidableEq, Repr

/-- A stored line decoded (R171); none where its LCRC is wrong. -/
def decLine (b : List Byte) : Option JLine :=
  if natLE (slice b 60 4) = crc32c (b.take 60) ∧ b.length = 64 then
    let k := natLE (slice b 7 1)
    some ⟨natLE (slice b 0 7), k.testBit 7, k.testBit 6, k % 64, slice b 8 52⟩
  else none

/-- The records of a group: each first line with its CONT lines; leading CONT lines belong to a record whose head is gone. -/
def groupRecords : List JLine → List (JLine × List JLine)
  | [] => []
  | l :: r => if l.cont then groupRecords r else (l, r.takeWhile (fun x => x.cont)) :: groupRecords r

/-- Whether CONT and KIND of a group's lines fit R172: it begins with a record's first line, an ACC record has the CONT lines that its DLEN
takes, and no other record has any. -/
def groupOk (g : List JLine) : Bool :=
  g.head?.all (fun l => !l.cont) && (groupRecords g).all (fun r =>
    if r.1.kind = 1 then
      let d := natLE (slice r.1.body 20 2)
      decide (d ≤ 256) && r.2.length + 1 == accLines d && r.2.all (fun c => c.kind == 1)
    else decide (2 ≤ r.1.kind ∧ r.1.kind ≤ 5) && r.2.isEmpty)

/-- What a scan has found: the groups (each with its lines in order), the lines of the group being read, whether that group is broken,
the index and the LSN expected next, the torn groups, and the indices of their lines. -/
structure Scan where
  groups : List (List JLine)
  cur : List JLine
  curIdx : List Nat
  bad : Bool
  nextIdx : Nat
  nextLsn : Option Nat
  torn : Nat
  tornIdx : List Nat
deriving DecidableEq, Repr

/-- The group being read given up as torn. -/
def Scan.break (c : Scan) : Scan :=
  if c.cur = [] ∧ !c.bad then c
  else { c with cur := [], curIdx := [], bad := false, torn := c.torn + 1, tornIdx := c.tornIdx ++ c.curIdx, nextLsn := none }

/-- One line of the scan (R174). -/
def Scan.step (c : Scan) (e : Nat × List Byte) : Scan :=
  let c := if e.1 = c.nextIdx then c else { c.break with nextLsn := none }
  let c := { c with nextIdx := (e.1 + 1) % ringLines, curIdx := c.curIdx ++ [e.1] }
  match decLine e.2 with
  | none => { c with bad := true, nextLsn := none }
  | some l =>
    let ok := c.nextLsn.all (fun n => n == l.lsn) && !c.bad
    let c := { c with nextLsn := some (l.lsn + 1) }
    if !ok then (if l.last then { c with bad := true }.break else { c with bad := true })
    else if l.last then
      if groupOk (c.cur ++ [l]) then { c with groups := c.groups ++ [c.cur ++ [l]], cur := [], curIdx := [] } else { c with bad := true }.break
    else { c with cur := c.cur ++ [l] }

/-- The LSN after the newest of the ring's lines, torn ones included, which is never reused (R171, R195). -/
def State.ringTop (s : State) : Nat :=
  s.flow.ring.foldl (fun n e => match decLine e.2 with | some l => max n (l.lsn + 1) | none => n) 0

/-- The lines of the ring in LSN order: from the line after the head, round to the head. -/
def State.ringInOrder (s : State) : List (Nat × List Byte) :=
  let h := s.flow.lsn % ringLines
  s.flow.ring.filter (fun e => decide (h ≤ e.1)) ++ s.flow.ring.filter (fun e => decide (e.1 < h))

/-- The scan of the journal ring from its oldest line (R189 step 1). CONT lines before the first record are what the head has left of a
record it has written over. -/
def State.scanRing (s : State) : Scan :=
  ((s.ringInOrder.dropWhile (fun e => (decLine e.2).any (·.cont))).foldl Scan.step ⟨[], [], [], false, 0, none, 0, []⟩).break

/-- An ACC record as an item (R172); FIRST and LAST are set later. -/
def decAcc (l : JLine) (more : List JLine) : Item :=
  let b := l.body
  let n := natLE (slice b 20 2)
  ⟨natLE (slice b 0 2) % 1024, natLE (slice b 4 4), natLE (slice b 8 4), natLE (slice b 2 1), natLE (slice b 12 8),
    ((slice b 28 24) ++ (more.map (·.body)).flatten).take n, natLE (slice b 22 6), natLE (slice b 3 1), 3, none, .none⟩

/-- An APPLIED record (R172): its result, and KEEP. -/
def decApplied (l : JLine) : Kept × Bool :=
  let b := l.body
  (⟨natLE (slice b 0 2), natLE (slice b 2 2) % 1024, natLE (slice b 4 4), natLE (slice b 8 4), natLE (slice b 12 1),
    natLE (slice b 14 6), natLE (slice b 20 8), 0, 0, 0, l.lsn⟩, natLE (slice b 13 1) % 2 == 1)

/-- An INTENT record (R172). -/
def decIntent (l : JLine) : InItem :=
  let b := l.body
  ⟨natLE (slice b 0 2), natLE (slice b 2 2) % 1024, natLE (slice b 4 4), natLE (slice b 8 4), 0, natLE (slice b 12 1),
    natLE (slice b 20 8), [], 3, false, false, 0x10⟩

/-- The four entries of a state record: two numbers, INC, and LOW or NEXT. -/
def decState (l : JLine) : List (Nat × Nat × Nat × Nat) :=
  (List.range 4).map (fun k =>
    (natLE (slice l.body (12 * k) 2), natLE (slice l.body (12 * k + 2) 2), natLE (slice l.body (12 * k + 4) 4),
      natLE (slice l.body (12 * k + 8) 4)))

/-- An inbound entry moved to INC and NEXT where they are newer than what it holds. -/
def inbNewer (l : List InEntry) (src flow inc next lsn : Nat) : List InEntry :=
  if l.any (fun e => e.src == src && e.flow == flow) then
    l.map (fun e =>
      if e.src = src ∧ e.flow = flow ∧ (after32 inc e.inc ∨ (inc = e.inc ∧ !after32 e.next next)) then
        { e with inc := inc, next := next, cinc := inc, cnext := next, lsn := some lsn }
      else e)
  else l ++ [⟨src, flow, inc, next, inc, next, 0, [], none, 0, false, some lsn⟩]

/-- The two-phase items whose INTENT stands without its APPLIED record, and what the records of the inbound side leave (R189 step 3). -/
def inbRecord (cut : Nat) (a : List InEntry × List Kept × List (InItem × Nat)) (r : JLine × List JLine) :
    List InEntry × List Kept × List (InItem × Nat) :=
  let l := r.1
  if l.lsn < cut then a
  else if l.kind = 2 then
    let it := decIntent l
    (inbNewer a.1 it.src it.flow it.inc ((it.seq + 1) % 2 ^ 32) l.lsn, a.2.1,
      a.2.2.filter (fun t => !(t.1.src == it.src && t.1.flow == it.flow && t.1.seq == it.seq && t.1.inc == it.inc)) ++ [(it, l.lsn)])
  else if l.kind = 3 then
    let (k, keep) := decApplied l
    let old := a.2.1.filter (fun x => !(x.src == k.src && x.flow == k.flow && x.seq == k.seq && x.inc == k.inc))
    ((inbNewer a.1 k.src k.flow k.inc ((k.seq + 1) % 2 ^ 32) l.lsn).map (fun e =>
        if e.src = k.src ∧ e.flow = k.flow then { e with last := k.apply } else e),
      if keep then old ++ [k] else old,
      a.2.2.filter (fun t => !(t.1.src == k.src && t.1.flow == k.flow && t.1.seq == k.seq && t.1.inc == k.inc)))
  else if l.kind = 5 then
    ((decState l).foldl (fun b e => if 32768 ≤ e.2.1 then inbNewer b e.1 (e.2.1 % 1024) e.2.2.1 e.2.2.2 l.lsn else b) a.1, a.2)
  else a

/-- The newest OUTSTATE of each flow: flow, INC, LOW and line (R189 step 2). -/
def outRecord (a : List (Nat × Nat × Nat × Nat)) (r : JLine × List JLine) : List (Nat × Nat × Nat × Nat) :=
  if r.1.kind = 4 then
    (decState r.1).foldl (fun b e =>
      if 32768 ≤ e.1 then b.filter (fun x => x.1 != e.1 % 1024) ++ [(e.1 % 1024, e.2.2.1, e.2.2.2, r.1.lsn)] else b) a
  else a

/-- FIRST and LAST of an item read back (R175): a Cistern segment ends at the PUSH_CLOSE or CLOSE port, an Ethernet segment when it is
shorter than 256 bytes; a segment is FIRST when the one before it in its flow was LAST. DEDUCED: the ACC record holds no flags. -/
def segOf (prevLast : Bool) (it : Item) : Nat :=
  let port := it.addr / 256 % 16
  let last := if it.op = 0x10 then port == 1 || port == 4 else if it.op = 0x12 then decide (it.data.length < 256) else true
  let first := if it.op = 0x10 ∨ it.op = 0x12 then prevLast else true
  b2n first + 2 * b2n last

/-- The outstanding items of one flow from its ACC records (R189 step 2), and its NEXT. -/
def flowItems (inc low : Nat) (accs : List (Item × Nat)) : Nat × List OutItem :=
  let mine := accs.filter (fun a => a.1.inc == inc && !after32 low a.1.seq)
  let dist := fun (q : Nat) => (q + 2 ^ 32 - low) % 2 ^ 32
  let next := mine.foldl (fun n a => max n (dist a.1.seq + 1)) 0
  let items := (List.range next).filterMap (fun d => mine.reverse.find? (fun a => dist a.1.seq == d))
  let out := items.foldl (fun (acc : Bool × List OutItem) a =>
    let sg := segOf acc.1 a.1
    (decide (2 ≤ sg), acc.2 ++ [⟨{ a.1 with seg := sg }, false, [], 0, 0, a.2⟩])) (true, [])
  ((low + next) % 2 ^ 32, out.2)

/-- The lowest SEQ of incarnation 0 among ACC records, 0 where there is none (R189 step 2). -/
def lowestAcc (accs : List (Item × Nat)) : Nat :=
  ((accs.filter (fun (a : Item × Nat) => a.1.inc == 0)).foldl (fun (m : Option Nat) (a : Item × Nat) =>
    match m with
    | none => some a.1.seq
    | some q => some (if after32 q a.1.seq then a.1.seq else q)) none).getD 0

/-- One flow rebuilt from its newest OUTSTATE (flow, INC, LOW, line) and its ACC records. -/
def State.rebuildFlow (s : State) (f : Nat) (st : Option (Nat × Nat × Nat × Nat)) (mine : List (Item × Nat)) : State :=
  let inc := (st.map (fun (e : Nat × Nat × Nat × Nat) => e.2.1)).getD 0
  let low := (st.map (fun (e : Nat × Nat × Nat × Nat) => e.2.2.1)).getD (lowestAcc mine)
  let (next, out) := flowItems inc low mine
  let s := s.setFl f ⟨inc, next, low, 0, none, false⟩
  s.fm (fun x => { x with
    out := x.out ++ out,
    outLsn := SMap.set (fun _ => none) x.outLsn f (st.map (fun (e : Nat × Nat × Nat × Nat) => e.2.2.2)) })

/-- The outbound side rebuilt (R189 step 2): flows and outstanding items. -/
def State.rebuildOut (s : State) (recs : List (JLine × List JLine)) : State :=
  let states : List (Nat × Nat × Nat × Nat) := recs.foldl outRecord []
  let accs : List (Item × Nat) := recs.filterMap (fun r => if r.1.kind = 1 then some (decAcc r.1 r.2, r.1.lsn) else none)
  let fls : List Nat := (states.map (·.1) ++ accs.map (fun a => a.1.flow)).dedup
  fls.foldl (fun (s : State) (f : Nat) =>
    s.rebuildFlow f (states.find? (fun e => e.1 == f)) (accs.filter (fun a => a.1.flow == f))) s

/-- The key of a result: source, flow, INC and SEQ. -/
def Kept.key (k : Kept) : Nat × Nat × Nat × Nat := (k.src, k.flow, k.inc, k.seq)

/-- A result retained, in place of an earlier one of its item; the oldest leaves when 4,096 are held (R181). -/
def State.keep (s : State) (k : Kept) : State :=
  let l := s.flow.kept.filter (fun x => x.key != k.key) ++ [k]
  let out := l.take (l.length - 4096)
  s.fm (fun x => { x with
    kept := l.drop (l.length - 4096), gone := x.gone ++ out.map Kept.key,
    sens := x.sens.filter (fun q => !out.any (fun d => d.key == q)) })

/-- A retained result as recovery reads it back (R181): the APPLIED record holds no RSTAMP, RQUAL and RTYPE, so those of OP 0x06 are free. -/
def State.keepBack (s : State) (k : Kept) : State :=
  if s.flow.sens.contains k.key ∧ k.status = stOK then
    let (a, s) := s.free
    let (b, s) := s.free
    let (c, s) := s.free
    s.keep { k with rstamp := a % 2 ^ 48, rqual := b % 256, rtype := c % 256 }
  else s.keep k

/-- An INTENT without APPLIED closed with STATUS LOST (R189 step 4), its line taken from the budget. -/
def State.closeLost (s : State) (it : InItem) : State :=
  let lsn := s.flow.lsn
  let k : Kept := ⟨it.src, it.flow, it.seq, it.inc, stLOST, s.fns48, 0, 0, 0, 0, lsn⟩
  let s := (s.writeLines (appliedBody k true)).fm (fun x => { x with
    bud := s.budNow - 4000, budAt := s.absNs,
    inb := x.inb.map (fun e => if e.src = it.src ∧ e.flow = it.flow then { e with lsn := some lsn, last := s.fns48 } else e) })
  ((s.keep k).count FLOW_LOST_CNT.off).raise (evFlow 5) clEvent

/-- The inbound side rebuilt (R189 steps 3 and 4): entries, retained results, and every INTENT without APPLIED made LOST. -/
def State.rebuildIn (s : State) (recs : List (JLine × List JLine)) : State :=
  let (inb, kept, intents) := recs.foldl (inbRecord s.flow.cut) ([], [], [])
  let s := kept.foldl State.keepBack (s.fm (fun x => { x with inb := inb.take 4096 }))
  intents.foldl (fun s t => s.closeLost t.1) s

end Sys2Proof.Machine
end

