-- ==== Sys2Proof/Machine/Cistern.lean ====
section
/-! DEFINITION. Cisterns and Weir (R335 to R349): packets, pushes that wait for room, pops, the PKT tunnel's taking of packets, the tunnel
log, flushes and the CST register writes. -/

namespace Sys2Proof.Machine

/-- A Cistern's record. -/
def State.cist (s : State) (n : Nat) : Cistern := SMap.get Cistern.dflt s.cst.cist n

/-- A Cistern's record replaced. -/
def State.setCist (s : State) (n : Nat) (c : Cistern) : State :=
  { s with cst := { s.cst with cist := SMap.set Cistern.dflt s.cst.cist n c } }

/-- Words that data bytes take (R336). -/
def cstWords (bytes : Nat) : Nat := (bytes + 3) / 4

/-- Data bytes packed little-endian, four to a word. -/
def packWords (l : List Byte) : List Word :=
  (List.range (cstWords l.length)).map (fun k => BitVec.ofNat 32 (natLE (slice l (4 * k) 4)))

/-- The header word of a packet (R336). -/
def Packet.header (p : Packet) : Word := BitVec.ofNat 32 (2 ^ 31 + p.typ % 128 * 2 ^ 24 + p.len % 2 ^ 24)

/-- The idle item. -/
def idleItem : Word := 0x80000000

/-- Words a Cistern holds: closed packets with their headers, what is left of the packet the consumer is inside, the open packet with
its reserved header (R344). -/
def Cistern.fill (c : Cistern) : Nat :=
  (c.closed.map (fun p => 1 + p.words.length)).sum + c.inside.length +
    (match c.opened with | some b => 1 + cstWords b.length | none => 0)

/-- Whether the consumer is inside a packet (CST_nSTAT.MID). -/
def Cistern.mid (c : Cistern) : Bool := !c.inside.isEmpty || decide (0 < c.sending)

/-- Capacity of a Cistern in words. -/
def State.cstSize (s : State) (n : Nat) : Nat := s.g (CST_REGION.SIZE n) * 64

/-! ### Weir (R344) -/

/-- The Weir output of a Cistern evaluated against its thresholds. -/
def State.weirEval (s : State) (n : Nat) : State :=
  let f := (s.cist n).fill
  if s.g (CST_CFG.SVC n) ≠ 0 ∨ !s.flag (CST_WEIR.EN n) then s.pb (CST_STAT.WEIR n) false
  else if 64 * s.g (CST_WEIR.HIGH n) ≤ f then s.pb (CST_STAT.WEIR n) true
  else if f ≤ 64 * s.g (CST_WEIR.LOW n) then s.pb (CST_STAT.WEIR n) false
  else s

/-- A Cistern's contents replaced, its Weir output following. -/
def State.cstPut (s : State) (n : Nat) (c : Cistern) : State := (s.setCist n c).weirEval n

/-- Whether an enabled entry names a WEIR pin. -/
def State.weirNamed (s : State) (k : Nat) : Bool :=
  (List.range 256).any (fun n => s.flag (CST_WEIR.EN n) && s.g (CST_WEIR.PIN n) == k)

/-- Whether a WEIR pin is asserted: by a Cistern that names it, or, while CASCADE is not on, by every enabled entry that names it. -/
def State.weirPin (s : State) (k : Nat) : Bool :=
  if s.domOn 6 then
    (List.range 256).any (fun n => s.flag (CST_WEIR.EN n) && s.g (CST_WEIR.PIN n) == k && s.flag (CST_STAT.WEIR n))
  else s.pins.weirHeld.testBit k || s.weirNamed k

/-- The asserted levels of the WEIR pins: CST_WEIR_POL, or, while CASCADE is off, what their drivers in AON keep of it. -/
def State.weirPolNow (s : State) : Nat := if s.dom 6 = dsOff then s.pins.weirPol else s.g CST_WEIR_POL.POL

/-- The level of a WEIR pin. -/
def State.weirLevel (s : State) (k : Nat) : Bool := s.weirPin k == s.weirPolNow.testBit k

/-- What the WEIR drivers in AON keep as CASCADE goes OFF (R344): the pins named, and their asserted levels. DEDUCED: a further loss before
CASCADE is on again adds nothing. -/
def State.weirKeep (s : State) : State :=
  if s.dom 6 = dsOff then s
  else { s with pins := { s.pins with
    weirHeld := (List.range 16).foldl (fun a k => a + b2n (s.weirNamed k) * 2 ^ k) 0, weirPol := s.g CST_WEIR_POL.POL } }

/-! ### Producing (R336 to R339, R345) -/

/-- The open packet discarded and counted. -/
def State.cstDrop (s : State) (n : Nat) : State :=
  let c := s.cist n
  if c.opened.isSome then (s.cstPut n { c with opened := none }).count CST_DROP.off else s

/-- The open packet closed with a type; 0 gives the default type. Outside SVC NORMAL a notice is given (R345). -/
def State.cstClose (s : State) (n typ : Nat) : State :=
  let c := s.cist n
  let b := c.opened.getD []
  let t := if typ = 0 then s.g (CST_CFG.TYPE n) else typ
  let s := s.cstPut n { c with opened := none, closed := c.closed ++ [⟨t, b.length, packWords b⟩] }
  if s.g (CST_CFG.SVC n) = 0 then s
  else ((s.pb (CST_STAT.NOTICE n) true).p (CST_PKTS.NOTICES n) (s.g (CST_PKTS.NOTICES n) + 1)).raise (evCistern n) clEvent

/-- Words a push needs: its data, and the header word when it opens a packet (R339). -/
def Cistern.need (c : Cistern) (data : Nat) : Nat :=
  match c.opened with
  | some b => cstWords (b.length + data) - cstWords b.length
  | none => 1 + cstWords data

/-- A push performed (R338, R339): none while it must wait for room; else its status. A push that can never fit is refused with WIDTH
and drops the open packet. -/
def State.cstPush (s : State) (n : Nat) (data : List Byte) (close : Option Nat) : Option (Nat × State) :=
  let c := s.cist n
  let b := c.opened.getD []
  if s.cstSize n - 1 < cstWords (b.length + data.length) then some (stWIDTH, s.cstDrop n)
  else if s.cstSize n < c.fill + c.need data.length then none
  else
    let s := s.cstPut n { c with opened := some (b ++ data) }
    some (stOK, match close with | some t => s.cstClose n t | none => s)

/-- An OP 0x10 item applied (R338, R339): the segment flags govern. -/
def State.cstSegment (s : State) (n typ seg : Nat) (data : List Byte) : Option (Nat × State) :=
  let first := seg % 2 = 1
  let last := 2 ≤ seg % 4
  let c := s.cist n
  if c.refuse ∧ !first then
    some (stWIDTH, if last then s.setCist n { c with refuse := false } else s)
  else
    let s := if first then (s.cstDrop n).setCist n { (s.cstDrop n).cist n with refuse := false } else s
    match s.cstPush n data (if last then some typ else none) with
    | some (st, s) => some (st, if st = stWIDTH ∧ !last then s.setCist n { s.cist n with refuse := true } else s)
    | none => none

/-- The fields of an offset of space 0x02 (R337): TYPE, Cistern and port; none for any other encoding. -/
def cstDecode (off : Nat) : Option (Nat × Nat × Nat) :=
  if 2 ^ 27 ≤ off ∨ off % 256 ≠ 0 ∨ 4 < off / 256 % 16 then none
  else some (bitsOf off 20 7, bitsOf off 12 8, bitsOf off 8 4)

/-- Whether a write's length has the form of its port (R337). -/
def cstForm (port len : Nat) : Bool :=
  if port = 0 then decide (4 ≤ len ∧ len ≤ 256 ∧ len % 4 = 0)
  else if port = 1 then decide (1 ≤ len ∧ len ≤ 256)
  else if port = 3 ∨ port = 4 then decide (len = 4)
  else false

/-- The producer's operation at a write port: none while it waits for room. -/
def State.cstOp (s : State) (n port typ : Nat) (data : List Byte) : Option (Nat × State) :=
  if port = 3 then some (stOK, s.cstDrop n)
  else if port = 0 then s.cstPush n data none
  else if port = 1 then s.cstPush n data (some typ)
  else s.cstPush n [] (some typ)

/-- Whether a source is the producer of a Cistern (R338): a node, or a local master. -/
def State.cstProducer (s : State) (n : Nat) (src : Option Nat) (mid : Nat) : Bool :=
  match src with
  | some node => s.g (CST_CFG.PROD n) == 2 && s.g (CST_PROD.NODE n) == node
  | none => s.g (CST_CFG.PROD n) == 1 && s.g (CST_PROD.MID n) == mid

/-- The status that refuses a write in space 0x02 (R335, R337, R338); 0 for none. `src` is the node of a remote producer. A Cistern
with EN = 0 accepts no data: CFG. -/
def State.cstCheck (s : State) (src : Option Nat) (mid off len : Nat) : Nat :=
  match cstDecode off with
  | none => stADDR
  | some (_, n, port) =>
    if !cstForm port len then stWIDTH
    else if !s.cstProducer n src mid then stOWNER
    else if !s.flag (CST_CFG.EN n) then stCFG
    else stOK

/-- A write in space 0x02 by a local master: its status, none while it waits for room (R338, R339). -/
def State.cstWrite (s : State) (m : Master) (off : Nat) (data : List Byte) : Option (Nat × State) :=
  let st := s.cstCheck none m.mid.val off data.length
  if st ≠ stOK then some (st, s)
  else
    match cstDecode off with
    | some (typ, n, port) => s.cstOp n port typ data
    | none => some (stADDR, s)

/-- A refused access in space 0x02: the master takes the status, and the bus error is captured (R29, R482). -/
def State.cstRefuse (s : State) (m : Master) (kind off st : Nat) : State :=
  (s.firstError m kind false (2 * 2 ^ 40 + off)).answer m st []

/-- A store of a local master into space 0x02: performed, refused, or stalled while it waits for room (R339). -/
def State.cstStore (s : State) (m : Master) (off : Nat) (data : List Byte) : State :=
  match s.cstWrite m off data with
  | some (st, s) => if st = stOK then s.answer m st [] else s.cstRefuse m 1 off st
  | none =>
    match cstDecode off with
    | some (typ, n, port) =>
      let c := s.cist n
      s.setCist n { c with waits := c.waits ++ [⟨m, port, typ, data⟩] }
    | none => s

/-- The offset of a port of a Cistern in space 0x02. -/
def cstOff (typ n port : Nat) : Nat := typ * 2 ^ 20 + n * 2 ^ 12 + port * 2 ^ 8

/-- CISTERN_PUSH_RESUME (R339): the push that has waited longest is performed once all its words fit. -/
def cisternPushResume (n : Fin 256) (s : State) : State :=
  let c := s.cist n.val
  match c.waits with
  | [] => s
  | w :: r =>
    match s.cstWrite w.m (cstOff w.typ n.val w.port) w.data with
    | some (st, s) =>
      let s := s.setCist n.val { s.cist n.val with waits := r }
      if st = stOK then s.answer w.m st [] else s.cstRefuse w.m 1 (cstOff w.typ n.val w.port) st
    | none => s

/-! ### Consuming (R340, R343, R346) -/

/-- A pending flush at the consumer's packet boundary (R346). -/
def State.flushNow (s : State) (n : Nat) : State := (s.cstPut n { s.cist n with closed := [] }).pb (CST_STAT.FLUSH_PEND n) false

/-- One word taken by the consumer: the idle item when no closed word is left. -/
def State.popWord (s : State) (n : Nat) : Word × State :=
  let c := s.cist n
  match c.inside, c.closed with
  | w :: r, _ =>
    let s := s.cstPut n { c with inside := r }
    (w, if r = [] ∧ s.flag (CST_STAT.FLUSH_PEND n) then s.flushNow n else s)
  | [], p :: r => (p.header, s.cstPut n { c with closed := r, inside := p.words })
  | [], [] => (idleItem, s)

/-- An uncorrectable header (R343): everything held is discarded, and LOSTALL set. -/
def State.cstLostAll (s : State) (n : Nat) : State :=
  let c := s.cist n
  let lost := c.closed.length + b2n c.opened.isSome
  let s := s.cstPut n { c with closed := [], opened := none, inside := [], sending := 0 }
  let s := (s.pb (CST_STAT.FLUSH_PEND n) false).pb (CST_STAT.LOSTALL n) true
  ((s.countBy CST_DROP.off lost).raise (evCst 3) clEvent)

/-- The words of a POP read (R340, R343). `bad` is the place in the read of an uncorrectable word: a header discards everything and
leaves idle items; a data word is returned as stored, and ends the read's status at DATA. -/
def State.popWords (s : State) (n : Nat) (bad : Option Nat) : Nat → Nat → Nat × List Word × State
  | _, 0 => (stOK, [], s)
  | i, k + 1 =>
    let c := s.cist n
    let hdr := c.inside.isEmpty
    if bad = some i ∧ !(hdr && c.closed.isEmpty) then
      let s := (s.count CST_ECC_UNCORR.off).raise (evCst 2) clDegraded
      if hdr then (stOK, List.replicate (k + 1) idleItem, s.cstLostAll n)
      else
        let (w, s) := s.popWord n
        let (_, l, s) := s.popWords n none (i + 1) k
        (stDATA, w :: l, s)
    else
      let (w, s) := s.popWord n
      let (st, l, s) := s.popWords n bad (i + 1) k
      (st, w :: l, s)

/-- The bytes of words as a read returns them. -/
def wordsBytes (l : List Word) : List Byte := (l.map (fun w => bytesLE 4 w.toNat)).flatten

/-- A read in space 0x02 (R337, R340): status and bytes. -/
def State.cstRead (s : State) (off len : Nat) (bad : Option Nat) (corr : Nat) : Nat × List Byte × State :=
  match cstDecode off with
  | none => (stADDR, [], s)
  | some (_, n, port) =>
    if port ≠ 2 ∨ len < 4 ∨ 256 < len ∨ len % 4 ≠ 0 then (stWIDTH, [], s)
    else if s.flag (CST_CFG.CONS n) then (stOWNER, [], s)
    else if !s.flag (CST_CFG.EN n) then (stOK, wordsBytes (List.replicate (len / 4) idleItem), s)
    else
      let (st, l, s) := (s.countBy CST_ECC_CORR.off corr).popWords n bad 0 (len / 4)
      (st, wordsBytes l, s)

/-! ### The PKT tunnel (R341 to R343, R255) -/

/-- The tunnel that names a Cistern as its source: a valid entry of KIND 3. DESIGN CHOICE: of several, the lowest-numbered. -/
def State.pktTunnel (s : State) (n : Nat) : Option Nat :=
  (List.range 256).find? (fun t =>
    s.flag (BRG_TUN_CFG.VALID.at t) && s.g (BRG_TUN_CFG.KIND.at t) == 3 && s.g (BRG_TUN_LOCAL.A.at t) == n)

/-- The bytes of a packet. -/
def Packet.bytes (p : Packet) : List Byte := (wordsBytes p.words).take p.len

/-- The segments a packet is cut into, as work items of a tunnel (R341, R255). -/
def State.pktItems (s : State) (t n : Nat) (p : Packet) : List Item :=
  let node := s.g (BRG_TUN_REMOTE.NODE.at t)
  let rc := s.g (BRG_TUN_REMOTE.RTUN.at t)
  let base := node * 2 ^ 48 + 2 * 2 ^ 40
  let parts := if p.len = 0 then [[]] else chunks 256 (p.len / 256 + 1) p.bytes
  let k := parts.length
  (parts.zipIdx).map (fun e =>
    let last := e.2 + 1 = k
    let port := if last then (if p.len = 0 then 4 else 1) else 0
    let off := cstOff (if last then p.typ else 0) rc port
    let it := newItem (s.g (BRG_TUN_CFG.FLOW.at t)) 0x10 (base + off) e.1 0 (.cist t n)
    { it with seg := b2n (decide (e.2 = 0)) + 2 * b2n (decide last) })

/-- CISTERN_TUNNEL_TAKE (R341, R343): the tunnel engine takes the next closed packet, verifies every word, then submits its
segments. DESIGN CHOICE: a packet waits while a submission on the tunnel's flow would be refused. `bad` is the place in the packet of an uncorrectable word, 0 the header. -/
def cisternTunnelTake (n : Fin 256) (bad : Option Nat) (corr : Nat) (s : State) : State :=
  let i := n.val
  let c := s.cist i
  match c.closed[c.sending]?, s.pktTunnel i with
  | some p, some t =>
    if !s.domOn 6 ∨ !s.flag (CST_CFG.EN i) ∨ !s.flag (CST_CFG.CONS i) ∨ s.flag (CST_STAT.FLUSH_PEND i) then s
    else
      let s := s.countBy CST_ECC_CORR.off corr
      match bad with
      | some k =>
        let s := (s.count CST_ECC_UNCORR.off).raise (evCst 2) clDegraded
        if k = 0 then s.cstLostAll i
        else (s.cstPut i { s.cist i with closed := c.closed.eraseIdx c.sending }).count CST_DROP.off
      | none =>
        let l := s.pktItems t i p
        if l.all (fun it => s.submitCheck it == stOK) then
          let s := l.foldl (fun s it => (s.submit it).2) s
          s.setCist i { s.cist i with sending := c.sending + 1 }
        else s
  | _, _ => s

/-- The oldest packet leaves its Cistern as its LAST segment is accepted (R341). -/
def State.pktLeaves (s : State) (n : Nat) : State :=
  let c := s.cist n
  let s := s.cstPut n { c with closed := c.closed.drop 1, sending := c.sending - 1 }
  if c.sending ≤ 1 ∧ s.flag (CST_STAT.FLUSH_PEND n) then s.flushNow n else s

/-- An entry of the tunnel log (R342): the Cistern event is set; a full log counts instead. -/
def State.tlogEnter (s : State) (stage status tunnel n seq : Nat) : State :=
  if 16 ≤ s.cst.tlog.length then s.count CST_TLOG_OVF.off
  else
    let e : TlogEnt := ⟨stage, s.cst.tlogSerial, status, tunnel, n, seq, s.us32⟩
    ({ s with cst := { s.cst with tlog := s.cst.tlog ++ [e], tlogSerial := (s.cst.tlogSerial + 1) % 16 } }).raise (evCistern n) clEvent

/-! ### CST register writes (R335, R344, R346, R347) -/

/-- A refused CST write. -/
def State.cstCfgErr (s : State) : Nat × State := (stCFG, s.cfgErr CST_CFGERR_CNT.off (evCst 1))

/-- CST_nCMD (R346): FLUSH now, or pending while the consumer is inside a packet; ABORT drops the open packet. -/
def State.cstFlush (s : State) (n : Nat) : State :=
  if s.flag (CST_STAT.FLUSH_PEND n) then s
  else if (s.cist n).mid then s.pb (CST_STAT.FLUSH_PEND n) true
  else s.cstPut n { s.cist n with closed := [] }

def State.cstCmdWrite (s : State) (n : Nat) (eff : Word) : Nat × State :=
  let op := (CST_CMD.OP n).get eff
  (stOK, if op = 1 then s.cstFlush n else if op = 2 then s.cstDrop n else s)

/-- Whether two regions of 256-byte units overlap. -/
def unitsOverlap (a la b lb : Nat) : Bool := decide (a < b + lb ∧ b < a + la)

/-- Whether a region may belong to an enabled Cistern `n` (R335). -/
def State.regionOk (s : State) (n base size : Nat) : Bool :=
  decide (1 ≤ size ∧ base + size ≤ 4096) &&
    (List.range 256).all (fun k => k == n || !s.flag (CST_CFG.EN k) ||
      !unitsOverlap base size (s.g (CST_REGION.BASE k)) (s.g (CST_REGION.SIZE k)))

/-- Whether a Cistern is empty and no packet is open. -/
def State.cstEmpty (s : State) (n : Nat) : Bool := (s.cist n).fill == 0

/-- A write of CST_nCFG (R335, R345, R347, R349). -/
def State.cstCfgWrite (s : State) (n : Nat) (new : Word) : Nat × State :=
  let en := (CST_CFG.EN n).get new = 1
  let consChg := (CST_CFG.CONS n).get new ≠ s.g (CST_CFG.CONS n)
  if (CST_CFG.PROD n).get new = 3 ∨ (CST_CFG.TYPE n).get new = 0 then s.cstCfgErr
  else if consChg ∧ (s.cist n).mid then s.cstCfgErr
  else if !en ∧ s.flag (CST_CFG.EN n) ∧ !s.cstEmpty n then s.cstCfgErr
  else if en ∧ !s.flag (CST_CFG.EN n) ∧ !s.regionOk n (s.g (CST_REGION.BASE n)) (s.g (CST_REGION.SIZE n)) then s.cstCfgErr
  else
    let s := if (CST_CFG.PROD n).get new ≠ s.g (CST_CFG.PROD n) then s.cstDrop n else s
    (stOK, (s.wr (CST_CFG.off n) new).weirEval n)

/-- A write of CST_nREGION (R335). -/
def State.cstRegionWrite (s : State) (n : Nat) (new : Word) : Nat × State :=
  let base := (CST_REGION.BASE n).get new
  let size := (CST_REGION.SIZE n).get new
  if new ≠ s.rd (CST_REGION.off n) ∧ !s.cstEmpty n then s.cstCfgErr
  else if 4096 < base + size ∨ (s.flag (CST_CFG.EN n) ∧ !s.regionOk n base size) then s.cstCfgErr
  else if (List.range 256).any (fun k => k != n && s.flag (CST_CFG.EN k) &&
      unitsOverlap base size (s.g (CST_REGION.BASE k)) (s.g (CST_REGION.SIZE k))) then s.cstCfgErr
  else (stOK, (s.wr (CST_REGION.off n) new).weirEval n)

/-- A write of CST_nPROD (R347): a new producer starts cleanly. -/
def State.cstProdWrite (s : State) (n : Nat) (new : Word) : Nat × State :=
  let s := if new ≠ s.rd (CST_PROD.off n) then s.cstDrop n else s
  (stOK, s.wr (CST_PROD.off n) new)

/-- A write of CST_nWEIR (R344, R347). -/
def State.cstWeirWrite (s : State) (n : Nat) (new : Word) : Nat × State :=
  if (CST_WEIR.EN n).get new = 1 ∧ (CST_WEIR.HIGH n).get new ≤ (CST_WEIR.LOW n).get new then s.cstCfgErr
  else (stOK, (s.wr (CST_WEIR.off n) new).weirEval n)

/-- A write of CST_TLOG_POP (R342). -/
def State.tlogPop (s : State) (eff : Word) : Nat × State :=
  match s.cst.tlog with
  | e :: r => (stOK, if e.serial = CST_TLOG_POP.SERIAL.get eff then { s with cst := { s.cst with tlog := r } } else s)
  | [] => (stOK, s)

/-- Every Cistern emptied, as CASCADE leaves off (R335). -/
def State.cstReset (s : State) : State := { s with cst := ⟨[], [], 0⟩ }

end Sys2Proof.Machine
end

