-- ==== Sys2Proof/Machine/Can.lean ====
section
/-! DEFINITION. CAN FD controllers and their schedules (R350 to R364): reception and its filters, transmit requests and cancels, windows,
bus-off, tunnels, and the register writes. -/

namespace Sys2Proof.Machine

/-- A controller's record. -/
def State.canc (s : State) (n : Nat) : Can := SMap.get Can.dflt s.can n

/-- A controller's record replaced. -/
def State.setCan (s : State) (n : Nat) (c : Can) : State := { s with can := SMap.set Can.dflt s.can n c }

/-- MODE and STATE codes (R364). -/
def cmInit : Nat := 0
def cmNormal : Nat := 1
def cmListen : Nat := 2
def cmLoop : Nat := 3
def csInit : Nat := 0
def csActive : Nat := 1
def csPassive : Nat := 2
def csBusOff : Nat := 3
def csRecovering : Nat := 4

/-- The MODE and STATE of a controller. -/
def State.canMode (s : State) (n : Nat) : Nat := s.g (CAN_CFG.MODE n)
def State.canState (s : State) (n : Nat) : Nat := s.g (CAN_STAT.STATE n)

/-- An event of a controller raised and counted. -/
def State.canRaise (s : State) (n cls : Nat) : State := (s.count (CAN_EVT_CNT.off n)).raise (evCan n) cls

/-- A refused CAN write. -/
def State.canRefuse (s : State) (n : Nat) : Nat × State := (stCFG, (s.count (CAN_CFGERR_CNT.off n)).canRaise n clEvent)

/-! ### Objects -/

/-- Whether an object is an enabled transmit object, or an enabled receive object. -/
def State.objTx (s : State) (n o : Nat) : Bool := s.flag ((CAN_OBJ_CFG.EN n).at o) && s.flag ((CAN_OBJ_CFG.TX n).at o)
def State.objRx (s : State) (n o : Nat) : Bool := s.flag ((CAN_OBJ_CFG.EN n).at o) && !s.flag ((CAN_OBJ_CFG.TX n).at o)

/-- Whether a frame passes an object's filter (R351). -/
def State.objMatch (s : State) (n o : Nat) (f : CanFrame) : Bool :=
  ((s.g ((CAN_OBJ_ID.ID n).at o) ^^^ f.id) &&& s.g ((CAN_OBJ_MASK.MASK n).at o)) == 0 &&
    s.flag ((CAN_OBJ_ID.IDE n).at o) == f.ide

/-- Data length of a DLC (R350). -/
def dlcBytes (fdf : Bool) (d : Nat) : Nat :=
  if d ≤ 8 then d else if !fdf then 8 else [12, 16, 20, 24, 32, 48, 64].getD (d - 9) 64

/-- The 64 bytes of an object's live copy. -/
def State.objLive (s : State) (n o : Nat) : List Byte :=
  ((List.range 16).map (fun k => bytesLE 4 (s.rd (CAN_OBJ_DATA.off n o k)).toNat)).flatten

/-- Bytes stored in an object's live copy from byte 0. -/
def State.setObjLive (s : State) (n o : Nat) (l : List Byte) : State :=
  (List.range (cstWords l.length)).foldl (fun s k =>
    s.wr (CAN_OBJ_DATA.off n o k) (BitVec.ofNat 32 (natLE (slice l (4 * k) 4)))) s

/-- The outcome of an attempt (R357): every value other than OK counts and raises the controller's event. -/
def State.setLast (s : State) (n o v : Nat) : State :=
  let s := s.p ((CAN_OBJ_STAT.LAST n).at o) v
  if v = 1 then s else (s.count (CAN_TX_FAIL.off n)).canRaise n clEvent

def laOK : Nat := 1
def laARB : Nat := 2
def laERROR : Nat := 3
def laLATE : Nat := 4
def laCANCELLED : Nat := 5
def laBUSOFF : Nat := 6
def laINIT : Nat := 7

/-- A request removed (R354). -/
def State.cancelled (s : State) (n o : Nat) : State := (s.setLast n o laCANCELLED).count (CAN_CANCEL_CNT.off n)

/-! ### Tunnels at the source (R254, R255, R360) -/

/-- The valid tunnel of KIND 1 whose source range holds an object. DESIGN CHOICE: of several, the lowest-numbered. -/
def State.canTunnel (s : State) (n o : Nat) : Option Nat :=
  (List.range 256).find? (fun t =>
    s.flag (BRG_TUN_CFG.VALID.at t) && s.g (BRG_TUN_CFG.KIND.at t) == 1 && s.g (BRG_TUN_LOCAL.A.at t) == n &&
      decide (s.g (BRG_TUN_LOCAL.B.at t) ≤ o ∧ o ≤ s.g (BRG_TUN_LOCAL.C.at t)))

/-- The address in a TUN_CAN or TUN_ETH header (R255). -/
def State.tunAddr (s : State) (t : Nat) : Nat := s.g (BRG_TUN_REMOTE.NODE.at t) * 2 ^ 48 + s.g (BRG_TUN_REMOTE.RTUN.at t)

/-- The descriptor and data of a TUN_CAN payload (R360). -/
def canPayload (f : CanFrame) (stamp : Nat) : List Byte :=
  bytesBE 4 (b2n f.ide * 2 ^ 31 + b2n f.fdf * 2 ^ 30 + b2n f.brs * 2 ^ 29 + f.id % 2 ^ 29) ++
    bytesBE 1 (b2n f.rtr * 128 + b2n f.esi * 64 + f.dlc % 16) ++ [0] ++ bytesBE 6 stamp ++ List.replicate 4 0 ++ f.data

/-- The frame of a TUN_CAN payload. -/
def decCan (l : List Byte) : CanFrame :=
  let w := beAt l 0 4
  let fl := beAt l 4 1
  { ide := w.testBit 31, fdf := w.testBit 30, brs := w.testBit 29, rtr := fl.testBit 7, esi := fl.testBit 6,
    id := if w.testBit 31 then w % 2 ^ 29 else w % 2 ^ 11, dlc := fl % 16, data := l.drop 16 }

/-- A MODE 0 tunnel frame offered at TUNNEL toward the ring (R255): FIRST and LAST 1, INC and LOW 0. -/
def State.tunSend (s : State) (t op typ cls : Nat) (data : List Byte) : State :=
  (s.offerRing 9 typ cls (s.g (BRG_TUN_REMOTE.NODE.at t)) (itemHead (s.tunAddr t) op 3 data.length 0 0 s.fns48 ++ data)).2

/-- A stored frame taken by its tunnel at once (R360): MODE 0 frees the object, MODE 1 holds it until acceptance. -/
def State.canTake (s : State) (n o t : Nat) (f : CanFrame) (stamp : Nat) : State :=
  let pl := canPayload f stamp
  if !s.flag (BRG_TUN_CFG.MODE.at t) then (s.tunSend t 0x11 tyTunCan 4 pl).pb ((CAN_OBJ_STAT.UNREAD n).at o) false
  else
    let (st, s) := s.submit (newItem (s.g (BRG_TUN_CFG.FLOW.at t)) 0x11 (s.tunAddr t) pl 0 (.can n o))
    if st = stOK then s.setCan n { s.canc n with held := o :: (s.canc n).held.filter (fun x => x != o) } else s

/-- A MODE 1 frame accepted: its object is free (R193, R360). -/
def State.canAccepted (s : State) (n o : Nat) : State :=
  (s.setCan n { s.canc n with held := (s.canc n).held.filter (fun x => x != o) }).pb ((CAN_OBJ_STAT.UNREAD n).at o) false

/-! ### Reception (R351) -/

/-- A frame stored in a receive object, then taken by the signal map or a tunnel. -/
def State.canStore (s : State) (n o : Nat) (f : CanFrame) (stamp : Nat) : State :=
  let s := s.setObjLive n o f.data
  let s := (s.p ((CAN_OBJ_STAT.DLC n).at o) f.dlc).pb ((CAN_OBJ_STAT.UNREAD n).at o) true
  let s := (s.wr (bankKey (CAN_OBJ_STAMP_LO.off n) o) (BitVec.ofNat 32 stamp)).wr (bankKey (CAN_OBJ_STAMP_HI.off n) o)
    (BitVec.ofNat 32 (stamp / 2 ^ 32 % 2 ^ 16))
  let sig := s.sigEntries false 1 n o
  let s := s.signalUpdate 1 n o f.data stamp false
  let s := if sig = [] then s else s.pb ((CAN_OBJ_STAT.UNREAD n).at o) false
  match s.canTunnel n o with
  | some t => s.canTake n o t f stamp
  | none => s

/-- REC after a good reception (R350): ISO 11898-1 takes 1 off, or brings a value above 127 to 127. -/
def recDown (r : Nat) : Nat := if 127 < r then 127 else r - 1

/-- The error state from TEC and REC. -/
def errState (tec rec_ : Nat) : Nat := if 128 ≤ tec ∨ 128 ≤ rec_ then csPassive else csActive

/-- STATE brought to what TEC and REC give, where the controller is active or passive. -/
def State.canErr (s : State) (n : Nat) : State :=
  if s.canState n = csActive ∨ s.canState n = csPassive then
    s.p (CAN_STAT.STATE n) (errState (s.g (CAN_STAT.TEC n)) (s.g (CAN_STAT.REC n)))
  else s

/-- The start-of-frame stamp (R22, R351): Clepsydra's FNS at an instant `age` steps of 12.5 ns ago. -/
def State.sofStamp (s : State) (age : Nat) : Nat := wrapInt 48 ((2 * s.fns - 25 * (age : Int)) / 2)

/-- The data that a frame carries: as many bytes as its DLC says, none in a remote frame. -/
def canData (f : CanFrame) : List Byte := if f.rtr then [] else f.data.take (dlcBytes f.fdf f.dlc)

/-- A good frame taken in (R351): counted, and stored in a matching receive object or counted lost. -/
def State.canRx (s : State) (i : Nat) (f : CanFrame) (stamp : Nat) : State :=
  let f := { f with data := canData f }
  let s := (s.traffic (CAN_RX_FRAMES_LO.off i) 1).p (CAN_STAT.REC i) (recDown (s.g (CAN_STAT.REC i)))
  let s := s.canErr i
  let l := (List.range 64).filter (fun o => s.objRx i o && s.objMatch i o f)
  if l = [] then s
  else
    match l.find? (fun o => !s.flag ((CAN_OBJ_STAT.UNREAD i).at o) && !(s.canc i).held.contains o) with
    | some o => s.canStore i o f stamp
    | none => s.count (CAN_RX_OVR.off i)

/-- CAN_FRAME_RECEIVE (R350, R351, R360): a frame on the bus, which began `age` steps of 12.5 ns ago. `err` is 0 for a good frame; else what
ISO 11898-1 adds to REC for the error met in it, and nothing is stored. PRESUMED: in internal loopback the controller is not on the bus. -/
def canFrameReceive (n : Fin 8) (f : CanFrame) (age : BitVec 24) (err : Fin 9) (s : State) : State :=
  let i := n.val
  if !s.domOn 11 ∨ s.canMode i = cmInit ∨ s.canMode i = cmLoop ∨ s.canState i = csBusOff ∨ s.canState i = csRecovering then s
  else if err ≠ 0 then (s.p (CAN_STAT.REC i) (min 255 (s.g (CAN_STAT.REC i) + err.val))).canErr i
  else if f.fdf ∧ !s.flag (CAN_CFG.FD i) then s
  else s.canRx i f (s.sofStamp age.toNat)

/-! ### Requests (R352 to R354, R359) -/

/-- CAN_CMD TXREQ. -/
def State.txReq (s : State) (n o : Nat) : State := if s.objTx n o then s.pb ((CAN_OBJ_STAT.PEND n).at o) true else s

/-- CAN_CMD CANCEL (R354): the object's request, and a single attempt of it that waits for the bus, removed; a frame of it already
committed is not attempted again. -/
def State.canCancel (s : State) (n o : Nat) : State :=
  let c := s.canc n
  let waits := c.waitSingle.any (fun e => e.1 == o)
  let s' := (s.pb ((CAN_OBJ_STAT.PEND n).at o) false).setCan n { c with
    tx := c.tx.map (fun x => if x.obj = o then { x with cancelled := true } else x), waitSingle := if waits then none else c.waitSingle }
  if c.tx.any (fun x => x.obj == o) then s'
  else if s.flag ((CAN_OBJ_STAT.PEND n).at o) || waits then s'.cancelled n o
  else s

/-- CAN_CMD COMMIT_DATA: the shadow copied to the live copy. -/
def State.commitData (s : State) (n o : Nat) : State :=
  let c := s.canc n
  let s := (List.range 16).foldl (fun s k =>
    s.wr (CAN_OBJ_DATA.off n o k) (SMap.get (fun _ => 0) c.shadow (16 * o + k))) s
  s.setCan n { c with arr := SMap.set (fun _ => none) c.arr o none }

/-- CAN_CMD RECOVER. -/
def State.canRecover (s : State) (n : Nat) : State :=
  if s.canState n = csBusOff then s.p (CAN_STAT.STATE n) csRecovering else (s.canRefuse n).2

/-- A write of CAN_CMD (R364). -/
def State.canCmdWrite (s : State) (n : Nat) (eff : Word) : Nat × State :=
  let op := (CAN_CMD.OP n).get eff
  let o := (CAN_CMD.OBJ n).get eff
  (stOK, if op = 1 then s.txReq n o else if op = 2 then s.canCancel n o else if op = 3 then s.commitData n o
    else if op = 4 then s.canRecover n else s)

/-- The number of the PERIOD of an object that holds the present (R353). DEDUCED: its periods end at the multiples of PERIOD × 100 µs of
FNS. -/
def State.canPer (s : State) (n o : Nat) : Int := s.fns / (100000 * s.g ((CAN_OBJ_CFG.PERIOD n).at o) : Nat)

/-- CAN_PERIOD_EXPIRE (R353): a transmit object's PERIOD of fabric time has ended since it last did. -/
def canPeriodExpire (n : Fin 8) (o : Fin 64) (s : State) : State :=
  let k := s.canPer n.val o.val
  let c := s.canc n.val
  if s.g ((CAN_OBJ_CFG.PERIOD n.val).at o.val) ≠ 0 ∧ (SMap.get (fun _ => none) c.perAt o.val).all (fun j => decide (j < k)) then
    (s.setCan n.val { c with perAt := SMap.set (fun _ => none) c.perAt o.val (some k) }).txReq n.val o.val
  else s

/-! ### Transmission (R352, R353, R356, R357) -/

/-- Whether a controller may send on the bus: MODE normal or internal loopback, and not bus-off or recovering. -/
def State.canSends (s : State) (n : Nat) : Bool :=
  s.domOn 11 && (s.canMode n == cmNormal || s.canMode n == cmLoop) && (s.canState n == csActive || s.canState n == csPassive)

/-- Arbitration order of an object's identifier: a base identifier stands above the extended ones it begins. -/
def State.objPrio (s : State) (n o : Nat) : Nat :=
  let id := s.g ((CAN_OBJ_ID.ID n).at o)
  if s.flag ((CAN_OBJ_ID.IDE n).at o) then 2 * (id % 2 ^ 29) + 1 else 2 * (id % 2 ^ 11 * 2 ^ 18)

/-- The pending object with the lowest identifier, and at equal identifiers the lowest number (R353), among those allowed. -/
def State.canNext (s : State) (n : Nat) (ok : Nat → Bool) : Option Nat :=
  (List.range 64).foldl (fun (a : Option Nat) o =>
    if s.objTx n o && s.flag ((CAN_OBJ_STAT.PEND n).at o) && ok o then
      match a with
      | some b => if s.objPrio n o < s.objPrio n b then some o else a
      | none => some o
    else a) none

/-- The frame an object gives as it is committed (R352, R253): the bound fields are filled into its live copy. Where no tunnel placed the
frame, the manual names nothing that sets the DLC: it is a free value. -/
def State.objFrame (s : State) (n o : Nat) : CanFrame × State :=
  let (l, s) := s.sinkBuild 1 n o (s.objLive n o)
  let s := s.setObjLive n o l
  let esi := s.canState n == csPassive
  match SMap.get (fun _ => none) (s.canc n).arr o with
  | some f => ({ f with esi := esi, data := canData { f with data := s.objLive n o } }, s)
  | none =>
    let (d, s) := s.free
    let fdf := s.flag ((CAN_OBJ_ID.FDF n).at o)
    ({ ide := s.flag ((CAN_OBJ_ID.IDE n).at o), fdf := fdf, brs := s.flag ((CAN_OBJ_ID.BRS n).at o), rtr := false, esi := esi,
       id := s.g ((CAN_OBJ_ID.ID n).at o), dlc := d % 16, data := (s.objLive n o).take (dlcBytes fdf (d % 16)) }, s)

/-- An object committed into the shift register. -/
def State.canLoad (s : State) (n o : Nat) (single : Bool) : State :=
  let (f, s) := s.objFrame n o
  let s := (s.p ((CAN_OBJ_STAT.DLC n).at o) f.dlc).pb ((CAN_OBJ_STAT.PEND n).at o) (single && s.flag ((CAN_OBJ_STAT.PEND n).at o))
  s.setCan n { s.canc n with tx := some ⟨o, f, single, false⟩, waitSingle := none,
                             tried := if single then (s.canc n).tried else o :: (s.canc n).tried }

/-! ### The schedule (R355 to R358) -/

/-- Time since the start of the present basic cycle in ns, and the cycle's number (R355). -/
def State.canCycle (s : State) (n : Nat) : Int × Int :=
  let c := s.canc n
  let len : Int := 1000 * (c.bcLen : Int)
  let t := s.fns - 1000 * (c.phase : Int)
  (t % len, t / len)

/-- The matrix row of a cycle. -/
def State.canRow (s : State) (n : Nat) : Nat := ((s.canCycle n).2 % ((2 ^ (s.canc n).mc : Nat) : Int)).toNat

/-- The enabled windows of a controller: number and START in µs. -/
def State.canWins (s : State) (n : Nat) : List (Nat × Nat) :=
  ((List.range 32).filter (fun w => s.flag (CAN_WIN.EN n w))).map (fun w => (w, s.g (CAN_WIN.START n w)))

/-- The instant in µs of the cycle at which the window after `w` opens, or the cycle ends. -/
def State.canWinEnd (s : State) (n w : Nat) : Nat :=
  match (s.canWins n).find? (fun e => decide (w < e.1)) with
  | some e => e.2
  | none => (s.canc n).bcLen

/-- A nominal bit in units of 12.5 ns (R364). -/
def State.canBit (s : State) (n : Nat) : Nat := (s.g (CAN_NBT.BRP n) + 1) * (s.g (CAN_NBT.TSEG1 n) + s.g (CAN_NBT.TSEG2 n) + 3)

/-- Whether TXEN + 1 nominal bit times have passed since a window opened (R357). -/
def State.txenPast (s : State) (n : Nat) (at_ : Int) (txen : Nat) : Bool :=
  decide ((25 * (txen + 1) * s.canBit n : Nat) ≤ 2 * (s.fns - at_))

/-- The staged schedule taken once row 0 has started since it was written (R358). -/
def State.ttDue (s : State) (n : Nat) : State :=
  let c := s.canc n
  match c.stagedTT with
  | some (b, m, p, k) =>
    let rows : Int := (2 ^ c.mc : Nat)
    if k / rows < (s.canCycle n).2 / rows then s.setCan n { c with bcLen := b, mc := m, phase := p, stagedTT := none, opened := none } else s
  | none => s

/-- Whether the arbitrating window that opened last is still open: it ends with its basic cycle (R356). -/
def State.arbNow (s : State) (n : Nat) : Bool :=
  (s.canc n).arbOpen && (s.canc n).opened.any (fun e => e.1 == (s.canCycle n).2)

/-- Whether an object may start in the open arbitrating window (R356). -/
def State.arbOk (s : State) (n o : Nat) : Bool :=
  let wcet := s.g ((CAN_OBJ_CFG.WCET n).at o)
  wcet != 0 && !(s.canc n).tried.contains o &&
    decide ((s.canCycle n).1 + 1000 * (wcet : Int) ≤ 1000 * (s.canWinEnd n (s.g (CAN_TT_STAT.WIN n)) : Int))

/-- CAN_TX_COMMIT (R352, R353, R356): the bus is idle, and the controller commits what it may send. -/
def canTxCommit (n : Fin 8) (s : State) : State :=
  let i := n.val
  let c := s.canc i
  if !s.canSends i ∨ c.tx.isSome then s
  else
    match c.waitSingle with
    | some (o, _, t, txen) =>
      if s.txenPast i t txen then (s.setCan i { c with waitSingle := none }).setLast i o laLATE else s.canLoad i o true
    | none =>
      let tt := s.flag (CAN_CFG.TT i)
      if tt ∧ !s.arbNow i then s
      else
        match s.canNext i (fun o => !tt || s.arbOk i o) with
        | some o => s.canLoad i o false
        | none => s

/-- The data of a reference message (R356): its row and the start of its cycle. -/
def State.refData (s : State) (n o row : Nat) : State :=
  let start := wrapInt 48 (s.fns - (s.canCycle n).1)
  s.setObjLive n o (bytesLE 1 row ++ bytesLE 6 start ++ (s.objLive n o).drop 7)

/-- An exclusive or reference attempt at its window's opening (R357). -/
def State.canSingle (s : State) (n o txen : Nat) (ref : Bool) (idle : Bool) : State :=
  if s.canMode n ≠ cmNormal then s.setLast n o laINIT
  else if !s.canSends n then s.setLast n o laBUSOFF
  else
    let s := if ref then s.refData n o (s.canRow n) else s
    if idle ∧ (s.canc n).tx.isNone then s.canLoad n o true
    else s.setCan n { s.canc n with waitSingle := some (o, ref, s.fns, txen) }

/-- Whether window `w` opens now (R355, R356): it is enabled, the present lies in it, and neither it nor a later window has opened in this
basic cycle. -/
def State.winOpens (s : State) (n w : Nat) : Bool :=
  let (off, m) := s.canCycle n
  s.flag (CAN_WIN.EN n w) && decide (1000 * (s.g (CAN_WIN.START n w) : Int) ≤ off) && decide (off < 1000 * (s.canWinEnd n w : Int)) &&
    (s.canc n).opened.all (fun e => decide (e.1 < m) || (e.1 == m && decide (e.2 < w)))

/-- CAN_WINDOW_OPEN (R355 to R357): window `w` opens; `idle` tells whether the bus is idle. -/
def canWindowOpen (n : Fin 8) (w : Fin 32) (idle : Bool) (s : State) : State :=
  let i := n.val
  let s := s.ttDue i
  if !s.domOn 11 ∨ !s.flag (CAN_CFG.TT i) ∨ !s.winOpens i w.val then s
  else
    let row := s.canRow i
    let cell := bankKey (CAN_CELL.off i) (row * 32 + w.val)
    let kind := (CAN_CELL.KIND i).get (s.rd cell)
    let o := (CAN_CELL.OBJ i).get (s.rd cell)
    let s := (s.p (CAN_TT_STAT.ROW i) row).p (CAN_TT_STAT.WIN i) w.val
    let s := s.setCan i { s.canc i with arbOpen := kind == 2, tried := [], opened := some ((s.canCycle i).2, w.val) }
    if (kind = 1 ∨ kind = 3) ∧ s.objTx i o then s.canSingle i o (s.g (CAN_WIN.TXEN i w.val)) (kind == 3) idle else s

/-- CAN_TXEN_EXPIRE (R357): the bus has stayed busy for TXEN + 1 nominal bit times after the opening. -/
def canTxenExpire (n : Fin 8) (s : State) : State :=
  match (s.canc n.val).waitSingle with
  | some (o, _, t, txen) =>
    if s.txenPast n.val t txen then (s.setCan n.val { s.canc n.val with waitSingle := none }).setLast n.val o laLATE else s
  | none => s

/-- CAN_TT_APPLY (R358): the staged set applies at the start of a row 0. -/
def canTtApply (n : Fin 8) (s : State) : State := s.ttDue n.val

/-! ### Ends of transmission (R354, R357, R359) -/

/-- The controller goes bus-off when TEC exceeds 255 (R359). -/
def State.canTec (s : State) (n tec : Nat) : State :=
  if 255 < tec then
    let s := (s.p (CAN_STAT.TEC n) 255).p (CAN_STAT.STATE n) csBusOff
    (s.count (CAN_BUSOFF_CNT.off n)).canRaise n clDegraded
  else (s.p (CAN_STAT.TEC n) tec).canErr n

/-- CAN_TX_DONE (R351, R353, R354, R357, R359): the frame in the shift register, which began `age` steps of 12.5 ns ago, ends. DEDUCED: an
attempt outside an exclusive or reference window sets LAST too. PRESUMED: in internal loopback the controller receives what it sends. -/
def canTxDone (n : Fin 8) (e : CanEnd) (age : BitVec 24) (s : State) : State :=
  let i := n.val
  match (s.canc i).tx with
  | none => s
  | some x =>
    let o := x.obj
    let s := s.setCan i { s.canc i with tx := none }
    let tec := s.g (CAN_STAT.TEC i)
    match e with
    | .ok =>
      let s := (s.canTec i (tec - 1)).traffic (CAN_TX_FRAMES_LO.off i) 1
      let stamp := s.sofStamp age.toNat
      let s := (s.wr (bankKey (CAN_OBJ_STAMP_LO.off i) o) (BitVec.ofNat 32 stamp)).wr (bankKey (CAN_OBJ_STAMP_HI.off i) o)
        (BitVec.ofNat 32 (stamp / 2 ^ 32))
      let s := s.setLast i o laOK
      let s := if x.cancelled then s.pb ((CAN_OBJ_STAT.CXL_LATE i).at o) true else s
      if s.canMode i = cmLoop then s.canRx i x.frame stamp else s
    | .arb => if x.cancelled then s.cancelled i o
      else if x.single then s.setLast i o laARB
      else (s.setLast i o laARB).pb ((CAN_OBJ_STAT.PEND i).at o) true
    | .error bump =>
      let s := if bump then s.canTec i (tec + 8) else s
      if x.cancelled then s.cancelled i o
      else if x.single then s.setLast i o laERROR
      else (s.setLast i o laERROR).pb ((CAN_OBJ_STAT.PEND i).at o) true

/-- CAN_RECOVERY_DONE (R359). -/
def canRecoveryDone (n : Fin 8) (s : State) : State :=
  if s.canState n.val = csRecovering then
    ((s.p (CAN_STAT.TEC n.val) 0).p (CAN_STAT.REC n.val) 0).p (CAN_STAT.STATE n.val) csActive
  else s

/-! ### Tunnels at the sink (R361) -/

/-- A frame placed in the lowest free transmit object of a range whose filter matches; none while it must wait. -/
def State.canPlace (s : State) (n b c : Nat) (f : CanFrame) : Option State :=
  ((List.range 64).find? (fun o => decide (b ≤ o ∧ o ≤ c) && s.objTx n o && s.objMatch n o f &&
    !s.flag ((CAN_OBJ_STAT.PEND n).at o))).map (fun o =>
      let s := s.setObjLive n o f.data
      (s.setCan n { s.canc n with arr := SMap.set (fun _ => none) (s.canc n).arr o (some f) }).pb ((CAN_OBJ_STAT.PEND n).at o) true)

/-- Whether a frame must be discarded at a controller without FD (R361). -/
def State.canNoFd (s : State) (n : Nat) (f : CanFrame) : Bool := f.fdf && !s.flag (CAN_CFG.FD n)

/-- A MODE 1 item applied at its sink (R361): its status; none while it waits. -/
def State.canApply (s : State) (t : Nat) (f : CanFrame) : Option (Nat × State) :=
  let n := s.g (BRG_TUN_LOCAL.A.at t)
  if s.canNoFd n f then some (stDEVICE, s.count (CAN_TUN_DROP.off n))
  else if s.canState n = csBusOff ∨ !s.domOn 11 then none
  else (s.canPlace n (s.g (BRG_TUN_LOCAL.B.at t)) (s.g (BRG_TUN_LOCAL.C.at t)) f).map (fun s => (stOK, s))

/-- A MODE 0 frame at its sink (R361). -/
def State.canArrive (s : State) (t : Nat) (f : CanFrame) : State :=
  let n := s.g (BRG_TUN_LOCAL.A.at t)
  if s.canNoFd n f then s.count (CAN_TUN_DROP.off n)
  else (s.canPlace n (s.g (BRG_TUN_LOCAL.B.at t)) (s.g (BRG_TUN_LOCAL.C.at t)) f).getD (s.count (CAN_TUN_DROP.off n))

/-! ### CAN register writes (R358, R362, R364) -/

/-- The frame in the shift register cut (R362, R363): its request stays, a single attempt reports INIT. -/
def State.canCut (s : State) (n : Nat) : State :=
  let c := s.canc n
  let s := s.setCan n { c with tx := none, waitSingle := none, arbOpen := false, tried := [] }
  let s := match c.tx with
    | some x => if x.single then s.setLast n x.obj laINIT else s.pb ((CAN_OBJ_STAT.PEND n).at x.obj) (!x.cancelled)
    | none => s
  match c.waitSingle with
  | some (o, _) => s.setLast n o laINIT
  | none => s

/-- A write of CAN_CFG (R362). A controller that is bus-off or recovering shows that in MODE INIT too, since only RECOVER leads out of
BUS_OFF (R359). -/
def State.canCfgWrite (s : State) (n : Nat) (new : Word) : Nat × State :=
  let old := s.rd (CAN_CFG.off n)
  let m := (CAN_CFG.MODE n).get new
  if (CAN_CFG.FD n).get new ≠ (CAN_CFG.FD n).get old ∧ s.canMode n ≠ cmInit then s.canRefuse n
  else if m = cmInit then
    let s := if s.canMode n = cmInit then s else s.canCut n
    let s := s.wr (CAN_CFG.off n) new
    (stOK, if s.canState n = csBusOff ∨ s.canState n = csRecovering then s else s.p (CAN_STAT.STATE n) csInit)
  else
    let s := s.wr (CAN_CFG.off n) new
    (stOK, if s.canState n = csInit then s.p (CAN_STAT.STATE n) (errState (s.g (CAN_STAT.TEC n)) (s.g (CAN_STAT.REC n))) else s)

/-- A write of CAN_NBT or CAN_DBT (R362, R364). -/
def State.canNbtWrite (s : State) (n : Nat) (new : Word) : Nat × State :=
  let tq := ((CAN_NBT.BRP n).get new + 1) * ((CAN_NBT.TSEG1 n).get new + (CAN_NBT.TSEG2 n).get new + 3)
  if s.canMode n ≠ cmInit ∨ tq < 80 then s.canRefuse n else (stOK, s.wr (CAN_NBT.off n) new)

def State.canDbtWrite (s : State) (n : Nat) (new : Word) : Nat × State :=
  let tq := ((CAN_DBT.BRP n).get new + 1) * ((CAN_DBT.TSEG1 n).get new + (CAN_DBT.TSEG2 n).get new + 3)
  if s.canMode n ≠ cmInit ∨ tq < 10 then s.canRefuse n else (stOK, s.wr (CAN_DBT.off n) new)

/-- A write that completes CAN_TT_CFG and CAN_TT_PHASE (R358). -/
def State.canTtWrite (s : State) (n : Nat) (cfg phase : Word) : Nat × State :=
  let b := (CAN_TT_CFG.BC_LEN n).get cfg
  let m := (CAN_TT_CFG.MC n).get cfg
  let p := (CAN_TT_PHASE.PHASE n).get phase
  if b < 100 ∨ 64000 < b ∨ m = 7 ∨ b ≤ p then s.canRefuse n
  else
    let s := (s.wr (CAN_TT_CFG.off n) cfg).wr (CAN_TT_PHASE.off n) phase
    (stOK, s.setCan n { s.canc n with stagedTT := some (b, m, p, (s.canCycle n).2) })

/-- A write of CAN_WINw (R356): enabled windows keep rising START values below BC_LEN. -/
def State.canWinWrite (s : State) (n w : Nat) (new : Word) : Nat × State :=
  let l := ((List.range 32).map (fun k => if k = w then new else s.rd (CAN_WIN.off n k))).filter (fun x => x.getLsbD 31)
  let starts := l.map (fun x => x.toNat % 65536)
  if (starts.zip (starts.drop 1)).any (fun e => decide (e.2 ≤ e.1)) ∨
      (s.canc n).bcLen ≤ new.toNat % 65536 then s.canRefuse n
  else (stOK, s.wr (CAN_WIN.off n w) new)

/-- A write of CAN_CELL for a cell of the matrix. -/
def State.canCellWrite (s : State) (n cell : Nat) (new : Word) : Nat × State := (stOK, s.wr (bankKey (CAN_CELL.off n) cell) new)

/-- A write of CAN_OBJ_CFG for an object (R362): a change between receive and transmit discards an unread frame. -/
def State.objCfgWrite (s : State) (n o : Nat) (new : Word) : Nat × State :=
  let chg := (CAN_OBJ_CFG.TX n).get new ≠ s.g ((CAN_OBJ_CFG.TX n).at o)
  let s := s.wr (bankKey (CAN_OBJ_CFG.off n) o) new
  let s := s.setCan n { s.canc n with perAt := SMap.set (fun _ => none) (s.canc n).perAt o (some (s.canPer n o)) }
  (stOK, if chg then s.pb ((CAN_OBJ_STAT.UNREAD n).at o) false else s)

/-- A write of a data register: the shadow copy (R352). -/
def State.objDataWrite (s : State) (n o k : Nat) (new : Word) : Nat × State :=
  (stOK, s.setCan n { s.canc n with shadow := SMap.set (fun _ => 0) (s.canc n).shadow (16 * o + k) new })

/-- Software's read of CAN_OBJo_DATA0: the frame is read (R351). -/
def State.objRead (s : State) (n o : Nat) : State :=
  if s.objRx n o ∧ !(s.canc n).held.contains o then s.pb ((CAN_OBJ_STAT.UNREAD n).at o) false else s

/-- CAN leaves on (R363): every frame is cut; the request of one that would be attempted again is kept. -/
def State.canOff (s : State) : State :=
  (List.range 8).foldl (fun s n =>
    let c := s.canc n
    let s := s.setCan n { c with tx := none, waitSingle := none, arbOpen := false, tried := [] }
    match c.tx with
    | some x => if x.single || x.cancelled then s else s.pb ((CAN_OBJ_STAT.PEND n).at x.obj) true
    | none => s) s

end Sys2Proof.Machine
end

