-- ==== Sys2Proof/Machine/Sluice.lean ====
section
/-! DEFINITION. Sluice's stores (R239 to R249, R377): pieces, posted writes and their failure log, delayed reads, the stranded store, the
prefetch buffer, notices of the USB function, and the bridges' register writes. What a piece does at its target is in HostPort. -/

namespace Sys2Proof.Machine

/-- Host-port status codes (R235). -/
def stRETRY : Nat := 0x10
def stBUSY : Nat := 0x11
def stNOTAG : Nat := 0x12
def stCRC : Nat := 0x13
def stOPCODE : Nat := 0x14
def stDOWN : Nat := 0x15

/-- Sluice's record changed. -/
def State.bm (s : State) (f : Brg → Brg) : State := { s with brg := f s.brg }

/-- The fabric function's record changed. -/
def State.um (s : State) (f : Usb → Usb) : State := { s with usb := f s.usb }

/-! ### Pieces and routes (R239, R247) -/

/-- The pieces of a command: address and bytes, cut at 256-byte boundaries of OFFSET (R239). -/
def cutPieces : Nat → Nat → Nat → List (Nat × Nat)
  | 0, _, _ => []
  | fuel + 1, addr, len =>
    if len = 0 then []
    else
      let n := min len (256 - addr % 256)
      (addr, n) :: cutPieces fuel (addr + n) (len - n)

/-- The pieces of a READ or WRITE of `len` bytes at `addr`, at most 5. -/
def pieces (addr len : Nat) : List (Nat × Nat) := cutPieces 5 addr len

/-- The flow of the first valid BRG_ROUTE entry whose NODE equals the address's (R247). -/
def State.routeOf (s : State) (a : Nat) : Option Nat :=
  ((List.range 256).find? (fun e => s.flag (BRG_ROUTE.VALID.at e) && s.g (BRG_ROUTE.NODE.at e) == adNode a)).map
    (fun e => s.g (BRG_ROUTE.FLOW.at e))

/-! ### Posted writes (R246 to R248) -/

/-- BRG_PW_SEQ.DRAINED and BRG_PW_RES as the entries stand. -/
def State.pwSync (s : State) : State :=
  let next := s.g BRG_PW_SEQ.NEXT
  let dr := match s.brg.posted.head? with | some e => e.pw | none => next
  let rs := match s.brg.unres.head? with | some e => e.1 | none => next
  (s.p BRG_PW_SEQ.DRAINED (dr + 65535)).p BRG_PW_RES.RESOLVED (rs + 65535)

/-- An entry drained: applied, accepted, or refused at stage 1 (R247). -/
def State.pwDrained (s : State) (pw : Nat) : State :=
  (s.bm (fun b => { b with posted := b.posted.filter (fun e => e.pw != pw) })).pwSync

/-- An entry resolved (R247). -/
def State.pwResolved (s : State) (pw : Nat) : State :=
  (s.bm (fun b => { b with unres := b.unres.filter (fun e => e.1 != pw) })).pwSync

/-- The address of a posted write not yet resolved. -/
def State.pwAddr (s : State) (pw : Nat) : Nat := ((s.brg.unres.find? (fun e => e.1 == pw)).map (·.2)).getD 0

/-- An entry of the failure log (R248): stored while the log has room, else counted. -/
def State.pwfEnter (s : State) (stage status pw addr seq : Nat) : State :=
  if 64 ≤ s.brg.pwf.length then s.count BRG_PWF_OVF.off
  else (s.bm (fun b => { b with pwf := b.pwf ++ [⟨stage, status, pw, addr, seq, s.us32⟩] })).raise (evBrg 2) clEvent

/-- The flow that a posted entry's route named when it was posted (R247, R256). -/
def State.pwFlow (s : State) (pw : Nat) : Option Nat := (s.brg.posted.find? (fun e => e.pw == pw)).bind (·.flow)

/-- The posted writes that were never handed to a target lost, with their record (R249). -/
def State.pwLost (s : State) : State :=
  let lost := s.brg.posted.filter (fun e => !e.handed)
  match lost.head? with
  | none => s
  | some e =>
    let s := (((s.p HST_PW_LOST.FIRST e.pw).p HST_PW_LOST.COUNT lost.length).pb HST_ATTN.PW_LOST true).raise (evBrg 4) clEvent
    s.bm (fun b => { b with posted := b.posted.filter (·.handed) })

/-- A write of BRG_PWF_POP (R245, R257). -/
def State.pwfPop (s : State) (eff : Word) : Nat × State :=
  match s.brg.pwf with
  | e :: r => (stOK, if e.pw = BRG_PWF_POP.PWSEQ.get eff then (s.bm (fun b => { b with pwf := r })).pb HST_ATTN.PWF false else s)
  | [] => (stOK, s)

/-! ### The stranded store (R245) -/

/-- A result put into the stranded store, if it has room. -/
def State.strand (s : State) (status tag addr : Nat) (data : List Byte) : Bool × State :=
  if 32 ≤ s.brg.str.length then (false, s)
  else
    let e : StrEnt := ⟨s.brg.strSerial, status, tag, addr, s.us32, data⟩
    let s := s.bm (fun b => { b with str := b.str ++ [e], strSerial := (b.strSerial + 1) % 128 })
    (true, (s.count BRG_STRAND_CNT.off).raise (evBrg 3) clEvent)

/-- A write of BRG_STR_POP (R245). -/
def State.strPop (s : State) (eff : Word) : Nat × State :=
  match s.brg.str with
  | e :: r => (stOK, if e.serial = BRG_STR_POP.SERIAL.get eff then (s.bm (fun b => { b with str := r })).pb HST_ATTN.STR false else s)
  | [] => (stOK, s)

/-! ### Delayed reads (R240, R241, R243) -/

/-- A delayed-read entry by its TAG. -/
def State.drEnt (s : State) (tag : Nat) : Option DrEnt := s.brg.dr.find? (fun e => e.tag == tag)

/-- A delayed-read entry replaced. -/
def State.setDr (s : State) (e : DrEnt) : State :=
  s.bm (fun b => { b with dr := b.dr.map (fun x => if x.tag = e.tag then e else x) })

/-- A delayed-read entry freed. -/
def State.freeDr (s : State) (tag : Nat) : State := s.bm (fun b => { b with dr := b.dr.filter (fun e => e.tag != tag) })

/-- BRG_CFG.CLAIM in ms (R257): 0 acts as 1. -/
def State.claimMs (s : State) : Nat := clampNat 1 1000 (s.g BRG_CFG.CLAIM)

/-- The host port and the USB function as masters (R32). -/
def hostM : Master := ⟨0x08, 0⟩
def usbM : Master := ⟨0x09, 0⟩

/-- The response of the host port (R232, R233): with CRC = 1 its CRC-16 follows, from STATUS on. -/
def State.hostAnswer (s : State) (st : Nat) (data : List Byte) : State :=
  s.answer hostM st (if s.flag HST_CFG.CRC then data ++ bytesBE 2 (crc16 (bytesBE 1 st ++ data)) else data)

/-- The tile that a local READ in space 0x00 lets Sluice read ahead (R244). -/
def State.pfNext (s : State) (addr len : Nat) : Option Nat :=
  let off := adOff addr
  let t := (off + len) / 256
  if s.flag BRG_CFG.PF ∧ s.isHere addr ∧ adSpace addr = 0 ∧ (off + len) % 256 = 0 ∧ t < 16384 ∧ s.domOn 7 ∧
    (List.range 16).all (fun k => (s.pt (16 * t + k)).typ != tyReadsens) then some t else none

/-- The tile after a READ read into the prefetch buffer (R244). -/
def State.prefetch (s : State) (addr len : Nat) : State :=
  match s.pfNext addr len with
  | none => s
  | some t =>
    let (d, s) := s.readPts (16 * t) 16
    s.bm (fun b => { b with pf := some (t, s.absNs, d) })

/-- A read of the host ended (R240, R241, R244): while its response waits for it, its data goes there and the entry is freed; where the host was
answered RETRY, DR_DONE is set. A READ that ended well lets Sluice read ahead. -/
def State.drDone (s : State) (e : DrEnt) (status : Nat) (data : List Byte) : State :=
  let e' := { e with
    pieces := [], flying := false, doubt := false, data := data, done := some (status, s.absNs), window := s.claimMs }
  let s := s.setDr e'
  let s := if status = stOK ∧ !e.once then s.prefetch e.addr e.len else s
  if s.brg.await.any (fun w => w.1 == .read e.tag) then
    ((s.freeDr e.tag).bm (fun b => { b with inResp := some e', await := none })).hostAnswer status
      (bytesBE 1 0xFF ++ (if status = stOK then data else []))
  else if e.retried then (s.pb HST_ATTN.DR_DONE true).raise (evBrg 5) clEvent
  else s

/-- BRG_CFG.WAIT in ns (R257): 0 acts as 1. -/
def State.waitNs (s : State) : Int := 500 * (max 1 (s.g BRG_CFG.WAIT) : Nat)

/-- The record a READ_ONCE returns, from an acknowledgement (R243). -/
def onceBytes (k : Kept) (len : Nat) : List Byte :=
  (bytesLE 8 k.result ++ bytesLE 6 k.rstamp ++ bytesLE 1 k.rqual ++ bytesLE 1 k.rtype).take len

/-- CLAIM_WINDOW_EXPIRE (R241, R245): a completed entry that nobody claimed is freed, or its result stranded; while the stranded store is
full the entry keeps it. -/
def claimWindowExpire (tag : Fin 64) (s : State) : State :=
  match s.drEnt tag.val with
  | some e =>
    match e.done with
    | some (st, t) =>
      if s.absNs - t < 1000000 * (e.window : Int) then s
      else if !e.side then (s.freeDr tag.val).count BRG_DR_EXPIRE.off
      else
        match s.strand st tag.val e.addr (e.data.take 16) with
        | (true, s) => s.freeDr tag.val
        | (false, s) => s
    | none => s
  | none => s

/-! ### The prefetch buffer (R244) -/

/-- PREFETCH_EXPIRE (R244): 10 µs after the prefetch. -/
def prefetchExpire (s : State) : State :=
  match s.brg.pf with
  | some p => if 10000 ≤ s.absNs - p.2.1 then s.pfDrop else s
  | none => s

/-! ### Notices and pieces of the USB function (R375, R377, R380) -/

/-- USB_FN_SEQ.RESOLVED as the pieces stand. -/
def State.usbSync (s : State) : State :=
  let rs := match s.usb.unres.head? with | some e => e.1 | none => s.g USB_FN_SEQ.NEXT
  s.p USB_FN_SEQ.RESOLVED (rs + 65535)

/-- A piece applied or accepted (R375). -/
def State.usbDrained (s : State) (useq : Nat) : State :=
  s.um (fun u => { u with pieces := u.pieces.filter (fun e => e.useq != useq) })

/-- A piece resolved (R377). -/
def State.usbResolved (s : State) (useq : Nat) : State :=
  (s.um (fun u => { u with unres := u.unres.filter (fun e => e.1 != useq) })).usbSync

/-- A notice queued (R377, R380): a full queue counts instead. With NOTE_WAKE a remote wakeup is requested. -/
def State.notice (s : State) (stage status useq seq addr : Nat) : State :=
  if 64 ≤ s.usb.notes.length then (s.count USB_NOTE_OVF.off).raise (evUsb 4) clEvent
  else
    let b := bytesLE 1 stage ++ bytesLE 1 status ++ bytesLE 2 useq ++ bytesLE 4 seq ++ bytesLE 8 addr
    let s := s.um (fun u => { u with notes := u.notes ++ [b] })
    if s.flag USB_CFG.NOTE_WAKE ∧ s.g USB_STAT.STATE = 4 then s.pb USB_WAKE.REQ true else s

/-- The address of a USB piece not yet resolved. -/
def State.usbAddr (s : State) (useq : Nat) : Nat := ((s.usb.unres.find? (fun e => e.1 == useq)).map (·.2)).getD 0

/-- A response queued on EP1. -/
def State.usbRespond (s : State) (r : UResp) : State := s.um (fun u => { u with resps := u.resps ++ [r] })

/-- The read in progress of the USB function ended (R376): its response queued, or, where a reset has come in between, its result moved to
the stranded store. -/
def State.usbReadDone (s : State) (e : DrEnt) (status : Nat) (data : List Byte) (busErr : Bool) : State :=
  let d := if status = stOK ∨ status = stDATA then data else []
  let lost := s.usb.readLost
  let s := s.um (fun u => { u with read := none, readLost := false })
  let resp : UResp := ⟨status, e.tag, 0, 0, d, e.addr, e.side, busErr⟩
  if lost then
    let (ok, t) := s.strand status 0xFF e.addr (d.take 16)
    if ok then t else t.usbRespond resp
  else s.usbRespond resp

/-! ### BRG register writes (R253 to R257) -/

/-- A refused BRG write. -/
def State.brgRefuse (s : State) : Nat × State := (stCFG, s.cfgErr BRG_CFGERR_CNT.off (evBrg 1))

/-- A write that completes a signal map entry (R42, R256, R257). -/
def State.sigWrite (s : State) (e : Nat) (src dst : Word) : Nat × State :=
  let kind := BRG_SIG_SRC.KIND.get src
  let len := BRG_SIG_DST.BITLEN.get dst
  if BRG_SIG_SRC.VALID.get src = 1 ∧ (kind = 0 ∨ 4 < kind) then s.brgRefuse
  else if BRG_SIG_SRC.VALID.get src = 1 ∧ (len = 0 ∨ 64 < len) then s.brgRefuse
  else if BRG_SIG_SRC.VALID.get src = 1 ∧ BRG_SIG_SRC.DIR.get src = 0 ∧ s.ownerKind (BRG_SIG_DST.POINT.get dst) ≠ okField then s.brgRefuse
  else (stOK, (s.wr (bankKey BRG_SIG_SRC.off e) src).wr (bankKey BRG_SIG_DST.off e) dst)

/-- Whether an item is one of a tunnel's (R255): by its flow, its OP and the tunnel's remote end. -/
def State.tunItem (s : State) (t : Nat) (it : Item) : Bool :=
  it.flow == s.g (BRG_TUN_CFG.FLOW.at t) &&
    (if s.g (BRG_TUN_CFG.KIND.at t) = 3 then
      it.op == 0x10 && adNode it.addr == s.g (BRG_TUN_REMOTE.NODE.at t) &&
        (cstDecode (adOff it.addr)).any (fun d => d.2.1 == s.g (BRG_TUN_REMOTE.RTUN.at t))
    else it.op == (if s.g (BRG_TUN_CFG.KIND.at t) = 1 then 0x11 else 0x12) && it.addr == s.tunAddr t)

/-- Whether items of a tunnel are outstanding, or wait to be accepted (R256). -/
def State.tunBusy (s : State) (t : Nat) : Bool :=
  s.flag (BRG_TUN_CFG.VALID.at t) && s.flag (BRG_TUN_CFG.MODE.at t) &&
    (s.flow.out.any (fun o => s.tunItem t o.it) || s.flow.subs.any (fun w => s.tunItem t w.1) ||
      s.groupRecs.any (fun r => match r with | .acc it true => s.tunItem t it | _ => false))

/-- A write that completes a tunnel entry (R254, R256): a PKT tunnel of MODE 0 is refused. With VALID cleared, its MODE 0 frames queued at
TUNNEL are discarded and counted. -/
def State.tunWrite (s : State) (t : Nat) (cfg loc rem : Word) : Nat × State :=
  let kind := BRG_TUN_CFG.KIND.get cfg
  let valid := BRG_TUN_CFG.VALID.get cfg = 1
  let old := s.tunAddr t
  if valid ∧ kind = 0 then s.brgRefuse
  else if valid ∧ kind = 3 ∧ BRG_TUN_CFG.MODE.get cfg = 0 then s.brgRefuse
  else if s.tunBusy t then s.brgRefuse
  else
    let s := ((s.wr (bankKey BRG_TUN_CFG.off t) cfg).wr (bankKey BRG_TUN_LOCAL.off t) loc).wr (bankKey BRG_TUN_REMOTE.off t) rem
    if valid then (stOK, s)
    else
      let mine := fun (w : WEnt) => w.inPort == 9 && !w.frame.work && (w.frame.typ == tyTunCan || w.frame.typ == tyTunEth) &&
        beAt w.frame.payload 0 8 == old
      let n := (s.sw.waiting.filter mine).length
      (stOK, ({ s with sw := { s.sw with waiting := s.sw.waiting.filter (fun w => !mine w) } }).countBy BRG_CFGERR_CNT.off n)

end Sys2Proof.Machine
end

