-- ==== Sys2Proof/Machine/FlowPath.lean ====
section
/-! DEFINITION. What becomes of an item at its originator (R165, R184 to R186, R193): acceptance and outcome reported on the initiator's
path, outlets (R70, R71), resolution, DOUBT, and abandonment. -/

namespace Sys2Proof.Machine

/-- The stages of R248. -/
def sgRefused : Nat := 1
def sgFailed : Nat := 2
def sgDoubt : Nat := 3
def sgFinal : Nat := 4
def sgAbandoned : Nat := 5

/-- A result of no value: what a local report carries. -/
def noKept (status : Nat) : Kept := ⟨0, 0, 0, 0, status, 0, 0, 0, 0, 0, 0⟩

/-- A stage reported on the item's path (R193, R248, R342, R377). A stage of 0 is a plain OK. -/
def State.report (s : State) (it : Item) (stage : Nat) (k : Kept) : State :=
  match it.path with
  | .none => s
  | .store _ => s
  | .atomic m => if stage = sgDoubt then s else s.answer m k.status (bytesLE 8 k.result)
  | .posted pw =>
    let s := if stage = 0 then s else s.pwfEnter stage k.status pw (s.pwAddr pw) it.seq
    if stage = sgDoubt then s else s.pwResolved pw
  | .usb u =>
    let s := if stage = 0 then s else s.notice stage k.status u it.seq (s.usbAddr u)
    if stage = sgDoubt then s else s.usbResolved u
  | .hostOnce tag =>
    match s.drEnt tag with
    | some e => if stage = sgDoubt then s.setDr { e with doubt := true }
      else s.drDone e k.status (if k.status = stOK then onceBytes k e.len else [])
    | none => s
  | .usbOnce =>
    match s.usb.read with
    | some e => if stage = sgDoubt then s else s.usbReadDone e k.status (onceBytes k e.len) false
    | none => s
  | .cist t n => if stage = 0 then s else s.tlogEnter stage k.status t n it.seq
  | .can _ _ => s
  | .eth _ => s

/-- Acceptance on the item's path (R193). -/
def State.reportAccept (s : State) (it : Item) : State :=
  match it.path with
  | .store m => s.answer m stOK []
  | .posted pw => s.pwDrained pw
  | .usb u => s.usbDrained u
  | .cist _ n => if 2 ≤ it.seg then s.pktLeaves n else s
  | .can n o => s.canAccepted n o
  | _ => s

/-! ### Outlets (R70, R71) -/

/-- Whether an outlet point has an item in DOUBT. -/
def State.outletDoubt (s : State) (o : Nat) : Bool := s.flow.out.any (fun x => x.doubt && x.it.outlet == some o)

/-- An outlet point refreshed by an item that resolves (R58), and its QUALITY set from the outcome (R71), the item already taken off. -/
def State.outletOutcome (s : State) (o status : Nat) (abandoned : Bool) : State :=
  let s := s.refreshPt o
  if abandoned then s.setQual o qSubst
  else if s.outletDoubt o then s
  else if status = stOK then s.setQual o qGood
  else s.setQual o qFault

/-! ### Resolution (R184) -/

/-- LOW of a flow after a resolution: its oldest outstanding SEQ, or that of the next item to be accepted. -/
def State.lowOf (s : State) (f : Nat) : Nat :=
  match s.flow.out.find? (fun o => o.it.flow == f) with
  | some o => o.it.seq
  | none => s.nextOf f

/-- An outstanding item resolved with an outcome (R184). `k` carries the status and the values of the acknowledgement. -/
def State.resolve (s : State) (o : OutItem) (k : Kept) (abandoned : Bool) : State :=
  let f := o.it.flow
  let s := s.fm (fun x => { x with out := x.out.filter (fun y => !(y.it.flow == f && y.it.seq == o.it.seq && y.it.inc == o.it.inc)) })
  let low := s.lowOf f
  let idle := !s.flow.out.any (fun y => y.it.flow == f)
  let v := s.fl f
  let s := s.setFl f { v with low := low, dirty := v.dirty || low != v.low, due := if idle then none else v.due }
  let s := match o.it.outlet with | some p => s.outletOutcome p k.status abandoned | none => s
  let s := s.report o.it (if abandoned then sgAbandoned else if o.doubt then sgFinal else if k.status = stOK then 0 else sgFailed) k
  s.raiseIf (k.status != stOK) (evFlow 2) clNote

/-- WORK_ACK_RECEIVE (R177, R183, R184): an acknowledgement arrives. -/
def workAckReceive (f : Frame) (bad : Option Nat) (s : State) : State :=
  if f.typ ≠ tyWorkAck ∨ f.dst ≠ s.node then s
  else s.takeCpu f bad (fun s =>
    if !s.flowRuns then s
    else
      let inc := beAt f.payload 0 4
      let k : Kept := ⟨s.node, f.flow, f.seq, inc, beAt f.payload 4 1, beAt f.payload 6 6, beAt f.payload 12 8, beAt f.payload 20 6,
        beAt f.payload 26 1, beAt f.payload 27 1, 0⟩
      let s := if (s.fl f.flow).due.isSome then s.armFlow f.flow else s
      if inc ≠ (s.fl f.flow).inc ∨ (s.flowGroup f.flow ∧ !(s.members f.flow).contains f.src) then s.count FLOW_ACK_STRAY.off
      else
        match s.flow.out.find? (fun o => o.it.flow == f.flow && o.it.seq == f.seq && o.it.inc == inc) with
        | none => s
        | some o =>
          if !s.flowGroup f.flow then s.resolve o k false
          else
            let o' := { o with acked := f.src :: o.acked.filter (fun n => n != f.src),
                               status := if o.status = stOK then k.status else o.status }
            let s := s.fm (fun x => { x with out := x.out.map (fun y => if y = o then o' else y) })
            if (s.members f.flow).all (fun n => o'.acked.contains n) then s.resolve o' { k with status := o'.status } false else s)

/-- The WINDOW points of this node that an item of an own flow writes (R66, R72). -/
def State.windowPts (s : State) (it : Item) : List Nat :=
  if (it.op = 1 ∨ it.op = 7) ∧ s.flowLocal it.flow ∧ adSpace it.addr = 0 then
    match writeForm (adOff it.addr) it.data.length with
    | some (i, n) => ((List.range n).map (· + i)).filter (fun j => (s.pt j).typ != tyUndef && s.ownerKind j == okAgent)
    | none => []
  else []

/-- REACH_TIMEOUT (R66, R71, R72, R185): items of a flow outstanding REACH after acceptance turn DOUBT. -/
def State.turnDoubt (s : State) (o : OutItem) : State :=
  let s := s.fm (fun x => { x with out := x.out.map (fun y => if y = o then { o with doubt := true } else y) })
  let s := (s.count FLOW_DOUBT_CNT.off).raise (evFlow 2) clNote
  let s := match o.it.outlet with | some p => s.setQual p qDoubt | none => s
  let s := (s.windowPts o.it).foldl (fun s p => s.setQual p qDoubt) s
  s.report o.it sgDoubt (noKept stDOUBT)

def reachTimeout (f : Fin 1024) (s : State) : State :=
  (s.flow.out.filter (fun o => o.it.flow == f.val && !o.doubt && decide (s.reachNs ≤ sgn48 s.fns48 o.it.accept))).foldl
    State.turnDoubt s

/-! ### Abandonment (R186, R194) -/

/-- The second half of ABANDON, once the groups have committed: every outstanding item resolved as abandoned, INC raised, LOW set to NEXT, and an
OUTSTATE entry in the next group. -/
def State.abandonNow (s : State) (f : Nat) : State :=
  let s := (s.flow.out.filter (fun o => o.it.flow == f)).foldl (fun s o => s.resolve o (noKept stABANDONED) true) s
  let v := s.fl f
  let s := s.setFl f { v with inc := (v.inc + 1) % 2 ^ 32, low := v.next, due := none, dirty := false }
  (s.fm (fun x => { x with leaving := x.leaving.filter (fun g => g != f) })).putRecord (.outstate [f])

/-- Flows being abandoned proceed when no closed group remains to commit and the budget has the line of their OUTSTATE entry (R168). -/
def State.abandonReady (s : State) : State :=
  if s.flow.commit.isNone ∧ s.flow.closed = [] then
    s.flow.leaving.foldl (fun s f => if s.budNow < 4000 then s else s.abandonNow f) s
  else s

/-- FLOW_CMD ABANDON (R186). -/
def State.abandon (s : State) (f : Nat) : State :=
  let mine := s.flow.opened.any (fun g => g.recs.any (fun r => match r with | .acc it _ => it.flow == f | _ => false))
  let s := if mine then s.closeGroup else s
  let s := s.fm (fun x => { x with leaving := if x.leaving.contains f then x.leaving else x.leaving ++ [f] })
  s.abandonReady

/-- A write of FLOW_CMD (R186, R187, R199) for a flow. -/
def State.flowCmdWrite (s : State) (f : Nat) (eff : Word) : Nat × State :=
  let op := FLOW_CMD.OP.get eff
  (stOK, if op = 1 then s.abandon f else if op = 2 then s.probe f else s)

/-! ### The background patrol of Reservoir (R196, R197) -/

/-- Thirty days in ns. -/
def thirtyDays : Int := 2592000000000000

/-- Whether the record of `n` lines that begins at LSN `l` lies in part on journal line `i`. -/
def onLine (i n l : Nat) : Bool := decide ((i + ringLines - l % ringLines) % ringLines < n)

/-- The live records on a journal line, as their relocations (R173). -/
def State.liveOn (s : State) (i : Nat) : List JRec :=
  let here := onLine i 1
  (s.flow.out.filter (fun o => onLine i (accLines o.it.data.length) o.lsn)).map (fun o => JRec.acc o.it false) ++
    (s.flow.kept.filter (fun k => here k.lsn)).map (fun k =>
      JRec.done ⟨k.src, k.flow, k.seq, k.inc, 0, 0, 0, [], 3, false, false, 0⟩ k true false) ++
    (s.flow.two.filter (fun t => here t.2)).map (fun t => JRec.intent t.1 false) ++
    (s.flow.outLsn.filter (fun e => e.2.any here)).map (fun e => JRec.outstate [e.1]) ++
    (s.flow.inb.filter (fun e => e.lsn.any here)).map (fun e => JRec.instate [(e.src, e.flow)])

/-- A journal line retired to the next reserve line (R197), its live record relocated; with all 4,096 reserve lines taken it stays. -/
def State.retire (s : State) (i : Nat) : State :=
  let n := s.flow.retired.length + 1
  if (SMap.get (fun _ => 0) s.flow.retired i) ≠ 0 ∨ 4096 < n then s
  else
    let s := s.fm (fun x => { x with retired := SMap.set (fun _ => 0) x.retired i n })
    let s := (s.liveOn i).foldl State.oweRecord s
    if 4096 - n = 409 then s.raise (evFlow 7) clDegraded else s

/-- An uncorrectable word in a line of the journal ring (R197): a live ACC is resolved as LOST, an APPLIED is treated as absent. -/
def State.lineLost (s : State) (i : Nat) : State :=
  let here := onLine i 1
  let outs := s.flow.out.filter (fun o => onLine i (accLines o.it.data.length) o.lsn)
  let live := !outs.isEmpty || s.flow.kept.any (fun k => here k.lsn) || s.flow.two.any (fun t => here t.2) ||
    s.flow.outLsn.any (fun e => e.2.any here) || s.flow.inb.any (fun e => e.lsn.any here)
  if !live then s
  else
    let s := (s.count FLOW_ECC_UNCORR.off).raise (evFlow 8) clSevere
    let s := s.fm (fun x => { x with kept := x.kept.filter (fun k => !here k.lsn), ring := SMap.set lineDflt x.ring i (lineDflt 0) })
    outs.foldl (fun s o => s.resolve o (noKept stLOST) false) s

/-- The journal line stored at byte `off` of Reservoir (R170, R197): of the ring while it is not retired, or of the line mapped to a reserve
line. -/
def State.lineAt (s : State) (off : Nat) : Option Nat :=
  if off < 3145728 then (if SMap.get (fun _ => 0) s.flow.retired (off / 64) = 0 then some (off / 64) else none)
  else if 0x3C0000 ≤ off ∧ off < 0x400000 then (s.flow.retired.find? (fun e => e.2 == (off - 0x3C0000) / 64 + 1)).map (·.1)
  else none

/-- The retirement map as Reservoir holds it (R170, R197): the journal line mapped to each reserve line, 4 bytes each, in the order
taken. -/
def State.retireMap (s : State) : List Byte :=
  ((List.range s.flow.retired.length).map (fun k =>
    bytesLE 4 (((s.flow.retired.find? (fun e => e.2 == k + 1)).map (·.1)).getD 0))).flatten

/-- What the patrol does with a word of Reservoir it has read (R196, R197). -/
def State.patrolled (s : State) (off : Nat) (e : EccFind) : State :=
    match e with
    | .good => s
    | .corrected =>
      let s := s.count FLOW_ECC_CORR.off
      if 3145728 ≤ off then s
      else
        let i := off / 64
        let twice := (SMap.get (fun _ => none) s.flow.corrAt i).any (fun t => decide (s.absNs - t < thirtyDays))
        let s := s.fm (fun x => { x with corrAt := SMap.set (fun _ => none) x.corrAt i (some s.absNs) })
        if twice then s.retire i else s
    | .uncorrectable => match s.lineAt off with | some i => s.lineLost i | none => s

/-- RESERVOIR_PATROL (R196, R197, R494): the patrol reads the word at byte `off` of Reservoir; injected flips of one or two bits are
corrected. -/
def reservoirPatrol (off : Nat) (e : EccFind) (s : State) : State :=
  if !s.domOn 8 then s
  else
    match s.sump.inj.find? (fun x => x == .flipReservoir off true || x == .flipReservoir off false) with
    | some x => (s.injMet x).asInjected (·.patrolled off .corrected)
    | none => s.patrolled off e

end Sys2Proof.Machine
end

