-- ==== Sys2Proof/Machine/PntCfg.lean ====
section
/-! DEFINITION. Writes of the point engine's tables (R86 to R89): attributes, profiles, outlets and windows. -/

namespace Sys2Proof.Machine

/-- A refused write of a PNT table (R51, R87). -/
def State.pntRefuse (s : State) : Nat × State := (stCFG, (s.p PNT_STAT.LAST_ERR stCFG).cfgErr PNT_CFGERR_CNT.off (evPnt 1))

/-- A point's TYPE and profile replaced (R86): a changed TYPE takes the profile's SAFE value, UNDEF clears the record. -/
def State.setAttr (s : State) (i typ prof : Nat) : State :=
  let r := s.pt i
  let s := { s with pts := { s.pts with prof := SMap.set (fun _ => 0) s.pts.prof i prof } }
  if typ = r.typ then s
  else if typ = tyUndef then (s.touchTile (i / 16)).putRec i (PRec.dflt i)
  else (s.touchTile (i / 16)).putRec i ⟨BitVec.ofNat 64 (s.safeOf prof), s.fns48, qSubst, typ⟩

/-- Whether a type is tied to journaled work (R87). -/
def tiedType (t : Nat) : Bool := t == tyCommand || t == tyTimed || t == tyWindow

/-- A write of PNT_ATTR_DATA for point `i` (R51, R86, R87). -/
def State.attrWrite (s : State) (i : Nat) (new : Word) : Nat × State :=
  let typ := PNT_ATTR_DATA.TYPE.get new
  let prof := PNT_ATTR_DATA.PROF.get new
  let old := (s.pt i).typ
  let kind := s.g (PNT_PROF_CFG.OWNER.at prof)
  if typ = tyUndef then
    if tiedType old then s.pntRefuse else (stOK, s.setAttr i typ prof)
  else if !typeAllows typ kind then s.pntRefuse
  else if old ≠ tyUndef ∧ ((typ ≠ old ∧ (tiedType old ∨ tiedType typ)) ∨ kind ≠ s.ownerKind i) then s.pntRefuse
  else (stOK, s.setAttr i typ prof)

/-- A write of PNT_PATROL (R68, R89): a patrol that is enabled begins a pass. -/
def State.patrolWrite (s : State) (new : Word) : Nat × State :=
  let old := s.flag PNT_PATROL.EN
  let s := s.wr PNT_PATROL.off new
  (stOK, if !old ∧ s.flag PNT_PATROL.EN then s.patrolBegin else s)

/-- A write of PNT_PROF_CFG for profile `p` (R87, R89): no owner kind 6 or 7, and no change of OWNER while a defined point uses it. -/
def State.profCfgWrite (s : State) (p : Nat) (new : Word) : Nat × State :=
  let k := PNT_PROF_CFG.OWNER.get new
  let used := s.pts.recs.any (fun e => e.2.typ != tyUndef && s.profOf e.1 == p)
  if 6 ≤ k ∨ (k ≠ s.g (PNT_PROF_CFG.OWNER.at p) ∧ used) then s.pntRefuse else (stOK, s.wr (bankKey PNT_PROF_CFG.off p) new)

/-- Whether an outlet entry has items in flight: submitted, journaled or outstanding. -/
def State.outBusy (s : State) (e : Nat) : Bool :=
  let p := s.g (PNT_OUT_CFG.POINT.at e)
  s.flag (PNT_OUT_CFG.VALID.at e) &&
    (s.flow.out.any (fun o => o.it.outlet == some p) || s.flow.subs.any (fun e => e.1.outlet == some p) ||
      s.groupRecs.any (fun r => match r with | .acc it true => it.outlet == some p | _ => false))

/-- A write of PNT_OUT_CFG for outlet entry `e` (R87). -/
def State.outCfgWrite (s : State) (e : Nat) (new : Word) : Nat × State :=
  if s.outBusy e then s.pntRefuse else (stOK, s.wr (bankKey PNT_OUT_CFG.off e) new)

/-- A write that completes PNT_OUT_DST for outlet entry `e` (R87, R89): a destination in space 0x00. -/
def State.outDstWrite (s : State) (e : Nat) (lo hi : Word) : Nat × State :=
  if s.outBusy e ∨ bitsOf hi.toNat 8 8 ≠ 0 then s.pntRefuse
  else (stOK, (s.wr (bankKey PNT_OUT_DST_LO.off e) lo).wr (bankKey PNT_OUT_DST_HI.off e) hi)

/-- A write of PNT_WIN_CFG for window `w` (R87, R89). -/
def State.winCfgWrite (s : State) (w : Nat) (new : Word) : Nat × State :=
  let k := PNT_WIN_CFG.KIND.get new
  if s.pts.reqs.any (fun r => r.window == w) ∨ (PNT_WIN_CFG.VALID.get new = 1 ∧ (k = 0 ∨ 3 < k)) then s.pntRefuse
  else (stOK, s.wr (bankKey PNT_WIN_CFG.off w) new)

end Sys2Proof.Machine
end

