-- ==== Sys2Proof/Machine/Feeds.lean ====
section
/-! DEFINITION. The feed channels (R384 to R400): soft start, limits and trips, the thermal model, retry, damage, FEED_KILL and the
measurements. -/

namespace Sys2Proof.Machine

/-! ### Channels -/

def fsOff : Nat := 0
def fsRamp : Nat := 1
def fsOn : Nat := 2
def fsRetry : Nat := 3
def fsLatched : Nat := 4
def fsDamaged : Nat := 5

def fcShort : Nat := 1
def fcOverload : Nat := 2
def fcThermal : Nat := 3
def fcRampTmo : Nat := 4
def fcUv : Nat := 5
def fcOv : Nat := 6
def fcNtc : Nat := 7
def fcDamaged : Nat := 8

/-- A channel's record. -/
def State.feed (s : State) (n : Nat) : FeedCh := SMap.get FeedCh.dflt s.feeds n

/-- A channel's record replaced. -/
def State.setFeed (s : State) (n : Nat) (c : FeedCh) : State := { s with feeds := SMap.set FeedCh.dflt s.feeds n c }

/-- STATE of a channel (R386). -/
def State.fst (s : State) (n : Nat) : Nat := s.g (FEED_CHSTAT.STATE n)

/-- Whether the channel's gate may conduct: RAMP or ON. -/
def State.feedLive (s : State) (n : Nat) : Bool := s.fst n == fsRamp || s.fst n == fsOn

/-- Whether the channel is commanded off (R395): OFF, RETRY or LATCHED. -/
def State.feedOffState (s : State) (n : Nat) : Bool := s.fst n == fsOff || s.fst n == fsRetry || s.fst n == fsLatched

/-- RATED in µV of sense. -/
def State.ratedUv (s : State) (n : Nat) : Int := 100 * (s.g (FEED_LIM.RATED n) : Int)

/-- Whether VIN of the last sample lies within UV to OV (R390). -/
def State.railOk (s : State) (n : Nat) : Bool :=
  decide (100 * s.g (FEED_RAIL.UV n) ≤ (s.feed n).vin ∧ (s.feed n).vin ≤ 100 * s.g (FEED_RAIL.OV n))

/-- TMAX in 0.1 °C. -/
def State.tmax (s : State) (n : Nat) : Int := 10 * (s.g (FEED_PG.TMAX n) : Int)

/-- The FET temperature of the last sample, in 0.1 °C. -/
def State.tfet (s : State) (n : Nat) : Int := (s.feed n).temp

/-- VDS of the last sample in mV. -/
def FeedCh.vds (c : FeedCh) : Int := (c.vin : Int) - (c.vout : Int)

/-- FEEDn_STAT.CAUSE recorded. -/
def State.feedCause (s : State) (n cause : Nat) : State := s.p (FEED_CHSTAT.CAUSE n) cause

/-- The channel enters a state with its gate pulled to the source; PG and LIM fall. -/
def State.feedGateOff (s : State) (n st : Nat) : State :=
  let was := s.feedOffState n
  let s := ((s.p (FEED_CHSTAT.STATE n) st).pb (FEED_CHSTAT.PG n) false).pb (FEED_CHSTAT.LIM n) false
  let c := s.feed n
  s.setFeed n { c with gate := .off, offAt := if was then c.offAt else some s.absNs, offCmd := none, curAt := if was then c.curAt else none, voltAt := if was then c.voltAt else none }

/-- The channel enters RETRY for a rail fault (R390): no trip, no timer. -/
def State.feedRail (s : State) (n : Nat) : State :=
  let cause := if (s.feed n).vin < 100 * s.g (FEED_RAIL.UV n) then fcUv else fcOv
  let s := (s.feedGateOff n fsRetry).feedCause n cause
  s.setFeed n { s.feed n with rail := true, railAt := none }

/-- RAMP starts from the VOUT present (R387); with VIN outside UV to OV the channel enters RETRY instead (R390). -/
def State.feedRamp (s : State) (n : Nat) : State :=
  if !s.railOk n then s.feedRail n
  else
    let s := s.p (FEED_CHSTAT.STATE n) fsRamp
    let c := s.feed n
    s.setFeed n { c with gate := .slew, slewAt := s.absNs, slewV := c.vout, rampAt := s.absNs, pgOk := false, pgAt := s.absNs }

/-- A trip (R394): the gate off, the cause recorded, counted, and RETRY while fewer than RETRIES consecutive trips have occurred, else
LATCHED. -/
def State.feedTrip (s : State) (n cause : Nat) : State :=
  let run := s.g (FEED_CHSTAT.RUNTRIP n)
  let tries := s.g (FEED_CFG.RETRIES n)
  let again := tries == 15 || decide (run < tries)
  let s := (s.feedGateOff n (if again then fsRetry else fsLatched)).feedCause n cause
  let s := s.p (FEED_CHSTAT.RUNTRIP n) (min 15 (run + 1))
  let s := (s.count FEED_TRIP_CNT.off).raise (evFeed n) clNote
  if again then
    let wait : Int := 100000000 * (clampNat 1 600 (s.g (FEED_RETRY.RETRY n)) : Nat)
    (s.setFeed n { s.feed n with rail := false, due := s.absNs + wait }).count FEED_RETRY_CNT.off
  else (s.count FEED_LATCH_CNT.off).raise (evFeed n) clDegraded

/-- The measurements of a channel as payloads (R397), by OBJ. -/
def State.feedMeas (s : State) (n obj : Nat) : Nat :=
  if obj = 0 then (s.rd (FEED_I.off n)).toNat
  else if obj = 1 then (s.feed n).vin
  else if obj = 2 then (s.feed n).vout
  else if obj = 3 then wrapInt 32 (s.tfet n)
  else (s.rd (FEED_CHSTAT.off n)).toNat

/-- A measurement updates its points (R252, R397); a channel in DAMAGED writes QUALITY FAULT. -/
def State.feedSignal (s : State) (n obj : Nat) : State :=
  s.signalUpdate 2 n obj (bytesLE 4 (s.feedMeas n obj)) s.fns48 (s.fst n == fsDamaged)

/-- STATE, PG and CAUSE of a channel. -/
def State.feedKey (s : State) (n : Nat) : Nat × Nat × Nat :=
  (s.fst n, s.g (FEED_CHSTAT.PG n), s.g (FEED_CHSTAT.CAUSE n))

/-- What a channel does, with the status measurement updated when STATE, PG or CAUSE has changed (R397). -/
def State.feedDo (s : State) (n : Nat) (f : State → State) : State :=
  let t := f s
  if t.feedKey n = s.feedKey n then t else t.feedSignal n 4

/-- Whether the FEED domain serves the channels (R398). -/
def State.feedRuns (s : State) : Bool := s.domOn 15

/-! ### Commands of the host (R386, R394, R396) -/

/-- A refused FEED write. -/
def State.feedRefuse (s : State) : Nat × State := (stCFG, s.cfgErr FEED_CFGERR_CNT.off (evFeedC 1))

/-- ON: refused while SHUNT or RATED is 0; starts RAMP from OFF (R386). -/
def State.feedOn (s : State) (n : Nat) : Nat × State :=
  if s.g (FEED_SHUNT.SHUNT n) = 0 ∨ s.g (FEED_LIM.RATED n) = 0 then s.feedRefuse
  else if s.fst n = fsOff then (stOK, s.feedDo n (·.feedRamp n)) else (stOK, s)

/-- OFF: the channel turns off from any state but DAMAGED (R386). -/
def State.feedOff (s : State) (n : Nat) : State :=
  if s.fst n = fsDamaged then s
  else
    let live := s.feedLive n
    let s := s.feedDo n (·.feedGateOff n fsOff)
    if live then s.setFeed n { s.feed n with offCmd := some s.absNs } else s

/-- Whether the temperature lets RETRY end: at or below TMAX − 20 K (R393). -/
def State.feedCool (s : State) (n : Nat) : Bool := decide (s.tfet n ≤ s.tmax n - 200)

/-- Whether a duration of at least `ns` has passed since an instant. -/
def State.since (s : State) (t : Option Int) (ns : Int) : Bool := t.any (fun t => decide (ns ≤ s.absNs - t))

/-- Whether more than 5 ms have passed since an instant. -/
def State.over5 (s : State) (t : Option Int) : Bool := t.any (fun t => decide (5000000 < s.absNs - t))

/-- Whether the channel's FET counts as damaged (R395). -/
def State.damaged (s : State) (n : Nat) : Bool :=
  s.feedOffState n && (s.over5 (s.feed n).curAt || s.over5 (s.feed n).voltAt)

/-- The channel enters DAMAGED; with KILL_EN it asserts FEED_KILL (R395, R396). -/
def State.feedDamage (s : State) (n : Nat) : State :=
  let s := (s.feedGateOff n fsDamaged).feedCause n fcDamaged
  let s := (s.count FEED_DMG_CNT.off).raise (evFeed n) clSevere
  if s.flag (FEED_CFG.KILL_EN n) then s.pb FEED_STAT.KILL true else s

/-- The end of RETRY after a trip (R394): damage comes first, and the temperature must allow it. -/
def State.feedRetryEnd (s : State) (n : Nat) : State :=
  if s.fst n ≠ fsRetry then s
  else if s.damaged n then s.feedDamage n
  else if !(s.feed n).rail ∧ (s.feed n).due ≤ s.absNs ∧ s.feedCool n then s.feedRamp n else s

/-- RESTART ends the retry timer early (R394). -/
def State.feedRestart (s : State) (n : Nat) : State :=
  if s.fst n = fsRetry ∧ !(s.feed n).rail then
    (s.setFeed n { s.feed n with due := min (s.feed n).due s.absNs }).feedDo n (·.feedRetryEnd n)
  else s

/-- CLEAR: a DAMAGED channel whose VOUT and sense have been low for 5 ms turns OFF (R396). -/
def State.feedClear (s : State) (n : Nat) : State :=
  if s.fst n = fsDamaged ∧ s.since (s.feed n).calmAt 5000000 then s.feedDo n (·.feedGateOff n fsOff) else s

/-- A write of FEEDn_CMD. -/
def State.feedCmdWrite (s : State) (n : Nat) (eff : Word) : Nat × State :=
  match (FEED_CHCMD.OP n).get eff with
  | 1 => s.feedOn n
  | 2 => (stOK, s.feedOff n)
  | 3 => (stOK, s.feedRestart n)
  | 4 => (stOK, s.feedClear n)
  | _ => (stOK, s)

/-- Whether some channel with KILL_EN = 1 is in DAMAGED (R396). -/
def State.killHeld (s : State) : Bool :=
  (List.range 16).any (fun n => s.fst n == fsDamaged && s.flag (FEED_CFG.KILL_EN n))

/-- A write of FEED_CMD: KILL and CLEAR_KILL (R396). -/
def State.feedKillWrite (s : State) (eff : Word) : Nat × State :=
  match FEED_CMD.OP.get eff with
  | 1 => (stOK, s.pb FEED_STAT.KILL true)
  | 2 => (stOK, if s.killHeld then s else s.pb FEED_STAT.KILL false)
  | _ => (stOK, s)

/-! ### Sampling (R385, R389, R391, R393) -/

/-- An NTC reading: its resistance in Ω, or an open or shorted NTC. -/
abbrev NtcRead := Option Nat

/-- The current of a sample in mA: sense µV divided by shunt mΩ (R385); none with SHUNT 0, where the manual states no value. -/
def State.sampleCurrent (s : State) (n : Nat) (sense : Int) : Option Rat :=
  let sh := s.g (FEED_SHUNT.SHUNT n)
  if sh = 0 then none else some ((sense * 100 : Int) / (sh : Rat))

/-- The share of its time constant that a pole moves by in 10 µs: 10 µs / TAU (R393, R401); none for a TAU of 0. -/
def poleStep (w : Word) : Option Rat :=
  let tau := (FEED_POLE.TAU 0 0).get w
  if (FEED_POLE.UNIT 0 0).get w = 0 then some (1 / ((max 10 tau : Nat) : Rat))
  else if tau = 0 then none else some (1 / ((1000 * tau : Nat) : Rat))

/-- One update of a pole with a power in W (R393). -/
def poleNext (w : Word) (k p : Rat) (rise : Rat) : Rat :=
  rise + (p * (((FEED_POLE.R 0 0).get w : Nat) : Rat) / 1000 - rise) * k

/-- The three poles updated by one sample; a free value where the manual states none (R393). -/
def State.poles (s : State) (n : Nat) (p : Option Rat) (rise : List Rat) : List Rat × State :=
  (List.range 3).foldl (fun (a : List Rat × State) k =>
    let w := a.2.rd (FEED_POLE.off n k)
    let old := rise.getD k 0
    match p, poleStep w with
    | some p, some d => (a.1 ++ [poleNext w d p old], a.2)
    | _, _ =>
      let (v, s) := a.2.free
      (a.1 ++ [(v : Rat)], s)) ([], s)

/-- An instant kept while a condition holds: since when it has held. -/
def holdSince (now : Int) (b : Bool) (t : Option Int) : Option Int := if b then some (t.getD now) else none

/-- A field that shows a value while it can hold it, and else a value the manual leaves open. -/
def State.showFree (s : State) (f : FRef) (v : Nat) (fits : Bool) : State :=
  if fits then s.p f v
  else
    let (x, s) := s.free
    s.p f x

/-- The measured values of a sample put into the channel's registers (R385): I in mA, VIN and VOUT in 10 mV, rounded down. -/
def State.sampleRegs (s : State) (n : Nat) (sense : Int) (vin vout : Nat) (tdie : Int) : Option Rat × State :=
  let s := (s.p (FEED_V.VIN n) (vin / 10)).p (FEED_V.VOUT n) (vout / 10)
  let s := s.p FEED_STAT.TDIE (wrapInt 16 tdie)
  match s.sampleCurrent n sense with
  | some i => (some i, s.p (FEED_I.I n) (wrapInt 32 i.floor))
  | none =>
    let (v, s) := s.free
    (none, s.p (FEED_I.I n) v)

/-- The FET temperature of a sample in 0.1 °C, rounded down (R393). -/
def State.sampleTemp (s : State) (n : Nat) (rise : List Rat) (tdie : Int) (ntc : NtcRead) : Int :=
  if s.flag (FEED_CFG.TMODE n) then
    match ntc with
    | some r => Config.ntcTemp r (s.g (FEED_NTC.R25 n)) (s.g (FEED_NTC.B n))
    | none => s.tfet n
  else tdie + (10 * (rise.getD 0 0 + rise.getD 1 0 + rise.getD 2 0)).floor

/-- The running conditions brought up to date by a sample: rail, damage, calm and power-good (R389, R390, R395, R396). -/
def State.sampleHolds (s : State) (n : Nat) : State :=
  let c := s.feed n
  let now := s.absNs
  let off := s.feedOffState n
  let dmgV := 100 * s.g (FEED_DMG.DMG_V n)
  let arm : Int := 10000000 * (max 1 (s.g (FEED_DMG.ARM n)) : Nat)
  let pg := decide (10000 ≤ c.vgs ∧ c.vds ≤ (s.g (FEED_PG.VDS_PG n) : Int)) && c.gate != .slew
  s.setFeed n { c with
    railAt := holdSince now (s.railOk n) c.railAt,
    curAt := holdSince now (off && decide (s.ratedUv n < c.sense)) c.curAt,
    offAt := if off then some (c.offAt.getD now) else none,
    voltAt := holdSince now (off && decide (arm ≤ now - c.offAt.getD now) && decide (dmgV < c.vout)) c.voltAt,
    calmAt := holdSince now (decide (c.vout < dmgV) && decide (c.sense < s.ratedUv n)) c.calmAt,
    pgOk := pg, pgAt := if pg = c.pgOk then c.pgAt else now }

/-- The gate as the channel regulates it in RAMP and ON (R387, R391): at LIMIT while the current is there, fully on once VOUT is
within VDS_PG of VIN. -/
def State.sampleGate (s : State) (n : Nat) : State :=
  if !s.feedLive n then s
  else
    let c := s.feed n
    let lim := decide (2 * s.ratedUv n ≤ c.sense)
    let near := decide (c.vds ≤ (s.g (FEED_PG.VDS_PG n) : Int))
    let full := s.fst n == fsOn || near || c.gate == .full
    let g := if lim then FeedGate.limit else if full then .full else .slew
    (s.pb (FEED_CHSTAT.LIM n) lim).setFeed n { c with gate := g }

/-- What a sample trips (R390, R391, R393): in RAMP and ON a broken NTC, TMAX reached, and a rail fault. -/
def State.sampleTrip (s : State) (n : Nat) (ntc : NtcRead) : State :=
  if !s.feedLive n then s
  else if s.flag (FEED_CFG.TMODE n) && ntc.isNone then s.feedTrip n fcNtc
  else if s.tmax n ≤ s.tfet n then s.feedTrip n fcThermal
  else if !s.railOk n then s.feedRail n else s

/-- FEED_SAMPLE (R385, R387, R389, R390, R391, R393): every 10 µs. -/
def feedSample (n : Fin 16) (sense : Int) (vin vout vgs : Nat) (tdie : Int) (ntc : NtcRead) (s : State) : State :=
  if !s.feedRuns then s
  else
    let (i, s) := s.sampleRegs n sense vin vout tdie
    let c := s.feed n
    let p : Option Rat := i.map (fun i => (((vin : Int) - (vout : Int) : Int) : Rat) * i / 1000000)
    let (rise, s) := s.poles n p c.rise
    let s := s.setFeed n { c with sense := sense, vin := vin, vout := vout, vgs := vgs, rise := rise }
    let t := s.sampleTemp n rise tdie ntc
    let s := (s.setFeed n { s.feed n with temp := t }).showFree (FEED_TEMP.TFET n) (wrapInt 16 t) (decide (-32768 ≤ t ∧ t ≤ 32767))
    s.feedDo n (fun s => ((s.sampleGate n).sampleTrip n ntc).sampleHolds n)

/-! ### Comparators and timers -/

/-- FEED_FAST_TRIP (R391, R400): the sense crosses the fast-trip threshold in RAMP or ON. At the instant of an OFF command the trip is
recorded, and OFF governs the state. -/
def feedFastTrip (n : Fin 16) (s : State) : State :=
  if !s.feedRuns then s
  else if s.feedLive n then s.feedDo n (·.feedTrip n fcShort)
  else if s.fst n = fsOff ∧ (s.feed n).offCmd = some s.absNs then
    let s := s.feedDo n (·.feedCause n fcShort)
    ((s.setFeed n { s.feed n with offCmd := none }).count FEED_TRIP_CNT.off).raise (evFeed n) clNote
  else s

/-- FEED_OVERLOAD_STEP (R392): 1 ms of the overload timer. -/
def feedOverloadStep (n : Fin 16) (s : State) : State :=
  if !s.feedRuns then s
  else
    let c := s.feed n
    let v := if s.ratedUv n < c.sense then c.ovl + 10 else c.ovl - 1
    let s := (s.setFeed n { c with ovl := v }).showFree (FEED_TEMP.OVL n) (v / 10) (decide (v / 10 < 512))
    if s.feedLive n ∧ 10 * clampNat 10 500 (s.g (FEED_LIM.PEAK n)) ≤ v then s.feedDo n (·.feedTrip n fcOverload) else s

/-- FEED_RAMP_TIMEOUT (R388, R400): RAMP has lasted RAMP_TMO ms; THERMAL is taken first. -/
def feedRampTimeout (n : Fin 16) (s : State) : State :=
  let tmo : Int := 1000000 * (max 1 (s.g (FEED_RAMP.RAMP_TMO n)) : Nat)
  if s.feedRuns ∧ s.fst n = fsRamp ∧ tmo ≤ s.absNs - (s.feed n).rampAt then
    s.feedDo n (·.feedTrip n (if s.tmax n ≤ s.tfet n then fcThermal else fcRampTmo))
  else s

/-- PG and STATE as the power-good conditions have been for 100 µs (R389). -/
def State.pgChange (s : State) (n : Nat) : State :=
  let c := s.feed n
  if s.absNs - c.pgAt < 100000 then s
  else if c.pgOk ∧ !s.flag (FEED_CHSTAT.PG n) then
    let s := if s.fst n = fsRamp then (s.p (FEED_CHSTAT.STATE n) fsOn).setFeed n { c with gate := .full, onAt := s.absNs } else s
    s.pb (FEED_CHSTAT.PG n) true
  else if !c.pgOk ∧ s.flag (FEED_CHSTAT.PG n) ∧ s.fst n = fsOn then
    ((s.pb (FEED_CHSTAT.PG n) false).count FEED_PGLOSS_CNT.off).raise (evFeed n) clNote
  else s

/-- FEED_PG_CHANGE (R389). -/
def feedPgChange (n : Fin 16) (s : State) : State :=
  if s.feedRuns ∧ s.feedLive n then s.feedDo n (·.pgChange n) else s

/-- FEED_RETRY_END (R394). -/
def feedRetryEnd (n : Fin 16) (s : State) : State := if s.feedRuns then s.feedDo n (·.feedRetryEnd n) else s

/-- FEED_RAIL_OK (R390): VIN has stayed within UV to OV for 10 ms. -/
def feedRailOk (n : Fin 16) (s : State) : State :=
  if s.feedRuns ∧ s.fst n = fsRetry ∧ (s.feed n).rail ∧ s.since (s.feed n).railAt 10000000 then
    if s.damaged n then s.feedDo n (·.feedDamage n) else if s.feedCool n then s.feedDo n (·.feedRamp n) else s
  else s

/-- FEED_TRIP_COUNT_RESET (R394): 10 s in ON. -/
def feedTripCountReset (n : Fin 16) (s : State) : State :=
  if s.feedRuns ∧ s.fst n = fsOn ∧ 10000000000 ≤ s.absNs - (s.feed n).onAt then s.p (FEED_CHSTAT.RUNTRIP n) 0 else s

/-- FEED_DAMAGE_DETECT (R395). -/
def feedDamageDetect (n : Fin 16) (s : State) : State :=
  if s.feedRuns ∧ s.damaged n then s.feedDo n (·.feedDamage n) else s

/-- FEED_MEAS_UPDATE (R397): every MEAS_PER ms, where 0 acts as 1. -/
def feedMeasUpdate (n : Fin 16) (s : State) : State :=
  let per : Int := 1000000 * (max 1 (s.g FEED_CTRL.MEAS_PER) : Nat)
  if s.feedRuns ∧ ((s.feed n).measAt.isNone ∨ s.since (s.feed n).measAt per) then
    (List.range 5).foldl (fun s k => s.feedSignal n k) (s.setFeed n { s.feed n with measAt := some s.absNs })
  else s

/-! ### Configuration writes (R399) -/

/-- A write of a FEED configuration register of channel `n` at offset `k` of its block. -/
def State.feedCfgWrite (s : State) (n k : Nat) (new : Word) : Nat × State :=
  let off := FEED_CFG.off n + k
  if k = 0x1C then (if s.feedLive n then s.feedRefuse else (stOK, s.wr off new))
  else if k = 0x04 ∧ 250 < (FEED_LIM.RATED n).get new then s.feedRefuse
  else
    let s := s.wr off new
    if k = 0x00 then
      (stOK, if s.fst n = fsDamaged ∧ s.flag (FEED_CFG.KILL_EN n) then s.pb FEED_STAT.KILL true else s)
    else if k = 0x04 ∧ s.feedLive n then
      (stOK, s.feedDo n (fun s => if 4 * s.ratedUv n < (s.feed n).sense then s.feedTrip n fcShort else s.sampleGate n))
    else if k = 0x08 ∧ s.fst n = fsRamp then
      (stOK, s.setFeed n { s.feed n with slewAt := s.absNs, slewV := (s.feed n).vout })
    else if k = 0x0C then (stOK, s.sampleHolds n)
    else (stOK, s)

/-- VOUT in mV that a channel in RAMP regulates to (R387): from the ramp's VOUT at SLEW. -/
def State.rampTarget (s : State) (n : Nat) : Nat :=
  let c := s.feed n
  c.slewV + (100 * clampNat 1 1000 (s.g (FEED_RAMP.SLEW n)) * (s.absNs - c.slewAt).toNat) / 1000000

end Sys2Proof.Machine
end

