-- ==== Sys2Proof/Machine/Fh.lean ====
section
/-! DEFINITION. The Fountainhead control units (R286 to R308): triggers, safe state, fail-over, checkpoints, proof-wakes, zone programs,
and the abort of a handover (R452). -/

namespace Sys2Proof.Machine

/-! ### Update states (R459) -/

def usIdle : Nat := 0
def usReceiving : Nat := 1
def usComplete : Nat := 2
def usNotMine : Nat := 3
def usBuilt : Nat := 4
def usStaging : Nat := 5
def usStaged : Nat := 6
def usHandover : Nat := 7
def usTrial : Nat := 8
def usReverted : Nat := 9

/-- The update record changed. -/
def State.upm (s : State) (f : Upd → Upd) : State := { s with upd := f s.upd }

/-- UPD_STAT.STATE. -/
def State.ust (s : State) : Nat := s.g UPD_STAT.STATE

/-- UPD_STAT.STATE replaced; a change raises EV043 (R475). -/
def State.setUst (s : State) (v : Nat) : State :=
  (s.p UPD_STAT.STATE v).raiseIf (s.ust != v) (evCfg 3) clEvent

/-! ### Units -/

/-- The Fountainhead record changed. -/
def State.hm (s : State) (f : Fh → Fh) : State := { s with fh := f s.fh }

/-- The unit that is not active. -/
def State.standby (s : State) : Nat := 1 - s.active

/-- The unit whose supervisor a master ID names (R32). -/
def supUnit (mid : Nat) : Option Nat := if mid = 0x02 then some 0 else if mid = 0x04 then some 1 else none

/-- Whether a bank of a unit is a program bank (R288). -/
def State.progBank (s : State) (b : Nat) : Bool := (s.g FH_BANKS.PROG).testBit b

/-- The key of a byte of a unit's banks. -/
def memKey (u a : Nat) : Nat := u * 2 ^ 20 + a

/-- A byte of a unit's banks or scratch bank. -/
def State.bankByte (s : State) (u a : Nat) : Byte := SMap.get (fun _ => (0 : Byte)) s.fh.mem (memKey u a)

/-- Bytes stored into a unit's banks. -/
def State.bankStore (s : State) (u a : Nat) : List Byte → State
  | [] => s
  | b :: r => State.bankStore (s.hm (fun h => { h with mem := SMap.set (fun _ => (0 : Byte)) h.mem (memKey u a) b })) u (a + 1) r

/-- The banks of a unit that `p` names cleared to zero; bank 8 is the scratch bank. -/
def State.bankClear (s : State) (u : Nat) (p : Nat → Bool) : State :=
  s.hm (fun h => { h with mem := h.mem.filter (fun e => !(e.1 / 2 ^ 20 == u && p (e.1 % 2 ^ 20 / 65536))) })

/-- A unit's cores halted, or let run. -/
def State.halt (s : State) (u : Nat) : State := s.zoneAccrue.hm (fun h => { h with halted := u :: h.halted.filter (fun x => x != u) })
def State.unhalt (s : State) (u : Nat) : State := s.zoneAccrue.hm (fun h => { h with halted := h.halted.filter (fun x => x != u) })

/-! ### Safe state (R292) -/

/-- Safe state entered: SAFE set, the running copy abandoned (R297), and with SAFE_JETS the Jets stopped. -/
def State.safeEnter (s : State) : State :=
  let s := (s.pb FH_STAT.SAFE true).pb FH_CKPT_STAT.BUSY false
  let s := s.hm (fun h => { h with copy := none })
  if s.flag FH_CTRL.SAFE_JETS then s.safeStopJets else s

/-- Safe state left. -/
def State.safeLeave (s : State) : State :=
  let s := s.pb FH_STAT.SAFE false
  { s with jets := { s.jets with safeStop := false } }

/-! ### Handover aborts (R452) -/

/-- An abort: the new unit returns to STANDBY with STAGED kept, the old unit runs on from where it halted. -/
def State.hoAbort (s : State) (cause : Nat) : State :=
  let nw := 1 - s.upd.old
  let s := (s.setUnit nw fhStandby).unhalt s.upd.old
  let s := s.hm (fun h => { h with resumed := none })
  let s := s.upm (fun u => { u with rec_ := 0, cDue := none, cAt := none })
  let s := (s.p UPD_STAT.CAUSE cause).setUst usStaged
  ((s.count UPD_ABORT_CNT.off).raise (evCfg 4) clNote).powerEval

/-! ### Triggers (R291, R298, R299, R307) -/

/-- FH_MISM and FH_MISM_ADDR record a trigger, and it is counted. -/
def State.trigRecord (s : State) (u cause core kind addr : Nat) : State :=
  let s := (((s.pb FH_MISM.VALID true).p FH_MISM.UNIT u).p FH_MISM.CAUSE cause).p FH_MISM.CORE core
  ((s.p FH_MISM.KIND kind).p FH_MISM_ADDR.ADDR addr).count FH_TRIG_CNT.off

/-- A proof-wake ends with a failure at a step (R303). -/
def State.proofFail (s : State) (u step : Nat) : State :=
  let s := ((s.pb FH_PROOF_STAT.DONE true).pb FH_PROOF_STAT.PASS false).p FH_PROOF_STAT.STEP step
  let s := ((s.setUnit u fhFailed).hm (fun h => { h with proof := none })).count FH_PROOF_FAIL.off
  (s.raise (evFh 4) clDegraded).powerEval

/-- The fail-over of R298 begun, or a case of R299: a Severe fault, and the safe state kept. `u` is the unit that failed. -/
def State.failover (s : State) (u : Nat) : State :=
  let o := 1 - u
  let again := s.fh.trig.isSome
  let s := ((s.halt u).setUnit u fhFailed).safeEnter
  let s := s.hm (fun h => { h with trig := some (h.trig.getD s.absNs) })
  let st := s.unit o
  if again ∨ !s.flag FH_CTRL.FO_EN ∨ !(st == fhStandby || st == fhProof || st == fhRestore) then
    ((s.hm (fun h => { h with stuck := true })).raise (evFh 2) clSevere).powerEval
  else
    let s := s.hm (fun h => { h with proof := none })
    ((s.setUnit o fhRestore).raise (evFh 2) clDegraded).powerEval

/-- A trigger cause in a unit (R291). -/
def State.fhTrigger (s : State) (u cause core kind addr : Nat) : State :=
  let st := s.unit u
  if !s.domOn (u + 1) ∨ st = fhOff ∨ st = fhStandby ∨ st = fhFailed then s
  else
    let s := s.trigRecord u cause core kind addr
    if st = fhProof then
      let (v, s) := s.free
      s.proofFail u (1 + v % 6)
    else if st = fhLoad then
      let s := (s.setUnit u fhFailed).raise (evFh 2) clDegraded
      (if s.ust = usStaging then (s.upm (fun x => { x with loading := none })).setUst usBuilt else s).powerEval
    else if st = fhRestore ∧ s.fh.trig.isNone then
      if s.upd.applying then s.upm (fun x => { x with lateTrig := true }) else s.hoAbort 13
    else s.failover u

/-- STEP_TIMEOUT (R291, CAUSE 3): the third copy of a step, `core`'s, comes `late` ns after the first: a trigger where that is more than
STEP_TMO. -/
def stepTimeout (u : Fin 2) (core : Fin 3) (kind : Fin 4) (addr : BitVec 32) (late : Nat) (s : State) : State :=
  if 1000 * max 1 (s.g FH_CTRL.STEP_TMO) < late then s.fhTrigger u.val 3 core.val kind.val addr.toNat else s

/-- WATCHDOG_EXPIRE (R291, CAUSE 4): FH_WDOG has not been kicked within WDOG ms. -/
def watchdogExpire (s : State) : State :=
  let w := s.g FH_CTRL.WDOG
  if w ≠ 0 ∧ s.unitRuns s.active ∧ 1000000 * (w : Int) ≤ s.absNs - s.fh.wdogAt then s.fhTrigger s.active 4 3 0 0 else s

/-- A write of FH_WDOG: 0xA5C3 restarts the watchdog (R308). -/
def State.wdogWrite (s : State) (eff : Word) : Nat × State :=
  (stOK, if FH_WDOG.KICK.get eff = 0xA5C3 then s.hm (fun h => { h with wdogAt := s.absNs }) else s)

/-- DOMAIN_SUPPLY_TRIP (R249, R291, R419): a supply monitor trips while its domain is on; CASCADE's loses the posted writes not drained. -/
def domainSupplyTrip (d : Fin 16) (s : State) : State :=
  if !s.domOn d.val then s
  else
    let s := s.count PWR_SUPPLY_FLT.off
    let s := if d.val = 6 then s.pwLost else s
    if d.val = 1 ∨ d.val = 2 then s.fhTrigger (d.val - 1) 5 3 0 0 else s.raise (evPwr 5) clSevere

/-- SIDE_EFFECT_READ_KEPT (R293): the response of the side-effect read in flight at a trigger is kept, unless an entry still is. -/
def sideEffectReadKept (s : State) : State :=
  match s.fh.reading with
  | none => s
  | some (addr, len, status, data) =>
    if !s.flag FH_STAT.SAFE then s
    else
      let s := s.hm (fun h => { h with reading := none })
      if s.flag FH_LOST0.VALID then s
      else
        let s := ((s.pb FH_LOST0.VALID true).p FH_LOST0.STATUS status).p FH_LOST0.LEN (min len 8)
        (s.wr64 FH_LOST1.off addr).wr64 FH_LOST3.off (natLE (slice data 0 8))

/-! ### Fail-over (R298 to R300) -/

/-- STANDBY_READY (R298 steps 2 and 3, R451 step 1): the restoring unit, on and self-checked, its data banks initialised, is
released at its resume vector. -/
def standbyReady (s : State) : State :=
  match [0, 1].find? (fun u => s.unit u == fhRestore && s.domOn (u + 1) && s.fh.resumed != some u) with
  | none => s
  | some u => ((s.bankClear u (fun b => b < 8 && !s.progBank b)).unhalt u).hm (fun h => { h with resumed := some u })

/-- RELEASE by the restoring unit ends the fail-over (R298 step 6). -/
def State.foDone (s : State) (u : Nat) : State :=
  let us := ((s.absNs - s.fh.trig.getD s.absNs) / 1000).toNat
  let s := ((s.p FH_STAT.ACTIVE u).setUnit u fhActive).safeLeave
  let s := s.p FH_FO_TIME.TIME (min us 65535)
  let rearm := if s.flag FH_CTRL.REARM then some (1 - u, s.absNs + 100000000) else none
  let s := s.hm (fun h => { h with released := true, trig := none, resumed := none, wdogAt := s.absNs, rearm := rearm })
  let s := (s.count FH_FO_CNT.off).raise (evFh 3) clEvent
  let s := if s.ust = usTrial ∨ (s.upd.revert ∧ (s.ust = usStaging ∨ s.ust = usStaged)) then
      ((s.p UPD_STAT.BOOT (s.g UPD_STAT.OLD)).setUst usReverted).upm (fun x => { x with revert := false, records := [] })
    else if s.upd.rec_ = 1 then s.upm (fun x => { x with applying := true, cDue := none }) else s
  s.powerEval

/-- FH_CMD RELEASE (R298, R308, R422, R424). -/
def State.fhRelease (s : State) (m : Master) : State :=
  if s.fh.trig.isSome then
    match supUnit m.mid.val with
    | some u => if s.unit u = fhRestore ∧ s.fh.resumed = some u ∧ !s.fh.stuck then s.foDone u else s.count FH_CFGERR_CNT.off
    | none => s.count FH_CFGERR_CNT.off
  else if supUnit m.mid.val = some s.active ∧ s.unit s.active = fhActive then
    s.safeLeave.hm (fun h => { h with released := true })
  else s

/-- FAILOVER_DEADLINE (R299): RELEASE has not been written within RESUME ms of the trigger. -/
def failoverDeadline (s : State) : State :=
  match s.fh.trig with
  | some t =>
    if !s.fh.stuck ∧ 1000000 * (max 1 (s.g FH_CTRL.RESUME) : Nat) ≤ s.absNs - t then
      (s.hm (fun h => { h with stuck := true })).raise (evFh 6) clSevere
    else s
  | none => s

/-! ### Checkpoints (R294 to R297) -/

/-- The bytes of the valid checkpoint regions of a unit, in register order (R294, R296). -/
def State.ckptData (s : State) (u : Nat) : List Byte :=
  (List.range 8).flatMap (fun r =>
    if s.flag (FH_CKPT_RGN.VALID r) then
      (List.range (256 * s.g (FH_CKPT_RGN.LEN r))).map (fun k => s.bankByte u (256 * s.g (FH_CKPT_RGN.BASE r) + k))
    else [])

/-- The header of a checkpoint slot (R296): bytes 0 to 8,187. -/
def Ckpt.header (c : Ckpt) : List Byte :=
  slice (bytesLE 4 0x43504B31 ++ bytesLE 4 c.seq ++ bytesLE 6 c.fns ++ bytesLE 2 0 ++ bytesLE 4 c.cycle ++ bytesLE 4 c.image ++
    bytesLE 2 (c.data.length / 256) ++ bytesLE 1 c.unit ++ bytesLE 1 0 ++ c.regions.flatMap (fun w => bytesLE 4 w.toNat) ++
    List.replicate 36 0 ++ c.next.flatMap (fun n => bytesLE 4 n)) 0 8188

/-- A checkpoint slot's 262,144 bytes (R296), as a complete copy leaves them: the header and HCRC, the regions, DCRC, and COMPLETE. -/
def Ckpt.slot (c : Ckpt) : List Byte :=
  slice (c.header ++ bytesLE 4 (crc32c c.header) ++ c.data) 0 262136 ++ bytesLE 4 (crc32c c.data) ++ bytesLE 4 c.seq

/-- Whether the bytes of a checkpoint slot are complete (R296): MAGIC, HCRC and DCRC right, and COMPLETE equal to CKSEQ. -/
def slotComplete (l : List Byte) : Bool :=
  natLE (slice l 0 4) == 0x43504B31 && natLE (slice l 8188 4) == crc32c (slice l 0 8188) &&
    natLE (slice l 262136 4) == crc32c (slice l 8192 (256 * natLE (slice l 24 2))) && natLE (slice l 262140 4) == natLE (slice l 4 4)

/-- The newest complete slot (R296): of two, the one with the higher CKSEQ in serial-number arithmetic. -/
def State.newestSlot (s : State) : Option (Nat × Ckpt) :=
  match SMap.get (fun _ => none) s.fh.slots 0, SMap.get (fun _ => none) s.fh.slots 1 with
  | none, none => none
  | some a, none => some (0, a)
  | none, some b => some (1, b)
  | some a, some b => if signedOf 32 ((b.seq + 2 ^ 32 - a.seq) % 2 ^ 32) > 0 then some (1, b) else some (0, a)

/-- FH_CKPT_STAT and FH_CKPT_SEQ show the newest complete slot that Reservoir holds. -/
def State.showSlot (s : State) : State :=
  match s.newestSlot with
  | some (k, c) => ((s.p FH_CKPT_STAT.SLOT k).pb FH_CKPT_STAT.VALID true).p FH_CKPT_SEQ.SEQ c.seq
  | none => s.pb FH_CKPT_STAT.VALID false

/-- A checkpoint copy begun into the slot that does not hold the newest complete one; CKSEQ increases by 1. -/
def State.ckptBegin (s : State) : State :=
  let u := s.active
  let slot := match s.newestSlot with
    | some (k, _) => 1 - k
    | none => 0
  let seq := (s.fh.ckSeq + 1) % 2 ^ 32
  let c : Ckpt := { seq := seq, fns := s.fns48, cycle := (s.rd RING_CYCLE.off).toNat, image := (s.rd CFG_IMAGE_ID.off).toNat, unit := u,
                    regions := (List.range 8).map (fun r => s.rd (FH_CKPT_RGN.off r)),
                    next := (List.range 1024).map (fun f => s.nextOf f), data := s.ckptData u }
  (s.pb FH_CKPT_STAT.BUSY true).hm (fun h => { h with
    ckSeq := seq, copy := some (slot, c), slots := SMap.set (fun _ => none) h.slots slot none })

/-- A checkpoint falls due: begun, or skipped while a copy runs (R295). -/
def State.ckptDue (s : State) : State :=
  if !s.unitRuns s.active ∨ !s.domOn 8 then s
  else if s.fh.copy.isSome then s.count FH_CKPT_SKIP.off else s.ckptBegin

/-- CHECKPOINT_START (R294): the next instant of INTERVAL has come. -/
def checkpointStart (s : State) : State :=
  if s.flag FH_CKPT_CFG.EN ∧ s.fh.ckAt ≤ s.fns then
    let ival : Int := 1000000 * (clampNat 5 1000 (s.g FH_CKPT_CFG.INTERVAL) : Nat)
    s.ckptDue.hm (fun h => { h with ckAt := s.fns + ival })
  else s

/-- CHECKPOINT_COMPLETE (R296): COMPLETE written last; the slot is the newest complete one. -/
def checkpointComplete (s : State) : State :=
  match s.fh.copy with
  | some (slot, c) =>
    let s := s.pb FH_CKPT_STAT.BUSY false
    (s.hm (fun h => { h with copy := none, slots := SMap.set (fun _ => none) h.slots slot (some c) })).showSlot
  | none => s

/-! ### Proof-wakes (R300, R303) -/

/-- A proof-wake begun on a unit. -/
def State.proofBegin (s : State) (u : Nat) : State :=
  ((s.setUnit u fhProof).hm (fun h => { h with proof := some u })).powerEval

/-- PROOF_WAKE_START (R303): PERIOD hours after the last. -/
def proofWakeStart (s : State) : State :=
  let per : Int := 3600000000000 * (clampNat 1 720 (s.g FH_PROOF_CFG.PERIOD) : Nat)
  if s.flag FH_PROOF_CFG.EN ∧ s.unit s.standby = fhStandby ∧ per ≤ s.absNs - s.fh.proofAt then
    (s.hm (fun h => { h with proofAt := s.absNs })).proofBegin s.standby
  else s

/-- REARM_PROOF (R300): 100 ms after RELEASE. -/
def rearmProof (s : State) : State :=
  match s.fh.rearm with
  | some (u, t) =>
    if t ≤ s.absNs then
      let s := s.hm (fun h => { h with rearm := none })
      if s.unit u = fhFailed ∧ s.dom (u + 1) ≠ dsOff then (s.unhalt u).proofBegin u else s
    else s
  | none => s

/-- PROOF_WAKE_DONE (R303): the step at which it failed, or none; and the words the scrub corrected. -/
def proofWakeDone (failed : Option (Fin 6)) (corrected : Nat) (s : State) : State :=
  match s.fh.proof with
  | none => s
  | some u =>
    if !s.domOn (u + 1) then s
    else
      let s := s.countBy FH_ECC_CORR.off corrected
      match failed with
      | some k => s.proofFail u (k.val + 1)
      | none =>
        let s := ((s.pb FH_PROOF_STAT.DONE true).pb FH_PROOF_STAT.PASS true).p FH_PROOF_STAT.STEP 0
        ((s.setUnit u fhStandby).hm (fun h => { h with proof := none, passAt := some s.absNs })).powerEval

/-! ### Zone programs (R305, R306) -/

/-- Machine local interrupt 16 (R305). DESIGN CHOICE: the line stays raised while FH_ZP_RUN names a program that has spent its budget in
the present cycle. -/
def State.irq16 (s : State) : Bool := s.flag FH_ZP_RUN.VALID && s.fh.zoneOver.contains (s.g FH_ZP_RUN.PROG)

/-- Whether a zone program's accumulated time has reached its budget, and its overrun in this cycle is not yet taken (R305, R306). -/
def State.zoneDue (s : State) (n : Nat) : Bool :=
  s.zoneRuns == some n && s.flag (FH_ZP_CFG.EN n) && decide (s.g (FH_ZP_CFG.BUDGET n) * s.periodNs ≤ s.zoneNs n * 1000) &&
    !s.fh.zoneOver.contains n

/-- A zone program's budget is spent (R305): interrupt 16, OVR, and after LIMIT consecutive cycles SUSP with a Note event. -/
def State.zoneSpent (s : State) (n : Nat) : State :=
  let s := (s.hm (fun h => { h with zoneOver := n :: h.zoneOver })).pb (FH_ZP_STAT.OVR n) true
  let run := min 15 (s.g (FH_ZP_STAT.RUNOVR n) + 1)
  let lim := s.g (FH_ZP_CFG.LIMIT n)
  let s := (s.p (FH_ZP_STAT.RUNOVR n) run).count FH_OVERRUN_CNT.off
  if lim ≠ 0 ∧ lim ≤ run ∧ !s.flag (FH_ZP_STAT.SUSP n) then (s.pb (FH_ZP_STAT.SUSP n) true).raise (evFh 5) clNote else s

/-- ZONE_BUDGET_EXHAUST (R305): the running program's accumulated time reaches its budget. -/
def zoneBudgetExhaust (s : State) : State :=
  if s.zoneDue (s.g FH_ZP_RUN.PROG) then s.zoneSpent (s.g FH_ZP_RUN.PROG) else s

/-- A write of FH_ZP_RUN (R305): the time up to it counts for the program that ran. -/
def State.zpRunWrite (s : State) (new : Word) : Nat × State := (stOK, s.zoneAccrue.wr FH_ZP_RUN.off new)

/-! ### Writes to the FH registers -/

/-- A refused FH write. -/
def State.fhRefuse (s : State) : Nat × State := (stCFG, s.cfgErr FH_CFGERR_CNT.off (evFh 1))

/-- FH_CMD PROOF (R303): a proof-wake of the standby. -/
def State.fhProofCmd (s : State) : State := if s.unit s.standby = fhStandby then s.proofBegin s.standby else s

/-- FH_CMD HANDOVER (R302, R451 step 1): PREPARED is written and the new unit brought on; C is the first cycle boundary at least
LEAD later. -/
def State.fhHandover (s : State) (m : Master) : Nat × State :=
  if s.unit s.standby ≠ fhStandby ∨ s.ust ≠ usStaged ∨ supUnit m.mid.val ≠ some s.active then s.fhRefuse
  else
    let lead : Int := 1000 * (max 500 (s.g UPD_HO_CFG.LEAD) : Nat)
    let per : Int := s.periodNs
    let c := (s.fns + lead + per - 1) / per * per
    let s := s.upm (fun u => { u with rec_ := 1, old := s.active, cDue := some c, cAt := none, lateTrig := false })
    (stOK, ((s.setUnit s.standby fhRestore).setUst usHandover).powerEval)

/-- A write of FH_CMD. -/
def State.fhCmdWrite (s : State) (m : Master) (eff : Word) : Nat × State :=
  match FH_CMD.OP.get eff with
  | 1 => (stOK, s.fhRelease m)
  | 2 => (stOK, s.ckptDue)
  | 3 => (stOK, s.fhProofCmd)
  | 4 => s.fhHandover m
  | _ => (stOK, s)

/-- A write of FH_BANKS: refused while a unit is in STANDBY or PROOF (R307). -/
def State.banksWrite (s : State) (new : Word) : Nat × State :=
  if [0, 1].any (fun u => s.unit u == fhStandby || s.unit u == fhProof) then s.fhRefuse else (stOK, s.wr FH_BANKS.off new)

/-- A write of FH_CKPT_RGNr (R308): the blocks lie in data banks and total at most 991. -/
def State.rgnWrite (s : State) (r : Nat) (new : Word) : Nat × State :=
  let base := (FH_CKPT_RGN.BASE r).get new
  let len := (FH_CKPT_RGN.LEN r).get new
  let others := ((List.range 8).filter (fun k => k != r && s.flag (FH_CKPT_RGN.VALID k))).map (fun k => s.g (FH_CKPT_RGN.LEN k))
  let total := others.sum + len
  let prog := (List.range len).any (fun k => s.progBank ((base + k) / 256) || decide (2048 ≤ base + k))
  if (FH_CKPT_RGN.VALID r).get new = 1 ∧ (total = 0 ∨ 991 < total ∨ prog) then s.fhRefuse
  else (stOK, s.wr (FH_CKPT_RGN.off r) new)

/-- A write of FH_ZPn_CFG (R305, R306): the budgets of enabled programs total at most 700. -/
def State.zpWrite (s : State) (n : Nat) (new : Word) : Nat × State :=
  let others := ((List.range 16).filter (fun k => k != n && s.flag (FH_ZP_CFG.EN k))).map (fun k => s.g (FH_ZP_CFG.BUDGET k))
  let bud := (FH_ZP_CFG.BUDGET n).get new
  let mine := if (FH_ZP_CFG.EN n).get new = 1 then bud else 0
  if 700 < others.sum + mine then s.fhRefuse
  else
    let s := s.wr (FH_ZP_CFG.off n) new
    (stOK, if s.zoneDue n then s.zoneSpent n else s)

/-- Whether a write to a guard-P field of FH is ignored as a guard miss (R308): from the supervisor of a unit that is not active, but
for its own windows and, in RESTORE, FH_CMD and FH_WDOG. -/
def State.fhMiss (s : State) (m : Master) (off : Nat) : Bool :=
  match supUnit m.mid.val with
  | none => false
  | some u =>
    if u = s.active then false
    else if FH_WIN_LO.off u 0 ≤ off ∧ off < FH_WIN_LO.off u 0 + 0x80 then false
    else if off = FH_CMD.off ∨ off = FH_WDOG.off then s.unit u != fhRestore
    else true

end Sys2Proof.Machine
end

