-- ==== Sys2Proof/Machine/Flags.lean ====
section
/-! DEFINITION. Registers whose fields show the machine as it stands: fills, heads of queues, present faults, levels, and the
status words computed from them when they are read; and the holds of a domain in PENDING (R406). The other registers read as
they are held. -/

namespace Sys2Proof.Machine

/-- The domain whose blocks serve a held access (R8, R10). -/
def Held.dom (h : Held) : Nat :=
  if h.space = 1 then domainOf h.off
  else if h.space = 2 then 6
  else if h.space = 3 then (if h.off / 2 ^ 32 < 4 then 8 else 0)
  else 7

/-- The first hold in force on a domain in PENDING (R10, R406); 0 none. Hold 1 stands while an access that the domain held on its way to
ON has not completed. DEDUCED: hold 4 is no hold for a standby, which R301 takes to RETENTION, nor for a unit in OFF. -/
def State.holdOf (s : State) (d : Nat) : Nat :=
  if s.dom d ≠ dsPending then 0
  else if s.held.any (fun h => h.dom == d) then 1
  else if 5 ≤ d ∧ d ≤ 8 ∧ s.flag (PWR_DOM_VOTE.DEP d) then 2
  else if d = 8 ∧ !s.flowIdle then 3
  else if d = 15 ∧ (List.range 16).any (fun n => s.g (FEED_CHSTAT.STATE n) != 0 && s.g (FEED_CHSTAT.STATE n) < 4) then 3
  else if d = 6 ∧ (s.sw.frames ≠ [] ∨ s.brg.posted ≠ [] ∨ s.brg.dr ≠ []) then 3
  else if (d = 1 ∨ d = 2) ∧ !(s.unit (d - 1) == fhFailed || s.unit (d - 1) == fhStandby || s.unit (d - 1) == fhOff) then 4
  else 0

/-- A word from a number. -/
def wordOf (n : Nat) : Word := BitVec.ofNat 32 n

/-- Word `i` of a number. -/
def wordAt (i n : Nat) : Word := BitVec.ofNat 32 (n / 2 ^ (32 * i))

/-- EVT_NEXT: the lowest pending event with route FH. -/
def State.evtNext (s : State) : Word :=
  match (List.range 512).find? (fun e => s.evPend e && s.flag (EVT_ROUTE.FH e)) with
  | some e => wordOf (2 ^ 31 + s.evKept e * 2 ^ 16 + e)
  | none => 0

/-- SUMP_STAT: present faults by class, saturating, Spillway and GRAVE. -/
def State.sumpStat (s : State) : Word :=
  let c := fun k => min 255 (s.present k)
  wordOf (b2n s.sump.grave * 2 ^ 31 + b2n s.sump.spill * 2 ^ 30 + c clSevere * 2 ^ 16 + c clDegraded * 2 ^ 8 + c clNote)

/-- SUMP_LOG_HEAD. -/
def State.logHead (s : State) : Word :=
  if s.sump.logAny then wordOf (2 ^ 31 + s.sump.logSerial) else 0

/-- The five words of the head of the late log (R285). -/
def State.lateWord (s : State) (i : Nat) : Word :=
  match s.clep.late with
  | [] => 0
  | e :: _ =>
    match i with
    | 0 => wordOf (2 ^ 31 + e.serial % 128 * 2 ^ 24 + e.cause * 2 ^ 16 + e.action * 2 ^ 8 + e.pin)
    | 1 => wordOf e.g
    | 2 => wordOf (e.g / 2 ^ 32 % 2 ^ 16)
    | 3 => wordOf e.release
    | _ => wordOf (e.arg * 2 ^ 18 + e.point)

/-- The three words of the head of a PTP stamp queue (R275). -/
def State.ptpWord (s : State) (n i : Nat) : Word :=
  match s.ptpQ n with
  | [] => 0
  | e :: _ =>
    match i with
    | 0 => wordOf (2 ^ 31 + e.msgType * 2 ^ 24 + e.qns * 2 ^ 16 + e.seqId)
    | 1 => wordOf e.ns
    | _ => wordOf e.sec

/-- SEC_STAT (R474): its kept flags, the life cycle, and the keys and sessions that stand. -/
def State.secStat (s : State) : Word :=
  let w := SEC_STAT.LIFE.put (s.rd SEC_STAT.off) s.life
  let w := SEC_STAT.KEYS.put w s.sec.keys.length
  SEC_STAT.SESS.put w (s.sec.sessions.filter (fun e => decide (s.absNs < e.ends))).length

/-- SEC_SESS_STAT: the reader's session. -/
def State.sessStat (s : State) (m : Master) : Word :=
  match s.sec.sessions.find? (fun e => ofMaster m e.mid e.node && decide (s.absNs < e.ends)) with
  | some e => wordOf (2 ^ 31 + min 65535 ((e.ends - s.absNs) / 1000000000).toNat)
  | none => 0

/-- The words of the head of the posted-write failure log (R257). -/
def State.pwfWord (s : State) (i : Nat) : Word :=
  match s.brg.pwf with
  | [] => 0
  | e :: _ =>
    match i with
    | 0 => wordOf (2 ^ 31 + e.stage * 2 ^ 28 + e.status * 2 ^ 16 + e.pw)
    | 1 => wordOf e.addr
    | 2 => wordAt 1 e.addr
    | 3 => wordOf e.seq
    | _ => wordOf e.time

/-- The words of the head of the stranded store (R257). -/
def State.strWord (s : State) (i : Nat) : Word :=
  match s.brg.str with
  | [] => 0
  | e :: _ =>
    match i with
    | 0 => wordOf (2 ^ 31 + e.serial % 128 * 2 ^ 24 + e.status * 2 ^ 16 + e.data.length * 2 ^ 8 + e.tag)
    | 1 => wordOf e.addr
    | 2 => wordAt 1 e.addr
    | 3 => wordOf e.time
    | i => wordOf (natLE (slice e.data (4 * (i - 4)) 4))

/-- BRG_STAT. -/
def State.brgStat (s : State) : Word :=
  wordOf (b2n (s.brg.str != []) * 2 ^ 31 + b2n (s.brg.pwf != []) * 2 ^ 30 + s.brg.str.length * 2 ^ 24 + s.brg.dr.length * 2 ^ 16 +
    s.brg.posted.length)

/-- HST_ATTN with its two levels (R257); a level that a reset found set stays until its store is next emptied (R258). -/
def State.hstAttn (s : State) : Word :=
  HST_ATTN.PWF.put (HST_ATTN.STR.put (s.rd HST_ATTN.off) (b2n (s.flag HST_ATTN.STR || s.brg.str != [])))
    (b2n (s.flag HST_ATTN.PWF || s.brg.pwf != []))

/-- HST_STAT: DOWN follows CASCADE. -/
def State.hstStat (s : State) : Word := HST_STAT.DOWN.put (s.rd HST_STAT.off) (b2n (!s.domOn 6))

/-- HRB while HCS_N is high (R236): low when an enabled attention stands. -/
def State.hrbIdle (s : State) : Bool := (s.hstAttn &&& s.rd HST_ATTN_EN.off) == 0

/-- CST_nSTAT and CST_nPKTS with what the Cistern holds (R349). -/
def State.cstStat (s : State) (n : Nat) : Word :=
  let c := s.cist n
  let w := (CST_STAT.OPEN n).put (s.rd (CST_STAT.off n)) (b2n c.opened.isSome)
  (CST_STAT.FILL n).put ((CST_STAT.MID n).put w (b2n c.mid)) c.fill

/-- The words of the head of the tunnel log (R342). -/
def State.tlogWord (s : State) (i : Nat) : Word :=
  match s.cst.tlog with
  | [] => 0
  | e :: _ =>
    match i with
    | 0 => wordOf (2 ^ 31 + e.stage * 2 ^ 28 + e.serial % 16 * 2 ^ 24 + e.status * 2 ^ 16 + e.tunnel * 2 ^ 8 + e.cistern)
    | 1 => wordOf e.seq
    | _ => wordOf e.time

/-- SW_CREDn (R229): the tiles used of a port's arrival pools, and the credit held at its neighbour. -/
def State.swCred (s : State) (p : Nat) : Word :=
  let v := s.port p
  wordOf (v.arrL % 256 * 2 ^ 24 + v.arrH % 256 * 2 ^ 16 + v.credL % 256 * 2 ^ 8 + v.credH % 256)

/-- ETH_STAT with the priorities that the partner pauses now. -/
def State.ethStat (s : State) (n : Nat) : Word :=
  (ETH_STAT.PAUSED n).put (s.rd (ETH_STAT.off n)) ((List.range 8).foldl (fun a k => a + b2n (s.paused n k) * 2 ^ k) 0)

/-- PNT_ATTR_DATA of a point: its profile and type. -/
def State.attrWord (s : State) (i : Nat) : Word := wordOf (s.profOf i * 2 ^ 8 + (s.pt i).typ)

/-- FLOW_STAT and FLOW_LOAD as the flow engine stands. -/
def State.flowStat (s : State) : Word :=
  FLOW_STAT.RESERVE_LOW.put (FLOW_STAT.BUDGET.put (FLOW_STAT.DOUBT.put (s.rd FLOW_STAT.off) (b2n (s.flow.out.any (·.doubt))))
    (b2n (s.budNow < 4000))) (b2n (4096 - s.flow.retired.length < 410))

/-- Items of a flow that are in DOUBT, and those outstanding. -/
def State.flowFstat (s : State) (f : Nat) : Word :=
  let o := s.flow.out.filter (fun o => o.it.flow == f)
  wordOf ((o.filter (·.doubt)).length * 2 ^ 16 + o.length)

/-- FH_PROOF_STAT with AGE: whole hours since the last pass, saturating, 0xFFFF where there is none. -/
def State.proofStat (s : State) : Word :=
  FH_PROOF_STAT.AGE.put (s.rd FH_PROOF_STAT.off)
    (match s.fh.passAt with
     | some t => min 65535 ((s.absNs - t) / 3600000000000).toNat
     | none => 65535)

/-- What a data register of a CAN object reads as: the live copy (R364). DEDUCED: that sentence goes before R39, so that a write of a
transmit object's data is seen by reads only after COMMIT_DATA. -/
def State.objDataWord (s : State) (n o k : Nat) : Word := s.rd (CAN_OBJ_DATA.off n o k)

/-- FH_ZPn_STAT with the time used in the present cycle (R305). -/
def State.zoneStat (s : State) (n : Nat) : Word := (FH_ZP_STAT.USED n).put (s.rd (FH_ZP_STAT.off n)) (s.zoneUsed n)

/-- The words of the blocks up to Grotto that show the machine as it stands; `key` names the entry of an indexed register. -/
def State.liveLow (s : State) (m : Master) (off : Nat) : Option Word :=
  if off = DEV_NODE.off then some (DEV_NODE.PLANE_B.put (s.rd off) (b2n s.planeB))
  else if off = PWR_STAT.off then some s.pwrStat
  else if 0x010100 ≤ off ∧ off < 0x010200 ∧ off % 16 = 12 then
    let d := (off - 0x010100) / 16
    let w := (PWR_DOM_STAT.HOLD d).put (s.rd off) (s.holdOf d)
    some (if d = 0 then (PWR_DOM_STAT.STATE d).put w dsOn else w)
  else if off = EVT_NEXT.off then some s.evtNext
  else if off = SUMP_STAT.off then some s.sumpStat
  else if off = SUMP_LOG_HEAD.off then some s.logHead
  else if off = TIME_NOW_FRAC.off then some (wordOf s.clep.frac)
  else if off = TIME_NOW_NS.off then some (wordOf s.clep.ns)
  else if off = TIME_NOW_SEC_LO.off then some (wordOf s.clep.sec)
  else if off = TIME_NOW_SEC_HI.off then some (wordOf (s.clep.sec / 2 ^ 32 % 2 ^ 16))
  else if off = TIME_FNS_LO.off then some (wordOf (wrapInt 64 s.fns))
  else if off = TIME_FNS_HI.off then some (wordAt 1 (wrapInt 64 s.fns))
  else if off = TIME_ACT_STAT.off then some (wordOf s.clep.acts.length)
  else if 0x040200 ≤ off ∧ off < 0x040280 then
    let b := (off - 0x040200) / 16
    if off % 16 = 0 then some (edgeHead (s.edgeQ b)).1
    else if off % 16 = 4 then some (edgeHead (s.edgeQ b)).2
    else if off % 16 = 12 then some ((TIME_EDGE_CFG.FILL b).put (s.rd off) (s.edgeQ b).length)
    else none
  else if 0x040380 ≤ off ∧ off < 0x040394 then some (s.lateWord ((off - 0x040380) / 4))
  else if 0x040400 ≤ off ∧ off < 0x040500 ∧ 8 ≤ off % 0x40 ∧ off % 0x40 < 0x14 then
    some (s.ptpWord ((off - 0x040400) / 0x40) ((off % 0x40 - 8) / 4))
  else if off = SEC_STAT.off then some s.secStat
  else if off = SEC_SESS_STAT.off then some (s.sessStat m)
  else none

/-- Those of the flow engine, the point engine, Cascade and Sluice. `i` is the entry that the reader has selected. -/
def State.liveMid (s : State) (i off : Nat) : Option Word :=
  if off = FLOW_STAT.off then some s.flowStat
  else if off = FLOW_LOAD.off then some (wordOf (s.inbTable.length * 2 ^ 16 + s.flow.out.length))
  else if off = FLOW_JRNL.off then some (wordOf (s.flow.retired.length * 2 ^ 16 + s.liveLines))
  else if off = FLOW_FSTAT.off then some (s.flowFstat i)
  else if off = FLOW_NEXT.off then some (wordOf (s.nextOf i))
  else if off = FLOW_LOW.off then some (wordOf (s.lowOf i))
  else if off = FLOW_INC.off then some (wordOf (s.fl i).inc)
  else if off = PNT_ATTR_DATA.off then some (s.attrWord i)
  else if off = SW_POOL.off then some (wordOf (s.limSum * 2 ^ 16 + (23552 - s.poolUsed)))
  else if off = SW_FILL.off then some (wordOf (s.fill (i / 8) (i % 8)))
  else if 0x100300 ≤ off ∧ off < 0x100310 then some (s.swCred ((off - 0x100300) / 4))
  else if 0x120000 ≤ off ∧ off < 0x124000 ∧ off % 0x1000 = 4 then some (s.ethStat ((off - 0x120000) / 0x1000))
  else if off = BRG_STAT.off then some s.brgStat
  else if 0x140080 ≤ off ∧ off < 0x140094 then some (s.pwfWord ((off - 0x140080) / 4))
  else if 0x1400A0 ≤ off ∧ off < 0x1400C0 then some (s.strWord ((off - 0x1400A0) / 4))
  else none

/-- Those of the Cisterns, the Jets, the field pins and the blocks above them. -/
def State.liveHigh (s : State) (off : Nat) : Option Word :=
  if 0x160000 ≤ off ∧ off < 0x162000 ∧ off % 32 = 0x10 then some (s.cstStat ((off - 0x160000) / 32))
  else if 0x160000 ≤ off ∧ off < 0x162000 ∧ off % 32 = 0x14 then
    let n := (off - 0x160000) / 32
    some ((CST_PKTS.CLOSED n).put (s.rd off) (min 65535 (s.cist n).closed.length))
  else if off = CST_WEIR_STAT.off then
    some (wordOf ((List.range 16).foldl (fun a k => a + b2n (s.weirPin k) * 2 ^ k) 0))
  else if 0x170080 ≤ off ∧ off < 0x17008C then some (s.tlogWord ((off - 0x170080) / 4))
  else if 0x180000 ≤ off ∧ off < 0x190000 ∧ off % 0x400 = 4 then some (s.jetStat ((off - 0x180000) / 0x400))
  else if 0x180000 ≤ off ∧ off < 0x190000 ∧ off % 0x400 = 0x10 then some ((s.jet ((off - 0x180000) / 0x400)).rx.headD 0)
  else if 0x1A1180 ≤ off ∧ off < 0x1A11A0 then some (s.pinWords.getD ((off - 0x1A1180) / 4) 0)
  else if 0x1C0000 ≤ off ∧ off < 0x1D0000 ∧ 0x1000 ≤ off % 0x2000 then
    let n := (off - 0x1C0000) / 0x2000
    let d := off % 0x2000 - 0x1000
    some (s.objDataWord n (d / 0x40) (d % 0x40 / 4))
  else if off = FH_PROOF_STAT.off then some s.proofStat
  else if 0x240200 ≤ off ∧ off < 0x240280 ∧ off % 8 = 4 then some (s.zoneStat ((off - 0x240200) / 8))
  else if off = HST_STAT.off then some s.hstStat
  else if off = HST_ATTN.off then some s.hstAttn
  else if off = TST_LOCK.off then some (wordOf s.life)
  else none

/-! ### Indexed registers -/

/-- The entry of an indexed register that a master has selected (R89, R157, R199, R229, R257, R364); none for a register that is
not indexed. -/
def State.entryOf (s : State) (mid off : Nat) : Option Nat :=
  let sel := fun (f : FRef) => some (s.g (f.at mid))
  if 0x0E0104 ≤ off ∧ off ≤ 0x0E0110 then sel PNT_PROF_SEL.PROF
  else if off = 0x0E0204 then sel PNT_ATTR_SEL.POINT
  else if 0x0E0304 ≤ off ∧ off ≤ 0x0E030C then sel PNT_OUT_SEL.ENTRY
  else if off = 0x0E0404 then sel PNT_WIN_SEL.WINDOW
  else if off = 0x080214 then sel RING_PUB_SEL.RANGE
  else if 0x080304 ≤ off ∧ off ≤ 0x08030C then sel RING_SUB_SEL.ENTRY
  else if 0x0C0104 ≤ off ∧ off ≤ 0x0C0118 then sel FLOW_SEL.FLOW
  else if off = 0x0C0204 then sel FLOW_GRP_SEL.GROUP
  else if off = 0x0C0214 then sel FLOW_MEM_SEL.ENTRY
  else if off = 0x100104 ∨ off = 0x100108 then some (8 * min 10 (s.g (SW_LIM_SEL.PORT.at mid)) + s.g (SW_LIM_SEL.CLASS.at mid))
  else if 0x100204 ≤ off ∧ off ≤ 0x10020C then sel SW_FWD_SEL.ENTRY
  else if off = 0x140104 then sel BRG_ROUTE_SEL.ENTRY
  else if off = 0x140204 ∨ off = 0x140208 then sel BRG_SIG_SEL.ENTRY
  else if 0x140304 ≤ off ∧ off ≤ 0x14030C then sel BRG_TUN_SEL.TUNNEL
  else if 0x1C0000 ≤ off ∧ off < 0x1D0000 then
    let n := (off - 0x1C0000) / 0x2000
    let d := off % 0x2000
    if 0x104 ≤ d ∧ d ≤ 0x118 then sel (CAN_OBJ_SEL.OBJ n)
    else if d = 0x184 then some (32 * s.g ((CAN_CELL_SEL.ROW n).at mid) + s.g ((CAN_CELL_SEL.WIN n).at mid))
    else none
  else none

/-- Whether a register is a selector, kept per master ID. -/
def isSel (off : Nat) : Bool :=
  [0x0E0100, 0x0E0200, 0x0E0300, 0x0E0400, 0x080210, 0x080300, 0x0C0100, 0x0C0200, 0x0C0210, 0x100100, 0x100200, 0x140100,
   0x140200, 0x140300].contains off ||
  (decide (0x1C0000 ≤ off ∧ off < 0x1D0000) && (off % 0x2000 == 0x100 || off % 0x2000 == 0x180))

/-- The register key that a master's access at an offset reaches: its own selector, its selected entry, or the register. -/
def State.keyOfReg (s : State) (m : Master) (off : Nat) : Nat :=
  if isSel off then bankKey off m.mid.val
  else
    match s.entryOf m.mid.val off with
    | some i => bankKey off i
    | none => off

/-- The word a register shows a master before its guards (R28, R41): as the machine stands, or as held. -/
def State.shown (s : State) (m : Master) (off : Nat) : Word :=
  let i := (s.entryOf m.mid.val off).getD 0
  let v := if off < 0x060000 then s.liveLow m off else if off < 0x160000 then s.liveMid i off else s.liveHigh off
  match v with
  | some w => w
  | none => s.rd (s.keyOfReg m off)

/-! ### Reading a register -/

/-- Whether the offset is the low word of the stamp of a CAN object, which a read of the object's data word 0 latches (R352). -/
def isCanStamp (off : Nat) : Bool := decide (0x1C0000 ≤ off ∧ off < 0x1D0000 ∧ off % 0x2000 = 0x114)

/-- The word that a latch of R41 or R352 holds for a master at an offset. -/
def State.latched (s : State) (m : Master) (off : Nat) : Option Word := mwGet s.latches m.mid.val (s.keyOfReg m off)

/-- The words a read of the lowest word of a multi-word value latches for the reader (R41), with their keys. A read of data word 0
of a CAN object latches its other words and its stamp (R352). -/
def State.latchWords (s : State) (m : Master) (off : Nat) : List (Nat × Word) :=
  if 0x1C0000 ≤ off ∧ off < 0x1D0000 ∧ 0x1000 ≤ off % 0x2000 then
    if off % 0x40 = 0 then
      let n := (off - 0x1C0000) / 0x2000
      let o := (off % 0x2000 - 0x1000) / 0x40
      (List.range 15).map (fun k => (off + 4 * (k + 1), s.shown m (off + 4 * (k + 1)))) ++
        [bankKey (CAN_OBJ_STAMP_LO.off n) o, bankKey (CAN_OBJ_STAMP_HI.off n) o].map (fun k => (k, s.rd k))
    else []
  else if isCanStamp off ∧ (s.latched m off).isSome then []
  else
    match mwGroup off with
    | some (base, n) =>
      if base = off then (List.range (n - 1)).map (fun k => (s.keyOfReg m (off + 4 * (k + 1)), s.shown m (off + 4 * (k + 1)))) else []
    | none => []

/-- The word a read finds: for a higher word of a multi-word value the reader's latched copy, if it has one, else the word as it
stands. DEDUCED: a stamp latched with its CAN object's data reads as latched, from its low word on. -/
def State.found (s : State) (m : Master) (off : Nat) : Word :=
  if isLowest off ∧ !isCanStamp off then s.shown m off
  else
    match s.latched m off with
    | some w => w
    | none => s.shown m off

/-- Whether a domain that is not on would hold or refuse an access (R10): 0 served, 1 held, 2 refused. -/
def State.domGate (s : State) (off : Nat) : Nat :=
  let d := domainOf off
  if s.domOn d then 0 else if s.dom d = dsToOn then 1 else 2

/-- Whether CFG_BOOT shows FAILSAFE, in which only the blocks of the failsafe state serve register accesses. -/
def State.failsafe (s : State) : Bool := s.g CFG_BOOT.STAGE == 6

end Sys2Proof.Machine
end

