-- ==== Sys2Proof/Machine/SumpCmd.lean ====
section
/-! DEFINITION. What reaches Sump from outside and by time (R475 to R493): occurrences, clears, software events, reaction resets,
the log window, alarms received, snapshots, the patrol scrub, calibration and telemetry; and the writes of its registers. -/

namespace Sys2Proof.Machine

/-! ### Events (R475 to R481) -/

/-- Whether an event can be GRAVE (R481). -/
def graveEvent (ev : Nat) : Bool := ev == evSump 7 || ev == evSec 7

/-- EVENT_OCCURRENCE (R476): an event at the class that its rule names, standing for a number of occurrences. -/
def eventOccurrence (ev : Fin 512) (cls : Fin 5) (rep : Nat) (s : State) : State :=
  let c := if graveEvent ev.val then cls.val else min 3 cls.val
  s.raiseN 4 ev.val c (max 1 rep)

/-- A W1C write of a word of pending bits (R476): a GRAVE bit and a lasting condition keep theirs. -/
def State.pendWrite (s : State) (k : Nat) (wv : Word) : State :=
  (List.range 32).foldl (fun s i =>
    let ev := 32 * k + i
    if wv.getLsbD i && s.evPend ev && s.evKept ev != clGrave && !s.lasting ev then
      let w := s.rd (EVT_PEND.off k)
      let s := s.wr (EVT_PEND.off k) (w &&& ~~~(BitVec.ofNat 32 (2 ^ i)))
      { s with sump := { s.sump with kept := SMap.set (fun _ => 0) s.sump.kept ev 0 } }
    else s) s

/-- A refused write of a Sump register: index 1 of Sump's events. -/
def State.sumpRefuse (s : State) : Nat × State := (stCFG, s.raise (evSump 1) clEvent)

/-- A write of EVT_SWSET: EV(448 + INDEX) at its CLASS; classes 4 to 7 are refused. -/
def State.swsetWrite (s : State) (eff : Word) : Nat × State :=
  if 4 ≤ EVT_SWSET.CLASS.get eff then s.sumpRefuse
  else (stOK, s.raise (448 + EVT_SWSET.INDEX.get eff) (EVT_SWSET.CLASS.get eff))

/-- A write of a Sump configuration register (R497). -/
def State.sumpCfgWrite (s : State) (off : Nat) (new : Word) : Nat × State :=
  if off = SUMP_CFG.off ∧ (SUMP_CFG.REACT_SEV.get new = 3 ∨ SUMP_CFG.REACT_DEG.get new = 3) then s.sumpRefuse
  else if off = SUMP_ALARM.off ∧ SUMP_ALARM.DST.get new < 0xFF00 then s.sumpRefuse
  else if EVT_ROUTE.off 0 ≤ off ∧ off < EVT_ROUTE.off 512 ∧ 4 ≤ (EVT_ROUTE.RAISE 0).get new then s.sumpRefuse
  else (stOK, s.wr off new)

/-- REACTION_RESET (R479, R480): at the end of REACT_DLY the reaction's reset is asked for, or the ESC_N-th within ESC_WIN escalates
as EV007. -/
def reactionReset (s : State) : State :=
  match s.sump.react with
  | none => s
  | some (k, due) =>
    if s.absNs < due then s
    else
      let n := s.g SUMP_CFG.ESC_N
      let win : Int := 1000000000 * (max 1 (s.g SUMP_CFG.ESC_WIN) : Nat)
      let times := (due :: s.sump.reactTimes).take 15
      let s := ({ s with sump := { s.sump with react := none, reactTimes := times } }).count SUMP_REACT_CNT.off
      let recent := (times.filter (fun t => decide (due - t < win))).length
      if n ≠ 0 ∧ n ≤ recent then s.raise (evSump 7) clGrave
      else s.askReset ⟨if k = 2 then 1 else 2, 4, 0⟩

/-! ### The log window (R484) -/

/-- LOG_WINDOW_END (R484): the end of a 1 ms window; Spillway ends after a whole window with at most LOG_RATE / 2 offers. -/
def logWindowEnd (s : State) : State :=
  let lim := max 1 (s.g SUMP_SPILL.LOG_RATE)
  let ends := s.sump.spill && !s.sump.winEntered && decide (s.sump.winOffers ≤ lim / 2)
  let s := { s with sump := { s.sump with winEntries := 0, winOffers := 0, winEntered := false } }
  if ends then
    let s := s.sump.spillTab.foldl (fun s e => s.writeLog e.ev e.cls e.count true) s
    ({ s with sump := { s.sump with spill := false, spillTab := [], spillSeen := [] } }).raise (evSump 3) clEvent
  else s

/-! ### Alarms received (R485, R489) -/

/-- Events that a trigger has raised. -/
def State.raiseAll (r : State × List (Nat × Nat)) : State := r.2.foldl (fun s e => s.raise e.1 e.2) r.1

/-- A SNAPREQ accepted or refused (R489). -/
def State.snapReq (s : State) (treq origin : Nat) : State :=
  if !s.flag SNAP_CFG.EN ∨ !s.flag SNAP_CFG.RMT then s
  else if sgn48 treq s.fns48 < 1000 then State.raiseAll (s.snapRefuse SNAP_LATE.off)
  else
    match s.sump.snapArm with
    | some (t, o) =>
      if t = treq then s
      else
        let keep := if 0 ≤ sgn48 treq t then (t, o) else (treq, origin)
        State.raiseAll (({ s with sump := { s.sump with snapArm := some keep } }).snapRefuse SNAP_LOST.off)
    | none =>
      let st := s.g SNAP_STAT.STATE
      if st = 2 ∨ (st = 3 ∧ !s.flag SNAP_CFG.OVERWRITE) then State.raiseAll (s.snapRefuse SNAP_LOST.off)
      else { s.p SNAP_STAT.STATE 1 with sump := { s.sump with snapArm := some (treq, origin) } }

/-- ALARM_RECEIVE (R485, R489): an extracted ALARM frame is stored in the inbox with its SRC, and raises EV004. -/
def alarmReceive (f : Frame) (bad : Option Nat) (s : State) : State :=
  if f.typ ≠ tyAlarm then s
  else s.takeCpu f bad (fun s =>
    let b := slice f.payload 0 32
    let ent := b.take 22 ++ bytesBE 2 f.src ++ b.drop 24
    let s := ({ s with sump := { s.sump with inbox := (ent :: s.sump.inbox).take 64, inboxNext := (s.sump.inboxNext + 1) % 64 } }).raise (evSump 4) clEvent
    if bitOf (beAt b 15 1) 0 then s.snapReq (beAt b 16 6) f.src else s)

/-! ### Stillwater (R486 to R490) -/

/-- A write of SNAP_CMD. -/
def State.snapCmdWrite (s : State) (eff : Word) : Nat × State :=
  match SNAP_CMD.OP.get eff with
  | 1 =>
    (stOK, if s.flag SNAP_CFG.EN ∧ (s.g SNAP_CFG.TRIG).testBit 2 then State.raiseAll (s.snapFire snReg s.node s.fns48) else s)
  | 2 =>
    (stOK, if s.g SNAP_STAT.STATE = 3 then { s.p SNAP_STAT.STATE 0 with sump := { s.sump with snap := none } } else s)
  | _ => (stOK, s)

/-- A refused SNAP write. -/
def State.snapCfgRefuse (s : State) : Nat × State := (stCFG, s.cfgErr SNAP_CFGERR_CNT.off (evSump 1))

/-- Whether TIME_ECAP captures the edges that SNAP_PIN names. -/
def State.snapPinOk (s : State) (w : Word) : Bool :=
  let n := SNAP_PIN.PIN.get w
  let e := SNAP_PIN.EDGE.get w
  e != 0 && (!e.testBit 0 || s.captures n true) && (!e.testBit 1 || s.captures n false)

/-- A write of a SNAP configuration register (R487, R495, R498). -/
def State.snapCfgWrite (s : State) (off : Nat) (new : Word) : Nat × State :=
  let st := s.g SNAP_STAT.STATE
  let range := decide (SNAP_RANGE.off 0 ≤ off ∧ off < SNAP_RANGE.off 16)
  if (off = SNAP_CFG.off ∨ range) ∧ (st = 1 ∨ st = 2) then s.snapCfgRefuse
  else if off = SNAP_CFG.off then
    if (SNAP_CFG.TRIG.get new).testBit 0 && !s.snapPinOk (s.rd SNAP_PIN.off) then s.snapCfgRefuse else (stOK, s.wr off new)
  else if off = SNAP_PIN.off then
    if SNAP_PIN.EDGE.get new = 0 ∧ (s.g SNAP_CFG.TRIG).testBit 0 then s.snapCfgRefuse else (stOK, s.wr off new)
  else if range then
    let r := (off - SNAP_RANGE.off 0) / 4
    let cnt := (SNAP_RANGE.COUNT 0).get new
    let others := ((List.range 16).filter (fun k => k != r && s.flag (SNAP_RANGE.VALID k))).map (fun k => s.g (SNAP_RANGE.COUNT k))
    if (SNAP_RANGE.VALID 0).get new = 1 ∧ (cnt = 0 ∨ 1024 < others.sum + cnt ∨ 16384 < (SNAP_RANGE.FIRST 0).get new + cnt) then s.snapCfgRefuse
    else (stOK, s.wr off new)
  else (stOK, s.wr off new)

/-- SNAP_TREQ (R487, R489): at TREQ an armed node takes its snapshot. -/
def snapTreq (s : State) : State :=
  match s.sump.snapArm with
  | some (t, o) => if s.come t then State.raiseAll (({ s with sump := { s.sump with snapArm := none } }).snapFire snRing o t) else s
  | none => s

/-- The tiles of the valid ranges, in range order (R486). -/
def State.snapTiles (s : State) : List Nat :=
  (List.range 16).flatMap (fun r =>
    if s.flag (SNAP_RANGE.VALID r) then (List.range (s.g (SNAP_RANGE.COUNT r))).map (fun k => s.g (SNAP_RANGE.FIRST r) + k) else [])

/-- SNAP_MARK (R488): the snapshot holds the points as they stand at MARK, a tile that fails verification as R84 leaves it. -/
def snapMark (s : State) : State :=
  match s.sump.snapMark with
  | some (cause, origin, instant) =>
    let tiles := s.snapTiles
    let s := tiles.foldl (fun s t => if s.pts.cache.contains t then s else s.verifyTile t false false) s
    let n : Snap := { serial := s.sump.snapSerial + 1, cause := cause, origin := origin, instant := instant, tiles := tiles.length,
                      mark := s.fns48, pins := s.sump.snapPins.getD s.pinWords, cmpOut := s.rd CMP_OUT.off,
                      cycle := instant / s.periodNs % 2 ^ 32, feedI := (List.range 16).map (fun k => s.rd (FEED_I.off k)),
                      body := tiles.flatMap s.tileBytes }
    { s with sump := { s.sump with snapMark := none, snapPins := none, snap := some n, snapSerial := (s.sump.snapSerial + 1) % 2 ^ 32 } }
  | none => s

/-- SNAP_COPY_DONE (R488, R490): the slot is FULL, and EV005 is raised. -/
def snapCopyDone (s : State) : State :=
  match s.sump.snap with
  | some n =>
    if s.g SNAP_STAT.STATE = 2 then
      (((s.p SNAP_STAT.STATE 3).p SNAP_STAT.SERIAL n.serial)).raise (evSump 5) clEvent
    else s
  | none => s

/-- The 128 bytes of the snapshot header (R486). -/
def Snap.header (n : Snap) : List Byte :=
  bytesLE 4 n.serial ++ bytesLE 1 n.cause ++ bytesLE 1 0 ++ bytesLE 2 n.origin ++ bytesLE 6 n.instant ++ bytesLE 2 n.tiles ++
    bytesLE 6 n.mark ++ bytesLE 2 0 ++ n.pins.flatMap (fun w => bytesLE 4 w.toNat) ++ bytesLE 4 n.cmpOut.toNat ++ bytesLE 4 n.cycle ++
    n.feedI.flatMap (fun w => bytesLE 4 w.toNat)

/-- The 16 bytes of a log entry (R483). -/
def LogEnt.bytes (e : LogEnt) : List Byte :=
  bytesLE 6 e.fns ++ bytesLE 2 (srcField e.ev e.cls e.summary) ++ bytesLE 2 e.rep ++ bytesLE 2 e.serial ++ bytesLE 4 e.detail.toNat

/-- A read of a window of Sump or Stillwater in space 0x03 (R496): none past its size, or where the window does not exist. -/
def State.sumpWindow (s : State) (win off len : Nat) : Option (List Byte) :=
  let part (size : Nat) (l : List Byte) := if off + len ≤ size then some (slice l off len) else none
  let full := if s.g SNAP_STAT.STATE = 3 then s.sump.snap else none
  if win = 0x10 then
    part 4096 ((List.range 256).flatMap (fun k =>
      match s.sump.log.find? (fun e => e.serial % 256 == k) with
      | some e => e.bytes
      | none => List.replicate 16 0))
  else if win = 0x11 then
    part 2048 ((List.range 64).flatMap (fun k => s.sump.inbox.getD ((s.sump.inboxNext + 63 - k) % 64) (List.replicate 32 0)))
  else if win = 0x12 then part 64 s.sump.telRec
  else if win = 0x20 then part 128 ((full.map Snap.header).getD [])
  else if win = 0x21 then part (256 * (full.map (·.tiles)).getD s.snapTiles.length) ((full.map (·.body)).getD [])
  else none

/-! ### Background work (R491, R492) -/

/-- What the patrol scrub does with a word it has read (R491). -/
def State.scrubbed (s : State) (mem : ScrubMem) (e : EccFind) : State :=
  match e with
  | .good => s
  | .corrected => (s.count TEL_SCRUB_CORR.off).raise (evTel 2) clEvent
  | .uncorrectable =>
    let s := (s.count TEL_SCRUB_UNCORR.off).raise (evTel 3) clEvent
    match mem with
    | .bank a => s.fhTrigger s.active 2 3 3 a.val
    | .cistern n header =>
      let s := (s.count CST_ECC_UNCORR.off).raise (evCst 2) clDegraded
      if header then s.cstLostAll n.val else s
    | .attr i => s.tileFail (i.val / 16)
    | .tileHdr t => s.tileFail t.val

/-- SCRUB_PASS (R491, R494): one word read by the patrol scrub, and what its SECDED code shows; an injected error shows as such. -/
def scrubPass (mem : ScrubMem) (e : EccFind) (s : State) : State :=
  if s.sump.inj.contains (.flip mem true) then (s.injMet (.flip mem true)).asInjected (·.scrubbed mem .uncorrectable)
  else if s.sump.inj.contains (.flip mem false) then (s.injMet (.flip mem false)).asInjected (·.scrubbed mem .corrected)
  else s.scrubbed mem e

/-- CALIBRATION_VISIT (R492): one instance's trim moves by at most one code; `atEnd` when it reaches its end code. -/
def calibrationVisit (atEnd : Bool) (s : State) : State :=
  if atEnd then (s.count TEL_CAL_ERR.off).raise (evTel 4) clNote else s

/-! ### Telemetry (R493) -/

/-- Milliseconds added to an hour counter: whole hours reach the register. -/
def State.addHours (s : State) (off k ms : Nat) : State :=
  let t := SMap.get (fun _ => 0) s.sump.telMs k + ms
  let s := { s with sump := { s.sump with telMs := SMap.set (fun _ => 0) s.sump.telMs k (t % 3600000) } }
  s.wr off (BitVec.ofNat 32 ((s.rd off).toNat + t / 3600000))

/-- The telemetry record (R493). -/
def State.telRecord (s : State) (hi lo feed : Int) : List Byte :=
  bytesLE 6 s.fns48 ++ bytesLE 2 (wrapInt 16 hi) ++ bytesLE 2 (wrapInt 16 lo) ++ bytesLE 2 (wrapInt 16 feed) ++
    bytesLE 2 (s.g PWR_AVS_STAT.VSET) ++ bytesLE 1 (s.g PWR_AVS_STAT.MARGIN) ++ bytesLE 1 0 ++ bytesLE 4 (s.rd PWR_AVS_RATE.off).toNat ++
    bytesLE 1 (min 255 (s.present clNote)) ++ bytesLE 1 (min 255 (s.present clDegraded)) ++ bytesLE 1 (min 255 (s.present clSevere)) ++
    bytesLE 1 0 ++ bytesLE 8 (s.rd64 FLOW_LINES_LO.off) ++ bytesLE 4 (s.rd TEL_LIFE_HRS.off).toNat ++ bytesLE 4 (s.rd FH_FO_CNT.off).toNat ++
    bytesLE 4 (min 0xFFFFFFFF (((List.range 4).map (fun p => (s.rd (PORT_LOSS_CNT.off p)).toNat)).sum)) ++
    bytesLE 4 (s.rd FLOW_DOUBT_CNT.off).toNat ++ List.replicate 16 0

/-- TELEMETRY_READ (R493): the five main-die sensors and the feed die's, in 0.1 °C. -/
def telemetryRead (t0 t1 t2 t3 t4 feed : Int) (s : State) : State :=
  let per : Int := 1000000 * (max 10 (s.g TEL_CFG.PERIOD) : Nat)
  if s.absNs - s.sump.telAt < per then s
  else
    let hi := max t0 (max t1 (max t2 (max t3 t4)))
    let lo := min t0 (min t1 (min t2 (min t3 t4)))
    let ms := ((s.absNs - s.sump.telAt) / 1000000).toNat
    let s := (s.p TEL_TEMP.MAX (wrapInt 16 hi)).p TEL_TEMP.MIN (wrapInt 16 lo)
    let bin := if hi ≤ 850 then 0 else if hi ≤ 1050 then 1 else if hi ≤ 1250 then 2 else 3
    let s := (s.addHours TEL_LIFE_HRS.off 4 ms).addHours (TEL_BIN.off bin) bin ms
    let hot := decide (1250 ≤ hi)
    let s := { s with sump := { s.sump with telAt := s.absNs, hot := hot } }
    let s := s.raiseIf (decide (10 * (min 0x7C (s.g TEL_THERM.GOV) : Nat) ≤ hi)) (evTel 5) clEvent
    let s := s.raiseIf hot (evTel 6) clSevere
    { s with sump := { s.sump with telRec := s.telRecord hi lo feed } }

/-- MGMT_SEND (R493): every MGMT seconds the record in a MGMT frame, and EV327. -/
def mgmtSend (s : State) : State :=
  let per : Int := 1000000000 * (s.g TEL_CFG.MGMT : Nat)
  if s.g TEL_CFG.MGMT = 0 ∨ s.absNs - s.sump.mgmtAt < per then s
  else
    let s := { s with sump := { s.sump with mgmtAt := s.absNs } }
    let n := s.sump.mgmtSerial
    let pl := bytesBE 1 1 ++ bytesBE 1 0 ++ bytesBE 2 n ++ List.replicate 12 0 ++ slice s.sump.telRec 0 64
    let (_, s) := s.offerRing 8 tyMgmt 3 (s.g TEL_DEST.NODE) pl
    ({ s with sump := { s.sump with mgmtSerial := (n + 1) % 65536 } }).raise (evTel 7) clEvent

/-- A write of a TEL configuration register (R499). -/
def State.telWrite (s : State) (off : Nat) (new : Word) : Nat × State :=
  let nd := TEL_DEST.NODE.get new
  if off = TEL_DEST.off ∧ s.g TEL_CFG.MGMT ≠ 0 ∧ (nd = 0 ∨ 0xFF00 ≤ nd) then (stCFG, s.cfgErr TEL_CFGERR_CNT.off (evTel 1))
  else (stOK, s.wr off new)

end Sys2Proof.Machine
end

