-- ==== Sys2Proof/Machine/Usb.lean ====
section
/-! DEFINITION. The USB hub and the fabric function (R365 to R383): upstream states, suspend and wake, resets and disconnects,
ports, the point stream, notices and responses on their endpoints, and the writes of the USB registers. -/

namespace Sys2Proof.Machine

/-- USB_STAT.STATE codes. -/
def ubDetached : Nat := 0
def ubDefault : Nat := 1
def ubAddress : Nat := 2
def ubConfigured : Nat := 3
def ubSuspended : Nat := 4

/-- The upstream state. -/
def State.ust4 (s : State) : Nat := s.g USB_STAT.STATE

/-- Whether the USB domain serves the hub. -/
def State.usbRuns (s : State) : Bool := s.domOn 10

/-- Whether a local port is in use: it is local and a device is connected. -/
def State.localUsed (s : State) : Bool :=
  (List.range 4).any (fun n => (s.g USB_CFG.LOCAL).testBit n && s.flag (USB_PORT_STAT.CONN n))

/-- The LINK vote of the USB domain (R379, R404): 0 while the hub is suspended with SUSP_RET, with remote wakeup not enabled and no
local port in use. The domain is then evaluated. -/
def State.usbLink (s : State) : State :=
  let rel := s.ust4 = ubSuspended ∧ s.flag USB_CFG.SUSP_RET ∧ !s.flag USB_STAT.RWE ∧ !s.localUsed
  (s.p (PWR_DOM_VOTE.LINK 10) (if rel then 0 else 1)).powerEval

/-- Queued responses leave (R376, R382): those of a read with a side effect move to the stranded store, with TAG 0xFF, and stay
queued while it is full; the others are discarded. -/
def State.usbDropResps (s : State) : State :=
  let l := s.usb.resps
  l.foldl (fun s r =>
    if !r.side then s
    else
      let (ok, s) := s.strand r.status 0xFF r.addr (r.data.take 16)
      if ok then s else s.usbRespond r) (s.um (fun u => { u with resps := [] }))

/-- The function loses its configuration (R376, R382): responses leave; a WRITE not complete and a read without side effect are
discarded, and a read with one runs on, its result for the stranded store. -/
def State.usbQuiet (s : State) : State :=
  s.usbDropResps.um (fun u => { u with
    write := none, read := (if u.read.any (·.side) then u.read else none), readLost := u.read.any (·.side), halted := false })

/-- The TT of a downstream port. -/
def State.ttOf (s : State) (n : Nat) : Tt := s.usb.tt.getD n Tt.empty

/-- The TT of a port replaced. -/
def State.ttPut (s : State) (n : Nat) (t : Tt) : State := s.um (fun u => { u with tt := u.tt.set n t })

/-- The function returns to a state without address or configuration (R382): notices stay, the stream stops, and the TTs, whose splits
the upstream host has given up, are empty. -/
def State.usbClear (s : State) (st speed : Nat) : State :=
  let s := s.usbQuiet.um (fun u => { u with
    mframe := 0, suspAt := none, driving := none, alt := 0, tt := List.replicate 4 Tt.empty, ttAns := [] })
  let s := ((s.p USB_STAT.STATE st).p USB_STAT.SPEED speed).p USB_STAT.ADDR 0
  let s := ((s.p USB_STAT.CONFIG 0).p USB_STAT.RWE 0).p USB_WAKE.REQ 0
  s.usbLink

/-- A downstream port without its device (R367 to R369): not connected, disabled, no HID configured, nothing in its TT. -/
def State.portDetach (s : State) (n : Nat) : State :=
  let s := ((s.p (USB_PORT_STAT.EN n) 0).p (USB_PORT_STAT.SUSP n) 0).p (USB_PORT_STAT.CLASS n) 0
  ((s.p (USB_PORT_STAT.CONN n) 0).p (USB_PORT_STAT.SPEED n) 0).ttPut n Tt.empty

/-- A refused USB write. -/
def State.usbRefuse (s : State) : Nat × State := (stCFG, s.cfgErr USB_CFGERR_CNT.off (evUsb 1))

/-- A write of USB_CFG (R369, R379): EN = 0 detaches; a changed LOCAL bit disconnects its port from its former owner at once. The new owner
sees a connection at the USB_PORT_CONNECT that follows the port's reset. -/
def State.usbCfgWrite (s : State) (new : Word) : Nat × State :=
  let chg := s.g USB_CFG.LOCAL ^^^ USB_CFG.LOCAL.get new
  let s := s.wr USB_CFG.off new
  let s := (List.range 4).foldl (fun s n =>
    if chg.testBit n then (s.portDetach n).pb (USB_PORT_STAT.OWNER n) ((USB_CFG.LOCAL.get new).testBit n) else s) s
  (stOK, if USB_CFG.EN.get new = 0 ∧ s.ust4 ≠ ubDetached then s.usbClear ubDetached 0 else s.usbLink)

/-- The points of a valid range. -/
def isoCount (w : Word) : Nat := if (USB_ISO_RANGE.VALID 0).get w = 1 then (USB_ISO_RANGE.COUNTM1 0).get w + 1 else 0

/-- A write of USB_ISO_RANGEk (R378): a range stays within a tile, and the valid ranges hold at most 191 records. -/
def State.isoWrite (s : State) (k : Nat) (new : Word) : Nat × State :=
  let sum := ((List.range 16).map (fun j => isoCount (if j = k then new else s.rd (USB_ISO_RANGE.off j)))).sum
  let cross := 0 < isoCount new ∧ 16 < (USB_ISO_RANGE.FIRST 0).get new % 16 + isoCount new
  if cross ∨ (0 < isoCount new ∧ 191 < sum) then s.usbRefuse else (stOK, s.wr (USB_ISO_RANGE.off k) new)

/-! ### Commands -/

/-- USB_RESPONSE_IN (R374, R376): EP1 sends the oldest response. It is removed once the host has acknowledged its last packet, and one to a
bus error then halts EP1; a response whose ACK is lost is sent again. -/
def usbResponseIn (acked : Bool) (s : State) : State :=
  match s.usb.resps with
  | r :: l =>
    if !s.usbRuns ∨ s.usb.halted ∨ s.ust4 ≠ ubConfigured then s
    else
      (if acked then s.um (fun u => { u with resps := l, halted := r.busErr }) else s).answer ⟨9, 0⟩ r.status
        (bytesLE 1 r.status ++ [0] ++ bytesLE 2 r.tag ++ bytesLE 2 r.useq ++ bytesLE 1 r.pieces ++ [0] ++
          bytesLE 2 r.data.length ++ bytesLE 6 0 ++ r.data) |>.traffic USB_TX_BYTES_LO.off (16 + r.data.length)
  | [] => s

/-- USB_NOTICE_IN (R377): EP3 sends the oldest notice. -/
def usbNoticeIn (s : State) : State :=
  match s.usb.notes with
  | b :: l =>
    if !s.usbRuns ∨ s.ust4 ≠ ubConfigured then s
    else ((s.um (fun u => { u with notes := l })).answer ⟨9, 0⟩ stOK b).traffic USB_TX_BYTES_LO.off 16
  | [] => s

/-- One record as the stream carries it: a READSENS point as VALUE 0 with QUALITY FAULT (R378), an UNDEF record as zeros. -/
def State.isoRec (s : State) (i : Nat) : List Byte × State :=
  if (s.pt i).typ = tyReadsens then ((⟨0, (s.pt i).stamp, qFault, tyReadsens⟩ : PRec).bytes, s)
  else
    let s := s.freshRead i
    ((s.pt i).bytes, s)

/-- The stream of one microframe at high speed (R378); `collected` tells whether the host collects it. -/
def State.isoStream (s : State) (collected : Bool) : State :=
  if !s.usbRuns ∨ s.ust4 ≠ ubConfigured ∨ s.g USB_STAT.SPEED ≠ 2 ∨ !s.flag USB_ISO_CFG.EN then s
  else
    let ws := (List.range 16).map (fun k => s.rd (USB_ISO_RANGE.off k))
    let pts := (ws.map (fun w => (List.range (isoCount w)).map (fun j => (USB_ISO_RANGE.FIRST 0).get w + j))).flatten
    let mult := if s.g USB_ISO_CFG.MULT = 0 then 1 else s.g USB_ISO_CFG.MULT
    let pts := if mult * 1024 < 16 + 16 * pts.length then [] else pts
    let at_ := s.fns48
    let (recs, s) := pts.foldl (fun (a : List Byte × State) i => let (b, s) := a.2.isoRec i; (a.1 ++ b, s)) ([], s)
    let head := bytesLE 4 s.usb.mframe ++ bytesLE 6 at_ ++ bytesLE 1 pts.length ++ bytesLE 5 0
    let s := s.um (fun u => { u with mframe := (u.mframe + 1) % 2 ^ 32 })
    if collected then (s.answer ⟨9, 0⟩ stOK (head ++ recs)).traffic USB_TX_BYTES_LO.off (16 + recs.length)
    else s.count USB_ISO_SKIP.off

/-! ### Transaction translators and the local host engine (R366, R369) -/

/-- A start-split reaches the TT of a port (R366). Non-periodic: one of two buffers of 64 bytes takes it, or it is answered NAK; a second
one for an endpoint takes that endpoint's buffer. Periodic: up to 16 in a microframe are held, and none has a handshake. A port of the local
host engine takes none. PRESUMED: the answers, after USB 2.0 chapter 11. -/
def State.ttStart (s : State) (n : Nat) (e : TtEp) (data : List Byte) : State :=
  let t := s.ttOf n
  let ent : TtEnt := ⟨e, data, none, 0⟩
  let ans := fun (h : TtHand) (s : State) => s.um (fun u => { u with ttAns := u.ttAns ++ [h] })
  if (s.g USB_CFG.LOCAL).testBit n then ans .err (s.count USB_TT_ERR.off)
  else if e.periodic then
    if (t.per.filter (fun x => x.age == 0)).length < 16 then s.ttPut n { t with per := t.per ++ [ent] } else s.count USB_TT_ERR.off
  else if 64 < data.length then ans .stall (s.count USB_TT_ERR.off)
  else
    let rest := t.np.filter (fun x => x.ep != e)
    if rest.length < 2 then ans .ack (s.ttPut n { t with np := rest ++ [ent] }) else ans .nak s

/-- A transaction that a TT holds ends on the downstream port. -/
def State.ttRan (s : State) (n : Nat) (e : TtEp) (r : TtRes) : State :=
  let t := s.ttOf n
  let upd := fun (x : TtEnt) => if x.ep = e ∧ x.res.isNone then { x with res := some r } else x
  s.ttPut n ⟨t.np.map upd, t.per.map upd⟩

/-- A complete-split reaches the TT of a port (R366): NYET while its transaction runs, else its result, which leaves the TT. One that the TT
cannot complete is counted. PRESUMED: the answers, after USB 2.0 chapter 11. -/
def State.ttComplete (s : State) (n : Nat) (e : TtEp) : State :=
  let t := s.ttOf n
  let ans := fun (h : TtHand) (s : State) => s.um (fun u => { u with ttAns := u.ttAns ++ [h] })
  let fail := fun (s : State) => ans (if e.periodic then .err else .stall) (s.count USB_TT_ERR.off)
  match (if e.periodic then t.per else t.np).find? (fun x => x.ep == e) with
  | none => fail s
  | some x =>
    let out := s.ttPut n (if e.periodic then { t with per := t.per.erase x } else { t with np := t.np.erase x })
    match x.res with
    | none => ans .nyet s
    | some (.done b) => ans (if e.isIn then .data b else .ack) out
    | some .nak => ans .nak out
    | some .stall => ans .stall out
    | some .failed => fail out

/-- A microframe begins at the TT of a port (R366): what the periodic pipeline has held for a frame of 8 microframes leaves it, counted
where it never completed. PRESUMED: the length, after USB 2.0 section 11.18. -/
def State.ttTick (s : State) (n : Nat) : State :=
  let t := s.ttOf n
  let per := t.per.map (fun x => { x with age := x.age + 1 })
  let s := (per.filter (fun x => x.age == 8 && x.res.isNone)).foldl (fun s _ => s.count USB_TT_ERR.off) s
  s.ttPut n { t with per := per.filter (fun x => decide (x.age < 8)) }

/-- Bytes the manual leaves open. -/
def State.freeBytes (s : State) (n : Nat) : List Byte × State :=
  (List.range n).foldl (fun a _ => let (v, t) := a.2.free; (a.1 ++ [BitVec.ofNat 8 v], t)) ([], s)

/-- An output report of a configured local HID device (R253, R369): the bits that no entry covers are free values. -/
def State.hidReport (s : State) (n id len : Nat) : State :=
  if !(s.g USB_CFG.LOCAL).testBit n ∨ s.g (USB_PORT_STAT.CLASS n) ≠ 1 then s
  else
    let (pad, s) := s.freeBytes len
    let (b, s) := s.sinkBuild 4 (n + 1) id pad
    s.um (fun u => { u with hidOut := ((n, id), b) :: u.hidOut.filter (fun x => x.1 != (n, id)) })

/-- What happens on the hub's ports in a microframe. The TTs work while the upstream link is at high speed and not suspended. -/
def State.usbEvent (s : State) (b : UsbBus) : State :=
  let tt := s.g USB_STAT.SPEED == 2 && s.ust4 != ubSuspended && s.ust4 != ubDetached
  match b with
  | .startSplit p e d => if tt then s.ttStart p.val e d else s
  | .ran p e r => if tt then s.ttRan p.val e r else s
  | .completeSplit p e => if tt then s.ttComplete p.val e else s
  | .outReport p id len => s.hidReport p.val id.val len

/-- USB_ISO_MICROFRAME (R366, R369, R378): the stream of a microframe, and what its `bus` says of the downstream ports. -/
def usbIsoMicroframe (collected : Bool) (bus : List UsbBus) (s : State) : State :=
  let s := s.isoStream collected
  if !s.usbRuns then s
  else bus.foldl State.usbEvent ((List.range 4).foldl State.ttTick (s.um (fun u => { u with ttAns := [] })))

/-- A hub port feature set or cleared by the port's owner (R365, R367): the upstream host, or for a `loc` request the local host engine that
node firmware drives. Power that returns ends the over-current state. `reset` ends with the port enabled at the speed of its device. -/
def State.portFeature (s : State) (n : Nat) (f : PortFeat) (on loc : Bool) : State :=
  if (s.g USB_CFG.LOCAL).testBit n ≠ loc then s
  else
    match f with
    | .power =>
      let s := s.pb (USB_PORT_STAT.POWER n) on
      if on then s.p (USB_PORT_STAT.OC n) 0 else (s.portDetach n).usbLink
    | .overCurrentChange => if on then s else s.um (fun u => { u with ocChg := u.ocChg.filter (· != n) })
    | .reset => if on ∧ s.flag (USB_PORT_STAT.CONN n) then (s.pb (USB_PORT_STAT.EN n) true).pb (USB_PORT_STAT.SUSP n) false else s
    | .suspend => if s.flag (USB_PORT_STAT.EN n) then s.pb (USB_PORT_STAT.SUSP n) on else s
    | .enable => if on then s else s.pb (USB_PORT_STAT.EN n) false

/-- SET_CONFIGURATION (R372): 0 deconfigures, and queued responses leave under R376; the function's one configuration is 1. -/
def State.usbConfig (s : State) (c : Nat) : State :=
  if s.ust4 ≠ ubAddress ∧ s.ust4 ≠ ubConfigured then s
  else if c = 0 then (s.usbQuiet.p USB_STAT.CONFIG 0).p USB_STAT.STATE ubAddress
  else if c = 1 then (s.p USB_STAT.CONFIG 1).p USB_STAT.STATE ubConfigured
  else s

/-- USB_CONTROL_REQUEST (R365, R366, R370, R372): a control request at its status stage; one the function or the hub does not support is
answered with STALL. -/
def usbControlRequest (r : UsbReq) (s : State) : State :=
  if !s.usbRuns then s
  else
    let s := s.um (fun u => { u with stalled := r == .other })
    match r with
    | .setAddress a =>
      if s.ust4 = ubDefault ∨ s.ust4 = ubAddress then
        (s.p USB_STAT.ADDR a.val).p USB_STAT.STATE (if a.val = 0 then ubDefault else ubAddress)
      else s
    | .setConfiguration c => s.usbConfig c.val
    | .remoteWakeup on => (s.pb USB_STAT.RWE on).usbLink
    | .endpointHalt on => s.um (fun u => { u with halted := on })
    | .hubInterface alt => s.um (fun u => { u with alt := alt.val })
    | .portFeature n f on => s.portFeature n.val f on false
    | .localFeature n f on => s.portFeature n.val f on true
    | .clearTt n e => s.ttPut n.val { s.ttOf n.val with np := (s.ttOf n.val).np.filter (fun x => x.ep != e) }
    | .resetTt n => s.ttPut n.val Tt.empty
    | .other => s

/-- USB_BUS_RESET (R382): `high` tells whether the link comes up at high speed. -/
def usbBusReset (high : Bool) (s : State) : State :=
  if !s.usbRuns ∨ !s.flag USB_CFG.EN then s else s.usbClear ubDefault (if high then 2 else 1)

/-- USB_DISCONNECT (R382). -/
def usbDisconnect (s : State) : State := if s.usbRuns then s.usbClear ubDetached 0 else s

/-- USB_SUSPEND (R379): 3 ms of upstream idle. The state before it is kept by ADDR and CONFIG. -/
def usbSuspend (s : State) : State :=
  if !s.usbRuns ∨ s.ust4 = ubDetached ∨ s.ust4 = ubSuspended then s
  else ((s.p USB_STAT.STATE ubSuspended).um (fun u => { u with suspAt := some s.absNs })).usbLink

/-- The state that resume returns to. -/
def State.usbAwake (s : State) : Nat :=
  if s.g USB_STAT.CONFIG ≠ 0 then ubConfigured else if s.g USB_STAT.ADDR ≠ 0 then ubAddress else ubDefault

/-- USB_RESUME (R381): host resume signalling; a remote wake not yet driven is dropped. -/
def usbResume (s : State) : State :=
  if !s.usbRuns ∨ s.ust4 ≠ ubSuspended then s
  else
    let s := (s.p USB_STAT.STATE s.usbAwake).um (fun u => { u with suspAt := none })
    (if s.usb.driving.isSome then s else s.p USB_WAKE.REQ 0).usbLink

/-- USB_REMOTE_WAKE (R380): after 5 ms of suspend, with remote wakeup enabled, a request is served by driving resume. -/
def usbRemoteWake (s : State) : State :=
  let long := match s.usb.suspAt with | some t => decide (t + 5000000 ≤ s.absNs) | none => false
  if !s.usbRuns ∨ s.ust4 ≠ ubSuspended ∨ !s.flag USB_WAKE.REQ ∨ !s.flag USB_STAT.RWE ∨ s.usb.driving.isSome ∨ !long then s
  else s.um (fun u => { u with driving := some s.absNs })

/-- USB_WAKE_DRIVE_END (R380): the 2 ms of resume signalling end; the request has been served and the link is awake. -/
def usbWakeDriveEnd (s : State) : State :=
  if !(match s.usb.driving with | some t => decide (t + 2000000 ≤ s.absNs) | none => false) then s
  else
    let s := (s.um (fun u => { u with driving := none, suspAt := none })).p USB_WAKE.REQ 0
    (if s.ust4 = ubSuspended then s.p USB_STAT.STATE s.usbAwake else s).usbLink

/-- USB_OVERCURRENT (R367): USB_OCn_N has been low for 1 ms. -/
def usbOvercurrent (n : Fin 4) (s : State) : State :=
  if !s.usbRuns then s
  else
    let s := ((s.portDetach n.val).p (USB_PORT_STAT.POWER n.val) 0).p (USB_PORT_STAT.OC n.val) 1
    let s := s.um (fun u => { u with ocChg := n.val :: u.ocChg.filter (· != n.val) })
    (s.count USB_OC_CNT.off).raise (evUsb 3) clNote |>.usbLink

/-- HID_REPORT_RECEIVE (R252, R369): an input report of a local HID device is a source update, stamped now. -/
def hidReportReceive (n : Fin 4) (id : Fin 256) (data : List Byte) (s : State) : State :=
  if !s.usbRuns ∨ !(s.g USB_CFG.LOCAL).testBit n.val ∨ s.g (USB_PORT_STAT.CLASS n.val) ≠ 1 then s
  else s.signalUpdate 4 (n.val + 1) id.val data s.fns48 false

/-- USB_PORT_CONNECT (R368): a device connects to a powered port or leaves it. On a local port the host engine enumerates it, and
configures it when it is a HID device. -/
def usbPortConnect (n : Fin 4) (conn : Bool) (speed : Fin 3) (hid : Bool) (s : State) : State :=
  let i := n.val
  if !s.usbRuns then s
  else if conn then
    if !s.flag (USB_PORT_STAT.POWER i) then s
    else
      let s := (s.pb (USB_PORT_STAT.CONN i) true).p (USB_PORT_STAT.SPEED i) speed.val
      (if (s.g USB_CFG.LOCAL).testBit i then (s.pb (USB_PORT_STAT.EN i) true).pb (USB_PORT_STAT.CLASS i) hid else s).usbLink
  else (s.portDetach i).usbLink

end Sys2Proof.Machine
end

