-- ==== Sys2Proof/Machine/RegWrite.lean ====
section
/-! DEFINITION. Reading and writing a register of space 0x01 (R26 to R45): which accesses end in a bus error, guards and access
codes, staging of multi-word values, and the effect each block gives a write. A block effect answers the status of the write. -/

namespace Sys2Proof.Machine

/-- A write that has reached its block: the writer, the offset, the register key, the entry of an indexed register, the new word
and the written bits that reach fields the writer may write; for a multi-word value the new words and written bits of each word. -/
structure RegWr where
  m : Master
  off : Nat
  key : Nat
  idx : Nat
  new : Word
  eff : Word
  ws : List Word
  es : List Word

/-- Word `i` of a multi-word write. -/
def RegWr.w (r : RegWr) (i : Nat) : Word := r.ws.getD i 0

/-- Written bits of word `i` of a multi-word write. -/
def RegWr.e (r : RegWr) (i : Nat) : Word := r.es.getD i 0

/-- The instance of a family at base `b` with stride `st`. -/
def RegWr.inst (r : RegWr) (b st : Nat) : Nat := (r.off - b) / st

/-- A write with no effect but the register's new word. -/
def State.plain (s : State) (r : RegWr) : Nat × State := (stOK, s.wr r.key r.new)

/-- A completed multi-word write with no effect but the new words. -/
def State.plainWords (s : State) (r : RegWr) : Nat × State :=
  let lo := r.key - 4 * (r.ws.length - 1)
  (stOK, (List.range r.ws.length).foldl (fun s i => s.wr (lo + 4 * i) (r.w i)) s)

/-- PWR and CMP. -/
def State.blkPower (s : State) (r : RegWr) : Nat × State :=
  let d := r.inst 0x010100 16
  if 0x010100 ≤ r.off ∧ r.off < 0x010200 then
    if r.off % 16 = 0 then s.voteWrite d r.new
    else if r.off % 16 = 4 then s.idleWrite d r.new
    else if r.off % 16 = 8 then s.retWrite d r.new
    else s.plain r
  else if r.off = PWR_AVS_CTRL.off ∨ r.off = PWR_AVS_LIMIT.off then s.avsWrite r.off r.new
  else if 0x220000 ≤ r.off ∧ r.off < 0x220180 ∧ r.off % 16 = 0 then s.cmpCfgWrite (r.inst 0x220000 16) r.new
  else if 0x220000 ≤ r.off ∧ r.off < 0x220180 ∧ r.off % 16 = 4 then s.cmpWakeWrite (r.inst 0x220000 16) r.new
  else s.plain r

/-- EVT, SUMP, SNAP and TEL. -/
def State.blkSump (s : State) (r : RegWr) : Nat × State :=
  if r.off = EVT_SWSET.off then s.swsetWrite r.eff
  else if EVT_PEND.off 0 ≤ r.off ∧ r.off < EVT_PEND.off 16 then (stOK, s.pendWrite (r.inst (EVT_PEND.off 0) 4) r.eff)
  else if r.off = SUMP_CFG.off ∨ r.off = SUMP_ALARM.off ∨ EVT_ROUTE.off 0 ≤ r.off ∧ r.off < EVT_ROUTE.off 512 then
    s.sumpCfgWrite r.off r.new
  else if r.off = SNAP_CMD.off then s.snapCmdWrite r.eff
  else if r.off = SNAP_CFG.off ∨ r.off = SNAP_PIN.off ∨ SNAP_RANGE.off 0 ≤ r.off ∧ r.off < SNAP_RANGE.off 16 then
    s.snapCfgWrite r.off r.new
  else if TEL_CFG.off ≤ r.off ∧ r.off ≤ TEL_CAL.off then s.telWrite r.off r.new
  else s.plain r

/-- TIME. A cycle boundary that an accepted forward step passes over starts its cycle at the step tick (R267). -/
def State.blkTime (s : State) (r : RegWr) : Nat × State :=
  if r.off = TIME_EPOCH_HI.off then s.epochWrite (r.w 0) (r.w 1)
  else if r.off = TIME_INC_HI.off then s.incWrite (r.w 0) (r.w 1)
  else if r.off = TIME_SLEW_CNT.off then s.slewWrite (r.w 0) (r.w 1)
  else if r.off = TIME_STEP.off then
    let (st, t) := s.stepWrite r.eff
    (st, if st = stOK ∧ 0 < r.eff.toInt then cycleStart t else t)
  else if r.off = TIME_SET_SEC_HI.off then s.setWrite (r.e 0) (r.e 1) (r.e 2)
  else if r.off = TIME_ACT_FLUSH.off then s.actFlush r.eff
  else if r.off = TIME_LATE_POP.off then s.latePop r.eff
  else if 0x040200 ≤ r.off ∧ r.off < 0x040280 ∧ r.off % 16 = 8 then s.edgePopWrite (r.inst 0x040200 16) r.eff
  else if 0x040200 ≤ r.off ∧ r.off < 0x040280 ∧ r.off % 16 = 12 then
    let i := (TIME_EDGE_CFG.POINT 0).get r.new
    if (TIME_EDGE_CFG.BIND 0).get r.new = 1 ∧ (s.pt i).typ ≠ tyReadsens then s.timeRefuse else s.plain r
  else if 0x040300 ≤ r.off ∧ r.off < 0x040340 then s.trigWrite (r.inst 0x040300 8) (r.w 0) (r.w 1) r.eff
  else if 0x040400 ≤ r.off ∧ r.off < 0x040500 ∧ r.off % 0x40 = 0x14 then s.ptpPop (r.inst 0x040400 0x40) r.eff
  else if 0x040400 ≤ r.off ∧ r.off < 0x040500 ∧ r.off % 0x40 = 0 ∧ (TIME_PTP_CFG.TC 0).get r.new = 3 then s.timeRefuse
  else s.plain r

/-- SEC. -/
def State.blkSec (s : State) (r : RegWr) : Nat × State :=
  if r.off = SEC_CMD.off then s.secCmdWrite r.m r.eff
  else if r.off = SEC_SESS_CMD.off then s.sessCmdWrite r.m r.eff
  else if SEC_BUF.off 0 ≤ r.off ∧ r.off < SEC_BUF.off 128 then s.secBufWrite r.m (r.inst (SEC_BUF.off 0) 4) r.new
  else s.plain r

/-- The ring port of an offset in the PORT block (R130). -/
def portOf (off : Nat) : Nat := (off - 0x0A0000) / 0x4000 * 2 + (off - 0x0A0000) % 0x4000 / 0x1000 % 2

/-- RING and PORT. -/
def State.blkRing (s : State) (r : RegWr) : Nat × State :=
  if r.off = RING_CFG.off then s.ringCfgWrite r.new
  else if r.off = RING_MAP.off then s.mapWrite r.new
  else if r.off = RING_SUM.off then s.sumWrite r.new
  else if r.off = RING_SLOT.off then s.slotWrite r.new
  else if r.off = RING_APPLY_HI.off then s.applyWrite (r.w 0) (r.w 1)
  else if r.off = RING_PUB_CFG.off then s.pubWrite r.idx r.new
  else if r.off = RING_SUB_DST.off then s.subWrite r.idx (r.w 0) (r.w 1) (r.w 2)
  else if r.off = PORT_BYP.off then s.bypWrite r.new
  else if 0x0A0000 ≤ r.off ∧ r.off % 0x1000 = 0 ∧ r.off % 0x4000 < 0x2000 then s.portCfgWrite (portOf r.off) r.new
  else s.plain r

/-- FLOW. Bit 31 of FLOW_GRPMEM7 reads 1 whatever is written (R199). -/
def State.blkFlow (s : State) (r : RegWr) : Nat × State :=
  if r.off = FLOW_CTRL.off then s.flowCtrlWrite r.new
  else if r.off = FLOW_CFG.off then s.flowCfgWrite r.idx r.new
  else if r.off = FLOW_CMD.off then s.flowCmdWrite r.idx r.eff
  else if r.off = FLOW_GRP_CFG.off then s.grpCfgWrite r.idx r.new
  else if r.off = FLOW_MEM.off then s.memWrite r.idx r.new
  else if r.off = FLOW_GRPMEM.off 7 then (stOK, s.wr r.key (r.new ||| 0x80000000))
  else s.plain r

/-- PNT. -/
def State.blkPoint (s : State) (r : RegWr) : Nat × State :=
  if r.off = PNT_ATTR_DATA.off then s.attrWrite r.idx r.new
  else if r.off = PNT_PATROL.off then s.patrolWrite r.new
  else if r.off = PNT_PROF_CFG.off then s.profCfgWrite r.idx r.new
  else if r.off = PNT_PROF_SAFE_HI.off then s.plainWords r
  else if r.off = PNT_OUT_CFG.off then s.outCfgWrite r.idx r.new
  else if r.off = PNT_OUT_DST_HI.off then s.outDstWrite r.idx (r.w 0) (r.w 1)
  else if r.off = PNT_WIN_CFG.off then s.winCfgWrite r.idx r.new
  else s.plain r

/-- SW and ETH. -/
def State.blkSwitch (s : State) (r : RegWr) : Nat × State :=
  if r.off = SW_LIM.off then s.limWrite r.idx r.new
  else if r.off = SW_FWD_PORTS.off then s.fwdWrite r.idx (r.w 0) (r.w 1) (r.w 2)
  else if 0x100500 ≤ r.off ∧ r.off < 0x10050C then s.swRateWrite (r.inst 0x100500 4) r.new
  else if 0x120000 ≤ r.off ∧ r.off % 0x1000 = 0 then s.ethCfgWrite (r.inst 0x120000 0x1000) r.new
  else if 0x120000 ≤ r.off ∧ r.off % 0x1000 = 0x18 then s.mdioWrite (r.inst 0x120000 0x1000) r.new r.eff
  else s.plain r

/-- BRG and CST. -/
def State.blkBridge (s : State) (r : RegWr) : Nat × State :=
  let n := r.inst 0x160000 32
  if r.off = BRG_PWF_POP.off then s.pwfPop r.eff
  else if r.off = BRG_STR_POP.off then s.strPop r.eff
  else if r.off = BRG_SIG_DST.off then s.sigWrite r.idx (r.w 0) (r.w 1)
  else if r.off = BRG_TUN_REMOTE.off then s.tunWrite r.idx (r.w 0) (r.w 1) (r.w 2)
  else if 0x160000 ≤ r.off ∧ r.off < 0x162000 then
    if r.off % 32 = 0 then s.cstCfgWrite n r.new
    else if r.off % 32 = 4 then s.cstRegionWrite n r.new
    else if r.off % 32 = 8 then s.cstProdWrite n r.new
    else if r.off % 32 = 12 then s.cstWeirWrite n r.new
    else if r.off % 32 = 0x18 then s.cstCmdWrite n r.eff
    else s.plain r
  else if r.off = CST_TLOG_POP.off then s.tlogPop r.eff
  else s.plain r

/-- JET. -/
def State.blkJet (s : State) (r : RegWr) : Nat × State :=
  let j := r.inst 0x180000 0x400
  let d := r.off % 0x400
  if 0x190000 ≤ r.off then
    if r.off = JET_GRP_GO.off then s.groupGo r.eff
    else if 0x190100 ≤ r.off ∧ r.off < 0x190180 ∧ r.off % 16 = 0 ∧ (JET_GRP_CFG.ACTION 0).get r.new = 3 then (stCFG, s)
    else s.plain r
  else if d = 0 then s.jetCtrlWrite j r.new r.eff
  else if d = 0x08 then s.jetPcWrite j r.new
  else if d = 0x0C then s.jetTxWrite j r.eff
  else if d = 0x14 then s.jetRxPop j
  else if 0x1C ≤ d ∧ d ≤ 0x30 then s.jetMapWrite j r.off r.new
  else if d = 0x3C then s.jetPntWrite j r.off false r.new
  else if d = 0x40 then s.jetPntWrite j r.off true r.new
  else if d = 0x58 then s.jetDWrite j r.new
  else s.plain r

/-- FIO. -/
def State.blkPins (s : State) (r : RegWr) : Nat × State :=
  if r.off < 0x1A1000 then
    let n := r.inst 0x1A0000 16
    if r.off % 16 = 0 then s.pinCfgWrite n r.new
    else if r.off % 16 = 4 then s.inBindWrite n r.new
    else s.outBindWrite n r.new
  else if r.off < 0x1A1040 ∧ r.off % 8 = 0 then s.bankWrite (r.inst 0x1A1000 8) r.new
  else if FIO_LEVEL.off 0 ≤ r.off ∧ r.off < FIO_LEVEL.off 16 then s.levelWrite (r.inst (FIO_LEVEL.off 0) 4) r.eff
  else s.plain r

/-- CAN. -/
def State.blkCan (s : State) (r : RegWr) : Nat × State :=
  let n := r.inst 0x1C0000 0x2000
  let d := r.off % 0x2000
  if d = 0 then s.canCfgWrite n r.new
  else if d = 0x08 then s.canNbtWrite n r.new
  else if d = 0x0C then s.canDbtWrite n r.new
  else if d = 0x10 then s.canCmdWrite n r.eff
  else if d = 0x18 then s.canTtWrite n (r.w 0) (r.w 1)
  else if d = 0x104 then s.objCfgWrite n r.idx r.new
  else if d = 0x184 then s.canCellWrite n r.idx r.new
  else if 0x200 ≤ d ∧ d < 0x280 then s.canWinWrite n ((d - 0x200) / 4) r.new
  else if 0x1000 ≤ d then s.objDataWrite n ((d - 0x1000) / 0x40) (d % 0x40 / 4) r.new
  else s.plain r

/-- USB and FEED. -/
def State.blkUsbFeed (s : State) (r : RegWr) : Nat × State :=
  let n := r.inst 0x200000 0x100
  let k := r.off % 0x100
  if r.off = USB_CFG.off then s.usbCfgWrite r.new
  else if USB_ISO_RANGE.off 0 ≤ r.off ∧ r.off < USB_ISO_RANGE.off 16 then s.isoWrite (r.inst (USB_ISO_RANGE.off 0) 4) r.new
  else if r.off = FEED_CMD.off then s.feedKillWrite r.eff
  else if 0x200000 ≤ r.off ∧ r.off < 0x201000 ∧ k < 0x30 then s.feedCfgWrite n k r.new
  else if 0x200000 ≤ r.off ∧ r.off < 0x201000 ∧ k = 0x30 then s.feedCmdWrite n r.eff
  else s.plain r

/-- FH. -/
def State.blkFh (s : State) (r : RegWr) : Nat × State :=
  if r.off = FH_CMD.off then s.fhCmdWrite r.m r.eff
  else if r.off = FH_WDOG.off then s.wdogWrite r.eff
  else if r.off = FH_BANKS.off then s.banksWrite r.new
  else if FH_CKPT_RGN.off 0 ≤ r.off ∧ r.off < FH_CKPT_RGN.off 8 then s.rgnWrite (r.inst (FH_CKPT_RGN.off 0) 4) r.new
  else if 0x240200 ≤ r.off ∧ r.off < 0x240280 ∧ r.off % 8 = 0 then s.zpWrite (r.inst 0x240200 8) r.new
  else if r.off = FH_ZP_RUN.off then s.zpRunWrite r.new
  else if 0x240400 ≤ r.off then s.plainWords r
  else s.plain r

/-- HST (R258): clearing PW_LOST also clears HST_PW_LOST. -/
def State.blkHost (s : State) (r : RegWr) : Nat × State :=
  let s' := s.wr r.key r.new
  if r.off = HST_ATTN.off ∧ HST_ATTN.PW_LOST.get r.eff = 1 then (stOK, s'.wr HST_PW_LOST.off 0) else (stOK, s')

/-- The effect of a write on its block (R37). -/
def State.blkWrite (s : State) (r : RegWr) : Nat × State :=
  if r.off < 0x010000 then s.plain r
  else if r.off < 0x020000 then s.blkPower r
  else if r.off < 0x040000 then s.blkSump r
  else if r.off < 0x050000 then s.blkTime r
  else if r.off < 0x060000 then s.blkSec r
  else if r.off < 0x080000 then s.plain r
  else if r.off < 0x0C0000 then s.blkRing r
  else if r.off < 0x0E0000 then s.blkFlow r
  else if r.off < 0x100000 then s.blkPoint r
  else if r.off < 0x140000 then s.blkSwitch r
  else if r.off < 0x180000 then s.blkBridge r
  else if r.off < 0x1A0000 then s.blkJet r
  else if r.off < 0x1C0000 then s.blkPins r
  else if r.off < 0x1E0000 then s.blkCan r
  else if r.off < 0x220000 then s.blkUsbFeed r
  else if r.off < 0x240000 then s.blkPower r
  else if r.off < 0x260000 then s.blkFh r
  else if r.off < 0x280000 then s.blkSump r
  else s.blkHost r

/-! ### Accesses -/

/-- The fabric address of a register, with the NODE field the access carries. -/
def regAddr (nd off : Nat) : Nat := nd * 2 ^ 48 + 2 ^ 40 + off

/-- Whether the FAILSAFE state serves an access (R437): the host's and USB's to the DEV, CFG, UPD, SEC and EVT/SUMP blocks. The
boot ROM's own accesses are not restricted. -/
def State.failsafeOk (s : State) (m : Master) (off : Nat) : Bool :=
  !s.failsafe || m.mid.val == 0 ||
    ((m.mid.val == 0x08 || m.mid.val == 0x09) &&
      (decide (off < 0x010000) || decide (0x020000 ≤ off ∧ off < 0x030000) || decide (0x050000 ≤ off ∧ off < 0x080000)))

/-- The register that an access of `width` bytes at an offset reaches, if it reaches one that may be served (R27, R437). -/
def State.reg (s : State) (m : Master) (off width : Nat) : Option RegRow :=
  if width ≠ 4 ∨ off % 4 ≠ 0 ∨ (s.cls m).isNone ∨ !s.failsafeOk m off then none else regRow off

/-- Whether an access is held until its domain is on (R10). -/
def State.regHeld (s : State) (m : Master) (off width : Nat) : Bool := (s.reg m off width).isSome && s.domGate off == 1

/-- A bus error (R27, R29): counted and captured. -/
def State.busErr (s : State) (m : Master) (nd off : Nat) (write : Bool) : State :=
  s.busFault m (b2n write) (regAddr nd off)

/-- The class a writer has at a register: a unit that is not active has that of no guard in the FH block (R308). -/
def State.writeClass (s : State) (m : Master) (off : Nat) : Nat :=
  let c := (s.cls m).getD 0
  if s.fhMiss m off ∧ 0x240000 ≤ off ∧ off < 0x260000 then min c 1 else c

/-- The stored word that a write is judged against. -/
def State.storedWord (s : State) (m : Master) (off : Nat) : Word :=
  if off = PNT_ATTR_DATA.off ∨ (0x1C0000 ≤ off ∧ off < 0x1D0000 ∧ 0x1000 ≤ off % 0x2000) then s.shown m off else s.rd (s.keyOfReg m off)

/-- Whether the writer reaches some field of a register that can be written at all. -/
def State.reachesAny (s : State) (c off : Nat) (r : RegRow) : Bool :=
  r.fields.any (fun f => f.acc != .ro && s.reaches c off f.guard)

/-- Whether a multi-word value is written whole (R42): its highest word can be written. -/
def mwStaged (base n : Nat) : Bool :=
  match regRow (base + 4 * (n - 1)) with
  | some r => r.fields.any (fun f => f.acc == .rw || f.acc == .wo)
  | none => false

/-- Whether an access is the factory tester's to the TST block beyond TST_LOCK (R462, R469, R494). -/
def State.tstServes (s : State) (m : Master) (off width : Nat) : Bool :=
  m.mid.val == 0x1F && s.life == 0 && width == 4 && off % 4 == 0 && decide (0x2A0004 ≤ off ∧ off < 0x2B0000)

/-- An injected error (R494): those that act at once, and those that wait to be met. -/
def State.inject (s : State) (x : Inject) : State :=
  let wait := { s with sump := { s.sump with inj := x :: s.sump.inj.filter (· != x) } }
  match x with
  | .tileCrc t => wait.setHdr t.val (s.tileHdr t.val ^^^ 1)
  | .lineCrc i =>
    let l := SMap.get lineDflt s.flow.ring i.val
    wait.fm (fun f => { f with ring := SMap.set lineDflt f.ring i.val (l.set 0 (l.getD 0 0 ^^^ 1)) })
  | .comparator n b =>
    ({ s with power := { s.power with cmpForce := SMap.set (fun _ => none) s.power.cmpForce n.val b } }).asInjected (·.cmpEval n.val)
  | .supply d => s.asInjected (domainSupplyTrip d)
  | _ => wait

/-- A read of a register (R27, R30, R34, R41): status, word and state. What the TST block reads as in factory test is a free value. -/
def State.regRead (s : State) (m : Master) (nd off width : Nat) : Nat × Word × State :=
  match s.reg m off width with
  | none =>
    if s.tstServes m off width then
      let (v, s) := s.free
      (stOK, BitVec.ofNat 32 v, s)
    else (stADDR, 0, s.busErr m nd off false)
  | some r =>
    if s.domGate off ≠ 0 then (stADDR, 0, s.busErr m nd off false)
    else
      let c := (s.cls m).getD 0
      let (w, miss) := s.maskedRead c off r (s.found m off)
      let l := s.latchWords m off
      let s := { s with latches := l.foldl (fun a e => mwPut a m.mid.val e.1 e.2) s.latches }
      let s := if miss then s.firstError m 0 true (regAddr nd off) else s
      let d := off % 0x2000
      let s := if !miss ∧ 0x1C0000 ≤ off ∧ off < 0x1D0000 ∧ 0x1000 ≤ d ∧ d % 0x40 = 0 then
          s.objRead ((off - 0x1C0000) / 0x2000) ((d - 0x1000) / 0x40) else s
      (stOK, w, s)

/-- One word of a write by its access codes: the new word, the written bits that count, and whether it is a guard miss. -/
def State.wordWrite (s : State) (m : Master) (c off : Nat) (wv : Word) : Word × Word × Bool :=
  match regRow off with
  | none => (0, 0, false)
  | some r =>
    let (new, miss) := s.maskedWrite c off r (s.storedWord m off) wv
    (new, s.effectiveWrite c off r wv, miss)

/-- A write of a register that has been admitted: staged, or carried to its block by `blk` (R31, R34, R36, R42); the writer's read latches
of what it has written end (R39). A ring remote's guard miss answers GUARD. DESIGN CHOICE: the guards of every word of a multi-word
value are judged at the write of its highest word, and a miss on any of them counts once then. DEDUCED: a staged word is not yet
the register's, so that a read before the highest word is written returns the value in force. -/
def State.regPut (blk : State → RegWr → Nat × State) (s : State) (m : Master) (nd off : Nat) (r : RegRow) (val : Word) : Nat × State :=
  let c := s.writeClass m off
  let grp := (mwGroup off).filter (fun g => mwStaged g.1 g.2)
  match grp with
  | some (base, n) =>
    if off = PNT_OUT_DST_LO.off ∧ s.outBusy ((s.entryOf m.mid.val off).getD 0) then s.pntRefuse
    else if off < base + 4 * (n - 1) then
      (stOK, { s with staging := mwPut s.staging m.mid.val off val })
    else
      let offs := (List.range n).map (fun i => base + 4 * i)
      let one := fun o =>
        match (if o = off then some val else mwGet s.staging m.mid.val o) with
        | some v => s.wordWrite m c o v
        | none => (s.storedWord m o, 0, false)
      let ws := offs.map one
      let s := { s with
        staging := mwDrop s.staging m.mid.val offs, latches := mwDrop s.latches m.mid.val (offs.map (s.keyOfReg m)) }
      let miss := ws.any (·.2.2)
      let s := if miss then s.firstError m 1 true (regAddr nd off) else s
      let (st, s) := if s.reachesAny c off r then
          blk s ⟨m, off, s.keyOfReg m off, (s.entryOf m.mid.val off).getD 0, (ws.getD (n - 1) (0, 0, false)).1,
            (ws.getD (n - 1) (0, 0, false)).2.1, ws.map (·.1), ws.map (·.2.1)⟩
        else (stOK, s)
      (if miss ∧ st = stOK ∧ m.mid.val = 0x10 then stGUARD else st, s)
  | none =>
    let (new, eff, miss) := s.wordWrite m c off val
    let s := if (mwGroup off).isSome then { s with latches := mwDrop s.latches m.mid.val [s.keyOfReg m off] } else s
    let s := if miss then s.firstError m 1 true (regAddr nd off) else s
    let (st, s) := if s.reachesAny c off r then
        blk s ⟨m, off, s.keyOfReg m off, (s.entryOf m.mid.val off).getD 0, new, eff, [], []⟩
      else (stOK, s)
    (if miss ∧ st = stOK ∧ m.mid.val = 0x10 then stGUARD else st, s)

/-- A write of a register (R27, R29, R37), its effect given by `blk`: status and state. -/
def State.regWith (blk : State → RegWr → Nat × State) (s : State) (m : Master) (nd off width : Nat) (val : Word) : Nat × State :=
  match s.reg m off width with
  | none =>
    if s.tstServes m off width then
      match Config.tst off val with
      | some x => (stOK, s.inject x)
      | none => (stADDR, s.busErr m nd off true)
    else (stADDR, s.busErr m nd off true)
  | some r => if s.domGate off ≠ 0 then (stADDR, s.busErr m nd off true) else s.regPut blk m nd off r val

/-- A write of a register as the boot ROM applies or checks a REG record (R432): master ID 0x00. -/
def State.regRecord (s : State) (off : Nat) (val : Word) : Nat × State := s.regWith State.blkWrite ⟨0, 0⟩ 0 off 4 val

end Sys2Proof.Machine
end

