-- ==== Sys2Proof/Machine/Image.lean ====
section
/-! DEFINITION. The configuration image (R429 to R433) and the update package (R441, R442): what they hold and what their checks
find. -/

namespace Sys2Proof.Machine

/-- A little-endian number of `n` bytes at byte `i`. -/
def leAt (l : List Byte) (i n : Nat) : Nat := natLE (slice l i n)

/-- A section of an image (R430), with its plain data. -/
structure ImgSec where
  typ : Nat
  flags : Nat
  off : Nat
  target : Nat
  crc : Nat
  data : List Byte
deriving DecidableEq, Repr

/-- The section entries of an image, each with the bytes stored at its place. -/
def imgSecs (img : List Byte) : List ImgSec :=
  (List.range (leAt img 6 2)).map (fun k =>
    let e := 128 + 32 * k
    let off := leAt img (e + 4) 4
    ⟨leAt img e 1, leAt img (e + 1) 1, off, leAt img (e + 12) 4, leAt img (e + 16) 4, slice img off (leAt img (e + 8) 4)⟩)

/-- The sections in offset order. -/
def byOffset (l : List ImgSec) : List ImgSec := l.mergeSort (fun a b => decide (a.off ≤ b.off))

/-- The AES key that a key entry of a KIND holds (R465). -/
def State.aesKey (s : State) (id kind : Nat) : Option (List Byte) := (s.keyOf id kind).bind (fun e => Config.unwrap e.eph e.wrap)

/-- The plain data of the sections of an encrypted image (R429): none when its tag fails. -/
def State.openImage (s : State) (img : List Byte) (secs : List ImgSec) : Option (List ImgSec) :=
  (s.aesKey (leAt img 60 4) kIMAGEENC).bind (fun key =>
    let order := byOffset secs
    (Config.gcmOpen key (slice img 32 12) (slice img 0 32 ++ slice img 128 (32 * secs.length)) (order.flatMap (·.data)) (slice img 44 16)).map
      (fun plain => secs.map (fun e =>
        let before := ((order.filter (fun x => decide (x.off < e.off))).map (fun x => x.data.length)).sum
        { e with data := slice plain before e.data.length })))

/-- Whether a section lies outside its place (R429, R430): over the header, the table, the signature or another section. -/
def secOverlaps (total n : Nat) (secs : List ImgSec) (k : Nat) (e : ImgSec) : Bool :=
  decide (e.off < 128 + 32 * n) || decide (total - 96 < e.off + e.data.length) ||
    (List.range n).any (fun j => j != k && match secs[j]? with
      | some x => decide (e.off < x.off + x.data.length ∧ x.off < e.off + e.data.length)
      | none => false)

/-- Whether a section fails the checks of step 5 of R433: its CRC, an overlap, or an unknown TYPE without OPTIONAL. -/
def secBad (total n : Nat) (secs : List ImgSec) (k : Nat) (e : ImgSec) : Bool :=
  secOverlaps total n secs k e || decide (crc32c e.data ≠ e.crc) || (decide (e.typ = 0 ∨ 6 < e.typ) && !e.flags.testBit 7)

/-- What the checks of R433 find: a cause of R435 (0 for none), the failing section, and the sections in plain. -/
def State.checkImage (s : State) (img : List Byte) : Nat × Nat × List ImgSec :=
  let n := leAt img 6 2
  let total := leAt img 20 4
  let nd := leAt img 30 2
  let enc := (leAt img 29 1).testBit 0
  let id := leAt img 60 4
  let raw := imgSecs img
  if leAt img 0 4 ≠ 0x59314346 then (2, 0, [])
  else if leAt img 4 2 ≠ 1 ∨ leAt img 24 2 ≠ 0x0884 ∨ 0x21 < leAt img 26 1 then (4, 0, [])
  else if 33554432 < total ∨ total < 224 + 32 * n ∨ n = 0 ∨ 64 < n ∨ nd = 0 ∨ 0xFEFF < nd ∨
      raw.any (fun e => decide (e.off % 256 ≠ 0 ∨ total < e.off)) then (3, 0, [])
  else
    match s.keyOf id kIMAGESIG with
    | none => (5, 0, [])
    | some k =>
      if !s.owned ∨ s.flag SEC_STAT.ERR ∨ (enc ∧ (s.keyOf id kIMAGEENC).isNone) ∨
          !Config.ecdsa k.pub (slice img 0 (total - 96)) (slice img (total - 96) 96) then (5, 0, [])
      else if leAt img 16 4 < s.g SEC_SVN_MIN.SVN then (6, 0, [])
      else
        match (if enc then s.openImage img raw else some raw) with
        | none => (7, 0, [])
        | some secs =>
          match (List.range n).find? (fun i => (secs[i]?).any (secBad total n secs i)) with
          | some i => (8, i, [])
          | none => (0, 0, secs)

/-- The words of a section's data. -/
def secWords (l : List Byte) : List Nat := (List.range (l.length / 4)).map (fun k => leAt l (4 * k) 4)

/-- The pairs of a list. -/
def pairUp : List Nat → List (Nat × Nat)
  | a :: b :: r => (a, b) :: pairUp r
  | _ => []

/-- The REG records of an image in image order (R431): register offset and value. With `por` false, POR_ONLY sections are left
out (R430). -/
def imgRecords (secs : List ImgSec) (por : Bool) : List (Nat × Word) :=
  (secs.filter (fun e => e.typ == 1 && (por || !e.flags.testBit 0))).flatMap (fun e =>
    (pairUp (secWords e.data)).map (fun r => (r.1, BitVec.ofNat 32 r.2)))

/-- The banks that the FW sections of an image touch (R431). -/
def imgBanks (secs : List ImgSec) : Nat :=
  ((List.range 8).map (fun b =>
    if secs.any (fun e => e.typ == 2 && decide (0 < e.data.length ∧ e.target < (b + 1) * 65536 ∧ b * 65536 < e.target + e.data.length))
    then 2 ^ b else 0)).sum

/-- The sections of one type stored into a unit's banks. -/
def State.loadSecs (s : State) (u typ : Nat) (secs : List ImgSec) : State :=
  (secs.filter (fun e => e.typ == typ)).foldl (fun s e => s.bankStore u e.target e.data) s

/-- Whether the form of a REG record is wrong (R27, R431): its offset names no register, or FH_BANKS. -/
def recordBad (r : Nat × Word) : Bool := decide (r.1 % 4 ≠ 0) || (regRow r.1).isNone || decide (r.1 = FH_BANKS.off)

/-- Records checked against the refusal rules of their blocks, in order (R432, R451): the place of the first that is refused. -/
def State.recordsFail (s : State) (i : Nat) : List (Nat × Word) → Option Nat
  | [] => none
  | r :: l =>
    if recordBad r then some i
    else
      let (st, t) := s.regRecord r.1 r.2
      if st = stOK then t.recordsFail (i + 1) l else some i

/-- Records applied in order by the boot sequencer. -/
def State.applyRecords (s : State) (l : List (Nat × Word)) : State := l.foldl (fun s r => (s.regRecord r.1 r.2).2) s

/-! ### Packages -/

/-- CHUNKS and CONTENT of a package header (R441). -/
def pkgChunks (h : List Byte) : Nat := leAt h 16 4
def pkgContent (h : List Byte) : Nat := leAt h 20 4

/-- The size of the relay area in bytes (R428). -/
def State.relayArea (s : State) : Nat := s.g CFG_NOR.SIZE * 4194304 - 67108864

/-- The first cause of R449 that refuses a package header; 0 for none. -/
def State.pkgCheck (s : State) (h : List Byte) : Nat :=
  let id := leAt h 28 4
  let sig := s.keyOf id kPKGSIG
  let st := s.ust
  if leAt h 0 4 ≠ 0x5931524E ∨ sig.any (fun k => !Config.ecdsa k.pub (slice h 0 160) (slice h 160 96)) then 1
  else if leAt h 24 2 ≠ 0x0884 ∨ 0x21 < leAt h 26 1 then 2
  else if leAt h 12 4 < s.g SEC_SVN_MIN.SVN then 3
  else if s.relayArea < (pkgChunks h + 1) * 8256 then 4
  else if s.upd.hdr.any (fun o => !after32 (leAt h 8 4) (leAt o 8 4)) then 5
  else if st = usStaging ∨ st = usHandover ∨ st = usTrial then 6
  else if sig.isNone ∨ (s.keyOf id kPKGENC).isNone then 7
  else 0

/-- The plain content of a chunk (R442): none when its tag fails. PRESUMED: INDEX is XORed into the IV's last 4 bytes most
significant byte first. -/
def State.openChunk (s : State) (h : List Byte) (idx : Nat) (d : List Byte) : Option (List Byte) :=
  let len := if idx = pkgChunks h then pkgContent h - 8192 * (idx - 1) else 8192
  let iv := slice h 32 8 ++ bytesBE 4 (natBE (slice h 40 4) ^^^ idx)
  if d.length ≠ len + 16 then none
  else (s.aesKey (leAt h 28 4) kPKGENC).bind (fun key =>
    Config.gcmOpen key iv (bytesBE 4 (leAt h 4 4) ++ bytesBE 4 idx) (d.take len) (d.drop len))

/-- A chunk held, if it is. -/
def State.chunk (s : State) (i : Nat) : Option (Nat × List Byte) := SMap.get (fun _ => none) s.upd.chunks i

/-- Highest index up to which every chunk is held, counted on from `i`. -/
def State.haveFrom (s : State) (i : Nat) : Nat → Nat
  | 0 => i
  | fuel + 1 => if (s.chunk (i + 1)).isSome then s.haveFrom (i + 1) fuel else i

/-- The content of the package held. -/
def State.pkgPlain (s : State) (h : List Byte) : List Byte :=
  (List.range (pkgChunks h)).flatMap (fun k =>
    match s.chunk (k + 1) with
    | some c => (s.openChunk h (k + 1) c.2).getD []
    | none => [])

/-- The directory entry of a node (R442): MAN_OFF, MAN_LEN and TOTAL. -/
def pkgEntry (c : List Byte) (nd : Nat) : Option (Nat × Nat × Nat) :=
  ((List.range (leAt c 0 4)).find? (fun k => leAt c (16 + 16 * k) 2 == nd)).map (fun k =>
    (leAt c (20 + 16 * k) 4, leAt c (24 + 16 * k) 4, leAt c (28 + 16 * k) 4))

/-- An image built from the content under a manifest (R442). -/
def pkgImage (c : List Byte) (e : Nat × Nat × Nat) : List Byte :=
  (List.range (e.2.1 / 12)).foldl (fun img k =>
    let p := e.1 + 12 * k
    putBytes img (leAt c (p + 8) 4) (slice c (leAt c p 4) (leAt c (p + 4) 4))) (List.replicate e.2.2 0)

end Sys2Proof.Machine
end

