-- ==== Sys2Proof/Machine/Update.lean ====
section
/-! DEFINITION. The Runnel relay, staging and the update handover (R443 to R459). -/

namespace Sys2Proof.Machine

/-- A refused UPD write. -/
def State.updRefuse (s : State) : Nat × State := (stCFG, s.cfgErr UPD_CFGERR_CNT.off (evCfg 1))

/-! ### The relay (R443 to R446) -/

/-- A neighbour in the relay. -/
def State.peer (s : State) (p : Nat) : RunPeer := SMap.get RunPeer.dflt s.upd.peers p

/-- A neighbour's relay record replaced. -/
def State.setPeer (s : State) (p : Nat) (v : RunPeer) : State := s.upm (fun u => { u with peers := SMap.set RunPeer.dflt u.peers p v })

/-- Whether the engine takes part in relays: CASCADE and GROTTO on, EN set. -/
def State.runnelOn (s : State) : Bool := s.flag UPD_CFG.EN && s.domOn (domainOf UPD_CFG.off) && s.domOn (domainOf 0x100000)

/-- PKG_ID of the package held. -/
def State.pkgId (s : State) : Nat := s.g UPD_PKG_ID.ID

/-- The relay header of R444. -/
def relayHead (kind code id idx have_ : Nat) : List Byte :=
  bytesBE 1 kind ++ bytesBE 1 code ++ bytesBE 2 0 ++ bytesBE 4 id ++ bytesBE 4 idx ++ bytesBE 4 have_

/-- A RUNNEL frame offered for a ring port (R443, R444). -/
def State.runnelSend (s : State) (p kind code id idx : Nat) (body : List Byte) : State :=
  s.offerPort p tyRunnel 1 0 (relayHead kind code id idx (s.g UPD_PROG.HAVE) ++ body)

/-- The package offered on a port in UP, once (R445). -/
def State.runnelOffer (s : State) (p : Nat) : State :=
  match s.upd.hdr with
  | some h =>
    if s.runnelOn ∧ s.pst p = psUp ∧ !(s.peer p).offered then
      (s.setPeer p { s.peer p with offered := true }).runnelSend p 1 0 s.pkgId 0 h
    else s
  | none => s

/-- The first chunk that a port may send now (R445): above the neighbour's HAVE, not yet sent, and arrived in an earlier cycle. -/
def State.nextChunk (s : State) (p : Nat) : Option (Nat × List Byte) :=
  let q := s.peer p
  (s.upd.chunks.find? (fun e => decide (q.have_ < e.1) && !q.sent.any (fun x => x.1 == e.1) &&
    e.2.any (fun c => c.1 != s.cyc.num))).bind (fun e => e.2.map (fun c => (e.1, c.2)))

/-- Chunks sent on a port, at most `n` of them. -/
def State.sendChunks (s : State) (p : Nat) : Nat → State
  | 0 => s
  | n + 1 =>
    match s.nextChunk p with
    | some (i, d) =>
      let q := s.peer p
      ((s.setPeer p { q with inCycle := q.inCycle + 1, sent := q.sent ++ [(i, s.absNs)] }).runnelSend p 3 0 s.pkgId i d).sendChunks p n
    | none => s

/-- UPD_CFG.RATE in use. -/
def State.relayRate (s : State) : Nat := max 1 (s.g UPD_CFG.RATE)

/-- What a port may still send in this cycle sent to its neighbour (R443, R445). -/
def State.runnelPump (s : State) (p : Nat) : State :=
  if s.runnelOn ∧ s.pst p = psUp ∧ (s.peer p).accepted then s.sendChunks p (s.relayRate - (s.peer p).inCycle) else s

/-- The relay at the start of a cycle (R445): HAVE on each port while receiving, the package offered where a port has come UP, and
chunks; a port that is not UP forgets its neighbour. -/
def State.runnelCycle (s : State) : State :=
  s.ringPorts.foldl (fun s p =>
    if s.pst p ≠ psUp then s.setPeer p (RunPeer.dflt p)
    else if !s.runnelOn then s
    else
      let s := (s.setPeer p { s.peer p with inCycle := 0 }).runnelOffer p
      let s := if s.ust = usReceiving then s.runnelSend p 4 0 s.pkgId 0 [] else s
      s.runnelPump p) s

/-- A package header accepted (R445, R446): held, offered on every port in UP. -/
def State.pkgAccept (s : State) (h : List Byte) : State :=
  let s := s.upm (fun u => { u with hdr := some h, chunks := [], peers := [], building := false })
  let s := (s.p UPD_PKG_ID.ID (leAt h 4 4)).p UPD_PKG_SEQ.SEQ (leAt h 8 4)
  ((s.p UPD_PROG.CHUNKS (pkgChunks h)).p UPD_PROG.HAVE 0).setUst usReceiving

/-- A package header refused with a cause (R449). -/
def State.pkgRefuse (s : State) (c : Nat) : State :=
  ((s.p UPD_STAT.CAUSE c).count UPD_REFUSE_CNT.off).raise (evCfg 5) clEvent

/-- A chunk checked and held (R446), with the NOR program done in the same step; the last one is reported by a HAVE, so that no neighbour
sends it again (DEDUCED). -/
def State.chunkStore (s : State) (h : List Byte) (idx : Nat) (d : List Byte) : State :=
  if idx = 0 ∨ pkgChunks h < idx then s
  else if (s.openChunk h idx d).isNone then (s.count UPD_TAG_ERR.off).raise (evCfg 6) clEvent
  else if (s.chunk idx).isSome then s
  else
    let s := s.upm (fun u => { u with chunks := SMap.set (fun _ => none) u.chunks idx (some (s.cyc.num, d)) })
    let have_ := s.haveFrom (s.g UPD_PROG.HAVE) (pkgChunks h)
    let s := s.p UPD_PROG.HAVE have_
    if have_ = pkgChunks h ∧ s.ust = usReceiving then
      let s := s.setUst usComplete
      s.ringPorts.foldl (fun s p => if s.pst p = psUp ∧ s.runnelOn then s.runnelSend p 4 0 s.pkgId 0 [] else s) s
    else s

/-- Whether a relay frame at a port is taken. -/
def State.relayTakes (s : State) (p : Nat) (f : Frame) (kind : Nat) : Bool :=
  s.runnelOn && s.pst p == psUp && f.typ == tyRunnel && beAt f.payload 0 1 == kind

/-- RUNNEL_OFFER_RECEIVE (R445, R449). -/
def runnelOfferReceive (p : Fin 4) (f : Frame) (s : State) : State :=
  let h := slice f.payload 16 256
  let id := leAt h 4 4
  if !s.relayTakes p.val f 1 then s
  else if s.upd.hdr.isSome ∧ id = s.pkgId then s.runnelSend p.val 2 0 id 0 []
  else
    let c := s.pkgCheck h
    if c ≠ 0 then (s.pkgRefuse c).runnelSend p.val 2 c id 0 []
    else
      let s := (s.pkgAccept h).runnelSend p.val 2 0 id 0 []
      s.ringPorts.foldl (fun s q => s.runnelOffer q) s

/-- RUNNEL_ANSWER_RECEIVE (R445): a neighbour that accepts is sent chunks. -/
def runnelAnswerReceive (p : Fin 4) (f : Frame) (s : State) : State :=
  if !s.relayTakes p.val f 2 ∨ s.upd.hdr.isNone ∨ beAt f.payload 4 4 ≠ s.pkgId then s
  else if beAt f.payload 1 1 = 0 then
    (s.setPeer p.val { s.peer p.val with accepted := true, have_ := beAt f.payload 12 4 }).runnelPump p.val
  else s.setPeer p.val { s.peer p.val with accepted := false }

/-- RUNNEL_CHUNK_RECEIVE (R446). -/
def runnelChunkReceive (p : Fin 4) (f : Frame) (s : State) : State :=
  match s.upd.hdr with
  | some h =>
    if !s.relayTakes p.val f 3 ∨ beAt f.payload 4 4 ≠ s.pkgId then s else s.chunkStore h (beAt f.payload 8 4) (f.payload.drop 16)
  | none => s

/-- RUNNEL_HAVE_RECEIVE (R445): the neighbour confirms what it holds; one that reports on our package has accepted it (R457). -/
def runnelHaveReceive (p : Fin 4) (f : Frame) (s : State) : State :=
  if !s.relayTakes p.val f 4 ∨ s.upd.hdr.isNone ∨ beAt f.payload 4 4 ≠ s.pkgId then s
  else
    let v := beAt f.payload 12 4
    let q := s.peer p.val
    (s.setPeer p.val { q with accepted := true, have_ := v, sent := q.sent.filter (fun e => decide (v < e.1)) }).runnelPump p.val

/-- RUNNEL_CHUNK_RESEND (R445): a chunk sent and unconfirmed for 1 s is sent again and counted. -/
def runnelChunkResend (p : Fin 4) (s : State) : State :=
  let q := s.peer p.val
  match q.sent.find? (fun e => decide (q.have_ < e.1 ∧ e.2 + 1000000000 ≤ s.absNs)) with
  | some e =>
    match s.chunk e.1 with
    | some c =>
      if !s.runnelOn ∨ s.pst p.val ≠ psUp ∨ s.relayRate ≤ q.inCycle then s
      else
        let sent := q.sent.map (fun (x : Nat × Int) => if x.1 = e.1 then (x.1, s.absNs) else x)
        ((s.setPeer p.val { q with inCycle := q.inCycle + 1, sent := sent }).count UPD_RESEND_CNT.off).runnelSend p.val 3 0 s.pkgId e.1 c.2
    | none => s
  | none => s

/-- A write of UPD_INJ_CTRL (R448): the buffer goes through R449 or R446 at once. -/
def State.injWrite (s : State) (new : Word) : Nat × State :=
  let s := s.wr UPD_INJ_CTRL.off new
  let idx := UPD_INJ_CTRL.INDEX.get new
  let len := UPD_INJ_CTRL.LEN.get new
  let buf := ((List.range 2064).flatMap (fun k => bytesLE 4 (s.rd (UPD_INJ_BUF.off k)).toNat)).take len
  if idx = 0 then
    if s.upd.hdr.isSome ∧ leAt buf 4 4 = s.pkgId then (stOK, s)
    else
      let c := s.pkgCheck (slice buf 0 256)
      if c ≠ 0 then (stOK, s.pkgRefuse c)
      else
        let s := s.pkgAccept (slice buf 0 256)
        (stOK, s.ringPorts.foldl (fun s q => s.runnelOffer q) s)
  else
    match s.upd.hdr with
    | some h => (stOK, s.chunkStore h idx buf)
    | none => (stOK, s)

/-! ### Building (R447, R448) -/

/-- The slot that is not the boot slot. -/
def State.spareSlot (s : State) : Nat := 1 - s.g UPD_STAT.BOOT

/-- A slot of the NOR as last read or built. -/
def State.slot (s : State) (k : Nat) : List Byte := SMap.get (fun _ => []) s.boot.slots k

/-- A slot's bytes replaced. -/
def State.setSlot (s : State) (k : Nat) (img : List Byte) : State :=
  { s with boot := { s.boot with slots := SMap.set (fun _ => []) s.boot.slots k img } }

/-- UPDATE_BUILD_DONE (R447): at COMPLETE the node looks itself up in the directory; absent, the package is not its own, else the
spare slot is erased and the build begins. -/
def updateBuildDone (s : State) : State :=
  match s.upd.hdr with
  | some h =>
    if s.ust ≠ usComplete ∨ s.upd.building then s
    else
      match pkgEntry (s.pkgPlain h) s.node with
      | none => s.setUst usNotMine
      | some _ => (s.setSlot s.spareSlot []).upm (fun u => { u with building := true })
  | none => s

/-! ### Staging (R450, R454, R455) -/

/-- Staging begins: the standby goes on in LOAD, except for a revert, whose firmware already stands there. -/
def State.stageBegin (s : State) (revert confirm : Bool) : State :=
  let s := s.upm (fun u => { u with revert := revert, confirm := confirm, loading := none })
  if revert then s.setUst usStaging
  else
    let u := s.standby
    (((s.setUnit u fhLoad).upm (fun x => { x with loading := some u })).setUst usStaging).powerEval

/-- UPD_CMD STAGE (R450). -/
def State.updStage (s : State) : Nat × State :=
  if s.ust ≠ usBuilt ∨ s.unit s.standby ≠ fhStandby then s.updRefuse else (stOK, s.stageBegin false false)

/-- The end of staging for the unit that was loaded: back to retention in STANDBY. -/
def State.stageUnit (s : State) : State :=
  match s.upd.loading with
  | some u => ((s.setUnit u fhStandby).upm (fun x => { x with loading := none })).powerEval
  | none => s

/-- Staging failed: BUILT, with BCAUSE or CAUSE telling why; the standby is loaded from the booted slot again. -/
def State.stageFail (s : State) (u : Nat) : State :=
  let (c, _, secs) := s.checkImage (s.slot (s.g UPD_STAT.BOOT))
  let s := if c = 0 then s.loadSecs u 2 secs else s
  ((s.upm (fun x => { x with revert := false })).stageUnit).setUst usBuilt

/-- STAGING_DONE (R450): the slot checked, its FW sections in the standby's program banks, its records staged but for those of POR_ONLY
sections, which only POWER-ON start-ups apply (R430). After a CONFIRM the
booted slot's FW sections are loaded, and the state becomes IDLE (R454). -/
def stagingDone (s : State) : State :=
  if s.ust ≠ usStaging ∨ s.upd.loading.any (fun u => !s.domOn (u + 1)) then s
  else
    let u := s.upd.loading.getD s.standby
    let (c, _, secs) := s.checkImage (s.slot (if s.upd.confirm then s.g UPD_STAT.BOOT else s.spareSlot))
    if s.upd.confirm then ((if c = 0 then s.loadSecs u 2 secs else s).stageUnit).setUst usIdle
    else if c ≠ 0 then (s.p UPD_STAT.BCAUSE c).stageFail u
    else if imgBanks secs ≠ s.g FH_BANKS.PROG then (s.p UPD_STAT.CAUSE 10).stageFail u
    else if (imgRecords secs true).any recordBad then (s.p UPD_STAT.BCAUSE 9).stageFail u
    else
      let s := if s.upd.revert then s else s.loadSecs u 2 secs
      ((s.upm (fun x => { x with records := imgRecords secs false })).stageUnit).setUst usStaged

/-- IMAGE_BUILD_COMPLETE (R447, R448, R450): the image stands in the spare slot; then AUTO_STAGE, or in FAILSAFE an internal SYSTEM
reset that boots it. -/
def imageBuildComplete (s : State) : State :=
  match s.upd.hdr with
  | some h =>
    if !s.upd.building then s
    else
      let c := s.pkgPlain h
      match pkgEntry c s.node with
      | none => s
      | some e =>
        let slot := s.spareSlot
        let s := ((s.setSlot slot (pkgImage c e)).upm (fun u => { u with building := false })).setUst usBuilt
        if s.failsafe then
          ((s.p UPD_STAT.OLD (s.g UPD_STAT.BOOT)).p UPD_STAT.BOOT slot).askReset ⟨1, 5, 0⟩
        else if s.flag UPD_CFG.AUTO_STAGE ∧ s.unit s.standby = fhStandby then s.stageBegin false false
        else s
  | none => s

/-! ### Handover (R451, R452) -/

/-- HANDOVER_AT_BOUNDARY (R451 steps 2 and 3, R452): at C the old unit halts and the handover checkpoint is taken; a copy that runs
moves C to the next boundary. -/
def handoverAtBoundary (s : State) : State :=
  match s.upd.cDue with
  | some c =>
    if s.upd.rec_ ≠ 1 ∨ s.upd.cAt.isSome ∨ s.fns < c ∨ s.fh.trig.isSome then s
    else if s.fh.copy.isSome then s.upm (fun u => { u with cDue := some (c + (s.periodNs : Int)) })
    else ((s.halt s.upd.old).upm (fun u => { u with cDue := none, cAt := some c })).ckptBegin
  | none => s

/-- A master that is the supervisor of the new unit of a handover. -/
def State.newSup (s : State) (m : Master) : Bool := supUnit m.mid.val == some (1 - s.upd.old)

/-- UPD_CMD COMMIT (R451 steps 5 and 6): the staged records checked; COMMITTED, or an abort with cause 11. -/
def State.updCommit (s : State) (m : Master) : Nat × State :=
  if s.upd.rec_ ≠ 1 ∨ s.upd.cAt.isNone ∨ s.upd.applying ∨ s.fh.trig.isSome ∨ !s.newSup m then s.updRefuse
  else if (s.recordsFail 0 s.upd.records).isSome then (stOK, s.hoAbort 11)
  else (stOK, s.upm (fun u => { u with rec_ := 2, applying := true }))

/-- The binding that the image of an IMAGE_ID gives a WINDOW point (R80). -/
def imgBind (id : Word) (p : Nat) : WinBind :=
  let b := Config.winBind id p
  ⟨b.1, b.2.1, b.2.2.1, b.2.2.2⟩

/-- The bindings of the WINDOW points that the attribute table defines, as an image brings them (R80). -/
def State.loadBinds (s : State) (id : Word) : State :=
  let l := s.pts.recs.filterMap (fun e => if e.2.typ = tyWindow then some (e.1, some (imgBind id e.1)) else none)
  { s with pts := { s.pts with binds := l, refAt := [] } }

/-- The booted image's identity in the CFG registers, as a start-up or a commit sets it (R429, R440). -/
def State.imageRegs (s : State) (img : List Byte) : State :=
  let s := ((s.p CFG_IMAGE_ID.ID (leAt img 8 4)).p CFG_IMAGE_SEQ.SEQ (leAt img 12 4)).p CFG_BOOT.FORMAT (leAt img 4 2)
  ({ s with boot := { s.boot with svn := leAt img 16 4 } }).loadBinds (BitVec.ofNat 32 (leAt img 8 4))

/-- The units change over at the end of a commit (R451 step 6): the new unit is ACTIVE, the old one in STANDBY unless it failed. -/
def State.swapUnits (s : State) : State :=
  let nw := 1 - s.upd.old
  let s := (s.p FH_STAT.ACTIVE nw).setUnit nw fhActive
  let s := if s.unit s.upd.old = fhFailed then s else (s.setUnit s.upd.old fhStandby).unhalt s.upd.old
  s.hm (fun h => { h with resumed := none, wdogAt := s.absNs, released := true })

/-- The boot slot and the state after a commit (R451 step 6, R455). -/
def State.commitSlots (s : State) : State :=
  let slot := s.spareSlot
  let s := ((s.p UPD_STAT.OLD (s.g UPD_STAT.BOOT)).p UPD_STAT.BOOT slot).imageRegs (s.slot slot)
  s.setUst (if s.upd.revert then usReverted else usTrial)

/-- HANDOVER_APPLIED (R451 step 6, R455, R458): the records are applied in image order, and the commit ends. -/
def handoverApplied (s : State) : State :=
  if !s.upd.applying then s
  else
    let s := ((s.applyRecords s.upd.records).upm (fun u => { u with applying := false })).pb UPD_STAT.APPLIED true
    if s.upd.reapply then s.upm (fun u => { u with reapply := false })
    else
      let s := match s.upd.cAt with
        | some c => s.p UPD_HO_STAT.GAP (min 65535 ((s.fns - c) / 1000).toNat)
        | none => s
      let late := s.upd.lateTrig
      let nw := 1 - s.upd.old
      let s := (s.swapUnits.commitSlots).upm (fun u => { u with rec_ := 0, cDue := none, cAt := none, lateTrig := false, revert := false })
      if late then s.failover nw else s.powerEval

/-- HANDOVER_DEADLINE (R452): COMMIT has not come within DEADLINE of C; at that very instant COMMIT is taken first (R458). -/
def handoverDeadline (s : State) : State :=
  match s.upd.cAt with
  | some c =>
    if s.upd.rec_ = 1 ∧ !s.upd.applying ∧ s.fh.trig.isNone ∧ c + 1000000 * (max 1 (s.g UPD_HO_CFG.DEADLINE) : Nat) < s.fns then
      s.hoAbort 12
    else s
  | none => s

/-! ### UPD_CMD (R454, R455, R459) -/

/-- UPD_CMD CONFIRM (R454, R466). -/
def State.updConfirm (s : State) : Nat × State :=
  if s.ust ≠ usTrial then s.updRefuse
  else
    let s := if s.flag SEC_CFG.SVN_AUTO then s.p SEC_SVN_MIN.SVN (max (s.g SEC_SVN_MIN.SVN) s.boot.svn) else s
    (stOK, if s.unit s.standby = fhStandby then s.stageBegin false true else s.setUst usIdle)

/-- UPD_CMD REVERT (R455). -/
def State.updRevert (s : State) : Nat × State :=
  if s.ust ≠ usTrial ∨ s.unit s.standby ≠ fhStandby then s.updRefuse else (stOK, s.stageBegin true false)

/-- UPD_CMD DISCARD (R459): the package held leaves. -/
def State.updDiscard (s : State) : Nat × State :=
  let st := s.ust
  if st = usStaging ∨ st = usHandover ∨ st = usTrial then s.updRefuse
  else
    let s := s.upm (fun u => { u with hdr := none, chunks := [], peers := [], building := false, records := [] })
    (stOK, (((s.wr UPD_PKG_ID.off 0).wr UPD_PKG_SEQ.off 0).wr UPD_PROG.off 0).setUst usIdle)

/-- UPD_CMD REAPPLY (R455): the booted slot's records checked and applied without a swap. -/
def State.updReapply (s : State) : Nat × State :=
  if s.ust ≠ usReverted ∨ s.upd.applying then s.updRefuse
  else
    let (c, _, secs) := s.checkImage (s.slot (s.g UPD_STAT.BOOT))
    let recs := imgRecords secs false
    if c ≠ 0 ∨ (s.recordsFail 0 recs).isSome then
      (stOK, ((s.p UPD_STAT.CAUSE 11).count UPD_ABORT_CNT.off).raise (evCfg 4) clNote)
    else (stOK, (s.pb UPD_STAT.APPLIED false).upm (fun u => { u with records := recs, applying := true, reapply := true }))

/-- A write of UPD_CMD. -/
def State.updCmdWrite (s : State) (m : Master) (eff : Word) : Nat × State :=
  match UPD_CMD.OP.get eff with
  | 1 => s.updStage
  | 2 => s.updCommit m
  | 3 => s.updConfirm
  | 4 => s.updRevert
  | 5 => s.updDiscard
  | 6 => s.updReapply
  | _ => (stOK, s)

/-! ### FH_CMD with the update's part, and CFG_RESET (R302, R440) -/

/-- FH_CMD RELEASE (R302, R308): when it ends a fail-over from a prepared handover, it commits as COMMIT does; records that fail their
check end the update with cause 11 instead. -/
def State.fhReleaseCmd (s : State) (m : Master) : State :=
  let t := s.fhRelease m
  if !s.upd.applying ∧ t.upd.applying then
    if (t.recordsFail 0 t.upd.records).isSome then
      let t := t.upm (fun u => { u with rec_ := 0, cDue := none, cAt := none, applying := false })
      (((t.p UPD_STAT.CAUSE 11).setUst usStaged).count UPD_ABORT_CNT.off).raise (evCfg 4) clNote
    else t.upm (fun u => { u with rec_ := 2 })
  else t

/-- A write of CFG_RESET (R423, R440). -/
def State.cfgResetWrite (s : State) (m : Master) (eff : Word) : Nat × State :=
  if CFG_RESET.KEY.get eff ≠ 0xA5 then (stOK, s)
  else
    match CFG_RESET.OP.get eff with
    | 1 => (stOK, s.askReset ⟨2, 2, m.mid.val⟩)
    | 2 => (stOK, s.askReset ⟨1, 2, m.mid.val⟩)
    | _ => (stOK, s)

/-- The effect of a write on its block, the update machinery included (R37). -/
def State.blkTop (s : State) (r : RegWr) : Nat × State :=
  if r.off = UPD_CMD.off then s.updCmdWrite r.m r.eff
  else if r.off = UPD_INJ_CTRL.off then s.injWrite r.new
  else if r.off = CFG_RESET.off then s.cfgResetWrite r.m r.eff
  else if r.off = FH_CMD.off ∧ FH_CMD.OP.get r.eff = 1 then (stOK, s.fhReleaseCmd r.m)
  else s.blkWrite r

/-- Whether an access waits for the records of a commit to be applied (R451 step 6): one of another master to a block that they
address. -/
def State.waitsCommit (s : State) (m : Master) (off : Nat) : Bool :=
  s.upd.applying && m.mid.val != 0 && s.upd.records.any (fun r => mapBit r.1 == mapBit off)

/-- Whether a held access is a write of the master in space 0x01. -/
def Held.isRegWrite (h : Held) (m : Master) : Bool :=
  h.space == 1 && ofMaster m h.m.mid.val h.m.node.toNat && (match h.op with | .write _ => true | _ => false)

/-- The register that R39 compares: the offset of the lowest word of its multi-word value, if it is of one. -/
def regBase (off : Nat) : Nat := ((mwGroup off).map (·.1)).getD off

/-- Whether a write of the master that is held reaches one of the registers of an access (R39). -/
def State.heldSame (s : State) (m : Master) (off len : Nat) : Bool :=
  s.held.any (fun h => h.isRegWrite m && (match h.op with
    | .write d => (List.range (d.length / 4)).any (fun i => (List.range ((len + 3) / 4)).any (fun j =>
        regBase (h.off + 4 * i) == regBase (off + 4 * j)))
    | _ => false))

/-- Whether a write of PNT_ATTR_DATA must wait for an access inside the point engine on the point that the writer selected (R86). -/
def State.attrWaits (s : State) (m : Master) (off : Nat) : Bool :=
  off == PNT_ATTR_DATA.off &&
    (let i := (s.entryOf m.mid.val off).getD 0
     s.pts.waits.any (fun w => decide (w.first ≤ i ∧ i < w.first + w.verdict.length)))

/-- Whether a write in space 0x01 waits for what came before it: an earlier write of the same master that is held (R38), or, for
PNT_ATTR_DATA, an access inside the point engine (R86). -/
def State.writeWaits (s : State) (m : Master) (off : Nat) : Bool := s.held.any (·.isRegWrite m) || s.attrWaits m off

/-- Whether a register write is held (R10, R38, R86, R451). -/
def State.regWaits (s : State) (m : Master) (off width : Nat) : Bool :=
  s.regHeld m off width || ((s.reg m off width).isSome && (s.waitsCommit m off || s.writeWaits m off))

/-- A write of a register (R27, R29, R37): status and state. -/
def State.regWrite (s : State) (m : Master) (nd off width : Nat) (val : Word) : Nat × State :=
  s.regWith State.blkTop m nd off width val

end Sys2Proof.Machine
end

