-- ==== Sys2Proof/Machine/Access.lean ====
section
/-! DEFINITION. Accesses by fabric address (R47 to R51): what this node serves in each space, and what goes to another node as a work
item or a remote read (R48, R522). -/

namespace Sys2Proof.Machine

/-- What an access comes to: ended with a status and data; taken, its end to be reported later; or waiting, nothing done. -/
inductive Served where
  | done (status : Nat) (data : List Byte)
  | taken
  | wait
deriving DecidableEq, Repr

/-! ### The end of an access on its path -/

/-- An access with an outcome of its own on this node reports it on its path (R193, R247, R375). -/
def State.pathDone (s : State) (p : Path) (st : Nat) : State :=
  match p with
  | .store m => s.answer m st []
  | .posted pw =>
    let s := if st = stOK then s else s.pwfEnter sgRefused st pw (s.pwAddr pw) 0
    (s.pwDrained pw).pwResolved pw
  | .usb u =>
    let s := if st = stOK then s else s.notice sgRefused st u 0 (s.usbAddr u)
    (s.usbDrained u).usbResolved u
  | _ => s

/-! ### Downstream windows (R77 to R79, R250) -/

/-- Whether an object address has the encoding of a window's KIND (R78). -/
def objOk (kind obj : Nat) : Bool :=
  let t := bitsOf obj 24 8
  if kind = 1 then bitsOf obj 0 8 == 0
  else if kind = 2 then (t == 0 || t == 1 || t == 3 || t == 4) && bitsOf obj 16 8 == 0
  else if kind = 3 then decide (1 ≤ t ∧ t ≤ 3)
  else false

/-- The status that refuses an access in space 0x04 (R77 to R79); 0 for none. -/
def State.winForm (s : State) (off len : Nat) : Nat :=
  let w := off / 2 ^ 32
  if !s.flag (PNT_WIN_CFG.VALID.at w) ∨ !objOk (s.g (PNT_WIN_CFG.KIND.at w)) (off % 2 ^ 32) then stADDR
  else if len = 0 ∨ 256 < len then stWIDTH
  else stOK

/-- TMO of a window in ns (R89): 0 acts as 1. -/
def State.winTmo (s : State) (w : Nat) : Int := 10000000 * (max 1 (s.g (PNT_WIN_CFG.TMO.at w)) : Nat)

/-- Whether a request comes from the ring side (R250). -/
def ringSide : WinFor → Bool
  | .rread _ _ _ => true
  | .item _ _ _ _ _ _ _ => true
  | _ => false

/-- A request put to a window: issued at once where the window is free, else waiting, the ring side before the local side (R250). -/
def State.winPost (s : State) (r : WinReq) : State :=
  let r := { r with due := s.absNs + s.winTmo r.window }
  let mine := s.pts.reqs.filter (fun q => q.window == r.window)
  let others := s.pts.reqs.filter (fun q => q.window != r.window)
  let now := match mine with
    | [] => [r]
    | h :: t =>
      if ringSide r.who then h :: (t.filter (fun q => ringSide q.who) ++ [r] ++ t.filter (fun q => !ringSide q.who)) else h :: (t ++ [r])
  { s with pts := { s.pts with reqs := others ++ now } }

/-- The request in flight at a window. -/
def State.winHead (s : State) (w : Nat) : Option WinReq := s.pts.reqs.find? (fun q => q.window == w)

/-- The request in flight at a window ended: the next one is issued. -/
def State.winNext (s : State) (w : Nat) : State :=
  let others := s.pts.reqs.filter (fun q => q.window != w)
  let mine := match (s.pts.reqs.filter (fun q => q.window == w)).drop 1 with
    | [] => []
    | h :: t => { h with due := s.absNs + s.winTmo w } :: t
  { s with pts := { s.pts with reqs := others ++ mine } }

/-! ### Gates -/

/-- Whether the domain of a space serves an access (R9, R10, R437): 0 served, 1 held, 2 refused. -/
def State.spaceGate (s : State) (m : Master) (space off : Nat) : Nat :=
  if space = 1 then (if s.waitsCommit m off then 1 else s.domGate off)
  else if s.failsafe then 2
  else
    let d := if space = 2 then 6 else if space = 3 then (if off / 2 ^ 32 < 4 then 8 else 0) else 7
    if s.domOn d then 0 else if s.dom d = dsToOn then 1 else 2

/-! ### Reads that this node serves -/

/-- 32-bit register reads in address order, stopping at a bus error (R239). -/
def State.regReads (s : State) (m : Master) (nd off : Nat) : Nat → Nat × List Byte × State
  | 0 => (stOK, [], s)
  | n + 1 =>
    let (st, w, s) := s.regRead m nd off 4
    if st ≠ stOK then (st, [], s)
    else
      let (st, l, s) := s.regReads m nd (off + 4) n
      (st, bytesLE 4 w.toNat ++ l, s)

/-- A read of a diagnostic or journal window (R198, R496): status and data. -/
def State.windowBytes (s : State) (off len : Nat) : Nat × List Byte :=
  let w := off / 2 ^ 32
  let o := off % 2 ^ 32
  if len < 4 ∨ 256 < len ∨ len % 4 ≠ 0 ∨ o % 4 ≠ 0 ∨ 256 < o % 256 + len then (stWIDTH, [])
  else
    match (s.flowWindow w o len).orElse (fun _ => s.sumpWindow w o len) with
    | some l => (stOK, l)
    | none => (stADDR, [])

/-- A read that this node serves: a read in space 0x04 is put to its window for `who`. -/
def State.localRead (s : State) (m : Master) (addr len : Nat) (who : WinFor) : Served × State :=
  let sp := adSpace addr
  let off := adOff addr
  let gate := s.spaceGate m sp off
  if 4 < sp then (.done stADDR [], s.accErr m 0 addr stADDR)
  else if gate = 1 ∨ (sp = 1 ∧ s.heldSame m off len) then (.wait, s)
  else if gate = 2 then (.done stADDR (if sp = 1 then List.replicate len 0 else []), s.accErr m 0 addr stADDR)
  else if sp = 0 then
    let (st, d, s) := s.pointRead m off len false
    if st = stOK then (.done st d, s) else (.done st [], s.ptRefuse m 0 addr st)
  else if sp = 1 then
    if len % 4 ≠ 0 ∨ len = 0 then (.done stADDR (List.replicate len 0), (s.regRead m (adNode addr) off len).2.2)
    else
      let (st, d, s) := s.regReads m (adNode addr) off (len / 4)
      (.done st (if st = stOK then d else List.replicate len 0), s)
  else if sp = 2 then
    let (st, d, s) := s.cstRead off len none 0
    if st = stOK ∨ st = stDATA then (.done st d, s) else (.done st [], s.cstRefuse m 0 off st)
  else if sp = 3 then
    let (st, d) := s.windowBytes off len
    if st ≠ stOK then (.done st d, s.accErr m 0 addr st)
    else if s.cls m = some 0 ∧ !s.remoteOpen FLOW_CTRL.off then (.done stOK (List.replicate len 0), s.firstError m 0 true addr)
    else (.done stOK d, s)
  else
    let st := s.winForm off len
    if st ≠ stOK then (.done st [], s.ptRefuse m 0 addr st)
    else (.taken, s.winPost ⟨off / 2 ^ 32, off % 2 ^ 32, len, false, [], who, 0⟩)

/-! ### Writes that this node serves -/

/-- 32-bit register writes in address order, stopping at a bus error (R239); the status is the first that is not OK. -/
def State.regWrites (s : State) (m : Master) (nd off : Nat) (data : List Byte) : Nat → Nat × State
  | 0 => (stOK, s)
  | n + 1 =>
    let (st, s) := s.regWrite m nd off 4 (BitVec.ofNat 32 (natLE (slice data 0 4)))
    if st = stADDR then (st, s)
    else
      let (st', s) := s.regWrites m nd (off + 4) (data.drop 4) n
      (if st = stOK then st' else st, s)

/-- A write of registers by a block of bytes. -/
def State.regBlock (s : State) (m : Master) (nd off : Nat) (data : List Byte) : Nat × State :=
  let len := data.length
  if len % 4 ≠ 0 ∨ len = 0 then s.regWrite m nd off len (BitVec.ofNat 32 (natLE (data.take 4)))
  else s.regWrites m nd off data (len / 4)

/-- A state write that ends: a refusal stands in LAST_ERR, its records having been counted (R51, R62). -/
def State.stateEnd (s : State) (m : Master) (i st : Nat) : State :=
  if st = stOK then s else (s.p PNT_STAT.LAST_ERR st).busFault m 1 (16 * i)

/-- A state write of points, judged as it enters the point engine (R88): performed at once where the tile is in the cache, else waiting
for it; one that comes while others wait for the tile waits behind them (R65, R85). -/
def State.stateWrite (s : State) (m : Master) (i n : Nat) (data : List Byte) (path : Path) : Served × State :=
  let v := s.localVerdict m i data n
  if s.pts.cache.contains (i / 16) ∧ !s.pts.waits.any (fun w => w.first / 16 == i / 16) then
    let (st, s) := (s.touchTile (i / 16)).localRecs i data v
    (.done st [], s.stateEnd m i st)
  else (.taken, { s with pts := { s.pts with waits := s.pts.waits ++ [⟨m, i, data, v, path⟩] } })

/-- The outlet entry of a point (R70, R89). DESIGN CHOICE: where several valid entries name the point, the lowest. -/
def State.outletOf (s : State) (i : Nat) : Option Nat :=
  (List.range 4096).find? (fun e => s.flag (PNT_OUT_CFG.VALID.at e) && s.g (PNT_OUT_CFG.POINT.at e) == i)

/-- The destination of an outlet entry. -/
def State.outletDst (s : State) (e : Nat) : Nat := s.g (PNT_OUT_DST_LO.ADDR.at e) + 2 ^ 32 * s.g (PNT_OUT_DST_HI.ADDR.at e)

/-- A work item submitted for an access (R193): refused with a status, or taken. -/
def State.submitAcc (s : State) (it : Item) : Served × State :=
  let (st, s) := s.submit it
  if st = stOK then (.taken, s) else (.done st [], s)

/-- A write of points by a local master that its form and rows allow (R62, R65, R70): state, or the work item that its row makes it. -/
def State.pointRows (s : State) (m : Master) (addr i n : Nat) (data : List Byte) (path : Path) : Served × State :=
  let here := addr % 2 ^ 48
  let mid := m.mid.val
  let refuse := fun (st : Nat) => (Served.done st [], s.ptRefuse m 1 addr st)
  match s.writeKind i n with
  | .inr st => refuse st
  | .inl row =>
    let defd := ((List.range n).map (· + i)).filter (fun j => (s.pt j).typ != tyUndef)
    let fin := fun (r : Served × State) => match r with
      | (.done st d, t) => (Served.done st d, t.ptRefuse m 1 addr st)
      | r => r
    if row = 0 then s.stateWrite m i n data path
    else if n = 1 ∧ row ≠ 3 ∧ !s.wrOk m i then refuse stOWNER
    else if row = 2 then
      match s.outletOf i with
      | none => refuse stCFG
      | some e =>
        if !encOk (s.pt i).typ (writeValue data 0) then refuse stTYPE
        else fin (s.submitAcc { newItem (s.g (PNT_OUT_CFG.FLOW.at e)) 1 (s.outletDst e) (data.take 8) mid path with outlet := some i })
    else fin (s.submitAcc (newItem (s.g (PNT_PROF_CFG.FLOW.at (s.profOf (defd.headD i)))) (if row = 3 then 7 else 1) here data mid path))

/-- A write of points by a local master (R50, R62). -/
def State.pointStore (s : State) (m : Master) (addr : Nat) (data : List Byte) (path : Path) : Served × State :=
  let off := adOff addr
  if 0x400000 < off + max 1 data.length then (.done stADDR [], s.ptRefuse m 1 addr stADDR)
  else
    match writeForm off data.length with
    | none => (.done stWIDTH [], s.ptRefuse m 1 addr stWIDTH)
    | some (i, n) => s.pointRows m addr i n data path

/-- The lowest valid flow whose destination is a node or a group (R162): what a store that names no flow takes. -/
def State.flowTo (s : State) (node : Nat) : Option Nat :=
  (List.range 1024).find? (fun f => s.flowValid f && s.flowNode f == node && s.flowGroup f == decide (0xFF00 ≤ node))

/-- The flow of a window write of this node (R79, R161): the route of a host or USB write to this node, else the lowest valid flow to this
node. -/
def State.winFlow (s : State) (path : Path) (addr : Nat) : Option Nat :=
  match path with
  | .posted pw => (s.pwFlow pw).orElse (fun _ => s.flowTo s.node)
  | .usb _ => (s.routeOf addr).orElse (fun _ => s.flowTo s.node)
  | _ => s.flowTo s.node

/-- A write that this node serves. A write in space 0x04 is a work item to this node (R79, R161). -/
def State.localWrite (s : State) (m : Master) (addr : Nat) (data : List Byte) (path : Path) : Served × State :=
  let sp := adSpace addr
  let off := adOff addr
  let gate := s.spaceGate m sp off
  if 4 < sp ∨ sp = 3 then (.done stADDR [], s.accErr m 1 addr stADDR)
  else if gate = 1 ∨ (sp = 1 ∧ s.writeWaits m off) then (.wait, s)
  else if gate = 2 then (.done stADDR [], s.accErr m 1 addr stADDR)
  else if sp = 0 then s.pointStore m addr data path
  else if sp = 1 then
    let (st, s) := s.regBlock m (adNode addr) off data
    (.done st [], s)
  else if sp = 2 then
    match s.cstWrite m off data with
    | none => (.wait, s)
    | some (st, s) => (.done st [], if st = stOK then s else s.cstRefuse m 1 off st)
  else
    let st := s.winForm off data.length
    if st ≠ stOK then (.done st [], s.ptRefuse m 1 addr st)
    else
      match s.winFlow path addr with
      | none => (.done stCFG [], s.ptRefuse m 1 addr stCFG)
      | some f =>
        match s.submitAcc (newItem f 7 (addr % 2 ^ 48) data m.mid.val path) with
        | (.done st d, t) => (.done st d, t.ptRefuse m 1 addr st)
        | r => r

/-- An atomic on a point of this node by a local master (R64, R65): status, old VALUE and state. -/
def State.localAtomic (s : State) (m : Master) (addr : Nat) (op : AtomicOp) (a b : BitVec 64) : Nat × BitVec 64 × State :=
  let off := adOff addr
  let i := off / 16
  let t := (s.pt i).typ
  if 0x400000 ≤ off then (stADDR, 0, s)
  else if off % 16 ≠ 0 then (stWIDTH, 0, s)
  else if t = tyUndef then (stADDR, 0, s)
  else (s.touchTile (i / 16)).atomicApply (s.wrOk m i) i op a b

/-! ### Other nodes (R48, R161, R522) -/

/-- OP of an atomic (R161). -/
def atomicOp : AtomicOp → Nat
  | .add => 2
  | .or => 3
  | .and => 4
  | .cas => 5

/-- The operands of an atomic as an item carries them. PRESUMED: eight bytes each, compare value first. -/
def atomicData (op : AtomicOp) (a b : BitVec 64) : List Byte :=
  bytesLE 8 a.toNat ++ (if op = .cas then bytesLE 8 b.toNat else [])

/-- The status that refuses a write or an atomic toward another node before its item is made (R48, R50, R61, R62). -/
def remoteForm (op sp off len : Nat) (grp : Bool) : Nat :=
  if 4 < sp ∨ sp = 3 ∨ (grp ∧ 1 < sp) then stADDR
  else if sp = 0 then
    if 0x400000 < off + max 1 len then stADDR
    else if op = 1 then (if (writeForm off len).isNone then stWIDTH else stOK)
    else if off % 16 ≠ 0 then stWIDTH else stOK
  else if op ≠ 1 then stADDR
  else if sp = 1 then (if off % 4 ≠ 0 ∨ len % 4 ≠ 0 ∨ len = 0 then stADDR else stOK)
  else if sp = 2 then
    match cstDecode off with
    | none => stADDR
    | some (_, _, port) => if cstForm port len then stOK else stWIDTH
  else if len = 0 ∨ 256 < len then stWIDTH else stOK

/-- A write, atomic or single-read toward another node or a group as a work item on a flow (R36, R48, R161). -/
def State.remoteItem (s : State) (mid op addr : Nat) (data : List Byte) (path : Path) (flow : Option Nat) : Served × State :=
  let sp := adSpace addr
  let st := remoteForm op sp (adOff addr) data.length (decide (0xFF00 ≤ adNode addr))
  if st ≠ stOK then (.done st [], s)
  else
    match flow with
    | none => (.done stCFG [], s)
    | some f => s.submitAcc (newItem f (if op = 1 ∧ sp = 4 then 7 else op) addr data mid path)

/-- An RREAD frame of a pending remote read sent (R522). -/
def State.sendRread (s : State) (r : RRead) : State :=
  let pl := bytesBE 8 r.addr ++ bytesBE 2 r.len ++ bytesBE 1 r.mid ++ List.replicate 5 0
  s.offerTo 8 s.ringPorts (s.mkFrame tyRread 5 r.node 0 r.tag false pl)

/-- A remote read given the next tag and sent. -/
def State.startRread (s : State) (r : RRead) : State :=
  let tag := s.flow.readTag
  let r := { r with
    tag := tag, first := s.absNs, ival := s.retryMs, due := s.absNs + 1000000 * (s.retryMs : Int) }
  (s.fm (fun x => { x with reads := x.reads ++ [r], readTag := (tag + 1) % 2 ^ 32 })).sendRread r

/-- REMOTE_READ_REQUEST (R522 step 1): a read carried to another node, waiting while 256 are pending; refused where its form or its NODE
forbids it (R48, R243). -/
def State.remoteRead (s : State) (mid addr len : Nat) (who : ReadFor) : Served × State :=
  let sp := adSpace addr
  let off := adOff addr
  let nd := adNode addr
  if 0xFF00 ≤ nd ∨ sp = 2 ∨ 4 < sp then (.done stADDR [], s)
  else if len = 0 ∨ 256 < len ∨ 256 < off % 256 + len then (.done stWIDTH [], s)
  else
    let r : RRead := ⟨0, nd, addr, len, mid, who, 0, 0, 0⟩
    if 256 ≤ s.flow.reads.length then (.taken, s.fm (fun x => { x with readWait := x.readWait ++ [r] }))
    else (.taken, s.startRread r)

/-- A pending remote read leaves; the next waiting one starts. -/
def State.endRread (s : State) (r : RRead) : State :=
  let s := s.fm (fun x => { x with reads := x.reads.filter (fun q => q.tag != r.tag) })
  match s.flow.readWait with
  | [] => s
  | q :: l => (s.fm (fun x => { x with readWait := l })).startRread q

/-! ### A local master's accesses -/

/-- A read by a local master, wherever it goes. -/
def State.masterRead (s : State) (m : Master) (addr len : Nat) : State :=
  let here := s.isHere addr
  let (r, s) := if here then s.localRead m addr len (.reader (.master m)) else s.remoteRead m.mid.val addr len (.master m)
  match r with
  | .done st d => (if !here ∧ st ≠ stOK then s.accErr m 0 addr st else s).answer m st d
  | .taken => s
  | .wait => { s with held := s.held ++ [⟨m, adSpace addr, addr % 2 ^ 40, .read len, none⟩] }

/-- A write by a local master, wherever it goes. -/
def State.masterWrite (s : State) (m : Master) (addr : Nat) (data : List Byte) : State :=
  let here := s.isHere addr
  let (r, s) := if here then s.localWrite m addr data (.store m)
    else s.remoteItem m.mid.val 1 addr data (.store m) (s.flowTo (adNode addr))
  match r with
  | .done st _ => (if !here ∧ st ≠ stOK then s.accErr m 1 addr st else s).answer m st []
  | .taken => s
  | .wait =>
    if adSpace addr = 2 ∧ s.spaceGate m 2 (adOff addr) = 0 then s.cstStore m (adOff addr) data
    else { s with held := s.held ++ [⟨m, adSpace addr, addr % 2 ^ 40, .write data, none⟩] }

/-- An atomic by a local master, wherever it goes. -/
def State.masterAtomic (s : State) (m : Master) (addr : Nat) (op : AtomicOp) (a b : BitVec 64) : State :=
  if s.isHere addr then
    let gate := s.spaceGate m 0 (adOff addr)
    if adSpace addr ≠ 0 ∨ gate = 2 then (s.accErr m 2 addr stADDR).answer m stADDR []
    else if gate = 1 then { s with held := s.held ++ [⟨m, 0, adOff addr, .atomic op a b, none⟩] }
    else
      let (st, old, s) := s.localAtomic m addr op a b
      if st = stOK then s.answer m st (bytesLE 8 old.toNat) else (s.ptRefuse m 2 addr st).answer m st []
  else
    match s.remoteItem m.mid.val (atomicOp op) addr (atomicData op a b) (.atomic m) (s.flowTo (adNode addr)) with
    | (.done st _, s) => (s.accErr m 2 addr st).answer m st []
    | (_, s) => s

/-! ### Tiles (R82 to R85) -/

/-- The waiting writes of a tile performed in order, each reported on its path (R85). -/
def State.tileWrites (s : State) (t : Nat) : State :=
  let l := s.pts.waits.filter (fun w => w.first / 16 == t)
  let s := { s with pts := { s.pts with waits := s.pts.waits.filter (fun w => w.first / 16 != t) } }
  l.foldl (fun s w =>
    let (st, s) := s.localRecs w.first w.data w.verdict
    (s.stateEnd w.m w.first st).pathDone w.path st) s

/-- TILE_CACHE_ENTRY (R82, R84, R85): a tile enters the cache; `bad1` and `bad2` tell whether the first and the second read mismatch. -/
def tileCacheEntry (tile : Fin 16384) (bad1 bad2 : Bool) (s : State) : State :=
  if !s.domOn 7 then s
  else
    let t := tile.val
    ((if s.pts.cache.contains t then s else s.verifyTile t bad1 bad2).pushTile t).tileWrites t

/-- PATROL_VISIT (R67, R68, R82, R84): the patrol visits a tile: its points' freshness, and its CRC where it is not cached. -/
def patrolVisit (tile : Fin 16384) (bad1 bad2 : Bool) (s : State) : State :=
  if !s.domOn 7 ∨ !s.flag PNT_PATROL.EN then s
  else
    let t := tile.val
    let s := if s.pts.cache.contains t then s else s.verifyTile t bad1 bad2
    let s := (List.range 16).foldl (fun s k => s.fresh (16 * t + k)) s
    let seen := s.pts.patrolSeen ||| 2 ^ t
    if seen = 2 ^ 16384 - 1 then s.patrolBegin else { s with pts := { s.pts with patrolSeen := seen } }

/-- PNT_PATROL.PERIOD in ns (R68). -/
def State.patrolNs (s : State) : Int := 1000000 * (clampNat 100 4000 (s.g PNT_PATROL.PERIOD) : Nat)

/-- PATROL_LATE (R68): PERIOD has elapsed a second time since the pass began and the pass is not complete: once for each pass. -/
def patrolLate (s : State) : State :=
  if !s.domOn 7 ∨ !s.flag PNT_PATROL.EN ∨ s.absNs - s.pts.patrolStart < 2 * s.patrolNs ∨ s.pts.patrolOver then s
  else ({ s with pts := { s.pts with patrolOver := true } }.pb PNT_STAT.PATROL_LATE true).raise (evPnt 4) clNote

end Sys2Proof.Machine
end

