-- ==== Sys2Proof/Machine/FlowApply.lean ====
section
/-! DEFINITION. The destination side of the flow engine and its group commits (R165, R178 to R181, R188 to R190), the tunnels' sinks
(R254, R361), and remote reads served (R522). -/

namespace Sys2Proof.Machine

/-! ### Tunnels -/

/-- The valid tunnel entry of a number and KIND. -/
def State.tunOf (s : State) (t kind : Nat) : Bool := s.flag (BRG_TUN_CFG.VALID.at t) && s.g (BRG_TUN_CFG.KIND.at t) == kind

/-- The tunnel that takes the frames of an ETH port with a VID (R254). -/
def State.ethTunnelOf (s : State) (n vid : Nat) : Option Nat :=
  (List.range 256).find? (fun t => s.tunOf t 2 && s.g (BRG_TUN_LOCAL.A.at t) == n && s.g (BRG_TUN_LOCAL.C.at t) == vid)

/-- Whether an item of an Ethernet tunnel has not been accepted yet. -/
def State.ethPending (s : State) (t : Nat) : Bool :=
  s.flow.subs.any (fun w => w.1.path == .eth t) ||
    s.groupRecs.any (fun r => match r with | .acc it true => it.path == .eth t | _ => false)

/-- The work items a frame is cut into (R255): 256 bytes each, FIRST and LAST marked. -/
def State.ethItems (s : State) (t : Nat) (bytes : List Byte) : List Item :=
  let parts := chunks 256 9 bytes
  parts.zipIdx.map (fun p =>
    { newItem (s.g (BRG_TUN_CFG.FLOW.at t)) 0x12 (s.tunAddr t) p.1 0 (.eth t) with
      seg := b2n (p.2 == 0) + 2 * b2n (p.2 + 1 == parts.length) })

/-- The first Ethernet frame queued at TUNNEL taken by its tunnel (R254, R255): MODE 0 sends it and frees it; MODE 1 submits its items,
and it stays until its LAST segment is accepted. A frame no entry names is discarded and counted. `bad` is a bad tile that the read of a frame
just admitted meets (R217). -/
def State.ethTunnelTake (s : State) (bad : Option Nat) : State :=
  match s.sw.queues.find? (fun q => q.port == 9 && (s.sframe q.id).any (fun f => f.eth && !f.cut && !f.mirror)) with
  | none => s
  | some q =>
    match s.sframe q.id with
    | none => s
    | some f =>
      if bad.isSome ∧ q.id + 1 = s.sw.nextId then s.tileBad q (bad.getD 0)
      else
      match s.ethTunnelOf (f.inPort - 4) (ethVid f.frame.payload) with
      | none => (s.copyDone q).count BRG_CFGERR_CNT.off
      | some t =>
        let bytes := f.frame.payload ++ ethFcs f.frame.payload
        if !s.flag (BRG_TUN_CFG.MODE.at t) then (s.copyDone q).tunSend t 0x12 tyTunEth 2 bytes
        else if s.ethPending t then s
        else
          (s.ethItems t bytes).foldl (fun s it =>
            let (st, s) := s.submit it
            if st = stOK then s else s.count BRG_CFGERR_CNT.off) s

/-- A frame with the VID of a tunnel entry (R254). PRESUMED: an IEEE 802.1Q tag with priority 0. -/
def withVid (vid : Nat) (l : List Byte) : List Byte :=
  if vid = 0 then l
  else if tagged l then l.take 14 ++ bytesBE 2 (be2 l 14 / 4096 * 4096 + vid % 4096) ++ l.drop 16
  else l.take 12 ++ bytesBE 2 0x8100 ++ bytesBE 2 (vid % 4096) ++ l.drop 12

/-- A tunnelled Ethernet frame handed on to its ETH port (R254); `l` ends with its FCS. -/
def State.ethDeliver (s : State) (t cls : Nat) (l : List Byte) : State :=
  let body := withVid (s.g (BRG_TUN_LOCAL.C.at t)) (l.take (l.length - 4))
  let s := s.pushWait ⟨9, cls, [4 + s.g (BRG_TUN_LOCAL.A.at t)], ethFrame cls body, true, body.length + 4, none, s.now4 0⟩
  s.admitFrame 9 cls none

/-- TUNNEL_FRAME_ARRIVE (R254, R361): a MODE 0 tunnel frame that Aqueduct extracted arrives at its tunnel's endpoint. -/
def tunnelFrameArrive (f : Frame) (bad : Option Nat) (s : State) : State :=
  if f.work ∨ (f.typ ≠ tyTunCan ∧ f.typ ≠ tyTunEth) ∨ !s.domOn (domainOf BRG_CFG.off) then s
  else
    match s.handOver 9 f bad with
    | (false, s) => s
    | (true, s) =>
      let t := beAt f.payload 7 1
      let data := slice f.payload 32 (beAt f.payload 10 2)
      if f.typ = tyTunCan ∧ s.tunOf t 1 then s.canArrive t (decCan data)
      else if f.typ = tyTunEth ∧ s.tunOf t 2 then s.ethDeliver t f.cls data
      else s.count BRG_CFGERR_CNT.off

/-! ### Inbound entries -/

/-- The inbound entry of a source and flow. -/
def State.inbOf (s : State) (src flow : Nat) : Option InEntry := s.flow.inb.find? (fun e => e.src == src && e.flow == flow)

/-- An inbound entry changed. -/
def State.inbSet (s : State) (src flow : Nat) (g : InEntry → InEntry) : State :=
  s.fm (fun x => { x with inb := x.inb.map (fun e => if e.src = src ∧ e.flow = flow then g e else e) })

/-- Whether two items are the same copy's. -/
def sameItem (a b : InItem) : Bool := a.src == b.src && a.flow == b.flow && a.seq == b.seq && a.inc == b.inc

/-- Items held above NEXT in the hold store. -/
def State.holdCount (s : State) : Nat := (s.flow.inb.map (fun e => e.held.length)).sum

/-- The master an item acts as: its initiator on an own flow, else the ring remote. -/
def InItem.master (it : InItem) : Master :=
  if it.local_ then ⟨Fin.ofNat 32 it.mid, BitVec.ofNat 16 it.src⟩ else ⟨0x10, BitVec.ofNat 16 it.src⟩

/-! ### Acknowledgements -/

/-- The result of an item (R180). -/
def InItem.kept (it : InItem) (status apply result : Nat) : Kept := ⟨it.src, it.flow, it.seq, it.inc, status, apply, result, 0, 0, 0, 0⟩

/-- An item acknowledged: over the ring, or, on an own flow, to its outstanding item (R176, R180). -/
def State.ackItem (s : State) (it : InItem) (k : Kept) (dup gone : Bool) : State :=
  if it.local_ then
    match s.flow.out.find? (fun o => o.it.flow == it.flow && o.it.seq == it.seq && o.it.inc == it.inc) with
    | some o => s.resolve o k false
    | none => s
  else s.sendAck it k dup gone

/-- Results whose originator has moved LOW past them dropped (R181). -/
def State.dropKept (s : State) (it : InItem) : State :=
  let past := fun (k : Kept) => k.src == it.src && k.flow == it.flow && k.inc == it.inc && after32 it.low k.seq
  let out := s.flow.kept.filter past
  s.fm (fun x => { x with
    kept := x.kept.filter (fun k => !past k), gone := x.gone ++ out.map Kept.key,
    sens := x.sens.filter (fun q => !out.any (fun d => d.key == q)) })

/-- A duplicate acknowledged again (R181). -/
def State.ackDup (s : State) (it : InItem) : State :=
  match s.flow.kept.find? (fun k => k.src == it.src && k.flow == it.flow && k.seq == it.seq && k.inc == it.inc) with
  | some k => s.ackItem it k true false
  | none => s.ackItem it (it.kept stOK 0 0) true (s.flow.gone.contains (it.src, it.flow, it.inc, it.seq))

/-! ### Effects (R159, R179) -/

/-- One record of a FLOW point written by an item (R62, R69): its permission and its VALUE judged at application. -/
def State.flowRec (s : State) (m : Master) (i v : Nat) : Nat × State :=
  let r := s.pt i
  let p := s.profOf i
  let ok := if isLocal m then s.wrOk m i else s.flag (PNT_PROF_CFG.RMT_WR.at p)
  if r.typ = tyUndef then (stOK, s)
  else if !ok then (stOWNER, (s.p PNT_STAT.LAST_ERR stOWNER).count PNT_REJECT_CNT.off)
  else if !encOk r.typ v then (stTYPE, (s.p PNT_STAT.LAST_ERR stTYPE).count PNT_REJECT_CNT.off)
  else
    let s := s.ownerWrite i v s.fns48 qGood
    (stOK, if r.typ = tyTimed then s.timedRelease i v else s)

/-- A write of FLOW points applied (R62, R65). -/
def State.flowPoints (s : State) (m : Master) (addr : Nat) (data : List Byte) : Nat × State :=
  let off := adOff addr
  let refuse := fun (st : Nat) => (st, s.ptRefuse ⟨0x10, m.node⟩ 1 addr st)
  if 0x400000 ≤ off ∨ !s.domOn 7 then refuse stADDR
  else
    match writeForm off data.length with
    | none => refuse stWIDTH
    | some (i, n) =>
      match s.writeKind i n with
      | .inr st => refuse st
      | .inl row =>
        if row ≠ 1 then refuse stOWNER
        else
          (List.range n).foldl (fun (acc : Nat × State) k =>
            let (st, s) := acc.2.touchTile (i / 16) |>.flowRec m (i + k) (writeValue data k)
            (if acc.1 = stOK then st else acc.1, s)) (stOK, s)

/-- A Cistern item applied (R338, R339): by its port for OP 0x01, by its segment flags for OP 0x10; none while it must wait. -/
def State.cstItem (s : State) (it : InItem) : Option (Nat × State) :=
  let off := adOff it.addr
  if !s.domOn 6 then some (stADDR, s)
  else
    match cstDecode off with
    | none => some (stADDR, s)
    | some (typ, n, port) =>
      if it.op = 1 ∧ !cstForm port it.data.length then some (stWIDTH, s)
      else if !s.cstProducer n (some it.src) it.mid then some (stOWNER, s)
      else if !s.flag (CST_CFG.EN n) then some (stCFG, s)
      else if it.op = 1 then s.cstOp n port typ it.data
      else s.cstSegment n typ it.seg it.data

/-- The key of the segments gathered for a source and flow. -/
def segKey (it : InItem) : Nat := it.src * 1024 + it.flow

/-- An Ethernet segment applied (R254, R255): gathered, and handed on at LAST. -/
def State.ethItem (s : State) (it : InItem) : Nat × State :=
  let t := it.addr % 256
  if !s.tunOf t 2 then (stADDR, s.count BRG_CFGERR_CNT.off)
  else
    let old := if it.seg % 2 = 1 then [] else SMap.get (fun _ => []) s.brg.ethSeg (segKey it)
    let all := old ++ it.data
    let put := fun (s : State) (l : List Byte) => s.bm (fun b => { b with ethSeg := SMap.set (fun _ => []) b.ethSeg (segKey it) l })
    if 2 ≤ it.seg % 4 then (stOK, (put s []).ethDeliver t 5 all) else (stOK, put s all)

/-- The effect of a held item (R179): its status, none while its target has no room. -/
def State.heldEffect (s : State) (it : InItem) : Option (Nat × State) :=
  let sp := adSpace it.addr
  if it.op = 1 then
    if sp = 0 then some (s.flowPoints it.master it.addr it.data)
    else if sp = 1 then some (s.regBlock it.master 0 (adOff it.addr) it.data)
    else if sp = 2 then s.cstItem it
    else some (stADDR, s)
  else if it.op = 0x10 ∧ sp = 2 then s.cstItem it
  else if it.op = 0x11 then
    let t := it.addr % 256
    if !s.tunOf t 1 then some (stADDR, s.count BRG_CFGERR_CNT.off) else s.canApply t (decCan it.data)
  else if it.op = 0x12 then some (s.ethItem it)
  else some (stADDR, s)

/-- The atomic of an OP. -/
def opAtomic (op : Nat) : Option AtomicOp :=
  if op = 2 then some .add else if op = 3 then some .or else if op = 4 then some .and else if op = 5 then some .cas else none

/-- The effect of an immediate item (R64, R65, R179): an atomic on a LOCAL point. -/
def State.atomicEffect (s : State) (it : InItem) (op : AtomicOp) : Kept × State :=
  let off := adOff it.addr
  let i := off / 16
  let t := (s.pt i).typ
  let m := it.master
  let ok := if it.local_ then s.wrOk m i else s.flag (PNT_PROF_CFG.RMT_WR.at (s.profOf i))
  let refuse := fun (st : Nat) => (it.kept st s.fns48 0, s.ptRefuse ⟨0x10, m.node⟩ 1 it.addr st)
  if adSpace it.addr ≠ 0 ∨ 0x400000 ≤ off ∨ !s.domOn 7 then (it.kept stADDR s.fns48 0, s)
  else if off % 16 ≠ 0 then refuse stWIDTH
  else if t = tyUndef then refuse stADDR
  else
    let a := BitVec.ofNat 64 (natLE (slice it.data 0 8))
    let b := BitVec.ofNat 64 (natLE (slice it.data 8 8))
    let (st, old, s') := (s.touchTile (i / 16)).atomicApply ok i op a b
    if st = stOK then (it.kept st s.fns48 old.toNat, s') else refuse st

/-- Whether an item is a write to WINDOW points: two-phase, as OP 0x07 is (R62, R65, R80). -/
def State.windowPoint (s : State) (it : InItem) : Bool :=
  (it.op == 1 || it.op == 7) && adSpace it.addr == 0 &&
    (match writeForm (adOff it.addr) it.data.length with
     | some (i, n) => s.writeKind i n == .inl 3
     | none => false)

/-- How an item is applied (R179): 0 held, 1 immediate, 2 two-phase. -/
def State.wayOf (s : State) (it : InItem) : Nat :=
  if (opAtomic it.op).isSome then 1 else if it.op = 6 ∨ it.op = 7 ∨ s.windowPoint it then 2 else 0

/-- The domain gate of an item's target: items for a domain that goes on wait (R10). -/
def State.itemGate (s : State) (it : InItem) : Bool :=
  let sp := adSpace it.addr
  if it.op = 0x11 ∨ it.op = 0x12 then false
  else if sp = 1 then s.domGate (adOff it.addr) == 1 || s.waitsCommit it.master (adOff it.addr) || s.attrWaits it.master (adOff it.addr)
  else s.spaceGate it.master sp (adOff it.addr) == 1

/-- Whether an item's target has room behind the items staged and not yet released (R339, R361). -/
def State.roomFor (s : State) (it : InItem) : Bool :=
  if it.op = 0x11 ∨ adSpace it.addr = 2 then
    let staged := s.groupRecs.filterMap (fun r => match r with
      | .applied x => if x.op = 0x11 ∨ adSpace x.addr = 2 then some x else none
      | _ => none)
    let t := staged.foldl (fun (s : State) x => match s.heldEffect x with | some r => r.2 | none => s) s
    (t.heldEffect it).isSome
  else true

/-- The two-phase items in progress, those whose INTENT waits for its commit included. -/
def State.twoCount (s : State) : Nat :=
  s.flow.two.length + (s.groupRecs.filter (fun r => match r with | .intent _ true => true | _ => false)).length

/-- The item at NEXT acted upon (R178, R179): none while it must wait. -/
def State.tryItem (s : State) (e : InEntry) (it : InItem) : Option State :=
  let way := s.wayOf it
  if e.two ∨ s.itemGate it then none
  else if way = 0 then
    if !s.roomFor it then none
    else
      match s.addRec (.applied it) true with
      | (true, s) => some (s.inbSet e.src e.flow (fun x => { x with staged := x.staged + 1 }))
      | (false, _) => none
  else if 0 < e.staged then none
  else if way = 1 then
    match opAtomic it.op with
    | none => none
    | some op =>
      let (k, t) := s.atomicEffect it op
      match t.addRec (.done it k true true) true with
      | (true, t) => some t
      | (false, _) => none
  else if 1024 ≤ s.twoCount then none
  else
    match s.addRec (.intent it true) true with
    | (true, s) => some (s.inbSet e.src e.flow (fun x => { x with two := true }))
    | (false, _) => none

/-- The items of an entry acted upon in order as far as they can (R178 rows 6 and 7). -/
def State.drainEntry (s : State) (src flow : Nat) : Nat → State
  | 0 => s
  | fuel + 1 =>
    match s.inbOf src flow with
    | none => s
    | some e =>
      match e.wait with
      | some it =>
        match s.tryItem e it with
        | some t =>
          (t.inbSet src flow (fun x => { x with wait := none, next := (x.next + 1) % 2 ^ 32 })).drainEntry src flow fuel
        | none => if s.budNow < 4000 then s.fm (fun x => { x with arrWait := true }) else s
      | none =>
        match e.held.find? (fun h => h.seq == e.next) with
        | some it =>
          (s.inbSet src flow (fun x => { x with wait := some it, held := x.held.filter (fun h => h.seq != it.seq) })).drainEntry src flow fuel
        | none => s

/-- Fuel that every entry's items fit in. -/
def drainFuel : Nat := 2052

/-- Every entry's waiting and held items acted upon as far as they can. -/
def State.drainAll (s : State) : State :=
  s.flow.inb.foldl (fun s e => if e.wait.isSome ∨ e.held ≠ [] then s.drainEntry e.src e.flow drainFuel else s) s

/-! ### Arrivals (R178) -/

/-- A full inbound table reported, at most once per 60 s. -/
def State.inbFull (s : State) : State :=
  let s := s.count FLOW_INB_FULL.off
  if s.flow.fullAt.any (fun t => decide (s.absNs - t < 60000000000)) then s
  else (s.fm (fun x => { x with fullAt := some s.absNs })).raise (evFlow 6) clDegraded

/-- Rows 5 to 8 of R178 for an item and its entry. -/
def State.arriveAt (s : State) (e : InEntry) (it : InItem) : State :=
  let d := (it.seq + 2 ^ 32 - e.next) % 2 ^ 32
  if after32 e.next it.seq then
    let s := s.count FLOW_DUP_CNT.off
    if it.inc = e.cinc ∧ after32 e.cnext it.seq then s.ackDup it else s
  else if d = 0 then
    if e.wait.isSome then s.count FLOW_DUP_CNT.off
    else (s.inbSet e.src e.flow (fun x => { x with wait := some it })).drainEntry e.src e.flow drainFuel
  else if d ≤ 255 ∧ s.holdCount < 1024 ∧ !e.held.any (fun h => h.seq == it.seq) then
    s.inbSet e.src e.flow (fun x => { x with held := x.held ++ [it] })
  else s.count FLOW_HOLD_DROP.off

/-- An item copy arrives (R178). Own flows take no place of the 4,096 (R176). -/
def State.arrive (s : State) (it : InItem) : State :=
  let s := s.dropKept it
  match s.inbOf it.src it.flow with
  | none =>
    if !it.local_ ∧ 4096 ≤ s.inbTable.length then s.inbFull
    else
      let e : InEntry := ⟨it.src, it.flow, it.inc, it.low, it.inc, it.low, 0, [], none, 0, false, none⟩
      (s.fm (fun x => { x with inb := x.inb ++ [e] })).arriveAt e it
  | some e =>
    if after32 e.inc it.inc then s.count FLOW_DUP_CNT.off
    else if after32 it.inc e.inc then
      let e' := { e with inc := it.inc, next := it.low, held := [], wait := none }
      ((s.inbSet e.src e.flow (fun _ => e')).oweRecord (.newInc it.src it.flow it.inc it.low)).arriveAt e' it
    else s.arriveAt e it

/-- The item that a work frame carries (R175). -/
def frameItem (f : Frame) : InItem :=
  let b := f.payload
  let fl := beAt b 9 1
  ⟨f.src, f.flow % 1024, f.seq, beAt b 12 4, beAt b 16 4, beAt b 8 1, beAt b 0 8, (b.drop 32).take (beAt b 10 2), fl % 4,
    fl.testBit 3, false, 0x10⟩

/-- WORK_ARRIVAL (R178, R182): a copy of a work item that Aqueduct extracted reaches the flow engine. -/
def workArrival (f : Frame) (bad : Option Nat) (s : State) : State :=
  let kind := f.typ = tyWork ∨ f.typ = tyTunPkt ∨ f.typ = tyTunCan ∨ f.typ = tyTunEth
  if !f.work ∨ !kind ∨ !(f.dst = s.node ∨ s.inGroup f.dst) then s
  else
    match s.handOver (if f.typ = tyWork then 8 else 9) f bad with
    | (false, s) => s
    | (true, s) => if s.flowRuns then s.arrive (frameItem f) else s

/-- WAITING_ITEM_APPLY (R178): items that wait at their entries act as soon as what they wait for has come. -/
def waitingItemApply (s : State) : State := if s.flowRuns then s.payOwed.drainAll.abandonReady else s

/-! ### Two-phase items (R74, R79, R179) -/

/-- The outcome of a two-phase item journaled as soon as the budget has its line. -/
def State.twoDone (s : State) (it : InItem) (k : Kept) : State := s.oweRecord (.done it k true true)

/-- A READSENS read performed for an item (R74, R180). -/
def State.readsensEffect (s : State) (it : InItem) : State :=
  let off := adOff it.addr
  let m : Master := ⟨0x10, BitVec.ofNat 16 it.src⟩
  if adSpace it.addr ≠ 0 ∨ !s.domOn 7 then s.twoDone it (it.kept stADDR s.fns48 0)
  else
    let (st, d, s) := s.pointRead m off 16 true
    if st ≠ stOK then (s.ptRefuse m 0 it.addr st).twoDone it (it.kept st s.fns48 0)
    else
      s.twoDone it { it.kept stOK s.fns48 (natLE (slice d 0 8)) with
        rstamp := natLE (slice d 8 6), rqual := natLE (slice d 14 1), rtype := natLE (slice d 15 1) }

/-- The binding of a WINDOW point (R80). -/
def State.bindOf (s : State) (p : Nat) : Option WinBind := SMap.get (fun _ => none) s.pts.binds p

/-- The records of a window item that take part (R62): the defined ones of a write of WINDOW points, the one of a write in space 0x04. -/
def State.winRecs (s : State) (it : InItem) : List Nat :=
  if adSpace it.addr = 0 then
    (List.range (max 1 (it.data.length / 16))).filter (fun k => (s.pt (adOff it.addr / 16 + k)).typ != tyUndef)
  else [0]

/-- The foreign request of one record of a window item, or the status that refuses it (R62, R65, R79, R80). DEDUCED: WR permits a local writer of
a WINDOW point as it does of the other work points. -/
def State.winRec (s : State) (it : InItem) (k : Nat) : Nat ⊕ WinReq :=
  let who := WinFor.item it.src it.flow it.seq it.inc k stOK 0
  if !s.domOn 7 then .inl stADDR
  else if adSpace it.addr = 4 then
    let st := s.winForm (adOff it.addr) it.data.length
    if st ≠ stOK then .inl st
    else .inr ⟨adOff it.addr / 2 ^ 32, adOff it.addr % 2 ^ 32, it.data.length, true, it.data, who, 0⟩
  else if s.windowPoint it then
    let i := adOff it.addr / 16 + k
    let ok := if it.local_ then s.wrOk it.master i else s.flag (PNT_PROF_CFG.RMT_WR.at (s.profOf i))
    match s.bindOf i with
    | none => .inl stADDR
    | some b =>
      let st := s.winForm (b.window * 2 ^ 32 + b.obj) b.size
      if !ok then .inl stOWNER
      else if st ≠ stOK then .inl st
      else .inr ⟨b.window, b.obj, b.size, true, slice (slice it.data (16 * k) 8) 0 b.size, who, 0⟩
  else .inl stADDR

/-- The records of a window item still to come, in order: a refused one gives its status, the first that is not refused puts its request
to its window; after the last the item ends with the first status that was not OK (R62, R79). -/
def State.winRun (s : State) (it : InItem) (st code : Nat) : List Nat → State
  | [] => s.twoDone it (it.kept st s.fns48 code)
  | k :: l =>
    match s.winRec it k with
    | .inl e => (s.ptRefuse ⟨0x10, it.master.node⟩ 1 it.addr e).winRun it (if st = stOK then e else st) code l
    | .inr r => s.winPost { r with who := .item it.src it.flow it.seq it.inc k st code }

/-- The foreign requests of an item put to its windows one after another, or the item refused (R79, R80). -/
def State.windowEffect (s : State) (it : InItem) : State :=
  if it.op = 7 ∧ adSpace it.addr ≠ 4 ∧ !s.windowPoint it then
    (s.ptRefuse ⟨0x10, it.master.node⟩ 1 it.addr stADDR).twoDone it (it.kept stADDR s.fns48 0)
  else s.winRun it stOK 0 (s.winRecs it)

/-! ### Group commits (R165, R172, R179) -/

/-- The frame of an Ethernet tunnel freed when its LAST segment is accepted (R255), and the next one taken. -/
def State.ethSegAccepted (s : State) (it : Item) : State :=
  match it.path with
  | .eth _ =>
    if 2 ≤ it.seg then
      match s.sw.queues.find? (fun q => q.port == 9 && (s.sframe q.id).any (fun f => f.eth && !f.cut && !f.mirror)) with
      | some q => (s.copyDone q).ethTunnelTake none
      | none => s
    else s
  | _ => s

/-- A record as its group commits: the state after its effects, and its lines. `lsn` is the line it begins at. -/
def State.commitAcc (s : State) (it : Item) (lsn : Nat) : State × List (Nat × Bool × List Byte) :=
  let it := { it with accept := s.fns48 }
  let s := (s.fm (fun x => { x with out := x.out ++ [⟨it, false, [], 0, 0, lsn⟩] })).traffic FLOW_ACC_LO.off 1
  let s := match it.outlet with
    | some p => let s := s.touchTile (p / 16); s.putRec p { s.pt p with value := BitVec.ofNat 64 (natLE (it.data.take 8)), stamp := it.accept }
    | none => s
  let s := s.reportAccept it
  let s := s.ethSegAccepted it
  let s := if s.flowLocal it.flow then
      s.arrive ⟨s.node, it.flow, it.seq, it.inc, (s.fl it.flow).low, it.op, it.addr, it.data, it.seg, false, true, it.mid⟩
    else
      let s := s.sendItem it false
      if (s.fl it.flow).due.isSome then s else s.armFlow it.flow
  (s, accBodies it)

/-- An applied item's entry brought up to date at its commit. -/
def State.entryDone (s : State) (it : InItem) (lsn : Nat) (held : Bool) : State :=
  s.inbSet it.src it.flow (fun e => { e with
    staged := if held then e.staged - 1 else e.staged, two := if held then e.two else false, cinc := it.inc,
    cnext := if it.inc = e.cinc ∧ after32 e.cnext ((it.seq + 1) % 2 ^ 32) then e.cnext else (it.seq + 1) % 2 ^ 32,
    last := s.fns48, lsn := some lsn })

/-- The release of a staged item (R179): its effect; none where its target has lost the room, or an earlier item of its flow has gone back to
waiting. -/
def State.releaseOf (s : State) (it : InItem) : Option (Nat × State) :=
  if (s.inbOf it.src it.flow).all (fun e => e.cinc == it.inc && e.cnext == it.seq) then s.heldEffect it else none

/-- A staged item back at its inbound entry: the first that could not be released waits again, those behind it are held (R178). DESIGN CHOICE:
a target can lose its room to a local producer between staging and release; the item then leaves its group, which commits without it. -/
def State.unstage (s : State) (it : InItem) : State :=
  s.inbSet it.src it.flow (fun e =>
    let e := { e with staged := e.staged - 1 }
    if e.inc ≠ it.inc then e
    else if e.cinc = it.inc ∧ e.cnext = it.seq then { e with next := it.seq, wait := some it, held := e.wait.toList ++ e.held }
    else if after32 e.next it.seq ∨ (e.wait.toList ++ e.held).any (fun h => h.seq == it.seq) then e
    else { e with held := e.held ++ [it] })

/-- A held item released (R179): its effect, then its acknowledgement; no line where it cannot be. -/
def State.commitApplied (s : State) (it : InItem) (lsn : Nat) : State × List (Nat × Bool × List Byte) :=
  match s.releaseOf it with
  | none => (s.unstage it, [])
  | some (st, s) =>
    let k := { it.kept st s.fns48 0 with lsn := lsn }
    let bad := decide (st ≠ stOK)
    let s := (s.entryDone it lsn true).traffic FLOW_APPLIED_LO.off 1
    let s := if bad then s.keep k else s
    (s.ackItem it k false false, appliedBody k bad)

/-- An outcome already known: committed, retained and acknowledged; or its line relocated (R173). -/
def State.commitDone (s : State) (it : InItem) (k : Kept) (keep fresh : Bool) (lsn : Nat) : State × List (Nat × Bool × List Byte) :=
  let k := { k with lsn := lsn }
  if fresh then
    let s := (s.entryDone it lsn false).traffic FLOW_APPLIED_LO.off 1
    let s := s.fm (fun x => { x with two := x.two.filter (fun t => !sameItem t.1 it) })
    let s := if keep then s.keep k else s
    let s := if it.op = 6 then s.fm (fun x => { x with sens := k.key :: x.sens }) else s
    (s.ackItem it k false false, appliedBody k keep)
  else
    (s.fm (fun x => { x with kept := x.kept.map (fun y =>
      if y.src = k.src ∧ y.flow = k.flow ∧ y.seq = k.seq ∧ y.inc = k.inc then { y with lsn := lsn } else y) }), appliedBody k keep)

/-- An INTENT committed: its second phase begins (R179); or its line relocated. -/
def State.commitIntent (s : State) (it : InItem) (fresh : Bool) (lsn : Nat) : State × List (Nat × Bool × List Byte) :=
  if fresh then
    let s := s.fm (fun x => { x with two := x.two ++ [(it, lsn)] })
    (if it.op = 6 then s.readsensEffect it else s.windowEffect it, intentBody it)
  else
    (s.fm (fun x => { x with two := x.two.map (fun (t : InItem × Nat) => if sameItem t.1 it then (t.1, lsn) else t) }), intentBody it)

/-- A record committed. -/
def State.commitRec (s : State) (r : JRec) (lsn : Nat) : State × List (Nat × Bool × List Byte) :=
  match r with
  | .acc it true => s.commitAcc it lsn
  | .acc it false =>
    (s.fm (fun x => { x with out := x.out.map (fun o =>
      if o.it.flow = it.flow ∧ o.it.seq = it.seq ∧ o.it.inc = it.inc then { o with lsn := lsn } else o) }), accBodies it)
  | .intent it fresh => s.commitIntent it fresh lsn
  | .applied it => s.commitApplied it lsn
  | .done it k keep fresh => s.commitDone it k keep fresh lsn
  | .outstate fs =>
    (s.fm (fun x => { x with outLsn := fs.foldl (fun m f => SMap.set (fun _ => none) m f (some lsn)) x.outLsn }),
      outBody (fs.map (fun f => (f, (s.fl f).inc, (s.fl f).low))))
  | .instate es =>
    (es.foldl (fun s e => s.inbSet e.1 e.2 (fun x => { x with lsn := some lsn })) s,
      inBody (es.filterMap (fun e => (s.inbOf e.1 e.2).map (fun x => (x.src, x.flow, x.cinc, x.cnext)))))
  | .newInc src flow inc next =>
    (s.inbSet src flow (fun e => { e with cinc := inc, cnext := next, lsn := some lsn }), inBody [(src, flow, inc, next)])

/-- The records of a group committed in order from line `lsn` on, and all their lines. -/
def State.commitRecs (s : State) (lsn : Nat) : List JRec → State × List (Nat × Bool × List Byte)
  | [] => (s, [])
  | r :: l =>
    let (s, b) := s.commitRec r lsn
    let (s, bs) := s.commitRecs (lsn + b.length) l
    (s, b ++ bs)

/-- GROUP_COMMIT_DONE (R165, R167, R179): the committing group is in the journal; its records take effect, and the next closed group
commits. -/
def groupCommitDone (s : State) : State :=
  match s.flow.commit with
  | none => s
  | some g =>
    let lsn := s.flow.lsn
    let s := s.fm (fun x => { x with commit := none })
    let (s, lines) := s.commitRecs lsn g.recs
    let s := s.writeLines lines
    let s := match s.flow.closed with
      | [] => s
      | c :: l => s.fm (fun x => { x with commit := some c, closed := l })
    let s := s.payOwed
    (if s.flowRuns then s.drainAll else s).abandonReady

/-! ### Recovery (R189, R190) -/

/-- Torn lines erased. -/
def State.eraseLines (s : State) (l : List Nat) : State :=
  l.foldl (fun s i => s.fm (fun x => { x with ring := SMap.set lineDflt x.ring i (lineDflt 0) })) s

/-- The outlet point that an outstanding item came from, by its flow and destination (R190). -/
def State.outletFor (s : State) (it : Item) : Option Nat :=
  ((List.range 4096).find? (fun e =>
    s.flag (PNT_OUT_CFG.VALID.at e) && s.g (PNT_OUT_CFG.FLOW.at e) == it.flow && s.outletDst e == it.addr)).map
      (fun e => s.g (PNT_OUT_CFG.POINT.at e))

/-- Outlet points restored from the outstanding items (R190), oldest first so that the newest stands. -/
def State.restoreOutlets (s : State) : State :=
  let s := s.fm (fun x => { x with out := x.out.map (fun o =>
    if o.it.op = 1 ∧ adSpace o.it.addr = 0 then { o with it := { o.it with outlet := s.outletFor o.it } } else o) })
  s.flow.out.foldl (fun s o =>
    match o.it.outlet with
    | some p => let s := s.touchTile (p / 16); s.putRec p { s.pt p with value := BitVec.ofNat 64 (natLE (o.it.data.take 8)), stamp := o.it.accept, qual := qSubst }
    | none => s) s

/-- The path of an item read back (R193): a Cistern's segment keeps the tunnel log of the PKT tunnel that has its flow and destination. -/
def State.pathBack (s : State) (it : Item) : Path :=
  if it.op ≠ 0x10 then .none
  else
    match (List.range 256).find? (fun t => s.tunOf t 3 && s.g (BRG_TUN_CFG.FLOW.at t) == it.flow &&
        s.g (BRG_TUN_REMOTE.NODE.at t) == adNode it.addr && (cstDecode (adOff it.addr)).any (fun d => d.2.1 == s.g (BRG_TUN_REMOTE.RTUN.at t))) with
    | some t => .cist t (s.g (BRG_TUN_LOCAL.A.at t))
    | none => .none

/-- FLOW_RECOVER (R189): the journal ring scanned, both sides rebuilt, INTENTs closed, outlets restored, STATE RUN. Items of own flows
reach their destination again. DEDUCED: at a start-up it follows stage 4, since REG records write the FLOW block and no block that a section
writes is released before (R426). -/
def flowRecover (s : State) : State :=
  if s.g FLOW_STAT.STATE ≠ feRecover ∨ !s.domOn 8 ∨ s.g CFG_BOOT.STAGE ≠ 5 then s
  else
    let s := s.fm (fun x => { x with lsn := s.ringTop })
    let scan := s.scanRing
    let s := s.countBy FLOW_TORN_CNT.off scan.torn
    let inj := s.sump.inj.any Inject.isLine && scan.torn != 0
    let s : State := s.asIf inj (·.raiseIf (scan.torn != 0) (evFlow 4) clNote)
    let s : State := { s with sump := { s.sump with inj := s.sump.inj.filter (fun x => !Inject.isLine x) } }
    let s := s.eraseLines scan.tornIdx
    let recs := scan.groups.flatMap groupRecords
    let s := ((s.rebuildOut recs).rebuildIn recs).restoreOutlets
    let s := s.fm (fun x => { x with out := x.out.map (fun o => { o with it := { o.it with path := s.pathBack o.it } }) })
    let s := (s.p FLOW_STAT.STATE feRun).raise (evFlow 9) clEvent
    (s.flow.out.filter (fun o => s.flowValid o.it.flow && s.flowLocal o.it.flow)).foldl (fun s o =>
      s.arrive ⟨s.node, o.it.flow, o.it.seq, o.it.inc, (s.fl o.it.flow).low, o.it.op, o.it.addr, o.it.data, o.it.seg, false, true,
        o.it.mid⟩) s

end Sys2Proof.Machine
end

