-- ==== Sys2Proof/Machine/Reads.lean ====
section
/-! DEFINITION. Reads that end later than they begin (R79, R239 to R244, R376, R522): the pieces of a host or USB read, remote reads
and window requests, and what each does when it ends. -/

namespace Sys2Proof.Machine

/-! ### Pieces (R239, R243) -/

/-- One piece of a read put to its target: an own access, a remote read, or the work item of a remote READ_ONCE. -/
def State.issuePiece (s : State) (m : Master) (e : DrEnt) (a n : Nat) (who : ReadFor) (path : Path) : Served × State :=
  if s.isHere a then s.localRead m a n (.reader who)
  else
    let (r, s) := if e.once then s.remoteItem m.mid.val 6 a [] path (s.routeOf a) else s.remoteRead m.mid.val a n who
    match r with
    | .done st d => (.done st d, s.accErr m 0 a st)
    | r => (r, s)

/-- Whether an access has a side effect (R245): a READ_ONCE, a local read of one record that is a READSENS point, or a read in space 0x02. -/
def State.sideEffect (s : State) (addr len : Nat) (once : Bool) : Bool :=
  once || adSpace addr == 2 ||
    (s.isHere addr && adSpace addr == 0 && decide (adOff addr < 0x400000 ∧ 8 ≤ len ∧ len ≤ 16) && (s.pt (adOff addr / 16)).typ == tyReadsens)

/-- The pieces of a read issued in order until one is in flight, must wait, or fails (R240): the status where the read has ended, the
read, and the state. -/
def State.readRun (s : State) (m : Master) (who : ReadFor) (path : Path) (e : DrEnt) : Nat → Option Nat × DrEnt × State
  | 0 => (some stOK, e, s)
  | fuel + 1 =>
    match e.pieces with
    | [] => (some stOK, e, s)
    | (a, n) :: l =>
      let e := { e with side := e.side || s.sideEffect a n e.once }
      match s.issuePiece m e a n who path with
      | (.done st d, s) =>
        if st = stOK then s.readRun m who path { e with pieces := l, data := e.data ++ d } fuel
        else (some st, { e with pieces := [], data := if st = stDATA then e.data ++ d else [] }, s)
      | (.taken, s) => (none, { e with pieces := l, flying := true }, s)
      | (.wait, s) => (none, e, s)

/-- A read of the host port or of USB before its first piece. -/
def State.newRead (s : State) (tag addr len : Nat) (once : Bool) : DrEnt :=
  { tag := tag, addr := addr, len := len, once := once, side := once || adSpace addr == 2,
    pieces := if once then [(addr, len)] else pieces addr len, flying := false, doubt := false, data := [], retried := false,
    done := none, window := 0, after := s.g BRG_PW_SEQ.NEXT }

/-- The status that refuses a READ or a READ_ONCE before anything is issued (R233, R243); 0 for none. -/
def State.readForm (s : State) (addr len : Nat) (once : Bool) : Nat :=
  if once then
    if adSpace addr ≠ 0 ∨ (!s.isHere addr ∧ 0xFF00 ≤ adNode addr) then stADDR
    else if len ≠ 8 ∧ len ≠ 16 then stWIDTH
    else if !s.isHere addr ∧ (s.routeOf addr).isNone then stADDR
    else stOK
  else if !s.isHere addr ∧ (0xFF00 ≤ adNode addr ∨ adSpace addr = 2) then stADDR
  else stOK

/-! ### The delayed-read table (R240 to R242) -/

/-- Whether a delayed read still waits for a write that the host posted before it (R242). -/
def State.drBlocked (s : State) (e : DrEnt) : Bool :=
  s.brg.posted.any (fun p => decide (1 ≤ (e.after + 65536 - p.pw) % 65536 ∧ (e.after + 65536 - p.pw) % 65536 < 32768))

/-- A delayed read carried on as far as it can go: the status where it has ended, the read, and the state. -/
def State.drRun (s : State) (e : DrEnt) : Option Nat × DrEnt × State :=
  if e.flying ∨ s.drBlocked e then (none, e, s) else s.readRun hostM (.dr e.tag) (.hostOnce e.tag) e 6

/-- A delayed read in the table carried on. -/
def State.drGo (s : State) (tag : Nat) : State :=
  match s.drEnt tag with
  | none => s
  | some e =>
    if e.done.isSome then s
    else
      match s.drRun e with
      | (some st, e, s) => s.drDone e st e.data
      | (none, e, s) => s.setDr e

/-- DELAYED_READ_COMPLETE (R241, R242): a delayed read that waited issues its pieces; with the last one complete DR_DONE is set. -/
def delayedReadComplete (tag : Fin 64) (s : State) : State := if s.domOn 6 then s.drGo tag.val else s

/-- The read in progress of the USB function carried on (R376). -/
def State.usbGo (s : State) : State :=
  match s.usb.read with
  | none => s
  | some e =>
    if e.flying then s
    else
      match s.readRun usbM .usb .usbOnce e 6 with
      | (some st, e, s) => s.usbReadDone e st e.data (st == stADDR)
      | (none, e, s) => s.um (fun u => { u with read := some e })

/-! ### The end of a piece -/

/-- The error of a read that has ended (R29, R51): as this node refuses it, or, where another node has (`mine` false), as a bus error. -/
def State.readErr (s : State) (m : Master) (addr st : Nat) (mine : Bool) : State :=
  if st = stOK then s else if mine then s.accErr m 0 addr st else s.busFault m 0 addr

/-- A piece or a read of a master ended with a status and its bytes, which for DEVICE are the device's own code (R51). -/
def State.readEnd (s : State) (who : ReadFor) (addr st : Nat) (d : List Byte) (mine : Bool) : State :=
  match who with
  | .master m => (s.readErr m addr st mine).answer m st d
  | .dr tag =>
    match s.drEnt tag with
    | none => s
    | some e =>
      if st = stOK then (s.setDr { e with flying := false, data := e.data ++ d }).drGo tag
      else (s.readErr hostM addr st mine).drDone e st d
  | .usb =>
    match s.usb.read with
    | none => s
    | some e =>
      if st = stOK then (s.um (fun u => { u with read := some { e with flying := false, data := e.data ++ d } })).usbGo
      else (s.readErr usbM addr st mine).usbReadDone e st d (st == stADDR)

/-! ### Remote reads (R522) -/

/-- The response to a remote read: STATUS, DLEN, READ and the bytes. -/
def State.sendRsp (s : State) (node tag st : Nat) (d : List Byte) : State :=
  let d := if st = stOK then d else []
  let pl := bytesBE 1 st ++ [0] ++ bytesBE 2 d.length ++ bytesBE 6 s.fns48 ++ List.replicate 6 0 ++ d
  s.offerTo 8 s.ringPorts (s.mkFrame tyRreadRsp 5 node 0 tag false pl)

/-- Whether a window request of the same tag from the same node is being served. -/
def State.rreadBusy (s : State) (node tag : Nat) : Bool :=
  s.pts.reqs.any (fun q => match q.who with | .rread n t _ => n == node && t == tag | _ => false) ||
    s.held.any (fun h => h.m.node.toNat == node && h.tag == some tag)

/-- A remote read served at its destination (R65, R522 step 2): answered, or held by its window or its domain. -/
def State.serveRread (s : State) (m : Master) (addr len tag mid : Nat) : State :=
  let nd := m.node.toNat
  let off := adOff addr
  if adSpace addr = 2 ∨ len = 0 ∨ 256 < len ∨ 256 < off % 256 + len then s.sendRsp nd tag (if adSpace addr = 2 then stADDR else stWIDTH) []
  else
    match s.localRead m addr len (.rread nd tag mid) with
    | (.done st d, s) => s.sendRsp nd tag st d
    | (.taken, s) => s
    | (.wait, s) => { s with held := s.held ++ [⟨m, adSpace addr, off, .read len, some tag⟩] }

/-- RREAD_RECEIVE (R522 step 2): a copy of a remote read's request arrives. -/
def rreadReceive (f : Frame) (bad : Option Nat) (s : State) : State :=
  if f.typ ≠ tyRread ∨ f.dst ≠ s.node then s
  else s.takeCpu f bad (fun s =>
    if s.rreadBusy f.src f.seq then s
    else s.serveRread ⟨0x10, BitVec.ofNat 16 f.src⟩ (beAt f.payload 0 8) (beAt f.payload 8 2) f.seq (beAt f.payload 10 1))

/-- RREAD_RSP_RECEIVE (R522 step 3): the first response that carries a pending tag ends the read; later ones are discarded. -/
def rreadRspReceive (f : Frame) (bad : Option Nat) (s : State) : State :=
  if f.typ ≠ tyRreadRsp ∨ f.dst ≠ s.node then s
  else s.takeCpu f bad (fun s =>
    match s.flow.reads.find? (fun r => r.tag == f.seq && r.node == f.src) with
    | none => s
    | some r => (s.endRread r).readEnd r.who r.addr (beAt f.payload 0 1) ((f.payload.drop 16).take (beAt f.payload 2 2)) false)

/-- RREAD_RETRY_EXPIRE (R522 step 4): a read without response sent again, its interval doubled up to 1,000 ms. -/
def rreadRetryExpire (tag : Nat) (s : State) : State :=
  match s.flow.reads.find? (fun r => r.tag == tag) with
  | none => s
  | some r =>
    if s.absNs < r.due then s
    else
      let iv := min 1000 (2 * r.ival)
      let r' := { r with ival := iv, due := s.absNs + 1000000 * (iv : Int) }
      (s.fm (fun x => { x with reads := x.reads.map (fun q => if q.tag = tag then r' else q) })).sendRread r'

/-- RREAD_REACH_TIMEOUT (R522 step 4): a read unanswered REACH after it was first sent ends with TIMEOUT. -/
def rreadReachTimeout (tag : Nat) (s : State) : State :=
  match s.flow.reads.find? (fun r => r.tag == tag) with
  | none => s
  | some r => if s.absNs - r.first < s.reachNs then s else (s.endRread r).readEnd r.who r.addr stTIMEOUT [] true

/-! ### Windows (R72, R79, R80) -/

/-- The two-phase item in progress that a window request serves. -/
def State.twoItem (s : State) (src flow seq inc : Nat) : Option InItem :=
  (s.flow.two.find? (fun t => t.1.src == src && t.1.flow == flow && t.1.seq == seq && t.1.inc == inc)).map (·.1)

/-- What the end of a device's write does to its WINDOW point (R58, R66, R72): every response of the device refreshes it; a TIMEOUT leaves it
in DOUBT. DEDUCED: OK makes it GOOD. -/
def State.winPointWritten (s : State) (p st : Nat) : State :=
  if st = stTIMEOUT then s.setQual p qDoubt
  else if st = stOK then (s.setQual p qGood).refreshPt p
  else (s.setQual p qFault).refreshPt p

/-- What the end of a refresh does to its WINDOW point (R56, R58, R80). A device's error is a downstream response: it stamps and refreshes the
point. DESIGN CHOICE: after a TIMEOUT the point keeps STAMP and REFRESH. -/
def State.winPointRead (s : State) (p st : Nat) (d : List Byte) : State :=
  if st = stOK then s.ownerWrite p (natLE (slice d 0 8)) s.fns48 qGood
  else if st = stTIMEOUT then s.setQual p qFault
  else s.ownerWrite p (s.pt p).value.toNat s.fns48 qFault

/-- The end of the request in flight at a window: a status, the bytes of a read, and the device's own code, which a read that ends with
DEVICE returns (R51, R79). -/
def State.winEnd (s : State) (r : WinReq) (st : Nat) (d : List Byte) (code : Nat) : State :=
  let addr := 4 * 2 ^ 40 + r.window * 2 ^ 32 + r.addr
  let s := s.winNext r.window
  match r.who with
  | .reader who => s.readEnd who addr st (if st = stDEVICE then bytesLE 8 code else d) true
  | .rread node tag _ => s.sendRsp node tag st d
  | .item src flow seq inc k st0 code0 =>
    match s.twoItem src flow seq inc with
    | none => s
    | some it =>
      let s := if s.windowPoint it then s.winPointWritten (adOff it.addr / 16 + k) st else s
      s.winRun it (if st0 = stOK then st else st0) (if st0 = stOK then code else code0) ((s.winRecs it).filter (fun j => decide (k < j)))
  | .refresh p => s.winPointRead p st d

/-- WINDOW_DEVICE_ANSWER (R79): the device behind a window answers the request in flight, with the bytes of a read, or with its own
error code. -/
def windowDeviceAnswer (w : Fin 256) (ok : Bool) (data : List Byte) (s : State) : State :=
  if !s.domOn 7 then s
  else
    match s.winHead w.val with
    | none => s
    | some r =>
      if ok then s.winEnd r stOK (if r.write then [] else slice data 0 r.len) 0
      else s.winEnd r stDEVICE [] (natLE (data.take 8))

/-- WINDOW_TIMEOUT (R72, R79): the device did not answer within the window's TMO. -/
def windowTimeout (w : Fin 256) (s : State) : State :=
  match s.winHead w.val with
  | none => s
  | some r => if !s.domOn 7 ∨ s.absNs < r.due then s else s.winEnd r stTIMEOUT [] 0

/-- WINDOW_REFRESH (R80): the agent reads the object of a WINDOW point at its refresh period. -/
def windowRefresh (pt : Fin 262144) (s : State) : State :=
  let p := pt.val
  match s.bindOf p with
  | none => s
  | some b =>
    if !s.domOn 7 ∨ (s.pt p).typ = tyUndef ∨ s.ownerKind p ≠ okAgent ∨ s.winForm (b.window * 2 ^ 32 + b.obj) b.size ≠ stOK then s
    else if s.pts.reqs.any (fun q => q.who == .refresh p) then s
    else if (SMap.get (fun _ => none) s.pts.refAt p).any (fun t => decide (s.absNs < t + 1000 * (b.period : Int))) then s
    else
      { s with pts := { s.pts with refAt := SMap.set (fun _ => none) s.pts.refAt p (some s.absNs) } }.winPost
        ⟨b.window, b.obj, b.size, false, [], .refresh p, 0⟩

/-! ### Held accesses (R10, R451) -/

/-- Whether a held access may proceed. -/
def State.heldReady (s : State) (h : Held) : Bool :=
  s.spaceGate h.m h.space h.off != 1 && !(h.isRegWrite h.m && s.attrWaits h.m h.off)

/-- Whether a held access came from the same master as a later one, both in space 0x01: they keep their order (R38). -/
def Held.before (e h : Held) : Bool := e.space == 1 && h.space == 1 && ofMaster h.m e.m.mid.val e.m.node.toNat

/-- The first held access that may proceed and that no earlier one of its master stands before, with those before it and after it. -/
def State.heldPick (s : State) : List Held → List Held → Option (List Held × Held × List Held)
  | _, [] => none
  | pre, h :: l => if s.heldReady h && !pre.any (·.before h) then some (pre, h, l) else s.heldPick (pre ++ [h]) l

/-- A held access performed. -/
def State.heldRun (s : State) (h : Held) : State :=
  let addr := h.space * 2 ^ 40 + h.off
  match h.tag, h.op with
  | some t, .read len => s.serveRread h.m addr len t h.m.mid.val
  | some _, _ => s
  | none, .read len => s.masterRead h.m addr len
  | none, .write d => s.masterWrite h.m addr d
  | none, .atomic op a b => s.masterAtomic h.m addr op a b

/-- HELD_ACCESS_COMPLETE (R10, R38): the first held access whose domain has come on, or whose address is free, and that follows no other
of its master completes; with none, the read in progress of the USB function carries on. -/
def heldAccessComplete (s : State) : State :=
  match s.heldPick [] s.held with
  | none => s.usbGo
  | some (pre, h, l) =>
    let t := ({ s with held := [] }).heldRun h
    { t with held := pre ++ t.held ++ l }

/-! ### Accesses of local masters -/

/-- The fabric address of an offset of a space on this node (R47). -/
def ownAddr (space off : Nat) : Nat := space * 2 ^ 40 + off % 2 ^ 40

/-- CISTERN_PUSH, CISTERN_PUSH_CLOSE, CISTERN_CLOSE and CISTERN_ABORT (R337 to R339): a local master's store at a port. -/
def cisternPush (m : Master) (n : Fin 256) (data : List Byte) (s : State) : State :=
  s.masterWrite m (ownAddr 2 (cstOff 0 n.val 0)) data
def cisternPushClose (m : Master) (n : Fin 256) (typ : Fin 128) (data : List Byte) (s : State) : State :=
  s.masterWrite m (ownAddr 2 (cstOff typ.val n.val 1)) data
def cisternClose (m : Master) (n : Fin 256) (typ : Fin 128) (s : State) : State :=
  s.masterWrite m (ownAddr 2 (cstOff typ.val n.val 4)) (List.replicate 4 0)
def cisternAbort (m : Master) (n : Fin 256) (s : State) : State :=
  s.masterWrite m (ownAddr 2 (cstOff 0 n.val 3)) (List.replicate 4 0)

/-- CISTERN_POP (R8, R340, R343): a local master's POP of `len` bytes; `bad` and `corr` are what the words' codes show where the
space is served. -/
def cisternPop (m : Master) (n : Fin 256) (len : Nat) (bad : Option Nat) (corr : Nat) (s : State) : State :=
  let off := cstOff 0 n.val 2
  if s.spaceGate m 2 off ≠ 0 then s.masterRead m (ownAddr 2 off) len
  else
    let (st, l, s) := s.cstRead off len bad corr
    if st = stOK ∨ st = stDATA then s.answer m st l else s.cstRefuse m 0 off st

/-- POINT_READ (R61). -/
def pointRead (m : Master) (off len : Nat) (s : State) : State := s.masterRead m (ownAddr 0 off) len

/-- POINT_WRITE (R62). -/
def pointWrite (m : Master) (off : Nat) (data : List Byte) (s : State) : State := s.masterWrite m (ownAddr 0 off) data

/-- POINT_ATOMIC (R64). -/
def pointAtomic (m : Master) (off : Nat) (op : AtomicOp) (a b : BitVec 64) (s : State) : State := s.masterAtomic m (ownAddr 0 off) op a b

/-- WINDOW_READ (R79): an object of a downstream window. -/
def windowRead (m : Master) (w : Fin 256) (obj : BitVec 32) (len : Nat) (s : State) : State :=
  s.masterRead m (ownAddr 4 (w.val * 2 ^ 32 + obj.toNat)) len

/-- JOURNAL_WINDOW_READ (R198): bytes of a journal, flow, log, telemetry or snapshot window. -/
def journalWindowRead (m : Master) (w : Fin 256) (off : BitVec 32) (len : Nat) (s : State) : State :=
  s.masterRead m (ownAddr 3 (w.val * 2 ^ 32 + off.toNat)) len

/-- REMOTE_READ_REQUEST (R522 step 1): a local master's read of another node. -/
def remoteReadRequest (m : Master) (addr : BitVec 64) (len : Nat) (s : State) : State :=
  if s.isHere addr.toNat then s else s.masterRead m addr.toNat len

/-- The form checks that the originator makes on a submission (R61, R62, R65, R166). -/
def workForm (op sp off len : Nat) (grp : Bool) : Nat :=
  if op = 7 then remoteForm 1 sp off len grp
  else if 1 ≤ op ∧ op ≤ 6 then remoteForm op sp off len grp
  else if op = 0x10 ∧ (sp ≠ 2 ∨ (cstDecode off).isNone) then stADDR
  else stOK

/-- WORK_SUBMIT (R166): a local master submits an item to a flow. -/
def workSubmit (m : Master) (flow : Fin 1024) (op : Fin 256) (addr : BitVec 64) (data : List Byte) (seg : Fin 4) (s : State) : State :=
  let path := if 2 ≤ op.val ∧ op.val ≤ 6 then Path.atomic m else .store m
  let it := { newItem flow.val op.val addr.toNat data m.mid.val path with seg := seg.val }
  let a := addr.toNat
  let st := workForm op.val (adSpace a) (adOff a) data.length (decide (0xFF00 ≤ adNode a))
  match if st = stOK then s.submit it else (st, s) with
  | (st, s) => if st = stOK then s else (s.accErr m 1 addr.toNat st).answer m st []

end Sys2Proof.Machine
end

