-- ==== Sys2Proof/Machine/HostPort.lean ====
section
/-! DEFINITION. The host port's commands (R231 to R251), posted writes on their way to their targets, and the commands of the USB
function (R370 to R376). -/

namespace Sys2Proof.Machine

/-- A host command starts: LINES takes the configured width, 3 acting as 0 (R232, R258), and the response before it has been taken, or is no
longer waited for. -/
def State.hostStart (s : State) : State :=
  (s.p HST_STAT.LINES (s.g HST_CFG.LINES % 3)).bm (fun b => { b with inResp := none, await := none })

/-- A host command whose CRC is right and that Sluice can take, carried out by `act`; else answered CRC or DOWN, with what its response holds after
STATUS (R233, R235, R237). -/
def State.hostCmd (s : State) (crcOk : Bool) (fill : List Byte) (act : State → State) : State :=
  let s := s.hostStart
  if s.flag HST_CFG.CRC ∧ !crcOk then (s.count HST_CRC_ERR.off).hostAnswer stCRC fill
  else if !s.domOn 6 then s.hostAnswer stDOWN fill
  else act s

/-! ### Reads (R240 to R244) -/

/-- The lowest free TAG of the delayed-read table. -/
def State.freeTag (s : State) : Option Nat := (List.range 64).find? (fun t => !s.brg.dr.any (fun e => e.tag == t))

/-- The response waits, at most to an instant, for what a command needs (R240, R246). -/
def State.hostAwait (s : State) (w : HostWait) (due : Int) : State := s.bm (fun b => { b with await := some (w, due) })

/-- A read of the host carried out as far as it goes; its response waits for its end up to `due`. With the table full it waits for an
entry (R240). -/
def State.hostIssue (s : State) (addr len : Nat) (once : Bool) (due : Int) : State :=
  match s.freeTag with
  | none => s.hostAwait (.entry addr len once) due
  | some tag => ((s.bm (fun b => { b with dr := b.dr ++ [s.newRead tag addr len once] })).hostAwait (.read tag) due).drGo tag

/-- The bytes of a READ that the prefetch buffer holds whole (R244); none once 10 µs have passed, or while a write posted earlier has not
drained, for which every read waits (R242). -/
def State.pfHit (s : State) (addr len : Nat) : Option (List Byte) :=
  match s.brg.pf with
  | none => none
  | some (t, at_, d) =>
    let off := adOff addr
    if s.absNs - at_ < 10000 ∧ s.brg.posted = [] ∧ s.isHere addr ∧ adSpace addr = 0 ∧ off / 256 = t ∧ off % 256 + len ≤ 256 ∧ (Machine.readForm hostM off len).isSome then
      some (slice d (off % 256) len)
    else none

/-- HOST_READ (R233, R240, R243, R244). -/
def hostRead (addr : BitVec 64) (len : Nat) (crcOk : Bool) (s : State) : State :=
  s.hostCmd crcOk (bytesBE 1 0xFF) (fun s =>
    let a := addr.toNat
    match s.pfHit a len with
    | some d =>
      let s := s.bm (fun b => { b with pf := none })
      (s.prefetch a len).hostAnswer stOK (bytesBE 1 0xFF ++ d)
    | none =>
      let s := if s.brg.pf.isSome then s.pfDrop else s
      let st := s.readForm a len false
      if st ≠ stOK then (s.accErr hostM 0 a st).hostAnswer st (bytesBE 1 0xFF)
      else s.hostIssue a len false (s.absNs + s.waitNs))

/-- HOST_READ_ONCE (R233, R243). -/
def hostReadOnce (addr : BitVec 64) (len : Nat) (crcOk : Bool) (s : State) : State :=
  s.hostCmd crcOk (bytesBE 1 0xFF) (fun s =>
    let st := s.readForm addr.toNat len true
    if st ≠ stOK then (s.accErr hostM 0 addr.toNat st).hostAnswer st (bytesBE 1 0xFF)
    else s.hostIssue addr.toNat len true (s.absNs + s.waitNs))

/-- HOST_CLAIM (R241, R243). -/
def hostClaim (tag : Fin 256) (crcOk : Bool) (s : State) : State :=
  s.hostCmd crcOk (bytesBE 1 0xFF) (fun s =>
    let t := tag.val
    match s.drEnt t with
    | none => s.hostAnswer stNOTAG (bytesBE 1 0xFF)
    | some e =>
      match e.done with
      | none => if e.doubt then s.hostAnswer stDOUBT (bytesBE 1 t) else s.hostAnswer stRETRY (bytesBE 1 t)
      | some (st, at_) =>
        if 1000000 * (e.window : Int) ≤ s.absNs - at_ then s.hostAnswer stNOTAG (bytesBE 1 0xFF)
        else
          ((s.freeDr t).bm (fun b => { b with inResp := some e })).hostAnswer st (bytesBE 1 t ++ (if st = stOK then e.data else [])))

/-- HOST_STATUS (R233, R237): answered in every power state. -/
def hostStatus (crcOk : Bool) (s : State) : State :=
  let s := s.hostStart
  if s.flag HST_CFG.CRC ∧ !crcOk then (s.count HST_CRC_ERR.off).hostAnswer stCRC []
  else s.hostAnswer stOK (bytesBE 4 (s.found hostM HST_STAT.off).toNat ++ bytesBE 4 (s.found hostM HST_ATTN.off).toNat)

/-- HOST_BAD_OPCODE (R233, R235). -/
def hostBadOpcode (s : State) : State := (s.hostStart.count HST_OPC_ERR.off).hostAnswer stOPCODE []

/-- HOST_ABORT (R238): the entry whose data the response carries, or was to carry, is unclaimed again; a read that the response waits for
runs on in an entry that no host holds the TAG of. DESIGN CHOICE: a command that still waits for an entry or for room has done
nothing, and is not carried out. -/
def hostAbort (phase : HostPhase) (s : State) : State :=
  let s := s.count HST_ABORT_CNT.off
  match phase with
  | .command => s.hostStart
  | _ => s.bm (fun b => { b with inResp := none, await := none, dr := b.dr ++ b.inResp.toList })

/-! ### Posted writes (R246, R247) -/

/-- The status that refuses a WRITE as it is posted (R246); 0 for none. A register offset of space 0x01 that no register has is refused here
(R27). -/
def State.postCheck (s : State) (addr len : Nat) : Nat :=
  if !s.isHere addr ∧ (s.routeOf addr).isNone then stADDR
  else
    ((pieces addr len).map (fun p =>
      let st := remoteForm 1 (adSpace p.1) (adOff p.1) p.2 (decide (0xFF00 ≤ adNode p.1))
      if st = stOK ∧ adSpace p.1 = 1 ∧ (List.range (p.2 / 4)).any (fun k => (regRow (adOff p.1 + 4 * k)).isNone) then stADDR else st)).find?
        (· != stOK) |>.getD stOK

/-- The bytes of the pieces of a WRITE. -/
def pieceData (addr : Nat) (data : List Byte) : List (Nat × List Byte) :=
  (pieces addr data.length).map (fun p => (p.1, (data.drop (p.1 - addr)).take p.2))

/-- A WRITE posted (R246), where the buffer has room for every piece. -/
def State.post (s : State) (a : Nat) (data : List Byte) : State :=
  let ps := pieceData a data
  let first := s.g BRG_PW_SEQ.NEXT
  let ents := ps.zipIdx.map (fun p =>
    ({ pw := (first + p.2) % 65536, addr := p.1.1, data := p.1.2, flow := s.routeOf a, since := s.absNs, handed := false } : PwEnt))
  let s := s.bm (fun b => { b with
    await := none, posted := b.posted ++ ents, unres := b.unres ++ ents.map (fun e => (e.pw, e.addr)) })
  let s := (s.p BRG_PW_SEQ.NEXT (first + ps.length)).pwSync
  s.hostAnswer stOK (bytesBE 2 first ++ bytesBE 1 ps.length)

/-- Whether the posted-write buffer has room for the pieces of a WRITE. -/
def State.postRoom (s : State) (a : Nat) (data : List Byte) : Bool := decide (s.brg.posted.length + (pieceData a data).length ≤ 256)

/-- HOST_WRITE (R246): posted whole or refused whole; without room the response waits for it up to WAIT. The PWSEQ of a response that posts nothing
is a free value. -/
def hostWrite (addr : BitVec 64) (data : List Byte) (crcOk : Bool) (s : State) : State :=
  let (v, s) := s.free
  let refused := bytesBE 2 v ++ bytesBE 1 0
  s.hostCmd crcOk refused (fun s =>
    let a := addr.toNat
    let st := s.postCheck a data.length
    if st ≠ stOK then (s.accErr hostM 1 a st).hostAnswer st refused
    else if s.postRoom a data then s.post a data
    else s.hostAwait (.room a data) (s.absNs + s.waitNs))

/-- Whether a write is applied here as state, and so waits for every earlier one (R247). -/
def State.stateTarget (s : State) (addr : Nat) : Bool :=
  s.isHere addr && !(adSpace addr == 0 && decide (adOff addr < 0x400000) && s.writeRow (adOff addr / 16) != 0)

/-- A piece of a write handed to its target (R247, R375); for another node, on the flow of its route. -/
def State.handPiece (s : State) (m : Master) (addr : Nat) (data : List Byte) (path : Path) (flow : Option Nat) : Served × State :=
  if s.isHere addr then s.localWrite m addr data path
  else
    match s.remoteItem m.mid.val 1 addr data path flow with
    | (.done st d, s) => (.done st d, s.accErr m 1 addr st)
    | r => r

/-- POSTED_WRITE_DRAIN (R247): the next posted entry handed to its target. -/
def postedWriteDrain (s : State) : State :=
  match s.brg.posted.find? (fun e => !e.handed) with
  | none => s
  | some e =>
    if !s.domOn 6 ∨ (s.stateTarget e.addr && s.brg.posted.head?.any (fun h => h.pw != e.pw)) then s
    else
      let mark := fun (s : State) => s.bm (fun b => { b with
        posted := b.posted.map (fun x => if x.pw = e.pw then { x with handed := true } else x) })
      match (mark s).handPiece hostM e.addr e.data (.posted e.pw) e.flow with
      | (.done st _, s) => s.pathDone (.posted e.pw) st
      | (.taken, s) => s
      | (.wait, _) => s

/-- Whether the request of a host read waits at a window behind the ring side (R250). -/
def State.readPassed (s : State) (tag : Nat) : Bool :=
  s.pts.reqs.any (fun q => q.who == .reader (.dr tag) &&
    (s.winHead q.window).any (fun h => h.who != .reader (.dr tag) && ringSide h.who))

/-- Whether a host read that has issued nothing is passed over by the ring side (R250, R251). -/
def State.readHeldOff (s : State) (tag : Nat) : Bool := (s.drEnt tag).any (fun e => e.data.isEmpty) && s.readPassed tag

/-- Whether the ring side has an item waiting at what a posted entry needs (R250): the point engine's bridge port, a Cistern's write port,
or a window. -/
def State.pieceHeldOff (s : State) (addr : Nat) : Bool :=
  let sp := adSpace addr
  s.flow.inb.any (fun e => e.wait.any (fun it =>
    adSpace it.addr == sp && (sp == 0 || (sp == 2 && it.addr / 4096 % 256 == addr / 4096 % 256)))) ||
    (sp == 4 && (s.winHead (adOff addr / 2 ^ 32)).any (fun h => ringSide h.who))

/-- HOST_BACKOFF (R251): the ring side has held for WAIT what the host's access needs. A read not yet issued is answered RETRY with TAG 0xFF; with
no TAG, the posted entry at the head stays there. -/
def hostBackoff (tag : Option (Fin 64)) (s : State) : State :=
  match tag with
  | none =>
    match s.brg.posted.head? with
    | some e =>
      if !s.domOn 6 ∨ e.handed ∨ !s.pieceHeldOff e.addr ∨ s.absNs - e.since < s.waitNs then s
      else
        (s.bm (fun b => { b with posted := b.posted.map (fun x => if x.pw = e.pw then { x with since := s.absNs } else x) })).count
          BRG_BACKOFF_CNT.off
    | none => s
  | some t =>
    if !s.readHeldOff t.val ∨ !s.brg.await.any (fun w => w.1 == .read t.val && decide (w.2 ≤ s.absNs)) then s
    else
      let s := { s with pts := { s.pts with reqs := s.pts.reqs.filter (fun q => q.who != WinFor.reader (.dr t.val)) } }
      (((s.freeDr t.val).bm (fun b => { b with await := none })).count BRG_BACKOFF_CNT.off).hostAnswer stRETRY (bytesBE 1 0xFF)

/-- The command that the host port has in hand as time passes (R240, R246): it takes the entry or the room that has come free; at the end of
WAIT it is answered RETRY with the read's TAG, or BUSY. A read held off by the ring side is left to HOST_BACKOFF. -/
def State.hostTick (s : State) : State :=
  match s.brg.await with
  | none => s
  | some (.read tag, due) =>
    if s.absNs < due ∨ s.readHeldOff tag then s
    else
      match s.drEnt tag with
      | some e => ((s.setDr { e with retried := true }).bm (fun b => { b with await := none })).hostAnswer stRETRY (bytesBE 1 tag)
      | none => s.bm (fun b => { b with await := none })
  | some (.entry a len once, due) =>
    if s.freeTag.isSome then s.hostIssue a len once due
    else if s.absNs < due then s
    else (s.bm (fun b => { b with await := none })).hostAnswer stBUSY (bytesBE 1 0xFF)
  | some (.room a d, due) =>
    if s.postRoom a d then s.post a d
    else if s.absNs < due then s
    else
      let (v, s) := s.free
      (s.bm (fun b => { b with await := none })).hostAnswer stBUSY (bytesBE 2 v ++ bytesBE 1 0)

/-! ### USB commands (R371, R373 to R376) -/

/-- Whether EP2 takes a command now (R371). -/
def State.ep2Ready (s : State) : Bool :=
  s.usbRuns && s.ust4 == ubConfigured && decide (s.usb.resps.length < 4) && s.usb.write.isNone && s.usb.read.isNone

/-- The pieces of the WRITE in progress handed on in order, as far as they can (R247, R375). -/
def State.usbHand (s : State) : Nat → State
  | 0 => s
  | fuel + 1 =>
    match s.usb.pieces.find? (fun e => !e.handed) with
    | none => s
    | some e =>
      if s.stateTarget e.addr && s.usb.pieces.head?.any (fun h => h.useq != e.useq) then s
      else
        let mark := fun (s : State) => s.um (fun u => { u with
          pieces := u.pieces.map (fun x => if x.useq = e.useq then { x with handed := true } else x) })
        match (mark s).handPiece usbM e.addr e.data (.usb e.useq) (s.routeOf e.addr) with
        | (.done st _, t) => (t.pathDone (.usb e.useq) st).usbHand fuel
        | (.taken, t) => t.usbHand fuel
        | (.wait, _) => s

/-- USB_WRITE (R375): the last data packet of a WRITE arrives; its pieces are submitted, or the WRITE is refused whole. -/
def usbWrite (tag : BitVec 16) (addr : BitVec 64) (data : List Byte) (s : State) : State :=
  if !s.ep2Ready then s
  else
    let a := addr.toNat
    let s := s.traffic USB_RX_BYTES_LO.off (16 + data.length)
    let st := s.postCheck a data.length
    if st ≠ stOK then (s.accErr usbM 1 a st).usbRespond ⟨st, tag.toNat, 0, 0, [], a, false, false⟩
    else
      let ps := pieceData a data
      let first := s.g USB_FN_SEQ.NEXT
      let ents := ps.zipIdx.map (fun p => (⟨(first + p.2) % 65536, p.1.1, p.1.2, false⟩ : UPiece))
      let s := s.um (fun u => { u with
        pieces := u.pieces ++ ents, unres := u.unres ++ ents.map (fun e => (e.useq, e.addr)),
        write := some (tag.toNat, first, ps.length) })
      ((s.p USB_FN_SEQ.NEXT (first + ps.length)).usbSync).usbHand 6

/-- USB_WRITE_ACK (R375): the last packet is acknowledged once every piece has been applied or accepted. -/
def usbWriteAck (s : State) : State :=
  let s := s.usbHand 6
  match s.usb.write with
  | none => s
  | some (tag, first, n) =>
    if !s.usbRuns ∨ s.usb.pieces ≠ [] then s
    else (s.um (fun u => { u with write := none })).usbRespond ⟨stOK, tag, first, n, [], 0, false, false⟩

/-- A USB read begun, or refused (R376). -/
def State.usbIssue (s : State) (tag : BitVec 16) (addr len : Nat) (once : Bool) : State :=
  if !s.ep2Ready then s
  else
    let s := s.traffic USB_RX_BYTES_LO.off 16
    let st := s.readForm addr len once
    if st ≠ stOK then (s.accErr usbM 0 addr st).usbRespond ⟨st, tag.toNat, 0, 0, [], addr, false, st == stADDR⟩
    else (s.um (fun u => { u with read := some (s.newRead tag.toNat addr len once) })).usbGo

/-- USB_READ (R376). -/
def usbRead (tag : BitVec 16) (addr : BitVec 64) (len : Nat) (s : State) : State := s.usbIssue tag addr.toNat len false

/-- USB_READ_ONCE (R243, R376). -/
def usbReadOnce (tag : BitVec 16) (addr : BitVec 64) (len : Nat) (s : State) : State := s.usbIssue tag addr.toNat len true

/-- USB_BAD_COMMAND (R373): an unknown opcode, a reserved bit set, or a transfer shorter than its block gives. -/
def usbBadCommand (tag : BitVec 16) (s : State) : State :=
  if !s.ep2Ready then s else (s.count USB_CMD_ERR.off).usbRespond ⟨stOPCODE, tag.toNat, 0, 0, [], 0, false, false⟩

end Sys2Proof.Machine
end

