-- ==== Sys2Proof/Machine/Domains.lean ====
section
/-! DEFINITION. What a domain loses when it leaves ON, what it comes back with, and the resets (R188, R249, R331, R402 to R408, R423 to
R425, R457). -/

namespace Sys2Proof.Machine

/-! ### Losing state -/

/-- The registers at the offsets that `p` selects return to their reset values, with their read and staging latches. -/
def State.dropRegs (s : State) (p : Nat → Bool) : State :=
  { s with
    regs := SMap.drop (fun k => p (k % 2 ^ 22)) s.regs,
    latches := s.latches.filter (fun w => !p (w.key % 2 ^ 22)),
    staging := s.staging.filter (fun w => !p (w.key % 2 ^ 22)) }

/-- The registers of a domain whose values live in Reservoir or in fuses and the key store: FLOW_LINES and SEC_SVN_MIN. -/
def storedReg (off : Nat) : Bool := off == FLOW_LINES_LO.off || off == FLOW_LINES_HI.off || off == SEC_SVN_MIN.off

/-- The flow engine stopped: what Reservoir holds stays, the rest is lost (R170, R189). -/
def State.flowLose (s : State) : State :=
  s.fm (fun x => { Flows.reset with
    ring := x.ring, retired := x.retired, corrAt := x.corrAt, sens := x.sens, cut := x.cut, nodeRec := x.nodeRec, budAt := s.absNs })

/-- What the blocks of a domain hold beside their registers is lost (R402, R408). -/
def State.loseData (s : State) (d : Nat) : State :=
  if d = 1 ∨ d = 2 then s.bankClear (d - 1) (fun _ => true)
  else if d = 3 ∨ d = 4 then { s with links := { s.links with ports := SMap.drop (fun p => p / 2 == d - 3) s.links.ports } }
  else if d = 5 then { s with links := ⟨s.links.ports, [], [], [], [], [], []⟩, cyc := Cycle.reset }
  else if d = 6 then { s with sw := ⟨0, [], [], [], [], [], s.sw.eth, []⟩, brg := Brg.reset, cst := ⟨[], [], 0⟩ }
  else if d = 7 then { s with pts := Points.empty s.absNs }
  else if d = 8 then s.flowLose
  else if d = 9 then { s with sw := { s.sw with eth := [] } }
  else if d = 10 then { s with usb := Usb.reset }
  else if d = 11 then { s with can := [] }
  else if d = 12 ∨ d = 13 then
    let s := s.wr JET_SIG.off (BitVec.ofNat 32 (setBits (s.rd JET_SIG.off).toNat (8 * (d - 12)) 8 0))
    { s with jets := { s.jets with jets := SMap.drop (fun j => j / 32 == d - 12) s.jets.jets } }
  else if d = 14 then s.sm (fun c => { c with sessions := [], claimNode := 0, nonceFor := none, linkKeys := [], ka := [] })
  else if d = 15 then { s with feeds := [] }
  else s

/-- A domain goes OFF: its registers and its data are lost (R402). -/
def State.loseDomain (s : State) (d : Nat) : State :=
  let dbg := s.g SEC_STAT.DEBUG
  let s := if d = 6 then s.weirKeep else s
  let s := (s.loseData d).dropRegs (fun off => domainOf off == d && !storedReg off)
  if d = 14 then s.p SEC_STAT.DEBUG dbg else s

/-- What a domain in RETENTION keeps of its banks (R408): the mask taken at its entry; of a Fountainhead unit the scratch bank always
(R288), and the program banks of a standby or failed one (R298, R301). -/
def State.retMask (s : State) (d : Nat) : Nat :=
  let m := s.g (PWR_DOM_RET.BANKS d)
  if d = 1 ∨ d = 2 then
    let u := s.unit (d - 1)
    m ||| 0x100 ||| (if u = fhStandby ∨ u = fhFailed then s.g FH_BANKS.PROG else 0)
  else m

/-- The banks of a domain that its mask does not keep, lost (R408, R331). -/
def State.loseBanks (s : State) (d m : Nat) : State :=
  if d = 1 ∨ d = 2 then s.bankClear (d - 1) (fun b => !m.testBit b)
  else if d = 6 then
    let whole := fun (n : Nat) =>
      let base := s.g (CST_REGION.BASE n)
      let size := s.g (CST_REGION.SIZE n)
      (List.range 4).all (fun q => m.testBit q || decide (base + size ≤ 1024 * q ∨ 1024 * (q + 1) ≤ base))
    let s := { s with cst := { s.cst with cist := s.cst.cist.filter (fun e => whole e.1) } }
    { s with sw := ⟨0, [], [], [], [], [], s.sw.eth, []⟩, brg := { s.brg with dr := [], inResp := none, await := none, posted := [], pf := none } }
  else if d = 12 ∨ d = 13 then
    s.dropRegs (fun off =>
      decide (0x180000 ≤ off ∧ off < 0x190000 ∧ 0x200 ≤ off % 0x400) && (off - 0x180000) / 0x8000 == d - 12 &&
        !m.testBit ((off - 0x180000) / 0x2000 % 4))
  else s

/-! ### Entry and transitions (R405 to R408) -/

/-- What happens as a domain leaves ON: BYP_N low for RING_A and AQUEDUCT (R125), the frames on the CAN buses cut (R363), the Jets of a bank stopped
(R331). -/
def State.leaveOn (s : State) (d : Nat) : State :=
  if d = 3 ∨ d = 5 then s.bypassDrop else if d = 11 then s.canOff else if d = 12 ∨ d = 13 then s.bankHalt (d - 12) else s

/-- DOMAIN_ENTRY_BEGIN (R406): a domain in PENDING begins entry to its idle state once its holds have cleared. -/
def domainEntryBegin (d : Fin 16) (s : State) : State :=
  let d := d.val
  if d = 0 ∨ s.dom d ≠ dsPending then s
  else
    if s.holdOf d ≠ 0 then s
    else if s.idleOff d then (s.leaveOn d).beginTrans d dsToOff
    else
      let m := s.retMask d
      let s := (s.leaveOn d).beginTrans d dsToRet
      { s with power := { s.power with retUsed := SMap.set (fun _ => 0) s.power.retUsed d m } }

/-- A domain has reached ON (R60, R331, R408, R412). -/
def State.reachOn (s : State) (d : Nat) : State :=
  let fromRet := SMap.get (fun _ => 0) s.power.onFrom d == 1
  let s := s.setDom d dsOn
  let s := if d = 7 then (if fromRet then s.patrolBegin else s.pointsInit.patrolBegin)
    else if d = 6 then (List.range 256).foldl (fun s n => s.weirEval n) s
    else if d = 10 then s.usbLink
    else if d = 15 then (List.range 16).foldl (fun s n => s.cmpEval n) s
    else s
  s.wakeDone d

/-- DOMAIN_TRANSITION_DONE (R407): the transition of a domain ends; transitions that waited begin. -/
def domainTransitionDone (d : Fin 16) (s : State) : State :=
  let d := d.val
  let st := s.dom d
  if d = 0 then s
  else if st = dsToOn then (s.reachOn d).powerEval
  else if st = dsToRet then
    ((s.loseBanks d (SMap.get (fun _ => 0) s.power.retUsed d)).setDom d dsRet).powerEval
  else if st = dsToOff then ((s.loseDomain d).setDom d dsOff).powerEval
  else s

/-! ### Entering a reset (R188, R249, R424, R425, R457) -/

/-- Groups committed, and the open one closed, until none is left. -/
def State.commitAll (s : State) : Nat → State
  | 0 => s
  | n + 1 =>
    if s.flow.commit.isSome then (groupCommitDone s).commitAll n
    else if s.flow.opened.isSome then s.closeGroup.commitAll n
    else s

/-- The flow engine commits what has been submitted, and what those commits open a group for: the outcomes of two-phase items and the OUTSTATE
of an ABANDON (R186, R188). -/
def State.flowStop (s : State) : State :=
  let s := (s.p FLOW_STAT.STATE feStopping).closeGroup
  s.commitAll (s.flow.closed.length + 8)

/-- Sluice records the posted writes that were never handed to a target (R249). -/
def State.sluiceStop (s : State) : State :=
  ((s.pb HST_ATTN.PWF (s.hstAttn.getLsbD 0)).pb HST_ATTN.STR (s.hstAttn.getLsbD 1)).pwLost

/-- How a reset meets the update (R457). -/
def State.updMeets (s : State) : State :=
  let st := s.ust
  let s := s.upm (fun u => { u with
    building := false, peers := [], loading := none, confirm := false, cDue := none, cAt := none,
    applying := (u.applying && u.rec_ == 2), reapply := false, lateTrig := false })
  if st = usStaging then (s.upm (fun u => { u with revert := false, records := [] })).setUst usBuilt
  else if s.upd.rec_ = 1 then ((s.upm (fun u => { u with rec_ := 0, applying := false })).p UPD_STAT.CAUSE 14).setUst usStaged
  else s

/-- The units as a reset leaves them: halted, no fail-over, no copy, no proof-wake, no first RELEASE yet (R422, R424, R439). -/
def State.unitsStop (s : State) : State :=
  s.hm (fun h => { h with
    released := false, halted := [0, 1], resumed := none, trig := none, stuck := false, copy := none, proof := none, rearm := none,
    reading := none })

/-- The start-up that a reset of a kind and source leads to stands at stage 1. `keep` keeps the slot that a fallback chose (R436). -/
def State.bootWaits (s : State) (kind : Nat) (keep : Bool) : State :=
  let s := ((s.p CFG_BOOT.STAGE 1).p CFG_BOOT.KIND kind)
  let s := if keep then s else (s.wr CFG_BOOT_ERR.off 0).pb CFG_BOOT.FALLBACK false
  { s with boot := { s.boot with busy := false, kind := kind, first := !keep } }

/-- CFG_RST_CAUSE and CFG_RST_CNT of a reset (R440). -/
def State.rstCause (s : State) (r : ResetReq) : State :=
  (((s.p CFG_RST_CAUSE.KIND r.kind).p CFG_RST_CAUSE.SRC r.src).p CFG_RST_CAUSE.MID r.mid).count CFG_RST_CNT.off

/-- Registers of AON that a SYSTEM reset returns to their reset values (R425): PWR but for AVS, CMP, DEV_RMT_MAP, and the
registers of the Jets that lie there. -/
def sysReset (off : Nat) : Bool :=
  (decide (0x010000 ≤ off ∧ off < 0x020000) && !decide (0x010800 ≤ off ∧ off < 0x010818)) ||
    decide (0x220000 ≤ off ∧ off < 0x230000) || off == DEV_RMT_MAP.off || decide (0x190020 ≤ off ∧ off < 0x190210)

/-- The domains after the entry of a SYSTEM reset (R424): FH_A and FH_B in RETENTION, FEED as it stood, the others OFF. -/
def State.sysDomains (s : State) (feed : Nat) : State := (((s.setDom 0 dsOn).setDom 1 dsRet).setDom 2 dsRet).setDom 15 feed

/-- A SYSTEM reset entered (R424, R425, R439): Sluice and the flow engine stop in order, BYP_N goes low, the domains go; a start-up
follows. -/
def State.sysEnter (s : State) (r : ResetReq) : State :=
  let keep := r.src == 5 && s.boot.busy && !s.boot.first
  let feed := s.dom 15
  let s := (s.flowStop.sluiceStop).bypassDrop.rstCause r
  let s := [1, 2].foldl (fun s u => s.bankClear (u - 1) (fun b => b < 8)) s
  let s := [3, 4, 5, 6, 7, 8, 9, 10, 11, 12, 13, 14].foldl State.loseDomain s
  let s := (s.dropRegs (fun off => sysReset off)).sysDomains feed
  let s := ((s.unitsStop.setUnit 0 fhOff).setUnit 1 fhOff).safeLeave
  let s := ((s.pb HST_STAT.RST true).pb HST_ATTN.DR_DONE false).pb HST_ATTN.EVT false
  let s := (s.pb FH_CKPT_STAT.BUSY false).updMeets.bootWaits 1 keep
  let s := { s with
    held := [],
    jets := { s.jets with fired := [], tgRestarts := [], safeStop := false },
    sump := { s.sump with react := none },
    power := { s.power with wakeOut := [], lastWait := [], retUsed := [], onFrom := SMap.drop (fun d => d != 15) s.power.onFrom, cmpFilt := [] } }
  (List.range 8).foldl (fun s n => s.cmpEval (16 + n)) s

/-- A CONTROL reset entered (R424, R425, R439): both triads halt and safe state is kept; the start-up reloads them. During a start-up of
a stronger kind, that start-up begins again. -/
def State.ctlEnter (s : State) (r : ResetReq) : State :=
  let kind := if s.g CFG_BOOT.STAGE < 5 ∧ s.boot.kind < 2 then s.boot.kind else 2
  let s := (s.rstCause r).safeEnter.unitsStop
  let s := [0, 1].foldl (fun s u => (s.bankClear u (fun b => b < 8)).setUnit u fhOff) s
  let s := { s with sump := { s.sump with react := none } }
  (s.updMeets).bootWaits kind false

/-- Registers whose values live in Reservoir, in fuses or in the key store, and so outlast a loss of VAON (R170, R463, R493). -/
def lastingReg (off : Nat) : Bool :=
  storedReg off || off == TEL_LIFE_HRS.off || decide (TEL_BIN.off 0 ≤ off ∧ off < TEL_BIN.off 4) ||
    off == UPD_STAT.off || off == UPD_PKG_ID.off || off == UPD_PKG_SEQ.off || off == UPD_PROG.off

/-- The machine after a POWER-ON reset (R423, R425): everything at reset but what Reservoir, the NOR, the fuses and the key store hold, and
the levels that stand at the inputs. -/
def State.powerOn (s : State) : State :=
  let s := s.updMeets
  { State.reset with
    pending := s.pending,
    resp := s.resp,
    freeCtr := s.freeCtr,
    regs := SMap.drop (fun k => !lastingReg (k % 2 ^ 22)) s.regs,
    flow := { Flows.reset with
      ring := s.flow.ring, retired := s.flow.retired, sens := s.flow.sens, cut := s.flow.cut, nodeRec := s.flow.nodeRec },
    sump := { Sump.reset with telMs := s.sump.telMs },
    power := { State.reset.power with cmpIn := s.power.cmpIn },
    pins := { State.reset.pins with ball := s.pins.ball, vioMv := s.pins.vioMv },
    fh := { Fh.reset with slots := s.fh.slots, ckSeq := s.fh.ckSeq },
    upd := s.upd,
    boot := { Boot.reset with slots := s.boot.slots },
    sec := { Sec.reset with life := s.sec.life, root := s.sec.root, keys := s.sec.keys, cert := s.sec.cert, ephNo := s.sec.ephNo } }

/-- The state after the entry of a reset of a kind (R424, R425). -/
def State.enterReset (s : State) (r : ResetReq) : State :=
  if r.kind = 0 then s.powerOn else if r.kind = 1 then s.sysEnter r else s.ctlEnter r

/-- The reset asked for, if one is, entered; one asked for as it is entered joins it (R423, R439). -/
def State.settle (s : State) : State :=
  match s.resetReq with
  | none => s
  | some r => { ({ s with resetReq := none }).enterReset r with resetReq := none }

/-! ### Causes of resets (R423, R439, R507) -/

/-- POWER_ON_RESET (R423): VAON rises through its threshold. -/
def powerOnReset (s : State) : State := s.powerOn

/-- VAON_LOSS (R194, R507): everything stops at once; a group in commit is torn, all of its lines
but the LAST one written; the POWER-ON reset follows. -/
def vaonLoss (s : State) : State :=
  match s.flow.commit with
  | none => s.powerOn
  | some g =>
    let lines := (s.commitRecs s.flow.lsn g.recs).2
    let last := (s.flow.lsn + lines.length - 1) % ringLines
    let old := SMap.get lineDflt s.flow.ring last
    let s := if lines = [] then s else s.writeLines lines
    (if lines = [] then s else s.fm (fun x => { x with ring := SMap.set lineDflt x.ring last old })).powerOn

/-- RST_N_ASSERT (R423): RST_N held low for 1 µs. -/
def rstNAssert (s : State) : State := s.askReset ⟨1, 1, 0⟩

/-- JTAG_RESET (R423, R468): where JTAG is open. -/
def jtagReset (s : State) : State := if s.jtagOpen then s.askReset ⟨1, 3, 0⟩ else s

end Sys2Proof.Machine
end

