-- ==== Sys2Proof/Machine/Voter.lean ====
section
/-! DEFINITION. The voter of a Fountainhead unit (R286 to R292): the three copies of a step compared, and the one voted output issued. -/

namespace Sys2Proof.Machine

/-- The master a unit's access is made as (R32): supervisor for machine mode, user for user mode. -/
def unitMaster (u : Nat) (user : Bool) : Master := ⟨Fin.ofNat 32 (2 + 2 * u + b2n user), 0⟩

/-- The fabric address behind a local address outside the banks (R287); none where nothing answers. -/
def State.localMap (s : State) (u a : Nat) : Option Nat :=
  if 0x10000000 ≤ a ∧ a < 0x102C0000 then some (ownAddr 1 (a - 0x10000000))
  else if 0x20000000 ≤ a ∧ a < 0x20400000 then some (ownAddr 0 (a - 0x20000000))
  else if 0x40000000 ≤ a ∧ a < 0x80000000 then
    let w := (a - 0x40000000) / 2 ^ 26
    some (s.g (FH_WIN_HI.ADDR u w) * 2 ^ 32 + s.g (FH_WIN_LO.ADDR u w) * 2 ^ 26 + a % 2 ^ 26)
  else none

/-- A step in a unit's own banks or scratch bank (R290): a read answered on core 0's copy, a voted store performed. -/
def State.bankStep (s : State) (u : Nat) (c : CoreStep) : State :=
  let m := unitMaster u c.user
  let a := c.addr.toNat
  if c.data = [] then s.answer m stOK ((List.range c.len).map (fun i => s.bankByte u (a + i)))
  else (s.bankStore u a c.data).answer m stOK []

/-- Whether a store of a unit stalls (R451 step 4): one of the new unit of a handover, outside its banks and other than to UPD_CMD. -/
def State.storeStalls (s : State) (u : Nat) (c : CoreStep) : Bool :=
  s.unit u == fhRestore && s.fh.trig.isNone && s.upd.rec_ != 0 && c.data != [] && c.addr.toNat != 0x10000000 + UPD_CMD.off

/-- A voted output outside the banks (R287, R290, R293): one access; a read with a side effect is in flight until the next step. -/
def State.outStep (s : State) (u : Nat) (c : CoreStep) : State :=
  let m := unitMaster u c.user
  match s.localMap u c.addr.toNat with
  | none => (s.busFault m (b2n (c.data != [])) c.addr.toNat).answer m stADDR []
  | some addr =>
    if c.data ≠ [] then s.masterWrite m addr c.data
    else
      let side := s.sideEffect addr c.len false
      let t := s.masterRead m addr c.len
      if side then t.hm (fun h => { h with reading := t.resp.map (fun r => (addr, c.len, r.status, r.data)) }) else t

/-- The core that a mismatch names (R291): the third where two agree, else 3. -/
def oddCore (c0 c1 c2 : CoreStep) : Nat := if c0 = c1 then 2 else if c0 = c2 then 1 else if c1 = c2 then 0 else 3

/-- VOTED_OUTPUT (R289 to R292): the three copies of a step of a running unit. `bad` tells that a word the step reads in the unit's banks
fails its SECDED; injected errors act as real ones (R494). -/
def votedOutput (u : Fin 2) (c0 c1 c2 : CoreStep) (bad : Bool) (s : State) : State :=
  let u := u.val
  let a := c0.addr.toNat
  let s := if u = s.active ∧ c0 = c1 ∧ c1 = c2 then
      s.zoneAccrue.hm (fun h => { h with zoneUser := if c0.user then some u else none }) else s
  let forced := if u = s.active then [0, 1, 2].find? (fun k => s.sump.inj.contains (.voter (Fin.ofNat 3 k))) else none
  let word := if u = s.active ∧ a < 0x90000 ∧ c0.data = [] then
      s.sump.inj.find? (fun x => match x with | .flip (.bank b) true => decide (b.val / 8 = a / 8) | _ => false) else none
  if !s.unitRuns u then s
  else if forced.isSome then
    let k := forced.getD 0
    (s.injMet (.voter (Fin.ofNat 3 k))).asInjected (·.fhTrigger u 1 k c0.kind.val a)
  else if word.isSome ∧ c0 = c1 ∧ c1 = c2 then
    (s.injMet (word.getD (.voter 0))).asInjected (·.fhTrigger u 2 3 c0.kind.val a)
  else if !(c0 = c1 ∧ c1 = c2) then s.fhTrigger u 1 (oddCore c0 c1 c2) c0.kind.val a
  else if bad ∧ a < 0x90000 ∧ c0.data = [] then s.fhTrigger u 2 3 c0.kind.val a
  else if s.storeStalls u c0 ∧ 0x90000 ≤ a then s
  else
    let s := s.hm (fun h => { h with reading := none })
    if a < 0x90000 then s.bankStep u c0 else s.outStep u c0

end Sys2Proof.Machine
end

