-- ==== Sys2Proof/Machine/Boot.lean ====
section
/-! DEFINITION. The boot sequencer (R426 to R437): the stages of a start-up, what an image loads and applies, fallback, and FAILSAFE. -/

namespace Sys2Proof.Machine

/-- The domains whose BOOT vote a start-up of a kind sets (R426). -/
def bootDomains (kind : Nat) : List Nat := if kind = 2 then [14, 1, 2] else [1, 2, 3, 4, 5, 6, 7, 8, 9, 10, 11, 12, 13, 14, 15]

/-- BOOT_SEQUENCE_START (R426, R461): stage ROM. GROTTO is on; it tests itself; the domains are voted ON, and the AVS loop runs. -/
def bootSequenceStart (selfTestOk : Bool) (s : State) : State :=
  if s.g CFG_BOOT.STAGE ≠ 1 ∨ s.boot.busy then s
  else
    let s := { s with boot := { s.boot with busy := true } }
    let s := s.setDom 14 dsOn
    let s := if selfTestOk then s else s.secError
    let s := (bootDomains s.boot.kind).foldl (fun s d => s.pb (PWR_DOM_VOTE.BOOT d) true) s
    ((s.setUnit 0 fhLoad).setUnit 1 fhLoad).powerEval

/-- Whether every domain that the sequencer voted for is ON (R426). -/
def State.bootReady (s : State) : Bool := (bootDomains s.boot.kind).all (fun d => s.domOn d)

/-- The cause of a failed slot recorded (R435, R440). -/
def State.bootErr (s : State) (cause section_ record : Nat) : State :=
  let s := if s.boot.slot = 0 then s.p CFG_BOOT_ERR.CAUSE0 cause else s.p CFG_BOOT_ERR.CAUSE1 cause
  (s.p CFG_BOOT_ERR.SECTION section_).p CFG_BOOT_ERR.RECORD record

/-- FAILSAFE_ENTER (R437): AON, GROTTO, CASCADE, USB and FEED stay on, the other BOOT votes are released, a Severe fault is raised, and
BYP_N stays low. DEDUCED: the USB function enumerates, so that its pull-up is connected. -/
def State.failsafeEnter (s : State) : State :=
  let s := { s with boot := { s.boot with busy := false, desc := [] } }
  let s := ((s.p CFG_BOOT.STAGE 6).bypassDrop).p USB_CFG.EN 1
  let s := (List.range 16).foldl (fun s d =>
    if d = 0 then s else s.pb (PWR_DOM_VOTE.BOOT d) (d == 6 || d == 10 || d == 14 || d == 15)) s
  (((s.setUnit 0 fhOff).setUnit 1 fhOff).raise (evCfg 2) clSevere).powerEval

/-- The other slot is taken (R436): a fallback, counted, with a Degraded fault. -/
def State.fallback (s : State) : State :=
  let s := { s with boot := { s.boot with slot := 1 - s.boot.slot, first := false } }
  ((s.pb CFG_BOOT.FALLBACK true).count CFG_FALLBACK_CNT.off).raise (evCfg 2) clDegraded

/-- The blocks that REG records have been applied to, at their reset values again (R436): their registers, with the field pins and the feed
channels among them. -/
def State.unapply (s : State) (recs : List (Nat × Word)) : State :=
  let hit := fun (lo hi : Nat) => recs.any (fun r => decide (lo ≤ r.1 ∧ r.1 < hi))
  let s := s.dropRegs (fun off => recs.any (fun r => r.1 == off))
  let s := if hit 0x1A0000 0x1C0000 then
      { s with pins := { State.reset.pins with ball := s.pins.ball, vioMv := s.pins.vioMv } } else s
  (List.range 16).foldl (fun s n =>
    let f := 0x200000 + 0x100 * n
    if hit f (f + 0x100) then (s.setFeed n (FeedCh.dflt n)).dropRegs (fun off => decide (f ≤ off ∧ off < f + 0x100)) else s) s

/-- A start-up of a slot failed with a cause (R436). -/
def State.bootFail (s : State) (cause section_ record : Nat) : State :=
  let s := s.bootErr cause section_ record
  if s.boot.first ∧ 2 ≤ cause ∧ cause ≤ 8 then s.fallback
  else if s.boot.first ∧ cause = 9 then s.fallback.askReset ⟨1, 5, 0⟩
  else s.failsafeEnter

/-- The slot that a start-up tries first (R428, R457): the one that the update record names, or, with a handover COMMITTED and not applied,
the new one. -/
def State.bootSlot (s : State) : Nat := if s.upd.rec_ = 2 then s.spareSlot else s.g UPD_STAT.BOOT

/-- BOOT_DOMAINS_READY (R426, R427, R435): every voted domain is ON. The NOR answers with its size in MiB (0 for no SFDP answer) and the
modes its SFDP table offers. -/
def bootDomainsReady (size : Nat) (modes : Fin 16) (s : State) : State :=
  if s.g CFG_BOOT.STAGE ≠ 1 ∨ !s.boot.busy ∨ !s.bootReady then s
  else
    let s := { s with boot := { s.boot with modes := modes.val, slot := if s.boot.first then s.bootSlot else s.boot.slot } }
    let s := ((s.p CFG_NOR.SIZE (min 255 (size / 4))).p CFG_NOR.MODE 0).p CFG_NOR.MHZ 25
    if s.sump.grave then s.bootFail 11 0 0
    else if size < 64 ∨ 256 < size then s.bootFail 1 0 0
    else s.p CFG_BOOT.STAGE 3

/-! ### Loading (R431, R432) -/

/-- The runs of a PNT_ATTR section: FIRST, COUNT, TYPE and PROF. -/
def attrRuns (secs : List ImgSec) : List (Nat × Nat × Nat × Nat) :=
  (secs.filter (fun e => e.typ == 4)).flatMap (fun e =>
    (chunks 8 (e.data.length / 8) e.data).map (fun r => (leAt r 0 4, leAt r 4 2, leAt r 6 1, leAt r 7 1)))

/-- Points given their profile, and, with `types`, their TYPE (R57, R431). -/
def State.loadAttrs (s : State) (types : Bool) (runs : List (Nat × Nat × Nat × Nat)) : State :=
  runs.foldl (fun s r => (List.range r.2.1).foldl (fun s k =>
    if 262144 ≤ r.1 + k then s else s.setAttr (r.1 + k) (if types then r.2.2.1 else tyUndef) r.2.2.2) s) s

/-- The program words of a JET section (R431). -/
def State.loadJet (s : State) (e : ImgSec) : State :=
  ((List.range (e.data.length / 2)).foldl (fun s k =>
    s.p (JET_PROG.WORD (e.target % 64) ((e.target / 256 % 128 + k) % 128)) (leAt e.data (2 * k) 2)) s)

/-- Every bulk section of an image written to its memory (R426 stage 3, R431, R432): at a CONTROL start-up only FW; DATA waits for the
active unit. -/
def State.loadBulk (s : State) (kind : Nat) (secs : List ImgSec) : State :=
  let s := (s.loadSecs 0 2 secs).loadSecs 1 2 secs
  if kind = 2 then s
  else
    let s := (secs.filter (fun e => e.typ == 5)).foldl State.loadJet s
    let desc := (secs.filter (fun e => e.typ == 6)).flatMap (·.data)
    let s := { s with boot := { s.boot with desc := desc } }
    s.loadAttrs false (attrRuns secs)

/-- Whether a REG record addresses the FH block. -/
def isFhRec (off : Nat) : Bool := decide (0x240000 ≤ off ∧ off < 0x260000)

/-- Whether a REG record addresses a block that a SYSTEM reset keeps running (R432): FIO, TIME, HST, PWR_AVS, or the registers of a feed
channel that is not in OFF. -/
def State.keptRec (s : State) (off : Nat) : Bool :=
  decide (0x1A0000 ≤ off ∧ off < 0x1C0000) || decide (0x040000 ≤ off ∧ off < 0x050000) || decide (0x280000 ≤ off ∧ off < 0x290000) ||
    decide (0x010800 ≤ off ∧ off < 0x010818) || (decide (0x200000 ≤ off ∧ off < 0x201000) && s.fst ((off - 0x200000) / 0x100) != fsOff)

/-- The REG records that a start-up of a kind applies (R432, R457); `all` at the end of a handover that was COMMITTED. -/
def State.bootRecords (s : State) (kind : Nat) (all : Bool) (secs : List ImgSec) : List (Nat × Word) :=
  let l := imgRecords secs (kind == 0 || all)
  if all then l
  else if kind = 2 then l.filter (fun r => isFhRec r.1)
  else if kind = 1 then l.filter (fun r => !s.keptRec r.1)
  else l

/-- NOR_MODE and the clock for the body of an image (R427): mode 0 where the SFDP table does not offer the header's. -/
def State.norMode (s : State) (img : List Byte) : State :=
  let m := leAt img 27 1
  let m := if m < 4 ∧ s.boot.modes.testBit m then m else 0
  (s.p CFG_NOR.MODE m).p CFG_NOR.MHZ (if m = 0 then 25 else min 100 (max 25 (leAt img 28 1)))

/-- DEV_NODE.NODE_ID from the image (R434): another node ID than the lifetime record's clears the inbound table. -/
def State.takeNode (s : State) (nd : Nat) : State :=
  let s := s.p DEV_NODE.NODE_ID nd
  if s.flow.nodeRec = some nd then s
  else s.fm (fun x => { x with inb := [], kept := [], gone := [], two := [], cut := s.ringTop, nodeRec := some nd })

/-- BOOT_RUN (R434, R426 stage 5): the active unit released at 0x0000_0000, the other under proof-wake; the update record as the boot
leaves it (R456, R457). -/
def State.bootRun (s : State) (img : List Byte) (secs : List ImgSec) (act : Nat) (all : Bool) : State :=
  let s := s.loadSecs act 3 secs
  let s := (((s.imageRegs img).p CFG_BOOT.SLOT s.boot.slot).p CFG_BOOT.STAGE 5).showSlot
  let s := s.p CFG_T_BOOT.TIME (min 65535 ((s.absNs - s.boot.from_) / 1000000).toNat)
  let s := ((s.p FH_STAT.ACTIVE act).setUnit act fhActive).hm (fun h => { h with
    halted := [], wdogAt := s.absNs, ckAt := s.absNs, proofAt := s.absNs })
  let s := if all then
      (((s.upm (fun u => { u with rec_ := 0, applying := false })).pb UPD_STAT.APPLIED true).commitSlots).upm (fun u => { u with
        revert := false })
    else s
  let s := if s.boot.first then s else ((s.p UPD_STAT.BOOT s.boot.slot).setUst usReverted).upm (fun u => { u with rec_ := 0, applying := false })
  let s := { s with boot := { s.boot with busy := false, first := true } }
  (s.proofBegin (1 - act)).powerEval

/-- BOOT_LOAD_DONE (R426 stages 3 to 5, R432 to R436): the bytes that the slot was read as, and how the triad self-checks of both units
end. The image is checked, loaded and applied; a failure falls back or enters FAILSAFE. -/
def bootLoadDone (img : List Byte) (unitA unitB : Bool) (s : State) : State :=
  if s.g CFG_BOOT.STAGE ≠ 3 ∨ !s.boot.busy then s
  else
    let s := (s.setSlot s.boot.slot img).norMode img
    let (cause, sec, secs) := s.checkImage img
    if cause ≠ 0 then s.bootFail cause sec 0
    else
      let kind := s.boot.kind
      let all := s.upd.rec_ == 2 && s.boot.slot == s.spareSlot
      let secs := if kind = 0 ∨ all then secs else secs.filter (fun e => !e.flags.testBit 0)
      let s := (s.loadBulk kind secs).p CFG_BOOT.STAGE 4
      let recs := s.bootRecords kind all secs
      match s.recordsFail 0 recs with
      | some k => (((s.applyRecords (recs.take k)).unapply (recs.take k)).p CFG_BOOT.STAGE 3).bootFail 9 0 k
      | none =>
        let s := (s.applyRecords recs).p FH_BANKS.PROG (imgBanks secs)
        let s := if kind = 2 then s else (s.loadAttrs true (attrRuns secs)).pointsInit
        let s := s.takeNode (leAt img 30 2)
        if !unitA ∧ !unitB then s.bootFail 10 0 0 else s.bootRun img secs (b2n !unitA) all

end Sys2Proof.Machine
end

