-- ==== Sys2Proof/Machine/RegCmds.lean ====
section
/-! DEFINITION. The commands that are writes of one register by a master of this node (R37): each names its register and the word it
writes, and takes the effect of that write. -/

namespace Sys2Proof.Machine

/-- A write of a 32-bit word to a register of this node (R10, R27, R37, R451): held, or performed and answered. -/
def State.regCmd (s : State) (m : Master) (off width : Nat) (val : Word) : State :=
  if s.regWaits m off width then { s with held := s.held ++ [⟨m, 1, off, .write (bytesLE 4 val.toNat), none⟩] }
  else
    let r := s.regWrite m 0 off width val
    r.2.answer m r.1 []

/-- A word with one field set and every other bit 0. -/
def cmdWord (f : FRef) (v : Nat) : Word := f.put 0 v

/-- REGISTER_WRITE (R27, R37). -/
def registerWrite (m : Master) (off width : Nat) (val : Word) (s : State) : State := s.regCmd m off width val

/-- MULTIWORD_READ_LATCH (R41): a read of a word of a multi-word value. -/
def multiwordReadLatch (m : Master) (off : Nat) (s : State) : State := s.masterRead m (ownAddr 1 off) 4

/-- MULTIWORD_STAGED_WRITE (R42): a write of a word of a multi-word value. -/
def multiwordStagedWrite (m : Master) (off : Nat) (val : Word) (s : State) : State := s.regCmd m off 4 val

/-- COUNTER_CLEAR (R43). -/
def counterClear (m : Master) (off : Nat) (val : Word) (s : State) : State := s.regCmd m off 4 val

/-! ### Points -/

/-- ATTR_DATA_WRITE (R86): PNT_ATTR_DATA, for the point that PNT_ATTR_SEL selects for the master. -/
def attrDataWrite (m : Master) (val : Word) (s : State) : State := s.regCmd m PNT_ATTR_DATA.off 4 val

/-- PROFILE_WRITE (R88): a register of the profile that PNT_PROF_SEL selects: 0 CFG, 1 FRESH, 2 SAFE_LO, 3 SAFE_HI. -/
def profileWrite (m : Master) (k : Fin 4) (val : Word) (s : State) : State := s.regCmd m (PNT_PROF_CFG.off + 4 * k.val) 4 val

/-! ### Ring ports and the cycle -/

/-- PORT_MODE_WRITE (R128): PORT_CFG of a ring port. -/
def portModeWrite (m : Master) (p : Fin 4) (val : Word) (s : State) : State := s.regCmd m (PORT_CFG.off p.val) 4 val

/-- BYPASS_INSERT_WRITE (R125): PORT_BYP. -/
def bypassInsertWrite (m : Master) (val : Word) (s : State) : State := s.regCmd m PORT_BYP.off 4 val

/-- RING_CFG_WRITE (R151). -/
def ringCfgWrite (m : Master) (val : Word) (s : State) : State := s.regCmd m RING_CFG.off 4 val

/-- RING_APPLY_WRITE (R135): RING_APPLY_HI, which completes RING_APPLY. -/
def ringApplyWrite (m : Master) (val : Word) (s : State) : State := s.regCmd m RING_APPLY_HI.off 4 val

/-- SUBSCRIPTION_WRITE (R156): the word that completes a publication range (0) or a subscription entry (1). -/
def subscriptionWrite (m : Master) (k : Fin 2) (val : Word) (s : State) : State :=
  s.regCmd m (if k = 0 then RING_PUB_CFG.off else RING_SUB_DST.off) 4 val

/-! ### Flows -/

/-- FLOW_ABANDON (R186): FLOW_CMD ABANDON, for the flow that FLOW_SEL selects. -/
def flowAbandon (m : Master) (s : State) : State := s.regCmd m FLOW_CMD.off 4 (cmdWord FLOW_CMD.OP 1)

/-- FLOW_PROBE (R187). -/
def flowProbe (m : Master) (s : State) : State := s.regCmd m FLOW_CMD.off 4 (cmdWord FLOW_CMD.OP 2)

/-- COMMIT_INTERVAL_WRITE (R169): FLOW_CTRL. -/
def commitIntervalWrite (m : Master) (val : Word) (s : State) : State := s.regCmd m FLOW_CTRL.off 4 val

/-! ### Cascade and Sluice -/

/-- MDIO_START (R225): ETH_MDIO_CMD of a port. -/
def mdioStart (m : Master) (n : Fin 4) (val : Word) (s : State) : State := s.regCmd m (ETH_MDIO_CMD.off n.val) 4 val

/-- STRANDED_POP (R245). -/
def strandedPop (m : Master) (val : Word) (s : State) : State := s.regCmd m BRG_STR_POP.off 4 val

/-- PWF_POP (R248). -/
def pwfPop (m : Master) (val : Word) (s : State) : State := s.regCmd m BRG_PWF_POP.off 4 val

/-- SIGNAL_UPDATE (R252): a source of the signal map updates, with its payload; `fault` where the source reports one. -/
def signalUpdate (kind : Fin 16) (unit obj : Nat) (payload : List Byte) (fault : Bool) (s : State) : State :=
  if s.domOn 6 ∧ s.domOn 7 then s.signalUpdate kind.val unit obj payload s.fns48 fault else s

/-! ### Time -/

/-- TIME_INC_WRITE (R264): TIME_INC_HI, which completes TIME_INC. -/
def timeIncWrite (m : Master) (val : Word) (s : State) : State := s.regCmd m TIME_INC_HI.off 4 val

/-- TIME_SLEW_WRITE (R265): TIME_SLEW_CNT, which completes the slew. -/
def timeSlewWrite (m : Master) (val : Word) (s : State) : State := s.regCmd m TIME_SLEW_CNT.off 4 val

/-- TIME_STEP_WRITE (R266). -/
def timeStepWrite (m : Master) (val : Word) (s : State) : State := s.regCmd m TIME_STEP.off 4 val

/-- TIME_SET_WRITE (R266): TIME_SET_SEC_HI, which completes TIME_SET. -/
def timeSetWrite (m : Master) (val : Word) (s : State) : State := s.regCmd m TIME_SET_SEC_HI.off 4 val

/-- PTP_STAMP_POP (R275). -/
def ptpStampPop (m : Master) (n : Fin 4) (val : Word) (s : State) : State := s.regCmd m (TIME_PTP_TX_POP.off n.val) 4 val

/-- EDGE_POP (R279). -/
def edgePop (m : Master) (b : Fin 8) (val : Word) (s : State) : State := s.regCmd m (TIME_EDGE_POP.off b.val) 4 val

/-- ACTION_FLUSH (R283). -/
def actionFlush (m : Master) (val : Word) (s : State) : State := s.regCmd m TIME_ACT_FLUSH.off 4 val

/-- LATE_POP (R283). -/
def latePop (m : Master) (val : Word) (s : State) : State := s.regCmd m TIME_LATE_POP.off 4 val

/-- TRIGGER_ARM (R284): TIME_TRIGn_HI. -/
def triggerArm (m : Master) (n : Fin 8) (val : Word) (s : State) : State := s.regCmd m (TIME_TRIG_HI.off n.val) 4 val

/-! ### Fountainhead -/

/-- WATCHDOG_KICK (R308). -/
def watchdogKick (m : Master) (s : State) : State := s.regCmd m FH_WDOG.off 4 (cmdWord FH_WDOG.KICK 0xA5C3)

/-- FH_RELEASE (R298, R302, R422). -/
def fhRelease (m : Master) (s : State) : State := s.regCmd m FH_CMD.off 4 (cmdWord FH_CMD.OP 1)

/-- CHECKPOINT_COMMAND (R294). -/
def checkpointCommand (m : Master) (s : State) : State := s.regCmd m FH_CMD.off 4 (cmdWord FH_CMD.OP 2)

/-- PROOF_COMMAND (R303). -/
def proofCommand (m : Master) (s : State) : State := s.regCmd m FH_CMD.off 4 (cmdWord FH_CMD.OP 3)

/-- FH_HANDOVER (R302, R451). -/
def fhHandover (m : Master) (s : State) : State := s.regCmd m FH_CMD.off 4 (cmdWord FH_CMD.OP 4)

/-! ### Jets -/

/-- JET_GOTO (R320): a tick of a Jet whose word is GOTO; the rows that follow are the other words. -/
def jetGoto (j : Fin 64) (s : State) : State := s.jetTick j.val 0x0
/-- JET_SET (R320). -/
def jetSet (j : Fin 64) (s : State) : State := s.jetTick j.val 0x1
/-- JET_SEND (R321). -/
def jetSend (j : Fin 64) (s : State) : State := s.jetTick j.val 0x2
/-- JET_RECV (R321). -/
def jetRecv (j : Fin 64) (s : State) : State := s.jetTick j.val 0x3
/-- JET_LOAD (R321). -/
def jetLoad (j : Fin 64) (s : State) : State := s.jetTick j.val 0x4
/-- JET_POST (R321). -/
def jetPost (j : Fin 64) (s : State) : State := s.jetTick j.val 0x5
/-- JET_NSET (R320). -/
def jetNset (j : Fin 64) (s : State) : State := s.jetTick j.val 0x6
/-- JET_REP (R321). -/
def jetRep (j : Fin 64) (s : State) : State := s.jetTick j.val 0x7
/-- JET_WAITE (R321). -/
def jetWaite (j : Fin 64) (s : State) : State := s.jetTick j.val 0x8
/-- JET_MARK (R320). -/
def jetMark (j : Fin 64) (s : State) : State := s.jetTick j.val 0x9
/-- JET_PACK (R321). -/
def jetPack (j : Fin 64) (s : State) : State := s.jetTick j.val 0xA
/-- JET_SIG (R321). -/
def jetSig (j : Fin 64) (s : State) : State := s.jetTick j.val 0xB

/-- JET_FAULT (R322): a tick at which the word at PC is illegal. -/
def jetFault (j : Fin 64) (s : State) : State :=
  if s.jetRuns j.val ∧ s.jetIllegal j.val (s.jetWord j.val) then s.jetFaultStop j.val else s

/-- JET_TX_WRITE (R323). -/
def jetTxWrite (m : Master) (j : Fin 64) (val : Word) (s : State) : State := s.regCmd m (JET_TX.off j.val) 4 val

/-- JET_RX_POP (R323). -/
def jetRxPop (m : Master) (j : Fin 64) (val : Word) (s : State) : State := s.regCmd m (JET_RX_POP.off j.val) 4 val

/-- JET_CTRL of a Jet with RUN, STEP and CLR as given, TG and ENTRY as they stand (R327). -/
def State.jetCmd (s : State) (m : Master) (j : Fin 64) (run step clr : Bool) : State :=
  let w := s.rd (JET_CTRL.off j.val)
  let w := (JET_CTRL.RUN j.val).put ((JET_CTRL.STEP j.val).put ((JET_CTRL.CLR j.val).put w (b2n clr)) (b2n step)) (b2n run)
  s.regCmd m (JET_CTRL.off j.val) 4 w

/-- JET_RUN (R327). -/
def jetRun (m : Master) (j : Fin 64) (s : State) : State := s.jetCmd m j true false false
/-- JET_STOP (R327). -/
def jetStop (m : Master) (j : Fin 64) (s : State) : State := s.jetCmd m j false false false
/-- JET_STEP (R327). -/
def jetStep (m : Master) (j : Fin 64) (s : State) : State := s.jetCmd m j false true false
/-- JET_CLEAR (R327): RUN as it stands. -/
def jetClear (m : Master) (j : Fin 64) (s : State) : State := s.jetCmd m j (s.flag (JET_CTRL.RUN j.val)) false true

/-- JET_PC_WRITE (R327). -/
def jetPcWrite (m : Master) (j : Fin 64) (val : Word) (s : State) : State := s.regCmd m (JET_PC.off j.val) 4 val

/-- JET_D_WRITE (R327). -/
def jetDWrite (m : Master) (j : Fin 64) (val : Word) (s : State) : State := s.regCmd m (JET_D.off j.val) 4 val

/-- JET_PROG_WRITE (R328). -/
def jetProgWrite (m : Master) (j : Fin 64) (k : Fin 128) (val : Word) (s : State) : State := s.regCmd m (JET_PROG.off j.val k.val) 4 val

/-- JET_GROUP_GO (R329). -/
def jetGroupGo (m : Master) (val : Word) (s : State) : State := s.regCmd m JET_GRP_GO.off 4 val

/-- JET_GROUP_ACT (R329): the acting edge of a bank. -/
def jetGroupAct (b : Fin 2) (s : State) : State := if s.domOn (12 + b.val) then s.bankAct b.val else s

/-! ### Field pins -/

/-- PIN_OWNER_WRITE (R311): FIO_PINn_CFG. -/
def pinOwnerWrite (m : Master) (n : Fin 256) (val : Word) (s : State) : State := s.regCmd m (FIO_PIN_CFG.off n.val) 4 val

/-- PIN_LEVEL_WRITE (R310): a masked write of FIO_LEVEL. -/
def pinLevelWrite (m : Master) (k : Fin 16) (val : Word) (s : State) : State := s.regCmd m (FIO_LEVEL.off k.val) 4 val

/-- PIN_IN_BIND_WRITE (R314): FIO_PINn_IN. -/
def pinInBindWrite (m : Master) (n : Fin 256) (val : Word) (s : State) : State := s.regCmd m (FIO_PIN_IN.off n.val) 4 val

/-- PIN_OUT_BIND_WRITE (R315): FIO_PINn_OUT. -/
def pinOutBindWrite (m : Master) (n : Fin 256) (val : Word) (s : State) : State := s.regCmd m (FIO_PIN_OUT.off n.val) 4 val

/-- PIN_FILTER_EXPIRE (R314). -/
def pinFilterExpire (n : Fin 256) (s : State) : State := s.filterExpire n.val

/-- PIN_COUNT_WRITE (R314). -/
def pinCountWrite (n : Fin 256) (s : State) : State := s.countWrite n.val

/-! ### Cisterns, CAN, USB, feeds -/

/-- CISTERN_FLUSH (R346). -/
def cisternFlush (m : Master) (n : Fin 256) (s : State) : State := s.regCmd m (CST_CMD.off n.val) 4 (cmdWord (CST_CMD.OP n.val) 1)

/-- CISTERN_ABORT_CMD (R349). -/
def cisternAbortCmd (m : Master) (n : Fin 256) (s : State) : State := s.regCmd m (CST_CMD.off n.val) 4 (cmdWord (CST_CMD.OP n.val) 2)

/-- CST_TLOG_POP (R342). -/
def cstTlogPop (m : Master) (val : Word) (s : State) : State := s.regCmd m CST_TLOG_POP.off 4 val

/-- A command of CANn_CMD on an object (R352 to R354, R359). -/
def State.canCmd (s : State) (m : Master) (n : Fin 8) (op : Nat) (obj : Fin 64) : State :=
  s.regCmd m (CAN_CMD.off n.val) 4 ((CAN_CMD.OBJ n.val).put (cmdWord (CAN_CMD.OP n.val) op) obj.val)

/-- CAN_TXREQ (R353). -/
def canTxreq (m : Master) (n : Fin 8) (obj : Fin 64) (s : State) : State := s.canCmd m n 1 obj
/-- CAN_CANCEL (R354). -/
def canCancel (m : Master) (n : Fin 8) (obj : Fin 64) (s : State) : State := s.canCmd m n 2 obj
/-- CAN_COMMIT_DATA (R352). -/
def canCommitData (m : Master) (n : Fin 8) (obj : Fin 64) (s : State) : State := s.canCmd m n 3 obj
/-- CAN_RECOVER (R359). -/
def canRecover (m : Master) (n : Fin 8) (s : State) : State := s.canCmd m n 4 0

/-- CAN_MODE_INIT_WRITE (R362): CANn_CFG with MODE INIT and the rest as it stands. -/
def canModeInitWrite (m : Master) (n : Fin 8) (s : State) : State :=
  s.regCmd m (CAN_CFG.off n.val) 4 ((CAN_CFG.MODE n.val).put (s.rd (CAN_CFG.off n.val)) 0)

/-- USB_LOCAL_WRITE (R369): USB_CFG. -/
def usbLocalWrite (m : Master) (val : Word) (s : State) : State := s.regCmd m USB_CFG.off 4 val

/-- A command of FEEDn_CMD. -/
def State.feedCmd (s : State) (m : Master) (n : Fin 16) (op : Nat) : State :=
  s.regCmd m (FEED_CHCMD.off n.val) 4 (cmdWord (FEED_CHCMD.OP n.val) op)

/-- FEED_ON (R386). -/
def feedOn (m : Master) (n : Fin 16) (s : State) : State := s.feedCmd m n 1
/-- FEED_OFF (R386). -/
def feedOff (m : Master) (n : Fin 16) (s : State) : State := s.feedCmd m n 2
/-- FEED_RESTART (R394). -/
def feedRestart (m : Master) (n : Fin 16) (s : State) : State := s.feedCmd m n 3
/-- FEED_CLEAR (R396). -/
def feedClear (m : Master) (n : Fin 16) (s : State) : State := s.feedCmd m n 4
/-- FEED_KILL_CMD (R396). -/
def feedKillCmd (m : Master) (s : State) : State := s.regCmd m FEED_CMD.off 4 (cmdWord FEED_CMD.OP 1)
/-- FEED_CLEAR_KILL (R396). -/
def feedClearKill (m : Master) (s : State) : State := s.regCmd m FEED_CMD.off 4 (cmdWord FEED_CMD.OP 2)

/-! ### Power, resets, updates -/

/-- DOMAIN_VOTE_WRITE (R404): PWR_DOMd_VOTE. -/
def domainVoteWrite (m : Master) (d : Fin 16) (val : Word) (s : State) : State := s.regCmd m (PWR_DOM_VOTE.off d.val) 4 val

/-- CFG_RESET with its key (R440). -/
def resetWord (op : Nat) : Word := CFG_RESET.KEY.put (cmdWord CFG_RESET.OP op) 0xA5

/-- CFG_RESET_SYSTEM (R424). -/
def cfgResetSystem (m : Master) (s : State) : State := s.regCmd m CFG_RESET.off 4 (resetWord 2)
/-- CFG_RESET_CONTROL (R424). -/
def cfgResetControl (m : Master) (s : State) : State := s.regCmd m CFG_RESET.off 4 (resetWord 1)

/-- UPD_INJECT (R448): UPD_INJ_CTRL. -/
def updInject (m : Master) (val : Word) (s : State) : State := s.regCmd m UPD_INJ_CTRL.off 4 val

/-- A command of UPD_CMD (R459). -/
def State.updCmd (s : State) (m : Master) (op : Nat) : State := s.regCmd m UPD_CMD.off 4 (cmdWord UPD_CMD.OP op)

/-- UPD_STAGE (R450). -/
def updStage (m : Master) (s : State) : State := s.updCmd m 1
/-- UPD_COMMIT (R451). -/
def updCommit (m : Master) (s : State) : State := s.updCmd m 2
/-- UPD_CONFIRM (R454). -/
def updConfirm (m : Master) (s : State) : State := s.updCmd m 3
/-- UPD_REVERT (R455). -/
def updRevert (m : Master) (s : State) : State := s.updCmd m 4
/-- UPD_DISCARD (R459). -/
def updDiscard (m : Master) (s : State) : State := s.updCmd m 5
/-- UPD_REAPPLY (R455). -/
def updReapply (m : Master) (s : State) : State := s.updCmd m 6

/-! ### Grotto -/

/-- An owner command (R464). -/
def State.secCmd (s : State) (m : Master) (op : Nat) : State := s.regCmd m SEC_CMD.off 4 (cmdWord SEC_CMD.OP op)

/-- SEC_ENROL (R464). -/
def secEnrol (m : Master) (s : State) : State := s.secCmd m 1
/-- SEC_KEYLOAD (R465). -/
def secKeyload (m : Master) (s : State) : State := s.secCmd m 2
/-- SEC_REVOKE (R464). -/
def secRevoke (m : Master) (s : State) : State := s.secCmd m 3
/-- SEC_NODECERT (R469). -/
def secNodecert (m : Master) (s : State) : State := s.secCmd m 4
/-- SEC_SVN_RAISE (R464). -/
def secSvnRaise (m : Master) (s : State) : State := s.secCmd m 5
/-- SEC_ZEROISE (R464). -/
def secZeroise (m : Master) (s : State) : State := s.secCmd m 6
/-- SEC_TRANSFER (R464). -/
def secTransfer (m : Master) (s : State) : State := s.secCmd m 7

/-- SESSION_OPEN (R467). -/
def sessionOpen (m : Master) (s : State) : State := s.regCmd m SEC_SESS_CMD.off 4 (cmdWord SEC_SESS_CMD.OP 1)
/-- SESSION_VERIFY (R467). -/
def sessionVerify (m : Master) (s : State) : State := s.regCmd m SEC_SESS_CMD.off 4 (cmdWord SEC_SESS_CMD.OP 2)
/-- SESSION_CLOSE (R467). -/
def sessionClose (m : Master) (s : State) : State := s.regCmd m SEC_SESS_CMD.off 4 (cmdWord SEC_SESS_CMD.OP 3)

/-! ### Sump -/

/-- EVENT_CLEAR (R476): a word of the pending bits. -/
def eventClear (m : Master) (k : Fin 16) (val : Word) (s : State) : State := s.regCmd m (EVT_PEND.off k.val) 4 val

/-- SOFTWARE_EVENT (R475): EVT_SWSET. -/
def softwareEvent (m : Master) (val : Word) (s : State) : State := s.regCmd m EVT_SWSET.off 4 val

/-- SNAP_TAKE (R487). -/
def snapTake (m : Master) (s : State) : State := s.regCmd m SNAP_CMD.off 4 (cmdWord SNAP_CMD.OP 1)
/-- SNAP_RELEASE (R490). -/
def snapRelease (m : Master) (s : State) : State := s.regCmd m SNAP_CMD.off 4 (cmdWord SNAP_CMD.OP 2)

end Sys2Proof.Machine
end

