-- ==== Sys2Proof/Machine/Finish.lean ====
section
/-! DEFINITION. How every command ends: a reset that it asked for is entered, and the queue stays as it is. -/

namespace Sys2Proof.Machine

/-- The state `t` that a command left `s` in, with a reset that was asked for entered (R423) and the queue of `s`, which no command
changes. -/
def State.finish (s t : State) : State := { t.settle with pending := s.pending }

end Sys2Proof.Machine
end

