-- ==== Sys2Proof/Machine/ExecAccess.lean ====
section
/-! DEFINITION. Accesses by masters and the AVS loop (ch. 1): what `exec` does with each command. -/

namespace Sys2Proof.Machine

/-- REGISTER_WRITE (R37). -/
def execRegisterWrite (m : Master) (off width : Nat) (val : Word) (s : State) : Host.Outcome State Fault Refusal :=
  .next (s.finish (registerWrite m off width val s))

/-- HELD_ACCESS_COMPLETE (R10). -/
def execHeldAccessComplete (s : State) : Host.Outcome State Fault Refusal :=
  .next (s.finish (heldAccessComplete s))

/-- MULTIWORD_READ_LATCH (R41). -/
def execMultiwordReadLatch (m : Master) (off : Nat) (s : State) : Host.Outcome State Fault Refusal :=
  .next (s.finish (multiwordReadLatch m off s))

/-- MULTIWORD_STAGED_WRITE (R42). -/
def execMultiwordStagedWrite (m : Master) (off : Nat) (val : Word) (s : State) : Host.Outcome State Fault Refusal :=
  .next (s.finish (multiwordStagedWrite m off val s))

/-- COUNTER_CLEAR (R43). -/
def execCounterClear (m : Master) (off : Nat) (val : Word) (s : State) : Host.Outcome State Fault Refusal :=
  .next (s.finish (counterClear m off val s))

/-- AVS_EVALUATE (R17). -/
def execAvsEvaluate (demand capacity : Nat) (s : State) : Host.Outcome State Fault Refusal :=
  .next (s.finish (avsEvaluate demand capacity s))

/-- AVS_TRANSACTION_FAIL (R19). -/
def execAvsTransactionFail (s : State) : Host.Outcome State Fault Refusal :=
  .next (s.finish (avsTransactionFail s))

/-- GOVERNOR_STEP (R516). -/
def execGovernorStep (tj : Int) (s : State) : Host.Outcome State Fault Refusal :=
  .next (s.finish (governorStep tj s))

end Sys2Proof.Machine
end

