-- ==== Sys2Proof/Machine/ExecBoot.lean ====
section
/-! DEFINITION. Resets and start-up: what `exec` does with each command. -/

namespace Sys2Proof.Machine

/-- POWER_ON_RESET (R423). -/
def execPowerOnReset (s : State) : Host.Outcome State Fault Refusal :=
  .next (s.finish (powerOnReset s))

/-- RST_N_ASSERT (R423). -/
def execRstNAssert (s : State) : Host.Outcome State Fault Refusal :=
  .next (s.finish (rstNAssert s))

/-- CFG_RESET_SYSTEM (R424). -/
def execCfgResetSystem (m : Master) (s : State) : Host.Outcome State Fault Refusal :=
  .next (s.finish (cfgResetSystem m s))

/-- CFG_RESET_CONTROL (R424). -/
def execCfgResetControl (m : Master) (s : State) : Host.Outcome State Fault Refusal :=
  .next (s.finish (cfgResetControl m s))

/-- BOOT_SEQUENCE_START (R426). -/
def execBootSequenceStart (selfTestOk : Bool) (s : State) : Host.Outcome State Fault Refusal :=
  .next (s.finish (bootSequenceStart selfTestOk s))

/-- BOOT_DOMAINS_READY (R427). -/
def execBootDomainsReady (size : Nat) (modes : Fin 16) (s : State) : Host.Outcome State Fault Refusal :=
  .next (s.finish (bootDomainsReady size modes s))

/-- BOOT_LOAD_DONE (R433). -/
def execBootLoadDone (img : List Byte) (unitA unitB : Bool) (s : State) : Host.Outcome State Fault Refusal :=
  .next (s.finish (bootLoadDone img unitA unitB s))

/-- VAON_LOSS (R507). -/
def execVaonLoss (s : State) : Host.Outcome State Fault Refusal :=
  .next (s.finish (vaonLoss s))

/-- JTAG_RESET (R423). -/
def execJtagReset (s : State) : Host.Outcome State Fault Refusal :=
  .next (s.finish (jtagReset s))

end Sys2Proof.Machine
end

