-- ==== Sys2Proof/Machine/ExecBridges.lean ====
section
/-! DEFINITION. The host port, Sluice and the tunnels: what `exec` does with each command. -/

namespace Sys2Proof.Machine

/-- HOST_WRITE (R246). -/
def execHostWrite (addr : BitVec 64) (data : List Byte) (crcOk : Bool) (s : State) : Host.Outcome State Fault Refusal :=
  .next (s.finish (hostWrite addr data crcOk s))

/-- HOST_READ (R240). -/
def execHostRead (addr : BitVec 64) (len : Nat) (crcOk : Bool) (s : State) : Host.Outcome State Fault Refusal :=
  .next (s.finish (hostRead addr len crcOk s))

/-- HOST_CLAIM (R241). -/
def execHostClaim (tag : Fin 256) (crcOk : Bool) (s : State) : Host.Outcome State Fault Refusal :=
  .next (s.finish (hostClaim tag crcOk s))

/-- HOST_READ_ONCE (R243). -/
def execHostReadOnce (addr : BitVec 64) (len : Nat) (crcOk : Bool) (s : State) : Host.Outcome State Fault Refusal :=
  .next (s.finish (hostReadOnce addr len crcOk s))

/-- HOST_STATUS (R237). -/
def execHostStatus (crcOk : Bool) (s : State) : Host.Outcome State Fault Refusal :=
  .next (s.finish (hostStatus crcOk s))

/-- HOST_BAD_OPCODE (R233). -/
def execHostBadOpcode (s : State) : Host.Outcome State Fault Refusal :=
  .next (s.finish (hostBadOpcode s))

/-- HOST_ABORT (R238). -/
def execHostAbort (phase : HostPhase) (s : State) : Host.Outcome State Fault Refusal :=
  .next (s.finish (hostAbort phase s))

/-- DELAYED_READ_COMPLETE (R241). -/
def execDelayedReadComplete (tag : Fin 64) (s : State) : Host.Outcome State Fault Refusal :=
  .next (s.finish (delayedReadComplete tag s))

/-- CLAIM_WINDOW_EXPIRE (R241). -/
def execClaimWindowExpire (tag : Fin 64) (s : State) : Host.Outcome State Fault Refusal :=
  .next (s.finish (claimWindowExpire tag s))

/-- STRANDED_POP (R245). -/
def execStrandedPop (m : Master) (val : Word) (s : State) : Host.Outcome State Fault Refusal :=
  .next (s.finish (strandedPop m val s))

/-- PWF_POP (R248). -/
def execPwfPop (m : Master) (val : Word) (s : State) : Host.Outcome State Fault Refusal :=
  .next (s.finish (pwfPop m val s))

/-- POSTED_WRITE_DRAIN (R247). -/
def execPostedWriteDrain (s : State) : Host.Outcome State Fault Refusal :=
  .next (s.finish (postedWriteDrain s))

/-- HOST_BACKOFF (R251). -/
def execHostBackoff (tag : Option (Fin 64)) (s : State) : Host.Outcome State Fault Refusal :=
  .next (s.finish (hostBackoff tag s))

/-- PREFETCH_EXPIRE (R244). -/
def execPrefetchExpire (s : State) : Host.Outcome State Fault Refusal :=
  .next (s.finish (prefetchExpire s))

/-- SIGNAL_UPDATE (R252). -/
def execSignalUpdate (kind : Fin 16) (unit obj : Nat) (payload : List Byte) (fault : Bool) (s : State) : Host.Outcome State Fault Refusal :=
  .next (s.finish (signalUpdate kind unit obj payload fault s))

/-- TUNNEL_FRAME_ARRIVE (R254). -/
def execTunnelFrameArrive (f : Frame) (s : State) (bad : Option Nat := none) : Host.Outcome State Fault Refusal :=
  .next (s.finish (tunnelFrameArrive f bad s))

end Sys2Proof.Machine
end

