-- ==== Sys2Proof/Machine/ExecCan.lean ====
section
/-! DEFINITION. CAN FD: what `exec` does with each command. -/

namespace Sys2Proof.Machine

/-- CAN_FRAME_RECEIVE (R351). -/
def execCanFrameReceive (n : Fin 8) (f : CanFrame) (age : BitVec 24) (s : State) (err : Fin 9 := 0) : Host.Outcome State Fault Refusal :=
  .next (s.finish (canFrameReceive n f age err s))

/-- CAN_TXREQ (R353). -/
def execCanTxreq (m : Master) (n : Fin 8) (obj : Fin 64) (s : State) : Host.Outcome State Fault Refusal :=
  .next (s.finish (canTxreq m n obj s))

/-- CAN_CANCEL (R354). -/
def execCanCancel (m : Master) (n : Fin 8) (obj : Fin 64) (s : State) : Host.Outcome State Fault Refusal :=
  .next (s.finish (canCancel m n obj s))

/-- CAN_COMMIT_DATA (R352). -/
def execCanCommitData (m : Master) (n : Fin 8) (obj : Fin 64) (s : State) : Host.Outcome State Fault Refusal :=
  .next (s.finish (canCommitData m n obj s))

/-- CAN_RECOVER (R359). -/
def execCanRecover (m : Master) (n : Fin 8) (s : State) : Host.Outcome State Fault Refusal :=
  .next (s.finish (canRecover m n s))

/-- CAN_PERIOD_EXPIRE (R353). -/
def execCanPeriodExpire (n : Fin 8) (o : Fin 64) (s : State) : Host.Outcome State Fault Refusal :=
  .next (s.finish (canPeriodExpire n o s))

/-- CAN_TX_COMMIT (R352). -/
def execCanTxCommit (n : Fin 8) (s : State) : Host.Outcome State Fault Refusal :=
  .next (s.finish (canTxCommit n s))

/-- CAN_TX_DONE (R357). -/
def execCanTxDone (n : Fin 8) (e : CanEnd) (age : BitVec 24) (s : State) : Host.Outcome State Fault Refusal :=
  .next (s.finish (canTxDone n e age s))

/-- CAN_RECOVERY_DONE (R359). -/
def execCanRecoveryDone (n : Fin 8) (s : State) : Host.Outcome State Fault Refusal :=
  .next (s.finish (canRecoveryDone n s))

/-- CAN_WINDOW_OPEN (R356). -/
def execCanWindowOpen (n : Fin 8) (w : Fin 32) (idle : Bool) (s : State) : Host.Outcome State Fault Refusal :=
  .next (s.finish (canWindowOpen n w idle s))

/-- CAN_TXEN_EXPIRE (R357). -/
def execCanTxenExpire (n : Fin 8) (s : State) : Host.Outcome State Fault Refusal :=
  .next (s.finish (canTxenExpire n s))

/-- CAN_TT_APPLY (R358). -/
def execCanTtApply (n : Fin 8) (s : State) : Host.Outcome State Fault Refusal :=
  .next (s.finish (canTtApply n s))

/-- CAN_MODE_INIT_WRITE (R362). -/
def execCanModeInitWrite (m : Master) (n : Fin 8) (s : State) : Host.Outcome State Fault Refusal :=
  .next (s.finish (canModeInitWrite m n s))

end Sys2Proof.Machine
end

