-- ==== Sys2Proof/Machine/ExecCascade.lean ====
section
/-! DEFINITION. The Cascade switch and the ETH ports: what `exec` does with each command. -/

namespace Sys2Proof.Machine

/-- CREDIT_SET_RECEIVE (R213). -/
def execCreditSetReceive (p : Fin 4) (h l : Fin 256) (s : State) : Host.Outcome State Fault Refusal :=
  .next (s.finish (creditSetReceive p h l s))

/-- FRAME_ADMIT (R208). -/
def execFrameAdmit (inPort : Fin 11) (cls : Fin 8) (s : State) (bad : Option Nat := none) : Host.Outcome State Fault Refusal :=
  .next (s.finish ((frameAdmit inPort cls bad s).ethTunnelTake bad))

/-- ETH_FRAME_RECEIVE (R221). -/
def execEthFrameReceive (n : Fin 4) (bytes : List Byte) (fcsGood codeErr : Bool) (s : State) (bad : Option Nat := none) : Host.Outcome State Fault Refusal :=
  .next (s.finish ((ethFrameReceive n bytes fcsGood codeErr bad s).ethTunnelTake bad))

/-- PAUSE_FRAME_RECEIVE (R224). -/
def execPauseFrameReceive (n : Fin 4) (pfc : Bool) (enable : Fin 256) (quanta : List Nat) (s : State) : Host.Outcome State Fault Refusal :=
  .next (s.finish (pauseFrameReceive n pfc enable quanta s))

/-- XOFF_REPEAT (R224). -/
def execXoffRepeat (n : Fin 4) (s : State) : Host.Outcome State Fault Refusal :=
  .next (s.finish (xoffRepeat n s))

/-- ETH_LINK_DOWN (R223). -/
def execEthLinkDown (n : Fin 4) (s : State) : Host.Outcome State Fault Refusal :=
  .next (s.finish (ethLinkDown n s))

/-- ETH_LINK_UP (R223). -/
def execEthLinkUp (n : Fin 4) (lpPause : Fin 4) (s : State) : Host.Outcome State Fault Refusal :=
  .next (s.finish (ethLinkUp n lpPause s))

/-- MDIO_START (R225). -/
def execMdioStart (m : Master) (n : Fin 4) (val : Word) (s : State) : Host.Outcome State Fault Refusal :=
  .next (s.finish (mdioStart m n val s))

/-- MDIO_DONE (R225). -/
def execMdioDone (n : Fin 4) (data : Option (BitVec 16)) (s : State) : Host.Outcome State Fault Refusal :=
  .next (s.finish (mdioDone n data s))

/-- CREDIT_SET_SEND (R213). -/
def execCreditSetSend (p : Fin 4) (s : State) : Host.Outcome State Fault Refusal :=
  .next (s.finish (creditSetSend p s))

/-- ETH_EGRESS_SEND (R215). -/
def execEthEgressSend (n : Fin 4) (q : Fin 16) (bad : Option Nat) (s : State) : Host.Outcome State Fault Refusal :=
  .next (s.finish (ethEgressSend n q bad s))

end Sys2Proof.Machine
end

