-- ==== Sys2Proof/Machine/ExecCisterns.lean ====
section
/-! DEFINITION. Cisterns: what `exec` does with each command. -/

namespace Sys2Proof.Machine

/-- CISTERN_PUSH (R338). -/
def execCisternPush (m : Master) (n : Fin 256) (data : List Byte) (s : State) : Host.Outcome State Fault Refusal :=
  .next (s.finish (cisternPush m n data s))

/-- CISTERN_PUSH_CLOSE (R338). -/
def execCisternPushClose (m : Master) (n : Fin 256) (typ : Fin 128) (data : List Byte) (s : State) : Host.Outcome State Fault Refusal :=
  .next (s.finish (cisternPushClose m n typ data s))

/-- CISTERN_CLOSE (R337). -/
def execCisternClose (m : Master) (n : Fin 256) (typ : Fin 128) (s : State) : Host.Outcome State Fault Refusal :=
  .next (s.finish (cisternClose m n typ s))

/-- CISTERN_ABORT (R337). -/
def execCisternAbort (m : Master) (n : Fin 256) (s : State) : Host.Outcome State Fault Refusal :=
  .next (s.finish (cisternAbort m n s))

/-- CISTERN_POP (R340). -/
def execCisternPop (m : Master) (n : Fin 256) (len : Nat) (bad : Option Nat) (corr : Nat) (s : State) : Host.Outcome State Fault Refusal :=
  .next (s.finish (cisternPop m n len bad corr s))

/-- CISTERN_PUSH_RESUME (R339). -/
def execCisternPushResume (n : Fin 256) (s : State) : Host.Outcome State Fault Refusal :=
  .next (s.finish (cisternPushResume n s))

/-- CISTERN_TUNNEL_TAKE (R341). -/
def execCisternTunnelTake (n : Fin 256) (bad : Option Nat) (corr : Nat) (s : State) : Host.Outcome State Fault Refusal :=
  .next (s.finish (cisternTunnelTake n bad corr s))

/-- CISTERN_FLUSH (R346). -/
def execCisternFlush (m : Master) (n : Fin 256) (s : State) : Host.Outcome State Fault Refusal :=
  .next (s.finish (cisternFlush m n s))

/-- CISTERN_ABORT_CMD (R349). -/
def execCisternAbortCmd (m : Master) (n : Fin 256) (s : State) : Host.Outcome State Fault Refusal :=
  .next (s.finish (cisternAbortCmd m n s))

/-- CST_TLOG_POP (R342). -/
def execCstTlogPop (m : Master) (val : Word) (s : State) : Host.Outcome State Fault Refusal :=
  .next (s.finish (cstTlogPop m val s))

end Sys2Proof.Machine
end

