-- ==== Sys2Proof/Machine/ExecCycle.lean ====
section
/-! DEFINITION. The ring cycle: what `exec` does with each command. -/

namespace Sys2Proof.Machine

/-- CYCLE_START (R131). -/
def execCycleStart (s : State) : Host.Outcome State Fault Refusal :=
  let t := cycleStart s
  .next (s.finish (if t.cyc.num = s.cyc.num then t else t.runnelCycle))

/-- SUMMATION_LAUNCH (R137). -/
def execSummationLaunch (s : State) : Host.Outcome State Fault Refusal :=
  .next (s.finish (summationLaunch s))

/-- SUMMATION_FRAME_PASS (R140). -/
def execSummationFramePass (p : Fin 4) (f : Frame) (s : State) : Host.Outcome State Fault Refusal :=
  .next (s.finish (summationFramePass p f s))

/-- CYCLIC_WINDOW_CLOSE (R149). -/
def execCyclicWindowClose (s : State) : Host.Outcome State Fault Refusal :=
  .next (s.finish (cyclicWindowClose s))

/-- JOIN_TIMEOUT (R151). -/
def execJoinTimeout (s : State) : Host.Outcome State Fault Refusal :=
  .next (s.finish (joinTimeout s))

/-- RING_CFG_WRITE (R151). -/
def execRingCfgWrite (m : Master) (val : Word) (s : State) : Host.Outcome State Fault Refusal :=
  .next (s.finish (ringCfgWrite m val s))

/-- RING_APPLY_WRITE (R135). -/
def execRingApplyWrite (m : Master) (val : Word) (s : State) : Host.Outcome State Fault Refusal :=
  .next (s.finish (ringApplyWrite m val s))

/-- CYCLE_APPLY_AT (R135). -/
def execCycleApplyAt (s : State) : Host.Outcome State Fault Refusal :=
  .next (s.finish (cycleApplyAt s))

/-- SUBSCRIPTION_WRITE (R156). -/
def execSubscriptionWrite (m : Master) (k : Fin 2) (val : Word) (s : State) : Host.Outcome State Fault Refusal :=
  .next (s.finish (subscriptionWrite m k val s))

end Sys2Proof.Machine
end

