-- ==== Sys2Proof/Machine/ExecFeeds.lean ====
section
/-! DEFINITION. Feeds: what `exec` does with each command. -/

namespace Sys2Proof.Machine

/-- FEED_ON (R386). -/
def execFeedOn (m : Master) (n : Fin 16) (s : State) : Host.Outcome State Fault Refusal :=
  .next (s.finish (feedOn m n s))

/-- FEED_OFF (R386). -/
def execFeedOff (m : Master) (n : Fin 16) (s : State) : Host.Outcome State Fault Refusal :=
  .next (s.finish (feedOff m n s))

/-- FEED_RESTART (R394). -/
def execFeedRestart (m : Master) (n : Fin 16) (s : State) : Host.Outcome State Fault Refusal :=
  .next (s.finish (feedRestart m n s))

/-- FEED_CLEAR (R396). -/
def execFeedClear (m : Master) (n : Fin 16) (s : State) : Host.Outcome State Fault Refusal :=
  .next (s.finish (feedClear m n s))

/-- FEED_KILL_CMD (R396). -/
def execFeedKillCmd (m : Master) (s : State) : Host.Outcome State Fault Refusal :=
  .next (s.finish (feedKillCmd m s))

/-- FEED_CLEAR_KILL (R396). -/
def execFeedClearKill (m : Master) (s : State) : Host.Outcome State Fault Refusal :=
  .next (s.finish (feedClearKill m s))

/-- FEED_SAMPLE (R393). -/
def execFeedSample (n : Fin 16) (sense : Int) (vin vout vgs : Nat) (tdie : Int) (ntc : Option Nat) (s : State) : Host.Outcome State Fault Refusal :=
  .next (s.finish (feedSample n sense vin vout vgs tdie ntc s))

/-- FEED_FAST_TRIP (R391). -/
def execFeedFastTrip (n : Fin 16) (s : State) : Host.Outcome State Fault Refusal :=
  .next (s.finish (feedFastTrip n s))

/-- FEED_OVERLOAD_STEP (R392). -/
def execFeedOverloadStep (n : Fin 16) (s : State) : Host.Outcome State Fault Refusal :=
  .next (s.finish (feedOverloadStep n s))

/-- FEED_RAMP_TIMEOUT (R388). -/
def execFeedRampTimeout (n : Fin 16) (s : State) : Host.Outcome State Fault Refusal :=
  .next (s.finish (feedRampTimeout n s))

/-- FEED_PG_CHANGE (R389). -/
def execFeedPgChange (n : Fin 16) (s : State) : Host.Outcome State Fault Refusal :=
  .next (s.finish (feedPgChange n s))

/-- FEED_RETRY_END (R394). -/
def execFeedRetryEnd (n : Fin 16) (s : State) : Host.Outcome State Fault Refusal :=
  .next (s.finish (feedRetryEnd n s))

/-- FEED_RAIL_OK (R390). -/
def execFeedRailOk (n : Fin 16) (s : State) : Host.Outcome State Fault Refusal :=
  .next (s.finish (feedRailOk n s))

/-- FEED_TRIP_COUNT_RESET (R394). -/
def execFeedTripCountReset (n : Fin 16) (s : State) : Host.Outcome State Fault Refusal :=
  .next (s.finish (feedTripCountReset n s))

/-- FEED_DAMAGE_DETECT (R395). -/
def execFeedDamageDetect (n : Fin 16) (s : State) : Host.Outcome State Fault Refusal :=
  .next (s.finish (feedDamageDetect n s))

/-- FEED_MEAS_UPDATE (R397). -/
def execFeedMeasUpdate (n : Fin 16) (s : State) : Host.Outcome State Fault Refusal :=
  .next (s.finish (feedMeasUpdate n s))

end Sys2Proof.Machine
end

