-- ==== Sys2Proof/Machine/ExecFlow.lean ====
section
/-! DEFINITION. Flows and the journal: what `exec` does with each command. -/

namespace Sys2Proof.Machine

/-- WORK_SUBMIT (R166). -/
def execWorkSubmit (m : Master) (flow : Fin 1024) (op : Fin 256) (addr : BitVec 64) (data : List Byte) (seg : Fin 4) (s : State) : Host.Outcome State Fault Refusal :=
  .next (s.finish (workSubmit m flow op addr data seg s))

/-- SUBMIT_UNBLOCK (R164). -/
def execSubmitUnblock (f : Fin 1024) (s : State) : Host.Outcome State Fault Refusal :=
  .next (s.finish (submitUnblock f s))

/-- GROUP_CLOSE (R167). -/
def execGroupClose (s : State) : Host.Outcome State Fault Refusal :=
  .next (s.finish (groupClose s))

/-- GROUP_COMMIT_DONE (R165). -/
def execGroupCommitDone (s : State) : Host.Outcome State Fault Refusal :=
  .next (s.finish (groupCommitDone s))

/-- WORK_ARRIVAL (R178). -/
def execWorkArrival (f : Frame) (s : State) (bad : Option Nat := none) : Host.Outcome State Fault Refusal :=
  .next (s.finish (workArrival f bad s))

/-- WAITING_ITEM_APPLY (R178). -/
def execWaitingItemApply (s : State) : Host.Outcome State Fault Refusal :=
  .next (s.finish (waitingItemApply s))

/-- WORK_ACK_RECEIVE (R184). -/
def execWorkAckReceive (f : Frame) (s : State) (bad : Option Nat := none) : Host.Outcome State Fault Refusal :=
  .next (s.finish (workAckReceive f bad s))

/-- RESEND_TIMER_EXPIRE (R177). -/
def execResendTimerExpire (f : Fin 1024) (s : State) : Host.Outcome State Fault Refusal :=
  .next (s.finish (resendTimerExpire f s))

/-- REACH_TIMEOUT (R185). -/
def execReachTimeout (f : Fin 1024) (s : State) : Host.Outcome State Fault Refusal :=
  .next (s.finish (reachTimeout f s))

/-- FLOW_ABANDON (R186). -/
def execFlowAbandon (m : Master) (s : State) : Host.Outcome State Fault Refusal :=
  .next (s.finish (flowAbandon m s))

/-- FLOW_PROBE (R187). -/
def execFlowProbe (m : Master) (s : State) : Host.Outcome State Fault Refusal :=
  .next (s.finish (flowProbe m s))

/-- OUTSTATE_SWEEP (R173). -/
def execOutstateSweep (s : State) : Host.Outcome State Fault Refusal :=
  .next (s.finish (outstateSweep s))

/-- COMMIT_INTERVAL_WRITE (R169). -/
def execCommitIntervalWrite (m : Master) (val : Word) (s : State) : Host.Outcome State Fault Refusal :=
  .next (s.finish (commitIntervalWrite m val s))

/-- FLOW_RECOVER (R189). -/
def execFlowRecover (s : State) : Host.Outcome State Fault Refusal :=
  .next (s.finish (flowRecover s))

/-- RECOVERY_RESEND (R189). -/
def execRecoveryResend (s : State) : Host.Outcome State Fault Refusal :=
  .next (s.finish (recoveryResend s))

/-- RESERVOIR_PATROL (R196). -/
def execReservoirPatrol (off : Nat) (e : EccFind) (s : State) : Host.Outcome State Fault Refusal :=
  .next (s.finish (reservoirPatrol off e s))

/-- REMOTE_READ_REQUEST (R522). -/
def execRemoteReadRequest (m : Master) (addr : BitVec 64) (len : Nat) (s : State) : Host.Outcome State Fault Refusal :=
  .next (s.finish (remoteReadRequest m addr len s))

/-- RREAD_RECEIVE (R522). -/
def execRreadReceive (f : Frame) (s : State) (bad : Option Nat := none) : Host.Outcome State Fault Refusal :=
  .next (s.finish (rreadReceive f bad s))

/-- RREAD_RSP_RECEIVE (R522). -/
def execRreadRspReceive (f : Frame) (s : State) (bad : Option Nat := none) : Host.Outcome State Fault Refusal :=
  .next (s.finish (rreadRspReceive f bad s))

/-- RREAD_RETRY_EXPIRE (R522). -/
def execRreadRetryExpire (tag : Nat) (s : State) : Host.Outcome State Fault Refusal :=
  .next (s.finish (rreadRetryExpire tag s))

/-- RREAD_REACH_TIMEOUT (R522). -/
def execRreadReachTimeout (tag : Nat) (s : State) : Host.Outcome State Fault Refusal :=
  .next (s.finish (rreadReachTimeout tag s))

/-- JOURNAL_WINDOW_READ (R198). -/
def execJournalWindowRead (m : Master) (w : Fin 256) (off : BitVec 32) (len : Nat) (s : State) : Host.Outcome State Fault Refusal :=
  .next (s.finish (journalWindowRead m w off len s))

end Sys2Proof.Machine
end

