-- ==== Sys2Proof/Machine/ExecGrotto.lean ====
section
/-! DEFINITION. Grotto: what `exec` does with each command. -/

namespace Sys2Proof.Machine

/-- SEC_ENROL (R464). -/
def execSecEnrol (m : Master) (s : State) : Host.Outcome State Fault Refusal :=
  .next (s.finish (secEnrol m s))

/-- SEC_KEYLOAD (R465). -/
def execSecKeyload (m : Master) (s : State) : Host.Outcome State Fault Refusal :=
  .next (s.finish (secKeyload m s))

/-- SEC_REVOKE (R464). -/
def execSecRevoke (m : Master) (s : State) : Host.Outcome State Fault Refusal :=
  .next (s.finish (secRevoke m s))

/-- SEC_NODECERT (R469). -/
def execSecNodecert (m : Master) (s : State) : Host.Outcome State Fault Refusal :=
  .next (s.finish (secNodecert m s))

/-- SEC_SVN_RAISE (R464). -/
def execSecSvnRaise (m : Master) (s : State) : Host.Outcome State Fault Refusal :=
  .next (s.finish (secSvnRaise m s))

/-- SEC_ZEROISE (R464). -/
def execSecZeroise (m : Master) (s : State) : Host.Outcome State Fault Refusal :=
  .next (s.finish (secZeroise m s))

/-- SEC_TRANSFER (R464). -/
def execSecTransfer (m : Master) (s : State) : Host.Outcome State Fault Refusal :=
  .next (s.finish (secTransfer m s))

/-- SESSION_OPEN (R467). -/
def execSessionOpen (m : Master) (s : State) : Host.Outcome State Fault Refusal :=
  .next (s.finish (sessionOpen m s))

/-- SESSION_VERIFY (R467). -/
def execSessionVerify (m : Master) (s : State) : Host.Outcome State Fault Refusal :=
  .next (s.finish (sessionVerify m s))

/-- SESSION_CLOSE (R467). -/
def execSessionClose (m : Master) (s : State) : Host.Outcome State Fault Refusal :=
  .next (s.finish (sessionClose m s))

/-- SESSION_EXPIRE (R467). -/
def execSessionExpire (s : State) : Host.Outcome State Fault Refusal :=
  .next (s.finish (sessionExpire s))

/-- KA_INIT_RECEIVE (R470). -/
def execKaInitReceive (p : Fin 4) (f : Frame) (s : State) : Host.Outcome State Fault Refusal :=
  .next (s.finish (kaInitReceive p f s))

/-- KA_RESP_RECEIVE (R471). -/
def execKaRespReceive (p : Fin 4) (f : Frame) (s : State) : Host.Outcome State Fault Refusal :=
  .next (s.finish (kaRespReceive p f s))

/-- KA_CONFIRM_RECEIVE (R471). -/
def execKaConfirmReceive (p : Fin 4) (f : Frame) (s : State) : Host.Outcome State Fault Refusal :=
  .next (s.finish (kaConfirmReceive p f s))

/-- KA_TX_SWITCH (R471). -/
def execKaTxSwitch (p : Fin 4) (s : State) : Host.Outcome State Fault Refusal :=
  .next (s.finish (kaTxSwitch p s))

/-- KA_OLD_AN_CLEAR (R471). -/
def execKaOldAnClear (p : Fin 4) (s : State) : Host.Outcome State Fault Refusal :=
  .next (s.finish (kaOldAnClear p s))

/-- KA_TIMEOUT (R471). -/
def execKaTimeout (p : Fin 4) (s : State) : Host.Outcome State Fault Refusal :=
  .next (s.finish (kaTimeout p s))

/-- REKEY_PERIODIC (R471). -/
def execRekeyPeriodic (p : Fin 4) (s : State) : Host.Outcome State Fault Refusal :=
  .next (s.finish (rekeyPeriodic p s))

/-- NOISE_HEALTH_FAIL (R461). -/
def execNoiseHealthFail (s : State) : Host.Outcome State Fault Refusal :=
  .next (s.finish (noiseHealthFail s))

/-- TAMPER_DETECT (R472). -/
def execTamperDetect (s : State) : Host.Outcome State Fault Refusal :=
  .next (s.finish (tamperDetect s))

/-- DEBUG_UNLOCK (R468). -/
def execDebugUnlock (nonce token : List Byte) (s : State) : Host.Outcome State Fault Refusal :=
  .next (s.finish (debugUnlock nonce token s))

end Sys2Proof.Machine
end

