-- ==== Sys2Proof/Machine/ExecJets.lean ====
section
/-! DEFINITION. Jets and field pins: what `exec` does with each command. -/

namespace Sys2Proof.Machine

/-- JET_GOTO (R320). -/
def execJetGoto (j : Fin 64) (s : State) : Host.Outcome State Fault Refusal :=
  .next (s.finish (jetGoto j s))

/-- JET_SET (R320). -/
def execJetSet (j : Fin 64) (s : State) : Host.Outcome State Fault Refusal :=
  .next (s.finish (jetSet j s))

/-- JET_SEND (R321). -/
def execJetSend (j : Fin 64) (s : State) : Host.Outcome State Fault Refusal :=
  .next (s.finish (jetSend j s))

/-- JET_RECV (R321). -/
def execJetRecv (j : Fin 64) (s : State) : Host.Outcome State Fault Refusal :=
  .next (s.finish (jetRecv j s))

/-- JET_LOAD (R321). -/
def execJetLoad (j : Fin 64) (s : State) : Host.Outcome State Fault Refusal :=
  .next (s.finish (jetLoad j s))

/-- JET_POST (R321). -/
def execJetPost (j : Fin 64) (s : State) : Host.Outcome State Fault Refusal :=
  .next (s.finish (jetPost j s))

/-- JET_NSET (R320). -/
def execJetNset (j : Fin 64) (s : State) : Host.Outcome State Fault Refusal :=
  .next (s.finish (jetNset j s))

/-- JET_REP (R321). -/
def execJetRep (j : Fin 64) (s : State) : Host.Outcome State Fault Refusal :=
  .next (s.finish (jetRep j s))

/-- JET_WAITE (R321). -/
def execJetWaite (j : Fin 64) (s : State) : Host.Outcome State Fault Refusal :=
  .next (s.finish (jetWaite j s))

/-- JET_MARK (R320). -/
def execJetMark (j : Fin 64) (s : State) : Host.Outcome State Fault Refusal :=
  .next (s.finish (jetMark j s))

/-- JET_PACK (R321). -/
def execJetPack (j : Fin 64) (s : State) : Host.Outcome State Fault Refusal :=
  .next (s.finish (jetPack j s))

/-- JET_SIG (R321). -/
def execJetSig (j : Fin 64) (s : State) : Host.Outcome State Fault Refusal :=
  .next (s.finish (jetSig j s))

/-- JET_FAULT (R322). -/
def execJetFault (j : Fin 64) (s : State) : Host.Outcome State Fault Refusal :=
  .next (s.finish (jetFault j s))

/-- JET_TX_WRITE (R323). -/
def execJetTxWrite (m : Master) (j : Fin 64) (val : Word) (s : State) : Host.Outcome State Fault Refusal :=
  .next (s.finish (jetTxWrite m j val s))

/-- JET_RX_POP (R323). -/
def execJetRxPop (m : Master) (j : Fin 64) (val : Word) (s : State) : Host.Outcome State Fault Refusal :=
  .next (s.finish (jetRxPop m j val s))

/-- JET_RUN (R327). -/
def execJetRun (m : Master) (j : Fin 64) (s : State) : Host.Outcome State Fault Refusal :=
  .next (s.finish (jetRun m j s))

/-- JET_STOP (R327). -/
def execJetStop (m : Master) (j : Fin 64) (s : State) : Host.Outcome State Fault Refusal :=
  .next (s.finish (jetStop m j s))

/-- JET_STEP (R327). -/
def execJetStep (m : Master) (j : Fin 64) (s : State) : Host.Outcome State Fault Refusal :=
  .next (s.finish (jetStep m j s))

/-- JET_CLEAR (R327). -/
def execJetClear (m : Master) (j : Fin 64) (s : State) : Host.Outcome State Fault Refusal :=
  .next (s.finish (jetClear m j s))

/-- JET_PC_WRITE (R327). -/
def execJetPcWrite (m : Master) (j : Fin 64) (val : Word) (s : State) : Host.Outcome State Fault Refusal :=
  .next (s.finish (jetPcWrite m j val s))

/-- JET_D_WRITE (R327). -/
def execJetDWrite (m : Master) (j : Fin 64) (val : Word) (s : State) : Host.Outcome State Fault Refusal :=
  .next (s.finish (jetDWrite m j val s))

/-- JET_PROG_WRITE (R328). -/
def execJetProgWrite (m : Master) (j : Fin 64) (k : Fin 128) (val : Word) (s : State) : Host.Outcome State Fault Refusal :=
  .next (s.finish (jetProgWrite m j k val s))

/-- JET_GROUP_GO (R329). -/
def execJetGroupGo (m : Master) (val : Word) (s : State) : Host.Outcome State Fault Refusal :=
  .next (s.finish (jetGroupGo m val s))

/-- JET_GROUP_ACT (R329). -/
def execJetGroupAct (b : Fin 2) (s : State) : Host.Outcome State Fault Refusal :=
  .next (s.finish (jetGroupAct b s))

/-- PIN_OWNER_WRITE (R311). -/
def execPinOwnerWrite (m : Master) (n : Fin 256) (val : Word) (s : State) : Host.Outcome State Fault Refusal :=
  .next (s.finish (pinOwnerWrite m n val s))

/-- PIN_LEVEL_WRITE (R310). -/
def execPinLevelWrite (m : Master) (k : Fin 16) (val : Word) (s : State) : Host.Outcome State Fault Refusal :=
  .next (s.finish (pinLevelWrite m k val s))

/-- PIN_IN_BIND_WRITE (R314). -/
def execPinInBindWrite (m : Master) (n : Fin 256) (val : Word) (s : State) : Host.Outcome State Fault Refusal :=
  .next (s.finish (pinInBindWrite m n val s))

/-- PIN_OUT_BIND_WRITE (R315). -/
def execPinOutBindWrite (m : Master) (n : Fin 256) (val : Word) (s : State) : Host.Outcome State Fault Refusal :=
  .next (s.finish (pinOutBindWrite m n val s))

/-- PIN_FILTER_EXPIRE (R314). -/
def execPinFilterExpire (n : Fin 256) (s : State) : Host.Outcome State Fault Refusal :=
  .next (s.finish (pinFilterExpire n s))

/-- PIN_COUNT_WRITE (R314). -/
def execPinCountWrite (n : Fin 256) (s : State) : Host.Outcome State Fault Refusal :=
  .next (s.finish (pinCountWrite n s))

/-- VIO_BANK_GOOD_CHANGE (R309). -/
def execVioBankGoodChange (b : Fin 8) (mv : Nat) (s : State) : Host.Outcome State Fault Refusal :=
  .next (s.finish (vioBankGoodChange b mv s))

/-- FIELD_PIN_LEVEL_CHANGE (R314). -/
def execFieldPinLevelChange (n : Fin 256) (level : Bool) (sub : Fin 4) (s : State) : Host.Outcome State Fault Refusal :=
  .next (s.finish (fieldPinLevelChange n level sub s))

end Sys2Proof.Machine
end

