-- ==== Sys2Proof/Machine/ExecLinks.lean ====
section
/-! DEFINITION. Ring links: what `exec` does with each command. -/

namespace Sys2Proof.Machine

/-- PELUM_FRAME_RECEIVE (R104). -/
def execPelumFrameReceive (p : Fin 4) (hdr : List Byte) (q : Fin 16) (slow : Bool) (s : State) : Host.Outcome State Fault Refusal :=
  .next (s.finish (pelumFrameReceive p hdr q slow s))

/-- FRAME_TRAILER_CHECK (R106). -/
def execFrameTrailerCheck (p : Fin 4) (payload icv : List Byte) (trailer : Word) (tile : Option (Fin 16384)) (s : State) :
    Host.Outcome State Fault Refusal :=
  .next (s.finish (frameTrailerCheck p payload icv trailer tile s))

/-- EGRESS_FRAME_START (R107). -/
def execEgressFrameStart (p : Fin 4) (sub : Fin 16) (bad : Option Nat) (s : State) : Host.Outcome State Fault Refusal :=
  .next (s.finish (egressFrameStart p sub bad s))

/-- HEARTBEAT_SEND (R115). -/
def execHeartbeatSend (p : Fin 4) (s : State) : Host.Outcome State Fault Refusal :=
  .next (s.finish (heartbeatSend p s))

/-- SIGNAL_LOST (R116). -/
def execSignalLost (p : Fin 4) (s : State) : Host.Outcome State Fault Refusal :=
  .next (s.finish (signalLost p s))

/-- PCS_LOCK_LOST (R116). -/
def execPcsLockLost (p : Fin 4) (s : State) : Host.Outcome State Fault Refusal :=
  .next (s.finish (pcsLockLost p s))

/-- NEIGHBOUR_STOPPED (R116). -/
def execNeighbourStopped (p : Fin 4) (s : State) : Host.Outcome State Fault Refusal :=
  .next (s.finish (neighbourStopped p s))

/-- DEGRADED_SPAN_WINDOW (R116). -/
def execDegradedSpanWindow (p : Fin 4) (corr uncorr : Nat) (s : State) : Host.Outcome State Fault Refusal :=
  .next (s.finish (degradedSpanWindow p corr uncorr s))

/-- SIGNAL_DETECT (R121). -/
def execSignalDetect (p : Fin 4) (s : State) : Host.Outcome State Fault Refusal :=
  .next (s.finish (signalDetect p s))

/-- PCS_LOCK_ACQUIRE (R121). -/
def execPcsLockAcquire (p : Fin 4) (s : State) : Host.Outcome State Fault Refusal :=
  .next (s.finish (pcsLockAcquire p s))

/-- HELLO_SEND (R523). -/
def execHelloSend (p : Fin 4) (s : State) : Host.Outcome State Fault Refusal :=
  .next (s.finish (helloSend p s))

/-- HELLO_RECEIVE (R123). -/
def execHelloReceive (p : Fin 4) (f : Frame) (s : State) : Host.Outcome State Fault Refusal :=
  .next (s.finish (helloReceive p f s))

/-- HOLD_EXPIRE (R121). -/
def execHoldExpire (p : Fin 4) (s : State) : Host.Outcome State Fault Refusal :=
  .next (s.finish (holdExpire p s))

/-- RING_STATE_WRAP_RECEIVE (R102). -/
def execRingStateWrapReceive (p : Fin 4) (f : Frame) (s : State) (bad : Option Nat := none) : Host.Outcome State Fault Refusal :=
  .next (s.finish (ringStateWrapReceive p f bad s))

/-- HEAL_READY_RECEIVE (R102). -/
def execHealReadyReceive (p : Fin 4) (f : Frame) (s : State) (bad : Option Nat := none) : Host.Outcome State Fault Refusal :=
  .next (s.finish (healReadyReceive p f bad s))

/-- UNWRAP_RECEIVE (R102). -/
def execUnwrapReceive (p : Fin 4) (f : Frame) (s : State) (bad : Option Nat := none) : Host.Outcome State Fault Refusal :=
  .next (s.finish (unwrapReceive p f bad s))

/-- UNWRAP_AT (R118). -/
def execUnwrapAt (plane : Fin 2) (s : State) : Host.Outcome State Fault Refusal :=
  .next (s.finish (unwrapAt plane s))

/-- LDLY_REQ_SEND (R110). -/
def execLdlyReqSend (p : Fin 4) (s : State) : Host.Outcome State Fault Refusal :=
  .next (s.finish (ldlyReqSend p s))

/-- LDLY_REQ_RECEIVE (R101). -/
def execLdlyReqReceive (p : Fin 4) (f : Frame) (q : Fin 16) (s : State) : Host.Outcome State Fault Refusal :=
  .next (s.finish (ldlyReqReceive p f q s))

/-- LDLY_RSP_RECEIVE (R110). -/
def execLdlyRspReceive (p : Fin 4) (f : Frame) (q : Fin 16) (s : State) : Host.Outcome State Fault Refusal :=
  .next (s.finish (ldlyRspReceive p f q s))

/-- PORT_MODE_WRITE (R128). -/
def execPortModeWrite (m : Master) (p : Fin 4) (val : Word) (s : State) : Host.Outcome State Fault Refusal :=
  .next (s.finish (portModeWrite m p val s))

/-- BYPASS_INSERT_WRITE (R125). -/
def execBypassInsertWrite (m : Master) (val : Word) (s : State) : Host.Outcome State Fault Refusal :=
  .next (s.finish (bypassInsertWrite m val s))

end Sys2Proof.Machine
end

