-- ==== Sys2Proof/Machine/ExecPoints.lean ====
section
/-! DEFINITION. Points, tiles and downstream windows: what `exec` does with each command. -/

namespace Sys2Proof.Machine

/-- POINT_READ (R61). -/
def execPointRead (m : Master) (off len : Nat) (s : State) : Host.Outcome State Fault Refusal :=
  .next (s.finish (pointRead m off len s))

/-- POINT_WRITE (R62). -/
def execPointWrite (m : Master) (off : Nat) (data : List Byte) (s : State) : Host.Outcome State Fault Refusal :=
  .next (s.finish (pointWrite m off data s))

/-- POINT_ATOMIC (R64). -/
def execPointAtomic (m : Master) (off : Nat) (op : AtomicOp) (a b : BitVec 64) (s : State) : Host.Outcome State Fault Refusal :=
  .next (s.finish (pointAtomic m off op a b s))

/-- PATROL_VISIT (R68). -/
def execPatrolVisit (tile : Fin 16384) (bad1 bad2 : Bool) (s : State) : Host.Outcome State Fault Refusal :=
  .next (s.finish (patrolVisit tile bad1 bad2 s))

/-- PATROL_LATE (R68). -/
def execPatrolLate (s : State) : Host.Outcome State Fault Refusal :=
  .next (s.finish (patrolLate s))

/-- TILE_CACHE_ENTRY (R82). -/
def execTileCacheEntry (tile : Fin 16384) (bad1 bad2 : Bool) (s : State) : Host.Outcome State Fault Refusal :=
  .next (s.finish (tileCacheEntry tile bad1 bad2 s))

/-- ATTR_DATA_WRITE (R86). -/
def execAttrDataWrite (m : Master) (val : Word) (s : State) : Host.Outcome State Fault Refusal :=
  .next (s.finish (attrDataWrite m val s))

/-- PROFILE_WRITE (R88). -/
def execProfileWrite (m : Master) (k : Fin 4) (val : Word) (s : State) : Host.Outcome State Fault Refusal :=
  .next (s.finish (profileWrite m k val s))

/-- WINDOW_READ (R79). -/
def execWindowRead (m : Master) (w : Fin 256) (obj : BitVec 32) (len : Nat) (s : State) : Host.Outcome State Fault Refusal :=
  .next (s.finish (windowRead m w obj len s))

/-- WINDOW_DEVICE_ANSWER (R79). -/
def execWindowDeviceAnswer (w : Fin 256) (ok : Bool) (data : List Byte) (s : State) : Host.Outcome State Fault Refusal :=
  .next (s.finish (windowDeviceAnswer w ok data s))

/-- WINDOW_TIMEOUT (R79). -/
def execWindowTimeout (w : Fin 256) (s : State) : Host.Outcome State Fault Refusal :=
  .next (s.finish (windowTimeout w s))

/-- WINDOW_REFRESH (R80). -/
def execWindowRefresh (pt : Fin 262144) (s : State) : Host.Outcome State Fault Refusal :=
  .next (s.finish (windowRefresh pt s))

end Sys2Proof.Machine
end

