-- ==== Sys2Proof/Machine/ExecPower.lean ====
section
/-! DEFINITION. Power domains and comparators: what `exec` does with each command. -/

namespace Sys2Proof.Machine

/-- DOMAIN_VOTE_WRITE (R404). -/
def execDomainVoteWrite (m : Master) (d : Fin 16) (val : Word) (s : State) : Host.Outcome State Fault Refusal :=
  .next (s.finish (domainVoteWrite m d val s))

/-- DOMAIN_ENTRY_BEGIN (R406). -/
def execDomainEntryBegin (d : Fin 16) (s : State) : Host.Outcome State Fault Refusal :=
  .next (s.finish (domainEntryBegin d s))

/-- DOMAIN_TRANSITION_DONE (R407). -/
def execDomainTransitionDone (d : Fin 16) (s : State) : Host.Outcome State Fault Refusal :=
  .next (s.finish (domainTransitionDone d s))

/-- CMP_RAW_CHANGE (R411). -/
def execCmpRawChange (n : Fin 24) (x : Nat) (s : State) : Host.Outcome State Fault Refusal :=
  .next (s.finish (cmpRawChange n x s))

/-- CMP_FILTER_EXPIRE (R411). -/
def execCmpFilterExpire (n : Fin 24) (s : State) : Host.Outcome State Fault Refusal :=
  .next (s.finish (cmpFilterExpire n s))

end Sys2Proof.Machine
end

