-- ==== Sys2Proof/Machine/ExecSump.lean ====
section
/-! DEFINITION. Sump, snapshots and telemetry: what `exec` does with each command. -/

namespace Sys2Proof.Machine

/-- EVENT_OCCURRENCE (R476). -/
def execEventOccurrence (ev : Fin 512) (cls : Fin 5) (rep : Nat) (s : State) : Host.Outcome State Fault Refusal :=
  .next (s.finish (eventOccurrence ev cls rep s))

/-- EVENT_CLEAR (R476). -/
def execEventClear (m : Master) (k : Fin 16) (val : Word) (s : State) : Host.Outcome State Fault Refusal :=
  .next (s.finish (eventClear m k val s))

/-- SOFTWARE_EVENT (R475). -/
def execSoftwareEvent (m : Master) (val : Word) (s : State) : Host.Outcome State Fault Refusal :=
  .next (s.finish (softwareEvent m val s))

/-- REACTION_RESET (R479). -/
def execReactionReset (s : State) : Host.Outcome State Fault Refusal :=
  .next (s.finish (reactionReset s))

/-- LOG_WINDOW_END (R484). -/
def execLogWindowEnd (s : State) : Host.Outcome State Fault Refusal :=
  .next (s.finish (logWindowEnd s))

/-- ALARM_RECEIVE (R485). -/
def execAlarmReceive (f : Frame) (s : State) (bad : Option Nat := none) : Host.Outcome State Fault Refusal :=
  .next (s.finish (alarmReceive f bad s))

/-- SNAP_TAKE (R487). -/
def execSnapTake (m : Master) (s : State) : Host.Outcome State Fault Refusal :=
  .next (s.finish (snapTake m s))

/-- SNAP_RELEASE (R490). -/
def execSnapRelease (m : Master) (s : State) : Host.Outcome State Fault Refusal :=
  .next (s.finish (snapRelease m s))

/-- SNAP_TREQ (R489). -/
def execSnapTreq (s : State) : Host.Outcome State Fault Refusal :=
  .next (s.finish (snapTreq s))

/-- SNAP_MARK (R488). -/
def execSnapMark (s : State) : Host.Outcome State Fault Refusal :=
  .next (s.finish (snapMark s))

/-- SNAP_COPY_DONE (R488). -/
def execSnapCopyDone (s : State) : Host.Outcome State Fault Refusal :=
  .next (s.finish (snapCopyDone s))

/-- SCRUB_PASS (R491). -/
def execScrubPass (mem : ScrubMem) (e : EccFind) (s : State) : Host.Outcome State Fault Refusal :=
  .next (s.finish (scrubPass mem e s))

/-- CALIBRATION_VISIT (R492). -/
def execCalibrationVisit (atEnd : Bool) (s : State) : Host.Outcome State Fault Refusal :=
  .next (s.finish (calibrationVisit atEnd s))

/-- TELEMETRY_READ (R493). -/
def execTelemetryRead (t0 t1 t2 t3 t4 feed : Int) (s : State) : Host.Outcome State Fault Refusal :=
  .next (s.finish (telemetryRead t0 t1 t2 t3 t4 feed s))

/-- MGMT_SEND (R493). -/
def execMgmtSend (s : State) : Host.Outcome State Fault Refusal :=
  .next (s.finish (mgmtSend s))

end Sys2Proof.Machine
end

