-- ==== Sys2Proof/Machine/ExecTime.lean ====
section
/-! DEFINITION. Clepsydra: what `exec` does with each command. -/

namespace Sys2Proof.Machine

/-- SYNC_WINDOW_OPEN (R269). -/
def execSyncWindowOpen (s : State) : Host.Outcome State Fault Refusal :=
  .next (s.finish (syncWindowOpen s))

/-- TIME_INC_WRITE (R264). -/
def execTimeIncWrite (m : Master) (val : Word) (s : State) : Host.Outcome State Fault Refusal :=
  .next (s.finish (timeIncWrite m val s))

/-- TIME_SLEW_WRITE (R265). -/
def execTimeSlewWrite (m : Master) (val : Word) (s : State) : Host.Outcome State Fault Refusal :=
  .next (s.finish (timeSlewWrite m val s))

/-- SLEW_END (R265). -/
def execSlewEnd (s : State) : Host.Outcome State Fault Refusal :=
  .next (s.finish (slewEnd s))

/-- TIME_STEP_WRITE (R266). -/
def execTimeStepWrite (m : Master) (val : Word) (s : State) : Host.Outcome State Fault Refusal :=
  .next (s.finish (timeStepWrite m val s))

/-- TIME_SET_WRITE (R266). -/
def execTimeSetWrite (m : Master) (val : Word) (s : State) : Host.Outcome State Fault Refusal :=
  .next (s.finish (timeSetWrite m val s))

/-- SYNC_RECEIVE (R271). -/
def execSyncReceive (p : Fin 4) (f : Frame) (q : Fin 16) (s : State) : Host.Outcome State Fault Refusal :=
  .next (s.finish (syncReceive p f q s))

/-- PTP_EVENT_RECEIVE (R275). -/
def execPtpEventReceive (n : Fin 4) (bytes : List Byte) (q : Fin 16) (s : State) (bad : Option Nat := none) : Host.Outcome State Fault Refusal :=
  .next (s.finish (ptpEventReceive n bytes q bad s))

/-- PTP_STAMP_POP (R275). -/
def execPtpStampPop (m : Master) (n : Fin 4) (val : Word) (s : State) : Host.Outcome State Fault Refusal :=
  .next (s.finish (ptpStampPop m n val s))

/-- PIN_EDGE (R277). -/
def execPinEdge (n : Fin 256) (rising : Bool) (sub : Fin 4) (s : State) : Host.Outcome State Fault Refusal :=
  .next (s.finish (pinEdge n rising sub s))

/-- EDGE_POP (R279). -/
def execEdgePop (m : Master) (b : Fin 8) (val : Word) (s : State) : Host.Outcome State Fault Refusal :=
  .next (s.finish (edgePop m b val s))

/-- TIMED_ACTION_FIRE (R281). -/
def execTimedActionFire (pin : Fin 256) (s : State) : Host.Outcome State Fault Refusal :=
  .next (s.finish (timedActionFire pin s))

/-- TIMED_PULSE_END (R281). -/
def execTimedPulseEnd (pin : Fin 256) (s : State) : Host.Outcome State Fault Refusal :=
  .next (s.finish (timedPulseEnd pin s))

/-- ACTION_FLUSH (R283). -/
def execActionFlush (m : Master) (val : Word) (s : State) : Host.Outcome State Fault Refusal :=
  .next (s.finish (actionFlush m val s))

/-- LATE_POP (R283). -/
def execLatePop (m : Master) (val : Word) (s : State) : Host.Outcome State Fault Refusal :=
  .next (s.finish (latePop m val s))

/-- TRIGGER_ARM (R284). -/
def execTriggerArm (m : Master) (n : Fin 8) (val : Word) (s : State) : Host.Outcome State Fault Refusal :=
  .next (s.finish (triggerArm m n val s))

/-- TRIGGER_FIRE (R284). -/
def execTriggerFire (n : Fin 8) (s : State) : Host.Outcome State Fault Refusal :=
  .next (s.finish (triggerFire n s))

end Sys2Proof.Machine
end

