-- ==== Sys2Proof/Machine/ExecUnits.lean ====
section
/-! DEFINITION. The Fountainhead units: what `exec` does with each command. -/

namespace Sys2Proof.Machine

/-- VOTED_OUTPUT (R290). -/
def execVotedOutput (u : Fin 2) (c0 c1 c2 : CoreStep) (bad : Bool) (s : State) : Host.Outcome State Fault Refusal :=
  .next (s.finish (votedOutput u c0 c1 c2 bad s))

/-- STEP_TIMEOUT (R291). -/
def execStepTimeout (u : Fin 2) (core : Fin 3) (kind : Fin 4) (addr : BitVec 32) (s : State) (late : Nat := 0) : Host.Outcome State Fault Refusal :=
  .next (s.finish (stepTimeout u core kind addr late s))

/-- WATCHDOG_EXPIRE (R291). -/
def execWatchdogExpire (s : State) : Host.Outcome State Fault Refusal :=
  .next (s.finish (watchdogExpire s))

/-- WATCHDOG_KICK (R308). -/
def execWatchdogKick (m : Master) (s : State) : Host.Outcome State Fault Refusal :=
  .next (s.finish (watchdogKick m s))

/-- DOMAIN_SUPPLY_TRIP (R291). -/
def execDomainSupplyTrip (d : Fin 16) (s : State) : Host.Outcome State Fault Refusal :=
  .next (s.finish (domainSupplyTrip d s))

/-- SIDE_EFFECT_READ_KEPT (R293). -/
def execSideEffectReadKept (s : State) : Host.Outcome State Fault Refusal :=
  .next (s.finish (sideEffectReadKept s))

/-- CHECKPOINT_START (R294). -/
def execCheckpointStart (s : State) : Host.Outcome State Fault Refusal :=
  .next (s.finish (checkpointStart s))

/-- CHECKPOINT_COMMAND (R294). -/
def execCheckpointCommand (m : Master) (s : State) : Host.Outcome State Fault Refusal :=
  .next (s.finish (checkpointCommand m s))

/-- CHECKPOINT_COMPLETE (R296). -/
def execCheckpointComplete (s : State) : Host.Outcome State Fault Refusal :=
  .next (s.finish (checkpointComplete s))

/-- STANDBY_READY (R298). -/
def execStandbyReady (s : State) : Host.Outcome State Fault Refusal :=
  .next (s.finish (standbyReady s))

/-- FH_RELEASE (R298). -/
def execFhRelease (m : Master) (s : State) : Host.Outcome State Fault Refusal :=
  .next (s.finish (fhRelease m s))

/-- FAILOVER_DEADLINE (R299). -/
def execFailoverDeadline (s : State) : Host.Outcome State Fault Refusal :=
  .next (s.finish (failoverDeadline s))

/-- REARM_PROOF (R300). -/
def execRearmProof (s : State) : Host.Outcome State Fault Refusal :=
  .next (s.finish (rearmProof s))

/-- PROOF_WAKE_START (R303). -/
def execProofWakeStart (s : State) : Host.Outcome State Fault Refusal :=
  .next (s.finish (proofWakeStart s))

/-- PROOF_COMMAND (R303). -/
def execProofCommand (m : Master) (s : State) : Host.Outcome State Fault Refusal :=
  .next (s.finish (proofCommand m s))

/-- PROOF_WAKE_DONE (R303). -/
def execProofWakeDone (failed : Option (Fin 6)) (corrected : Nat) (s : State) : Host.Outcome State Fault Refusal :=
  .next (s.finish (proofWakeDone failed corrected s))

/-- ZONE_BUDGET_EXHAUST (R305). -/
def execZoneBudgetExhaust (s : State) : Host.Outcome State Fault Refusal :=
  .next (s.finish (zoneBudgetExhaust s))

end Sys2Proof.Machine
end

