-- ==== Sys2Proof/Machine/ExecUpdate.lean ====
section
/-! DEFINITION. Relay, update and handover: what `exec` does with each command. -/

namespace Sys2Proof.Machine

/-- RUNNEL_OFFER_RECEIVE (R445). -/
def execRunnelOfferReceive (p : Fin 4) (f : Frame) (s : State) : Host.Outcome State Fault Refusal :=
  .next (s.finish (runnelOfferReceive p f s))

/-- RUNNEL_ANSWER_RECEIVE (R445). -/
def execRunnelAnswerReceive (p : Fin 4) (f : Frame) (s : State) : Host.Outcome State Fault Refusal :=
  .next (s.finish (runnelAnswerReceive p f s))

/-- RUNNEL_CHUNK_RECEIVE (R446). -/
def execRunnelChunkReceive (p : Fin 4) (f : Frame) (s : State) : Host.Outcome State Fault Refusal :=
  .next (s.finish (runnelChunkReceive p f s))

/-- RUNNEL_HAVE_RECEIVE (R445). -/
def execRunnelHaveReceive (p : Fin 4) (f : Frame) (s : State) : Host.Outcome State Fault Refusal :=
  .next (s.finish (runnelHaveReceive p f s))

/-- RUNNEL_CHUNK_RESEND (R445). -/
def execRunnelChunkResend (p : Fin 4) (s : State) : Host.Outcome State Fault Refusal :=
  .next (s.finish (runnelChunkResend p s))

/-- UPDATE_BUILD_DONE (R447). -/
def execUpdateBuildDone (s : State) : Host.Outcome State Fault Refusal :=
  .next (s.finish (updateBuildDone s))

/-- UPD_INJECT (R448). -/
def execUpdInject (m : Master) (val : Word) (s : State) : Host.Outcome State Fault Refusal :=
  .next (s.finish (updInject m val s))

/-- UPD_STAGE (R450). -/
def execUpdStage (m : Master) (s : State) : Host.Outcome State Fault Refusal :=
  .next (s.finish (updStage m s))

/-- STAGING_DONE (R450). -/
def execStagingDone (s : State) : Host.Outcome State Fault Refusal :=
  .next (s.finish (stagingDone s))

/-- FH_HANDOVER (R451). -/
def execFhHandover (m : Master) (s : State) : Host.Outcome State Fault Refusal :=
  .next (s.finish (fhHandover m s))

/-- HANDOVER_AT_BOUNDARY (R451). -/
def execHandoverAtBoundary (s : State) : Host.Outcome State Fault Refusal :=
  .next (s.finish (handoverAtBoundary s))

/-- UPD_COMMIT (R451). -/
def execUpdCommit (m : Master) (s : State) : Host.Outcome State Fault Refusal :=
  .next (s.finish (updCommit m s))

/-- HANDOVER_APPLIED (R451). -/
def execHandoverApplied (s : State) : Host.Outcome State Fault Refusal :=
  .next (s.finish (handoverApplied s))

/-- HANDOVER_DEADLINE (R452). -/
def execHandoverDeadline (s : State) : Host.Outcome State Fault Refusal :=
  .next (s.finish (handoverDeadline s))

/-- UPD_CONFIRM (R454). -/
def execUpdConfirm (m : Master) (s : State) : Host.Outcome State Fault Refusal :=
  .next (s.finish (updConfirm m s))

/-- UPD_REVERT (R455). -/
def execUpdRevert (m : Master) (s : State) : Host.Outcome State Fault Refusal :=
  .next (s.finish (updRevert m s))

/-- UPD_DISCARD (R459). -/
def execUpdDiscard (m : Master) (s : State) : Host.Outcome State Fault Refusal :=
  .next (s.finish (updDiscard m s))

/-- UPD_REAPPLY (R455). -/
def execUpdReapply (m : Master) (s : State) : Host.Outcome State Fault Refusal :=
  .next (s.finish (updReapply m s))

/-- IMAGE_BUILD_COMPLETE (R447). -/
def execImageBuildComplete (s : State) : Host.Outcome State Fault Refusal :=
  .next (s.finish (imageBuildComplete s))

end Sys2Proof.Machine
end

