-- ==== Sys2Proof/Machine/ExecUsb.lean ====
section
/-! DEFINITION. USB: what `exec` does with each command. -/

namespace Sys2Proof.Machine

/-- USB_WRITE (R375). -/
def execUsbWrite (tag : BitVec 16) (addr : BitVec 64) (data : List Byte) (s : State) : Host.Outcome State Fault Refusal :=
  .next (s.finish (usbWrite tag addr data s))

/-- USB_WRITE_ACK (R375). -/
def execUsbWriteAck (s : State) : Host.Outcome State Fault Refusal :=
  .next (s.finish (usbWriteAck s))

/-- USB_READ (R376). -/
def execUsbRead (tag : BitVec 16) (addr : BitVec 64) (len : Nat) (s : State) : Host.Outcome State Fault Refusal :=
  .next (s.finish (usbRead tag addr len s))

/-- USB_READ_ONCE (R376). -/
def execUsbReadOnce (tag : BitVec 16) (addr : BitVec 64) (len : Nat) (s : State) : Host.Outcome State Fault Refusal :=
  .next (s.finish (usbReadOnce tag addr len s))

/-- USB_BAD_COMMAND (R373). -/
def execUsbBadCommand (tag : BitVec 16) (s : State) : Host.Outcome State Fault Refusal :=
  .next (s.finish (usbBadCommand tag s))

/-- USB_RESPONSE_IN (R374). -/
def execUsbResponseIn (s : State) (acked : Bool := true) : Host.Outcome State Fault Refusal :=
  .next (s.finish (usbResponseIn acked s))

/-- USB_NOTICE_IN (R377). -/
def execUsbNoticeIn (s : State) : Host.Outcome State Fault Refusal :=
  .next (s.finish (usbNoticeIn s))

/-- USB_ISO_MICROFRAME (R378). -/
def execUsbIsoMicroframe (collected : Bool) (s : State) (bus : List UsbBus := []) : Host.Outcome State Fault Refusal :=
  .next (s.finish (usbIsoMicroframe collected bus s))

/-- USB_CONTROL_REQUEST (R372). -/
def execUsbControlRequest (r : UsbReq) (s : State) : Host.Outcome State Fault Refusal :=
  .next (s.finish (usbControlRequest r s))

/-- USB_BUS_RESET (R382). -/
def execUsbBusReset (high : Bool) (s : State) : Host.Outcome State Fault Refusal :=
  .next (s.finish (usbBusReset high s))

/-- USB_DISCONNECT (R382). -/
def execUsbDisconnect (s : State) : Host.Outcome State Fault Refusal :=
  .next (s.finish (usbDisconnect s))

/-- USB_SUSPEND (R379). -/
def execUsbSuspend (s : State) : Host.Outcome State Fault Refusal :=
  .next (s.finish (usbSuspend s))

/-- USB_RESUME (R381). -/
def execUsbResume (s : State) : Host.Outcome State Fault Refusal :=
  .next (s.finish (usbResume s))

/-- USB_REMOTE_WAKE (R380). -/
def execUsbRemoteWake (s : State) : Host.Outcome State Fault Refusal :=
  .next (s.finish (usbRemoteWake s))

/-- USB_WAKE_DRIVE_END (R380). -/
def execUsbWakeDriveEnd (s : State) : Host.Outcome State Fault Refusal :=
  .next (s.finish (usbWakeDriveEnd s))

/-- USB_OVERCURRENT (R367). -/
def execUsbOvercurrent (n : Fin 4) (s : State) : Host.Outcome State Fault Refusal :=
  .next (s.finish (usbOvercurrent n s))

/-- USB_LOCAL_WRITE (R369). -/
def execUsbLocalWrite (m : Master) (val : Word) (s : State) : Host.Outcome State Fault Refusal :=
  .next (s.finish (usbLocalWrite m val s))

/-- HID_REPORT_RECEIVE (R369). -/
def execHidReportReceive (n : Fin 4) (id : Fin 256) (data : List Byte) (s : State) : Host.Outcome State Fault Refusal :=
  .next (s.finish (hidReportReceive n id data s))

/-- USB_PORT_CONNECT (R368). -/
def execUsbPortConnect (n : Fin 4) (conn : Bool) (speed : Fin 3) (hid : Bool) (s : State) : Host.Outcome State Fault Refusal :=
  .next (s.finish (usbPortConnect n conn speed hid s))

end Sys2Proof.Machine
end

