-- ==== Sys2Proof/Machine/Dispatch.lean ====
section
/-! DEFINITION. What each command does: one arm per constructor, each one call of its meaning. -/

namespace Sys2Proof.Machine

def exec (i : Instr) (s : State) : Host.Outcome State Fault Refusal :=
  match i with
  | .registerWrite m off width val => Sys2Proof.Machine.execRegisterWrite m off width val s
  | .heldAccessComplete => Sys2Proof.Machine.execHeldAccessComplete s
  | .multiwordReadLatch m off => Sys2Proof.Machine.execMultiwordReadLatch m off s
  | .multiwordStagedWrite m off val => Sys2Proof.Machine.execMultiwordStagedWrite m off val s
  | .counterClear m off val => Sys2Proof.Machine.execCounterClear m off val s
  | .avsEvaluate demand capacity => Sys2Proof.Machine.execAvsEvaluate demand capacity s
  | .avsTransactionFail => Sys2Proof.Machine.execAvsTransactionFail s
  | .governorStep tj => Sys2Proof.Machine.execGovernorStep tj s
  | .pointRead m off len => Sys2Proof.Machine.execPointRead m off len s
  | .pointWrite m off data => Sys2Proof.Machine.execPointWrite m off data s
  | .pointAtomic m off op a b => Sys2Proof.Machine.execPointAtomic m off op a b s
  | .patrolVisit tile bad1 bad2 => Sys2Proof.Machine.execPatrolVisit tile bad1 bad2 s
  | .patrolLate => Sys2Proof.Machine.execPatrolLate s
  | .tileCacheEntry tile bad1 bad2 => Sys2Proof.Machine.execTileCacheEntry tile bad1 bad2 s
  | .attrDataWrite m val => Sys2Proof.Machine.execAttrDataWrite m val s
  | .profileWrite m k val => Sys2Proof.Machine.execProfileWrite m k val s
  | .windowRead m w obj len => Sys2Proof.Machine.execWindowRead m w obj len s
  | .windowDeviceAnswer w ok data => Sys2Proof.Machine.execWindowDeviceAnswer w ok data s
  | .windowTimeout w => Sys2Proof.Machine.execWindowTimeout w s
  | .windowRefresh pt => Sys2Proof.Machine.execWindowRefresh pt s
  | .pelumFrameReceive p hdr q slow => Sys2Proof.Machine.execPelumFrameReceive p hdr q slow s
  | .frameTrailerCheck p payload icv trailer tile => Sys2Proof.Machine.execFrameTrailerCheck p payload icv trailer tile s
  | .egressFrameStart p sub bad => Sys2Proof.Machine.execEgressFrameStart p sub bad s
  | .heartbeatSend p => Sys2Proof.Machine.execHeartbeatSend p s
  | .creditSetReceive p h l => Sys2Proof.Machine.execCreditSetReceive p h l s
  | .signalLost p => Sys2Proof.Machine.execSignalLost p s
  | .pcsLockLost p => Sys2Proof.Machine.execPcsLockLost p s
  | .neighbourStopped p => Sys2Proof.Machine.execNeighbourStopped p s
  | .degradedSpanWindow p corr uncorr => Sys2Proof.Machine.execDegradedSpanWindow p corr uncorr s
  | .signalDetect p => Sys2Proof.Machine.execSignalDetect p s
  | .pcsLockAcquire p => Sys2Proof.Machine.execPcsLockAcquire p s
  | .helloSend p => Sys2Proof.Machine.execHelloSend p s
  | .helloReceive p f => Sys2Proof.Machine.execHelloReceive p f s
  | .holdExpire p => Sys2Proof.Machine.execHoldExpire p s
  | .ringStateWrapReceive p f bad => Sys2Proof.Machine.execRingStateWrapReceive p f s bad
  | .healReadyReceive p f bad => Sys2Proof.Machine.execHealReadyReceive p f s bad
  | .unwrapReceive p f bad => Sys2Proof.Machine.execUnwrapReceive p f s bad
  | .unwrapAt plane => Sys2Proof.Machine.execUnwrapAt plane s
  | .ldlyReqSend p => Sys2Proof.Machine.execLdlyReqSend p s
  | .ldlyReqReceive p f q => Sys2Proof.Machine.execLdlyReqReceive p f q s
  | .ldlyRspReceive p f q => Sys2Proof.Machine.execLdlyRspReceive p f q s
  | .portModeWrite m p val => Sys2Proof.Machine.execPortModeWrite m p val s
  | .bypassInsertWrite m val => Sys2Proof.Machine.execBypassInsertWrite m val s
  | .cycleStart => Sys2Proof.Machine.execCycleStart s
  | .syncWindowOpen => Sys2Proof.Machine.execSyncWindowOpen s
  | .summationLaunch => Sys2Proof.Machine.execSummationLaunch s
  | .summationFramePass p f => Sys2Proof.Machine.execSummationFramePass p f s
  | .cyclicWindowClose => Sys2Proof.Machine.execCyclicWindowClose s
  | .joinTimeout => Sys2Proof.Machine.execJoinTimeout s
  | .ringCfgWrite m val => Sys2Proof.Machine.execRingCfgWrite m val s
  | .ringApplyWrite m val => Sys2Proof.Machine.execRingApplyWrite m val s
  | .cycleApplyAt => Sys2Proof.Machine.execCycleApplyAt s
  | .subscriptionWrite m k val => Sys2Proof.Machine.execSubscriptionWrite m k val s
  | .workSubmit m flow op addr data seg => Sys2Proof.Machine.execWorkSubmit m flow op addr data seg s
  | .submitUnblock f => Sys2Proof.Machine.execSubmitUnblock f s
  | .groupClose => Sys2Proof.Machine.execGroupClose s
  | .groupCommitDone => Sys2Proof.Machine.execGroupCommitDone s
  | .workArrival f bad => Sys2Proof.Machine.execWorkArrival f s bad
  | .waitingItemApply => Sys2Proof.Machine.execWaitingItemApply s
  | .workAckReceive f bad => Sys2Proof.Machine.execWorkAckReceive f s bad
  | .resendTimerExpire f => Sys2Proof.Machine.execResendTimerExpire f s
  | .reachTimeout f => Sys2Proof.Machine.execReachTimeout f s
  | .flowAbandon m => Sys2Proof.Machine.execFlowAbandon m s
  | .flowProbe m => Sys2Proof.Machine.execFlowProbe m s
  | .outstateSweep => Sys2Proof.Machine.execOutstateSweep s
  | .commitIntervalWrite m val => Sys2Proof.Machine.execCommitIntervalWrite m val s
  | .flowRecover => Sys2Proof.Machine.execFlowRecover s
  | .recoveryResend => Sys2Proof.Machine.execRecoveryResend s
  | .reservoirPatrol off e => Sys2Proof.Machine.execReservoirPatrol off e s
  | .remoteReadRequest m addr len => Sys2Proof.Machine.execRemoteReadRequest m addr len s
  | .rreadReceive f bad => Sys2Proof.Machine.execRreadReceive f s bad
  | .rreadRspReceive f bad => Sys2Proof.Machine.execRreadRspReceive f s bad
  | .rreadRetryExpire tag => Sys2Proof.Machine.execRreadRetryExpire tag s
  | .rreadReachTimeout tag => Sys2Proof.Machine.execRreadReachTimeout tag s
  | .journalWindowRead m w off len => Sys2Proof.Machine.execJournalWindowRead m w off len s
  | .frameAdmit inPort cls bad => Sys2Proof.Machine.execFrameAdmit inPort cls s bad
  | .ethFrameReceive n bytes fcsGood codeErr bad => Sys2Proof.Machine.execEthFrameReceive n bytes fcsGood codeErr s bad
  | .pauseFrameReceive n pfc enable quanta => Sys2Proof.Machine.execPauseFrameReceive n pfc enable quanta s
  | .xoffRepeat n => Sys2Proof.Machine.execXoffRepeat n s
  | .ethLinkDown n => Sys2Proof.Machine.execEthLinkDown n s
  | .ethLinkUp n lpPause => Sys2Proof.Machine.execEthLinkUp n lpPause s
  | .mdioStart m n val => Sys2Proof.Machine.execMdioStart m n val s
  | .mdioDone n data => Sys2Proof.Machine.execMdioDone n data s
  | .hostWrite addr data crcOk => Sys2Proof.Machine.execHostWrite addr data crcOk s
  | .hostRead addr len crcOk => Sys2Proof.Machine.execHostRead addr len crcOk s
  | .hostClaim tag crcOk => Sys2Proof.Machine.execHostClaim tag crcOk s
  | .hostReadOnce addr len crcOk => Sys2Proof.Machine.execHostReadOnce addr len crcOk s
  | .hostStatus crcOk => Sys2Proof.Machine.execHostStatus crcOk s
  | .hostBadOpcode => Sys2Proof.Machine.execHostBadOpcode s
  | .hostAbort phase => Sys2Proof.Machine.execHostAbort phase s
  | .delayedReadComplete tag => Sys2Proof.Machine.execDelayedReadComplete tag s
  | .claimWindowExpire tag => Sys2Proof.Machine.execClaimWindowExpire tag s
  | .strandedPop m val => Sys2Proof.Machine.execStrandedPop m val s
  | .pwfPop m val => Sys2Proof.Machine.execPwfPop m val s
  | .postedWriteDrain => Sys2Proof.Machine.execPostedWriteDrain s
  | .hostBackoff tag => Sys2Proof.Machine.execHostBackoff tag s
  | .prefetchExpire => Sys2Proof.Machine.execPrefetchExpire s
  | .signalUpdate kind unit obj payload fault => Sys2Proof.Machine.execSignalUpdate kind unit obj payload fault s
  | .tunnelFrameArrive f bad => Sys2Proof.Machine.execTunnelFrameArrive f s bad
  | .timeIncWrite m val => Sys2Proof.Machine.execTimeIncWrite m val s
  | .timeSlewWrite m val => Sys2Proof.Machine.execTimeSlewWrite m val s
  | .slewEnd => Sys2Proof.Machine.execSlewEnd s
  | .timeStepWrite m val => Sys2Proof.Machine.execTimeStepWrite m val s
  | .timeSetWrite m val => Sys2Proof.Machine.execTimeSetWrite m val s
  | .syncReceive p f q => Sys2Proof.Machine.execSyncReceive p f q s
  | .ptpEventReceive n bytes q bad => Sys2Proof.Machine.execPtpEventReceive n bytes q s bad
  | .ptpStampPop m n val => Sys2Proof.Machine.execPtpStampPop m n val s
  | .pinEdge n rising sub => Sys2Proof.Machine.execPinEdge n rising sub s
  | .edgePop m b val => Sys2Proof.Machine.execEdgePop m b val s
  | .timedActionFire pin => Sys2Proof.Machine.execTimedActionFire pin s
  | .timedPulseEnd pin => Sys2Proof.Machine.execTimedPulseEnd pin s
  | .actionFlush m val => Sys2Proof.Machine.execActionFlush m val s
  | .latePop m val => Sys2Proof.Machine.execLatePop m val s
  | .triggerArm m n val => Sys2Proof.Machine.execTriggerArm m n val s
  | .triggerFire n => Sys2Proof.Machine.execTriggerFire n s
  | .votedOutput u c0 c1 c2 bad => Sys2Proof.Machine.execVotedOutput u c0 c1 c2 bad s
  | .stepTimeout u core kind addr late => Sys2Proof.Machine.execStepTimeout u core kind addr s late
  | .watchdogExpire => Sys2Proof.Machine.execWatchdogExpire s
  | .watchdogKick m => Sys2Proof.Machine.execWatchdogKick m s
  | .domainSupplyTrip d => Sys2Proof.Machine.execDomainSupplyTrip d s
  | .sideEffectReadKept => Sys2Proof.Machine.execSideEffectReadKept s
  | .checkpointStart => Sys2Proof.Machine.execCheckpointStart s
  | .checkpointCommand m => Sys2Proof.Machine.execCheckpointCommand m s
  | .checkpointComplete => Sys2Proof.Machine.execCheckpointComplete s
  | .standbyReady => Sys2Proof.Machine.execStandbyReady s
  | .fhRelease m => Sys2Proof.Machine.execFhRelease m s
  | .failoverDeadline => Sys2Proof.Machine.execFailoverDeadline s
  | .rearmProof => Sys2Proof.Machine.execRearmProof s
  | .proofWakeStart => Sys2Proof.Machine.execProofWakeStart s
  | .proofCommand m => Sys2Proof.Machine.execProofCommand m s
  | .proofWakeDone failed corrected => Sys2Proof.Machine.execProofWakeDone failed corrected s
  | .zoneBudgetExhaust => Sys2Proof.Machine.execZoneBudgetExhaust s
  | .jetGoto j => Sys2Proof.Machine.execJetGoto j s
  | .jetSet j => Sys2Proof.Machine.execJetSet j s
  | .jetSend j => Sys2Proof.Machine.execJetSend j s
  | .jetRecv j => Sys2Proof.Machine.execJetRecv j s
  | .jetLoad j => Sys2Proof.Machine.execJetLoad j s
  | .jetPost j => Sys2Proof.Machine.execJetPost j s
  | .jetNset j => Sys2Proof.Machine.execJetNset j s
  | .jetRep j => Sys2Proof.Machine.execJetRep j s
  | .jetWaite j => Sys2Proof.Machine.execJetWaite j s
  | .jetMark j => Sys2Proof.Machine.execJetMark j s
  | .jetPack j => Sys2Proof.Machine.execJetPack j s
  | .jetSig j => Sys2Proof.Machine.execJetSig j s
  | .jetFault j => Sys2Proof.Machine.execJetFault j s
  | .jetTxWrite m j val => Sys2Proof.Machine.execJetTxWrite m j val s
  | .jetRxPop m j val => Sys2Proof.Machine.execJetRxPop m j val s
  | .jetRun m j => Sys2Proof.Machine.execJetRun m j s
  | .jetStop m j => Sys2Proof.Machine.execJetStop m j s
  | .jetStep m j => Sys2Proof.Machine.execJetStep m j s
  | .jetClear m j => Sys2Proof.Machine.execJetClear m j s
  | .jetPcWrite m j val => Sys2Proof.Machine.execJetPcWrite m j val s
  | .jetDWrite m j val => Sys2Proof.Machine.execJetDWrite m j val s
  | .jetProgWrite m j k val => Sys2Proof.Machine.execJetProgWrite m j k val s
  | .jetGroupGo m val => Sys2Proof.Machine.execJetGroupGo m val s
  | .jetGroupAct b => Sys2Proof.Machine.execJetGroupAct b s
  | .pinOwnerWrite m n val => Sys2Proof.Machine.execPinOwnerWrite m n val s
  | .pinLevelWrite m k val => Sys2Proof.Machine.execPinLevelWrite m k val s
  | .pinInBindWrite m n val => Sys2Proof.Machine.execPinInBindWrite m n val s
  | .pinOutBindWrite m n val => Sys2Proof.Machine.execPinOutBindWrite m n val s
  | .pinFilterExpire n => Sys2Proof.Machine.execPinFilterExpire n s
  | .pinCountWrite n => Sys2Proof.Machine.execPinCountWrite n s
  | .vioBankGoodChange b mv => Sys2Proof.Machine.execVioBankGoodChange b mv s
  | .cisternPush m n data => Sys2Proof.Machine.execCisternPush m n data s
  | .cisternPushClose m n typ data => Sys2Proof.Machine.execCisternPushClose m n typ data s
  | .cisternClose m n typ => Sys2Proof.Machine.execCisternClose m n typ s
  | .cisternAbort m n => Sys2Proof.Machine.execCisternAbort m n s
  | .cisternPop m n len bad corr => Sys2Proof.Machine.execCisternPop m n len bad corr s
  | .cisternPushResume n => Sys2Proof.Machine.execCisternPushResume n s
  | .cisternTunnelTake n bad corr => Sys2Proof.Machine.execCisternTunnelTake n bad corr s
  | .cisternFlush m n => Sys2Proof.Machine.execCisternFlush m n s
  | .cisternAbortCmd m n => Sys2Proof.Machine.execCisternAbortCmd m n s
  | .cstTlogPop m val => Sys2Proof.Machine.execCstTlogPop m val s
  | .canFrameReceive n f age err => Sys2Proof.Machine.execCanFrameReceive n f age s err
  | .canTxreq m n obj => Sys2Proof.Machine.execCanTxreq m n obj s
  | .canCancel m n obj => Sys2Proof.Machine.execCanCancel m n obj s
  | .canCommitData m n obj => Sys2Proof.Machine.execCanCommitData m n obj s
  | .canRecover m n => Sys2Proof.Machine.execCanRecover m n s
  | .canPeriodExpire n o => Sys2Proof.Machine.execCanPeriodExpire n o s
  | .canTxCommit n => Sys2Proof.Machine.execCanTxCommit n s
  | .canTxDone n e age => Sys2Proof.Machine.execCanTxDone n e age s
  | .canRecoveryDone n => Sys2Proof.Machine.execCanRecoveryDone n s
  | .canWindowOpen n w idle => Sys2Proof.Machine.execCanWindowOpen n w idle s
  | .canTxenExpire n => Sys2Proof.Machine.execCanTxenExpire n s
  | .canTtApply n => Sys2Proof.Machine.execCanTtApply n s
  | .canModeInitWrite m n => Sys2Proof.Machine.execCanModeInitWrite m n s
  | .usbWrite tag addr data => Sys2Proof.Machine.execUsbWrite tag addr data s
  | .usbWriteAck => Sys2Proof.Machine.execUsbWriteAck s
  | .usbRead tag addr len => Sys2Proof.Machine.execUsbRead tag addr len s
  | .usbReadOnce tag addr len => Sys2Proof.Machine.execUsbReadOnce tag addr len s
  | .usbBadCommand tag => Sys2Proof.Machine.execUsbBadCommand tag s
  | .usbResponseIn acked => Sys2Proof.Machine.execUsbResponseIn s acked
  | .usbNoticeIn => Sys2Proof.Machine.execUsbNoticeIn s
  | .usbIsoMicroframe collected bus => Sys2Proof.Machine.execUsbIsoMicroframe collected s bus
  | .usbControlRequest r => Sys2Proof.Machine.execUsbControlRequest r s
  | .usbBusReset high => Sys2Proof.Machine.execUsbBusReset high s
  | .usbDisconnect => Sys2Proof.Machine.execUsbDisconnect s
  | .usbSuspend => Sys2Proof.Machine.execUsbSuspend s
  | .usbResume => Sys2Proof.Machine.execUsbResume s
  | .usbRemoteWake => Sys2Proof.Machine.execUsbRemoteWake s
  | .usbWakeDriveEnd => Sys2Proof.Machine.execUsbWakeDriveEnd s
  | .usbOvercurrent n => Sys2Proof.Machine.execUsbOvercurrent n s
  | .usbLocalWrite m val => Sys2Proof.Machine.execUsbLocalWrite m val s
  | .hidReportReceive n id data => Sys2Proof.Machine.execHidReportReceive n id data s
  | .feedOn m n => Sys2Proof.Machine.execFeedOn m n s
  | .feedOff m n => Sys2Proof.Machine.execFeedOff m n s
  | .feedRestart m n => Sys2Proof.Machine.execFeedRestart m n s
  | .feedClear m n => Sys2Proof.Machine.execFeedClear m n s
  | .feedKillCmd m => Sys2Proof.Machine.execFeedKillCmd m s
  | .feedClearKill m => Sys2Proof.Machine.execFeedClearKill m s
  | .feedSample n sense vin vout vgs tdie ntc => Sys2Proof.Machine.execFeedSample n sense vin vout vgs tdie ntc s
  | .feedFastTrip n => Sys2Proof.Machine.execFeedFastTrip n s
  | .feedOverloadStep n => Sys2Proof.Machine.execFeedOverloadStep n s
  | .feedRampTimeout n => Sys2Proof.Machine.execFeedRampTimeout n s
  | .feedPgChange n => Sys2Proof.Machine.execFeedPgChange n s
  | .feedRetryEnd n => Sys2Proof.Machine.execFeedRetryEnd n s
  | .feedRailOk n => Sys2Proof.Machine.execFeedRailOk n s
  | .feedTripCountReset n => Sys2Proof.Machine.execFeedTripCountReset n s
  | .feedDamageDetect n => Sys2Proof.Machine.execFeedDamageDetect n s
  | .feedMeasUpdate n => Sys2Proof.Machine.execFeedMeasUpdate n s
  | .domainVoteWrite m d val => Sys2Proof.Machine.execDomainVoteWrite m d val s
  | .domainEntryBegin d => Sys2Proof.Machine.execDomainEntryBegin d s
  | .domainTransitionDone d => Sys2Proof.Machine.execDomainTransitionDone d s
  | .cmpRawChange n x => Sys2Proof.Machine.execCmpRawChange n x s
  | .cmpFilterExpire n => Sys2Proof.Machine.execCmpFilterExpire n s
  | .powerOnReset => Sys2Proof.Machine.execPowerOnReset s
  | .rstNAssert => Sys2Proof.Machine.execRstNAssert s
  | .cfgResetSystem m => Sys2Proof.Machine.execCfgResetSystem m s
  | .cfgResetControl m => Sys2Proof.Machine.execCfgResetControl m s
  | .bootSequenceStart selfTestOk => Sys2Proof.Machine.execBootSequenceStart selfTestOk s
  | .bootDomainsReady size modes => Sys2Proof.Machine.execBootDomainsReady size modes s
  | .bootLoadDone img unitA unitB => Sys2Proof.Machine.execBootLoadDone img unitA unitB s
  | .runnelOfferReceive p f => Sys2Proof.Machine.execRunnelOfferReceive p f s
  | .runnelAnswerReceive p f => Sys2Proof.Machine.execRunnelAnswerReceive p f s
  | .runnelChunkReceive p f => Sys2Proof.Machine.execRunnelChunkReceive p f s
  | .runnelHaveReceive p f => Sys2Proof.Machine.execRunnelHaveReceive p f s
  | .runnelChunkResend p => Sys2Proof.Machine.execRunnelChunkResend p s
  | .updateBuildDone => Sys2Proof.Machine.execUpdateBuildDone s
  | .updInject m val => Sys2Proof.Machine.execUpdInject m val s
  | .updStage m => Sys2Proof.Machine.execUpdStage m s
  | .stagingDone => Sys2Proof.Machine.execStagingDone s
  | .fhHandover m => Sys2Proof.Machine.execFhHandover m s
  | .handoverAtBoundary => Sys2Proof.Machine.execHandoverAtBoundary s
  | .updCommit m => Sys2Proof.Machine.execUpdCommit m s
  | .handoverApplied => Sys2Proof.Machine.execHandoverApplied s
  | .handoverDeadline => Sys2Proof.Machine.execHandoverDeadline s
  | .updConfirm m => Sys2Proof.Machine.execUpdConfirm m s
  | .updRevert m => Sys2Proof.Machine.execUpdRevert m s
  | .updDiscard m => Sys2Proof.Machine.execUpdDiscard m s
  | .updReapply m => Sys2Proof.Machine.execUpdReapply m s
  | .secEnrol m => Sys2Proof.Machine.execSecEnrol m s
  | .secKeyload m => Sys2Proof.Machine.execSecKeyload m s
  | .secRevoke m => Sys2Proof.Machine.execSecRevoke m s
  | .secNodecert m => Sys2Proof.Machine.execSecNodecert m s
  | .secSvnRaise m => Sys2Proof.Machine.execSecSvnRaise m s
  | .secZeroise m => Sys2Proof.Machine.execSecZeroise m s
  | .secTransfer m => Sys2Proof.Machine.execSecTransfer m s
  | .sessionOpen m => Sys2Proof.Machine.execSessionOpen m s
  | .sessionVerify m => Sys2Proof.Machine.execSessionVerify m s
  | .sessionClose m => Sys2Proof.Machine.execSessionClose m s
  | .sessionExpire => Sys2Proof.Machine.execSessionExpire s
  | .kaInitReceive p f => Sys2Proof.Machine.execKaInitReceive p f s
  | .kaRespReceive p f => Sys2Proof.Machine.execKaRespReceive p f s
  | .kaConfirmReceive p f => Sys2Proof.Machine.execKaConfirmReceive p f s
  | .kaTxSwitch p => Sys2Proof.Machine.execKaTxSwitch p s
  | .kaOldAnClear p => Sys2Proof.Machine.execKaOldAnClear p s
  | .kaTimeout p => Sys2Proof.Machine.execKaTimeout p s
  | .rekeyPeriodic p => Sys2Proof.Machine.execRekeyPeriodic p s
  | .noiseHealthFail => Sys2Proof.Machine.execNoiseHealthFail s
  | .tamperDetect => Sys2Proof.Machine.execTamperDetect s
  | .debugUnlock nonce token => Sys2Proof.Machine.execDebugUnlock nonce token s
  | .eventOccurrence ev cls rep => Sys2Proof.Machine.execEventOccurrence ev cls rep s
  | .eventClear m k val => Sys2Proof.Machine.execEventClear m k val s
  | .softwareEvent m val => Sys2Proof.Machine.execSoftwareEvent m val s
  | .reactionReset => Sys2Proof.Machine.execReactionReset s
  | .logWindowEnd => Sys2Proof.Machine.execLogWindowEnd s
  | .alarmReceive f bad => Sys2Proof.Machine.execAlarmReceive f s bad
  | .snapTake m => Sys2Proof.Machine.execSnapTake m s
  | .snapRelease m => Sys2Proof.Machine.execSnapRelease m s
  | .snapTreq => Sys2Proof.Machine.execSnapTreq s
  | .snapMark => Sys2Proof.Machine.execSnapMark s
  | .snapCopyDone => Sys2Proof.Machine.execSnapCopyDone s
  | .scrubPass mem e => Sys2Proof.Machine.execScrubPass mem e s
  | .calibrationVisit atEnd => Sys2Proof.Machine.execCalibrationVisit atEnd s
  | .telemetryRead t0 t1 t2 t3 t4 feed => Sys2Proof.Machine.execTelemetryRead t0 t1 t2 t3 t4 feed s
  | .mgmtSend => Sys2Proof.Machine.execMgmtSend s
  | .vaonLoss => Sys2Proof.Machine.execVaonLoss s
  | .jtagReset => Sys2Proof.Machine.execJtagReset s
  | .creditSetSend p => Sys2Proof.Machine.execCreditSetSend p s
  | .ethEgressSend n q bad => Sys2Proof.Machine.execEthEgressSend n q bad s
  | .fieldPinLevelChange n level sub => Sys2Proof.Machine.execFieldPinLevelChange n level sub s
  | .usbPortConnect n conn speed hid => Sys2Proof.Machine.execUsbPortConnect n conn speed hid s
  | .imageBuildComplete => Sys2Proof.Machine.execImageBuildComplete s

end Sys2Proof.Machine
end

