-- ==== Sys2Proof/Machine/Step.lean ====
section
/-! DEFINITION. One step of the block: the command at the front of the queue, or, with none waiting, one tick of the timebase. -/

namespace Sys2Proof.Machine

/-- One step. DESIGN CHOICE: with no command waiting, the block's own clock advances by one tick of 4 ns nominal (R259), and the host port looks
whether WAIT has ended (R240, R246). -/
def step (s : State) : Host.Outcome State Fault Refusal :=
  match s.pending with
  | [] => .next s.timeTick.hostTick
  | c :: r => exec c { s with pending := r }

/-- The state with the command that a word spells put at the front of its queue; the state itself where it spells none. -/
def State.withFetchWord (s : State) (nbits w : Nat) : State :=
  match decodeTableWord nbits w with
  | none => s
  | some c => { s with pending := c :: s.pending }

/-- `n` steps, one after another; none where one of them stops. -/
def State.steps (s : State) : Nat → Option State
  | 0 => some s
  | n + 1 =>
    match step s with
    | .next t => t.steps n
    | .fault _ => none
    | .refused _ => none

end Sys2Proof.Machine
end

