-- ==== Sys2Proof/Safety.lean ====
section
/-! DEFINITION. What a safe run is, and the terms that claims use: every table of the state in its one canonical form, a queue that
holds only well-formed commands, what an event leaves of the state, and when a write of a register reaches its block. -/

namespace Sys2Proof.Machine

/-- The register map in its canonical form: keys rising, no entry equal to the reset value of its key. -/
def State.regsWf (s : State) : Prop := SMap.wf regReset s.regs = true

/-- The banks of both units in their canonical form. -/
def State.banksWf (s : State) : Prop := SMap.wf (fun _ => (0 : Byte)) s.fh.mem = true

/-- Every command that waits is well formed. -/
def State.queueWf (s : State) : Prop := ∀ c ∈ s.pending, c.wellFormed = true

/-- A step that neither faults nor refuses. -/
def State.stepsOn (s : State) : Prop := ∃ t, step s = .next t

/-! ### What an event leaves -/

/-- The state without what an event may change: the registers, Sump, the reset request, the sequence numbers of frames this node
originates and the frames waiting for admission. -/
def State.bare (s : State) : State :=
  { s with regs := [], sump := Sump.reset, resetReq := none, links := { s.links with seqNext := [] },
           sw := { s.sw with waiting := [] } }

/-- The pending registers. -/
def isPendKey (k : Nat) : Bool := decide (EVT_PEND.off 0 ≤ k ∧ k < EVT_PEND.off 16)

/-- The registers beside the pending bits that an event may change: HST_ATTN, PORT_BYP, and Stillwater's and Sump's counters and
status. -/
def isRaiseKey (k : Nat) : Bool :=
  [SUMP_SAT.off, SUMP_LOG_DROP.off, SUMP_ALARM_DROP.off, SNAP_STAT.off, SNAP_SAT.off, SNAP_LOST.off, PORT_BYP.off, HST_ATTN.off].contains k

/-- Every register is as it was but those listed and those that an event may change. -/
def State.keepsRegs (s t : State) (l : List Nat) : Prop :=
  ∀ k, k ∉ l → isPendKey k = false → isRaiseKey k = false → t.rd k = s.rd k

/-- Every register is as it was but those listed. -/
def State.sameRegs (s t : State) (l : List Nat) : Prop := ∀ k, k ∉ l → t.rd k = s.rd k

/-! ### Writes that reach their block -/

/-- A 32-bit write by a master at an offset is performed at once, by a writer of at least class `c`: it is not held (R10, R451), the
register exists and is served (R27, R437), its domain is on (R8), its block is open to a writer of Remote class (R35), and no reset waits to
be entered. -/
def State.serves (s : State) (m : Master) (off c : Nat) : Prop :=
  s.regWaits m off 4 = false ∧ (s.reg m off 4).isSome = true ∧ s.domGate off = 0 ∧ c ≤ s.writeClass m off ∧
    (s.writeClass m off = 0 → s.remoteOpen off = true) ∧ s.resetReq = none

/-- Registers of several blocks that a write only stores: no row of the command table names them. -/
def plainRegs : List Nat := [DEV_RMT_MAP.off, SUMP_SPILL.off, UPD_HO_CFG.off, FH_CTRL.off, FEED_CTRL.off, USB_ISO_CFG.off]

/-- The registers whose fields carry access code MW (R31): the domains' votes, the edge capture masks, the direct levels. -/
def maskedRegs : List Nat :=
  (List.range 16).map PWR_DOM_VOTE.off ++ (List.range 32).map TIME_ECAP.off ++ (List.range 16).map FIO_LEVEL.off

/-- Counters of several blocks. -/
def someCounters : List Nat :=
  [PWR_CFGERR_CNT.off, SUMP_LOG_DROP.off, TIME_CFGERR_CNT.off, PNT_REJECT_CNT.off, SW_OVERRUN.off, BRG_PF_DROP.off, FEED_TRIP_CNT.off,
   TEL_CAL_ERR.off]

/-- A point of the table that a local master's access reaches: the point engine serves it at once. -/
def State.pointServed (s : State) (m : Master) (i : Nat) : Prop :=
  i < 262144 ∧ isLocal m = true ∧ s.spaceGate m 0 (16 * i) = 0 ∧ s.resetReq = none

/-- A tile that a read of its points finds sound: it is in the cache, or its bytes agree with its CRC (R82). -/
def State.tileGood (s : State) (t : Nat) : Prop := s.pts.cache.contains t = true ∨ s.tileSound t = true

/-- The age of a point exceeds its profile's bound (R67). -/
def State.pointOld (s : State) (i : Nat) : Bool :=
  decide ((s.pt i).qual = qGood) && decide (s.g (PNT_PROF_FRESH.FRESH.at (s.profOf i)) ≠ 0) &&
    decide (s.g (PNT_PROF_FRESH.FRESH.at (s.profOf i)) < (s.us24 + 2 ^ 24 - SMap.get (fun _ => 0) s.pts.refresh i) % 2 ^ 24)

/-- The last access ended OK, and its master was told so. -/
def State.toldOK (t : State) (m : Master) : Prop := t.resp = some ⟨m.mid.val, stOK, []⟩

/-- Nothing waits for the line budget (R168), and with `n` more lines written the head comes near no live record (R173). -/
def State.headClear (s : State) (n : Nat) : Prop := s.flow.owed = [] ∧ (s.fm (fun x => { x with lsn := x.lsn + n })).relocs = []

/-- No entry of the inbound table has an item that waits or is held (R178). -/
def State.inbQuiet (s : State) : Prop := ∀ e ∈ s.flow.inb, e.wait = none ∧ e.held = []

/-- No frame is queued at the CPU port. -/
def State.cpuIdle (s : State) : Prop := ∀ q ∈ s.sw.queues, q.port ≠ 8

/-- Whether a path is no master's or a plain store's. -/
def Path.plain : Path → Bool
  | .none | .store _ => true
  | .atomic _ | .posted _ | .usb _ | .hostOnce _ | .usbOnce | .cist .. | .can .. | .eth _ => false

/-- The outcome of an item is reported to no further path: it comes from a plain store or from no master. -/
def Item.plain (it : Item) : Prop := it.outlet = none ∧ it.path.plain = true

/-- The journal holds the lines `b` from line `lsn` on, as one group (R171, R174). -/
def State.journaled (t : State) (lsn : Nat) (b : List (Nat × Bool × List Byte)) : Prop :=
  ∀ k, k < b.length →
    t.ringLine ((lsn + k) % ringLines) = lineBytes (lsn + k) (k + 1 == b.length) (b.getD k (0, false, []))

/-- A frame of the ring waits for admission at the end of the switch's line. -/
def State.offers (s t : State) (f : Frame) : Prop :=
  t.sw.waiting = s.sw.waiting ++ [⟨8, f.cls, s.ringPorts, f, false, s.localBytes s.ringPorts f, none, s.now4 0⟩]

/-- What a refused TIME write leaves (R36, R264): CFG, counted, with the event of TIME; the time as it was. -/
def State.timeRefused (s t : State) (m : Master) : Prop :=
  t.resp = some ⟨m.mid.val, stCFG, []⟩ ∧ t.clep = s.clep ∧ t.evPend (evTime 1) = true ∧ s.keepsRegs t [TIME_CFGERR_CNT.off] ∧
    ((s.rd TIME_CFGERR_CNT.off).toNat + 1 < 0xFFFFFFFF → (t.rd TIME_CFGERR_CNT.off).toNat = (s.rd TIME_CFGERR_CNT.off).toNat + 1)

/-- LOW of a flow with nothing outstanding (R163): the SEQ of the next item to be accepted. -/
def State.lowOfNone (s : State) (f : Nat) : Nat := ((s.fl f).next + 2 ^ 32 - s.accPending f) % 2 ^ 32

/-! ### The switch and the host port -/

/-- No mirror session is enabled. -/
def State.noMirror (s : State) : Prop := ∀ k, k < 4 → s.flag (SW_MIR_CFG.EN k) = false

/-- The host port's last response: a status and bytes, followed by their CRC where the port uses one (R232, R233). -/
def State.hostTold (s t : State) (st : Nat) (data : List Byte) : Prop :=
  t.resp = some ⟨8, st, if s.flag HST_CFG.CRC then data ++ bytesBE 2 (crc16 (bytesBE 1 st ++ data)) else data⟩

/-- A point whose read has no side effect and finds it fresh enough. -/
def State.pointPlain (s : State) (i : Nat) : Prop :=
  i < 262144 ∧ (s.pt i).typ ≠ tyUndef ∧ (s.pt i).typ ≠ tyReadsens ∧ s.pointOld i = false

/-! ### Fountainhead units -/

/-- The registers that an evaluation of the power domains may change. -/
def powerRegs : List Nat := (List.range 16).flatMap (fun d => [PWR_DOM_STAT.off d, PWR_DOM_VOTE.off d])

/-- The active unit `u` is on and runs, no fail-over is in progress, fail-overs are enabled, and the other unit stands by. -/
def State.guarded (s : State) (u : Nat) : Prop :=
  s.resetReq = none ∧ s.active = u ∧ s.unit u = fhActive ∧ s.domOn (u + 1) = true ∧ s.fh.halted.contains u = false ∧ s.fh.trig = none ∧
    s.flag FH_CTRL.FO_EN = true ∧ s.unit (1 - u) = fhStandby ∧ (s.rd FH_TRIG_CNT.off).toNat + 1 < 0xFFFFFFFF

/-- The units' record after a voted step of unit `u` (R305): one of the active unit gives the mode that the zone programs' time follows. -/
def State.stepFh (s : State) (u : Nat) (user : Bool) : Fh :=
  if u = s.active then { s.zoneAccrue.fh with zoneUser := if user then some u else none } else s.fh

/-- What a trigger in such a unit leaves (R291, R292, R298): the trigger recorded and counted, the unit FAILED and halted, safe state, a
running checkpoint copy abandoned, the other unit in RESTORE, a Degraded fault; ACTIVE stands. -/
def State.failedOver (s t : State) (u cause core kind addr : Nat) : Prop :=
  t.unit u = fhFailed ∧ t.unit (1 - u) = fhRestore ∧ t.flag FH_STAT.SAFE = true ∧ t.active = u ∧
    t.fh = { s.zoneAccrue.fh with
      halted := u :: s.fh.halted.filter (fun x => x != u), copy := none, trig := some s.absNs, proof := none, zoneUser := t.fh.zoneUser } ∧
    t.flag FH_MISM.VALID = true ∧ t.g FH_MISM.UNIT = u ∧ t.g FH_MISM.CAUSE = cause ∧ t.g FH_MISM.CORE = core ∧
    t.g FH_MISM.KIND = kind ∧ t.g FH_MISM_ADDR.ADDR = addr ∧
    (t.rd FH_TRIG_CNT.off).toNat = (s.rd FH_TRIG_CNT.off).toNat + 1 ∧ t.evPend (evFh 2) = true ∧ clDegraded ≤ t.evKept (evFh 2) ∧
    (s.flag FH_CTRL.SAFE_JETS = false → t.jets = s.jets ∧ t.pins = s.pins ∧ t.pts = s.pts ∧ t.flow = s.flow ∧
      s.keepsRegs t ([FH_STAT.off, FH_MISM.off, FH_MISM_ADDR.off, FH_TRIG_CNT.off, FH_CKPT_STAT.off, PWR_SUPPLY_FLT.off] ++ powerRegs))

/-! ### Jets -/

/-- A tick of a Jet that runs and whose word at PC is a legal word of code `op` (R318 to R320). -/
def State.jetAt (s : State) (j op : Nat) : Prop :=
  s.resetReq = none ∧ s.jetRuns j = true ∧ jetOp (s.jetWord j) = op ∧ s.jetIllegal j (s.jetWord j) = false

/-- The word at PC is done: the repeat unit gives the next address (R321), and the Jet shows RUNNING. -/
def State.jetStepped (s t : State) (j : Nat) : Prop :=
  t.g (JET_STAT.STATE j) = jsRunning ∧ (t.jet j).seen = false ∧
    (if (s.jet j).lcnt ≠ 0 ∧ s.g (JET_PC.PC j) = (s.jet j).le then
      (t.jet j).lcnt = (s.jet j).lcnt - 1 ∧
        t.g (JET_PC.PC j) = if 1 < (s.jet j).lcnt then (s.jet j).ls % 128 else (s.g (JET_PC.PC j) + 1) % 128
    else (t.jet j).lcnt = (s.jet j).lcnt ∧ t.g (JET_PC.PC j) = (s.g (JET_PC.PC j) + 1) % 128)

/-- What a word leaves alone: the other Jets, points and flows, and every register but the Jet's PC and STAT and those listed. -/
def State.jetFrame (s t : State) (j : Nat) (l : List Nat) : Prop :=
  (∀ i, i ≠ j → t.jet i = s.jet i) ∧ s.sameRegs t ([JET_PC.off j, JET_STAT.off j] ++ l) ∧ t.pts = s.pts ∧ t.flow = s.flow

/-- The Jet's word is done and its record is `v` but for the repeat unit. -/
def State.jetDid (s t : State) (j : Nat) (v : Jet) (l : List Nat) : Prop :=
  s.jetStepped t j ∧ s.jetFrame t j l ∧ t.jet j = { v with lcnt := (t.jet j).lcnt, seen := false }

/-- The last access was refused as a wrong configuration (R36): its master was told so. -/
def State.toldCfg (t : State) (m : Master) : Prop := t.resp = some ⟨m.mid.val, stCFG, []⟩

/-! ### Cisterns -/

/-- A local master's push reaches an enabled Cistern of which it is the producer (R8, R335, R338). -/
def State.feedsCistern (s : State) (m : Master) (n : Nat) : Prop :=
  s.resetReq = none ∧ s.spaceGate m 2 0 = 0 ∧ s.g (CST_CFG.PROD n) = 1 ∧ s.g (CST_PROD.MID n) = m.mid.val ∧ s.flag (CST_CFG.EN n) = true

/-- The words that a consumer still has to take, in order (R336, R340). -/
def Cistern.stream (c : Cistern) : List Word := c.inside ++ c.closed.flatMap (fun p => p.header :: p.words)

/-- What a push leaves alone: the other Cisterns, and every register but those listed. -/
def State.cistFrame (s t : State) (n : Nat) (l : List Nat) : Prop :=
  (∀ k, k ≠ n → t.cist k = s.cist k) ∧ s.keepsRegs t (CST_STAT.off n :: l) ∧ t.pts = s.pts ∧ t.flow = s.flow

/-! ### USB -/

/-- A hub request for a downstream port by its owner (R365, R367, R368), and one by the other side. -/
def State.ownPort (s : State) (n : Fin 4) (f : PortFeat) (on : Bool) : Instr :=
  .usbControlRequest (if (s.g USB_CFG.LOCAL).testBit n.val then .localFeature n f on else .portFeature n f on)
def State.otherPort (s : State) (n : Fin 4) (f : PortFeat) (on : Bool) : Instr :=
  .usbControlRequest (if (s.g USB_CFG.LOCAL).testBit n.val then .portFeature n f on else .localFeature n f on)

/-! ### Feeds -/

/-- The counters of trips are not at their end. -/
def State.feedCounts (s : State) : Prop :=
  (s.rd FEED_TRIP_CNT.off).toNat + 1 < 0xFFFFFFFF ∧ (s.rd FEED_RETRY_CNT.off).toNat + 1 < 0xFFFFFFFF ∧
    (s.rd FEED_LATCH_CNT.off).toNat + 1 < 0xFFFFFFFF

/-- What a trip leaves (R394): the gate off, the cause recorded and counted; RETRY with its timer while fewer than RETRIES consecutive trips
have occurred (15: without end), else LATCHED with a Degraded fault. -/
def State.feedTripped (s t : State) (n cause : Nat) : Prop :=
  (t.feed n).gate = .off ∧ t.flag (FEED_CHSTAT.PG n) = false ∧ t.flag (FEED_CHSTAT.LIM n) = false ∧ t.g (FEED_CHSTAT.CAUSE n) = cause ∧
    t.g (FEED_CHSTAT.RUNTRIP n) = min 15 (s.g (FEED_CHSTAT.RUNTRIP n) + 1) ∧
    (t.rd FEED_TRIP_CNT.off).toNat = (s.rd FEED_TRIP_CNT.off).toNat + 1 ∧ t.evPend (evFeed n) = true ∧
    (if s.g (FEED_CFG.RETRIES n) = 15 ∨ s.g (FEED_CHSTAT.RUNTRIP n) < s.g (FEED_CFG.RETRIES n) then
      t.fst n = fsRetry ∧ (t.feed n).rail = false ∧
        (t.feed n).due = s.absNs + 100000000 * (clampNat 1 600 (s.g (FEED_RETRY.RETRY n)) : Nat) ∧
        (t.rd FEED_RETRY_CNT.off).toNat = (s.rd FEED_RETRY_CNT.off).toNat + 1
    else t.fst n = fsLatched ∧ clDegraded ≤ t.evKept (evFeed n) ∧
      (t.rd FEED_LATCH_CNT.off).toNat = (s.rd FEED_LATCH_CNT.off).toNat + 1)

/-- What the beginning of RAMP leaves (R387): the ramp regulates from the VOUT present. -/
def State.feedRamps (s t : State) (n : Nat) : Prop :=
  t.fst n = fsRamp ∧ (t.feed n).gate = .slew ∧ (t.feed n).slewAt = s.absNs ∧ (t.feed n).slewV = (s.feed n).vout ∧
    (t.feed n).rampAt = s.absNs ∧ (s.sigEntries false 2 n 4 = [] → s.sameRegs t [FEED_CHSTAT.off n] ∧ t.pts = s.pts)

/-- The FET temperature that a sample gives with the model on the die (R393): TDIE and the three poles' rises, in 0.1 °C. -/
def poleTemp (rise : List Rat) (tdie : Int) : Int := tdie + (10 * (rise.getD 0 0 + rise.getD 1 0 + rise.getD 2 0)).floor

/-- A pole after a sample (R393, R401): the rise moves toward power × R by the share 10 µs / TAU, TAU in units of 10 ms,
or of 10 µs and then at least 10 of them. -/
def poleMoved (w : Word) (p rise : Rat) : Rat :=
  let tau := if (FEED_POLE.UNIT 0 0).get w = 0 then max 10 ((FEED_POLE.TAU 0 0).get w) else 1000 * (FEED_POLE.TAU 0 0).get w
  rise + (p * (((FEED_POLE.R 0 0).get w : Nat) : Rat) / 1000 - rise) * (1 / (tau : Rat))

/-- The FET temperature of a sample in 0.1 °C (R393): by the model on the die, or by the NTC, whose last value stays where it is broken. -/
def State.sampledTemp (s : State) (n : Nat) (rise : List Rat) (tdie : Int) (ntc : Option Nat) : Int :=
  match s.flag (FEED_CFG.TMODE n), ntc with
  | false, _ => poleTemp rise tdie
  | true, some r => Config.ntcTemp r (s.g (FEED_NTC.R25 n)) (s.g (FEED_NTC.B n))
  | true, none => (s.feed n).temp

/-! ### Resets -/

/-- What the entry of a SYSTEM reset leaves (R424, R425, R439): its cause recorded and counted, the start-up at its first stage, FH_A and FH_B
in RETENTION, FEED as it stood and the other domains OFF with their registers at reset, both units OFF, the host told, and nothing held. -/
def State.systemReset (s t : State) (src mid : Nat) : Prop :=
  t.g CFG_BOOT.STAGE = 1 ∧ t.g CFG_BOOT.KIND = 1 ∧ t.g CFG_RST_CAUSE.KIND = 1 ∧ t.g CFG_RST_CAUSE.SRC = src ∧
    t.g CFG_RST_CAUSE.MID = mid ∧ (t.rd CFG_RST_CNT.off).toNat = (s.rd CFG_RST_CNT.off).toNat + 1 ∧
    t.dom 1 = dsRet ∧ t.dom 2 = dsRet ∧ t.dom 15 = s.dom 15 ∧ (∀ d, 3 ≤ d → d ≤ 14 → t.dom d = dsOff) ∧
    t.unit 0 = fhOff ∧ t.unit 1 = fhOff ∧ t.fh.halted = [0, 1] ∧ t.flag FH_STAT.SAFE = false ∧ t.flag HST_STAT.RST = true ∧
    t.flag PORT_BYP.INSERT = false ∧ t.held = [] ∧ t.boot.busy = false ∧ t.pts.recs = [] ∧ t.cst.cist = [] ∧ t.can = [] ∧
    (∀ k, 3 ≤ domainOf (k % 2 ^ 22) → domainOf (k % 2 ^ 22) ≤ 13 → storedReg (k % 2 ^ 22) = false →
      k ≠ HST_STAT.off → k ≠ HST_ATTN.off → k ≠ HST_PW_LOST.off → k ≠ PORT_BYP.off → t.rd k = regReset k)

/-- A register that a POWER-ON reset returns to its reset value is there, and what only RAM holds is gone (R423, R425). -/
def State.poweredOn (s t : State) : Prop :=
  (∀ k, lastingReg (k % 2 ^ 22) = false → t.rd k = regReset k) ∧ (∀ k, lastingReg (k % 2 ^ 22) = true → k ≠ UPD_STAT.off → t.rd k = s.rd k) ∧
    (s.ust = usIdle → s.upd.rec_ = 0 → t.rd UPD_STAT.off = s.rd UPD_STAT.off) ∧
    t.pts = State.reset.pts ∧ t.jets = State.reset.jets ∧ t.can = [] ∧ t.feeds = [] ∧ t.cst = State.reset.cst ∧ t.usb = Usb.reset ∧
    t.held = [] ∧ t.flow.out = [] ∧ t.flow.commit = none ∧ t.fh.slots = s.fh.slots ∧ t.boot.slots = s.boot.slots ∧ t.sec.keys = s.sec.keys ∧
    t.pins.ball = s.pins.ball ∧ t.pending = s.pending

/-! ### Updates -/

/-- A relay frame of this node waits for admission to a ring port (R443, R444). -/
def State.relays (t : State) (p : Nat) (payload : List Byte) : Prop :=
  ∃ e ∈ t.sw.waiting, e.targets = [p] ∧ e.frame.typ = tyRunnel ∧ e.frame.cls = 1 ∧ e.frame.payload = payload

/-- What accepting a package header leaves (R445): it is held in place of any other, RECEIVING, and offered on the ring ports in UP. -/
def State.packageHeld (s t : State) (h : List Byte) : Prop :=
  t.upd = { s.upd with hdr := some h, chunks := [], peers := t.upd.peers, building := false } ∧ t.pkgId = leAt h 4 4 ∧
    t.g UPD_PKG_SEQ.SEQ = leAt h 8 4 ∧ t.g UPD_PROG.CHUNKS = pkgChunks h % 32768 ∧ t.g UPD_PROG.HAVE = 0 ∧ t.ust = usReceiving ∧
    (∀ q ∈ s.ringPorts, s.runnelOn = true → s.pst q = psUp → t.relays q (relayHead 1 0 (leAt h 4 4) 0 0 ++ h))

/-- What refusing one leaves (R449): its cause, counted. -/
def State.packageRefused (s t : State) (c : Nat) : Prop :=
  t.upd = s.upd ∧ t.g UPD_STAT.CAUSE = c ∧ t.ust = s.ust ∧
    (t.rd UPD_REFUSE_CNT.off).toNat = (s.rd UPD_REFUSE_CNT.off).toNat + 1 ∧ t.evPend (evCfg 5) = true

/-- What a chunk that is not held leaves (R446): it is discarded and counted where its tag fails, else held, and HAVE follows. -/
def State.chunkTaken (s t : State) (h : List Byte) (k : Nat) (d : List Byte) : Prop :=
  if (s.openChunk h k d).isNone then
    t.upd = s.upd ∧ (t.rd UPD_TAG_ERR.off).toNat = (s.rd UPD_TAG_ERR.off).toNat + 1 ∧ t.evPend (evCfg 6) = true
  else
    t.chunk k = some (s.cyc.num, d) ∧ (∀ i, i ≠ k → t.chunk i = s.chunk i) ∧ t.rd UPD_TAG_ERR.off = s.rd UPD_TAG_ERR.off ∧
      (k ≠ s.g UPD_PROG.HAVE + 1 → (s.chunk (s.g UPD_PROG.HAVE + 1)).isNone = true → t.g UPD_PROG.HAVE = s.g UPD_PROG.HAVE ∧
        (s.g UPD_PROG.HAVE ≠ pkgChunks h → t.ust = s.ust)) ∧
      (k = s.g UPD_PROG.HAVE + 1 → (s.chunk (k + 1)).isNone = true → t.g UPD_PROG.HAVE = k ∧
        t.ust = if k = pkgChunks h ∧ s.ust = usReceiving then usComplete else s.ust)

/-- A chunk that a frame of kind CHUNK carries, or the buffer holds, is one of the package and not held. -/
def State.chunkNew (s : State) (h : List Byte) (k : Nat) : Prop :=
  s.upd.hdr = some h ∧ 1 ≤ k ∧ k ≤ pkgChunks h ∧ pkgChunks h < 32767 ∧ s.chunk k = none ∧ (s.rd UPD_TAG_ERR.off).toNat + 1 < 0xFFFFFFFF

/-- The first chunk above a neighbour's HAVE `v` is chunk `k`, held since cycle `c`, an earlier one, and never sent; the port may still
send (R445). -/
def State.chunkDue (s : State) (p v k c : Nat) (d : List Byte) : Prop :=
  (s.peer p).inCycle < s.relayRate ∧ (s.peer p).sent = [] ∧ c ≠ s.cyc.num ∧
    s.upd.chunks.find? (fun e => decide (v < e.1)) = some (k, some (c, d))

/-- What an abort of a handover leaves (R452): the new unit in STANDBY, the old one running on, STAGED, the cause counted. -/
def State.hoAborted (s t : State) (cause : Nat) : Prop :=
  t.unit (1 - s.upd.old) = fhStandby ∧ t.fh.halted.contains s.upd.old = false ∧ t.fh.resumed = none ∧ t.ust = usStaged ∧
    t.g UPD_STAT.CAUSE = cause ∧ t.upd = { s.upd with rec_ := 0, cDue := none, cAt := none } ∧
    (t.rd UPD_ABORT_CNT.off).toNat = (s.rd UPD_ABORT_CNT.off).toNat + 1 ∧ t.evPend (evCfg 4) = true ∧ t.active = s.active

/-- What a refused UPD_CMD leaves (R36, R459): CFG, counted, and the update as it was. -/
def State.updRefused (s t : State) (m : Master) : Prop :=
  t.toldCfg m ∧ t.upd = s.upd ∧ (t.rd UPD_CFGERR_CNT.off).toNat = (s.rd UPD_CFGERR_CNT.off).toNat + 1 ∧ t.evPend (evCfg 1) = true ∧
    s.keepsRegs t [UPD_CFGERR_CNT.off]

/-! ### Grotto -/

/-- A write of SEC_CMD runs its command (R464): Grotto is without error, the buffer is not claimed by another master, and the error counter is
not at its end. -/
def State.secReady (s : State) (m : Master) : Prop :=
  s.serves m SEC_CMD.off 0 ∧ s.flag SEC_STAT.ERR = false ∧ s.claimedOther m = false ∧ (s.rd SEC_CMD_ERR.off).toNat + 1 < 0xFFFFFFFF

/-- What a command that ended with result `r` leaves (R464): its code, the claim released; a failure counted, and Grotto's stores as they
were. -/
def State.secEnded (s t : State) (m : Master) (r : Nat) : Prop :=
  t.toldOK m ∧ t.g SEC_RESULT.CODE = r ∧ t.flag SEC_STAT.BUSY = false ∧
    (r ≠ srOK → t.sec = s.sec ∧ (t.rd SEC_CMD_ERR.off).toNat = (s.rd SEC_CMD_ERR.off).toNat + 1) ∧
    (r = srOK → t.rd SEC_CMD_ERR.off = s.rd SEC_CMD_ERR.off)

/-- What a key agreement that failed leaves (R471): counted, to be tried again. -/
def State.kaFailed (s t : State) (p : Nat) : Prop :=
  (t.rd SEC_KA_FAIL.off).toNat = (s.rd SEC_KA_FAIL.off).toNat + 1 ∧ t.evPend (evSec 4) = true ∧ (t.kaOf p).stage = 4 ∧
    (t.kaOf p).startAt = s.absNs ∧ t.sec.linkKeys = s.sec.linkKeys ∧
    s.keepsRegs t [SEC_KA_FAIL.off, PORT_STAT.off p]

/-- A new association that this node initiates on a port (R470, R471): INIT goes out. -/
def State.kaStarted (s t : State) (p an : Nat) : Prop :=
  (t.kaOf p).stage = 1 ∧ (t.kaOf p).an = an ∧ t.sec.ephNo = s.sec.ephNo + 1 ∧ (t.kaOf p).eph = s.sec.ephNo ∧
    (t.kaOf p).startAt = s.absNs ∧
    (t.kaOf p).out = kaSign [] (kaBody 1 an (s.sec.cert.getD []) (Config.ephPub s.sec.ephNo)) ∧ (t.kaOf p).blocks = (t.kaOf p).out

/-! ### Scrub -/

/-- What an uncorrectable word found by the patrol scrub counts (R491). -/
def State.scrubFailed (s t : State) : Prop :=
  (t.rd TEL_SCRUB_UNCORR.off).toNat = (s.rd TEL_SCRUB_UNCORR.off).toNat + 1 ∧ t.evPend (evTel 3) = true

/-- What a confirmed failure of a tile leaves (R84): its defined points with QUALITY TILE, its UNDEF records zero, its header word the CRC of
the bytes as they then stand, its index recorded, and a Note or, on a repeat, a Degraded fault. -/
def State.tileLost (s t : State) (k : Nat) : Prop :=
  t.g PNT_TILE_LAST.TILE = k ∧ t.flag PNT_TILE_LAST.VALID = true ∧
    (∀ i, i < 16 → (s.pt (16 * k + i)).typ ≠ tyUndef → (t.pt (16 * k + i)).qual = qTile) ∧
    (∀ i, i < 16 → (s.pt (16 * k + i)).typ = tyUndef → t.pt (16 * k + i) = PRec.dflt 0) ∧ t.tileSound k = true ∧
    (if s.flag PNT_TILE_LAST.VALID = true ∧ s.g PNT_TILE_LAST.TILE = k then
      t.flag PNT_STAT.REPEAT = true ∧ t.evPend (evPnt 3) = true ∧ clDegraded ≤ t.evKept (evPnt 3)
    else t.evPend (evPnt 2) = true ∧ clNote ≤ t.evKept (evPnt 2))

/-- What the factory tester's write of a TST offset leaves (R494), by the error that the word injects: a flip waits for the read that
meets it. -/
def State.testWrote (s t : State) (m : Master) : Option Inject → Prop
  | some (.flip mem two) => t.toldOK m ∧ .flip mem two ∈ t.sump.inj ∧ t.regs = s.regs ∧ t.pts = s.pts
  | some _ => t.toldOK m
  | none => t.resp = some ⟨m.mid.val, stADDR, []⟩

/-! ### Links -/

/-- What a link loss at a port that was UP leaves (R116, R117): the port DOWN and turned with its cause, counted, the Degraded fault raised,
and the plane's epoch advanced where the port was not turned before. -/
def State.lost (s t : State) (p cause : Nat) : Prop :=
  t.pst p = psDown ∧ t.g (PORT_STAT.LOSS p) = cause ∧ t.turned p = true ∧ t.flag (PORT_STAT.LOCK p) = false ∧
    (t.rd (PORT_LOSS_CNT.off p)).toNat = (s.rd (PORT_LOSS_CNT.off p)).toNat + 1 ∧
    t.evPend (evPort p 2) = true ∧ clDegraded ≤ t.evKept (evPort p 2) ∧
    (s.turned p = false → t.epochOf (planeOf p) = (s.newestEpoch (planeOf p) + 1) % 256) ∧
    t.pts = s.pts ∧ t.flow = s.flow ∧ t.fh = s.fh ∧ t.clep = s.clep

end Sys2Proof.Machine
end

