-- ==== Sys2Proof/Certificates/Slice0/Obligations.lean ====
section
/-! DEFINITION. The statements about the S884 block: the queue, the registers, and, family by family, what each command does. -/

open Sys2Proof Sys2Proof.Machine

/-! ### The queue and the step -/

/-- The command at the front of the queue is taken, and its effect is what `exec` says of it on the rest of the queue.
Model's readings and choices: log entries 1 and 2. -/
def Obligations.StepTakesTheFront : Prop :=
  ∀ (c : Instr) (s : State) (l : List Instr), s.pending = c :: l → step s = exec c { s with pending := l }

/-- No command stops the block, whatever the state: each ends in a next state, with the queue as it was and no reset waiting. -/
def Obligations.EveryCommandEnds : Prop :=
  ∀ (c : Instr) (s : State), ∃ t, exec c s = .next t ∧ t.pending = s.pending ∧ t.resetReq = none

/-- Commands are taken first in, first out, one a step, and no step stops.
Model's readings and choices: log entry 1. -/
def Obligations.QueueIsFifo : Prop :=
  ∀ (l r : List Instr) (s : State), s.pending = l ++ r → ∃ t, s.steps l.length = some t ∧ t.pending = r

/-- From every state whose waiting commands are well formed and in which no reset waits, a step answers a next state in which both
hold again, the front command gone. -/
def Obligations.StepKeepsTheQueue : Prop :=
  ∀ s : State, s.queueWf → s.resetReq = none →
    ∃ t, step s = .next t ∧ t.queueWf ∧ t.resetReq = none ∧ t.pending = s.pending.tail

/-- The queue invariant holds at reset.
Model's readings and choices: log entries 1 and 6. -/
def Obligations.ResetQueue : Prop := State.reset.queueWf ∧ State.reset.resetReq = none ∧ State.reset.regsWf ∧ State.reset.banksWf

/-- DESIGN CHOICE (log entry 2): with no command waiting and the host waiting for nothing, a step is one tick of the timebase. The counter then advances by the increment of R259 and R265, in
units of 2^-32 ns: TIME_INC, and the slew while ticks of it remain; a second ends at 10^9 ns. -/
def Obligations.IdleStepIsATick : Prop :=
  ∀ s : State, s.pending = [] → s.brg.await = none → s.clep.ns < 1000000000 → s.clep.frac < 2 ^ 32 → s.clep.sec + 1 < 2 ^ 48 →
    0 ≤ s.tickInc → s.tickInc < 1000000000 * 2 ^ 32 →
    ∃ t, step s = .next t ∧
      ((t.clep.sec * 1000000000 + t.clep.ns) * 2 ^ 32 + t.clep.frac : Int) =
        ((s.clep.sec * 1000000000 + s.clep.ns) * 2 ^ 32 + s.clep.frac : Int) + s.tickInc ∧
      t.clep.ns < 1000000000 ∧ t.clep.frac < 2 ^ 32 ∧
      t.g TIME_SLEW_CNT.CNT = s.g TIME_SLEW_CNT.CNT - 1 ∧ s.sameRegs t [TIME_SLEW_CNT.off] ∧
      { t with regs := s.regs, clep := s.clep } = s

/-! ### Registers: access codes and guards (ch. 1) -/

/-- R28: reserved bits of a defined register read 0, and writes to them are ignored, for every register, class and word. -/
def Obligations.ReservedBits : Prop :=
  ∀ (s : State) (c off : Nat) (r : RegRow) (old wv : Word) (i : Nat), regRow off = some r →
    r.fields.all (fun f => !(decide (f.lo ≤ i) && decide (i ≤ f.hi))) = true →
    ((s.maskedRead c off r old).1.getLsbD i = false ∧ (s.maskedWrite c off r old wv).1.getLsbD i = false ∧
      (s.effectiveWrite c off r wv).getLsbD i = false)

/-- R31: a masked write. Bit n of bits 15:0 of a register with access code MW changes only where bit n + 16 of the written word is 1, and takes bit
n; bits 31:16 read 0. REGISTER_WRITE of an all-zero mask to any such register (votes, edge capture, direct levels) is told OK and changes none of
its bits. -/
def Obligations.MaskedWrite : Prop :=
  (∀ (s : State) (c off : Nat) (r : RegRow) (old wv : Word) (f : FieldDef) (i : Nat), regRow off = some r → f ∈ r.fields → f.acc = .mw →
    f.lo ≤ i → i ≤ f.hi → s.reaches c off f.guard = true →
    (i < 16 → (s.maskedWrite c off r old wv).1.getLsbD i = if wv.getLsbD (i + 16) then wv.getLsbD i else old.getLsbD i) ∧
    (16 ≤ i → (s.maskedRead c off r old).1.getLsbD i = false)) ∧
  (∀ (m : Master) (off : Nat) (wv : Word) (s : State) (r : RegRow), off ∈ maskedRegs → regRow off = some r → s.serves m off 2 →
    wv.toNat < 2 ^ 16 →
    ∃ t, exec (.registerWrite m off 4 wv) s = .next t ∧ t.toldOK m ∧
      ∀ f ∈ r.fields, f.acc = .mw → ∀ i, f.lo ≤ i → i ≤ f.hi → i < 16 → (t.rd off).getLsbD i = (s.rd off).getLsbD i)

/-- R34: a master below a field's guard reads 0 from it, and its write leaves it; a field the master reaches behaves as if the others
were not there. -/
def Obligations.GuardedFields : Prop :=
  ∀ (s : State) (c off : Nat) (r : RegRow) (old wv : Word) (f : FieldDef) (i : Nat), regRow off = some r → f ∈ r.fields →
    f.lo ≤ i → i ≤ f.hi →
    (s.reaches c off f.guard = false →
      (s.maskedRead c off r old).1.getLsbD i = false ∧ (s.maskedWrite c off r old wv).1.getLsbD i = old.getLsbD i) ∧
    (s.reaches c off f.guard = true →
      (f.acc = .rw → (s.maskedWrite c off r old wv).1.getLsbD i = wv.getLsbD i ∧ (s.maskedRead c off r old).1.getLsbD i = old.getLsbD i) ∧
      (f.acc = .ro → (s.maskedWrite c off r old wv).1.getLsbD i = old.getLsbD i ∧ (s.maskedRead c off r old).1.getLsbD i = old.getLsbD i) ∧
      (f.acc = .w1c → (s.maskedWrite c off r old wv).1.getLsbD i = (old.getLsbD i && !wv.getLsbD i)))

/-! ### Accesses by masters, and the AVS loop (ch. 1) -/

/-- R28, R37: REGISTER_WRITE of a register that only stores, by a master that may. The register takes the written bits of its RW fields,
keeps those of its other fields, and reads 0 elsewhere; the master is told OK; nothing else changes. -/
def Obligations.RegisterWriteStores : Prop :=
  ∀ (m : Master) (off : Nat) (val : Word) (s : State) (r : RegRow), off ∈ plainRegs → regRow off = some r → s.serves m off 2 →
    ∃ t, exec (.registerWrite m off 4 val) s = .next t ∧ t.toldOK m ∧
      (∀ f ∈ r.fields, ∀ i, f.lo ≤ i → i ≤ f.hi →
        (t.rd off).getLsbD i = if f.acc = .rw then val.getLsbD i else (s.rd off).getLsbD i) ∧
      (∀ i, r.fields.all (fun f => !(decide (f.lo ≤ i) && decide (i ≤ f.hi))) = true → (t.rd off).getLsbD i = false) ∧
      s.sameRegs t [off] ∧ { t with regs := s.regs, resp := s.resp } = s

/-- R27, R29: REGISTER_WRITE of another width, unaligned, or of an offset that is no register (and no TST register open to a factory
tester) ends in a bus error: the master is told so, Sump counts it, and captures it where nothing is captured yet; a master that is a block of
this node raises its event; no other register changes.
Model's readings and choices: log entry 12. -/
def Obligations.BadRegisterWriteIsABusError : Prop :=
  ∀ (m : Master) (off width : Nat) (val : Word) (s : State), (width ≠ 4 ∨ off % 4 ≠ 0 ∨ regRow off = none) → off < 2 ^ 40 →
    s.tstServes m off width = false → s.resetReq = none → (s.rd SUMP_BUSERR_CNT.off).toNat + 1 < 0xFFFFFFFF →
    ∃ t, exec (.registerWrite m off width val) s = .next t ∧ t.resp = some ⟨m.mid.val, stADDR, []⟩ ∧
      (t.rd SUMP_BUSERR_CNT.off).toNat = (s.rd SUMP_BUSERR_CNT.off).toNat + 1 ∧ t.flag SUMP_FEC0.VALID = true ∧
      (s.flag SUMP_FEC0.VALID = false → t.g SUMP_FEC0.MID = m.mid.val ∧ t.g SUMP_FEC0.KIND = 1 ∧ t.flag SUMP_FEC0.GUARD = false ∧
        t.rd64 SUMP_FEC1.off = 2 ^ 40 + off ∧ t.rd64 SUMP_FEC3.off = s.fns48) ∧
      (∀ e, ownEvent m.mid.val = some e → t.evPend e = true) ∧
      s.keepsRegs t [SUMP_BUSERR_CNT.off, SUMP_FEC0.off, SUMP_FEC1.off, SUMP_FEC2.off, SUMP_FEC3.off, SUMP_FEC4.off] ∧
      { t.bare with resp := s.resp } = s.bare

/-- R10, R38: HELD_ACCESS_COMPLETE performs the first held access once its domain is on: here a held write of a register that only stores.
Model's readings and choices: log entry 15. -/
def Obligations.HeldWriteCompletes : Prop :=
  ∀ (m : Master) (off : Nat) (val : Word) (s : State) (l : List Held) (r : RegRow), off ∈ plainRegs → regRow off = some r →
    ({ s with held := [] } : State).serves m off 2 → s.held = ⟨m, 1, off, .write (bytesLE 4 val.toNat), none⟩ :: l →
    ∃ t, exec .heldAccessComplete s = .next t ∧ t.toldOK m ∧ t.held = l ∧
      (∀ f ∈ r.fields, f.acc = .rw → ∀ i, f.lo ≤ i → i ≤ f.hi → (t.rd off).getLsbD i = val.getLsbD i) ∧
      s.sameRegs t [off] ∧ { t with regs := s.regs, resp := s.resp, held := s.held } = s

/-- R41, R42, R43. MULTIWORD_READ_LATCH of the lowest word of TIME_NOW returns it and latches the higher words for the reader;
MULTIWORD_STAGED_WRITE of a lower word is held in the writer's staging latch and changes no register; COUNTER_CLEAR with 0 clears a
counter, and with another value leaves it.
Model's readings and choices: log entries 13, 14, 142 and 143. -/
def Obligations.MultiwordAndCounters : Prop :=
  (∀ (m : Master) (s : State), s.serves m TIME_NOW_FRAC.off 1 →
    ∃ t, exec (.multiwordReadLatch m TIME_NOW_FRAC.off) s = .next t ∧
      t.resp = some ⟨m.mid.val, stOK, bytesLE 4 (s.clep.frac % 2 ^ 32)⟩ ∧
      mwGet t.latches m.mid.val TIME_NOW_NS.off = some (BitVec.ofNat 32 s.clep.ns) ∧
      mwGet t.latches m.mid.val TIME_NOW_SEC_LO.off = some (BitVec.ofNat 32 s.clep.sec) ∧
      mwGet t.latches m.mid.val TIME_NOW_SEC_HI.off = some (BitVec.ofNat 32 (s.clep.sec / 2 ^ 32 % 2 ^ 16)) ∧
      { t with latches := s.latches, resp := s.resp } = s) ∧
  (∀ (m : Master) (off : Nat) (val : Word) (s : State),
    off ∈ [TIME_INC_LO.off, TIME_EPOCH_LO.off, TIME_SLEW_INC.off, TIME_SET_NS.off, RING_APPLY_LO.off] → s.serves m off 2 →
    ∃ t, exec (.multiwordStagedWrite m off val) s = .next t ∧ t.toldOK m ∧ mwGet t.staging m.mid.val off = some val ∧
      { t with staging := s.staging, resp := s.resp } = s) ∧
  (∀ (m : Master) (off : Nat) (val : Word) (s : State), off ∈ someCounters → s.serves m off 1 →
    ∃ t, exec (.counterClear m off val) s = .next t ∧ t.toldOK m ∧ t.rd off = (if val = 0 then 0 else s.rd off) ∧
      s.sameRegs t [off] ∧ { t with regs := s.regs, resp := s.resp } = s)

/-- R17, R18, R20, R516: AVS_EVALUATE. While EN is 1 the setpoint rises 10 mV below TARGET, falls 5 mV once the margin has stayed
above LOWER (for 1,000 evaluations, log entry 3), and is held on the 5 mV grid within the effective floor and ceiling (a bound off the grid:
log entry 141); MARGIN, LOW, CAP and DEMAND show the evaluation; a margin below 1.00 is counted and raises its event. While EN is 0 nothing
changes.
Model's readings and choices: log entries 3 and 141. -/
def Obligations.AvsEvaluates : Prop :=
  (∀ (demand capacity : Nat) (s : State), s.flag PWR_AVS_CTRL.EN = true → s.resetReq = none →
    (s.rd PWR_AVS_LOWCNT.off).toNat + 1 < 0xFFFFFFFF →
    let target := max 0x50 (s.g PWR_AVS_CTRL.TARGET)
    let lower := max (s.g PWR_AVS_CTRL.LOWER) (target + 8)
    let run := if lower * demand < capacity * 64 then s.power.avsHigh + 1 else 0
    let ceil := match s.power.thermCeil with
      | some t => min (min (s.g PWR_AVS_LIMIT.CEIL) 900) t
      | none => min (s.g PWR_AVS_LIMIT.CEIL) 900
    let hold := fun v => min (max (v / 5 * 5) ((max (s.g PWR_AVS_LIMIT.FLOOR) 600 + 4) / 5 * 5)) (ceil / 5 * 5)
    let v := s.g PWR_AVS_STAT.VSET
    let w := if capacity * 64 < target * demand then hold (v + 10) else if 1000 ≤ run then hold (v - 5) else hold v
    ∃ t, exec (.avsEvaluate demand capacity) s = .next t ∧ t.g PWR_AVS_STAT.VSET = w ∧
      t.g PWR_AVS_STAT.MARGIN = (if demand = 0 then 0xFF else min 0xFF (capacity * 64 / demand)) ∧
      t.flag PWR_AVS_STAT.LOW = decide (capacity * 64 < target * demand) ∧
      t.g PWR_AVS_RATE.CAP = min 0xFFFF capacity ∧ t.g PWR_AVS_RATE.DEMAND = min 0xFFFF demand ∧
      t.power = { s.power with avsHigh := run, avsOpen := if w = v then none else some (v, s.power.avsFails),
                               avsFails := if w = v then s.power.avsFails else 0 } ∧
      (if capacity < demand then (t.rd PWR_AVS_LOWCNT.off).toNat = (s.rd PWR_AVS_LOWCNT.off).toNat + 1 ∧ t.evPend (evPwr 6) = true
        else s.sameRegs t [PWR_AVS_RATE.off, PWR_AVS_STAT.off]) ∧
      s.keepsRegs t [PWR_AVS_RATE.off, PWR_AVS_STAT.off, PWR_AVS_LOWCNT.off] ∧ { t.bare with power := s.power } = s.bare) ∧
  (∀ (demand capacity : Nat) (s : State), s.flag PWR_AVS_CTRL.EN = false → s.resetReq = none →
    ∃ t, exec (.avsEvaluate demand capacity) s = .next t ∧ t = s)

/-- R19, R516. AVS_TRANSACTION_FAIL takes the setpoint back to the last one that the regulator acknowledged, counts and raises its event, and at
the third failure in a row a Degraded fault. GOVERNOR_STEP moves the thermal ceiling by the highest reading of the main die, and the setpoint
below it.
Model's readings and choices: log entry 141. -/
def Obligations.AvsFailuresAndGovernor : Prop :=
  (∀ s : State, s.resetReq = none → (s.rd PWR_AVS_FAILCNT.off).toNat + 1 < 0xFFFFFFFF →
    (∀ e, s.power.avsOpen = some e → e.1 < 1024) →
    let n := match s.power.avsOpen with | some (_, k) => k + 1 | none => s.power.avsFails + 1
    ∃ t, exec .avsTransactionFail s = .next t ∧
      t.g PWR_AVS_STAT.VSET = (match s.power.avsOpen with | some (v, _) => v | none => s.g PWR_AVS_STAT.VSET) ∧
      (t.rd PWR_AVS_FAILCNT.off).toNat = (s.rd PWR_AVS_FAILCNT.off).toNat + 1 ∧ t.evPend (evPwr 3) = true ∧
      t.power = { s.power with avsFails := if n = 3 then 0 else n, avsOpen := none } ∧
      (n = 3 → t.evPend (evPwr 4) = true ∧ clDegraded ≤ t.evKept (evPwr 4)) ∧
      s.keepsRegs t [PWR_AVS_FAILCNT.off, PWR_AVS_STAT.off] ∧ { t.bare with power := s.power } = s.bare) ∧
  (∀ (tj : Int) (s : State), s.resetReq = none →
    let gov : Int := s.g TEL_THERM.GOV
    let ceil := match s.power.thermCeil with
      | none => if gov ≤ tj then some (max 700 (s.g PWR_AVS_STAT.VSET - 10)) else none
      | some c => if gov ≤ tj then some (max 700 (c - 10))
        else if tj ≤ gov - 5 then (if s.g PWR_AVS_LIMIT.CEIL ≤ c + 5 then none else some (c + 5)) else some c
    let v := s.g PWR_AVS_STAT.VSET
    let w := min v (match ceil with | some c => min (min (s.g PWR_AVS_LIMIT.CEIL) 900) c | none => min (s.g PWR_AVS_LIMIT.CEIL) 900)
    ∃ t, exec (.governorStep tj) s = .next t ∧
      t.power = { s.power with thermCeil := ceil, avsOpen := if w = v then none else some (v, s.power.avsFails),
                               avsFails := if w = v then s.power.avsFails else 0 } ∧
      t.g PWR_AVS_STAT.VSET = w ∧
      (s.power.thermCeil = none → ceil ≠ none → t.evPend (evTel 5) = true) ∧
      s.keepsRegs t [PWR_AVS_STAT.off] ∧ { t.bare with power := s.power } = s.bare)

/-! ### Points (ch. 2) -/

/-- R61, R67: POINT_READ of one record of a defined point whose read has no side effect, in a sound tile, returns its VALUE, STAMP, QUALITY and
TYPE; one too old is first marked STALE, or, where ONSTALE is 1, takes SAFE with SUBST.
Model's readings and choices: log entries 22 and 148. -/
def Obligations.PointReadReturnsTheRecord : Prop :=
  ∀ (m : Master) (i : Nat) (s : State), s.pointServed m i → (s.pt i).typ ≠ tyUndef → (s.pt i).typ ≠ tyReadsens → s.tileGood (i / 16) →
    ∃ t, exec (.pointRead m (16 * i) 16) s = .next t ∧
      t.pt i = (if s.pointOld i = false then s.pt i
        else if s.flag (PNT_PROF_CFG.ONSTALE.at (s.profOf i)) then
          ⟨BitVec.ofNat 64 (s.safeOf (s.profOf i)), s.fns48, qSubst, (s.pt i).typ⟩
        else { s.pt i with qual := qStale }) ∧
      t.resp = some ⟨m.mid.val, stOK, (t.pt i).bytes⟩ ∧
      (∀ j, j ≠ i → t.pt j = s.pt j) ∧
      (s.pointOld i = false → { t with resp := s.resp, pts := { t.pts with cache := s.pts.cache } } = s)

/-- R56, R58, R59, R62: POINT_WRITE of one VALUE to a LOCAL point by a master that its profile permits, its tile in the cache. VALUE is
stored, STAMP is fabric time, QUALITY is GOOD, the point is refreshed; no other point changes. No earlier write waits for the tile. -/
def Obligations.PointWriteStores : Prop :=
  ∀ (m : Master) (i : Nat) (v : BitVec 64) (s : State), s.pointServed m i → s.ownerKind i = okLocal → s.wrOk m i = true →
    (s.pt i).typ ≠ tyUndef → encOk (s.pt i).typ v.toNat = true → s.pts.cache.contains (i / 16) = true →
    (∀ w ∈ s.pts.waits, w.first / 16 ≠ i / 16) →
    ∃ t, exec (.pointWrite m (16 * i) (bytesLE 8 v.toNat)) s = .next t ∧ t.toldOK m ∧
      t.pt i = ⟨v, s.fns48, qGood, (s.pt i).typ⟩ ∧ SMap.get (fun _ => 0) t.pts.refresh i = s.us24 ∧ (∀ j, j ≠ i → t.pt j = s.pt j)

/-- R64: POINT_ATOMIC on a LOCAL point by a permitted master returns the old VALUE and stores the new one.
Model's readings and choices: log entries 18 and 146. -/
def Obligations.PointAtomicActs : Prop :=
  ∀ (m : Master) (i : Nat) (op : AtomicOp) (a b : BitVec 64) (s : State), s.pointServed m i → s.ownerKind i = okLocal →
    s.wrOk m i = true → (s.pt i).typ ≠ tyUndef → atomicAllows op (s.pt i).typ = true →
    let v := match op with
      | .add => (s.pt i).value + a
      | .or => (s.pt i).value ||| a
      | .and => (s.pt i).value &&& a
      | .cas => if (s.pt i).value = a then b else (s.pt i).value
    encOk (s.pt i).typ v.toNat = true → s.tileGood (i / 16) →
    ∃ t, exec (.pointAtomic m (16 * i) op a b) s = .next t ∧
      t.resp = some ⟨m.mid.val, stOK, bytesLE 8 (s.pt i).value.toNat⟩ ∧ t.pt i = ⟨v, s.fns48, qGood, (s.pt i).typ⟩ ∧
      (∀ j, j ≠ i → t.pt j = s.pt j)

/-- R68, R82, R84, R85. A confirmed mismatch found by PATROL_VISIT marks every defined point of the tile TILE and zeroes the others, leaves the
tile's CRC right again, and raises its event. PATROL_LATE, with PERIOD past a second time, sets PATROL_LATE and raises its event, once a pass.
TILE_CACHE_ENTRY brings a sound tile to the front of the cache, and a write of one VALUE that waited for it, judged OK as it came, is then stored.
Model's readings and choices: log entries 20, 21, 22 and 149. -/
def Obligations.TilesAndPatrol : Prop :=
  (∀ (tile : Fin 16384) (s : State), s.domOn 7 = true → s.flag PNT_PATROL.EN = true → s.pts.cache.contains tile.val = false →
    s.resetReq = none →
    ∃ t, exec (.patrolVisit tile true true) s = .next t ∧
      (∀ k, k < 16 → t.pt (16 * tile.val + k) =
        if (s.pt (16 * tile.val + k)).typ = tyUndef then ⟨0, 0, 0, 0⟩ else { s.pt (16 * tile.val + k) with qual := qTile }) ∧
      (∀ j, j / 16 ≠ tile.val → t.pt j = s.pt j) ∧ t.tileSound tile.val = true ∧
      t.evPend (if s.flag PNT_TILE_LAST.VALID && s.g PNT_TILE_LAST.TILE == tile.val then evPnt 3 else evPnt 2) = true ∧
      t.g PNT_TILE_LAST.TILE = tile.val) ∧
  (∀ s : State, s.domOn 7 = true → s.flag PNT_PATROL.EN = true → s.pts.patrolOver = false → s.resetReq = none →
    2 * (1000000 * (clampNat 100 4000 (s.g PNT_PATROL.PERIOD) : Int)) ≤ s.absNs - s.pts.patrolStart →
    ∃ t, exec .patrolLate s = .next t ∧ t.flag PNT_STAT.PATROL_LATE = true ∧ t.evPend (evPnt 4) = true ∧
      t.pts = { s.pts with patrolOver := true } ∧ s.keepsRegs t [PNT_STAT.off] ∧ { t.bare with pts := s.pts } = s.bare) ∧
  (∀ (tile : Fin 16384) (m : Master) (k : Fin 16) (v : BitVec 64) (s : State), s.domOn 7 = true → s.resetReq = none →
    s.tileGood tile.val →
    let i := 16 * tile.val + k.val
    s.pts.waits = [⟨m, i, bytesLE 8 v.toNat, [stOK], .store m⟩] → (s.pt i).typ ≠ tyUndef → encOk (s.pt i).typ v.toNat = true →
    ∃ t, exec (.tileCacheEntry tile false false) s = .next t ∧ t.pts.cache.head? = some tile.val ∧ t.pts.waits = [] ∧
      t.pt i = ⟨v, s.fns48, qGood, (s.pt i).typ⟩ ∧ t.toldOK m ∧ (∀ j, j ≠ i → t.pt j = s.pt j))

/-- R86, R87, R88. ATTR_DATA_WRITE gives the selected point a type and a profile, the type one that the profile's owner may hold: a new type makes
VALUE SAFE, STAMP fabric time and QUALITY SUBST, UNDEF clears the record, and with the type kept the record stays; a change to or from COMMAND,
TIMED or WINDOW of a defined point, or a profile of another owner kind, is refused with CFG, counted, and changes nothing. PROFILE_WRITE stores
the selected profile: its configuration, where its OWNER does not change or no defined point uses it; its FRESH; and SAFE once its high word is
written, the low word as staged.
Model's readings and choices: log entries 25 and 150. -/
def Obligations.PointTables : Prop :=
  (∀ (m : Master) (val : Word) (s : State), s.serves m PNT_ATTR_DATA.off 2 → (s.rd PNT_CFGERR_CNT.off).toNat + 1 < 0xFFFFFFFF →
    let i := s.g (PNT_ATTR_SEL.POINT.at m.mid.val)
    let typ := PNT_ATTR_DATA.TYPE.get val
    let prof := PNT_ATTR_DATA.PROF.get val
    let old := (s.pt i).typ
    let kind := s.g (PNT_PROF_CFG.OWNER.at prof)
    let tied := fun x => x = tyCommand ∨ x = tyTimed ∨ x = tyWindow
    let bad := if typ = tyUndef then tied old
      else typeAllows typ kind = false ∨ (old ≠ tyUndef ∧ ((typ ≠ old ∧ (tied old ∨ tied typ)) ∨ kind ≠ s.ownerKind i))
    s.tileGood (i / 16) →
    (¬ bad → ∃ t, exec (.attrDataWrite m val) s = .next t ∧ t.toldOK m ∧ t.profOf i = prof ∧
      t.pt i = (if typ = old then s.pt i else if typ = tyUndef then ⟨0, 0, 0, 0⟩
        else ⟨BitVec.ofNat 64 (s.safeOf prof), s.fns48, qSubst, typ⟩) ∧
      (∀ j, j ≠ i → t.pt j = s.pt j ∧ t.profOf j = s.profOf j)) ∧
    (bad → ∃ t, exec (.attrDataWrite m val) s = .next t ∧ t.toldCfg m ∧ t.pts = s.pts ∧
      (t.rd PNT_CFGERR_CNT.off).toNat = (s.rd PNT_CFGERR_CNT.off).toNat + 1 ∧ t.g PNT_STAT.LAST_ERR = stCFG)) ∧
  (∀ (m : Master) (val : Word) (s : State), s.serves m PNT_PROF_CFG.off 2 →
    let p := s.g (PNT_PROF_SEL.PROF.at m.mid.val)
    (PNT_PROF_CFG.OWNER.get val = s.g (PNT_PROF_CFG.OWNER.at p) ∨ ∀ e ∈ s.pts.recs, e.2.typ ≠ tyUndef → s.profOf e.1 ≠ p) →
    PNT_PROF_CFG.OWNER.get val < 6 →
    ∃ t, exec (.profileWrite m 0 val) s = .next t ∧ t.toldOK m ∧ t.g (PNT_PROF_CFG.OWNER.at p) = PNT_PROF_CFG.OWNER.get val ∧
      t.g (PNT_PROF_CFG.WR.at p) = PNT_PROF_CFG.WR.get val ∧ t.g (PNT_PROF_CFG.FLOW.at p) = PNT_PROF_CFG.FLOW.get val ∧
      t.g (PNT_PROF_CFG.RMT_RD.at p) = PNT_PROF_CFG.RMT_RD.get val ∧ t.g (PNT_PROF_CFG.RMT_WR.at p) = PNT_PROF_CFG.RMT_WR.get val ∧
      t.flag (PNT_PROF_CFG.ONSTALE.at p) = decide (PNT_PROF_CFG.ONSTALE.get val ≠ 0) ∧ s.sameRegs t [bankKey PNT_PROF_CFG.off p] ∧
      { t with regs := s.regs, resp := s.resp } = s) ∧
  (∀ (m : Master) (val : Word) (s : State), s.serves m PNT_PROF_FRESH.off 2 →
    let p := s.g (PNT_PROF_SEL.PROF.at m.mid.val)
    ∃ t, exec (.profileWrite m 1 val) s = .next t ∧ t.toldOK m ∧ t.g (PNT_PROF_FRESH.FRESH.at p) = PNT_PROF_FRESH.FRESH.get val ∧
      s.sameRegs t [bankKey PNT_PROF_FRESH.off p] ∧ { t with regs := s.regs, resp := s.resp } = s) ∧
  (∀ (m : Master) (lo hi : Word) (s : State), s.serves m PNT_PROF_SAFE_LO.off 2 → s.serves m PNT_PROF_SAFE_HI.off 2 →
    let p := s.g (PNT_PROF_SEL.PROF.at m.mid.val)
    ∃ t, exec (.profileWrite m 2 lo) s = .next t ∧ t.toldOK m ∧ t.safeOf p = s.safeOf p ∧
      { t with staging := s.staging, resp := s.resp } = s ∧
      ∃ u, exec (.profileWrite m 3 hi) t = .next u ∧ u.toldOK m ∧ u.safeOf p = lo.toNat + 2 ^ 32 * hi.toNat ∧
        s.sameRegs u [bankKey PNT_PROF_SAFE_LO.off p, bankKey PNT_PROF_SAFE_HI.off p])

/-- R72, R79, R80. WINDOW_READ puts the request of a valid window to its device; WINDOW_DEVICE_ANSWER ends the read in flight with the device's
bytes, or with DEVICE and the device's own code; WINDOW_TIMEOUT with TIMEOUT once TMO is past; WINDOW_REFRESH puts the read of a WINDOW point's
object to its window, once its refresh period is past.
Model's readings and choices: log entries 9, 27, 147 and 148. -/
def Obligations.Windows : Prop :=
  (∀ (m : Master) (w : Fin 256) (obj : BitVec 32) (len : Nat) (s : State), s.spaceGate m 4 (w.val * 2 ^ 32 + obj.toNat) = 0 →
    s.winForm (w.val * 2 ^ 32 + obj.toNat) len = stOK → s.winHead w.val = none → s.resetReq = none →
    ∃ t, exec (.windowRead m w obj len) s = .next t ∧
      t.winHead w.val = some ⟨w.val, obj.toNat, len, false, [], .reader (.master m), s.absNs + s.winTmo w.val⟩ ∧
      { t with pts := s.pts } = s) ∧
  (∀ (m : Master) (w : Fin 256) (ok : Bool) (data : List Byte) (obj len : Nat) (due : Int) (s : State), s.domOn 7 = true →
    s.resetReq = none → s.pts.reqs = [⟨w.val, obj, len, false, [], .reader (.master m), due⟩] →
    ∃ t, exec (.windowDeviceAnswer w ok data) s = .next t ∧
      t.resp = some (if ok then ⟨m.mid.val, stOK, slice data 0 len⟩ else ⟨m.mid.val, stDEVICE, bytesLE 8 (natLE (data.take 8))⟩) ∧
      t.pts.reqs = [] ∧ (ok = true → { t with pts := { t.pts with reqs := s.pts.reqs }, resp := s.resp } = s) ∧
      (ok = false → t.g PNT_STAT.LAST_ERR = stDEVICE)) ∧
  (∀ (m : Master) (w : Fin 256) (obj len : Nat) (due : Int) (s : State), s.domOn 7 = true → s.resetReq = none →
    s.pts.reqs = [⟨w.val, obj, len, false, [], .reader (.master m), due⟩] → due ≤ s.absNs →
    ∃ t, exec (.windowTimeout w) s = .next t ∧ t.resp = some ⟨m.mid.val, stTIMEOUT, []⟩ ∧ t.pts.reqs = [] ∧
      t.g PNT_STAT.LAST_ERR = stTIMEOUT) ∧
  (∀ (pt : Fin 262144) (b : WinBind) (s : State), s.domOn 7 = true → s.resetReq = none → (s.pt pt.val).typ ≠ tyUndef →
    s.ownerKind pt.val = okAgent → s.bindOf pt.val = some b → s.winForm (b.window * 2 ^ 32 + b.obj) b.size = stOK →
    s.pts.reqs = [] → (∀ a, SMap.get (fun _ => none) s.pts.refAt pt.val = some a → a + 1000 * (b.period : Int) ≤ s.absNs) →
    ∃ t, exec (.windowRefresh pt) s = .next t ∧
      t.winHead b.window = some ⟨b.window, b.obj, b.size, false, [], .refresh pt.val, s.absNs + s.winTmo b.window⟩ ∧
      SMap.get (fun _ => none) t.pts.refAt pt.val = some s.absNs ∧ { t with pts := s.pts } = s)
/-! ### Ring links (ch. 3) -/

/-- R96, R97: the 32 header bytes that a frame's fields make, decoded, give back every field. -/
def Obligations.HeaderRoundTrip : Prop :=
  ∀ f : Frame, f.ok = true → decHeader (encHeader f) = { f with payload := [] }

/-- R104, R106, R107, R97. PELUM_FRAME_RECEIVE of a good header of class 4 to 0 for this node at a port that is UP: the frame is being received, to
be extracted, and fills its arrival pool. FRAME_TRAILER_CHECK ends it: with a good trailer and a new frame it waits for admission to the
internal port, with a wrong one it is discarded and counted. EGRESS_FRAME_START sends the next copy of a free egress.
Model's readings and choices: log entries 151, 152, 154, 158 and 159. -/
def Obligations.FramesPassThePorts : Prop :=
  (∀ (p : Fin 4) (hdr : List Byte) (q : Fin 16) (s : State), s.resetReq = none → s.portRuns p.val = true → s.pst p.val = psUp →
    hdrBad hdr = false → (decHeader hdr).dst = s.node → (decHeader hdr).src ≠ s.node → (decHeader hdr).cls ≤ 4 →
    linkLocal (decHeader hdr).typ = false → (decHeader hdr).turns = 0 → (decHeader hdr).sec = false →
    s.flag (PORT_CFG.SEC p.val) = false →
    ∃ t, exec (.pelumFrameReceive p hdr q false) s = .next t ∧
      (t.port p.val).rx = some ⟨hdr, decHeader hdr, s.now4 q.val, true, none, false, some (poolOf (decHeader hdr).cls), false⟩ ∧
      (∀ j, j ≠ p.val → t.port j = s.port j) ∧ { t with links := { t.links with ports := s.links.ports } } = s) ∧
  (∀ (p : Fin 4) (payload : List Byte) (tile : Option (Fin 16384)) (r : RxSlot) (k : Nat) (s : State), s.resetReq = none → (s.port p.val).rx = some r →
    r.dead = false → s.sump.inj.contains (.trailer p) = false → r.extract = true → r.stored = none → r.passed = false → r.pool = some k → r.frame.sec = false →
    r.frame.work = true → r.frame.dst = s.node → r.frame.src ≠ s.node → r.frame.turns = 0 → linkLocal r.frame.typ = false →
    extractPort r.frame.typ = some 8 → payload.length = r.frame.len → s.cyc.staged = [] →
    ∃ t, exec (.frameTrailerCheck p payload [] (BitVec.ofNat 32 (crc32c (r.hdr ++ payload))) tile) s = .next t ∧
      (t.port p.val).rx = none ∧
      t.sw.waiting = s.sw.waiting ++
        [⟨p.val, r.frame.cls, [8], { r.frame with payload := payload }, false, 36 + r.frame.len, some k, r.tIn⟩] ∧
      t.rd64 (PORT_RX_FRAMES_LO.off p.val) = (s.rd64 (PORT_RX_FRAMES_LO.off p.val) + 1) % 2 ^ 64 ∧
      t.rd64 (PORT_RX_BYTES_LO.off p.val) = (s.rd64 (PORT_RX_BYTES_LO.off p.val) + (36 + payload.length)) % 2 ^ 64) ∧
  (∀ (p : Fin 4) (payload icv : List Byte) (trailer : Word) (tile : Option (Fin 16384)) (r : RxSlot) (s : State), s.resetReq = none → (s.port p.val).rx = some r →
    r.dead = false → s.sump.inj.contains (.trailer p) = false → r.stored = none → trailerKind (r.hdr ++ (payload ++ icv)) trailer = 2 → s.cyc.staged = [] →
    (s.rd (PORT_CRC_ERR.off p.val)).toNat + 1 < 0xFFFFFFFF →
    ∃ t, exec (.frameTrailerCheck p payload icv trailer tile) s = .next t ∧ (t.port p.val).rx = none ∧
      (t.port p.val).winErr = (s.port p.val).winErr + 1 ∧ t.sw.waiting = s.sw.waiting ∧
      (t.rd (PORT_CRC_ERR.off p.val)).toNat = (s.rd (PORT_CRC_ERR.off p.val)).toNat + 1) ∧
  (∀ (p : Fin 4) (sub : Fin 16) (e : QEnt) (f : SFrame) (s : State), s.resetReq = none → s.portRuns p.val = true →
    s.pst p.val = psUp → s.ringNext p.val = some e → s.sw.queues = [e] → s.sw.frames = [f] → f.id = e.id → f.cut = false →
    s.flag (PORT_CFG.SEC p.val) = false → (s.port p.val).busyTo ≤ s.absNs → s.noMirror →
    ∃ t, exec (.egressFrameStart p sub none) s = .next t ∧ t.sw.queues = [] ∧ t.sw.frames = [] ∧
      (t.port p.val).tx = some { s.depart e.hdr (decide (4 ≤ f.inPort)) f.tIn sub.val with sec := false, an := 0, pn := 0 } ∧
      t.rd64 (PORT_TX_FRAMES_LO.off p.val) = (s.rd64 (PORT_TX_FRAMES_LO.off p.val) + 1) % 2 ^ 64)

/-- R116, R117: SIGNAL_LOST, with no signal for 2 µs, PCS_LOCK_LOST, NEIGHBOUR_STOPPED and DEGRADED_SPAN_WINDOW at a port that is UP each declare
link loss with causes 1 to 4, and the port turns; the window does so when its errors, with the FEC codewords that stayed wrong, reach the
threshold it began with, else the port stays UP; the next window begins with DEG_THR.
Model's readings and choices: log entry 33. -/
def Obligations.LinkLoss : Prop :=
  ∀ (p : Fin 4) (s : State), s.resetReq = none → s.pst p.val = psUp → (s.port p.val).rx = none →
    (s.rd (PORT_LOSS_CNT.off p.val)).toNat + 1 < 0xFFFFFFFF →
    (s.ringSignal p.val = false → 2000 ≤ s.ringSignalAge p.val →
      ∃ t, exec (.signalLost p) s = .next t ∧ s.lost t p.val 1 ∧ t.flag (PORT_STAT.SD p.val) = false) ∧
    (∃ t, exec (.pcsLockLost p) s = .next t ∧ s.lost t p.val 2) ∧
    (∃ t, exec (.neighbourStopped p) s = .next t ∧ s.lost t p.val 3) ∧
    (∀ corr uncorr : Nat,
      let n := (s.port p.val).winErr + (if s.g (PORT_CFG.MODE p.val) = 3 ∧ s.flag (PORT_CFG.FEC p.val) = true then uncorr else 0)
      ∃ t, exec (.degradedSpanWindow p corr uncorr) s = .next t ∧ (t.port p.val).winErr = 0 ∧
        (t.port p.val).winThr = s.g (PORT_CFG.DEG_THR p.val) ∧
        (if (s.port p.val).winThr ≠ 0 ∧ (s.port p.val).winThr ≤ n then s.lost t p.val 4
          else t.pst p.val = psUp ∧ s.keepsRegs t [PORT_FEC_CORR.off p.val, PORT_FEC_UNCORR.off p.val]))

/-- R100, R121, R123. A link comes up: SIGNAL_DETECT takes a port from DOWN to TRAIN, PCS_LOCK_ACQUIRE to HELLO; HELLO_SEND offers this node's HELLO; an
accepted HELLO_RECEIVE records the neighbour and, with no security, begins the hold; HOLD_EXPIRE takes an unturned port to UP with fresh
credit once HOLD, doubled as R124 says, is past.
Model's readings and choices: log entries 30, 157 and 160. -/
def Obligations.LinkComesUp : Prop :=
  (∀ (p : Fin 4) (s : State), s.resetReq = none → s.portRuns p.val = true → s.pst p.val = psDown → s.ringSignal p.val = true →
    ∃ t, exec (.signalDetect p) s = .next t ∧ t.pst p.val = psTrain ∧ t.flag (PORT_STAT.SD p.val) = true ∧
      s.sameRegs t [PORT_STAT.off p.val] ∧ { t with regs := s.regs } = s) ∧
  (∀ (p : Fin 4) (s : State), s.resetReq = none → s.portRuns p.val = true → s.pst p.val = psTrain →
    ∃ t, exec (.pcsLockAcquire p) s = .next t ∧ t.pst p.val = psHello ∧ t.flag (PORT_STAT.LOCK p.val) = true ∧
      s.sameRegs t [PORT_STAT.off p.val] ∧ { t with regs := s.regs } = s) ∧
  (∀ (p : Fin 4) (s : State), s.resetReq = none → s.portRuns p.val = true → psHello ≤ s.pst p.val →
    ∃ t, exec (.helloSend p) s = .next t ∧ t.regs = s.regs ∧ ∃ w, t.sw.waiting = s.sw.waiting ++ [w] ∧ w.inPort = 8 ∧
      w.targets = [p.val] ∧ w.cls = 7 ∧ w.frame.typ = tyHello ∧ w.frame.payload = encHello (s.hello p.val) ++ (s.kaOf p.val).out) ∧
  (∀ (p : Fin 4) (f : Frame) (s : State), s.resetReq = none → s.portRuns p.val = true → s.pst p.val = psHello →
    (decHello f.payload).uid ≠ Config.uid.toNat → f.planeB = decide (2 ≤ p.val) → (decHello f.payload).port % 2 ≠ p.val % 2 →
    (decHello f.payload).sec = false → s.flag (PORT_CFG.SEC p.val) = false →
    ∃ t, exec (.helloReceive p f) s = .next t ∧ t.pst p.val = psHold ∧ t.g (PORT_STAT.CHK p.val) = 0 ∧
      t.flag (PORT_NBR.VALID p.val) = true ∧ t.g (PORT_NBR.NODE_ID p.val) = (decHello f.payload).node % 2 ^ 16 ∧
      (t.port p.val).nbr = some ⟨(decHello f.payload).node, (decHello f.payload).port, (decHello f.payload).turned, (decHello f.payload).uid⟩ ∧
      (t.port p.val).holdAt = some s.fns48 ∧ s.keepsRegs t [PORT_STAT.off p.val, PORT_NBR.off p.val]) ∧
  (∀ (p : Fin 4) (at_ : Nat) (nb : NbrHello) (s : State), s.resetReq = none → s.pst p.val = psHold → s.turned p.val = false →
    (s.port p.val).holdDone = false → (s.port p.val).holdAt = some at_ → (s.port p.val).nbr = some nb → nb.turned = false →
    ((min (s.holdMs p.val * 2 ^ (s.port p.val).hold) (max 10240 (s.holdMs p.val)) * 1000000 : Nat) : Int) ≤ sgn48 s.fns48 at_ →
    ∃ t, exec (.holdExpire p) s = .next t ∧ t.pst p.val = psUp ∧ t.turned p.val = false ∧ (t.port p.val).credH = 32 ∧
      (t.port p.val).credL = 224 ∧ t.evPend (evPort p.val 3) = true ∧ s.keepsRegs t [PORT_STAT.off p.val])

/-- R102, R118, R121. RING_STATE_WRAP_RECEIVE records the break and the turn; HEAL_READY_RECEIVE at the cycle master, from a node whose neighbour is not
turned, schedules the unwrap for the start of cycle C + 2; UNWRAP_RECEIVE makes one pending; UNWRAP_AT ends the turn of a port whose hold
has ended, and, as no other turn stands there, the wrap of its plane.
Model's readings and choices: log entries 31, 32, 153 and 156. -/
def Obligations.Healing : Prop :=
  (∀ (p : Fin 4) (f : Frame) (s : State), s.resetReq = none → s.sw.queues = [] → f.typ = tyRingState →
    (decRingState f.payload).kind = 1 →
    ∃ t, exec (.ringStateWrapReceive p f none) s = .next t ∧ t.flag (PORT_RING.WRAPPED (planeOf p.val)) = true ∧
      t.g (PORT_RING.BREAK_ID (planeOf p.val)) = (decRingState f.payload).node % 2 ^ 16 ∧
      t.epochOf (planeOf p.val) = (if newer (decRingState f.payload).epoch (s.epochOf (planeOf p.val)) then (decRingState f.payload).epoch % 256
        else s.epochOf (planeOf p.val)) ∧
      t.links.turns = s.links.turns.filter (fun x => !(x.plane == planeOf p.val && x.node == (decRingState f.payload).node &&
        x.port == (decRingState f.payload).port)) ++ [⟨planeOf p.val, (decRingState f.payload).node, (decRingState f.payload).port, false⟩] ∧
      s.keepsRegs t [PORT_RING.off (planeOf p.val)] ∧ { t.bare with links := s.bare.links } = s.bare) ∧
  (∀ (p : Fin 4) (f : Frame) (s : State), s.resetReq = none → s.sw.queues = [] → f.typ = tyRingState → s.isMaster = true →
    (decRingState f.payload).kind = 2 → (decRingState f.payload).node ≠ s.node → (decRingState f.payload).nbrTurned = false →
    newer (decRingState f.payload).epoch (s.epochOf (planeOf p.val)) = false →
    ∃ t, exec (.healReadyReceive p f none) s = .next t ∧ t.flag (PORT_RING.UNWRAP_PEND (planeOf p.val)) = true ∧
      t.links.unwraps = s.links.unwraps ++ [⟨planeOf p.val, (s.epochOf (planeOf p.val) + 1) % 256,
        (s.cycleNow + 2) * s.periodNs % 2 ^ 48, true, (s.node, 0)⟩] ∧
      t.sw.waiting.length = s.sw.waiting.length + 2) ∧
  (∀ (p : Fin 4) (f : Frame) (s : State), s.resetReq = none → s.sw.queues = [] → f.typ = tyRingState →
    (decRingState f.payload).kind = 3 → (decRingState f.payload).node ≠ s.node → (decRingState f.payload).cycle ≠ 0 →
    s.links.unwraps = [] →
    ∃ t, exec (.unwrapReceive p f none) s = .next t ∧ t.flag (PORT_RING.UNWRAP_PEND (planeOf p.val)) = true ∧
      t.links.unwraps = [⟨planeOf p.val, (decRingState f.payload).epoch, (decRingState f.payload).at_, true,
        ((decRingState f.payload).node, (decRingState f.payload).port)⟩] ∧
      s.sameRegs t [PORT_RING.off (planeOf p.val)]) ∧
  (∀ (plane : Fin 2) (u : Unwrap) (s : State), s.resetReq = none → s.links.unwraps = [u] → u.plane = plane.val → u.byMaster = true →
    u.epoch < 256 → s.come u.at_ = true → newer (s.epochOf plane.val) u.epoch = false → s.turned (2 * plane.val) = true →
    s.pst (2 * plane.val) = psHold → (s.port (2 * plane.val)).holdDone = true → s.turned (2 * plane.val + 1) = false →
    (∀ x ∈ s.links.turns, x.plane = plane.val → x.node = s.node ∧ x.port = 2 * plane.val) →
    ∃ t, exec (.unwrapAt plane) s = .next t ∧ t.pst (2 * plane.val) = psUp ∧ t.turned (2 * plane.val) = false ∧
      t.links.unwraps = [] ∧ t.flag (PORT_RING.UNWRAP_PEND plane.val) = false ∧ t.flag (PORT_RING.WRAPPED plane.val) = false ∧
      t.epochOf plane.val = u.epoch ∧ t.evPend (evPort (2 * plane.val) 7) = true)

/-- R101, R110, R115, R125, R128, R213. The span delay exchange: LDLY_REQ_SEND offers the next request, LDLY_REQ_RECEIVE its answer with T2, and
LDLY_RSP_RECEIVE stores the delay. HEARTBEAT_SEND and CREDIT_SET_SEND send their ordered sets in the form of the port's mode, the credit set twice; CREDIT_SET_RECEIVE adopts
the counts of the second of two identical sets, and keeps a set that differs from the last. PORT_MODE_WRITE of a port that is DOWN stores the mode and, with signal present, begins training;
BYPASS_INSERT_WRITE of 1 drives BYP_N high while its domains are on, and of 0 low. -/
def Obligations.SpanDelayAndCredit : Prop :=
  (∀ (p : Fin 4) (s : State), s.resetReq = none → s.portRuns p.val = true → s.pst p.val = psUp → s.ldlyDue p.val = true →
    ∃ t, exec (.ldlyReqSend p) s = .next t ∧ (t.port p.val).reqId = ((s.port p.val).reqId + 1) % 2 ^ 32 ∧
      (t.port p.val).reqT1 = none ∧ (t.port p.val).ldlyAt = some s.absNs ∧ t.regs = s.regs ∧ ∃ w, t.sw.waiting = s.sw.waiting ++ [w] ∧ w.targets = [p.val] ∧
      w.frame.typ = tyLdlyReq ∧ w.frame.payload = encLdly (((s.port p.val).reqId + 1) % 2 ^ 32) 0 0) ∧
  (∀ (p : Fin 4) (f : Frame) (q : Fin 16) (s : State), s.resetReq = none → s.portRuns p.val = true → psHello ≤ s.pst p.val →
    ∃ t, exec (.ldlyReqReceive p f q) s = .next t ∧ t.regs = s.regs ∧ ∃ w, t.sw.waiting = s.sw.waiting ++ [w] ∧ w.targets = [p.val] ∧
      w.frame.typ = tyLdlyRsp ∧
      w.frame.payload = encLdly (beAt f.payload 0 4) (wrapInt 64 (s.fns * 65536 + (q.val * 16384 : Nat))) 0) ∧
  (∀ (p : Fin 4) (f : Frame) (q : Fin 16) (t1 : Nat) (s : State), s.resetReq = none → (s.port p.val).reqT1 = some t1 →
    beAt f.payload 0 4 = (s.port p.val).reqId →
    ∃ t, exec (.ldlyRspReceive p f q) s = .next t ∧
      (t.rd (PORT_LDLY.off p.val)).toNat =
        wrapInt 32 (spanDelay t1 (s.now4 q.val) (beAt f.payload 4 8) (beAt f.payload 12 8)) ∧
      s.sameRegs t [PORT_LDLY.off p.val] ∧ { t with regs := s.regs } = s) ∧
  (∀ (p : Fin 4) (s : State), s.resetReq = none → s.portRuns p.val = true → s.pst p.val = psUp →
    (1000 ≤ s.absNs - (s.port p.val).busyTo → ∃ t, exec (.heartbeatSend p) s = .next t ∧
      (t.port p.val).line = (if s.g (PORT_CFG.MODE p.val) = 1 then [.code true 0xBC, .code false 0x46] else [.control 0x4B [0, 0, 0, 0xA]]) ∧
      { t with links := { t.links with ports := s.links.ports } } = s) ∧
    ((s.port p.val).busyTo ≤ s.absNs → ∃ t, exec (.creditSetSend p) s = .next t ∧
      (let h : Byte := BitVec.ofNat 8 (s.port p.val).freedH
       let l : Byte := BitVec.ofNat 8 (s.port p.val).freedL
       let set : List LineUnit := if s.g (PORT_CFG.MODE p.val) = 1 then [.code true 0xBC, .code false 0x47, .code false h, .code false l]
         else [.control 0x4B [h, l, 0, 0xB]]
       (t.port p.val).line = set ++ set) ∧ (t.port p.val).freedSent = some ((s.port p.val).freedH, (s.port p.val).freedL) ∧
      { t with links := { t.links with ports := s.links.ports } } = s) ∧
    (∀ h l : Fin 256, (s.port p.val).rxSet = some (h.val, l.val) →
      ∃ t, exec (.creditSetReceive p h l) s = .next t ∧
        (t.port p.val).credH = (s.port p.val).credH + (h.val + 256 - (s.port p.val).nbrFreedH) % 256 ∧
        (t.port p.val).credL = (s.port p.val).credL + (l.val + 256 - (s.port p.val).nbrFreedL) % 256 ∧
        (t.port p.val).nbrFreedH = h.val ∧ (t.port p.val).nbrFreedL = l.val ∧
        { t with links := { t.links with ports := s.links.ports } } = s) ∧
    (∀ h l : Fin 256, (s.port p.val).rxSet ≠ some (h.val, l.val) →
      ∃ t, exec (.creditSetReceive p h l) s = .next t ∧ t.port p.val = { s.port p.val with rxSet := some (h.val, l.val) } ∧
        { t with links := { t.links with ports := s.links.ports } } = s)) ∧
  (∀ (m : Master) (p : Fin 4) (val : Word) (s : State), s.serves m (PORT_CFG.off p.val) 2 → s.pst p.val = psDown →
    (s.port p.val).rx = none → s.ringSignal p.val = true → s.g (PORT_CFG.MODE p.val) = 0 → (PORT_CFG.MODE p.val).get val ≠ 0 →
    s.storedWord m (PORT_CFG.off p.val) = s.rd (PORT_CFG.off p.val) →
    ∃ t, exec (.portModeWrite m p val) s = .next t ∧ t.toldOK m ∧ t.g (PORT_CFG.MODE p.val) = (PORT_CFG.MODE p.val).get val ∧
      t.pst p.val = psTrain ∧ s.sameRegs t [PORT_CFG.off p.val, PORT_STAT.off p.val]) ∧
  (∀ (m : Master) (s : State), s.serves m PORT_BYP.off 2 → s.domOn 3 = true → s.domOn 5 = true →
    ∃ t, exec (.bypassInsertWrite m (PORT_BYP.INSERT.put 0 1)) s = .next t ∧ t.toldOK m ∧ t.flag PORT_BYP.INSERT = true ∧
      t.flag PORT_BYP.PIN = true ∧ s.sameRegs t [PORT_BYP.off]) ∧
  (∀ (m : Master) (s : State), s.serves m PORT_BYP.off 2 →
    ∃ t, exec (.bypassInsertWrite m 0) s = .next t ∧ t.toldOK m ∧ t.flag PORT_BYP.INSERT = false ∧ t.flag PORT_BYP.PIN = false ∧
      s.sameRegs t [PORT_BYP.off])

/-! ### The ring cycle (ch. 4) -/

/-- R131, R305, R149, R150. CYCLE_START begins the cycle that holds the present: its number is shown, its sets are empty, and the zone
programs' times return to 0. A node that a hand-off or take-over names for that cycle becomes the master and launches. In a cycle that has
begun it does nothing. SYNC_WINDOW_OPEN (R269) at a master with SYNC_EN offers, once in a cycle, one SYNC frame for each ring port, all in UP.
Model's readings and choices: log entry 35. -/
def Obligations.CyclesBegin : Prop :=
  (∀ s : State, s.resetReq = none → s.cycleBegan ≠ s.cyc.began → (∀ a, s.cyc.pend = some a → s.past a.at_ = false) →
    ∃ t, exec .cycleStart s = .next t ∧ t.cyc.num = s.cycleNow ∧ t.cyc.began = s.cycleBegan ∧
      t.rd RING_CYCLE.off = BitVec.ofNat 32 s.cycleNow ∧
      t.cyc.closed = false ∧ t.cyc.got0 = false ∧ t.cyc.accMin = none ∧ t.cyc.taken = [] ∧ t.cyc.gotE = [] ∧ t.cyc.gotW = [] ∧
      t.cyc.launchAt = none ∧ t.cyc.synced = false ∧ t.fh = { s.fh with zoneAcc := [], zoneAt := s.cycleBegan, zoneOver := [] } ∧
      t.flow = s.flow ∧ t.jets = s.jets ∧ t.feeds = s.feeds) ∧
  (∀ (fl : Nat) (s : State), s.resetReq = none → s.cycleBegan ≠ s.cyc.began → (∀ a, s.cyc.pend = some a → s.past a.at_ = false) →
    s.cyc.special = some fl → s.ringEn = true →
    ∃ t, exec .cycleStart s = .next t ∧ t.curM = s.node ∧ t.cyc.launching = true ∧ t.cyc.hdrFlags = fl ∧ t.cyc.hdrBackup = 0xFFFF ∧
      t.cyc.special = none ∧ t.g RING_STAT.ROLE = roMaster ∧ t.flag DEV_NODE.MASTER = true) ∧
  (∀ s : State, s.resetReq = none → s.cycleBegan = s.cyc.began → (∀ a, s.cyc.pend = some a → s.past a.at_ = false) →
    ∃ t, exec .cycleStart s = .next t ∧ t = s) ∧
  (∀ s : State, s.resetReq = none → s.g RING_STAT.ROLE = roMaster → s.flag TIME_CFG.SYNC_EN = true → s.inWin 0 s.winS = true →
    s.cyc.synced = false → (∀ p ∈ s.ringPorts, s.pst p = psUp) →
    ∃ t, exec .syncWindowOpen s = .next t ∧ t.sw.waiting.length = s.sw.waiting.length + s.ringPorts.length ∧
      (∀ p ∈ s.ringPorts, ∃ w ∈ t.sw.waiting, w.targets = [p] ∧ w.frame.typ = tySync ∧ w.frame.cls = 7 ∧ w.frame.dst = 0xFFFF) ∧
      { t with sw := { t.sw with waiting := s.sw.waiting }, cyc := { t.cyc with synced := false } } = s ∧ t.cyc.synced = true)

/-- R137, R138, R140, R147. SUMMATION_LAUNCH in the cyclic window offers FRAMES frames out of PA_E and as many out of PA_W, each with the
summation header and zeros (where the node has no slot). A passing INDEX 0 frame of this cycle, from a train with the node's K and
MAP_ID, whose MASTER is no higher than the current one, is accepted and makes that node the master; a frame with another K is
neither, raises its fault, and is counted as late where its CYCLE differs too.
Model's readings and choices: log entry 37. -/
def Obligations.SummationTrain : Prop :=
  (∀ s : State, s.resetReq = none → s.ringEn = true → s.cyc.launching = true → s.cyc.launchAt = none →
    s.inWin s.winS (s.winS + s.winC) = true → s.flag RING_SLOT.VALID = false →
    ∃ t, exec .summationLaunch s = .next t ∧
      t.cyc = { s.cyc with launchAt := some s.fns, stopNext := s.cyc.hdrFlags == flHandoff, hdrFlags := 0 } ∧ t.flag RING_STAT.HANDOFF = false ∧
      t.sw.waiting.length = s.sw.waiting.length + 2 * s.g RING_SUM.FRAMES ∧
      (∀ i, i < s.g RING_SUM.FRAMES → ∀ p, p < 2 → ∃ w ∈ t.sw.waiting, w.targets = [p] ∧ w.frame.typ = tySummation ∧
        w.frame.seq = s.cyc.num % 2 ^ 22 * 1024 + i ∧ w.frame.payload =
          sumHead (s.cyc.num % 2 ^ 32) s.node s.cyc.hdrBackup i (s.g RING_SUM.FRAMES) (s.g RING_ACT_CYC.K) s.cyc.hdrFlags
            (s.g RING_MAP.MAP_ID) ++ List.replicate (s.g RING_SUM.LEN - 32) 0) ∧
      s.sameRegs t [RING_STAT.off] ∧ t.pts = s.pts) ∧
  (∀ (p : Fin 4) (f : Frame) (s : State), s.resetReq = none → s.ringEn = true → f.typ = tySummation → f.planeB = false →
    beAt f.payload 16 1 % 16 = s.g RING_ACT_CYC.K → beAt f.payload 20 4 = s.g RING_MAP.MAP_ID →
    beAt f.payload 0 4 = s.cyc.num % 2 ^ 32 → beAt f.payload 12 2 % 1024 = 0 → s.cyc.accMin = none →
    beAt f.payload 4 2 ≤ s.curM → beAt f.payload 4 2 ≠ s.node →
    ∃ t, exec (.summationFramePass p f) s = .next t ∧ t.curM = beAt f.payload 4 2 ∧ t.curB = beAt f.payload 6 2 ∧
      t.cyc.accMin = some (beAt f.payload 4 2) ∧ t.cyc.got0 = true ∧ t.cyc.noMaster = 0 ∧
      (beAt f.payload 4 2 ≠ s.curM → t.evPend (evRing 2) = true) ∧ t.flow = s.flow ∧ t.fh = s.fh) ∧
  (∀ (p : Fin 4) (f : Frame) (s : State), s.resetReq = none → s.ringEn = true → f.typ = tySummation → f.planeB = false →
    beAt f.payload 16 1 % 16 ≠ s.g RING_ACT_CYC.K → s.cyc.errDone = false → (s.rd RING_LATE_CNT.off).toNat + 1 < 0xFFFFFFFF →
    ∃ t, exec (.summationFramePass p f) s = .next t ∧ t.flag RING_STAT.K_ERR = true ∧ t.curM = s.curM ∧ t.evPend (evRing 3) = true ∧
      clDegraded ≤ t.evKept (evRing 3) ∧ t.cyc = { s.cyc with errDone := true } ∧
      (t.rd RING_LATE_CNT.off).toNat = (s.rd RING_LATE_CNT.off).toNat + (if beAt f.payload 0 4 = s.cyc.num % 2 ^ 32 then 0 else 1) ∧
      s.keepsRegs t [RING_STAT.off, RING_LATE_CNT.off] ∧ t.pts = s.pts)

/-- R143, R149, R150, R151. CYCLIC_WINDOW_CLOSE closes the window, once a cycle: a valid subscription without a copy is a counted miss with its event,
and the backup that has not received the whole train of its master takes over from the next cycle. JOIN_TIMEOUT after JOIN cycles without an
INDEX 0 frame leaves no master and no backup, and an eligible node launches as candidate.
Model's readings and choices: log entry 35. -/
def Obligations.WindowsCloseAndMasters : Prop :=
  (∀ s : State, s.resetReq = none → s.ringEn = true → s.cyc.closed = false → s.winS + s.winC ≤ s.cycOff →
    (s.rd RING_MISS_CNT.off).toNat + 1 < 0xFFFFFFFF →
    let missed := (s.listedBank RING_SUB_NODE.off).any (fun e => RING_SUB_NODE.VALID.get e.2 == 1 && !s.cyc.taken.contains e.1)
    ∃ t, exec .cyclicWindowClose s = .next t ∧ t.cyc.closed = true ∧
      (t.rd RING_MISS_CNT.off).toNat = (s.rd RING_MISS_CNT.off).toNat + (if missed then 1 else 0) ∧
      (missed = true → t.evPend (evRing 5) = true) ∧ t.cyc.noMaster = (if s.cyc.got0 then 0 else s.cyc.noMaster + 1) ∧
      s.keepsRegs t [RING_MISS_CNT.off, RING_STAT.off, DEV_NODE.off] ∧ t.pts = s.pts ∧ t.curM = s.curM) ∧
  (∀ s : State, s.resetReq = none → s.ringEn = true → s.cyc.closed = false → s.winS + s.winC ≤ s.cycOff → s.curB = s.node →
    s.curM ≠ s.node → s.curM ≠ noNode → s.cyc.launching = false → s.eligible = true →
    (s.cyc.frames = 0 ∨ s.cyc.gotE.length < s.cyc.frames ∧ s.cyc.gotW.length < s.cyc.frames) →
    ∃ t, exec .cyclicWindowClose s = .next t ∧ t.cyc.special = some flTakeover ∧ t.flag RING_STAT.TAKEOVER = true ∧
      t.evPend (evRing 7) = true) ∧
  (∀ s : State, s.resetReq = none → s.cyc.closed = true → ∃ t, exec .cyclicWindowClose s = .next t ∧ t = s) ∧
  (∀ s : State, s.resetReq = none → s.ringEn = true → s.joinN ≤ s.cyc.noMaster → s.cyc.special = none → s.cyc.launching = false →
    ∃ t, exec .joinTimeout s = .next t ∧ t.curM = noNode ∧ t.curB = noNode ∧ (s.curM ≠ noNode → t.evPend (evRing 2) = true) ∧
      (s.curM = noNode → t.cyc.launching = s.eligible) ∧ (t.cyc.launching = true → t.cyc.cand = true ∧ t.cyc.hdrBackup = noNode) ∧
      t.pts = s.pts ∧ t.flow = s.flow)

/-- R135, R151, R156. RING_CFG_WRITE stores RING_CFG; with EN 0 the role is OFF and nothing is launched, and as EN becomes 1 SLOT_ERR is judged. RING_APPLY_WRITE of an admissible instant
captures the staged set, and CYCLE_APPLY_AT makes it the active one at that instant, with its event. SUBSCRIPTION_WRITE of a valid entry
for another node whose points are RING points is stored, and of a publication range that the slot holds.
Model's readings and choices: log entry 36. -/
def Obligations.RingRegisters : Prop :=
  (∀ (m : Master) (val : Word) (s : State), s.serves m RING_CFG.off 2 →
    ∃ t, exec (.ringCfgWrite m val) s = .next t ∧ t.toldOK m ∧ t.g RING_CFG.EN = RING_CFG.EN.get val ∧
      t.g RING_CFG.JOIN = RING_CFG.JOIN.get val ∧ t.g RING_CFG.ELIG = RING_CFG.ELIG.get val ∧
      (RING_CFG.EN.get val = 0 → t.g RING_STAT.ROLE = roOff ∧ t.flag RING_STAT.HANDOFF = false ∧ t.cyc = { s.cyc with
        launching := false, cand := false, beaten := false, special := none, stopNext := false, staged := [] }) ∧
      (RING_CFG.EN.get val = 1 → s.ringEn = false → t.flag RING_STAT.SLOT_ERR = s.slotOut ∧ t.cyc = { s.cyc with noMaster := 0 }) ∧
      s.sameRegs t [RING_CFG.off, RING_STAT.off, DEV_NODE.off] ∧ { t with regs := s.regs, cyc := s.cyc, resp := s.resp } = s) ∧
  (∀ (m : Master) (lo hi : Word) (s : State), s.serves m RING_APPLY_HI.off 2 → mwGet s.staging m.mid.val RING_APPLY_LO.off = some lo →
    s.g RING_NEXT_CYC.K ≤ 11 → 8 ≤ s.g RING_NEXT_S.LEN →
    let pnew := 31250 * 2 ^ s.g RING_NEXT_CYC.K
    (s.g RING_NEXT_S.LEN + s.g RING_NEXT_C.LEN + s.g RING_NEXT_W.LEN + s.g RING_NEXT_T.LEN) * 125 ≤ pnew →
    1 ≤ s.g RING_NEXT_G.LEN → s.g RING_NEXT_G.LEN ≤ s.g RING_NEXT_C.LEN + s.g RING_NEXT_W.LEN →
    let d := sgn48 (lo.toNat + 2 ^ 32 * (hi.toNat % 2 ^ 16)) s.fns48
    (s.fns + d) % (max pnew s.periodNs : Nat) = 0 → 2 * ((max pnew s.periodNs : Nat) : Int) ≤ d →
    ∃ t, exec (.ringApplyWrite m hi) s = .next t ∧ t.toldOK m ∧ t.flag RING_STAT.APPLY_PEND = true ∧
      t.cyc.pend = some ⟨s.g RING_NEXT_CYC.K, s.g RING_NEXT_S.LEN, s.g RING_NEXT_C.LEN, s.g RING_NEXT_W.LEN, s.g RING_NEXT_T.LEN,
        s.g RING_NEXT_G.LEN, s.fns + d⟩ ∧ s.sameRegs t [RING_APPLY_LO.off, RING_APPLY_HI.off, RING_STAT.off]) ∧
  (∀ (a : ApplySet) (s : State), s.resetReq = none → s.cyc.pend = some a → a.at_ ≤ s.fns → a.k < 16 → a.sw < 65536 →
    a.cw < 65536 → a.ww < 65536 → a.tw < 65536 → a.g < 65536 →
    ∃ t, exec .cycleApplyAt s = .next t ∧ t.g RING_ACT_CYC.K = a.k ∧ t.g RING_ACT_S.LEN = a.sw ∧ t.g RING_ACT_C.LEN = a.cw ∧
      t.g RING_ACT_W.LEN = a.ww ∧ t.g RING_ACT_T.LEN = a.tw ∧ t.g RING_ACT_G.LEN = a.g ∧
      t.flag RING_STAT.APPLY_PEND = false ∧ t.cyc = { s.cyc with pend := none } ∧ t.evPend (evRing 8) = true ∧
      s.keepsRegs t [RING_ACT_CYC.off, RING_ACT_S.off, RING_ACT_C.off, RING_ACT_W.off, RING_ACT_T.off, RING_ACT_G.off, RING_STAT.off]) ∧
  (∀ (m : Master) (node slot dst : Word) (s : State), s.serves m RING_SUB_DST.off 2 →
    mwGet s.staging m.mid.val RING_SUB_NODE.off = some node → mwGet s.staging m.mid.val RING_SUB_SLOT.off = some slot →
    let e := s.g (RING_SUB_SEL.ENTRY.at m.mid.val)
    RING_SUB_NODE.NODE.get node ≠ s.node → s.subSum e + RING_SUB_DST.COUNT.get dst ≤ 4096 →
    (∀ j, j < RING_SUB_DST.COUNT.get dst → s.ownerKind (RING_SUB_DST.POINT.get dst + j) = okRing) →
    ∃ t, exec (.subscriptionWrite m 1 dst) s = .next t ∧ t.toldOK m ∧
      t.g (RING_SUB_NODE.NODE.at e) = RING_SUB_NODE.NODE.get node ∧ t.g (RING_SUB_NODE.VALID.at e) = RING_SUB_NODE.VALID.get node ∧
      t.g (RING_SUB_SLOT.FRAME.at e) = RING_SUB_SLOT.FRAME.get slot ∧ t.g (RING_SUB_SLOT.OFFSET.at e) = RING_SUB_SLOT.OFFSET.get slot ∧
      t.g (RING_SUB_SLOT.FIRST.at e) = RING_SUB_SLOT.FIRST.get slot ∧ t.g (RING_SUB_DST.POINT.at e) = RING_SUB_DST.POINT.get dst ∧
      t.g (RING_SUB_DST.COUNT.at e) = RING_SUB_DST.COUNT.get dst ∧
      s.sameRegs t [bankKey RING_SUB_NODE.off e, bankKey RING_SUB_SLOT.off e, bankKey RING_SUB_DST.off e]) ∧
  (∀ (m : Master) (val : Word) (s : State), s.serves m RING_PUB_CFG.off 2 →
    let e := s.g (RING_PUB_SEL.RANGE.at m.mid.val)
    s.pubSum e val ≤ s.g RING_SLOT.LEN →
    ∃ t, exec (.subscriptionWrite m 0 val) s = .next t ∧ t.toldOK m ∧ t.g (RING_PUB_CFG.FIRST.at e) = RING_PUB_CFG.FIRST.get val ∧
      t.g (RING_PUB_CFG.COUNT.at e) = RING_PUB_CFG.COUNT.get val ∧ t.g (RING_PUB_CFG.VALID.at e) = RING_PUB_CFG.VALID.get val ∧
      s.sameRegs t [bankKey RING_PUB_CFG.off e] ∧ { t with regs := s.regs, resp := s.resp } = s)

/-! ### Exactly-once delivery (ch. 5) -/

/-- R163, R164, R166 to R169. WORK_SUBMIT of a well-formed item on a valid flow with room and budget journals it at the flow's NEXT in the open
group, and SUBMIT_UNBLOCK does so with the first back-pressured one; GROUP_CLOSE at its time makes the open group the committing one, or the
last of those that wait to commit;
COMMIT_INTERVAL_WRITE moves the open group's close to the earlier of its instant and its first line plus the new interval.
Model's readings and choices: log entries 27, 38, 47 and 167. -/
def Obligations.WorkIsJournaled : Prop :=
  (∀ (m : Master) (flow : Fin 1024) (op : Fin 256) (addr : BitVec 64) (data : List Byte) (seg : Fin 4) (s : State),
    s.resetReq = none → s.flowRuns = true → s.flow.leaving = [] → s.flow.subs = [] → s.flow.arrWait = false → s.flow.opened = none →
    s.headClear 0 →
    let it : Item := { newItem flow.val op.val addr.toNat data m.mid.val
      (if 2 ≤ op.val ∧ op.val ≤ 6 then .atomic m else .store m) with seg := seg.val }
    workForm op.val (adSpace addr.toNat) (adOff addr.toNat) data.length (decide (0xFF00 ≤ adNode addr.toNat)) = stOK →
    s.submitCheck it = stOK → s.flowFull flow.val = false → 4000 * accLines data.length ≤ s.budNow →
    ∃ t, exec (.workSubmit m flow op addr data seg) s = .next t ∧
      t.flow.opened = some ⟨[.acc { it with seq := (s.fl flow.val).next, inc := (s.fl flow.val).inc } true], accLines data.length,
        s.absNs, s.absNs + s.commitNs⟩ ∧
      t.fl flow.val = { s.fl flow.val with next := ((s.fl flow.val).next + 1) % 2 ^ 32 } ∧ (∀ g, g ≠ flow.val → t.fl g = s.fl g) ∧
      t.flow.out = s.flow.out ∧ { t with flow := s.flow } = s) ∧
  (∀ (f : Fin 1024) (it : Item) (bp : Bool) (s : State), s.resetReq = none → s.flowRuns = true → s.flow.leaving = [] →
    s.flow.subs = [(it, bp)] → it.flow = f.val → it.data.length ≤ 256 → s.flow.arrWait = false → s.flow.opened = none → s.headClear 0 →
    s.flowFull f.val = false → 4000 * accLines it.data.length ≤ s.budNow →
    ∃ t, exec (.submitUnblock f) s = .next t ∧ t.flow.subs = [] ∧
      t.flow.opened = some ⟨[.acc { it with seq := (s.fl f.val).next, inc := (s.fl f.val).inc } true], accLines it.data.length,
        s.absNs, s.absNs + s.commitNs⟩ ∧
      (t.fl f.val).next = ((s.fl f.val).next + 1) % 2 ^ 32 ∧ { t with flow := s.flow } = s) ∧
  (∀ (g : JGroup) (s : State), s.resetReq = none → s.flow.opened = some g → g.closeAt ≤ s.absNs → s.headClear 0 →
    ∃ t, exec .groupClose s = .next t ∧ { t with flow := s.flow } = s ∧
      t.flow = if s.flow.commit = none ∧ s.flow.closed = [] then { s.flow with opened := none, commit := some g }
        else { s.flow with opened := none, closed := s.flow.closed ++ [g] }) ∧
  (∀ (m : Master) (val : Word) (s : State), s.serves m FLOW_CTRL.off 2 →
    ∃ t, exec (.commitIntervalWrite m val) s = .next t ∧ t.toldOK m ∧ t.g FLOW_CTRL.COMMIT = FLOW_CTRL.COMMIT.get val ∧
      t.flow = { s.flow with opened := s.flow.opened.map (fun g => { g with
        closeAt := min g.closeAt (g.first + 1000 * (clampNat 5 100 (FLOW_CTRL.COMMIT.get val) : Nat)) }) } ∧
      s.sameRegs t [FLOW_CTRL.off])

/-- R165, R171, R176, R177, R179, R183. GROUP_COMMIT_DONE of a group that holds one new item for another node: the item is accepted with fabric
time, its lines stand in the journal ring and are counted, its frame is offered both ways, its store's master is told, and the resend timer
runs.
Model's readings and choices: log entries 38, 40, 162 and 166. -/
def Obligations.AcceptanceCommits : Prop :=
  ∀ (it : Item) (m : Master) (g : JGroup) (s : State), s.resetReq = none → s.flow.commit = some g → g.recs = [.acc it true] →
    it.path = .store m → it.outlet = none → it.data.length ≤ 256 → s.flowValid it.flow = true → s.flowLocal it.flow = false →
    opType it.op = tyWork → s.flow.closed = [] → s.flow.leaving = [] → s.inbQuiet → s.headClear (accLines it.data.length) →
    let acc := { it with accept := s.fns48 }
    ∃ t, exec .groupCommitDone s = .next t ∧ t.flow.commit = none ∧ t.flow.out = s.flow.out ++ [⟨acc, false, [], 0, 0, s.flow.lsn⟩] ∧
      t.toldOK m ∧ t.flow.lsn = (s.flow.lsn + accLines it.data.length) % 2 ^ 56 ∧ t.journaled s.flow.lsn (accBodies acc) ∧
      t.rd64 FLOW_ACC_LO.off = (s.rd64 FLOW_ACC_LO.off + 1) % 2 ^ 64 ∧
      t.rd64 FLOW_LINES_LO.off = (s.rd64 FLOW_LINES_LO.off + accLines it.data.length) % 2 ^ 64 ∧
      s.sameRegs t [FLOW_ACC_LO.off, FLOW_ACC_HI.off, FLOW_LINES_LO.off, FLOW_LINES_HI.off] ∧
      (t.fl it.flow).due = (if (s.fl it.flow).due = none then some (s.absNs + 1000000 * (s.retryMs : Int)) else (s.fl it.flow).due) ∧
      t.pts = s.pts ∧
      s.offers t (s.mkFrame tyWork 5 (s.flowNode it.flow) it.flow it.seq true
        (itemHead it.addr it.op (it.seg % 4 + 8 * b2n (s.flowGroup it.flow)) it.data.length it.inc (s.fl it.flow).low s.fns48 ++ it.data))

/-- R178, R179, R180, R181. The destination: a first copy in sequence of a write of a register or of points is journaled (WORK_ARRIVAL), as is
one that waited (WAITING_ITEM_APPLY); at its group's commit a register write takes effect, its APPLIED line is in the journal and it is
acknowledged with OK. A copy of an item already applied changes no target: it is counted, and acknowledged again.
Model's readings and choices: log entries 43 and 45. -/
def Obligations.ItemsApplyOnce : Prop :=
  (∀ (f : Frame) (s : State), s.resetReq = none → s.flowRuns = true → s.cpuIdle → f.work = true → f.typ = tyWork →
    f.dst = s.node → s.inbOf f.src (f.flow % 1024) = none → s.inbTable.length < 4096 → s.flow.kept = [] → f.seq = (frameItem f).low →
    s.wayOf (frameItem f) = 0 → (frameItem f).op = 1 → adSpace (frameItem f).addr ≠ 2 → s.itemGate (frameItem f) = false →
    4000 ≤ s.budNow → s.flow.opened = none → s.headClear 0 →
    ∃ t, exec (.workArrival f none) s = .next t ∧
      t.flow.opened = some ⟨[.applied (frameItem f)], 1, s.absNs, s.absNs + s.commitNs⟩ ∧
      t.flow.inb = s.flow.inb ++
        [⟨f.src, f.flow % 1024, (frameItem f).inc, (f.seq + 1) % 2 ^ 32, (frameItem f).inc, f.seq, 0, [], none, 1, false, none⟩] ∧
      { t with flow := s.flow } = s) ∧
  (∀ (it : InItem) (e : InEntry) (s : State), s.resetReq = none → s.flowRuns = true → s.flow.inb = [e] → e.wait = some it →
    e.held = [] → e.two = false → s.wayOf it = 0 → it.op = 1 → adSpace it.addr ≠ 2 → s.itemGate it = false →
    4000 ≤ s.budNow → s.flow.opened = none → s.flow.leaving = [] → s.headClear 0 →
    ∃ t, exec .waitingItemApply s = .next t ∧ t.flow.opened = some ⟨[.applied it], 1, s.absNs, s.absNs + s.commitNs⟩ ∧
      t.flow.inb = [{ e with wait := none, next := (e.next + 1) % 2 ^ 32, staged := e.staged + 1 }] ∧ { t with flow := s.flow } = s) ∧
  (∀ (it : InItem) (e : InEntry) (g : JGroup) (off : Nat) (s : State), s.resetReq = none → s.flow.commit = some g →
    g.recs = [.applied it] → s.flow.inb = [e] → e.src = it.src → e.flow = it.flow → e.cinc = it.inc → e.cnext = it.seq → e.wait = none →
    e.held = [] → it.local_ = false → it.op = 1 → adSpace it.addr = 1 → adOff it.addr = off → off ∈ plainRegs → it.data.length = 4 →
    s.serves it.master off 2 → s.flow.closed = [] → s.flow.leaving = [] → s.headClear 1 →
    let k : Kept := ⟨it.src, it.flow, it.seq, it.inc, stOK, s.fns48, 0, 0, 0, 0, s.flow.lsn⟩
    ∃ t, exec .groupCommitDone s = .next t ∧ t.flow.commit = none ∧
      (∀ r, regRow off = some r → ∀ f ∈ r.fields, f.acc = .rw → ∀ i, f.lo ≤ i → i ≤ f.hi →
        (t.rd off).getLsbD i = (natLE it.data).testBit i) ∧
      t.rd64 FLOW_APPLIED_LO.off = (s.rd64 FLOW_APPLIED_LO.off + 1) % 2 ^ 64 ∧
      t.rd64 FLOW_LINES_LO.off = (s.rd64 FLOW_LINES_LO.off + 1) % 2 ^ 64 ∧
      s.sameRegs t [off, FLOW_APPLIED_LO.off, FLOW_APPLIED_HI.off, FLOW_LINES_LO.off, FLOW_LINES_HI.off] ∧ t.pts = s.pts ∧
      t.flow.kept = s.flow.kept ∧ t.journaled s.flow.lsn (appliedBody k false) ∧
      t.flow.inb = [{ e with staged := e.staged - 1, cnext := (it.seq + 1) % 2 ^ 32, last := s.fns48, lsn := some s.flow.lsn }] ∧
      s.offers t (s.mkFrame tyWorkAck 5 it.src it.flow it.seq true
        (bytesBE 4 it.inc ++ bytesBE 1 stOK ++ [0] ++ bytesBE 6 s.fns48 ++ List.replicate 20 0))) ∧
  (∀ (f : Frame) (e : InEntry) (k : Kept) (s : State), s.resetReq = none → s.flowRuns = true → s.cpuIdle → f.work = true →
    f.typ = tyWork → f.dst = s.node → s.flow.inb = [e] → e.src = f.src → e.flow = f.flow % 1024 → e.inc = (frameItem f).inc →
    e.cinc = e.inc → e.cnext = e.next → after32 e.next f.seq = true → s.flow.kept = [k] →
    k.src = f.src → k.flow = f.flow % 1024 → k.seq = f.seq → k.inc = e.inc → after32 (frameItem f).low k.seq = false →
    (s.rd FLOW_DUP_CNT.off).toNat + 1 < 0xFFFFFFFF →
    ∃ t, exec (.workArrival f none) s = .next t ∧ (t.rd FLOW_DUP_CNT.off).toNat = (s.rd FLOW_DUP_CNT.off).toNat + 1 ∧
      t.pts = s.pts ∧ t.flow = s.flow ∧ s.sameRegs t [FLOW_DUP_CNT.off] ∧
      s.offers t (s.mkFrame tyWorkAck 5 f.src (f.flow % 1024) f.seq true
        (bytesBE 4 e.inc ++ bytesBE 1 k.status ++ [1] ++ bytesBE 6 k.apply ++ bytesBE 8 k.result ++ bytesBE 6 k.rstamp ++
          bytesBE 1 k.rqual ++ bytesBE 1 k.rtype ++ List.replicate 4 0)))

/-- R71, R177, R184 to R187, R189. An acknowledgement resolves its outstanding item (WORK_ACK_RECEIVE), and restarts the timer of a flow that
has others; RESEND_TIMER_EXPIRE, FLOW_PROBE and RECOVERY_RESEND send a flow's items again with RESEND; REACH_TIMEOUT turns an old item DOUBT;
FLOW_ABANDON of a flow with nothing in a group ends its items and raises INC.
Model's readings and choices: log entries 42, 45, 161, 163 and 165. -/
def Obligations.OutstandingItems : Prop :=
  (∀ (f : Frame) (o : OutItem) (s : State), s.resetReq = none → s.flowRuns = true → s.cpuIdle → f.typ = tyWorkAck →
    f.dst = s.node → s.flow.out = [o] → o.it.flow = f.flow → o.it.inc = beAt f.payload 0 4 →
    (s.fl f.flow).inc = o.it.inc → s.flowGroup f.flow = false → o.it.plain →
    (o.it.seq = f.seq →
      ∃ t, exec (.workAckReceive f none) s = .next t ∧ t.flow.out = [] ∧ (t.fl f.flow).due = none ∧
        (t.fl f.flow).low = s.lowOfNone f.flow ∧
        (beAt f.payload 4 1 ≠ stOK → t.evPend (evFlow 2) = true) ∧ t.pts = s.pts ∧ s.keepsRegs t []) ∧
    (o.it.seq ≠ f.seq → (s.fl f.flow).due ≠ none →
      ∃ t, exec (.workAckReceive f none) s = .next t ∧ t.flow.out = [o] ∧
        t.fl f.flow = { s.fl f.flow with ival := s.retryMs, due := some (s.absNs + 1000000 * (s.retryMs : Int)) } ∧
        { t with flow := s.flow } = s)) ∧
  (∀ (f : Fin 1024) (o : OutItem) (due : Int) (s : State), s.resetReq = none → s.flow.out = [o] → o.it.flow = f.val →
    s.flowValid f.val = true → s.flowLocal f.val = false → s.flowRuns = true → (s.fl f.val).due = some due →
    (o.it.plain →
      ∃ t, exec (.reachTimeout f) s = .next t ∧
        (t.flow.out = if o.doubt = false ∧ s.reachNs ≤ sgn48 s.fns48 o.it.accept then [{ o with doubt := true }] else [o]) ∧
        (o.doubt = false → s.reachNs ≤ sgn48 s.fns48 o.it.accept → t.evPend (evFlow 2) = true) ∧
        s.keepsRegs t [FLOW_DOUBT_CNT.off]) ∧
    (due ≤ s.absNs → (s.rd FLOW_RESEND_CNT.off).toNat + 1 < 0xFFFFFFFF →
      ∃ t, exec (.resendTimerExpire f) s = .next t ∧ t.flow.out = [{ o with sends := o.sends + 1 }] ∧
        (t.fl f.val).ival = min 1000 (2 * (s.fl f.val).ival) ∧
        (t.fl f.val).due = some (s.absNs + 1000000 * ((min 1000 (2 * (s.fl f.val).ival) : Nat) : Int)) ∧
        (t.rd FLOW_RESEND_CNT.off).toNat = (s.rd FLOW_RESEND_CNT.off).toNat + 1 ∧ s.sameRegs t [FLOW_RESEND_CNT.off] ∧
        ∃ w, t.sw.waiting = s.sw.waiting ++ [w] ∧ w.frame.seq = o.it.seq ∧ (beAt w.frame.payload 9 1).testBit 2 = true) ∧
    (2 ≤ s.g RING_STAT.ROLE →
      ∃ t, exec .recoveryResend s = .next t ∧ t.flow.out = [{ o with sends := o.sends + 1 }] ∧ t.regs = s.regs ∧
        ∃ w, t.sw.waiting = s.sw.waiting ++ [w] ∧ w.frame.seq = o.it.seq ∧ (beAt w.frame.payload 9 1).testBit 2 = true)) ∧
  (∀ (m : Master) (o : OutItem) (s : State), s.serves m FLOW_CMD.off 2 → s.flow.out = [o] →
    o.it.flow = s.g (FLOW_SEL.FLOW.at m.mid.val) → s.flowLocal o.it.flow = false →
    (s.flowValid o.it.flow = true →
      ∃ t, exec (.flowProbe m) s = .next t ∧ t.toldOK m ∧ t.flow.out = [{ o with sends := o.sends + 1 }] ∧
        (t.fl o.it.flow).ival = s.retryMs ∧ t.regs = s.regs ∧
        ∃ w, t.sw.waiting = s.sw.waiting ++ [w] ∧ w.frame.seq = o.it.seq ∧ (beAt w.frame.payload 9 1).testBit 2 = true) ∧
    (s.flow.opened = none → s.flow.commit = none → s.flow.closed = [] → s.flow.leaving = [] → o.it.plain → 4000 ≤ s.budNow →
      ∃ t, exec (.flowAbandon m) s = .next t ∧ t.toldOK m ∧ t.flow.out = [] ∧
        (t.fl o.it.flow).inc = ((s.fl o.it.flow).inc + 1) % 2 ^ 32 ∧ (t.fl o.it.flow).low = (s.fl o.it.flow).next ∧
        t.flow.opened = some ⟨[.outstate [o.it.flow]], 1, s.absNs, s.absNs + s.commitNs⟩ ∧ t.evPend (evFlow 2) = true))

/-- R173, R189, R196, R197. OUTSTATE_SWEEP journals an entry for a flow whose LOW or INC changed; FLOW_RECOVER over an empty ring, once the
image is loaded, leaves the engine running, with its event; RESERVOIR_PATROL counts a corrected word, retires a line corrected twice within 30
days, and resolves as LOST the live item of a line that it cannot read.
Model's readings and choices: log entries 39, 43, 164 and 168. -/
def Obligations.JournalUpkeep : Prop :=
  (∀ (f : Nat) (v : Flow) (s : State), s.resetReq = none → s.flowRuns = true → s.flow.flows = [(f, v)] → v.dirty = true →
    4000 ≤ s.budNow → s.flow.opened = none → s.headClear 1 →
    ∃ t, exec .outstateSweep s = .next t ∧ t.fl f = { v with dirty := false } ∧
      t.flow.opened = some ⟨[.outstate [f]], 1, s.absNs, s.absNs + s.commitNs⟩ ∧ { t with flow := s.flow } = s) ∧
  (∀ s : State, s.resetReq = none → s.g FLOW_STAT.STATE = feRecover → s.domOn 8 = true → s.g CFG_BOOT.STAGE = 5 → s.flow.ring = [] →
    s.flow.out = [] →
    ∃ t, exec .flowRecover s = .next t ∧ t.flowRuns = true ∧ t.flow.out = [] ∧ t.flow.inb = [] ∧ t.evPend (evFlow 9) = true ∧
      s.keepsRegs t [FLOW_STAT.off] ∧ t.pts = s.pts) ∧
  (∀ (off : Nat) (s : State), s.resetReq = none → s.domOn 8 = true → s.sump.inj = [] → (s.rd FLOW_ECC_CORR.off).toNat + 1 < 0xFFFFFFFF →
    ∃ t, exec (.reservoirPatrol off .corrected) s = .next t ∧
      (t.rd FLOW_ECC_CORR.off).toNat = (s.rd FLOW_ECC_CORR.off).toNat + 1 ∧
      (3145728 ≤ off → { t with regs := s.regs } = s ∧ s.sameRegs t [FLOW_ECC_CORR.off]) ∧
      (off < 3145728 → SMap.get (fun _ => none) t.flow.corrAt (off / 64) = some s.absNs) ∧
      (∀ at_, off < 3145728 → SMap.get (fun _ => none) s.flow.corrAt (off / 64) = some at_ → s.absNs - at_ < thirtyDays →
        SMap.get (fun _ => 0) s.flow.retired (off / 64) = 0 → s.flow.retired.length < 4096 →
        SMap.get (fun _ => 0) t.flow.retired (off / 64) = s.flow.retired.length + 1)) ∧
  (∀ (off : Nat) (o : OutItem) (s : State), s.resetReq = none → s.domOn 8 = true → s.sump.inj = [] → off < 3145728 →
    SMap.get (fun _ => 0) s.flow.retired (off / 64) = 0 → s.flow.out = [o] → onLine (off / 64) (accLines o.it.data.length) o.lsn = true →
    o.it.plain → (s.rd FLOW_ECC_UNCORR.off).toNat + 1 < 0xFFFFFFFF →
    ∃ t, exec (.reservoirPatrol off .uncorrectable) s = .next t ∧ t.flow.out = [] ∧
      (t.rd FLOW_ECC_UNCORR.off).toNat = (s.rd FLOW_ECC_UNCORR.off).toNat + 1 ∧ t.evPend (evFlow 8) = true ∧
      clSevere ≤ t.evKept (evFlow 8) ∧ t.evPend (evFlow 2) = true ∧ s.keepsRegs t [FLOW_ECC_UNCORR.off])

/-- R65, R198, R522. REMOTE_READ_REQUEST of another node is tagged and sent; RREAD_RETRY_EXPIRE sends it again with twice the interval;
RREAD_RSP_RECEIVE with its tag ends it with the bytes that came, RREAD_REACH_TIMEOUT with TIMEOUT. RREAD_RECEIVE at its node answers once: a
point's record with OK where its profile permits remote reads, a Cistern with ADDR. JOURNAL_WINDOW_READ returns a line of the journal ring, the outbound entry of a flow, an inbound
entry, or an outstanding item.
Model's readings and choices: log entries 26, 48 and 49. -/
def Obligations.RemoteReads : Prop :=
  (∀ (m : Master) (addr : BitVec 64) (len : Nat) (s : State), s.resetReq = none → s.isHere addr.toNat = false →
    adNode addr.toNat < 0xFF00 → adSpace addr.toNat ≤ 4 → adSpace addr.toNat ≠ 2 → 1 ≤ len → len ≤ 256 →
    adOff addr.toNat % 256 + len ≤ 256 → s.flow.reads.length < 256 →
    ∃ t, exec (.remoteReadRequest m addr len) s = .next t ∧
      t.flow = { s.flow with readTag := (s.flow.readTag + 1) % 2 ^ 32, reads := s.flow.reads ++ [⟨s.flow.readTag, adNode addr.toNat,
        addr.toNat, len, m.mid.val, .master m, s.absNs, s.retryMs, s.absNs + 1000000 * (s.retryMs : Int)⟩] } ∧ t.regs = s.regs ∧
      s.offers t (s.mkFrame tyRread 5 (adNode addr.toNat) 0 s.flow.readTag false
        (bytesBE 8 addr.toNat ++ bytesBE 2 len ++ bytesBE 1 m.mid.val ++ List.replicate 5 0))) ∧
  (∀ (r : RRead) (m : Master) (s : State), s.resetReq = none → s.flow.reads = [r] → s.flow.readWait = [] → r.who = .master m →
    (r.due ≤ s.absNs →
      ∃ t, exec (.rreadRetryExpire r.tag) s = .next t ∧ t.flow.reads = [{ r with
        ival := min 1000 (2 * r.ival), due := s.absNs + 1000000 * ((min 1000 (2 * r.ival) : Nat) : Int) }] ∧ t.regs = s.regs ∧
        s.offers t (s.mkFrame tyRread 5 r.node 0 r.tag false
          (bytesBE 8 r.addr ++ bytesBE 2 r.len ++ bytesBE 1 r.mid ++ List.replicate 5 0))) ∧
    (s.reachNs ≤ s.absNs - r.first →
      ∃ t, exec (.rreadReachTimeout r.tag) s = .next t ∧ t.flow.reads = [] ∧ t.resp = some ⟨m.mid.val, stTIMEOUT, []⟩) ∧
    (∀ f : Frame, s.cpuIdle → f.typ = tyRreadRsp → f.dst = s.node → f.seq = r.tag → f.src = r.node → beAt f.payload 0 1 = stOK →
      ∃ t, exec (.rreadRspReceive f none) s = .next t ∧ t.flow.reads = [] ∧
        t.resp = some ⟨m.mid.val, stOK, (f.payload.drop 16).take (beAt f.payload 2 2)⟩ ∧ t.regs = s.regs)) ∧
  (∀ (f : Frame) (i : Nat) (s : State), s.resetReq = none → s.cpuIdle → f.typ = tyRread → f.dst = s.node →
    s.rreadBusy f.src f.seq = false →
    (beAt f.payload 0 8 = s.node * 2 ^ 48 + 16 * i → beAt f.payload 8 2 = 16 → s.pointPlain i → s.tileGood (i / 16) →
      s.flag (PNT_PROF_CFG.RMT_RD.at (s.profOf i)) = true → s.spaceGate ⟨0x10, BitVec.ofNat 16 f.src⟩ 0 (16 * i) = 0 →
      ∃ t, exec (.rreadReceive f none) s = .next t ∧ t.regs = s.regs ∧ (∀ j, t.pt j = s.pt j) ∧
        s.offers t (s.mkFrame tyRreadRsp 5 (f.src % 2 ^ 16) 0 f.seq false
          ([0, 0, 0, 16] ++ bytesBE 6 s.fns48 ++ List.replicate 6 0 ++ (s.pt i).bytes))) ∧
    (adSpace (beAt f.payload 0 8) = 2 →
      ∃ t, exec (.rreadReceive f none) s = .next t ∧ t.regs = s.regs ∧ t.pts = s.pts ∧
        s.offers t (s.mkFrame tyRreadRsp 5 (f.src % 2 ^ 16) 0 f.seq false
          (bytesBE 1 stADDR ++ [0, 0, 0] ++ bytesBE 6 s.fns48 ++ List.replicate 6 0)))) ∧
  (∀ (m : Master) (w : Fin 256) (i : Nat) (s : State), isLocal m = true → s.resetReq = none →
    let n := if w.val = 0 then 64 else 32
    w.val < 4 → i < (if w.val = 0 then 49152 else if w.val = 1 then 1024 else 4096) → s.spaceGate m 3 (w.val * 2 ^ 32 + n * i) = 0 →
    ∃ t, exec (.journalWindowRead m w (BitVec.ofNat 32 (n * i)) n) s = .next t ∧ { t with resp := s.resp } = s ∧
      t.resp = some ⟨m.mid.val, stOK, if w.val = 0 then s.ringLine i else if w.val = 1 then s.outEntry i
        else if w.val = 2 then s.inEntryBytes i else s.outItemBytes i⟩)
/-! ### Cascade and the Ethernet ports (ch. 6) -/

/-- R201, R203, R208, R215, R221, R223. FRAME_ADMIT admits the frame that waits first for an Ethernet egress, whole, where the egress has room,
and leaves it waiting where it has none; an Ethernet frame for CPU is handed over as it is admitted. A good Ethernet frame that arrives with room
at every live target is queued to each; one with a wrong FCS is counted and goes nowhere. ETH_EGRESS_SEND sends the copy that is next, with its
FCS, and frees it.
Model's readings and choices: log entries 33, 50, 51, 169 and 170. -/
def Obligations.FramesThroughTheSwitch : Prop :=
  (∀ (inPort : Fin 11) (cls : Fin 8) (w : WEnt) (p : Nat) (s : State), s.resetReq = none → 4 ≤ inPort.val →
    (8 ≤ inPort.val ∨ s.g (ETH_CFG.FC (inPort.val - 4)) = 0) → (∀ q ∈ s.sw.queues, q.port < 8) →
    s.waitHead inPort.val cls.val = some w → w.targets = [p] → w.pool = none → s.liveTargets [p] = [p] → s.noMirror →
    (s.canAdmit w = true → 4 ≤ p → p < 8 →
      ∃ t, exec (.frameAdmit inPort cls none) s = .next t ∧ t.sw.waiting = s.sw.waiting.erase w ∧
        t.sw.queues = s.sw.queues ++ [⟨p, cls.val, tilesFor w.bytes, false, s.sw.nextId, w.frame⟩] ∧ t.sw.nextId = s.sw.nextId + 1 ∧
        t.sw.frames = s.sw.frames ++
          [⟨s.sw.nextId, w.frame, w.eth, w.inPort, w.bytes, tilesFor w.bytes, false, [], false, false, false, none, w.tIn⟩] ∧
        { t with sw := s.sw } = s) ∧
    (s.canAdmit w = true → p = 8 → w.eth = true → s.sw.frames = [] →
      ∃ t, exec (.frameAdmit inPort cls none) s = .next t ∧ t.sw.waiting = s.sw.waiting.erase w ∧ t.sw.queues = s.sw.queues ∧
        t.sw.frames = [] ∧ SMap.get (fun _ => []) t.sw.handed 8 = w.frame.payload ∧ { t with sw := s.sw } = s) ∧
    (s.canAdmit w = false → ∃ t, exec (.frameAdmit inPort cls none) s = .next t ∧ t = s)) ∧
  (∀ (n : Fin 4) (bytes : List Byte) (s : State), s.resetReq = none → s.ethUp n.val = true → (∀ q ∈ s.sw.queues, q.port < 8) →
    (∀ w ∈ s.sw.waiting, w.inPort ≠ 4 + n.val) → 60 ≤ bytes.length → bytes.length ≤ 2044 → etherType bytes ≠ 0x8808 →
    s.ptpAt n.val bytes = none → s.noMirror → s.g (ETH_CFG.FC n.val) = 0 →
    let ts := maskPorts (s.fwdMask n.val bytes) (4 + n.val)
    ts ≠ [] → s.liveTargets ts = ts → (∀ p ∈ ts, p < 8 ∧ s.hasRoom p (s.ethClass n.val bytes) (tilesFor (bytes.length + 4)) false = true) →
    ∃ t, exec (.ethFrameReceive n bytes true false none) s = .next t ∧ t.sw.waiting = s.sw.waiting ∧
      t.sw.queues = s.sw.queues ++ ts.map (fun p => ⟨p, s.ethClass n.val bytes, tilesFor (bytes.length + 4), false, s.sw.nextId,
        ethFrame (s.ethClass n.val bytes) bytes⟩) ∧
      t.rd64 (ETH_RX_BYTES_LO.off n.val) = (s.rd64 (ETH_RX_BYTES_LO.off n.val) + (bytes.length + 4)) % 2 ^ 64 ∧
      t.rd64 (ETH_RX_FRAMES_LO.off n.val) = (s.rd64 (ETH_RX_FRAMES_LO.off n.val) + 1) % 2 ^ 64 ∧
      s.sameRegs t [ETH_RX_BYTES_LO.off n.val, ETH_RX_BYTES_HI.off n.val, ETH_RX_FRAMES_LO.off n.val, ETH_RX_FRAMES_HI.off n.val]) ∧
  (∀ (n : Fin 4) (bytes : List Byte) (s : State), s.resetReq = none → s.ethUp n.val = true → (∀ q ∈ s.sw.queues, q.port ≠ 9) →
    60 ≤ bytes.length → bytes.length ≤ 2044 → (s.rd (ETH_FCS_ERR.off n.val)).toNat + 1 < 0xFFFFFFFF →
    ∃ t, exec (.ethFrameReceive n bytes false false none) s = .next t ∧ { t with regs := s.regs } = s ∧
      (t.rd (ETH_FCS_ERR.off n.val)).toNat = (s.rd (ETH_FCS_ERR.off n.val)).toNat + 1) ∧
  (∀ (n : Fin 4) (q : Fin 16) (e : QEnt) (f : SFrame) (s : State), s.resetReq = none → s.ethUp n.val = true → s.sw.queues = [e] →
    s.sw.frames = [f] → f.id = e.id → f.cut = false → s.ethNext n.val = some e → s.ptpAt n.val e.hdr.payload = none → s.noMirror →
    ∃ t, exec (.ethEgressSend n q none) s = .next t ∧ t.sw.queues = [] ∧ t.sw.frames = [] ∧
      (t.ethp n.val).lastSent = e.hdr.payload ++ ethFcs e.hdr.payload ∧
      t.rd64 (ETH_TX_FRAMES_LO.off n.val) = (s.rd64 (ETH_TX_FRAMES_LO.off n.val) + 1) % 2 ^ 64 ∧
      t.rd64 (ETH_TX_BYTES_LO.off n.val) = (s.rd64 (ETH_TX_BYTES_LO.off n.val) + (e.hdr.payload.length + 4)) % 2 ^ 64 ∧
      s.sameRegs t [ETH_TX_BYTES_LO.off n.val, ETH_TX_BYTES_HI.off n.val, ETH_TX_FRAMES_LO.off n.val, ETH_TX_FRAMES_HI.off n.val])

/-- R218, R219, R223, R224, R225. ETH_LINK_DOWN of a port whose link is up clears what depends on the link, discards and counts the copies queued
to it, and raises its event; ETH_LINK_UP brings it back, with the partner's PAUSE ability where Clause 37 runs. PAUSE_FRAME_RECEIVE pauses every
priority for the quanta of a PAUSE frame, or those that a PFC frame enables, by the port's flow control; XOFF_REPEAT repeats the frame after
5 ms while its condition lasts. MDIO_START keeps BUSY until MDIO_DONE, which after a read stores the PHY's word, or ones where no PHY answered; a
write while BUSY sets OVR and starts nothing.
Model's readings and choices: log entries 50 and 171. -/
def Obligations.EthernetPorts : Prop :=
  (∀ (n : Fin 4) (s : State), s.resetReq = none → s.flag (ETH_STAT.LINK n.val) = true →
    ∃ t, exec (.ethLinkDown n) s = .next t ∧ t.flag (ETH_STAT.LINK n.val) = false ∧ t.flag (ETH_STAT.AN_DONE n.val) = false ∧
      t.g (ETH_STAT.LP_PAUSE n.val) = 0 ∧ t.sw.queues = s.sw.queues.filter (fun e => e.port != 4 + n.val) ∧
      ((s.rd SW_LINK_DROP.off).toNat + (s.sw.queues.filter (fun e => e.port == 4 + n.val)).length < 0xFFFFFFFF →
        (t.rd SW_LINK_DROP.off).toNat =
          (s.rd SW_LINK_DROP.off).toNat + (s.sw.queues.filter (fun e => e.port == 4 + n.val)).length) ∧
      t.evPend (evEth n.val 1) = true ∧ s.keepsRegs t [ETH_STAT.off n.val, SW_LINK_DROP.off, SW_MC_PARTIAL.off]) ∧
  (∀ (n lp : Fin 4) (s : State), s.resetReq = none → s.domOn 9 = true → s.g (ETH_CFG.MODE n.val) ≠ 0 →
    s.flag (ETH_STAT.LINK n.val) = false →
    ∃ t, exec (.ethLinkUp n lp) s = .next t ∧ t.flag (ETH_STAT.LINK n.val) = true ∧ t.evPend (evEth n.val 1) = true ∧
      s.keepsRegs t [ETH_STAT.off n.val] ∧
      if s.g (ETH_CFG.MODE n.val) = 1 ∧ s.flag (ETH_CFG.AN n.val) = true then
        t.flag (ETH_STAT.AN_DONE n.val) = true ∧ t.g (ETH_STAT.LP_PAUSE n.val) = lp.val ∧
          t.ethp n.val = { s.ethp n.val with advert := some (s.pauseAbility n.val) }
      else t.bare = s.bare) ∧
  (∀ (n : Fin 4) (enable : Fin 256) (quanta : List Nat) (s : State), s.resetReq = none → s.ethUp n.val = true →
    (s.rd (ETH_PAUSE_RX.off n.val)).toNat + 1 < 0xFFFFFFFF →
    let ends := fun (q : Nat) => if q % 65536 = 0 then (0 : Int)
      else s.absNs + ((q % 65536 * quantum (s.g (ETH_CFG.MODE n.val)) / 10 : Nat) : Int)
    (s.g (ETH_CFG.FC n.val) = 1 →
      ∃ t, exec (.pauseFrameReceive n false enable quanta) s = .next t ∧
        (∀ pri, pri < 8 → SMap.get (fun _ => (0 : Int)) (t.ethp n.val).pauseEnd pri = ends (quanta.getD 0 0)) ∧
        (t.rd (ETH_PAUSE_RX.off n.val)).toNat = (s.rd (ETH_PAUSE_RX.off n.val)).toNat + 1 ∧ s.sameRegs t [ETH_PAUSE_RX.off n.val]) ∧
    (s.g (ETH_CFG.FC n.val) = 2 →
      ∃ t, exec (.pauseFrameReceive n true enable quanta) s = .next t ∧
        (∀ pri, pri < 8 → SMap.get (fun _ => (0 : Int)) (t.ethp n.val).pauseEnd pri = if enable.val.testBit pri then
          ends (quanta.getD pri 0) else SMap.get (fun _ => (0 : Int)) (s.ethp n.val).pauseEnd pri) ∧
        (t.rd (ETH_PAUSE_RX.off n.val)).toNat = (s.rd (ETH_PAUSE_RX.off n.val)).toNat + 1 ∧ s.sameRegs t [ETH_PAUSE_RX.off n.val])) ∧
  (∀ (n : Fin 4) (s : State), s.resetReq = none → s.ethUp n.val = true → s.g (ETH_CFG.FC n.val) ≠ 0 →
    s.g (ETH_STAT.XOFF n.val) ≠ 0 → s.xoffNeed n.val ≠ 0 → 5000000 ≤ s.absNs - (s.ethp n.val).fcAt →
    (s.rd (ETH_PAUSE_TX.off n.val)).toNat + 1 < 0xFFFFFFFF →
    ∃ t, exec (.xoffRepeat n) s = .next t ∧ (t.rd (ETH_PAUSE_TX.off n.val)).toNat = (s.rd (ETH_PAUSE_TX.off n.val)).toNat + 1 ∧
      t.ethp n.val = { s.ethp n.val with lastFc := some ⟨s.g (ETH_CFG.FC n.val) == 2, s.xoffNeed n.val, 0xFFFF⟩, fcAt := s.absNs } ∧
      s.sameRegs t [ETH_PAUSE_TX.off n.val] ∧ { t with regs := s.regs, sw := s.sw } = s) ∧
  (∀ (m : Master) (n : Fin 4) (val : Word) (s : State), s.serves m (ETH_MDIO_CMD.off n.val) 2 →
    (s.flag (ETH_MDIO_STAT.BUSY n.val) = false → val.getLsbD 31 = true →
      ∃ t, exec (.mdioStart m n val) s = .next t ∧ t.toldOK m ∧ t.flag (ETH_MDIO_STAT.BUSY n.val) = true ∧
        (t.ethp n.val).mdio = some (if (ETH_MDIO_CMD.C45 n.val).get val ≠ 0 then decide (2 ≤ (ETH_MDIO_CMD.OP n.val).get val)
          else decide ((ETH_MDIO_CMD.OP n.val).get val = 2)) ∧
        s.sameRegs t [ETH_MDIO_CMD.off n.val, ETH_MDIO_STAT.off n.val]) ∧
    (s.flag (ETH_MDIO_STAT.BUSY n.val) = true →
      ∃ t, exec (.mdioStart m n val) s = .next t ∧ t.toldOK m ∧ t.flag (ETH_MDIO_STAT.OVR n.val) = true ∧
        t.ethp n.val = s.ethp n.val ∧ s.sameRegs t [ETH_MDIO_STAT.off n.val])) ∧
  (∀ (n : Fin 4) (rd : Bool) (data : Option (BitVec 16)) (s : State), s.resetReq = none → (s.ethp n.val).mdio = some rd →
    ∃ t, exec (.mdioDone n data) s = .next t ∧ t.flag (ETH_MDIO_STAT.BUSY n.val) = false ∧
      t.g (ETH_MDIO_STAT.DATA n.val) = (if rd = false then s.g (ETH_MDIO_STAT.DATA n.val)
        else match data with | some d => d.toNat | none => 0xFFFF) ∧ (t.ethp n.val).mdio = none ∧
      t.evPend (evEth n.val 2) = true ∧ s.keepsRegs t [ETH_MDIO_STAT.off n.val])
/-! ### The bridges (ch. 7) -/

/-- R233, R237, R240 to R244. HOST_READ and HOST_READ_ONCE of a point of this node that nothing holds up answer its record in their own
response. Behind a posted write the read waits; at the end of WAIT its response is RETRY with its TAG. DELAYED_READ_COMPLETE ends it once the
write has drained, HOST_CLAIM within the window returns it and frees its entry; a CLAIM before is answered RETRY, one of a TAG not in use NOTAG.
HOST_STATUS answers HST_STAT and HST_ATTN, HOST_BAD_OPCODE the OPCODE status.
Model's readings and choices: log entries 54, 55, 56, 60, 173 and 174. -/
def Obligations.HostReads : Prop :=
  (∀ (addr : BitVec 64) (i : Nat) (s : State), s.resetReq = none → s.domOn 6 = true → s.spaceGate hostM 0 (16 * i) = 0 →
    s.isHere addr.toNat = true → addr.toNat % 2 ^ 48 = 16 * i → s.pointPlain i → s.tileGood (i / 16) → s.brg.pf = none →
    s.flag BRG_CFG.PF = false → s.brg.dr = [] →
    (s.brg.posted = [] → ∃ t, exec (.hostRead addr 16 true) s = .next t ∧ s.hostTold t stOK (0xFF :: (s.pt i).bytes) ∧
      t.brg.dr = [] ∧ s.sameRegs t [HST_STAT.off] ∧ t.pts.recs = s.pts.recs) ∧
    (s.brg.posted = [] → ∃ t, exec (.hostReadOnce addr 16 true) s = .next t ∧ s.hostTold t stOK (0xFF :: (s.pt i).bytes) ∧
      t.brg.dr = [] ∧ s.sameRegs t [HST_STAT.off] ∧ t.pts.recs = s.pts.recs) ∧
    (∀ p : PwEnt, s.brg.posted = [p] → p.pw = (s.g BRG_PW_SEQ.NEXT + 65535) % 65536 →
      ∃ t, exec (.hostRead addr 16 true) s = .next t ∧ t.resp = s.resp ∧ s.sameRegs t [HST_STAT.off] ∧
        t.brg.dr = [s.newRead 0 addr.toNat 16 false] ∧ t.brg.await = some (.read 0, s.absNs + s.waitNs))) ∧
  (∀ (tag : Nat) (e : DrEnt) (due : Int) (s : State), s.pending = [] → s.brg.await = some (.read tag, due) → s.brg.dr = [e] →
    e.tag = tag → due ≤ s.timeTick.absNs → s.pts.reqs = [] →
    ∃ t, step s = .next t ∧ s.hostTold t stRETRY (bytesBE 1 tag) ∧ t.brg.dr = [{ e with retried := true }] ∧ t.brg.await = none) ∧
  (∀ (tag : Fin 64) (addr i : Nat) (e : DrEnt) (s : State), s.resetReq = none → s.domOn 6 = true → s.spaceGate hostM 0 (16 * i) = 0 →
    s.isHere addr = true → addr % 2 ^ 48 = 16 * i → s.pointPlain i → s.tileGood (i / 16) → s.flag BRG_CFG.PF = false → s.brg.posted = [] →
    s.brg.await = none → s.brg.dr = [e] → e.tag = tag.val → e.done = none → e.flying = false → e.pieces = [(addr, 16)] → e.data = [] →
    e.once = false → e.side = false → e.retried = true →
    ∃ t, exec (.delayedReadComplete tag) s = .next t ∧ t.brg.dr = [{ e with
        pieces := [], flying := false, doubt := false, data := (s.pt i).bytes, done := some (stOK, s.absNs), window := s.claimMs }] ∧
      t.flag HST_ATTN.DR_DONE = true ∧ t.evPend (evBrg 5) = true ∧ t.resp = s.resp) ∧
  (∀ (tag : Fin 256) (e : DrEnt) (s : State), s.resetReq = none → s.domOn 6 = true → s.brg.dr = [e] → e.tag = tag.val →
    (∀ (st : Nat) (at_ : Int), e.done = some (st, at_) → s.absNs - at_ < 1000000 * (e.window : Int) →
      ∃ t, exec (.hostClaim tag true) s = .next t ∧ s.hostTold t st (bytesBE 1 tag.val ++ (if st = stOK then e.data else [])) ∧
        t.brg.dr = [] ∧ t.brg.inResp = some e ∧ s.sameRegs t [HST_STAT.off]) ∧
    (e.done = none → e.doubt = false →
      ∃ t, exec (.hostClaim tag true) s = .next t ∧ s.hostTold t stRETRY (bytesBE 1 tag.val) ∧ t.brg.dr = [e])) ∧
  (∀ (tag : Fin 256) (s : State), s.resetReq = none → s.domOn 6 = true → s.brg.dr = [] →
    ∃ t, exec (.hostClaim tag true) s = .next t ∧ s.hostTold t stNOTAG [0xFF]) ∧
  (∀ s : State, s.resetReq = none →
    (∃ t, exec (.hostStatus true) s = .next t ∧ s.hostTold t stOK
        (bytesBE 4 (t.found hostM HST_STAT.off).toNat ++ bytesBE 4 (s.found hostM HST_ATTN.off).toNat) ∧ s.sameRegs t [HST_STAT.off]) ∧
    ((s.rd HST_OPC_ERR.off).toNat + 1 < 0xFFFFFFFF → ∃ t, exec .hostBadOpcode s = .next t ∧ s.hostTold t stOPCODE [] ∧
      (t.rd HST_OPC_ERR.off).toNat = (s.rd HST_OPC_ERR.off).toNat + 1 ∧ s.sameRegs t [HST_STAT.off, HST_OPC_ERR.off]))

/-- R238, R241, R244, R245, R248. HOST_ABORT in a response puts its read back, to be claimed again, and is counted; CLAIM_WINDOW_EXPIRE frees an
unclaimed read and counts it, or strands the result of one with a side effect, with its event; PREFETCH_EXPIRE drops the tile after 10 µs;
STRANDED_POP and PWF_POP of the entry at the head take it and clear its attention bit.
Model's readings and choices: log entries 54 and 59. -/
def Obligations.ReadsExpireAndStrand : Prop :=
  (∀ (e : DrEnt) (s : State), s.resetReq = none → s.brg.inResp = some e → (s.rd HST_ABORT_CNT.off).toNat + 1 < 0xFFFFFFFF →
    ∃ t, exec (.hostAbort .response) s = .next t ∧ t.brg = { s.brg with inResp := none, await := none, dr := s.brg.dr ++ [e] } ∧
      (t.rd HST_ABORT_CNT.off).toNat = (s.rd HST_ABORT_CNT.off).toNat + 1 ∧ s.sameRegs t [HST_ABORT_CNT.off]) ∧
  (∀ (tag : Fin 64) (e : DrEnt) (st : Nat) (at_ : Int) (s : State), s.resetReq = none → s.brg.dr = [e] → e.tag = tag.val →
    e.done = some (st, at_) → 1000000 * (e.window : Int) ≤ s.absNs - at_ →
    (e.side = false → (s.rd BRG_DR_EXPIRE.off).toNat + 1 < 0xFFFFFFFF →
      ∃ t, exec (.claimWindowExpire tag) s = .next t ∧ t.brg = { s.brg with dr := [] } ∧
        (t.rd BRG_DR_EXPIRE.off).toNat = (s.rd BRG_DR_EXPIRE.off).toNat + 1 ∧ s.sameRegs t [BRG_DR_EXPIRE.off]) ∧
    (e.side = true → s.brg.str.length < 32 → (s.rd BRG_STRAND_CNT.off).toNat + 1 < 0xFFFFFFFF →
      ∃ t, exec (.claimWindowExpire tag) s = .next t ∧ t.brg.dr = [] ∧
        t.brg.str = s.brg.str ++ [⟨s.brg.strSerial, st, tag.val, e.addr, s.us32, e.data.take 16⟩] ∧ t.evPend (evBrg 3) = true ∧
        (t.rd BRG_STRAND_CNT.off).toNat = (s.rd BRG_STRAND_CNT.off).toNat + 1 ∧ s.keepsRegs t [BRG_STRAND_CNT.off])) ∧
  (∀ (tile : Nat) (at_ : Int) (d : List Byte) (s : State), s.resetReq = none → s.brg.pf = some (tile, at_, d) →
    10000 ≤ s.absNs - at_ → (s.rd BRG_PF_DROP.off).toNat + 1 < 0xFFFFFFFF →
    ∃ t, exec .prefetchExpire s = .next t ∧ t.brg = { s.brg with pf := none } ∧
      (t.rd BRG_PF_DROP.off).toNat = (s.rd BRG_PF_DROP.off).toNat + 1 ∧ s.sameRegs t [BRG_PF_DROP.off]) ∧
  (∀ (m : Master) (val : Word) (e : StrEnt) (l : List StrEnt) (s : State), s.serves m BRG_STR_POP.off 2 → s.brg.str = e :: l →
    BRG_STR_POP.SERIAL.get val = e.serial →
    ∃ t, exec (.strandedPop m val) s = .next t ∧ t.toldOK m ∧ t.brg = { s.brg with str := l } ∧ t.flag HST_ATTN.STR = false ∧
      s.sameRegs t [HST_ATTN.off]) ∧
  (∀ (m : Master) (val : Word) (e : PwfEnt) (l : List PwfEnt) (s : State), s.serves m BRG_PWF_POP.off 2 → s.brg.pwf = e :: l →
    BRG_PWF_POP.PWSEQ.get val = e.pw →
    ∃ t, exec (.pwfPop m val) s = .next t ∧ t.toldOK m ∧ t.brg = { s.brg with pwf := l } ∧ t.flag HST_ATTN.PWF = false ∧
      s.sameRegs t [HST_ATTN.off])

/-- R239, R246, R247, R250 to R254. HOST_WRITE that its form allows and the buffer has room for is posted, each piece under the next PWSEQ;
POSTED_WRITE_DRAIN of a register write performs it and drains the entry. HOST_BACKOFF, once the ring side has held off for WAIT what the host
needs, is counted: the posted entry stays, a read not yet issued is answered RETRY with TAG 0xFF. SIGNAL_UPDATE writes the field of its source
into the point of the one entry that names it. TUNNEL_FRAME_ARRIVE hands the Ethernet frame of a MODE 0 tunnel on toward its port.
Model's readings and choices: log entries 48, 54, 60, 61, 62 and 64. -/
def Obligations.PostedWritesAndSignals : Prop :=
  (∀ (addr : BitVec 64) (data : List Byte) (s : State), s.resetReq = none → s.domOn 6 = true →
    s.postCheck addr.toNat data.length = stOK → s.postRoom addr.toNat data = true →
    let ps := pieceData addr.toNat data
    ∃ t, exec (.hostWrite addr data true) s = .next t ∧
      s.hostTold t stOK (bytesBE 2 (s.g BRG_PW_SEQ.NEXT) ++ bytesBE 1 ps.length) ∧
      t.brg.posted = s.brg.posted ++ ps.zipIdx.map (fun p => (⟨(s.g BRG_PW_SEQ.NEXT + p.2) % 65536, p.1.1, p.1.2,
        s.routeOf addr.toNat, s.absNs, false⟩ : PwEnt)) ∧
      t.g BRG_PW_SEQ.NEXT = (s.g BRG_PW_SEQ.NEXT + ps.length) % 65536 ∧
      s.sameRegs t [HST_STAT.off, BRG_PW_SEQ.off, BRG_PW_RES.off] ∧ t.pts = s.pts) ∧
  (∀ (off : Nat) (val : Word) (pw : Nat) (fl : Option Nat) (at_ : Int) (r : RegRow) (s : State), s.domOn 6 = true → off ∈ plainRegs →
    s.serves hostM off (if off = USB_ISO_CFG.off then 1 else 2) → regRow off = some r →
    s.brg.posted = [⟨pw, 2 ^ 40 + off, bytesLE 4 val.toNat, fl, at_, false⟩] →
    ∃ t, exec .postedWriteDrain s = .next t ∧ t.brg.posted = [] ∧
      (∀ f ∈ r.fields, f.acc = .rw → ∀ i, f.lo ≤ i → i ≤ f.hi → (t.rd off).getLsbD i = val.getLsbD i) ∧
      s.sameRegs t [off, BRG_PW_SEQ.off, BRG_PW_RES.off] ∧ t.pts = s.pts) ∧
  (∀ (e : PwEnt) (s : State), s.resetReq = none → s.domOn 6 = true → s.brg.posted = [e] → e.handed = false →
    s.pieceHeldOff e.addr = true → s.waitNs ≤ s.absNs - e.since → (s.rd BRG_BACKOFF_CNT.off).toNat + 1 < 0xFFFFFFFF →
    ∃ t, exec (.hostBackoff none) s = .next t ∧ (t.rd BRG_BACKOFF_CNT.off).toNat = (s.rd BRG_BACKOFF_CNT.off).toNat + 1 ∧
      t.brg = { s.brg with posted := [{ e with since := s.absNs }] } ∧
      s.sameRegs t [BRG_BACKOFF_CNT.off] ∧ { t with regs := s.regs, brg := s.brg } = s) ∧
  (∀ (tag : Fin 64) (due : Int) (s : State), s.resetReq = none → s.brg.await = some (.read tag.val, due) → due ≤ s.absNs →
    s.readHeldOff tag.val = true → (s.rd BRG_BACKOFF_CNT.off).toNat + 1 < 0xFFFFFFFF →
    ∃ t, exec (.hostBackoff (some tag)) s = .next t ∧ s.hostTold t stRETRY [0xFF] ∧ t.drEnt tag.val = none ∧ t.brg.await = none ∧
      (t.rd BRG_BACKOFF_CNT.off).toNat = (s.rd BRG_BACKOFF_CNT.off).toNat + 1 ∧ s.sameRegs t [BRG_BACKOFF_CNT.off] ∧
      t.pts = { s.pts with reqs := s.pts.reqs.filter (fun q => q.who != .reader (.dr tag.val)) }) ∧
  (∀ (kind : Fin 16) (unit obj e : Nat) (payload : List Byte) (fault : Bool) (s : State), s.resetReq = none → s.domOn 6 = true →
    s.domOn 7 = true → s.sigEntries false kind.val unit obj = [e] → s.flag (BRG_SIG_SRC.SIGNED.at e) = false →
    let i := s.g (BRG_SIG_DST.POINT.at e)
    let v := fieldGet (s.flag (BRG_SIG_SRC.MOTOROLA.at e)) (s.g (BRG_SIG_SRC.BITPOS.at e)) (s.g (BRG_SIG_DST.BITLEN.at e)) payload
    (s.pt i).typ ≠ tyUndef → encOk (s.pt i).typ (v % 2 ^ 64) = true →
    ∃ t, exec (.signalUpdate kind unit obj payload fault) s = .next t ∧
      t.pt i = ⟨BitVec.ofNat 64 v, s.fns48, if fault then qFault else qGood, (s.pt i).typ⟩ ∧ (∀ j, j ≠ i → t.pt j = s.pt j)) ∧
  (∀ (f : Frame) (s : State), s.resetReq = none → f.work = false → f.typ = tyTunEth → s.domOn 6 = true →
    (∀ q ∈ s.sw.queues, q.port < 8) → (∀ w ∈ s.sw.waiting, w.inPort ≠ 9) → s.noMirror → f.cls < 8 →
    let k := beAt f.payload 7 1
    let l := slice f.payload 32 (beAt f.payload 10 2)
    let body := withVid (s.g (BRG_TUN_LOCAL.C.at k)) (l.take (l.length - 4))
    let p := 4 + s.g (BRG_TUN_LOCAL.A.at k)
    s.tunOf k 2 = true → s.g (BRG_TUN_LOCAL.A.at k) < 4 → s.flag (ETH_STAT.LINK (s.g (BRG_TUN_LOCAL.A.at k))) = true →
    s.rateOk 9 (body.length + 4) = true → s.hasRoom p f.cls (tilesFor (body.length + 4)) false = true →
    ∃ t, exec (.tunnelFrameArrive f none) s = .next t ∧ t.sw.waiting = s.sw.waiting ∧ t.regs = s.regs ∧
      t.sw.queues = s.sw.queues ++ [⟨p, f.cls, tilesFor (body.length + 4), false, s.sw.nextId, ethFrame f.cls body⟩])
/-! ### Clepsydra (ch. 8) -/

/-- R260, R264 to R266. TIME_INC_WRITE completes an increment within its range, and is refused with CFG and counted outside it; TIME_SLEW_WRITE
stores the slew; SLEW_END is the last slewed tick; TIME_STEP_WRITE moves time by its signed step and TIME_SET_WRITE sets it, both counted in STEPCNT,
a step above 1,000 ns and every set being refused while RING_CFG.EN is 1, and a set with NS above 999,999,999 always.
Model's readings and choices: log entry 65. -/
def Obligations.TimeIsSteered : Prop :=
  (∀ (m : Master) (lo hi : Word) (s : State), s.serves m TIME_INC_HI.off 2 → mwGet s.staging m.mid.val TIME_INC_LO.off = some lo →
    let v := lo.toNat + 2 ^ 32 * (hi.toNat % 2 ^ 8)
    (0x03F0000000 ≤ v → v ≤ 0x0410000000 → ∃ t, exec (.timeIncWrite m hi) s = .next t ∧ t.toldOK m ∧ t.rd64 TIME_INC_LO.off = v ∧
      t.clep = s.clep ∧ s.sameRegs t [TIME_INC_LO.off, TIME_INC_HI.off]) ∧
    (v < 0x03F0000000 ∨ 0x0410000000 < v → ∃ t, exec (.timeIncWrite m hi) s = .next t ∧ s.timeRefused t m)) ∧
  (∀ (m : Master) (inc cnt : Word) (s : State), s.serves m TIME_SLEW_CNT.off 2 →
    mwGet s.staging m.mid.val TIME_SLEW_INC.off = some inc →
    ∃ t, exec (.timeSlewWrite m cnt) s = .next t ∧ t.toldOK m ∧ t.g TIME_SLEW_INC.DELTA = TIME_SLEW_INC.DELTA.get inc ∧
      t.g TIME_SLEW_CNT.CNT = TIME_SLEW_CNT.CNT.get cnt ∧ t.clep = s.clep ∧ s.sameRegs t [TIME_SLEW_INC.off, TIME_SLEW_CNT.off]) ∧
  (∀ s : State, s.resetReq = none → s.g TIME_SLEW_CNT.CNT = 1 → s.clep.ns < 1000000000 → s.clep.frac < 2 ^ 32 → s.clep.sec + 1 < 2 ^ 48 →
    0 ≤ ((s.clep.ns * 2 ^ 32 + s.clep.frac : Nat) : Int) + s.tickInc →
    ∃ t, exec .slewEnd s = .next t ∧ t.g TIME_SLEW_CNT.CNT = 0 ∧
      t.absNs * 2 ^ 32 + (t.clep.frac : Int) = s.absNs * 2 ^ 32 + (s.clep.frac : Int) + s.tickInc ∧
      s.sameRegs t [TIME_SLEW_CNT.off] ∧ { t with regs := s.regs, clep := s.clep } = s) ∧
  (∀ (m : Master) (val : Word) (s : State), s.serves m TIME_STEP.off 2 → (s.flag RING_CFG.EN = true → val.toInt.natAbs ≤ 1000) →
    ∃ t, exec (.timeStepWrite m val) s = .next t ∧ t.toldOK m ∧ t.absNs = (s.absNs + val.toInt) % (2 ^ 48 * 1000000000) ∧
      t.clep.frac = s.clep.frac ∧ t.g TIME_STAT.STEPCNT = (s.g TIME_STAT.STEPCNT + 1) % 256) ∧
  (∀ (m : Master) (val : Word) (s : State), s.serves m TIME_STEP.off 2 → s.flag RING_CFG.EN = true → 1000 < val.toInt.natAbs →
    ∃ t, exec (.timeStepWrite m val) s = .next t ∧ s.timeRefused t m) ∧
  (∀ (m : Master) (ns lo hi : Word) (s : State), s.serves m TIME_SET_SEC_HI.off 2 → mwGet s.staging m.mid.val TIME_SET_NS.off = some ns →
    mwGet s.staging m.mid.val TIME_SET_SEC_LO.off = some lo → s.flag RING_CFG.EN = false → ns.toNat < 1000000000 →
    ∃ t, exec (.timeSetWrite m hi) s = .next t ∧ t.toldOK m ∧ t.clep.ns = ns.toNat ∧
      t.clep.sec = lo.toNat + 2 ^ 32 * (hi.toNat % 2 ^ 16) ∧ t.clep.frac = 0 ∧
      t.g TIME_STAT.STEPCNT = (s.g TIME_STAT.STEPCNT + 1) % 256) ∧
  (∀ (m : Master) (ns lo hi : Word) (s : State), s.serves m TIME_SET_SEC_HI.off 2 → mwGet s.staging m.mid.val TIME_SET_NS.off = some ns →
    mwGet s.staging m.mid.val TIME_SET_SEC_LO.off = some lo → (s.flag RING_CFG.EN = true ∨ 1000000000 ≤ ns.toNat) →
    ∃ t, exec (.timeSetWrite m hi) s = .next t ∧ s.timeRefused t m)

/-- R271, R274, R275. The first SYNC of a cycle at a port, from the current master with this node's EPOCH, is captured (SYNC_RECEIVE): its offset,
TURNS, HOPS, STEPCNT and CYCLE are shown, with the event. PTP_EVENT_RECEIVE of an event message, at a port in no transparent-clock mode, hands it to
the CPU port with its stamp behind it, with the event. PTP_STAMP_POP of the head takes it.
Model's readings and choices: log entries 178 and 179. -/
def Obligations.SyncAndPtp : Prop :=
  (∀ (p : Fin 4) (f : Frame) (q : Fin 16) (s : State), s.resetReq = none → f.typ = tySync → f.src ≠ s.node → s.curM = f.src →
    let y := decSync f.payload
    y.epoch = s.epochSec → s.flag TIME_CFG.CAPT_EN = true → s.clep.syncSeen.contains (p.val, y.cycle) = false →
    (s.port p.val).rx = none → f.turns < 4 → f.hops < 256 →
    ∃ t, exec (.syncReceive p f q) s = .next t ∧
      t.rd64 (TIME_SYNC_OFF_LO.off p.val) = wrapInt 64 (s.syncOff p.val f y q.val) ∧
      t.flag (TIME_SYNC_INFO.VALID p.val) = true ∧ t.g (TIME_SYNC_INFO.TURNS p.val) = f.turns ∧
      t.g (TIME_SYNC_INFO.HOPS p.val) = f.hops ∧ t.g (TIME_SYNC_INFO.STEPCNT p.val) = y.stepcnt ∧
      t.g (TIME_SYNC_INFO.CYCLE p.val) = y.cycle % 256 ∧
      (t.g TIME_STAT.SEEN).testBit p.val = true ∧ t.evPend (evTime 2) = true ∧
      t.clep = { s.clep with syncSeen := (p.val, y.cycle) :: s.clep.syncSeen.filter (fun e => e.1 != p.val) } ∧
      s.keepsRegs t [TIME_SYNC_OFF_LO.off p.val, TIME_SYNC_OFF_LO.off p.val + 4, TIME_SYNC_INFO.off p.val, TIME_STAT.off] ∧
      { t.bare with clep := s.clep } = s.bare) ∧
  (∀ (n : Fin 4) (bytes : List Byte) (q : Fin 16) (k : Nat) (s : State), s.resetReq = none → s.ptpAt n.val bytes = some k →
    s.ethUp n.val = true → ptpEvent (ptpType bytes k) = true → etherType bytes ≠ 0x8808 → 60 ≤ bytes.length → bytes.length ≤ 2044 →
    s.g (TIME_PTP_CFG.TC n.val) = 0 → s.g (ETH_CFG.FC n.val) = 0 → s.noMirror → s.sw.frames = [] → s.cpuIdle →
    (∀ e ∈ s.sw.queues, e.port ≠ 10) → (∀ w ∈ s.sw.waiting, w.inPort ≠ 4 + n.val) →
    let c := s.ethClass n.val bytes
    let st := s.stampQ q.val
    let l := bytes ++ (bytesBE 6 st.1 ++ bytesBE 4 st.2.1 ++ bytesBE 2 st.2.2)
    s.hasRoom 8 c (tilesFor (l.length + 4)) false = true →
    ∃ t, exec (.ptpEventReceive n bytes q none) s = .next t ∧ t.evPend (evEth n.val 3) = true ∧
      SMap.get (fun _ => []) t.sw.handed 8 = l ∧ t.sw.queues = s.sw.queues ∧
      (ptpType bytes k = 2 → (t.ethp n.val).pdelay = some (be2 bytes (k + 30), s.now4 q.val)) ∧
      s.keepsRegs t [ETH_RX_BYTES_LO.off n.val, ETH_RX_BYTES_HI.off n.val, ETH_RX_FRAMES_LO.off n.val, ETH_RX_FRAMES_HI.off n.val]) ∧
  (∀ (m : Master) (n : Fin 4) (val : Word) (e : PtpStamp) (l : List PtpStamp) (s : State), s.serves m (TIME_PTP_TX_POP.off n.val) 2 →
    s.ptpQ n.val = e :: l → (TIME_PTP_TX_POP.SEQID n.val).get val = e.seqId →
    ∃ t, exec (.ptpStampPop m n val) s = .next t ∧ t.toldOK m ∧ t.ptpQ n.val = l ∧
      (t.evPend (evTime 5) = true ∨ l = []) ∧ s.keepsRegs t [])

/-- R277 to R279, R281, R283. PIN_EDGE of a captured edge appends it to its bank's queue with its stamp; EDGE_POP of the head takes it.
TIMED_ACTION_FIRE and TIMED_PULSE_END perform the pin's first pending action at its instant on D(n); ACTION_FLUSH discards the pending ones of a
pin, or all; LATE_POP of the head takes it.
Model's readings and choices: log entries 67 and 177. -/
def Obligations.EdgesAndTimedActions : Prop :=
  (∀ (n : Fin 256) (rising : Bool) (sub : Fin 4) (s : State), s.resetReq = none → s.captures n.val rising = true →
    s.flag (FIO_PIN_CFG.QOFF n.val) = false → (s.edgeQ (n.val / 32)).length < 256 → s.clep.edgeLost = [] → s.clep.edgeStep = [] →
    let stamp := (s.fns48 + sub.val) % 2 ^ 48
    ∃ t, exec (.pinEdge n rising sub) s = .next t ∧
      t.edgeQ (n.val / 32) = s.edgeQ (n.val / 32) ++
        [⟨n.val, stamp, rising, false, false, SMap.get (fun _ => 0) s.clep.edgeSerial (n.val / 32)⟩] ∧
      (s.edgeQ (n.val / 32) = [] → t.evPend (evTime (8 + n.val / 32)) = true) ∧
      SMap.get (fun _ => 0) t.pins.stampLatch n.val = stamp % 2 ^ 32) ∧
  (∀ (m : Master) (b : Fin 8) (val : Word) (e : EdgeEnt) (l : List EdgeEnt) (s : State), s.serves m (TIME_EDGE_POP.off b.val) 2 →
    s.edgeQ b.val = e :: l → (TIME_EDGE_POP.SERIAL b.val).get val = e.serial →
    ∃ t, exec (.edgePop m b val) s = .next t ∧ t.toldOK m ∧ t.edgeQ b.val = l ∧ (l ≠ [] → t.evPend (evTime (8 + b.val)) = true) ∧
      s.keepsRegs t []) ∧
  (∀ (pin : Fin 256) (a : TAct) (s : State), s.resetReq = none → firstAct (s.pinActs pin.val) = some a → a.pin = pin.val →
    s.come a.g = true →
    let level := match a.kind with | .low => false | .high => true | .toggle => !s.dlev pin.val
    (a.second = false → ∃ t, exec (.timedActionFire pin) s = .next t ∧ t.dlev pin.val = level ∧
      t.clep = { s.clep with acts := s.clep.acts.filter (fun b => !(b == a)) } ∧ s.sameRegs t [FIO_LEVEL.off (pin.val / 16)]) ∧
    (a.second = true → ∃ t, exec (.timedPulseEnd pin) s = .next t ∧ t.dlev pin.val = level ∧
      t.clep = { s.clep with acts := s.clep.acts.filter (fun b => !(b == a)) } ∧ s.sameRegs t [FIO_LEVEL.off (pin.val / 16)])) ∧
  (∀ (m : Master) (val : Word) (s : State), s.serves m TIME_ACT_FLUSH.off 2 → (∀ a ∈ s.clep.acts, s.come a.g = false) →
    ∃ t, exec (.actionFlush m val) s = .next t ∧ t.toldOK m ∧ t.clep = { s.clep with
        acts := if TIME_ACT_FLUSH.ALL.get val = 1 then [] else s.clep.acts.filter (fun a => a.pin != TIME_ACT_FLUSH.PIN.get val) } ∧
      t.regs = s.regs) ∧
  (∀ (m : Master) (val : Word) (e : LateEnt) (l : List LateEnt) (s : State), s.serves m TIME_LATE_POP.off 2 → s.clep.late = e :: l →
    TIME_LATE_POP.SERIAL.get val = e.serial →
    ∃ t, exec (.latePop m val) s = .next t ∧ t.toldOK m ∧ t.clep = { s.clep with late := l } ∧ t.regs = s.regs)

/-- R284, R329. TRIGGER_ARM of a trigger that does not fire at that tick stores the target and EN, and whether it is past; TRIGGER_FIRE at its instant sets FIRED, clears EN, raises the event, sets LATE only where it was
armed at a past instant, and fires every armed start group that it is the source of. -/
def Obligations.Triggers : Prop :=
  (∀ (m : Master) (n : Fin 8) (lo hi : Word) (s : State), s.serves m (TIME_TRIG_HI.off n.val) 2 →
    mwGet s.staging m.mid.val (TIME_TRIG_LO.off n.val) = some lo →
    (s.flag (TIME_TRIG_HI.EN n.val) && s.come (s.trigG n.val)) = false →
    ∃ t, exec (.triggerArm m n hi) s = .next t ∧ t.toldOK m ∧ t.g (TIME_TRIG_LO.TARGET n.val) = lo.toNat ∧
      t.g (TIME_TRIG_HI.TARGET n.val) = (TIME_TRIG_HI.TARGET n.val).get hi ∧ t.g (TIME_TRIG_HI.EN n.val) = (TIME_TRIG_HI.EN n.val).get hi ∧
      (t.clep.trigPast.contains n.val = (t.flag (TIME_TRIG_HI.EN n.val) && t.come (t.trigG n.val))) ∧
      s.sameRegs t [TIME_TRIG_LO.off n.val, TIME_TRIG_HI.off n.val]) ∧
  (∀ (n : Fin 8) (s : State), s.resetReq = none → s.flag (TIME_TRIG_HI.EN n.val) = true → s.come (s.trigG n.val) = true →
    ∃ t, exec (.triggerFire n) s = .next t ∧ t.flag (TIME_TRIG_HI.FIRED n.val) = true ∧ t.flag (TIME_TRIG_HI.EN n.val) = false ∧
      (s.clep.trigPast.contains n.val = true → t.flag (TIME_TRIG_HI.LATE n.val) = true) ∧
      (s.clep.trigPast.contains n.val = false → t.flag (TIME_TRIG_HI.LATE n.val) = s.flag (TIME_TRIG_HI.LATE n.val)) ∧
      t.evPend (evTime 6) = true ∧
      (∀ g, g < 8 → s.flag (JET_GRP_CFG.ARM g) = true → s.g (JET_GRP_CFG.SRC g) = n.val + 1 → (t.rd JET_GRP_STAT.off).getLsbD g = true) ∧
      t.flow = s.flow ∧ t.pts = s.pts)

/-! ### Fountainhead units (ch. 9) -/

/-- R290 to R293, R298, R308, R419. VOTED_OUTPUT of three copies that agree reads or stores in the unit's banks and answers. A mismatch, a word
that fails its SECDED, a STEP_TIMEOUT of more than STEP_TMO, WATCHDOG_EXPIRE, and DOMAIN_SUPPLY_TRIP of the unit's domain each start a fail-over
with their cause recorded; DOMAIN_SUPPLY_TRIP of another domain is counted and raises a Severe fault.
WATCHDOG_KICK restarts the watchdog. SIDE_EFFECT_READ_KEPT stores the response in FH_LOST unless an entry is there.
Model's readings and choices: log entries 72, 75, 76, 77, 180 and 183. -/
def Obligations.VotedStepsAndTriggers : Prop :=
  (∀ (u : Fin 2) (c : CoreStep) (s : State), s.resetReq = none → s.unitRuns u.val = true → c.addr.toNat < 0x90000 → c.ok = true →
    s.sump.inj = [] →
    (c.data = [] → ∃ t, exec (.votedOutput u c c c false) s = .next t ∧ t.fh = { s.stepFh u.val c.user with reading := none } ∧
      t.resp = some ⟨2 + 2 * u.val + b2n c.user, stOK, (List.range c.len).map (fun i => s.bankByte u.val (c.addr.toNat + i))⟩ ∧
      t.regs = s.regs ∧ t.pts = s.pts) ∧
    (c.data ≠ [] → ∃ t, exec (.votedOutput u c c c false) s = .next t ∧ t.resp = some ⟨2 + 2 * u.val + b2n c.user, stOK, []⟩ ∧
      t.fh = { s.stepFh u.val c.user with reading := none, mem := t.fh.mem } ∧
      (∀ i, i < c.data.length → t.bankByte u.val (c.addr.toNat + i) = c.data.getD i 0) ∧
      (∀ v a, a < 2 ^ 20 → ¬ (v = u.val ∧ c.addr.toNat ≤ a ∧ a < c.addr.toNat + c.data.length) → t.bankByte v a = s.bankByte v a) ∧
      t.regs = s.regs ∧ t.pts = s.pts)) ∧
  (∀ (u : Fin 2) (c0 c1 c2 : CoreStep) (bad : Bool) (s : State), s.guarded u.val → s.sump.inj = [] → ¬ (c0 = c1 ∧ c1 = c2) →
    ∃ t, exec (.votedOutput u c0 c1 c2 bad) s = .next t ∧
      s.failedOver t u.val 1 (if c0 = c1 then 2 else if c0 = c2 then 1 else if c1 = c2 then 0 else 3) c0.kind.val c0.addr.toNat) ∧
  (∀ (u : Fin 2) (c : CoreStep) (s : State), s.guarded u.val → s.sump.inj = [] → c.addr.toNat < 0x90000 → c.data = [] →
    ∃ t, exec (.votedOutput u c c c true) s = .next t ∧ s.failedOver t u.val 2 3 c.kind.val c.addr.toNat) ∧
  (∀ (u : Fin 2) (core : Fin 3) (kind : Fin 4) (addr : BitVec 32) (late : Nat) (d : Fin 16) (s : State), s.guarded u.val → d.val = u.val + 1 →
    (s.rd PWR_SUPPLY_FLT.off).toNat + 1 < 0xFFFFFFFF →
    (1000 * max 1 (s.g FH_CTRL.STEP_TMO) < late →
      ∃ t, exec (.stepTimeout u core kind addr late) s = .next t ∧ s.failedOver t u.val 3 core.val kind.val addr.toNat) ∧
    (s.g FH_CTRL.WDOG ≠ 0 → 1000000 * (s.g FH_CTRL.WDOG : Int) ≤ s.absNs - s.fh.wdogAt →
      ∃ t, exec .watchdogExpire s = .next t ∧ s.failedOver t u.val 4 3 0 0) ∧
    (∃ t, exec (.domainSupplyTrip d) s = .next t ∧ s.failedOver t u.val 5 3 0 0 ∧
      (t.rd PWR_SUPPLY_FLT.off).toNat = (s.rd PWR_SUPPLY_FLT.off).toNat + 1)) ∧
  (∀ (d : Fin 16) (s : State), s.resetReq = none → s.domOn d.val = true → d.val ≠ 1 → d.val ≠ 2 → d.val ≠ 6 →
    (s.rd PWR_SUPPLY_FLT.off).toNat + 1 < 0xFFFFFFFF →
    ∃ t, exec (.domainSupplyTrip d) s = .next t ∧ (t.rd PWR_SUPPLY_FLT.off).toNat = (s.rd PWR_SUPPLY_FLT.off).toNat + 1 ∧
      t.evPend (evPwr 5) = true ∧ clSevere ≤ t.evKept (evPwr 5) ∧ s.keepsRegs t [PWR_SUPPLY_FLT.off] ∧ t.bare = s.bare) ∧
  (∀ (m : Master) (s : State), s.serves m FH_WDOG.off 2 → s.fhMiss m FH_WDOG.off = false →
    ∃ t, exec (.watchdogKick m) s = .next t ∧ t.toldOK m ∧ t.fh = { s.fh with wdogAt := s.absNs } ∧ t.regs = s.regs ∧ t.pts = s.pts) ∧
  (∀ (addr len status : Nat) (data : List Byte) (s : State), s.resetReq = none → s.fh.reading = some (addr, len, status, data) →
    s.flag FH_STAT.SAFE = true → s.flag FH_LOST0.VALID = false → addr < 2 ^ 64 → status < 256 →
    ∃ t, exec .sideEffectReadKept s = .next t ∧ t.fh = { s.fh with reading := none } ∧ t.flag FH_LOST0.VALID = true ∧
      t.g FH_LOST0.STATUS = status ∧ t.g FH_LOST0.LEN = min len 8 ∧ t.rd64 FH_LOST1.off = addr ∧
      t.rd64 FH_LOST3.off = natLE (data.take 8) % 2 ^ 64 ∧
      s.sameRegs t [FH_LOST0.off, FH_LOST1.off, FH_LOST2.off, FH_LOST3.off, FH_LOST4.off])

/-- R294 to R296, R298 to R300, R303, R305, R308. STANDBY_READY lets the restoring unit run with its data banks cleared; FH_RELEASE by its
supervisor makes it the active one and leaves safe state; FAILOVER_DEADLINE passed raises a Severe fault. REARM_PROOF, PROOF_WAKE_START and
PROOF_COMMAND begin a proof-wake, and PROOF_WAKE_DONE ends it in STANDBY or, with the failed step, in FAILED. CHECKPOINT_START and
CHECKPOINT_COMMAND begin a copy into the other slot, and CHECKPOINT_COMPLETE ends it, the newest complete slot being shown. ZONE_BUDGET_EXHAUST
marks the program that runs, with interrupt 16.
Model's readings and choices: log entries 71, 72 and 73. -/
def Obligations.FailOverAndProofs : Prop :=
  (∀ (u : Nat) (s : State), s.resetReq = none → u < 2 → s.unit u = fhRestore → s.unit (1 - u) ≠ fhRestore → s.domOn (u + 1) = true →
    s.fh.resumed = none →
    ∃ t, exec .standbyReady s = .next t ∧ t.fh.resumed = some u ∧ t.fh.halted.contains u = false ∧ t.unitRuns u = true ∧
      (∀ v a, a < 0x90000 → t.bankByte v a = if v = u ∧ a < 0x80000 ∧ s.progBank (a / 65536) = false then 0 else s.bankByte v a) ∧
      t.regs = s.regs ∧ t.pts = s.pts) ∧
  (∀ (u : Nat) (m : Master) (at_ : Int) (s : State), s.serves m FH_CMD.off 2 → supUnit m.mid.val = some u → s.unit u = fhRestore →
    s.unit (1 - u) = fhFailed → s.fh.resumed = some u → s.fh.trig = some at_ → s.fh.stuck = false → s.ust = usIdle → s.upd.rec_ ≠ 1 →
    (s.rd FH_FO_CNT.off).toNat + 1 < 0xFFFFFFFF →
    ∃ t, exec (.fhRelease m) s = .next t ∧ t.toldOK m ∧ t.active = u ∧ t.unit u = fhActive ∧ t.unit (1 - u) = fhFailed ∧
      t.flag FH_STAT.SAFE = false ∧ t.g FH_FO_TIME.TIME = min ((s.absNs - at_) / 1000).toNat 65535 ∧
      (t.rd FH_FO_CNT.off).toNat = (s.rd FH_FO_CNT.off).toNat + 1 ∧ t.evPend (evFh 3) = true ∧
      t.fh = { s.fh with
        released := true, trig := none, resumed := none, wdogAt := s.absNs,
        rearm := if s.flag FH_CTRL.REARM then some (1 - u, s.absNs + 100000000) else none } ∧
      s.keepsRegs t ([FH_STAT.off, FH_FO_TIME.off, FH_FO_CNT.off] ++ powerRegs)) ∧
  (∀ (at_ : Int) (s : State), s.resetReq = none → s.fh.trig = some at_ → s.fh.stuck = false →
    1000000 * (max 1 (s.g FH_CTRL.RESUME) : Nat) ≤ s.absNs - at_ →
    ∃ t, exec .failoverDeadline s = .next t ∧ t.fh = { s.fh with stuck := true } ∧ t.evPend (evFh 6) = true ∧
      clSevere ≤ t.evKept (evFh 6) ∧ s.keepsRegs t []) ∧
  (∀ (u : Nat) (at_ : Int) (m : Master) (s : State), s.resetReq = none → u < 2 →
    (s.fh.rearm = some (u, at_) → at_ ≤ s.absNs → s.unit u = fhFailed → s.dom (u + 1) ≠ dsOff →
      ∃ t, exec .rearmProof s = .next t ∧ t.unit u = fhProof ∧ t.fh.proof = some u ∧ t.fh.rearm = none ∧
        s.sameRegs t (FH_STAT.off :: powerRegs)) ∧
    (s.standby = u → s.unit u = fhStandby → s.flag FH_PROOF_CFG.EN = true →
      3600000000000 * (clampNat 1 720 (s.g FH_PROOF_CFG.PERIOD) : Nat) ≤ s.absNs - s.fh.proofAt →
      ∃ t, exec .proofWakeStart s = .next t ∧ t.unit u = fhProof ∧ t.fh = { s.fh with proofAt := s.absNs, proof := some u } ∧
        s.sameRegs t (FH_STAT.off :: powerRegs)) ∧
    (s.standby = u → s.unit u = fhStandby → s.serves m FH_CMD.off 2 → s.fhMiss m FH_CMD.off = false →
      ∃ t, exec (.proofCommand m) s = .next t ∧ t.toldOK m ∧ t.unit u = fhProof ∧ t.fh = { s.fh with proof := some u } ∧
        s.sameRegs t (FH_STAT.off :: powerRegs)) ∧
    (s.fh.proof = some u → s.domOn (u + 1) = true → ∀ (k : Fin 6) (w : Nat), (s.rd FH_PROOF_FAIL.off).toNat + 1 < 0xFFFFFFFF →
      (s.rd FH_ECC_CORR.off).toNat + w < 0xFFFFFFFF →
      (∃ t, exec (.proofWakeDone none w) s = .next t ∧ t.unit u = fhStandby ∧ t.fh = { s.fh with proof := none, passAt := some s.absNs } ∧
        t.flag FH_PROOF_STAT.DONE = true ∧ t.flag FH_PROOF_STAT.PASS = true ∧ t.g FH_PROOF_STAT.STEP = 0 ∧
        (t.rd FH_ECC_CORR.off).toNat = (s.rd FH_ECC_CORR.off).toNat + w) ∧
      (∃ t, exec (.proofWakeDone (some k) w) s = .next t ∧ t.unit u = fhFailed ∧ t.fh = { s.fh with proof := none } ∧
        t.flag FH_PROOF_STAT.DONE = true ∧ t.flag FH_PROOF_STAT.PASS = false ∧ t.g FH_PROOF_STAT.STEP = k.val + 1 ∧
        (t.rd FH_PROOF_FAIL.off).toNat = (s.rd FH_PROOF_FAIL.off).toNat + 1 ∧ t.evPend (evFh 4) = true ∧ clDegraded ≤ t.evKept (evFh 4)))) ∧
  (∀ (m : Master) (s : State), s.unitRuns s.active = true → s.domOn 8 = true → s.fh.copy = none → s.resetReq = none →
    let slot := match s.newestSlot with | some (k, _) => 1 - k | none => 0
    let seq := (s.fh.ckSeq + 1) % 2 ^ 32
    let c : Ckpt := ⟨seq, s.fns48, (s.rd RING_CYCLE.off).toNat, (s.rd CFG_IMAGE_ID.off).toNat, s.active,
      (List.range 8).map (fun r => s.rd (FH_CKPT_RGN.off r)), (List.range 1024).map (fun f => s.nextOf f), s.ckptData s.active⟩
    (s.flag FH_CKPT_CFG.EN = true → s.fh.ckAt ≤ s.fns →
      ∃ t, exec .checkpointStart s = .next t ∧ t.flag FH_CKPT_STAT.BUSY = true ∧ t.fh.ckSeq = seq ∧ t.fh.copy = some (slot, c) ∧
        SMap.get (fun _ => none) t.fh.slots slot = none ∧ t.fh.ckAt = s.fns + 1000000 * (clampNat 5 1000 (s.g FH_CKPT_CFG.INTERVAL) : Nat) ∧ t.fh.mem = s.fh.mem ∧
        s.sameRegs t [FH_CKPT_STAT.off]) ∧
    (s.serves m FH_CMD.off 2 → s.fhMiss m FH_CMD.off = false →
      ∃ t, exec (.checkpointCommand m) s = .next t ∧ t.toldOK m ∧ t.flag FH_CKPT_STAT.BUSY = true ∧ t.fh.ckSeq = seq ∧
        t.fh.copy = some (slot, c) ∧ SMap.get (fun _ => none) t.fh.slots slot = none ∧ t.fh.ckAt = s.fh.ckAt ∧ t.fh.mem = s.fh.mem ∧ s.sameRegs t [FH_CKPT_STAT.off])) ∧
  (∀ (slot : Fin 2) (c : Ckpt) (s : State), s.resetReq = none → s.fh.copy = some (slot.val, c) →
    ∃ t, exec .checkpointComplete s = .next t ∧ t.fh = { s.fh with copy := none, slots := SMap.set (fun _ => none) s.fh.slots slot.val (some c) } ∧
      t.flag FH_CKPT_STAT.BUSY = false ∧ t.flag FH_CKPT_STAT.VALID = true ∧
      t.newestSlot.any (fun e => t.g FH_CKPT_STAT.SLOT == e.1 && t.g FH_CKPT_SEQ.SEQ == e.2.seq % 2 ^ 32) = true ∧ s.sameRegs t [FH_CKPT_STAT.off, FH_CKPT_SEQ.off]) ∧
  (∀ (n : Nat) (s : State), s.resetReq = none → s.zoneRuns = some n → s.flag (FH_ZP_CFG.EN n) = true →
    s.g (FH_ZP_CFG.BUDGET n) * s.periodNs ≤ s.zoneNs n * 1000 → s.fh.zoneOver.contains n = false →
    (s.rd FH_OVERRUN_CNT.off).toNat + 1 < 0xFFFFFFFF →
    let run := min 15 (s.g (FH_ZP_STAT.RUNOVR n) + 1)
    ∃ t, exec .zoneBudgetExhaust s = .next t ∧ t.fh = { s.fh with zoneOver := n :: s.fh.zoneOver } ∧ t.irq16 = true ∧ t.flag (FH_ZP_STAT.OVR n) = true ∧
      t.g (FH_ZP_STAT.RUNOVR n) = run ∧ (t.rd FH_OVERRUN_CNT.off).toNat = (s.rd FH_OVERRUN_CNT.off).toNat + 1 ∧
      (s.g (FH_ZP_CFG.LIMIT n) ≠ 0 → s.g (FH_ZP_CFG.LIMIT n) ≤ run →
        t.flag (FH_ZP_STAT.SUSP n) = true ∧ (s.flag (FH_ZP_STAT.SUSP n) = false → t.evPend (evFh 5) = true)) ∧
      s.keepsRegs t [FH_ZP_STAT.off n, FH_OVERRUN_CNT.off])

/-! ### Jets and field pins (ch. 10) -/

/-- R318 to R322, R324. At a tick of a running Jet each word does what the word table says: GOTO jumps where its condition holds; SET, SEND and RECV
move slot levels; LOAD and POST take and give words, or stall; NSET, REP, WAITE, MARK, PACK and SIG act on the counts, the repeat
unit, M, D and the bank's signals. An illegal word stops the Jet with FAULT and leaves PC.
Model's readings and choices: log entry 181. -/
def Obligations.JetWords : Prop :=
  (∀ (j : Fin 64) (s : State), s.jetAt j.val 0x0 →
    let w := s.jetWord j.val
    ∃ t, exec (.jetGoto j) s = .next t ∧ t.pins = s.pins ∧ s.jetFrame t j.val [] ∧
      (if s.jetCond j.val (bitsOf w 8 4) then t.g (JET_PC.PC j.val) = w % 128 ∧ t.g (JET_STAT.STATE j.val) = jsRunning ∧
        t.jet j.val = { s.jet j.val with lcnt := 0, seen := false }
      else s.jetDid t j.val (s.jet j.val) [])) ∧
  (∀ (j : Fin 64) (s : State), s.jetAt j.val 0x1 →
    let w := s.jetWord j.val
    let old := s.jet j.val
    ∃ t, exec (.jetSet j) s = .next t ∧ s.jetDid t j.val { old with
        out := (t.jet j.val).out, side := (t.jet j.val).side, outEn := (t.jet j.val).outEn } [] ∧
      (∀ k, k < 8 → (t.jet j.val).out.getLsbD k =
        if k / 4 = bitsOf w 9 3 ∧ w.testBit (4 + k % 4) = true then w.testBit (k % 4) else old.out.getLsbD k) ∧
      (∀ k, k < 4 → (t.jet j.val).side.getLsbD k =
        if bitsOf w 9 3 = 2 ∧ w.testBit (4 + k) = true then w.testBit k else old.side.getLsbD k) ∧
      (∀ k, k < 8 → (t.jet j.val).outEn.getLsbD k =
        if 3 + k / 4 = bitsOf w 9 3 ∧ w.testBit (4 + k % 4) = true then w.testBit (k % 4) else old.outEn.getLsbD k)) ∧
  (∀ (j : Fin 64) (s : State), s.jetAt j.val 0x2 →
    let k := bitsOf (s.jetWord j.val) 9 3
    let n := s.outPin j.val k
    let old := s.jet j.val
    let up := s.flag (JET_FRAME.ORDER j.val)
    let b := if old.cur = 0 then s.flag (JET_FRAME.IDLE j.val) else (s.jetD j.val).getLsbD (if up then 31 else 0)
    ∃ t, exec (.jetSend j) s = .next t ∧ s.jetDid t j.val { old with cur := old.cur - 1, out := (t.jet j.val).out } [JET_D.off j.val] ∧
      (∀ i, i < 8 → (t.jet j.val).out.getLsbD i = if i = k then b else old.out.getLsbD i) ∧
      t.jetD j.val = (if old.cur = 0 then s.jetD j.val else if up then s.jetD j.val <<< 1 else s.jetD j.val >>> 1) ∧
      ((s.g (JET_MAPEN.OUT_EN j.val)).testBit k = true → s.owner n = 2 → s.g (FIO_PIN_CFG.JET n) = j.val → s.flag FH_STAT.SAFE = false →
        t.pins.padLevel.getLsbD n = b ∧ t.pins.padEn.getLsbD n = old.outEn.getLsbD k) ∧
      (∀ x, x ≠ n → t.pins.padLevel.getLsbD x = s.pins.padLevel.getLsbD x ∧ t.pins.padEn.getLsbD x = s.pins.padEn.getLsbD x)) ∧
  (∀ (j : Fin 64) (s : State), s.jetAt j.val 0x3 →
    let b := if s.slotIn j.val (bitsOf (s.jetWord j.val) 9 3) then (1 : Word) else 0
    ∃ t, exec (.jetRecv j) s = .next t ∧ s.jetDid t j.val { s.jet j.val with cur := min 32 ((s.jet j.val).cur + 1) } [JET_D.off j.val] ∧
      t.jetD j.val = (if s.flag (JET_FRAME.ORDER j.val) then (s.jetD j.val <<< 1) ||| b else (s.jetD j.val >>> 1) ||| (b <<< 31)) ∧
      t.pins = s.pins) ∧
  (∀ (j : Fin 64) (s : State), s.jetAt j.val 0x4 →
    let old := s.jet j.val
    let put := fun (x : Word) => if s.flag (JET_FRAME.ORDER j.val) then x <<< (32 - s.frameW j.val) else x
    (s.flag (JET_PNT_TX.EN j.val) = true → s.flag (JET_PNT_TX.QGATE j.val) = false → s.pointOld (s.g (JET_PNT_TX.POINT j.val)) = false →
      s.tileGood (s.g (JET_PNT_TX.POINT j.val) / 16) →
      ∃ t, exec (.jetLoad j) s = .next t ∧ s.jetStepped t j.val ∧ (∀ i, i ≠ j.val → t.jet i = s.jet i) ∧
        t.jet j.val = { old with cur := s.frameW j.val, lcnt := (t.jet j.val).lcnt, seen := false } ∧ t.pts.recs = s.pts.recs ∧
        s.sameRegs t [JET_PC.off j.val, JET_STAT.off j.val, JET_D.off j.val] ∧
        t.jetD j.val = put ((s.pt (s.g (JET_PNT_TX.POINT j.val))).value.setWidth 32) ∧ t.pins = s.pins) ∧
    (s.flag (JET_PNT_TX.EN j.val) = false → ∃ t, exec (.jetLoad j) s = .next t ∧ t.pins = s.pins ∧
      (if old.tx ≠ [] then s.jetDid t j.val { old with cur := s.frameW j.val, tx := old.tx.tail } [JET_D.off j.val] ∧
          t.jetD j.val = put (old.tx.headD 0)
        else if (s.jetWord j.val).testBit 11 then s.jetDid t j.val { old with cur := 0 } []
        else t.g (JET_STAT.STATE j.val) = jsStallLoad ∧ t.jets = s.jets ∧ s.sameRegs t [JET_STAT.off j.val]))) ∧
  (∀ (j : Fin 64) (s : State), s.jetAt j.val 0x5 →
    let old := s.jet j.val
    let i := s.g (JET_PNT_RX.POINT j.val)
    let x : Word := if old.cur = 0 then 0 else if s.flag (JET_FRAME.ORDER j.val) then s.jetD j.val &&& BitVec.ofNat 32 (2 ^ old.cur - 1)
      else s.jetD j.val >>> (32 - old.cur)
    (s.flag (JET_PNT_RX.EN j.val) = true → (s.pt i).typ = tyU32 → ∃ t, exec (.jetPost j) s = .next t ∧
      (t.pt i).value = x.setWidth 64 ∧ (t.pt i).stamp = s.fns48 ∧ (t.pt i).qual = qGood ∧
      s.jetStepped t j.val ∧ t.jetD j.val = 0 ∧ t.jet j.val = { old with cur := 0, lcnt := (t.jet j.val).lcnt, seen := false }) ∧
    (s.flag (JET_PNT_RX.EN j.val) = false → (s.rd (JET_POST_DROP.off j.val)).toNat + 1 < 0xFFFFFFFF →
      ∃ t, exec (.jetPost j) s = .next t ∧ t.pins = s.pins ∧
        (if old.rx.length < 4 then s.jetDid t j.val { old with cur := 0, rx := old.rx ++ [x] } [JET_D.off j.val] ∧ t.jetD j.val = 0
        else if (s.jetWord j.val).testBit 11 then
          s.jetDid t j.val { old with cur := 0 } [JET_D.off j.val, JET_POST_DROP.off j.val] ∧ t.jetD j.val = 0 ∧
            (t.rd (JET_POST_DROP.off j.val)).toNat = (s.rd (JET_POST_DROP.off j.val)).toNat + 1
        else t.g (JET_STAT.STATE j.val) = jsStallPost ∧ t.jets = s.jets ∧ s.sameRegs t [JET_STAT.off j.val]))) ∧
  (∀ (j : Fin 64) (s : State), s.jetAt j.val 0x6 →
    let w := s.jetWord j.val
    let f := if w.testBit 11 then JET_N.N1 j.val else JET_N.N0 j.val
    ∃ t, exec (.jetNset j) s = .next t ∧ s.jetDid t j.val (s.jet j.val) [JET_N.off j.val] ∧ t.pins = s.pins ∧
      t.g f = (if w.testBit 10 then s.g f - 1 else w % 256) ∧
      t.g (if w.testBit 11 then JET_N.N0 j.val else JET_N.N1 j.val) = s.g (if w.testBit 11 then JET_N.N0 j.val else JET_N.N1 j.val)) ∧
  (∀ (j : Fin 64) (s : State), s.jetAt j.val 0x7 →
    ∃ t, exec (.jetRep j) s = .next t ∧ s.jetFrame t j.val [] ∧ t.pins = s.pins ∧
      t.g (JET_PC.PC j.val) = (s.g (JET_PC.PC j.val) + 1) % 128 ∧ t.g (JET_STAT.STATE j.val) = jsRunning ∧
      t.jet j.val = { s.jet j.val with
        ls := s.g (JET_PC.PC j.val) + 1, le := s.g (JET_PC.PC j.val) + bitsOf (s.jetWord j.val) 8 4 + 1,
        lcnt := s.jetWord j.val % 256, seen := false }) ∧
  (∀ (j : Fin 64) (s : State), s.jetAt j.val 0x8 →
    let w := s.jetWord j.val
    let kind := bitsOf w 10 2
    let i := bitsOf w 6 3
    let at_ := (if kind = 1 then s.sig j.val i else s.slotIn j.val i) = w.testBit 9
    let f := if w.testBit 5 then JET_N.N1 j.val else JET_N.N0 j.val
    ∃ t, exec (.jetWaite j) s = .next t ∧ t.pins = s.pins ∧
      (kind < 3 → if at_ ∧ (kind = 2 → (s.jet j.val).seen = true) then s.jetDid t j.val (s.jet j.val) []
        else t.g (JET_STAT.STATE j.val) = jsWait ∧ s.sameRegs t [JET_STAT.off j.val] ∧
          t.jet j.val = { s.jet j.val with seen := (s.jet j.val).seen || (decide (kind = 2) && !decide at_) }) ∧
      (kind = 3 → if s.g f = 0 then s.jetDid t j.val (s.jet j.val) []
        else t.g f = s.g f - 1 ∧ t.jets = s.jets ∧ s.sameRegs t [JET_N.off j.val, JET_STAT.off j.val])) ∧
  (∀ (j : Fin 64) (s : State), s.jetAt j.val 0x9 →
    let fn := bitsOf (s.jetWord j.val) 9 3
    let m := s.rd (JET_M.off j.val)
    ∃ t, exec (.jetMark j) s = .next t ∧ t.pins = s.pins ∧
      s.jetDid t j.val (if fn = 2 then { s.jet j.val with cur := 32 } else s.jet j.val) [JET_M.off j.val, JET_D.off j.val] ∧
      t.jetD j.val = (if fn = 2 then m else s.jetD j.val) ∧
      t.rd (JET_M.off j.val) = (if fn = 0 then BitVec.ofNat 32 (s.slotStamp j.val) else if fn = 1 then s.jetD j.val else if fn = 2 then m
        else if fn = 3 then m + 1 else if fn = 4 then m - 1 else 0)) ∧
  (∀ (j : Fin 64) (s : State), s.jetAt j.val 0xA →
    let w := s.jetWord j.val
    let src := bitsOf w 10 2
    let x := if src = 0 then (s.rd (JET_M.off j.val)).toNat else if src = 1 then s.slotStamp j.val else if src = 2 then 0 else 2 ^ 32 - 1
    let n := if w % 32 = 0 then 32 else w % 32
    ∃ t, exec (.jetPack j) s = .next t ∧ t.pins = s.pins ∧
      s.jetDid t j.val { s.jet j.val with cur := min 32 ((s.jet j.val).cur + n) } [JET_D.off j.val] ∧
      (∀ k, k < 32 → (t.jetD j.val).getLsbD k =
        if s.flag (JET_FRAME.ORDER j.val) then (if k < n then x.testBit (n - 1 - k) else (s.jetD j.val).getLsbD (k - n))
        else if 32 - n ≤ k then x.testBit (k + n - 32) else (s.jetD j.val).getLsbD (k + n))) ∧
  (∀ (j : Fin 64) (s : State), s.jetAt j.val 0xB →
    let w := s.jetWord j.val
    ∃ t, exec (.jetSig j) s = .next t ∧ t.pins = s.pins ∧ s.jetStepped t j.val ∧
      t.jet j.val = { s.jet j.val with lcnt := (t.jet j.val).lcnt, seen := false } ∧
      (∀ i, i < 8 → t.sig j.val i = if i = bitsOf w 8 3 then w.testBit 11 else s.sig j.val i) ∧
      (w.testBit 7 = true → t.flag (JET_STAT.EVT j.val) = true ∧ t.evPend (evJet j.val) = true) ∧
      s.keepsRegs t [JET_PC.off j.val, JET_STAT.off j.val, JET_SIG.off]) ∧
  (∀ (j : Fin 64) (s : State), s.resetReq = none → s.jetRuns j.val = true → s.jetIllegal j.val (s.jetWord j.val) = true →
    ∃ t, exec (.jetFault j) s = .next t ∧ t.flag (JET_CTRL.RUN j.val) = false ∧ t.g (JET_STAT.STATE j.val) = jsFault ∧
      t.evPend (evJet j.val) = true ∧ t.jets = s.jets ∧ t.pins = s.pins ∧ s.keepsRegs t [JET_CTRL.off j.val, JET_STAT.off j.val])

/-- R309 to R315, R323, R327 to R330. The Jets' registers: JET_TX and JET_RX_POP work their files, JET_CTRL runs, stops, steps and clears,
JET_PC, JET_D and JET_PROG are written, and a start group fires and acts on its members with the configuration of the
firing, the tick generators of its mask restarting. Field pins: owner, direct levels, input and output bindings, the
filter, the count, the bank supply's monitor and a level change at the ball.
Model's readings and choices: log entries 78, 79, 80, 181, 182, 184 and 185. -/
def Obligations.JetCommandsAndPins : Prop :=
  (∀ (m : Master) (j : Fin 64) (val : Word) (s : State), s.serves m (JET_TX.off j.val) 2 →
    (s.rd (JET_TX_OVF.off j.val)).toNat + 1 < 0xFFFFFFFF →
    ∃ t, exec (.jetTxWrite m j val) s = .next t ∧ t.toldOK m ∧ (∀ i, i ≠ j.val → t.jet i = s.jet i) ∧
      t.jet j.val = (if (s.jet j.val).tx.length < 4 then { s.jet j.val with tx := (s.jet j.val).tx ++ [val] } else s.jet j.val) ∧
      (t.rd (JET_TX_OVF.off j.val)).toNat = (s.rd (JET_TX_OVF.off j.val)).toNat + (if (s.jet j.val).tx.length < 4 then 0 else 1) ∧
      s.sameRegs t [JET_TX_OVF.off j.val]) ∧
  (∀ (m : Master) (j : Fin 64) (val : Word) (s : State), s.serves m (JET_RX_POP.off j.val) 2 →
    (s.rd (JET_RX_UNDER.off j.val)).toNat + 1 < 0xFFFFFFFF →
    ∃ t, exec (.jetRxPop m j val) s = .next t ∧ t.toldOK m ∧ (∀ i, i ≠ j.val → t.jet i = s.jet i) ∧
      t.jet j.val = { s.jet j.val with rx := (s.jet j.val).rx.tail } ∧
      (t.rd (JET_RX_UNDER.off j.val)).toNat = (s.rd (JET_RX_UNDER.off j.val)).toNat + (if (s.jet j.val).rx = [] then 1 else 0) ∧
      s.sameRegs t [JET_RX_UNDER.off j.val]) ∧
  (∀ (m : Master) (j : Fin 64) (s : State), s.serves m (JET_CTRL.off j.val) 2 →
    (∃ t, exec (.jetRun m j) s = .next t ∧ t.toldOK m ∧ t.flag (JET_CTRL.RUN j.val) = true ∧ t.jets = s.jets ∧
      t.g (JET_STAT.STATE j.val) = (if s.flag (JET_CTRL.RUN j.val) then s.g (JET_STAT.STATE j.val) else jsRunning) ∧
      t.g (JET_CTRL.TG j.val) = s.g (JET_CTRL.TG j.val) ∧ s.sameRegs t [JET_CTRL.off j.val, JET_STAT.off j.val]) ∧
    (∃ t, exec (.jetStop m j) s = .next t ∧ t.toldOK m ∧ t.flag (JET_CTRL.RUN j.val) = false ∧ t.jets = s.jets ∧
      t.g (JET_STAT.STATE j.val) = (if s.flag (JET_CTRL.RUN j.val) then jsStopped else s.g (JET_STAT.STATE j.val)) ∧
      s.sameRegs t [JET_CTRL.off j.val, JET_STAT.off j.val]) ∧
    (jetOp (s.jetWord j.val) = 6 → s.jetIllegal j.val (s.jetWord j.val) = false → (s.jetWord j.val).testBit 11 = false →
      (s.jetWord j.val).testBit 10 = false → (s.jet j.val).lcnt = 0 →
      ∃ t, exec (.jetStep m j) s = .next t ∧ t.toldOK m ∧ t.flag (JET_CTRL.RUN j.val) = false ∧
        t.g (JET_STAT.STATE j.val) = jsStopped ∧ t.g (JET_N.N0 j.val) = s.jetWord j.val % 256 ∧
        t.g (JET_PC.PC j.val) = (s.g (JET_PC.PC j.val) + 1) % 128 ∧
        s.sameRegs t [JET_CTRL.off j.val, JET_STAT.off j.val, JET_PC.off j.val, JET_N.off j.val]) ∧
    (∃ t, exec (.jetClear m j) s = .next t ∧ t.toldOK m ∧ t.flag (JET_CTRL.RUN j.val) = s.flag (JET_CTRL.RUN j.val) ∧
      t.jet j.val = { s.jet j.val with tx := [], rx := [], cur := 0, lcnt := 0 } ∧ t.jetD j.val = 0 ∧
      (∀ i, i ≠ j.val → t.jet i = s.jet i) ∧ s.sameRegs t [JET_CTRL.off j.val, JET_D.off j.val])) ∧
  (∀ (m : Master) (j : Fin 64) (k : Fin 128) (val : Word) (s : State),
    (s.serves m (JET_PC.off j.val) 2 → ∃ t, exec (.jetPcWrite m j val) s = .next t ∧ t.toldOK m ∧ t.g (JET_PC.PC j.val) = val.toNat % 128 ∧
      t.jet j.val = { s.jet j.val with lcnt := 0, seen := false } ∧
      t.g (JET_STAT.STATE j.val) = (if s.flag (JET_CTRL.RUN j.val) then jsRunning else jsStopped) ∧
      s.sameRegs t [JET_PC.off j.val, JET_STAT.off j.val]) ∧
    (s.serves m (JET_D.off j.val) 2 → ∃ t, exec (.jetDWrite m j val) s = .next t ∧ t.toldOK m ∧ t.jetD j.val = val ∧
      t.jet j.val = { s.jet j.val with cur := s.frameW j.val } ∧ s.sameRegs t [JET_D.off j.val]) ∧
    (s.serves m (JET_PROG.off j.val k.val) 2 → ∃ t, exec (.jetProgWrite m j k val) s = .next t ∧ t.toldOK m ∧
      t.g (JET_PROG.WORD j.val k.val) = val.toNat % 65536 ∧ t.jets = s.jets ∧ s.sameRegs t [JET_PROG.off j.val k.val])) ∧
  (∀ (m : Master) (g : Nat) (s : State), s.serves m JET_GRP_GO.off 2 → g < 8 →
    ∃ t, exec (.jetGroupGo m (BitVec.ofNat 32 (2 ^ g))) s = .next t ∧ t.toldOK m ∧
      t.jets = { s.jets with fired := s.jets.fired ++
        [⟨g, 0, s.rd (JET_GRP_CFG.off g), s.rd (JET_GRP_LO.off g), s.rd (JET_GRP_HI.off g)⟩,
          ⟨g, 1, s.rd (JET_GRP_CFG.off g), s.rd (JET_GRP_LO.off g), s.rd (JET_GRP_HI.off g)⟩] } ∧
      t.rd JET_GRP_STAT.off = s.rd JET_GRP_STAT.off ||| BitVec.ofNat 32 (2 ^ g) ∧ s.sameRegs t [JET_GRP_STAT.off]) ∧
  (∀ (b : Fin 2) (f : GrpFire) (s : State), s.resetReq = none → s.domOn (12 + b.val) = true → f.bank = b.val → s.jets.fired = [f] →
    let action := (JET_GRP_CFG.ACTION f.grp).get f.cfg
    ∃ t, exec (.jetGroupAct b) s = .next t ∧ t.jets.fired = [] ∧ t.pins = s.pins ∧
      (∀ k, k < 4 → SMap.get (fun _ => 0) t.jets.tgRestarts (4 * b.val + k) =
        if ((JET_GRP_CFG.TGMASK f.grp).get f.cfg).testBit (4 * b.val + k) then s.fns48
        else SMap.get (fun _ => 0) s.jets.tgRestarts (4 * b.val + k)) ∧
      (∀ k, k < 32 → f.member (32 * b.val + k) = true →
        (action = 0 → t.flag (JET_CTRL.RUN (32 * b.val + k)) = true ∧ t.g (JET_STAT.STATE (32 * b.val + k)) = jsRunning ∧
          t.jet (32 * b.val + k) = s.jet (32 * b.val + k) ∧ t.g (JET_PC.PC (32 * b.val + k)) = s.g (JET_PC.PC (32 * b.val + k))) ∧
        (action = 1 → t.flag (JET_CTRL.RUN (32 * b.val + k)) = false ∧
          t.g (JET_STAT.STATE (32 * b.val + k)) = jsStopped ∧ t.jet (32 * b.val + k) = s.jet (32 * b.val + k)) ∧
        (action = 2 → t.flag (JET_CTRL.RUN (32 * b.val + k)) = true ∧
          t.g (JET_PC.PC (32 * b.val + k)) = s.g (JET_CTRL.ENTRY (32 * b.val + k)) ∧ t.jetD (32 * b.val + k) = 0 ∧
          t.jet (32 * b.val + k) = { s.jet (32 * b.val + k) with cur := 0, lcnt := 0, seen := false })) ∧
      (∀ j, (j / 32 ≠ b.val ∨ f.member j = false) → t.jet j = s.jet j ∧ t.rd (JET_CTRL.off j) = s.rd (JET_CTRL.off j) ∧
        t.rd (JET_STAT.off j) = s.rd (JET_STAT.off j) ∧ t.rd (JET_PC.off j) = s.rd (JET_PC.off j))) ∧
  (∀ (m : Master) (n : Fin 256) (val : Word) (s : State), s.serves m (FIO_PIN_CFG.off n.val) 2 →
    (s.rd FIO_CFGERR_CNT.off).toNat + 1 < 0xFFFFFFFF →
    let own := (FIO_PIN_CFG.OWNER n.val).get val
    ∃ t, exec (.pinOwnerWrite m n val) s = .next t ∧
      (if own = 3 ∨ (FIO_PIN_CFG.PULL n.val).get val = 3 then
        t.toldCfg m ∧ t.pins = s.pins ∧ (t.rd FIO_CFGERR_CNT.off).toNat = (s.rd FIO_CFGERR_CNT.off).toNat + 1 ∧
          t.evPend (evFio 1) = true ∧ s.keepsRegs t [FIO_CFGERR_CNT.off]
      else t.toldOK m ∧ t.owner n.val = own ∧ t.g (FIO_PIN_CFG.JET n.val) = (FIO_PIN_CFG.JET n.val).get val ∧
        t.g (FIO_PIN_CFG.SAFE n.val) = (FIO_PIN_CFG.SAFE n.val).get val ∧ s.sameRegs t [FIO_PIN_CFG.off n.val] ∧
        (own = 0 → t.pins.padEn.getLsbD n.val = false) ∧
        (own = 1 → t.pins.padEn.getLsbD n.val = true ∧ t.pins.padLevel.getLsbD n.val = s.dlev n.val) ∧ (own = 2 → t.pins = s.pins) ∧
        (∀ x, x ≠ n.val → t.pins.padLevel.getLsbD x = s.pins.padLevel.getLsbD x ∧ t.pins.padEn.getLsbD x = s.pins.padEn.getLsbD x))) ∧
  (∀ (m : Master) (k : Fin 16) (val : Word) (s : State), s.serves m (FIO_LEVEL.off k.val) 2 →
    ∃ t, exec (.pinLevelWrite m k val) s = .next t ∧ t.toldOK m ∧ s.sameRegs t [FIO_LEVEL.off k.val] ∧
      (∀ j, j < 16 → t.dlev (16 * k.val + j) = (if val.getLsbD (16 + j) then val.getLsbD j else s.dlev (16 * k.val + j)) ∧
        (val.getLsbD (16 + j) = true → s.owner (16 * k.val + j) = 1 → t.pins.padLevel.getLsbD (16 * k.val + j) = val.getLsbD j) ∧
        (s.owner (16 * k.val + j) ≠ 1 → t.pins.padLevel.getLsbD (16 * k.val + j) = s.pins.padLevel.getLsbD (16 * k.val + j)))) ∧
  (∀ (m : Master) (n : Fin 256) (val : Word) (s : State),
    (s.serves m (FIO_PIN_IN.off n.val) 2 → (FIO_PIN_IN.EN n.val).get val = 1 → (FIO_PIN_IN.MODE n.val).get val = 0 →
      s.flag (FIO_PIN_IN.EN n.val) = false → (s.rd FIO_CFGERR_CNT.off).toNat + 1 < 0xFFFFFFFF →
      let i := (FIO_PIN_IN.POINT n.val).get val
      ∃ t, exec (.pinInBindWrite m n val) s = .next t ∧
        (if (s.pt i).typ = tyBit ∧ s.ownerKind i = okField then
          t.toldOK m ∧ t.g (FIO_PIN_IN.POINT n.val) = i ∧ t.flag (FIO_PIN_IN.EN n.val) = true ∧
            (t.pt i).value = BitVec.ofNat 64 (b2n (s.pins.ball.getLsbD n.val)) ∧ (t.pt i).stamp = s.fns48 ∧
            (t.pt i).qual = (if s.bankGood (n.val / 32) then qGood else qFault)
        else t.toldCfg m ∧ t.pts = s.pts ∧ t.pins = s.pins ∧ (t.rd FIO_CFGERR_CNT.off).toNat = (s.rd FIO_CFGERR_CNT.off).toNat + 1 ∧
          s.keepsRegs t [FIO_CFGERR_CNT.off])) ∧
    (s.serves m (FIO_PIN_OUT.off n.val) 2 → (FIO_PIN_OUT.EN n.val).get val = 1 → (FIO_PIN_OUT.MODE n.val).get val = 0 →
      (FIO_PIN_OUT.QGATE n.val).get val = 0 → s.flag (FIO_PIN_OUT.EN n.val) = false → (s.rd FIO_CFGERR_CNT.off).toNat + 1 < 0xFFFFFFFF →
      let i := (FIO_PIN_OUT.POINT n.val).get val
      ∃ t, exec (.pinOutBindWrite m n val) s = .next t ∧ t.pts = s.pts ∧
        (if (s.pt i).typ = tyBit then
          t.toldOK m ∧ t.g (FIO_PIN_OUT.POINT n.val) = i ∧ t.flag (FIO_PIN_OUT.EN n.val) = true ∧
            t.dlev n.val = (s.pt i).value.getLsbD 0 ∧ (s.owner n.val = 1 → t.pins.padLevel.getLsbD n.val = (s.pt i).value.getLsbD 0)
        else t.toldCfg m ∧ t.pins = s.pins ∧ (t.rd FIO_CFGERR_CNT.off).toNat = (s.rd FIO_CFGERR_CNT.off).toNat + 1 ∧
          s.keepsRegs t [FIO_CFGERR_CNT.off]))) ∧
  (∀ (n : Fin 256) (stamp k : Nat) (s : State), s.resetReq = none → s.flag (FIO_PIN_IN.EN n.val) = true →
    let i := s.g (FIO_PIN_IN.POINT n.val)
    let q := if s.bankGood (n.val / 32) then qGood else qFault
    (s.flag (FIO_PIN_IN.MODE n.val) = false → (s.pt i).typ = tyBit → SMap.get (fun _ => none) s.pins.filtFrom n.val = some stamp →
      stamp < 2 ^ 48 → s.g (FIO_PIN_IN.FILT n.val) * 1000 ≤ (s.fns48 + 2 ^ 48 - stamp) % 2 ^ 48 →
      ∃ t, exec (.pinFilterExpire n) s = .next t ∧ t.pins.present.getLsbD n.val = s.pins.ball.getLsbD n.val ∧
        (t.pt i).value = BitVec.ofNat 64 (b2n (s.pins.ball.getLsbD n.val)) ∧ (t.pt i).stamp = stamp ∧ (t.pt i).qual = q) ∧
    (s.flag (FIO_PIN_IN.MODE n.val) = true → (s.pt i).typ = tyCount → SMap.get (fun _ => 0) s.pins.rises n.val = k → k ≠ 0 →
      (SMap.get (fun _ => none) s.pins.countAt n.val).all (fun t => decide (t + 1000 ≤ s.absNs)) = true →
      encOk tyCount (((s.pt i).value.toNat + k) % 2 ^ 64) = true →
      ∃ t, exec (.pinCountWrite n) s = .next t ∧ SMap.get (fun _ => 0) t.pins.rises n.val = 0 ∧
        (t.pt i).value.toNat = ((s.pt i).value.toNat + k) % 2 ^ 64 ∧
        (t.pt i).stamp = SMap.get (fun _ => 0) s.pins.riseStamp n.val % 2 ^ 48 ∧ (t.pt i).qual = q)) ∧
  (∀ (b : Fin 8) (mv : Nat) (s : State), s.resetReq = none → s.boundIns = [] → (s.rd FIO_VIO_FAIL.off).toNat + 1 < 0xFFFFFFFF →
    let code := s.g (FIO_BANK_CFG.VIO b.val)
    let good := decide ((code = 1 ∧ 1620 ≤ mv ∧ mv ≤ 1980) ∨ (code = 2 ∧ 2250 ≤ mv ∧ mv ≤ 2750) ∨ (code = 3 ∧ 2970 ≤ mv ∧ mv ≤ 3630))
    let falls := s.bankGood b.val && !good && decide (code ≠ 0)
    ∃ t, exec (.vioBankGoodChange b mv) s = .next t ∧ t.bankGood b.val = good ∧ t.pts = s.pts ∧
      (t.rd FIO_VIO_FAIL.off).toNat = (s.rd FIO_VIO_FAIL.off).toNat + b2n falls ∧
      (falls = true → t.evPend (evFio 2) = true ∧ clDegraded ≤ t.evKept (evFio 2)) ∧
      s.keepsRegs t [FIO_BANK_STAT.off b.val, FIO_VIO_FAIL.off]) ∧
  (∀ (n : Fin 256) (level : Bool) (sub : Fin 4) (s : State), s.resetReq = none →
    ∃ t, exec (.fieldPinLevelChange n level sub) s = .next t ∧ t.pins.ball.getLsbD n.val = level ∧
      (∀ x, x ≠ n.val → t.pins.ball.getLsbD x = s.pins.ball.getLsbD x) ∧
      (s.flag (FIO_PIN_IN.EN n.val) = false → t.pts = s.pts ∧ t.regs = s.regs ∧ { t.pins with ball := s.pins.ball } = s.pins) ∧
      (s.flag (FIO_PIN_IN.EN n.val) = true → s.flag (FIO_PIN_IN.MODE n.val) = false → s.g (FIO_PIN_IN.FILT n.val) = 0 →
        s.pins.ball.getLsbD n.val ≠ level → (s.pt (s.g (FIO_PIN_IN.POINT n.val))).typ = tyBit →
        (t.pt (s.g (FIO_PIN_IN.POINT n.val))).value = BitVec.ofNat 64 (b2n level) ∧
          (t.pt (s.g (FIO_PIN_IN.POINT n.val))).stamp = (s.fns48 + sub.val) % 2 ^ 48) ∧
      (s.flag (FIO_PIN_IN.EN n.val) = true → s.flag (FIO_PIN_IN.MODE n.val) = false → s.g (FIO_PIN_IN.FILT n.val) ≠ 0 →
        s.pins.ball.getLsbD n.val ≠ level → t.pts = s.pts ∧ SMap.get (fun _ => none) t.pins.filtFrom n.val =
          if level = s.pins.present.getLsbD n.val then none else some ((s.fns48 + sub.val) % 2 ^ 48)) ∧
      (s.flag (FIO_PIN_IN.EN n.val) = true → s.flag (FIO_PIN_IN.MODE n.val) = true → s.pins.ball.getLsbD n.val = false → level = true →
        t.pts = s.pts ∧ SMap.get (fun _ => 0) t.pins.rises n.val = SMap.get (fun _ => 0) s.pins.rises n.val + 1 ∧
          SMap.get (fun _ => 0) t.pins.riseStamp n.val = (s.fns48 + sub.val) % 2 ^ 48))

/-! ### Cisterns and CAN (ch. 11, 12) -/

/-- R336 to R341, R343, R345, R346, R349. CISTERN_PUSH extends the open packet, or waits where it has no room; CISTERN_PUSH_CLOSE and CISTERN_CLOSE
close it, CISTERN_ABORT and CISTERN_ABORT_CMD drop it; a push by another master is refused with OWNER. CISTERN_POP returns the words in order,
then idle items; an uncorrectable data word ends its status at DATA, an uncorrectable header empties the Cistern. CISTERN_PUSH_RESUME performs the
push that waited longest once it has room, CISTERN_TUNNEL_TAKE submits a packet of at most 256 bytes as one segment, CISTERN_FLUSH drops the closed
packets or stays pending inside one, and CST_TLOG_POP removes the entry whose SERIAL it names.
Model's readings and choices: log entries 82, 84, 86, 186 and 187. -/
def Obligations.CisternsHoldPackets : Prop :=
  (∀ (m : Master) (n : Fin 256) (typ : Fin 128) (data : List Byte) (s : State), s.feedsCistern m n.val →
    let c := s.cist n.val
    let b := c.opened.getD []
    data.length ≤ 256 → cstWords (b.length + data.length) ≤ s.cstSize n.val - 1 →
    (data.length % 4 = 0 → 4 ≤ data.length → ∃ t, exec (.cisternPush m n data) s = .next t ∧ s.cistFrame t n.val [] ∧
      (if c.fill + c.need data.length ≤ s.cstSize n.val then t.toldOK m ∧ t.cist n.val = { c with opened := some (b ++ data) }
      else t.resp = s.resp ∧ t.cist n.val = { c with waits := c.waits ++ [⟨m, 0, 0, data⟩] })) ∧
    (c.fill + c.need data.length ≤ s.cstSize n.val → 1 ≤ data.length →
      ∃ t, exec (.cisternPushClose m n typ data) s = .next t ∧ t.toldOK m ∧ s.cistFrame t n.val [CST_PKTS.off n.val] ∧
        t.cist n.val = { c with
          opened := none,
          closed := c.closed ++ [⟨if typ.val = 0 then s.g (CST_CFG.TYPE n.val) else typ.val, (b ++ data).length, packWords (b ++ data)⟩] } ∧
        (s.g (CST_CFG.SVC n.val) ≠ 0 → t.flag (CST_STAT.NOTICE n.val) = true ∧ t.evPend (evCistern n.val) = true))) ∧
  (∀ (m : Master) (n : Fin 256) (typ : Fin 128) (b : List Byte) (s : State), s.feedsCistern m n.val → (s.cist n.val).opened = some b →
    (s.rd CST_DROP.off).toNat + 1 < 0xFFFFFFFF →
    (cstWords b.length ≤ s.cstSize n.val - 1 → (s.cist n.val).fill ≤ s.cstSize n.val →
      ∃ t, exec (.cisternClose m n typ) s = .next t ∧ t.toldOK m ∧ s.cistFrame t n.val [CST_PKTS.off n.val] ∧
        t.cist n.val = { s.cist n.val with
          opened := none,
          closed := (s.cist n.val).closed ++ [⟨if typ.val = 0 then s.g (CST_CFG.TYPE n.val) else typ.val, b.length, packWords b⟩] }) ∧
    (∃ t, exec (.cisternAbort m n) s = .next t ∧ t.toldOK m ∧ s.cistFrame t n.val [CST_DROP.off] ∧
      t.cist n.val = { s.cist n.val with opened := none } ∧ (t.rd CST_DROP.off).toNat = (s.rd CST_DROP.off).toNat + 1) ∧
    (s.serves m (CST_CMD.off n.val) 2 → ∃ t, exec (.cisternAbortCmd m n) s = .next t ∧ t.toldOK m ∧ s.cistFrame t n.val [CST_DROP.off] ∧
      t.cist n.val = { s.cist n.val with opened := none } ∧ (t.rd CST_DROP.off).toNat = (s.rd CST_DROP.off).toNat + 1)) ∧
  (∀ (m : Master) (n : Fin 256) (data : List Byte) (s : State), s.resetReq = none → s.spaceGate m 2 0 = 0 →
    s.cstProducer n.val none m.mid.val = false → data.length % 4 = 0 → 4 ≤ data.length → data.length ≤ 256 →
    ∃ t, exec (.cisternPush m n data) s = .next t ∧ t.resp = some ⟨m.mid.val, stOWNER, []⟩ ∧ t.cst = s.cst) ∧
  (∀ (m : Master) (n : Fin 256) (k corr : Nat) (s : State), s.resetReq = none → s.spaceGate m 2 0 = 0 → s.flag (CST_CFG.CONS n.val) = false →
    s.flag (CST_CFG.EN n.val) = true → s.flag (CST_STAT.FLUSH_PEND n.val) = false → 1 ≤ k → k ≤ 64 →
    (s.rd CST_ECC_CORR.off).toNat + corr < 0xFFFFFFFF →
    ∃ t, exec (.cisternPop m n (4 * k) none corr) s = .next t ∧
      t.resp = some ⟨m.mid.val, stOK, wordsBytes (((s.cist n.val).stream ++ List.replicate k idleItem).take k)⟩ ∧
      (t.cist n.val).stream = (s.cist n.val).stream.drop k ∧ (t.cist n.val).opened = (s.cist n.val).opened ∧
      (t.cist n.val).waits = (s.cist n.val).waits ∧ s.cistFrame t n.val [CST_ECC_CORR.off] ∧
      (t.rd CST_ECC_CORR.off).toNat = (s.rd CST_ECC_CORR.off).toNat + corr) ∧
  (∀ (m : Master) (n : Fin 256) (k : Nat) (s : State), s.resetReq = none → s.spaceGate m 2 0 = 0 → s.flag (CST_CFG.CONS n.val) = false →
    s.flag (CST_CFG.EN n.val) = true → 1 ≤ k → k ≤ 64 → (s.rd CST_ECC_UNCORR.off).toNat + 1 < 0xFFFFFFFF →
    (s.rd CST_DROP.off).toNat + (s.cist n.val).closed.length + 1 < 0xFFFFFFFF →
    (∀ w, (s.cist n.val).inside = [w] → s.flag (CST_STAT.FLUSH_PEND n.val) = false →
      ∃ t, exec (.cisternPop m n (4 * k) (some 0) 0) s = .next t ∧
        t.resp = some ⟨m.mid.val, stDATA, wordsBytes (((s.cist n.val).stream ++ List.replicate k idleItem).take k)⟩ ∧
        (t.cist n.val).stream = (s.cist n.val).stream.drop k ∧ clDegraded ≤ t.evKept (evCst 2) ∧
        (t.rd CST_ECC_UNCORR.off).toNat = (s.rd CST_ECC_UNCORR.off).toNat + 1) ∧
    ((s.cist n.val).inside = [] → (s.cist n.val).closed ≠ [] →
      ∃ t, exec (.cisternPop m n (4 * k) (some 0) 0) s = .next t ∧
        t.resp = some ⟨m.mid.val, stOK, wordsBytes (List.replicate k idleItem)⟩ ∧
        t.cist n.val = { s.cist n.val with closed := [], opened := none, sending := 0 } ∧ t.flag (CST_STAT.LOSTALL n.val) = true ∧
        t.flag (CST_STAT.FLUSH_PEND n.val) = false ∧ clDegraded ≤ t.evKept (evCst 2) ∧
        (t.rd CST_ECC_UNCORR.off).toNat = (s.rd CST_ECC_UNCORR.off).toNat + 1 ∧
        (t.rd CST_DROP.off).toNat =
          (s.rd CST_DROP.off).toNat + (s.cist n.val).closed.length + if (s.cist n.val).opened.isSome then 1 else 0)) ∧
  (∀ (n : Fin 256) (w : PushWait) (r : List PushWait) (s : State), s.feedsCistern w.m n.val → (s.cist n.val).waits = w :: r →
    w.port = 0 → w.typ < 128 → w.data.length % 4 = 0 → 4 ≤ w.data.length → w.data.length ≤ 256 →
    cstWords (((s.cist n.val).opened.getD []).length + w.data.length) ≤ s.cstSize n.val - 1 →
    ∃ t, exec (.cisternPushResume n) s = .next t ∧ s.cistFrame t n.val [] ∧
      (if (s.cist n.val).fill + (s.cist n.val).need w.data.length ≤ s.cstSize n.val then
        t.toldOK w.m ∧ t.cist n.val = { s.cist n.val with opened := some ((s.cist n.val).opened.getD [] ++ w.data), waits := r }
      else t = s)) ∧
  (∀ (n : Fin 256) (p : Packet) (tn : Nat) (s : State), s.resetReq = none → s.domOn 6 = true → s.flag (CST_CFG.EN n.val) = true →
    s.flag (CST_CFG.CONS n.val) = true → s.flag (CST_STAT.FLUSH_PEND n.val) = false → s.pktTunnel n.val = some tn →
    (s.cist n.val).closed[(s.cist n.val).sending]? = some p → p.len ≤ 256 → p.words.length = cstWords p.len → p.typ < 128 →
    s.flowRuns = true → s.flow.leaving = [] → s.flow.subs = [] → s.flow.arrWait = false → s.flow.opened = none →
    s.headClear 0 →
    let f := s.g (BRG_TUN_CFG.FLOW.at tn)
    let addr := s.g (BRG_TUN_REMOTE.NODE.at tn) * 2 ^ 48 + 2 * 2 ^ 40 + p.typ * 2 ^ 20 + s.g (BRG_TUN_REMOTE.RTUN.at tn) * 2 ^ 12 +
      (if p.len = 0 then 4 else 1) * 2 ^ 8
    let it : Item := { newItem f 0x10 addr p.bytes 0 (.cist tn n.val) with seg := 3 }
    s.submitCheck it = stOK → s.flowFull f = false → 4000 * accLines p.bytes.length ≤ s.budNow →
    ∃ t, exec (.cisternTunnelTake n none 0) s = .next t ∧ t.cist n.val = { s.cist n.val with sending := (s.cist n.val).sending + 1 } ∧
      t.flow.opened = some ⟨[.acc { it with seq := (s.fl f).next, inc := (s.fl f).inc } true], accLines p.bytes.length,
        s.absNs, s.absNs + s.commitNs⟩) ∧
  (∀ (n : Fin 256) (tn k : Nat) (s : State), s.resetReq = none → s.domOn 6 = true → s.flag (CST_CFG.EN n.val) = true →
    s.flag (CST_CFG.CONS n.val) = true → s.flag (CST_STAT.FLUSH_PEND n.val) = false → s.pktTunnel n.val = some tn →
    (s.cist n.val).sending < (s.cist n.val).closed.length → 1 ≤ k → (s.rd CST_ECC_UNCORR.off).toNat + 1 < 0xFFFFFFFF →
    (s.rd CST_DROP.off).toNat + 1 < 0xFFFFFFFF →
    ∃ t, exec (.cisternTunnelTake n (some k) 0) s = .next t ∧
      t.cist n.val = { s.cist n.val with closed := (s.cist n.val).closed.eraseIdx (s.cist n.val).sending } ∧
      s.cistFrame t n.val [CST_ECC_UNCORR.off, CST_DROP.off, CST_PKTS.off n.val] ∧ clDegraded ≤ t.evKept (evCst 2) ∧
      (t.rd CST_ECC_UNCORR.off).toNat = (s.rd CST_ECC_UNCORR.off).toNat + 1 ∧
      (t.rd CST_DROP.off).toNat = (s.rd CST_DROP.off).toNat + 1) ∧
  (∀ (m : Master) (n : Fin 256) (s : State), s.serves m (CST_CMD.off n.val) 2 → s.flag (CST_STAT.FLUSH_PEND n.val) = false →
    ∃ t, exec (.cisternFlush m n) s = .next t ∧ t.toldOK m ∧ s.cistFrame t n.val [] ∧
      (if (s.cist n.val).inside = [] ∧ (s.cist n.val).sending = 0 then t.cist n.val = { s.cist n.val with closed := [] } ∧
        t.flag (CST_STAT.FLUSH_PEND n.val) = false
      else t.cist n.val = s.cist n.val ∧ t.flag (CST_STAT.FLUSH_PEND n.val) = true)) ∧
  (∀ (m : Master) (val : Word) (e : TlogEnt) (r : List TlogEnt) (s : State), s.serves m CST_TLOG_POP.off 2 → s.cst.tlog = e :: r →
    ∃ t, exec (.cstTlogPop m val) s = .next t ∧ t.toldOK m ∧ t.regs = s.regs ∧ t.cst.cist = s.cst.cist ∧
      t.cst.tlog = if e.serial = CST_TLOG_POP.SERIAL.get val then r else e :: r)

/-- R350 to R354, R356 to R359, R362. A good frame is stored in the lowest object it matches, and overruns where that is unread; an error adds to
REC. CAN_TXREQ, CAN_CANCEL, CAN_COMMIT_DATA, CAN_RECOVER and CAN_PERIOD_EXPIRE act on their object; CAN_TX_COMMIT loads the pending object of lowest
identifier that may start, or the single attempt that waits, and CAN_TX_DONE ends it by its outcome. CAN_WINDOW_OPEN, CAN_TXEN_EXPIRE and
CAN_TT_APPLY run the schedule; CAN_RECOVERY_DONE and CAN_MODE_INIT_WRITE set the state.
Model's readings and choices: log entries 87, 88, 90, 144, 188 and 189. -/
def Obligations.CanControllers : Prop :=
  (∀ (n : Fin 8) (o : Fin 64) (f : CanFrame) (age : BitVec 24) (s : State), s.resetReq = none → s.domOn 11 = true →
    s.canMode n.val ≠ cmInit → s.canMode n.val ≠ cmLoop → s.canState n.val ≠ csBusOff → s.canState n.val ≠ csRecovering →
    (f.fdf = true → s.flag (CAN_CFG.FD n.val) = true) → f.dlc < 16 → s.objRx n.val o.val = true → s.objMatch n.val o.val f = true →
    (∀ k, k < 64 → k ≠ o.val → s.objRx n.val k = false ∨ s.objMatch n.val k f = false) → s.sigEntries false 1 n.val o.val = [] →
    s.canTunnel n.val o.val = none → (s.canc n.val).held = [] → (s.rd (CAN_RX_OVR.off n.val)).toNat + 1 < 0xFFFFFFFF →
    ∃ t, exec (.canFrameReceive n f age 0) s = .next t ∧
      t.rd64 (CAN_RX_FRAMES_LO.off n.val) = (s.rd64 (CAN_RX_FRAMES_LO.off n.val) + 1) % 2 ^ 64 ∧ t.can = s.can ∧ t.pts = s.pts ∧
      (s.flag ((CAN_OBJ_STAT.UNREAD n.val).at o.val) = false → (t.objLive n.val o.val).take (canData f).length = canData f ∧
        t.flag ((CAN_OBJ_STAT.UNREAD n.val).at o.val) = true ∧ t.g ((CAN_OBJ_STAT.DLC n.val).at o.val) = f.dlc ∧
        (t.rd (bankKey (CAN_OBJ_STAMP_LO.off n.val) o.val)).toNat +
          2 ^ 32 * (t.rd (bankKey (CAN_OBJ_STAMP_HI.off n.val) o.val)).toNat = s.sofStamp age.toNat ∧
        s.sameRegs t ([CAN_RX_FRAMES_LO.off n.val, CAN_RX_FRAMES_HI.off n.val, CAN_STAT.off n.val, bankKey (CAN_OBJ_STAT.off n.val) o.val,
          bankKey (CAN_OBJ_STAMP_LO.off n.val) o.val, bankKey (CAN_OBJ_STAMP_HI.off n.val) o.val] ++
          (List.range 16).map (fun k => CAN_OBJ_DATA.off n.val o.val k))) ∧
      (s.flag ((CAN_OBJ_STAT.UNREAD n.val).at o.val) = true → (t.rd (CAN_RX_OVR.off n.val)).toNat = (s.rd (CAN_RX_OVR.off n.val)).toNat + 1 ∧
        s.sameRegs t [CAN_RX_FRAMES_LO.off n.val, CAN_RX_FRAMES_HI.off n.val, CAN_STAT.off n.val, CAN_RX_OVR.off n.val])) ∧
  (∀ (n : Fin 8) (f : CanFrame) (age : BitVec 24) (err : Fin 9) (s : State), s.resetReq = none → s.domOn 11 = true →
    s.canMode n.val ≠ cmInit → s.canMode n.val ≠ cmLoop → s.canState n.val ≠ csBusOff → s.canState n.val ≠ csRecovering → err ≠ 0 →
    ∃ t, exec (.canFrameReceive n f age err) s = .next t ∧ t.g (CAN_STAT.REC n.val) = min 255 (s.g (CAN_STAT.REC n.val) + err.val) ∧
      s.sameRegs t [CAN_STAT.off n.val] ∧ t.can = s.can ∧ t.pts = s.pts) ∧
  (∀ (m : Master) (n : Fin 8) (o : Fin 64) (s : State), s.serves m (CAN_CMD.off n.val) 2 →
    (s.objTx n.val o.val = true → ∃ t, exec (.canTxreq m n o) s = .next t ∧ t.toldOK m ∧
      t.flag ((CAN_OBJ_STAT.PEND n.val).at o.val) = true ∧ t.can = s.can ∧ s.sameRegs t [bankKey (CAN_OBJ_STAT.off n.val) o.val]) ∧
    (s.flag ((CAN_OBJ_STAT.PEND n.val).at o.val) = true → (s.canc n.val).tx = none → (s.canc n.val).waitSingle = none →
      (s.rd (CAN_CANCEL_CNT.off n.val)).toNat + 1 < 0xFFFFFFFF → (s.rd (CAN_TX_FAIL.off n.val)).toNat + 1 < 0xFFFFFFFF →
      ∃ t, exec (.canCancel m n o) s = .next t ∧ t.toldOK m ∧ t.flag ((CAN_OBJ_STAT.PEND n.val).at o.val) = false ∧
        t.g ((CAN_OBJ_STAT.LAST n.val).at o.val) = laCANCELLED ∧ t.canc n.val = s.canc n.val ∧ t.evPend (evCan n.val) = true ∧
        (t.rd (CAN_CANCEL_CNT.off n.val)).toNat = (s.rd (CAN_CANCEL_CNT.off n.val)).toNat + 1 ∧
        (t.rd (CAN_TX_FAIL.off n.val)).toNat = (s.rd (CAN_TX_FAIL.off n.val)).toNat + 1) ∧
    (∀ x, (s.canc n.val).tx = some x → x.obj = o.val → (s.canc n.val).waitSingle = none →
      ∃ t, exec (.canCancel m n o) s = .next t ∧ t.toldOK m ∧ t.canc n.val = { s.canc n.val with tx := some { x with cancelled := true } } ∧
        t.flag ((CAN_OBJ_STAT.PEND n.val).at o.val) = false ∧ s.sameRegs t [bankKey (CAN_OBJ_STAT.off n.val) o.val]) ∧
    (∃ t, exec (.canCommitData m n o) s = .next t ∧ t.toldOK m ∧
      (∀ k, k < 16 → t.rd (CAN_OBJ_DATA.off n.val o.val k) = SMap.get (fun _ => 0) (s.canc n.val).shadow (16 * o.val + k)) ∧
      (t.canc n.val).tx = (s.canc n.val).tx ∧ s.sameRegs t ((List.range 16).map (fun k => CAN_OBJ_DATA.off n.val o.val k))) ∧
    (s.canState n.val = csBusOff → ∃ t, exec (.canRecover m n) s = .next t ∧ t.toldOK m ∧ t.canState n.val = csRecovering ∧
      t.can = s.can ∧ s.sameRegs t [CAN_STAT.off n.val]) ∧
    (s.canState n.val ≠ csBusOff → (s.rd (CAN_CFGERR_CNT.off n.val)).toNat + 1 < 0xFFFFFFFF →
      ∃ t, exec (.canRecover m n) s = .next t ∧ t.canState n.val = s.canState n.val ∧ t.can = s.can ∧
        (t.rd (CAN_CFGERR_CNT.off n.val)).toNat = (s.rd (CAN_CFGERR_CNT.off n.val)).toNat + 1)) ∧
  (∀ (n : Fin 8) (o : Fin 64) (s : State), s.resetReq = none → s.objTx n.val o.val = true →
    s.g ((CAN_OBJ_CFG.PERIOD n.val).at o.val) ≠ 0 →
    ∃ t, exec (.canPeriodExpire n o) s = .next t ∧
      (if (SMap.get (fun _ => none) (s.canc n.val).perAt o.val).all (fun j => decide (j < s.canPer n.val o.val)) then
        t.flag ((CAN_OBJ_STAT.PEND n.val).at o.val) = true ∧
          SMap.get (fun _ => none) (t.canc n.val).perAt o.val = some (s.canPer n.val o.val) ∧
          s.sameRegs t [bankKey (CAN_OBJ_STAT.off n.val) o.val]
      else t = s)) ∧
  (∀ (n : Fin 8) (o : Fin 64) (s : State), s.resetReq = none → s.canSends n.val = true → (s.canc n.val).tx = none →
    (s.canc n.val).waitSingle = none → s.objTx n.val o.val = true → s.flag ((CAN_OBJ_STAT.PEND n.val).at o.val) = true →
    (s.flag (CAN_CFG.TT n.val) = true → s.arbNow n.val = true ∧ s.arbOk n.val o.val = true) →
    (∀ k, k < 64 → k ≠ o.val → s.objTx n.val k = true → s.flag ((CAN_OBJ_STAT.PEND n.val).at k) = true →
      (s.flag (CAN_CFG.TT n.val) = true → s.arbOk n.val k = true) →
      s.objPrio n.val o.val < s.objPrio n.val k ∨ s.objPrio n.val o.val = s.objPrio n.val k ∧ o.val < k) →
    SMap.get (fun _ => none) (s.canc n.val).arr o.val = none →
    ∃ t, exec (.canTxCommit n) s = .next t ∧ t.flag ((CAN_OBJ_STAT.PEND n.val).at o.val) = false ∧
      (t.canc n.val).tx.map (fun x => (x.obj, x.single, x.cancelled)) = some (o.val, false, false) ∧
      (t.canc n.val).tx.map (fun x => (x.frame.id, x.frame.ide, x.frame.fdf, x.frame.brs, x.frame.rtr)) = some (s.g ((CAN_OBJ_ID.ID n.val).at o.val),
        s.flag ((CAN_OBJ_ID.IDE n.val).at o.val), s.flag ((CAN_OBJ_ID.FDF n.val).at o.val), s.flag ((CAN_OBJ_ID.BRS n.val).at o.val), false) ∧
      (t.canc n.val).tx.map (·.frame.data) = (t.canc n.val).tx.map (fun x => (t.objLive n.val o.val).take (dlcBytes x.frame.fdf x.frame.dlc))) ∧
  (∀ (n : Fin 8) (o : Fin 64) (r : Bool) (w : Int) (e : Nat) (s : State), s.resetReq = none →
    (s.canc n.val).waitSingle = some (o.val, r, w, e) → (s.rd (CAN_TX_FAIL.off n.val)).toNat + 1 < 0xFFFFFFFF →
    (s.canSends n.val = true → (s.canc n.val).tx = none → s.txenPast n.val w e = false →
      ∃ t, exec (.canTxCommit n) s = .next t ∧ (t.canc n.val).waitSingle = none ∧
        (t.canc n.val).tx.map (fun x => (x.obj, x.single, x.cancelled)) = some (o.val, true, false)) ∧
    (∃ t, exec (.canTxenExpire n) s = .next t ∧
      (if s.txenPast n.val w e then t.canc n.val = { s.canc n.val with waitSingle := none } ∧
        t.g ((CAN_OBJ_STAT.LAST n.val).at o.val) = laLATE ∧ t.evPend (evCan n.val) = true ∧
        (t.rd (CAN_TX_FAIL.off n.val)).toNat = (s.rd (CAN_TX_FAIL.off n.val)).toNat + 1
      else t = s))) ∧
  (∀ (n : Fin 8) (age : BitVec 24) (x : CanTx) (s : State), s.resetReq = none → (s.canc n.val).tx = some x → x.obj < 64 →
    s.canMode n.val ≠ cmLoop →
    (∃ t, exec (.canTxDone n .ok age) s = .next t ∧ t.canc n.val = { s.canc n.val with tx := none } ∧
      t.g ((CAN_OBJ_STAT.LAST n.val).at x.obj) = laOK ∧ t.g (CAN_STAT.TEC n.val) = s.g (CAN_STAT.TEC n.val) - 1 ∧
      t.flag ((CAN_OBJ_STAT.CXL_LATE n.val).at x.obj) = (x.cancelled || s.flag ((CAN_OBJ_STAT.CXL_LATE n.val).at x.obj)) ∧
      t.flag ((CAN_OBJ_STAT.PEND n.val).at x.obj) = s.flag ((CAN_OBJ_STAT.PEND n.val).at x.obj) ∧
      t.rd64 (CAN_TX_FRAMES_LO.off n.val) = (s.rd64 (CAN_TX_FRAMES_LO.off n.val) + 1) % 2 ^ 64 ∧
      (t.rd (bankKey (CAN_OBJ_STAMP_LO.off n.val) x.obj)).toNat +
        2 ^ 32 * (t.rd (bankKey (CAN_OBJ_STAMP_HI.off n.val) x.obj)).toNat = s.sofStamp age.toNat) ∧
    ((s.rd (CAN_TX_FAIL.off n.val)).toNat + 1 < 0xFFFFFFFF → (s.rd (CAN_CANCEL_CNT.off n.val)).toNat + 1 < 0xFFFFFFFF →
      ∀ e, e ≠ .ok → ∃ t, exec (.canTxDone n e age) s = .next t ∧ t.canc n.val = { s.canc n.val with tx := none } ∧
      t.g ((CAN_OBJ_STAT.LAST n.val).at x.obj) = (if x.cancelled then laCANCELLED else if e = .arb then laARB else laERROR) ∧
      t.flag ((CAN_OBJ_STAT.PEND n.val).at x.obj) =
        (if x.cancelled || x.single then s.flag ((CAN_OBJ_STAT.PEND n.val).at x.obj) else true) ∧
      (t.rd (CAN_CANCEL_CNT.off n.val)).toNat = (s.rd (CAN_CANCEL_CNT.off n.val)).toNat + (if x.cancelled then 1 else 0) ∧
      (t.rd (CAN_TX_FAIL.off n.val)).toNat = (s.rd (CAN_TX_FAIL.off n.val)).toNat + 1 ∧ t.evPend (evCan n.val) = true) ∧
    (s.canState n.val = csActive ∨ s.canState n.val = csPassive → (s.rd (CAN_BUSOFF_CNT.off n.val)).toNat + 1 < 0xFFFFFFFF →
      ∃ t, exec (.canTxDone n (.error true) age) s = .next t ∧
      t.g (CAN_STAT.TEC n.val) = min 255 (s.g (CAN_STAT.TEC n.val) + 8) ∧
      t.canState n.val = (if 255 < s.g (CAN_STAT.TEC n.val) + 8 then csBusOff
        else if 128 ≤ s.g (CAN_STAT.TEC n.val) + 8 ∨ 128 ≤ s.g (CAN_STAT.REC n.val) then csPassive else csActive) ∧
      (255 < s.g (CAN_STAT.TEC n.val) + 8 → clDegraded ≤ t.evKept (evCan n.val) ∧
        (t.rd (CAN_BUSOFF_CNT.off n.val)).toNat = (s.rd (CAN_BUSOFF_CNT.off n.val)).toNat + 1))) ∧
  (∀ (n : Fin 8) (w : Fin 32) (idle : Bool) (o : Fin 64) (s : State), s.resetReq = none → s.domOn 11 = true → s.flag (CAN_CFG.TT n.val) = true →
    let u := s.ttDue n.val
    let cell := u.rd (bankKey (CAN_CELL.off n.val) (u.canRow n.val * 32 + w.val))
    let kind := (CAN_CELL.KIND n.val).get cell
    let c := { u.canc n.val with arbOpen := decide (kind = 2), tried := [], opened := some ((u.canCycle n.val).2, w.val) }
    u.winOpens n.val w.val = true → u.objTx n.val o.val = true → (CAN_CELL.OBJ n.val).get cell = o.val →
    u.sigEntries true 1 n.val o.val = [] → (u.rd (CAN_TX_FAIL.off n.val)).toNat + 1 < 0xFFFFFFFF →
    ∃ t, exec (.canWindowOpen n w idle) s = .next t ∧ t.g (CAN_TT_STAT.WIN n.val) = w.val ∧
      t.g (CAN_TT_STAT.ROW n.val) = u.canRow n.val % 64 ∧
      (kind = 0 ∨ kind = 2 → t.canc n.val = c ∧ u.sameRegs t [CAN_TT_STAT.off n.val]) ∧
      (kind = 1 ∨ kind = 3 → u.canMode n.val ≠ cmNormal ∨ u.canSends n.val = false →
        t.canc n.val = c ∧ (t.rd (CAN_TX_FAIL.off n.val)).toNat = (u.rd (CAN_TX_FAIL.off n.val)).toNat + 1 ∧ t.evPend (evCan n.val) = true ∧
        t.g ((CAN_OBJ_STAT.LAST n.val).at o.val) = if u.canMode n.val ≠ cmNormal then laINIT else laBUSOFF) ∧
      (kind = 1 ∨ kind = 3 → u.canMode n.val = cmNormal → u.canSends n.val = true →
        (if idle = true ∧ (u.canc n.val).tx = none then
          (t.canc n.val).tx.map (fun x => (x.obj, x.single, x.cancelled)) = some (o.val, true, false) ∧ (t.canc n.val).waitSingle = none
        else t.canc n.val = { c with waitSingle := some (o.val, decide (kind = 3), u.fns, u.g (CAN_WIN.TXEN n.val w.val)) }) ∧
        (kind = 3 → (t.objLive n.val o.val).take 7 =
          bytesLE 1 (u.canRow n.val) ++ bytesLE 6 (wrapInt 48 (u.fns - (u.canCycle n.val).1)))) ) ∧
  (∀ (n : Fin 8) (b k p : Nat) (c : Int) (s : State), s.resetReq = none → (s.canc n.val).stagedTT = some (b, k, p, c) →
    let rows : Int := (2 ^ (s.canc n.val).mc : Nat)
    ∃ t, exec (.canTtApply n) s = .next t ∧ t.regs = s.regs ∧
      t.canc n.val = if c / rows < (s.canCycle n.val).2 / rows then
        { s.canc n.val with bcLen := b, mc := k, phase := p, stagedTT := none, opened := none } else s.canc n.val) ∧
  (∀ (n : Fin 8) (s : State), s.resetReq = none → s.canState n.val = csRecovering →
    ∃ t, exec (.canRecoveryDone n) s = .next t ∧ t.canState n.val = csActive ∧ t.g (CAN_STAT.TEC n.val) = 0 ∧
      t.g (CAN_STAT.REC n.val) = 0 ∧ t.can = s.can ∧ s.sameRegs t [CAN_STAT.off n.val]) ∧
  (∀ (m : Master) (n : Fin 8) (s : State), s.serves m (CAN_CFG.off n.val) 2 → s.canMode n.val ≠ cmInit →
    ∃ t, exec (.canModeInitWrite m n) s = .next t ∧ t.toldOK m ∧ t.canMode n.val = cmInit ∧
      t.canState n.val = (if s.canState n.val = csBusOff ∨ s.canState n.val = csRecovering then s.canState n.val else csInit) ∧
      t.flag (CAN_CFG.TT n.val) = s.flag (CAN_CFG.TT n.val) ∧ t.flag (CAN_CFG.FD n.val) = s.flag (CAN_CFG.FD n.val) ∧
      t.canc n.val = { s.canc n.val with tx := none, waitSingle := none, arbOpen := false, tried := [] } ∧
      (∀ x, (s.canc n.val).tx = some x → x.obj < 64 → if x.single then t.g ((CAN_OBJ_STAT.LAST n.val).at x.obj) = laINIT
        else t.flag ((CAN_OBJ_STAT.PEND n.val).at x.obj) = !x.cancelled) ∧
      (∀ w, (s.canc n.val).waitSingle = some w → w.1 < 64 → t.g ((CAN_OBJ_STAT.LAST n.val).at w.1) = laINIT) ∧
      ((s.canc n.val).tx = none → (s.canc n.val).waitSingle = none → s.sameRegs t [CAN_CFG.off n.val, CAN_STAT.off n.val]))
/-! ### USB and the feeds (ch. 13, 14) -/

/-- R252, R365 to R369, R372 to R382. The fabric function takes USB_WRITE, USB_READ and USB_READ_ONCE, acknowledges, and answers a bad command with
OPCODE; EP1 sends the oldest response, removed once acknowledged, EP3 the oldest notice; a stream of one range carries its points each microframe.
A split through a TT's non-periodic buffer is answered ACK, then NYET while it runs, then with its result. Control requests, bus reset,
disconnect, suspend, resume and remote wake set the upstream state; the requests of a port's owner, overcurrent, connects, USB_CFG and HID reports
act on the downstream ports.
Model's readings and choices: log entries 58, 94, 95, 108, 175, 176 and 190. -/
def Obligations.UsbFunctionAndHub : Prop :=
  (∀ (tag : BitVec 16) (addr : BitVec 64) (val : Word) (r : RegRow) (s : State), s.ep2Ready = true → s.serves usbM FEED_CTRL.off 1 →
    regRow FEED_CTRL.off = some r → addr.toNat = 2 ^ 40 + FEED_CTRL.off → s.usb.pieces = [] → s.usb.unres = [] →
    s.postCheck addr.toNat 4 = stOK →
    ∃ t, exec (.usbWrite tag addr (bytesLE 4 val.toNat)) s = .next t ∧
      t.usb = { s.usb with write := some (tag.toNat, s.g USB_FN_SEQ.NEXT, 1) } ∧
      (s.writeClass usbM FEED_CTRL.off ≥ 2 →
        ∀ f ∈ r.fields, f.acc = .rw → ∀ i, f.lo ≤ i → i ≤ f.hi → (t.rd FEED_CTRL.off).getLsbD i = val.getLsbD i) ∧
      t.g USB_FN_SEQ.NEXT = (s.g USB_FN_SEQ.NEXT + 1) % 65536 ∧
      t.rd64 USB_RX_BYTES_LO.off = (s.rd64 USB_RX_BYTES_LO.off + 20) % 2 ^ 64) ∧
  (∀ (tag first n : Nat) (s : State), s.resetReq = none → s.usbRuns = true → s.usb.pieces = [] → s.usb.write = some (tag, first, n) →
    ∃ t, exec .usbWriteAck s = .next t ∧ t.regs = s.regs ∧
      t.usb = { s.usb with write := none, resps := s.usb.resps ++ [⟨stOK, tag, first, n, [], 0, false, false⟩] }) ∧
  (∀ (tag : BitVec 16) (addr : BitVec 64) (i : Nat) (s : State), s.resetReq = none → s.ep2Ready = true → s.spaceGate usbM 0 (16 * i) = 0 →
    s.isHere addr.toNat = true → addr.toNat % 2 ^ 48 = 16 * i → s.pointPlain i → s.tileGood (i / 16) → (s.rd USB_CMD_ERR.off).toNat + 1 < 0xFFFFFFFF →
    (∃ t, exec (.usbRead tag addr 16) s = .next t ∧ t.pts.recs = s.pts.recs ∧ s.sameRegs t [USB_RX_BYTES_LO.off, USB_RX_BYTES_HI.off] ∧
      t.usb = { s.usb with resps := s.usb.resps ++ [⟨stOK, tag.toNat, 0, 0, (s.pt i).bytes, addr.toNat, false, false⟩] }) ∧
    (∃ t, exec (.usbReadOnce tag addr 16) s = .next t ∧ t.pts.recs = s.pts.recs ∧ s.sameRegs t [USB_RX_BYTES_LO.off, USB_RX_BYTES_HI.off] ∧
      t.usb.resps.map (fun r => (r.status, r.tag, r.data)) =
        s.usb.resps.map (fun r => (r.status, r.tag, r.data)) ++ [(stOK, tag.toNat, (s.pt i).bytes)]) ∧
    (∃ t, exec (.usbBadCommand tag) s = .next t ∧ (t.rd USB_CMD_ERR.off).toNat = (s.rd USB_CMD_ERR.off).toNat + 1 ∧
      t.usb = { s.usb with resps := s.usb.resps ++ [⟨stOPCODE, tag.toNat, 0, 0, [], 0, false, false⟩] } ∧ s.sameRegs t [USB_CMD_ERR.off])) ∧
  (∀ (r : UResp) (l : List UResp) (b : List Byte) (lb : List (List Byte)) (s : State), s.resetReq = none → s.usbRuns = true →
    s.ust4 = ubConfigured →
    (s.usb.resps = r :: l → s.usb.halted = false → ∀ ack, ∃ t, exec (.usbResponseIn ack) s = .next t ∧
      t.usb = (if ack then { s.usb with resps := l, halted := r.busErr } else s.usb) ∧
      t.resp = some ⟨9, r.status, bytesLE 1 r.status ++ [0] ++ bytesLE 2 r.tag ++ bytesLE 2 r.useq ++ bytesLE 1 r.pieces ++ [0] ++
        bytesLE 2 r.data.length ++ bytesLE 6 0 ++ r.data⟩ ∧
      t.rd64 USB_TX_BYTES_LO.off = (s.rd64 USB_TX_BYTES_LO.off + 16 + r.data.length) % 2 ^ 64) ∧
    (s.usb.notes = b :: lb → ∃ t, exec .usbNoticeIn s = .next t ∧ t.usb = { s.usb with notes := lb } ∧ t.resp = some ⟨9, stOK, b⟩ ∧
      t.rd64 USB_TX_BYTES_LO.off = (s.rd64 USB_TX_BYTES_LO.off + 16) % 2 ^ 64)) ∧
  (∀ (f c : Nat) (s : State), s.resetReq = none → s.usbRuns = true → s.ust4 = ubConfigured → s.g USB_STAT.SPEED = 2 →
    s.flag USB_ISO_CFG.EN = true → s.flag (USB_ISO_RANGE.VALID 0) = true → s.g (USB_ISO_RANGE.FIRST 0) = f →
    s.g (USB_ISO_RANGE.COUNTM1 0) = c → (∀ k, k < 16 → k ≠ 0 → s.flag (USB_ISO_RANGE.VALID k) = false) →
    16 + 16 * (c + 1) ≤ 1024 → (∀ j, j ≤ c → s.pointPlain (f + j) ∧ s.tileGood ((f + j) / 16)) →
    (∀ n, n < 4 → (s.ttOf n).per = []) → (s.rd USB_ISO_SKIP.off).toNat + 1 < 0xFFFFFFFF →
    (∃ t, exec (.usbIsoMicroframe true []) s = .next t ∧ t.usb = { s.usb with mframe := (s.usb.mframe + 1) % 2 ^ 32, ttAns := [] } ∧
      t.resp = some ⟨9, stOK, bytesLE 4 s.usb.mframe ++ bytesLE 6 s.fns48 ++ bytesLE 1 (c + 1) ++ bytesLE 5 0 ++
        (List.range (c + 1)).flatMap (fun j => (s.pt (f + j)).bytes)⟩ ∧ t.pts.recs = s.pts.recs ∧
      t.rd64 USB_TX_BYTES_LO.off = (s.rd64 USB_TX_BYTES_LO.off + 16 + 16 * (c + 1)) % 2 ^ 64) ∧
    (∃ t, exec (.usbIsoMicroframe false []) s = .next t ∧ t.usb = { s.usb with mframe := (s.usb.mframe + 1) % 2 ^ 32, ttAns := [] } ∧
      t.resp = s.resp ∧ (t.rd USB_ISO_SKIP.off).toNat = (s.rd USB_ISO_SKIP.off).toNat + 1 ∧ s.sameRegs t [USB_ISO_SKIP.off])) ∧
  (∀ (p : Fin 4) (e : TtEp) (d : List Byte) (r : TtRes) (s : State), s.resetReq = none → s.usbRuns = true → s.g USB_STAT.SPEED = 2 →
    s.ust4 ≠ ubSuspended → s.ust4 ≠ ubDetached → s.flag USB_ISO_CFG.EN = false → (s.g USB_CFG.LOCAL).testBit p.val = false →
    s.usb.tt.length = 4 → (∀ n, n < 4 → (s.ttOf n).per = []) → (s.ttOf p.val).np = [] → e.periodic = false → d.length ≤ 64 →
    (s.rd USB_TT_ERR.off).toNat + 1 < 0xFFFFFFFF →
    (∃ t, exec (.usbIsoMicroframe true [.startSplit p e d, .completeSplit p e]) s = .next t ∧ t.regs = s.regs ∧
      t.ttOf p.val = ⟨[⟨e, d, none, 0⟩], []⟩ ∧ (∀ n, n ≠ p.val → t.ttOf n = s.ttOf n) ∧ t.usb.ttAns = [.ack, .nyet]) ∧
    (∃ t, exec (.usbIsoMicroframe true [.startSplit p e d, .ran p e r, .completeSplit p e]) s = .next t ∧ (∀ n, t.ttOf n = s.ttOf n) ∧
      t.usb.ttAns = [.ack, (match r with | .done b => (if e.isIn then .data b else .ack) | .nak => .nak | .stall => .stall | .failed => .stall)] ∧
      (t.rd USB_TT_ERR.off).toNat = (s.rd USB_TT_ERR.off).toNat + (if r = .failed then 1 else 0) ∧ s.sameRegs t [USB_TT_ERR.off])) ∧
  (∀ (a : Fin 128) (alt : Fin 2) (n : Fin 4) (b : Bool) (s : State), s.resetReq = none → s.usbRuns = true →
    (s.ust4 = ubDefault → ∃ t, exec (.usbControlRequest (.setAddress a)) s = .next t ∧ t.g USB_STAT.ADDR = a.val ∧
      t.ust4 = (if a.val = 0 then ubDefault else ubAddress) ∧ s.sameRegs t [USB_STAT.off] ∧ t.usb = { s.usb with stalled := false }) ∧
    (s.ust4 = ubAddress → ∃ t, exec (.usbControlRequest (.setConfiguration 1)) s = .next t ∧ t.g USB_STAT.CONFIG = 1 ∧
      t.ust4 = ubConfigured ∧ s.sameRegs t [USB_STAT.off] ∧ t.usb = { s.usb with stalled := false }) ∧
    (s.ust4 = ubConfigured → (∀ r ∈ s.usb.resps, r.side = false) → ∃ t, exec (.usbControlRequest (.setConfiguration 0)) s = .next t ∧
      t.g USB_STAT.CONFIG = 0 ∧ t.ust4 = ubAddress ∧ s.sameRegs t [USB_STAT.off] ∧
      t.usb = { s.usb with
        resps := [], write := none, read := (if s.usb.read.any (·.side) then s.usb.read else none),
        readLost := s.usb.read.any (·.side), halted := false, stalled := false }) ∧
    (∃ t, exec (.usbControlRequest (.remoteWakeup b)) s = .next t ∧ t.flag USB_STAT.RWE = b ∧ s.sameRegs t (USB_STAT.off :: powerRegs) ∧
      t.usb = { s.usb with stalled := false }) ∧
    (∃ t, exec (.usbControlRequest (.endpointHalt b)) s = .next t ∧ t.usb = { s.usb with halted := b, stalled := false } ∧ t.regs = s.regs) ∧
    (∃ t, exec (.usbControlRequest (.hubInterface alt)) s = .next t ∧ t.usb = { s.usb with alt := alt.val, stalled := false } ∧
      t.regs = s.regs) ∧
    (∃ t, exec (.usbControlRequest .other) s = .next t ∧ t.usb = { s.usb with stalled := true } ∧ t.regs = s.regs) ∧
    (s.usb.tt.length = 4 → ∃ t, exec (.usbControlRequest (.resetTt n)) s = .next t ∧ t.ttOf n.val = Tt.empty ∧
      (∀ k, k ≠ n.val → t.ttOf k = s.ttOf k) ∧ t.regs = s.regs) ∧
    ((∃ t, exec (s.ownPort n .power b) s = .next t ∧ t.flag (USB_PORT_STAT.POWER n.val) = b ∧ s.sameRegs t (USB_PORT_STAT.off n.val :: powerRegs) ∧
        (if b then t.flag (USB_PORT_STAT.OC n.val) = false else t.flag (USB_PORT_STAT.EN n.val) = false ∧
          t.flag (USB_PORT_STAT.CONN n.val) = false)) ∧
      (s.flag (USB_PORT_STAT.EN n.val) = true → ∃ t, exec (s.ownPort n .suspend b) s = .next t ∧ t.flag (USB_PORT_STAT.SUSP n.val) = b ∧
        s.sameRegs t [USB_PORT_STAT.off n.val]) ∧
      (s.flag (USB_PORT_STAT.CONN n.val) = true → ∃ t, exec (s.ownPort n .reset true) s = .next t ∧ t.flag (USB_PORT_STAT.EN n.val) = true ∧
        t.flag (USB_PORT_STAT.SUSP n.val) = false ∧ s.sameRegs t [USB_PORT_STAT.off n.val]) ∧
      (∃ t, exec (s.ownPort n .enable false) s = .next t ∧ t.flag (USB_PORT_STAT.EN n.val) = false ∧ s.sameRegs t [USB_PORT_STAT.off n.val]) ∧
      (∃ t, exec (s.ownPort n .overCurrentChange false) s = .next t ∧ t.usb.ocChg.contains n.val = false ∧ t.regs = s.regs)) ∧
    (∀ f, ∃ t, exec (s.otherPort n f b) s = .next t ∧
      t.regs = s.regs ∧ t.usb = { s.usb with stalled := false }) ∧
    (s.flag USB_CFG.EN = true → (∀ r ∈ s.usb.resps, r.side = false) → ∃ t, exec (.usbBusReset b) s = .next t ∧ t.ust4 = ubDefault ∧
      t.g USB_STAT.SPEED = (if b then 2 else 1) ∧ t.g USB_STAT.ADDR = 0 ∧ t.g USB_STAT.CONFIG = 0 ∧ t.flag USB_STAT.RWE = false ∧
      t.usb = { s.usb with
        resps := [], write := none, read := (if s.usb.read.any (·.side) then s.usb.read else none),
        readLost := s.usb.read.any (·.side), halted := false, mframe := 0, suspAt := none, driving := none, alt := 0,
        tt := List.replicate 4 Tt.empty, ttAns := [] } ∧ t.flag USB_WAKE.REQ = false ∧
      s.sameRegs t ([USB_STAT.off, USB_WAKE.off] ++ powerRegs)) ∧
    ((∀ r ∈ s.usb.resps, r.side = false) → ∃ t, exec .usbDisconnect s = .next t ∧ t.ust4 = ubDetached ∧ t.g USB_STAT.ADDR = 0 ∧
      t.g USB_STAT.CONFIG = 0 ∧ t.flag USB_WAKE.REQ = false ∧
      t.usb = { s.usb with
        resps := [], write := none, read := (if s.usb.read.any (·.side) then s.usb.read else none),
        readLost := s.usb.read.any (·.side), halted := false, mframe := 0, suspAt := none, driving := none, alt := 0,
        tt := List.replicate 4 Tt.empty, ttAns := [] } ∧
      s.sameRegs t ([USB_STAT.off, USB_WAKE.off] ++ powerRegs))) ∧
  (∀ (r : UResp) (high : Bool) (s : State), s.resetReq = none → s.usbRuns = true → s.flag USB_CFG.EN = true → s.usb.resps = [r] →
    r.side = true → s.brg.str.length < 32 →
    ∃ t, exec (.usbBusReset high) s = .next t ∧ t.usb.resps = [] ∧
      t.brg.str = s.brg.str ++ [⟨s.brg.strSerial, r.status, 0xFF, r.addr, s.us32, r.data.take 16⟩]) ∧
  (∀ (at_ : Int) (s : State), s.resetReq = none → s.usbRuns = true →
    (s.ust4 ≠ ubDetached → s.ust4 ≠ ubSuspended → ∃ t, exec .usbSuspend s = .next t ∧ t.ust4 = ubSuspended ∧
      t.usb = { s.usb with suspAt := some s.absNs } ∧ s.sameRegs t (USB_STAT.off :: powerRegs)) ∧
    (s.ust4 = ubSuspended →
      let awake := if s.g USB_STAT.CONFIG ≠ 0 then ubConfigured else if s.g USB_STAT.ADDR ≠ 0 then ubAddress else ubDefault
      (∃ t, exec .usbResume s = .next t ∧ t.ust4 = awake ∧ t.usb = { s.usb with suspAt := none } ∧
        t.flag USB_WAKE.REQ = (s.usb.driving.isSome && s.flag USB_WAKE.REQ) ∧
        s.sameRegs t ([USB_STAT.off, USB_WAKE.off] ++ powerRegs)) ∧
      (s.flag USB_WAKE.REQ = true → s.flag USB_STAT.RWE = true → s.usb.driving = none → s.usb.suspAt = some at_ → at_ + 5000000 ≤ s.absNs →
        ∃ t, exec .usbRemoteWake s = .next t ∧ t.usb = { s.usb with driving := some s.absNs } ∧ t.regs = s.regs) ∧
      (s.usb.driving = some at_ → at_ + 2000000 ≤ s.absNs → ∃ t, exec .usbWakeDriveEnd s = .next t ∧ t.ust4 = awake ∧ t.flag USB_WAKE.REQ = false ∧
        t.usb = { s.usb with driving := none, suspAt := none } ∧ s.sameRegs t ([USB_STAT.off, USB_WAKE.off] ++ powerRegs)))) ∧
  (∀ (n : Fin 4) (speed : Fin 3) (hid : Bool) (s : State), s.resetReq = none → s.usbRuns = true → (s.rd USB_OC_CNT.off).toNat + 1 < 0xFFFFFFFF →
    (∃ t, exec (.usbOvercurrent n) s = .next t ∧ t.flag (USB_PORT_STAT.POWER n.val) = false ∧ t.flag (USB_PORT_STAT.OC n.val) = true ∧
      t.flag (USB_PORT_STAT.CONN n.val) = false ∧ t.flag (USB_PORT_STAT.EN n.val) = false ∧ t.evPend (evUsb 3) = true ∧
      (t.rd USB_OC_CNT.off).toNat = (s.rd USB_OC_CNT.off).toNat + 1 ∧ t.usb.ocChg.contains n.val = true ∧
      s.keepsRegs t ([USB_PORT_STAT.off n.val, USB_OC_CNT.off] ++ powerRegs)) ∧
    (s.flag (USB_PORT_STAT.POWER n.val) = true → ∃ t, exec (.usbPortConnect n true speed hid) s = .next t ∧
      t.flag (USB_PORT_STAT.CONN n.val) = true ∧ t.g (USB_PORT_STAT.SPEED n.val) = speed.val ∧
      ((s.g USB_CFG.LOCAL).testBit n.val = true → t.flag (USB_PORT_STAT.EN n.val) = true ∧ t.g (USB_PORT_STAT.CLASS n.val) = b2n hid) ∧
      s.sameRegs t (USB_PORT_STAT.off n.val :: powerRegs)) ∧
    (∃ t, exec (.usbPortConnect n false speed hid) s = .next t ∧ t.flag (USB_PORT_STAT.CONN n.val) = false ∧
      t.flag (USB_PORT_STAT.EN n.val) = false ∧ t.g (USB_PORT_STAT.CLASS n.val) = 0 ∧ s.sameRegs t (USB_PORT_STAT.off n.val :: powerRegs))) ∧
  (∀ (m : Master) (val : Word) (s : State), s.serves m USB_CFG.off 2 → s.usb.tt.length = 4 → (∀ r ∈ s.usb.resps, r.side = false) →
    ∃ t, exec (.usbLocalWrite m val) s = .next t ∧ t.toldOK m ∧ t.g USB_CFG.LOCAL = USB_CFG.LOCAL.get val ∧
      t.g USB_CFG.EN = USB_CFG.EN.get val ∧
      (∀ n, n < 4 → if (s.g USB_CFG.LOCAL).testBit n = (USB_CFG.LOCAL.get val).testBit n then
          t.rd (USB_PORT_STAT.off n) = s.rd (USB_PORT_STAT.off n)
        else t.flag (USB_PORT_STAT.OWNER n) = (USB_CFG.LOCAL.get val).testBit n ∧ t.flag (USB_PORT_STAT.EN n) = false ∧
          t.flag (USB_PORT_STAT.CONN n) = false ∧ t.g (USB_PORT_STAT.CLASS n) = 0 ∧
          t.flag (USB_PORT_STAT.POWER n) = s.flag (USB_PORT_STAT.POWER n)) ∧
      (USB_CFG.EN.get val = 1 → t.usb = { s.usb with tt := t.usb.tt } ∧
        s.sameRegs t ((USB_CFG.off :: (List.range 4).map (fun n => USB_PORT_STAT.off n)) ++ powerRegs)) ∧
      (USB_CFG.EN.get val = 0 → t.ust4 = ubDetached ∧ (s.ust4 ≠ ubDetached → t.g USB_STAT.ADDR = 0 ∧ t.g USB_STAT.CONFIG = 0))) ∧
  (∀ (n : Fin 4) (id : Fin 256) (data : List Byte) (e : Nat) (s : State), s.resetReq = none → s.usbRuns = true →
    (s.g USB_CFG.LOCAL).testBit n.val = true → s.g (USB_PORT_STAT.CLASS n.val) = 1 → s.sigEntries false 4 (n.val + 1) id.val = [e] →
    s.flag (BRG_SIG_SRC.SIGNED.at e) = false →
    let i := s.g (BRG_SIG_DST.POINT.at e)
    let v := fieldGet (s.flag (BRG_SIG_SRC.MOTOROLA.at e)) (s.g (BRG_SIG_SRC.BITPOS.at e)) (s.g (BRG_SIG_DST.BITLEN.at e)) data
    (s.pt i).typ ≠ tyUndef → encOk (s.pt i).typ (v % 2 ^ 64) = true →
    ∃ t, exec (.hidReportReceive n id data) s = .next t ∧ t.pt i = ⟨BitVec.ofNat 64 v, s.fns48, qGood, (s.pt i).typ⟩ ∧
      (s.tileGood (i / 16) → (∀ j, j ≠ i → t.pt j = s.pt j) ∧ t.regs = s.regs))

/-- R385 to R397, R400. FEED_ON begins RAMP or is refused; FEED_OFF, FEED_RESTART, FEED_CLEAR, FEED_KILL_CMD and FEED_CLEAR_KILL act from the states that they
may act from. FEED_SAMPLE stores the measurements, moves the poles and regulates or trips; the fast comparator, the overload timer, the ramp timer,
power-good, the end of RETRY, the rail, 10 s in ON, and damage each do their part; a fast trip at the instant of FEED_OFF is recorded;
FEED_MEAS_UPDATE writes a measurement's point.
Model's readings and choices: log entries 96, 97, 98, 99, 191 and 192. -/
def Obligations.FeedChannels : Prop :=
  (∀ (m : Master) (n : Fin 16) (s : State), s.serves m (FEED_CHCMD.off n.val) 2 → (s.rd FEED_CFGERR_CNT.off).toNat + 1 < 0xFFFFFFFF →
    (s.g (FEED_SHUNT.SHUNT n.val) ≠ 0 → s.g (FEED_LIM.RATED n.val) ≠ 0 → s.fst n.val = fsOff → s.railOk n.val = true →
      ∃ t, exec (.feedOn m n) s = .next t ∧ t.toldOK m ∧ s.feedRamps t n.val) ∧
    (s.g (FEED_SHUNT.SHUNT n.val) = 0 ∨ s.g (FEED_LIM.RATED n.val) = 0 → ∃ t, exec (.feedOn m n) s = .next t ∧ t.toldCfg m ∧
      t.feeds = s.feeds ∧ (t.rd FEED_CFGERR_CNT.off).toNat = (s.rd FEED_CFGERR_CNT.off).toNat + 1 ∧ s.keepsRegs t [FEED_CFGERR_CNT.off]) ∧
    (s.fst n.val ≠ fsDamaged → ∃ t, exec (.feedOff m n) s = .next t ∧ t.toldOK m ∧ t.fst n.val = fsOff ∧
      t.flag (FEED_CHSTAT.PG n.val) = false ∧ (t.feed n.val).gate = .off ∧
      (t.feed n.val).offCmd = (if s.feedLive n.val then some s.absNs else none) ∧
      (s.sigEntries false 2 n.val 4 = [] → s.sameRegs t [FEED_CHSTAT.off n.val] ∧ t.pts = s.pts)) ∧
    (s.fst n.val = fsRetry → (s.feed n.val).rail = false → s.damaged n.val = false → s.feedCool n.val = true → s.railOk n.val = true →
      ∃ t, exec (.feedRestart m n) s = .next t ∧ t.toldOK m ∧ s.feedRamps t n.val) ∧
    (s.fst n.val = fsDamaged → s.since (s.feed n.val).calmAt 5000000 = true →
      ∃ t, exec (.feedClear m n) s = .next t ∧ t.toldOK m ∧ t.fst n.val = fsOff ∧ (t.feed n.val).gate = .off)) ∧
  (∀ (m : Master) (s : State), s.serves m FEED_CMD.off 2 →
    (∃ t, exec (.feedKillCmd m) s = .next t ∧ t.toldOK m ∧ t.flag FEED_STAT.KILL = true ∧ t.feeds = s.feeds ∧ s.sameRegs t [FEED_STAT.off]) ∧
    (∃ t, exec (.feedClearKill m) s = .next t ∧ t.toldOK m ∧ t.feeds = s.feeds ∧ s.sameRegs t [FEED_STAT.off] ∧
      ((∀ n, n < 16 → s.fst n = fsDamaged → s.flag (FEED_CFG.KILL_EN n) = false) → t.flag FEED_STAT.KILL = false) ∧
      (∀ n, n < 16 → s.fst n = fsDamaged → s.flag (FEED_CFG.KILL_EN n) = true → t.flag FEED_STAT.KILL = s.flag FEED_STAT.KILL))) ∧
  (∀ (n : Fin 16) (sense tdie : Int) (vin vout vgs : Nat) (ntc : Option Nat) (s : State), s.resetReq = none → s.feedRuns = true →
    s.g (FEED_SHUNT.SHUNT n.val) ≠ 0 →
    (∀ k, k < 3 → (FEED_POLE.UNIT 0 0).get (s.rd (FEED_POLE.off n.val k)) = 0 ∨ (FEED_POLE.TAU 0 0).get (s.rd (FEED_POLE.off n.val k)) ≠ 0) →
    s.sigEntries false 2 n.val 4 = [] → s.feedCounts → -32768 ≤ tdie → vin < 655360 → vout < 655360 →
    let i : Rat := ((sense * 100 : Int) : Rat) / (s.g (FEED_SHUNT.SHUNT n.val) : Rat)
    let p : Rat := (((vin : Int) - (vout : Int) : Int) : Rat) * i / 1000000
    let rise := (List.range 3).map (fun k => poleMoved (s.rd (FEED_POLE.off n.val k)) p ((s.feed n.val).rise.getD k 0))
    let temp := s.sampledTemp n.val rise tdie ntc
    let broken := s.flag (FEED_CFG.TMODE n.val) = true ∧ ntc = none
    ∃ t, exec (.feedSample n sense vin vout vgs tdie ntc) s = .next t ∧ t.g (FEED_V.VIN n.val) = vin / 10 ∧
      t.g (FEED_V.VOUT n.val) = vout / 10 ∧ t.g (FEED_I.I n.val) = wrapInt 32 i.floor ∧ (t.feed n.val).rise = rise ∧
      (t.feed n.val).sense = sense ∧ (t.feed n.val).vin = vin ∧ (t.feed n.val).vout = vout ∧ (t.feed n.val).vgs = vgs ∧
      t.tfet n.val = temp ∧ (-32768 ≤ temp → temp < 32768 → t.g (FEED_TEMP.TFET n.val) = wrapInt 16 temp) ∧
      (s.feedLive n.val = true → broken → s.feedTripped t n.val fcNtc) ∧
      (s.feedLive n.val = true → ¬ broken → s.tmax n.val ≤ temp → s.feedTripped t n.val fcThermal) ∧
      (s.feedLive n.val = true → ¬ broken → temp < s.tmax n.val → 100 * s.g (FEED_RAIL.UV n.val) ≤ vin →
        vin ≤ 100 * s.g (FEED_RAIL.OV n.val) → t.fst n.val = s.fst n.val ∧
        t.flag (FEED_CHSTAT.LIM n.val) = decide (2 * s.ratedUv n.val ≤ sense)) ∧
      (s.feedLive n.val = true → ¬ broken → temp < s.tmax n.val →
        vin < 100 * s.g (FEED_RAIL.UV n.val) ∨ 100 * s.g (FEED_RAIL.OV n.val) < vin → t.fst n.val = fsRetry ∧
        t.g (FEED_CHSTAT.CAUSE n.val) = (if vin < 100 * s.g (FEED_RAIL.UV n.val) then fcUv else fcOv) ∧ (t.feed n.val).rail = true ∧
        t.g (FEED_CHSTAT.RUNTRIP n.val) = s.g (FEED_CHSTAT.RUNTRIP n.val)) ∧
      (s.feedLive n.val = false → t.fst n.val = s.fst n.val)) ∧
  (∀ (n : Fin 16) (s : State), s.resetReq = none → s.feedRuns = true → s.feedCounts →
    (s.feedLive n.val = true → ∃ t, exec (.feedFastTrip n) s = .next t ∧ s.feedTripped t n.val fcShort) ∧
    (s.fst n.val = fsOff → (s.feed n.val).offCmd = some s.absNs → ∃ t, exec (.feedFastTrip n) s = .next t ∧ t.fst n.val = fsOff ∧
      t.g (FEED_CHSTAT.CAUSE n.val) = fcShort ∧ t.evPend (evFeed n.val) = true ∧
      (t.rd FEED_TRIP_CNT.off).toNat = (s.rd FEED_TRIP_CNT.off).toNat + 1) ∧
    (∃ t, exec (.feedOverloadStep n) s = .next t ∧
      (t.feed n.val).ovl = (if s.ratedUv n.val < (s.feed n.val).sense then (s.feed n.val).ovl + 10 else (s.feed n.val).ovl - 1) ∧
      (s.feedLive n.val = true → 10 * clampNat 10 500 (s.g (FEED_LIM.PEAK n.val)) ≤ (t.feed n.val).ovl → s.feedTripped t n.val fcOverload) ∧
      ((t.feed n.val).ovl < 10 * clampNat 10 500 (s.g (FEED_LIM.PEAK n.val)) →
        t.fst n.val = s.fst n.val ∧ s.sameRegs t [FEED_TEMP.off n.val])) ∧
    (s.fst n.val = fsRamp → 1000000 * (max 1 (s.g (FEED_RAMP.RAMP_TMO n.val)) : Nat) ≤ s.absNs - (s.feed n.val).rampAt →
      ∃ t, exec (.feedRampTimeout n) s = .next t ∧
        s.feedTripped t n.val (if s.tmax n.val ≤ s.tfet n.val then fcThermal else fcRampTmo))) ∧
  (∀ (n : Fin 16) (s : State), s.resetReq = none → s.feedRuns = true → (s.rd FEED_PGLOSS_CNT.off).toNat + 1 < 0xFFFFFFFF →
    (s.fst n.val = fsRamp → 100000 ≤ s.absNs - (s.feed n.val).pgAt → (s.feed n.val).pgOk = true → s.flag (FEED_CHSTAT.PG n.val) = false →
      ∃ t, exec (.feedPgChange n) s = .next t ∧ t.fst n.val = fsOn ∧ t.flag (FEED_CHSTAT.PG n.val) = true ∧ (t.feed n.val).gate = .full) ∧
    (s.fst n.val = fsOn → 100000 ≤ s.absNs - (s.feed n.val).pgAt → (s.feed n.val).pgOk = false → s.flag (FEED_CHSTAT.PG n.val) = true →
      ∃ t, exec (.feedPgChange n) s = .next t ∧ t.fst n.val = fsOn ∧ t.flag (FEED_CHSTAT.PG n.val) = false ∧ t.evPend (evFeed n.val) = true ∧
        (t.rd FEED_PGLOSS_CNT.off).toNat = (s.rd FEED_PGLOSS_CNT.off).toNat + 1)) ∧
  (∀ (n : Fin 16) (s : State), s.resetReq = none → s.feedRuns = true → (s.rd FEED_DMG_CNT.off).toNat + 1 < 0xFFFFFFFF →
    (s.fst n.val = fsRetry → s.damaged n.val = false → (s.feed n.val).rail = false → (s.feed n.val).due ≤ s.absNs →
      s.feedCool n.val = true → s.railOk n.val = true → ∃ t, exec (.feedRetryEnd n) s = .next t ∧ s.feedRamps t n.val) ∧
    (s.fst n.val = fsRetry → s.damaged n.val = false → (s.feed n.val).rail = true → s.since (s.feed n.val).railAt 10000000 = true → s.feedCool n.val = true →
      s.railOk n.val = true → ∃ t, exec (.feedRailOk n) s = .next t ∧ s.feedRamps t n.val) ∧
    (s.fst n.val = fsOn → 10000000000 ≤ s.absNs - (s.feed n.val).onAt → ∃ t, exec (.feedTripCountReset n) s = .next t ∧
      t.g (FEED_CHSTAT.RUNTRIP n.val) = 0 ∧ t.fst n.val = fsOn ∧ t.feeds = s.feeds ∧ s.sameRegs t [FEED_CHSTAT.off n.val]) ∧
    (s.damaged n.val = true → ∃ t, exec (.feedDamageDetect n) s = .next t ∧ t.fst n.val = fsDamaged ∧
      t.g (FEED_CHSTAT.CAUSE n.val) = fcDamaged ∧ (t.rd FEED_DMG_CNT.off).toNat = (s.rd FEED_DMG_CNT.off).toNat + 1 ∧
      clSevere ≤ t.evKept (evFeed n.val) ∧ (s.flag (FEED_CFG.KILL_EN n.val) = true → t.flag FEED_STAT.KILL = true))) ∧
  (∀ (n : Fin 16) (o : Fin 5) (e : Nat) (s : State), s.resetReq = none → s.feedRuns = true →
    (∀ at_, (s.feed n.val).measAt = some at_ → 1000000 * (max 1 (s.g FEED_CTRL.MEAS_PER) : Nat) ≤ s.absNs - at_) →
    s.sigEntries false 2 n.val o.val = [e] →
    (∀ k, k < 5 → k ≠ o.val → s.sigEntries false 2 n.val k = []) → s.flag (BRG_SIG_SRC.SIGNED.at e) = false →
    let i := s.g (BRG_SIG_DST.POINT.at e)
    let v := fieldGet (s.flag (BRG_SIG_SRC.MOTOROLA.at e)) (s.g (BRG_SIG_SRC.BITPOS.at e)) (s.g (BRG_SIG_DST.BITLEN.at e))
      (bytesLE 4 (s.feedMeas n.val o.val))
    (s.pt i).typ ≠ tyUndef → encOk (s.pt i).typ (v % 2 ^ 64) = true →
    ∃ t, exec (.feedMeasUpdate n) s = .next t ∧ t.feed n.val = { s.feed n.val with measAt := some s.absNs } ∧
      t.pt i = ⟨BitVec.ofNat 64 v, s.fns48, if s.fst n.val = fsDamaged then qFault else qGood, (s.pt i).typ⟩ ∧
      (s.tileGood (i / 16) → (∀ j, j ≠ i → t.pt j = s.pt j) ∧ t.regs = s.regs))

/-! ### Power, resets and the start-up (ch. 15, 16) -/

/-- R91, R403 to R408, R411, R412. A vote brings a domain toward ON, and the last vote cleared leaves it PENDING; DOMAIN_ENTRY_BEGIN takes it toward its idle
state once no hold stands, and DOMAIN_TRANSITION_DONE ends the transition, with the registers of a domain that goes OFF at reset. A
comparator's raw output follows its input, and with it a ring port's signal detect; its filtered output follows at once or after FILT, and one
that rises wakes the domains of its mask.
Model's readings and choices: log entries 70, 100, 101, 160 and 193. -/
def Obligations.DomainsAndComparators : Prop :=
  (∀ (m : Master) (d : Fin 16) (val : Word) (s : State), s.serves m (PWR_DOM_VOTE.off d.val) 2 →
    ∃ t, exec (.domainVoteWrite m d val) s = .next t ∧ t.toldOK m ∧ t.pts = s.pts ∧ t.flow = s.flow ∧
      (d.val = 0 → t.regs = s.regs) ∧ s.sameRegs t (PWR_WAKE_LAST.off :: powerRegs) ∧
      (d.val ≠ 0 → ∀ i, i ∈ [0, 1, 2, 4, 8, 9, 10, 11, 12, 13, 14, 15] → (t.rd (PWR_DOM_VOTE.off d.val)).getLsbD i =
        if val.getLsbD (16 + i) then val.getLsbD i else (s.rd (PWR_DOM_VOTE.off d.val)).getLsbD i) ∧
      (d.val ≠ 0 → s.dom d.val = dsOn → t.dom d.val = if t.wantsOn d.val then dsOn else dsPending) ∧
      (d.val ≠ 0 → s.dom d.val = dsPending → t.wantsOn d.val = true → t.dom d.val = dsOn) ∧
      (d.val ≠ 0 → s.dom d.val = dsOff → t.wantsOn d.val = true → (∀ k, k < 16 → k ≠ d.val → s.dom k = dsOn) →
        t.dom d.val = dsToOn ∧ t.g (PWR_DOM_STAT.TRANS d.val) = (s.g (PWR_DOM_STAT.TRANS d.val) + 1) % 65536)) ∧
  (∀ (d : Fin 16) (s : State), s.resetReq = none → d.val ≠ 0 → s.dom d.val = dsPending → s.holdOf d.val = 0 →
    ∃ t, exec (.domainEntryBegin d) s = .next t ∧ t.dom d.val = (if s.idleOff d.val then dsToOff else dsToRet) ∧
      t.g (PWR_DOM_STAT.TRANS d.val) = (s.g (PWR_DOM_STAT.TRANS d.val) + 1) % 65536 ∧ (∀ k, k < 16 → k ≠ d.val → t.dom k = s.dom k) ∧
      (d.val = 3 ∨ d.val = 5 → t.flag PORT_BYP.PIN = false) ∧ t.pts = s.pts ∧ t.flow = s.flow) ∧
  (∀ (d : Fin 16) (s : State), s.resetReq = none → d.val ≠ 0 →
    (s.dom d.val = dsToOn → ∃ t, exec (.domainTransitionDone d) s = .next t ∧ t.dom d.val = if t.wantsOn d.val then dsOn else dsPending) ∧
    (s.dom d.val = dsToRet → ∃ t, exec (.domainTransitionDone d) s = .next t ∧
      (t.wantsOn d.val = false → s.idleOff d.val = false → t.dom d.val = dsRet)) ∧
    (s.dom d.val = dsToOff → ∃ t, exec (.domainTransitionDone d) s = .next t ∧ (t.wantsOn d.val = false → t.dom d.val = dsOff) ∧
      (∀ k, domainOf (k % 2 ^ 22) = d.val → storedReg (k % 2 ^ 22) = false → k ≠ SEC_STAT.off → t.rd k = regReset k) ∧
      (d.val ≤ 2 → ∀ a, t.bankByte (d.val - 1) a = 0) ∧ (d.val = 6 → t.cst.cist = []) ∧ (d.val = 7 → t.pts.recs = []) ∧ (d.val = 11 → t.can = []) ∧ (d.val = 15 → t.feeds = []))) ∧
  (∀ (n : Fin 24) (x : Nat) (s : State), s.resetReq = none → (16 ≤ n.val ∨ s.feedCompares = true) → s.flag (CMP_CFG.EN n.val) = true →
    SMap.get (fun _ => none) s.power.cmpForce n.val = none → s.sigEntries false 3 0 n.val = [] →
    let thr := s.g (CMP_CFG.THR n.val)
    let hyst := s.g (CMP_CFG.HYST n.val)
    let old := s.flag (CMP_STAT.RAW n.val)
    let raw := if s.flag (CMP_CFG.POL n.val) then (if x < thr then true else if thr + hyst < x then false else old)
      else if thr < x then true else if x + hyst < thr then false else old
    ∃ t, exec (.cmpRawChange n x) s = .next t ∧ t.flag (CMP_STAT.RAW n.val) = raw ∧
      (s.g (CMP_CFG.FILT n.val) = 0 → t.flag (CMP_STAT.OUT n.val) = raw ∧
        (s.flag (CMP_STAT.OUT n.val) ≠ raw → t.flag (if raw then CMP_STAT.ROSE n.val else CMP_STAT.FELL n.val) = true ∧
          (t.rd CMP_OUT.off).getLsbD n.val = raw ∧ t.evPend (evCmp n.val) = true)) ∧
      (16 ≤ n.val → n.val < 20 → s.portRuns (n.val - 16) = true → raw ≠ old → t.flag (PORT_STAT.SD (n.val - 16)) = raw) ∧
      (s.g (CMP_CFG.FILT n.val) ≠ 0 → t.flag (CMP_STAT.OUT n.val) = s.flag (CMP_STAT.OUT n.val) ∧
        s.sameRegs t [CMP_STAT.off n.val, PORT_STAT.off (n.val - 16)]) ∧
      (n.val < 16 ∨ 20 ≤ n.val → ∀ p, p < 4 → t.rd (PORT_STAT.off p) = s.rd (PORT_STAT.off p)) ∧
      (s.flag (CMP_WAKE.EN n.val) = false → s.keepsRegs t [CMP_STAT.off n.val, CMP_OUT.off, PORT_STAT.off (n.val - 16)]) ∧
      (s.flag (CMP_WAKE.EN n.val) = true → s.g (CMP_CFG.FILT n.val) = 0 → s.flag (CMP_STAT.OUT n.val) = false → raw = true →
        s.wakeWord n.val = s.rd (CMP_WAKE.off n.val) → (s.rd PWR_WAKE_CNT.off).toNat + 1 < 0xFFFFFFFF →
        (t.rd PWR_WAKE_SRC.off).getLsbD n.val = true ∧ (t.rd PWR_WAKE_CNT.off).toNat = (s.rd PWR_WAKE_CNT.off).toNat + 1 ∧
        t.g PWR_WAKE_LAST.CMP = n.val ∧ t.flag PWR_WAKE_LAST.VALID = true ∧
        (∀ d, 1 ≤ d → d < 16 → (s.rd (CMP_WAKE.off n.val)).getLsbD d = true → t.flag (PWR_DOM_VOTE.WAKE d) = true ∧
          (3 ≤ d → s.dom d = dsRet → (∀ k, k < 16 → k ≠ d → s.dom k = dsOn) → t.dom d = dsToOn)))) ∧
  (∀ (n : Fin 24) (at_ : Nat) (s : State), s.resetReq = none → s.flag (CMP_WAKE.EN n.val) = false → s.sigEntries false 3 0 n.val = [] → SMap.get (fun _ => none) s.power.cmpFilt n.val = some at_ → (s.g (CMP_CFG.FILT n.val) * 100 : Int) ≤ sgn48 s.fns48 at_ →
    s.flag (CMP_STAT.RAW n.val) ≠ s.flag (CMP_STAT.OUT n.val) →
    ∃ t, exec (.cmpFilterExpire n) s = .next t ∧ t.flag (CMP_STAT.OUT n.val) = s.flag (CMP_STAT.RAW n.val) ∧
      (t.rd CMP_OUT.off).getLsbD n.val = s.flag (CMP_STAT.RAW n.val) ∧ t.evPend (evCmp n.val) = true ∧
      t.flag (if s.flag (CMP_STAT.RAW n.val) then CMP_STAT.ROSE n.val else CMP_STAT.FELL n.val) = true ∧
      s.keepsRegs t [CMP_STAT.off n.val, CMP_OUT.off])

/-- R423 to R427, R434 to R437, R439, R440. CFG_RESET_SYSTEM, RST_N_ASSERT and JTAG_RESET enter a SYSTEM reset, CFG_RESET_CONTROL a CONTROL reset that leaves
points and flows alone; POWER_ON_RESET and VAON_LOSS leave the POWER-ON state. A start-up whose self-test fails ends in a Grave fault, and a SYSTEM reset. Else it votes its domains ON, checks that the NOR answers, and
loads: a good image without REG records runs with its active unit released, A unless only B's self-check passes; a bad image falls back to the
other slot once, and then ends in FAILSAFE, as a NOR of an unsupported size and two failed units do.
Model's readings and choices: log entries 104, 105, 106, 109, 110, 112, 113, 114, 115 and 117. -/
def Obligations.ResetsAndStartUp : Prop :=
  (∀ (m : Master) (s : State), (s.rd CFG_RST_CNT.off).toNat + 1 < 0xFFFFFFFF →
    (s.serves m CFG_RESET.off 2 → ∃ t, exec (.cfgResetSystem m) s = .next t ∧ s.systemReset t 2 m.mid.val) ∧
    (s.resetReq = none → ∃ t, exec .rstNAssert s = .next t ∧ s.systemReset t 1 0) ∧
    (s.resetReq = none → s.jtagOpen = true → ∃ t, exec .jtagReset s = .next t ∧ s.systemReset t 3 0) ∧
    (s.serves m CFG_RESET.off 2 → s.flag FH_CTRL.SAFE_JETS = false →
      ∃ t, exec (.cfgResetControl m) s = .next t ∧ t.g CFG_BOOT.STAGE = 1 ∧
        t.g CFG_BOOT.KIND = (if s.g CFG_BOOT.STAGE < 5 ∧ s.boot.kind < 2 then s.boot.kind else 2) ∧ t.g CFG_RST_CAUSE.KIND = 2 ∧
        t.g CFG_RST_CAUSE.SRC = 2 ∧ t.g CFG_RST_CAUSE.MID = m.mid.val ∧ t.unit 0 = fhOff ∧ t.unit 1 = fhOff ∧ t.fh.halted = [0, 1] ∧
        t.flag FH_STAT.SAFE = true ∧ t.pts = s.pts ∧ t.flow = s.flow ∧ t.jets = s.jets ∧ t.cst = s.cst ∧
        (∀ u a, u < 2 → a < 0x80000 → t.bankByte u a = 0) ∧
        s.keepsRegs t [CFG_BOOT.off, CFG_BOOT_ERR.off, CFG_RST_CAUSE.off, CFG_RST_CNT.off, FH_STAT.off, FH_CKPT_STAT.off, UPD_STAT.off])) ∧
  (∀ s : State, s.resetReq = none →
    (∃ t, exec .powerOnReset s = .next t ∧ s.poweredOn t ∧ t.flow.ring = s.flow.ring) ∧
    (s.flow.commit = none → ∃ t, exec .vaonLoss s = .next t ∧ s.poweredOn t ∧ t.flow.ring = s.flow.ring) ∧
    (∀ g, s.flow.commit = some g → 1 ≤ g.lines → (s.commitRecs s.flow.lsn g.recs).2.length = g.lines → g.lines ≤ 256 →
      ∃ t, exec .vaonLoss s = .next t ∧ t.flow.commit = none ∧ t.pts = State.reset.pts ∧
        t.ringLine ((s.flow.lsn + g.lines - 1) % ringLines) = s.ringLine ((s.flow.lsn + g.lines - 1) % ringLines))) ∧
  (∀ s : State, s.resetReq = none → s.g CFG_BOOT.STAGE = 1 → s.boot.busy = false →
    ∃ t, exec (.bootSequenceStart true) s = .next t ∧ t.boot = { s.boot with busy := true } ∧ t.unit 0 = fhLoad ∧ t.unit 1 = fhLoad ∧
      t.dom 14 = dsOn ∧ (∀ d, d ∈ bootDomains s.boot.kind → t.flag (PWR_DOM_VOTE.BOOT d) = true) ∧ t.g CFG_BOOT.STAGE = 1 ∧
      s.sameRegs t (FH_STAT.off :: powerRegs)) ∧
  (∀ s : State, s.resetReq = none → s.g CFG_BOOT.STAGE = 1 → s.boot.busy = false →
    ∃ t, exec (.bootSequenceStart false) s = .next t ∧ t.sump.grave = true ∧ t.g CFG_BOOT.STAGE = 1 ∧ t.g CFG_RST_CAUSE.KIND = 1 ∧
      t.g CFG_RST_CAUSE.SRC = 4) ∧
  (∀ (size : Nat) (modes : Fin 16) (s : State), s.resetReq = none → s.g CFG_BOOT.STAGE = 1 → s.boot.busy = true → s.sump.grave = false →
    (∀ d, d ∈ bootDomains s.boot.kind → s.domOn d = true) →
    let slot := if s.boot.first then (if s.upd.rec_ = 2 then s.spareSlot else s.g UPD_STAT.BOOT) else s.boot.slot
    ∃ t, exec (.bootDomainsReady size modes) s = .next t ∧ t.g CFG_NOR.SIZE = min 255 (size / 4) ∧ t.g CFG_NOR.MODE = 0 ∧
      t.g CFG_NOR.MHZ = 25 ∧ t.boot.slot = slot ∧
      (64 ≤ size → size ≤ 256 → t.g CFG_BOOT.STAGE = 3 ∧ t.boot = { s.boot with modes := modes.val, slot := slot } ∧
        s.sameRegs t [CFG_BOOT.off, CFG_NOR.off]) ∧
      (size < 64 ∨ 256 < size → t.g CFG_BOOT.STAGE = 6 ∧ t.boot.busy = false ∧
        t.g (if slot = 0 then CFG_BOOT_ERR.CAUSE0 else CFG_BOOT_ERR.CAUSE1) = 1 ∧ t.evPend (evCfg 2) = true ∧
        clSevere ≤ t.evKept (evCfg 2))) ∧
  (∀ (img : List Byte) (a b : Bool) (s : State), s.resetReq = none → s.g CFG_BOOT.STAGE = 3 → s.boot.busy = true → s.boot.slot < 2 → s.upd.rec_ = 0 →
    (s.rd CFG_FALLBACK_CNT.off).toNat + 1 < 0xFFFFFFFF →
    ∃ t, exec (.bootLoadDone img a b) s = .next t ∧ SMap.get (fun _ => []) t.boot.slots s.boot.slot = img ∧
      (let c := ((s.setSlot s.boot.slot img).norMode img).checkImage img
      (c.1 = 0 → s.boot.first = true → (∀ e ∈ c.2.2, e.typ ≠ 1) → (a || b) = true → t.g CFG_BOOT.STAGE = 5 ∧
          t.g CFG_BOOT.SLOT = s.boot.slot ∧ t.active = b2n !a ∧
          t.unit (b2n !a) = fhActive ∧ t.unit (b2n a) = fhProof ∧ t.fh.halted = [] ∧ t.boot.busy = false ∧ t.g DEV_NODE.NODE_ID = leAt img 30 2 ∧
          t.g CFG_IMAGE_ID.ID = leAt img 8 4 ∧
          (∀ e, c.2.2 = [e] → e.typ = 2 → e.flags.testBit 0 = false → e.target + e.data.length ≤ 0x80000 → ∀ u i, u < 2 → i < e.data.length →
            t.bankByte u (e.target + i) = e.data.getD i 0)) ∧
        (c.1 = 0 → (∀ e ∈ c.2.2, e.typ ≠ 1) → (a || b) = false → t.g CFG_BOOT.STAGE = 6 ∧
          t.g (if s.boot.slot = 0 then CFG_BOOT_ERR.CAUSE0 else CFG_BOOT_ERR.CAUSE1) = 10) ∧
        (c.1 ≠ 0 → s.boot.first = true → t.g CFG_BOOT.STAGE = 3 ∧ t.flag CFG_BOOT.FALLBACK = true ∧ t.boot.slot = 1 - s.boot.slot ∧
          t.boot.first = false ∧ t.g (if s.boot.slot = 0 then CFG_BOOT_ERR.CAUSE0 else CFG_BOOT_ERR.CAUSE1) = c.1 ∧
          (t.rd CFG_FALLBACK_CNT.off).toNat = (s.rd CFG_FALLBACK_CNT.off).toNat + 1 ∧ t.evPend (evCfg 2) = true) ∧
        (c.1 ≠ 0 → s.boot.first = false → t.g CFG_BOOT.STAGE = 6 ∧ t.boot.busy = false ∧ t.unit 0 = fhOff ∧ t.unit 1 = fhOff ∧
          t.flag PORT_BYP.PIN = false ∧ t.evPend (evCfg 2) = true ∧ clSevere ≤ t.evKept (evCfg 2) ∧
          (∀ d, 1 ≤ d → d < 16 → t.flag (PWR_DOM_VOTE.BOOT d) = (d == 6 || d == 10 || d == 14 || d == 15)))))

/-! ### Relay, update and handover (ch. 17) -/

/-- R443 to R455, R459. A package offered or injected is refused with the first cause that applies, or held and offered on; chunks are
held once their tag verifies and sent to neighbours that accepted, and sent again after 1 s. A complete package is built into the spare slot,
staged, and handed over: FH_HANDOVER, the halt at C, UPD_COMMIT, the records applied, or an abort. CONFIRM, REVERT, DISCARD and REAPPLY act in their states
and are refused in others.
Model's readings and choices: log entries 119, 121, 122, 123, 124, 125, 126, 127, 128, 129, 194, 195 and 196. -/
def Obligations.UpdatesAndHandover : Prop :=
  (∀ (m : Master) (val : Word) (s : State), s.serves m UPD_INJ_CTRL.off 2 → UPD_INJ_CTRL.INDEX.get val = 0 → UPD_INJ_CTRL.LEN.get val = 256 →
    (s.rd UPD_REFUSE_CNT.off).toNat + 1 < 0xFFFFFFFF →
    let h := (List.range 64).flatMap (fun k => bytesLE 4 (s.rd (UPD_INJ_BUF.off k)).toNat)
    ∃ t, exec (.updInject m val) s = .next t ∧ t.toldOK m ∧
      (if s.upd.hdr.isSome = true ∧ s.pkgId = leAt h 4 4 then t.upd = s.upd ∧ s.sameRegs t [UPD_INJ_CTRL.off]
        else if s.pkgCheck h = 0 then s.packageHeld t h else s.packageRefused t (s.pkgCheck h))) ∧
  (∀ (m : Master) (val : Word) (h : List Byte) (s : State), s.serves m UPD_INJ_CTRL.off 2 → s.chunkNew h (UPD_INJ_CTRL.INDEX.get val) →
    UPD_INJ_CTRL.LEN.get val ≤ 8256 →
    let d := ((List.range 2064).flatMap (fun k => bytesLE 4 (s.rd (UPD_INJ_BUF.off k)).toNat)).take (UPD_INJ_CTRL.LEN.get val)
    ∃ t, exec (.updInject m val) s = .next t ∧ t.toldOK m ∧ s.chunkTaken t h (UPD_INJ_CTRL.INDEX.get val) d) ∧
  (∀ (p : Fin 4) (f : Frame) (s : State), s.resetReq = none → s.relayTakes p.val f 1 = true → (s.rd UPD_REFUSE_CNT.off).toNat + 1 < 0xFFFFFFFF →
    let h := slice f.payload 16 256
    let c := s.pkgCheck h
    (s.upd.hdr.isSome = true → s.pkgId = leAt h 4 4 → ∃ t, exec (.runnelOfferReceive p f) s = .next t ∧ t.upd = s.upd ∧ t.regs = s.regs ∧
      t.relays p.val (relayHead 2 0 (leAt h 4 4) 0 (s.g UPD_PROG.HAVE))) ∧
    ((s.upd.hdr = none ∨ s.pkgId ≠ leAt h 4 4) → ∃ t, exec (.runnelOfferReceive p f) s = .next t ∧
      (if c = 0 then s.packageHeld t h else s.packageRefused t c) ∧
      t.relays p.val (relayHead 2 c (leAt h 4 4) 0 (if c = 0 then 0 else s.g UPD_PROG.HAVE)))) ∧
  (∀ (p : Fin 4) (f : Frame) (k c : Nat) (d : List Byte) (s : State), s.resetReq = none → s.upd.hdr.isSome = true → beAt f.payload 4 4 = s.pkgId →
    (s.relayTakes p.val f 2 = true → beAt f.payload 1 1 ≠ 0 → ∃ t, exec (.runnelAnswerReceive p f) s = .next t ∧
      t.peer p.val = { s.peer p.val with accepted := false } ∧ t.regs = s.regs ∧ t.sw = s.sw) ∧
    (s.relayTakes p.val f 2 = true → beAt f.payload 1 1 = 0 → s.chunkDue p.val (beAt f.payload 12 4) k c d →
      ∃ t, exec (.runnelAnswerReceive p f) s = .next t ∧ (t.peer p.val).accepted = true ∧ (t.peer p.val).have_ = beAt f.payload 12 4 ∧
        (k, s.absNs) ∈ (t.peer p.val).sent ∧ (t.peer p.val).inCycle ≤ s.relayRate ∧ t.regs = s.regs ∧
        t.relays p.val (relayHead 3 0 s.pkgId k (s.g UPD_PROG.HAVE) ++ d)) ∧
    (s.relayTakes p.val f 4 = true → s.chunkDue p.val (beAt f.payload 12 4) k c d →
      ∃ t, exec (.runnelHaveReceive p f) s = .next t ∧ (t.peer p.val).accepted = true ∧ (t.peer p.val).have_ = beAt f.payload 12 4 ∧
        (k, s.absNs) ∈ (t.peer p.val).sent ∧ (t.peer p.val).inCycle ≤ s.relayRate ∧ t.regs = s.regs ∧
        t.relays p.val (relayHead 3 0 s.pkgId k (s.g UPD_PROG.HAVE) ++ d))) ∧
  (∀ (p : Fin 4) (f : Frame) (h : List Byte) (s : State), s.resetReq = none → s.relayTakes p.val f 3 = true → beAt f.payload 4 4 = s.pkgId →
    s.chunkNew h (beAt f.payload 8 4) →
    ∃ t, exec (.runnelChunkReceive p f) s = .next t ∧ s.chunkTaken t h (beAt f.payload 8 4) (f.payload.drop 16)) ∧
  (∀ (p : Fin 4) (k : Nat) (at_ : Int) (s : State), s.resetReq = none → s.runnelOn = true → s.pst p.val = psUp →
    (s.peer p.val).inCycle < s.relayRate → (s.chunk k).isSome = true → (s.rd UPD_RESEND_CNT.off).toNat + 1 < 0xFFFFFFFF →
    (s.peer p.val).sent = [(k, at_)] → (s.peer p.val).have_ < k → at_ + 1000000000 ≤ s.absNs →
    ∃ t, exec (.runnelChunkResend p) s = .next t ∧ (t.rd UPD_RESEND_CNT.off).toNat = (s.rd UPD_RESEND_CNT.off).toNat + 1 ∧
      t.peer p.val = { s.peer p.val with inCycle := (s.peer p.val).inCycle + 1, sent := [(k, s.absNs)] } ∧
      t.relays p.val (relayHead 3 0 s.pkgId k (s.g UPD_PROG.HAVE) ++ ((s.chunk k).map (·.2)).getD []) ∧ s.sameRegs t [UPD_RESEND_CNT.off]) ∧
  (∀ (h : List Byte) (s : State), s.resetReq = none → s.upd.hdr = some h →
    let c := s.pkgPlain h
    let e := pkgEntry c s.node
    (s.ust = usComplete → s.upd.building = false → ∃ t, exec .updateBuildDone s = .next t ∧
      (if e.isNone then t.ust = usNotMine ∧ t.upd = s.upd ∧ t.boot = s.boot
        else t.upd = { s.upd with building := true } ∧ t.slot s.spareSlot = [] ∧ t.slot (s.g UPD_STAT.BOOT) = s.slot (s.g UPD_STAT.BOOT) ∧
          t.ust = usComplete)) ∧
    (s.upd.building = true → s.flag UPD_CFG.AUTO_STAGE = false → s.failsafe = false → ∃ t, exec .imageBuildComplete s = .next t ∧
      (if e.isSome then t.slot s.spareSlot = pkgImage c (e.getD (0, 0, 0)) ∧ t.ust = usBuilt ∧ t.upd = { s.upd with building := false } ∧
        t.slot (s.g UPD_STAT.BOOT) = s.slot (s.g UPD_STAT.BOOT) else t.ust = s.ust ∧ t.upd = s.upd))) ∧
  (∀ (m : Master) (s : State), s.serves m UPD_CMD.off 2 → (s.rd UPD_CFGERR_CNT.off).toNat + 1 < 0xFFFFFFFF → s.unit s.standby = fhStandby →
    (s.ust = usBuilt → ∃ t, exec (.updStage m) s = .next t ∧ t.toldOK m ∧ t.ust = usStaging ∧ t.unit s.standby = fhLoad ∧
      t.upd = { s.upd with revert := false, confirm := false, loading := some s.standby } ∧ t.active = s.active) ∧
    (s.ust = usTrial → s.flag SEC_CFG.SVN_AUTO = false → ∃ t, exec (.updConfirm m) s = .next t ∧ t.toldOK m ∧ t.ust = usStaging ∧
      t.unit s.standby = fhLoad ∧ t.upd = { s.upd with revert := false, confirm := true, loading := some s.standby }) ∧
    (s.ust = usTrial → s.flag SEC_CFG.SVN_AUTO = true → ∃ t, exec (.updConfirm m) s = .next t ∧
      t.g SEC_SVN_MIN.SVN = max (s.g SEC_SVN_MIN.SVN) (s.boot.svn % 2 ^ 32)) ∧
    (s.ust = usTrial → ∃ t, exec (.updRevert m) s = .next t ∧ t.toldOK m ∧ t.ust = usStaging ∧ t.unit s.standby = fhStandby ∧
      t.upd = { s.upd with revert := true, confirm := false, loading := none }) ∧
    (s.ust ≠ usStaging → s.ust ≠ usHandover → s.ust ≠ usTrial → ∃ t, exec (.updDiscard m) s = .next t ∧ t.toldOK m ∧ t.ust = usIdle ∧
      t.upd.hdr = none ∧ t.upd.chunks = [] ∧ t.rd UPD_PKG_ID.off = 0 ∧ t.rd UPD_PKG_SEQ.off = 0 ∧ t.rd UPD_PROG.off = 0) ∧
    (s.ust = usReverted → s.upd.applying = false → (s.rd UPD_ABORT_CNT.off).toNat + 1 < 0xFFFFFFFF →
      let c := s.checkImage (s.slot (s.g UPD_STAT.BOOT))
      ∃ t, exec (.updReapply m) s = .next t ∧ t.toldOK m ∧
        (if c.1 = 0 ∧ (s.recordsFail 0 (imgRecords c.2.2 false)).isNone then
          t.upd = { s.upd with records := imgRecords c.2.2 false, applying := true, reapply := true } ∧ t.flag UPD_STAT.APPLIED = false
        else t.upd = s.upd ∧ t.g UPD_STAT.CAUSE = 11 ∧ (t.rd UPD_ABORT_CNT.off).toNat = (s.rd UPD_ABORT_CNT.off).toNat + 1)) ∧
    (s.ust ≠ usBuilt → ∃ t, exec (.updStage m) s = .next t ∧ s.updRefused t m) ∧
    (s.ust ≠ usTrial → (∃ t, exec (.updConfirm m) s = .next t ∧ s.updRefused t m) ∧ ∃ t, exec (.updRevert m) s = .next t ∧ s.updRefused t m) ∧
    (s.ust = usStaging ∨ s.ust = usHandover ∨ s.ust = usTrial → ∃ t, exec (.updDiscard m) s = .next t ∧ s.updRefused t m)) ∧
  (∀ (u : Nat) (s : State), s.resetReq = none → s.ust = usStaging → s.upd.confirm = false → u < 2 →
    let c := s.checkImage (s.slot s.spareSlot)
    let good := c.1 = 0 ∧ imgBanks c.2.2 = s.g FH_BANKS.PROG ∧ (imgRecords c.2.2 true).any recordBad = false
    (s.upd.loading = some u → s.domOn (u + 1) = true → ∃ t, exec .stagingDone s = .next t ∧ t.unit u = fhStandby ∧ t.upd.loading = none ∧
      t.ust = (if good then usStaged else usBuilt) ∧ (c.1 ≠ 0 → t.g UPD_STAT.BCAUSE = c.1) ∧
      (c.1 = 0 → imgBanks c.2.2 ≠ s.g FH_BANKS.PROG → t.g UPD_STAT.CAUSE = 10) ∧
      (c.1 = 0 → imgBanks c.2.2 = s.g FH_BANKS.PROG → ¬ good → t.g UPD_STAT.BCAUSE = 9) ∧
      (good → t.upd.records = imgRecords c.2.2 false) ∧
      (good → s.upd.revert = false → ∀ e, c.2.2 = [e] → e.typ = 2 → e.target + e.data.length ≤ 0x80000 → ∀ i, i < e.data.length →
        t.bankByte u (e.target + i) = e.data.getD i 0)) ∧
    (s.upd.loading = none → s.upd.revert = true → ∃ t, exec .stagingDone s = .next t ∧ t.ust = (if good then usStaged else usBuilt) ∧
      (good → t.fh = s.fh ∧ t.upd = { s.upd with records := imgRecords c.2.2 false }))) ∧
  (∀ (u : Nat) (s : State), s.resetReq = none → s.ust = usStaging → s.upd.confirm = true → s.upd.loading = some u → u < 2 →
    s.domOn (u + 1) = true →
    let c := s.checkImage (s.slot (s.g UPD_STAT.BOOT))
    ∃ t, exec .stagingDone s = .next t ∧ t.unit u = fhStandby ∧ t.upd = { s.upd with loading := none } ∧ t.ust = usIdle ∧
      (c.1 = 0 → ∀ e, c.2.2 = [e] → e.typ = 2 → e.target + e.data.length ≤ 0x80000 → ∀ i, i < e.data.length →
        t.bankByte u (e.target + i) = e.data.getD i 0)) ∧
  (∀ (m : Master) (s : State), s.serves m FH_CMD.off 2 → s.fhMiss m FH_CMD.off = false → s.unit s.standby = fhStandby → s.ust = usStaged →
    supUnit m.mid.val = some s.active →
    ∃ t, exec (.fhHandover m) s = .next t ∧ t.toldOK m ∧ t.unit s.standby = fhRestore ∧ t.ust = usHandover ∧ t.active = s.active ∧
      t.upd.rec_ = 1 ∧ t.upd.old = s.active ∧ t.upd.cAt = none ∧ t.fh = s.fh ∧
      (let c := t.upd.cDue.getD 0
       c % (s.periodNs : Int) = 0 ∧ s.fns + 1000 * (max 500 (s.g UPD_HO_CFG.LEAD) : Nat) ≤ c ∧
        c < s.fns + 1000 * (max 500 (s.g UPD_HO_CFG.LEAD) : Nat) + (s.periodNs : Int)) ∧ t.upd.cDue.isSome = true) ∧
  (∀ (c : Int) (s : State), s.resetReq = none → s.upd.rec_ = 1 → s.upd.cDue = some c → s.upd.cAt = none → c ≤ s.fns → s.fh.trig = none →
    ∃ t, exec .handoverAtBoundary s = .next t ∧
      (s.fh.copy.isSome = true → t.upd = { s.upd with cDue := some (c + (s.periodNs : Int)) } ∧ t.fh = s.fh) ∧
      (s.fh.copy = none → t.upd = { s.upd with cDue := none, cAt := some c } ∧ t.fh.halted.contains s.upd.old = true ∧
        t.flag FH_CKPT_STAT.BUSY = true ∧ t.fh.copy.map (·.1) = some (match s.newestSlot with | some (k, _) => 1 - k | none => 0)) ∧
      s.sameRegs t [FH_CKPT_STAT.off] ∧ t.flag FH_STAT.SAFE = s.flag FH_STAT.SAFE) ∧
  (∀ (m : Master) (s : State), s.serves m UPD_CMD.off 2 → s.upd.rec_ = 1 → s.upd.cAt.isSome = true → s.upd.applying = false → s.fh.trig = none →
    s.newSup m = true → s.upd.old < 2 → (s.rd UPD_ABORT_CNT.off).toNat + 1 < 0xFFFFFFFF →
    ∃ t, exec (.updCommit m) s = .next t ∧ t.toldOK m ∧
      (if (s.recordsFail 0 s.upd.records).isNone then t.upd = { s.upd with rec_ := 2, applying := true } ∧ t.regs = s.regs
        else s.hoAborted t 11)) ∧
  (∀ (c : Int) (s : State), s.resetReq = none → s.upd.rec_ = 1 → s.upd.cAt = some c → s.upd.applying = false → s.fh.trig = none → s.upd.old < 2 →
    (s.rd UPD_ABORT_CNT.off).toNat + 1 < 0xFFFFFFFF → c + 1000000 * (max 1 (s.g UPD_HO_CFG.DEADLINE) : Nat) < s.fns →
    ∃ t, exec .handoverDeadline s = .next t ∧ s.hoAborted t 12) ∧
  (∀ (c : Int) (s : State), s.resetReq = none → s.upd.applying = true → s.upd.records = [] →
    (s.upd.reapply = true → ∃ t, exec .handoverApplied s = .next t ∧ t.flag UPD_STAT.APPLIED = true ∧
      t.upd = { s.upd with applying := false, reapply := false } ∧ t.active = s.active ∧ t.ust = s.ust ∧ s.sameRegs t [UPD_STAT.off]) ∧
    (s.upd.reapply = false → s.upd.cAt = some c → s.upd.old < 2 → s.unit s.upd.old ≠ fhFailed → s.upd.lateTrig = false →
      ∃ t, exec .handoverApplied s = .next t ∧ t.flag UPD_STAT.APPLIED = true ∧ t.active = 1 - s.upd.old ∧
        t.unit (1 - s.upd.old) = fhActive ∧ t.unit s.upd.old = fhStandby ∧ t.g UPD_STAT.BOOT = s.spareSlot ∧
        t.g UPD_STAT.OLD = s.g UPD_STAT.BOOT ∧ t.ust = (if s.upd.revert then usReverted else usTrial) ∧
        t.g UPD_HO_STAT.GAP = min 65535 ((s.fns - c) / 1000).toNat ∧ t.upd.rec_ = 0 ∧ t.upd.applying = false ∧
        t.g CFG_IMAGE_ID.ID = leAt (s.slot s.spareSlot) 8 4)) ∧
  (∀ (off : Nat) (v : Word) (r : RegRow) (s : State), s.resetReq = none → s.upd.applying = true → s.upd.reapply = true →
    off ∈ [SUMP_SPILL.off, UPD_HO_CFG.off, FH_CTRL.off] → s.domGate off = 0 → regRow off = some r → s.upd.records = [(off, v)] →
    ∃ t, exec .handoverApplied s = .next t ∧ t.flag UPD_STAT.APPLIED = true ∧ s.sameRegs t [UPD_STAT.off, off] ∧
      (∀ f ∈ r.fields, ∀ i, f.lo ≤ i → i ≤ f.hi → (t.rd off).getLsbD i = if f.acc = .rw then v.getLsbD i else (s.rd off).getLsbD i))

/-! ### Grotto (ch. 18) -/

/-- R460 to R473. Each owner command ends with the result that its checks give, and with its effect on the key store when that is OK. Sessions are
opened over a fresh nonce, verified, closed and expired. The key agreement of a hop goes INIT, RESP, CONFIRM, the switch of the transmit key, and
the end of the old AN; a failure or a timeout is counted and tried again. NOISE_HEALTH_FAIL resets the block, TAMPER_DETECT ends
sessions and starts the agreements of the secured ports again, and DEBUG_UNLOCK needs a token that verifies.
Model's readings and choices: log entries 131, 133, 155, 197 and 198. -/
def Obligations.GrottoGuards : Prop :=
  (∀ (m : Master) (s : State), s.secReady m →
    (let r := if s.life ≠ 1 then srSTATE else if m.mid.val = 8 ∨ m.mid.val = 9 then srOK else srCLASS
     ∃ t, exec (.secEnrol m) s = .next t ∧ s.secEnded t m r ∧
      (r = srOK → t.sec.root = s.secBuf 0 96 ∧ t.life = 2 ∧ t.sec.keys = s.sec.keys ∧
        ⟨m.mid.val, 0, s.absNs + 1000000000 * (max 1 (s.g SEC_CFG.LIFE) : Nat)⟩ ∈ t.sec.sessions)) ∧
    (let r := if s.privileged m then srOK else srCLASS
     ∃ t, exec (.secZeroise m) s = .next t ∧ s.secEnded t m r ∧
      (r = srOK → t.life = 1 ∧ t.sec.root = [] ∧ t.sec.keys = [] ∧ t.sec.cert = none ∧ t.sec.sessions = [] ∧ t.sec.nonceFor = none)) ∧
    (s.owned = false ∨ s.privileged m = false →
      let r := if s.owned then srCLASS else srSTATE
      (∃ t, exec (.secKeyload m) s = .next t ∧ s.secEnded t m r) ∧ (∃ t, exec (.secRevoke m) s = .next t ∧ s.secEnded t m r) ∧
        (∃ t, exec (.secNodecert m) s = .next t ∧ s.secEnded t m r) ∧ (∃ t, exec (.secSvnRaise m) s = .next t ∧ s.secEnded t m r) ∧
        ∃ t, exec (.secTransfer m) s = .next t ∧ s.secEnded t m r)) ∧
  (∀ (m : Master) (s : State), s.secReady m → s.owned = true → s.privileged m = true →
    (let id := s.bufLE 4 4
     let kind := s.bufLE 8 1
     let nd := s.bufLE 9 2
     let rest := s.sec.keys.filter (fun e => e.id != id)
     let r := if s.bufLE 0 4 ≠ 0x59314B52 ∨ 128 ≤ kind ∨ natLE (s.secBuf 11 5) ≠ 0 then srFORMAT
       else if nd ≠ 0xFFFF ∧ nd ≠ s.node then srSCOPE
       else if !Config.ecdsa s.sec.root (s.secBuf 0 256) (s.secBuf 256 96) then srSIG
       else if (kind.testBit 1 || kind.testBit 3) && (Config.unwrap (s.secBuf 112 96) (s.secBuf 208 48)).isNone then srKEY
       else if 32 ≤ rest.length then srFULL else srOK
     ∃ t, exec (.secKeyload m) s = .next t ∧ s.secEnded t m r ∧
      (r = srOK → t.sec = { s.sec with keys := rest ++ [⟨id, kind, nd, s.secBuf 16 96, s.secBuf 112 96, s.secBuf 208 48⟩] })) ∧
    (let id := s.bufLE 0 4
     let r := if !s.sec.keys.any (fun e => e.id == id) then srKEY
       else if Config.ecdsa s.sec.root (s.secBuf 0 4) (s.secBuf 4 96) then srOK else srSIG
     ∃ t, exec (.secRevoke m) s = .next t ∧ s.secEnded t m r ∧
      (r = srOK → t.sec = { s.sec with keys := s.sec.keys.filter (fun e => e.id != id) })) ∧
    (let ca := s.keyOf (s.bufLE 106 4) kNODECA
     let r := if s.bufLE 110 2 ≠ 0 then srFORMAT else if ca.isNone then srKEY
       else if ca.any (fun k => Config.ecdsa k.pub (s.secBuf 0 112) (s.secBuf 112 96)) then srOK else srSIG
     ∃ t, exec (.secNodecert m) s = .next t ∧ s.secEnded t m r ∧ (r = srOK → t.sec = { s.sec with cert := some (s.secBuf 0 208) })) ∧
    (let r := if s.bufLE 0 4 < s.g SEC_SVN_MIN.SVN then srSTATE else srOK
     ∃ t, exec (.secSvnRaise m) s = .next t ∧ s.secEnded t m r ∧ t.sec = s.sec ∧
      t.g SEC_SVN_MIN.SVN = if r = srOK then s.bufLE 0 4 else s.g SEC_SVN_MIN.SVN) ∧
    (let r := if Config.ecdsa s.sec.root (s.secBuf 0 96) (s.secBuf 96 96) then srOK else srSIG
     ∃ t, exec (.secTransfer m) s = .next t ∧ s.secEnded t m r ∧
      (r = srOK → t.sec = { s.sec with root := s.secBuf 0 96, keys := [], cert := none, sessions := [], nonceFor := none }))) ∧
  (∀ (m : Master) (s : State), s.serves m SEC_SESS_CMD.off 0 → (s.rd SEC_AUTH_FAIL.off).toNat + 1 < 0xFFFFFFFF →
    (let r := if s.flag SEC_STAT.ERR then srSTATE else if s.flag SEC_STAT.BUSY then srBUSY else srOK
     ∃ t, exec (.sessionOpen m) s = .next t ∧ t.toldOK m ∧ t.g SEC_RESULT.CODE = r ∧
      s.sameRegs t ([SEC_RESULT.off, SEC_STAT.off] ++ (List.range 12).map SEC_NONCE.off) ∧
      (r = srOK → t.flag SEC_STAT.BUSY = true ∧ t.g SEC_STAT.MID = m.mid.val ∧ t.freeCtr = s.freeCtr + 12 ∧
        t.sec = { s.sec with claimNode := m.node.toNat, nonceFor := some (m.mid.val, m.node.toNat) }) ∧
      (r ≠ srOK → t.sec = s.sec ∧ s.sameRegs t [SEC_RESULT.off])) ∧
    (s.claimedOther m = false → s.sec.nonceFor = none → ∃ t, exec (.sessionVerify m) s = .next t ∧ t.toldOK m ∧
      t.g SEC_RESULT.CODE = srSTATE ∧ (t.rd SEC_AUTH_FAIL.off).toNat = (s.rd SEC_AUTH_FAIL.off).toNat + 1 ∧ t.evPend (evSec 3) = true ∧
      t.sec = s.sec ∧ t.flag SEC_STAT.BUSY = false) ∧
    (∀ nd, s.claimedOther m = false → s.flag SEC_STAT.ERR = false → s.sec.nonceFor = some (m.mid.val, nd) →
      (m.mid.val = 16 → nd = m.node.toNat) →
      let ca := s.keyOf (s.bufLE 112 4) kSESSIONCA
      let scope := if m.mid.val = 8 then (s.bufLE 6 1).testBit 0 else if m.mid.val = 9 then (s.bufLE 6 1).testBit 1
        else m.mid.val == 16 && (s.bufLE 6 1).testBit 2 && s.flag (PORT_CFG.SEC 0) && s.flag (PORT_CFG.SEC 1)
      let r := if s.bufLE 0 4 ≠ 0x59314F50 ∨ 8 ≤ s.bufLE 6 1 ∨ s.bufLE 7 1 ≠ 0 ∨ s.bufLE 14 2 ≠ 0 ∨ natLE (s.secBuf 116 44) ≠ 0 then srFORMAT
        else if ca.isNone then srKEY
        else if !ca.any (fun k => Config.ecdsa k.pub (s.secBuf 0 160) (s.secBuf 160 96)) then srSIG
        else if scope = false ∨ (s.bufLE 4 2 ≠ 0xFFFF ∧ s.bufLE 4 2 ≠ s.node) then srSCOPE
        else if s.bufLE 8 6 ≤ s.clep.sec then srEXPIRED
        else if !Config.ecdsa (s.secBuf 16 96) (s.sessionMsg m) (s.secBuf 256 96) then srSIG
        else if s.sessionRoom m then srOK else srFULL
      ∃ t, exec (.sessionVerify m) s = .next t ∧ t.toldOK m ∧ t.g SEC_RESULT.CODE = r ∧ t.sec.nonceFor = none ∧ t.flag SEC_STAT.BUSY = false ∧
        (r = srOK → t.evPend (evSec 2) = true ∧ ⟨m.mid.val, if m.mid.val = 16 then nd else 0, min (s.absNs + 1000000000 * (max 1 (s.g SEC_CFG.LIFE) : Nat))
          (1000000000 * (s.bufLE 8 6 : Int))⟩ ∈ t.sec.sessions) ∧
        (r ≠ srOK → t.sec.sessions = s.sec.sessions ∧ t.evPend (evSec 3) = true ∧
          (t.rd SEC_AUTH_FAIL.off).toNat = (s.rd SEC_AUTH_FAIL.off).toNat + 1)) ∧
    (s.flag SEC_STAT.ERR = true → ∃ t, exec (.sessionClose m) s = .next t ∧ t.toldOK m ∧ t.g SEC_RESULT.CODE = srSTATE ∧ t.sec = s.sec ∧
      s.sameRegs t [SEC_RESULT.off]) ∧
    (s.claimedOther m = false → s.flag SEC_STAT.ERR = false → ∃ t, exec (.sessionClose m) s = .next t ∧ t.toldOK m ∧ t.g SEC_RESULT.CODE = srOK ∧
      t.flag SEC_STAT.BUSY = false ∧ t.sec = { s.sec with sessions := s.sec.sessions.filter (fun e => !ofMaster m e.mid e.node) } ∧
      s.sameRegs t [SEC_RESULT.off, SEC_STAT.off])) ∧
  (∀ s : State, s.resetReq = none → ∃ t, exec .sessionExpire s = .next t ∧ t.regs = s.regs ∧
    t.sec = { s.sec with sessions := s.sec.sessions.filter (fun e => decide (s.absNs < e.ends)) }) ∧
  (∀ (p : Fin 4) (f : Frame) (s : State), s.resetReq = none → s.kaLive p.val = true → (s.rd SEC_KA_FAIL.off).toNat + 1 < 0xFFFFFFFF →
    let b := f.payload.drop 32
    let k := s.kaOf p.val
    (s.portRuns p.val = true → s.kaDiscard p.val = false → s.flag SEC_STAT.ERR = false → kaKind b = 1 →
      ∃ t, exec (.kaInitReceive p f) s = .next t ∧
        (if s.certOk (s.nbrId p.val) (kaCert b) && kaSigned (kaCert b) [] b then
          (t.kaOf p.val).stage = 2 ∧ (t.kaOf p.val).an = kaAn b ∧ t.sec.ephNo = s.sec.ephNo + 1 ∧
            (t.kaOf p.val).out = kaSign b (kaBody 2 (kaAn b) (s.sec.cert.getD []) (Config.ephPub s.sec.ephNo)) ∧
            (t.kaOf p.val).blocks = b ++ (t.kaOf p.val).out ∧ t.regs = s.regs
        else s.kaFailed t p.val ∧ (s.pst p.val = psSecure → t.g (PORT_STAT.CHK p.val) = 4 ∧ t.evPend (evPort p.val 5) = true))) ∧
    (s.kaDiscard p.val = true → ∃ t, exec (.kaInitReceive p f) s = .next t ∧ t.sec = s.sec ∧ t.regs = s.regs) ∧
    (k.stage = 1 → kaKind b = 2 → ∃ t, exec (.kaRespReceive p f) s = .next t ∧
      (if kaAn b = k.an ∧ s.certOk (s.nbrId p.val) (kaCert b) ∧ kaSigned (kaCert b) k.blocks b then
        (t.kaOf p.val).stage = 3 ∧ (t.kaOf p.val).confAt = s.absNs ∧ (t.kaOf p.val).out = kaSign (k.blocks ++ b) (kaBody 3 k.an [] []) ∧
          t.linkKey p.val k.an true = (if s.kaLower p.val then (s.kaKeys p.val { k with peer := kaEph b }).2
            else (s.kaKeys p.val { k with peer := kaEph b }).1) ∧
          (t.g (PORT_SA_STAT.RX_KEY p.val)).testBit k.an = true ∧ (t.g (PORT_SA_CTRL.RX_EN p.val)).testBit k.an = true ∧
          t.g (PORT_SA_CTRL.TX_AN p.val) = s.g (PORT_SA_CTRL.TX_AN p.val) ∧ s.sameRegs t [PORT_SA_STAT.off p.val, PORT_SA_CTRL.off p.val]
      else s.kaFailed t p.val ∧ (k.newLink = true → t.g (PORT_STAT.CHK p.val) = 4 ∧ t.evPend (evPort p.val 5) = true))) ∧
    (k.stage = 2 → kaKind b = 3 → ∃ t, exec (.kaConfirmReceive p f) s = .next t ∧
      (if kaAn b = k.an ∧ kaSigned (k.peer.take 208) k.blocks b then
        (t.kaOf p.val).stage = 0 ∧ t.g (PORT_SA_CTRL.TX_AN p.val) = k.an ∧ (t.g (PORT_SA_CTRL.RX_EN p.val)).testBit k.an = true ∧
          (t.g (PORT_SA_STAT.TX_KEY p.val)).testBit k.an = true ∧ (t.g (PORT_SA_STAT.RX_KEY p.val)).testBit k.an = true ∧
          (s.pst p.val = psSecure → t.pst p.val = psHold ∧ t.g (PORT_STAT.CHK p.val) = 0) ∧
          t.linkKey p.val k.an true = (if s.kaLower p.val then (s.kaKeys p.val { k with peer := k.peer.drop 208 }).2
            else (s.kaKeys p.val { k with peer := k.peer.drop 208 }).1) ∧
          t.linkKey p.val k.an false = (if s.kaLower p.val then (s.kaKeys p.val { k with peer := k.peer.drop 208 }).1
            else (s.kaKeys p.val { k with peer := k.peer.drop 208 }).2) ∧
          (s.g (PORT_SA_CTRL.TX_AN p.val) ≠ k.an → (t.kaOf p.val).old = k.old ++ [(s.g (PORT_SA_CTRL.TX_AN p.val), s.absNs)])
      else s.kaFailed t p.val ∧ (k.newLink = true → t.g (PORT_STAT.CHK p.val) = 4 ∧ t.evPend (evPort p.val 5) = true)))) ∧
  (∀ (p : Fin 4) (an : Nat) (at_ : Int) (s : State), s.resetReq = none →
    let k := s.kaOf p.val
    (k.stage = 3 → k.an < 4 → 1000000 ≤ s.absNs - k.confAt ∨ SMap.get (fun _ => 0) (s.port p.val).rxHigh k.an ≠ 0 →
      ∃ t, exec (.kaTxSwitch p) s = .next t ∧
      (t.kaOf p.val).stage = 0 ∧ t.g (PORT_SA_CTRL.TX_AN p.val) = k.an ∧ (t.g (PORT_SA_STAT.TX_KEY p.val)).testBit k.an = true ∧
      t.g (PORT_SA_CTRL.RX_EN p.val) = s.g (PORT_SA_CTRL.RX_EN p.val) ∧ (t.kaOf p.val).setAt = s.absNs ∧
      t.linkKey p.val k.an false = (if s.kaLower p.val then (s.kaKeys p.val k).1 else (s.kaKeys p.val k).2) ∧
      (s.pst p.val = psSecure → t.pst p.val = psHold ∧ t.g (PORT_STAT.CHK p.val) = 0) ∧
      (s.pst p.val ≠ psSecure → s.sameRegs t [PORT_SA_STAT.off p.val, PORT_SA_CTRL.off p.val, PORT_TX_PN.off p.val])) ∧
    (k.old = [(an, at_)] → an < 4 → 1000000000 ≤ s.absNs - at_ → s.g (PORT_SA_CTRL.TX_AN p.val) ≠ an → ∃ t, exec (.kaOldAnClear p) s = .next t ∧
      t.kaOf p.val = { k with old := [] } ∧
      (∀ i, i < 4 → (t.g (PORT_SA_CTRL.RX_EN p.val)).testBit i = if i = an then false else (s.g (PORT_SA_CTRL.RX_EN p.val)).testBit i) ∧
      t.g (PORT_SA_CTRL.TX_AN p.val) = s.g (PORT_SA_CTRL.TX_AN p.val) ∧ s.sameRegs t [PORT_SA_CTRL.off p.val]) ∧
    (s.kaLive p.val = true → k.stage = 1 ∨ k.stage = 2 ∨ k.stage = 4 → 1000000000 ≤ s.absNs - k.startAt →
      (s.pst p.val = psSecure → s.kaLower p.val = true) → s.flag SEC_STAT.ERR = false →
      (s.rd SEC_KA_FAIL.off).toNat + 1 < 0xFFFFFFFF → ∃ t, exec (.kaTimeout p) s = .next t ∧
      (t.rd SEC_KA_FAIL.off).toNat = (s.rd SEC_KA_FAIL.off).toNat + (if k.stage = 4 then 0 else 1) ∧
      (k.stage ≠ 4 → t.evPend (evSec 4) = true) ∧
      s.kaStarted t p.val (if s.pst p.val = psSecure then 0 else (s.g (PORT_SA_STAT.TX_ACT p.val) + 1) % 4)) ∧
    (s.kaLive p.val = true → s.pst p.val ≠ psSecure → s.g SEC_CFG.REKEY_H ≠ 0 → k.stage = 0 →
      s.flag SEC_STAT.ERR = false → 3600000000000 * (s.g SEC_CFG.REKEY_H : Int) ≤ s.absNs - k.setAt →
      ∃ t, exec (.rekeyPeriodic p) s = .next t ∧ t.regs = s.regs ∧ s.kaStarted t p.val ((s.g (PORT_SA_STAT.TX_ACT p.val) + 1) % 4))) ∧
  (∀ (nonce token : List Byte) (s : State), s.resetReq = none →
    (s.domOn 14 = true → (s.rd CFG_RST_CNT.off).toNat + 1 < 0xFFFFFFFF →
      ∃ t, exec .noiseHealthFail s = .next t ∧ s.systemReset t 4 0 ∧ t.sump.grave = true ∧ t.evPend (evSec 7) = true) ∧
    (s.domOn 14 = true → (s.rd SEC_TAMPER_CNT.off).toNat + 1 < 0xFFFFFFFF → ∃ t, exec .tamperDetect s = .next t ∧ t.sec.sessions = [] ∧
      t.sec.nonceFor = none ∧ t.flag SEC_STAT.BUSY = false ∧ t.flag SEC_STAT.TAMPER = true ∧ t.evPend (evSec 5) = true ∧
      clSevere ≤ t.evKept (evSec 5) ∧ (t.rd SEC_TAMPER_CNT.off).toNat = (s.rd SEC_TAMPER_CNT.off).toNat + 1 ∧ t.sec.keys = s.sec.keys ∧
      t.sec.root = s.sec.root ∧ s.keepsRegs t [SEC_STAT.off, SEC_TAMPER_CNT.off] ∧
      ∀ p, p < 4 → s.kaLive p = true → s.flag SEC_STAT.ERR = false → (s.pst p = psSecure → s.kaLower p = true) → (t.kaOf p).stage = 1 ∧
        (t.kaOf p).an = if s.pst p = psSecure then 0 else (s.g (PORT_SA_STAT.TX_ACT p) + 1) % 4) ∧
    (s.owned = true → (s.rd SEC_CMD_ERR.off).toNat + 1 < 0xFFFFFFFF →
      let ok := !s.flag PORT_BYP.INSERT && !s.flag PORT_BYP.PIN && !s.flag SEC_STAT.ERR &&
        s.sec.keys.any (fun e => e.kind.testBit kDEBUG && Config.ecdsa e.pub (nonce ++ bytesLE 8 Config.uid.toNat) token)
      ∃ t, exec (.debugUnlock nonce token) s = .next t ∧
        (if ok then t.jtagOpen = true ∧ t.flag SEC_STAT.DEBUG = true ∧ t.evPend (evSec 6) = true ∧ clNote ≤ t.evKept (evSec 6) ∧
          t.sec = { s.sec with sessions := [], nonceFor := none, encOff := true }
        else t.sec = s.sec ∧ (t.rd SEC_CMD_ERR.off).toNat = (s.rd SEC_CMD_ERR.off).toNat + 1 ∧ s.keepsRegs t [SEC_CMD_ERR.off])))

/-! ### Sump, Stillwater and telemetry (ch. 19) -/

/-- R475 to R494. An occurrence sets its pending bit, keeps its class and takes its routes, in Spillway or outside; a clear leaves GRAVE and
lasting bits. A reaction falls due as its reset or as an escalation, and a log window ends with its counts at 0. An ALARM received fills the inbox and may arm a snapshot; a
snapshot is taken, marked, completed and released. Scrub, calibration and telemetry count, record and raise their events. An injected
flip shows at the scrub with DETAIL bit 31, and only the factory tester reaches TST.
Model's readings and choices: log entries 4, 66, 69, 134, 137 and 138. -/
def Obligations.EventsLogsAndSnapshots : Prop :=
  (∀ (ev : Fin 512) (cls : Fin 5) (rep : Nat) (s : State), s.resetReq = none → cls.val ≤ 3 →
    let c := max cls.val (min 3 (s.g (EVT_ROUTE.RAISE ev.val)))
    ∃ t, exec (.eventOccurrence ev cls rep) s = .next t ∧ t.evPend ev.val = true ∧ c ≤ t.evKept ev.val ∧
      (s.flag (EVT_ROUTE.HOST ev.val) = true → t.flag HST_ATTN.EVT = true) ∧ s.keepsRegs t [] ∧
      (s.flag (EVT_ROUTE.LOG ev.val) = false → s.flag (EVT_ROUTE.ALARM ev.val) = false → s.flag (EVT_ROUTE.SNAP ev.val) = false →
        t.evKept ev.val = (if s.evPend ev.val then max (s.evKept ev.val) c else c) ∧ (∀ e, e < 512 → e ≠ ev.val → t.evPend e = s.evPend e) ∧
        t.sump.log = s.sump.log ∧ t.sw = s.sw ∧ (c < clDegraded → t.sump.react = s.sump.react) ∧
        (let k := if c = clDegraded then s.g SUMP_CFG.REACT_DEG else s.g SUMP_CFG.REACT_SEV
         clDegraded ≤ c → t.sump.react = if k ≠ 1 ∧ k ≠ 2 then s.sump.react else match s.sump.react with
           | some (k0, due) => some (max k0 k, due)
           | none => some (k, s.absNs + 1000000 * (s.g SUMP_CFG.REACT_DLY : Int)))) ∧
      (s.flag (EVT_ROUTE.LOG ev.val) = true → ev.val ≠ 2 → ev.val ≠ 3 → s.flag (EVT_ROUTE.SNAP ev.val) = false → s.sump.spill = false →
        s.flag (EVT_ROUTE.ALARM ev.val) = false → s.sump.winEntries < max 1 (s.g SUMP_SPILL.LOG_RATE) →
        t.sump.log.tail = s.sump.log.take 255 ∧ t.sump.log.map (·.ev) = ev.val :: (s.sump.log.take 255).map (·.ev) ∧
          (t.sump.log.headD ⟨0, 0, 0, true, 0, 0, 0⟩).cls = c ∧ (t.sump.log.headD ⟨0, 0, 0, true, 0, 0, 0⟩).fns = s.fns48 ∧
          (t.sump.log.headD ⟨0, 0, 0, true, 0, 0, 0⟩).rep = min (max 1 rep) 65535 ∧
          (t.sump.log.headD ⟨0, 0, 0, true, 0, 0, 0⟩).summary = false ∧ t.sump.winEntries = s.sump.winEntries + 1) ∧
      (s.flag (EVT_ROUTE.LOG ev.val) = true → ev.val ≠ 2 → ev.val ≠ 3 → s.flag (EVT_ROUTE.SNAP ev.val) = false →
        s.flag (EVT_ROUTE.ALARM ev.val) = false → s.flag (EVT_ROUTE.SNAP 2) = false → (s.rd SUMP_LOG_DROP.off).toNat + 1 < 0xFFFFFFFF →
        s.sump.spill = true ∨ max 1 (s.g SUMP_SPILL.LOG_RATE) ≤ s.sump.winEntries → t.sump.spill = true ∧
          (s.sump.spill = false → t.evPend (evSump 2) = true ∧ t.sump.winEntered = true) ∧
          (if clDegraded ≤ c ∧ (s.sump.spill = true → ev.val ∉ s.sump.spillSeen) then
            t.sump.log.map (·.ev) = ev.val :: (s.sump.log.take 255).map (·.ev) ∧ ev.val ∈ t.sump.spillSeen
          else t.sump.log = s.sump.log ∧ (t.rd SUMP_LOG_DROP.off).toNat = (s.rd SUMP_LOG_DROP.off).toNat + 1 ∧
            t.sump.spillTab = spillAdd (if s.sump.spill then s.sump.spillTab else []) ev.val c (max 1 rep))) ∧
      (s.flag (EVT_ROUTE.ALARM ev.val) = true → ev.val ≠ 2 → ev.val ≠ 3 → s.flag SUMP_ALARM.EN = true →
        s.flag (EVT_ROUTE.LOG ev.val) = false → s.flag (EVT_ROUTE.SNAP ev.val) = false → (s.rd SUMP_ALARM_DROP.off).toNat + 1 < 0xFFFFFFFF →
        max 1 (s.g SUMP_ALARM.MAX) ≤ s.sump.alarmSent → t.sw = s.sw ∧ t.sump.alarmLost = min 65535 (s.sump.alarmLost + 1) ∧
          t.sump.alarmLostCls = max s.sump.alarmLostCls c ∧
          (t.rd SUMP_ALARM_DROP.off).toNat = (s.rd SUMP_ALARM_DROP.off).toNat + 1) ∧
      (s.flag (EVT_ROUTE.ALARM ev.val) = true → ev.val ≠ 2 → ev.val ≠ 3 → s.flag SUMP_ALARM.EN = true →
        s.sump.alarmSent < max 1 (s.g SUMP_ALARM.MAX) → ∃ e ∈ t.sw.waiting, e.frame.typ = tyAlarm ∧ e.frame.cls = 3 ∧
          e.frame.dst = s.g SUMP_ALARM.DST ∧ e.frame.payload.take 8 = bytesBE 6 s.fns48 ++ bytesBE 2 (ev.val + 4096 * c))) ∧
  (∀ (ev : Fin 512) (cls : Fin 5) (rep : Nat) (s : State), s.resetReq = none → cls.val = 4 → ev.val = 7 ∨ ev.val = 71 →
    (s.rd CFG_RST_CNT.off).toNat + 1 < 0xFFFFFFFF →
    ∃ t, exec (.eventOccurrence ev cls rep) s = .next t ∧ s.systemReset t 4 0 ∧ t.sump.grave = true ∧ t.faultN = false ∧ t.safeN = false) ∧
  (∀ (m : Master) (k : Fin 16) (val : Word) (s : State), s.serves m (EVT_PEND.off k.val) 0 →
    ∃ t, exec (.eventClear m k val) s = .next t ∧ t.toldOK m ∧ s.sameRegs t [EVT_PEND.off k.val] ∧
      (∀ i, i < 32 → t.evPend (32 * k.val + i) = if val.getLsbD i = true ∧ s.evKept (32 * k.val + i) ≠ clGrave ∧ s.lasting (32 * k.val + i) = false
        then false else s.evPend (32 * k.val + i))) ∧
  (∀ (m : Master) (val : Word) (s : State), s.serves m EVT_SWSET.off 2 →
    (EVT_SWSET.CLASS.get val < 4 → ∃ t, exec (.softwareEvent m val) s = .next t ∧ t.toldOK m ∧
      t.evPend (448 + EVT_SWSET.INDEX.get val) = true ∧ EVT_SWSET.CLASS.get val ≤ t.evKept (448 + EVT_SWSET.INDEX.get val) ∧ s.keepsRegs t []) ∧
    (4 ≤ EVT_SWSET.CLASS.get val → ∃ t, exec (.softwareEvent m val) s = .next t ∧ t.toldCfg m ∧ t.evPend (evSump 1) = true ∧
      s.keepsRegs t [])) ∧
  (∀ (k : Nat) (due : Int) (s : State), s.resetReq = none → s.sump.react = some (k, due) → due ≤ s.absNs → k = 1 ∨ k = 2 →
    (s.rd CFG_RST_CNT.off).toNat + 1 < 0xFFFFFFFF → (s.rd SUMP_REACT_CNT.off).toNat + 1 < 0xFFFFFFFF →
    let n := s.g SUMP_CFG.ESC_N
    let recent := ((due :: s.sump.reactTimes).take 15).filter
      (fun x => decide (due - x < 1000000000 * (max 1 (s.g SUMP_CFG.ESC_WIN) : Nat)))
    (s.flag FH_CTRL.SAFE_JETS = false → 2 ≤ s.boot.kind → s.ust = usIdle → s.upd.rec_ = 0 → ∃ t, exec .reactionReset s = .next t ∧
      t.sump.react = none ∧ (t.rd SUMP_REACT_CNT.off).toNat = (s.rd SUMP_REACT_CNT.off).toNat + 1 ∧ t.g CFG_RST_CAUSE.SRC = 4 ∧
      (n ≠ 0 ∧ n ≤ recent.length → s.systemReset t 4 0 ∧ t.sump.grave = true ∧ t.evPend (evSump 7) = true) ∧
      (¬ (n ≠ 0 ∧ n ≤ recent.length) → t.sump.grave = s.sump.grave ∧ (k = 2 → s.systemReset t 4 0) ∧
        (k = 1 → t.g CFG_RST_CAUSE.KIND = 2 ∧ t.g CFG_BOOT.STAGE = 1 ∧ t.g CFG_BOOT.KIND = 2 ∧ t.pts = s.pts ∧ t.flow = s.flow)))) ∧
  (∀ s : State, s.resetReq = none →
    let ends := s.sump.spill && !s.sump.winEntered && decide (s.sump.winOffers ≤ max 1 (s.g SUMP_SPILL.LOG_RATE) / 2)
    ∃ t, exec .logWindowEnd s = .next t ∧ (ends = false → t.regs = s.regs ∧
        t.sump = { s.sump with winEntries := 0, winOffers := 0, winEntered := false }) ∧
      (ends = true → t.evPend (evSump 3) = true ∧ s.keepsRegs t [] ∧ (s.flag (EVT_ROUTE.SNAP 3) = false → t.sump.spill = false ∧
        t.sump.spillTab = [] ∧ t.sump.log = ((s.sump.spillTab.foldl (fun u e => u.writeLog e.ev e.cls e.count true) s).sump.log)))) ∧
  (∀ (f : Frame) (s : State), s.resetReq = none → f.typ = tyAlarm →
    ∃ t, exec (.alarmReceive f none) s = .next t ∧ t.evPend (evSump 4) = true ∧
      t.sump.inbox.head? = some ((slice f.payload 0 22) ++ bytesBE 2 f.src ++ (slice f.payload 24 8)) ∧ t.sump.inbox.tail = s.sump.inbox.take 63 ∧
      t.sump.inboxNext = (s.sump.inboxNext + 1) % 64 ∧
      (s.flag (EVT_ROUTE.SNAP 4) = false → s.flag (EVT_ROUTE.SNAP 2) = false → bitOf (beAt f.payload 15 1) 0 = true →
        s.flag SNAP_CFG.EN = true → s.flag SNAP_CFG.RMT = true → s.sump.snapArm = none → s.g SNAP_STAT.STATE = 0 →
        1000 ≤ sgn48 (beAt f.payload 16 6) s.fns48 → t.g SNAP_STAT.STATE = 1 ∧ t.sump.snapArm = some (beAt f.payload 16 6, f.src))) ∧
  (∀ (m : Master) (s : State), s.serves m SNAP_CMD.off 2 → (s.rd SNAP_LOST.off).toNat + 1 < 0xFFFFFFFF →
    (s.flag SNAP_CFG.EN = true → (s.g SNAP_CFG.TRIG).testBit 2 = true →
      (s.g SNAP_STAT.STATE = 0 ∨ (s.g SNAP_STAT.STATE = 3 ∧ s.flag SNAP_CFG.OVERWRITE = true) →
        ∃ t, exec (.snapTake m) s = .next t ∧ t.toldOK m ∧ t.g SNAP_STAT.STATE = 2 ∧ t.g SNAP_STAT.CAUSE = 3 ∧
          t.sump = { s.sump with snap := none, snapPins := none, snapMark := some (3, s.node, s.fns48), snapArm := none } ∧
          s.sameRegs t [SNAP_STAT.off]) ∧
      (s.g SNAP_STAT.STATE = 3 → s.flag SNAP_CFG.OVERWRITE = false → s.flag (EVT_ROUTE.SNAP 6) = false →
        ∃ t, exec (.snapTake m) s = .next t ∧ t.toldOK m ∧
        (t.rd SNAP_LOST.off).toNat = (s.rd SNAP_LOST.off).toNat + 1 ∧ t.evPend (evSump 6) = true)) ∧
    (s.g SNAP_STAT.STATE = 3 → ∃ t, exec (.snapRelease m) s = .next t ∧ t.toldOK m ∧ t.g SNAP_STAT.STATE = 0 ∧ t.sump = { s.sump with snap := none } ∧
      s.sameRegs t [SNAP_STAT.off])) ∧
  (∀ (at_ origin cause : Nat) (n : Snap) (s : State), s.resetReq = none →
    (s.sump.snapArm = some (at_, origin) → s.come at_ = true → s.g SNAP_STAT.STATE = 1 → ∃ t, exec .snapTreq s = .next t ∧
      t.g SNAP_STAT.STATE = 2 ∧ t.g SNAP_STAT.CAUSE = 5 ∧ t.sump.snapArm = none ∧ t.sump.snapMark = some (5, origin, at_) ∧
      t.sump.snapPins = some s.pinWords ∧ s.sameRegs t [SNAP_STAT.off]) ∧
    (s.sump.snapMark = some (cause, origin, at_) → ∃ t, exec .snapMark s = .next t ∧
      t.sump.snapMark = none ∧ t.sump.snap.any (fun n => decide (n.body = s.snapTiles.flatMap t.tileBytes)) = true) ∧
    (s.sump.snapMark = some (cause, origin, at_) → (∀ k ∈ s.snapTiles, s.tileGood k) → ∃ t, exec .snapMark s = .next t ∧
      t.regs = s.regs ∧ t.pts = s.pts ∧ t.sump.snapMark = none ∧ t.sump.snap.any (fun n => decide (n.serial = s.sump.snapSerial + 1 ∧ n.cause = cause ∧ n.origin = origin ∧
        n.instant = at_ ∧ n.tiles = s.snapTiles.length ∧ n.mark = s.fns48 ∧ n.cmpOut = s.rd CMP_OUT.off ∧
        n.pins = s.sump.snapPins.getD s.pinWords ∧ n.body = s.snapTiles.flatMap s.tileBytes)) = true) ∧
    (s.sump.snap = some n → s.g SNAP_STAT.STATE = 2 → s.flag (EVT_ROUTE.SNAP 5) = false → ∃ t, exec .snapCopyDone s = .next t ∧
      t.evPend (evSump 5) = true ∧ (s.flag (EVT_ROUTE.SNAP 2) = false → s.flag (EVT_ROUTE.SNAP 0) = false → t.g SNAP_STAT.STATE = 3 ∧
        t.g SNAP_STAT.SERIAL = n.serial % 2 ^ SNAP_STAT.SERIAL.width))) ∧
  (∀ (mem : ScrubMem) (s : State), s.resetReq = none → s.sump.inj = [] → (s.rd TEL_SCRUB_CORR.off).toNat + 1 < 0xFFFFFFFF →
    (s.rd TEL_SCRUB_UNCORR.off).toNat + 1 < 0xFFFFFFFF → (s.rd CST_ECC_UNCORR.off).toNat + 1 < 0xFFFFFFFF →
    (∃ t, exec (.scrubPass mem .good) s = .next t ∧ t = s) ∧
    (∃ t, exec (.scrubPass mem .corrected) s = .next t ∧ (t.rd TEL_SCRUB_CORR.off).toNat = (s.rd TEL_SCRUB_CORR.off).toNat + 1 ∧
      t.evPend (evTel 2) = true ∧ s.keepsRegs t [TEL_SCRUB_CORR.off] ∧ t.pts = s.pts ∧ t.fh = s.fh) ∧
    (∀ (u : Nat) (a : Fin 0x90000), u < 2 → s.guarded u → s.flag FH_CTRL.SAFE_JETS = false →
      ∃ t, exec (.scrubPass (.bank a) .uncorrectable) s = .next t ∧ s.scrubFailed t ∧ t.unit u = fhFailed ∧ t.unit (1 - u) = fhRestore ∧
        t.flag FH_STAT.SAFE = true ∧ t.g FH_MISM.UNIT = u ∧ t.g FH_MISM.CAUSE = 2 ∧ t.g FH_MISM.KIND = 3 ∧ t.g FH_MISM_ADDR.ADDR = a.val) ∧
    (∀ (n : Fin 256) (header : Bool), ∃ t, exec (.scrubPass (.cistern n header) .uncorrectable) s = .next t ∧ s.scrubFailed t ∧
      (t.rd CST_ECC_UNCORR.off).toNat = (s.rd CST_ECC_UNCORR.off).toNat + 1 ∧ t.evPend (evCst 2) = true ∧ clDegraded ≤ t.evKept (evCst 2) ∧
      (if header then t.flag (CST_STAT.LOSTALL n.val) = true ∧ (t.cist n.val).closed = [] ∧ (t.cist n.val).opened = none ∧
        t.evPend (evCst 3) = true else t.cst = s.cst)) ∧
    (∀ (k : Fin 16384) (i : Fin 16),
      (∃ t, exec (.scrubPass (.attr ⟨16 * k.val + i.val, by omega⟩) .uncorrectable) s = .next t ∧ s.scrubFailed t ∧ s.tileLost t k.val) ∧
        ∃ t, exec (.scrubPass (.tileHdr k) .uncorrectable) s = .next t ∧ s.scrubFailed t ∧ s.tileLost t k.val)) ∧
  (∀ (mem : ScrubMem) (e : EccFind) (two : Bool) (s : State), s.resetReq = none → s.sump.inj = [.flip mem two] → s.sump.injected = false →
    (s.rd TEL_SCRUB_CORR.off).toNat + 1 < 0xFFFFFFFF → (s.rd TEL_SCRUB_UNCORR.off).toNat + 1 < 0xFFFFFFFF →
    ∃ t, exec (.scrubPass mem e) s = .next t ∧ t.sump.inj = [] ∧ t.sump.injected = false ∧
      (two = true → s.scrubFailed t) ∧
      (two = false → (t.rd TEL_SCRUB_CORR.off).toNat = (s.rd TEL_SCRUB_CORR.off).toNat + 1 ∧ t.evPend (evTel 2) = true ∧
        (s.flag (EVT_ROUTE.LOG (evTel 2)) = true → s.flag (EVT_ROUTE.SNAP (evTel 2)) = false → s.sump.spill = false →
          s.sump.winEntries < max 1 (s.g SUMP_SPILL.LOG_RATE) →
          t.sump.log.head?.any (fun l => l.ev == evTel 2 && l.detail.getLsbD 31) = true))) ∧
  (∀ (m : Master) (off : Nat) (val : Word) (s : State), s.resetReq = none → off % 4 = 0 → 0x2A0004 ≤ off → off < 0x2B0000 →
    s.regWaits m off 4 = false → (s.rd SUMP_BUSERR_CNT.off).toNat + 1 < 0xFFFFFFFF →
    (m.mid.val = 0x1F → s.life = 0 → ∃ t, exec (.registerWrite m off 4 val) s = .next t ∧
      s.testWrote t m (Config.tst off val)) ∧
    (m.mid.val ≠ 0x1F ∨ s.life ≠ 0 → ∃ t, exec (.registerWrite m off 4 val) s = .next t ∧ t.resp = some ⟨m.mid.val, stADDR, []⟩ ∧
      t.sump.inj = s.sump.inj ∧ (t.rd SUMP_BUSERR_CNT.off).toNat = (s.rd SUMP_BUSERR_CNT.off).toNat + 1)) ∧
  (∀ (t0 t1 t2 t3 t4 feed : Int) (s : State), s.resetReq = none → (s.rd TEL_CAL_ERR.off).toNat + 1 < 0xFFFFFFFF →
    (∃ t, exec (.calibrationVisit false) s = .next t ∧ t = s) ∧
    (∃ t, exec (.calibrationVisit true) s = .next t ∧ (t.rd TEL_CAL_ERR.off).toNat = (s.rd TEL_CAL_ERR.off).toNat + 1 ∧
      t.evPend (evTel 4) = true ∧ clNote ≤ t.evKept (evTel 4) ∧ s.keepsRegs t [TEL_CAL_ERR.off]) ∧
    (1000000 * (max 10 (s.g TEL_CFG.PERIOD) : Nat) ≤ s.absNs - s.sump.telAt →
      let hi := [t1, t2, t3, t4].foldl max t0
      let lo := [t1, t2, t3, t4].foldl min t0
      let bin := if hi ≤ 850 then 0 else if hi ≤ 1050 then 1 else if hi ≤ 1250 then 2 else 3
      ∃ t, exec (.telemetryRead t0 t1 t2 t3 t4 feed) s = .next t ∧ t.g TEL_TEMP.MAX = (hi % 65536).toNat ∧ t.g TEL_TEMP.MIN = (lo % 65536).toNat ∧
        (t.rd (TEL_BIN.off bin)).toNat = ((s.rd (TEL_BIN.off bin)).toNat + (SMap.get (fun _ => 0) s.sump.telMs bin +
          ((s.absNs - s.sump.telAt) / 1000000).toNat) / 3600000) % 2 ^ 32 ∧
        t.sump.telRec.length = 64 ∧ t.sump.telRec.take 12 = bytesLE 6 s.fns48 ++ bytesLE 2 (hi % 65536).toNat ++ bytesLE 2 (lo % 65536).toNat ++
          bytesLE 2 (feed % 65536).toNat ∧ t.sump.telAt = s.absNs ∧
        (10 * (min 0x7C (s.g TEL_THERM.GOV) : Nat) ≤ hi → t.evPend (evTel 5) = true) ∧
        (1250 ≤ hi → t.evPend (evTel 6) = true ∧ clSevere ≤ t.evKept (evTel 6)) ∧
        s.keepsRegs t [TEL_TEMP.off, TEL_LIFE_HRS.off, TEL_BIN.off bin])) ∧
  (∀ s : State, s.resetReq = none → s.g TEL_CFG.MGMT ≠ 0 → 1000000000 * (s.g TEL_CFG.MGMT : Int) ≤ s.absNs - s.sump.mgmtAt →
    ∃ t, exec .mgmtSend s = .next t ∧ t.evPend (evTel 7) = true ∧ s.keepsRegs t [] ∧
    t.sump.mgmtAt = s.absNs ∧ t.sump.mgmtSerial = (s.sump.mgmtSerial + 1) % 65536 ∧
    ∃ e ∈ t.sw.waiting, e.frame.typ = tyMgmt ∧ e.frame.cls = 3 ∧ e.frame.dst = s.g TEL_DEST.NODE ∧
      e.frame.payload = bytesBE 2 0x100 ++ bytesBE 2 s.sump.mgmtSerial ++ List.replicate 12 0 ++ slice s.sump.telRec 0 64)

/-! ### Reset (R45) -/

/-- R45. The registers whose reset values the manual's tables give other than 0, by their words (one per block at least), and the state of the
domains, units, ports and stores right after power-on.
Model's readings and choices: log entries 5 and 6. -/
def Obligations.ResetValues : Prop :=
  (∀ e ∈ [(PWR_STAT.off, 0x2), (PWR_DOM_STAT.off 0, 2), (PWR_AVS_CTRL.off, 0x5A5001), (PWR_AVS_LIMIT.off, 0x38402BC),
      (SUMP_CFG.off, 0x83C3000A), (SUMP_SPILL.off, 0x40), (SUMP_ALARM.off, 0x4FFFF), (EVT_ROUTE.off 0, 6), (SNAP_CFG.off, 8), (SNAP_PIN.off, 0x100),
      (TIME_CFG.off, 0x3203), (SEC_CFG.off, 0x80180E10), (CFG_BOOT.off, 1), (UPD_CFG.off, 0x21), (UPD_HO_CFG.off, 0x803E8)],
    (State.reset.rd e.1).toNat = e.2) ∧
  (∀ e ∈ [(RING_CFG.off, 0x300), (RING_SUM.off, 0x10020), (RING_NEXT_CYC.off, 5), (RING_NEXT_S.off, 0x10), (RING_ACT_C.off, 0xC80),
      (PORT_CFG.off 0, 0x10000000), (PORT_CFG.off 3, 0x10000000), (FLOW_CTRL.off, 0x14), (FLOW_TIMING.off, 0xA00005), (PNT_PATROL.off, 0x3E80001),
      (SW_POOL.off, 0x58605C00), (SW_RATE.off 2, 0x14), (ETH_CLASS_MAP.off 0, 0x2492492), (BRG_CFG.off, 0x10104), (BRG_PW_SEQ.off, 0xFFFF0000)],
    (State.reset.rd e.1).toNat = e.2) ∧
  (∀ e ∈ [(CST_CFG.off 255, 0x20010000), (JET_FRAME.off 63, 2), (FIO_PIN_CFG.off 0, 0xC1000000), (CAN_NBT.off 7, 0x1F0F0F), (USB_FN_SEQ.off, 0xFFFF0000),
      (FEED_LIM.off 15, 0x1F40000), (FEED_RETRY.off 0, 10), (CMP_CFG.off 0, 0x4000200), (CMP_CFG.off 22, 0x84000239), (FH_CTRL.off, 0x8140A09),
      (FH_BANKS.off, 15), (FH_PROOF_STAT.off, 0xFFFF), (TEL_CFG.off, 0x3E8), (TEL_THERM.off, 0x6E), (HST_CFG.off, 4), (HST_ATTN_EN.off, 0xB)],
    (State.reset.rd e.1).toNat = e.2) ∧
  (∀ k, k < 512 → State.reset.evPend k = false) ∧ State.reset.dom 0 = dsOn ∧ (∀ d, 1 ≤ d → d < 16 → State.reset.dom d = dsOff) ∧
  State.reset.unit 0 = fhOff ∧ State.reset.unit 1 = fhOff ∧ (∀ p, p < 4 → State.reset.pst p = psDown) ∧ State.reset.safeN = false ∧
  (∀ i, (State.reset.pt i).typ = tyUndef) ∧ State.reset.pending = [] ∧ State.reset.resetReq = none
end

