-- ==== Sys2Proof/Laws/SMap.lean ====
section
/-! SUPPORT. The laws of sparse tables: a read after a write, the other keys untouched, and the canonical form kept by every operation. -/

namespace Sys2Proof.Laws

open Sys2Proof.Machine

variable {α : Type} {d : Nat → α}

@[simp] theorem get_nil (k : Nat) : SMap.get d [] k = d k := rfl

theorem get_erase_same (m : SMap α) (k : Nat) : SMap.get d (SMap.erase k m) k = d k := by
  induction m with
  | nil => rfl
  | cons e r ih =>
    by_cases h : e.1 = k
    · simpa [SMap.erase, h] using ih
    · have : SMap.erase k (e :: r) = e :: SMap.erase k r := by simp [SMap.erase, h]
      rw [this]; simpa [SMap.get, h] using ih

theorem get_erase_ne (m : SMap α) {k j : Nat} (hj : j ≠ k) : SMap.get d (SMap.erase k m) j = SMap.get d m j := by
  induction m with
  | nil => rfl
  | cons e r ih =>
    by_cases h : e.1 = k
    · have h1 : SMap.erase k (e :: r) = SMap.erase k r := by simp [SMap.erase, h]
      have h2 : SMap.get d (e :: r) j = SMap.get d r j := by
        obtain ⟨a, v⟩ := e
        have : a ≠ j := by intro q; exact hj (by rw [← q]; exact h)
        simp [SMap.get, this]
      rw [h1, ih, h2]
    · have h1 : SMap.erase k (e :: r) = e :: SMap.erase k r := by simp [SMap.erase, h]
      rw [h1]; simp only [SMap.get]; rw [ih]

theorem get_insert_ne (m : SMap α) {k j : Nat} (v : α) (hj : j ≠ k) : SMap.get d (SMap.insert k v m) j = SMap.get d m j := by
  induction m with
  | nil => simp [SMap.insert, SMap.get, Ne.symm hj]
  | cons e r ih =>
    simp only [SMap.insert]
    split
    · simp [SMap.get, Ne.symm hj]
    · simp only [SMap.get, ih]

theorem get_insert_same (m : SMap α) (k : Nat) (v : α) (h : ∀ e ∈ m, e.1 ≠ k) : SMap.get d (SMap.insert k v m) k = v := by
  induction m with
  | nil => simp [SMap.insert, SMap.get]
  | cons e r ih =>
    simp only [SMap.insert]
    split
    · simp [SMap.get]
    · simp only [SMap.get]
      rw [if_neg (h e (by simp))]
      exact ih (fun x hx => h x (by simp [hx]))

/-- A read after a write of the same key gives the value written. -/
@[simp] theorem get_set_same [DecidableEq α] (m : SMap α) (k : Nat) (v : α) : SMap.get d (SMap.set d m k v) k = v := by
  unfold SMap.set
  split
  · next h => rw [get_erase_same, h]
  · exact get_insert_same _ _ _ (fun e he => by simpa [SMap.erase] using (List.mem_filter.mp he).2)

/-- A write leaves every other key alone. -/
@[simp] theorem get_set_ne [DecidableEq α] (m : SMap α) {k j : Nat} (v : α) (hj : j ≠ k) :
    SMap.get d (SMap.set d m k v) j = SMap.get d m j := by
  unfold SMap.set
  split
  · exact get_erase_ne m hj
  · rw [get_insert_ne _ v hj, get_erase_ne m hj]

/-- A read after a write, as one equation. -/
theorem get_set [DecidableEq α] (m : SMap α) (k j : Nat) (v : α) :
    SMap.get d (SMap.set d m k v) j = if j = k then v else SMap.get d m j := by
  split
  · next h => rw [h]; exact get_set_same m k v
  · next h => exact get_set_ne m v h

theorem wfFrom_mono [DecidableEq α] {m : SMap α} {a b : Nat} (h : a ≤ b) (hm : SMap.wfFrom d b m = true) : SMap.wfFrom d a m = true := by
  cases m with
  | nil => rfl
  | cons e r =>
    simp only [SMap.wfFrom, Bool.and_eq_true, decide_eq_true_eq] at *
    exact ⟨⟨by omega, hm.1.2⟩, hm.2⟩

theorem wfFrom_filter [DecidableEq α] (p : Nat × α → Bool) {m : SMap α} {a : Nat} (hm : SMap.wfFrom d a m = true) :
    SMap.wfFrom d a (m.filter p) = true := by
  induction m generalizing a with
  | nil => rfl
  | cons e r ih =>
    simp only [SMap.wfFrom, Bool.and_eq_true, decide_eq_true_eq] at hm
    rw [List.filter_cons]
    split
    · simp only [SMap.wfFrom, Bool.and_eq_true, decide_eq_true_eq]
      exact ⟨hm.1, ih hm.2⟩
    · exact wfFrom_mono (by omega) (ih hm.2)

theorem wfFrom_insert [DecidableEq α] {m : SMap α} {a k : Nat} {v : α} (hk : a ≤ k) (hv : v ≠ d k) (h : ∀ e ∈ m, e.1 ≠ k)
    (hm : SMap.wfFrom d a m = true) : SMap.wfFrom d a (SMap.insert k v m) = true := by
  induction m generalizing a with
  | nil => simp [SMap.insert, SMap.wfFrom, hk, hv]
  | cons e r ih =>
    simp only [SMap.wfFrom, Bool.and_eq_true, decide_eq_true_eq] at hm
    have he := h e (by simp)
    simp only [SMap.insert]
    split
    · next hlt =>
      simp only [SMap.wfFrom, Bool.and_eq_true, decide_eq_true_eq]
      exact ⟨⟨hk, hv⟩, ⟨by omega, hm.1.2⟩, hm.2⟩
    · next hge =>
      simp only [SMap.wfFrom, Bool.and_eq_true, decide_eq_true_eq]
      exact ⟨hm.1, ih (by omega) (fun x hx => h x (by simp [hx])) hm.2⟩

/-- A write keeps the canonical form. -/
theorem wf_set [DecidableEq α] {m : SMap α} (k : Nat) (v : α) (hm : SMap.wf d m = true) : SMap.wf d (SMap.set d m k v) = true := by
  unfold SMap.set SMap.wf SMap.erase at *
  split
  · exact wfFrom_filter _ hm
  · next hv =>
    exact wfFrom_insert (Nat.zero_le _) hv (fun e he => by simpa using (List.mem_filter.mp he).2) (wfFrom_filter _ hm)

/-- Returning keys to their unlisted values keeps the canonical form. -/
theorem wf_drop [DecidableEq α] {m : SMap α} (p : Nat → Bool) (hm : SMap.wf d m = true) : SMap.wf d (SMap.drop p m) = true :=
  wfFrom_filter _ hm

/-- A key returned to its unlisted value reads as it. -/
theorem get_drop (m : SMap α) (p : Nat → Bool) (k : Nat) :
    SMap.get d (SMap.drop p m) k = if p k then d k else SMap.get d m k := by
  induction m with
  | nil => simp [SMap.drop]
  | cons e r ih =>
    obtain ⟨a, v⟩ := e
    by_cases hp : p a = true
    · have h1 : SMap.drop p ((a, v) :: r) = SMap.drop p r := by simp [SMap.drop, hp]
      rw [h1, ih]
      by_cases hak : a = k
      · subst hak; simp [hp]
      · simp [SMap.get, hak]
    · have h1 : SMap.drop p ((a, v) :: r) = (a, v) :: SMap.drop p r := by simp [SMap.drop, hp]
      rw [h1]
      by_cases hak : a = k
      · subst hak; simp [SMap.get, hp]
      · simpa [SMap.get, hak] using ih

/-- Two canonical tables that read alike at every key are the same list. -/
theorem wf_ext_from [DecidableEq α] {m n : SMap α} {a : Nat} (hm : SMap.wfFrom d a m = true) (hn : SMap.wfFrom d a n = true)
    (h : ∀ k, SMap.get d m k = SMap.get d n k) : m = n := by
  have lo : ∀ {l : SMap α} {b : Nat}, SMap.wfFrom d b l = true → ∀ k, k < b → SMap.get d l k = d k := by
    intro l
    induction l with
    | nil => intro b _ k _; rfl
    | cons e r ih =>
      intro b hl k hk
      simp only [SMap.wfFrom, Bool.and_eq_true, decide_eq_true_eq] at hl
      have h1 : e.1 ≠ k := by omega
      simp only [SMap.get, h1, if_false]
      exact ih hl.2 k (by omega)
  induction m generalizing n a with
  | nil =>
    cases n with
    | nil => rfl
    | cons e r =>
      simp only [SMap.wfFrom, Bool.and_eq_true, decide_eq_true_eq] at hn
      have := h e.1
      simp [SMap.get] at this
      exact absurd this.symm hn.1.2
  | cons e r ih =>
    cases n with
    | nil =>
      simp only [SMap.wfFrom, Bool.and_eq_true, decide_eq_true_eq] at hm
      have := h e.1
      simp [SMap.get] at this
      exact absurd this hm.1.2
    | cons f q =>
      obtain ⟨j, v⟩ := e
      obtain ⟨i, u⟩ := f
      simp only [SMap.wfFrom, Bool.and_eq_true, decide_eq_true_eq] at hm hn
      have hji : j = i := by
        by_contra hne
        rcases Nat.lt_or_gt_of_ne hne with hlt | hlt
        · have := h j
          have hij : i ≠ j := fun q => hne q.symm
          simp only [SMap.get, if_true, hij, if_false] at this
          rw [lo hn.2 j (by omega)] at this
          exact hm.1.2 this
        · have := h i
          simp only [SMap.get, if_true, hne, if_false] at this
          rw [lo hm.2 i (by omega)] at this
          exact hn.1.2 this.symm
      subst hji
      have hv : v = u := by have := h j; simpa [SMap.get] using this
      subst hv
      have hr : r = q := by
        refine ih hm.2 hn.2 (fun k => ?_)
        by_cases hk : j = k
        · subst hk; rw [lo hm.2 j (by omega), lo hn.2 j (by omega)]
        · have := h k; simpa [SMap.get, hk] using this
      rw [hr]

/-- Equal tables are equal data: two canonical tables that read alike at every key are the same list. -/
theorem wf_ext [DecidableEq α] {m n : SMap α} (hm : SMap.wf d m = true) (hn : SMap.wf d n = true)
    (h : ∀ k, SMap.get d m k = SMap.get d n k) : m = n := wf_ext_from hm hn h

end Sys2Proof.Laws
end

