-- ==== Sys2Proof/Laws/State.lean ====
section
/-! SUPPORT. What each update of the state leaves as it was: one lemma for each field of State and each update, so that no proof
unfolds a record update. -/

namespace Sys2Proof.Machine

/-! ### State.wr -/

@[simp] theorem State.wr_pending (s : State) (k : Nat) (w : Word) : (s.wr k w).pending = s.pending := (rfl)
@[simp] theorem State.wr_latches (s : State) (k : Nat) (w : Word) : (s.wr k w).latches = s.latches := (rfl)
@[simp] theorem State.wr_staging (s : State) (k : Nat) (w : Word) : (s.wr k w).staging = s.staging := (rfl)
@[simp] theorem State.wr_held (s : State) (k : Nat) (w : Word) : (s.wr k w).held = s.held := (rfl)
@[simp] theorem State.wr_resp (s : State) (k : Nat) (w : Word) : (s.wr k w).resp = s.resp := (rfl)
@[simp] theorem State.wr_freeCtr (s : State) (k : Nat) (w : Word) : (s.wr k w).freeCtr = s.freeCtr := (rfl)
@[simp] theorem State.wr_resetReq (s : State) (k : Nat) (w : Word) : (s.wr k w).resetReq = s.resetReq := (rfl)
@[simp] theorem State.wr_clep (s : State) (k : Nat) (w : Word) : (s.wr k w).clep = s.clep := (rfl)
@[simp] theorem State.wr_sump (s : State) (k : Nat) (w : Word) : (s.wr k w).sump = s.sump := (rfl)
@[simp] theorem State.wr_links (s : State) (k : Nat) (w : Word) : (s.wr k w).links = s.links := (rfl)
@[simp] theorem State.wr_sw (s : State) (k : Nat) (w : Word) : (s.wr k w).sw = s.sw := (rfl)
@[simp] theorem State.wr_power (s : State) (k : Nat) (w : Word) : (s.wr k w).power = s.power := (rfl)
@[simp] theorem State.wr_pts (s : State) (k : Nat) (w : Word) : (s.wr k w).pts = s.pts := (rfl)
@[simp] theorem State.wr_pins (s : State) (k : Nat) (w : Word) : (s.wr k w).pins = s.pins := (rfl)
@[simp] theorem State.wr_jets (s : State) (k : Nat) (w : Word) : (s.wr k w).jets = s.jets := (rfl)
@[simp] theorem State.wr_cst (s : State) (k : Nat) (w : Word) : (s.wr k w).cst = s.cst := (rfl)
@[simp] theorem State.wr_can (s : State) (k : Nat) (w : Word) : (s.wr k w).can = s.can := (rfl)
@[simp] theorem State.wr_sec (s : State) (k : Nat) (w : Word) : (s.wr k w).sec = s.sec := (rfl)
@[simp] theorem State.wr_fh (s : State) (k : Nat) (w : Word) : (s.wr k w).fh = s.fh := (rfl)
@[simp] theorem State.wr_cyc (s : State) (k : Nat) (w : Word) : (s.wr k w).cyc = s.cyc := (rfl)
@[simp] theorem State.wr_flow (s : State) (k : Nat) (w : Word) : (s.wr k w).flow = s.flow := (rfl)
@[simp] theorem State.wr_brg (s : State) (k : Nat) (w : Word) : (s.wr k w).brg = s.brg := (rfl)
@[simp] theorem State.wr_usb (s : State) (k : Nat) (w : Word) : (s.wr k w).usb = s.usb := (rfl)
@[simp] theorem State.wr_feeds (s : State) (k : Nat) (w : Word) : (s.wr k w).feeds = s.feeds := (rfl)
@[simp] theorem State.wr_boot (s : State) (k : Nat) (w : Word) : (s.wr k w).boot = s.boot := (rfl)
@[simp] theorem State.wr_upd (s : State) (k : Nat) (w : Word) : (s.wr k w).upd = s.upd := (rfl)

/-! ### State.p -/

@[simp] theorem State.p_pending (s : State) (f : FRef) (v : Nat) : (s.p f v).pending = s.pending := (rfl)
@[simp] theorem State.p_latches (s : State) (f : FRef) (v : Nat) : (s.p f v).latches = s.latches := (rfl)
@[simp] theorem State.p_staging (s : State) (f : FRef) (v : Nat) : (s.p f v).staging = s.staging := (rfl)
@[simp] theorem State.p_held (s : State) (f : FRef) (v : Nat) : (s.p f v).held = s.held := (rfl)
@[simp] theorem State.p_resp (s : State) (f : FRef) (v : Nat) : (s.p f v).resp = s.resp := (rfl)
@[simp] theorem State.p_freeCtr (s : State) (f : FRef) (v : Nat) : (s.p f v).freeCtr = s.freeCtr := (rfl)
@[simp] theorem State.p_resetReq (s : State) (f : FRef) (v : Nat) : (s.p f v).resetReq = s.resetReq := (rfl)
@[simp] theorem State.p_clep (s : State) (f : FRef) (v : Nat) : (s.p f v).clep = s.clep := (rfl)
@[simp] theorem State.p_sump (s : State) (f : FRef) (v : Nat) : (s.p f v).sump = s.sump := (rfl)
@[simp] theorem State.p_links (s : State) (f : FRef) (v : Nat) : (s.p f v).links = s.links := (rfl)
@[simp] theorem State.p_sw (s : State) (f : FRef) (v : Nat) : (s.p f v).sw = s.sw := (rfl)
@[simp] theorem State.p_power (s : State) (f : FRef) (v : Nat) : (s.p f v).power = s.power := (rfl)
@[simp] theorem State.p_pts (s : State) (f : FRef) (v : Nat) : (s.p f v).pts = s.pts := (rfl)
@[simp] theorem State.p_pins (s : State) (f : FRef) (v : Nat) : (s.p f v).pins = s.pins := (rfl)
@[simp] theorem State.p_jets (s : State) (f : FRef) (v : Nat) : (s.p f v).jets = s.jets := (rfl)
@[simp] theorem State.p_cst (s : State) (f : FRef) (v : Nat) : (s.p f v).cst = s.cst := (rfl)
@[simp] theorem State.p_can (s : State) (f : FRef) (v : Nat) : (s.p f v).can = s.can := (rfl)
@[simp] theorem State.p_sec (s : State) (f : FRef) (v : Nat) : (s.p f v).sec = s.sec := (rfl)
@[simp] theorem State.p_fh (s : State) (f : FRef) (v : Nat) : (s.p f v).fh = s.fh := (rfl)
@[simp] theorem State.p_cyc (s : State) (f : FRef) (v : Nat) : (s.p f v).cyc = s.cyc := (rfl)
@[simp] theorem State.p_flow (s : State) (f : FRef) (v : Nat) : (s.p f v).flow = s.flow := (rfl)
@[simp] theorem State.p_brg (s : State) (f : FRef) (v : Nat) : (s.p f v).brg = s.brg := (rfl)
@[simp] theorem State.p_usb (s : State) (f : FRef) (v : Nat) : (s.p f v).usb = s.usb := (rfl)
@[simp] theorem State.p_feeds (s : State) (f : FRef) (v : Nat) : (s.p f v).feeds = s.feeds := (rfl)
@[simp] theorem State.p_boot (s : State) (f : FRef) (v : Nat) : (s.p f v).boot = s.boot := (rfl)
@[simp] theorem State.p_upd (s : State) (f : FRef) (v : Nat) : (s.p f v).upd = s.upd := (rfl)

/-! ### State.pb -/

@[simp] theorem State.pb_pending (s : State) (f : FRef) (b : Bool) : (s.pb f b).pending = s.pending := (rfl)
@[simp] theorem State.pb_latches (s : State) (f : FRef) (b : Bool) : (s.pb f b).latches = s.latches := (rfl)
@[simp] theorem State.pb_staging (s : State) (f : FRef) (b : Bool) : (s.pb f b).staging = s.staging := (rfl)
@[simp] theorem State.pb_held (s : State) (f : FRef) (b : Bool) : (s.pb f b).held = s.held := (rfl)
@[simp] theorem State.pb_resp (s : State) (f : FRef) (b : Bool) : (s.pb f b).resp = s.resp := (rfl)
@[simp] theorem State.pb_freeCtr (s : State) (f : FRef) (b : Bool) : (s.pb f b).freeCtr = s.freeCtr := (rfl)
@[simp] theorem State.pb_resetReq (s : State) (f : FRef) (b : Bool) : (s.pb f b).resetReq = s.resetReq := (rfl)
@[simp] theorem State.pb_clep (s : State) (f : FRef) (b : Bool) : (s.pb f b).clep = s.clep := (rfl)
@[simp] theorem State.pb_sump (s : State) (f : FRef) (b : Bool) : (s.pb f b).sump = s.sump := (rfl)
@[simp] theorem State.pb_links (s : State) (f : FRef) (b : Bool) : (s.pb f b).links = s.links := (rfl)
@[simp] theorem State.pb_sw (s : State) (f : FRef) (b : Bool) : (s.pb f b).sw = s.sw := (rfl)
@[simp] theorem State.pb_power (s : State) (f : FRef) (b : Bool) : (s.pb f b).power = s.power := (rfl)
@[simp] theorem State.pb_pts (s : State) (f : FRef) (b : Bool) : (s.pb f b).pts = s.pts := (rfl)
@[simp] theorem State.pb_pins (s : State) (f : FRef) (b : Bool) : (s.pb f b).pins = s.pins := (rfl)
@[simp] theorem State.pb_jets (s : State) (f : FRef) (b : Bool) : (s.pb f b).jets = s.jets := (rfl)
@[simp] theorem State.pb_cst (s : State) (f : FRef) (b : Bool) : (s.pb f b).cst = s.cst := (rfl)
@[simp] theorem State.pb_can (s : State) (f : FRef) (b : Bool) : (s.pb f b).can = s.can := (rfl)
@[simp] theorem State.pb_sec (s : State) (f : FRef) (b : Bool) : (s.pb f b).sec = s.sec := (rfl)
@[simp] theorem State.pb_fh (s : State) (f : FRef) (b : Bool) : (s.pb f b).fh = s.fh := (rfl)
@[simp] theorem State.pb_cyc (s : State) (f : FRef) (b : Bool) : (s.pb f b).cyc = s.cyc := (rfl)
@[simp] theorem State.pb_flow (s : State) (f : FRef) (b : Bool) : (s.pb f b).flow = s.flow := (rfl)
@[simp] theorem State.pb_brg (s : State) (f : FRef) (b : Bool) : (s.pb f b).brg = s.brg := (rfl)
@[simp] theorem State.pb_usb (s : State) (f : FRef) (b : Bool) : (s.pb f b).usb = s.usb := (rfl)
@[simp] theorem State.pb_feeds (s : State) (f : FRef) (b : Bool) : (s.pb f b).feeds = s.feeds := (rfl)
@[simp] theorem State.pb_boot (s : State) (f : FRef) (b : Bool) : (s.pb f b).boot = s.boot := (rfl)
@[simp] theorem State.pb_upd (s : State) (f : FRef) (b : Bool) : (s.pb f b).upd = s.upd := (rfl)

/-! ### State.wr64 -/

@[simp] theorem State.wr64_pending (s : State) (k v : Nat) : (s.wr64 k v).pending = s.pending := (rfl)
@[simp] theorem State.wr64_latches (s : State) (k v : Nat) : (s.wr64 k v).latches = s.latches := (rfl)
@[simp] theorem State.wr64_staging (s : State) (k v : Nat) : (s.wr64 k v).staging = s.staging := (rfl)
@[simp] theorem State.wr64_held (s : State) (k v : Nat) : (s.wr64 k v).held = s.held := (rfl)
@[simp] theorem State.wr64_resp (s : State) (k v : Nat) : (s.wr64 k v).resp = s.resp := (rfl)
@[simp] theorem State.wr64_freeCtr (s : State) (k v : Nat) : (s.wr64 k v).freeCtr = s.freeCtr := (rfl)
@[simp] theorem State.wr64_resetReq (s : State) (k v : Nat) : (s.wr64 k v).resetReq = s.resetReq := (rfl)
@[simp] theorem State.wr64_clep (s : State) (k v : Nat) : (s.wr64 k v).clep = s.clep := (rfl)
@[simp] theorem State.wr64_sump (s : State) (k v : Nat) : (s.wr64 k v).sump = s.sump := (rfl)
@[simp] theorem State.wr64_links (s : State) (k v : Nat) : (s.wr64 k v).links = s.links := (rfl)
@[simp] theorem State.wr64_sw (s : State) (k v : Nat) : (s.wr64 k v).sw = s.sw := (rfl)
@[simp] theorem State.wr64_power (s : State) (k v : Nat) : (s.wr64 k v).power = s.power := (rfl)
@[simp] theorem State.wr64_pts (s : State) (k v : Nat) : (s.wr64 k v).pts = s.pts := (rfl)
@[simp] theorem State.wr64_pins (s : State) (k v : Nat) : (s.wr64 k v).pins = s.pins := (rfl)
@[simp] theorem State.wr64_jets (s : State) (k v : Nat) : (s.wr64 k v).jets = s.jets := (rfl)
@[simp] theorem State.wr64_cst (s : State) (k v : Nat) : (s.wr64 k v).cst = s.cst := (rfl)
@[simp] theorem State.wr64_can (s : State) (k v : Nat) : (s.wr64 k v).can = s.can := (rfl)
@[simp] theorem State.wr64_sec (s : State) (k v : Nat) : (s.wr64 k v).sec = s.sec := (rfl)
@[simp] theorem State.wr64_fh (s : State) (k v : Nat) : (s.wr64 k v).fh = s.fh := (rfl)
@[simp] theorem State.wr64_cyc (s : State) (k v : Nat) : (s.wr64 k v).cyc = s.cyc := (rfl)
@[simp] theorem State.wr64_flow (s : State) (k v : Nat) : (s.wr64 k v).flow = s.flow := (rfl)
@[simp] theorem State.wr64_brg (s : State) (k v : Nat) : (s.wr64 k v).brg = s.brg := (rfl)
@[simp] theorem State.wr64_usb (s : State) (k v : Nat) : (s.wr64 k v).usb = s.usb := (rfl)
@[simp] theorem State.wr64_feeds (s : State) (k v : Nat) : (s.wr64 k v).feeds = s.feeds := (rfl)
@[simp] theorem State.wr64_boot (s : State) (k v : Nat) : (s.wr64 k v).boot = s.boot := (rfl)
@[simp] theorem State.wr64_upd (s : State) (k v : Nat) : (s.wr64 k v).upd = s.upd := (rfl)

/-! ### State.traffic -/

@[simp] theorem State.traffic_pending (s : State) (k n : Nat) : (s.traffic k n).pending = s.pending := (rfl)
@[simp] theorem State.traffic_latches (s : State) (k n : Nat) : (s.traffic k n).latches = s.latches := (rfl)
@[simp] theorem State.traffic_staging (s : State) (k n : Nat) : (s.traffic k n).staging = s.staging := (rfl)
@[simp] theorem State.traffic_held (s : State) (k n : Nat) : (s.traffic k n).held = s.held := (rfl)
@[simp] theorem State.traffic_resp (s : State) (k n : Nat) : (s.traffic k n).resp = s.resp := (rfl)
@[simp] theorem State.traffic_freeCtr (s : State) (k n : Nat) : (s.traffic k n).freeCtr = s.freeCtr := (rfl)
@[simp] theorem State.traffic_resetReq (s : State) (k n : Nat) : (s.traffic k n).resetReq = s.resetReq := (rfl)
@[simp] theorem State.traffic_clep (s : State) (k n : Nat) : (s.traffic k n).clep = s.clep := (rfl)
@[simp] theorem State.traffic_sump (s : State) (k n : Nat) : (s.traffic k n).sump = s.sump := (rfl)
@[simp] theorem State.traffic_links (s : State) (k n : Nat) : (s.traffic k n).links = s.links := (rfl)
@[simp] theorem State.traffic_sw (s : State) (k n : Nat) : (s.traffic k n).sw = s.sw := (rfl)
@[simp] theorem State.traffic_power (s : State) (k n : Nat) : (s.traffic k n).power = s.power := (rfl)
@[simp] theorem State.traffic_pts (s : State) (k n : Nat) : (s.traffic k n).pts = s.pts := (rfl)
@[simp] theorem State.traffic_pins (s : State) (k n : Nat) : (s.traffic k n).pins = s.pins := (rfl)
@[simp] theorem State.traffic_jets (s : State) (k n : Nat) : (s.traffic k n).jets = s.jets := (rfl)
@[simp] theorem State.traffic_cst (s : State) (k n : Nat) : (s.traffic k n).cst = s.cst := (rfl)
@[simp] theorem State.traffic_can (s : State) (k n : Nat) : (s.traffic k n).can = s.can := (rfl)
@[simp] theorem State.traffic_sec (s : State) (k n : Nat) : (s.traffic k n).sec = s.sec := (rfl)
@[simp] theorem State.traffic_fh (s : State) (k n : Nat) : (s.traffic k n).fh = s.fh := (rfl)
@[simp] theorem State.traffic_cyc (s : State) (k n : Nat) : (s.traffic k n).cyc = s.cyc := (rfl)
@[simp] theorem State.traffic_flow (s : State) (k n : Nat) : (s.traffic k n).flow = s.flow := (rfl)
@[simp] theorem State.traffic_brg (s : State) (k n : Nat) : (s.traffic k n).brg = s.brg := (rfl)
@[simp] theorem State.traffic_usb (s : State) (k n : Nat) : (s.traffic k n).usb = s.usb := (rfl)
@[simp] theorem State.traffic_feeds (s : State) (k n : Nat) : (s.traffic k n).feeds = s.feeds := (rfl)
@[simp] theorem State.traffic_boot (s : State) (k n : Nat) : (s.traffic k n).boot = s.boot := (rfl)
@[simp] theorem State.traffic_upd (s : State) (k n : Nat) : (s.traffic k n).upd = s.upd := (rfl)

/-! ### State.answer -/

@[simp] theorem State.answer_pending (s : State) (m : Master) (st : Nat) (d : List Byte) : (s.answer m st d).pending = s.pending := (rfl)
@[simp] theorem State.answer_regs (s : State) (m : Master) (st : Nat) (d : List Byte) : (s.answer m st d).regs = s.regs := (rfl)
@[simp] theorem State.answer_latches (s : State) (m : Master) (st : Nat) (d : List Byte) : (s.answer m st d).latches = s.latches := (rfl)
@[simp] theorem State.answer_staging (s : State) (m : Master) (st : Nat) (d : List Byte) : (s.answer m st d).staging = s.staging := (rfl)
@[simp] theorem State.answer_held (s : State) (m : Master) (st : Nat) (d : List Byte) : (s.answer m st d).held = s.held := (rfl)
@[simp] theorem State.answer_freeCtr (s : State) (m : Master) (st : Nat) (d : List Byte) : (s.answer m st d).freeCtr = s.freeCtr := (rfl)
@[simp] theorem State.answer_resetReq (s : State) (m : Master) (st : Nat) (d : List Byte) : (s.answer m st d).resetReq = s.resetReq := (rfl)
@[simp] theorem State.answer_clep (s : State) (m : Master) (st : Nat) (d : List Byte) : (s.answer m st d).clep = s.clep := (rfl)
@[simp] theorem State.answer_sump (s : State) (m : Master) (st : Nat) (d : List Byte) : (s.answer m st d).sump = s.sump := (rfl)
@[simp] theorem State.answer_links (s : State) (m : Master) (st : Nat) (d : List Byte) : (s.answer m st d).links = s.links := (rfl)
@[simp] theorem State.answer_sw (s : State) (m : Master) (st : Nat) (d : List Byte) : (s.answer m st d).sw = s.sw := (rfl)
@[simp] theorem State.answer_power (s : State) (m : Master) (st : Nat) (d : List Byte) : (s.answer m st d).power = s.power := (rfl)
@[simp] theorem State.answer_pts (s : State) (m : Master) (st : Nat) (d : List Byte) : (s.answer m st d).pts = s.pts := (rfl)
@[simp] theorem State.answer_pins (s : State) (m : Master) (st : Nat) (d : List Byte) : (s.answer m st d).pins = s.pins := (rfl)
@[simp] theorem State.answer_jets (s : State) (m : Master) (st : Nat) (d : List Byte) : (s.answer m st d).jets = s.jets := (rfl)
@[simp] theorem State.answer_cst (s : State) (m : Master) (st : Nat) (d : List Byte) : (s.answer m st d).cst = s.cst := (rfl)
@[simp] theorem State.answer_can (s : State) (m : Master) (st : Nat) (d : List Byte) : (s.answer m st d).can = s.can := (rfl)
@[simp] theorem State.answer_sec (s : State) (m : Master) (st : Nat) (d : List Byte) : (s.answer m st d).sec = s.sec := (rfl)
@[simp] theorem State.answer_fh (s : State) (m : Master) (st : Nat) (d : List Byte) : (s.answer m st d).fh = s.fh := (rfl)
@[simp] theorem State.answer_cyc (s : State) (m : Master) (st : Nat) (d : List Byte) : (s.answer m st d).cyc = s.cyc := (rfl)
@[simp] theorem State.answer_flow (s : State) (m : Master) (st : Nat) (d : List Byte) : (s.answer m st d).flow = s.flow := (rfl)
@[simp] theorem State.answer_brg (s : State) (m : Master) (st : Nat) (d : List Byte) : (s.answer m st d).brg = s.brg := (rfl)
@[simp] theorem State.answer_usb (s : State) (m : Master) (st : Nat) (d : List Byte) : (s.answer m st d).usb = s.usb := (rfl)
@[simp] theorem State.answer_feeds (s : State) (m : Master) (st : Nat) (d : List Byte) : (s.answer m st d).feeds = s.feeds := (rfl)
@[simp] theorem State.answer_boot (s : State) (m : Master) (st : Nat) (d : List Byte) : (s.answer m st d).boot = s.boot := (rfl)
@[simp] theorem State.answer_upd (s : State) (m : Master) (st : Nat) (d : List Byte) : (s.answer m st d).upd = s.upd := (rfl)

/-! ### State.setJet -/

@[simp] theorem State.setJet_pending (s : State) (j : Nat) (v : Jet) : (s.setJet j v).pending = s.pending := (rfl)
@[simp] theorem State.setJet_regs (s : State) (j : Nat) (v : Jet) : (s.setJet j v).regs = s.regs := (rfl)
@[simp] theorem State.setJet_latches (s : State) (j : Nat) (v : Jet) : (s.setJet j v).latches = s.latches := (rfl)
@[simp] theorem State.setJet_staging (s : State) (j : Nat) (v : Jet) : (s.setJet j v).staging = s.staging := (rfl)
@[simp] theorem State.setJet_held (s : State) (j : Nat) (v : Jet) : (s.setJet j v).held = s.held := (rfl)
@[simp] theorem State.setJet_resp (s : State) (j : Nat) (v : Jet) : (s.setJet j v).resp = s.resp := (rfl)
@[simp] theorem State.setJet_freeCtr (s : State) (j : Nat) (v : Jet) : (s.setJet j v).freeCtr = s.freeCtr := (rfl)
@[simp] theorem State.setJet_resetReq (s : State) (j : Nat) (v : Jet) : (s.setJet j v).resetReq = s.resetReq := (rfl)
@[simp] theorem State.setJet_clep (s : State) (j : Nat) (v : Jet) : (s.setJet j v).clep = s.clep := (rfl)
@[simp] theorem State.setJet_sump (s : State) (j : Nat) (v : Jet) : (s.setJet j v).sump = s.sump := (rfl)
@[simp] theorem State.setJet_links (s : State) (j : Nat) (v : Jet) : (s.setJet j v).links = s.links := (rfl)
@[simp] theorem State.setJet_sw (s : State) (j : Nat) (v : Jet) : (s.setJet j v).sw = s.sw := (rfl)
@[simp] theorem State.setJet_power (s : State) (j : Nat) (v : Jet) : (s.setJet j v).power = s.power := (rfl)
@[simp] theorem State.setJet_pts (s : State) (j : Nat) (v : Jet) : (s.setJet j v).pts = s.pts := (rfl)
@[simp] theorem State.setJet_pins (s : State) (j : Nat) (v : Jet) : (s.setJet j v).pins = s.pins := (rfl)
@[simp] theorem State.setJet_cst (s : State) (j : Nat) (v : Jet) : (s.setJet j v).cst = s.cst := (rfl)
@[simp] theorem State.setJet_can (s : State) (j : Nat) (v : Jet) : (s.setJet j v).can = s.can := (rfl)
@[simp] theorem State.setJet_sec (s : State) (j : Nat) (v : Jet) : (s.setJet j v).sec = s.sec := (rfl)
@[simp] theorem State.setJet_fh (s : State) (j : Nat) (v : Jet) : (s.setJet j v).fh = s.fh := (rfl)
@[simp] theorem State.setJet_cyc (s : State) (j : Nat) (v : Jet) : (s.setJet j v).cyc = s.cyc := (rfl)
@[simp] theorem State.setJet_flow (s : State) (j : Nat) (v : Jet) : (s.setJet j v).flow = s.flow := (rfl)
@[simp] theorem State.setJet_brg (s : State) (j : Nat) (v : Jet) : (s.setJet j v).brg = s.brg := (rfl)
@[simp] theorem State.setJet_usb (s : State) (j : Nat) (v : Jet) : (s.setJet j v).usb = s.usb := (rfl)
@[simp] theorem State.setJet_feeds (s : State) (j : Nat) (v : Jet) : (s.setJet j v).feeds = s.feeds := (rfl)
@[simp] theorem State.setJet_boot (s : State) (j : Nat) (v : Jet) : (s.setJet j v).boot = s.boot := (rfl)
@[simp] theorem State.setJet_upd (s : State) (j : Nat) (v : Jet) : (s.setJet j v).upd = s.upd := (rfl)

/-! ### State.setPort -/

@[simp] theorem State.setPort_pending (s : State) (p : Nat) (v : Port) : (s.setPort p v).pending = s.pending := (rfl)
@[simp] theorem State.setPort_regs (s : State) (p : Nat) (v : Port) : (s.setPort p v).regs = s.regs := (rfl)
@[simp] theorem State.setPort_latches (s : State) (p : Nat) (v : Port) : (s.setPort p v).latches = s.latches := (rfl)
@[simp] theorem State.setPort_staging (s : State) (p : Nat) (v : Port) : (s.setPort p v).staging = s.staging := (rfl)
@[simp] theorem State.setPort_held (s : State) (p : Nat) (v : Port) : (s.setPort p v).held = s.held := (rfl)
@[simp] theorem State.setPort_resp (s : State) (p : Nat) (v : Port) : (s.setPort p v).resp = s.resp := (rfl)
@[simp] theorem State.setPort_freeCtr (s : State) (p : Nat) (v : Port) : (s.setPort p v).freeCtr = s.freeCtr := (rfl)
@[simp] theorem State.setPort_resetReq (s : State) (p : Nat) (v : Port) : (s.setPort p v).resetReq = s.resetReq := (rfl)
@[simp] theorem State.setPort_clep (s : State) (p : Nat) (v : Port) : (s.setPort p v).clep = s.clep := (rfl)
@[simp] theorem State.setPort_sump (s : State) (p : Nat) (v : Port) : (s.setPort p v).sump = s.sump := (rfl)
@[simp] theorem State.setPort_sw (s : State) (p : Nat) (v : Port) : (s.setPort p v).sw = s.sw := (rfl)
@[simp] theorem State.setPort_power (s : State) (p : Nat) (v : Port) : (s.setPort p v).power = s.power := (rfl)
@[simp] theorem State.setPort_pts (s : State) (p : Nat) (v : Port) : (s.setPort p v).pts = s.pts := (rfl)
@[simp] theorem State.setPort_pins (s : State) (p : Nat) (v : Port) : (s.setPort p v).pins = s.pins := (rfl)
@[simp] theorem State.setPort_jets (s : State) (p : Nat) (v : Port) : (s.setPort p v).jets = s.jets := (rfl)
@[simp] theorem State.setPort_cst (s : State) (p : Nat) (v : Port) : (s.setPort p v).cst = s.cst := (rfl)
@[simp] theorem State.setPort_can (s : State) (p : Nat) (v : Port) : (s.setPort p v).can = s.can := (rfl)
@[simp] theorem State.setPort_sec (s : State) (p : Nat) (v : Port) : (s.setPort p v).sec = s.sec := (rfl)
@[simp] theorem State.setPort_fh (s : State) (p : Nat) (v : Port) : (s.setPort p v).fh = s.fh := (rfl)
@[simp] theorem State.setPort_cyc (s : State) (p : Nat) (v : Port) : (s.setPort p v).cyc = s.cyc := (rfl)
@[simp] theorem State.setPort_flow (s : State) (p : Nat) (v : Port) : (s.setPort p v).flow = s.flow := (rfl)
@[simp] theorem State.setPort_brg (s : State) (p : Nat) (v : Port) : (s.setPort p v).brg = s.brg := (rfl)
@[simp] theorem State.setPort_usb (s : State) (p : Nat) (v : Port) : (s.setPort p v).usb = s.usb := (rfl)
@[simp] theorem State.setPort_feeds (s : State) (p : Nat) (v : Port) : (s.setPort p v).feeds = s.feeds := (rfl)
@[simp] theorem State.setPort_boot (s : State) (p : Nat) (v : Port) : (s.setPort p v).boot = s.boot := (rfl)
@[simp] theorem State.setPort_upd (s : State) (p : Nat) (v : Port) : (s.setPort p v).upd = s.upd := (rfl)

/-! ### State.cy -/

@[simp] theorem State.cy_pending (s : State) (f : Cycle → Cycle) : (s.cy f).pending = s.pending := (rfl)
@[simp] theorem State.cy_regs (s : State) (f : Cycle → Cycle) : (s.cy f).regs = s.regs := (rfl)
@[simp] theorem State.cy_latches (s : State) (f : Cycle → Cycle) : (s.cy f).latches = s.latches := (rfl)
@[simp] theorem State.cy_staging (s : State) (f : Cycle → Cycle) : (s.cy f).staging = s.staging := (rfl)
@[simp] theorem State.cy_held (s : State) (f : Cycle → Cycle) : (s.cy f).held = s.held := (rfl)
@[simp] theorem State.cy_resp (s : State) (f : Cycle → Cycle) : (s.cy f).resp = s.resp := (rfl)
@[simp] theorem State.cy_freeCtr (s : State) (f : Cycle → Cycle) : (s.cy f).freeCtr = s.freeCtr := (rfl)
@[simp] theorem State.cy_resetReq (s : State) (f : Cycle → Cycle) : (s.cy f).resetReq = s.resetReq := (rfl)
@[simp] theorem State.cy_clep (s : State) (f : Cycle → Cycle) : (s.cy f).clep = s.clep := (rfl)
@[simp] theorem State.cy_sump (s : State) (f : Cycle → Cycle) : (s.cy f).sump = s.sump := (rfl)
@[simp] theorem State.cy_links (s : State) (f : Cycle → Cycle) : (s.cy f).links = s.links := (rfl)
@[simp] theorem State.cy_sw (s : State) (f : Cycle → Cycle) : (s.cy f).sw = s.sw := (rfl)
@[simp] theorem State.cy_power (s : State) (f : Cycle → Cycle) : (s.cy f).power = s.power := (rfl)
@[simp] theorem State.cy_pts (s : State) (f : Cycle → Cycle) : (s.cy f).pts = s.pts := (rfl)
@[simp] theorem State.cy_pins (s : State) (f : Cycle → Cycle) : (s.cy f).pins = s.pins := (rfl)
@[simp] theorem State.cy_jets (s : State) (f : Cycle → Cycle) : (s.cy f).jets = s.jets := (rfl)
@[simp] theorem State.cy_cst (s : State) (f : Cycle → Cycle) : (s.cy f).cst = s.cst := (rfl)
@[simp] theorem State.cy_can (s : State) (f : Cycle → Cycle) : (s.cy f).can = s.can := (rfl)
@[simp] theorem State.cy_sec (s : State) (f : Cycle → Cycle) : (s.cy f).sec = s.sec := (rfl)
@[simp] theorem State.cy_fh (s : State) (f : Cycle → Cycle) : (s.cy f).fh = s.fh := (rfl)
@[simp] theorem State.cy_flow (s : State) (f : Cycle → Cycle) : (s.cy f).flow = s.flow := (rfl)
@[simp] theorem State.cy_brg (s : State) (f : Cycle → Cycle) : (s.cy f).brg = s.brg := (rfl)
@[simp] theorem State.cy_usb (s : State) (f : Cycle → Cycle) : (s.cy f).usb = s.usb := (rfl)
@[simp] theorem State.cy_feeds (s : State) (f : Cycle → Cycle) : (s.cy f).feeds = s.feeds := (rfl)
@[simp] theorem State.cy_boot (s : State) (f : Cycle → Cycle) : (s.cy f).boot = s.boot := (rfl)
@[simp] theorem State.cy_upd (s : State) (f : Cycle → Cycle) : (s.cy f).upd = s.upd := (rfl)

/-! ### State.upm -/

@[simp] theorem State.upm_pending (s : State) (f : Upd → Upd) : (s.upm f).pending = s.pending := (rfl)
@[simp] theorem State.upm_regs (s : State) (f : Upd → Upd) : (s.upm f).regs = s.regs := (rfl)
@[simp] theorem State.upm_latches (s : State) (f : Upd → Upd) : (s.upm f).latches = s.latches := (rfl)
@[simp] theorem State.upm_staging (s : State) (f : Upd → Upd) : (s.upm f).staging = s.staging := (rfl)
@[simp] theorem State.upm_held (s : State) (f : Upd → Upd) : (s.upm f).held = s.held := (rfl)
@[simp] theorem State.upm_resp (s : State) (f : Upd → Upd) : (s.upm f).resp = s.resp := (rfl)
@[simp] theorem State.upm_freeCtr (s : State) (f : Upd → Upd) : (s.upm f).freeCtr = s.freeCtr := (rfl)
@[simp] theorem State.upm_resetReq (s : State) (f : Upd → Upd) : (s.upm f).resetReq = s.resetReq := (rfl)
@[simp] theorem State.upm_clep (s : State) (f : Upd → Upd) : (s.upm f).clep = s.clep := (rfl)
@[simp] theorem State.upm_sump (s : State) (f : Upd → Upd) : (s.upm f).sump = s.sump := (rfl)
@[simp] theorem State.upm_links (s : State) (f : Upd → Upd) : (s.upm f).links = s.links := (rfl)
@[simp] theorem State.upm_sw (s : State) (f : Upd → Upd) : (s.upm f).sw = s.sw := (rfl)
@[simp] theorem State.upm_power (s : State) (f : Upd → Upd) : (s.upm f).power = s.power := (rfl)
@[simp] theorem State.upm_pts (s : State) (f : Upd → Upd) : (s.upm f).pts = s.pts := (rfl)
@[simp] theorem State.upm_pins (s : State) (f : Upd → Upd) : (s.upm f).pins = s.pins := (rfl)
@[simp] theorem State.upm_jets (s : State) (f : Upd → Upd) : (s.upm f).jets = s.jets := (rfl)
@[simp] theorem State.upm_cst (s : State) (f : Upd → Upd) : (s.upm f).cst = s.cst := (rfl)
@[simp] theorem State.upm_can (s : State) (f : Upd → Upd) : (s.upm f).can = s.can := (rfl)
@[simp] theorem State.upm_sec (s : State) (f : Upd → Upd) : (s.upm f).sec = s.sec := (rfl)
@[simp] theorem State.upm_fh (s : State) (f : Upd → Upd) : (s.upm f).fh = s.fh := (rfl)
@[simp] theorem State.upm_cyc (s : State) (f : Upd → Upd) : (s.upm f).cyc = s.cyc := (rfl)
@[simp] theorem State.upm_flow (s : State) (f : Upd → Upd) : (s.upm f).flow = s.flow := (rfl)
@[simp] theorem State.upm_brg (s : State) (f : Upd → Upd) : (s.upm f).brg = s.brg := (rfl)
@[simp] theorem State.upm_usb (s : State) (f : Upd → Upd) : (s.upm f).usb = s.usb := (rfl)
@[simp] theorem State.upm_feeds (s : State) (f : Upd → Upd) : (s.upm f).feeds = s.feeds := (rfl)
@[simp] theorem State.upm_boot (s : State) (f : Upd → Upd) : (s.upm f).boot = s.boot := (rfl)

/-! ### State.hm -/

@[simp] theorem State.hm_pending (s : State) (f : Fh → Fh) : (s.hm f).pending = s.pending := (rfl)
@[simp] theorem State.hm_regs (s : State) (f : Fh → Fh) : (s.hm f).regs = s.regs := (rfl)
@[simp] theorem State.hm_latches (s : State) (f : Fh → Fh) : (s.hm f).latches = s.latches := (rfl)
@[simp] theorem State.hm_staging (s : State) (f : Fh → Fh) : (s.hm f).staging = s.staging := (rfl)
@[simp] theorem State.hm_held (s : State) (f : Fh → Fh) : (s.hm f).held = s.held := (rfl)
@[simp] theorem State.hm_resp (s : State) (f : Fh → Fh) : (s.hm f).resp = s.resp := (rfl)
@[simp] theorem State.hm_freeCtr (s : State) (f : Fh → Fh) : (s.hm f).freeCtr = s.freeCtr := (rfl)
@[simp] theorem State.hm_resetReq (s : State) (f : Fh → Fh) : (s.hm f).resetReq = s.resetReq := (rfl)
@[simp] theorem State.hm_clep (s : State) (f : Fh → Fh) : (s.hm f).clep = s.clep := (rfl)
@[simp] theorem State.hm_sump (s : State) (f : Fh → Fh) : (s.hm f).sump = s.sump := (rfl)
@[simp] theorem State.hm_links (s : State) (f : Fh → Fh) : (s.hm f).links = s.links := (rfl)
@[simp] theorem State.hm_sw (s : State) (f : Fh → Fh) : (s.hm f).sw = s.sw := (rfl)
@[simp] theorem State.hm_power (s : State) (f : Fh → Fh) : (s.hm f).power = s.power := (rfl)
@[simp] theorem State.hm_pts (s : State) (f : Fh → Fh) : (s.hm f).pts = s.pts := (rfl)
@[simp] theorem State.hm_pins (s : State) (f : Fh → Fh) : (s.hm f).pins = s.pins := (rfl)
@[simp] theorem State.hm_jets (s : State) (f : Fh → Fh) : (s.hm f).jets = s.jets := (rfl)
@[simp] theorem State.hm_cst (s : State) (f : Fh → Fh) : (s.hm f).cst = s.cst := (rfl)
@[simp] theorem State.hm_can (s : State) (f : Fh → Fh) : (s.hm f).can = s.can := (rfl)
@[simp] theorem State.hm_sec (s : State) (f : Fh → Fh) : (s.hm f).sec = s.sec := (rfl)
@[simp] theorem State.hm_cyc (s : State) (f : Fh → Fh) : (s.hm f).cyc = s.cyc := (rfl)
@[simp] theorem State.hm_flow (s : State) (f : Fh → Fh) : (s.hm f).flow = s.flow := (rfl)
@[simp] theorem State.hm_brg (s : State) (f : Fh → Fh) : (s.hm f).brg = s.brg := (rfl)
@[simp] theorem State.hm_usb (s : State) (f : Fh → Fh) : (s.hm f).usb = s.usb := (rfl)
@[simp] theorem State.hm_feeds (s : State) (f : Fh → Fh) : (s.hm f).feeds = s.feeds := (rfl)
@[simp] theorem State.hm_boot (s : State) (f : Fh → Fh) : (s.hm f).boot = s.boot := (rfl)
@[simp] theorem State.hm_upd (s : State) (f : Fh → Fh) : (s.hm f).upd = s.upd := (rfl)

/-! ### State.fm -/

@[simp] theorem State.fm_pending (s : State) (f : Flows → Flows) : (s.fm f).pending = s.pending := (rfl)
@[simp] theorem State.fm_regs (s : State) (f : Flows → Flows) : (s.fm f).regs = s.regs := (rfl)
@[simp] theorem State.fm_latches (s : State) (f : Flows → Flows) : (s.fm f).latches = s.latches := (rfl)
@[simp] theorem State.fm_staging (s : State) (f : Flows → Flows) : (s.fm f).staging = s.staging := (rfl)
@[simp] theorem State.fm_held (s : State) (f : Flows → Flows) : (s.fm f).held = s.held := (rfl)
@[simp] theorem State.fm_resp (s : State) (f : Flows → Flows) : (s.fm f).resp = s.resp := (rfl)
@[simp] theorem State.fm_freeCtr (s : State) (f : Flows → Flows) : (s.fm f).freeCtr = s.freeCtr := (rfl)
@[simp] theorem State.fm_resetReq (s : State) (f : Flows → Flows) : (s.fm f).resetReq = s.resetReq := (rfl)
@[simp] theorem State.fm_clep (s : State) (f : Flows → Flows) : (s.fm f).clep = s.clep := (rfl)
@[simp] theorem State.fm_sump (s : State) (f : Flows → Flows) : (s.fm f).sump = s.sump := (rfl)
@[simp] theorem State.fm_links (s : State) (f : Flows → Flows) : (s.fm f).links = s.links := (rfl)
@[simp] theorem State.fm_sw (s : State) (f : Flows → Flows) : (s.fm f).sw = s.sw := (rfl)
@[simp] theorem State.fm_power (s : State) (f : Flows → Flows) : (s.fm f).power = s.power := (rfl)
@[simp] theorem State.fm_pts (s : State) (f : Flows → Flows) : (s.fm f).pts = s.pts := (rfl)
@[simp] theorem State.fm_pins (s : State) (f : Flows → Flows) : (s.fm f).pins = s.pins := (rfl)
@[simp] theorem State.fm_jets (s : State) (f : Flows → Flows) : (s.fm f).jets = s.jets := (rfl)
@[simp] theorem State.fm_cst (s : State) (f : Flows → Flows) : (s.fm f).cst = s.cst := (rfl)
@[simp] theorem State.fm_can (s : State) (f : Flows → Flows) : (s.fm f).can = s.can := (rfl)
@[simp] theorem State.fm_sec (s : State) (f : Flows → Flows) : (s.fm f).sec = s.sec := (rfl)
@[simp] theorem State.fm_fh (s : State) (f : Flows → Flows) : (s.fm f).fh = s.fh := (rfl)
@[simp] theorem State.fm_cyc (s : State) (f : Flows → Flows) : (s.fm f).cyc = s.cyc := (rfl)
@[simp] theorem State.fm_brg (s : State) (f : Flows → Flows) : (s.fm f).brg = s.brg := (rfl)
@[simp] theorem State.fm_usb (s : State) (f : Flows → Flows) : (s.fm f).usb = s.usb := (rfl)
@[simp] theorem State.fm_feeds (s : State) (f : Flows → Flows) : (s.fm f).feeds = s.feeds := (rfl)
@[simp] theorem State.fm_boot (s : State) (f : Flows → Flows) : (s.fm f).boot = s.boot := (rfl)
@[simp] theorem State.fm_upd (s : State) (f : Flows → Flows) : (s.fm f).upd = s.upd := (rfl)

/-! ### State.sm -/

@[simp] theorem State.sm_pending (s : State) (f : Sec → Sec) : (s.sm f).pending = s.pending := (rfl)
@[simp] theorem State.sm_regs (s : State) (f : Sec → Sec) : (s.sm f).regs = s.regs := (rfl)
@[simp] theorem State.sm_latches (s : State) (f : Sec → Sec) : (s.sm f).latches = s.latches := (rfl)
@[simp] theorem State.sm_staging (s : State) (f : Sec → Sec) : (s.sm f).staging = s.staging := (rfl)
@[simp] theorem State.sm_held (s : State) (f : Sec → Sec) : (s.sm f).held = s.held := (rfl)
@[simp] theorem State.sm_resp (s : State) (f : Sec → Sec) : (s.sm f).resp = s.resp := (rfl)
@[simp] theorem State.sm_freeCtr (s : State) (f : Sec → Sec) : (s.sm f).freeCtr = s.freeCtr := (rfl)
@[simp] theorem State.sm_resetReq (s : State) (f : Sec → Sec) : (s.sm f).resetReq = s.resetReq := (rfl)
@[simp] theorem State.sm_clep (s : State) (f : Sec → Sec) : (s.sm f).clep = s.clep := (rfl)
@[simp] theorem State.sm_sump (s : State) (f : Sec → Sec) : (s.sm f).sump = s.sump := (rfl)
@[simp] theorem State.sm_links (s : State) (f : Sec → Sec) : (s.sm f).links = s.links := (rfl)
@[simp] theorem State.sm_sw (s : State) (f : Sec → Sec) : (s.sm f).sw = s.sw := (rfl)
@[simp] theorem State.sm_power (s : State) (f : Sec → Sec) : (s.sm f).power = s.power := (rfl)
@[simp] theorem State.sm_pts (s : State) (f : Sec → Sec) : (s.sm f).pts = s.pts := (rfl)
@[simp] theorem State.sm_pins (s : State) (f : Sec → Sec) : (s.sm f).pins = s.pins := (rfl)
@[simp] theorem State.sm_jets (s : State) (f : Sec → Sec) : (s.sm f).jets = s.jets := (rfl)
@[simp] theorem State.sm_cst (s : State) (f : Sec → Sec) : (s.sm f).cst = s.cst := (rfl)
@[simp] theorem State.sm_can (s : State) (f : Sec → Sec) : (s.sm f).can = s.can := (rfl)
@[simp] theorem State.sm_fh (s : State) (f : Sec → Sec) : (s.sm f).fh = s.fh := (rfl)
@[simp] theorem State.sm_cyc (s : State) (f : Sec → Sec) : (s.sm f).cyc = s.cyc := (rfl)
@[simp] theorem State.sm_flow (s : State) (f : Sec → Sec) : (s.sm f).flow = s.flow := (rfl)
@[simp] theorem State.sm_brg (s : State) (f : Sec → Sec) : (s.sm f).brg = s.brg := (rfl)
@[simp] theorem State.sm_usb (s : State) (f : Sec → Sec) : (s.sm f).usb = s.usb := (rfl)
@[simp] theorem State.sm_feeds (s : State) (f : Sec → Sec) : (s.sm f).feeds = s.feeds := (rfl)
@[simp] theorem State.sm_boot (s : State) (f : Sec → Sec) : (s.sm f).boot = s.boot := (rfl)
@[simp] theorem State.sm_upd (s : State) (f : Sec → Sec) : (s.sm f).upd = s.upd := (rfl)

/-! ### State.bm -/

@[simp] theorem State.bm_pending (s : State) (f : Brg → Brg) : (s.bm f).pending = s.pending := (rfl)
@[simp] theorem State.bm_regs (s : State) (f : Brg → Brg) : (s.bm f).regs = s.regs := (rfl)
@[simp] theorem State.bm_latches (s : State) (f : Brg → Brg) : (s.bm f).latches = s.latches := (rfl)
@[simp] theorem State.bm_staging (s : State) (f : Brg → Brg) : (s.bm f).staging = s.staging := (rfl)
@[simp] theorem State.bm_held (s : State) (f : Brg → Brg) : (s.bm f).held = s.held := (rfl)
@[simp] theorem State.bm_resp (s : State) (f : Brg → Brg) : (s.bm f).resp = s.resp := (rfl)
@[simp] theorem State.bm_freeCtr (s : State) (f : Brg → Brg) : (s.bm f).freeCtr = s.freeCtr := (rfl)
@[simp] theorem State.bm_resetReq (s : State) (f : Brg → Brg) : (s.bm f).resetReq = s.resetReq := (rfl)
@[simp] theorem State.bm_clep (s : State) (f : Brg → Brg) : (s.bm f).clep = s.clep := (rfl)
@[simp] theorem State.bm_sump (s : State) (f : Brg → Brg) : (s.bm f).sump = s.sump := (rfl)
@[simp] theorem State.bm_links (s : State) (f : Brg → Brg) : (s.bm f).links = s.links := (rfl)
@[simp] theorem State.bm_sw (s : State) (f : Brg → Brg) : (s.bm f).sw = s.sw := (rfl)
@[simp] theorem State.bm_power (s : State) (f : Brg → Brg) : (s.bm f).power = s.power := (rfl)
@[simp] theorem State.bm_pts (s : State) (f : Brg → Brg) : (s.bm f).pts = s.pts := (rfl)
@[simp] theorem State.bm_pins (s : State) (f : Brg → Brg) : (s.bm f).pins = s.pins := (rfl)
@[simp] theorem State.bm_jets (s : State) (f : Brg → Brg) : (s.bm f).jets = s.jets := (rfl)
@[simp] theorem State.bm_cst (s : State) (f : Brg → Brg) : (s.bm f).cst = s.cst := (rfl)
@[simp] theorem State.bm_can (s : State) (f : Brg → Brg) : (s.bm f).can = s.can := (rfl)
@[simp] theorem State.bm_sec (s : State) (f : Brg → Brg) : (s.bm f).sec = s.sec := (rfl)
@[simp] theorem State.bm_fh (s : State) (f : Brg → Brg) : (s.bm f).fh = s.fh := (rfl)
@[simp] theorem State.bm_cyc (s : State) (f : Brg → Brg) : (s.bm f).cyc = s.cyc := (rfl)
@[simp] theorem State.bm_flow (s : State) (f : Brg → Brg) : (s.bm f).flow = s.flow := (rfl)
@[simp] theorem State.bm_usb (s : State) (f : Brg → Brg) : (s.bm f).usb = s.usb := (rfl)
@[simp] theorem State.bm_feeds (s : State) (f : Brg → Brg) : (s.bm f).feeds = s.feeds := (rfl)
@[simp] theorem State.bm_boot (s : State) (f : Brg → Brg) : (s.bm f).boot = s.boot := (rfl)
@[simp] theorem State.bm_upd (s : State) (f : Brg → Brg) : (s.bm f).upd = s.upd := (rfl)

/-! ### State.um -/

@[simp] theorem State.um_pending (s : State) (f : Usb → Usb) : (s.um f).pending = s.pending := (rfl)
@[simp] theorem State.um_regs (s : State) (f : Usb → Usb) : (s.um f).regs = s.regs := (rfl)
@[simp] theorem State.um_latches (s : State) (f : Usb → Usb) : (s.um f).latches = s.latches := (rfl)
@[simp] theorem State.um_staging (s : State) (f : Usb → Usb) : (s.um f).staging = s.staging := (rfl)
@[simp] theorem State.um_held (s : State) (f : Usb → Usb) : (s.um f).held = s.held := (rfl)
@[simp] theorem State.um_resp (s : State) (f : Usb → Usb) : (s.um f).resp = s.resp := (rfl)
@[simp] theorem State.um_freeCtr (s : State) (f : Usb → Usb) : (s.um f).freeCtr = s.freeCtr := (rfl)
@[simp] theorem State.um_resetReq (s : State) (f : Usb → Usb) : (s.um f).resetReq = s.resetReq := (rfl)
@[simp] theorem State.um_clep (s : State) (f : Usb → Usb) : (s.um f).clep = s.clep := (rfl)
@[simp] theorem State.um_sump (s : State) (f : Usb → Usb) : (s.um f).sump = s.sump := (rfl)
@[simp] theorem State.um_links (s : State) (f : Usb → Usb) : (s.um f).links = s.links := (rfl)
@[simp] theorem State.um_sw (s : State) (f : Usb → Usb) : (s.um f).sw = s.sw := (rfl)
@[simp] theorem State.um_power (s : State) (f : Usb → Usb) : (s.um f).power = s.power := (rfl)
@[simp] theorem State.um_pts (s : State) (f : Usb → Usb) : (s.um f).pts = s.pts := (rfl)
@[simp] theorem State.um_pins (s : State) (f : Usb → Usb) : (s.um f).pins = s.pins := (rfl)
@[simp] theorem State.um_jets (s : State) (f : Usb → Usb) : (s.um f).jets = s.jets := (rfl)
@[simp] theorem State.um_cst (s : State) (f : Usb → Usb) : (s.um f).cst = s.cst := (rfl)
@[simp] theorem State.um_can (s : State) (f : Usb → Usb) : (s.um f).can = s.can := (rfl)
@[simp] theorem State.um_sec (s : State) (f : Usb → Usb) : (s.um f).sec = s.sec := (rfl)
@[simp] theorem State.um_fh (s : State) (f : Usb → Usb) : (s.um f).fh = s.fh := (rfl)
@[simp] theorem State.um_cyc (s : State) (f : Usb → Usb) : (s.um f).cyc = s.cyc := (rfl)
@[simp] theorem State.um_flow (s : State) (f : Usb → Usb) : (s.um f).flow = s.flow := (rfl)
@[simp] theorem State.um_brg (s : State) (f : Usb → Usb) : (s.um f).brg = s.brg := (rfl)
@[simp] theorem State.um_feeds (s : State) (f : Usb → Usb) : (s.um f).feeds = s.feeds := (rfl)
@[simp] theorem State.um_boot (s : State) (f : Usb → Usb) : (s.um f).boot = s.boot := (rfl)
@[simp] theorem State.um_upd (s : State) (f : Usb → Usb) : (s.um f).upd = s.upd := (rfl)

/-! ### State.setCan -/

@[simp] theorem State.setCan_pending (s : State) (n : Nat) (c : Can) : (s.setCan n c).pending = s.pending := (rfl)
@[simp] theorem State.setCan_regs (s : State) (n : Nat) (c : Can) : (s.setCan n c).regs = s.regs := (rfl)
@[simp] theorem State.setCan_latches (s : State) (n : Nat) (c : Can) : (s.setCan n c).latches = s.latches := (rfl)
@[simp] theorem State.setCan_staging (s : State) (n : Nat) (c : Can) : (s.setCan n c).staging = s.staging := (rfl)
@[simp] theorem State.setCan_held (s : State) (n : Nat) (c : Can) : (s.setCan n c).held = s.held := (rfl)
@[simp] theorem State.setCan_resp (s : State) (n : Nat) (c : Can) : (s.setCan n c).resp = s.resp := (rfl)
@[simp] theorem State.setCan_freeCtr (s : State) (n : Nat) (c : Can) : (s.setCan n c).freeCtr = s.freeCtr := (rfl)
@[simp] theorem State.setCan_resetReq (s : State) (n : Nat) (c : Can) : (s.setCan n c).resetReq = s.resetReq := (rfl)
@[simp] theorem State.setCan_clep (s : State) (n : Nat) (c : Can) : (s.setCan n c).clep = s.clep := (rfl)
@[simp] theorem State.setCan_sump (s : State) (n : Nat) (c : Can) : (s.setCan n c).sump = s.sump := (rfl)
@[simp] theorem State.setCan_links (s : State) (n : Nat) (c : Can) : (s.setCan n c).links = s.links := (rfl)
@[simp] theorem State.setCan_sw (s : State) (n : Nat) (c : Can) : (s.setCan n c).sw = s.sw := (rfl)
@[simp] theorem State.setCan_power (s : State) (n : Nat) (c : Can) : (s.setCan n c).power = s.power := (rfl)
@[simp] theorem State.setCan_pts (s : State) (n : Nat) (c : Can) : (s.setCan n c).pts = s.pts := (rfl)
@[simp] theorem State.setCan_pins (s : State) (n : Nat) (c : Can) : (s.setCan n c).pins = s.pins := (rfl)
@[simp] theorem State.setCan_jets (s : State) (n : Nat) (c : Can) : (s.setCan n c).jets = s.jets := (rfl)
@[simp] theorem State.setCan_cst (s : State) (n : Nat) (c : Can) : (s.setCan n c).cst = s.cst := (rfl)
@[simp] theorem State.setCan_sec (s : State) (n : Nat) (c : Can) : (s.setCan n c).sec = s.sec := (rfl)
@[simp] theorem State.setCan_fh (s : State) (n : Nat) (c : Can) : (s.setCan n c).fh = s.fh := (rfl)
@[simp] theorem State.setCan_cyc (s : State) (n : Nat) (c : Can) : (s.setCan n c).cyc = s.cyc := (rfl)
@[simp] theorem State.setCan_flow (s : State) (n : Nat) (c : Can) : (s.setCan n c).flow = s.flow := (rfl)
@[simp] theorem State.setCan_brg (s : State) (n : Nat) (c : Can) : (s.setCan n c).brg = s.brg := (rfl)
@[simp] theorem State.setCan_usb (s : State) (n : Nat) (c : Can) : (s.setCan n c).usb = s.usb := (rfl)
@[simp] theorem State.setCan_feeds (s : State) (n : Nat) (c : Can) : (s.setCan n c).feeds = s.feeds := (rfl)
@[simp] theorem State.setCan_boot (s : State) (n : Nat) (c : Can) : (s.setCan n c).boot = s.boot := (rfl)
@[simp] theorem State.setCan_upd (s : State) (n : Nat) (c : Can) : (s.setCan n c).upd = s.upd := (rfl)

/-! ### State.setCist -/

@[simp] theorem State.setCist_pending (s : State) (n : Nat) (c : Cistern) : (s.setCist n c).pending = s.pending := (rfl)
@[simp] theorem State.setCist_regs (s : State) (n : Nat) (c : Cistern) : (s.setCist n c).regs = s.regs := (rfl)
@[simp] theorem State.setCist_latches (s : State) (n : Nat) (c : Cistern) : (s.setCist n c).latches = s.latches := (rfl)
@[simp] theorem State.setCist_staging (s : State) (n : Nat) (c : Cistern) : (s.setCist n c).staging = s.staging := (rfl)
@[simp] theorem State.setCist_held (s : State) (n : Nat) (c : Cistern) : (s.setCist n c).held = s.held := (rfl)
@[simp] theorem State.setCist_resp (s : State) (n : Nat) (c : Cistern) : (s.setCist n c).resp = s.resp := (rfl)
@[simp] theorem State.setCist_freeCtr (s : State) (n : Nat) (c : Cistern) : (s.setCist n c).freeCtr = s.freeCtr := (rfl)
@[simp] theorem State.setCist_resetReq (s : State) (n : Nat) (c : Cistern) : (s.setCist n c).resetReq = s.resetReq := (rfl)
@[simp] theorem State.setCist_clep (s : State) (n : Nat) (c : Cistern) : (s.setCist n c).clep = s.clep := (rfl)
@[simp] theorem State.setCist_sump (s : State) (n : Nat) (c : Cistern) : (s.setCist n c).sump = s.sump := (rfl)
@[simp] theorem State.setCist_links (s : State) (n : Nat) (c : Cistern) : (s.setCist n c).links = s.links := (rfl)
@[simp] theorem State.setCist_sw (s : State) (n : Nat) (c : Cistern) : (s.setCist n c).sw = s.sw := (rfl)
@[simp] theorem State.setCist_power (s : State) (n : Nat) (c : Cistern) : (s.setCist n c).power = s.power := (rfl)
@[simp] theorem State.setCist_pts (s : State) (n : Nat) (c : Cistern) : (s.setCist n c).pts = s.pts := (rfl)
@[simp] theorem State.setCist_pins (s : State) (n : Nat) (c : Cistern) : (s.setCist n c).pins = s.pins := (rfl)
@[simp] theorem State.setCist_jets (s : State) (n : Nat) (c : Cistern) : (s.setCist n c).jets = s.jets := (rfl)
@[simp] theorem State.setCist_can (s : State) (n : Nat) (c : Cistern) : (s.setCist n c).can = s.can := (rfl)
@[simp] theorem State.setCist_sec (s : State) (n : Nat) (c : Cistern) : (s.setCist n c).sec = s.sec := (rfl)
@[simp] theorem State.setCist_fh (s : State) (n : Nat) (c : Cistern) : (s.setCist n c).fh = s.fh := (rfl)
@[simp] theorem State.setCist_cyc (s : State) (n : Nat) (c : Cistern) : (s.setCist n c).cyc = s.cyc := (rfl)
@[simp] theorem State.setCist_flow (s : State) (n : Nat) (c : Cistern) : (s.setCist n c).flow = s.flow := (rfl)
@[simp] theorem State.setCist_brg (s : State) (n : Nat) (c : Cistern) : (s.setCist n c).brg = s.brg := (rfl)
@[simp] theorem State.setCist_usb (s : State) (n : Nat) (c : Cistern) : (s.setCist n c).usb = s.usb := (rfl)
@[simp] theorem State.setCist_feeds (s : State) (n : Nat) (c : Cistern) : (s.setCist n c).feeds = s.feeds := (rfl)
@[simp] theorem State.setCist_boot (s : State) (n : Nat) (c : Cistern) : (s.setCist n c).boot = s.boot := (rfl)
@[simp] theorem State.setCist_upd (s : State) (n : Nat) (c : Cistern) : (s.setCist n c).upd = s.upd := (rfl)

/-! ### State.setFeed -/

@[simp] theorem State.setFeed_pending (s : State) (n : Nat) (c : FeedCh) : (s.setFeed n c).pending = s.pending := (rfl)
@[simp] theorem State.setFeed_regs (s : State) (n : Nat) (c : FeedCh) : (s.setFeed n c).regs = s.regs := (rfl)
@[simp] theorem State.setFeed_latches (s : State) (n : Nat) (c : FeedCh) : (s.setFeed n c).latches = s.latches := (rfl)
@[simp] theorem State.setFeed_staging (s : State) (n : Nat) (c : FeedCh) : (s.setFeed n c).staging = s.staging := (rfl)
@[simp] theorem State.setFeed_held (s : State) (n : Nat) (c : FeedCh) : (s.setFeed n c).held = s.held := (rfl)
@[simp] theorem State.setFeed_resp (s : State) (n : Nat) (c : FeedCh) : (s.setFeed n c).resp = s.resp := (rfl)
@[simp] theorem State.setFeed_freeCtr (s : State) (n : Nat) (c : FeedCh) : (s.setFeed n c).freeCtr = s.freeCtr := (rfl)
@[simp] theorem State.setFeed_resetReq (s : State) (n : Nat) (c : FeedCh) : (s.setFeed n c).resetReq = s.resetReq := (rfl)
@[simp] theorem State.setFeed_clep (s : State) (n : Nat) (c : FeedCh) : (s.setFeed n c).clep = s.clep := (rfl)
@[simp] theorem State.setFeed_sump (s : State) (n : Nat) (c : FeedCh) : (s.setFeed n c).sump = s.sump := (rfl)
@[simp] theorem State.setFeed_links (s : State) (n : Nat) (c : FeedCh) : (s.setFeed n c).links = s.links := (rfl)
@[simp] theorem State.setFeed_sw (s : State) (n : Nat) (c : FeedCh) : (s.setFeed n c).sw = s.sw := (rfl)
@[simp] theorem State.setFeed_power (s : State) (n : Nat) (c : FeedCh) : (s.setFeed n c).power = s.power := (rfl)
@[simp] theorem State.setFeed_pts (s : State) (n : Nat) (c : FeedCh) : (s.setFeed n c).pts = s.pts := (rfl)
@[simp] theorem State.setFeed_pins (s : State) (n : Nat) (c : FeedCh) : (s.setFeed n c).pins = s.pins := (rfl)
@[simp] theorem State.setFeed_jets (s : State) (n : Nat) (c : FeedCh) : (s.setFeed n c).jets = s.jets := (rfl)
@[simp] theorem State.setFeed_cst (s : State) (n : Nat) (c : FeedCh) : (s.setFeed n c).cst = s.cst := (rfl)
@[simp] theorem State.setFeed_can (s : State) (n : Nat) (c : FeedCh) : (s.setFeed n c).can = s.can := (rfl)
@[simp] theorem State.setFeed_sec (s : State) (n : Nat) (c : FeedCh) : (s.setFeed n c).sec = s.sec := (rfl)
@[simp] theorem State.setFeed_fh (s : State) (n : Nat) (c : FeedCh) : (s.setFeed n c).fh = s.fh := (rfl)
@[simp] theorem State.setFeed_cyc (s : State) (n : Nat) (c : FeedCh) : (s.setFeed n c).cyc = s.cyc := (rfl)
@[simp] theorem State.setFeed_flow (s : State) (n : Nat) (c : FeedCh) : (s.setFeed n c).flow = s.flow := (rfl)
@[simp] theorem State.setFeed_brg (s : State) (n : Nat) (c : FeedCh) : (s.setFeed n c).brg = s.brg := (rfl)
@[simp] theorem State.setFeed_usb (s : State) (n : Nat) (c : FeedCh) : (s.setFeed n c).usb = s.usb := (rfl)
@[simp] theorem State.setFeed_boot (s : State) (n : Nat) (c : FeedCh) : (s.setFeed n c).boot = s.boot := (rfl)
@[simp] theorem State.setFeed_upd (s : State) (n : Nat) (c : FeedCh) : (s.setFeed n c).upd = s.upd := (rfl)

/-! ### State.setEthp -/

@[simp] theorem State.setEthp_pending (s : State) (n : Nat) (v : EthPort) : (s.setEthp n v).pending = s.pending := (rfl)
@[simp] theorem State.setEthp_regs (s : State) (n : Nat) (v : EthPort) : (s.setEthp n v).regs = s.regs := (rfl)
@[simp] theorem State.setEthp_latches (s : State) (n : Nat) (v : EthPort) : (s.setEthp n v).latches = s.latches := (rfl)
@[simp] theorem State.setEthp_staging (s : State) (n : Nat) (v : EthPort) : (s.setEthp n v).staging = s.staging := (rfl)
@[simp] theorem State.setEthp_held (s : State) (n : Nat) (v : EthPort) : (s.setEthp n v).held = s.held := (rfl)
@[simp] theorem State.setEthp_resp (s : State) (n : Nat) (v : EthPort) : (s.setEthp n v).resp = s.resp := (rfl)
@[simp] theorem State.setEthp_freeCtr (s : State) (n : Nat) (v : EthPort) : (s.setEthp n v).freeCtr = s.freeCtr := (rfl)
@[simp] theorem State.setEthp_resetReq (s : State) (n : Nat) (v : EthPort) : (s.setEthp n v).resetReq = s.resetReq := (rfl)
@[simp] theorem State.setEthp_clep (s : State) (n : Nat) (v : EthPort) : (s.setEthp n v).clep = s.clep := (rfl)
@[simp] theorem State.setEthp_sump (s : State) (n : Nat) (v : EthPort) : (s.setEthp n v).sump = s.sump := (rfl)
@[simp] theorem State.setEthp_links (s : State) (n : Nat) (v : EthPort) : (s.setEthp n v).links = s.links := (rfl)
@[simp] theorem State.setEthp_power (s : State) (n : Nat) (v : EthPort) : (s.setEthp n v).power = s.power := (rfl)
@[simp] theorem State.setEthp_pts (s : State) (n : Nat) (v : EthPort) : (s.setEthp n v).pts = s.pts := (rfl)
@[simp] theorem State.setEthp_pins (s : State) (n : Nat) (v : EthPort) : (s.setEthp n v).pins = s.pins := (rfl)
@[simp] theorem State.setEthp_jets (s : State) (n : Nat) (v : EthPort) : (s.setEthp n v).jets = s.jets := (rfl)
@[simp] theorem State.setEthp_cst (s : State) (n : Nat) (v : EthPort) : (s.setEthp n v).cst = s.cst := (rfl)
@[simp] theorem State.setEthp_can (s : State) (n : Nat) (v : EthPort) : (s.setEthp n v).can = s.can := (rfl)
@[simp] theorem State.setEthp_sec (s : State) (n : Nat) (v : EthPort) : (s.setEthp n v).sec = s.sec := (rfl)
@[simp] theorem State.setEthp_fh (s : State) (n : Nat) (v : EthPort) : (s.setEthp n v).fh = s.fh := (rfl)
@[simp] theorem State.setEthp_cyc (s : State) (n : Nat) (v : EthPort) : (s.setEthp n v).cyc = s.cyc := (rfl)
@[simp] theorem State.setEthp_flow (s : State) (n : Nat) (v : EthPort) : (s.setEthp n v).flow = s.flow := (rfl)
@[simp] theorem State.setEthp_brg (s : State) (n : Nat) (v : EthPort) : (s.setEthp n v).brg = s.brg := (rfl)
@[simp] theorem State.setEthp_usb (s : State) (n : Nat) (v : EthPort) : (s.setEthp n v).usb = s.usb := (rfl)
@[simp] theorem State.setEthp_feeds (s : State) (n : Nat) (v : EthPort) : (s.setEthp n v).feeds = s.feeds := (rfl)
@[simp] theorem State.setEthp_boot (s : State) (n : Nat) (v : EthPort) : (s.setEthp n v).boot = s.boot := (rfl)
@[simp] theorem State.setEthp_upd (s : State) (n : Nat) (v : EthPort) : (s.setEthp n v).upd = s.upd := (rfl)

/-! ### State.setPtpQ -/

@[simp] theorem State.setPtpQ_pending (s : State) (n : Nat) (q : List PtpStamp) : (s.setPtpQ n q).pending = s.pending := (rfl)
@[simp] theorem State.setPtpQ_regs (s : State) (n : Nat) (q : List PtpStamp) : (s.setPtpQ n q).regs = s.regs := (rfl)
@[simp] theorem State.setPtpQ_latches (s : State) (n : Nat) (q : List PtpStamp) : (s.setPtpQ n q).latches = s.latches := (rfl)
@[simp] theorem State.setPtpQ_staging (s : State) (n : Nat) (q : List PtpStamp) : (s.setPtpQ n q).staging = s.staging := (rfl)
@[simp] theorem State.setPtpQ_held (s : State) (n : Nat) (q : List PtpStamp) : (s.setPtpQ n q).held = s.held := (rfl)
@[simp] theorem State.setPtpQ_resp (s : State) (n : Nat) (q : List PtpStamp) : (s.setPtpQ n q).resp = s.resp := (rfl)
@[simp] theorem State.setPtpQ_freeCtr (s : State) (n : Nat) (q : List PtpStamp) : (s.setPtpQ n q).freeCtr = s.freeCtr := (rfl)
@[simp] theorem State.setPtpQ_resetReq (s : State) (n : Nat) (q : List PtpStamp) : (s.setPtpQ n q).resetReq = s.resetReq := (rfl)
@[simp] theorem State.setPtpQ_sump (s : State) (n : Nat) (q : List PtpStamp) : (s.setPtpQ n q).sump = s.sump := (rfl)
@[simp] theorem State.setPtpQ_links (s : State) (n : Nat) (q : List PtpStamp) : (s.setPtpQ n q).links = s.links := (rfl)
@[simp] theorem State.setPtpQ_sw (s : State) (n : Nat) (q : List PtpStamp) : (s.setPtpQ n q).sw = s.sw := (rfl)
@[simp] theorem State.setPtpQ_power (s : State) (n : Nat) (q : List PtpStamp) : (s.setPtpQ n q).power = s.power := (rfl)
@[simp] theorem State.setPtpQ_pts (s : State) (n : Nat) (q : List PtpStamp) : (s.setPtpQ n q).pts = s.pts := (rfl)
@[simp] theorem State.setPtpQ_pins (s : State) (n : Nat) (q : List PtpStamp) : (s.setPtpQ n q).pins = s.pins := (rfl)
@[simp] theorem State.setPtpQ_jets (s : State) (n : Nat) (q : List PtpStamp) : (s.setPtpQ n q).jets = s.jets := (rfl)
@[simp] theorem State.setPtpQ_cst (s : State) (n : Nat) (q : List PtpStamp) : (s.setPtpQ n q).cst = s.cst := (rfl)
@[simp] theorem State.setPtpQ_can (s : State) (n : Nat) (q : List PtpStamp) : (s.setPtpQ n q).can = s.can := (rfl)
@[simp] theorem State.setPtpQ_sec (s : State) (n : Nat) (q : List PtpStamp) : (s.setPtpQ n q).sec = s.sec := (rfl)
@[simp] theorem State.setPtpQ_fh (s : State) (n : Nat) (q : List PtpStamp) : (s.setPtpQ n q).fh = s.fh := (rfl)
@[simp] theorem State.setPtpQ_cyc (s : State) (n : Nat) (q : List PtpStamp) : (s.setPtpQ n q).cyc = s.cyc := (rfl)
@[simp] theorem State.setPtpQ_flow (s : State) (n : Nat) (q : List PtpStamp) : (s.setPtpQ n q).flow = s.flow := (rfl)
@[simp] theorem State.setPtpQ_brg (s : State) (n : Nat) (q : List PtpStamp) : (s.setPtpQ n q).brg = s.brg := (rfl)
@[simp] theorem State.setPtpQ_usb (s : State) (n : Nat) (q : List PtpStamp) : (s.setPtpQ n q).usb = s.usb := (rfl)
@[simp] theorem State.setPtpQ_feeds (s : State) (n : Nat) (q : List PtpStamp) : (s.setPtpQ n q).feeds = s.feeds := (rfl)
@[simp] theorem State.setPtpQ_boot (s : State) (n : Nat) (q : List PtpStamp) : (s.setPtpQ n q).boot = s.boot := (rfl)
@[simp] theorem State.setPtpQ_upd (s : State) (n : Nat) (q : List PtpStamp) : (s.setPtpQ n q).upd = s.upd := (rfl)

/-! ### State.setEdgeQ -/

@[simp] theorem State.setEdgeQ_pending (s : State) (b : Nat) (q : List EdgeEnt) : (s.setEdgeQ b q).pending = s.pending := (rfl)
@[simp] theorem State.setEdgeQ_regs (s : State) (b : Nat) (q : List EdgeEnt) : (s.setEdgeQ b q).regs = s.regs := (rfl)
@[simp] theorem State.setEdgeQ_latches (s : State) (b : Nat) (q : List EdgeEnt) : (s.setEdgeQ b q).latches = s.latches := (rfl)
@[simp] theorem State.setEdgeQ_staging (s : State) (b : Nat) (q : List EdgeEnt) : (s.setEdgeQ b q).staging = s.staging := (rfl)
@[simp] theorem State.setEdgeQ_held (s : State) (b : Nat) (q : List EdgeEnt) : (s.setEdgeQ b q).held = s.held := (rfl)
@[simp] theorem State.setEdgeQ_resp (s : State) (b : Nat) (q : List EdgeEnt) : (s.setEdgeQ b q).resp = s.resp := (rfl)
@[simp] theorem State.setEdgeQ_freeCtr (s : State) (b : Nat) (q : List EdgeEnt) : (s.setEdgeQ b q).freeCtr = s.freeCtr := (rfl)
@[simp] theorem State.setEdgeQ_resetReq (s : State) (b : Nat) (q : List EdgeEnt) : (s.setEdgeQ b q).resetReq = s.resetReq := (rfl)
@[simp] theorem State.setEdgeQ_sump (s : State) (b : Nat) (q : List EdgeEnt) : (s.setEdgeQ b q).sump = s.sump := (rfl)
@[simp] theorem State.setEdgeQ_links (s : State) (b : Nat) (q : List EdgeEnt) : (s.setEdgeQ b q).links = s.links := (rfl)
@[simp] theorem State.setEdgeQ_sw (s : State) (b : Nat) (q : List EdgeEnt) : (s.setEdgeQ b q).sw = s.sw := (rfl)
@[simp] theorem State.setEdgeQ_power (s : State) (b : Nat) (q : List EdgeEnt) : (s.setEdgeQ b q).power = s.power := (rfl)
@[simp] theorem State.setEdgeQ_pts (s : State) (b : Nat) (q : List EdgeEnt) : (s.setEdgeQ b q).pts = s.pts := (rfl)
@[simp] theorem State.setEdgeQ_pins (s : State) (b : Nat) (q : List EdgeEnt) : (s.setEdgeQ b q).pins = s.pins := (rfl)
@[simp] theorem State.setEdgeQ_jets (s : State) (b : Nat) (q : List EdgeEnt) : (s.setEdgeQ b q).jets = s.jets := (rfl)
@[simp] theorem State.setEdgeQ_cst (s : State) (b : Nat) (q : List EdgeEnt) : (s.setEdgeQ b q).cst = s.cst := (rfl)
@[simp] theorem State.setEdgeQ_can (s : State) (b : Nat) (q : List EdgeEnt) : (s.setEdgeQ b q).can = s.can := (rfl)
@[simp] theorem State.setEdgeQ_sec (s : State) (b : Nat) (q : List EdgeEnt) : (s.setEdgeQ b q).sec = s.sec := (rfl)
@[simp] theorem State.setEdgeQ_fh (s : State) (b : Nat) (q : List EdgeEnt) : (s.setEdgeQ b q).fh = s.fh := (rfl)
@[simp] theorem State.setEdgeQ_cyc (s : State) (b : Nat) (q : List EdgeEnt) : (s.setEdgeQ b q).cyc = s.cyc := (rfl)
@[simp] theorem State.setEdgeQ_flow (s : State) (b : Nat) (q : List EdgeEnt) : (s.setEdgeQ b q).flow = s.flow := (rfl)
@[simp] theorem State.setEdgeQ_brg (s : State) (b : Nat) (q : List EdgeEnt) : (s.setEdgeQ b q).brg = s.brg := (rfl)
@[simp] theorem State.setEdgeQ_usb (s : State) (b : Nat) (q : List EdgeEnt) : (s.setEdgeQ b q).usb = s.usb := (rfl)
@[simp] theorem State.setEdgeQ_feeds (s : State) (b : Nat) (q : List EdgeEnt) : (s.setEdgeQ b q).feeds = s.feeds := (rfl)
@[simp] theorem State.setEdgeQ_boot (s : State) (b : Nat) (q : List EdgeEnt) : (s.setEdgeQ b q).boot = s.boot := (rfl)
@[simp] theorem State.setEdgeQ_upd (s : State) (b : Nat) (q : List EdgeEnt) : (s.setEdgeQ b q).upd = s.upd := (rfl)

/-! ### State.setSlot -/

@[simp] theorem State.setSlot_pending (s : State) (k : Nat) (img : List Byte) : (s.setSlot k img).pending = s.pending := (rfl)
@[simp] theorem State.setSlot_regs (s : State) (k : Nat) (img : List Byte) : (s.setSlot k img).regs = s.regs := (rfl)
@[simp] theorem State.setSlot_latches (s : State) (k : Nat) (img : List Byte) : (s.setSlot k img).latches = s.latches := (rfl)
@[simp] theorem State.setSlot_staging (s : State) (k : Nat) (img : List Byte) : (s.setSlot k img).staging = s.staging := (rfl)
@[simp] theorem State.setSlot_held (s : State) (k : Nat) (img : List Byte) : (s.setSlot k img).held = s.held := (rfl)
@[simp] theorem State.setSlot_resp (s : State) (k : Nat) (img : List Byte) : (s.setSlot k img).resp = s.resp := (rfl)
@[simp] theorem State.setSlot_freeCtr (s : State) (k : Nat) (img : List Byte) : (s.setSlot k img).freeCtr = s.freeCtr := (rfl)
@[simp] theorem State.setSlot_resetReq (s : State) (k : Nat) (img : List Byte) : (s.setSlot k img).resetReq = s.resetReq := (rfl)
@[simp] theorem State.setSlot_clep (s : State) (k : Nat) (img : List Byte) : (s.setSlot k img).clep = s.clep := (rfl)
@[simp] theorem State.setSlot_sump (s : State) (k : Nat) (img : List Byte) : (s.setSlot k img).sump = s.sump := (rfl)
@[simp] theorem State.setSlot_links (s : State) (k : Nat) (img : List Byte) : (s.setSlot k img).links = s.links := (rfl)
@[simp] theorem State.setSlot_sw (s : State) (k : Nat) (img : List Byte) : (s.setSlot k img).sw = s.sw := (rfl)
@[simp] theorem State.setSlot_power (s : State) (k : Nat) (img : List Byte) : (s.setSlot k img).power = s.power := (rfl)
@[simp] theorem State.setSlot_pts (s : State) (k : Nat) (img : List Byte) : (s.setSlot k img).pts = s.pts := (rfl)
@[simp] theorem State.setSlot_pins (s : State) (k : Nat) (img : List Byte) : (s.setSlot k img).pins = s.pins := (rfl)
@[simp] theorem State.setSlot_jets (s : State) (k : Nat) (img : List Byte) : (s.setSlot k img).jets = s.jets := (rfl)
@[simp] theorem State.setSlot_cst (s : State) (k : Nat) (img : List Byte) : (s.setSlot k img).cst = s.cst := (rfl)
@[simp] theorem State.setSlot_can (s : State) (k : Nat) (img : List Byte) : (s.setSlot k img).can = s.can := (rfl)
@[simp] theorem State.setSlot_sec (s : State) (k : Nat) (img : List Byte) : (s.setSlot k img).sec = s.sec := (rfl)
@[simp] theorem State.setSlot_fh (s : State) (k : Nat) (img : List Byte) : (s.setSlot k img).fh = s.fh := (rfl)
@[simp] theorem State.setSlot_cyc (s : State) (k : Nat) (img : List Byte) : (s.setSlot k img).cyc = s.cyc := (rfl)
@[simp] theorem State.setSlot_flow (s : State) (k : Nat) (img : List Byte) : (s.setSlot k img).flow = s.flow := (rfl)
@[simp] theorem State.setSlot_brg (s : State) (k : Nat) (img : List Byte) : (s.setSlot k img).brg = s.brg := (rfl)
@[simp] theorem State.setSlot_usb (s : State) (k : Nat) (img : List Byte) : (s.setSlot k img).usb = s.usb := (rfl)
@[simp] theorem State.setSlot_feeds (s : State) (k : Nat) (img : List Byte) : (s.setSlot k img).feeds = s.feeds := (rfl)
@[simp] theorem State.setSlot_upd (s : State) (k : Nat) (img : List Byte) : (s.setSlot k img).upd = s.upd := (rfl)
@[simp] theorem State.answer_rd (s : State) (m : Master) (st : Nat) (d : List Byte) (k' : Nat) : (s.answer m st d).rd k' = s.rd k' := (rfl)
@[simp] theorem State.answer_g (s : State) (m : Master) (st : Nat) (d : List Byte) (g : FRef) : (s.answer m st d).g g = s.g g := (rfl)
@[simp] theorem State.answer_flag (s : State) (m : Master) (st : Nat) (d : List Byte) (g : FRef) : (s.answer m st d).flag g = s.flag g := (rfl)
@[simp] theorem State.setJet_rd (s : State) (j : Nat) (v : Jet) (k' : Nat) : (s.setJet j v).rd k' = s.rd k' := (rfl)
@[simp] theorem State.setJet_g (s : State) (j : Nat) (v : Jet) (g : FRef) : (s.setJet j v).g g = s.g g := (rfl)
@[simp] theorem State.setJet_flag (s : State) (j : Nat) (v : Jet) (g : FRef) : (s.setJet j v).flag g = s.flag g := (rfl)
@[simp] theorem State.setPort_rd (s : State) (p : Nat) (v : Port) (k' : Nat) : (s.setPort p v).rd k' = s.rd k' := (rfl)
@[simp] theorem State.setPort_g (s : State) (p : Nat) (v : Port) (g : FRef) : (s.setPort p v).g g = s.g g := (rfl)
@[simp] theorem State.setPort_flag (s : State) (p : Nat) (v : Port) (g : FRef) : (s.setPort p v).flag g = s.flag g := (rfl)
@[simp] theorem State.cy_cyc (s : State) (f : Cycle → Cycle) : (s.cy f).cyc = f s.cyc := (rfl)
@[simp] theorem State.cy_rd (s : State) (f : Cycle → Cycle) (k' : Nat) : (s.cy f).rd k' = s.rd k' := (rfl)
@[simp] theorem State.cy_g (s : State) (f : Cycle → Cycle) (g : FRef) : (s.cy f).g g = s.g g := (rfl)
@[simp] theorem State.cy_flag (s : State) (f : Cycle → Cycle) (g : FRef) : (s.cy f).flag g = s.flag g := (rfl)
@[simp] theorem State.upm_upd (s : State) (f : Upd → Upd) : (s.upm f).upd = f s.upd := (rfl)
@[simp] theorem State.upm_rd (s : State) (f : Upd → Upd) (k' : Nat) : (s.upm f).rd k' = s.rd k' := (rfl)
@[simp] theorem State.upm_g (s : State) (f : Upd → Upd) (g : FRef) : (s.upm f).g g = s.g g := (rfl)
@[simp] theorem State.upm_flag (s : State) (f : Upd → Upd) (g : FRef) : (s.upm f).flag g = s.flag g := (rfl)
@[simp] theorem State.hm_fh (s : State) (f : Fh → Fh) : (s.hm f).fh = f s.fh := (rfl)
@[simp] theorem State.hm_rd (s : State) (f : Fh → Fh) (k' : Nat) : (s.hm f).rd k' = s.rd k' := (rfl)
@[simp] theorem State.hm_g (s : State) (f : Fh → Fh) (g : FRef) : (s.hm f).g g = s.g g := (rfl)
@[simp] theorem State.hm_flag (s : State) (f : Fh → Fh) (g : FRef) : (s.hm f).flag g = s.flag g := (rfl)
@[simp] theorem State.fm_flow (s : State) (f : Flows → Flows) : (s.fm f).flow = f s.flow := (rfl)
@[simp] theorem State.fm_rd (s : State) (f : Flows → Flows) (k' : Nat) : (s.fm f).rd k' = s.rd k' := (rfl)
@[simp] theorem State.fm_g (s : State) (f : Flows → Flows) (g : FRef) : (s.fm f).g g = s.g g := (rfl)
@[simp] theorem State.fm_flag (s : State) (f : Flows → Flows) (g : FRef) : (s.fm f).flag g = s.flag g := (rfl)
@[simp] theorem State.sm_sec (s : State) (f : Sec → Sec) : (s.sm f).sec = f s.sec := (rfl)
@[simp] theorem State.sm_rd (s : State) (f : Sec → Sec) (k' : Nat) : (s.sm f).rd k' = s.rd k' := (rfl)
@[simp] theorem State.sm_g (s : State) (f : Sec → Sec) (g : FRef) : (s.sm f).g g = s.g g := (rfl)
@[simp] theorem State.sm_flag (s : State) (f : Sec → Sec) (g : FRef) : (s.sm f).flag g = s.flag g := (rfl)
@[simp] theorem State.bm_brg (s : State) (f : Brg → Brg) : (s.bm f).brg = f s.brg := (rfl)
@[simp] theorem State.bm_rd (s : State) (f : Brg → Brg) (k' : Nat) : (s.bm f).rd k' = s.rd k' := (rfl)
@[simp] theorem State.bm_g (s : State) (f : Brg → Brg) (g : FRef) : (s.bm f).g g = s.g g := (rfl)
@[simp] theorem State.bm_flag (s : State) (f : Brg → Brg) (g : FRef) : (s.bm f).flag g = s.flag g := (rfl)
@[simp] theorem State.um_usb (s : State) (f : Usb → Usb) : (s.um f).usb = f s.usb := (rfl)
@[simp] theorem State.um_rd (s : State) (f : Usb → Usb) (k' : Nat) : (s.um f).rd k' = s.rd k' := (rfl)
@[simp] theorem State.um_g (s : State) (f : Usb → Usb) (g : FRef) : (s.um f).g g = s.g g := (rfl)
@[simp] theorem State.um_flag (s : State) (f : Usb → Usb) (g : FRef) : (s.um f).flag g = s.flag g := (rfl)
@[simp] theorem State.setCan_rd (s : State) (n : Nat) (c : Can) (k' : Nat) : (s.setCan n c).rd k' = s.rd k' := (rfl)
@[simp] theorem State.setCan_g (s : State) (n : Nat) (c : Can) (g : FRef) : (s.setCan n c).g g = s.g g := (rfl)
@[simp] theorem State.setCan_flag (s : State) (n : Nat) (c : Can) (g : FRef) : (s.setCan n c).flag g = s.flag g := (rfl)
@[simp] theorem State.setCist_rd (s : State) (n : Nat) (c : Cistern) (k' : Nat) : (s.setCist n c).rd k' = s.rd k' := (rfl)
@[simp] theorem State.setCist_g (s : State) (n : Nat) (c : Cistern) (g : FRef) : (s.setCist n c).g g = s.g g := (rfl)
@[simp] theorem State.setCist_flag (s : State) (n : Nat) (c : Cistern) (g : FRef) : (s.setCist n c).flag g = s.flag g := (rfl)
@[simp] theorem State.setFeed_rd (s : State) (n : Nat) (c : FeedCh) (k' : Nat) : (s.setFeed n c).rd k' = s.rd k' := (rfl)
@[simp] theorem State.setFeed_g (s : State) (n : Nat) (c : FeedCh) (g : FRef) : (s.setFeed n c).g g = s.g g := (rfl)
@[simp] theorem State.setFeed_flag (s : State) (n : Nat) (c : FeedCh) (g : FRef) : (s.setFeed n c).flag g = s.flag g := (rfl)
@[simp] theorem State.setEthp_rd (s : State) (n : Nat) (v : EthPort) (k' : Nat) : (s.setEthp n v).rd k' = s.rd k' := (rfl)
@[simp] theorem State.setEthp_g (s : State) (n : Nat) (v : EthPort) (g : FRef) : (s.setEthp n v).g g = s.g g := (rfl)
@[simp] theorem State.setEthp_flag (s : State) (n : Nat) (v : EthPort) (g : FRef) : (s.setEthp n v).flag g = s.flag g := (rfl)
@[simp] theorem State.setPtpQ_rd (s : State) (n : Nat) (q : List PtpStamp) (k' : Nat) : (s.setPtpQ n q).rd k' = s.rd k' := (rfl)
@[simp] theorem State.setPtpQ_g (s : State) (n : Nat) (q : List PtpStamp) (g : FRef) : (s.setPtpQ n q).g g = s.g g := (rfl)
@[simp] theorem State.setPtpQ_flag (s : State) (n : Nat) (q : List PtpStamp) (g : FRef) : (s.setPtpQ n q).flag g = s.flag g := (rfl)
@[simp] theorem State.setEdgeQ_rd (s : State) (b : Nat) (q : List EdgeEnt) (k' : Nat) : (s.setEdgeQ b q).rd k' = s.rd k' := (rfl)
@[simp] theorem State.setEdgeQ_g (s : State) (b : Nat) (q : List EdgeEnt) (g : FRef) : (s.setEdgeQ b q).g g = s.g g := (rfl)
@[simp] theorem State.setEdgeQ_flag (s : State) (b : Nat) (q : List EdgeEnt) (g : FRef) : (s.setEdgeQ b q).flag g = s.flag g := (rfl)
@[simp] theorem State.setSlot_rd (s : State) (k : Nat) (img : List Byte) (k' : Nat) : (s.setSlot k img).rd k' = s.rd k' := (rfl)
@[simp] theorem State.setSlot_g (s : State) (k : Nat) (img : List Byte) (g : FRef) : (s.setSlot k img).g g = s.g g := (rfl)
@[simp] theorem State.setSlot_flag (s : State) (k : Nat) (img : List Byte) (g : FRef) : (s.setSlot k img).flag g = s.flag g := (rfl)

/-! ### State.setHdr -/

@[simp] theorem State.setHdr_pending (s : State) (t : Nat) (w : Word) : (s.setHdr t w).pending = s.pending := (rfl)
@[simp] theorem State.setHdr_latches (s : State) (t : Nat) (w : Word) : (s.setHdr t w).latches = s.latches := (rfl)
@[simp] theorem State.setHdr_staging (s : State) (t : Nat) (w : Word) : (s.setHdr t w).staging = s.staging := (rfl)
@[simp] theorem State.setHdr_held (s : State) (t : Nat) (w : Word) : (s.setHdr t w).held = s.held := (rfl)
@[simp] theorem State.setHdr_resp (s : State) (t : Nat) (w : Word) : (s.setHdr t w).resp = s.resp := (rfl)
@[simp] theorem State.setHdr_freeCtr (s : State) (t : Nat) (w : Word) : (s.setHdr t w).freeCtr = s.freeCtr := (rfl)
@[simp] theorem State.setHdr_resetReq (s : State) (t : Nat) (w : Word) : (s.setHdr t w).resetReq = s.resetReq := (rfl)
@[simp] theorem State.setHdr_clep (s : State) (t : Nat) (w : Word) : (s.setHdr t w).clep = s.clep := (rfl)
@[simp] theorem State.setHdr_sump (s : State) (t : Nat) (w : Word) : (s.setHdr t w).sump = s.sump := (rfl)
@[simp] theorem State.setHdr_links (s : State) (t : Nat) (w : Word) : (s.setHdr t w).links = s.links := (rfl)
@[simp] theorem State.setHdr_sw (s : State) (t : Nat) (w : Word) : (s.setHdr t w).sw = s.sw := (rfl)
@[simp] theorem State.setHdr_power (s : State) (t : Nat) (w : Word) : (s.setHdr t w).power = s.power := (rfl)
@[simp] theorem State.setHdr_pins (s : State) (t : Nat) (w : Word) : (s.setHdr t w).pins = s.pins := (rfl)
@[simp] theorem State.setHdr_jets (s : State) (t : Nat) (w : Word) : (s.setHdr t w).jets = s.jets := (rfl)
@[simp] theorem State.setHdr_cst (s : State) (t : Nat) (w : Word) : (s.setHdr t w).cst = s.cst := (rfl)
@[simp] theorem State.setHdr_can (s : State) (t : Nat) (w : Word) : (s.setHdr t w).can = s.can := (rfl)
@[simp] theorem State.setHdr_sec (s : State) (t : Nat) (w : Word) : (s.setHdr t w).sec = s.sec := (rfl)
@[simp] theorem State.setHdr_fh (s : State) (t : Nat) (w : Word) : (s.setHdr t w).fh = s.fh := (rfl)
@[simp] theorem State.setHdr_cyc (s : State) (t : Nat) (w : Word) : (s.setHdr t w).cyc = s.cyc := (rfl)
@[simp] theorem State.setHdr_flow (s : State) (t : Nat) (w : Word) : (s.setHdr t w).flow = s.flow := (rfl)
@[simp] theorem State.setHdr_brg (s : State) (t : Nat) (w : Word) : (s.setHdr t w).brg = s.brg := (rfl)
@[simp] theorem State.setHdr_usb (s : State) (t : Nat) (w : Word) : (s.setHdr t w).usb = s.usb := (rfl)
@[simp] theorem State.setHdr_feeds (s : State) (t : Nat) (w : Word) : (s.setHdr t w).feeds = s.feeds := (rfl)
@[simp] theorem State.setHdr_boot (s : State) (t : Nat) (w : Word) : (s.setHdr t w).boot = s.boot := (rfl)
@[simp] theorem State.setHdr_upd (s : State) (t : Nat) (w : Word) : (s.setHdr t w).upd = s.upd := (rfl)
@[simp] theorem State.setHdr_regs (s : State) (t : Nat) (w : Word) : (s.setHdr t w).regs = s.regs := (rfl)
@[simp] theorem State.setHdr_rd (s : State) (t : Nat) (w : Word) (k' : Nat) : (s.setHdr t w).rd k' = s.rd k' := (rfl)
@[simp] theorem State.setHdr_g (s : State) (t : Nat) (w : Word) (r : FRef) : (s.setHdr t w).g r = s.g r := (rfl)
@[simp] theorem State.setHdr_flag (s : State) (t : Nat) (w : Word) (r : FRef) : (s.setHdr t w).flag r = s.flag r := (rfl)

/-! ### State.pushTile -/

@[simp] theorem State.pushTile_pending (s : State) (t : Nat) : (s.pushTile t).pending = s.pending := (rfl)
@[simp] theorem State.pushTile_latches (s : State) (t : Nat) : (s.pushTile t).latches = s.latches := (rfl)
@[simp] theorem State.pushTile_staging (s : State) (t : Nat) : (s.pushTile t).staging = s.staging := (rfl)
@[simp] theorem State.pushTile_held (s : State) (t : Nat) : (s.pushTile t).held = s.held := (rfl)
@[simp] theorem State.pushTile_resp (s : State) (t : Nat) : (s.pushTile t).resp = s.resp := (rfl)
@[simp] theorem State.pushTile_freeCtr (s : State) (t : Nat) : (s.pushTile t).freeCtr = s.freeCtr := (rfl)
@[simp] theorem State.pushTile_resetReq (s : State) (t : Nat) : (s.pushTile t).resetReq = s.resetReq := (rfl)
@[simp] theorem State.pushTile_clep (s : State) (t : Nat) : (s.pushTile t).clep = s.clep := (rfl)
@[simp] theorem State.pushTile_sump (s : State) (t : Nat) : (s.pushTile t).sump = s.sump := (rfl)
@[simp] theorem State.pushTile_links (s : State) (t : Nat) : (s.pushTile t).links = s.links := (rfl)
@[simp] theorem State.pushTile_sw (s : State) (t : Nat) : (s.pushTile t).sw = s.sw := (rfl)
@[simp] theorem State.pushTile_power (s : State) (t : Nat) : (s.pushTile t).power = s.power := (rfl)
@[simp] theorem State.pushTile_pins (s : State) (t : Nat) : (s.pushTile t).pins = s.pins := (rfl)
@[simp] theorem State.pushTile_jets (s : State) (t : Nat) : (s.pushTile t).jets = s.jets := (rfl)
@[simp] theorem State.pushTile_cst (s : State) (t : Nat) : (s.pushTile t).cst = s.cst := (rfl)
@[simp] theorem State.pushTile_can (s : State) (t : Nat) : (s.pushTile t).can = s.can := (rfl)
@[simp] theorem State.pushTile_sec (s : State) (t : Nat) : (s.pushTile t).sec = s.sec := (rfl)
@[simp] theorem State.pushTile_fh (s : State) (t : Nat) : (s.pushTile t).fh = s.fh := (rfl)
@[simp] theorem State.pushTile_cyc (s : State) (t : Nat) : (s.pushTile t).cyc = s.cyc := (rfl)
@[simp] theorem State.pushTile_flow (s : State) (t : Nat) : (s.pushTile t).flow = s.flow := (rfl)
@[simp] theorem State.pushTile_brg (s : State) (t : Nat) : (s.pushTile t).brg = s.brg := (rfl)
@[simp] theorem State.pushTile_usb (s : State) (t : Nat) : (s.pushTile t).usb = s.usb := (rfl)
@[simp] theorem State.pushTile_feeds (s : State) (t : Nat) : (s.pushTile t).feeds = s.feeds := (rfl)
@[simp] theorem State.pushTile_boot (s : State) (t : Nat) : (s.pushTile t).boot = s.boot := (rfl)
@[simp] theorem State.pushTile_upd (s : State) (t : Nat) : (s.pushTile t).upd = s.upd := (rfl)
@[simp] theorem State.pushTile_regs (s : State) (t : Nat) : (s.pushTile t).regs = s.regs := (rfl)
@[simp] theorem State.pushTile_rd (s : State) (t : Nat) (k' : Nat) : (s.pushTile t).rd k' = s.rd k' := (rfl)
@[simp] theorem State.pushTile_g (s : State) (t : Nat) (r : FRef) : (s.pushTile t).g r = s.g r := (rfl)
@[simp] theorem State.pushTile_flag (s : State) (t : Nat) (r : FRef) : (s.pushTile t).flag r = s.flag r := (rfl)

/-! ### State.injMet -/

@[simp] theorem State.injMet_pending (s : State) (x : Inject) : (s.injMet x).pending = s.pending := (rfl)
@[simp] theorem State.injMet_latches (s : State) (x : Inject) : (s.injMet x).latches = s.latches := (rfl)
@[simp] theorem State.injMet_staging (s : State) (x : Inject) : (s.injMet x).staging = s.staging := (rfl)
@[simp] theorem State.injMet_held (s : State) (x : Inject) : (s.injMet x).held = s.held := (rfl)
@[simp] theorem State.injMet_resp (s : State) (x : Inject) : (s.injMet x).resp = s.resp := (rfl)
@[simp] theorem State.injMet_freeCtr (s : State) (x : Inject) : (s.injMet x).freeCtr = s.freeCtr := (rfl)
@[simp] theorem State.injMet_resetReq (s : State) (x : Inject) : (s.injMet x).resetReq = s.resetReq := (rfl)
@[simp] theorem State.injMet_clep (s : State) (x : Inject) : (s.injMet x).clep = s.clep := (rfl)
@[simp] theorem State.injMet_links (s : State) (x : Inject) : (s.injMet x).links = s.links := (rfl)
@[simp] theorem State.injMet_sw (s : State) (x : Inject) : (s.injMet x).sw = s.sw := (rfl)
@[simp] theorem State.injMet_power (s : State) (x : Inject) : (s.injMet x).power = s.power := (rfl)
@[simp] theorem State.injMet_pts (s : State) (x : Inject) : (s.injMet x).pts = s.pts := (rfl)
@[simp] theorem State.injMet_pins (s : State) (x : Inject) : (s.injMet x).pins = s.pins := (rfl)
@[simp] theorem State.injMet_jets (s : State) (x : Inject) : (s.injMet x).jets = s.jets := (rfl)
@[simp] theorem State.injMet_cst (s : State) (x : Inject) : (s.injMet x).cst = s.cst := (rfl)
@[simp] theorem State.injMet_can (s : State) (x : Inject) : (s.injMet x).can = s.can := (rfl)
@[simp] theorem State.injMet_sec (s : State) (x : Inject) : (s.injMet x).sec = s.sec := (rfl)
@[simp] theorem State.injMet_fh (s : State) (x : Inject) : (s.injMet x).fh = s.fh := (rfl)
@[simp] theorem State.injMet_cyc (s : State) (x : Inject) : (s.injMet x).cyc = s.cyc := (rfl)
@[simp] theorem State.injMet_flow (s : State) (x : Inject) : (s.injMet x).flow = s.flow := (rfl)
@[simp] theorem State.injMet_brg (s : State) (x : Inject) : (s.injMet x).brg = s.brg := (rfl)
@[simp] theorem State.injMet_usb (s : State) (x : Inject) : (s.injMet x).usb = s.usb := (rfl)
@[simp] theorem State.injMet_feeds (s : State) (x : Inject) : (s.injMet x).feeds = s.feeds := (rfl)
@[simp] theorem State.injMet_boot (s : State) (x : Inject) : (s.injMet x).boot = s.boot := (rfl)
@[simp] theorem State.injMet_upd (s : State) (x : Inject) : (s.injMet x).upd = s.upd := (rfl)
@[simp] theorem State.injMet_regs (s : State) (x : Inject) : (s.injMet x).regs = s.regs := (rfl)
@[simp] theorem State.injMet_rd (s : State) (x : Inject) (k' : Nat) : (s.injMet x).rd k' = s.rd k' := (rfl)
@[simp] theorem State.injMet_g (s : State) (x : Inject) (r : FRef) : (s.injMet x).g r = s.g r := (rfl)
@[simp] theorem State.injMet_flag (s : State) (x : Inject) (r : FRef) : (s.injMet x).flag r = s.flag r := (rfl)

/-! ### State.setKa -/

@[simp] theorem State.setKa_pending (s : State) (p : Nat) (k : Ka) : (s.setKa p k).pending = s.pending := (rfl)
@[simp] theorem State.setKa_latches (s : State) (p : Nat) (k : Ka) : (s.setKa p k).latches = s.latches := (rfl)
@[simp] theorem State.setKa_staging (s : State) (p : Nat) (k : Ka) : (s.setKa p k).staging = s.staging := (rfl)
@[simp] theorem State.setKa_held (s : State) (p : Nat) (k : Ka) : (s.setKa p k).held = s.held := (rfl)
@[simp] theorem State.setKa_resp (s : State) (p : Nat) (k : Ka) : (s.setKa p k).resp = s.resp := (rfl)
@[simp] theorem State.setKa_freeCtr (s : State) (p : Nat) (k : Ka) : (s.setKa p k).freeCtr = s.freeCtr := (rfl)
@[simp] theorem State.setKa_resetReq (s : State) (p : Nat) (k : Ka) : (s.setKa p k).resetReq = s.resetReq := (rfl)
@[simp] theorem State.setKa_clep (s : State) (p : Nat) (k : Ka) : (s.setKa p k).clep = s.clep := (rfl)
@[simp] theorem State.setKa_sump (s : State) (p : Nat) (k : Ka) : (s.setKa p k).sump = s.sump := (rfl)
@[simp] theorem State.setKa_links (s : State) (p : Nat) (k : Ka) : (s.setKa p k).links = s.links := (rfl)
@[simp] theorem State.setKa_sw (s : State) (p : Nat) (k : Ka) : (s.setKa p k).sw = s.sw := (rfl)
@[simp] theorem State.setKa_power (s : State) (p : Nat) (k : Ka) : (s.setKa p k).power = s.power := (rfl)
@[simp] theorem State.setKa_pts (s : State) (p : Nat) (k : Ka) : (s.setKa p k).pts = s.pts := (rfl)
@[simp] theorem State.setKa_pins (s : State) (p : Nat) (k : Ka) : (s.setKa p k).pins = s.pins := (rfl)
@[simp] theorem State.setKa_jets (s : State) (p : Nat) (k : Ka) : (s.setKa p k).jets = s.jets := (rfl)
@[simp] theorem State.setKa_cst (s : State) (p : Nat) (k : Ka) : (s.setKa p k).cst = s.cst := (rfl)
@[simp] theorem State.setKa_can (s : State) (p : Nat) (k : Ka) : (s.setKa p k).can = s.can := (rfl)
@[simp] theorem State.setKa_fh (s : State) (p : Nat) (k : Ka) : (s.setKa p k).fh = s.fh := (rfl)
@[simp] theorem State.setKa_cyc (s : State) (p : Nat) (k : Ka) : (s.setKa p k).cyc = s.cyc := (rfl)
@[simp] theorem State.setKa_flow (s : State) (p : Nat) (k : Ka) : (s.setKa p k).flow = s.flow := (rfl)
@[simp] theorem State.setKa_brg (s : State) (p : Nat) (k : Ka) : (s.setKa p k).brg = s.brg := (rfl)
@[simp] theorem State.setKa_usb (s : State) (p : Nat) (k : Ka) : (s.setKa p k).usb = s.usb := (rfl)
@[simp] theorem State.setKa_feeds (s : State) (p : Nat) (k : Ka) : (s.setKa p k).feeds = s.feeds := (rfl)
@[simp] theorem State.setKa_boot (s : State) (p : Nat) (k : Ka) : (s.setKa p k).boot = s.boot := (rfl)
@[simp] theorem State.setKa_upd (s : State) (p : Nat) (k : Ka) : (s.setKa p k).upd = s.upd := (rfl)
@[simp] theorem State.setKa_regs (s : State) (p : Nat) (k : Ka) : (s.setKa p k).regs = s.regs := (rfl)
@[simp] theorem State.setKa_rd (s : State) (p : Nat) (k : Ka) (k' : Nat) : (s.setKa p k).rd k' = s.rd k' := (rfl)
@[simp] theorem State.setKa_g (s : State) (p : Nat) (k : Ka) (r : FRef) : (s.setKa p k).g r = s.g r := (rfl)
@[simp] theorem State.setKa_flag (s : State) (p : Nat) (k : Ka) (r : FRef) : (s.setKa p k).flag r = s.flag r := (rfl)

/-! ### State.setLinkKey -/

@[simp] theorem State.setLinkKey_pending (s : State) (p an : Nat) (rx : Bool) (k : List Byte) : (s.setLinkKey p an rx k).pending = s.pending := (rfl)
@[simp] theorem State.setLinkKey_latches (s : State) (p an : Nat) (rx : Bool) (k : List Byte) : (s.setLinkKey p an rx k).latches = s.latches := (rfl)
@[simp] theorem State.setLinkKey_staging (s : State) (p an : Nat) (rx : Bool) (k : List Byte) : (s.setLinkKey p an rx k).staging = s.staging := (rfl)
@[simp] theorem State.setLinkKey_held (s : State) (p an : Nat) (rx : Bool) (k : List Byte) : (s.setLinkKey p an rx k).held = s.held := (rfl)
@[simp] theorem State.setLinkKey_resp (s : State) (p an : Nat) (rx : Bool) (k : List Byte) : (s.setLinkKey p an rx k).resp = s.resp := (rfl)
@[simp] theorem State.setLinkKey_freeCtr (s : State) (p an : Nat) (rx : Bool) (k : List Byte) : (s.setLinkKey p an rx k).freeCtr = s.freeCtr := (rfl)
@[simp] theorem State.setLinkKey_resetReq (s : State) (p an : Nat) (rx : Bool) (k : List Byte) : (s.setLinkKey p an rx k).resetReq = s.resetReq := (rfl)
@[simp] theorem State.setLinkKey_clep (s : State) (p an : Nat) (rx : Bool) (k : List Byte) : (s.setLinkKey p an rx k).clep = s.clep := (rfl)
@[simp] theorem State.setLinkKey_sump (s : State) (p an : Nat) (rx : Bool) (k : List Byte) : (s.setLinkKey p an rx k).sump = s.sump := (rfl)
@[simp] theorem State.setLinkKey_links (s : State) (p an : Nat) (rx : Bool) (k : List Byte) : (s.setLinkKey p an rx k).links = s.links := (rfl)
@[simp] theorem State.setLinkKey_sw (s : State) (p an : Nat) (rx : Bool) (k : List Byte) : (s.setLinkKey p an rx k).sw = s.sw := (rfl)
@[simp] theorem State.setLinkKey_power (s : State) (p an : Nat) (rx : Bool) (k : List Byte) : (s.setLinkKey p an rx k).power = s.power := (rfl)
@[simp] theorem State.setLinkKey_pts (s : State) (p an : Nat) (rx : Bool) (k : List Byte) : (s.setLinkKey p an rx k).pts = s.pts := (rfl)
@[simp] theorem State.setLinkKey_pins (s : State) (p an : Nat) (rx : Bool) (k : List Byte) : (s.setLinkKey p an rx k).pins = s.pins := (rfl)
@[simp] theorem State.setLinkKey_jets (s : State) (p an : Nat) (rx : Bool) (k : List Byte) : (s.setLinkKey p an rx k).jets = s.jets := (rfl)
@[simp] theorem State.setLinkKey_cst (s : State) (p an : Nat) (rx : Bool) (k : List Byte) : (s.setLinkKey p an rx k).cst = s.cst := (rfl)
@[simp] theorem State.setLinkKey_can (s : State) (p an : Nat) (rx : Bool) (k : List Byte) : (s.setLinkKey p an rx k).can = s.can := (rfl)
@[simp] theorem State.setLinkKey_fh (s : State) (p an : Nat) (rx : Bool) (k : List Byte) : (s.setLinkKey p an rx k).fh = s.fh := (rfl)
@[simp] theorem State.setLinkKey_cyc (s : State) (p an : Nat) (rx : Bool) (k : List Byte) : (s.setLinkKey p an rx k).cyc = s.cyc := (rfl)
@[simp] theorem State.setLinkKey_flow (s : State) (p an : Nat) (rx : Bool) (k : List Byte) : (s.setLinkKey p an rx k).flow = s.flow := (rfl)
@[simp] theorem State.setLinkKey_brg (s : State) (p an : Nat) (rx : Bool) (k : List Byte) : (s.setLinkKey p an rx k).brg = s.brg := (rfl)
@[simp] theorem State.setLinkKey_usb (s : State) (p an : Nat) (rx : Bool) (k : List Byte) : (s.setLinkKey p an rx k).usb = s.usb := (rfl)
@[simp] theorem State.setLinkKey_feeds (s : State) (p an : Nat) (rx : Bool) (k : List Byte) : (s.setLinkKey p an rx k).feeds = s.feeds := (rfl)
@[simp] theorem State.setLinkKey_boot (s : State) (p an : Nat) (rx : Bool) (k : List Byte) : (s.setLinkKey p an rx k).boot = s.boot := (rfl)
@[simp] theorem State.setLinkKey_upd (s : State) (p an : Nat) (rx : Bool) (k : List Byte) : (s.setLinkKey p an rx k).upd = s.upd := (rfl)
@[simp] theorem State.setLinkKey_regs (s : State) (p an : Nat) (rx : Bool) (k : List Byte) : (s.setLinkKey p an rx k).regs = s.regs := (rfl)
@[simp] theorem State.setLinkKey_rd (s : State) (p an : Nat) (rx : Bool) (k : List Byte) (k' : Nat) : (s.setLinkKey p an rx k).rd k' = s.rd k' := (rfl)
@[simp] theorem State.setLinkKey_g (s : State) (p an : Nat) (rx : Bool) (k : List Byte) (r : FRef) : (s.setLinkKey p an rx k).g r = s.g r := (rfl)
@[simp] theorem State.setLinkKey_flag (s : State) (p an : Nat) (rx : Bool) (k : List Byte) (r : FRef) : (s.setLinkKey p an rx k).flag r = s.flag r := (rfl)

/-! ### State.setFl -/

@[simp] theorem State.setFl_pending (s : State) (f : Nat) (v : Flow) : (s.setFl f v).pending = s.pending := (rfl)
@[simp] theorem State.setFl_latches (s : State) (f : Nat) (v : Flow) : (s.setFl f v).latches = s.latches := (rfl)
@[simp] theorem State.setFl_staging (s : State) (f : Nat) (v : Flow) : (s.setFl f v).staging = s.staging := (rfl)
@[simp] theorem State.setFl_held (s : State) (f : Nat) (v : Flow) : (s.setFl f v).held = s.held := (rfl)
@[simp] theorem State.setFl_resp (s : State) (f : Nat) (v : Flow) : (s.setFl f v).resp = s.resp := (rfl)
@[simp] theorem State.setFl_freeCtr (s : State) (f : Nat) (v : Flow) : (s.setFl f v).freeCtr = s.freeCtr := (rfl)
@[simp] theorem State.setFl_resetReq (s : State) (f : Nat) (v : Flow) : (s.setFl f v).resetReq = s.resetReq := (rfl)
@[simp] theorem State.setFl_clep (s : State) (f : Nat) (v : Flow) : (s.setFl f v).clep = s.clep := (rfl)
@[simp] theorem State.setFl_sump (s : State) (f : Nat) (v : Flow) : (s.setFl f v).sump = s.sump := (rfl)
@[simp] theorem State.setFl_links (s : State) (f : Nat) (v : Flow) : (s.setFl f v).links = s.links := (rfl)
@[simp] theorem State.setFl_sw (s : State) (f : Nat) (v : Flow) : (s.setFl f v).sw = s.sw := (rfl)
@[simp] theorem State.setFl_power (s : State) (f : Nat) (v : Flow) : (s.setFl f v).power = s.power := (rfl)
@[simp] theorem State.setFl_pts (s : State) (f : Nat) (v : Flow) : (s.setFl f v).pts = s.pts := (rfl)
@[simp] theorem State.setFl_pins (s : State) (f : Nat) (v : Flow) : (s.setFl f v).pins = s.pins := (rfl)
@[simp] theorem State.setFl_jets (s : State) (f : Nat) (v : Flow) : (s.setFl f v).jets = s.jets := (rfl)
@[simp] theorem State.setFl_cst (s : State) (f : Nat) (v : Flow) : (s.setFl f v).cst = s.cst := (rfl)
@[simp] theorem State.setFl_can (s : State) (f : Nat) (v : Flow) : (s.setFl f v).can = s.can := (rfl)
@[simp] theorem State.setFl_sec (s : State) (f : Nat) (v : Flow) : (s.setFl f v).sec = s.sec := (rfl)
@[simp] theorem State.setFl_fh (s : State) (f : Nat) (v : Flow) : (s.setFl f v).fh = s.fh := (rfl)
@[simp] theorem State.setFl_cyc (s : State) (f : Nat) (v : Flow) : (s.setFl f v).cyc = s.cyc := (rfl)
@[simp] theorem State.setFl_brg (s : State) (f : Nat) (v : Flow) : (s.setFl f v).brg = s.brg := (rfl)
@[simp] theorem State.setFl_usb (s : State) (f : Nat) (v : Flow) : (s.setFl f v).usb = s.usb := (rfl)
@[simp] theorem State.setFl_feeds (s : State) (f : Nat) (v : Flow) : (s.setFl f v).feeds = s.feeds := (rfl)
@[simp] theorem State.setFl_boot (s : State) (f : Nat) (v : Flow) : (s.setFl f v).boot = s.boot := (rfl)
@[simp] theorem State.setFl_upd (s : State) (f : Nat) (v : Flow) : (s.setFl f v).upd = s.upd := (rfl)
@[simp] theorem State.setFl_regs (s : State) (f : Nat) (v : Flow) : (s.setFl f v).regs = s.regs := (rfl)
@[simp] theorem State.setFl_rd (s : State) (f : Nat) (v : Flow) (k' : Nat) : (s.setFl f v).rd k' = s.rd k' := (rfl)
@[simp] theorem State.setFl_g (s : State) (f : Nat) (v : Flow) (r : FRef) : (s.setFl f v).g r = s.g r := (rfl)
@[simp] theorem State.setFl_flag (s : State) (f : Nat) (v : Flow) (r : FRef) : (s.setFl f v).flag r = s.flag r := (rfl)

/-! ### What a table reads after an entry of it is replaced -/

@[simp] theorem State.setHdr_tileHdr_same (s : State) (k : Nat) (v : Word) : (s.setHdr k v).tileHdr k = v := by
  simp [State.setHdr, State.tileHdr]
@[simp] theorem State.setHdr_tileHdr_ne (s : State) {k j : Nat} (v : Word) (h : j ≠ k) : (s.setHdr k v).tileHdr j = s.tileHdr j := by
  simp [State.setHdr, State.tileHdr, h]
@[simp] theorem State.setKa_kaOf_same (s : State) (k : Nat) (v : Ka) : (s.setKa k v).kaOf k = v := by
  simp [State.setKa, State.sm, State.kaOf]
@[simp] theorem State.setKa_kaOf_ne (s : State) {k j : Nat} (v : Ka) (h : j ≠ k) : (s.setKa k v).kaOf j = s.kaOf j := by
  simp [State.setKa, State.sm, State.kaOf, h]
@[simp] theorem State.setFl_fl_same (s : State) (k : Nat) (v : Flow) : (s.setFl k v).fl k = v := by
  simp [State.setFl, State.fm, State.fl]
@[simp] theorem State.setFl_fl_ne (s : State) {k j : Nat} (v : Flow) (h : j ≠ k) : (s.setFl k v).fl j = s.fl j := by
  simp [State.setFl, State.fm, State.fl, h]
@[simp] theorem State.setCist_cist_same (s : State) (k : Nat) (v : Cistern) : (s.setCist k v).cist k = v := by
  simp [State.setCist, State.cist]
@[simp] theorem State.setCist_cist_ne (s : State) {k j : Nat} (v : Cistern) (h : j ≠ k) : (s.setCist k v).cist j = s.cist j := by
  simp [State.setCist, State.cist, h]
@[simp] theorem State.setJet_jet_same (s : State) (k : Nat) (v : Jet) : (s.setJet k v).jet k = v := by
  simp [State.setJet, State.jet]
@[simp] theorem State.setJet_jet_ne (s : State) {k j : Nat} (v : Jet) (h : j ≠ k) : (s.setJet k v).jet j = s.jet j := by
  simp [State.setJet, State.jet, h]
@[simp] theorem State.setFeed_feed_same (s : State) (k : Nat) (v : FeedCh) : (s.setFeed k v).feed k = v := by
  simp [State.setFeed, State.feed]
@[simp] theorem State.setFeed_feed_ne (s : State) {k j : Nat} (v : FeedCh) (h : j ≠ k) : (s.setFeed k v).feed j = s.feed j := by
  simp [State.setFeed, State.feed, h]
@[simp] theorem State.setPort_port_same (s : State) (k : Nat) (v : Port) : (s.setPort k v).port k = v := by
  simp [State.setPort, State.port]
@[simp] theorem State.setPort_port_ne (s : State) {k j : Nat} (v : Port) (h : j ≠ k) : (s.setPort k v).port j = s.port j := by
  simp [State.setPort, State.port, h]

end Sys2Proof.Machine
end

