-- ==== Sys2Proof/Laws/Regs.lean ====
section
/-! SUPPORT. Reading a register or a field after a write of one: the same place gives what was written, every other place keeps what
it had. -/

namespace Sys2Proof.Machine

/-! ### Bits of a number -/

theorem bitsOf_lt (x lo w : Nat) : bitsOf x lo w < 2 ^ w := Nat.mod_lt _ (Nat.two_pow_pos w)

theorem setBits_testBit (x lo w v i : Nat) :
    (setBits x lo w v).testBit i = if lo ≤ i ∧ i < lo + w then v.testBit (i - lo) else x.testBit i := by
  have h1 : x % 2 ^ lo < 2 ^ lo := Nat.mod_lt _ (Nat.two_pow_pos lo)
  have h2 : v % 2 ^ w < 2 ^ w := Nat.mod_lt _ (Nat.two_pow_pos w)
  have e1 : v % 2 ^ w * 2 ^ lo + x % 2 ^ lo = (v % 2 ^ w) <<< lo ||| x % 2 ^ lo := by
    rw [Nat.shiftLeft_eq, ← Nat.shiftLeft_eq, Nat.shiftLeft_add_eq_or_of_lt h1]
  have h3 : v % 2 ^ w * 2 ^ lo + x % 2 ^ lo < 2 ^ (lo + w) := by
    have : v % 2 ^ w * 2 ^ lo + 2 ^ lo ≤ 2 ^ w * 2 ^ lo := by
      rw [← Nat.succ_mul]; exact Nat.mul_le_mul_right _ h2
    rw [Nat.pow_add, Nat.mul_comm (2 ^ lo)]; omega
  have e2 : setBits x lo w v = (x / 2 ^ (lo + w)) <<< (lo + w) ||| ((v % 2 ^ w) <<< lo ||| x % 2 ^ lo) := by
    unfold setBits
    rw [Nat.add_assoc, e1, ← Nat.shiftLeft_eq (x / 2 ^ (lo + w)), Nat.shiftLeft_add_eq_or_of_lt (e1 ▸ h3)]
  rw [e2]
  simp only [Nat.testBit_or, Nat.testBit_shiftLeft, Nat.testBit_mod_two_pow, Nat.testBit_div_two_pow]
  by_cases ha : lo ≤ i
  · by_cases hb : i < lo + w
    · have h4 : i - lo < w := by omega
      simp [ha, hb, h4, Nat.not_le.2 hb, Nat.not_lt.2 ha]
    · have h4 : ¬ i - lo < w := by omega
      have h5 : lo + w ≤ i := by omega
      simp [ha, hb, h4, h5, Nat.not_lt.2 ha, show i - (lo + w) + (lo + w) = i by omega]
  · have h5 : ¬ lo + w ≤ i := by omega
    have h6 : i < lo := by omega
    simp [ha, h5, h6]

theorem bitsOf_testBit (x lo w i : Nat) : (bitsOf x lo w).testBit i = (decide (i < w) && x.testBit (lo + i)) := by
  simp [bitsOf, Nat.testBit_mod_two_pow, Nat.testBit_div_two_pow, Nat.add_comm]

theorem bitsOf_setBits_same (x lo w v : Nat) : bitsOf (setBits x lo w v) lo w = v % 2 ^ w := by
  apply Nat.eq_of_testBit_eq
  intro i
  rw [bitsOf_testBit, setBits_testBit, Nat.testBit_mod_two_pow]
  by_cases h : i < w <;> simp [h]

theorem bitsOf_setBits_ne (x lo w v lo' w' : Nat) (h : lo' + w' ≤ lo ∨ lo + w ≤ lo') :
    bitsOf (setBits x lo w v) lo' w' = bitsOf x lo' w' := by
  apply Nat.eq_of_testBit_eq
  intro i
  rw [bitsOf_testBit, bitsOf_testBit, setBits_testBit]
  by_cases h' : i < w'
  · have : ¬ (lo ≤ lo' + i ∧ lo' + i < lo + w) := by omega
    simp [this]
  · simp [h']

/-! ### Fields of a word -/

/-- The field lies within the 32 bits of a register. -/
def FRef.fits (f : FRef) : Prop := f.lsb + f.width ≤ 32

theorem bitsOf_mod (x lo w : Nat) (h : lo + w ≤ 32) : bitsOf (x % 2 ^ 32) lo w = bitsOf x lo w := by
  apply Nat.eq_of_testBit_eq
  intro i
  rw [bitsOf_testBit, bitsOf_testBit, Nat.testBit_mod_two_pow]
  by_cases h' : i < w
  · have : lo + i < 32 := by omega
    simp [this]
  · simp [h']

theorem FRef.get_put (f : FRef) (h : f.fits) (w : Word) (v : Nat) : f.get (f.put w v) = v % 2 ^ f.width := by
  simp only [FRef.get, FRef.put, BitVec.toNat_ofNat]
  rw [bitsOf_mod _ _ _ h, bitsOf_setBits_same]

theorem FRef.get_put_ne (f g : FRef) (h : g.fits) (hd : g.lsb + g.width ≤ f.lsb ∨ f.lsb + f.width ≤ g.lsb) (w : Word) (v : Nat) :
    g.get (f.put w v) = g.get w := by
  simp only [FRef.get, FRef.put, BitVec.toNat_ofNat]
  rw [bitsOf_mod _ _ _ h, bitsOf_setBits_ne _ _ _ _ _ _ hd]

theorem FRef.get_lt (f : FRef) (w : Word) : f.get w < 2 ^ f.width := bitsOf_lt _ _ _

/-! ### Registers -/

@[simp] theorem State.rd_wr_same (s : State) (k : Nat) (w : Word) : (s.wr k w).rd k = w := by
  simp [State.rd, State.wr]

theorem State.rd_wr_ne (s : State) {k k' : Nat} (w : Word) (h : k' ≠ k) : (s.wr k w).rd k' = s.rd k' := by
  simp [State.rd, State.wr, h]

theorem State.rd_wr (s : State) (k k' : Nat) (w : Word) : (s.wr k w).rd k' = if k' = k then w else s.rd k' := by
  by_cases h : k' = k
  · subst h; simp
  · simp [h, State.rd_wr_ne]

theorem State.rd_p_ne (s : State) (f : FRef) (v : Nat) {k : Nat} (h : k ≠ f.off) : (s.p f v).rd k = s.rd k :=
  State.rd_wr_ne _ _ h

theorem State.rd_p_same (s : State) (f : FRef) (v : Nat) : (s.p f v).rd f.off = f.put (s.rd f.off) v := by
  simp [State.p]

/-- A field reads as it was set, in its width. -/
theorem State.g_p_same (s : State) (f : FRef) (h : f.fits) (v : Nat) : (s.p f v).g f = v % 2 ^ f.width := by
  simp [State.g, State.p, FRef.get_put f h]

/-- A field of another register, or of other bits of the same one, keeps its value. -/
theorem State.g_p_ne (s : State) (f g : FRef) (v : Nat) (h : g.fits)
    (hd : g.off ≠ f.off ∨ g.lsb + g.width ≤ f.lsb ∨ f.lsb + f.width ≤ g.lsb) : (s.p f v).g g = s.g g := by
  by_cases ho : g.off = f.off
  · have hd' : g.lsb + g.width ≤ f.lsb ∨ f.lsb + f.width ≤ g.lsb := by
      rcases hd with h' | h'
      · exact absurd ho h'
      · exact h'
    simp only [State.g, State.p, ho, State.rd_wr_same, FRef.get_put_ne f g h hd']
  · simp only [State.g, State.rd_p_ne s f v ho]

theorem State.flag_pb_same (s : State) (f : FRef) (h : f.fits) (h1 : f.width = 1) (b : Bool) : (s.pb f b).flag f = b := by
  simp only [State.flag, State.pb, State.g_p_same s f h, h1]
  cases b <;> simp [b2n]

theorem State.flag_p_ne (s : State) (f g : FRef) (v : Nat) (h : g.fits)
    (hd : g.off ≠ f.off ∨ g.lsb + g.width ≤ f.lsb ∨ f.lsb + f.width ≤ g.lsb) : (s.p f v).flag g = s.flag g := by
  simp only [State.flag, State.g_p_ne s f g v h hd]

theorem State.g_wr_ne (s : State) (k : Nat) (w : Word) (g : FRef) (h : g.off ≠ k) : (s.wr k w).g g = s.g g := by
  simp only [State.g, State.rd_wr_ne s w h]

/-- Two words written as one number read as that number, modulo 2^64. -/
theorem State.rd64_wr64 (s : State) (k v : Nat) : (s.wr64 k v).rd64 k = v % 2 ^ 64 := by
  have h : k ≠ k + 4 := by omega
  simp only [State.rd64, State.wr64, State.rd_wr_same, State.rd_wr_ne _ _ h, BitVec.toNat_ofNat]
  omega

theorem State.rd_wr64_ne (s : State) (k v : Nat) {k' : Nat} (h : k' ≠ k) (h4 : k' ≠ k + 4) : (s.wr64 k v).rd k' = s.rd k' := by
  simp only [State.wr64, State.rd_wr_ne _ _ h4, State.rd_wr_ne _ _ h]

/-! ### Canonical form -/

/-- A write of a register keeps the register map in its canonical form. -/
theorem State.wr_regs_wf (s : State) (k : Nat) (w : Word) (h : SMap.wf regReset s.regs = true) :
    SMap.wf regReset (s.wr k w).regs = true := Laws.wf_set k w h

theorem State.p_regs_wf (s : State) (f : FRef) (v : Nat) (h : SMap.wf regReset s.regs = true) :
    SMap.wf regReset (s.p f v).regs = true := State.wr_regs_wf s _ _ h

end Sys2Proof.Machine
end

