-- ==== Sys2Proof/Laws/Raise.lean ====
section
/-! SUPPORT. What raising an event and counting can do, said once: which registers they may change, what of the state they leave, that
the event's pending bit is set and no pending bit is lost, and that only class GRAVE asks for a reset. -/

namespace Sys2Proof.Machine

/-- What an event may do to the state, its class and number left out of account. -/
structure Raised (s t : State) : Prop where
  bare : t.bare = s.bare
  rd : ∀ k, isPendKey k = false → isRaiseKey k = false → t.rd k = s.rd k
  pend : ∀ e, e < 512 → s.evPend e = true → t.evPend e = true
  kept : ∀ e, e < 512 → s.evPend e = true → s.evKept e ≤ t.evKept e

namespace Raised

theorem refl (s : State) : Raised s s := ⟨rfl, fun _ _ _ => rfl, fun _ _ h => h, fun _ _ _ => Nat.le_refl _⟩

theorem trans {s t u : State} (a : Raised s t) (b : Raised t u) : Raised s u :=
  ⟨b.bare.trans a.bare, fun k h h' => (b.rd k h h').trans (a.rd k h h'), fun e he h => b.pend e he (a.pend e he h),
    fun e he h => Nat.le_trans (a.kept e he h) (b.kept e he (a.pend e he h))⟩

/-- A change that leaves the registers. -/
theorem of_regs {s t : State} (hr : t.regs = s.regs) (hb : t.bare = s.bare) (hk : t.sump.kept = s.sump.kept) : Raised s t :=
  ⟨hb, fun k _ _ => by simp [State.rd, hr], fun e _ h => by simpa [State.evPend, State.rd, hr] using h,
    fun e _ _ => by simp [State.evKept, hk]⟩

theorem pend_key {e : Nat} (he : e < 512) : isPendKey (EVT_PEND.off (e / 32)) = true := by
  simp [isPendKey]; omega

/-- A change of Sump's own data. -/
theorem sump (s : State) (x : Sump) (hk : x.kept = s.sump.kept) : Raised s { s with sump := x } := of_regs rfl rfl hk

/-- A change of the reset request. -/
theorem req (s : State) (x : Option ResetReq) : Raised s { s with resetReq := x } := of_regs rfl rfl rfl

/-- A sequence number used. -/
theorem seqs (s : State) (x : SMap Nat) : Raised s { s with links := { s.links with seqNext := x } } := of_regs rfl rfl rfl

/-- Frames offered for admission. -/
theorem waiting (s : State) (x : List WEnt) : Raised s { s with sw := { s.sw with waiting := x } } := of_regs rfl rfl rfl

/-- A write of one of the registers that an event may change. -/
theorem of_wr (s : State) {k : Nat} (w : Word) (hk : isRaiseKey k = true) : Raised s (s.wr k w) := by
  refine ⟨rfl, fun k' _ h' => State.rd_wr_ne s w ?_, fun e he h => ?_, fun e _ _ => Nat.le_refl _⟩
  · rintro rfl; simp [hk] at h'
  · have : EVT_PEND.off (e / 32) ≠ k := by
      rintro rfl
      have h2 : 0x020100 ≤ EVT_PEND.off (e / 32) ∧ EVT_PEND.off (e / 32) < 0x020140 := by simp only [EVT_PEND.off]; omega
      simp only [isRaiseKey, List.contains_eq_mem, List.mem_cons, List.not_mem_nil, or_false, decide_eq_true_eq] at hk
      rcases hk with hk | hk | hk | hk | hk | hk | hk | hk <;> rw [hk] at h2 <;> exact absurd h2 (by decide)
    simpa [State.evPend, State.rd_wr_ne s w this] using h

theorem of_p (s : State) (f : FRef) (v : Nat) (hk : isRaiseKey f.off = true) : Raised s (s.p f v) := of_wr s _ hk

theorem setPend_kept (s : State) {ev : Nat} (hev : ev < 512) (k : Nat) (hk : s.evPend ev = true → s.evKept ev ≤ k) :
    Raised s { s.wr (EVT_PEND.off (ev / 32)) (s.rd (EVT_PEND.off (ev / 32)) ||| BitVec.ofNat 32 (2 ^ (ev % 32))) with
      sump := { s.sump with kept := SMap.set (fun _ => 0) s.sump.kept ev k } } := by
  refine ⟨rfl, fun k hk _ => ?_, fun e he h => ?_, fun e he h => ?_⟩
  · refine State.rd_wr_ne s _ ?_
    rintro rfl
    rw [pend_key hev] at hk; simp at hk
  · change ((s.wr _ _).rd (EVT_PEND.off (e / 32))).toNat.testBit (e % 32) = true
    rw [State.rd_wr]
    split
    · next h' =>
      have h2 : e / 32 = ev / 32 := by simp only [EVT_PEND.off] at h'; omega
      simp only [State.evPend] at h
      simp [BitVec.toNat_or, ← h2, h]
    · exact h
  · change SMap.get (fun _ => 0) s.sump.kept e ≤ SMap.get (fun _ => 0) (SMap.set (fun _ => 0) s.sump.kept ev k) e
    rw [Laws.get_set]
    split
    · next h' => rw [h'] at h ⊢; exact hk h
    · exact Nat.le_refl _

theorem setPend (s : State) (ev cls : Nat) (hev : ev < 512) : Raised s (s.setPend ev cls) := by
  unfold State.setPend
  dsimp only
  have hk : s.evPend ev = true → s.evKept ev ≤ (if s.evPend ev = true then max (s.evKept ev) cls else cls) := by
    intro h; rw [if_pos h]; exact Nat.le_max_left _ _
  generalize (if s.evPend ev = true then max (s.evKept ev) cls else cls) = k at *
  split
  · exact (setPend_kept s hev k hk).trans (of_p _ HST_ATTN.EVT _ (by decide))
  · exact setPend_kept s hev k hk

theorem setPend_cls (s : State) (ev cls : Nat) : cls ≤ (s.setPend ev cls).evKept ev := by
  have hk : cls ≤ (if s.evPend ev = true then max (s.evKept ev) cls else cls) := by
    split
    · exact Nat.le_max_right _ _
    · exact Nat.le_refl _
  unfold State.setPend
  dsimp only
  generalize (if s.evPend ev = true then max (s.evKept ev) cls else cls) = k at *
  split
  · change cls ≤ SMap.get (fun _ => 0) (SMap.set (fun _ => 0) s.sump.kept ev k) ev
    rw [Laws.get_set_same]; exact hk
  · change cls ≤ SMap.get (fun _ => 0) (SMap.set (fun _ => 0) s.sump.kept ev k) ev
    rw [Laws.get_set_same]; exact hk

theorem setPend_pend (s : State) (ev cls : Nat) (hev : ev < 512) : (s.setPend ev cls).evPend ev = true := by
  have h0 : ∀ w : Word, (w ||| BitVec.ofNat 32 (2 ^ (ev % 32))).toNat.testBit (ev % 32) = true := by
    intro w
    have h1 : ev % 32 < 32 := Nat.mod_lt _ (by omega)
    have h2 : 2 ^ (ev % 32) < 2 ^ 32 := Nat.pow_lt_pow_right (by omega) h1
    rw [BitVec.toNat_or, Nat.testBit_or, BitVec.toNat_ofNat, Nat.mod_eq_of_lt h2, Nat.testBit_two_pow_self, Bool.or_true]
  unfold State.setPend
  dsimp only
  generalize (if s.evPend ev = true then max (s.evKept ev) cls else cls) = k
  split
  · refine (of_p _ HST_ATTN.EVT _ (by decide)).pend ev hev ?_
    simp only [State.evPend]
    change ((s.wr _ _).rd (EVT_PEND.off (ev / 32))).toNat.testBit (ev % 32) = true
    rw [State.rd_wr_same]; exact h0 _
  · change ((s.wr _ _).rd (EVT_PEND.off (ev / 32))).toNat.testBit (ev % 32) = true
    rw [State.rd_wr_same]; exact h0 _

theorem bump_of (s : State) {k sat bit : Nat} {d : List (Nat × Nat)} {f : List FieldDef}
    (hr : regRow k = some ⟨k, d, f, some (sat, bit)⟩) (hk : isRaiseKey k = true) (hs : isRaiseKey sat = true) :
    Raised s (s.bump k).1 := by
  unfold State.bump
  dsimp only
  split
  · exact of_wr _ _ hk
  · split
    · exact refl s
    · rw [hr]
      dsimp only
      rw [Nat.sub_self, Nat.add_zero]
      exact (of_wr _ _ hk).trans (of_wr _ _ hs)

theorem bump (s : State) {k : Nat} (h : k = SUMP_LOG_DROP.off ∨ k = SUMP_ALARM_DROP.off ∨ k = SNAP_LOST.off) :
    Raised s (s.bump k).1 := by
  rcases h with rfl | rfl | rfl
  · exact bump_of s (show regRow SUMP_LOG_DROP.off = some ⟨_, [], [⟨31, 0, .cnt, .any, 0⟩], some (0x2001c, 2)⟩ from by decide) (by decide) (by decide)
  · exact bump_of s (show regRow SUMP_ALARM_DROP.off = some ⟨_, [], [⟨31, 0, .cnt, .any, 0⟩], some (0x2001c, 3)⟩ from by decide) (by decide) (by decide)
  · exact bump_of s (show regRow SNAP_LOST.off = some ⟨_, [], [⟨31, 0, .cnt, .any, 0⟩], some (0x30010, 0)⟩ from by decide) (by decide) (by decide)

theorem writeLog (s : State) (ev cls rep : Nat) (b : Bool) : Raised s (s.writeLog ev cls rep b) := sump s _ (by rfl)

theorem takeSeq (s : State) (c : Nat) : Raised s (s.takeSeq c).2 := seqs s _

theorem offerTo (s : State) (i : Nat) (l : List Nat) (f : Frame) : Raised s (s.offerTo i l f) := waiting s _

theorem offerRing (s : State) (i t c d : Nat) (l : List Byte) : Raised s (s.offerRing i t c d l).2 := by
  unfold State.offerRing
  split
  · exact refl s
  · exact (takeSeq s c).trans (offerTo _ _ _ _)

theorem sendAlarm (s : State) (ev cls : Nat) (r : Option Nat) : Raised s (s.sendAlarm ev cls r) := by
  unfold State.sendAlarm
  dsimp only
  generalize alarmBytes s.fns48 ev cls (s.evDetail ev) s.sump.alarmLost s.sump.alarmLostCls r = pl
  exact trans (offerRing s 8 tyAlarm 3 (s.g SUMP_ALARM.DST) pl) (sump _ _ (by rfl))

theorem askReset (s : State) (r : ResetReq) : Raised s (s.askReset r) := by
  unfold State.askReset
  split
  · split
    · exact refl s
    · exact req s _
  · exact req s _

theorem bypassDrop (s : State) : Raised s s.bypassDrop :=
  (of_p s PORT_BYP.INSERT _ (by decide)).trans (of_p _ PORT_BYP.PIN _ (by decide))

theorem graveAct (s : State) : Raised s s.graveAct := by
  unfold State.graveAct
  refine trans ?_ (askReset _ _)
  exact (bypassDrop s).trans (sump _ _ (by rfl))

theorem react (s : State) (k : Nat) : Raised s (s.react k) := by
  unfold State.react
  split
  · exact refl s
  · split <;> exact sump s _ (by rfl)

end Raised

/-- The events that an event itself raises are Sump's own, at class EVENT. -/
def smallEvents (l : List (Nat × Nat)) : Prop := ∀ e ∈ l, e.1 < 8 ∧ e.2 = 0

/-- An operation of an event that raises further events. -/
def RaisedWith (s : State) (r : State × List (Nat × Nat)) : Prop := Raised s r.1 ∧ smallEvents r.2 ∧ r.1.resetReq = s.resetReq

theorem State.bump_resetReq (s : State) (k : Nat) : (s.bump k).1.resetReq = s.resetReq := by
  unfold State.bump
  dsimp only
  split
  · rfl
  · split
    · rfl
    · split <;> rfl

theorem RaisedWith.nil {s t : State} (h : Raised s t) (hr : t.resetReq = s.resetReq) : RaisedWith s (t, []) :=
  ⟨h, by simp [smallEvents], hr⟩

theorem smallSat (b : Bool) : smallEvents (if b then [(evSump 0, clEvent)] else []) := by
  intro e he
  split at he <;> simp [evSump, clEvent] at he
  simp [he]

theorem smallEvents.append {l r : List (Nat × Nat)} (hl : smallEvents l) (hr : smallEvents r) : smallEvents (l ++ r) :=
  fun e he => (List.mem_append.1 he).elim (hl e) (hr e)

/-- A counter increased after a change of Sump's own data. -/
theorem RaisedWith.bump {s t : State} {k : Nat} (h : k = SUMP_LOG_DROP.off ∨ k = SUMP_ALARM_DROP.off ∨ k = SNAP_LOST.off)
    {l : List (Nat × Nat)} (hs : Raised s t) (hq : t.resetReq = s.resetReq) (hl : smallEvents l) :
    RaisedWith s ((t.bump k).1, l ++ if (t.bump k).2 then [(evSump 0, clEvent)] else []) :=
  ⟨hs.trans (Raised.bump t h), hl.append (smallSat _), (State.bump_resetReq t k).trans hq⟩

theorem RaisedWith.offerLog (s : State) (ev cls rep : Nat) : RaisedWith s (s.offerLog ev cls rep) := by
  unfold State.offerLog
  dsimp only
  generalize (!s.sump.spill && decide (max 1 (s.g SUMP_SPILL.LOG_RATE) ≤ s.sump.winEntries)) = b
  have hs : smallEvents (if b = true then [(evSump 2, clEvent)] else []) := by
    intro e he
    split at he <;> simp [evSump, clEvent] at he
    simp [he]
  generalize (if b = true then [(evSump 2, clEvent)] else []) = evs at *
  generalize h1 : (if b = true then _ else _) = s1
  have p1 : Raised s s1 ∧ s1.resetReq = s.resetReq := by
    rw [← h1]
    split <;> exact ⟨Raised.sump s _ (by rfl), rfl⟩
  split
  · split
    · exact ⟨(p1.1.trans (Raised.writeLog s1 ev cls rep false)).trans (Raised.sump _ _ (by rfl)), hs, p1.2⟩
    · exact RaisedWith.bump (Or.inl rfl) (p1.1.trans (Raised.sump s1 _ (by rfl))) p1.2 hs
  · exact ⟨(p1.1.trans (Raised.writeLog s1 ev cls rep false)).trans (Raised.sump _ _ (by rfl)), hs, p1.2⟩

theorem State.offerRing_resetReq (s : State) (i t c d : Nat) (l : List Byte) : (s.offerRing i t c d l).2.resetReq = s.resetReq := by
  unfold State.offerRing
  split <;> rfl

theorem State.sendAlarm_resetReq (s : State) (ev cls : Nat) (r : Option Nat) : (s.sendAlarm ev cls r).resetReq = s.resetReq := by
  unfold State.sendAlarm
  exact s.offerRing_resetReq _ _ _ _ _

theorem RaisedWith.offerAlarm (s : State) (ev cls : Nat) : RaisedWith s (s.offerAlarm ev cls) := by
  unfold State.offerAlarm
  split
  · exact nil (Raised.refl s) rfl
  · split
    · exact nil ((Raised.sendAlarm s ev cls none).trans (Raised.sump _ _ (by rfl))) (s.sendAlarm_resetReq ev cls none)
    · exact ⟨(Raised.sump s _ (by rfl)).trans (Raised.bump _ (Or.inr (Or.inl rfl))), smallSat _, State.bump_resetReq _ _⟩

theorem RaisedWith.snapRefuse (s : State) : RaisedWith s (s.snapRefuse SNAP_LOST.off) := by
  unfold State.snapRefuse
  refine ⟨Raised.bump s (Or.inr (Or.inr rfl)), ?_, State.bump_resetReq _ _⟩
  exact smallEvents.append (l := [(evSump 6, clEvent)]) (by intro e he; simp [evSump, clEvent] at he; simp [he]) (smallSat _)

theorem snapStat_key : isRaiseKey SNAP_STAT.off = true := by decide

theorem RaisedWith.snapFire (s : State) (c o i : Nat) : RaisedWith s (s.snapFire c o i) := by
  unfold State.snapFire
  dsimp only
  have p1 : ∀ v, Raised s (s.p SNAP_STAT.CAUSE v) := fun v => Raised.of_p s SNAP_STAT.CAUSE v snapStat_key
  have p2 : ∀ v w, Raised s ((s.p SNAP_STAT.STATE v).p SNAP_STAT.CAUSE w) := fun v w =>
    (Raised.of_p s SNAP_STAT.STATE v snapStat_key).trans (Raised.of_p _ SNAP_STAT.CAUSE w snapStat_key)
  have q2 : ∀ v w x, ({ (s.p SNAP_STAT.STATE v).p SNAP_STAT.CAUSE w with sump := x } : State).resetReq = s.resetReq := fun v w _ =>
    ((s.p SNAP_STAT.STATE v).p_resetReq SNAP_STAT.CAUSE w).trans (s.p_resetReq SNAP_STAT.STATE v)
  split
  · exact nil (p1 _) (State.p_resetReq _ _ _)
  · split
    · exact snapRefuse s
    · exact nil ((p2 _ _).trans (Raised.sump _ _ (by rfl))) (q2 _ _ _)

theorem RaisedWith.snapLocal (s : State) (c i ev cls : Nat) : RaisedWith s (s.snapLocal c i ev cls) := by
  have q : ∀ x, ({ s.p SNAP_STAT.STATE 1 with sump := x } : State).resetReq = s.resetReq := fun _ => s.p_resetReq SNAP_STAT.STATE 1
  unfold State.snapLocal
  split
  · exact nil (Raised.refl s) rfl
  · split
    · exact snapFire s _ _ _
    · dsimp only
      split
      · split
        · exact nil (Raised.refl s) rfl
        · exact snapRefuse s
      · split
        · exact snapRefuse s
        · exact nil (((Raised.of_p s SNAP_STAT.STATE 1 snapStat_key).trans (Raised.sump _ _ (by rfl))).trans (Raised.sendAlarm _ _ _ _))
            ((State.sendAlarm_resetReq _ _ _ _).trans (q _))

theorem State.react_resetReq (s : State) (k : Nat) : (s.react k).resetReq = s.resetReq := by
  unfold State.react
  split
  · rfl
  · split <;> rfl

theorem State.setPend_resetReq (s : State) (ev cls : Nat) : (s.setPend ev cls).resetReq = s.resetReq := by
  unfold State.setPend
  dsimp only
  generalize (if s.evPend ev = true then max (s.evKept ev) cls else cls) = k
  split <;> rfl

/-- The effect of raising, up to `fuel` deep. -/
theorem State.raiseN_spec (fuel : Nat) : ∀ (s : State) (ev cls rep : Nat), ev < 512 →
    Raised s (State.raiseN fuel s ev cls rep) ∧ (cls < 4 → (State.raiseN fuel s ev cls rep).resetReq = s.resetReq) ∧
    (0 < fuel → (State.raiseN fuel s ev cls rep).evPend ev = true ∧ cls ≤ (State.raiseN fuel s ev cls rep).evKept ev) := by
  induction fuel with
  | zero => intro s ev cls rep _; exact ⟨Raised.refl s, fun _ => rfl, by simp⟩
  | succ n ih =>
    intro s ev cls rep hev
    have fold : ∀ (l : List (Nat × Nat)) (t : State), smallEvents l →
        Raised t (l.foldl (fun s e => State.raiseN n s e.1 e.2 1) t) ∧
        (l.foldl (fun s e => State.raiseN n s e.1 e.2 1) t).resetReq = t.resetReq := by
      intro l
      induction l with
      | nil => intro t _; exact ⟨Raised.refl t, rfl⟩
      | cons e l il =>
        intro t h
        have he := h e (by simp)
        have h1 := ih t e.1 e.2 1 (by omega)
        have h2 := il (State.raiseN n t e.1 e.2 1) (fun x hx => h x (by simp [hx]))
        exact ⟨h1.1.trans h2.1, h2.2.trans (h1.2.1 (by omega))⟩
    simp only [State.raiseN]
    generalize hc : max cls (min 3 (s.g (EVT_ROUTE.RAISE ev))) = c
    have p0 := Raised.setPend s ev c hev
    have q0 := State.setPend_resetReq s ev c
    have b0 := Raised.setPend_pend s ev c hev
    have k0 : cls ≤ (s.setPend ev c).evKept ev := Nat.le_trans (by rw [← hc]; exact Nat.le_max_left _ _) (Raised.setPend_cls s ev c)
    generalize s.setPend ev c = s0 at *
    generalize h1 : (if (s0.flag (EVT_ROUTE.LOG ev) && !(ev == evSump 2 || ev == evSump 3)) = true then s0.offerLog ev c rep else (s0, [])) = r1
    have p1 : RaisedWith s0 r1 := by
      rw [← h1]; split
      · exact RaisedWith.offerLog _ _ _ _
      · exact RaisedWith.nil (Raised.refl _) rfl
    obtain ⟨s1, e1⟩ := r1
    dsimp only at *
    generalize h2 : (if (s1.flag (EVT_ROUTE.ALARM ev) && !(ev == evSump 2 || ev == evSump 3)) = true then s1.offerAlarm ev c else (s1, [])) = r2
    have p2 : RaisedWith s1 r2 := by
      rw [← h2]; split
      · exact RaisedWith.offerAlarm _ _ _
      · exact RaisedWith.nil (Raised.refl _) rfl
    obtain ⟨s2, e2⟩ := r2
    dsimp only at *
    generalize h3 : (if s2.flag (EVT_ROUTE.SNAP ev) = true then s2.snapLocal snEvt s2.fns48 ev c else (s2, [])) = r3
    have p3 : RaisedWith s2 r3 := by
      rw [← h3]; split
      · exact RaisedWith.snapLocal _ _ _ _ _
      · exact RaisedWith.nil (Raised.refl _) rfl
    obtain ⟨s3, e3⟩ := r3
    dsimp only at *
    generalize h4 : (if c = clDegraded then s3.react (s3.g SUMP_CFG.REACT_DEG) else if c = clSevere then s3.react (s3.g SUMP_CFG.REACT_SEV) else s3) = s4
    have p4 : Raised s3 s4 ∧ s4.resetReq = s3.resetReq := by
      rw [← h4]
      split
      · exact ⟨Raised.react _ _, State.react_resetReq _ _⟩
      · split
        · exact ⟨Raised.react _ _, State.react_resetReq _ _⟩
        · exact ⟨Raised.refl _, rfl⟩
    generalize h5 : (if c = clGrave then s4.graveAct else s4) = s5
    have p5 : Raised s4 s5 := by
      rw [← h5]; split
      · exact Raised.graveAct _
      · exact Raised.refl _
    have q5 : cls < 4 → s5.resetReq = s4.resetReq := by
      intro hcl
      have : ¬ c = clGrave := by simp only [clGrave]; omega
      rw [← h5, if_neg this]
    have sm : smallEvents (e1 ++ e2 ++ e3) := by
      intro e he
      simp only [List.mem_append] at he
      rcases he with (he | he) | he
      · exact p1.2.1 e he
      · exact p2.2.1 e he
      · exact p3.2.1 e he
    have fl := fold (e1 ++ e2 ++ e3) s5 sm
    have rest : Raised s0 ((e1 ++ e2 ++ e3).foldl (fun s e => State.raiseN n s e.1 e.2 1) s5) :=
      ((((p1.1.trans p2.1).trans p3.1).trans p4.1).trans p5).trans fl.1
    exact ⟨p0.trans rest, fun hcl => ((((((fl.2.trans (q5 hcl)).trans p4.2).trans p3.2.2).trans p2.2.2).trans p1.2.2).trans q0),
      fun _ => ⟨rest.pend ev hev b0, Nat.le_trans k0 (rest.kept ev hev b0)⟩⟩

/-! ### Raising and counting -/

/-- What raising an event can do. -/
theorem State.raise_raised (s : State) {ev : Nat} (cls : Nat) (h : ev < 512) : Raised s (s.raise ev cls) := (State.raiseN_spec 4 s ev cls 1 h).1

/-- An event raised is pending. -/
theorem State.raise_pend (s : State) {ev : Nat} (cls : Nat) (h : ev < 512) : (s.raise ev cls).evPend ev = true :=
  ((State.raiseN_spec 4 s ev cls 1 h).2.2 (by decide)).1

/-- The class kept for an event raised is at least its own. -/
theorem State.raise_kept (s : State) {ev : Nat} (cls : Nat) (h : ev < 512) : cls ≤ (s.raise ev cls).evKept ev :=
  ((State.raiseN_spec 4 s ev cls 1 h).2.2 (by decide)).2

/-- Only an event of class GRAVE asks for a reset. -/
theorem State.raise_resetReq (s : State) {ev cls : Nat} (h : ev < 512) (hc : cls < 4) : (s.raise ev cls).resetReq = s.resetReq :=
  (State.raiseN_spec 4 s ev cls 1 h).2.1 hc

theorem State.raiseIf_raised (s : State) (b : Bool) {ev : Nat} (cls : Nat) (h : ev < 512) : Raised s (s.raiseIf b ev cls) := by
  unfold State.raiseIf
  split
  · exact s.raise_raised cls h
  · exact Raised.refl s

theorem State.raiseIf_resetReq (s : State) (b : Bool) {ev cls : Nat} (h : ev < 512) (hc : cls < 4) :
    (s.raiseIf b ev cls).resetReq = s.resetReq := by
  unfold State.raiseIf
  split
  · exact s.raise_resetReq h hc
  · rfl

theorem ite_lt_of {c : Prop} [Decidable c] {a b n : Nat} (h1 : c → a < n) (h2 : ¬ c → b < n) : (if c then a else b) < n := by
  split
  · next h => exact h1 h
  · next h => exact h2 h

theorem satEvent_lt (off : Nat) (h : off < 2 ^ 22) : satEvent off < 512 := by
  unfold satEvent evPwr evSump evTime evSec evCfg evRing evPort evFlow evPnt evSw evEth evBrg evCst evJet evFio evCan evUsb evFeedC evFh evTel
  repeat' (first | refine ite_lt_of ?_ ?_ | intro _)
  all_goals omega

/-- A counter that has not reached its end reads one more. -/
theorem State.count_rd (s : State) (off : Nat) (h : (s.rd off).toNat + 1 < 0xFFFFFFFF) :
    (s.count off).rd off = BitVec.ofNat 32 ((s.rd off).toNat + 1) ∧ s.count off = s.wr off (BitVec.ofNat 32 ((s.rd off).toNat + 1)) := by
  unfold State.count State.bump
  simp [h]

theorem State.count_resetReq (s : State) {off : Nat} (h : off < 2 ^ 22) : (s.count off).resetReq = s.resetReq := by
  have hb := s.bump_resetReq off
  unfold State.count
  generalize s.bump off = r at *
  obtain ⟨t, b⟩ := r
  dsimp only at *
  split
  · rw [State.raise_resetReq t (satEvent_lt off h) (by decide), hb]
  · exact hb

theorem State.countIf_resetReq (s : State) (b : Bool) {off : Nat} (h : off < 2 ^ 22) : (s.countIf b off).resetReq = s.resetReq := by
  unfold State.countIf
  split
  · exact s.count_resetReq h
  · rfl

theorem State.bump_bare (s : State) (k : Nat) : (s.bump k).1.bare = s.bare := by
  unfold State.bump
  dsimp only
  split
  · rfl
  · split
    · rfl
    · split <;> rfl

/-- What counting leaves of the state. -/
theorem State.count_bare (s : State) {off : Nat} (h : off < 2 ^ 22) : (s.count off).bare = s.bare := by
  have hb := s.bump_bare off
  unfold State.count
  generalize s.bump off = r at *
  obtain ⟨t, b⟩ := r
  dsimp only at *
  split
  · rw [(State.raise_raised t clEvent (satEvent_lt off h)).bare, hb]
  · exact hb

end Sys2Proof.Machine
end

