-- ==== Sys2Proof/Laws/RegWrite.lean ====
section
/-! SUPPORT. What a write of a register does once it reaches its block, said once: the word that the access codes make of it, the bits
that the block sees, and the answer. -/

namespace Sys2Proof.Machine

/-- The word that a writer who reaches every field makes of the old word. -/
def RegRow.newWord (r : RegRow) (old wv : Word) : Word :=
  r.fields.foldl (fun acc f => acc ||| BitVec.ofNat 32 (fieldWrite f old.toNat wv.toNat)) 0

/-- The written bits that the block sees of a writer who reaches every field. -/
def RegRow.effWord (r : RegRow) (wv : Word) : Word :=
  r.fields.foldl (fun acc f => acc ||| BitVec.ofNat 32 (wv.toNat &&& fieldMask f)) 0

/-- No field of the row is guarded above the class. -/
def RegRow.openTo (r : RegRow) (c : Nat) : Bool := r.fields.all (fun f => f.guard == .any || (f.guard == .priv && decide (2 ≤ c)) || decide (3 ≤ c))

theorem State.reaches_open (s : State) {c off : Nat} {r : RegRow} (hc : 2 ≤ c) (h : r.openTo c = true) {f : FieldDef}
    (hf : f ∈ r.fields) : s.reaches c off f.guard = true := by
  have h1 := List.all_eq_true.1 h f hf
  have h0 : (c != 0) = true := by simp; omega
  simp only [State.reaches, h0, Bool.true_or, Bool.true_and]
  cases hg : f.guard <;> simp [hg] at h1 ⊢ <;> omega

theorem State.maskedWrite_open (s : State) {c off : Nat} {r : RegRow} (hc : 2 ≤ c) (h : r.openTo c = true) (old wv : Word) :
    s.maskedWrite c off r old wv = (r.newWord old wv, false) := by
  have key : ∀ (l : List FieldDef) (a : Word), (∀ f ∈ l, s.reaches c off f.guard = true) →
      l.foldl (fun (acc : Word × Bool) f =>
        if s.reaches c off f.guard then (acc.1 ||| BitVec.ofNat 32 (fieldWrite f old.toNat wv.toNat), acc.2)
        else (acc.1 ||| BitVec.ofNat 32 (old.toNat &&& fieldMask f), acc.2 || fieldTouched f old.toNat wv.toNat)) (a, false) =
      (l.foldl (fun acc f => acc ||| BitVec.ofNat 32 (fieldWrite f old.toNat wv.toNat)) a, false) := by
    intro l
    induction l with
    | nil => intro a _; rfl
    | cons f l ih =>
      intro a hl
      have hf := hl f (by simp)
      simp only [List.foldl_cons, hf, if_true]
      exact ih _ (fun x hx => hl x (by simp [hx]))
  exact key r.fields 0 (fun f hf => s.reaches_open hc h hf)

theorem State.effectiveWrite_open (s : State) {c off : Nat} {r : RegRow} (hc : 2 ≤ c) (h : r.openTo c = true) (wv : Word) :
    s.effectiveWrite c off r wv = r.effWord wv := by
  have key : ∀ (l : List FieldDef) (a : Word), (∀ f ∈ l, s.reaches c off f.guard = true) →
      l.foldl (fun (acc : Word) f =>
        if s.reaches c off f.guard then acc ||| BitVec.ofNat 32 (wv.toNat &&& fieldMask f) else acc) a =
      l.foldl (fun acc f => acc ||| BitVec.ofNat 32 (wv.toNat &&& fieldMask f)) a := by
    intro l
    induction l with
    | nil => intro a _; rfl
    | cons f l ih =>
      intro a hl
      have hf := hl f (by simp)
      simp only [List.foldl_cons, hf, if_true]
      exact ih _ (fun x hx => hl x (by simp [hx]))
  exact key r.fields 0 (fun f hf => s.reaches_open hc h hf)

theorem State.reachesAny_open (s : State) {c off : Nat} {r : RegRow} (hc : 2 ≤ c) (h : r.openTo c = true)
    (hw : r.fields.any (fun f => f.acc != .ro) = true) : s.reachesAny c off r = true := by
  obtain ⟨f, hf, ha⟩ := List.any_eq_true.1 hw
  exact List.any_eq_true.2 ⟨f, hf, by simp [s.reaches_open hc h hf, ha]⟩

theorem State.serves_reg {s : State} {m : Master} {off c : Nat} (h : s.serves m off c) {r : RegRow} (hr : regRow off = some r) :
    s.reg m off 4 = some r := by
  have h2 := h.2.1
  unfold State.reg at h2 ⊢
  split at h2
  · simp at h2
  · next hn => rw [if_neg hn]; exact hr

/-- The write that a command of one register makes of a register of one word: its block's effect, and the answer. -/
theorem State.regCmd_serves {s : State} {m : Master} {off c : Nat} (h : s.serves m off c) (hc : 2 ≤ c) {r : RegRow}
    (hr : regRow off = some r) (hg : mwGroup off = none) (ho : r.openTo c = true)
    (hw : r.fields.any (fun f => f.acc != .ro) = true) (val : Word) :
    s.regCmd m off 4 val =
      (s.blkTop ⟨m, off, s.keyOfReg m off, (s.entryOf m.mid.val off).getD 0, r.newWord (s.storedWord m off) val, r.effWord val, [], []⟩).2.answer m
        (s.blkTop ⟨m, off, s.keyOfReg m off, (s.entryOf m.mid.val off).getD 0, r.newWord (s.storedWord m off) val, r.effWord val, [], []⟩).1 [] := by
  have hreg := State.serves_reg h hr
  obtain ⟨hwait, _, hgate, hcls, _⟩ := h
  have hc' : 2 ≤ s.writeClass m off := by omega
  have ho' : r.openTo (s.writeClass m off) = true := by
    refine List.all_eq_true.2 fun f hf => ?_
    have := List.all_eq_true.1 ho f hf
    simp only [Bool.or_eq_true, Bool.and_eq_true, decide_eq_true_eq] at this ⊢
    rcases this with (h1 | h1) | h1
    · exact Or.inl (Or.inl h1)
    · exact Or.inl (Or.inr ⟨h1.1, hc'⟩)
    · exact Or.inr (Nat.le_trans h1 hcls)
  unfold State.regCmd State.regWrite State.regWith
  rw [hwait]
  simp only [hreg, hgate, Bool.false_eq_true, if_false, ne_eq, not_true_eq_false]
  unfold State.regPut
  simp only [hg, Option.filter_none, Option.isSome_none]
  have hww : s.wordWrite m (s.writeClass m off) off val = (r.newWord (s.storedWord m off) val, r.effWord val, false) := by
    unfold State.wordWrite
    simp only [hr, s.maskedWrite_open hc' ho', s.effectiveWrite_open hc' ho']
  simp only [hww, s.reachesAny_open hc' ho' hw, if_true, Bool.false_eq_true, if_false, false_and]

/-! ### Bits of a written word -/

theorem fieldMask_testBit (f : FieldDef) (i : Nat) : (fieldMask f).testBit i = (decide (f.lo ≤ i) && decide (i ≤ f.hi)) := by
  unfold fieldMask
  by_cases h : f.lo ≤ f.hi + 1
  · have e : 2 ^ (f.hi + 1) - 2 ^ f.lo = (2 ^ (f.hi + 1 - f.lo) - 1) <<< f.lo := by
      rw [Nat.shiftLeft_eq, Nat.sub_mul, ← Nat.pow_add, Nat.one_mul, Nat.sub_add_cancel h]
    rw [e, Nat.testBit_shiftLeft, Nat.testBit_two_pow_sub_one]
    by_cases h1 : f.lo ≤ i
    · simp [h1]; omega
    · simp [h1]
  · have h2 : 2 ^ (f.hi + 1) ≤ 2 ^ f.lo := Nat.pow_le_pow_right (by omega) (by omega)
    rw [Nat.sub_eq_zero_of_le h2, Nat.zero_testBit]
    symm
    rw [Bool.and_eq_false_iff]
    simp only [decide_eq_false_iff_not]
    omega

theorem foldl_or_testBit (l : List FieldDef) (g : FieldDef → Nat) (a : Word) (i : Nat) :
    (l.foldl (fun acc f => acc ||| BitVec.ofNat 32 (g f)) a).toNat.testBit i =
      (a.toNat.testBit i || (decide (i < 32) && l.any (fun f => (g f).testBit i))) := by
  induction l generalizing a with
  | nil => simp
  | cons f l ih =>
    simp only [List.foldl_cons, ih, BitVec.toNat_or, Nat.testBit_or, BitVec.toNat_ofNat, Nat.testBit_mod_two_pow, List.any_cons]
    cases decide (i < 32) <;> simp [Bool.or_assoc]

/-- Bit `i` of the written bits that a block sees. -/
theorem RegRow.effWord_testBit (r : RegRow) (wv : Word) (i : Nat) :
    (r.effWord wv).toNat.testBit i = (wv.toNat.testBit i && r.fields.any (fun f => decide (f.lo ≤ i) && decide (i ≤ f.hi))) := by
  unfold RegRow.effWord
  rw [foldl_or_testBit]
  have h0 : (0 : Word).toNat.testBit i = false := by simp
  simp only [h0, Bool.false_or, Nat.testBit_and, fieldMask_testBit]
  by_cases hi : i < 32
  · simp only [hi, decide_true, Bool.true_and]
    cases wv.toNat.testBit i <;> simp
  · have : wv.toNat.testBit i = false := Nat.testBit_lt_two_pow (Nat.lt_of_lt_of_le wv.isLt (Nat.pow_le_pow_right (by omega) (by omega)))
    simp [hi, this]

/-- A written field that lies in a field of the row reaches the block as it was written. -/
theorem RegRow.get_effWord (r : RegRow) (wv : Word) (g : FRef)
    (h : r.fields.any (fun f => decide (f.lo ≤ g.lsb) && decide (g.lsb + g.width ≤ f.hi + 1)) = true) : g.get (r.effWord wv) = g.get wv := by
  obtain ⟨f, hf, hb⟩ := List.any_eq_true.1 h
  simp only [Bool.and_eq_true, decide_eq_true_eq] at hb
  apply Nat.eq_of_testBit_eq
  intro i
  simp only [FRef.get, bitsOf_testBit, RegRow.effWord_testBit]
  by_cases hi : i < g.width
  · have : r.fields.any (fun f => decide (f.lo ≤ g.lsb + i) && decide (g.lsb + i ≤ f.hi)) = true :=
      List.any_eq_true.2 ⟨f, hf, by simp; omega⟩
    simp [this]
  · simp [hi]

/-- Bit `i` of the word that a write makes. -/
theorem RegRow.newWord_testBit (r : RegRow) (old wv : Word) (i : Nat) :
    (r.newWord old wv).toNat.testBit i = (decide (i < 32) && r.fields.any (fun f => (fieldWrite f old.toNat wv.toNat).testBit i)) := by
  unfold RegRow.newWord
  rw [foldl_or_testBit]
  simp

theorem sub_and_testBit (a b i : Nat) : (a - (a &&& b)).testBit i = (a.testBit i && !b.testBit i) := by
  have ha : a < 2 ^ a := Nat.lt_two_pow_self
  have hd : (BitVec.ofNat a a &&& BitVec.ofNat a b) &&& (BitVec.ofNat a a &&& ~~~(BitVec.ofNat a b)) = 0#a := by
    ext j; simp; intro _ h _; exact h
  have hs : BitVec.ofNat a a = (BitVec.ofNat a a &&& BitVec.ofNat a b) + (BitVec.ofNat a a &&& ~~~(BitVec.ofNat a b)) := by
    rw [BitVec.add_eq_or_of_and_eq_zero _ _ hd]
    apply BitVec.eq_of_getLsbD_eq
    intro j hj
    simp only [BitVec.getLsbD_or, BitVec.getLsbD_and, BitVec.getLsbD_not, hj, decide_true, Bool.true_and]
    cases (BitVec.ofNat a a).getLsbD j <;> cases (BitVec.ofNat a b).getLsbD j <;> rfl
  have hn : a = (a &&& b) + (BitVec.ofNat a a &&& ~~~(BitVec.ofNat a b)).toNat := by
    have h1 := congrArg BitVec.toNat hs
    rw [BitVec.toNat_add_of_and_eq_zero hd] at h1
    have h2 : (BitVec.ofNat a a &&& BitVec.ofNat a b).toNat = a &&& b := by
      apply Nat.eq_of_testBit_eq
      intro j
      simp only [BitVec.toNat_and, BitVec.toNat_ofNat, Nat.testBit_and, Nat.testBit_mod_two_pow]
      by_cases hj : j < a
      · simp [hj]
      · have : a.testBit j = false := Nat.testBit_lt_two_pow (Nat.lt_of_lt_of_le ha (Nat.pow_le_pow_right (by omega) (by omega)))
        simp [this]
    rw [h2, BitVec.toNat_ofNat, Nat.mod_eq_of_lt ha] at h1
    exact h1
  have he : a - (a &&& b) = (BitVec.ofNat a a &&& ~~~(BitVec.ofNat a b)).toNat := by omega
  rw [he, BitVec.toNat_and, Nat.testBit_and, BitVec.toNat_ofNat, Nat.mod_eq_of_lt ha]
  by_cases hj : i < a
  · have : (~~~(BitVec.ofNat a b)).toNat.testBit i = !b.testBit i := by
      rw [BitVec.testBit_toNat, BitVec.getLsbD_not, BitVec.getLsbD_ofNat]; simp [hj]
    rw [this]
  · have : a.testBit i = false := Nat.testBit_lt_two_pow (Nat.lt_of_lt_of_le ha (Nat.pow_le_pow_right (by omega) (by omega)))
    simp [this]

/-- A field's part of a written word has no bit outside the field. -/
theorem fieldWrite_outside (f : FieldDef) (old wv i : Nat) (h : (fieldMask f).testBit i = false) : (fieldWrite f old wv).testBit i = false := by
  unfold fieldWrite
  cases f.acc <;> dsimp only
  · simp [h]
  · simp [h]
  · simp
  · simp [sub_and_testBit, h]
  · split
    · simp
    · simp [sub_and_testBit, h]
  · split <;> simp [h]
  · split <;> simp [h]

/-- A field that can be written reads, in the word that a write makes, as it was written, where no other field of its row shares a
bit with it. -/
theorem RegRow.get_newWord (r : RegRow) (old wv : Word) (g : FRef) (f : FieldDef) (hf : f ∈ r.fields) (ha : f.acc = .rw)
    (hb : f.lo ≤ g.lsb ∧ g.lsb + g.width ≤ f.hi + 1) (h32 : f.hi < 32)
    (hd : ∀ e ∈ r.fields, e ≠ f → e.hi < f.lo ∨ f.hi < e.lo) : g.get (r.newWord old wv) = g.get wv := by
  apply Nat.eq_of_testBit_eq
  intro i
  simp only [FRef.get, bitsOf_testBit, RegRow.newWord_testBit]
  by_cases hi : i < g.width
  · have h1 : g.lsb + i < 32 := by omega
    have hm : (fieldMask f).testBit (g.lsb + i) = true := by rw [fieldMask_testBit]; simp; omega
    have hw : (fieldWrite f old.toNat wv.toNat).testBit (g.lsb + i) = wv.toNat.testBit (g.lsb + i) := by
      simp [fieldWrite, ha, hm]
    have : r.fields.any (fun e => (fieldWrite e old.toNat wv.toNat).testBit (g.lsb + i)) = wv.toNat.testBit (g.lsb + i) := by
      rw [← hw]
      by_cases hv : (fieldWrite f old.toNat wv.toNat).testBit (g.lsb + i) = true
      · rw [hv]; exact List.any_eq_true.2 ⟨f, hf, hv⟩
      · rw [Bool.not_eq_true] at hv
        rw [hv, List.any_eq_false]
        intro e he
        by_cases hef : e = f
        · rw [hef, hv]; simp
        · have := hd e he hef
          rw [fieldWrite_outside e _ _ _ (by rw [fieldMask_testBit, Bool.and_eq_false_iff, decide_eq_false_iff_not, decide_eq_false_iff_not]; omega)]
          simp
    simp [hi, h1, this]
  · simp [hi]

end Sys2Proof.Machine
end

