-- ==== Sys2Proof/Laws/Finish.lean ====
section
/-! SUPPORT. How a command ends: with no reset asked for, in the state that its meaning leaves; the queue as it was, and no reset waiting. -/

namespace Sys2Proof.Machine

@[simp] theorem State.finish_pending (s t : State) : (s.finish t).pending = s.pending := (rfl)

theorem State.settle_none {t : State} (h : t.resetReq = none) : t.settle = t := by
  unfold State.settle
  rw [h]

/-- With no reset asked for, a command ends where its meaning leaves it. -/
theorem State.finish_none {s t : State} (h : t.resetReq = none) : s.finish t = { t with pending := s.pending } := by
  unfold State.finish
  rw [State.settle_none h]

/-- No reset waits once a command has ended. -/
@[simp] theorem State.finish_resetReq (s t : State) : (s.finish t).resetReq = none := by
  unfold State.finish State.settle
  split
  · assumption
  · rfl

theorem State.finish_rd {s t : State} (h : t.resetReq = none) (k : Nat) : (s.finish t).rd k = t.rd k := by rw [State.finish_none h]; rfl

theorem State.finish_g {s t : State} (h : t.resetReq = none) (f : FRef) : (s.finish t).g f = t.g f := by rw [State.finish_none h]; rfl

theorem State.finish_bare {s t : State} (h : t.resetReq = none) (hp : t.pending = s.pending) : (s.finish t).bare = t.bare := by
  rw [State.finish_none h, ← hp]

end Sys2Proof.Machine
end

