-- ==== Sys2Proof/Machine/Package.lean ====
section
/-! DEFINITION. The ball grid of the package (R500 to R504), the supply limits, conditions and thresholds (R505 to R507), the drive
of a pad (R509) and the life consumed (R518): the data of the package, as functions. -/

namespace Sys2Proof.Machine

/-- What a ball of the grid carries (R501 to R504). -/
inductive Ball
  | field (n : Nat)
  | vio (bank : Nat)
  /-- The pin of a feed channel: 0 SP, 1 SN, 2 DRN, 3 GATE, 4 SRC, 5 NTC. -/
  | feed (ch pin : Nat)
  | ain (n : Nat)
  | nc
  /-- A ring pair: port, receive or transmit, N or P. -/
  | ring (port : Nat) (rx neg : Bool)
  | eth (n : Nat) (rx neg : Bool)
  | txdis (port : Nat)
  | signal (name : String)
  | weir (n : Nat)
  | can (n : Nat) (rx : Bool)
  | usb (n : Nat) (dm : Bool)
  | pwrEn (n : Nat)
  | oc (n : Nat)
  | mdio (n : Nat) (data : Bool)
  | supply (name : String)
  | vssf
  | vss
  deriving DecidableEq, Repr

/-- Row letters by row index 1 to 33 (R500): letters I, O, Q, S, X and Z are not used. -/
def rowNames : List String :=
  ["A", "B", "C", "D", "E", "F", "G", "H", "J", "K", "L", "M", "N", "P", "T", "U", "V", "W", "Y", "AA", "AB", "AC", "AD", "AE", "AF", "AG",
   "AH", "AJ", "AK", "AL", "AM", "AN", "AP"]

/-- The field bank whose pins fill a row (R501). -/
def bankOfRow (row : Nat) : Option Nat :=
  if 1 ≤ row ∧ row ≤ 4 then some (row - 1) else if 30 ≤ row ∧ row ≤ 33 then some (row - 26) else none

/-- The row of a field pin's bank and the pin's column (R501). -/
def fieldBall (n : Nat) : Nat × Nat := (if n / 32 < 4 then n / 32 + 1 else n / 32 + 26, n % 32 + 1)

/-- Rows E and AK: bank supplies among VSS (R501). -/
def bankSupplyRow (first col : Nat) : Ball :=
  if 1 ≤ col ∧ col ≤ 32 ∧ (col - 1) % 8 % 2 = 1 ∧ (col - 1) % 8 < 6 then .vio (first + (col - 1) / 8) else .vss

/-- The left edge: feed channels, comparator inputs and the keep-out (R502). -/
def feedBalls (row col : Nat) : Option Ball :=
  if 7 ≤ row ∧ row ≤ 22 ∧ 1 ≤ col ∧ col ≤ 6 then some (.feed (row - 7) (col - 1))
  else if 24 ≤ row ∧ row ≤ 27 ∧ 1 ≤ col ∧ col ≤ 4 then some (.ain ((row - 24) * 4 + (col - 1)))
  else if (row = 6 ∨ row = 23) ∧ 1 ≤ col ∧ col ≤ 7 then some .nc
  else if 7 ≤ row ∧ row ≤ 22 ∧ col = 7 then some .nc
  else none

/-- The right edge: ring and Ethernet pairs (R503). -/
def serdesBalls (row col : Nat) : Option Ball :=
  if 7 ≤ row ∧ row ≤ 18 ∧ (row - 7) % 3 ≠ 1 then
    if col = 33 ∨ col = 32 then some (.ring ((row - 7) / 3) ((row - 7) % 3 = 2) (col = 32))
    else if col = 30 ∨ col = 29 then some (.eth ((row - 7) / 3) ((row - 7) % 3 = 2) (col = 29))
    else none
  else none

/-- A run of named balls from a column of a row. -/
def runOf (names : List String) (first col : Nat) : Option Ball :=
  if first ≤ col then (names[col - first]?).map Ball.signal else none

/-- The remaining signal balls (R503). -/
def signalBalls (row col : Nat) : Option Ball :=
  match row with
  | 19 => runOf ["HRB", "HCS_N", "HCLK", "HD0", "HD1", "HD2", "HD3", "HD4", "HD5", "HD6", "HD7"] 23 col
  | 20 => runOf ["NOR_RESET_N", "NOR_DQS", "NOR_CS_N", "NOR_CLK", "NOR_IO0", "NOR_IO1", "NOR_IO2", "NOR_IO3", "NOR_IO4", "NOR_IO5",
      "NOR_IO6", "NOR_IO7"] 22 col
  | 21 => runOf ["REF25_P", "REF25_N", "RST_N", "AVS_CLK", "AVS_MDATA", "AVS_SDATA", "TCK", "TMS", "TDI", "TDO", "TRST_N"] 23 col
  | 22 => runOf ["FAULT_N", "SAFE_N", "SNAP", "FEED_KILL", "BYP_N", "VIN_MON"] 28 col
  | 23 => if 18 ≤ col ∧ col ≤ 33 then some (.weir (col - 18)) else none
  | 24 => if 18 ≤ col ∧ col ≤ 33 then some (.can ((col - 18) / 2) ((col - 18) % 2 = 1)) else none
  | 25 =>
    if 22 ≤ col ∧ col ≤ 29 then some (.usb ((col - 20) / 2) (col % 2 = 1))
    else if col = 30 then some (.signal "USB_REXT")
    else if col = 32 ∨ col = 33 then some (.usb 0 (col = 33)) else none
  | 26 => if 26 ≤ col ∧ col ≤ 29 then some (.pwrEn (col - 25)) else if 30 ≤ col ∧ col ≤ 33 then some (.oc (col - 29)) else none
  | 27 => if 26 ≤ col ∧ col ≤ 33 then some (.mdio ((col - 26) / 2) (col % 2 = 1)) else none
  | 28 => if 30 ≤ col ∧ col ≤ 33 then some (.txdis (col - 30)) else none
  | _ => none

/-- The supply balls and the feed die's ground (R504). -/
def supplyBalls (row col : Nat) : Option Ball :=
  if 7 ≤ row ∧ row ≤ 18 ∧ (row + col) % 2 = 1 ∧ 10 ≤ col ∧ col ≤ 26 then some (.supply "VCORE")
  else if 7 ≤ row ∧ row ≤ 18 ∧ (row + col) % 2 = 1 ∧ (col = 8 ∨ col = 9 ∨ col = 27 ∨ col = 28) then some (.supply "VSRAM")
  else if row = 6 ∧ 8 ≤ col ∧ col ≤ 15 then some (.supply "VAON")
  else if row = 6 ∧ 18 ≤ col ∧ col ≤ 33 then some (.supply "VSDS085")
  else if row = 19 ∧ 11 ≤ col ∧ col ≤ 22 then some (.supply "VSDS12")
  else if row = 20 ∧ 16 ≤ col ∧ col ≤ 21 then some (.supply "VIO18")
  else if row = 25 ∧ 18 ≤ col ∧ col ≤ 21 then some (.supply "VUSB")
  else if row = 28 ∧ 1 ≤ col ∧ col ≤ 4 then some (.supply "VFEED")
  else if (24 ≤ row ∧ row ≤ 27 ∧ 5 ≤ col ∧ col ≤ 8) ∨ (row = 28 ∧ 5 ≤ col ∧ col ≤ 12) then some .vssf
  else none

/-- The ball at a row index and a column, each 1 to 33 (R500 to R504): every ball that no table names is VSS. -/
def ballAt (row col : Nat) : Ball :=
  match bankOfRow row with
  | some b => if col = 33 then .vio b else .field (b * 32 + (col - 1))
  | none =>
    if row = 5 then bankSupplyRow 0 col
    else if row = 29 then bankSupplyRow 4 col
    else ((feedBalls row col).orElse fun _ => (serdesBalls row col).orElse fun _ => (signalBalls row col).orElse fun _ =>
      supplyBalls row col).getD .vss

/-- Whether a ball carries a signal, by the counts of R504. -/
def Ball.isSignal : Ball → Bool
  | .vio _ | .nc | .supply _ | .vssf | .vss => false
  | .field _ | .feed .. | .ain _ | .ring .. | .eth .. | .txdis _ | .signal _ | .weir _ | .can .. | .usb .. | .pwrEn _ | .oc _ | .mdio .. => true

/-- How many balls of a row are of a kind, and of the whole grid. -/
def rowCount (f : Ball → Bool) (row : Nat) : Nat := ((List.range 33).filter fun c => f (ballAt row (c + 1))).length
def gridCount (f : Ball → Bool) : Nat := ((List.range 33).map fun r => rowCount f (r + 1)).foldr (· + ·) 0

/-! ### Supplies (R505 to R507), in mV -/

/-- The supplies of R505 and R506. -/
inductive Supply
  | vcore | vaon | vsram | vsds085 | vsds12 | vio18 | viob | vusb | vfeed
  deriving DecidableEq, Repr

/-- The highest voltage a supply may have without damage (R505); the lowest is -300 mV for each. -/
def Supply.absMax : Supply → Int
  | .vcore | .vaon | .vsram | .vsds085 => 1000
  | .vsds12 => 1400
  | .vio18 => 2100
  | .viob | .vusb => 3900
  | .vfeed => 6000

def Supply.withinAbs (x : Supply) (mv : Int) : Bool := decide (-300 ≤ mv ∧ mv ≤ x.absMax)

/-- Whether a supply is within the operating conditions (R506): VCORE within 10 mV of the setpoint, VIOb within 5 % of its nominal `nom`,
given as twenty times the voltage. -/
def State.supplyOk (s : State) (x : Supply) (nom mv : Int) : Bool :=
  match x with
  | .vcore => decide (600 ≤ mv ∧ mv ≤ 900 ∧ (s.g PWR_AVS_STAT.VSET : Int) - 10 ≤ mv ∧ mv ≤ (s.g PWR_AVS_STAT.VSET : Int) + 10)
  | .vaon | .vsram => decide (776 ≤ mv ∧ mv ≤ 824)
  | .vsds085 => decide (825 ≤ mv ∧ mv ≤ 875)
  | .vsds12 => decide (1140 ≤ mv ∧ mv ≤ 1260)
  | .vio18 => decide (1710 ≤ mv ∧ mv ≤ 1890)
  | .viob => decide (nom ∈ [1800, 2500, 3300]) && decide (19 * nom ≤ 20 * mv ∧ 20 * mv ≤ 21 * nom)
  | .vusb => decide (3135 ≤ mv ∧ mv ≤ 3465)
  | .vfeed => decide (4750 ≤ mv ∧ mv ≤ 5250)

/-- The largest current of each supply in mA, without loads (R506). -/
def Supply.maxMa : Supply → Nat
  | .vcore => 4710
  | .vaon => 150
  | .vsram => 900
  | .vsds085 => 1600
  | .vsds12 => 300
  | .vio18 => 35
  | .viob => 15
  | .vusb => 60
  | .vfeed => 160

/-- VAON's power-on release and its loss, and what counts as VCORE and VSRAM good at stage 1 (R426, R507). -/
def vaonRelease : Int := 700
def vaonLost : Int := 660
def vcoreGood : Int := 570
def vsramGood : Int := 720
def vcoreStart : Nat := 800

/-- The range that the monitor of a bank of nominal voltage `nom` mV takes as good (R309, R507). -/
def vioRange (nom : Nat) : Option (Nat × Nat) :=
  if nom = 1800 then some (1620, 1980) else if nom = 2500 then some (2250, 2750) else if nom = 3300 then some (2970, 3630) else none

/-- The output current in mA of a pad of a bank at `nom` mV with a DRIVE code (R509). -/
def driveMa (nom code : Nat) : Option Nat :=
  if 3 < code then none
  else if nom = 1800 then some (2 * (code + 1)) else if nom = 2500 then some (3 * (code + 1)) else if nom = 3300 then some (4 * (code + 1))
  else none

/-! ### Life (R518) -/

/-- The powered hours of a life (R518). -/
def lifeHours : Nat := 350640

/-- Twice the hours of life consumed: TEL_BIN0 + TEL_BIN1 + 2.5 × TEL_BIN2 (R518). -/
def State.lifeUsed2 (s : State) : Nat := 2 * s.g (TEL_BIN.HRS 0) + 2 * s.g (TEL_BIN.HRS 1) + 5 * s.g (TEL_BIN.HRS 2)

/-- Whether the life of R5 still holds as far as the state shows it (R518). -/
def State.lifeHolds (s : State) : Bool := s.g (TEL_BIN.HRS 3) == 0 && decide (s.lifeUsed2 ≤ 2 * lifeHours)

/-! ### Levels of the output balls (R478, R503, R510) -/

/-- The level of an output ball of R503 that follows from the state; HRB is that of HCS_N high. While VIO18 is absent the pull-downs of
R510 hold FAULT_N, SAFE_N and BYP_N low, which reads faulted, safe and bypassed; none where the ball is another's or undriven. -/
def State.outLevel (s : State) (vio18 : Bool) (name : String) : Option Bool :=
  if name = "FEED_KILL" then some (s.flag FEED_STAT.KILL)
  else if name = "FAULT_N" then some (vio18 && s.faultN)
  else if name = "SAFE_N" then some (vio18 && s.safeN)
  else if name = "BYP_N" then some (vio18 && s.flag PORT_BYP.PIN)
  else if !vio18 then none
  else if name = "SNAP" then some (s.g SNAP_STAT.STATE == 2)
  else if name = "HRB" then some s.hrbIdle
  else none

end Sys2Proof.Machine
end

