-- ==== Sys2Proof/Tests/Slice0.lean ====
section
/-! SUPPORT. Tests: an ill-formed term for each check of WellFormed, which refuses it, and results that the manual works out. -/

open Sys2Proof Sys2Proof.Machine

/-! ### Ill-formed commands -/

/-- A frame of no payload whose fields fit. -/
def Tests.fine : Frame := ⟨0, 0, 0, 0, 0, false, false, 0, 0, 0, 0, 0, 0, 0, false, false, 0, []⟩

theorem test_frame_fine : Tests.fine.ok = true := by decide

/-- Each field of the header one past its range (R96). -/
theorem test_ill_formed_frame_fields :
    [{ Tests.fine with dst := 2 ^ 16 }, { Tests.fine with src := 2 ^ 16 }, { Tests.fine with cls := 8 }, { Tests.fine with typ := 32 },
      { Tests.fine with flow := 1024 }, { Tests.fine with seq := 2 ^ 32 }, { Tests.fine with len := 1 }, { Tests.fine with hops := 4096 },
      { Tests.fine with an := 4 }, { Tests.fine with rescorr := 2 ^ 64 }, { Tests.fine with pn := 2 ^ 32 }, { Tests.fine with turns := 4 },
      { Tests.fine with epoch := 256 }].all (fun f => !f.ok) = true := by decide

theorem test_ill_formed_frame_length (l : List Byte) (h : l.length = 16385) :
    Frame.ok { Tests.fine with len := 16385, payload := l } = false := by
  simp [Frame.ok, h]

/-- Every command that carries a frame refuses one whose LEN is not its payload's. -/
theorem test_ill_formed_frames :
    let f : Frame := { Tests.fine with len := 1 }
    [Instr.helloReceive 0 f, .ringStateWrapReceive 0 f none, .healReadyReceive 0 f none, .unwrapReceive 0 f none, .ldlyReqReceive 0 f 0,
      .ldlyRspReceive 0 f 0, .summationFramePass 0 f, .workArrival f none, .workAckReceive f none, .rreadReceive f none, .rreadRspReceive f none,
      .tunnelFrameArrive f none, .syncReceive 0 f 0, .runnelOfferReceive 0 f, .runnelAnswerReceive 0 f, .runnelChunkReceive 0 f,
      .runnelHaveReceive 0 f, .kaInitReceive 0 f, .kaRespReceive 0 f, .kaConfirmReceive 0 f, .alarmReceive f none].all (fun c => !c.wellFormed) = true := by decide

/-- Every command that reads a frame's tiles refuses an index past the buffer (R203). -/
theorem test_ill_formed_tiles :
    let f := Tests.fine
    let b := some 24576
    [Instr.ringStateWrapReceive 0 f b, .healReadyReceive 0 f b, .unwrapReceive 0 f b, .workArrival f b, .workAckReceive f b, .rreadReceive f b,
      .rreadRspReceive f b, .tunnelFrameArrive f b, .alarmReceive f b, .egressFrameStart 0 0 b, .ethEgressSend 0 0 b, .frameAdmit 0 0 b,
      .ethFrameReceive 0 [] true false b, .ptpEventReceive 0 [] 0 b].all (fun c => !c.wellFormed) = true := by decide

/-- The bytes of a split and of a report on the hub's ports (R366). -/
theorem test_ill_formed_bus (e : TtEp) (l m : List Byte) (h : l.length = 189) (k : m.length = 1024) :
    busOk (.startSplit 0 e l) = false ∧ busOk (.ran 0 e (.done m)) = false ∧ busOk (.outReport 0 0 65) = false := by
  simp [busOk, h, k]

theorem test_ill_formed_registers :
    [Instr.registerWrite ⟨2, 0⟩ (2 ^ 40) 4 0, .registerWrite ⟨2, 0⟩ 0 3 0, .multiwordReadLatch ⟨2, 0⟩ (2 ^ 40), .multiwordStagedWrite ⟨2, 0⟩ (2 ^ 40) 0,
      .counterClear ⟨2, 0⟩ (2 ^ 40) 0].all (fun c => !c.wellFormed) = true := by decide

theorem test_ill_formed_numbers :
    [Instr.pointRead ⟨2, 0⟩ (2 ^ 40) 8, .pointRead ⟨2, 0⟩ 0 0, .pointWrite ⟨2, 0⟩ (2 ^ 40) [0], .pointWrite ⟨2, 0⟩ 0 [], .pointAtomic ⟨2, 0⟩ (2 ^ 40) .add 0 0,
      .windowRead ⟨2, 0⟩ 0 0 65537, .reservoirPatrol 4194304 .good, .reservoirPatrol 4 .good, .remoteReadRequest ⟨2, 0⟩ 0 0, .rreadRetryExpire (2 ^ 32),
      .rreadReachTimeout (2 ^ 32), .journalWindowRead ⟨2, 0⟩ 0 0 0, .pauseFrameReceive 0 0 0 [65536], .hostWrite 0 [] true, .hostRead 0 1025 true,
      .hostReadOnce 0 0 true, .vioBankGoodChange 0 6001, .cisternPop ⟨2, 0⟩ 0 0 none 0, .usbWrite 0 0 [], .usbRead 0 0 1025, .usbReadOnce 0 0 0,
      .cmpRawChange 0 1025, .bootDomainsReady 1025 0].all
      (fun c => !c.wellFormed) = true := by decide

theorem test_ill_formed_samples :
    [Instr.feedSample 0 0 100001 0 0 0 none, .feedSample 0 0 0 100001 0 0 none, .feedSample 0 0 0 0 100001 0 none].all (fun c => !c.wellFormed) = true := by
  decide

theorem test_ill_formed_can :
    [(⟨false, false, false, false, false, 2 ^ 29, 0, []⟩ : CanFrame), ⟨false, false, false, false, false, 0, 16, []⟩].all
      (fun f => !(Instr.canFrameReceive 0 f 0 0).wellFormed) = true := by decide

theorem test_ill_formed_steps :
    (Instr.votedOutput 0 ⟨1, 0, 9, [], false⟩ ⟨1, 0, 8, [], false⟩ ⟨1, 0, 8, [], false⟩ false).wellFormed = false := by decide

theorem test_ill_formed_lengths (l : List Byte) (h : l.length = 33554433) :
    (Instr.frameTrailerCheck 0 l [] 0 none).wellFormed = false ∧ (Instr.frameTrailerCheck 0 [] l 0 none).wellFormed = false ∧ (Instr.pelumFrameReceive 0 l 0 false).wellFormed = false ∧
      (Instr.windowDeviceAnswer 0 true l).wellFormed = false ∧ (Instr.workSubmit ⟨2, 0⟩ 0 1 0 l 0).wellFormed = false ∧
      (Instr.ethFrameReceive 0 l true false none).wellFormed = false ∧ (Instr.ptpEventReceive 0 l 0 none).wellFormed = false ∧
      (Instr.signalUpdate 0 0 0 l false).wellFormed = false ∧ (Instr.cisternPush ⟨2, 0⟩ 0 l).wellFormed = false ∧
      (Instr.cisternPushClose ⟨2, 0⟩ 0 0 l).wellFormed = false ∧ (Instr.hidReportReceive 0 0 l).wellFormed = false ∧
      (Instr.bootLoadDone l true true).wellFormed = false ∧ (Instr.debugUnlock l []).wellFormed = false ∧
      (Instr.debugUnlock [] l).wellFormed = false ∧
      (Instr.canFrameReceive 0 ⟨false, true, false, false, false, 0, 0, l⟩ 0 0).wellFormed = false := by
  simp [Instr.wellFormed, CanFrame.ok, h]

/-! ### The table gives no row any bits -/

theorem test_no_word_spells_a_command (nbits w : Nat) : decodeTableWord nbits w = none := rfl

/-! ### Results that the manual works out -/

/-- The header's bytes (R96): DST 0x0130, SRC 0x0120, CLASS 5 and TYPE 0x0C, FLOW 31, SEQ 9,000. -/
theorem test_header_bytes :
    (encHeader { Tests.fine with dst := 0x0130, src := 0x0120, cls := 5, typ := 0x0C, flow := 31, seq := 9000 }).take 11 =
      [0x01, 0x30, 0x01, 0x20, 0xAC, 0x07, 0xC0, 0x00, 0x00, 0x23, 0x28] := by decide +kernel

/-- R239's worked write: 576 bytes at offset 0x10_00A0 make pieces of 96, 256 and 224 bytes. -/
theorem test_pieces : (pieces 0x0130000000100160 576).map (·.2) = [160, 256, 160] ∧
    (pieces 0x01300000001000A0 576).map (·.2) = [96, 256, 224] := by decide +kernel

/-- The roller drive's FEED04_POLE1 (R393): R 350, TAU 2,000. -/
theorem test_pole_word : (FEED_POLE.R 4 1).get 0x07D0015E = 350 ∧ (FEED_POLE.TAU 4 1).get 0x07D0015E = 2000 := by decide +kernel

/-- The RS-485 port's word 0x7209 at address 4 (R320): the next 3 words, 9 times. -/
theorem test_jet_rep :
    let s : State := { State.reset with regs := [(JET_CTRL.off 5, 1), (JET_PC.off 5, 4)] }
    ((s.jetRep 5 0x7209).jet 5).ls = 5 ∧ ((s.jetRep 5 0x7209).jet 5).le = 7 ∧ ((s.jetRep 5 0x7209).jet 5).lcnt = 9 := by decide +kernel

/-- The chattering photo-eye (R484): the 65th entry of a window enters Spillway and raises EV002. -/
theorem test_spillway :
    let s : State := { State.reset with sump := { State.reset.sump with winEntries := 64 } }
    (s.raise 21 0).sump.spill = true ∧ (s.raise 21 0).evPend 2 = true ∧ (s.raise 21 0).sump.log = [] := by decide +kernel

/-- The handover with P = 1 ms and LEAD 1,000 µs (R451): written at 60,000,400,000, C is 60,002,000,000. -/
theorem test_handover_instant :
    let s : State := { State.reset with
      clep := { State.reset.clep with sec := 60, ns := 400000 }
      regs := [(UPD_STAT.off, 6), (FH_STAT.off, 0x20015)] }
    (s.fhHandover ⟨2, 0⟩).2.upd.cDue = some 60002000000 := by decide +kernel

/-- Field pin F117 sits at ball D22 (R500), and 503 balls of the grid carry a signal. -/
theorem test_balls : fieldBall 117 = (4, 22) ∧ gridCount Ball.isSignal = 503 := by decide +kernel
end

