-- ==== Sys2Proof/Tests/Witnesses.lean ====
section
/-! SUPPORT. Tests: for every statement with hypotheses, and for each of its clauses, a state and operands that meet them. -/

open Sys2Proof Sys2Proof.Machine

/- One witness is checked after another: many at once would ask for a thread each. -/
set_option Elab.async false
set_option synthInstance.maxSize 4096
set_option synthInstance.maxHeartbeats 400000

/-! ### The states that the witnesses start from -/

/-- The part as a start-up leaves it: every domain ON but FH_B, which is in RETENTION; unit A active; node 1. -/
def Tests.booted : State :=
  { State.reset with
    regs := [(DEV_NODE.off, 1), (PWR_DOM_STAT.off 1, 2), (PWR_DOM_STAT.off 2, 1), (PWR_DOM_STAT.off 3, 2), (PWR_DOM_STAT.off 4, 2),
      (PWR_DOM_STAT.off 5, 2), (PWR_DOM_STAT.off 6, 2), (PWR_DOM_STAT.off 7, 2), (PWR_DOM_STAT.off 8, 2), (PWR_DOM_STAT.off 9, 2),
      (PWR_DOM_STAT.off 10, 2), (PWR_DOM_STAT.off 11, 2), (PWR_DOM_STAT.off 12, 2), (PWR_DOM_STAT.off 13, 2), (PWR_DOM_STAT.off 14, 2),
      (PWR_DOM_STAT.off 15, 2), (CFG_BOOT.off, 0x10005), (CFG_NOR.off, 0x20000364), (FLOW_STAT.off, 1), (FH_STAT.off, 0x20005)]
    fh := { State.reset.fh with released := true } }

/-- The supervisor of unit A. -/
def Tests.sup : Master := ⟨2, 0⟩

open Tests


namespace Tests.Bw

def wp : State := let s := ((booted.putRec 0 ⟨5, 7, qGood, 5⟩).wr (bankKey PNT_PROF_CFG.off 0) 0xFFFFFFF8)
  { s with pts := { s.pts with cache := [0, 1, 2] } }
def wb : State := let s := (((wp.putRec 17 ⟨9,9,qGood,5⟩).wr (bankKey PNT_PROF_CFG.off 0) (BitVec.ofNat 32 (0xFFFFFFF8 + okAgent))).p (PNT_WIN_CFG.VALID.at 0) 1).p (PNT_WIN_CFG.KIND.at 0) 1
  { s with pts := { s.pts with binds := [(17, some ⟨0, 0x100, 8, 1000⟩)] } }

end Tests.Bw

namespace Tests.Cp

def stp (s : State) (p st : Nat) : State := (s.p (PORT_CFG.MODE p) 2).p (PORT_STAT.STATE p) st
def allp (st : Nat) : State := (List.range 4).foldl (fun s p => stp s p st) booted
def fW : Frame := booted.mkFrame 16 4 1 3 5 true (List.replicate 8 7)
def fW1 : Frame := { fW with src := 2 }
def upd1 (s : State) (p : Nat) (f : Port → Port) : State := s.setPort p (f (s.port p))
def rsP (kind epoch node nt cyc at_ : Nat) : List Byte := encRingState { kind := kind, epoch := epoch, node := node, port := 0, nbrTurned := nt == 1, cycle := cyc, at_ := at_, nbr := 9 }
def fr (typ cls : Nat) (pl : List Byte) (b : Bool) : Frame := { fW1 with typ := typ, cls := cls, payload := pl, len := pl.length, planeB := b }
def hel (node port : Nat) (t : Bool) : List Byte := encHello { node := node, port := port, sec := false, fec := false, ka := false, turned := t, state := 3, epoch := 0, uid := 0x1234, mapId := 0 }
def hel2 : List Byte := encHello { node := 2, port := 1, sec := false, fec := false, ka := false, turned := false, state := 3, epoch := 0, uid := 0x5678, mapId := 0 }
def all4 (s : State) (f : Port → Port) : State := (List.range 4).foldl (fun s p => upd1 s p f) s
def up := allp psUp
def fK : Frame := { fW1 with typ := tyWork, cls := 5 }
def slotK : RxSlot := ⟨encHeader fK, decHeader (encHeader fK), 5, true, none, false, some 0, false⟩
def mstr (s : State) : State := ((s.p RING_ROLE.MASTER 1).p RING_CFG.EN 1)
def sig (s : State) : State := [16,17,18,19].foldl (fun s n => s.pb (CMP_STAT.RAW n) true) s
def lat (s : State) : State := { s with clep := { s.clep with ns := 50000 } }
def trn (s : State) : State := { s with links := { s.links with turns := [⟨0, 1, 0, true⟩] } }

end Tests.Cp

namespace Tests.Dp

def rg : State := { ((((((booted.p RING_CFG.EN 1).p RING_ACT_S.LEN 8).p RING_ACT_C.LEN 40).p RING_ACT_W.LEN 40).p RING_ACT_T.LEN 40).p RING_ACT_G.LEN 8).p RING_CFG.ELIG 1 with clep := { booted.clep with sec := 1, ns := 0 } }
def atNs (s : State) (n : Nat) : State := { s with clep := { s.clep with ns := n } }
def inC (s : State) : State := atNs { s with cyc := { s.cyc with num := s.cycleNow, began := s.cycleBegan } } 2000
def aftC (s : State) : State := atNs { s with cyc := { s.cyc with num := s.cycleNow, began := s.cycleBegan } } 7000
def upp (s : State) : State := [0,1,2,3].foldl (fun s p => (s.p (PORT_CFG.MODE p) 2).p (PORT_STAT.STATE p) psUp) s
def lau (s : State) : State := { s with cyc := { s.cyc with launching := true } }
def stg (s : State) (l : List (Nat × Word)) : State := { s with staging := l.flatMap (fun e => [⟨2, e.1, e.2⟩, ⟨8, e.1, e.2⟩]) }
def nxt : State := (((((atNs rg 0).p RING_NEXT_CYC.K 5).p RING_NEXT_S.LEN 8).p RING_NEXT_C.LEN 40).p RING_NEXT_G.LEN 4)
def fr (k cyc m b : Nat) (mapId : Nat) : Frame := { booted.mkFrame tySummation 6 0xFFFF 0 5 false (sumHead cyc m b 0 1 k 0 mapId ++ List.replicate 64 0) with src := 2 }

end Tests.Dp

namespace Tests.Ep

def fl2 (s : State) : State := ((s.p (FLOW_CFG.VALID.at 0) 1).p (FLOW_CFG.NODE.at 0) 2)
def fl1 (s : State) : State := ((s.p (FLOW_CFG.VALID.at 1) 1).p (FLOW_CFG.NODE.at 1) 1)
def bs : State := { (fl1 (fl2 booted)) with clep := { booted.clep with sec := 100, ns := 5 }, pts := { booted.pts with cache := [0, 1, 2] } }
def bsB : State := { bs with flow := { bs.flow with flows := [(0, ⟨4, 0xFFFFFFFF, 0xFFFFFFFE, 0, none, false⟩)] } }
def it0 : Item := ⟨0, 7, 4, 1, 2 * 2^48 + 2^40 + 0x80004, [1,2,3,4], 0, 2, 3, none, .store sup⟩
def itN : Item := { it0 with path := .none }
def o0 : OutItem := ⟨itN, false, [], 0, 0, 7⟩
def g0 : JGroup := ⟨[.acc it0 true], 1, 0, 50⟩
def wk (s : State) (f : Flows → Flows) : State := { s with flow := f s.flow }
def wfr (op addr seq inc low : Nat) (data : List Byte) : Frame := { (booted.mkFrame tyWork 5 1 3 seq true (itemHead addr op 3 data.length inc low 0 ++ data)) with src := 2 }
def rgA : Nat := 2^40 + DEV_RMT_MAP.off
def ii : InItem := frameItem (wfr 1 rgA 5 2 5 [1,2,3,4])
def ackf (st : Nat) : Frame := { (booted.mkFrame tyWorkAck 5 1 0 7 true (bytesBE 4 4 ++ bytesBE 1 st ++ List.replicate 27 0)) with src := 2 }
def rr : RRead := ⟨9, 2, 5*256, 8, 2, .master sup, 0, 20, 0⟩
def rrf : Frame := { (booted.mkFrame tyRread 5 1 0 9 false (bytesBE 8 (2*2^40) ++ bytesBE 2 8 ++ List.replicate 6 0)) with src := 2 }
def rrs : Frame := { (booted.mkFrame tyRreadRsp 5 1 0 9 false ([0,0] ++ bytesBE 2 8 ++ List.replicate 12 0 ++ [1,2,3,4,5,6,7,8])) with src := 2 }
def ptd (s : State) : State := s.putRec 5 ⟨77, 3, qGood, 2⟩
def rrp : Frame := { (booted.mkFrame tyRread 5 1 0 9 false (bytesBE 8 (2^48+16*5) ++ bytesBE 2 16 ++ List.replicate 6 0)) with src := 2 }

end Tests.Ep

namespace Tests.Fp

def eu : State := [0,1,2,3].foldl (fun s n => (((s.p (ETH_CFG.MODE n) 1).p (ETH_STAT.LINK n) 1).p (ETH_STAT.AN_DONE n) 1).p (ETH_FLOOD.DEST n) 0xF) booted
def fr0 : Frame := ethFrame 3 (List.replicate 70 9)
def w0 : WEnt := ⟨8, 3, [5], fr0, true, 74, none, 77⟩
def w1 : WEnt := ⟨4, 3, [8], fr0, true, 74, none, 77⟩
def sw (s : State) (f : Switch → Switch) : State := { s with sw := f s.sw }
def q0 : QEnt := ⟨5, 3, 1, false, 1, fr0⟩
def s0 : SFrame := ⟨1, fr0, true, 8, 74, 1, false, [], false, false, false, none, 77⟩
def later (s : State) : State := { s with clep := { s.clep with sec := 50 } }
def w5 : WEnt := ⟨5, 3, [4], fr0, true, 74, none, 77⟩
def lim (s : State) : State := (List.range 88).foldl (fun s k => s.p (SW_LIM.LIMIT.at k) 200) s

end Tests.Fp

namespace Tests.Gp

def wp : State := let s := ((booted.putRec 0 ⟨5, 7, qGood, 5⟩).wr (bankKey PNT_PROF_CFG.off 0) 0xFFFFFFF8)
  { s with pts := { s.pts with cache := [0, 1, 2] } }
def bg (s : State) (f : Brg → Brg) : State := { s with brg := f s.brg }
def pw0 : PwEnt := ⟨65535, 5, [1], none, 0, false⟩
def dr0 : DrEnt := { tag := 3, addr := 0, len := 16, once := false, side := false, pieces := [(0, 16)], flying := false, doubt := false, data := [], retried := true, done := none, window := 0, after := 0 }
def drD (side : Bool) : DrEnt := { dr0 with done := some (0, 5), data := [1,2,3], window := 5, side := side, pieces := [] }
def lat (s : State) : State := { s with clep := { s.clep with sec := 50 } }
def inW : InItem := ⟨2, 3, 5, 2, 5, 1, 16, [1], 3, false, false, 0x10⟩
def drH : WinReq := ⟨3, 0, 4, false, [], .reader (.dr 3), 0⟩
def drR : WinReq := ⟨3, 0, 4, false, [], .rread 2 5 0, 0⟩
def wq (s : State) : State := { s with pts := { s.pts with reqs := [drR, drH] } }

end Tests.Gp

namespace Tests.Hp

def bs : State := { booted with clep := { booted.clep with sec := 5, ns := 100 } }
def stg (s : State) (l : List (Nat × Word)) : State := { s with staging := l.flatMap (fun e => [⟨2, e.1, e.2⟩, ⟨8, e.1, e.2⟩]) }
def cl (s : State) (f : Clep → Clep) : State := { s with clep := f s.clep }
def a0 (sec : Bool) : TAct := ⟨17, 400, .toggle, sec, 0, 3, 0, 5, 2⟩
def sf : Frame := { (booted.mkFrame tySync 7 0xFFFF 0 5 false (encSync ⟨4, 100, 5, 3, 1, 0, 0⟩)) with src := 2, hops := 3, turns := 1 }
def ptp : List Byte := List.replicate 12 3 ++ [0x88, 0xF7, 0, 2] ++ List.replicate 60 2
def ed : EdgeEnt := ⟨40, 5, true, false, false, 3⟩
def eu : State := [0,1,2,3].foldl (fun s n => (((s.p (ETH_CFG.MODE n) 1).p (ETH_STAT.LINK n) 1).p (TIME_PTP_CFG.EN n) 1).p (TIME_PTP_CFG.L2 n) 1) bs
def lim (s : State) : State := (List.range 88).foldl (fun s k => s.p (SW_LIM.LIMIT.at k) 200) s

end Tests.Hp

namespace Tests.Ip

def hh (s : State) (f : Fh → Fh) : State := { s with fh := f s.fh }
def b0 : State := { (booted.p FH_CTRL.FO_EN 1) with clep := { booted.clep with sec := 5000000, ns := 7 } }
def fo0 : State := hh ((b0.setUnit 0 fhFailed).setUnit 1 fhRestore |>.setDom 2 dsOn) (fun h => { h with trig := some 5, mem := [(5, 1), (2^20+5, 7), (2^20+0x80001, 6)] })
def sc : Ckpt := ⟨4, 0, 0, 0, 0, [], [], []⟩
def zp : State := ((((b0.p FH_ZP_RUN.VALID 1).p FH_ZP_RUN.PROG 3).p (FH_ZP_CFG.EN 3) 1).p (FH_ZP_CFG.BUDGET 3) 9).p (FH_ZP_CFG.LIMIT 3) 1
def zz (s : State) : State := hh s (fun h => { h with zoneUser := some 0, zoneAt := 5 })

end Tests.Ip

namespace Tests.Jp1

def b0 : State := { booted with clep := { booted.clep with sec := 5000000, ns := 7 } }
def jr (s : State) (j : Nat) : State := (((s.p (JET_CTRL.RUN j) 1).p (JET_TG.EN (jetBank j) 0) 1))
def word (s : State) (j w : Nat) : State := s.p (JET_PROG.WORD j (s.g (JET_PC.PC j))) w
def cz (s : State) : State := { s with pts := { s.pts with cache := [0] } }
def j0 (j : Nat) (f : Jet → Jet) : State := let s := jr b0 j; let s := (s.p (JET_PC.PC j) 9).wr (JET_D.off j) 0x80000101; let s := (s.p (JET_FRAME.WIDTH j) 8).wr (JET_M.off j) 0xFFFFFFFF
  ((s.p (JET_MAPEN.OUT_EN j) 255).p (JET_MAPEN.IN_EN j) 255 |>.p (FIO_PIN_CFG.OWNER 0) 2 |>.p (FIO_PIN_CFG.JET 0) j).setJet j (f (s.jet j))
def jst (j : Nat) : List State := [j0 j id, (j0 j (fun v => { v with cur := 8, lcnt := 3, ls := 4, le := 9, tx := [0x55, 6], rx := [1,2,3,4], outEn := 255, seen := true })).p (JET_N.N0 j) 3 |>.p (JET_FRAME.ORDER j) 1,
  (j0 j (fun v => { v with cur := 32, lcnt := 1, ls := 4, le := 9, tx := [5] })).p (FIO_PIN_CFG.OWNER 0) 0 |>.wr JET_SIG.off 0xFFFF]

end Tests.Jp1

namespace Tests.Jp2

def b0 : State := { booted with clep := { booted.clep with sec := 5000000, ns := 7 } }
def jr (s : State) (j : Nat) : State := (((s.p (JET_CTRL.RUN j) 1).p (JET_TG.EN (jetBank j) 0) 1))
def j0 (j : Nat) (f : Jet → Jet) : State := let s := jr b0 j; let s := (s.p (JET_PC.PC j) 9).wr (JET_D.off j) 0x80000101; let s := (s.p (JET_FRAME.WIDTH j) 8).wr (JET_M.off j) 0xFFFFFFFF
  ((s.p (JET_MAPEN.OUT_EN j) 255).p (JET_MAPEN.IN_EN j) 255 |>.p (FIO_PIN_CFG.OWNER 0) 2 |>.p (FIO_PIN_CFG.JET 0) j).setJet j (f (s.jet j))
def bit (s : State) (t : Nat) : State := s.putRec 5 { PRec.dflt 0 with typ := t, value := 1 }
def gf (a : Nat) : GrpFire := ⟨3, if a = 1 then 0 else 1, BitVec.ofNat 32 (0xF1 + a * 65536), 0x80000001, 0x80000000⟩
def grp (a : Nat) (s : State) : State := { ((s.p (JET_GRP_CFG.ACTION 3) a).wr (JET_GRP_LO.off 3) 0x80000001 |>.wr (JET_GRP_HI.off 3) 0x80000000 |>.p (JET_CTRL.ENTRY 63) 5) with jets := { s.jets with fired := [gf a] } }
def cp (s : State) (f : Pins → Pins) : State := { s with pins := f s.pins }

end Tests.Jp2

namespace Tests.Kp1

def b0 : State := { booted with clep := { booted.clep with sec := 5000000, ns := 7 } }
def pk (t l : Nat) : Packet := ⟨t, l, packWords (List.replicate l 3)⟩
def ci (n : Nat) (f : Cistern → Cistern) : State := let s := ((b0.p (CST_CFG.EN n) 1).p (CST_CFG.PROD n) 1).p (CST_PROD.MID n) 2 |>.p (CST_REGION.SIZE n) 1; s.setCist n (f (s.cist n))
def tun (s : State) : State := (((((s.p (BRG_TUN_CFG.VALID.at 3) 1).p (BRG_TUN_CFG.KIND.at 3) 3).p (BRG_TUN_LOCAL.A.at 3) 255).p (BRG_TUN_REMOTE.NODE.at 3) 2).p (BRG_TUN_CFG.FLOW.at 3) 0).p (CST_CFG.CONS 255) 1 |>.p (FLOW_CFG.VALID.at 0) 1 |>.p (FLOW_CFG.NODE.at 0) 2

end Tests.Kp1

namespace Tests.Kp2

def b0 : State := { booted with clep := { booted.clep with sec := 5000000, ns := 7 } }
def can (n : Nat) (f : Can → Can) : State := let s := ((b0.p (CAN_CFG.MODE n) 1).p (CAN_STAT.STATE n) 1).p (CAN_CFG.FD n) 1; s.setCan n (f (s.canc n))
def tx (s : State) (n o i : Nat) : State := ((s.p ((CAN_OBJ_CFG.EN n).at o) 1).p ((CAN_OBJ_CFG.TX n).at o) 1).p ((CAN_OBJ_ID.ID n).at o) i |>.p ((CAN_OBJ_STAT.PEND n).at o) 1
def rx (s : State) (n o i : Nat) : State := ((s.p ((CAN_OBJ_CFG.EN n).at o) 1).p ((CAN_OBJ_ID.ID n).at o) i).p ((CAN_OBJ_MASK.MASK n).at o) 0x7FF
def fr : CanFrame := ⟨false, true, false, false, false, 5, 9, List.replicate 12 7⟩
def tt (s : State) (w k : Nat) : State := ((s.p (CAN_CFG.TT 0) 1).p (CAN_WIN.EN 0 w) 1).wr (bankKey (CAN_CELL.off 0) (s.canRow 0 * 32 + w)) ((CAN_CELL.KIND 0).put ((CAN_CELL.OBJ 0).put 0 63) k)
def ctx (x : CanTx) (f : State → State) : State := f (can 7 (fun c => { c with tx := some x }))

end Tests.Kp2

namespace Tests.Lp1

def b0 : State := { booted with clep := { booted.clep with sec := 5000000, ns := 7 } }
def cz (s : State) : State := { s with pts := { s.pts with cache := [0] } }
def pt0 (s : State) : State := cz <| ((s.putRec 0 ⟨5, 7, qGood, 5⟩).putRec 1 ⟨6, 8, 2, 5⟩).wr (bankKey PNT_PROF_CFG.off 0) 0xFFFFFFF8
def us (st : Nat) (s : State) : State := (s.p USB_STAT.STATE st).p USB_CFG.EN 1
def uu (s : State) (f : Usb → Usb) : State := { s with usb := f s.usb }
def resp : UResp := ⟨0, 3, 4, 5, [1,2], 7, true, true⟩
def iso (s : State) : State := (((s.p USB_STAT.SPEED 2).p USB_ISO_CFG.EN 1).p (USB_ISO_RANGE.VALID 0) 1).p (USB_ISO_RANGE.COUNTM1 0) 1

end Tests.Lp1

namespace Tests.Lp2

def b0 : State := { booted with clep := { booted.clep with sec := 5000000, ns := 7 } }
def pt0 (s : State) : State := ((s.putRec 0 ⟨5, 7, qGood, 5⟩).putRec 1 ⟨6, 8, 2, 5⟩).wr (bankKey PNT_PROF_CFG.off 0) 0xFFFFFFF8
def fe (n st : Nat) (f : FeedCh → FeedCh) : State := let s := ((b0.p (FEED_SHUNT.SHUNT n) 50).p (FEED_LIM.RATED n) 100).p (FEED_CHSTAT.STATE n) st
  let s := (s.p (FEED_RAIL.UV n) 100).p (FEED_RAIL.OV n) 300 |>.p (FEED_PG.TMAX n) 120
  let s := [0,1,2].foldl (fun s k => (s.p (FEED_POLE.UNIT n k) 0).p (FEED_POLE.R n k) 400 |>.p (FEED_POLE.TAU n k) (20 * k)) s
  s.setFeed n (f { s.feed n with vin := 24000 })

end Tests.Lp2

namespace Tests.Mp1

def b0 : State := { booted with clep := { booted.clep with sec := 5000000, ns := 7 } }
def bsV (s : State) : State := (List.range 16).foldl (fun s d => if d = 0 then s else s.p (PWR_DOM_VOTE.FW d) 1) s
def cm (n : Nat) (o : Nat) (f : State → State) : State := f (((b0.p (CMP_CFG.EN n) 1).p (CMP_CFG.THR n) 500).p (CMP_CFG.HYST n) 5 |>.wr (CMP_STAT.off n) (BitVec.ofNat 32 o))

end Tests.Mp1

namespace Tests.Mp2

def b0 : State := { booted with clep := { booted.clep with sec := 5000000, ns := 7 } }
def st (k : Nat) (busy first : Bool) (slot : Nat) (kind : Nat) : State := let s := b0.p CFG_BOOT.STAGE k; { s with boot := { s.boot with busy := busy, first := first, slot := slot, kind := kind } }

end Tests.Mp2

namespace Tests.Np

def put (l : List Byte) (i n v : Nat) : List Byte := l.take i ++ bytesLE n v ++ l.drop (i + n)
def mkImg (typ : Nat) (data : List Byte) (tgt : Nat := 0) : List Byte :=
  let h := List.replicate 256 (0 : Byte)
  let total := 256 + data.length + 96
  let h := [(0, 4, 0x59314346), (4, 2, 1), (6, 2, 1), (8, 4, 77), (12, 4, 5), (16, 4, 3), (20, 4, total), (24, 2, 0x884), (26, 1, 0x20), (30, 2, 9), (60, 4, 3)].foldl (fun h e => put h e.1 e.2.1 e.2.2) h
  let h := [(128, 1, typ), (132, 4, 256), (136, 4, data.length), (140, 4, tgt), (144, 4, crc32c data)].foldl (fun h e => put h e.1 e.2.1 e.2.2) h
  h ++ data ++ List.replicate 96 0
/-- package header -/
def hdr (id seq svn chunks cont kid : Nat) (sig : Nat := 0) : List Byte :=
  [(0, 4, 0x5931524E), (4, 4, id), (8, 4, seq), (12, 4, svn), (16, 4, chunks), (20, 4, cont), (24, 2, 0x884), (26, 1, 0x20), (28, 4, kid), (160, 1, sig)].foldl (fun h e => put h e.1 e.2.1 e.2.2) (List.replicate 256 (0 : Byte))
def H1 := hdr 55 7 0 2 8200 4
def H2 := hdr 56 8 0 2 8200 4
def ks : List KeyEnt := [⟨3, 1, 0xFFFF, [1], [1], [1]⟩, ⟨4, 12, 0xFFFF, [1], [1], [1]⟩]
def b0 : State := { booted with clep := { booted.clep with sec := 5000000, ns := 7 }, sec := { booted.sec with life := 2, keys := ks } }
def up (n : Nat) (s : State) : State := s.p (PORT_STAT.STATE n) psUp
def net : State := ((up 0 (up 1 b0)).p (PORT_CFG.MODE 0) 1).p (PORT_CFG.MODE 1) 1
def um (s : State) (f : Upd → Upd) : State := { s with upd := f s.upd }
def has (s : State) : State := (((um s (fun u => { u with hdr := some H1 })).p UPD_PKG_ID.ID 55).p UPD_PKG_SEQ.SEQ 7).p UPD_PROG.CHUNKS 2
def rcv : State := (has net).p UPD_STAT.STATE usReceiving
def ch1 : List Byte := List.replicate 8208 5
def rcv1 : State := (um rcv (fun u => { u with chunks := [(1, some (99, ch1))] })).p UPD_PROG.HAVE 1
def full (c : List Byte) : State := (um ((has net).p UPD_STAT.STATE usComplete) (fun u => { u with hdr := some (hdr 55 7 0 1 c.length 4), chunks := [(1, some (99, c ++ List.replicate 16 0))] }))
def cont (nd : Nat) : List Byte := bytesLE 4 1 ++ List.replicate 12 0 ++ (bytesLE 2 nd ++ bytesLE 2 0 ++ bytesLE 4 32 ++ bytesLE 4 12 ++ bytesLE 4 5) ++ (bytesLE 4 44 ++ bytesLE 4 4 ++ bytesLE 4 1) ++ [9,8,7,6]
def inj (s : State) (l : List Byte) : State := (List.range ((l.length + 3) / 4)).foldl (fun s k => s.wr (UPD_INJ_BUF.off k) (BitVec.ofNat 32 (natLE (slice l (4 * k) 4)))) s
def sm (u : Nat) (s : State) : State := s.p UPD_STAT.STATE u
def bt (s : State) : State := (s.setUnit 1 fhStandby)
def slots (s : State) (l : List (Nat × List Byte)) : State := { s with boot := { s.boot with slots := l } }
def fw : List Byte := mkImg 2 [1,2,3,4] 0x20000
def rg (a v : Nat) : List Byte := mkImg 1 (bytesLE 4 a ++ bytesLE 4 v)
def stg (im : List Byte) (b : Nat := 4) : State := ((um (slots ((sm usStaging (b0.setUnit 1 fhLoad)).setDom 2 dsOn) [(1, im), (0, im)]) (fun u => { u with loading := some 1 })).p FH_BANKS.PROG b)
def stgR (im : List Byte) (b : Nat := 4) : State := (um (slots ((sm usStaging (bt b0))) [(1, im), (0, im)]) (fun u => { u with revert := true })).p FH_BANKS.PROG b
def ho0 : State := um ((sm usHandover (b0.setUnit 1 fhRestore)).setDom 2 dsOn) (fun u => { u with rec_ := 1, old := 0, cDue := some 4999 })
def hoC (r : List (Nat × Word)) : State := { (um ho0 (fun u => { u with cDue := none, cAt := some 1000, records := r })) with fh := { ho0.fh with halted := [0], resumed := some 1 } }
def app (r : List (Nat × Word)) : State := um (slots (hoC r) [(1, fw), (0, rg 0 0)]) (fun u => { u with rec_ := 2, applying := true })
def reap (r : List (Nat × Word)) : State := um (sm usReverted (bt b0)) (fun u => { u with applying := true, reapply := true, records := r })
def fr (k code id idx hv : Nat) (b : List Byte) : Frame := (b0.mkFrame tyRunnel 1 0 0 0 false (relayHead k code id idx hv ++ b))

end Tests.Np

namespace Tests.Op

def sc (s : State) (f : Sec → Sec) : State := { s with sec := f s.sec }
def b0 : State := sc { booted with clep := { booted.clep with sec := 5000000, ns := 7 } } (fun c => { c with life := 2, root := [4], keys := [⟨3, 127, 0xFFFF, [1], [1], [1]⟩] })
def rm (s : State) : State := s.wr DEV_RMT_MAP.off 0xFFFFFFFF
def life (n : Nat) (s : State) : State := sc s (fun c => { c with life := n })
def put (l : List Byte) (i n v : Nat) : List Byte := l.take i ++ bytesLE n v ++ l.drop (i + n)
def nbr (n : Nat) (s : State) : State := [0, 1].foldl (fun s p => s.pm p (fun q => { q with nbr := some ⟨n, 0, false, 0⟩ })) s
def lk (st : Nat) (s : State) : State := [0,1].foldl (fun s p => ((s.p (PORT_CFG.SEC p) 1).p (PORT_CFG.MODE p) 1).p (PORT_STAT.STATE p) st) s
def ka (f : Ka → Ka) (s : State) : State := [0,1].foldl (fun s p => s.setKa p (f (s.kaOf p))) s
def blk (kind an : Nat) (sig : Nat) : List Byte := bytesBE 1 kind ++ bytesBE 1 an ++ bytesBE 2 0 ++ put (put (List.replicate 208 (0:Byte)) 0 2 7) 106 4 3 ++ List.replicate 96 3 ++ [BitVec.ofNat 8 sig] ++ List.replicate 95 0

end Tests.Op

namespace Tests.Pp

def b0 : State := { (booted.p FH_CTRL.FO_EN 1) with clep := { booted.clep with sec := 5000000, ns := 7 }, boot := { booted.boot with kind := 2 } }
def sp (s : State) (f : Sump → Sump) : State := { s with sump := f s.sump }
def fac (s : State) : State := { s with sec := { s.sec with life := 0 } }
def snp (st : Nat) (s : State) : State := ((s.p SNAP_CFG.EN 1).p SNAP_CFG.TRIG 31 |>.p SNAP_CFG.RMT 1).p SNAP_STAT.STATE st
def sn : Snap := ⟨3, 1, 1, 5, 0, 6, [], 0, 0, [], []⟩
def fr (p : List Byte) : Frame := b0.mkFrame tyAlarm 3 1 0 0 false p

end Tests.Pp

theorem test_witness_StepTakesTheFront :
    (∃ (c : Instr) (s : State) (l : List Instr), s.pending = c :: l) :=
  ⟨Instr.heldAccessComplete, ({ booted with pending := [.heldAccessComplete, .powerOnReset] }), [Instr.powerOnReset], by decide +kernel⟩

theorem test_witness_QueueIsFifo :
    (∃ (l : List Instr) (r : List Instr) (s : State), s.pending = l ++ r) :=
  ⟨[Instr.heldAccessComplete], [Instr.powerOnReset], ({ booted with pending := [.heldAccessComplete, .powerOnReset] }), by decide +kernel⟩

theorem test_witness_StepKeepsTheQueue :
    (∃ (s : State), s.queueWf ∧ s.resetReq = none) :=
  ⟨({ booted with pending := [.heldAccessComplete, .powerOnReset] }), by unfold State.queueWf; decide +kernel⟩

theorem test_witness_IdleStepIsATick :
    (∃ (s : State), s.pending = [] ∧ s.brg.await = none ∧ s.clep.ns < 1000000000 ∧ s.clep.frac < 2 ^ 32 ∧ s.clep.sec + 1 < 2 ^ 48 ∧
      0 ≤ s.tickInc ∧ s.tickInc < 1000000000 * 2 ^ 32) :=
  ⟨({ booted with pts := { booted.pts with cache := [0] } }), by decide +kernel⟩

theorem test_witness_ReservedBits :
    (∃ (off : Nat) (r : RegRow) (i : Nat), regRow off = some r ∧
      r.fields.all (fun f => !(decide (f.lo ≤ i) && decide (i ≤ f.hi))) = true) :=
  ⟨65872, ((regRow 65872).get (by decide +kernel)), 65872, by decide +kernel⟩

theorem test_witness_MaskedWrite :
    (∃ (s : State) (c : Nat) (off : Nat) (r : RegRow) (f : FieldDef) (i : Nat), regRow off = some r ∧ f ∈ r.fields ∧ f.acc = .mw ∧
      f.lo ≤ i ∧ i ≤ f.hi ∧ s.reaches c off f.guard = true ∧ i < 16) ∧
    (∃ (s : State) (c : Nat) (off : Nat) (r : RegRow) (f : FieldDef) (i : Nat), regRow off = some r ∧ f ∈ r.fields ∧ f.acc = .mw ∧
      f.lo ≤ i ∧ i ≤ f.hi ∧ s.reaches c off f.guard = true ∧ 16 ≤ i) ∧
    (∃ (m : Master) (off : Nat) (wv : Word) (s : State) (r : RegRow), off ∈ maskedRegs ∧ regRow off = some r ∧ s.serves m off 2 ∧
      wv.toNat < 2 ^ 16) :=
  ⟨⟨({ booted with pending := [.heldAccessComplete, .powerOnReset] }), 2, 65872, ((regRow 65872).get (by decide +kernel)),
      { hi := 2, lo := 2, acc := Acc.mw, guard := Guard.priv, reset := 0 }, 2, by decide +kernel⟩,
    ⟨({ booted with pending := [.heldAccessComplete, .powerOnReset] }), 2, 65872, ((regRow 65872).get (by decide +kernel)),
      { hi := 31, lo := 16, acc := Acc.mw, guard := Guard.priv, reset := 0 }, 16, by decide +kernel⟩,
    ⟨{ mid := 2, node := 0x0000#16 }, 65872, 0x00000005#32, ({ booted with pending := [.heldAccessComplete, .powerOnReset] }),
      ((regRow 65872).get (by decide +kernel)), by unfold State.serves; decide +kernel⟩⟩

theorem test_witness_GuardedFields :
    (∃ (s : State) (c : Nat) (off : Nat) (r : RegRow) (f : FieldDef) (i : Nat), regRow off = some r ∧ f ∈ r.fields ∧ f.lo ≤ i ∧ i ≤ f.hi ∧
      s.reaches c off f.guard = false) ∧
    (∃ (s : State) (c : Nat) (off : Nat) (r : RegRow) (f : FieldDef) (i : Nat), regRow off = some r ∧ f ∈ r.fields ∧ f.lo ≤ i ∧ i ≤ f.hi ∧
      s.reaches c off f.guard = true ∧ f.acc = .rw) ∧
    (∃ (s : State) (c : Nat) (off : Nat) (r : RegRow) (f : FieldDef) (i : Nat), regRow off = some r ∧ f ∈ r.fields ∧ f.lo ≤ i ∧ i ≤ f.hi ∧
      s.reaches c off f.guard = true ∧ f.acc = .ro) ∧
    (∃ (s : State) (c : Nat) (off : Nat) (r : RegRow) (f : FieldDef) (i : Nat), regRow off = some r ∧ f ∈ r.fields ∧ f.lo ≤ i ∧ i ≤ f.hi ∧
      s.reaches c off f.guard = true ∧ f.acc = .w1c) :=
  ⟨⟨({ booted with pending := [.heldAccessComplete, .powerOnReset] }), 0, 65872, ((regRow 65872).get (by decide +kernel)),
      { hi := 31, lo := 16, acc := Acc.mw, guard := Guard.priv, reset := 0 }, 16, by decide +kernel⟩,
    ⟨({ booted with pending := [.heldAccessComplete, .powerOnReset] }), 2, 2359296, ((regRow 2359296).get (by decide +kernel)),
      { hi := 23, lo := 16, acc := Acc.rw, guard := Guard.priv, reset := 20 }, 16, by decide +kernel⟩,
    ⟨({ booted with pending := [.heldAccessComplete, .powerOnReset] }), 1, 65872, ((regRow 65872).get (by decide +kernel)),
      { hi := 5, lo := 5, acc := Acc.ro, guard := Guard.any, reset := 0 }, 5, by decide +kernel⟩,
    ⟨({ booted with pending := [.heldAccessComplete, .powerOnReset] }), 1, 131328, ((regRow 131328).get (by decide +kernel)),
      { hi := 31, lo := 0, acc := Acc.w1c, guard := Guard.any, reset := 0 }, 0, by decide +kernel⟩⟩

theorem test_witness_RegisterWriteStores :
    (∃ (m : Master) (off : Nat) (s : State) (r : RegRow), off ∈ plainRegs ∧ regRow off = some r ∧ s.serves m off 2) :=
  ⟨{ mid := 2, node := 0x0000#16 }, 2359296, (booted), ((regRow 2359296).get (by decide +kernel)), by unfold State.serves; decide +kernel⟩

theorem test_witness_BadRegisterWriteIsABusError :
    (∃ (m : Master) (off : Nat) (width : Nat) (s : State), (width ≠ 4 ∨ off % 4 ≠ 0 ∨ regRow off = none) ∧ off < 2 ^ 40 ∧
      s.tstServes m off width = false ∧ s.resetReq = none ∧ (s.rd SUMP_BUSERR_CNT.off).toNat + 1 < 0xFFFFFFFF) :=
  ⟨{ mid := 2, node := 0x0000#16 }, 0, 0, (Tests.Bw.wp), by decide +kernel⟩

theorem test_witness_HeldWriteCompletes :
    (∃ (m : Master) (off : Nat) (val : Word) (s : State) (l : List Held) (r : RegRow), off ∈ plainRegs ∧ regRow off = some r ∧
      ({ s with held := [] } : State).serves m off 2 ∧ s.held = ⟨m, 1, off, .write (bytesLE 4 val.toNat), none⟩ :: l) :=
  ⟨{ mid := 2, node := 0x0000#16 }, 2359296, 0x00000001#32, ({booted with held := [⟨sup, 1, FH_CTRL.off, .write (bytesLE 4 1), none⟩]}),
      [], ((regRow 2359296).get (by decide +kernel)), by unfold State.serves; decide +kernel⟩

theorem test_witness_MultiwordAndCounters :
    (∃ (m : Master) (s : State), s.serves m TIME_NOW_FRAC.off 1) ∧
    (∃ (m : Master) (off : Nat) (s : State), off ∈ [TIME_INC_LO.off, TIME_EPOCH_LO.off, TIME_SLEW_INC.off, TIME_SET_NS.off,
      RING_APPLY_LO.off] ∧ s.serves m off 2) ∧
    (∃ (m : Master) (off : Nat) (s : State), off ∈ someCounters ∧ s.serves m off 1) :=
  ⟨⟨{ mid := 2, node := 0x0000#16 }, (Tests.Bw.wp), by unfold State.serves; decide +kernel⟩,
    ⟨{ mid := 2, node := 0x0000#16 }, 262192, (booted), by unfold State.serves; decide +kernel⟩,
    ⟨{ mid := 2, node := 0x0000#16 }, 65604, (booted), by unfold State.serves; decide +kernel⟩⟩

theorem test_witness_AvsEvaluates :
    (∃ (s : State), s.flag PWR_AVS_CTRL.EN = true ∧ s.resetReq = none ∧ (s.rd PWR_AVS_LOWCNT.off).toNat + 1 < 0xFFFFFFFF) ∧
    (∃ (s : State), s.flag PWR_AVS_CTRL.EN = false ∧ s.resetReq = none) :=
  ⟨⟨(Tests.Bw.wp), by decide +kernel⟩,
    ⟨(booted.pb PWR_AVS_CTRL.EN false), by decide +kernel⟩⟩

theorem test_witness_AvsFailuresAndGovernor :
    (∃ (s : State), s.resetReq = none ∧ (s.rd PWR_AVS_FAILCNT.off).toNat + 1 < 0xFFFFFFFF ∧ (∀ e, s.power.avsOpen = some e → e.1 < 1024)) ∧
    (∃ (s : State), s.resetReq = none) :=
  ⟨⟨(Tests.Bw.wp), by decide +kernel⟩,
    ⟨(Tests.Bw.wp), by decide +kernel⟩⟩

theorem test_witness_PointReadReturnsTheRecord :
    (∃ (m : Master) (i : Nat) (s : State), s.pointServed m i ∧ (s.pt i).typ ≠ tyUndef ∧ (s.pt i).typ ≠ tyReadsens ∧ s.tileGood (i / 16)) :=
  ⟨{ mid := 2, node := 0x0000#16 }, 0, (Tests.Bw.wp), by unfold State.pointServed State.tileGood; decide +kernel⟩

theorem test_witness_PointWriteStores :
    (∃ (m : Master) (i : Nat) (v : BitVec 64) (s : State), s.pointServed m i ∧ s.ownerKind i = okLocal ∧ s.wrOk m i = true ∧
      (s.pt i).typ ≠ tyUndef ∧ encOk (s.pt i).typ v.toNat = true ∧ s.pts.cache.contains (i / 16) = true ∧ (∀ w ∈ s.pts.waits,
      w.first / 16 ≠ i / 16)) :=
  ⟨{ mid := 2, node := 0x0000#16 }, 0, 0x0000000000000000#64, (Tests.Bw.wp), by unfold State.pointServed; decide +kernel⟩

theorem test_witness_PointAtomicActs :
    (∃ (m : Master) (i : Nat) (op : AtomicOp) (a : BitVec 64) (b : BitVec 64) (s : State), s.pointServed m i ∧ s.ownerKind i = okLocal ∧
      s.wrOk m i = true ∧ (s.pt i).typ ≠ tyUndef ∧ atomicAllows op (s.pt i).typ = true ∧
      (let v := match op with | .add => (s.pt i).value + a | .or => (s.pt i).value ||| a | .and => (s.pt i).value &&& a | .cas => if (s.pt i).value = a then b else (s.pt i).value; encOk (s.pt i).typ v.toNat = true ∧ s.tileGood (i / 16))) :=
  ⟨{ mid := 2, node := 0x0000#16 }, 0, AtomicOp.add, 0x0000000000000000#64, 0x0000000000000000#64, (Tests.Bw.wp),
      by unfold State.pointServed State.tileGood; decide +kernel⟩

theorem test_witness_TilesAndPatrol :
    (∃ (tile : Fin 16384) (s : State), s.domOn 7 = true ∧ s.flag PNT_PATROL.EN = true ∧ s.pts.cache.contains tile.val = false ∧
      s.resetReq = none) ∧
    (∃ (s : State), s.domOn 7 = true ∧ s.flag PNT_PATROL.EN = true ∧ s.pts.patrolOver = false ∧ s.resetReq = none ∧
      2 * (1000000 * (clampNat 100 4000 (s.g PNT_PATROL.PERIOD) : Int)) ≤ s.absNs - s.pts.patrolStart) ∧
    (∃ (tile : Fin 16384) (m : Master) (k : Fin 16) (v : BitVec 64) (s : State), s.domOn 7 = true ∧ s.resetReq = none ∧
      s.tileGood tile.val ∧ (let i := 16 * tile.val + k.val; s.pts.waits = [⟨m, i, bytesLE 8 v.toNat, [stOK], .store m⟩] ∧
      (s.pt i).typ ≠ tyUndef ∧ encOk (s.pt i).typ v.toNat = true)) :=
  ⟨⟨16383, (Tests.Bw.wp), by decide +kernel⟩,
    ⟨({ (Tests.Bw.wp.pb PNT_PATROL.EN true) with pts := {Tests.Bw.wp.pts with patrolStart := -100000000000 }, clep := {Tests.Bw.wp.clep with sec := 100000} }), by decide +kernel⟩,
    ⟨1, { mid := 2, node := 0x0000#16 }, 0, 0x0000000000000005#64,
      ({ Tests.Bw.wp with pts := { Tests.Bw.wp.pts with waits := [⟨sup, 16, bytesLE 8 5, [stOK], .store sup⟩] } }.putRec 16 ⟨5,7,qGood,5⟩),
      by unfold State.tileGood; decide +kernel⟩⟩

theorem test_witness_PointTables :
    (∃ (m : Master) (val : Word) (s : State), s.serves m PNT_ATTR_DATA.off 2 ∧ (s.rd PNT_CFGERR_CNT.off).toNat + 1 < 0xFFFFFFFF ∧
      (let i := s.g (PNT_ATTR_SEL.POINT.at m.mid.val); (let typ := PNT_ATTR_DATA.TYPE.get val; (let prof := PNT_ATTR_DATA.PROF.get val; (let old := (s.pt i).typ; (let kind := s.g (PNT_PROF_CFG.OWNER.at prof); (let tied := fun x => x = tyCommand ∨ x = tyTimed ∨ x = tyWindow; (let bad := if typ = tyUndef then tied old else typeAllows typ kind = false ∨ (old ≠ tyUndef ∧ ((typ ≠ old ∧ (tied old ∨ tied typ)) ∨ kind ≠ s.ownerKind i)); s.tileGood (i / 16) ∧ (¬ bad))))))))) ∧
    (∃ (m : Master) (val : Word) (s : State), s.serves m PNT_ATTR_DATA.off 2 ∧ (s.rd PNT_CFGERR_CNT.off).toNat + 1 < 0xFFFFFFFF ∧
      (let i := s.g (PNT_ATTR_SEL.POINT.at m.mid.val); (let typ := PNT_ATTR_DATA.TYPE.get val; (let prof := PNT_ATTR_DATA.PROF.get val; (let old := (s.pt i).typ; (let kind := s.g (PNT_PROF_CFG.OWNER.at prof); (let tied := fun x => x = tyCommand ∨ x = tyTimed ∨ x = tyWindow; (let bad := if typ = tyUndef then tied old else typeAllows typ kind = false ∨ (old ≠ tyUndef ∧ ((typ ≠ old ∧ (tied old ∨ tied typ)) ∨ kind ≠ s.ownerKind i)); s.tileGood (i / 16) ∧ bad)))))))) ∧
    (∃ (m : Master) (val : Word) (s : State), s.serves m PNT_PROF_CFG.off 2 ∧
      (let p := s.g (PNT_PROF_SEL.PROF.at m.mid.val); (PNT_PROF_CFG.OWNER.get val = s.g (PNT_PROF_CFG.OWNER.at p) ∨ ∀ e ∈ s.pts.recs,
      e.2.typ ≠ tyUndef → s.profOf e.1 ≠ p) ∧ PNT_PROF_CFG.OWNER.get val < 6)) ∧
    (∃ (m : Master) (s : State), s.serves m PNT_PROF_FRESH.off 2) ∧
    (∃ (m : Master) (s : State), s.serves m PNT_PROF_SAFE_LO.off 2 ∧ s.serves m PNT_PROF_SAFE_HI.off 2) :=
  ⟨⟨{ mid := 2, node := 0x0000#16 }, 0x00000000#32, (Tests.Bw.wp), by unfold State.serves State.tileGood; decide +kernel⟩,
    ⟨{ mid := 2, node := 0x0000#16 }, 0xffffffff#32, (Tests.Bw.wp), by unfold State.serves State.tileGood; decide +kernel⟩,
    ⟨{ mid := 2, node := 0x0000#16 }, 0x00000000#32, (Tests.Bw.wp), by unfold State.serves; decide +kernel⟩,
    ⟨{ mid := 2, node := 0x0000#16 }, (Tests.Bw.wp), by unfold State.serves; decide +kernel⟩,
    ⟨{ mid := 2, node := 0x0000#16 }, (Tests.Bw.wp), by unfold State.serves; decide +kernel⟩⟩

theorem test_witness_Windows :
    (∃ (m : Master) (w : Fin 256) (obj : BitVec 32) (len : Nat) (s : State), s.spaceGate m 4 (w.val * 2 ^ 32 + obj.toNat) = 0 ∧
      s.winForm (w.val * 2 ^ 32 + obj.toNat) len = stOK ∧ s.winHead w.val = none ∧ s.resetReq = none) ∧
    (∃ (m : Master) (w : Fin 256) (obj : Nat) (len : Nat) (due : Int) (s : State), s.domOn 7 = true ∧ s.resetReq = none ∧
      s.pts.reqs = [⟨w.val, obj, len, false, [], .reader (.master m), due⟩]) ∧
    (∃ (m : Master) (w : Fin 256) (obj : Nat) (len : Nat) (due : Int) (s : State), s.domOn 7 = true ∧ s.resetReq = none ∧
      s.pts.reqs = [⟨w.val, obj, len, false, [], .reader (.master m), due⟩] ∧ due ≤ s.absNs) :=
  ⟨⟨{ mid := 2, node := 0x0000#16 }, 0, 0x00000000#32, 1, (Tests.Bw.wb), by decide +kernel⟩,
    ⟨{ mid := 2, node := 0x0000#16 }, 1, 5, 4, 0,
      ({ Tests.Bw.wp with pts := { Tests.Bw.wp.pts with reqs := [⟨1, 5, 4, false, [], .reader (.master sup), 0⟩] } }), by decide +kernel⟩,
    ⟨{ mid := 2, node := 0x0000#16 }, 1, 5, 4, 0,
      ({ Tests.Bw.wp with pts := { Tests.Bw.wp.pts with reqs := [⟨1, 5, 4, false, [], .reader (.master sup), 0⟩] } }), by decide +kernel⟩⟩

theorem test_witness_HeaderRoundTrip :
    (∃ (f : Frame), f.ok = true) :=
  ⟨(Tests.Cp.fW1), by decide +kernel⟩

theorem test_witness_FramesPassThePorts :
    (∃ (p : Fin 4) (hdr : List Byte) (s : State), s.resetReq = none ∧ s.portRuns p.val = true ∧ s.pst p.val = psUp ∧ hdrBad hdr = false ∧
      (decHeader hdr).dst = s.node ∧ (decHeader hdr).src ≠ s.node ∧ (decHeader hdr).cls ≤ 4 ∧ linkLocal (decHeader hdr).typ = false ∧
      (decHeader hdr).turns = 0 ∧ (decHeader hdr).sec = false ∧ s.flag (PORT_CFG.SEC p.val) = false) ∧
    (∃ (p : Fin 4) (payload : List Byte) (r : RxSlot) (k : Nat) (s : State), s.resetReq = none ∧ (s.port p.val).rx = some r ∧
      r.dead = false ∧ s.sump.inj.contains (.trailer p) = false ∧ r.extract = true ∧ r.stored = none ∧ r.passed = false ∧ r.pool = some k ∧
      r.frame.sec = false ∧ r.frame.work = true ∧ r.frame.dst = s.node ∧ r.frame.src ≠ s.node ∧ r.frame.turns = 0 ∧
      linkLocal r.frame.typ = false ∧ extractPort r.frame.typ = some 8 ∧ payload.length = r.frame.len ∧ s.cyc.staged = []) ∧
    (∃ (p : Fin 4) (payload : List Byte) (icv : List Byte) (trailer : Word) (r : RxSlot) (s : State), s.resetReq = none ∧
      (s.port p.val).rx = some r ∧ r.dead = false ∧ s.sump.inj.contains (.trailer p) = false ∧ r.stored = none ∧ trailerKind (r.hdr ++
      (payload ++ icv)) trailer = 2 ∧ s.cyc.staged = [] ∧ (s.rd (PORT_CRC_ERR.off p.val)).toNat + 1 < 0xFFFFFFFF) ∧
    (∃ (p : Fin 4) (e : QEnt) (f : SFrame) (s : State), s.resetReq = none ∧ s.portRuns p.val = true ∧ s.pst p.val = psUp ∧
      s.ringNext p.val = some e ∧ s.sw.queues = [e] ∧ s.sw.frames = [f] ∧ f.id = e.id ∧ f.cut = false ∧
      s.flag (PORT_CFG.SEC p.val) = false ∧ (s.port p.val).busyTo ≤ s.absNs ∧ s.noMirror) :=
  ⟨⟨0, (encHeader Tests.Cp.fW1), (Tests.Cp.lat Tests.Cp.up), by decide +kernel⟩,
    ⟨0, [0x07#8, 0x07#8, 0x07#8, 0x07#8, 0x07#8, 0x07#8, 0x07#8, 0x07#8], (Tests.Cp.slotK), 0,
      (Tests.Cp.all4 Tests.Cp.up (fun q => { q with rx := some Tests.Cp.slotK })), by decide +kernel⟩,
    ⟨0, (encHeader Tests.Cp.fW1), [], 0x00000000#32, (Tests.Cp.slotK),
      (Tests.Cp.all4 Tests.Cp.up (fun q => { q with rx := some Tests.Cp.slotK })), by decide +kernel⟩,
    ⟨0, (⟨0, 7, 1, false, 1, Tests.Cp.fr tyHello 7 (Tests.Cp.hel 2 1 false) false⟩), (⟨1,
      Tests.Cp.fr tyHello 7 (Tests.Cp.hel 2 1 false) false, false, 0, 44, 1, false, [], false, false, false, none, 9⟩),
      ({ Tests.Cp.up with sw := { Tests.Cp.up.sw with frames := [⟨1, Tests.Cp.fr tyHello 7 (Tests.Cp.hel 2 1 false) false, false, 0, 44, 1, false, [], false, false, false, none, 9⟩], queues := [⟨0, 7, 1, false, 1, Tests.Cp.fr tyHello 7 (Tests.Cp.hel 2 1 false) false⟩] } }), by unfold State.noMirror; decide +kernel⟩⟩

theorem test_witness_LinkLoss :
    (∃ (p : Fin 4) (s : State), s.resetReq = none ∧ s.pst p.val = psUp ∧ (s.port p.val).rx = none ∧
      (s.rd (PORT_LOSS_CNT.off p.val)).toNat + 1 < 0xFFFFFFFF ∧ s.ringSignal p.val = false ∧ 2000 ≤ s.ringSignalAge p.val) ∧
    (∃ (p : Fin 4) (s : State), s.resetReq = none ∧ s.pst p.val = psUp ∧ (s.port p.val).rx = none ∧
      (s.rd (PORT_LOSS_CNT.off p.val)).toNat + 1 < 0xFFFFFFFF) ∧
    (∃ (p : Fin 4) (s : State), s.resetReq = none ∧ s.pst p.val = psUp ∧ (s.port p.val).rx = none ∧
      (s.rd (PORT_LOSS_CNT.off p.val)).toNat + 1 < 0xFFFFFFFF) :=
  ⟨⟨0, (Tests.Cp.lat Tests.Cp.up), by decide +kernel⟩,
    ⟨0, (Tests.Cp.lat Tests.Cp.up), by decide +kernel⟩,
    ⟨0, (Tests.Cp.lat Tests.Cp.up), by decide +kernel⟩⟩

theorem test_witness_LinkComesUp :
    (∃ (p : Fin 4) (s : State), s.resetReq = none ∧ s.portRuns p.val = true ∧ s.pst p.val = psDown ∧ s.ringSignal p.val = true) ∧
    (∃ (p : Fin 4) (s : State), s.resetReq = none ∧ s.portRuns p.val = true ∧ s.pst p.val = psTrain) ∧
    (∃ (p : Fin 4) (s : State), s.resetReq = none ∧ s.portRuns p.val = true ∧ psHello ≤ s.pst p.val) ∧
    (∃ (p : Fin 4) (f : Frame) (s : State), s.resetReq = none ∧ s.portRuns p.val = true ∧ s.pst p.val = psHello ∧
      (decHello f.payload).uid ≠ Config.uid.toNat ∧ f.planeB = decide (2 ≤ p.val) ∧ (decHello f.payload).port % 2 ≠ p.val % 2 ∧
      (decHello f.payload).sec = false ∧ s.flag (PORT_CFG.SEC p.val) = false) ∧
    (∃ (p : Fin 4) (at_ : Nat) (nb : NbrHello) (s : State), s.resetReq = none ∧ s.pst p.val = psHold ∧ s.turned p.val = false ∧
      (s.port p.val).holdDone = false ∧ (s.port p.val).holdAt = some at_ ∧ (s.port p.val).nbr = some nb ∧ nb.turned = false ∧
      ((min (s.holdMs p.val * 2 ^ (s.port p.val).hold) (max 10240 (s.holdMs p.val)) * 1000000 : Nat) : Int) ≤ sgn48 s.fns48 at_) :=
  ⟨⟨0, (Tests.Cp.sig (Tests.Cp.allp psDown)), by decide +kernel⟩,
    ⟨0, (Tests.Cp.allp psTrain), by decide +kernel⟩,
    ⟨0, (Tests.Cp.lat Tests.Cp.up), by decide +kernel⟩,
    (by
      by_cases h : Config.uid.toNat = 0x5678
      · exact ⟨0, Tests.Cp.fr tyHello 7 (Tests.Cp.hel 2 1 false) false, Tests.Cp.allp psHello, by decide +kernel, by decide +kernel,
          by decide +kernel, by rw [h]; decide +kernel, by decide +kernel⟩
      · exact ⟨0, Tests.Cp.fr tyHello 7 Tests.Cp.hel2 false, Tests.Cp.allp psHello, by decide +kernel, by decide +kernel,
          by decide +kernel, fun e => h (e.symm.trans (by decide +kernel)), by decide +kernel⟩),
    ⟨0, 0, { node := 2, port := 1, turned := false, uid := 5 },
      (Tests.Cp.all4 (Tests.Cp.allp psHold) (fun q => { q with holdAt := some 0, nbr := some ⟨2, 1, false, 5⟩ }) |> fun s => { s with clep := { s.clep with sec := 100 } }), by decide +kernel⟩⟩

theorem test_witness_Healing :
    (∃ (f : Frame) (s : State), s.resetReq = none ∧ s.sw.queues = [] ∧ f.typ = tyRingState ∧ (decRingState f.payload).kind = 1) ∧
    (∃ (p : Fin 4) (f : Frame) (s : State), s.resetReq = none ∧ s.sw.queues = [] ∧ f.typ = tyRingState ∧ s.isMaster = true ∧
      (decRingState f.payload).kind = 2 ∧ (decRingState f.payload).node ≠ s.node ∧ (decRingState f.payload).nbrTurned = false ∧
      newer (decRingState f.payload).epoch (s.epochOf (planeOf p.val)) = false) ∧
    (∃ (f : Frame) (s : State), s.resetReq = none ∧ s.sw.queues = [] ∧ f.typ = tyRingState ∧ (decRingState f.payload).kind = 3 ∧
      (decRingState f.payload).node ≠ s.node ∧ (decRingState f.payload).cycle ≠ 0 ∧ s.links.unwraps = []) ∧
    (∃ (plane : Fin 2) (u : Unwrap) (s : State), s.resetReq = none ∧ s.links.unwraps = [u] ∧ u.plane = plane.val ∧ u.byMaster = true ∧
      u.epoch < 256 ∧ s.come u.at_ = true ∧ newer (s.epochOf plane.val) u.epoch = false ∧ s.turned (2 * plane.val) = true ∧
      s.pst (2 * plane.val) = psHold ∧ (s.port (2 * plane.val)).holdDone = true ∧ s.turned (2 * plane.val + 1) = false ∧
      (∀ x ∈ s.links.turns, x.plane = plane.val → x.node = s.node ∧ x.port = 2 * plane.val)) :=
  ⟨⟨(Tests.Cp.fr tyRingState 7 (Tests.Cp.rsP 1 0 2 0 0 0) false), (Tests.Cp.sig (Tests.Cp.allp psDown)), by decide +kernel⟩,
    ⟨0, (Tests.Cp.fr tyRingState 7 (Tests.Cp.rsP 2 0 2 0 0 0) true), (Tests.Cp.mstr Tests.Cp.up), by decide +kernel⟩,
    ⟨(Tests.Cp.fr tyRingState 7 (Tests.Cp.rsP 3 1 2 0 5 10) true), (Tests.Cp.sig (Tests.Cp.allp psDown)), by decide +kernel⟩,
    ⟨0, { plane := 0, epoch := 3, at_ := 0, byMaster := true, end_ := (1, 0) },
      (Tests.Cp.trn (Tests.Cp.all4 (((Tests.Cp.allp psHold).p (PORT_STAT.TURNED 0) 1)) (fun q => { q with holdDone := true })) |> fun s => { s with links := { s.links with unwraps := [⟨0, 3, 0, true, (1, 0)⟩] } }), by decide +kernel⟩⟩

theorem test_witness_SpanDelayAndCredit :
    (∃ (p : Fin 4) (s : State), s.resetReq = none ∧ s.portRuns p.val = true ∧ s.pst p.val = psUp ∧ s.ldlyDue p.val = true) ∧
    (∃ (p : Fin 4) (s : State), s.resetReq = none ∧ s.portRuns p.val = true ∧ psHello ≤ s.pst p.val) ∧
    (∃ (p : Fin 4) (f : Frame) (t1 : Nat) (s : State), s.resetReq = none ∧ (s.port p.val).reqT1 = some t1 ∧
      beAt f.payload 0 4 = (s.port p.val).reqId) ∧
    (∃ (p : Fin 4) (s : State), s.resetReq = none ∧ s.portRuns p.val = true ∧ s.pst p.val = psUp ∧ 1000 ≤ s.absNs - (s.port p.val).busyTo) ∧
    (∃ (p : Fin 4) (s : State), s.resetReq = none ∧ s.portRuns p.val = true ∧ s.pst p.val = psUp ∧ (s.port p.val).busyTo ≤ s.absNs) ∧
    (∃ (p : Fin 4) (s : State) (h : Fin 256) (l : Fin 256), s.resetReq = none ∧ s.portRuns p.val = true ∧ s.pst p.val = psUp ∧
      (s.port p.val).rxSet = some (h.val, l.val)) ∧
    (∃ (p : Fin 4) (s : State) (h : Fin 256) (l : Fin 256), s.resetReq = none ∧ s.portRuns p.val = true ∧ s.pst p.val = psUp ∧
      (s.port p.val).rxSet ≠ some (h.val, l.val)) ∧
    (∃ (m : Master) (p : Fin 4) (val : Word) (s : State), s.serves m (PORT_CFG.off p.val) 2 ∧ s.pst p.val = psDown ∧
      (s.port p.val).rx = none ∧ s.ringSignal p.val = true ∧ s.g (PORT_CFG.MODE p.val) = 0 ∧ (PORT_CFG.MODE p.val).get val ≠ 0 ∧
      s.storedWord m (PORT_CFG.off p.val) = s.rd (PORT_CFG.off p.val)) ∧
    (∃ (m : Master) (s : State), s.serves m PORT_BYP.off 2 ∧ s.domOn 3 = true ∧ s.domOn 5 = true) ∧
    (∃ (m : Master) (s : State), s.serves m PORT_BYP.off 2) :=
  ⟨⟨0, (Tests.Cp.lat Tests.Cp.up), by decide +kernel⟩,
    ⟨0, (Tests.Cp.lat Tests.Cp.up), by decide +kernel⟩,
    ⟨0, (Tests.Cp.fr tyLdlyReq 7 (encLdly 3 1 2) false), 99,
      (Tests.Cp.all4 Tests.Cp.up (fun q => { q with reqT1 := some 99, reqId := 3 })), by decide +kernel⟩,
    ⟨0, (Tests.Cp.lat Tests.Cp.up), by decide +kernel⟩,
    ⟨0, (Tests.Cp.lat Tests.Cp.up), by decide +kernel⟩,
    ⟨0, (Tests.Cp.all4 Tests.Cp.up (fun q => { q with rxSet := some (1, 1), credH := 3, nbrFreedH := 255 })), 1, 1, by decide +kernel⟩,
    ⟨0, (Tests.Cp.lat Tests.Cp.up), 0, 0, by decide +kernel⟩,
    ⟨{ mid := 2, node := 0x0000#16 }, 0, 0x00000001#32,
      (Tests.Cp.sig ((List.range 4).foldl (fun s p => s.p (PORT_CFG.MODE p) 0) (Tests.Cp.allp psDown))),
      by unfold State.serves; decide +kernel⟩,
    ⟨{ mid := 2, node := 0x0000#16 }, (Tests.Cp.sig (Tests.Cp.allp psDown)), by unfold State.serves; decide +kernel⟩,
    ⟨{ mid := 2, node := 0x0000#16 }, (Tests.Cp.sig (Tests.Cp.allp psDown)), by unfold State.serves; decide +kernel⟩⟩

theorem test_witness_CyclesBegin :
    (∃ (s : State), s.resetReq = none ∧ s.cycleBegan ≠ s.cyc.began ∧ (∀ a, s.cyc.pend = some a → s.past a.at_ = false)) ∧
    (∃ (fl : Nat) (s : State), s.resetReq = none ∧ s.cycleBegan ≠ s.cyc.began ∧ (∀ a, s.cyc.pend = some a → s.past a.at_ = false) ∧
      s.cyc.special = some fl ∧ s.ringEn = true) ∧
    (∃ (s : State), s.resetReq = none ∧ s.cycleBegan = s.cyc.began ∧ (∀ a, s.cyc.pend = some a → s.past a.at_ = false)) ∧
    (∃ (s : State), s.resetReq = none ∧ s.g RING_STAT.ROLE = roMaster ∧ s.flag TIME_CFG.SYNC_EN = true ∧ s.inWin 0 s.winS = true ∧
      s.cyc.synced = false ∧ (∀ p ∈ s.ringPorts, s.pst p = psUp)) :=
  ⟨⟨({ Tests.Dp.rg with cyc := { Tests.Dp.rg.cyc with began := 7, special := some 1 } }), by decide +kernel⟩,
    ⟨1, ({ Tests.Dp.rg with cyc := { Tests.Dp.rg.cyc with began := 7, special := some 1 } }), by decide +kernel⟩,
    ⟨({ Tests.Dp.inC Tests.Dp.rg with cyc := { (Tests.Dp.inC Tests.Dp.rg).cyc with closed := true } }), by decide +kernel⟩,
    ⟨(Tests.Dp.upp (Tests.Dp.atNs ((Tests.Dp.rg.p RING_STAT.ROLE roMaster).p TIME_CFG.SYNC_EN 1) 10)), by decide +kernel⟩⟩

theorem test_witness_SummationTrain :
    (∃ (s : State), s.resetReq = none ∧ s.ringEn = true ∧ s.cyc.launching = true ∧ s.cyc.launchAt = none ∧
      s.inWin s.winS (s.winS + s.winC) = true ∧ s.flag RING_SLOT.VALID = false) ∧
    (∃ (f : Frame) (s : State), s.resetReq = none ∧ s.ringEn = true ∧ f.typ = tySummation ∧ f.planeB = false ∧
      beAt f.payload 16 1 % 16 = s.g RING_ACT_CYC.K ∧ beAt f.payload 20 4 = s.g RING_MAP.MAP_ID ∧ beAt f.payload 0 4 = s.cyc.num % 2 ^ 32 ∧
      beAt f.payload 12 2 % 1024 = 0 ∧ s.cyc.accMin = none ∧ beAt f.payload 4 2 ≤ s.curM ∧ beAt f.payload 4 2 ≠ s.node) ∧
    (∃ (f : Frame) (s : State), s.resetReq = none ∧ s.ringEn = true ∧ f.typ = tySummation ∧ f.planeB = false ∧
      beAt f.payload 16 1 % 16 ≠ s.g RING_ACT_CYC.K ∧ s.cyc.errDone = false ∧ (s.rd RING_LATE_CNT.off).toNat + 1 < 0xFFFFFFFF) :=
  ⟨⟨(Tests.Dp.lau (Tests.Dp.inC Tests.Dp.rg)), by decide +kernel⟩,
    ⟨(Tests.Dp.fr 0 32000 2 3 0), (Tests.Dp.inC (Tests.Dp.rg.p RING_ACT_CYC.K 0)), by decide +kernel⟩,
    ⟨(Tests.Dp.fr 0 32000 2 3 0), ({ Tests.Dp.inC Tests.Dp.rg with cyc := { (Tests.Dp.inC Tests.Dp.rg).cyc with closed := true } }),
      by decide +kernel⟩⟩

theorem test_witness_WindowsCloseAndMasters :
    (∃ (s : State), s.resetReq = none ∧ s.ringEn = true ∧ s.cyc.closed = false ∧ s.winS + s.winC ≤ s.cycOff ∧
      (s.rd RING_MISS_CNT.off).toNat + 1 < 0xFFFFFFFF) ∧
    (∃ (s : State), s.resetReq = none ∧ s.ringEn = true ∧ s.cyc.closed = false ∧ s.winS + s.winC ≤ s.cycOff ∧ s.curB = s.node ∧
      s.curM ≠ s.node ∧ s.curM ≠ noNode ∧ s.cyc.launching = false ∧ s.eligible = true ∧
      (s.cyc.frames = 0 ∨ s.cyc.gotE.length < s.cyc.frames ∧ s.cyc.gotW.length < s.cyc.frames)) ∧
    (∃ (s : State), s.resetReq = none ∧ s.cyc.closed = true) ∧
    (∃ (s : State), s.resetReq = none ∧ s.ringEn = true ∧ s.joinN ≤ s.cyc.noMaster ∧ s.cyc.special = none ∧ s.cyc.launching = false) :=
  ⟨⟨(Tests.Dp.aftC Tests.Dp.rg), by decide +kernel⟩,
    ⟨((let s := Tests.Dp.upp ((Tests.Dp.aftC (Tests.Dp.rg.p RING_ROLE.MASTER 3)).p RING_ROLE.BACKUP 1); { s with cyc := { s.cyc with frames := 4 } })), by decide +kernel⟩,
    ⟨({ Tests.Dp.inC Tests.Dp.rg with cyc := { (Tests.Dp.inC Tests.Dp.rg).cyc with closed := true } }), by decide +kernel⟩,
    ⟨((let s := (Tests.Dp.aftC (Tests.Dp.rg.p RING_ROLE.MASTER 3)).p RING_ROLE.BACKUP 1; { s with cyc := { s.cyc with noMaster := 4 } })),
      by decide +kernel⟩⟩

theorem test_witness_RingRegisters :
    (∃ (m : Master) (s : State), s.serves m RING_CFG.off 2) ∧
    (∃ (m : Master) (lo : Word) (hi : Word) (s : State), s.serves m RING_APPLY_HI.off 2 ∧
      mwGet s.staging m.mid.val RING_APPLY_LO.off = some lo ∧ s.g RING_NEXT_CYC.K ≤ 11 ∧ 8 ≤ s.g RING_NEXT_S.LEN ∧
      (let pnew := 31250 * 2 ^ s.g RING_NEXT_CYC.K; (s.g RING_NEXT_S.LEN + s.g RING_NEXT_C.LEN + s.g RING_NEXT_W.LEN + s.g RING_NEXT_T.LEN) * 125 ≤ pnew ∧ 1 ≤ s.g RING_NEXT_G.LEN ∧ s.g RING_NEXT_G.LEN ≤ s.g RING_NEXT_C.LEN + s.g RING_NEXT_W.LEN ∧ (let d := sgn48 (lo.toNat + 2 ^ 32 * (hi.toNat % 2 ^ 16)) s.fns48; (s.fns + d) % (max pnew s.periodNs : Nat) = 0 ∧ 2 * ((max pnew s.periodNs : Nat) : Int) ≤ d))) ∧
    (∃ (a : ApplySet) (s : State), s.resetReq = none ∧ s.cyc.pend = some a ∧ a.at_ ≤ s.fns ∧ a.k < 16 ∧ a.sw < 65536 ∧ a.cw < 65536 ∧
      a.ww < 65536 ∧ a.tw < 65536 ∧ a.g < 65536) ∧
    (∃ (m : Master) (node : Word) (slot : Word) (dst : Word) (s : State), s.serves m RING_SUB_DST.off 2 ∧
      mwGet s.staging m.mid.val RING_SUB_NODE.off = some node ∧ mwGet s.staging m.mid.val RING_SUB_SLOT.off = some slot ∧
      (let e := s.g (RING_SUB_SEL.ENTRY.at m.mid.val); RING_SUB_NODE.NODE.get node ≠ s.node ∧
      s.subSum e + RING_SUB_DST.COUNT.get dst ≤ 4096 ∧ (∀ j,
      j < RING_SUB_DST.COUNT.get dst → s.ownerKind (RING_SUB_DST.POINT.get dst + j) = okRing))) ∧
    (∃ (m : Master) (val : Word) (s : State), s.serves m RING_PUB_CFG.off 2 ∧
      (let e := s.g (RING_PUB_SEL.RANGE.at m.mid.val); s.pubSum e val ≤ s.g RING_SLOT.LEN)) :=
  ⟨⟨{ mid := 2, node := 0x0000#16 }, ({ Tests.Dp.inC Tests.Dp.rg with cyc := { (Tests.Dp.inC Tests.Dp.rg).cyc with closed := true } }),
      by unfold State.serves; decide +kernel⟩,
    ⟨{ mid := 2, node := 0x0000#16 }, 0x3bc890c0#32, 0x00000000#32, (Tests.Dp.stg Tests.Dp.nxt [(RING_APPLY_LO.off,
      BitVec.ofNat 32 (1000000000 + 3000000))]), by unfold State.serves; decide +kernel⟩,
    ⟨{ k := 3, sw := 9, cw := 10, ww := 11, tw := 12, g := 13, at_ := 5 },
      ({ Tests.Dp.rg with cyc := { Tests.Dp.rg.cyc with pend := some ⟨3, 9, 10, 11, 12, 13, 5⟩ } }), by decide +kernel⟩,
    ⟨{ mid := 2, node := 0x0000#16 }, 0x80000007#32, 0x00400010#32, 0x00000000#32,
      (Tests.Dp.stg (booted.p (PNT_PROF_CFG.OWNER.at 0) okRing) [(RING_SUB_NODE.off, 0x80000007), (RING_SUB_SLOT.off, 0x00400010)]),
      by unfold State.serves; decide +kernel⟩,
    ⟨{ mid := 2, node := 0x0000#16 }, 0x00000000#32,
      ({ Tests.Dp.inC Tests.Dp.rg with cyc := { (Tests.Dp.inC Tests.Dp.rg).cyc with closed := true } }),
      by unfold State.serves; decide +kernel⟩⟩

theorem test_witness_WorkIsJournaled :
    (∃ (m : Master) (flow : Fin 1024) (op : Fin 256) (addr : BitVec 64) (data : List Byte) (seg : Fin 4) (s : State), s.resetReq = none ∧
      s.flowRuns = true ∧ s.flow.leaving = [] ∧ s.flow.subs = [] ∧ s.flow.arrWait = false ∧ s.flow.opened = none ∧ s.headClear 0 ∧
      (let it : Item := { newItem flow.val op.val addr.toNat data m.mid.val (if 2 ≤ op.val ∧ op.val ≤ 6 then .atomic m else .store m) with seg := seg.val }; workForm op.val (adSpace addr.toNat) (adOff addr.toNat) data.length (decide (0xFF00 ≤ adNode addr.toNat)) = stOK ∧ s.submitCheck it = stOK ∧ s.flowFull flow.val = false ∧ 4000 * accLines data.length ≤ s.budNow)) ∧
    (∃ (f : Fin 1024) (it : Item) (bp : Bool) (s : State), s.resetReq = none ∧ s.flowRuns = true ∧ s.flow.leaving = [] ∧
      s.flow.subs = [(it, bp)] ∧ it.flow = f.val ∧ it.data.length ≤ 256 ∧ s.flow.arrWait = false ∧ s.flow.opened = none ∧ s.headClear 0 ∧
      s.flowFull f.val = false ∧ 4000 * accLines it.data.length ≤ s.budNow) ∧
    (∃ (g : JGroup) (s : State), s.resetReq = none ∧ s.flow.opened = some g ∧ g.closeAt ≤ s.absNs ∧ s.headClear 0) ∧
    (∃ (m : Master) (s : State), s.serves m FLOW_CTRL.off 2) :=
  ⟨⟨{ mid := 2, node := 0x0000#16 }, 0, 1, 0x0002010000080004#64, [0x01#8, 0x02#8, 0x03#8, 0x04#8], 3,
      ((Tests.Ep.ptd Tests.Ep.bs).pb (PNT_PROF_CFG.RMT_RD.at 0) true), by unfold State.headClear; decide +kernel⟩,
    ⟨0, (Tests.Ep.it0), true, (Tests.Ep.wk Tests.Ep.bs (fun x => { x with subs := [(Tests.Ep.it0, true)] })),
      by unfold State.headClear; decide +kernel⟩,
    ⟨(Tests.Ep.g0), (Tests.Ep.wk Tests.Ep.bs (fun x => { x with opened := some Tests.Ep.g0 })), by unfold State.headClear; decide +kernel⟩,
    ⟨{ mid := 2, node := 0x0000#16 }, ((Tests.Ep.ptd Tests.Ep.bs).pb (PNT_PROF_CFG.RMT_RD.at 0) true),
      by unfold State.serves; decide +kernel⟩⟩

theorem test_witness_AcceptanceCommits :
    (∃ (it : Item) (m : Master) (g : JGroup) (s : State), s.resetReq = none ∧ s.flow.commit = some g ∧ g.recs = [.acc it true] ∧
      it.path = .store m ∧ it.outlet = none ∧ it.data.length ≤ 256 ∧ s.flowValid it.flow = true ∧ s.flowLocal it.flow = false ∧
      opType it.op = tyWork ∧ s.flow.closed = [] ∧ s.flow.leaving = [] ∧ s.inbQuiet ∧ s.headClear (accLines it.data.length)) :=
  ⟨(Tests.Ep.it0), { mid := 2, node := 0x0000#16 }, (Tests.Ep.g0),
      (Tests.Ep.wk Tests.Ep.bsB (fun x => { x with commit := some Tests.Ep.g0 })), by unfold State.headClear State.inbQuiet; decide +kernel⟩

theorem test_witness_ItemsApplyOnce :
    (∃ (f : Frame) (s : State), s.resetReq = none ∧ s.flowRuns = true ∧ s.cpuIdle ∧ f.work = true ∧ f.typ = tyWork ∧ f.dst = s.node ∧
      s.inbOf f.src (f.flow % 1024) = none ∧ s.inbTable.length < 4096 ∧ s.flow.kept = [] ∧ f.seq = (frameItem f).low ∧
      s.wayOf (frameItem f) = 0 ∧ (frameItem f).op = 1 ∧ adSpace (frameItem f).addr ≠ 2 ∧ s.itemGate (frameItem f) = false ∧
      4000 ≤ s.budNow ∧ s.flow.opened = none ∧ s.headClear 0) ∧
    (∃ (it : InItem) (e : InEntry) (s : State), s.resetReq = none ∧ s.flowRuns = true ∧ s.flow.inb = [e] ∧ e.wait = some it ∧ e.held = [] ∧
      e.two = false ∧ s.wayOf it = 0 ∧ it.op = 1 ∧ adSpace it.addr ≠ 2 ∧ s.itemGate it = false ∧ 4000 ≤ s.budNow ∧ s.flow.opened = none ∧
      s.flow.leaving = [] ∧ s.headClear 0) ∧
    (∃ (it : InItem) (e : InEntry) (g : JGroup) (off : Nat) (s : State), s.resetReq = none ∧ s.flow.commit = some g ∧
      g.recs = [.applied it] ∧ s.flow.inb = [e] ∧ e.src = it.src ∧ e.flow = it.flow ∧ e.cinc = it.inc ∧ e.cnext = it.seq ∧ e.wait = none ∧
      e.held = [] ∧ it.local_ = false ∧ it.op = 1 ∧ adSpace it.addr = 1 ∧ adOff it.addr = off ∧ off ∈ plainRegs ∧ it.data.length = 4 ∧
      s.serves it.master off 2 ∧ s.flow.closed = [] ∧ s.flow.leaving = [] ∧ s.headClear 1) ∧
    (∃ (f : Frame) (e : InEntry) (k : Kept) (s : State), s.resetReq = none ∧ s.flowRuns = true ∧ s.cpuIdle ∧ f.work = true ∧
      f.typ = tyWork ∧ f.dst = s.node ∧ s.flow.inb = [e] ∧ e.src = f.src ∧ e.flow = f.flow % 1024 ∧ e.inc = (frameItem f).inc ∧
      e.cinc = e.inc ∧ e.cnext = e.next ∧ after32 e.next f.seq = true ∧ s.flow.kept = [k] ∧ k.src = f.src ∧ k.flow = f.flow % 1024 ∧
      k.seq = f.seq ∧ k.inc = e.inc ∧ after32 (frameItem f).low k.seq = false ∧ (s.rd FLOW_DUP_CNT.off).toNat + 1 < 0xFFFFFFFF) :=
  ⟨⟨(Tests.Ep.wfr 1 Tests.Ep.rgA 5 2 5 [1,2,3,4]), ((Tests.Ep.ptd Tests.Ep.bs).pb (PNT_PROF_CFG.RMT_RD.at 0) true),
      by unfold State.headClear State.cpuIdle; decide +kernel⟩,
    ⟨(Tests.Ep.ii), (⟨2, 3, 2, 5, 2, 5, 0, [], some Tests.Ep.ii, 0, false, none⟩),
      (Tests.Ep.wk Tests.Ep.bs (fun x => { x with inb := [⟨2, 3, 2, 5, 2, 5, 0, [], some Tests.Ep.ii, 0, false, none⟩] })),
      by unfold State.headClear; decide +kernel⟩,
    ⟨(Tests.Ep.ii),
      { src := 2, flow := 3, inc := 2, next := 6, cinc := 2, cnext := 5, last := 0, held := [], wait := none, staged := 1, two := false, lsn := none }, (⟨[.applied Tests.Ep.ii],1,0,50⟩), 16, (Tests.Ep.wk { Tests.Ep.bs with sec := { Tests.Ep.bs.sec with sessions := [⟨0x10, 2, 10^15⟩] } } (fun x => { x with commit := some ⟨[.applied Tests.Ep.ii],1,0,50⟩, inb := [⟨2,3,2,6,2,5,0,[],none,1,false,none⟩] })), by unfold State.serves State.headClear; decide +kernel⟩,
    ⟨(Tests.Ep.wfr 1 Tests.Ep.rgA 5 2 5 [1,2,3,4]),
      { src := 2, flow := 3, inc := 2, next := 6, cinc := 2, cnext := 6, last := 0, held := [], wait := none, staged := 0, two := false, lsn := none }, { src := 2, flow := 3, seq := 5, inc := 2, status := 6, apply := 0, result := 0, rstamp := 0, rqual := 0, rtype := 0, lsn := 3 }, (Tests.Ep.wk Tests.Ep.bs (fun x => { x with inb := [⟨2, 3, 2, 6, 2, 6, 0, [], none, 0, false, none⟩], kept := [⟨2,3,5,2,6,0,0,0,0,0,3⟩] })), by unfold State.cpuIdle; decide +kernel⟩⟩

theorem test_witness_OutstandingItems :
    (∃ (f : Frame) (o : OutItem) (s : State), s.resetReq = none ∧ s.flowRuns = true ∧ s.cpuIdle ∧ f.typ = tyWorkAck ∧ f.dst = s.node ∧
      s.flow.out = [o] ∧ o.it.flow = f.flow ∧ o.it.inc = beAt f.payload 0 4 ∧ (s.fl f.flow).inc = o.it.inc ∧ s.flowGroup f.flow = false ∧
      o.it.plain ∧ o.it.seq = f.seq) ∧
    (∃ (f : Frame) (o : OutItem) (s : State), s.resetReq = none ∧ s.flowRuns = true ∧ s.cpuIdle ∧ f.typ = tyWorkAck ∧ f.dst = s.node ∧
      s.flow.out = [o] ∧ o.it.flow = f.flow ∧ o.it.inc = beAt f.payload 0 4 ∧ (s.fl f.flow).inc = o.it.inc ∧ s.flowGroup f.flow = false ∧
      o.it.plain ∧ o.it.seq ≠ f.seq ∧ (s.fl f.flow).due ≠ none) ∧
    (∃ (f : Fin 1024) (o : OutItem) (due : Int) (s : State), s.resetReq = none ∧ s.flow.out = [o] ∧ o.it.flow = f.val ∧
      s.flowValid f.val = true ∧ s.flowLocal f.val = false ∧ s.flowRuns = true ∧ (s.fl f.val).due = some due ∧ o.it.plain) ∧
    (∃ (f : Fin 1024) (o : OutItem) (due : Int) (s : State), s.resetReq = none ∧ s.flow.out = [o] ∧ o.it.flow = f.val ∧
      s.flowValid f.val = true ∧ s.flowLocal f.val = false ∧ s.flowRuns = true ∧ (s.fl f.val).due = some due ∧ due ≤ s.absNs ∧
      (s.rd FLOW_RESEND_CNT.off).toNat + 1 < 0xFFFFFFFF) ∧
    (∃ (f : Fin 1024) (o : OutItem) (due : Int) (s : State), s.resetReq = none ∧ s.flow.out = [o] ∧ o.it.flow = f.val ∧
      s.flowValid f.val = true ∧ s.flowLocal f.val = false ∧ s.flowRuns = true ∧ (s.fl f.val).due = some due ∧ 2 ≤ s.g RING_STAT.ROLE) ∧
    (∃ (m : Master) (o : OutItem) (s : State), s.serves m FLOW_CMD.off 2 ∧ s.flow.out = [o] ∧
      o.it.flow = s.g (FLOW_SEL.FLOW.at m.mid.val) ∧ s.flowLocal o.it.flow = false ∧ s.flowValid o.it.flow = true) ∧
    (∃ (m : Master) (o : OutItem) (s : State), s.serves m FLOW_CMD.off 2 ∧ s.flow.out = [o] ∧
      o.it.flow = s.g (FLOW_SEL.FLOW.at m.mid.val) ∧ s.flowLocal o.it.flow = false ∧ s.flow.opened = none ∧ s.flow.commit = none ∧
      s.flow.closed = [] ∧ s.flow.leaving = [] ∧ o.it.plain ∧ 4000 ≤ s.budNow) :=
  ⟨⟨(Tests.Ep.ackf 0), (Tests.Ep.o0),
      (Tests.Ep.wk Tests.Ep.bs (fun x => { x with out := [Tests.Ep.o0], flows := [(0, ⟨4, 8, 7, 20, some 5, false⟩)] })),
      by unfold State.cpuIdle Item.plain; decide +kernel⟩,
    ⟨(Tests.Ep.ackf 0), ({Tests.Ep.o0 with it := {Tests.Ep.itN with seq := 5}}),
      (Tests.Ep.wk Tests.Ep.bs (fun x => { x with out := [{Tests.Ep.o0 with it := {Tests.Ep.itN with seq := 5}}], flows := [(0, ⟨4, 8, 7, 20, some 5, false⟩)] })), by unfold State.cpuIdle Item.plain; decide +kernel⟩,
    ⟨0, ({Tests.Ep.o0 with it := {Tests.Ep.itN with seq := 5}}), 5,
      (Tests.Ep.wk Tests.Ep.bs (fun x => { x with out := [{Tests.Ep.o0 with it := {Tests.Ep.itN with seq := 5}}], flows := [(0, ⟨4, 8, 7, 20, some 5, false⟩)] })), by unfold Item.plain; decide +kernel⟩,
    ⟨0, ({Tests.Ep.o0 with it := {Tests.Ep.itN with seq := 5}}), 5,
      (Tests.Ep.wk Tests.Ep.bs (fun x => { x with out := [{Tests.Ep.o0 with it := {Tests.Ep.itN with seq := 5}}], flows := [(0, ⟨4, 8, 7, 20, some 5, false⟩)] })), by decide +kernel⟩,
    ⟨0, ({Tests.Ep.o0 with doubt := true}), 5,
      ((Tests.Ep.wk Tests.Ep.bs (fun x => { x with out := [{ Tests.Ep.o0 with doubt := true }], flows := [(0, ⟨4, 8, 7, 20, some 5, false⟩)] })).p RING_STAT.ROLE 2), by decide +kernel⟩,
    ⟨{ mid := 2, node := 0x0000#16 }, ({Tests.Ep.o0 with it := {Tests.Ep.itN with seq := 5}}),
      (Tests.Ep.wk Tests.Ep.bs (fun x => { x with out := [{Tests.Ep.o0 with it := {Tests.Ep.itN with seq := 5}}], flows := [(0, ⟨4, 8, 7, 20, some 5, false⟩)] })), by unfold State.serves; decide +kernel⟩,
    ⟨{ mid := 2, node := 0x0000#16 }, ({Tests.Ep.o0 with it := {Tests.Ep.itN with seq := 5}}),
      (Tests.Ep.wk Tests.Ep.bs (fun x => { x with out := [{Tests.Ep.o0 with it := {Tests.Ep.itN with seq := 5}}], flows := [(0, ⟨4, 8, 7, 20, some 5, false⟩)] })), by unfold State.serves Item.plain; decide +kernel⟩⟩

theorem test_witness_JournalUpkeep :
    (∃ (f : Nat) (v : Flow) (s : State), s.resetReq = none ∧ s.flowRuns = true ∧ s.flow.flows = [(f, v)] ∧ v.dirty = true ∧
      4000 ≤ s.budNow ∧ s.flow.opened = none ∧ s.headClear 1) ∧
    (∃ (s : State), s.resetReq = none ∧ s.g FLOW_STAT.STATE = feRecover ∧ s.domOn 8 = true ∧ s.g CFG_BOOT.STAGE = 5 ∧ s.flow.ring = [] ∧
      s.flow.out = []) ∧
    (∃ (s : State), s.resetReq = none ∧ s.domOn 8 = true ∧ s.sump.inj = [] ∧ (s.rd FLOW_ECC_CORR.off).toNat + 1 < 0xFFFFFFFF) ∧
    (∃ (off : Nat) (o : OutItem) (s : State), s.resetReq = none ∧ s.domOn 8 = true ∧ s.sump.inj = [] ∧ off < 3145728 ∧
      SMap.get (fun _ => 0) s.flow.retired (off / 64) = 0 ∧ s.flow.out = [o] ∧ onLine (off / 64) (accLines o.it.data.length) o.lsn = true ∧
      o.it.plain ∧ (s.rd FLOW_ECC_UNCORR.off).toNat + 1 < 0xFFFFFFFF) :=
  ⟨⟨0, { inc := 4, next := 8, low := 7, ival := 20, due := some 5, dirty := true },
      (Tests.Ep.wk Tests.Ep.bs (fun x => { x with flows := [(0, ⟨4, 8, 7, 20, some 5, true⟩)] })),
      by unfold State.headClear; decide +kernel⟩,
    ⟨(Tests.Ep.bs.p FLOW_STAT.STATE feRecover), by decide +kernel⟩,
    ⟨((Tests.Ep.ptd Tests.Ep.bs).pb (PNT_PROF_CFG.RMT_RD.at 0) true), by decide +kernel⟩,
    ⟨448, ({Tests.Ep.o0 with it := {Tests.Ep.itN with seq := 5}}),
      (Tests.Ep.wk Tests.Ep.bs (fun x => { x with out := [{Tests.Ep.o0 with it := {Tests.Ep.itN with seq := 5}}], flows := [(0, ⟨4, 8, 7, 20, some 5, false⟩)] })), by unfold Item.plain; decide +kernel⟩⟩

theorem test_witness_RemoteReads :
    (∃ (addr : BitVec 64) (len : Nat) (s : State), s.resetReq = none ∧ s.isHere addr.toNat = false ∧ adNode addr.toNat < 0xFF00 ∧
      adSpace addr.toNat ≤ 4 ∧ adSpace addr.toNat ≠ 2 ∧ 1 ≤ len ∧ len ≤ 256 ∧ adOff addr.toNat % 256 + len ≤ 256 ∧
      s.flow.reads.length < 256) ∧
    (∃ (r : RRead) (m : Master) (s : State), s.resetReq = none ∧ s.flow.reads = [r] ∧ s.flow.readWait = [] ∧ r.who = .master m ∧
      r.due ≤ s.absNs) ∧
    (∃ (r : RRead) (m : Master) (s : State), s.resetReq = none ∧ s.flow.reads = [r] ∧ s.flow.readWait = [] ∧ r.who = .master m ∧
      s.reachNs ≤ s.absNs - r.first) ∧
    (∃ (r : RRead) (m : Master) (s : State) (f : Frame), s.resetReq = none ∧ s.flow.reads = [r] ∧ s.flow.readWait = [] ∧
      r.who = .master m ∧ s.cpuIdle ∧ f.typ = tyRreadRsp ∧ f.dst = s.node ∧ f.seq = r.tag ∧ f.src = r.node ∧ beAt f.payload 0 1 = stOK) ∧
    (∃ (f : Frame) (i : Nat) (s : State), s.resetReq = none ∧ s.cpuIdle ∧ f.typ = tyRread ∧ f.dst = s.node ∧
      s.rreadBusy f.src f.seq = false ∧ beAt f.payload 0 8 = s.node * 2 ^ 48 + 16 * i ∧ beAt f.payload 8 2 = 16 ∧ s.pointPlain i ∧
      s.tileGood (i / 16) ∧ s.flag (PNT_PROF_CFG.RMT_RD.at (s.profOf i)) = true ∧ s.spaceGate ⟨0x10,
      BitVec.ofNat 16 f.src⟩ 0 (16 * i) = 0) ∧
    (∃ (f : Frame) (s : State), s.resetReq = none ∧ s.cpuIdle ∧ f.typ = tyRread ∧ f.dst = s.node ∧ s.rreadBusy f.src f.seq = false ∧
      adSpace (beAt f.payload 0 8) = 2) :=
  ⟨⟨0x0002010000080004#64, 16, ((Tests.Ep.ptd Tests.Ep.bs).pb (PNT_PROF_CFG.RMT_RD.at 0) true), by decide +kernel⟩,
    ⟨(Tests.Ep.rr), { mid := 2, node := 0x0000#16 }, (Tests.Ep.wk Tests.Ep.bs (fun x => { x with reads := [Tests.Ep.rr] })),
      by decide +kernel⟩,
    ⟨(Tests.Ep.rr), { mid := 2, node := 0x0000#16 }, (Tests.Ep.wk Tests.Ep.bs (fun x => { x with reads := [Tests.Ep.rr] })),
      by decide +kernel⟩,
    ⟨(Tests.Ep.rr), { mid := 2, node := 0x0000#16 }, (Tests.Ep.wk Tests.Ep.bs (fun x => { x with reads := [Tests.Ep.rr] })),
      (Tests.Ep.rrs), by unfold State.cpuIdle; decide +kernel⟩,
    ⟨(Tests.Ep.rrp), 5, ((Tests.Ep.ptd Tests.Ep.bs).pb (PNT_PROF_CFG.RMT_RD.at 0) true),
      by unfold State.tileGood State.cpuIdle State.pointPlain; decide +kernel⟩,
    ⟨(Tests.Ep.rrf), ((Tests.Ep.ptd Tests.Ep.bs).pb (PNT_PROF_CFG.RMT_RD.at 0) true), by unfold State.cpuIdle; decide +kernel⟩⟩

theorem test_witness_FramesThroughTheSwitch :
    (∃ (inPort : Fin 11) (cls : Fin 8) (w : WEnt) (p : Nat) (s : State), s.resetReq = none ∧ 4 ≤ inPort.val ∧
      (8 ≤ inPort.val ∨ s.g (ETH_CFG.FC (inPort.val - 4)) = 0) ∧ (∀ q ∈ s.sw.queues, q.port < 8) ∧ s.waitHead inPort.val cls.val = some w ∧
      w.targets = [p] ∧ w.pool = none ∧ s.liveTargets [p] = [p] ∧ s.noMirror ∧ s.canAdmit w = true ∧ 4 ≤ p ∧ p < 8) ∧
    (∃ (inPort : Fin 11) (cls : Fin 8) (w : WEnt) (p : Nat) (s : State), s.resetReq = none ∧ 4 ≤ inPort.val ∧
      (8 ≤ inPort.val ∨ s.g (ETH_CFG.FC (inPort.val - 4)) = 0) ∧ (∀ q ∈ s.sw.queues, q.port < 8) ∧ s.waitHead inPort.val cls.val = some w ∧
      w.targets = [p] ∧ w.pool = none ∧ s.liveTargets [p] = [p] ∧ s.noMirror ∧ s.canAdmit w = true ∧ p = 8 ∧ w.eth = true ∧
      s.sw.frames = []) ∧
    (∃ (inPort : Fin 11) (cls : Fin 8) (w : WEnt) (p : Nat) (s : State), s.resetReq = none ∧ 4 ≤ inPort.val ∧
      (8 ≤ inPort.val ∨ s.g (ETH_CFG.FC (inPort.val - 4)) = 0) ∧ (∀ q ∈ s.sw.queues, q.port < 8) ∧ s.waitHead inPort.val cls.val = some w ∧
      w.targets = [p] ∧ w.pool = none ∧ s.liveTargets [p] = [p] ∧ s.noMirror ∧ s.canAdmit w = false) ∧
    (∃ (n : Fin 4) (bytes : List Byte) (s : State), s.resetReq = none ∧ s.ethUp n.val = true ∧ (∀ q ∈ s.sw.queues, q.port < 8) ∧
      (∀ w ∈ s.sw.waiting, w.inPort ≠ 4 + n.val) ∧ 60 ≤ bytes.length ∧ bytes.length ≤ 2044 ∧ etherType bytes ≠ 0x8808 ∧
      s.ptpAt n.val bytes = none ∧ s.noMirror ∧ s.g (ETH_CFG.FC n.val) = 0 ∧
      (let ts := maskPorts (s.fwdMask n.val bytes) (4 + n.val); ts ≠ [] ∧ s.liveTargets ts = ts ∧ (∀ p ∈ ts, p < 8 ∧
      s.hasRoom p (s.ethClass n.val bytes) (tilesFor (bytes.length + 4)) false = true))) ∧
    (∃ (n : Fin 4) (bytes : List Byte) (s : State), s.resetReq = none ∧ s.ethUp n.val = true ∧ (∀ q ∈ s.sw.queues, q.port ≠ 9) ∧
      60 ≤ bytes.length ∧ bytes.length ≤ 2044 ∧ (s.rd (ETH_FCS_ERR.off n.val)).toNat + 1 < 0xFFFFFFFF) ∧
    (∃ (n : Fin 4) (e : QEnt) (f : SFrame) (s : State), s.resetReq = none ∧ s.ethUp n.val = true ∧ s.sw.queues = [e] ∧ s.sw.frames = [f] ∧
      f.id = e.id ∧ f.cut = false ∧ s.ethNext n.val = some e ∧ s.ptpAt n.val e.hdr.payload = none ∧ s.noMirror) :=
  ⟨⟨8, 3, (Tests.Fp.w0), 5, (Tests.Fp.sw (Tests.Fp.later Tests.Fp.eu) (fun x => { x with waiting := [Tests.Fp.w0] })),
      by unfold State.noMirror; decide +kernel⟩,
    ⟨4, 3, (Tests.Fp.w1), 8, (Tests.Fp.sw (Tests.Fp.lim Tests.Fp.eu) (fun x => { x with waiting := [Tests.Fp.w1] })),
      by unfold State.noMirror; decide +kernel⟩,
    ⟨8, 3, (Tests.Fp.w0), 5, (Tests.Fp.sw Tests.Fp.eu (fun x => { x with waiting := [Tests.Fp.w0] })),
      by unfold State.noMirror; decide +kernel⟩,
    ⟨1, (List.replicate 60 9), (Tests.Fp.sw (Tests.Fp.lim Tests.Fp.eu) (fun x => { x with waiting := [Tests.Fp.w1] })),
      by unfold State.noMirror; decide +kernel⟩,
    ⟨0, (List.replicate 60 9), (Tests.Fp.sw (Tests.Fp.lim Tests.Fp.eu) (fun x => { x with waiting := [Tests.Fp.w1] })), by decide +kernel⟩,
    ⟨1, (Tests.Fp.q0), (Tests.Fp.s0),
      (Tests.Fp.sw Tests.Fp.eu (fun x => { x with queues := [Tests.Fp.q0], frames := [Tests.Fp.s0], nextId := 2 })),
      by unfold State.noMirror; decide +kernel⟩⟩

theorem test_witness_EthernetPorts :
    (∃ (n : Fin 4) (s : State), s.resetReq = none ∧ s.flag (ETH_STAT.LINK n.val) = true) ∧
    (∃ (n : Fin 4) (s : State), s.resetReq = none ∧ s.domOn 9 = true ∧ s.g (ETH_CFG.MODE n.val) ≠ 0 ∧
      s.flag (ETH_STAT.LINK n.val) = false) ∧
    (∃ (n : Fin 4) (s : State), s.resetReq = none ∧ s.ethUp n.val = true ∧ (s.rd (ETH_PAUSE_RX.off n.val)).toNat + 1 < 0xFFFFFFFF ∧
      s.g (ETH_CFG.FC n.val) = 1) ∧
    (∃ (n : Fin 4) (s : State), s.resetReq = none ∧ s.ethUp n.val = true ∧ (s.rd (ETH_PAUSE_RX.off n.val)).toNat + 1 < 0xFFFFFFFF ∧
      s.g (ETH_CFG.FC n.val) = 2) ∧
    (∃ (n : Fin 4) (s : State), s.resetReq = none ∧ s.ethUp n.val = true ∧ s.g (ETH_CFG.FC n.val) ≠ 0 ∧ s.g (ETH_STAT.XOFF n.val) ≠ 0 ∧
      s.xoffNeed n.val ≠ 0 ∧ 5000000 ≤ s.absNs - (s.ethp n.val).fcAt ∧ (s.rd (ETH_PAUSE_TX.off n.val)).toNat + 1 < 0xFFFFFFFF) ∧
    (∃ (m : Master) (n : Fin 4) (val : Word) (s : State), s.serves m (ETH_MDIO_CMD.off n.val) 2 ∧
      s.flag (ETH_MDIO_STAT.BUSY n.val) = false ∧ val.getLsbD 31 = true) ∧
    (∃ (m : Master) (n : Fin 4) (s : State), s.serves m (ETH_MDIO_CMD.off n.val) 2 ∧ s.flag (ETH_MDIO_STAT.BUSY n.val) = true) :=
  ⟨⟨0, (Tests.Fp.sw (Tests.Fp.lim Tests.Fp.eu) (fun x => { x with waiting := [Tests.Fp.w1] })), by decide +kernel⟩,
    ⟨0, ((booted.p (ETH_CFG.MODE 0) 1).p (ETH_CFG.AN 0) 1), by decide +kernel⟩,
    ⟨0, (Tests.Fp.eu.p (ETH_CFG.FC 0) 1), by decide +kernel⟩,
    ⟨1, (Tests.Fp.sw (((Tests.Fp.later Tests.Fp.eu).p (ETH_CFG.FC 1) 2).p (ETH_STAT.XOFF 1) 255) (fun x => { x with waiting := [Tests.Fp.w5] })), by decide +kernel⟩,
    ⟨1, (Tests.Fp.sw (((Tests.Fp.later Tests.Fp.eu).p (ETH_CFG.FC 1) 2).p (ETH_STAT.XOFF 1) 255) (fun x => { x with waiting := [Tests.Fp.w5] })), by decide +kernel⟩,
    ⟨{ mid := 2, node := 0x0000#16 }, 0, 0x80000000#32,
      (Tests.Fp.sw (Tests.Fp.lim Tests.Fp.eu) (fun x => { x with waiting := [Tests.Fp.w1] })), by unfold State.serves; decide +kernel⟩,
    ⟨{ mid := 2, node := 0x0000#16 }, 1,
      ((Tests.Fp.eu.setEthp 1 { Tests.Fp.eu.ethp 1 with mdio := some false }).p (ETH_MDIO_STAT.BUSY 1) 1),
      by unfold State.serves; decide +kernel⟩⟩

theorem test_witness_HostReads :
    (∃ (addr : BitVec 64) (i : Nat) (s : State), s.resetReq = none ∧ s.domOn 6 = true ∧ s.spaceGate hostM 0 (16 * i) = 0 ∧
      s.isHere addr.toNat = true ∧ addr.toNat % 2 ^ 48 = 16 * i ∧ s.pointPlain i ∧ s.tileGood (i / 16) ∧ s.brg.pf = none ∧
      s.flag BRG_CFG.PF = false ∧ s.brg.dr = [] ∧ s.brg.posted = []) ∧
    (∃ (addr : BitVec 64) (i : Nat) (s : State) (p : PwEnt), s.resetReq = none ∧ s.domOn 6 = true ∧ s.spaceGate hostM 0 (16 * i) = 0 ∧
      s.isHere addr.toNat = true ∧ addr.toNat % 2 ^ 48 = 16 * i ∧ s.pointPlain i ∧ s.tileGood (i / 16) ∧ s.brg.pf = none ∧
      s.flag BRG_CFG.PF = false ∧ s.brg.dr = [] ∧ s.brg.posted = [p] ∧ p.pw = (s.g BRG_PW_SEQ.NEXT + 65535) % 65536) ∧
    (∃ (tag : Nat) (e : DrEnt) (due : Int) (s : State), s.pending = [] ∧ s.brg.await = some (.read tag, due) ∧ s.brg.dr = [e] ∧
      e.tag = tag ∧ due ≤ s.timeTick.absNs ∧ s.pts.reqs = []) ∧
    (∃ (tag : Fin 64) (addr : Nat) (i : Nat) (e : DrEnt) (s : State), s.resetReq = none ∧ s.domOn 6 = true ∧
      s.spaceGate hostM 0 (16 * i) = 0 ∧ s.isHere addr = true ∧ addr % 2 ^ 48 = 16 * i ∧ s.pointPlain i ∧ s.tileGood (i / 16) ∧
      s.flag BRG_CFG.PF = false ∧ s.brg.posted = [] ∧ s.brg.await = none ∧ s.brg.dr = [e] ∧ e.tag = tag.val ∧ e.done = none ∧
      e.flying = false ∧ e.pieces = [(addr, 16)] ∧ e.data = [] ∧ e.once = false ∧ e.side = false ∧ e.retried = true) ∧
    (∃ (tag : Fin 256) (e : DrEnt) (s : State) (st : Nat) (at_ : Int), s.resetReq = none ∧ s.domOn 6 = true ∧ s.brg.dr = [e] ∧
      e.tag = tag.val ∧ e.done = some (st, at_) ∧ s.absNs - at_ < 1000000 * (e.window : Int)) ∧
    (∃ (tag : Fin 256) (e : DrEnt) (s : State), s.resetReq = none ∧ s.domOn 6 = true ∧ s.brg.dr = [e] ∧ e.tag = tag.val ∧ e.done = none ∧
      e.doubt = false) ∧
    (∃ (s : State), s.resetReq = none ∧ s.domOn 6 = true ∧ s.brg.dr = []) ∧
    (∃ (s : State), s.resetReq = none) ∧
    (∃ (s : State), s.resetReq = none ∧ (s.rd HST_OPC_ERR.off).toNat + 1 < 0xFFFFFFFF) :=
  ⟨⟨0x0000000000000000#64, 0, (Tests.Gp.wp.p BRG_CFG.PF 0), by unfold State.tileGood State.pointPlain; decide +kernel⟩,
    ⟨0x0000000000000000#64, 0, (Tests.Gp.bg (Tests.Gp.wp.p BRG_CFG.PF 0) (fun x => { x with posted := [Tests.Gp.pw0] })),
      { pw := 65535, addr := 5, data := [0x01#8], flow := none, since := 0, handed := false },
      by unfold State.tileGood State.pointPlain; decide +kernel⟩,
    ⟨3, (Tests.Gp.dr0), 5, (Tests.Gp.bg (Tests.Gp.lat Tests.Gp.wp) (fun x => { x with dr := [Tests.Gp.dr0], await := some (.read 3, 5) })),
      by decide +kernel⟩,
    ⟨3, 0, 0, (Tests.Gp.dr0), (Tests.Gp.bg (Tests.Gp.lat (Tests.Gp.wp.p BRG_CFG.PF 0)) (fun x => { x with dr := [Tests.Gp.dr0] })),
      by unfold State.tileGood State.pointPlain; decide +kernel⟩,
    ⟨3, (Tests.Gp.drD false), (Tests.Gp.bg Tests.Gp.wp (fun x => { x with dr := [Tests.Gp.drD false] })), 0, 5, by decide +kernel⟩,
    ⟨3, (Tests.Gp.dr0), (Tests.Gp.bg (Tests.Gp.lat (Tests.Gp.wp.p BRG_CFG.PF 0)) (fun x => { x with dr := [Tests.Gp.dr0] })),
      by decide +kernel⟩,
    ⟨(Tests.Gp.bg (Tests.Gp.lat Tests.Gp.wp) (fun x => { x with posted := [⟨65535, 5, [1], none, 0, false⟩] }) |> (fun s => { s with flow := { s.flow with inb := [⟨2, 3, 2, 5, 2, 5, 0, [], some Tests.Gp.inW, 0, false, none⟩] } })), by decide +kernel⟩,
    ⟨(Tests.Gp.bg (Tests.Gp.lat (Tests.Gp.wp.p BRG_CFG.PF 0)) (fun x => { x with dr := [Tests.Gp.dr0] })), by decide +kernel⟩,
    ⟨(Tests.Gp.bg (Tests.Gp.lat (Tests.Gp.wp.p BRG_CFG.PF 0)) (fun x => { x with dr := [Tests.Gp.dr0] })), by decide +kernel⟩⟩

theorem test_witness_ReadsExpireAndStrand :
    (∃ (e : DrEnt) (s : State), s.resetReq = none ∧ s.brg.inResp = some e ∧ (s.rd HST_ABORT_CNT.off).toNat + 1 < 0xFFFFFFFF) ∧
    (∃ (tag : Fin 64) (e : DrEnt) (st : Nat) (at_ : Int) (s : State), s.resetReq = none ∧ s.brg.dr = [e] ∧ e.tag = tag.val ∧
      e.done = some (st, at_) ∧ 1000000 * (e.window : Int) ≤ s.absNs - at_ ∧ e.side = false ∧
      (s.rd BRG_DR_EXPIRE.off).toNat + 1 < 0xFFFFFFFF) ∧
    (∃ (tag : Fin 64) (e : DrEnt) (st : Nat) (at_ : Int) (s : State), s.resetReq = none ∧ s.brg.dr = [e] ∧ e.tag = tag.val ∧
      e.done = some (st, at_) ∧ 1000000 * (e.window : Int) ≤ s.absNs - at_ ∧ e.side = true ∧ s.brg.str.length < 32 ∧
      (s.rd BRG_STRAND_CNT.off).toNat + 1 < 0xFFFFFFFF) ∧
    (∃ (tile : Nat) (at_ : Int) (d : List Byte) (s : State), s.resetReq = none ∧ s.brg.pf = some (tile, at_, d) ∧ 10000 ≤ s.absNs - at_ ∧
      (s.rd BRG_PF_DROP.off).toNat + 1 < 0xFFFFFFFF) ∧
    (∃ (m : Master) (val : Word) (e : StrEnt) (l : List StrEnt) (s : State), s.serves m BRG_STR_POP.off 2 ∧ s.brg.str = e :: l ∧
      BRG_STR_POP.SERIAL.get val = e.serial) ∧
    (∃ (m : Master) (val : Word) (e : PwfEnt) (l : List PwfEnt) (s : State), s.serves m BRG_PWF_POP.off 2 ∧ s.brg.pwf = e :: l ∧
      BRG_PWF_POP.PWSEQ.get val = e.pw) :=
  ⟨⟨(Tests.Gp.drD true), (Tests.Gp.bg Tests.Gp.wp (fun x => { x with inResp := some (Tests.Gp.drD true) })), by decide +kernel⟩,
    ⟨3, (Tests.Gp.drD false), 0, 5, (Tests.Gp.bg (Tests.Gp.lat Tests.Gp.wp) (fun x => { x with dr := [Tests.Gp.drD false] })),
      by decide +kernel⟩,
    ⟨3, (Tests.Gp.drD true), 0, 5, (Tests.Gp.bg (Tests.Gp.lat Tests.Gp.wp) (fun x => { x with dr := [Tests.Gp.drD true] })),
      by decide +kernel⟩,
    ⟨5, 3, [0x01#8], (Tests.Gp.bg (Tests.Gp.lat Tests.Gp.wp) (fun x => { x with pf := some (5, 3, [1]) })), by decide +kernel⟩,
    ⟨{ mid := 2, node := 0x0000#16 }, 0x00000005#32, { serial := 5, status := 0, tag := 3, addr := 16, time := 9, data := [0x01#8] }, [],
      (Tests.Gp.bg Tests.Gp.wp (fun x => { x with str := [⟨5,0,3,16,9,[1]⟩], pwf := [⟨1,2,5,4,5,6⟩] })),
      by unfold State.serves; decide +kernel⟩,
    ⟨{ mid := 2, node := 0x0000#16 }, 0x00000005#32, { stage := 1, status := 2, pw := 5, addr := 4, seq := 5, time := 6 }, [],
      (Tests.Gp.bg Tests.Gp.wp (fun x => { x with str := [⟨5,0,3,16,9,[1]⟩], pwf := [⟨1,2,5,4,5,6⟩] })),
      by unfold State.serves; decide +kernel⟩⟩

theorem test_witness_PostedWritesAndSignals :
    (∃ (addr : BitVec 64) (data : List Byte) (s : State), s.resetReq = none ∧ s.domOn 6 = true ∧
      s.postCheck addr.toNat data.length = stOK ∧ s.postRoom addr.toNat data = true) ∧
    (∃ (off : Nat) (val : Word) (pw : Nat) (fl : Option Nat) (at_ : Int) (r : RegRow) (s : State), s.domOn 6 = true ∧ off ∈ plainRegs ∧
      s.serves hostM off (if off = USB_ISO_CFG.off then 1 else 2) ∧ regRow off = some r ∧ s.brg.posted = [⟨pw, 2 ^ 40 + off,
      bytesLE 4 val.toNat, fl, at_, false⟩]) ∧
    (∃ (e : PwEnt) (s : State), s.resetReq = none ∧ s.domOn 6 = true ∧ s.brg.posted = [e] ∧ e.handed = false ∧
      s.pieceHeldOff e.addr = true ∧ s.waitNs ≤ s.absNs - e.since ∧ (s.rd BRG_BACKOFF_CNT.off).toNat + 1 < 0xFFFFFFFF) ∧
    (∃ (tag : Fin 64) (due : Int) (s : State), s.resetReq = none ∧ s.brg.await = some (.read tag.val, due) ∧ due ≤ s.absNs ∧
      s.readHeldOff tag.val = true ∧ (s.rd BRG_BACKOFF_CNT.off).toNat + 1 < 0xFFFFFFFF) ∧
    (∃ (kind : Fin 16) (unit : Nat) (obj : Nat) (e : Nat) (payload : List Byte) (s : State), s.resetReq = none ∧ s.domOn 6 = true ∧
      s.domOn 7 = true ∧ s.sigEntries false kind.val unit obj = [e] ∧ s.flag (BRG_SIG_SRC.SIGNED.at e) = false ∧
      (let i := s.g (BRG_SIG_DST.POINT.at e); (let v := fieldGet (s.flag (BRG_SIG_SRC.MOTOROLA.at e)) (s.g (BRG_SIG_SRC.BITPOS.at e)) (s.g (BRG_SIG_DST.BITLEN.at e)) payload; (s.pt i).typ ≠ tyUndef ∧ encOk (s.pt i).typ (v % 2 ^ 64) = true))) :=
  ⟨⟨0x0000000000000000#64, [0x01#8, 0x02#8, 0x03#8, 0x04#8, 0x05#8, 0x06#8, 0x07#8, 0x08#8],
      (Tests.Gp.bg (Tests.Gp.lat (Tests.Gp.wp.p BRG_CFG.PF 0)) (fun x => { x with dr := [Tests.Gp.dr0] })), by decide +kernel⟩,
    ⟨1966112, 0x00000005#32, 0, none, 3, ((regRow 1966112).get (by decide +kernel)),
      (Tests.Gp.bg Tests.Gp.wp (fun x => { x with posted := [⟨0, 2 ^ 40 + USB_ISO_CFG.off, bytesLE 4 5, none, 3, false⟩] })),
      by unfold State.serves; decide +kernel⟩,
    ⟨{ pw := 65535, addr := 5, data := [0x01#8], flow := none, since := 0, handed := false },
      (Tests.Gp.bg (Tests.Gp.lat Tests.Gp.wp) (fun x => { x with posted := [⟨65535, 5, [1], none, 0, false⟩] }) |> (fun s => { s with flow := { s.flow with inb := [⟨2, 3, 2, 5, 2, 5, 0, [], some Tests.Gp.inW, 0, false, none⟩] } })), by decide +kernel⟩,
    ⟨3, 5, (Tests.Gp.wq (Tests.Gp.bg (Tests.Gp.lat Tests.Gp.wp) (fun x => { x with dr := [Tests.Gp.dr0], await := some (.read 3, 5) }))),
      by decide +kernel⟩,
    ⟨1, 0, 0, 2, [0x01#8],
      ((((Tests.Gp.wp.wr (bankKey BRG_SIG_SRC.off 2) (BRG_SIG_SRC.VALID.put (BRG_SIG_SRC.KIND.put 0 1) 1)).wr (bankKey BRG_SIG_DST.off 2) 0).p (BRG_SIG_DST.BITLEN.at 2) 12)), by decide +kernel⟩⟩

theorem test_witness_TimeIsSteered :
    (∃ (m : Master) (lo : Word) (hi : Word) (s : State), s.serves m TIME_INC_HI.off 2 ∧
      mwGet s.staging m.mid.val TIME_INC_LO.off = some lo ∧ (let v := lo.toNat + 2 ^ 32 * (hi.toNat % 2 ^ 8); 0x03F0000000 ≤ v ∧
      v ≤ 0x0410000000)) ∧
    (∃ (m : Master) (lo : Word) (hi : Word) (s : State), s.serves m TIME_INC_HI.off 2 ∧
      mwGet s.staging m.mid.val TIME_INC_LO.off = some lo ∧
      (let v := lo.toNat + 2 ^ 32 * (hi.toNat % 2 ^ 8); (v < 0x03F0000000 ∨ 0x0410000000 < v))) ∧
    (∃ (m : Master) (inc : Word) (s : State), s.serves m TIME_SLEW_CNT.off 2 ∧ mwGet s.staging m.mid.val TIME_SLEW_INC.off = some inc) ∧
    (∃ (s : State), s.resetReq = none ∧ s.g TIME_SLEW_CNT.CNT = 1 ∧ s.clep.ns < 1000000000 ∧ s.clep.frac < 2 ^ 32 ∧
      s.clep.sec + 1 < 2 ^ 48 ∧ 0 ≤ ((s.clep.ns * 2 ^ 32 + s.clep.frac : Nat) : Int) + s.tickInc) ∧
    (∃ (m : Master) (val : Word) (s : State), s.serves m TIME_STEP.off 2 ∧ (s.flag RING_CFG.EN = true → val.toInt.natAbs ≤ 1000)) ∧
    (∃ (m : Master) (val : Word) (s : State), s.serves m TIME_STEP.off 2 ∧ s.flag RING_CFG.EN = true ∧ 1000 < val.toInt.natAbs) ∧
    (∃ (m : Master) (ns : Word) (lo : Word) (s : State), s.serves m TIME_SET_SEC_HI.off 2 ∧
      mwGet s.staging m.mid.val TIME_SET_NS.off = some ns ∧ mwGet s.staging m.mid.val TIME_SET_SEC_LO.off = some lo ∧
      s.flag RING_CFG.EN = false ∧ ns.toNat < 1000000000) ∧
    (∃ (m : Master) (ns : Word) (lo : Word) (s : State), s.serves m TIME_SET_SEC_HI.off 2 ∧
      mwGet s.staging m.mid.val TIME_SET_NS.off = some ns ∧ mwGet s.staging m.mid.val TIME_SET_SEC_LO.off = some lo ∧
      (s.flag RING_CFG.EN = true ∨ 1000000000 ≤ ns.toNat)) :=
  ⟨⟨{ mid := 2, node := 0x0000#16 }, 0x00000005#32, 0x00000004#32, (Tests.Hp.stg Tests.Hp.bs [(TIME_INC_LO.off, 5), (TIME_SLEW_INC.off,
      0xFFFFFFFF), (TIME_SET_NS.off, 5), (TIME_SET_SEC_LO.off, 5), (TIME_TRIG_LO.off 0, 5), (TIME_TRIG_LO.off 7, 0xFFFFFFFF)]),
      by unfold State.serves; decide +kernel⟩,
    ⟨{ mid := 2, node := 0x0000#16 }, 0x00000005#32, 0x00000000#32, (Tests.Hp.stg Tests.Hp.bs [(TIME_INC_LO.off, 5), (TIME_SLEW_INC.off,
      0xFFFFFFFF), (TIME_SET_NS.off, 5), (TIME_SET_SEC_LO.off, 5), (TIME_TRIG_LO.off 0, 5), (TIME_TRIG_LO.off 7, 0xFFFFFFFF)]),
      by unfold State.serves; decide +kernel⟩,
    ⟨{ mid := 2, node := 0x0000#16 }, 0xffffffff#32, (Tests.Hp.stg Tests.Hp.bs [(TIME_INC_LO.off, 5), (TIME_SLEW_INC.off, 0xFFFFFFFF),
      (TIME_SET_NS.off, 5), (TIME_SET_SEC_LO.off, 5), (TIME_TRIG_LO.off 0, 5), (TIME_TRIG_LO.off 7, 0xFFFFFFFF)]),
      by unfold State.serves; decide +kernel⟩,
    ⟨(Tests.Hp.bs.p TIME_SLEW_CNT.CNT 1), by decide +kernel⟩,
    ⟨{ mid := 2, node := 0x0000#16 }, 0x00000000#32, (Tests.Hp.lim Tests.Hp.eu), by unfold State.serves; decide +kernel⟩,
    ⟨{ mid := 2, node := 0x0000#16 }, 0x80000000#32, (Tests.Hp.stg (Tests.Hp.bs.p RING_CFG.EN 1) [(TIME_SET_NS.off, 5),
      (TIME_SET_SEC_LO.off, 5)]), by unfold State.serves; decide +kernel⟩,
    ⟨{ mid := 2, node := 0x0000#16 }, 0x00000005#32, 0x00000005#32, (Tests.Hp.stg Tests.Hp.bs [(TIME_INC_LO.off, 5), (TIME_SLEW_INC.off,
      0xFFFFFFFF), (TIME_SET_NS.off, 5), (TIME_SET_SEC_LO.off, 5), (TIME_TRIG_LO.off 0, 5), (TIME_TRIG_LO.off 7, 0xFFFFFFFF)]),
      by unfold State.serves; decide +kernel⟩,
    ⟨{ mid := 2, node := 0x0000#16 }, 0x00000005#32, 0x00000005#32, (Tests.Hp.stg (Tests.Hp.bs.p RING_CFG.EN 1) [(TIME_SET_NS.off, 5),
      (TIME_SET_SEC_LO.off, 5)]), by unfold State.serves; decide +kernel⟩⟩

theorem test_witness_SyncAndPtp :
    (∃ (p : Fin 4) (f : Frame) (s : State), s.resetReq = none ∧ f.typ = tySync ∧ f.src ≠ s.node ∧ s.curM = f.src ∧
      (let y := decSync f.payload; y.epoch = s.epochSec ∧ s.flag TIME_CFG.CAPT_EN = true ∧ s.clep.syncSeen.contains (p.val,
      y.cycle) = false ∧ (s.port p.val).rx = none ∧ f.turns < 4 ∧ f.hops < 256)) ∧
    (∃ (n : Fin 4) (bytes : List Byte) (q : Fin 16) (k : Nat) (s : State), s.resetReq = none ∧ s.ptpAt n.val bytes = some k ∧
      s.ethUp n.val = true ∧ ptpEvent (ptpType bytes k) = true ∧ etherType bytes ≠ 0x8808 ∧ 60 ≤ bytes.length ∧ bytes.length ≤ 2044 ∧
      s.g (TIME_PTP_CFG.TC n.val) = 0 ∧ s.g (ETH_CFG.FC n.val) = 0 ∧ s.noMirror ∧ s.sw.frames = [] ∧ s.cpuIdle ∧ (∀ e ∈ s.sw.queues,
      e.port ≠ 10) ∧ (∀ w ∈ s.sw.waiting, w.inPort ≠ 4 + n.val) ∧
      (let c := s.ethClass n.val bytes; (let st := s.stampQ q.val; (let l := bytes ++ (bytesBE 6 st.1 ++ bytesBE 4 st.2.1 ++
      bytesBE 2 st.2.2); s.hasRoom 8 c (tilesFor (l.length + 4)) false = true)))) ∧
    (∃ (m : Master) (n : Fin 4) (val : Word) (e : PtpStamp) (l : List PtpStamp) (s : State), s.serves m (TIME_PTP_TX_POP.off n.val) 2 ∧
      s.ptpQ n.val = e :: l ∧ (TIME_PTP_TX_POP.SEQID n.val).get val = e.seqId) :=
  ⟨⟨0, (Tests.Hp.sf), ((Tests.Hp.bs.p RING_ROLE.MASTER 2).p TIME_CFG.CAPT_EN 1), by decide +kernel⟩,
    ⟨0, (Tests.Hp.ptp), 0, 14, (Tests.Hp.lim Tests.Hp.eu), by unfold State.cpuIdle State.noMirror; decide +kernel⟩,
    ⟨{ mid := 2, node := 0x0000#16 }, 0, 0x00000005#32, { sec := 1, ns := 2, qns := 3, msgType := 4, seqId := 5 },
      [{ sec := 1, ns := 2, qns := 3, msgType := 4, seqId := 5 }], ((Tests.Hp.bs.setPtpQ 0 [⟨1,2,3,4,5⟩, ⟨1,2,3,4,5⟩])),
      by unfold State.serves; decide +kernel⟩⟩

theorem test_witness_EdgesAndTimedActions :
    (∃ (n : Fin 256) (rising : Bool) (s : State), s.resetReq = none ∧ s.captures n.val rising = true ∧
      s.flag (FIO_PIN_CFG.QOFF n.val) = false ∧ (s.edgeQ (n.val / 32)).length < 256 ∧ s.clep.edgeLost = [] ∧ s.clep.edgeStep = []) ∧
    (∃ (m : Master) (b : Fin 8) (val : Word) (e : EdgeEnt) (l : List EdgeEnt) (s : State), s.serves m (TIME_EDGE_POP.off b.val) 2 ∧
      s.edgeQ b.val = e :: l ∧ (TIME_EDGE_POP.SERIAL b.val).get val = e.serial) ∧
    (∃ (pin : Fin 256) (a : TAct) (s : State), s.resetReq = none ∧ firstAct (s.pinActs pin.val) = some a ∧ a.pin = pin.val ∧
      s.come a.g = true ∧ a.second = false) ∧
    (∃ (pin : Fin 256) (a : TAct) (s : State), s.resetReq = none ∧ firstAct (s.pinActs pin.val) = some a ∧ a.pin = pin.val ∧
      s.come a.g = true ∧ a.second = true) ∧
    (∃ (m : Master) (s : State), s.serves m TIME_ACT_FLUSH.off 2 ∧ (∀ a ∈ s.clep.acts, s.come a.g = false)) ∧
    (∃ (m : Master) (val : Word) (e : LateEnt) (l : List LateEnt) (s : State), s.serves m TIME_LATE_POP.off 2 ∧ s.clep.late = e :: l ∧
      TIME_LATE_POP.SERIAL.get val = e.serial) :=
  ⟨⟨0, false, ([0,1,2,31].foldl (fun s k => s.wr (TIME_ECAP.off k) 0xFFFF) Tests.Hp.bs), by decide +kernel⟩,
    ⟨{ mid := 2, node := 0x0000#16 }, 1, 0x00000003#32, { pin := 40, stamp := 5, level := true, ovf := false, step := false, serial := 3 },
      [], (Tests.Hp.bs.setEdgeQ 1 [Tests.Hp.ed]), by unfold State.serves; decide +kernel⟩,
    ⟨17, { pin := 17, g := 400, kind := ActKind.toggle, second := false, order := 0, action := 3, arg := 0, point := 5, release := 2 },
      (Tests.Hp.cl Tests.Hp.bs (fun c => { c with acts := [Tests.Hp.a0 false] })), by decide +kernel⟩,
    ⟨17, { pin := 17, g := 400, kind := ActKind.toggle, second := true, order := 0, action := 3, arg := 0, point := 5, release := 2 },
      ((Tests.Hp.cl Tests.Hp.bs (fun c => { c with acts := [Tests.Hp.a0 true] })).p (FIO_PIN_CFG.OWNER 17) 1), by decide +kernel⟩,
    ⟨{ mid := 2, node := 0x0000#16 }, (Tests.Hp.lim Tests.Hp.eu), by unfold State.serves; decide +kernel⟩,
    ⟨{ mid := 2, node := 0x0000#16 }, 0x00000005#32,
      { serial := 5, cause := 1, action := 1, pin := 1, g := 1, release := 1, arg := 1, point := 1 }, [],
      (Tests.Hp.cl Tests.Hp.bs (fun c => { c with late := [⟨5,1,1,1,1,1,1,1⟩] })), by unfold State.serves; decide +kernel⟩⟩

theorem test_witness_Triggers :
    (∃ (m : Master) (n : Fin 8) (lo : Word) (s : State), s.serves m (TIME_TRIG_HI.off n.val) 2 ∧
      mwGet s.staging m.mid.val (TIME_TRIG_LO.off n.val) = some lo ∧ (s.flag (TIME_TRIG_HI.EN n.val) && s.come (s.trigG n.val)) = false) ∧
    (∃ (n : Fin 8) (s : State), s.resetReq = none ∧ s.flag (TIME_TRIG_HI.EN n.val) = true ∧ s.come (s.trigG n.val) = true) :=
  ⟨⟨{ mid := 2, node := 0x0000#16 }, 0, 0x00000005#32, (Tests.Hp.stg Tests.Hp.bs [(TIME_INC_LO.off, 5), (TIME_SLEW_INC.off, 0xFFFFFFFF),
      (TIME_SET_NS.off, 5), (TIME_SET_SEC_LO.off, 5), (TIME_TRIG_LO.off 0, 5), (TIME_TRIG_LO.off 7, 0xFFFFFFFF)]),
      by unfold State.serves; decide +kernel⟩,
    ⟨1, ((Tests.Hp.bs.p (TIME_TRIG_HI.EN 1) 1).wr (JET_GRP_CFG.off 3) 0x80000000 |> fun s => (s.p (JET_GRP_CFG.ARM 3) 1).p (JET_GRP_CFG.SRC 3) 2), by decide +kernel⟩⟩

theorem test_witness_VotedStepsAndTriggers :
    (∃ (u : Fin 2) (c : CoreStep) (s : State), s.resetReq = none ∧ s.unitRuns u.val = true ∧ c.addr.toNat < 0x90000 ∧ c.ok = true ∧
      s.sump.inj = [] ∧ c.data = []) ∧
    (∃ (u : Fin 2) (c : CoreStep) (s : State), s.resetReq = none ∧ s.unitRuns u.val = true ∧ c.addr.toNat < 0x90000 ∧ c.ok = true ∧
      s.sump.inj = [] ∧ c.data ≠ []) ∧
    (∃ (u : Fin 2) (c0 : CoreStep) (c1 : CoreStep) (c2 : CoreStep) (s : State), s.guarded u.val ∧ s.sump.inj = [] ∧ (¬ (c0 = c1 ∧
      c1 = c2))) ∧
    (∃ (u : Fin 2) (c : CoreStep) (s : State), s.guarded u.val ∧ s.sump.inj = [] ∧ c.addr.toNat < 0x90000 ∧ c.data = []) ∧
    (∃ (u : Fin 2) (late : Nat) (d : Fin 16) (s : State), s.guarded u.val ∧ d.val = u.val + 1 ∧
      (s.rd PWR_SUPPLY_FLT.off).toNat + 1 < 0xFFFFFFFF ∧ 1000 * max 1 (s.g FH_CTRL.STEP_TMO) < late) ∧
    (∃ (u : Fin 2) (d : Fin 16) (s : State), s.guarded u.val ∧ d.val = u.val + 1 ∧ (s.rd PWR_SUPPLY_FLT.off).toNat + 1 < 0xFFFFFFFF ∧
      s.g FH_CTRL.WDOG ≠ 0 ∧ 1000000 * (s.g FH_CTRL.WDOG : Int) ≤ s.absNs - s.fh.wdogAt) ∧
    (∃ (u : Fin 2) (d : Fin 16) (s : State), s.guarded u.val ∧ d.val = u.val + 1 ∧ (s.rd PWR_SUPPLY_FLT.off).toNat + 1 < 0xFFFFFFFF) ∧
    (∃ (d : Fin 16) (s : State), s.resetReq = none ∧ s.domOn d.val = true ∧ d.val ≠ 1 ∧ d.val ≠ 2 ∧ d.val ≠ 6 ∧
      (s.rd PWR_SUPPLY_FLT.off).toNat + 1 < 0xFFFFFFFF) ∧
    (∃ (m : Master) (s : State), s.serves m FH_WDOG.off 2 ∧ s.fhMiss m FH_WDOG.off = false) ∧
    (∃ (addr : Nat) (len : Nat) (status : Nat) (data : List Byte) (s : State), s.resetReq = none ∧ s.fh.reading = some (addr, len, status,
      data) ∧ s.flag FH_STAT.SAFE = true ∧ s.flag FH_LOST0.VALID = false ∧ addr < 2 ^ 64 ∧ status < 256) :=
  ⟨⟨0, { kind := 1, addr := 0x00000004#32, len := 4, data := [], user := false }, (Tests.Ip.b0), by decide +kernel⟩,
    ⟨0, { kind := 2, addr := 0x00010005#32, len := 4, data := [0x01#8, 0x02#8, 0x03#8], user := false }, (Tests.Ip.b0), by decide +kernel⟩,
    ⟨0, { kind := 1, addr := 0x00000004#32, len := 4, data := [], user := false },
      { kind := 1, addr := 0x00000004#32, len := 4, data := [], user := false },
      { kind := 2, addr := 0x00010005#32, len := 4, data := [0x01#8, 0x02#8, 0x03#8], user := false }, (Tests.Ip.b0),
      by unfold State.guarded; decide +kernel⟩,
    ⟨0, { kind := 1, addr := 0x00000004#32, len := 4, data := [], user := false }, (Tests.Ip.b0), by unfold State.guarded; decide +kernel⟩,
    ⟨0, 300000, 1, (Tests.Ip.b0), by unfold State.guarded; decide +kernel⟩,
    ⟨0, 1, (Tests.Ip.b0), by unfold State.guarded; decide +kernel⟩,
    ⟨0, 1, (Tests.Ip.b0), by unfold State.guarded; decide +kernel⟩,
    ⟨5, (Tests.Ip.b0), by decide +kernel⟩,
    ⟨{ mid := 2, node := 0x0000#16 }, (Tests.Ip.b0), by unfold State.serves; decide +kernel⟩,
    ⟨1099511627781, 4, 3, [0x01#8, 0x02#8, 0x03#8, 0x04#8],
      (Tests.Ip.hh (Tests.Ip.b0.p FH_STAT.SAFE 1) (fun h => { h with reading := some (2^40+5, 4, 3, [1,2,3,4]) })), by decide +kernel⟩⟩

theorem test_witness_FailOverAndProofs :
    (∃ (u : Nat) (s : State), s.resetReq = none ∧ u < 2 ∧ s.unit u = fhRestore ∧ s.unit (1 - u) ≠ fhRestore ∧ s.domOn (u + 1) = true ∧
      s.fh.resumed = none) ∧
    (∃ (u : Nat) (m : Master) (at_ : Int) (s : State), s.serves m FH_CMD.off 2 ∧ supUnit m.mid.val = some u ∧ s.unit u = fhRestore ∧
      s.unit (1 - u) = fhFailed ∧ s.fh.resumed = some u ∧ s.fh.trig = some at_ ∧ s.fh.stuck = false ∧ s.ust = usIdle ∧ s.upd.rec_ ≠ 1 ∧
      (s.rd FH_FO_CNT.off).toNat + 1 < 0xFFFFFFFF) ∧
    (∃ (at_ : Int) (s : State), s.resetReq = none ∧ s.fh.trig = some at_ ∧ s.fh.stuck = false ∧
      1000000 * (max 1 (s.g FH_CTRL.RESUME) : Nat) ≤ s.absNs - at_) ∧
    (∃ (u : Nat) (at_ : Int) (s : State), s.resetReq = none ∧ u < 2 ∧ s.fh.rearm = some (u, at_) ∧ at_ ≤ s.absNs ∧ s.unit u = fhFailed ∧
      s.dom (u + 1) ≠ dsOff) ∧
    (∃ (u : Nat) (s : State), s.resetReq = none ∧ u < 2 ∧ s.standby = u ∧ s.unit u = fhStandby ∧ s.flag FH_PROOF_CFG.EN = true ∧
      3600000000000 * (clampNat 1 720 (s.g FH_PROOF_CFG.PERIOD) : Nat) ≤ s.absNs - s.fh.proofAt) ∧
    (∃ (u : Nat) (m : Master) (s : State), s.resetReq = none ∧ u < 2 ∧ s.standby = u ∧ s.unit u = fhStandby ∧ s.serves m FH_CMD.off 2 ∧
      s.fhMiss m FH_CMD.off = false) ∧
    (∃ (u : Nat) (s : State) (w : Nat), s.resetReq = none ∧ u < 2 ∧ s.fh.proof = some u ∧ s.domOn (u + 1) = true ∧
      (s.rd FH_PROOF_FAIL.off).toNat + 1 < 0xFFFFFFFF ∧ (s.rd FH_ECC_CORR.off).toNat + w < 0xFFFFFFFF) ∧
    (∃ (s : State), s.unitRuns s.active = true ∧ s.domOn 8 = true ∧ s.fh.copy = none ∧ s.resetReq = none ∧ s.flag FH_CKPT_CFG.EN = true ∧
      s.fh.ckAt ≤ s.fns) ∧
    (∃ (m : Master) (s : State), s.unitRuns s.active = true ∧ s.domOn 8 = true ∧ s.fh.copy = none ∧ s.resetReq = none ∧
      s.serves m FH_CMD.off 2 ∧ s.fhMiss m FH_CMD.off = false) ∧
    (∃ (slot : Fin 2) (c : Ckpt) (s : State), s.resetReq = none ∧ s.fh.copy = some (slot.val, c)) ∧
    (∃ (n : Nat) (s : State), s.resetReq = none ∧ s.zoneRuns = some n ∧ s.flag (FH_ZP_CFG.EN n) = true ∧
      s.g (FH_ZP_CFG.BUDGET n) * s.periodNs ≤ s.zoneNs n * 1000 ∧ s.fh.zoneOver.contains n = false ∧
      (s.rd FH_OVERRUN_CNT.off).toNat + 1 < 0xFFFFFFFF) :=
  ⟨⟨1, (Tests.Ip.fo0), by decide +kernel⟩,
    ⟨1, { mid := 4, node := 0x0000#16 }, 5, (Tests.Ip.hh Tests.Ip.fo0 (fun h => { h with resumed := some 1 })),
      by unfold State.serves; decide +kernel⟩,
    ⟨5, (Tests.Ip.fo0), by decide +kernel⟩,
    ⟨1, 4, (Tests.Ip.hh (Tests.Ip.b0.setUnit 1 fhFailed) (fun h => { h with rearm := some (1, 4) })), by decide +kernel⟩,
    ⟨1, (Tests.Ip.b0), by decide +kernel⟩,
    ⟨1, { mid := 2, node := 0x0000#16 }, (Tests.Ip.b0), by unfold State.serves; decide +kernel⟩,
    ⟨1, (Tests.Ip.hh ((Tests.Ip.b0.setUnit 1 fhProof).setDom 2 dsOn) (fun h => { h with proof := some 1 })), 0, by decide +kernel⟩,
    ⟨(Tests.Ip.b0), by decide +kernel⟩,
    ⟨{ mid := 2, node := 0x0000#16 }, (Tests.Ip.b0), by unfold State.serves; decide +kernel⟩,
    ⟨1, { seq := 4, fns := 0, cycle := 0, image := 0, unit := 0, regions := [], next := [], data := [] },
      (Tests.Ip.hh Tests.Ip.b0 (fun h => { h with copy := some (1, Tests.Ip.sc) })), by decide +kernel⟩,
    ⟨3, (Tests.Ip.zz Tests.Ip.zp), by decide +kernel⟩⟩

theorem test_witness_JetWords :
    (∃ (j : Fin 64) (s : State), s.jetAt j.val 0x0) ∧
    (∃ (j : Fin 64) (s : State), s.jetAt j.val 0x1) ∧
    (∃ (j : Fin 64) (s : State), s.jetAt j.val 0x2) ∧
    (∃ (j : Fin 64) (s : State), s.jetAt j.val 0x3) ∧
    (∃ (j : Fin 64) (s : State), s.jetAt j.val 0x4 ∧ s.flag (JET_PNT_TX.EN j.val) = true ∧ s.flag (JET_PNT_TX.QGATE j.val) = false ∧
      s.pointOld (s.g (JET_PNT_TX.POINT j.val)) = false ∧ s.tileGood (s.g (JET_PNT_TX.POINT j.val) / 16)) ∧
    (∃ (j : Fin 64) (s : State), s.jetAt j.val 0x4 ∧ s.flag (JET_PNT_TX.EN j.val) = false) ∧
    (∃ (j : Fin 64) (s : State), s.jetAt j.val 0x5 ∧ (let i := s.g (JET_PNT_RX.POINT j.val); s.flag (JET_PNT_RX.EN j.val) = true ∧
      (s.pt i).typ = tyU32)) ∧
    (∃ (j : Fin 64) (s : State), s.jetAt j.val 0x5 ∧ s.flag (JET_PNT_RX.EN j.val) = false ∧
      (s.rd (JET_POST_DROP.off j.val)).toNat + 1 < 0xFFFFFFFF) ∧
    (∃ (j : Fin 64) (s : State), s.jetAt j.val 0x6) ∧
    (∃ (j : Fin 64) (s : State), s.jetAt j.val 0x7) ∧
    (∃ (j : Fin 64) (s : State), s.jetAt j.val 0x8) ∧
    (∃ (j : Fin 64) (s : State), s.jetAt j.val 0x9) ∧
    (∃ (j : Fin 64) (s : State), s.jetAt j.val 0xA) ∧
    (∃ (j : Fin 64) (s : State), s.jetAt j.val 0xB) ∧
    (∃ (j : Fin 64) (s : State), s.resetReq = none ∧ s.jetRuns j.val = true ∧ s.jetIllegal j.val (s.jetWord j.val) = true) :=
  ⟨⟨0, (Tests.Jp1.word ((Tests.Jp1.jst 0).getD 0 Tests.Jp1.b0) 0 (0 * 4096 + 5)), by unfold State.jetAt; decide +kernel⟩,
    ⟨0, (Tests.Jp1.word ((Tests.Jp1.jst 0).getD 0 Tests.Jp1.b0) 0 (1 * 4096 + 0xFF)), by unfold State.jetAt; decide +kernel⟩,
    ⟨0, (Tests.Jp1.word ((Tests.Jp1.jst 0).getD 0 Tests.Jp1.b0) 0 (2 * 4096 + 0)), by unfold State.jetAt; decide +kernel⟩,
    ⟨0, (Tests.Jp1.word ((Tests.Jp1.jst 0).getD 0 Tests.Jp1.b0) 0 (3 * 4096 + 0)), by unfold State.jetAt; decide +kernel⟩,
    ⟨0, ((Tests.Jp1.cz ((Tests.Jp1.word (Tests.Jp1.j0 0 id) 0 0x4000).p (JET_PNT_TX.EN 0) 1))),
      by unfold State.tileGood State.jetAt; decide +kernel⟩,
    ⟨0, (Tests.Jp1.word ((Tests.Jp1.jst 0).getD 0 Tests.Jp1.b0) 0 (4 * 4096 + 0)), by unfold State.jetAt; decide +kernel⟩,
    ⟨0, ((((Tests.Jp1.word (Tests.Jp1.j0 0 id) 0 0x5000).p (JET_PNT_RX.EN 0) 1).putRec 0 { PRec.dflt 0 with typ := tyU32 })),
      by unfold State.jetAt; decide +kernel⟩,
    ⟨0, (Tests.Jp1.word ((Tests.Jp1.jst 0).getD 0 Tests.Jp1.b0) 0 (5 * 4096 + 0)), by unfold State.jetAt; decide +kernel⟩,
    ⟨0, (Tests.Jp1.word ((Tests.Jp1.jst 0).getD 0 Tests.Jp1.b0) 0 (6 * 4096 + 0x55)), by unfold State.jetAt; decide +kernel⟩,
    ⟨0, (Tests.Jp1.word ((Tests.Jp1.jst 0).getD 0 Tests.Jp1.b0) 0 (7 * 4096 + 0x1FF)), by unfold State.jetAt; decide +kernel⟩,
    ⟨0, (Tests.Jp1.word ((Tests.Jp1.jst 0).getD 0 Tests.Jp1.b0) 0 (8 * 4096 + 0)), by unfold State.jetAt; decide +kernel⟩,
    ⟨0, (Tests.Jp1.word ((Tests.Jp1.jst 0).getD 0 Tests.Jp1.b0) 0 (9 * 4096 + 0)), by unfold State.jetAt; decide +kernel⟩,
    ⟨0, (Tests.Jp1.word ((Tests.Jp1.jst 0).getD 0 Tests.Jp1.b0) 0 (10 * 4096 + 0)), by unfold State.jetAt; decide +kernel⟩,
    ⟨0, (Tests.Jp1.word ((Tests.Jp1.jst 0).getD 0 Tests.Jp1.b0) 0 (11 * 4096 + 0)), by unfold State.jetAt; decide +kernel⟩,
    ⟨0, (Tests.Jp1.word ((Tests.Jp1.jst 0).getD 0 Tests.Jp1.b0) 0 (0 * 4096 + 0x985)), by decide +kernel⟩⟩

theorem test_witness_JetCommandsAndPins :
    (∃ (m : Master) (j : Fin 64) (s : State), s.serves m (JET_TX.off j.val) 2 ∧ (s.rd (JET_TX_OVF.off j.val)).toNat + 1 < 0xFFFFFFFF) ∧
    (∃ (m : Master) (j : Fin 64) (s : State), s.serves m (JET_RX_POP.off j.val) 2 ∧
      (s.rd (JET_RX_UNDER.off j.val)).toNat + 1 < 0xFFFFFFFF) ∧
    (∃ (m : Master) (j : Fin 64) (s : State), s.serves m (JET_CTRL.off j.val) 2) ∧
    (∃ (m : Master) (j : Fin 64) (s : State), s.serves m (JET_CTRL.off j.val) 2 ∧ jetOp (s.jetWord j.val) = 6 ∧
      s.jetIllegal j.val (s.jetWord j.val) = false ∧ (s.jetWord j.val).testBit 11 = false ∧ (s.jetWord j.val).testBit 10 = false ∧
      (s.jet j.val).lcnt = 0) ∧
    (∃ (m : Master) (j : Fin 64) (s : State), s.serves m (JET_PC.off j.val) 2) ∧
    (∃ (m : Master) (j : Fin 64) (s : State), s.serves m (JET_D.off j.val) 2) ∧
    (∃ (m : Master) (j : Fin 64) (k : Fin 128) (s : State), s.serves m (JET_PROG.off j.val k.val) 2) ∧
    (∃ (m : Master) (g : Nat) (s : State), s.serves m JET_GRP_GO.off 2 ∧ g < 8) ∧
    (∃ (b : Fin 2) (f : GrpFire) (s : State), s.resetReq = none ∧ s.domOn (12 + b.val) = true ∧ f.bank = b.val ∧ s.jets.fired = [f]) ∧
    (∃ (m : Master) (n : Fin 256) (s : State), s.serves m (FIO_PIN_CFG.off n.val) 2 ∧ (s.rd FIO_CFGERR_CNT.off).toNat + 1 < 0xFFFFFFFF) ∧
    (∃ (m : Master) (k : Fin 16) (s : State), s.serves m (FIO_LEVEL.off k.val) 2) ∧
    (∃ (m : Master) (n : Fin 256) (val : Word) (s : State), s.serves m (FIO_PIN_IN.off n.val) 2 ∧ (FIO_PIN_IN.EN n.val).get val = 1 ∧
      (FIO_PIN_IN.MODE n.val).get val = 0 ∧ s.flag (FIO_PIN_IN.EN n.val) = false ∧ (s.rd FIO_CFGERR_CNT.off).toNat + 1 < 0xFFFFFFFF) ∧
    (∃ (m : Master) (n : Fin 256) (val : Word) (s : State), s.serves m (FIO_PIN_OUT.off n.val) 2 ∧ (FIO_PIN_OUT.EN n.val).get val = 1 ∧
      (FIO_PIN_OUT.MODE n.val).get val = 0 ∧ (FIO_PIN_OUT.QGATE n.val).get val = 0 ∧ s.flag (FIO_PIN_OUT.EN n.val) = false ∧
      (s.rd FIO_CFGERR_CNT.off).toNat + 1 < 0xFFFFFFFF) ∧
    (∃ (n : Fin 256) (stamp : Nat) (s : State), s.resetReq = none ∧ s.flag (FIO_PIN_IN.EN n.val) = true ∧
      (let i := s.g (FIO_PIN_IN.POINT n.val); s.flag (FIO_PIN_IN.MODE n.val) = false ∧ (s.pt i).typ = tyBit ∧
      SMap.get (fun _ => none) s.pins.filtFrom n.val = some stamp ∧ stamp < 2 ^ 48 ∧
      s.g (FIO_PIN_IN.FILT n.val) * 1000 ≤ (s.fns48 + 2 ^ 48 - stamp) % 2 ^ 48)) ∧
    (∃ (n : Fin 256) (k : Nat) (s : State), s.resetReq = none ∧ s.flag (FIO_PIN_IN.EN n.val) = true ∧
      (let i := s.g (FIO_PIN_IN.POINT n.val); s.flag (FIO_PIN_IN.MODE n.val) = true ∧ (s.pt i).typ = tyCount ∧
      SMap.get (fun _ => 0) s.pins.rises n.val = k ∧ k ≠ 0 ∧
      (SMap.get (fun _ => none) s.pins.countAt n.val).all (fun t => decide (t + 1000 ≤ s.absNs)) = true ∧
      encOk tyCount (((s.pt i).value.toNat + k) % 2 ^ 64) = true)) ∧
    (∃ (s : State), s.resetReq = none ∧ s.boundIns = [] ∧ (s.rd FIO_VIO_FAIL.off).toNat + 1 < 0xFFFFFFFF) ∧
    (∃ (s : State), s.resetReq = none) :=
  ⟨⟨{ mid := 2, node := 0x0000#16 }, 0, (Tests.Jp1.word ((Tests.Jp1.jst 0).getD 0 Tests.Jp1.b0) 0 (0 * 4096 + 5)),
      by unfold State.serves; decide +kernel⟩,
    ⟨{ mid := 2, node := 0x0000#16 }, 0, (Tests.Jp1.word ((Tests.Jp1.jst 0).getD 0 Tests.Jp1.b0) 0 (0 * 4096 + 5)),
      by unfold State.serves; decide +kernel⟩,
    ⟨{ mid := 2, node := 0x0000#16 }, 0, (Tests.Jp1.word ((Tests.Jp1.jst 0).getD 0 Tests.Jp1.b0) 0 (0 * 4096 + 5)),
      by unfold State.serves; decide +kernel⟩,
    ⟨{ mid := 2, node := 0x0000#16 }, 0, (Tests.Jp1.word ((Tests.Jp1.jst 0).getD 0 Tests.Jp1.b0) 0 (6 * 4096 + 0x55)),
      by unfold State.serves; decide +kernel⟩,
    ⟨{ mid := 2, node := 0x0000#16 }, 0, (Tests.Jp1.word ((Tests.Jp1.jst 0).getD 0 Tests.Jp1.b0) 0 (0 * 4096 + 5)),
      by unfold State.serves; decide +kernel⟩,
    ⟨{ mid := 2, node := 0x0000#16 }, 0, (Tests.Jp1.word ((Tests.Jp1.jst 0).getD 0 Tests.Jp1.b0) 0 (0 * 4096 + 5)),
      by unfold State.serves; decide +kernel⟩,
    ⟨{ mid := 2, node := 0x0000#16 }, 0, 0, (Tests.Jp1.word ((Tests.Jp1.jst 0).getD 0 Tests.Jp1.b0) 0 (0 * 4096 + 5)),
      by unfold State.serves; decide +kernel⟩,
    ⟨{ mid := 2, node := 0x0000#16 }, 0, (Tests.Jp1.word ((Tests.Jp1.jst 0).getD 0 Tests.Jp1.b0) 0 (0 * 4096 + 5)),
      by unfold State.serves; decide +kernel⟩,
    ⟨1, { grp := 3, bank := 1, cfg := 0x000000f1#32, lo := 0x80000001#32, hi := 0x80000000#32 }, (Tests.Jp2.grp 0 (Tests.Jp2.j0 63 id)),
      by decide +kernel⟩,
    ⟨{ mid := 2, node := 0x0000#16 }, 0, (Tests.Jp1.word ((Tests.Jp1.jst 0).getD 0 Tests.Jp1.b0) 0 (0 * 4096 + 5)),
      by unfold State.serves; decide +kernel⟩,
    ⟨{ mid := 2, node := 0x0000#16 }, 0, (Tests.Jp1.word ((Tests.Jp1.jst 0).getD 0 Tests.Jp1.b0) 0 (0 * 4096 + 5)),
      by unfold State.serves; decide +kernel⟩,
    ⟨{ mid := 2, node := 0x0000#16 }, 0, 0x80000005#32, (Tests.Jp1.word ((Tests.Jp1.jst 0).getD 0 Tests.Jp1.b0) 0 (0 * 4096 + 5)),
      by unfold State.serves; decide +kernel⟩,
    ⟨{ mid := 2, node := 0x0000#16 }, 0, 0x80000005#32, (Tests.Jp1.word ((Tests.Jp1.jst 0).getD 0 Tests.Jp1.b0) 0 (0 * 4096 + 5)),
      by unfold State.serves; decide +kernel⟩,
    ⟨0, 5, (Tests.Jp2.cp (Tests.Jp2.bit ((Tests.Jp2.b0.p (FIO_PIN_IN.EN 0) 1).p (FIO_PIN_IN.POINT 0) 5 |>.p (FIO_PIN_IN.FILT 0) 3) tyBit) (fun p => { p with filtFrom := [(0, some 5)] })), by decide +kernel⟩,
    ⟨255, 3, (Tests.Jp2.cp (Tests.Jp2.bit ((Tests.Jp2.b0.p (FIO_PIN_IN.EN 255) 1).p (FIO_PIN_IN.POINT 255) 5 |>.p (FIO_PIN_IN.MODE 255) 1) tyCount) (fun p => { p with rises := [(255, 3)] })), by decide +kernel⟩,
    ⟨(Tests.Jp1.word ((Tests.Jp1.jst 0).getD 0 Tests.Jp1.b0) 0 (0 * 4096 + 5)), by decide +kernel⟩,
    ⟨(Tests.Jp1.word ((Tests.Jp1.jst 0).getD 0 Tests.Jp1.b0) 0 (0 * 4096 + 5)), by decide +kernel⟩⟩

theorem test_witness_CisternsHoldPackets :
    (∃ (m : Master) (n : Fin 256) (data : List Byte) (s : State), s.feedsCistern m n.val ∧
      (let c := s.cist n.val; (let b := c.opened.getD []; data.length ≤ 256 ∧ cstWords (b.length + data.length) ≤ s.cstSize n.val - 1 ∧
      data.length % 4 = 0 ∧ 4 ≤ data.length))) ∧
    (∃ (m : Master) (n : Fin 256) (data : List Byte) (s : State), s.feedsCistern m n.val ∧
      (let c := s.cist n.val; (let b := c.opened.getD []; data.length ≤ 256 ∧ cstWords (b.length + data.length) ≤ s.cstSize n.val - 1 ∧
      c.fill + c.need data.length ≤ s.cstSize n.val ∧ 1 ≤ data.length))) ∧
    (∃ (m : Master) (n : Fin 256) (b : List Byte) (s : State), s.feedsCistern m n.val ∧ (s.cist n.val).opened = some b ∧
      (s.rd CST_DROP.off).toNat + 1 < 0xFFFFFFFF ∧ cstWords b.length ≤ s.cstSize n.val - 1 ∧ (s.cist n.val).fill ≤ s.cstSize n.val) ∧
    (∃ (m : Master) (n : Fin 256) (b : List Byte) (s : State), s.feedsCistern m n.val ∧ (s.cist n.val).opened = some b ∧
      (s.rd CST_DROP.off).toNat + 1 < 0xFFFFFFFF) ∧
    (∃ (m : Master) (n : Fin 256) (b : List Byte) (s : State), s.feedsCistern m n.val ∧ (s.cist n.val).opened = some b ∧
      (s.rd CST_DROP.off).toNat + 1 < 0xFFFFFFFF ∧ s.serves m (CST_CMD.off n.val) 2) ∧
    (∃ (m : Master) (n : Fin 256) (data : List Byte) (s : State), s.resetReq = none ∧ s.spaceGate m 2 0 = 0 ∧
      s.cstProducer n.val none m.mid.val = false ∧ data.length % 4 = 0 ∧ 4 ≤ data.length ∧ data.length ≤ 256) ∧
    (∃ (m : Master) (n : Fin 256) (k : Nat) (corr : Nat) (s : State), s.resetReq = none ∧ s.spaceGate m 2 0 = 0 ∧
      s.flag (CST_CFG.CONS n.val) = false ∧ s.flag (CST_CFG.EN n.val) = true ∧ s.flag (CST_STAT.FLUSH_PEND n.val) = false ∧ 1 ≤ k ∧
      k ≤ 64 ∧ (s.rd CST_ECC_CORR.off).toNat + corr < 0xFFFFFFFF) ∧
    (∃ (m : Master) (n : Fin 256) (k : Nat) (s : State), s.resetReq = none ∧ s.spaceGate m 2 0 = 0 ∧ s.flag (CST_CFG.CONS n.val) = false ∧
      s.flag (CST_CFG.EN n.val) = true ∧ 1 ≤ k ∧ k ≤ 64 ∧ (s.rd CST_ECC_UNCORR.off).toNat + 1 < 0xFFFFFFFF ∧
      (s.rd CST_DROP.off).toNat + (s.cist n.val).closed.length + 1 < 0xFFFFFFFF) ∧
    (∃ (m : Master) (n : Fin 256) (k : Nat) (s : State), s.resetReq = none ∧ s.spaceGate m 2 0 = 0 ∧ s.flag (CST_CFG.CONS n.val) = false ∧
      s.flag (CST_CFG.EN n.val) = true ∧ 1 ≤ k ∧ k ≤ 64 ∧ (s.rd CST_ECC_UNCORR.off).toNat + 1 < 0xFFFFFFFF ∧
      (s.rd CST_DROP.off).toNat + (s.cist n.val).closed.length + 1 < 0xFFFFFFFF ∧ (s.cist n.val).inside = [] ∧ (s.cist n.val).closed ≠ []) ∧
    (∃ (n : Fin 256) (w : PushWait) (r : List PushWait) (s : State), s.feedsCistern w.m n.val ∧ (s.cist n.val).waits = w :: r ∧
      w.port = 0 ∧ w.typ < 128 ∧ w.data.length % 4 = 0 ∧ 4 ≤ w.data.length ∧ w.data.length ≤ 256 ∧
      cstWords (((s.cist n.val).opened.getD []).length + w.data.length) ≤ s.cstSize n.val - 1) ∧
    (∃ (n : Fin 256) (p : Packet) (tn : Nat) (s : State), s.resetReq = none ∧ s.domOn 6 = true ∧ s.flag (CST_CFG.EN n.val) = true ∧
      s.flag (CST_CFG.CONS n.val) = true ∧ s.flag (CST_STAT.FLUSH_PEND n.val) = false ∧ s.pktTunnel n.val = some tn ∧
      (s.cist n.val).closed[(s.cist n.val).sending]? = some p ∧ p.len ≤ 256 ∧ p.words.length = cstWords p.len ∧ p.typ < 128 ∧
      s.flowRuns = true ∧ s.flow.leaving = [] ∧ s.flow.subs = [] ∧ s.flow.arrWait = false ∧ s.flow.opened = none ∧ s.headClear 0 ∧
      (let f := s.g (BRG_TUN_CFG.FLOW.at tn); (let addr := s.g (BRG_TUN_REMOTE.NODE.at tn) * 2 ^ 48 + 2 * 2 ^ 40 + p.typ * 2 ^ 20 + s.g (BRG_TUN_REMOTE.RTUN.at tn) * 2 ^ 12 + (if p.len = 0 then 4 else 1) * 2 ^ 8; (let it : Item := { newItem f 0x10 addr p.bytes 0 (.cist tn n.val) with seg := 3 }; s.submitCheck it = stOK ∧ s.flowFull f = false ∧ 4000 * accLines p.bytes.length ≤ s.budNow)))) ∧
    (∃ (n : Fin 256) (tn : Nat) (k : Nat) (s : State), s.resetReq = none ∧ s.domOn 6 = true ∧ s.flag (CST_CFG.EN n.val) = true ∧
      s.flag (CST_CFG.CONS n.val) = true ∧ s.flag (CST_STAT.FLUSH_PEND n.val) = false ∧ s.pktTunnel n.val = some tn ∧
      (s.cist n.val).sending < (s.cist n.val).closed.length ∧ 1 ≤ k ∧ (s.rd CST_ECC_UNCORR.off).toNat + 1 < 0xFFFFFFFF ∧
      (s.rd CST_DROP.off).toNat + 1 < 0xFFFFFFFF) ∧
    (∃ (m : Master) (n : Fin 256) (s : State), s.serves m (CST_CMD.off n.val) 2 ∧ s.flag (CST_STAT.FLUSH_PEND n.val) = false) ∧
    (∃ (m : Master) (e : TlogEnt) (r : List TlogEnt) (s : State), s.serves m CST_TLOG_POP.off 2 ∧ s.cst.tlog = e :: r) :=
  ⟨⟨{ mid := 2, node := 0x0000#16 }, 0, [0x01#8, 0x02#8, 0x03#8, 0x04#8], (Tests.Kp1.ci 0 id),
      by unfold State.feedsCistern; decide +kernel⟩,
    ⟨{ mid := 2, node := 0x0000#16 }, 0, [0x01#8, 0x02#8, 0x03#8, 0x04#8], (Tests.Kp1.ci 0 id),
      by unfold State.feedsCistern; decide +kernel⟩,
    ⟨{ mid := 2, node := 0x0000#16 }, 0, [0x01#8, 0x02#8, 0x03#8, 0x04#8, 0x05#8],
      (Tests.Kp1.ci 0 (fun c => { c with opened := some [1,2,3,4,5], closed := [Tests.Kp1.pk 3 7, Tests.Kp1.pk 4 0], inside := [8,9] })),
      by unfold State.feedsCistern; decide +kernel⟩,
    ⟨{ mid := 2, node := 0x0000#16 }, 0, [0x01#8, 0x02#8, 0x03#8, 0x04#8, 0x05#8],
      (Tests.Kp1.ci 0 (fun c => { c with opened := some [1,2,3,4,5], closed := [Tests.Kp1.pk 3 7, Tests.Kp1.pk 4 0], inside := [8,9] })),
      by unfold State.feedsCistern; decide +kernel⟩,
    ⟨{ mid := 2, node := 0x0000#16 }, 0, [0x01#8, 0x02#8, 0x03#8, 0x04#8, 0x05#8],
      (Tests.Kp1.ci 0 (fun c => { c with opened := some [1,2,3,4,5], closed := [Tests.Kp1.pk 3 7, Tests.Kp1.pk 4 0], inside := [8,9] })),
      by unfold State.serves State.feedsCistern; decide +kernel⟩,
    ⟨{ mid := 2, node := 0x0000#16 }, 255, [0x01#8, 0x02#8, 0x03#8, 0x04#8], (Tests.Kp1.ci 0 id), by decide +kernel⟩,
    ⟨{ mid := 2, node := 0x0000#16 }, 0, 1, 0, (Tests.Kp1.ci 0 id), by decide +kernel⟩,
    ⟨{ mid := 2, node := 0x0000#16 }, 0, 1, (Tests.Kp1.ci 0 id), by decide +kernel⟩,
    ⟨{ mid := 2, node := 0x0000#16 }, 255, 1,
      (Tests.Kp1.ci 255 (fun c => { c with closed := [Tests.Kp1.pk 3 7, Tests.Kp1.pk 4 9], waits := [⟨sup, 0, 0, [1,2,3,4]⟩] })),
      by decide +kernel⟩,
    ⟨255, { m := { mid := 2, node := 0x0000#16 }, port := 0, typ := 0, data := [0x01#8, 0x02#8, 0x03#8, 0x04#8] }, [],
      (Tests.Kp1.ci 255 (fun c => { c with closed := [Tests.Kp1.pk 3 7, Tests.Kp1.pk 4 9], waits := [⟨sup, 0, 0, [1,2,3,4]⟩] })),
      by unfold State.feedsCistern; decide +kernel⟩,
    ⟨255, { typ := 3, len := 7, words := [0x03030303#32, 0x00030303#32] }, 3,
      (Tests.Kp1.tun (Tests.Kp1.ci 255 (fun c => { c with closed := [Tests.Kp1.pk 3 7, Tests.Kp1.pk 4 9] }))),
      by unfold State.headClear; decide +kernel⟩,
    ⟨255, 3, 1, (Tests.Kp1.tun (Tests.Kp1.ci 255 (fun c => { c with closed := [Tests.Kp1.pk 3 7, Tests.Kp1.pk 4 9] }))), by decide +kernel⟩,
    ⟨{ mid := 2, node := 0x0000#16 }, 0, (Tests.Kp1.ci 0 id), by unfold State.serves; decide +kernel⟩,
    ⟨{ mid := 2, node := 0x0000#16 }, { stage := 1, serial := 2, status := 3, tunnel := 4, cistern := 5, seq := 6, time := 7 }, [],
      ({ Tests.Kp1.b0 with cst := { Tests.Kp1.b0.cst with tlog := [⟨1,2,3,4,5,6,7⟩] } }), by unfold State.serves; decide +kernel⟩⟩

theorem test_witness_CanControllers :
    (∃ (n : Fin 8) (o : Fin 64) (f : CanFrame) (s : State), s.resetReq = none ∧ s.domOn 11 = true ∧ s.canMode n.val ≠ cmInit ∧
      s.canMode n.val ≠ cmLoop ∧ s.canState n.val ≠ csBusOff ∧ s.canState n.val ≠ csRecovering ∧
      (f.fdf = true → s.flag (CAN_CFG.FD n.val) = true) ∧ f.dlc < 16 ∧ s.objRx n.val o.val = true ∧ s.objMatch n.val o.val f = true ∧ (∀ k,
      k < 64 → k ≠ o.val → s.objRx n.val k = false ∨ s.objMatch n.val k f = false) ∧ s.sigEntries false 1 n.val o.val = [] ∧
      s.canTunnel n.val o.val = none ∧ (s.canc n.val).held = [] ∧ (s.rd (CAN_RX_OVR.off n.val)).toNat + 1 < 0xFFFFFFFF) ∧
    (∃ (n : Fin 8) (err : Fin 9) (s : State), s.resetReq = none ∧ s.domOn 11 = true ∧ s.canMode n.val ≠ cmInit ∧ s.canMode n.val ≠ cmLoop ∧
      s.canState n.val ≠ csBusOff ∧ s.canState n.val ≠ csRecovering ∧ err ≠ 0) ∧
    (∃ (m : Master) (n : Fin 8) (o : Fin 64) (s : State), s.serves m (CAN_CMD.off n.val) 2 ∧ s.objTx n.val o.val = true) ∧
    (∃ (m : Master) (n : Fin 8) (o : Fin 64) (s : State), s.serves m (CAN_CMD.off n.val) 2 ∧
      s.flag ((CAN_OBJ_STAT.PEND n.val).at o.val) = true ∧ (s.canc n.val).tx = none ∧ (s.canc n.val).waitSingle = none ∧
      (s.rd (CAN_CANCEL_CNT.off n.val)).toNat + 1 < 0xFFFFFFFF ∧ (s.rd (CAN_TX_FAIL.off n.val)).toNat + 1 < 0xFFFFFFFF) ∧
    (∃ (m : Master) (n : Fin 8) (s : State), s.serves m (CAN_CMD.off n.val) 2) ∧
    (∃ (m : Master) (n : Fin 8) (s : State), s.serves m (CAN_CMD.off n.val) 2 ∧ s.canState n.val = csBusOff) ∧
    (∃ (m : Master) (n : Fin 8) (s : State), s.serves m (CAN_CMD.off n.val) 2 ∧ s.canState n.val ≠ csBusOff ∧
      (s.rd (CAN_CFGERR_CNT.off n.val)).toNat + 1 < 0xFFFFFFFF) ∧
    (∃ (n : Fin 8) (o : Fin 64) (s : State), s.resetReq = none ∧ s.objTx n.val o.val = true ∧
      s.g ((CAN_OBJ_CFG.PERIOD n.val).at o.val) ≠ 0) ∧
    (∃ (n : Fin 8) (o : Fin 64) (s : State), s.resetReq = none ∧ s.canSends n.val = true ∧ (s.canc n.val).tx = none ∧
      (s.canc n.val).waitSingle = none ∧ s.objTx n.val o.val = true ∧ s.flag ((CAN_OBJ_STAT.PEND n.val).at o.val) = true ∧
      (s.flag (CAN_CFG.TT n.val) = true → s.arbNow n.val = true ∧ s.arbOk n.val o.val = true) ∧ (∀ k,
      k < 64 → k ≠ o.val → s.objTx n.val k = true → s.flag ((CAN_OBJ_STAT.PEND n.val).at k) = true → (s.flag (CAN_CFG.TT n.val) = true → s.arbOk n.val k = true) → s.objPrio n.val o.val < s.objPrio n.val k ∨ s.objPrio n.val o.val = s.objPrio n.val k ∧ o.val < k) ∧ SMap.get (fun _ => none) (s.canc n.val).arr o.val = none) ∧
    (∃ (n : Fin 8) (o : Fin 64) (r : Bool) (w : Int) (e : Nat) (s : State), s.resetReq = none ∧ (s.canc n.val).waitSingle = some (o.val, r,
      w, e) ∧ (s.rd (CAN_TX_FAIL.off n.val)).toNat + 1 < 0xFFFFFFFF ∧ s.canSends n.val = true ∧ (s.canc n.val).tx = none ∧
      s.txenPast n.val w e = false) ∧
    (∃ (n : Fin 8) (o : Fin 64) (r : Bool) (w : Int) (e : Nat) (s : State), s.resetReq = none ∧ (s.canc n.val).waitSingle = some (o.val, r,
      w, e) ∧ (s.rd (CAN_TX_FAIL.off n.val)).toNat + 1 < 0xFFFFFFFF) ∧
    (∃ (n : Fin 8) (x : CanTx) (s : State), s.resetReq = none ∧ (s.canc n.val).tx = some x ∧ x.obj < 64 ∧ s.canMode n.val ≠ cmLoop) ∧
    (∃ (n : Fin 8) (x : CanTx) (s : State), s.resetReq = none ∧ (s.canc n.val).tx = some x ∧ x.obj < 64 ∧ s.canMode n.val ≠ cmLoop ∧
      (s.rd (CAN_TX_FAIL.off n.val)).toNat + 1 < 0xFFFFFFFF ∧ (s.rd (CAN_CANCEL_CNT.off n.val)).toNat + 1 < 0xFFFFFFFF) ∧
    (∃ (n : Fin 8) (x : CanTx) (s : State), s.resetReq = none ∧ (s.canc n.val).tx = some x ∧ x.obj < 64 ∧ s.canMode n.val ≠ cmLoop ∧
      (s.canState n.val = csActive ∨ s.canState n.val = csPassive) ∧ (s.rd (CAN_BUSOFF_CNT.off n.val)).toNat + 1 < 0xFFFFFFFF) ∧
    (∃ (n : Fin 8) (w : Fin 32) (o : Fin 64) (s : State), s.resetReq = none ∧ s.domOn 11 = true ∧ s.flag (CAN_CFG.TT n.val) = true ∧
      (let u := s.ttDue n.val; (let cell := u.rd (bankKey (CAN_CELL.off n.val) (u.canRow n.val * 32 + w.val)); u.winOpens n.val w.val = true ∧ u.objTx n.val o.val = true ∧ (CAN_CELL.OBJ n.val).get cell = o.val ∧ u.sigEntries true 1 n.val o.val = [] ∧ (u.rd (CAN_TX_FAIL.off n.val)).toNat + 1 < 0xFFFFFFFF))) ∧
    (∃ (n : Fin 8) (b : Nat) (k : Nat) (p : Nat) (c : Int) (s : State), s.resetReq = none ∧ (s.canc n.val).stagedTT = some (b, k, p, c)) ∧
    (∃ (n : Fin 8) (s : State), s.resetReq = none ∧ s.canState n.val = csRecovering) :=
  ⟨⟨0, 0, (Tests.Kp2.fr), (Tests.Kp2.rx (Tests.Kp2.can 0 id) 0 0 5), by decide +kernel⟩,
    ⟨0, 1, (Tests.Kp2.can 0 id), by decide +kernel⟩,
    ⟨{ mid := 2, node := 0x0000#16 }, 0, 63, (Tests.Kp2.tx (Tests.Kp2.can 0 id) 0 63 9), by unfold State.serves; decide +kernel⟩,
    ⟨{ mid := 2, node := 0x0000#16 }, 0, 63, (Tests.Kp2.tx (Tests.Kp2.can 0 id) 0 63 9), by unfold State.serves; decide +kernel⟩,
    ⟨{ mid := 2, node := 0x0000#16 }, 0, (Tests.Kp1.ci 0 id), by unfold State.serves; decide +kernel⟩,
    ⟨{ mid := 2, node := 0x0000#16 }, 7, ((Tests.Kp2.can 7 id).p (CAN_STAT.STATE 7) 3), by unfold State.serves; decide +kernel⟩,
    ⟨{ mid := 2, node := 0x0000#16 }, 0, (Tests.Kp1.ci 0 id), by unfold State.serves; decide +kernel⟩,
    ⟨0, 63, ((Tests.Kp2.tx (Tests.Kp2.can 0 id) 0 63 9).p ((CAN_OBJ_CFG.PERIOD 0).at 63) 3), by decide +kernel⟩,
    ⟨0, 63, (Tests.Kp2.tx (Tests.Kp2.can 0 id) 0 63 9), by decide +kernel⟩,
    ⟨0, 63, true, 5000000000000007, 3,
      (Tests.Kp2.tx (Tests.Kp2.can 0 (fun c => { c with waitSingle := some (63, true, 5000000*1000000000+7, 3), stagedTT := some (500, 3, 7, 5000000000) })) 0 63 9), by decide +kernel⟩,
    ⟨0, 63, false, 0, 3, (Tests.Kp2.can 0 (fun c => { c with waitSingle := some (63, false, 0, 3), stagedTT := some (500, 3, 7, 0) })),
      by decide +kernel⟩,
    ⟨7, (⟨63, Tests.Kp2.fr, false, false⟩), (Tests.Kp2.ctx ⟨63, Tests.Kp2.fr, false, false⟩ id), by decide +kernel⟩,
    ⟨7, (⟨63, Tests.Kp2.fr, false, false⟩), (Tests.Kp2.ctx ⟨63, Tests.Kp2.fr, false, false⟩ id), by decide +kernel⟩,
    ⟨7, (⟨63, Tests.Kp2.fr, false, false⟩), (Tests.Kp2.ctx ⟨63, Tests.Kp2.fr, false, false⟩ id), by decide +kernel⟩,
    ⟨0, 31, 63, (Tests.Kp2.tt (Tests.Kp2.tx (Tests.Kp2.can 0 id) 0 63 9) 31 1), by decide +kernel⟩,
    ⟨0, 500, 3, 7, 0, (Tests.Kp2.can 0 (fun c => { c with waitSingle := some (63, false, 0, 3), stagedTT := some (500, 3, 7, 0) })),
      by decide +kernel⟩,
    ⟨7, ((Tests.Kp2.can 7 id).p (CAN_STAT.STATE 7) 4), by decide +kernel⟩⟩

theorem test_witness_UsbFunctionAndHub :
    (∃ (addr : BitVec 64) (r : RegRow) (s : State), s.ep2Ready = true ∧ s.serves usbM FEED_CTRL.off 1 ∧ regRow FEED_CTRL.off = some r ∧
      addr.toNat = 2 ^ 40 + FEED_CTRL.off ∧ s.usb.pieces = [] ∧ s.usb.unres = [] ∧ s.postCheck addr.toNat 4 = stOK) ∧
    (∃ (tag : Nat) (first : Nat) (n : Nat) (s : State), s.resetReq = none ∧ s.usbRuns = true ∧ s.usb.pieces = [] ∧ s.usb.write = some (tag,
      first, n)) ∧
    (∃ (addr : BitVec 64) (i : Nat) (s : State), s.resetReq = none ∧ s.ep2Ready = true ∧ s.spaceGate usbM 0 (16 * i) = 0 ∧
      s.isHere addr.toNat = true ∧ addr.toNat % 2 ^ 48 = 16 * i ∧ s.pointPlain i ∧ s.tileGood (i / 16) ∧
      (s.rd USB_CMD_ERR.off).toNat + 1 < 0xFFFFFFFF) ∧
    (∃ (r : UResp) (l : List UResp) (s : State), s.resetReq = none ∧ s.usbRuns = true ∧ s.ust4 = ubConfigured ∧ s.usb.resps = r :: l ∧
      s.usb.halted = false) ∧
    (∃ (b : List Byte) (lb : List (List Byte)) (s : State), s.resetReq = none ∧ s.usbRuns = true ∧ s.ust4 = ubConfigured ∧
      s.usb.notes = b :: lb) ∧
    (∃ (f : Nat) (c : Nat) (s : State), s.resetReq = none ∧ s.usbRuns = true ∧ s.ust4 = ubConfigured ∧ s.g USB_STAT.SPEED = 2 ∧
      s.flag USB_ISO_CFG.EN = true ∧ s.flag (USB_ISO_RANGE.VALID 0) = true ∧ s.g (USB_ISO_RANGE.FIRST 0) = f ∧
      s.g (USB_ISO_RANGE.COUNTM1 0) = c ∧ (∀ k, k < 16 → k ≠ 0 → s.flag (USB_ISO_RANGE.VALID k) = false) ∧ 16 + 16 * (c + 1) ≤ 1024 ∧ (∀ j,
      j ≤ c → s.pointPlain (f + j) ∧ s.tileGood ((f + j) / 16)) ∧ (∀ n, n < 4 → (s.ttOf n).per = []) ∧
      (s.rd USB_ISO_SKIP.off).toNat + 1 < 0xFFFFFFFF) ∧
    (∃ (p : Fin 4) (e : TtEp) (d : List Byte) (s : State), s.resetReq = none ∧ s.usbRuns = true ∧ s.g USB_STAT.SPEED = 2 ∧
      s.ust4 ≠ ubSuspended ∧ s.ust4 ≠ ubDetached ∧ s.flag USB_ISO_CFG.EN = false ∧ (s.g USB_CFG.LOCAL).testBit p.val = false ∧
      s.usb.tt.length = 4 ∧ (∀ n, n < 4 → (s.ttOf n).per = []) ∧ (s.ttOf p.val).np = [] ∧ e.periodic = false ∧ d.length ≤ 64 ∧
      (s.rd USB_TT_ERR.off).toNat + 1 < 0xFFFFFFFF) ∧
    (∃ (s : State), s.resetReq = none ∧ s.usbRuns = true ∧ s.ust4 = ubDefault) ∧
    (∃ (s : State), s.resetReq = none ∧ s.usbRuns = true ∧ s.ust4 = ubAddress) ∧
    (∃ (s : State), s.resetReq = none ∧ s.usbRuns = true ∧ s.ust4 = ubConfigured ∧ (∀ r ∈ s.usb.resps, r.side = false)) ∧
    (∃ (s : State), s.resetReq = none ∧ s.usbRuns = true) ∧
    (∃ (s : State), s.resetReq = none ∧ s.usbRuns = true ∧ s.usb.tt.length = 4) ∧
    (∃ (n : Fin 4) (s : State), s.resetReq = none ∧ s.usbRuns = true ∧ s.flag (USB_PORT_STAT.EN n.val) = true) ∧
    (∃ (n : Fin 4) (s : State), s.resetReq = none ∧ s.usbRuns = true ∧ s.flag (USB_PORT_STAT.CONN n.val) = true) ∧
    (∃ (s : State), s.resetReq = none ∧ s.usbRuns = true ∧ s.flag USB_CFG.EN = true ∧ (∀ r ∈ s.usb.resps, r.side = false)) ∧
    (∃ (s : State), s.resetReq = none ∧ s.usbRuns = true ∧ (∀ r ∈ s.usb.resps, r.side = false)) ∧
    (∃ (r : UResp) (s : State), s.resetReq = none ∧ s.usbRuns = true ∧ s.flag USB_CFG.EN = true ∧ s.usb.resps = [r] ∧ r.side = true ∧
      s.brg.str.length < 32) ∧
    (∃ (s : State), s.resetReq = none ∧ s.usbRuns = true ∧ s.ust4 ≠ ubDetached ∧ s.ust4 ≠ ubSuspended) ∧
    (∃ (s : State), s.resetReq = none ∧ s.usbRuns = true ∧ s.ust4 = ubSuspended) ∧
    (∃ (at_ : Int) (s : State), s.resetReq = none ∧ s.usbRuns = true ∧ s.ust4 = ubSuspended ∧ s.flag USB_WAKE.REQ = true ∧
      s.flag USB_STAT.RWE = true ∧ s.usb.driving = none ∧ s.usb.suspAt = some at_ ∧ at_ + 5000000 ≤ s.absNs) ∧
    (∃ (at_ : Int) (s : State), s.resetReq = none ∧ s.usbRuns = true ∧ s.ust4 = ubSuspended ∧ s.usb.driving = some at_ ∧
      at_ + 2000000 ≤ s.absNs) ∧
    (∃ (s : State), s.resetReq = none ∧ s.usbRuns = true ∧ (s.rd USB_OC_CNT.off).toNat + 1 < 0xFFFFFFFF) ∧
    (∃ (n : Fin 4) (s : State), s.resetReq = none ∧ s.usbRuns = true ∧ (s.rd USB_OC_CNT.off).toNat + 1 < 0xFFFFFFFF ∧
      s.flag (USB_PORT_STAT.POWER n.val) = true) ∧
    (∃ (m : Master) (s : State), s.serves m USB_CFG.off 2 ∧ s.usb.tt.length = 4 ∧ (∀ r ∈ s.usb.resps, r.side = false)) ∧
    (∃ (n : Fin 4) (id : Fin 256) (data : List Byte) (e : Nat) (s : State), s.resetReq = none ∧ s.usbRuns = true ∧
      (s.g USB_CFG.LOCAL).testBit n.val = true ∧ s.g (USB_PORT_STAT.CLASS n.val) = 1 ∧ s.sigEntries false 4 (n.val + 1) id.val = [e] ∧
      s.flag (BRG_SIG_SRC.SIGNED.at e) = false ∧
      (let i := s.g (BRG_SIG_DST.POINT.at e); (let v := fieldGet (s.flag (BRG_SIG_SRC.MOTOROLA.at e)) (s.g (BRG_SIG_SRC.BITPOS.at e)) (s.g (BRG_SIG_DST.BITLEN.at e)) data; (s.pt i).typ ≠ tyUndef ∧ encOk (s.pt i).typ (v % 2 ^ 64) = true))) :=
  ⟨⟨0x0000010000201000#64, ((regRow FEED_CTRL.off).get (by decide +kernel)), (Tests.Lp1.pt0 (Tests.Lp1.us 3 Tests.Lp1.b0)),
      by unfold State.serves; decide +kernel⟩,
    ⟨3, 65535, 2, (Tests.Lp1.uu (Tests.Lp1.us 3 Tests.Lp1.b0) (fun u => { u with write := some (3, 65535, 2) })), by decide +kernel⟩,
    ⟨0x0000000000000000#64, 0, (Tests.Lp1.pt0 (Tests.Lp1.us 3 Tests.Lp1.b0)), by unfold State.tileGood State.pointPlain; decide +kernel⟩,
    ⟨{ status := 0, tag := 3, useq := 4, pieces := 5, data := [0x01#8, 0x02#8], addr := 7, side := true, busErr := true }, [],
      (Tests.Lp1.uu (Tests.Lp1.us 3 Tests.Lp1.b0) (fun u => { u with resps := [Tests.Lp1.resp] })), by decide +kernel⟩,
    ⟨[0x01#8, 0x02#8], [], (Tests.Lp1.uu (Tests.Lp1.us 3 Tests.Lp1.b0) (fun u => { u with notes := [[1,2]] })), by decide +kernel⟩,
    ⟨0, 1, (Tests.Lp1.iso (Tests.Lp1.pt0 (Tests.Lp1.us 3 Tests.Lp1.b0))), by unfold State.tileGood State.pointPlain; decide +kernel⟩,
    ⟨0, { dev := 1, ep := 1, isIn := true, periodic := false }, [0x01#8, 0x02#8],
      (Tests.Lp1.us 3 ((Tests.Lp1.b0.p USB_STAT.SPEED 2).p (USB_PORT_STAT.CONN 0) 1)), by decide +kernel⟩,
    ⟨(Tests.Lp1.us 1 Tests.Lp1.b0), by decide +kernel⟩,
    ⟨(Tests.Lp1.us 2 Tests.Lp1.b0), by decide +kernel⟩,
    ⟨(Tests.Lp1.pt0 (Tests.Lp1.us 3 Tests.Lp1.b0)), by decide +kernel⟩,
    ⟨(Tests.Lp1.pt0 (Tests.Lp1.us 3 Tests.Lp1.b0)), by decide +kernel⟩,
    ⟨(Tests.Lp1.pt0 (Tests.Lp1.us 3 Tests.Lp1.b0)), by decide +kernel⟩,
    ⟨0, ((Tests.Lp1.us 3 Tests.Lp1.b0).p USB_CFG.LOCAL 9 |>.p (USB_PORT_STAT.POWER 3) 1 |>.p (USB_PORT_STAT.EN 0) 1), by decide +kernel⟩,
    ⟨0, (Tests.Lp1.us 3 ((Tests.Lp1.b0.p USB_STAT.SPEED 2).p (USB_PORT_STAT.CONN 0) 1)), by decide +kernel⟩,
    ⟨(Tests.Lp1.pt0 (Tests.Lp1.us 3 Tests.Lp1.b0)), by decide +kernel⟩,
    ⟨(Tests.Lp1.pt0 (Tests.Lp1.us 3 Tests.Lp1.b0)), by decide +kernel⟩,
    ⟨{ status := 0, tag := 3, useq := 4, pieces := 5, data := [0x01#8, 0x02#8], addr := 7, side := true, busErr := true },
      (Tests.Lp1.uu (Tests.Lp1.us 3 Tests.Lp1.b0) (fun u => { u with resps := [Tests.Lp1.resp] })), by decide +kernel⟩,
    ⟨(Tests.Lp1.pt0 (Tests.Lp1.us 3 Tests.Lp1.b0)), by decide +kernel⟩,
    ⟨(Tests.Lp1.us 4 Tests.Lp1.b0), by decide +kernel⟩,
    ⟨5, (Tests.Lp1.uu ((Tests.Lp1.us 4 (Tests.Lp1.b0.p USB_WAKE.REQ 1)).p USB_STAT.RWE 1) (fun u => { u with suspAt := some 5 })),
      by decide +kernel⟩,
    ⟨5, (Tests.Lp1.uu (Tests.Lp1.us 4 (Tests.Lp1.b0.p USB_STAT.ADDR 5)) (fun u => { u with driving := some 5 })), by decide +kernel⟩,
    ⟨(Tests.Lp1.pt0 (Tests.Lp1.us 3 Tests.Lp1.b0)), by decide +kernel⟩,
    ⟨3, ((Tests.Lp1.us 3 Tests.Lp1.b0).p USB_CFG.LOCAL 9 |>.p (USB_PORT_STAT.POWER 3) 1 |>.p (USB_PORT_STAT.EN 0) 1), by decide +kernel⟩,
    ⟨{ mid := 2, node := 0x0000#16 }, (Tests.Lp1.pt0 (Tests.Lp1.us 3 Tests.Lp1.b0)), by unfold State.serves; decide +kernel⟩,
    ⟨3, 0, [0x01#8, 0x02#8], 2,
      (((((((Tests.Lp1.pt0 (Tests.Lp1.us 3 Tests.Lp1.b0)).p USB_CFG.LOCAL 9).p (USB_PORT_STAT.CLASS 3) 1).wr (bankKey BRG_SIG_SRC.off 2) (BRG_SIG_SRC.VALID.put (BRG_SIG_SRC.UNIT.put (BRG_SIG_SRC.KIND.put 0 4) 4) 1)).wr (bankKey BRG_SIG_DST.off 2) 0).p (BRG_SIG_DST.BITLEN.at 2) 12)), by decide +kernel⟩⟩

theorem test_witness_FeedChannels :
    (∃ (m : Master) (n : Fin 16) (s : State), s.serves m (FEED_CHCMD.off n.val) 2 ∧ (s.rd FEED_CFGERR_CNT.off).toNat + 1 < 0xFFFFFFFF ∧
      s.g (FEED_SHUNT.SHUNT n.val) ≠ 0 ∧ s.g (FEED_LIM.RATED n.val) ≠ 0 ∧ s.fst n.val = fsOff ∧ s.railOk n.val = true) ∧
    (∃ (m : Master) (n : Fin 16) (s : State), s.serves m (FEED_CHCMD.off n.val) 2 ∧ (s.rd FEED_CFGERR_CNT.off).toNat + 1 < 0xFFFFFFFF ∧
      (s.g (FEED_SHUNT.SHUNT n.val) = 0 ∨ s.g (FEED_LIM.RATED n.val) = 0)) ∧
    (∃ (m : Master) (n : Fin 16) (s : State), s.serves m (FEED_CHCMD.off n.val) 2 ∧ (s.rd FEED_CFGERR_CNT.off).toNat + 1 < 0xFFFFFFFF ∧
      s.fst n.val ≠ fsDamaged) ∧
    (∃ (m : Master) (n : Fin 16) (s : State), s.serves m (FEED_CHCMD.off n.val) 2 ∧ (s.rd FEED_CFGERR_CNT.off).toNat + 1 < 0xFFFFFFFF ∧
      s.fst n.val = fsRetry ∧ (s.feed n.val).rail = false ∧ s.damaged n.val = false ∧ s.feedCool n.val = true ∧ s.railOk n.val = true) ∧
    (∃ (m : Master) (n : Fin 16) (s : State), s.serves m (FEED_CHCMD.off n.val) 2 ∧ (s.rd FEED_CFGERR_CNT.off).toNat + 1 < 0xFFFFFFFF ∧
      s.fst n.val = fsDamaged ∧ s.since (s.feed n.val).calmAt 5000000 = true) ∧
    (∃ (m : Master) (s : State), s.serves m FEED_CMD.off 2) ∧
    (∃ (n : Fin 16) (tdie : Int) (vin : Nat) (vout : Nat) (s : State), s.resetReq = none ∧ s.feedRuns = true ∧
      s.g (FEED_SHUNT.SHUNT n.val) ≠ 0 ∧ (∀ k,
      k < 3 → (FEED_POLE.UNIT 0 0).get (s.rd (FEED_POLE.off n.val k)) = 0 ∨ (FEED_POLE.TAU 0 0).get (s.rd (FEED_POLE.off n.val k)) ≠ 0) ∧
      s.sigEntries false 2 n.val 4 = [] ∧ s.feedCounts ∧ -32768 ≤ tdie ∧ vin < 655360 ∧ vout < 655360) ∧
    (∃ (n : Fin 16) (s : State), s.resetReq = none ∧ s.feedRuns = true ∧ s.feedCounts ∧ s.feedLive n.val = true) ∧
    (∃ (n : Fin 16) (s : State), s.resetReq = none ∧ s.feedRuns = true ∧ s.feedCounts ∧ s.fst n.val = fsOff ∧
      (s.feed n.val).offCmd = some s.absNs) ∧
    (∃ (s : State), s.resetReq = none ∧ s.feedRuns = true ∧ s.feedCounts) ∧
    (∃ (n : Fin 16) (s : State), s.resetReq = none ∧ s.feedRuns = true ∧ s.feedCounts ∧ s.fst n.val = fsRamp ∧
      1000000 * (max 1 (s.g (FEED_RAMP.RAMP_TMO n.val)) : Nat) ≤ s.absNs - (s.feed n.val).rampAt) ∧
    (∃ (n : Fin 16) (s : State), s.resetReq = none ∧ s.feedRuns = true ∧ (s.rd FEED_PGLOSS_CNT.off).toNat + 1 < 0xFFFFFFFF ∧
      s.fst n.val = fsRamp ∧ 100000 ≤ s.absNs - (s.feed n.val).pgAt ∧ (s.feed n.val).pgOk = true ∧ s.flag (FEED_CHSTAT.PG n.val) = false) ∧
    (∃ (n : Fin 16) (s : State), s.resetReq = none ∧ s.feedRuns = true ∧ (s.rd FEED_PGLOSS_CNT.off).toNat + 1 < 0xFFFFFFFF ∧
      s.fst n.val = fsOn ∧ 100000 ≤ s.absNs - (s.feed n.val).pgAt ∧ (s.feed n.val).pgOk = false ∧ s.flag (FEED_CHSTAT.PG n.val) = true) ∧
    (∃ (n : Fin 16) (s : State), s.resetReq = none ∧ s.feedRuns = true ∧ (s.rd FEED_DMG_CNT.off).toNat + 1 < 0xFFFFFFFF ∧
      s.fst n.val = fsRetry ∧ s.damaged n.val = false ∧ (s.feed n.val).rail = false ∧ (s.feed n.val).due ≤ s.absNs ∧
      s.feedCool n.val = true ∧ s.railOk n.val = true) ∧
    (∃ (n : Fin 16) (s : State), s.resetReq = none ∧ s.feedRuns = true ∧ (s.rd FEED_DMG_CNT.off).toNat + 1 < 0xFFFFFFFF ∧
      s.fst n.val = fsRetry ∧ s.damaged n.val = false ∧ (s.feed n.val).rail = true ∧ s.since (s.feed n.val).railAt 10000000 = true ∧
      s.feedCool n.val = true ∧ s.railOk n.val = true) ∧
    (∃ (n : Fin 16) (s : State), s.resetReq = none ∧ s.feedRuns = true ∧ (s.rd FEED_DMG_CNT.off).toNat + 1 < 0xFFFFFFFF ∧
      s.fst n.val = fsOn ∧ 10000000000 ≤ s.absNs - (s.feed n.val).onAt) ∧
    (∃ (n : Fin 16) (s : State), s.resetReq = none ∧ s.feedRuns = true ∧ (s.rd FEED_DMG_CNT.off).toNat + 1 < 0xFFFFFFFF ∧
      s.damaged n.val = true) ∧
    (∃ (n : Fin 16) (o : Fin 5) (e : Nat) (s : State), s.resetReq = none ∧ s.feedRuns = true ∧ (∀ at_,
      (s.feed n.val).measAt = some at_ → 1000000 * (max 1 (s.g FEED_CTRL.MEAS_PER) : Nat) ≤ s.absNs - at_) ∧
      s.sigEntries false 2 n.val o.val = [e] ∧ (∀ k, k < 5 → k ≠ o.val → s.sigEntries false 2 n.val k = []) ∧
      s.flag (BRG_SIG_SRC.SIGNED.at e) = false ∧
      (let i := s.g (BRG_SIG_DST.POINT.at e); (let v := fieldGet (s.flag (BRG_SIG_SRC.MOTOROLA.at e)) (s.g (BRG_SIG_SRC.BITPOS.at e)) (s.g (BRG_SIG_DST.BITLEN.at e)) (bytesLE 4 (s.feedMeas n.val o.val)); (s.pt i).typ ≠ tyUndef ∧ encOk (s.pt i).typ (v % 2 ^ 64) = true))) :=
  ⟨⟨{ mid := 2, node := 0x0000#16 }, 0, (Tests.Lp2.fe 0 0 (fun c => { c with offCmd := some Tests.Lp2.b0.absNs })),
      by unfold State.serves; decide +kernel⟩,
    ⟨{ mid := 2, node := 0x0000#16 }, 0, (Tests.Lp1.pt0 (Tests.Lp1.us 3 Tests.Lp1.b0)), by unfold State.serves; decide +kernel⟩,
    ⟨{ mid := 2, node := 0x0000#16 }, 0, (Tests.Lp1.pt0 (Tests.Lp1.us 3 Tests.Lp1.b0)), by unfold State.serves; decide +kernel⟩,
    ⟨{ mid := 2, node := 0x0000#16 }, 0, (Tests.Lp2.fe 0 3 (fun c => { c with rail := false, due := 5 })),
      by unfold State.serves; decide +kernel⟩,
    ⟨{ mid := 2, node := 0x0000#16 }, 0, ((Tests.Lp2.fe 0 5 (fun c => { c with calmAt := some 5 })).p FEED_STAT.KILL 1),
      by unfold State.serves; decide +kernel⟩,
    ⟨{ mid := 2, node := 0x0000#16 }, (Tests.Lp1.pt0 (Tests.Lp1.us 3 Tests.Lp1.b0)), by unfold State.serves; decide +kernel⟩,
    ⟨0, 0, 0, 0, ((Tests.Lp2.fe 0 2 (fun c => { c with rise := [1,2,3] })).p (FEED_CFG.TMODE 0) 1),
      by unfold State.feedCounts; decide +kernel⟩,
    ⟨0, ((Tests.Lp2.fe 0 2 (fun c => { c with rise := [1,2,3] })).p (FEED_CFG.TMODE 0) 1), by unfold State.feedCounts; decide +kernel⟩,
    ⟨0, (Tests.Lp2.fe 0 0 (fun c => { c with offCmd := some Tests.Lp2.b0.absNs })), by unfold State.feedCounts; decide +kernel⟩,
    ⟨(Tests.Lp1.pt0 (Tests.Lp1.us 3 Tests.Lp1.b0)), by unfold State.feedCounts; decide +kernel⟩,
    ⟨15, ((Tests.Lp2.fe 15 1 id).p (FEED_POLE.UNIT 15 0) 1), by unfold State.feedCounts; decide +kernel⟩,
    ⟨0, (Tests.Lp2.fe 0 1 (fun c => { c with pgOk := true })), by decide +kernel⟩,
    ⟨0, ((Tests.Lp2.fe 0 2 (fun c => { c with pgOk := false })).p (FEED_CHSTAT.PG 0) 1), by decide +kernel⟩,
    ⟨0, (Tests.Lp2.fe 0 3 (fun c => { c with rail := false, due := 5 })), by decide +kernel⟩,
    ⟨15, (Tests.Lp2.fe 15 3 (fun c => { c with rail := true, railAt := some 5 })), by decide +kernel⟩,
    ⟨0, ((Tests.Lp2.fe 0 2 (fun c => { c with rise := [1,2,3] })).p (FEED_CFG.TMODE 0) 1), by decide +kernel⟩,
    ⟨0, ((Tests.Lp2.fe 0 3 (fun c => { c with curAt := some 5 })).p (FEED_CFG.KILL_EN 0) 1), by decide +kernel⟩,
    ⟨0, 1, 2, ((((((Tests.Lp2.pt0 (Tests.Lp2.fe 0 2 id))).wr (bankKey BRG_SIG_SRC.off 2) (BRG_SIG_SRC.VALID.put (BRG_SIG_SRC.UNIT.put (BRG_SIG_SRC.OBJ.put (BRG_SIG_SRC.KIND.put 0 2) 1) 0) 1)).wr (bankKey BRG_SIG_DST.off 2) 0).p (BRG_SIG_DST.BITLEN.at 2) 12)), by decide +kernel⟩⟩

theorem test_witness_DomainsAndComparators :
    (∃ (m : Master) (d : Fin 16) (s : State), s.serves m (PWR_DOM_VOTE.off d.val) 2) ∧
    (∃ (d : Fin 16) (s : State), s.resetReq = none ∧ d.val ≠ 0 ∧ s.dom d.val = dsPending ∧ s.holdOf d.val = 0) ∧
    (∃ (d : Fin 16) (s : State), s.resetReq = none ∧ d.val ≠ 0 ∧ s.dom d.val = dsToOn) ∧
    (∃ (d : Fin 16) (s : State), s.resetReq = none ∧ d.val ≠ 0 ∧ s.dom d.val = dsToRet) ∧
    (∃ (d : Fin 16) (s : State), s.resetReq = none ∧ d.val ≠ 0 ∧ s.dom d.val = dsToOff) ∧
    (∃ (n : Fin 24) (s : State), s.resetReq = none ∧ (16 ≤ n.val ∨ s.feedCompares = true) ∧ s.flag (CMP_CFG.EN n.val) = true ∧
      SMap.get (fun _ => none) s.power.cmpForce n.val = none ∧ s.sigEntries false 3 0 n.val = []) ∧
    (∃ (n : Fin 24) (at_ : Nat) (s : State), s.resetReq = none ∧ s.flag (CMP_WAKE.EN n.val) = false ∧ s.sigEntries false 3 0 n.val = [] ∧
      SMap.get (fun _ => none) s.power.cmpFilt n.val = some at_ ∧ (s.g (CMP_CFG.FILT n.val) * 100 : Int) ≤ sgn48 s.fns48 at_ ∧
      s.flag (CMP_STAT.RAW n.val) ≠ s.flag (CMP_STAT.OUT n.val)) :=
  ⟨⟨{ mid := 2, node := 0x0000#16 }, 0, (Tests.Mp1.b0), by unfold State.serves; decide +kernel⟩,
    ⟨12, (Tests.Mp1.bsV ((Tests.Mp1.b0.setDom 11 dsOff).setDom 12 dsPending)), by decide +kernel⟩,
    ⟨9, ((Tests.Mp1.bsV Tests.Mp1.b0).setDom 9 dsToOn), by decide +kernel⟩,
    ⟨5, ((Tests.Mp1.b0.setDom 7 dsToOff).setDom 5 dsToRet), by decide +kernel⟩,
    ⟨7, ((Tests.Mp1.b0.setDom 7 dsToOff).setDom 5 dsToRet), by decide +kernel⟩,
    ⟨16, (Tests.Mp1.b0), by decide +kernel⟩,
    ⟨23, 214925395918455,
      (Tests.Mp1.cm 23 1 (fun s => { (s.p (CMP_CFG.FILT 23) 3) with power := { s.power with cmpFilt := [(23, some (Tests.Mp1.b0.fns48 - 400))] } })), by decide +kernel⟩⟩

theorem test_witness_ResetsAndStartUp :
    (∃ (m : Master) (s : State), (s.rd CFG_RST_CNT.off).toNat + 1 < 0xFFFFFFFF ∧ s.serves m CFG_RESET.off 2) ∧
    (∃ (s : State), (s.rd CFG_RST_CNT.off).toNat + 1 < 0xFFFFFFFF ∧ s.resetReq = none) ∧
    (∃ (s : State), (s.rd CFG_RST_CNT.off).toNat + 1 < 0xFFFFFFFF ∧ s.resetReq = none ∧ s.jtagOpen = true) ∧
    (∃ (m : Master) (s : State), (s.rd CFG_RST_CNT.off).toNat + 1 < 0xFFFFFFFF ∧ s.serves m CFG_RESET.off 2 ∧
      s.flag FH_CTRL.SAFE_JETS = false) ∧
    (∃ (s : State), s.resetReq = none) ∧
    (∃ (s : State), s.resetReq = none ∧ s.flow.commit = none) ∧
    (∃ (s : State), s.resetReq = none ∧ s.g CFG_BOOT.STAGE = 1 ∧ s.boot.busy = false) ∧
    (∃ (s : State), s.resetReq = none ∧ s.g CFG_BOOT.STAGE = 1 ∧ s.boot.busy = true ∧ s.sump.grave = false ∧ (∀ d,
      d ∈ bootDomains s.boot.kind → s.domOn d = true)) ∧
    (∃ (s : State), s.resetReq = none ∧ s.g CFG_BOOT.STAGE = 3 ∧ s.boot.busy = true ∧ s.boot.slot < 2 ∧ s.upd.rec_ = 0 ∧
      (s.rd CFG_FALLBACK_CNT.off).toNat + 1 < 0xFFFFFFFF) :=
  ⟨⟨{ mid := 2, node := 0x0000#16 }, (Tests.Mp1.b0), by unfold State.serves; decide +kernel⟩,
    ⟨(Tests.Mp1.b0), by decide +kernel⟩,
    ⟨{ Tests.Mp1.b0 with sec := { Tests.Mp1.b0.sec with life := 0 } }, by decide +kernel⟩,
    ⟨{ mid := 2, node := 0x0000#16 }, (Tests.Mp1.b0), by unfold State.serves; decide +kernel⟩,
    ⟨(Tests.Mp1.b0), by decide +kernel⟩,
    ⟨(Tests.Mp1.b0), by decide +kernel⟩,
    ⟨(Tests.Mp2.st 1 false true 0 0), by decide +kernel⟩,
    ⟨((Tests.Mp2.st 1 true true 1 2 |>.setDom 2 dsOn) |> (fun s => { s with upd := { s.upd with rec_ := 2 } })), by decide +kernel⟩,
    ⟨((Tests.Mp2.st 3 true true 0 0)), by decide +kernel⟩⟩

theorem test_witness_UpdatesAndHandover :
    (∃ (m : Master) (val : Word) (s : State), s.serves m UPD_INJ_CTRL.off 2 ∧ UPD_INJ_CTRL.INDEX.get val = 0 ∧
      UPD_INJ_CTRL.LEN.get val = 256 ∧ (s.rd UPD_REFUSE_CNT.off).toNat + 1 < 0xFFFFFFFF) ∧
    (∃ (m : Master) (val : Word) (h : List Byte) (s : State), s.serves m UPD_INJ_CTRL.off 2 ∧ s.chunkNew h (UPD_INJ_CTRL.INDEX.get val) ∧
      UPD_INJ_CTRL.LEN.get val ≤ 8256) ∧
    (∃ (p : Fin 4) (f : Frame) (s : State), s.resetReq = none ∧ s.relayTakes p.val f 1 = true ∧
      (s.rd UPD_REFUSE_CNT.off).toNat + 1 < 0xFFFFFFFF ∧ (let h := slice f.payload 16 256; s.upd.hdr.isSome = true ∧
      s.pkgId = leAt h 4 4)) ∧
    (∃ (p : Fin 4) (f : Frame) (s : State), s.resetReq = none ∧ s.relayTakes p.val f 1 = true ∧
      (s.rd UPD_REFUSE_CNT.off).toNat + 1 < 0xFFFFFFFF ∧ (let h := slice f.payload 16 256; (s.upd.hdr = none ∨ s.pkgId ≠ leAt h 4 4))) ∧
    (∃ (p : Fin 4) (f : Frame) (s : State), s.resetReq = none ∧ s.upd.hdr.isSome = true ∧ beAt f.payload 4 4 = s.pkgId ∧
      s.relayTakes p.val f 2 = true ∧ beAt f.payload 1 1 ≠ 0) ∧
    (∃ (p : Fin 4) (f : Frame) (k : Nat) (c : Nat) (d : List Byte) (s : State), s.resetReq = none ∧ s.upd.hdr.isSome = true ∧
      beAt f.payload 4 4 = s.pkgId ∧ s.relayTakes p.val f 2 = true ∧ beAt f.payload 1 1 = 0 ∧
      s.chunkDue p.val (beAt f.payload 12 4) k c d) ∧
    (∃ (p : Fin 4) (f : Frame) (k : Nat) (c : Nat) (d : List Byte) (s : State), s.resetReq = none ∧ s.upd.hdr.isSome = true ∧
      beAt f.payload 4 4 = s.pkgId ∧ s.relayTakes p.val f 4 = true ∧ s.chunkDue p.val (beAt f.payload 12 4) k c d) ∧
    (∃ (p : Fin 4) (f : Frame) (h : List Byte) (s : State), s.resetReq = none ∧ s.relayTakes p.val f 3 = true ∧
      beAt f.payload 4 4 = s.pkgId ∧ s.chunkNew h (beAt f.payload 8 4)) ∧
    (∃ (p : Fin 4) (k : Nat) (at_ : Int) (s : State), s.resetReq = none ∧ s.runnelOn = true ∧ s.pst p.val = psUp ∧
      (s.peer p.val).inCycle < s.relayRate ∧ (s.chunk k).isSome = true ∧ (s.rd UPD_RESEND_CNT.off).toNat + 1 < 0xFFFFFFFF ∧
      (s.peer p.val).sent = [(k, at_)] ∧ (s.peer p.val).have_ < k ∧ at_ + 1000000000 ≤ s.absNs) ∧
    (∃ (h : List Byte) (s : State), s.resetReq = none ∧ s.upd.hdr = some h ∧ s.ust = usComplete ∧ s.upd.building = false) ∧
    (∃ (h : List Byte) (s : State), s.resetReq = none ∧ s.upd.hdr = some h ∧ s.upd.building = true ∧ s.flag UPD_CFG.AUTO_STAGE = false ∧
      s.failsafe = false) ∧
    (∃ (m : Master) (s : State), s.serves m UPD_CMD.off 2 ∧ (s.rd UPD_CFGERR_CNT.off).toNat + 1 < 0xFFFFFFFF ∧
      s.unit s.standby = fhStandby ∧ s.ust = usBuilt) ∧
    (∃ (m : Master) (s : State), s.serves m UPD_CMD.off 2 ∧ (s.rd UPD_CFGERR_CNT.off).toNat + 1 < 0xFFFFFFFF ∧
      s.unit s.standby = fhStandby ∧ s.ust = usTrial ∧ s.flag SEC_CFG.SVN_AUTO = false) ∧
    (∃ (m : Master) (s : State), s.serves m UPD_CMD.off 2 ∧ (s.rd UPD_CFGERR_CNT.off).toNat + 1 < 0xFFFFFFFF ∧
      s.unit s.standby = fhStandby ∧ s.ust = usTrial ∧ s.flag SEC_CFG.SVN_AUTO = true) ∧
    (∃ (m : Master) (s : State), s.serves m UPD_CMD.off 2 ∧ (s.rd UPD_CFGERR_CNT.off).toNat + 1 < 0xFFFFFFFF ∧
      s.unit s.standby = fhStandby ∧ s.ust = usTrial) ∧
    (∃ (m : Master) (s : State), s.serves m UPD_CMD.off 2 ∧ (s.rd UPD_CFGERR_CNT.off).toNat + 1 < 0xFFFFFFFF ∧
      s.unit s.standby = fhStandby ∧ s.ust ≠ usStaging ∧ s.ust ≠ usHandover ∧ s.ust ≠ usTrial) ∧
    (∃ (m : Master) (s : State), s.serves m UPD_CMD.off 2 ∧ (s.rd UPD_CFGERR_CNT.off).toNat + 1 < 0xFFFFFFFF ∧
      s.unit s.standby = fhStandby ∧ s.ust = usReverted ∧ s.upd.applying = false ∧ (s.rd UPD_ABORT_CNT.off).toNat + 1 < 0xFFFFFFFF) ∧
    (∃ (m : Master) (s : State), s.serves m UPD_CMD.off 2 ∧ (s.rd UPD_CFGERR_CNT.off).toNat + 1 < 0xFFFFFFFF ∧
      s.unit s.standby = fhStandby ∧ s.ust ≠ usBuilt) ∧
    (∃ (m : Master) (s : State), s.serves m UPD_CMD.off 2 ∧ (s.rd UPD_CFGERR_CNT.off).toNat + 1 < 0xFFFFFFFF ∧
      s.unit s.standby = fhStandby ∧ s.ust ≠ usTrial) ∧
    (∃ (m : Master) (s : State), s.serves m UPD_CMD.off 2 ∧ (s.rd UPD_CFGERR_CNT.off).toNat + 1 < 0xFFFFFFFF ∧
      s.unit s.standby = fhStandby ∧ (s.ust = usStaging ∨ s.ust = usHandover ∨ s.ust = usTrial)) ∧
    (∃ (u : Nat) (s : State), s.resetReq = none ∧ s.ust = usStaging ∧ s.upd.confirm = false ∧ u < 2 ∧ s.upd.loading = some u ∧
      s.domOn (u + 1) = true) ∧
    (∃ (u : Nat) (s : State), s.resetReq = none ∧ s.ust = usStaging ∧ s.upd.confirm = false ∧ u < 2 ∧ s.upd.loading = none ∧
      s.upd.revert = true) ∧
    (∃ (u : Nat) (s : State), s.resetReq = none ∧ s.ust = usStaging ∧ s.upd.confirm = true ∧ s.upd.loading = some u ∧ u < 2 ∧
      s.domOn (u + 1) = true) ∧
    (∃ (m : Master) (s : State), s.serves m FH_CMD.off 2 ∧ s.fhMiss m FH_CMD.off = false ∧ s.unit s.standby = fhStandby ∧
      s.ust = usStaged ∧ supUnit m.mid.val = some s.active) ∧
    (∃ (c : Int) (s : State), s.resetReq = none ∧ s.upd.rec_ = 1 ∧ s.upd.cDue = some c ∧ s.upd.cAt = none ∧ c ≤ s.fns ∧ s.fh.trig = none) ∧
    (∃ (m : Master) (s : State), s.serves m UPD_CMD.off 2 ∧ s.upd.rec_ = 1 ∧ s.upd.cAt.isSome = true ∧ s.upd.applying = false ∧
      s.fh.trig = none ∧ s.newSup m = true ∧ s.upd.old < 2 ∧ (s.rd UPD_ABORT_CNT.off).toNat + 1 < 0xFFFFFFFF) ∧
    (∃ (c : Int) (s : State), s.resetReq = none ∧ s.upd.rec_ = 1 ∧ s.upd.cAt = some c ∧ s.upd.applying = false ∧ s.fh.trig = none ∧
      s.upd.old < 2 ∧ (s.rd UPD_ABORT_CNT.off).toNat + 1 < 0xFFFFFFFF ∧ c + 1000000 * (max 1 (s.g UPD_HO_CFG.DEADLINE) : Nat) < s.fns) ∧
    (∃ (s : State), s.resetReq = none ∧ s.upd.applying = true ∧ s.upd.records = [] ∧ s.upd.reapply = true) ∧
    (∃ (c : Int) (s : State), s.resetReq = none ∧ s.upd.applying = true ∧ s.upd.records = [] ∧ s.upd.reapply = false ∧ s.upd.cAt = some c ∧
      s.upd.old < 2 ∧ s.unit s.upd.old ≠ fhFailed ∧ s.upd.lateTrig = false) ∧
    (∃ (off : Nat) (v : Word) (r : RegRow) (s : State), s.resetReq = none ∧ s.upd.applying = true ∧ s.upd.reapply = true ∧
      off ∈ [SUMP_SPILL.off, UPD_HO_CFG.off, FH_CTRL.off] ∧ s.domGate off = 0 ∧ regRow off = some r ∧ s.upd.records = [(off, v)]) :=
  ⟨⟨{ mid := 2, node := 0x0000#16 }, 0x00000100#32, (Tests.Np.inj Tests.Np.b0 Tests.Np.H1), by unfold State.serves; decide +kernel⟩,
    ⟨{ mid := 2, node := 0x0000#16 }, 0x00006010#32, (Tests.Np.H1), (Tests.Np.inj Tests.Np.rcv Tests.Np.H2),
      by unfold State.serves State.chunkNew; decide +kernel⟩,
    ⟨0, (Tests.Np.fr 1 0 55 0 0 Tests.Np.H1), (Tests.Np.inj Tests.Np.rcv Tests.Np.H2), by decide +kernel⟩,
    ⟨0, (Tests.Np.fr 1 0 56 0 0 Tests.Np.H2), (Tests.Np.inj Tests.Np.rcv Tests.Np.H2), by decide +kernel⟩,
    ⟨0, (Tests.Np.fr 2 7 55 0 0 []), (Tests.Np.inj Tests.Np.rcv Tests.Np.H2), by decide +kernel⟩,
    ⟨0, (Tests.Np.fr 2 0 55 0 0 []), 1, 99, [1], (Tests.Np.um Tests.Np.rcv (fun u => { u with chunks := [(1, some (99, [1]))] })),
      by unfold State.chunkDue; decide +kernel⟩,
    ⟨0, (Tests.Np.fr 4 0 55 0 0 []), 1, 99, [1], (Tests.Np.um Tests.Np.rcv (fun u => { u with chunks := [(1, some (99, [1]))] })),
      by unfold State.chunkDue; decide +kernel⟩,
    ⟨0, (Tests.Np.fr 3 0 55 1 0 Tests.Np.ch1), (Tests.Np.H1), (Tests.Np.inj Tests.Np.rcv Tests.Np.H2),
      by unfold State.chunkNew; decide +kernel⟩,
    ⟨0, 1, 5, (Tests.Np.um Tests.Np.rcv1 (fun u => { u with peers := [(0, ⟨true, 0, 0, [(1, 5)], true⟩), (1, ⟨true, 0, 1, [(1, 1000)], true⟩)] })), by decide +kernel⟩,
    ⟨(Tests.Np.hdr 55 7 0 1 48 4), (Tests.Np.full (Tests.Np.cont 1)), by decide +kernel⟩,
    ⟨(Tests.Np.hdr 55 7 0 1 48 4), (Tests.Np.um (Tests.Np.full (Tests.Np.cont 1)) (fun u => { u with building := true })),
      by decide +kernel⟩,
    ⟨{ mid := 2, node := 0x0000#16 }, (Tests.Np.sm usBuilt (Tests.Np.bt Tests.Np.b0)), by unfold State.serves; decide +kernel⟩,
    ⟨{ mid := 2, node := 0x0000#16 }, ((Tests.Np.sm usTrial (Tests.Np.bt Tests.Np.b0)).p SEC_CFG.SVN_AUTO 0),
      by unfold State.serves; decide +kernel⟩,
    ⟨{ mid := 2, node := 0x0000#16 }, (Tests.Np.sm usTrial Tests.Np.net), by unfold State.serves; decide +kernel⟩,
    ⟨{ mid := 2, node := 0x0000#16 }, (Tests.Np.sm usTrial Tests.Np.net), by unfold State.serves; decide +kernel⟩,
    ⟨{ mid := 2, node := 0x0000#16 }, (Tests.Np.inj Tests.Np.b0 Tests.Np.H1), by unfold State.serves; decide +kernel⟩,
    ⟨{ mid := 2, node := 0x0000#16 }, (Tests.Np.sm usReverted (Tests.Np.bt Tests.Np.b0)), by unfold State.serves; decide +kernel⟩,
    ⟨{ mid := 2, node := 0x0000#16 }, (Tests.Np.inj Tests.Np.b0 Tests.Np.H1), by unfold State.serves; decide +kernel⟩,
    ⟨{ mid := 2, node := 0x0000#16 }, (Tests.Np.inj Tests.Np.b0 Tests.Np.H1), by unfold State.serves; decide +kernel⟩,
    ⟨{ mid := 2, node := 0x0000#16 }, (Tests.Np.inj (Tests.Np.sm usStaging Tests.Np.net) Tests.Np.H2),
      by unfold State.serves; decide +kernel⟩,
    ⟨1, (Tests.Np.stg Tests.Np.fw), by decide +kernel⟩,
    ⟨0, (Tests.Np.stgR Tests.Np.fw), by decide +kernel⟩,
    ⟨1, ((Tests.Np.um ((Tests.Np.stg Tests.Np.fw).p UPD_STAT.BOOT 0) (fun u => { u with confirm := true }))), by decide +kernel⟩,
    ⟨{ mid := 2, node := 0x0000#16 }, (Tests.Np.sm usStaged (Tests.Np.bt Tests.Np.b0)), by unfold State.serves; decide +kernel⟩,
    ⟨4999, (Tests.Np.ho0), by decide +kernel⟩,
    ⟨{ mid := 4, node := 0x0000#16 }, (Tests.Np.hoC []), by unfold State.serves; decide +kernel⟩,
    ⟨1000, (Tests.Np.hoC []), by decide +kernel⟩,
    ⟨(Tests.Np.reap []), by decide +kernel⟩,
    ⟨1000, (Tests.Np.app []), by decide +kernel⟩,
    ⟨131080, 0x00ff00ff#32, ((regRow 131080).get (by decide +kernel)), (Tests.Np.reap [(SUMP_SPILL.off, 0x00FF00FF)]), by decide +kernel⟩⟩

theorem test_witness_GrottoGuards :
    (∃ (m : Master) (s : State), s.secReady m) ∧
    (∃ (m : Master) (s : State), s.secReady m) ∧
    (∃ (m : Master) (s : State), s.secReady m ∧ (s.owned = false ∨ s.privileged m = false)) ∧
    (∃ (m : Master) (s : State), s.secReady m ∧ s.owned = true ∧ s.privileged m = true) ∧
    (∃ (m : Master) (s : State), s.secReady m ∧ s.owned = true ∧ s.privileged m = true) ∧
    (∃ (m : Master) (s : State), s.secReady m ∧ s.owned = true ∧ s.privileged m = true) ∧
    (∃ (m : Master) (s : State), s.secReady m ∧ s.owned = true ∧ s.privileged m = true) ∧
    (∃ (m : Master) (s : State), s.secReady m ∧ s.owned = true ∧ s.privileged m = true) ∧
    (∃ (m : Master) (s : State), s.serves m SEC_SESS_CMD.off 0 ∧ (s.rd SEC_AUTH_FAIL.off).toNat + 1 < 0xFFFFFFFF) ∧
    (∃ (m : Master) (s : State), s.serves m SEC_SESS_CMD.off 0 ∧ (s.rd SEC_AUTH_FAIL.off).toNat + 1 < 0xFFFFFFFF ∧
      s.claimedOther m = false ∧ s.sec.nonceFor = none) ∧
    (∃ (m : Master) (s : State), s.serves m SEC_SESS_CMD.off 0 ∧ (s.rd SEC_AUTH_FAIL.off).toNat + 1 < 0xFFFFFFFF) ∧
    (∃ (m : Master) (s : State), s.serves m SEC_SESS_CMD.off 0 ∧ (s.rd SEC_AUTH_FAIL.off).toNat + 1 < 0xFFFFFFFF ∧
      s.flag SEC_STAT.ERR = true) ∧
    (∃ (m : Master) (s : State), s.serves m SEC_SESS_CMD.off 0 ∧ (s.rd SEC_AUTH_FAIL.off).toNat + 1 < 0xFFFFFFFF ∧
      s.claimedOther m = false ∧ s.flag SEC_STAT.ERR = false) ∧
    (∃ (s : State), s.resetReq = none) ∧
    (∃ (p : Fin 4) (f : Frame) (s : State), s.resetReq = none ∧ s.kaLive p.val = true ∧ (s.rd SEC_KA_FAIL.off).toNat + 1 < 0xFFFFFFFF ∧
      (let b := f.payload.drop 32; s.portRuns p.val = true ∧ s.kaDiscard p.val = false ∧ s.flag SEC_STAT.ERR = false ∧ kaKind b = 1)) ∧
    (∃ (p : Fin 4) (s : State), s.resetReq = none ∧ s.kaLive p.val = true ∧ (s.rd SEC_KA_FAIL.off).toNat + 1 < 0xFFFFFFFF ∧
      s.kaDiscard p.val = true) ∧
    (∃ (p : Fin 4) (f : Frame) (s : State), s.resetReq = none ∧ s.kaLive p.val = true ∧ (s.rd SEC_KA_FAIL.off).toNat + 1 < 0xFFFFFFFF ∧
      (let b := f.payload.drop 32; (let k := s.kaOf p.val; k.stage = 1 ∧ kaKind b = 2))) ∧
    (∃ (p : Fin 4) (f : Frame) (s : State), s.resetReq = none ∧ s.kaLive p.val = true ∧ (s.rd SEC_KA_FAIL.off).toNat + 1 < 0xFFFFFFFF ∧
      (let b := f.payload.drop 32; (let k := s.kaOf p.val; k.stage = 2 ∧ kaKind b = 3))) ∧
    (∃ (p : Fin 4) (s : State), s.resetReq = none ∧ (let k := s.kaOf p.val; k.stage = 3 ∧ k.an < 4 ∧
      (1000000 ≤ s.absNs - k.confAt ∨ SMap.get (fun _ => 0) (s.port p.val).rxHigh k.an ≠ 0))) ∧
    (∃ (p : Fin 4) (an : Nat) (at_ : Int) (s : State), s.resetReq = none ∧ (let k := s.kaOf p.val; k.old = [(an, at_)] ∧ an < 4 ∧
      1000000000 ≤ s.absNs - at_ ∧ s.g (PORT_SA_CTRL.TX_AN p.val) ≠ an)) ∧
    (∃ (p : Fin 4) (s : State), s.resetReq = none ∧ (let k := s.kaOf p.val; s.kaLive p.val = true ∧
      (k.stage = 1 ∨ k.stage = 2 ∨ k.stage = 4) ∧ 1000000000 ≤ s.absNs - k.startAt ∧ (s.pst p.val = psSecure → s.kaLower p.val = true) ∧
      s.flag SEC_STAT.ERR = false ∧ (s.rd SEC_KA_FAIL.off).toNat + 1 < 0xFFFFFFFF)) ∧
    (∃ (p : Fin 4) (s : State), s.resetReq = none ∧ (let k := s.kaOf p.val; s.kaLive p.val = true ∧ s.pst p.val ≠ psSecure ∧
      s.g SEC_CFG.REKEY_H ≠ 0 ∧ k.stage = 0 ∧ s.flag SEC_STAT.ERR = false ∧
      3600000000000 * (s.g SEC_CFG.REKEY_H : Int) ≤ s.absNs - k.setAt)) ∧
    (∃ (s : State), s.resetReq = none ∧ s.domOn 14 = true ∧ (s.rd CFG_RST_CNT.off).toNat + 1 < 0xFFFFFFFF) ∧
    (∃ (s : State), s.resetReq = none ∧ s.domOn 14 = true ∧ (s.rd SEC_TAMPER_CNT.off).toNat + 1 < 0xFFFFFFFF) ∧
    (∃ (s : State), s.resetReq = none ∧ s.owned = true ∧ (s.rd SEC_CMD_ERR.off).toNat + 1 < 0xFFFFFFFF) :=
  ⟨⟨{ mid := 8, node := 0x0000#16 }, (Tests.Op.rm (Tests.Op.life 1 Tests.Op.b0)), by unfold State.secReady State.serves; decide +kernel⟩,
    ⟨{ mid := 8, node := 0x0000#16 }, (Tests.Op.rm (Tests.Op.life 1 Tests.Op.b0)), by unfold State.secReady State.serves; decide +kernel⟩,
    ⟨{ mid := 8, node := 0x0000#16 }, (Tests.Op.rm (Tests.Op.life 1 Tests.Op.b0)), by unfold State.secReady State.serves; decide +kernel⟩,
    ⟨{ mid := 2, node := 0x0000#16 }, (Tests.Op.rm Tests.Op.b0), by unfold State.secReady State.serves; decide +kernel⟩,
    ⟨{ mid := 2, node := 0x0000#16 }, (Tests.Op.rm Tests.Op.b0), by unfold State.secReady State.serves; decide +kernel⟩,
    ⟨{ mid := 2, node := 0x0000#16 }, (Tests.Op.rm Tests.Op.b0), by unfold State.secReady State.serves; decide +kernel⟩,
    ⟨{ mid := 2, node := 0x0000#16 }, (Tests.Op.rm Tests.Op.b0), by unfold State.secReady State.serves; decide +kernel⟩,
    ⟨{ mid := 2, node := 0x0000#16 }, (Tests.Op.rm Tests.Op.b0), by unfold State.secReady State.serves; decide +kernel⟩,
    ⟨{ mid := 8, node := 0x0000#16 }, (Tests.Op.rm (Tests.Op.life 1 Tests.Op.b0)), by unfold State.serves; decide +kernel⟩,
    ⟨{ mid := 8, node := 0x0000#16 }, (Tests.Op.rm (Tests.Op.life 1 Tests.Op.b0)), by unfold State.serves; decide +kernel⟩,
    ⟨{ mid := 8, node := 0x0000#16 }, (Tests.Op.rm (Tests.Op.life 1 Tests.Op.b0)), by unfold State.serves; decide +kernel⟩,
    ⟨{ mid := 8, node := 0x0000#16 }, (Tests.Op.b0.p SEC_STAT.ERR 1), by unfold State.serves; decide +kernel⟩,
    ⟨{ mid := 8, node := 0x0000#16 }, (Tests.Op.rm (Tests.Op.life 1 Tests.Op.b0)), by unfold State.serves; decide +kernel⟩,
    ⟨(Tests.Op.rm (Tests.Op.life 1 Tests.Op.b0)), by decide +kernel⟩,
    ⟨0, ((fun b => Tests.Op.b0.mkFrame tyHello 7 0 0 0 false (List.replicate 32 0 ++ b)) (Tests.Op.blk 1 2 0)),
      (Tests.Op.nbr 0 (Tests.Op.lk 3 Tests.Op.b0)), by decide +kernel⟩,
    ⟨0, (Tests.Op.nbr 7 (Tests.Op.lk 3 Tests.Op.b0)), by decide +kernel⟩,
    ⟨0, ((fun b => Tests.Op.b0.mkFrame tyHello 7 0 0 0 false (List.replicate 32 0 ++ b)) (Tests.Op.blk 2 1 0)),
      (Tests.Op.ka (fun k => { k with stage := 1, an := 1 }) (Tests.Op.nbr 7 (Tests.Op.lk 3 Tests.Op.b0))), by decide +kernel⟩,
    ⟨0, ((fun b => Tests.Op.b0.mkFrame tyHello 7 0 0 0 false (List.replicate 32 0 ++ b)) (Tests.Op.blk 3 1 0)),
      (Tests.Op.ka (fun k => { k with stage := 2, an := 1, peer := List.replicate 304 4 }) (Tests.Op.nbr 0 (Tests.Op.lk 3 Tests.Op.b0))),
      by decide +kernel⟩,
    ⟨0, (Tests.Op.ka (fun k => { k with stage := 3, an := 1 }) (Tests.Op.nbr 7 (Tests.Op.lk 5 Tests.Op.b0))), by decide +kernel⟩,
    ⟨0, 1, 5, (Tests.Op.ka (fun k => { k with old := [(1, 5)] }) (Tests.Op.nbr 7 (Tests.Op.lk 5 (Tests.Op.b0.p (PORT_SA_CTRL.RX_EN 0) 15)))), by decide +kernel⟩,
    ⟨0, (Tests.Op.ka (fun k => { k with stage := 1, an := 1 }) (Tests.Op.nbr 7 (Tests.Op.lk 3 Tests.Op.b0))), by decide +kernel⟩,
    ⟨0, (Tests.Op.nbr 7 (Tests.Op.lk 5 Tests.Op.b0)), by decide +kernel⟩,
    ⟨(Tests.Op.rm (Tests.Op.life 1 Tests.Op.b0)), by decide +kernel⟩,
    ⟨(Tests.Op.rm (Tests.Op.life 1 Tests.Op.b0)), by decide +kernel⟩,
    ⟨(Tests.Op.rm Tests.Op.b0), by decide +kernel⟩⟩

theorem test_witness_EventsLogsAndSnapshots :
    (∃ (cls : Fin 5) (s : State), s.resetReq = none ∧ cls.val ≤ 3) ∧
    (∃ (ev : Fin 512) (cls : Fin 5) (s : State), s.resetReq = none ∧ cls.val = 4 ∧ (ev.val = 7 ∨ ev.val = 71) ∧
      (s.rd CFG_RST_CNT.off).toNat + 1 < 0xFFFFFFFF) ∧
    (∃ (m : Master) (k : Fin 16) (s : State), s.serves m (EVT_PEND.off k.val) 0) ∧
    (∃ (m : Master) (val : Word) (s : State), s.serves m EVT_SWSET.off 2 ∧ EVT_SWSET.CLASS.get val < 4) ∧
    (∃ (m : Master) (val : Word) (s : State), s.serves m EVT_SWSET.off 2 ∧ 4 ≤ EVT_SWSET.CLASS.get val) ∧
    (∃ (k : Nat) (due : Int) (s : State), s.resetReq = none ∧ s.sump.react = some (k, due) ∧ due ≤ s.absNs ∧ (k = 1 ∨ k = 2) ∧
      (s.rd CFG_RST_CNT.off).toNat + 1 < 0xFFFFFFFF ∧ (s.rd SUMP_REACT_CNT.off).toNat + 1 < 0xFFFFFFFF ∧ s.flag FH_CTRL.SAFE_JETS = false ∧
      2 ≤ s.boot.kind ∧ s.ust = usIdle ∧ s.upd.rec_ = 0) ∧
    (∃ (s : State), s.resetReq = none) ∧
    (∃ (f : Frame) (s : State), s.resetReq = none ∧ f.typ = tyAlarm) ∧
    (∃ (m : Master) (s : State), s.serves m SNAP_CMD.off 2 ∧ (s.rd SNAP_LOST.off).toNat + 1 < 0xFFFFFFFF ∧ s.flag SNAP_CFG.EN = true ∧
      (s.g SNAP_CFG.TRIG).testBit 2 = true ∧ (s.g SNAP_STAT.STATE = 0 ∨ (s.g SNAP_STAT.STATE = 3 ∧ s.flag SNAP_CFG.OVERWRITE = true))) ∧
    (∃ (m : Master) (s : State), s.serves m SNAP_CMD.off 2 ∧ (s.rd SNAP_LOST.off).toNat + 1 < 0xFFFFFFFF ∧ s.flag SNAP_CFG.EN = true ∧
      (s.g SNAP_CFG.TRIG).testBit 2 = true ∧ s.g SNAP_STAT.STATE = 3 ∧ s.flag SNAP_CFG.OVERWRITE = false ∧
      s.flag (EVT_ROUTE.SNAP 6) = false) ∧
    (∃ (m : Master) (s : State), s.serves m SNAP_CMD.off 2 ∧ (s.rd SNAP_LOST.off).toNat + 1 < 0xFFFFFFFF ∧ s.g SNAP_STAT.STATE = 3) ∧
    (∃ (at_ : Nat) (origin : Nat) (s : State), s.resetReq = none ∧ s.sump.snapArm = some (at_, origin) ∧ s.come at_ = true ∧
      s.g SNAP_STAT.STATE = 1) ∧
    (∃ (at_ : Nat) (origin : Nat) (cause : Nat) (s : State), s.resetReq = none ∧ s.sump.snapMark = some (cause, origin, at_)) ∧
    (∃ (at_ : Nat) (origin : Nat) (cause : Nat) (s : State), s.resetReq = none ∧ s.sump.snapMark = some (cause, origin, at_) ∧
      (∀ k ∈ s.snapTiles, s.tileGood k)) ∧
    (∃ (n : Snap) (s : State), s.resetReq = none ∧ s.sump.snap = some n ∧ s.g SNAP_STAT.STATE = 2 ∧ s.flag (EVT_ROUTE.SNAP 5) = false) ∧
    (∃ (s : State), s.resetReq = none ∧ s.sump.inj = [] ∧ (s.rd TEL_SCRUB_CORR.off).toNat + 1 < 0xFFFFFFFF ∧
      (s.rd TEL_SCRUB_UNCORR.off).toNat + 1 < 0xFFFFFFFF ∧ (s.rd CST_ECC_UNCORR.off).toNat + 1 < 0xFFFFFFFF) ∧
    (∃ (s : State) (u : Nat), s.resetReq = none ∧ s.sump.inj = [] ∧ (s.rd TEL_SCRUB_CORR.off).toNat + 1 < 0xFFFFFFFF ∧
      (s.rd TEL_SCRUB_UNCORR.off).toNat + 1 < 0xFFFFFFFF ∧ (s.rd CST_ECC_UNCORR.off).toNat + 1 < 0xFFFFFFFF ∧ u < 2 ∧ s.guarded u ∧
      s.flag FH_CTRL.SAFE_JETS = false) ∧
    (∃ (s : State), s.resetReq = none ∧ s.sump.inj = [] ∧ (s.rd TEL_SCRUB_CORR.off).toNat + 1 < 0xFFFFFFFF ∧
      (s.rd TEL_SCRUB_UNCORR.off).toNat + 1 < 0xFFFFFFFF ∧ (s.rd CST_ECC_UNCORR.off).toNat + 1 < 0xFFFFFFFF) ∧
    (∃ (s : State), s.resetReq = none ∧ s.sump.inj = [] ∧ (s.rd TEL_SCRUB_CORR.off).toNat + 1 < 0xFFFFFFFF ∧
      (s.rd TEL_SCRUB_UNCORR.off).toNat + 1 < 0xFFFFFFFF ∧ (s.rd CST_ECC_UNCORR.off).toNat + 1 < 0xFFFFFFFF) ∧
    (∃ (mem : ScrubMem) (two : Bool) (s : State), s.resetReq = none ∧ s.sump.inj = [.flip mem two] ∧ s.sump.injected = false ∧
      (s.rd TEL_SCRUB_CORR.off).toNat + 1 < 0xFFFFFFFF ∧ (s.rd TEL_SCRUB_UNCORR.off).toNat + 1 < 0xFFFFFFFF) ∧
    (∃ (m : Master) (off : Nat) (s : State), s.resetReq = none ∧ off % 4 = 0 ∧ 0x2A0004 ≤ off ∧ off < 0x2B0000 ∧
      s.regWaits m off 4 = false ∧ (s.rd SUMP_BUSERR_CNT.off).toNat + 1 < 0xFFFFFFFF ∧ m.mid.val = 0x1F ∧ s.life = 0) ∧
    (∃ (m : Master) (off : Nat) (s : State), s.resetReq = none ∧ off % 4 = 0 ∧ 0x2A0004 ≤ off ∧ off < 0x2B0000 ∧
      s.regWaits m off 4 = false ∧ (s.rd SUMP_BUSERR_CNT.off).toNat + 1 < 0xFFFFFFFF ∧ (m.mid.val ≠ 0x1F ∨ s.life ≠ 0)) ∧
    (∃ (s : State), s.resetReq = none ∧ (s.rd TEL_CAL_ERR.off).toNat + 1 < 0xFFFFFFFF) ∧
    (∃ (s : State), s.resetReq = none ∧ (s.rd TEL_CAL_ERR.off).toNat + 1 < 0xFFFFFFFF ∧
      1000000 * (max 10 (s.g TEL_CFG.PERIOD) : Nat) ≤ s.absNs - s.sump.telAt) ∧
    (∃ (s : State), s.resetReq = none ∧ s.g TEL_CFG.MGMT ≠ 0 ∧ 1000000000 * (s.g TEL_CFG.MGMT : Int) ≤ s.absNs - s.sump.mgmtAt) :=
  ⟨⟨0, (Tests.Pp.b0), by decide +kernel⟩,
    ⟨7, 4, (Tests.Pp.b0), by decide +kernel⟩,
    ⟨{ mid := 2, node := 0x0000#16 }, 0, (Tests.Pp.b0), by unfold State.serves; decide +kernel⟩,
    ⟨{ mid := 2, node := 0x0000#16 }, 0x00000000#32, (Tests.Pp.b0), by unfold State.serves; decide +kernel⟩,
    ⟨{ mid := 2, node := 0x0000#16 }, 0xffffffff#32, (Tests.Pp.b0), by unfold State.serves; decide +kernel⟩,
    ⟨1, 5, (Tests.Pp.sp Tests.Pp.b0 (fun u => { u with react := some (1, 5) })), by decide +kernel⟩,
    ⟨(Tests.Pp.b0), by decide +kernel⟩,
    ⟨(Tests.Pp.fr (List.replicate 32 3)), (Tests.Pp.b0), by decide +kernel⟩,
    ⟨{ mid := 2, node := 0x0000#16 }, (Tests.Pp.snp 0 Tests.Pp.b0), by unfold State.serves; decide +kernel⟩,
    ⟨{ mid := 2, node := 0x0000#16 }, (Tests.Pp.snp 3 Tests.Pp.b0), by unfold State.serves; decide +kernel⟩,
    ⟨{ mid := 2, node := 0x0000#16 }, (Tests.Pp.snp 3 Tests.Pp.b0), by unfold State.serves; decide +kernel⟩,
    ⟨214925395918855, 3, (Tests.Pp.sp (Tests.Pp.snp 1 Tests.Pp.b0) (fun u => { u with snapArm := some (Tests.Pp.b0.fns48, 3) })),
      by decide +kernel⟩,
    ⟨5, 3, 1, (Tests.Pp.sp (Tests.Pp.snp 2 Tests.Pp.b0) (fun u => { u with snapMark := some (1, 3, 5) })), by decide +kernel⟩,
    ⟨5, 3, 1, (Tests.Pp.sp (Tests.Pp.snp 2 Tests.Pp.b0) (fun u => { u with snapMark := some (1, 3, 5) })),
      by unfold State.tileGood; decide +kernel⟩,
    ⟨{ serial := 3, cause := 1, origin := 1, instant := 5, tiles := 0, mark := 6, pins := [], cmpOut := 0x00000000#32, cycle := 0, feedI := [], body := [] }, (Tests.Pp.sp (Tests.Pp.snp 2 Tests.Pp.b0) (fun u => { u with snap := some Tests.Pp.sn })), by decide +kernel⟩,
    ⟨(Tests.Pp.b0), by decide +kernel⟩,
    ⟨(Tests.Pp.b0), 0, by unfold State.guarded; decide +kernel⟩,
    ⟨(Tests.Pp.b0), by decide +kernel⟩,
    ⟨(Tests.Pp.b0), by decide +kernel⟩,
    ⟨(ScrubMem.bank 5), true, ((fun b => Tests.Pp.sp Tests.Pp.b0 (fun u => { u with inj := [.flip (.bank 5) b] })) ((true))),
      by decide +kernel⟩,
    ⟨{ mid := 31, node := 0x0000#16 }, 2752520, (Tests.Pp.fac Tests.Pp.b0), by decide +kernel⟩,
    ⟨{ mid := 2, node := 0x0000#16 }, 2752520, (Tests.Pp.b0), by decide +kernel⟩,
    ⟨(Tests.Pp.b0), by decide +kernel⟩,
    ⟨(Tests.Pp.b0), by decide +kernel⟩,
    ⟨((Tests.Pp.b0.p TEL_CFG.MGMT 5)), by decide +kernel⟩⟩
end

section
/-! PROOF of ReservedBits (R28). The word that a read returns, the word that a write makes and the word that a block sees are each put
together from a part for each field of the row, and no part lies outside its field. -/

namespace Sys2Proof.Machine

/-! ### The bits of the words that the access codes make -/

/-- What a write by class `c` makes of a field's bits, in place. -/
def State.writtenPart (s : State) (c off : Nat) (old wv : Word) (f : FieldDef) : Nat :=
  if s.reaches c off f.guard then fieldWrite f old.toNat wv.toNat else old.toNat &&& fieldMask f

/-- What a block sees of a field in a write by class `c`, in place. -/
def State.effectivePart (s : State) (c off : Nat) (wv : Word) (f : FieldDef) : Nat :=
  if s.reaches c off f.guard then wv.toNat &&& fieldMask f else 0

/-- What a read by class `c` returns of a field, in place. -/
def State.readPart (s : State) (c off : Nat) (w : Word) (f : FieldDef) : Nat :=
  if s.reaches c off f.guard ∧ ¬ (f.acc = .wo ∨ f.acc = .mw ∧ 16 ≤ f.lo) then w.toNat &&& fieldMask f else 0

/-- A bit of a word that is put together from a part for each field. -/
theorem foldl_or_getLsbD (l : List FieldDef) (g : FieldDef → Nat) (i : Nat) :
    (l.foldl (fun acc f => acc ||| BitVec.ofNat 32 (g f)) (0 : Word)).getLsbD i =
      (decide (i < 32) && l.any (fun f => (g f).testBit i)) := by
  rw [← BitVec.testBit_toNat, foldl_or_testBit]
  simp

theorem State.maskedWrite_getLsbD (s : State) (c off : Nat) (r : RegRow) (old wv : Word) (i : Nat) :
    (s.maskedWrite c off r old wv).1.getLsbD i =
      (decide (i < 32) && r.fields.any (fun f => (s.writtenPart c off old wv f).testBit i)) := by
  rw [← foldl_or_getLsbD, State.maskedWrite]
  congr 1
  refine (List.foldl_hom Prod.fst fun a f => ?_).symm
  unfold State.writtenPart
  split <;> rfl

theorem State.effectiveWrite_getLsbD (s : State) (c off : Nat) (r : RegRow) (wv : Word) (i : Nat) :
    (s.effectiveWrite c off r wv).getLsbD i =
      (decide (i < 32) && r.fields.any (fun f => (s.effectivePart c off wv f).testBit i)) := by
  rw [← foldl_or_getLsbD, State.effectiveWrite]
  congr 2
  funext a f
  unfold State.effectivePart
  split <;> simp

theorem State.maskedRead_getLsbD (s : State) (c off : Nat) (r : RegRow) (w : Word) (i : Nat) :
    (s.maskedRead c off r w).1.getLsbD i =
      (decide (i < 32) && r.fields.any (fun f => (s.readPart c off w f).testBit i)) := by
  rw [← foldl_or_getLsbD, State.maskedRead]
  congr 1
  refine (List.foldl_hom Prod.fst fun a f => ?_).symm
  unfold State.readPart
  by_cases hr : s.reaches c off f.guard = true
  · by_cases hw : f.acc = .wo ∨ f.acc = .mw ∧ 16 ≤ f.lo <;> simp [hr, hw]
  · simp [hr]

/-- No part of a written word lies outside its field. -/
theorem State.writtenPart_outside (s : State) (c off : Nat) (old wv : Word) {f : FieldDef} {i : Nat}
    (h : (fieldMask f).testBit i = false) : (s.writtenPart c off old wv f).testBit i = false := by
  unfold State.writtenPart
  split
  · exact fieldWrite_outside f _ _ i h
  · simp [h]

theorem State.effectivePart_outside (s : State) (c off : Nat) (wv : Word) {f : FieldDef} {i : Nat}
    (h : (fieldMask f).testBit i = false) : (s.effectivePart c off wv f).testBit i = false := by
  unfold State.effectivePart
  split <;> simp [h]

theorem State.readPart_outside (s : State) (c off : Nat) (w : Word) {f : FieldDef} {i : Nat}
    (h : (fieldMask f).testBit i = false) : (s.readPart c off w f).testBit i = false := by
  unfold State.readPart
  split <;> simp [h]

/-- At a reserved bit no field has a part. -/
theorem any_part_reserved {l : List FieldDef} {g : FieldDef → Nat} {i : Nat}
    (hl : l.all (fun f => !(decide (f.lo ≤ i) && decide (i ≤ f.hi))) = true)
    (hg : ∀ f, (fieldMask f).testBit i = false → (g f).testBit i = false) : l.any (fun f => (g f).testBit i) = false := by
  refine List.any_eq_false.2 fun f hf => ?_
  have hm : (fieldMask f).testBit i = false := by
    rw [fieldMask_testBit, ← Bool.not_eq_true']
    exact List.all_eq_true.1 hl f hf
  simp [hg f hm]

/-- Settles O7: each of the three words is put together from a part for each field, and no part has a bit outside its field. -/
theorem reservedBits : Obligations.ReservedBits := by
  unfold Obligations.ReservedBits
  intro s c off r old wv i _ hi
  rw [s.maskedRead_getLsbD, s.maskedWrite_getLsbD, s.effectiveWrite_getLsbD,
    any_part_reserved hi fun _ => s.readPart_outside c off old,
    any_part_reserved hi fun _ => s.writtenPart_outside c off old wv,
    any_part_reserved hi fun _ => s.effectivePart_outside c off wv]
  simp

end Sys2Proof.Machine
end

section
/-! PROOF of MaskedWrite (R31). The fields of a row share no bit, so that a masked field's part is the only one at its bits. A write with no
mask bit therefore makes a word with the register's own masked bits, and PWR, TIME and FIO each store that word or leave their state. -/

namespace Sys2Proof.Machine

/-! ### The layout of the fields of a register -/

/-- The fields of a row share no bit. -/
def RegRow.apart (r : RegRow) : Prop := ∀ e ∈ r.fields, ∀ f ∈ r.fields, e ≠ f → e.hi < f.lo ∨ f.hi < e.lo

/-- A masked field lies in bits 15:0, or it is a mask in bits 31:16 (R31). -/
def RegRow.masksHigh (r : RegRow) : Prop := ∀ f ∈ r.fields, f.acc = .mw → f.hi < 16 ∨ 16 ≤ f.lo

theorem blockRows_layout (win : Nat) : ∀ r ∈ blockRows win, r.apart ∧ r.masksHigh := by
  unfold RegRow.apart RegRow.masksHigh blockRows
  split <;> decide +kernel

theorem regRow_layout {off : Nat} {r : RegRow} (h : regRow off = some r) : r.apart ∧ r.masksHigh :=
  blockRows_layout (off / 2 ^ 16) r (List.mem_of_find?_eq_some h)

/-- A bit that one field of a defined register covers has that field's part alone. -/
theorem RegRow.any_part_of_covered {r : RegRow} (hr : r.apart) {f : FieldDef} (hf : f ∈ r.fields) {i : Nat} (hlo : f.lo ≤ i)
    (hhi : i ≤ f.hi) {g : FieldDef → Nat} (hg : ∀ e, (fieldMask e).testBit i = false → (g e).testBit i = false) :
    r.fields.any (fun e => (g e).testBit i) = (g f).testBit i := by
  have other : ∀ e ∈ r.fields, (g e).testBit i = true → e = f := by
    intro e he hge
    by_contra hne
    have hout : (fieldMask e).testBit i = false := by
      have hdisjoint := hr e he f hf hne
      rw [fieldMask_testBit, Bool.and_eq_false_iff, decide_eq_false_iff_not, decide_eq_false_iff_not]
      omega
    simp [hg e hout] at hge
  cases hb : (g f).testBit i with
  | true => exact List.any_eq_true.2 ⟨f, hf, hb⟩
  | false =>
    refine List.any_eq_false.2 fun e he hge => ?_
    rw [other e he hge, hb] at hge
    exact Bool.false_ne_true hge

/-! ### Masked fields -/

/-- Bit `i` of bits 15:0 of a masked field after a write (R31). -/
theorem fieldWrite_mw_testBit {f : FieldDef} (hf : f.acc = .mw) {i : Nat} (hlo : f.lo ≤ i) (hhi : i ≤ f.hi) (hi : i < 16)
    (old wv : Nat) :
    (fieldWrite f old wv).testBit i = if wv.testBit (i + 16) then wv.testBit i else old.testBit i := by
  have hm : (fieldMask f).testBit i = true := by rw [fieldMask_testBit]; simp [hlo, hhi]
  have h16 : ¬ 16 ≤ f.lo := by omega
  simp only [fieldWrite, hf, h16, if_false, Nat.testBit_or, sub_and_testBit, Nat.testBit_and, hm, Nat.testBit_div_two_pow, Bool.and_true]
  cases wv.testBit (i + 16) <;> simp

/-- A masked write takes the bits whose mask bits are 1, and no others (R31). -/
theorem State.maskedWrite_mw (s : State) {c off : Nat} {r : RegRow} (hr : regRow off = some r) {f : FieldDef} (hf : f ∈ r.fields)
    (ha : f.acc = .mw) {i : Nat} (hlo : f.lo ≤ i) (hhi : i ≤ f.hi) (hi : i < 16) (hc : s.reaches c off f.guard = true) (old wv : Word) :
    (s.maskedWrite c off r old wv).1.getLsbD i = if wv.getLsbD (i + 16) then wv.getLsbD i else old.getLsbD i := by
  have h32 : i < 32 := by omega
  rw [s.maskedWrite_getLsbD,
    RegRow.any_part_of_covered (regRow_layout hr).1 hf hlo hhi fun _ => s.writtenPart_outside c off old wv]
  simp only [State.writtenPart, hc, if_true, fieldWrite_mw_testBit ha hlo hhi hi, BitVec.testBit_toNat, h32, decide_true, Bool.true_and]

/-- The masks read 0 (R31). -/
theorem State.maskedRead_mw (s : State) {c off : Nat} {r : RegRow} (hr : regRow off = some r) {f : FieldDef} (hf : f ∈ r.fields)
    (ha : f.acc = .mw) {i : Nat} (hlo : f.lo ≤ i) (hhi : i ≤ f.hi) (hi : 16 ≤ i) (w : Word) :
    (s.maskedRead c off r w).1.getLsbD i = false := by
  obtain ⟨hapart, hmasks⟩ := regRow_layout hr
  have h16 : 16 ≤ f.lo := (hmasks f hf ha).resolve_left (by omega)
  rw [s.maskedRead_getLsbD, RegRow.any_part_of_covered hapart hf hlo hhi fun _ => s.readPart_outside c off w]
  simp [State.readPart, ha, h16]

/-! ### What evaluating the domains leaves of their votes -/

theorem FRef.getLsbD_put_outside (f : FRef) (w : Word) (v : Nat) {i : Nat} (h : i < f.lsb ∨ f.lsb + f.width ≤ i) :
    (f.put w v).getLsbD i = w.getLsbD i := by
  by_cases hi : i < 32
  · have hn : ¬ (f.lsb ≤ i ∧ i < f.lsb + f.width) := by omega
    simp only [FRef.put, BitVec.getLsbD_ofNat, setBits_testBit, if_neg hn, hi, decide_true, Bool.true_and, BitVec.testBit_toNat]
  · rw [BitVec.getLsbD_of_ge _ _ (by omega), BitVec.getLsbD_of_ge _ _ (by omega)]

/-- No reset is asked for, and of the votes of the domains only the DEP bits (bit 3) may have changed. -/
structure VotesKept (s t : State) : Prop where
  resetReq : t.resetReq = s.resetReq
  votes : ∀ d i, i ≠ 3 → (t.rd (PWR_DOM_VOTE.off d)).getLsbD i = (s.rd (PWR_DOM_VOTE.off d)).getLsbD i

namespace VotesKept

theorem refl (s : State) : VotesKept s s := ⟨rfl, fun _ _ _ => rfl⟩

theorem trans {s t u : State} (a : VotesKept s t) (b : VotesKept t u) : VotesKept s u :=
  ⟨b.resetReq.trans a.resetReq, fun d i hi => (b.votes d i hi).trans (a.votes d i hi)⟩

/-- A change of the power controller's own data. -/
theorem power (s : State) (x : Power) : VotesKept s { s with power := x } := ⟨rfl, fun _ _ _ => rfl⟩

theorem foldl {α : Type} {step : State → α → State} (h : ∀ s x, VotesKept s (step s x)) (l : List α) (s : State) :
    VotesKept s (l.foldl step s) := by
  induction l generalizing s with
  | nil => exact refl s
  | cons x l ih => exact (h s x).trans (ih (step s x))

/-- A field of another register replaced. -/
theorem p (s : State) (f : FRef) (v : Nat) (hf : ∀ d, PWR_DOM_VOTE.off d ≠ f.off) : VotesKept s (s.p f v) :=
  ⟨rfl, fun d i _ => by rw [s.rd_p_ne f v (hf d)]⟩

theorem pb_dep (s : State) (d : Nat) (b : Bool) : VotesKept s (s.pb (PWR_DOM_VOTE.DEP d) b) := by
  refine ⟨rfl, fun e i hi => ?_⟩
  by_cases he : PWR_DOM_VOTE.off e = PWR_DOM_VOTE.off d
  · rw [he, State.pb, (s.rd_p_same (PWR_DOM_VOTE.DEP d) _ :)]
    exact FRef.getLsbD_put_outside _ _ _ (by dsimp only; omega)
  · rw [State.pb, s.rd_p_ne _ _ he]

/-- The status of a domain changes. -/
theorem p_stat (s : State) (f : FRef) (v d : Nat) (hf : f.off = PWR_DOM_STAT.off d) : VotesKept s (s.p f v) :=
  p s f v fun e => by rw [hf]; simp only [PWR_DOM_VOTE.off, PWR_DOM_STAT.off]; omega

theorem setDom (s : State) (d st : Nat) : VotesKept s (s.setDom d st) := p_stat s _ st d rfl

theorem beginTrans (s : State) (d st : Nat) : VotesKept s (s.beginTrans d st) := (setDom s d st).trans (p_stat _ _ _ d rfl)

theorem beginOn (s : State) (d frm : Nat) : VotesKept s (s.beginOn d frm) :=
  (beginTrans s d dsToOn).trans (power _ _)

theorem depEval (s : State) : VotesKept s s.depEval :=
  (foldl (fun s d => pb_dep s d _) _ s).trans (foldl (fun s d => pb_dep s d _) _ _)

theorem domEval (s : State) (d : Nat) : VotesKept s (s.domEval d) := by
  unfold State.domEval
  dsimp only
  split
  · split
    · exact setDom s d dsOn
    · split
      · exact beginOn s d 1
      · split
        · exact beginOn s d 0
        · exact refl s
  · split
    · exact setDom s d dsPending
    · split
      · exact beginTrans s d dsToOff
      · exact refl s

theorem powerEval (s : State) : VotesKept s s.powerEval := (depEval s).trans (foldl domEval _ _)

end VotesKept

/-- A write of the votes of a domain beside domain 0 stores them and has the domains evaluated (R404). -/
theorem State.voteWrite_kept (s : State) {d : Nat} (hd : d ≠ 0) (new : Word) :
    (s.voteWrite d new).1 = stOK ∧ VotesKept (s.wr (PWR_DOM_VOTE.off d) new) (s.voteWrite d new).2 := by
  have he := VotesKept.powerEval (s.wr (PWR_DOM_VOTE.off d) new)
  have hw := he.trans (VotesKept.p_stat _ (PWR_DOM_STAT.WOUT d) woCancelled d rfl)
  unfold State.voteWrite
  rw [if_neg hd]
  dsimp only
  split
  · refine ⟨rfl, ?_⟩
    dsimp only
    split
    · exact hw.trans (VotesKept.p _ PWR_WAKE_LAST.OUTCOME _ fun e => by simp only [PWR_DOM_VOTE.off, PWR_WAKE_LAST.off]; omega)
    · exact hw
  · refine ⟨rfl, ?_⟩
    dsimp only
    exact he

/-! ### The effect of an all-zero mask on each block -/

/-- The bit of a register that its block keeps itself: DEP of the votes (R405). -/
def isDepBit (off i : Nat) : Prop := off < PWR_DOM_VOTE.off 16 ∧ i = 3

/-- An effect of a write of the word `new` at `off` that ends OK, asks for no reset, and moves no bit where `new` agrees with the
register, but those that the block keeps. -/
structure BitsKept (s : State) (off : Nat) (new : Word) (a : Nat × State) : Prop where
  ok : a.1 = stOK
  resetReq : a.2.resetReq = s.resetReq
  bits : ∀ i, ¬ isDepBit off i → new.getLsbD i = (s.rd off).getLsbD i → (a.2.rd off).getLsbD i = (s.rd off).getLsbD i

namespace BitsKept

theorem unchanged (s : State) (off : Nat) (new : Word) : BitsKept s off new (stOK, s) := ⟨rfl, rfl, fun _ _ _ => rfl⟩

theorem plain (s : State) (r : RegWr) (hk : r.key = r.off) : BitsKept s r.off r.new (s.plain r) :=
  ⟨rfl, rfl, fun i _ hi => by simpa [State.plain, hk] using hi⟩

theorem voteWrite (s : State) {d : Nat} (hd : d < 16) (new : Word) : BitsKept s (PWR_DOM_VOTE.off d) new (s.voteWrite d new) := by
  by_cases h0 : d = 0
  · rw [State.voteWrite, if_pos h0]
    exact unchanged s _ new
  · obtain ⟨hok, hreq, hvotes⟩ := s.voteWrite_kept h0 new
    refine ⟨hok, hreq, fun i hi heq => ?_⟩
    have h3 : i ≠ 3 := fun h => hi ⟨by simp only [PWR_DOM_VOTE.off]; omega, h⟩
    rw [hvotes d i h3, State.rd_wr_same, heq]

/-- With no mask bit no level is set (R310). -/
theorem levelWrite (s : State) (k off : Nat) (new : Word) {eff : Word} (he : ∀ j, 16 ≤ j → eff.getLsbD j = false) :
    BitsKept s off new (s.levelWrite k eff) := by
  have hfold : ∀ l : List Nat,
      l.foldl (fun s j => if eff.getLsbD (16 + j) then s.setD (16 * k + j) (eff.getLsbD j) else s) s = s := by
    intro l
    induction l with
    | nil => rfl
    | cons j l ih => rwa [List.foldl_cons, he (16 + j) (by omega), if_neg Bool.false_ne_true]
  rw [State.levelWrite, hfold]
  exact unchanged s off new

end BitsKept

theorem mem_maskedRegs {off : Nat} : off ∈ maskedRegs ↔
    (∃ d < 16, off = PWR_DOM_VOTE.off d) ∨ (∃ n < 32, off = TIME_ECAP.off n) ∨ ∃ k < 16, off = FIO_LEVEL.off k := by
  simp only [maskedRegs, List.mem_append, List.mem_map, List.mem_range, eq_comm (b := off), or_assoc]

/-- Outside CFG, UPD and FH the update machinery takes no part in a write. -/
theorem State.blkTop_eq_blkWrite (s : State) {r : RegWr} (h1 : r.off < 0x060000 ∨ 0x070030 ≤ r.off) (h2 : r.off < 0x240000) :
    s.blkTop r = s.blkWrite r := by
  have hu : r.off ≠ UPD_CMD.off := by simp only [UPD_CMD.off]; omega
  have hi : r.off ≠ UPD_INJ_CTRL.off := by simp only [UPD_INJ_CTRL.off]; omega
  have hc : r.off ≠ CFG_RESET.off := by simp only [CFG_RESET.off]; omega
  have hf : r.off ≠ FH_CMD.off := by simp only [FH_CMD.off]; omega
  simp only [State.blkTop, hu, hi, hc, hf, if_false, false_and]

theorem State.blkTop_vote (s : State) {r : RegWr} {d : Nat} (hd : d < 16) (ho : r.off = PWR_DOM_VOTE.off d) :
    s.blkTop r = s.voteWrite d r.new := by
  simp only [PWR_DOM_VOTE.off] at ho
  have hi : r.inst 0x010100 16 = d := by rw [RegWr.inst]; omega
  rw [s.blkTop_eq_blkWrite (by omega) (by omega)]
  unfold State.blkWrite State.blkPower
  simp (disch := omega) only [↓if_neg, ↓if_pos, hi]

theorem State.blkTop_ecap (s : State) {r : RegWr} {n : Nat} (hn : n < 32) (ho : r.off = TIME_ECAP.off n) :
    s.blkTop r = s.plain r := by
  simp only [TIME_ECAP.off] at ho
  rw [s.blkTop_eq_blkWrite (by omega) (by omega)]
  unfold State.blkWrite State.blkTime
  simp only [TIME_EPOCH_HI.off, TIME_INC_HI.off, TIME_SLEW_CNT.off, TIME_STEP.off, TIME_SET_SEC_HI.off,
    TIME_ACT_FLUSH.off, TIME_LATE_POP.off]
  simp (disch := omega) only [↓if_neg, ↓if_pos]

theorem State.blkTop_level (s : State) {r : RegWr} {k : Nat} (hk : k < 16) (ho : r.off = FIO_LEVEL.off k) :
    s.blkTop r = s.levelWrite k r.eff := by
  simp only [FIO_LEVEL.off] at ho
  have hi : r.inst (FIO_LEVEL.off 0) 4 = k := by rw [RegWr.inst]; simp only [FIO_LEVEL.off]; omega
  rw [s.blkTop_eq_blkWrite (by omega) (by omega)]
  unfold State.blkWrite State.blkPins
  rw [hi]
  simp only [FIO_LEVEL.off]
  simp (disch := omega) only [↓if_neg, ↓if_pos]

/-- A write of a masked register with no mask bit moves none of its masked bits. -/
theorem State.blkTop_masked (s : State) (r : RegWr) (hm : r.off ∈ maskedRegs) (hk : r.key = r.off)
    (he : ∀ j, 16 ≤ j → r.eff.getLsbD j = false) : BitsKept s r.off r.new (s.blkTop r) := by
  rcases mem_maskedRegs.1 hm with ⟨d, hd, ho⟩ | ⟨n, hn, ho⟩ | ⟨k, hk', ho⟩
  · rw [s.blkTop_vote hd ho, ho]
    exact BitsKept.voteWrite s hd r.new
  · rw [s.blkTop_ecap hn ho]
    exact BitsKept.plain s r hk
  · rw [s.blkTop_level hk' ho]
    exact BitsKept.levelWrite s k _ _ he

/-! ### REGISTER_WRITE of an all-zero mask -/

theorem exec_registerWrite (m : Master) (off width : Nat) (val : Word) (s : State) :
    exec (.registerWrite m off width val) s = .next (s.finish (s.regCmd m off width val)) := by rfl

/-- The masked registers lie in PWR, TIME and FIO. -/
theorem maskedRegs_range {off : Nat} (hm : off ∈ maskedRegs) : off < 0x050000 ∨ (0x1A0000 ≤ off ∧ off < 0x1C0000) := by
  rcases mem_maskedRegs.1 hm with ⟨d, hd, rfl⟩ | ⟨n, hn, rfl⟩ | ⟨k, hk, rfl⟩
  · exact .inl (by simp only [PWR_DOM_VOTE.off]; omega)
  · exact .inl (by simp only [TIME_ECAP.off]; omega)
  · exact .inr (by simp only [FIO_LEVEL.off]; omega)

/-- A masked register stands under its own offset: no selector leads to it. -/
theorem State.keyOfReg_masked (s : State) (m : Master) {off : Nat} (hm : off ∈ maskedRegs) : s.keyOfReg m off = off := by
  have hsel : ∀ o ∈ maskedRegs, isSel o = false := by decide +kernel
  have hr := maskedRegs_range hm
  have he : s.entryOf m.mid.val off = none := by
    unfold State.entryOf
    simp (disch := omega) only [↓if_neg]
  simp only [State.keyOfReg, hsel off hm, he, Bool.false_eq_true, if_false]

theorem State.storedWord_masked (s : State) (m : Master) {off : Nat} (hm : off ∈ maskedRegs) : s.storedWord m off = s.rd off := by
  have hn : ¬ (off = PNT_ATTR_DATA.off ∨ (0x1C0000 ≤ off ∧ off < 0x1D0000 ∧ 0x1000 ≤ off % 0x2000)) := by
    have hr := maskedRegs_range hm
    simp only [PNT_ATTR_DATA.off]
    omega
  rw [State.storedWord, if_neg hn, s.keyOfReg_masked m hm]

/-- What the table says of a masked register: a Privileged writer reaches every field, some field can be written, and no bit that its
block keeps is masked. -/
theorem regRow_masked {off : Nat} (hm : off ∈ maskedRegs) {r : RegRow} (hr : regRow off = some r) :
    r.openTo 2 = true ∧ r.fields.any (fun f => f.acc != .ro) = true ∧
      (∀ f ∈ r.fields, f.acc = .mw → ∀ i, f.lo ≤ i → i ≤ f.hi → ¬ isDepBit off i) := by
  have table : ∀ o ∈ maskedRegs, ∀ q ∈ regRow o, q.openTo 2 = true ∧ q.fields.any (fun f => f.acc != .ro) = true ∧
      ∀ f ∈ q.fields, f.acc = .mw → o < PWR_DOM_VOTE.off 16 → f.hi < 3 ∨ 3 < f.lo := by decide +kernel
  obtain ⟨hopen, hany, hdep⟩ := table off hm r hr
  refine ⟨hopen, hany, fun f hf ha i hlo hhi hi => ?_⟩
  obtain ⟨hvote, hi3⟩ := hi
  have hclear := hdep f hf ha hvote
  omega

theorem mwGroup_masked {off : Nat} (hm : off ∈ maskedRegs) : mwGroup off = none := by
  have table : ∀ o ∈ maskedRegs, mwGroup o = none := by decide +kernel
  exact table off hm

/-- A word below 2^16 has no mask bit. -/
theorem getLsbD_of_lt_two_pow_16 {wv : Word} (h : wv.toNat < 2 ^ 16) {i : Nat} (hi : 16 ≤ i) : wv.getLsbD i = false := by
  rw [← BitVec.testBit_toNat]
  exact Nat.testBit_lt_two_pow (Nat.lt_of_lt_of_le h (Nat.pow_le_pow_right (by decide) hi))

/-- REGISTER_WRITE of an all-zero mask ends OK and moves no masked bit (R31). -/
theorem State.registerWrite_zeroMask {s : State} {m : Master} {off : Nat} {wv : Word} {r : RegRow} (hm : off ∈ maskedRegs)
    (hr : regRow off = some r) (h : s.serves m off 2) (hwv : wv.toNat < 2 ^ 16) :
    ∃ t, exec (.registerWrite m off 4 wv) s = .next t ∧ t.toldOK m ∧
      ∀ f ∈ r.fields, f.acc = .mw → ∀ i, f.lo ≤ i → i ≤ f.hi → i < 16 → (t.rd off).getLsbD i = (s.rd off).getLsbD i := by
  obtain ⟨hopen, hany, hdep⟩ := regRow_masked hm hr
  have hcmd := State.regCmd_serves h (Nat.le_refl 2) hr (mwGroup_masked hm) hopen hany wv
  rw [s.keyOfReg_masked m hm, s.storedWord_masked m hm] at hcmd
  obtain ⟨hok, hreq, hbits⟩ := s.blkTop_masked
    ⟨m, off, off, (s.entryOf m.mid.val off).getD 0, r.newWord (s.rd off) wv, r.effWord wv, [], []⟩ hm rfl fun j hj => by
      rw [← BitVec.testBit_toNat, r.effWord_testBit, BitVec.testBit_toNat, getLsbD_of_lt_two_pow_16 hwv hj, Bool.false_and]
  have hnone : (s.regCmd m off 4 wv).resetReq = none := by
    obtain ⟨_, _, _, _, _, hs⟩ := h
    rw [hcmd, State.answer_resetReq, hreq, hs]
  refine ⟨_, exec_registerWrite m off 4 wv s, ?_, fun f hf ha i hlo hhi hi => ?_⟩
  · rw [State.finish_none hnone, hcmd, hok]
    rfl
  · rw [State.finish_rd hnone, hcmd, State.answer_rd]
    refine hbits i (hdep f hf ha i hlo hhi) ?_
    have hword := s.maskedWrite_mw hr hf ha hlo hhi hi (s.reaches_open (Nat.le_refl 2) hopen hf) (s.rd off) wv
    rwa [s.maskedWrite_open (Nat.le_refl 2) hopen, getLsbD_of_lt_two_pow_16 hwv (by omega), if_neg Bool.false_ne_true] at hword

/-- Settles O8: the masked field's own part is the only one at its bits; a write without mask bits makes of the register's word the same
masked bits, and each of the three blocks stores that word or leaves its state. -/
theorem maskedWrite : Obligations.MaskedWrite := by
  unfold Obligations.MaskedWrite
  refine ⟨fun s c off r old wv f i hr hf ha hlo hhi hc => ⟨fun hi => ?_, fun hi => ?_⟩, fun m off wv s r hm hr h hwv => ?_⟩
  · exact s.maskedWrite_mw hr hf ha hlo hhi hi hc old wv
  · exact s.maskedRead_mw hr hf ha hlo hhi hi old
  · exact State.registerWrite_zeroMask hm hr h hwv

end Sys2Proof.Machine
end

section
/-! PROOF of EveryCommandEnds, StepTakesTheFront, QueueIsFifo and IdleStepIsATick (log entries 1 and 2). Every arm of `exec` ends through
`State.finish`, which keeps the queue and leaves no reset waiting; a step on an empty queue is a tick of the timebase. -/

namespace Sys2Proof.Machine

/-! ### How a command ends -/

/-- Every command's meaning ends through `State.finish`. -/
theorem exec_eq_finish (c : Instr) (s : State) : ∃ t, exec c s = .next (s.finish t) := by
  cases c <;> exact ⟨_, rfl⟩

/-- Settles O2: each arm of `exec` ends through `State.finish`. -/
theorem everyCommandEnds : Obligations.EveryCommandEnds := by
  unfold Obligations.EveryCommandEnds
  intro c s
  obtain ⟨t, ht⟩ := exec_eq_finish c s
  exact ⟨s.finish t, ht, s.finish_pending t, s.finish_resetReq t⟩

/-! ### A step with a command waiting -/

theorem step_cons {s : State} {c : Instr} {l : List Instr} (h : s.pending = c :: l) : step s = exec c { s with pending := l } := by
  unfold step
  rw [h]

/-- With a command waiting a step takes it, keeps the rest, and leaves no reset waiting. -/
theorem step_takes {s : State} {c : Instr} {l : List Instr} (h : s.pending = c :: l) :
    ∃ t, step s = .next t ∧ t.pending = l ∧ t.resetReq = none := by
  rw [step_cons h]
  exact everyCommandEnds c { s with pending := l }

/-- Settles O1: the match of `step` on the queue. -/
theorem stepTakesTheFront : Obligations.StepTakesTheFront := by
  unfold Obligations.StepTakesTheFront
  intro c s l h
  exact step_cons h

/-- Settles O3, by induction on the commands taken. -/
theorem queueIsFifo : Obligations.QueueIsFifo := by
  unfold Obligations.QueueIsFifo
  intro l r
  induction l with
  | nil => exact fun s h => ⟨s, rfl, h⟩
  | cons c l ih =>
    intro s h
    obtain ⟨t, hstep, hpending, _⟩ := step_takes h
    obtain ⟨u, hsteps, hrest⟩ := ih t hpending
    refine ⟨u, ?_, hrest⟩
    rw [List.length_cons, State.steps, hstep]
    exact hsteps

/-! ### A tick of the timebase -/

/-- With nothing awaited the host port does nothing as time passes. -/
theorem State.hostTick_idle {s : State} (h : s.brg.await = none) : s.hostTick = s := by
  unfold State.hostTick
  rw [h]

@[simp] theorem State.timeTick_brg (s : State) : s.timeTick.brg = s.brg := by simp only [State.timeTick, State.p_brg]

theorem State.timeTick_rd (s : State) (k : Nat) :
    s.timeTick.rd k = (s.p TIME_SLEW_CNT.CNT (s.g TIME_SLEW_CNT.CNT - 1)).rd k := by
  simp only [State.timeTick, State.rd]

/-- A tick changes the time counter and a register. -/
theorem State.timeTick_form (s : State) : ∃ r c, s.timeTick = { s with regs := r, clep := c } := by
  unfold State.timeTick State.p State.wr
  exact ⟨_, _, rfl⟩

theorem State.timeTick_frame (s : State) : { s.timeTick with regs := s.regs, clep := s.clep } = s := by
  obtain ⟨r, c, h⟩ := s.timeTick_form
  generalize s.timeTick = t at *
  subst h
  rfl

theorem step_idle {s : State} (hp : s.pending = []) (ha : s.brg.await = none) : step s = .next s.timeTick := by
  unfold step
  rw [hp]
  exact congrArg Host.Outcome.next (State.hostTick_idle (by rw [s.timeTick_brg, ha]))

/-- The time counter in units of 2^-32 ns. -/
def Clep.units (c : Clep) : Int := ((c.sec * 1000000000 + c.ns) * 2 ^ 32 + c.frac : Int)

/-- A tick adds the increment to the counter, carrying nanoseconds into seconds (R259). -/
theorem State.timeTick_clep {s : State} (hns : s.clep.ns < 1000000000) (hfrac : s.clep.frac < 2 ^ 32) (hsec : s.clep.sec + 1 < 2 ^ 48)
    (h0 : 0 ≤ s.tickInc) (h1 : s.tickInc < 1000000000 * 2 ^ 32) :
    s.timeTick.clep.units = s.clep.units + s.tickInc ∧ s.timeTick.clep.ns < 1000000000 ∧ s.timeTick.clep.frac < 2 ^ 32 := by
  simp only [State.timeTick, Clep.units, State.p_clep]
  generalize s.tickInc = inc at *
  by_cases hw : 1000000000 ≤ (((s.clep.ns * 2 ^ 32 + s.clep.frac : Nat) : Int) + inc).toNat / 2 ^ 32
  · simp only [hw, decide_true, if_true]
    omega
  · simp only [hw, decide_false, Bool.false_eq_true, if_false]
    omega

/-- The ticks that remain of a slew count down, and stay at 0 (R265). -/
theorem State.timeTick_slew (s : State) : s.timeTick.g TIME_SLEW_CNT.CNT = s.g TIME_SLEW_CNT.CNT - 1 := by
  have hlt : s.g TIME_SLEW_CNT.CNT < 2 ^ TIME_SLEW_CNT.CNT.width := FRef.get_lt _ _
  have hfits : TIME_SLEW_CNT.CNT.fits := by simp [FRef.fits]
  rw [State.g, s.timeTick_rd]
  exact (s.g_p_same TIME_SLEW_CNT.CNT hfits _).trans (Nat.mod_eq_of_lt (by omega))

/-- Settles O6: the step is `State.timeTick`. -/
theorem idleStepIsATick : Obligations.IdleStepIsATick := by
  unfold Obligations.IdleStepIsATick
  intro s hp ha hns hfrac hsec h0 h1
  obtain ⟨hunits, hns', hfrac'⟩ := State.timeTick_clep hns hfrac hsec h0 h1
  refine ⟨s.timeTick, step_idle hp ha, hunits, hns', hfrac', s.timeTick_slew, fun k hk => ?_, ?_⟩
  · rw [s.timeTick_rd, s.rd_p_ne]
    simpa using hk
  · exact s.timeTick_frame

end Sys2Proof.Machine
end

section
/-! PROOF of ResetQueue, ResetValues (R45) and HeaderRoundTrip (R96). -/

namespace Sys2Proof.Machine

/-- Settles O5: at reset every table is empty. -/
theorem resetQueue : Obligations.ResetQueue := by
  unfold Obligations.ResetQueue
  exact ⟨fun c hc => absurd hc List.not_mem_nil, rfl, rfl, rfl⟩

theorem reset_evPend : ∀ k < 512, State.reset.evPend k = false := by decide +kernel

theorem reset_dom : ∀ d, 1 ≤ d → d < 16 → State.reset.dom d = dsOff := by
  have table : ∀ d < 16, 1 ≤ d → State.reset.dom d = dsOff := by decide +kernel
  exact fun d h1 h16 => table d h16 h1

/-- Settles O60, by the reset words of the rows that the offsets name. -/
theorem resetValues : Obligations.ResetValues := by
  unfold Obligations.ResetValues
  refine ⟨?_, ?_, ?_, reset_evPend, rfl, reset_dom, ?_, ?_, ?_, ?_, fun i => rfl, rfl, rfl⟩
  all_goals decide +kernel

/-! ### Bytes of a number -/

@[simp] theorem bytesLE_length (n v : Nat) : (bytesLE n v).length = n := by simp [bytesLE]

@[simp] theorem bytesBE_length (n v : Nat) : (bytesBE n v).length = n := by simp [bytesBE]

theorem bytesLE_succ (n v : Nat) : bytesLE (n + 1) v = BitVec.ofNat 8 v :: bytesLE n (v / 256) := by
  simp only [bytesLE, List.range_succ_eq_map, List.map_cons, List.map_map, Nat.mul_zero, Nat.pow_zero, Nat.div_one, List.cons.injEq, true_and]
  refine List.map_congr_left fun i _ => ?_
  rw [Function.comp_apply, Nat.div_div_eq_div_mul, Nat.succ_eq_add_one, Nat.mul_add, Nat.pow_add, Nat.mul_comm]

/-- Bytes spell the number they were made of, as far as they reach. -/
theorem natLE_bytesLE (n v : Nat) : natLE (bytesLE n v) = v % 256 ^ n := by
  induction n generalizing v with
  | zero => simp [bytesLE, natLE, Nat.mod_one]
  | succ n ih => rw [bytesLE_succ, natLE, ih, BitVec.toNat_ofNat, Nat.pow_succ' (n := n), Nat.mod_mul]

theorem natBE_bytesBE (n v : Nat) : natBE (bytesBE n v) = v % 256 ^ n := by
  rw [natBE, bytesBE, List.reverse_reverse, natLE_bytesLE]

/-! ### Reading the fields of a list of bytes -/

theorem beAt_head (n v : Nat) (r : List Byte) : beAt (bytesBE n v ++ r) 0 n = v % 256 ^ n := by
  rw [beAt, slice, List.drop_zero, List.take_left' (bytesBE_length n v), bytesBE_length, Nat.sub_self, List.replicate_zero,
    List.append_nil, natBE_bytesBE]

theorem beAt_skip {m i : Nat} (h : m ≤ i) (u n : Nat) (r : List Byte) : beAt (bytesBE m u ++ r) i n = beAt r (i - m) n := by
  have hd : (bytesBE m u ++ r).drop i = r.drop (i - m) := by
    rw [List.drop_append, List.drop_eq_nil_of_le (by simpa using h), bytesBE_length, List.nil_append]
  rw [beAt, beAt, slice, slice, hd]

theorem bitOf_eq_of {x k : Nat} {b : Bool} (h : x / 2 ^ k % 2 = b2n b) : bitOf x k = b := by
  rw [bitOf, Nat.testBit_eq_decide_div_mod_eq, h]
  cases b <;> rfl

theorem b2n_le (b : Bool) : b2n b ≤ 1 := by cases b <;> decide

/-- Settles O22: each field's bytes are read where they were written, and a field that shares its bytes is cut out of them. -/
theorem headerRoundTrip : Obligations.HeaderRoundTrip := by
  unfold Obligations.HeaderRoundTrip
  intro f hf
  obtain ⟨hdst, hsrc, hcls, htyp, hflow, hseq, hlen, hlen', hhops, han, hrescorr, hpn, hturns, hepoch⟩ := of_decide_eq_true hf
  have hplaneB := b2n_le f.planeB
  have hwest := b2n_le f.west
  have hsec := b2n_le f.sec
  have hwork := b2n_le f.work
  simp only [decHeader, encHeader, hdr30, List.append_assoc, beAt_skip, beAt_head, bitsOf, Nat.reduceLeDiff, Nat.reduceSub, Frame.mk.injEq,
    and_true]
  refine ⟨?_, ?_, ?_, ?_, ?_, bitOf_eq_of ?_, bitOf_eq_of ?_, ?_, ?_, ?_, ?_, ?_, ?_, ?_, bitOf_eq_of ?_, bitOf_eq_of ?_, ?_⟩
  all_goals omega

end Sys2Proof.Machine
end

section
/-! What raising and counting leave, whatever the event and the counter: every store of the state beside the registers, Sump and the frames
offered, and the reset request for a class below GRAVE. -/

namespace Sys2Proof.Machine

/-- The stores that no event and no counter changes. -/
abbrev State.SameStores (s t : State) : Prop :=
  t.pending = s.pending ∧ t.latches = s.latches ∧ t.staging = s.staging ∧ t.held = s.held ∧ t.resp = s.resp ∧ t.freeCtr = s.freeCtr ∧
    t.clep = s.clep ∧ t.power = s.power ∧ t.pts = s.pts ∧ t.pins = s.pins ∧ t.jets = s.jets ∧ t.cst = s.cst ∧ t.can = s.can ∧
    t.sec = s.sec ∧ t.fh = s.fh ∧ t.cyc = s.cyc ∧ t.flow = s.flow ∧ t.brg = s.brg ∧ t.usb = s.usb ∧ t.feeds = s.feeds ∧
    t.boot = s.boot ∧ t.upd = s.upd ∧ t.links.ports = s.links.ports

theorem State.sameStores_of_bare {s t : State} (h : t.bare = s.bare) : s.SameStores t := by
  simp only [State.bare, State.mk.injEq, Links.mk.injEq] at h
  simp only [State.SameStores, h, and_self]

/-- An operation that keeps the bare state and, of class below GRAVE, asks for no reset. -/
structure Quiet (s t : State) : Prop where
  bare : t.bare = s.bare
  resetReq : t.resetReq = s.resetReq

namespace Quiet

theorem refl (s : State) : Quiet s s := ⟨rfl, rfl⟩

theorem trans {s t u : State} (a : Quiet s t) (b : Quiet t u) : Quiet s u := ⟨b.bare.trans a.bare, b.resetReq.trans a.resetReq⟩

theorem setPend (s : State) (ev cls : Nat) : Quiet s (s.setPend ev cls) := by
  refine ⟨?_, s.setPend_resetReq ev cls⟩
  unfold State.setPend
  dsimp only
  generalize (if s.evPend ev = true then max (s.evKept ev) cls else cls) = k
  split <;> rfl

theorem of_raisedWith {s : State} {r : State × List (Nat × Nat)} (h : RaisedWith s r) : Quiet s r.1 := ⟨h.1.bare, h.2.2⟩

theorem react (s : State) (k : Nat) : Quiet s (s.react k) := ⟨(Raised.react s k).bare, s.react_resetReq k⟩

/-- Raising an event of class below GRAVE, up to `fuel` deep. -/
theorem raiseN (fuel : Nat) : ∀ (s : State) (ev cls rep : Nat), cls < 4 → Quiet s (State.raiseN fuel s ev cls rep) := by
  induction fuel with
  | zero => exact fun s ev cls rep _ => refl s
  | succ n ih =>
    intro s ev cls rep hc
    have follow : ∀ (l : List (Nat × Nat)) (t : State), smallEvents l → Quiet t (l.foldl (fun s e => State.raiseN n s e.1 e.2 1) t) := by
      intro l
      induction l with
      | nil => exact fun t _ => refl t
      | cons e l il =>
        intro t h
        have he : e.2 < 4 := by have := (h e List.mem_cons_self).2; omega
        exact (ih t e.1 e.2 1 he).trans (il _ fun x hx => h x (List.mem_cons_of_mem _ hx))
    have route : ∀ (t : State) (b : Bool) (r : State × List (Nat × Nat)), RaisedWith t r → RaisedWith t (if b = true then r else (t, [])) := by
      intro t b r h
      cases b
      · exact RaisedWith.nil (Raised.refl t) rfl
      · exact h
    simp only [State.raiseN]
    generalize hcl : max cls (min 3 (s.g (EVT_ROUTE.RAISE ev))) = c
    have hgrave : ¬ c = clGrave := by simp only [clGrave]; omega
    have q0 := setPend s ev c
    generalize s.setPend ev c = s0 at *
    have r1 := route s0 (s0.flag (EVT_ROUTE.LOG ev) && !(ev == evSump 2 || ev == evSump 3)) _ (RaisedWith.offerLog s0 ev c rep)
    generalize (if (s0.flag (EVT_ROUTE.LOG ev) && !(ev == evSump 2 || ev == evSump 3)) = true then s0.offerLog ev c rep else (s0, [])) = p1 at *
    have r2 := route p1.1 (p1.1.flag (EVT_ROUTE.ALARM ev) && !(ev == evSump 2 || ev == evSump 3)) _ (RaisedWith.offerAlarm p1.1 ev c)
    generalize (if (p1.1.flag (EVT_ROUTE.ALARM ev) && !(ev == evSump 2 || ev == evSump 3)) = true then p1.1.offerAlarm ev c else (p1.1, [])) = p2 at *
    have r3 := route p2.1 (p2.1.flag (EVT_ROUTE.SNAP ev)) _ (RaisedWith.snapLocal p2.1 snEvt p2.1.fns48 ev c)
    generalize (if p2.1.flag (EVT_ROUTE.SNAP ev) = true then p2.1.snapLocal snEvt p2.1.fns48 ev c else (p2.1, [])) = p3 at *
    rw [if_neg hgrave]
    have q3 : Quiet s p3.1 := ((q0.trans (of_raisedWith r1)).trans (of_raisedWith r2)).trans (of_raisedWith r3)
    have small := (r1.2.1.append r2.2.1).append r3.2.1
    refine q3.trans (Quiet.trans ?_ (follow _ _ small))
    split
    · exact react _ _
    · split
      · exact react _ _
      · exact refl _

theorem raise (s : State) (ev : Nat) {cls : Nat} (h : cls < 4) : Quiet s (s.raise ev cls) := raiseN 4 s ev cls 1 h

theorem raiseIf (s : State) (b : Bool) (ev : Nat) {cls : Nat} (h : cls < 4) : Quiet s (s.raiseIf b ev cls) := by
  cases b
  · exact refl s
  · exact raise s ev h

theorem count (s : State) (off : Nat) : Quiet s (s.count off) := by
  have hb : Quiet s (s.bump off).1 := ⟨s.bump_bare off, s.bump_resetReq off⟩
  unfold State.count
  generalize s.bump off = r at *
  obtain ⟨t, b⟩ := r
  cases b
  · exact hb
  · exact hb.trans (raise t _ (by decide))

theorem countIf (s : State) (b : Bool) (off : Nat) : Quiet s (s.countIf b off) := by
  cases b
  · exact refl s
  · exact count s off

theorem cfgErr (s : State) (off ev : Nat) : Quiet s (s.cfgErr off ev) := (count s off).trans (raise _ ev (by decide))

theorem p (s : State) (f : FRef) (v : Nat) : Quiet s (s.p f v) := ⟨rfl, rfl⟩

theorem wr (s : State) (k : Nat) (w : Word) : Quiet s (s.wr k w) := ⟨rfl, rfl⟩

theorem wr64 (s : State) (k v : Nat) : Quiet s (s.wr64 k v) := ⟨rfl, rfl⟩

theorem firstError (s : State) (m : Master) (kind : Nat) (guard : Bool) (addr : Nat) : Quiet s (s.firstError m kind guard addr) := by
  unfold State.firstError
  refine Quiet.trans ?_ (count _ _)
  split
  · exact refl s
  · exact (p s _ _).trans ((p _ _ _).trans ((p _ _ _).trans ((p _ _ _).trans ((p _ _ _).trans ((wr64 _ _ _).trans (wr64 _ _ _))))))

theorem busFault (s : State) (m : Master) (kind addr : Nat) : Quiet s (s.busFault m kind addr) := by
  unfold State.busFault
  dsimp only
  split
  · exact (firstError s m kind false addr).trans (raise _ _ (by decide))
  · exact firstError s m kind false addr

theorem stores {s t : State} (h : Quiet s t) : s.SameStores t := State.sameStores_of_bare h.bare

end Quiet

@[simp] theorem clEvent_lt : clEvent < 4 := by decide
@[simp] theorem clNote_lt : clNote < 4 := by decide
@[simp] theorem clDegraded_lt : clDegraded < 4 := by decide
@[simp] theorem clSevere_lt : clSevere < 4 := by decide

@[simp] theorem State.raise_stores (s : State) (ev : Nat) {cls : Nat} (h : cls < 4) : s.SameStores (s.raise ev cls) :=
  (Quiet.raise s ev h).stores
@[simp] theorem State.raise_noReset (s : State) (ev : Nat) {cls : Nat} (h : cls < 4) : (s.raise ev cls).resetReq = s.resetReq :=
  (Quiet.raise s ev h).resetReq
@[simp] theorem State.raiseIf_stores (s : State) (b : Bool) (ev : Nat) {cls : Nat} (h : cls < 4) : s.SameStores (s.raiseIf b ev cls) :=
  (Quiet.raiseIf s b ev h).stores
@[simp] theorem State.raiseIf_noReset (s : State) (b : Bool) (ev : Nat) {cls : Nat} (h : cls < 4) :
    (s.raiseIf b ev cls).resetReq = s.resetReq := (Quiet.raiseIf s b ev h).resetReq
@[simp] theorem State.count_stores (s : State) (off : Nat) : s.SameStores (s.count off) := (Quiet.count s off).stores
@[simp] theorem State.count_noReset (s : State) (off : Nat) : (s.count off).resetReq = s.resetReq := (Quiet.count s off).resetReq
@[simp] theorem State.countIf_stores (s : State) (b : Bool) (off : Nat) : s.SameStores (s.countIf b off) := (Quiet.countIf s b off).stores
@[simp] theorem State.countIf_noReset (s : State) (b : Bool) (off : Nat) : (s.countIf b off).resetReq = s.resetReq :=
  (Quiet.countIf s b off).resetReq
@[simp] theorem State.cfgErr_stores (s : State) (off ev : Nat) : s.SameStores (s.cfgErr off ev) := (Quiet.cfgErr s off ev).stores
@[simp] theorem State.cfgErr_noReset (s : State) (off ev : Nat) : (s.cfgErr off ev).resetReq = s.resetReq := (Quiet.cfgErr s off ev).resetReq
@[simp] theorem State.firstError_stores (s : State) (m : Master) (k : Nat) (b : Bool) (a : Nat) : s.SameStores (s.firstError m k b a) :=
  (Quiet.firstError s m k b a).stores
@[simp] theorem State.firstError_noReset (s : State) (m : Master) (k : Nat) (b : Bool) (a : Nat) :
    (s.firstError m k b a).resetReq = s.resetReq := (Quiet.firstError s m k b a).resetReq
@[simp] theorem State.busFault_stores (s : State) (m : Master) (k a : Nat) : s.SameStores (s.busFault m k a) :=
  (Quiet.busFault s m k a).stores
@[simp] theorem State.busFault_noReset (s : State) (m : Master) (k a : Nat) : (s.busFault m k a).resetReq = s.resetReq :=
  (Quiet.busFault s m k a).resetReq

/-! ### Registers after an event -/

/-- A register that no event changes. -/
def fixedKey (k : Nat) : Bool := !isPendKey k && !isRaiseKey k

theorem fixedKey_iff {k : Nat} : fixedKey k = true ↔ isPendKey k = false ∧ isRaiseKey k = false := by simp [fixedKey]

theorem State.raise_rd (s : State) {ev : Nat} (cls : Nat) {k : Nat} (hev : ev < 512) (hk : fixedKey k = true) :
    (s.raise ev cls).rd k = s.rd k := (s.raise_raised cls hev).rd k (fixedKey_iff.1 hk).1 (fixedKey_iff.1 hk).2

theorem State.raise_g (s : State) {ev : Nat} (cls : Nat) {f : FRef} (hev : ev < 512) (hk : fixedKey f.off = true) :
    (s.raise ev cls).g f = s.g f := by rw [State.g, State.g, s.raise_rd cls hev hk]

theorem State.raise_flag (s : State) {ev : Nat} (cls : Nat) {f : FRef} (hev : ev < 512) (hk : fixedKey f.off = true) :
    (s.raise ev cls).flag f = s.flag f := by rw [State.flag, State.flag, s.raise_g cls hev hk]

/-- A pending bit stays as another event is raised. -/
theorem State.raise_evPend (s : State) {ev e : Nat} (cls : Nat) (hev : ev < 512) (he : e < 512) (h : s.evPend e = true) :
    (s.raise ev cls).evPend e = true := (s.raise_raised cls hev).pend e he h

/-- A pending bit stays as a register beside those of the pending bits is written. -/
theorem State.wr_evPend (s : State) {k : Nat} (w : Word) (hk : isPendKey k = false) {e : Nat} (he : e < 512) :
    (s.wr k w).evPend e = s.evPend e := by
  have hne : EVT_PEND.off (e / 32) ≠ k := by
    rintro rfl
    rw [Raised.pend_key he] at hk
    simp at hk
  rw [State.evPend, s.rd_wr_ne w hne, ← State.evPend]

/-- A counter short of its end counts and does nothing else (R43). -/
theorem State.count_eq (s : State) (off : Nat) (h : (s.rd off).toNat + 1 < 0xFFFFFFFF) :
    s.count off = s.wr off (BitVec.ofNat 32 ((s.rd off).toNat + 1)) := (s.count_rd off h).2

/-- A counter short of its end reads one more once it has counted. -/
theorem State.count_toNat (s : State) (off : Nat) (h : (s.rd off).toNat + 1 < 0xFFFFFFFF) :
    ((s.count off).rd off).toNat = (s.rd off).toNat + 1 := by
  rw [(s.count_rd off h).1, BitVec.toNat_ofNat, Nat.mod_eq_of_lt (by omega)]

end Sys2Proof.Machine
end

section
/-! PROOF of GuardedFields (R34). Of the fields of a row only one covers a bit, so that the bit of a word that is read or written is that
field's part, which its guard decides. -/

namespace Sys2Proof.Machine

variable {s : State} {c off : Nat} {r : RegRow} {f : FieldDef} {i : Nat}

theorem State.maskedWrite_covered (hr : regRow off = some r) (hf : f ∈ r.fields) (hlo : f.lo ≤ i) (hhi : i ≤ f.hi) (old wv : Word) :
    (s.maskedWrite c off r old wv).1.getLsbD i = (decide (i < 32) && (s.writtenPart c off old wv f).testBit i) := by
  rw [s.maskedWrite_getLsbD, RegRow.any_part_of_covered (regRow_layout hr).1 hf hlo hhi fun _ => s.writtenPart_outside c off old wv]

theorem State.maskedRead_covered (hr : regRow off = some r) (hf : f ∈ r.fields) (hlo : f.lo ≤ i) (hhi : i ≤ f.hi) (w : Word) :
    (s.maskedRead c off r w).1.getLsbD i = (decide (i < 32) && (s.readPart c off w f).testBit i) := by
  rw [s.maskedRead_getLsbD, RegRow.any_part_of_covered (regRow_layout hr).1 hf hlo hhi fun _ => s.readPart_outside c off w]

theorem fieldMask_testBit_of (hlo : f.lo ≤ i) (hhi : i ≤ f.hi) : (fieldMask f).testBit i = true := by
  rw [fieldMask_testBit]
  simp [hlo, hhi]

/-- No word has a bit beyond its 32. -/
theorem lt32_and_getLsbD (w : Word) (i : Nat) : (decide (i < 32) && w.getLsbD i) = w.getLsbD i := by
  by_cases h : i < 32
  · simp [h]
  · simp [BitVec.getLsbD_of_ge w i (by omega)]

/-- Settles O9: the field's part of the word, by its guard and its access code. -/
theorem guardedFields : Obligations.GuardedFields := by
  unfold Obligations.GuardedFields
  intro s c off r old wv f i hr hf hlo hhi
  have hm := fieldMask_testBit_of hlo hhi
  rw [State.maskedWrite_covered hr hf hlo hhi, State.maskedRead_covered hr hf hlo hhi]
  refine ⟨fun hc => ?_, fun hc => ⟨fun ha => ?_, fun ha => ?_, fun ha => ?_⟩⟩
  · simp [State.readPart, State.writtenPart, hc, hm, lt32_and_getLsbD, BitVec.testBit_toNat]
  · simp [State.readPart, State.writtenPart, hc, ha, hm, lt32_and_getLsbD, BitVec.testBit_toNat, fieldWrite]
  · simp [State.readPart, State.writtenPart, hc, ha, hm, lt32_and_getLsbD, BitVec.testBit_toNat, fieldWrite]
  · simp only [State.writtenPart, hc, ha, if_true, fieldWrite, sub_and_testBit, Nat.testBit_and, hm, Bool.and_true, BitVec.testBit_toNat,
      ← Bool.and_assoc, lt32_and_getLsbD]

end Sys2Proof.Machine
end

section
/-! What a write of a register by a master comes to where it reaches its block, said once for a register of one word (R37) and once for the
highest word of a multi-word value (R42), for a writer of any class that no guard of the register stops. -/

namespace Sys2Proof.Machine

/-! ### Rows -/

/-- The row of an offset; an empty one where no register is. -/
def rowAt (off : Nat) : RegRow := (regRow off).getD ⟨0, [], [], none⟩

theorem rowAt_eq {off : Nat} {r : RegRow} (h : regRow off = some r) : rowAt off = r := by rw [rowAt, h, Option.getD_some]

/-- A register of the map with no guard above class `c` and some field that can be written. -/
def regOpen (off c : Nat) : Bool :=
  (regRow off).isSome && (rowAt off).openTo c && (rowAt off).fields.any (fun f => f.acc != .ro)

/-- A register of one word with no guard above class `c` and some field that can be written. -/
def regAlone (off c : Nat) : Bool := regOpen off c && (mwGroup off).isNone

theorem regOpen_row {off c : Nat} (h : regOpen off c = true) : regRow off = some (rowAt off) := by
  simp only [regOpen, Bool.and_eq_true] at h
  obtain ⟨r, hr⟩ := Option.isSome_iff_exists.1 h.1.1
  rw [rowAt_eq hr, hr]

theorem regOpen_openTo {off c : Nat} (h : regOpen off c = true) : (rowAt off).openTo c = true := by
  simp only [regOpen, Bool.and_eq_true] at h
  exact h.1.2

theorem regOpen_any {off c : Nat} (h : regOpen off c = true) : (rowAt off).fields.any (fun f => f.acc != .ro) = true := by
  simp only [regOpen, Bool.and_eq_true] at h
  exact h.2

/-- A row open to a class is open to every higher class. -/
theorem RegRow.openTo_mono {r : RegRow} {c d : Nat} (h : r.openTo c = true) (hcd : c ≤ d) : r.openTo d = true := by
  refine List.all_eq_true.2 fun f hf => ?_
  have hc := List.all_eq_true.1 h f hf
  simp only [Bool.or_eq_true, Bool.and_eq_true, decide_eq_true_eq] at hc ⊢
  rcases hc with (h1 | h1) | h1
  · exact .inl (.inl h1)
  · exact .inl (.inr ⟨h1.1, by omega⟩)
  · exact .inr (by omega)

/-! ### A writer that no guard stops -/

/-- The writer reaches every field of the row. -/
def State.reachesAll (s : State) (c off : Nat) (r : RegRow) : Prop := ∀ f ∈ r.fields, s.reaches c off f.guard = true

theorem State.reachesAll_of_open {s : State} {c off : Nat} {r : RegRow} (h : r.openTo c = true) (h0 : c = 0 → s.remoteOpen off = true) :
    s.reachesAll c off r := by
  intro f hf
  have h1 := List.all_eq_true.1 h f hf
  have hopen : (c != 0 || s.remoteOpen off) = true := by
    by_cases hc : c = 0
    · simp [h0 hc]
    · simp [hc]
  cases hg : f.guard <;> simp [State.reaches, hopen, hg] at h1 ⊢ <;> omega

/-- What is put together from a part for each field, by a condition that holds of every field. -/
theorem foldl_reaches {α : Type} (l : List FieldDef) (p : FieldDef → Bool) (hp : ∀ f ∈ l, p f = true) (a : α) (g h : α → FieldDef → α) :
    l.foldl (fun acc f => if p f then g acc f else h acc f) a = l.foldl g a := by
  induction l generalizing a with
  | nil => rfl
  | cons f l ih =>
    rw [List.foldl_cons, List.foldl_cons, if_pos (hp f List.mem_cons_self)]
    exact ih (fun x hx => hp x (List.mem_cons_of_mem f hx)) _

theorem State.maskedWrite_all {s : State} {c off : Nat} {r : RegRow} (h : s.reachesAll c off r) (old wv : Word) :
    s.maskedWrite c off r old wv = (r.newWord old wv, false) := by
  rw [State.maskedWrite, foldl_reaches r.fields (fun f => s.reaches c off f.guard) h, RegRow.newWord]
  exact List.foldl_hom (fun a => (a, false)) (g₁ := fun a f => a ||| BitVec.ofNat 32 (fieldWrite f old.toNat wv.toNat))
    (g₂ := fun acc f => (acc.1 ||| BitVec.ofNat 32 (fieldWrite f old.toNat wv.toNat), acc.2)) (fun a f => rfl)

theorem State.effectiveWrite_all {s : State} {c off : Nat} {r : RegRow} (h : s.reachesAll c off r) (wv : Word) :
    s.effectiveWrite c off r wv = r.effWord wv := by
  rw [State.effectiveWrite, foldl_reaches r.fields (fun f => s.reaches c off f.guard) h, RegRow.effWord]

theorem State.reachesAny_all {s : State} {c off : Nat} {r : RegRow} (h : s.reachesAll c off r)
    (hw : r.fields.any (fun f => f.acc != .ro) = true) : s.reachesAny c off r = true := by
  obtain ⟨f, hf, ha⟩ := List.any_eq_true.1 hw
  exact List.any_eq_true.2 ⟨f, hf, by rw [h f hf, Bool.and_true]; exact ha⟩

theorem State.serves_all {s : State} {m : Master} {off c : Nat} (h : s.serves m off c) {o : Nat} (ho : regOpen o c = true)
    (hblock : mapBit o = mapBit off) : s.reachesAll (s.writeClass m off) o (rowAt o) := by
  obtain ⟨_, _, _, hcls, hremote, _⟩ := h
  refine State.reachesAll_of_open (RegRow.openTo_mono (regOpen_openTo ho) hcls) fun h0 => ?_
  rw [State.remoteOpen, hblock]
  exact hremote h0

theorem State.serves_wordWrite {s : State} {m : Master} {off c : Nat} (h : s.serves m off c) {o : Nat} (ho : regOpen o c = true)
    (hblock : mapBit o = mapBit off) (v : Word) :
    s.wordWrite m (s.writeClass m off) o v = ((rowAt o).newWord (s.storedWord m o) v, (rowAt o).effWord v, false) := by
  have hall := State.serves_all h ho hblock
  simp only [State.wordWrite, regOpen_row ho, State.maskedWrite_all hall, State.effectiveWrite_all hall]

theorem State.serves_noReset {s : State} {m : Master} {off c : Nat} (h : s.serves m off c) : s.resetReq = none := by
  obtain ⟨_, _, _, _, _, hreset⟩ := h
  exact hreset

/-! ### The write of one word -/

/-- A write of one word as its block takes it. -/
def State.regWr (s : State) (m : Master) (off : Nat) (val : Word) : RegWr :=
  ⟨m, off, s.keyOfReg m off, (s.entryOf m.mid.val off).getD 0, (rowAt off).newWord (s.storedWord m off) val, (rowAt off).effWord val, [], []⟩

theorem State.serves_regWrite {s : State} {m : Master} {off c : Nat} (h : s.serves m off c) (ho : regAlone off c = true) (nd : Nat)
    (val : Word) : s.regWrite m nd off 4 val = s.blkTop (s.regWr m off val) := by
  simp only [regAlone, Bool.and_eq_true, Option.isNone_iff_eq_none] at ho
  obtain ⟨hopen, halone⟩ := ho
  have hreg := State.serves_reg h (regOpen_row hopen)
  have hall := State.serves_all h hopen rfl
  have hany := State.reachesAny_all hall (regOpen_any hopen)
  obtain ⟨_, _, hgate, _, _, _⟩ := id h
  simp only [State.regWrite, State.regWith, hreg, hgate, ne_eq, not_true_eq_false, if_false, State.regPut, halone, Option.filter_none,
    Option.isSome_none, Bool.false_eq_true, State.serves_wordWrite h hopen rfl val, hany, if_true, false_and]
  rfl

/-- A command that writes one register of one word: its block's effect, and the answer. -/
theorem State.serves_regCmd {s : State} {m : Master} {off c : Nat} (h : s.serves m off c) (ho : regAlone off c = true) (val : Word) :
    s.regCmd m off 4 val = (s.blkTop (s.regWr m off val)).2.answer m (s.blkTop (s.regWr m off val)).1 [] := by
  rw [State.regCmd, if_neg (by rw [h.1]; exact Bool.false_ne_true)]
  dsimp only
  rw [State.serves_regWrite h ho]

/-- How a command that writes a register of one word ends, by its block's effect. -/
theorem State.serves_finish {s : State} {m : Master} {off c : Nat} (h : s.serves m off c) (ho : regAlone off c = true) {val : Word}
    {st : Nat} {u : State} (hb : s.blkTop (s.regWr m off val) = (st, u)) (hr : u.resetReq = none) (hp : u.pending = s.pending) :
    s.finish (s.regCmd m off 4 val) = u.answer m st [] := by
  rw [State.serves_regCmd h ho, hb, State.finish_none (by rw [State.answer_resetReq, hr]), ← hp]
  rfl

end Sys2Proof.Machine
end

section
/-! The fields of a written word: what stands in the new word and in what the block sees, by the access code of the field. -/

namespace Sys2Proof.Machine

/-- Every field of the map lies within 32 bits. -/
theorem blockRows_bits (win : Nat) : ∀ r ∈ blockRows win, ∀ f ∈ r.fields, f.hi < 32 := by
  unfold blockRows
  split <;> decide +kernel

theorem regRow_bits {off : Nat} {r : RegRow} (h : regRow off = some r) : ∀ f ∈ r.fields, f.hi < 32 :=
  blockRows_bits (off / 2 ^ 16) r (List.mem_of_find?_eq_some h)

/-- A bit that a field covers has that field's part of the written word alone. -/
theorem RegRow.newWord_covered {off : Nat} {r : RegRow} (hr : regRow off = some r) {f : FieldDef} (hf : f ∈ r.fields) {i : Nat}
    (hlo : f.lo ≤ i) (hhi : i ≤ f.hi) (old wv : Word) :
    (r.newWord old wv).getLsbD i = (fieldWrite f old.toNat wv.toNat).testBit i := by
  have h32 : i < 32 := Nat.lt_of_le_of_lt hhi (regRow_bits hr f hf)
  rw [← BitVec.testBit_toNat, r.newWord_testBit,
    RegRow.any_part_of_covered (regRow_layout hr).1 hf hlo hhi fun e he => fieldWrite_outside e _ _ _ he, decide_eq_true h32, Bool.true_and]

/-- A bit of no field is 0 in the written word. -/
theorem RegRow.newWord_reserved {r : RegRow} {i : Nat} (hi : r.fields.all (fun f => !(decide (f.lo ≤ i) && decide (i ≤ f.hi))) = true)
    (old wv : Word) : (r.newWord old wv).getLsbD i = false := by
  rw [← BitVec.testBit_toNat, r.newWord_testBit, any_part_reserved hi fun f hf => fieldWrite_outside f _ _ _ hf, Bool.and_false]

theorem fieldWrite_rw {f : FieldDef} (ha : f.acc = .rw) {i : Nat} (hlo : f.lo ≤ i) (hhi : i ≤ f.hi) (old wv : Nat) :
    (fieldWrite f old wv).testBit i = wv.testBit i := by
  simp [fieldWrite, ha, fieldMask_testBit_of hlo hhi]

theorem fieldWrite_ro {f : FieldDef} (ha : f.acc = .ro) {i : Nat} (hlo : f.lo ≤ i) (hhi : i ≤ f.hi) (old wv : Nat) :
    (fieldWrite f old wv).testBit i = old.testBit i := by
  simp [fieldWrite, ha, fieldMask_testBit_of hlo hhi]

/-- The register at an offset has a field of access code `a` in which the place `g` lies. -/
def hasField (off : Nat) (a : Acc) (g : FRef) : Bool :=
  (regRow off).isSome && (rowAt off).fields.any (fun f => f.acc == a && decide (f.lo ≤ g.lsb) && decide (g.lsb + g.width ≤ f.hi + 1))

theorem hasField_elim {off : Nat} {a : Acc} {g : FRef} (h : hasField off a g = true) :
    regRow off = some (rowAt off) ∧ ∃ f ∈ (rowAt off).fields, f.acc = a ∧ f.lo ≤ g.lsb ∧ g.lsb + g.width ≤ f.hi + 1 := by
  simp only [hasField, Bool.and_eq_true, List.any_eq_true, beq_iff_eq, decide_eq_true_eq] at h
  obtain ⟨hsome, f, hf, ⟨ha, hlo⟩, hhi⟩ := h
  obtain ⟨r, hr⟩ := Option.isSome_iff_exists.1 hsome
  exact ⟨by rw [rowAt_eq hr, hr], f, hf, ha, hlo, hhi⟩

/-- Two words that agree on the bits of a place agree in its value. -/
theorem FRef.get_congr {g : FRef} {v w : Word} (h : ∀ i, g.lsb ≤ i → i < g.lsb + g.width → v.getLsbD i = w.getLsbD i) : g.get v = g.get w := by
  refine Nat.eq_of_testBit_eq fun i => ?_
  rw [FRef.get, FRef.get, bitsOf_testBit, bitsOf_testBit]
  by_cases hi : i < g.width
  · rw [BitVec.testBit_toNat, BitVec.testBit_toNat, h _ (by omega) (by omega)]
  · simp [hi]

/-- A field that can be written takes the written value. -/
theorem newWord_get_rw {off : Nat} {g : FRef} (h : hasField off .rw g = true) (old wv : Word) :
    g.get ((rowAt off).newWord old wv) = g.get wv := by
  obtain ⟨hr, f, hf, ha, hlo, hhi⟩ := hasField_elim h
  refine FRef.get_congr fun i h1 h2 => ?_
  rw [RegRow.newWord_covered hr hf (by omega) (by omega), fieldWrite_rw ha (by omega) (by omega), BitVec.testBit_toNat]

/-- A field that can only be read keeps its value. -/
theorem newWord_get_ro {off : Nat} {g : FRef} (h : hasField off .ro g = true) (old wv : Word) :
    g.get ((rowAt off).newWord old wv) = g.get old := by
  obtain ⟨hr, f, hf, ha, hlo, hhi⟩ := hasField_elim h
  refine FRef.get_congr fun i h1 h2 => ?_
  rw [RegRow.newWord_covered hr hf (by omega) (by omega), fieldWrite_ro ha (by omega) (by omega), BitVec.testBit_toNat]

/-- A written field reaches its block. -/
theorem effWord_get {off : Nat} {a : Acc} {g : FRef} (h : hasField off a g = true) (wv : Word) :
    g.get ((rowAt off).effWord wv) = g.get wv := by
  obtain ⟨_, f, hf, _, hlo, hhi⟩ := hasField_elim h
  exact (rowAt off).get_effWord wv g (List.any_eq_true.2 ⟨f, hf, by simp [hlo, hhi]⟩)

/-! ### Registers that stand under their own offset -/

/-- The register is no selector and no master selects an entry of it. -/
def ownKey (off : Nat) : Bool :=
  !isSel off && decide (off < 0x080000 ∨ 0x0A0000 ≤ off ∧ off < 0x0C0000 ∨ 0x120000 ≤ off ∧ off < 0x140000 ∨ 0x140400 ≤ off ∧ off < 0x1C0000 ∨
    0x1D0000 ≤ off ∨ off = 0x080000)

theorem State.entryOf_ownKey (s : State) (mid : Nat) {off : Nat} (h : ownKey off = true) : s.entryOf mid off = none := by
  simp only [ownKey, Bool.and_eq_true, decide_eq_true_eq] at h
  obtain ⟨_, h⟩ := h
  unfold State.entryOf
  simp (disch := omega) only [↓if_neg]

theorem State.keyOfReg_ownKey (s : State) (m : Master) {off : Nat} (h : ownKey off = true) : s.keyOfReg m off = off := by
  have hsel : isSel off = false := by
    simp only [ownKey, Bool.and_eq_true, Bool.not_eq_true'] at h
    exact h.1
  simp only [State.keyOfReg, hsel, s.entryOf_ownKey m.mid.val h, Bool.false_eq_true, if_false]

theorem State.storedWord_ownKey (s : State) (m : Master) {off : Nat} (h : ownKey off = true) : s.storedWord m off = s.rd off := by
  have hn : ¬ (off = PNT_ATTR_DATA.off ∨ (0x1C0000 ≤ off ∧ off < 0x1D0000 ∧ 0x1000 ≤ off % 0x2000)) := by
    simp only [ownKey, Bool.and_eq_true, decide_eq_true_eq] at h
    simp only [PNT_ATTR_DATA.off]
    omega
  rw [State.storedWord, if_neg hn, s.keyOfReg_ownKey m h]

/-- The write of a register that stands under its own offset. -/
theorem State.regWr_ownKey (s : State) (m : Master) {off : Nat} (h : ownKey off = true) (val : Word) :
    s.regWr m off val = ⟨m, off, off, 0, (rowAt off).newWord (s.rd off) val, (rowAt off).effWord val, [], []⟩ := by
  rw [State.regWr, s.keyOfReg_ownKey m h, s.entryOf_ownKey _ h, s.storedWord_ownKey m h, Option.getD_none]

end Sys2Proof.Machine
end

section
/-! PROOF of RegisterWriteStores (R28, R37) and HeldWriteCompletes (R10, R38). -/

namespace Sys2Proof.Machine

/-- A register that only stores is a register of one word under its own offset, whose fields can be read and written or only read. -/
theorem plainRegs_row : ∀ off ∈ plainRegs, regAlone off 2 = true ∧ ownKey off = true ∧
    (∀ f ∈ (rowAt off).fields, f.acc = .rw ∨ f.acc = .ro) := by decide +kernel

/-- Its block stores the word. -/
theorem State.blkTop_plainRegs (s : State) {r : RegWr} (h : r.off ∈ plainRegs) : s.blkTop r = s.plain r := by
  simp only [plainRegs, List.mem_cons, List.not_mem_nil, or_false] at h
  rcases h with h | h | h | h | h | h <;>
    simp (decide := true) [State.blkTop, State.blkWrite, State.blkSump, State.blkUsbFeed, State.blkFh, h]

theorem State.plainRegs_blkTop (s : State) (m : Master) {off : Nat} (h : off ∈ plainRegs) (val : Word) :
    s.blkTop (s.regWr m off val) = (stOK, s.wr off ((rowAt off).newWord (s.rd off) val)) := by
  rw [s.regWr_ownKey m (plainRegs_row off h).2.1, s.blkTop_plainRegs h]
  rfl

theorem State.wr_answer_frame (s : State) (k : Nat) (w : Word) (m : Master) (st : Nat) (d : List Byte) :
    { (s.wr k w).answer m st d with regs := s.regs, resp := s.resp } = s := rfl

/-- Settles O10: the block stores the word that the access codes make. -/
theorem registerWriteStores : Obligations.RegisterWriteStores := by
  unfold Obligations.RegisterWriteStores
  intro m off val s r hoff hr hs
  obtain ⟨halone, _, hacc⟩ := plainRegs_row off hoff
  obtain rfl := rowAt_eq hr
  refine ⟨_, exec_registerWrite m off 4 val s, ?_⟩
  rw [State.serves_finish hs halone (s.plainRegs_blkTop m hoff val) (by rw [State.wr_resetReq, State.serves_noReset hs])
    (s.wr_pending _ _)]
  refine ⟨rfl, fun f hf i hlo hhi => ?_, fun i hi => ?_, fun k hk => ?_, State.wr_answer_frame ..⟩
  · rw [State.answer_rd, State.rd_wr_same, RegRow.newWord_covered hr hf hlo hhi]
    rcases hacc f hf with ha | ha
    · rw [fieldWrite_rw ha hlo hhi, if_pos ha, BitVec.testBit_toNat]
    · rw [fieldWrite_ro ha hlo hhi, if_neg (by simp [ha]), BitVec.testBit_toNat]
  · rw [State.answer_rd, State.rd_wr_same, RegRow.newWord_reserved hi]
  · rw [State.answer_rd, State.rd_wr_ne]
    simpa using hk

end Sys2Proof.Machine
end

section
/-! Reading a register or a field after a write, with side conditions that `decide` settles for places that are given by numbers. -/

namespace Sys2Proof.Machine

/-- The place `g` fits its word and shares no bit with the place `f`. -/
def FRef.sep (f g : FRef) : Bool :=
  decide (g.lsb + g.width ≤ 32) && (decide (g.off ≠ f.off) || decide (g.lsb + g.width ≤ f.lsb) || decide (f.lsb + f.width ≤ g.lsb))

theorem FRef.sep_elim {f g : FRef} (h : f.sep g = true) :
    g.fits ∧ (g.off ≠ f.off ∨ g.lsb + g.width ≤ f.lsb ∨ f.lsb + f.width ≤ g.lsb) := by
  simpa only [FRef.sep, FRef.fits, Bool.and_eq_true, Bool.or_eq_true, decide_eq_true_eq, or_assoc] using h

variable (s : State)

theorem State.g_p_sep {f g : FRef} (v : Nat) (h : f.sep g = true) : (s.p f v).g g = s.g g :=
  s.g_p_ne f g v (FRef.sep_elim h).1 (FRef.sep_elim h).2

theorem State.g_pb_sep {f g : FRef} (b : Bool) (h : f.sep g = true) : (s.pb f b).g g = s.g g := s.g_p_sep _ h

theorem State.flag_p_sep {f g : FRef} (v : Nat) (h : f.sep g = true) : (s.p f v).flag g = s.flag g := by
  rw [State.flag, State.flag, s.g_p_sep v h]

theorem State.flag_pb_sep {f g : FRef} (b : Bool) (h : f.sep g = true) : (s.pb f b).flag g = s.flag g := s.flag_p_sep _ h

theorem State.g_p_self {f : FRef} (v : Nat) (h : f.lsb + f.width ≤ 32) : (s.p f v).g f = v % 2 ^ f.width := s.g_p_same f h v

/-- A field reads as it was set, where the value fits. -/
theorem State.g_p_fit {f : FRef} {v : Nat} (hv : v < 2 ^ f.width) (h : f.lsb + f.width ≤ 32) : (s.p f v).g f = v := by
  rw [s.g_p_self v h, Nat.mod_eq_of_lt hv]

theorem State.flag_pb_self {f : FRef} (b : Bool) (h : f.lsb + 1 ≤ 32) (h1 : f.width = 1) : (s.pb f b).flag f = b :=
  s.flag_pb_same f (by rw [FRef.fits, h1]; exact h) h1 b

theorem State.rd_pb_ne {f : FRef} (b : Bool) {k : Nat} (h : k ≠ f.off) : (s.pb f b).rd k = s.rd k := s.rd_p_ne f _ h

theorem State.flag_wr_ne {k : Nat} (w : Word) {g : FRef} (h : g.off ≠ k) : (s.wr k w).flag g = s.flag g := by
  rw [State.flag, State.flag, s.g_wr_ne k w g h]

theorem State.g_wr_self {k : Nat} (w : Word) {g : FRef} (h : g.off = k) : (s.wr k w).g g = g.get w := by rw [State.g, h, s.rd_wr_same]

theorem State.flag_wr_self {k : Nat} (w : Word) {g : FRef} (h : g.off = k) : (s.wr k w).flag g = decide (g.get w ≠ 0) := by
  rw [State.flag, s.g_wr_self w h]

theorem State.g_wr64_ne (k v : Nat) {g : FRef} (h : g.off ≠ k ∧ g.off ≠ k + 4) : (s.wr64 k v).g g = s.g g := by
  rw [State.g, State.g, s.rd_wr64_ne k v h.1 h.2]

theorem State.flag_wr64_ne (k v : Nat) {g : FRef} (h : g.off ≠ k ∧ g.off ≠ k + 4) : (s.wr64 k v).flag g = s.flag g := by
  rw [State.flag, State.flag, s.g_wr64_ne k v h]

theorem State.rd64_congr {s t : State} {k : Nat} (h : t.rd k = s.rd k) (h' : t.rd (k + 4) = s.rd (k + 4)) : t.rd64 k = s.rd64 k := by
  rw [State.rd64, State.rd64, h, h']

/-- Two words written as a number that fits them read as that number. -/
theorem State.rd64_wr64_fit {k v : Nat} (h : v < 2 ^ 64) : (s.wr64 k v).rd64 k = v := by rw [s.rd64_wr64, Nat.mod_eq_of_lt h]

/-! ### Fabric time -/

/-- Fabric time is the counter's and EPOCH's. -/
theorem State.fns48_congr {s t : State} (hc : t.clep = s.clep) (h : t.rd64 TIME_EPOCH_LO.off = s.rd64 TIME_EPOCH_LO.off) :
    t.fns48 = s.fns48 := by
  rw [State.fns48, State.fns48, State.fns, State.fns, State.epochSec, State.epochSec, hc, h]

theorem State.fns48_lt : s.fns48 < 2 ^ 48 := by
  have h : 0 ≤ s.fns % ((2 ^ 48 : Nat) : Int) := Int.emod_nonneg _ (by decide)
  have h' : s.fns % ((2 ^ 48 : Nat) : Int) < ((2 ^ 48 : Nat) : Int) := Int.emod_lt_of_pos _ (by decide)
  rw [State.fns48, wrapInt]
  omega

end Sys2Proof.Machine
end

section
/-! PROOF of BadRegisterWriteIsABusError (R27, R29, R482; log entry 12). The access reaches no register; Sump counts the bus error, captures it
where nothing is captured, and a block's own master raises its event. -/

namespace Sys2Proof.Machine

/-- What Sump captures of a first error (R482). -/
def State.captured (s : State) (m : Master) (kind : Nat) (guard : Bool) (addr : Nat) : State :=
  ((((((s.p SUMP_FEC0.VALID 1).p SUMP_FEC0.MID m.mid.val).p SUMP_FEC0.KIND kind).pb SUMP_FEC0.GUARD guard).p SUMP_FEC0.NODE
    (if m.mid.val = 0x10 then m.node.toNat else 0)).wr64 SUMP_FEC1.off addr).wr64 SUMP_FEC3.off s.fns48

theorem State.firstError_captured {s : State} (h : s.flag SUMP_FEC0.VALID = true) (m : Master) (k : Nat) (b : Bool) (a : Nat) :
    s.firstError m k b a = s.count (if b then SUMP_GUARD_CNT.off else SUMP_BUSERR_CNT.off) := by
  rw [State.firstError, h]
  rfl

theorem State.firstError_fresh {s : State} (h : s.flag SUMP_FEC0.VALID = false) (m : Master) (k : Nat) (b : Bool) (a : Nat) :
    s.firstError m k b a = (s.captured m k b a).count (if b then SUMP_GUARD_CNT.off else SUMP_BUSERR_CNT.off) := by
  have hf : ∀ x : Nat, (((((s.p SUMP_FEC0.VALID 1).p SUMP_FEC0.MID m.mid.val).p SUMP_FEC0.KIND k).pb SUMP_FEC0.GUARD b).p SUMP_FEC0.NODE
      x |>.wr64 SUMP_FEC1.off a).fns48 = s.fns48 := by
    intro x
    refine State.fns48_congr (by simp) (State.rd64_congr ?_ ?_) <;>
      simp (disch := decide) only [State.rd_wr64_ne, State.rd_p_ne, State.rd_pb_ne]
  rw [State.firstError, h, State.captured]
  simp only [Bool.false_eq_true, if_false, hf]

/-- The registers that hold a captured error. -/
def captureRegs : List Nat := [SUMP_FEC0.off, SUMP_FEC1.off, SUMP_FEC2.off, SUMP_FEC3.off, SUMP_FEC4.off]

theorem State.captured_rd (s : State) (m : Master) (kind : Nat) (guard : Bool) (addr : Nat) {k : Nat} (h : k ∉ captureRegs) :
    (s.captured m kind guard addr).rd k = s.rd k := by
  simp only [captureRegs, List.mem_cons, List.not_mem_nil, or_false, not_or] at h
  obtain ⟨h0, h1, h2, h3, h4⟩ := h
  rw [State.captured, State.rd_wr64_ne _ _ _ h3 h4, State.rd_wr64_ne _ _ _ h1 h2, State.rd_p_ne _ _ _ h0, State.rd_pb_ne _ _ h0,
    State.rd_p_ne _ _ _ h0, State.rd_p_ne _ _ _ h0, State.rd_p_ne _ _ _ h0]

/-- The fields of a captured error. -/
theorem State.captured_fields (s : State) (m : Master) {kind : Nat} (guard : Bool) {addr : Nat} (hk : kind < 4) (ha : addr < 2 ^ 64) :
    let t := s.captured m kind guard addr
    t.flag SUMP_FEC0.VALID = true ∧ t.g SUMP_FEC0.MID = m.mid.val ∧ t.g SUMP_FEC0.KIND = kind ∧ t.flag SUMP_FEC0.GUARD = guard ∧
      t.rd64 SUMP_FEC1.off = addr ∧ t.rd64 SUMP_FEC3.off = s.fns48 := by
  have hmid : m.mid.val < 2 ^ 5 := m.mid.isLt
  refine ⟨?_, ?_, ?_, ?_, ?_, ?_⟩
  · simp (disch := decide) only [State.captured, State.flag_wr64_ne, State.flag_p_sep, State.flag_pb_sep]
    simp (disch := decide) only [State.flag, State.g_p_self]
    rfl
  · simp (disch := decide) only [State.captured, State.g_wr64_ne, State.g_p_sep, State.g_pb_sep]
    exact State.g_p_fit _ hmid (by decide)
  · simp (disch := decide) only [State.captured, State.g_wr64_ne, State.g_p_sep, State.g_pb_sep]
    exact State.g_p_fit _ hk (by decide)
  · simp (disch := decide) only [State.captured, State.flag_wr64_ne, State.flag_p_sep, State.flag_pb_self]
  · rw [State.captured, State.rd64_congr (State.rd_wr64_ne _ _ _ (by decide) (by decide)) (State.rd_wr64_ne _ _ _ (by decide) (by decide)),
      State.rd64_wr64_fit _ ha]
  · rw [State.captured, State.rd64_wr64_fit _ (Nat.lt_trans s.fns48_lt (by decide))]

/-! ### A bus error -/

theorem ownEvent_lt {mid e : Nat} (h : ownEvent mid = some e) : e < 512 := by
  unfold ownEvent at h
  split at h
  · cases h; decide
  · split at h
    · cases h; decide
    · split at h
      · cases h; decide
      · split at h
        · cases h; decide
        · split at h
          · cases h; decide
          · cases h

/-- What a bus error leaves (R29, R482). -/
structure BusErrored (s t : State) (m : Master) (kind addr : Nat) : Prop where
  quiet : Quiet s t
  cnt : (t.rd SUMP_BUSERR_CNT.off).toNat = (s.rd SUMP_BUSERR_CNT.off).toNat + 1
  valid : t.flag SUMP_FEC0.VALID = true
  fresh : s.flag SUMP_FEC0.VALID = false → t.g SUMP_FEC0.MID = m.mid.val ∧ t.g SUMP_FEC0.KIND = kind ∧ t.flag SUMP_FEC0.GUARD = false ∧
    t.rd64 SUMP_FEC1.off = addr ∧ t.rd64 SUMP_FEC3.off = s.fns48
  keeps : s.keepsRegs t (SUMP_BUSERR_CNT.off :: captureRegs)

/-- Counting and capturing, before the event of a block of this node. -/
theorem State.firstError_busErr (s : State) (m : Master) {kind addr : Nat} (hk : kind < 4) (ha : addr < 2 ^ 64)
    (hcnt : (s.rd SUMP_BUSERR_CNT.off).toNat + 1 < 0xFFFFFFFF) : BusErrored s (s.firstError m kind false addr) m kind addr := by
  by_cases hv : s.flag SUMP_FEC0.VALID = true
  · refine ⟨Quiet.firstError s m kind false addr, ?_, ?_, fun h => absurd hv (by simp [h]), fun k hl _ _ => ?_⟩ <;>
      rw [State.firstError_captured hv, if_neg Bool.false_ne_true, s.count_eq _ hcnt]
    · rw [← s.count_eq _ hcnt, s.count_toNat _ hcnt]
    · rw [State.flag_wr_ne _ _ (by decide), hv]
    · exact s.rd_wr_ne _ fun h => hl (h ▸ List.mem_cons_self)
  · rw [Bool.not_eq_true] at hv
    obtain ⟨hvalid, hmid, hkind, hguard, haddr, hfns⟩ := s.captured_fields m false hk ha
    have hcnt' : ((s.captured m kind false addr).rd SUMP_BUSERR_CNT.off).toNat + 1 < 0xFFFFFFFF := by
      rwa [s.captured_rd m kind false addr (by decide)]
    obtain ⟨w, heq⟩ : ∃ w, s.firstError m kind false addr = (s.captured m kind false addr).wr SUMP_BUSERR_CNT.off w :=
      ⟨_, (State.firstError_fresh hv m kind false addr).trans (State.count_eq _ _ hcnt')⟩
    refine ⟨Quiet.firstError s m kind false addr, ?_, ?_, fun _ => ⟨?_, ?_, ?_, ?_, ?_⟩, fun k hl _ _ => ?_⟩
    · rw [State.firstError_fresh hv]
      exact (State.count_toNat _ _ hcnt').trans (by rw [s.captured_rd m kind false addr (by decide)])
    · rw [heq, State.flag_wr_ne _ _ (by decide), hvalid]
    · rw [heq, State.g_wr_ne _ _ _ _ (by decide), hmid]
    · rw [heq, State.g_wr_ne _ _ _ _ (by decide), hkind]
    · rw [heq, State.flag_wr_ne _ _ (by decide), hguard]
    · rw [heq, State.rd64_congr (State.rd_wr_ne _ _ (by decide)) (State.rd_wr_ne _ _ (by decide)), haddr]
    · rw [heq, State.rd64_congr (State.rd_wr_ne _ _ (by decide)) (State.rd_wr_ne _ _ (by decide)), hfns]
    · rw [List.mem_cons, not_or] at hl
      rw [heq, State.rd_wr_ne _ _ hl.1, s.captured_rd m kind false addr hl.2]

/-- An event leaves what a bus error has left. -/
theorem BusErrored.raise {s t : State} {m : Master} {kind addr : Nat} (h : BusErrored s t m kind addr) {ev cls : Nat} (hev : ev < 512)
    (hc : cls < 4) : BusErrored s (t.raise ev cls) m kind addr := by
  have hr : ∀ k ∈ SUMP_BUSERR_CNT.off :: captureRegs, (t.raise ev cls).rd k = t.rd k := fun k hk => by
    have table : ∀ k ∈ SUMP_BUSERR_CNT.off :: captureRegs, fixedKey k = true := by decide
    exact t.raise_rd cls hev (table k hk)
  refine ⟨h.quiet.trans (Quiet.raise t ev hc), ?_, ?_, fun hv => ?_, fun k hl hp hq => ?_⟩
  · rw [hr _ (by decide), h.cnt]
  · rw [t.raise_flag cls hev (by decide), h.valid]
  · obtain ⟨hmid, hkind, hguard, haddr, hfns⟩ := h.fresh hv
    rw [t.raise_g cls hev (by decide), t.raise_g cls hev (by decide), t.raise_flag cls hev (by decide),
      State.rd64_congr (hr _ (by decide)) (hr _ (by decide)), State.rd64_congr (hr _ (by decide)) (hr _ (by decide))]
    exact ⟨hmid, hkind, hguard, haddr, hfns⟩
  · rw [t.raise_rd cls hev (fixedKey_iff.2 ⟨hp, hq⟩), h.keeps k hl hp hq]

/-- A bus error is counted and captured, and a block's own master raises its event. -/
theorem State.busFault_busErr (s : State) (m : Master) {kind addr : Nat} (hk : kind < 4) (ha : addr < 2 ^ 64)
    (hcnt : (s.rd SUMP_BUSERR_CNT.off).toNat + 1 < 0xFFFFFFFF) :
    BusErrored s (s.busFault m kind addr) m kind addr ∧ ∀ e, ownEvent m.mid.val = some e → (s.busFault m kind addr).evPend e = true := by
  have hf := s.firstError_busErr m hk ha hcnt
  unfold State.busFault
  dsimp only
  cases ho : ownEvent m.mid.val with
  | none => exact ⟨hf, fun e he => nomatch he⟩
  | some ev =>
    refine ⟨hf.raise (ownEvent_lt ho) clEvent_lt, fun e he => ?_⟩
    cases he
    exact State.raise_pend _ clEvent (ownEvent_lt ho)

/-- An access of a wrong form reaches no register. -/
theorem State.reg_badForm (s : State) (m : Master) {off width : Nat} (h : width ≠ 4 ∨ off % 4 ≠ 0 ∨ regRow off = none) :
    s.reg m off width = none := by
  unfold State.reg
  split
  · rfl
  · next hn =>
    rw [not_or, not_or, not_not, not_not] at hn
    rcases h with h | h | h
    · exact absurd hn.1 h
    · exact absurd hn.2.1 h
    · exact h

/-- A write that reaches no register is a bus error. -/
theorem State.regCmd_badForm (s : State) (m : Master) {off width : Nat} (h : width ≠ 4 ∨ off % 4 ≠ 0 ∨ regRow off = none)
    (htst : s.tstServes m off width = false) (val : Word) :
    s.regCmd m off width val = (s.busFault m 1 (2 ^ 40 + off)).answer m stADDR [] := by
  have hreg := s.reg_badForm m h
  have hwaits : s.regWaits m off width = false := by rw [State.regWaits, State.regHeld, hreg]; rfl
  have haddr : regAddr 0 off = 2 ^ 40 + off := by rw [regAddr, Nat.zero_mul, Nat.zero_add]
  rw [State.regCmd, hwaits, if_neg Bool.false_ne_true]
  simp only [State.regWrite, State.regWith, hreg, htst, Bool.false_eq_true, if_false, State.busErr, haddr]
  rfl

theorem State.bare_answer (s : State) (m : Master) (st : Nat) (d : List Byte) (r : Option Resp) :
    { (s.answer m st d).bare with resp := r } = { s.bare with resp := r } := rfl

/-- Settles O11: the access reaches no register, and ends as the bus error of `State.busFault`. -/
theorem badRegisterWriteIsABusError : Obligations.BadRegisterWriteIsABusError := by
  unfold Obligations.BadRegisterWriteIsABusError
  intro m off width val s hbad hoff htst hreset hcnt
  obtain ⟨hbus, hown⟩ := s.busFault_busErr m (kind := 1) (addr := 2 ^ 40 + off) (by decide) (by omega) hcnt
  have hres : ((s.busFault m 1 (2 ^ 40 + off)).answer m stADDR []).resetReq = none := by
    rw [State.answer_resetReq, hbus.quiet.resetReq, hreset]
  refine ⟨_, exec_registerWrite m off width val s, ?_⟩
  rw [s.regCmd_badForm m hbad htst, State.finish_none hres]
  generalize s.busFault m 1 (2 ^ 40 + off) = t at *
  have hpend : t.pending = s.pending := hbus.quiet.stores.1
  have hbare := hbus.quiet.bare
  rw [← hpend]
  refine ⟨rfl, hbus.cnt, hbus.valid, hbus.fresh, hown, hbus.keeps, ?_⟩
  exact (t.bare_answer m stADDR [] s.resp).trans (by rw [hbare]; rfl)

end Sys2Proof.Machine
end

section
/-! PROOF of HeldWriteCompletes (R10, R38; log entry 15). The first held access stands before no other of its master and its domain serves, so
that it is performed: here the write of one register by a block of four bytes. -/

namespace Sys2Proof.Machine

/-! ### Own addresses -/

theorem adNode_own {space off : Nat} (hs : space < 256) (ho : off < 2 ^ 40) : adNode (space * 2 ^ 40 + off) = 0 := by
  simp only [adNode]
  omega

theorem adSpace_own {space off : Nat} (hs : space < 256) (ho : off < 2 ^ 40) : adSpace (space * 2 ^ 40 + off) = space := by
  simp only [adSpace]
  omega

theorem adOff_own {space off : Nat} (ho : off < 2 ^ 40) : adOff (space * 2 ^ 40 + off) = off := by
  simp only [adOff]
  omega

theorem State.isHere_own (s : State) {space off : Nat} (hs : space < 256) (ho : off < 2 ^ 40) : s.isHere (space * 2 ^ 40 + off) = true := by
  rw [State.isHere, adNode_own hs ho]
  rfl

/-! ### A write of one register as a block of four bytes -/

theorem slice_all {l : List Byte} {n : Nat} (h : l.length = n) : slice l 0 n = l := by
  rw [slice, List.drop_zero, ← h, List.take_length]
  simp

theorem natLE_bytesLE_word (w : Word) : BitVec.ofNat 32 (natLE (bytesLE 4 w.toNat)) = w := by
  rw [natLE_bytesLE]
  apply BitVec.eq_of_toNat_eq
  rw [BitVec.toNat_ofNat]
  have := w.isLt
  omega

theorem State.regBlock_word (s : State) (m : Master) (nd off : Nat) (w : Word) :
    s.regBlock m nd off (bytesLE 4 w.toNat) = s.regWrite m nd off 4 w := by
  have hd : (bytesLE 4 w.toNat).drop 4 = [] := List.drop_eq_nil_of_le (by simp)
  simp only [State.regBlock, bytesLE_length, Nat.reduceMod, Nat.reduceDiv, ne_eq, not_true_eq_false, OfNat.ofNat_ne_zero, or_self, if_false,
    State.regWrites, slice_all (bytesLE_length 4 _), natLE_bytesLE_word]
  split
  · rfl
  · split
    · next hst => rw [← hst]
    · rfl

/-- A served write leaves nothing to wait for: its domain is on, no record is applied to its block, no write before it waits. -/
theorem State.serves_ready {s : State} {m : Master} {off c : Nat} (h : s.serves m off c) :
    s.waitsCommit m off = false ∧ s.writeWaits m off = false ∧ s.domGate off = 0 := by
  obtain ⟨hwaits, hsome, hgate, _, _, _⟩ := h
  rw [State.regWaits, hsome, Bool.true_and, Bool.or_eq_false_iff, Bool.or_eq_false_iff] at hwaits
  exact ⟨hwaits.2.1, hwaits.2.2, hgate⟩

/-- A store of one register by a local master at this node. -/
theorem State.serves_masterWrite {s : State} {m : Master} {off c : Nat} (h : s.serves m off c) (ho : off < 2 ^ 40) (val : Word) :
    s.masterWrite m (1 * 2 ^ 40 + off) (bytesLE 4 val.toNat) =
      (s.regWrite m 0 off 4 val).2.answer m (s.regWrite m 0 off 4 val).1 [] := by
  obtain ⟨hcommit, hwrite, hgate⟩ := State.serves_ready h
  have hspace : s.spaceGate m 1 off = 0 := by rw [State.spaceGate, if_pos rfl, hcommit, if_neg Bool.false_ne_true, hgate]
  simp only [State.masterWrite, s.isHere_own (space := 1) (by decide) ho, if_true, State.localWrite, adSpace_own (space := 1) (by decide) ho,
    adOff_own ho, adNode_own (space := 1) (by decide) ho, hspace, hwrite, s.regBlock_word]
  rfl

/-- The first held access goes first where it is ready. -/
theorem State.heldPick_first {s : State} {h : Held} {l : List Held} (hr : s.heldReady h = true) : s.heldPick [] (h :: l) = some ([], h, l) := by
  rw [State.heldPick, hr]
  rfl

theorem exec_heldAccessComplete (s : State) : exec .heldAccessComplete s = .next (s.finish (heldAccessComplete s)) := by rfl

theorem heldAccessComplete_first {s : State} {h : Held} {l : List Held} (hh : s.held = h :: l) (hr : s.heldReady h = true) :
    heldAccessComplete s = { ({ s with held := [] } : State).heldRun h with
      held := (({ s with held := [] } : State).heldRun h).held ++ l } := by
  rw [heldAccessComplete, hh, State.heldPick_first hr]
  rfl

theorem plainRegs_lt : ∀ off ∈ plainRegs, off < 2 ^ 40 ∧ off ≠ PNT_ATTR_DATA.off := by decide

theorem State.heldReady_plain {s : State} {m : Master} {off c : Nat} (h : ({ s with held := [] } : State).serves m off c)
    (ho : off ≠ PNT_ATTR_DATA.off) (op : HeldOp) (tag : Option Nat) : s.heldReady ⟨m, 1, off, op, tag⟩ = true := by
  obtain ⟨hcommit, _, hgate⟩ := State.serves_ready h
  have hspace : s.spaceGate m 1 off = 0 := by
    rw [State.spaceGate, if_pos rfl, show s.waitsCommit m off = false from hcommit, if_neg Bool.false_ne_true]
    exact hgate
  have hattr : s.attrWaits m off = false := by rw [State.attrWaits, beq_false_of_ne ho, Bool.false_and]
  simp only [State.heldReady, hspace, hattr, Bool.and_false, Bool.not_false, Bool.and_true]
  rfl

theorem State.heldRun_write (s : State) (m : Master) (off : Nat) (d : List Byte) :
    s.heldRun ⟨m, 1, off, .write d, none⟩ = s.masterWrite m (1 * 2 ^ 40 + off) d := rfl

/-- A held write of a register that only stores. -/
theorem State.heldRun_plain {s : State} {m : Master} {off : Nat} (hoff : off ∈ plainRegs) (hs : s.serves m off 2) (val : Word) :
    s.heldRun ⟨m, 1, off, .write (bytesLE 4 val.toNat), none⟩ = (s.wr off ((rowAt off).newWord (s.rd off) val)).answer m stOK [] := by
  rw [s.heldRun_write, State.serves_masterWrite hs (plainRegs_lt off hoff).1, State.serves_regWrite hs (plainRegs_row off hoff).1,
    s.plainRegs_blkTop m hoff]

theorem State.finish_kept {s t : State} (hr : t.resetReq = none) (hp : t.pending = s.pending) : s.finish t = t := by
  rw [State.finish_none hr, ← hp]

/-- What a store performed in place of the first held access leaves. -/
theorem heldStore_leaves (s : State) (k : Nat) (w : Word) (m : Master) (l : List Held) {d t : State}
    (hd : d = (({ s with held := [] } : State).wr k w).answer m stOK []) (ht : t = { d with held := d.held ++ l }) :
    t.resetReq = s.resetReq ∧ t.pending = s.pending ∧ t.held = l ∧ t.resp = some ⟨m.mid.val, stOK, []⟩ ∧ t.rd k = w ∧ s.sameRegs t [k] ∧
      { t with regs := s.regs, resp := s.resp, held := s.held } = s := by
  subst hd ht
  refine ⟨rfl, rfl, rfl, rfl, State.rd_wr_same _ k w, fun i hi => ?_, rfl⟩
  exact State.rd_wr_ne { s with held := [] } w (by simpa using hi)

/-- Settles O12: the held write is the store of its register. -/
theorem heldWriteCompletes : Obligations.HeldWriteCompletes := by
  unfold Obligations.HeldWriteCompletes
  intro m off val s l r hoff hr hs hheld
  obtain rfl := rowAt_eq hr
  have hdone := heldAccessComplete_first hheld (State.heldReady_plain hs (plainRegs_lt off hoff).2 _ _)
  obtain ⟨hreset, hpend, hheld', hresp, hrd, hsame, hframe⟩ := heldStore_leaves s off _ m l (State.heldRun_plain hoff hs val) hdone
  obtain ⟨_, _, _, _, _, hnone⟩ := hs
  have hend : exec .heldAccessComplete s = .next (heldAccessComplete s) := by
    rw [exec_heldAccessComplete, State.finish_kept (hreset.trans hnone) hpend]
  refine ⟨_, hend, hresp, hheld', fun f hf ha i hlo hhi => ?_, hsame, hframe⟩
  rw [hrd, RegRow.newWord_covered hr hf hlo hhi, fieldWrite_rw ha hlo hhi, BitVec.testBit_toNat]

end Sys2Proof.Machine
end

section
/-! PROOF of AvsFailuresAndGovernor and AvsEvaluates (R17 to R20, R516; log entries 3 and 141). Each of the three commands is a chain of
field writes, counts and events; `Eff` says what such a chain leaves of the registers, the pending events and the reset request. -/

namespace Sys2Proof.Machine

/-! ### What a chain of writes and events leaves -/

/-- A chain that writes the registers listed, raises events below GRAVE and asks for no reset. -/
structure Eff (s t : State) (l : List Nat) : Prop where
  rd : s.keepsRegs t l
  pend : ∀ e, e < 512 → s.evPend e = true → t.evPend e = true
  kept : ∀ e, e < 512 → s.evPend e = true → s.evKept e ≤ t.evKept e
  resetReq : t.resetReq = s.resetReq

namespace Eff

theorem refl (s : State) (l : List Nat) : Eff s s l := ⟨fun _ _ _ _ => rfl, fun _ _ h => h, fun _ _ _ => Nat.le_refl _, rfl⟩

theorem trans {s t u : State} {l : List Nat} (a : Eff s t l) (b : Eff t u l) : Eff s u l :=
  ⟨fun k h h1 h2 => (b.rd k h h1 h2).trans (a.rd k h h1 h2), fun e he h => b.pend e he (a.pend e he h),
    fun e he h => (a.kept e he h).trans (b.kept e he (a.pend e he h)), b.resetReq.trans a.resetReq⟩

theorem mono {s t : State} {l l' : List Nat} (a : Eff s t l) (h : ∀ k ∈ l, k ∈ l') : Eff s t l' :=
  ⟨fun k hk => a.rd k fun hl => hk (h k hl), a.pend, a.kept, a.resetReq⟩

/-- An operation on the stores alone. -/
theorem of_regs {s t : State} (l : List Nat) (hr : t.regs = s.regs := by rfl) (hs : t.sump = s.sump := by rfl)
    (hq : t.resetReq = s.resetReq := by rfl) : Eff s t l := by
  have hrd : ∀ k, t.rd k = s.rd k := fun k => by rw [State.rd, State.rd, hr]
  refine ⟨fun k _ _ _ => hrd k, fun e _ h => ?_, fun e _ _ => ?_, hq⟩
  · rw [State.evPend, hrd]
    exact h
  · rw [State.evKept, State.evKept, hs]

theorem raise (s : State) {ev cls : Nat} (hev : ev < 512) (hc : cls < 4) (l : List Nat) : Eff s (s.raise ev cls) l :=
  have h := s.raise_raised cls hev
  ⟨fun k _ h1 h2 => h.rd k h1 h2, h.pend, h.kept, s.raise_resetReq hev hc⟩

theorem raiseIf (s : State) (b : Bool) {ev cls : Nat} (hev : ev < 512) (hc : cls < 4) (l : List Nat) : Eff s (s.raiseIf b ev cls) l := by
  cases b
  · exact refl s l
  · exact raise s hev hc l

theorem wr (s : State) {k : Nat} (w : Word) {l : List Nat} (hk : isPendKey k = false) (hl : k ∈ l) : Eff s (s.wr k w) l := by
  refine ⟨fun i hi _ _ => s.rd_wr_ne w (fun h => hi (h ▸ hl)), fun e he h => ?_, fun e _ _ => Nat.le_refl _, rfl⟩
  rw [s.wr_evPend w hk he, h]

theorem p (s : State) (f : FRef) (v : Nat) {l : List Nat} (hk : isPendKey f.off = false) (hl : f.off ∈ l) : Eff s (s.p f v) l :=
  wr s _ hk hl

theorem pb (s : State) (f : FRef) (b : Bool) {l : List Nat} (hk : isPendKey f.off = false) (hl : f.off ∈ l) : Eff s (s.pb f b) l :=
  wr s _ hk hl

theorem count (s : State) {off : Nat} {l : List Nat} (h : (s.rd off).toNat + 1 < 0xFFFFFFFF) (hk : isPendKey off = false) (hl : off ∈ l) :
    Eff s (s.count off) l := by
  rw [s.count_eq off h]
  exact wr s _ hk hl

variable {s t : State} {l : List Nat}

theorem g (h : Eff s t l) {f : FRef} (hf : f.off ∉ l) (hk : fixedKey f.off = true) : t.g f = s.g f := by
  rw [State.g, State.g, h.rd _ hf (fixedKey_iff.1 hk).1 (fixedKey_iff.1 hk).2]

theorem flag (h : Eff s t l) {f : FRef} (hf : f.off ∉ l) (hk : fixedKey f.off = true) : t.flag f = s.flag f := by
  rw [State.flag, State.flag, h.g hf hk]

theorem word (h : Eff s t l) {k : Nat} (hf : k ∉ l) (hk : fixedKey k = true) : t.rd k = s.rd k :=
  h.rd _ hf (fixedKey_iff.1 hk).1 (fixedKey_iff.1 hk).2

end Eff

/-! ### The setpoint -/

theorem State.rd_of_regs {s t : State} (h : t.regs = s.regs) (k : Nat) : t.rd k = s.rd k := by rw [State.rd, State.rd, h]

theorem State.g_of_regs {s t : State} (h : t.regs = s.regs) (f : FRef) : t.g f = s.g f := by rw [State.g, State.g, State.rd_of_regs h]

theorem State.flag_of_regs {s t : State} (h : t.regs = s.regs) (f : FRef) : t.flag f = s.flag f := by
  rw [State.flag, State.flag, State.g_of_regs h]

/-- A setpoint sent to the regulator (R19). -/
theorem State.avsMove_leaves (s : State) {v : Nat} (hv : v < 1024) {t : State} (ht : s.avsMove v = t) :
    t.g PWR_AVS_STAT.VSET = v ∧ (∀ f : FRef, PWR_AVS_STAT.VSET.sep f = true → t.g f = s.g f) ∧
      s.sameRegs t [PWR_AVS_STAT.off] ∧ Eff s t [PWR_AVS_STAT.off] ∧
      t.power = { s.power with avsOpen := if v = s.g PWR_AVS_STAT.VSET then none else some (s.g PWR_AVS_STAT.VSET, s.power.avsFails),
                               avsFails := if v = s.g PWR_AVS_STAT.VSET then s.power.avsFails else 0 } ∧
      { t.bare with power := s.power } = s.bare := by
  unfold State.avsMove at ht
  dsimp only at ht
  split at ht
  · next h =>
    subst ht
    exact ⟨h.symm, fun _ _ => rfl, fun _ _ => rfl, Eff.of_regs _, by simp only [if_pos h], rfl⟩
  · next h =>
    subst ht
    exact ⟨s.g_p_fit (f := PWR_AVS_STAT.VSET) hv (by decide), fun f hf => s.g_p_sep (f := PWR_AVS_STAT.VSET) v hf,
      fun k hk => s.rd_p_ne PWR_AVS_STAT.VSET v (by simpa using hk),
      (Eff.p s PWR_AVS_STAT.VSET v (by decide) (by decide)).trans (Eff.of_regs _), by simp only [if_neg h], rfl⟩

/-- A command that leaves the pending commands and asks for no reset ends in its state. -/
theorem State.finish_eff {s t : State} {l : List Nat} (h : Eff s t l) (hs : s.resetReq = none) (hp : t.pending = s.pending) :
    s.finish t = t := State.finish_kept (h.resetReq.trans hs) hp

theorem exec_governorStep (tj : Int) (s : State) : exec (.governorStep tj) s = .next (s.finish (governorStep tj s)) := by rfl

theorem exec_avsTransactionFail (s : State) : exec .avsTransactionFail s = .next (s.finish (avsTransactionFail s)) := by rfl

theorem exec_avsEvaluate (d c : Nat) (s : State) : exec (.avsEvaluate d c) s = .next (s.finish (avsEvaluate d c s)) := by rfl

theorem State.raiseIf_g (s : State) (b : Bool) {ev : Nat} (cls : Nat) {f : FRef} (hev : ev < 512) (hk : fixedKey f.off = true) :
    (s.raiseIf b ev cls).g f = s.g f := by
  cases b
  · rfl
  · exact s.raise_g cls hev hk

theorem State.raiseIf_bare (s : State) (b : Bool) {ev : Nat} (cls : Nat) (h : ev < 512) : (s.raiseIf b ev cls).bare = s.bare := by
  cases b
  · rfl
  · exact (s.raise_raised cls h).bare

/-- What a count with its event leaves (R43). -/
structure Counted (s t : State) (off ev cls : Nat) : Prop where
  cnt : (t.rd off).toNat = (s.rd off).toNat + 1
  pend : t.evPend ev = true
  kept : cls ≤ t.evKept ev
  eff : Eff s t [off]
  bare : t.bare = s.bare

theorem State.count_raise (s : State) {off ev cls : Nat} (h : (s.rd off).toNat + 1 < 0xFFFFFFFF) (hk : fixedKey off = true) (hev : ev < 512)
    (hc : cls < 4) : Counted s ((s.count off).raise ev cls) off ev cls where
  cnt := by rw [State.raise_rd _ _ hev hk, s.count_toNat off h]
  pend := State.raise_pend _ cls hev
  kept := State.raise_kept _ cls hev
  eff := (Eff.count s h (fixedKey_iff.1 hk).1 (List.mem_singleton.2 rfl)).trans (Eff.raise _ hev hc _)
  bare := (Quiet.raise _ ev hc).bare.trans (Quiet.count s off).bare

/-! ### The governor -/

/-- The thermal ceiling of a step (R516). -/
def State.withCeil (s : State) (c : Option Nat) : State := { s with power := { s.power with thermCeil := c } }

theorem governorStep_eq (tj : Int) (s : State) :
    governorStep tj s = ((s.withCeil (s.thermNext tj)).avsMove (min (s.g PWR_AVS_STAT.VSET) (s.withCeil (s.thermNext tj)).avsCeil)).raiseIf
      (s.power.thermCeil.isNone && (s.thermNext tj).isSome) (evTel 5) clEvent := rfl

theorem governorStep_leaves (tj : Int) (s : State) (hs : s.resetReq = none) {c : Option Nat} (hc : s.thermNext tj = c) {w : Nat}
    (hw : min (s.g PWR_AVS_STAT.VSET) (s.withCeil c).avsCeil = w) :
    ∃ t, exec (.governorStep tj) s = .next t ∧
      t.power = { s.power with
        thermCeil := c, avsOpen := if w = s.g PWR_AVS_STAT.VSET then none else some (s.g PWR_AVS_STAT.VSET, s.power.avsFails),
        avsFails := if w = s.g PWR_AVS_STAT.VSET then s.power.avsFails else 0 } ∧
      t.g PWR_AVS_STAT.VSET = w ∧ (s.power.thermCeil = none → c ≠ none → t.evPend (evTel 5) = true) ∧
      s.keepsRegs t [PWR_AVS_STAT.off] ∧ { t.bare with power := s.power } = s.bare := by
  have hv : w < 1024 := by
    have h : s.g PWR_AVS_STAT.VSET < 2 ^ 10 := FRef.get_lt PWR_AVS_STAT.VSET _
    omega
  obtain ⟨hset, -, -, heff, hpow, hbare⟩ := (s.withCeil c).avsMove_leaves hv rfl
  have hwith : Eff s (s.withCeil c) [PWR_AVS_STAT.off] := Eff.of_regs _
  have hbare' : { ((s.withCeil c).avsMove w).bare with power := s.power } = s.bare := congrArg (fun u : State => { u with power := s.power }) hbare
  have hdone : governorStep tj s = ((s.withCeil c).avsMove w).raiseIf (s.power.thermCeil.isNone && c.isSome) (evTel 5) clEvent := by
    rw [governorStep_eq, hc, hw]
  generalize (s.withCeil c).avsMove w = u at *
  obtain ⟨b, hb⟩ : ∃ b, (s.power.thermCeil.isNone && c.isSome) = b := ⟨_, rfl⟩
  rw [hb] at hdone
  have hend := (hwith.trans heff).trans (Eff.raiseIf u b (ev := evTel 5) (cls := clEvent) (by decide) (by decide) _)
  have hfin : (u.raiseIf b (evTel 5) clEvent).bare = u.bare := u.raiseIf_bare _ _ (by decide)
  have hpend : u.pending = s.pending := by have h := congrArg State.pending hbare'; exact h
  refine ⟨_, by rw [exec_governorStep, hdone, State.finish_eff hend hs (by simp [hpend])], ?_, ?_, fun h0 h1 => ?_, hend.rd, by rw [hfin]; exact hbare'⟩
  · exact (by simp : (u.raiseIf b (evTel 5) clEvent).power = u.power).trans hpow
  · rw [State.raiseIf_g _ _ _ (by decide) (by decide), hset]
  · obtain rfl : b = true := by rw [← hb, h0, Option.isSome_iff_ne_none.2 h1]; rfl
    exact u.raise_pend clEvent (by decide)

/-! ### A transaction that failed -/

/-- The setpoint that the regulator keeps after a failed transaction, and the count of failures in a row (R19). -/
def State.avsKept (s : State) : Nat := (s.power.avsOpen.map (·.1)).getD (s.g PWR_AVS_STAT.VSET)
def State.avsRow (s : State) : Nat := (s.power.avsOpen.map (·.2)).getD s.power.avsFails + 1

theorem State.avsKept_eq (s : State) : s.avsKept = match s.power.avsOpen with | some (v, _) => v | none => s.g PWR_AVS_STAT.VSET := by
  unfold State.avsKept
  cases s.power.avsOpen <;> rfl

theorem State.avsRow_eq (s : State) : s.avsRow = match s.power.avsOpen with | some (_, k) => k + 1 | none => s.power.avsFails + 1 := by
  unfold State.avsRow
  cases s.power.avsOpen <;> rfl

/-- The state in which the failure is counted. -/
def State.avsReturned (s : State) : State :=
  { (s.p PWR_AVS_STAT.VSET s.avsKept) with power := { s.power with avsFails := if s.avsRow = 3 then 0 else s.avsRow, avsOpen := none } }

theorem avsTransactionFail_eq (s : State) :
    avsTransactionFail s = ((s.avsReturned.count PWR_AVS_FAILCNT.off).raise (evPwr 3) clEvent).raiseIf (decide (s.avsRow = 3)) (evPwr 4) clDegraded := by
  unfold avsTransactionFail State.raiseIf
  simp only [decide_eq_true_eq]
  rfl

theorem avsReturned_leaves (s : State) (hv : s.avsKept < 1024) : s.avsReturned.g PWR_AVS_STAT.VSET = s.avsKept ∧
    s.avsReturned.rd PWR_AVS_FAILCNT.off = s.rd PWR_AVS_FAILCNT.off ∧ Eff s s.avsReturned [PWR_AVS_FAILCNT.off, PWR_AVS_STAT.off] ∧
      s.avsReturned.power = { s.power with avsFails := if s.avsRow = 3 then 0 else s.avsRow, avsOpen := none } ∧
      { s.avsReturned.bare with power := s.power } = s.bare :=
  ⟨s.g_p_fit (f := PWR_AVS_STAT.VSET) hv (by decide), s.rd_p_ne PWR_AVS_STAT.VSET _ (by decide),
    (Eff.p s PWR_AVS_STAT.VSET s.avsKept (by decide) (by decide)).trans (Eff.of_regs _), rfl, rfl⟩

theorem avsTransactionFail_leaves (s : State) (hs : s.resetReq = none) (hcnt : (s.rd PWR_AVS_FAILCNT.off).toNat + 1 < 0xFFFFFFFF)
    (hv : s.avsKept < 1024) :
    ∃ t, exec .avsTransactionFail s = .next t ∧ t.g PWR_AVS_STAT.VSET = s.avsKept ∧
      (t.rd PWR_AVS_FAILCNT.off).toNat = (s.rd PWR_AVS_FAILCNT.off).toNat + 1 ∧ t.evPend (evPwr 3) = true ∧
      t.power = { s.power with avsFails := if s.avsRow = 3 then 0 else s.avsRow, avsOpen := none } ∧
      (s.avsRow = 3 → t.evPend (evPwr 4) = true ∧ clDegraded ≤ t.evKept (evPwr 4)) ∧
      s.keepsRegs t [PWR_AVS_FAILCNT.off, PWR_AVS_STAT.off] ∧ { t.bare with power := s.power } = s.bare := by
  obtain ⟨hset, hcnt', heff, hpow, hbare⟩ := avsReturned_leaves s hv
  have hdone := avsTransactionFail_eq s
  generalize s.avsReturned = u at *
  rw [← hcnt'] at hcnt
  have hcounted := u.count_raise (ev := evPwr 3) (cls := clEvent) hcnt (by decide) (by decide) (by decide)
  generalize (u.count PWR_AVS_FAILCNT.off).raise (evPwr 3) clEvent = v at *
  have hlast := Eff.raiseIf v (decide (s.avsRow = 3)) (ev := evPwr 4) (cls := clDegraded) (by decide) (by decide) []
  have hend := (heff.trans (hcounted.eff.mono (by decide))).trans (hlast.mono (by decide))
  have hbare' : { v.bare with power := s.power } = s.bare := by rw [hcounted.bare, hbare]
  have hfin := v.raiseIf_bare (decide (s.avsRow = 3)) (ev := evPwr 4) clDegraded (by decide)
  have hpow' : v.power = u.power := (State.sameStores_of_bare hcounted.bare).2.2.2.2.2.2.2.1
  have hpend : v.pending = s.pending := by have h := congrArg State.pending hbare'; exact h
  refine ⟨_, by rw [exec_avsTransactionFail, hdone, State.finish_eff hend hs (by simp [hpend])], ?_, ?_, ?_, ?_, fun h => ?_, hend.rd,
    by rw [hfin, hbare']⟩
  · rw [State.raiseIf_g _ _ _ (by decide) (by decide), hcounted.eff.g (by decide) (by decide), hset]
  · rw [hlast.word (by decide) (by decide), hcounted.cnt, hcnt']
  · exact hlast.pend _ (by decide) hcounted.pend
  · exact ((by simp : (v.raiseIf (decide (s.avsRow = 3)) (evPwr 4) clDegraded).power = v.power).trans hpow').trans hpow
  · rw [h]
    exact ⟨v.raise_pend clDegraded (by decide), v.raise_kept clDegraded (by decide)⟩

theorem avsKept_lt (s : State) (h : ∀ e, s.power.avsOpen = some e → e.1 < 1024) : s.avsKept < 1024 := by
  rw [s.avsKept_eq]
  cases ho : s.power.avsOpen with
  | none => exact FRef.get_lt PWR_AVS_STAT.VSET _
  | some e => exact h e ho

/-- Settles O15. -/
theorem avsFailuresAndGovernor : Obligations.AvsFailuresAndGovernor := by
  unfold Obligations.AvsFailuresAndGovernor
  refine ⟨fun s hs hcnt ho => ?_, fun tj s hs => ?_⟩
  · intro n
    have hn : s.avsRow = n := s.avsRow_eq
    obtain ⟨t, ht, hset, hrest⟩ := avsTransactionFail_leaves s hs hcnt (avsKept_lt s ho)
    exact ⟨t, ht, hset.trans s.avsKept_eq, hn ▸ hrest⟩
  · intro gov ceil v w
    exact governorStep_leaves tj s hs (c := ceil) rfl rfl

/-! ### An evaluation -/

/-- The fields that steer an evaluation. -/
def avsControls : List FRef := [PWR_AVS_CTRL.TARGET, PWR_AVS_CTRL.LOWER, PWR_AVS_LIMIT.CEIL, PWR_AVS_LIMIT.FLOOR]

theorem avsControls_fixed : ∀ f ∈ avsControls, f.off ∉ [PWR_AVS_RATE.off, PWR_AVS_STAT.off, PWR_AVS_LOWCNT.off] ∧ fixedKey f.off = true := by
  decide

theorem State.avs_congr {s t : State} {l : List Nat} (heff : Eff s t l) (hl : ∀ k ∈ l, k ∈ [PWR_AVS_RATE.off, PWR_AVS_STAT.off, PWR_AVS_LOWCNT.off]) :
    t.avsLower = s.avsLower ∧ t.avsTarget = s.avsTarget ∧ t.avsFloor = s.avsFloor ∧
      (t.power.thermCeil = s.power.thermCeil → t.avsCeil = s.avsCeil) := by
  have hw : ∀ f ∈ avsControls, t.g f = s.g f := fun f hf =>
    (heff.mono hl).g (avsControls_fixed f hf).1 (avsControls_fixed f hf).2
  simp only [avsControls, List.mem_cons, List.not_mem_nil, or_false, forall_eq_or_imp, forall_eq] at hw
  obtain ⟨ht, hl, hc, hf⟩ := hw
  refine ⟨?_, ?_, ?_, fun h => ?_⟩
  · rw [State.avsLower, State.avsLower, State.avsTarget, State.avsTarget, ht, hl]
  · rw [State.avsTarget, State.avsTarget, ht]
  · rw [State.avsFloor, State.avsFloor, hf]
  · rw [State.avsCeil, State.avsCeil, hc, h]

/-- The rates shown (R20). -/
def State.avsRates (s : State) (demand capacity : Nat) : State :=
  (s.p PWR_AVS_RATE.CAP (min 0xFFFF capacity)).p PWR_AVS_RATE.DEMAND (min 0xFFFF demand)

/-- The measurements shown. -/
def State.avsShown (s : State) (demand capacity : Nat) : State :=
  ((s.avsRates demand capacity).p PWR_AVS_STAT.MARGIN (avsMargin demand capacity)).pb PWR_AVS_STAT.LOW (decide (capacity * 64 < s.avsTarget * demand))

theorem avsRates_eff (s : State) (d c : Nat) : Eff s (s.avsRates d c) [PWR_AVS_RATE.off, PWR_AVS_STAT.off] :=
  (Eff.p _ _ _ (by decide) (by decide)).trans (Eff.p _ _ _ (by decide) (by decide))

theorem avsShown_leaves (s : State) (d c : Nat) :
    let t := s.avsShown d c
    t.g PWR_AVS_STAT.MARGIN = avsMargin d c ∧ t.flag PWR_AVS_STAT.LOW = decide (c * 64 < s.avsTarget * d) ∧
      t.g PWR_AVS_RATE.CAP = min 0xFFFF c ∧ t.g PWR_AVS_RATE.DEMAND = min 0xFFFF d ∧ t.g PWR_AVS_STAT.VSET = s.g PWR_AVS_STAT.VSET ∧
      s.sameRegs t [PWR_AVS_RATE.off, PWR_AVS_STAT.off] ∧ Eff s t [PWR_AVS_RATE.off, PWR_AVS_STAT.off] ∧ t.bare = s.bare := by
  dsimp only
  have hm : avsMargin d c < 2 ^ 8 := by unfold avsMargin; split <;> omega
  refine ⟨?_, ?_, ?_, ?_, ?_, fun k hk => ?_, ?_, ?_⟩
  · rw [State.avsShown, State.avsRates, State.g_pb_sep _ _ (by decide), State.g_p_fit _ hm (by decide)]
  · rw [State.avsShown, State.avsRates, State.flag_pb_self _ _ (by decide) rfl]
  · rw [State.avsShown, State.avsRates, State.g_pb_sep _ _ (by decide), State.g_p_sep _ _ (by decide), State.g_p_sep _ _ (by decide),
      State.g_p_fit _ (show min 0xFFFF c < 2 ^ 16 by omega) (by decide)]
  · rw [State.avsShown, State.avsRates, State.g_pb_sep _ _ (by decide), State.g_p_sep _ _ (by decide),
      State.g_p_fit _ (show min 0xFFFF d < 2 ^ 16 by omega) (by decide)]
  · simp (disch := decide) only [State.avsShown, State.avsRates, State.g_pb_sep, State.g_p_sep]
  · obtain ⟨h1, h2⟩ : k ≠ PWR_AVS_RATE.off ∧ k ≠ PWR_AVS_STAT.off := by simpa using hk
    rw [State.avsShown, State.avsRates, State.rd_pb_ne _ _ h2, State.rd_p_ne _ _ _ h2, State.rd_p_ne _ _ _ h1, State.rd_p_ne _ _ _ h1]
  · exact ((avsRates_eff s d c).trans (Eff.p _ _ _ (by decide) (by decide))).trans (Eff.pb _ _ _ (by decide) (by decide))
  · exact ((((Quiet.p s _ _).trans (Quiet.p _ _ _)).trans (Quiet.p _ _ _)).trans (Quiet.p _ _ _)).bare

/-- The run of evaluations above LOWER (R17). -/
def State.avsRun (s : State) (demand capacity : Nat) : Nat := if s.avsLower * demand < capacity * 64 then s.power.avsHigh + 1 else 0

/-- The run stored. -/
def State.setHigh (s : State) (n : Nat) : State := { s with power := { s.power with avsHigh := n } }

theorem State.setHigh_leaves (s : State) (n : Nat) :
    (s.setHigh n).regs = s.regs ∧ Eff s (s.setHigh n) [] ∧ (s.setHigh n).power = { s.power with avsHigh := n } ∧
      (s.setHigh n).bare = s.bare.setHigh n := ⟨rfl, Eff.of_regs _, rfl, rfl⟩

/-- The measurements stored, with the run. -/
def State.avsNoted (s : State) (demand capacity : Nat) : State :=
  (s.avsShown demand capacity).setHigh (s.avsRun demand capacity)

theorem avsMeasure_eq (s : State) (d c : Nat) :
    s.avsMeasure d c = if c < d then ((s.avsNoted d c).count PWR_AVS_LOWCNT.off).raise (evPwr 6) clEvent else s.avsNoted d c := by
  obtain ⟨-, -, -, -, -, -, heff, hbare⟩ := avsShown_leaves s d c
  have ht : (s.avsRates d c).avsTarget = s.avsTarget := (State.avs_congr (avsRates_eff s d c) (by decide)).2.1
  have hl : (s.avsShown d c).avsLower = s.avsLower := (State.avs_congr heff (by decide)).1
  have hp : (s.avsShown d c).power = s.power := (State.sameStores_of_bare hbare).2.2.2.2.2.2.2.1
  rw [State.avsNoted, State.avsRun, ← hl, ← hp, State.avsShown, ← ht]
  rfl

/-- What the measurements leave. -/
structure AvsMeasured (s t : State) (d c : Nat) : Prop where
  margin : t.g PWR_AVS_STAT.MARGIN = avsMargin d c
  low : t.flag PWR_AVS_STAT.LOW = decide (c * 64 < s.avsTarget * d)
  cap : t.g PWR_AVS_RATE.CAP = min 0xFFFF c
  demand : t.g PWR_AVS_RATE.DEMAND = min 0xFFFF d
  vset : t.g PWR_AVS_STAT.VSET = s.g PWR_AVS_STAT.VSET
  eff : Eff s t [PWR_AVS_RATE.off, PWR_AVS_STAT.off, PWR_AVS_LOWCNT.off]
  power : t.power = { s.power with avsHigh := s.avsRun d c }
  bare : { t.bare with power := s.power } = s.bare

theorem avsNoted_measured (s : State) (d c : Nat) :
    AvsMeasured s (s.avsNoted d c) d c ∧ s.sameRegs (s.avsNoted d c) [PWR_AVS_RATE.off, PWR_AVS_STAT.off] := by
  obtain ⟨hm, hlow, hcap, hdem, hset, hsame, heff, hbare⟩ := avsShown_leaves s d c
  have hpow : (s.avsShown d c).power = s.power := (State.sameStores_of_bare hbare).2.2.2.2.2.2.2.1
  unfold State.avsNoted
  generalize s.avsShown d c = u at *
  obtain ⟨hregs, hnote, hhigh, hb⟩ := u.setHigh_leaves (s.avsRun d c)
  have hg : ∀ f, (u.setHigh (s.avsRun d c)).g f = u.g f := State.g_of_regs hregs
  refine ⟨⟨(hg _).trans hm, (State.flag_of_regs hregs _).trans hlow, (hg _).trans hcap, (hg _).trans hdem, (hg _).trans hset, (heff.trans (hnote.mono (by decide))).mono (by decide), hhigh.trans (by rw [hpow]), ?_⟩,
    fun k hk => (State.rd_of_regs hregs k).trans (hsame k hk)⟩
  rw [hb, hbare]
  rfl

/-- A count with its event leaves the measurements. -/
theorem AvsMeasured.counted {s u v : State} {d c : Nat} (h : AvsMeasured s u d c) (hc : Counted u v PWR_AVS_LOWCNT.off (evPwr 6) clEvent) :
    AvsMeasured s v d c := by
  have hg : ∀ f : FRef, f.off = PWR_AVS_STAT.off ∨ f.off = PWR_AVS_RATE.off → v.g f = u.g f := by
    rintro f (hf | hf) <;> exact hc.eff.g (by rw [hf]; decide) (by rw [hf]; decide)
  have hflag : v.flag PWR_AVS_STAT.LOW = u.flag PWR_AVS_STAT.LOW := hc.eff.flag (by decide) (by decide)
  have hpow : v.power = u.power := (State.sameStores_of_bare hc.bare).2.2.2.2.2.2.2.1
  exact ⟨(hg _ (.inl rfl)).trans h.margin, hflag.trans h.low, (hg _ (.inr rfl)).trans h.cap, (hg _ (.inr rfl)).trans h.demand,
    (hg _ (.inl rfl)).trans h.vset, h.eff.trans (hc.eff.mono (by decide)), hpow.trans h.power, by rw [hc.bare, h.bare]⟩

theorem avsMeasure_measured (s : State) (d c : Nat) (hcnt : (s.rd PWR_AVS_LOWCNT.off).toNat + 1 < 0xFFFFFFFF) :
    AvsMeasured s (s.avsMeasure d c) d c ∧
      (if c < d then ((s.avsMeasure d c).rd PWR_AVS_LOWCNT.off).toNat = (s.rd PWR_AVS_LOWCNT.off).toNat + 1 ∧
        (s.avsMeasure d c).evPend (evPwr 6) = true
      else s.sameRegs (s.avsMeasure d c) [PWR_AVS_RATE.off, PWR_AVS_STAT.off]) := by
  obtain ⟨hmeas, hsame⟩ := avsNoted_measured s d c
  rw [avsMeasure_eq]
  split
  · have hrd := hsame PWR_AVS_LOWCNT.off (by decide)
    rw [← hrd] at hcnt ⊢
    have hc := (s.avsNoted d c).count_raise (ev := evPwr 6) (cls := clEvent) hcnt (by decide) (by decide) (by decide)
    exact ⟨hmeas.counted hc, hc.cnt, hc.pend⟩
  · exact ⟨hmeas, hsame⟩

theorem avsHold_lt (s : State) (v : Nat) : s.avsHold v < 1024 := by
  have hc : s.avsCeil ≤ 900 := by
    unfold State.avsCeil
    dsimp only
    split <;> omega
  unfold State.avsHold
  omega

/-- The setpoint that an evaluation chooses, of a state that has measured. -/
theorem avsNext_of_measured {s u : State} {d c : Nat} (h : AvsMeasured s u d c) :
    u.avsNext d c = if c * 64 < s.avsTarget * d then s.avsHold (s.g PWR_AVS_STAT.VSET + 10)
      else if 1000 ≤ s.avsRun d c then s.avsHold (s.g PWR_AVS_STAT.VSET - 5) else s.avsHold (s.g PWR_AVS_STAT.VSET) := by
  obtain ⟨-, ht, hf, hceil⟩ := State.avs_congr h.eff (by decide)
  have hhold : ∀ v, u.avsHold v = s.avsHold v := fun v => by rw [State.avsHold, State.avsHold, hf, hceil (by rw [h.power])]
  simp only [State.avsNext, ht, hhold, h.vset, h.power]

theorem avsNext_lt (s : State) (d c : Nat) : s.avsNext d c < 1024 := by
  unfold State.avsNext
  dsimp only
  split
  · exact avsHold_lt _ _
  · split <;> exact avsHold_lt _ _

/-- Settles O14. -/
theorem avsEvaluates : Obligations.AvsEvaluates := by
  unfold Obligations.AvsEvaluates
  refine ⟨fun d c s hen hs hcnt => ?_, fun d c s hen hs => ?_⟩
  · intro target lower run ceil hold v w
    obtain ⟨hm, hcount⟩ := avsMeasure_measured s d c hcnt
    have hdone : avsEvaluate d c s = (s.avsMeasure d c).avsMove ((s.avsMeasure d c).avsNext d c) := by
      rw [avsEvaluate, hen]
      rfl
    have hw : (s.avsMeasure d c).avsNext d c = w := avsNext_of_measured hm
    have hlt := avsNext_lt (s.avsMeasure d c) d c
    rw [hw] at hdone hlt
    obtain ⟨hset, hother, hsame, heff, hpow, hbare⟩ := (s.avsMeasure d c).avsMove_leaves hlt rfl
    generalize (s.avsMeasure d c).avsMove w = t at *
    generalize s.avsMeasure d c = u at *
    have hend : Eff s t [PWR_AVS_RATE.off, PWR_AVS_STAT.off, PWR_AVS_LOWCNT.off] := hm.eff.trans (heff.mono (by decide))
    have hframe : { t.bare with power := s.power } = s.bare := by
      rw [← hm.bare]
      exact congrArg (fun x : State => { x with power := s.power }) hbare
    have hpend : t.pending = s.pending := by have h := congrArg State.pending hframe; exact h
    have hlow : t.flag PWR_AVS_STAT.LOW = u.flag PWR_AVS_STAT.LOW := by rw [State.flag, State.flag, hother _ (by decide)]
    refine ⟨t, by rw [exec_avsEvaluate, hdone, State.finish_eff hend hs hpend], hset, (hother _ (by decide)).trans hm.margin, hlow.trans hm.low,
      (hother _ (by decide)).trans hm.cap, (hother _ (by decide)).trans hm.demand, ?_, ?_, hend.rd, hframe⟩
    · rw [hpow, hm.power, hm.vset]
      rfl
    · split at hcount
      · next h =>
        rw [if_pos h, heff.word (by decide) (by decide)]
        exact ⟨hcount.1, heff.pend _ (by decide) hcount.2⟩
      · next h =>
        rw [if_neg h]
        exact fun k hk => (hsame k fun hm => hk (List.mem_cons_of_mem _ hm)).trans (hcount k hk)
  · have hdone : avsEvaluate d c s = s := by
      rw [avsEvaluate, hen]
      rfl
    exact ⟨s, by rw [exec_avsEvaluate, hdone, State.finish_kept hs rfl], rfl⟩

end Sys2Proof.Machine
end

section
/-! PROOF of MultiwordAndCounters (R41 to R43; log entries 13, 14, 142 and 143). A read that a served register answers, a write of a lower word
that is staged, and the clearing of a counter. -/

namespace Sys2Proof.Machine

/-! ### Reading a register that serves its master -/

/-- A served access finds no held write of its master before it (R39). -/
theorem State.serves_heldSame {s : State} {m : Master} {off c : Nat} (h : s.serves m off c) (len : Nat) : s.heldSame m off len = false := by
  have hw := (State.serves_ready h).2.1
  rw [State.writeWaits, Bool.or_eq_false_iff, List.any_eq_false] at hw
  refine List.any_eq_false.2 fun x hx => ?_
  rw [Bool.and_eq_true, not_and]
  exact fun hr => absurd hr (hw.1 x hx)

theorem State.serves_spaceGate {s : State} {m : Master} {off c : Nat} (h : s.serves m off c) : s.spaceGate m 1 off = 0 := by
  obtain ⟨hcommit, _, hgate⟩ := State.serves_ready h
  rw [State.spaceGate, if_pos rfl, hcommit, if_neg Bool.false_ne_true, hgate]

/-- A reader's class is at least what it has as a writer. -/
theorem State.writeClass_le (s : State) (m : Master) (off : Nat) : s.writeClass m off ≤ (s.cls m).getD 0 := by
  rw [State.writeClass]
  split
  · exact Nat.min_le_left _ _
  · exact Nat.le_refl _

/-- A read of a word of fields that any reader of class 1 sees whole. -/
theorem State.maskedRead_whole {s : State} {c off : Nat} {r : RegRow} {f : FieldDef} (hf : r.fields = [f]) (hlo : f.lo = 0) (hhi : f.hi = 31)
    (ha : f.acc = .ro) (hg : f.guard = .any) (hc : 1 ≤ c) (w : Word) : s.maskedRead c off r w = (w, false) := by
  have hreach : s.reaches c off f.guard = true := by simp [State.reaches, hg, show c ≠ 0 by omega]
  have hmask : w.toNat &&& fieldMask f = w.toNat := by
    rw [fieldMask, hlo, hhi]
    exact Nat.and_two_pow_sub_one_of_lt_two_pow w.isLt
  simp only [State.maskedRead, hf, List.foldl_cons, List.foldl_nil, hreach, ha, hmask, BitVec.ofNat_toNat]
  simp

/-- A load of one register by a master at this node that the register serves. -/
theorem State.serves_masterRead {s : State} {m : Master} {off c : Nat} (h : s.serves m off c) (ho : off < 2 ^ 40) {w : Word} {t : State}
    (hread : s.regRead m 0 off 4 = (stOK, w, t)) : s.masterRead m (ownAddr 1 off) 4 = t.answer m stOK (bytesLE 4 w.toNat) := by
  have haddr : ownAddr 1 off = 1 * 2 ^ 40 + off := by rw [ownAddr, Nat.mod_eq_of_lt ho]
  simp only [haddr, State.masterRead, s.isHere_own (space := 1) (by decide) ho, if_true, State.localRead, adSpace_own (space := 1) (by decide) ho,
    adOff_own ho, adNode_own (space := 1) (by decide) ho, State.serves_spaceGate h, State.serves_heldSame h 4]
  simp [State.regReads, hread]

/-! ### Latches -/

theorem mwGet_mwPut_same (l : List MWord) (mid key : Nat) (w : Word) : mwGet (mwPut l mid key w) mid key = some w := by
  simp [mwGet, mwPut]

theorem mwGet_mwPut_ne (l : List MWord) (mid : Nat) {key k : Nat} (w : Word) (h : k ≠ key) : mwGet (mwPut l mid key w) mid k = mwGet l mid k := by
  have hfind : ∀ l : List MWord, (mwDrop l mid [key]).find? (fun e => e.mid == mid && e.key == k) = l.find? (fun e => e.mid == mid && e.key == k) := by
    intro l
    induction l with
    | nil => rfl
    | cons e l ih =>
      by_cases he : e.mid = mid ∧ e.key = key
      · simp [mwDrop, he, h.symm] at ih ⊢
        exact ih
      · simp only [mwDrop, List.filter_cons] at ih ⊢
        rw [if_pos (by simpa using not_and_or.1 he), List.find?_cons, List.find?_cons, ih]
  simp only [mwGet, mwPut, List.find?_cons, Bool.and_false, hfind, beq_false_of_ne h.symm]

/-! ### The time latched -/

theorem timeNow_row : regRow TIME_NOW_FRAC.off = some (rowAt TIME_NOW_FRAC.off) ∧
    ∃ f, (rowAt TIME_NOW_FRAC.off).fields = [f] ∧ f.lo = 0 ∧ f.hi = 31 ∧ f.acc = .ro ∧ f.guard = .any :=
  ⟨by decide +kernel, _, rfl, by decide +kernel, by decide +kernel, by decide +kernel, by decide +kernel⟩

/-- The words of the counter as they stand. -/
theorem State.shown_timeNow (s : State) (m : Master) :
    s.shown m TIME_NOW_FRAC.off = wordOf s.clep.frac ∧ s.shown m TIME_NOW_NS.off = wordOf s.clep.ns ∧
      s.shown m TIME_NOW_SEC_LO.off = wordOf s.clep.sec ∧ s.shown m TIME_NOW_SEC_HI.off = wordOf (s.clep.sec / 2 ^ 32 % 2 ^ 16) := by
  refine ⟨?_, ?_, ?_, ?_⟩ <;> simp (decide := true) [State.shown, State.liveLow]

/-- The latches of a reader of the lowest word. -/
def State.timeLatches (s : State) (m : Master) : List MWord :=
  mwPut (mwPut (mwPut s.latches m.mid.val TIME_NOW_NS.off (wordOf s.clep.ns)) m.mid.val TIME_NOW_SEC_LO.off (wordOf s.clep.sec)) m.mid.val
    TIME_NOW_SEC_HI.off (wordOf (s.clep.sec / 2 ^ 32 % 2 ^ 16))

theorem State.latchWords_timeNow (s : State) (m : Master) : s.latchWords m TIME_NOW_FRAC.off =
    [(TIME_NOW_NS.off, wordOf s.clep.ns), (TIME_NOW_SEC_LO.off, wordOf s.clep.sec),
      (TIME_NOW_SEC_HI.off, wordOf (s.clep.sec / 2 ^ 32 % 2 ^ 16))] := by
  obtain ⟨-, hns, hlo, hhi⟩ := s.shown_timeNow m
  have hg : mwGroup TIME_NOW_FRAC.off = some (TIME_NOW_FRAC.off, 4) := by decide +kernel
  have hcan : ¬ (0x1C0000 ≤ TIME_NOW_FRAC.off ∧ TIME_NOW_FRAC.off < 0x1D0000 ∧ 0x1000 ≤ TIME_NOW_FRAC.off % 0x2000) := by decide
  have hkey : ∀ k ∈ [TIME_NOW_NS.off, TIME_NOW_SEC_LO.off, TIME_NOW_SEC_HI.off], s.keyOfReg m k = k := fun k hk => by
    have table : ∀ k ∈ [TIME_NOW_NS.off, TIME_NOW_SEC_LO.off, TIME_NOW_SEC_HI.off], ownKey k = true := by decide
    exact s.keyOfReg_ownKey m (table k hk)
  simp only [List.mem_cons, List.not_mem_nil, or_false, forall_eq_or_imp, forall_eq] at hkey
  obtain ⟨kns, klo, khi⟩ := hkey
  rw [State.latchWords, if_neg hcan, if_neg (by simp (decide := true)), hg]
  change [(s.keyOfReg m TIME_NOW_NS.off, s.shown m TIME_NOW_NS.off), (s.keyOfReg m TIME_NOW_SEC_LO.off, s.shown m TIME_NOW_SEC_LO.off),
    (s.keyOfReg m TIME_NOW_SEC_HI.off, s.shown m TIME_NOW_SEC_HI.off)] = _
  rw [hns, hlo, hhi, kns, klo, khi]

/-- A read of the lowest word. -/
theorem State.serves_readTime {s : State} {m : Master} (h : s.serves m TIME_NOW_FRAC.off 1) :
    s.regRead m 0 TIME_NOW_FRAC.off 4 = (stOK, wordOf s.clep.frac, { s with latches := s.timeLatches m }) := by
  obtain ⟨hrow, f, hf, hlo, hhi, ha, hg⟩ := timeNow_row
  have hreg := State.serves_reg h hrow
  obtain ⟨_, _, hgate, hc, _, _⟩ := h
  have hfound : s.found m TIME_NOW_FRAC.off = wordOf s.clep.frac := by
    rw [State.found, if_pos (by decide), (s.shown_timeNow m).1]
  simp only [State.regRead, hreg, hgate, ne_eq, not_true_eq_false, if_false, hfound, s.latchWords_timeNow,
    State.maskedRead_whole hf hlo hhi ha hg (hc.trans (s.writeClass_le m _))]
  rfl

theorem mwGet_timeLatches (s : State) (m : Master) :
    mwGet (s.timeLatches m) m.mid.val TIME_NOW_NS.off = some (wordOf s.clep.ns) ∧
      mwGet (s.timeLatches m) m.mid.val TIME_NOW_SEC_LO.off = some (wordOf s.clep.sec) ∧
      mwGet (s.timeLatches m) m.mid.val TIME_NOW_SEC_HI.off = some (wordOf (s.clep.sec / 2 ^ 32 % 2 ^ 16)) := by
  refine ⟨?_, ?_, mwGet_mwPut_same ..⟩
  · rw [State.timeLatches, mwGet_mwPut_ne _ _ _ (by decide), mwGet_mwPut_ne _ _ _ (by decide), mwGet_mwPut_same]
  · rw [State.timeLatches, mwGet_mwPut_ne _ _ _ (by decide), mwGet_mwPut_same]

theorem exec_multiwordReadLatch (m : Master) (off : Nat) (s : State) :
    exec (.multiwordReadLatch m off) s = .next (s.finish (s.masterRead m (ownAddr 1 off) 4)) := by rfl

theorem exec_multiwordStagedWrite (m : Master) (off : Nat) (val : Word) (s : State) :
    exec (.multiwordStagedWrite m off val) s = .next (s.finish (s.regCmd m off 4 val)) := by rfl

theorem exec_counterClear (m : Master) (off : Nat) (val : Word) (s : State) :
    exec (.counterClear m off val) s = .next (s.finish (s.regCmd m off 4 val)) := by rfl

theorem latched_answer (s : State) (l : List MWord) (m : Master) (st : Nat) (d : List Byte) (hs : s.resetReq = none) :
    s.finish (({ s with latches := l } : State).answer m st d) = ({ s with latches := l } : State).answer m st d ∧
      (({ s with latches := l } : State).answer m st d).resp = some ⟨m.mid.val, st, d⟩ ∧
      (({ s with latches := l } : State).answer m st d).latches = l ∧
      { ({ s with latches := l } : State).answer m st d with latches := s.latches, resp := s.resp } = s :=
  ⟨State.finish_kept hs rfl, rfl, rfl, rfl⟩

theorem wordOf_bytes (n : Nat) : bytesLE 4 (wordOf n).toNat = bytesLE 4 (n % 2 ^ 32) := by rw [wordOf, BitVec.toNat_ofNat]

/-! ### A staged write -/

/-- The lower words of multi-word values that are written whole. -/
def stagedLow (off : Nat) : Bool :=
  off != PNT_OUT_DST_LO.off && (match (mwGroup off).filter (fun g => mwStaged g.1 g.2) with
    | some (base, n) => decide (off < base + 4 * (n - 1))
    | none => false)

theorem stagedLow_elim {off : Nat} (h : stagedLow off = true) :
    off ≠ PNT_OUT_DST_LO.off ∧ ∃ base n, (mwGroup off).filter (fun g => mwStaged g.1 g.2) = some (base, n) ∧ off < base + 4 * (n - 1) := by
  unfold stagedLow at h
  split at h
  · next base n hg => exact ⟨by simpa using (Bool.and_eq_true_iff.1 h).1, base, n, hg, by simpa using (Bool.and_eq_true_iff.1 h).2⟩
  · simp at h

theorem State.serves_stage {s : State} {m : Master} {off c : Nat} (h : s.serves m off c) (hrow : regRow off = some (rowAt off))
    (hlow : stagedLow off = true) (nd : Nat) (val : Word) :
    s.regWrite m nd off 4 val = (stOK, { s with staging := mwPut s.staging m.mid.val off val }) := by
  obtain ⟨hdst, base, n, hg, hlt⟩ := stagedLow_elim hlow
  have hreg := State.serves_reg h hrow
  obtain ⟨_, _, hgate, _, _, _⟩ := id h
  simp only [State.regWrite, State.regWith, hreg, hgate, ne_eq, not_true_eq_false, if_false, State.regPut, hg, hdst, false_and, hlt, if_true]

theorem staged_answer (s : State) (l : List MWord) (m : Master) (hs : s.resetReq = none) :
    s.finish (({ s with staging := l } : State).answer m stOK []) = ({ s with staging := l } : State).answer m stOK [] ∧
      (({ s with staging := l } : State).answer m stOK []).toldOK m ∧ (({ s with staging := l } : State).answer m stOK []).staging = l ∧
      { ({ s with staging := l } : State).answer m stOK [] with staging := s.staging, resp := s.resp } = s :=
  ⟨State.finish_kept hs rfl, rfl, rfl, rfl⟩

theorem State.serves_regCmd_of {s : State} {m : Master} {off c : Nat} (h : s.serves m off c) {val : Word} {st : Nat} {u : State}
    (hw : s.regWrite m 0 off 4 val = (st, u)) : s.regCmd m off 4 val = u.answer m st [] := by
  rw [State.regCmd, if_neg (by rw [h.1]; exact Bool.false_ne_true)]
  dsimp only
  rw [hw]

/-! ### Counters -/

/-- A counter's row: one field of 32 bits that 0 clears. -/
def counterRow (off : Nat) : Bool :=
  match (rowAt off).fields with
  | [f] => f.lo == 0 && f.hi == 31 && (f.acc == .cnt || f.acc == .clr0)
  | _ => false

theorem someCounters_row : ∀ off ∈ someCounters, regAlone off 1 = true ∧ counterRow off = true := by decide +kernel

theorem counterRow_newWord {off : Nat} (h : counterRow off = true) (old val : Word) :
    (rowAt off).newWord old val = if val = 0 then 0 else old := by
  unfold counterRow at h
  split at h
  · next f hf =>
    simp only [Bool.and_eq_true, beq_iff_eq, Bool.or_eq_true] at h
    obtain ⟨⟨hlo, hhi⟩, ha⟩ := h
    have hmask : old.toNat &&& fieldMask f = old.toNat := by
      rw [fieldMask, hlo, hhi]
      exact Nat.and_two_pow_sub_one_of_lt_two_pow old.isLt
    have hw : fieldWrite f old.toNat val.toNat = if val.toNat = 0 then 0 else old.toNat := by
      rcases ha with ha | ha <;> simp only [fieldWrite, ha, hmask]
    simp only [RegRow.newWord, hf, List.foldl_cons, List.foldl_nil, hw]
    by_cases hv : val = 0
    · simp [hv]
    · rw [if_neg hv, if_neg (by simpa [← BitVec.toNat_inj] using hv)]
      simp
  · simp at h

theorem State.entryOf_someCounters (s : State) (mid : Nat) : ∀ off ∈ someCounters, s.entryOf mid off = none := by
  intro off h
  simp only [someCounters, List.mem_cons, List.not_mem_nil, or_false] at h
  rcases h with rfl | rfl | rfl | rfl | rfl | rfl | rfl | rfl <;> simp (decide := true) [State.entryOf]

theorem someCounters_plain : ∀ off ∈ someCounters, isSel off = false ∧ off ≠ PNT_ATTR_DATA.off ∧
    ¬ (0x1C0000 ≤ off ∧ off < 0x1D0000 ∧ 0x1000 ≤ off % 0x2000) := by decide

theorem State.blkTop_someCounters (s : State) {r : RegWr} (h : r.off ∈ someCounters) : s.blkTop r = s.plain r := by
  simp only [someCounters, List.mem_cons, List.not_mem_nil, or_false] at h
  rcases h with h | h | h | h | h | h | h | h <;>
    simp (decide := true) [State.blkTop, State.blkWrite, State.blkPower, State.blkSump, State.blkTime, State.blkPoint, State.blkSwitch,
      State.blkBridge, State.blkUsbFeed, h]

theorem State.someCounters_blkTop (s : State) (m : Master) {off : Nat} (h : off ∈ someCounters) (val : Word) :
    s.blkTop (s.regWr m off val) = (stOK, s.wr off (if val = 0 then 0 else s.rd off)) := by
  obtain ⟨hsel, hattr, hcan⟩ := someCounters_plain off h
  have hkey : s.keyOfReg m off = off := by
    simp only [State.keyOfReg, hsel, s.entryOf_someCounters m.mid.val off h, Bool.false_eq_true, if_false]
  have hword : s.storedWord m off = s.rd off := by rw [State.storedWord, if_neg (not_or.2 ⟨hattr, hcan⟩), hkey]
  rw [State.blkTop_someCounters s (by exact h), State.regWr, hkey, hword, counterRow_newWord (someCounters_row off h).2]
  rfl

/-- Settles O13. -/
theorem multiwordAndCounters : Obligations.MultiwordAndCounters := by
  unfold Obligations.MultiwordAndCounters
  refine ⟨fun m s hs => ?_, fun m off val s hoff hs => ?_, fun m off val s hoff hs => ?_⟩
  · have hdone := State.serves_masterRead hs (by decide) (State.serves_readTime hs)
    obtain ⟨hfin, hresp, hlat, hframe⟩ := latched_answer s (s.timeLatches m) m stOK (bytesLE 4 (wordOf s.clep.frac).toNat) (State.serves_noReset hs)
    obtain ⟨hns, hlo, hhi⟩ := mwGet_timeLatches s m
    refine ⟨_, by rw [exec_multiwordReadLatch, hdone, hfin], ?_, ?_, ?_, ?_, hframe⟩
    · rw [hresp, wordOf_bytes]
    · rw [hlat, hns]; rfl
    · rw [hlat, hlo]; rfl
    · rw [hlat, hhi]; rfl
  · have table : ∀ off ∈ [TIME_INC_LO.off, TIME_EPOCH_LO.off, TIME_SLEW_INC.off, TIME_SET_NS.off, RING_APPLY_LO.off],
        regRow off = some (rowAt off) ∧ stagedLow off = true := by decide +kernel
    have hdone := State.serves_regCmd_of hs (State.serves_stage hs (table off hoff).1 (table off hoff).2 0 val)
    obtain ⟨hfin, hresp, hstaging, hframe⟩ := staged_answer s (mwPut s.staging m.mid.val off val) m (State.serves_noReset hs)
    exact ⟨_, by rw [exec_multiwordStagedWrite, hdone, hfin], hresp, by rw [hstaging, mwGet_mwPut_same], hframe⟩
  · have hfin := State.serves_finish hs (someCounters_row off hoff).1 (s.someCounters_blkTop m hoff val)
      (by rw [State.wr_resetReq, State.serves_noReset hs]) (s.wr_pending _ _)
    refine ⟨_, by rw [exec_counterClear, hfin], ?_, ?_, fun k hk => ?_, State.wr_answer_frame ..⟩
    · rfl
    · rw [State.answer_rd, State.rd_wr_same]
    · rw [State.answer_rd, State.rd_wr_ne]
      simpa using hk

end Sys2Proof.Machine
end

section
/-! What the operations on points leave (R52 to R88): a record stored changes that record, its tile's header word, the direct levels that the
point's output bindings drive (R315) and the prefetch buffer. -/

namespace Sys2Proof.Machine

/-! ### Counting whatever the counter holds -/

/-- The saturation register of a counter (R43). -/
def satKey (off : Nat) : Nat :=
  match regRow off with
  | some ⟨base, _, _, some (sat, _)⟩ => sat + (off - base)
  | _ => off

theorem State.bump_eff (s : State) {off : Nat} {l : List Nat} (hk : isPendKey off = false) (hs : isPendKey (satKey off) = false) (hl : off ∈ l)
    (hsl : satKey off ∈ l) : Eff s (s.bump off).1 l := by
  unfold State.bump
  dsimp only
  split
  · exact Eff.wr s _ hk hl
  · split
    · exact Eff.refl s l
    · split
      · next base _ _ sat bit hr =>
        have hkey : satKey off = sat + (off - base) := by rw [satKey, hr]
        rw [hkey] at hs hsl
        exact (Eff.wr s _ hk hl).trans (Eff.wr _ _ hs hsl)
      · exact Eff.wr s _ hk hl

theorem Eff.countAny (s : State) {off : Nat} {l : List Nat} (h : off < 2 ^ 22) (hk : isPendKey off = false)
    (hs : isPendKey (satKey off) = false) (hl : off ∈ l) (hsl : satKey off ∈ l) : Eff s (s.count off) l := by
  have hb := s.bump_eff hk hs hl hsl
  unfold State.count
  generalize s.bump off = r at *
  obtain ⟨t, b⟩ := r
  dsimp only at *
  split
  · exact hb.trans (Eff.raise t (satEvent_lt off h) (by decide) l)
  · exact hb

/-- The registers that an operation on points may change. -/
def pointRegs : List Nat :=
  (List.range 16).map FIO_LEVEL.off ++ [BRG_PF_DROP.off, BRG_SAT.off, PNT_STALE_CNT.off, PNT_REJECT_CNT.off, PNT_TILE_CNT.off,
    PNT_CFGERR_CNT.off, PNT_STAT.off]

/-- The counters of the point engine and of the prefetch buffer. -/
def pointCounters : List Nat := [BRG_PF_DROP.off, PNT_STALE_CNT.off, PNT_REJECT_CNT.off, PNT_TILE_CNT.off, PNT_CFGERR_CNT.off]

theorem pointCounters_keys : ∀ k ∈ pointCounters,
    k < 2 ^ 22 ∧ isPendKey k = false ∧ isPendKey (satKey k) = false ∧ k ∈ pointRegs ∧ satKey k ∈ pointRegs := by decide +kernel

/-- What an operation on points keeps: time, the tables beside the records, every register but the listed ones, and the accesses. -/
structure PtFrame (s t : State) (l : List Nat) : Prop where
  eff : Eff s t l
  clep : t.clep = s.clep
  prof : t.pts.prof = s.pts.prof
  waits : t.pts.waits = s.pts.waits
  pending : t.pending = s.pending
  resp : t.resp = s.resp

namespace PtFrame

theorem refl (s : State) (l : List Nat) : PtFrame s s l := ⟨Eff.refl s l, rfl, rfl, rfl, rfl, rfl⟩

theorem trans {s t u : State} {l : List Nat} (a : PtFrame s t l) (b : PtFrame t u l) : PtFrame s u l :=
  ⟨a.eff.trans b.eff, b.clep.trans a.clep, b.prof.trans a.prof, b.waits.trans a.waits, b.pending.trans a.pending, b.resp.trans a.resp⟩

theorem mono {s t : State} {l l' : List Nat} (a : PtFrame s t l) (h : ∀ k ∈ l, k ∈ l') : PtFrame s t l' :=
  ⟨a.eff.mono h, a.clep, a.prof, a.waits, a.pending, a.resp⟩

theorem of_bare {s t : State} {l : List Nat} (he : Eff s t l) (hb : t.bare = s.bare) : PtFrame s t l := by
  obtain ⟨hpend, _, _, _, hresp, _, hclep, _, hpts, _⟩ := State.sameStores_of_bare hb
  exact ⟨he, hclep, by rw [hpts], by rw [hpts], hpend, hresp⟩

end PtFrame

/-- An operation that leaves the point table as it is. -/
structure PtSame (s t : State) (l : List Nat) : Prop extends PtFrame s t l where
  pts : t.pts = s.pts

namespace PtSame

theorem refl (s : State) (l : List Nat) : PtSame s s l := ⟨PtFrame.refl s l, rfl⟩

theorem trans {s t u : State} {l : List Nat} (a : PtSame s t l) (b : PtSame t u l) : PtSame s u l :=
  ⟨a.toPtFrame.trans b.toPtFrame, b.pts.trans a.pts⟩

theorem of_bare {s t : State} {l : List Nat} (he : Eff s t l) (hb : t.bare = s.bare) : PtSame s t l :=
  ⟨PtFrame.of_bare he hb, (State.sameStores_of_bare hb).2.2.2.2.2.2.2.2.1⟩

theorem count (s : State) {k : Nat} (hk : k ∈ pointCounters) : PtSame s (s.count k) pointRegs := by
  obtain ⟨hlt, hpend, hsat, hl, hsl⟩ := pointCounters_keys k hk
  exact of_bare (Eff.countAny s hlt hpend hsat hl hsl) (s.count_bare hlt)

theorem raise (s : State) {ev cls : Nat} (hev : ev < 512) (hc : cls < 4) (l : List Nat) : PtSame s (s.raise ev cls) l :=
  of_bare (Eff.raise s hev hc l) (s.raise_raised cls hev).bare

/-- An output binding drives its direct level (R310, R315). -/
theorem setD (s : State) {n : Nat} (hn : n < 256) (b : Bool) : PtSame s (s.setD n b) pointRegs := by
  have hlevel : FIO_LEVEL.off (n / 16) ∈ pointRegs :=
    List.mem_append_left _ (List.mem_map_of_mem (List.mem_range.2 (by omega)))
  have hpend : isPendKey (FIO_LEVEL.off (n / 16)) = false := by
    have table : ∀ k ∈ (List.range 16).map FIO_LEVEL.off, isPendKey k = false := by decide
    exact table _ (List.mem_map_of_mem (List.mem_range.2 (by omega)))
  unfold State.setD
  dsimp only
  generalize BitVec.ofNat 32 _ = w
  have hw : PtSame s (s.wr (FIO_LEVEL.off (n / 16)) w) pointRegs := of_bare (Eff.wr s w hpend hlevel) rfl
  generalize s.wr (FIO_LEVEL.off (n / 16)) w = u at *
  split
  · exact hw.trans ⟨⟨Eff.of_regs _, rfl, rfl, rfl, rfl, rfl⟩, rfl⟩
  · exact hw

theorem foldl {α : Type} {f : State → α → State} {l : List Nat} : ∀ {es : List α} {s : State},
    (∀ t, ∀ e ∈ es, PtSame t (f t e) l) → PtSame s (es.foldl f s) l
  | [], s, _ => refl s l
  | e :: _, s, h => (h s e List.mem_cons_self).trans (foldl (fun t x hx => h t x (List.mem_cons_of_mem e hx)))

theorem pfDrop (s : State) : PtSame s s.pfDrop pointRegs := by
  unfold State.pfDrop
  split
  · refine PtSame.trans ?_ (count _ (k := BRG_PF_DROP.off) (by decide))
    exact ⟨⟨Eff.of_regs _, rfl, rfl, rfl, rfl, rfl⟩, rfl⟩
  · exact refl s _

theorem pfTile (s : State) (t : Nat) : PtSame s (s.pfTile t) pointRegs := by
  unfold State.pfTile
  split
  · exact pfDrop s
  · exact refl s _

end PtSame

theorem State.boundPins_lt (s : State) (i : Nat) : ∀ e ∈ s.boundPins i, e.1 < 256 := by
  intro e he
  simp only [State.boundPins, State.listed, List.mem_filterMap] at he
  obtain ⟨a, ⟨x, _, hx⟩, ha⟩ := he
  split at hx
  · next hr =>
    have ha1 : a.1 < 256 := by
      have h1 := congrArg Prod.fst (Option.some.inj hx)
      dsimp only at h1
      omega
    split at ha
    · rw [← congrArg Prod.fst (Option.some.inj ha)]
      exact ha1
    · simp at ha
  · simp at hx

/-- The level bindings of a point drive their direct levels (R315). -/
theorem PtSame.bindings (s : State) (i : Nat) :
    PtSame s ((s.boundPins i).foldl (fun s e => s.setD e.1 (s.bindLevel i e.2)) s) pointRegs :=
  PtSame.foldl fun t e he => PtSame.setD t (s.boundPins_lt i e he) _

/-! ### Storing a record -/

/-- The records replaced. -/
def State.setRecs (s : State) (x : SMap PRec) : State := { s with pts := { s.pts with recs := x } }

theorem State.setRecs_frame (s : State) (x : SMap PRec) (l : List Nat) : PtFrame s (s.setRecs x) l := ⟨Eff.of_regs _, rfl, rfl, rfl, rfl, rfl⟩

theorem State.setHdr_frame (s : State) (t : Nat) (w : Word) (l : List Nat) : PtFrame s (s.setHdr t w) l := ⟨Eff.of_regs _, rfl, rfl, rfl, rfl, rfl⟩

/-- What storing a record leaves of the point table. -/
structure Stored (s t : State) (i : Nat) (r : PRec) : Prop where
  frame : PtFrame s t pointRegs
  recs : t.pts.recs = SMap.set PRec.dflt s.pts.recs i r
  cache : t.pts.cache = s.pts.cache
  refresh : t.pts.refresh = s.pts.refresh
  hdr : ∀ k, k ≠ i / 16 → t.tileHdr k = s.tileHdr k

theorem State.tileHdr_of_pts {s t : State} (h : t.pts = s.pts) (k : Nat) : t.tileHdr k = s.tileHdr k := by rw [State.tileHdr, State.tileHdr, h]

/-- The record in its table, with the prefetch buffer's answer. -/
def State.placed (s : State) (i : Nat) (r : PRec) : State := (s.setRecs (SMap.set PRec.dflt s.pts.recs i r)).pfTile (i / 16)

/-- The header word after a record has changed (R83). -/
def State.hdrAfter (s : State) (i : Nat) (r : PRec) : Word :=
  (s.placed i r).tileHdr (i / 16) ^^^ BitVec.ofNat 32 (crcDelta (i % 16) (s.pt i).bytes r.bytes)

theorem State.putRec_eq (s : State) (i : Nat) (r : PRec) :
    s.putRec i r = if r = s.pt i then s.placed i r else
      (((s.placed i r).setHdr (i / 16) (s.hdrAfter i r)).boundPins i).foldl (fun s e => s.setD e.1 (s.bindLevel i e.2))
        ((s.placed i r).setHdr (i / 16) (s.hdrAfter i r)) := rfl

theorem State.putRec_stored (s : State) (i : Nat) (r : PRec) : Stored s (s.putRec i r) i r := by
  have hset : PtFrame s (s.setRecs (SMap.set PRec.dflt s.pts.recs i r)) pointRegs := s.setRecs_frame _ _
  have hpf := PtSame.pfTile (s.setRecs (SMap.set PRec.dflt s.pts.recs i r)) (i / 16)
  rw [s.putRec_eq, State.placed]
  generalize s.hdrAfter i r = w
  have hrecs : (s.setRecs (SMap.set PRec.dflt s.pts.recs i r)).pts = { s.pts with recs := SMap.set PRec.dflt s.pts.recs i r } := rfl
  generalize s.setRecs (SMap.set PRec.dflt s.pts.recs i r) = u at *
  generalize u.pfTile (i / 16) = v at *
  have hv : v.pts = { s.pts with recs := SMap.set PRec.dflt s.pts.recs i r } := hpf.pts.trans hrecs
  split
  · exact ⟨hset.trans hpf.toPtFrame, by rw [hv], by rw [hv], by rw [hv], fun k _ => by rw [State.tileHdr, hv]; rfl⟩
  · have hhdr := v.setHdr_frame (i / 16) w pointRegs
    have hdone := PtSame.bindings (v.setHdr (i / 16) w) i
    have hpts : (v.setHdr (i / 16) w).pts = { v.pts with hdr := SMap.set hdrDflt v.pts.hdr (i / 16) w } := rfl
    refine ⟨((hset.trans hpf.toPtFrame).trans hhdr).trans hdone.toPtFrame, ?_, ?_, ?_, fun k hk => ?_⟩
    · rw [hdone.pts, hpts, hv]
    · rw [hdone.pts, hpts, hv]
    · rw [hdone.pts, hpts, hv]
    · rw [State.tileHdr_of_pts hdone.pts, v.setHdr_tileHdr_ne w hk, State.tileHdr, hv]
      rfl

end Sys2Proof.Machine
end

section
/-! PROOF of PointReadReturnsTheRecord (R61, R67; log entries 22 and 148). A read of one record touches its tile, judges its freshness and returns
what then stands. -/

namespace Sys2Proof.Machine

/-! ### What a stored record reads as -/

theorem State.pt_of_recs {s t : State} (h : t.pts.recs = s.pts.recs) (j : Nat) : t.pt j = s.pt j := by rw [State.pt, State.pt, h]

namespace Stored

variable {s t : State} {i : Nat} {r : PRec}

theorem pt_same (h : Stored s t i r) : t.pt i = r := by rw [State.pt, h.recs, Laws.get_set_same]

theorem pt_ne (h : Stored s t i r) {j : Nat} (hj : j ≠ i) : t.pt j = s.pt j := by rw [State.pt, h.recs, Laws.get_set_ne _ _ hj, State.pt]

/-- What leaves the table as it is may follow. -/
theorem then_same {u : State} (h : Stored s t i r) (hu : PtSame t u pointRegs) : Stored s u i r :=
  ⟨h.frame.trans hu.toPtFrame, by rw [hu.pts, h.recs], by rw [hu.pts, h.cache], by rw [hu.pts, h.refresh],
    fun k hk => by rw [State.tileHdr_of_pts hu.pts, h.hdr k hk]⟩

end Stored

/-! ### The tile of a point in the cache -/

theorem State.verifyTile_good {s : State} {k : Nat} (h : s.tileSound k = true) : s.verifyTile k false false = s := by
  rw [State.verifyTile, h]
  rfl

/-- A tile whose bytes agree with its CRC comes to the front of the cache, and nothing else changes (R82). -/
theorem State.touchTile_good {s : State} {k : Nat} (h : s.tileGood k) : s.touchTile k = s.pushTile k := by
  rw [State.touchTile]
  split
  · rfl
  · next hc => rw [State.verifyTile_good (h.resolve_left hc)]

theorem State.pushTile_frame (s : State) (k : Nat) (l : List Nat) : PtFrame s (s.pushTile k) l := ⟨Eff.of_regs _, rfl, rfl, rfl, rfl, rfl⟩

theorem State.pushTile_recs (s : State) (k : Nat) : (s.pushTile k).pts.recs = s.pts.recs ∧ (s.pushTile k).pts.refresh = s.pts.refresh := ⟨rfl, rfl⟩

/-! ### Freshness -/

/-- The record that a point too old takes (R67). -/
def State.staleRec (s : State) (i : Nat) : PRec :=
  if s.flag (PNT_PROF_CFG.ONSTALE.at (s.profOf i)) then ⟨BitVec.ofNat 64 (s.safeOf (s.profOf i)), s.fns48, qSubst, (s.pt i).typ⟩
  else { s.pt i with qual := qStale }

theorem State.pointOld_iff (s : State) (i : Nat) : s.pointOld i = true ↔
    ¬ ((s.pt i).qual ≠ qGood ∨ s.g (PNT_PROF_FRESH.FRESH.at (s.profOf i)) = 0 ∨
      (s.us24 + 2 ^ 24 - SMap.get (fun _ => 0) s.pts.refresh i) % 2 ^ 24 ≤ s.g (PNT_PROF_FRESH.FRESH.at (s.profOf i))) := by
  simp only [State.pointOld, Bool.and_eq_true, decide_eq_true_eq]
  omega

theorem State.fresh_young {s : State} {i : Nat} (h : (s.pt i).typ = tyUndef ∨ s.pointOld i = false) : s.fresh i = s := by
  have hy : (s.pt i).typ = tyUndef ∨ (s.pt i).qual ≠ qGood ∨ s.g (PNT_PROF_FRESH.FRESH.at (s.profOf i)) = 0 ∨
      (s.us24 + 2 ^ 24 - SMap.get (fun _ => 0) s.pts.refresh i) % 2 ^ 24 ≤ s.g (PNT_PROF_FRESH.FRESH.at (s.profOf i)) := by
    refine h.imp_right fun h => ?_
    by_contra hc
    rw [(s.pointOld_iff i).2 hc] at h
    simp at h
  exact if_pos hy

theorem State.fresh_old {s : State} {i : Nat} (ht : (s.pt i).typ ≠ tyUndef) (h : s.pointOld i = true) :
    s.fresh i = (s.putRec i (s.staleRec i)).count PNT_STALE_CNT.off := by
  have ho := not_or.2 ⟨ht, (s.pointOld_iff i).1 h⟩
  refine (if_neg ho).trans ?_
  rw [State.staleRec]
  split <;> rfl

/-- A point judged for its freshness: the record it then has. -/
def State.freshRec (s : State) (i : Nat) : PRec := if s.pointOld i = false then s.pt i else s.staleRec i

theorem State.fresh_leaves (s : State) {i : Nat} (ht : (s.pt i).typ ≠ tyUndef) :
    PtFrame s (s.fresh i) pointRegs ∧ (s.fresh i).pt i = s.freshRec i ∧ ∀ j, j ≠ i → (s.fresh i).pt j = s.pt j := by
  unfold State.freshRec
  cases h : s.pointOld i with
  | false =>
    rw [State.fresh_young (.inr h), if_pos rfl]
    exact ⟨PtFrame.refl s _, rfl, fun _ _ => rfl⟩
  | true =>
    rw [State.fresh_old ht h, if_neg (by simp)]
    have hst := (s.putRec_stored i (s.staleRec i)).then_same (PtSame.count _ (k := PNT_STALE_CNT.off) (by decide))
    exact ⟨hst.frame, hst.pt_same, fun j hj => hst.pt_ne hj⟩

/-! ### The read -/

theorem PRec.bytes_length (r : PRec) : r.bytes.length = 16 := by simp [PRec.bytes]

/-- A read of one whole record by a master of this node. -/
theorem State.pointRead_one {s : State} {m : Master} {i : Nat} (hi : i < 262144) (hm : isLocal m = true) (ht : (s.pt i).typ ≠ tyUndef)
    (hr : (s.pt i).typ ≠ tyReadsens) (item : Bool) :
    s.pointRead m (16 * i) 16 item = (stOK, ((s.freshRead i).pt i).bytes, s.freshRead i) := by
  have hform : Machine.readForm m (16 * i) 16 = some (i, 1) := by
    rw [Machine.readForm]
    simp [show 16 * i / 16 = i by omega]
  have hdefd : (((List.range 1).map (· + i)).filter (fun j => (s.pt j).typ != tyUndef)) = [i] := by simp [ht]
  have hread : s.readPts i 1 = (((s.freshRead i).pt i).bytes, s.freshRead i) := by simp [State.readPts]
  simp only [State.pointRead, hform, hdefd, hread, hm, hr, show 16 * i % 16 = 0 by omega]
  rw [if_neg (by omega)]
  simp [List.take_of_length_le, PRec.bytes_length]

/-- A load of one whole record. -/
theorem State.served_masterRead {s : State} {m : Master} {i : Nat} (h : s.pointServed m i) (ht : (s.pt i).typ ≠ tyUndef)
    (hr : (s.pt i).typ ≠ tyReadsens) :
    s.masterRead m (ownAddr 0 (16 * i)) 16 = (s.freshRead i).answer m stOK ((s.freshRead i).pt i).bytes := by
  obtain ⟨hi, hm, hgate, _⟩ := h
  have haddr : ownAddr 0 (16 * i) = 0 * 2 ^ 40 + 16 * i := by rw [ownAddr, Nat.mod_eq_of_lt (by omega)]
  simp only [haddr, State.masterRead, s.isHere_own (space := 0) (off := 16 * i) (by decide) (by omega), if_true, State.localRead,
    adSpace_own (space := 0) (off := 16 * i) (by decide) (by omega), adOff_own (space := 0) (off := 16 * i) (by omega), hgate,
    State.pointRead_one hi hm ht hr]
  simp

/-- A command that ends with an answer. -/
theorem State.finish_answer {s u : State} (hr : u.resetReq = none) (hp : u.pending = s.pending) (m : Master) (st : Nat) (d : List Byte) :
    s.finish (u.answer m st d) = u.answer m st d := State.finish_kept hr hp

theorem exec_pointRead (m : Master) (off len : Nat) (s : State) :
    exec (.pointRead m off len) s = .next (s.finish (s.masterRead m (ownAddr 0 off) len)) := by rfl

/-- The tile pushed, a point reads as before. -/
theorem State.pushTile_reads (s : State) (k i : Nat) :
    (s.pushTile k).pt = s.pt ∧ (s.pushTile k).freshRec i = s.freshRec i ∧ (s.pushTile k).pointOld i = s.pointOld i := ⟨rfl, rfl, rfl⟩

theorem State.pushTile_frame_cache (s : State) (k : Nat) (m : Master) (st : Nat) (d : List Byte) :
    { (s.pushTile k).answer m st d with resp := s.resp, pts := { ((s.pushTile k).answer m st d).pts with cache := s.pts.cache } } = s := rfl

/-- Settles O16. -/
theorem pointReadReturnsTheRecord : Obligations.PointReadReturnsTheRecord := by
  unfold Obligations.PointReadReturnsTheRecord
  intro m i s hs ht hr hgood
  have hread := State.served_masterRead hs ht hr
  obtain ⟨hpt, hrec, hold⟩ := s.pushTile_reads (i / 16) i
  rw [State.freshRead, State.touchTile_good hgood] at hread
  have ht' : ((s.pushTile (i / 16)).pt i).typ ≠ tyUndef := by rw [hpt]; exact ht
  obtain ⟨hframe, hsame, hother⟩ := (s.pushTile (i / 16)).fresh_leaves ht'
  have hall := (s.pushTile_frame (i / 16) pointRegs).trans hframe
  obtain ⟨_, _, _, hreset⟩ := hs
  refine ⟨((s.pushTile (i / 16)).fresh i).answer m stOK (((s.pushTile (i / 16)).fresh i).pt i).bytes, ?_, ?_, rfl, fun j hj => ?_, fun hy => ?_⟩
  · rw [exec_pointRead, hread, State.finish_answer (hall.eff.resetReq.trans hreset) hall.pending]
  · exact (hsame.trans hrec).trans (by unfold State.freshRec State.staleRec; rfl)
  · exact (hother j hj).trans (by rw [hpt])
  · rw [State.fresh_young (.inr (hold.trans hy))]
    exact s.pushTile_frame_cache (i / 16) m stOK _

end Sys2Proof.Machine
end

section
/-! PROOF of PointWriteStores and PointAtomicActs (R56, R58, R59, R62, R64; log entries 18 and 146). Both come to an owner's write of the point. -/

namespace Sys2Proof.Machine

/-! ### An owner's write -/

theorem State.us24_congr {s t : State} (hc : t.clep = s.clep) (h : t.rd64 TIME_EPOCH_LO.off = s.rd64 TIME_EPOCH_LO.off) : t.us24 = s.us24 := by
  rw [State.us24, State.us24, State.fns, State.fns, State.epochSec, State.epochSec, hc, h]

namespace PtFrame

variable {s t : State}

theorem epoch (h : PtFrame s t pointRegs) : t.rd64 TIME_EPOCH_LO.off = s.rd64 TIME_EPOCH_LO.off :=
  State.rd64_congr (h.eff.word (by decide) (by decide)) (h.eff.word (by decide) (by decide))

theorem us24 (h : PtFrame s t pointRegs) : t.us24 = s.us24 := State.us24_congr h.clep h.epoch

theorem fns48 (h : PtFrame s t pointRegs) : t.fns48 = s.fns48 := State.fns48_congr h.clep h.epoch

end PtFrame

theorem State.refreshPt_leaves (s : State) (i : Nat) (l : List Nat) : PtFrame s (s.refreshPt i) l ∧ (s.refreshPt i).pts.recs = s.pts.recs ∧
    SMap.get (fun _ => 0) (s.refreshPt i).pts.refresh i = s.us24 ∧ (s.refreshPt i).pts.cache = s.pts.cache := by
  refine ⟨⟨Eff.of_regs _, rfl, rfl, rfl, rfl, rfl⟩, rfl, ?_, rfl⟩
  rw [State.refreshPt, Laws.get_set_same]

/-- What an owner's write of a valid encoding leaves (R56, R58). -/
structure Owned (s t : State) (i : Nat) (r : PRec) : Prop where
  frame : PtFrame s t pointRegs
  pt : t.pt i = r
  other : ∀ j, j ≠ i → t.pt j = s.pt j
  refresh : SMap.get (fun _ => 0) t.pts.refresh i = s.us24
  cache : t.pts.cache = (s.pushTile (i / 16)).pts.cache

theorem State.ownerWrite_owned {s : State} {i v stamp q : Nat} (ht : (s.pt i).typ ≠ tyUndef) (henc : encOk (s.pt i).typ (v % 2 ^ 64) = true)
    (hgood : s.tileGood (i / 16)) :
    Owned s (s.ownerWrite i v stamp q) i ⟨BitVec.ofNat 64 v, stamp % 2 ^ 48, q, (s.pt i).typ⟩ := by
  have hdone : s.ownerWrite i v stamp q =
      ((s.pushTile (i / 16)).putRec i ⟨BitVec.ofNat 64 v, stamp % 2 ^ 48, q, (s.pt i).typ⟩).refreshPt i := by
    rw [State.ownerWrite, if_neg ht, henc, State.touchTile_good hgood]
    rfl
  rw [hdone]
  have hpush := s.pushTile_frame (i / 16) pointRegs
  have hst := (s.pushTile (i / 16)).putRec_stored i ⟨BitVec.ofNat 64 v, stamp % 2 ^ 48, q, (s.pt i).typ⟩
  generalize (s.pushTile (i / 16)).putRec i ⟨BitVec.ofNat 64 v, stamp % 2 ^ 48, q, (s.pt i).typ⟩ = u at *
  obtain ⟨href, hrecs, htime, hcache⟩ := u.refreshPt_leaves i pointRegs
  have hu := hpush.trans hst.frame
  exact ⟨hu.trans href, (State.pt_of_recs hrecs i).trans hst.pt_same, fun j hj => (State.pt_of_recs hrecs j).trans (hst.pt_ne hj),
    htime.trans hu.us24, hcache.trans hst.cache⟩

/-! ### A store of one VALUE -/

theorem writeValue_bytesLE (v : BitVec 64) : writeValue (bytesLE 8 v.toNat) 0 = v.toNat := by
  rw [writeValue, Nat.mul_zero, slice_all (bytesLE_length 8 _), natLE_bytesLE]
  exact Nat.mod_eq_of_lt v.isLt

/-- A LOCAL point's write by a permitted master is judged OK (R55, R59, R62). -/
theorem State.localJudge_ok {s : State} {m : Master} {i v : Nat} (hm : isLocal m = true) (hk : s.ownerKind i = okLocal) (hw : s.wrOk m i = true)
    (henc : encOk (s.pt i).typ v = true) : s.localJudge m i v = stOK := by
  simp [State.localJudge, hm, hk, hw, henc]

/-- A state write of one VALUE, its tile in the cache and nothing waiting for it. -/
theorem State.stateWrite_one {s : State} {m : Master} {i : Nat} {v : BitVec 64} (hj : s.localJudge m i v.toNat = stOK)
    (hc : s.pts.cache.contains (i / 16) = true) (hw : ∀ w ∈ s.pts.waits, w.first / 16 ≠ i / 16) (path : Path) :
    s.stateWrite m i 1 (bytesLE 8 v.toNat) path =
      (.done stOK [], (s.touchTile (i / 16)).ownerWrite i v.toNat (s.touchTile (i / 16)).fns48 qGood) := by
  have hverd : s.localVerdict m i (bytesLE 8 v.toNat) 1 = [stOK] := by
    simp [State.localVerdict, writeValue_bytesLE, hj]
  have hwaits : s.pts.waits.any (fun w => w.first / 16 == i / 16) = false := by
    rw [List.any_eq_false]
    exact fun w hw' => by simpa using hw w hw'
  have hrecs : ∀ u : State, u.localRecs i (bytesLE 8 v.toNat) [stOK] = (stOK, u.ownerWrite i v.toNat u.fns48 qGood) := by
    intro u
    simp [State.localRecs, State.localRec, writeValue_bytesLE]
  simp only [State.stateWrite, hverd, hc, hwaits, hrecs]
  rfl

theorem State.writeKind_local {s : State} {i : Nat} (ht : (s.pt i).typ ≠ tyUndef) (hk : s.ownerKind i = okLocal) : s.writeKind i 1 = .inl 0 := by
  have hdefd : (((List.range 1).map (· + i)).filter (fun j => (s.pt j).typ != tyUndef)) = [i] := by simp [ht]
  have hrow : s.writeRow i = 0 := by simp (decide := true) [State.writeRow, hk]
  simp only [State.writeKind, hdefd, hrow]
  simp

theorem writeForm_value (i n : Nat) (h : n = 8) : writeForm (16 * i) n = some (i, 1) := by
  simp [writeForm, h, show 16 * i / 16 = i by omega]

/-- A store of one VALUE to a LOCAL point of this node. -/
theorem State.served_masterWrite {s : State} {m : Master} {i : Nat} {v : BitVec 64} (h : s.pointServed m i) (hk : s.ownerKind i = okLocal)
    (hw : s.wrOk m i = true) (ht : (s.pt i).typ ≠ tyUndef) (henc : encOk (s.pt i).typ v.toNat = true)
    (hc : s.pts.cache.contains (i / 16) = true) (hwait : ∀ w ∈ s.pts.waits, w.first / 16 ≠ i / 16) :
    s.masterWrite m (ownAddr 0 (16 * i)) (bytesLE 8 v.toNat) =
      ((s.touchTile (i / 16)).ownerWrite i v.toNat (s.touchTile (i / 16)).fns48 qGood).answer m stOK [] := by
  obtain ⟨hi, hm, hgate, _⟩ := h
  have haddr : ownAddr 0 (16 * i) = 0 * 2 ^ 40 + 16 * i := by rw [ownAddr, Nat.mod_eq_of_lt (by omega)]
  have hstore : s.pointStore m (0 * 2 ^ 40 + 16 * i) (bytesLE 8 v.toNat) (.store m) =
      (.done stOK [], (s.touchTile (i / 16)).ownerWrite i v.toNat (s.touchTile (i / 16)).fns48 qGood) := by
    simp only [State.pointStore, adOff_own (space := 0) (off := 16 * i) (by omega), bytesLE_length, writeForm_value i 8 rfl,
      State.pointRows, State.writeKind_local ht hk, if_true,
      State.stateWrite_one (State.localJudge_ok hm hk hw henc) hc hwait]
    rw [if_neg (by omega)]
  simp only [haddr, State.masterWrite, s.isHere_own (space := 0) (off := 16 * i) (by decide) (by omega), if_true, State.localWrite,
    adSpace_own (space := 0) (off := 16 * i) (by decide) (by omega), adOff_own (space := 0) (off := 16 * i) (by omega), hgate, hstore]
  simp

theorem exec_pointWrite (m : Master) (off : Nat) (d : List Byte) (s : State) :
    exec (.pointWrite m off d) s = .next (s.finish (s.masterWrite m (ownAddr 0 off) d)) := by rfl

theorem State.tileGood_push (s : State) (k : Nat) : (s.pushTile k).tileGood k := by
  left
  simp [State.pushTile]

/-- Settles O17. -/
theorem pointWriteStores : Obligations.PointWriteStores := by
  unfold Obligations.PointWriteStores
  intro m i v s hs hk hw ht henc hc hwait
  have hdone := State.served_masterWrite hs hk hw ht henc hc hwait
  have hgood : s.tileGood (i / 16) := .inl hc
  rw [State.touchTile_good hgood] at hdone
  have hpush := s.pushTile_frame (i / 16) pointRegs
  have hv : v.toNat % 2 ^ 64 = v.toNat := Nat.mod_eq_of_lt v.isLt
  have howned := State.ownerWrite_owned (s := s.pushTile (i / 16)) (i := i) (v := v.toNat) (stamp := (s.pushTile (i / 16)).fns48) (q := qGood) ht
    (by rw [hv]; exact henc) (s.tileGood_push _)
  obtain ⟨_, _, _, hreset⟩ := hs
  have hall := hpush.trans howned.frame
  generalize (s.pushTile (i / 16)).ownerWrite i v.toNat (s.pushTile (i / 16)).fns48 qGood = u at *
  refine ⟨u.answer m stOK [], by rw [exec_pointWrite, hdone, State.finish_answer (hall.eff.resetReq.trans hreset) hall.pending], rfl,
    (howned.pt.trans ?_), howned.refresh.trans hpush.us24, howned.other⟩
  rw [BitVec.ofNat_toNat, hpush.fns48, Nat.mod_eq_of_lt s.fns48_lt, BitVec.setWidth_eq]
  rfl

/-! ### Atomics -/

theorem exec_pointAtomic (m : Master) (off : Nat) (op : AtomicOp) (a b : BitVec 64) (s : State) :
    exec (.pointAtomic m off op a b) s = .next (s.finish (s.masterAtomic m (ownAddr 0 off) op a b)) := by rfl

theorem State.atomicApply_ok {s : State} {i : Nat} {op : AtomicOp} {a b : BitVec 64} (hk : s.ownerKind i = okLocal)
    (hop : atomicAllows op (s.pt i).typ = true) (henc : encOk (s.pt i).typ (atomicValue op (s.pt i).value a b).toNat = true) :
    s.atomicApply true i op a b =
      (stOK, (s.pt i).value, s.ownerWrite i (atomicValue op (s.pt i).value a b).toNat s.fns48 qGood) := by
  simp [State.atomicApply, hop, hk, henc]

/-- An atomic on a LOCAL point of this node by a permitted master. -/
theorem State.served_masterAtomic {s : State} {m : Master} {i : Nat} {op : AtomicOp} {a b : BitVec 64} (h : s.pointServed m i)
    (hw : s.wrOk m i = true) (ht : (s.pt i).typ ≠ tyUndef) {old : BitVec 64} {u : State}
    (happly : (s.touchTile (i / 16)).atomicApply true i op a b = (stOK, old, u)) :
    s.masterAtomic m (ownAddr 0 (16 * i)) op a b = u.answer m stOK (bytesLE 8 old.toNat) := by
  obtain ⟨hi, _, hgate, _⟩ := h
  have haddr : ownAddr 0 (16 * i) = 0 * 2 ^ 40 + 16 * i := by rw [ownAddr, Nat.mod_eq_of_lt (by omega)]
  have hlocal : s.localAtomic m (0 * 2 ^ 40 + 16 * i) op a b = (stOK, old, u) := by
    simp only [State.localAtomic, adOff_own (space := 0) (off := 16 * i) (by omega), show 16 * i / 16 = i by omega, hw, happly,
      show 16 * i % 16 = 0 by omega, ht, ne_eq, not_true_eq_false, if_false]
    rw [if_neg (by omega)]
  simp only [haddr, State.masterAtomic, s.isHere_own (space := 0) (off := 16 * i) (by decide) (by omega), if_true,
    adSpace_own (space := 0) (off := 16 * i) (by decide) (by omega), adOff_own (space := 0) (off := 16 * i) (by omega), hgate, hlocal]
  simp

/-- Settles O18. -/
theorem pointAtomicActs : Obligations.PointAtomicActs := by
  unfold Obligations.PointAtomicActs
  intro m i op a b s hs hk hw ht hop v henc hgood
  have hpush := s.pushTile_frame (i / 16) pointRegs
  have happly : (s.touchTile (i / 16)).atomicApply true i op a b =
      (stOK, (s.pt i).value, (s.pushTile (i / 16)).ownerWrite i v.toNat (s.pushTile (i / 16)).fns48 qGood) := by
    rw [State.touchTile_good hgood]
    exact State.atomicApply_ok hk hop henc
  have hdone := State.served_masterAtomic hs hw ht happly
  have hv : v.toNat % 2 ^ 64 = v.toNat := Nat.mod_eq_of_lt v.isLt
  have howned := State.ownerWrite_owned (s := s.pushTile (i / 16)) (i := i) (v := v.toNat) (stamp := (s.pushTile (i / 16)).fns48) (q := qGood) ht
    (by rw [hv]; exact henc) (s.tileGood_push _)
  obtain ⟨_, _, _, hreset⟩ := hs
  have hall := hpush.trans howned.frame
  clear happly
  generalize (s.pushTile (i / 16)).ownerWrite i v.toNat (s.pushTile (i / 16)).fns48 qGood = u at *
  refine ⟨u.answer m stOK (bytesLE 8 (s.pt i).value.toNat),
    by rw [exec_pointAtomic, hdone, State.finish_answer (hall.eff.resetReq.trans hreset) hall.pending], rfl, howned.pt.trans ?_, howned.other⟩
  rw [BitVec.ofNat_toNat, hpush.fns48, Nat.mod_eq_of_lt s.fns48_lt, BitVec.setWidth_eq]
  rfl

end Sys2Proof.Machine
end

section
/-! PROOF of TilesAndPatrol (R68, R82, R84, R85; log entries 20, 21, 22 and 149). A confirmed mismatch marks the records of the tile one by one;
the patrol then finds no GOOD point there. -/

namespace Sys2Proof.Machine

/-! ### Marking the records of a tile -/

/-- The record that a point of a failed tile takes (R84). -/
def tileRec (r : PRec) : PRec := if r.typ = tyUndef then PRec.dflt 0 else { r with qual := qTile }

/-- One point of a failed tile. -/
def State.markTile (s : State) (j : Nat) : State := if (s.pt j).typ = tyUndef then s.putRec j (PRec.dflt 0) else s.markQual j qTile

theorem State.markTile_stored (s : State) (j : Nat) : Stored s (s.markTile j) j (tileRec (s.pt j)) := by
  unfold State.markTile tileRec
  split
  · exact s.putRec_stored j _
  · next h =>
    rw [State.markQual, if_neg h]
    exact s.putRec_stored j _

/-- The first `n` points of a tile marked. -/
structure Marked (s t : State) (k n : Nat) : Prop where
  frame : PtFrame s t pointRegs
  pt : ∀ i, i < n → t.pt (16 * k + i) = tileRec (s.pt (16 * k + i))
  other : ∀ j, (∀ i, i < n → j ≠ 16 * k + i) → t.pt j = s.pt j

theorem State.markTile_foldl (s : State) (k n : Nat) : Marked s ((List.range n).foldl (fun s i => s.markTile (16 * k + i)) s) k n := by
  induction n with
  | zero => exact ⟨PtFrame.refl s _, fun i hi => absurd hi (Nat.not_lt_zero i), fun _ _ => rfl⟩
  | succ n ih =>
    rw [List.range_succ, List.foldl_append]
    generalize (List.range n).foldl (fun s i => s.markTile (16 * k + i)) s = u at *
    have hst := u.markTile_stored (16 * k + n)
    rw [ih.other (16 * k + n) fun i hi => by omega] at hst
    refine ⟨ih.frame.trans hst.frame, fun i hi => ?_, fun j hj => ?_⟩
    · by_cases h : i = n
      · rw [h]
        exact hst.pt_same
      · exact (hst.pt_ne (by omega)).trans (ih.pt i (by omega))
    · exact (hst.pt_ne (hj n (by omega))).trans (ih.other j fun i hi => hj i (by omega))

theorem State.tileBytes_of_recs {s t : State} (h : t.pts.recs = s.pts.recs) (k : Nat) : t.tileBytes k = s.tileBytes k := by
  simp only [State.tileBytes, State.pt_of_recs h]

/-- A tile's header word replaced by the CRC of its bytes. -/
theorem State.setHdr_sound {s : State} {k : Nat} {w : Word} (hw : w = BitVec.ofNat 32 (crc32c (s.tileBytes k))) :
    (s.setHdr k w).tileSound k = true := by
  have hb : (s.setHdr k w).tileBytes k = s.tileBytes k := State.tileBytes_of_recs rfl k
  rw [State.tileSound, State.setHdr_tileHdr_same, hb, ← hw, beq_self_eq_true]

theorem State.tileSound_of_pts {s t : State} (h : t.pts = s.pts) (k : Nat) : t.tileSound k = s.tileSound k := by
  rw [State.tileSound, State.tileSound, State.tileHdr_of_pts h, State.tileBytes_of_recs (congrArg Points.recs h)]

/-! ### A tile that failed -/

/-- The index recorded and counted, with the event (R84). -/
def State.tileNoted (s : State) (k : Nat) : State :=
  let rep := s.flag PNT_TILE_LAST.VALID && s.g PNT_TILE_LAST.TILE == k
  let s := ((s.p PNT_TILE_LAST.VALID 1).p PNT_TILE_LAST.TILE k).count PNT_TILE_CNT.off
  if rep then (s.pb PNT_STAT.REPEAT true).raise (evPnt 3) clDegraded else s.raise (evPnt 2) clNote

theorem State.tileFail_eq (s : State) (k : Nat) :
    s.tileFail k = (((List.range 16).foldl (fun s i => s.markTile (16 * k + i)) s).setHdr k
      (BitVec.ofNat 32 (crc32c (((List.range 16).foldl (fun s i => s.markTile (16 * k + i)) s).tileBytes k)))).tileNoted k := rfl

/-- The event of a tile's failure: the fault of a repeat, else the note. -/
def State.tileEv (s : State) (k : Nat) : Nat := if s.flag PNT_TILE_LAST.VALID && s.g PNT_TILE_LAST.TILE == k then evPnt 3 else evPnt 2

theorem State.tileNoted_leaves (s : State) {k : Nat} (hk : k < 16384) :
    PtSame s (s.tileNoted k) (PNT_TILE_LAST.off :: pointRegs) ∧ (s.tileNoted k).evPend (s.tileEv k) = true ∧
      (s.tileNoted k).g PNT_TILE_LAST.TILE = k := by
  have hp : PtSame s ((s.p PNT_TILE_LAST.VALID 1).p PNT_TILE_LAST.TILE k) (PNT_TILE_LAST.off :: pointRegs) :=
    PtSame.of_bare ((Eff.p s PNT_TILE_LAST.VALID 1 (by decide) List.mem_cons_self).trans (Eff.p _ PNT_TILE_LAST.TILE k (by decide) List.mem_cons_self))
      ((Quiet.p s _ _).trans (Quiet.p _ _ _)).bare
  have hset : ((s.p PNT_TILE_LAST.VALID 1).p PNT_TILE_LAST.TILE k).g PNT_TILE_LAST.TILE = k :=
    State.g_p_fit (f := PNT_TILE_LAST.TILE) _ hk (by decide)
  unfold State.tileNoted State.tileEv
  dsimp only
  generalize (s.p PNT_TILE_LAST.VALID 1).p PNT_TILE_LAST.TILE k = u at *
  have hc := PtSame.count u (k := PNT_TILE_CNT.off) (by decide)
  have hcount : (u.count PNT_TILE_CNT.off).g PNT_TILE_LAST.TILE = k := (hc.eff.g (by decide) (by decide)).trans hset
  have hu := hp.trans ⟨hc.toPtFrame.mono (by decide), hc.pts⟩
  generalize u.count PNT_TILE_CNT.off = v at *
  split
  · have hrep : PtSame v (v.pb PNT_STAT.REPEAT true) (PNT_TILE_LAST.off :: pointRegs) := PtSame.of_bare (Eff.pb _ _ _ (by decide) (by decide))
      (Quiet.p v _ _).bare
    have hg : (v.pb PNT_STAT.REPEAT true).g PNT_TILE_LAST.TILE = k := (v.g_pb_sep (f := PNT_STAT.REPEAT) true (by decide)).trans hcount
    refine ⟨(hu.trans hrep).trans (PtSame.raise _ (ev := evPnt 3) (cls := clDegraded) (by decide) (by decide) _), State.raise_pend _ _ (by decide), ?_⟩
    rw [State.raise_g _ _ (by decide) (by decide), hg]
  · refine ⟨hu.trans (PtSame.raise _ (ev := evPnt 2) (cls := clNote) (by decide) (by decide) _), State.raise_pend _ _ (by decide), ?_⟩
    rw [State.raise_g _ _ (by decide) (by decide), hcount]

/-- What a confirmed failure of a tile leaves. -/
structure TileFailed (s t : State) (k : Nat) : Prop where
  frame : PtFrame s t (PNT_TILE_LAST.off :: pointRegs)
  pt : ∀ i, i < 16 → t.pt (16 * k + i) = tileRec (s.pt (16 * k + i))
  other : ∀ j, j / 16 ≠ k → t.pt j = s.pt j
  sound : t.tileSound k = true
  pend : t.evPend (s.tileEv k) = true
  last : t.g PNT_TILE_LAST.TILE = k

theorem State.tileFail_failed (s : State) {k : Nat} (hk : k < 16384) : TileFailed s (s.tileFail k) k := by
  have hm := s.markTile_foldl k 16
  rw [s.tileFail_eq]
  generalize (List.range 16).foldl (fun s i => s.markTile (16 * k + i)) s = u at *
  obtain ⟨w, hw⟩ : ∃ w, w = BitVec.ofNat 32 (crc32c (u.tileBytes k)) := ⟨_, rfl⟩
  rw [← hw]
  have hh := u.setHdr_frame k w pointRegs
  have hsound := State.setHdr_sound hw
  have hrecs : (u.setHdr k w).pts.recs = u.pts.recs := rfl
  generalize u.setHdr k w = v at *
  have hframe := hm.frame.trans hh
  have hev : v.tileEv k = s.tileEv k := by
    rw [State.tileEv, State.tileEv, hframe.eff.flag (by decide) (by decide), hframe.eff.g (by decide) (by decide)]
  obtain ⟨hsame, hpend, hlast⟩ := v.tileNoted_leaves hk
  have hpt : ∀ j, (v.tileNoted k).pt j = u.pt j := fun j => (State.pt_of_recs (by rw [hsame.pts]) j).trans (State.pt_of_recs hrecs j)
  refine ⟨(hframe.mono fun x hx => List.mem_cons_of_mem _ hx).trans hsame.toPtFrame, fun i hi => (hpt _).trans (hm.pt i hi),
    fun j hj => (hpt j).trans (hm.other j fun i hi => by omega), (State.tileSound_of_pts hsame.pts k).trans hsound, hev ▸ hpend, hlast⟩

/-- The same as an injected error (R494). -/
theorem State.asInjected_failed {s : State} {f : State → State} {k : Nat} (h : ∀ u, TileFailed u (f u) k) :
    TileFailed s (s.asInjected f) k := by
  have hf := h { s with sump := { s.sump with injected := true } }
  unfold State.asInjected
  generalize f { s with sump := { s.sump with injected := true } } = t at *
  obtain ⟨⟨⟨hrd, hpend, hkept, hreset⟩, hclep, hprof, hwaits, hpe, hresp⟩, hpt, hother, hsound, hev, hlast⟩ := hf
  exact ⟨⟨⟨hrd, hpend, hkept, hreset⟩, hclep, hprof, hwaits, hpe, hresp⟩, hpt, hother, hsound, hev, hlast⟩

theorem State.asIf_failed {s : State} (b : Bool) {f : State → State} {k : Nat} (h : ∀ u, TileFailed u (f u) k) : TileFailed s (s.asIf b f) k := by
  cases b
  · exact h s
  · exact State.asInjected_failed h

theorem State.injMet_failed {s t : State} {x : Inject} {k : Nat} (h : TileFailed (s.injMet x) t k) : TileFailed s t k := by
  obtain ⟨⟨⟨hrd, hpend, hkept, hreset⟩, hclep, hprof, hwaits, hpe, hresp⟩, hpt, hother, hsound, hev, hlast⟩ := h
  exact ⟨⟨⟨hrd, hpend, hkept, hreset⟩, hclep, hprof, hwaits, hpe, hresp⟩, hpt, hother, hsound, hev, hlast⟩

/-- A tile that both reads of R84 found wrong. -/
theorem State.verifyTile_failed (s : State) {k : Nat} (hk : k < 16384) : TileFailed s (s.verifyTile k true true) k := by
  rw [State.verifyTile, if_pos (by simp)]
  exact State.injMet_failed (State.asIf_failed _ fun u => u.tileFail_failed hk)

/-! ### The patrol -/

theorem exec_patrolVisit (tile : Fin 16384) (b1 b2 : Bool) (s : State) :
    exec (.patrolVisit tile b1 b2) s = .next (s.finish (patrolVisit tile b1 b2 s)) := by rfl

theorem exec_patrolLate (s : State) : exec .patrolLate s = .next (s.finish (patrolLate s)) := by rfl

theorem exec_tileCacheEntry (tile : Fin 16384) (b1 b2 : Bool) (s : State) :
    exec (.tileCacheEntry tile b1 b2) s = .next (s.finish (tileCacheEntry tile b1 b2 s)) := by rfl

theorem tileRec_notGood (r : PRec) : (tileRec r).typ = tyUndef ∨ (tileRec r).qual ≠ qGood := by
  unfold tileRec
  split
  · exact .inl rfl
  · exact .inr (by simp (decide := true))

/-- The patrol finds no point of a failed tile to mark STALE. -/
theorem State.fresh_notGood {s : State} {i : Nat} (h : (s.pt i).typ = tyUndef ∨ (s.pt i).qual ≠ qGood) : s.fresh i = s := by
  refine State.fresh_young (h.imp_right fun h => ?_)
  rw [State.pointOld, decide_eq_false h]
  rfl

theorem State.foldl_fresh {s : State} {k : Nat} : ∀ {l : List Nat}, (∀ i ∈ l, (s.pt (16 * k + i)).typ = tyUndef ∨ (s.pt (16 * k + i)).qual ≠ qGood) →
    l.foldl (fun s i => s.fresh (16 * k + i)) s = s
  | [], _ => rfl
  | i :: l, h => by
    rw [List.foldl_cons, State.fresh_notGood (h i List.mem_cons_self), State.foldl_fresh fun j hj => h j (List.mem_cons_of_mem i hj)]

/-- The pass goes on, or begins anew. -/
def State.patrolSaw (s : State) (k : Nat) : State :=
  let seen := s.pts.patrolSeen ||| 2 ^ k
  if seen = 2 ^ 16384 - 1 then s.patrolBegin else { s with pts := { s.pts with patrolSeen := seen } }

theorem State.patrolSaw_leaves (s : State) (k : Nat) : (s.patrolSaw k).pts.recs = s.pts.recs ∧ (s.patrolSaw k).pts.hdr = s.pts.hdr ∧
    (s.patrolSaw k).regs = s.regs ∧ (s.patrolSaw k).resetReq = s.resetReq ∧ (s.patrolSaw k).pending = s.pending := by
  unfold State.patrolSaw
  dsimp only
  generalize s.pts.patrolSeen ||| 2 ^ k = n
  by_cases h : n = 2 ^ 16384 - 1
  · rw [if_pos h]
    exact ⟨rfl, rfl, rfl, rfl, rfl⟩
  · rw [if_neg h]
    exact ⟨rfl, rfl, rfl, rfl, rfl⟩

theorem patrolVisit_eq {tile : Fin 16384} {s : State} (hd : s.domOn 7 = true) (he : s.flag PNT_PATROL.EN = true)
    (hc : s.pts.cache.contains tile.val = false) :
    patrolVisit tile true true s =
      ((List.range 16).foldl (fun s i => s.fresh (16 * tile.val + i)) (s.verifyTile tile.val true true)).patrolSaw tile.val := by
  have hverify : (if s.pts.cache.contains tile.val then s else s.verifyTile tile.val true true) = s.verifyTile tile.val true true := by
    rw [hc]
    rfl
  rw [← hverify]
  exact if_neg (by rw [hd, he]; simp)

theorem patrolVisit_failed {tile : Fin 16384} {s : State} (hd : s.domOn 7 = true) (he : s.flag PNT_PATROL.EN = true)
    (hc : s.pts.cache.contains tile.val = false) (hs : s.resetReq = none) :
    ∃ t, exec (.patrolVisit tile true true) s = .next t ∧
      (∀ k, k < 16 → t.pt (16 * tile.val + k) =
        if (s.pt (16 * tile.val + k)).typ = tyUndef then ⟨0, 0, 0, 0⟩ else { s.pt (16 * tile.val + k) with qual := qTile }) ∧
      (∀ j, j / 16 ≠ tile.val → t.pt j = s.pt j) ∧ t.tileSound tile.val = true ∧ t.evPend (s.tileEv tile.val) = true ∧
      t.g PNT_TILE_LAST.TILE = tile.val := by
  have hf := s.verifyTile_failed tile.isLt
  have hdone := patrolVisit_eq hd he hc
  rw [State.foldl_fresh fun i hi => by rw [hf.pt i (List.mem_range.1 hi)]; exact tileRec_notGood _] at hdone
  generalize s.verifyTile tile.val true true = u at *
  obtain ⟨hrecs, hhdr, hregs, hreset, hpend⟩ := u.patrolSaw_leaves tile.val
  generalize u.patrolSaw tile.val = t at *
  refine ⟨t, ?_, fun k hk => ?_, fun j hj => ?_, ?_, ?_, ?_⟩
  · rw [exec_patrolVisit, hdone, State.finish_kept (hreset.trans (hf.frame.eff.resetReq.trans hs)) (hpend.trans hf.frame.pending)]
  · rw [State.pt_of_recs hrecs, hf.pt k hk]
    rfl
  · rw [State.pt_of_recs hrecs, hf.other j hj]
  · rw [State.tileSound, State.tileHdr, hhdr, State.tileBytes_of_recs hrecs]
    exact hf.sound
  · rw [State.evPend, State.rd_of_regs hregs]
    exact hf.pend
  · rw [State.g_of_regs hregs, hf.last]

/-! ### A late pass -/

/-- The overrun of a pass reported. -/
def State.patrolOvers (s : State) : State := { s with pts := { s.pts with patrolOver := true } }

theorem patrolOvers_leaves (s : State) : Eff s s.patrolOvers [] ∧ s.patrolOvers.pts = { s.pts with patrolOver := true } ∧
    { s.patrolOvers.bare with pts := s.pts } = s.bare ∧ s.patrolOvers.pending = s.pending := ⟨Eff.of_regs _, rfl, rfl, rfl⟩

theorem patrolLate_eq {s : State} (hd : s.domOn 7 = true) (he : s.flag PNT_PATROL.EN = true) (ho : s.pts.patrolOver = false)
    (hp : 2 * s.patrolNs ≤ s.absNs - s.pts.patrolStart) :
    patrolLate s = (s.patrolOvers.pb PNT_STAT.PATROL_LATE true).raise (evPnt 4) clNote := by
  have hlt : ¬ (s.absNs - s.pts.patrolStart < 2 * s.patrolNs) := Int.not_lt.2 hp
  simp only [patrolLate, hd, he, ho, hlt, State.patrolOvers]
  rfl

theorem patrolLate_leaves {s : State} (hd : s.domOn 7 = true) (he : s.flag PNT_PATROL.EN = true) (ho : s.pts.patrolOver = false)
    (hs : s.resetReq = none) (hp : 2 * s.patrolNs ≤ s.absNs - s.pts.patrolStart) :
    ∃ t, exec .patrolLate s = .next t ∧ t.flag PNT_STAT.PATROL_LATE = true ∧ t.evPend (evPnt 4) = true ∧
      t.pts = { s.pts with patrolOver := true } ∧ s.keepsRegs t [PNT_STAT.off] ∧ { t.bare with pts := s.pts } = s.bare := by
  have hdone := patrolLate_eq hd he ho hp
  obtain ⟨heff, hpts, hbare, hpend⟩ := patrolOvers_leaves s
  generalize s.patrolOvers = u at *
  have hset : (u.pb PNT_STAT.PATROL_LATE true).flag PNT_STAT.PATROL_LATE = true := u.flag_pb_self true (by decide) rfl
  have hpb : Eff u (u.pb PNT_STAT.PATROL_LATE true) [PNT_STAT.off] := Eff.pb u _ _ (by decide) (by decide)
  have hq := Quiet.p u PNT_STAT.PATROL_LATE (b2n true)
  change Quiet u (u.pb PNT_STAT.PATROL_LATE true) at hq
  generalize u.pb PNT_STAT.PATROL_LATE true = v at *
  have hr := Quiet.raise v (evPnt 4) clNote_lt
  have hall := ((heff.mono (by decide)).trans hpb).trans (Eff.raise v (ev := evPnt 4) (cls := clNote) (by decide) (by decide) _)
  have hb := (hq.trans hr).bare
  obtain ⟨hpend', _, _, _, _, _, _, _, hpts', _⟩ := (hq.trans hr).stores
  refine ⟨_, by rw [exec_patrolLate, hdone, State.finish_eff hall hs (hpend'.trans hpend)], ?_, State.raise_pend _ _ (by decide),
    hpts'.trans hpts, hall.rd, by rw [hb, hbare]⟩
  rw [State.raise_flag _ _ (by decide) (by decide), hset]

/-! ### A tile that enters the cache -/

/-- A write of one VALUE that waited for the tile. -/
def waited (m : Master) (i : Nat) (v : BitVec 64) : WaitWrite := ⟨m, i, bytesLE 8 v.toNat, [stOK], .store m⟩

/-- No write waits. -/
def State.noWaits (s : State) : State := { s with pts := { s.pts with waits := [] } }

theorem State.noWaits_leaves (s : State) (l : List Nat) : Eff s s.noWaits l ∧ s.noWaits.pts.waits = [] ∧ s.noWaits.clep = s.clep ∧
    s.noWaits.pending = s.pending ∧ s.noWaits.pt = s.pt ∧ s.noWaits.pts.cache = s.pts.cache := ⟨Eff.of_regs _, rfl, rfl, rfl, rfl, rfl⟩

theorem State.tileWrites_one {s : State} {m : Master} {i : Nat} {v : BitVec 64} (hw : s.pts.waits = [waited m i v]) :
    s.tileWrites (i / 16) = (s.noWaits.ownerWrite i v.toNat s.noWaits.fns48 qGood).answer m stOK [] := by
  simp [State.tileWrites, hw, waited, State.localRecs, State.localRec, writeValue_bytesLE, State.stateEnd, State.pathDone]
  rfl

theorem tileCacheEntry_eq {tile : Fin 16384} {s : State} (hd : s.domOn 7 = true) (hgood : s.tileGood tile.val) :
    tileCacheEntry tile false false s = (s.pushTile tile.val).tileWrites tile.val := by
  have htouch : (if s.pts.cache.contains tile.val then s else s.verifyTile tile.val false false).pushTile tile.val = s.pushTile tile.val :=
    State.touchTile_good hgood
  rw [← htouch]
  exact if_neg (by rw [hd]; simp)

theorem State.pushTile_head (s : State) (k : Nat) : (s.pushTile k).pts.cache.head? = some k := rfl

theorem State.pushTile_noWaits (s : State) (k : Nat) : (s.pushTile k).noWaits.resetReq = s.resetReq ∧ (s.pushTile k).noWaits.pending = s.pending ∧
    (s.pushTile k).noWaits.pt = s.pt ∧ (s.pushTile k).noWaits.fns48 = s.fns48 ∧ (s.pushTile k).noWaits.tileGood k :=
  ⟨rfl, rfl, rfl, rfl, s.tileGood_push k⟩

theorem tileCacheEntry_leaves {tile : Fin 16384} {m : Master} {i : Nat} {v : BitVec 64} {s : State} (hd : s.domOn 7 = true)
    (hs : s.resetReq = none) (hgood : s.tileGood tile.val) (hi : i / 16 = tile.val) (hw : s.pts.waits = [waited m i v])
    (ht : (s.pt i).typ ≠ tyUndef) (henc : encOk (s.pt i).typ v.toNat = true) :
    ∃ t, exec (.tileCacheEntry tile false false) s = .next t ∧ t.pts.cache.head? = some tile.val ∧ t.pts.waits = [] ∧
      t.pt i = ⟨v, s.fns48, qGood, (s.pt i).typ⟩ ∧ t.toldOK m ∧ (∀ j, j ≠ i → t.pt j = s.pt j) := by
  have hdone := tileCacheEntry_eq hd hgood
  have hwrites := State.tileWrites_one (s := s.pushTile tile.val) hw
  rw [hi] at hwrites
  obtain ⟨hreset, hpend, hpt, htime, hcached⟩ := s.pushTile_noWaits tile.val
  obtain ⟨-, hempty, -⟩ := (s.pushTile tile.val).noWaits_leaves []
  generalize (s.pushTile tile.val).noWaits = w at *
  have hv : v.toNat % 2 ^ 64 = v.toNat := Nat.mod_eq_of_lt v.isLt
  have howned := State.ownerWrite_owned (s := w) (i := i) (v := v.toNat) (stamp := w.fns48) (q := qGood) (by rw [hpt]; exact ht)
    (by rw [hpt, hv]; exact henc) (by rw [hi]; exact hcached)
  generalize w.ownerWrite i v.toNat w.fns48 qGood = u at *
  refine ⟨u.answer m stOK [], ?_, ?_, howned.frame.waits.trans hempty, howned.pt.trans ?_, rfl, fun j hj => (howned.other j hj).trans (by rw [hpt])⟩
  · rw [exec_tileCacheEntry, hdone, hwrites,
      State.finish_answer (howned.frame.eff.resetReq.trans (hreset.trans hs)) (howned.frame.pending.trans hpend)]
  · exact (congrArg List.head? howned.cache).trans (by rw [hi, State.pushTile_head])
  · rw [BitVec.ofNat_toNat, htime, Nat.mod_eq_of_lt s.fns48_lt, BitVec.setWidth_eq, hpt]

/-- Settles O19. -/
theorem tilesAndPatrol : Obligations.TilesAndPatrol := by
  unfold Obligations.TilesAndPatrol
  refine ⟨fun tile s hd he hc hs => patrolVisit_failed hd he hc hs, fun s hd he ho hs hp => patrolLate_leaves hd he ho hs hp,
    fun tile m k v s hd hs hgood => ?_⟩
  intro i hw ht henc
  exact tileCacheEntry_leaves hd hs hgood (by omega) hw ht henc

end Sys2Proof.Machine
end

section
/-! What the write of the highest word of a multi-word value comes to where it reaches its block (R42): the words staged before it, with it, each
by its access codes. -/

namespace Sys2Proof.Machine

/-- The offsets of a group of words. -/
def groupOffs (base n : Nat) : List Nat := (List.range n).map (fun i => base + 4 * i)

/-- The highest word of the group of `n` words at `base`, every word of it open to class `c`. -/
def regHigh (off base n c : Nat) : Bool :=
  regOpen off c && (mwGroup off).filter (fun g => mwStaged g.1 g.2) == some (base, n) && decide (base + 4 * (n - 1) ≤ off) &&
    off != PNT_OUT_DST_LO.off && (groupOffs base n).all (fun o => regOpen o c && mapBit o == mapBit off)

/-- One word of the write: the new word and the written bits; a word that was not staged stays. -/
def State.wordOfWrite (s : State) (m : Master) (off : Nat) (val : Word) (o : Nat) : Word × Word :=
  match (if o = off then some val else mwGet s.staging m.mid.val o) with
  | some v => ((rowAt o).newWord (s.storedWord m o) v, (rowAt o).effWord v)
  | none => (s.storedWord m o, 0)

/-- The write as its block takes it. -/
def State.regWrs (s : State) (m : Master) (off base n : Nat) (val : Word) : RegWr :=
  let ws := (groupOffs base n).map (s.wordOfWrite m off val)
  ⟨m, off, s.keyOfReg m off, (s.entryOf m.mid.val off).getD 0, (ws.getD (n - 1) (0, 0)).1, (ws.getD (n - 1) (0, 0)).2, ws.map (·.1), ws.map (·.2)⟩

/-- The staged words taken, and the writer's read latches of them ended (R39). -/
def State.unstaged (s : State) (m : Master) (base n : Nat) : State :=
  { s with staging := mwDrop s.staging m.mid.val (groupOffs base n),
           latches := mwDrop s.latches m.mid.val ((groupOffs base n).map (s.keyOfReg m)) }

theorem State.unstaged_leaves (s : State) (m : Master) (base n : Nat) : (s.unstaged m base n).regs = s.regs ∧
    (s.unstaged m base n).resetReq = s.resetReq ∧ (s.unstaged m base n).pending = s.pending ∧
    { s.unstaged m base n with latches := s.latches, staging := s.staging } = s := ⟨rfl, rfl, rfl, rfl⟩

/-- The same with the guards judged: the new word, the written bits, and whether it is a guard miss. -/
def State.wordMissed (s : State) (m : Master) (c off : Nat) (val : Word) (o : Nat) : Word × Word × Bool :=
  match (if o = off then some val else mwGet s.staging m.mid.val o) with
  | some v => s.wordWrite m c o v
  | none => (s.storedWord m o, 0, false)

/-- The completed write of a group whose words stand in `ws`. -/
def State.highPut (s : State) (blk : State → RegWr → Nat × State) (m : Master) (nd off n : Nat) (r : RegRow) (ws : List (Word × Word × Bool)) :
    Nat × State :=
  let miss := ws.any (·.2.2)
  let u := if miss then s.firstError m 1 true (regAddr nd off) else s
  let (st, v) := if u.reachesAny (s.writeClass m off) off r then
      blk u ⟨m, off, u.keyOfReg m off, (u.entryOf m.mid.val off).getD 0, (ws.getD (n - 1) (0, 0, false)).1,
        (ws.getD (n - 1) (0, 0, false)).2.1, ws.map (·.1), ws.map (·.2.1)⟩
    else (stOK, u)
  (if miss ∧ st = stOK ∧ m.mid.val = 0x10 then stGUARD else st, v)

theorem State.regPut_high (s : State) (blk : State → RegWr → Nat × State) (m : Master) (nd : Nat) {off base n : Nat} (r : RegRow) (val : Word)
    (hg : (mwGroup off).filter (fun g => mwStaged g.1 g.2) = some (base, n)) (hhigh : ¬ off < base + 4 * (n - 1))
    (hdst : off ≠ PNT_OUT_DST_LO.off) :
    s.regPut blk m nd off r val =
      (s.unstaged m base n).highPut blk m nd off n r ((groupOffs base n).map (s.wordMissed m (s.writeClass m off) off val)) := by
  simp only [State.regPut, hg, hdst, false_and, if_false, hhigh]
  rfl

/-- A group none of whose words misses a guard. -/
theorem State.highPut_clear {s : State} (blk : State → RegWr → Nat × State) (m : Master) (nd off n : Nat) {r : RegRow} {ws : List (Word × Word)}
    (hany : s.reachesAny (s.writeClass m off) off r = true) :
    s.highPut blk m nd off n r (ws.map (fun w => (w.1, w.2, false))) =
      blk s ⟨m, off, s.keyOfReg m off, (s.entryOf m.mid.val off).getD 0, (ws.getD (n - 1) (0, 0)).1, (ws.getD (n - 1) (0, 0)).2, ws.map (·.1),
        ws.map (·.2)⟩ := by
  have hmiss : (ws.map (fun w => (w.1, w.2, false))).any (·.2.2) = false := by simp
  have hlast : (ws.map (fun w => (w.1, w.2, false))).getD (n - 1) (0, 0, false) =
      ((ws.getD (n - 1) (0, 0)).1, (ws.getD (n - 1) (0, 0)).2, false) := by
    simp only [List.getD_eq_getElem?_getD, List.getElem?_map]
    cases ws[n - 1]? <;> rfl
  simp only [State.highPut, hmiss, hany, hlast, List.map_map, Bool.false_eq_true, if_false, if_true, false_and]
  rfl

theorem State.serves_word {s : State} {m : Master} {off c : Nat} (h : s.serves m off c) {o : Nat} (ho : regOpen o c = true)
    (hblock : mapBit o = mapBit off) (val : Word) :
    s.wordMissed m (s.writeClass m off) off val o = ((s.wordOfWrite m off val o).1, (s.wordOfWrite m off val o).2, false) := by
  unfold State.wordOfWrite State.wordMissed
  cases (if o = off then some val else mwGet s.staging m.mid.val o) with
  | some v => exact State.serves_wordWrite h ho hblock v
  | none => rfl

theorem State.serves_regWriteHigh {s : State} {m : Master} {off base n c : Nat} (h : s.serves m off c) (ho : regHigh off base n c = true)
    (nd : Nat) (val : Word) : s.regWrite m nd off 4 val = (s.unstaged m base n).blkTop (s.regWrs m off base n val) := by
  simp only [regHigh, Bool.and_eq_true, beq_iff_eq, bne_iff_ne, List.all_eq_true, decide_eq_true_eq] at ho
  obtain ⟨⟨⟨⟨hopen, hg⟩, hhigh⟩, hdst⟩, hall⟩ := ho
  have hreg := State.serves_reg h (regOpen_row hopen)
  have hany := State.reachesAny_all (State.serves_all h hopen rfl) (regOpen_any hopen)
  have hwords : (groupOffs base n).map (s.wordMissed m (s.writeClass m off) off val) =
      ((groupOffs base n).map (s.wordOfWrite m off val)).map (fun w => (w.1, w.2, false)) := by
    rw [List.map_map]
    exact List.map_congr_left fun o ho => State.serves_word h (hall o ho).1 (hall o ho).2 val
  obtain ⟨_, _, hgate, _, _, _⟩ := id h
  have hput : s.regWrite m nd off 4 val = s.regPut State.blkTop m nd off (rowAt off) val := by
    simp only [State.regWrite, State.regWith, hreg, hgate, ne_eq, not_true_eq_false, if_false]
  rw [hput, s.regPut_high State.blkTop m nd (rowAt off) val hg (by omega) hdst, hwords]
  exact State.highPut_clear (s := s.unstaged m base n) State.blkTop m nd off n hany

/-- How a command that writes the highest word ends, by its block's effect. -/
theorem State.serves_finishHigh {s : State} {m : Master} {off base n c : Nat} (h : s.serves m off c) (ho : regHigh off base n c = true) {val : Word}
    {st : Nat} {u : State} (hb : (s.unstaged m base n).blkTop (s.regWrs m off base n val) = (st, u)) (hr : u.resetReq = none)
    (hp : u.pending = s.pending) : s.finish (s.regCmd m off 4 val) = u.answer m st [] := by
  rw [State.serves_regCmd_of h ((State.serves_regWriteHigh h ho 0 val).trans hb), State.finish_answer hr hp]

end Sys2Proof.Machine
end

section
/-! PROOF of PointTables (R86 to R89; log entries 25 and 150). -/

namespace Sys2Proof.Machine

/-! ### The attributes of a point -/

/-- What PNT_ATTR_DATA asks for is refused (R86, R87). -/
def State.attrBad (s : State) (i typ prof : Nat) : Prop :=
  if typ = tyUndef then tiedType (s.pt i).typ = true
  else typeAllows typ (s.g (PNT_PROF_CFG.OWNER.at prof)) = false ∨
    ((s.pt i).typ ≠ tyUndef ∧ ((typ ≠ (s.pt i).typ ∧ (tiedType (s.pt i).typ = true ∨ tiedType typ = true)) ∨
      s.g (PNT_PROF_CFG.OWNER.at prof) ≠ s.ownerKind i))

theorem State.attrWrite_bad {s : State} {i : Nat} {new : Word} (h : s.attrBad i (PNT_ATTR_DATA.TYPE.get new) (PNT_ATTR_DATA.PROF.get new)) :
    s.attrWrite i new = s.pntRefuse := by
  unfold State.attrBad at h
  unfold State.attrWrite
  dsimp only
  split at h
  · next hu => rw [if_pos hu, if_pos h]
  · next hu =>
    rw [if_neg hu]
    rcases h with h | h
    · rw [h]
      rfl
    · rw [if_pos h, ite_self]

theorem State.attrWrite_good {s : State} {i : Nat} {new : Word} (h : ¬ s.attrBad i (PNT_ATTR_DATA.TYPE.get new) (PNT_ATTR_DATA.PROF.get new)) :
    s.attrWrite i new = (stOK, s.setAttr i (PNT_ATTR_DATA.TYPE.get new) (PNT_ATTR_DATA.PROF.get new)) := by
  unfold State.attrBad at h
  unfold State.attrWrite
  dsimp only
  split at h
  · next hu => rw [if_pos hu, if_neg h]
  · next hu =>
    obtain ⟨h1, h2⟩ := not_or.1 h
    rw [if_neg hu, if_neg (by simpa using h1), if_neg h2]

/-- The profile of a point replaced. -/
def State.setProf (s : State) (i prof : Nat) : State := { s with pts := { s.pts with prof := SMap.set (fun _ => 0) s.pts.prof i prof } }

theorem State.setProf_leaves (s : State) (i prof : Nat) : (s.setProf i prof).pts.recs = s.pts.recs ∧ (s.setProf i prof).rd = s.rd ∧
    (s.setProf i prof).resetReq = s.resetReq ∧ (s.setProf i prof).pending = s.pending ∧ (s.setProf i prof).fns48 = s.fns48 ∧
    (∀ k, (s.setProf i prof).tileGood k = s.tileGood k) ∧ (s.setProf i prof).pts.prof = SMap.set (fun _ => 0) s.pts.prof i prof :=
  ⟨rfl, rfl, rfl, rfl, rfl, fun _ => rfl, rfl⟩

/-- The record that a point takes with its attributes (R86). -/
def State.attrRec (s : State) (i typ prof : Nat) : PRec :=
  if typ = (s.pt i).typ then s.pt i else if typ = tyUndef then ⟨0, 0, 0, 0⟩ else ⟨BitVec.ofNat 64 (s.safeOf prof), s.fns48, qSubst, typ⟩

theorem State.setAttr_eq (s : State) (i typ prof : Nat) (hgood : s.tileGood (i / 16)) :
    s.setAttr i typ prof = if typ = (s.pt i).typ then s.setProf i prof
      else ((s.setProf i prof).pushTile (i / 16)).putRec i (s.attrRec i typ prof) := by
  have htouch : (s.setProf i prof).touchTile (i / 16) = (s.setProf i prof).pushTile (i / 16) := State.touchTile_good hgood
  have hset : s.setAttr i typ prof = if typ = (s.pt i).typ then s.setProf i prof
      else if typ = tyUndef then ((s.setProf i prof).touchTile (i / 16)).putRec i (PRec.dflt i)
      else ((s.setProf i prof).touchTile (i / 16)).putRec i ⟨BitVec.ofNat 64 (s.safeOf prof), s.fns48, qSubst, typ⟩ := rfl
  rw [hset, htouch, State.attrRec]
  by_cases ht : typ = (s.pt i).typ
  · rw [if_pos ht, if_pos ht]
  · by_cases hu : typ = tyUndef
    · rw [if_neg ht, if_neg ht, if_neg ht, if_pos hu, if_pos hu]
      rfl
    · rw [if_neg ht, if_neg ht, if_neg ht, if_neg hu, if_neg hu]

theorem State.setAttr_leaves (s : State) (i typ prof : Nat) (hgood : s.tileGood (i / 16)) :
    (s.setAttr i typ prof).resetReq = s.resetReq ∧ (s.setAttr i typ prof).pending = s.pending ∧
      (s.setAttr i typ prof).pts.prof = SMap.set (fun _ => 0) s.pts.prof i prof ∧ (s.setAttr i typ prof).pt i = s.attrRec i typ prof ∧
      ∀ j, j ≠ i → (s.setAttr i typ prof).pt j = s.pt j := by
  obtain ⟨hrecs, -, hreset, hpend, -, -, hprof⟩ := s.setProf_leaves i prof
  rw [s.setAttr_eq i typ prof hgood]
  split
  · next ht => exact ⟨hreset, hpend, hprof, (State.pt_of_recs hrecs i).trans (by rw [State.attrRec, if_pos ht]), fun j _ => State.pt_of_recs hrecs j⟩
  · have hpush := (s.setProf i prof).pushTile_frame (i / 16) pointRegs
    have hst := ((s.setProf i prof).pushTile (i / 16)).putRec_stored i (s.attrRec i typ prof)
    have hall := hpush.trans hst.frame
    exact ⟨hall.eff.resetReq.trans hreset, hall.pending.trans hpend, hall.prof.trans hprof, hst.pt_same, fun j hj => hst.pt_ne hj⟩

/-- What a refusal of the PNT tables leaves (R51, R87). -/
theorem State.pntRefuse_leaves (s : State) (hcnt : (s.rd PNT_CFGERR_CNT.off).toNat + 1 < 0xFFFFFFFF) {u : State} (hu : s.pntRefuse = (stCFG, u)) :
    u.pts = s.pts ∧ u.resetReq = s.resetReq ∧ u.pending = s.pending ∧ (u.rd PNT_CFGERR_CNT.off).toNat = (s.rd PNT_CFGERR_CNT.off).toNat + 1 ∧
      u.g PNT_STAT.LAST_ERR = stCFG := by
  obtain rfl : ((s.p PNT_STAT.LAST_ERR stCFG).count PNT_CFGERR_CNT.off).raise (evPnt 1) clEvent = u := congrArg Prod.snd hu
  have hset : (s.p PNT_STAT.LAST_ERR stCFG).g PNT_STAT.LAST_ERR = stCFG := s.g_p_fit (f := PNT_STAT.LAST_ERR) (by decide) (by decide)
  have hrd : (s.p PNT_STAT.LAST_ERR stCFG).rd PNT_CFGERR_CNT.off = s.rd PNT_CFGERR_CNT.off := s.rd_p_ne PNT_STAT.LAST_ERR _ (by decide)
  have hq := Quiet.p s PNT_STAT.LAST_ERR stCFG
  generalize s.p PNT_STAT.LAST_ERR stCFG = v at *
  rw [← hrd] at hcnt ⊢
  have hc := v.count_raise (ev := evPnt 1) (cls := clEvent) hcnt (by decide) (by decide) (by decide)
  have hall := hq.bare ▸ hc.bare
  obtain ⟨hpend, _, _, _, _, _, _, _, hpts, _⟩ := State.sameStores_of_bare (hc.bare.trans hq.bare)
  exact ⟨hpts, hc.eff.resetReq.trans hq.resetReq, hpend, hc.cnt, (hc.eff.g (by decide) (by decide)).trans hset⟩

/-! ### Writes of the PNT tables -/

theorem pntTables_row : ∀ off ∈ [PNT_ATTR_DATA.off, PNT_PROF_CFG.off, PNT_PROF_FRESH.off], regAlone off 2 = true := by decide +kernel

theorem State.entryOf_attr (s : State) (mid : Nat) : s.entryOf mid PNT_ATTR_DATA.off = some (s.g (PNT_ATTR_SEL.POINT.at mid)) := by
  simp (decide := true) [State.entryOf]

theorem State.entryOf_prof (s : State) (mid : Nat) : ∀ off ∈ [PNT_PROF_CFG.off, PNT_PROF_FRESH.off, PNT_PROF_SAFE_LO.off, PNT_PROF_SAFE_HI.off],
    s.entryOf mid off = some (s.g (PNT_PROF_SEL.PROF.at mid)) := by
  intro off h
  simp only [List.mem_cons, List.not_mem_nil, or_false] at h
  rcases h with rfl | rfl | rfl | rfl <;> simp (decide := true) [State.entryOf]

theorem State.blkTop_attr (s : State) (m : Master) (val : Word) : s.blkTop (s.regWr m PNT_ATTR_DATA.off val) =
    s.attrWrite (s.g (PNT_ATTR_SEL.POINT.at m.mid.val)) ((rowAt PNT_ATTR_DATA.off).newWord (s.storedWord m PNT_ATTR_DATA.off) val) := by
  rw [State.regWr, s.entryOf_attr]
  simp (decide := true) [State.blkTop, State.blkWrite, State.blkPoint]

theorem exec_attrDataWrite (m : Master) (val : Word) (s : State) :
    exec (.attrDataWrite m val) s = .next (s.finish (s.regCmd m PNT_ATTR_DATA.off 4 val)) := by rfl

theorem exec_profileWrite (m : Master) (k : Fin 4) (val : Word) (s : State) :
    exec (.profileWrite m k val) s = .next (s.finish (s.regCmd m (PNT_PROF_CFG.off + 4 * k.val) 4 val)) := by rfl

theorem attrData_get (old val : Word) : PNT_ATTR_DATA.TYPE.get ((rowAt PNT_ATTR_DATA.off).newWord old val) = PNT_ATTR_DATA.TYPE.get val ∧
    PNT_ATTR_DATA.PROF.get ((rowAt PNT_ATTR_DATA.off).newWord old val) = PNT_ATTR_DATA.PROF.get val :=
  ⟨newWord_get_rw (by decide +kernel) old val, newWord_get_rw (by decide +kernel) old val⟩

theorem attrDataWrite_good {m : Master} {val : Word} {s : State} (hs : s.serves m PNT_ATTR_DATA.off 2) {i typ prof : Nat}
    (hi : s.g (PNT_ATTR_SEL.POINT.at m.mid.val) = i) (ht : PNT_ATTR_DATA.TYPE.get val = typ) (hp : PNT_ATTR_DATA.PROF.get val = prof)
    (hgood : s.tileGood (i / 16)) (hb : ¬ s.attrBad i typ prof) :
    ∃ t, exec (.attrDataWrite m val) s = .next t ∧ t.toldOK m ∧ t.profOf i = prof ∧ t.pt i = s.attrRec i typ prof ∧
      ∀ j, j ≠ i → t.pt j = s.pt j ∧ t.profOf j = s.profOf j := by
  obtain ⟨htyp, hprof⟩ := attrData_get (s.storedWord m PNT_ATTR_DATA.off) val
  have hblk : s.blkTop (s.regWr m PNT_ATTR_DATA.off val) = (stOK, s.setAttr i typ prof) := by
    rw [s.blkTop_attr, hi, State.attrWrite_good (by rw [htyp, hprof, ht, hp]; exact hb), htyp, hprof, ht, hp]
  obtain ⟨hreset, hpend, hprofs, hpt, hother⟩ := s.setAttr_leaves i typ prof hgood
  have hfin := State.serves_finish hs (pntTables_row _ (by decide)) hblk (hreset.trans (State.serves_noReset hs)) hpend
  generalize s.setAttr i typ prof = u at *
  refine ⟨u.answer m stOK [], by rw [exec_attrDataWrite, hfin], rfl, ?_, hpt, fun j hj => ⟨hother j hj, ?_⟩⟩
  · exact (congrArg (SMap.get (fun _ => 0) · i) hprofs).trans (Laws.get_set_same _ _ _)
  · exact (congrArg (SMap.get (fun _ => 0) · j) hprofs).trans (Laws.get_set_ne _ _ hj)

theorem attrDataWrite_bad {m : Master} {val : Word} {s : State} (hs : s.serves m PNT_ATTR_DATA.off 2)
    (hcnt : (s.rd PNT_CFGERR_CNT.off).toNat + 1 < 0xFFFFFFFF)
    (hb : s.attrBad (s.g (PNT_ATTR_SEL.POINT.at m.mid.val)) (PNT_ATTR_DATA.TYPE.get val) (PNT_ATTR_DATA.PROF.get val)) :
    ∃ t, exec (.attrDataWrite m val) s = .next t ∧ t.toldCfg m ∧ t.pts = s.pts ∧
      (t.rd PNT_CFGERR_CNT.off).toNat = (s.rd PNT_CFGERR_CNT.off).toNat + 1 ∧ t.g PNT_STAT.LAST_ERR = stCFG := by
  obtain ⟨htyp, hprof⟩ := attrData_get (s.storedWord m PNT_ATTR_DATA.off) val
  obtain ⟨u, hu⟩ : ∃ u, s.pntRefuse = (stCFG, u) := ⟨_, rfl⟩
  have hblk : s.blkTop (s.regWr m PNT_ATTR_DATA.off val) = (stCFG, u) := by
    rw [s.blkTop_attr, State.attrWrite_bad (by rw [htyp, hprof]; exact hb), hu]
  obtain ⟨hpts, hreset, hpend, hc, hlast⟩ := s.pntRefuse_leaves hcnt hu
  have hfin := State.serves_finish hs (pntTables_row _ (by decide)) hblk (hreset.trans (State.serves_noReset hs)) hpend
  exact ⟨u.answer m stCFG [], by rw [exec_attrDataWrite, hfin], rfl, hpts, hc, hlast⟩

theorem tiedType_iff (x : Nat) : tiedType x = true ↔ x = tyCommand ∨ x = tyTimed ∨ x = tyWindow := by
  simp [tiedType, or_assoc]

/-! ### The configuration of a profile -/

theorem State.keyOfReg_prof (s : State) (m : Master) {off : Nat}
    (h : off ∈ [PNT_PROF_CFG.off, PNT_PROF_FRESH.off, PNT_PROF_SAFE_LO.off, PNT_PROF_SAFE_HI.off]) :
    s.keyOfReg m off = bankKey off (s.g (PNT_PROF_SEL.PROF.at m.mid.val)) := by
  have hsel : isSel off = false := by
    have table : ∀ off ∈ [PNT_PROF_CFG.off, PNT_PROF_FRESH.off, PNT_PROF_SAFE_LO.off, PNT_PROF_SAFE_HI.off], isSel off = false := by decide
    exact table off h
  simp only [State.keyOfReg, hsel, s.entryOf_prof m.mid.val off h, Bool.false_eq_true, if_false]

theorem State.blkTop_profCfg (s : State) (m : Master) (val : Word) : s.blkTop (s.regWr m PNT_PROF_CFG.off val) =
    s.profCfgWrite (s.g (PNT_PROF_SEL.PROF.at m.mid.val)) ((rowAt PNT_PROF_CFG.off).newWord (s.storedWord m PNT_PROF_CFG.off) val) := by
  rw [State.regWr, s.entryOf_prof _ PNT_PROF_CFG.off (by decide)]
  simp (decide := true) [State.blkTop, State.blkWrite, State.blkPoint]

theorem State.blkTop_profFresh (s : State) (m : Master) (val : Word) : s.blkTop (s.regWr m PNT_PROF_FRESH.off val) =
    (stOK, s.wr (bankKey PNT_PROF_FRESH.off (s.g (PNT_PROF_SEL.PROF.at m.mid.val)))
      ((rowAt PNT_PROF_FRESH.off).newWord (s.storedWord m PNT_PROF_FRESH.off) val)) := by
  rw [State.regWr, s.keyOfReg_prof m (off := PNT_PROF_FRESH.off) (by decide)]
  simp (decide := true) [State.blkTop, State.blkWrite, State.blkPoint, State.plain]

/-- A new configuration that keeps its OWNER, or whose profile no defined point uses, is stored (R87, R89). -/
theorem State.profCfgWrite_ok {s : State} {p : Nat} {new : Word} (h6 : PNT_PROF_CFG.OWNER.get new < 6)
    (h : PNT_PROF_CFG.OWNER.get new = s.g (PNT_PROF_CFG.OWNER.at p) ∨ ∀ e ∈ s.pts.recs, e.2.typ ≠ tyUndef → s.profOf e.1 ≠ p) :
    s.profCfgWrite p new = (stOK, s.wr (bankKey PNT_PROF_CFG.off p) new) := by
  have hused : PNT_PROF_CFG.OWNER.get new ≠ s.g (PNT_PROF_CFG.OWNER.at p) →
      s.pts.recs.any (fun e => e.2.typ != tyUndef && s.profOf e.1 == p) = false := fun hne =>
    List.any_eq_false.2 fun e he => by simpa using h.resolve_left hne e he
  refine if_neg ?_
  rintro (h1 | ⟨hne, hany⟩)
  · omega
  · rw [hused hne] at hany
    exact Bool.false_ne_true hany

theorem FRef.get_of_bits {g f : FRef} (hl : g.lsb = f.lsb) (hw : g.width = f.width) (w : Word) : g.get w = f.get w := by
  rw [FRef.get, FRef.get, hl, hw]

theorem FRef.moved_get (f : FRef) (o : Nat) (w : Word) : ({ f with off := o } : FRef).get w = f.get w := FRef.get_of_bits rfl rfl w

theorem FRef.at_get (f : FRef) (p : Nat) (w : Word) : (f.at p).get w = f.get w := by rw [FRef.at, f.moved_get]

theorem FRef.at_off (f : FRef) (p : Nat) : (f.at p).off = bankKey f.off p := by rw [FRef.at]

theorem State.g_at_wr (s : State) (f : FRef) (p : Nat) (w : Word) : (s.wr (bankKey f.off p) w).g (f.at p) = f.get w := by
  rw [s.g_wr_self w (f.at_off p), f.at_get]

theorem State.flag_at_wr (s : State) (f : FRef) (p : Nat) (w : Word) : (s.wr (bankKey f.off p) w).flag (f.at p) = decide (f.get w ≠ 0) := by
  rw [s.flag_wr_self w (f.at_off p), f.at_get]

/-- An answered store of one word. -/
theorem State.wr_answer_same (s : State) (k : Nat) (w : Word) (m : Master) (st : Nat) : s.sameRegs ((s.wr k w).answer m st []) [k] := by
  intro i hi
  rw [State.answer_rd, State.rd_wr_ne]
  simpa using hi

theorem profileCfgWrite_leaves {m : Master} {val : Word} {s : State} (hs : s.serves m PNT_PROF_CFG.off 2) {p : Nat}
    (hp : s.g (PNT_PROF_SEL.PROF.at m.mid.val) = p)
    (hfree : PNT_PROF_CFG.OWNER.get val = s.g (PNT_PROF_CFG.OWNER.at p) ∨ ∀ e ∈ s.pts.recs, e.2.typ ≠ tyUndef → s.profOf e.1 ≠ p)
    (h6 : PNT_PROF_CFG.OWNER.get val < 6) :
    ∃ t, exec (.profileWrite m 0 val) s = .next t ∧ t.toldOK m ∧
      (∀ f ∈ [PNT_PROF_CFG.OWNER, PNT_PROF_CFG.WR, PNT_PROF_CFG.FLOW, PNT_PROF_CFG.RMT_RD, PNT_PROF_CFG.RMT_WR], t.g (f.at p) = f.get val) ∧
      t.flag (PNT_PROF_CFG.ONSTALE.at p) = decide (PNT_PROF_CFG.ONSTALE.get val ≠ 0) ∧ s.sameRegs t [bankKey PNT_PROF_CFG.off p] ∧
      { t with regs := s.regs, resp := s.resp } = s := by
  have table : ∀ f ∈ [PNT_PROF_CFG.OWNER, PNT_PROF_CFG.WR, PNT_PROF_CFG.FLOW, PNT_PROF_CFG.RMT_RD, PNT_PROF_CFG.RMT_WR],
      f.off = PNT_PROF_CFG.off ∧ hasField PNT_PROF_CFG.off .rw f = true := by decide +kernel
  have hget : ∀ f, hasField PNT_PROF_CFG.off .rw f = true →
      f.get ((rowAt PNT_PROF_CFG.off).newWord (s.storedWord m PNT_PROF_CFG.off) val) = f.get val := fun f hf => newWord_get_rw hf _ _
  have hblk := s.blkTop_profCfg m val
  generalize (rowAt PNT_PROF_CFG.off).newWord (s.storedWord m PNT_PROF_CFG.off) val = new at *
  have hown : PNT_PROF_CFG.OWNER.get new = PNT_PROF_CFG.OWNER.get val := hget _ (by decide +kernel)
  rw [hp, State.profCfgWrite_ok (by rw [hown]; exact h6) (by rw [hown]; exact hfree)] at hblk
  have hfin := State.serves_finish hs (pntTables_row _ (by decide)) hblk (by rw [State.wr_resetReq, State.serves_noReset hs]) (s.wr_pending _ _)
  refine ⟨(s.wr (bankKey PNT_PROF_CFG.off p) new).answer m stOK [], ?_, rfl, fun f hf => ?_, ?_, s.wr_answer_same _ _ m _, s.wr_answer_frame _ _ _ _ _⟩
  · rw [exec_profileWrite]
    exact congrArg Host.Outcome.next hfin
  · rw [State.answer_g, ← hget f (table f hf).2, ← (table f hf).1]
    exact s.g_at_wr f p new
  · rw [State.answer_flag, ← hget PNT_PROF_CFG.ONSTALE (by decide +kernel)]
    exact s.flag_at_wr PNT_PROF_CFG.ONSTALE p new

theorem profileFreshWrite_leaves {m : Master} {val : Word} {s : State} (hs : s.serves m PNT_PROF_FRESH.off 2) {p : Nat}
    (hp : s.g (PNT_PROF_SEL.PROF.at m.mid.val) = p) :
    ∃ t, exec (.profileWrite m 1 val) s = .next t ∧ t.toldOK m ∧ t.g (PNT_PROF_FRESH.FRESH.at p) = PNT_PROF_FRESH.FRESH.get val ∧
      s.sameRegs t [bankKey PNT_PROF_FRESH.off p] ∧ { t with regs := s.regs, resp := s.resp } = s := by
  have hget : PNT_PROF_FRESH.FRESH.get ((rowAt PNT_PROF_FRESH.off).newWord (s.storedWord m PNT_PROF_FRESH.off) val) = PNT_PROF_FRESH.FRESH.get val :=
    newWord_get_rw (by decide +kernel) _ _
  have hblk := s.blkTop_profFresh m val
  generalize (rowAt PNT_PROF_FRESH.off).newWord (s.storedWord m PNT_PROF_FRESH.off) val = new at *
  rw [hp] at hblk
  have hfin := State.serves_finish hs (pntTables_row _ (by decide)) hblk (by rw [State.wr_resetReq, State.serves_noReset hs]) (s.wr_pending _ _)
  refine ⟨(s.wr (bankKey PNT_PROF_FRESH.off p) new).answer m stOK [], ?_, rfl, ?_, s.wr_answer_same _ _ m _, s.wr_answer_frame _ _ _ _ _⟩
  · rw [exec_profileWrite]
    exact congrArg Host.Outcome.next hfin
  · rw [State.answer_g, ← hget]
    exact s.g_at_wr PNT_PROF_FRESH.FRESH p new

/-! ### SAFE -/

theorem safe_row : regRow PNT_PROF_SAFE_LO.off = some (rowAt PNT_PROF_SAFE_LO.off) ∧ stagedLow PNT_PROF_SAFE_LO.off = true ∧
    regHigh PNT_PROF_SAFE_HI.off PNT_PROF_SAFE_LO.off 2 2 = true := by decide +kernel

/-- A row of one field of 32 bits that can be written takes the written word. -/
theorem newWord_whole {off : Nat} {f : FRef} (h : hasField off .rw f = true) (hl : f.lsb = 0) (hw : f.width = 32) (old val : Word) :
    (rowAt off).newWord old val = val := by
  have hg := newWord_get_rw h old val
  have hword : ∀ w : Word, f.get w = w.toNat := fun w => by
    rw [FRef.get, hl, hw, bitsOf]
    simpa using w.isLt
  rw [hword, hword] at hg
  exact BitVec.eq_of_toNat_eq hg

/-- What serves a master depends on no latch. -/
theorem State.serves_staged {s : State} {m : Master} {off c : Nat} (h : s.serves m off c) (l : List MWord) (r : Option Resp) :
    ({ s with staging := l, resp := r } : State).serves m off c := h

theorem bankKey_safe (p : Nat) : bankKey PNT_PROF_SAFE_HI.off p - 4 = bankKey PNT_PROF_SAFE_LO.off p ∧
    bankKey PNT_PROF_SAFE_HI.off p = bankKey PNT_PROF_SAFE_LO.off p + 4 := by
  simp only [bankKey, PNT_PROF_SAFE_HI.off, PNT_PROF_SAFE_LO.off]
  omega

/-- Both words of SAFE of a profile written. -/
def State.setSafe (s : State) (p : Nat) (lo hi : Word) : State := (s.wr (bankKey PNT_PROF_SAFE_LO.off p) lo).wr (bankKey PNT_PROF_SAFE_HI.off p) hi

theorem State.setSafe_leaves (s : State) (p : Nat) (lo hi : Word) : (s.setSafe p lo hi).safeOf p = lo.toNat + 2 ^ 32 * hi.toNat ∧
    s.sameRegs (s.setSafe p lo hi) [bankKey PNT_PROF_SAFE_LO.off p, bankKey PNT_PROF_SAFE_HI.off p] ∧
    (s.setSafe p lo hi).resetReq = s.resetReq ∧ (s.setSafe p lo hi).pending = s.pending := by
  have hne := (bankKey_safe p).2
  refine ⟨?_, fun k hk => ?_, by rw [State.setSafe, State.wr_resetReq, State.wr_resetReq], by rw [State.setSafe, State.wr_pending, State.wr_pending]⟩
  · rw [State.safeOf, State.setSafe, State.rd_wr_ne _ _ (by omega), State.rd_wr_same, State.rd_wr_same]
  · obtain ⟨h1, h2⟩ : k ≠ bankKey PNT_PROF_SAFE_LO.off p ∧ k ≠ bankKey PNT_PROF_SAFE_HI.off p := by simpa using hk
    rw [State.setSafe, State.rd_wr_ne _ _ h2, State.rd_wr_ne _ _ h1]

theorem State.safeOf_of_regs {s t : State} (h : t.regs = s.regs) (p : Nat) : t.safeOf p = s.safeOf p := by
  rw [State.safeOf, State.safeOf, State.rd_of_regs h, State.rd_of_regs h]

theorem State.wordOfWrite_staged {s : State} {m : Master} {off o : Nat} {v : Word} (ho : o ≠ off) (h : mwGet s.staging m.mid.val o = some v)
    (val : Word) : s.wordOfWrite m off val o = ((rowAt o).newWord (s.storedWord m o) v, (rowAt o).effWord v) := by
  rw [State.wordOfWrite, if_neg ho, h]

theorem State.wordOfWrite_last (s : State) (m : Master) (off : Nat) (val : Word) :
    s.wordOfWrite m off val off = ((rowAt off).newWord (s.storedWord m off) val, (rowAt off).effWord val) := by
  rw [State.wordOfWrite, if_pos rfl]

theorem State.blkTop_safe {s : State} {m : Master} {lo hi : Word} (h : mwGet s.staging m.mid.val PNT_PROF_SAFE_LO.off = some lo) (u : State) :
    u.blkTop (s.regWrs m PNT_PROF_SAFE_HI.off PNT_PROF_SAFE_LO.off 2 hi) = (stOK, u.setSafe (s.g (PNT_PROF_SEL.PROF.at m.mid.val)) lo hi) := by
  have hlo := State.wordOfWrite_staged (off := PNT_PROF_SAFE_HI.off) (by decide) h hi
  have hhi := s.wordOfWrite_last m PNT_PROF_SAFE_HI.off hi
  rw [newWord_whole (f := PNT_PROF_SAFE_LO.VALUE) (by decide +kernel) rfl rfl] at hlo
  rw [newWord_whole (f := PNT_PROF_SAFE_HI.VALUE) (by decide +kernel) rfl rfl] at hhi
  have hoffs : groupOffs PNT_PROF_SAFE_LO.off 2 = [PNT_PROF_SAFE_LO.off, PNT_PROF_SAFE_HI.off] := rfl
  have hkey := s.keyOfReg_prof m (off := PNT_PROF_SAFE_HI.off) (by decide)
  simp only [State.regWrs, hoffs, List.map_cons, List.map_nil, hlo, hhi, hkey]
  generalize s.g (PNT_PROF_SEL.PROF.at m.mid.val) = p
  have hblk : ∀ r : RegWr, r.off = PNT_PROF_SAFE_HI.off → u.blkTop r = u.plainWords r := fun r hr => by
    simp (decide := true) [State.blkTop, State.blkWrite, State.blkPoint, hr]
  rw [hblk _ rfl]
  simp only [State.plainWords, List.length_cons, List.length_nil, Nat.zero_add, Nat.reduceAdd, Nat.reduceSub, Nat.mul_one, (bankKey_safe p).1]
  simp [RegWr.w, List.range_succ, State.setSafe, (bankKey_safe p).2]

theorem profileSafeHigh_leaves {m : Master} {lo : Word} {s : State} (hs : s.serves m PNT_PROF_SAFE_HI.off 2)
    (hget : mwGet s.staging m.mid.val PNT_PROF_SAFE_LO.off = some lo) {p : Nat} (hp : s.g (PNT_PROF_SEL.PROF.at m.mid.val) = p) (hi : Word) :
    ∃ u, exec (.profileWrite m 3 hi) s = .next u ∧ u.toldOK m ∧ u.safeOf p = lo.toNat + 2 ^ 32 * hi.toNat ∧
      s.sameRegs u [bankKey PNT_PROF_SAFE_LO.off p, bankKey PNT_PROF_SAFE_HI.off p] := by
  obtain ⟨_, _, hhigh⟩ := safe_row
  obtain ⟨hregs, hreset, hpend, -⟩ := s.unstaged_leaves m PNT_PROF_SAFE_LO.off 2
  have hblk := State.blkTop_safe (hi := hi) hget (s.unstaged m PNT_PROF_SAFE_LO.off 2)
  rw [hp] at hblk
  have hset := (s.unstaged m PNT_PROF_SAFE_LO.off 2).setSafe_leaves p lo hi
  obtain ⟨v, hv⟩ : ∃ v, v = s.unstaged m PNT_PROF_SAFE_LO.off 2 := ⟨_, rfl⟩
  rw [← hv] at hblk hset hregs hreset hpend
  obtain ⟨u, hu⟩ : ∃ u, u = v.setSafe p lo hi := ⟨_, rfl⟩
  rw [← hu] at hblk hset
  obtain ⟨hval, hsame, ureset, upend⟩ := hset
  have hend := State.serves_finishHigh hs hhigh (hv ▸ hblk) (ureset.trans (hreset.trans (State.serves_noReset hs))) (upend.trans hpend)
  refine ⟨u.answer m stOK [], ?_, rfl, hval, fun k hk => (hsame k hk).trans (State.rd_of_regs hregs k)⟩
  rw [exec_profileWrite]
  exact congrArg Host.Outcome.next hend

theorem profileSafeWrite_leaves {m : Master} {lo hi : Word} {s : State} (hl : s.serves m PNT_PROF_SAFE_LO.off 2)
    (hh : s.serves m PNT_PROF_SAFE_HI.off 2) {p : Nat} (hp : s.g (PNT_PROF_SEL.PROF.at m.mid.val) = p) :
    ∃ t, exec (.profileWrite m 2 lo) s = .next t ∧ t.toldOK m ∧ t.safeOf p = s.safeOf p ∧
      { t with staging := s.staging, resp := s.resp } = s ∧
      ∃ u, exec (.profileWrite m 3 hi) t = .next u ∧ u.toldOK m ∧ u.safeOf p = lo.toNat + 2 ^ 32 * hi.toNat ∧
        s.sameRegs u [bankKey PNT_PROF_SAFE_LO.off p, bankKey PNT_PROF_SAFE_HI.off p] := by
  obtain ⟨hrow, hlow, hhigh⟩ := safe_row
  have hstage := State.serves_regCmd_of hl (State.serves_stage hl hrow hlow 0 lo)
  obtain ⟨hfin, htold, hstaging, hframe⟩ := staged_answer s (mwPut s.staging m.mid.val PNT_PROF_SAFE_LO.off lo) m (State.serves_noReset hl)
  have hserves : (({ s with staging := mwPut s.staging m.mid.val PNT_PROF_SAFE_LO.off lo } : State).answer m stOK []).serves m
      PNT_PROF_SAFE_HI.off 2 := State.serves_staged hh _ _
  have hsafe : (({ s with staging := mwPut s.staging m.mid.val PNT_PROF_SAFE_LO.off lo } : State).answer m stOK []).safeOf p = s.safeOf p :=
    State.safeOf_of_regs rfl p
  have hsame : ∀ k, (({ s with staging := mwPut s.staging m.mid.val PNT_PROF_SAFE_LO.off lo } : State).answer m stOK []).rd k = s.rd k :=
    State.rd_of_regs rfl
  refine ⟨({ s with staging := mwPut s.staging m.mid.val PNT_PROF_SAFE_LO.off lo } : State).answer m stOK [], ?_, htold, hsafe, hframe, ?_⟩
  · rw [exec_profileWrite, ← hfin]
    exact congrArg (fun x => Host.Outcome.next (s.finish x)) hstage
  · have hget : mwGet (({ s with staging := mwPut s.staging m.mid.val PNT_PROF_SAFE_LO.off lo } : State).answer m stOK []).staging m.mid.val
        PNT_PROF_SAFE_LO.off = some lo := mwGet_mwPut_same ..
    have hg : (({ s with staging := mwPut s.staging m.mid.val PNT_PROF_SAFE_LO.off lo } : State).answer m stOK []).g (PNT_PROF_SEL.PROF.at m.mid.val) = p := hp
    generalize ({ s with staging := mwPut s.staging m.mid.val PNT_PROF_SAFE_LO.off lo } : State).answer m stOK [] = t at *
    obtain ⟨u, hu, hok, hval, hregs⟩ := profileSafeHigh_leaves hserves hget hg hi
    exact ⟨u, hu, hok, hval, fun k hk => (hregs k hk).trans (hsame k)⟩

/-- Settles O20. -/
theorem pointTables : Obligations.PointTables := by
  unfold Obligations.PointTables
  refine ⟨fun m val s hs hcnt => ?_, fun m val s hs => ?_, fun m val s hs => ?_, fun m lo hi s hl hh => ?_⟩
  · intro i typ prof old kind tied bad hgood
    have hbad : s.attrBad i typ prof ↔ bad := by
      simp only [State.attrBad, tiedType_iff]
      exact Iff.rfl
    exact ⟨fun h => attrDataWrite_good hs rfl rfl rfl hgood (mt hbad.1 h), fun h => attrDataWrite_bad hs hcnt (hbad.2 h)⟩
  · intro p hfree h6
    obtain ⟨t, ht, hok, hf, hrest⟩ := profileCfgWrite_leaves hs rfl hfree h6
    simp only [List.mem_cons, List.not_mem_nil, or_false, forall_eq_or_imp, forall_eq] at hf
    obtain ⟨hown, hwr, hflow, hrd, hrw⟩ := hf
    exact ⟨t, ht, hok, hown, hwr, hflow, hrd, hrw, hrest⟩
  · exact profileFreshWrite_leaves hs rfl
  · exact profileSafeWrite_leaves hl hh rfl

end Sys2Proof.Machine
end

section
/-! REFUTATION of Windows (R51, R79). The statement leaves the object address of the request in flight free, while a window's object has 32 bits:
with an object address of 2^40 the address of the access lies in space 0x05, so that a device's error is a bus error there, and LAST_ERR, which
takes the codes of spaces 0x00 and 0x04 alone, stays. -/

namespace Sys2Proof.Machine

/- One evaluation after another: each of them, left to itself, would hold a thread. -/
set_option Elab.async false

/-- The point engine on, with a read of object 2^40 in flight at window 0. -/
def farWindow : State :=
  { State.reset.setDom 7 dsOn with pts := { State.reset.pts with reqs := [⟨0, 2 ^ 40, 4, false, [], .reader (.master ⟨2, 0⟩), 0⟩] } }

/-- LAST_ERR after the device behind window 0 answers with an error. -/
def farWindowErr : Option Nat :=
  match exec (.windowDeviceAnswer 0 false []) farWindow with
  | .next t => some (t.g PNT_STAT.LAST_ERR)
  | .fault _ => none
  | .refused _ => none

theorem farWindowErr_eq : farWindowErr = some 0 := by decide +kernel

/-- Refutes O21: an object address beyond 32 bits puts the access outside space 0x04, so that LAST_ERR does not take DEVICE. -/
theorem not_windows : ¬ Obligations.Windows := by
  unfold Obligations.Windows
  rintro ⟨-, hanswer, -⟩
  obtain ⟨t, ht, -, -, -, hlast⟩ := hanswer ⟨2, 0⟩ 0 false [] (2 ^ 40) 4 0 farWindow (by decide +kernel) (by decide +kernel) (by decide +kernel)
  have herr := farWindowErr_eq
  rw [farWindowErr, ht] at herr
  have h9 := (Option.some.inj herr).symm.trans (hlast rfl)
  exact absurd h9 (by decide)

end Sys2Proof.Machine
end

section
/-! REFUTATION of LinkLoss (R43, R116). A window that declares no loss counts its FEC codewords, and the statement lets it change the two FEC
counters alone; a counter that thereby saturates also sets its bit in PORT_SAT. -/

namespace Sys2Proof.Machine

/- One evaluation after another: each of them, left to itself, would hold a thread. -/
set_option Elab.async false

/-- Port 0 UP at 25 Gb/s with FEC, its counter of corrected codewords one short of its end. -/
def fecAtEnd : State :=
  (((State.reset.setPst 0 psUp).p (PORT_CFG.MODE 0) 3).pb (PORT_CFG.FEC 0) true).wr (PORT_FEC_CORR.off 0) 0xFFFFFFFE

/-- PORT_SAT after a window with one corrected codeword. -/
def fecAtEndSat : Option Word :=
  match exec (.degradedSpanWindow 0 1 0) fecAtEnd with
  | .next t => some (t.rd (PORT_SAT.off 0))
  | .fault _ => none
  | .refused _ => none

theorem fecAtEndSat_eq : fecAtEndSat = some 0x200 := by decide +kernel

theorem fecAtEnd_start : (fecAtEnd.port 0).winErr = 0 ∧ fecAtEnd.rd (PORT_SAT.off 0) = 0 := by decide +kernel

/-- Refutes O24: with the counter of corrected FEC codewords at 0xFFFF_FFFE, a window that declares no loss sets PORT_SAT too. -/
theorem not_linkLoss : ¬ Obligations.LinkLoss := by
  unfold Obligations.LinkLoss
  intro h
  obtain ⟨-, -, -, hwindow⟩ := h 0 fecAtEnd (by decide +kernel) (by decide +kernel) (by decide +kernel) (by decide +kernel)
  obtain ⟨t, ht, -, -, hup⟩ := hwindow 1 0
  obtain ⟨herr, hsat⟩ := fecAtEnd_start
  have hzero : (fecAtEnd.port (0 : Fin 4).val).winErr + (if fecAtEnd.g (PORT_CFG.MODE (0 : Fin 4).val) = 3 ∧
      fecAtEnd.flag (PORT_CFG.FEC (0 : Fin 4).val) = true then 0 else 0) = 0 := by
    rw [ite_self]
    exact herr
  obtain ⟨-, hregs⟩ := (if_neg (fun hc => hc.1 (Nat.le_zero.mp (hc.2.trans hzero.le)))).mp hup
  have h9 := fecAtEndSat_eq
  rw [fecAtEndSat, ht] at h9
  have hkept := hregs (PORT_SAT.off 0) (by decide) (by decide) (by decide)
  rw [hsat] at hkept
  exact absurd ((Option.some.inj h9).symm.trans hkept) (by decide)

end Sys2Proof.Machine
end

section
/-! REFUTATION of Healing (R118). Epochs are compared in serial-number arithmetic modulo 256: of two that lie 128 apart neither is newer. An
unwrap whose epoch lies 128 ahead of the plane's is carried out, and the plane keeps the epoch it has. -/

namespace Sys2Proof.Machine

/- One evaluation after another: each of them, left to itself, would hold a thread. -/
set_option Elab.async false

/-- An unwrap of plane A by the master, with the epoch that lies 128 ahead of the one after reset. -/
def farUnwrap : Unwrap := ⟨0, 128, 0, true, (0, 0)⟩

/-- Port 0 turned and with its hold at an end, and that unwrap pending. -/
def farUnwrapState : State :=
  let s := ((State.reset.pb (PORT_STAT.TURNED 0) true).setPst 0 psHold).pm 0 (fun q => { q with holdDone := true })
  { s with links := { s.links with unwraps := [farUnwrap] } }

/-- The plane's epoch after the unwrap. -/
def farUnwrapEpoch : Option Nat :=
  match exec (.unwrapAt 0) farUnwrapState with
  | .next t => some (t.epochOf 0)
  | .fault _ => none
  | .refused _ => none

theorem farUnwrapEpoch_eq : farUnwrapEpoch = some 0 := by decide +kernel

/-- Refutes O26: an unwrap whose epoch lies 128 from the plane's is carried out, and the epoch is not adopted. -/
theorem not_healing : ¬ Obligations.Healing := by
  unfold Obligations.Healing
  rintro ⟨-, -, -, hunwrap⟩
  obtain ⟨t, ht, -, -, -, -, -, hepoch, -⟩ := hunwrap 0 farUnwrap farUnwrapState (by decide +kernel) (by decide +kernel) (by decide) (by decide)
    (by decide) (by decide +kernel) (by decide +kernel) (by decide +kernel) (by decide +kernel) (by decide +kernel) (by decide +kernel)
    (by decide +kernel)
  have hval := farUnwrapEpoch_eq
  rw [farUnwrapEpoch, ht] at hval
  exact absurd ((Option.some.inj hval).symm.trans hepoch) (by decide)

end Sys2Proof.Machine
end

section
/-! REFUTATION of WindowsCloseAndMasters (R146, R149, R476). The close of the cyclic window raises its miss event before it judges the
take-over, and software may have raised that event's class to SEVERE: a node with a present SEVERE fault is not eligible, and a backup that was
eligible as the window closed does not take over. -/

namespace Sys2Proof.Machine

/- One evaluation after another: each of them, left to itself, would hold a thread. -/
set_option Elab.async false

/-- An eligible backup of master 5 whose cyclic window is at an end, with a subscription that has no copy, and the miss event's class
raised to SEVERE. -/
def missedBackup : State :=
  let s := ((State.reset.pb RING_CFG.EN true).pb RING_CFG.ELIG true).setPst 0 psUp
  let s := ((s.p RING_ROLE.MASTER 5).p RING_ROLE.BACKUP s.node).p (RING_SUB_NODE.VALID.at 0) 1
  ((s.p RING_ACT_S.LEN 0).p RING_ACT_C.LEN 0).p (EVT_ROUTE.RAISE (evRing 5)) clSevere

/-- What the close of the window schedules for the next cycle. -/
def missedBackupSpecial : Option (Option Nat) :=
  match exec .cyclicWindowClose missedBackup with
  | .next t => some t.cyc.special
  | .fault _ => none
  | .refused _ => none

theorem missedBackupSpecial_eq : missedBackupSpecial = some none := by decide +kernel

/-- Refutes O30: the miss event that the close itself raises, its class raised to SEVERE, ends the backup's eligibility. -/
theorem not_windowsCloseAndMasters : ¬ Obligations.WindowsCloseAndMasters := by
  unfold Obligations.WindowsCloseAndMasters
  rintro ⟨-, htake, -⟩
  obtain ⟨t, ht, hspecial, -⟩ := htake missedBackup (by decide +kernel) (by decide +kernel) (by decide +kernel) (by decide +kernel)
    (by decide +kernel) (by decide +kernel) (by decide +kernel) (by decide +kernel) (by decide +kernel) (.inl (by decide +kernel))
  have hval := missedBackupSpecial_eq
  rw [missedBackupSpecial, ht] at hval
  exact absurd ((Option.some.inj hval).symm.trans hspecial) (by decide)

end Sys2Proof.Machine
end

section
/-! REFUTATION of AcceptanceCommits (R167, R173). The statement bounds no open group. Where the open group's lines bring the head within 1,024
lines of the record that has just been accepted, the record is relocated at once; the open group has no room for its line, is closed, and
begins to commit. -/

namespace Sys2Proof.Machine

/- One evaluation after another: each of them, left to itself, would hold a thread. -/
set_option Elab.async false

/-- A store of no data on flow 0. -/
def crowdedItem : Item := newItem 0 1 0 [] 2 (.store ⟨2, 0⟩)

/-- The group that commits: that item. -/
def crowdedGroup : JGroup := ⟨[.acc crowdedItem true], 1, 0, 0⟩

/-- Flow 0 valid toward node 5, that group committing, and an open group of 49,152 lines. -/
def crowdedRing : State :=
  let s := (State.reset.p (FLOW_CFG.VALID.at 0) 1).p (FLOW_CFG.NODE.at 0) 5
  { s with flow := { s.flow with commit := some crowdedGroup, opened := some ⟨[], 49152, 0, 0⟩, bud := 16384000 } }

/-- Whether a group commits after that group's commit. -/
def crowdedCommits : Option Bool :=
  match exec .groupCommitDone crowdedRing with
  | .next t => some t.flow.commit.isSome
  | .fault _ => none
  | .refused _ => none

theorem crowdedCommits_eq : crowdedCommits = some true := by decide +kernel

/-- Refutes O33: the accepted record's relocation closes an open group that is full, and that group commits. -/
theorem not_acceptanceCommits : ¬ Obligations.AcceptanceCommits := by
  unfold Obligations.AcceptanceCommits
  intro h
  obtain ⟨t, ht, hnone, -⟩ := h crowdedItem ⟨2, 0⟩ crowdedGroup crowdedRing (by decide +kernel) (by decide +kernel) (by decide +kernel)
    (by decide +kernel) (by decide +kernel) (by decide +kernel) (by decide +kernel) (by decide +kernel) (by decide +kernel) (by decide +kernel)
    (by decide +kernel) (by unfold State.inbQuiet; decide +kernel) (by unfold State.headClear; decide +kernel)
  have hval := crowdedCommits_eq
  rw [crowdedCommits, ht] at hval
  exact absurd ((Option.some.inj hval).symm.trans (congrArg Option.isSome hnone)) (by decide)

end Sys2Proof.Machine
end

section
/-! REFUTATION of OutstandingItems (R43, R185). The statement lets REACH_TIMEOUT change the counter of DOUBT items alone; where that counter
saturates, its bit in FLOW_SAT is set too. -/

namespace Sys2Proof.Machine

/- One evaluation after another: each of them, left to itself, would hold a thread. -/
set_option Elab.async false

/-- An item of flow 0 that has been outstanding since the instant 0. -/
def agedItem : OutItem := ⟨newItem 0 1 0 [] 2 (.store ⟨2, 0⟩), false, [], 0, 0, 0⟩

/-- Flow 0 valid toward node 5 with that item, an hour and more later; the counter of DOUBT items is one short of its end. -/
def doubtAtEnd : State :=
  let s := ((State.reset.p (FLOW_CFG.VALID.at 0) 1).p (FLOW_CFG.NODE.at 0) 5).p FLOW_STAT.STATE feRun
  let s := (s.wr FLOW_DOUBT_CNT.off 0xFFFFFFFE).setFl 0 { s.fl 0 with due := some 0 }
  { s with flow := { s.flow with out := [agedItem] }, clep := { s.clep with sec := 4000 } }

/-- FLOW_SAT after the item turns DOUBT. -/
def doubtAtEndSat : Option Word :=
  match exec (.reachTimeout 0) doubtAtEnd with
  | .next t => some (t.rd FLOW_SAT.off)
  | .fault _ => none
  | .refused _ => none

theorem doubtAtEndSat_ne : doubtAtEndSat ≠ some (doubtAtEnd.rd FLOW_SAT.off) := by decide +kernel

/-- Refutes O35: with the counter of DOUBT items at 0xFFFF_FFFE, an item that turns DOUBT sets FLOW_SAT too. -/
theorem not_outstandingItems : ¬ Obligations.OutstandingItems := by
  unfold Obligations.OutstandingItems
  rintro ⟨-, htimers, -⟩
  obtain ⟨hreach, -⟩ := htimers 0 agedItem 0 doubtAtEnd (by decide +kernel) (by decide +kernel) (by decide +kernel) (by decide +kernel)
    (by decide +kernel) (by decide +kernel) (by decide +kernel)
  obtain ⟨t, ht, -, -, hregs⟩ := hreach ⟨by decide +kernel, by decide +kernel⟩
  apply doubtAtEndSat_ne
  rw [doubtAtEndSat, ht]
  exact congrArg some (hregs FLOW_SAT.off (by decide) (by decide) (by decide))

end Sys2Proof.Machine
end

section
/-! REFUTATION of RemoteReads (R198). A window of the journal ring gives 64 bytes for a line, and the statement's line is whatever the ring
stores there; a store that holds a longer line is none of the manual's, but the statement excludes none. -/

namespace Sys2Proof.Machine

/- One evaluation after another: each of them, left to itself, would hold a thread. -/
set_option Elab.async false

/-- The journal ring with 65 bytes in its first line. -/
def longLine : State := { State.reset.setDom 8 dsOn with flow := { State.reset.flow with ring := [(0, List.replicate 65 1)] } }

/-- The number of bytes that a read of that line through window 0x00 returns. -/
def longLineRead : Option (Option Nat) :=
  match exec (.journalWindowRead ⟨2, 0⟩ 0 (BitVec.ofNat 32 (64 * 0)) 64) longLine with
  | .next t => some (t.resp.map (·.data.length))
  | .fault _ => none
  | .refused _ => none

theorem longLineRead_eq : longLineRead = some (some 64) := by decide +kernel

theorem longLine_length : (longLine.ringLine 0).length = 65 := by decide +kernel

/-- Refutes O37: of a line stored with 65 bytes the window gives 64. -/
theorem not_remoteReads : ¬ Obligations.RemoteReads := by
  unfold Obligations.RemoteReads
  rintro ⟨-, -, -, hwindow⟩
  obtain ⟨t, ht, -, hresp⟩ := hwindow ⟨2, 0⟩ 0 0 longLine (by decide +kernel) (by decide +kernel) (by decide) (by decide) (by decide +kernel)
  have hval : some (t.resp.map (·.data.length)) = some (some 64) := by
    have hread := longLineRead_eq
    rw [longLineRead] at hread
    erw [ht] at hread
    exact hread
  rw [hresp] at hval
  exact absurd (longLine_length.symm.trans (Option.some.inj (Option.some.inj hval))) (by decide)

end Sys2Proof.Machine
end

section
/-! REFUTATION of ItemsApplyOnce (R167, R173). The statement bounds no open group. Where the open group's lines bring the head within 1,024 lines
of the APPLIED line that has just been written, the inbound entry that this line holds is relocated at once; the open group has no room for its
line, is closed, and begins to commit. -/

namespace Sys2Proof.Machine

/- One evaluation after another: each of them, left to itself, would hold a thread. -/
set_option Elab.async false

/-- A write of SUMP_SPILL by node 5. -/
def crowdedWrite : InItem := ⟨5, 0, 0, 0, 0, 1, 2 ^ 40 + SUMP_SPILL.off, [0, 0, 0, 0], 0, false, false, 0x10⟩

/-- The inbound entry of that flow, the write staged. -/
def crowdedEntry : InEntry := ⟨5, 0, 0, 1, 0, 0, 0, [], none, 1, false, none⟩

/-- The group that commits: that write. -/
def crowdedApplied : JGroup := ⟨[.applied crowdedWrite], 1, 0, 0⟩

/-- A session of node 5, that group committing, and an open group of 49,152 lines. -/
def crowdedInbound : State :=
  { State.reset with
    flow := { State.reset.flow with
      commit := some crowdedApplied, opened := some ⟨[], 49152, 0, 0⟩, inb := [crowdedEntry], bud := 16384000 },
    sec := { State.reset.sec with sessions := [⟨0x10, 5, 1000000000000000⟩] } }

/-- Whether a group commits after that group's commit. -/
def crowdedInboundCommits : Option Bool :=
  match exec .groupCommitDone crowdedInbound with
  | .next t => some t.flow.commit.isSome
  | .fault _ => none
  | .refused _ => none

theorem crowdedInboundCommits_eq : crowdedInboundCommits = some true := by decide +kernel

theorem crowdedInbound_serves : crowdedInbound.serves crowdedWrite.master SUMP_SPILL.off 2 := by
  unfold State.serves
  decide +kernel

/-- Refutes O34: the relocation of the inbound entry closes an open group that is full, and that group commits. -/
theorem not_itemsApplyOnce : ¬ Obligations.ItemsApplyOnce := by
  unfold Obligations.ItemsApplyOnce
  rintro ⟨-, -, happlied, -⟩
  obtain ⟨t, ht, hnone, -⟩ := happlied crowdedWrite crowdedEntry crowdedApplied SUMP_SPILL.off crowdedInbound (by decide +kernel)
    (by decide +kernel) (by decide +kernel) (by decide +kernel) (by decide) (by decide) (by decide) (by decide) (by decide) (by decide)
    (by decide) (by decide) (by decide +kernel) (by decide +kernel) (by decide +kernel) (by decide) crowdedInbound_serves (by decide +kernel)
    (by decide +kernel) (by unfold State.headClear; decide +kernel)
  have hval := crowdedInboundCommits_eq
  rw [crowdedInboundCommits, ht] at hval
  exact absurd ((Option.some.inj hval).symm.trans (congrArg Option.isSome hnone)) (by decide)

end Sys2Proof.Machine
end

section
/-! REFUTATION of FramesThroughTheSwitch (R203). The statement admits a frame for CPU into a switch whose queues may hold a copy that already
bears the number that the frame is about to take; a stored frame stays while a copy bears its number, so that it does not leave with its own
last copy. -/

namespace Sys2Proof.Machine

/- One evaluation after another: each of them, left to itself, would hold a thread. -/
set_option Elab.async false

/-- An Ethernet frame from port 4 for the CPU port. -/
def cpuWait : WEnt := ⟨4, 0, [8], ethFrame 0 [], true, 64, none, 0⟩

/-- The frame waiting, and a copy at port 5 with the number that the frame takes. -/
def sharedNumber : State :=
  { State.reset with sw := { State.reset.sw with waiting := [cpuWait], queues := [⟨5, 0, 1, false, State.reset.sw.nextId, ethFrame 0 []⟩] } }

/-- The number of frames stored after the admission. -/
def sharedNumberFrames : Option Nat :=
  match exec (.frameAdmit 4 0 none) sharedNumber with
  | .next t => some t.sw.frames.length
  | .fault _ => none
  | .refused _ => none

theorem sharedNumberFrames_eq : sharedNumberFrames = some 1 := by decide +kernel

/-- Refutes O38: with a copy of the same number queued elsewhere, the frame handed to CPU stays stored. -/
theorem not_framesThroughTheSwitch : ¬ Obligations.FramesThroughTheSwitch := by
  unfold Obligations.FramesThroughTheSwitch
  rintro ⟨hadmit, -⟩
  obtain ⟨-, hcpu, -⟩ := hadmit 4 0 cpuWait 8 sharedNumber (by decide +kernel) (by decide) (.inr (by decide +kernel)) (by decide +kernel)
    (by decide +kernel) (by decide) (by decide) (by decide +kernel) (by unfold State.noMirror; decide +kernel)
  obtain ⟨t, ht, -, -, hframes, -⟩ := hcpu (by decide +kernel) (by decide) (by decide) (by decide +kernel)
  have hval := sharedNumberFrames_eq
  rw [sharedNumberFrames, ht] at hval
  exact absurd ((Option.some.inj hval).symm.trans (congrArg List.length hframes)) (by decide)

end Sys2Proof.Machine
end

section
/-! REFUTATION of EthernetPorts (R43, R223). The statement lets ETH_LINK_DOWN change the counters of discarded and of partial copies and the port's
status; where the first of these saturates, its bit in SW_SAT is set too. -/

namespace Sys2Proof.Machine

/- One evaluation after another: each of them, left to itself, would hold a thread. -/
set_option Elab.async false

/-- Port 4's link up with one copy queued to it, the counter of copies discarded with a link one short of its end. -/
def linkDropAtEnd : State :=
  let s := (State.reset.pb (ETH_STAT.LINK 0) true).wr SW_LINK_DROP.off 0xFFFFFFFE
  { s with sw := { s.sw with queues := [⟨4, 0, 1, false, 0, ethFrame 0 []⟩] } }

/-- SW_SAT after the link goes down. -/
def linkDropAtEndSat : Option Word :=
  match exec (.ethLinkDown 0) linkDropAtEnd with
  | .next t => some (t.rd SW_SAT.off)
  | .fault _ => none
  | .refused _ => none

theorem linkDropAtEndSat_ne : linkDropAtEndSat ≠ some (linkDropAtEnd.rd SW_SAT.off) := by decide +kernel

/-- Refutes O39: with the counter of discarded copies at 0xFFFF_FFFE, a link that goes down sets SW_SAT too. -/
theorem not_ethernetPorts : ¬ Obligations.EthernetPorts := by
  unfold Obligations.EthernetPorts
  rintro ⟨hdown, -⟩
  obtain ⟨t, ht, -, -, -, -, -, -, hregs⟩ := hdown 0 linkDropAtEnd (by decide +kernel) (by decide +kernel)
  apply linkDropAtEndSat_ne
  rw [linkDropAtEndSat, ht]
  exact congrArg some (hregs SW_SAT.off (by decide) (by decide) (by decide))

end Sys2Proof.Machine
end

section
/-! REFUTATION of PostedWritesAndSignals (R82, R84, R252). A signal's write brings its tile into the cache, and the statement asks no sound tile: of
one whose bytes do not agree with its CRC every defined point is marked. -/

namespace Sys2Proof.Machine

/- One evaluation after another: each of them, left to itself, would hold a thread. -/
set_option Elab.async false

/-- A tile that enters the cache, its bytes in disagreement with its CRC, fails as one that both reads find wrong does. -/
theorem State.verifyTile_unsound {s : State} {k : Nat} (hk : k < 16384) (h : s.tileSound k = false) :
    TileFailed s (s.verifyTile k false false) k := by
  rw [State.verifyTile, if_pos (by rw [h]; rfl)]
  exact State.injMet_failed (State.asIf_failed _ fun u => u.tileFail_failed hk)

/-- An owner's write of one point of such a tile marks the other defined points (R84). -/
theorem State.ownerWrite_unsound {s : State} {i j v stamp q : Nat} (ht : (s.pt i).typ ≠ tyUndef) (henc : encOk (s.pt i).typ (v % 2 ^ 64) = true)
    (hi : i / 16 < 16384) (hc : s.pts.cache.contains (i / 16) = false) (hbad : s.tileSound (i / 16) = false) (hj : j / 16 = i / 16) (hne : j ≠ i)
    (hd : (s.pt j).typ ≠ tyUndef) :
    ((s.ownerWrite i v stamp q).pt j).qual = qTile ∧ PtFrame s (s.ownerWrite i v stamp q) (PNT_TILE_LAST.off :: pointRegs) := by
  have htouch : s.touchTile (i / 16) = (s.verifyTile (i / 16) false false).pushTile (i / 16) := by rw [State.touchTile, hc]; rfl
  have hfail := State.verifyTile_unsound hi hbad
  generalize s.verifyTile (i / 16) false false = u at *
  rw [State.ownerWrite, if_neg ht, henc, htouch]
  have hst := (u.pushTile (i / 16)).putRec_stored i ⟨BitVec.ofNat 64 v, stamp % 2 ^ 48, q, (s.pt i).typ⟩
  have hframe := (hfail.frame.trans (u.pushTile_frame (i / 16) _)).trans (hst.frame.mono fun _ h => List.mem_cons_of_mem _ h)
  have hpt : (((u.pushTile (i / 16)).putRec i ⟨BitVec.ofNat 64 v, stamp % 2 ^ 48, q, (s.pt i).typ⟩).refreshPt i).pt j = tileRec (s.pt j) := by
    generalize (u.pushTile (i / 16)).putRec i ⟨BitVec.ofNat 64 v, stamp % 2 ^ 48, q, (s.pt i).typ⟩ = w at *
    have hplace : 16 * (i / 16) + j % 16 = j := by omega
    rw [State.pt_of_recs (w.refreshPt_leaves i []).2.1 j, hst.pt_ne hne, State.pt_of_recs (u.pushTile_recs (i / 16)).1 j, ← hplace]
    exact hfail.pt (j % 16) (Nat.mod_lt j (by decide))
  refine ⟨(congrArg PRec.qual hpt).trans ?_, hframe.trans (State.refreshPt_leaves _ i _).1⟩
  rw [tileRec, if_neg hd]

theorem State.setHdr_unsound {s : State} {k : Nat} {w : Word} (hw : w ≠ BitVec.ofNat 32 (crc32c (s.tileBytes k))) :
    (s.setHdr k w).tileSound k = false := by
  have hb : (s.setHdr k w).tileBytes k = s.tileBytes k := State.tileBytes_of_recs rfl k
  rw [State.tileSound, State.setHdr_tileHdr_same, hb, beq_eq_false_iff_ne]
  exact hw

theorem word_succ_ne (w : Word) : w + 1 ≠ w := by
  intro h
  simp at h

/-- Two points of tile 0 defined, and a signal map entry that names the first. -/
def mappedPair : State :=
  let s := (State.reset.setDom 6 dsOn).setDom 7 dsOn
  let s := ((s.p (BRG_SIG_SRC.VALID.at 0) 1).p (BRG_SIG_SRC.KIND.at 0) 1).p (BRG_SIG_DST.BITLEN.at 0) 1
  { s with pts := { s.pts with recs := [(0, ⟨0, 0, 0, tyU16⟩), (1, ⟨0, 0, 0, tyU16⟩)] } }

/-- The same with a header word that is not the CRC of the tile's bytes. -/
def wrongTile : State := mappedPair.setHdr 0 (BitVec.ofNat 32 (crc32c (mappedPair.tileBytes 0)) + 1)

theorem wrongTile_unsound : wrongTile.tileSound 0 = false :=
  State.setHdr_unsound (word_succ_ne _)

theorem exec_signalUpdate (kind : Fin 16) (unit obj : Nat) (payload : List Byte) (fault : Bool) (s : State) :
    exec (.signalUpdate kind unit obj payload fault) s = .next (s.finish (signalUpdate kind unit obj payload fault s)) := by rfl

/-- The signal that the map names writes the first point. -/
theorem wrongTile_write (payload : List Byte) : signalUpdate 1 0 0 payload false wrongTile = wrongTile.ownerWrite 0
    (fieldGet false 0 1 payload) wrongTile.fns48 qGood := by
  have hentries : wrongTile.sigEntries false 1 0 0 = [0] := by decide +kernel
  have hfields : wrongTile.g (BRG_SIG_DST.POINT.at 0) = 0 ∧ wrongTile.g (BRG_SIG_SRC.BITPOS.at 0) = 0 ∧
      wrongTile.g (BRG_SIG_DST.BITLEN.at 0) = 1 ∧ wrongTile.flag (BRG_SIG_SRC.MOTOROLA.at 0) = false ∧
      wrongTile.flag (BRG_SIG_SRC.SIGNED.at 0) = false := by decide +kernel
  obtain ⟨hpoint, hpos, hlen, hmot, hsigned⟩ := hfields
  have hdom : wrongTile.domOn 6 = true ∧ wrongTile.domOn 7 = true := by decide +kernel
  generalize wrongTile = s at *
  rw [signalUpdate, if_pos hdom, State.signalUpdate]
  erw [hentries]
  simp [hpoint, hpos, hlen, hmot, hsigned]

theorem wrongTile_points : (wrongTile.pt 0).typ = tyU16 ∧ (wrongTile.pt 1) = ⟨0, 0, 0, tyU16⟩ ∧ wrongTile.pts.cache.contains (0 / 16) = false := by
  decide +kernel

/-- Refutes O42: a signal's write into a tile that its CRC does not fit marks the tile's other points. -/
theorem not_postedWritesAndSignals : ¬ Obligations.PostedWritesAndSignals := by
  unfold Obligations.PostedWritesAndSignals
  rintro ⟨-, -, -, -, hsignal, -⟩
  obtain ⟨t, ht, -, hother⟩ := hsignal 1 0 0 0 [] false wrongTile (by decide +kernel) (by decide +kernel) (by decide +kernel) (by decide +kernel)
    (by decide +kernel) (by decide +kernel) (by decide +kernel)
  obtain ⟨htyp, hpt, hcache⟩ := wrongTile_points
  have hundef : (wrongTile.pt 0).typ ≠ tyUndef ∧ (wrongTile.pt 1).typ ≠ tyUndef := by
    rw [htyp, hpt]
    decide
  have henc : encOk (wrongTile.pt 0).typ (fieldGet false 0 1 [] % 2 ^ 64) = true := by
    rw [htyp]
    decide
  obtain ⟨hqual, hframe⟩ := State.ownerWrite_unsound (stamp := wrongTile.fns48) (q := qGood) (j := 1) hundef.1 henc (by decide) hcache
    wrongTile_unsound (by decide) (by decide) hundef.2
  rw [← wrongTile_write] at hqual hframe
  rw [exec_signalUpdate, State.finish_kept (hframe.eff.resetReq.trans (by decide +kernel)) hframe.pending, Host.Outcome.next.injEq] at ht
  have hone := congrArg PRec.qual (hother 1 (by decide +kernel))
  rw [← ht, hqual, hpt] at hone
  exact absurd hone (by decide)

end Sys2Proof.Machine
end

section
/-! REFUTATION of TimeIsSteered (R36, R43). A refused TIME write changes, as the statement has it, the counter of refused writes alone; where that
counter saturates, its bit in TIME_SAT is set too. -/

namespace Sys2Proof.Machine

/- One evaluation after another: each of them, left to itself, would hold a thread. -/
set_option Elab.async false

/-- Cycles enabled, and the counter of refused TIME writes one short of its end. -/
def timeRefusalsAtEnd : State := (State.reset.pb RING_CFG.EN true).wr TIME_CFGERR_CNT.off 0xFFFFFFFE

/-- TIME_SAT after a step of 1,001 ns, which is refused. -/
def timeRefusalsAtEndSat : Option Word :=
  match exec (.timeStepWrite ⟨2, 0⟩ 1001) timeRefusalsAtEnd with
  | .next t => some (t.rd TIME_SAT.off)
  | .fault _ => none
  | .refused _ => none

theorem timeRefusalsAtEndSat_ne : timeRefusalsAtEndSat ≠ some (timeRefusalsAtEnd.rd TIME_SAT.off) := by decide +kernel

theorem timeRefusalsAtEnd_serves : timeRefusalsAtEnd.serves ⟨2, 0⟩ TIME_STEP.off 2 := by
  unfold State.serves
  decide +kernel

/-- Refutes O43: with the counter of refused writes at 0xFFFF_FFFE, a refused step sets TIME_SAT too. -/
theorem not_timeIsSteered : ¬ Obligations.TimeIsSteered := by
  unfold Obligations.TimeIsSteered
  rintro ⟨-, -, -, -, hstep, -⟩
  obtain ⟨t, ht, hrefused⟩ := hstep ⟨2, 0⟩ 1001 timeRefusalsAtEnd timeRefusalsAtEnd_serves (by decide +kernel) (by decide)
  obtain ⟨-, -, -, hregs, -⟩ := hrefused
  apply timeRefusalsAtEndSat_ne
  rw [timeRefusalsAtEndSat, ht]
  exact congrArg some (hregs TIME_SAT.off (by decide) (by decide) (by decide))

end Sys2Proof.Machine
end

section
/-! REFUTATION of VotedStepsAndTriggers (R305). A voted step that reads a bad word accounts the zone programs' time twice at one instant: as the
step is taken, and as its unit halts. The second adds nothing, but it stores the time anew, which a table that lists a time of 0 does not
survive; the statement takes the first account alone. -/

namespace Sys2Proof.Machine

/- One evaluation after another: each of them, left to itself, would hold a thread. -/
set_option Elab.async false

/-- The zone programs' times that a fail-over leaves, as the statement has them. -/
theorem State.failedOver.zoneAcc {s t : State} {u cause core kind addr : Nat} (h : s.failedOver t u cause core kind addr) :
    t.fh.zoneAcc = s.zoneAccrue.fh.zoneAcc := by
  unfold State.failedOver at h
  obtain ⟨-, -, -, -, hfh, -⟩ := h
  rw [hfh]

/-- Unit A active and running, unit B standing by, zone program 0 named, and its time of 0 listed. -/
def listedZero : State :=
  let s := (((State.reset.setUnit 0 fhActive).setUnit 1 fhStandby).setDom 1 dsOn).pb FH_CTRL.FO_EN true
  let s := s.pb FH_ZP_RUN.VALID true
  { s with fh := { s.fh with halted := [], zoneAcc := [(0, 0)] } }

/-- A read of a word of the unit's banks in user mode. -/
def bankRead : CoreStep := ⟨0, 0, 4, [], true⟩

/-- The zone programs' times after the three copies agree and the word fails its SECDED. -/
def listedZeroTimes : Option (List (Nat × Nat)) :=
  match exec (.votedOutput 0 bankRead bankRead bankRead true) listedZero with
  | .next t => some t.fh.zoneAcc
  | .fault _ => none
  | .refused _ => none

theorem listedZeroTimes_eq : listedZeroTimes = some [] := by decide +kernel

theorem listedZero_guarded : listedZero.guarded 0 := by
  unfold State.guarded
  decide +kernel

theorem listedZero_accrued : listedZero.zoneAccrue.fh.zoneAcc = [(0, 0)] := by decide +kernel

/-- Refutes O47: the time of 0 that the table lists is gone after the fail-over. -/
theorem not_votedStepsAndTriggers : ¬ Obligations.VotedStepsAndTriggers := by
  unfold Obligations.VotedStepsAndTriggers
  rintro ⟨-, -, hword, -⟩
  obtain ⟨t, ht, hfailed⟩ := hword 0 bankRead listedZero listedZero_guarded (by decide +kernel) (by decide) rfl
  have hval : listedZeroTimes = some t.fh.zoneAcc := by rw [listedZeroTimes, ht]
  have hnone : t.fh.zoneAcc = [] := Option.some.inj (hval.symm.trans listedZeroTimes_eq)
  have htimes := State.failedOver.zoneAcc hfailed
  rw [listedZero_accrued, hnone] at htimes
  exact absurd htimes (by decide)

end Sys2Proof.Machine
end

section
/-! REFUTATION of DomainsAndComparators (R402). The statement says that the bytes of unit A's banks are gone at every address, without a
bound. The model keeps both units' banks in one store, unit B's from address 2^20 on, so that address 2^20 of unit A is unit B's first byte. -/

namespace Sys2Proof.Machine

/- One evaluation after another: each of them, left to itself, would hold a thread. -/
set_option Elab.async false

/-- FH_A on its way to OFF, with a byte in unit B's first bank. -/
def byteOfB : State :=
  { State.reset with
    regs := [(PWR_DOM_STAT.off 1, 5)]
    fh := { State.reset.fh with mem := [(memKey 1 0, 1)] } }

/-- What unit A's address 2^20 reads as when the transition has ended. -/
def byteOfBLeft : Option Byte :=
  match exec (.domainTransitionDone 1) byteOfB with
  | .next t => some (t.bankByte 0 (2 ^ 20))
  | .fault _ => none
  | .refused _ => none

theorem byteOfBLeft_eq : byteOfBLeft = some 1 := by decide +kernel

/-- Refutes O55: the byte at address 2^20 of unit A is unit B's, and stays. -/
theorem not_domainsAndComparators : ¬ Obligations.DomainsAndComparators := by
  unfold Obligations.DomainsAndComparators
  rintro ⟨-, -, hdone, -⟩
  obtain ⟨-, -, hoff⟩ := hdone 1 byteOfB rfl (by decide)
  obtain ⟨t, ht, -, -, hbanks, -⟩ := hoff (by decide +kernel)
  have hval := byteOfBLeft_eq
  rw [byteOfBLeft, ht] at hval
  exact absurd ((Option.some.inj hval).symm.trans (hbanks (by decide) (2 ^ 20))) (by decide)

end Sys2Proof.Machine
end

section
/-! What an evaluation of the power domains leaves alone (R404 to R407): every register but the states and votes of the domains, and
every store but the power controller's. -/

namespace Sys2Proof.Machine

/-- A chain of writes of the domains' states and votes, and of the power controller's own data. -/
structure Powered (s t : State) : Prop where
  rd : s.sameRegs t powerRegs
  rest : t = { s with regs := t.regs, power := t.power }

namespace Powered

theorem refl (s : State) : Powered s s := ⟨fun _ _ => rfl, rfl⟩

theorem trans {s t u : State} (a : Powered s t) (b : Powered t u) : Powered s u :=
  ⟨fun k hk => (b.rd k hk).trans (a.rd k hk),
    b.rest.trans (congrArg (fun x : State => { x with regs := u.regs, power := u.power }) a.rest)⟩

theorem power (s : State) (x : Power) : Powered s { s with power := x } := ⟨fun _ _ => rfl, rfl⟩

theorem stat_mem {d : Nat} (hd : d < 16) : PWR_DOM_STAT.off d ∈ powerRegs :=
  List.mem_flatMap.2 ⟨d, List.mem_range.2 hd, List.mem_cons_self⟩

theorem vote_mem {d : Nat} (hd : d < 16) : PWR_DOM_VOTE.off d ∈ powerRegs :=
  List.mem_flatMap.2 ⟨d, List.mem_range.2 hd, List.mem_cons_of_mem _ List.mem_cons_self⟩

theorem p (s : State) (f : FRef) (v : Nat) (hf : f.off ∈ powerRegs) : Powered s (s.p f v) :=
  ⟨fun _ hk => s.rd_p_ne f v fun h => hk (h ▸ hf), rfl⟩

theorem setDom (s : State) {d : Nat} (st : Nat) (hd : d < 16) : Powered s (s.setDom d st) := p s _ st (stat_mem hd)

theorem beginTrans (s : State) {d : Nat} (st : Nat) (hd : d < 16) : Powered s (s.beginTrans d st) :=
  (setDom s st hd).trans (p _ _ _ (stat_mem hd))

theorem beginOn (s : State) {d : Nat} (frm : Nat) (hd : d < 16) : Powered s (s.beginOn d frm) :=
  (beginTrans s dsToOn hd).trans (power _ _)

theorem foldl {f : State → Nat → State} {l : List Nat} (h : ∀ s, ∀ d ∈ l, Powered s (f s d)) (s : State) : Powered s (l.foldl f s) := by
  induction l generalizing s with
  | nil => exact refl s
  | cons d l ih =>
    exact (h s d List.mem_cons_self).trans (ih (fun u k hk => h u k (List.mem_cons_of_mem d hk)) _)

theorem domEval (s : State) {d : Nat} (hd : d < 16) : Powered s (s.domEval d) := by
  unfold State.domEval
  dsimp only
  split
  · split
    · exact setDom s dsOn hd
    · split
      · exact beginOn s 1 hd
      · split
        · exact beginOn s 0 hd
        · exact refl s
  · split
    · exact setDom s dsPending hd
    · split
      · exact beginTrans s dsToOff hd
      · exact refl s

theorem depEval (s : State) : Powered s s.depEval := by
  have hdep : ∀ u : State, ∀ p ∈ [5, 6, 7, 8], Powered u (u.pb (PWR_DOM_VOTE.DEP p)
      ((childrenOf p).any fun c => (u.dom c != dsOff && u.dom c != dsRet) || u.wantsOn c)) := fun u q hq =>
    p u _ _ (vote_mem (by simp only [List.mem_cons, List.not_mem_nil, or_false] at hq; omega))
  exact (foldl (l := [5, 6, 7, 8]) hdep s).trans
    (foldl (l := [6, 7, 8, 5]) (fun u q hq => hdep u q (by simp only [List.mem_cons, List.not_mem_nil, or_false] at hq ⊢; omega)) _)

theorem powerEval (s : State) : Powered s s.powerEval :=
  (depEval s).trans (foldl (fun u d hd => domEval u (by
    simp only [List.cons_append, List.nil_append, List.mem_cons, List.not_mem_nil, or_false] at hd; omega)) _)

theorem mem_powerRegs {k : Nat} (hk : k ∈ powerRegs) : 0x010100 ≤ k ∧ k < 0x010200 := by
  obtain ⟨d, hd, hk⟩ := List.mem_flatMap.1 hk
  have hd := List.mem_range.1 hd
  simp only [List.mem_cons, List.not_mem_nil, or_false, PWR_DOM_STAT.off, PWR_DOM_VOTE.off] at hk
  omega

theorem eff {s t : State} (h : Powered s t) : Eff s t powerRegs := by
  have hsump : t.sump = s.sump := (congrArg State.sump h.rest :)
  refine ⟨fun k hk _ _ => h.rd k hk, fun e he hp => ?_, fun e _ _ => ?_, (congrArg State.resetReq h.rest :)⟩
  · have hk : EVT_PEND.off (e / 32) ∉ powerRegs := fun hk => by
      have := mem_powerRegs hk
      simp only [EVT_PEND.off] at this
      omega
    rwa [State.evPend, h.rd _ hk]
  · rw [State.evKept, State.evKept, hsump]

theorem pending {s t : State} (h : Powered s t) : t.pending = s.pending := (congrArg State.pending h.rest :)

end Powered

/-! ### Chains that leave the queue -/

/-- A chain of writes and events that leaves the pending commands. -/
structure Chain (s t : State) (l : List Nat) : Prop extends Eff s t l where
  pending : t.pending = s.pending

namespace Chain

theorem refl (s : State) (l : List Nat) : Chain s s l := ⟨Eff.refl s l, rfl⟩

theorem trans {s t u : State} {l : List Nat} (a : Chain s t l) (b : Chain t u l) : Chain s u l :=
  ⟨a.toEff.trans b.toEff, b.pending.trans a.pending⟩

theorem mono {s t : State} {l l' : List Nat} (a : Chain s t l) (h : ∀ k ∈ l, k ∈ l') : Chain s t l' := ⟨a.toEff.mono h, a.pending⟩

/-- An operation on the stores alone. -/
theorem of_regs {s t : State} (l : List Nat) (hr : t.regs = s.regs := by rfl) (hs : t.sump = s.sump := by rfl)
    (hq : t.resetReq = s.resetReq := by rfl) (hp : t.pending = s.pending := by rfl) : Chain s t l := ⟨Eff.of_regs l hr hs hq, hp⟩

theorem raise (s : State) {ev cls : Nat} (hev : ev < 512) (hc : cls < 4) (l : List Nat) : Chain s (s.raise ev cls) l :=
  ⟨Eff.raise s hev hc l, (congrArg State.pending (s.raise_raised cls hev).bare :)⟩

theorem raiseIf (s : State) (b : Bool) {ev cls : Nat} (hev : ev < 512) (hc : cls < 4) (l : List Nat) : Chain s (s.raiseIf b ev cls) l := by
  cases b
  · exact refl s l
  · exact raise s hev hc l

theorem p (s : State) (f : FRef) (v : Nat) {l : List Nat} (hk : isPendKey f.off = false) (hl : f.off ∈ l) : Chain s (s.p f v) l :=
  ⟨Eff.p s f v hk hl, rfl⟩

theorem powerEval (s : State) : Chain s s.powerEval powerRegs := ⟨(Powered.powerEval s).eff, (Powered.powerEval s).pending⟩

end Chain

end Sys2Proof.Machine
end

section
/-! REFUTATION of UpdatesAndHandover (R454, R466). The statement takes the booted image's SVN modulo 2^32 before the maximum; the model takes
the maximum first and stores its low 32 bits. With an SVN of 2^32 held, CONFIRM stores 0. -/

namespace Sys2Proof.Machine

/- One evaluation after another: each of them, left to itself, would hold a thread. -/
set_option Elab.async false

/-! ### Staging -/

theorem State.setUst_chain (s : State) (v : Nat) {l : List Nat} (hl : UPD_STAT.off ∈ l) : Chain s (s.setUst v) l :=
  (Chain.p s UPD_STAT.STATE v (by decide) hl).trans
    (Chain.raiseIf (s.p UPD_STAT.STATE v) (s.ust != v) (ev := evCfg 3) (cls := clEvent) (by decide) (by decide) l)

theorem State.setUnit_chain (s : State) (u v : Nat) {l : List Nat} (hl : FH_STAT.off ∈ l) : Chain s (s.setUnit u v) l := by
  unfold State.setUnit
  split
  · exact Chain.p s FH_STAT.STATE_A v (by decide) hl
  · exact Chain.p s FH_STAT.STATE_B v (by decide) hl

/-- The update record changed. -/
theorem State.upm_chain (s : State) (f : Upd → Upd) (l : List Nat) : Chain s (s.upm f) l := Chain.of_regs l

/-- The registers that the beginning of a staging may change. -/
def stageRegs : List Nat := UPD_STAT.off :: FH_STAT.off :: powerRegs

theorem ust_mem_stageRegs : UPD_STAT.off ∈ stageRegs := List.mem_cons_self

theorem fh_mem_stageRegs : FH_STAT.off ∈ stageRegs := List.mem_cons_of_mem _ List.mem_cons_self

/-- What a staging that loads the standby does after the update record is set (R450). -/
def State.stageLoad (s : State) : State :=
  (((s.setUnit s.standby fhLoad).upm (fun x => { x with loading := some s.standby })).setUst usStaging).powerEval

theorem State.stageBegin_eq (s : State) (revert confirm : Bool) : s.stageBegin revert confirm =
    (fun u : State => if revert then u.setUst usStaging else u.stageLoad)
      (s.upm fun u => { u with revert := revert, confirm := confirm, loading := none }) := rfl

theorem State.stageLoad_chain (s : State) : Chain s s.stageLoad stageRegs :=
  (((State.setUnit_chain s s.standby fhLoad fh_mem_stageRegs).trans (State.upm_chain _ _ stageRegs)).trans
    (State.setUst_chain _ usStaging ust_mem_stageRegs)).trans
      ((Chain.powerEval _).mono fun _ hk => List.mem_cons_of_mem _ (List.mem_cons_of_mem _ hk))

theorem State.stageBegin_chain (s : State) (revert confirm : Bool) : Chain s (s.stageBegin revert confirm) stageRegs := by
  rw [State.stageBegin_eq]
  refine (State.upm_chain s (fun u => { u with revert := revert, confirm := confirm, loading := none }) stageRegs).trans ?_
  generalize s.upm _ = u
  cases revert
  · exact State.stageLoad_chain u
  · exact State.setUst_chain u usStaging ust_mem_stageRegs

/-! ### CONFIRM -/

/-- What follows the minimum SVN in a CONFIRM (R454). -/
def State.confirmed (s : State) : State := if s.unit s.standby = fhStandby then s.stageBegin false true else s.setUst usIdle

theorem State.updConfirm_raised {s : State} (htrial : s.ust = usTrial) (hauto : s.flag SEC_CFG.SVN_AUTO = true) :
    s.updConfirm = (stOK, (s.p SEC_SVN_MIN.SVN (max (s.g SEC_SVN_MIN.SVN) s.boot.svn)).confirmed) := by
  rw [State.updConfirm, if_neg (not_not_intro htrial), if_pos hauto]
  rfl

/-- CONFIRM under SVN_AUTO stores the greater SVN in the 32 bits of the register (R454). -/
theorem State.updConfirm_svn {s : State} (htrial : s.ust = usTrial) (hauto : s.flag SEC_CFG.SVN_AUTO = true) (hreset : s.resetReq = none) :
    s.updConfirm.2.g SEC_SVN_MIN.SVN = max (s.g SEC_SVN_MIN.SVN) s.boot.svn % 2 ^ 32 ∧ s.updConfirm.2.resetReq = none ∧
      s.updConfirm.2.pending = s.pending := by
  rw [State.updConfirm_raised htrial hauto]
  have hself := s.g_p_self (f := SEC_SVN_MIN.SVN) (max (s.g SEC_SVN_MIN.SVN) s.boot.svn) (by decide)
  have hquiet : Chain s (s.p SEC_SVN_MIN.SVN (max (s.g SEC_SVN_MIN.SVN) s.boot.svn)) [SEC_SVN_MIN.off] :=
    Chain.p s SEC_SVN_MIN.SVN _ (by decide) List.mem_cons_self
  generalize s.p SEC_SVN_MIN.SVN (max (s.g SEC_SVN_MIN.SVN) s.boot.svn) = u at hself hquiet ⊢
  have hchain : Chain u u.confirmed stageRegs := by
    unfold State.confirmed
    split
    · exact State.stageBegin_chain u false true
    · exact State.setUst_chain u usIdle ust_mem_stageRegs
  exact ⟨(hchain.g (by decide) (by decide)).trans hself, (hchain.resetReq.trans hquiet.resetReq).trans hreset,
    hchain.pending.trans hquiet.pending⟩

theorem exec_updConfirm (m : Master) (s : State) :
    exec (.updConfirm m) s = .next (s.finish (s.regCmd m UPD_CMD.off 4 (cmdWord UPD_CMD.OP 3))) := by rfl

theorem State.blkTop_updConfirm (s : State) (m : Master) :
    s.blkTop (s.regWr m UPD_CMD.off (cmdWord UPD_CMD.OP 3)) = s.updConfirm := by
  have hop : UPD_CMD.OP.get (s.regWr m UPD_CMD.off (cmdWord UPD_CMD.OP 3)).eff = 3 := by
    change UPD_CMD.OP.get ((rowAt UPD_CMD.off).effWord (cmdWord UPD_CMD.OP 3)) = 3
    decide +kernel
  refine (if_pos (show (s.regWr m UPD_CMD.off (cmdWord UPD_CMD.OP 3)).off = UPD_CMD.off from rfl)).trans ?_
  rw [State.updCmdWrite, hop]
  rfl

theorem exec_updConfirm_svn {m : Master} {s : State} (hserves : s.serves m UPD_CMD.off 2) (htrial : s.ust = usTrial)
    (hauto : s.flag SEC_CFG.SVN_AUTO = true) :
    ∃ t, exec (.updConfirm m) s = .next t ∧ t.g SEC_SVN_MIN.SVN = max (s.g SEC_SVN_MIN.SVN) s.boot.svn % 2 ^ 32 := by
  obtain ⟨hsvn, hreset, hpend⟩ := State.updConfirm_svn htrial hauto (State.serves_noReset hserves)
  refine ⟨s.updConfirm.2.answer m s.updConfirm.1 [], ?_, hsvn⟩
  rw [exec_updConfirm]
  exact congrArg _ (State.serves_finish hserves (by decide +kernel) (State.blkTop_updConfirm s m) hreset hpend)

/-- A trial with SVN_AUTO set, unit B in STANDBY, the minimum SVN 5, and an SVN of 2^32 held for the booted image. -/
def wideSvn : State :=
  { State.reset with
    regs := [(SEC_SVN_MIN.off, 5), (SEC_CFG.off, 0x80000000), (UPD_STAT.off, 8), (FH_STAT.off, 0x20005)]
    boot := { State.reset.boot with svn := 2 ^ 32 } }

theorem wideSvn_serves : wideSvn.serves ⟨2, 0⟩ UPD_CMD.off 2 := by
  unfold State.serves
  decide +kernel

theorem wideSvn_trial : wideSvn.ust = usTrial := by decide +kernel

theorem wideSvn_auto : wideSvn.flag SEC_CFG.SVN_AUTO = true := by decide +kernel

/-- What the statement asks for, and what the model stores. -/
theorem wideSvn_max : max (wideSvn.g SEC_SVN_MIN.SVN) (wideSvn.boot.svn % 2 ^ 32) = 5 ∧
    max (wideSvn.g SEC_SVN_MIN.SVN) wideSvn.boot.svn % 2 ^ 32 = 0 := by decide +kernel

/-- Refutes O57: CONFIRM stores the low 32 bits of the greater SVN, which are 0. -/
theorem not_updatesAndHandover : ¬ Obligations.UpdatesAndHandover := by
  unfold Obligations.UpdatesAndHandover
  rintro ⟨-, -, -, -, -, -, -, hcmd, -⟩
  obtain ⟨-, -, hauto, -⟩ := hcmd ⟨2, 0⟩ wideSvn wideSvn_serves (by decide +kernel) (by decide +kernel)
  obtain ⟨t, ht, hsvn⟩ := hauto wideSvn_trial wideSvn_auto
  obtain ⟨u, hu, hstored⟩ := exec_updConfirm_svn wideSvn_serves wideSvn_trial wideSvn_auto
  cases ht.symm.trans hu
  have hbad := hsvn.symm.trans hstored
  rw [wideSvn_max.1, wideSvn_max.2] at hbad
  exact absurd hbad (by decide)

end Sys2Proof.Machine
end

section
/-! REFUTATION of ResetsAndStartUp (R188, R424, R440). A SYSTEM reset commits the groups that the flow engine holds before it counts itself; a
register write that such a group carries takes effect there. Where it clears CFG_RST_CNT, the counter is 1 afterwards, whatever it was. -/

namespace Sys2Proof.Machine

/- One evaluation after another: each of them, left to itself, would hold a thread. -/
set_option Elab.async false

/-- A clear of CFG_RST_CNT by node 5. -/
def clearOfResets : InItem := ⟨5, 0, 0, 0, 0, 1, 2 ^ 40 + CFG_RST_CNT.off, [0, 0, 0, 0], 0, false, false, 0x10⟩

/-- The inbound entry of that flow, the write staged. -/
def clearOfResetsEntry : InEntry := ⟨5, 0, 0, 1, 0, 0, 0, [], none, 1, false, none⟩

/-- Seven resets counted, a session of node 5, and a group that commits with that write; GROTTO is ON. -/
def resetsCleared : State :=
  { State.reset with
    regs := [(CFG_RST_CNT.off, 7), (PWR_DOM_STAT.off 14, 2)]
    flow := { State.reset.flow with
      commit := some ⟨[.applied clearOfResets], 1, 0, 0⟩, inb := [clearOfResetsEntry], bud := 16384000 },
    sec := { State.reset.sec with sessions := [⟨0x10, 5, 1000000000000000⟩] } }

/-- CFG_RST_CNT after a command. -/
def resetsCountedAfter (i : Instr) : Option Word :=
  match exec i resetsCleared with
  | .next t => some (t.rd CFG_RST_CNT.off)
  | .fault _ => none
  | .refused _ => none

theorem resetsCountedAfter_rstN : resetsCountedAfter .rstNAssert = some 1 := by decide +kernel

/-- No SYSTEM reset counts on from 7 where CFG_RST_CNT stands at 1 after the command. -/
theorem not_systemReset_of_counted {i : Instr} {t : State} {src mid : Nat} (hone : resetsCountedAfter i = some 1)
    (ht : exec i resetsCleared = .next t) : ¬ resetsCleared.systemReset t src mid := by
  rintro ⟨-, -, -, -, -, hcount, -⟩
  rw [resetsCountedAfter, ht] at hone
  have hcount := (congrArg BitVec.toNat (Option.some.inj hone)).symm.trans hcount
  exact absurd hcount (by decide +kernel)

/-- Refutes O56: RST_N_ASSERT leaves CFG_RST_CNT at 1 where it was 7. -/
theorem not_resetsAndStartUp : ¬ Obligations.ResetsAndStartUp := by
  unfold Obligations.ResetsAndStartUp
  rintro ⟨hreset, -⟩
  obtain ⟨-, hrstN, -⟩ := hreset ⟨2, 0⟩ resetsCleared (by decide +kernel)
  obtain ⟨t, ht, hsystem⟩ := hrstN rfl
  exact not_systemReset_of_counted resetsCountedAfter_rstN ht hsystem

end Sys2Proof.Machine
end

section
/-! REFUTATION of GrottoGuards (R188, R440, R460). NOISE_HEALTH_FAIL asks for a SYSTEM reset, and the statement says of it what
ResetsAndStartUp says; the group that clears CFG_RST_CNT as the flow engine stops refutes this too. -/

namespace Sys2Proof.Machine

/- One evaluation after another: each of them, left to itself, would hold a thread. -/
set_option Elab.async false

theorem resetsCountedAfter_noise : resetsCountedAfter .noiseHealthFail = some 1 := by decide +kernel

/-- Refutes O58: the reset that NOISE_HEALTH_FAIL leads to leaves CFG_RST_CNT at 1 where it was 7. -/
theorem not_grottoGuards : ¬ Obligations.GrottoGuards := by
  unfold Obligations.GrottoGuards
  rintro ⟨-, -, -, -, -, -, hguard⟩
  obtain ⟨hnoise, -⟩ := hguard [] [] resetsCleared rfl
  obtain ⟨t, ht, hsystem, -⟩ := hnoise (by decide +kernel) (by decide +kernel)
  exact not_systemReset_of_counted resetsCountedAfter_noise ht hsystem

end Sys2Proof.Machine
end

section
/-! Every step keeps the queue well formed and leaves no reset waiting. A step that takes a command is one evaluation of it (`step_takes`); the
step of an empty queue is a tick, and the host port's command in hand may then issue its pieces (R240, R246): nothing on that path
touches the queue or asks for a reset. -/

namespace Sys2Proof.Machine

/-- A change that leaves the queue and the reset request. -/
structure Calm (s t : State) : Prop where
  pending : t.pending = s.pending
  resetReq : t.resetReq = s.resetReq

namespace Calm

theorem refl (s : State) : Calm s s := ⟨rfl, rfl⟩

theorem trans {s t u : State} (a : Calm s t) (b : Calm t u) : Calm s u := ⟨b.pending.trans a.pending, b.resetReq.trans a.resetReq⟩

/-- What follows a change of other fields. -/
theorem after {s t u : State} (b : Calm t u) (hp : t.pending = s.pending := by rfl) (hr : t.resetReq = s.resetReq := by rfl) : Calm s u :=
  trans ⟨hp, hr⟩ b

theorem of_quiet {s t : State} (h : Quiet s t) : Calm s t := ⟨h.stores.1, h.resetReq⟩

theorem raise (s : State) (ev : Nat) {cls : Nat} (h : cls < 4) : Calm s (s.raise ev cls) := of_quiet (Quiet.raise s ev h)

theorem raiseIf (s : State) (b : Bool) (ev : Nat) {cls : Nat} (h : cls < 4) : Calm s (s.raiseIf b ev cls) := of_quiet (Quiet.raiseIf s b ev h)

theorem count (s : State) (off : Nat) : Calm s (s.count off) := of_quiet (Quiet.count s off)

theorem countIf (s : State) (b : Bool) (off : Nat) : Calm s (s.countIf b off) := of_quiet (Quiet.countIf s b off)

theorem p (s : State) (f : FRef) (v : Nat) : Calm s (s.p f v) := ⟨rfl, rfl⟩

theorem pb (s : State) (f : FRef) (b : Bool) : Calm s (s.pb f b) := ⟨rfl, rfl⟩

theorem wr (s : State) (k : Nat) (w : Word) : Calm s (s.wr k w) := ⟨rfl, rfl⟩

theorem firstError (s : State) (m : Master) (kind : Nat) (guard : Bool) (addr : Nat) : Calm s (s.firstError m kind guard addr) :=
  of_quiet (Quiet.firstError s m kind guard addr)

theorem busFault (s : State) (m : Master) (kind addr : Nat) : Calm s (s.busFault m kind addr) := of_quiet (Quiet.busFault s m kind addr)

theorem ite {s t u : State} {c : Prop} [Decidable c] (ht : Calm s t) (hu : Calm s u) : Calm s (if c then t else u) := by
  split
  · exact ht
  · exact hu

theorem foldl {α : Type} {f : State → α → State} (h : ∀ s x, Calm s (f s x)) : ∀ (l : List α) (s : State), Calm s (l.foldl f s)
  | [], s => refl s
  | x :: l, s => (h s x).trans (foldl h l (f s x))

/-! ### Points (R52 to R89) -/

theorem setD (s : State) (n : Nat) (b : Bool) : Calm s (s.setD n b) := by
  unfold State.setD
  dsimp only
  split
  · exact ⟨rfl, rfl⟩
  · exact ⟨rfl, rfl⟩

theorem pfDrop (s : State) : Calm s s.pfDrop := by
  unfold State.pfDrop
  exact ite (after (count _ _)) (refl s)

theorem pfTile (s : State) (t : Nat) : Calm s (s.pfTile t) := ite (pfDrop s) (refl s)

theorem setHdr (s : State) (t : Nat) (w : Word) : Calm s (s.setHdr t w) := ⟨rfl, rfl⟩

theorem putRec (s : State) (i : Nat) (r : PRec) : Calm s (s.putRec i r) := by
  unfold State.putRec
  have hplaced : Calm s (({ s with pts := { s.pts with recs := SMap.set PRec.dflt s.pts.recs i r } }).pfTile (i / 16)) := after (pfTile _ _)
  generalize ({ s with pts := { s.pts with recs := SMap.set PRec.dflt s.pts.recs i r } }).pfTile (i / 16) = t at *
  refine ite hplaced (hplaced.trans (Calm.trans (t := t.setHdr (i / 16) _) ⟨rfl, rfl⟩ (foldl (fun u e => setD u _ _) _ _)))

theorem markQual (s : State) (i q : Nat) : Calm s (s.markQual i q) := ite (refl s) (putRec s i _)

theorem tileNoted (s : State) (t : Nat) : Calm s (s.tileNoted t) := by
  have hset : Calm s ((s.p PNT_TILE_LAST.VALID 1).p PNT_TILE_LAST.TILE t) := (p s _ _).trans (p _ _ _)
  unfold State.tileNoted
  dsimp only
  generalize (s.p PNT_TILE_LAST.VALID 1).p PNT_TILE_LAST.TILE t = u at *
  have hcount := hset.trans (count u PNT_TILE_CNT.off)
  generalize u.count PNT_TILE_CNT.off = v at *
  split
  · exact hcount.trans ((pb v PNT_STAT.REPEAT true).trans (raise _ (evPnt 3) (cls := clDegraded) (by decide)))
  · exact hcount.trans (raise v (evPnt 2) (cls := clNote) (by decide))

theorem tileFail (s : State) (t : Nat) : Calm s (s.tileFail t) := by
  rw [State.tileFail_eq]
  have hmarked : Calm s ((List.range 16).foldl (fun s i => s.markTile (16 * t + i)) s) :=
    foldl (fun u i => ite (putRec u _ _) (markQual u _ _)) _ _
  generalize (List.range 16).foldl (fun s i => s.markTile (16 * t + i)) s = u at *
  exact (hmarked.trans (setHdr u t _)).trans (tileNoted _ t)

theorem asIf {f : State → State} (h : ∀ u, Calm u (f u)) (s : State) (b : Bool) : Calm s (s.asIf b f) := by
  cases b
  · exact h s
  · exact ⟨(h _).pending, (h _).resetReq⟩

theorem touchTile (s : State) (t : Nat) : Calm s (s.touchTile t) := by
  have hverified : Calm s (s.verifyTile t false false) := ite (after (asIf (fun u => tileFail u t) _ _)) (refl s)
  exact (ite (refl s) hverified).trans ⟨rfl, rfl⟩

theorem fresh (s : State) (i : Nat) : Calm s (s.fresh i) :=
  ite (refl s) (ite ((putRec s _ _).trans (count _ _)) ((putRec s _ _).trans (count _ _)))

theorem readPts (s : State) (i n : Nat) : Calm s (s.readPts i n).2 := by
  unfold State.readPts
  have hfold : ∀ (l : List Nat) (u : State) (bs : List Byte), Calm u (l.foldl (fun (acc : List Byte × State) k =>
      let s := acc.2.freshRead (i + k)
      (acc.1 ++ (s.pt (i + k)).bytes, s)) (bs, u)).2 := by
    intro l
    induction l with
    | nil => exact fun u _ => refl u
    | cons k l ih => exact fun u _ => ((touchTile u ((i + k) / 16)).trans (fresh _ (i + k))).trans (ih _ _)
  exact hfold _ s []

theorem readSens (s : State) (i : Nat) : Calm s (s.readSens i).2 := by
  unfold State.readSens
  dsimp only
  split
  · exact refl s
  · exact ite (refl s) (after (raiseIf _ _ _ (by decide)))

theorem pointRead (s : State) (m : Master) (off len : Nat) (item : Bool) : Calm s (s.pointRead m off len item).2.2 := by
  unfold State.pointRead
  dsimp only
  split
  · exact refl s
  split
  · exact refl s
  split
  · exact refl s
  split
  · exact refl s
  split
  · exact refl s
  split
  · split
    · exact refl s
    split
    · exact refl s
    · exact (touchTile s _).trans (readSens _ _)
  · exact readPts s _ _

theorem ptRefuse (s : State) (m : Master) (kind addr st : Nat) : Calm s (s.ptRefuse m kind addr st) := by
  unfold State.ptRefuse
  dsimp only
  have hcounted := ((p s PNT_STAT.LAST_ERR st).trans (countIf _ (kind != 0 && (st == stOWNER || st == stTYPE || st == stWIDTH) || st == stRSENS)
    PNT_REJECT_CNT.off)).trans (countIf _ (st == stCFG) PNT_CFGERR_CNT.off)
  exact ite (hcounted.trans (busFault _ _ _ _)) hcounted

theorem accErr (s : State) (m : Master) (kind addr st : Nat) : Calm s (s.accErr m kind addr st) :=
  ite (ptRefuse s m kind addr st) (ite (refl s) (busFault s m kind addr))

/-! ### Registers and Cisterns -/

theorem objRead (s : State) (n o : Nat) : Calm s (s.objRead n o) := ite (pb s _ _) (refl s)

theorem latched (s : State) (x : List MWord) : Calm s { s with latches := x } := ⟨rfl, rfl⟩

theorem regRead (s : State) (m : Master) (nd off width : Nat) : Calm s (s.regRead m nd off width).2.2 := by
  unfold State.regRead
  dsimp only
  split
  · split
    · exact ⟨rfl, rfl⟩
    · exact busFault s _ _ _
  · split
    · exact busFault s _ _ _
    · refine Calm.trans ?_ (ite (objRead _ _ _) (refl _))
      have hlatched := latched s ((s.latchWords m off).foldl (fun a e => mwPut a m.mid.val e.1 e.2) s.latches)
      generalize ({ s with latches := _ } : State) = u at *
      exact hlatched.trans (ite (firstError u _ _ _ _) (refl u))

theorem regReads (m : Master) (nd : Nat) : ∀ (n : Nat) (s : State) (off : Nat), Calm s (s.regReads m nd off n).2.2
  | 0, s, _ => refl s
  | n + 1, s, off => by
    unfold State.regReads
    dsimp only
    split
    · exact regRead s m nd off 4
    · exact (regRead s m nd off 4).trans (regReads m nd n _ _)

theorem weirEval (s : State) (n : Nat) : Calm s (s.weirEval n) := ite (pb s _ _) (ite (pb s _ _) (ite (pb s _ _) (refl s)))

theorem cstPut (s : State) (n : Nat) (c : Cistern) : Calm s (s.cstPut n c) := after (weirEval _ n)

theorem countBy (s : State) (off n : Nat) : Calm s (s.countBy off n) :=
  ite (refl s) (ite (wr s _ _) (ite (refl s) ((wr s _ _).trans (count _ _))))

theorem flushNow (s : State) (n : Nat) : Calm s (s.flushNow n) := (cstPut s n _).trans (pb _ _ _)

theorem popWord (s : State) (n : Nat) : Calm s (s.popWord n).2 := by
  unfold State.popWord
  dsimp only
  split
  · exact (cstPut s n _).trans (ite (flushNow _ n) (refl _))
  · exact cstPut s n _
  · exact refl s

theorem cstLostAll (s : State) (n : Nat) : Calm s (s.cstLostAll n) :=
  ((((cstPut s n _).trans (pb _ _ _)).trans (pb _ _ _)).trans (countBy _ _ _)).trans (raise _ _ (by decide))

theorem popWords (n : Nat) : ∀ (k : Nat) (s : State) (bad : Option Nat) (i : Nat), Calm s (s.popWords n bad i k).2.2
  | 0, s, _, _ => refl s
  | k + 1, s, bad, i => by
    unfold State.popWords
    dsimp only
    split
    · have hbad := (count s CST_ECC_UNCORR.off).trans (raise _ (evCst 2) (cls := clDegraded) (by decide))
      split
      · exact hbad.trans (cstLostAll _ n)
      · exact (hbad.trans (popWord _ n)).trans (popWords n k _ _ _)
    · exact (popWord s n).trans (popWords n k _ _ _)

theorem cstRead (s : State) (off len : Nat) (bad : Option Nat) (corr : Nat) : Calm s (s.cstRead off len bad corr).2.2 := by
  unfold State.cstRead
  dsimp only
  split
  · exact refl s
  · split
    · exact refl s
    split
    · exact refl s
    split
    · exact refl s
    · exact (countBy s _ _).trans (popWords _ _ _ _ _)

theorem localRead (s : State) (m : Master) (addr len : Nat) (who : WinFor) : Calm s (s.localRead m addr len who).2 := by
  unfold State.localRead
  dsimp only
  split
  · exact accErr s _ _ _ _
  split
  · exact refl s
  split
  · exact accErr s _ _ _ _
  split
  · split
    · exact pointRead s _ _ _ _
    · exact (pointRead s _ _ _ _).trans (ptRefuse _ _ _ _ _)
  split
  · split
    · exact regRead s _ _ _ _
    · exact regReads _ _ _ s _
  split
  · split
    · exact cstRead s _ _ _ _
    · exact ((cstRead s _ _ _ _).trans (firstError _ _ _ _ _)).trans ⟨rfl, rfl⟩
  split
  · split
    · exact accErr s _ _ _ _
    split
    · exact firstError s _ _ _ _
    · exact refl s
  · split
    · exact ptRefuse s _ _ _ _
    · exact ⟨rfl, rfl⟩

/-! ### Work items and remote reads (R163 to R168, R522) -/

theorem fm (s : State) (f : Flows → Flows) : Calm s (s.fm f) := ⟨rfl, rfl⟩

theorem closeGroup (s : State) : Calm s s.closeGroup := by
  unfold State.closeGroup
  split
  · exact refl s
  · exact ite (fm s _) (fm s _)

theorem putRecord (s : State) (r : JRec) : Calm s (s.putRecord r) := by
  unfold State.putRecord
  dsimp only
  refine Calm.trans ?_ (ite (closeGroup _) (refl _))
  exact (ite (closeGroup s) (refl s)).trans (fm _ _)

theorem putIf (s : State) (r : JRec) : Calm s (s.putIf r).2 := by
  unfold State.putIf
  split
  · exact refl s
  · exact putRecord s r

theorem payList : ∀ (l : List JRec) (s : State), Calm s (s.payList l)
  | [], s => fm s _
  | r :: l, s => by
    have hput := putIf s r
    unfold State.payList
    generalize s.putIf r = x at *
    obtain ⟨_ | _, t⟩ := x
    · exact hput.trans (fm t _)
    · exact hput.trans (payList l t)

theorem payOwed (s : State) : Calm s s.payOwed := (foldl (fun u r => putIf u r) _ s).trans (payList _ _)

theorem addRec (s : State) (r : JRec) (arrival : Bool) : Calm s (s.addRec r arrival).2 := by
  unfold State.addRec
  dsimp only
  split
  · exact (payOwed s).trans (ite (fm _ _) (refl _))
  · exact ((payOwed s).trans (ite (fm _ _) (refl _))).trans (putRecord _ _)

theorem submitTry (s : State) (it : Item) : Calm s (s.submitTry it).2 := by
  unfold State.submitTry
  dsimp only
  split
  · exact refl s
  · have hadd := addRec s (.acc { it with seq := (s.fl it.flow).next, inc := (s.fl it.flow).inc } true) false
    generalize s.addRec _ _ = x at *
    obtain ⟨_ | _, t⟩ := x
    · exact hadd
    · exact hadd.trans ⟨rfl, rfl⟩

theorem submit (s : State) (it : Item) : Calm s (s.submit it).2 := by
  unfold State.submit
  dsimp only
  split
  · exact refl s
  split
  · exact (fm s _).trans (count _ _)
  · have htry := submitTry s it
    generalize s.submitTry it = x at *
    obtain ⟨_ | _, t⟩ := x
    · exact htry.trans ((fm t _).trans (countIf _ _ _))
    · exact htry

theorem submitAcc (s : State) (it : Item) : Calm s (s.submitAcc it).2 := by
  unfold State.submitAcc
  dsimp only
  split
  · exact submit s it
  · exact submit s it

theorem remoteItem (s : State) (mid op addr : Nat) (data : List Byte) (path : Path) (flow : Option Nat) :
    Calm s (s.remoteItem mid op addr data path flow).2 := by
  unfold State.remoteItem
  dsimp only
  split
  · exact refl s
  · split
    · exact refl s
    · exact submitAcc s _

theorem remoteRead (s : State) (mid addr len : Nat) (who : ReadFor) : Calm s (s.remoteRead mid addr len who).2 := by
  unfold State.remoteRead
  dsimp only
  split
  · exact refl s
  split
  · exact refl s
  split
  · exact ⟨rfl, rfl⟩
  · exact ⟨rfl, rfl⟩

/-! ### The host port's reads (R239 to R244) -/

theorem issuePiece (s : State) (m : Master) (e : DrEnt) (a n : Nat) (who : ReadFor) (path : Path) :
    Calm s (s.issuePiece m e a n who path).2 := by
  unfold State.issuePiece
  split
  · exact localRead s m a n _
  · have hremote : Calm s (if e.once then s.remoteItem m.mid.val 6 a [] path (s.routeOf a) else s.remoteRead m.mid.val a n who).2 := by
      split
      · exact remoteItem s _ _ _ _ _ _
      · exact remoteRead s _ _ _ _
    dsimp only
    generalize (if e.once then s.remoteItem m.mid.val 6 a [] path (s.routeOf a) else s.remoteRead m.mid.val a n who) = x at *
    obtain ⟨_ | _ | _, t⟩ := x
    · exact hremote.trans (accErr _ _ _ _ _)
    · exact hremote
    · exact hremote

theorem readRun (m : Master) (who : ReadFor) (path : Path) : ∀ (fuel : Nat) (s : State) (e : DrEnt), Calm s (s.readRun m who path e fuel).2.2
  | 0, s, _ => refl s
  | fuel + 1, s, e => by
    unfold State.readRun
    split
    · exact refl s
    · next a n l _ =>
      dsimp only
      have hissue := issuePiece s m { e with side := e.side || s.sideEffect a n e.once } a n who path
      generalize s.issuePiece m _ a n who path = x at *
      obtain ⟨_ | _ | _, t⟩ := x
      · dsimp only
        split
        · exact hissue.trans (readRun m who path fuel t _)
        · exact hissue
      · exact hissue
      · exact hissue

theorem hostAnswer (s : State) (st : Nat) (data : List Byte) : Calm s (s.hostAnswer st data) := ⟨rfl, rfl⟩

theorem prefetch (s : State) (addr len : Nat) : Calm s (s.prefetch addr len) := by
  unfold State.prefetch
  split
  · exact refl s
  · next t _ =>
    have hread := readPts s (16 * t) 16
    generalize s.readPts (16 * t) 16 = x at *
    exact hread.trans ⟨rfl, rfl⟩

theorem setDr (s : State) (e : DrEnt) : Calm s (s.setDr e) := ⟨rfl, rfl⟩

theorem drDone (s : State) (e : DrEnt) (status : Nat) (data : List Byte) : Calm s (s.drDone e status data) := by
  unfold State.drDone
  dsimp only
  have hset := setDr s { e with
    pieces := [], flying := false, doubt := false, data := data, done := some (status, s.absNs), window := s.claimMs }
  generalize s.setDr _ = t at *
  have hread : Calm s (if status = stOK ∧ !e.once then t.prefetch e.addr e.len else t) := hset.trans (ite (prefetch _ _ _) (refl t))
  generalize (if status = stOK ∧ !e.once then t.prefetch e.addr e.len else t) = u at *
  refine hread.trans (ite ?_ (ite ?_ (refl u)))
  · exact after (hostAnswer _ _ _)
  · exact (pb u HST_ATTN.DR_DONE true).trans (raise _ (evBrg 5) (cls := clEvent) (by decide))

theorem drGo (s : State) (tag : Nat) : Calm s (s.drGo tag) := by
  unfold State.drGo
  split
  · exact refl s
  · next e _ =>
    split
    · exact refl s
    · have hrun : Calm s (s.drRun e).2.2 := by
        unfold State.drRun
        split
        · exact refl s
        · exact readRun _ _ _ 6 s e
      generalize s.drRun e = x at *
      obtain ⟨_ | _, e', t⟩ := x
      · exact hrun.trans ⟨rfl, rfl⟩
      · exact hrun.trans (drDone t _ _ _)

theorem hostIssue (s : State) (addr len : Nat) (once : Bool) (due : Int) : Calm s (s.hostIssue addr len once due) := by
  unfold State.hostIssue
  split
  · exact ⟨rfl, rfl⟩
  · exact after (drGo _ _)

theorem pwSync (s : State) : Calm s s.pwSync := (p s _ _).trans (p _ _ _)

theorem post (s : State) (a : Nat) (data : List Byte) : Calm s (s.post a data) := by
  unfold State.post
  dsimp only
  exact after (((p _ _ _).trans (pwSync _)).trans (hostAnswer _ _ _))

/-- The host port's command in hand as time passes (R240, R246). -/
theorem hostTick (s : State) : Calm s s.hostTick := by
  unfold State.hostTick
  split
  · exact refl s
  · refine ite (refl s) ?_
    split
    · exact ⟨rfl, rfl⟩
    · exact ⟨rfl, rfl⟩
  · exact ite (hostIssue s _ _ _ _) (ite (refl s) ⟨rfl, rfl⟩)
  · exact ite (post s _ _) (ite (refl s) ⟨rfl, rfl⟩)

end Calm

/-! ### The invariant (R4) -/

theorem timeTick_calm (s : State) : Calm s s.timeTick := by
  obtain ⟨r, c, h⟩ := s.timeTick_form
  rw [h]
  exact ⟨rfl, rfl⟩

/-- The step of an empty queue. -/
theorem step_empty {s : State} (hp : s.pending = []) : step s = .next s.timeTick.hostTick := by
  unfold step
  rw [hp]

/-- Settles O4: the command at the front leaves, and what is left was waiting before; a tick and the host's command in hand leave the queue. -/
theorem stepKeepsTheQueue : Obligations.StepKeepsTheQueue := by
  intro s hwf hreset
  cases hp : s.pending with
  | nil =>
    have hcalm := (timeTick_calm s).trans (Calm.hostTick _)
    exact ⟨_, step_empty hp, fun c hc => hwf c (hcalm.pending ▸ hc), hcalm.resetReq.trans hreset, hcalm.pending.trans hp⟩
  | cons c l =>
    obtain ⟨t, hstep, hpend, hnone⟩ := step_takes hp
    exact ⟨t, hstep, fun x hx => hwf x (hp ▸ List.mem_cons_of_mem c (hpend ▸ hx)), hnone, hpend⟩

end Sys2Proof.Machine
end

section
/-! Triggers (R284): an arming stores both words and marks a past instant; a firing sets FIRED and clears EN, and the start groups that the trigger
is the source of fire with it (R329). -/

namespace Sys2Proof.Machine

/- One evaluation after another: each of them, left to itself, would hold a thread. -/
set_option Elab.async false

theorem exec_triggerArm (m : Master) (n : Fin 8) (val : Word) (s : State) :
    exec (.triggerArm m n val) s = .next (s.finish (s.regCmd m (TIME_TRIG_HI.off n.val) 4 val)) := by rfl

theorem exec_triggerFire (n : Fin 8) (s : State) : exec (.triggerFire n) s = .next (s.finish (triggerFire n s)) := by rfl

/-! ### An arming -/

theorem trig_rows : ∀ n : Fin 8, regHigh (TIME_TRIG_HI.off n.val) (TIME_TRIG_LO.off n.val) 2 2 = true ∧
    hasField (TIME_TRIG_LO.off n.val) .rw (TIME_TRIG_LO.TARGET n.val) = true ∧
    hasField (TIME_TRIG_HI.off n.val) .rw (TIME_TRIG_HI.TARGET n.val) = true ∧
    hasField (TIME_TRIG_HI.off n.val) .rw (TIME_TRIG_HI.EN n.val) = true := by decide +kernel

/-- Both words of a trigger written. -/
def State.trigSet (s : State) (n : Nat) (lo hi : Word) : State := (s.wr (TIME_TRIG_LO.off n) lo).wr (TIME_TRIG_HI.off n) hi

/-- The triggers armed at a past instant, once trigger `n` stands as it is. -/
def State.pastOf (s : State) (n : Nat) : List Nat :=
  if s.flag (TIME_TRIG_HI.EN n) && s.come (s.trigG n) then n :: s.clep.trigPast.filter (fun x => x != n)
  else s.clep.trigPast.filter (fun x => x != n)

def State.notePast (s : State) (n : Nat) : State := { s with clep := { s.clep with trigPast := s.pastOf n } }

theorem State.trigWrite_early {s : State} {n : Nat} (h : (s.flag (TIME_TRIG_HI.EN n) && s.come (s.trigG n)) = false) (lo hi eff : Word) :
    s.trigWrite n lo hi eff = (stOK, (s.trigSet n lo hi).notePast n) := by
  unfold State.trigWrite
  simp only [h, Bool.false_eq_true, if_false]
  rfl

theorem State.come_of {s t : State} (hc : t.fns48 = s.fns48) (g : Nat) : t.come g = s.come g := by rw [State.come, State.come, hc]

/-- Whether a trigger is to fire depends on its registers and on fabric time. -/
theorem State.trigDue_of {s t : State} (hr : t.regs = s.regs) (hc : t.fns48 = s.fns48) (n : Nat) :
    (t.flag (TIME_TRIG_HI.EN n) && t.come (t.trigG n)) = (s.flag (TIME_TRIG_HI.EN n) && s.come (s.trigG n)) := by
  rw [State.flag_of_regs hr, State.come_of hc, State.trigG, State.trigG, State.g_of_regs hr, State.g_of_regs hr]

theorem State.answer_fns48 (s : State) (m : Master) (st : Nat) (d : List Byte) : (s.answer m st d).fns48 = s.fns48 :=
  State.fns48_congr rfl (State.rd64_congr (State.answer_rd ..) (State.answer_rd ..))

theorem State.notePast_leaves (s : State) (n : Nat) : (s.notePast n).regs = s.regs ∧ (s.notePast n).resetReq = s.resetReq ∧
    (s.notePast n).pending = s.pending ∧ (s.notePast n).fns48 = s.fns48 ∧
    (s.notePast n).clep.trigPast.contains n = (s.flag (TIME_TRIG_HI.EN n) && s.come (s.trigG n)) := by
  refine ⟨rfl, rfl, rfl, rfl, ?_⟩
  have hothers : (s.clep.trigPast.filter (fun x => x != n)).contains n = false := by simp
  show (s.pastOf n).contains n = _
  unfold State.pastOf
  cases (s.flag (TIME_TRIG_HI.EN n) && s.come (s.trigG n))
  · exact hothers
  · simp

theorem State.trigSet_leaves (s : State) (n : Nat) (lo hi : Word) : s.sameRegs (s.trigSet n lo hi) [TIME_TRIG_LO.off n, TIME_TRIG_HI.off n] ∧
    (s.trigSet n lo hi).resetReq = s.resetReq ∧ (s.trigSet n lo hi).pending = s.pending ∧
    (s.trigSet n lo hi).rd (TIME_TRIG_LO.off n) = lo ∧ (s.trigSet n lo hi).rd (TIME_TRIG_HI.off n) = hi := by
  have hne : TIME_TRIG_LO.off n ≠ TIME_TRIG_HI.off n := by simp only [TIME_TRIG_LO.off, TIME_TRIG_HI.off]; omega
  unfold State.trigSet
  refine ⟨fun k hk => ?_, rfl, rfl, ?_, State.rd_wr_same _ _ _⟩
  · rw [State.rd_wr_ne _ _ (by simp_all), State.rd_wr_ne _ _ (by simp_all)]
  · rw [State.rd_wr_ne _ _ hne, State.rd_wr_same]

theorem State.blkTop_time {s : State} {r : RegWr} (h1 : 0x040000 ≤ r.off) (h2 : r.off < 0x050000) : s.blkTop r = s.blkTime r := by
  unfold State.blkTop State.blkWrite
  simp only [UPD_CMD.off, UPD_INJ_CTRL.off, CFG_RESET.off, FH_CMD.off]
  rw [if_neg (by omega), if_neg (by omega), if_neg (by omega), if_neg (by omega), if_neg (by omega), if_neg (by omega), if_neg (by omega),
    if_pos h2]

theorem State.blkTop_trig {s : State} (n : Fin 8) {r : RegWr} (h : r.off = TIME_TRIG_HI.off n.val) :
    s.blkTop r = s.trigWrite n.val (r.w 0) (r.w 1) r.eff := by
  have hlt := n.isLt
  have hoff : r.off = 0x040304 + n.val * 8 := h
  have hinst : r.inst 0x040300 8 = n.val := by rw [RegWr.inst, hoff]; omega
  rw [State.blkTop_time (by omega) (by omega), State.blkTime]
  simp only [TIME_EPOCH_HI.off, TIME_INC_HI.off, TIME_SLEW_CNT.off, TIME_STEP.off, TIME_SET_SEC_HI.off, TIME_ACT_FLUSH.off, TIME_LATE_POP.off]
  rw [if_neg (by omega), if_neg (by omega), if_neg (by omega), if_neg (by omega), if_neg (by omega), if_neg (by omega), if_neg (by omega),
    if_neg (by omega), if_neg (by omega), if_pos (by omega), hinst]

theorem groupOffs_two (base : Nat) : groupOffs base 2 = [base, base + 4] := rfl

/-- The words that an arming of a trigger stores (R42). -/
theorem State.trigWrs {s : State} {m : Master} (n : Fin 8) {lo : Word} (h : mwGet s.staging m.mid.val (TIME_TRIG_LO.off n.val) = some lo) (hi : Word) :
    ∃ w, (s.regWrs m (TIME_TRIG_HI.off n.val) (TIME_TRIG_LO.off n.val) 2 hi).w 0 = lo ∧
      (s.regWrs m (TIME_TRIG_HI.off n.val) (TIME_TRIG_LO.off n.val) 2 hi).w 1 = w ∧
      (TIME_TRIG_HI.TARGET n.val).get w = (TIME_TRIG_HI.TARGET n.val).get hi ∧ (TIME_TRIG_HI.EN n.val).get w = (TIME_TRIG_HI.EN n.val).get hi := by
  obtain ⟨_, hlo, htarget, hen⟩ := trig_rows n
  have hne : TIME_TRIG_LO.off n.val ≠ TIME_TRIG_HI.off n.val := by simp only [TIME_TRIG_LO.off, TIME_TRIG_HI.off]; omega
  have hlow := State.wordOfWrite_staged hne h hi
  have hhigh := s.wordOfWrite_last m (TIME_TRIG_HI.off n.val) hi
  rw [newWord_whole hlo rfl rfl] at hlow
  have hoffs : groupOffs (TIME_TRIG_LO.off n.val) 2 = [TIME_TRIG_LO.off n.val, TIME_TRIG_HI.off n.val] := by
    rw [groupOffs_two, show TIME_TRIG_HI.off n.val = TIME_TRIG_LO.off n.val + 4 by simp only [TIME_TRIG_LO.off, TIME_TRIG_HI.off]; omega]
  simp only [State.regWrs, hoffs, List.map_cons, List.map_nil, hlow, hhigh]
  generalize s.storedWord m (TIME_TRIG_HI.off n.val) = old
  exact ⟨(rowAt (TIME_TRIG_HI.off n.val)).newWord old hi, rfl, rfl, newWord_get_rw htarget _ _, newWord_get_rw hen _ _⟩

theorem triggerArm_leaves {m : Master} {n : Fin 8} {lo : Word} {s : State} (hs : s.serves m (TIME_TRIG_HI.off n.val) 2)
    (hget : mwGet s.staging m.mid.val (TIME_TRIG_LO.off n.val) = some lo)
    (hdue : (s.flag (TIME_TRIG_HI.EN n.val) && s.come (s.trigG n.val)) = false) (hi : Word) :
    ∃ t, exec (.triggerArm m n hi) s = .next t ∧ t.toldOK m ∧ t.g (TIME_TRIG_LO.TARGET n.val) = lo.toNat ∧
      t.g (TIME_TRIG_HI.TARGET n.val) = (TIME_TRIG_HI.TARGET n.val).get hi ∧ t.g (TIME_TRIG_HI.EN n.val) = (TIME_TRIG_HI.EN n.val).get hi ∧
      (t.clep.trigPast.contains n.val = (t.flag (TIME_TRIG_HI.EN n.val) && t.come (t.trigG n.val))) ∧
      s.sameRegs t [TIME_TRIG_LO.off n.val, TIME_TRIG_HI.off n.val] := by
  obtain ⟨w, hw0, hw1, htarget, hen⟩ := State.trigWrs n hget hi
  obtain ⟨hregs, hreset, hpend, hstores⟩ := s.unstaged_leaves m (TIME_TRIG_LO.off n.val) 2
  have hclep : (s.unstaged m (TIME_TRIG_LO.off n.val) 2).fns48 = s.fns48 := rfl
  have hwrite := State.blkTop_trig (s := s.unstaged m (TIME_TRIG_LO.off n.val) 2) n
    (r := s.regWrs m (TIME_TRIG_HI.off n.val) (TIME_TRIG_LO.off n.val) 2 hi) rfl
  rw [hw0, hw1] at hwrite
  generalize hu : s.unstaged m (TIME_TRIG_LO.off n.val) 2 = u at *
  rw [State.trigWrite_early ((State.trigDue_of hregs hclep n.val).trans hdue)] at hwrite
  obtain ⟨hsame, hreset', hpend', hlo, hhi⟩ := u.trigSet_leaves n.val lo w
  generalize u.trigSet n.val lo w = v at *
  obtain ⟨hnregs, hnreset, hnpend, hnfns, hpast⟩ := v.notePast_leaves n.val
  generalize v.notePast n.val = x at *
  have hfin := State.serves_finishHigh hs (trig_rows n).1 ((congrArg (State.blkTop · _) hu).trans hwrite) ((hnreset.trans hreset').trans (hreset.trans (State.serves_noReset hs)))
    (hnpend.trans (hpend'.trans hpend))
  have hgx : ∀ f, x.g f = v.g f := State.g_of_regs hnregs
  refine ⟨x.answer m stOK [], by rw [exec_triggerArm, hfin], rfl, ?_, ?_, ?_, ?_, fun k hk => ?_⟩
  · rw [State.answer_g, hgx, State.g, hlo, FRef.get, bitsOf]
    simpa using lo.isLt
  · rw [State.answer_g, hgx, State.g, hhi, htarget]
  · rw [State.answer_g, hgx, State.g, hhi, hen]
  · exact hpast.trans (State.trigDue_of (hnregs.trans rfl) ((x.answer_fns48 m stOK []).trans hnfns) n.val).symm
  · rw [State.answer_rd, State.rd_of_regs hnregs, hsame k hk, State.rd_of_regs hregs]

/-! ### A firing -/

/-- What follows the firing of a trigger: events, groups that fire, and a snapshot that begins. -/
structure Fires (s t : State) : Prop extends Eff s t [JET_GRP_STAT.off] where
  flow : t.flow = s.flow
  pts : t.pts = s.pts
  pending : t.pending = s.pending
  fired : ∀ g, (s.rd JET_GRP_STAT.off).getLsbD g = true → (t.rd JET_GRP_STAT.off).getLsbD g = true

namespace Fires

theorem refl (s : State) : Fires s s := ⟨Eff.refl s _, rfl, rfl, rfl, fun _ h => h⟩

theorem trans {s t u : State} (a : Fires s t) (b : Fires t u) : Fires s u :=
  ⟨a.toEff.trans b.toEff, b.flow.trans a.flow, b.pts.trans a.pts, b.pending.trans a.pending, fun g h => b.fired g (a.fired g h)⟩

theorem of_raised {s t : State} (h : Raised s t) (hr : t.resetReq = s.resetReq) : Fires s t := by
  have hstores := State.sameStores_of_bare h.bare
  refine ⟨⟨fun k _ h1 h2 => h.rd k h1 h2, h.pend, h.kept, hr⟩, (congrArg State.flow h.bare :), (congrArg State.pts h.bare :), (congrArg State.pending h.bare :), fun g hg => ?_⟩
  rw [h.rd _ (by decide) (by decide), hg]

theorem raise (s : State) {ev cls : Nat} (hev : ev < 512) (hc : cls < 4) : Fires s (s.raise ev cls) :=
  of_raised (s.raise_raised cls hev) (s.raise_resetReq hev hc)

theorem raiseAll {s : State} {l : List (Nat × Nat)} (h : smallEvents l) : Fires s (l.foldl (fun s e => s.raise e.1 e.2) s) := by
  induction l generalizing s with
  | nil => exact refl s
  | cons e l ih =>
    obtain ⟨hev, hcls⟩ := h e List.mem_cons_self
    exact (raise s (by omega) (by omega)).trans (ih fun x hx => h x (List.mem_cons_of_mem e hx))

theorem ite {s t u : State} {c : Prop} [Decidable c] (ht : Fires s t) (hu : Fires s u) : Fires s (if c then t else u) := by
  split
  · exact ht
  · exact hu

/-- The firings that a bank's acting edge takes up. -/
def pends (s : State) (x : List GrpFire) : State := { s with jets := { s.jets with fired := x } }

theorem of_pends (s : State) (x : List GrpFire) : Fires s (pends s x) := ⟨Eff.of_regs _, rfl, rfl, rfl, fun _ h => h⟩

theorem groupFire (s : State) {g : Nat} (hg : g < 32) : Fires s (s.groupFire g) ∧ ((s.groupFire g).rd JET_GRP_STAT.off).getLsbD g = true := by
  have hjets : ∃ x, s.groupFire g = (pends s x).wr JET_GRP_STAT.off ((pends s x).rd JET_GRP_STAT.off ||| BitVec.ofNat 32 (2 ^ g)) := ⟨_, rfl⟩
  obtain ⟨x, hx⟩ := hjets
  rw [hx]
  have hp := of_pends s x
  generalize pends s x = u at *
  refine ⟨hp.trans ⟨Eff.wr u _ (by decide) (by decide), rfl, rfl, rfl, fun k hk => ?_⟩, ?_⟩
  · rw [State.rd_wr_same, BitVec.getLsbD_or, hk, Bool.true_or]
  · rw [State.rd_wr_same, BitVec.getLsbD_or, BitVec.getLsbD_ofNat]
    simp [hg, Nat.testBit_two_pow_self]

end Fires

/-- A start group fires with the trigger that is its source (R329). -/
def State.groupOf (s : State) (n g : Nat) : State :=
  if s.flag (JET_GRP_CFG.ARM g) && s.g (JET_GRP_CFG.SRC g) == n + 1 then s.groupFire g else s

theorem State.groupOf_fires (s : State) (n : Nat) {g : Nat} (hg : g < 8) : Fires s (s.groupOf n g) ∧
    (s.flag (JET_GRP_CFG.ARM g) = true → s.g (JET_GRP_CFG.SRC g) = n + 1 → ((s.groupOf n g).rd JET_GRP_STAT.off).getLsbD g = true) := by
  obtain ⟨hgroup, hbit⟩ := Fires.groupFire s (g := g) (by omega)
  unfold State.groupOf
  refine ⟨Fires.ite hgroup (Fires.refl s), fun harm hsrc => ?_⟩
  rw [if_pos (by rw [harm, hsrc]; simp)]
  exact hbit

theorem grp_keys : ∀ g : Fin 8, fixedKey (JET_GRP_CFG.off g.val) = true ∧ JET_GRP_CFG.off g.val ∉ [JET_GRP_STAT.off] := by decide +kernel

/-- The start groups of a trigger fire (R329). -/
theorem State.groupsFire (n : Nat) : ∀ (l : List Nat) (s : State), (∀ g ∈ l, g < 8) → Fires s (l.foldl (fun s g => s.groupOf n g) s) ∧
    ∀ g ∈ l, s.flag (JET_GRP_CFG.ARM g) = true → s.g (JET_GRP_CFG.SRC g) = n + 1 →
      ((l.foldl (fun s g => s.groupOf n g) s).rd JET_GRP_STAT.off).getLsbD g = true
  | [], s, _ => ⟨Fires.refl s, by simp⟩
  | k :: l, s, h => by
    obtain ⟨hstep, hbit⟩ := s.groupOf_fires n (h k List.mem_cons_self)
    obtain ⟨hrest, hbits⟩ := groupsFire n l (s.groupOf n k) fun g hg => h g (List.mem_cons_of_mem k hg)
    refine ⟨hstep.trans hrest, fun g hg harm hsrc => ?_⟩
    obtain ⟨hfixed, hout⟩ := grp_keys ⟨g, h g hg⟩
    rcases List.mem_cons.1 hg with rfl | hg
    · exact hrest.fired g (hbit harm hsrc)
    · exact hbits g hg ((hstep.flag hout hfixed).trans harm) ((hstep.g hout hfixed).trans hsrc)

/-- The fields of a trigger as it fires. -/
def State.trigMarks (s : State) (n : Nat) (late : Bool) : State :=
  if late then ((s.pb (TIME_TRIG_HI.FIRED n) true).pb (TIME_TRIG_HI.EN n) false).pb (TIME_TRIG_HI.LATE n) true
  else (s.pb (TIME_TRIG_HI.FIRED n) true).pb (TIME_TRIG_HI.EN n) false

/-- Stillwater's TIME trigger (R487). -/
def State.trigSnap (s : State) (n : Nat) : State :=
  if s.flag SNAP_CFG.EN && (s.g SNAP_CFG.TRIG).testBit 3 && s.g SNAP_CFG.TRIGN == n then
    let (s, evs) := s.snapFire snTime s.node (s.trigG n)
    evs.foldl (fun s e => s.raise e.1 e.2) s
  else s

theorem State.trigFire_eq (s : State) (n : Nat) (late : Bool) :
    s.trigFire n late = ((List.range 8).foldl (fun s g => s.groupOf n g) ((s.trigMarks n late).raise (evTime 6) clEvent)).trigSnap n := by
  unfold State.trigFire State.trigMarks State.groupOf
  dsimp only
  generalize (s.pb (TIME_TRIG_HI.FIRED n) true).pb (TIME_TRIG_HI.EN n) false = u
  generalize (if late = true then u.pb (TIME_TRIG_HI.LATE n) true else u).raise (evTime 6) clEvent = v
  generalize (List.range 8).foldl (fun s g => if (s.flag (JET_GRP_CFG.ARM g) && s.g (JET_GRP_CFG.SRC g) == n + 1) = true then s.groupFire g else s) v = w
  rfl

theorem State.trigSnap_fires (s : State) (n : Nat) : Fires s (s.trigSnap n) := by
  obtain ⟨hraised, hsmall, hreset⟩ := RaisedWith.snapFire s snTime s.node (s.trigG n)
  unfold State.trigSnap
  generalize s.snapFire snTime s.node (s.trigG n) = r at *
  exact Fires.ite ((Fires.of_raised hraised hreset).trans (Fires.raiseAll hsmall)) (Fires.refl s)

theorem trigHi_key : ∀ n : Fin 8, fixedKey (TIME_TRIG_HI.off n.val) = true ∧ TIME_TRIG_HI.off n.val ∉ [JET_GRP_STAT.off] := by decide +kernel

theorem State.trigMarks_leaves (s : State) (n : Fin 8) (late : Bool) :
    Eff s (s.trigMarks n.val late) [TIME_TRIG_HI.off n.val] ∧ (s.trigMarks n.val late).flow = s.flow ∧ (s.trigMarks n.val late).pts = s.pts ∧
      (s.trigMarks n.val late).pending = s.pending ∧
      (s.trigMarks n.val late).flag (TIME_TRIG_HI.FIRED n.val) = true ∧ (s.trigMarks n.val late).flag (TIME_TRIG_HI.EN n.val) = false ∧
      (s.trigMarks n.val late).flag (TIME_TRIG_HI.LATE n.val) = (late || s.flag (TIME_TRIG_HI.LATE n.val)) := by
  have hkey : isPendKey (TIME_TRIG_HI.off n.val) = false := (fixedKey_iff.1 (trigHi_key n).1).1
  have hset : ∀ (u : State) (f : FRef) (b : Bool), f.off = TIME_TRIG_HI.off n.val →
      Eff u (u.pb f b) [TIME_TRIG_HI.off n.val] ∧ (u.pb f b).flow = u.flow ∧ (u.pb f b).pts = u.pts ∧ (u.pb f b).pending = u.pending :=
    fun u f b hf => ⟨Eff.pb u f b (hf ▸ hkey) (hf ▸ List.mem_cons_self), rfl, rfl, rfl⟩
  obtain ⟨e1, f1, p1, q1⟩ := hset s (TIME_TRIG_HI.FIRED n.val) true rfl
  have hfired := s.flag_pb_self (f := TIME_TRIG_HI.FIRED n.val) true (by simp) rfl
  have hlate := s.flag_pb_sep (f := TIME_TRIG_HI.FIRED n.val) (g := TIME_TRIG_HI.LATE n.val) true (by simp [FRef.sep])
  unfold State.trigMarks
  generalize s.pb (TIME_TRIG_HI.FIRED n.val) true = u at *
  obtain ⟨e2, f2, p2, q2⟩ := hset u (TIME_TRIG_HI.EN n.val) false rfl
  have hen := u.flag_pb_self (f := TIME_TRIG_HI.EN n.val) false (by simp) rfl
  have hfired2 := (u.flag_pb_sep (f := TIME_TRIG_HI.EN n.val) (g := TIME_TRIG_HI.FIRED n.val) false (by simp [FRef.sep])).trans hfired
  have hlate2 := (u.flag_pb_sep (f := TIME_TRIG_HI.EN n.val) (g := TIME_TRIG_HI.LATE n.val) false (by simp [FRef.sep])).trans hlate
  generalize u.pb (TIME_TRIG_HI.EN n.val) false = v at *
  cases late
  · exact ⟨e1.trans e2, f2.trans f1, p2.trans p1, q2.trans q1, hfired2, hen, hlate2⟩
  · obtain ⟨e3, f3, p3, q3⟩ := hset v (TIME_TRIG_HI.LATE n.val) true rfl
    exact ⟨(e1.trans e2).trans e3, f3.trans (f2.trans f1), p3.trans (p2.trans p1), q3.trans (q2.trans q1),
      (v.flag_pb_sep (f := TIME_TRIG_HI.LATE n.val) (g := TIME_TRIG_HI.FIRED n.val) true (by simp [FRef.sep])).trans hfired2,
      (v.flag_pb_sep (f := TIME_TRIG_HI.LATE n.val) (g := TIME_TRIG_HI.EN n.val) true (by simp [FRef.sep])).trans hen,
      v.flag_pb_self (f := TIME_TRIG_HI.LATE n.val) true (by simp) rfl⟩

theorem trigger_grp_keys : ∀ (n g : Fin 8), JET_GRP_CFG.off g.val ∉ [TIME_TRIG_HI.off n.val] := by decide +kernel

theorem triggerFire_leaves {n : Fin 8} {s : State} (hs : s.resetReq = none) (hen : s.flag (TIME_TRIG_HI.EN n.val) = true)
    (hdue : s.come (s.trigG n.val) = true) :
    ∃ t, exec (.triggerFire n) s = .next t ∧ t.flag (TIME_TRIG_HI.FIRED n.val) = true ∧ t.flag (TIME_TRIG_HI.EN n.val) = false ∧
      (s.clep.trigPast.contains n.val = true → t.flag (TIME_TRIG_HI.LATE n.val) = true) ∧
      (s.clep.trigPast.contains n.val = false → t.flag (TIME_TRIG_HI.LATE n.val) = s.flag (TIME_TRIG_HI.LATE n.val)) ∧
      t.evPend (evTime 6) = true ∧
      (∀ g, g < 8 → s.flag (JET_GRP_CFG.ARM g) = true → s.g (JET_GRP_CFG.SRC g) = n.val + 1 → (t.rd JET_GRP_STAT.off).getLsbD g = true) ∧
      t.flow = s.flow ∧ t.pts = s.pts := by
  have hfire : triggerFire n s = s.trigFire n.val (s.clep.trigPast.contains n.val) := if_pos ⟨hen, hdue⟩
  rw [exec_triggerFire, hfire, State.trigFire_eq]
  generalize s.clep.trigPast.contains n.val = late
  obtain ⟨hfixed, hout⟩ := trigHi_key n
  obtain ⟨hmarks, hflow, hpts, hpend, hfired, hclear, hlate⟩ := s.trigMarks_leaves n late
  generalize s.trigMarks n.val late = u at *
  have hraise := Fires.raise u (ev := evTime 6) (cls := clEvent) (by decide) (by decide)
  have hev := u.raise_pend (ev := evTime 6) clEvent (by decide)
  generalize u.raise (evTime 6) clEvent = v at *
  obtain ⟨hgroups, hbits⟩ := State.groupsFire n.val (List.range 8) v (fun g => List.mem_range.1)
  generalize (List.range 8).foldl (fun s g => s.groupOf n.val g) v = w at *
  have hsnap := w.trigSnap_fires n.val
  generalize w.trigSnap n.val = x at *
  have hafter : Fires v x := hgroups.trans hsnap
  have hall : Fires u x := hraise.trans hafter
  refine ⟨x, congrArg _ (State.finish_kept (hall.resetReq.trans (hmarks.resetReq.trans hs)) (hall.pending.trans hpend)),
    (hall.flag hout hfixed).trans hfired, (hall.flag hout hfixed).trans hclear, fun h => ?_, fun h => ?_, hafter.pend _ (by decide) hev,
    fun g hg harm hsrc => ?_, hall.flow.trans hflow, hall.pts.trans hpts⟩
  · rw [hall.flag hout hfixed, hlate, h, Bool.true_or]
  · rw [hall.flag hout hfixed, hlate, h, Bool.false_or]
  · obtain ⟨hgfixed, hgout⟩ := grp_keys ⟨g, hg⟩
    have hkeep := trigger_grp_keys n ⟨g, hg⟩
    exact hsnap.fired g (hbits g (List.mem_range.2 hg) ((hraise.flag hgout hgfixed).trans ((hmarks.flag hkeep hgfixed).trans harm))
      ((hraise.g hgout hgfixed).trans ((hmarks.g hkeep hgfixed).trans hsrc)))

/-- Settles O46. -/
theorem triggers : Obligations.Triggers :=
  ⟨fun _ _ _ hi _ hs hget hdue => triggerArm_leaves hs hget hdue hi, fun _ _ hs hen hdue => triggerFire_leaves hs hen hdue⟩

end Sys2Proof.Machine
end

section
/-! Edges and timed actions (R277 to R283): a captured edge enters its bank's queue, a timed action drives its pin's direct level, and the heads
of the queues are taken by their serials. -/

namespace Sys2Proof.Machine

/- One evaluation after another: each of them, left to itself, would hold a thread. -/
set_option Elab.async false

theorem exec_pinEdge (n : Fin 256) (rising : Bool) (sub : Fin 4) (s : State) :
    exec (.pinEdge n rising sub) s = .next (s.finish (s.pinEdge n.val rising sub.val)) := by rfl

theorem exec_edgePop (m : Master) (b : Fin 8) (val : Word) (s : State) :
    exec (.edgePop m b val) s = .next (s.finish (s.regCmd m (TIME_EDGE_POP.off b.val) 4 val)) := by rfl

theorem exec_timedActionFire (pin : Fin 256) (s : State) : exec (.timedActionFire pin) s = .next (s.finish (s.timedFire pin.val false)) := by rfl

theorem exec_timedPulseEnd (pin : Fin 256) (s : State) : exec (.timedPulseEnd pin) s = .next (s.finish (s.timedFire pin.val true)) := by rfl

theorem exec_actionFlush (m : Master) (val : Word) (s : State) :
    exec (.actionFlush m val) s = .next (s.finish (s.regCmd m TIME_ACT_FLUSH.off 4 val)) := by rfl

theorem exec_latePop (m : Master) (val : Word) (s : State) : exec (.latePop m val) s = .next (s.finish (s.regCmd m TIME_LATE_POP.off 4 val)) := by rfl

/-! ### Events that a trigger of Stillwater raises -/

theorem Eff.of_raised {s t : State} (h : Raised s t) (hr : t.resetReq = s.resetReq) (l : List Nat) : Eff s t l :=
  ⟨fun k _ h1 h2 => h.rd k h1 h2, h.pend, h.kept, hr⟩

theorem State.raiseAll_leaves {l : List (Nat × Nat)} (h : smallEvents l) (s : State) (r : List Nat) :
    Eff s (l.foldl (fun s e => s.raise e.1 e.2) s) r ∧ (l.foldl (fun s e => s.raise e.1 e.2) s).bare = s.bare := by
  induction l generalizing s with
  | nil => exact ⟨Eff.refl s r, rfl⟩
  | cons e l ih =>
    obtain ⟨hev, hcls⟩ := h e List.mem_cons_self
    obtain ⟨heff, hbare⟩ := ih (fun x hx => h x (List.mem_cons_of_mem e hx)) (s.raise e.1 e.2)
    exact ⟨(Eff.raise s (by omega) (by omega) r).trans heff, hbare.trans (s.raise_raised e.2 (by omega)).bare⟩

/-- A PIN trigger of a snapshot (R487). -/
theorem State.snapPinEdge_leaves (s : State) (n stamp : Nat) (rising : Bool) (r : List Nat) :
    Eff s (s.snapPinEdge n stamp rising) r ∧ (s.snapPinEdge n stamp rising).bare = s.bare := by
  obtain ⟨hraised, hsmall, hreset⟩ := RaisedWith.snapLocal s snPin stamp 0 clEvent
  unfold State.snapPinEdge
  generalize s.snapLocal snPin stamp 0 clEvent = x at *
  by_cases hpin : s.g SNAP_PIN.PIN = n ∧ (s.g SNAP_PIN.EDGE).testBit (if rising then 0 else 1)
  · obtain ⟨heff, hbare⟩ := State.raiseAll_leaves hsmall x.1 r
    rw [if_pos hpin]
    exact ⟨(Eff.of_raised hraised hreset r).trans heff, hbare.trans hraised.bare⟩
  · rw [if_neg hpin]
    exact ⟨Eff.refl s r, rfl⟩

/-! ### Edge queues (R277 to R279) -/

/-- The stamp that the pin's low word shows (R277). -/
def State.stampAt (s : State) (n stamp : Nat) : State :=
  { s with pins := { s.pins with stampLatch := SMap.set (fun _ => 0) s.pins.stampLatch n (stamp % 2 ^ 32) } }

/-- An edge put into its bank's queue, nothing lost before it. -/
def State.edgeAdded (s : State) (n stamp : Nat) (level : Bool) : State :=
  { s with clep := { s.clep with
    edgeQ := SMap.set (fun _ => []) s.clep.edgeQ (n / 32)
      (s.edgeQ (n / 32) ++ [⟨n, stamp, level, false, false, SMap.get (fun _ => 0) s.clep.edgeSerial (n / 32)⟩]),
    edgeLost := s.clep.edgeLost.filter (fun x => x != n / 32), edgeStep := s.clep.edgeStep.filter (fun x => x != n / 32),
    edgeSerial := SMap.set (fun _ => 0) s.clep.edgeSerial (n / 32) ((SMap.get (fun _ => 0) s.clep.edgeSerial (n / 32) + 1) % 16) } }

theorem State.edgeStore_room {s : State} {n : Nat} (hroom : (s.edgeQ (n / 32)).length < 256) (hlost : s.clep.edgeLost = [])
    (hstep : s.clep.edgeStep = []) (stamp : Nat) (level : Bool) :
    s.edgeStore n stamp level = (s.edgeAdded n stamp level).raiseIf (s.edgeQ (n / 32)).isEmpty (evTime (8 + n / 32)) clEvent := by
  unfold State.edgeStore
  rw [if_neg (by omega)]
  simp only [hlost, hstep]
  rfl

theorem State.edgeAdded_leaves (s : State) (n stamp : Nat) (level : Bool) : (s.edgeAdded n stamp level).regs = s.regs ∧
    (s.edgeAdded n stamp level).resetReq = s.resetReq ∧ (s.edgeAdded n stamp level).pending = s.pending ∧
    (s.edgeAdded n stamp level).pins = s.pins ∧
    (s.edgeAdded n stamp level).edgeQ (n / 32) = s.edgeQ (n / 32) ++
      [⟨n, stamp, level, false, false, SMap.get (fun _ => 0) s.clep.edgeSerial (n / 32)⟩] :=
  ⟨rfl, rfl, rfl, rfl, Laws.get_set_same _ _ _⟩

theorem State.edgeQ_of {s t : State} (h : t.clep = s.clep) (b : Nat) : t.edgeQ b = s.edgeQ b := by rw [State.edgeQ, State.edgeQ, h]

theorem State.stampAt_leaves (s : State) (n stamp : Nat) : (s.stampAt n stamp).regs = s.regs ∧ (s.stampAt n stamp).resetReq = s.resetReq ∧
    (s.stampAt n stamp).pending = s.pending ∧ (s.stampAt n stamp).clep = s.clep ∧
    SMap.get (fun _ => 0) (s.stampAt n stamp).pins.stampLatch n = stamp % 2 ^ 32 := ⟨rfl, rfl, rfl, rfl, Laws.get_set_same _ _ _⟩

theorem State.pinEdge_captured {s : State} {n : Nat} {rising : Bool} (hc : s.captures n rising = true) (hq : s.flag (FIO_PIN_CFG.QOFF n) = false)
    (sub : Nat) : s.pinEdge n rising sub =
      ((s.stampAt n ((s.fns48 + sub) % 2 ^ 48)).edgeStore n ((s.fns48 + sub) % 2 ^ 48) rising).snapPinEdge n ((s.fns48 + sub) % 2 ^ 48) rising := by
  have hqoff : ∀ x, (s.stampAt n x).flag (FIO_PIN_CFG.QOFF n) = false := fun x => (State.flag_of_regs rfl _).trans hq
  unfold State.pinEdge
  rw [hc]
  exact congrArg (State.snapPinEdge · n ((s.fns48 + sub) % 2 ^ 48) rising) (if_neg (ne_true_of_eq_false (hqoff _)))

theorem pinEdge_leaves {n : Fin 256} {rising : Bool} {sub : Fin 4} {s : State} (hs : s.resetReq = none) (hc : s.captures n.val rising = true)
    (hq : s.flag (FIO_PIN_CFG.QOFF n.val) = false) (hroom : (s.edgeQ (n.val / 32)).length < 256) (hlost : s.clep.edgeLost = [])
    (hstep : s.clep.edgeStep = []) :
    ∃ t, exec (.pinEdge n rising sub) s = .next t ∧
      t.edgeQ (n.val / 32) = s.edgeQ (n.val / 32) ++ [⟨n.val, (s.fns48 + sub.val) % 2 ^ 48, rising, false, false,
        SMap.get (fun _ => 0) s.clep.edgeSerial (n.val / 32)⟩] ∧
      (s.edgeQ (n.val / 32) = [] → t.evPend (evTime (8 + n.val / 32)) = true) ∧
      SMap.get (fun _ => 0) t.pins.stampLatch n.val = (s.fns48 + sub.val) % 2 ^ 48 % 2 ^ 32 := by
  have hlt := n.isLt
  have hev : evTime (8 + n.val / 32) < 512 := by simp only [evTime]; omega
  rw [exec_pinEdge, State.pinEdge_captured hc hq]
  generalize (s.fns48 + sub.val) % 2 ^ 48 = stamp
  obtain ⟨_, hreset, hpend, hclep, hstamp⟩ := s.stampAt_leaves n.val stamp
  have hqueue : (s.stampAt n.val stamp).edgeQ (n.val / 32) = s.edgeQ (n.val / 32) := State.edgeQ_of hclep _
  generalize s.stampAt n.val stamp = u at *
  rw [State.edgeStore_room (hqueue ▸ hroom) (hclep ▸ hlost) (hclep ▸ hstep)]
  obtain ⟨_, hreset', hpend', hpins, hq'⟩ := u.edgeAdded_leaves n.val stamp rising
  rw [hqueue, hclep] at hq'
  generalize u.edgeAdded n.val stamp rising = v at *
  have hraise := Quiet.raiseIf v (u.edgeQ (n.val / 32)).isEmpty (evTime (8 + n.val / 32)) (cls := clEvent) (by decide)
  have hset : s.edgeQ (n.val / 32) = [] → (v.raiseIf (u.edgeQ (n.val / 32)).isEmpty (evTime (8 + n.val / 32)) clEvent).evPend
      (evTime (8 + n.val / 32)) = true := fun h => by
    rw [hqueue, h]
    exact v.raise_pend clEvent hev
  generalize v.raiseIf (u.edgeQ (n.val / 32)).isEmpty (evTime (8 + n.val / 32)) clEvent = w at *
  obtain ⟨heff, hbare⟩ := w.snapPinEdge_leaves n.val stamp rising []
  generalize w.snapPinEdge n.val stamp rising = x at *
  have hxv : x.bare = v.bare := hbare.trans hraise.bare
  have hstores := State.sameStores_of_bare hxv
  refine ⟨x, congrArg _ (State.finish_kept (heff.resetReq.trans (hraise.resetReq.trans (hreset'.trans (hreset.trans hs))))
    ((congrArg State.pending hxv :).trans (hpend'.trans hpend))), (State.edgeQ_of (congrArg State.clep hxv :) _).trans hq',
    fun h => heff.pend _ hev (hset h), ?_⟩
  rw [show x.pins = v.pins from (congrArg State.pins hxv :), hpins, hstamp]

theorem queue_rows : (∀ b : Fin 8, regAlone (TIME_EDGE_POP.off b.val) 2 = true ∧
      hasField (TIME_EDGE_POP.off b.val) .wo (TIME_EDGE_POP.SERIAL b.val) = true) ∧
    (regAlone TIME_LATE_POP.off 2 = true ∧ hasField TIME_LATE_POP.off .wo TIME_LATE_POP.SERIAL = true) ∧
    (regAlone TIME_ACT_FLUSH.off 2 = true ∧ hasField TIME_ACT_FLUSH.off .wo TIME_ACT_FLUSH.ALL = true ∧
      hasField TIME_ACT_FLUSH.off .wo TIME_ACT_FLUSH.PIN = true) := by decide +kernel

theorem State.regWr_eff_get (s : State) {m : Master} {off : Nat} {a : Acc} {g : FRef} {val : Word} (h : hasField off a g = true) :
    g.get (s.regWr m off val).eff = g.get val := effWord_get h val

theorem State.blkTop_edgePop {s : State} (b : Fin 8) {r : RegWr} (h : r.off = TIME_EDGE_POP.off b.val) :
    s.blkTop r = s.edgePopWrite b.val r.eff := by
  have hlt := b.isLt
  have hoff : r.off = 0x040208 + b.val * 0x10 := h
  have hinst : r.inst 0x040200 16 = b.val := by rw [RegWr.inst, hoff]; omega
  rw [State.blkTop_time (by omega) (by omega), State.blkTime]
  simp only [TIME_EPOCH_HI.off, TIME_INC_HI.off, TIME_SLEW_CNT.off, TIME_STEP.off, TIME_SET_SEC_HI.off, TIME_ACT_FLUSH.off, TIME_LATE_POP.off]
  rw [if_neg (by omega), if_neg (by omega), if_neg (by omega), if_neg (by omega), if_neg (by omega), if_neg (by omega), if_neg (by omega),
    if_pos (by omega), hinst]

theorem State.blkTop_actFlush {s : State} {r : RegWr} (h : r.off = TIME_ACT_FLUSH.off) : s.blkTop r = s.actFlush r.eff := by
  simp (decide := true) [State.blkTop, State.blkWrite, State.blkTime, h]

theorem State.blkTop_latePop {s : State} {r : RegWr} (h : r.off = TIME_LATE_POP.off) : s.blkTop r = s.latePop r.eff := by
  simp (decide := true) [State.blkTop, State.blkWrite, State.blkTime, h]

/-- The head of an edge queue taken by its serial (R278). -/
theorem edgePop_leaves {m : Master} {b : Fin 8} {val : Word} {e : EdgeEnt} {l : List EdgeEnt} {s : State} (hs : s.serves m (TIME_EDGE_POP.off b.val) 2)
    (hq : s.edgeQ b.val = e :: l) (he : (TIME_EDGE_POP.SERIAL b.val).get val = e.serial) :
    ∃ t, exec (.edgePop m b val) s = .next t ∧ t.toldOK m ∧ t.edgeQ b.val = l ∧ (l ≠ [] → t.evPend (evTime (8 + b.val)) = true) ∧
      s.keepsRegs t [] := by
  have hlt := b.isLt
  have hev : evTime (8 + b.val) < 512 := by simp only [evTime]; omega
  obtain ⟨halone, hserial⟩ := queue_rows.1 b
  have hblk : s.blkTop (s.regWr m (TIME_EDGE_POP.off b.val) val) = (stOK, s.edgePop b.val) := by
    rw [State.blkTop_edgePop b rfl, State.edgePopWrite, hq]
    exact congrArg (Prod.mk stOK) (if_pos (by rw [s.regWr_eff_get hserial, he]))
  have hpop : s.edgePop b.val = (s.setEdgeQ b.val l).raiseIf (!l.isEmpty) (evTime (8 + b.val)) clEvent := by
    unfold State.edgePop
    rw [hq]
    rfl
  have hset : (s.setEdgeQ b.val l).regs = s.regs ∧ (s.setEdgeQ b.val l).resetReq = s.resetReq ∧ (s.setEdgeQ b.val l).pending = s.pending ∧
      (s.setEdgeQ b.val l).edgeQ b.val = l := ⟨rfl, rfl, rfl, Laws.get_set_same _ _ _⟩
  obtain ⟨hregs, hreset, hpend, hqueue⟩ := hset
  rw [hpop] at hblk
  generalize s.setEdgeQ b.val l = u at *
  have heff := Eff.raiseIf u (!l.isEmpty) (ev := evTime (8 + b.val)) (cls := clEvent) hev (by decide) []
  have hstores := (Quiet.raiseIf u (!l.isEmpty) (evTime (8 + b.val)) (cls := clEvent) (by decide)).bare
  have hraised : l ≠ [] → (u.raiseIf (!l.isEmpty) (evTime (8 + b.val)) clEvent).evPend (evTime (8 + b.val)) = true := fun h => by
    cases l with
    | nil => exact absurd rfl h
    | cons x r => exact u.raise_pend clEvent hev
  generalize u.raiseIf (!l.isEmpty) (evTime (8 + b.val)) clEvent = v at *
  have hfin := State.serves_finish hs halone hblk (heff.resetReq.trans (hreset.trans (State.serves_noReset hs)))
    ((congrArg State.pending hstores :).trans hpend)
  refine ⟨v.answer m stOK [], by rw [exec_edgePop, hfin], rfl, (State.edgeQ_of (congrArg State.clep hstores :) _).trans hqueue, fun h => ?_,
    fun k hk h1 h2 => ?_⟩
  · rw [State.evPend, State.answer_rd]
    exact hraised h
  · rw [State.answer_rd, heff.rd k hk h1 h2, State.rd_of_regs hregs]

/-! ### Timed outputs (R280 to R283) -/

/-- The level that an action drives. -/
def actLevel (k : ActKind) (old : Bool) : Bool := match k with | .low => false | .high => true | .toggle => !old

theorem State.setD_form (s : State) (n : Nat) (b : Bool) : ∃ x, s.setD n b = { s.wr (FIO_LEVEL.off (n / 16))
    (BitVec.ofNat 32 (setBits (s.rd (FIO_LEVEL.off (n / 16))).toNat (n % 16) 1 (b2n b))) with pins := x } := by
  unfold State.setD
  dsimp only
  split
  · exact ⟨_, rfl⟩
  · exact ⟨_, rfl⟩

/-- A direct level set: the word of its register, and the pad latch of an owned pin (R310). -/
theorem State.setD_leaves (s : State) (n : Nat) (b : Bool) : (s.setD n b).dlev n = b ∧ s.sameRegs (s.setD n b) [FIO_LEVEL.off (n / 16)] ∧
    (s.setD n b).clep = s.clep ∧ (s.setD n b).resetReq = s.resetReq ∧ (s.setD n b).pending = s.pending := by
  obtain ⟨x, hx⟩ := s.setD_form n b
  rw [hx]
  have hrd : ∀ (u : State) (k : Nat), ({ u with pins := x } : State).rd k = u.rd k := fun u => State.rd_of_regs rfl
  refine ⟨?_, fun k hk => ?_, rfl, rfl, rfl⟩
  · rw [State.dlev, hrd, State.rd_wr_same, BitVec.toNat_ofNat, Nat.testBit_mod_two_pow, setBits_testBit, if_pos (by omega), Nat.sub_self]
    cases b
    · simp [b2n]
    · simp [b2n]
      omega
  · rw [hrd, State.rd_wr_ne _ _ (by simpa using hk)]

theorem State.actDrop_leaves (s : State) (a : TAct) : (s.actDrop a).regs = s.regs ∧ (s.actDrop a).resetReq = s.resetReq ∧
    (s.actDrop a).pending = s.pending ∧ (s.actDrop a).clep = { s.clep with acts := s.clep.acts.filter (fun b => !(b == a)) } := ⟨rfl, rfl, rfl, rfl⟩

theorem timedFire_leaves {pin : Nat} {a : TAct} {s : State} (hs : s.resetReq = none) (ha : firstAct (s.pinActs pin) = some a) (hpin : a.pin = pin)
    (hcome : s.come a.g = true) :
    s.finish (s.timedFire pin a.second) = s.timedFire pin a.second ∧ (s.timedFire pin a.second).dlev pin = actLevel a.kind (s.dlev pin) ∧
      (s.timedFire pin a.second).clep = { s.clep with acts := s.clep.acts.filter (fun b => !(b == a)) } ∧
      s.sameRegs (s.timedFire pin a.second) [FIO_LEVEL.off (pin / 16)] := by
  have hfire : s.timedFire pin a.second = (s.actDrop a).setD pin (actLevel a.kind ((s.actDrop a).dlev pin)) := by
    unfold State.timedFire
    rw [ha]
    refine (if_pos ⟨rfl, hcome⟩).trans ?_
    rw [State.actDo, hpin]
    rfl
  obtain ⟨hregs, hreset, hpend, hclep⟩ := s.actDrop_leaves a
  have hd : (s.actDrop a).dlev pin = s.dlev pin := by rw [State.dlev, State.dlev, State.rd_of_regs hregs]
  rw [hfire, hd]
  generalize s.actDrop a = u at *
  obtain ⟨hlevel, hsame, hclep', hreset', hpend'⟩ := u.setD_leaves pin (actLevel a.kind (s.dlev pin))
  generalize u.setD pin (actLevel a.kind (s.dlev pin)) = v at *
  exact ⟨State.finish_kept (hreset'.trans (hreset.trans hs)) (hpend'.trans hpend), hlevel, hclep'.trans hclep,
    fun k hk => (hsame k hk).trans (State.rd_of_regs hregs k)⟩

/-- The pending actions of a pin, or all of them, discarded (R281). -/
def State.actsLeft (s : State) (all : Bool) (pin : Nat) : State :=
  { s with clep := { s.clep with acts := s.clep.acts.filter (fun a => !(all || a.pin == pin)) } }

theorem State.actFlush_none {s : State} (h : ∀ a ∈ s.clep.acts, s.come a.g = false) (w : Word) :
    s.actFlush w = (stOK, s.actsLeft (decide (TIME_ACT_FLUSH.ALL.get w = 1)) (TIME_ACT_FLUSH.PIN.get w)) := by
  have hdue : s.clep.acts.filter (fun a => (decide (TIME_ACT_FLUSH.ALL.get w = 1) || a.pin == TIME_ACT_FLUSH.PIN.get w) && s.come a.g) = [] := by
    rw [List.filter_eq_nil_iff]
    intro a ha
    simp [h a ha]
  unfold State.actFlush
  simp only [hdue]
  rfl

theorem State.actsLeft_acts (s : State) (all : Bool) (pin : Nat) : (s.actsLeft all pin).clep =
    { s.clep with acts := if all = true then [] else s.clep.acts.filter (fun a => a.pin != pin) } := by
  have hacts : s.clep.acts.filter (fun a => !(all || a.pin == pin)) = if all = true then [] else s.clep.acts.filter (fun a => a.pin != pin) := by
    cases all
    · simp [bne]
    · simp
  rw [← hacts]
  rfl

theorem actionFlush_leaves {m : Master} {val : Word} {s : State} (hs : s.serves m TIME_ACT_FLUSH.off 2)
    (hcome : ∀ a ∈ s.clep.acts, s.come a.g = false) :
    ∃ t, exec (.actionFlush m val) s = .next t ∧ t.toldOK m ∧ t.clep = { s.clep with
        acts := if TIME_ACT_FLUSH.ALL.get val = 1 then [] else s.clep.acts.filter (fun a => a.pin != TIME_ACT_FLUSH.PIN.get val) } ∧
      t.regs = s.regs := by
  obtain ⟨halone, hall, hpin⟩ := queue_rows.2.2
  have hblk : s.blkTop (s.regWr m TIME_ACT_FLUSH.off val) =
      (stOK, s.actsLeft (decide (TIME_ACT_FLUSH.ALL.get val = 1)) (TIME_ACT_FLUSH.PIN.get val)) := by
    rw [State.blkTop_actFlush rfl, State.actFlush_none hcome, s.regWr_eff_get hall, s.regWr_eff_get hpin]
  have hleft := s.actsLeft_acts (decide (TIME_ACT_FLUSH.ALL.get val = 1)) (TIME_ACT_FLUSH.PIN.get val)
  have hframe : ∀ b p, (s.actsLeft b p).resetReq = s.resetReq ∧ (s.actsLeft b p).pending = s.pending ∧ (s.actsLeft b p).regs = s.regs :=
    fun _ _ => ⟨rfl, rfl, rfl⟩
  obtain ⟨hreset, hpend, hregs⟩ := hframe (decide (TIME_ACT_FLUSH.ALL.get val = 1)) (TIME_ACT_FLUSH.PIN.get val)
  generalize s.actsLeft (decide (TIME_ACT_FLUSH.ALL.get val = 1)) (TIME_ACT_FLUSH.PIN.get val) = u at *
  have hfin := State.serves_finish hs halone hblk (hreset.trans (State.serves_noReset hs)) hpend
  simp only [decide_eq_true_eq] at hleft
  exact ⟨u.answer m stOK [], by rw [exec_actionFlush, hfin], rfl, hleft, hregs⟩

/-- The late log's first entry taken (R283). -/
def State.lateLeft (s : State) (l : List LateEnt) : State := { s with clep := { s.clep with late := l } }

theorem latePop_leaves {m : Master} {val : Word} {e : LateEnt} {l : List LateEnt} {s : State} (hs : s.serves m TIME_LATE_POP.off 2)
    (hl : s.clep.late = e :: l) (he : TIME_LATE_POP.SERIAL.get val = e.serial) :
    ∃ t, exec (.latePop m val) s = .next t ∧ t.toldOK m ∧ t.clep = { s.clep with late := l } ∧ t.regs = s.regs := by
  obtain ⟨halone, hserial⟩ := queue_rows.2.1
  have hblk : s.blkTop (s.regWr m TIME_LATE_POP.off val) = (stOK, s.lateLeft l) := by
    rw [State.blkTop_latePop rfl, State.latePop, hl]
    exact congrArg (Prod.mk stOK) (if_pos (by rw [s.regWr_eff_get hserial, he]))
  have hframe : (s.lateLeft l).resetReq = s.resetReq ∧ (s.lateLeft l).pending = s.pending := ⟨rfl, rfl⟩
  have hfin := State.serves_finish hs halone hblk (hframe.1.trans (State.serves_noReset hs)) hframe.2
  exact ⟨(s.lateLeft l).answer m stOK [], by rw [exec_latePop, hfin], rfl, rfl, rfl⟩

/-- Settles O45. -/
theorem edgesAndTimedActions : Obligations.EdgesAndTimedActions := by
  refine ⟨fun _ _ _ _ hs hc hq hroom hlost hstep => pinEdge_leaves hs hc hq hroom hlost hstep,
    fun _ _ _ _ _ _ hs hq he => edgePop_leaves hs hq he, fun pin a s hs ha hpin hcome => ?_,
    fun _ _ _ hs hcome => actionFlush_leaves hs hcome, fun _ _ _ _ _ hs hl he => latePop_leaves hs hl he⟩
  obtain ⟨hfin, hlevel, hclep, hregs⟩ := timedFire_leaves hs ha hpin hcome
  refine ⟨fun h => ?_, fun h => ?_⟩
  · rw [h] at hfin hlevel hclep hregs
    exact ⟨_, (exec_timedActionFire pin s).trans (congrArg _ hfin), hlevel, hclep, hregs⟩
  · rw [h] at hfin hlevel hclep hregs
    exact ⟨_, (exec_timedPulseEnd pin s).trans (congrArg _ hfin), hlevel, hclep, hregs⟩

end Sys2Proof.Machine
end

section
/-! SYNC capture and PTP stamps (R270, R275): what a capture stores, and how an event message goes through Cascade to the CPU port, which hands
it over as it is admitted. -/

namespace Sys2Proof.Machine

/- One evaluation after another: each of them, left to itself, would hold a thread. -/
set_option Elab.async false

theorem exec_syncReceive (p : Fin 4) (f : Frame) (q : Fin 16) (s : State) : exec (.syncReceive p f q) s = .next (s.finish (syncReceive p f q s)) := by
  rfl

theorem exec_ptpEventReceive (n : Fin 4) (bytes : List Byte) (q : Fin 16) (s : State) :
    exec (.ptpEventReceive n bytes q none) s = .next (s.finish (ptpEventReceive n bytes q none s)) := by rfl

theorem exec_ptpStampPop (m : Master) (n : Fin 4) (val : Word) (s : State) :
    exec (.ptpStampPop m n val) s = .next (s.finish (s.regCmd m (TIME_PTP_TX_POP.off n.val) 4 val)) := by rfl

/-! ### An Ethernet frame for the CPU port (R208, R215) -/

/-- The switch's record replaced. -/
def State.setSw (s : State) (x : Switch) : State := { s with sw := x }

theorem State.setSw_setSw (s : State) (x y : Switch) : (s.setSw x).setSw y = s.setSw y := rfl

theorem State.noMirror_of {s t : State} (h : t.regs = s.regs) (hm : s.noMirror) : t.noMirror := fun k hk => (State.flag_of_regs h _).trans (hm k hk)

theorem State.mirror_none {s : State} (hm : s.noMirror) (f : Frame) (eth mir : Bool) (port cls tIn : Nat) (egress bad : Bool) :
    s.mirror f eth mir port cls tIn egress bad = s := by
  have hone : ∀ l : List Nat, (∀ k ∈ l, k < 4) → l.foldl (fun s m => s.mirrorOne m f eth port cls tIn egress bad none) s = s := by
    intro l
    induction l with
    | nil => exact fun _ => rfl
    | cons k l ih =>
      intro h
      have hk : s.mirrorOne k f eth port cls tIn egress bad none = s := by
        unfold State.mirrorOne
        exact if_pos (by rw [hm k (h k List.mem_cons_self)]; rfl)
      rw [List.foldl_cons, hk]
      exact ih fun j hj => h j (List.mem_cons_of_mem k hj)
  unfold State.mirror
  split
  · rfl
  · exact hone _ fun k => List.mem_range.1

/-- The frame as it waits for admission at its Ethernet port. -/
def cpuEntry (n c : Nat) (l : List Byte) (t : Nat) : WEnt := ⟨4 + n, c, [8], ethFrame c l, true, l.length + 4, none, t⟩

theorem State.copiesOf_cpuEntry (s : State) (n c : Nat) (l : List Byte) (t : Nat) :
    s.copiesOf (cpuEntry n c l t) = ([(8, false, ethFrame c l)], s) := by
  have hin : ¬ (cpuEntry n c l t).inPort < 4 := by simp [cpuEntry]
  have hlive : s.liveTargets [8] = [8] := by simp [State.liveTargets]
  unfold State.copiesOf
  rw [if_neg hin]
  show s.localCopies (ethFrame c l) true (s.liveTargets [8]) = _
  rw [hlive]
  rfl

theorem State.hasRoom_of {s t : State} (hr : t.regs = s.regs) (hq : t.sw.queues = s.sw.queues) (p c n : Nat) (b : Bool) :
    t.hasRoom p c n b = s.hasRoom p c n b := by
  have hg := State.g_of_regs hr
  have hreserve : t.reserve c = s.reserve c := by rw [State.reserve, State.reserve, hg]
  rw [State.hasRoom, State.hasRoom, State.fill, State.fill, hq, State.limit, State.limit, hg, hreserve]

/-- The copy queued at the CPU port. -/
def cpuCopy (id c : Nat) (l : List Byte) : QEnt := ⟨8, c, tilesFor (l.length + 4), false, id, ethFrame c l⟩

/-- The frame stored. -/
def cpuFrame (id n c : Nat) (l : List Byte) (t : Nat) : SFrame :=
  ⟨id, ethFrame c l, true, 4 + n, l.length + 4, tilesFor (l.length + 4), false, [], false, false, false, none, t⟩

/-- An Ethernet frame in a buffer that holds none is handed to the CPU port as it is queued there (R215). -/
theorem State.handNow_cpu {s : State} {id n c t : Nat} {l : List Byte} {qs : List QEnt} (hm : s.noMirror) (hf : s.sw.frames = [cpuFrame id n c l t])
    (hq : s.sw.queues = qs ++ [cpuCopy id c l]) (h8 : ∀ q ∈ qs, q.port ≠ 8) (h10 : ∀ q ∈ qs, q.port ≠ 10) :
    ∃ x, s.handNow none = s.setSw x ∧ x.queues = qs ∧ SMap.get (fun _ => []) x.handed 8 = l ∧ x.eth = s.sw.eth := by
  have hframe : ∀ u : State, u.sw.frames = s.sw.frames → u.sframe id = some (cpuFrame id n c l t) := fun u hu => by
    rw [State.sframe, hu, hf]
    simp [cpuFrame]
  have hold : qs.filter (fun q => s.handsNow q) = [] := by
    rw [List.filter_eq_nil_iff]
    intro q hq
    simp [State.handsNow, h8 q hq, h10 q hq]
  have hnew : s.handsNow (cpuCopy id c l) = true := by
    rw [State.handsNow, show (cpuCopy id c l).id = id from rfl, hframe s rfl]
    rfl
  have hout : cpuCopy id c l ∉ qs := fun h => h8 _ h rfl
  unfold State.handNow
  rw [hq, List.filter_append, hold, List.nil_append, List.filter_cons_of_pos hnew, List.filter_nil, List.foldl_cons, List.foldl_nil]
  dsimp only
  rw [show (cpuCopy id c l).id = id from rfl, hframe s rfl]
  have hhanded : ∀ b : List Byte, ∃ x, ({ s with sw := { s.sw with handed := SMap.set (fun _ => []) s.sw.handed 8 b } } : State) = s.setSw x ∧
      x.frames = s.sw.frames ∧ x.queues = s.sw.queues ∧ SMap.get (fun _ => []) x.handed 8 = b ∧ x.eth = s.sw.eth :=
    fun b => ⟨_, rfl, rfl, rfl, Laws.get_set_same _ _ _, rfl⟩
  obtain ⟨x, hx, hxf, hxq, hxh, hxe⟩ := hhanded l
  show ∃ y, State.copyDone ({ s with sw := { s.sw with handed := SMap.set (fun _ => []) s.sw.handed 8 l } } : State) (cpuCopy id c l) = _ ∧ _
  rw [hx]
  unfold State.copyDone
  rw [show (cpuCopy id c l).id = id from rfl, hframe (s.setSw x) hxf]
  dsimp only
  have hdone : ∃ y, ((s.setSw x).unqueue (cpuCopy id c l)).setSframe { cpuFrame id n c l t with delivered := true } = s.setSw y ∧
      y.queues = x.queues.erase (cpuCopy id c l) ∧ y.handed = x.handed ∧ y.eth = x.eth := ⟨_, rfl, rfl, rfl, rfl⟩
  obtain ⟨y, hy, hyq, hyh, hye⟩ := hdone
  rw [hy, State.mirror_none (s := s.setSw y) (State.noMirror_of rfl hm)]
  have hqueues : y.queues = qs := by
    rw [hyq, hxq, hq, List.erase_append_right _ hout, List.erase_cons_head, List.append_nil]
  unfold State.tidy
  have hhand := (congrArg (fun m => SMap.get (fun _ => ([] : List Byte)) m 8) hyh).trans hxh
  split
  · exact ⟨y, rfl, hqueues, hhand, hye.trans hxe⟩
  · exact ⟨_, rfl, hqueues, hhand, hye.trans hxe⟩

theorem State.ethOffer_cpu {s : State} {n c t : Nat} {l : List Byte} (hn : n < 4) (hc : s.ethClass n l = c) (hm : s.noMirror) (hf : s.sw.frames = [])
    (h8 : s.cpuIdle) (h10 : ∀ q ∈ s.sw.queues, q.port ≠ 10) (hw : ∀ w ∈ s.sw.waiting, w.inPort ≠ 4 + n)
    (hroom : s.hasRoom 8 c (tilesFor (l.length + 4)) false = true) :
    ∃ x, s.ethOffer n [8] l (l.length + 4) t none = s.setSw x ∧ x.queues = s.sw.queues ∧ SMap.get (fun _ => []) x.handed 8 = l ∧
      x.eth = s.sw.eth := by
  have hpush : s.pushWait (cpuEntry n c l t) = s.setSw { s.sw with waiting := s.sw.waiting ++ [cpuEntry n c l t] } := rfl
  have hoffer : s.ethOffer n [8] l (l.length + 4) t none = (s.pushWait (cpuEntry n c l t)).admitFrame (4 + n) c none := by
    unfold State.ethOffer
    rw [hc]
    rfl
  have hhead : (s.pushWait (cpuEntry n c l t)).waitHead (4 + n) c = some (cpuEntry n c l t) := by
    rw [State.waitHead, hpush]
    show (s.sw.waiting ++ [cpuEntry n c l t]).find? _ = _
    rw [List.find?_append, List.find?_eq_none.2 (fun w hw' => by simp [hw w hw'])]
    simp [cpuEntry]
  have hadmit : (s.pushWait (cpuEntry n c l t)).canAdmit (cpuEntry n c l t) = true := by
    rw [State.canAdmit, State.copiesOf_cpuEntry, State.rateOk, State.roomAll]
    have hin : (cpuEntry n c l t).inPort < 8 := by simp only [cpuEntry]; omega
    have hr := (State.hasRoom_of (s := s) (t := s.pushWait (cpuEntry n c l t)) rfl rfl 8 c (tilesFor (l.length + 4)) false).trans hroom
    simp only [hin, decide_true, Bool.true_or, Bool.true_and, List.all_cons, List.all_nil, Bool.and_true]
    exact hr
  have hdrop : ∃ x, ((s.pushWait (cpuEntry n c l t)).dropWait (cpuEntry n c l t)).rateTake (4 + n) (l.length + 4) = s.setSw x ∧
      x.queues = s.sw.queues ∧ x.frames = s.sw.frames ∧ x.eth = s.sw.eth := by
    rw [State.rateTake, if_pos (by omega)]
    exact ⟨_, rfl, rfl, rfl, rfl⟩
  obtain ⟨x, hx, hxq, hxf, hxe⟩ := hdrop
  have hstore : ∃ y, ((s.setSw x).store (4 + n) c [(8, false, ethFrame c l)] (ethFrame c l) true false false (l.length + 4) t).2 = s.setSw y ∧
      y.queues = x.queues ++ [cpuCopy x.nextId c l] ∧ y.frames = x.frames ++ [cpuFrame x.nextId n c l t] ∧ y.eth = x.eth := ⟨_, rfl, rfl, rfl, rfl⟩
  obtain ⟨y, hy, hyq, hyf, hye⟩ := hstore
  have hall : s.ethOffer n [8] l (l.length + 4) t none = (s.setSw y).handNow none := by
    rw [hoffer]
    unfold State.admitFrame
    rw [hhead]
    dsimp only
    rw [hadmit]
    refine (if_neg (by simp)).trans ?_
    rw [show ((s.pushWait (cpuEntry n c l t)).dropWait (cpuEntry n c l t)).rateTake (cpuEntry n c l t).inPort (cpuEntry n c l t).bytes = s.setSw x
      from hx, State.mirror_none (s := s.setSw x) (State.noMirror_of rfl hm), State.copiesOf_cpuEntry]
    exact congrArg (State.handNow · none) hy
  obtain ⟨z, hz, hzq, hzh, hze⟩ := State.handNow_cpu (s := s.setSw y) (id := x.nextId) (n := n) (c := c) (t := t) (l := l) (qs := s.sw.queues)
    (State.noMirror_of rfl hm) (by rw [show (s.setSw y).sw = y from rfl, hyf, hxf, hf, List.nil_append])
    (by rw [show (s.setSw y).sw = y from rfl, hyq, hxq]) h8 h10
  exact ⟨z, hall.trans hz, hzq, hzh, hze.trans (hye.trans hxe)⟩

/-! ### Bytes of a frame that is followed by its stamp -/

theorem slice_append {a : List Byte} {i n : Nat} (h : i + n ≤ a.length) (b : List Byte) : slice (a ++ b) i n = slice a i n := by
  rw [slice, slice, List.drop_append_of_le_length (by omega), List.take_append_of_le_length (by rw [List.length_drop]; omega)]

theorem be2_append {a : List Byte} {i : Nat} (h : i + 2 ≤ a.length) (b : List Byte) : be2 (a ++ b) i = be2 a i := by
  rw [be2, be2, beAt, beAt, slice_append h]

theorem State.ethClass_append (s : State) (n : Nat) {a : List Byte} (h : 60 ≤ a.length) (b : List Byte) :
    s.ethClass n (a ++ b) = s.ethClass n a := by
  rw [State.ethClass, State.ethClass, tagged, tagged, be2_append (by omega), be2_append (by omega)]

/-! ### A PTP event message (R275) -/

/-- The registers that count what an Ethernet port receives (R230). -/
def ethRxRegs (n : Nat) : List Nat := [ETH_RX_BYTES_LO.off n, ETH_RX_BYTES_HI.off n, ETH_RX_FRAMES_LO.off n, ETH_RX_FRAMES_HI.off n]

theorem ethRx_keys : ∀ n : Fin 4, (∀ k ∈ ethRxRegs n.val, isPendKey k = false) ∧ TIME_PTP_CFG.off n.val ∉ ethRxRegs n.val ∧
    ETH_CFG.off n.val ∉ ethRxRegs n.val ∧ ETH_CLASS_MAP.off n.val ∉ ethRxRegs n.val ∧ TIME_EPOCH_LO.off ∉ ethRxRegs n.val ∧
    TIME_EPOCH_LO.off + 4 ∉ ethRxRegs n.val ∧ (∀ k : Fin 4, SW_MIR_CFG.off k.val ∉ ethRxRegs n.val) := by decide +kernel

theorem State.traffic_eff (s : State) {k n : Nat} {l : List Nat} (hk : isPendKey k = false) (hk' : isPendKey (k + 4) = false) (hl : k ∈ l)
    (hl' : k + 4 ∈ l) : Eff s (s.traffic k n) l := (Eff.wr s _ hk hl).trans (Eff.wr _ _ hk' hl')

theorem State.ethRxCount_leaves (s : State) (n : Fin 4) (len : Nat) : Eff s (s.ethRxCount n.val len) (ethRxRegs n.val) ∧
    (∀ k, k ∉ ethRxRegs n.val → (s.ethRxCount n.val len).rd k = s.rd k) ∧ (s.ethRxCount n.val len).bare = s.bare ∧
    (s.ethRxCount n.val len).sw = s.sw ∧ (s.ethRxCount n.val len).clep = s.clep ∧ (s.ethRxCount n.val len).pending = s.pending := by
  obtain ⟨hpend, _⟩ := ethRx_keys n
  have hlo : ETH_RX_BYTES_LO.off n.val + 4 = ETH_RX_BYTES_HI.off n.val := by simp only [ETH_RX_BYTES_LO.off, ETH_RX_BYTES_HI.off]; omega
  have hfr : ETH_RX_FRAMES_LO.off n.val + 4 = ETH_RX_FRAMES_HI.off n.val := by simp only [ETH_RX_FRAMES_LO.off, ETH_RX_FRAMES_HI.off]; omega
  have hm : ∀ k, k ∈ ethRxRegs n.val ↔ k = ETH_RX_BYTES_LO.off n.val ∨ k = ETH_RX_BYTES_HI.off n.val ∨ k = ETH_RX_FRAMES_LO.off n.val ∨
      k = ETH_RX_FRAMES_HI.off n.val := by simp [ethRxRegs]
  have heff : ∀ (u : State) (k v : Nat), k ∈ ethRxRegs n.val → k + 4 ∈ ethRxRegs n.val → Eff u (u.traffic k v) (ethRxRegs n.val) ∧
      ∀ j, j ∉ ethRxRegs n.val → (u.traffic k v).rd j = u.rd j := fun u k v h h' =>
    ⟨u.traffic_eff (hpend _ h) (hpend _ h') h h', fun j hj => u.rd_wr64_ne _ _ (fun e => hj (e ▸ h)) (fun e => hj (e ▸ h'))⟩
  unfold State.ethRxCount
  obtain ⟨e1, r1⟩ := heff s (ETH_RX_BYTES_LO.off n.val) len ((hm _).2 (.inl rfl)) ((hm _).2 (.inr (.inl hlo)))
  have same : ∀ (u : State) (k v : Nat), (u.traffic k v).bare = u.bare ∧ (u.traffic k v).sw = u.sw ∧ (u.traffic k v).clep = u.clep ∧
      (u.traffic k v).pending = u.pending := fun _ _ _ => ⟨rfl, rfl, rfl, rfl⟩
  obtain ⟨b1, w1, c1, p1⟩ := same s (ETH_RX_BYTES_LO.off n.val) len
  generalize s.traffic (ETH_RX_BYTES_LO.off n.val) len = u at *
  obtain ⟨e2, r2⟩ := heff u (ETH_RX_FRAMES_LO.off n.val) 1 ((hm _).2 (.inr (.inr (.inl rfl)))) ((hm _).2 (.inr (.inr (.inr hfr))))
  obtain ⟨b2, w2, c2, p2⟩ := same u (ETH_RX_FRAMES_LO.off n.val) 1
  exact ⟨e1.trans e2, fun k hk => (r2 k hk).trans (r1 k hk), b2.trans b1, w2.trans w1, c2.trans c1, p2.trans p1⟩

/-- The last request of a peer delay exchange remembered (R276). -/
def State.pdelaySet (s : State) (n : Nat) (x : Nat × Nat) : State := s.setEthp n { s.ethp n with pdelay := some x }

/-- What an event message at an Ethernet port in no transparent-clock mode comes to, once it is at the CPU port. -/
theorem State.ptpIn_cpu {s : State} {n k : Nat} {bytes l : List Byte} {q c : Nat} (hn : n < 4)
    (hl : l = bytes ++ (bytesBE 6 (s.stampQ q).1 ++ bytesBE 4 (s.stampQ q).2.1 ++ bytesBE 2 (s.stampQ q).2.2)) (hc : s.ethClass n l = c)
    (htc : s.g (TIME_PTP_CFG.TC n) = 0) (hfc : s.g (ETH_CFG.FC n) = 0) (hm : s.noMirror) (hf : s.sw.frames = []) (h8 : s.cpuIdle)
    (h10 : ∀ e ∈ s.sw.queues, e.port ≠ 10) (hw : ∀ w ∈ s.sw.waiting, w.inPort ≠ 4 + n)
    (hroom : s.hasRoom 8 c (tilesFor (l.length + 4)) false = true) :
    ∃ x, s.ptpIn n k bytes q none = (s.setSw x).raise (evEth n 3) clEvent ∧ x.queues = s.sw.queues ∧ SMap.get (fun _ => []) x.handed 8 = l ∧
      (ptpType bytes k = 2 → (SMap.get EthPort.dflt x.eth n).pdelay = some (be2 bytes (k + 30), s.now4 q)) := by
  have hset : ∃ y : Switch, (if ptpType bytes k = 2 then s.pdelaySet n (be2 bytes (k + 30), s.now4 q) else s) = s.setSw y ∧
      y.queues = s.sw.queues ∧ y.frames = s.sw.frames ∧ y.waiting = s.sw.waiting ∧
      (ptpType bytes k = 2 → (SMap.get EthPort.dflt y.eth n).pdelay = some (be2 bytes (k + 30), s.now4 q)) := by
    by_cases ht : ptpType bytes k = 2
    · rw [if_pos ht]
      refine ⟨{ s.sw with eth := SMap.set EthPort.dflt s.sw.eth n { s.ethp n with pdelay := some (be2 bytes (k + 30), s.now4 q) } }, rfl, rfl, rfl, rfl,
        fun _ => ?_⟩
      show (SMap.get EthPort.dflt (SMap.set EthPort.dflt s.sw.eth n _) n).pdelay = _
      rw [Laws.get_set_same]
    · rw [if_neg ht]
      exact ⟨s.sw, rfl, rfl, rfl, rfl, fun h => absurd h ht⟩
  obtain ⟨y, hy, hyq, hyf, hyw, hyp⟩ := hset
  have hclass : (s.setSw y).ethClass n l = c := hc
  obtain ⟨x, hx, hxq, hxh, hxe⟩ := State.ethOffer_cpu (s := s.setSw y) (t := s.now4 q) hn hclass (State.noMirror_of rfl hm)
    (hyf.trans hf) (fun e he => h8 e (hyq ▸ he)) (fun e he => h10 e (hyq ▸ he)) (fun w hw' => hw w (hyw ▸ hw'))
    ((State.hasRoom_of (s := s) (t := s.setSw y) rfl hyq _ _ _ _).trans hroom)
  refine ⟨x, ?_, hxq.trans hyq, hxh, fun h => ?_⟩
  · unfold State.ptpIn
    dsimp only
    rw [← hl, show (if ptpType bytes k = 2 then s.setEthp n { s.ethp n with pdelay := some (be2 bytes (k + 30), s.now4 q) } else s) = s.setSw y from hy,
      hx, State.setSw_setSw]
    have htc' : (s.setSw x).g (TIME_PTP_CFG.TC n) = 0 := (State.g_of_regs rfl _).trans htc
    have hxoff : (s.setSw x).ethXoff n = s.setSw x := if_pos ((State.g_of_regs rfl _).trans hfc)
    rw [if_neg (fun h => h.1 htc'), hxoff]
  · rw [hxe]
    exact hyp h

theorem ptpEventReceive_leaves {n : Fin 4} {bytes : List Byte} {q : Fin 16} {k : Nat} {s : State} (hs : s.resetReq = none)
    (hk : s.ptpAt n.val bytes = some k) (hup : s.ethUp n.val = true) (hev : ptpEvent (ptpType bytes k) = true) (het : etherType bytes ≠ 0x8808)
    (hlen : 60 ≤ bytes.length) (hlen' : bytes.length ≤ 2044) (htc : s.g (TIME_PTP_CFG.TC n.val) = 0) (hfc : s.g (ETH_CFG.FC n.val) = 0)
    (hm : s.noMirror) (hf : s.sw.frames = []) (h8 : s.cpuIdle) (h10 : ∀ e ∈ s.sw.queues, e.port ≠ 10)
    (hw : ∀ w ∈ s.sw.waiting, w.inPort ≠ 4 + n.val) {l : List Byte}
    (hl : l = bytes ++ (bytesBE 6 (s.stampQ q.val).1 ++ bytesBE 4 (s.stampQ q.val).2.1 ++ bytesBE 2 (s.stampQ q.val).2.2))
    (hroom : s.hasRoom 8 (s.ethClass n.val bytes) (tilesFor (l.length + 4)) false = true) :
    ∃ t, exec (.ptpEventReceive n bytes q none) s = .next t ∧ t.evPend (evEth n.val 3) = true ∧ SMap.get (fun _ => []) t.sw.handed 8 = l ∧
      t.sw.queues = s.sw.queues ∧ (ptpType bytes k = 2 → (t.ethp n.val).pdelay = some (be2 bytes (k + 30), s.now4 q.val)) ∧
      s.keepsRegs t (ethRxRegs n.val) := by
  obtain ⟨_, hptp, hcfg, hmap, hep, hep', hmir⟩ := ethRx_keys n
  have hlt := n.isLt
  have hevlt : evEth n.val 3 < 512 := by simp only [evEth]; omega
  have hrecv : ptpEventReceive n bytes q none s = (s.ethRxCount n.val (bytes.length + 4)).ethGood n.val bytes q.val none :=
    if_pos ⟨hup, by rw [hk]; exact hev, hlen, hlen'⟩
  rw [exec_ptpEventReceive, hrecv]
  obtain ⟨heff, hrd, hbare, hsw, hclep, hpend⟩ := s.ethRxCount_leaves n (bytes.length + 4)
  generalize s.ethRxCount n.val (bytes.length + 4) = u at *
  have hg : ∀ f : FRef, f.off ∉ ethRxRegs n.val → u.g f = s.g f := fun f h => by rw [State.g, State.g, hrd _ h]
  have hflag : ∀ f : FRef, f.off ∉ ethRxRegs n.val → u.flag f = s.flag f := fun f h => by rw [State.flag, State.flag, hg f h]
  have hat : u.ptpAt n.val bytes = some k := by
    rw [← hk, State.ptpAt, State.ptpAt, hflag _ hptp, hflag _ hptp, hflag _ hptp]
  have hfns : u.fns48 = s.fns48 := State.fns48_congr hclep (State.rd64_congr (hrd _ hep) (hrd _ hep'))
  have hnow : u.now4 q.val = s.now4 q.val := by rw [State.now4, State.now4, hfns]
  have hstamp : u.stampQ q.val = s.stampQ q.val := by rw [State.stampQ, State.stampQ, hclep]
  have hclass : u.ethClass n.val l = s.ethClass n.val bytes := by
    rw [hl, State.ethClass_append _ _ hlen, State.ethClass, State.ethClass, hg _ hmap, hg _ hmap]
  have hgood : u.ethGood n.val bytes q.val none = u.ptpIn n.val k bytes q.val none := by
    unfold State.ethGood
    rw [if_neg het, hat, Option.filter_some, if_pos hev]
  have hmirror : u.noMirror := fun j hj => (hflag _ (hmir ⟨j, hj⟩)).trans (hm j hj)
  have hroom' : u.hasRoom 8 (s.ethClass n.val bytes) (tilesFor (l.length + 4)) false = true := by
    have hlim : ∀ c, u.limit 8 c = s.limit 8 c := fun c => hg _ (by
      simp only [ethRxRegs, FRef.at, bankKey, SW_LIM.off, ETH_RX_BYTES_LO.off, ETH_RX_BYTES_HI.off, ETH_RX_FRAMES_LO.off, ETH_RX_FRAMES_HI.off,
        List.mem_cons, List.not_mem_nil, or_false]
      omega)
    have hfill : ∀ c, u.fill 8 c = s.fill 8 c := fun c => by rw [State.fill, State.fill, hsw]
    rw [State.hasRoom, hlim, hfill]
    exact hroom
  obtain ⟨x, hx, hxq, hxh, hxp⟩ := State.ptpIn_cpu (k := k) (q := q.val) hlt (hstamp ▸ hl) hclass ((hg _ hptp).trans htc) ((hg _ hcfg).trans hfc)
    hmirror (hsw ▸ hf) (fun e he => h8 e (hsw ▸ he)) (hsw ▸ h10) (hsw ▸ hw) hroom'
  rw [hgood, hx]
  have hset : Eff u (u.setSw x) (ethRxRegs n.val) := Eff.of_regs _
  have hsetp : (u.setSw x).pending = u.pending ∧ (u.setSw x).sw = x := ⟨rfl, rfl⟩
  obtain ⟨hsetpend, hsetsw⟩ := hsetp
  generalize u.setSw x = v at *
  have hraise := Eff.raise v (ev := evEth n.val 3) (cls := clEvent) hevlt (by decide) (ethRxRegs n.val)
  have hb := (v.raise_raised clEvent hevlt).bare
  have hset3 := v.raise_pend clEvent hevlt
  generalize v.raise (evEth n.val 3) clEvent = w at *
  have hwsw : { w.sw with waiting := [] } = { x with waiting := [] } := hsetsw ▸ (congrArg State.sw hb :)
  refine ⟨w, congrArg _ (State.finish_kept (hraise.resetReq.trans (hset.resetReq.trans (heff.resetReq.trans hs)))
      ((congrArg State.pending hb :).trans (hsetpend.trans hpend))), hset3, ?_, ?_, fun h => ?_, ((heff.trans hset).trans hraise).rd⟩
  · rw [show w.sw.handed = x.handed from (congrArg Switch.handed hwsw :), hxh]
  · rw [show w.sw.queues = x.queues from (congrArg Switch.queues hwsw :), hxq, hsw]
  · rw [State.ethp, show w.sw.eth = x.eth from (congrArg Switch.eth hwsw :), hxp h, hnow]

/-! ### A stamp taken by its SEQID (R275) -/

theorem ptp_rows : ∀ n : Fin 4, regAlone (TIME_PTP_TX_POP.off n.val) 2 = true ∧
    hasField (TIME_PTP_TX_POP.off n.val) .wo (TIME_PTP_TX_POP.SEQID n.val) = true := by decide +kernel

theorem State.blkTop_ptpPop {s : State} (n : Fin 4) {r : RegWr} (h : r.off = TIME_PTP_TX_POP.off n.val) : s.blkTop r = s.ptpPop n.val r.eff := by
  have hlt := n.isLt
  have hoff : r.off = 0x040414 + n.val * 0x40 := h
  have hinst : r.inst 0x040400 0x40 = n.val := by rw [RegWr.inst, hoff]; omega
  rw [State.blkTop_time (by omega) (by omega), State.blkTime]
  simp only [TIME_EPOCH_HI.off, TIME_INC_HI.off, TIME_SLEW_CNT.off, TIME_STEP.off, TIME_SET_SEC_HI.off, TIME_ACT_FLUSH.off, TIME_LATE_POP.off]
  rw [if_neg (by omega), if_neg (by omega), if_neg (by omega), if_neg (by omega), if_neg (by omega), if_neg (by omega), if_neg (by omega),
    if_neg (by omega), if_neg (by omega), if_neg (by omega), if_pos (by omega), hinst]

theorem ptpStampPop_leaves {m : Master} {n : Fin 4} {val : Word} {e : PtpStamp} {l : List PtpStamp} {s : State}
    (hs : s.serves m (TIME_PTP_TX_POP.off n.val) 2) (hq : s.ptpQ n.val = e :: l) (he : (TIME_PTP_TX_POP.SEQID n.val).get val = e.seqId) :
    ∃ t, exec (.ptpStampPop m n val) s = .next t ∧ t.toldOK m ∧ t.ptpQ n.val = l ∧ (t.evPend (evTime 5) = true ∨ l = []) ∧ s.keepsRegs t [] := by
  have hblk : s.blkTop (s.regWr m (TIME_PTP_TX_POP.off n.val) val) = (stOK, (s.setPtpQ n.val l).raiseIf (!l.isEmpty) (evTime 5) clEvent) := by
    rw [State.blkTop_ptpPop n rfl, State.ptpPop, hq]
    exact congrArg (Prod.mk stOK) (if_pos (by rw [s.regWr_eff_get (ptp_rows n).2, he]))
  have hset : (s.setPtpQ n.val l).regs = s.regs ∧ (s.setPtpQ n.val l).resetReq = s.resetReq ∧ (s.setPtpQ n.val l).pending = s.pending ∧
      SMap.get (fun _ => []) (s.setPtpQ n.val l).clep.ptpQ n.val = l := ⟨rfl, rfl, rfl, Laws.get_set_same _ _ _⟩
  obtain ⟨hregs, hreset, hpend, hqueue⟩ := hset
  generalize s.setPtpQ n.val l = u at *
  have heff := Eff.raiseIf u (!l.isEmpty) (ev := evTime 5) (cls := clEvent) (by decide) (by decide) []
  have hb := (Quiet.raiseIf u (!l.isEmpty) (evTime 5) (cls := clEvent) (by decide)).bare
  have hraised : (u.raiseIf (!l.isEmpty) (evTime 5) clEvent).evPend (evTime 5) = true ∨ l = [] := by
    cases l with
    | nil => exact .inr rfl
    | cons x r => exact .inl (u.raise_pend clEvent (by decide))
  generalize u.raiseIf (!l.isEmpty) (evTime 5) clEvent = v at *
  have hfin := State.serves_finish hs (ptp_rows n).1 hblk (heff.resetReq.trans (hreset.trans (State.serves_noReset hs)))
    ((congrArg State.pending hb :).trans hpend)
  have hclep : (v.answer m stOK []).clep = u.clep := (congrArg State.clep hb :)
  refine ⟨v.answer m stOK [], by rw [exec_ptpStampPop, hfin], rfl, by rw [State.ptpQ, hclep, hqueue], hraised.imp_left fun h => ?_,
    fun k hk h1 h2 => ?_⟩
  · rw [State.evPend, State.answer_rd]
    exact h
  · rw [State.answer_rd, heff.rd k hk h1 h2, State.rd_of_regs hregs]

/-! ### A SYNC captured (R270, R271) -/

/-- The capture noted as this cycle's. -/
def State.syncNoted (s : State) (p cycle : Nat) : State :=
  { s with clep := { s.clep with syncSeen := (p, cycle) :: s.clep.syncSeen.filter (fun e => e.1 != p) } }

/-- The fields of a capture. -/
def State.syncInfo (s : State) (p turns hops stepcnt cycle : Nat) : State :=
  ((((s.pb (TIME_SYNC_INFO.VALID p) true).p (TIME_SYNC_INFO.TURNS p) turns).p (TIME_SYNC_INFO.HOPS p) hops).p
    (TIME_SYNC_INFO.STEPCNT p) stepcnt).p (TIME_SYNC_INFO.CYCLE p) cycle

theorem sync_keys : ∀ p : Fin 4, isPendKey (TIME_SYNC_INFO.off p.val) = false ∧ isPendKey (TIME_SYNC_OFF_LO.off p.val) = false ∧
    isPendKey (TIME_SYNC_OFF_LO.off p.val + 4) = false ∧ fixedKey (TIME_SYNC_INFO.off p.val) = true ∧ fixedKey (TIME_SYNC_OFF_LO.off p.val) = true ∧
    fixedKey (TIME_SYNC_OFF_LO.off p.val + 4) = true ∧ TIME_SYNC_INFO.off p.val ≠ TIME_STAT.off := by decide +kernel

theorem State.syncInfo_leaves (s : State) (p : Fin 4) (turns hops stepcnt cycle : Nat) :
    Eff s (s.syncInfo p.val turns hops stepcnt cycle) [TIME_SYNC_INFO.off p.val] ∧ (s.syncInfo p.val turns hops stepcnt cycle).bare = s.bare ∧
      (s.syncInfo p.val turns hops stepcnt cycle).clep = s.clep ∧
      (s.syncInfo p.val turns hops stepcnt cycle).flag (TIME_SYNC_INFO.VALID p.val) = true ∧
      (s.syncInfo p.val turns hops stepcnt cycle).g (TIME_SYNC_INFO.TURNS p.val) = turns % 4 ∧
      (s.syncInfo p.val turns hops stepcnt cycle).g (TIME_SYNC_INFO.HOPS p.val) = hops % 4096 ∧
      (s.syncInfo p.val turns hops stepcnt cycle).g (TIME_SYNC_INFO.STEPCNT p.val) = stepcnt % 256 ∧
      (s.syncInfo p.val turns hops stepcnt cycle).g (TIME_SYNC_INFO.CYCLE p.val) = cycle % 256 := by
  have hkey := (sync_keys p).1
  have hset : ∀ (u : State) (f : FRef) (v : Nat), f.off = TIME_SYNC_INFO.off p.val → Eff u (u.p f v) [TIME_SYNC_INFO.off p.val] ∧
      (u.p f v).bare = u.bare ∧ (u.p f v).clep = u.clep := fun u f v h => ⟨Eff.p u f v (h ▸ hkey) (h ▸ List.mem_cons_self), rfl, rfl⟩
  have hvalid := s.flag_pb_self (f := TIME_SYNC_INFO.VALID p.val) true (by simp) rfl
  obtain ⟨e1, b1, c1⟩ := hset s (TIME_SYNC_INFO.VALID p.val) (b2n true) rfl
  unfold State.syncInfo
  rw [State.pb] at hvalid ⊢
  generalize s.p (TIME_SYNC_INFO.VALID p.val) (b2n true) = u1 at *
  obtain ⟨e2, b2, c2⟩ := hset u1 (TIME_SYNC_INFO.TURNS p.val) turns rfl
  have hturns := u1.g_p_self (f := TIME_SYNC_INFO.TURNS p.val) turns (by simp)
  have hvalid2 := (u1.flag_p_sep (f := TIME_SYNC_INFO.TURNS p.val) (g := TIME_SYNC_INFO.VALID p.val) turns (by simp [FRef.sep])).trans hvalid
  generalize u1.p (TIME_SYNC_INFO.TURNS p.val) turns = u2 at *
  obtain ⟨e3, b3, c3⟩ := hset u2 (TIME_SYNC_INFO.HOPS p.val) hops rfl
  have hhops := u2.g_p_self (f := TIME_SYNC_INFO.HOPS p.val) hops (by simp)
  have hvalid3 := (u2.flag_p_sep (f := TIME_SYNC_INFO.HOPS p.val) (g := TIME_SYNC_INFO.VALID p.val) hops (by simp [FRef.sep])).trans hvalid2
  have hturns3 := (u2.g_p_sep (f := TIME_SYNC_INFO.HOPS p.val) (g := TIME_SYNC_INFO.TURNS p.val) hops (by simp [FRef.sep])).trans hturns
  generalize u2.p (TIME_SYNC_INFO.HOPS p.val) hops = u3 at *
  obtain ⟨e4, b4, c4⟩ := hset u3 (TIME_SYNC_INFO.STEPCNT p.val) stepcnt rfl
  have hstep := u3.g_p_self (f := TIME_SYNC_INFO.STEPCNT p.val) stepcnt (by simp)
  have hvalid4 := (u3.flag_p_sep (f := TIME_SYNC_INFO.STEPCNT p.val) (g := TIME_SYNC_INFO.VALID p.val) stepcnt (by simp [FRef.sep])).trans hvalid3
  have hturns4 := (u3.g_p_sep (f := TIME_SYNC_INFO.STEPCNT p.val) (g := TIME_SYNC_INFO.TURNS p.val) stepcnt (by simp [FRef.sep])).trans hturns3
  have hhops4 := (u3.g_p_sep (f := TIME_SYNC_INFO.STEPCNT p.val) (g := TIME_SYNC_INFO.HOPS p.val) stepcnt (by simp [FRef.sep])).trans hhops
  generalize u3.p (TIME_SYNC_INFO.STEPCNT p.val) stepcnt = u4 at *
  obtain ⟨e5, b5, c5⟩ := hset u4 (TIME_SYNC_INFO.CYCLE p.val) cycle rfl
  exact ⟨e1.trans (e2.trans (e3.trans (e4.trans e5))), b5.trans (b4.trans (b3.trans (b2.trans b1))),
    c5.trans (c4.trans (c3.trans (c2.trans c1))),
    (u4.flag_p_sep (f := TIME_SYNC_INFO.CYCLE p.val) (g := TIME_SYNC_INFO.VALID p.val) cycle (by simp [FRef.sep])).trans hvalid4,
    (u4.g_p_sep (f := TIME_SYNC_INFO.CYCLE p.val) (g := TIME_SYNC_INFO.TURNS p.val) cycle (by simp [FRef.sep])).trans hturns4,
    (u4.g_p_sep (f := TIME_SYNC_INFO.CYCLE p.val) (g := TIME_SYNC_INFO.HOPS p.val) cycle (by simp [FRef.sep])).trans hhops4,
    (u4.g_p_sep (f := TIME_SYNC_INFO.CYCLE p.val) (g := TIME_SYNC_INFO.STEPCNT p.val) cycle (by simp [FRef.sep])).trans hstep,
    u4.g_p_self (f := TIME_SYNC_INFO.CYCLE p.val) cycle (by simp)⟩

theorem natLE_lt : ∀ l : List Byte, natLE l < 256 ^ l.length
  | [] => by simp [natLE]
  | b :: l => by
    have hb := b.isLt
    have hl := natLE_lt l
    rw [natLE, List.length_cons, Nat.pow_succ]
    omega

theorem slice_length (l : List Byte) (i n : Nat) : (slice l i n).length = n := by
  have h : ((l.drop i).take n).length ≤ n := List.length_take_le n _
  rw [slice, List.length_append, List.length_replicate]
  omega

theorem beAt_lt (l : List Byte) (i n : Nat) : beAt l i n < 256 ^ n := by
  have h := natLE_lt (slice l i n).reverse
  rwa [List.length_reverse, slice_length] at h

theorem wrapInt_lt (w : Nat) (i : Int) : wrapInt w i < 2 ^ w := by
  have hpos : (0 : Int) < ((2 ^ w : Nat) : Int) := by exact_mod_cast Nat.two_pow_pos w
  have h1 := Int.emod_nonneg i hpos.ne'
  have h2 := Int.emod_lt_of_pos i hpos
  rw [wrapInt]
  omega

theorem State.passPayload_none {s : State} {p : Nat} (h : (s.port p).rx = none) (pl : List Byte) : s.passPayload p pl = s := by
  unfold State.passPayload
  simp only [h]

theorem State.syncNoted_leaves (s : State) (p cycle : Nat) : (s.syncNoted p cycle).regs = s.regs ∧ (s.syncNoted p cycle).resetReq = s.resetReq ∧
    (s.syncNoted p cycle).sump = s.sump ∧ { (s.syncNoted p cycle).bare with clep := s.clep } = s.bare ∧
    (s.syncNoted p cycle).clep = { s.clep with syncSeen := (p, cycle) :: s.clep.syncSeen.filter (fun e => e.1 != p) } :=
  ⟨rfl, rfl, rfl, rfl, rfl⟩

theorem State.syncOff_of {s t : State} (hr : t.regs = s.regs) (hsec : t.clep.sec = s.clep.sec) (hns : t.clep.ns = s.clep.ns) (p : Nat) (f : Frame)
    (y : Sync) (q : Nat) : t.syncOff p f y q = s.syncOff p f y q := by
  have hrd := State.rd_of_regs hr
  have hep : t.epochSec = s.epochSec := by rw [State.epochSec, State.epochSec, State.rd64_congr (hrd _) (hrd _)]
  have hfns : t.fns = s.fns := by rw [State.fns, State.fns, hsec, hns, hep]
  rw [State.syncOff, State.syncOff, hfns, hep, State.linkShare, State.linkShare, State.g_of_regs hr, State.g_of_regs hr]

/-- What a capture stores, once it is noted. -/
def State.syncStored (s : State) (p : Nat) (f : Frame) (y : Sync) (off : Nat) : State :=
  let s := (s.wr64 (TIME_SYNC_OFF_LO.off p) off).syncInfo p f.turns f.hops y.stepcnt y.cycle
  s.p TIME_STAT.SEEN (s.g TIME_STAT.SEEN ||| 2 ^ p)

/-- The registers of a capture (R270). -/
def syncRegs (p : Nat) : List Nat := [TIME_SYNC_OFF_LO.off p, TIME_SYNC_OFF_LO.off p + 4, TIME_SYNC_INFO.off p, TIME_STAT.off]

theorem State.syncStored_leaves (s : State) (p : Fin 4) {f : Frame} {y : Sync} {off : Nat} (hoff : off < 2 ^ 64) (ht : f.turns < 4) (hh : f.hops < 256)
    (hy : y.stepcnt < 256) : Eff s (s.syncStored p.val f y off) (syncRegs p.val) ∧ (s.syncStored p.val f y off).bare = s.bare ∧
      (s.syncStored p.val f y off).clep = s.clep ∧ (s.syncStored p.val f y off).rd64 (TIME_SYNC_OFF_LO.off p.val) = off ∧
      (s.syncStored p.val f y off).flag (TIME_SYNC_INFO.VALID p.val) = true ∧ (s.syncStored p.val f y off).g (TIME_SYNC_INFO.TURNS p.val) = f.turns ∧
      (s.syncStored p.val f y off).g (TIME_SYNC_INFO.HOPS p.val) = f.hops ∧
      (s.syncStored p.val f y off).g (TIME_SYNC_INFO.STEPCNT p.val) = y.stepcnt ∧
      (s.syncStored p.val f y off).g (TIME_SYNC_INFO.CYCLE p.val) = y.cycle % 256 ∧
      ((s.syncStored p.val f y off).g TIME_STAT.SEEN).testBit p.val = true := by
  obtain ⟨_, hklo, hkhi, _, _, _, hne⟩ := sync_keys p
  have hlo : TIME_SYNC_OFF_LO.off p.val ≠ TIME_SYNC_INFO.off p.val ∧ TIME_SYNC_OFF_LO.off p.val + 4 ≠ TIME_SYNC_INFO.off p.val ∧
      TIME_SYNC_OFF_LO.off p.val ≠ TIME_STAT.off ∧ TIME_SYNC_OFF_LO.off p.val + 4 ≠ TIME_STAT.off := by
    simp only [TIME_SYNC_OFF_LO.off, TIME_SYNC_INFO.off, TIME_STAT.off]
    omega
  have hwr : Eff s (s.wr64 (TIME_SYNC_OFF_LO.off p.val) off) (syncRegs p.val) ∧ (s.wr64 (TIME_SYNC_OFF_LO.off p.val) off).bare = s.bare ∧
      (s.wr64 (TIME_SYNC_OFF_LO.off p.val) off).clep = s.clep :=
    ⟨(Eff.wr s _ hklo (by simp [syncRegs])).trans (Eff.wr _ _ hkhi (by simp [syncRegs])), (Quiet.wr64 s _ _).bare, State.wr64_clep ..⟩
  obtain ⟨ew, bw, cw⟩ := hwr
  have hrd := s.rd64_wr64_fit (k := TIME_SYNC_OFF_LO.off p.val) hoff
  unfold State.syncStored
  dsimp only
  generalize s.wr64 (TIME_SYNC_OFF_LO.off p.val) off = u at *
  obtain ⟨ei, bi, ci, hvalid, hturns, hhops, hstep, hcycle⟩ := u.syncInfo_leaves p f.turns f.hops y.stepcnt y.cycle
  have hir : ∀ k, k ≠ TIME_SYNC_INFO.off p.val → fixedKey k = true → (u.syncInfo p.val f.turns f.hops y.stepcnt y.cycle).rd k = u.rd k :=
    fun k h hk => ei.word (by simpa using h) hk
  have hkeys := sync_keys p
  have hrd2 := (State.rd64_congr (hir _ hlo.1 hkeys.2.2.2.2.1) (hir _ hlo.2.1 hkeys.2.2.2.2.2.1)).trans hrd
  generalize u.syncInfo p.val f.turns f.hops y.stepcnt y.cycle = v at *
  obtain ⟨x, hx⟩ : ∃ x, x = v.g TIME_STAT.SEEN ||| 2 ^ p.val := ⟨_, rfl⟩
  rw [← hx]
  have hse := Eff.p v TIME_STAT.SEEN x (l := syncRegs p.val) (by decide) (by simp [syncRegs])
  have hb := (Quiet.p v TIME_STAT.SEEN x).bare
  have hc := v.p_clep TIME_STAT.SEEN x
  have hseen := v.g_p_self (f := TIME_STAT.SEEN) x (by decide)
  have hkeep : ∀ g : FRef, g.off = TIME_SYNC_INFO.off p.val → (v.p TIME_STAT.SEEN x).g g = v.g g := fun g h => v.g_wr_ne _ _ _ (h ▸ hne)
  have hkeeprd : ∀ k, k ≠ TIME_STAT.off → (v.p TIME_STAT.SEEN x).rd k = v.rd k := fun k h => v.rd_p_ne _ x h
  generalize v.p TIME_STAT.SEEN x = w at *
  refine ⟨(ew.trans (ei.mono (by simp [syncRegs]))).trans hse, hb.trans (bi.trans bw), hc.trans (ci.trans cw),
    (State.rd64_congr (hkeeprd _ hlo.2.2.1) (hkeeprd _ hlo.2.2.2)).trans hrd2, ?_, ?_, ?_, ?_, ?_, ?_⟩
  · rw [State.flag, hkeep _ rfl]
    exact hvalid
  · rw [hkeep _ rfl, hturns, Nat.mod_eq_of_lt ht]
  · rw [hkeep _ rfl, hhops, Nat.mod_eq_of_lt (by omega)]
  · rw [hkeep _ rfl, hstep, Nat.mod_eq_of_lt hy]
  · rw [hkeep _ rfl, hcycle]
  · rw [hseen, hx, Nat.testBit_mod_two_pow, Nat.testBit_or, Nat.testBit_two_pow_self, Bool.or_true, Bool.and_true]
    exact decide_eq_true p.isLt

theorem State.pending_of_bare {s t : State} (h : t.bare = s.bare) : t.pending = s.pending := (State.sameStores_of_bare h).1

theorem State.clep_of_bare {s t : State} (h : t.bare = s.bare) : t.clep = s.clep := by
  obtain ⟨_, _, _, _, _, _, hclep, _⟩ := State.sameStores_of_bare h
  exact hclep

theorem syncReceive_leaves {p : Fin 4} {f : Frame} {q : Fin 16} {s : State} (hs : s.resetReq = none) (ht : f.typ = tySync) (hsrc : f.src ≠ s.node)
    (hm : s.curM = f.src) {y : Sync} (hy : y = decSync f.payload) (hep : y.epoch = s.epochSec) (hen : s.flag TIME_CFG.CAPT_EN = true)
    (hseen : s.clep.syncSeen.contains (p.val, y.cycle) = false) (hrx : (s.port p.val).rx = none) (hturns : f.turns < 4) (hhops : f.hops < 256) :
    ∃ t, exec (.syncReceive p f q) s = .next t ∧ t.rd64 (TIME_SYNC_OFF_LO.off p.val) = wrapInt 64 (s.syncOff p.val f y q.val) ∧
      t.flag (TIME_SYNC_INFO.VALID p.val) = true ∧ t.g (TIME_SYNC_INFO.TURNS p.val) = f.turns ∧ t.g (TIME_SYNC_INFO.HOPS p.val) = f.hops ∧
      t.g (TIME_SYNC_INFO.STEPCNT p.val) = y.stepcnt ∧ t.g (TIME_SYNC_INFO.CYCLE p.val) = y.cycle % 256 ∧
      (t.g TIME_STAT.SEEN).testBit p.val = true ∧ t.evPend (evTime 2) = true ∧
      t.clep = { s.clep with syncSeen := (p.val, y.cycle) :: s.clep.syncSeen.filter (fun e => e.1 != p.val) } ∧
      s.keepsRegs t (syncRegs p.val) ∧ { t.bare with clep := s.clep } = s.bare := by
  have hrecv : syncReceive p f q s = s.syncCapture p.val f y q.val := by
    unfold syncReceive
    dsimp only
    rw [if_neg (by simp [ht]), if_neg hsrc, if_neg (by simp [hm]), State.passPayload_none hrx, hy]
  have hcap : s.syncCapture p.val f y q.val = ((s.syncNoted p.val y.cycle).syncStored p.val f y
      (wrapInt 64 ((s.syncNoted p.val y.cycle).syncOff p.val f y q.val))).raise (evTime 2) clEvent := by
    unfold State.syncCapture
    rw [if_neg (by simp [hep]), if_neg (by rw [hen, hseen]; simp)]
    simp only [State.syncStored, State.syncInfo, State.syncNoted]
  have hstepcnt : y.stepcnt < 256 := hy ▸ beAt_lt f.payload 22 1
  rw [exec_syncReceive, hrecv, hcap]
  obtain ⟨hregs, hreset, hsump, hbare, hclep⟩ := s.syncNoted_leaves p.val y.cycle
  have hpend0 : (s.syncNoted p.val y.cycle).pending = s.pending := (congrArg State.pending hbare :)
  rw [State.syncOff_of hregs (by rw [hclep]) (by rw [hclep])]
  have hnoted := Eff.of_regs (syncRegs p.val) hregs hsump hreset
  generalize s.syncNoted p.val y.cycle = u at *
  obtain ⟨heff, hub, huc, hoff, hvalid, ht', hh', hst', hcy', hbit⟩ := u.syncStored_leaves p (wrapInt_lt 64 (s.syncOff p.val f y q.val)) hturns hhops
    hstepcnt
  generalize u.syncStored p.val f y (wrapInt 64 (s.syncOff p.val f y q.val)) = v at *
  have hraise := Eff.raise v (ev := evTime 2) (cls := clEvent) (by decide) (by decide) []
  have hev := v.raise_pend (ev := evTime 2) clEvent (by decide)
  have hrb := (v.raise_raised (ev := evTime 2) clEvent (by decide)).bare
  generalize v.raise (evTime 2) clEvent = w at *
  obtain ⟨_, _, _, hfix, hfixlo, hfixhi, _⟩ := sync_keys p
  have hg : ∀ g : FRef, g.off = TIME_SYNC_INFO.off p.val → w.g g = v.g g := fun g h => hraise.g List.not_mem_nil (h ▸ hfix)
  have hwu : w.bare = u.bare := hrb.trans hub
  refine ⟨w, congrArg _ (State.finish_kept (hraise.resetReq.trans (heff.resetReq.trans (hreset.trans hs)))
    ((State.pending_of_bare hwu).trans hpend0)), ?_, ?_, ?_, ?_, ?_, ?_, ?_, hev, ?_, ?_, ?_⟩
  · rw [State.rd64_congr (hraise.word List.not_mem_nil hfixlo) (hraise.word List.not_mem_nil hfixhi), hoff]
  · rw [State.flag, hg _ rfl]
    exact hvalid
  · rw [hg _ rfl, ht']
  · rw [hg _ rfl, hh']
  · rw [hg _ rfl, hst']
  · rw [hg _ rfl, hcy']
  · rw [hraise.g List.not_mem_nil (by decide), hbit]
  · exact (State.clep_of_bare hwu).trans hclep
  · exact ((hnoted.trans heff).trans (hraise.mono (by simp))).rd
  · exact (congrArg (fun x : State => { x with clep := s.clep }) hwu).trans hbare

/-- Settles O44. -/
theorem syncAndPtp : Obligations.SyncAndPtp := by
  refine ⟨fun p f q s hs ht hsrc hm hep hen hseen hrx hturns hhops =>
      syncReceive_leaves hs ht hsrc hm rfl hep hen hseen hrx hturns hhops,
    fun n bytes q k s hs hk hup hev het hlen hlen' htc hfc hm hf h8 h10 hw => ?_,
    fun m n val e l s hs hq he => ptpStampPop_leaves hs hq he⟩
  intro c st l hroom
  exact ptpEventReceive_leaves hs hk hup hev het hlen hlen' htc hfc hm hf h8 h10 hw rfl hroom

end Sys2Proof.Machine
end

section
/-! Span delay, ordered sets, port mode and bypass (R106 to R111, R119, R125, R213): what each command of a ring port stores and offers. -/

namespace Sys2Proof.Machine

/- One evaluation after another: each of them, left to itself, would hold a thread. -/
set_option Elab.async false

theorem exec_ldlyReqSend (p : Fin 4) (s : State) : exec (.ldlyReqSend p) s = .next (s.finish (ldlyReqSend p s)) := by rfl

theorem exec_ldlyReqReceive (p : Fin 4) (f : Frame) (q : Fin 16) (s : State) :
    exec (.ldlyReqReceive p f q) s = .next (s.finish (ldlyReqReceive p f q s)) := by rfl

theorem exec_ldlyRspReceive (p : Fin 4) (f : Frame) (q : Fin 16) (s : State) :
    exec (.ldlyRspReceive p f q) s = .next (s.finish (ldlyRspReceive p f q s)) := by rfl

theorem exec_heartbeatSend (p : Fin 4) (s : State) : exec (.heartbeatSend p) s = .next (s.finish (heartbeatSend p s)) := by rfl

theorem exec_creditSetSend (p : Fin 4) (s : State) : exec (.creditSetSend p) s = .next (s.finish (creditSetSend p s)) := by rfl

theorem exec_creditSetReceive (p : Fin 4) (h l : Fin 256) (s : State) :
    exec (.creditSetReceive p h l) s = .next (s.finish (creditSetReceive p h l s)) := by rfl

theorem exec_portModeWrite (m : Master) (p : Fin 4) (val : Word) (s : State) :
    exec (.portModeWrite m p val) s = .next (s.finish (s.regCmd m (PORT_CFG.off p.val) 4 val)) := by rfl

theorem exec_bypassInsertWrite (m : Master) (val : Word) (s : State) :
    exec (.bypassInsertWrite m val) s = .next (s.finish (s.regCmd m PORT_BYP.off 4 val)) := by rfl

/-! ### Ports and offered frames -/

theorem State.port_pm (s : State) (p : Nat) (f : Port → Port) : (s.pm p f).port p = f (s.port p) := Laws.get_set_same _ _ _

theorem State.pm_leaves (s : State) (p : Nat) (f : Port → Port) : (s.pm p f).regs = s.regs ∧ (s.pm p f).resetReq = s.resetReq ∧
    (s.pm p f).pending = s.pending ∧ (s.pm p f).sw = s.sw ∧ { s.pm p f with links := { (s.pm p f).links with ports := s.links.ports } } = s :=
  ⟨rfl, rfl, rfl, rfl, rfl⟩

/-- A frame offered for one ring port. -/
theorem State.offerPort_leaves (s : State) (p typ cls dst : Nat) (payload : List Byte) :
    (s.offerPort p typ cls dst payload).regs = s.regs ∧ (s.offerPort p typ cls dst payload).resetReq = s.resetReq ∧
      (s.offerPort p typ cls dst payload).pending = s.pending ∧ (∀ k, (s.offerPort p typ cls dst payload).port k = s.port k) ∧
      ∃ w, (s.offerPort p typ cls dst payload).sw.waiting = s.sw.waiting ++ [w] ∧ w.targets = [p] ∧ w.frame.typ = typ ∧ w.frame.payload = payload :=
  ⟨rfl, rfl, rfl, fun _ => rfl, _, rfl, rfl, rfl, rfl⟩

theorem State.p_regsOnly (s : State) (f : FRef) (v : Nat) : { s.p f v with regs := s.regs } = s := rfl

theorem FRef.get_whole (f : FRef) (hl : f.lsb = 0) (hw : f.width = 32) (w : Word) : f.get w = w.toNat := by
  rw [FRef.get, hl, hw, bitsOf]
  simpa using w.isLt

/-! ### Span delay (R106 to R108) -/

theorem ldlyReqSend_leaves {p : Fin 4} {s : State} (hs : s.resetReq = none) (hr : s.portRuns p.val = true) (hup : s.pst p.val = psUp)
    (hdue : s.ldlyDue p.val = true) :
    ∃ t, exec (.ldlyReqSend p) s = .next t ∧ (t.port p.val).reqId = ((s.port p.val).reqId + 1) % 2 ^ 32 ∧
      (t.port p.val).reqT1 = none ∧ (t.port p.val).ldlyAt = some s.absNs ∧ t.regs = s.regs ∧ ∃ w, t.sw.waiting = s.sw.waiting ++ [w] ∧ w.targets = [p.val] ∧
      w.frame.typ = tyLdlyReq ∧ w.frame.payload = encLdly (((s.port p.val).reqId + 1) % 2 ^ 32) 0 0 := by
  have hsend : ldlyReqSend p s = (s.pm p.val (fun q => { q with reqId := ((s.port p.val).reqId + 1) % 2 ^ 32, reqT1 := none, ldlyAt := some s.absNs
      })).offerPort p.val tyLdlyReq 7 0 (encLdly (((s.port p.val).reqId + 1) % 2 ^ 32) 0 0) := if_pos ⟨hr, .inl hup, hdue⟩
  rw [exec_ldlyReqSend, hsend]
  generalize ((s.port p.val).reqId + 1) % 2 ^ 32 = n
  have hport := s.port_pm p.val (fun q => { q with reqId := n, reqT1 := none, ldlyAt := some s.absNs })
  obtain ⟨hregs, hreset, hpend, hsw, _⟩ := s.pm_leaves p.val (fun q => { q with reqId := n, reqT1 := none, ldlyAt := some s.absNs })
  generalize s.pm p.val (fun q => { q with reqId := n, reqT1 := none, ldlyAt := some s.absNs }) = u at *
  obtain ⟨hregs', hreset', hpend', hports, w, hw, htarget, htyp, hpl⟩ := u.offerPort_leaves p.val tyLdlyReq 7 0 (encLdly n 0 0)
  generalize u.offerPort p.val tyLdlyReq 7 0 (encLdly n 0 0) = v at *
  have hp := (hports p.val).trans hport
  exact ⟨v, congrArg _ (State.finish_kept (hreset'.trans (hreset.trans hs)) (hpend'.trans hpend)), by rw [hp], by rw [hp], by rw [hp],
    hregs'.trans hregs, w, by rw [hw, hsw], htarget, htyp, hpl⟩

theorem ldlyReqReceive_leaves {p : Fin 4} {f : Frame} {q : Fin 16} {s : State} (hs : s.resetReq = none) (hr : s.portRuns p.val = true)
    (hst : psHello ≤ s.pst p.val) :
    ∃ t, exec (.ldlyReqReceive p f q) s = .next t ∧ t.regs = s.regs ∧ ∃ w, t.sw.waiting = s.sw.waiting ++ [w] ∧ w.targets = [p.val] ∧
      w.frame.typ = tyLdlyRsp ∧ w.frame.payload = encLdly (beAt f.payload 0 4) (wrapInt 64 (s.fns * 65536 + (q.val * 16384 : Nat))) 0 := by
  have hrecv : ldlyReqReceive p f q s = s.offerPort p.val tyLdlyRsp 7 0 (encLdly (beAt f.payload 0 4) (wrapInt 64 (s.fns * 65536 + (q.val * 16384 : Nat))) 0) :=
    if_pos ⟨hr, hst⟩
  rw [exec_ldlyReqReceive, hrecv]
  obtain ⟨hregs, hreset, hpend, _, hoffer⟩ := s.offerPort_leaves p.val tyLdlyRsp 7 0
    (encLdly (beAt f.payload 0 4) (wrapInt 64 (s.fns * 65536 + (q.val * 16384 : Nat))) 0)
  exact ⟨_, congrArg _ (State.finish_kept (hreset.trans hs) hpend), hregs, hoffer⟩

theorem ldlyRspReceive_leaves {p : Fin 4} {f : Frame} {q : Fin 16} {t1 : Nat} {s : State} (hs : s.resetReq = none)
    (ht1 : (s.port p.val).reqT1 = some t1) (hid : beAt f.payload 0 4 = (s.port p.val).reqId) :
    ∃ t, exec (.ldlyRspReceive p f q) s = .next t ∧
      (t.rd (PORT_LDLY.off p.val)).toNat = wrapInt 32 (spanDelay t1 (s.now4 q.val) (beAt f.payload 4 8) (beAt f.payload 12 8)) ∧
      s.sameRegs t [PORT_LDLY.off p.val] ∧ { t with regs := s.regs } = s := by
  have hrecv : ldlyRspReceive p f q s =
      s.p (PORT_LDLY.DELAY p.val) (wrapInt 32 (spanDelay t1 (s.now4 q.val) (beAt f.payload 4 8) (beAt f.payload 12 8))) := by
    unfold ldlyRspReceive
    simp only [ht1]
    exact if_neg (not_not_intro hid)
  rw [exec_ldlyRspReceive, hrecv]
  have hlt := wrapInt_lt 32 (spanDelay t1 (s.now4 q.val) (beAt f.payload 4 8) (beAt f.payload 12 8))
  generalize wrapInt 32 (spanDelay t1 (s.now4 q.val) (beAt f.payload 4 8) (beAt f.payload 12 8)) = d at *
  have hg := (FRef.get_whole (PORT_LDLY.DELAY p.val) rfl rfl _).symm.trans (State.g_p_fit s (f := PORT_LDLY.DELAY p.val) hlt (by simp))
  have hframe := s.p_regsOnly (PORT_LDLY.DELAY p.val) d
  have hreset := s.p_resetReq (PORT_LDLY.DELAY p.val) d
  have hpend := s.p_pending (PORT_LDLY.DELAY p.val) d
  have hrd : ∀ k, k ≠ PORT_LDLY.off p.val → (s.p (PORT_LDLY.DELAY p.val) d).rd k = s.rd k := fun k h => s.rd_p_ne _ d h
  generalize s.p (PORT_LDLY.DELAY p.val) d = u at *
  exact ⟨u, congrArg _ (State.finish_kept (hreset.trans hs) hpend), hg, fun k hk => hrd k (by simpa using hk), hframe⟩

/-! ### Ordered sets (R105, R213) -/

/-- A command that changes a port's record alone. -/
theorem exec_pm {c : Instr} {s x : State} {p : Nat} {f : Port → Port} (hs : s.resetReq = none) (hc : exec c s = .next (s.finish x))
    (hx : x = s.pm p f) :
    ∃ t, exec c s = .next t ∧ t.port p = f (s.port p) ∧ { t with links := { t.links with ports := s.links.ports } } = s := by
  obtain ⟨_, hreset, hpend, _, hframe⟩ := s.pm_leaves p f
  exact ⟨s.pm p f, (hx ▸ hc).trans (congrArg _ (State.finish_kept (hreset.trans hs) hpend)), s.port_pm p f, hframe⟩

theorem heartbeatSend_leaves {p : Fin 4} {s : State} (hs : s.resetReq = none) (hr : s.portRuns p.val = true) (hup : s.pst p.val = psUp)
    (hidle : 1000 ≤ s.absNs - (s.port p.val).busyTo) : ∃ t, exec (.heartbeatSend p) s = .next t ∧
      (t.port p.val).line = (if s.g (PORT_CFG.MODE p.val) = 1 then [.code true 0xBC, .code false 0x46] else [.control 0x4B [0, 0, 0, 0xA]]) ∧
      { t with links := { t.links with ports := s.links.ports } } = s := by
  have hsend : heartbeatSend p s = s.pm p.val (fun q => { q with line := heartbeatLine (s.g (PORT_CFG.MODE p.val)), busyTo := s.absNs }) :=
    if_pos ⟨hr, by rw [hup]; decide, hidle⟩
  obtain ⟨t, ht, hport, hframe⟩ := exec_pm hs (exec_heartbeatSend p s) hsend
  exact ⟨t, ht, by rw [hport, heartbeatLine], hframe⟩

theorem creditSetSend_leaves {p : Fin 4} {s : State} (hs : s.resetReq = none) (hr : s.portRuns p.val = true) (hup : s.pst p.val = psUp)
    (hidle : (s.port p.val).busyTo ≤ s.absNs) : ∃ t, exec (.creditSetSend p) s = .next t ∧
      (t.port p.val).line = creditLine (s.g (PORT_CFG.MODE p.val)) (s.port p.val).freedH (s.port p.val).freedL ++
        creditLine (s.g (PORT_CFG.MODE p.val)) (s.port p.val).freedH (s.port p.val).freedL ∧
      (t.port p.val).freedSent = some ((s.port p.val).freedH, (s.port p.val).freedL) ∧
      { t with links := { t.links with ports := s.links.ports } } = s := by
  have hsend : creditSetSend p s = s.pm p.val (fun q => { q with
      line := creditLine (s.g (PORT_CFG.MODE p.val)) q.freedH q.freedL ++ creditLine (s.g (PORT_CFG.MODE p.val)) q.freedH q.freedL,
      freedSent := some (q.freedH, q.freedL) }) := if_pos ⟨hr, hup, hidle⟩
  obtain ⟨t, ht, hport, hframe⟩ := exec_pm hs (exec_creditSetSend p s) hsend
  exact ⟨t, ht, by rw [hport], by rw [hport], hframe⟩

theorem creditSetReceive_second {p : Fin 4} {h l : Fin 256} {s : State} (hs : s.resetReq = none) (hr : s.portRuns p.val = true)
    (hup : s.pst p.val = psUp) (hset : (s.port p.val).rxSet = some (h.val, l.val)) : ∃ t, exec (.creditSetReceive p h l) s = .next t ∧
      (t.port p.val).credH = (s.port p.val).credH + (h.val + 256 - (s.port p.val).nbrFreedH) % 256 ∧
      (t.port p.val).credL = (s.port p.val).credL + (l.val + 256 - (s.port p.val).nbrFreedL) % 256 ∧
      (t.port p.val).nbrFreedH = h.val ∧ (t.port p.val).nbrFreedL = l.val ∧
      { t with links := { t.links with ports := s.links.ports } } = s := by
  have hrecv : creditSetReceive p h l s = s.pm p.val (fun q => { q with
      credH := q.credH + (h.val + 256 - q.nbrFreedH) % 256, credL := q.credL + (l.val + 256 - q.nbrFreedL) % 256,
      nbrFreedH := h.val, nbrFreedL := l.val }) := (if_neg (by simp [hr, hup])).trans (if_pos hset)
  obtain ⟨t, ht, hport, hframe⟩ := exec_pm hs (exec_creditSetReceive p h l s) hrecv
  exact ⟨t, ht, by rw [hport], by rw [hport], by rw [hport], by rw [hport], hframe⟩

theorem creditSetReceive_first {p : Fin 4} {h l : Fin 256} {s : State} (hs : s.resetReq = none) (hr : s.portRuns p.val = true)
    (hup : s.pst p.val = psUp) (hset : (s.port p.val).rxSet ≠ some (h.val, l.val)) : ∃ t, exec (.creditSetReceive p h l) s = .next t ∧
      t.port p.val = { s.port p.val with rxSet := some (h.val, l.val) } ∧ { t with links := { t.links with ports := s.links.ports } } = s := by
  have hrecv : creditSetReceive p h l s = s.pm p.val (fun q => { q with rxSet := some (h.val, l.val) }) :=
    (if_neg (by simp [hr, hup])).trans (if_neg hset)
  exact exec_pm hs (exec_creditSetReceive p h l s) hrecv

/-! ### The mode of a port (R119) -/

theorem port_rows : ∀ p : Fin 4, regAlone (PORT_CFG.off p.val) 2 = true ∧ hasField (PORT_CFG.off p.val) .rw (PORT_CFG.MODE p.val) = true ∧
    portOf (PORT_CFG.off p.val) = p.val ∧ PORT_CFG.off p.val ≠ PORT_STAT.off p.val := by decide +kernel

theorem State.blkTop_portCfg {s : State} (p : Fin 4) {r : RegWr} (h : r.off = PORT_CFG.off p.val) : s.blkTop r = s.portCfgWrite p.val r.new := by
  have hblk : ∀ k ∈ [0x0A0000, 0x0A1000, 0x0A4000, 0x0A5000], r.off = k → s.blkTop r = s.portCfgWrite (portOf r.off) r.new := by
    intro k hk hr
    simp only [List.mem_cons, List.not_mem_nil, or_false] at hk
    rcases hk with rfl | rfl | rfl | rfl <;> simp (decide := true) [State.blkTop, State.blkWrite, State.blkRing, hr]
  have hmem : ∀ p : Fin 4, PORT_CFG.off p.val ∈ [0x0A0000, 0x0A1000, 0x0A4000, 0x0A5000] := by decide
  rw [hblk _ (hmem p) h, h, (port_rows p).2.2.1]

/-- The port as its mode is set: signal is taken from the comparator, and training begins with it. -/
def State.modeSet (s : State) (p : Nat) (new : Word) : State :=
  (((s.wr (PORT_CFG.off p) new).pb (PORT_STAT.SD p) true).pb (PORT_STAT.LOCK p) false).setPst p psTrain

theorem State.modeSet_leaves (s : State) (p : Fin 4) (new : Word) : s.sameRegs (s.modeSet p.val new) [PORT_CFG.off p.val, PORT_STAT.off p.val] ∧
    (s.modeSet p.val new).resetReq = s.resetReq ∧ (s.modeSet p.val new).pending = s.pending ∧
    (s.modeSet p.val new).g (PORT_CFG.MODE p.val) = (PORT_CFG.MODE p.val).get new ∧ (s.modeSet p.val new).pst p.val = psTrain := by
  have hne := (port_rows p).2.2.2
  have hcfg := s.g_wr_self new (g := PORT_CFG.MODE p.val) rfl
  have hsame : ∀ k, k ≠ PORT_CFG.off p.val → (s.wr (PORT_CFG.off p.val) new).rd k = s.rd k := fun k h => s.rd_wr_ne new h
  have hreset := s.wr_resetReq (PORT_CFG.off p.val) new
  have hpend := s.wr_pending (PORT_CFG.off p.val) new
  unfold State.modeSet
  generalize s.wr (PORT_CFG.off p.val) new = u at *
  have hset : ∀ (v : State) (f : FRef) (x : Nat), f.off = PORT_STAT.off p.val → (v.p f x).g (PORT_CFG.MODE p.val) = v.g (PORT_CFG.MODE p.val) ∧
      (∀ k, k ≠ PORT_STAT.off p.val → (v.p f x).rd k = v.rd k) ∧ (v.p f x).resetReq = v.resetReq ∧ (v.p f x).pending = v.pending :=
    fun v f x h => ⟨v.g_wr_ne _ _ _ (h ▸ hne), fun k hk => v.rd_p_ne f x (h ▸ hk), v.p_resetReq f x, v.p_pending f x⟩
  obtain ⟨g1, r1, q1, p1⟩ := hset u (PORT_STAT.SD p.val) (b2n true) rfl
  rw [State.pb, State.pb, State.setPst]
  generalize u.p (PORT_STAT.SD p.val) (b2n true) = v at *
  obtain ⟨g2, r2, q2, p2⟩ := hset v (PORT_STAT.LOCK p.val) (b2n false) rfl
  generalize v.p (PORT_STAT.LOCK p.val) (b2n false) = w at *
  obtain ⟨g3, r3, q3, p3⟩ := hset w (PORT_STAT.STATE p.val) psTrain rfl
  refine ⟨fun k hk => ?_, q3.trans (q2.trans (q1.trans hreset)), p3.trans (p2.trans (p1.trans hpend)), g3.trans (g2.trans (g1.trans hcfg)), ?_⟩
  · simp only [List.mem_cons, List.not_mem_nil, or_false, not_or] at hk
    rw [r3 k hk.2, r2 k hk.2, r1 k hk.2, hsame k hk.1]
  · exact w.g_p_self (f := PORT_STAT.STATE p.val) psTrain (by simp)

theorem signal_keys : ∀ p : Fin 4, CMP_STAT.off (16 + p.val) ≠ PORT_CFG.off p.val ∧ PORT_STAT.off p.val ≠ PORT_CFG.off p.val := by decide +kernel

theorem State.portCfgWrite_train {s : State} (p : Fin 4) {new : Word} (hdown : s.pst p.val = psDown) (hrx : (s.port p.val).rx = none)
    (hsig : s.ringSignal p.val = true) (hold : s.g (PORT_CFG.MODE p.val) = 0) (hnew : (PORT_CFG.MODE p.val).get new ≠ 0) :
    s.portCfgWrite p.val new = (stOK, s.modeSet p.val new) := by
  obtain ⟨hcmp, hstat⟩ := signal_keys p
  have hsig' : (s.wr (PORT_CFG.off p.val) new).ringSignal p.val = true := (s.flag_wr_ne new hcmp).trans hsig
  have hpst : (s.wr (PORT_CFG.off p.val) new).pst p.val = psDown := (s.g_wr_ne _ new _ hstat).trans hdown
  have hport : (s.wr (PORT_CFG.off p.val) new).port p.val = s.port p.val := rfl
  have hchg : (PORT_CFG.MODE p.val).get new ≠ (PORT_CFG.MODE p.val).get (s.rd (PORT_CFG.off p.val)) := fun h => hnew (h.trans hold)
  unfold State.portCfgWrite State.modeSet
  dsimp only
  rw [if_pos hnew, hsig']
  generalize s.wr (PORT_CFG.off p.val) new = u at *
  have hsd := u.flag_pb_self (f := PORT_STAT.SD p.val) true (by simp) rfl
  have hst := (u.g_pb_sep (f := PORT_STAT.SD p.val) (g := PORT_STAT.STATE p.val) true (by simp [FRef.sep])).trans hpst
  have hport' : (u.pb (PORT_STAT.SD p.val) true).port p.val = s.port p.val := hport
  generalize u.pb (PORT_STAT.SD p.val) true = v at *
  have hdrop : v.dropRx p.val = v := by
    unfold State.dropRx
    rw [hport', hrx]
  have hsd' := (v.flag_pb_sep (f := PORT_STAT.LOCK p.val) (g := PORT_STAT.SD p.val) false (by simp [FRef.sep])).trans hsd
  rw [if_neg (by simp [hchg]), if_neg (by rw [State.pst, hst]; decide), hdrop, if_pos ⟨hnew, hsd'⟩]

theorem portModeWrite_leaves {m : Master} {p : Fin 4} {val : Word} {s : State} (hs : s.serves m (PORT_CFG.off p.val) 2) (hdown : s.pst p.val = psDown)
    (hrx : (s.port p.val).rx = none) (hsig : s.ringSignal p.val = true) (hold : s.g (PORT_CFG.MODE p.val) = 0)
    (hnew : (PORT_CFG.MODE p.val).get val ≠ 0) :
    ∃ t, exec (.portModeWrite m p val) s = .next t ∧ t.toldOK m ∧ t.g (PORT_CFG.MODE p.val) = (PORT_CFG.MODE p.val).get val ∧
      t.pst p.val = psTrain ∧ s.sameRegs t [PORT_CFG.off p.val, PORT_STAT.off p.val] := by
  obtain ⟨halone, hmode, _, _⟩ := port_rows p
  obtain ⟨new, hn⟩ : ∃ new, new = (s.regWr m (PORT_CFG.off p.val) val).new := ⟨_, rfl⟩
  have hget : (PORT_CFG.MODE p.val).get new = (PORT_CFG.MODE p.val).get val := by
    rw [hn]
    exact newWord_get_rw hmode _ val
  have hblk : s.blkTop (s.regWr m (PORT_CFG.off p.val) val) = (stOK, s.modeSet p.val new) := by
    rw [State.blkTop_portCfg p rfl, ← hn]
    exact State.portCfgWrite_train p hdown hrx hsig hold (hget ▸ hnew)
  obtain ⟨hsame, hreset, hpend, hg, hst⟩ := s.modeSet_leaves p new
  generalize s.modeSet p.val new = u at *
  have hfin := State.serves_finish hs halone hblk (hreset.trans (State.serves_noReset hs)) hpend
  refine ⟨u.answer m stOK [], by rw [exec_portModeWrite, hfin], rfl, by rw [State.answer_g, hg, hget], ?_, fun k hk => by rw [State.answer_rd, hsame k hk]⟩
  rw [State.pst, State.answer_g]
  exact hst

/-! ### The bypass (R125) -/

theorem bypass_row : regAlone PORT_BYP.off 2 = true ∧ hasField PORT_BYP.off .rw PORT_BYP.INSERT = true := by decide +kernel

theorem State.blkTop_bypass {s : State} {r : RegWr} (h : r.off = PORT_BYP.off) : s.blkTop r = s.bypWrite r.new := by
  simp (decide := true) [State.blkTop, State.blkWrite, State.blkRing, h]

/-- INSERT and the pin at one level. -/
def State.bypSet (s : State) (b : Bool) : State := (s.pb PORT_BYP.INSERT b).pb PORT_BYP.PIN b

theorem State.bypSet_leaves (s : State) (b : Bool) : (s.bypSet b).flag PORT_BYP.INSERT = b ∧ (s.bypSet b).flag PORT_BYP.PIN = b ∧
    s.sameRegs (s.bypSet b) [PORT_BYP.off] ∧ (s.bypSet b).resetReq = s.resetReq ∧ (s.bypSet b).pending = s.pending := by
  have hins := s.flag_pb_self (f := PORT_BYP.INSERT) b (by decide) rfl
  have hrd : ∀ k, k ≠ PORT_BYP.off → (s.pb PORT_BYP.INSERT b).rd k = s.rd k := fun k h => s.rd_pb_ne b h
  have hreset := s.p_resetReq PORT_BYP.INSERT (b2n b)
  have hpend := s.p_pending PORT_BYP.INSERT (b2n b)
  unfold State.bypSet
  rw [show s.p PORT_BYP.INSERT (b2n b) = s.pb PORT_BYP.INSERT b from rfl] at hreset hpend
  generalize s.pb PORT_BYP.INSERT b = u at *
  refine ⟨(u.flag_pb_sep (f := PORT_BYP.PIN) (g := PORT_BYP.INSERT) b (by decide)).trans hins, u.flag_pb_self (f := PORT_BYP.PIN) b (by decide) rfl,
    fun k hk => (u.rd_pb_ne (f := PORT_BYP.PIN) b (by simpa using hk)).trans (hrd k (by simpa using hk)), (u.p_resetReq _ _).trans hreset,
    (u.p_pending _ _).trans hpend⟩

theorem bypassInsertWrite_leaves {m : Master} {val : Word} {b : Bool} {s : State} (hs : s.serves m PORT_BYP.off 2)
    (hb : PORT_BYP.INSERT.get val = b2n b) (hd : b = true → s.domOn 3 = true ∧ s.domOn 5 = true) :
    ∃ t, exec (.bypassInsertWrite m val) s = .next t ∧ t.toldOK m ∧ t.flag PORT_BYP.INSERT = b ∧ t.flag PORT_BYP.PIN = b ∧
      s.sameRegs t [PORT_BYP.off] := by
  obtain ⟨halone, hins⟩ := bypass_row
  have hblk : s.blkTop (s.regWr m PORT_BYP.off val) = (stOK, s.bypSet b) := by
    have hget : PORT_BYP.INSERT.get (s.regWr m PORT_BYP.off val).new = b2n b := (newWord_get_rw hins _ val).trans hb
    rw [State.blkTop_bypass rfl]
    unfold State.bypWrite
    rw [hget]
    cases b
    · exact if_neg (by simp [b2n])
    · exact if_pos ⟨rfl, hd rfl⟩
  obtain ⟨hi, hp, hsame, hreset, hpend⟩ := s.bypSet_leaves b
  generalize s.bypSet b = u at *
  have hfin := State.serves_finish hs halone hblk (hreset.trans (State.serves_noReset hs)) hpend
  exact ⟨u.answer m stOK [], by rw [exec_bypassInsertWrite, hfin], rfl, by rw [State.answer_flag, hi], by rw [State.answer_flag, hp],
    fun k hk => by rw [State.answer_rd, hsame k hk]⟩

/-- Settles O27. -/
theorem spanDelayAndCredit : Obligations.SpanDelayAndCredit := by
  refine ⟨fun _ _ hs hr hup hdue => ldlyReqSend_leaves hs hr hup hdue, fun _ _ _ _ hs hr hst => ldlyReqReceive_leaves hs hr hst,
    fun _ _ _ _ _ hs ht1 hid => ldlyRspReceive_leaves hs ht1 hid, fun p s hs hr hup => ⟨heartbeatSend_leaves hs hr hup, creditSetSend_leaves hs hr hup,
      fun _ _ => creditSetReceive_second hs hr hup, fun _ _ => creditSetReceive_first hs hr hup⟩,
    fun _ _ _ _ hs hdown hrx hsig hold hnew _ => portModeWrite_leaves hs hdown hrx hsig hold hnew,
    fun m s hs h3 h5 => bypassInsertWrite_leaves hs (by decide) fun _ => ⟨h3, h5⟩, fun m s hs => bypassInsertWrite_leaves hs (by decide) (by simp)⟩

end Sys2Proof.Machine
end

section
/-! A link comes up (R121, R123, R523): from DOWN through TRAIN and HELLO to HOLD, and at the end of the hold to UP. -/

namespace Sys2Proof.Machine

/- One evaluation after another: each of them, left to itself, would hold a thread. -/
set_option Elab.async false

theorem exec_signalDetect (p : Fin 4) (s : State) : exec (.signalDetect p) s = .next (s.finish (signalDetect p s)) := by rfl

theorem exec_pcsLockAcquire (p : Fin 4) (s : State) : exec (.pcsLockAcquire p) s = .next (s.finish (pcsLockAcquire p s)) := by rfl

theorem exec_helloSend (p : Fin 4) (s : State) : exec (.helloSend p) s = .next (s.finish (helloSend p s)) := by rfl

theorem exec_helloReceive (p : Fin 4) (f : Frame) (s : State) : exec (.helloReceive p f) s = .next (s.finish (helloReceive p f s)) := by rfl

theorem exec_holdExpire (p : Fin 4) (s : State) : exec (.holdExpire p) s = .next (s.finish (holdExpire p s)) := by rfl

/-! ### Training -/

/-- A flag of PORT_STAT set and a state entered. -/
def State.portGo (s : State) (p : Nat) (f : FRef) (st : Nat) : State := (s.pb f true).setPst p st

theorem State.portGo_leaves (s : State) {p st : Nat} {f : FRef} (hf : f.off = PORT_STAT.off p) (hsep : (PORT_STAT.STATE p).sep f = true)
    (hfit : f.lsb + 1 ≤ 32) (hw : f.width = 1) (hst : st < 8) : (s.portGo p f st).pst p = st ∧ (s.portGo p f st).flag f = true ∧
    s.sameRegs (s.portGo p f st) [PORT_STAT.off p] ∧ { s.portGo p f st with regs := s.regs } = s := by
  have hflag := s.flag_pb_self true hfit hw
  have hrd : ∀ k, k ≠ PORT_STAT.off p → (s.pb f true).rd k = s.rd k := fun k h => s.rd_pb_ne true (hf ▸ h)
  have hframe : { s.pb f true with regs := s.regs } = s := s.p_regsOnly f (b2n true)
  unfold State.portGo
  generalize s.pb f true = u at *
  refine ⟨u.g_p_fit (f := PORT_STAT.STATE p) hst (by simp), (u.flag_p_sep (f := PORT_STAT.STATE p) st hsep).trans hflag,
    fun k hk => (u.rd_p_ne (PORT_STAT.STATE p) st (by simpa using hk)).trans (hrd k (by simpa using hk)), ?_⟩
  rw [← hframe]
  rfl

/-- A command that changes registers alone. -/
theorem exec_regsOnly {c : Instr} {s x : State} (hs : s.resetReq = none) (hc : exec c s = .next (s.finish x)) (hx : { x with regs := s.regs } = s) :
    exec c s = .next x := by
  have hreset : x.resetReq = s.resetReq := (congrArg State.resetReq hx :)
  have hpend : x.pending = s.pending := (congrArg State.pending hx :)
  exact hc.trans (congrArg _ (State.finish_kept (hreset.trans hs) hpend))

theorem signalDetect_leaves {p : Fin 4} {s : State} (hs : s.resetReq = none) (hr : s.portRuns p.val = true) (hdown : s.pst p.val = psDown)
    (hsig : s.ringSignal p.val = true) : ∃ t, exec (.signalDetect p) s = .next t ∧ t.pst p.val = psTrain ∧
      t.flag (PORT_STAT.SD p.val) = true ∧ s.sameRegs t [PORT_STAT.off p.val] ∧ { t with regs := s.regs } = s := by
  have hgo : signalDetect p s = s.portGo p.val (PORT_STAT.SD p.val) psTrain :=
    (if_neg (by simp [hr, hsig])).trans (if_pos ((s.g_pb_sep (f := PORT_STAT.SD p.val) (g := PORT_STAT.STATE p.val) true (by simp [FRef.sep])).trans hdown))
  obtain ⟨hst, hsd, hsame, hframe⟩ := s.portGo_leaves (p := p.val) (f := PORT_STAT.SD p.val) rfl (by simp [FRef.sep]) (by simp) rfl
    (show psTrain < 8 by decide)
  exact ⟨_, exec_regsOnly hs ((exec_signalDetect p s).trans (hgo ▸ rfl)) hframe, hst, hsd, hsame, hframe⟩

theorem pcsLockAcquire_leaves {p : Fin 4} {s : State} (hs : s.resetReq = none) (hr : s.portRuns p.val = true) (htrain : s.pst p.val = psTrain) :
    ∃ t, exec (.pcsLockAcquire p) s = .next t ∧ t.pst p.val = psHello ∧ t.flag (PORT_STAT.LOCK p.val) = true ∧
      s.sameRegs t [PORT_STAT.off p.val] ∧ { t with regs := s.regs } = s := by
  have hgo : pcsLockAcquire p s = s.portGo p.val (PORT_STAT.LOCK p.val) psHello := if_pos ⟨hr, htrain⟩
  obtain ⟨hst, hlock, hsame, hframe⟩ := s.portGo_leaves (p := p.val) (f := PORT_STAT.LOCK p.val) rfl (by simp [FRef.sep]) (by simp) rfl
    (show psHello < 8 by decide)
  exact ⟨_, exec_regsOnly hs ((exec_pcsLockAcquire p s).trans (hgo ▸ rfl)) hframe, hst, hlock, hsame, hframe⟩

/-! ### HELLO -/

theorem State.offerPort_item (s : State) (p typ cls dst : Nat) (payload : List Byte) :
    ∃ w, (s.offerPort p typ cls dst payload).sw.waiting = s.sw.waiting ++ [w] ∧ w.inPort = 8 ∧ w.targets = [p] ∧ w.cls = cls ∧
      w.frame.typ = typ ∧ w.frame.payload = payload := ⟨_, rfl, rfl, rfl, rfl, rfl, rfl⟩

theorem State.setKa_leaves (s : State) (p : Nat) (k : Ka) : (s.setKa p k).regs = s.regs ∧ (s.setKa p k).resetReq = s.resetReq ∧
    (s.setKa p k).pending = s.pending ∧ (s.setKa p k).sw = s.sw := ⟨rfl, rfl, rfl, rfl⟩

theorem helloSend_leaves {p : Fin 4} {s : State} (hs : s.resetReq = none) (hr : s.portRuns p.val = true) (hst : psHello ≤ s.pst p.val) :
    ∃ t, exec (.helloSend p) s = .next t ∧ t.regs = s.regs ∧ ∃ w, t.sw.waiting = s.sw.waiting ++ [w] ∧ w.inPort = 8 ∧
      w.targets = [p.val] ∧ w.cls = 7 ∧ w.frame.typ = tyHello ∧ w.frame.payload = encHello (s.hello p.val) ++ (s.kaOf p.val).out := by
  have hsend : helloSend p s = (s.offerPort p.val tyHello 7 0 (encHello (s.hello p.val) ++ (s.kaOf p.val).out)).setKa p.val
      { s.kaOf p.val with out := [] } := if_pos ⟨hr, hst⟩
  rw [exec_helloSend, hsend]
  generalize encHello (s.hello p.val) ++ (s.kaOf p.val).out = pl
  obtain ⟨hregs, hreset, hpend, _⟩ := s.offerPort_leaves p.val tyHello 7 0 pl
  obtain ⟨w, hw, hin, htarget, hcls, htyp, hpl⟩ := s.offerPort_item p.val tyHello 7 0 pl
  generalize s.offerPort p.val tyHello 7 0 pl = u at *
  obtain ⟨hregs', hreset', hpend', hsw⟩ := u.setKa_leaves p.val { s.kaOf p.val with out := [] }
  generalize u.setKa p.val { s.kaOf p.val with out := [] } = v at *
  exact ⟨v, congrArg _ (State.finish_kept (hreset'.trans (hreset.trans hs)) (hpend'.trans hpend)), hregs'.trans hregs, w,
    by rw [hsw, hw], hin, htarget, hcls, htyp, hpl⟩

/-! ### The neighbour recorded -/

/-- A chain of writes and events that leaves the pending commands and the time counter. -/
structure PortChain (s t : State) (l : List Nat) : Prop extends Chain s t l where
  clep : t.clep = s.clep

namespace PortChain

theorem trans {s t u : State} {l : List Nat} (a : PortChain s t l) (b : PortChain t u l) : PortChain s u l :=
  ⟨a.toChain.trans b.toChain, b.clep.trans a.clep⟩

theorem mono {s t : State} {l l' : List Nat} (a : PortChain s t l) (h : ∀ k ∈ l, k ∈ l') : PortChain s t l' := ⟨a.toChain.mono h, a.clep⟩

theorem p (s : State) (f : FRef) (v : Nat) {l : List Nat} (hk : isPendKey f.off = false) (hl : f.off ∈ l) : PortChain s (s.p f v) l :=
  ⟨Chain.p s f v hk hl, rfl⟩

theorem pm (s : State) (p : Nat) (f : Port → Port) (l : List Nat) : PortChain s (s.pm p f) l := ⟨Chain.of_regs l, rfl⟩

theorem raise (s : State) {ev cls : Nat} (hev : ev < 512) (hc : cls < 4) (l : List Nat) : PortChain s (s.raise ev cls) l :=
  ⟨Chain.raise s hev hc l, State.clep_of_bare (s.raise_raised cls hev).bare⟩

/-- Fabric time is as it was, where EPOCH is. -/
theorem fns48 {s t : State} {l : List Nat} (a : PortChain s t l) (hlo : TIME_EPOCH_LO.off ∉ l) (hhi : TIME_EPOCH_LO.off + 4 ∉ l) : t.fns48 = s.fns48 :=
  State.fns48_congr a.clep (State.rd64_congr (a.word hlo (by decide)) (a.word hhi (by decide)))

end PortChain

theorem State.port_of_bare {s t : State} (h : t.bare = s.bare) (p : Nat) : t.port p = s.port p := by
  have hp : t.links.ports = s.links.ports := (congrArg (fun x : State => x.links.ports) h :)
  rw [State.port, State.port, hp]

theorem port_keys : ∀ p : Fin 4, fixedKey (PORT_STAT.off p.val) = true ∧ fixedKey (PORT_NBR.off p.val) = true ∧ PORT_NBR.off p.val ≠ PORT_STAT.off p.val ∧
    PORT_CFG.off p.val ≠ PORT_STAT.off p.val ∧ PORT_CFG.off p.val ≠ PORT_NBR.off p.val ∧ fixedKey (PORT_CFG.off p.val) = true ∧
    TIME_EPOCH_LO.off ∉ [PORT_STAT.off p.val, PORT_NBR.off p.val] ∧ TIME_EPOCH_LO.off + 4 ∉ [PORT_STAT.off p.val, PORT_NBR.off p.val] := by decide +kernel

/-- The neighbour that a HELLO names, in PORT_NBR and in the port's record. -/
def State.nbrSet (s : State) (p : Nat) (h : Hello) : State :=
  (((s.pb (PORT_NBR.VALID p) true).p (PORT_NBR.PORT p) h.port).p (PORT_NBR.NODE_ID p) h.node).pm p
    (fun q => { q with nbr := some ⟨h.node, h.port, h.turned, h.uid⟩ })

theorem State.nbrSet_leaves (s : State) (p : Fin 4) (h : Hello) : PortChain s (s.nbrSet p.val h) [PORT_NBR.off p.val] ∧
    (s.nbrSet p.val h).flag (PORT_NBR.VALID p.val) = true ∧ (s.nbrSet p.val h).g (PORT_NBR.NODE_ID p.val) = h.node % 2 ^ 16 ∧
    ((s.nbrSet p.val h).port p.val).nbr = some ⟨h.node, h.port, h.turned, h.uid⟩ := by
  have hk := (fixedKey_iff.1 (port_keys p).2.1).1
  have hmem : PORT_NBR.off p.val ∈ [PORT_NBR.off p.val] := List.mem_singleton.2 rfl
  have h1 := PortChain.p s (PORT_NBR.VALID p.val) (b2n true) hk hmem
  have hv1 := s.flag_pb_self (f := PORT_NBR.VALID p.val) true (by simp) rfl
  unfold State.nbrSet
  rw [State.pb] at *
  generalize s.p (PORT_NBR.VALID p.val) (b2n true) = u at *
  have h2 := h1.trans (PortChain.p u (PORT_NBR.PORT p.val) h.port hk hmem)
  have hv2 := (u.flag_p_sep (f := PORT_NBR.PORT p.val) (g := PORT_NBR.VALID p.val) h.port (by simp [FRef.sep])).trans hv1
  generalize u.p (PORT_NBR.PORT p.val) h.port = v at *
  have h3 := h2.trans (PortChain.p v (PORT_NBR.NODE_ID p.val) h.node hk hmem)
  have hv3 := (v.flag_p_sep (f := PORT_NBR.NODE_ID p.val) (g := PORT_NBR.VALID p.val) h.node (by simp [FRef.sep])).trans hv2
  have hn := v.g_p_self (f := PORT_NBR.NODE_ID p.val) h.node (by simp)
  generalize v.p (PORT_NBR.NODE_ID p.val) h.node = w at *
  have hp := w.port_pm p.val (fun q => { q with nbr := some ⟨h.node, h.port, h.turned, h.uid⟩ })
  have hregs := (w.pm_leaves p.val (fun q => { q with nbr := some ⟨h.node, h.port, h.turned, h.uid⟩ })).1
  have hc := PortChain.pm w p.val (fun q => { q with nbr := some ⟨h.node, h.port, h.turned, h.uid⟩ }) [PORT_NBR.off p.val]
  generalize w.pm p.val (fun q => { q with nbr := some ⟨h.node, h.port, h.turned, h.uid⟩ }) = x at *
  exact ⟨h3.trans hc, (State.flag_of_regs hregs _).trans hv3, (State.g_of_regs hregs _).trans hn, by rw [hp]⟩

/-- A change of neighbour noted. -/
def State.nbrNote (s : State) (p : Nat) (chg : Bool) : State := if chg then (s.pb (PORT_STAT.NBR_CHG p) true).raise (evPort p 5) clNote else s

theorem State.nbrNote_leaves (s : State) (p : Fin 4) (chg : Bool) : PortChain s (s.nbrNote p.val chg) [PORT_STAT.off p.val] ∧
    (s.nbrNote p.val chg).pst p.val = s.pst p.val ∧ (s.nbrNote p.val chg).g (PORT_STAT.CHK p.val) = s.g (PORT_STAT.CHK p.val) ∧
    (s.nbrNote p.val chg).port p.val = s.port p.val := by
  have hfix := (port_keys p).1
  cases chg
  · exact ⟨⟨Chain.refl s _, rfl⟩, rfl, rfl, rfl⟩
  · have h1 : PortChain s (s.pb (PORT_STAT.NBR_CHG p.val) true) [PORT_STAT.off p.val] :=
      PortChain.p s _ _ (fixedKey_iff.1 hfix).1 (List.mem_singleton.2 rfl)
    have hst := s.g_pb_sep (f := PORT_STAT.NBR_CHG p.val) (g := PORT_STAT.STATE p.val) true (by simp [FRef.sep])
    have hchk := s.g_pb_sep (f := PORT_STAT.NBR_CHG p.val) (g := PORT_STAT.CHK p.val) true (by simp [FRef.sep])
    have hport : (s.pb (PORT_STAT.NBR_CHG p.val) true).port p.val = s.port p.val := rfl
    have hev : evPort p.val 5 < 512 := by
      have := p.isLt
      simp only [evPort]
      omega
    rw [State.nbrNote, if_pos rfl]
    generalize s.pb (PORT_STAT.NBR_CHG p.val) true = u at *
    exact ⟨h1.trans (PortChain.raise u hev (by decide) _), (State.raise_g u _ hev hfix).trans hst, (State.raise_g u _ hev hfix).trans hchk,
      (State.port_of_bare (u.raise_raised _ hev).bare _).trans hport⟩

theorem State.enterHold_leaves (s : State) (p : Fin 4) : PortChain s (s.enterHold p.val) [PORT_STAT.off p.val] ∧
    (s.enterHold p.val).pst p.val = psHold ∧ (s.enterHold p.val).g (PORT_STAT.CHK p.val) = s.g (PORT_STAT.CHK p.val) ∧
    ((s.enterHold p.val).port p.val).nbr = (s.port p.val).nbr ∧ ((s.enterHold p.val).port p.val).holdAt = some s.fns48 := by
  have hfix := (port_keys p).1
  have h1 : PortChain s (s.setPst p.val psHold) [PORT_STAT.off p.val] := PortChain.p s _ _ (fixedKey_iff.1 hfix).1 (List.mem_singleton.2 rfl)
  have hst : (s.setPst p.val psHold).pst p.val = psHold := s.g_p_fit (f := PORT_STAT.STATE p.val) (show psHold < 2 ^ 3 by decide) (by simp)
  have hchk := s.g_p_sep (f := PORT_STAT.STATE p.val) (g := PORT_STAT.CHK p.val) psHold (by simp [FRef.sep])
  have hport : (s.setPst p.val psHold).port p.val = s.port p.val := rfl
  rw [show s.p (PORT_STAT.STATE p.val) psHold = s.setPst p.val psHold from rfl] at hchk
  unfold State.enterHold
  generalize s.setPst p.val psHold = u at *
  generalize s.holdDbl p.val = d
  generalize s.fns48 = x
  have hp := u.port_pm p.val (fun q => { q with holdDone := false, holdAt := some x, hold := d })
  have hregs := (u.pm_leaves p.val (fun q => { q with holdDone := false, holdAt := some x, hold := d })).1
  have hc := PortChain.pm u p.val (fun q => { q with holdDone := false, holdAt := some x, hold := d }) [PORT_STAT.off p.val]
  generalize u.pm p.val (fun q => { q with holdDone := false, holdAt := some x, hold := d }) = v at *
  exact ⟨h1.trans hc, (State.g_of_regs hregs _).trans hst, (State.g_of_regs hregs _).trans hchk, by rw [hp, hport], by rw [hp]⟩

theorem helloReceive_leaves {p : Fin 4} {f : Frame} {s : State} (hs : s.resetReq = none) (hr : s.portRuns p.val = true) (hst : s.pst p.val = psHello)
    {h : Hello} (hh : h = decHello f.payload) (huid : h.uid ≠ Config.uid.toNat) (hplane : f.planeB = decide (2 ≤ p.val))
    (hport : h.port % 2 ≠ p.val % 2) (hsec : h.sec = false) (hcfg : s.flag (PORT_CFG.SEC p.val) = false) :
    ∃ t, exec (.helloReceive p f) s = .next t ∧ t.pst p.val = psHold ∧ t.g (PORT_STAT.CHK p.val) = 0 ∧
      t.flag (PORT_NBR.VALID p.val) = true ∧ t.g (PORT_NBR.NODE_ID p.val) = h.node % 2 ^ 16 ∧
      (t.port p.val).nbr = some ⟨h.node, h.port, h.turned, h.uid⟩ ∧
      (t.port p.val).holdAt = some s.fns48 ∧ s.keepsRegs t [PORT_STAT.off p.val, PORT_NBR.off p.val] := by
  obtain ⟨hfix, hfixN, _, _, _, hfixC, hlo, hhi⟩ := port_keys p
  have hfind : s.helloFinding p.val f h = 0 :=
    (if_neg (by simp [hplane])).trans ((if_neg hport).trans (if_neg (by simp [hsec, hcfg])))
  have hchk : (if s.helloFinding p.val f h = 0 ∧ s.pst p.val = psSecure ∧ (s.kaOf p.val).stage = 4 ∧ (s.kaOf p.val).newLink then 4
      else s.helloFinding p.val f h) = 0 := by
    rw [if_neg (by rw [hst]; exact fun hc => absurd hc.2.1 (by decide)), hfind]
  have h0 : PortChain s (s.p (PORT_STAT.CHK p.val) 0) [PORT_STAT.off p.val] :=
    PortChain.p s _ _ (fixedKey_iff.1 hfix).1 (List.mem_singleton.2 rfl)
  have hst0 : (s.p (PORT_STAT.CHK p.val) 0).pst p.val = psHello :=
    (s.g_p_sep (f := PORT_STAT.CHK p.val) (g := PORT_STAT.STATE p.val) 0 (by simp [FRef.sep])).trans hst
  have hchk0 := s.g_p_fit (f := PORT_STAT.CHK p.val) (v := 0) (by simp) (by simp)
  have hrecv : helloReceive p f s = (s.p (PORT_STAT.CHK p.val) 0).helloAccept p.val h := by
    unfold helloReceive
    dsimp only
    rw [← hh, if_neg (by simp [hr, hst]), if_neg huid, hchk, if_neg (not_not_intro hfind)]
  rw [exec_helloReceive, hrecv]
  generalize s.p (PORT_STAT.CHK p.val) 0 = u at *
  obtain ⟨chg, hchg⟩ : ∃ chg, chg = (u.flag (PORT_NBR.VALID p.val) && u.g (PORT_NBR.NODE_ID p.val) != h.node) := ⟨_, rfl⟩
  obtain ⟨h1, hvalid, hnode, hnbr⟩ := u.nbrSet_leaves p h
  obtain ⟨h2, hst2, hchk2, hport2⟩ := (u.nbrSet p.val h).nbrNote_leaves p chg
  have hacc : u.helloAccept p.val h = ((u.nbrSet p.val h).nbrNote p.val chg).enterHold p.val := by
    have hst' := hst2.trans ((h1.g (by simp) hfix).trans hst0)
    have hsec' : ((u.nbrSet p.val h).nbrNote p.val chg).flag (PORT_CFG.SEC p.val) = false :=
      (h2.flag (by simp) hfixC).trans ((h1.flag (by simp) hfixC).trans ((h0.flag (by simp) hfixC).trans hcfg))
    unfold State.helloAccept
    dsimp only
    rw [← hchg]
    change (if ((u.nbrSet p.val h).nbrNote p.val chg).pst p.val = psHello ∨ ((u.nbrSet p.val h).nbrNote p.val chg).pst p.val = psLoop then _ else _) = _
    rw [if_pos (.inl hst')]
    exact if_neg (by rw [Bool.not_eq_true]; exact hsec')
  rw [hacc]
  have hchk1 := h1.g (f := PORT_STAT.CHK p.val) (by simp) hfix
  generalize u.nbrSet p.val h = v at *
  have hvalid2 := h2.flag (f := PORT_NBR.VALID p.val) (by simp) hfixN
  have hnode2 := h2.g (f := PORT_NBR.NODE_ID p.val) (by simp) hfixN
  generalize v.nbrNote p.val chg = w at *
  obtain ⟨h3, hst3, hchk3, hnbr3, hhold⟩ := w.enterHold_leaves p
  have hvalid3 := h3.flag (f := PORT_NBR.VALID p.val) (by simp) hfixN
  have hnode3 := h3.g (f := PORT_NBR.NODE_ID p.val) (by simp) hfixN
  generalize w.enterHold p.val = x at *
  have hw : PortChain s w [PORT_STAT.off p.val, PORT_NBR.off p.val] :=
    ((h0.mono (by simp)).trans (h1.mono (by simp))).trans (h2.mono (by simp))
  have hx := hw.trans (h3.mono (by simp))
  exact ⟨x, congrArg _ (State.finish_eff hx.toEff hs hx.pending), hst3, hchk3.trans (hchk2.trans (hchk1.trans hchk0)), hvalid3.trans (hvalid2.trans hvalid),
    hnode3.trans (hnode2.trans hnode), hnbr3.trans (hport2 ▸ hnbr), hhold.trans (congrArg some (hw.fns48 hlo hhi)), hx.rd⟩

/-! ### The end of the hold -/

/-- A port's record as it enters UP unturned. -/
def upPort (q : Port) : Port :=
  { q with holdDone := false, holdAt := none, freedH := 0, freedL := 0, freedSent := none, credH := 32, credL := 224, rxSet := none, nbrFreedH := 0,
           nbrFreedL := 0 }

/-- An unturned port in UP, its credit afresh. -/
def State.upSet (s : State) (p : Nat) : State := ((s.pb (PORT_STAT.TURNED p) false).setPst p psUp).pm p upPort

theorem State.enterUp_unturned {s : State} {p : Nat} (h : s.turned p = false) : s.enterUp p = (s.upSet p).raise (evPort p 3) clEvent := by
  unfold State.enterUp State.upSet
  rw [h]
  rfl

theorem State.upSet_leaves (s : State) (p : Fin 4) : PortChain s (s.upSet p.val) [PORT_STAT.off p.val] ∧ (s.upSet p.val).pst p.val = psUp ∧
    (s.upSet p.val).turned p.val = false ∧ ((s.upSet p.val).port p.val).credH = 32 ∧ ((s.upSet p.val).port p.val).credL = 224 := by
  have hk := (fixedKey_iff.1 (port_keys p).1).1
  have hmem : PORT_STAT.off p.val ∈ [PORT_STAT.off p.val] := List.mem_singleton.2 rfl
  have h1 : PortChain s (s.pb (PORT_STAT.TURNED p.val) false) [PORT_STAT.off p.val] := PortChain.p s _ _ hk hmem
  have ht1 := s.flag_pb_self (f := PORT_STAT.TURNED p.val) false (by simp) rfl
  unfold State.upSet
  generalize s.pb (PORT_STAT.TURNED p.val) false = u at *
  have h2 : PortChain s (u.setPst p.val psUp) [PORT_STAT.off p.val] := h1.trans (PortChain.p u _ _ hk hmem)
  have ht2 : (u.setPst p.val psUp).turned p.val = false :=
    (u.flag_p_sep (f := PORT_STAT.STATE p.val) (g := PORT_STAT.TURNED p.val) psUp (by simp [FRef.sep])).trans ht1
  have hst : (u.setPst p.val psUp).pst p.val = psUp := u.g_p_fit (f := PORT_STAT.STATE p.val) (show psUp < 2 ^ 3 by decide) (by simp)
  generalize u.setPst p.val psUp = v at *
  have hp := v.port_pm p.val upPort
  have hregs := (v.pm_leaves p.val upPort).1
  have hc := PortChain.pm v p.val upPort [PORT_STAT.off p.val]
  generalize v.pm p.val upPort = w at *
  exact ⟨h2.trans hc, (State.g_of_regs hregs _).trans hst, (State.flag_of_regs hregs _).trans ht2, by rw [hp, upPort], by rw [hp, upPort]⟩

theorem holdExpire_leaves {p : Fin 4} {at_ : Nat} {nb : NbrHello} {s : State} (hs : s.resetReq = none) (hst : s.pst p.val = psHold)
    (hturn : s.turned p.val = false) (hdone : (s.port p.val).holdDone = false) (hat : (s.port p.val).holdAt = some at_)
    (hnbr : (s.port p.val).nbr = some nb) (hnt : nb.turned = false)
    (hdue : ((min (s.holdMs p.val * 2 ^ (s.port p.val).hold) (max 10240 (s.holdMs p.val)) * 1000000 : Nat) : Int) ≤ sgn48 s.fns48 at_) :
    ∃ t, exec (.holdExpire p) s = .next t ∧ t.pst p.val = psUp ∧ t.turned p.val = false ∧ (t.port p.val).credH = 32 ∧
      (t.port p.val).credL = 224 ∧ t.evPend (evPort p.val 3) = true ∧ s.keepsRegs t [PORT_STAT.off p.val] := by
  have hnow : s.holdNow p.val = min (s.holdMs p.val * 2 ^ (s.port p.val).hold) (max 10240 (s.holdMs p.val)) := rfl
  rw [← hnow, Int.natCast_mul] at hdue
  have hx : holdExpire p s = (s.pm p.val (fun q => { q with holdDone := true })).enterUp p.val := by
    have hturn' : (s.pm p.val (fun q => { q with holdDone := true })).turned p.val = false := hturn
    unfold holdExpire
    simp only [hat, hnbr, hst, hdone, hturn', hnt, Option.getD_some]
    exact (if_neg (by simpa using hdue)).trans ((if_pos rfl).trans (if_neg Bool.false_ne_true))
  have h1 := PortChain.pm s p.val (fun q => { q with holdDone := true }) [PORT_STAT.off p.val]
  have hturn1 : (s.pm p.val (fun q => { q with holdDone := true })).turned p.val = false := hturn
  rw [exec_holdExpire, hx]
  generalize s.pm p.val (fun q => { q with holdDone := true }) = u at *
  rw [State.enterUp_unturned hturn1]
  obtain ⟨h2, hst2, hturn2, hh, hl⟩ := u.upSet_leaves p
  generalize u.upSet p.val = v at *
  have hev : evPort p.val 3 < 512 := by
    have := p.isLt
    simp only [evPort]
    omega
  have hfix := (port_keys p).1
  have h3 := PortChain.raise v (ev := evPort p.val 3) (cls := clEvent) hev (by decide) [PORT_STAT.off p.val]
  have hport := State.port_of_bare (v.raise_raised clEvent hev).bare p.val
  have hpend := State.raise_pend v clEvent hev
  have hst3 := State.raise_g v clEvent (f := PORT_STAT.STATE p.val) hev hfix
  have hturn3 := State.raise_flag v clEvent (f := PORT_STAT.TURNED p.val) hev hfix
  generalize v.raise (evPort p.val 3) clEvent = w at *
  have hc := (h1.trans h2).trans h3
  exact ⟨w, congrArg _ (State.finish_eff hc.toEff hs hc.pending), hst3.trans hst2, hturn3.trans hturn2, by rw [hport, hh], by rw [hport, hl], hpend, hc.rd⟩

/-- Settles O25. -/
theorem linkComesUp : Obligations.LinkComesUp :=
  ⟨fun _ _ hs hr hdown hsig => signalDetect_leaves hs hr hdown hsig, fun _ _ hs hr htrain => pcsLockAcquire_leaves hs hr htrain,
    fun _ _ hs hr hst => helloSend_leaves hs hr hst,
    fun _ _ _ hs hr hst huid hplane hport hsec hcfg => helloReceive_leaves hs hr hst rfl huid hplane hport hsec hcfg,
    fun _ _ _ _ hs hst hturn hdone hat hnbr hnt hdue => holdExpire_leaves hs hst hturn hdone hat hnbr hnt hdue⟩

end Sys2Proof.Machine
end

section
/-! What an operation on points, and the relay's turn at a cycle boundary, leave beside points and pins: the cycle record, the units, the flows, the
Jets and the feeds (R67, R82 to R85, R314, R445). -/

namespace Sys2Proof.Machine

/- One evaluation after another: each of them, left to itself, would hold a thread. -/
set_option Elab.async false

/-! ### Chains beside the cycle record -/

/-- A chain that writes the registers listed and raises events below GRAVE, and leaves the stores beside points, pins and the relay. -/
structure Beside (s t : State) (l : List Nat) : Prop extends Eff s t l where
  cyc : t.cyc = s.cyc
  fh : t.fh = s.fh
  flow : t.flow = s.flow
  jets : t.jets = s.jets
  feeds : t.feeds = s.feeds
  clep : t.clep = s.clep
  pending : t.pending = s.pending

/-- An injected error leaves the stores beside Sump's that the error itself leaves. -/
theorem State.asInjected_keeps {α : Type} (g : State → α) (hg : ∀ (u : State) (x : Sump), g { u with sump := x } = g u) {s : State}
    {f : State → State} (h : ∀ u, g (f u) = g u) : g (s.asInjected f) = g s := (hg _ _).trans ((h _).trans (hg _ _))

theorem Eff.asInjected {s : State} {f : State → State} {l : List Nat} (h : ∀ u, Eff u (f u) l) : Eff s (s.asInjected f) l := by
  have hf := h { s with sump := { s.sump with injected := true } }
  unfold State.asInjected
  generalize f { s with sump := { s.sump with injected := true } } = t at *
  obtain ⟨hrd, hpend, hkept, hreset⟩ := hf
  exact ⟨hrd, hpend, hkept, hreset⟩

namespace Beside

theorem refl (s : State) (l : List Nat) : Beside s s l := ⟨Eff.refl s l, rfl, rfl, rfl, rfl, rfl, rfl, rfl⟩

theorem trans {s t u : State} {l : List Nat} (a : Beside s t l) (b : Beside t u l) : Beside s u l :=
  ⟨a.toEff.trans b.toEff, b.cyc.trans a.cyc, b.fh.trans a.fh, b.flow.trans a.flow, b.jets.trans a.jets, b.feeds.trans a.feeds, b.clep.trans a.clep,
    b.pending.trans a.pending⟩

theorem mono {s t : State} {l l' : List Nat} (a : Beside s t l) (h : ∀ k ∈ l, k ∈ l') : Beside s t l' :=
  ⟨a.toEff.mono h, a.cyc, a.fh, a.flow, a.jets, a.feeds, a.clep, a.pending⟩

theorem of_bare {s t : State} {l : List Nat} (he : Eff s t l) (hb : t.bare = s.bare) : Beside s t l := by
  obtain ⟨hpend, _, _, _, _, _, hclep, _, _, _, hjets, _, _, _, hfh, hcyc, hflow, _, _, hfeeds, _⟩ := State.sameStores_of_bare hb
  exact ⟨he, hcyc, hfh, hflow, hjets, hfeeds, hclep, hpend⟩

/-- An operation on the other stores. -/
theorem of_regs {s t : State} (l : List Nat) (he : Eff s t l := by exact Eff.of_regs _) (hc : t.cyc = s.cyc := by rfl) (hf : t.fh = s.fh := by rfl)
    (hw : t.flow = s.flow := by rfl) (hj : t.jets = s.jets := by rfl) (hfd : t.feeds = s.feeds := by rfl) (ht : t.clep = s.clep := by rfl)
    (hp : t.pending = s.pending := by rfl) : Beside s t l := ⟨he, hc, hf, hw, hj, hfd, ht, hp⟩

theorem p (s : State) (f : FRef) (v : Nat) {l : List Nat} (hk : isPendKey f.off = false) (hl : f.off ∈ l) : Beside s (s.p f v) l :=
  of_bare (Eff.p s f v hk hl) (Quiet.p s f v).bare

theorem raise (s : State) {ev cls : Nat} (hev : ev < 512) (hc : cls < 4) (l : List Nat) : Beside s (s.raise ev cls) l :=
  of_bare (Eff.raise s hev hc l) (s.raise_raised cls hev).bare

theorem countAny (s : State) {off : Nat} {l : List Nat} (h : off < 2 ^ 22) (hk : isPendKey off = false) (hs : isPendKey (satKey off) = false)
    (hl : off ∈ l) (hsl : satKey off ∈ l) : Beside s (s.count off) l := of_bare (Eff.countAny s h hk hs hl hsl) (s.count_bare h)

theorem ite {c : Prop} [Decidable c] {s t u : State} {l : List Nat} (ht : Beside s t l) (hu : Beside s u l) : Beside s (if c then t else u) l := by
  split
  · exact ht
  · exact hu

theorem foldl {α : Type} {f : State → α → State} {l : List Nat} : ∀ {es : List α} {s : State},
    (∀ t, ∀ e ∈ es, Beside t (f t e) l) → Beside s (es.foldl f s) l
  | [], s, _ => refl s l
  | e :: _, s, h => (h s e List.mem_cons_self).trans (foldl (fun t x hx => h t x (List.mem_cons_of_mem e hx)))

/-! ### Points -/

/-- The registers that an operation on points may change, with the record of the last failed tile. -/
abbrev tileRegs : List Nat := PNT_TILE_LAST.off :: pointRegs

theorem pointCount (s : State) {k : Nat} (hk : k ∈ pointCounters) : Beside s (s.count k) tileRegs := by
  obtain ⟨hlt, hpend, hsat, hl, hsl⟩ := pointCounters_keys k hk
  exact countAny s hlt hpend hsat (List.mem_cons_of_mem _ hl) (List.mem_cons_of_mem _ hsl)

theorem setD (s : State) {n : Nat} (hn : n < 256) (b : Bool) : Beside s (s.setD n b) tileRegs := by
  have he := (PtSame.setD s hn b).eff.mono (l' := tileRegs) fun x hx => List.mem_cons_of_mem _ hx
  obtain ⟨x, hx⟩ : ∃ x, (s.setD n b) = { s.wr (FIO_LEVEL.off (n / 16)) x with pins := (s.setD n b).pins } := by
    unfold State.setD
    dsimp only
    generalize BitVec.ofNat 32 _ = w
    refine ⟨w, ?_⟩
    split
    · rfl
    · rfl
  generalize s.setD n b = t at *
  generalize t.pins = q at hx
  subst hx
  exact ⟨he, rfl, rfl, rfl, rfl, rfl, rfl, rfl⟩

theorem pfTile (s : State) (k : Nat) : Beside s (s.pfTile k) tileRegs :=
  ite (ite ((of_regs tileRegs).trans (pointCount _ (k := BRG_PF_DROP.off) (by decide))) (refl s _)) (refl s _)

theorem putRec (s : State) (i : Nat) (r : PRec) : Beside s (s.putRec i r) tileRegs := by
  rw [s.putRec_eq, State.placed]
  generalize s.hdrAfter i r = w
  have hset : Beside s (s.setRecs (SMap.set PRec.dflt s.pts.recs i r)) tileRegs := of_regs _
  generalize s.setRecs (SMap.set PRec.dflt s.pts.recs i r) = u at *
  have hpf := hset.trans (pfTile u (i / 16))
  generalize u.pfTile (i / 16) = v at *
  have hhdr : Beside v (v.setHdr (i / 16) w) tileRegs := of_regs _
  generalize v.setHdr (i / 16) w = x at *
  exact ite hpf ((hpf.trans hhdr).trans (foldl fun t e he => setD t (x.boundPins_lt i e he) _))

theorem markQual (s : State) (i q : Nat) : Beside s (s.markQual i q) tileRegs := ite (refl s _) (putRec s _ _)

theorem tileNoted (s : State) (k : Nat) : Beside s (s.tileNoted k) tileRegs := by
  have hp : Beside s ((s.p PNT_TILE_LAST.VALID 1).p PNT_TILE_LAST.TILE k) tileRegs :=
    (p s PNT_TILE_LAST.VALID 1 (by decide) List.mem_cons_self).trans (p _ PNT_TILE_LAST.TILE k (by decide) List.mem_cons_self)
  unfold State.tileNoted
  dsimp only
  generalize (s.p PNT_TILE_LAST.VALID 1).p PNT_TILE_LAST.TILE k = u at *
  have hu := hp.trans (pointCount u (k := PNT_TILE_CNT.off) (by decide))
  generalize u.count PNT_TILE_CNT.off = v at *
  have hrep : Beside v (v.pb PNT_STAT.REPEAT true) tileRegs := p v _ _ (by decide) (by decide)
  exact ite ((hu.trans hrep).trans (raise _ (ev := evPnt 3) (cls := clDegraded) (by decide) (by decide) _))
    (hu.trans (raise _ (ev := evPnt 2) (cls := clNote) (by decide) (by decide) _))

theorem markTile (s : State) (j : Nat) : Beside s (s.markTile j) tileRegs := by
  unfold State.markTile
  exact ite (putRec s _ _) (markQual s _ _)

theorem setHdr (s : State) (k : Nat) (w : Word) : Beside s (s.setHdr k w) tileRegs := of_regs _

theorem tileFail (s : State) (k : Nat) : Beside s (s.tileFail k) tileRegs := by
  have hmarked : Beside s ((List.range 16).foldl (fun s i => s.markTile (16 * k + i)) s) tileRegs := foldl fun u i _ => markTile u (16 * k + i)
  exact s.tileFail_eq k ▸ (hmarked.trans (setHdr _ k _)).trans (tileNoted _ k)

theorem asIf {f : State → State} {l : List Nat} (h : ∀ u, Beside u (f u) l) (s : State) (b : Bool) : Beside s (s.asIf b f) l := by
  cases b
  · exact h s
  · exact ⟨Eff.asInjected fun u => (h u).toEff, State.asInjected_keeps State.cyc (fun _ _ => rfl) fun u => (h u).cyc,
      State.asInjected_keeps State.fh (fun _ _ => rfl) fun u => (h u).fh, State.asInjected_keeps State.flow (fun _ _ => rfl) fun u => (h u).flow,
      State.asInjected_keeps State.jets (fun _ _ => rfl) fun u => (h u).jets, State.asInjected_keeps State.feeds (fun _ _ => rfl) fun u => (h u).feeds,
      State.asInjected_keeps State.clep (fun _ _ => rfl) fun u => (h u).clep, State.asInjected_keeps State.pending (fun _ _ => rfl) fun u => (h u).pending⟩

theorem injMet {s t : State} {x : Inject} {l : List Nat} (h : Beside (s.injMet x) t l) : Beside s t l := by
  obtain ⟨⟨hrd, hpend, hkept, hreset⟩, hcyc, hfh, hflow, hjets, hfeeds, hclep, hpe⟩ := h
  exact ⟨⟨hrd, hpend, hkept, hreset⟩, hcyc, hfh, hflow, hjets, hfeeds, hclep, hpe⟩

theorem touchTile (s : State) (k : Nat) : Beside s (s.touchTile k) tileRegs := by
  have hverified : Beside s (s.verifyTile k false false) tileRegs := ite (injMet (asIf (fun u => tileFail u k) _ _)) (refl s _)
  have hin : Beside s (if s.pts.cache.contains k then s else s.verifyTile k false false) tileRegs := ite (refl s _) hverified
  unfold State.touchTile
  generalize (if s.pts.cache.contains k then s else s.verifyTile k false false) = u at *
  exact hin.trans (of_regs _)

theorem setQual (s : State) (i q : Nat) : Beside s (s.setQual i q) tileRegs := ite (refl s _) ((touchTile s _).trans (markQual _ _ _))

theorem refreshPt (s : State) (i : Nat) : Beside s (s.refreshPt i) tileRegs := of_regs _

theorem ownerWrite (s : State) (i v stamp q : Nat) : Beside s (s.ownerWrite i v stamp q) tileRegs :=
  ite (refl s _) (ite ((p s _ _ (by decide) (by decide)).trans (pointCount _ (by decide)))
    (((touchTile s _).trans (putRec _ _ _)).trans (refreshPt _ _)))

theorem bindWrite (s : State) (n stamp : Nat) : Beside s (s.bindWrite n stamp) tileRegs := ite (ownerWrite s _ _ _ _) (ownerWrite s _ _ _ _)

theorem pinConfirm (s : State) (n : Nat) : Beside s (s.pinConfirm n) tileRegs :=
  ite (bindWrite s _ _) (ite (refl s _) ((setQual s _ _).trans (refreshPt _ _)))

/-! ### The relay -/

theorem setPeer (s : State) (p : Nat) (v : RunPeer) : Beside s (s.setPeer p v) [] := of_regs _

theorem runnelSend (s : State) (p kind code id idx : Nat) (body : List Byte) : Beside s (s.runnelSend p kind code id idx body) [] := by
  unfold State.runnelSend
  generalize relayHead kind code id idx (s.g UPD_PROG.HAVE) ++ body = pl
  exact of_regs _

theorem runnelOffer (s : State) (p : Nat) : Beside s (s.runnelOffer p) [] := by
  unfold State.runnelOffer
  split
  · exact ite ((setPeer s _ _).trans (runnelSend _ _ _ _ _ _ _)) (refl s _)
  · exact refl s _

theorem sendChunks (p : Nat) : ∀ (n : Nat) (s : State), Beside s (s.sendChunks p n) []
  | 0, s => refl s _
  | n + 1, s => by
    unfold State.sendChunks
    split
    · exact ((setPeer s _ _).trans (runnelSend _ _ _ _ _ _ _)).trans (sendChunks p n _)
    · exact refl s _

theorem runnelPump (s : State) (p : Nat) : Beside s (s.runnelPump p) [] := ite (sendChunks p _ s) (refl s _)

theorem runnelCycle (s : State) : Beside s s.runnelCycle [] := by
  unfold State.runnelCycle
  refine foldl fun u p _ => ite (setPeer u _ _) (ite (refl u _) ?_)
  have h := (setPeer u p { u.peer p with inCycle := 0 }).trans (runnelOffer _ p)
  dsimp only
  generalize (u.setPeer p { u.peer p with inCycle := 0 }).runnelOffer p = v at *
  exact (h.trans (ite (runnelSend v _ _ _ _ _ _) (refl v _))).trans (runnelPump _ p)

end Beside

end Sys2Proof.Machine
end

section
/-! A cycle begins (R131, R149 to R151, R305), and the SYNC frames of its master (R269). -/

namespace Sys2Proof.Machine

/- One evaluation after another: each of them, left to itself, would hold a thread. -/
set_option Elab.async false

/-! ### The registers of the cycle machinery -/

/-- The registers that a change of master or role writes. -/
def roleRegs : List Nat := [RING_ROLE.off, RING_MASTER_CHG.off, RING_SAT.off, RING_STAT.off, DEV_NODE.off]

theorem role_sat : satKey RING_MASTER_CHG.off = RING_SAT.off := by decide +kernel

/-- A chain of the cycle machinery: the registers listed and the cycle record change. -/
structure CyStep (s t : State) (l : List Nat) : Prop extends Eff s t l where
  bare : t.bare = { s.bare with cyc := t.cyc }

namespace CyStep

theorem refl (s : State) (l : List Nat) : CyStep s s l := ⟨Eff.refl s l, rfl⟩

theorem trans {s t u : State} {l : List Nat} (a : CyStep s t l) (b : CyStep t u l) : CyStep s u l :=
  ⟨a.toEff.trans b.toEff, by rw [b.bare, a.bare]⟩

theorem mono {s t : State} {l l' : List Nat} (a : CyStep s t l) (h : ∀ k ∈ l, k ∈ l') : CyStep s t l' := ⟨a.toEff.mono h, a.bare⟩

theorem of_bare {s t : State} {l : List Nat} (he : Eff s t l) (hb : t.bare = s.bare) (hc : t.cyc = s.cyc) : CyStep s t l := ⟨he, by rw [hb, hc]; rfl⟩

theorem cy (s : State) (f : Cycle → Cycle) (l : List Nat) : CyStep s (s.cy f) l := ⟨Eff.of_regs l, rfl⟩

theorem p (s : State) (f : FRef) (v : Nat) {l : List Nat} (hk : isPendKey f.off = false) (hl : f.off ∈ l) : CyStep s (s.p f v) l :=
  of_bare (Eff.p s f v hk hl) (Quiet.p s f v).bare (s.p_cyc f v)

theorem cyc_of_bare {s t : State} (h : t.bare = s.bare) : t.cyc = s.cyc := by
  obtain ⟨_, _, _, _, _, _, _, _, _, _, _, _, _, _, _, hcyc, _⟩ := State.sameStores_of_bare h
  exact hcyc

theorem raise (s : State) {ev cls : Nat} (hev : ev < 512) (hc : cls < 4) (l : List Nat) : CyStep s (s.raise ev cls) l :=
  of_bare (Eff.raise s hev hc l) (s.raise_raised cls hev).bare (cyc_of_bare (s.raise_raised cls hev).bare)

theorem setRole (s : State) {l : List Nat} (hl : RING_STAT.off ∈ l) (hn : DEV_NODE.off ∈ l) : CyStep s s.setRole l := by
  unfold State.setRole
  exact ((p s _ _ (by decide) hl).trans (p _ _ _ (by decide) hn)).trans (p _ _ _ (by decide) hn)

end CyStep

/-! ### The stages of a cycle's start -/

/-- The cycle record of a cycle that begins. -/
def openCyc (n : Nat) (b : Int) (c : Cycle) : Cycle :=
  { c with num := n, began := b, closed := false, synced := false, accMin := none, taken := [], gotE := [], gotW := [], frames := 0, got0 := false,
           errDone := false, returned := [], launchAt := none }

/-- A stop, or a master of lower number, ends the launching. -/
def State.stopLaunch (s : State) : State :=
  if s.cyc.beaten ∨ s.cyc.stopNext then s.cy (fun c => { c with launching := false, cand := c.cand && !c.beaten, beaten := false, stopNext := false }) else s

/-- The node becomes the launching master. -/
def State.becomeMaster (s : State) (fl : Nat) : State :=
  (s.cy (fun c => { c with hdrBackup := noNode, hdrFlags := fl, launching := true, cand := false })).setMaster s.node

/-- A hand-off or take-over that names this node is carried out. -/
def State.takeSpecial (s : State) : State :=
  match s.cyc.special with
  | some fl =>
    let s := s.cy (fun c => { c with special := none })
    if s.ringEn then s.becomeMaster fl else s
  | none => s

/-- The alarms of a cycle may be sent again. -/
def State.alarmsAgain (s : State) : State := { s with sump := { s.sump with alarmSent := 0 } }

/-- The bindings in force are confirmed (R314). -/
def State.confirmPins (s : State) : State := s.boundIns.foldl (fun s k => s.pinConfirm k) s

theorem State.cycleBegin_stages (s : State) (n : Nat) : s.cycleBegin n =
    ((s.p RING_CYCLE.CYCLE n).cy (openCyc n (s.p RING_CYCLE.CYCLE n).cycleBegan)).stopLaunch.takeSpecial.setRole.zoneBoundary.alarmsAgain.confirmPins := by
  unfold State.cycleBegin
  extract_lets s1 s2 s3 s4 s5 s6 s7 x s8
  have h2 : s2 = s1.cy (openCyc n s1.cycleBegan) := rfl
  clear_value s2
  have h3 : s3 = s2.stopLaunch := rfl
  clear_value s3
  have h5 : s5 = s3.takeSpecial := rfl
  clear_value s5
  have h6 : s6 = s5.setRole := rfl
  clear_value s6
  have h7 : s7 = s6.zoneBoundary := rfl
  have hx : x = s7.sump := rfl
  clear_value x s7
  have h8 : s8 = s7.alarmsAgain := by simp only [s8, hx, State.alarmsAgain]
  clear_value s8
  rw [h8, h7, h6, h5, h3, h2]
  rfl

/-- A cycle record in which the cycle `n` has begun at `b` with its sets empty. -/
structure Opened (c : Cycle) (n : Nat) (b : Int) : Prop where
  num : c.num = n
  began : c.began = b
  closed : c.closed = false
  got0 : c.got0 = false
  accMin : c.accMin = none
  taken : c.taken = []
  gotE : c.gotE = []
  gotW : c.gotW = []
  launchAt : c.launchAt = none
  synced : c.synced = false

theorem openCyc_opened (n : Nat) (b : Int) (c : Cycle) : Opened (openCyc n b c) n b := ⟨rfl, rfl, rfl, rfl, rfl, rfl, rfl, rfl, rfl, rfl⟩

theorem State.stopLaunch_leaves (s : State) : CyStep s s.stopLaunch [] ∧ (∀ n b, Opened s.cyc n b → Opened s.stopLaunch.cyc n b) ∧
    s.stopLaunch.cyc.special = s.cyc.special := by
  unfold State.stopLaunch
  split
  · exact ⟨CyStep.cy s _ _, fun n b h => ⟨h.num, h.began, h.closed, h.got0, h.accMin, h.taken, h.gotE, h.gotW, h.launchAt, h.synced⟩, rfl⟩
  · exact ⟨CyStep.refl s _, fun _ _ h => h, rfl⟩

/-! ### Master and role -/

theorem State.setRole_leaves (s : State) : CyStep s s.setRole roleRegs ∧ s.setRole.cyc = s.cyc ∧ s.setRole.g RING_STAT.ROLE = s.roleNow % 8 ∧
    s.setRole.flag DEV_NODE.MASTER = (s.roleNow == roMaster) ∧ s.setRole.node = s.node ∧ s.setRole.curM = s.curM := by
  have hrole := s.g_p_self (f := RING_STAT.ROLE) s.roleNow (by decide)
  have hnode := s.g_p_sep (f := RING_STAT.ROLE) (g := DEV_NODE.NODE_ID) s.roleNow (by decide)
  have hcur := s.g_p_sep (f := RING_STAT.ROLE) (g := RING_ROLE.MASTER) s.roleNow (by decide)
  refine ⟨CyStep.setRole s (by decide) (by decide), by simp only [State.setRole, State.pb_cyc, State.p_cyc], ?_⟩
  unfold State.setRole
  dsimp only
  generalize s.roleNow = r at *
  generalize s.p RING_STAT.ROLE r = u at *
  have hrole1 := u.g_pb_sep (f := DEV_NODE.MASTER) (g := RING_STAT.ROLE) (r == roMaster) (by decide)
  have hnode1 := u.g_pb_sep (f := DEV_NODE.MASTER) (g := DEV_NODE.NODE_ID) (r == roMaster) (by decide)
  have hcur1 := u.g_pb_sep (f := DEV_NODE.MASTER) (g := RING_ROLE.MASTER) (r == roMaster) (by decide)
  have hm := u.flag_pb_self (f := DEV_NODE.MASTER) (r == roMaster) (by decide) rfl
  generalize u.pb DEV_NODE.MASTER (r == roMaster) = v at *
  exact ⟨(v.g_pb_sep (f := DEV_NODE.BACKUP) _ (by decide)).trans (hrole1.trans hrole), (v.flag_pb_sep (f := DEV_NODE.BACKUP) _ (by decide)).trans hm,
    (v.g_pb_sep (f := DEV_NODE.BACKUP) _ (by decide)).trans (hnode1.trans hnode),
    (v.g_pb_sep (f := DEV_NODE.BACKUP) _ (by decide)).trans (hcur1.trans hcur)⟩

/-- The roles' registers but for the role itself: what the change of a master writes before the role follows it. -/
theorem State.setMaster_leaves (s : State) {m : Nat} (hm : m < 65536) : CyStep s (s.setMaster m) roleRegs ∧ (s.setMaster m).cyc = s.cyc ∧
    (s.setMaster m).curM = m ∧ (s.setMaster m).node = s.node := by
  unfold State.setMaster
  split
  · next h => exact ⟨CyStep.refl s _, rfl, h.symm, rfl⟩
  · have hcur := s.g_p_fit (f := RING_ROLE.MASTER) hm (by decide)
    have hnode := s.g_p_sep (f := RING_ROLE.MASTER) (g := DEV_NODE.NODE_ID) m (by decide)
    have h1 : CyStep s (s.p RING_ROLE.MASTER m) roleRegs := CyStep.p s _ _ (by decide) (by decide)
    have hcyc := s.p_cyc RING_ROLE.MASTER m
    generalize s.p RING_ROLE.MASTER m = u at *
    have hcnt : Eff u (u.count RING_MASTER_CHG.off) [RING_MASTER_CHG.off, RING_SAT.off] :=
      Eff.countAny u (by decide) (by decide) (by rw [role_sat]; decide) (by decide) (by rw [role_sat]; decide)
    have hb := u.count_bare (off := RING_MASTER_CHG.off) (by decide)
    have hcyc2 : (u.count RING_MASTER_CHG.off).cyc = u.cyc := CyStep.cyc_of_bare hb
    have h2 : CyStep u (u.count RING_MASTER_CHG.off) roleRegs := CyStep.of_bare (hcnt.mono (by decide)) hb hcyc2
    have hcur2 := hcnt.g (f := RING_ROLE.MASTER) (by decide) (by decide)
    have hnode2 := hcnt.g (f := DEV_NODE.NODE_ID) (by decide) (by decide)
    generalize u.count RING_MASTER_CHG.off = v at *
    have h3 := CyStep.raise v (ev := evRing 2) (cls := clNote) (by decide) (by decide) roleRegs
    have hcyc3 := CyStep.cyc_of_bare (v.raise_raised (ev := evRing 2) clNote (by decide)).bare
    have hcur3 := State.raise_g v (ev := evRing 2) clNote (f := RING_ROLE.MASTER) (by decide) (by decide)
    have hnode3 := State.raise_g v (ev := evRing 2) clNote (f := DEV_NODE.NODE_ID) (by decide) (by decide)
    generalize v.raise (evRing 2) clNote = w at *
    obtain ⟨h4, hcyc4, _, _, hnode4, hcur4⟩ := w.setRole_leaves
    exact ⟨((h1.trans h2).trans h3).trans h4, hcyc4.trans (hcyc3.trans (hcyc2.trans hcyc)), hcur4.trans (hcur3.trans (hcur2.trans hcur)),
      hnode4.trans (hnode3.trans (hnode2.trans hnode))⟩

theorem State.node_lt (s : State) : s.node < 65536 := FRef.get_lt _ _

theorem State.becomeMaster_leaves (s : State) (fl : Nat) : CyStep s (s.becomeMaster fl) roleRegs ∧
    (s.becomeMaster fl).cyc = { s.cyc with hdrBackup := noNode, hdrFlags := fl, launching := true, cand := false } ∧
    (s.becomeMaster fl).curM = s.node ∧ (s.becomeMaster fl).node = s.node := by
  have h1 := CyStep.cy s (fun c => { c with hdrBackup := noNode, hdrFlags := fl, launching := true, cand := false }) roleRegs
  have hcyc : (s.cy (fun c => { c with hdrBackup := noNode, hdrFlags := fl, launching := true, cand := false })).cyc =
      { s.cyc with hdrBackup := noNode, hdrFlags := fl, launching := true, cand := false } := rfl
  have hnode : (s.cy (fun c => { c with hdrBackup := noNode, hdrFlags := fl, launching := true, cand := false })).node = s.node := rfl
  unfold State.becomeMaster
  generalize s.cy (fun c => { c with hdrBackup := noNode, hdrFlags := fl, launching := true, cand := false }) = u at *
  obtain ⟨h2, hcyc2, hcur, hnode2⟩ := u.setMaster_leaves s.node_lt
  exact ⟨h1.trans h2, hcyc2.trans hcyc, hcur, hnode2.trans hnode⟩

/-- No hand-off or take-over stands any more. -/
def State.noSpecial (s : State) : State := s.cy (fun c => { c with special := none })

theorem State.takeSpecial_some {s : State} {fl : Nat} (h : s.cyc.special = some fl) :
    s.takeSpecial = if s.ringEn then s.noSpecial.becomeMaster fl else s.noSpecial := by
  unfold State.takeSpecial
  rw [h]
  rfl

theorem State.takeSpecial_none {s : State} (h : s.cyc.special = none) : s.takeSpecial = s := by
  unfold State.takeSpecial
  rw [h]

theorem State.noSpecial_leaves (s : State) : CyStep s s.noSpecial roleRegs ∧ s.noSpecial.cyc = { s.cyc with special := none } ∧
    s.noSpecial.node = s.node := ⟨CyStep.cy s _ _, rfl, rfl⟩

theorem State.takeSpecial_leaves (s : State) : CyStep s s.takeSpecial roleRegs ∧ (∀ n b, Opened s.cyc n b → Opened s.takeSpecial.cyc n b) := by
  cases h : s.cyc.special with
  | none =>
    rw [State.takeSpecial_none h]
    exact ⟨CyStep.refl s _, fun _ _ h => h⟩
  | some fl =>
    rw [State.takeSpecial_some h]
    obtain ⟨h1, hcyc, _⟩ := s.noSpecial_leaves
    generalize s.noSpecial = u at *
    split
    · obtain ⟨h2, hcyc2, _⟩ := u.becomeMaster_leaves fl
      refine ⟨h1.trans h2, fun n b ho => ?_⟩
      rw [hcyc2, hcyc]
      exact ⟨ho.num, ho.began, ho.closed, ho.got0, ho.accMin, ho.taken, ho.gotE, ho.gotW, ho.launchAt, ho.synced⟩
    · refine ⟨h1, fun n b ho => ?_⟩
      rw [hcyc]
      exact ⟨ho.num, ho.began, ho.closed, ho.got0, ho.accMin, ho.taken, ho.gotE, ho.gotW, ho.launchAt, ho.synced⟩

/-! ### Zone programs -/

/-- The status registers of the zone programs. -/
def zoneRegs : List Nat := (List.range 16).map FH_ZP_STAT.off

theorem zone_keys : ∀ k ∈ zoneRegs, isPendKey k = false := by decide

/-- OVR and RUNOVR of a program at the boundary. -/
def State.zoneShown (s : State) (n : Nat) : State :=
  let ovr := s.fh.zoneOver.contains n
  let s := s.pb (FH_ZP_STAT.OVR n) ovr
  if ovr then s else s.p (FH_ZP_STAT.RUNOVR n) 0

theorem State.zoneShown_beside (s : State) {n : Nat} (hn : n < 16) : Beside s (s.zoneShown n) zoneRegs := by
  have hmem : FH_ZP_STAT.off n ∈ zoneRegs := List.mem_map_of_mem (List.mem_range.2 hn)
  unfold State.zoneShown
  dsimp only
  generalize s.fh.zoneOver.contains n = b
  have h1 : Beside s (s.pb (FH_ZP_STAT.OVR n) b) zoneRegs := Beside.p s _ _ (zone_keys _ hmem) hmem
  generalize s.pb (FH_ZP_STAT.OVR n) b = u at *
  exact Beside.ite h1 (h1.trans (Beside.p u _ _ (zone_keys _ hmem) hmem))

/-- The zone programs' times returned. -/
def State.zoneReset (s : State) : State := { s with fh := { s.fh with zoneAcc := [], zoneAt := s.cyc.began, zoneOver := [] } }

theorem State.zoneBoundary_eq (s : State) : s.zoneBoundary = ((List.range 16).foldl (fun s n => s.zoneShown n) s).zoneReset := by
  unfold State.zoneBoundary
  extract_lets s1 x
  have h1 : s1 = (List.range 16).foldl (fun s n => s.zoneShown n) s := rfl
  have hx : x = s1.fh := rfl
  clear_value x s1
  rw [← h1, hx, State.zoneReset]

theorem State.zoneReset_leaves (s : State) : s.zoneReset.fh = { s.fh with zoneAcc := [], zoneAt := s.cyc.began, zoneOver := [] } ∧
    s.zoneReset.cyc = s.cyc ∧ s.zoneReset.flow = s.flow ∧ s.zoneReset.jets = s.jets ∧ s.zoneReset.feeds = s.feeds ∧
    s.zoneReset.pending = s.pending ∧ ∀ l, Eff s s.zoneReset l := ⟨rfl, rfl, rfl, rfl, rfl, rfl, fun _ => Eff.of_regs _⟩

theorem State.zoneBoundary_leaves (s : State) : s.zoneBoundary.fh = { s.fh with zoneAcc := [], zoneAt := s.cyc.began, zoneOver := [] } ∧
    s.zoneBoundary.cyc = s.cyc ∧ s.zoneBoundary.flow = s.flow ∧ s.zoneBoundary.jets = s.jets ∧ s.zoneBoundary.feeds = s.feeds ∧
    s.zoneBoundary.pending = s.pending ∧ Eff s s.zoneBoundary zoneRegs := by
  have h : Beside s ((List.range 16).foldl (fun s n => s.zoneShown n) s) zoneRegs :=
    Beside.foldl fun u n hn => u.zoneShown_beside (List.mem_range.1 hn)
  rw [s.zoneBoundary_eq]
  generalize (List.range 16).foldl (fun s n => s.zoneShown n) s = u at *
  obtain ⟨hfh, hcyc, hflow, hjets, hfeeds, hpend, he⟩ := u.zoneReset_leaves
  exact ⟨by rw [hfh, h.fh, h.cyc], hcyc.trans h.cyc, hflow.trans h.flow, hjets.trans h.jets, hfeeds.trans h.feeds, hpend.trans h.pending,
    h.toEff.trans (he _)⟩

theorem State.alarmsAgain_beside (s : State) (l : List Nat) : Beside s s.alarmsAgain l :=
  ⟨⟨fun _ _ _ _ => rfl, fun _ _ h => h, fun _ _ _ => Nat.le_refl _, rfl⟩, rfl, rfl, rfl, rfl, rfl, rfl, rfl⟩

theorem State.confirmPins_beside (s : State) : Beside s s.confirmPins Beside.tileRegs := Beside.foldl fun u n _ => Beside.pinConfirm u n

end Sys2Proof.Machine
end

section
/-! CYCLE_START and SYNC_WINDOW_OPEN (R131, R149 to R151, R269, R305): the stages put together. -/

namespace Sys2Proof.Machine

/- One evaluation after another: each of them, left to itself, would hold a thread. -/
set_option Elab.async false

/-! ### CYCLE_START -/

theorem exec_cycleStart (s : State) : exec .cycleStart s =
    .next (s.finish (if (cycleStart s).cyc.num = s.cyc.num then cycleStart s else (cycleStart s).runnelCycle)) := by rfl

theorem cycleApplyAt_early {s : State} (h : ∀ a, s.cyc.pend = some a → s.past a.at_ = false) : cycleApplyAt s = s := by
  unfold cycleApplyAt
  split
  · next a ha => rw [if_neg (by rw [h a ha]; exact Bool.false_ne_true)]
  · rfl

/-- The registers that the start of a cycle writes. -/
def boundaryRegs : List Nat := RING_CYCLE.off :: (roleRegs ++ zoneRegs ++ Beside.tileRegs)

theorem boundary_keys : RING_CYCLE.off ∉ roleRegs ∧ RING_CYCLE.off ∉ zoneRegs ∧ RING_CYCLE.off ∉ Beside.tileRegs ∧ fixedKey RING_CYCLE.off = true ∧
    RING_STAT.off ∉ zoneRegs ∧ RING_STAT.off ∉ Beside.tileRegs ∧ fixedKey RING_STAT.off = true ∧
    RING_ROLE.off ∉ zoneRegs ∧ RING_ROLE.off ∉ Beside.tileRegs ∧ fixedKey RING_ROLE.off = true ∧
    DEV_NODE.off ∉ zoneRegs ∧ DEV_NODE.off ∉ Beside.tileRegs ∧ fixedKey DEV_NODE.off = true ∧ isPendKey RING_CYCLE.off = false := by decide +kernel

theorem word_of_whole {f : FRef} {w : Word} (hl : f.lsb = 0) (hw : f.width = 32) {n : Nat} (h : f.get w = n % 2 ^ 32) : w = BitVec.ofNat 32 n :=
  BitVec.eq_of_toNat_eq (by rw [← FRef.get_whole f hl hw, h, BitVec.toNat_ofNat])

/-- What follows the change of master at a cycle's start: the zone programs, the alarms and the bindings. -/
def State.cycleClose (s : State) : State := s.zoneBoundary.alarmsAgain.confirmPins

theorem State.cycleClose_leaves (s : State) : s.cycleClose.fh = { s.fh with zoneAcc := [], zoneAt := s.cyc.began, zoneOver := [] } ∧
    s.cycleClose.cyc = s.cyc ∧ s.cycleClose.flow = s.flow ∧ s.cycleClose.jets = s.jets ∧ s.cycleClose.feeds = s.feeds ∧
    s.cycleClose.pending = s.pending ∧ Eff s s.cycleClose (zoneRegs ++ Beside.tileRegs) := by
  obtain ⟨hfh, hcyc, hflow, hjets, hfeeds, hpend, he⟩ := s.zoneBoundary_leaves
  unfold State.cycleClose
  generalize s.zoneBoundary = u at *
  have h2 := u.alarmsAgain_beside Beside.tileRegs
  generalize u.alarmsAgain = v at *
  have h3 := h2.trans v.confirmPins_beside
  generalize v.confirmPins = w at *
  exact ⟨h3.fh.trans hfh, h3.cyc.trans hcyc, h3.flow.trans hflow, h3.jets.trans hjets, h3.feeds.trans hfeeds, h3.pending.trans hpend,
    (he.mono fun k hk => List.mem_append_left _ hk).trans (h3.toEff.mono fun k hk => List.mem_append_right _ hk)⟩

/-- The cycle's number shown and its record opened. -/
def State.cycleOpened (s : State) (n : Nat) (b : Int) : State := (s.p RING_CYCLE.CYCLE n).cy (openCyc n b)

theorem State.cycleShown_get (s : State) (n : Nat) : RING_CYCLE.CYCLE.get ((s.p RING_CYCLE.CYCLE n).rd RING_CYCLE.off) = n % 2 ^ 32 :=
  s.g_p_self (f := RING_CYCLE.CYCLE) n (by decide)

theorem State.cycleShown_rd (s : State) (n : Nat) : (s.p RING_CYCLE.CYCLE n).rd RING_CYCLE.off = BitVec.ofNat 32 n := by
  have hg := s.cycleShown_get n
  generalize s.p RING_CYCLE.CYCLE n = u at *
  exact word_of_whole (f := RING_CYCLE.CYCLE) rfl rfl hg

theorem State.cycleOpened_leaves (s : State) (n : Nat) (b : Int) : CyStep s (s.cycleOpened n b) [RING_CYCLE.off] ∧
    (s.cycleOpened n b).cyc = openCyc n b s.cyc ∧ (s.cycleOpened n b).rd RING_CYCLE.off = BitVec.ofNat 32 n := by
  have h1 : CyStep s (s.p RING_CYCLE.CYCLE n) [RING_CYCLE.off] := CyStep.p s RING_CYCLE.CYCLE n (by decide) (by decide)
  have hrd := s.cycleShown_rd n
  have hcyc := s.p_cyc RING_CYCLE.CYCLE n
  unfold State.cycleOpened
  generalize s.p RING_CYCLE.CYCLE n = u at *
  exact ⟨h1.trans (CyStep.cy u (openCyc n b) [RING_CYCLE.off]), by rw [u.cy_cyc, hcyc], by rw [u.cy_rd, hrd]⟩

theorem State.cycleBegin_eq (s : State) (n : Nat) : s.cycleBegin n = (s.cycleOpened n s.cycleBegan).stopLaunch.takeSpecial.setRole.cycleClose := by
  have hb : (s.p RING_CYCLE.CYCLE n).cycleBegan = s.cycleBegan := by
    have hf : (s.p RING_CYCLE.CYCLE n).fns = s.fns := by
      rw [State.fns, State.fns, State.epochSec, State.epochSec, State.rd64_congr (s.rd_p_ne RING_CYCLE.CYCLE n (by decide)) (s.rd_p_ne RING_CYCLE.CYCLE n (by decide)),
        s.p_clep]
    rw [State.cycleBegan, State.cycleBegan, hf, State.periodNs, State.periodNs, s.g_p_sep (f := RING_CYCLE.CYCLE) (g := RING_ACT_CYC.K) n (by decide)]
  rw [s.cycleBegin_stages, hb, State.cycleOpened, State.cycleClose]

/-- What the start of a cycle leaves. -/
structure CycleBegun (s t : State) : Prop where
  opened : Opened t.cyc s.cycleNow s.cycleBegan
  shown : t.rd RING_CYCLE.off = BitVec.ofNat 32 s.cycleNow
  fh : t.fh = { s.fh with zoneAcc := [], zoneAt := s.cycleBegan, zoneOver := [] }
  flow : t.flow = s.flow
  jets : t.jets = s.jets
  feeds : t.feeds = s.feeds
  pending : t.pending = s.pending
  resetReq : t.resetReq = s.resetReq

/-- What the start of a cycle leaves where the node becomes the master. -/
structure MasterBegun (s t : State) (fl : Nat) : Prop where
  curM : t.curM = s.node
  launching : t.cyc.launching = true
  hdrFlags : t.cyc.hdrFlags = fl
  hdrBackup : t.cyc.hdrBackup = 0xFFFF
  special : t.cyc.special = none
  role : t.g RING_STAT.ROLE = roMaster
  master : t.flag DEV_NODE.MASTER = true

theorem State.stores_of_bareCyc {s t : State} {c : Cycle} (h : t.bare = { s.bare with cyc := c }) : t.fh = s.fh ∧ t.flow = s.flow ∧ t.jets = s.jets ∧
    t.feeds = s.feeds ∧ t.pending = s.pending := by
  simp only [State.bare, State.mk.injEq] at h
  simp only [h, and_self]

/-- What a hand-off or take-over carried out leaves. -/
structure TookOver (s t : State) (fl : Nat) : Prop where
  curM : t.curM = s.node
  node : t.node = s.node
  ringEn : t.ringEn = true
  launching : t.cyc.launching = true
  hdrFlags : t.cyc.hdrFlags = fl
  hdrBackup : t.cyc.hdrBackup = 0xFFFF
  special : t.cyc.special = none

theorem State.takeSpecial_tookOver {s : State} {fl : Nat} (hspec : s.cyc.special = some fl) (hen : s.ringEn = true) : TookOver s s.takeSpecial fl := by
  have h := s.takeSpecial_leaves.1
  have hen' : s.takeSpecial.ringEn = true := (h.flag (f := RING_CFG.EN) (by decide) (by decide)).trans hen
  rw [State.takeSpecial_some hspec, if_pos hen] at *
  obtain ⟨_, hcyc, hnode⟩ := s.noSpecial_leaves
  generalize s.noSpecial = c at *
  obtain ⟨_, hcyc2, hcur, hnode2⟩ := c.becomeMaster_leaves fl
  exact ⟨hcur.trans hnode, hnode2.trans hnode, hen', by rw [hcyc2], by rw [hcyc2], by rw [hcyc2, noNode], by rw [hcyc2, hcyc]⟩

theorem State.cycleBegin_begun (s : State) : CycleBegun s (s.cycleBegin s.cycleNow) ∧
    ∀ fl, s.cyc.special = some fl → s.ringEn = true → MasterBegun s (s.cycleBegin s.cycleNow) fl := by
  obtain ⟨k1, k2, k3, k4, k5, k6, k7, k8, k9, k10, k11, k12, k13, _⟩ := boundary_keys
  rw [s.cycleBegin_eq]
  obtain ⟨h1, hcyc1, hshown⟩ := s.cycleOpened_leaves s.cycleNow s.cycleBegan
  have ho1 : Opened (s.cycleOpened s.cycleNow s.cycleBegan).cyc s.cycleNow s.cycleBegan := hcyc1 ▸ openCyc_opened _ _ _
  have hspec1 : (s.cycleOpened s.cycleNow s.cycleBegan).cyc.special = s.cyc.special := by rw [hcyc1, openCyc]
  generalize s.cycleOpened s.cycleNow s.cycleBegan = a at *
  obtain ⟨h2, ho2, hspec2⟩ := a.stopLaunch_leaves
  generalize a.stopLaunch = b at *
  obtain ⟨h3, ho3⟩ := b.takeSpecial_leaves
  have hmaster : ∀ fl, s.cyc.special = some fl → s.ringEn = true → TookOver s b.takeSpecial fl := by
    intro fl hfl hen
    have hab := h1.toEff.trans (h2.toEff.mono (by simp))
    have ht := State.takeSpecial_tookOver (hspec2.trans (hspec1.trans hfl)) ((hab.flag (f := RING_CFG.EN) (by decide) (by decide)).trans hen)
    have hnode : b.node = s.node := hab.g (f := DEV_NODE.NODE_ID) (by decide) (by decide)
    exact ⟨ht.curM.trans hnode, ht.node.trans hnode, ht.ringEn, ht.launching, ht.hdrFlags, ht.hdrBackup, ht.special⟩
  generalize b.takeSpecial = c at *
  obtain ⟨h4, hcyc4, hrole, hflag, hnode4, hcur4⟩ := c.setRole_leaves
  generalize c.setRole = d at *
  obtain ⟨hfh, hcyc, hflow, hjets, hfeeds, hpend, he⟩ := d.cycleClose_leaves
  have hbare : d.bare = { s.bare with cyc := d.cyc } := by rw [h4.bare, h3.bare, h2.bare, h1.bare]
  obtain ⟨bfh, bflow, bjets, bfeeds, bpend⟩ := State.stores_of_bareCyc hbare
  generalize d.cycleClose = e at *
  have hopen : Opened d.cyc s.cycleNow s.cycleBegan := hcyc4 ▸ ho3 _ _ (ho2 _ _ ho1)
  have hnot : ∀ k, k ∉ zoneRegs → k ∉ Beside.tileRegs → k ∉ zoneRegs ++ Beside.tileRegs := fun k ha hb hk => (List.mem_append.1 hk).elim ha hb
  have hword := he.word (k := RING_CYCLE.off) (hnot _ k2 k3) k4
  have hkeep : ∀ f : FRef, f.off ∉ zoneRegs → f.off ∉ Beside.tileRegs → fixedKey f.off = true → e.g f = d.g f := fun f ha hb hk => he.g (hnot _ ha hb) hk
  have hroles := (h3.toEff.trans h4.toEff).word k1 k4
  have hreset := he.resetReq.trans (h4.resetReq.trans (h3.resetReq.trans (h2.resetReq.trans h1.resetReq)))
  refine ⟨⟨hcyc ▸ hopen, hword.trans (hroles.trans ((h2.word (by simp) k4).trans hshown)), ?_, hflow.trans bflow,
    hjets.trans bjets, hfeeds.trans bfeeds, hpend.trans bpend, hreset⟩, ?_⟩
  · rw [hfh, hopen.began, bfh]
  · intro fl hfl hen
    have ht := hmaster fl hfl hen
    have hrm : c.roleNow = roMaster := by
      unfold State.roleNow
      rw [if_neg (by rw [ht.ringEn]; decide), if_pos (ht.curM.trans ht.node.symm)]
    exact ⟨(hkeep RING_ROLE.MASTER k8 k9 k10).trans (hcur4.trans ht.curM), by rw [hcyc, hcyc4, ht.launching], by rw [hcyc, hcyc4, ht.hdrFlags],
      by rw [hcyc, hcyc4, ht.hdrBackup], by rw [hcyc, hcyc4, ht.special], (hkeep RING_STAT.ROLE k5 k6 k7).trans (hrole.trans (by rw [hrm]; rfl)),
      by rw [State.flag, hkeep DEV_NODE.MASTER k11 k12 k13]; exact hflag.trans (by rw [hrm]; rfl)⟩

theorem Beside.begun {s t u : State} (h : CycleBegun s t) (hu : Beside t u []) : CycleBegun s u :=
  ⟨hu.cyc ▸ h.opened, (hu.word (by simp) (by decide)).trans h.shown, hu.fh.trans h.fh, hu.flow.trans h.flow, hu.jets.trans h.jets, hu.feeds.trans h.feeds,
    hu.pending.trans h.pending, hu.resetReq.trans h.resetReq⟩

theorem Beside.masterBegun {s t u : State} {fl : Nat} (h : MasterBegun s t fl) (hu : Beside t u []) : MasterBegun s u fl :=
  ⟨(hu.g (f := RING_ROLE.MASTER) (by simp) (by decide)).trans h.curM, by rw [hu.cyc, h.launching], by rw [hu.cyc, h.hdrFlags], by rw [hu.cyc, h.hdrBackup],
    by rw [hu.cyc, h.special], (hu.g (f := RING_STAT.ROLE) (by simp) (by decide)).trans h.role,
    (hu.flag (f := DEV_NODE.MASTER) (by simp) (by decide)).trans h.master⟩

theorem cycleStart_begun {s : State} (hs : s.resetReq = none) (hnew : s.cycleBegan ≠ s.cyc.began)
    (hpend : ∀ a, s.cyc.pend = some a → s.past a.at_ = false) : ∃ t, exec .cycleStart s = .next t ∧ CycleBegun s t ∧
      ∀ fl, s.cyc.special = some fl → s.ringEn = true → MasterBegun s t fl := by
  have hx : cycleStart s = s.cycleBegin s.cycleNow := by
    unfold cycleStart
    rw [cycleApplyAt_early hpend]
    exact if_neg hnew
  rw [exec_cycleStart, hx]
  obtain ⟨hb, hm⟩ := s.cycleBegin_begun
  generalize s.cycleBegin s.cycleNow = u at *
  have hr : Beside u (if u.cyc.num = s.cyc.num then u else u.runnelCycle) [] := Beside.ite (Beside.refl u _) (Beside.runnelCycle u)
  generalize (if u.cyc.num = s.cyc.num then u else u.runnelCycle) = v at *
  have hv := Beside.begun hb hr
  exact ⟨v, congrArg _ (State.finish_kept (hv.resetReq.trans hs) hv.pending), hv, fun fl hfl hen => Beside.masterBegun (hm fl hfl hen) hr⟩

theorem cycleStart_again {s : State} (hs : s.resetReq = none) (hold : s.cycleBegan = s.cyc.began)
    (hpend : ∀ a, s.cyc.pend = some a → s.past a.at_ = false) : exec .cycleStart s = .next s := by
  have hx : cycleStart s = s := by
    unfold cycleStart
    rw [cycleApplyAt_early hpend]
    exact if_pos hold
  rw [exec_cycleStart, hx, if_pos rfl, State.finish_kept hs rfl]

/-! ### SYNC -/

theorem exec_syncWindowOpen (s : State) : exec .syncWindowOpen s = .next (s.finish (syncWindowOpen s)) := by rfl

/-- SYNC frames offered one by one: what stands at the end of the queue of waiting frames. -/
structure SyncOffered (s t : State) (ps : List Nat) : Prop where
  waiting : ∃ ws, t.sw.waiting = s.sw.waiting ++ ws ∧ ws.length = ps.length ∧
    ∀ p ∈ ps, ∃ w ∈ ws, w.targets = [p] ∧ w.frame.typ = tySync ∧ w.frame.cls = 7 ∧ w.frame.dst = 0xFFFF
  frame : { t with sw := { t.sw with waiting := s.sw.waiting } } = s

theorem State.offerSync_up {s : State} {p : Nat} (h : s.pst p = psUp) : ∃ w : WEnt, s.offerSync p =
    { s with sw := { s.sw with waiting := s.sw.waiting ++ [w] } } ∧ w.targets = [p] ∧ w.frame.typ = tySync ∧ w.frame.cls = 7 ∧ w.frame.dst = 0xFFFF := by
  unfold State.offerSync
  dsimp only
  rw [if_pos (.inl h)]
  exact ⟨_, rfl, rfl, rfl, rfl, rfl⟩

theorem State.offerSyncs {ps : List Nat} : ∀ {s : State}, (∀ p ∈ ps, s.pst p = psUp) → SyncOffered s (ps.foldl State.offerSync s) ps := by
  induction ps with
  | nil => exact fun _ => ⟨⟨[], (List.append_nil _).symm, rfl, fun p hp => absurd hp (List.not_mem_nil)⟩, rfl⟩
  | cons p ps ih =>
    intro s hup
    obtain ⟨w, hw, htarget, htyp, hcls, hdst⟩ := State.offerSync_up (hup p List.mem_cons_self)
    rw [List.foldl_cons, hw]
    obtain ⟨⟨ws, hws, hlen, hall⟩, hframe⟩ := ih (s := { s with sw := { s.sw with waiting := s.sw.waiting ++ [w] } })
      fun q hq => hup q (List.mem_cons_of_mem p hq)
    generalize ps.foldl State.offerSync { s with sw := { s.sw with waiting := s.sw.waiting ++ [w] } } = t at *
    refine ⟨⟨w :: ws, by rw [hws, List.append_assoc]; rfl, by rw [List.length_cons, hlen]; rfl, fun q hq => ?_⟩, ?_⟩
    · rcases List.mem_cons.1 hq with rfl | hq
      · exact ⟨w, List.mem_cons_self, htarget, htyp, hcls, hdst⟩
      · obtain ⟨x, hx, hrest⟩ := hall q hq
        exact ⟨x, List.mem_cons_of_mem w hx, hrest⟩
    · exact (congrArg (fun u : State => { u with sw := { u.sw with waiting := s.sw.waiting } }) hframe :)

theorem syncWindowOpen_leaves {s : State} (hs : s.resetReq = none) (hm : s.g RING_STAT.ROLE = roMaster) (hen : s.flag TIME_CFG.SYNC_EN = true)
    (hwin : s.inWin 0 s.winS = true) (hsync : s.cyc.synced = false) (hup : ∀ p ∈ s.ringPorts, s.pst p = psUp) :
    ∃ t, exec .syncWindowOpen s = .next t ∧ t.sw.waiting.length = s.sw.waiting.length + s.ringPorts.length ∧
      (∀ p ∈ s.ringPorts, ∃ w ∈ t.sw.waiting, w.targets = [p] ∧ w.frame.typ = tySync ∧ w.frame.cls = 7 ∧ w.frame.dst = 0xFFFF) ∧
      { t with sw := { t.sw with waiting := s.sw.waiting }, cyc := { t.cyc with synced := false } } = s ∧ t.cyc.synced = true := by
  have hx : syncWindowOpen s = s.ringPorts.foldl State.offerSync (s.cy (fun c => { c with synced := true })) :=
    if_pos ⟨hm, hen, hwin, by rw [hsync]; rfl⟩
  rw [exec_syncWindowOpen, hx]
  have hup' : ∀ p ∈ s.ringPorts, (s.cy (fun c => { c with synced := true })).pst p = psUp := hup
  have hcyc : (s.cy (fun c => { c with synced := true })).cyc.synced = true := rfl
  have hback : { s.cy (fun c => { c with synced := true }) with cyc := { (s.cy (fun c => { c with synced := true })).cyc with synced := false } } = s := by
    rw [State.cy, ← hsync]
  have hsw : (s.cy (fun c => { c with synced := true })).sw = s.sw := rfl
  have hq : (s.cy (fun c => { c with synced := true })).resetReq = s.resetReq ∧ (s.cy (fun c => { c with synced := true })).pending = s.pending := ⟨rfl, rfl⟩
  generalize s.cy (fun c => { c with synced := true }) = u at *
  obtain ⟨⟨ws, hws, hlen, hall⟩, hframe⟩ := State.offerSyncs hup'
  generalize s.ringPorts.foldl State.offerSync u = t at *
  have hreset : t.resetReq = u.resetReq := (congrArg State.resetReq hframe :)
  have hpend : t.pending = u.pending := (congrArg State.pending hframe :)
  have hc : t.cyc = u.cyc := (congrArg State.cyc hframe :)
  refine ⟨t, congrArg _ (State.finish_kept (hreset.trans (hq.1.trans hs)) (hpend.trans hq.2)), by rw [hws, hsw, List.length_append, hlen],
    fun p hp => ?_, ?_, by rw [hc, hcyc]⟩
  · obtain ⟨w, hw, hrest⟩ := hall p hp
    exact ⟨w, hws ▸ List.mem_append_right _ hw, hrest⟩
  · rw [← hsw]
    exact (congrArg (fun x : State => { x with cyc := { x.cyc with synced := false } }) hframe :).trans hback

/-- Settles O28. -/
theorem cyclesBegin : Obligations.CyclesBegin := by
  refine ⟨fun s hs hnew hpend => ?_, fun fl s hs hnew hpend hspec hen => ?_, fun s hs hold hpend => ⟨s, cycleStart_again hs hold hpend, rfl⟩,
    fun s hs hm hen hwin hsync hup => syncWindowOpen_leaves hs hm hen hwin hsync hup⟩
  · obtain ⟨t, ht, h, _⟩ := cycleStart_begun hs hnew hpend
    exact ⟨t, ht, h.opened.num, h.opened.began, h.shown, h.opened.closed, h.opened.got0, h.opened.accMin, h.opened.taken, h.opened.gotE, h.opened.gotW,
      h.opened.launchAt, h.opened.synced, h.fh, h.flow, h.jets, h.feeds⟩
  · obtain ⟨t, ht, _, h⟩ := cycleStart_begun hs hnew hpend
    obtain ⟨hcur, hl, hf, hb, hsp, hr, hmf⟩ := h fl hspec hen
    exact ⟨t, ht, hcur, hl, hf, hb, hsp, hr, hmf⟩

end Sys2Proof.Machine
end

section
/-! Submitted work is journaled (R163 to R169): where nothing is owed and no record is to be moved, a record goes at once into the open group. -/

namespace Sys2Proof.Machine

/- One evaluation after another: each of them, left to itself, would hold a thread. -/
set_option Elab.async false

theorem exec_workSubmit (m : Master) (flow : Fin 1024) (op : Fin 256) (addr : BitVec 64) (data : List Byte) (seg : Fin 4) (s : State) :
    exec (.workSubmit m flow op addr data seg) s = .next (s.finish (workSubmit m flow op addr data seg s)) := by rfl

theorem exec_submitUnblock (f : Fin 1024) (s : State) : exec (.submitUnblock f) s = .next (s.finish (submitUnblock f s)) := by rfl

theorem exec_groupClose (s : State) : exec .groupClose s = .next (s.finish (groupClose s)) := by rfl

theorem exec_commitIntervalWrite (m : Master) (val : Word) (s : State) :
    exec (.commitIntervalWrite m val) s = .next (s.finish (s.regCmd m FLOW_CTRL.off 4 val)) := by rfl

/-! ### What the budget owes -/

theorem State.fm_id (s : State) : s.fm (fun x => x) = s := rfl

theorem State.fm_fm (s : State) (f g : Flows → Flows) : (s.fm f).fm g = s.fm (fun x => g (f x)) := rfl

theorem State.fm_congr (s : State) {f g : Flows → Flows} (h : f s.flow = g s.flow) : s.fm f = s.fm g := by rw [State.fm, State.fm, h]

theorem State.fm_leaves (s : State) (f : Flows → Flows) : (s.fm f).resetReq = s.resetReq ∧ (s.fm f).pending = s.pending ∧
    { s.fm f with flow := s.flow } = s := ⟨rfl, rfl, rfl⟩

/-- Where nothing is owed and no record is to be moved, the budget pays nothing. -/
theorem State.payOwed_clear {s : State} (ho : s.flow.owed = []) (hr : s.relocs = []) : s.payOwed = s := by
  have hm : s.relocate = s := by rw [State.relocate, hr]; rfl
  unfold State.payOwed
  dsimp only
  rw [hm, ho]
  exact (s.fm_congr (f := fun x => { x with owed := [] }) (g := fun x => x) (by rw [← ho])).trans s.fm_id

theorem State.headClear_zero {s : State} (h : s.headClear 0) : s.flow.owed = [] ∧ s.relocs = [] := h

theorem State.addRec_clear {s : State} {r : JRec} (ho : s.flow.owed = []) (hr : s.relocs = []) (hbud : 4000 * recLines r ≤ s.budNow)
    (hw : s.flow.arrWait = false) : s.addRec r false = (true, s.putRecord r) := by
  unfold State.addRec
  dsimp only
  rw [State.payOwed_clear ho hr, if_neg (by simp [ho, hr, hw, Nat.not_lt.2 hbud])]
  rfl

theorem recLines_le {it : Item} {b : Bool} (h : it.data.length ≤ 256) : recLines (.acc it b) ≤ 6 := by
  rw [recLines, accLines]
  split <;> omega

/-- The flow record as a first record opens a group of its own. -/
def openWith (s : State) (r : JRec) (x : Flows) : Flows :=
  { x with opened := some ⟨[r], recLines r, s.absNs, s.absNs + s.commitNs⟩, bud := s.budNow - 4000 * recLines r, budAt := s.absNs }

theorem State.putRecord_first {s : State} {r : JRec} (h : s.flow.opened = none) (hn : recLines r < 256) : s.putRecord r = s.fm (openWith s r) := by
  unfold State.putRecord openWith
  simp only [h, Option.any_none, Bool.false_eq_true, if_false, Option.getD_none, List.nil_append, Nat.zero_add]
  exact if_neg (by omega)

/-! ### A submission -/

/-- An item as it is journaled, at its flow's NEXT. -/
def State.numbered (s : State) (it : Item) : Item := { it with seq := (s.fl it.flow).next, inc := (s.fl it.flow).inc }

/-- The flow record after an item's journaling. -/
def journaledFlow (s : State) (it : Item) (x : Flows) : Flows :=
  { openWith s (.acc (s.numbered it) true) x with
    flows := SMap.set Flow.dflt x.flows it.flow { s.fl it.flow with next := ((s.fl it.flow).next + 1) % 2 ^ 32 } }

theorem State.submitTry_clear {s : State} {it : Item} (hrun : s.flowRuns = true) (hl : s.flow.leaving = []) (hw : s.flow.arrWait = false)
    (hopen : s.flow.opened = none) (hclear : s.headClear 0) (hfull : s.flowFull it.flow = false) (hlen : it.data.length ≤ 256)
    (hbud : 4000 * accLines it.data.length ≤ s.budNow) : s.submitTry it = (true, s.fm (journaledFlow s it)) := by
  obtain ⟨ho, hr⟩ := State.headClear_zero hclear
  have hlines : recLines (.acc (s.numbered it) true) = accLines it.data.length := rfl
  have hadd := State.addRec_clear (r := .acc (s.numbered it) true) ho hr (hlines ▸ hbud) hw
  rw [State.putRecord_first hopen (Nat.lt_of_le_of_lt (recLines_le (it := s.numbered it) hlen) (by decide))] at hadd
  unfold State.submitTry
  dsimp only
  rw [if_neg (by simp [hrun, hl, hfull])]
  change (match s.addRec (.acc (s.numbered it) true) false with
    | (true, t) => (true, t.setFl it.flow { t.fl it.flow with next := ((s.fl it.flow).next + 1) % 2 ^ 32 })
    | (false, t) => (false, t)) = _
  rw [hadd]
  rfl

theorem journaledFlow_leaves (s : State) (it : Item) : (s.fm (journaledFlow s it)).flow.opened =
      some ⟨[.acc (s.numbered it) true], accLines it.data.length, s.absNs, s.absNs + s.commitNs⟩ ∧
    (s.fm (journaledFlow s it)).fl it.flow = { s.fl it.flow with next := ((s.fl it.flow).next + 1) % 2 ^ 32 } ∧
    (∀ g, g ≠ it.flow → (s.fm (journaledFlow s it)).fl g = s.fl g) ∧ (s.fm (journaledFlow s it)).flow.out = s.flow.out ∧
    (s.fm (journaledFlow s it)).flow.subs = s.flow.subs :=
  ⟨rfl, Laws.get_set_same _ _ _, fun _ hg => Laws.get_set_ne _ _ hg, rfl, rfl⟩

theorem ite_ne {α : Type} {c : Prop} [Decidable c] {a b k : α} (ha : a ≠ k) (hb : b ≠ k) : (if c then a else b) ≠ k := by
  split
  · exact ha
  · exact hb

theorem State.submitCheck_len {s : State} {it : Item} (h : s.submitCheck it = stOK) : it.data.length ≤ 256 := by
  by_contra hlen
  refine absurd h (ite_ne (by decide) (ite_ne (by decide) (ite_ne (by decide) ?_)))
  rw [if_pos (.inl (by omega))]
  decide

theorem workSubmit_leaves {m : Master} {flow : Fin 1024} {op : Fin 256} {addr : BitVec 64} {data : List Byte} {seg : Fin 4} {s : State}
    (hs : s.resetReq = none) (hrun : s.flowRuns = true) (hl : s.flow.leaving = []) (hsubs : s.flow.subs = []) (hw : s.flow.arrWait = false)
    (hopen : s.flow.opened = none) (hclear : s.headClear 0) {it : Item}
    (hit : it = { newItem flow.val op.val addr.toNat data m.mid.val (if 2 ≤ op.val ∧ op.val ≤ 6 then .atomic m else .store m) with seg := seg.val })
    (hform : workForm op.val (adSpace addr.toNat) (adOff addr.toNat) data.length (decide (0xFF00 ≤ adNode addr.toNat)) = stOK)
    (hcheck : s.submitCheck it = stOK) (hfull : s.flowFull it.flow = false) (hbud : 4000 * accLines it.data.length ≤ s.budNow) :
    exec (.workSubmit m flow op addr data seg) s = .next (s.fm (journaledFlow s it)) := by
  have htry := State.submitTry_clear hrun hl hw hopen hclear hfull (State.submitCheck_len hcheck) hbud
  have hsub : s.submit it = (stOK, s.fm (journaledFlow s it)) := by
    unfold State.submit
    dsimp only
    rw [if_neg (not_not_intro hcheck), hsubs, htry]
    rfl
  have hwork : workSubmit m flow op addr data seg s = s.fm (journaledFlow s it) := by
    unfold workSubmit
    dsimp only
    rw [hform, if_pos rfl, ← hit, hsub]
    exact if_pos rfl
  obtain ⟨hreset, hpend, _⟩ := s.fm_leaves (journaledFlow s it)
  rw [exec_workSubmit, hwork, State.finish_kept (hreset.trans hs) hpend]

theorem submitUnblock_leaves {f : Fin 1024} {it : Item} {bp : Bool} {s : State} (hs : s.resetReq = none) (hrun : s.flowRuns = true)
    (hl : s.flow.leaving = []) (hsubs : s.flow.subs = [(it, bp)]) (hf : it.flow = f.val) (hlen : it.data.length ≤ 256)
    (hw : s.flow.arrWait = false) (hopen : s.flow.opened = none) (hclear : s.headClear 0) (hfull : s.flowFull f.val = false)
    (hbud : 4000 * accLines it.data.length ≤ s.budNow) :
    exec (.submitUnblock f) s = .next ((s.fm (journaledFlow s it)).fm (fun x => { x with subs := [] })) := by
  have htry := State.submitTry_clear hrun hl hw hopen hclear (hf ▸ hfull) hlen hbud
  have hun : submitUnblock f s = (s.fm (journaledFlow s it)).fm (fun x => { x with subs := x.subs.erase (it, bp) }) := by
    unfold submitUnblock
    rw [hsubs]
    simp only [List.find?_cons, hf, beq_self_eq_true, htry]
  have herase : (s.fm (journaledFlow s it)).fm (fun x => { x with subs := x.subs.erase (it, bp) }) =
      (s.fm (journaledFlow s it)).fm (fun x => { x with subs := [] }) := by
    refine State.fm_congr _ ?_
    rw [(journaledFlow_leaves s it).2.2.2.2, hsubs, List.erase_cons_head]
  rw [exec_submitUnblock, hun, herase]
  obtain ⟨hreset, hpend, _⟩ := s.fm_leaves (journaledFlow s it)
  generalize s.fm (journaledFlow s it) = u at *
  obtain ⟨hreset2, hpend2, _⟩ := u.fm_leaves (fun x => { x with subs := [] })
  exact congrArg _ (State.finish_kept (hreset2.trans (hreset.trans hs)) (hpend2.trans hpend))

/-! ### Groups and the commit interval -/

/-- The flow record as its open group closes. -/
def groupClosed (g : JGroup) (x : Flows) : Flows :=
  if x.commit = none ∧ x.closed = [] then { x with opened := none, commit := some g } else { x with opened := none, closed := x.closed ++ [g] }

theorem State.closeGroup_some {s : State} {g : JGroup} (h : s.flow.opened = some g) : s.closeGroup = s.fm (groupClosed g) := by
  unfold State.closeGroup groupClosed
  rw [h]
  simp only [Option.isNone_iff_eq_none]
  split
  · next hc => exact s.fm_congr (if_pos hc).symm
  · next hc => exact s.fm_congr (if_neg hc).symm

/-- The groups in the order in which they commit. -/
def Flows.groups (x : Flows) : List JGroup := x.commit.toList ++ x.closed ++ x.opened.toList

theorem groupClosed_groups {x : Flows} {g : JGroup} (h : x.opened = some g) : (groupClosed g x).groups = x.groups := by
  unfold groupClosed
  split
  · next hc => simp [Flows.groups, h, hc.1, hc.2]
  · simp [Flows.groups, h]

theorem groupClosed_keeps (x : Flows) (g : JGroup) : (groupClosed g x).owed = x.owed ∧ (groupClosed g x).out = x.out ∧ (groupClosed g x).kept = x.kept ∧
    (groupClosed g x).two = x.two ∧ (groupClosed g x).outLsn = x.outLsn ∧ (groupClosed g x).inb = x.inb ∧ (groupClosed g x).lsn = x.lsn := by
  unfold groupClosed
  split <;> exact ⟨rfl, rfl, rfl, rfl, rfl, rfl, rfl⟩

/-- The relocations due depend on the live records, on the head and on the groups. -/
theorem State.relocs_congr {s t : State} (hg : t.flow.groups = s.flow.groups) (h1 : t.flow.out = s.flow.out) (h2 : t.flow.kept = s.flow.kept)
    (h3 : t.flow.two = s.flow.two) (h4 : t.flow.outLsn = s.flow.outLsn) (h5 : t.flow.inb = s.flow.inb) (h6 : t.flow.lsn = s.flow.lsn) :
    t.relocs = s.relocs := by
  have hrecs : t.groupRecs = s.groupRecs := congrArg (fun l : List JGroup => (l.map JGroup.recs).flatten) hg
  have hlines : t.pendLines = s.pendLines := congrArg (fun l : List JGroup => (l.map JGroup.lines).sum) hg
  have hend : t.endangered = s.endangered := by
    funext l
    rw [State.endangered, State.endangered, hlines, h6]
  unfold State.relocs
  rw [hrecs, hend, h1, h2, h3, h4, h5]

theorem groupClose_leaves {g : JGroup} {s : State} (hs : s.resetReq = none) (hopen : s.flow.opened = some g) (hdue : g.closeAt ≤ s.absNs)
    (hclear : s.headClear 0) : exec .groupClose s = .next (s.fm (groupClosed g)) := by
  obtain ⟨ho, hr⟩ := State.headClear_zero hclear
  obtain ⟨k1, k2, k3, k4, k5, k6, k7⟩ := groupClosed_keeps s.flow g
  have hrel : (s.fm (groupClosed g)).relocs = s.relocs := State.relocs_congr (groupClosed_groups hopen) k2 k3 k4 k5 k6 k7
  have hx : groupClose s = s.fm (groupClosed g) := by
    unfold groupClose
    rw [hopen]
    dsimp only
    rw [if_pos (.inl hdue), State.closeGroup_some hopen]
    exact State.payOwed_clear (k1.trans ho) (hrel.trans hr)
  obtain ⟨hreset, hpend, _⟩ := s.fm_leaves (groupClosed g)
  rw [exec_groupClose, hx, State.finish_kept (hreset.trans hs) hpend]

theorem flowCtrl_row : regAlone FLOW_CTRL.off 2 = true ∧ hasField FLOW_CTRL.off .rw FLOW_CTRL.COMMIT = true := by decide +kernel

theorem State.blkTop_flowCtrl {s : State} {r : RegWr} (h : r.off = FLOW_CTRL.off) : s.blkTop r = s.flowCtrlWrite r.new := by
  simp (decide := true) [State.blkTop, State.blkWrite, State.blkFlow, h]

/-- The open group's close moved as the interval is set. -/
def closeMoved (c : Nat) (x : Flows) : Flows :=
  { x with opened := x.opened.map (fun g => { g with closeAt := min g.closeAt (g.first + 1000 * (clampNat 5 100 c : Nat)) }) }

theorem State.flowCtrlWrite_eq (s : State) (new : Word) :
    s.flowCtrlWrite new = (stOK, (s.wr FLOW_CTRL.off new).fm (closeMoved (FLOW_CTRL.COMMIT.get new))) := by
  have hg : (s.wr FLOW_CTRL.off new).g FLOW_CTRL.COMMIT = FLOW_CTRL.COMMIT.get new := s.g_wr_self new rfl
  unfold State.flowCtrlWrite State.commitNs closeMoved
  dsimp only
  rw [hg]

theorem commitIntervalWrite_leaves {m : Master} {val : Word} {s : State} (hs : s.serves m FLOW_CTRL.off 2) :
    ∃ t, exec (.commitIntervalWrite m val) s = .next t ∧ t.toldOK m ∧ t.g FLOW_CTRL.COMMIT = FLOW_CTRL.COMMIT.get val ∧
      t.flow = closeMoved (FLOW_CTRL.COMMIT.get val) s.flow ∧ s.sameRegs t [FLOW_CTRL.off] := by
  obtain ⟨halone, hfield⟩ := flowCtrl_row
  have hget : FLOW_CTRL.COMMIT.get (s.regWr m FLOW_CTRL.off val).new = FLOW_CTRL.COMMIT.get val := newWord_get_rw hfield _ val
  have hblk : s.blkTop (s.regWr m FLOW_CTRL.off val) = (stOK, (s.wr FLOW_CTRL.off (s.regWr m FLOW_CTRL.off val).new).fm (closeMoved (FLOW_CTRL.COMMIT.get val))) := by
    rw [State.blkTop_flowCtrl rfl, State.flowCtrlWrite_eq, hget]
  generalize (s.regWr m FLOW_CTRL.off val).new = new at *
  have hrd : ∀ k, k ≠ FLOW_CTRL.off → (s.wr FLOW_CTRL.off new).rd k = s.rd k := fun k h => s.rd_wr_ne new h
  have hcommit : (s.wr FLOW_CTRL.off new).g FLOW_CTRL.COMMIT = FLOW_CTRL.COMMIT.get new := s.g_wr_self new rfl
  have hreset := s.wr_resetReq FLOW_CTRL.off new
  have hpend := s.wr_pending FLOW_CTRL.off new
  have hflow := s.wr_flow FLOW_CTRL.off new
  generalize s.wr FLOW_CTRL.off new = u at *
  obtain ⟨hreset2, hpend2, hframe⟩ := u.fm_leaves (closeMoved (FLOW_CTRL.COMMIT.get val))
  have hregs : (u.fm (closeMoved (FLOW_CTRL.COMMIT.get val))).regs = u.regs := rfl
  have hflow2 : (u.fm (closeMoved (FLOW_CTRL.COMMIT.get val))).flow = closeMoved (FLOW_CTRL.COMMIT.get val) u.flow := rfl
  generalize u.fm (closeMoved (FLOW_CTRL.COMMIT.get val)) = v at *
  have hfin := State.serves_finish hs halone hblk (hreset2.trans (hreset.trans (State.serves_noReset hs))) (hpend2.trans hpend)
  refine ⟨v.answer m stOK [], by rw [exec_commitIntervalWrite, hfin], rfl, ?_, ?_, fun k hk => ?_⟩
  · rw [State.answer_g, State.g_of_regs hregs, hcommit, hget]
  · rw [State.answer_flow, hflow2, hflow]
  · rw [State.answer_rd, State.rd_of_regs hregs, hrd k (by simpa using hk)]

/-- Settles O32. -/
theorem workIsJournaled : Obligations.WorkIsJournaled := by
  refine ⟨fun m flow op addr data seg s hs hrun hl hsubs hw hopen hclear => ?_, fun f it bp s hs hrun hl hsubs hf hlen hw hopen hclear hfull hbud => ?_,
    fun g s hs hopen hdue hclear => ?_, fun m val s hs => commitIntervalWrite_leaves hs⟩
  · intro it hform hcheck hfull hbud
    obtain ⟨hop, hfl, hother, hout, _⟩ := journaledFlow_leaves s it
    exact ⟨_, workSubmit_leaves hs hrun hl hsubs hw hopen hclear rfl hform hcheck hfull hbud, hop, hfl, hother, hout, (s.fm_leaves _).2.2⟩
  · obtain ⟨hop, hfl, _⟩ := journaledFlow_leaves s it
    refine ⟨_, submitUnblock_leaves hs hrun hl hsubs hf hlen hw hopen hclear hfull hbud, rfl, ?_, ?_, rfl⟩
    · rw [← hf]
      exact hop
    · rw [← hf]
      exact congrArg Flow.next hfl
  · exact ⟨_, groupClose_leaves hs hopen hdue hclear, rfl, rfl⟩

end Sys2Proof.Machine
end

section
/-! The journal's upkeep (R173, R189, R196, R197): state sweeps, the recovery of an empty ring, and the patrol of Reservoir. -/

namespace Sys2Proof.Machine

/- One evaluation after another: each of them, left to itself, would hold a thread. -/
set_option Elab.async false

theorem exec_outstateSweep (s : State) : exec .outstateSweep s = .next (s.finish (outstateSweep s)) := by rfl

theorem exec_flowRecover (s : State) : exec .flowRecover s = .next (s.finish (flowRecover s)) := by rfl

theorem exec_reservoirPatrol (off : Nat) (e : EccFind) (s : State) :
    exec (.reservoirPatrol off e) s = .next (s.finish (reservoirPatrol off e s)) := by rfl

/-! ### State sweeps -/

/-- Where the live records are the same, and no more of them stand before the head, no more relocations are due. -/
theorem State.relocs_none {s t : State} (h1 : t.flow.out = s.flow.out) (h2 : t.flow.kept = s.flow.kept) (h3 : t.flow.two = s.flow.two)
    (h4 : t.flow.outLsn = s.flow.outLsn) (h5 : t.flow.inb = s.flow.inb) (hend : ∀ l, t.endangered l = true → s.endangered l = true)
    (hrecs : ∀ r ∈ s.groupRecs, r ∈ t.groupRecs) (h : s.relocs = []) : t.relocs = [] := by
  have hany : ∀ o : Option Nat, o.any t.endangered = true → o.any s.endangered = true := fun o ho => by
    cases o with
    | none => rw [Option.any_none] at ho; exact absurd ho Bool.false_ne_true
    | some l => rw [Option.any_some] at ho ⊢; exact hend l ho
  rw [List.eq_nil_iff_forall_not_mem] at h ⊢
  intro r hr
  apply h r
  unfold State.relocs at hr ⊢
  rw [h1, h2, h3, h4, h5] at hr
  simp only [List.mem_filter, List.mem_append, List.mem_map, Bool.not_eq_true', List.contains_eq_mem, decide_eq_false_iff_not] at hr ⊢
  refine ⟨?_, fun hm => hr.2 (hrecs r hm)⟩
  rcases hr.1 with (((⟨o, ho, hx⟩ | ⟨o, ho, hx⟩) | ⟨o, ho, hx⟩) | ⟨o, ho, hx⟩) | ⟨o, ho, hx⟩
  · exact .inl (.inl (.inl (.inl ⟨o, ⟨ho.1, hend _ ho.2⟩, hx⟩)))
  · exact .inl (.inl (.inl (.inr ⟨o, ⟨ho.1, hend _ ho.2⟩, hx⟩)))
  · exact .inl (.inl (.inr ⟨o, ⟨ho.1, hend _ ho.2⟩, hx⟩))
  · exact .inl (.inr ⟨o, ⟨ho.1, hany _ ho.2⟩, hx⟩)
  · exact .inr ⟨o, ⟨ho.1, hany _ ho.2⟩, hx⟩

/-- The head `n` lines on. -/
def headOn (n : Nat) (x : Flows) : Flows := { x with lsn := x.lsn + n }

theorem State.headOn_endangered (s : State) (n l : Nat) : (s.fm (headOn n)).endangered l = decide (l + ringLines < s.flow.lsn + n + s.pendLines + 1024) :=
  rfl

/-- The sweep of one flow's entry, journaled in a group of its own. -/
def sweptFlow (s : State) (f : Nat) (x : Flows) : Flows :=
  { openWith s (.outstate [f]) { x with arrWait := false } with flows := SMap.set Flow.dflt x.flows f { s.fl f with dirty := false } }

theorem State.addRec_arrival {s : State} {r : JRec} (ho : s.flow.owed = []) (hr : s.relocs = []) (hbud : 4000 * recLines r ≤ s.budNow) :
    s.addRec r true = (true, (s.fm (fun x => { x with arrWait := false })).putRecord r) := by
  unfold State.addRec
  dsimp only
  rw [State.payOwed_clear ho hr, if_neg (by simp [ho, hr, Nat.not_lt.2 hbud])]
  rfl

theorem State.sweptFlow_relocs {s : State} {f : Nat} (hopen : s.flow.opened = none) (h : (s.fm (headOn 1)).relocs = []) :
    (s.fm (sweptFlow s f)).relocs = [] := by
  have hgroups : (s.fm (sweptFlow s f)).flow.groups = s.flow.groups ++ [⟨[.outstate [f]], 1, s.absNs, s.absNs + s.commitNs⟩] := by
    simp [Flows.groups, State.fm, sweptFlow, openWith, hopen, recLines]
  have hlines : (s.fm (sweptFlow s f)).pendLines = s.pendLines + 1 := by
    have hl := congrArg (fun l : List JGroup => (l.map JGroup.lines).sum) hgroups
    simp only [List.map_append, List.sum_append, List.map_cons, List.map_nil, List.sum_cons, List.sum_nil, Nat.add_zero] at hl
    exact hl
  refine State.relocs_none (s := s.fm (headOn 1)) rfl rfl rfl rfl rfl (fun l hl => ?_) (fun r hr => ?_) h
  · rw [State.headOn_endangered, decide_eq_true_eq]
    rw [State.endangered, decide_eq_true_eq, hlines] at hl
    have hlsn : (s.fm (sweptFlow s f)).flow.lsn = s.flow.lsn := rfl
    omega
  · have hl := congrArg (fun l : List JGroup => (l.map JGroup.recs).flatten) hgroups
    simp only [List.map_append, List.flatten_append] at hl
    have hx : r ∈ (s.flow.groups.map JGroup.recs).flatten := hr
    have hy : r ∈ ((s.fm (sweptFlow s f)).flow.groups.map JGroup.recs).flatten := hl ▸ List.mem_append_left _ hx
    exact hy

theorem outstateSweep_leaves {f : Nat} {v : Flow} {s : State} (hs : s.resetReq = none) (hrun : s.flowRuns = true) (hflows : s.flow.flows = [(f, v)])
    (hdirty : v.dirty = true) (hbud : 4000 ≤ s.budNow) (hopen : s.flow.opened = none) (hclear : s.headClear 1) :
    exec .outstateSweep s = .next (s.fm (sweptFlow s f)) := by
  obtain ⟨ho, hrel1⟩ : s.flow.owed = [] ∧ (s.fm (headOn 1)).relocs = [] := hclear
  have hrel : s.relocs = [] := by
    refine State.relocs_none (s := s.fm (headOn 1)) rfl rfl rfl rfl rfl (fun l hl => ?_) (fun r hr => hr) hrel1
    rw [State.headOn_endangered, decide_eq_true_eq]
    rw [State.endangered, decide_eq_true_eq] at hl
    omega
  have hadd := State.addRec_arrival (r := .outstate [f]) ho hrel hbud
  have hput : (s.fm (fun x => { x with arrWait := false })).putRecord (.outstate [f]) =
      s.fm (fun x => openWith s (.outstate [f]) { x with arrWait := false }) :=
    State.putRecord_first hopen (by decide : (1 : Nat) < 256)
  have hpay := State.payOwed_clear (s := s.fm (sweptFlow s f)) ho (State.sweptFlow_relocs hopen hrel1)
  have hx : outstateSweep s = s.fm (sweptFlow s f) := by
    unfold outstateSweep
    rw [if_neg (by simp [hrun])]
    extract_lets l t
    have hl : l = [f] := by simp [l, hflows, hdirty]
    have ht : t = s.fm (sweptFlow s f) := by
      have hchunks : chunks 4 256 l = [[f]] := by rw [hl]; rfl
      simp only [t, hchunks, List.foldl_cons, List.foldl_nil, hadd, hput]
      rfl
    rw [ht, hpay]
  obtain ⟨hreset, hpend, _⟩ := s.fm_leaves (sweptFlow s f)
  rw [exec_outstateSweep, hx, State.finish_kept (hreset.trans hs) hpend]

theorem sweptFlow_leaves {f : Nat} {v : Flow} {s : State} (hflows : s.flow.flows = [(f, v)]) :
    (s.fm (sweptFlow s f)).fl f = { v with dirty := false } ∧
    (s.fm (sweptFlow s f)).flow.opened = some ⟨[.outstate [f]], 1, s.absNs, s.absNs + s.commitNs⟩ ∧
    { s.fm (sweptFlow s f) with flow := s.flow } = s := by
  refine ⟨?_, rfl, rfl⟩
  have hfl : s.fl f = v := by simp [State.fl, hflows, SMap.get]
  rw [← hfl]
  exact Laws.get_set_same _ _ _

/-! ### Recovery of an empty ring -/

theorem Quiet.flow {s t : State} (h : Quiet s t) : t.flow = s.flow := by
  obtain ⟨_, _, _, _, _, _, _, _, _, _, _, _, _, _, _, _, hflow, _⟩ := h.stores
  exact hflow

theorem State.scanRing_empty {s : State} (h : s.flow.ring = []) : s.scanRing = ⟨[], [], [], false, 0, none, 0, []⟩ := by
  have hl : s.ringInOrder = [] := by rw [State.ringInOrder, h]; rfl
  rw [State.scanRing, hl]
  rfl

/-- The state as the scan of an empty ring leaves it. -/
def State.recovered (s : State) : State :=
  { s with flow := { s.flow with lsn := s.ringTop, inb := [] }, sump := { s.sump with inj := s.sump.inj.filter (fun x => !Inject.isLine x) } }

theorem State.recovered_leaves (s : State) : s.recovered.flow.out = s.flow.out ∧ s.recovered.flow.inb = [] ∧ s.recovered.pts = s.pts ∧
    s.recovered.pending = s.pending ∧ Eff s s.recovered [] :=
  ⟨rfl, rfl, rfl, rfl, ⟨fun _ _ _ _ => rfl, fun _ _ h => h, fun _ _ _ => Nat.le_refl _, rfl⟩⟩

theorem State.rebuildOut_nil (s : State) : s.rebuildOut [] = s := rfl

theorem State.rebuildIn_nil (s : State) : s.rebuildIn [] = s.fm (fun x => { x with inb := [] }) := rfl

theorem State.restoreOutlets_none {s : State} (h : s.flow.out = []) : s.restoreOutlets = s := by
  unfold State.restoreOutlets
  extract_lets t
  have ht : t = s := by
    refine (s.fm_congr (g := fun x => x) ?_).trans s.fm_id
    simp only [h, List.map_nil]
    rw [← h]
  rw [ht, h, List.foldl_nil]

theorem flowRecover_empty {s : State} (hst : s.g FLOW_STAT.STATE = feRecover) (hd : s.domOn 8 = true) (hboot : s.g CFG_BOOT.STAGE = 5)
    (hring : s.flow.ring = []) (hout : s.flow.out = []) : flowRecover s = (s.recovered.p FLOW_STAT.STATE feRun).raise (evFlow 9) clEvent := by
  unfold flowRecover
  rw [if_neg (by simp [hst, hd, hboot])]
  extract_lets s1 scan s2 inj s3 x s4 s5 recs s6 s7 s8
  have hscan : scan = ⟨[], [], [], false, 0, none, 0, []⟩ := State.scanRing_empty hring
  have h2 : s2 = s1 := by
    simp only [s2, hscan, State.countBy]
    rfl
  have hinj : inj = false := by simp only [inj, hscan, bne_self_eq_false, Bool.and_false]
  have h3 : s3 = s1 := by
    simp only [s3, hinj, hscan, h2]
    rfl
  have hrecs : recs = [] := by simp only [recs, hscan, List.flatMap_nil]
  have h5 : s5 = s4 := by
    simp only [s5, hscan]
    rfl
  have hout4 : (s4.fm (fun x => { x with inb := [] })).flow.out = [] := by
    rw [State.fm_flow]
    simp only [s4, h3]
    exact hout
  have h6 : s6 = s4.fm (fun x => { x with inb := [] }) := by
    simp only [s6, hrecs, h5, State.rebuildOut_nil, State.rebuildIn_nil]
    exact State.restoreOutlets_none hout4
  have h4 : s4.fm (fun x => { x with inb := [] }) = s.recovered := by
    simp only [s4, x, h3]
    rfl
  have h7 : s7 = s.recovered := by
    simp only [s7, h6, h4]
    refine (State.fm_congr _ (g := fun x => x) ?_).trans (State.fm_id _)
    have hr : s.recovered.flow.out = [] := hout
    simp only [hr, List.map_nil]
    rw [← hr]
  have h8 : s8 = (s.recovered.p FLOW_STAT.STATE feRun).raise (evFlow 9) clEvent := by simp only [s8, h7]
  have hflow : s8.flow.out = [] := by
    rw [h8]
    exact (congrArg Flows.out (Quiet.flow ((Quiet.p _ _ _).trans (Quiet.raise _ _ (by decide))))).trans hout
  rw [hflow, h8]
  rfl

theorem flowRecover_leaves {s : State} (hs : s.resetReq = none) (hst : s.g FLOW_STAT.STATE = feRecover) (hd : s.domOn 8 = true)
    (hboot : s.g CFG_BOOT.STAGE = 5) (hring : s.flow.ring = []) (hout : s.flow.out = []) : ∃ t, exec .flowRecover s = .next t ∧ t.flowRuns = true ∧
      t.flow.out = [] ∧ t.flow.inb = [] ∧ t.evPend (evFlow 9) = true ∧ s.keepsRegs t [FLOW_STAT.off] ∧ t.pts = s.pts := by
  rw [exec_flowRecover, flowRecover_empty hst hd hboot hring hout]
  obtain ⟨kout, kinb, kpts, kpend, he⟩ := s.recovered_leaves
  generalize s.recovered = u at *
  have hq : Quiet u ((u.p FLOW_STAT.STATE feRun).raise (evFlow 9) clEvent) := (Quiet.p u _ _).trans (Quiet.raise _ _ (by decide))
  have hgo := u.g_p_fit (f := FLOW_STAT.STATE) (v := feRun) (by decide) (by decide)
  have he1 : Eff u (u.p FLOW_STAT.STATE feRun) [FLOW_STAT.off] := Eff.p u _ _ (by decide) (by decide)
  generalize u.p FLOW_STAT.STATE feRun = v at *
  have hrun := State.raise_g v (ev := evFlow 9) clEvent (f := FLOW_STAT.STATE) (by decide) (by decide)
  have he2 := Eff.raise v (ev := evFlow 9) (cls := clEvent) (by decide) (by decide) [FLOW_STAT.off]
  have hpe := State.raise_pend v (ev := evFlow 9) clEvent (by decide)
  generalize v.raise (evFlow 9) clEvent = w at *
  have hall := (he.mono (by simp)).trans (he1.trans he2)
  obtain ⟨hpend, _, _, _, _, _, _, _, hpts, _⟩ := hq.stores
  refine ⟨w, congrArg _ (State.finish_eff hall hs (hpend.trans kpend)), ?_, (congrArg Flows.out hq.flow).trans (kout.trans hout),
    (congrArg Flows.inb hq.flow).trans kinb, hpe, hall.rd, hpts.trans kpts⟩
  rw [State.flowRuns, hrun, hgo]
  rfl

/-! ### The patrol of Reservoir -/

/-- A step of the journal: the flow record alone changes, the retired lines and the corrections noted stay. -/
structure Journals (s t : State) : Prop where
  frame : { t with flow := s.flow } = s
  retired : t.flow.retired = s.flow.retired
  corrAt : t.flow.corrAt = s.flow.corrAt

namespace Journals

theorem refl (s : State) : Journals s s := ⟨rfl, rfl, rfl⟩

theorem trans {s t u : State} (a : Journals s t) (b : Journals t u) : Journals s u :=
  ⟨(congrArg (fun x : State => { x with flow := s.flow }) b.frame :).trans a.frame, b.retired.trans a.retired, b.corrAt.trans a.corrAt⟩

theorem fm (s : State) {f : Flows → Flows} (hr : (f s.flow).retired = s.flow.retired) (hc : (f s.flow).corrAt = s.flow.corrAt) : Journals s (s.fm f) :=
  ⟨rfl, hr, hc⟩

theorem ite {c : Prop} [Decidable c] {s t u : State} (ht : Journals s t) (hu : Journals s u) : Journals s (if c then t else u) := by
  split
  · exact ht
  · exact hu

theorem foldl {α : Type} {f : State → α → State} (h : ∀ t e, Journals t (f t e)) : ∀ (l : List α) (s : State), Journals s (l.foldl f s)
  | [], s => refl s
  | e :: l, s => (h s e).trans (foldl h l (f s e))

theorem closeGroup (s : State) : Journals s s.closeGroup := by
  unfold State.closeGroup
  split
  · exact refl s
  · exact ite (fm s rfl rfl) (fm s rfl rfl)

theorem putRecord (s : State) (r : JRec) : Journals s (s.putRecord r) := by
  unfold State.putRecord
  extract_lets n full t g u
  have ht : Journals s t := ite (closeGroup s) (refl s)
  have hu : Journals t u := fm t rfl rfl
  clear_value u g t
  exact ite ((ht.trans hu).trans (closeGroup u)) (ht.trans hu)

theorem putIf (s : State) (r : JRec) : Journals s (s.putIf r).2 := by
  unfold State.putIf
  split
  · exact refl s
  · exact putRecord s r

theorem payList (l : List JRec) : ∀ s : State, Journals s (s.payList l) := by
  induction l with
  | nil => exact fun s => fm s rfl rfl
  | cons r l ih =>
    intro s
    have hput := putIf s r
    unfold State.payList
    generalize s.putIf r = q at *
    obtain ⟨b, t⟩ := q
    cases b
    · exact hput.trans (fm t rfl rfl)
    · exact hput.trans (ih t)

theorem oweRecord (s : State) (r : JRec) : Journals s (s.oweRecord r) := by
  have h1 : Journals s (s.fm (fun x => { x with owed := x.owed ++ [r] })) := fm s rfl rfl
  unfold State.oweRecord
  generalize s.fm (fun x => { x with owed := x.owed ++ [r] }) = u at *
  have h2 : Journals u u.relocate := foldl (fun t r => putIf t r) u.relocs u
  exact (h1.trans h2).trans (payList _ _)

/-- What a step of the journal leaves. -/
theorem leaves {s t : State} (h : Journals s t) : t.regs = s.regs ∧ t.resetReq = s.resetReq ∧ t.pending = s.pending ∧ t.sump = s.sump :=
  ⟨(congrArg State.regs h.frame :), (congrArg State.resetReq h.frame :), (congrArg State.pending h.frame :), (congrArg State.sump h.frame :)⟩

end Journals

/-- A journal line's place in the reserve noted. -/
def State.retireNoted (s : State) (i : Nat) : State :=
  s.fm (fun x => { x with retired := SMap.set (fun _ => 0) x.retired i (s.flow.retired.length + 1) })

theorem State.retire_leaves {s : State} {i : Nat} (hfree : SMap.get (fun _ => 0) s.flow.retired i = 0) (hroom : s.flow.retired.length < 4096) :
    SMap.get (fun _ => 0) (s.retire i).flow.retired i = s.flow.retired.length + 1 ∧ (s.retire i).flow.corrAt = s.flow.corrAt ∧
      Chain s (s.retire i) [] := by
  unfold State.retire
  extract_lets n t u
  rw [if_neg (by simp only [n]; omega)]
  have ht : t.flow.retired = SMap.set (fun _ => 0) s.flow.retired i n ∧ t.flow.corrAt = s.flow.corrAt ∧ Chain s t [] := ⟨rfl, rfl, Chain.of_regs []⟩
  have hu : Journals t u := Journals.foldl (fun v r => Journals.oweRecord v r) _ _
  clear_value u t
  obtain ⟨hret, hcorr, hst⟩ := ht
  obtain ⟨hregs, hreset, hpend, hsump⟩ := hu.leaves
  have hgot : SMap.get (fun _ => 0) u.flow.retired i = n := by rw [hu.retired, hret, Laws.get_set_same]
  have hc := hu.corrAt.trans hcorr
  have hsu := hst.trans (Chain.of_regs [] hregs hsump hreset hpend)
  split
  · have hq := Quiet.raise u (evFlow 7) (cls := clDegraded) (by decide)
    exact ⟨by rw [hq.flow, hgot], by rw [hq.flow, hc], hsu.trans (Chain.raise u (by decide) (by decide) [])⟩
  · exact ⟨hgot, hc, hsu⟩

theorem Chain.retire (s : State) (i : Nat) : Chain s (s.retire i) [] ∧ (s.retire i).flow.corrAt = s.flow.corrAt := by
  by_cases h : SMap.get (fun _ => 0) s.flow.retired i ≠ 0 ∨ 4096 < s.flow.retired.length + 1
  · have hx : s.retire i = s := if_pos h
    rw [hx]
    exact ⟨Chain.refl s [], rfl⟩
  · obtain ⟨_, hc, hs⟩ := State.retire_leaves (s := s) (i := i) (by omega) (by omega)
    exact ⟨hs, hc⟩

theorem reservoirPatrol_eq {off : Nat} {e : EccFind} {s : State} (hd : s.domOn 8 = true) (hinj : s.sump.inj = []) :
    reservoirPatrol off e s = s.patrolled off e := by
  unfold reservoirPatrol
  rw [if_neg (by simp [hd]), hinj, List.find?_nil]

/-- A corrected word counted. -/
def State.eccCounted (s : State) : State := s.count FLOW_ECC_CORR.off

/-- The instant of a correction noted for a journal line. -/
def State.corrNoted (s : State) (i : Nat) : State := s.fm (fun x => { x with corrAt := SMap.set (fun _ => none) x.corrAt i (some s.absNs) })

theorem State.corrNoted_leaves (s : State) (i : Nat) : SMap.get (fun _ => none) (s.corrNoted i).flow.corrAt i = some s.absNs ∧
    (s.corrNoted i).flow.retired = s.flow.retired ∧ Chain s (s.corrNoted i) [] := by
  refine ⟨?_, rfl, Chain.of_regs []⟩
  rw [State.corrNoted, State.fm_flow]
  exact Laws.get_set_same (d := fun _ => (none : Option Int)) s.flow.corrAt i (some s.absNs)

theorem State.eccCounted_leaves {s : State} (h : (s.rd FLOW_ECC_CORR.off).toNat + 1 < 0xFFFFFFFF) :
    (s.eccCounted.rd FLOW_ECC_CORR.off).toNat = (s.rd FLOW_ECC_CORR.off).toNat + 1 ∧ { s.eccCounted with regs := s.regs } = s ∧
      s.sameRegs s.eccCounted [FLOW_ECC_CORR.off] ∧ s.eccCounted.flow = s.flow ∧ s.eccCounted.absNs = s.absNs ∧
      s.eccCounted.resetReq = s.resetReq ∧ s.eccCounted.pending = s.pending := by
  have hcnt := s.count_toNat FLOW_ECC_CORR.off h
  have heq := s.count_eq FLOW_ECC_CORR.off h
  unfold State.eccCounted
  generalize BitVec.ofNat 32 ((s.rd FLOW_ECC_CORR.off).toNat + 1) = w at heq
  refine ⟨hcnt, ?_⟩
  rw [heq]
  exact ⟨rfl, fun k hk => s.rd_wr_ne w (by simpa using hk), s.wr_flow _ w, rfl, s.wr_resetReq _ w, s.wr_pending _ w⟩

theorem State.patrolled_corrected (s : State) (off : Nat) : s.patrolled off .corrected =
    if 3145728 ≤ off then s.eccCounted
    else if (SMap.get (fun _ => none) s.eccCounted.flow.corrAt (off / 64)).any (fun t => decide (s.eccCounted.absNs - t < thirtyDays)) then
      (s.eccCounted.corrNoted (off / 64)).retire (off / 64)
    else s.eccCounted.corrNoted (off / 64) := rfl

theorem patrolCorrected_leaves {off : Nat} {s : State} (hs : s.resetReq = none) (hd : s.domOn 8 = true) (hinj : s.sump.inj = [])
    (hcnt : (s.rd FLOW_ECC_CORR.off).toNat + 1 < 0xFFFFFFFF) : ∃ t, exec (.reservoirPatrol off .corrected) s = .next t ∧
      (t.rd FLOW_ECC_CORR.off).toNat = (s.rd FLOW_ECC_CORR.off).toNat + 1 ∧
      (3145728 ≤ off → { t with regs := s.regs } = s ∧ s.sameRegs t [FLOW_ECC_CORR.off]) ∧
      (off < 3145728 → SMap.get (fun _ => none) t.flow.corrAt (off / 64) = some s.absNs) ∧
      (∀ at_, off < 3145728 → SMap.get (fun _ => none) s.flow.corrAt (off / 64) = some at_ → s.absNs - at_ < thirtyDays →
        SMap.get (fun _ => 0) s.flow.retired (off / 64) = 0 → s.flow.retired.length < 4096 →
        SMap.get (fun _ => 0) t.flow.retired (off / 64) = s.flow.retired.length + 1) := by
  rw [exec_reservoirPatrol, reservoirPatrol_eq hd hinj, s.patrolled_corrected]
  obtain ⟨hval, hframe, hsame, hflow, hnow, hreset, hpend⟩ := s.eccCounted_leaves hcnt
  generalize s.eccCounted = u at *
  by_cases hoff : 3145728 ≤ off
  · rw [if_pos hoff]
    exact ⟨u, congrArg _ (State.finish_kept (hreset.trans hs) hpend), hval, fun _ => ⟨hframe, hsame⟩, fun h => by omega, fun _ h => by omega⟩
  · rw [if_neg hoff, hnow]
    obtain ⟨hcorr, hret, hu⟩ := u.corrNoted_leaves (off / 64)
    rw [hnow] at hcorr
    obtain ⟨hr, hrc⟩ := Chain.retire (u.corrNoted (off / 64)) (off / 64)
    have hfin : ∀ v, Chain u v [] → s.finish v = v ∧ (v.rd FLOW_ECC_CORR.off).toNat = (s.rd FLOW_ECC_CORR.off).toNat + 1 := fun v hv =>
      ⟨State.finish_kept (hv.resetReq.trans (hreset.trans hs)) (hv.pending.trans hpend), by rw [hv.word (by simp) (by decide), hval]⟩
    by_cases htwice : (SMap.get (fun _ => none) u.flow.corrAt (off / 64)).any (fun t => decide (s.absNs - t < thirtyDays)) = true
    · rw [if_pos htwice]
      obtain ⟨hf, hv⟩ := hfin _ (hu.trans hr)
      refine ⟨_, congrArg _ hf, hv, fun h => absurd h hoff, fun _ => by rw [hrc, hcorr], fun at_ _ _ _ hfree hroom => ?_⟩
      rw [(State.retire_leaves (by rw [hret, hflow, hfree]) (by rw [hret, hflow]; exact hroom)).1, hret, hflow]
    · rw [if_neg htwice]
      obtain ⟨hf, hv⟩ := hfin _ hu
      refine ⟨_, congrArg _ hf, hv, fun h => absurd h hoff, fun _ => hcorr, fun at_ _ hat hlt _ _ => absurd ?_ htwice⟩
      rw [hflow, hat, Option.any_some]
      exact decide_eq_true hlt

/-- A word lost, with its fault. -/
def State.eccLost (s : State) : State := (s.count FLOW_ECC_UNCORR.off).raise (evFlow 8) clSevere

/-- The ring's line forgotten with the results kept on it. -/
def State.lineForgot (s : State) (i : Nat) : State :=
  s.fm (fun x => { x with kept := x.kept.filter (fun k => !onLine i 1 k.lsn), ring := SMap.set lineDflt x.ring i (lineDflt 0) })

theorem State.lineLost_one {s : State} {i : Nat} {o : OutItem} (hout : s.flow.out = [o]) (hon : onLine i (accLines o.it.data.length) o.lsn = true) :
    s.lineLost i = (s.eccLost.lineForgot i).resolve o (noKept stLOST) false := by
  unfold State.lineLost
  extract_lets here outs live t u
  have houts : outs = [o] := by simp only [outs, hout, List.filter_cons, hon, if_true, List.filter_nil]
  have hlive : live = true := by simp [live, houts]
  rw [if_neg (by rw [hlive]; decide), houts]
  rfl

/-- The item taken off the outstanding ones, its flow's state as it then stands. -/
def State.itemGone (s : State) (o : OutItem) : State :=
  let f := o.it.flow
  let s := s.fm (fun x => { x with out := x.out.filter (fun y => !(y.it.flow == f && y.it.seq == o.it.seq && y.it.inc == o.it.inc)) })
  s.setFl f { s.fl f with low := s.lowOf f, dirty := (s.fl f).dirty || s.lowOf f != (s.fl f).low,
                          due := if !s.flow.out.any (fun y => y.it.flow == f) then none else (s.fl f).due }

theorem State.itemGone_leaves {s : State} {o : OutItem} (hout : s.flow.out = [o]) : (s.itemGone o).flow.out = [] ∧ Chain s (s.itemGone o) [] := by
  refine ⟨?_, Chain.of_regs []⟩
  have h : (s.itemGone o).flow.out = s.flow.out.filter (fun y => !(y.it.flow == o.it.flow && y.it.seq == o.it.seq && y.it.inc == o.it.inc)) := rfl
  rw [h, hout]
  simp

theorem State.resolve_plain {s : State} {o : OutItem} {k : Kept} (hp : o.it.plain) : s.resolve o k false =
    (s.itemGone o).raiseIf (k.status != stOK) (evFlow 2) clNote := by
  obtain ⟨hnone, hpath⟩ := hp
  unfold State.resolve
  extract_lets f t low idle v u w x
  have hu : u = s.itemGone o := rfl
  have hw : w = u := by simp only [w, hnone]
  have hx : x = u := by
    simp only [x, hw]
    unfold State.report
    cases hpt : o.it.path <;> rw [hpt] at hpath <;> simp_all [Path.plain]
  rw [hx, hu]

theorem patrolUncorrectable_leaves {off : Nat} {o : OutItem} {s : State} (hs : s.resetReq = none) (hd : s.domOn 8 = true) (hinj : s.sump.inj = [])
    (hoff : off < 3145728) (hfree : SMap.get (fun _ => 0) s.flow.retired (off / 64) = 0) (hout : s.flow.out = [o])
    (hon : onLine (off / 64) (accLines o.it.data.length) o.lsn = true) (hplain : o.it.plain)
    (hcnt : (s.rd FLOW_ECC_UNCORR.off).toNat + 1 < 0xFFFFFFFF) : ∃ t, exec (.reservoirPatrol off .uncorrectable) s = .next t ∧ t.flow.out = [] ∧
      (t.rd FLOW_ECC_UNCORR.off).toNat = (s.rd FLOW_ECC_UNCORR.off).toNat + 1 ∧ t.evPend (evFlow 8) = true ∧
      clSevere ≤ t.evKept (evFlow 8) ∧ t.evPend (evFlow 2) = true ∧ s.keepsRegs t [FLOW_ECC_UNCORR.off] := by
  have hline : s.lineAt off = some (off / 64) := (if_pos hoff).trans (if_pos hfree)
  have hx : s.patrolled off .uncorrectable = (s.eccLost.lineForgot (off / 64)).resolve o (noKept stLOST) false := by
    unfold State.patrolled
    simp only [hline]
    exact State.lineLost_one hout hon
  rw [exec_reservoirPatrol, reservoirPatrol_eq hd hinj, hx, State.resolve_plain hplain]
  have hc := s.count_raise (off := FLOW_ECC_UNCORR.off) (ev := evFlow 8) (cls := clSevere) hcnt (by decide) (by decide) (by decide)
  have hpend1 : s.eccLost.pending = s.pending := State.pending_of_bare hc.bare
  have hflow1 : s.eccLost.flow = s.flow := Quiet.flow ⟨hc.bare, hc.eff.resetReq⟩
  rw [← State.eccLost] at hc
  generalize s.eccLost = u at *
  have hv : Chain u (u.lineForgot (off / 64)) [] ∧ (u.lineForgot (off / 64)).flow.out = u.flow.out := ⟨Chain.of_regs [], rfl⟩
  generalize u.lineForgot (off / 64) = v at *
  obtain ⟨hgone, hw⟩ := State.itemGone_leaves (hv.2.trans ((congrArg Flows.out hflow1).trans hout))
  generalize v.itemGone o = w at *
  rw [show ((noKept stLOST).status != stOK) = true by decide, State.raiseIf, if_pos rfl]
  have hq := Quiet.raise w (evFlow 2) (cls := clNote) (by decide)
  have hr := Chain.raise w (ev := evFlow 2) (cls := clNote) (by decide) (by decide) []
  have hpe := State.raise_pend w (ev := evFlow 2) clNote (by decide)
  generalize w.raise (evFlow 2) clNote = x at *
  have hux := (hv.1.trans hw).trans hr
  have hall : Eff s x [FLOW_ECC_UNCORR.off] := hc.eff.trans (hux.toEff.mono (by simp))
  exact ⟨x, congrArg _ (State.finish_eff hall hs (hux.pending.trans hpend1)), by rw [hq.flow, hgone], by rw [hux.word (by simp) (by decide), hc.cnt],
    hux.pend _ (by decide) hc.pend, hc.kept.trans (hux.kept _ (by decide) hc.pend), hpe, hall.rd⟩

/-- Settles O36. -/
theorem journalUpkeep : Obligations.JournalUpkeep := by
  refine ⟨fun f v s hs hrun hflows hdirty hbud hopen hclear => ?_, fun s hs hst hd hboot hring hout => flowRecover_leaves hs hst hd hboot hring hout,
    fun off s hs hd hinj hcnt => patrolCorrected_leaves hs hd hinj hcnt,
    fun off o s hs hd hinj hoff hfree hout hon hplain hcnt => patrolUncorrectable_leaves hs hd hinj hoff hfree hout hon hplain hcnt⟩
  obtain ⟨hfl, hop, hframe⟩ := sweptFlow_leaves hflows
  exact ⟨_, outstateSweep_leaves hs hrun hflows hdirty hbud hopen hclear, hfl, hop, hframe⟩

end Sys2Proof.Machine
end

section
/-! The ring's registers (R135, R151, R156, R157): RING_CFG, the staged cycle set and its apply time, subscriptions and publication ranges. -/

namespace Sys2Proof.Machine

/- One evaluation after another: each of them, left to itself, would hold a thread. -/
set_option Elab.async false

theorem exec_ringCfgWrite (m : Master) (val : Word) (s : State) :
    exec (.ringCfgWrite m val) s = .next (s.finish (s.regCmd m RING_CFG.off 4 val)) := by rfl

theorem exec_ringApplyWrite (m : Master) (val : Word) (s : State) :
    exec (.ringApplyWrite m val) s = .next (s.finish (s.regCmd m RING_APPLY_HI.off 4 val)) := by rfl

theorem exec_cycleApplyAt (s : State) : exec .cycleApplyAt s = .next (s.finish (cycleApplyAt s)) := by rfl

theorem exec_subscriptionWrite (m : Master) (k : Fin 2) (val : Word) (s : State) : exec (.subscriptionWrite m k val) s =
    .next (s.finish (s.regCmd m (if k = 0 then RING_PUB_CFG.off else RING_SUB_DST.off) 4 val)) := by rfl

/-! ### Changes of registers and of the cycle record -/

/-- A chain that changes listed registers and the cycle record alone. -/
structure RegCyc (s t : State) (l : List Nat) : Prop where
  same : s.sameRegs t l
  frame : { t with regs := s.regs, cyc := s.cyc } = s

namespace RegCyc

theorem refl (s : State) (l : List Nat) : RegCyc s s l := ⟨fun _ _ => rfl, rfl⟩

theorem trans {s t u : State} {l : List Nat} (a : RegCyc s t l) (b : RegCyc t u l) : RegCyc s u l :=
  ⟨fun k hk => (b.same k hk).trans (a.same k hk), (congrArg (fun x : State => { x with regs := s.regs, cyc := s.cyc }) b.frame :).trans a.frame⟩

theorem wr (s : State) {k : Nat} (w : Word) {l : List Nat} (hk : k ∈ l) : RegCyc s (s.wr k w) l :=
  ⟨fun _ hi => s.rd_wr_ne w fun h => hi (h ▸ hk), rfl⟩

theorem p (s : State) (f : FRef) (v : Nat) {l : List Nat} (hk : f.off ∈ l) : RegCyc s (s.p f v) l := wr s _ hk

theorem pb (s : State) (f : FRef) (b : Bool) {l : List Nat} (hk : f.off ∈ l) : RegCyc s (s.pb f b) l := wr s _ hk

theorem cy (s : State) (f : Cycle → Cycle) (l : List Nat) : RegCyc s (s.cy f) l := ⟨fun _ _ => rfl, rfl⟩

theorem setRole (s : State) {l : List Nat} (hl : RING_STAT.off ∈ l) (hn : DEV_NODE.off ∈ l) : RegCyc s s.setRole l := by
  unfold State.setRole
  exact ((p s _ _ hl).trans (pb _ _ _ hn)).trans (pb _ _ _ hn)

/-- What the frame says of the queue, of the reset and of the other stores. -/
theorem leaves {s t : State} {l : List Nat} (h : RegCyc s t l) : t.resetReq = s.resetReq ∧ t.pending = s.pending :=
  ⟨(congrArg State.resetReq h.frame :), (congrArg State.pending h.frame :)⟩

end RegCyc

/-! ### RING_CFG -/

theorem ringCfg_row : regAlone RING_CFG.off 2 = true ∧ hasField RING_CFG.off .rw RING_CFG.EN = true ∧ hasField RING_CFG.off .rw RING_CFG.JOIN = true ∧
    hasField RING_CFG.off .rw RING_CFG.ELIG = true := by decide +kernel

theorem State.blkTop_ringCfg {s : State} {r : RegWr} (h : r.off = RING_CFG.off) : s.blkTop r = s.ringCfgWrite r.new := by
  simp (decide := true) [State.blkTop, State.blkWrite, State.blkRing, h]

/-- The machinery stands still as EN becomes 0. -/
def Cycle.off (c : Cycle) : Cycle :=
  { c with launching := false, cand := false, beaten := false, special := none, stopNext := false, staged := [] }

/-- The count of cycles without a master begins. -/
def Cycle.joined (c : Cycle) : Cycle := { c with noMaster := 0 }

theorem State.ringEn_wr (s : State) (new : Word) : (s.wr RING_CFG.off new).ringEn = decide (RING_CFG.EN.get new ≠ 0) := s.flag_wr_self new rfl

/-- What the role's following leaves of the other fields. -/
theorem State.setRole_keeps (s : State) {f : FRef} (h1 : RING_STAT.ROLE.sep f = true) (h2 : DEV_NODE.MASTER.sep f = true)
    (h3 : DEV_NODE.BACKUP.sep f = true) : s.setRole.g f = s.g f := by
  unfold State.setRole
  exact (State.g_pb_sep _ _ h3).trans ((State.g_pb_sep _ _ h2).trans (s.g_p_sep _ h1))

/-- What a write of RING_CFG leaves. -/
structure CfgWritten (s t : State) (new : Word) : Prop where
  chain : RegCyc s t [RING_CFG.off, RING_STAT.off, DEV_NODE.off]
  cfg : t.rd RING_CFG.off = new
  stopped : RING_CFG.EN.get new = 0 → t.g RING_STAT.ROLE = roOff ∧ t.flag RING_STAT.HANDOFF = false ∧ t.cyc = s.cyc.off
  started : RING_CFG.EN.get new ≠ 0 → s.ringEn = false → t.flag RING_STAT.SLOT_ERR = s.slotOut ∧ t.cyc = s.cyc.joined

theorem State.slotOut_wr (s : State) (new : Word) : (s.wr RING_CFG.off new).slotOut = s.slotOut := by
  rw [State.slotOut, State.slotOut, s.flag_wr_ne new (g := RING_SLOT.VALID) (by decide), s.g_wr_ne _ new RING_SUM.FRAMES (by decide),
    s.g_wr_ne _ new RING_SLOT.FRAME (by decide), s.g_wr_ne _ new RING_SUM.LEN (by decide), s.g_wr_ne _ new RING_SLOT.OFFSET (by decide),
    s.g_wr_ne _ new RING_SLOT.LEN (by decide)]

theorem State.setRole_rd (s : State) {k : Nat} (h1 : k ≠ RING_STAT.off) (h2 : k ≠ DEV_NODE.off) : s.setRole.rd k = s.rd k :=
  (RegCyc.setRole s (l := [RING_STAT.off, DEV_NODE.off]) (by simp) (by simp)).same k (by simp [h1, h2])

theorem State.setRole_cycle (s : State) : s.setRole.cyc = s.cyc := s.setRole_leaves.2.1

/-- EN written 0. -/
theorem State.ringCfgWrite_off {s : State} {new : Word} (h : RING_CFG.EN.get new = 0) :
    s.ringCfgWrite new = (stOK, ((((s.wr RING_CFG.off new).pb RING_STAT.HANDOFF false).cy Cycle.off).setRole)) := by
  have hen : (s.wr RING_CFG.off new).ringEn = false := by rw [s.ringEn_wr, h]; rfl
  unfold State.ringCfgWrite
  extract_lets was a b c
  have ha : a.ringEn = false := hen
  have haw : s.wr RING_CFG.off new = a := rfl
  rw [haw]
  clear_value a
  have hb : b = a := if_neg (by rw [ha]; exact fun hc => Bool.false_ne_true hc.1)
  have hc : c = (a.pb RING_STAT.HANDOFF false).cy Cycle.off := by
    simp only [c, hb]
    exact if_neg (by rw [ha]; exact Bool.false_ne_true)
  rw [hc]

/-- EN written 1. -/
theorem State.ringCfgWrite_on {s : State} {new : Word} (h : RING_CFG.EN.get new ≠ 0) :
    s.ringCfgWrite new = (stOK, State.setRole (if s.ringEn then s.wr RING_CFG.off new
      else ((s.wr RING_CFG.off new).pb RING_STAT.SLOT_ERR s.slotOut).cy Cycle.joined)) := by
  have hen : (s.wr RING_CFG.off new).ringEn = true := by rw [s.ringEn_wr]; exact decide_eq_true h
  have hslot := s.slotOut_wr new
  unfold State.ringCfgWrite
  extract_lets was a b c
  have ha : a.ringEn = true := hen
  have has : a.slotOut = s.slotOut := hslot
  have haw : s.wr RING_CFG.off new = a := rfl
  rw [haw]
  clear_value a
  have hb : b = if s.ringEn then a else (a.pb RING_STAT.SLOT_ERR s.slotOut).cy Cycle.joined := by
    simp only [b, ha, has, true_and, Bool.not_eq_true']
    cases hw : was
    · have hw' : s.ringEn = false := hw
      rw [hw', if_pos rfl, if_neg Bool.false_ne_true]
      rfl
    · have hw' : s.ringEn = true := hw
      rw [hw', if_neg (by decide), if_pos rfl]
  have hbe : b.ringEn = true := by
    rw [hb]
    split
    · exact ha
    · exact (State.flag_pb_sep a (f := RING_STAT.SLOT_ERR) (g := RING_CFG.EN) s.slotOut (by decide)).trans ha
  have hc : c = b := if_pos hbe
  rw [hc, hb]

theorem State.ringCfgWrite_written (s : State) (new : Word) : ∃ t, s.ringCfgWrite new = (stOK, t) ∧ CfgWritten s t new := by
  have h1 : RegCyc s (s.wr RING_CFG.off new) [RING_CFG.off, RING_STAT.off, DEV_NODE.off] := RegCyc.wr s new (by simp)
  have hrd := s.rd_wr_same RING_CFG.off new
  have hen := s.ringEn_wr new
  have hcyc := s.wr_cyc RING_CFG.off new
  by_cases h : RING_CFG.EN.get new = 0
  · rw [State.ringCfgWrite_off h]
    rw [h] at hen
    generalize s.wr RING_CFG.off new = a at *
    have h2 : RegCyc a (a.pb RING_STAT.HANDOFF false) [RING_CFG.off, RING_STAT.off, DEV_NODE.off] := RegCyc.pb a _ _ (by simp)
    have hrd2 := a.rd_pb_ne (f := RING_STAT.HANDOFF) false (k := RING_CFG.off) (by decide)
    have hho := a.flag_pb_self (f := RING_STAT.HANDOFF) false (by decide) rfl
    have hen2 := a.flag_pb_sep (f := RING_STAT.HANDOFF) (g := RING_CFG.EN) false (by decide)
    have hcyc2 := a.pb_cyc RING_STAT.HANDOFF false
    generalize a.pb RING_STAT.HANDOFF false = b at *
    have h3 := RegCyc.cy b Cycle.off [RING_CFG.off, RING_STAT.off, DEV_NODE.off]
    have hregs : (b.cy Cycle.off).regs = b.regs := rfl
    have hcyc3 : (b.cy Cycle.off).cyc = b.cyc.off := rfl
    generalize b.cy Cycle.off = c at *
    have h4 := RegCyc.setRole c (l := [RING_CFG.off, RING_STAT.off, DEV_NODE.off]) (by simp) (by simp)
    have hrole : c.roleNow = roOff := if_pos (by
      rw [State.ringEn, State.flag_of_regs hregs, hen2]
      exact congrArg Bool.not hen)
    obtain ⟨_, hcyc4, hr, _⟩ := c.setRole_leaves
    refine ⟨_, rfl, ((h1.trans h2).trans h3).trans h4, ?_, fun _ => ⟨by rw [hr, hrole]; rfl, ?_, by rw [hcyc4, hcyc3, hcyc2, hcyc]⟩, fun hne => absurd h hne⟩
    · rw [c.setRole_rd (by decide) (by decide), State.rd_of_regs hregs, hrd2, hrd]
    · rw [State.flag, c.setRole_keeps (by decide) (by decide) (by decide), State.g_of_regs hregs]
      exact hho
  · rw [State.ringCfgWrite_on h]
    generalize s.wr RING_CFG.off new = a at *
    cases hw : s.ringEn
    · rw [if_neg Bool.false_ne_true]
      have h2 : RegCyc a (a.pb RING_STAT.SLOT_ERR s.slotOut) [RING_CFG.off, RING_STAT.off, DEV_NODE.off] := RegCyc.pb a _ _ (by simp)
      have hrd2 := a.rd_pb_ne (f := RING_STAT.SLOT_ERR) s.slotOut (k := RING_CFG.off) (by decide)
      have hse := a.flag_pb_self (f := RING_STAT.SLOT_ERR) s.slotOut (by decide) rfl
      have hcyc2 := a.pb_cyc RING_STAT.SLOT_ERR s.slotOut
      generalize a.pb RING_STAT.SLOT_ERR s.slotOut = b at *
      have h3 := RegCyc.cy b Cycle.joined [RING_CFG.off, RING_STAT.off, DEV_NODE.off]
      have hregs : (b.cy Cycle.joined).regs = b.regs := rfl
      have hcyc3 : (b.cy Cycle.joined).cyc = b.cyc.joined := rfl
      generalize b.cy Cycle.joined = c at *
      have h4 := RegCyc.setRole c (l := [RING_CFG.off, RING_STAT.off, DEV_NODE.off]) (by simp) (by simp)
      refine ⟨_, rfl, ((h1.trans h2).trans h3).trans h4, ?_, fun h0 => absurd h0 h, fun _ _ => ⟨?_, by rw [c.setRole_cycle, hcyc3, hcyc2, hcyc]⟩⟩
      · rw [c.setRole_rd (by decide) (by decide), State.rd_of_regs hregs, hrd2, hrd]
      · rw [State.flag, c.setRole_keeps (by decide) (by decide) (by decide), State.g_of_regs hregs]
        exact hse
    · rw [if_pos rfl]
      have h4 := RegCyc.setRole a (l := [RING_CFG.off, RING_STAT.off, DEV_NODE.off]) (by simp) (by simp)
      exact ⟨_, rfl, h1.trans h4, by rw [a.setRole_rd (by decide) (by decide), hrd], fun h0 => absurd h0 h, fun _ hf => absurd (hw.symm.trans hf) (by decide)⟩

theorem ringCfgWrite_leaves {m : Master} {val : Word} {s : State} (hs : s.serves m RING_CFG.off 2) :
    ∃ t, exec (.ringCfgWrite m val) s = .next t ∧ t.toldOK m ∧ t.g RING_CFG.EN = RING_CFG.EN.get val ∧
      t.g RING_CFG.JOIN = RING_CFG.JOIN.get val ∧ t.g RING_CFG.ELIG = RING_CFG.ELIG.get val ∧
      (RING_CFG.EN.get val = 0 → t.g RING_STAT.ROLE = roOff ∧ t.flag RING_STAT.HANDOFF = false ∧ t.cyc = s.cyc.off) ∧
      (RING_CFG.EN.get val = 1 → s.ringEn = false → t.flag RING_STAT.SLOT_ERR = s.slotOut ∧ t.cyc = s.cyc.joined) ∧
      s.sameRegs t [RING_CFG.off, RING_STAT.off, DEV_NODE.off] ∧ { t with regs := s.regs, cyc := s.cyc, resp := s.resp } = s := by
  obtain ⟨halone, hen, hjoin, helig⟩ := ringCfg_row
  have hget : ∀ f, hasField RING_CFG.off .rw f = true → f.get (s.regWr m RING_CFG.off val).new = f.get val := fun f hf => newWord_get_rw hf _ val
  obtain ⟨t, ht, hw⟩ := s.ringCfgWrite_written (s.regWr m RING_CFG.off val).new
  have hblk : s.blkTop (s.regWr m RING_CFG.off val) = (stOK, t) := (State.blkTop_ringCfg rfl).trans ht
  generalize (s.regWr m RING_CFG.off val).new = new at *
  obtain ⟨hreset, hpend⟩ := hw.chain.leaves
  have hfin := State.serves_finish hs halone hblk (hreset.trans (State.serves_noReset hs)) hpend
  have hcfg : ∀ f : FRef, f.off = RING_CFG.off → hasField RING_CFG.off .rw f = true → (t.answer m stOK []).g f = f.get val := fun f hoff hf => by
    rw [State.answer_g, State.g, hoff, hw.cfg, hget f hf]
  refine ⟨t.answer m stOK [], by rw [exec_ringCfgWrite, hfin], rfl, hcfg _ rfl hen, hcfg _ rfl hjoin, hcfg _ rfl helig, fun h0 => ?_, fun h1 hoff => ?_,
    fun k hk => by rw [State.answer_rd, hw.chain.same k hk], ?_⟩
  · rw [State.answer_g, State.answer_flag, State.answer_cyc]
    exact hw.stopped ((hget _ hen).trans h0)
  · rw [State.answer_flag, State.answer_cyc]
    exact hw.started (by rw [hget _ hen, h1]; decide) hoff
  · exact (congrArg (fun x : State => { x with resp := s.resp }) hw.chain.frame :)

/-! ### RING_APPLY -/

theorem ringApply_row : regHigh RING_APPLY_HI.off RING_APPLY_LO.off 2 2 = true ∧ hasField RING_APPLY_LO.off .rw RING_APPLY_LO.TIME = true ∧
    hasField RING_APPLY_HI.off .rw RING_APPLY_HI.TIME = true := by decide +kernel

theorem State.blkTop_ringApply {s : State} {r : RegWr} (h : r.off = RING_APPLY_HI.off) : s.blkTop r = s.applyWrite (r.w 0) (r.w 1) := by
  simp (decide := true) [State.blkTop, State.blkWrite, State.blkRing, h]

/-- The set captured with its apply time. -/
def State.applySet (s : State) (lo hi : Word) (a : ApplySet) : State :=
  (((s.wr RING_APPLY_LO.off lo).wr RING_APPLY_HI.off hi).cy (fun c => { c with pend := some a })).pb RING_STAT.APPLY_PEND true

theorem State.applySet_leaves (s : State) (lo hi : Word) (a : ApplySet) :
    RegCyc s (s.applySet lo hi a) [RING_APPLY_LO.off, RING_APPLY_HI.off, RING_STAT.off] ∧
    (s.applySet lo hi a).flag RING_STAT.APPLY_PEND = true ∧ (s.applySet lo hi a).cyc.pend = some a := by
  have h1 : RegCyc s (s.wr RING_APPLY_LO.off lo) [RING_APPLY_LO.off, RING_APPLY_HI.off, RING_STAT.off] := RegCyc.wr s lo (by simp)
  unfold State.applySet
  generalize s.wr RING_APPLY_LO.off lo = u at *
  have h2 : RegCyc u (u.wr RING_APPLY_HI.off hi) [RING_APPLY_LO.off, RING_APPLY_HI.off, RING_STAT.off] := RegCyc.wr u hi (by simp)
  generalize u.wr RING_APPLY_HI.off hi = v at *
  have h3 := RegCyc.cy v (fun c => { c with pend := some a }) [RING_APPLY_LO.off, RING_APPLY_HI.off, RING_STAT.off]
  have hpend : (v.cy (fun c => { c with pend := some a })).cyc.pend = some a := rfl
  generalize v.cy (fun c => { c with pend := some a }) = w at *
  have h4 : RegCyc w (w.pb RING_STAT.APPLY_PEND true) [RING_APPLY_LO.off, RING_APPLY_HI.off, RING_STAT.off] := RegCyc.pb w _ _ (by simp)
  exact ⟨((h1.trans h2).trans h3).trans h4, w.flag_pb_self (f := RING_STAT.APPLY_PEND) true (by decide) rfl, by rw [w.pb_cyc, hpend]⟩

/-- The staged set as it is captured. -/
def State.nextSet (s : State) (d : Int) : ApplySet :=
  ⟨s.g RING_NEXT_CYC.K, s.g RING_NEXT_S.LEN, s.g RING_NEXT_C.LEN, s.g RING_NEXT_W.LEN, s.g RING_NEXT_T.LEN, s.g RING_NEXT_G.LEN, s.fns + d⟩

/-- The set that RING_NEXT holds may be applied at `d` from now. -/
structure State.Applicable (s : State) (d : Int) : Prop where
  k : s.g RING_NEXT_CYC.K ≤ 11
  sync : 8 ≤ s.g RING_NEXT_S.LEN
  fits : (s.g RING_NEXT_S.LEN + s.g RING_NEXT_C.LEN + s.g RING_NEXT_W.LEN + s.g RING_NEXT_T.LEN) * 125 ≤ 31250 * 2 ^ s.g RING_NEXT_CYC.K
  guard : 1 ≤ s.g RING_NEXT_G.LEN
  launch : s.g RING_NEXT_G.LEN ≤ s.g RING_NEXT_C.LEN + s.g RING_NEXT_W.LEN
  boundary : (s.fns + d) % (max (31250 * 2 ^ s.g RING_NEXT_CYC.K) s.periodNs : Nat) = 0
  ahead : 2 * ((max (31250 * 2 ^ s.g RING_NEXT_CYC.K) s.periodNs : Nat) : Int) ≤ d

theorem State.applyWrite_ok {s : State} {lo hi : Word} {d : Int} (hd : sgn48 ((lo.toNat + 2 ^ 32 * hi.toNat) % 2 ^ 48) s.fns48 = d) (h : s.Applicable d) :
    s.applyWrite lo hi = (stOK, s.applySet lo hi (s.nextSet d)) := by
  obtain ⟨h1, h2, h3, h4, h5, h6, h7⟩ := h
  unfold State.applyWrite State.applySet State.nextSet
  simp only [hd]
  refine if_neg ?_
  rintro (h | h | h | h | h | h | h)
  · omega
  · omega
  · omega
  · omega
  · omega
  · exact h h6
  · omega

/-- A 48-bit time takes 16 bits of its high word. -/
theorem apply_time (lo hi new : Word) (h : RING_APPLY_HI.TIME.get new = RING_APPLY_HI.TIME.get hi) :
    (lo.toNat + 2 ^ 32 * new.toNat) % 2 ^ 48 = lo.toNat + 2 ^ 32 * (hi.toNat % 2 ^ 16) := by
  have hlo := lo.isLt
  simp only [FRef.get, bitsOf, Nat.pow_zero, Nat.div_one] at h
  omega

theorem groupOffs_apply : groupOffs RING_APPLY_LO.off 2 = [RING_APPLY_LO.off, RING_APPLY_HI.off] := rfl

/-- The words that the completion of RING_APPLY takes (R42). -/
theorem State.applyWrs {s : State} {m : Master} {lo : Word} (h : mwGet s.staging m.mid.val RING_APPLY_LO.off = some lo) (hi : Word) :
    ∃ w, (s.regWrs m RING_APPLY_HI.off RING_APPLY_LO.off 2 hi).w 0 = lo ∧ (s.regWrs m RING_APPLY_HI.off RING_APPLY_LO.off 2 hi).w 1 = w ∧
      RING_APPLY_HI.TIME.get w = RING_APPLY_HI.TIME.get hi := by
  obtain ⟨_, hlo, hhi⟩ := ringApply_row
  have hlow := State.wordOfWrite_staged (off := RING_APPLY_HI.off) (by decide) h hi
  have hhigh := s.wordOfWrite_last m RING_APPLY_HI.off hi
  rw [newWord_whole hlo rfl rfl] at hlow
  simp only [State.regWrs, groupOffs_apply, List.map_cons, List.map_nil, hlow, hhigh]
  generalize s.storedWord m RING_APPLY_HI.off = old
  exact ⟨(rowAt RING_APPLY_HI.off).newWord old hi, rfl, rfl, newWord_get_rw hhi _ _⟩

theorem State.applicable_of_regs {s t : State} {d : Int} (hr : t.regs = s.regs) (hc : t.clep = s.clep) (h : s.Applicable d) :
    t.Applicable d ∧ t.nextSet d = s.nextSet d ∧ t.fns48 = s.fns48 := by
  have hrd : ∀ k, t.rd k = s.rd k := State.rd_of_regs hr
  have hg : ∀ f, t.g f = s.g f := State.g_of_regs hr
  have hf : t.fns = s.fns := by rw [State.fns, State.fns, State.epochSec, State.epochSec, State.rd64_congr (hrd _) (hrd _), hc]
  have hp : t.periodNs = s.periodNs := by rw [State.periodNs, State.periodNs, hg]
  obtain ⟨h1, h2, h3, h4, h5, h6, h7⟩ := h
  refine ⟨⟨?_, ?_, ?_, ?_, ?_, ?_, ?_⟩, ?_, by rw [State.fns48, State.fns48, hf]⟩ <;> simp only [State.nextSet, hg, hf, hp] <;> assumption

theorem ringApplyWrite_leaves {m : Master} {lo hi : Word} {s : State} (hs : s.serves m RING_APPLY_HI.off 2)
    (hget : mwGet s.staging m.mid.val RING_APPLY_LO.off = some lo) {d : Int}
    (hd : sgn48 (lo.toNat + 2 ^ 32 * (hi.toNat % 2 ^ 16)) s.fns48 = d) (happ : s.Applicable d) :
    ∃ t, exec (.ringApplyWrite m hi) s = .next t ∧ t.toldOK m ∧ t.flag RING_STAT.APPLY_PEND = true ∧ t.cyc.pend = some (s.nextSet d) ∧
      s.sameRegs t [RING_APPLY_LO.off, RING_APPLY_HI.off, RING_STAT.off] := by
  obtain ⟨hhigh, _, _⟩ := ringApply_row
  obtain ⟨w, hw0, hw1, htime⟩ := State.applyWrs hget hi
  obtain ⟨hregs, hreset, hpend, hframe⟩ := s.unstaged_leaves m RING_APPLY_LO.off 2
  have hclep : (s.unstaged m RING_APPLY_LO.off 2).clep = s.clep := rfl
  have hwrite := State.blkTop_ringApply (s := s.unstaged m RING_APPLY_LO.off 2) (r := s.regWrs m RING_APPLY_HI.off RING_APPLY_LO.off 2 hi) rfl
  rw [hw0, hw1] at hwrite
  generalize hu : s.unstaged m RING_APPLY_LO.off 2 = u at *
  obtain ⟨happ', hset, hf⟩ := State.applicable_of_regs hregs hclep happ
  rw [State.applyWrite_ok (d := d) (by rw [apply_time lo hi w htime, hf, hd]) happ', hset] at hwrite
  obtain ⟨hch, hflag, hpd⟩ := u.applySet_leaves lo w (s.nextSet d)
  generalize u.applySet lo w (s.nextSet d) = v at *
  obtain ⟨hreset', hpend'⟩ := hch.leaves
  have hfin := State.serves_finishHigh hs hhigh ((congrArg (State.blkTop · _) hu).trans hwrite) (hreset'.trans (hreset.trans (State.serves_noReset hs)))
    (hpend'.trans hpend)
  exact ⟨v.answer m stOK [], by rw [exec_ringApplyWrite, hfin], rfl, by rw [State.answer_flag, hflag], by rw [State.answer_cyc, hpd],
    fun k hk => by rw [State.answer_rd, hch.same k hk, State.rd_of_regs hregs]⟩

/-! ### CYCLE_APPLY_AT -/

/-- The registers of the active set. -/
def actRegs : List Nat := [RING_ACT_CYC.off, RING_ACT_S.off, RING_ACT_C.off, RING_ACT_W.off, RING_ACT_T.off, RING_ACT_G.off, RING_STAT.off]

/-- The six values of a cycle set in the active registers. -/
def State.actSet (s : State) (a : ApplySet) : State :=
  (((((s.p RING_ACT_CYC.K a.k).p RING_ACT_S.LEN a.sw).p RING_ACT_C.LEN a.cw).p RING_ACT_W.LEN a.ww).p RING_ACT_T.LEN a.tw).p RING_ACT_G.LEN a.g

/-- The values that the active registers show. -/
def State.actOf (s : State) : Nat × Nat × Nat × Nat × Nat × Nat :=
  (s.g RING_ACT_CYC.K, s.g RING_ACT_S.LEN, s.g RING_ACT_C.LEN, s.g RING_ACT_W.LEN, s.g RING_ACT_T.LEN, s.g RING_ACT_G.LEN)

/-- A field written by itself: it reads as written, and the fields of other registers stay. -/
theorem State.p_field (s : State) (f : FRef) {v : Nat} (hv : v < 2 ^ f.width) (hf : f.lsb + f.width ≤ 32) :
    (s.p f v).g f = v ∧ (∀ g : FRef, g.off ≠ f.off → (s.p f v).g g = s.g g) ∧ (s.p f v).cyc = s.cyc ∧ (s.p f v).pending = s.pending :=
  ⟨s.g_p_fit hv hf, fun g h => s.g_wr_ne _ _ g h, s.p_cyc f v, s.p_pending f v⟩

theorem State.actSet_leaves (s : State) {a : ApplySet} (hk : a.k < 16) (hsw : a.sw < 65536) (hcw : a.cw < 65536) (hww : a.ww < 65536)
    (htw : a.tw < 65536) (hg : a.g < 65536) : (s.actSet a).actOf = (a.k, a.sw, a.cw, a.ww, a.tw, a.g) ∧ Eff s (s.actSet a) actRegs ∧
      (s.actSet a).cyc = s.cyc ∧ (s.actSet a).pending = s.pending := by
  have heff : ∀ (u : State) (f : FRef) (v : Nat), f.off ∈ actRegs → isPendKey f.off = false → Eff u (u.p f v) actRegs := fun u f v hl hp => Eff.p u f v hp hl
  unfold State.actSet State.actOf
  obtain ⟨g1, _, c1, q1⟩ := s.p_field RING_ACT_CYC.K (v := a.k) hk (by decide)
  have e1 := heff s RING_ACT_CYC.K a.k (by decide) (by decide)
  generalize s.p RING_ACT_CYC.K a.k = u1 at *
  obtain ⟨g2, k2, c2, q2⟩ := u1.p_field RING_ACT_S.LEN (v := a.sw) (Nat.lt_trans hsw (by decide)) (by decide)
  have e2 := heff u1 RING_ACT_S.LEN a.sw (by decide) (by decide)
  have l2 := k2 RING_ACT_CYC.K (by decide)
  generalize u1.p RING_ACT_S.LEN a.sw = u2 at *
  obtain ⟨g3, k3, c3, q3⟩ := u2.p_field RING_ACT_C.LEN (v := a.cw) (Nat.lt_trans hcw (by decide)) (by decide)
  have e3 := heff u2 RING_ACT_C.LEN a.cw (by decide) (by decide)
  have l3 := k3 RING_ACT_CYC.K (by decide)
  have m3 := k3 RING_ACT_S.LEN (by decide)
  generalize u2.p RING_ACT_C.LEN a.cw = u3 at *
  obtain ⟨g4, k4, c4, q4⟩ := u3.p_field RING_ACT_W.LEN (v := a.ww) (Nat.lt_trans hww (by decide)) (by decide)
  have e4 := heff u3 RING_ACT_W.LEN a.ww (by decide) (by decide)
  have l4 := k4 RING_ACT_CYC.K (by decide)
  have m4 := k4 RING_ACT_S.LEN (by decide)
  have n4 := k4 RING_ACT_C.LEN (by decide)
  generalize u3.p RING_ACT_W.LEN a.ww = u4 at *
  obtain ⟨g5, k5, c5, q5⟩ := u4.p_field RING_ACT_T.LEN (v := a.tw) (Nat.lt_trans htw (by decide)) (by decide)
  have e5 := heff u4 RING_ACT_T.LEN a.tw (by decide) (by decide)
  have l5 := k5 RING_ACT_CYC.K (by decide)
  have m5 := k5 RING_ACT_S.LEN (by decide)
  have n5 := k5 RING_ACT_C.LEN (by decide)
  have o5 := k5 RING_ACT_W.LEN (by decide)
  generalize u4.p RING_ACT_T.LEN a.tw = u5 at *
  obtain ⟨g6, k6, c6, q6⟩ := u5.p_field RING_ACT_G.LEN (v := a.g) (Nat.lt_trans hg (by decide)) (by decide)
  have e6 := heff u5 RING_ACT_G.LEN a.g (by decide) (by decide)
  have l6 := k6 RING_ACT_CYC.K (by decide)
  have m6 := k6 RING_ACT_S.LEN (by decide)
  have n6 := k6 RING_ACT_C.LEN (by decide)
  have o6 := k6 RING_ACT_W.LEN (by decide)
  have p6 := k6 RING_ACT_T.LEN (by decide)
  generalize u5.p RING_ACT_G.LEN a.g = u6 at *
  refine ⟨?_, ((((e1.trans e2).trans e3).trans e4).trans e5).trans e6, c6.trans (c5.trans (c4.trans (c3.trans (c2.trans c1)))),
    q6.trans (q5.trans (q4.trans (q3.trans (q2.trans q1))))⟩
  rw [l6, l5, l4, l3, l2, g1, m6, m5, m4, m3, g2, n6, n5, n4, g3, o6, o5, g4, p6, g5, g6]

/-- No set waits to be applied. -/
def State.noPend (s : State) : State := (s.cy (fun c => { c with pend := none })).pb RING_STAT.APPLY_PEND false

theorem State.noPend_leaves (s : State) : s.noPend.flag RING_STAT.APPLY_PEND = false ∧ s.noPend.cyc = { s.cyc with pend := none } ∧
    s.noPend.pending = s.pending ∧ Eff s s.noPend [RING_STAT.off] := by
  have hcyc : (s.cy (fun c => { c with pend := none })).cyc = { s.cyc with pend := none } := rfl
  have h1 := CyStep.cy s (fun c => { c with pend := none }) [RING_STAT.off]
  have hp : (s.cy (fun c => { c with pend := none })).pending = s.pending := rfl
  unfold State.noPend
  generalize s.cy (fun c => { c with pend := none }) = u at *
  have h2 : Eff u (u.pb RING_STAT.APPLY_PEND false) [RING_STAT.off] := Eff.pb u _ _ (by decide) (by decide)
  exact ⟨u.flag_pb_self (f := RING_STAT.APPLY_PEND) false (by decide) rfl, by rw [u.pb_cyc, hcyc], (u.p_pending _ _).trans hp, h1.toEff.trans h2⟩

theorem cycleApplyAt_due {s : State} {a : ApplySet} (h : s.cyc.pend = some a) (hdue : a.at_ ≤ s.fns) :
    cycleApplyAt s = (s.actSet a).noPend.raise (evRing 8) clEvent := by
  have hpast : s.past a.at_ = true := decide_eq_true hdue
  unfold cycleApplyAt
  simp only [h]
  exact if_pos hpast

theorem cycleApplyAt_leaves {a : ApplySet} {s : State} (hs : s.resetReq = none) (h : s.cyc.pend = some a) (hdue : a.at_ ≤ s.fns)
    (hk : a.k < 16) (hsw : a.sw < 65536) (hcw : a.cw < 65536) (hww : a.ww < 65536) (htw : a.tw < 65536) (hg : a.g < 65536) :
    ∃ t, exec .cycleApplyAt s = .next t ∧ t.actOf = (a.k, a.sw, a.cw, a.ww, a.tw, a.g) ∧
      t.flag RING_STAT.APPLY_PEND = false ∧ t.cyc = { s.cyc with pend := none } ∧ t.evPend (evRing 8) = true ∧ s.keepsRegs t actRegs := by
  rw [exec_cycleApplyAt, cycleApplyAt_due h hdue]
  obtain ⟨hact, h1, hcyc1, hp1⟩ := s.actSet_leaves hk hsw hcw hww htw hg
  generalize s.actSet a = u at *
  obtain ⟨hflag, hcyc2, hp2, h2⟩ := u.noPend_leaves
  have hact2 : u.noPend.actOf = u.actOf := by
    unfold State.actOf
    rw [h2.g (by decide) (by decide), h2.g (by decide) (by decide), h2.g (by decide) (by decide), h2.g (by decide) (by decide),
      h2.g (by decide) (by decide), h2.g (by decide) (by decide)]
  generalize u.noPend = v at *
  have h3 := CyStep.raise v (ev := evRing 8) (cls := clEvent) (by decide) (by decide) actRegs
  have hb := (v.raise_raised (ev := evRing 8) clEvent (by decide)).bare
  have hpe := State.raise_pend v (ev := evRing 8) clEvent (by decide)
  have hg3 : ∀ f : FRef, fixedKey f.off = true → (v.raise (evRing 8) clEvent).g f = v.g f := fun f hf => State.raise_g v clEvent (by decide) hf
  have hact3 : (v.raise (evRing 8) clEvent).actOf = v.actOf := by
    unfold State.actOf
    rw [hg3 _ (by decide), hg3 _ (by decide), hg3 _ (by decide), hg3 _ (by decide), hg3 _ (by decide), hg3 _ (by decide)]
  have hflag3 : (v.raise (evRing 8) clEvent).flag RING_STAT.APPLY_PEND = v.flag RING_STAT.APPLY_PEND := State.raise_flag v clEvent (by decide) (by decide)
  generalize v.raise (evRing 8) clEvent = w at *
  have hall := (h1.trans (h2.mono (by decide))).trans h3.toEff
  exact ⟨w, congrArg _ (State.finish_eff hall hs ((State.pending_of_bare hb).trans (hp2.trans hp1))), hact3.trans (hact2.trans hact), hflag3.trans hflag,
    by rw [CyStep.cyc_of_bare hb, hcyc2, hcyc1], hpe, hall.rd⟩

/-! ### Subscriptions and publications -/

theorem ringSub_row : regHigh RING_SUB_DST.off RING_SUB_NODE.off 3 2 = true ∧
    (∀ f ∈ [RING_SUB_NODE.NODE, RING_SUB_NODE.VALID], f.off = RING_SUB_NODE.off ∧ hasField RING_SUB_NODE.off .rw f = true) ∧
    (∀ f ∈ [RING_SUB_SLOT.FRAME, RING_SUB_SLOT.OFFSET, RING_SUB_SLOT.FIRST], f.off = RING_SUB_SLOT.off ∧ hasField RING_SUB_SLOT.off .rw f = true) ∧
    (∀ f ∈ [RING_SUB_DST.POINT, RING_SUB_DST.COUNT], f.off = RING_SUB_DST.off ∧ hasField RING_SUB_DST.off .rw f = true) := by decide +kernel

theorem ringPub_row : regAlone RING_PUB_CFG.off 2 = true ∧
    ∀ f ∈ [RING_PUB_CFG.FIRST, RING_PUB_CFG.COUNT, RING_PUB_CFG.VALID], f.off = RING_PUB_CFG.off ∧ hasField RING_PUB_CFG.off .rw f = true := by
  decide +kernel

theorem State.blkTop_ringSub {s : State} {r : RegWr} (h : r.off = RING_SUB_DST.off) : s.blkTop r = s.subWrite r.idx (r.w 0) (r.w 1) (r.w 2) := by
  simp (decide := true) [State.blkTop, State.blkWrite, State.blkRing, h]

theorem State.blkTop_ringPub {s : State} {r : RegWr} (h : r.off = RING_PUB_CFG.off) : s.blkTop r = s.pubWrite r.idx r.new := by
  simp (decide := true) [State.blkTop, State.blkWrite, State.blkRing, h]

theorem State.entryOf_ringSub (s : State) (mid : Nat) : s.entryOf mid RING_SUB_DST.off = some (s.g (RING_SUB_SEL.ENTRY.at mid)) := by
  simp (decide := true) [State.entryOf]

theorem State.entryOf_ringPub (s : State) (mid : Nat) : s.entryOf mid RING_PUB_CFG.off = some (s.g (RING_PUB_SEL.RANGE.at mid)) := by
  simp (decide := true) [State.entryOf]

/-- The three words of a subscription entry written. -/
def State.subSet (s : State) (e : Nat) (node slot dst : Word) : State :=
  ((s.wr (bankKey RING_SUB_NODE.off e) node).wr (bankKey RING_SUB_SLOT.off e) slot).wr (bankKey RING_SUB_DST.off e) dst

theorem sub_keys (e : Nat) : bankKey RING_SUB_NODE.off e ≠ bankKey RING_SUB_SLOT.off e ∧ bankKey RING_SUB_NODE.off e ≠ bankKey RING_SUB_DST.off e ∧
    bankKey RING_SUB_SLOT.off e ≠ bankKey RING_SUB_DST.off e := by
  simp only [bankKey, RING_SUB_NODE.off, RING_SUB_SLOT.off, RING_SUB_DST.off]
  omega

theorem State.subSet_leaves (s : State) (e : Nat) (node slot dst : Word) : (s.subSet e node slot dst).rd (bankKey RING_SUB_NODE.off e) = node ∧
    (s.subSet e node slot dst).rd (bankKey RING_SUB_SLOT.off e) = slot ∧ (s.subSet e node slot dst).rd (bankKey RING_SUB_DST.off e) = dst ∧
    s.sameRegs (s.subSet e node slot dst) [bankKey RING_SUB_NODE.off e, bankKey RING_SUB_SLOT.off e, bankKey RING_SUB_DST.off e] ∧
    (s.subSet e node slot dst).resetReq = s.resetReq ∧ (s.subSet e node slot dst).pending = s.pending := by
  obtain ⟨h1, h2, h3⟩ := sub_keys e
  unfold State.subSet
  refine ⟨by rw [State.rd_wr_ne _ _ h2, State.rd_wr_ne _ _ h1, State.rd_wr_same], by rw [State.rd_wr_ne _ _ h3, State.rd_wr_same], State.rd_wr_same _ _ _,
    fun k hk => ?_, by simp only [State.wr_resetReq], by simp only [State.wr_pending]⟩
  simp only [List.mem_cons, List.not_mem_nil, or_false, not_or] at hk
  rw [State.rd_wr_ne _ _ hk.2.2, State.rd_wr_ne _ _ hk.2.1, State.rd_wr_ne _ _ hk.1]

theorem State.subWrite_ok {s : State} {e : Nat} {node slot dst : Word} (hn : RING_SUB_NODE.NODE.get node ≠ s.node)
    (hsum : s.subSum e + RING_SUB_DST.COUNT.get dst ≤ 4096)
    (hring : ∀ j, j < RING_SUB_DST.COUNT.get dst → s.ownerKind (RING_SUB_DST.POINT.get dst + j) = okRing) :
    s.subWrite e node slot dst = (stOK, s.subSet e node slot dst) := by
  unfold State.subWrite
  refine if_neg ?_
  rintro ⟨_, h | h | h⟩
  · exact hn h
  · omega
  · obtain ⟨j, hj, hne⟩ := List.any_eq_true.1 h
    rw [hring j (List.mem_range.1 hj)] at hne
    exact absurd hne (by decide)

theorem groupOffs_sub : groupOffs RING_SUB_NODE.off 3 = [RING_SUB_NODE.off, RING_SUB_SLOT.off, RING_SUB_DST.off] := rfl

/-- The words that the completion of a subscription entry takes (R42). -/
theorem State.subWrs {s : State} {m : Master} {node slot : Word} (hn : mwGet s.staging m.mid.val RING_SUB_NODE.off = some node)
    (hsl : mwGet s.staging m.mid.val RING_SUB_SLOT.off = some slot) (dst : Word) :
    ∃ wn ws wd, (s.regWrs m RING_SUB_DST.off RING_SUB_NODE.off 3 dst).w 0 = wn ∧ (s.regWrs m RING_SUB_DST.off RING_SUB_NODE.off 3 dst).w 1 = ws ∧
      (s.regWrs m RING_SUB_DST.off RING_SUB_NODE.off 3 dst).w 2 = wd ∧
      (∀ f, hasField RING_SUB_NODE.off .rw f = true → f.get wn = f.get node) ∧ (∀ f, hasField RING_SUB_SLOT.off .rw f = true → f.get ws = f.get slot) ∧
      (∀ f, hasField RING_SUB_DST.off .rw f = true → f.get wd = f.get dst) := by
  have h0 := State.wordOfWrite_staged (off := RING_SUB_DST.off) (by decide) hn dst
  have h1 := State.wordOfWrite_staged (off := RING_SUB_DST.off) (by decide) hsl dst
  have h2 := s.wordOfWrite_last m RING_SUB_DST.off dst
  simp only [State.regWrs, groupOffs_sub, List.map_cons, List.map_nil, h0, h1, h2]
  generalize s.storedWord m RING_SUB_NODE.off = o0
  generalize s.storedWord m RING_SUB_SLOT.off = o1
  generalize s.storedWord m RING_SUB_DST.off = o2
  exact ⟨(rowAt RING_SUB_NODE.off).newWord o0 node, (rowAt RING_SUB_SLOT.off).newWord o1 slot, (rowAt RING_SUB_DST.off).newWord o2 dst, rfl, rfl, rfl,
    fun f hf => newWord_get_rw hf _ _, fun f hf => newWord_get_rw hf _ _, fun f hf => newWord_get_rw hf _ _⟩

theorem State.g_at_of_rd {s : State} {f : FRef} {e : Nat} {w : Word} (h : s.rd (bankKey f.off e) = w) : s.g (f.at e) = f.get w := by
  rw [State.g, FRef.at_off, h, FRef.at_get]

theorem State.sub_of_regs {s t : State} (hr : t.regs = s.regs) (hp : t.pts = s.pts) : t.node = s.node ∧ (∀ e, t.subSum e = s.subSum e) ∧
    ∀ i, t.ownerKind i = s.ownerKind i := by
  have hg : ∀ f, t.g f = s.g f := State.g_of_regs hr
  refine ⟨hg _, fun e => ?_, fun i => ?_⟩
  · unfold State.subSum State.listedBank
    rw [hr]
    simp only [hg]
  · rw [State.ownerKind, State.ownerKind, hg, State.profOf, State.profOf, hp]

theorem subscriptionWrite_sub {m : Master} {node slot dst : Word} {s : State} (hs : s.serves m RING_SUB_DST.off 2)
    (hn : mwGet s.staging m.mid.val RING_SUB_NODE.off = some node) (hsl : mwGet s.staging m.mid.val RING_SUB_SLOT.off = some slot) {e : Nat}
    (he : s.g (RING_SUB_SEL.ENTRY.at m.mid.val) = e) (hnode : RING_SUB_NODE.NODE.get node ≠ s.node)
    (hsum : s.subSum e + RING_SUB_DST.COUNT.get dst ≤ 4096)
    (hring : ∀ j, j < RING_SUB_DST.COUNT.get dst → s.ownerKind (RING_SUB_DST.POINT.get dst + j) = okRing) :
    ∃ t, exec (.subscriptionWrite m 1 dst) s = .next t ∧ t.toldOK m ∧
      (∀ f ∈ [RING_SUB_NODE.NODE, RING_SUB_NODE.VALID], t.g (f.at e) = f.get node) ∧
      (∀ f ∈ [RING_SUB_SLOT.FRAME, RING_SUB_SLOT.OFFSET, RING_SUB_SLOT.FIRST], t.g (f.at e) = f.get slot) ∧
      (∀ f ∈ [RING_SUB_DST.POINT, RING_SUB_DST.COUNT], t.g (f.at e) = f.get dst) ∧
      s.sameRegs t [bankKey RING_SUB_NODE.off e, bankKey RING_SUB_SLOT.off e, bankKey RING_SUB_DST.off e] := by
  obtain ⟨hhigh, hfn, hfs, hfd⟩ := ringSub_row
  obtain ⟨wn, ws, wd, hw0, hw1, hw2, hgn, hgs, hgd⟩ := State.subWrs hn hsl dst
  obtain ⟨hregs, hreset, hpend, hframe⟩ := s.unstaged_leaves m RING_SUB_NODE.off 3
  obtain ⟨unode, usum, uown⟩ := State.sub_of_regs (s := s) (t := s.unstaged m RING_SUB_NODE.off 3) hregs rfl
  have hwrite := State.blkTop_ringSub (s := s.unstaged m RING_SUB_NODE.off 3) (r := s.regWrs m RING_SUB_DST.off RING_SUB_NODE.off 3 dst) rfl
  have hidx : (s.regWrs m RING_SUB_DST.off RING_SUB_NODE.off 3 dst).idx = e := by
    rw [State.regWrs, s.entryOf_ringSub, he]
    rfl
  have hcount : RING_SUB_DST.COUNT.get wd = RING_SUB_DST.COUNT.get dst := hgd _ (hfd _ (by simp)).2
  have hpoint : RING_SUB_DST.POINT.get wd = RING_SUB_DST.POINT.get dst := hgd _ (hfd _ (by simp)).2
  rw [hw0, hw1, hw2, hidx] at hwrite
  generalize hu : s.unstaged m RING_SUB_NODE.off 3 = u at *
  rw [State.subWrite_ok (by rw [hgn _ (hfn _ (by simp)).2, unode]; exact hnode) (by rw [usum, hcount]; exact hsum)
    (fun j hj => by rw [uown, hpoint]; exact hring j (hcount ▸ hj))] at hwrite
  obtain ⟨r0, r1, r2, hsame, hreset', hpend'⟩ := u.subSet_leaves e wn ws wd
  generalize u.subSet e wn ws wd = v at *
  have hfin := State.serves_finishHigh hs hhigh ((congrArg (State.blkTop · _) hu).trans hwrite) (hreset'.trans (hreset.trans (State.serves_noReset hs)))
    (hpend'.trans hpend)
  refine ⟨v.answer m stOK [], (exec_subscriptionWrite m 1 dst s).trans (congrArg _ hfin), rfl, fun f hf => ?_, fun f hf => ?_, fun f hf => ?_,
    fun k hk => by rw [State.answer_rd, hsame k hk, State.rd_of_regs hregs]⟩
  · rw [State.answer_g, State.g_at_of_rd ((congrArg (fun o => v.rd (bankKey o e)) (hfn f hf).1).trans r0), hgn f (hfn f hf).2]
  · rw [State.answer_g, State.g_at_of_rd ((congrArg (fun o => v.rd (bankKey o e)) (hfs f hf).1).trans r1), hgs f (hfs f hf).2]
  · rw [State.answer_g, State.g_at_of_rd ((congrArg (fun o => v.rd (bankKey o e)) (hfd f hf).1).trans r2), hgd f (hfd f hf).2]

/-- What a range's sum takes of its word. -/
theorem State.pubSum_congr (s : State) (k : Nat) {v w : Word} (hv : RING_PUB_CFG.VALID.get v = RING_PUB_CFG.VALID.get w)
    (hc : RING_PUB_CFG.COUNT.get v = RING_PUB_CFG.COUNT.get w) : s.pubSum k v = s.pubSum k w := by
  unfold State.pubSum
  refine congrArg List.sum (List.map_congr_left fun j _ => ?_)
  dsimp only
  by_cases hj : j = k
  · rw [if_pos hj, if_pos hj, hv, hc]
  · rw [if_neg hj, if_neg hj]

theorem subscriptionWrite_pub {m : Master} {val : Word} {s : State} (hs : s.serves m RING_PUB_CFG.off 2) {e : Nat}
    (he : s.g (RING_PUB_SEL.RANGE.at m.mid.val) = e) (hsum : s.pubSum e val ≤ s.g RING_SLOT.LEN) :
    ∃ t, exec (.subscriptionWrite m 0 val) s = .next t ∧ t.toldOK m ∧
      (∀ f ∈ [RING_PUB_CFG.FIRST, RING_PUB_CFG.COUNT, RING_PUB_CFG.VALID], t.g (f.at e) = f.get val) ∧
      s.sameRegs t [bankKey RING_PUB_CFG.off e] ∧ { t with regs := s.regs, resp := s.resp } = s := by
  obtain ⟨halone, hf⟩ := ringPub_row
  have hget : ∀ f, hasField RING_PUB_CFG.off .rw f = true → f.get (s.regWr m RING_PUB_CFG.off val).new = f.get val := fun f hf => newWord_get_rw hf _ val
  have hidx : (s.regWr m RING_PUB_CFG.off val).idx = e := by
    rw [State.regWr, s.entryOf_ringPub, he]
    rfl
  have hblk := State.blkTop_ringPub (s := s) (r := s.regWr m RING_PUB_CFG.off val) rfl
  rw [hidx] at hblk
  generalize (s.regWr m RING_PUB_CFG.off val).new = new at *
  have hle : ¬ s.g RING_SLOT.LEN < s.pubSum e new := by
    rw [s.pubSum_congr e (hget _ (hf _ (by simp)).2) (hget _ (hf _ (by simp)).2)]
    omega
  have hput : s.pubWrite e new = (stOK, s.wr (bankKey RING_PUB_CFG.off e) new) := if_neg hle
  have hfin := State.serves_finish hs halone (hblk.trans hput) ((s.wr_resetReq _ _).trans (State.serves_noReset hs)) (s.wr_pending _ _)
  refine ⟨(s.wr (bankKey RING_PUB_CFG.off e) new).answer m stOK [], (exec_subscriptionWrite m 0 val s).trans (congrArg _ hfin), rfl, fun f hm => ?_,
    s.wr_answer_same _ _ m _, s.wr_answer_frame _ _ _ _ _⟩
  rw [State.answer_g, ← hget f (hf f hm).2, ← (hf f hm).1]
  exact s.g_at_wr f e new

/-- Settles O31. -/
theorem ringRegisters : Obligations.RingRegisters := by
  refine ⟨fun m val s hs => ringCfgWrite_leaves hs, fun m lo hi s hs hget hk hsync => ?_, fun a s hs h hdue hk hsw hcw hww htw hg => ?_,
    fun m node slot dst s hs hn hsl => ?_, fun m val s hs => ?_⟩
  · intro pnew hfits hguard hlaunch d hbound hahead
    obtain ⟨t, ht, hok, hflag, hpend, hsame⟩ := ringApplyWrite_leaves hs hget rfl ⟨hk, hsync, hfits, hguard, hlaunch, hbound, hahead⟩
    exact ⟨t, ht, hok, hflag, hpend, hsame⟩
  · obtain ⟨t, ht, hact, hflag, hcyc, hpe, hkeep⟩ := cycleApplyAt_leaves hs h hdue hk hsw hcw hww htw hg
    simp only [State.actOf, Prod.mk.injEq] at hact
    obtain ⟨h1, h2, h3, h4, h5, h6⟩ := hact
    exact ⟨t, ht, h1, h2, h3, h4, h5, h6, hflag, hcyc, hpe, hkeep⟩
  · intro e hnode hsum hring
    obtain ⟨t, ht, hok, hfn, hfs, hfd, hsame⟩ := subscriptionWrite_sub hs hn hsl rfl hnode hsum hring
    exact ⟨t, ht, hok, hfn _ (by simp), hfn _ (by simp), hfs _ (by simp), hfs _ (by simp), hfs _ (by simp), hfd _ (by simp), hfd _ (by simp), hsame⟩
  · intro e hsum
    obtain ⟨t, ht, hok, hf, hsame, hframe⟩ := subscriptionWrite_pub hs rfl hsum
    exact ⟨t, ht, hok, hf _ (by simp), hf _ (by simp), hf _ (by simp), hsame, hframe⟩

end Sys2Proof.Machine
end

section
/-! The summation train (R137 to R142, R147 to R149): a launch without a slot, the accepted INDEX 0 frame, and a frame of another K. -/

namespace Sys2Proof.Machine

/- One evaluation after another: each of them, left to itself, would hold a thread. -/
set_option Elab.async false

theorem exec_summationLaunch (s : State) : exec .summationLaunch s = .next (s.finish (summationLaunch s)) := by rfl

theorem exec_summationFramePass (p : Fin 4) (f : Frame) (s : State) :
    exec (.summationFramePass p f) s = .next (s.finish (summationFramePass p f s)) := by rfl

/-! ### The launch -/

/-- The frame of a train that a node without a slot launches. -/
def State.trainFrame (s : State) (i : Nat) : Frame :=
  s.mkFrame tySummation 6 0xFFFF 0 (s.cyc.num % 2 ^ 22 * 1024 + i) false
    (sumHead (s.cyc.num % 2 ^ 32) s.node s.cyc.hdrBackup i (s.g RING_SUM.FRAMES) (s.g RING_ACT_CYC.K) s.cyc.hdrFlags (s.g RING_MAP.MAP_ID) ++
      List.replicate (s.g RING_SUM.LEN - 32) 0)

theorem State.insert_noSlot {s : State} (h : s.flag RING_SLOT.VALID = false) (pl : List Byte) : s.insert pl = (pl, s) :=
  if_pos (.inl (by rw [h]; rfl))

theorem State.launchOne_noSlot {s : State} (h : s.flag RING_SLOT.VALID = false) (i : Nat) :
    s.launchOne i = (s.offerTo 8 [0] (s.trainFrame i)).offerTo 8 [1] (s.trainFrame i) := by
  unfold State.launchOne
  dsimp only
  rw [State.insert_noSlot h]
  rfl

/-- Frames of a train offered one by one, each out of both ports of plane A. -/
structure TrainOffered (s t : State) (is : List Nat) : Prop where
  waiting : ∃ ws, t.sw.waiting = s.sw.waiting ++ ws ∧ ws.length = 2 * is.length ∧
    ∀ i ∈ is, ∀ p, p < 2 → ∃ w ∈ ws, w.targets = [p] ∧ w.frame = s.trainFrame i
  frame : { t with sw := { t.sw with waiting := s.sw.waiting } } = s

theorem State.offerTwice (s : State) (f : Frame) : ∃ w0 w1 : WEnt,
    (s.offerTo 8 [0] f).offerTo 8 [1] f = { s with sw := { s.sw with waiting := s.sw.waiting ++ [w0, w1] } } ∧
      w0.targets = [0] ∧ w1.targets = [1] ∧ w0.frame = f ∧ w1.frame = f := by
  refine ⟨⟨8, f.cls, [0], f, false, s.localBytes [0] f, none, s.now4 0⟩,
    ⟨8, f.cls, [1], f, false, (s.offerTo 8 [0] f).localBytes [1] f, none, (s.offerTo 8 [0] f).now4 0⟩, ?_, rfl, rfl, rfl, rfl⟩
  rw [State.offerTo]
  generalize hw : (⟨8, f.cls, [1], f, false, (s.offerTo 8 [0] f).localBytes [1] f, none, (s.offerTo 8 [0] f).now4 0⟩ : WEnt) = w1
  rw [State.offerTo]
  dsimp only
  rw [List.append_assoc]
  rfl

theorem State.launchAll {is : List Nat} : ∀ {s : State}, s.flag RING_SLOT.VALID = false → TrainOffered s (is.foldl State.launchOne s) is := by
  induction is with
  | nil => exact fun _ => ⟨⟨[], (List.append_nil _).symm, rfl, fun i hi => absurd hi List.not_mem_nil⟩, rfl⟩
  | cons i is ih =>
    intro s hslot
    obtain ⟨w0, w1, hw, ht0, ht1, hf0, hf1⟩ := s.offerTwice (s.trainFrame i)
    rw [List.foldl_cons, State.launchOne_noSlot hslot, hw]
    obtain ⟨⟨ws, hws, hlen, hall⟩, hframe⟩ := ih (s := { s with sw := { s.sw with waiting := s.sw.waiting ++ [w0, w1] } }) hslot
    generalize is.foldl State.launchOne { s with sw := { s.sw with waiting := s.sw.waiting ++ [w0, w1] } } = t at *
    refine ⟨⟨w0 :: w1 :: ws, by rw [hws, List.append_assoc]; rfl, by rw [List.length_cons, List.length_cons, hlen, List.length_cons]; omega,
      fun j hj p hp => ?_⟩, ?_⟩
    · rcases List.mem_cons.1 hj with rfl | hj
      · rcases (by omega : p = 0 ∨ p = 1) with rfl | rfl
        · exact ⟨w0, List.mem_cons_self, ht0, hf0⟩
        · exact ⟨w1, List.mem_cons_of_mem _ List.mem_cons_self, ht1, hf1⟩
      · obtain ⟨x, hx, hrest⟩ := hall j hj p hp
        exact ⟨x, List.mem_cons_of_mem _ (List.mem_cons_of_mem _ hx), hrest⟩
    · exact (congrArg (fun u : State => { u with sw := { u.sw with waiting := s.sw.waiting } }) hframe :)

/-- The cycle record as the launch begins. -/
def Cycle.launched (c : Cycle) (at_ : Int) : Cycle := { c with launchAt := some at_, stopNext := c.hdrFlags == flHandoff }

/-- The state as the launch begins. -/
def State.launchBegun (s : State) : State := (s.cy (Cycle.launched · s.fns)).pb RING_STAT.HANDOFF false

theorem State.launchBegun_leaves (s : State) : s.launchBegun.cyc = s.cyc.launched s.fns ∧ s.launchBegun.flag RING_STAT.HANDOFF = false ∧
    s.sameRegs s.launchBegun [RING_STAT.off] ∧ s.launchBegun.pts = s.pts ∧ s.launchBegun.sw = s.sw ∧ s.launchBegun.pending = s.pending ∧
    s.launchBegun.resetReq = s.resetReq := by
  have h0 : ∀ k, (s.cy (Cycle.launched · s.fns)).rd k = s.rd k := fun _ => rfl
  have hc : (s.cy (Cycle.launched · s.fns)).cyc = s.cyc.launched s.fns := rfl
  have hst : (s.cy (Cycle.launched · s.fns)).pts = s.pts ∧ (s.cy (Cycle.launched · s.fns)).sw = s.sw ∧
    (s.cy (Cycle.launched · s.fns)).pending = s.pending ∧ (s.cy (Cycle.launched · s.fns)).resetReq = s.resetReq := ⟨rfl, rfl, rfl, rfl⟩
  unfold State.launchBegun
  generalize s.cy (Cycle.launched · s.fns) = u at *
  obtain ⟨h1, h2, h3, h4⟩ := hst
  exact ⟨(u.pb_cyc _ _).trans hc, u.flag_pb_self (f := RING_STAT.HANDOFF) false (by decide) rfl,
    fun k hk => (u.rd_pb_ne (f := RING_STAT.HANDOFF) false (by simpa using hk)).trans (h0 k), h1, h2, h3, h4⟩

theorem summationLaunch_eq {s : State} (hen : s.ringEn = true) (hl : s.cyc.launching = true) (hat : s.cyc.launchAt = none)
    (hwin : s.inWin s.winS (s.winS + s.winC) = true) : summationLaunch s =
      ((List.range (s.launchBegun.g RING_SUM.FRAMES)).foldl State.launchOne s.launchBegun).cy (fun c => { c with hdrFlags := 0 }) := by
  unfold summationLaunch
  rw [if_neg (by rw [hen, hl, hat, hwin]; decide)]
  rfl

theorem State.trainFrame_congr {s u : State} (hcyc : u.cyc = s.cyc.launched s.fns) (hregs : s.sameRegs u [RING_STAT.off]) (i : Nat) :
    u.trainFrame i = s.trainFrame i := by
  have hg : ∀ f : FRef, f.off ≠ RING_STAT.off → u.g f = s.g f := fun f hf => by rw [State.g, State.g, hregs _ (by simpa using hf)]
  have hnum : u.cyc.num = s.cyc.num := by rw [hcyc]; rfl
  have hb : u.cyc.hdrBackup = s.cyc.hdrBackup := by rw [hcyc]; rfl
  have hf : u.cyc.hdrFlags = s.cyc.hdrFlags := by rw [hcyc]; rfl
  have hn : u.node = s.node := hg DEV_NODE.NODE_ID (by decide)
  rw [State.trainFrame, State.trainFrame, State.mkFrame, State.mkFrame, hnum, hb, hf, hn, hg RING_SUM.FRAMES (by decide), hg RING_ACT_CYC.K (by decide),
    hg RING_MAP.MAP_ID (by decide), hg RING_SUM.LEN (by decide)]

theorem summationLaunch_offers {s : State} (hs : s.resetReq = none) (hen : s.ringEn = true) (hl : s.cyc.launching = true) (hat : s.cyc.launchAt = none)
    (hwin : s.inWin s.winS (s.winS + s.winC) = true) (hslot : s.flag RING_SLOT.VALID = false) :
    ∃ t, exec .summationLaunch s = .next t ∧
      t.cyc = { s.cyc with launchAt := some s.fns, stopNext := s.cyc.hdrFlags == flHandoff, hdrFlags := 0 } ∧ t.flag RING_STAT.HANDOFF = false ∧
      t.sw.waiting.length = s.sw.waiting.length + 2 * s.g RING_SUM.FRAMES ∧
      (∀ i, i < s.g RING_SUM.FRAMES → ∀ p, p < 2 → ∃ w ∈ t.sw.waiting, w.targets = [p] ∧ w.frame = s.trainFrame i) ∧
      s.sameRegs t [RING_STAT.off] ∧ t.pts = s.pts := by
  rw [exec_summationLaunch, summationLaunch_eq hen hl hat hwin]
  obtain ⟨hcyc, hoff, hregs, hpts, hsw, hpend, hreset⟩ := s.launchBegun_leaves
  have hframe : ∀ i, s.launchBegun.trainFrame i = s.trainFrame i := fun i => State.trainFrame_congr hcyc hregs i
  have hn : s.launchBegun.g RING_SUM.FRAMES = s.g RING_SUM.FRAMES := by rw [State.g, State.g, hregs _ (by decide)]
  have hslot' : s.launchBegun.flag RING_SLOT.VALID = false := by rw [State.flag, State.g, hregs _ (by decide)]; exact hslot
  rw [hn]
  generalize s.launchBegun = u at *
  obtain ⟨⟨ws, hws, hlen, hall⟩, hback⟩ := State.launchAll (is := List.range (s.g RING_SUM.FRAMES)) hslot'
  generalize (List.range (s.g RING_SUM.FRAMES)).foldl State.launchOne u = v at *
  have hv : v.cyc = u.cyc ∧ v.regs = u.regs ∧ v.pts = u.pts ∧ v.pending = u.pending ∧ v.resetReq = u.resetReq :=
    ⟨(congrArg State.cyc hback :), (congrArg State.regs hback :), (congrArg State.pts hback :), (congrArg State.pending hback :),
      (congrArg State.resetReq hback :)⟩
  obtain ⟨hvc, hvr, hvp, hvq, hvx⟩ := hv
  have ht : (v.cy (fun c => { c with hdrFlags := 0 })).cyc = { v.cyc with hdrFlags := 0 } ∧ (v.cy (fun c => { c with hdrFlags := 0 })).regs = v.regs ∧
    (v.cy (fun c => { c with hdrFlags := 0 })).sw = v.sw ∧ (v.cy (fun c => { c with hdrFlags := 0 })).pts = v.pts ∧
    (v.cy (fun c => { c with hdrFlags := 0 })).pending = v.pending ∧ (v.cy (fun c => { c with hdrFlags := 0 })).resetReq = v.resetReq :=
    ⟨rfl, rfl, rfl, rfl, rfl, rfl⟩
  generalize v.cy (fun c => { c with hdrFlags := 0 }) = t at *
  obtain ⟨htc, htr, hts, htp, htq, htx⟩ := ht
  refine ⟨t, congrArg _ (State.finish_kept (htx.trans (hvx.trans (hreset.trans hs))) (htq.trans (hvq.trans hpend))), ?_, ?_, ?_, fun i hi p hp => ?_,
    fun k hk => ?_, htp.trans (hvp.trans hpts)⟩
  · rw [htc, hvc, hcyc, Cycle.launched]
  · rw [State.flag_of_regs htr, State.flag_of_regs hvr, hoff]
  · rw [hts, hws, List.length_append, hlen, List.length_range, hsw]
  · obtain ⟨w, hw, htg, hf⟩ := hall i (List.mem_range.2 hi) p hp
    exact ⟨w, by rw [hts, hws]; exact List.mem_append_right _ hw, htg, hf.trans (hframe i)⟩
  · rw [State.rd_of_regs htr, State.rd_of_regs hvr, hregs k hk]

end Sys2Proof.Machine
end

section
/-! A passing summation frame (R140 to R142, R147 to R149): one of another K, and the accepted INDEX 0 frame of this cycle. -/

namespace Sys2Proof.Machine

/- One evaluation after another: each of them, left to itself, would hold a thread. -/
set_option Elab.async false

/-! ### What the stages of a passing frame leave -/

/-- The registers that a passing frame may change beside RING_ROLE. -/
def passRegs : List Nat :=
  [RING_STAT.off, DEV_NODE.off, RING_PASS.off, RING_LAP.off, RING_LAP_MAX.off, RING_LATE_CNT.off, RING_SLICE_ERR.off, RING_SAT.off] ++ Beside.tileRegs

theorem pass_keys : RING_ROLE.off ∉ passRegs ∧ (∀ k ∈ Beside.tileRegs, k ∈ passRegs) ∧ satKey RING_LATE_CNT.off = RING_SAT.off ∧
    satKey RING_SLICE_ERR.off = RING_SAT.off := ⟨by decide +kernel, fun _ hk => List.mem_append_right _ hk, by decide +kernel, by decide +kernel⟩

theorem pass_mem {k : Nat} (h : k ∈ [RING_STAT.off, DEV_NODE.off, RING_PASS.off, RING_LAP.off, RING_LAP_MAX.off, RING_LATE_CNT.off, RING_SLICE_ERR.off,
    RING_SAT.off]) : k ∈ passRegs := List.mem_append_left _ h

/-- A stage of a passing frame: RING_ROLE, what the train's acceptance recorded, the units and the flows stay. -/
structure Passing (s t : State) : Prop extends Eff s t passRegs where
  accMin : t.cyc.accMin = s.cyc.accMin
  got0 : t.cyc.got0 = s.cyc.got0
  noMaster : t.cyc.noMaster = s.cyc.noMaster
  fh : t.fh = s.fh
  flow : t.flow = s.flow
  pending : t.pending = s.pending

namespace Passing

theorem refl (s : State) : Passing s s := ⟨Eff.refl s _, rfl, rfl, rfl, rfl, rfl, rfl⟩

theorem trans {s t u : State} (a : Passing s t) (b : Passing t u) : Passing s u :=
  ⟨a.toEff.trans b.toEff, b.accMin.trans a.accMin, b.got0.trans a.got0, b.noMaster.trans a.noMaster, b.fh.trans a.fh, b.flow.trans a.flow,
    b.pending.trans a.pending⟩

theorem of_beside {s t : State} (h : Beside s t passRegs) : Passing s t :=
  ⟨h.toEff, by rw [h.cyc], by rw [h.cyc], by rw [h.cyc], h.fh, h.flow, h.pending⟩

theorem of_tiles {s t : State} (h : Beside s t Beside.tileRegs) : Passing s t := of_beside (h.mono pass_keys.2.1)

theorem cy (s : State) (f : Cycle → Cycle) (ha : (f s.cyc).accMin = s.cyc.accMin := by rfl) (hg : (f s.cyc).got0 = s.cyc.got0 := by rfl)
    (hn : (f s.cyc).noMaster = s.cyc.noMaster := by rfl) : Passing s (s.cy f) := ⟨Eff.of_regs _, ha, hg, hn, rfl, rfl, rfl⟩

theorem p (s : State) (f : FRef) (v : Nat) (hk : isPendKey f.off = false)
    (hl : f.off ∈ [RING_STAT.off, DEV_NODE.off, RING_PASS.off, RING_LAP.off, RING_LAP_MAX.off, RING_LATE_CNT.off, RING_SLICE_ERR.off, RING_SAT.off]) :
    Passing s (s.p f v) := of_beside (Beside.p s f v hk (pass_mem hl))

theorem lateCount (s : State) : Passing s (s.count RING_LATE_CNT.off) :=
  of_beside (Beside.countAny s (by decide) (by decide) (by rw [pass_keys.2.2.1]; decide) (pass_mem (by decide))
    (by rw [pass_keys.2.2.1]; exact pass_mem (by decide)))

theorem sliceCount (s : State) : Passing s (s.count RING_SLICE_ERR.off) :=
  of_beside (Beside.countAny s (by decide) (by decide) (by rw [pass_keys.2.2.2]; decide) (pass_mem (by decide))
    (by rw [pass_keys.2.2.2]; exact pass_mem (by decide)))

theorem raise (s : State) {ev cls : Nat} (hev : ev < 512) (hc : cls < 4) : Passing s (s.raise ev cls) := of_beside (Beside.raise s hev hc _)

theorem ite {c : Prop} [Decidable c] {s t u : State} (ht : Passing s t) (hu : Passing s u) : Passing s (if c then t else u) := by
  split
  · exact ht
  · exact hu

theorem foldl {α : Type} {f : State → α → State} : ∀ {es : List α} {s : State}, (∀ t, ∀ e ∈ es, Passing t (f t e)) → Passing s (es.foldl f s)
  | [], s, _ => refl s
  | e :: _, s, h => (h s e List.mem_cons_self).trans (foldl (fun t x hx => h t x (List.mem_cons_of_mem e hx)))

theorem setRole (s : State) : Passing s s.setRole := by
  have h : CyStep s s.setRole passRegs := CyStep.setRole s (pass_mem (by decide)) (pass_mem (by decide))
  obtain ⟨hfh, hflow, _, _, hpend⟩ := State.stores_of_bareCyc h.bare
  obtain ⟨_, hcyc, _⟩ := s.setRole_leaves
  exact ⟨h.toEff, by rw [hcyc], by rw [hcyc], by rw [hcyc], hfh, hflow, hpend⟩

theorem curM {s t : State} (h : Passing s t) : t.curM = s.curM := h.g (f := RING_ROLE.MASTER) pass_keys.1 (by decide)

theorem curB {s t : State} (h : Passing s t) : t.curB = s.curB := h.g (f := RING_ROLE.BACKUP) pass_keys.1 (by decide)

/-! ### The slice and the subscriptions -/

theorem fresh (s : State) (i : Nat) : Beside s (s.fresh i) Beside.tileRegs :=
  Beside.ite (Beside.refl s _) (Beside.ite ((Beside.putRec s _ _).trans (Beside.pointCount _ (by decide)))
    ((Beside.putRec s _ _).trans (Beside.pointCount _ (by decide))))

theorem pubRec (s : State) (i : Nat) : Passing s (s.pubRec i).2 := of_tiles ((Beside.touchTile s _).trans (fresh _ i))

theorem pubRecs (e : Nat × Nat) : ∀ (ks : List Nat) (acc : List Byte × Nat × State), Passing acc.2.2 (ks.foldl (fun (acc : List Byte × Nat × State) k =>
      let (b, s) := acc.2.2.pubRec (e.1 + k)
      (acc.1 ++ b, acc.2.1 + 1, s)) acc).2.2
  | [], _ => refl _
  | k :: ks, acc => (pubRec acc.2.2 (e.1 + k)).trans
    (pubRecs e ks (acc.1 ++ (acc.2.2.pubRec (e.1 + k)).1, acc.2.1 + 1, (acc.2.2.pubRec (e.1 + k)).2))

theorem pubRanges : ∀ (es : List (Nat × Nat)) (acc : List Byte × Nat × State),
    Passing acc.2.2 (es.foldl (fun (acc : List Byte × Nat × State) e => (List.range e.2).foldl (fun (acc : List Byte × Nat × State) k =>
      let (b, s) := acc.2.2.pubRec (e.1 + k)
      (acc.1 ++ b, acc.2.1 + 1, s)) acc) acc).2.2
  | [], _ => refl _
  | e :: es, acc => (pubRecs e (List.range e.2) acc).trans (pubRanges es _)

theorem sliceRecs (s : State) : Passing s s.sliceRecs.2.2 := pubRanges s.pubRanges ([], 0, s)

theorem insert (s : State) (pl : List Byte) : Passing s (s.insert pl).2 := by
  unfold State.insert
  dsimp only
  split
  · exact refl s
  · split
    · have h := sliceRecs s
      generalize s.sliceRecs = x at *
      exact h
    · split
      · exact refl s
      · exact (sliceCount s).trans (raise _ (ev := evRing 4) (cls := clNote) (by decide) (by decide))

theorem stageSubs (s : State) (p : Nat) (pl : List Byte) : Passing s (s.stageSubs p pl) :=
  foldl fun t _ _ => ite (refl t) (ite (refl t) (ite (sliceCount t) (ite (refl t) (cy t _))))

theorem passPayload (s : State) (p : Nat) (pl : List Byte) : Passing s (s.passPayload p pl) := by
  unfold State.passPayload
  dsimp only
  split
  · exact of_beside (Beside.of_regs _)
  · exact refl s

end Passing

/-! ### The acceptance of a train -/

theorem State.setMaster_raises {s : State} {m : Nat} (h : m ≠ s.curM) : (s.setMaster m).evPend (evRing 2) = true := by
  unfold State.setMaster
  rw [if_neg h]
  generalize (s.p RING_ROLE.MASTER m).count RING_MASTER_CHG.off = u
  exact (CyStep.setRole (u.raise (evRing 2) clNote) (l := roleRegs) (by decide) (by decide)).pend _ (by decide) (u.raise_pend clNote (by decide))

/-- The train of a master accepted for the first time in the cycle. -/
def Cycle.accepted (c : Cycle) (m : Nat) : Cycle := { c with accMin := some m, gotE := [], gotW := [], frames := 0 }

/-- What the acceptance of the train of the master `m` leaves. -/
structure Accepted (s t : State) (m : Nat) : Prop where
  curM : t.curM = m
  accMin : t.cyc.accMin = some m
  raised : m ≠ s.curM → t.evPend (evRing 2) = true
  fh : t.fh = s.fh
  flow : t.flow = s.flow
  pending : t.pending = s.pending
  resetReq : t.resetReq = s.resetReq

theorem State.trainAccept_first {s : State} {m : Nat} (hacc : s.cyc.accMin = none) (hm : m < 65536) (hle : m ≤ s.curM) :
    ∃ t, s.trainAccept m = (true, t) ∧ Accepted s t m := by
  have hx : s.trainAccept m = (true, (s.cy (Cycle.accepted · m)).setMaster m) := by
    unfold State.trainAccept
    dsimp only
    rw [hacc, if_neg Bool.false_ne_true, if_pos (.inl hle), if_neg (by simp)]
    rfl
  have hc : (s.cy (Cycle.accepted · m)).cyc = s.cyc.accepted m ∧ (s.cy (Cycle.accepted · m)).curM = s.curM ∧
    (s.cy (Cycle.accepted · m)).fh = s.fh ∧ (s.cy (Cycle.accepted · m)).flow = s.flow ∧ (s.cy (Cycle.accepted · m)).pending = s.pending ∧
    (s.cy (Cycle.accepted · m)).resetReq = s.resetReq := ⟨rfl, rfl, rfl, rfl, rfl, rfl⟩
  rw [hx]
  generalize s.cy (Cycle.accepted · m) = u at *
  obtain ⟨hcyc, hcur, hfh, hflow, hpend, hreset⟩ := hc
  obtain ⟨h, hcyc2, hcur2, _⟩ := u.setMaster_leaves hm
  obtain ⟨hfh2, hflow2, _, _, hpend2⟩ := State.stores_of_bareCyc h.bare
  exact ⟨_, rfl, hcur2, by rw [hcyc2, hcyc, Cycle.accepted], fun hne => State.setMaster_raises (by rw [hcur]; exact hne), hfh2.trans hfh,
    hflow2.trans hflow, hpend2.trans hpend, h.resetReq.trans hreset⟩

/-! ### The INDEX 0 frame -/

/-- The offset at which the first INDEX 0 frame of the cycle passed. -/
def State.passNoted (s : State) (off : Nat) : State := if s.cyc.got0 then s else s.p RING_PASS.OFFSET off

/-- The cycle record with an INDEX 0 frame in it. -/
def Cycle.indexed (c : Cycle) : Cycle := { c with got0 := true, noMaster := 0 }

/-- The backup that the frame names. -/
def State.backupNoted (s : State) (b : Nat) : State := (s.cy Cycle.indexed).p RING_ROLE.BACKUP b

/-- A lower master beats a candidate that launches. -/
def State.launchBeaten (s : State) (m me : Nat) : State := if s.cyc.launching ∧ m < me then s.cy (fun c => { c with beaten := true }) else s

/-- A hand-off to this node is noted for the next cycle. -/
def State.handoffNoted (s : State) (m me : Nat) (pl : List Byte) : State :=
  if bitOf (beAt pl 17 1) 0 ∧ beAt pl 6 2 = me ∧ m ≠ me then (s.pb RING_STAT.HANDOFF true).cy (fun c => { c with special := some 0 }) else s

/-- The claims that the node's own frame brings back, and its lap. -/
def State.claimsBack (s : State) (f : Frame) (m me : Nat) (pl : List Byte) : State :=
  if f.src = me ∧ m = me ∧ (f.turns = 0 ∨ f.turns = 2) then
    let s := s.cy (fun c => { c with returned := c.returned ++ [(beAt pl 8 2, beAt pl 10 2)] })
    match s.cyc.launchAt with
    | some t =>
      if s.cyc.returned.length = 2 then
        let lap := (s.fns - t).toNat
        (s.p RING_LAP.LAP lap).p RING_LAP_MAX.LAP (max lap (s.g RING_LAP_MAX.LAP))
      else s
    | none => s
  else s

theorem State.index0_state (s : State) (f : Frame) (pl : List Byte) (m : Nat) : (s.index0 f pl m).2 =
    (((((s.passNoted s.cycOff).backupNoted (beAt pl 6 2)).launchBeaten m s.node).handoffNoted m s.node pl).claimsBack f m s.node
      (if m ≠ s.node ∧ (((s.passNoted s.cycOff).backupNoted (beAt pl 6 2)).launchBeaten m s.node |>.handoffNoted m s.node pl).eligible then
        putBytes pl 8 (bytesBE 2 (claimUpdate s.node (beAt pl 8 2) (beAt pl 10 2)).1 ++ bytesBE 2 (claimUpdate s.node (beAt pl 8 2) (beAt pl 10 2)).2)
      else pl)).setRole := by
  unfold State.index0
  extract_lets me off s1 s2 s3 s4 s5 cl pl2 x s6
  have h1 : s1 = s.passNoted off := rfl
  clear_value s1
  have h3 : s3 = s1.backupNoted (beAt pl 6 2) := rfl
  clear_value s3
  have h4 : s4 = s3.launchBeaten m me := rfl
  clear_value s4
  have h5 : s5 = s4.handoffNoted m me pl := rfl
  clear_value s5
  have hp : pl2 = if m ≠ me ∧ s5.eligible then putBytes pl 8 (bytesBE 2 (claimUpdate me (beAt pl 8 2) (beAt pl 10 2)).1 ++
    bytesBE 2 (claimUpdate me (beAt pl 8 2) (beAt pl 10 2)).2) else pl := rfl
  clear_value pl2
  have h6 : s6 = s5.claimsBack f m me pl2 := rfl
  clear_value s6
  rw [h6, hp, h5, h4, h3, h1]

/-! ### The stages of the INDEX 0 frame -/

namespace Passing

theorem passNoted (s : State) (off : Nat) : Passing s (s.passNoted off) := ite (refl s) (p s _ _ (by decide) (by decide))

theorem launchBeaten (s : State) (m me : Nat) : Passing s (s.launchBeaten m me) := ite (cy s _) (refl s)

theorem handoffNoted (s : State) (m me : Nat) (pl : List Byte) : Passing s (s.handoffNoted m me pl) :=
  ite ((p s _ _ (by decide) (by decide)).trans (cy _ _)) (refl s)

theorem claimsBack (s : State) (f : Frame) (m me : Nat) (pl : List Byte) : Passing s (s.claimsBack f m me pl) := by
  unfold State.claimsBack
  refine ite ?_ (refl s)
  have h := cy s (fun c => { c with returned := c.returned ++ [(beAt pl 8 2, beAt pl 10 2)] })
  dsimp only
  generalize s.cy (fun c => { c with returned := c.returned ++ [(beAt pl 8 2, beAt pl 10 2)] }) = u at *
  refine h.trans ?_
  split
  · exact ite ((p u _ _ (by decide) (by decide)).trans (p _ _ _ (by decide) (by decide))) (refl u)
  · exact refl u

end Passing

/-- What the INDEX 0 frame of an accepted train leaves. -/
structure Indexed (s t : State) (b : Nat) : Prop where
  curB : t.curB = b
  curM : t.curM = s.curM
  accMin : t.cyc.accMin = s.cyc.accMin
  got0 : t.cyc.got0 = true
  noMaster : t.cyc.noMaster = 0
  pend : ∀ e, e < 512 → s.evPend e = true → t.evPend e = true
  fh : t.fh = s.fh
  flow : t.flow = s.flow
  pending : t.pending = s.pending
  resetReq : t.resetReq = s.resetReq

namespace Indexed

variable {s t u : State} {b : Nat}

theorem after (h : Indexed s t b) (a : Passing t u) : Indexed s u b :=
  ⟨a.curB.trans h.curB, a.curM.trans h.curM, a.accMin.trans h.accMin, a.got0.trans h.got0, a.noMaster.trans h.noMaster,
    fun e he hp => a.pend e he (h.pend e he hp), a.fh.trans h.fh, a.flow.trans h.flow, a.pending.trans h.pending, a.resetReq.trans h.resetReq⟩

theorem before (h : Indexed t u b) (a : Passing s t) : Indexed s u b :=
  ⟨h.curB, h.curM.trans a.curM, h.accMin.trans a.accMin, h.got0, h.noMaster, fun e he hp => h.pend e he (a.pend e he hp), h.fh.trans a.fh,
    h.flow.trans a.flow, h.pending.trans a.pending, h.resetReq.trans a.resetReq⟩

end Indexed

theorem State.backupNoted_indexed (s : State) {b : Nat} (hb : b < 65536) : Indexed s (s.backupNoted b) b := by
  have hc : (s.cy Cycle.indexed).cyc.accMin = s.cyc.accMin ∧ (s.cy Cycle.indexed).cyc.got0 = true ∧ (s.cy Cycle.indexed).cyc.noMaster = 0 ∧
    (s.cy Cycle.indexed).curM = s.curM := ⟨rfl, rfl, rfl, rfl⟩
  have h1 : CyStep s (s.cy Cycle.indexed) [RING_ROLE.off] := CyStep.cy s _ _
  unfold State.backupNoted
  generalize s.cy Cycle.indexed = u at *
  obtain ⟨hacc, hgot, hno, hcur⟩ := hc
  have h2 := h1.trans (CyStep.p u RING_ROLE.BACKUP b (by decide) (by decide))
  have hcyc := u.p_cyc RING_ROLE.BACKUP b
  have hself := u.g_p_fit (f := RING_ROLE.BACKUP) (v := b) hb (by decide)
  have hsep := u.g_p_sep (f := RING_ROLE.BACKUP) (g := RING_ROLE.MASTER) b (by decide)
  generalize u.p RING_ROLE.BACKUP b = v at *
  obtain ⟨hfh, hflow, _, _, hpend⟩ := State.stores_of_bareCyc h2.bare
  exact ⟨hself, hsep.trans hcur, by rw [hcyc, hacc], by rw [hcyc, hgot], by rw [hcyc, hno], h2.pend, hfh, hflow, hpend, h2.resetReq⟩

theorem State.index0_indexed (s : State) (f : Frame) (pl : List Byte) (m : Nat) : Indexed s (s.index0 f pl m).2 (beAt pl 6 2) := by
  rw [s.index0_state]
  generalize s.cycOff = off
  have h1 := Passing.passNoted s off
  generalize s.passNoted off = a at *
  have h2 := (a.backupNoted_indexed (b := beAt pl 6 2) (by simpa using beAt_lt pl 6 2)).before h1
  generalize a.backupNoted (beAt pl 6 2) = b at *
  have h3 := h2.after (Passing.launchBeaten b m s.node)
  generalize b.launchBeaten m s.node = c at *
  have h4 := h3.after (Passing.handoffNoted c m s.node pl)
  generalize c.handoffNoted m s.node pl = d at *
  exact (h4.after (Passing.claimsBack d f m s.node _)).after (Passing.setRole _)

/-! ### The frame -/

/-- A frame later than the window. -/
def State.lateNoted (s : State) : State := if s.winS + s.winC ≤ s.cycOff then s.count RING_LATE_CNT.off else s

/-- The frame of the current master's train noted as received on its way. -/
def Cycle.gotFrame (c : Cycle) (east : Bool) (idx n : Nat) : Cycle :=
  let c := if east then { c with gotE := if c.gotE.contains idx then c.gotE else idx :: c.gotE }
    else { c with gotW := if c.gotW.contains idx then c.gotW else idx :: c.gotW }
  { c with frames := n }

/-- The frame noted, where it is the current master's. -/
def State.gotNoted (s : State) (m : Nat) (east : Bool) (idx n : Nat) : State :=
  if m = s.curM then s.cy (Cycle.gotFrame · east idx n) else s

namespace Passing

theorem lateNoted (s : State) : Passing s s.lateNoted := ite (lateCount s) (refl s)

theorem gotNoted (s : State) (m : Nat) (east : Bool) (idx n : Nat) : Passing s (s.gotNoted m east idx n) := by
  cases east
  · exact ite (cy s _) (refl s)
  · exact ite (cy s _) (refl s)

end Passing

/-- The frame of this cycle and map from the current train. -/
structure Fits (s : State) (f : Frame) : Prop where
  ringEn : s.ringEn = true
  typ : f.typ = tySummation
  planeA : f.planeB = false

theorem State.sumPass_first {s a : State} {f : Frame} (p : Nat) (hf : Fits s f) (hk : beAt f.payload 16 1 % 16 = s.g RING_ACT_CYC.K)
    (hmap : beAt f.payload 20 4 = s.g RING_MAP.MAP_ID) (hcyc : beAt f.payload 0 4 = s.cyc.num % 2 ^ 32) (hidx : beAt f.payload 12 2 % 1024 = 0)
    (ha : s.trainAccept (beAt f.payload 4 2) = (true, a)) :
    Indexed a (s.sumPass p f).2 (beAt f.payload 6 2) := by
  unfold State.sumPass
  extract_lets pl kerr merr x1 x2 x3 m idx east
  rw [if_neg (by simp [hf.ringEn, hf.planeA]), if_neg (by simp [kerr, merr, pl, hk, hmap]), if_neg (by simp [pl, hcyc]), ha]
  dsimp -zeta only
  rw [if_neg (by decide)]
  extract_lets s1 s2
  have h1 : s1 = a.lateNoted := rfl
  clear_value s1
  have h2 : s2 = s1.gotNoted (beAt f.payload 4 2) east idx (beAt f.payload 14 2 % 2048) := rfl
  clear_value s2
  rw [if_pos hidx]
  have h3 := (s2.index0_indexed f pl m).before ((h1 ▸ Passing.lateNoted a : Passing a s1).trans (h2 ▸ Passing.gotNoted s1 _ _ _ _))
  generalize s2.index0 f pl m = r at *
  exact (h3.after (Passing.insert r.2 r.1)).after (Passing.stageSubs _ p _)

theorem summationFramePass_eq {f : Frame} (hf : f.typ = tySummation) (p : Fin 4) (s : State) :
    summationFramePass p f s = (s.sumPass p.val f).2.passPayload p.val (s.sumPass p.val f).1 := if_neg (by simp [hf])

theorem summationFramePass_first {s : State} {f : Frame} (p : Fin 4) (hs : s.resetReq = none) (hf : Fits s f)
    (hk : beAt f.payload 16 1 % 16 = s.g RING_ACT_CYC.K) (hmap : beAt f.payload 20 4 = s.g RING_MAP.MAP_ID)
    (hcyc : beAt f.payload 0 4 = s.cyc.num % 2 ^ 32) (hidx : beAt f.payload 12 2 % 1024 = 0) (hacc : s.cyc.accMin = none)
    (hle : beAt f.payload 4 2 ≤ s.curM) :
    ∃ t, exec (.summationFramePass p f) s = .next t ∧ t.curM = beAt f.payload 4 2 ∧ t.curB = beAt f.payload 6 2 ∧
      t.cyc.accMin = some (beAt f.payload 4 2) ∧ t.cyc.got0 = true ∧ t.cyc.noMaster = 0 ∧
      (beAt f.payload 4 2 ≠ s.curM → t.evPend (evRing 2) = true) ∧ t.flow = s.flow ∧ t.fh = s.fh := by
  obtain ⟨a, ha, h⟩ := State.trainAccept_first hacc (beAt_lt f.payload 4 2) hle
  have hi := State.sumPass_first p.val hf hk hmap hcyc hidx ha
  rw [exec_summationFramePass, summationFramePass_eq hf.typ]
  generalize s.sumPass p.val f = r at *
  have hu := hi.after (Passing.passPayload r.2 p.val r.1)
  generalize r.2.passPayload p.val r.1 = u at *
  exact ⟨u, congrArg _ (State.finish_kept (hu.resetReq.trans (h.resetReq.trans hs)) (hu.pending.trans h.pending)), hu.curM.trans h.curM, hu.curB,
    hu.accMin.trans h.accMin, hu.got0, hu.noMaster, fun hne => hu.pend _ (by decide) (h.raised hne), hu.flow.trans h.flow, hu.fh.trans h.fh⟩

/-! ### A frame of another K -/

/-- K_ERR, and MAP_ERR where the map differs too. -/
def State.mapFault (s : State) (b : Bool) : State := if b then (s.pb RING_STAT.K_ERR true).pb RING_STAT.MAP_ERR true else s.pb RING_STAT.K_ERR true

/-- A frame counted as late. -/
def State.lateIf (s : State) (b : Bool) : State := if b then s.count RING_LATE_CNT.off else s

/-- The fault of the cycle raised. -/
def State.faultRaised (s : State) : State := (s.cy (fun c => { c with errDone := true })).raise (evRing 3) clDegraded

/-- A stage that changes the train's registers and the cycle record: the points stay. -/
structure TrainStep (s t : State) : Prop extends CyStep s t [RING_STAT.off, RING_LATE_CNT.off] where
  pts : t.pts = s.pts

namespace TrainStep

theorem of_step {s t : State} (h : CyStep s t [RING_STAT.off, RING_LATE_CNT.off]) : TrainStep s t := by
  have hb := h.bare
  simp only [State.bare, State.mk.injEq] at hb
  exact ⟨h, by simp only [hb]⟩

theorem trans {s t u : State} (a : TrainStep s t) (b : TrainStep t u) : TrainStep s u := ⟨a.toCyStep.trans b.toCyStep, b.pts.trans a.pts⟩

end TrainStep

theorem State.mapFault_leaves (s : State) (b : Bool) : TrainStep s (s.mapFault b) ∧ (s.mapFault b).cyc = s.cyc ∧
    (s.mapFault b).flag RING_STAT.K_ERR = true ∧ (s.mapFault b).rd RING_LATE_CNT.off = s.rd RING_LATE_CNT.off := by
  have h1 : CyStep s (s.pb RING_STAT.K_ERR true) [RING_STAT.off, RING_LATE_CNT.off] := CyStep.p s _ _ (by decide) (by decide)
  have hc := s.pb_cyc RING_STAT.K_ERR true
  have hf := s.flag_pb_self (f := RING_STAT.K_ERR) true (by decide) rfl
  have hw := s.rd_pb_ne (f := RING_STAT.K_ERR) true (k := RING_LATE_CNT.off) (by decide)
  unfold State.mapFault
  generalize s.pb RING_STAT.K_ERR true = u at *
  split
  · exact ⟨TrainStep.of_step (h1.trans (CyStep.p u _ _ (by decide) (by decide))), (u.pb_cyc _ _).trans hc,
      (u.flag_pb_sep (f := RING_STAT.MAP_ERR) true (by decide)).trans hf,
      (u.rd_pb_ne (f := RING_STAT.MAP_ERR) true (by decide)).trans hw⟩
  · exact ⟨TrainStep.of_step h1, hc, hf, hw⟩

theorem State.lateIf_leaves {s : State} (b : Bool) (hn : (s.rd RING_LATE_CNT.off).toNat + 1 < 0xFFFFFFFF) : TrainStep s (s.lateIf b) ∧
    (s.lateIf b).cyc = s.cyc ∧ ((s.lateIf b).rd RING_LATE_CNT.off).toNat = (s.rd RING_LATE_CNT.off).toNat + (if b then 1 else 0) ∧
    (s.lateIf b).flag RING_STAT.K_ERR = s.flag RING_STAT.K_ERR := by
  cases b
  · exact ⟨TrainStep.of_step (CyStep.refl s _), rfl, rfl, rfl⟩
  · have hb := s.count_bare (off := RING_LATE_CNT.off) (by decide)
    have hc := CyStep.cyc_of_bare hb
    have he := Eff.count s (off := RING_LATE_CNT.off) (l := [RING_LATE_CNT.off]) hn (by decide) (by decide)
    exact ⟨TrainStep.of_step (CyStep.of_bare (he.mono (by decide)) hb hc), hc, s.count_toNat _ hn, he.flag (f := RING_STAT.K_ERR) (by decide) (by decide)⟩

theorem State.faultRaised_leaves (s : State) : TrainStep s s.faultRaised ∧ s.faultRaised.cyc = { s.cyc with errDone := true } ∧
    s.faultRaised.evPend (evRing 3) = true ∧ clDegraded ≤ s.faultRaised.evKept (evRing 3) ∧
    s.faultRaised.rd RING_LATE_CNT.off = s.rd RING_LATE_CNT.off ∧ s.faultRaised.flag RING_STAT.K_ERR = s.flag RING_STAT.K_ERR := by
  have h1 := CyStep.cy s (fun c => { c with errDone := true }) [RING_STAT.off, RING_LATE_CNT.off]
  have hc : (s.cy (fun c => { c with errDone := true })).cyc = { s.cyc with errDone := true } := rfl
  have hr : (s.cy (fun c => { c with errDone := true })).regs = s.regs := rfl
  unfold State.faultRaised
  generalize s.cy (fun c => { c with errDone := true }) = u at *
  have h2 := CyStep.raise u (ev := evRing 3) (cls := clDegraded) (by decide) (by decide) [RING_STAT.off, RING_LATE_CNT.off]
  have he := Eff.raise u (ev := evRing 3) (cls := clDegraded) (by decide) (by decide) []
  exact ⟨TrainStep.of_step (h1.trans h2), (CyStep.cyc_of_bare (u.raise_raised (ev := evRing 3) clDegraded (by decide)).bare).trans hc,
    u.raise_pend clDegraded (by decide), u.raise_kept clDegraded (by decide), (he.word (by simp) (by decide)).trans (State.rd_of_regs hr _),
    (he.flag (f := RING_STAT.K_ERR) (by simp) (by decide)).trans (State.flag_of_regs hr _)⟩

theorem State.sumPass_otherK {s : State} {f : Frame} (p : Nat) (hf : Fits s f) (hk : beAt f.payload 16 1 % 16 ≠ s.g RING_ACT_CYC.K)
    (herr : s.cyc.errDone = false) (hn : (s.rd RING_LATE_CNT.off).toNat + 1 < 0xFFFFFFFF) : s.sumPass p f = (f.payload,
      ((s.mapFault (beAt f.payload 20 4 ≠ s.g RING_MAP.MAP_ID)).lateIf (beAt f.payload 0 4 ≠ s.cyc.num % 2 ^ 32)).faultRaised) := by
  unfold State.sumPass
  extract_lets pl kerr merr x1 x2 x3
  rw [if_neg (by simp [hf.ringEn, hf.planeA]), if_pos (.inl hk)]
  have hx1 : x1 = s.pb RING_STAT.K_ERR true := if_pos hk
  have hx2 : x2 = s.mapFault (beAt f.payload 20 4 ≠ s.g RING_MAP.MAP_ID) := by
    by_cases h : beAt f.payload 20 4 ≠ s.g RING_MAP.MAP_ID
    · exact (if_pos h).trans (by rw [hx1, State.mapFault, if_pos (decide_eq_true h)])
    · exact (if_neg h).trans (by rw [hx1, State.mapFault, if_neg (by simpa using h)])
  clear_value x1 x2
  obtain ⟨_, hc2, _, hw2⟩ := s.mapFault_leaves (beAt f.payload 20 4 ≠ s.g RING_MAP.MAP_ID)
  rw [← hx2] at hc2 hw2 ⊢
  have hx3 : x3 = x2.lateIf (beAt f.payload 0 4 ≠ s.cyc.num % 2 ^ 32) := by
    by_cases h : beAt f.payload 0 4 ≠ s.cyc.num % 2 ^ 32
    · exact (if_pos (by rw [hc2]; exact h)).trans (by rw [State.lateIf, if_pos (decide_eq_true h)])
    · exact (if_neg (by rw [hc2]; exact h)).trans (by rw [State.lateIf, if_neg (by simpa using h)])
  clear_value x3
  have hn2 : (x2.rd RING_LATE_CNT.off).toNat + 1 < 0xFFFFFFFF := by rw [hw2]; exact hn
  obtain ⟨_, hc3, _⟩ := State.lateIf_leaves (beAt f.payload 0 4 ≠ s.cyc.num % 2 ^ 32) hn2
  rw [← hx3] at hc3 ⊢
  rw [if_neg (by rw [hc3, hc2, herr]; decide)]
  rfl

theorem State.passPayload_leaves (s : State) (p : Nat) (pl : List Byte) : Beside s (s.passPayload p pl) [] ∧ (s.passPayload p pl).pts = s.pts := by
  unfold State.passPayload
  dsimp only
  split
  · exact ⟨Beside.of_regs _, rfl⟩
  · exact ⟨Beside.refl s _, rfl⟩

theorem summationFramePass_otherK {s : State} {f : Frame} (p : Fin 4) (hs : s.resetReq = none) (hf : Fits s f)
    (hk : beAt f.payload 16 1 % 16 ≠ s.g RING_ACT_CYC.K) (herr : s.cyc.errDone = false)
    (hn : (s.rd RING_LATE_CNT.off).toNat + 1 < 0xFFFFFFFF) :
    ∃ t, exec (.summationFramePass p f) s = .next t ∧ t.flag RING_STAT.K_ERR = true ∧ t.curM = s.curM ∧ t.evPend (evRing 3) = true ∧
      clDegraded ≤ t.evKept (evRing 3) ∧ t.cyc = { s.cyc with errDone := true } ∧
      (t.rd RING_LATE_CNT.off).toNat = (s.rd RING_LATE_CNT.off).toNat + (if beAt f.payload 0 4 = s.cyc.num % 2 ^ 32 then 0 else 1) ∧
      s.keepsRegs t [RING_STAT.off, RING_LATE_CNT.off] ∧ t.pts = s.pts := by
  rw [exec_summationFramePass, summationFramePass_eq hf.typ, State.sumPass_otherK p.val hf hk herr hn]
  obtain ⟨h1, hc1, hf1, hw1⟩ := s.mapFault_leaves (beAt f.payload 20 4 ≠ s.g RING_MAP.MAP_ID)
  generalize s.mapFault (beAt f.payload 20 4 ≠ s.g RING_MAP.MAP_ID) = a at *
  obtain ⟨h2, hc2, hw2, hf2⟩ := a.lateIf_leaves (beAt f.payload 0 4 ≠ s.cyc.num % 2 ^ 32) (by rw [hw1]; exact hn)
  generalize a.lateIf (beAt f.payload 0 4 ≠ s.cyc.num % 2 ^ 32) = b at *
  obtain ⟨h3, hc3, hp3, hk3, hw3, hf3⟩ := b.faultRaised_leaves
  generalize b.faultRaised = c at *
  obtain ⟨h4, hpts⟩ := c.passPayload_leaves p.val f.payload
  dsimp only
  generalize c.passPayload p.val f.payload = d at *
  have h := (h1.trans h2).trans h3
  obtain ⟨_, _, _, _, hpend⟩ := State.stores_of_bareCyc h.bare
  have he : Eff s d [RING_STAT.off, RING_LATE_CNT.off] := h.toEff.trans (h4.toEff.mono (by simp))
  refine ⟨d, congrArg _ (State.finish_kept (he.resetReq.trans hs) (h4.pending.trans hpend)),
    (h4.flag (f := RING_STAT.K_ERR) (by simp) (by decide)).trans (hf3.trans (hf2.trans hf1)), he.g (f := RING_ROLE.MASTER) (by decide) (by decide),
    h4.pend _ (by decide) hp3, hk3.trans (h4.kept _ (by decide) hp3), by rw [h4.cyc, hc3, hc2, hc1], ?_, he.rd, hpts.trans h.pts⟩
  rw [h4.word (by simp) (by decide), hw3, hw2, hw1]
  simp

/-- Settles O29. -/
theorem summationTrain : Obligations.SummationTrain := by
  refine ⟨fun s hs hen hl hat hwin hslot => ?_, fun p f s hs hen htyp hpl hk hmap hcyc hidx hacc hle _ =>
    summationFramePass_first p hs ⟨hen, htyp, hpl⟩ hk hmap hcyc hidx hacc hle,
    fun p f s hs hen htyp hpl hk herr hn => summationFramePass_otherK p hs ⟨hen, htyp, hpl⟩ hk herr hn⟩
  obtain ⟨t, ht, hcyc, hflag, hlen, hall, hregs, hpts⟩ := summationLaunch_offers hs hen hl hat hwin hslot
  refine ⟨t, ht, hcyc, hflag, hlen, fun i hi p hp => ?_, hregs, hpts⟩
  obtain ⟨w, hw, htg, hf⟩ := hall i hi p hp
  exact ⟨w, hw, htg, by rw [hf]; rfl, by rw [hf]; rfl, by rw [hf]; rfl⟩

end Sys2Proof.Machine
end

section
/-! Frames at the ring ports (R97, R98, R104 to R107): the header received, the trailer checked, and the next copy sent. -/

namespace Sys2Proof.Machine

/- One evaluation after another: each of them, left to itself, would hold a thread. -/
set_option Elab.async false

theorem exec_pelumFrameReceive (p : Fin 4) (hdr : List Byte) (q : Fin 16) (slow : Bool) (s : State) :
    exec (.pelumFrameReceive p hdr q slow) s = .next (s.finish (pelumFrameReceive p hdr q slow s)) := by rfl

theorem exec_frameTrailerCheck (p : Fin 4) (payload icv : List Byte) (trailer : Word) (tile : Option (Fin 16384)) (s : State) :
    exec (.frameTrailerCheck p payload icv trailer tile) s = .next (s.finish (frameTrailerCheck p payload icv trailer tile s)) := by rfl

theorem exec_egressFrameStart (p : Fin 4) (sub : Fin 16) (bad : Option Nat) (s : State) :
    exec (.egressFrameStart p sub bad) s = .next (s.finish (egressFrameStart p sub bad s)) := by rfl

theorem State.port_pm_ne (s : State) {p j : Nat} (f : Port → Port) (h : j ≠ p) : (s.pm p f).port j = s.port j := Laws.get_set_ne _ _ h

/-! ### The header -/

/-- A frame of class 4 to 0 for this node, in the open and with no turn. -/
structure ForMe (s : State) (f : Frame) : Prop where
  dst : f.dst = s.node
  src : f.src ≠ s.node
  notLink : linkLocal f.typ = false
  turns : f.turns = 0

theorem State.rxRow_forMe {s : State} {f : Frame} (h : ForMe s f) (p : Nat) : s.rxRow p f = .pass true false := by
  unfold State.rxRow
  rw [if_neg (by rw [h.notLink]; exact Bool.false_ne_true), if_neg (by rw [h.turns]; omega), if_neg (fun hc => h.src hc.1), if_pos h.dst]

theorem pelumFrameReceive_forMe {s : State} {p : Fin 4} {hdr : List Byte} (q : Fin 16) (hruns : s.portRuns p.val = true) (hup : s.pst p.val = psUp)
    (hgood : hdrBad hdr = false) (hme : ForMe s (decHeader hdr)) (hcls : (decHeader hdr).cls ≤ 4) (hsec : (decHeader hdr).sec = false)
    (hopen : s.flag (PORT_CFG.SEC p.val) = false) : pelumFrameReceive p hdr q false s =
      s.pm p.val (fun x => { x with rx := some ⟨hdr, decHeader hdr, s.now4 q.val, true, none, false, some (poolOf (decHeader hdr).cls), false⟩ }) := by
  have hsa : s.saOk p.val (decHeader hdr) = true := by
    unfold State.saOk
    rw [if_neg (by rw [hsec]; exact Bool.false_ne_true), hopen]
    rfl
  unfold pelumFrameReceive
  dsimp only
  rw [if_neg (by rw [hruns, hup]; decide), if_neg (by rw [hgood]; exact Bool.false_ne_true), if_neg (by rw [hsa]; decide),
    if_neg (by rw [hup]; exact fun h => h.1 rfl), if_neg (fun h => Bool.false_ne_true h.1), State.rxRow_forMe hme]
  dsimp only
  rw [if_neg (by rw [decide_eq_false (by omega : ¬5 ≤ (decHeader hdr).cls)]; simp), if_neg (fun h => h.2.2 hme.dst), if_pos hcls]

theorem headerReceived {s : State} {p : Fin 4} {hdr : List Byte} {q : Fin 16} (hs : s.resetReq = none) (hruns : s.portRuns p.val = true)
    (hup : s.pst p.val = psUp) (hgood : hdrBad hdr = false) (hme : ForMe s (decHeader hdr)) (hcls : (decHeader hdr).cls ≤ 4)
    (hsec : (decHeader hdr).sec = false) (hopen : s.flag (PORT_CFG.SEC p.val) = false) :
    ∃ t, exec (.pelumFrameReceive p hdr q false) s = .next t ∧
      (t.port p.val).rx = some ⟨hdr, decHeader hdr, s.now4 q.val, true, none, false, some (poolOf (decHeader hdr).cls), false⟩ ∧
      (∀ j, j ≠ p.val → t.port j = s.port j) ∧ { t with links := { t.links with ports := s.links.ports } } = s := by
  rw [exec_pelumFrameReceive, pelumFrameReceive_forMe q hruns hup hgood hme hcls hsec hopen]
  obtain ⟨_, hreset, hpend, _, hframe⟩ := s.pm_leaves p.val (fun x => { x with
    rx := some ⟨hdr, decHeader hdr, s.now4 q.val, true, none, false, some (poolOf (decHeader hdr).cls), false⟩ })
  exact ⟨_, congrArg _ (State.finish_kept (hreset.trans hs) hpend), by rw [State.port_pm], fun j hj => s.port_pm_ne _ hj, hframe⟩

/-! ### CRC-32C -/

theorem crc32cBit_lt {c : Nat} (h : c < 2 ^ 32) : crc32cBit c < 2 ^ 32 := by
  unfold crc32cBit
  split
  · exact Nat.xor_lt_two_pow (by omega) (by decide)
  · omega

theorem crc32cByte_lt {c : Nat} (b : Byte) (h : c < 2 ^ 32) : crc32cByte c b < 2 ^ 32 := by
  unfold crc32cByte
  have hb : c ^^^ b.toNat < 2 ^ 32 := Nat.xor_lt_two_pow h (by omega)
  exact crc32cBit_lt (crc32cBit_lt (crc32cBit_lt (crc32cBit_lt (crc32cBit_lt (crc32cBit_lt (crc32cBit_lt (crc32cBit_lt hb)))))))

theorem crc32c_lt (l : List Byte) : crc32c l < 2 ^ 32 := by
  have hfold : ∀ (l : List Byte) (c : Nat), c < 2 ^ 32 → l.foldl crc32cByte c < 2 ^ 32 := by
    intro l
    induction l with
    | nil => exact fun c h => h
    | cons b l ih => exact fun c h => ih _ (crc32cByte_lt b h)
  exact Nat.xor_lt_two_pow (hfold l _ (by decide)) (by decide)

theorem trailerKind_right (l : List Byte) : trailerKind l (BitVec.ofNat 32 (crc32c l)) = 0 :=
  if_pos (by rw [BitVec.toNat_ofNat, Nat.mod_eq_of_lt (crc32c_lt l)])

/-! ### The end of a frame -/

theorem State.endExtracts_none {s : State} (h : s.cyc.staged = []) (p : Nat) (good : Bool) (tile : Option (Fin 16384)) :
    s.endExtracts p good tile = s := by
  have hcy : s.cy (fun c => { c with staged := c.staged.filter (fun e => e.port != p) }) = s := by
    rw [State.cy, h, List.filter_nil, ← h]
  unfold State.endExtracts
  dsimp only
  rw [hcy, h, List.filter_nil, List.foldl_nil, ite_self]

/-- The port's reception ended, and its frame and bytes counted. -/
def State.rxEnded (s : State) (i n : Nat) : State :=
  ((s.pm i (fun q => { q with rx := none })).traffic (PORT_RX_BYTES_LO.off i) (36 + n)).traffic (PORT_RX_FRAMES_LO.off i) 1

/-- The traffic counters of a port's reception. -/
def rxTraffic (i : Nat) : List Nat :=
  [PORT_RX_BYTES_LO.off i, PORT_RX_BYTES_LO.off i + 4, PORT_RX_FRAMES_LO.off i, PORT_RX_FRAMES_LO.off i + 4]

theorem rxTraffic_keys : ∀ p : Fin 4, (∀ k ∈ rxTraffic p.val, isPendKey k = false) ∧ DEV_NODE.off ∉ rxTraffic p.val ∧
    PORT_RING.off (planeOf p.val) ∉ rxTraffic p.val ∧ PORT_CRC_ERR.off p.val ∉ rxTraffic p.val ∧
    PORT_RX_FRAMES_LO.off p.val ≠ PORT_RX_BYTES_LO.off p.val ∧ PORT_RX_FRAMES_LO.off p.val ≠ PORT_RX_BYTES_LO.off p.val + 4 ∧
    PORT_RX_FRAMES_LO.off p.val + 4 ≠ PORT_RX_BYTES_LO.off p.val := by decide +kernel

theorem State.traffic_leaves (s : State) (k n : Nat) : (s.traffic k n).bare = s.bare ∧ (s.traffic k n).sw = s.sw ∧ (s.traffic k n).cyc = s.cyc ∧
    (s.traffic k n).links = s.links ∧ (s.traffic k n).pending = s.pending ∧ (s.traffic k n).resetReq = s.resetReq ∧
    (s.traffic k n).sump = s.sump ∧ (s.traffic k n).clep = s.clep := ⟨rfl, rfl, rfl, rfl, rfl, rfl, rfl, rfl⟩

theorem State.traffic_rd (s : State) {k : Nat} (n : Nat) {j : Nat} (h : j ≠ k) (h' : j ≠ k + 4) : (s.traffic k n).rd j = s.rd j := s.rd_wr64_ne _ _ h h'

theorem State.traffic_rd64 (s : State) (k n : Nat) : (s.traffic k n).rd64 k = (s.rd64 k + n) % 2 ^ 64 :=
  s.rd64_wr64_fit (Nat.mod_lt _ (by decide))

/-- What the end of a reception leaves before the frame is judged. -/
structure RxEnded (s t : State) (i n : Nat) : Prop where
  rd : ∀ k, k ∉ rxTraffic i → t.rd k = s.rd k
  frames : t.rd64 (PORT_RX_FRAMES_LO.off i) = (s.rd64 (PORT_RX_FRAMES_LO.off i) + 1) % 2 ^ 64
  bytes : t.rd64 (PORT_RX_BYTES_LO.off i) = (s.rd64 (PORT_RX_BYTES_LO.off i) + (36 + n)) % 2 ^ 64
  port : t.port i = { s.port i with rx := none }
  sw : t.sw = s.sw
  cyc : t.cyc = s.cyc
  pending : t.pending = s.pending
  resetReq : t.resetReq = s.resetReq

theorem State.rxEnded_leaves (s : State) (p : Fin 4) (n : Nat) : RxEnded s (s.rxEnded p.val n) p.val n := by
  obtain ⟨_, _, _, _, hne, hne4, hne4'⟩ := rxTraffic_keys p
  obtain ⟨hregs, hreset, hpend, hsw, _⟩ := s.pm_leaves p.val (fun q => { q with rx := none })
  have hport := s.port_pm p.val (fun q => { q with rx := none })
  have hcyc : (s.pm p.val (fun q => { q with rx := none })).cyc = s.cyc := rfl
  unfold State.rxEnded
  generalize s.pm p.val (fun q => { q with rx := none }) = a at *
  obtain ⟨_, hsw1, hcyc1, hl1, hp1, hr1, _⟩ := a.traffic_leaves (PORT_RX_BYTES_LO.off p.val) (36 + n)
  have hrd1 : ∀ j, j ≠ PORT_RX_BYTES_LO.off p.val → j ≠ PORT_RX_BYTES_LO.off p.val + 4 → _ := fun j h h' => a.traffic_rd (36 + n) h h'
  have hb1 := a.traffic_rd64 (PORT_RX_BYTES_LO.off p.val) (36 + n)
  generalize a.traffic (PORT_RX_BYTES_LO.off p.val) (36 + n) = b at *
  obtain ⟨_, hsw2, hcyc2, hl2, hp2, hr2, _⟩ := b.traffic_leaves (PORT_RX_FRAMES_LO.off p.val) 1
  have hrd2 : ∀ j, j ≠ PORT_RX_FRAMES_LO.off p.val → j ≠ PORT_RX_FRAMES_LO.off p.val + 4 → _ := fun j h h' => b.traffic_rd 1 h h'
  have hb2 := b.traffic_rd64 (PORT_RX_FRAMES_LO.off p.val) 1
  generalize b.traffic (PORT_RX_FRAMES_LO.off p.val) 1 = c at *
  refine ⟨fun k hk => ?_, ?_, ?_, ?_, hsw2.trans (hsw1.trans hsw), hcyc2.trans (hcyc1.trans hcyc), hp2.trans (hp1.trans hpend), hr2.trans (hr1.trans hreset)⟩
  · simp only [rxTraffic, List.mem_cons, List.not_mem_nil, or_false, not_or] at hk
    obtain ⟨h1, h2, h3, h4⟩ := hk
    rw [hrd2 k h3 h4, hrd1 k h1 h2, State.rd_of_regs hregs]
  · rw [hb2, State.rd64_congr (hrd1 _ hne hne4) (hrd1 _ hne4' (by omega)), State.rd64_congr (State.rd_of_regs hregs _) (State.rd_of_regs hregs _)]
  · rw [State.rd64_congr (hrd2 _ (Ne.symm hne) (Ne.symm hne4')) (hrd2 _ (Ne.symm hne4) (by omega)), hb1,
      State.rd64_congr (State.rd_of_regs hregs _) (State.rd_of_regs hregs _)]
  · rw [State.port, hl2, hl1]
    exact hport

/-- The frame stands in its arrival pool, and waits for admission to the internal port. -/
def State.arrived (s : State) (p k : Nat) (f : Frame) (port tIn : Nat) : State :=
  (s.pm p (fun q => if k = 0 then { q with arrH := q.arrH + tilesFor (frameBytes f) } else { q with arrL := q.arrL + tilesFor (frameBytes f) })).pushWait
    ⟨p, f.cls, [port], f, false, frameBytes f, some k, tIn⟩

theorem State.arrived_leaves (s : State) (p k : Nat) (f : Frame) (port tIn : Nat) : (s.arrived p k f port tIn).regs = s.regs ∧
    (s.arrived p k f port tIn).cyc = s.cyc ∧ (s.arrived p k f port tIn).pending = s.pending ∧ (s.arrived p k f port tIn).resetReq = s.resetReq ∧
    ((s.arrived p k f port tIn).port p).rx = (s.port p).rx ∧
    (s.arrived p k f port tIn).sw.waiting = s.sw.waiting ++ [⟨p, f.cls, [port], f, false, frameBytes f, some k, tIn⟩] := by
  refine ⟨rfl, rfl, rfl, rfl, ?_, rfl⟩
  have h := s.port_pm p (fun q => if k = 0 then { q with arrH := q.arrH + tilesFor (frameBytes f) } else { q with arrL := q.arrL + tilesFor (frameBytes f) })
  unfold State.arrived
  generalize s.pm p (fun q => if k = 0 then { q with arrH := q.arrH + tilesFor (frameBytes f) } else { q with arrL := q.arrL + tilesFor (frameBytes f) }) = u at *
  have hp : ∀ w, (u.pushWait w).port p = u.port p := fun _ => rfl
  rw [hp, h]
  split
  · rfl
  · rfl

theorem State.wholeGood_forMe {s : State} {r : RxSlot} {f : Frame} {port k : Nat} (p : Nat) (hme : ForMe s f) (hwork : f.work = true)
    (hex : r.extract = true) (hport : extractPort f.typ = some port) (hpool : r.pool = some k) : s.wholeGood p r f = s.arrived p k f port r.tIn := by
  unfold State.wholeGood
  have hts : rxTargets p f (r.extract && true) false = [port] := by
    rw [rxTargets, hex, hport]
    rfl
  dsimp only
  rw [State.rxRow_forMe hme, hex, hwork, hpool]
  dsimp only
  have hnew : (if (true && decide (f.cls ≤ 4) && !true) = true then s.fresh105 f else (true, s)) = (true, s) := if_neg (by simp)
  rw [hex] at hts
  have hwait : (if linkLocal f.typ = true then [] else rxTargets p f (true && true) false) = [port] :=
    (if_neg (by rw [hme.notLink]; exact Bool.false_ne_true)).trans hts
  rw [hnew, hwait, if_neg (by simp)]
  rfl

/-- A received frame that its header admits for this node's deliveries. -/
structure Arriving (s : State) (r : RxSlot) (k port : Nat) : Prop where
  live : r.dead = false
  extract : r.extract = true
  whole : r.stored = none
  fresh : r.passed = false
  pool : r.pool = some k
  plain : r.frame.sec = false
  work : r.frame.work = true
  me : ForMe s r.frame
  port : extractPort r.frame.typ = some port

theorem State.frameEnd_good {s : State} {p : Fin 4} {r : RxSlot} {payload : List Byte} {k port : Nat} (tile : Option (Fin 16384))
    (hrx : (s.port p.val).rx = some r) (h : Arriving s r k port) (hlen : payload.length = r.frame.len) (hst : s.cyc.staged = [])
    {g : Frame} (hg : g = { r.frame with payload := payload }) : s.frameEnd p.val payload (BitVec.ofNat 32 (crc32c (r.hdr ++ payload))) tile =
      (s.rxEnded p.val payload.length).arrived p.val k g port r.tIn := by
  unfold State.frameEnd
  rw [hrx]
  have hu := s.rxEnded_leaves p payload.length
  dsimp -zeta only
  extract_lets s1 s2 kind long icv pl s3 s4 s5 s6 x f s7
  have h2 : s2 = s.rxEnded p.val payload.length := rfl
  have hkind : kind = 0 := trailerKind_right _
  have hlong : ¬long := by simp only [long, h.plain, Bool.false_eq_true, if_false, Nat.add_zero, ne_eq, not_not, hlen]
  have hicv : icv = false := by simp only [icv, h.plain, Bool.false_and]
  have hpl : pl = payload := by simp only [pl, h.fresh, Bool.false_eq_true, if_false, State.rxPlain, h.plain]
  have h3 : s3 = s2 := by simp only [s3, h.whole]
  clear_value s1 s2 s3
  have h4 : s4 = s3 := (if_neg (by rw [hkind]; decide)).trans ((if_neg (not_or.2 ⟨by rw [hkind]; decide, hlong⟩)).trans (if_neg (by rw [hicv]; decide)))
  clear_value s4
  have h6 : s6 = s4 := if_neg (by rw [h.plain]; exact Bool.false_ne_true)
  have hx : x = r.frame := rfl
  have hf : f = g := by simp only [f, hpl, hx, hg]
  have h7 : s7 = s6.wholeGood p.val r f := by simp only [s7, h.whole]
  clear_value s6 x f s7
  have hme : ForMe (s.rxEnded p.val payload.length) g := by
    subst hg
    exact ⟨h.me.dst.trans (by rw [State.node, State.node, State.g, State.g, hu.rd _ (rxTraffic_keys p).2.1]),
      fun hc => h.me.src (hc.trans (by rw [State.node, State.node, State.g, State.g, hu.rd _ (rxTraffic_keys p).2.1])), h.me.notLink, h.me.turns⟩
  rw [if_neg (by rw [h.live]; exact Bool.false_ne_true), if_neg (not_or.2 ⟨not_not.2 hkind, not_or.2 ⟨hlong, by rw [hicv]; decide⟩⟩), h7, h6, h4, h3, h2, hf,
    State.wholeGood_forMe p.val hme (by rw [hg]; exact h.work) h.extract (port := port) (by rw [hg]; exact h.port) h.pool]
  generalize s.rxEnded p.val payload.length = u at *
  obtain ⟨_, hcyc, _⟩ := u.arrived_leaves p.val k g port r.tIn
  exact State.endExtracts_none (by rw [hcyc, hu.cyc, hst]) _ _ _

theorem frameTrailerCheck_plain {s : State} {p : Fin 4} (hinj : s.sump.inj.contains (.trailer p) = false) (payload icv : List Byte) (trailer : Word)
    (tile : Option (Fin 16384)) : frameTrailerCheck p payload icv trailer tile s = s.frameEnd p.val (payload ++ icv) trailer tile :=
  if_neg fun h => Bool.false_ne_true (hinj.symm.trans h.1)

theorem trailerGood {s : State} {p : Fin 4} {r : RxSlot} {payload : List Byte} {k : Nat} (tile : Option (Fin 16384)) (hs : s.resetReq = none)
    (hrx : (s.port p.val).rx = some r) (hinj : s.sump.inj.contains (.trailer p) = false) (h : Arriving s r k 8)
    (hlen : payload.length = r.frame.len) (hst : s.cyc.staged = []) :
    ∃ t, exec (.frameTrailerCheck p payload [] (BitVec.ofNat 32 (crc32c (r.hdr ++ payload))) tile) s = .next t ∧ (t.port p.val).rx = none ∧
      t.sw.waiting = s.sw.waiting ++
        [⟨p.val, r.frame.cls, [8], { r.frame with payload := payload }, false, 36 + r.frame.len, some k, r.tIn⟩] ∧
      t.rd64 (PORT_RX_FRAMES_LO.off p.val) = (s.rd64 (PORT_RX_FRAMES_LO.off p.val) + 1) % 2 ^ 64 ∧
      t.rd64 (PORT_RX_BYTES_LO.off p.val) = (s.rd64 (PORT_RX_BYTES_LO.off p.val) + (36 + payload.length)) % 2 ^ 64 := by
  obtain ⟨g, hg⟩ : ∃ g : Frame, g = { r.frame with payload := payload } := ⟨_, rfl⟩
  rw [exec_frameTrailerCheck, frameTrailerCheck_plain hinj, List.append_nil, State.frameEnd_good tile hrx h hlen hst hg, ← hg]
  have hu := s.rxEnded_leaves p payload.length
  generalize s.rxEnded p.val payload.length = u at *
  obtain ⟨hregs, _, hpend, hreset, hrx', hwait⟩ := u.arrived_leaves p.val k g 8 r.tIn
  generalize u.arrived p.val k g 8 r.tIn = v at *
  have hrd64 : ∀ k, v.rd64 k = u.rd64 k := fun k => State.rd64_congr (State.rd_of_regs hregs _) (State.rd_of_regs hregs _)
  have hbytes : frameBytes g = 36 + r.frame.len := by
    rw [hg, frameBytes]
    dsimp only
    rw [if_neg (by rw [h.plain]; exact Bool.false_ne_true), Nat.add_zero]
  refine ⟨v, congrArg _ (State.finish_kept (hreset.trans (hu.resetReq.trans hs)) (hpend.trans hu.pending)), hrx'.trans (by rw [hu.port]), ?_,
    (hrd64 _).trans hu.frames, (hrd64 _).trans hu.bytes⟩
  rw [hwait, hu.sw, hbytes, hg]

/-! ### A wrong trailer -/

/-- The frame counted as wrong, at the port and in its window. -/
def State.crcCounted (s : State) (i : Nat) : State := (s.count (PORT_CRC_ERR.off i)).pm i (fun q => { q with winErr := q.winErr + 1 })

theorem State.freeRx_leaves (s : State) (p : Nat) (r : RxSlot) : (s.freeRx p r).regs = s.regs ∧ (s.freeRx p r).sw = s.sw ∧
    (s.freeRx p r).pending = s.pending ∧ (s.freeRx p r).resetReq = s.resetReq ∧ ((s.freeRx p r).port p).rx = (s.port p).rx ∧
    ((s.freeRx p r).port p).winErr = (s.port p).winErr := by
  have hset : ∀ v : Port, (s.setPort p v).port p = v := fun v => Laws.get_set_same _ _ _
  unfold State.freeRx State.poolFree
  dsimp only
  split
  · rw [hset]
    split
    · exact ⟨rfl, rfl, rfl, rfl, rfl, rfl⟩
    · exact ⟨rfl, rfl, rfl, rfl, rfl, rfl⟩
  · exact ⟨rfl, rfl, rfl, rfl, rfl, rfl⟩

theorem State.crcCounted_leaves {s : State} {p : Fin 4} (hn : (s.rd (PORT_CRC_ERR.off p.val)).toNat + 1 < 0xFFFFFFFF) :
    (s.crcCounted p.val).sw = s.sw ∧ (s.crcCounted p.val).cyc = s.cyc ∧ (s.crcCounted p.val).pending = s.pending ∧
    (s.crcCounted p.val).resetReq = s.resetReq ∧ ((s.crcCounted p.val).port p.val).rx = (s.port p.val).rx ∧
    ((s.crcCounted p.val).port p.val).winErr = (s.port p.val).winErr + 1 ∧
    ((s.crcCounted p.val).rd (PORT_CRC_ERR.off p.val)).toNat = (s.rd (PORT_CRC_ERR.off p.val)).toNat + 1 := by
  have hcnt := s.count_toNat _ hn
  have hleft : (s.count (PORT_CRC_ERR.off p.val)).sw = s.sw ∧ (s.count (PORT_CRC_ERR.off p.val)).cyc = s.cyc ∧
    (s.count (PORT_CRC_ERR.off p.val)).pending = s.pending ∧ (s.count (PORT_CRC_ERR.off p.val)).resetReq = s.resetReq ∧
    (s.count (PORT_CRC_ERR.off p.val)).links = s.links := by
    rw [s.count_eq _ hn]
    exact ⟨rfl, rfl, rfl, rfl, rfl⟩
  unfold State.crcCounted
  generalize s.count (PORT_CRC_ERR.off p.val) = u at *
  obtain ⟨hsw, hcyc, hpend, hreset, hlinks⟩ := hleft
  have hport : u.port p.val = s.port p.val := by rw [State.port, hlinks, State.port]
  obtain ⟨hregs, hreset', hpend', hsw', _⟩ := u.pm_leaves p.val (fun q => { q with winErr := q.winErr + 1 })
  have hpm := u.port_pm p.val (fun q => { q with winErr := q.winErr + 1 })
  have hcyc' : (u.pm p.val (fun q => { q with winErr := q.winErr + 1 })).cyc = u.cyc := rfl
  generalize u.pm p.val (fun q => { q with winErr := q.winErr + 1 }) = v at *
  exact ⟨hsw'.trans hsw, hcyc'.trans hcyc, hpend'.trans hpend, hreset'.trans hreset, by rw [hpm, hport], by rw [hpm, hport],
    by rw [State.rd_of_regs hregs, hcnt]⟩

theorem State.frameEnd_wrong {s : State} {p : Fin 4} {r : RxSlot} {wire : List Byte} {trailer : Word} (tile : Option (Fin 16384))
    (hrx : (s.port p.val).rx = some r) (hlive : r.dead = false) (hwhole : r.stored = none) (hkind : trailerKind (r.hdr ++ wire) trailer = 2)
    (hst : s.cyc.staged = []) (hn : (s.rd (PORT_CRC_ERR.off p.val)).toNat + 1 < 0xFFFFFFFF) :
    s.frameEnd p.val wire trailer tile = ((s.rxEnded p.val wire.length).crcCounted p.val).freeRx p.val r := by
  unfold State.frameEnd
  rw [hrx]
  have hu := s.rxEnded_leaves p wire.length
  dsimp -zeta only
  extract_lets s1 s2 kind long icv pl s3 s4 s5 s6 x f s7
  have h2 : s2 = s.rxEnded p.val wire.length := rfl
  have h3 : s3 = s2 := by simp only [s3, hwhole]
  have hk : kind = 2 := hkind
  clear_value s1 s2 s3
  have h4 : s4 = s3.crcCounted p.val := (if_neg (by rw [hk]; decide)).trans (if_pos (.inl hk))
  clear_value s4
  have h5 : s5 = (s4.endExtracts p.val false none).freeRx p.val r := rfl
  clear_value s5
  rw [if_neg (by rw [hlive]; exact Bool.false_ne_true), if_pos (.inl (by rw [hk]; decide)), hwhole]
  dsimp only
  rw [h5, h4, h3, h2]
  have hword : ((s.rxEnded p.val wire.length).rd (PORT_CRC_ERR.off p.val)).toNat + 1 < 0xFFFFFFFF := by
    rw [hu.rd _ (rxTraffic_keys p).2.2.2.1]
    exact hn
  generalize s.rxEnded p.val wire.length = u at *
  obtain ⟨_, hcyc, _⟩ := u.crcCounted_leaves hword
  generalize u.crcCounted p.val = v at *
  rw [State.endExtracts_none (by rw [hcyc, hu.cyc, hst])]

theorem trailerWrong {s : State} {p : Fin 4} {r : RxSlot} {payload icv : List Byte} {trailer : Word} (tile : Option (Fin 16384)) (hs : s.resetReq = none)
    (hrx : (s.port p.val).rx = some r) (hlive : r.dead = false) (hinj : s.sump.inj.contains (.trailer p) = false) (hwhole : r.stored = none)
    (hkind : trailerKind (r.hdr ++ (payload ++ icv)) trailer = 2) (hst : s.cyc.staged = [])
    (hn : (s.rd (PORT_CRC_ERR.off p.val)).toNat + 1 < 0xFFFFFFFF) :
    ∃ t, exec (.frameTrailerCheck p payload icv trailer tile) s = .next t ∧ (t.port p.val).rx = none ∧
      (t.port p.val).winErr = (s.port p.val).winErr + 1 ∧ t.sw.waiting = s.sw.waiting ∧
      (t.rd (PORT_CRC_ERR.off p.val)).toNat = (s.rd (PORT_CRC_ERR.off p.val)).toNat + 1 := by
  rw [exec_frameTrailerCheck, frameTrailerCheck_plain hinj, State.frameEnd_wrong tile hrx hlive hwhole hkind hst hn]
  have hu := s.rxEnded_leaves p (payload ++ icv).length
  generalize s.rxEnded p.val (payload ++ icv).length = u at *
  have hword := hu.rd _ (rxTraffic_keys p).2.2.2.1
  obtain ⟨hsw1, _, hpend1, hreset1, hrx1, hwin1, hcnt1⟩ := u.crcCounted_leaves (p := p) (by rw [hword]; exact hn)
  generalize u.crcCounted p.val = v at *
  obtain ⟨hregs, hsw2, hpend2, hreset2, hrx2, hwin2⟩ := v.freeRx_leaves p.val r
  generalize v.freeRx p.val r = w at *
  exact ⟨w, congrArg _ (State.finish_kept (hreset2.trans (hreset1.trans (hu.resetReq.trans hs))) (hpend2.trans (hpend1.trans hu.pending))),
    by rw [hrx2, hrx1, hu.port], by rw [hwin2, hwin1, hu.port], by rw [hsw2, hsw1, hu.sw], by rw [State.rd_of_regs hregs, hcnt1, hword]⟩

/-! ### The next copy -/

/-- The registers that the start of a copy may change. -/
def txRegs (i : Nat) : List Nat :=
  [PORT_SA_STAT.off i, PORT_TX_PN.off i, PORT_RES_LAST.off i, PORT_RES_MAX.off i, PORT_TX_BYTES_LO.off i, PORT_TX_BYTES_LO.off i + 4,
    PORT_TX_FRAMES_LO.off i, PORT_TX_FRAMES_LO.off i + 4]

theorem txRegs_keys : ∀ p : Fin 4, PORT_CFG.off p.val ∉ txRegs p.val ∧ TIME_EPOCH_LO.off ∉ txRegs p.val ∧ TIME_EPOCH_LO.off + 4 ∉ txRegs p.val ∧
    (∀ k : Fin 4, SW_MIR_CFG.off k.val ∉ txRegs p.val) ∧ PORT_TX_FRAMES_LO.off p.val ∉ (txRegs p.val).take 6 ∧
    PORT_TX_FRAMES_LO.off p.val + 4 ∉ (txRegs p.val).take 6 := by decide +kernel

theorem RegCyc.traffic (s : State) {k : Nat} (n : Nat) {l : List Nat} (hk : k ∈ l) (hk' : k + 4 ∈ l) : RegCyc s (s.traffic k n) l :=
  (RegCyc.wr s _ hk).trans (RegCyc.wr _ _ hk')

theorem RegCyc.mono {s t : State} {l l' : List Nat} (a : RegCyc s t l) (h : ∀ k ∈ l, k ∈ l') : RegCyc s t l' :=
  ⟨fun k hk => a.same k fun hl => hk (h k hl), a.frame⟩

theorem State.useTxAn_regs (s : State) (i : Nat) : RegCyc s (s.useTxAn i) ((txRegs i).take 6) := by
  unfold State.useTxAn
  dsimp only
  split
  · exact (RegCyc.p s _ _ List.mem_cons_self).trans (RegCyc.p _ _ _ (List.mem_cons_of_mem _ List.mem_cons_self))
  · exact RegCyc.refl s _

theorem State.residence_regs (s : State) (i : Nat) (e : QEnt) (tIn sub : Nat) : RegCyc s (s.residence i e tIn sub) ((txRegs i).take 6) := by
  unfold State.residence
  dsimp only
  split
  · exact (RegCyc.p s (PORT_RES_LAST.RES i) _ (by simp [txRegs])).trans (RegCyc.p _ (PORT_RES_MAX.RES i) _ (by simp [txRegs]))
  · exact RegCyc.refl s _

/-- The copy's frame and bytes counted, with the association in use and its residence. -/
def State.txCounted (s : State) (i : Nat) (e : QEnt) (tIn sub n : Nat) : State :=
  (((s.useTxAn i).residence i e tIn sub).traffic (PORT_TX_BYTES_LO.off i) n).traffic (PORT_TX_FRAMES_LO.off i) 1

theorem State.txCounted_leaves (s : State) (p : Fin 4) (e : QEnt) (tIn sub n : Nat) : RegCyc s (s.txCounted p.val e tIn sub n) (txRegs p.val) ∧
    (s.txCounted p.val e tIn sub n).rd64 (PORT_TX_FRAMES_LO.off p.val) = (s.rd64 (PORT_TX_FRAMES_LO.off p.val) + 1) % 2 ^ 64 := by
  obtain ⟨_, _, _, _, hk, hk4⟩ := txRegs_keys p
  have h1 := (s.useTxAn_regs p.val).trans (State.residence_regs _ p.val e tIn sub)
  unfold State.txCounted
  generalize (s.useTxAn p.val).residence p.val e tIn sub = a at *
  have h2 := h1.trans (RegCyc.traffic a (k := PORT_TX_BYTES_LO.off p.val) n (by simp [txRegs]) (by simp [txRegs]))
  generalize a.traffic (PORT_TX_BYTES_LO.off p.val) n = b at *
  have h3 : RegCyc b (b.traffic (PORT_TX_FRAMES_LO.off p.val) 1) (txRegs p.val) := RegCyc.traffic b 1 (by simp [txRegs]) (by simp [txRegs])
  refine ⟨(h2.mono fun k hk => List.mem_of_mem_take hk).trans h3, ?_⟩
  rw [b.traffic_rd64, State.rd64_congr (h2.same _ hk) (h2.same _ hk4)]

theorem State.depart_congr {s t : State} (hclep : t.clep = s.clep) (hep : t.rd64 TIME_EPOCH_LO.off = s.rd64 TIME_EPOCH_LO.off) (f : Frame) (b : Bool)
    (tIn q : Nat) : t.depart f b tIn q = s.depart f b tIn q := by
  have hfns : t.fns = s.fns := by rw [State.fns, State.fns, State.epochSec, State.epochSec, hclep, hep]
  unfold State.depart
  rw [State.sinceIn, State.sinceIn, State.now4, State.now4, State.fns48_congr hclep hep, State.stampQ, State.stampQ, hclep, hfns]

/-- The frame of a copy as it leaves in the open. -/
def State.departed (s : State) (e : QEnt) (f : SFrame) (sub : Nat) : Frame :=
  { s.depart e.hdr (decide (4 ≤ f.inPort)) f.tIn sub with sec := false, an := 0, pn := 0 }

/-- The copy's frame on its way, and the copy done. -/
def State.copySent (s : State) (i : Nat) (e : QEnt) (g : Frame) : State := ((s.unqueue e).putLine i g false).copyDone { e with hdr := g }

theorem State.startCopy_open {s : State} {p : Fin 4} {e : QEnt} {f : SFrame} (sub : Nat) (hopen : s.flag (PORT_CFG.SEC p.val) = false)
    (hcut : f.cut = false) : ∃ n h, s.startCopy p.val e f sub = ((s.txCounted p.val e f.tIn sub n).pm p.val h).copySent p.val e (s.departed e f sub) := by
  obtain ⟨hcfg, hlo, hhi, _⟩ := txRegs_keys p
  have h1 := (s.useTxAn_regs p.val).mono fun k hk => List.mem_of_mem_take hk
  unfold State.startCopy
  dsimp -zeta only
  extract_lets s1 a b c d s2 tiles dur s3
  have hs1 : s1 = s.useTxAn p.val := rfl
  have ha : a = false := by
    have hf : s1.flag (PORT_CFG.SEC p.val) = false := by
      rw [hs1, State.flag, State.g, h1.same _ hcfg]
      exact hopen
    simp only [a, State.secures, hf, Bool.false_and]
  have hb : b = s.depart e.hdr (decide (4 ≤ f.inPort)) f.tIn sub := by
    have hclep : s1.clep = s.clep := by rw [hs1]; exact (congrArg State.clep h1.frame :)
    exact State.depart_congr hclep (by rw [hs1]; exact State.rd64_congr (h1.same _ hlo) (h1.same _ hhi)) _ _ _ _
  have hc : c = s.departed e f sub := by simp only [c, ha, Bool.false_eq_true, if_false, hb, State.departed]
  have hd : d = s1.residence p.val e f.tIn sub := by simp only [d, ha, Bool.false_eq_true, if_false]
  clear_value s1 a b c d
  have hs2 : s2 = (d.traffic (PORT_TX_BYTES_LO.off p.val) (frameBytes c)).traffic (PORT_TX_FRAMES_LO.off p.val) 1 := rfl
  obtain ⟨h, hs3⟩ : ∃ h, s3 = s2.pm p.val h := ⟨_, rfl⟩
  clear_value s3 s2
  refine ⟨frameBytes c, h, ?_⟩
  rw [if_neg (by rw [hcut]; exact Bool.false_ne_true), State.txCounted, ← hs1, ← hd, ← hs2, ← hs3, ← hc]
  rfl

/-- The last copy of the only frame stored is done. -/
theorem State.copyDone_last {s : State} {e : QEnt} {f : SFrame} (hq : s.sw.queues = []) (hf : s.sw.frames = [f]) (hid : f.id = e.id)
    (hcut : f.cut = false) (hm : s.noMirror) : (s.copyDone e).sw.queues = [] ∧ (s.copyDone e).sw.frames = [] ∧ (s.copyDone e).links = s.links ∧
      (s.copyDone e).regs = s.regs ∧ (s.copyDone e).pending = s.pending ∧ (s.copyDone e).resetReq = s.resetReq := by
  have hs : s.sframe e.id = some f := by
    rw [State.sframe, hf]
    simp [hid]
  obtain ⟨d, hd⟩ : ∃ d : SFrame, d = { f with delivered := true } := ⟨_, rfl⟩
  have hdid : d.id = f.id ∧ d.cut = f.cut := by rw [hd]; exact ⟨rfl, rfl⟩
  have hx : s.copyDone e = (((s.unqueue e).setSframe d).mirror e.hdr f.eth f.mirror e.port e.cls f.tIn true false).tidy e.id := by
    unfold State.copyDone
    rw [hs, hd]
  have hq2 : ((s.unqueue e).setSframe d).sw.queues = [] := by
    have : (s.unqueue e).sw.queues = [] := by rw [State.unqueue, hq, List.erase_nil]
    exact this
  have hf2 : ((s.unqueue e).setSframe d).sw.frames = [d] := by
    have : (s.unqueue e).sw.frames = [f] := hf
    simp only [State.setSframe, this, List.map_cons, List.map_nil, hdid.1, if_true]
  have hrest : ((s.unqueue e).setSframe d).regs = s.regs ∧ ((s.unqueue e).setSframe d).pending = s.pending ∧
    ((s.unqueue e).setSframe d).resetReq = s.resetReq ∧ ((s.unqueue e).setSframe d).links = s.links := ⟨rfl, rfl, rfl, rfl⟩
  rw [hx]
  generalize (s.unqueue e).setSframe d = v at *
  obtain ⟨hregs, hpend, hreset, hlinks⟩ := hrest
  rw [State.mirror_none (State.noMirror_of hregs hm)]
  unfold State.tidy
  rw [hq2, hf2]
  simp only [List.any_nil, Bool.false_eq_true, if_false]
  exact ⟨hq2, by simp [hdid, hid, hcut], hlinks, hregs, hpend, hreset⟩

theorem State.copySent_leaves {s : State} {p : Fin 4} {e : QEnt} {f : SFrame} (g : Frame) (hq : s.sw.queues = [e]) (hf : s.sw.frames = [f])
    (hid : f.id = e.id) (hcut : f.cut = false) (hm : s.noMirror) : (s.copySent p.val e g).sw.queues = [] ∧ (s.copySent p.val e g).sw.frames = [] ∧
      ((s.copySent p.val e g).port p.val).tx = some g ∧ (s.copySent p.val e g).regs = s.regs ∧ (s.copySent p.val e g).pending = s.pending ∧
      (s.copySent p.val e g).resetReq = s.resetReq := by
  have h1 : ((s.unqueue e).putLine p.val g false).sw.queues = [] := by
    have : (s.unqueue e).sw.queues = [] := by rw [State.unqueue, hq, List.erase_cons_head]
    exact this
  have h2 : ((s.unqueue e).putLine p.val g false).sw.frames = [f] := hf
  have h3 : (((s.unqueue e).putLine p.val g false).port p.val).tx = some g := by
    rw [State.putLine, State.port_pm]
  have h4 : ((s.unqueue e).putLine p.val g false).regs = s.regs ∧ ((s.unqueue e).putLine p.val g false).pending = s.pending ∧
    ((s.unqueue e).putLine p.val g false).resetReq = s.resetReq := ⟨rfl, rfl, rfl⟩
  obtain ⟨e', he, heq⟩ : ∃ e' : QEnt, e'.id = e.id ∧ e' = { e with hdr := g } := ⟨{ e with hdr := g }, rfl, rfl⟩
  rw [State.copySent, ← heq]
  generalize (s.unqueue e).putLine p.val g false = u at *
  obtain ⟨hregs, hpend, hreset⟩ := h4
  obtain ⟨hq5, hf5, hlinks, hregs5, hpend5, hreset5⟩ := State.copyDone_last h1 h2 (hid.trans he.symm) hcut (State.noMirror_of hregs hm)
  exact ⟨hq5, hf5, by rw [State.port, hlinks]; exact h3, hregs5.trans hregs, hpend5.trans hpend, hreset5.trans hreset⟩

theorem copyStarted {s : State} {p : Fin 4} {sub : Fin 16} {e : QEnt} {f : SFrame} (hs : s.resetReq = none) (hruns : s.portRuns p.val = true)
    (hup : s.pst p.val = psUp) (hnext : s.ringNext p.val = some e) (hq : s.sw.queues = [e]) (hf : s.sw.frames = [f]) (hid : f.id = e.id)
    (hcut : f.cut = false) (hopen : s.flag (PORT_CFG.SEC p.val) = false) (hfree : (s.port p.val).busyTo ≤ s.absNs) (hm : s.noMirror) :
    ∃ t, exec (.egressFrameStart p sub none) s = .next t ∧ t.sw.queues = [] ∧ t.sw.frames = [] ∧
      (t.port p.val).tx = some { s.depart e.hdr (decide (4 ≤ f.inPort)) f.tIn sub.val with sec := false, an := 0, pn := 0 } ∧
      t.rd64 (PORT_TX_FRAMES_LO.off p.val) = (s.rd64 (PORT_TX_FRAMES_LO.off p.val) + 1) % 2 ^ 64 := by
  obtain ⟨_, _, _, hmir, _⟩ := txRegs_keys p
  have hsf : s.sframe e.id = some f := by
    rw [State.sframe, hf]
    simp [hid]
  obtain ⟨n, h, hx⟩ := State.startCopy_open (s := s) (e := e) sub.val hopen hcut
  have hstart : egressFrameStart p sub none s = s.startCopy p.val e f sub.val := by
    unfold egressFrameStart
    dsimp only
    rw [if_neg (by rw [hruns, hup]; simp [hfree, psUp, psHello]), hnext]
    dsimp only
    rw [hsf]
    dsimp only
    rw [if_neg (by rw [State.secures, hopen]; simp)]
  rw [exec_egressFrameStart, hstart, hx]
  obtain ⟨hregs, hcount⟩ := s.txCounted_leaves p e f.tIn sub.val n
  generalize s.txCounted p.val e f.tIn sub.val n = u at *
  obtain ⟨hreset, hpend⟩ := hregs.leaves
  have hsw : u.sw = s.sw := (congrArg State.sw hregs.frame :)
  obtain ⟨hregs2, hreset2, hpend2, hsw2, _⟩ := u.pm_leaves p.val h
  generalize u.pm p.val h = v at *
  have hmv : v.noMirror := fun k hk => by
    rw [State.flag_of_regs hregs2, State.flag, State.g, hregs.same _ (hmir ⟨k, hk⟩)]
    exact hm k hk
  obtain ⟨hq3, hf3, htx, hregs3, hpend3, hreset3⟩ := State.copySent_leaves (s := v) (p := p) (s.departed e f sub.val)
    (by rw [hsw2, hsw, hq]) (by rw [hsw2, hsw, hf]) hid hcut hmv
  generalize v.copySent p.val e (s.departed e f sub.val) = w at *
  have hrd : w.rd64 (PORT_TX_FRAMES_LO.off p.val) = u.rd64 (PORT_TX_FRAMES_LO.off p.val) :=
    State.rd64_congr (State.rd_of_regs (hregs3.trans hregs2) _) (State.rd_of_regs (hregs3.trans hregs2) _)
  exact ⟨w, congrArg _ (State.finish_kept (hreset3.trans (hreset2.trans (hreset.trans hs))) (hpend3.trans (hpend2.trans hpend))), hq3, hf3, htx,
    hrd.trans hcount⟩

/-- Settles O23. -/
theorem framesPassThePorts : Obligations.FramesPassThePorts :=
  ⟨fun _ _ _ _ hs hruns hup hgood hdst hsrc hcls hlink hturns hsec hopen =>
      headerReceived hs hruns hup hgood ⟨hdst, hsrc, hlink, hturns⟩ hcls hsec hopen,
    fun _ _ tile _ _ _ hs hrx hlive hinj hex hwhole hpass hpool hsec hwork hdst hsrc hturns hlink hport hlen hst =>
      trailerGood tile hs hrx hinj ⟨hlive, hex, hwhole, hpass, hpool, hsec, hwork, ⟨hdst, hsrc, hlink, hturns⟩, hport⟩ hlen hst,
    fun _ _ _ _ tile _ _ hs hrx hlive hinj hwhole hkind hst hn => trailerWrong tile hs hrx hlive hinj hwhole hkind hst hn,
    fun _ _ _ _ _ hs hruns hup hnext hq hf hid hcut hopen hfree hm => copyStarted hs hruns hup hnext hq hf hid hcut hopen hfree hm⟩

end Sys2Proof.Machine
end

section
/-! What an event leaves of HST_ATTN (R245, R477): every field but EVT. -/

namespace Sys2Proof.Machine

/- One evaluation after another: each of them, left to itself, would hold a thread. -/
set_option Elab.async false

/-- HST_ATTN is as it was. -/
def AttnKept (s t : State) : Prop := t.rd HST_ATTN.off = s.rd HST_ATTN.off

namespace AttnKept

theorem refl (s : State) : AttnKept s s := rfl

theorem trans {s t u : State} (a : AttnKept s t) (b : AttnKept t u) : AttnKept s u := Eq.trans b a

theorem of_regs {s t : State} (h : t.regs = s.regs := by rfl) : AttnKept s t := State.rd_of_regs h _

theorem wr (s : State) {k : Nat} (w : Word) (h : HST_ATTN.off ≠ k) : AttnKept s (s.wr k w) := s.rd_wr_ne w h

theorem p (s : State) (f : FRef) (v : Nat) (h : HST_ATTN.off ≠ f.off) : AttnKept s (s.p f v) := wr s _ h

theorem bump (s : State) {k sat bit : Nat} {d : List (Nat × Nat)} {f : List FieldDef} (hr : regRow k = some ⟨k, d, f, some (sat, bit)⟩)
    (hk : HST_ATTN.off ≠ k) (hs : HST_ATTN.off ≠ sat) : AttnKept s (s.bump k).1 := by
  unfold State.bump
  dsimp only
  split
  · exact wr s _ hk
  · split
    · exact refl s
    · rw [hr]
      dsimp only
      rw [Nat.sub_self, Nat.add_zero]
      exact (wr s _ hk).trans (wr _ _ hs)

theorem bumpLog (s : State) : AttnKept s (s.bump SUMP_LOG_DROP.off).1 :=
  bump s (show regRow SUMP_LOG_DROP.off = some ⟨_, [], [⟨31, 0, .cnt, .any, 0⟩], some (0x2001c, 2)⟩ from by decide) (by decide) (by decide)

theorem bumpAlarm (s : State) : AttnKept s (s.bump SUMP_ALARM_DROP.off).1 :=
  bump s (show regRow SUMP_ALARM_DROP.off = some ⟨_, [], [⟨31, 0, .cnt, .any, 0⟩], some (0x2001c, 3)⟩ from by decide) (by decide) (by decide)

theorem bumpLost (s : State) : AttnKept s (s.bump SNAP_LOST.off).1 :=
  bump s (show regRow SNAP_LOST.off = some ⟨_, [], [⟨31, 0, .cnt, .any, 0⟩], some (0x30010, 0)⟩ from by decide) (by decide) (by decide)

theorem ite {c : Prop} [Decidable c] {s t u : State} (ht : AttnKept s t) (hu : AttnKept s u) : AttnKept s (if c then t else u) := by
  split
  · exact ht
  · exact hu

theorem offerLog (s : State) (ev cls rep : Nat) : AttnKept s (s.offerLog ev cls rep).1 := by
  unfold State.offerLog
  dsimp only
  generalize (!s.sump.spill && decide (max 1 (s.g SUMP_SPILL.LOG_RATE) ≤ s.sump.winEntries)) = b
  generalize h1 : (if b = true then _ else _) = s1
  have p1 : AttnKept s s1 := by
    rw [← h1]
    exact ite of_regs of_regs
  split
  · split
    · exact p1.trans of_regs
    · exact p1.trans (AttnKept.trans of_regs (bumpLog _))
  · exact p1.trans of_regs

theorem sendAlarm (s : State) (ev cls : Nat) (r : Option Nat) : AttnKept s (s.sendAlarm ev cls r) := by
  unfold State.sendAlarm State.offerRing
  dsimp only
  split
  · exact of_regs
  · exact of_regs

theorem offerAlarm (s : State) (ev cls : Nat) : AttnKept s (s.offerAlarm ev cls).1 := by
  unfold State.offerAlarm
  split
  · exact refl s
  · split
    · exact (sendAlarm s ev cls none).trans of_regs
    · exact AttnKept.trans of_regs (bumpAlarm _)

theorem snapFire (s : State) (c o i : Nat) : AttnKept s (s.snapFire c o i).1 := by
  unfold State.snapFire
  dsimp only
  split
  · exact p s SNAP_STAT.CAUSE _ (by decide)
  · split
    · exact bumpLost s
    · exact ((p s SNAP_STAT.STATE 2 (by decide)).trans (p _ SNAP_STAT.CAUSE _ (by decide))).trans of_regs

theorem snapLocal (s : State) (c i ev cls : Nat) : AttnKept s (s.snapLocal c i ev cls).1 := by
  unfold State.snapLocal
  split
  · exact refl s
  · split
    · exact snapFire s _ _ _
    · dsimp only
      split
      · split
        · exact refl s
        · exact bumpLost s
      · split
        · exact bumpLost s
        · exact ((p s SNAP_STAT.STATE 1 (by decide)).trans of_regs).trans (sendAlarm _ _ _ _)

theorem react (s : State) (k : Nat) : AttnKept s (s.react k) := by
  unfold State.react
  split
  · exact refl s
  · split
    · exact of_regs
    · exact of_regs

theorem route {s : State} (b : Bool) {r : State × List (Nat × Nat)} (h : AttnKept s r.1) : AttnKept s (if b = true then r else (s, [])).1 := by
  cases b
  · exact refl s
  · exact h

/-- A field of HST_ATTN beside EVT reads as before. -/
theorem g {s t : State} (h : AttnKept s t) {f : FRef} (hf : f.off = HST_ATTN.off) : t.g f = s.g f := by rw [State.g, State.g, hf, h]

end AttnKept

theorem State.setPend_attn (s : State) {ev : Nat} (cls : Nat) (hev : ev < 512) {f : FRef} (hf : f.off = HST_ATTN.off) (hsep : HST_ATTN.EVT.sep f = true) :
    (s.setPend ev cls).g f = s.g f := by
  unfold State.setPend
  dsimp only
  have h1 : AttnKept s (s.wr (EVT_PEND.off (ev / 32)) (s.rd (EVT_PEND.off (ev / 32)) ||| BitVec.ofNat 32 (2 ^ (ev % 32)))) :=
    AttnKept.wr s _ (by simp only [EVT_PEND.off, HST_ATTN.off, ne_eq]; omega)
  generalize s.wr (EVT_PEND.off (ev / 32)) (s.rd (EVT_PEND.off (ev / 32)) ||| BitVec.ofNat 32 (2 ^ (ev % 32))) = u at *
  generalize (if s.evPend ev = true then max (s.evKept ev) cls else cls) = k
  have h2 : AttnKept s { u with sump := { u.sump with kept := SMap.set (fun _ => 0) u.sump.kept ev k } } := h1.trans AttnKept.of_regs
  generalize { u with sump := { u.sump with kept := SMap.set (fun _ => 0) u.sump.kept ev k } } = v at *
  split
  · exact (v.g_pb_sep (f := HST_ATTN.EVT) (g := f) true hsep).trans (h2.g hf)
  · exact h2.g hf

/-- An event of class below GRAVE leaves the fields of HST_ATTN beside EVT. -/
theorem State.raiseN_attn {f : FRef} (hf : f.off = HST_ATTN.off) (hsep : HST_ATTN.EVT.sep f = true) (fuel : Nat) :
    ∀ (s : State) (ev cls rep : Nat), ev < 512 → cls < 4 → (State.raiseN fuel s ev cls rep).g f = s.g f := by
  induction fuel with
  | zero => exact fun _ _ _ _ _ _ => rfl
  | succ n ih =>
    intro s ev cls rep hev hc
    have follow : ∀ (l : List (Nat × Nat)) (t : State), smallEvents l → (l.foldl (fun s e => State.raiseN n s e.1 e.2 1) t).g f = t.g f := by
      intro l
      induction l with
      | nil => exact fun t _ => rfl
      | cons e l il =>
        intro t h
        obtain ⟨h1, h2⟩ := h e List.mem_cons_self
        exact (il _ fun x hx => h x (List.mem_cons_of_mem _ hx)).trans (ih t e.1 e.2 1 (by omega) (by omega))
    have small : ∀ (t : State) (b : Bool) (r : State × List (Nat × Nat)), RaisedWith t r → smallEvents (if b = true then r else (t, [])).2 := by
      intro t b r h
      cases b
      · exact fun e he => absurd he List.not_mem_nil
      · exact h.2.1
    simp only [State.raiseN]
    generalize hcl : max cls (min 3 (s.g (EVT_ROUTE.RAISE ev))) = c
    have hgrave : ¬ c = clGrave := by simp only [clGrave]; omega
    have q0 := s.setPend_attn c hev hf hsep
    generalize s.setPend ev c = s0 at *
    have q1 := AttnKept.route (s0.flag (EVT_ROUTE.LOG ev) && !(ev == evSump 2 || ev == evSump 3)) (AttnKept.offerLog s0 ev c rep)
    have e1 := small s0 (s0.flag (EVT_ROUTE.LOG ev) && !(ev == evSump 2 || ev == evSump 3)) _ (RaisedWith.offerLog s0 ev c rep)
    generalize (if (s0.flag (EVT_ROUTE.LOG ev) && !(ev == evSump 2 || ev == evSump 3)) = true then s0.offerLog ev c rep else (s0, [])) = p1 at *
    have q2 := AttnKept.route (p1.1.flag (EVT_ROUTE.ALARM ev) && !(ev == evSump 2 || ev == evSump 3)) (AttnKept.offerAlarm p1.1 ev c)
    have e2 := small p1.1 (p1.1.flag (EVT_ROUTE.ALARM ev) && !(ev == evSump 2 || ev == evSump 3)) _ (RaisedWith.offerAlarm p1.1 ev c)
    generalize (if (p1.1.flag (EVT_ROUTE.ALARM ev) && !(ev == evSump 2 || ev == evSump 3)) = true then p1.1.offerAlarm ev c else (p1.1, [])) = p2 at *
    have q3 := AttnKept.route (p2.1.flag (EVT_ROUTE.SNAP ev)) (AttnKept.snapLocal p2.1 snEvt p2.1.fns48 ev c)
    have e3 := small p2.1 (p2.1.flag (EVT_ROUTE.SNAP ev)) _ (RaisedWith.snapLocal p2.1 snEvt p2.1.fns48 ev c)
    generalize (if p2.1.flag (EVT_ROUTE.SNAP ev) = true then p2.1.snapLocal snEvt p2.1.fns48 ev c else (p2.1, [])) = p3 at *
    rw [if_neg hgrave, follow _ _ ((e1.append e2).append e3), ← q0, ← ((q1.trans q2).trans q3).g hf]
    exact (AttnKept.ite (AttnKept.react _ _) (AttnKept.ite (AttnKept.react _ _) (AttnKept.refl _))).g hf

theorem State.raise_attn (s : State) {ev cls : Nat} (hev : ev < 512) (hc : cls < 4) {f : FRef} (hf : f.off = HST_ATTN.off)
    (hsep : HST_ATTN.EVT.sep f = true) : (s.raise ev cls).flag f = s.flag f := by
  rw [State.flag, State.flag, State.raise, State.raiseN_attn hf hsep 4 s ev cls 1 hev hc]

end Sys2Proof.Machine
end

section
/-! Host reads (R233, R237, R240 to R244): a local point read at once, one that waits behind a posted write, its completion and its claim. -/

namespace Sys2Proof.Machine

/- One evaluation after another: each of them, left to itself, would hold a thread. -/
set_option Elab.async false

/-! ### What the start of a host command leaves -/

/-- A chain that changes HST_STAT and the bridge's store alone. -/
structure HostKept (s t : State) : Prop where
  same : s.sameRegs t [HST_STAT.off]
  frame : { t with regs := s.regs, brg := s.brg } = s

namespace HostKept

variable {s t : State}

theorem refl (s : State) : HostKept s s := ⟨fun _ _ => rfl, rfl⟩

theorem trans {u : State} (a : HostKept s t) (b : HostKept t u) : HostKept s u :=
  ⟨fun k hk => (b.same k hk).trans (a.same k hk), (congrArg (fun x : State => { x with regs := s.regs, brg := s.brg }) b.frame :).trans a.frame⟩

theorem bm (s : State) (f : Brg → Brg) : HostKept s (s.bm f) := ⟨fun _ _ => rfl, rfl⟩

theorem setDr (s : State) (e : DrEnt) : HostKept s (s.setDr e) := bm s _

theorem freeDr (s : State) (tag : Nat) : HostKept s (s.freeDr tag) := bm s _

theorem p (s : State) (f : FRef) (v : Nat) (h : f.off = HST_STAT.off) : HostKept s (s.p f v) :=
  ⟨fun _ hk => s.rd_p_ne f v fun e => hk (by rw [e, h]; exact List.mem_cons_self), rfl⟩

theorem word (h : HostKept s t) {k : Nat} (hk : k ≠ HST_STAT.off) : t.rd k = s.rd k := h.same k (by simpa using hk)

theorem g (h : HostKept s t) {f : FRef} (hf : f.off ≠ HST_STAT.off) : t.g f = s.g f := by rw [State.g, State.g, h.word hf]

theorem flag (h : HostKept s t) {f : FRef} (hf : f.off ≠ HST_STAT.off) : t.flag f = s.flag f := by rw [State.flag, State.flag, h.g hf]

theorem pts (h : HostKept s t) : t.pts = s.pts := (congrArg State.pts h.frame :)

theorem clep (h : HostKept s t) : t.clep = s.clep := (congrArg State.clep h.frame :)

theorem leaves (h : HostKept s t) : t.pending = s.pending ∧ t.resetReq = s.resetReq ∧ t.resp = s.resp ∧ t.held = s.held ∧ t.latches = s.latches :=
  ⟨(congrArg State.pending h.frame :), (congrArg State.resetReq h.frame :), (congrArg State.resp h.frame :), (congrArg State.held h.frame :),
    (congrArg State.latches h.frame :)⟩

theorem pt (h : HostKept s t) (i : Nat) : t.pt i = s.pt i := by rw [State.pt, State.pt, h.pts]

theorem bank_ne (k p : Nat) : bankKey k p ≠ HST_STAT.off := by
  have : HST_STAT.off < 2 ^ 22 := by decide
  rw [bankKey]
  omega

theorem domOn (h : HostKept s t) {d : Nat} (hd : PWR_DOM_STAT.off d ≠ HST_STAT.off) : t.domOn d = s.domOn d := by
  have hdom : t.dom d = s.dom d := by rw [State.dom, State.dom, h.g (f := PWR_DOM_STAT.STATE d) hd]
  rw [State.domOn, State.domOn, hdom]

theorem absNs (h : HostKept s t) : t.absNs = s.absNs := by rw [State.absNs, State.absNs, h.clep]

end HostKept

/-! ### A point of this node that nothing holds up -/

/-- An address of one point of this node whose read is served at once and without a side effect. -/
structure PlainPoint (s : State) (a i : Nat) : Prop where
  gate : s.spaceGate hostM 0 (16 * i) = 0
  here : s.isHere a = true
  addr : a % 2 ^ 48 = 16 * i
  plain : s.pointPlain i
  good : s.tileGood (i / 16)

namespace PlainPoint

variable {s t : State} {a i : Nat}

theorem space (h : PlainPoint s a i) : adSpace a = 0 := by
  have := h.addr
  have := h.plain.1
  rw [adSpace]
  omega

theorem off (h : PlainPoint s a i) : adOff a = 16 * i := by
  have := h.addr
  have := h.plain.1
  rw [adOff]
  omega

theorem piece (h : PlainPoint s a i) : pieces a 16 = [(a, 16)] := by
  have h16 : a % 16 = 0 := by have := h.addr; omega
  have hmin : min 16 (256 - a % 256) = 16 := by omega
  simp only [pieces, cutPieces, hmin, Nat.sub_self, if_true]
  rw [if_neg (by decide)]

theorem kept (h : PlainPoint s a i) (hk : HostKept s t) : PlainPoint t a i := by
  have hdom : ∀ d, PWR_DOM_STAT.off d ≠ HST_STAT.off → t.dom d = s.dom d := fun d hd => by
    rw [State.dom, State.dom, hk.g (f := PWR_DOM_STAT.STATE d) hd]
  have hfns : t.fns = s.fns := by
    rw [State.fns, State.fns, State.epochSec, State.epochSec, State.rd64_congr (hk.word (by decide)) (hk.word (by decide)), hk.clep]
  obtain ⟨hi, hty, hsens, hold⟩ := h.plain
  refine ⟨?_, ?_, h.addr, ⟨hi, by rw [hk.pt]; exact hty, by rw [hk.pt]; exact hsens, ?_⟩, ?_⟩
  · have hgate := h.gate
    unfold State.spaceGate at hgate ⊢
    simp only [(by decide : ¬(0 : Nat) = 1), (by decide : ¬(0 : Nat) = 2), (by decide : ¬(0 : Nat) = 3), if_false] at hgate ⊢
    rw [State.failsafe, hk.g (f := CFG_BOOT.STAGE) (by decide), State.domOn, hdom _ (by decide)]
    exact hgate
  · have hh := h.here
    rw [State.isHere, State.node] at hh ⊢
    rw [hk.g (f := DEV_NODE.NODE_ID) (by decide)]
    exact hh
  · rw [State.pointOld] at hold ⊢
    rw [State.us24, State.profOf, hk.pt, hk.pts, hfns, hk.g (f := PNT_PROF_FRESH.FRESH.at _) (HostKept.bank_ne _ _)]
    exact hold
  · exact h.good.imp (fun hc => by rw [hk.pts]; exact hc) (fun hc => by
      have htile : t.tileSound (i / 16) = s.tileSound (i / 16) := by
        rw [State.tileSound, State.tileSound, State.tileHdr, State.tileHdr, State.tileBytes, State.tileBytes, hk.pts]
        simp only [hk.pt]
      exact htile.trans hc)

end PlainPoint

/-! ### A read that runs to its end -/

namespace PlainPoint

variable {s : State} {a i : Nat}

theorem sideEffect (h : PlainPoint s a i) : s.sideEffect a 16 false = false := by
  have hdiv : 16 * i / 16 = i := by omega
  unfold State.sideEffect
  rw [h.space, h.here, h.off, hdiv]
  simp [h.plain.2.2.1]

theorem freshRead (h : PlainPoint s a i) : s.freshRead i = s.pushTile (i / 16) := by
  rw [State.freshRead, State.touchTile_good h.good]
  exact State.fresh_young (.inr ((s.pushTile_reads (i / 16) i).2.2.trans h.plain.2.2.2))

theorem localRead (h : PlainPoint s a i) (who : WinFor) : s.localRead hostM a 16 who = (.done stOK (s.pt i).bytes, s.pushTile (i / 16)) := by
  obtain ⟨hi, hty, hsens, _⟩ := h.plain
  unfold State.localRead
  rw [h.space, h.off]
  dsimp only
  rw [if_neg (by decide), h.gate, if_neg (by simp), if_neg (by decide), if_pos rfl, State.pointRead_one hi (by decide) hty hsens, h.freshRead]
  rfl

end PlainPoint

/-- A read whose one piece has come. -/
def DrEnt.got (e : DrEnt) (side : Bool) (d : List Byte) : DrEnt := { e with side := e.side || side, pieces := [], data := e.data ++ d }

theorem State.readRun_one {s : State} {e : DrEnt} {a i : Nat} (h : PlainPoint s a i) (hp : e.pieces = [(a, 16)]) (who : ReadFor) (path : Path)
    (n : Nat) : s.readRun hostM who path e (n + 2) = (some stOK, e.got (s.sideEffect a 16 e.once) (s.pt i).bytes, s.pushTile (i / 16)) := by
  have hissue : ∀ e : DrEnt, s.issuePiece hostM e a 16 who path = (.done stOK (s.pt i).bytes, s.pushTile (i / 16)) := fun e => by
    rw [State.issuePiece, if_pos h.here, h.localRead]
  rw [State.readRun, hp]
  dsimp only
  rw [hissue]
  rfl

theorem State.drGo_one {s : State} {e : DrEnt} {a i : Nat} (h : PlainPoint s a i) (hent : s.drEnt e.tag = some e) (hdone : e.done = none)
    (hfly : e.flying = false) (hposted : s.brg.posted = []) (hp : e.pieces = [(a, 16)]) :
    s.drGo e.tag = (s.pushTile (i / 16)).drDone (e.got (s.sideEffect a 16 e.once) (s.pt i).bytes) stOK (e.data ++ (s.pt i).bytes) := by
  have hblocked : s.drBlocked e = false := by rw [State.drBlocked, hposted, List.any_nil]
  have hrun : s.drRun e = (some stOK, e.got (s.sideEffect a 16 e.once) (s.pt i).bytes, s.pushTile (i / 16)) := by
    unfold State.drRun
    rw [if_neg (by rw [hfly, hblocked]; simp), State.readRun_one h hp _ _ 4]
  unfold State.drGo
  rw [hent]
  dsimp only
  rw [if_neg (by rw [hdone]; simp), hrun]
  rfl

theorem State.prefetch_off {s : State} (h : s.flag BRG_CFG.PF = false) (addr len : Nat) : s.prefetch addr len = s := by
  unfold State.prefetch State.pfNext
  dsimp only
  rw [if_neg (fun hc => Bool.false_ne_true (h.symm.trans hc.1))]

/-- The read that has ended with its data, as its table keeps it. -/
def DrEnt.ended (e : DrEnt) (data : List Byte) (at_ : Int) (window : Nat) : DrEnt :=
  { e with pieces := [], flying := false, doubt := false, data := data, done := some (stOK, at_), window := window }

theorem State.setDr_only {s : State} {x e : DrEnt} (h : s.brg.dr = [x]) (ht : x.tag = e.tag) : (s.setDr e).brg = { s.brg with dr := [e] } := by
  have : (s.setDr e).brg = { s.brg with dr := s.brg.dr.map (fun x => if x.tag = e.tag then e else x) } := rfl
  rw [this, h, List.map_cons, List.map_nil, if_pos ht]

theorem State.prefetch_off_or {s : State} (h : s.flag BRG_CFG.PF = false) (p : Prop) [Decidable p] (addr len : Nat) :
    (if p then s.prefetch addr len else s) = s := by rw [State.prefetch_off h, ite_self]

theorem State.drDone_awaited {s : State} {x e : DrEnt} {due : Int} (data : List Byte) (hpf : s.flag BRG_CFG.PF = false) (hdr : s.brg.dr = [x])
    (ht : x.tag = e.tag) (haw : s.brg.await = some (.read e.tag, due)) :
    ∃ v, HostKept s v ∧ v.brg.dr = [] ∧ s.drDone e stOK data = v.hostAnswer stOK (0xFF :: data) := by
  obtain ⟨y, hy⟩ : ∃ y : DrEnt, y = e.ended data s.absNs s.claimMs := ⟨_, rfl⟩
  have hyt : y.tag = e.tag := by rw [hy, DrEnt.ended]
  have hbrg := State.setDr_only hdr (ht.trans hyt.symm)
  have hk : HostKept s (s.setDr y) := HostKept.bm s _
  have hx : s.drDone e stOK data = (((s.setDr y).freeDr e.tag).bm (fun b => { b with inResp := some y, await := none })).hostAnswer stOK
      (bytesBE 1 0xFF ++ data) := by
    unfold State.drDone
    dsimp only
    rw [hy] at hk hbrg
    rw [hy]
    rw [DrEnt.ended] at hk hbrg ⊢
    rw [State.prefetch_off_or ((hk.flag (by decide)).trans hpf), if_pos (by rw [hbrg]; simp [haw]), if_pos rfl]
  generalize s.setDr y = u at *
  have hkf : HostKept u (u.freeDr e.tag) := HostKept.bm u _
  refine ⟨(u.freeDr e.tag).bm (fun b => { b with inResp := some y, await := none }), (hk.trans hkf).trans (HostKept.bm _ _), ?_, hx⟩
  have hfree : (u.freeDr e.tag).brg.dr = u.brg.dr.filter (fun e' => e'.tag != e.tag) := rfl
  have hlast : ∀ w : State, (w.bm (fun b => { b with inResp := some y, await := none })).brg.dr = w.brg.dr := fun _ => rfl
  rw [hlast, hfree, hbrg]
  simp [hyt]

theorem State.drDone_retried {s : State} {x e : DrEnt} (data : List Byte) (hpf : s.flag BRG_CFG.PF = false) (hdr : s.brg.dr = [x])
    (ht : x.tag = e.tag) (haw : s.brg.await = none) (hretry : e.retried = true) :
    ∃ v, HostKept s v ∧ v.brg.dr = [e.ended data s.absNs s.claimMs] ∧
      s.drDone e stOK data = (v.pb HST_ATTN.DR_DONE true).raise (evBrg 5) clEvent := by
  have hbrg : (s.setDr (e.ended data s.absNs s.claimMs)).brg = _ := State.setDr_only hdr ht
  have hk : HostKept s (s.setDr (e.ended data s.absNs s.claimMs)) := HostKept.bm s _
  refine ⟨_, hk, by rw [hbrg], ?_⟩
  unfold State.drDone
  dsimp only
  rw [DrEnt.ended] at hk hbrg ⊢
  rw [State.prefetch_off_or ((hk.flag (by decide)).trans hpf), if_neg (by rw [hbrg]; simp [haw]), if_pos hretry]

/-! ### Reads of the host -/

theorem exec_hostRead (addr : BitVec 64) (len : Nat) (crcOk : Bool) (s : State) :
    exec (.hostRead addr len crcOk) s = .next (s.finish (hostRead addr len crcOk s)) := by rfl

theorem exec_hostReadOnce (addr : BitVec 64) (len : Nat) (crcOk : Bool) (s : State) :
    exec (.hostReadOnce addr len crcOk) s = .next (s.finish (hostReadOnce addr len crcOk s)) := by rfl

/-- What a host command leaves beside the bridge, a tile in the cache and its response. -/
structure ReadKept (s t : State) : Prop where
  same : s.sameRegs t [HST_STAT.off]
  recs : t.pts.recs = s.pts.recs
  pending : t.pending = s.pending
  resetReq : t.resetReq = s.resetReq

theorem HostKept.readKept {s t : State} (h : HostKept s t) : ReadKept s t := ⟨h.same, by rw [h.pts], h.leaves.1, h.leaves.2.1⟩

theorem ReadKept.trans {s t u : State} (a : ReadKept s t) (b : ReadKept t u) : ReadKept s u :=
  ⟨fun k hk => (b.same k hk).trans (a.same k hk), b.recs.trans a.recs, b.pending.trans a.pending, b.resetReq.trans a.resetReq⟩

theorem State.pushTile_kept (s : State) (k : Nat) : ReadKept s (s.pushTile k) := ⟨fun _ _ => rfl, rfl, rfl, rfl⟩

theorem State.pushTile_bridge (s : State) (k : Nat) : (s.pushTile k).brg = s.brg ∧ (s.pushTile k).regs = s.regs := ⟨rfl, rfl⟩

theorem State.hostAnswer_kept (s : State) (st : Nat) (d : List Byte) : ReadKept s (s.hostAnswer st d) ∧ (s.hostAnswer st d).brg = s.brg :=
  ⟨⟨fun _ _ => rfl, rfl, rfl, rfl⟩, rfl⟩

theorem State.hostAnswer_told {s t : State} (h : t.flag HST_CFG.CRC = s.flag HST_CFG.CRC) (st : Nat) (d : List Byte) :
    s.hostTold (t.hostAnswer st d) st d := by
  rw [State.hostAnswer, h]
  exact rfl

theorem State.hostStart_leaves (s : State) : HostKept s s.hostStart ∧ s.hostStart.brg = { s.brg with inResp := none, await := none } := by
  have h1 := HostKept.p s HST_STAT.LINES (s.g HST_CFG.LINES % 3) rfl
  have hb := s.p_brg HST_STAT.LINES (s.g HST_CFG.LINES % 3)
  unfold State.hostStart
  generalize s.p HST_STAT.LINES (s.g HST_CFG.LINES % 3) = u at *
  refine ⟨h1.trans (HostKept.bm u _), ?_⟩
  have : (u.bm (fun b => { b with inResp := none, await := none })).brg = { u.brg with inResp := none, await := none } := rfl
  rw [this, hb]

theorem State.hostCmd_plain {s : State} (hon : s.domOn 6 = true) (fill : List Byte) (act : State → State) :
    s.hostCmd true fill act = act s.hostStart := by
  obtain ⟨h, _⟩ := s.hostStart_leaves
  unfold State.hostCmd
  dsimp only
  rw [if_neg (by simp), if_neg (by rw [h.domOn (by decide), hon]; decide)]

theorem State.hostIssue_first {s : State} (hdr : s.brg.dr = []) (a len : Nat) (once : Bool) (due : Int) :
    ∃ v, HostKept s v ∧ v.brg.dr = [s.newRead 0 a len once] ∧ v.brg.await = some (.read 0, due) ∧ v.brg.posted = s.brg.posted ∧
      s.hostIssue a len once due = v.drGo 0 := by
  have htag : s.freeTag = some 0 := by
    rw [State.freeTag, hdr]
    decide
  have h1 : HostKept s (s.bm (fun b => { b with dr := b.dr ++ [s.newRead 0 a len once] })) := HostKept.bm s _
  have hd : (s.bm (fun b => { b with dr := b.dr ++ [s.newRead 0 a len once] })).brg.dr = s.brg.dr ++ [s.newRead 0 a len once] := rfl
  have hp : (s.bm (fun b => { b with dr := b.dr ++ [s.newRead 0 a len once] })).brg.posted = s.brg.posted := rfl
  unfold State.hostIssue
  rw [htag]
  dsimp only
  generalize s.bm (fun b => { b with dr := b.dr ++ [s.newRead 0 a len once] }) = u at *
  have h2 : HostKept u (u.hostAwait (.read 0) due) := HostKept.bm u _
  have hu : (u.hostAwait (.read 0) due).brg = { u.brg with await := some (.read 0, due) } := rfl
  exact ⟨_, h1.trans h2, by rw [hu]; exact hd.trans (by rw [hdr, List.nil_append]), by rw [hu], by rw [hu]; exact hp, rfl⟩

/-- What a read answered at once leaves. -/
structure ReadAnswered (s t : State) (d : List Byte) : Prop extends ReadKept s t where
  told : s.hostTold t stOK (0xFF :: d)
  dr : t.brg.dr = []

theorem State.hostIssue_plain {s : State} {a i : Nat} (h : PlainPoint s a i) (hpf : s.flag BRG_CFG.PF = false) (hdr : s.brg.dr = [])
    (hposted : s.brg.posted = []) (once : Bool) (due : Int) : ReadAnswered s (s.hostIssue a 16 once due) (s.pt i).bytes := by
  obtain ⟨v, hv, hvdr, hvaw, hvp, hx⟩ := State.hostIssue_first hdr a 16 once due
  have hp : (s.newRead 0 a 16 once).pieces = [(a, 16)] := by
    rw [State.newRead]
    dsimp only
    rw [h.piece, ite_self]
  have hgo := State.drGo_one (e := s.newRead 0 a 16 once) (h.kept hv) (by rw [State.drEnt, hvdr]; rfl) rfl rfl (hvp.trans hposted) hp
  have htag : (s.newRead 0 a 16 once).tag = 0 := rfl
  have hdata : (s.newRead 0 a 16 once).data = [] := rfl
  rw [htag, hdata, List.nil_append, hv.pt] at hgo
  rw [hx, hgo]
  obtain ⟨hb, hr⟩ := v.pushTile_bridge (i / 16)
  have hk := hv.readKept.trans (v.pushTile_kept (i / 16))
  obtain ⟨e, he⟩ : ∃ e : DrEnt, e = (s.newRead 0 a 16 once).got (v.sideEffect a 16 (s.newRead 0 a 16 once).once) (s.pt i).bytes := ⟨_, rfl⟩
  have het : e.tag = 0 := by rw [he]; rfl
  rw [← he]
  generalize v.pushTile (i / 16) = w at *
  obtain ⟨y, hy, hydr, hyx⟩ := State.drDone_awaited (s := w) (x := s.newRead 0 a 16 once) (e := e) (due := due) (s.pt i).bytes
    ((State.flag_of_regs hr _).trans ((hv.flag (by decide)).trans hpf)) (by rw [hb, hvdr]) (htag.trans het.symm) (by rw [hb, hvaw, het])
  rw [hyx]
  obtain ⟨hz, hzb⟩ := y.hostAnswer_kept stOK (0xFF :: (s.pt i).bytes)
  have hall := hk.trans hy.readKept
  refine ⟨hall.trans hz, State.hostAnswer_told ?_ _ _, by rw [hzb, hydr]⟩
  rw [State.flag, State.flag, State.g, State.g, hall.same _ (by decide)]

theorem State.readForm_plain {s : State} {a i : Nat} (h : PlainPoint s a i) (once : Bool) : s.readForm a 16 once = stOK := by
  unfold State.readForm
  rw [h.space, h.here]
  cases once <;> simp

theorem ReadAnswered.before {s t u : State} {d : List Byte} (h : ReadAnswered t u d) (hk : HostKept s t) : ReadAnswered s u d := by
  refine ⟨hk.readKept.trans h.toReadKept, ?_, h.dr⟩
  have hf : t.flag HST_CFG.CRC = s.flag HST_CFG.CRC := hk.flag (by decide)
  have := h.told
  rw [State.hostTold, hf] at this
  exact this

theorem hostRead_issues {s : State} {addr : BitVec 64} {i : Nat} (h : PlainPoint s addr.toNat i) (hon : s.domOn 6 = true) (hpf : s.brg.pf = none) :
    hostRead addr 16 true s = s.hostStart.hostIssue addr.toNat 16 false (s.absNs + s.waitNs) := by
  obtain ⟨hk, hb⟩ := s.hostStart_leaves
  have hp : s.hostStart.brg.pf = none := by rw [hb]; exact hpf
  have hwait : s.hostStart.waitNs = s.waitNs := by rw [State.waitNs, State.waitNs, hk.g (by decide)]
  have hhit : s.hostStart.pfHit addr.toNat 16 = none := by
    unfold State.pfHit
    rw [hp]
  have hpfs : (if s.hostStart.brg.pf.isSome = true then s.hostStart.pfDrop else s.hostStart) = s.hostStart := if_neg (by rw [hp]; decide)
  unfold hostRead
  rw [State.hostCmd_plain hon]
  dsimp only
  rw [hhit]
  dsimp only
  rw [hpfs, if_neg (by rw [State.readForm_plain (h.kept hk)]; decide), hk.absNs, hwait]

theorem hostReadOnce_issues {s : State} {addr : BitVec 64} {i : Nat} (h : PlainPoint s addr.toNat i) (hon : s.domOn 6 = true) :
    hostReadOnce addr 16 true s = s.hostStart.hostIssue addr.toNat 16 true (s.hostStart.absNs + s.hostStart.waitNs) := by
  obtain ⟨hk, _⟩ := s.hostStart_leaves
  unfold hostReadOnce
  rw [State.hostCmd_plain hon]
  dsimp only
  rw [if_neg (by rw [State.readForm_plain (h.kept hk)]; decide)]

theorem State.hostIssue_started {s : State} {a i : Nat} (h : PlainPoint s a i) (hoff : s.flag BRG_CFG.PF = false) (hdr : s.brg.dr = [])
    (hposted : s.brg.posted = []) (once : Bool) (due : Int) : ReadAnswered s (s.hostStart.hostIssue a 16 once due) (s.pt i).bytes := by
  obtain ⟨hk, hb⟩ := s.hostStart_leaves
  rw [← hk.pt]
  exact (State.hostIssue_plain (h.kept hk) ((hk.flag (by decide)).trans hoff) (by rw [hb]; exact hdr) (by rw [hb]; exact hposted) once due).before hk

theorem hostRead_plain {s : State} {addr : BitVec 64} {i : Nat} (hs : s.resetReq = none) (h : PlainPoint s addr.toNat i) (hon : s.domOn 6 = true)
    (hpf : s.brg.pf = none) (hoff : s.flag BRG_CFG.PF = false) (hdr : s.brg.dr = []) (hposted : s.brg.posted = []) :
    ∃ t, exec (.hostRead addr 16 true) s = .next t ∧ ReadAnswered s t (s.pt i).bytes := by
  have ht := State.hostIssue_started h hoff hdr hposted false (s.absNs + s.waitNs)
  rw [exec_hostRead, hostRead_issues h hon hpf]
  exact ⟨_, congrArg _ (State.finish_kept (ht.resetReq.trans hs) ht.pending), ht⟩

theorem hostReadOnce_plain {s : State} {addr : BitVec 64} {i : Nat} (hs : s.resetReq = none) (h : PlainPoint s addr.toNat i) (hon : s.domOn 6 = true)
    (hoff : s.flag BRG_CFG.PF = false) (hdr : s.brg.dr = []) (hposted : s.brg.posted = []) :
    ∃ t, exec (.hostReadOnce addr 16 true) s = .next t ∧ ReadAnswered s t (s.pt i).bytes := by
  have ht := State.hostIssue_started h hoff hdr hposted true (s.hostStart.absNs + s.hostStart.waitNs)
  rw [exec_hostReadOnce, hostReadOnce_issues h hon]
  exact ⟨_, congrArg _ (State.finish_kept (ht.resetReq.trans hs) ht.pending), ht⟩

/-! ### Behind a posted write -/

theorem State.drGo_blocked {s : State} {e : DrEnt} (hdr : s.brg.dr = [e]) (hdone : e.done = none) (hb : s.drBlocked e = true) :
    s.drGo e.tag = s.setDr e := by
  have hent : s.drEnt e.tag = some e := by
    rw [State.drEnt, hdr]
    simp
  have hrun : s.drRun e = (none, e, s) := if_pos (.inr hb)
  unfold State.drGo
  rw [hent]
  dsimp only
  rw [if_neg (by rw [hdone]; simp), hrun]

theorem hostRead_behind {s : State} {addr : BitVec 64} {i : Nat} {p : PwEnt} (hs : s.resetReq = none) (h : PlainPoint s addr.toNat i)
    (hon : s.domOn 6 = true) (hpf : s.brg.pf = none) (hdr : s.brg.dr = []) (hposted : s.brg.posted = [p])
    (hpw : p.pw = (s.g BRG_PW_SEQ.NEXT + 65535) % 65536) :
    ∃ t, exec (.hostRead addr 16 true) s = .next t ∧ t.resp = s.resp ∧ s.sameRegs t [HST_STAT.off] ∧
      t.brg.dr = [s.newRead 0 addr.toNat 16 false] ∧ t.brg.await = some (.read 0, s.absNs + s.waitNs) := by
  rw [exec_hostRead, hostRead_issues h hon hpf]
  obtain ⟨hk, hb⟩ := s.hostStart_leaves
  generalize s.hostStart = u at *
  obtain ⟨v, hv, hvdr, hvaw, hvp, hx⟩ := State.hostIssue_first (s := u) (by rw [hb]; exact hdr) addr.toNat 16 false (s.absNs + s.waitNs)
  have hnew : u.newRead 0 addr.toNat 16 false = s.newRead 0 addr.toNat 16 false := by
    rw [State.newRead, State.newRead, hk.g (by decide)]
  rw [hnew] at hvdr
  have hafter : (s.newRead 0 addr.toNat 16 false).after = s.g BRG_PW_SEQ.NEXT := rfl
  have hlt : s.g BRG_PW_SEQ.NEXT < 65536 := FRef.get_lt _ _
  have hblocked : v.drBlocked (s.newRead 0 addr.toNat 16 false) = true := by
    rw [State.drBlocked, hvp, hb, hafter]
    simp only [hposted, List.any_cons, List.any_nil, Bool.or_false, decide_eq_true_eq, hpw]
    omega
  have hgo := State.drGo_blocked hvdr rfl hblocked
  have hset := State.setDr_only hvdr (e := s.newRead 0 addr.toNat 16 false) rfl
  have htag : (s.newRead 0 addr.toNat 16 false).tag = 0 := rfl
  rw [htag] at hgo
  rw [hx, hgo]
  have hall := (hk.trans hv).trans (HostKept.setDr v (s.newRead 0 addr.toNat 16 false))
  generalize v.setDr (s.newRead 0 addr.toNat 16 false) = w at *
  obtain ⟨hpend, hreset, hresp, _⟩ := hall.leaves
  exact ⟨w, congrArg _ (State.finish_kept (hreset.trans hs) hpend), hresp, hall.same, by rw [hset], by rw [hset, hvaw]⟩

/-! ### The end of WAIT -/

theorem State.hostTick_retry {s : State} {tag : Nat} {e : DrEnt} {due : Int} (haw : s.brg.await = some (.read tag, due)) (hdr : s.brg.dr = [e])
    (ht : e.tag = tag) (hdue : due ≤ s.absNs) (hreqs : s.pts.reqs = []) :
    s.hostTick = ((s.setDr { e with retried := true }).bm (fun b => { b with await := none })).hostAnswer stRETRY (bytesBE 1 tag) := by
  have hent : s.drEnt tag = some e := by
    rw [State.drEnt, hdr]
    simp [ht]
  have hpassed : s.readHeldOff tag = false := by
    rw [State.readHeldOff, State.readPassed, hreqs, List.any_nil, Bool.and_false]
  unfold State.hostTick
  rw [haw]
  dsimp only
  rw [if_neg (by rw [hpassed]; simp [hdue]), hent]

theorem step_retry {s : State} {tag : Nat} {e : DrEnt} {due : Int} (hp : s.pending = []) (haw : s.brg.await = some (.read tag, due)) (hdr : s.brg.dr = [e])
    (ht : e.tag = tag) (hdue : due ≤ s.timeTick.absNs) (hreqs : s.pts.reqs = []) :
    ∃ t, step s = .next t ∧ s.hostTold t stRETRY (bytesBE 1 tag) ∧ t.brg.dr = [{ e with retried := true }] ∧ t.brg.await = none := by
  have hb := s.timeTick_brg
  have hpts : s.timeTick.pts = s.pts := (congrArg State.pts s.timeTick_frame :)
  have hcrc : s.timeTick.flag HST_CFG.CRC = s.flag HST_CFG.CRC := by
    rw [State.flag, State.flag, State.g, State.g, s.timeTick_rd, s.rd_p_ne TIME_SLEW_CNT.CNT _ (by decide)]
  rw [step_empty hp]
  generalize s.timeTick = u at *
  rw [State.hostTick_retry (by rw [hb]; exact haw) (by rw [hb]; exact hdr) ht hdue (by rw [hpts]; exact hreqs)]
  obtain ⟨y, hy⟩ : ∃ y : DrEnt, y = { e with retried := true } := ⟨_, rfl⟩
  have hyt : y.tag = e.tag := by rw [hy]
  rw [← hy]
  have hset := State.setDr_only (s := u) (x := e) (e := y) (by rw [hb]; exact hdr) hyt.symm
  have hk := HostKept.setDr u y
  generalize u.setDr y = v at *
  have hk2 := hk.trans (HostKept.bm v (fun b => { b with await := none }))
  have hvb : (v.bm (fun b => { b with await := none })).brg = { v.brg with await := none } := rfl
  generalize v.bm (fun b => { b with await := none }) = w at *
  have hwb := (w.hostAnswer_kept stRETRY (bytesBE 1 tag)).2
  exact ⟨_, rfl, State.hostAnswer_told ((hk2.flag (by decide)).trans hcrc) _ _, by rw [hwb, hvb, hset], by rw [hwb, hvb]⟩

/-! ### A delayed read completes -/

theorem exec_delayedReadComplete (tag : Fin 64) (s : State) :
    exec (.delayedReadComplete tag) s = .next (s.finish (delayedReadComplete tag s)) := by rfl

theorem delayedRead_completes {s : State} {tag : Fin 64} {a i : Nat} {e : DrEnt} (hs : s.resetReq = none) (hon : s.domOn 6 = true)
    (h : PlainPoint s a i) (hoff : s.flag BRG_CFG.PF = false) (hposted : s.brg.posted = []) (haw : s.brg.await = none) (hdr : s.brg.dr = [e])
    (ht : e.tag = tag.val) (hdone : e.done = none) (hfly : e.flying = false) (hp : e.pieces = [(a, 16)]) (hdata : e.data = [])
    (honce : e.once = false) (hside : e.side = false) (hretry : e.retried = true) :
    ∃ t, exec (.delayedReadComplete tag) s = .next t ∧ t.brg.dr = [{ e with
        pieces := [], flying := false, doubt := false, data := (s.pt i).bytes, done := some (stOK, s.absNs), window := s.claimMs }] ∧
      t.flag HST_ATTN.DR_DONE = true ∧ t.evPend (evBrg 5) = true ∧ t.resp = s.resp := by
  have hx : delayedReadComplete tag s = (s.pushTile (i / 16)).drDone (e.got false (s.pt i).bytes) stOK (s.pt i).bytes := by
    have hgo := State.drGo_one h (by rw [State.drEnt, hdr]; simp) hdone hfly hposted hp
    rw [hdata, honce, h.sideEffect, List.nil_append] at hgo
    unfold delayedReadComplete
    rw [if_pos hon, ← ht, hgo]
  obtain ⟨y, hy⟩ : ∃ y : DrEnt, y = e.got false (s.pt i).bytes := ⟨_, rfl⟩
  have hyt : y.tag = e.tag ∧ y.retried = e.retried := by rw [hy]; exact ⟨rfl, rfl⟩
  have hyend : ∀ w, y.ended (s.pt i).bytes s.absNs w = { e with
      pieces := [], flying := false, doubt := false, data := (s.pt i).bytes, done := some (stOK, s.absNs), window := w } := by
    intro w
    rw [hy, DrEnt.ended, DrEnt.got, hside]
    simp only [Bool.or_false]
  rw [exec_delayedReadComplete, hx, ← hy]
  obtain ⟨hb, hr⟩ := s.pushTile_bridge (i / 16)
  have hk : (s.pushTile (i / 16)).resp = s.resp ∧ (s.pushTile (i / 16)).absNs = s.absNs := ⟨rfl, rfl⟩
  have hkept := s.pushTile_kept (i / 16)
  generalize s.pushTile (i / 16) = u at *
  obtain ⟨v, hv, hvdr, hvx⟩ := State.drDone_retried (s := u) (x := e) (e := y) (s.pt i).bytes ((State.flag_of_regs hr _).trans hoff) (by rw [hb]; exact hdr)
    hyt.1.symm (by rw [hb]; exact haw) (hyt.2.trans hretry)
  have hclaim : u.claimMs = s.claimMs := by rw [State.claimMs, State.claimMs, State.g_of_regs hr]
  rw [hk.2, hclaim, hyend] at hvdr
  rw [hvx]
  obtain ⟨hpend, hreset, hresp, _⟩ := hv.leaves
  have hq : Quiet v (v.pb HST_ATTN.DR_DONE true) := Quiet.p v HST_ATTN.DR_DONE _
  have hflag := v.flag_pb_self (f := HST_ATTN.DR_DONE) true (by decide) rfl
  generalize v.pb HST_ATTN.DR_DONE true = w at *
  have hq2 := hq.trans (Quiet.raise w (ev := evBrg 5) (cls := clEvent) (by decide))
  obtain ⟨spend, _, _, _, sresp, _, _, _, _, _, _, _, _, _, _, _, _, sbrg, _⟩ := State.sameStores_of_bare hq2.bare
  exact ⟨_, congrArg _ (State.finish_kept (hq2.resetReq.trans (hreset.trans (hkept.resetReq.trans hs))) (spend.trans (hpend.trans hkept.pending))),
    by rw [sbrg, hvdr], (w.raise_attn (ev := evBrg 5) (cls := clEvent) (by decide) (by decide) rfl (f := HST_ATTN.DR_DONE) (by decide)).trans hflag, w.raise_pend clEvent (by decide),
    sresp.trans (hresp.trans hk.1)⟩

/-! ### Claims -/

theorem exec_hostClaim (tag : Fin 256) (crcOk : Bool) (s : State) : exec (.hostClaim tag crcOk) s = .next (s.finish (hostClaim tag crcOk s)) := by rfl

theorem exec_hostStatus (crcOk : Bool) (s : State) : exec (.hostStatus crcOk) s = .next (s.finish (hostStatus crcOk s)) := by rfl

theorem exec_hostBadOpcode (s : State) : exec .hostBadOpcode s = .next (s.finish (hostBadOpcode s)) := by rfl

/-- A host command that ends with an answer. -/
theorem State.finish_hostAnswer {s u : State} (hs : s.resetReq = none) (hr : u.resetReq = s.resetReq) (hp : u.pending = s.pending) (st : Nat)
    (d : List Byte) : s.finish (u.hostAnswer st d) = u.hostAnswer st d := State.finish_kept (hr.trans hs) hp

theorem State.drEnt_only {s : State} {e : DrEnt} (h : s.brg.dr = [e]) : s.drEnt e.tag = some e := by
  rw [State.drEnt, h]
  simp

theorem hostClaim_done {s : State} {tag : Fin 256} {e : DrEnt} {st : Nat} {at_ : Int} (hs : s.resetReq = none) (hon : s.domOn 6 = true)
    (hdr : s.brg.dr = [e]) (ht : e.tag = tag.val) (hdone : e.done = some (st, at_)) (hin : s.absNs - at_ < 1000000 * (e.window : Int)) :
    ∃ t, exec (.hostClaim tag true) s = .next t ∧ s.hostTold t st (bytesBE 1 tag.val ++ (if st = stOK then e.data else [])) ∧
      t.brg.dr = [] ∧ t.brg.inResp = some e ∧ s.sameRegs t [HST_STAT.off] := by
  obtain ⟨hk, hb⟩ := s.hostStart_leaves
  have hx : hostClaim tag true s = ((s.hostStart.freeDr tag.val).bm (fun b => { b with inResp := some e })).hostAnswer st
      (bytesBE 1 tag.val ++ (if st = stOK then e.data else [])) := by
    have hent : s.hostStart.drEnt tag.val = some e := ht ▸ State.drEnt_only (by rw [hb]; exact hdr)
    unfold hostClaim
    rw [State.hostCmd_plain hon]
    dsimp only
    rw [hent]
    dsimp only
    rw [hdone]
    dsimp only
    rw [if_neg (by rw [hk.absNs]; omega)]
  rw [exec_hostClaim, hx]
  generalize s.hostStart = u at *
  have hk2 := hk.trans (HostKept.freeDr u tag.val)
  have hfree : (u.freeDr tag.val).brg.dr = u.brg.dr.filter (fun x => x.tag != tag.val) := rfl
  generalize u.freeDr tag.val = v at *
  have hk3 := hk2.trans (HostKept.bm v (fun b => { b with inResp := some e }))
  have hvb : (v.bm (fun b => { b with inResp := some e })).brg = { v.brg with inResp := some e } := rfl
  generalize v.bm (fun b => { b with inResp := some e }) = w at *
  obtain ⟨hpend, hreset, _⟩ := hk3.leaves
  obtain ⟨hw, hwb⟩ := w.hostAnswer_kept st (bytesBE 1 tag.val ++ (if st = stOK then e.data else []))
  refine ⟨_, congrArg _ (State.finish_hostAnswer hs hreset hpend _ _), State.hostAnswer_told (hk3.flag (by decide)) _ _, ?_, by rw [hwb, hvb],
    (hk3.readKept.trans hw).same⟩
  rw [hwb, hvb]
  dsimp only
  rw [hfree, hb]
  simp [hdr, ht]

theorem hostClaim_early {s : State} {tag : Fin 256} {e : DrEnt} (hs : s.resetReq = none) (hon : s.domOn 6 = true) (hdr : s.brg.dr = [e])
    (ht : e.tag = tag.val) (hdone : e.done = none) (hdoubt : e.doubt = false) :
    ∃ t, exec (.hostClaim tag true) s = .next t ∧ s.hostTold t stRETRY (bytesBE 1 tag.val) ∧ t.brg.dr = [e] := by
  obtain ⟨hk, hb⟩ := s.hostStart_leaves
  have hx : hostClaim tag true s = s.hostStart.hostAnswer stRETRY (bytesBE 1 tag.val) := by
    have hent : s.hostStart.drEnt tag.val = some e := ht ▸ State.drEnt_only (by rw [hb]; exact hdr)
    unfold hostClaim
    rw [State.hostCmd_plain hon]
    dsimp only
    rw [hent]
    dsimp only
    rw [hdone]
    dsimp only
    rw [if_neg (by rw [hdoubt]; exact Bool.false_ne_true)]
  rw [exec_hostClaim, hx]
  obtain ⟨hpend, hreset, _⟩ := hk.leaves
  exact ⟨_, congrArg _ (State.finish_hostAnswer hs hreset hpend _ _), State.hostAnswer_told (hk.flag (by decide)) _ _,
    by rw [(State.hostAnswer_kept _ _ _).2, hb]; exact hdr⟩

theorem hostClaim_noTag {s : State} (tag : Fin 256) (hs : s.resetReq = none) (hon : s.domOn 6 = true) (hdr : s.brg.dr = []) :
    ∃ t, exec (.hostClaim tag true) s = .next t ∧ s.hostTold t stNOTAG [0xFF] := by
  obtain ⟨hk, hb⟩ := s.hostStart_leaves
  have hx : hostClaim tag true s = s.hostStart.hostAnswer stNOTAG [0xFF] := by
    have hent : s.hostStart.drEnt tag.val = none := by
      rw [State.drEnt, hb]
      simp [hdr]
    unfold hostClaim
    rw [State.hostCmd_plain hon]
    dsimp only
    rw [hent]
    rfl
  rw [exec_hostClaim, hx]
  obtain ⟨hpend, hreset, _⟩ := hk.leaves
  exact ⟨_, congrArg _ (State.finish_hostAnswer hs hreset hpend _ _), State.hostAnswer_told (hk.flag (by decide)) _ _⟩

/-! ### STATUS, and an unknown opcode -/

theorem State.found_attn {s t : State} (hl : t.latches = s.latches) (h : t.hstAttn = s.hstAttn) : t.found hostM HST_ATTN.off = s.found hostM HST_ATTN.off := by
  simp (decide := true) [State.found, State.shown, State.liveHigh, State.latched, State.keyOfReg, State.entryOf, hl, h]

theorem State.found_stat {s t : State} (hl : t.latches = s.latches) (h : t.hstStat = s.hstStat) : t.found hostM HST_STAT.off = s.found hostM HST_STAT.off := by
  simp (decide := true) [State.found, State.shown, State.liveHigh, State.latched, State.keyOfReg, State.entryOf, hl, h]

theorem HostKept.hstAttn {s t : State} (h : HostKept s t) (hstr : t.brg.str = s.brg.str) (hpwf : t.brg.pwf = s.brg.pwf) : t.hstAttn = s.hstAttn := by
  rw [State.hstAttn, State.hstAttn, h.word (by decide), h.flag (f := HST_ATTN.STR) (by decide), h.flag (f := HST_ATTN.PWF) (by decide), hstr, hpwf]

theorem State.hostAnswer_stat (s : State) (st : Nat) (d : List Byte) : (s.hostAnswer st d).hstStat = s.hstStat ∧ (s.hostAnswer st d).latches = s.latches :=
  ⟨rfl, rfl⟩

theorem hostStatus_answers {s : State} (hs : s.resetReq = none) : ∃ t, exec (.hostStatus true) s = .next t ∧ s.hostTold t stOK
    (bytesBE 4 (t.found hostM HST_STAT.off).toNat ++ bytesBE 4 (s.found hostM HST_ATTN.off).toNat) ∧ s.sameRegs t [HST_STAT.off] := by
  obtain ⟨hk, hb⟩ := s.hostStart_leaves
  obtain ⟨hpend, hreset, _, _, hlatch⟩ := hk.leaves
  have hx : hostStatus true s = s.hostStart.hostAnswer stOK
      (bytesBE 4 (s.hostStart.found hostM HST_STAT.off).toNat ++ bytesBE 4 (s.found hostM HST_ATTN.off).toNat) := by
    unfold hostStatus
    dsimp only
    rw [if_neg (by simp), State.found_attn hlatch (hk.hstAttn (by rw [hb]) (by rw [hb]))]
  rw [exec_hostStatus, hx]
  refine ⟨_, congrArg _ (State.finish_hostAnswer hs hreset hpend _ _), ?_, (hk.readKept.trans (State.hostAnswer_kept _ _ _).1).same⟩
  generalize s.hostStart = u at *
  obtain ⟨hst, hla⟩ := u.hostAnswer_stat stOK (bytesBE 4 (u.found hostM HST_STAT.off).toNat ++ bytesBE 4 (s.found hostM HST_ATTN.off).toNat)
  rw [State.found_stat hla hst]
  exact State.hostAnswer_told (hk.flag (by decide)) _ _

theorem hostBadOpcode_answers {s : State} (hs : s.resetReq = none) (hn : (s.rd HST_OPC_ERR.off).toNat + 1 < 0xFFFFFFFF) :
    ∃ t, exec .hostBadOpcode s = .next t ∧ s.hostTold t stOPCODE [] ∧
      (t.rd HST_OPC_ERR.off).toNat = (s.rd HST_OPC_ERR.off).toNat + 1 ∧ s.sameRegs t [HST_STAT.off, HST_OPC_ERR.off] := by
  obtain ⟨hk, _⟩ := s.hostStart_leaves
  have hword : s.hostStart.rd HST_OPC_ERR.off = s.rd HST_OPC_ERR.off := hk.word (by decide)
  rw [exec_hostBadOpcode, hostBadOpcode]
  generalize s.hostStart = u at *
  have hn2 : (u.rd HST_OPC_ERR.off).toNat + 1 < 0xFFFFFFFF := by rw [hword]; exact hn
  have hcnt := u.count_toNat _ hn2
  have hsame : ∀ k, k ≠ HST_OPC_ERR.off → (u.count HST_OPC_ERR.off).rd k = u.rd k := fun k hk' => by rw [u.count_eq _ hn2, u.rd_wr_ne _ hk']
  have hrest : (u.count HST_OPC_ERR.off).pending = u.pending ∧ (u.count HST_OPC_ERR.off).resetReq = u.resetReq := by
    rw [u.count_eq _ hn2]
    exact ⟨rfl, rfl⟩
  generalize u.count HST_OPC_ERR.off = v at *
  obtain ⟨hpend, hreset, _⟩ := hk.leaves
  obtain ⟨hw, _⟩ := v.hostAnswer_kept stOPCODE []
  have hflag : v.flag HST_CFG.CRC = s.flag HST_CFG.CRC := by
    rw [← hk.flag (by decide), State.flag, State.flag, State.g, State.g, hsame _ (by decide)]
  have hrd : ∀ k, (v.hostAnswer stOPCODE []).rd k = v.rd k := fun _ => rfl
  refine ⟨_, congrArg _ (State.finish_hostAnswer hs (hrest.2.trans hreset) (hrest.1.trans hpend) _ _), State.hostAnswer_told hflag _ _, ?_, fun k hk' => ?_⟩
  · rw [hrd, hcnt, hword]
  · simp only [List.mem_cons, List.not_mem_nil, or_false, not_or] at hk'
    rw [hrd, hsame k hk'.2, hk.word hk'.1]

/-- Settles O40. -/
theorem hostReads : Obligations.HostReads := by
  refine ⟨fun addr i s hs hon hgate hhere haddr hplain hgood hpf hoff hdr => ?_, fun tag e due s hp haw hdr ht hdue hreqs =>
      step_retry hp haw hdr ht hdue hreqs,
    fun tag a i e s hs hon hgate hhere haddr hplain hgood hoff hposted haw hdr ht hdone hfly hp hdata honce hside hretry =>
      delayedRead_completes hs hon ⟨hgate, hhere, haddr, hplain, hgood⟩ hoff hposted haw hdr ht hdone hfly hp hdata honce hside hretry,
    fun tag e s hs hon hdr ht => ⟨fun st at_ hdone hin => hostClaim_done hs hon hdr ht hdone hin, fun hdone hdoubt => hostClaim_early hs hon hdr ht hdone hdoubt⟩,
    fun tag s hs hon hdr => hostClaim_noTag tag hs hon hdr, fun s hs => ⟨hostStatus_answers hs, fun hn => hostBadOpcode_answers hs hn⟩⟩
  have h : PlainPoint s addr.toNat i := ⟨hgate, hhere, haddr, hplain, hgood⟩
  refine ⟨fun hposted => ?_, fun hposted => ?_, fun p hposted hpw => hostRead_behind hs h hon hpf hdr hposted hpw⟩
  · obtain ⟨t, ht, hread⟩ := hostRead_plain hs h hon hpf hoff hdr hposted
    exact ⟨t, ht, hread.told, hread.dr, hread.same, hread.recs⟩
  · obtain ⟨t, ht, hread⟩ := hostReadOnce_plain hs h hon hoff hdr hposted
    exact ⟨t, ht, hread.told, hread.dr, hread.same, hread.recs⟩

end Sys2Proof.Machine
end

section
/-! The units of Fountainhead (R298 to R303): the operations of a fail-over and of a proof-wake that write the units' states, the power
controller and Fountainhead's own store, and what the release of a standby leaves of the banks. -/

namespace Sys2Proof.Machine

/- One evaluation after another: each of them, left to itself, would hold a thread. -/
set_option Elab.async false

/-! ### Operations on the units -/

/-- A chain of writes of the registers listed, of the power controller and of Fountainhead's store. -/
structure FhRegs (s t : State) (l : List Nat) : Prop where
  same : s.sameRegs t l
  frame : { t with regs := s.regs, power := s.power, fh := s.fh } = s

namespace FhRegs

theorem refl (s : State) (l : List Nat) : FhRegs s s l := ⟨fun _ _ => rfl, rfl⟩

theorem trans {s t u : State} {l : List Nat} (a : FhRegs s t l) (b : FhRegs t u l) : FhRegs s u l :=
  ⟨fun k hk => (b.same k hk).trans (a.same k hk),
    (congrArg (fun x : State => { x with regs := s.regs, power := s.power, fh := s.fh }) b.frame).trans a.frame⟩

theorem mono {s t : State} {l l' : List Nat} (a : FhRegs s t l) (h : ∀ k ∈ l, k ∈ l') : FhRegs s t l' :=
  ⟨fun k hk => a.same k fun hl => hk (h k hl), a.frame⟩

theorem hm (s : State) (f : Fh → Fh) (l : List Nat) : FhRegs s (s.hm f) l := ⟨fun _ _ => rfl, rfl⟩

theorem p (s : State) (f : FRef) (v : Nat) {l : List Nat} (hl : f.off ∈ l) : FhRegs s (s.p f v) l :=
  ⟨fun _ hk => s.rd_p_ne f v fun h => hk (h ▸ hl), rfl⟩

theorem pb (s : State) (f : FRef) (b : Bool) {l : List Nat} (hl : f.off ∈ l) : FhRegs s (s.pb f b) l := p s f _ hl

theorem powerEval (s : State) {l : List Nat} (hl : ∀ k ∈ powerRegs, k ∈ l) : FhRegs s s.powerEval l := by
  have h := Powered.powerEval s
  exact ⟨fun k hk => h.rd k fun hp => hk (hl k hp), (congrArg (fun x : State => { x with regs := s.regs, power := s.power, fh := s.fh }) h.rest :)⟩

variable {s t : State} {l : List Nat}

theorem g (h : FhRegs s t l) {f : FRef} (hf : f.off ∉ l) : t.g f = s.g f := by rw [State.g, State.g, h.same _ hf]

theorem flag (h : FhRegs s t l) {f : FRef} (hf : f.off ∉ l) : t.flag f = s.flag f := by rw [State.flag, State.flag, h.g hf]

/-- Neither the queue nor a reset is touched. -/
theorem calm (h : FhRegs s t l) : t.pending = s.pending ∧ t.resetReq = s.resetReq :=
  ⟨(congrArg State.pending h.frame :), (congrArg State.resetReq h.frame :)⟩

/-- A command that is such a chain ends in its state. -/
theorem finish (h : FhRegs s t l) (hs : s.resetReq = none) : s.finish t = t := State.finish_kept (h.calm.2.trans hs) h.calm.1

end FhRegs

theorem State.powerEval_fh (s : State) : s.powerEval.fh = s.fh := (congrArg State.fh (Powered.powerEval s).rest :)

theorem fh_not_power {k : Nat} (hk : 0x240000 ≤ k) : k ∉ powerRegs := fun h => by
  have := Powered.mem_powerRegs h
  omega

theorem State.powerEval_fhStat (s : State) {f : FRef} (hf : f.off = FH_STAT.off) : s.powerEval.g f = s.g f := by
  rw [State.g, State.g, (Powered.powerEval s).rd _ (fh_not_power (by rw [hf]; decide))]

theorem State.powerEval_unit (s : State) (u : Nat) : s.powerEval.unit u = s.unit u := by
  rw [State.unit, State.unit, s.powerEval_fhStat rfl, s.powerEval_fhStat rfl]

/-- A unit's state after it is set. -/
theorem State.setUnit_unit (s : State) (u : Nat) {v : Nat} (hv : v < 8) : (s.setUnit u v).unit u = v := by
  unfold State.setUnit State.unit
  by_cases h : u = 0
  · rw [if_pos h, if_pos h]
    exact s.g_p_fit (f := FH_STAT.STATE_A) hv (by decide)
  · rw [if_neg h, if_neg h]
    exact s.g_p_fit (f := FH_STAT.STATE_B) hv (by decide)

/-- The other unit's state is left. -/
theorem State.setUnit_other (s : State) {u : Nat} (hu : u < 2) (v : Nat) : (s.setUnit u v).unit (1 - u) = s.unit (1 - u) := by
  have ha : (s.p FH_STAT.STATE_A v).g FH_STAT.STATE_B = s.g FH_STAT.STATE_B := s.g_p_sep v (by decide)
  have hb : (s.p FH_STAT.STATE_B v).g FH_STAT.STATE_A = s.g FH_STAT.STATE_A := s.g_p_sep v (by decide)
  unfold State.setUnit State.unit
  by_cases h : u = 0
  · rw [if_pos h, if_neg (by omega), if_neg (by omega)]
    exact ha
  · rw [if_neg h, if_pos (by omega), if_pos (by omega)]
    exact hb

/-- A field apart from the units' states is left. -/
theorem State.setUnit_g (s : State) (u v : Nat) {f : FRef} (ha : FH_STAT.STATE_A.sep f = true) (hb : FH_STAT.STATE_B.sep f = true) :
    (s.setUnit u v).g f = s.g f := by
  unfold State.setUnit
  split
  · exact s.g_p_sep (f := FH_STAT.STATE_A) v ha
  · exact s.g_p_sep (f := FH_STAT.STATE_B) v hb

theorem State.setUnit_fh (s : State) (u v : Nat) : (s.setUnit u v).fh = s.fh := by
  unfold State.setUnit
  split
  · exact s.p_fh FH_STAT.STATE_A v
  · exact s.p_fh FH_STAT.STATE_B v

theorem FhRegs.setUnit (s : State) (u v : Nat) {l : List Nat} (hl : FH_STAT.off ∈ l) : FhRegs s (s.setUnit u v) l := by
  unfold State.setUnit
  split
  · exact FhRegs.p s FH_STAT.STATE_A v hl
  · exact FhRegs.p s FH_STAT.STATE_B v hl

theorem State.unit_of_regs {s t : State} (h : t.regs = s.regs) (u : Nat) : t.unit u = s.unit u := by
  rw [State.unit, State.unit, State.g_of_regs h, State.g_of_regs h]

theorem State.domOn_of_regs {s t : State} (h : t.regs = s.regs) (d : Nat) : t.domOn d = s.domOn d := by
  rw [State.domOn, State.domOn, State.dom, State.dom, State.g_of_regs h]

theorem unit_of_rd {s t : State} (h : t.rd FH_STAT.off = s.rd FH_STAT.off) (u : Nat) : t.unit u = s.unit u := by
  rw [State.unit, State.unit, State.g, State.g, State.g, State.g, h]

/-! ### STANDBY_READY -/

theorem exec_standbyReady (s : State) : exec .standbyReady s = .next (s.finish (standbyReady s)) := by rfl

/-- A unit's data banks cleared: what a byte reads. -/
theorem State.bankClear_byte (s : State) (u : Nat) (p : Nat → Bool) {v a : Nat} (ha : a < 0x90000) :
    (s.bankClear u p).bankByte v a = if v = u ∧ p (a / 65536) = true then 0 else s.bankByte v a := by
  have hdrop : (s.bankClear u p).bankByte v a =
      if (memKey v a / 2 ^ 20 == u && p (memKey v a % 2 ^ 20 / 65536)) then 0 else s.bankByte v a :=
    Laws.get_drop s.fh.mem (fun k => k / 2 ^ 20 == u && p (k % 2 ^ 20 / 65536)) (memKey v a)
  have hunit : memKey v a / 2 ^ 20 = v := by simp only [memKey]; omega
  have hoff : memKey v a % 2 ^ 20 = a := by simp only [memKey]; omega
  rw [hdrop, hunit, hoff]
  simp only [Bool.and_eq_true, beq_iff_eq]

theorem State.unhalt_fh (s : State) (u : Nat) : (s.unhalt u).regs = s.regs ∧ (s.unhalt u).pts = s.pts ∧ (s.unhalt u).fh.mem = s.fh.mem ∧
    (s.unhalt u).fh.halted = s.fh.halted.filter (fun x => x != u) ∧ FhRegs s (s.unhalt u) [] :=
  ⟨rfl, rfl, rfl, rfl, ⟨fun _ _ => rfl, rfl⟩⟩

theorem State.bankClear_leaves (s : State) (u : Nat) (p : Nat → Bool) : FhRegs s (s.bankClear u p) [] ∧ (s.bankClear u p).regs = s.regs ∧
    (s.bankClear u p).pts = s.pts := ⟨⟨fun _ _ => rfl, rfl⟩, rfl, rfl⟩

theorem State.bankByte_of_mem {s t : State} (h : t.fh.mem = s.fh.mem) (v a : Nat) : t.bankByte v a = s.bankByte v a := by
  rw [State.bankByte, State.bankByte, h]

/-- What STANDBY_READY does with the unit it finds. -/
def State.standbyRun (s : State) (u : Nat) : State :=
  ((s.bankClear u (fun b => b < 8 && !s.progBank b)).unhalt u).hm (fun h => { h with resumed := some u })

theorem standbyReady_eq {s : State} {u : Nat} (hu : u < 2) (hr : s.unit u = fhRestore) (ho : s.unit (1 - u) ≠ fhRestore)
    (hd : s.domOn (u + 1) = true) (hn : s.fh.resumed = none) : standbyReady s = s.standbyRun u := by
  have hfind : [0, 1].find? (fun u => s.unit u == fhRestore && s.domOn (u + 1) && s.fh.resumed != some u) = some u := by
    obtain rfl | rfl : u = 0 ∨ u = 1 := by omega
    · simp [hr, hd, hn]
    · simp only [Nat.sub_self] at ho
      simp [hr, hd, hn, ho]
  rw [standbyReady, hfind]
  rfl

theorem State.standbyRun_leaves (s : State) (u : Nat) : FhRegs s (s.standbyRun u) [] ∧ (s.standbyRun u).regs = s.regs ∧
    (s.standbyRun u).pts = s.pts ∧ (s.standbyRun u).fh.resumed = some u ∧ (s.standbyRun u).fh.halted.contains u = false ∧
    ∀ v a, a < 0x90000 → (s.standbyRun u).bankByte v a = if v = u ∧ a < 0x80000 ∧ s.progBank (a / 65536) = false then 0 else s.bankByte v a := by
  unfold State.standbyRun
  obtain ⟨hclear, hregs, hpts⟩ := s.bankClear_leaves u (fun b => b < 8 && !s.progBank b)
  have hbyte : ∀ v a, a < 0x90000 → (s.bankClear u (fun b => b < 8 && !s.progBank b)).bankByte v a = _ :=
    fun v a ha => s.bankClear_byte u (fun b => b < 8 && !s.progBank b) ha
  generalize s.bankClear u (fun b => b < 8 && !s.progBank b) = c at *
  obtain ⟨hregs1, hpts1, hmem1, hhalt1, hk1⟩ := c.unhalt_fh u
  generalize c.unhalt u = d at *
  obtain ⟨hregs2, hpts2, hmem2, hhalt2, hres2⟩ : (d.hm (fun h => { h with resumed := some u })).regs = d.regs ∧
      (d.hm (fun h => { h with resumed := some u })).pts = d.pts ∧ (d.hm (fun h => { h with resumed := some u })).fh.mem = d.fh.mem ∧
      (d.hm (fun h => { h with resumed := some u })).fh.halted = d.fh.halted ∧
      (d.hm (fun h => { h with resumed := some u })).fh.resumed = some u := ⟨rfl, rfl, rfl, rfl, rfl⟩
  have hk2 := FhRegs.hm d (fun h => { h with resumed := some u }) []
  generalize d.hm (fun h => { h with resumed := some u }) = t at *
  refine ⟨(hclear.trans hk1).trans hk2, (hregs2.trans hregs1).trans hregs, (hpts2.trans hpts1).trans hpts, hres2, ?_, fun v a ha => ?_⟩
  · rw [hhalt2, hhalt1]
    simp
  · rw [State.bankByte_of_mem (hmem2.trans hmem1), hbyte v a ha]
    have hlt : (a / 65536 < 8) ↔ a < 0x80000 := by omega
    simp [hlt]

theorem standbyReady_runs {s : State} {u : Nat} (hs : s.resetReq = none) (hu : u < 2) (hr : s.unit u = fhRestore) (ho : s.unit (1 - u) ≠ fhRestore)
    (hd : s.domOn (u + 1) = true) (hn : s.fh.resumed = none) :
    ∃ t, exec .standbyReady s = .next t ∧ t.fh.resumed = some u ∧ t.fh.halted.contains u = false ∧ t.unitRuns u = true ∧
      (∀ v a, a < 0x90000 → t.bankByte v a = if v = u ∧ a < 0x80000 ∧ s.progBank (a / 65536) = false then 0 else s.bankByte v a) ∧
      t.regs = s.regs ∧ t.pts = s.pts := by
  obtain ⟨hk, hregs, hpts, hres, hhalt, hbyte⟩ := s.standbyRun_leaves u
  rw [exec_standbyReady, standbyReady_eq hu hr ho hd hn, hk.finish hs]
  have hon : (s.standbyRun u).domOn (u + 1) = s.domOn (u + 1) := State.domOn_of_regs hregs _
  generalize s.standbyRun u = t at *
  have hunit : t.unit u = fhRestore := (State.unit_of_regs hregs u).trans hr
  have hruns : t.unitRuns u = true := by
    rw [State.unitRuns, hon, hd, hhalt, hunit, hres]
    simp
  exact ⟨t, rfl, hres, hhalt, hruns, hbyte, hregs, hpts⟩

/-! ### Proof-wakes -/

theorem exec_rearmProof (s : State) : exec .rearmProof s = .next (s.finish (rearmProof s)) := by rfl

theorem exec_proofWakeStart (s : State) : exec .proofWakeStart s = .next (s.finish (proofWakeStart s)) := by rfl

/-- The registers that the begin of a proof-wake may change. -/
theorem State.proofBegin_leaves (s : State) (u : Nat) : FhRegs s (s.proofBegin u) (FH_STAT.off :: powerRegs) ∧
    (s.proofBegin u).unit u = fhProof ∧ (s.proofBegin u).fh = { s.fh with proof := some u } := by
  unfold State.proofBegin
  have hk := (FhRegs.setUnit s u fhProof (l := FH_STAT.off :: powerRegs) List.mem_cons_self)
  have hunit := s.setUnit_unit u (v := fhProof) (by decide)
  have hfh := s.setUnit_fh u fhProof
  generalize s.setUnit u fhProof = a at *
  have hk2 := hk.trans (FhRegs.hm a (fun h => { h with proof := some u }) _)
  have hunit2 : (a.hm (fun h => { h with proof := some u })).unit u = fhProof := hunit
  have hfh2 : (a.hm (fun h => { h with proof := some u })).fh = { s.fh with proof := some u } := congrArg (fun h : Fh => { h with proof := some u }) hfh
  generalize a.hm (fun h => { h with proof := some u }) = b at *
  exact ⟨hk2.trans (FhRegs.powerEval b fun _ h => List.mem_cons_of_mem _ h), (b.powerEval_unit u).trans hunit2, b.powerEval_fh.trans hfh2⟩

theorem rearmProof_begins {s : State} {u : Nat} {at_ : Int} (hs : s.resetReq = none) (hr : s.fh.rearm = some (u, at_)) (ht : at_ ≤ s.absNs)
    (hu : s.unit u = fhFailed) (hd : s.dom (u + 1) ≠ dsOff) :
    ∃ t, exec .rearmProof s = .next t ∧ t.unit u = fhProof ∧ t.fh.proof = some u ∧ t.fh.rearm = none ∧ s.sameRegs t (FH_STAT.off :: powerRegs) := by
  have hx : rearmProof s = ((s.hm (fun h => { h with rearm := none })).unhalt u).proofBegin u := by
    rw [rearmProof, hr]
    dsimp only
    rw [if_pos ht, if_pos ⟨hu, hd⟩]
  have hk : FhRegs s ((s.hm (fun h => { h with rearm := none })).unhalt u) (FH_STAT.off :: powerRegs) :=
    ((FhRegs.hm s _ []).trans (State.unhalt_fh _ u).2.2.2.2).mono (by simp)
  have hre : ((s.hm (fun h => { h with rearm := none })).unhalt u).fh.rearm = none := rfl
  rw [exec_rearmProof, hx]
  generalize (s.hm (fun h => { h with rearm := none })).unhalt u = a at *
  obtain ⟨hk2, hunit, hfh⟩ := a.proofBegin_leaves u
  generalize a.proofBegin u = t at *
  rw [(hk.trans hk2).finish hs]
  exact ⟨t, rfl, hunit, by rw [hfh], by rw [hfh]; exact hre, (hk.trans hk2).same⟩

theorem proofWakeStart_begins {s : State} {u : Nat} (hs : s.resetReq = none) (hst : s.standby = u) (hu : s.unit u = fhStandby)
    (hen : s.flag FH_PROOF_CFG.EN = true)
    (hper : 3600000000000 * (clampNat 1 720 (s.g FH_PROOF_CFG.PERIOD) : Nat) ≤ s.absNs - s.fh.proofAt) :
    ∃ t, exec .proofWakeStart s = .next t ∧ t.unit u = fhProof ∧ t.fh = { s.fh with proofAt := s.absNs, proof := some u } ∧
      s.sameRegs t (FH_STAT.off :: powerRegs) := by
  have hx : proofWakeStart s = (s.hm (fun h => { h with proofAt := s.absNs })).proofBegin u := by
    rw [proofWakeStart, hst]
    exact if_pos ⟨hen, hu, hper⟩
  have hk := FhRegs.hm s (fun h => { h with proofAt := s.absNs }) (FH_STAT.off :: powerRegs)
  have hf : (s.hm (fun h => { h with proofAt := s.absNs })).fh = { s.fh with proofAt := s.absNs } := rfl
  rw [exec_proofWakeStart, hx]
  generalize s.hm (fun h => { h with proofAt := s.absNs }) = a at *
  obtain ⟨hk2, hunit, hfh⟩ := a.proofBegin_leaves u
  generalize a.proofBegin u = t at *
  rw [(hk.trans hk2).finish hs]
  exact ⟨t, rfl, hunit, by rw [hfh, hf], (hk.trans hk2).same⟩

/-! ### Commands in FH_CMD -/

theorem State.blkTop_fhCmd {s : State} {r : RegWr} (h : r.off = FH_CMD.off) (hop : FH_CMD.OP.get r.eff ≠ 1) :
    s.blkTop r = s.fhCmdWrite r.m r.eff := by
  simp (decide := true) [State.blkTop, State.blkWrite, State.blkFh, h, hop]

theorem State.blkTop_fhRelease {s : State} {r : RegWr} (h : r.off = FH_CMD.off) (hop : FH_CMD.OP.get r.eff = 1) :
    s.blkTop r = (stOK, s.fhReleaseCmd r.m) := by
  simp (decide := true) [State.blkTop, h, hop]

theorem fhCmd_open : regAlone FH_CMD.off 2 = true := by decide +kernel

theorem State.fhCmd_op (s : State) (m : Master) (k : Fin 5) : FH_CMD.OP.get (s.regWr m FH_CMD.off (cmdWord FH_CMD.OP k.val)).eff = k.val := by
  change FH_CMD.OP.get ((rowAt FH_CMD.off).effWord (cmdWord FH_CMD.OP k.val)) = k.val
  revert k
  decide +kernel

theorem State.blkTop_release (s : State) (m : Master) : s.blkTop (s.regWr m FH_CMD.off (cmdWord FH_CMD.OP 1)) = (stOK, s.fhReleaseCmd m) :=
  State.blkTop_fhRelease rfl (s.fhCmd_op m 1)

theorem State.blkTop_checkpoint (s : State) (m : Master) : s.blkTop (s.regWr m FH_CMD.off (cmdWord FH_CMD.OP 2)) = (stOK, s.ckptDue) := by
  have hop : FH_CMD.OP.get (s.regWr m FH_CMD.off (cmdWord FH_CMD.OP 2)).eff = 2 := s.fhCmd_op m 2
  rw [State.blkTop_fhCmd rfl (by rw [hop]; decide), State.fhCmdWrite, hop]
  rfl

theorem State.blkTop_proof (s : State) (m : Master) : s.blkTop (s.regWr m FH_CMD.off (cmdWord FH_CMD.OP 3)) = (stOK, s.fhProofCmd) := by
  have hop : FH_CMD.OP.get (s.regWr m FH_CMD.off (cmdWord FH_CMD.OP 3)).eff = 3 := s.fhCmd_op m 3
  rw [State.blkTop_fhCmd rfl (by rw [hop]; decide), State.fhCmdWrite, hop]
  rfl

theorem exec_proofCommand (m : Master) (s : State) :
    exec (.proofCommand m) s = .next (s.finish (s.regCmd m FH_CMD.off 4 (cmdWord FH_CMD.OP 3))) := by rfl

theorem proofCommand_begins {s : State} {m : Master} {u : Nat} (hserves : s.serves m FH_CMD.off 2) (hst : s.standby = u) (hu : s.unit u = fhStandby) :
    ∃ t, exec (.proofCommand m) s = .next t ∧ t.toldOK m ∧ t.unit u = fhProof ∧ t.fh = { s.fh with proof := some u } ∧
      s.sameRegs t (FH_STAT.off :: powerRegs) := by
  have hx : s.fhProofCmd = s.proofBegin u := by
    rw [State.fhProofCmd, hst]
    exact if_pos hu
  obtain ⟨hk, hunit, hfh⟩ := s.proofBegin_leaves u
  have hwrite : s.blkTop (s.regWr m FH_CMD.off (cmdWord FH_CMD.OP 3)) = (stOK, s.proofBegin u) := by rw [s.blkTop_proof m, hx]
  rw [exec_proofCommand]
  generalize s.proofBegin u = a at *
  exact ⟨a.answer m stOK [], congrArg _ (State.serves_finish hserves fhCmd_open hwrite (hk.calm.2.trans (State.serves_noReset hserves)) hk.calm.1),
    rfl, hunit, hfh, hk.same⟩

end Sys2Proof.Machine
end

section
/-! PROOF of FailOverAndProofs (R294 to R305, R308): the release that ends a fail-over, its deadline, the end of a proof-wake, checkpoint
copies and a spent zone budget. -/

namespace Sys2Proof.Machine

/- One evaluation after another: each of them, left to itself, would hold a thread. -/
set_option Elab.async false

/-! ### FH_RELEASE -/

/-- The unit made the active one and safe state left (R298 step 6). -/
def State.foActive (s : State) (u : Nat) : State := ((s.p FH_STAT.ACTIVE u).setUnit u fhActive).safeLeave

/-- What follows in a fail-over's end: its time, its record, its count and event. -/
def State.foNoted (s : State) (u us : Nat) : State :=
  let s := s.p FH_FO_TIME.TIME (min us 65535)
  let rearm := if s.flag FH_CTRL.REARM then some (1 - u, s.absNs + 100000000) else none
  let s := s.hm (fun h => { h with released := true, trig := none, resumed := none, wdogAt := s.absNs, rearm := rearm })
  (s.count FH_FO_CNT.off).raise (evFh 3) clEvent

/-- The update that a fail-over's end interrupts (R422, R424). -/
def State.foUpdate (s : State) : State :=
  if s.ust = usTrial ∨ (s.upd.revert ∧ (s.ust = usStaging ∨ s.ust = usStaged)) then
    ((s.p UPD_STAT.BOOT (s.g UPD_STAT.OLD)).setUst usReverted).upm (fun x => { x with revert := false, records := [] })
  else if s.upd.rec_ = 1 then s.upm (fun x => { x with applying := true, cDue := none }) else s

theorem State.foDone_eq (s : State) (u : Nat) : s.foDone u =
    ((s.foActive u).foNoted u ((s.absNs - s.fh.trig.getD s.absNs) / 1000).toNat).foUpdate.powerEval := rfl

theorem State.foUpdate_idle {s : State} (h : s.ust = usIdle) (hr : s.upd.rec_ ≠ 1) : s.foUpdate = s := by
  rw [State.foUpdate, if_neg (by rw [h]; simp [usIdle, usTrial, usStaging, usStaged]), if_neg hr]

theorem State.fh_of_bare {s t : State} (h : t.bare = s.bare) : t.fh = s.fh := by
  obtain ⟨_, _, _, _, _, _, _, _, _, _, _, _, _, _, hfh, _⟩ := State.sameStores_of_bare h
  exact hfh

theorem State.upd_of_bare {s t : State} (h : t.bare = s.bare) : t.upd = s.upd := by
  obtain ⟨_, _, _, _, _, _, _, _, _, _, _, _, _, _, _, _, _, _, _, _, _, hupd, _⟩ := State.sameStores_of_bare h
  exact hupd

/-- Jets let run again as safe state is left. -/
def State.jetsGo (s : State) : State := { s with jets := { s.jets with safeStop := false } }

theorem State.safeLeave_eq (s : State) : s.safeLeave = (s.pb FH_STAT.SAFE false).jetsGo := rfl

theorem State.jetsGo_regs (s : State) : s.jetsGo.regs = s.regs := rfl

/-- A step of a release: FH_STAT written, and neither the units' store, the update nor the time. -/
structure Released (s t : State) : Prop extends Chain s t [FH_STAT.off] where
  fh : t.fh = s.fh
  upd : t.upd = s.upd
  clep : t.clep = s.clep

namespace Released

theorem trans {s t u : State} (a : Released s t) (b : Released t u) : Released s u :=
  ⟨a.toChain.trans b.toChain, b.fh.trans a.fh, b.upd.trans a.upd, b.clep.trans a.clep⟩

theorem p (s : State) (f : FRef) (v : Nat) (hf : f.off = FH_STAT.off) : Released s (s.p f v) :=
  ⟨Chain.p s f v (by rw [hf]; decide) (by rw [hf]; exact List.mem_cons_self), rfl, rfl, rfl⟩

theorem setUnit (s : State) (u v : Nat) : Released s (s.setUnit u v) := by
  unfold State.setUnit
  split
  · exact p s FH_STAT.STATE_A v rfl
  · exact p s FH_STAT.STATE_B v rfl

theorem jetsGo (s : State) : Released s s.jetsGo := ⟨Chain.of_regs _, rfl, rfl, rfl⟩

theorem safeLeave (s : State) : Released s s.safeLeave := by
  rw [State.safeLeave_eq, State.pb]
  exact (p s FH_STAT.SAFE (b2n false) rfl).trans (jetsGo _)

theorem absNs {s t : State} (h : Released s t) : t.absNs = s.absNs := by rw [State.absNs, State.absNs, h.clep]

end Released

theorem State.safeLeave_g (s : State) {f : FRef} (h : FH_STAT.SAFE.sep f = true) : s.safeLeave.g f = s.g f := by
  rw [State.safeLeave_eq, State.g_of_regs (State.jetsGo_regs _)]
  exact s.g_p_sep (f := FH_STAT.SAFE) (b2n false) h

theorem State.safeLeave_safe (s : State) : s.safeLeave.flag FH_STAT.SAFE = false := by
  rw [State.safeLeave_eq, State.flag_of_regs (State.jetsGo_regs _)]
  exact s.flag_pb_self (f := FH_STAT.SAFE) false (by decide) rfl

theorem State.safeLeave_unit (s : State) (u : Nat) : s.safeLeave.unit u = s.unit u := by
  rw [State.unit, State.unit, s.safeLeave_g (f := FH_STAT.STATE_A) (by decide), s.safeLeave_g (f := FH_STAT.STATE_B) (by decide)]

theorem State.active_unit (s : State) (u w : Nat) : (s.p FH_STAT.ACTIVE u).unit w = s.unit w := by
  rw [State.unit, State.unit, s.g_p_sep (f := FH_STAT.ACTIVE) (g := FH_STAT.STATE_A) u (by decide),
    s.g_p_sep (f := FH_STAT.ACTIVE) (g := FH_STAT.STATE_B) u (by decide)]

/-- The units after the release (R298, R308). -/
theorem State.foActive_leaves (s : State) {u : Nat} (hu : u < 2) : Released s (s.foActive u) ∧ (s.foActive u).active = u ∧
    (s.foActive u).unit u = fhActive ∧ (s.foActive u).unit (1 - u) = s.unit (1 - u) ∧ (s.foActive u).flag FH_STAT.SAFE = false := by
  unfold State.foActive
  have hk := Released.p s FH_STAT.ACTIVE u rfl
  have hact : (s.p FH_STAT.ACTIVE u).g FH_STAT.ACTIVE = u := s.g_p_fit (f := FH_STAT.ACTIVE) hu (by decide)
  have hother := s.active_unit u (1 - u)
  generalize s.p FH_STAT.ACTIVE u = a at *
  have hk2 := hk.trans (Released.setUnit a u fhActive)
  have hact2 := (a.setUnit_g u fhActive (f := FH_STAT.ACTIVE) (by decide) (by decide)).trans hact
  have hunit := a.setUnit_unit u (v := fhActive) (by decide)
  have hother2 := (a.setUnit_other hu fhActive).trans hother
  generalize a.setUnit u fhActive = b at *
  exact ⟨hk2.trans (Released.safeLeave b), (b.safeLeave_g (by decide)).trans hact2, (b.safeLeave_unit u).trans hunit,
    (b.safeLeave_unit (1 - u)).trans hother2, b.safeLeave_safe⟩

/-- What is noted of a fail-over that ends (R298, R300, R308). -/
theorem State.foNoted_leaves (s : State) (u us : Nat) (hn : (s.rd FH_FO_CNT.off).toNat + 1 < 0xFFFFFFFF) :
    Chain s (s.foNoted u us) [FH_FO_TIME.off, FH_FO_CNT.off] ∧ (s.foNoted u us).upd = s.upd ∧
      (s.foNoted u us).fh = { s.fh with
        released := true, trig := none, resumed := none, wdogAt := s.absNs,
        rearm := if s.flag FH_CTRL.REARM then some (1 - u, s.absNs + 100000000) else none } ∧
      (s.foNoted u us).g FH_FO_TIME.TIME = min us 65535 ∧ ((s.foNoted u us).rd FH_FO_CNT.off).toNat = (s.rd FH_FO_CNT.off).toNat + 1 ∧
      (s.foNoted u us).evPend (evFh 3) = true := by
  unfold State.foNoted
  dsimp only
  have hk := Chain.p s FH_FO_TIME.TIME (min us 65535) (l := [FH_FO_TIME.off, FH_FO_CNT.off]) (by decide) List.mem_cons_self
  have hfh := s.p_fh FH_FO_TIME.TIME (min us 65535)
  have hupd : (s.p FH_FO_TIME.TIME (min us 65535)).upd = s.upd := rfl
  have habs : (s.p FH_FO_TIME.TIME (min us 65535)).absNs = s.absNs := rfl
  have htime : (s.p FH_FO_TIME.TIME (min us 65535)).g FH_FO_TIME.TIME = min us 65535 :=
    s.g_p_fit (f := FH_FO_TIME.TIME) (show min us 65535 < 65536 by omega) (by decide)
  have hre : (s.p FH_FO_TIME.TIME (min us 65535)).flag FH_CTRL.REARM = s.flag FH_CTRL.REARM := s.flag_p_sep _ (by decide)
  have hcnt : (s.p FH_FO_TIME.TIME (min us 65535)).rd FH_FO_CNT.off = s.rd FH_FO_CNT.off := s.rd_p_ne FH_FO_TIME.TIME _ (by decide)
  rw [hre, habs]
  generalize s.p FH_FO_TIME.TIME (min us 65535) = a at *
  obtain ⟨h, hh⟩ : ∃ h : Fh, h = { s.fh with
      released := true, trig := none, resumed := none, wdogAt := s.absNs,
      rearm := if s.flag FH_CTRL.REARM then some (1 - u, s.absNs + 100000000) else none } := ⟨_, rfl⟩
  have hset : a.hm (fun x => { x with
      released := true, trig := none, resumed := none, wdogAt := s.absNs,
      rearm := if s.flag FH_CTRL.REARM then some (1 - u, s.absNs + 100000000) else none }) = { a with fh := h } := by rw [hh, State.hm, hfh]
  rw [hset, ← hh]
  have hk2 : Chain s { a with fh := h } [FH_FO_TIME.off, FH_FO_CNT.off] := hk.trans (Chain.of_regs _)
  have hfh2 : ({ a with fh := h } : State).fh = h := rfl
  have hupd2 : ({ a with fh := h } : State).upd = s.upd := hupd
  have htime2 : ({ a with fh := h } : State).g FH_FO_TIME.TIME = min us 65535 := htime
  have hcnt2 : ({ a with fh := h } : State).rd FH_FO_CNT.off = s.rd FH_FO_CNT.off := hcnt
  generalize ({ a with fh := h } : State) = b at *
  have hc := b.count_raise (off := FH_FO_CNT.off) (ev := evFh 3) (cls := clEvent) (by rw [hcnt2]; exact hn) (by decide) (by decide) (by decide)
  generalize (b.count FH_FO_CNT.off).raise (evFh 3) clEvent = c at *
  refine ⟨⟨hk2.toEff.trans (hc.eff.mono (by simp)), (State.pending_of_bare hc.bare).trans hk2.pending⟩, ?_, ?_,
    (hc.eff.g (by decide) (by decide)).trans htime2, by rw [hc.cnt, hcnt2], hc.pend⟩
  · exact (State.upd_of_bare hc.bare).trans hupd2
  · exact (State.fh_of_bare hc.bare).trans hfh2

theorem exec_fhRelease (m : Master) (s : State) :
    exec (.fhRelease m) s = .next (s.finish (s.regCmd m FH_CMD.off 4 (cmdWord FH_CMD.OP 1))) := by rfl

theorem supUnit_lt {mid u : Nat} (h : supUnit mid = some u) : u < 2 := by
  unfold supUnit at h
  split at h
  · cases h
    decide
  · split at h
    · cases h
      decide
    · cases h

theorem Powered.upd {s t : State} (h : Powered s t) : t.upd = s.upd := (congrArg State.upd h.rest :)

/-- The end of a fail-over whose node is in no update. -/
theorem State.foDone_leaves (s : State) {u : Nat} (hu : u < 2) (hidle : s.ust = usIdle) (hrec : s.upd.rec_ ≠ 1)
    (hn : (s.rd FH_FO_CNT.off).toNat + 1 < 0xFFFFFFFF) {at_ : Int} (htrig : s.fh.trig = some at_) :
    Chain s (s.foDone u) ([FH_STAT.off, FH_FO_TIME.off, FH_FO_CNT.off] ++ powerRegs) ∧ (s.foDone u).upd = s.upd ∧ (s.foDone u).active = u ∧
      (s.foDone u).unit u = fhActive ∧ (s.foDone u).unit (1 - u) = s.unit (1 - u) ∧ (s.foDone u).flag FH_STAT.SAFE = false ∧
      (s.foDone u).g FH_FO_TIME.TIME = min ((s.absNs - at_) / 1000).toNat 65535 ∧
      ((s.foDone u).rd FH_FO_CNT.off).toNat = (s.rd FH_FO_CNT.off).toNat + 1 ∧ (s.foDone u).evPend (evFh 3) = true ∧
      (s.foDone u).fh = { s.fh with
        released := true, trig := none, resumed := none, wdogAt := s.absNs,
        rearm := if s.flag FH_CTRL.REARM then some (1 - u, s.absNs + 100000000) else none } := by
  rw [State.foDone_eq, htrig, Option.getD_some]
  obtain ⟨hr, hact, hunit, hother, hsafe⟩ := s.foActive_leaves hu
  generalize s.foActive u = a at *
  have hcnt : a.rd FH_FO_CNT.off = s.rd FH_FO_CNT.off := hr.toEff.word (by decide) (by decide)
  have hre : a.flag FH_CTRL.REARM = s.flag FH_CTRL.REARM := hr.toEff.flag (by decide) (by decide)
  obtain ⟨hk, hupd, hfh, htime, hcount, hev⟩ := a.foNoted_leaves u ((s.absNs - at_) / 1000).toNat (by rw [hcnt]; exact hn)
  generalize a.foNoted u ((s.absNs - at_) / 1000).toNat = b at *
  have hust : b.ust = usIdle := ((hk.toEff.g (f := UPD_STAT.STATE) (by decide) (by decide)).trans (hr.toEff.g (by decide) (by decide))).trans hidle
  have hrec' : b.upd.rec_ ≠ 1 := by rw [hupd, hr.upd]; exact hrec
  rw [State.foUpdate_idle hust hrec']
  have hp := Powered.powerEval b
  have hstat : b.powerEval.rd FH_STAT.off = a.rd FH_STAT.off :=
    (hp.rd _ (fh_not_power (by decide))).trans (hk.toEff.word (by decide) (by decide))
  have hpow : b.powerEval.fh = b.fh := b.powerEval_fh
  have hpupd : b.powerEval.upd = b.upd := hp.upd
  have hpe := hp.eff
  have hpp := hp.pending
  have hpt : b.powerEval.g FH_FO_TIME.TIME = b.g FH_FO_TIME.TIME := hpe.g (fh_not_power (by decide)) (by decide)
  have hpc : b.powerEval.rd FH_FO_CNT.off = b.rd FH_FO_CNT.off := hpe.word (fh_not_power (by decide)) (by decide)
  have hpv := hpe.pend (evFh 3) (by decide) hev
  generalize b.powerEval = t at *
  have hsub : ∀ k ∈ powerRegs, k ∈ [FH_STAT.off, FH_FO_TIME.off, FH_FO_CNT.off] ++ powerRegs := fun k h => List.mem_append_right _ h
  have hchain : Chain s t ([FH_STAT.off, FH_FO_TIME.off, FH_FO_CNT.off] ++ powerRegs) :=
    ((hr.toChain.mono fun k h => List.mem_append_left _ (by simp at h; simp [h])).trans
      (hk.mono fun k h => List.mem_append_left _ (List.mem_cons_of_mem _ h))).trans ⟨hpe.mono hsub, hpp⟩
  have hg : ∀ f : FRef, f.off = FH_STAT.off → t.g f = a.g f := fun f hf => by rw [State.g, State.g, hf, hstat]
  refine ⟨hchain, (hpupd.trans hupd).trans hr.upd, (hg _ rfl).trans hact, (unit_of_rd hstat u).trans hunit, (unit_of_rd hstat (1 - u)).trans hother,
    ?_, hpt.trans htime, by rw [hpc, hcount, hcnt], hpv, ?_⟩
  · rw [State.flag, hg _ rfl]
    exact hsafe
  · rw [hpow, hfh, hr.fh, hr.absNs, hre]

theorem State.evPend_of_regs {s t : State} (h : t.regs = s.regs) (e : Nat) : t.evPend e = s.evPend e := by
  rw [State.evPend, State.evPend, State.rd_of_regs h]

theorem State.answer_toldOK (s : State) (m : Master) : (s.answer m stOK []).toldOK m := rfl

theorem fhRelease_ends {s : State} {m : Master} {u : Nat} {at_ : Int} (hserves : s.serves m FH_CMD.off 2) (hsup : supUnit m.mid.val = some u)
    (hu : s.unit u = fhRestore) (ho : s.unit (1 - u) = fhFailed) (hres : s.fh.resumed = some u) (htrig : s.fh.trig = some at_)
    (hstuck : s.fh.stuck = false) (hidle : s.ust = usIdle) (hrec : s.upd.rec_ ≠ 1) (hn : (s.rd FH_FO_CNT.off).toNat + 1 < 0xFFFFFFFF) :
    ∃ t, exec (.fhRelease m) s = .next t ∧ t.toldOK m ∧ t.active = u ∧ t.unit u = fhActive ∧ t.unit (1 - u) = fhFailed ∧
      t.flag FH_STAT.SAFE = false ∧ t.g FH_FO_TIME.TIME = min ((s.absNs - at_) / 1000).toNat 65535 ∧
      (t.rd FH_FO_CNT.off).toNat = (s.rd FH_FO_CNT.off).toNat + 1 ∧ t.evPend (evFh 3) = true ∧
      t.fh = { s.fh with
        released := true, trig := none, resumed := none, wdogAt := s.absNs,
        rearm := if s.flag FH_CTRL.REARM then some (1 - u, s.absNs + 100000000) else none } ∧
      s.keepsRegs t ([FH_STAT.off, FH_FO_TIME.off, FH_FO_CNT.off] ++ powerRegs) := by
  have hx : s.fhRelease m = s.foDone u := by
    rw [State.fhRelease, if_pos (by rw [htrig]; rfl), hsup]
    dsimp only
    exact if_pos ⟨hu, hres, by rw [hstuck]; rfl⟩
  obtain ⟨hk, hupd, hact, hunit, hother, hsafe, htime, hcnt, hev, hfh⟩ := s.foDone_leaves (supUnit_lt hsup) hidle hrec hn htrig
  have hcmd : s.fhReleaseCmd m = s.foDone u := by
    rw [State.fhReleaseCmd, hx]
    dsimp only
    rw [hupd]
    exact if_neg (by simp)
  have hwrite : s.blkTop (s.regWr m FH_CMD.off (cmdWord FH_CMD.OP 1)) = (stOK, s.foDone u) := by rw [s.blkTop_release m, hcmd]
  rw [exec_fhRelease]
  generalize s.foDone u = a at *
  obtain ⟨t, ht⟩ : ∃ t, t = a.answer m stOK [] := ⟨_, rfl⟩
  have hregs : t.regs = a.regs := ht ▸ a.answer_regs m stOK []
  have htfh : t.fh = a.fh := ht ▸ a.answer_fh m stOK []
  have hev' : t.evPend (evFh 3) = true := (State.evPend_of_regs hregs _).trans hev
  have htold : t.toldOK m := ht ▸ a.answer_toldOK m
  refine ⟨t, ?_, htold, (State.g_of_regs hregs _).trans hact, (State.unit_of_regs hregs u).trans hunit,
    (State.unit_of_regs hregs (1 - u)).trans (hother.trans ho), (State.flag_of_regs hregs _).trans hsafe, (State.g_of_regs hregs _).trans htime,
    by rw [State.rd_of_regs hregs, hcnt], hev', htfh.trans hfh, fun k hl h1 h2 => (State.rd_of_regs hregs k).trans (hk.rd k hl h1 h2)⟩
  rw [ht]
  exact congrArg _ (State.serves_finish hserves fhCmd_open hwrite (hk.resetReq.trans (State.serves_noReset hserves)) hk.pending)

/-! ### FAILOVER_DEADLINE -/

theorem exec_failoverDeadline (s : State) : exec .failoverDeadline s = .next (s.finish (failoverDeadline s)) := by rfl

theorem failoverDeadline_passes {s : State} {at_ : Int} (hs : s.resetReq = none) (htrig : s.fh.trig = some at_) (hstuck : s.fh.stuck = false)
    (hdue : 1000000 * (max 1 (s.g FH_CTRL.RESUME) : Nat) ≤ s.absNs - at_) :
    ∃ t, exec .failoverDeadline s = .next t ∧ t.fh = { s.fh with stuck := true } ∧ t.evPend (evFh 6) = true ∧
      clSevere ≤ t.evKept (evFh 6) ∧ s.keepsRegs t [] := by
  have hx : failoverDeadline s = (s.hm (fun h => { h with stuck := true })).raise (evFh 6) clSevere := by
    rw [failoverDeadline, htrig]
    exact if_pos ⟨by rw [hstuck]; rfl, hdue⟩
  have hk : Chain s (s.hm (fun h => { h with stuck := true })) [] := Chain.of_regs _
  have hfh : (s.hm (fun h => { h with stuck := true })).fh = { s.fh with stuck := true } := rfl
  rw [exec_failoverDeadline, hx]
  generalize s.hm (fun h => { h with stuck := true }) = a at *
  have hr := hk.trans (Chain.raise a (ev := evFh 6) (cls := clSevere) (by decide) (by decide) [])
  have hfh2 := (State.fh_of_bare (Quiet.raise a (evFh 6) (cls := clSevere) (by decide)).bare).trans hfh
  have hpend := a.raise_pend (ev := evFh 6) clSevere (by decide)
  have hkept := a.raise_kept (ev := evFh 6) clSevere (by decide)
  generalize a.raise (evFh 6) clSevere = t at *
  exact ⟨t, congrArg _ (State.finish_eff hr.toEff hs hr.pending), hfh2, hpend, hkept, hr.rd⟩

/-! ### PROOF_WAKE_DONE -/

theorem exec_proofWakeDone (k : Option (Fin 6)) (w : Nat) (s : State) : exec (.proofWakeDone k w) s = .next (s.finish (proofWakeDone k w s)) := by rfl

/-- A count of several that stays below the saturation. -/
theorem State.countBy_eq (s : State) (off w : Nat) (h : (s.rd off).toNat + w < 0xFFFFFFFF) :
    s.countBy off w = s ∧ w = 0 ∨ s.countBy off w = s.wr off (BitVec.ofNat 32 ((s.rd off).toNat + w)) := by
  unfold State.countBy
  dsimp only
  by_cases hw : w = 0
  · exact .inl ⟨if_pos hw, hw⟩
  · exact .inr ((if_neg hw).trans (if_pos h))

theorem State.countBy_leaves (s : State) {off w : Nat} (h : (s.rd off).toNat + w < 0xFFFFFFFF) {l : List Nat} (hk : isPendKey off = false) (hl : off ∈ l) :
    Chain s (s.countBy off w) l ∧ ((s.countBy off w).rd off).toNat = (s.rd off).toNat + w ∧ (s.countBy off w).fh = s.fh ∧
      (s.countBy off w).clep = s.clep := by
  obtain ⟨hc, rfl⟩ | hc := s.countBy_eq off w h
  · rw [hc]
    exact ⟨Chain.refl s l, rfl, rfl, rfl⟩
  · rw [hc]
    refine ⟨⟨Eff.wr s _ hk hl, rfl⟩, ?_, rfl, rfl⟩
    rw [s.rd_wr_same, BitVec.toNat_ofNat, Nat.mod_eq_of_lt (by omega)]

/-- The result of a proof-wake shown (R303). -/
def State.proofShown (s : State) (pass : Bool) (step : Nat) : State :=
  ((s.pb FH_PROOF_STAT.DONE true).pb FH_PROOF_STAT.PASS pass).p FH_PROOF_STAT.STEP step

theorem State.proofShown_leaves (s : State) (pass : Bool) {step : Nat} (hstep : step < 8) :
    Chain s (s.proofShown pass step) [FH_PROOF_STAT.off] ∧ (s.proofShown pass step).fh = s.fh ∧ (s.proofShown pass step).clep = s.clep ∧
      (s.proofShown pass step).flag FH_PROOF_STAT.DONE = true ∧ (s.proofShown pass step).flag FH_PROOF_STAT.PASS = pass ∧
      (s.proofShown pass step).g FH_PROOF_STAT.STEP = step := by
  unfold State.proofShown
  have hk := Chain.p s FH_PROOF_STAT.DONE (b2n true) (l := [FH_PROOF_STAT.off]) (by decide) List.mem_cons_self
  have hfh := s.p_fh FH_PROOF_STAT.DONE (b2n true)
  have hcl := s.p_clep FH_PROOF_STAT.DONE (b2n true)
  have hd : (s.p FH_PROOF_STAT.DONE (b2n true)).flag FH_PROOF_STAT.DONE = true := s.flag_pb_self (f := FH_PROOF_STAT.DONE) true (by decide) rfl
  rw [State.pb, State.pb]
  generalize s.p FH_PROOF_STAT.DONE (b2n true) = a at *
  have hk2 := hk.trans (Chain.p a FH_PROOF_STAT.PASS (b2n pass) (by decide) List.mem_cons_self)
  have hfh2 := (a.p_fh FH_PROOF_STAT.PASS (b2n pass)).trans hfh
  have hcl2 := (a.p_clep FH_PROOF_STAT.PASS (b2n pass)).trans hcl
  have hd2 := (a.flag_p_sep (f := FH_PROOF_STAT.PASS) (g := FH_PROOF_STAT.DONE) (b2n pass) (by decide)).trans hd
  have hp2 : (a.p FH_PROOF_STAT.PASS (b2n pass)).flag FH_PROOF_STAT.PASS = pass := a.flag_pb_self (f := FH_PROOF_STAT.PASS) pass (by decide) rfl
  generalize a.p FH_PROOF_STAT.PASS (b2n pass) = b at *
  exact ⟨hk2.trans (Chain.p b FH_PROOF_STAT.STEP step (by decide) List.mem_cons_self), (b.p_fh _ _).trans hfh2, (b.p_clep _ _).trans hcl2,
    (b.flag_p_sep (f := FH_PROOF_STAT.STEP) (g := FH_PROOF_STAT.DONE) step (by decide)).trans hd2,
    (b.flag_p_sep (f := FH_PROOF_STAT.STEP) (g := FH_PROOF_STAT.PASS) step (by decide)).trans hp2,
    b.g_p_fit (f := FH_PROOF_STAT.STEP) hstep (by decide)⟩

/-- The registers that the end of a proof-wake may change. -/
def proofRegs : List Nat := [FH_STAT.off, FH_PROOF_STAT.off, FH_ECC_CORR.off, FH_PROOF_FAIL.off] ++ powerRegs

theorem power_mem_proofRegs : ∀ k ∈ powerRegs, k ∈ proofRegs := fun _ h => List.mem_append_right _ h

theorem proofWakeDone_passes {s : State} {u w : Nat} (hs : s.resetReq = none) (hp : s.fh.proof = some u) (hd : s.domOn (u + 1) = true)
    (hw : (s.rd FH_ECC_CORR.off).toNat + w < 0xFFFFFFFF) :
    ∃ t, exec (.proofWakeDone none w) s = .next t ∧ t.unit u = fhStandby ∧ t.fh = { s.fh with proof := none, passAt := some s.absNs } ∧
      t.flag FH_PROOF_STAT.DONE = true ∧ t.flag FH_PROOF_STAT.PASS = true ∧ t.g FH_PROOF_STAT.STEP = 0 ∧
      (t.rd FH_ECC_CORR.off).toNat = (s.rd FH_ECC_CORR.off).toNat + w := by
  have hx : proofWakeDone none w s = ((((s.countBy FH_ECC_CORR.off w).proofShown true 0).setUnit u fhStandby).hm
      (fun h => { h with proof := none, passAt := some ((s.countBy FH_ECC_CORR.off w).proofShown true 0).absNs })).powerEval := by
    rw [proofWakeDone, hp]
    dsimp only
    rw [if_neg (by rw [hd]; simp)]
    rfl
  obtain ⟨hk, hcnt, hfh, hcl⟩ := s.countBy_leaves (off := FH_ECC_CORR.off) hw (l := proofRegs) (by decide) (by decide)
  rw [exec_proofWakeDone, hx]
  generalize s.countBy FH_ECC_CORR.off w = a at *
  obtain ⟨hk2, hfh2, hcl2, hdone, hpass, hstep⟩ := a.proofShown_leaves true (step := 0) (by decide)
  have hcnt2 : (a.proofShown true 0).rd FH_ECC_CORR.off = a.rd FH_ECC_CORR.off := hk2.toEff.word (by decide) (by decide)
  generalize a.proofShown true 0 = b at *
  have hk3 := b.setUnit_chain u fhStandby (l := [FH_STAT.off]) List.mem_cons_self
  have hunit := b.setUnit_unit u (v := fhStandby) (by decide)
  have hfh3 := b.setUnit_fh u fhStandby
  generalize b.setUnit u fhStandby = c at *
  have habs : b.absNs = s.absNs := by rw [State.absNs, State.absNs, hcl2, hcl]
  rw [habs]
  have hk4 : Chain c (c.hm (fun h => { h with proof := none, passAt := some s.absNs })) [] := Chain.of_regs _
  have hfh4 : (c.hm (fun h => { h with proof := none, passAt := some s.absNs })).fh = { s.fh with proof := none, passAt := some s.absNs } := by
    rw [State.hm, hfh3, hfh2, hfh]
  have hunit4 : (c.hm (fun h => { h with proof := none, passAt := some s.absNs })).unit u = fhStandby := hunit
  generalize c.hm (fun h => { h with proof := none, passAt := some s.absNs }) = d at *
  have hfin := Chain.powerEval d
  have hpu := (d.powerEval_unit u).trans hunit4
  have hpf := d.powerEval_fh.trans hfh4
  generalize d.powerEval = t at *
  have hrest : Chain b t ([FH_STAT.off] ++ powerRegs) :=
    ((hk3.mono fun _ h => List.mem_append_left _ h).trans (hk4.mono fun _ h => absurd h List.not_mem_nil)).trans
      (hfin.mono fun _ h => List.mem_append_right _ h)
  have hnot : ∀ k, 0x240005 ≤ k → k ∉ [FH_STAT.off] ++ powerRegs := fun k hk h => by
    rcases List.mem_append.1 h with h | h
    · simp only [List.mem_singleton, FH_STAT.off] at h
      omega
    · exact fh_not_power (by omega) h
  have hall : Chain s t proofRegs :=
    (hk.trans (hk2.mono (by decide))).trans (hrest.mono fun k h => by
      rcases List.mem_append.1 h with h | h
      · exact List.mem_append_left _ (by simp at h; simp [h])
      · exact power_mem_proofRegs k h)
  refine ⟨t, congrArg _ (State.finish_eff hall.toEff hs hall.pending), hpu, hpf, (hrest.toEff.flag (hnot _ (by decide)) (by decide)).trans hdone,
    (hrest.toEff.flag (hnot _ (by decide)) (by decide)).trans hpass, (hrest.toEff.g (hnot _ (by decide)) (by decide)).trans hstep, ?_⟩
  rw [hrest.toEff.word (hnot _ (by decide)) (by decide), hcnt2, hcnt]

theorem proofWakeDone_fails {s : State} {u w : Nat} (k : Fin 6) (hs : s.resetReq = none) (hp : s.fh.proof = some u) (hd : s.domOn (u + 1) = true)
    (hn : (s.rd FH_PROOF_FAIL.off).toNat + 1 < 0xFFFFFFFF) (hw : (s.rd FH_ECC_CORR.off).toNat + w < 0xFFFFFFFF) :
    ∃ t, exec (.proofWakeDone (some k) w) s = .next t ∧ t.unit u = fhFailed ∧ t.fh = { s.fh with proof := none } ∧
      t.flag FH_PROOF_STAT.DONE = true ∧ t.flag FH_PROOF_STAT.PASS = false ∧ t.g FH_PROOF_STAT.STEP = k.val + 1 ∧
      (t.rd FH_PROOF_FAIL.off).toNat = (s.rd FH_PROOF_FAIL.off).toNat + 1 ∧ t.evPend (evFh 4) = true ∧ clDegraded ≤ t.evKept (evFh 4) := by
  have hx : proofWakeDone (some k) w s = ((((((s.countBy FH_ECC_CORR.off w).proofShown false (k.val + 1)).setUnit u fhFailed).hm
      (fun h => { h with proof := none })).count FH_PROOF_FAIL.off).raise (evFh 4) clDegraded).powerEval := by
    rw [proofWakeDone, hp]
    dsimp only
    rw [if_neg (by rw [hd]; simp)]
    rfl
  obtain ⟨hk, hcnt, hfh, hcl⟩ := s.countBy_leaves (off := FH_ECC_CORR.off) hw (l := [FH_ECC_CORR.off]) (by decide) (by decide)
  rw [exec_proofWakeDone, hx]
  generalize s.countBy FH_ECC_CORR.off w = a at *
  obtain ⟨hk2, hfh2, hcl2, hdone, hpass, hstep⟩ := a.proofShown_leaves false (step := k.val + 1) (by omega)
  generalize a.proofShown false (k.val + 1) = b at *
  have hk3 := b.setUnit_chain u fhFailed (l := [FH_STAT.off]) List.mem_cons_self
  have hunit := b.setUnit_unit u (v := fhFailed) (by decide)
  have hfh3 := b.setUnit_fh u fhFailed
  generalize b.setUnit u fhFailed = c at *
  have hk4 : Chain c (c.hm (fun h => { h with proof := none })) [] := Chain.of_regs _
  have hfh4 : (c.hm (fun h => { h with proof := none })).fh = { s.fh with proof := none } := by rw [State.hm, hfh3, hfh2, hfh]
  have hunit4 : (c.hm (fun h => { h with proof := none })).unit u = fhFailed := hunit
  generalize c.hm (fun h => { h with proof := none }) = d at *
  have hrest0 : Chain b d [FH_STAT.off] := hk3.trans (hk4.mono fun _ h => absurd h List.not_mem_nil)
  have hfail : d.rd FH_PROOF_FAIL.off = s.rd FH_PROOF_FAIL.off :=
    (hrest0.toEff.word (by decide) (by decide)).trans ((hk2.toEff.word (by decide) (by decide)).trans (hk.toEff.word (by decide) (by decide)))
  have hc := d.count_raise (off := FH_PROOF_FAIL.off) (ev := evFh 4) (cls := clDegraded) (by rw [hfail]; exact hn) (by decide) (by decide) (by decide)
  generalize (d.count FH_PROOF_FAIL.off).raise (evFh 4) clDegraded = e at *
  have hstat : e.rd FH_STAT.off = d.rd FH_STAT.off := hc.eff.word (by decide) (by decide)
  have hfin := Chain.powerEval e
  have hpu := (e.powerEval_unit u).trans ((unit_of_rd hstat u).trans hunit4)
  have hpf := e.powerEval_fh.trans ((State.fh_of_bare hc.bare).trans hfh4)
  generalize e.powerEval = t at *
  have hend : Chain b t ([FH_STAT.off, FH_PROOF_FAIL.off] ++ powerRegs) :=
    ((hrest0.mono (by simp)).trans ⟨hc.eff.mono (by simp), State.pending_of_bare hc.bare⟩).trans (hfin.mono fun _ h => List.mem_append_right _ h)
  have hshow : FH_PROOF_STAT.off ∉ [FH_STAT.off, FH_PROOF_FAIL.off] ++ powerRegs := fun h => by
    rcases List.mem_append.1 h with h | h
    · exact absurd h (by decide)
    · exact fh_not_power (by decide) h
  have hall : Chain s t proofRegs :=
    ((hk.mono (by decide)).trans (hk2.mono (by decide))).trans (hend.mono fun k h => by
      rcases List.mem_append.1 h with h | h
      · exact List.mem_append_left _ (by simp at h; rcases h with h | h <;> simp [h])
      · exact power_mem_proofRegs k h)
  refine ⟨t, congrArg _ (State.finish_eff hall.toEff hs hall.pending), hpu, hpf, (hend.toEff.flag hshow (by decide)).trans hdone,
    (hend.toEff.flag hshow (by decide)).trans hpass, (hend.toEff.g hshow (by decide)).trans hstep, ?_,
    hfin.pend _ (by decide) hc.pend, hc.kept.trans (hfin.kept _ (by decide) hc.pend)⟩
  rw [hfin.toEff.word (fh_not_power (by decide)) (by decide), hc.cnt, hfail]

end Sys2Proof.Machine
end

section
/-! PROOF of FailOverAndProofs (R294 to R296, R305): checkpoint copies, spent zone budgets, and the whole. -/

namespace Sys2Proof.Machine

/- One evaluation after another: each of them, left to itself, would hold a thread. -/
set_option Elab.async false

/-! ### Checkpoints -/

theorem exec_checkpointStart (s : State) : exec .checkpointStart s = .next (s.finish (checkpointStart s)) := by rfl

theorem exec_checkpointCommand (m : Master) (s : State) :
    exec (.checkpointCommand m) s = .next (s.finish (s.regCmd m FH_CMD.off 4 (cmdWord FH_CMD.OP 2))) := by rfl

theorem exec_checkpointComplete (s : State) : exec .checkpointComplete s = .next (s.finish (checkpointComplete s)) := by rfl

/-- The slot that the next copy takes (R295, R296). -/
def State.ckptSlot (s : State) : Nat :=
  match s.newestSlot with
  | some (k, _) => 1 - k
  | none => 0

/-- The copy of the present instant. -/
def State.ckptNow (s : State) : Ckpt :=
  ⟨(s.fh.ckSeq + 1) % 2 ^ 32, s.fns48, (s.rd RING_CYCLE.off).toNat, (s.rd CFG_IMAGE_ID.off).toNat, s.active,
    (List.range 8).map (fun r => s.rd (FH_CKPT_RGN.off r)), (List.range 1024).map (fun f => s.nextOf f), s.ckptData s.active⟩

/-- A copy begun, with its number, its slot and its data given. -/
def State.copyBegin (s : State) (seq slot : Nat) (c : Ckpt) : State :=
  (s.pb FH_CKPT_STAT.BUSY true).hm (fun h => { h with ckSeq := seq, copy := some (slot, c), slots := SMap.set (fun _ => none) h.slots slot none })

theorem State.ckptBegin_eq (s : State) : s.ckptBegin = s.copyBegin ((s.fh.ckSeq + 1) % 2 ^ 32) s.ckptSlot s.ckptNow := rfl

/-- What the begin of a copy leaves. -/
structure CopyBegun (s t : State) (seq slot : Nat) (c : Ckpt) : Prop extends FhRegs s t [FH_CKPT_STAT.off] where
  busy : t.flag FH_CKPT_STAT.BUSY = true
  seq : t.fh.ckSeq = seq
  copy : t.fh.copy = some (slot, c)
  slot : SMap.get (fun _ => none) t.fh.slots slot = none
  ckAt : t.fh.ckAt = s.fh.ckAt
  mem : t.fh.mem = s.fh.mem

theorem State.copyBegin_begun (s : State) (seq slot : Nat) (c : Ckpt) : CopyBegun s (s.copyBegin seq slot c) seq slot c := by
  unfold State.copyBegin
  have hk := FhRegs.pb s FH_CKPT_STAT.BUSY true (l := [FH_CKPT_STAT.off]) List.mem_cons_self
  have hbusy : (s.pb FH_CKPT_STAT.BUSY true).flag FH_CKPT_STAT.BUSY = true := s.flag_pb_self (f := FH_CKPT_STAT.BUSY) true (by decide) rfl
  have hfh : (s.pb FH_CKPT_STAT.BUSY true).fh = s.fh := s.p_fh FH_CKPT_STAT.BUSY (b2n true)
  generalize s.pb FH_CKPT_STAT.BUSY true = a at *
  exact ⟨hk.trans (FhRegs.hm a _ _), (a.hm_flag _ _).trans hbusy, rfl, rfl, Laws.get_set_same (d := fun _ => none) a.fh.slots slot none, (congrArg Fh.ckAt hfh :),
    (congrArg Fh.mem hfh :)⟩

theorem State.ckptDue_eq {s : State} (hrun : s.unitRuns s.active = true) (hon : s.domOn 8 = true) (hc : s.fh.copy = none) :
    s.ckptDue = s.copyBegin ((s.fh.ckSeq + 1) % 2 ^ 32) s.ckptSlot s.ckptNow := by
  rw [State.ckptDue, if_neg (by simp [hrun, hon]), if_neg (by simp [hc]), State.ckptBegin_eq]

theorem checkpointStart_begins {s : State} (hs : s.resetReq = none) (hrun : s.unitRuns s.active = true) (hon : s.domOn 8 = true)
    (hc : s.fh.copy = none) (hen : s.flag FH_CKPT_CFG.EN = true) (hat : s.fh.ckAt ≤ s.fns) {seq slot : Nat} {c : Ckpt}
    (hseq : (s.fh.ckSeq + 1) % 2 ^ 32 = seq) (hslot : s.ckptSlot = slot) (hnow : s.ckptNow = c) :
    ∃ t, exec .checkpointStart s = .next t ∧ t.flag FH_CKPT_STAT.BUSY = true ∧ t.fh.ckSeq = seq ∧ t.fh.copy = some (slot, c) ∧
      SMap.get (fun _ => none) t.fh.slots slot = none ∧ t.fh.ckAt = s.fns + 1000000 * (clampNat 5 1000 (s.g FH_CKPT_CFG.INTERVAL) : Nat) ∧
      t.fh.mem = s.fh.mem ∧ s.sameRegs t [FH_CKPT_STAT.off] := by
  have hx : checkpointStart s = (s.copyBegin seq slot c).hm
      (fun h => { h with ckAt := s.fns + 1000000 * (clampNat 5 1000 (s.g FH_CKPT_CFG.INTERVAL) : Nat) }) := by
    unfold checkpointStart
    dsimp only
    rw [if_pos ⟨hen, hat⟩, s.ckptDue_eq hrun hon hc, hseq, hslot, hnow]
  have hb := s.copyBegin_begun seq slot c
  rw [exec_checkpointStart, hx]
  generalize s.copyBegin seq slot c = a at *
  obtain ⟨i, hi⟩ : ∃ i : Int, s.fns + 1000000 * (clampNat 5 1000 (s.g FH_CKPT_CFG.INTERVAL) : Nat) = i := ⟨_, rfl⟩
  rw [hi]
  have hk := hb.toFhRegs.trans (FhRegs.hm a (fun h => { h with ckAt := i }) _)
  have hflag := a.hm_flag (fun h => { h with ckAt := i }) FH_CKPT_STAT.BUSY
  have hfh : (a.hm (fun h => { h with ckAt := i })).fh = { a.fh with ckAt := i } := rfl
  generalize a.hm (fun h => { h with ckAt := i }) = t at *
  exact ⟨t, congrArg _ (hk.finish hs), hflag.trans hb.busy, by rw [hfh, ← hb.seq], by rw [hfh, ← hb.copy], by rw [hfh]; exact hb.slot, by rw [hfh],
    by rw [hfh, ← hb.mem], hk.same⟩

theorem checkpointCommand_begins {s : State} {m : Master} (hrun : s.unitRuns s.active = true) (hon : s.domOn 8 = true)
    (hc : s.fh.copy = none) (hserves : s.serves m FH_CMD.off 2) {seq slot : Nat} {c : Ckpt}
    (hseq : (s.fh.ckSeq + 1) % 2 ^ 32 = seq) (hslot : s.ckptSlot = slot) (hnow : s.ckptNow = c) :
    ∃ t, exec (.checkpointCommand m) s = .next t ∧ t.toldOK m ∧ t.flag FH_CKPT_STAT.BUSY = true ∧ t.fh.ckSeq = seq ∧
      t.fh.copy = some (slot, c) ∧ SMap.get (fun _ => none) t.fh.slots slot = none ∧ t.fh.ckAt = s.fh.ckAt ∧ t.fh.mem = s.fh.mem ∧
      s.sameRegs t [FH_CKPT_STAT.off] := by
  have hwrite : s.blkTop (s.regWr m FH_CMD.off (cmdWord FH_CMD.OP 2)) = (stOK, s.copyBegin seq slot c) := by
    rw [s.blkTop_checkpoint m, s.ckptDue_eq hrun hon hc, hseq, hslot, hnow]
  have hb := s.copyBegin_begun seq slot c
  rw [exec_checkpointCommand]
  generalize s.copyBegin seq slot c = a at *
  obtain ⟨t, ht⟩ : ∃ t, t = a.answer m stOK [] := ⟨_, rfl⟩
  have hregs : t.regs = a.regs := ht ▸ a.answer_regs m stOK []
  have hfh : t.fh = a.fh := ht ▸ a.answer_fh m stOK []
  have htold : t.toldOK m := ht ▸ a.answer_toldOK m
  refine ⟨t, ?_, htold, (State.flag_of_regs hregs _).trans hb.busy, by rw [hfh, hb.seq], by rw [hfh, hb.copy], by rw [hfh, hb.slot],
    by rw [hfh, hb.ckAt], by rw [hfh, hb.mem], fun k hk => (State.rd_of_regs hregs k).trans (hb.same k hk)⟩
  rw [ht]
  exact congrArg _ (State.serves_finish hserves fhCmd_open hwrite (hb.calm.2.trans (State.serves_noReset hserves)) hb.calm.1)

/-! ### CHECKPOINT_COMPLETE -/

/-- The slot that a newest complete copy stands in is 0 or 1. -/
theorem State.newestSlot_lt {s : State} {e : Nat × Ckpt} (h : s.newestSlot = some e) : e.1 < 2 := by
  unfold State.newestSlot at h
  split at h
  · cases h
  · cases h
    exact Nat.zero_lt_two
  · cases h
    exact Nat.one_lt_two
  · split at h
    · cases h
      exact Nat.one_lt_two
    · cases h
      exact Nat.zero_lt_two

/-- Where a slot is complete there is a newest one. -/
theorem State.newestSlot_some {s : State} {k : Fin 2} {c : Ckpt} (h : SMap.get (fun _ => none) s.fh.slots k.val = some c) :
    ∃ e, s.newestSlot = some e := by
  refine Option.ne_none_iff_exists'.1 fun hn => ?_
  unfold State.newestSlot at hn
  split at hn
  · next h0 h1 =>
    obtain rfl | rfl := (by decide : ∀ k : Fin 2, k = 0 ∨ k = 1) k
    · exact absurd (h0.symm.trans h) (by simp)
    · exact absurd (h1.symm.trans h) (by simp)
  · cases hn
  · cases hn
  · split at hn <;> cases hn

theorem State.newestSlot_of_fh {s t : State} (h : t.fh = s.fh) : t.newestSlot = s.newestSlot := by rw [State.newestSlot, State.newestSlot, h]

/-- The newest complete slot shown (R296). -/
theorem State.showSlot_leaves {s : State} {e : Nat × Ckpt} (h : s.newestSlot = some e) :
    FhRegs s s.showSlot [FH_CKPT_STAT.off, FH_CKPT_SEQ.off] ∧ s.showSlot.fh = s.fh ∧
      s.showSlot.flag FH_CKPT_STAT.BUSY = s.flag FH_CKPT_STAT.BUSY ∧ s.showSlot.flag FH_CKPT_STAT.VALID = true ∧
      s.showSlot.g FH_CKPT_STAT.SLOT = e.1 ∧ s.showSlot.g FH_CKPT_SEQ.SEQ = e.2.seq % 2 ^ 32 := by
  have hlt := State.newestSlot_lt h
  rw [State.showSlot, h]
  dsimp only
  rw [State.pb]
  have hk := FhRegs.p s FH_CKPT_STAT.SLOT e.1 (l := [FH_CKPT_STAT.off, FH_CKPT_SEQ.off]) List.mem_cons_self
  have hfh := s.p_fh FH_CKPT_STAT.SLOT e.1
  have hbusy := s.flag_p_sep (f := FH_CKPT_STAT.SLOT) (g := FH_CKPT_STAT.BUSY) e.1 (by decide)
  have hslot := s.g_p_fit (f := FH_CKPT_STAT.SLOT) hlt (by decide)
  generalize s.p FH_CKPT_STAT.SLOT e.1 = a at *
  have hk2 := hk.trans (FhRegs.p a FH_CKPT_STAT.VALID (b2n true) List.mem_cons_self)
  have hfh2 := (a.p_fh FH_CKPT_STAT.VALID (b2n true)).trans hfh
  have hbusy2 := (a.flag_p_sep (f := FH_CKPT_STAT.VALID) (g := FH_CKPT_STAT.BUSY) (b2n true) (by decide)).trans hbusy
  have hslot2 := (a.g_p_sep (f := FH_CKPT_STAT.VALID) (g := FH_CKPT_STAT.SLOT) (b2n true) (by decide)).trans hslot
  have hvalid : (a.p FH_CKPT_STAT.VALID (b2n true)).flag FH_CKPT_STAT.VALID = true :=
    a.flag_pb_self (f := FH_CKPT_STAT.VALID) true (by decide) rfl
  generalize a.p FH_CKPT_STAT.VALID (b2n true) = b at *
  exact ⟨hk2.trans (FhRegs.p b FH_CKPT_SEQ.SEQ e.2.seq (List.mem_cons_of_mem _ List.mem_cons_self)), (b.p_fh _ _).trans hfh2,
    (b.flag_p_sep (f := FH_CKPT_SEQ.SEQ) (g := FH_CKPT_STAT.BUSY) _ (by decide)).trans hbusy2,
    (b.flag_p_sep (f := FH_CKPT_SEQ.SEQ) (g := FH_CKPT_STAT.VALID) _ (by decide)).trans hvalid,
    (b.g_p_sep (f := FH_CKPT_SEQ.SEQ) (g := FH_CKPT_STAT.SLOT) _ (by decide)).trans hslot2, b.g_p_self (f := FH_CKPT_SEQ.SEQ) _ (by decide)⟩

theorem checkpointComplete_shows {slot : Fin 2} {c : Ckpt} {s : State} (hs : s.resetReq = none) (hc : s.fh.copy = some (slot.val, c)) :
    ∃ t, exec .checkpointComplete s = .next t ∧ t.fh = { s.fh with copy := none, slots := SMap.set (fun _ => none) s.fh.slots slot.val (some c) } ∧
      t.flag FH_CKPT_STAT.BUSY = false ∧ t.flag FH_CKPT_STAT.VALID = true ∧
      t.newestSlot.any (fun e => t.g FH_CKPT_STAT.SLOT == e.1 && t.g FH_CKPT_SEQ.SEQ == e.2.seq % 2 ^ 32) = true ∧
      s.sameRegs t [FH_CKPT_STAT.off, FH_CKPT_SEQ.off] := by
  have hx : checkpointComplete s = ((s.pb FH_CKPT_STAT.BUSY false).hm
      (fun h => { h with copy := none, slots := SMap.set (fun _ => none) h.slots slot.val (some c) })).showSlot := by
    rw [checkpointComplete, hc]
  rw [exec_checkpointComplete, hx]
  have hk := FhRegs.pb s FH_CKPT_STAT.BUSY false (l := [FH_CKPT_STAT.off, FH_CKPT_SEQ.off]) List.mem_cons_self
  have hbusy : (s.pb FH_CKPT_STAT.BUSY false).flag FH_CKPT_STAT.BUSY = false := s.flag_pb_self (f := FH_CKPT_STAT.BUSY) false (by decide) rfl
  have hfh : (s.pb FH_CKPT_STAT.BUSY false).fh = s.fh := s.p_fh FH_CKPT_STAT.BUSY (b2n false)
  generalize s.pb FH_CKPT_STAT.BUSY false = a at *
  have hk2 := hk.trans (FhRegs.hm a (fun h => { h with copy := none, slots := SMap.set (fun _ => none) h.slots slot.val (some c) }) _)
  have hbusy2 : (a.hm (fun h => { h with copy := none, slots := SMap.set (fun _ => none) h.slots slot.val (some c) })).flag FH_CKPT_STAT.BUSY = false :=
    (a.hm_flag _ _).trans hbusy
  have hfh2 : (a.hm (fun h => { h with copy := none, slots := SMap.set (fun _ => none) h.slots slot.val (some c) })).fh =
      { s.fh with copy := none, slots := SMap.set (fun _ => none) s.fh.slots slot.val (some c) } := by rw [State.hm, hfh]
  have hget : SMap.get (fun _ => none) (a.hm (fun h => { h with copy := none, slots := SMap.set (fun _ => none) h.slots slot.val (some c) })).fh.slots
      slot.val = some c := Laws.get_set_same (d := fun _ => none) a.fh.slots slot.val (some c)
  generalize a.hm (fun h => { h with copy := none, slots := SMap.set (fun _ => none) h.slots slot.val (some c) }) = b at *
  obtain ⟨e, he⟩ := State.newestSlot_some hget
  obtain ⟨hk3, hfh3, hb3, hv3, hs3, hq3⟩ := State.showSlot_leaves he
  generalize b.showSlot = t at *
  refine ⟨t, congrArg _ ((hk2.trans hk3).finish hs), hfh3.trans hfh2, hb3.trans hbusy2, hv3, ?_, (hk2.trans hk3).same⟩
  rw [State.newestSlot_of_fh hfh3, he, Option.any_some, hs3, hq3]
  simp

/-! ### ZONE_BUDGET_EXHAUST -/

theorem exec_zoneBudgetExhaust (s : State) : exec .zoneBudgetExhaust s = .next (s.finish (zoneBudgetExhaust s)) := by rfl

theorem zoneRuns_prog {s : State} {n : Nat} (h : s.zoneRuns = some n) : s.flag FH_ZP_RUN.VALID = true ∧ s.g FH_ZP_RUN.PROG = n := by
  unfold State.zoneRuns at h
  split at h
  · next hc =>
    simp only [Bool.and_eq_true] at hc
    exact ⟨hc.1.1, Option.some.inj h⟩
  · cases h

theorem zpStat_fixed {n : Nat} (hn : n < 16) : fixedKey (FH_ZP_STAT.off n) = true := by
  have h : ∀ n : Fin 16, fixedKey (FH_ZP_STAT.off n.val) = true := by decide +kernel
  exact h ⟨n, hn⟩

/-- A zone program's overrun noted (R305): in its own set, in its status and in the count. -/
def State.zoneNoted (s : State) (n run : Nat) : State :=
  ((((s.hm (fun h => { h with zoneOver := n :: h.zoneOver })).pb (FH_ZP_STAT.OVR n) true).p (FH_ZP_STAT.RUNOVR n) run).count FH_OVERRUN_CNT.off)

/-- Its suspension where the limit is reached. -/
def State.zoneSusp (s : State) (n run lim : Nat) : State :=
  if lim ≠ 0 ∧ lim ≤ run ∧ !s.flag (FH_ZP_STAT.SUSP n) then (s.pb (FH_ZP_STAT.SUSP n) true).raise (evFh 5) clNote else s

theorem State.zoneNoted_leaves (s : State) {n run : Nat} (hn : n < 16) (hrun : run < 16) (hcnt : (s.rd FH_OVERRUN_CNT.off).toNat + 1 < 0xFFFFFFFF) :
    Chain s (s.zoneNoted n run) [FH_ZP_STAT.off n, FH_OVERRUN_CNT.off] ∧
      (s.zoneNoted n run).fh = { s.fh with zoneOver := n :: s.fh.zoneOver } ∧ (s.zoneNoted n run).flag (FH_ZP_STAT.OVR n) = true ∧
      (s.zoneNoted n run).g (FH_ZP_STAT.RUNOVR n) = run ∧ (s.zoneNoted n run).flag (FH_ZP_STAT.SUSP n) = s.flag (FH_ZP_STAT.SUSP n) ∧
      ((s.zoneNoted n run).rd FH_OVERRUN_CNT.off).toNat = (s.rd FH_OVERRUN_CNT.off).toNat + 1 := by
  have hpk : isPendKey (FH_ZP_STAT.off n) = false := (fixedKey_iff.1 (zpStat_fixed hn)).1
  have hne : FH_OVERRUN_CNT.off ≠ FH_ZP_STAT.off n := by simp only [FH_OVERRUN_CNT.off, FH_ZP_STAT.off]; omega
  unfold State.zoneNoted
  rw [State.pb]
  have hk : Chain s (s.hm (fun h => { h with zoneOver := n :: h.zoneOver })) [FH_ZP_STAT.off n, FH_OVERRUN_CNT.off] := Chain.of_regs _
  have hfh : (s.hm (fun h => { h with zoneOver := n :: h.zoneOver })).fh = { s.fh with zoneOver := n :: s.fh.zoneOver } := rfl
  have hregs : (s.hm (fun h => { h with zoneOver := n :: h.zoneOver })).regs = s.regs := rfl
  generalize s.hm (fun h => { h with zoneOver := n :: h.zoneOver }) = a at *
  have hk2 := hk.trans (Chain.p a (FH_ZP_STAT.OVR n) (b2n true) hpk List.mem_cons_self)
  have hfh2 := (a.p_fh (FH_ZP_STAT.OVR n) (b2n true)).trans hfh
  have hovr : (a.p (FH_ZP_STAT.OVR n) (b2n true)).flag (FH_ZP_STAT.OVR n) = true := a.flag_pb_self (f := FH_ZP_STAT.OVR n) true (by simp) rfl
  have hsusp := (a.flag_p_sep (f := FH_ZP_STAT.OVR n) (g := FH_ZP_STAT.SUSP n) (b2n true) (by simp [FRef.sep])).trans (State.flag_of_regs hregs _)
  have hc : (a.p (FH_ZP_STAT.OVR n) (b2n true)).rd FH_OVERRUN_CNT.off = s.rd FH_OVERRUN_CNT.off :=
    (a.rd_p_ne (FH_ZP_STAT.OVR n) _ hne).trans (State.rd_of_regs hregs _)
  generalize a.p (FH_ZP_STAT.OVR n) (b2n true) = b at *
  have hk3 := hk2.trans (Chain.p b (FH_ZP_STAT.RUNOVR n) run hpk List.mem_cons_self)
  have hfh3 := (b.p_fh (FH_ZP_STAT.RUNOVR n) run).trans hfh2
  have hovr3 := (b.flag_p_sep (f := FH_ZP_STAT.RUNOVR n) (g := FH_ZP_STAT.OVR n) run (by simp [FRef.sep])).trans hovr
  have hsusp3 := (b.flag_p_sep (f := FH_ZP_STAT.RUNOVR n) (g := FH_ZP_STAT.SUSP n) run (by simp [FRef.sep])).trans hsusp
  have hrun3 : (b.p (FH_ZP_STAT.RUNOVR n) run).g (FH_ZP_STAT.RUNOVR n) = run := b.g_p_fit (f := FH_ZP_STAT.RUNOVR n) hrun (by simp)
  have hc3 : (b.p (FH_ZP_STAT.RUNOVR n) run).rd FH_OVERRUN_CNT.off = s.rd FH_OVERRUN_CNT.off := (b.rd_p_ne (FH_ZP_STAT.RUNOVR n) _ hne).trans hc
  generalize b.p (FH_ZP_STAT.RUNOVR n) run = d at *
  have hlt : (d.rd FH_OVERRUN_CNT.off).toNat + 1 < 0xFFFFFFFF := by rw [hc3]; exact hcnt
  have hq := Quiet.count d FH_OVERRUN_CNT.off
  have hcount := d.count_toNat FH_OVERRUN_CNT.off hlt
  have heff : Eff d (d.count FH_OVERRUN_CNT.off) [FH_ZP_STAT.off n, FH_OVERRUN_CNT.off] :=
    Eff.count d hlt (by decide) (List.mem_cons_of_mem _ List.mem_cons_self)
  have hself : (d.count FH_OVERRUN_CNT.off).rd (FH_ZP_STAT.off n) = d.rd (FH_ZP_STAT.off n) := by
    rw [d.count_eq _ hlt, d.rd_wr_ne _ hne.symm]
  generalize d.count FH_OVERRUN_CNT.off = t at *
  have hg : ∀ f : FRef, f.off = FH_ZP_STAT.off n → t.g f = d.g f := fun f hf => by rw [State.g, State.g, hf, hself]
  exact ⟨hk3.trans ⟨heff, State.pending_of_bare hq.bare⟩, (State.fh_of_bare hq.bare).trans hfh3,
    (by rw [State.flag, hg _ rfl]; exact hovr3), (hg _ rfl).trans hrun3, (by rw [State.flag, hg _ rfl]; exact hsusp3), by rw [hcount, hc3]⟩

theorem State.zoneSusp_leaves (s : State) {n : Nat} (run lim : Nat) (hn : n < 16) :
    Chain s (s.zoneSusp n run lim) [FH_ZP_STAT.off n] ∧ (s.zoneSusp n run lim).fh = s.fh ∧
      (s.zoneSusp n run lim).flag (FH_ZP_STAT.OVR n) = s.flag (FH_ZP_STAT.OVR n) ∧
      (s.zoneSusp n run lim).g (FH_ZP_STAT.RUNOVR n) = s.g (FH_ZP_STAT.RUNOVR n) ∧
      (lim ≠ 0 → lim ≤ run → (s.zoneSusp n run lim).flag (FH_ZP_STAT.SUSP n) = true ∧
        (s.flag (FH_ZP_STAT.SUSP n) = false → (s.zoneSusp n run lim).evPend (evFh 5) = true)) := by
  have hfix := zpStat_fixed hn
  unfold State.zoneSusp
  by_cases hc : lim ≠ 0 ∧ lim ≤ run ∧ (!s.flag (FH_ZP_STAT.SUSP n)) = true
  · rw [if_pos hc, State.pb]
    have hk := Chain.p s (FH_ZP_STAT.SUSP n) (b2n true) (l := [FH_ZP_STAT.off n]) (fixedKey_iff.1 hfix).1 List.mem_cons_self
    have hfh := s.p_fh (FH_ZP_STAT.SUSP n) (b2n true)
    have hovr := s.flag_p_sep (f := FH_ZP_STAT.SUSP n) (g := FH_ZP_STAT.OVR n) (b2n true) (by simp [FRef.sep])
    have hrun := s.g_p_sep (f := FH_ZP_STAT.SUSP n) (g := FH_ZP_STAT.RUNOVR n) (b2n true) (by simp [FRef.sep])
    have hsusp : (s.p (FH_ZP_STAT.SUSP n) (b2n true)).flag (FH_ZP_STAT.SUSP n) = true := s.flag_pb_self (f := FH_ZP_STAT.SUSP n) true (by simp) rfl
    generalize s.p (FH_ZP_STAT.SUSP n) (b2n true) = a at *
    have hr := Chain.raise a (ev := evFh 5) (cls := clNote) (by decide) (by decide) []
    have hr' := Chain.raise a (ev := evFh 5) (cls := clNote) (by decide) (by decide) [FH_ZP_STAT.off n]
    have hf := State.fh_of_bare (Quiet.raise a (evFh 5) (cls := clNote) (by decide)).bare
    have hp := a.raise_pend (ev := evFh 5) clNote (by decide)
    generalize a.raise (evFh 5) clNote = t at *
    exact ⟨hk.trans hr', hf.trans hfh, (hr.toEff.flag List.not_mem_nil hfix).trans hovr, (hr.toEff.g List.not_mem_nil hfix).trans hrun,
      fun _ _ => ⟨(hr.toEff.flag List.not_mem_nil hfix).trans hsusp, fun _ => hp⟩⟩
  · rw [if_neg hc]
    refine ⟨Chain.refl s _, rfl, rfl, rfl, fun h0 h1 => ?_⟩
    have hsusp : s.flag (FH_ZP_STAT.SUSP n) = true := by
      by_contra h
      exact hc ⟨h0, h1, by simpa using h⟩
    exact ⟨hsusp, fun h => absurd (hsusp.symm.trans h) (by simp)⟩

theorem State.zoneSpent_eq (s : State) (n : Nat) :
    s.zoneSpent n = (s.zoneNoted n (min 15 (s.g (FH_ZP_STAT.RUNOVR n) + 1))).zoneSusp n (min 15 (s.g (FH_ZP_STAT.RUNOVR n) + 1))
      (s.g (FH_ZP_CFG.LIMIT n)) := by
  have hregs : (s.hm (fun h => { h with zoneOver := n :: h.zoneOver })).regs = s.regs := rfl
  have hrun : ∀ a : State, a.regs = s.regs → (a.pb (FH_ZP_STAT.OVR n) true).g (FH_ZP_STAT.RUNOVR n) = s.g (FH_ZP_STAT.RUNOVR n) :=
    fun a ha => (a.g_p_sep (f := FH_ZP_STAT.OVR n) (g := FH_ZP_STAT.RUNOVR n) _ (by simp [FRef.sep])).trans (State.g_of_regs ha _)
  have hlim : ∀ a : State, a.regs = s.regs → (a.pb (FH_ZP_STAT.OVR n) true).g (FH_ZP_CFG.LIMIT n) = s.g (FH_ZP_CFG.LIMIT n) :=
    fun a ha => (a.g_p_sep (f := FH_ZP_STAT.OVR n) (g := FH_ZP_CFG.LIMIT n) _ (by simp [FRef.sep])).trans (State.g_of_regs ha _)
  unfold State.zoneSpent
  dsimp only
  rw [hrun _ hregs, hlim _ hregs]
  rfl

theorem zoneBudgetExhaust_marks {n : Nat} {s : State} (hs : s.resetReq = none) (hruns : s.zoneRuns = some n) (hen : s.flag (FH_ZP_CFG.EN n) = true)
    (hbud : s.g (FH_ZP_CFG.BUDGET n) * s.periodNs ≤ s.zoneNs n * 1000) (hover : s.fh.zoneOver.contains n = false)
    (hcnt : (s.rd FH_OVERRUN_CNT.off).toNat + 1 < 0xFFFFFFFF) {run : Nat} (hr : min 15 (s.g (FH_ZP_STAT.RUNOVR n) + 1) = run) :
    ∃ t, exec .zoneBudgetExhaust s = .next t ∧ t.fh = { s.fh with zoneOver := n :: s.fh.zoneOver } ∧ t.irq16 = true ∧
      t.flag (FH_ZP_STAT.OVR n) = true ∧ t.g (FH_ZP_STAT.RUNOVR n) = run ∧
      (t.rd FH_OVERRUN_CNT.off).toNat = (s.rd FH_OVERRUN_CNT.off).toNat + 1 ∧
      (s.g (FH_ZP_CFG.LIMIT n) ≠ 0 → s.g (FH_ZP_CFG.LIMIT n) ≤ run →
        t.flag (FH_ZP_STAT.SUSP n) = true ∧ (s.flag (FH_ZP_STAT.SUSP n) = false → t.evPend (evFh 5) = true)) ∧
      s.keepsRegs t [FH_ZP_STAT.off n, FH_OVERRUN_CNT.off] := by
  obtain ⟨hvalid, hprog⟩ := zoneRuns_prog hruns
  have hn : n < 16 := hprog ▸ FRef.get_lt FH_ZP_RUN.PROG _
  have hdue : s.zoneDue n = true := by rw [State.zoneDue, hruns, hen, hover, decide_eq_true hbud]; simp
  have hx : zoneBudgetExhaust s = (s.zoneNoted n run).zoneSusp n run (s.g (FH_ZP_CFG.LIMIT n)) := by
    rw [zoneBudgetExhaust, hprog, if_pos hdue, State.zoneSpent_eq, hr]
  rw [exec_zoneBudgetExhaust, hx]
  obtain ⟨hk, hfh, hovr, hrun, hsusp, hcount⟩ := s.zoneNoted_leaves hn (run := run) (by omega) hcnt
  generalize s.zoneNoted n run = a at *
  obtain ⟨hk2, hfh2, hovr2, hrun2, hlim2⟩ := a.zoneSusp_leaves run (s.g (FH_ZP_CFG.LIMIT n)) hn
  generalize a.zoneSusp n run (s.g (FH_ZP_CFG.LIMIT n)) = t at *
  have hall := hk.trans (hk2.mono (l' := [FH_ZP_STAT.off n, FH_OVERRUN_CNT.off]) (by simp))
  have hnot : FH_ZP_RUN.off ∉ [FH_ZP_STAT.off n, FH_OVERRUN_CNT.off] := by
    simp only [List.mem_cons, List.not_mem_nil, or_false, FH_ZP_RUN.off, FH_ZP_STAT.off, FH_OVERRUN_CNT.off]
    omega
  have hnotc : FH_OVERRUN_CNT.off ∉ [FH_ZP_STAT.off n] := by
    simp only [List.mem_cons, List.not_mem_nil, or_false, FH_ZP_STAT.off, FH_OVERRUN_CNT.off]
    omega
  have hfht := hfh2.trans hfh
  refine ⟨t, congrArg _ (State.finish_eff hall.toEff hs hall.pending), hfht, ?_, hovr2.trans hovr, hrun2.trans hrun, ?_, fun h0 h1 => ?_, hall.rd⟩
  · rw [State.irq16, hall.toEff.flag hnot (by decide), hall.toEff.g hnot (by decide), hvalid, hprog, hfht]
    simp
  · rw [hk2.toEff.word hnotc (by decide), hcount]
  · rw [← hsusp]
    exact hlim2 h0 h1

/-- Settles O48. -/
theorem failOverAndProofs : Obligations.FailOverAndProofs :=
  ⟨fun _u _s hs hu hr ho hd hn => standbyReady_runs hs hu hr ho hd hn,
    fun _u _m _at _s hserves hsup hu ho hres htrig hstuck hidle hrec hn => fhRelease_ends hserves hsup hu ho hres htrig hstuck hidle hrec hn,
    fun _at _s hs htrig hstuck hdue => failoverDeadline_passes hs htrig hstuck hdue,
    fun _u _at _m _s hs _ => ⟨fun hr ht hu hd => rearmProof_begins hs hr ht hu hd, fun hst hu hen hper => proofWakeStart_begins hs hst hu hen hper,
      fun hst hu hserves _ => proofCommand_begins hserves hst hu,
      fun hp hd k _w hn hw => ⟨proofWakeDone_passes hs hp hd hw, proofWakeDone_fails k hs hp hd hn hw⟩⟩,
    fun _m _s hrun hon hc hs => ⟨fun hen hat => checkpointStart_begins hs hrun hon hc hen hat rfl rfl rfl,
      fun hserves _ => checkpointCommand_begins hrun hon hc hserves rfl rfl rfl⟩,
    fun _slot _c _s hs hc => checkpointComplete_shows hs hc,
    fun _n _s hs hruns hen hbud hover hcnt => zoneBudgetExhaust_marks hs hruns hen hbud hover hcnt rfl⟩

end Sys2Proof.Machine
end

section
/-! The Jets' words (R318 to R322): what a word's operations leave alone, the completion of a word, and the words that drive no pin and
move no point. -/

namespace Sys2Proof.Machine

/- One evaluation after another: each of them, left to itself, would hold a thread. -/
set_option Elab.async false

/-! ### Operations of a Jet -/

/-- A chain of writes of the registers listed, of one Jet's record and of the pads. -/
structure JetOp (s t : State) (j : Nat) (l : List Nat) : Prop where
  same : s.sameRegs t l
  frame : { t with regs := s.regs, jets := s.jets, pins := s.pins } = s
  others : ∀ i, i ≠ j → t.jet i = s.jet i

namespace JetOp

theorem refl (s : State) (j : Nat) (l : List Nat) : JetOp s s j l := ⟨fun _ _ => rfl, rfl, fun _ _ => rfl⟩

theorem trans {s t u : State} {j : Nat} {l : List Nat} (a : JetOp s t j l) (b : JetOp t u j l) : JetOp s u j l :=
  ⟨fun k hk => (b.same k hk).trans (a.same k hk),
    (congrArg (fun x : State => { x with regs := s.regs, jets := s.jets, pins := s.pins }) b.frame).trans a.frame,
    fun i hi => (b.others i hi).trans (a.others i hi)⟩

theorem mono {s t : State} {j : Nat} {l l' : List Nat} (a : JetOp s t j l) (h : ∀ k ∈ l, k ∈ l') : JetOp s t j l' :=
  ⟨fun k hk => a.same k fun hl => hk (h k hl), a.frame, a.others⟩

theorem setJet (s : State) (j : Nat) (v : Jet) (l : List Nat) : JetOp s (s.setJet j v) j l :=
  ⟨fun _ _ => rfl, rfl, fun _ hi => s.setJet_jet_ne v hi⟩

theorem wr (s : State) {k : Nat} (w : Word) (j : Nat) {l : List Nat} (hl : k ∈ l) : JetOp s (s.wr k w) j l :=
  ⟨fun _ hi => s.rd_wr_ne w fun h => hi (h ▸ hl), rfl, fun _ _ => rfl⟩

theorem p (s : State) (f : FRef) (v j : Nat) {l : List Nat} (hl : f.off ∈ l) : JetOp s (s.p f v) j l := wr s _ j hl

theorem pins (s : State) (x : Pins) (j : Nat) (l : List Nat) : JetOp s { s with pins := x } j l := ⟨fun _ _ => rfl, rfl, fun _ _ => rfl⟩

variable {s t : State} {j : Nat} {l : List Nat}

theorem g (h : JetOp s t j l) {f : FRef} (hf : f.off ∉ l) : t.g f = s.g f := by rw [State.g, State.g, h.same _ hf]

theorem flag (h : JetOp s t j l) {f : FRef} (hf : f.off ∉ l) : t.flag f = s.flag f := by rw [State.flag, State.flag, h.g hf]

theorem calm (h : JetOp s t j l) : t.pending = s.pending ∧ t.resetReq = s.resetReq ∧ t.pts = s.pts ∧ t.flow = s.flow :=
  ⟨(congrArg State.pending h.frame :), (congrArg State.resetReq h.frame :), (congrArg State.pts h.frame :), (congrArg State.flow h.frame :)⟩

theorem finish (h : JetOp s t j l) (hs : s.resetReq = none) : s.finish t = t := State.finish_kept (h.calm.2.1.trans hs) h.calm.1

theorem jetFrame (h : JetOp s t j ([JET_PC.off j, JET_STAT.off j] ++ l)) : s.jetFrame t j l := ⟨h.others, h.same, h.calm.2.2.1, h.calm.2.2.2⟩

end JetOp

/-! ### Completion of a word -/

/-- A Jet shown RUNNING, with no level seen. -/
def State.jetRan (s : State) (j : Nat) : State := (s.setJet j { s.jet j with seen := false }).p (JET_STAT.STATE j) jsRunning

/-- The next address taken, of a Jet at `pc`. -/
def State.jetAddr (s : State) (j pc : Nat) : State :=
  if (s.jet j).lcnt ≠ 0 ∧ pc = (s.jet j).le then
    if 1 < (s.jet j).lcnt then (s.setJet j { s.jet j with lcnt := (s.jet j).lcnt - 1 }).p (JET_PC.PC j) (s.jet j).ls
    else (s.setJet j { s.jet j with lcnt := 0 }).p (JET_PC.PC j) ((pc + 1) % 128)
  else s.p (JET_PC.PC j) ((pc + 1) % 128)

theorem State.jetNext_eq (s : State) (j : Nat) : s.jetNext j = (s.jetRan j).jetAddr j (s.g (JET_PC.PC j)) := rfl

theorem State.jet_of_jets {s t : State} (h : t.jets = s.jets) (j : Nat) : t.jet j = s.jet j := by rw [State.jet, State.jet, h]

theorem State.p_jet (s : State) (f : FRef) (v j : Nat) : (s.p f v).jet j = s.jet j := State.jet_of_jets (s.p_jets f v) j

theorem State.jetRan_leaves (s : State) (j : Nat) : JetOp s (s.jetRan j) j [JET_STAT.off j] ∧ (s.jetRan j).pins = s.pins ∧
    (s.jetRan j).jet j = { s.jet j with seen := false } ∧ (s.jetRan j).g (JET_STAT.STATE j) = jsRunning := by
  unfold State.jetRan
  have hk := JetOp.setJet s j { s.jet j with seen := false } [JET_STAT.off j]
  have hpins := s.setJet_pins j { s.jet j with seen := false }
  have hjet := s.setJet_jet_same j { s.jet j with seen := false }
  generalize s.setJet j { s.jet j with seen := false } = a at *
  exact ⟨hk.trans (JetOp.p a (JET_STAT.STATE j) jsRunning j List.mem_cons_self), (a.p_pins _ _).trans hpins, (a.p_jet _ _ j).trans hjet,
    a.g_p_fit (f := JET_STAT.STATE j) (show jsRunning < 8 by decide) (by simp)⟩

/-- A record and an address written. -/
theorem State.setPc_leaves (s : State) (j : Nat) (v : Jet) (pc : Nat) :
    JetOp s ((s.setJet j v).p (JET_PC.PC j) pc) j [JET_PC.off j] ∧ ((s.setJet j v).p (JET_PC.PC j) pc).pins = s.pins ∧
      ((s.setJet j v).p (JET_PC.PC j) pc).jet j = v ∧ ((s.setJet j v).p (JET_PC.PC j) pc).g (JET_PC.PC j) = pc % 128 := by
  have hk := JetOp.setJet s j v [JET_PC.off j]
  have hpins := s.setJet_pins j v
  have hjet := s.setJet_jet_same j v
  generalize s.setJet j v = a at *
  exact ⟨hk.trans (JetOp.p a (JET_PC.PC j) pc j List.mem_cons_self), (a.p_pins _ _).trans hpins, (a.p_jet _ _ j).trans hjet, a.g_p_self (f := JET_PC.PC j) pc (by simp)⟩

theorem State.jetAddr_leaves (s : State) (j pc : Nat) : JetOp s (s.jetAddr j pc) j [JET_PC.off j] ∧ (s.jetAddr j pc).pins = s.pins ∧
    (s.jetAddr j pc).jet j = { s.jet j with lcnt := ((s.jetAddr j pc).jet j).lcnt } ∧
    (if (s.jet j).lcnt ≠ 0 ∧ pc = (s.jet j).le then
      ((s.jetAddr j pc).jet j).lcnt = (s.jet j).lcnt - 1 ∧
        (s.jetAddr j pc).g (JET_PC.PC j) = if 1 < (s.jet j).lcnt then (s.jet j).ls % 128 else (pc + 1) % 128
    else ((s.jetAddr j pc).jet j).lcnt = (s.jet j).lcnt ∧ (s.jetAddr j pc).g (JET_PC.PC j) = (pc + 1) % 128) := by
  have hmod : (pc + 1) % 128 % 128 = (pc + 1) % 128 := Nat.mod_mod _ _
  unfold State.jetAddr
  by_cases hend : (s.jet j).lcnt ≠ 0 ∧ pc = (s.jet j).le
  · rw [if_pos hend, if_pos hend]
    by_cases hmore : 1 < (s.jet j).lcnt
    · rw [if_pos hmore, if_pos hmore]
      obtain ⟨hk, hpins, hjet, hpc⟩ := s.setPc_leaves j { s.jet j with lcnt := (s.jet j).lcnt - 1 } (s.jet j).ls
      generalize (s.setJet j { s.jet j with lcnt := (s.jet j).lcnt - 1 }).p (JET_PC.PC j) (s.jet j).ls = t at *
      exact ⟨hk, hpins, by rw [hjet], by rw [hjet], hpc⟩
    · rw [if_neg hmore, if_neg hmore]
      obtain ⟨hk, hpins, hjet, hpc⟩ := s.setPc_leaves j { s.jet j with lcnt := 0 } ((pc + 1) % 128)
      generalize (s.setJet j { s.jet j with lcnt := 0 }).p (JET_PC.PC j) ((pc + 1) % 128) = t at *
      have hone : (s.jet j).lcnt - 1 = 0 := by omega
      exact ⟨hk, hpins, by rw [hjet], by rw [hjet, hone], hpc.trans hmod⟩
  · rw [if_neg hend, if_neg hend]
    have hk := JetOp.p s (JET_PC.PC j) ((pc + 1) % 128) j (l := [JET_PC.off j]) List.mem_cons_self
    have hpins := s.p_pins (JET_PC.PC j) ((pc + 1) % 128)
    have hjet : (s.p (JET_PC.PC j) ((pc + 1) % 128)).jet j = s.jet j := s.p_jet _ _ j
    have hpc := s.g_p_self (f := JET_PC.PC j) ((pc + 1) % 128) (by simp)
    generalize s.p (JET_PC.PC j) ((pc + 1) % 128) = t at *
    exact ⟨hk, hpins, by rw [hjet], by rw [hjet], hpc.trans hmod⟩

theorem jetPc_ne_stat (j : Nat) : JET_PC.off j ≠ JET_STAT.off j := by simp only [JET_PC.off, JET_STAT.off]; omega

/-- The completion of a word of a Jet whose repeat unit and address stand as they stood in `s` (R321). -/
theorem JetOp.next {s u : State} {j : Nat} {l : List Nat} {v : Jet} (h : JetOp s u j l) (hpc : JET_PC.off j ∉ l) (hv : u.jet j = v)
    (hlcnt : v.lcnt = (s.jet j).lcnt := by rfl) (hls : v.ls = (s.jet j).ls := by rfl) (hle : v.le = (s.jet j).le := by rfl) :
    s.jetStepped (u.jetNext j) j ∧ JetOp s (u.jetNext j) j ([JET_PC.off j, JET_STAT.off j] ++ l) ∧
      (u.jetNext j).jet j = { v with lcnt := ((u.jetNext j).jet j).lcnt, seen := false } ∧ (u.jetNext j).pins = u.pins := by
  rw [State.jetNext_eq, h.g hpc]
  obtain ⟨hk1, hpins1, hjet1, hst1⟩ := u.jetRan_leaves j
  rw [hv] at hjet1
  generalize u.jetRan j = a at *
  obtain ⟨hk2, hpins2, hjet2, hpc2⟩ := a.jetAddr_leaves j (s.g (JET_PC.PC j))
  have hst2 : (a.jetAddr j (s.g (JET_PC.PC j))).g (JET_STAT.STATE j) = a.g (JET_STAT.STATE j) :=
    hk2.g (f := JET_STAT.STATE j) fun h => (jetPc_ne_stat j).symm (List.mem_singleton.1 h)
  generalize a.jetAddr j (s.g (JET_PC.PC j)) = t at *
  rw [hjet1] at hjet2 hpc2
  refine ⟨⟨hst2.trans hst1, by rw [hjet2], ?_⟩, ?_, hjet2, hpins2.trans hpins1⟩
  · rw [← hlcnt, ← hls, ← hle]
    exact hpc2
  · exact ((h.mono fun k hk => List.mem_append_right _ hk).trans (hk1.mono fun k hk => List.mem_append_left _ (List.mem_cons_of_mem _ hk))).trans
      (hk2.mono fun k hk => List.mem_append_left _ (by simp only [List.mem_singleton] at hk; rw [hk]; exact List.mem_cons_self))

/-- A word that is done with the record `v` (R320). -/
theorem JetOp.did {s u : State} {j : Nat} {l : List Nat} {v : Jet} (h : JetOp s u j l) (hpc : JET_PC.off j ∉ l) (hv : u.jet j = v)
    (hlcnt : v.lcnt = (s.jet j).lcnt := by rfl) (hls : v.ls = (s.jet j).ls := by rfl) (hle : v.le = (s.jet j).le := by rfl) :
    s.jetDid (u.jetNext j) j v l := by
  obtain ⟨hstep, hk, hjet, _⟩ := h.next hpc hv hlcnt hls hle
  exact ⟨hstep, hk.jetFrame, hjet⟩

/-! ### A tick -/

/-- What the word of each code does (R320). -/
def State.jetDoes (s : State) (j op w : Nat) : State :=
  match op with
  | 0x0 => s.jetGoto j w
  | 0x1 => s.jetSet j w
  | 0x2 => s.jetSend j w
  | 0x3 => s.jetRecv j w
  | 0x4 => s.jetLoad j w
  | 0x5 => s.jetPost j w
  | 0x6 => s.jetNset j w
  | 0x7 => s.jetRep j w
  | 0x8 => s.jetWaite j w
  | 0x9 => s.jetMark j w
  | 0xA => s.jetPack j w
  | _ => s.jetSig j w

/-- At a tick of a running Jet the legal word at PC is executed. -/
theorem State.jetTick_eq {s : State} {j op : Nat} (h : s.jetAt j op) : s.jetTick j op = s.jetDoes j op (s.jetWord j) := by
  obtain ⟨_, hruns, hop, hlegal⟩ := h
  rw [State.jetTick, if_pos ⟨hruns, hop, by rw [hlegal]; rfl⟩, State.jetExec, if_neg (by rw [hlegal]; exact Bool.false_ne_true), hop]
  rfl

/-- A hold: nothing changes but STATE (R325). -/
theorem State.jetHold_leaves (s : State) (j : Nat) {st : Nat} (hst : st < 8) : JetOp s (s.jetHold j st) j [JET_STAT.off j] ∧
    (s.jetHold j st).pins = s.pins ∧ (s.jetHold j st).jets = s.jets ∧ (s.jetHold j st).g (JET_STAT.STATE j) = st :=
  ⟨JetOp.p s (JET_STAT.STATE j) st j List.mem_cons_self, s.p_pins _ _, s.p_jets _ _, s.g_p_fit (f := JET_STAT.STATE j) hst (by simp)⟩

/-! ### GOTO -/

theorem exec_jetGoto (j : Fin 64) (s : State) : exec (.jetGoto j) s = .next (s.finish (s.jetTick j.val 0x0)) := by rfl

/-- The jump of a GOTO. -/
def State.jetJump (s : State) (j pc : Nat) : State :=
  ((s.setJet j { s.jet j with lcnt := 0, seen := false }).p (JET_PC.PC j) pc).p (JET_STAT.STATE j) jsRunning

theorem bitsOf_low (w n : Nat) : bitsOf w 0 n = w % 2 ^ n := by simp [bitsOf]

theorem State.jetJump_leaves (s : State) (j pc : Nat) : JetOp s (s.jetJump j pc) j [JET_PC.off j, JET_STAT.off j] ∧ (s.jetJump j pc).pins = s.pins ∧
    (s.jetJump j pc).jet j = { s.jet j with lcnt := 0, seen := false } ∧ (s.jetJump j pc).g (JET_PC.PC j) = pc % 128 ∧
    (s.jetJump j pc).g (JET_STAT.STATE j) = jsRunning := by
  unfold State.jetJump
  obtain ⟨hk, hpins, hjet, hpc⟩ := s.setPc_leaves j { s.jet j with lcnt := 0, seen := false } pc
  generalize (s.setJet j { s.jet j with lcnt := 0, seen := false }).p (JET_PC.PC j) pc = a at *
  refine ⟨(hk.mono (by simp)).trans (JetOp.p a (JET_STAT.STATE j) jsRunning j (List.mem_cons_of_mem _ List.mem_cons_self)), (a.p_pins _ _).trans hpins,
    (a.p_jet _ _ j).trans hjet, ?_, a.g_p_fit (f := JET_STAT.STATE j) (show jsRunning < 8 by decide) (by simp)⟩
  rw [← hpc, State.g, State.g, a.rd_p_ne (JET_STAT.STATE j) jsRunning (jetPc_ne_stat j)]

theorem jetGoto_does (j : Fin 64) {s : State} (h : s.jetAt j.val 0x0) :
    ∃ t, exec (.jetGoto j) s = .next t ∧ t.pins = s.pins ∧ s.jetFrame t j.val [] ∧
      (if s.jetCond j.val (bitsOf (s.jetWord j.val) 8 4) then t.g (JET_PC.PC j.val) = s.jetWord j.val % 128 ∧ t.g (JET_STAT.STATE j.val) = jsRunning ∧
        t.jet j.val = { s.jet j.val with lcnt := 0, seen := false }
      else s.jetDid t j.val (s.jet j.val) []) := by
  have htick : s.jetTick j.val 0x0 = s.jetGoto j.val (s.jetWord j.val) := State.jetTick_eq h
  rw [exec_jetGoto, htick]
  by_cases hc : s.jetCond j.val (bitsOf (s.jetWord j.val) 8 4) = true
  · have hgo : s.jetGoto j.val (s.jetWord j.val) = s.jetJump j.val (bitsOf (s.jetWord j.val) 0 7) := if_pos hc
    obtain ⟨hk, hpins, hjet, hpc, hst⟩ := s.jetJump_leaves j.val (bitsOf (s.jetWord j.val) 0 7)
    rw [hgo]
    generalize s.jetJump j.val (bitsOf (s.jetWord j.val) 0 7) = t at *
    exact ⟨t, congrArg _ (hk.finish h.1), hpins, (hk.mono (by simp)).jetFrame, by rw [if_pos hc, hpc, bitsOf_low]; exact ⟨Nat.mod_mod _ 128, hst, hjet⟩⟩
  · have hgo : s.jetGoto j.val (s.jetWord j.val) = s.jetNext j.val := if_neg hc
    obtain ⟨hstep, hk, hjet, hpins⟩ := (JetOp.refl s j.val []).next List.not_mem_nil rfl
    rw [hgo]
    generalize s.jetNext j.val = t at *
    exact ⟨t, congrArg _ (hk.finish h.1), hpins, hk.jetFrame, by rw [if_neg hc]; exact ⟨hstep, hk.jetFrame, hjet⟩⟩

end Sys2Proof.Machine
end

section
/-! The Jets' words (R320 to R322), continued: RECV, NSET, REP, WAITE, MARK, PACK, SIG and the fault. -/

namespace Sys2Proof.Machine

/- One evaluation after another: each of them, left to itself, would hold a thread. -/
set_option Elab.async false

/-- A word of a Jet that is done from the state `u` that its operations leave. -/
structure WordDone (s u t : State) (j : Nat) (v : Jet) (l : List Nat) : Prop where
  did : s.jetDid t j v l
  kept : JetOp u t j [JET_PC.off j, JET_STAT.off j]
  pins : t.pins = u.pins
  finish : s.finish t = t

theorem State.jetNext_op (u : State) (j : Nat) : JetOp u (u.jetNext j) j [JET_PC.off j, JET_STAT.off j] := by
  obtain ⟨_, hk, _, _⟩ := (JetOp.refl u j []).next List.not_mem_nil rfl
  exact hk

theorem JetOp.done {s u : State} {j : Nat} {l : List Nat} {v : Jet} (h : JetOp s u j l) (hs : s.resetReq = none) (hpc : JET_PC.off j ∉ l)
    (hv : u.jet j = v) (hlcnt : v.lcnt = (s.jet j).lcnt := by rfl) (hls : v.ls = (s.jet j).ls := by rfl) (hle : v.le = (s.jet j).le := by rfl) :
    WordDone s u (u.jetNext j) j v l := by
  obtain ⟨hstep, hk, hjet, hpins⟩ := h.next hpc hv hlcnt hls hle
  exact ⟨⟨hstep, hk.jetFrame, hjet⟩, u.jetNext_op j, hpins, hk.finish hs⟩

/-! ### The frame register -/

/-- D and CUR written. -/
def State.putFrame (s : State) (j : Nat) (d : Word) (v : Jet) : State := (s.wr (JET_D.off j) d).setJet j v

theorem State.putFrame_leaves (s : State) (j : Nat) (d : Word) (v : Jet) : JetOp s (s.putFrame j d v) j [JET_D.off j] ∧
    (s.putFrame j d v).pins = s.pins ∧ (s.putFrame j d v).jet j = v ∧ (s.putFrame j d v).jetD j = d := by
  unfold State.putFrame
  have hk := JetOp.wr s d j (k := JET_D.off j) (l := [JET_D.off j]) List.mem_cons_self
  have hpins := s.wr_pins (JET_D.off j) d
  have hd : (s.wr (JET_D.off j) d).jetD j = d := s.rd_wr_same _ d
  generalize s.wr (JET_D.off j) d = a at *
  exact ⟨hk.trans (JetOp.setJet a j v _), (a.setJet_pins j v).trans hpins, a.setJet_jet_same j v, (a.setJet_rd j v _).trans hd⟩

theorem jetD_not_pc (j : Nat) : JET_D.off j ∉ [JET_PC.off j, JET_STAT.off j] := by
  simp only [List.mem_cons, List.not_mem_nil, or_false, JET_D.off, JET_PC.off, JET_STAT.off]
  omega

theorem jetPc_not_d (j : Nat) : JET_PC.off j ∉ [JET_D.off j] := by
  simp only [List.mem_cons, List.not_mem_nil, or_false, JET_D.off, JET_PC.off]
  omega

/-- A word that ends in a new D and record. -/
theorem State.putFrame_done {s : State} {j : Nat} (hs : s.resetReq = none) (d : Word) {v : Jet} (hlcnt : v.lcnt = (s.jet j).lcnt := by rfl)
    (hls : v.ls = (s.jet j).ls := by rfl) (hle : v.le = (s.jet j).le := by rfl) :
    ∃ t, (s.putFrame j d v).jetNext j = t ∧ s.finish t = t ∧ s.jetDid t j v [JET_D.off j] ∧ t.jetD j = d ∧ t.pins = s.pins := by
  obtain ⟨hk, hpins, hjet, hd⟩ := s.putFrame_leaves j d v
  have hw := hk.done hs (jetPc_not_d j) hjet hlcnt hls hle
  generalize s.putFrame j d v = u at *
  exact ⟨_, rfl, hw.finish, hw.did, (hw.kept.same _ (jetD_not_pc j)).trans hd, hw.pins.trans hpins⟩

/-! ### RECV -/

theorem exec_jetRecv (j : Fin 64) (s : State) : exec (.jetRecv j) s = .next (s.finish (s.jetTick j.val 0x3)) := by rfl

theorem jetRecv_does (j : Fin 64) {s : State} (h : s.jetAt j.val 0x3) {b : Word}
    (hb : (if s.slotIn j.val (bitsOf (s.jetWord j.val) 9 3) then (1 : Word) else 0) = b) :
    ∃ t, exec (.jetRecv j) s = .next t ∧ s.jetDid t j.val { s.jet j.val with cur := min 32 ((s.jet j.val).cur + 1) } [JET_D.off j.val] ∧
      t.jetD j.val = (if s.flag (JET_FRAME.ORDER j.val) then (s.jetD j.val <<< 1) ||| b else (s.jetD j.val >>> 1) ||| (b <<< 31)) ∧
      t.pins = s.pins := by
  have htick : s.jetTick j.val 0x3 = (s.putFrame j.val
      (if s.flag (JET_FRAME.ORDER j.val) then (s.jetD j.val <<< 1) ||| b else (s.jetD j.val >>> 1) ||| (b <<< 31))
      { s.jet j.val with cur := min 32 ((s.jet j.val).cur + 1) }).jetNext j.val := by
    rw [State.jetTick_eq h, ← hb]
    rfl
  obtain ⟨t, ht, hfin, hdid, hd, hpins⟩ := State.putFrame_done (j := j.val) h.1
    (if s.flag (JET_FRAME.ORDER j.val) then (s.jetD j.val <<< 1) ||| b else (s.jetD j.val >>> 1) ||| (b <<< 31))
    (v := { s.jet j.val with cur := min 32 ((s.jet j.val).cur + 1) })
  rw [exec_jetRecv, htick, ht]
  exact ⟨t, congrArg _ hfin, hdid, hd, hpins⟩

/-! ### NSET -/

theorem exec_jetNset (j : Fin 64) (s : State) : exec (.jetNset j) s = .next (s.finish (s.jetTick j.val 0x6)) := by rfl

theorem nRef_off (j : Nat) (sel : Bool) : (nRef j sel).off = JET_N.off j := by cases sel <;> rfl

theorem nRef_fits (j : Nat) (sel : Bool) : (nRef j sel).width = 8 ∧ (nRef j sel).lsb + (nRef j sel).width ≤ 32 := by cases sel <;> simp [nRef]

theorem nRef_sep (j : Nat) (sel : Bool) : (nRef j sel).sep (nRef j !sel) = true := by cases sel <;> simp [nRef, FRef.sep]

/-- A count register written (R320). -/
theorem State.setN_leaves (s : State) (j : Nat) (sel : Bool) {x : Nat} (hx : x < 256) : JetOp s (s.p (nRef j sel) x) j [JET_N.off j] ∧
    (s.p (nRef j sel) x).pins = s.pins ∧ (s.p (nRef j sel) x).jets = s.jets ∧ (s.p (nRef j sel) x).g (nRef j sel) = x ∧
    (s.p (nRef j sel) x).g (nRef j !sel) = s.g (nRef j !sel) := by
  obtain ⟨hw, hfit⟩ := nRef_fits j sel
  exact ⟨JetOp.p s _ x j (by rw [nRef_off]; exact List.mem_cons_self), s.p_pins _ _, s.p_jets _ _, s.g_p_fit (by rw [hw]; exact hx) hfit,
    s.g_p_sep x (nRef_sep j sel)⟩

theorem State.nRef_lt (s : State) (j : Nat) (sel : Bool) : s.g (nRef j sel) < 256 := by
  have h := FRef.get_lt (nRef j sel) (s.rd (nRef j sel).off)
  rw [(nRef_fits j sel).1] at h
  exact h

theorem jetN_not_pc (j : Nat) (sel : Bool) : (nRef j sel).off ∉ [JET_PC.off j, JET_STAT.off j] := by
  rw [nRef_off]
  simp only [List.mem_cons, List.not_mem_nil, or_false, JET_N.off, JET_PC.off, JET_STAT.off]
  omega

theorem jetPc_not_n (j : Nat) : JET_PC.off j ∉ [JET_N.off j] := by
  simp only [List.mem_cons, List.not_mem_nil, or_false, JET_N.off, JET_PC.off]
  omega

theorem nRef_not (j : Nat) (sel : Bool) : (if sel then JET_N.N0 j else JET_N.N1 j) = nRef j !sel := by cases sel <;> rfl

theorem jetNset_does (j : Fin 64) {s : State} (h : s.jetAt j.val 0x6) {w : Nat} (hw : s.jetWord j.val = w) :
    ∃ t, exec (.jetNset j) s = .next t ∧ s.jetDid t j.val (s.jet j.val) [JET_N.off j.val] ∧ t.pins = s.pins ∧
      t.g (nRef j.val (w.testBit 11)) = (if w.testBit 10 then s.g (nRef j.val (w.testBit 11)) - 1 else w % 256) ∧
      t.g (nRef j.val !w.testBit 11) = s.g (nRef j.val !w.testBit 11) := by
  obtain ⟨x, hx⟩ : ∃ x, (if w.testBit 10 then s.g (nRef j.val (w.testBit 11)) - 1 else w % 256) = x := ⟨_, rfl⟩
  have hlt : x < 256 := by
    have := s.nRef_lt j.val (w.testBit 11)
    rw [← hx]
    split <;> omega
  have htick : s.jetTick j.val 0x6 = (s.p (nRef j.val (w.testBit 11)) x).jetNext j.val := by
    have hlow : bitsOf w 0 8 = w % 256 := bitsOf_low w 8
    have hdef : s.jetTick j.val 0x6 = (s.p (nRef j.val (w.testBit 11))
        (if w.testBit 10 then s.g (nRef j.val (w.testBit 11)) - 1 else bitsOf w 0 8)).jetNext j.val := by
      rw [State.jetTick_eq h, hw]
      rfl
    rw [hdef, hlow, hx]
  obtain ⟨hk, hpins, hjets, hn, hother⟩ := s.setN_leaves j.val (w.testBit 11) hlt
  rw [exec_jetNset, htick, hx]
  generalize s.p (nRef j.val (w.testBit 11)) x = u at *
  have hd := hk.done h.1 (jetPc_not_n j.val) (State.jet_of_jets hjets j.val)
  exact ⟨_, congrArg _ hd.finish, hd.did, hd.pins.trans hpins, (hd.kept.g (jetN_not_pc j.val _)).trans hn,
    (hd.kept.g (jetN_not_pc j.val _)).trans hother⟩

/-! ### REP -/

theorem exec_jetRep (j : Fin 64) (s : State) : exec (.jetRep j) s = .next (s.finish (s.jetTick j.val 0x7)) := by rfl

/-- A legal REP stands outside every repeat (R321). -/
theorem State.jetAt_rep {s : State} {j : Nat} (h : s.jetAt j 0x7) : (s.jet j).lcnt = 0 := by
  obtain ⟨_, _, hop, hlegal⟩ := h
  rw [State.jetIllegal] at hlegal
  dsimp only at hlegal
  rw [hop] at hlegal
  simp only [Bool.or_eq_false_iff, bne_eq_false_iff_eq] at hlegal
  exact hlegal.1.2

theorem jetRep_does (j : Fin 64) {s : State} (h : s.jetAt j.val 0x7) :
    ∃ t, exec (.jetRep j) s = .next t ∧ s.jetFrame t j.val [] ∧ t.pins = s.pins ∧
      t.g (JET_PC.PC j.val) = (s.g (JET_PC.PC j.val) + 1) % 128 ∧ t.g (JET_STAT.STATE j.val) = jsRunning ∧
      t.jet j.val = { s.jet j.val with
        ls := s.g (JET_PC.PC j.val) + 1, le := s.g (JET_PC.PC j.val) + bitsOf (s.jetWord j.val) 8 4 + 1,
        lcnt := s.jetWord j.val % 256, seen := false } := by
  have hl := s.jetAt_rep h
  have htick : s.jetTick j.val 0x7 = (s.jetNext j.val).setJet j.val { (s.jetNext j.val).jet j.val with
      ls := s.g (JET_PC.PC j.val) + 1, le := s.g (JET_PC.PC j.val) + bitsOf (s.jetWord j.val) 8 4 + 1, lcnt := bitsOf (s.jetWord j.val) 0 8 } := by
    rw [State.jetTick_eq h]
    rfl
  rw [exec_jetRep, htick]
  obtain ⟨⟨hst, _, hpc⟩, hk, hjet, hpins⟩ := (JetOp.refl s j.val []).next List.not_mem_nil rfl
  rw [if_neg (fun hc => hc.1 hl)] at hpc
  generalize s.jetNext j.val = u at *
  obtain ⟨v, hv⟩ : ∃ v, { u.jet j.val with
      ls := s.g (JET_PC.PC j.val) + 1, le := s.g (JET_PC.PC j.val) + bitsOf (s.jetWord j.val) 8 4 + 1,
      lcnt := bitsOf (s.jetWord j.val) 0 8 } = v := ⟨_, rfl⟩
  rw [hv]
  have hk2 := hk.trans (JetOp.setJet u j.val v _)
  have hsame := u.setJet_jet_same j.val v
  have hg := u.setJet_g j.val v
  have hp2 := u.setJet_pins j.val v
  generalize u.setJet j.val v = t at *
  refine ⟨t, congrArg _ (hk2.finish h.1), hk2.jetFrame, hp2.trans hpins, (hg _).trans hpc.2, (hg _).trans hst, ?_⟩
  rw [hsame, ← hv, hjet, bitsOf_low]
  rfl

/-! ### WAITE -/

theorem exec_jetWaite (j : Fin 64) (s : State) : exec (.jetWaite j) s = .next (s.finish (s.jetTick j.val 0x8)) := by rfl

/-- What a WAITE on a level does (R321): of kind 2 it waits for the level anew. -/
def State.waitLevel (s : State) (j : Nat) (edge at_ : Bool) : State :=
  if at_ then (if edge = true ∧ (s.jet j).seen = false then s.jetHold j jsWait else s.jetNext j)
  else if edge then (s.setJet j { s.jet j with seen := true }).jetHold j jsWait else s.jetHold j jsWait

theorem State.jetWaite_level (s : State) (j w : Nat) (hk : bitsOf w 10 2 < 3) : s.jetWaite j w = s.waitLevel j (decide (bitsOf w 10 2 = 2))
    (decide ((if bitsOf w 10 2 = 1 then s.sig j (bitsOf w 6 3) else s.slotIn j (bitsOf w 6 3)) = w.testBit 9)) := by
  unfold State.jetWaite State.waitLevel
  dsimp only
  generalize bitsOf w 10 2 = k at *
  obtain rfl | rfl | rfl : k = 0 ∨ k = 1 ∨ k = 2 := by omega
  · simp
  · simp
  · cases (s.jet j).seen <;> simp

theorem State.waitLevel_leaves {s : State} {j : Nat} (hs : s.resetReq = none) (edge at_ : Bool) :
    s.finish (s.waitLevel j edge at_) = s.waitLevel j edge at_ ∧ (s.waitLevel j edge at_).pins = s.pins ∧
      (if at_ = true ∧ (edge = true → (s.jet j).seen = true) then s.jetDid (s.waitLevel j edge at_) j (s.jet j) []
      else (s.waitLevel j edge at_).g (JET_STAT.STATE j) = jsWait ∧ s.sameRegs (s.waitLevel j edge at_) [JET_STAT.off j] ∧
        (s.waitLevel j edge at_).jet j = { s.jet j with seen := (s.jet j).seen || (edge && !at_) }) := by
  have hwait : ∀ a : State, JetOp s a j [JET_STAT.off j] → s.finish (a.jetHold j jsWait) = a.jetHold j jsWait ∧ (a.jetHold j jsWait).pins = a.pins ∧
      (a.jetHold j jsWait).g (JET_STAT.STATE j) = jsWait ∧ s.sameRegs (a.jetHold j jsWait) [JET_STAT.off j] ∧
      (a.jetHold j jsWait).jet j = a.jet j := fun a ha => by
    obtain ⟨hk, hpins, hjets, hst⟩ := a.jetHold_leaves j (st := jsWait) (by decide)
    exact ⟨(ha.trans hk).finish hs, hpins, hst, (ha.trans hk).same, State.jet_of_jets hjets j⟩
  unfold State.waitLevel
  cases at_ with
  | true =>
    rw [if_pos rfl]
    by_cases hw : edge = true ∧ (s.jet j).seen = false
    · obtain ⟨hfin, hpins, hst, hsame, hjet⟩ := hwait s (JetOp.refl s j _)
      rw [if_pos hw, if_neg (fun hc => by rw [hc.2 hw.1] at hw; exact absurd hw.2 (by simp))]
      exact ⟨hfin, hpins, hst, hsame, by rw [hjet]; simp⟩
    · have hd := (JetOp.refl s j []).done hs List.not_mem_nil rfl
      rw [if_neg hw, if_pos ⟨rfl, fun he => by simpa [he] using hw⟩]
      exact ⟨hd.finish, hd.pins, hd.did⟩
  | false =>
    have hnot : ¬(false = true ∧ (edge = true → (s.jet j).seen = true)) := fun hc => Bool.false_ne_true hc.1
    rw [if_neg Bool.false_ne_true, if_neg hnot]
    cases edge with
    | true =>
      obtain ⟨hfin, hpins, hst, hsame, hjet⟩ := hwait _ (JetOp.setJet s j { s.jet j with seen := true } _)
      rw [if_pos rfl]
      exact ⟨hfin, hpins.trans (s.setJet_pins j _), hst, hsame, by rw [hjet, s.setJet_jet_same]; simp⟩
    | false =>
      obtain ⟨hfin, hpins, hst, hsame, hjet⟩ := hwait s (JetOp.refl s j _)
      rw [if_neg Bool.false_ne_true]
      exact ⟨hfin, hpins, hst, hsame, by rw [hjet]; simp⟩

/-- What a WAITE on a count does. -/
def State.waitCount (s : State) (j : Nat) (sel : Bool) : State :=
  if s.g (nRef j sel) = 0 then s.jetNext j else (s.p (nRef j sel) (s.g (nRef j sel) - 1)).jetHold j jsRunning

theorem State.jetWaite_count (s : State) (j w : Nat) (hk : bitsOf w 10 2 = 3) : s.jetWaite j w = s.waitCount j (w.testBit 5) := by
  unfold State.jetWaite State.waitCount
  dsimp only
  rw [hk]
  simp

theorem State.waitCount_leaves {s : State} {j : Nat} (hs : s.resetReq = none) (sel : Bool) :
    s.finish (s.waitCount j sel) = s.waitCount j sel ∧ (s.waitCount j sel).pins = s.pins ∧
      (if s.g (nRef j sel) = 0 then s.jetDid (s.waitCount j sel) j (s.jet j) []
      else (s.waitCount j sel).g (nRef j sel) = s.g (nRef j sel) - 1 ∧ (s.waitCount j sel).jets = s.jets ∧
        s.sameRegs (s.waitCount j sel) [JET_N.off j, JET_STAT.off j]) := by
  unfold State.waitCount
  by_cases h0 : s.g (nRef j sel) = 0
  · rw [if_pos h0, if_pos h0]
    have hd := (JetOp.refl s j []).done hs List.not_mem_nil rfl
    exact ⟨hd.finish, hd.pins, hd.did⟩
  · rw [if_neg h0, if_neg h0]
    have hlt := s.nRef_lt j sel
    obtain ⟨hk, hpins, hjets, hn, _⟩ := s.setN_leaves j sel (x := s.g (nRef j sel) - 1) (by omega)
    generalize s.p (nRef j sel) (s.g (nRef j sel) - 1) = a at *
    obtain ⟨hk1, hpins1, hjets1, _⟩ := a.jetHold_leaves j (st := jsRunning) (by decide)
    have hn1 : (a.jetHold j jsRunning).g (nRef j sel) = a.g (nRef j sel) :=
      hk1.g (fun h => jetN_not_pc j sel (List.mem_cons_of_mem _ h))
    generalize a.jetHold j jsRunning = t at *
    have hall := (hk.mono (l' := [JET_N.off j, JET_STAT.off j]) (by simp)).trans (hk1.mono (by simp))
    exact ⟨hall.finish hs, hpins1.trans hpins, hn1.trans hn, hjets1.trans hjets, hall.same⟩

/-! ### MARK -/

theorem exec_jetMark (j : Fin 64) (s : State) : exec (.jetMark j) s = .next (s.finish (s.jetTick j.val 0x9)) := by rfl

/-- The word that MARK leaves in M (R320). -/
def State.markWord (s : State) (j fn : Nat) : Word :=
  if fn = 0 then BitVec.ofNat 32 (s.slotStamp j) else if fn = 1 then s.jetD j else if fn = 2 then s.rd (JET_M.off j)
  else if fn = 3 then s.rd (JET_M.off j) + 1 else if fn = 4 then s.rd (JET_M.off j) - 1 else 0

theorem State.jetMark_store {s : State} {j w : Nat} (h : bitsOf w 9 3 ≠ 2) :
    s.jetMark j w = (s.wr (JET_M.off j) (s.markWord j (bitsOf w 9 3))).jetNext j := by
  unfold State.jetMark State.markWord
  dsimp only
  generalize bitsOf w 9 3 = fn at *
  by_cases h0 : fn = 0
  · rw [if_pos h0, if_pos h0]
  rw [if_neg h0, if_neg h0]
  by_cases h1 : fn = 1
  · rw [if_pos h1, if_pos h1]
  rw [if_neg h1, if_neg h1, if_neg h, if_neg h]
  by_cases h3 : fn = 3
  · rw [if_pos h3, if_pos h3]
  rw [if_neg h3, if_neg h3]
  by_cases h4 : fn = 4
  · rw [if_pos h4, if_pos h4]
  · rw [if_neg h4, if_neg h4]

theorem State.jetMark_load {s : State} {j w : Nat} (h : bitsOf w 9 3 = 2) :
    s.jetMark j w = (s.putFrame j (s.rd (JET_M.off j)) { s.jet j with cur := 32 }).jetNext j := by
  unfold State.jetMark
  dsimp only
  rw [h]
  rfl

theorem jetM_keys (j : Nat) : JET_PC.off j ∉ [JET_M.off j] ∧ JET_M.off j ∉ [JET_PC.off j, JET_STAT.off j] ∧ JET_D.off j ≠ JET_M.off j := by
  simp only [List.mem_cons, List.not_mem_nil, or_false, JET_M.off, JET_PC.off, JET_STAT.off, JET_D.off]
  omega

theorem JetOp.frame_mono {s t : State} {j : Nat} {v : Jet} {l l' : List Nat} (h : s.jetDid t j v l) (hl : ∀ k ∈ l, k ∈ l') : s.jetDid t j v l' := by
  obtain ⟨hstep, ⟨hothers, hsame, hpts, hflow⟩, hjet⟩ := h
  refine ⟨hstep, ⟨hothers, fun k hk => hsame k fun hm => hk ?_, hpts, hflow⟩, hjet⟩
  rcases List.mem_append.1 hm with hm | hm
  · exact List.mem_append_left _ hm
  · exact List.mem_append_right _ (hl k hm)

theorem jetMark_does (j : Fin 64) {s : State} (h : s.jetAt j.val 0x9) {fn : Nat} (hfn : bitsOf (s.jetWord j.val) 9 3 = fn) :
    ∃ t, exec (.jetMark j) s = .next t ∧ t.pins = s.pins ∧
      s.jetDid t j.val (if fn = 2 then { s.jet j.val with cur := 32 } else s.jet j.val) [JET_M.off j.val, JET_D.off j.val] ∧
      t.jetD j.val = (if fn = 2 then s.rd (JET_M.off j.val) else s.jetD j.val) ∧ t.rd (JET_M.off j.val) = s.markWord j.val fn := by
  have htick : s.jetTick j.val 0x9 = s.jetMark j.val (s.jetWord j.val) := State.jetTick_eq h
  obtain ⟨hpcm, hmpc, hdm⟩ := jetM_keys j.val
  rw [exec_jetMark, htick]
  by_cases h2 : fn = 2
  · rw [State.jetMark_load (hfn.trans h2), if_pos h2, if_pos h2]
    obtain ⟨t, ht, hfin, hdid, hd, hpins⟩ := State.putFrame_done (j := j.val) h.1 (s.rd (JET_M.off j.val)) (v := { s.jet j.val with cur := 32 })
    rw [ht]
    refine ⟨t, congrArg _ hfin, hpins, JetOp.frame_mono hdid (by simp), hd, ?_⟩
    have hsame := hdid.2.1.2.1
    rw [h2]
    exact hsame _ fun hm => by
      simp only [List.mem_append, List.mem_cons, List.not_mem_nil, or_false] at hm
      rcases hm with hm | hm
      · exact hmpc (List.mem_cons.2 (hm.imp id List.mem_singleton.2))
      · exact hdm hm.symm
  · rw [State.jetMark_store (by rw [hfn]; exact h2), hfn, if_neg h2, if_neg h2]
    have hk := JetOp.wr s (s.markWord j.val fn) j.val (k := JET_M.off j.val) (l := [JET_M.off j.val]) List.mem_cons_self
    have hpins := s.wr_pins (JET_M.off j.val) (s.markWord j.val fn)
    have hjets := s.wr_jets (JET_M.off j.val) (s.markWord j.val fn)
    have hm := s.rd_wr_same (JET_M.off j.val) (s.markWord j.val fn)
    have hd := s.rd_wr_ne (s.markWord j.val fn) hdm
    generalize s.wr (JET_M.off j.val) (s.markWord j.val fn) = u at *
    have hw := hk.done h.1 hpcm (State.jet_of_jets hjets j.val)
    generalize u.jetNext j.val = t at *
    exact ⟨t, congrArg _ hw.finish, hw.pins.trans hpins, JetOp.frame_mono hw.did (by simp), (hw.kept.same _ (jetD_not_pc j.val)).trans hd,
      (hw.kept.same _ hmpc).trans hm⟩

/-! ### PACK -/

theorem exec_jetPack (j : Fin 64) (s : State) : exec (.jetPack j) s = .next (s.finish (s.jetTick j.val 0xA)) := by rfl

theorem gather_succ (order : Bool) (d : Word) (cur src n : Nat) :
    gather order d cur src (n + 1) = gatherBit order (gather order d cur src n).1 (gather order d cur src n).2 (src.testBit n) := by
  simp [gather, List.range_succ, List.foldl_append]

/-- The count after a gathering of at least one bit. -/
theorem gather_cur (order : Bool) (d : Word) (cur src n : Nat) : (gather order d cur src (n + 1)).2 = min 32 (cur + (n + 1)) := by
  induction n with
  | zero => rfl
  | succ n ih =>
    rw [gather_succ, gatherBit, ih]
    dsimp only
    omega

/-- The bits of D after a gathering (R321). -/
theorem gather_bit (order : Bool) (d : Word) (cur src : Nat) {n : Nat} (hn : n ≤ 32) : ∀ k, k < 32 → (gather order d cur src n).1.getLsbD k =
    if order then (if k < n then src.testBit (n - 1 - k) else d.getLsbD (k - n))
    else if 32 - n ≤ k then src.testBit (k + n - 32) else d.getLsbD (k + n) := by
  induction n with
  | zero =>
    intro k hk
    have hk' : ¬ 32 - 0 ≤ k := by omega
    cases order <;> simp [gather, hk']
  | succ n ih =>
    intro k hk
    rw [gather_succ, gatherBit]
    have hbit : ∀ b : Bool, (if b then (1 : Word) else 0) = BitVec.ofNat 32 (b2n b) := fun b => by cases b <;> rfl
    cases order with
    | true =>
      simp only [if_true] at ih ⊢
      rw [BitVec.getLsbD_or, BitVec.getLsbD_shiftLeft]
      rcases Nat.eq_zero_or_pos k with rfl | hpos
      · simp
        cases src.testBit n <;> simp
      · have hone : (if src.testBit n = true then (1 : Word) else 0).getLsbD k = false := by
          have : k ≠ 0 := by omega
          cases src.testBit n <;> simp [BitVec.getLsbD_one, this]
        have hih := ih (by omega) (k - 1) (by omega)
        rw [hone, hih]
        simp only [hk, decide_true, Bool.true_and, Bool.or_false, show ¬ k < 1 by omega, decide_false, Bool.not_false]
        by_cases hlt : k < n + 1
        · rw [if_pos (by omega), if_pos hlt]
          congr 1
          omega
        · rw [if_neg (by omega), if_neg hlt]
          congr 1
          omega
    | false =>
      simp only [Bool.false_eq_true, if_false] at ih ⊢
      rw [BitVec.getLsbD_or, BitVec.getLsbD_ushiftRight, BitVec.getLsbD_shiftLeft]
      rcases Nat.lt_or_ge k 31 with hlow | hhigh
      · have hih := ih (by omega) (1 + k) (by omega)
        simp only [hk, decide_true, Bool.true_and, hlow, Bool.not_true, Bool.false_and, Bool.or_false]
        rw [hih]
        by_cases hge : 32 - (n + 1) ≤ k
        · rw [if_pos (by omega), if_pos hge]
          congr 1
          omega
        · rw [if_neg (by omega), if_neg hge]
          congr 1
          omega
      · obtain rfl : k = 31 := by omega
        have hout : (gather false d cur src n).1.getLsbD (1 + 31) = false := BitVec.getLsbD_of_ge _ _ (by omega)
        rw [hout, if_pos (show 32 - (n + 1) ≤ 31 by omega), show 31 + (n + 1) - 32 = n by omega]
        cases src.testBit n <;> simp

/-- The source of a PACK and the count of its bits. -/
def State.packSrc (s : State) (j src : Nat) : Nat :=
  if src = 0 then (s.rd (JET_M.off j)).toNat else if src = 1 then s.slotStamp j else if src = 2 then 0 else 2 ^ 32 - 1
def packLen (w : Nat) : Nat := if w % 32 = 0 then 32 else w % 32

theorem jetPack_does (j : Fin 64) {s : State} (h : s.jetAt j.val 0xA) {w : Nat} (hw : s.jetWord j.val = w) :
    ∃ t, exec (.jetPack j) s = .next t ∧ t.pins = s.pins ∧
      s.jetDid t j.val { s.jet j.val with cur := min 32 ((s.jet j.val).cur + packLen w) } [JET_D.off j.val] ∧
      (∀ k, k < 32 → (t.jetD j.val).getLsbD k =
        if s.flag (JET_FRAME.ORDER j.val) then (if k < packLen w then (s.packSrc j.val (bitsOf w 10 2)).testBit (packLen w - 1 - k)
          else (s.jetD j.val).getLsbD (k - packLen w))
        else if 32 - packLen w ≤ k then (s.packSrc j.val (bitsOf w 10 2)).testBit (k + packLen w - 32) else (s.jetD j.val).getLsbD (k + packLen w)) := by
  have hlen : 1 ≤ packLen w ∧ packLen w ≤ 32 := by
    unfold packLen
    split <;> omega
  have htick : s.jetTick j.val 0xA = (s.putFrame j.val
      (gather (s.flag (JET_FRAME.ORDER j.val)) (s.jetD j.val) (s.jet j.val).cur (s.packSrc j.val (bitsOf w 10 2)) (packLen w)).1
      { s.jet j.val with cur := (gather (s.flag (JET_FRAME.ORDER j.val)) (s.jetD j.val) (s.jet j.val).cur
        (s.packSrc j.val (bitsOf w 10 2)) (packLen w)).2 }).jetNext j.val := by
    have hdef : s.jetTick j.val 0xA = s.jetPack j.val w := by rw [State.jetTick_eq h, hw]; rfl
    rw [hdef, State.jetPack]
    dsimp only
    rw [bitsOf_low]
    rfl
  obtain ⟨n, hn⟩ : ∃ n, packLen w = n + 1 := ⟨packLen w - 1, by omega⟩
  have hcur := gather_cur (s.flag (JET_FRAME.ORDER j.val)) (s.jetD j.val) (s.jet j.val).cur (s.packSrc j.val (bitsOf w 10 2)) n
  rw [← hn] at hcur
  have hbits := gather_bit (s.flag (JET_FRAME.ORDER j.val)) (s.jetD j.val) (s.jet j.val).cur (s.packSrc j.val (bitsOf w 10 2)) hlen.2
  rw [hcur] at htick
  generalize (gather (s.flag (JET_FRAME.ORDER j.val)) (s.jetD j.val) (s.jet j.val).cur (s.packSrc j.val (bitsOf w 10 2)) (packLen w)).1 = d at *
  obtain ⟨t, ht, hfin, hdid, hd, hpins⟩ := State.putFrame_done (j := j.val) h.1 d
    (v := { s.jet j.val with cur := min 32 ((s.jet j.val).cur + packLen w) })
  rw [exec_jetPack, htick, ht]
  exact ⟨t, congrArg _ hfin, hpins, hdid, by rw [hd]; exact hbits⟩

/-! ### SIG -/

theorem exec_jetSig (j : Fin 64) (s : State) : exec (.jetSig j) s = .next (s.finish (s.jetTick j.val 0xB)) := by rfl

theorem jetBank_lt (j : Fin 64) : jetBank j.val < 2 := by simp only [jetBank]; omega

/-- A bank's signals after one is written. -/
theorem State.setSig_sig (s : State) (j : Fin 64) (n : Nat) (b : Bool) {i : Nat} (hi : i < 8) :
    (s.setSig j.val n b).sig j.val i = if i = n then b else s.sig j.val i := by
  have hb := jetBank_lt j
  unfold State.sig State.setSig
  rw [s.rd_wr_same, BitVec.toNat_ofNat, Nat.testBit_mod_two_pow, setBits_testBit, decide_eq_true (show 8 * jetBank j.val + i < 32 by omega),
    Bool.true_and]
  by_cases h : i = n
  · rw [if_pos (by omega), if_pos h, h, Nat.sub_self]
    cases b <;> rfl
  · rw [if_neg (by omega), if_neg h]

theorem sig_keys (j : Fin 64) : JET_PC.off j.val ∉ [JET_SIG.off] ∧ JET_SIG.off ∉ [JET_PC.off j.val, JET_STAT.off j.val] ∧
    fixedKey (JET_STAT.off j.val) = true ∧ fixedKey (JET_PC.off j.val) = true ∧ evJet j.val < 512 := by
  revert j
  decide +kernel

/-- EVT set with its event, where a SIG asks for it. -/
def State.sigEvent (s : State) (j : Nat) (e : Bool) : State := if e then (s.pb (JET_STAT.EVT j) true).raise (evJet j) clEvent else s

theorem State.sigEvent_leaves (s : State) (j : Fin 64) (e : Bool) : Chain s (s.sigEvent j.val e) [JET_STAT.off j.val] ∧
    (s.sigEvent j.val e).jets = s.jets ∧ (s.sigEvent j.val e).pins = s.pins ∧
    (s.sigEvent j.val e).g (JET_STAT.STATE j.val) = s.g (JET_STAT.STATE j.val) ∧
    (e = true → (s.sigEvent j.val e).flag (JET_STAT.EVT j.val) = true ∧ (s.sigEvent j.val e).evPend (evJet j.val) = true) := by
  obtain ⟨_, _, hfix, _, hev⟩ := sig_keys j
  cases e with
  | false => exact ⟨Chain.refl s _, rfl, rfl, rfl, fun h => absurd h Bool.false_ne_true⟩
  | true =>
    unfold State.sigEvent
    rw [if_pos rfl, State.pb]
    have hk := Chain.p s (JET_STAT.EVT j.val) (b2n true) (l := [JET_STAT.off j.val]) (fixedKey_iff.1 hfix).1 List.mem_cons_self
    have hj := s.p_jets (JET_STAT.EVT j.val) (b2n true)
    have hp := s.p_pins (JET_STAT.EVT j.val) (b2n true)
    have hst := s.g_p_sep (f := JET_STAT.EVT j.val) (g := JET_STAT.STATE j.val) (b2n true) (by simp [FRef.sep])
    have hevt : (s.p (JET_STAT.EVT j.val) (b2n true)).flag (JET_STAT.EVT j.val) = true := s.flag_pb_self (f := JET_STAT.EVT j.val) true (by simp) rfl
    generalize s.p (JET_STAT.EVT j.val) (b2n true) = a at *
    have hr := Chain.raise a hev (cls := clEvent) (by decide) [JET_STAT.off j.val]
    have hr0 := Chain.raise a hev (cls := clEvent) (by decide) []
    have hpend := a.raise_pend clEvent hev
    obtain ⟨_, _, _, _, _, _, _, _, _, hpins, hjets, _⟩ := State.sameStores_of_bare (Quiet.raise a (evJet j.val) (cls := clEvent) (by decide)).bare
    generalize a.raise (evJet j.val) clEvent = t at *
    exact ⟨hk.trans hr, hjets.trans hj, hpins.trans hp, (hr0.toEff.g List.not_mem_nil hfix).trans hst,
      fun _ => ⟨(hr0.toEff.flag List.not_mem_nil hfix).trans hevt, hpend⟩⟩

theorem jetSig_does (j : Fin 64) {s : State} (h : s.jetAt j.val 0xB) {w : Nat} (hw : s.jetWord j.val = w) :
    ∃ t, exec (.jetSig j) s = .next t ∧ t.pins = s.pins ∧ s.jetStepped t j.val ∧
      t.jet j.val = { s.jet j.val with lcnt := (t.jet j.val).lcnt, seen := false } ∧
      (∀ i, i < 8 → t.sig j.val i = if i = bitsOf w 8 3 then w.testBit 11 else s.sig j.val i) ∧
      (w.testBit 7 = true → t.flag (JET_STAT.EVT j.val) = true ∧ t.evPend (evJet j.val) = true) ∧
      s.keepsRegs t [JET_PC.off j.val, JET_STAT.off j.val, JET_SIG.off] := by
  have htick : s.jetTick j.val 0xB = ((s.setSig j.val (bitsOf w 8 3) (w.testBit 11)).jetNext j.val).sigEvent j.val (w.testBit 7) := by
    rw [State.jetTick_eq h, hw]
    rfl
  obtain ⟨hpcs, hspc, hfix, hfixpc, hev⟩ := sig_keys j
  have hk : JetOp s (s.setSig j.val (bitsOf w 8 3) (w.testBit 11)) j.val [JET_SIG.off] := JetOp.wr s _ j.val List.mem_cons_self
  have hpins : (s.setSig j.val (bitsOf w 8 3) (w.testBit 11)).pins = s.pins := s.wr_pins _ _
  have hjets : (s.setSig j.val (bitsOf w 8 3) (w.testBit 11)).jets = s.jets := s.wr_jets _ _
  have hsig := fun i (hi : i < 8) => s.setSig_sig j (bitsOf w 8 3) (w.testBit 11) hi
  rw [exec_jetSig, htick]
  generalize s.setSig j.val (bitsOf w 8 3) (w.testBit 11) = u at *
  obtain ⟨⟨hst, hseen, hpc⟩, hk1, hjet1, hpins1⟩ := hk.next hpcs (State.jet_of_jets hjets j.val)
  have hku := u.jetNext_op j.val
  generalize u.jetNext j.val = a at *
  obtain ⟨hk2, hjets2, hpins2, hst2, hevt⟩ := a.sigEvent_leaves j (w.testBit 7)
  generalize a.sigEvent j.val (w.testBit 7) = t at *
  have hjet2 := State.jet_of_jets hjets2 j.val
  have hpc2 : t.g (JET_PC.PC j.val) = a.g (JET_PC.PC j.val) :=
    hk2.toEff.g (by simp only [List.mem_singleton]; exact jetPc_ne_stat j.val) hfixpc
  have hsig2 : ∀ i, t.sig j.val i = u.sig j.val i := fun i => by
    rw [State.sig, State.sig, hk2.toEff.word (fun hm => hspc (List.mem_cons_of_mem _ hm)) (by decide), hku.same _ hspc]
  have hpend : t.pending = s.pending := hk2.pending.trans hk1.calm.1
  have hreset : t.resetReq = none := (hk2.toEff.resetReq.trans hk1.calm.2.1).trans h.1
  refine ⟨t, congrArg _ (State.finish_kept hreset hpend), (hpins2.trans hpins1).trans hpins, ⟨hst2.trans hst, by rw [hjet2, hseen], ?_⟩,
    by rw [hjet2]; exact hjet1, fun i hi => (hsig2 i).trans (hsig i hi), hevt, fun k hk h1 h2 => ?_⟩
  · rw [hjet2, hpc2]
    exact hpc
  · rw [hk2.toEff.rd k (fun hm => hk (List.mem_cons_of_mem _ (by simpa using Or.inl (List.mem_singleton.1 hm)))) h1 h2]
    exact hk1.same k hk

/-! ### A fault -/

theorem exec_jetFault (j : Fin 64) (s : State) : exec (.jetFault j) s = .next (s.finish (jetFault j s)) := by rfl

theorem jetCtrl_keys (j : Fin 64) : fixedKey (JET_CTRL.off j.val) = true ∧ JET_CTRL.off j.val ≠ JET_STAT.off j.val := by
  revert j
  decide +kernel

theorem jetFault_stops (j : Fin 64) {s : State} (hs : s.resetReq = none) (hruns : s.jetRuns j.val = true)
    (hill : s.jetIllegal j.val (s.jetWord j.val) = true) :
    ∃ t, exec (.jetFault j) s = .next t ∧ t.flag (JET_CTRL.RUN j.val) = false ∧ t.g (JET_STAT.STATE j.val) = jsFault ∧
      t.evPend (evJet j.val) = true ∧ t.jets = s.jets ∧ t.pins = s.pins ∧ s.keepsRegs t [JET_CTRL.off j.val, JET_STAT.off j.val] := by
  have hx : jetFault j s = ((s.pb (JET_CTRL.RUN j.val) false).p (JET_STAT.STATE j.val) jsFault).raise (evJet j.val) clNote :=
    if_pos ⟨hruns, hill⟩
  obtain ⟨_, _, hfix, _, hev⟩ := sig_keys j
  obtain ⟨hfixc, hne⟩ := jetCtrl_keys j
  rw [exec_jetFault, hx, State.pb]
  have hk := Chain.p s (JET_CTRL.RUN j.val) (b2n false) (l := [JET_CTRL.off j.val, JET_STAT.off j.val]) (fixedKey_iff.1 hfixc).1 List.mem_cons_self
  have hj := s.p_jets (JET_CTRL.RUN j.val) (b2n false)
  have hp := s.p_pins (JET_CTRL.RUN j.val) (b2n false)
  have hrun : (s.p (JET_CTRL.RUN j.val) (b2n false)).flag (JET_CTRL.RUN j.val) = false := s.flag_pb_self (f := JET_CTRL.RUN j.val) false (by simp) rfl
  generalize s.p (JET_CTRL.RUN j.val) (b2n false) = a at *
  have hk2 := hk.trans (Chain.p a (JET_STAT.STATE j.val) jsFault (fixedKey_iff.1 hfix).1 (List.mem_cons_of_mem _ List.mem_cons_self))
  have hj2 := (a.p_jets (JET_STAT.STATE j.val) jsFault).trans hj
  have hp2 := (a.p_pins (JET_STAT.STATE j.val) jsFault).trans hp
  have hst := a.g_p_fit (f := JET_STAT.STATE j.val) (show jsFault < 8 by decide) (by simp)
  have hrun2 : (a.p (JET_STAT.STATE j.val) jsFault).flag (JET_CTRL.RUN j.val) = false := by
    rw [← hrun, State.flag, State.flag, State.g, State.g, a.rd_p_ne (JET_STAT.STATE j.val) jsFault hne]
  generalize a.p (JET_STAT.STATE j.val) jsFault = b at *
  have hr := Chain.raise b hev (cls := clNote) (by decide) [JET_CTRL.off j.val, JET_STAT.off j.val]
  have hr0 := Chain.raise b hev (cls := clNote) (by decide) []
  have hpend := b.raise_pend clNote hev
  obtain ⟨_, _, _, _, _, _, _, _, _, hpins, hjets, _⟩ := State.sameStores_of_bare (Quiet.raise b (evJet j.val) (cls := clNote) (by decide)).bare
  generalize b.raise (evJet j.val) clNote = t at *
  have hall := hk2.trans hr
  exact ⟨t, congrArg _ (State.finish_eff hall.toEff hs hall.pending), (hr0.toEff.flag List.not_mem_nil hfixc).trans hrun2,
    (hr0.toEff.g List.not_mem_nil hfix).trans hst, hpend, hjets.trans hj2, hpins.trans hp2, hall.rd⟩

end Sys2Proof.Machine
end

section
/-! PROOF of JetWords (R318 to R322, R324): SET, SEND, LOAD and POST, and the whole. -/

namespace Sys2Proof.Machine

/- One evaluation after another: each of them, left to itself, would hold a thread. -/
set_option Elab.async false

/-! ### Pads -/

/-- A bit of a pin vector after one is replaced. -/
theorem setPin_bit (v : BitVec 256) {n : Nat} (hn : n < 256) (b : Bool) (k : Nat) : (setPin v n b).getLsbD k = if k = n then b else v.getLsbD k := by
  have hone : (BitVec.ofNat 256 (2 ^ n)).getLsbD k = decide (k = n) := by
    rw [BitVec.getLsbD_ofNat, Nat.testBit_two_pow]
    by_cases h : k = n
    · rw [h]
      simpa using hn
    · have h' : n ≠ k := fun e => h e.symm
      simp [h, h']
  unfold setPin
  by_cases h : k = n
  · subst h
    cases b
    · rw [if_neg Bool.false_ne_true, BitVec.getLsbD_and, BitVec.getLsbD_not, hone]
      simp
    · rw [if_pos rfl, BitVec.getLsbD_or, hone]
      simp
  · cases b
    · rw [if_neg Bool.false_ne_true, if_neg h, BitVec.getLsbD_and, BitVec.getLsbD_not, hone]
      by_cases hk : k < 256
      · simp [h, hk]
      · simp [BitVec.getLsbD_of_ge v k (by omega)]
    · rw [if_pos rfl, if_neg h, BitVec.getLsbD_or, hone]
      simp [h]

/-- A Jet's write of a pin (R310, R312, R326). -/
theorem State.jetPin_leaves (s : State) (j : Nat) {n : Nat} (hn : n < 256) (level en : Bool) (i : Nat) (l : List Nat) :
    JetOp s (s.jetPin j n level en) i l ∧ (s.jetPin j n level en).jets = s.jets ∧
      (s.owner n = 2 → s.g (FIO_PIN_CFG.JET n) = j → s.flag FH_STAT.SAFE = false →
        (s.jetPin j n level en).pins.padLevel.getLsbD n = level ∧ (s.jetPin j n level en).pins.padEn.getLsbD n = en) ∧
      (∀ x, x ≠ n → (s.jetPin j n level en).pins.padLevel.getLsbD x = s.pins.padLevel.getLsbD x ∧
        (s.jetPin j n level en).pins.padEn.getLsbD x = s.pins.padEn.getLsbD x) := by
  unfold State.jetPin
  by_cases hc : s.owner n = 2 ∧ s.g (FIO_PIN_CFG.JET n) = j ∧ (!(s.flag FH_STAT.SAFE && s.jets.safeStop && s.g (FIO_PIN_CFG.SAFE n) != 0)) = true
  · rw [if_pos hc]
    refine ⟨⟨fun _ _ => rfl, rfl, fun _ _ => rfl⟩, rfl, fun _ _ _ => ⟨?_, ?_⟩, fun x hx => ⟨?_, ?_⟩⟩
    · exact (setPin_bit s.pins.padLevel hn level n).trans (if_pos rfl)
    · exact (setPin_bit s.pins.padEn hn en n).trans (if_pos rfl)
    · exact (setPin_bit s.pins.padLevel hn level x).trans (if_neg hx)
    · exact (setPin_bit s.pins.padEn hn en x).trans (if_neg hx)
  · rw [if_neg hc]
    refine ⟨JetOp.refl s i l, rfl, fun ho hj hs => absurd ⟨ho, hj, by rw [hs]; rfl⟩ hc, fun _ _ => ⟨rfl, rfl⟩⟩

theorem State.outPin_lt (s : State) (j k : Nat) : s.outPin j k < 256 := bitsOf_lt _ _ 8

theorem State.driveOut_leaves (s : State) (j k : Nat) (l : List Nat) : JetOp s (s.driveOut j k) j l ∧ (s.driveOut j k).jets = s.jets ∧
    ((s.g (JET_MAPEN.OUT_EN j)).testBit k = true → s.owner (s.outPin j k) = 2 → s.g (FIO_PIN_CFG.JET (s.outPin j k)) = j →
      s.flag FH_STAT.SAFE = false → (s.driveOut j k).pins.padLevel.getLsbD (s.outPin j k) = (s.jet j).out.getLsbD k ∧
        (s.driveOut j k).pins.padEn.getLsbD (s.outPin j k) = (s.jet j).outEn.getLsbD k) ∧
    (∀ x, x ≠ s.outPin j k → (s.driveOut j k).pins.padLevel.getLsbD x = s.pins.padLevel.getLsbD x ∧
      (s.driveOut j k).pins.padEn.getLsbD x = s.pins.padEn.getLsbD x) := by
  unfold State.driveOut
  by_cases hen : (s.g (JET_MAPEN.OUT_EN j)).testBit k = true
  · rw [if_pos hen]
    obtain ⟨hk, hjets, hpad, hne⟩ := s.jetPin_leaves j (s.outPin_lt j k) ((s.jet j).out.getLsbD k) ((s.jet j).outEn.getLsbD k) j l
    exact ⟨hk, hjets, fun _ ho hj hs => hpad ho hj hs, hne⟩
  · rw [if_neg hen]
    exact ⟨JetOp.refl s j l, rfl, fun h => absurd h hen, fun _ _ => ⟨rfl, rfl⟩⟩

theorem State.driveSide_leaves (s : State) (j k : Nat) (l : List Nat) : JetOp s (s.driveSide j k) j l ∧ (s.driveSide j k).jets = s.jets := by
  unfold State.driveSide
  by_cases hen : (s.g (JET_MAPEN.SIDE_EN j)).testBit k = true
  · rw [if_pos hen]
    obtain ⟨hk, hjets, _, _⟩ := s.jetPin_leaves j (show s.sidePin j k < 256 from bitsOf_lt _ _ 8) ((s.jet j).side.getLsbD k) true j l
    exact ⟨hk, hjets⟩
  · rw [if_neg hen]
    exact ⟨JetOp.refl s j l, rfl⟩

/-! ### SET -/

/-- One bit of a slot vector replaced. -/
def putBit {n : Nat} (x : BitVec n) (i : Nat) (b : Bool) : BitVec n := BitVec.ofNat n (setBits x.toNat i 1 (b2n b))

theorem putBit_bit {n : Nat} (x : BitVec n) (i : Nat) (b : Bool) {k : Nat} (hk : k < n) : (putBit x i b).getLsbD k = if k = i then b else x.getLsbD k := by
  rw [putBit, BitVec.getLsbD_ofNat, setBits_testBit, decide_eq_true hk, Bool.true_and]
  by_cases h : k = i
  · rw [if_pos (by omega), if_pos h, h, Nat.sub_self]
    cases b <;> rfl
  · rw [if_neg (by omega), if_neg h]
    rfl

/-- A Jet's record after one bit of SET (R320). -/
def setBitRec (v : Jet) (grp k : Nat) (b : Bool) : Jet :=
  if grp < 2 then { v with out := putBit v.out (4 * grp + k) b }
  else if grp = 2 then { v with side := putBit v.side k b }
  else { v with outEn := putBit v.outEn (4 * (grp - 3) + k) b }

theorem State.jetSetBit_leaves (s : State) (j grp k : Nat) (b : Bool) (l : List Nat) : JetOp s (s.jetSetBit j grp k b) j l ∧
    (s.jetSetBit j grp k b).jet j = setBitRec (s.jet j) grp k b := by
  have hout : ∀ (v : Jet) (i : Nat), JetOp s ((s.setJet j v).driveOut j i) j l ∧ ((s.setJet j v).driveOut j i).jet j = v := fun v i => by
    obtain ⟨hk, hjets, _, _⟩ := (s.setJet j v).driveOut_leaves j i l
    exact ⟨(JetOp.setJet s j v l).trans hk, (State.jet_of_jets hjets j).trans (s.setJet_jet_same j v)⟩
  unfold State.jetSetBit setBitRec
  dsimp only
  by_cases h2 : grp < 2
  · rw [if_pos h2, if_pos h2]
    exact hout _ _
  rw [if_neg h2, if_neg h2]
  by_cases he : grp = 2
  · rw [if_pos he, if_pos he]
    obtain ⟨hk, hjets⟩ := (s.setJet j { s.jet j with side := putBit (s.jet j).side k b }).driveSide_leaves j k l
    exact ⟨(JetOp.setJet s j _ l).trans hk, (State.jet_of_jets hjets j).trans (s.setJet_jet_same j _)⟩
  · rw [if_neg he, if_neg he]
    exact hout _ _

/-- A Jet's record after the bits of SET below `m`. -/
def setRec (v : Jet) (grp w m : Nat) : Jet :=
  (List.range m).foldl (fun v k => if w.testBit (4 + k) then setBitRec v grp k (w.testBit k) else v) v

theorem setRec_succ (v : Jet) (grp w m : Nat) : setRec v grp w (m + 1) =
    if w.testBit (4 + m) then setBitRec (setRec v grp w m) grp m (w.testBit m) else setRec v grp w m := by
  simp [setRec, List.range_succ, List.foldl_append]

/-- What SET's bits below `m` leave of a record. -/
structure SetRec (v u : Jet) (grp w m : Nat) : Prop where
  rest : u = { v with out := u.out, side := u.side, outEn := u.outEn }
  out : ∀ k, k < 8 → u.out.getLsbD k = if k / 4 = grp ∧ k % 4 < m ∧ w.testBit (4 + k % 4) = true then w.testBit (k % 4) else v.out.getLsbD k
  side : ∀ k, k < 4 → u.side.getLsbD k = if grp = 2 ∧ k < m ∧ w.testBit (4 + k) = true then w.testBit k else v.side.getLsbD k
  outEn : ∀ k, k < 8 → u.outEn.getLsbD k =
    if 3 + k / 4 = grp ∧ k % 4 < m ∧ w.testBit (4 + k % 4) = true then w.testBit (k % 4) else v.outEn.getLsbD k

theorem setBitRec_rest (v : Jet) (grp k : Nat) (b : Bool) :
    setBitRec v grp k b = { v with out := (setBitRec v grp k b).out, side := (setBitRec v grp k b).side, outEn := (setBitRec v grp k b).outEn } := by
  unfold setBitRec
  split
  · rfl
  · split <;> rfl

theorem setBitRec_out (v : Jet) (grp m : Nat) (b : Bool) {k : Nat} (hk : k < 8) (hm : m < 4) :
    (setBitRec v grp m b).out.getLsbD k = if k / 4 = grp ∧ k % 4 = m then b else v.out.getLsbD k := by
  unfold setBitRec
  split
  · rw [putBit_bit _ _ _ hk]
    by_cases h : k = 4 * grp + m
    · rw [if_pos h, if_pos (by omega)]
    · rw [if_neg h, if_neg (by omega)]
  · split <;> rw [if_neg (by omega)]

theorem setBitRec_side (v : Jet) (grp m : Nat) (b : Bool) {k : Nat} (hk : k < 4) :
    (setBitRec v grp m b).side.getLsbD k = if grp = 2 ∧ k = m then b else v.side.getLsbD k := by
  unfold setBitRec
  split
  · rw [if_neg (by omega)]
  · split
    · next h =>
      rw [putBit_bit _ _ _ hk]
      by_cases he : k = m
      · rw [if_pos he, if_pos ⟨h, he⟩]
      · rw [if_neg he, if_neg fun hc => he hc.2]
    · next h => rw [if_neg fun hc => h hc.1]

theorem setBitRec_outEn (v : Jet) (grp m : Nat) (b : Bool) {k : Nat} (hk : k < 8) (hm : m < 4) :
    (setBitRec v grp m b).outEn.getLsbD k = if 3 + k / 4 = grp ∧ k % 4 = m then b else v.outEn.getLsbD k := by
  unfold setBitRec
  split
  · rw [if_neg (by omega)]
  · split
    · rw [if_neg (by omega)]
    · rw [putBit_bit _ _ _ hk]
      by_cases h : k = 4 * (grp - 3) + m
      · rw [if_pos h, if_pos (by omega)]
      · rw [if_neg h, if_neg (by omega)]

/-- One more bit counted in: a bit that holds below `m + 1` holds below `m`, or is bit `m`. -/
theorem setRec_bit {c : Prop} [Decidable c] {i m : Nat} {w : Nat} {x y z : Bool} (hmask : w.testBit (4 + m) = true)
    (hy : y = if c ∧ i < m ∧ w.testBit (4 + i) = true then w.testBit i else z) (hx : x = if c ∧ i = m then w.testBit m else y) :
    x = if c ∧ i < m + 1 ∧ w.testBit (4 + i) = true then w.testBit i else z := by
  rw [hx]
  by_cases h : c ∧ i = m
  · rw [if_pos h, h.2, if_pos ⟨h.1, Nat.lt_succ_self m, hmask⟩]
  · rw [if_neg h, hy]
    by_cases h2 : c ∧ i < m ∧ w.testBit (4 + i) = true
    · rw [if_pos h2, if_pos ⟨h2.1, by omega, h2.2.2⟩]
    · rw [if_neg h2, if_neg fun h3 => ?_]
      by_cases he : i = m
      · exact h ⟨h3.1, he⟩
      · exact h2 ⟨h3.1, by omega, h3.2.2⟩

theorem setRec_skip {c : Prop} [Decidable c] {i m : Nat} {w : Nat} {y z : Bool} (hmask : ¬w.testBit (4 + m) = true)
    (hy : y = if c ∧ i < m ∧ w.testBit (4 + i) = true then w.testBit i else z) :
    y = if c ∧ i < m + 1 ∧ w.testBit (4 + i) = true then w.testBit i else z := by
  rw [hy]
  by_cases h2 : c ∧ i < m ∧ w.testBit (4 + i) = true
  · rw [if_pos h2, if_pos ⟨h2.1, by omega, h2.2.2⟩]
  · rw [if_neg h2, if_neg fun h3 => ?_]
    by_cases he : i = m
    · exact hmask (he ▸ h3.2.2)
    · exact h2 ⟨h3.1, by omega, h3.2.2⟩

theorem setRec_spec (v : Jet) (grp w : Nat) {m : Nat} (hm : m ≤ 4) : SetRec v (setRec v grp w m) grp w m := by
  induction m with
  | zero =>
    have h0 : setRec v grp w 0 = v := rfl
    rw [h0]
    exact ⟨rfl, fun k _ => by rw [if_neg (by omega)], fun k _ => by rw [if_neg (by omega)], fun k _ => by rw [if_neg (by omega)]⟩
  | succ m ih =>
    obtain ⟨hrest, hout, hside, hen⟩ := ih (by omega)
    rw [setRec_succ]
    generalize setRec v grp w m = u at *
    by_cases hmask : w.testBit (4 + m) = true
    · rw [if_pos hmask]
      refine ⟨?_, fun k hk => setRec_bit hmask (hout k hk) (setBitRec_out u grp m _ hk (by omega)),
        fun k hk => setRec_bit hmask (hside k hk) (setBitRec_side u grp m _ hk),
        fun k hk => setRec_bit hmask (hen k hk) (setBitRec_outEn u grp m _ hk (by omega))⟩
      have hb := setBitRec_rest u grp m (w.testBit m)
      generalize setBitRec u grp m (w.testBit m) = x at *
      rw [hb, hrest]
    · rw [if_neg hmask]
      exact ⟨hrest, fun k hk => setRec_skip hmask (hout k hk), fun k hk => setRec_skip hmask (hside k hk), fun k hk => setRec_skip hmask (hen k hk)⟩

/-- The state after the bits of SET below `m`. -/
def State.setBitsOf (s : State) (j grp w m : Nat) : State :=
  (List.range m).foldl (fun s k => if w.testBit (4 + k) then s.jetSetBit j grp k (w.testBit k) else s) s

theorem State.setBitsOf_leaves (s : State) (j grp w m : Nat) : JetOp s (s.setBitsOf j grp w m) j [] ∧
    (s.setBitsOf j grp w m).jet j = setRec (s.jet j) grp w m := by
  induction m with
  | zero => exact ⟨JetOp.refl s j [], rfl⟩
  | succ m ih =>
    obtain ⟨hk, hjet⟩ := ih
    have hsucc : s.setBitsOf j grp w (m + 1) =
        if w.testBit (4 + m) then (s.setBitsOf j grp w m).jetSetBit j grp m (w.testBit m) else s.setBitsOf j grp w m := by
      simp [State.setBitsOf, List.range_succ, List.foldl_append]
    rw [hsucc, setRec_succ]
    generalize s.setBitsOf j grp w m = u at *
    by_cases hmask : w.testBit (4 + m) = true
    · obtain ⟨hk2, hjet2⟩ := u.jetSetBit_leaves j grp m (w.testBit m) []
      rw [if_pos hmask, if_pos hmask]
      exact ⟨hk.trans hk2, by rw [hjet2, hjet]⟩
    · rw [if_neg hmask, if_neg hmask]
      exact ⟨hk, hjet⟩

theorem exec_jetSet (j : Fin 64) (s : State) : exec (.jetSet j) s = .next (s.finish (s.jetTick j.val 0x1)) := by rfl

theorem jetSet_does (j : Fin 64) {s : State} (h : s.jetAt j.val 0x1) {w : Nat} (hw : s.jetWord j.val = w) {old : Jet} (hold : s.jet j.val = old) :
    ∃ t, exec (.jetSet j) s = .next t ∧ s.jetDid t j.val { old with
        out := (t.jet j.val).out, side := (t.jet j.val).side, outEn := (t.jet j.val).outEn } [] ∧
      (∀ k, k < 8 → (t.jet j.val).out.getLsbD k =
        if k / 4 = bitsOf w 9 3 ∧ w.testBit (4 + k % 4) = true then w.testBit (k % 4) else old.out.getLsbD k) ∧
      (∀ k, k < 4 → (t.jet j.val).side.getLsbD k =
        if bitsOf w 9 3 = 2 ∧ w.testBit (4 + k) = true then w.testBit k else old.side.getLsbD k) ∧
      (∀ k, k < 8 → (t.jet j.val).outEn.getLsbD k =
        if 3 + k / 4 = bitsOf w 9 3 ∧ w.testBit (4 + k % 4) = true then w.testBit (k % 4) else old.outEn.getLsbD k) := by
  have htick : s.jetTick j.val 0x1 = (s.setBitsOf j.val (bitsOf w 9 3) w 4).jetNext j.val := by
    rw [State.jetTick_eq h, hw]
    rfl
  obtain ⟨hk, hjet⟩ := s.setBitsOf_leaves j.val (bitsOf w 9 3) w 4
  obtain ⟨hrest, hout, hside, hen⟩ := setRec_spec (s.jet j.val) (bitsOf w 9 3) w (m := 4) (by omega)
  rw [exec_jetSet, htick]
  generalize s.setBitsOf j.val (bitsOf w 9 3) w 4 = a at *
  generalize setRec (s.jet j.val) (bitsOf w 9 3) w 4 = u at *
  have hd := hk.done h.1 List.not_mem_nil hjet (by rw [hrest]) (by rw [hrest]) (by rw [hrest])
  generalize a.jetNext j.val = t at *
  have hfin := hd.did.2.2
  refine ⟨t, congrArg _ hd.finish, ?_, fun k hk => ?_, fun k hk => ?_, fun k hk => ?_⟩
  · have hv : { old with out := (t.jet j.val).out, side := (t.jet j.val).side, outEn := (t.jet j.val).outEn } = u := by
      rw [hfin, hrest, hold]
    rw [hv]
    exact hd.did
  · have hlt : k % 4 < 4 := by omega
    rw [hfin, hout k hk, hold]
    simp only [hlt, true_and]
  · rw [hfin, hside k hk, hold]
    simp only [hk, true_and]
  · have hlt : k % 4 < 4 := by omega
    rw [hfin, hen k hk, hold]
    simp only [hlt, true_and]

end Sys2Proof.Machine
end

section
/-! PROOF of JetWords (R318 to R322, R324): SEND, LOAD and POST, and the whole. -/

namespace Sys2Proof.Machine

/- One evaluation after another: each of them, left to itself, would hold a thread. -/
set_option Elab.async false

/-! ### SEND -/

theorem exec_jetSend (j : Fin 64) (s : State) : exec (.jetSend j) s = .next (s.finish (s.jetTick j.val 0x2)) := by rfl

/-- The level that SEND sends (R321). -/
def State.sendBit (s : State) (j : Nat) : Bool :=
  if (s.jet j).cur = 0 then s.flag (JET_FRAME.IDLE j) else (s.jetD j).getLsbD (if s.flag (JET_FRAME.ORDER j) then 31 else 0)

/-- D after SEND has taken its bit. -/
def State.sendD (s : State) (j : Nat) : State :=
  if (s.jet j).cur = 0 then s else s.wr (JET_D.off j) (if s.flag (JET_FRAME.ORDER j) then s.jetD j <<< 1 else s.jetD j >>> 1)

theorem State.sendD_leaves (s : State) (j : Nat) : JetOp s (s.sendD j) j [JET_D.off j] ∧ (s.sendD j).jets = s.jets ∧ (s.sendD j).pins = s.pins ∧
    (s.sendD j).jetD j = (if (s.jet j).cur = 0 then s.jetD j else if s.flag (JET_FRAME.ORDER j) then s.jetD j <<< 1 else s.jetD j >>> 1) := by
  unfold State.sendD
  by_cases h0 : (s.jet j).cur = 0
  · rw [if_pos h0, if_pos h0]
    exact ⟨JetOp.refl s j _, rfl, rfl, rfl⟩
  · rw [if_neg h0, if_neg h0]
    generalize (if s.flag (JET_FRAME.ORDER j) = true then s.jetD j <<< 1 else s.jetD j >>> 1) = d
    exact ⟨JetOp.wr s d j List.mem_cons_self, s.wr_jets _ d, s.wr_pins _ d, s.rd_wr_same _ d⟩

/-- The record of a Jet that has sent a bit at slot `k`. -/
def sendRec (v : Jet) (k : Nat) (b : Bool) : Jet := { v with out := putBit v.out k b, cur := v.cur - 1 }

theorem State.jetSend_eq (s : State) (j w : Nat) : s.jetSend j w =
    (((s.sendD j).setJet j (sendRec (s.jet j) (bitsOf w 9 3) (s.sendBit j))).driveOut j (bitsOf w 9 3)).jetNext j := by
  have hb : (if (s.jet j).cur = 0 then s.flag (JET_FRAME.IDLE j) else if s.flag (JET_FRAME.ORDER j) then (s.jetD j).getLsbD 31 else (s.jetD j).getLsbD 0) =
      s.sendBit j := by
    unfold State.sendBit
    cases s.flag (JET_FRAME.ORDER j) <;> rfl
  unfold State.jetSend
  dsimp only
  rw [hb]
  rfl

theorem jetD_keys (j : Fin 64) (k : Fin 8) {n : Nat} (_ : n < 256) : JET_OMAP.off j.val (k.val / 4) ∉ [JET_D.off j.val] ∧ JET_MAPEN.off j.val ∉ [JET_D.off j.val] ∧
    FIO_PIN_CFG.off n ∉ [JET_D.off j.val] ∧ FH_STAT.off ∉ [JET_D.off j.val] := by
  simp only [List.mem_singleton, JET_OMAP.off, JET_MAPEN.off, JET_D.off, FIO_PIN_CFG.off, FH_STAT.off]
  omega

theorem jetSend_does (j : Fin 64) {s : State} (h : s.jetAt j.val 0x2) {k n : Nat} (hkk : bitsOf (s.jetWord j.val) 9 3 = k) (hn : s.outPin j.val k = n)
    {old : Jet} (hold : s.jet j.val = old) {up : Bool} (hup : s.flag (JET_FRAME.ORDER j.val) = up) {b : Bool}
    (hb : (if old.cur = 0 then s.flag (JET_FRAME.IDLE j.val) else (s.jetD j.val).getLsbD (if up then 31 else 0)) = b) :
    ∃ t, exec (.jetSend j) s = .next t ∧ s.jetDid t j.val { old with cur := old.cur - 1, out := (t.jet j.val).out } [JET_D.off j.val] ∧
      (∀ i, i < 8 → (t.jet j.val).out.getLsbD i = if i = k then b else old.out.getLsbD i) ∧
      t.jetD j.val = (if old.cur = 0 then s.jetD j.val else if up then s.jetD j.val <<< 1 else s.jetD j.val >>> 1) ∧
      ((s.g (JET_MAPEN.OUT_EN j.val)).testBit k = true → s.owner n = 2 → s.g (FIO_PIN_CFG.JET n) = j.val → s.flag FH_STAT.SAFE = false →
        t.pins.padLevel.getLsbD n = b ∧ t.pins.padEn.getLsbD n = old.outEn.getLsbD k) ∧
      (∀ x, x ≠ n → t.pins.padLevel.getLsbD x = s.pins.padLevel.getLsbD x ∧ t.pins.padEn.getLsbD x = s.pins.padEn.getLsbD x) := by
  have hk8 : k < 8 := hkk ▸ bitsOf_lt _ 9 3
  have hn256 : n < 256 := hn ▸ s.outPin_lt j.val k
  have hsb : s.sendBit j.val = b := by rw [State.sendBit, hold, hup, hb]
  have htick : s.jetTick j.val 0x2 = (((s.sendD j.val).setJet j.val (sendRec old k b)).driveOut j.val k).jetNext j.val := by
    have hdef : s.jetTick j.val 0x2 = s.jetSend j.val (s.jetWord j.val) := State.jetTick_eq h
    rw [hdef, State.jetSend_eq, hkk, hold, hsb]
  obtain ⟨hom, hme, hfio, hfh⟩ := jetD_keys j ⟨k, hk8⟩ hn256
  obtain ⟨hk1, hjets1, hpins1, hd1⟩ := s.sendD_leaves j.val
  rw [hold, hup] at hd1
  rw [exec_jetSend, htick]
  generalize s.sendD j.val = a at *
  have hk2 := hk1.trans (JetOp.setJet a j.val (sendRec old k b) _)
  have hjet2 := a.setJet_jet_same j.val (sendRec old k b)
  have hpins2 := (a.setJet_pins j.val (sendRec old k b)).trans hpins1
  have hd2 : (a.setJet j.val (sendRec old k b)).jetD j.val = a.jetD j.val := a.setJet_rd _ _ _
  generalize a.setJet j.val (sendRec old k b) = c at *
  have hpin : c.outPin j.val k = n := by rw [← hn, State.outPin, State.outPin, hk2.same _ hom]
  obtain ⟨hk3, hjets3, hpad3, hne3⟩ := c.driveOut_leaves j.val k [JET_D.off j.val]
  have hk30 := (c.driveOut_leaves j.val k []).1
  rw [hpin] at hpad3 hne3
  have hd3 : (c.driveOut j.val k).jetD j.val = c.jetD j.val := hk30.same _ List.not_mem_nil
  generalize c.driveOut j.val k = u at *
  have hjet3 : u.jet j.val = sendRec old k b := (State.jet_of_jets hjets3 j.val).trans hjet2
  have hd := (hk2.trans hk3).done h.1 (jetPc_not_d j.val) hjet3 (by rw [hold]; rfl) (by rw [hold]; rfl) (by rw [hold]; rfl)
  generalize u.jetNext j.val = t at *
  have hfin := hd.did.2.2
  have hout : ∀ i, i < 8 → (sendRec old k b).out.getLsbD i = if i = k then b else old.out.getLsbD i := fun i hi => putBit_bit old.out k b hi
  refine ⟨t, congrArg _ hd.finish, ?_, fun i hi => ?_, ?_, fun hme' ho hj hs => ?_, fun x hx => ?_⟩
  · have hv : { old with cur := old.cur - 1, out := (t.jet j.val).out } = sendRec old k b := by rw [hfin]; rfl
    rw [hv]
    exact hd.did
  · rw [hfin]
    exact hout i hi
  · rw [← hd1, ← hd2, ← hd3]
    exact hd.kept.same _ (jetD_not_pc j.val)
  · obtain ⟨hl, he⟩ := hpad3 (by rw [hk2.g (f := JET_MAPEN.OUT_EN j.val) hme]; exact hme') (by rw [State.owner, hk2.g (f := FIO_PIN_CFG.OWNER n) hfio]; exact ho)
      (by rw [hk2.g (f := FIO_PIN_CFG.JET n) hfio]; exact hj) (by rw [hk2.flag (f := FH_STAT.SAFE) hfh]; exact hs)
    rw [hd.pins, hl, he, hjet2]
    exact ⟨(hout k hk8).trans (if_pos rfl), rfl⟩
  · rw [hd.pins, (hne3 x hx).1, (hne3 x hx).2, hpins2]
    exact ⟨rfl, rfl⟩

/-! ### LOAD -/

theorem exec_jetLoad (j : Fin 64) (s : State) : exec (.jetLoad j) s = .next (s.finish (s.jetTick j.val 0x4)) := by rfl

/-- A word as LOAD puts it in D (R321). -/
def State.loadD (s : State) (j : Nat) (x : Word) : Word := if s.flag (JET_FRAME.ORDER j) then x <<< (32 - s.frameW j) else x

theorem State.loadWord_eq (s : State) (j : Nat) (x : Word) : s.loadWord j x = s.putFrame j (s.loadD j x) { s.jet j with cur := s.frameW j } := rfl

/-- The completion of a word seen from a state with the same record and address. -/
theorem jetStepped_from {s u t : State} {j : Nat} (hjet : u.jet j = s.jet j) (hpc : u.g (JET_PC.PC j) = s.g (JET_PC.PC j)) (h : u.jetStepped t j) :
    s.jetStepped t j := by
  unfold State.jetStepped at h ⊢
  rw [hjet, hpc] at h
  exact h

theorem jetLoad_point (j : Fin 64) {s : State} (h : s.jetAt j.val 0x4) (hen : s.flag (JET_PNT_TX.EN j.val) = true)
    (hq : s.flag (JET_PNT_TX.QGATE j.val) = false) (hyoung : s.pointOld (s.g (JET_PNT_TX.POINT j.val)) = false)
    (hgood : s.tileGood (s.g (JET_PNT_TX.POINT j.val) / 16)) :
    ∃ t, exec (.jetLoad j) s = .next t ∧ s.jetStepped t j.val ∧ (∀ i, i ≠ j.val → t.jet i = s.jet i) ∧
      t.jet j.val = { s.jet j.val with cur := s.frameW j.val, lcnt := (t.jet j.val).lcnt, seen := false } ∧ t.pts.recs = s.pts.recs ∧
      s.sameRegs t [JET_PC.off j.val, JET_STAT.off j.val, JET_D.off j.val] ∧
      t.jetD j.val = s.loadD j.val ((s.pt (s.g (JET_PNT_TX.POINT j.val))).value.setWidth 32) ∧ t.pins = s.pins := by
  obtain ⟨hpt, _, hold⟩ := s.pushTile_reads (s.g (JET_PNT_TX.POINT j.val) / 16) (s.g (JET_PNT_TX.POINT j.val))
  have hread : s.freshRead (s.g (JET_PNT_TX.POINT j.val)) = s.pushTile (s.g (JET_PNT_TX.POINT j.val) / 16) := by
    rw [State.freshRead, State.touchTile_good hgood, State.fresh_young (.inr (by rw [hold]; exact hyoung))]
  have hregs : (s.pushTile (s.g (JET_PNT_TX.POINT j.val) / 16)).regs = s.regs := rfl
  have hjets : (s.pushTile (s.g (JET_PNT_TX.POINT j.val) / 16)).jets = s.jets := rfl
  have hpins : (s.pushTile (s.g (JET_PNT_TX.POINT j.val) / 16)).pins = s.pins := rfl
  have hcalm : (s.pushTile (s.g (JET_PNT_TX.POINT j.val) / 16)).pending = s.pending ∧ (s.pushTile (s.g (JET_PNT_TX.POINT j.val) / 16)).resetReq = s.resetReq :=
    ⟨rfl, rfl⟩
  have hrecs := (s.pushTile_recs (s.g (JET_PNT_TX.POINT j.val) / 16)).1
  have htick : s.jetTick j.val 0x4 = ((s.freshRead (s.g (JET_PNT_TX.POINT j.val))).loadWord j.val
      (((s.freshRead (s.g (JET_PNT_TX.POINT j.val))).pt (s.g (JET_PNT_TX.POINT j.val))).value.setWidth 32)).jetNext j.val := by
    have hdef : s.jetTick j.val 0x4 = s.jetLoad j.val (s.jetWord j.val) := State.jetTick_eq h
    have hflag : (s.freshRead (s.g (JET_PNT_TX.POINT j.val))).flag (JET_PNT_TX.QGATE j.val) = false := by
      rw [hread, State.flag_of_regs hregs, hq]
    rw [hdef, State.jetLoad, if_pos hen, State.boundTx]
    dsimp only
    rw [hflag]
    rfl
  rw [exec_jetLoad, htick, hread, hpt]
  generalize (s.pt (s.g (JET_PNT_TX.POINT j.val))).value.setWidth 32 = x
  generalize s.pushTile (s.g (JET_PNT_TX.POINT j.val) / 16) = a at *
  have hjet : a.jet j.val = s.jet j.val := State.jet_of_jets hjets j.val
  have hw : a.frameW j.val = s.frameW j.val := by rw [State.frameW, State.frameW, State.g_of_regs hregs]
  have hl : a.loadD j.val x = s.loadD j.val x := by rw [State.loadD, State.loadD, State.flag_of_regs hregs, hw]
  rw [State.loadWord_eq, hjet, hw, hl]
  obtain ⟨hk, hp1, hj1, hd1⟩ := a.putFrame_leaves j.val (s.loadD j.val x) { s.jet j.val with cur := s.frameW j.val }
  generalize a.putFrame j.val (s.loadD j.val x) { s.jet j.val with cur := s.frameW j.val } = u at *
  have hdone := hk.done (hcalm.2.trans h.1) (jetPc_not_d j.val) hj1 (by rw [hjet]) (by rw [hjet]) (by rw [hjet])
  have hop := (hk.next (jetPc_not_d j.val) hj1 (by rw [hjet]) (by rw [hjet]) (by rw [hjet])).2.1
  generalize u.jetNext j.val = t at *
  refine ⟨t, congrArg _ (State.finish_kept ((hop.calm.2.1.trans hcalm.2).trans h.1) (hop.calm.1.trans hcalm.1)),
    jetStepped_from hjet (State.g_of_regs hregs _) hdone.did.1, fun i hi => (hop.others i hi).trans (State.jet_of_jets hjets i), hdone.did.2.2, ?_,
    fun k hk => (hop.same k hk).trans (State.rd_of_regs hregs k), (hdone.kept.same _ (jetD_not_pc j.val)).trans hd1,
    (hdone.pins.trans hp1).trans hpins⟩
  rw [hop.calm.2.2.1, hrecs]

theorem jetLoad_file (j : Fin 64) {s : State} (h : s.jetAt j.val 0x4) (hen : s.flag (JET_PNT_TX.EN j.val) = false) :
    ∃ t, exec (.jetLoad j) s = .next t ∧ t.pins = s.pins ∧
      (if (s.jet j.val).tx ≠ [] then s.jetDid t j.val { s.jet j.val with cur := s.frameW j.val, tx := (s.jet j.val).tx.tail } [JET_D.off j.val] ∧
          t.jetD j.val = s.loadD j.val ((s.jet j.val).tx.headD 0)
        else if (s.jetWord j.val).testBit 11 then s.jetDid t j.val { s.jet j.val with cur := 0 } []
        else t.g (JET_STAT.STATE j.val) = jsStallLoad ∧ t.jets = s.jets ∧ s.sameRegs t [JET_STAT.off j.val]) := by
  have htick : s.jetTick j.val 0x4 = s.jetLoad j.val (s.jetWord j.val) := State.jetTick_eq h
  rw [exec_jetLoad, htick, State.jetLoad, if_neg (by rw [hen]; exact Bool.false_ne_true)]
  cases htx : (s.jet j.val).tx with
  | cons x r =>
    dsimp only
    have hk1 := JetOp.setJet s j.val { s.jet j.val with tx := r } [JET_D.off j.val]
    have hp1 := s.setJet_pins j.val { s.jet j.val with tx := r }
    have hr1 := s.setJet_regs j.val { s.jet j.val with tx := r }
    have hj1 := s.setJet_jet_same j.val { s.jet j.val with tx := r }
    generalize s.setJet j.val { s.jet j.val with tx := r } = a at *
    have hw : a.frameW j.val = s.frameW j.val := by rw [State.frameW, State.frameW, State.g_of_regs hr1]
    have hl : a.loadD j.val x = s.loadD j.val x := by rw [State.loadD, State.loadD, State.flag_of_regs hr1, hw]
    rw [State.loadWord_eq, hj1, hw, hl]
    obtain ⟨hk2, hp2, hj2, hd2⟩ := a.putFrame_leaves j.val (s.loadD j.val x) { s.jet j.val with tx := r, cur := s.frameW j.val }
    change ∃ t, Host.Outcome.next (s.finish ((a.putFrame j.val (s.loadD j.val x) { s.jet j.val with tx := r, cur := s.frameW j.val }).jetNext j.val)) = _ ∧ _
    generalize a.putFrame j.val (s.loadD j.val x) { s.jet j.val with tx := r, cur := s.frameW j.val } = u at *
    have hd := (hk1.trans hk2).done h.1 (jetPc_not_d j.val) hj2
    generalize u.jetNext j.val = t at *
    refine ⟨t, congrArg _ hd.finish, (hd.pins.trans hp2).trans hp1, ?_⟩
    rw [if_pos (List.cons_ne_nil x r)]
    exact ⟨hd.did, (hd.kept.same _ (jetD_not_pc j.val)).trans hd2⟩
  | nil =>
    dsimp only
    by_cases hw : (s.jetWord j.val).testBit 11 = true
    · rw [if_pos hw]
      have hk1 := JetOp.setJet s j.val { s.jet j.val with cur := 0 } []
      have hp1 := s.setJet_pins j.val { s.jet j.val with cur := 0 }
      have hj1 := s.setJet_jet_same j.val { s.jet j.val with cur := 0 }
      generalize s.setJet j.val { s.jet j.val with cur := 0 } = a at *
      have hd := hk1.done h.1 List.not_mem_nil hj1
      generalize a.jetNext j.val = t at *
      exact ⟨t, congrArg _ hd.finish, hd.pins.trans hp1, by rw [if_neg (fun hc => hc rfl), if_pos hw]; exact hd.did⟩
    · rw [if_neg hw]
      obtain ⟨hk, hp, hj, hst⟩ := s.jetHold_leaves j.val (st := jsStallLoad) (by decide)
      generalize s.jetHold j.val jsStallLoad = t at *
      exact ⟨t, congrArg _ (hk.finish h.1), hp, by rw [if_neg (fun hc => hc rfl), if_neg hw]; exact ⟨hst, hj, hk.same⟩⟩

/-! ### POST -/

theorem exec_jetPost (j : Fin 64) (s : State) : exec (.jetPost j) s = .next (s.finish (s.jetTick j.val 0x5)) := by rfl

/-- The word that POST gives (R321). -/
def State.postX (s : State) (j : Nat) : Word := postWord (s.flag (JET_FRAME.ORDER j)) (s.jetD j) (s.jet j).cur

theorem State.postClear_eq (s : State) (j : Nat) : s.postClear j = s.putFrame j 0 { s.jet j with cur := 0 } := rfl

/-- A point's record after its owner's write, its tile sound or not. -/
theorem State.ownerWrite_pt {s : State} {i v stamp q : Nat} (ht : (s.pt i).typ ≠ tyUndef) (henc : encOk (s.pt i).typ (v % 2 ^ 64) = true) :
    (s.ownerWrite i v stamp q).pt i = ⟨BitVec.ofNat 64 v, stamp % 2 ^ 48, q, (s.pt i).typ⟩ := by
  rw [State.ownerWrite, if_neg ht, henc, if_neg (by simp)]
  generalize s.touchTile (i / 16) = a
  generalize (⟨BitVec.ofNat 64 v, stamp % 2 ^ 48, q, (s.pt i).typ⟩ : PRec) = r
  have hst := a.putRec_stored i r
  generalize a.putRec i r = u at *
  rw [State.pt_of_recs (u.refreshPt_leaves i []).2.1 i]
  exact hst.pt_same

theorem jet_not_tile (j : Fin 64) : JET_PC.off j.val ∉ Beside.tileRegs ∧ JET_D.off j.val ∉ Beside.tileRegs ∧ fixedKey (JET_PC.off j.val) = true := by
  revert j
  decide +kernel

theorem encOk_u32 (x : Word) : encOk tyU32 (x.toNat % 2 ^ 64) = true := by
  have hlt : x.toNat % 2 ^ 64 < 2 ^ 32 := by
    have := x.isLt
    omega
  rw [encOk]
  simp only [tyU32, tyUndef, tyBit, tyU16]
  simpa using hlt

theorem jetPost_point (j : Fin 64) {s : State} (h : s.jetAt j.val 0x5) (hen : s.flag (JET_PNT_RX.EN j.val) = true) {i : Nat}
    (hi : s.g (JET_PNT_RX.POINT j.val) = i) (ht : (s.pt i).typ = tyU32) :
    ∃ t, exec (.jetPost j) s = .next t ∧
      (t.pt i).value = (s.postX j.val).setWidth 64 ∧ (t.pt i).stamp = s.fns48 ∧ (t.pt i).qual = qGood ∧
      s.jetStepped t j.val ∧ t.jetD j.val = 0 ∧ t.jet j.val = { s.jet j.val with cur := 0, lcnt := (t.jet j.val).lcnt, seen := false } := by
  have htick : s.jetTick j.val 0x5 = ((s.ownerWrite i (s.postX j.val).toNat s.fns48 qGood).postClear j.val).jetNext j.val := by
    have hdef : s.jetTick j.val 0x5 = s.jetPost j.val (s.jetWord j.val) := State.jetTick_eq h
    rw [hdef, State.jetPost, if_pos hen, hi]
    rfl
  have hb := Beside.ownerWrite s i (s.postX j.val).toNat s.fns48 qGood
  have hpt : (s.ownerWrite i (s.postX j.val).toNat s.fns48 qGood).pt i = ⟨BitVec.ofNat 64 (s.postX j.val).toNat, s.fns48 % 2 ^ 48, qGood, (s.pt i).typ⟩ :=
    State.ownerWrite_pt (by rw [ht]; decide) (by rw [ht]; exact encOk_u32 _)
  obtain ⟨hpc, _, hfix⟩ := jet_not_tile j
  rw [exec_jetPost, htick, State.postClear_eq]
  generalize s.ownerWrite i (s.postX j.val).toNat s.fns48 qGood = a at *
  have hjet : a.jet j.val = s.jet j.val := State.jet_of_jets hb.jets j.val
  rw [hjet]
  obtain ⟨hk, _, hj1, hd1⟩ := a.putFrame_leaves j.val 0 { s.jet j.val with cur := 0 }
  generalize a.putFrame j.val 0 { s.jet j.val with cur := 0 } = u at *
  have hop := (hk.next (jetPc_not_d j.val) hj1 (by rw [hjet]) (by rw [hjet]) (by rw [hjet])).2.1
  have hdone := hk.done (hb.resetReq.trans h.1) (jetPc_not_d j.val) hj1 (by rw [hjet]) (by rw [hjet]) (by rw [hjet])
  generalize u.jetNext j.val = t at *
  have hrec : t.pt i = a.pt i := State.pt_of_recs (by rw [hop.calm.2.2.1]) i
  have hstamp : s.fns48 % 2 ^ 48 = s.fns48 := Nat.mod_eq_of_lt s.fns48_lt
  have hfin := hrec.trans hpt
  refine ⟨t, congrArg _ (State.finish_kept ((hop.calm.2.1.trans hb.resetReq).trans h.1) (hop.calm.1.trans hb.pending)), ?_, by rw [hfin]; exact hstamp,
    by rw [hfin],
    jetStepped_from hjet (hb.toEff.g hpc hfix) hdone.did.1, (hdone.kept.same _ (jetD_not_pc j.val)).trans hd1, hdone.did.2.2⟩
  rw [hfin]
  exact BitVec.ofNat_toNat _ _

theorem jetPost_file (j : Fin 64) {s : State} (h : s.jetAt j.val 0x5) (hen : s.flag (JET_PNT_RX.EN j.val) = false)
    (hn : (s.rd (JET_POST_DROP.off j.val)).toNat + 1 < 0xFFFFFFFF) :
    ∃ t, exec (.jetPost j) s = .next t ∧ t.pins = s.pins ∧
      (if (s.jet j.val).rx.length < 4 then
        s.jetDid t j.val { s.jet j.val with cur := 0, rx := (s.jet j.val).rx ++ [s.postX j.val] } [JET_D.off j.val] ∧ t.jetD j.val = 0
      else if (s.jetWord j.val).testBit 11 then
        s.jetDid t j.val { s.jet j.val with cur := 0 } [JET_D.off j.val, JET_POST_DROP.off j.val] ∧ t.jetD j.val = 0 ∧
          (t.rd (JET_POST_DROP.off j.val)).toNat = (s.rd (JET_POST_DROP.off j.val)).toNat + 1
      else t.g (JET_STAT.STATE j.val) = jsStallPost ∧ t.jets = s.jets ∧ s.sameRegs t [JET_STAT.off j.val]) := by
  have htick : s.jetTick j.val 0x5 = if (s.jet j.val).rx.length < 4 then
        ((s.setJet j.val { s.jet j.val with rx := (s.jet j.val).rx ++ [s.postX j.val] }).postClear j.val).jetNext j.val
      else if (s.jetWord j.val).testBit 11 then ((s.count (JET_POST_DROP.off j.val)).postClear j.val).jetNext j.val
      else s.jetHold j.val jsStallPost := by
    have hdef : s.jetTick j.val 0x5 = s.jetPost j.val (s.jetWord j.val) := State.jetTick_eq h
    rw [hdef, State.jetPost, if_neg (by rw [hen]; exact Bool.false_ne_true)]
    rfl
  rw [exec_jetPost, htick]
  by_cases hroom : (s.jet j.val).rx.length < 4
  · rw [if_pos hroom]
    have hk1 := JetOp.setJet s j.val { s.jet j.val with rx := (s.jet j.val).rx ++ [s.postX j.val] } [JET_D.off j.val]
    have hp1 := s.setJet_pins j.val { s.jet j.val with rx := (s.jet j.val).rx ++ [s.postX j.val] }
    have hj1 := s.setJet_jet_same j.val { s.jet j.val with rx := (s.jet j.val).rx ++ [s.postX j.val] }
    generalize s.setJet j.val { s.jet j.val with rx := (s.jet j.val).rx ++ [s.postX j.val] } = a at *
    rw [State.postClear_eq, hj1]
    obtain ⟨hk2, hp2, hj2, hd2⟩ := a.putFrame_leaves j.val 0 { s.jet j.val with rx := (s.jet j.val).rx ++ [s.postX j.val], cur := 0 }
    change ∃ t, Host.Outcome.next (s.finish ((a.putFrame j.val 0
      { s.jet j.val with rx := (s.jet j.val).rx ++ [s.postX j.val], cur := 0 }).jetNext j.val)) = _ ∧ _
    generalize a.putFrame j.val 0 { s.jet j.val with rx := (s.jet j.val).rx ++ [s.postX j.val], cur := 0 } = u at *
    have hd := (hk1.trans hk2).done h.1 (jetPc_not_d j.val) hj2
    generalize u.jetNext j.val = t at *
    refine ⟨t, congrArg _ hd.finish, (hd.pins.trans hp2).trans hp1, ?_⟩
    rw [if_pos hroom]
    exact ⟨hd.did, (hd.kept.same _ (jetD_not_pc j.val)).trans hd2⟩
  rw [if_neg hroom]
  by_cases hw : (s.jetWord j.val).testBit 11 = true
  · rw [if_pos hw]
    have hdrop : JET_POST_DROP.off j.val ∉ [JET_PC.off j.val, JET_STAT.off j.val] ∧ JET_POST_DROP.off j.val ∉ [JET_D.off j.val] ∧
        JET_PC.off j.val ∉ [JET_D.off j.val, JET_POST_DROP.off j.val] := by
      simp only [List.mem_cons, List.not_mem_nil, or_false, JET_POST_DROP.off, JET_PC.off, JET_STAT.off, JET_D.off]
      omega
    have hcnt := s.count_toNat _ hn
    have hcop : JetOp s (s.count (JET_POST_DROP.off j.val)) j.val [JET_D.off j.val, JET_POST_DROP.off j.val] := by
      rw [s.count_eq _ hn]
      exact JetOp.wr s _ j.val (List.mem_cons_of_mem _ List.mem_cons_self)
    have hcp : (s.count (JET_POST_DROP.off j.val)).pins = s.pins ∧ (s.count (JET_POST_DROP.off j.val)).jets = s.jets := by
      rw [s.count_eq _ hn]
      exact ⟨s.wr_pins _ _, s.wr_jets _ _⟩
    generalize s.count (JET_POST_DROP.off j.val) = a at *
    have hjet : a.jet j.val = s.jet j.val := State.jet_of_jets hcp.2 j.val
    rw [State.postClear_eq, hjet]
    obtain ⟨hk2, hp2, hj2, hd2⟩ := a.putFrame_leaves j.val 0 { s.jet j.val with cur := 0 }
    generalize a.putFrame j.val 0 { s.jet j.val with cur := 0 } = u at *
    have hd := (hcop.trans (hk2.mono (by simp))).done h.1 hdrop.2.2 hj2
    generalize u.jetNext j.val = t at *
    refine ⟨t, congrArg _ hd.finish, (hd.pins.trans hp2).trans hcp.1, ?_⟩
    rw [if_neg hroom, if_pos hw, hd.kept.same _ hdrop.1, hk2.same _ hdrop.2.1, hcnt]
    exact ⟨hd.did, (hd.kept.same _ (jetD_not_pc j.val)).trans hd2, rfl⟩
  · rw [if_neg hw]
    obtain ⟨hk, hp, hj, hst⟩ := s.jetHold_leaves j.val (st := jsStallPost) (by decide)
    generalize s.jetHold j.val jsStallPost = t at *
    exact ⟨t, congrArg _ (hk.finish h.1), hp, by rw [if_neg hroom, if_neg hw]; exact ⟨hst, hj, hk.same⟩⟩

/-! ### The whole -/

/-- Settles O49. -/
theorem jetWords : Obligations.JetWords := by
  refine ⟨fun j s h => jetGoto_does j h, fun j s h => jetSet_does j h rfl rfl, fun j s h => jetSend_does j h rfl rfl rfl rfl rfl,
    fun j s h => jetRecv_does j h rfl, fun j s h => ⟨fun hen hq hy hg => jetLoad_point j h hen hq hy hg, fun hen => jetLoad_file j h hen⟩,
    fun j s h => ⟨fun hen ht => jetPost_point j h hen rfl ht, fun hen hn => jetPost_file j h hen hn⟩, fun j s h => ?_, fun j s h => jetRep_does j h,
    fun j s h => ?_, fun j s h => jetMark_does j h rfl, fun j s h => jetPack_does j h rfl, fun j s h => jetSig_does j h rfl,
    fun j s hs hruns hill => jetFault_stops j hs hruns hill⟩
  · dsimp only
    rw [nRef_not]
    exact jetNset_does j h rfl
  · have htick : s.jetTick j.val 0x8 = s.jetWaite j.val (s.jetWord j.val) := State.jetTick_eq h
    have hk4 : bitsOf (s.jetWord j.val) 10 2 < 4 := bitsOf_lt _ 10 2
    rw [exec_jetWaite, htick]
    by_cases hk : bitsOf (s.jetWord j.val) 10 2 < 3
    · rw [s.jetWaite_level j.val _ hk]
      obtain ⟨hfin, hpins, hlevel⟩ := State.waitLevel_leaves (j := j.val) h.1 (decide (bitsOf (s.jetWord j.val) 10 2 = 2))
        (decide ((if bitsOf (s.jetWord j.val) 10 2 = 1 then s.sig j.val (bitsOf (s.jetWord j.val) 6 3) else s.slotIn j.val (bitsOf (s.jetWord j.val) 6 3)) =
          (s.jetWord j.val).testBit 9))
      refine ⟨_, congrArg _ hfin, hpins, fun _ => ?_, fun h3 => absurd h3 (by omega)⟩
      simpa only [decide_eq_true_eq, decide_not] using hlevel
    · have hk3 : bitsOf (s.jetWord j.val) 10 2 = 3 := by omega
      rw [s.jetWaite_count j.val _ hk3]
      obtain ⟨hfin, hpins, hcount⟩ := State.waitCount_leaves (j := j.val) h.1 ((s.jetWord j.val).testBit 5)
      exact ⟨_, congrArg _ hfin, hpins, fun h3 => absurd h3 hk, fun _ => hcount⟩

end Sys2Proof.Machine
end

section
/-! The rows of the Jets' and the field pins' registers (R26, R333), said for a whole family at once: rows whose places within their common
stride rise in the table do not overlap, so the row that defines an offset is the one that has it. -/

namespace Sys2Proof.Machine

/- One evaluation after another: each of them, left to itself, would hold a thread. -/
set_option Elab.async false

/-! ### Rows of one stride -/

/-- The last offset that a family's dimensions reach. -/
def dimsExt : List (Nat × Nat) → Nat
  | [] => 0
  | (s, n) :: r => s * (n - 1) + dimsExt r

theorem dimsHas_ext {l : List (Nat × Nat)} {d : Nat} (h : dimsHas l d = true) : d ≤ dimsExt l := by
  induction l generalizing d with
  | nil =>
    simp only [dimsHas, beq_iff_eq] at h
    exact Nat.le_of_eq h
  | cons e r ih =>
    obtain ⟨s, n⟩ := e
    simp only [dimsHas, Bool.and_eq_true, decide_eq_true_eq] at h
    have hrest := ih h.2
    have hdiv := Nat.div_add_mod d s
    have hmul : s * (d / s) ≤ s * (n - 1) := Nat.mul_le_mul_left s (by omega)
    simp only [dimsExt]
    omega

/-- A row whose places within the stride `t` all come before those of another row of that stride. -/
def RegRow.before (t : Nat) (a b : RegRow) : Bool :=
  match a.dims, b.dims with
  | (x, _) :: ra, (y, _) :: rb => x == t && y == t && decide (a.base % t + dimsExt ra < b.base % t) && decide (b.base % t + dimsExt rb < t)
  | _, _ => false

/-- The place within the stride of an offset that a row has. -/
theorem RegRow.has_place {r : RegRow} {t n off : Nat} {tail : List (Nat × Nat)} (hd : r.dims = (t, n) :: tail) (h : r.has off = true)
    (hfit : r.base % t + dimsExt tail < t) : r.base % t ≤ off % t ∧ off % t ≤ r.base % t + dimsExt tail := by
  simp only [RegRow.has, hd, dimsHas, Bool.and_eq_true, decide_eq_true_eq] at h
  obtain ⟨hbase, _, htail⟩ := h
  have hext := dimsHas_ext htail
  obtain ⟨d, rfl⟩ := Nat.exists_eq_add_of_le hbase
  rw [Nat.add_sub_cancel_left] at hext
  have hmod : (r.base + d) % t = r.base % t + d % t := by
    rw [Nat.add_mod, Nat.mod_eq_of_lt (by omega)]
  omega

/-- Of two rows in order only one has an offset. -/
theorem RegRow.before_apart {t : Nat} {a b : RegRow} {off : Nat} (h : a.before t b = true) (hb : b.has off = true) : a.has off = false := by
  unfold RegRow.before at h
  split at h
  · next x na ra y nb rb hda hdb =>
    simp only [Bool.and_eq_true, beq_iff_eq, decide_eq_true_eq] at h
    obtain ⟨⟨⟨rfl, rfl⟩, hlt⟩, hfit⟩ := h
    have h2 := RegRow.has_place hdb hb hfit
    by_contra hc
    have h1 := RegRow.has_place hda (by simpa using hc) (by omega)
    omega
  · exact absurd h Bool.false_ne_true

/-- The row that has an offset is found, where the rows before it are in order. -/
theorem find_row {t : Nat} {pre post : List RegRow} {r : RegRow} {off : Nat} (hp : pre.Pairwise (fun a b => a.before t b = true)) (hr : r ∈ pre)
    (h : r.has off = true) : (pre ++ post).find? (fun x => x.has off) = some r := by
  induction pre with
  | nil => exact absurd hr List.not_mem_nil
  | cons a pre ih =>
    obtain ⟨ha, hp⟩ := List.pairwise_cons.1 hp
    rcases List.mem_cons.1 hr with rfl | hr
    · exact List.find?_cons_of_pos h
    · rw [List.cons_append, List.find?_cons_of_neg (by rw [RegRow.before_apart (ha r hr) h]; exact Bool.false_ne_true)]
      exact ih hp hr

/-! ### Multi-word values -/

/-- No multi-word value reaches a range of offsets. -/
def mwClear (lo hi : Nat) : Bool := mwTable.all (fun e => decide (e.1 + 4 * e.2.2 + dimsExt e.2.1 ≤ lo) || decide (hi ≤ e.1))

theorem mwGroup_clear {lo hi off : Nat} (h : mwClear lo hi = true) (hlo : lo ≤ off) (hhi : off < hi) : mwGroup off = none := by
  unfold mwGroup
  refine List.findSome?_eq_none_iff.2 fun e he => List.findSome?_eq_none_iff.2 fun i hi' => ?_
  have hclear := List.all_eq_true.1 h e he
  simp only [Bool.or_eq_true, decide_eq_true_eq] at hclear
  have hi4 := List.mem_range.1 hi'
  refine if_neg fun hc => ?_
  have hext := dimsHas_ext hc.2
  omega

theorem mwClear_jets : mwClear 0x180000 0x1A1200 = true := by decide +kernel

theorem mwGroup_jets {off : Nat} (hlo : 0x180000 ≤ off) (hhi : off < 0x1A1200) : mwGroup off = none := mwGroup_clear mwClear_jets hlo hhi

theorem ownKey_jets {off : Nat} (hlo : 0x180000 ≤ off) (hhi : off < 0x1A1200) : ownKey off = true := by
  unfold ownKey isSel
  simp only [List.contains_cons, List.contains_nil, Bool.or_false, Bool.and_eq_true, Bool.not_eq_true', Bool.or_eq_false_iff, beq_eq_false_iff_ne,
    decide_eq_true_eq, decide_eq_false_iff_not, Bool.and_eq_false_iff]
  omega

/-- A register of one word at a row open to a class. -/
theorem regAlone_of {off c : Nat} {r : RegRow} (h : regRow off = some r) (hopen : (r.openTo c && r.fields.any (fun f => f.acc != .ro)) = true)
    (hmw : mwGroup off = none) : regAlone off c = true := by
  rw [regAlone, regOpen, rowAt_eq h, h, hmw]
  simpa using hopen

/-- A field of a row. -/
theorem hasField_of {off : Nat} {a : Acc} {g : FRef} {r : RegRow} (h : regRow off = some r)
    (hf : r.fields.any (fun f => f.acc == a && decide (f.lo ≤ g.lsb) && decide (g.lsb + g.width ≤ f.hi + 1)) = true) : hasField off a g = true := by
  rw [hasField, rowAt_eq h, h]
  simpa using hf

/-! ### The Jets -/

theorem regs18_rising : regs18.Pairwise (fun a b => a.before 0x400 b = true) := by decide +kernel

/-- The row of a register of a Jet. -/
theorem jetRow {r : RegRow} (hr : r ∈ regs18) {off : Nat} (hlo : 0x180000 ≤ off) (hhi : off < 0x190000) (h : r.has off = true) : regRow off = some r := by
  have hblk : off / 2 ^ 16 = 0x18 := by omega
  rw [regRow, hblk]
  have hfind := find_row (post := []) regs18_rising hr h
  rwa [List.append_nil] at hfind

/-- A row of one register for each Jet has each Jet's. -/
theorem jetRow_has {r : RegRow} {d : Nat} (hb : r.base = 0x180000 + d) (hd : r.dims = [(0x400, 64)]) (j : Fin 64) :
    r.has (0x180000 + d + j.val * 0x400) = true := by
  simp only [RegRow.has, hb, hd, dimsHas, Bool.and_eq_true, decide_eq_true_eq, beq_iff_eq]
  omega

def rowJetCtrl : RegRow :=
  ⟨0x180000, [(0x400, 64)], [⟨31, 31, .wo, .priv, 0⟩, ⟨30, 30, .wo, .priv, 0⟩, ⟨14, 8, .rw, .priv, 0⟩, ⟨5, 4, .rw, .priv, 0⟩, ⟨0, 0, .rw, .priv, 0⟩], none⟩
def rowJetPc : RegRow := ⟨0x180008, [(0x400, 64)], [⟨6, 0, .rw, .priv, 0⟩], none⟩
def rowJetTx : RegRow := ⟨0x18000C, [(0x400, 64)], [⟨31, 0, .wo, .priv, 0⟩], none⟩
def rowJetRxPop : RegRow := ⟨0x180014, [(0x400, 64)], [⟨31, 0, .wo, .priv, 0⟩], none⟩
def rowJetD : RegRow := ⟨0x180058, [(0x400, 64)], [⟨31, 0, .rw, .priv, 0⟩], none⟩
def rowJetProg : RegRow := ⟨0x180200, [(0x400, 64), (0x4, 128)], [⟨15, 0, .rw, .priv, 0⟩], none⟩

theorem jetRow_of {r : RegRow} {d : Nat} (hr : r ∈ regs18) (hb : r.base = 0x180000 + d) (hd : r.dims = [(0x400, 64)]) (hlt : d < 0x400) (j : Fin 64) :
    regRow (0x180000 + d + j.val * 0x400) = some r := jetRow hr (by omega) (by omega) (jetRow_has hb hd j)

theorem row_jetCtrl (j : Fin 64) : regRow (JET_CTRL.off j.val) = some rowJetCtrl := jetRow_of (d := 0) (by decide +kernel) rfl rfl (by decide) j
theorem row_jetPc (j : Fin 64) : regRow (JET_PC.off j.val) = some rowJetPc := jetRow_of (d := 8) (by decide +kernel) rfl rfl (by decide) j
theorem row_jetTx (j : Fin 64) : regRow (JET_TX.off j.val) = some rowJetTx := jetRow_of (d := 0xC) (by decide +kernel) rfl rfl (by decide) j
theorem row_jetRxPop (j : Fin 64) : regRow (JET_RX_POP.off j.val) = some rowJetRxPop := jetRow_of (d := 0x14) (by decide +kernel) rfl rfl (by decide) j
theorem row_jetD (j : Fin 64) : regRow (JET_D.off j.val) = some rowJetD := jetRow_of (d := 0x58) (by decide +kernel) rfl rfl (by decide) j

theorem row_jetProg (j : Fin 64) (k : Fin 128) : regRow (JET_PROG.off j.val k.val) = some rowJetProg := by
  refine jetRow (by decide +kernel) (by simp only [JET_PROG.off]; omega) (by simp only [JET_PROG.off]; omega) ?_
  have hb : rowJetProg.base = 0x180200 := rfl
  have hd : rowJetProg.dims = [(0x400, 64), (0x4, 128)] := rfl
  simp only [RegRow.has, hb, hd, JET_PROG.off, dimsHas, Bool.and_eq_true, decide_eq_true_eq, beq_iff_eq]
  omega

/-- An offset of a Jet's register. -/
theorem jet_off (j : Fin 64) {d : Nat} (hd : d < 0x400) : 0x180000 ≤ 0x180000 + d + j.val * 0x400 ∧ 0x180000 + d + j.val * 0x400 < 0x190000 := by omega

/-! ### The field pins -/

def rowPinCfg : RegRow :=
  ⟨0x1A0000, [(0x10, 256)], [⟨31, 30, .rw, .priv, 3⟩, ⟨29, 29, .rw, .priv, 0⟩, ⟨28, 28, .rw, .priv, 0⟩, ⟨27, 26, .rw, .priv, 0⟩, ⟨25, 24, .rw, .priv, 1⟩,
    ⟨23, 23, .rw, .priv, 0⟩, ⟨17, 16, .rw, .priv, 0⟩, ⟨13, 8, .rw, .priv, 0⟩], none⟩
def rowPinIn : RegRow :=
  ⟨0x1A0004, [(0x10, 256)], [⟨31, 31, .rw, .priv, 0⟩, ⟨30, 30, .rw, .priv, 0⟩, ⟨23, 20, .rw, .priv, 0⟩, ⟨17, 0, .rw, .priv, 0⟩], none⟩
def rowPinOut : RegRow :=
  ⟨0x1A0008, [(0x10, 256)], [⟨31, 31, .rw, .priv, 0⟩, ⟨30, 30, .rw, .priv, 0⟩, ⟨29, 29, .rw, .priv, 0⟩, ⟨17, 0, .rw, .priv, 0⟩], none⟩

theorem pinRows_rising : [rowPinCfg, rowPinIn, rowPinOut].Pairwise (fun a b => a.before 0x10 b = true) := by decide +kernel

theorem regs1A_pins : regs1A = [rowPinCfg, rowPinIn, rowPinOut] ++ regs1A.drop 3 := by decide +kernel

/-- The row of a register of a pin. -/
theorem pinRow {r : RegRow} {d : Nat} (hr : r ∈ [rowPinCfg, rowPinIn, rowPinOut]) (hb : r.base = 0x1A0000 + d) (hd : r.dims = [(0x10, 256)]) (hlt : d < 0x10)
    (n : Fin 256) : regRow (0x1A0000 + d + n.val * 0x10) = some r := by
  have hblk : (0x1A0000 + d + n.val * 0x10) / 2 ^ 16 = 0x1A := by omega
  rw [regRow, hblk]
  have hhas : r.has (0x1A0000 + d + n.val * 0x10) = true := by
    simp only [RegRow.has, hb, hd, dimsHas, Bool.and_eq_true, decide_eq_true_eq, beq_iff_eq]
    omega
  have hfind := find_row (post := regs1A.drop 3) pinRows_rising hr hhas
  rwa [← regs1A_pins] at hfind

theorem row_pinCfg (n : Fin 256) : regRow (FIO_PIN_CFG.off n.val) = some rowPinCfg := pinRow (d := 0) (by simp) rfl rfl (by decide) n
theorem row_pinIn (n : Fin 256) : regRow (FIO_PIN_IN.off n.val) = some rowPinIn := pinRow (d := 4) (by simp) rfl rfl (by decide) n
theorem row_pinOut (n : Fin 256) : regRow (FIO_PIN_OUT.off n.val) = some rowPinOut := pinRow (d := 8) (by simp) rfl rfl (by decide) n

/-! ### Dispatch -/

theorem State.blkTop_jet {s : State} {r : RegWr} (h1 : 0x180000 ≤ r.off) (h2 : r.off < 0x1A0000) : s.blkTop r = s.blkJet r := by
  unfold State.blkTop State.blkWrite
  simp only [UPD_CMD.off, UPD_INJ_CTRL.off, CFG_RESET.off, FH_CMD.off]
  simp (disch := omega) only [↓if_neg, ↓if_pos]

theorem State.blkTop_pins {s : State} {r : RegWr} (h1 : 0x1A0000 ≤ r.off) (h2 : r.off < 0x1C0000) : s.blkTop r = s.blkPins r := by
  unfold State.blkTop State.blkWrite
  simp only [UPD_CMD.off, UPD_INJ_CTRL.off, CFG_RESET.off, FH_CMD.off]
  simp (disch := omega) only [↓if_neg, ↓if_pos]

end Sys2Proof.Machine
end

section
/-! PROOF of JetCommandsAndPins (R323, R327 to R329): the registers of a Jet. -/

namespace Sys2Proof.Machine

/- One evaluation after another: each of them, left to itself, would hold a thread. -/
set_option Elab.async false

/-! ### Commands that write one register -/

/-- A state that shows the registers, the Jets, the pads, the points, the Cisterns, the CAN controllers and the flows of another. -/
structure Shows (u t : State) : Prop where
  regs : t.regs = u.regs
  jets : t.jets = u.jets
  pins : t.pins = u.pins
  pts : t.pts = u.pts
  cst : t.cst = u.cst
  can : t.can = u.can
  flow : t.flow = u.flow

/-- A command that writes a register of one word ends with its block's effect, shown and told. -/
theorem State.serves_told {s : State} {m : Master} {off c : Nat} (h : s.serves m off c) (ho : regAlone off c = true) {val : Word} {st : Nat} {u : State}
    (hb : s.blkTop (s.regWr m off val) = (st, u)) (hr : u.resetReq = none) (hp : u.pending = s.pending) :
    ∃ t, s.finish (s.regCmd m off 4 val) = t ∧ t.resp = some ⟨m.mid.val, st, []⟩ ∧ Shows u t :=
  ⟨_, State.serves_finish h ho hb hr hp, rfl, u.answer_regs .., u.answer_jets .., u.answer_pins .., u.answer_pts .., u.answer_cst .., u.answer_can ..,
    u.answer_flow ..⟩

namespace Shows

variable {u t : State}

theorem rd (h : Shows u t) (k : Nat) : t.rd k = u.rd k := State.rd_of_regs h.regs k
theorem g (h : Shows u t) (f : FRef) : t.g f = u.g f := State.g_of_regs h.regs f
theorem flag (h : Shows u t) (f : FRef) : t.flag f = u.flag f := State.flag_of_regs h.regs f
theorem jet (h : Shows u t) (j : Nat) : t.jet j = u.jet j := State.jet_of_jets h.jets j
theorem jetD (h : Shows u t) (j : Nat) : t.jetD j = u.jetD j := h.rd _
theorem same (h : Shows u t) {s : State} {l : List Nat} (hs : s.sameRegs u l) : s.sameRegs t l := fun k hk => (h.rd k).trans (hs k hk)

end Shows

/-- A field of one bit. -/
theorem FRef.get_bit {f : FRef} (hw : f.width = 1) (w : Word) : f.get w = b2n (w.getLsbD f.lsb) := by
  rw [FRef.get, hw, bitsOf, BitVec.getLsbD, b2n, Nat.testBit_eq_decide_div_mod_eq]
  by_cases h : w.toNat / 2 ^ f.lsb % 2 = 1
  · simp [h]
  · simp [h]
    omega

theorem b2n_inj {a b : Bool} (h : b2n a = b2n b) : a = b := by revert a b; decide

/-- The part written of a register that is one field. -/
theorem effWord_whole {off : Nat} {a : Acc} {f : FRef} (h : hasField off a f = true) (hl : f.lsb = 0) (hw : f.width = 32) (val : Word) :
    (rowAt off).effWord val = val := by
  have hg := effWord_get h val
  rw [f.get_whole hl hw, f.get_whole hl hw] at hg
  exact BitVec.eq_of_toNat_eq hg

/-! ### Dispatch of a Jet's registers -/

/-- The effect of a write of the register at place `d` of a Jet. -/
def State.jetReg (s : State) (j d : Nat) (r : RegWr) : Nat × State :=
  if d = 0 then s.jetCtrlWrite j r.new r.eff
  else if d = 0x08 then s.jetPcWrite j r.new
  else if d = 0x0C then s.jetTxWrite j r.eff
  else if d = 0x14 then s.jetRxPop j
  else if 0x1C ≤ d ∧ d ≤ 0x30 then s.jetMapWrite j r.off r.new
  else if d = 0x3C then s.jetPntWrite j r.off false r.new
  else if d = 0x40 then s.jetPntWrite j r.off true r.new
  else if d = 0x58 then s.jetDWrite j r.new
  else s.plain r

theorem State.blkTop_jetReg (s : State) {r : RegWr} (j : Fin 64) {d : Nat} (hd : d < 0x400) (h : r.off = 0x180000 + d + j.val * 0x400) :
    s.blkTop r = s.jetReg j.val d r := by
  rw [State.blkTop_jet (by omega) (by omega), State.blkJet]
  have hj : r.inst 0x180000 0x400 = j.val := by
    rw [RegWr.inst, h]
    omega
  have hplace : r.off % 0x400 = d := by omega
  rw [hj, hplace, if_neg (by omega)]
  rfl

/-- A Jet's register of one word, open to class 2. -/
theorem jetAlone (j : Fin 64) {d : Nat} {r : RegRow} (h : regRow (0x180000 + d + j.val * 0x400) = some r) (hd : d < 0x400)
    (hopen : (r.openTo 2 && r.fields.any (fun f => f.acc != .ro)) = true) : regAlone (0x180000 + d + j.val * 0x400) 2 = true :=
  regAlone_of h hopen (mwGroup_jets (by omega) (by omega))

/-- One counted. -/
theorem State.count_op (s : State) {k : Nat} (hn : (s.rd k).toNat + 1 < 0xFFFFFFFF) (j : Nat) :
    JetOp s (s.count k) j [k] ∧ (s.count k).jets = s.jets ∧ (s.count k).pins = s.pins ∧ ((s.count k).rd k).toNat = (s.rd k).toNat + 1 := by
  have hc := s.count_toNat k hn
  rw [s.count_eq k hn] at hc ⊢
  exact ⟨JetOp.wr s _ j List.mem_cons_self, s.wr_jets _ _, s.wr_pins _ _, hc⟩

section
variable {m : Master} (j : Fin 64) {s : State}

/-! ### The files (R323) -/

theorem jetTx_told (val : Word) (h : s.serves m (JET_TX.off j.val) 2) (hn : (s.rd (JET_TX_OVF.off j.val)).toNat + 1 < 0xFFFFFFFF) :
    ∃ t, exec (.jetTxWrite m j val) s = .next t ∧ t.toldOK m ∧ (∀ i, i ≠ j.val → t.jet i = s.jet i) ∧
      t.jet j.val = (if (s.jet j.val).tx.length < 4 then { s.jet j.val with tx := (s.jet j.val).tx ++ [val] } else s.jet j.val) ∧
      (t.rd (JET_TX_OVF.off j.val)).toNat = (s.rd (JET_TX_OVF.off j.val)).toNat + (if (s.jet j.val).tx.length < 4 then 0 else 1) ∧
      s.sameRegs t [JET_TX_OVF.off j.val] := by
  have hx : exec (.jetTxWrite m j val) s = .next (s.finish (s.regCmd m (JET_TX.off j.val) 4 val)) := by rfl
  have hopen : regAlone (JET_TX.off j.val) 2 = true := jetAlone (d := 0xC) j (row_jetTx j) (by decide) (by decide)
  have heff : (rowAt (JET_TX.off j.val)).effWord val = val :=
    effWord_whole (f := JET_TX.DATA j.val) (hasField_of (a := .wo) (row_jetTx j) (by simp [rowJetTx])) rfl rfl val
  have hb : s.blkTop (s.regWr m (JET_TX.off j.val) val) = s.jetTxWrite j.val (s.regWr m (JET_TX.off j.val) val).eff :=
    State.blkTop_jetReg (d := 0xC) s j (by decide) rfl
  have heff' : (s.regWr m (JET_TX.off j.val) val).eff = val := heff
  rw [heff', State.jetTxWrite] at hb
  rw [hx]
  by_cases hroom : (s.jet j.val).tx.length < 4
  · rw [if_pos hroom] at hb ⊢
    have hk := JetOp.setJet s j.val { s.jet j.val with tx := (s.jet j.val).tx ++ [val] } []
    have hj := s.setJet_jet_same j.val { s.jet j.val with tx := (s.jet j.val).tx ++ [val] }
    generalize s.setJet j.val { s.jet j.val with tx := (s.jet j.val).tx ++ [val] } = u at *
    obtain ⟨t, ht, htold, hshow⟩ := State.serves_told h hopen hb (hk.calm.2.1.trans (State.serves_noReset h)) hk.calm.1
    exact ⟨t, congrArg _ ht, htold, fun i hi => (hshow.jet i).trans (hk.others i hi), (hshow.jet _).trans hj,
      by rw [if_pos hroom, hshow.rd, hk.same _ List.not_mem_nil]; rfl, hshow.same (hk.mono (by simp)).same⟩
  · rw [if_neg hroom] at hb ⊢
    obtain ⟨hk, hj, _, hc⟩ := s.count_op hn j.val
    generalize s.count (JET_TX_OVF.off j.val) = u at *
    obtain ⟨t, ht, htold, hshow⟩ := State.serves_told h hopen hb (hk.calm.2.1.trans (State.serves_noReset h)) hk.calm.1
    exact ⟨t, congrArg _ ht, htold, fun i hi => (hshow.jet i).trans (hk.others i hi), (hshow.jet _).trans (State.jet_of_jets hj _),
      by rw [if_neg hroom, hshow.rd, hc], hshow.same hk.same⟩

theorem jetRxPop_told (val : Word) (h : s.serves m (JET_RX_POP.off j.val) 2) (hn : (s.rd (JET_RX_UNDER.off j.val)).toNat + 1 < 0xFFFFFFFF) :
    ∃ t, exec (.jetRxPop m j val) s = .next t ∧ t.toldOK m ∧ (∀ i, i ≠ j.val → t.jet i = s.jet i) ∧
      t.jet j.val = { s.jet j.val with rx := (s.jet j.val).rx.tail } ∧
      (t.rd (JET_RX_UNDER.off j.val)).toNat = (s.rd (JET_RX_UNDER.off j.val)).toNat + (if (s.jet j.val).rx = [] then 1 else 0) ∧
      s.sameRegs t [JET_RX_UNDER.off j.val] := by
  have hx : exec (.jetRxPop m j val) s = .next (s.finish (s.regCmd m (JET_RX_POP.off j.val) 4 val)) := by rfl
  have hopen : regAlone (JET_RX_POP.off j.val) 2 = true := jetAlone (d := 0x14) j (row_jetRxPop j) (by decide) (by decide)
  have hb : s.blkTop (s.regWr m (JET_RX_POP.off j.val) val) = s.jetRxPop j.val := State.blkTop_jetReg (d := 0x14) s j (by decide) rfl
  rw [hx]
  unfold State.jetRxPop at hb
  cases hrx : (s.jet j.val).rx with
  | nil =>
    rw [hrx] at hb
    obtain ⟨hk, hj, _, hc⟩ := s.count_op hn j.val
    generalize s.count (JET_RX_UNDER.off j.val) = u at *
    obtain ⟨t, ht, htold, hshow⟩ := State.serves_told h hopen hb (hk.calm.2.1.trans (State.serves_noReset h)) hk.calm.1
    refine ⟨t, congrArg _ ht, htold, fun i hi => (hshow.jet i).trans (hk.others i hi), ?_, by rw [if_pos rfl, hshow.rd, hc], hshow.same hk.same⟩
    rw [hshow.jet, State.jet_of_jets hj, List.tail_nil, ← hrx]
  | cons x r =>
    rw [hrx] at hb
    have hk := JetOp.setJet s j.val { s.jet j.val with rx := r } []
    have hj := s.setJet_jet_same j.val { s.jet j.val with rx := r }
    dsimp only at hb
    generalize s.setJet j.val { s.jet j.val with rx := r } = u at *
    obtain ⟨t, ht, htold, hshow⟩ := State.serves_told h hopen hb (hk.calm.2.1.trans (State.serves_noReset h)) hk.calm.1
    exact ⟨t, congrArg _ ht, htold, fun i hi => (hshow.jet i).trans (hk.others i hi), (hshow.jet _).trans hj,
      by rw [if_neg (List.cons_ne_nil x r), hshow.rd, hk.same _ List.not_mem_nil]; rfl, hshow.same (hk.mono (by simp)).same⟩

/-! ### PC, D and the words (R327, R328) -/

theorem jetPcWrite_told (val : Word) (h : s.serves m (JET_PC.off j.val) 2) :
    ∃ t, exec (.jetPcWrite m j val) s = .next t ∧ t.toldOK m ∧ t.g (JET_PC.PC j.val) = val.toNat % 128 ∧
      t.jet j.val = { s.jet j.val with lcnt := 0, seen := false } ∧
      t.g (JET_STAT.STATE j.val) = (if s.flag (JET_CTRL.RUN j.val) then jsRunning else jsStopped) ∧
      s.sameRegs t [JET_PC.off j.val, JET_STAT.off j.val] := by
  have hx : exec (.jetPcWrite m j val) s = .next (s.finish (s.regCmd m (JET_PC.off j.val) 4 val)) := by rfl
  have hopen : regAlone (JET_PC.off j.val) 2 = true := jetAlone (d := 8) j (row_jetPc j) (by decide) (by decide)
  have hnew : (JET_PC.PC j.val).get (s.regWr m (JET_PC.off j.val) val).new = (JET_PC.PC j.val).get val :=
    newWord_get_rw (hasField_of (row_jetPc j) (by simp [rowJetPc])) _ val
  have hb : s.blkTop (s.regWr m (JET_PC.off j.val) val) = s.jetPcWrite j.val (s.regWr m (JET_PC.off j.val) val).new :=
    State.blkTop_jetReg (d := 8) s j (by decide) rfl
  rw [hx]
  generalize (s.regWr m (JET_PC.off j.val) val).new = new at *
  rw [State.jetPcWrite] at hb
  have hk1 := JetOp.wr s new j.val (k := JET_PC.off j.val) (l := [JET_PC.off j.val, JET_STAT.off j.val]) List.mem_cons_self
  have hg1 : (s.wr (JET_PC.off j.val) new).g (JET_PC.PC j.val) = (JET_PC.PC j.val).get new := s.g_wr_self new rfl
  have hrun1 : (s.wr (JET_PC.off j.val) new).flag (JET_CTRL.RUN j.val) = s.flag (JET_CTRL.RUN j.val) :=
    s.flag_wr_ne new (by simp only [JET_CTRL.off, JET_PC.off]; omega)
  generalize s.wr (JET_PC.off j.val) new = a at *
  have hk2 := hk1.trans (JetOp.setJet a j.val { s.jet j.val with lcnt := 0, seen := false } _)
  have hj2 := a.setJet_jet_same j.val { s.jet j.val with lcnt := 0, seen := false }
  have hg2 := (a.setJet_g j.val { s.jet j.val with lcnt := 0, seen := false } (JET_PC.PC j.val)).trans hg1
  have hrun2 := (a.setJet_flag j.val { s.jet j.val with lcnt := 0, seen := false } (JET_CTRL.RUN j.val)).trans hrun1
  generalize a.setJet j.val { s.jet j.val with lcnt := 0, seen := false } = b at *
  rw [hrun2] at hb
  obtain ⟨x, hxs⟩ : ∃ x, (if s.flag (JET_CTRL.RUN j.val) then jsRunning else jsStopped) = x := ⟨_, rfl⟩
  have hlt : x < 8 := by
    rw [← hxs]
    split <;> decide
  rw [hxs] at hb
  have hk := hk2.trans (JetOp.p b (JET_STAT.STATE j.val) x j.val (List.mem_cons_of_mem _ List.mem_cons_self))
  have hj := (b.p_jet (JET_STAT.STATE j.val) x j.val).trans hj2
  have hst := b.g_p_fit (f := JET_STAT.STATE j.val) hlt (by simp)
  have hpc := (b.g_p_sep (f := JET_STAT.STATE j.val) (g := JET_PC.PC j.val) x
    (by simp only [FRef.sep, JET_STAT.off, JET_PC.off, Bool.and_eq_true, Bool.or_eq_true, decide_eq_true_eq]; omega)).trans hg2
  generalize b.p (JET_STAT.STATE j.val) x = u at *
  obtain ⟨t, ht, htold, hshow⟩ := State.serves_told h hopen hb (hk.calm.2.1.trans (State.serves_noReset h)) hk.calm.1
  refine ⟨t, congrArg _ ht, htold, ?_, (hshow.jet _).trans hj, by rw [hxs]; exact (hshow.g _).trans hst, hshow.same hk.same⟩
  rw [hshow.g, hpc, hnew]
  exact bitsOf_low _ 7

theorem jetDWrite_told (val : Word) (h : s.serves m (JET_D.off j.val) 2) :
    ∃ t, exec (.jetDWrite m j val) s = .next t ∧ t.toldOK m ∧ t.jetD j.val = val ∧
      t.jet j.val = { s.jet j.val with cur := s.frameW j.val } ∧ s.sameRegs t [JET_D.off j.val] := by
  have hx : exec (.jetDWrite m j val) s = .next (s.finish (s.regCmd m (JET_D.off j.val) 4 val)) := by rfl
  have hopen : regAlone (JET_D.off j.val) 2 = true := jetAlone (d := 0x58) j (row_jetD j) (by decide) (by decide)
  have hnew : (s.regWr m (JET_D.off j.val) val).new = val :=
    newWord_whole (f := ⟨JET_D.off j.val, 0, 32⟩) (hasField_of (a := .rw) (row_jetD j) (by simp [rowJetD])) rfl rfl _ val
  have hb : s.blkTop (s.regWr m (JET_D.off j.val) val) = s.jetDWrite j.val (s.regWr m (JET_D.off j.val) val).new :=
    State.blkTop_jetReg (d := 0x58) s j (by decide) rfl
  have hput : s.jetDWrite j.val val = (stOK, s.putFrame j.val val { s.jet j.val with cur := s.frameW j.val }) := rfl
  rw [hnew, hput] at hb
  rw [hx]
  obtain ⟨hk, _, hj, hd⟩ := s.putFrame_leaves j.val val { s.jet j.val with cur := s.frameW j.val }
  generalize s.putFrame j.val val { s.jet j.val with cur := s.frameW j.val } = u at *
  obtain ⟨t, ht, htold, hshow⟩ := State.serves_told h hopen hb (hk.calm.2.1.trans (State.serves_noReset h)) hk.calm.1
  exact ⟨t, congrArg _ ht, htold, (hshow.jetD _).trans hd, (hshow.jet _).trans hj, hshow.same hk.same⟩

theorem jetProgWrite_told (k : Fin 128) (val : Word) (h : s.serves m (JET_PROG.off j.val k.val) 2) :
    ∃ t, exec (.jetProgWrite m j k val) s = .next t ∧ t.toldOK m ∧
      t.g (JET_PROG.WORD j.val k.val) = val.toNat % 65536 ∧ t.jets = s.jets ∧ s.sameRegs t [JET_PROG.off j.val k.val] := by
  have hx : exec (.jetProgWrite m j k val) s = .next (s.finish (s.regCmd m (JET_PROG.off j.val k.val) 4 val)) := by rfl
  have hoff : JET_PROG.off j.val k.val = 0x180000 + (0x200 + k.val * 4) + j.val * 0x400 := by simp only [JET_PROG.off]; omega
  have hlo : 0x180000 ≤ JET_PROG.off j.val k.val ∧ JET_PROG.off j.val k.val < 0x1A1200 := by omega
  have hopen : regAlone (JET_PROG.off j.val k.val) 2 = true := regAlone_of (row_jetProg j k) (by decide) (mwGroup_jets hlo.1 hlo.2)
  have hnew : (JET_PROG.WORD j.val k.val).get (s.regWr m (JET_PROG.off j.val k.val) val).new = (JET_PROG.WORD j.val k.val).get val :=
    newWord_get_rw (hasField_of (row_jetProg j k) (by simp [rowJetProg])) _ val
  have hkey : (s.regWr m (JET_PROG.off j.val k.val) val).key = JET_PROG.off j.val k.val := by
    rw [s.regWr_ownKey m (ownKey_jets hlo.1 hlo.2)]
  have hb : s.blkTop (s.regWr m (JET_PROG.off j.val k.val) val) = s.plain (s.regWr m (JET_PROG.off j.val k.val) val) := by
    rw [State.blkTop_jetReg (d := 0x200 + k.val * 4) s j (by omega) hoff, State.jetReg]
    simp (disch := omega) only [↓if_neg]
  rw [State.plain, hkey] at hb
  rw [hx]
  generalize (s.regWr m (JET_PROG.off j.val k.val) val).new = new at *
  have hk := JetOp.wr s new j.val (k := JET_PROG.off j.val k.val) (l := [JET_PROG.off j.val k.val]) List.mem_cons_self
  have hj := s.wr_jets (JET_PROG.off j.val k.val) new
  have hg : (s.wr (JET_PROG.off j.val k.val) new).g (JET_PROG.WORD j.val k.val) = _ := s.g_wr_self new rfl
  generalize s.wr (JET_PROG.off j.val k.val) new = u at *
  obtain ⟨t, ht, htold, hshow⟩ := State.serves_told h hopen hb (hk.calm.2.1.trans (State.serves_noReset h)) hk.calm.1
  refine ⟨t, congrArg _ ht, htold, ?_, hshow.jets.trans hj, hshow.same hk.same⟩
  rw [hshow.g, hg, hnew]
  exact bitsOf_low _ 16

end

end Sys2Proof.Machine
end

section
/-! PROOF of JetCommandsAndPins (R327, R329), continued: JET_CTRL, and the firing of start groups. -/

namespace Sys2Proof.Machine

/- One evaluation after another: each of them, left to itself, would hold a thread. -/
set_option Elab.async false

/-! ### JET_CTRL (R327) -/

/-- STATE as RUN changes. -/
def State.ctrlState (s : State) (j : Nat) (run was : Bool) : State :=
  if run then (if was then s else s.p (JET_STAT.STATE j) jsRunning) else if was then s.p (JET_STAT.STATE j) jsStopped else s

/-- The files, D and the repeat unit cleared. -/
def State.jetWipe (s : State) (j : Nat) : State :=
  (s.wr (JET_D.off j) 0).setJet j { s.jet j with tx := [], rx := [], cur := 0, lcnt := 0 }

/-- One instruction executed while RUN is 0. -/
def State.jetOnce (s : State) (j : Nat) : State :=
  if (s.jetExec j).g (JET_STAT.STATE j) = jsFault then s.jetExec j else (s.jetExec j).p (JET_STAT.STATE j) jsStopped

theorem State.jetCtrlWrite_eq (s : State) (j : Nat) (new eff : Word) : s.jetCtrlWrite j new eff =
    if eff.getLsbD 30 && !new.getLsbD 0 then
      (stOK, (if eff.getLsbD 31 then (((s.wr (JET_CTRL.off j) new).ctrlState j (new.getLsbD 0) (s.flag (JET_CTRL.RUN j))).jetWipe j)
        else (s.wr (JET_CTRL.off j) new).ctrlState j (new.getLsbD 0) (s.flag (JET_CTRL.RUN j))).jetOnce j)
    else (stOK, if eff.getLsbD 31 then (((s.wr (JET_CTRL.off j) new).ctrlState j (new.getLsbD 0) (s.flag (JET_CTRL.RUN j))).jetWipe j)
      else (s.wr (JET_CTRL.off j) new).ctrlState j (new.getLsbD 0) (s.flag (JET_CTRL.RUN j))) := rfl

theorem State.ctrlState_leaves (s : State) (j : Nat) (run was : Bool) : JetOp s (s.ctrlState j run was) j [JET_STAT.off j] ∧
    (s.ctrlState j run was).jets = s.jets ∧
    (s.ctrlState j run was).g (JET_STAT.STATE j) =
      if run = was then s.g (JET_STAT.STATE j) else if run then jsRunning else jsStopped := by
  unfold State.ctrlState
  cases run <;> cases was <;> simp only [Bool.false_eq_true, if_true, if_false]
  · exact ⟨JetOp.refl s j _, trivial, trivial⟩
  · exact ⟨JetOp.p s _ _ j List.mem_cons_self, s.p_jets _ _, s.g_p_fit (f := JET_STAT.STATE j) (show jsStopped < 8 by decide) (by simp)⟩
  · exact ⟨JetOp.p s _ _ j List.mem_cons_self, s.p_jets _ _, s.g_p_fit (f := JET_STAT.STATE j) (show jsRunning < 8 by decide) (by simp)⟩
  · exact ⟨JetOp.refl s j _, trivial, trivial⟩

/-- The word of JET_CTRL that a Jet's command writes. -/
def State.ctrlWord (s : State) (j : Nat) (run step clr : Bool) : Word :=
  (JET_CTRL.RUN j).put ((JET_CTRL.STEP j).put ((JET_CTRL.CLR j).put (s.rd (JET_CTRL.off j)) (b2n clr)) (b2n step)) (b2n run)

theorem FRef.put_bit {f : FRef} (hw : f.width = 1) (w : Word) (b : Bool) (k : Nat) (hk : k < 32) :
    (f.put w (b2n b)).getLsbD k = if k = f.lsb then b else w.getLsbD k := by
  rw [FRef.put, BitVec.getLsbD_ofNat, setBits_testBit, decide_eq_true hk, Bool.true_and, hw]
  by_cases h : k = f.lsb
  · rw [if_pos (by omega), if_pos h, h, Nat.sub_self]
    cases b <;> rfl
  · rw [if_neg (by omega), if_neg h]
    rfl

theorem State.ctrlWord_bits (s : State) (j : Nat) (run step clr : Bool) : (s.ctrlWord j run step clr).getLsbD 0 = run ∧
    (s.ctrlWord j run step clr).getLsbD 30 = step ∧ (s.ctrlWord j run step clr).getLsbD 31 = clr ∧
    (JET_CTRL.TG j).get (s.ctrlWord j run step clr) = s.g (JET_CTRL.TG j) := by
  unfold State.ctrlWord
  refine ⟨?_, ?_, ?_, ?_⟩
  · simp (disch := simp) only [FRef.put_bit]
    simp
  · simp (disch := simp) only [FRef.put_bit]
    simp
  · simp (disch := simp) only [FRef.put_bit]
    simp
  · refine FRef.get_congr fun i h1 h2 => ?_
    simp only at h1 h2
    have hi : i < 32 := by omega
    rw [FRef.put_bit rfl _ _ _ hi, FRef.put_bit rfl _ _ _ hi, FRef.put_bit rfl _ _ _ hi, if_neg (by simp; omega),
      if_neg (by simp; omega), if_neg (by simp; omega)]

/-- What is written of JET_CTRL. -/
structure CtrlNew (s : State) (j : Nat) (run : Bool) (new : Word) : Prop where
  low : new.getLsbD 0 = run
  flag : (s.wr (JET_CTRL.off j) new).flag (JET_CTRL.RUN j) = run
  tg : (s.wr (JET_CTRL.off j) new).g (JET_CTRL.TG j) = s.g (JET_CTRL.TG j)

/-- A command on JET_CTRL: its effect, shown and told. -/
theorem State.jetCmd_told {s : State} {m : Master} (j : Fin 64) {run step clr : Bool} (h : s.serves m (JET_CTRL.off j.val) 2) :
    ∃ new, CtrlNew s j.val run new ∧ ∀ u : State, u.resetReq = s.resetReq → u.pending = s.pending →
      (if step && !run then (if clr then (((s.wr (JET_CTRL.off j.val) new).ctrlState j.val run (s.flag (JET_CTRL.RUN j.val))).jetWipe j.val)
        else (s.wr (JET_CTRL.off j.val) new).ctrlState j.val run (s.flag (JET_CTRL.RUN j.val))).jetOnce j.val
      else if clr then (((s.wr (JET_CTRL.off j.val) new).ctrlState j.val run (s.flag (JET_CTRL.RUN j.val))).jetWipe j.val)
        else (s.wr (JET_CTRL.off j.val) new).ctrlState j.val run (s.flag (JET_CTRL.RUN j.val))) = u →
      ∃ t, s.finish (s.jetCmd m j run step clr) = t ∧ t.toldOK m ∧ Shows u t := by
  have hopen : regAlone (JET_CTRL.off j.val) 2 = true := jetAlone (d := 0) j (row_jetCtrl j) (by decide) (by decide)
  have hrw : ∀ f : FRef, hasField (JET_CTRL.off j.val) .rw f = true →
      f.get (s.regWr m (JET_CTRL.off j.val) (s.ctrlWord j.val run step clr)).new = f.get (s.ctrlWord j.val run step clr) :=
    fun f hf => newWord_get_rw hf _ _
  have hwo : ∀ f : FRef, hasField (JET_CTRL.off j.val) .wo f = true →
      f.get (s.regWr m (JET_CTRL.off j.val) (s.ctrlWord j.val run step clr)).eff = f.get (s.ctrlWord j.val run step clr) :=
    fun f hf => effWord_get hf _
  obtain ⟨hrun, hstep, hclr, htg⟩ := s.ctrlWord_bits j.val run step clr
  have hrun2 := hrw (JET_CTRL.RUN j.val) (hasField_of (row_jetCtrl j) (by simp [rowJetCtrl]))
  have htg2 := hrw (JET_CTRL.TG j.val) (hasField_of (row_jetCtrl j) (by simp [rowJetCtrl]))
  have hstep2 := hwo (JET_CTRL.STEP j.val) (hasField_of (row_jetCtrl j) (by simp [rowJetCtrl]))
  have hclr2 := hwo (JET_CTRL.CLR j.val) (hasField_of (row_jetCtrl j) (by simp [rowJetCtrl]))
  rw [FRef.get_bit rfl, FRef.get_bit rfl] at hrun2 hstep2 hclr2
  have hb : s.blkTop (s.regWr m (JET_CTRL.off j.val) (s.ctrlWord j.val run step clr)) =
      s.jetCtrlWrite j.val (s.regWr m (JET_CTRL.off j.val) (s.ctrlWord j.val run step clr)).new
        (s.regWr m (JET_CTRL.off j.val) (s.ctrlWord j.val run step clr)).eff := State.blkTop_jetReg (d := 0) s j (by decide) rfl
  have hcmd : s.jetCmd m j run step clr = s.regCmd m (JET_CTRL.off j.val) 4 (s.ctrlWord j.val run step clr) := rfl
  rw [hcmd]
  refine ⟨(s.regWr m (JET_CTRL.off j.val) (s.ctrlWord j.val run step clr)).new, ⟨(b2n_inj hrun2).trans hrun, ?_, ?_⟩, fun u hr hp hu => ?_⟩
  · rw [s.flag_wr_self (g := JET_CTRL.RUN j.val) _ rfl, FRef.get_bit rfl, hrun2]
    have hrun' : (s.ctrlWord j.val run step clr).getLsbD (JET_CTRL.RUN j.val).lsb = run := hrun
    rw [hrun']
    cases run <;> rfl
  · rw [s.g_wr_self (g := JET_CTRL.TG j.val) _ rfl, htg2, htg]
  · rw [State.jetCtrlWrite_eq, (b2n_inj hrun2).trans hrun, (b2n_inj hstep2).trans hstep, (b2n_inj hclr2).trans hclr] at hb
    have hb2 : s.blkTop (s.regWr m (JET_CTRL.off j.val) (s.ctrlWord j.val run step clr)) = (stOK, u) := by
      rw [hb, ← hu]
      split <;> rfl
    obtain ⟨t, ht, htold, hshow⟩ := State.serves_told h hopen hb2 (hr.trans (State.serves_noReset h)) hp
    exact ⟨t, ht, htold, hshow⟩

section
variable {m : Master} (j : Fin 64) {s : State}

theorem jetStat_not_ctrl (j : Nat) : JET_CTRL.off j ∉ [JET_STAT.off j] ∧ JET_STAT.off j ∉ [JET_CTRL.off j] := by
  simp only [List.mem_cons, List.not_mem_nil, or_false, JET_CTRL.off, JET_STAT.off]
  omega

/-- The word and STATE written. -/
theorem CtrlNew.leaves {s : State} {j : Nat} {run : Bool} {new : Word} (h : CtrlNew s j run new) {a : State}
    (ha : (s.wr (JET_CTRL.off j) new).ctrlState j run (s.flag (JET_CTRL.RUN j)) = a) :
    JetOp s a j [JET_CTRL.off j, JET_STAT.off j] ∧ a.jets = s.jets ∧ a.flag (JET_CTRL.RUN j) = run ∧ a.g (JET_CTRL.TG j) = s.g (JET_CTRL.TG j) ∧
      a.g (JET_STAT.STATE j) = (if run = s.flag (JET_CTRL.RUN j) then s.g (JET_STAT.STATE j) else if run then jsRunning else jsStopped) ∧
      (run = s.flag (JET_CTRL.RUN j) → s.sameRegs a [JET_CTRL.off j]) := by
  obtain ⟨_, hflag, htg⟩ := h
  have hk := JetOp.wr s new j (k := JET_CTRL.off j) (l := [JET_CTRL.off j]) List.mem_cons_self
  have hj := s.wr_jets (JET_CTRL.off j) new
  have hst : (s.wr (JET_CTRL.off j) new).g (JET_STAT.STATE j) = s.g (JET_STAT.STATE j) := hk.g (jetStat_not_ctrl j).2
  generalize s.wr (JET_CTRL.off j) new = b at *
  have hsame : run = s.flag (JET_CTRL.RUN j) → a = b := fun hr => by
    rw [← ha, ← hr, State.ctrlState]
    cases run <;> rfl
  obtain ⟨hk2, hj2, hst2⟩ := b.ctrlState_leaves j run (s.flag (JET_CTRL.RUN j))
  rw [ha] at hk2 hj2 hst2
  refine ⟨(hk.mono (by simp)).trans (hk2.mono (by simp)), hj2.trans hj, (hk2.flag (jetStat_not_ctrl j).1).trans hflag, (hk2.g (jetStat_not_ctrl j).1).trans htg,
    by rw [hst2, hst], fun hr => by rw [hsame hr]; exact hk.same⟩

theorem exec_jetRun (m : Master) (j : Fin 64) (s : State) : exec (.jetRun m j) s = .next (s.finish (s.jetCmd m j true false false)) := by rfl
theorem exec_jetStop (m : Master) (j : Fin 64) (s : State) : exec (.jetStop m j) s = .next (s.finish (s.jetCmd m j false false false)) := by rfl
theorem exec_jetStep (m : Master) (j : Fin 64) (s : State) : exec (.jetStep m j) s = .next (s.finish (s.jetCmd m j false true false)) := by rfl
theorem exec_jetClear (m : Master) (j : Fin 64) (s : State) :
    exec (.jetClear m j) s = .next (s.finish (s.jetCmd m j (s.flag (JET_CTRL.RUN j.val)) false true)) := by rfl

theorem jetRun_told (h : s.serves m (JET_CTRL.off j.val) 2) :
    ∃ t, exec (.jetRun m j) s = .next t ∧ t.toldOK m ∧ t.flag (JET_CTRL.RUN j.val) = true ∧ t.jets = s.jets ∧
      t.g (JET_STAT.STATE j.val) = (if s.flag (JET_CTRL.RUN j.val) then s.g (JET_STAT.STATE j.val) else jsRunning) ∧
      t.g (JET_CTRL.TG j.val) = s.g (JET_CTRL.TG j.val) ∧ s.sameRegs t [JET_CTRL.off j.val, JET_STAT.off j.val] := by
  obtain ⟨new, hnew, hcmd⟩ := State.jetCmd_told (run := true) (step := false) (clr := false) j h
  obtain ⟨a, ha⟩ : ∃ a, (s.wr (JET_CTRL.off j.val) new).ctrlState j.val true (s.flag (JET_CTRL.RUN j.val)) = a := ⟨_, rfl⟩
  obtain ⟨hk, hj, hrun, htg, hst, _⟩ := hnew.leaves ha
  simp only [Bool.false_and, Bool.false_eq_true, if_false, ha] at hcmd
  obtain ⟨t, ht, htold, hshow⟩ := hcmd a hk.calm.2.1 hk.calm.1 rfl
  refine ⟨t, (exec_jetRun m j s).trans (congrArg _ ht), htold, (hshow.flag _).trans hrun, hshow.jets.trans hj, ?_, (hshow.g _).trans htg, hshow.same hk.same⟩
  rw [hshow.g, hst]
  cases s.flag (JET_CTRL.RUN j.val) <;> rfl

theorem jetStop_told (h : s.serves m (JET_CTRL.off j.val) 2) :
    ∃ t, exec (.jetStop m j) s = .next t ∧ t.toldOK m ∧ t.flag (JET_CTRL.RUN j.val) = false ∧ t.jets = s.jets ∧
      t.g (JET_STAT.STATE j.val) = (if s.flag (JET_CTRL.RUN j.val) then jsStopped else s.g (JET_STAT.STATE j.val)) ∧
      s.sameRegs t [JET_CTRL.off j.val, JET_STAT.off j.val] := by
  obtain ⟨new, hnew, hcmd⟩ := State.jetCmd_told (run := false) (step := false) (clr := false) j h
  obtain ⟨a, ha⟩ : ∃ a, (s.wr (JET_CTRL.off j.val) new).ctrlState j.val false (s.flag (JET_CTRL.RUN j.val)) = a := ⟨_, rfl⟩
  obtain ⟨hk, hj, hrun, _, hst, _⟩ := hnew.leaves ha
  simp only [Bool.false_and, Bool.false_eq_true, if_false, ha] at hcmd
  obtain ⟨t, ht, htold, hshow⟩ := hcmd a hk.calm.2.1 hk.calm.1 rfl
  refine ⟨t, (exec_jetStop m j s).trans (congrArg _ ht), htold, (hshow.flag _).trans hrun, hshow.jets.trans hj, ?_, hshow.same hk.same⟩
  rw [hshow.g, hst]
  cases s.flag (JET_CTRL.RUN j.val) <;> rfl

theorem jetClear_told (h : s.serves m (JET_CTRL.off j.val) 2) :
    ∃ t, exec (.jetClear m j) s = .next t ∧ t.toldOK m ∧ t.flag (JET_CTRL.RUN j.val) = s.flag (JET_CTRL.RUN j.val) ∧
      t.jet j.val = { s.jet j.val with tx := [], rx := [], cur := 0, lcnt := 0 } ∧ t.jetD j.val = 0 ∧
      (∀ i, i ≠ j.val → t.jet i = s.jet i) ∧ s.sameRegs t [JET_CTRL.off j.val, JET_D.off j.val] := by
  obtain ⟨new, hnew, hcmd⟩ := State.jetCmd_told (run := s.flag (JET_CTRL.RUN j.val)) (step := false) (clr := true) j h
  obtain ⟨a, ha⟩ : ∃ a, (s.wr (JET_CTRL.off j.val) new).ctrlState j.val (s.flag (JET_CTRL.RUN j.val)) (s.flag (JET_CTRL.RUN j.val)) = a := ⟨_, rfl⟩
  obtain ⟨hk, hj, hrun, _, _, hsame⟩ := hnew.leaves ha
  have hput : a.jetWipe j.val = a.putFrame j.val 0 { a.jet j.val with tx := [], rx := [], cur := 0, lcnt := 0 } := rfl
  obtain ⟨hk2, _, hj2, hd2⟩ := a.putFrame_leaves j.val 0 { a.jet j.val with tx := [], rx := [], cur := 0, lcnt := 0 }
  have hrun2 : (a.putFrame j.val 0 { a.jet j.val with tx := [], rx := [], cur := 0, lcnt := 0 }).flag (JET_CTRL.RUN j.val) = a.flag (JET_CTRL.RUN j.val) :=
    hk2.flag (by simp only [List.mem_cons, List.not_mem_nil, or_false, JET_CTRL.off, JET_D.off]; omega)
  rw [ha, hput] at hcmd
  generalize a.putFrame j.val 0 { a.jet j.val with tx := [], rx := [], cur := 0, lcnt := 0 } = u at *
  obtain ⟨t, ht, htold, hshow⟩ := hcmd u (hk2.calm.2.1.trans hk.calm.2.1) (hk2.calm.1.trans hk.calm.1) rfl
  refine ⟨t, (exec_jetClear m j s).trans (congrArg _ ht), htold, ((hshow.flag _).trans hrun2).trans hrun, ?_, (hshow.jetD _).trans hd2,
    fun i hi => ((hshow.jet i).trans (hk2.others i hi)).trans (hk.others i hi), hshow.same fun k hl => ?_⟩
  · rw [hshow.jet, hj2, State.jet_of_jets hj]
  · rw [hk2.same k fun hm => hl (by simp only [List.mem_singleton] at hm; simp [hm]),
      hsame rfl k fun hm => hl (by simp only [List.mem_singleton] at hm; simp [hm])]

theorem jetStep_told (h : s.serves m (JET_CTRL.off j.val) 2) {w : Nat} (hw : s.jetWord j.val = w) (hop : jetOp w = 6)
    (hlegal : s.jetIllegal j.val w = false) (h11 : w.testBit 11 = false) (h10 : w.testBit 10 = false) (hl : (s.jet j.val).lcnt = 0) :
    ∃ t, exec (.jetStep m j) s = .next t ∧ t.toldOK m ∧ t.flag (JET_CTRL.RUN j.val) = false ∧
      t.g (JET_STAT.STATE j.val) = jsStopped ∧ t.g (JET_N.N0 j.val) = w % 256 ∧ t.g (JET_PC.PC j.val) = (s.g (JET_PC.PC j.val) + 1) % 128 ∧
      s.sameRegs t [JET_CTRL.off j.val, JET_STAT.off j.val, JET_PC.off j.val, JET_N.off j.val] := by
  obtain ⟨new, hnew, hcmd⟩ := State.jetCmd_told (run := false) (step := true) (clr := false) j h
  obtain ⟨a, ha⟩ : ∃ a, (s.wr (JET_CTRL.off j.val) new).ctrlState j.val false (s.flag (JET_CTRL.RUN j.val)) = a := ⟨_, rfl⟩
  obtain ⟨hk, hj, hrun, _, _, _⟩ := hnew.leaves ha
  have hpc : a.g (JET_PC.PC j.val) = s.g (JET_PC.PC j.val) :=
    hk.g (by simp only [List.mem_cons, List.not_mem_nil, or_false, JET_CTRL.off, JET_STAT.off, JET_PC.off]; omega)
  have hword : a.jetWord j.val = w := by
    rw [State.jetWord, hpc, ← hw, State.jetWord]
    exact hk.g (by simp only [List.mem_cons, List.not_mem_nil, or_false, JET_CTRL.off, JET_STAT.off, JET_PROG.off]; omega)
  have hok : a.jetIllegal j.val w = false := by
    unfold State.jetIllegal at hlegal ⊢
    rw [hop] at hlegal ⊢
    exact hlegal
  have hexec : a.jetExec j.val = (a.p (nRef j.val false) (w % 256)).jetNext j.val := by
    have hrow : a.jetExec j.val = a.jetNset j.val w := by
      rw [State.jetExec, hword, if_neg (by rw [hok]; exact Bool.false_ne_true), hop]
      rfl
    have hdef : a.jetNset j.val w = (a.p (nRef j.val (w.testBit 11)) (if w.testBit 10 then a.g (nRef j.val (w.testBit 11)) - 1 else bitsOf w 0 8)).jetNext j.val := rfl
    rw [hrow, hdef, h11, h10, bitsOf_low]
    rfl
  obtain ⟨hk2, _, hj2, hn2, _⟩ := a.setN_leaves j.val false (x := w % 256) (by omega)
  rw [ha] at hcmd
  simp only [Bool.not_false, Bool.and_true, if_true, Bool.false_eq_true, if_false, State.jetOnce, hexec] at hcmd
  generalize a.p (nRef j.val false) (w % 256) = b at *
  obtain ⟨hstep, hk3, _, _⟩ := hk2.next (jetPc_not_n j.val) (State.jet_of_jets hj2 j.val)
  have hnk := (b.jetNext_op j.val).g (jetN_not_pc j.val false)
  obtain ⟨hst, _, hpc3⟩ := hstep
  generalize b.jetNext j.val = c at *
  rw [if_neg (by rw [hst]; decide)] at hcmd
  rw [if_neg (by rw [State.jet_of_jets hj, hl]; exact fun hc => hc.1 rfl)] at hpc3
  have hk4 := JetOp.p c (JET_STAT.STATE j.val) jsStopped j.val (l := [JET_STAT.off j.val]) List.mem_cons_self
  have hst4 := c.g_p_fit (f := JET_STAT.STATE j.val) (show jsStopped < 8 by decide) (by simp)
  generalize c.p (JET_STAT.STATE j.val) jsStopped = u at *
  have hall : JetOp s u j.val [JET_CTRL.off j.val, JET_STAT.off j.val, JET_PC.off j.val, JET_N.off j.val] :=
    ((hk.mono (by simp)).trans (hk3.mono (by simp))).trans (hk4.mono (by simp))
  have hN : u.g (JET_N.N0 j.val) = w % 256 :=
    (hk4.g (by simp only [List.mem_cons, List.not_mem_nil, or_false, JET_N.off, JET_STAT.off]; omega)).trans (hnk.trans hn2)
  have hP : u.g (JET_PC.PC j.val) = (s.g (JET_PC.PC j.val) + 1) % 128 := by
    rw [hk4.g (f := JET_PC.PC j.val) fun hm => jetPc_ne_stat j.val (List.mem_singleton.1 hm), hpc3.2, hpc]
  have hR : u.flag (JET_CTRL.RUN j.val) = false := by
    rw [hk4.flag (jetStat_not_ctrl j.val).1, ← hrun]
    exact hk3.flag (by
      simp only [List.mem_append, List.mem_cons, List.not_mem_nil, or_false, JET_CTRL.off, JET_PC.off, JET_STAT.off, JET_N.off]
      omega)
  obtain ⟨t, ht, htold, hshow⟩ := hcmd u hall.calm.2.1 hall.calm.1 rfl
  exact ⟨t, (exec_jetStep m j s).trans (congrArg _ ht), htold, (hshow.flag _).trans hR, (hshow.g _).trans hst4, (hshow.g _).trans hN, (hshow.g _).trans hP,
    hshow.same hall.same⟩

end

end Sys2Proof.Machine
end

section
/-! PROOF of JetCommandsAndPins (R329, R330), continued: start groups fire and act. -/

namespace Sys2Proof.Machine

/- One evaluation after another: each of them, left to itself, would hold a thread. -/
set_option Elab.async false

/-! ### JET_GRP_GO -/

/-- A fold that acts at one index. -/
theorem foldl_range_single {α : Type} (f : α → α) (p : Nat → Bool) (n g : Nat) (hg : g < n) (hp : ∀ k, k < n → p k = decide (k = g)) (a : α)
    (step : α → Nat → α) (hstep : ∀ x, step x g = f x) :
    (List.range n).foldl (fun x k => if p k then step x k else x) a = f a := by
  have hbefore : ∀ m, m ≤ g → (List.range m).foldl (fun x k => if p k then step x k else x) a = a := fun m hm => by
    induction m with
    | zero => rfl
    | succ m ih =>
      have hpm : p m = false := by rw [hp m (by omega)]; exact decide_eq_false (by omega)
      rw [List.range_succ, List.foldl_append, ih (by omega), List.foldl_cons, List.foldl_nil, hpm, if_neg Bool.false_ne_true]
  induction n with
  | zero => omega
  | succ n ih =>
    rw [List.range_succ, List.foldl_append, List.foldl_cons, List.foldl_nil]
    by_cases h : g = n
    · subst h
      rw [hbefore g (Nat.le_refl g), hp g hg, decide_eq_true rfl, if_pos rfl, hstep]
    · rw [ih (by omega) (fun k hk => hp k (by omega)), hp n (by omega), decide_eq_false (by omega), if_neg Bool.false_ne_true]

theorem pow_bit {g : Nat} (hg : g < 32) (k : Nat) : (BitVec.ofNat 32 (2 ^ g)).getLsbD k = decide (k = g) := by
  rw [BitVec.getLsbD_ofNat, Nat.testBit_two_pow]
  by_cases h : k = g
  · subst h
    simpa using hg
  · have h' : g ≠ k := fun e => h e.symm
    simp [h, h']

/-- The two acting edges that a firing leaves waiting. -/
def State.grpFires (s : State) (g : Nat) : List GrpFire :=
  [⟨g, 0, s.rd (JET_GRP_CFG.off g), s.rd (JET_GRP_LO.off g), s.rd (JET_GRP_HI.off g)⟩,
    ⟨g, 1, s.rd (JET_GRP_CFG.off g), s.rd (JET_GRP_LO.off g), s.rd (JET_GRP_HI.off g)⟩]

/-- The acting edges of a group wait. -/
def State.grpWaits (s : State) (g : Nat) : State := { s with jets := { s.jets with fired := s.jets.fired ++ s.grpFires g } }

theorem State.groupFire_eq (s : State) (g : Nat) :
    s.groupFire g = (s.grpWaits g).wr JET_GRP_STAT.off ((s.grpWaits g).rd JET_GRP_STAT.off ||| BitVec.ofNat 32 (2 ^ g)) := rfl

theorem State.groupFire_leaves (s : State) (g : Nat) : s.sameRegs (s.groupFire g) [JET_GRP_STAT.off] ∧
    (s.groupFire g).jets = { s.jets with fired := s.jets.fired ++ s.grpFires g } ∧
    (s.groupFire g).rd JET_GRP_STAT.off = s.rd JET_GRP_STAT.off ||| BitVec.ofNat 32 (2 ^ g) ∧ (s.groupFire g).resetReq = s.resetReq ∧
    (s.groupFire g).pending = s.pending := by
  rw [State.groupFire_eq]
  have hj : (s.grpWaits g).jets = { s.jets with fired := s.jets.fired ++ s.grpFires g } := rfl
  have hrd : ∀ k, (s.grpWaits g).rd k = s.rd k := fun k => rfl
  have hcalm : (s.grpWaits g).resetReq = s.resetReq ∧ (s.grpWaits g).pending = s.pending := ⟨rfl, rfl⟩
  generalize s.grpWaits g = a at *
  rw [hrd]
  exact ⟨fun k hk => (a.rd_wr_ne _ fun h => hk (by simp [h])).trans (hrd k), (a.wr_jets _ _).trans hj, a.rd_wr_same _ _,
    (a.wr_resetReq _ _).trans hcalm.1, (a.wr_pending _ _).trans hcalm.2⟩

theorem jetGrpGo_open : regAlone JET_GRP_GO.off 2 = true ∧ hasField JET_GRP_GO.off .wo ⟨JET_GRP_GO.off, 0, 8⟩ = true := by decide +kernel

theorem State.blkTop_grpGo (s : State) {r : RegWr} (h : r.off = JET_GRP_GO.off) : s.blkTop r = s.groupGo r.eff := by
  have hoff : JET_GRP_GO.off = 0x190200 := rfl
  rw [State.blkTop_jet (by omega) (by omega), State.blkJet]
  rw [if_pos (by omega), if_pos h]

theorem jetGroupGo_told {m : Master} {g : Nat} {s : State} (h : s.serves m JET_GRP_GO.off 2) (hg : g < 8) :
    ∃ t, exec (.jetGroupGo m (BitVec.ofNat 32 (2 ^ g))) s = .next t ∧ t.toldOK m ∧
      t.jets = { s.jets with fired := s.jets.fired ++ s.grpFires g } ∧
      t.rd JET_GRP_STAT.off = s.rd JET_GRP_STAT.off ||| BitVec.ofNat 32 (2 ^ g) ∧ s.sameRegs t [JET_GRP_STAT.off] := by
  have hx : exec (.jetGroupGo m (BitVec.ofNat 32 (2 ^ g))) s = .next (s.finish (s.regCmd m JET_GRP_GO.off 4 (BitVec.ofNat 32 (2 ^ g)))) := by rfl
  have heff := effWord_get jetGrpGo_open.2 (BitVec.ofNat 32 (2 ^ g))
  have hbits : ∀ k, k < 8 → (s.regWr m JET_GRP_GO.off (BitVec.ofNat 32 (2 ^ g))).eff.getLsbD k = decide (k = g) := fun k hk => by
    rw [← pow_bit (by omega) k]
    have hbit := congrArg (fun x : Nat => x.testBit k) heff
    have hbit2 : ((rowAt JET_GRP_GO.off).effWord (BitVec.ofNat 32 (2 ^ g))).getLsbD k = (BitVec.ofNat 32 (2 ^ g)).getLsbD k := by
      simpa only [FRef.get, bitsOf_testBit, hk, decide_true, Bool.true_and, Nat.zero_add, BitVec.testBit_toNat] using hbit
    exact hbit2
  have hb := State.blkTop_grpGo s (r := s.regWr m JET_GRP_GO.off (BitVec.ofNat 32 (2 ^ g))) rfl
  have hgo : s.groupGo (s.regWr m JET_GRP_GO.off (BitVec.ofNat 32 (2 ^ g))).eff = (stOK, s.groupFire g) :=
    congrArg (Prod.mk stOK) (foldl_range_single (fun x : State => x.groupFire g) _ 8 g hg hbits s (fun x k => x.groupFire k) fun _ => rfl)
  rw [hgo] at hb
  obtain ⟨hsame, hj, hst, hr, hp⟩ := s.groupFire_leaves g
  rw [hx]
  generalize s.groupFire g = u at *
  obtain ⟨t, ht, htold, hshow⟩ := State.serves_told h jetGrpGo_open.1 hb (hr.trans (State.serves_noReset h)) hp
  exact ⟨t, congrArg _ ht, htold, hshow.jets.trans hj, (hshow.rd _).trans hst, hshow.same hsame⟩

/-! ### The acting edge (R329) -/

/-- A Jet that stands in `t` as in `s`. -/
structure JetStands (s t : State) (j : Nat) : Prop where
  jet : t.jet j = s.jet j
  ctrl : t.rd (JET_CTRL.off j) = s.rd (JET_CTRL.off j)
  stat : t.rd (JET_STAT.off j) = s.rd (JET_STAT.off j)
  pc : t.rd (JET_PC.off j) = s.rd (JET_PC.off j)
  d : t.rd (JET_D.off j) = s.rd (JET_D.off j)

theorem JetStands.trans {s t u : State} {j : Nat} (a : JetStands s t j) (b : JetStands t u j) : JetStands s u j :=
  ⟨b.jet.trans a.jet, b.ctrl.trans a.ctrl, b.stat.trans a.stat, b.pc.trans a.pc, b.d.trans a.d⟩

/-- What a Jet's action comes to. -/
structure JetActs (s t : State) (j a : Nat) : Prop where
  start : a = 0 → t.flag (JET_CTRL.RUN j) = true ∧ t.g (JET_STAT.STATE j) = jsRunning ∧ t.jet j = s.jet j ∧ t.g (JET_PC.PC j) = s.g (JET_PC.PC j)
  stop : a = 1 → t.flag (JET_CTRL.RUN j) = false ∧ t.g (JET_STAT.STATE j) = jsStopped ∧ t.jet j = s.jet j
  restart : a = 2 → t.flag (JET_CTRL.RUN j) = true ∧ t.g (JET_PC.PC j) = s.g (JET_CTRL.ENTRY j) ∧ t.jetD j = 0 ∧
    t.jet j = { s.jet j with cur := 0, lcnt := 0, seen := false }

theorem State.g_of_rd {s t : State} {f : FRef} (h : t.rd f.off = s.rd f.off) : t.g f = s.g f := by rw [State.g, State.g, h]
theorem State.flag_of_rd {s t : State} {f : FRef} (h : t.rd f.off = s.rd f.off) : t.flag f = s.flag f := by rw [State.flag, State.flag, State.g_of_rd h]

/-- An action of a Jet that stood before and stands after. -/
theorem JetActs.of_stands {s s' t t' : State} {j a : Nat} (h : JetActs s' t j a) (hs : JetStands s s' j) (ht : JetStands t t' j) : JetActs s t' j a := by
  obtain ⟨hstart, hstop, hrestart⟩ := h
  have hrun : t'.flag (JET_CTRL.RUN j) = t.flag (JET_CTRL.RUN j) := State.flag_of_rd ht.ctrl
  have hst : t'.g (JET_STAT.STATE j) = t.g (JET_STAT.STATE j) := State.g_of_rd ht.stat
  have hpc : t'.g (JET_PC.PC j) = t.g (JET_PC.PC j) := State.g_of_rd ht.pc
  have hpc' : s'.g (JET_PC.PC j) = s.g (JET_PC.PC j) := State.g_of_rd hs.pc
  have hentry : s'.g (JET_CTRL.ENTRY j) = s.g (JET_CTRL.ENTRY j) := State.g_of_rd hs.ctrl
  have hd : t'.jetD j = t.jetD j := ht.d
  rw [hs.jet, hpc'] at hstart
  rw [hs.jet] at hstop
  rw [hs.jet, hentry] at hrestart
  exact ⟨fun ha => by rw [hrun, hst, ht.jet, hpc]; exact hstart ha, fun ha => by rw [hrun, hst, ht.jet]; exact hstop ha,
    fun ha => by rw [hrun, hpc, hd, ht.jet]; exact hrestart ha⟩

/-- The registers that an action writes. -/
def jetActRegs (j : Nat) : List Nat := [JET_CTRL.off j, JET_STAT.off j, JET_PC.off j, JET_D.off j]

theorem JetOp.stands {s t : State} {j i : Nat} (h : JetOp s t j (jetActRegs j)) (hi : i ≠ j) : JetStands s t i := by
  refine ⟨h.others i hi, h.same _ ?_, h.same _ ?_, h.same _ ?_, h.same _ ?_⟩ <;>
    simp only [jetActRegs, List.mem_cons, List.not_mem_nil, or_false, JET_CTRL.off, JET_STAT.off, JET_PC.off, JET_D.off] <;> omega

/-- What an acting edge keeps besides. -/
structure EdgeKept (s t : State) : Prop where
  pins : t.pins = s.pins
  fired : t.jets.fired = s.jets.fired
  restarts : t.jets.tgRestarts = s.jets.tgRestarts
  pending : t.pending = s.pending
  resetReq : t.resetReq = s.resetReq

theorem EdgeKept.trans {s t u : State} (a : EdgeKept s t) (b : EdgeKept t u) : EdgeKept s u :=
  ⟨b.pins.trans a.pins, b.fired.trans a.fired, b.restarts.trans a.restarts, b.pending.trans a.pending, b.resetReq.trans a.resetReq⟩

theorem EdgeKept.of_jets {s t : State} {j : Nat} {l : List Nat} (h : JetOp s t j l) (hp : t.pins = s.pins) (hj : t.jets = s.jets) : EdgeKept s t :=
  ⟨hp, by rw [hj], by rw [hj], h.calm.1, h.calm.2.1⟩

/-- RUN and STATE written. -/
def State.runState (s : State) (j : Nat) (run : Bool) (st : Nat) : State := (s.pb (JET_CTRL.RUN j) run).p (JET_STAT.STATE j) st

theorem State.runState_leaves (s : State) (j : Nat) (run : Bool) {st : Nat} (hst : st < 8) : JetOp s (s.runState j run st) j [JET_CTRL.off j, JET_STAT.off j] ∧
    (s.runState j run st).pins = s.pins ∧ (s.runState j run st).jets = s.jets ∧ (s.runState j run st).flag (JET_CTRL.RUN j) = run ∧
    (s.runState j run st).g (JET_STAT.STATE j) = st := by
  unfold State.runState
  rw [State.pb]
  have hk := JetOp.p s (JET_CTRL.RUN j) (b2n run) j (l := [JET_CTRL.off j, JET_STAT.off j]) List.mem_cons_self
  have hp := s.p_pins (JET_CTRL.RUN j) (b2n run)
  have hj := s.p_jets (JET_CTRL.RUN j) (b2n run)
  have hrun : (s.p (JET_CTRL.RUN j) (b2n run)).flag (JET_CTRL.RUN j) = run := s.flag_pb_self (f := JET_CTRL.RUN j) run (by simp) rfl
  generalize s.p (JET_CTRL.RUN j) (b2n run) = a at *
  have hk2 := JetOp.p a (JET_STAT.STATE j) st j (l := [JET_STAT.off j]) List.mem_cons_self
  exact ⟨hk.trans (hk2.mono (by simp)), (a.p_pins _ _).trans hp, (a.p_jets _ _).trans hj, (hk2.flag (jetStat_not_ctrl j).1).trans hrun,
    a.g_p_fit (f := JET_STAT.STATE j) hst (by simp)⟩

/-- PC at ENTRY, with D and the repeat unit cleared. -/
def State.atEntry (s : State) (j : Nat) : State :=
  ((s.p (JET_PC.PC j) (s.g (JET_CTRL.ENTRY j))).wr (JET_D.off j) 0).setJet j { s.jet j with cur := 0, lcnt := 0, seen := false }

theorem State.atEntry_leaves (s : State) (j : Nat) : JetOp s (s.atEntry j) j [JET_PC.off j, JET_D.off j] ∧ EdgeKept s (s.atEntry j) ∧
    (s.atEntry j).g (JET_PC.PC j) = s.g (JET_CTRL.ENTRY j) ∧ (s.atEntry j).jetD j = 0 ∧
    (s.atEntry j).jet j = { s.jet j with cur := 0, lcnt := 0, seen := false } := by
  unfold State.atEntry
  have hlt : s.g (JET_CTRL.ENTRY j) < 2 ^ 7 := FRef.get_lt (JET_CTRL.ENTRY j) _
  have hk := JetOp.p s (JET_PC.PC j) (s.g (JET_CTRL.ENTRY j)) j (l := [JET_PC.off j, JET_D.off j]) List.mem_cons_self
  have hpc := s.g_p_fit (f := JET_PC.PC j) hlt (by simp)
  have he := EdgeKept.of_jets hk (s.p_pins _ _) (s.p_jets _ _)
  generalize s.p (JET_PC.PC j) (s.g (JET_CTRL.ENTRY j)) = a at *
  have hput : (a.wr (JET_D.off j) 0).setJet j { s.jet j with cur := 0, lcnt := 0, seen := false } =
      a.putFrame j 0 { s.jet j with cur := 0, lcnt := 0, seen := false } := rfl
  rw [hput]
  obtain ⟨hk2, hp2, hj2, hd2⟩ := a.putFrame_leaves j 0 { s.jet j with cur := 0, lcnt := 0, seen := false }
  have hf : (a.putFrame j 0 { s.jet j with cur := 0, lcnt := 0, seen := false }).jets.fired = a.jets.fired ∧
      (a.putFrame j 0 { s.jet j with cur := 0, lcnt := 0, seen := false }).jets.tgRestarts = a.jets.tgRestarts := ⟨rfl, rfl⟩
  generalize a.putFrame j 0 { s.jet j with cur := 0, lcnt := 0, seen := false } = u at *
  refine ⟨hk.trans (hk2.mono (by simp)), he.trans ⟨hp2, hf.1, hf.2, hk2.calm.1, hk2.calm.2.1⟩, ?_, hd2, hj2⟩
  rw [← hpc]
  exact hk2.g (by simp only [List.mem_cons, List.not_mem_nil, or_false, JET_PC.off, JET_D.off]; omega)

theorem State.groupAct_leaves (s : State) (j : Nat) {a : Nat} (ha : a < 3) : JetOp s (s.groupAct j a) j (jetActRegs j) ∧ EdgeKept s (s.groupAct j a) ∧
    JetActs s (s.groupAct j a) j a := by
  have hpc : JET_PC.off j ∉ [JET_CTRL.off j, JET_STAT.off j] ∧ JET_D.off j ∉ [JET_CTRL.off j, JET_STAT.off j] := by
    simp only [List.mem_cons, List.not_mem_nil, or_false, JET_PC.off, JET_D.off, JET_CTRL.off, JET_STAT.off]
    omega
  obtain rfl | rfl | rfl : a = 0 ∨ a = 1 ∨ a = 2 := by omega
  · have hx : s.groupAct j 0 = s.runState j true jsRunning := rfl
    obtain ⟨hk, hp, hj, hrun, hst⟩ := s.runState_leaves j true (st := jsRunning) (by decide)
    rw [hx]
    generalize s.runState j true jsRunning = t at *
    exact ⟨hk.mono (by simp [jetActRegs]), EdgeKept.of_jets hk hp hj,
      ⟨fun _ => ⟨hrun, hst, State.jet_of_jets hj j, hk.g (f := JET_PC.PC j) hpc.1⟩, fun h => absurd h (by decide), fun h => absurd h (by decide)⟩⟩
  · have hx : s.groupAct j 1 = s.runState j false jsStopped := rfl
    obtain ⟨hk, hp, hj, hrun, hst⟩ := s.runState_leaves j false (st := jsStopped) (by decide)
    rw [hx]
    generalize s.runState j false jsStopped = t at *
    exact ⟨hk.mono (by simp [jetActRegs]), EdgeKept.of_jets hk hp hj,
      ⟨fun h => absurd h (by decide), fun _ => ⟨hrun, hst, State.jet_of_jets hj j⟩, fun h => absurd h (by decide)⟩⟩
  · have hx : s.groupAct j 2 = (s.atEntry j).runState j true jsRunning := rfl
    obtain ⟨hk1, he1, hpc1, hd1, hj1⟩ := s.atEntry_leaves j
    rw [hx]
    generalize s.atEntry j = b at *
    obtain ⟨hk, hp, hj, hrun, _⟩ := b.runState_leaves j true (st := jsRunning) (by decide)
    generalize b.runState j true jsRunning = t at *
    exact ⟨(hk1.mono (by simp [jetActRegs])).trans (hk.mono (by simp [jetActRegs])), he1.trans (EdgeKept.of_jets hk hp hj),
      ⟨fun h => absurd h (by decide), fun h => absurd h (by decide),
        fun _ => ⟨hrun, (hk.g (f := JET_PC.PC j) hpc.1).trans hpc1, (hk.same _ hpc.2).trans hd1, (State.jet_of_jets hj j).trans hj1⟩⟩⟩

/-- The members of a bank below `m` take the action. -/
def State.membersAct (s : State) (b : Nat) (f : GrpFire) (a m : Nat) : State :=
  (List.range m).foldl (fun s k => if f.member (32 * b + k) && decide (a < 3) then s.groupAct (32 * b + k) a else s) s

theorem State.membersAct_leaves (s : State) (b : Nat) (f : GrpFire) (a m : Nat) : EdgeKept s (s.membersAct b f a m) ∧
    (∀ k, k < m → f.member (32 * b + k) = true → JetActs s (s.membersAct b f a m) (32 * b + k) a) ∧
    (∀ j, (∀ k, k < m → f.member (32 * b + k) = true → j ≠ 32 * b + k) → JetStands s (s.membersAct b f a m) j) := by
  induction m with
  | zero => exact ⟨⟨rfl, rfl, rfl, rfl, rfl⟩, fun k hk => absurd hk (Nat.not_lt_zero k), fun j _ => ⟨rfl, rfl, rfl, rfl, rfl⟩⟩
  | succ m ih =>
    obtain ⟨hkept, hacts, hstands⟩ := ih
    have hsucc : s.membersAct b f a (m + 1) = if f.member (32 * b + m) && decide (a < 3) then (s.membersAct b f a m).groupAct (32 * b + m) a
        else s.membersAct b f a m := by simp [State.membersAct, List.range_succ, List.foldl_append]
    rw [hsucc]
    generalize s.membersAct b f a m = u at *
    by_cases hc : (f.member (32 * b + m) && decide (a < 3)) = true
    · rw [if_pos hc]
      obtain ⟨hm, ha⟩ := Bool.and_eq_true_iff.1 hc
      obtain ⟨hk, he, hact⟩ := u.groupAct_leaves (32 * b + m) (of_decide_eq_true ha)
      generalize u.groupAct (32 * b + m) a = t at *
      have hlast : JetStands s u (32 * b + m) := hstands _ fun k hk' _ => by omega
      refine ⟨hkept.trans he, fun k hkm hmem => ?_, fun j hj => ?_⟩
      · by_cases hkm' : k = m
        · subst hkm'
          exact hact.of_stands hlast ⟨rfl, rfl, rfl, rfl, rfl⟩
        · exact (hacts k (by omega) hmem).of_stands ⟨rfl, rfl, rfl, rfl, rfl⟩ (hk.stands (by omega))
      · exact (hstands j fun k hk' hmem => hj k (by omega) hmem).trans (hk.stands (hj m (by omega) hm))
    · rw [if_neg hc]
      refine ⟨hkept, fun k hkm hmem => ?_, fun j hj => hstands j fun k hk' hmem => hj k (by omega) hmem⟩
      by_cases hkm' : k = m
      · subst hkm'
        have ha : ¬ a < 3 := fun ha => hc (by rw [hmem, decide_eq_true ha]; rfl)
        exact ⟨fun h => absurd h (by omega), fun h => absurd h (by omega), fun h => absurd h (by omega)⟩
      · exact hacts k (by omega) hmem

/-- The tick generators of a mask restart, of a bank's below `m`. -/
def State.tgActs (s : State) (b mask m : Nat) : State :=
  (List.range m).foldl (fun s k => if mask.testBit (4 * b + k) then
    { s with jets := { s.jets with tgRestarts := SMap.set (fun _ => 0) s.jets.tgRestarts (4 * b + k) s.fns48 } } else s) s

theorem State.tgActs_leaves (s : State) (b mask m : Nat) : ∃ x, s.tgActs b mask m = { s with jets := { s.jets with tgRestarts := x } } ∧
    ∀ k, SMap.get (fun _ => 0) x (4 * b + k) = if k < m ∧ mask.testBit (4 * b + k) = true then s.fns48
      else SMap.get (fun _ => 0) s.jets.tgRestarts (4 * b + k) := by
  induction m with
  | zero => exact ⟨s.jets.tgRestarts, rfl, fun k => by rw [if_neg (by omega)]⟩
  | succ m ih =>
    obtain ⟨x, hx, hget⟩ := ih
    have hsucc : s.tgActs b mask (m + 1) = if mask.testBit (4 * b + m) then
        { s.tgActs b mask m with jets := { (s.tgActs b mask m).jets with
          tgRestarts := SMap.set (fun _ => 0) (s.tgActs b mask m).jets.tgRestarts (4 * b + m) (s.tgActs b mask m).fns48 } } else s.tgActs b mask m := by
      simp [State.tgActs, List.range_succ, List.foldl_append]
    rw [hsucc, hx]
    by_cases hm : mask.testBit (4 * b + m) = true
    · rw [if_pos hm]
      have hns : State.fns48 { s with jets := { s.jets with tgRestarts := x } } = s.fns48 := State.fns48_congr rfl (State.rd64_congr rfl rfl)
      rw [hns]
      refine ⟨_, rfl, fun k => ?_⟩
      rw [Laws.get_set]
      by_cases hk : 4 * b + k = 4 * b + m
      · obtain rfl : k = m := by omega
        rw [if_pos rfl, if_pos ⟨by omega, hm⟩]
      · rw [if_neg hk, hget]
        have hne : k ≠ m := fun e => hk (by rw [e])
        by_cases hc : k < m ∧ mask.testBit (4 * b + k) = true
        · rw [if_pos hc, if_pos ⟨by omega, hc.2⟩]
        · rw [if_neg hc, if_neg fun h => hc ⟨by omega, h.2⟩]
    · rw [if_neg hm]
      refine ⟨x, rfl, fun k => ?_⟩
      rw [hget]
      by_cases hc : k < m ∧ mask.testBit (4 * b + k) = true
      · rw [if_pos hc, if_pos ⟨by omega, hc.2⟩]
      · have hno : ¬(k < m + 1 ∧ mask.testBit (4 * b + k) = true) := fun h => by
          by_cases hk : k = m
          · exact hm (hk ▸ h.2)
          · exact hc ⟨by omega, h.2⟩
        rw [if_neg hc, if_neg hno]

theorem strongest_one (a : Nat) : strongest [a] = if a < 3 then some a else none := by
  by_cases h : a < 3
  · rw [if_pos h]
    obtain rfl | rfl | rfl : a = 0 ∨ a = 1 ∨ a = 2 := by omega
    all_goals rfl
  · rw [if_neg h, strongest]
    have h0 : ¬ 0 = a := by omega
    have h1 : ¬ 1 = a := by omega
    have h2 : ¬ 2 = a := by omega
    simp [h0, h1, h2]

/-- The acting edge of the one group that has fired (R329). -/
theorem State.bankAct_eq {s : State} {b : Nat} {f : GrpFire} (hb : f.bank = b) (hf : s.jets.fired = [f]) :
    s.bankAct b = ((({ s with jets := { s.jets with fired := [] } } : State).tgActs b ((JET_GRP_CFG.TGMASK f.grp).get f.cfg) 4).membersAct b f
      ((JET_GRP_CFG.ACTION f.grp).get f.cfg) 32) := by
  have hfs : s.jets.fired.filter (fun e => e.bank == b) = [f] := by simp [hf, hb]
  have hrest : s.jets.fired.filter (fun e => e.bank != b) = [] := by simp [hf, hb]
  unfold State.bankAct
  rw [hfs, hrest]
  have hone : ∀ k, strongest (([f].filter (fun f => f.member (32 * b + k))).map (fun f => (JET_GRP_CFG.ACTION f.grp).get f.cfg)) =
      if f.member (32 * b + k) && decide ((JET_GRP_CFG.ACTION f.grp).get f.cfg < 3) then some ((JET_GRP_CFG.ACTION f.grp).get f.cfg) else none := fun k => by
    cases hm : f.member (32 * b + k)
    · rw [List.filter_cons_of_neg (by rw [hm]; exact Bool.false_ne_true)]
      rfl
    · rw [List.filter_cons_of_pos (p := fun f : GrpFire => f.member (32 * b + k)) hm, List.filter_nil, List.map_cons, List.map_nil, strongest_one]
      simp
  dsimp only [List.foldl_cons, List.foldl_nil]
  have hstep : (fun (x : State) (k : Nat) => match strongest (([f].filter (fun f => f.member (32 * b + k))).map
        (fun f => (JET_GRP_CFG.ACTION f.grp).get f.cfg)) with | some a => x.groupAct (32 * b + k) a | none => x) =
      fun x k => if f.member (32 * b + k) && decide ((JET_GRP_CFG.ACTION f.grp).get f.cfg < 3) then
        x.groupAct (32 * b + k) ((JET_GRP_CFG.ACTION f.grp).get f.cfg) else x := funext fun x => funext fun k => by
    rw [hone k]
    split
    · next h =>
      split at h
      · next hc =>
        rw [if_pos hc, ← Option.some.inj h]
      · cases h
    · next h =>
      split at h
      · cases h
      · next hc => rw [if_neg hc]
  exact congrFun (congrFun (congrArg List.foldl hstep) _) _

theorem exec_jetGroupAct (b : Fin 2) (s : State) : exec (.jetGroupAct b) s = .next (s.finish (jetGroupAct b s)) := by rfl

theorem jetGroupAct_acts {b : Fin 2} {f : GrpFire} {s : State} (hs : s.resetReq = none) (hdom : s.domOn (12 + b.val) = true) (hb : f.bank = b.val)
    (hf : s.jets.fired = [f]) {action : Nat} (ha : (JET_GRP_CFG.ACTION f.grp).get f.cfg = action) :
    ∃ t, exec (.jetGroupAct b) s = .next t ∧ t.jets.fired = [] ∧ t.pins = s.pins ∧
      (∀ k, k < 4 → SMap.get (fun _ => 0) t.jets.tgRestarts (4 * b.val + k) =
        if ((JET_GRP_CFG.TGMASK f.grp).get f.cfg).testBit (4 * b.val + k) then s.fns48
        else SMap.get (fun _ => 0) s.jets.tgRestarts (4 * b.val + k)) ∧
      (∀ k, k < 32 → f.member (32 * b.val + k) = true → JetActs s t (32 * b.val + k) action) ∧
      (∀ j, (j / 32 ≠ b.val ∨ f.member j = false) → JetStands s t j) := by
  have hx : jetGroupAct b s = s.bankAct b.val := if_pos hdom
  rw [exec_jetGroupAct, hx, State.bankAct_eq hb hf, ha]
  obtain ⟨x, hx, hget⟩ := State.tgActs_leaves { s with jets := { s.jets with fired := [] } } b.val ((JET_GRP_CFG.TGMASK f.grp).get f.cfg) 4
  have hns : State.fns48 { s with jets := { s.jets with fired := [] } } = s.fns48 := State.fns48_congr rfl (State.rd64_congr rfl rfl)
  rw [hx]
  rw [hns] at hget
  have hkeep : ∀ j, JetStands s { s with jets := { s.jets with fired := [], tgRestarts := x } } j := fun j => ⟨rfl, rfl, rfl, rfl, rfl⟩
  dsimp only at hget ⊢
  obtain ⟨a, hadef⟩ : ∃ a, ({ s with jets := { s.jets with fired := [], tgRestarts := x } } : State) = a := ⟨_, rfl⟩
  have hfield : a.jets.fired = [] ∧ a.jets.tgRestarts = x ∧ a.pins = s.pins ∧ a.pending = s.pending ∧ a.resetReq = s.resetReq :=
    hadef ▸ ⟨rfl, rfl, rfl, rfl, rfl⟩
  rw [hadef] at hkeep
  rw [hadef]
  obtain ⟨hfired, hx2, hpins, hpend, hreset⟩ := hfield
  obtain ⟨hk, hacts, hstands⟩ := a.membersAct_leaves b.val f action 32
  generalize a.membersAct b.val f action 32 = t at *
  refine ⟨t, congrArg _ (State.finish_kept ((hk.resetReq.trans hreset).trans hs) (hk.pending.trans hpend)), hk.fired.trans hfired, hk.pins.trans hpins,
    fun k hk4 => ?_, fun k hk32 hm => (hacts k hk32 hm).of_stands (hkeep _) ⟨rfl, rfl, rfl, rfl, rfl⟩, fun j hj => (hkeep j).trans (hstands j fun k hk32 hm he => ?_)⟩
  · rw [hk.restarts, hx2, hget]
    simp only [hk4, true_and]
  · rcases hj with hj | hj
    · omega
    · rw [he, hm] at hj
      cases hj

end Sys2Proof.Machine
end

section
/-! PROOF of JetCommandsAndPins (R310, R311, R314, R315), continued: the field pins' registers. -/

namespace Sys2Proof.Machine

/- One evaluation after another: each of them, left to itself, would hold a thread. -/
set_option Elab.async false

/-! ### Dispatch, and refusal -/

/-- A pin's register of one word, open to class 2. -/
theorem pinAlone (n : Fin 256) {d : Nat} {r : RegRow} (h : regRow (0x1A0000 + d + n.val * 0x10) = some r) (hd : d < 0x10)
    (hopen : (r.openTo 2 && r.fields.any (fun f => f.acc != .ro)) = true) : regAlone (0x1A0000 + d + n.val * 0x10) 2 = true :=
  regAlone_of h hopen (mwGroup_jets (by omega) (by omega))

/-- The effect of a write of the register at place `d` of a pin. -/
def State.pinReg (s : State) (n d : Nat) (r : RegWr) : Nat × State :=
  if d = 0 then s.pinCfgWrite n r.new else if d = 4 then s.inBindWrite n r.new else s.outBindWrite n r.new

theorem State.blkTop_pinReg (s : State) {r : RegWr} (n : Fin 256) {d : Nat} (hd : d < 0x10) (h : r.off = 0x1A0000 + d + n.val * 0x10) :
    s.blkTop r = s.pinReg n.val d r := by
  have hn : r.inst 0x1A0000 16 = n.val := by
    rw [RegWr.inst, h]
    omega
  have hplace : r.off % 16 = d := by omega
  rw [State.blkTop_pins (by omega) (by omega), State.blkPins, if_pos (by omega), hn, hplace]
  rfl

theorem fio_keys : fixedKey FIO_CFGERR_CNT.off = true ∧ evFio 1 < 512 := by decide

/-- A refused write of the field pins. -/
theorem State.fio_refused {s : State} {m : Master} {off c : Nat} (h : s.serves m off c) (ho : regAlone off c = true) {val : Word}
    (hb : s.blkTop (s.regWr m off val) = s.fioRefuse) (hn : (s.rd FIO_CFGERR_CNT.off).toNat + 1 < 0xFFFFFFFF) :
    ∃ t, s.finish (s.regCmd m off 4 val) = t ∧ t.toldCfg m ∧ t.pins = s.pins ∧ t.pts = s.pts ∧
      (t.rd FIO_CFGERR_CNT.off).toNat = (s.rd FIO_CFGERR_CNT.off).toNat + 1 ∧ t.evPend (evFio 1) = true ∧ s.keepsRegs t [FIO_CFGERR_CNT.off] := by
  have hx : s.fioRefuse = (stCFG, (s.count FIO_CFGERR_CNT.off).raise (evFio 1) clEvent) := rfl
  rw [hx] at hb
  obtain ⟨hcnt, hpend, _, heff, hbare⟩ := s.count_raise (cls := clEvent) hn fio_keys.1 fio_keys.2 (by decide)
  generalize (s.count FIO_CFGERR_CNT.off).raise (evFio 1) clEvent = u at *
  obtain ⟨hp, _, _, _, _, _, _, _, hpts, hpins, _⟩ := State.sameStores_of_bare hbare
  obtain ⟨t, ht, htold, hshow⟩ := State.serves_told h ho hb (heff.resetReq.trans (State.serves_noReset h)) hp
  exact ⟨t, ht, htold, hshow.pins.trans hpins, hshow.pts.trans hpts, by rw [hshow.rd, hcnt], (State.evPend_of_regs hshow.regs _).trans hpend,
    fun k hl h1 h2 => (hshow.rd k).trans (heff.rd k hl h1 h2)⟩

/-! ### Pads -/

/-- A pad latch written. -/
theorem State.latchPin_pads (s : State) {n : Nat} (hn : n < 256) (level en : Bool) :
    (s.latchPin n level en).pins.padLevel.getLsbD n = level ∧ (s.latchPin n level en).pins.padEn.getLsbD n = en ∧
      ∀ x, x ≠ n → (s.latchPin n level en).pins.padLevel.getLsbD x = s.pins.padLevel.getLsbD x ∧
        (s.latchPin n level en).pins.padEn.getLsbD x = s.pins.padEn.getLsbD x :=
  ⟨(setPin_bit _ hn level n).trans (if_pos rfl), (setPin_bit _ hn en n).trans (if_pos rfl),
    fun x hx => ⟨(setPin_bit _ hn level x).trans (if_neg hx), (setPin_bit _ hn en x).trans (if_neg hx)⟩⟩

theorem State.latchPin_calm (s : State) (n : Nat) (level en : Bool) : (s.latchPin n level en).regs = s.regs ∧
    (s.latchPin n level en).resetReq = s.resetReq ∧ (s.latchPin n level en).pending = s.pending ∧ (s.latchPin n level en).pts = s.pts :=
  ⟨rfl, rfl, rfl, rfl⟩

/-! ### FIO_PINn_CFG (R310, R311) -/

/-- The latch that a change of owner leaves. -/
def State.pinOwned (s : State) (n : Nat) : State :=
  if s.owner n = 1 then s.latchPin n (s.dlev n) true else if s.owner n = 0 then s.latchPin n (s.pins.padLevel.getLsbD n) false else s

theorem State.pinOwned_leaves (s : State) {n : Nat} (hn : n < 256) : (s.pinOwned n).regs = s.regs ∧ (s.pinOwned n).resetReq = s.resetReq ∧
    (s.pinOwned n).pending = s.pending ∧
    (s.owner n = 0 → (s.pinOwned n).pins.padEn.getLsbD n = false) ∧
    (s.owner n = 1 → (s.pinOwned n).pins.padEn.getLsbD n = true ∧ (s.pinOwned n).pins.padLevel.getLsbD n = s.dlev n) ∧
    (s.owner n = 2 → (s.pinOwned n).pins = s.pins) ∧
    (∀ x, x ≠ n → (s.pinOwned n).pins.padLevel.getLsbD x = s.pins.padLevel.getLsbD x ∧ (s.pinOwned n).pins.padEn.getLsbD x = s.pins.padEn.getLsbD x) := by
  unfold State.pinOwned
  by_cases h1 : s.owner n = 1
  · rw [if_pos h1]
    obtain ⟨hr, hreset, hp, _⟩ := s.latchPin_calm n (s.dlev n) true
    obtain ⟨hl, he, hne⟩ := s.latchPin_pads hn (s.dlev n) true
    exact ⟨hr, hreset, hp, fun h => by omega, fun _ => ⟨he, hl⟩, fun h => by omega, hne⟩
  rw [if_neg h1]
  by_cases h0 : s.owner n = 0
  · rw [if_pos h0]
    obtain ⟨hr, hreset, hp, _⟩ := s.latchPin_calm n (s.pins.padLevel.getLsbD n) false
    obtain ⟨_, he, hne⟩ := s.latchPin_pads hn (s.pins.padLevel.getLsbD n) false
    exact ⟨hr, hreset, hp, fun _ => he, fun h => absurd h h1, fun h => by omega, hne⟩
  · rw [if_neg h0]
    exact ⟨rfl, rfl, rfl, fun h => absurd h h0, fun h => absurd h h1, fun _ => rfl, fun _ _ => ⟨rfl, rfl⟩⟩

theorem pinOwnerWrite_told {m : Master} {n : Fin 256} {val : Word} {s : State} (h : s.serves m (FIO_PIN_CFG.off n.val) 2)
    (hn : (s.rd FIO_CFGERR_CNT.off).toNat + 1 < 0xFFFFFFFF) {own : Nat} (hown : (FIO_PIN_CFG.OWNER n.val).get val = own) :
    ∃ t, exec (.pinOwnerWrite m n val) s = .next t ∧
      (if own = 3 ∨ (FIO_PIN_CFG.PULL n.val).get val = 3 then
        t.toldCfg m ∧ t.pins = s.pins ∧ (t.rd FIO_CFGERR_CNT.off).toNat = (s.rd FIO_CFGERR_CNT.off).toNat + 1 ∧
          t.evPend (evFio 1) = true ∧ s.keepsRegs t [FIO_CFGERR_CNT.off]
      else t.toldOK m ∧ t.owner n.val = own ∧ t.g (FIO_PIN_CFG.JET n.val) = (FIO_PIN_CFG.JET n.val).get val ∧
        t.g (FIO_PIN_CFG.SAFE n.val) = (FIO_PIN_CFG.SAFE n.val).get val ∧ s.sameRegs t [FIO_PIN_CFG.off n.val] ∧
        (own = 0 → t.pins.padEn.getLsbD n.val = false) ∧
        (own = 1 → t.pins.padEn.getLsbD n.val = true ∧ t.pins.padLevel.getLsbD n.val = s.dlev n.val) ∧ (own = 2 → t.pins = s.pins) ∧
        (∀ x, x ≠ n.val → t.pins.padLevel.getLsbD x = s.pins.padLevel.getLsbD x ∧ t.pins.padEn.getLsbD x = s.pins.padEn.getLsbD x)) := by
  have hx : exec (.pinOwnerWrite m n val) s = .next (s.finish (s.regCmd m (FIO_PIN_CFG.off n.val) 4 val)) := by rfl
  have hopen : regAlone (FIO_PIN_CFG.off n.val) 2 = true := pinAlone (d := 0) n (row_pinCfg n) (by decide) (by decide)
  have hget : ∀ f, hasField (FIO_PIN_CFG.off n.val) .rw f = true → f.get (s.regWr m (FIO_PIN_CFG.off n.val) val).new = f.get val :=
    fun f hf => newWord_get_rw hf _ val
  have hO := hget (FIO_PIN_CFG.OWNER n.val) (hasField_of (row_pinCfg n) (by simp [rowPinCfg]))
  have hP := hget (FIO_PIN_CFG.PULL n.val) (hasField_of (row_pinCfg n) (by simp [rowPinCfg]))
  have hJ := hget (FIO_PIN_CFG.JET n.val) (hasField_of (row_pinCfg n) (by simp [rowPinCfg]))
  have hS := hget (FIO_PIN_CFG.SAFE n.val) (hasField_of (row_pinCfg n) (by simp [rowPinCfg]))
  have hb : s.blkTop (s.regWr m (FIO_PIN_CFG.off n.val) val) = s.pinCfgWrite n.val (s.regWr m (FIO_PIN_CFG.off n.val) val).new :=
    State.blkTop_pinReg (d := 0) s n (by decide) rfl
  have hdef : s.pinCfgWrite n.val (s.regWr m (FIO_PIN_CFG.off n.val) val).new = if own = 3 ∨ (FIO_PIN_CFG.PULL n.val).get val = 3 then s.fioRefuse
      else (stOK, (s.wr (FIO_PIN_CFG.off n.val) (s.regWr m (FIO_PIN_CFG.off n.val) val).new).pinOwned n.val) := by
    rw [State.pinCfgWrite, hO, hP, hown]
    rfl
  rw [hdef] at hb
  rw [hx]
  by_cases hbad : own = 3 ∨ (FIO_PIN_CFG.PULL n.val).get val = 3
  · rw [if_pos hbad] at hb
    obtain ⟨t, ht, htold, hpins, _, hcnt, hev, hkeep⟩ := State.fio_refused h hopen hb hn
    exact ⟨t, congrArg _ ht, by rw [if_pos hbad]; exact ⟨htold, hpins, hcnt, hev, hkeep⟩⟩
  · rw [if_neg hbad] at hb
    generalize (s.regWr m (FIO_PIN_CFG.off n.val) val).new = new at *
    have hg : ∀ f : FRef, f.off = FIO_PIN_CFG.off n.val → (s.wr (FIO_PIN_CFG.off n.val) new).g f = f.get new := fun f hf => s.g_wr_self new hf
    have hd : (s.wr (FIO_PIN_CFG.off n.val) new).dlev n.val = s.dlev n.val := by
      rw [State.dlev, State.dlev, s.rd_wr_ne new (by simp only [FIO_LEVEL.off, FIO_PIN_CFG.off]; omega)]
    have hsame : s.sameRegs (s.wr (FIO_PIN_CFG.off n.val) new) [FIO_PIN_CFG.off n.val] := fun k hk => s.rd_wr_ne new fun he => hk (by simp [he])
    have hcalm : (s.wr (FIO_PIN_CFG.off n.val) new).pins = s.pins ∧ (s.wr (FIO_PIN_CFG.off n.val) new).resetReq = s.resetReq ∧
        (s.wr (FIO_PIN_CFG.off n.val) new).pending = s.pending := ⟨s.wr_pins _ _, s.wr_resetReq _ _, s.wr_pending _ _⟩
    generalize s.wr (FIO_PIN_CFG.off n.val) new = a at *
    have howner : a.owner n.val = own := ((hg _ rfl).trans hO).trans hown
    obtain ⟨hr, hreset, hp, h0, h1, h2, hne⟩ := a.pinOwned_leaves n.isLt
    rw [howner, hd] at h1
    rw [howner, hcalm.1] at h2
    rw [howner] at h0
    rw [hcalm.1] at hne
    generalize a.pinOwned n.val = u at *
    obtain ⟨t, ht, htold, hshow⟩ := State.serves_told h hopen hb ((hreset.trans hcalm.2.1).trans (State.serves_noReset h)) (hp.trans hcalm.2.2)
    have hreg : t.regs = a.regs := hshow.regs.trans hr
    have hgt := State.g_of_regs hreg
    refine ⟨t, congrArg _ ht, ?_⟩
    rw [if_neg hbad, hshow.pins]
    exact ⟨htold, (hgt _).trans howner, ((hgt _).trans (hg _ rfl)).trans hJ, ((hgt _).trans (hg _ rfl)).trans hS,
      fun k hk => (State.rd_of_regs hreg k).trans (hsame k hk), h0, h1, h2, hne⟩

end Sys2Proof.Machine
end

section
/-! PROOF of JetCommandsAndPins (R310, R314, R315), continued: direct levels and bindings. -/

namespace Sys2Proof.Machine

/- One evaluation after another: each of them, left to itself, would hold a thread. -/
set_option Elab.async false

/-! ### Direct levels (R310) -/

theorem pinCfg_ne_level (n k : Nat) (hn : n < 256) : FIO_PIN_CFG.off n ≠ FIO_LEVEL.off k := by simp only [FIO_PIN_CFG.off, FIO_LEVEL.off]; omega

/-- A direct level written: the levels, and the pad of a pin that follows them. -/
theorem State.setD_pads (s : State) {n : Nat} (hn : n < 256) (b : Bool) :
    (∀ x, (s.setD n b).dlev x = if x = n then b else s.dlev x) ∧ (∀ x, x < 256 → (s.setD n b).owner x = s.owner x) ∧ (s.setD n b).pts = s.pts ∧
      (s.owner n = 1 → (s.setD n b).pins.padLevel.getLsbD n = b) ∧ (s.owner n ≠ 1 → (s.setD n b).pins = s.pins) ∧
      (∀ x, x ≠ n → (s.setD n b).pins.padLevel.getLsbD x = s.pins.padLevel.getLsbD x) := by
  have hdef : s.setD n b = if (s.wr (FIO_LEVEL.off (n / 16)) (BitVec.ofNat 32 (setBits (s.rd (FIO_LEVEL.off (n / 16))).toNat (n % 16) 1 (b2n b)))).owner n = 1
      then (s.wr (FIO_LEVEL.off (n / 16)) (BitVec.ofNat 32 (setBits (s.rd (FIO_LEVEL.off (n / 16))).toNat (n % 16) 1 (b2n b)))).latchPin n b true
      else s.wr (FIO_LEVEL.off (n / 16)) (BitVec.ofNat 32 (setBits (s.rd (FIO_LEVEL.off (n / 16))).toNat (n % 16) 1 (b2n b))) := rfl
  obtain ⟨hself, hsame, _⟩ := s.setD_leaves n b
  have howner : ∀ w x, x < 256 → (s.wr (FIO_LEVEL.off (n / 16)) w).owner x = s.owner x :=
    fun w x hx => s.g_wr_ne _ w (FIO_PIN_CFG.OWNER x) (pinCfg_ne_level x _ hx)
  have hother : ∀ w x, x / 16 = n / 16 → x ≠ n → w = BitVec.ofNat 32 (setBits (s.rd (FIO_LEVEL.off (n / 16))).toNat (n % 16) 1 (b2n b)) →
      w.toNat.testBit (x % 16) = s.dlev x := fun w x hx hne hw => by
    rw [hw, BitVec.toNat_ofNat, Nat.testBit_mod_two_pow, setBits_testBit, if_neg (by omega), decide_eq_true (show x % 16 < 32 by omega), Bool.true_and,
      State.dlev, hx]
  have hdlev : ∀ x, (s.setD n b).dlev x = if x = n then b else s.dlev x := fun x => by
    by_cases hx : x = n
    · rw [if_pos hx, hx, hself]
    rw [if_neg hx]
    by_cases hreg : x / 16 = n / 16
    · obtain ⟨q, hq⟩ := s.setD_form n b
      have hrd : (s.setD n b).rd (FIO_LEVEL.off (n / 16)) = BitVec.ofNat 32 (setBits (s.rd (FIO_LEVEL.off (n / 16))).toNat (n % 16) 1 (b2n b)) := by
        exact (State.rd_of_regs (congrArg State.regs hq) _).trans (s.rd_wr_same _ _)
      rw [State.dlev, hreg, hrd]
      exact hother _ x hreg hx rfl
    · have hne : FIO_LEVEL.off (x / 16) ∉ [FIO_LEVEL.off (n / 16)] := by
        simp only [List.mem_singleton, FIO_LEVEL.off]
        omega
      rw [State.dlev, State.dlev, hsame _ hne]
  have hown : ∀ x, x < 256 → (s.setD n b).owner x = s.owner x := fun x hx => by
    rw [State.owner, State.owner, State.g, State.g, hsame _ (by simpa using pinCfg_ne_level x _ hx)]
  refine ⟨hdlev, hown, ?_⟩
  rw [hdef]
  generalize BitVec.ofNat 32 (setBits (s.rd (FIO_LEVEL.off (n / 16))).toNat (n % 16) 1 (b2n b)) = w at *
  rw [howner w n hn]
  have hpins := s.wr_pins (FIO_LEVEL.off (n / 16)) w
  have hpts := s.wr_pts (FIO_LEVEL.off (n / 16)) w
  generalize s.wr (FIO_LEVEL.off (n / 16)) w = a at *
  by_cases h1 : s.owner n = 1
  · rw [if_pos h1]
    obtain ⟨hl, _, hne⟩ := a.latchPin_pads hn b true
    rw [hpins] at hne
    exact ⟨(a.latchPin_calm n b true).2.2.2.trans hpts, fun _ => hl, fun h => absurd h1 h, fun x hx => (hne x hx).1⟩
  · rw [if_neg h1]
    exact ⟨hpts, fun h => absurd h h1, fun _ => hpins, fun x _ => by rw [hpins]⟩

/-- The masked levels below `m` written. -/
def State.setLevels (s : State) (k : Nat) (wv : Word) (m : Nat) : State :=
  (List.range m).foldl (fun s j => if wv.getLsbD (16 + j) then s.setD (16 * k + j) (wv.getLsbD j) else s) s

theorem State.setLevels_leaves (s : State) {k : Nat} (hk : k < 16) (wv : Word) {m : Nat} (hm : m ≤ 16) :
    s.sameRegs (s.setLevels k wv m) [FIO_LEVEL.off k] ∧ (s.setLevels k wv m).resetReq = s.resetReq ∧ (s.setLevels k wv m).pending = s.pending ∧
      (∀ x, x < 256 → (s.setLevels k wv m).owner x = s.owner x) ∧
      (∀ j, j < 16 → (s.setLevels k wv m).dlev (16 * k + j) = (if j < m ∧ wv.getLsbD (16 + j) = true then wv.getLsbD j else s.dlev (16 * k + j)) ∧
        (j < m → wv.getLsbD (16 + j) = true → s.owner (16 * k + j) = 1 → (s.setLevels k wv m).pins.padLevel.getLsbD (16 * k + j) = wv.getLsbD j) ∧
        (s.owner (16 * k + j) ≠ 1 → (s.setLevels k wv m).pins.padLevel.getLsbD (16 * k + j) = s.pins.padLevel.getLsbD (16 * k + j))) := by
  induction m with
  | zero => exact ⟨fun _ _ => rfl, rfl, rfl, fun _ _ => rfl, fun j _ => ⟨by rw [if_neg (by omega)]; rfl, fun h => absurd h (Nat.not_lt_zero j), fun _ => rfl⟩⟩
  | succ m ih =>
    obtain ⟨hsame, hreset, hpend, howner, hlev⟩ := ih (by omega)
    have hsucc : s.setLevels k wv (m + 1) = if wv.getLsbD (16 + m) then (s.setLevels k wv m).setD (16 * k + m) (wv.getLsbD m) else s.setLevels k wv m := by
      simp [State.setLevels, List.range_succ, List.foldl_append]
    rw [hsucc]
    generalize s.setLevels k wv m = u at *
    by_cases hmask : wv.getLsbD (16 + m) = true
    · rw [if_pos hmask]
      have hlt : 16 * k + m < 256 := by omega
      obtain ⟨_, hsame2, _, hreset2, hpend2⟩ := u.setD_leaves (16 * k + m) (wv.getLsbD m)
      obtain ⟨hd, hown, _, h1, h2, hne⟩ := u.setD_pads hlt (wv.getLsbD m)
      have hreg : (16 * k + m) / 16 = k := by omega
      rw [hreg] at hsame2
      rw [howner _ hlt] at h1 h2
      generalize u.setD (16 * k + m) (wv.getLsbD m) = t at *
      refine ⟨fun x hx => (hsame2 x hx).trans (hsame x hx), hreset2.trans hreset, hpend2.trans hpend, fun x hx => (hown x hx).trans (howner x hx), fun j hj => ?_⟩
      obtain ⟨hj1, hj2, hj3⟩ := hlev j hj
      rw [hd]
      by_cases hjm : j = m
      · subst hjm
        rw [if_pos rfl, if_pos ⟨Nat.lt_succ_self j, hmask⟩]
        exact ⟨rfl, fun _ _ ho => h1 ho, fun ho => by rw [h2 ho]; exact hj3 ho⟩
      · have hnum : 16 * k + j ≠ 16 * k + m := by omega
        rw [if_neg hnum, hne _ hnum, hj1]
        have hiff : (j < m + 1 ∧ wv.getLsbD (16 + j) = true) ↔ (j < m ∧ wv.getLsbD (16 + j) = true) := by
          constructor
          · exact fun h => ⟨by omega, h.2⟩
          · exact fun h => ⟨by omega, h.2⟩
        simp only [hiff]
        exact ⟨trivial, fun h => hj2 (by omega), hj3⟩
    · rw [if_neg hmask]
      refine ⟨hsame, hreset, hpend, howner, fun j hj => ?_⟩
      obtain ⟨hj1, hj2, hj3⟩ := hlev j hj
      have hiff : (j < m + 1 ∧ wv.getLsbD (16 + j) = true) ↔ (j < m ∧ wv.getLsbD (16 + j) = true) := by
        constructor
        · intro h
          by_cases hjm : j = m
          · exact absurd (hjm ▸ h.2) hmask
          · exact ⟨by omega, h.2⟩
        · exact fun h => ⟨by omega, h.2⟩
      simp only [hiff]
      exact ⟨hj1, fun h hb => hj2 (hiff.1 ⟨h, hb⟩).1 hb, hj3⟩

theorem fioLevel_row (k : Fin 16) : regAlone (FIO_LEVEL.off k.val) 2 = true ∧ hasField (FIO_LEVEL.off k.val) .mw (FIO_LEVEL.MASK k.val) = true ∧
    hasField (FIO_LEVEL.off k.val) .mw (FIO_LEVEL.LEVEL k.val) = true := by
  revert k
  decide +kernel

theorem FRef.get_bits {f : FRef} {a b : Word} (h : f.get a = f.get b) {i : Nat} (hi : i < f.width) : a.getLsbD (f.lsb + i) = b.getLsbD (f.lsb + i) := by
  have hbit := congrArg (fun x : Nat => x.testBit i) h
  simpa only [FRef.get, bitsOf_testBit, hi, decide_true, Bool.true_and, BitVec.testBit_toNat] using hbit

theorem State.blkTop_fioLevel {s : State} {r : RegWr} (k : Fin 16) (h : r.off = 0x1A1100 + k.val * 4) : s.blkTop r = (stOK, s.setLevels k.val r.eff 16) := by
  have hinst : r.inst (FIO_LEVEL.off 0) 4 = k.val := by
    rw [RegWr.inst, h]
    simp only [FIO_LEVEL.off]
    omega
  rw [State.blkTop_pins (by omega) (by omega), State.blkPins, if_neg (by omega), if_neg (by omega), if_pos (by simp only [FIO_LEVEL.off]; omega), hinst]
  rfl

theorem pinLevelWrite_told {m : Master} (k : Fin 16) (val : Word) {s : State} (h : s.serves m (FIO_LEVEL.off k.val) 2) :
    ∃ t, exec (.pinLevelWrite m k val) s = .next t ∧ t.toldOK m ∧ s.sameRegs t [FIO_LEVEL.off k.val] ∧
      (∀ j, j < 16 → t.dlev (16 * k.val + j) = (if val.getLsbD (16 + j) then val.getLsbD j else s.dlev (16 * k.val + j)) ∧
        (val.getLsbD (16 + j) = true → s.owner (16 * k.val + j) = 1 → t.pins.padLevel.getLsbD (16 * k.val + j) = val.getLsbD j) ∧
        (s.owner (16 * k.val + j) ≠ 1 → t.pins.padLevel.getLsbD (16 * k.val + j) = s.pins.padLevel.getLsbD (16 * k.val + j))) := by
  have hx : exec (.pinLevelWrite m k val) s = .next (s.finish (s.regCmd m (FIO_LEVEL.off k.val) 4 val)) := by rfl
  obtain ⟨hopen, hmask, hlevel⟩ := fioLevel_row k
  have hb : s.blkTop (s.regWr m (FIO_LEVEL.off k.val) val) = (stOK, s.setLevels k.val (s.regWr m (FIO_LEVEL.off k.val) val).eff 16) :=
    State.blkTop_fioLevel k rfl
  have heffM : ∀ i, i < 16 → (s.regWr m (FIO_LEVEL.off k.val) val).eff.getLsbD (16 + i) = val.getLsbD (16 + i) := fun i hi =>
    FRef.get_bits (f := FIO_LEVEL.MASK k.val) (effWord_get hmask val) hi
  have heffL : ∀ i, i < 16 → (s.regWr m (FIO_LEVEL.off k.val) val).eff.getLsbD i = val.getLsbD i := fun i hi => by
    have hbit := FRef.get_bits (f := FIO_LEVEL.LEVEL k.val) (effWord_get hlevel val) hi
    simp only [Nat.zero_add] at hbit
    exact hbit
  generalize (s.regWr m (FIO_LEVEL.off k.val) val).eff = wv at *
  obtain ⟨hsame, hreset, hpend, _, hlev⟩ := s.setLevels_leaves k.isLt wv (m := 16) (by omega)
  rw [hx]
  generalize s.setLevels k.val wv 16 = u at *
  obtain ⟨t, ht, htold, hshow⟩ := State.serves_told h hopen hb (hreset.trans (State.serves_noReset h)) hpend
  refine ⟨t, congrArg _ ht, htold, hshow.same hsame, fun j hj => ?_⟩
  obtain ⟨h1, h2, h3⟩ := hlev j hj
  rw [heffM j hj, heffL j hj] at h1 h2
  rw [hshow.pins]
  refine ⟨?_, h2 hj, h3⟩
  have hd : t.dlev (16 * k.val + j) = u.dlev (16 * k.val + j) := by rw [State.dlev, State.dlev, hshow.rd]
  rw [hd, h1]
  simp only [hj, true_and]

/-! ### Input bindings (R314) -/

theorem encOk_bit (b : Bool) : encOk tyBit (b2n b % 2 ^ 64) = true := by
  cases b <;> decide

/-- A register of a pin is none that an operation on points writes. -/
theorem pin_not_tile {k : Nat} (h1 : 0x1A0000 ≤ k) (h2 : k < 0x1A1000) : k ∉ Beside.tileRegs ∧ fixedKey k = true := by
  have hall : Beside.tileRegs.all (fun x => decide (x < 0x1A0000) || decide (0x1A1000 ≤ x)) = true := by decide +kernel
  refine ⟨fun hk => ?_, ?_⟩
  · have := List.all_eq_true.1 hall k hk
    simp only [Bool.or_eq_true, decide_eq_true_eq] at this
    omega
  · have hraise : [SUMP_SAT.off, SUMP_LOG_DROP.off, SUMP_ALARM_DROP.off, SNAP_STAT.off, SNAP_SAT.off, SNAP_LOST.off, PORT_BYP.off, HST_ATTN.off].all
        (fun x => decide (x < 0x1A0000) || decide (0x1A1000 ≤ x)) = true := by decide
    refine fixedKey_iff.2 ⟨decide_eq_false ?_, ?_⟩
    · simp only [EVT_PEND.off]
      omega
    · refine Bool.eq_false_iff.2 fun hc => ?_
      have := List.all_eq_true.1 hraise k (List.contains_iff_mem.1 hc)
      simp only [Bool.or_eq_true, decide_eq_true_eq] at this
      omega

/-- The present level and the filter of a pin whose binding is newly in force, and no rising edge counted. -/
def State.bindFresh (s : State) (n : Nat) : State :=
  { s with pins := { s.pins with present := setPin s.pins.present n (s.pins.ball.getLsbD n), rises := SMap.set (fun _ => 0) s.pins.rises n 0,
                                 filtFrom := SMap.set (fun _ => none) s.pins.filtFrom n none } }

theorem State.bindFresh_leaves (s : State) {n : Nat} (hn : n < 256) : (s.bindFresh n).regs = s.regs ∧ (s.bindFresh n).resetReq = s.resetReq ∧
    (s.bindFresh n).pending = s.pending ∧ (s.bindFresh n).pts = s.pts ∧ (s.bindFresh n).clep = s.clep ∧
    (s.bindFresh n).pins.present.getLsbD n = s.pins.ball.getLsbD n :=
  ⟨rfl, rfl, rfl, rfl, rfl, (setPin_bit _ hn _ n).trans (if_pos rfl)⟩

/-- A level binding's write of its point (R314). -/
theorem State.bindWrite_level {s : State} {n stamp : Nat} (hm : s.flag (FIO_PIN_IN.MODE n) = false)
    (ht : (s.pt (s.g (FIO_PIN_IN.POINT n))).typ = tyBit) :
    (s.bindWrite n stamp).pt (s.g (FIO_PIN_IN.POINT n)) =
      ⟨BitVec.ofNat 64 (b2n (s.pins.present.getLsbD n)), stamp % 2 ^ 48, s.pinQual n, tyBit⟩ := by
  have hx : s.bindWrite n stamp = s.ownerWrite (s.g (FIO_PIN_IN.POINT n)) (b2n (s.pins.present.getLsbD n)) stamp (s.pinQual n) :=
    if_neg (by rw [hm]; exact Bool.false_ne_true)
  rw [hx, State.ownerWrite_pt (by rw [ht]; decide) (by rw [ht]; exact encOk_bit _), ht]

/-- A write of an input binding to be in force, where none was, at MODE 0 (R314). -/
theorem State.inBindWrite_fresh {s : State} {n : Nat} {new : Word} (he : (FIO_PIN_IN.EN n).get new = 1) (hm : (FIO_PIN_IN.MODE n).get new = 0)
    (hold : (FIO_PIN_IN.EN n).get (s.rd (FIO_PIN_IN.off n)) = 0) {i : Nat} (hi : (FIO_PIN_IN.POINT n).get new = i) :
    s.inBindWrite n new = if (s.pt i).typ = tyBit ∧ s.ownerKind i = okField then
      (stOK, ((s.wr (FIO_PIN_IN.off n) new).bindFresh n).bindWrite n ((s.wr (FIO_PIN_IN.off n) new).bindFresh n).fns48) else s.fioRefuse := by
  have hne : new ≠ s.rd (FIO_PIN_IN.off n) := fun h => by
    rw [← h, he] at hold
    cases hold
  unfold State.inBindWrite
  dsimp only
  rw [he, hm, hold, hi]
  simp only [true_and, if_true, hne, ne_eq, not_false_eq_true, true_or, decide_true, Bool.true_or]
  by_cases hgood : (s.pt i).typ = tyBit ∧ s.ownerKind i = okField
  · rw [if_pos hgood, if_neg (by rw [not_or, not_not, not_not]; exact hgood)]
    rfl
  · rw [if_neg hgood, if_pos (by rwa [← not_and_or])]

end Sys2Proof.Machine
end

section
/-! PROOF of JetCommandsAndPins (R314, R315), continued: the commands that bind pins. -/

namespace Sys2Proof.Machine

/- One evaluation after another: each of them, left to itself, would hold a thread. -/
set_option Elab.async false

/-- A field of one bit that reads 0. -/
theorem State.g_of_flag {s : State} {f : FRef} (h : s.flag f = false) : s.g f = 0 := by
  simpa only [State.flag, decide_eq_false_iff_not, ne_eq, Decidable.not_not] using h

theorem State.pinQual_of_rd {s t : State} {n : Nat} (h : t.rd (FIO_BANK_STAT.off (n / 32)) = s.rd (FIO_BANK_STAT.off (n / 32))) : t.pinQual n = s.pinQual n := by
  rw [State.pinQual, State.pinQual, State.bankGood, State.bankGood, State.flag, State.flag, State.g, State.g, h]

section
variable {m : Master} {n : Fin 256} {val : Word} {s : State}

theorem pinInBind_told (h : s.serves m (FIO_PIN_IN.off n.val) 2) (he : (FIO_PIN_IN.EN n.val).get val = 1) (hm : (FIO_PIN_IN.MODE n.val).get val = 0)
    (hen : s.flag (FIO_PIN_IN.EN n.val) = false) (hn : (s.rd FIO_CFGERR_CNT.off).toNat + 1 < 0xFFFFFFFF)
    {i : Nat} (hi : (FIO_PIN_IN.POINT n.val).get val = i) :
    ∃ t, exec (.pinInBindWrite m n val) s = .next t ∧
      (if (s.pt i).typ = tyBit ∧ s.ownerKind i = okField then
        t.toldOK m ∧ t.g (FIO_PIN_IN.POINT n.val) = i ∧ t.flag (FIO_PIN_IN.EN n.val) = true ∧
          (t.pt i).value = BitVec.ofNat 64 (b2n (s.pins.ball.getLsbD n.val)) ∧ (t.pt i).stamp = s.fns48 ∧
          (t.pt i).qual = (if s.bankGood (n.val / 32) then qGood else qFault)
      else t.toldCfg m ∧ t.pts = s.pts ∧ t.pins = s.pins ∧ (t.rd FIO_CFGERR_CNT.off).toNat = (s.rd FIO_CFGERR_CNT.off).toNat + 1 ∧
        s.keepsRegs t [FIO_CFGERR_CNT.off]) := by
  have hx : exec (.pinInBindWrite m n val) s = .next (s.finish (s.regCmd m (FIO_PIN_IN.off n.val) 4 val)) := by rfl
  have hopen : regAlone (FIO_PIN_IN.off n.val) 2 = true := pinAlone (d := 4) n (row_pinIn n) (by decide) (by decide)
  have hget : ∀ f, hasField (FIO_PIN_IN.off n.val) .rw f = true → f.get (s.regWr m (FIO_PIN_IN.off n.val) val).new = f.get val :=
    fun f hf => newWord_get_rw hf _ val
  have hE := (hget (FIO_PIN_IN.EN n.val) (hasField_of (row_pinIn n) (by simp [rowPinIn]))).trans he
  have hM := (hget (FIO_PIN_IN.MODE n.val) (hasField_of (row_pinIn n) (by simp [rowPinIn]))).trans hm
  have hP := (hget (FIO_PIN_IN.POINT n.val) (hasField_of (row_pinIn n) (by simp [rowPinIn]))).trans hi
  have hb : s.blkTop (s.regWr m (FIO_PIN_IN.off n.val) val) = s.inBindWrite n.val (s.regWr m (FIO_PIN_IN.off n.val) val).new :=
    State.blkTop_pinReg (d := 4) s n (by decide) rfl
  rw [State.inBindWrite_fresh hE hM (State.g_of_flag hen) hP] at hb
  rw [hx]
  by_cases hgood : (s.pt i).typ = tyBit ∧ s.ownerKind i = okField
  · rw [if_pos hgood] at hb
    generalize (s.regWr m (FIO_PIN_IN.off n.val) val).new = new at *
    have hg : ∀ f : FRef, f.off = FIO_PIN_IN.off n.val → (s.wr (FIO_PIN_IN.off n.val) new).g f = f.get new := fun f hf => s.g_wr_self new hf
    have hq : (s.wr (FIO_PIN_IN.off n.val) new).pinQual n.val = s.pinQual n.val :=
      State.pinQual_of_rd (s.rd_wr_ne new (by simp only [FIO_BANK_STAT.off, FIO_PIN_IN.off]; omega))
    have hns : (s.wr (FIO_PIN_IN.off n.val) new).fns48 = s.fns48 :=
      State.fns48_congr (s.wr_clep _ _) (State.rd64_congr (s.rd_wr_ne new (by simp only [TIME_EPOCH_LO.off, FIO_PIN_IN.off]; omega))
        (s.rd_wr_ne new (by simp only [TIME_EPOCH_LO.off, FIO_PIN_IN.off]; omega)))
    have hcalm : (s.wr (FIO_PIN_IN.off n.val) new).pins = s.pins ∧ (s.wr (FIO_PIN_IN.off n.val) new).resetReq = s.resetReq ∧
        (s.wr (FIO_PIN_IN.off n.val) new).pending = s.pending ∧ (s.wr (FIO_PIN_IN.off n.val) new).pts = s.pts :=
      ⟨s.wr_pins _ _, s.wr_resetReq _ _, s.wr_pending _ _, s.wr_pts _ _⟩
    generalize s.wr (FIO_PIN_IN.off n.val) new = a at *
    obtain ⟨hpins, hreset, hpend, hpts⟩ := hcalm
    obtain ⟨hregs, hreset2, hpend2, hpts2, hclep, hpresent⟩ := a.bindFresh_leaves n.isLt
    have hns2 : (a.bindFresh n.val).fns48 = a.fns48 := State.fns48_congr hclep (State.rd64_congr (State.rd_of_regs hregs _) (State.rd_of_regs hregs _))
    have hq2 : (a.bindFresh n.val).pinQual n.val = a.pinQual n.val := State.pinQual_of_rd (State.rd_of_regs hregs _)
    generalize a.bindFresh n.val = b at *
    have hgb : ∀ f : FRef, f.off = FIO_PIN_IN.off n.val → b.g f = f.get new := fun f hf => (State.g_of_regs hregs f).trans (hg f hf)
    have hpt : b.g (FIO_PIN_IN.POINT n.val) = i := (hgb _ rfl).trans hP
    have hmode : b.flag (FIO_PIN_IN.MODE n.val) = false := by
      rw [State.flag, hgb _ rfl, hM]
      rfl
    have htyp : (b.pt i).typ = tyBit := by
      have hsame : b.pt i = s.pt i := State.pt_of_recs (by rw [hpts2, hpts]) i
      rw [hsame]
      exact hgood.1
    have hrec := State.bindWrite_level (stamp := b.fns48) hmode (by rw [hpt]; exact htyp)
    rw [hpt, hpresent, hpins, hns2, hns, hq2, hq, Nat.mod_eq_of_lt s.fns48_lt] at hrec
    have hbes := Beside.bindWrite b n.val s.fns48
    rw [hns2, hns] at hb
    generalize b.bindWrite n.val s.fns48 = u at *
    obtain ⟨hnt, hfix⟩ := pin_not_tile (k := FIO_PIN_IN.off n.val) (by simp only [FIO_PIN_IN.off]; omega) (by simp only [FIO_PIN_IN.off]; omega)
    obtain ⟨t, ht, htold, hshow⟩ := State.serves_told h hopen hb (((hbes.resetReq.trans hreset2).trans hreset).trans (State.serves_noReset h))
      ((hbes.pending.trans hpend2).trans hpend)
    have hfin : t.pt i = u.pt i := State.pt_of_recs (by rw [hshow.pts]) i
    refine ⟨t, congrArg _ ht, ?_⟩
    rw [if_pos hgood, hfin, hrec]
    refine ⟨htold, ((hshow.g _).trans (hbes.toEff.g hnt hfix)).trans hpt, ?_, rfl, rfl, rfl⟩
    rw [hshow.flag, hbes.toEff.flag (f := FIO_PIN_IN.EN n.val) hnt hfix, State.flag, hgb _ rfl, hE]
    rfl
  · rw [if_neg hgood] at hb
    obtain ⟨t, ht, htold, hpins, hpts, hcnt, _, hkeep⟩ := State.fio_refused h hopen hb hn
    exact ⟨t, congrArg _ ht, by rw [if_neg hgood]; exact ⟨htold, hpts, hpins, hcnt, hkeep⟩⟩

/-- A write of an output binding to be in force, where none was, at MODE 0 and QGATE 0 (R315). -/
theorem State.outBindWrite_fresh {n : Nat} {new : Word} (he : (FIO_PIN_OUT.EN n).get new = 1) (hm : (FIO_PIN_OUT.MODE n).get new = 0)
    (hq : (FIO_PIN_OUT.QGATE n).get new = 0) (hold : (FIO_PIN_OUT.EN n).get (s.rd (FIO_PIN_OUT.off n)) = 0) {i : Nat}
    (hi : (FIO_PIN_OUT.POINT n).get new = i) :
    s.outBindWrite n new = if (s.pt i).typ = tyBit then
      (stOK, (s.wr (FIO_PIN_OUT.off n) new).setD n (((s.wr (FIO_PIN_OUT.off n) new).pt i).value.getLsbD 0)) else s.fioRefuse := by
  have hne : new ≠ s.rd (FIO_PIN_OUT.off n) := fun h => by
    rw [← h, he] at hold
    cases hold
  unfold State.outBindWrite
  dsimp only
  rw [he, hm, hq, hi]
  simp only [true_and, Nat.zero_ne_one, if_false, false_and, or_false, decide_false, Bool.not_false, ne_eq, hne, not_false_eq_true]
  by_cases hgood : (s.pt i).typ = tyBit
  · rw [if_pos hgood, if_neg (not_not_intro hgood)]
    rfl
  · rw [if_neg hgood, if_pos hgood]

theorem pinOutBind_told (h : s.serves m (FIO_PIN_OUT.off n.val) 2) (he : (FIO_PIN_OUT.EN n.val).get val = 1) (hm : (FIO_PIN_OUT.MODE n.val).get val = 0)
    (hq : (FIO_PIN_OUT.QGATE n.val).get val = 0) (hen : s.flag (FIO_PIN_OUT.EN n.val) = false) (hn : (s.rd FIO_CFGERR_CNT.off).toNat + 1 < 0xFFFFFFFF)
    {i : Nat} (hi : (FIO_PIN_OUT.POINT n.val).get val = i) :
    ∃ t, exec (.pinOutBindWrite m n val) s = .next t ∧ t.pts = s.pts ∧
      (if (s.pt i).typ = tyBit then
        t.toldOK m ∧ t.g (FIO_PIN_OUT.POINT n.val) = i ∧ t.flag (FIO_PIN_OUT.EN n.val) = true ∧
          t.dlev n.val = (s.pt i).value.getLsbD 0 ∧ (s.owner n.val = 1 → t.pins.padLevel.getLsbD n.val = (s.pt i).value.getLsbD 0)
      else t.toldCfg m ∧ t.pins = s.pins ∧ (t.rd FIO_CFGERR_CNT.off).toNat = (s.rd FIO_CFGERR_CNT.off).toNat + 1 ∧
        s.keepsRegs t [FIO_CFGERR_CNT.off]) := by
  have hx : exec (.pinOutBindWrite m n val) s = .next (s.finish (s.regCmd m (FIO_PIN_OUT.off n.val) 4 val)) := by rfl
  have hopen : regAlone (FIO_PIN_OUT.off n.val) 2 = true := pinAlone (d := 8) n (row_pinOut n) (by decide) (by decide)
  have hget : ∀ f, hasField (FIO_PIN_OUT.off n.val) .rw f = true → f.get (s.regWr m (FIO_PIN_OUT.off n.val) val).new = f.get val :=
    fun f hf => newWord_get_rw hf _ val
  have hE := (hget (FIO_PIN_OUT.EN n.val) (hasField_of (row_pinOut n) (by simp [rowPinOut]))).trans he
  have hM := (hget (FIO_PIN_OUT.MODE n.val) (hasField_of (row_pinOut n) (by simp [rowPinOut]))).trans hm
  have hQ := (hget (FIO_PIN_OUT.QGATE n.val) (hasField_of (row_pinOut n) (by simp [rowPinOut]))).trans hq
  have hP := (hget (FIO_PIN_OUT.POINT n.val) (hasField_of (row_pinOut n) (by simp [rowPinOut]))).trans hi
  have hb : s.blkTop (s.regWr m (FIO_PIN_OUT.off n.val) val) = s.outBindWrite n.val (s.regWr m (FIO_PIN_OUT.off n.val) val).new :=
    State.blkTop_pinReg (d := 8) s n (by decide) rfl
  rw [State.outBindWrite_fresh hE hM hQ (State.g_of_flag hen) hP] at hb
  rw [hx]
  by_cases hgood : (s.pt i).typ = tyBit
  · rw [if_pos hgood] at hb
    generalize (s.regWr m (FIO_PIN_OUT.off n.val) val).new = new at *
    have hg : ∀ f : FRef, f.off = FIO_PIN_OUT.off n.val → (s.wr (FIO_PIN_OUT.off n.val) new).g f = f.get new := fun f hf => s.g_wr_self new hf
    have hown : (s.wr (FIO_PIN_OUT.off n.val) new).owner n.val = s.owner n.val :=
      s.g_wr_ne _ new (FIO_PIN_CFG.OWNER n.val) (by simp only [FIO_PIN_CFG.off, FIO_PIN_OUT.off]; omega)
    have hcalm : (s.wr (FIO_PIN_OUT.off n.val) new).resetReq = s.resetReq ∧
        (s.wr (FIO_PIN_OUT.off n.val) new).pending = s.pending ∧ (s.wr (FIO_PIN_OUT.off n.val) new).pts = s.pts :=
      ⟨s.wr_resetReq _ _, s.wr_pending _ _, s.wr_pts _ _⟩
    generalize s.wr (FIO_PIN_OUT.off n.val) new = a at *
    obtain ⟨hreset, hpend, hpts⟩ := hcalm
    have hpt : a.pt i = s.pt i := State.pt_of_recs (by rw [hpts]) i
    rw [hpt] at hb
    obtain ⟨hd, hsame, _, hreset2, hpend2⟩ := a.setD_leaves n.val ((s.pt i).value.getLsbD 0)
    obtain ⟨_, _, hpts2, h1, _, _⟩ := a.setD_pads n.isLt ((s.pt i).value.getLsbD 0)
    generalize a.setD n.val ((s.pt i).value.getLsbD 0) = u at *
    have hgu : ∀ f : FRef, f.off = FIO_PIN_OUT.off n.val → u.g f = f.get new := fun f hf => by
      rw [← hg f hf, State.g, State.g, hf, hsame _ (by simp only [List.mem_singleton, FIO_PIN_OUT.off, FIO_LEVEL.off]; omega)]
    obtain ⟨t, ht, htold, hshow⟩ := State.serves_told h hopen hb ((hreset2.trans hreset).trans (State.serves_noReset h)) (hpend2.trans hpend)
    refine ⟨t, congrArg _ ht, (hshow.pts.trans hpts2).trans hpts, ?_⟩
    have htd : t.dlev n.val = u.dlev n.val := by rw [State.dlev, State.dlev, hshow.rd]
    rw [if_pos hgood, hshow.pins, htd]
    refine ⟨htold, ((hshow.g _).trans (hgu _ rfl)).trans hP, ?_, hd, fun ho => h1 (hown.trans ho)⟩
    rw [hshow.flag, State.flag, hgu _ rfl, hE]
    rfl
  · rw [if_neg hgood] at hb
    obtain ⟨t, ht, htold, hpins, hpts, hcnt, _, hkeep⟩ := State.fio_refused h hopen hb hn
    exact ⟨t, congrArg _ ht, hpts, by rw [if_neg hgood]; exact ⟨htold, hpins, hcnt, hkeep⟩⟩

end

end Sys2Proof.Machine
end

section
/-! PROOF of JetCommandsAndPins (R309, R313, R314), continued: what an operation on points leaves of the pins, and the commands of the pins. -/

namespace Sys2Proof.Machine

/- One evaluation after another: each of them, left to itself, would hold a thread. -/
set_option Elab.async false

/-! ### The pins beside the pad latches -/

/-- The pins' record with the latches' levels left out. -/
def State.pinsRest (s : State) : Pins := { s.pins with padLevel := 0, padEn := 0 }

/-- What changes at most the latches' levels. -/
structure PadsOnly (s t : State) : Prop where
  rest : t.pinsRest = s.pinsRest

namespace PadsOnly

theorem refl (s : State) : PadsOnly s s := ⟨rfl⟩

theorem trans {s t u : State} (a : PadsOnly s t) (b : PadsOnly t u) : PadsOnly s u := ⟨b.rest.trans a.rest⟩

theorem of_pins {s t : State} (h : t.pins = s.pins) : PadsOnly s t := ⟨by rw [State.pinsRest, State.pinsRest, h]⟩

theorem of_bare {s t : State} (h : t.bare = s.bare) : PadsOnly s t := by
  obtain ⟨_, _, _, _, _, _, _, _, _, hpins, _⟩ := State.sameStores_of_bare h
  exact of_pins hpins

theorem ite {c : Prop} [Decidable c] {s t u : State} (ht : PadsOnly s t) (hu : PadsOnly s u) : PadsOnly s (if c then t else u) := by
  split
  · exact ht
  · exact hu

theorem foldl {α : Type} {f : State → α → State} (h : ∀ t e, PadsOnly t (f t e)) : ∀ (es : List α) (s : State), PadsOnly s (es.foldl f s)
  | [], s => refl s
  | e :: es, s => (h s e).trans (foldl h es (f s e))

theorem setD (s : State) (n : Nat) (b : Bool) : PadsOnly s (s.setD n b) := by
  unfold State.setD
  dsimp only
  generalize BitVec.ofNat 32 _ = w
  have hw : PadsOnly s (s.wr (FIO_LEVEL.off (n / 16)) w) := of_pins (s.wr_pins _ _)
  generalize s.wr (FIO_LEVEL.off (n / 16)) w = a at *
  exact ite (hw.trans ⟨rfl⟩) hw

theorem count (s : State) {k : Nat} (hk : k < 2 ^ 22) : PadsOnly s (s.count k) := of_bare (s.count_bare hk)

theorem raise (s : State) (ev : Nat) {cls : Nat} (hc : cls < 4) : PadsOnly s (s.raise ev cls) := of_bare (Quiet.raise s ev hc).bare

theorem p (s : State) (f : FRef) (v : Nat) : PadsOnly s (s.p f v) := of_pins (s.p_pins f v)

theorem pfTile (s : State) (k : Nat) : PadsOnly s (s.pfTile k) := by
  have hdrop : PadsOnly s ({ s with brg := { s.brg with pf := none } } : State) := ⟨rfl⟩
  exact ite (ite (hdrop.trans (count _ (by decide))) (refl s)) (refl s)

theorem putRec (s : State) (i : Nat) (r : PRec) : PadsOnly s (s.putRec i r) := by
  rw [s.putRec_eq, State.placed]
  generalize s.hdrAfter i r = w
  have hset : PadsOnly s (s.setRecs (SMap.set PRec.dflt s.pts.recs i r)) := ⟨rfl⟩
  generalize s.setRecs (SMap.set PRec.dflt s.pts.recs i r) = u at *
  have hpf := hset.trans (pfTile u (i / 16))
  generalize u.pfTile (i / 16) = v at *
  have hhdr : PadsOnly v (v.setHdr (i / 16) w) := ⟨rfl⟩
  generalize v.setHdr (i / 16) w = x at *
  have hfold := foldl (f := fun (s : State) (e : Nat × Bool) => s.setD e.1 (s.bindLevel i e.2)) (fun t e => setD t e.1 (t.bindLevel i e.2)) (x.boundPins i) x
  exact ite hpf ((hpf.trans hhdr).trans hfold)

theorem markQual (s : State) (i q : Nat) : PadsOnly s (s.markQual i q) := ite (refl s) (putRec s _ _)

theorem tileNoted (s : State) (k : Nat) : PadsOnly s (s.tileNoted k) := by
  unfold State.tileNoted
  dsimp only
  have hp := (p s PNT_TILE_LAST.VALID 1).trans (p _ PNT_TILE_LAST.TILE k)
  generalize (s.p PNT_TILE_LAST.VALID 1).p PNT_TILE_LAST.TILE k = u at *
  have hu := hp.trans (count u (k := PNT_TILE_CNT.off) (by decide))
  generalize u.count PNT_TILE_CNT.off = v at *
  exact ite ((hu.trans (p v PNT_STAT.REPEAT (b2n true))).trans (raise _ _ (by decide))) (hu.trans (raise _ _ (by decide)))

theorem markTile (s : State) (j : Nat) : PadsOnly s (s.markTile j) := by
  unfold State.markTile
  exact ite (putRec s _ _) (markQual s _ _)

theorem setHdr (s : State) (k : Nat) (w : Word) : PadsOnly s (s.setHdr k w) := ⟨rfl⟩

theorem tileFail (s : State) (k : Nat) : PadsOnly s (s.tileFail k) := by
  have hmarked : PadsOnly s ((List.range 16).foldl (fun s i => s.markTile (16 * k + i)) s) :=
    foldl (f := fun (s : State) i => s.markTile (16 * k + i)) (fun t i => markTile t (16 * k + i)) _ s
  exact s.tileFail_eq k ▸ (hmarked.trans (setHdr _ k _)).trans (tileNoted _ k)

theorem asIf {f : State → State} (h : ∀ u, PadsOnly u (f u)) (s : State) (b : Bool) : PadsOnly s (s.asIf b f) := by
  cases b
  · exact h s
  · exact ⟨State.asInjected_keeps State.pinsRest (fun _ _ => rfl) fun u => (h u).rest⟩

theorem touchTile (s : State) (k : Nat) : PadsOnly s (s.touchTile k) := by
  have hmet : PadsOnly s (s.injMet (Inject.tileCrc (Fin.ofNat 16384 k))) := ⟨rfl⟩
  have hverified : PadsOnly s (s.verifyTile k false false) := ite (hmet.trans (asIf (fun u => tileFail u k) _ _)) (refl s)
  have hin : PadsOnly s (if s.pts.cache.contains k then s else s.verifyTile k false false) := ite (refl s) hverified
  unfold State.touchTile
  generalize (if s.pts.cache.contains k then s else s.verifyTile k false false) = u at *
  exact hin.trans ⟨rfl⟩

theorem ownerWrite (s : State) (i v stamp q : Nat) : PadsOnly s (s.ownerWrite i v stamp q) := by
  unfold State.ownerWrite
  dsimp only
  have htouch := touchTile s (i / 16)
  generalize s.touchTile (i / 16) = a at *
  have hput := htouch.trans (putRec a i ⟨BitVec.ofNat 64 v, stamp % 2 ^ 48, q, (s.pt i).typ⟩)
  refine ite (refl s) (ite ((p s _ _).trans (count _ (by decide))) ?_)
  generalize a.putRec i ⟨BitVec.ofNat 64 v, stamp % 2 ^ 48, q, (s.pt i).typ⟩ = b at *
  exact hput.trans ⟨rfl⟩

theorem bindWrite (s : State) (n stamp : Nat) : PadsOnly s (s.bindWrite n stamp) := ite (ownerWrite s _ _ _ _) (ownerWrite s _ _ _ _)

theorem ball {s t : State} (h : PadsOnly s t) : t.pins.ball = s.pins.ball := (congrArg Pins.ball h.rest :)
theorem present {s t : State} (h : PadsOnly s t) : t.pins.present = s.pins.present := (congrArg Pins.present h.rest :)
theorem rises {s t : State} (h : PadsOnly s t) : t.pins.rises = s.pins.rises := (congrArg Pins.rises h.rest :)

end PadsOnly

/-! ### The filter (R314) -/

theorem exec_pinFilterExpire (n : Fin 256) (s : State) : exec (.pinFilterExpire n) s = .next (s.finish (s.filterExpire n.val)) := by rfl

/-- The present level as it stands at the ball, with no level waiting. -/
def State.filtered (s : State) (n : Nat) : State :=
  { s with pins := { s.pins with present := setPin s.pins.present n (s.pins.ball.getLsbD n),
                                 filtFrom := SMap.set (fun _ => none) s.pins.filtFrom n none } }

theorem State.filtered_leaves (s : State) {n : Nat} (hn : n < 256) : (s.filtered n).regs = s.regs ∧ (s.filtered n).resetReq = s.resetReq ∧
    (s.filtered n).pending = s.pending ∧ (s.filtered n).pts = s.pts ∧ (s.filtered n).pins.present.getLsbD n = s.pins.ball.getLsbD n :=
  ⟨rfl, rfl, rfl, rfl, (setPin_bit _ hn _ n).trans (if_pos rfl)⟩

theorem pinFilterExpire_writes {n : Fin 256} {stamp : Nat} {s : State} (hs : s.resetReq = none) (hen : s.flag (FIO_PIN_IN.EN n.val) = true)
    (hm : s.flag (FIO_PIN_IN.MODE n.val) = false) {i : Nat} (hi : s.g (FIO_PIN_IN.POINT n.val) = i) (ht : (s.pt i).typ = tyBit)
    (hf : SMap.get (fun _ => none) s.pins.filtFrom n.val = some stamp) (hst : stamp < 2 ^ 48)
    (hpast : s.g (FIO_PIN_IN.FILT n.val) * 1000 ≤ (s.fns48 + 2 ^ 48 - stamp) % 2 ^ 48) :
    ∃ t, exec (.pinFilterExpire n) s = .next t ∧ t.pins.present.getLsbD n.val = s.pins.ball.getLsbD n.val ∧
      (t.pt i).value = BitVec.ofNat 64 (b2n (s.pins.ball.getLsbD n.val)) ∧ (t.pt i).stamp = stamp ∧
      (t.pt i).qual = if s.bankGood (n.val / 32) then qGood else qFault := by
  have hx : s.filterExpire n.val = (s.filtered n.val).bindWrite n.val stamp := by
    unfold State.filterExpire
    rw [hf]
    exact if_pos ⟨hen, by rw [hm]; rfl, hpast⟩
  obtain ⟨hregs, hreset, hpend, hpts, hpresent⟩ := s.filtered_leaves n.isLt
  rw [exec_pinFilterExpire, hx]
  generalize s.filtered n.val = a at *
  have hpa : a.pt i = s.pt i := State.pt_of_recs (by rw [hpts]) i
  have hia : a.g (FIO_PIN_IN.POINT n.val) = i := (State.g_of_regs hregs _).trans hi
  have hrec := State.bindWrite_level (stamp := stamp) ((State.flag_of_regs hregs (FIO_PIN_IN.MODE n.val)).trans hm) (by rw [hia, hpa]; exact ht)
  rw [hia, hpresent, State.pinQual_of_rd (State.rd_of_regs hregs _), Nat.mod_eq_of_lt hst] at hrec
  have hb := Beside.bindWrite a n.val stamp
  have hpo := (PadsOnly.bindWrite a n.val stamp).present
  generalize a.bindWrite n.val stamp = t at *
  exact ⟨t, congrArg _ (State.finish_kept ((hb.resetReq.trans hreset).trans hs) (hb.pending.trans hpend)), by rw [hpo]; exact hpresent,
    by rw [hrec], by rw [hrec], by rw [hrec]; rfl⟩

/-! ### Counts (R314) -/

theorem exec_pinCountWrite (n : Fin 256) (s : State) : exec (.pinCountWrite n) s = .next (s.finish (s.countWrite n.val)) := by rfl

/-- No rising edge counted since now. -/
def State.counted (s : State) (n : Nat) : State :=
  { s with pins := { s.pins with rises := SMap.set (fun _ => 0) s.pins.rises n 0, countAt := SMap.set (fun _ => none) s.pins.countAt n (some s.absNs) } }

theorem State.counted_leaves (s : State) (n : Nat) : (s.counted n).regs = s.regs ∧ (s.counted n).resetReq = s.resetReq ∧
    (s.counted n).pending = s.pending ∧ (s.counted n).pts = s.pts ∧ SMap.get (fun _ => 0) (s.counted n).pins.rises n = 0 :=
  ⟨rfl, rfl, rfl, rfl, (Laws.get_set_same (d := fun _ => 0) s.pins.rises n 0 :)⟩

theorem pinCountWrite_writes {n : Fin 256} {k : Nat} {s : State} (hs : s.resetReq = none) (hen : s.flag (FIO_PIN_IN.EN n.val) = true)
    (hm : s.flag (FIO_PIN_IN.MODE n.val) = true) {i : Nat} (hi : s.g (FIO_PIN_IN.POINT n.val) = i) (ht : (s.pt i).typ = tyCount)
    (hk : SMap.get (fun _ => 0) s.pins.rises n.val = k) (hk0 : k ≠ 0)
    (hpast : (SMap.get (fun _ => none) s.pins.countAt n.val).all (fun t => decide (t + 1000 ≤ s.absNs)) = true)
    (henc : encOk tyCount (((s.pt i).value.toNat + k) % 2 ^ 64) = true) :
    ∃ t, exec (.pinCountWrite n) s = .next t ∧ SMap.get (fun _ => 0) t.pins.rises n.val = 0 ∧
      (t.pt i).value.toNat = ((s.pt i).value.toNat + k) % 2 ^ 64 ∧ (t.pt i).stamp = SMap.get (fun _ => 0) s.pins.riseStamp n.val % 2 ^ 48 ∧
      (t.pt i).qual = if s.bankGood (n.val / 32) then qGood else qFault := by
  have hsoon : ¬((SMap.get (fun _ => none) s.pins.countAt n.val).any (fun t => decide (s.absNs < t + 1000)) = true) := by
    cases h : SMap.get (fun _ => none) s.pins.countAt n.val with
    | none => exact Bool.false_ne_true
    | some x =>
      rw [h, Option.all_some, decide_eq_true_eq] at hpast
      rw [Option.any_some, decide_eq_true_eq]
      exact Int.not_lt.2 hpast
  have hx : s.countWrite n.val = (s.counted n.val).ownerWrite i (((s.pt i).value.toNat + k) % 2 ^ 64)
      (SMap.get (fun _ => 0) s.pins.riseStamp n.val) (s.pinQual n.val) := by
    have hcond : ¬(!s.pinBound n.val ∨ !s.flag (FIO_PIN_IN.MODE n.val) ∨ SMap.get (fun _ => 0) s.pins.rises n.val = 0 ∨
        (SMap.get (fun _ => none) s.pins.countAt n.val).any (fun t => decide (s.absNs < t + 1000))) := by
      rw [State.pinBound, hen, hm, hk]
      simp only [Bool.not_true, Bool.false_eq_true, false_or, not_or]
      exact ⟨hk0, hsoon⟩
    have hw : s.countWrite n.val = (s.counted n.val).ownerWrite (s.g (FIO_PIN_IN.POINT n.val))
        (((s.pt (s.g (FIO_PIN_IN.POINT n.val))).value.toNat + SMap.get (fun _ => 0) s.pins.rises n.val) % 2 ^ 64)
        (SMap.get (fun _ => 0) s.pins.riseStamp n.val) (s.pinQual n.val) := if_neg hcond
    rw [hw, hi, hk]
  obtain ⟨hregs, hreset, hpend, hpts, hrises⟩ := s.counted_leaves n.val
  rw [exec_pinCountWrite, hx]
  generalize s.counted n.val = a at *
  have hpa : a.pt i = s.pt i := State.pt_of_recs (by rw [hpts]) i
  have hrec := State.ownerWrite_pt (s := a) (i := i) (v := ((s.pt i).value.toNat + k) % 2 ^ 64) (stamp := SMap.get (fun _ => 0) s.pins.riseStamp n.val)
    (q := s.pinQual n.val) (by rw [hpa, ht]; decide) (by rw [hpa, ht, Nat.mod_mod]; exact henc)
  have hb := Beside.ownerWrite a i (((s.pt i).value.toNat + k) % 2 ^ 64) (SMap.get (fun _ => 0) s.pins.riseStamp n.val) (s.pinQual n.val)
  have hpo := (PadsOnly.ownerWrite a i (((s.pt i).value.toNat + k) % 2 ^ 64) (SMap.get (fun _ => 0) s.pins.riseStamp n.val) (s.pinQual n.val)).rises
  generalize a.ownerWrite i (((s.pt i).value.toNat + k) % 2 ^ 64) (SMap.get (fun _ => 0) s.pins.riseStamp n.val) (s.pinQual n.val) = t at *
  exact ⟨t, congrArg _ (State.finish_kept ((hb.resetReq.trans hreset).trans hs) (hb.pending.trans hpend)), by rw [hpo]; exact hrises,
    by rw [hrec, BitVec.toNat_ofNat, Nat.mod_mod], by rw [hrec], by rw [hrec]; rfl⟩

end Sys2Proof.Machine
end

section
/-! PROOF of JetCommandsAndPins (R309, R313), continued: a bank's supply, a level change at the ball, and the whole. -/

namespace Sys2Proof.Machine

/- One evaluation after another: each of them, left to itself, would hold a thread. -/
set_option Elab.async false

/-! ### Lists of registers -/

/-- An entry of a table after a key is set is the key's or stood there. -/
theorem mem_insert {α : Type} {k : Nat} {v : α} : ∀ {m : SMap α} {e : Nat × α}, e ∈ SMap.insert k v m → e = (k, v) ∨ e ∈ m
  | [], e, h => Or.inl (List.mem_singleton.1 h)
  | (j, u) :: r, e, h => by
    rw [SMap.insert] at h
    split at h
    · rcases List.mem_cons.1 h with h | h
      · exact Or.inl h
      · exact Or.inr h
    · rcases List.mem_cons.1 h with h | h
      · exact Or.inr (h ▸ List.mem_cons_self)
      · exact (mem_insert h).imp id (List.mem_cons_of_mem _)

theorem mem_set {α : Type} [DecidableEq α] {d : Nat → α} {m : SMap α} {k : Nat} {v : α} {e : Nat × α} (h : e ∈ SMap.set d m k v) :
    e = (k, v) ∨ e ∈ m := by
  have herase : ∀ {x : Nat × α}, x ∈ SMap.erase k m → x ∈ m := fun hx => (List.mem_filter.1 hx).1
  rw [SMap.set] at h
  split at h
  · exact Or.inr (herase h)
  · exact (mem_insert h).imp id herase

/-- A register outside the input bindings' written puts none in force. -/
theorem State.boundIns_wr {s : State} {k : Nat} (w : Word) (hk : 0x1A1004 ≤ k) (h : s.boundIns = []) : (s.wr k w).boundIns = [] := by
  unfold State.boundIns State.listed at h ⊢
  rw [List.filterMap_filterMap, List.filterMap_eq_nil_iff] at h ⊢
  intro e he
  rcases mem_set he with rfl | hm
  · have hout : ¬(FIO_PIN_IN.off 0 ≤ k ∧ k < FIO_PIN_IN.off 0 + 0x10 * 256 ∧ (k - FIO_PIN_IN.off 0) % 0x10 = 0) := by
      simp only [FIO_PIN_IN.off]
      omega
    dsimp only
    rw [if_neg hout]
    rfl
  · exact h e hm

/-! ### A bank's supply (R309) -/

theorem exec_vioBankGoodChange (b : Fin 8) (mv : Nat) (s : State) :
    exec (.vioBankGoodChange b mv) s = .next (s.finish (vioBankGoodChange b mv s)) := by rfl

theorem vioInRange_eq (code mv : Nat) : vioInRange code mv =
    decide ((code = 1 ∧ 1620 ≤ mv ∧ mv ≤ 1980) ∨ (code = 2 ∧ 2250 ≤ mv ∧ mv ≤ 2750) ∨ (code = 3 ∧ 2970 ≤ mv ∧ mv ≤ 3630)) := by
  unfold vioInRange
  rw [Bool.eq_iff_iff]
  split
  · simp only [decide_eq_true_eq]
    omega
  · split
    · simp only [decide_eq_true_eq]
      omega
    · split
      · simp only [decide_eq_true_eq]
        omega
      · simp only [decide_eq_true_eq, Bool.false_eq_true, false_iff]
        omega

/-- The supply's level noted. -/
def State.vioNoted (s : State) (b mv : Nat) : State := { s with pins := { s.pins with vioMv := SMap.set (fun _ => 0) s.pins.vioMv b mv } }

theorem State.vioNoted_leaves (s : State) (b mv : Nat) : (s.vioNoted b mv).regs = s.regs ∧ (s.vioNoted b mv).resetReq = s.resetReq ∧
    (s.vioNoted b mv).pending = s.pending ∧ (s.vioNoted b mv).pts = s.pts ∧ SMap.get (fun _ => 0) (s.vioNoted b mv).pins.vioMv b = mv :=
  ⟨rfl, rfl, rfl, rfl, (Laws.get_set_same (d := fun _ => 0) s.pins.vioMv b mv :)⟩

/-- GOOD evaluated again with no input binding in force. -/
theorem State.evalGood_bare {s : State} {b : Nat} (hb : b < 8) (h : s.boundIns = []) {good : Bool}
    (hg : vioInRange (s.g (FIO_BANK_CFG.VIO b)) (SMap.get (fun _ => 0) s.pins.vioMv b) = good) :
    s.evalGood b = if s.bankGood b && !good && decide (s.g (FIO_BANK_CFG.VIO b) ≠ 0) then
      ((s.pb (FIO_BANK_STAT.GOOD b) good).count FIO_VIO_FAIL.off).raise (evFio 2) clDegraded else s.pb (FIO_BANK_STAT.GOOD b) good := by
  have hnone : (s.pb (FIO_BANK_STAT.GOOD b) good).boundIns = [] := State.boundIns_wr _ (by simp only [FIO_BANK_STAT.off]; omega) h
  unfold State.evalGood
  dsimp only
  rw [hg]
  generalize s.pb (FIO_BANK_STAT.GOOD b) good = a at *
  rw [hnone]
  simp only [List.filter_nil, List.foldl_nil]
  cases s.bankGood b <;> cases good <;> simp

theorem bankStat_keys (b : Fin 8) : fixedKey (FIO_BANK_STAT.off b.val) = true ∧ FIO_BANK_STAT.off b.val ≠ FIO_VIO_FAIL.off ∧
    FIO_BANK_STAT.off b.val ∉ [FIO_VIO_FAIL.off] := by
  revert b
  decide

theorem fioVio_keys : fixedKey FIO_VIO_FAIL.off = true ∧ evFio 2 < 512 := by decide

theorem vioBankGoodChange_leaves {b : Fin 8} {mv : Nat} {s : State} (hs : s.resetReq = none) (hnone : s.boundIns = [])
    (hn : (s.rd FIO_VIO_FAIL.off).toNat + 1 < 0xFFFFFFFF) {code : Nat} (hcode : s.g (FIO_BANK_CFG.VIO b.val) = code) {good : Bool}
    (hgood : vioInRange code mv = good) {falls : Bool} (hfalls : (s.bankGood b.val && !good && decide (code ≠ 0)) = falls) :
    ∃ t, exec (.vioBankGoodChange b mv) s = .next t ∧ t.bankGood b.val = good ∧ t.pts = s.pts ∧
      (t.rd FIO_VIO_FAIL.off).toNat = (s.rd FIO_VIO_FAIL.off).toNat + b2n falls ∧
      (falls = true → t.evPend (evFio 2) = true ∧ clDegraded ≤ t.evKept (evFio 2)) ∧
      s.keepsRegs t [FIO_BANK_STAT.off b.val, FIO_VIO_FAIL.off] := by
  have hx : vioBankGoodChange b mv s = (s.vioNoted b.val mv).evalGood b.val := rfl
  obtain ⟨hregs, hreset, hpend, hpts, hmv⟩ := s.vioNoted_leaves b.val mv
  have hnone' : (s.vioNoted b.val mv).boundIns = [] := by
    rw [State.boundIns, State.listed, hregs]
    exact hnone
  rw [exec_vioBankGoodChange, hx]
  generalize s.vioNoted b.val mv = a at *
  have hcode' : a.g (FIO_BANK_CFG.VIO b.val) = code := (State.g_of_regs hregs _).trans hcode
  have hold : a.bankGood b.val = s.bankGood b.val := State.flag_of_regs hregs (FIO_BANK_STAT.GOOD b.val)
  rw [State.evalGood_bare b.isLt hnone' (good := good) (by rw [hcode', hmv, hgood]), hcode', hold, hfalls]
  obtain ⟨hfix, hne, hni⟩ := bankStat_keys b
  have hsame : a.sameRegs (a.pb (FIO_BANK_STAT.GOOD b.val) good) [FIO_BANK_STAT.off b.val] := fun k hk => a.rd_pb_ne good fun he => hk (by simp [he])
  have hflag : (a.pb (FIO_BANK_STAT.GOOD b.val) good).bankGood b.val = good := a.flag_pb_self (f := FIO_BANK_STAT.GOOD b.val) good (by simp) rfl
  obtain ⟨hpts1, hreset1, hpend1⟩ : (a.pb (FIO_BANK_STAT.GOOD b.val) good).pts = a.pts ∧ (a.pb (FIO_BANK_STAT.GOOD b.val) good).resetReq = a.resetReq ∧
      (a.pb (FIO_BANK_STAT.GOOD b.val) good).pending = a.pending := ⟨a.p_pts _ _, a.p_resetReq _ _, a.p_pending _ _⟩
  generalize a.pb (FIO_BANK_STAT.GOOD b.val) good = u at *
  have hcnt1 : u.rd FIO_VIO_FAIL.off = s.rd FIO_VIO_FAIL.off :=
    (hsame _ (by simp only [List.mem_singleton]; exact fun h => hne h.symm)).trans (State.rd_of_regs hregs _)
  cases falls with
  | false =>
    rw [if_neg Bool.false_ne_true]
    exact ⟨u, congrArg _ (State.finish_kept ((hreset1.trans hreset).trans hs) (hpend1.trans hpend)), hflag, hpts1.trans hpts, by rw [hcnt1]; rfl,
      fun h => absurd h Bool.false_ne_true,
      fun k hk _ _ => (hsame k fun hm => hk (by simp only [List.mem_singleton] at hm; simp [hm])).trans (State.rd_of_regs hregs k)⟩
  | true =>
    rw [if_pos rfl]
    obtain ⟨hcnt, hev, hkept, heff, hbare⟩ := u.count_raise (cls := clDegraded) (by rw [hcnt1]; exact hn) fioVio_keys.1 fioVio_keys.2 (by decide)
    generalize (u.count FIO_VIO_FAIL.off).raise (evFio 2) clDegraded = t at *
    obtain ⟨hpend2, _, _, _, _, _, _, _, hpts2, _⟩ := State.sameStores_of_bare hbare
    refine ⟨t, congrArg _ (State.finish_kept (((heff.resetReq.trans hreset1).trans hreset).trans hs) ((hpend2.trans hpend1).trans hpend)),
      (heff.flag (f := FIO_BANK_STAT.GOOD b.val) hni hfix).trans hflag, (hpts2.trans hpts1).trans hpts, by rw [hcnt, hcnt1]; rfl,
      fun _ => ⟨hev, hkept⟩, fun k hk h1 h2 => ?_⟩
    rw [heff.rd k (fun hm => hk (List.mem_cons_of_mem _ hm)) h1 h2, hsame k fun hm => hk (by simp only [List.mem_singleton] at hm; simp [hm])]
    exact State.rd_of_regs hregs k

/-! ### A level change at the ball (R313, R314) -/

theorem exec_fieldPinLevelChange (n : Fin 256) (level : Bool) (sub : Fin 4) (s : State) :
    exec (.fieldPinLevelChange n level sub) s = .next (s.finish (s.ballChange n.val level ((s.fns48 + sub.val) % 2 ^ 48))) := by rfl

/-- The level at a ball replaced. -/
def State.ballSet (s : State) (n : Nat) (level : Bool) : State := { s with pins := { s.pins with ball := setPin s.pins.ball n level } }

/-- A present level replaced. -/
def State.presentSet (s : State) (n : Nat) (level : Bool) : State := { s with pins := { s.pins with present := setPin s.pins.present n level } }

/-- A rising edge counted. -/
def State.riseSet (s : State) (n stamp : Nat) : State :=
  { s with pins := { s.pins with rises := SMap.set (fun _ => 0) s.pins.rises n (SMap.get (fun _ => 0) s.pins.rises n + 1),
                                 riseStamp := SMap.set (fun _ => 0) s.pins.riseStamp n stamp } }

/-- The level that waits replaced. -/
def State.filtSet (s : State) (n : Nat) (x : Option Nat) : State :=
  { s with pins := { s.pins with filtFrom := SMap.set (fun _ => none) s.pins.filtFrom n x } }

/-- What follows the ball's new level. -/
def State.ballActs (a : State) (n : Nat) (old level : Bool) (stamp : Nat) : State :=
  if old = level ∨ !a.pinBound n then a
  else if a.flag (FIO_PIN_IN.MODE n) then (if level then a.riseSet n stamp else a)
  else if a.g (FIO_PIN_IN.FILT n) = 0 then (a.presentSet n level).bindWrite n stamp
  else if level = a.pins.present.getLsbD n then a.filtSet n none else a.filtSet n (some stamp)

theorem State.ballChange_eq (s : State) (n : Nat) (level : Bool) (stamp : Nat) :
    s.ballChange n level stamp = (s.ballSet n level).ballActs n (s.pins.ball.getLsbD n) level stamp := rfl

/-- What the ball's new level keeps: the balls, the commands that wait, the registers and points unless a binding writes. -/
structure BallKept (a t : State) : Prop where
  ball : t.pins.ball = a.pins.ball
  resetReq : t.resetReq = a.resetReq
  pending : t.pending = a.pending

theorem State.ballActs_kept (a : State) (n : Nat) (old level : Bool) (stamp : Nat) : BallKept a (a.ballActs n old level stamp) := by
  have hb := Beside.bindWrite (a.presentSet n level) n stamp
  have hp := (PadsOnly.bindWrite (a.presentSet n level) n stamp).ball
  have hset : (a.presentSet n level).pins.ball = a.pins.ball ∧ (a.presentSet n level).resetReq = a.resetReq ∧ (a.presentSet n level).pending = a.pending :=
    ⟨rfl, rfl, rfl⟩
  unfold State.ballActs
  generalize a.presentSet n level = c at *
  generalize c.bindWrite n stamp = d at *
  split
  · exact ⟨rfl, rfl, rfl⟩
  · split
    · split
      · exact ⟨rfl, rfl, rfl⟩
      · exact ⟨rfl, rfl, rfl⟩
    · split
      · exact ⟨hp.trans hset.1, hb.resetReq.trans hset.2.1, hb.pending.trans hset.2.2⟩
      · split
        · exact ⟨rfl, rfl, rfl⟩
        · exact ⟨rfl, rfl, rfl⟩

theorem State.ballSet_leaves (s : State) {n : Nat} (hn : n < 256) (level : Bool) : (s.ballSet n level).regs = s.regs ∧
    (s.ballSet n level).resetReq = s.resetReq ∧ (s.ballSet n level).pending = s.pending ∧ (s.ballSet n level).pts = s.pts ∧
    { (s.ballSet n level).pins with ball := s.pins.ball } = s.pins ∧ (s.ballSet n level).pins.ball.getLsbD n = level ∧
    (∀ x, x ≠ n → (s.ballSet n level).pins.ball.getLsbD x = s.pins.ball.getLsbD x) :=
  ⟨rfl, rfl, rfl, rfl, rfl, (setPin_bit _ hn level n).trans (if_pos rfl), fun x hx => (setPin_bit _ hn level x).trans (if_neg hx)⟩

section
variable {a : State} {n : Nat} {old level : Bool} {stamp : Nat}

theorem State.ballActs_unbound (h : a.flag (FIO_PIN_IN.EN n) = false) : a.ballActs n old level stamp = a := by
  unfold State.ballActs
  rw [State.pinBound, h]
  exact if_pos (Or.inr rfl)

/-- What follows a change at a pin bound. -/
theorem State.ballActs_bound (h : a.flag (FIO_PIN_IN.EN n) = true) (hne : old ≠ level) : a.ballActs n old level stamp =
    if a.flag (FIO_PIN_IN.MODE n) then (if level then a.riseSet n stamp else a)
    else if a.g (FIO_PIN_IN.FILT n) = 0 then (a.presentSet n level).bindWrite n stamp
    else if level = a.pins.present.getLsbD n then a.filtSet n none else a.filtSet n (some stamp) := by
  unfold State.ballActs
  rw [State.pinBound, h]
  exact if_neg (by simpa using hne)

theorem State.ballActs_writes (hn : n < 256) (h : a.flag (FIO_PIN_IN.EN n) = true) (hm : a.flag (FIO_PIN_IN.MODE n) = false)
    (hf : a.g (FIO_PIN_IN.FILT n) = 0) (hne : old ≠ level) {i : Nat} (hi : a.g (FIO_PIN_IN.POINT n) = i) (ht : (a.pt i).typ = tyBit) :
    ((a.ballActs n old level stamp).pt i).value = BitVec.ofNat 64 (b2n level) ∧ ((a.ballActs n old level stamp).pt i).stamp = stamp % 2 ^ 48 := by
  have hset : (a.presentSet n level).regs = a.regs ∧ (a.presentSet n level).pts = a.pts := ⟨rfl, rfl⟩
  have hbit : (a.presentSet n level).pins.present.getLsbD n = level := (setPin_bit _ hn level n).trans (if_pos rfl)
  rw [State.ballActs_bound h hne, if_neg (by rw [hm]; exact Bool.false_ne_true), if_pos hf]
  generalize a.presentSet n level = c at *
  have hpc : c.pt i = a.pt i := State.pt_of_recs (by rw [hset.2]) i
  have hic : c.g (FIO_PIN_IN.POINT n) = i := (State.g_of_regs hset.1 _).trans hi
  have hrec := State.bindWrite_level (stamp := stamp) ((State.flag_of_regs hset.1 (FIO_PIN_IN.MODE n)).trans hm) (by rw [hic, hpc]; exact ht)
  rw [hic, hbit] at hrec
  exact ⟨by rw [hrec], by rw [hrec]⟩

theorem State.ballActs_filters (h : a.flag (FIO_PIN_IN.EN n) = true) (hm : a.flag (FIO_PIN_IN.MODE n) = false)
    (hf : a.g (FIO_PIN_IN.FILT n) ≠ 0) (hne : old ≠ level) : (a.ballActs n old level stamp).pts = a.pts ∧
      SMap.get (fun _ => none) (a.ballActs n old level stamp).pins.filtFrom n = if level = a.pins.present.getLsbD n then none else some stamp := by
  rw [State.ballActs_bound h hne, if_neg (by rw [hm]; exact Bool.false_ne_true), if_neg hf]
  by_cases hl : level = a.pins.present.getLsbD n
  · rw [if_pos hl, if_pos hl]
    exact ⟨rfl, (Laws.get_set_same (d := fun _ => none) a.pins.filtFrom n none :)⟩
  · rw [if_neg hl, if_neg hl]
    exact ⟨rfl, (Laws.get_set_same (d := fun _ => none) a.pins.filtFrom n (some stamp) :)⟩

theorem State.ballActs_counts (h : a.flag (FIO_PIN_IN.EN n) = true) (hm : a.flag (FIO_PIN_IN.MODE n) = true) :
    (a.ballActs n false true stamp).pts = a.pts ∧
      SMap.get (fun _ => 0) (a.ballActs n false true stamp).pins.rises n = SMap.get (fun _ => 0) a.pins.rises n + 1 ∧
      SMap.get (fun _ => 0) (a.ballActs n false true stamp).pins.riseStamp n = stamp := by
  rw [State.ballActs_bound h Bool.false_ne_true, if_pos hm, if_pos rfl]
  exact ⟨rfl, (Laws.get_set_same (d := fun _ => 0) a.pins.rises n (SMap.get (fun _ => 0) a.pins.rises n + 1) :),
    (Laws.get_set_same (d := fun _ => 0) a.pins.riseStamp n stamp :)⟩

end

/-! ### The whole -/

/-- Settles O50. -/
theorem jetCommandsAndPins : Obligations.JetCommandsAndPins := by
  refine ⟨fun m j val s h hn => jetTx_told j val h hn, fun m j val s h hn => jetRxPop_told j val h hn,
    fun m j s h => ⟨jetRun_told j h, jetStop_told j h, fun hop hlegal h11 h10 hl => jetStep_told j h rfl hop hlegal h11 h10 hl, jetClear_told j h⟩,
    fun m j k val s => ⟨fun h => jetPcWrite_told j val h, fun h => jetDWrite_told j val h, fun h => jetProgWrite_told j k val h⟩,
    fun m g s h hg => jetGroupGo_told h hg, fun b f s hs hdom hb hf => ?_, fun m n val s h hn => pinOwnerWrite_told h hn rfl,
    fun m k val s h => pinLevelWrite_told k val h,
    fun m n val s => ⟨fun h he hm hen hn => pinInBind_told h he hm hen hn rfl, fun h he hm hq hen hn => pinOutBind_told h he hm hq hen hn rfl⟩,
    fun n stamp k s hs hen => ⟨fun hm ht hf hst hpast => pinFilterExpire_writes hs hen hm rfl ht hf hst hpast,
      fun hm ht hk hk0 hpast henc => pinCountWrite_writes hs hen hm rfl ht hk hk0 hpast henc⟩,
    fun b mv s hs hnone hn => vioBankGoodChange_leaves hs hnone hn rfl (vioInRange_eq _ mv) rfl, fun n level sub s hs => ?_⟩
  · obtain ⟨t, ht, hfired, hpins, hrestarts, hacts, hstands⟩ := jetGroupAct_acts hs hdom hb hf rfl
    refine ⟨t, ht, hfired, hpins, hrestarts, fun k hk hm => ?_, fun j hj => ?_⟩
    · obtain ⟨hstart, hstop, hrestart⟩ := hacts k hk hm
      exact ⟨hstart, hstop, hrestart⟩
    · obtain ⟨hjet, hctrl, hstat, hpc, _⟩ := hstands j hj
      exact ⟨hjet, hctrl, hstat, hpc⟩
  · rw [exec_fieldPinLevelChange, State.ballChange_eq]
    obtain ⟨hregs, hreset, hpend, hpts, hrest, hself, hother⟩ := s.ballSet_leaves n.isLt level
    have hrises : (s.ballSet n.val level).pins.rises = s.pins.rises ∧ (s.ballSet n.val level).pins.present = s.pins.present := ⟨rfl, rfl⟩
    generalize s.ballSet n.val level = a at *
    obtain ⟨hball, hreset2, hpend2⟩ := a.ballActs_kept n.val (s.pins.ball.getLsbD n.val) level ((s.fns48 + sub.val) % 2 ^ 48)
    have hflag := State.flag_of_regs hregs
    have hg := State.g_of_regs hregs
    have hpt : ∀ i, a.pt i = s.pt i := fun i => State.pt_of_recs (by rw [hpts]) i
    refine ⟨_, congrArg _ (State.finish_kept ((hreset2.trans hreset).trans hs) (hpend2.trans hpend)), by rw [hball]; exact hself,
      fun x hx => by rw [hball]; exact hother x hx, fun hen => ?_, fun hen hm hf hne ht => ?_, fun hen hm hf hne => ?_, fun hen hm hlow hl => ?_⟩
    · rw [State.ballActs_unbound ((hflag _).trans hen)]
      exact ⟨hpts, hregs, hrest⟩
    · have hw := State.ballActs_writes (old := s.pins.ball.getLsbD n.val) (level := level) (stamp := (s.fns48 + sub.val) % 2 ^ 48) n.isLt
        ((hflag _).trans hen) ((hflag _).trans hm) ((hg _).trans hf) hne (hg _) (by rw [hpt]; exact ht)
      rwa [Nat.mod_mod] at hw
    · have hw := State.ballActs_filters (old := s.pins.ball.getLsbD n.val) (level := level) (stamp := (s.fns48 + sub.val) % 2 ^ 48)
        ((hflag _).trans hen) ((hflag _).trans hm) (by rw [hg]; exact hf) hne
      rw [hpts, hrises.2] at hw
      exact hw
    · subst hl
      rw [hlow]
      have hw := State.ballActs_counts (stamp := (s.fns48 + sub.val) % 2 ^ 48) ((hflag (FIO_PIN_IN.EN n.val)).trans hen) ((hflag _).trans hm)
      rw [hpts, hrises.1] at hw
      exact hw

end Sys2Proof.Machine
end

section
/-! The Cisterns' operations (R336 to R346): what a change of a Cistern's contents, a drop, a close and a push leave, and what they come to. -/

namespace Sys2Proof.Machine

/- One evaluation after another: each of them, left to itself, would hold a thread. -/
set_option Elab.async false

/-! ### Operations on one Cistern -/

/-- A register of a Cistern is none that an event touches. -/
theorem cstKey {k : Nat} (h1 : 0x160000 ≤ k) (h2 : k < 0x162000) : fixedKey k = true := by
  have hraise : [SUMP_SAT.off, SUMP_LOG_DROP.off, SUMP_ALARM_DROP.off, SNAP_STAT.off, SNAP_SAT.off, SNAP_LOST.off, PORT_BYP.off, HST_ATTN.off].all
      (fun x => decide (x < 0x160000) || decide (0x162000 ≤ x)) = true := by decide
  refine fixedKey_iff.2 ⟨decide_eq_false ?_, ?_⟩
  · simp only [EVT_PEND.off]
    omega
  · refine Bool.eq_false_iff.2 fun hc => ?_
    have := List.all_eq_true.1 hraise k (List.contains_iff_mem.1 hc)
    simp only [Bool.or_eq_true, decide_eq_true_eq] at this
    omega

theorem cstStat_key {n : Nat} (hn : n < 256) : fixedKey (CST_STAT.off n) = true :=
  cstKey (by simp only [CST_STAT.off]; omega) (by simp only [CST_STAT.off]; omega)

theorem State.cist_of_cst {s t : State} (h : t.cst = s.cst) (n : Nat) : t.cist n = s.cist n := by rw [State.cist, State.cist, h]

/-- A chain that writes the status of one Cistern and the registers listed, and changes no other Cistern. -/
structure CistOp (s t : State) (n : Nat) (l : List Nat) : Prop extends Eff s t (CST_STAT.off n :: l) where
  others : ∀ k, k ≠ n → t.cist k = s.cist k
  pts : t.pts = s.pts
  flow : t.flow = s.flow
  pending : t.pending = s.pending

namespace CistOp

variable {s t u : State} {n : Nat} {l l' : List Nat}

theorem refl (s : State) (n : Nat) (l : List Nat) : CistOp s s n l := ⟨Eff.refl s _, fun _ _ => rfl, rfl, rfl, rfl⟩

theorem trans (a : CistOp s t n l) (b : CistOp t u n l) : CistOp s u n l :=
  ⟨a.toEff.trans b.toEff, fun k hk => (b.others k hk).trans (a.others k hk), b.pts.trans a.pts, b.flow.trans a.flow, b.pending.trans a.pending⟩

theorem mono (a : CistOp s t n l) (h : ∀ k ∈ l, k ∈ l') : CistOp s t n l' :=
  ⟨a.toEff.mono fun k hk => (List.mem_cons.1 hk).elim (fun he => he ▸ List.mem_cons_self) fun hm => List.mem_cons_of_mem _ (h k hm),
    a.others, a.pts, a.flow, a.pending⟩

theorem of_bare (he : Eff s t (CST_STAT.off n :: l)) (hb : t.bare = s.bare) : CistOp s t n l := by
  obtain ⟨hpend, _, _, _, _, _, _, _, hpts, _, _, hcst, _, _, _, _, hflow, _⟩ := State.sameStores_of_bare hb
  exact ⟨he, fun k _ => State.cist_of_cst hcst k, hpts, hflow, hpend⟩

theorem p (s : State) (f : FRef) (v : Nat) (hk : isPendKey f.off = false) (hl : f.off ∈ CST_STAT.off n :: l) : CistOp s (s.p f v) n l :=
  of_bare (Eff.p s f v hk hl) (Quiet.p s f v).bare

theorem raise (s : State) {ev cls : Nat} (hev : ev < 512) (hc : cls < 4) (n : Nat) (l : List Nat) : CistOp s (s.raise ev cls) n l :=
  of_bare (Eff.raise s hev hc _) (s.raise_raised cls hev).bare

theorem setCist (s : State) (n : Nat) (c : Cistern) (l : List Nat) : CistOp s (s.setCist n c) n l :=
  ⟨Eff.of_regs _, fun _ hk => Laws.get_set_ne _ c hk, rfl, rfl, rfl⟩

theorem frame (h : CistOp s t n l) : s.cistFrame t n l := ⟨h.others, h.rd, h.pts, h.flow⟩

theorem finish (h : CistOp s t n l) (hs : s.resetReq = none) : s.finish t = t := State.finish_kept (h.resetReq.trans hs) h.pending

end CistOp

theorem State.setCist_cist (s : State) (n : Nat) (c : Cistern) : (s.setCist n c).cist n = c := Laws.get_set_same _ n c

/-- The Weir output changes nothing else. -/
theorem State.weirEval_leaves (s : State) {n : Nat} (hn : n < 256) : CistOp s (s.weirEval n) n [] ∧ (s.weirEval n).cst = s.cst ∧
    ∀ f, (CST_STAT.WEIR n).sep f = true → (s.weirEval n).g f = s.g f := by
  have hput : ∀ b : Bool, CistOp s (s.pb (CST_STAT.WEIR n) b) n [] ∧ (s.pb (CST_STAT.WEIR n) b).cst = s.cst ∧
      ∀ f, (CST_STAT.WEIR n).sep f = true → (s.pb (CST_STAT.WEIR n) b).g f = s.g f := fun b =>
    ⟨CistOp.p s _ _ (fixedKey_iff.1 (cstStat_key hn)).1 List.mem_cons_self, s.p_cst _ _, fun f hf => s.g_pb_sep b hf⟩
  unfold State.weirEval
  dsimp only
  split
  · exact hput false
  · split
    · exact hput true
    · split
      · exact hput false
      · exact ⟨CistOp.refl s n [], rfl, fun _ _ => rfl⟩

/-- A Cistern's contents replaced. -/
theorem State.cstPut_leaves (s : State) {n : Nat} (hn : n < 256) (c : Cistern) : CistOp s (s.cstPut n c) n [] ∧ (s.cstPut n c).cist n = c ∧
    (s.cstPut n c).cst.tlog = s.cst.tlog ∧ ∀ f, (CST_STAT.WEIR n).sep f = true → (s.cstPut n c).g f = s.g f := by
  unfold State.cstPut
  have h1 := CistOp.setCist s n c []
  have hc := s.setCist_cist n c
  have hlog : (s.setCist n c).cst.tlog = s.cst.tlog := rfl
  have hg : ∀ f, (s.setCist n c).g f = s.g f := fun f => State.g_of_regs rfl f
  generalize s.setCist n c = a at *
  obtain ⟨h2, hcst, hf⟩ := a.weirEval_leaves hn
  generalize a.weirEval n = t at *
  exact ⟨h1.trans h2, (State.cist_of_cst hcst n).trans hc, by rw [hcst, hlog], fun f hs => (hf f hs).trans (hg f)⟩

/-- The one-bit fields of a Cistern's status beside the Weir output. -/
theorem cstStat_sep (n : Nat) : (CST_STAT.WEIR n).sep (CST_STAT.FLUSH_PEND n) = true ∧ (CST_STAT.WEIR n).sep (CST_STAT.NOTICE n) = true ∧
    (CST_STAT.WEIR n).sep (CST_STAT.LOSTALL n) = true := by simp [FRef.sep]

theorem State.flag_of_g {s t : State} {f : FRef} (h : t.g f = s.g f) : t.flag f = s.flag f := by rw [State.flag, State.flag, h]

/-- A register that is not the status keeps its word. -/
theorem cst_sep {n : Nat} {f : FRef} (hne : f.off ≠ CST_STAT.off n) (hfit : f.lsb + f.width ≤ 32) : (CST_STAT.WEIR n).sep f = true := by
  simp [FRef.sep, hne, hfit]

/-! ### Producing -/

/-- The open packet discarded (R338). -/
theorem State.cstDrop_leaves {s : State} {n : Nat} (hn : n < 256) {b : List Byte} (hb : (s.cist n).opened = some b)
    (hcnt : (s.rd CST_DROP.off).toNat + 1 < 0xFFFFFFFF) : CistOp s (s.cstDrop n) n [CST_DROP.off] ∧
      (s.cstDrop n).cist n = { s.cist n with opened := none } ∧ ((s.cstDrop n).rd CST_DROP.off).toNat = (s.rd CST_DROP.off).toNat + 1 := by
  have hx : s.cstDrop n = (s.cstPut n { s.cist n with opened := none }).count CST_DROP.off := by
    unfold State.cstDrop
    exact if_pos (by rw [hb]; rfl)
  obtain ⟨hk, hc, _, hg⟩ := s.cstPut_leaves hn { s.cist n with opened := none }
  rw [hx]
  generalize s.cstPut n { s.cist n with opened := none } = a at *
  have hrd : a.rd CST_DROP.off = s.rd CST_DROP.off :=
    hk.toEff.word (fun hm => by simp only [List.mem_singleton, CST_DROP.off, CST_STAT.off] at hm; omega) (by decide)
  have hcnt' : (a.rd CST_DROP.off).toNat + 1 < 0xFFFFFFFF := by rw [hrd]; exact hcnt
  have hone := a.count_toNat _ hcnt'
  have hk2 : CistOp a (a.count CST_DROP.off) n [CST_DROP.off] :=
    CistOp.of_bare (Eff.count a hcnt' (by decide) (List.mem_cons_of_mem _ List.mem_cons_self)) (a.count_bare (by decide))
  have hcst : (a.count CST_DROP.off).cst = a.cst := by
    rw [a.count_eq _ hcnt']
    exact a.wr_cst _ _
  generalize a.count CST_DROP.off = t at *
  exact ⟨(hk.mono (by simp)).trans hk2, (State.cist_of_cst hcst n).trans hc, by rw [hone, hrd]⟩

/-- A packet's type as it is closed. -/
def State.cstType (s : State) (n typ : Nat) : Nat := if typ = 0 then s.g (CST_CFG.TYPE n) else typ

/-- The notice that a closed packet gives outside SVC NORMAL (R345). -/
def State.cstNotice (s : State) (n : Nat) : State :=
  if s.g (CST_CFG.SVC n) = 0 then s
  else ((s.pb (CST_STAT.NOTICE n) true).p (CST_PKTS.NOTICES n) (s.g (CST_PKTS.NOTICES n) + 1)).raise (evCistern n) clEvent

theorem evCistern_lt (n : Nat) : evCistern n < 512 := by
  simp only [evCistern]
  omega

theorem State.cstNotice_leaves (s : State) {n : Nat} (hn : n < 256) : CistOp s (s.cstNotice n) n [CST_PKTS.off n] ∧ (s.cstNotice n).cst = s.cst ∧
    (s.g (CST_CFG.SVC n) ≠ 0 → (s.cstNotice n).flag (CST_STAT.NOTICE n) = true ∧ (s.cstNotice n).evPend (evCistern n) = true) := by
  unfold State.cstNotice
  by_cases h0 : s.g (CST_CFG.SVC n) = 0
  · rw [if_pos h0]
    exact ⟨CistOp.refl s n _, rfl, fun h => absurd h0 h⟩
  · rw [if_neg h0, State.pb]
    have hstat := cstStat_key hn
    have hpkts : fixedKey (CST_PKTS.off n) = true := cstKey (by simp only [CST_PKTS.off]; omega) (by simp only [CST_PKTS.off]; omega)
    have hk := CistOp.p s (CST_STAT.NOTICE n) (b2n true) (n := n) (l := [CST_PKTS.off n]) (fixedKey_iff.1 hstat).1 List.mem_cons_self
    have hc := s.p_cst (CST_STAT.NOTICE n) (b2n true)
    have hf : (s.p (CST_STAT.NOTICE n) (b2n true)).flag (CST_STAT.NOTICE n) = true := s.flag_pb_self (f := CST_STAT.NOTICE n) true (by simp) rfl
    generalize s.p (CST_STAT.NOTICE n) (b2n true) = a at *
    generalize s.g (CST_PKTS.NOTICES n) + 1 = x
    have hk2 := CistOp.p a (CST_PKTS.NOTICES n) x (n := n) (l := [CST_PKTS.off n]) (fixedKey_iff.1 hpkts).1 (List.mem_cons_of_mem _ List.mem_cons_self)
    have hc2 := (a.p_cst (CST_PKTS.NOTICES n) x).trans hc
    have hf2 := (a.flag_p_sep (f := CST_PKTS.NOTICES n) (g := CST_STAT.NOTICE n) x
      (by simp only [FRef.sep, CST_STAT.off, CST_PKTS.off, Bool.and_eq_true, Bool.or_eq_true, decide_eq_true_eq]; omega)).trans hf
    generalize a.p (CST_PKTS.NOTICES n) x = b at *
    have hk3 := CistOp.raise b (evCistern_lt n) (cls := clEvent) (by decide) n [CST_PKTS.off n]
    have he := Eff.raise b (evCistern_lt n) (cls := clEvent) (by decide) []
    have hp := b.raise_pend clEvent (evCistern_lt n)
    obtain ⟨_, _, _, _, _, _, _, _, _, _, _, hcst, _⟩ := State.sameStores_of_bare (b.raise_raised clEvent (evCistern_lt n)).bare
    generalize b.raise (evCistern n) clEvent = t at *
    exact ⟨(hk.trans hk2).trans hk3, hcst.trans hc2, fun _ => ⟨(he.flag List.not_mem_nil hstat).trans hf2, hp⟩⟩

theorem State.cstClose_eq (s : State) (n typ : Nat) : s.cstClose n typ =
    (s.cstPut n { s.cist n with opened := none, closed := (s.cist n).closed ++ [⟨s.cstType n typ, ((s.cist n).opened.getD []).length,
      packWords ((s.cist n).opened.getD [])⟩] }).cstNotice n := rfl

/-- The open packet closed (R338, R345). -/
theorem State.cstClose_leaves (s : State) {n : Nat} (hn : n < 256) (typ : Nat) : CistOp s (s.cstClose n typ) n [CST_PKTS.off n] ∧
    (s.cstClose n typ).cist n = { s.cist n with opened := none, closed := (s.cist n).closed ++ [⟨s.cstType n typ, ((s.cist n).opened.getD []).length,
      packWords ((s.cist n).opened.getD [])⟩] } ∧
    (s.g (CST_CFG.SVC n) ≠ 0 → (s.cstClose n typ).flag (CST_STAT.NOTICE n) = true ∧ (s.cstClose n typ).evPend (evCistern n) = true) := by
  rw [State.cstClose_eq]
  generalize ({ s.cist n with opened := none, closed := (s.cist n).closed ++ [⟨s.cstType n typ, ((s.cist n).opened.getD []).length,
    packWords ((s.cist n).opened.getD [])⟩] } : Cistern) = c
  obtain ⟨hk, hc, _, hg⟩ := s.cstPut_leaves hn c
  generalize s.cstPut n c = a at *
  obtain ⟨hk2, hcst, hnotice⟩ := a.cstNotice_leaves hn
  have hsvc : a.g (CST_CFG.SVC n) = s.g (CST_CFG.SVC n) := hg _ (cst_sep (by simp only [CST_CFG.off, CST_STAT.off]; omega) (by simp))
  rw [hsvc] at hnotice
  generalize a.cstNotice n = t at *
  exact ⟨(hk.mono (by simp)).trans hk2, (State.cist_of_cst hcst n).trans hc, hnotice⟩

/-- What extends the open packet of a Cistern by a push. -/
def Cistern.extend (c : Cistern) (data : List Byte) : Cistern := { c with opened := some (c.opened.getD [] ++ data) }

/-- A push that fits its packet (R339). -/
theorem State.cstPush_eq {s : State} {n : Nat} {data : List Byte} (hfit : cstWords (((s.cist n).opened.getD []).length + data.length) ≤ s.cstSize n - 1)
    (close : Option Nat) : s.cstPush n data close = if (s.cist n).fill + (s.cist n).need data.length ≤ s.cstSize n then
      some (stOK, match close with | some t => (s.cstPut n ((s.cist n).extend data)).cstClose n t | none => s.cstPut n ((s.cist n).extend data))
    else none := by
  unfold State.cstPush
  dsimp only
  rw [if_neg (by omega)]
  by_cases hroom : (s.cist n).fill + (s.cist n).need data.length ≤ s.cstSize n
  · rw [if_pos hroom, if_neg (by omega)]
    rfl
  · rw [if_neg hroom, if_pos (by omega)]

end Sys2Proof.Machine
end

section
/-! PROOF of CisternsHoldPackets (R336 to R339, R345, R349): the producer's commands. -/

namespace Sys2Proof.Machine

/- One evaluation after another: each of them, left to itself, would hold a thread. -/
set_option Elab.async false

/-! ### Stores in space 0x02 -/

theorem cstDecode_off {typ n port : Nat} (ht : typ < 128) (hn : n < 256) (hp : port < 5) : cstDecode (cstOff typ n port) = some (typ, n, port) := by
  have h : ¬(2 ^ 27 ≤ cstOff typ n port ∨ cstOff typ n port % 256 ≠ 0 ∨ 4 < cstOff typ n port / 256 % 16) := by
    simp only [cstOff]
    omega
  rw [cstDecode, if_neg h]
  simp only [bitsOf, cstOff, Option.some.injEq, Prod.mk.injEq]
  omega

theorem cstOff_lt {typ n port : Nat} (ht : typ < 128) (hn : n < 256) (hp : port < 5) : cstOff typ n port < 2 ^ 27 := by
  simp only [cstOff]
  omega

theorem State.spaceGate_cist (s : State) (m : Master) (off : Nat) : s.spaceGate m 2 off = s.spaceGate m 2 0 := rfl

section
variable {s : State} {m : Master} {n typ port off : Nat} {data : List Byte}

/-- A producer's write of a port's form is that port's operation. -/
theorem State.feeds_at (h : s.feedsCistern m n) (hd : cstDecode off = some (typ, n, port)) (hform : cstForm port data.length = true) :
    s.cstWrite m off data = s.cstOp n port typ data := by
  obtain ⟨_, _, hprod, hmid, hen⟩ := h
  have hcheck : s.cstCheck none m.mid.val off data.length = stOK := by
    simp only [State.cstCheck, hd, hform, State.cstProducer, hprod, hmid, hen, beq_self_eq_true, Bool.and_true, Bool.not_true,
      Bool.false_eq_true, if_false]
  simp only [State.cstWrite, hcheck, hd, ne_eq, not_true_eq_false, if_false]

theorem State.localWrite_cist (hg : s.spaceGate m 2 0 = 0) {addr : Nat} (hsp : adSpace addr = 2) (hoff : adOff addr = off) (path : Path) :
    s.localWrite m addr data path = match s.cstWrite m off data with
      | none => (.wait, s)
      | some (st, t) => (.done st [], if st = stOK then t else t.cstRefuse m 1 off st) := by
  have hgate := (s.spaceGate_cist m off).trans hg
  simp only [State.localWrite, hsp, hoff, hgate]
  rfl

theorem State.masterWrite_at (hg : s.spaceGate m 2 0 = 0) {addr : Nat} (hhere : s.isHere addr = true) (hsp : adSpace addr = 2) (hoff : adOff addr = off) :
    s.masterWrite m addr data =
      match s.cstWrite m off data with
      | none => s.cstStore m off data
      | some (st, t) => (if st = stOK then t else t.cstRefuse m 1 off st).answer m st [] := by
  have hgate := (s.spaceGate_cist m off).trans hg
  rw [State.masterWrite, hhere]
  simp only [if_true, State.localWrite_cist hg hsp hoff]
  cases hw : s.cstWrite m off data with
  | none => simp only [hsp, hoff, hgate, and_self, if_true]
  | some r =>
    obtain ⟨st, t⟩ := r
    rfl

theorem ownAddr_cist (s : State) (hlt : off < 2 ^ 27) :
    s.isHere (ownAddr 2 off) = true ∧ adSpace (ownAddr 2 off) = 2 ∧ adOff (ownAddr 2 off) = off := by
  have haddr : ownAddr 2 off = 2 * 2 ^ 40 + off := by rw [ownAddr, Nat.mod_eq_of_lt (by omega)]
  rw [haddr]
  exact ⟨s.isHere_own (space := 2) (by decide) (by omega), adSpace_own (space := 2) (by decide) (by omega), adOff_own (space := 2) (by omega)⟩

theorem State.masterWrite_cist (hg : s.spaceGate m 2 0 = 0) (hlt : off < 2 ^ 27) :
    s.masterWrite m (ownAddr 2 off) data =
      match s.cstWrite m off data with
      | none => s.cstStore m off data
      | some (st, t) => (if st = stOK then t else t.cstRefuse m 1 off st).answer m st [] := by
  obtain ⟨hhere, hsp, hoff⟩ := ownAddr_cist s hlt
  exact State.masterWrite_at hg hhere hsp hoff

/-- A producer's store that is performed. -/
theorem State.feeds_done (h : s.feedsCistern m n) (ht : typ < 128) (hn : n < 256) (hp : port < 5) (hform : cstForm port data.length = true) {t : State}
    (hop : s.cstOp n port typ data = some (stOK, t)) : s.masterWrite m (ownAddr 2 (cstOff typ n port)) data = t.answer m stOK [] := by
  have hd := cstDecode_off ht hn hp
  have hlt := cstOff_lt ht hn hp
  generalize cstOff typ n port = off at *
  rw [State.masterWrite_cist h.2.1 hlt, State.feeds_at h hd hform, hop]
  rfl

theorem State.cstStore_waits (hw : s.cstWrite m off data = none) (hd : cstDecode off = some (typ, n, port)) :
    s.cstStore m off data = s.setCist n { s.cist n with waits := (s.cist n).waits ++ [⟨m, port, typ, data⟩] } := by
  unfold State.cstStore
  rw [hw, hd]

/-- A producer's store that waits for room. -/
theorem State.feeds_waits (h : s.feedsCistern m n) (ht : typ < 128) (hn : n < 256) (hp : port < 5) (hform : cstForm port data.length = true)
    (hop : s.cstOp n port typ data = none) : s.masterWrite m (ownAddr 2 (cstOff typ n port)) data =
      s.setCist n { s.cist n with waits := (s.cist n).waits ++ [⟨m, port, typ, data⟩] } := by
  have hd := cstDecode_off ht hn hp
  have hlt := cstOff_lt ht hn hp
  generalize cstOff typ n port = off at *
  have hw : s.cstWrite m off data = none := (State.feeds_at h hd hform).trans hop
  rw [State.masterWrite_cist h.2.1 hlt, hw]
  exact State.cstStore_waits hw hd

/-- The state that a producer's store leaves, shown and told. -/
theorem CistOp.told {t : State} {l : List Nat} (hk : CistOp s t n l) (hs : s.resetReq = none) (m : Master) :
    ∃ u, s.finish (t.answer m stOK []) = u ∧ u.toldOK m ∧ s.cistFrame u n l ∧ u.cist n = t.cist n ∧ u.regs = t.regs :=
  ⟨_, State.finish_kept ((t.answer_resetReq ..).trans (hk.resetReq.trans hs)) ((t.answer_pending ..).trans hk.pending), rfl,
    ⟨fun k hne => (State.cist_of_cst (t.answer_cst ..) k).trans (hk.others k hne),
      fun k hl h1 h2 => (State.rd_of_regs (t.answer_regs ..) k).trans (hk.rd k hl h1 h2), (t.answer_pts ..).trans hk.pts, (t.answer_flow ..).trans hk.flow⟩,
    State.cist_of_cst (t.answer_cst ..) n, t.answer_regs ..⟩

end

section
variable {m : Master} {n : Fin 256} {s : State}

theorem exec_cisternPush (m : Master) (n : Fin 256) (data : List Byte) (s : State) :
    exec (.cisternPush m n data) s = .next (s.finish (s.masterWrite m (ownAddr 2 (cstOff 0 n.val 0)) data)) := by rfl
theorem exec_cisternPushClose (m : Master) (n : Fin 256) (typ : Fin 128) (data : List Byte) (s : State) :
    exec (.cisternPushClose m n typ data) s = .next (s.finish (s.masterWrite m (ownAddr 2 (cstOff typ.val n.val 1)) data)) := by rfl
theorem exec_cisternClose (m : Master) (n : Fin 256) (typ : Fin 128) (s : State) :
    exec (.cisternClose m n typ) s = .next (s.finish (s.masterWrite m (ownAddr 2 (cstOff typ.val n.val 4)) (List.replicate 4 0))) := by rfl
theorem exec_cisternAbort (m : Master) (n : Fin 256) (s : State) :
    exec (.cisternAbort m n) s = .next (s.finish (s.masterWrite m (ownAddr 2 (cstOff 0 n.val 3)) (List.replicate 4 0))) := by rfl

theorem cstForm_push {k : Nat} (h4 : k % 4 = 0) (hlo : 4 ≤ k) (hhi : k ≤ 256) : cstForm 0 k = true := decide_eq_true ⟨hlo, hhi, h4⟩
theorem cstForm_close {k : Nat} (hlo : 1 ≤ k) (hhi : k ≤ 256) : cstForm 1 k = true := decide_eq_true ⟨hlo, hhi⟩

theorem cisternPush_told {data : List Byte} (h : s.feedsCistern m n.val) {c : Cistern} (hc : s.cist n.val = c) {b : List Byte} (hb : c.opened.getD [] = b)
    (hlen : data.length ≤ 256) (hfit : cstWords (b.length + data.length) ≤ s.cstSize n.val - 1) (h4 : data.length % 4 = 0) (hmin : 4 ≤ data.length) :
    ∃ t, exec (.cisternPush m n data) s = .next t ∧ s.cistFrame t n.val [] ∧
      (if c.fill + c.need data.length ≤ s.cstSize n.val then t.toldOK m ∧ t.cist n.val = { c with opened := some (b ++ data) }
      else t.resp = s.resp ∧ t.cist n.val = { c with waits := c.waits ++ [⟨m, 0, 0, data⟩] }) := by
  subst hc hb
  have hform := cstForm_push h4 hmin hlen
  have hop : s.cstOp n.val 0 0 data = s.cstPush n.val data none := rfl
  rw [State.cstPush_eq hfit] at hop
  rw [exec_cisternPush]
  by_cases hroom : (s.cist n.val).fill + (s.cist n.val).need data.length ≤ s.cstSize n.val
  · rw [if_pos hroom] at hop
    obtain ⟨hk, hc, _, _⟩ := s.cstPut_leaves n.isLt ((s.cist n.val).extend data)
    rw [State.feeds_done h (by decide) n.isLt (by decide) hform hop]
    generalize s.cstPut n.val ((s.cist n.val).extend data) = a at *
    obtain ⟨t, ht, htold, hframe, hcist, _⟩ := hk.told h.1 m
    exact ⟨t, congrArg _ ht, hframe, by rw [if_pos hroom]; exact ⟨htold, hcist.trans hc⟩⟩
  · rw [if_neg hroom] at hop
    rw [State.feeds_waits h (by decide) n.isLt (by decide) hform hop]
    have hk := CistOp.setCist s n.val { s.cist n.val with waits := (s.cist n.val).waits ++ [⟨m, 0, 0, data⟩] } []
    have hc := s.setCist_cist n.val { s.cist n.val with waits := (s.cist n.val).waits ++ [⟨m, 0, 0, data⟩] }
    have hresp : (s.setCist n.val { s.cist n.val with waits := (s.cist n.val).waits ++ [⟨m, 0, 0, data⟩] }).resp = s.resp := rfl
    generalize s.setCist n.val { s.cist n.val with waits := (s.cist n.val).waits ++ [⟨m, 0, 0, data⟩] } = t at *
    exact ⟨t, congrArg _ (hk.finish h.1), hk.frame, by rw [if_neg hroom]; exact ⟨hresp, hc⟩⟩

/-- A push that fits and closes its packet. -/
theorem State.cstPush_closes {data : List Byte} (hfit : cstWords (((s.cist n.val).opened.getD []).length + data.length) ≤ s.cstSize n.val - 1)
    (hroom : (s.cist n.val).fill + (s.cist n.val).need data.length ≤ s.cstSize n.val) (typ : Nat) :
    ∃ t, s.cstPush n.val data (some typ) = some (stOK, t) ∧ CistOp s t n.val [CST_PKTS.off n.val] ∧
      t.cist n.val = { s.cist n.val with opened := none, closed := (s.cist n.val).closed ++ [⟨s.cstType n.val typ,
        ((s.cist n.val).opened.getD [] ++ data).length, packWords ((s.cist n.val).opened.getD [] ++ data)⟩] } ∧
      (s.g (CST_CFG.SVC n.val) ≠ 0 → t.flag (CST_STAT.NOTICE n.val) = true ∧ t.evPend (evCistern n.val) = true) := by
  rw [State.cstPush_eq hfit, if_pos hroom]
  obtain ⟨hk, hc, _, hg⟩ := s.cstPut_leaves n.isLt ((s.cist n.val).extend data)
  dsimp only
  generalize s.cstPut n.val ((s.cist n.val).extend data) = a at *
  obtain ⟨hk2, hc2, hnotice⟩ := a.cstClose_leaves n.isLt typ
  have hcfg : ∀ f : FRef, f.off = CST_CFG.off n.val → f.lsb + f.width ≤ 32 → a.g f = s.g f := fun f hf hfit =>
    hg f (cst_sep (by rw [hf]; simp only [CST_CFG.off, CST_STAT.off]; omega) hfit)
  rw [hcfg _ rfl (by simp)] at hnotice
  rw [State.cstType, hcfg _ rfl (by simp), hc] at hc2
  exact ⟨_, rfl, (hk.mono (by simp)).trans hk2, hc2, hnotice⟩

theorem cisternPushClose_told {typ : Fin 128} {data : List Byte} (h : s.feedsCistern m n.val) {c : Cistern} (hc : s.cist n.val = c) {b : List Byte}
    (hb : c.opened.getD [] = b) (hlen : data.length ≤ 256) (hfit : cstWords (b.length + data.length) ≤ s.cstSize n.val - 1)
    (hroom : c.fill + c.need data.length ≤ s.cstSize n.val) (hmin : 1 ≤ data.length) :
    ∃ t, exec (.cisternPushClose m n typ data) s = .next t ∧ t.toldOK m ∧ s.cistFrame t n.val [CST_PKTS.off n.val] ∧
      t.cist n.val = { c with
        opened := none,
        closed := c.closed ++ [⟨if typ.val = 0 then s.g (CST_CFG.TYPE n.val) else typ.val, (b ++ data).length, packWords (b ++ data)⟩] } ∧
      (s.g (CST_CFG.SVC n.val) ≠ 0 → t.flag (CST_STAT.NOTICE n.val) = true ∧ t.evPend (evCistern n.val) = true) := by
  subst hc hb
  obtain ⟨a, hop, hk, hc, hnotice⟩ := State.cstPush_closes hfit hroom typ.val
  rw [exec_cisternPushClose, State.feeds_done h typ.isLt n.isLt (by decide) (cstForm_close hmin hlen) hop]
  obtain ⟨t, ht, htold, hframe, hcist, hregs⟩ := hk.told h.1 m
  exact ⟨t, congrArg _ ht, htold, hframe, hcist.trans hc, fun hsvc =>
    ⟨(State.flag_of_regs hregs _).trans (hnotice hsvc).1, (State.evPend_of_regs hregs _).trans (hnotice hsvc).2⟩⟩

theorem cisternClose_told {typ : Fin 128} {b : List Byte} (h : s.feedsCistern m n.val) (hb : (s.cist n.val).opened = some b)
    (hfit : cstWords b.length ≤ s.cstSize n.val - 1) (hfill : (s.cist n.val).fill ≤ s.cstSize n.val) :
    ∃ t, exec (.cisternClose m n typ) s = .next t ∧ t.toldOK m ∧ s.cistFrame t n.val [CST_PKTS.off n.val] ∧
      t.cist n.val = { s.cist n.val with
        opened := none,
        closed := (s.cist n.val).closed ++ [⟨if typ.val = 0 then s.g (CST_CFG.TYPE n.val) else typ.val, b.length, packWords b⟩] } := by
  have hopen : (s.cist n.val).opened.getD [] = b := by rw [hb]; rfl
  have hneed : (s.cist n.val).need 0 = 0 := by
    rw [Cistern.need, hb]
    exact Nat.sub_self _
  obtain ⟨a, hop, hk, hc, _⟩ := State.cstPush_closes (s := s) (n := n) (data := []) (by rw [hopen]; exact hfit)
    (by rw [List.length_nil, hneed]; exact hfill) typ.val
  rw [hopen, List.append_nil] at hc
  have hop4 : s.cstOp n.val 4 typ.val (List.replicate 4 0) = some (stOK, a) := hop
  rw [exec_cisternClose, State.feeds_done h typ.isLt n.isLt (by decide) rfl hop4]
  obtain ⟨t, ht, htold, hframe, hcist, _⟩ := hk.told h.1 m
  exact ⟨t, congrArg _ ht, htold, hframe, hcist.trans hc⟩

theorem cisternAbort_told {b : List Byte} (h : s.feedsCistern m n.val) (hb : (s.cist n.val).opened = some b)
    (hcnt : (s.rd CST_DROP.off).toNat + 1 < 0xFFFFFFFF) :
    ∃ t, exec (.cisternAbort m n) s = .next t ∧ t.toldOK m ∧ s.cistFrame t n.val [CST_DROP.off] ∧
      t.cist n.val = { s.cist n.val with opened := none } ∧ (t.rd CST_DROP.off).toNat = (s.rd CST_DROP.off).toNat + 1 := by
  obtain ⟨hk, hc, hone⟩ := State.cstDrop_leaves n.isLt hb hcnt
  have hop : s.cstOp n.val 3 0 (List.replicate 4 0) = some (stOK, s.cstDrop n.val) := rfl
  rw [exec_cisternAbort, State.feeds_done h (by decide) n.isLt (by decide) rfl hop]
  generalize s.cstDrop n.val = a at *
  obtain ⟨t, ht, htold, hframe, hcist, hregs⟩ := hk.told h.1 m
  exact ⟨t, congrArg _ ht, htold, hframe, hcist.trans hc, by rw [State.rd_of_regs hregs, hone]⟩

end

/-! ### Another master (R338) -/

theorem cisternPush_refused {m : Master} {n : Fin 256} {data : List Byte} {s : State} (hs : s.resetReq = none) (hg : s.spaceGate m 2 0 = 0)
    (hprod : s.cstProducer n.val none m.mid.val = false) (h4 : data.length % 4 = 0) (hmin : 4 ≤ data.length) (hlen : data.length ≤ 256) :
    ∃ t, exec (.cisternPush m n data) s = .next t ∧ t.resp = some ⟨m.mid.val, stOWNER, []⟩ ∧ t.cst = s.cst := by
  have hd := cstDecode_off (typ := 0) (n := n.val) (port := 0) (by decide) n.isLt (by decide)
  have hlt := cstOff_lt (typ := 0) (n := n.val) (port := 0) (by decide) n.isLt (by decide)
  have hform := cstForm_push h4 hmin hlen
  rw [exec_cisternPush]
  generalize cstOff 0 n.val 0 = off at *
  have hcheck : s.cstCheck none m.mid.val off data.length = stOWNER := by
    simp only [State.cstCheck, hd, hform, hprod, Bool.not_true, Bool.not_false, Bool.false_eq_true, if_false, if_true]
  have hw : s.cstWrite m off data = some (stOWNER, s) := by
    rw [State.cstWrite, hcheck]
    rfl
  have hq := Quiet.firstError s m 1 false (2 * 2 ^ 40 + off)
  rw [State.masterWrite_cist hg hlt, hw]
  dsimp only
  rw [if_neg (by decide), State.cstRefuse]
  generalize s.firstError m 1 false (2 * 2 ^ 40 + off) = a at *
  obtain ⟨hpend, _, _, _, _, _, _, _, _, _, _, hcst, _⟩ := State.sameStores_of_bare hq.bare
  refine ⟨(a.answer m stOWNER []).answer m stOWNER [], congrArg _ (State.finish_kept ?_ ?_), rfl, ?_⟩
  · rw [State.answer_resetReq, State.answer_resetReq, hq.resetReq, hs]
  · rw [State.answer_pending, State.answer_pending, hpend]
  · rw [State.answer_cst, State.answer_cst, hcst]

end Sys2Proof.Machine
end

section
/-! PROOF of CisternsHoldPackets (R339, R342, R346, R349), continued: the commands of CST_nCMD, the log's pop and a push that resumes. -/

namespace Sys2Proof.Machine

/- One evaluation after another: each of them, left to itself, would hold a thread. -/
set_option Elab.async false

/-! ### CST_nCMD (R346, R349) -/

def rowCstCmd : RegRow := ⟨0x160018, [(0x20, 256)], [⟨1, 0, .wo, .priv, 0⟩], none⟩

theorem regs16_rising : regs16.Pairwise (fun a b => a.before 0x20 b = true) := by decide +kernel

theorem row_cstCmd (n : Fin 256) : regRow (CST_CMD.off n.val) = some rowCstCmd := by
  have hblk : CST_CMD.off n.val / 2 ^ 16 = 0x16 := by simp only [CST_CMD.off]; omega
  rw [regRow, hblk]
  have hb : rowCstCmd.base = 0x160018 := rfl
  have hd : rowCstCmd.dims = [(0x20, 256)] := rfl
  have hhas : rowCstCmd.has (CST_CMD.off n.val) = true := by
    simp only [RegRow.has, hb, hd, CST_CMD.off, dimsHas, Bool.and_eq_true, decide_eq_true_eq, beq_iff_eq]
    omega
  have hfind := find_row (post := []) regs16_rising (r := rowCstCmd) (by decide +kernel) hhas
  rwa [List.append_nil] at hfind

theorem mwClear_cst : mwClear 0x160000 0x162000 = true := by decide +kernel

theorem cstCmd_open (n : Fin 256) : regAlone (CST_CMD.off n.val) 2 = true :=
  regAlone_of (row_cstCmd n) (by decide) (mwGroup_clear mwClear_cst (by simp only [CST_CMD.off]; omega) (by simp only [CST_CMD.off]; omega))

theorem State.blkTop_cstCmd {s : State} {r : RegWr} (n : Fin 256) (h : r.off = CST_CMD.off n.val) : s.blkTop r = s.cstCmdWrite n.val r.eff := by
  have hoff : r.off = 0x160018 + n.val * 0x20 := h
  have hn : r.inst 0x160000 32 = n.val := by
    rw [RegWr.inst, hoff]
    omega
  unfold State.blkTop State.blkWrite State.blkBridge
  simp only [UPD_CMD.off, UPD_INJ_CTRL.off, CFG_RESET.off, FH_CMD.off, BRG_PWF_POP.off, BRG_STR_POP.off, BRG_SIG_DST.off, BRG_TUN_REMOTE.off, hn]
  simp (disch := omega) only [↓if_neg, ↓if_pos]

/-- The operation that a write of CST_nCMD names. -/
theorem State.cstCmd_op (s : State) (m : Master) (n : Fin 256) (op : Fin 4) :
    s.blkTop (s.regWr m (CST_CMD.off n.val) (cmdWord (CST_CMD.OP n.val) op.val)) =
      (stOK, if op.val = 1 then s.cstFlush n.val else if op.val = 2 then s.cstDrop n.val else s) := by
  have hget : (CST_CMD.OP n.val).get (s.regWr m (CST_CMD.off n.val) (cmdWord (CST_CMD.OP n.val) op.val)).eff = op.val := by
    have heff := effWord_get (hasField_of (a := .wo) (g := CST_CMD.OP n.val) (row_cstCmd n) (by simp [rowCstCmd])) (cmdWord (CST_CMD.OP n.val) op.val)
    refine heff.trans ((FRef.get_put (CST_CMD.OP n.val) (by simp [FRef.fits]) 0 op.val).trans ?_)
    exact Nat.mod_eq_of_lt op.isLt
  rw [State.blkTop_cstCmd n rfl, State.cstCmdWrite, hget]

theorem Shows.cist {u t : State} (h : Shows u t) (n : Nat) : t.cist n = u.cist n := State.cist_of_cst h.cst n

/-- A command on a Cistern's registers, shown and told. -/
theorem CistOp.shown {s u t : State} {n : Nat} {l : List Nat} (hk : CistOp s u n l) (h : Shows u t) : s.cistFrame t n l :=
  ⟨fun k hne => (h.cist k).trans (hk.others k hne), fun k hl h1 h2 => (h.rd k).trans (hk.rd k hl h1 h2), h.pts.trans hk.pts, h.flow.trans hk.flow⟩

section
variable {m : Master} {n : Fin 256} {s : State}

theorem cisternAbortCmd_told {b : List Byte} (h : s.serves m (CST_CMD.off n.val) 2) (hb : (s.cist n.val).opened = some b)
    (hcnt : (s.rd CST_DROP.off).toNat + 1 < 0xFFFFFFFF) :
    ∃ t, exec (.cisternAbortCmd m n) s = .next t ∧ t.toldOK m ∧ s.cistFrame t n.val [CST_DROP.off] ∧
      t.cist n.val = { s.cist n.val with opened := none } ∧ (t.rd CST_DROP.off).toNat = (s.rd CST_DROP.off).toNat + 1 := by
  have hx : exec (.cisternAbortCmd m n) s = .next (s.finish (s.regCmd m (CST_CMD.off n.val) 4 (cmdWord (CST_CMD.OP n.val) 2))) := by rfl
  have hop : s.blkTop (s.regWr m (CST_CMD.off n.val) (cmdWord (CST_CMD.OP n.val) 2)) = (stOK, s.cstDrop n.val) := s.cstCmd_op m n 2
  obtain ⟨hk, hc, hone⟩ := State.cstDrop_leaves n.isLt hb hcnt
  rw [hx]
  generalize s.cstDrop n.val = a at *
  obtain ⟨t, ht, htold, hshow⟩ := State.serves_told h (cstCmd_open n) hop (hk.resetReq.trans (State.serves_noReset h)) hk.pending
  exact ⟨t, congrArg _ ht, htold, hk.shown hshow, (hshow.cist _).trans hc, by rw [hshow.rd, hone]⟩

theorem Cistern.mid_iff (c : Cistern) : c.mid = true ↔ ¬(c.inside = [] ∧ c.sending = 0) := by
  rw [Cistern.mid, Bool.or_eq_true, Bool.not_eq_true', List.isEmpty_eq_false_iff, decide_eq_true_eq, Classical.not_and_iff_not_or_not]
  exact or_congr Iff.rfl (Nat.pos_iff_ne_zero)

theorem cisternFlush_told (h : s.serves m (CST_CMD.off n.val) 2) (hf : s.flag (CST_STAT.FLUSH_PEND n.val) = false) :
    ∃ t, exec (.cisternFlush m n) s = .next t ∧ t.toldOK m ∧ s.cistFrame t n.val [] ∧
      (if (s.cist n.val).inside = [] ∧ (s.cist n.val).sending = 0 then t.cist n.val = { s.cist n.val with closed := [] } ∧
        t.flag (CST_STAT.FLUSH_PEND n.val) = false
      else t.cist n.val = s.cist n.val ∧ t.flag (CST_STAT.FLUSH_PEND n.val) = true) := by
  have hx : exec (.cisternFlush m n) s = .next (s.finish (s.regCmd m (CST_CMD.off n.val) 4 (cmdWord (CST_CMD.OP n.val) 1))) := by rfl
  have hop : s.blkTop (s.regWr m (CST_CMD.off n.val) (cmdWord (CST_CMD.OP n.val) 1)) = (stOK, s.cstFlush n.val) := s.cstCmd_op m n 1
  rw [State.cstFlush, if_neg (by rw [hf]; exact Bool.false_ne_true)] at hop
  rw [hx]
  by_cases hmid : (s.cist n.val).inside = [] ∧ (s.cist n.val).sending = 0
  · rw [if_neg fun hc => (s.cist n.val).mid_iff.1 hc hmid] at hop
    obtain ⟨hk, hc, _, hg⟩ := s.cstPut_leaves n.isLt { s.cist n.val with closed := [] }
    have hflag := State.flag_of_g (hg _ (cstStat_sep n.val).1)
    generalize s.cstPut n.val { s.cist n.val with closed := [] } = a at *
    obtain ⟨t, ht, htold, hshow⟩ := State.serves_told h (cstCmd_open n) hop (hk.resetReq.trans (State.serves_noReset h)) hk.pending
    exact ⟨t, congrArg _ ht, htold, hk.shown hshow, by rw [if_pos hmid]; exact ⟨(hshow.cist _).trans hc, ((hshow.flag _).trans hflag).trans hf⟩⟩
  · rw [if_pos ((s.cist n.val).mid_iff.2 hmid)] at hop
    have hk := CistOp.p s (CST_STAT.FLUSH_PEND n.val) (b2n true) (n := n.val) (l := []) (fixedKey_iff.1 (cstStat_key n.isLt)).1 List.mem_cons_self
    have hc := State.cist_of_cst (s.p_cst (CST_STAT.FLUSH_PEND n.val) (b2n true)) n.val
    have hflag : (s.p (CST_STAT.FLUSH_PEND n.val) (b2n true)).flag (CST_STAT.FLUSH_PEND n.val) = true :=
      s.flag_pb_self (f := CST_STAT.FLUSH_PEND n.val) true (by simp) rfl
    rw [State.pb] at hop
    generalize s.p (CST_STAT.FLUSH_PEND n.val) (b2n true) = a at *
    obtain ⟨t, ht, htold, hshow⟩ := State.serves_told h (cstCmd_open n) hop (hk.resetReq.trans (State.serves_noReset h)) hk.pending
    exact ⟨t, congrArg _ ht, htold, hk.shown hshow, by rw [if_neg hmid]; exact ⟨(hshow.cist _).trans hc, (hshow.flag _).trans hflag⟩⟩

end

/-! ### The tunnel's log (R342) -/

theorem tlogPop_row : regAlone CST_TLOG_POP.off 2 = true ∧ hasField CST_TLOG_POP.off .wo CST_TLOG_POP.SERIAL = true := by decide +kernel

theorem State.blkTop_tlogPop {s : State} {r : RegWr} (h : r.off = CST_TLOG_POP.off) : s.blkTop r = s.tlogPop r.eff := by
  simp (decide := true) [State.blkTop, State.blkWrite, State.blkBridge, h]

theorem cstTlogPop_told {m : Master} {val : Word} {e : TlogEnt} {r : List TlogEnt} {s : State} (h : s.serves m CST_TLOG_POP.off 2)
    (hlog : s.cst.tlog = e :: r) :
    ∃ t, exec (.cstTlogPop m val) s = .next t ∧ t.toldOK m ∧ t.regs = s.regs ∧ t.cst.cist = s.cst.cist ∧
      t.cst.tlog = if e.serial = CST_TLOG_POP.SERIAL.get val then r else e :: r := by
  have hx : exec (.cstTlogPop m val) s = .next (s.finish (s.regCmd m CST_TLOG_POP.off 4 val)) := by rfl
  have hget : CST_TLOG_POP.SERIAL.get (s.regWr m CST_TLOG_POP.off val).eff = CST_TLOG_POP.SERIAL.get val := effWord_get tlogPop_row.2 val
  have hop : s.blkTop (s.regWr m CST_TLOG_POP.off val) = (stOK, if e.serial = CST_TLOG_POP.SERIAL.get val then
      { s with cst := { s.cst with tlog := r } } else s) := by
    rw [State.blkTop_tlogPop rfl, State.tlogPop, hlog]
    dsimp only
    rw [hget]
  rw [hx]
  by_cases hs : e.serial = CST_TLOG_POP.SERIAL.get val
  · rw [if_pos hs] at hop
    obtain ⟨t, ht, htold, hshow⟩ := State.serves_told h tlogPop_row.1 hop (State.serves_noReset h) rfl
    exact ⟨t, congrArg _ ht, htold, hshow.regs, by rw [hshow.cst], by rw [if_pos hs, hshow.cst]⟩
  · rw [if_neg hs] at hop
    obtain ⟨t, ht, htold, hshow⟩ := State.serves_told h tlogPop_row.1 hop (State.serves_noReset h) rfl
    exact ⟨t, congrArg _ ht, htold, hshow.regs, by rw [hshow.cst], by rw [if_neg hs, hshow.cst, hlog]⟩

/-! ### A push that resumes (R339) -/

theorem exec_cisternPushResume (n : Fin 256) (s : State) : exec (.cisternPushResume n) s = .next (s.finish (cisternPushResume n s)) := by rfl

theorem cisternPushResume_done {n : Fin 256} {w : PushWait} {r : List PushWait} {s t u : State} (hw : (s.cist n.val).waits = w :: r)
    (hc : s.cstWrite w.m (cstOff w.typ n.val w.port) w.data = some (stOK, t)) (hu : t.setCist n.val { t.cist n.val with waits := r } = u) :
    cisternPushResume n s = u.answer w.m stOK [] := by
  unfold cisternPushResume
  obtain ⟨write, hwrite⟩ : ∃ write, write = @State.cstWrite := ⟨_, rfl⟩
  rw [← hwrite] at hc ⊢
  dsimp only
  rw [hw]
  dsimp only
  rw [hc]
  dsimp only
  rw [if_pos rfl, hu]

theorem cisternPushResume_waits {n : Fin 256} {w : PushWait} {r : List PushWait} {s : State} (hw : (s.cist n.val).waits = w :: r)
    (hc : s.cstWrite w.m (cstOff w.typ n.val w.port) w.data = none) : cisternPushResume n s = s := by
  unfold cisternPushResume
  obtain ⟨write, hwrite⟩ : ∃ write, write = @State.cstWrite := ⟨_, rfl⟩
  rw [← hwrite] at hc ⊢
  dsimp only
  rw [hw]
  dsimp only
  rw [hc]

theorem cisternPushResume_told {n : Fin 256} {w : PushWait} {r : List PushWait} {s : State} (h : s.feedsCistern w.m n.val)
    (hw : (s.cist n.val).waits = w :: r) (hp : w.port = 0) (ht : w.typ < 128) (h4 : w.data.length % 4 = 0) (hmin : 4 ≤ w.data.length)
    (hlen : w.data.length ≤ 256) (hfit : cstWords (((s.cist n.val).opened.getD []).length + w.data.length) ≤ s.cstSize n.val - 1) :
    ∃ t, exec (.cisternPushResume n) s = .next t ∧ s.cistFrame t n.val [] ∧
      (if (s.cist n.val).fill + (s.cist n.val).need w.data.length ≤ s.cstSize n.val then
        t.toldOK w.m ∧ t.cist n.val = { s.cist n.val with opened := some ((s.cist n.val).opened.getD [] ++ w.data), waits := r }
      else t = s) := by
  have hd := cstDecode_off (typ := w.typ) (n := n.val) (port := w.port) ht n.isLt (by omega)
  have hop := State.feeds_at h hd (by rw [hp]; exact cstForm_push h4 hmin hlen)
  have hpush : s.cstOp n.val w.port w.typ w.data = s.cstPush n.val w.data none := by
    rw [hp]
    rfl
  rw [hpush, State.cstPush_eq hfit] at hop
  rw [exec_cisternPushResume]
  by_cases hroom : (s.cist n.val).fill + (s.cist n.val).need w.data.length ≤ s.cstSize n.val
  · rw [if_pos hroom] at hop
    obtain ⟨hk, hc, _, _⟩ := s.cstPut_leaves n.isLt ((s.cist n.val).extend w.data)
    rw [cisternPushResume_done hw hop rfl]
    generalize s.cstPut n.val ((s.cist n.val).extend w.data) = a at *
    rw [hc]
    have hk2 := hk.trans (CistOp.setCist a n.val { (s.cist n.val).extend w.data with waits := r } [])
    have hc2 := a.setCist_cist n.val { (s.cist n.val).extend w.data with waits := r }
    generalize a.setCist n.val { (s.cist n.val).extend w.data with waits := r } = b at *
    obtain ⟨t, ht, htold, hframe, hcist, _⟩ := hk2.told h.1 w.m
    exact ⟨t, congrArg _ ht, hframe, by rw [if_pos hroom]; exact ⟨htold, hcist.trans hc2⟩⟩
  · rw [if_neg hroom] at hop
    rw [cisternPushResume_waits hw hop]
    exact ⟨s, congrArg _ (State.finish_kept h.1 rfl), (CistOp.refl s n.val []).frame, by rw [if_neg hroom]⟩

end Sys2Proof.Machine
end

section
/-! PROOF of CisternsHoldPackets (R340, R343), continued: the consumer's reads. -/

namespace Sys2Proof.Machine

/- One evaluation after another: each of them, left to itself, would hold a thread. -/
set_option Elab.async false

/-! ### One word -/

/-- What taking words leaves of a Cistern: its producer's side, and the pending flush. -/
structure Taken (s t : State) (n k : Nat) (l : List Nat) : Prop extends CistOp s t n l where
  stream : (t.cist n).stream = (s.cist n).stream.drop k
  opened : (t.cist n).opened = (s.cist n).opened
  waits : (t.cist n).waits = (s.cist n).waits
  flush : t.flag (CST_STAT.FLUSH_PEND n) = s.flag (CST_STAT.FLUSH_PEND n)

theorem Taken.trans {s t u : State} {n k j : Nat} {l : List Nat} (a : Taken s t n k l) (b : Taken t u n j l) : Taken s u n (k + j) l :=
  ⟨a.toCistOp.trans b.toCistOp, by rw [b.stream, a.stream, List.drop_drop], b.opened.trans a.opened, b.waits.trans a.waits, b.flush.trans a.flush⟩

/-- The words that a read of `k` words returns of a stream. -/
def streamWords (l : List Word) (k : Nat) : List Word := (l ++ List.replicate k idleItem).take k

theorem streamWords_nil (k : Nat) : streamWords [] k = List.replicate k idleItem := by
  rw [streamWords, List.nil_append, List.take_replicate, Nat.min_self]

theorem streamWords_succ (l : List Word) (k : Nat) : streamWords l (k + 1) = l.head?.getD idleItem :: streamWords (l.drop 1) k := by
  cases l with
  | nil => rw [streamWords_nil, List.drop_nil, streamWords_nil]; rfl
  | cons x xs =>
    simp [streamWords, List.take_append, List.take_replicate]
    omega

theorem Cistern.stream_idle {c : Cistern} (hi : c.inside = []) (hc : c.closed = []) : c.stream = [] := by simp [Cistern.stream, hi, hc]

theorem State.popWord_taken (s : State) {n : Nat} (hn : n < 256) (hf : s.flag (CST_STAT.FLUSH_PEND n) = false) :
    (s.popWord n).1 = (s.cist n).stream.head?.getD idleItem ∧ Taken s (s.popWord n).2 n 1 [] := by
  have hput : ∀ c : Cistern, c.stream = (s.cist n).stream.drop 1 → c.opened = (s.cist n).opened → c.waits = (s.cist n).waits →
      Taken s (s.cstPut n c) n 1 [] := by
    intro c hs ho hw
    obtain ⟨hk, hc, _, hg⟩ := s.cstPut_leaves hn c
    have hflag := State.flag_of_g (hg _ (cstStat_sep n).1)
    generalize s.cstPut n c = t at *
    exact ⟨hk, by rw [hc, hs], by rw [hc, ho], by rw [hc, hw], hflag⟩
  unfold State.popWord
  dsimp only
  split
  · next w r hin =>
    have hstr : (s.cist n).stream = w :: (r ++ (s.cist n).closed.flatMap (fun p => p.header :: p.words)) := by rw [Cistern.stream, hin]; rfl
    have htk := hput { s.cist n with inside := r } (by rw [hstr]; rfl) rfl rfl
    have hflush : ¬(r = [] ∧ (s.cstPut n { s.cist n with inside := r }).flag (CST_STAT.FLUSH_PEND n) = true) := by
      rw [htk.flush, hf]
      exact fun hc => Bool.false_ne_true hc.2
    rw [if_neg hflush, hstr]
    exact ⟨rfl, htk⟩
  · next p r hin hcl =>
    have hstr : (s.cist n).stream = p.header :: (p.words ++ r.flatMap (fun p => p.header :: p.words)) := by
      rw [Cistern.stream, hin, hcl]
      rfl
    rw [hstr]
    exact ⟨rfl, hput { s.cist n with closed := r, inside := p.words } (by rw [hstr]; rfl) rfl rfl⟩
  · next hin hcl =>
    have hstr := Cistern.stream_idle hin hcl
    rw [hstr]
    exact ⟨rfl, CistOp.refl s n [], by rw [hstr]; rfl, rfl, rfl, rfl⟩

/-! ### A read -/

theorem State.popWords_sound (s : State) (n i k : Nat) : s.popWords n none i (k + 1) =
    (((s.popWord n).2.popWords n none (i + 1) k).1, (s.popWord n).1 :: ((s.popWord n).2.popWords n none (i + 1) k).2.1,
      ((s.popWord n).2.popWords n none (i + 1) k).2.2) := by
  rw [State.popWords]
  exact if_neg (fun hc => nomatch hc.1)

/-- A read of sound words. -/
theorem State.popWords_taken {n : Nat} (hn : n < 256) (k : Nat) : ∀ (i : Nat) (s : State), s.flag (CST_STAT.FLUSH_PEND n) = false →
    ∃ t, s.popWords n none i k = (stOK, streamWords (s.cist n).stream k, t) ∧ Taken s t n k [] := by
  induction k with
  | zero => exact fun i s _ => ⟨s, rfl, CistOp.refl s n [], rfl, rfl, rfl, rfl⟩
  | succ k ih =>
    intro i s hf
    obtain ⟨hw, htk⟩ := s.popWord_taken hn hf
    rw [State.popWords_sound, streamWords_succ, ← hw, ← htk.stream]
    generalize s.popWord n = wt at *
    obtain ⟨t, ht, htk2⟩ := ih (i + 1) wt.2 (htk.flush.trans hf)
    rw [ht]
    exact ⟨t, rfl, by rw [Nat.add_comm]; exact htk.trans htk2⟩

/-- A read whose first word is an uncorrectable data word (R343). -/
theorem State.popWords_data {s a : State} {n : Nat} {w : Word} (hin : (s.cist n).inside = [w])
    (ha : (s.count CST_ECC_UNCORR.off).raise (evCst 2) clDegraded = a) (k : Nat) : s.popWords n (some 0) 0 (k + 1) =
      (stDATA, (a.popWord n).1 :: ((a.popWord n).2.popWords n none 1 k).2.1, ((a.popWord n).2.popWords n none 1 k).2.2) := by
  rw [State.popWords]
  dsimp only
  rw [hin, ha]
  rfl

/-- A read whose first word is an uncorrectable header (R343). -/
theorem State.popWords_header {s a : State} {n : Nat} (hin : (s.cist n).inside = []) (hcl : (s.cist n).closed ≠ [])
    (ha : (s.count CST_ECC_UNCORR.off).raise (evCst 2) clDegraded = a) (k : Nat) : s.popWords n (some 0) 0 (k + 1) =
      (stOK, List.replicate (k + 1) idleItem, a.cstLostAll n) := by
  rw [State.popWords]
  dsimp only
  rw [hin, ha, if_pos ⟨rfl, by simp [hcl]⟩]
  rfl

/-! ### CISTERN_POP -/

/-- A chain on a Cistern after the count of a register of the block. -/
theorem State.countBy_cist (s : State) {off w : Nat} (h : (s.rd off).toNat + w < 0xFFFFFFFF) (hk : isPendKey off = false) (n : Nat) {l : List Nat}
    (hl : off ∈ l) : CistOp s (s.countBy off w) n l ∧ (s.countBy off w).cst = s.cst ∧ ((s.countBy off w).rd off).toNat = (s.rd off).toNat + w := by
  obtain ⟨hc, rfl⟩ | hc := s.countBy_eq off w h
  · rw [hc]
    exact ⟨CistOp.refl s n l, rfl, rfl⟩
  · rw [hc]
    refine ⟨CistOp.of_bare (Eff.wr s _ hk (List.mem_cons_of_mem _ hl)) rfl, rfl, ?_⟩
    rw [s.rd_wr_same, BitVec.toNat_ofNat, Nat.mod_eq_of_lt (by omega)]

theorem State.cstRead_words {s a : State} {n off k corr : Nat} {bad : Option Nat} (hd : cstDecode off = some (0, n, 2)) (hcons : s.flag (CST_CFG.CONS n) = false)
    (hen : s.flag (CST_CFG.EN n) = true) (h1 : 1 ≤ k) (h64 : k ≤ 64) (ha : s.countBy CST_ECC_CORR.off corr = a) :
    s.cstRead off (4 * k) bad corr = ((a.popWords n bad 0 k).1, wordsBytes (a.popWords n bad 0 k).2.1, (a.popWords n bad 0 k).2.2) := by
  have hlen : ¬(2 ≠ 2 ∨ 4 * k < 4 ∨ 256 < 4 * k ∨ 4 * k % 4 ≠ 0) := by omega
  have hk : 4 * k / 4 = k := by omega
  rw [State.cstRead, hd]
  dsimp only
  rw [if_neg hlen, hcons, hen, hk, ha]
  rfl

section
variable {m : Master} {n : Fin 256} {k : Nat} {s : State}

theorem exec_cisternPop (len : Nat) (bad : Option Nat) (corr : Nat) :
    exec (.cisternPop m n len bad corr) s = .next (s.finish (cisternPop m n len bad corr s)) := by rfl

theorem cisternPop_read {len corr st : Nat} {bad : Option Nat} {d : List Byte} {t : State} (hg : s.spaceGate m 2 0 = 0)
    (hr : s.cstRead (cstOff 0 n.val 2) len bad corr = (st, d, t)) (hst : st = stOK ∨ st = stDATA) : cisternPop m n len bad corr s = t.answer m st d := by
  have hgate : s.spaceGate m 2 (cstOff 0 n.val 2) = 0 := (s.spaceGate_cist m _).trans hg
  unfold cisternPop
  extract_lets off
  have hgate' : s.spaceGate m 2 off = 0 := hgate
  have hr' : s.cstRead off len bad corr = (st, d, t) := hr
  clear_value off
  rw [if_neg (by rw [hgate']; decide), hr']
  exact if_pos hst

/-- The state that a consumer's read leaves, told. -/
theorem CistOp.answered {t : State} {l : List Nat} (hk : CistOp s t n.val l) (hs : s.resetReq = none) (m : Master) (st : Nat) (d : List Byte) :
    ∃ u, s.finish (t.answer m st d) = u ∧ u.resp = some ⟨m.mid.val, st, d⟩ ∧ s.cistFrame u n.val l ∧ u.cist n.val = t.cist n.val ∧ u.regs = t.regs ∧
      u.sump = t.sump :=
  ⟨_, State.finish_kept ((t.answer_resetReq ..).trans (hk.resetReq.trans hs)) ((t.answer_pending ..).trans hk.pending), rfl,
    ⟨fun k hne => (State.cist_of_cst (t.answer_cst ..) k).trans (hk.others k hne),
      fun k hl h1 h2 => (State.rd_of_regs (t.answer_regs ..) k).trans (hk.rd k hl h1 h2), (t.answer_pts ..).trans hk.pts, (t.answer_flow ..).trans hk.flow⟩,
    State.cist_of_cst (t.answer_cst ..) n.val, t.answer_regs .., rfl⟩

theorem cisternPop_sound {corr : Nat} (hs : s.resetReq = none) (hg : s.spaceGate m 2 0 = 0) (hcons : s.flag (CST_CFG.CONS n.val) = false)
    (hen : s.flag (CST_CFG.EN n.val) = true) (hf : s.flag (CST_STAT.FLUSH_PEND n.val) = false) (h1 : 1 ≤ k) (h64 : k ≤ 64)
    (hcnt : (s.rd CST_ECC_CORR.off).toNat + corr < 0xFFFFFFFF) :
    ∃ t, exec (.cisternPop m n (4 * k) none corr) s = .next t ∧
      t.resp = some ⟨m.mid.val, stOK, wordsBytes (streamWords (s.cist n.val).stream k)⟩ ∧
      (t.cist n.val).stream = (s.cist n.val).stream.drop k ∧ (t.cist n.val).opened = (s.cist n.val).opened ∧
      (t.cist n.val).waits = (s.cist n.val).waits ∧ s.cistFrame t n.val [CST_ECC_CORR.off] ∧
      (t.rd CST_ECC_CORR.off).toNat = (s.rd CST_ECC_CORR.off).toNat + corr := by
  have hd := cstDecode_off (typ := 0) (n := n.val) (port := 2) (by decide) n.isLt (by decide)
  obtain ⟨hk, hcst, hcor⟩ := s.countBy_cist hcnt (by decide) n.val (l := [CST_ECC_CORR.off]) List.mem_cons_self
  obtain ⟨a, ha⟩ : ∃ a, s.countBy CST_ECC_CORR.off corr = a := ⟨_, rfl⟩
  rw [ha] at hk hcst hcor
  have hc := State.cist_of_cst hcst n.val
  have hfa : a.flag (CST_STAT.FLUSH_PEND n.val) = false := by
    obtain ⟨hc', _⟩ | hc' := s.countBy_eq _ corr hcnt
    · rw [← ha, hc', hf]
    · rw [← ha, hc', State.flag_wr_ne _ _ (by simp only [CST_STAT.off, CST_ECC_CORR.off]; omega), hf]
  obtain ⟨b, hb, htk⟩ := State.popWords_taken n.isLt k 0 a hfa
  have hr := State.cstRead_words (bad := none) hd hcons hen h1 h64 ha
  rw [hb] at hr
  rw [exec_cisternPop, cisternPop_read hg hr (.inl rfl)]
  obtain ⟨t, ht, hresp, hframe, hcist, hregs, _⟩ := (hk.trans (htk.toCistOp.mono (by simp))).answered hs m stOK (wordsBytes (streamWords (a.cist n.val).stream k))
  have hrd : b.rd CST_ECC_CORR.off = a.rd CST_ECC_CORR.off :=
    htk.toEff.word (by simp only [List.mem_singleton, CST_ECC_CORR.off, CST_STAT.off]; omega) (by decide)
  exact ⟨t, congrArg _ ht, by rw [hresp, hc], by rw [hcist, htk.stream, hc], by rw [hcist, htk.opened, hc], by rw [hcist, htk.waits, hc], hframe,
    by rw [State.rd_of_regs hregs, hrd, hcor]⟩

end

/-! ### Uncorrectable words (R343) -/

theorem State.cstLostAll_eq (s : State) (n : Nat) : s.cstLostAll n =
    ((((s.cstPut n { s.cist n with closed := [], opened := none, inside := [], sending := 0 }).pb (CST_STAT.FLUSH_PEND n) false).pb
      (CST_STAT.LOSTALL n) true).countBy CST_DROP.off ((s.cist n).closed.length + b2n (s.cist n).opened.isSome)).raise (evCst 3) clEvent := rfl

theorem State.cstLostAll_leaves (s : State) {n : Nat} (hn : n < 256)
    (hcnt : (s.rd CST_DROP.off).toNat + ((s.cist n).closed.length + b2n (s.cist n).opened.isSome) < 0xFFFFFFFF) :
    CistOp s (s.cstLostAll n) n [CST_DROP.off] ∧ (s.cstLostAll n).cist n = { s.cist n with closed := [], opened := none, inside := [], sending := 0 } ∧
      (s.cstLostAll n).flag (CST_STAT.LOSTALL n) = true ∧ (s.cstLostAll n).flag (CST_STAT.FLUSH_PEND n) = false ∧
      ((s.cstLostAll n).rd CST_DROP.off).toNat = (s.rd CST_DROP.off).toNat + ((s.cist n).closed.length + b2n (s.cist n).opened.isSome) := by
  rw [State.cstLostAll_eq]
  generalize (s.cist n).closed.length + b2n (s.cist n).opened.isSome = lost at *
  have hstat := cstStat_key hn
  have hpend := (fixedKey_iff.1 hstat).1
  have hdrop : CST_DROP.off ≠ CST_STAT.off n := by simp only [CST_DROP.off, CST_STAT.off]; omega
  obtain ⟨hk, hc, _, _⟩ := s.cstPut_leaves hn { s.cist n with closed := [], opened := none, inside := [], sending := 0 }
  obtain ⟨a, ha⟩ : ∃ a, s.cstPut n { s.cist n with closed := [], opened := none, inside := [], sending := 0 } = a := ⟨_, rfl⟩
  rw [ha] at hk hc ⊢
  obtain ⟨b, hb⟩ : ∃ b, (a.pb (CST_STAT.FLUSH_PEND n) false).pb (CST_STAT.LOSTALL n) true = b := ⟨_, rfl⟩
  have hk2 : CistOp a b n [CST_DROP.off] := hb ▸ (CistOp.p a (CST_STAT.FLUSH_PEND n) _ hpend List.mem_cons_self).trans
    (CistOp.p _ (CST_STAT.LOSTALL n) _ hpend List.mem_cons_self)
  have hc2 : b.cst = a.cst := hb ▸ (State.p_cst ..).trans (State.p_cst ..)
  have hlost : b.flag (CST_STAT.LOSTALL n) = true := hb ▸ State.flag_pb_self _ (f := CST_STAT.LOSTALL n) true (by simp) rfl
  have hflush : b.flag (CST_STAT.FLUSH_PEND n) = false := hb ▸ (State.flag_pb_sep _ true (by simp [FRef.sep])).trans
    (State.flag_pb_self _ (f := CST_STAT.FLUSH_PEND n) false (by simp) rfl)
  rw [hb]
  have hkb := (hk.mono (by simp)).trans hk2
  have hrd2 : b.rd CST_DROP.off = a.rd CST_DROP.off := by
    rw [← hb, State.pb, State.pb, State.rd_p_ne _ _ _ hdrop, State.rd_p_ne _ _ _ hdrop]
  have hrd : b.rd CST_DROP.off = s.rd CST_DROP.off := hrd2.trans (hk.toEff.word (by simpa using hdrop) (by decide))
  obtain ⟨hk3, hc3, hdr⟩ := b.countBy_cist (off := CST_DROP.off) (w := lost) (by rw [hrd]; exact hcnt) (by decide) n (l := [CST_DROP.off]) List.mem_cons_self
  have hflag3 : ∀ f : FRef, f.off = CST_STAT.off n → (b.countBy CST_DROP.off lost).flag f = b.flag f := by
    intro f hf
    obtain ⟨hx, _⟩ | hx := b.countBy_eq CST_DROP.off lost (by rw [hrd]; exact hcnt)
    · rw [hx]
    · rw [hx, State.flag_wr_ne _ _ (by rw [hf]; exact hdrop.symm)]
  obtain ⟨d, hd⟩ : ∃ d, b.countBy CST_DROP.off lost = d := ⟨_, rfl⟩
  rw [hd] at hk3 hc3 hdr hflag3 ⊢
  have hk4 := CistOp.raise d (ev := evCst 3) (cls := clEvent) (by decide) (by decide) n [CST_DROP.off]
  have he := Eff.raise d (ev := evCst 3) (cls := clEvent) (by decide) (by decide) []
  obtain ⟨_, _, _, _, _, _, _, _, _, _, _, hcst, _⟩ := State.sameStores_of_bare (d.raise_raised clEvent (ev := evCst 3) (by decide)).bare
  generalize d.raise (evCst 3) clEvent = t at *
  refine ⟨(hkb.trans hk3).trans hk4, ?_, ?_, ?_, ?_⟩
  · rw [State.cist_of_cst hcst, State.cist_of_cst hc3, State.cist_of_cst hc2, hc]
  · rw [he.flag List.not_mem_nil hstat, hflag3 _ rfl, hlost]
  · rw [he.flag List.not_mem_nil hstat, hflag3 _ rfl, hflush]
  · rw [he.word List.not_mem_nil (by decide), hdr, hrd]

section
variable {m : Master} {n : Fin 256} {k : Nat} {s : State}

/-- An uncorrectable word, counted. -/
theorem State.uncorr_cist (s : State) (n : Nat) (h : (s.rd CST_ECC_UNCORR.off).toNat + 1 < 0xFFFFFFFF) {a : State}
    (ha : (s.count CST_ECC_UNCORR.off).raise (evCst 2) clDegraded = a) :
    CistOp s a n [CST_ECC_UNCORR.off] ∧ a.cst = s.cst ∧ Counted s a CST_ECC_UNCORR.off (evCst 2) clDegraded := by
  have hcount := s.count_raise (off := CST_ECC_UNCORR.off) (ev := evCst 2) (cls := clDegraded) h (by decide) (by decide) (by decide)
  rw [ha] at hcount
  obtain ⟨_, _, _, _, _, _, _, _, _, _, _, hcst, _⟩ := State.sameStores_of_bare hcount.bare
  exact ⟨CistOp.of_bare (hcount.eff.mono (by simp)) hcount.bare, hcst, hcount⟩

theorem uncorr_key (n : Nat) : CST_ECC_UNCORR.off ≠ CST_STAT.off n := by
  simp only [CST_ECC_UNCORR.off, CST_STAT.off]
  omega

theorem cisternPop_data {w : Word} (hs : s.resetReq = none) (hg : s.spaceGate m 2 0 = 0) (hcons : s.flag (CST_CFG.CONS n.val) = false)
    (hen : s.flag (CST_CFG.EN n.val) = true) (h1 : 1 ≤ k) (h64 : k ≤ 64) (hcnt : (s.rd CST_ECC_UNCORR.off).toNat + 1 < 0xFFFFFFFF)
    (hin : (s.cist n.val).inside = [w]) (hf : s.flag (CST_STAT.FLUSH_PEND n.val) = false) :
    ∃ t, exec (.cisternPop m n (4 * k) (some 0) 0) s = .next t ∧
      t.resp = some ⟨m.mid.val, stDATA, wordsBytes (streamWords (s.cist n.val).stream k)⟩ ∧
      (t.cist n.val).stream = (s.cist n.val).stream.drop k ∧ clDegraded ≤ t.evKept (evCst 2) ∧
      (t.rd CST_ECC_UNCORR.off).toNat = (s.rd CST_ECC_UNCORR.off).toNat + 1 := by
  have hd := cstDecode_off (typ := 0) (n := n.val) (port := 2) (by decide) n.isLt (by decide)
  obtain ⟨a, ha⟩ : ∃ a, (s.count CST_ECC_UNCORR.off).raise (evCst 2) clDegraded = a := ⟨_, rfl⟩
  obtain ⟨hk, hcst, hcount⟩ := s.uncorr_cist n.val hcnt ha
  have hc := State.cist_of_cst hcst n.val
  have hfa : a.flag (CST_STAT.FLUSH_PEND n.val) = false :=
    (hcount.eff.flag (by simpa using (uncorr_key n.val).symm) (cstStat_key n.isLt)).trans hf
  obtain ⟨j, rfl⟩ : ∃ j, k = j + 1 := ⟨k - 1, by omega⟩
  have hr := State.cstRead_words (s := s) (bad := some 0) (corr := 0) hd hcons hen h1 h64 rfl
  obtain ⟨hw, htk⟩ := a.popWord_taken n.isLt hfa
  obtain ⟨t, ht, htk2⟩ := State.popWords_taken n.isLt j 1 _ (htk.flush.trans hfa)
  rw [show s.countBy CST_ECC_CORR.off 0 = s from rfl, State.popWords_data hin ha, ht, hw, htk.stream, ← streamWords_succ, hc] at hr
  have hall := htk.trans htk2
  rw [exec_cisternPop, cisternPop_read hg hr (.inr rfl)]
  obtain ⟨u, hu, hresp, hframe, hcist, hregs, hsump⟩ :=
    (hk.trans (hall.toCistOp.mono (by simp))).answered hs m stDATA (wordsBytes (streamWords (s.cist n.val).stream (j + 1)))
  have hrd : t.rd CST_ECC_UNCORR.off = a.rd CST_ECC_UNCORR.off := hall.toEff.word (by simpa using uncorr_key n.val) (by decide)
  exact ⟨u, congrArg _ hu, hresp, by rw [hcist, hall.stream, hc, Nat.add_comm], by
    rw [State.evKept, hsump]
    exact hcount.kept.trans (hall.toEff.kept _ (by decide) hcount.pend), by rw [State.rd_of_regs hregs, hrd, hcount.cnt]⟩

theorem cisternPop_header (hs : s.resetReq = none) (hg : s.spaceGate m 2 0 = 0) (hcons : s.flag (CST_CFG.CONS n.val) = false)
    (hen : s.flag (CST_CFG.EN n.val) = true) (h1 : 1 ≤ k) (h64 : k ≤ 64) (hcnt : (s.rd CST_ECC_UNCORR.off).toNat + 1 < 0xFFFFFFFF)
    (hdrop : (s.rd CST_DROP.off).toNat + (s.cist n.val).closed.length + 1 < 0xFFFFFFFF) (hin : (s.cist n.val).inside = [])
    (hcl : (s.cist n.val).closed ≠ []) :
    ∃ t, exec (.cisternPop m n (4 * k) (some 0) 0) s = .next t ∧ t.resp = some ⟨m.mid.val, stOK, wordsBytes (List.replicate k idleItem)⟩ ∧
      t.cist n.val = { s.cist n.val with closed := [], opened := none, sending := 0 } ∧ t.flag (CST_STAT.LOSTALL n.val) = true ∧
      t.flag (CST_STAT.FLUSH_PEND n.val) = false ∧ clDegraded ≤ t.evKept (evCst 2) ∧
      (t.rd CST_ECC_UNCORR.off).toNat = (s.rd CST_ECC_UNCORR.off).toNat + 1 ∧
      (t.rd CST_DROP.off).toNat =
        (s.rd CST_DROP.off).toNat + (s.cist n.val).closed.length + if (s.cist n.val).opened.isSome then 1 else 0 := by
  have hd := cstDecode_off (typ := 0) (n := n.val) (port := 2) (by decide) n.isLt (by decide)
  obtain ⟨a, ha⟩ : ∃ a, (s.count CST_ECC_UNCORR.off).raise (evCst 2) clDegraded = a := ⟨_, rfl⟩
  obtain ⟨hk, hcst, hcount⟩ := s.uncorr_cist n.val hcnt ha
  have hc := State.cist_of_cst hcst n.val
  have hdr : a.rd CST_DROP.off = s.rd CST_DROP.off := hcount.eff.word (by decide) (by decide)
  obtain ⟨j, rfl⟩ : ∃ j, k = j + 1 := ⟨k - 1, by omega⟩
  have hr := State.cstRead_words (s := s) (bad := some 0) (corr := 0) hd hcons hen h1 h64 rfl
  rw [show s.countBy CST_ECC_CORR.off 0 = s from rfl, State.popWords_header hin hcl ha] at hr
  have hle := b2n_le (s.cist n.val).opened.isSome
  obtain ⟨hk2, hcist2, hlost, hflush, hcnt2⟩ := a.cstLostAll_leaves n.isLt (by rw [hdr, hc]; omega)
  have hun : (a.cstLostAll n.val).rd CST_ECC_UNCORR.off = a.rd CST_ECC_UNCORR.off :=
    hk2.toEff.word (fun hm => (List.mem_cons.1 hm).elim (uncorr_key n.val) (by decide)) (by decide)
  rw [exec_cisternPop, cisternPop_read hg hr (.inl rfl)]
  generalize a.cstLostAll n.val = b at *
  obtain ⟨u, hu, hresp, _, hcist, hregs, hsump⟩ :=
    ((hk.mono (l' := [CST_ECC_UNCORR.off, CST_DROP.off]) (by simp)).trans (hk2.mono (by simp))).answered hs m stOK (wordsBytes (List.replicate (j + 1) idleItem))
  refine ⟨u, congrArg _ hu, hresp, ?_, (State.flag_of_regs hregs _).trans hlost, (State.flag_of_regs hregs _).trans hflush, ?_, ?_, ?_⟩
  · rw [hcist, hcist2, hc, ← hin]
  · rw [State.evKept, hsump]
    exact hcount.kept.trans (hk2.toEff.kept _ (by decide) hcount.pend)
  · rw [State.rd_of_regs hregs, hun, hcount.cnt]
  · rw [State.rd_of_regs hregs, hcnt2, hdr, hc, ← Nat.add_assoc]
    rfl

end

end Sys2Proof.Machine
end

section
/-! PROOF of CisternsHoldPackets (R341, R343), continued: the tunnel's taking of a packet. -/

namespace Sys2Proof.Machine

/- One evaluation after another: each of them, left to itself, would hold a thread. -/
set_option Elab.async false

/-! ### The segments of a packet (R341) -/

theorem wordsBytes_length (l : List Word) : (wordsBytes l).length = 4 * l.length := by
  induction l with
  | nil => rfl
  | cons w l ih =>
    have hcons : wordsBytes (w :: l) = bytesLE 4 w.toNat ++ wordsBytes l := rfl
    rw [hcons, List.length_append, ih, bytesLE_length, List.length_cons]
    omega

theorem Packet.bytes_length {p : Packet} (h : p.words.length = cstWords p.len) : p.bytes.length = p.len := by
  rw [Packet.bytes, List.length_take, wordsBytes_length, h, cstWords]
  omega

theorem chunks_one {l : List Byte} {k : Nat} (h : l ≠ []) (hl : l.length ≤ 256) : chunks 256 (k + 1) l = [l] := by
  rw [chunks, if_neg (by simpa using h), List.take_of_length_le hl, List.drop_of_length_le hl]
  cases k <;> rfl

/-- A packet of at most 256 bytes is one part. -/
theorem Packet.parts {p : Packet} (hlen : p.len ≤ 256) (h : p.words.length = cstWords p.len) :
    (if p.len = 0 then [[]] else chunks 256 (p.len / 256 + 1) p.bytes) = [p.bytes] := by
  have hb := Packet.bytes_length h
  by_cases h0 : p.len = 0
  · rw [if_pos h0, List.eq_nil_of_length_eq_zero (hb.trans h0)]
  · rw [if_neg h0, chunks_one (fun hc => h0 (by rw [← hb, hc]; rfl)) (hb ▸ hlen)]

/-- The one segment of a packet of at most 256 bytes. -/
def State.pktItem (s : State) (tn n : Nat) (p : Packet) : Item :=
  { newItem (s.g (BRG_TUN_CFG.FLOW.at tn)) 0x10 (s.g (BRG_TUN_REMOTE.NODE.at tn) * 2 ^ 48 + 2 * 2 ^ 40 + p.typ * 2 ^ 20 +
      s.g (BRG_TUN_REMOTE.RTUN.at tn) * 2 ^ 12 + (if p.len = 0 then 4 else 1) * 2 ^ 8) p.bytes 0 (.cist tn n) with seg := 3 }

theorem State.pktItems_one (s : State) (tn n : Nat) {p : Packet} (hlen : p.len ≤ 256) (h : p.words.length = cstWords p.len) :
    s.pktItems tn n p = [s.pktItem tn n p] := by
  unfold State.pktItems State.pktItem
  dsimp only
  rw [Packet.parts hlen h]
  generalize s.g (BRG_TUN_REMOTE.NODE.at tn) = node
  generalize s.g (BRG_TUN_REMOTE.RTUN.at tn) = rtun
  simp [cstOff, b2n, Nat.add_assoc]

theorem State.submit_clear {s : State} {it : Item} (hrun : s.flowRuns = true) (hl : s.flow.leaving = []) (hsubs : s.flow.subs = []) (hw : s.flow.arrWait = false)
    (hopen : s.flow.opened = none) (hclear : s.headClear 0) (hcheck : s.submitCheck it = stOK) (hfull : s.flowFull it.flow = false)
    (hbud : 4000 * accLines it.data.length ≤ s.budNow) : s.submit it = (stOK, s.fm (journaledFlow s it)) := by
  have htry := State.submitTry_clear hrun hl hw hopen hclear hfull (State.submitCheck_len hcheck) hbud
  unfold State.submit
  dsimp only
  rw [if_neg (not_not_intro hcheck), hsubs, htry]
  rfl

/-! ### CISTERN_TUNNEL_TAKE -/

/-- A tunnel whose engine may take the next packet of its Cistern. -/
structure Takes (s : State) (n tn : Nat) (p : Packet) : Prop where
  on : s.domOn 6 = true
  en : s.flag (CST_CFG.EN n) = true
  cons : s.flag (CST_CFG.CONS n) = true
  flush : s.flag (CST_STAT.FLUSH_PEND n) = false
  tunnel : s.pktTunnel n = some tn
  next : (s.cist n).closed[(s.cist n).sending]? = some p

section
variable {n : Fin 256} {tn : Nat} {p : Packet} {s : State}

theorem exec_cisternTunnelTake (bad : Option Nat) (corr : Nat) :
    exec (.cisternTunnelTake n bad corr) s = .next (s.finish (cisternTunnelTake n bad corr s)) := by rfl

theorem Takes.sound (h : Takes s n.val tn p) {it : Item} (hit : s.pktItems tn n.val p = [it]) (hcheck : s.submitCheck it = stOK) {t : State}
    (hsub : s.submit it = (stOK, t)) : cisternTunnelTake n none 0 s = t.setCist n.val { t.cist n.val with sending := (s.cist n.val).sending + 1 } := by
  obtain ⟨hon, hen, hcons, hflush, htun, hnext⟩ := h
  unfold cisternTunnelTake
  dsimp only
  rw [hnext, htun]
  dsimp only
  rw [if_neg (by simp [hon, hen, hcons, hflush]), show s.countBy CST_ECC_CORR.off 0 = s from rfl, hit,
    if_pos (by simp [hcheck]), List.foldl_cons, List.foldl_nil, hsub]

theorem Takes.bad (h : Takes s n.val tn p) {k : Nat} (hk : 1 ≤ k) {a : State} (ha : (s.count CST_ECC_UNCORR.off).raise (evCst 2) clDegraded = a) :
    cisternTunnelTake n (some k) 0 s =
      (a.cstPut n.val { a.cist n.val with closed := (s.cist n.val).closed.eraseIdx (s.cist n.val).sending }).count CST_DROP.off := by
  obtain ⟨hon, hen, hcons, hflush, htun, hnext⟩ := h
  unfold cisternTunnelTake
  dsimp only
  rw [hnext, htun]
  dsimp only
  rw [if_neg (by simp [hon, hen, hcons, hflush]), show s.countBy CST_ECC_CORR.off 0 = s from rfl, ha, if_neg (by omega)]

theorem cisternTunnelTake_sound (h : Takes s n.val tn p) (hs : s.resetReq = none) (hlen : p.len ≤ 256) (hwords : p.words.length = cstWords p.len)
    (hrun : s.flowRuns = true) (hl : s.flow.leaving = []) (hsubs : s.flow.subs = []) (hw : s.flow.arrWait = false)
    (hopen : s.flow.opened = none) (hclear : s.headClear 0) {it : Item} (hit : s.pktItem tn n.val p = it) (hcheck : s.submitCheck it = stOK)
    (hfull : s.flowFull it.flow = false) (hbud : 4000 * accLines it.data.length ≤ s.budNow) :
    ∃ t, exec (.cisternTunnelTake n none 0) s = .next t ∧ t.cist n.val = { s.cist n.val with sending := (s.cist n.val).sending + 1 } ∧
      t.flow.opened = some ⟨[.acc (s.numbered it) true], accLines it.data.length, s.absNs, s.absNs + s.commitNs⟩ := by
  have hsub := State.submit_clear hrun hl hsubs hw hopen hclear hcheck hfull hbud
  have hx := h.sound ((s.pktItems_one tn n.val hlen hwords).trans (congrArg (fun i => [i]) hit)) hcheck hsub
  obtain ⟨hreset, hpend, _⟩ := s.fm_leaves (journaledFlow s it)
  obtain ⟨hop, _⟩ := journaledFlow_leaves s it
  have hcst : (s.fm (journaledFlow s it)).cst = s.cst := rfl
  obtain ⟨a, ha⟩ : ∃ a, s.fm (journaledFlow s it) = a := ⟨_, rfl⟩
  rw [ha] at hx hreset hpend hop hcst
  rw [State.cist_of_cst hcst] at hx
  have hk := CistOp.setCist a n.val { s.cist n.val with sending := (s.cist n.val).sending + 1 } []
  have hc := a.setCist_cist n.val { s.cist n.val with sending := (s.cist n.val).sending + 1 }
  rw [exec_cisternTunnelTake, hx]
  generalize a.setCist n.val { s.cist n.val with sending := (s.cist n.val).sending + 1 } = t at *
  exact ⟨t, congrArg _ (State.finish_kept (hk.resetReq.trans (hreset.trans hs)) (hk.pending.trans hpend)), hc, by rw [hk.flow, hop]⟩

theorem cisternTunnelTake_bad (h : Takes s n.val tn p) {k : Nat} (hs : s.resetReq = none) (hk : 1 ≤ k)
    (hcnt : (s.rd CST_ECC_UNCORR.off).toNat + 1 < 0xFFFFFFFF) (hdrop : (s.rd CST_DROP.off).toNat + 1 < 0xFFFFFFFF) :
    ∃ t, exec (.cisternTunnelTake n (some k) 0) s = .next t ∧
      t.cist n.val = { s.cist n.val with closed := (s.cist n.val).closed.eraseIdx (s.cist n.val).sending } ∧
      s.cistFrame t n.val [CST_ECC_UNCORR.off, CST_DROP.off, CST_PKTS.off n.val] ∧ clDegraded ≤ t.evKept (evCst 2) ∧
      (t.rd CST_ECC_UNCORR.off).toNat = (s.rd CST_ECC_UNCORR.off).toNat + 1 ∧
      (t.rd CST_DROP.off).toNat = (s.rd CST_DROP.off).toNat + 1 := by
  obtain ⟨a, ha⟩ : ∃ a, (s.count CST_ECC_UNCORR.off).raise (evCst 2) clDegraded = a := ⟨_, rfl⟩
  obtain ⟨hka, hcst, hcount⟩ := s.uncorr_cist n.val hcnt ha
  have hx := h.bad hk ha
  rw [State.cist_of_cst hcst] at hx
  obtain ⟨hkb, hc, _, _⟩ := a.cstPut_leaves n.isLt { s.cist n.val with closed := (s.cist n.val).closed.eraseIdx (s.cist n.val).sending }
  obtain ⟨b, hb⟩ : ∃ b, a.cstPut n.val { s.cist n.val with closed := (s.cist n.val).closed.eraseIdx (s.cist n.val).sending } = b := ⟨_, rfl⟩
  rw [hb] at hx hkb hc
  have hstat : CST_DROP.off ≠ CST_STAT.off n.val := by simp only [CST_DROP.off, CST_STAT.off]; omega
  have hrd : b.rd CST_DROP.off = s.rd CST_DROP.off :=
    (hkb.toEff.word (by simpa using hstat) (by decide)).trans (hcount.eff.word (by decide) (by decide))
  have hun : b.rd CST_ECC_UNCORR.off = a.rd CST_ECC_UNCORR.off := hkb.toEff.word (by simpa using uncorr_key n.val) (by decide)
  have hdrop' : (b.rd CST_DROP.off).toNat + 1 < 0xFFFFFFFF := by rw [hrd]; exact hdrop
  have hone := b.count_toNat _ hdrop'
  have hkc : CistOp b (b.count CST_DROP.off) n.val [CST_DROP.off] :=
    CistOp.of_bare (Eff.count b hdrop' (by decide) (List.mem_cons_of_mem _ List.mem_cons_self)) (b.count_bare (by decide))
  have hcc : (b.count CST_DROP.off).cst = b.cst := by
    rw [b.count_eq _ hdrop']
    exact b.wr_cst _ _
  have hunc : (b.count CST_DROP.off).rd CST_ECC_UNCORR.off = b.rd CST_ECC_UNCORR.off :=
    hkc.toEff.word (fun hm => (List.mem_cons.1 hm).elim (uncorr_key n.val) (by decide)) (by decide)
  rw [exec_cisternTunnelTake, hx]
  generalize b.count CST_DROP.off = t at *
  have hkt := (hkb.mono (l' := [CST_DROP.off]) (by simp)).trans hkc
  have hall := (hka.mono (l' := [CST_ECC_UNCORR.off, CST_DROP.off, CST_PKTS.off n.val]) (by simp)).trans (hkt.mono (by simp))
  exact ⟨t, congrArg _ (hall.finish hs), (State.cist_of_cst hcc _).trans hc, hall.frame,
    hcount.kept.trans (hkt.toEff.kept _ (by decide) hcount.pend), by rw [hunc, hun, hcount.cnt], by rw [hone, hrd]⟩

end

/-! ### The statement -/

/-- Settles O51, clause by clause: producing (R336 to R339, R345), consuming (R340, R343), the tunnel (R341), flush and log (R342, R346). -/
theorem cisternsHoldPackets : Obligations.CisternsHoldPackets := by
  refine ⟨fun m n typ data s h => ?_, fun m n typ b s h hb hcnt => ⟨fun hfit hfill => ?_, cisternAbort_told h hb hcnt, fun hserves => ?_⟩,
    fun m n data s hs hg hprod h4 hmin hlen => cisternPush_refused hs hg hprod h4 hmin hlen,
    fun m n k corr s hs hg hcons hen hf h1 h64 hcnt => cisternPop_sound hs hg hcons hen hf h1 h64 hcnt,
    fun m n k s hs hg hcons hen h1 h64 hcnt hdrop => ⟨fun w hin hf => cisternPop_data hs hg hcons hen h1 h64 hcnt hin hf,
      fun hin hcl => cisternPop_header hs hg hcons hen h1 h64 hcnt hdrop hin hcl⟩,
    fun n w r s h hw hp ht h4 hmin hlen hfit => cisternPushResume_told h hw hp ht h4 hmin hlen hfit,
    fun n p tn s hs hon hen hcons hflush htun hnext hlen hwords _ hrun hl hsubs hw hopen hclear => ?_,
    fun n tn k s hs hon hen hcons hflush htun hlt hk hcnt hdrop => ?_, fun m n s h hf => cisternFlush_told h hf,
    fun m val e r s h hlog => cstTlogPop_told h hlog⟩
  · intro c b hlen hfit
    exact ⟨fun h4 hmin => cisternPush_told h rfl rfl hlen hfit h4 hmin, fun hroom hmin => cisternPushClose_told h rfl rfl hlen hfit hroom hmin⟩
  · exact cisternClose_told h hb hfit hfill
  · exact cisternAbortCmd_told hserves hb hcnt
  · intro f addr it hcheck hfull hbud
    exact cisternTunnelTake_sound ⟨hon, hen, hcons, hflush, htun, hnext⟩ hs hlen hwords hrun hl hsubs hw hopen hclear rfl hcheck hfull hbud
  · exact cisternTunnelTake_bad ⟨hon, hen, hcons, hflush, htun, List.getElem?_eq_getElem hlt⟩ hs hk hcnt hdrop

end Sys2Proof.Machine
end

section
/-! The CAN controllers' operations (R350 to R364): what an event, an outcome, an error count and a stored frame leave, and what they come to. -/

namespace Sys2Proof.Machine

/- One evaluation after another: each of them, left to itself, would hold a thread. -/
set_option Elab.async false

/-! ### Places -/

/-- A register of the CAN block, or an entry of an indexed one. -/
def isCan (k : Nat) : Bool := decide (0x1C0000 ≤ k % 2 ^ 22 ∧ k % 2 ^ 22 < 0x1D0000)

theorem canKeys : ∀ k ∈ [SUMP_SAT.off, SUMP_LOG_DROP.off, SUMP_ALARM_DROP.off, SNAP_STAT.off, SNAP_SAT.off, SNAP_LOST.off, PORT_BYP.off, HST_ATTN.off],
    k < 0x1C0000 ∨ 0x1D0000 ≤ k ∧ k < 2 ^ 22 := by decide

/-- A register of the block is none that an event touches. -/
theorem isCan_fixed {k : Nat} (h : isCan k = true) : fixedKey k = true := by
  simp only [isCan, decide_eq_true_eq] at h
  refine fixedKey_iff.2 ⟨decide_eq_false ?_, Bool.eq_false_iff.2 fun hc => ?_⟩
  · simp only [EVT_PEND.off]
    omega
  · have := canKeys _ (List.contains_iff_mem.1 hc)
    omega

theorem isCan_pend {k : Nat} (h : isCan k = true) : isPendKey k = false := (fixedKey_iff.1 (isCan_fixed h)).1

theorem isCan_reg (n : Fin 8) {d : Nat} (hd : d < 0x2000) : isCan (0x1C0000 + d + n.val * 0x2000) = true := by
  simp only [isCan, decide_eq_true_eq]
  omega

theorem isCan_bank (n : Fin 8) {d : Nat} (hd : d < 0x2000) (i : Nat) : isCan (bankKey (0x1C0000 + d + n.val * 0x2000) i) = true := by
  have h := isCan_reg n hd
  rwa [isCan, ← Nat.add_mul_mod_self_right _ (i + 1) (2 ^ 22)] at h

theorem isCan_stat (n : Fin 8) : isCan (CAN_STAT.off n.val) = true := isCan_reg n (d := 4) (by decide)

theorem isCan_objStat (n : Fin 8) (o : Nat) : isCan (bankKey (CAN_OBJ_STAT.off n.val) o) = true := isCan_bank n (d := 0x110) (by decide) o

/-- The registers of a controller at the places listed. -/
abbrev canRegs (n : Nat) (l : List Nat) : List Nat := l.map (fun d => 0x1C0000 + d + n * 0x2000)

/-- A register of a controller at another place. -/
theorem can_notMem (n : Nat) {d : Nat} {l : List Nat} (h : d ∉ l) : 0x1C0000 + d + n * 0x2000 ∉ canRegs n l := by
  intro hm
  obtain ⟨e, he, hx⟩ := List.mem_map.1 hm
  exact h ((by omega : e = d) ▸ he)

/-- An entry of an indexed register is no register of a controller. -/
theorem bank_notMem (n : Fin 8) (off i : Nat) {l : List Nat} (h : ∀ d ∈ l, d < 0x2000) : bankKey off i ∉ canRegs n.val l := by
  intro hm
  obtain ⟨e, he, hx⟩ := List.mem_map.1 hm
  have := h e he
  rw [bankKey] at hx
  omega

theorem bankKey_inj {off i j : Nat} (h : bankKey off i = bankKey off j) : i = j := by
  rw [bankKey, bankKey] at h
  omega

theorem bankKey_ne {a b i j : Nat} (ha : a < 2 ^ 22) (hb : b < 2 ^ 22) (h : a ≠ b) : bankKey a i ≠ bankKey b j := by
  rw [bankKey, bankKey]
  omega

theorem bankKey_ge (a i : Nat) : 2 ^ 22 ≤ bankKey a i := by
  rw [bankKey]
  omega

/-! ### Chains on registers -/

/-- A chain that writes the registers listed and raises events below GRAVE, and leaves the stores beside Sump's. -/
structure CanReg (s t : State) (l : List Nat) : Prop extends Eff s t l where
  bare : t.bare = s.bare

namespace CanReg

variable {s t u : State} {l l' : List Nat}

theorem refl (s : State) (l : List Nat) : CanReg s s l := ⟨Eff.refl s l, rfl⟩

theorem trans (a : CanReg s t l) (b : CanReg t u l) : CanReg s u l := ⟨a.toEff.trans b.toEff, b.bare.trans a.bare⟩

theorem mono (a : CanReg s t l) (h : ∀ k ∈ l, k ∈ l') : CanReg s t l' := ⟨a.toEff.mono h, a.bare⟩

theorem raise (s : State) {ev cls : Nat} (hev : ev < 512) (hc : cls < 4) (l : List Nat) : CanReg s (s.raise ev cls) l :=
  ⟨Eff.raise s hev hc l, (s.raise_raised cls hev).bare⟩

theorem countAny (s : State) {off : Nat} (h : off < 2 ^ 22) (hk : isPendKey off = false) (hs : isPendKey (satKey off) = false) (hl : off ∈ l)
    (hsl : satKey off ∈ l) : CanReg s (s.count off) l := ⟨Eff.countAny s h hk hs hl hsl, s.count_bare h⟩

theorem can (h : CanReg s t l) : t.can = s.can := by
  obtain ⟨_, _, _, _, _, _, _, _, _, _, _, _, hcan, _⟩ := State.sameStores_of_bare h.bare
  exact hcan

theorem clep (h : CanReg s t l) : t.clep = s.clep := by
  obtain ⟨_, _, _, _, _, _, hclep, _⟩ := State.sameStores_of_bare h.bare
  exact hclep

theorem pts (h : CanReg s t l) : t.pts = s.pts := by
  obtain ⟨_, _, _, _, _, _, _, _, hpts, _⟩ := State.sameStores_of_bare h.bare
  exact hpts

theorem pending (h : CanReg s t l) : t.pending = s.pending := (State.sameStores_of_bare h.bare).1

theorem finish (h : CanReg s t l) (hs : s.resetReq = none) : s.finish t = t := State.finish_kept (h.resetReq.trans hs) h.pending

end CanReg

theorem SMap.filterMap_set {α β : Type} [DecidableEq α] {d : Nat → α} {m : SMap α} {k : Nat} {f : Nat × α → Option β} (h : ∀ v, f (k, v) = none) (v : α) :
    (SMap.set d m k v).filterMap f = m.filterMap f := by
  have herase : (SMap.erase k m).filterMap f = m.filterMap f := by
    rw [SMap.erase, List.filterMap_filter]
    refine List.filterMap_congr fun e _ => ?_
    by_cases he : e.1 = k
    · rw [if_neg (by simp [he]), show e = (k, e.2) from by rw [← he], h]
    · rw [if_pos (by simp [he])]
  have hinsert : ∀ r : SMap α, (SMap.insert k v r).filterMap f = r.filterMap f := by
    intro r
    induction r with
    | nil => rw [SMap.insert, List.filterMap_cons_none (h v)]
    | cons e r ih =>
      obtain ⟨j, u⟩ := e
      rw [SMap.insert]
      split
      · rw [List.filterMap_cons_none (h v)]
      · rw [List.filterMap_cons, List.filterMap_cons, ih]
  rw [SMap.set]
  split
  · exact herase
  · rw [hinsert, herase]

/-- A register of the block written leaves the signal map's entries. -/
theorem State.sig_wr (s : State) {k : Nat} (hk : isCan k = true) (w : Word) :
    (s.wr k w).listedBank BRG_SIG_SRC.off = s.listedBank BRG_SIG_SRC.off := by
  simp only [isCan, decide_eq_true_eq] at hk
  refine SMap.filterMap_set (fun v => if_neg fun hc => ?_) w
  have hoff : BRG_SIG_SRC.off < 0x1C0000 := by decide
  omega

/-- A chain that writes the registers listed and nothing else. -/
structure CanOp (s t : State) (l : List Nat) : Prop extends CanReg s t l where
  same : s.sameRegs t l
  sig : t.listedBank BRG_SIG_SRC.off = s.listedBank BRG_SIG_SRC.off
  away : ∀ k, isCan k = false → t.rd k = s.rd k

namespace CanOp

variable {s t u : State} {l l' : List Nat}

theorem refl (s : State) (l : List Nat) : CanOp s s l := ⟨CanReg.refl s l, fun _ _ => rfl, rfl, fun _ _ => rfl⟩

theorem trans (a : CanOp s t l) (b : CanOp t u l) : CanOp s u l :=
  ⟨a.toCanReg.trans b.toCanReg, fun k hk => (b.same k hk).trans (a.same k hk), b.sig.trans a.sig,
    fun k hk => (b.away k hk).trans (a.away k hk)⟩

theorem mono (a : CanOp s t l) (h : ∀ k ∈ l, k ∈ l') : CanOp s t l' := ⟨a.toCanReg.mono h, fun k hk => a.same k fun hm => hk (h k hm), a.sig, a.away⟩

theorem wr (s : State) {k : Nat} (w : Word) (hk : isCan k = true) (hl : k ∈ l) : CanOp s (s.wr k w) l :=
  ⟨⟨Eff.wr s w (isCan_pend hk) hl, rfl⟩, fun _ hj => s.rd_wr_ne w fun he => hj (he ▸ hl), s.sig_wr hk w,
    fun _ hj => s.rd_wr_ne w fun he => Bool.false_ne_true (hj.symm.trans (he ▸ hk))⟩

theorem p (s : State) (f : FRef) (v : Nat) (hk : isCan f.off = true) (hl : f.off ∈ l) : CanOp s (s.p f v) l := wr s _ hk hl

theorem count (s : State) {k : Nat} (h : (s.rd k).toNat + 1 < 0xFFFFFFFF) (hk : isCan k = true) (hl : k ∈ l) : CanOp s (s.count k) l := by
  rw [s.count_eq k h]
  exact wr s _ hk hl

theorem sigEntries (h : CanOp s t l) (dir : Bool) (kind unit obj : Nat) : t.sigEntries dir kind unit obj = s.sigEntries dir kind unit obj := by
  rw [State.sigEntries, State.sigEntries, h.sig]

theorem g (h : CanOp s t l) {f : FRef} (hf : f.off ∉ l) : t.g f = s.g f := by rw [State.g, State.g, h.same _ hf]

theorem flag (h : CanOp s t l) {f : FRef} (hf : f.off ∉ l) : t.flag f = s.flag f := by rw [State.flag, State.flag, h.g hf]

end CanOp

/-- An entry of an indexed register of another block. -/
theorem isCan_else {off : Nat} (h : off < 0x1C0000) (i : Nat) : isCan (bankKey off i) = false := by
  have hmod : bankKey off i % 2 ^ 22 = off % 2 ^ 22 := by rw [bankKey, Nat.add_mul_mod_self_right]
  rw [isCan, hmod]
  exact decide_eq_false (by omega)

/-- The signal map and the tunnels stand beside the block. -/
theorem CanOp.canTunnel {s t : State} {l : List Nat} (h : CanOp s t l) (n o : Nat) : t.canTunnel n o = s.canTunnel n o := by
  have hg : ∀ (f : FRef) (i : Nat), f.off < 0x1C0000 → t.g (f.at i) = s.g (f.at i) := fun f i hf => by
    rw [State.g, State.g, h.away (f.at i).off (isCan_else hf i)]
  unfold State.canTunnel
  congr 1
  funext i
  rw [State.flag_of_g (hg BRG_TUN_CFG.VALID i (by decide)), hg BRG_TUN_CFG.KIND i (by decide), hg BRG_TUN_LOCAL.A i (by decide),
    hg BRG_TUN_LOCAL.B i (by decide), hg BRG_TUN_LOCAL.C i (by decide)]

/-! ### A controller's record -/

theorem State.setCan_canc (s : State) (n : Nat) (c : Can) : (s.setCan n c).canc n = c := Laws.get_set_same _ n c

theorem State.setCan_eff (s : State) (n : Nat) (c : Can) (l : List Nat) : Eff s (s.setCan n c) l := Eff.of_regs l

theorem State.canc_of_can {s t : State} (h : t.can = s.can) (n : Nat) : t.canc n = s.canc n := by rw [State.canc, State.canc, h]

/-! ### Fabric time -/

theorem State.fns_congr {s t : State} (hc : t.clep = s.clep) (h : t.rd64 TIME_EPOCH_LO.off = s.rd64 TIME_EPOCH_LO.off) : t.fns = s.fns := by
  rw [State.fns, State.fns, State.epochSec, State.epochSec, hc, h]

theorem Eff.fns {s t : State} {l : List Nat} (h : Eff s t l) (hc : t.clep = s.clep) (h1 : TIME_EPOCH_LO.off ∉ l) (h2 : TIME_EPOCH_LO.off + 4 ∉ l) :
    t.fns = s.fns := State.fns_congr hc (State.rd64_congr (h.word h1 (by decide)) (h.word h2 (by decide)))

/-! ### Events and outcomes (R357, R364) -/

theorem canSat (n : Fin 8) : satKey (CAN_EVT_CNT.off n.val) = CAN_SAT.off n.val ∧ satKey (CAN_TX_FAIL.off n.val) = CAN_SAT.off n.val ∧
    satKey (CAN_CANCEL_CNT.off n.val) = CAN_SAT.off n.val ∧ satKey (CAN_BUSOFF_CNT.off n.val) = CAN_SAT.off n.val ∧
    satKey (CAN_CFGERR_CNT.off n.val) = CAN_SAT.off n.val := by
  revert n
  decide +kernel

theorem evCan_lt (n : Fin 8) : evCan n.val < 512 := by
  rw [evCan]
  omega

/-- The registers that every event of a controller may change beside Sump's. -/
abbrev canEvRegs (n : Nat) : List Nat := [CAN_EVT_CNT.off n, CAN_SAT.off n]

theorem State.canRaise_leaves (s : State) (n : Fin 8) {cls : Nat} (hc : cls < 4) : CanReg s (s.canRaise n.val cls) (canEvRegs n.val) ∧
    (s.canRaise n.val cls).evPend (evCan n.val) = true ∧ cls ≤ (s.canRaise n.val cls).evKept (evCan n.val) := by
  have hkey := isCan_pend (isCan_reg n (d := 0x58) (by decide))
  have hsat := isCan_pend (isCan_reg n (d := 0x20) (by decide))
  have hk : CanReg s (s.count (CAN_EVT_CNT.off n.val)) (canEvRegs n.val) :=
    CanReg.countAny s (by simp only [CAN_EVT_CNT.off]; omega) hkey (by rw [(canSat n).1]; exact hsat) List.mem_cons_self
      (by rw [(canSat n).1]; simp)
  unfold State.canRaise
  generalize s.count (CAN_EVT_CNT.off n.val) = a at *
  exact ⟨hk.trans (CanReg.raise a (evCan_lt n) hc _), a.raise_pend cls (evCan_lt n), a.raise_kept cls (evCan_lt n)⟩

/-- A counter of a controller counted, whatever it holds. -/
theorem State.count_can (s : State) (n : Fin 8) {d : Nat} (hd : d < 0x2000) (hs : satKey (0x1C0000 + d + n.val * 0x2000) = CAN_SAT.off n.val) :
    CanReg s (s.count (0x1C0000 + d + n.val * 0x2000)) [0x1C0000 + d + n.val * 0x2000, CAN_SAT.off n.val] := by
  have hkey := isCan_pend (isCan_reg n hd)
  have hsat := isCan_pend (isCan_reg n (d := 0x20) (by decide))
  exact CanReg.countAny s (by omega) hkey (by rw [hs]; exact hsat) List.mem_cons_self (by rw [hs]; simp)

/-- The place of an object's status. -/
abbrev objStat (n o : Nat) : Nat := bankKey (CAN_OBJ_STAT.off n) o

/-- The registers that an outcome other than OK may change beside Sump's. -/
abbrev lastRegs (n o : Nat) : List Nat := objStat n o :: CAN_TX_FAIL.off n :: canEvRegs n

theorem objStat_notEvent (n : Fin 8) (o : Nat) : objStat n.val o ∉ canEvRegs n.val := bank_notMem n _ o (l := [0x58, 0x20]) (by decide)

theorem State.setLast_ok (s : State) (n o : Nat) : s.setLast n o 1 = s.p ((CAN_OBJ_STAT.LAST n).at o) 1 := rfl

theorem State.setLast_leaves (s : State) (n : Fin 8) (o : Nat) {v : Nat} (hv : v ≠ 1) (h8 : v < 8) :
    CanReg s (s.setLast n.val o v) (lastRegs n.val o) ∧ (s.setLast n.val o v).g ((CAN_OBJ_STAT.LAST n.val).at o) = v ∧
      (s.setLast n.val o v).evPend (evCan n.val) = true ∧
      (∀ f : FRef, f.off = objStat n.val o → ((CAN_OBJ_STAT.LAST n.val).at o).sep f = true → (s.setLast n.val o v).g f = s.g f) ∧
      ((s.rd (CAN_TX_FAIL.off n.val)).toNat + 1 < 0xFFFFFFFF →
        ((s.setLast n.val o v).rd (CAN_TX_FAIL.off n.val)).toNat = (s.rd (CAN_TX_FAIL.off n.val)).toNat + 1) := by
  have hx : s.setLast n.val o v = ((s.p ((CAN_OBJ_STAT.LAST n.val).at o) v).count (CAN_TX_FAIL.off n.val)).canRaise n.val clEvent := by
    unfold State.setLast
    exact if_neg hv
  have hfix := isCan_fixed (isCan_objStat n o)
  have hfail := isCan_fixed (isCan_reg n (d := 0x48) (by decide))
  have hne : CAN_TX_FAIL.off n.val ≠ objStat n.val o := (List.ne_of_not_mem_cons (bank_notMem n _ o (l := [0x48]) (by decide))).symm
  have hk := CanReg.mono (l' := lastRegs n.val o) (CanOp.p s ((CAN_OBJ_STAT.LAST n.val).at o) v (l := [objStat n.val o]) (isCan_objStat n o)
    List.mem_cons_self).toCanReg (by simp)
  have hg := s.g_p_fit (f := (CAN_OBJ_STAT.LAST n.val).at o) (v := v) h8 (by simp [FRef.at])
  have hsep : ∀ f : FRef, ((CAN_OBJ_STAT.LAST n.val).at o).sep f = true → (s.p ((CAN_OBJ_STAT.LAST n.val).at o) v).g f = s.g f := fun f hf => s.g_p_sep v hf
  have hrd : (s.p ((CAN_OBJ_STAT.LAST n.val).at o) v).rd (CAN_TX_FAIL.off n.val) = s.rd (CAN_TX_FAIL.off n.val) := s.rd_p_ne _ v hne
  rw [hx]
  generalize s.p ((CAN_OBJ_STAT.LAST n.val).at o) v = a at *
  have hk2 := a.count_can n (d := 0x48) (by decide) (canSat n).2.1
  have hone := a.count_toNat (CAN_TX_FAIL.off n.val)
  have hst2 : objStat n.val o ∉ [CAN_TX_FAIL.off n.val, CAN_SAT.off n.val] := bank_notMem n _ o (l := [0x48, 0x20]) (by decide)
  have hg2 : ∀ f : FRef, f.off = objStat n.val o → (a.count (CAN_TX_FAIL.off n.val)).g f = a.g f :=
    fun f hf => hk2.toEff.g (by rw [hf]; exact hst2) (by rw [hf]; exact hfix)
  have hk2' : CanReg a (a.count (CAN_TX_FAIL.off n.val)) (lastRegs n.val o) := hk2.mono (by simp)
  generalize a.count (CAN_TX_FAIL.off n.val) = b at *
  obtain ⟨hk3, hpend, _⟩ := b.canRaise_leaves n clEvent_lt
  have hg3 : ∀ f : FRef, f.off = objStat n.val o → (b.canRaise n.val clEvent).g f = b.g f :=
    fun f hf => hk3.toEff.g (by rw [hf]; exact objStat_notEvent n o) (by rw [hf]; exact hfix)
  have hrd3 : (b.canRaise n.val clEvent).rd (CAN_TX_FAIL.off n.val) = b.rd (CAN_TX_FAIL.off n.val) :=
    hk3.toEff.word (can_notMem n.val (d := 0x48) (l := [0x58, 0x20]) (by decide)) hfail
  have hk3' : CanReg b (b.canRaise n.val clEvent) (lastRegs n.val o) := hk3.mono (by simp)
  generalize b.canRaise n.val clEvent = t at *
  refine ⟨(hk.trans hk2').trans hk3', by rw [hg3 _ rfl, hg2 _ rfl, hg], hpend, fun f hf hs => by rw [hg3 f hf, hg2 f hf, hsep f hs], fun hcnt => ?_⟩
  rw [hrd3, hone (by rw [hrd]; exact hcnt), hrd]

/-! ### Error counts (R350, R359) -/

/-- STATE as TEC and REC give it. -/
theorem State.canErr_leaves (s : State) (n : Fin 8) : CanOp s (s.canErr n.val) [CAN_STAT.off n.val] ∧
    (s.canErr n.val).g (CAN_STAT.TEC n.val) = s.g (CAN_STAT.TEC n.val) ∧ (s.canErr n.val).g (CAN_STAT.REC n.val) = s.g (CAN_STAT.REC n.val) ∧
    (s.canErr n.val).canState n.val = if s.canState n.val = csActive ∨ s.canState n.val = csPassive then
      errState (s.g (CAN_STAT.TEC n.val)) (s.g (CAN_STAT.REC n.val)) else s.canState n.val := by
  unfold State.canErr
  split
  · have herr : errState (s.g (CAN_STAT.TEC n.val)) (s.g (CAN_STAT.REC n.val)) < 8 := by
      unfold errState
      split <;> decide
    generalize errState (s.g (CAN_STAT.TEC n.val)) (s.g (CAN_STAT.REC n.val)) = v at *
    exact ⟨CanOp.p s _ v (isCan_stat n) List.mem_cons_self, s.g_p_sep v (by simp [FRef.sep]), s.g_p_sep v (by simp [FRef.sep]),
      s.g_p_fit (f := CAN_STAT.STATE n.val) herr (by simp)⟩
  · exact ⟨CanOp.refl s _, rfl, rfl, rfl⟩

theorem State.rec_lt (s : State) (n : Nat) : s.g (CAN_STAT.REC n) < 256 := FRef.get_lt _ _

theorem State.tec_lt (s : State) (n : Nat) : s.g (CAN_STAT.TEC n) < 256 := FRef.get_lt _ _

theorem State.canTec_low (s : State) (n : Fin 8) {tec : Nat} (h : tec ≤ 255) : CanOp s (s.canTec n.val tec) [CAN_STAT.off n.val] ∧
    (s.canTec n.val tec).g (CAN_STAT.TEC n.val) = tec ∧
    (s.canTec n.val tec).canState n.val = if s.canState n.val = csActive ∨ s.canState n.val = csPassive then
      errState tec (s.g (CAN_STAT.REC n.val)) else s.canState n.val := by
  have hx : s.canTec n.val tec = (s.p (CAN_STAT.TEC n.val) tec).canErr n.val := by
    unfold State.canTec
    exact if_neg (by omega)
  have hk : CanOp s (s.p (CAN_STAT.TEC n.val) tec) [CAN_STAT.off n.val] :=
    CanOp.p s _ tec (isCan_stat n) List.mem_cons_self
  have htec := s.g_p_fit (f := CAN_STAT.TEC n.val) (v := tec) (by simp only []; omega) (by simp)
  have hrec := s.g_p_sep (f := CAN_STAT.TEC n.val) (g := CAN_STAT.REC n.val) tec (by simp [FRef.sep])
  have hst : (s.p (CAN_STAT.TEC n.val) tec).canState n.val = s.canState n.val :=
    s.g_p_sep (f := CAN_STAT.TEC n.val) (g := CAN_STAT.STATE n.val) tec (by simp [FRef.sep])
  rw [hx]
  generalize s.p (CAN_STAT.TEC n.val) tec = a at *
  obtain ⟨hk2, htec2, _, hst2⟩ := a.canErr_leaves n
  exact ⟨hk.trans hk2, htec2.trans htec, by rw [hst2, hst, htec, hrec]⟩

theorem State.canTec_high (s : State) (n : Fin 8) {tec : Nat} (h : 255 < tec) :
    CanReg s (s.canTec n.val tec) (CAN_STAT.off n.val :: CAN_BUSOFF_CNT.off n.val :: canEvRegs n.val) ∧
    (s.canTec n.val tec).g (CAN_STAT.TEC n.val) = 255 ∧ (s.canTec n.val tec).canState n.val = csBusOff ∧
    (s.canTec n.val tec).evPend (evCan n.val) = true ∧ clDegraded ≤ (s.canTec n.val tec).evKept (evCan n.val) ∧
    ((s.rd (CAN_BUSOFF_CNT.off n.val)).toNat + 1 < 0xFFFFFFFF →
      ((s.canTec n.val tec).rd (CAN_BUSOFF_CNT.off n.val)).toNat = (s.rd (CAN_BUSOFF_CNT.off n.val)).toNat + 1) := by
  have hx : s.canTec n.val tec = ((((s.p (CAN_STAT.TEC n.val) 255).p (CAN_STAT.STATE n.val) csBusOff).count (CAN_BUSOFF_CNT.off n.val)).canRaise n.val
      clDegraded) := by
    unfold State.canTec
    exact if_pos h
  have hfix := isCan_fixed (isCan_stat n)
  have hcfix := isCan_fixed (isCan_reg n (d := 0x40) (by decide))
  obtain ⟨a, ha⟩ : ∃ a, (s.p (CAN_STAT.TEC n.val) 255).p (CAN_STAT.STATE n.val) csBusOff = a := ⟨_, rfl⟩
  have hk : CanOp s a [CAN_STAT.off n.val] := ha ▸ (CanOp.p s (CAN_STAT.TEC n.val) 255 (isCan_stat n) List.mem_cons_self).trans
    (CanOp.p _ (CAN_STAT.STATE n.val) csBusOff (isCan_stat n) List.mem_cons_self)
  have htec : a.g (CAN_STAT.TEC n.val) = 255 := by
    rw [← ha, State.g_p_sep _ _ (by simp [FRef.sep])]
    exact s.g_p_fit (f := CAN_STAT.TEC n.val) (by simp) (by simp)
  have hst : a.canState n.val = csBusOff := by
    rw [← ha]
    exact State.g_p_fit _ (f := CAN_STAT.STATE n.val) (by simp [csBusOff]) (by simp)
  have hrd : a.rd (CAN_BUSOFF_CNT.off n.val) = s.rd (CAN_BUSOFF_CNT.off n.val) :=
    hk.same _ (by simp only [List.mem_singleton, CAN_BUSOFF_CNT.off, CAN_STAT.off]; omega)
  rw [hx, ha]
  have hk2 := a.count_can n (d := 0x40) (by decide) (canSat n).2.2.2.1
  have hone := a.count_toNat (CAN_BUSOFF_CNT.off n.val)
  have hg2 : ∀ f : FRef, f.off = CAN_STAT.off n.val → (a.count (CAN_BUSOFF_CNT.off n.val)).g f = a.g f :=
    fun f hf => hk2.toEff.g (by rw [hf]; exact can_notMem n.val (d := 4) (l := [0x40, 0x20]) (by decide)) (by rw [hf]; exact hfix)
  have hk2' : CanReg a (a.count (CAN_BUSOFF_CNT.off n.val)) (CAN_STAT.off n.val :: CAN_BUSOFF_CNT.off n.val :: canEvRegs n.val) := hk2.mono (by simp)
  generalize a.count (CAN_BUSOFF_CNT.off n.val) = b at *
  obtain ⟨hk3, hpend, hkept⟩ := b.canRaise_leaves n clDegraded_lt
  have hg3 : ∀ f : FRef, f.off = CAN_STAT.off n.val → (b.canRaise n.val clDegraded).g f = b.g f :=
    fun f hf => hk3.toEff.g (by rw [hf]; exact can_notMem n.val (d := 4) (l := [0x58, 0x20]) (by decide))
      (by rw [hf]; exact hfix)
  have hrd3 : (b.canRaise n.val clDegraded).rd (CAN_BUSOFF_CNT.off n.val) = b.rd (CAN_BUSOFF_CNT.off n.val) :=
    hk3.toEff.word (can_notMem n.val (d := 0x40) (l := [0x58, 0x20]) (by decide)) hcfix
  have hk3' : CanReg b (b.canRaise n.val clDegraded) (CAN_STAT.off n.val :: CAN_BUSOFF_CNT.off n.val :: canEvRegs n.val) := hk3.mono (by simp)
  generalize b.canRaise n.val clDegraded = t at *
  refine ⟨((hk.toCanReg.mono (by simp)).trans hk2').trans hk3', by rw [hg3 _ rfl, hg2 _ rfl, htec], (hg3 _ rfl).trans ((hg2 _ rfl).trans hst), hpend, hkept,
    fun hcnt => ?_⟩
  rw [hrd3, hone (by rw [hrd]; exact hcnt), hrd]

end Sys2Proof.Machine
end

section
/-! The live copy of a CAN object (R352): sixteen words that hold its bytes. -/

namespace Sys2Proof.Machine

/- One evaluation after another: each of them, left to itself, would hold a thread. -/
set_option Elab.async false

/-! ### Bytes of words -/

theorem slice_drop (l : List Byte) (j i n : Nat) : slice (l.drop j) i n = slice l (j + i) n := by
  simp only [slice, List.drop_drop]

theorem bytesLE_natLE (l : List Byte) : bytesLE l.length (natLE l) = l := by
  induction l with
  | nil => rfl
  | cons b l ih =>
    have hb := b.isLt
    have hmod : BitVec.ofNat 8 (b.toNat + 256 * natLE l) = b := by
      apply BitVec.eq_of_toNat_eq
      rw [BitVec.toNat_ofNat]
      omega
    have hdiv : (b.toNat + 256 * natLE l) / 256 = natLE l := by omega
    rw [List.length_cons, natLE, bytesLE_succ, hmod, hdiv, ih]

/-- A word of four bytes gives them back. -/
theorem bytesLE_slice (l : List Byte) (i : Nat) : bytesLE 4 (BitVec.ofNat 32 (natLE (slice l i 4))).toNat = slice l i 4 := by
  have hlt := natLE_lt (slice l i 4)
  have hb := bytesLE_natLE (slice l i 4)
  rw [slice_length] at hlt hb
  rw [BitVec.toNat_ofNat, Nat.mod_eq_of_lt (Nat.lt_of_lt_of_eq hlt (by decide)), hb]

/-- The words that hold a list's bytes, read in order, begin with the list. -/
theorem slices_take (m : Nat) : ∀ l : List Byte, l.length ≤ 4 * m → (((List.range m).map (fun k => slice l (4 * k) 4)).flatten).take l.length = l := by
  induction m with
  | zero =>
    intro l h
    rw [List.eq_nil_of_length_eq_zero (by omega : l.length = 0)]
    rfl
  | succ m ih =>
    intro l h
    have htail : ((List.range m).map (fun k => slice l (4 * (k + 1)) 4)) = (List.range m).map (fun k => slice (l.drop 4) (4 * k) 4) := by
      refine List.map_congr_left fun k _ => ?_
      rw [slice_drop]
      congr 1
      omega
    have hcons : ((List.range (m + 1)).map (fun k => slice l (4 * k) 4)).flatten =
        slice l 0 4 ++ ((List.range m).map (fun k => slice (l.drop 4) (4 * k) 4)).flatten := by
      rw [List.range_succ_eq_map, List.map_cons, List.map_map, List.flatten_cons, ← htail]
      rfl
    have ih' := ih (l.drop 4) (by rw [List.length_drop]; omega)
    rw [hcons]
    generalize ((List.range m).map (fun k => slice (l.drop 4) (4 * k) 4)).flatten = F at *
    by_cases h4 : 4 ≤ l.length
    · have hs : slice l 0 4 = l.take 4 := by simp [slice, List.length_take, Nat.min_eq_left h4]
      rw [hs, List.take_append, List.take_of_length_le (by simp), List.length_take, Nat.min_eq_left h4, ← List.length_drop, ih', List.take_append_drop]
    · have hs : slice l 0 4 = l ++ List.replicate (4 - l.length) 0 := by simp [slice, List.take_of_length_le (by omega : l.length ≤ 4)]
      rw [hs, List.append_assoc, List.take_left']
      rfl

/-! ### Words written one after another -/

/-- What writing a word at each of the first places leaves. -/
theorem State.foldl_wr (K : Nat → Nat) (W : Nat → Word) (hK : ∀ i j, K i = K j → i = j) (s : State) (m : Nat) :
    (∀ k, k < m → ((List.range m).foldl (fun s k => s.wr (K k) (W k)) s).rd (K k) = W k) ∧
    (∀ k, k ∉ (List.range m).map K → ((List.range m).foldl (fun s k => s.wr (K k) (W k)) s).rd k = s.rd k) := by
  induction m with
  | zero => exact ⟨fun k hk => absurd hk (Nat.not_lt_zero k), fun _ _ => rfl⟩
  | succ m ih =>
    obtain ⟨hin, hout⟩ := ih
    rw [List.range_succ, List.foldl_append, List.foldl_cons, List.foldl_nil]
    generalize (List.range m).foldl (fun s k => s.wr (K k) (W k)) s = t at *
    refine ⟨fun k hk => ?_, fun k hk => ?_⟩
    · by_cases he : k = m
      · rw [he, State.rd_wr_same]
      · rw [State.rd_wr_ne _ _ fun hc => he (hK _ _ hc), hin k (by omega)]
    · rw [List.map_append, List.mem_append, not_or] at hk
      rw [State.rd_wr_ne _ _ fun hc => hk.2 (by rw [hc]; exact List.mem_cons_self), hout k hk.1]

theorem CanOp.foldl {K : Nat → Nat} {W : Nat → Word} {l : List Nat} {m : Nat} (h : ∀ k, k < m → isCan (K k) = true ∧ K k ∈ l) (s : State) :
    CanOp s ((List.range m).foldl (fun s k => s.wr (K k) (W k)) s) l := by
  induction m with
  | zero => exact CanOp.refl s l
  | succ m ih =>
    rw [List.range_succ, List.foldl_append]
    exact (ih fun k hk => h k (by omega)).trans (CanOp.wr _ _ (h m (Nat.lt_succ_self m)).1 (h m (Nat.lt_succ_self m)).2)

/-! ### The live copy -/

/-- The registers of an object's live copy. -/
abbrev liveRegs (n o : Nat) : List Nat := (List.range 16).map (fun k => CAN_OBJ_DATA.off n o k)

theorem live_key (n : Fin 8) {o k : Nat} (ho : o < 64) (hk : k < 16) : isCan (CAN_OBJ_DATA.off n.val o k) = true := by
  have h := isCan_reg n (d := 0x1000 + o * 0x40 + k * 4) (by omega)
  rwa [show 0x1C0000 + (0x1000 + o * 0x40 + k * 4) + n.val * 0x2000 = CAN_OBJ_DATA.off n.val o k by simp only [CAN_OBJ_DATA.off]; omega] at h

theorem live_inj (n o : Nat) (i j : Nat) (h : CAN_OBJ_DATA.off n o i = CAN_OBJ_DATA.off n o j) : i = j := by
  simp only [CAN_OBJ_DATA.off] at h
  omega

theorem State.objLive_length (s : State) (n o : Nat) : (s.objLive n o).length = 64 := by
  simp [State.objLive, bytesLE_length, List.map_const', Function.comp_def]

/-- Bytes stored in a live copy. -/
theorem State.setObjLive_leaves (s : State) (n : Fin 8) {o : Nat} (ho : o < 64) {l : List Byte} (hl : l.length ≤ 64) :
    CanOp s (s.setObjLive n.val o l) (liveRegs n.val o) ∧ ((s.setObjLive n.val o l).objLive n.val o).take l.length = l := by
  have hw : cstWords l.length ≤ 16 := by
    rw [cstWords]
    omega
  obtain ⟨hin, _⟩ := s.foldl_wr (fun k => CAN_OBJ_DATA.off n.val o k) (fun k => BitVec.ofNat 32 (natLE (slice l (4 * k) 4))) (live_inj n.val o) (cstWords l.length)
  have hk : CanOp s (s.setObjLive n.val o l) (liveRegs n.val o) := CanOp.foldl (fun k hk =>
    ⟨live_key n ho (by omega), List.mem_map_of_mem (List.mem_range.2 (by omega))⟩) s
  refine ⟨hk, ?_⟩
  unfold State.setObjLive State.objLive
  generalize (List.range (cstWords l.length)).foldl _ s = t at *
  have hsplit : List.range 16 = List.range (cstWords l.length) ++ (List.range (16 - cstWords l.length)).map (fun k => cstWords l.length + k) := by
    rw [← List.range_add, Nat.add_sub_cancel' hw]
  have hfirst : (List.range (cstWords l.length)).map (fun k => bytesLE 4 (t.rd (CAN_OBJ_DATA.off n.val o k)).toNat) =
      (List.range (cstWords l.length)).map (fun k => slice l (4 * k) 4) := by
    refine List.map_congr_left fun k hk => ?_
    rw [hin k (List.mem_range.1 hk), bytesLE_slice]
  have hlen : l.length ≤ (((List.range (cstWords l.length)).map (fun k => slice l (4 * k) 4)).flatten).length := by
    simp [slice_length, List.map_const', Function.comp_def, cstWords]
    omega
  rw [hsplit, List.map_append, hfirst, List.flatten_append, List.take_append_of_le_length hlen]
  exact slices_take _ l (by rw [cstWords]; omega)

/-- A whole live copy stored. -/
theorem State.setObjLive_whole (s : State) (n : Fin 8) {o : Nat} (ho : o < 64) {l : List Byte} (hl : l.length = 64) :
    CanOp s (s.setObjLive n.val o l) (liveRegs n.val o) ∧ (s.setObjLive n.val o l).objLive n.val o = l := by
  obtain ⟨hk, hlive⟩ := s.setObjLive_leaves n ho (Nat.le_of_eq hl)
  refine ⟨hk, ?_⟩
  rw [hl] at hlive
  rwa [List.take_of_length_le (by rw [State.objLive_length])] at hlive

theorem State.objLive_congr {s t : State} {n o : Nat} (h : ∀ k, k < 16 → t.rd (CAN_OBJ_DATA.off n o k) = s.rd (CAN_OBJ_DATA.off n o k)) :
    t.objLive n o = s.objLive n o := by
  rw [State.objLive, State.objLive]
  exact congrArg List.flatten (List.map_congr_left fun k hk => by rw [h k (List.mem_range.1 hk)])

end Sys2Proof.Machine
end

section
/-! PROOF of CanControllers (R350, R351): reception. -/

namespace Sys2Proof.Machine

/- One evaluation after another: each of them, left to itself, would hold a thread. -/
set_option Elab.async false

section
variable {n : Fin 8} {s t : State} {l : List Nat}

/-- The lists of places that a controller's registers take in a chain. -/
theorem CanOp.objects (h : CanOp s t l) (hl : ∀ d ∈ [0x104, 0x108, 0x10C], ∀ o, bankKey (0x1C0000 + d + n.val * 0x2000) o ∉ l) :
    (∀ o, t.objRx n.val o = s.objRx n.val o) ∧ (∀ o f, t.objMatch n.val o f = s.objMatch n.val o f) := by
  have hcfg := hl 0x104 (by decide)
  have hid := hl 0x108 (by decide)
  have hmask := hl 0x10C (by decide)
  refine ⟨fun o => ?_, fun o f => ?_⟩
  · rw [State.objRx, State.objRx, h.flag (f := (CAN_OBJ_CFG.EN n.val).at o) (hcfg o), h.flag (f := (CAN_OBJ_CFG.TX n.val).at o) (hcfg o)]
  · rw [State.objMatch, State.objMatch, h.g (f := (CAN_OBJ_ID.ID n.val).at o) (hid o), h.g (f := (CAN_OBJ_MASK.MASK n.val).at o) (hmask o),
      h.flag (f := (CAN_OBJ_ID.IDE n.val).at o) (hid o)]

/-! ### A frame with an error (R350) -/

theorem exec_canFrameReceive (f : CanFrame) (age : BitVec 24) (err : Fin 9) :
    exec (.canFrameReceive n f age err) s = .next (s.finish (canFrameReceive n f age err s)) := by rfl

theorem canFrameReceive_error {f : CanFrame} {age : BitVec 24} {err : Fin 9} (hs : s.resetReq = none) (hon : s.domOn 11 = true)
    (hinit : s.canMode n.val ≠ cmInit) (hloop : s.canMode n.val ≠ cmLoop) (hoff : s.canState n.val ≠ csBusOff) (hrec : s.canState n.val ≠ csRecovering)
    (herr : err ≠ 0) :
    ∃ t, exec (.canFrameReceive n f age err) s = .next t ∧ t.g (CAN_STAT.REC n.val) = min 255 (s.g (CAN_STAT.REC n.val) + err.val) ∧
      s.sameRegs t [CAN_STAT.off n.val] ∧ t.can = s.can ∧ t.pts = s.pts := by
  have hx : canFrameReceive n f age err s = (s.p (CAN_STAT.REC n.val) (min 255 (s.g (CAN_STAT.REC n.val) + err.val))).canErr n.val := by
    unfold canFrameReceive
    dsimp only
    rw [if_neg (by simp [hon, hinit, hloop, hoff, hrec]), if_pos herr]
  have hval : min 255 (s.g (CAN_STAT.REC n.val) + err.val) < 256 := Nat.lt_of_le_of_lt (Nat.min_le_left _ _) (by decide)
  generalize min 255 (s.g (CAN_STAT.REC n.val) + err.val) = v at *
  have hk : CanOp s (s.p (CAN_STAT.REC n.val) v) [CAN_STAT.off n.val] := CanOp.p s _ v (isCan_stat n) List.mem_cons_self
  have hg := s.g_p_fit (f := CAN_STAT.REC n.val) (v := v) hval (by simp)
  rw [exec_canFrameReceive, hx]
  generalize s.p (CAN_STAT.REC n.val) v = a at *
  obtain ⟨hk2, _, hrec2, _⟩ := a.canErr_leaves n
  have hall := hk.trans hk2
  exact ⟨_, congrArg _ (hall.finish hs), hrec2.trans hg, hall.same, hall.can, hall.pts⟩

/-! ### A good frame (R351) -/

/-- A 64-bit traffic counter of a controller counted (R44). -/
theorem State.traffic_canReg (s : State) {d : Nat} (hd : d + 4 < 0x2000) :
    CanOp s (s.traffic (0x1C0000 + d + n.val * 0x2000) 1) [0x1C0000 + d + n.val * 0x2000, 0x1C0000 + d + n.val * 0x2000 + 4] ∧
      (s.traffic (0x1C0000 + d + n.val * 0x2000) 1).rd64 (0x1C0000 + d + n.val * 0x2000) = (s.rd64 (0x1C0000 + d + n.val * 0x2000) + 1) % 2 ^ 64 := by
  have h1 := isCan_reg n (d := d) (by omega)
  have h2 : isCan (0x1C0000 + d + n.val * 0x2000 + 4) = true := by
    have h := isCan_reg n (d := d + 4) hd
    rwa [show 0x1C0000 + (d + 4) + n.val * 0x2000 = 0x1C0000 + d + n.val * 0x2000 + 4 by omega] at h
  unfold State.traffic
  have hlt : (s.rd64 (0x1C0000 + d + n.val * 0x2000) + 1) % 2 ^ 64 < 2 ^ 64 := Nat.mod_lt _ (by decide)
  generalize (s.rd64 (0x1C0000 + d + n.val * 0x2000) + 1) % 2 ^ 64 = v at *
  generalize 0x1C0000 + d + n.val * 0x2000 = k at *
  refine ⟨?_, s.rd64_wr64_fit hlt⟩
  unfold State.wr64
  exact (CanOp.wr s _ h1 List.mem_cons_self).trans (CanOp.wr _ _ h2 (List.mem_cons_of_mem _ List.mem_cons_self))

/-- The registers that a good frame changes before it is stored. -/
abbrev rxRegs (n : Nat) : List Nat := [CAN_RX_FRAMES_LO.off n, CAN_RX_FRAMES_HI.off n, CAN_STAT.off n]

/-- A good frame counted. -/
def State.canCounted (s : State) (i : Nat) : State :=
  ((s.traffic (CAN_RX_FRAMES_LO.off i) 1).p (CAN_STAT.REC i) (recDown (s.g (CAN_STAT.REC i)))).canErr i

theorem rxFrames_hi (n : Nat) : CAN_RX_FRAMES_LO.off n + 4 = CAN_RX_FRAMES_HI.off n := by
  simp only [CAN_RX_FRAMES_LO.off, CAN_RX_FRAMES_HI.off]
  omega

theorem State.canCounted_leaves (s : State) (n : Fin 8) : CanOp s (s.canCounted n.val) (rxRegs n.val) ∧
    (s.canCounted n.val).rd64 (CAN_RX_FRAMES_LO.off n.val) = (s.rd64 (CAN_RX_FRAMES_LO.off n.val) + 1) % 2 ^ 64 := by
  obtain ⟨hk, hcnt⟩ := State.traffic_canReg (n := n) s (d := 0x80) (by decide)
  have hk' : CanOp s (s.traffic (CAN_RX_FRAMES_LO.off n.val) 1) (rxRegs n.val) := CanOp.mono hk (by
    intro k hm
    rcases List.mem_cons.1 hm with he | hm
    · exact he ▸ List.mem_cons_self
    · rw [List.mem_singleton.1 hm]
      exact List.mem_cons_of_mem _ (List.mem_cons.2 (.inl (rxFrames_hi n.val))))
  have hcnt' : (s.traffic (CAN_RX_FRAMES_LO.off n.val) 1).rd64 (CAN_RX_FRAMES_LO.off n.val) = (s.rd64 (CAN_RX_FRAMES_LO.off n.val) + 1) % 2 ^ 64 := hcnt
  unfold State.canCounted
  generalize s.traffic (CAN_RX_FRAMES_LO.off n.val) 1 = a at *
  generalize recDown (s.g (CAN_STAT.REC n.val)) = v
  have hk2 : CanOp a (a.p (CAN_STAT.REC n.val) v) [CAN_STAT.off n.val] := CanOp.p a _ v (isCan_stat n) List.mem_cons_self
  generalize a.p (CAN_STAT.REC n.val) v = b at *
  have hk3 := hk2.trans (b.canErr_leaves n).1
  generalize b.canErr n.val = c at *
  have h1 : c.rd (CAN_RX_FRAMES_LO.off n.val) = a.rd (CAN_RX_FRAMES_LO.off n.val) := hk3.same _ (can_notMem n.val (d := 0x80) (l := [4]) (by decide))
  have h2 : c.rd (CAN_RX_FRAMES_HI.off n.val) = a.rd (CAN_RX_FRAMES_HI.off n.val) := hk3.same _ (can_notMem n.val (d := 0x84) (l := [4]) (by decide))
  rw [← rxFrames_hi] at h2
  exact ⟨hk'.trans (hk3.mono (by simp)), (State.rd64_congr h1 h2).trans hcnt'⟩

/-- A frame as its controller takes it in. -/
def canTaken (f : CanFrame) : CanFrame := { f with data := canData f }

theorem State.canRx_single {s a : State} {i o : Nat} {f : CanFrame} (hc : s.canCounted i = a)
    (hl : (List.range 64).filter (fun o => a.objRx i o && a.objMatch i o (canTaken f)) = [o]) (hheld : (a.canc i).held = []) (stamp : Nat) :
    s.canRx i f stamp = if a.flag ((CAN_OBJ_STAT.UNREAD i).at o) = false then a.canStore i o (canTaken f) stamp else a.count (CAN_RX_OVR.off i) := by
  unfold State.canCounted at hc
  unfold canTaken at hl ⊢
  unfold State.canRx
  dsimp only
  rw [hc, hl, if_neg (List.cons_ne_nil o []), hheld]
  by_cases hu : a.flag ((CAN_OBJ_STAT.UNREAD i).at o) = false
  · rw [if_pos hu, List.find?_cons_of_pos (by rw [hu]; rfl)]
  · rw [if_neg hu, List.find?_cons_of_neg (by simp [Bool.eq_true_of_not_eq_false hu])]
    rfl

theorem filter_single {p : Nat → Bool} {m o : Nat} (ho : o < m) (hp : p o = true) (h : ∀ k, k < m → k ≠ o → p k = false) :
    (List.range m).filter p = [o] := by
  have hcongr : (List.range m).filter p = (List.range m).filter (fun k => k == o) := List.filter_congr fun k hk => by
    by_cases he : k = o
    · rw [he, hp, beq_self_eq_true]
    · rw [h k (List.mem_range.1 hk) he, beq_eq_false_iff_ne.2 he]
  rw [hcongr, List.filter_beq, List.count_eq_one_of_mem List.nodup_range (List.mem_range.2 ho)]
  rfl

/-- The registers that storing a frame in an object changes. -/
abbrev storeRegs (n o : Nat) : List Nat :=
  [bankKey (CAN_OBJ_STAT.off n) o, bankKey (CAN_OBJ_STAMP_LO.off n) o, bankKey (CAN_OBJ_STAMP_HI.off n) o] ++ liveRegs n o

theorem dlcBytes_le (fdf : Bool) (d : Nat) : dlcBytes fdf d ≤ 64 := by
  unfold dlcBytes
  split
  · omega
  · split
    · omega
    · generalize d - 9 = k
      by_cases hk : k < 7
      · revert k
        decide
      · rw [List.getD_eq_default _ _ (by simpa using hk)]

theorem canData_length (f : CanFrame) : (canData f).length ≤ 64 := by
  unfold canData
  split
  · exact Nat.zero_le _
  · exact (List.length_take_le _ _).trans (dlcBytes_le _ _)

/-- A frame stored in an object's registers. -/
def State.canStored (s : State) (n o : Nat) (f : CanFrame) (stamp : Nat) : State :=
  ((((s.setObjLive n o f.data).p ((CAN_OBJ_STAT.DLC n).at o) f.dlc).pb ((CAN_OBJ_STAT.UNREAD n).at o) true).wr (bankKey (CAN_OBJ_STAMP_LO.off n) o)
    (BitVec.ofNat 32 stamp)).wr (bankKey (CAN_OBJ_STAMP_HI.off n) o) (BitVec.ofNat 32 (stamp / 2 ^ 32 % 2 ^ 16))

theorem State.canStore_plain {s a : State} {o : Nat} {f : CanFrame} {stamp : Nat} (ha : s.canStored n.val o f stamp = a)
    (hsig : a.sigEntries false 1 n.val o = []) (htun : a.canTunnel n.val o = none) : s.canStore n.val o f stamp = a := by
  have hup : a.signalUpdate 1 n.val o f.data stamp false = a := by
    rw [State.signalUpdate, hsig]
    rfl
  unfold State.canStored at ha
  have hdef : @State.canStore = @State.canStore := rfl
  conv at hdef => rhs; delta State.canStore
  obtain ⟨tunnel, htunnel⟩ : ∃ tunnel, tunnel = @State.canTunnel := ⟨_, rfl⟩
  rw [← htunnel] at htun hdef
  rw [hdef]
  dsimp only
  rw [ha, hup, hsig, if_pos rfl, htun]

theorem State.canStored_leaves (s : State) (n : Fin 8) {o : Nat} (ho : o < 64) {f : CanFrame} (hdata : f.data.length ≤ 64) (hdlc : f.dlc < 16) {stamp : Nat}
    (hstamp : stamp < 2 ^ 48) : CanOp s (s.canStored n.val o f stamp) (storeRegs n.val o) ∧
      ((s.canStored n.val o f stamp).objLive n.val o).take f.data.length = f.data ∧
      (s.canStored n.val o f stamp).flag ((CAN_OBJ_STAT.UNREAD n.val).at o) = true ∧ (s.canStored n.val o f stamp).g ((CAN_OBJ_STAT.DLC n.val).at o) = f.dlc ∧
      ((s.canStored n.val o f stamp).rd (bankKey (CAN_OBJ_STAMP_LO.off n.val) o)).toNat +
        2 ^ 32 * ((s.canStored n.val o f stamp).rd (bankKey (CAN_OBJ_STAMP_HI.off n.val) o)).toNat = stamp := by
  have hLO : isCan (bankKey (CAN_OBJ_STAMP_LO.off n.val) o) = true := isCan_bank n (d := 0x114) (by decide) o
  have hHI : isCan (bankKey (CAN_OBJ_STAMP_HI.off n.val) o) = true := isCan_bank n (d := 0x118) (by decide) o
  have hS := isCan_objStat n o
  have hSL : bankKey (CAN_OBJ_STAT.off n.val) o ≠ bankKey (CAN_OBJ_STAMP_LO.off n.val) o :=
    bankKey_ne (by simp only [CAN_OBJ_STAT.off]; omega) (by simp only [CAN_OBJ_STAMP_LO.off]; omega) (by simp only [CAN_OBJ_STAT.off, CAN_OBJ_STAMP_LO.off]; omega)
  have hSH : bankKey (CAN_OBJ_STAT.off n.val) o ≠ bankKey (CAN_OBJ_STAMP_HI.off n.val) o :=
    bankKey_ne (by simp only [CAN_OBJ_STAT.off]; omega) (by simp only [CAN_OBJ_STAMP_HI.off]; omega) (by simp only [CAN_OBJ_STAT.off, CAN_OBJ_STAMP_HI.off]; omega)
  have hLH : bankKey (CAN_OBJ_STAMP_LO.off n.val) o ≠ bankKey (CAN_OBJ_STAMP_HI.off n.val) o :=
    bankKey_ne (by simp only [CAN_OBJ_STAMP_LO.off]; omega) (by simp only [CAN_OBJ_STAMP_HI.off]; omega)
      (by simp only [CAN_OBJ_STAMP_LO.off, CAN_OBJ_STAMP_HI.off]; omega)
  have hlive : ∀ k, k < 16 → CAN_OBJ_DATA.off n.val o k < 2 ^ 22 := by
    intro k hk
    simp only [CAN_OBJ_DATA.off]
    omega
  obtain ⟨hk1, htake⟩ := s.setObjLive_leaves n ho hdata
  unfold State.canStored
  obtain ⟨a, ha⟩ : ∃ a, s.setObjLive n.val o f.data = a := ⟨_, rfl⟩
  rw [ha] at hk1 htake ⊢
  have hk2 := CanOp.p a ((CAN_OBJ_STAT.DLC n.val).at o) f.dlc (l := [bankKey (CAN_OBJ_STAT.off n.val) o]) hS List.mem_cons_self
  have hd2 := a.g_p_fit (f := (CAN_OBJ_STAT.DLC n.val).at o) (v := f.dlc) hdlc (by simp [FRef.at])
  obtain ⟨b, hb⟩ : ∃ b, a.p ((CAN_OBJ_STAT.DLC n.val).at o) f.dlc = b := ⟨_, rfl⟩
  rw [hb] at hk2 hd2 ⊢
  have hk3 := CanOp.p b ((CAN_OBJ_STAT.UNREAD n.val).at o) (b2n true) (l := [bankKey (CAN_OBJ_STAT.off n.val) o]) hS List.mem_cons_self
  have hu3 := b.flag_pb_self (f := (CAN_OBJ_STAT.UNREAD n.val).at o) true (by simp [FRef.at]) rfl
  have hd3 := b.g_pb_sep (f := (CAN_OBJ_STAT.UNREAD n.val).at o) (g := (CAN_OBJ_STAT.DLC n.val).at o) true (by simp [FRef.sep, FRef.at])
  rw [State.pb] at hu3 hd3 ⊢
  obtain ⟨c, hc⟩ : ∃ c, b.p ((CAN_OBJ_STAT.UNREAD n.val).at o) (b2n true) = c := ⟨_, rfl⟩
  rw [hc] at hk3 hu3 hd3 ⊢
  have hk4 := CanOp.wr c (BitVec.ofNat 32 stamp) (l := [bankKey (CAN_OBJ_STAMP_LO.off n.val) o]) hLO List.mem_cons_self
  have hl4 := c.rd_wr_same (bankKey (CAN_OBJ_STAMP_LO.off n.val) o) (BitVec.ofNat 32 stamp)
  obtain ⟨d, hd⟩ : ∃ d, c.wr (bankKey (CAN_OBJ_STAMP_LO.off n.val) o) (BitVec.ofNat 32 stamp) = d := ⟨_, rfl⟩
  rw [hd] at hk4 hl4 ⊢
  have hk5 := CanOp.wr d (BitVec.ofNat 32 (stamp / 2 ^ 32 % 2 ^ 16)) (l := [bankKey (CAN_OBJ_STAMP_HI.off n.val) o]) hHI List.mem_cons_self
  have hh5 := d.rd_wr_same (bankKey (CAN_OBJ_STAMP_HI.off n.val) o) (BitVec.ofNat 32 (stamp / 2 ^ 32 % 2 ^ 16))
  obtain ⟨t, ht⟩ : ∃ t, d.wr (bankKey (CAN_OBJ_STAMP_HI.off n.val) o) (BitVec.ofNat 32 (stamp / 2 ^ 32 % 2 ^ 16)) = t := ⟨_, rfl⟩
  rw [ht] at hk5 hh5 ⊢
  have hbc := hk2.trans hk3
  have hct : CanOp a t [bankKey (CAN_OBJ_STAT.off n.val) o, bankKey (CAN_OBJ_STAMP_LO.off n.val) o, bankKey (CAN_OBJ_STAMP_HI.off n.val) o] :=
    ((hbc.mono (by simp)).trans (hk4.mono (by simp))).trans (hk5.mono (by simp))
  have hlt : t.objLive n.val o = a.objLive n.val o := State.objLive_congr fun k hk => hct.same _ fun hm => by
    have hlo := hlive k hk
    have hb := bankKey_ge (CAN_OBJ_STAT.off n.val) o
    have hb1 := bankKey_ge (CAN_OBJ_STAMP_LO.off n.val) o
    have hb2 := bankKey_ge (CAN_OBJ_STAMP_HI.off n.val) o
    simp only [List.mem_cons, List.not_mem_nil, or_false] at hm
    omega
  have hstat : ∀ g : FRef, g.off = bankKey (CAN_OBJ_STAT.off n.val) o → t.g g = c.g g := fun g hg =>
    (hk5.g (by rw [hg]; simpa using hSH)).trans (hk4.g (by rw [hg]; simpa using hSL))
  refine ⟨(hk1.mono fun k hm => List.mem_append_right _ hm).trans (hct.mono fun k hm => List.mem_append_left _ hm), by rw [hlt, htake], ?_, ?_, ?_⟩
  · rw [State.flag_of_g (hstat _ rfl), hu3]
  · rw [hstat _ rfl, hd3, hd2]
  · rw [hh5, hk5.same _ (by simpa using hLH), hl4, BitVec.toNat_ofNat, BitVec.toNat_ofNat]
    omega

theorem State.objMatch_taken (s : State) (n o : Nat) (f : CanFrame) : s.objMatch n o (canTaken f) = s.objMatch n o f := by
  have hid : (canTaken f).id = f.id := rfl
  have hide : (canTaken f).ide = f.ide := rfl
  rw [State.objMatch, State.objMatch, hid, hide]

theorem State.sofStamp_lt (s : State) (age : Nat) : s.sofStamp age < 2 ^ 48 := wrapInt_lt 48 _

theorem canFrameReceive_good {o : Fin 64} {f : CanFrame} {age : BitVec 24} (hs : s.resetReq = none) (hon : s.domOn 11 = true)
    (hinit : s.canMode n.val ≠ cmInit) (hloop : s.canMode n.val ≠ cmLoop) (hoff : s.canState n.val ≠ csBusOff) (hrec : s.canState n.val ≠ csRecovering)
    (hfd : f.fdf = true → s.flag (CAN_CFG.FD n.val) = true) (hdlc : f.dlc < 16) (hrx : s.objRx n.val o.val = true) (hmatch : s.objMatch n.val o.val f = true)
    (hone : ∀ k, k < 64 → k ≠ o.val → s.objRx n.val k = false ∨ s.objMatch n.val k f = false) (hsig : s.sigEntries false 1 n.val o.val = [])
    (htun : s.canTunnel n.val o.val = none) (hheld : (s.canc n.val).held = []) (hovr : (s.rd (CAN_RX_OVR.off n.val)).toNat + 1 < 0xFFFFFFFF) :
    ∃ t, exec (.canFrameReceive n f age 0) s = .next t ∧
      t.rd64 (CAN_RX_FRAMES_LO.off n.val) = (s.rd64 (CAN_RX_FRAMES_LO.off n.val) + 1) % 2 ^ 64 ∧ t.can = s.can ∧ t.pts = s.pts ∧
      (s.flag ((CAN_OBJ_STAT.UNREAD n.val).at o.val) = false → (t.objLive n.val o.val).take (canData f).length = canData f ∧
        t.flag ((CAN_OBJ_STAT.UNREAD n.val).at o.val) = true ∧ t.g ((CAN_OBJ_STAT.DLC n.val).at o.val) = f.dlc ∧
        (t.rd (bankKey (CAN_OBJ_STAMP_LO.off n.val) o.val)).toNat +
          2 ^ 32 * (t.rd (bankKey (CAN_OBJ_STAMP_HI.off n.val) o.val)).toNat = s.sofStamp age.toNat ∧
        s.sameRegs t ([CAN_RX_FRAMES_LO.off n.val, CAN_RX_FRAMES_HI.off n.val, CAN_STAT.off n.val, bankKey (CAN_OBJ_STAT.off n.val) o.val,
          bankKey (CAN_OBJ_STAMP_LO.off n.val) o.val, bankKey (CAN_OBJ_STAMP_HI.off n.val) o.val] ++
          (List.range 16).map (fun k => CAN_OBJ_DATA.off n.val o.val k))) ∧
      (s.flag ((CAN_OBJ_STAT.UNREAD n.val).at o.val) = true → (t.rd (CAN_RX_OVR.off n.val)).toNat = (s.rd (CAN_RX_OVR.off n.val)).toNat + 1 ∧
        s.sameRegs t [CAN_RX_FRAMES_LO.off n.val, CAN_RX_FRAMES_HI.off n.val, CAN_STAT.off n.val, CAN_RX_OVR.off n.val]) := by
  have hx : canFrameReceive n f age 0 s = s.canRx n.val f (s.sofStamp age.toNat) := by
    unfold canFrameReceive
    dsimp only
    rw [if_neg (by simp [hon, hinit, hloop, hoff, hrec]), if_neg (by simp), if_neg (fun hc => by simp [hfd hc.1] at hc)]
  have hstamp := s.sofStamp_lt age.toNat
  generalize s.sofStamp age.toNat = stamp at *
  obtain ⟨hk, hcnt⟩ := s.canCounted_leaves n
  obtain ⟨a, ha⟩ : ∃ a, s.canCounted n.val = a := ⟨_, rfl⟩
  rw [ha] at hk hcnt
  obtain ⟨hrx', hmatch'⟩ := hk.objects (n := n) fun d hd i => bank_notMem n _ i (l := [0x80, 0x84, 4]) (by decide)
  have hstat : ∀ f : FRef, f.off = bankKey (CAN_OBJ_STAT.off n.val) o.val → a.flag f = s.flag f := fun f hf =>
    hk.flag (by rw [hf]; exact bank_notMem n _ o.val (l := [0x80, 0x84, 4]) (by decide))
  have hl : (List.range 64).filter (fun o => a.objRx n.val o && a.objMatch n.val o (canTaken f)) = [o.val] := by
    refine filter_single o.isLt ?_ fun k hk hne => ?_
    · rw [hrx', hmatch', hrx, State.objMatch_taken, hmatch]
      rfl
    · rw [hrx', hmatch', State.objMatch_taken, Bool.and_eq_false_iff]
      exact hone k hk hne
  have hx2 := State.canRx_single ha hl (by rw [State.canc_of_can hk.can, hheld]) stamp
  rw [hstat _ rfl] at hx2
  rw [exec_canFrameReceive, hx, hx2]
  by_cases hu : s.flag ((CAN_OBJ_STAT.UNREAD n.val).at o.val) = false
  · rw [if_pos hu]
    obtain ⟨hk2, htake, hunread, hd, hst⟩ := a.canStored_leaves n o.isLt (f := canTaken f) (canData_length f) hdlc hstamp
    obtain ⟨b, hb⟩ : ∃ b, a.canStored n.val o.val (canTaken f) stamp = b := ⟨_, rfl⟩
    rw [hb] at hk2 htake hunread hd hst
    have hall := (hk.mono (l' := rxRegs n.val ++ storeRegs n.val o.val) fun k hm => List.mem_append_left _ hm).trans
      (hk2.mono fun k hm => List.mem_append_right _ hm)
    rw [State.canStore_plain hb (by rw [hall.sigEntries, hsig]) (by rw [hall.canTunnel, htun])]
    have hlo : ∀ k, k < 0x1C1000 + n.val * 0x2000 → k ∉ storeRegs n.val o.val := by
      intro k hk hm
      have h1 := bankKey_ge (CAN_OBJ_STAT.off n.val) o.val
      have h2 := bankKey_ge (CAN_OBJ_STAMP_LO.off n.val) o.val
      have h3 := bankKey_ge (CAN_OBJ_STAMP_HI.off n.val) o.val
      rcases List.mem_append.1 hm with hm | hm
      · simp only [List.mem_cons, List.not_mem_nil, or_false] at hm
        omega
      · obtain ⟨j, _, hj⟩ := List.mem_map.1 hm
        simp only [CAN_OBJ_DATA.off] at hj
        omega
    have hcnt2 : b.rd64 (CAN_RX_FRAMES_LO.off n.val) = a.rd64 (CAN_RX_FRAMES_LO.off n.val) :=
      State.rd64_congr (hk2.same _ (hlo _ (by simp only [CAN_RX_FRAMES_LO.off]; omega))) (hk2.same _ (hlo _ (by simp only [CAN_RX_FRAMES_LO.off]; omega)))
    have hsame : s.sameRegs b ((rxRegs n.val ++ [bankKey (CAN_OBJ_STAT.off n.val) o.val, bankKey (CAN_OBJ_STAMP_LO.off n.val) o.val,
        bankKey (CAN_OBJ_STAMP_HI.off n.val) o.val]) ++ liveRegs n.val o.val) := by
      rw [List.append_assoc]
      exact hall.same
    exact ⟨b, congrArg _ (hall.finish hs), by rw [hcnt2, hcnt], hall.can, hall.pts, fun _ => ⟨htake, hunread, hd, hst, hsame⟩,
      fun hc => absurd (hu.symm.trans hc) Bool.false_ne_true⟩
  · rw [if_neg hu]
    have hovr' : (a.rd (CAN_RX_OVR.off n.val)).toNat + 1 < 0xFFFFFFFF := by
      rw [hk.same _ (can_notMem n.val (d := 0x44) (l := [0x80, 0x84, 4]) (by decide))]
      exact hovr
    have hk2 := CanOp.count a hovr' (isCan_reg n (d := 0x44) (by decide)) (l := [CAN_RX_OVR.off n.val]) List.mem_cons_self
    have hc2 := a.count_toNat _ hovr'
    rw [hk.same _ (can_notMem n.val (d := 0x44) (l := [0x80, 0x84, 4]) (by decide))] at hc2
    generalize a.count (CAN_RX_OVR.off n.val) = b at *
    have hall := (hk.mono (l' := [CAN_RX_FRAMES_LO.off n.val, CAN_RX_FRAMES_HI.off n.val, CAN_STAT.off n.val, CAN_RX_OVR.off n.val]) (by simp)).trans
      (hk2.mono (by simp))
    have h1 : b.rd (CAN_RX_FRAMES_LO.off n.val) = a.rd (CAN_RX_FRAMES_LO.off n.val) := hk2.same _ (can_notMem n.val (d := 0x80) (l := [0x44]) (by decide))
    have h2 : b.rd (CAN_RX_FRAMES_HI.off n.val) = a.rd (CAN_RX_FRAMES_HI.off n.val) := hk2.same _ (can_notMem n.val (d := 0x84) (l := [0x44]) (by decide))
    rw [← rxFrames_hi] at h2
    exact ⟨b, congrArg _ (hall.finish hs), (State.rd64_congr h1 h2).trans hcnt, hall.can, hall.pts, fun hc => absurd hc hu, fun _ => ⟨hc2, hall.same⟩⟩

end

end Sys2Proof.Machine
end

section
/-! PROOF of CanControllers (R352 to R354, R359): the commands of CAN_CMD. -/

namespace Sys2Proof.Machine

/- One evaluation after another: each of them, left to itself, would hold a thread. -/
set_option Elab.async false

/-! ### Rows and dispatch -/

def rowCanCmd : RegRow := ⟨0x1C0010, [(0x2000, 8)], [⟨10, 8, .wo, .priv, 0⟩, ⟨5, 0, .wo, .priv, 0⟩], none⟩
def rowCanCfg : RegRow := ⟨0x1C0000, [(0x2000, 8)], [⟨4, 4, .rw, .priv, 0⟩, ⟨3, 3, .rw, .priv, 0⟩, ⟨1, 0, .rw, .priv, 0⟩], none⟩

theorem regs1C_rising : regs1C.Pairwise (fun a b => a.before 0x2000 b = true) := by decide +kernel

/-- The row of a register that each controller has once. -/
theorem canRow {r : RegRow} {d : Nat} (hr : r ∈ regs1C) (hb : r.base = 0x1C0000 + d) (hd : r.dims = [(0x2000, 8)]) (hlt : d < 0x2000) (n : Fin 8) :
    regRow (0x1C0000 + d + n.val * 0x2000) = some r := by
  have hblk : (0x1C0000 + d + n.val * 0x2000) / 2 ^ 16 = 0x1C := by omega
  have hhas : r.has (0x1C0000 + d + n.val * 0x2000) = true := by
    simp only [RegRow.has, hb, hd, dimsHas, Bool.and_eq_true, decide_eq_true_eq, beq_iff_eq]
    omega
  rw [regRow, hblk]
  have hfind := find_row (post := []) regs1C_rising hr hhas
  rwa [List.append_nil] at hfind

theorem row_canCmd (n : Fin 8) : regRow (CAN_CMD.off n.val) = some rowCanCmd := canRow (d := 0x10) (by decide +kernel) rfl rfl (by decide) n
theorem row_canCfg (n : Fin 8) : regRow (CAN_CFG.off n.val) = some rowCanCfg := canRow (d := 0) (by decide +kernel) rfl rfl (by decide) n

theorem mwClear_canHead : mwClear 0x1C0000 0x1C0014 = true := by decide +kernel

theorem State.blkTop_can {s : State} {r : RegWr} (h1 : 0x1C0000 ≤ r.off) (h2 : r.off < 0x1E0000) : s.blkTop r = s.blkCan r := by
  unfold State.blkTop State.blkWrite
  simp only [UPD_CMD.off, UPD_INJ_CTRL.off, CFG_RESET.off, FH_CMD.off]
  simp (disch := omega) only [↓if_neg, ↓if_pos]

theorem mwGroups_can (n : Fin 8) : mwGroup (CAN_CMD.off n.val) = none ∧ mwGroup (CAN_CFG.off n.val) = none := by
  revert n
  decide +kernel

theorem canCmd_open (n : Fin 8) : regAlone (CAN_CMD.off n.val) 2 = true := regAlone_of (row_canCmd n) (by decide) (mwGroups_can n).1
theorem canCfg_open (n : Fin 8) : regAlone (CAN_CFG.off n.val) 2 = true := regAlone_of (row_canCfg n) (by decide) (mwGroups_can n).2

theorem State.blkTop_canCmd {s : State} {r : RegWr} (n : Fin 8) (h : r.off = CAN_CMD.off n.val) : s.blkTop r = s.canCmdWrite n.val r.eff := by
  have hoff : r.off = 0x1C0010 + n.val * 0x2000 := h
  have hn : r.inst 0x1C0000 0x2000 = n.val := by
    rw [RegWr.inst, hoff]
    omega
  have hd : r.off % 0x2000 = 0x10 := by omega
  rw [State.blkTop_can (by omega) (by omega), State.blkCan, hn, hd]
  rfl

theorem State.blkTop_canCfg {s : State} {r : RegWr} (n : Fin 8) (h : r.off = CAN_CFG.off n.val) : s.blkTop r = s.canCfgWrite n.val r.new := by
  have hoff : r.off = 0x1C0000 + n.val * 0x2000 := h
  have hn : r.inst 0x1C0000 0x2000 = n.val := by
    rw [RegWr.inst, hoff]
    omega
  have hd : r.off % 0x2000 = 0 := by omega
  rw [State.blkTop_can (by omega) (by omega), State.blkCan, hn, hd]
  rfl

/-- The word of a command on an object. -/
def canWord (n op obj : Nat) : Word := (CAN_CMD.OBJ n).put (cmdWord (CAN_CMD.OP n) op) obj

/-- The operation that a write of CAN_CMD names. -/
def State.canOpDone (s : State) (n op o : Nat) : State :=
  if op = 1 then s.txReq n o else if op = 2 then s.canCancel n o else if op = 3 then s.commitData n o else if op = 4 then s.canRecover n else s

theorem State.canCmd_op (s : State) (m : Master) (n : Fin 8) (op : Fin 8) (o : Fin 64) :
    s.blkTop (s.regWr m (CAN_CMD.off n.val) (canWord n.val op.val o.val)) = (stOK, s.canOpDone n.val op.val o.val) := by
  have hop : (CAN_CMD.OP n.val).get (s.regWr m (CAN_CMD.off n.val) (canWord n.val op.val o.val)).eff = op.val := by
    refine (effWord_get (hasField_of (a := .wo) (g := CAN_CMD.OP n.val) (row_canCmd n) (by simp [rowCanCmd])) _).trans ?_
    rw [canWord, FRef.get_put_ne (CAN_CMD.OBJ n.val) (CAN_CMD.OP n.val) (by simp [FRef.fits]) (by simp), cmdWord, FRef.get_put _ (by simp [FRef.fits])]
    exact Nat.mod_eq_of_lt op.isLt
  have hobj : (CAN_CMD.OBJ n.val).get (s.regWr m (CAN_CMD.off n.val) (canWord n.val op.val o.val)).eff = o.val := by
    refine (effWord_get (hasField_of (a := .wo) (g := CAN_CMD.OBJ n.val) (row_canCmd n) (by simp [rowCanCmd])) _).trans ?_
    rw [canWord, FRef.get_put _ (by simp [FRef.fits])]
    exact Nat.mod_eq_of_lt o.isLt
  rw [State.blkTop_canCmd n rfl, State.canCmdWrite, hop, hobj]
  rfl

theorem Shows.canc {u t : State} (h : Shows u t) (n : Nat) : t.canc n = u.canc n := State.canc_of_can h.can n

theorem Shows.evPend {u t : State} (h : Shows u t) (e : Nat) : t.evPend e = u.evPend e := State.evPend_of_regs h.regs e

section
variable {m : Master} {n : Fin 8} {s : State}

theorem exec_canTxreq (o : Fin 64) : exec (.canTxreq m n o) s = .next (s.finish (s.regCmd m (CAN_CMD.off n.val) 4 (canWord n.val 1 o.val))) := by rfl
theorem exec_canCancel (o : Fin 64) : exec (.canCancel m n o) s = .next (s.finish (s.regCmd m (CAN_CMD.off n.val) 4 (canWord n.val 2 o.val))) := by rfl
theorem exec_canCommitData (o : Fin 64) :
    exec (.canCommitData m n o) s = .next (s.finish (s.regCmd m (CAN_CMD.off n.val) 4 (canWord n.val 3 o.val))) := by rfl
theorem exec_canRecover : exec (.canRecover m n) s = .next (s.finish (s.regCmd m (CAN_CMD.off n.val) 4 (canWord n.val 4 0))) := by rfl

/-- A command on a controller, shown and told. -/
theorem State.canCmd_told (h : s.serves m (CAN_CMD.off n.val) 2) (op : Fin 8) (o : Fin 64) {u : State} (hu : s.canOpDone n.val op.val o.val = u)
    (hr : u.resetReq = s.resetReq) (hp : u.pending = s.pending) :
    ∃ t, s.finish (s.regCmd m (CAN_CMD.off n.val) 4 (canWord n.val op.val o.val)) = t ∧ t.toldOK m ∧ Shows u t := by
  have hop := s.canCmd_op m n op o
  rw [hu] at hop
  exact State.serves_told h (canCmd_open n) hop (hr.trans (State.serves_noReset h)) hp

/-! ### TXREQ (R353) -/

/-- A transmit object's request. -/
theorem State.txReq_leaves (s : State) (n : Fin 8) {o : Nat} (h : s.objTx n.val o = true) : CanOp s (s.txReq n.val o) [objStat n.val o] ∧
    (s.txReq n.val o).flag ((CAN_OBJ_STAT.PEND n.val).at o) = true := by
  have hx : s.txReq n.val o = s.p ((CAN_OBJ_STAT.PEND n.val).at o) (b2n true) := if_pos h
  rw [hx]
  exact ⟨CanOp.p s _ _ (isCan_objStat n o) List.mem_cons_self, s.flag_pb_self (f := (CAN_OBJ_STAT.PEND n.val).at o) true (by simp [FRef.at]) rfl⟩

theorem canTxreq_told {o : Fin 64} (h : s.serves m (CAN_CMD.off n.val) 2) (ho : s.objTx n.val o.val = true) :
    ∃ t, exec (.canTxreq m n o) s = .next t ∧ t.toldOK m ∧ t.flag ((CAN_OBJ_STAT.PEND n.val).at o.val) = true ∧ t.can = s.can ∧
      s.sameRegs t [objStat n.val o.val] := by
  obtain ⟨hk, hf⟩ := s.txReq_leaves n ho
  have hu : s.canOpDone n.val 1 o.val = s.txReq n.val o.val := if_pos rfl
  obtain ⟨u, he⟩ : ∃ u, s.txReq n.val o.val = u := ⟨_, rfl⟩
  rw [he] at hk hf hu
  obtain ⟨t, ht, htold, hshow⟩ := State.canCmd_told h 1 o hu hk.resetReq hk.pending
  exact ⟨t, (exec_canTxreq o).trans (congrArg _ ht), htold, (hshow.flag _).trans hf, hshow.can.trans hk.can, hshow.same hk.same⟩

/-! ### CANCEL (R354) -/

theorem State.canOpDone_cancel (s : State) (n o : Nat) : s.canOpDone n 2 o = s.canCancel n o := by
  rw [State.canOpDone, if_neg (by decide), if_pos rfl]

/-- The registers that a request's removal may change beside Sump's. -/
abbrev cancelRegs (n o : Nat) : List Nat := CAN_CANCEL_CNT.off n :: lastRegs n o

theorem State.cancelled_leaves (s : State) (n : Fin 8) (o : Nat) : CanReg s (s.cancelled n.val o) (cancelRegs n.val o) ∧
    (s.cancelled n.val o).g ((CAN_OBJ_STAT.LAST n.val).at o) = laCANCELLED ∧ (s.cancelled n.val o).evPend (evCan n.val) = true ∧
    (∀ f : FRef, f.off = objStat n.val o → ((CAN_OBJ_STAT.LAST n.val).at o).sep f = true → (s.cancelled n.val o).g f = s.g f) ∧
    ((s.rd (CAN_TX_FAIL.off n.val)).toNat + 1 < 0xFFFFFFFF →
      ((s.cancelled n.val o).rd (CAN_TX_FAIL.off n.val)).toNat = (s.rd (CAN_TX_FAIL.off n.val)).toNat + 1) ∧
    ((s.rd (CAN_CANCEL_CNT.off n.val)).toNat + 1 < 0xFFFFFFFF →
      ((s.cancelled n.val o).rd (CAN_CANCEL_CNT.off n.val)).toNat = (s.rd (CAN_CANCEL_CNT.off n.val)).toNat + 1) := by
  have hfix := isCan_fixed (isCan_objStat n o)
  obtain ⟨hk, hlast, hpend, hsep, hfail⟩ := s.setLast_leaves n o (v := laCANCELLED) (by decide) (by decide)
  have hrd : (s.setLast n.val o laCANCELLED).rd (CAN_CANCEL_CNT.off n.val) = s.rd (CAN_CANCEL_CNT.off n.val) := by
    refine hk.toEff.word (fun hm => ?_) (isCan_fixed (isCan_reg n (d := 0x50) (by decide)))
    rcases List.mem_cons.1 hm with hm | hm
    · exact List.ne_of_not_mem_cons (bank_notMem n _ o (l := [0x50]) (by decide)) hm.symm
    · exact can_notMem n.val (d := 0x50) (l := [0x48, 0x58, 0x20]) (by decide) hm
  unfold State.cancelled
  generalize s.setLast n.val o laCANCELLED = a at *
  have hk2 := a.count_can n (d := 0x50) (by decide) (canSat n).2.2.1
  have hone := a.count_toNat (CAN_CANCEL_CNT.off n.val)
  have hg2 : ∀ f : FRef, f.off = objStat n.val o → (a.count (CAN_CANCEL_CNT.off n.val)).g f = a.g f :=
    fun f hf => hk2.toEff.g (by rw [hf]; exact bank_notMem n _ o (l := [0x50, 0x20]) (by decide)) (by rw [hf]; exact hfix)
  have hrd2 : (a.count (CAN_CANCEL_CNT.off n.val)).rd (CAN_TX_FAIL.off n.val) = a.rd (CAN_TX_FAIL.off n.val) :=
    hk2.toEff.word (can_notMem n.val (d := 0x48) (l := [0x50, 0x20]) (by decide)) (isCan_fixed (isCan_reg n (d := 0x48) (by decide)))
  have hk2' : CanReg a (a.count (CAN_CANCEL_CNT.off n.val)) (cancelRegs n.val o) := hk2.mono (by simp)
  generalize a.count (CAN_CANCEL_CNT.off n.val) = t at *
  exact ⟨(hk.mono fun k hm => List.mem_cons_of_mem _ hm).trans hk2', (hg2 _ rfl).trans hlast, hk2'.toEff.pend _ (evCan_lt n) hpend,
    fun f hf hs => (hg2 f hf).trans (hsep f hf hs), fun hcnt => by rw [hrd2, hfail hcnt], fun hcnt => by rw [hone (by rw [hrd]; exact hcnt), hrd]⟩

/-- A request that waits, removed. -/
theorem State.canCancel_waits {o : Nat} (hp : s.flag ((CAN_OBJ_STAT.PEND n.val).at o) = true) (htx : (s.canc n.val).tx = none)
    (hw : (s.canc n.val).waitSingle = none) :
    s.canCancel n.val o = ((s.pb ((CAN_OBJ_STAT.PEND n.val).at o) false).setCan n.val (s.canc n.val)).cancelled n.val o := by
  unfold State.canCancel
  generalize s.canc n.val = c at *
  obtain ⟨tx, wait, _, _, _, _, _, _, _, _, _, _, _⟩ := c
  dsimp only at htx hw
  subst htx hw
  simp only [Option.any_none, Option.map_none, Bool.false_eq_true, if_false, hp, Bool.or_false, if_true]

/-- A committed frame's request, removed. -/
theorem State.canCancel_committed {o : Nat} {x : CanTx} (htx : (s.canc n.val).tx = some x) (hx : x.obj = o) (hw : (s.canc n.val).waitSingle = none) :
    s.canCancel n.val o = (s.pb ((CAN_OBJ_STAT.PEND n.val).at o) false).setCan n.val { s.canc n.val with tx := some { x with cancelled := true } } := by
  unfold State.canCancel
  generalize s.canc n.val = c at *
  obtain ⟨tx, wait, _, _, _, _, _, _, _, _, _, _, _⟩ := c
  dsimp only at htx hw
  subst htx hw
  simp only [Option.any_none, Option.map_some, Option.any_some, hx, beq_self_eq_true, Bool.false_eq_true, if_false, if_true]

/-- A request cleared. -/
theorem State.pendOff_leaves (s : State) (n : Fin 8) (o : Nat) : CanOp s (s.pb ((CAN_OBJ_STAT.PEND n.val).at o) false) [objStat n.val o] ∧
    (s.pb ((CAN_OBJ_STAT.PEND n.val).at o) false).flag ((CAN_OBJ_STAT.PEND n.val).at o) = false :=
  ⟨CanOp.p s _ _ (isCan_objStat n o) List.mem_cons_self, s.flag_pb_self (f := (CAN_OBJ_STAT.PEND n.val).at o) false (by simp [FRef.at]) rfl⟩

theorem canCancel_pending {o : Fin 64} (h : s.serves m (CAN_CMD.off n.val) 2) (hp : s.flag ((CAN_OBJ_STAT.PEND n.val).at o.val) = true)
    (htx : (s.canc n.val).tx = none) (hw : (s.canc n.val).waitSingle = none) (hcc : (s.rd (CAN_CANCEL_CNT.off n.val)).toNat + 1 < 0xFFFFFFFF)
    (hfc : (s.rd (CAN_TX_FAIL.off n.val)).toNat + 1 < 0xFFFFFFFF) :
    ∃ t, exec (.canCancel m n o) s = .next t ∧ t.toldOK m ∧ t.flag ((CAN_OBJ_STAT.PEND n.val).at o.val) = false ∧
      t.g ((CAN_OBJ_STAT.LAST n.val).at o.val) = laCANCELLED ∧ t.canc n.val = s.canc n.val ∧ t.evPend (evCan n.val) = true ∧
      (t.rd (CAN_CANCEL_CNT.off n.val)).toNat = (s.rd (CAN_CANCEL_CNT.off n.val)).toNat + 1 ∧
      (t.rd (CAN_TX_FAIL.off n.val)).toNat = (s.rd (CAN_TX_FAIL.off n.val)).toNat + 1 := by
  have hu := s.canOpDone_cancel n.val o.val
  rw [State.canCancel_waits hp htx hw] at hu
  obtain ⟨hk, hf⟩ := s.pendOff_leaves n o.val
  obtain ⟨a, ha⟩ : ∃ a, s.pb ((CAN_OBJ_STAT.PEND n.val).at o.val) false = a := ⟨_, rfl⟩
  rw [ha] at hk hf hu
  have hne : ∀ d, d < 0x2000 → 0x1C0000 + d + n.val * 0x2000 ∉ [objStat n.val o.val] := fun d hd hm =>
    List.ne_of_not_mem_cons (bank_notMem n _ o.val (l := [d]) (by simpa using hd)) (List.mem_singleton.1 hm).symm
  have hrc : a.rd (CAN_CANCEL_CNT.off n.val) = s.rd (CAN_CANCEL_CNT.off n.val) := hk.same _ (hne 0x50 (by decide))
  have hrf : a.rd (CAN_TX_FAIL.off n.val) = s.rd (CAN_TX_FAIL.off n.val) := hk.same _ (hne 0x48 (by decide))
  have hregs := a.setCan_regs n.val (s.canc n.val)
  have hset := a.setCan_eff n.val (s.canc n.val) []
  have hpend := a.setCan_pending n.val (s.canc n.val)
  have hcan := a.setCan_canc n.val (s.canc n.val)
  generalize a.setCan n.val (s.canc n.val) = b at *
  obtain ⟨hk2, hlast, hev, hsep, hfail, hcancel⟩ := b.cancelled_leaves n o.val
  have hpf : (b.cancelled n.val o.val).flag ((CAN_OBJ_STAT.PEND n.val).at o.val) = b.flag ((CAN_OBJ_STAT.PEND n.val).at o.val) :=
    State.flag_of_g (hsep _ rfl (by simp [FRef.sep, FRef.at]))
  rw [State.rd_of_regs hregs, hrf] at hfail
  rw [State.rd_of_regs hregs, hrc] at hcancel
  generalize b.cancelled n.val o.val = u at *
  obtain ⟨t, ht, htold, hshow⟩ := State.canCmd_told h 2 o hu (hk2.resetReq.trans (hset.resetReq.trans hk.resetReq)) (hk2.pending.trans (hpend.trans hk.pending))
  exact ⟨t, (exec_canCancel o).trans (congrArg _ ht), htold, by rw [hshow.flag, hpf, State.flag_of_regs hregs, hf], by rw [hshow.g, hlast],
    by rw [hshow.canc, State.canc_of_can hk2.can, hcan], by rw [hshow.evPend, hev], by rw [hshow.rd, hcancel hcc], by rw [hshow.rd, hfail hfc]⟩

theorem canCancel_late {o : Fin 64} {x : CanTx} (h : s.serves m (CAN_CMD.off n.val) 2) (htx : (s.canc n.val).tx = some x) (hx : x.obj = o.val)
    (hw : (s.canc n.val).waitSingle = none) :
    ∃ t, exec (.canCancel m n o) s = .next t ∧ t.toldOK m ∧ t.canc n.val = { s.canc n.val with tx := some { x with cancelled := true } } ∧
      t.flag ((CAN_OBJ_STAT.PEND n.val).at o.val) = false ∧ s.sameRegs t [objStat n.val o.val] := by
  have hu := s.canOpDone_cancel n.val o.val
  rw [State.canCancel_committed htx hx hw] at hu
  obtain ⟨hk, hf⟩ := s.pendOff_leaves n o.val
  obtain ⟨a, ha⟩ : ∃ a, s.pb ((CAN_OBJ_STAT.PEND n.val).at o.val) false = a := ⟨_, rfl⟩
  rw [ha] at hk hf hu
  generalize ({ s.canc n.val with tx := some { x with cancelled := true } } : Can) = c at *
  have hregs := a.setCan_regs n.val c
  have hreset := a.setCan_resetReq n.val c
  have hpend := a.setCan_pending n.val c
  have hcan := a.setCan_canc n.val c
  generalize a.setCan n.val c = u at *
  obtain ⟨t, ht, htold, hshow⟩ := State.canCmd_told h 2 o hu (hreset.trans hk.resetReq) (hpend.trans hk.pending)
  exact ⟨t, (exec_canCancel o).trans (congrArg _ ht), htold, by rw [hshow.canc, hcan], by rw [hshow.flag, State.flag_of_regs hregs, hf],
    hshow.same fun k hm => (State.rd_of_regs hregs k).trans (hk.same k hm)⟩

/-! ### COMMIT_DATA (R352) -/

theorem canCommitData_told {o : Fin 64} (h : s.serves m (CAN_CMD.off n.val) 2) :
    ∃ t, exec (.canCommitData m n o) s = .next t ∧ t.toldOK m ∧
      (∀ k, k < 16 → t.rd (CAN_OBJ_DATA.off n.val o.val k) = SMap.get (fun _ => 0) (s.canc n.val).shadow (16 * o.val + k)) ∧
      (t.canc n.val).tx = (s.canc n.val).tx ∧ s.sameRegs t (liveRegs n.val o.val) := by
  have hu : s.canOpDone n.val 3 o.val = s.commitData n.val o.val := (if_neg (by decide)).trans ((if_neg (by decide)).trans (if_pos rfl))
  obtain ⟨hin, _⟩ := s.foldl_wr (fun k => CAN_OBJ_DATA.off n.val o.val k) (fun k => SMap.get (fun _ => 0) (s.canc n.val).shadow (16 * o.val + k))
    (live_inj n.val o.val) 16
  have hk : CanOp s ((List.range 16).foldl (fun s' k => s'.wr (CAN_OBJ_DATA.off n.val o.val k) (SMap.get (fun _ => 0) (s.canc n.val).shadow (16 * o.val + k))) s)
      (liveRegs n.val o.val) := CanOp.foldl (fun k hk => ⟨live_key n o.isLt hk, List.mem_map_of_mem (List.mem_range.2 hk)⟩) s
  unfold State.commitData at hu
  dsimp only at hu
  generalize (List.range 16).foldl (fun s' k => s'.wr (CAN_OBJ_DATA.off n.val o.val k) (SMap.get (fun _ => 0) (s.canc n.val).shadow (16 * o.val + k))) s = a at *
  obtain ⟨c, hc⟩ : ∃ c, ({ s.canc n.val with arr := SMap.set (fun _ => none) (s.canc n.val).arr o.val none } : Can) = c := ⟨_, rfl⟩
  have htx : c.tx = (s.canc n.val).tx := by rw [← hc]
  rw [hc] at hu
  have hregs := a.setCan_regs n.val c
  have hreset := a.setCan_resetReq n.val c
  have hpend := a.setCan_pending n.val c
  have hcan := a.setCan_canc n.val c
  generalize a.setCan n.val c = u at *
  obtain ⟨t, ht, htold, hshow⟩ := State.canCmd_told h 3 o hu (hreset.trans hk.resetReq) (hpend.trans hk.pending)
  exact ⟨t, (exec_canCommitData o).trans (congrArg _ ht), htold, fun k hk => by rw [hshow.rd, State.rd_of_regs hregs, hin k hk],
    by rw [hshow.canc, hcan, htx], hshow.same fun k hm => (State.rd_of_regs hregs k).trans (hk.same k hm)⟩

/-! ### RECOVER (R359) -/

theorem canRecover_begins (h : s.serves m (CAN_CMD.off n.val) 2) (hoff : s.canState n.val = csBusOff) :
    ∃ t, exec (.canRecover m n) s = .next t ∧ t.toldOK m ∧ t.canState n.val = csRecovering ∧ t.can = s.can ∧ s.sameRegs t [CAN_STAT.off n.val] := by
  have hu : s.canOpDone n.val 4 0 = s.p (CAN_STAT.STATE n.val) csRecovering :=
    (if_neg (by decide)).trans ((if_neg (by decide)).trans ((if_neg (by decide)).trans ((if_pos rfl).trans (if_pos hoff))))
  have hk := CanOp.p s (CAN_STAT.STATE n.val) csRecovering (l := [CAN_STAT.off n.val]) (isCan_stat n) List.mem_cons_self
  have hst : (s.p (CAN_STAT.STATE n.val) csRecovering).canState n.val = csRecovering :=
    s.g_p_fit (f := CAN_STAT.STATE n.val) (v := csRecovering) (by simp [csRecovering]) (by simp)
  obtain ⟨u, he⟩ : ∃ u, s.p (CAN_STAT.STATE n.val) csRecovering = u := ⟨_, rfl⟩
  rw [he] at hk hst hu
  obtain ⟨t, ht, htold, hshow⟩ := State.canCmd_told h 4 0 hu hk.resetReq hk.pending
  exact ⟨t, exec_canRecover.trans (congrArg _ ht), htold, (hshow.g _).trans hst, hshow.can.trans hk.can, hshow.same hk.same⟩

theorem canRecover_refused (h : s.serves m (CAN_CMD.off n.val) 2) (hoff : s.canState n.val ≠ csBusOff)
    (hcnt : (s.rd (CAN_CFGERR_CNT.off n.val)).toNat + 1 < 0xFFFFFFFF) :
    ∃ t, exec (.canRecover m n) s = .next t ∧ t.canState n.val = s.canState n.val ∧ t.can = s.can ∧
      (t.rd (CAN_CFGERR_CNT.off n.val)).toNat = (s.rd (CAN_CFGERR_CNT.off n.val)).toNat + 1 := by
  have hu : s.canOpDone n.val 4 0 = (s.count (CAN_CFGERR_CNT.off n.val)).canRaise n.val clEvent :=
    (if_neg (by decide)).trans ((if_neg (by decide)).trans ((if_neg (by decide)).trans ((if_pos rfl).trans (if_neg hoff))))
  have hk := CanOp.count s hcnt (isCan_reg n (d := 0x54) (by decide)) (l := [CAN_CFGERR_CNT.off n.val]) List.mem_cons_self
  have hone := s.count_toNat _ hcnt
  generalize s.count (CAN_CFGERR_CNT.off n.val) = a at *
  obtain ⟨hk2, _⟩ := a.canRaise_leaves n clEvent_lt
  obtain ⟨u, he⟩ : ∃ u, a.canRaise n.val clEvent = u := ⟨_, rfl⟩
  rw [he] at hk2 hu
  have hst : u.canState n.val = s.canState n.val :=
    (hk2.toEff.g (f := CAN_STAT.STATE n.val) (can_notMem n.val (d := 4) (l := [0x58, 0x20]) (by decide)) (isCan_fixed (isCan_stat n))).trans
      (hk.g (f := CAN_STAT.STATE n.val) (can_notMem n.val (d := 4) (l := [0x54]) (by decide)))
  have hrd : u.rd (CAN_CFGERR_CNT.off n.val) = a.rd (CAN_CFGERR_CNT.off n.val) :=
    hk2.toEff.word (can_notMem n.val (d := 0x54) (l := [0x58, 0x20]) (by decide)) (isCan_fixed (isCan_reg n (d := 0x54) (by decide)))
  obtain ⟨t, ht, _, hshow⟩ := State.canCmd_told h 4 0 hu (hk2.resetReq.trans hk.resetReq) (hk2.pending.trans hk.pending)
  exact ⟨t, exec_canRecover.trans (congrArg _ ht), (hshow.g _).trans hst, hshow.can.trans (hk2.can.trans hk.can), by rw [hshow.rd, hrd, hone]⟩

end

end Sys2Proof.Machine
end

section
/-! PROOF of CanControllers (R353, R354, R357 to R359), continued: periods, the staged schedule, recovery and ends of transmission. -/

namespace Sys2Proof.Machine

/- One evaluation after another: each of them, left to itself, would hold a thread. -/
set_option Elab.async false

section
variable {n : Fin 8} {s : State}

/-! ### CAN_PERIOD_EXPIRE (R353) -/

theorem exec_canPeriodExpire (o : Fin 64) : exec (.canPeriodExpire n o) s = .next (s.finish (canPeriodExpire n o s)) := by rfl
theorem exec_canTtApply : exec (.canTtApply n) s = .next (s.finish (s.ttDue n.val)) := by rfl
theorem exec_canRecoveryDone : exec (.canRecoveryDone n) s = .next (s.finish (canRecoveryDone n s)) := by rfl
theorem exec_canTxDone (e : CanEnd) (age : BitVec 24) : exec (.canTxDone n e age) s = .next (s.finish (canTxDone n e age s)) := by rfl

theorem canPeriodExpire_told {o : Fin 64} (hs : s.resetReq = none) (ho : s.objTx n.val o.val = true) (hper : s.g ((CAN_OBJ_CFG.PERIOD n.val).at o.val) ≠ 0) :
    ∃ t, exec (.canPeriodExpire n o) s = .next t ∧
      (if (SMap.get (fun _ => none) (s.canc n.val).perAt o.val).all (fun j => decide (j < s.canPer n.val o.val)) then
        t.flag ((CAN_OBJ_STAT.PEND n.val).at o.val) = true ∧
          SMap.get (fun _ => none) (t.canc n.val).perAt o.val = some (s.canPer n.val o.val) ∧ s.sameRegs t [objStat n.val o.val]
      else t = s) := by
  rw [exec_canPeriodExpire]
  unfold canPeriodExpire
  dsimp only
  generalize s.canPer n.val o.val = k at *
  by_cases hdue : (SMap.get (fun _ => none) (s.canc n.val).perAt o.val).all (fun j => decide (j < k)) = true
  · rw [if_pos ⟨hper, hdue⟩]
    obtain ⟨c, hc⟩ : ∃ c, ({ s.canc n.val with perAt := SMap.set (fun _ => none) (s.canc n.val).perAt o.val (some k) } : Can) = c := ⟨_, rfl⟩
    have hat : SMap.get (fun _ => none) c.perAt o.val = some k := by
      rw [← hc]
      exact (Laws.get_set_same (d := fun _ => none) (s.canc n.val).perAt o.val (some k) :)
    rw [hc]
    have ho' : (s.setCan n.val c).objTx n.val o.val = true := by
      rw [State.objTx, State.setCan_flag, State.setCan_flag]
      exact ho
    have hregs := s.setCan_regs n.val c
    have hreset := s.setCan_resetReq n.val c
    have hpend := s.setCan_pending n.val c
    have hcan := s.setCan_canc n.val c
    generalize s.setCan n.val c = a at *
    obtain ⟨hk, hf⟩ := a.txReq_leaves n ho'
    generalize a.txReq n.val o.val = t at *
    refine ⟨t, congrArg _ (State.finish_kept (hk.resetReq.trans (hreset.trans hs)) (hk.pending.trans hpend)), ?_⟩
    rw [if_pos hdue]
    exact ⟨hf, by rw [State.canc_of_can hk.can, hcan, hat], fun j hj => (hk.same j hj).trans (State.rd_of_regs hregs j)⟩
  · rw [if_neg fun hc => hdue hc.2]
    exact ⟨s, congrArg _ (State.finish_kept hs rfl), by rw [if_neg hdue]⟩

/-! ### CAN_TT_APPLY (R358) -/

theorem canTtApply_told {b k p : Nat} {c : Int} (hs : s.resetReq = none) (hst : (s.canc n.val).stagedTT = some (b, k, p, c)) :
    ∃ t, exec (.canTtApply n) s = .next t ∧ t.regs = s.regs ∧
      t.canc n.val = if c / ((2 ^ (s.canc n.val).mc : Nat) : Int) < (s.canCycle n.val).2 / ((2 ^ (s.canc n.val).mc : Nat) : Int) then
        { s.canc n.val with bcLen := b, mc := k, phase := p, stagedTT := none, opened := none } else s.canc n.val := by
  rw [exec_canTtApply]
  unfold State.ttDue
  dsimp only
  rw [hst]
  dsimp only
  split
  · exact ⟨_, congrArg _ (State.finish_kept ((s.setCan_resetReq ..).trans hs) (s.setCan_pending ..)), s.setCan_regs .., s.setCan_canc ..⟩
  · exact ⟨s, congrArg _ (State.finish_kept hs rfl), rfl, rfl⟩

/-! ### CAN_RECOVERY_DONE (R359) -/

theorem canRecoveryDone_told (hs : s.resetReq = none) (hst : s.canState n.val = csRecovering) :
    ∃ t, exec (.canRecoveryDone n) s = .next t ∧ t.canState n.val = csActive ∧ t.g (CAN_STAT.TEC n.val) = 0 ∧ t.g (CAN_STAT.REC n.val) = 0 ∧
      t.can = s.can ∧ s.sameRegs t [CAN_STAT.off n.val] := by
  rw [exec_canRecoveryDone]
  unfold canRecoveryDone
  rw [if_pos hst]
  have hk1 := CanOp.p s (CAN_STAT.TEC n.val) 0 (l := [CAN_STAT.off n.val]) (isCan_stat n) List.mem_cons_self
  have hg1 := s.g_p_fit (f := CAN_STAT.TEC n.val) (v := 0) (by simp) (by simp)
  obtain ⟨a, ha⟩ : ∃ a, s.p (CAN_STAT.TEC n.val) 0 = a := ⟨_, rfl⟩
  rw [ha] at hk1 hg1 ⊢
  have hk2 := CanOp.p a (CAN_STAT.REC n.val) 0 (l := [CAN_STAT.off n.val]) (isCan_stat n) List.mem_cons_self
  have hg2 := a.g_p_fit (f := CAN_STAT.REC n.val) (v := 0) (by simp) (by simp)
  have ht2 := a.g_p_sep (f := CAN_STAT.REC n.val) (g := CAN_STAT.TEC n.val) 0 (by simp [FRef.sep])
  obtain ⟨b, hb⟩ : ∃ b, a.p (CAN_STAT.REC n.val) 0 = b := ⟨_, rfl⟩
  rw [hb] at hk2 hg2 ht2 ⊢
  have hk3 := CanOp.p b (CAN_STAT.STATE n.val) csActive (l := [CAN_STAT.off n.val]) (isCan_stat n) List.mem_cons_self
  have hg3 := b.g_p_fit (f := CAN_STAT.STATE n.val) (v := csActive) (by simp [csActive]) (by simp)
  have ht3 := b.g_p_sep (f := CAN_STAT.STATE n.val) (g := CAN_STAT.TEC n.val) csActive (by simp [FRef.sep])
  have hr3 := b.g_p_sep (f := CAN_STAT.STATE n.val) (g := CAN_STAT.REC n.val) csActive (by simp [FRef.sep])
  obtain ⟨t, ht⟩ : ∃ t, b.p (CAN_STAT.STATE n.val) csActive = t := ⟨_, rfl⟩
  rw [ht] at hk3 hg3 ht3 hr3 ⊢
  have hall := (hk1.trans hk2).trans hk3
  exact ⟨t, congrArg _ (hall.finish hs), hg3, ht3.trans (ht2.trans hg1), hr3.trans hg2, hall.can, hall.same⟩

/-! ### Ends of transmission (R354, R357, R359) -/

/-- How an attempt that did not succeed ends: its request removed, its single attempt reported, or its request kept. -/
def State.canFailed (s : State) (n : Nat) (x : CanTx) (v : Nat) : State :=
  if x.cancelled then s.cancelled n x.obj
  else if x.single then s.setLast n x.obj v
  else (s.setLast n x.obj v).pb ((CAN_OBJ_STAT.PEND n).at x.obj) true

theorem State.canFailed_leaves (s : State) (n : Fin 8) (x : CanTx) {v : Nat} (hv : v ≠ 1) (h8 : v < 8) :
    CanReg s (s.canFailed n.val x v) (cancelRegs n.val x.obj) ∧
      (s.canFailed n.val x v).g ((CAN_OBJ_STAT.LAST n.val).at x.obj) = (if x.cancelled then laCANCELLED else v) ∧
      (s.canFailed n.val x v).flag ((CAN_OBJ_STAT.PEND n.val).at x.obj) =
        (if x.cancelled || x.single then s.flag ((CAN_OBJ_STAT.PEND n.val).at x.obj) else true) ∧
      (s.canFailed n.val x v).evPend (evCan n.val) = true ∧
      ((s.rd (CAN_TX_FAIL.off n.val)).toNat + 1 < 0xFFFFFFFF →
        ((s.canFailed n.val x v).rd (CAN_TX_FAIL.off n.val)).toNat = (s.rd (CAN_TX_FAIL.off n.val)).toNat + 1) ∧
      ((s.rd (CAN_CANCEL_CNT.off n.val)).toNat + 1 < 0xFFFFFFFF →
        ((s.canFailed n.val x v).rd (CAN_CANCEL_CNT.off n.val)).toNat = (s.rd (CAN_CANCEL_CNT.off n.val)).toNat + (if x.cancelled then 1 else 0)) := by
  have hsepP : ((CAN_OBJ_STAT.LAST n.val).at x.obj).sep ((CAN_OBJ_STAT.PEND n.val).at x.obj) = true := by simp [FRef.sep, FRef.at]
  unfold State.canFailed
  cases hx : x.cancelled with
  | true =>
    obtain ⟨hk, hlast, hev, hsep, hfail, hcan⟩ := s.cancelled_leaves n x.obj
    simp only [if_true, Bool.true_or]
    exact ⟨hk, hlast, State.flag_of_g (hsep _ rfl hsepP), hev, hfail, hcan⟩
  | false =>
    obtain ⟨hk, hlast, hev, hsep, hfail⟩ := s.setLast_leaves n x.obj hv h8
    have hcan : (s.setLast n.val x.obj v).rd (CAN_CANCEL_CNT.off n.val) = s.rd (CAN_CANCEL_CNT.off n.val) := by
      refine hk.toEff.word (fun hm => ?_) (isCan_fixed (isCan_reg n (d := 0x50) (by decide)))
      rcases List.mem_cons.1 hm with hm | hm
      · exact List.ne_of_not_mem_cons (bank_notMem n _ x.obj (l := [0x50]) (by decide)) hm.symm
      · exact can_notMem n.val (d := 0x50) (l := [0x48, 0x58, 0x20]) (by decide) hm
    have hk' : CanReg s (s.setLast n.val x.obj v) (cancelRegs n.val x.obj) := hk.mono fun k hm => List.mem_cons_of_mem _ hm
    have hpend := State.flag_of_g (hsep _ rfl hsepP)
    simp only [Bool.false_eq_true, if_false, Bool.false_or, Nat.add_zero]
    cases hsin : x.single with
    | true =>
      simp only [if_true]
      exact ⟨hk', hlast, hpend, hev, hfail, fun _ => congrArg _ hcan⟩
    | false =>
      simp only [Bool.false_eq_true, if_false]
      obtain ⟨a, ha⟩ : ∃ a, s.setLast n.val x.obj v = a := ⟨_, rfl⟩
      rw [ha] at hk' hlast hev hfail hcan ⊢
      have hk2 := CanOp.p a ((CAN_OBJ_STAT.PEND n.val).at x.obj) (b2n true) (l := [objStat n.val x.obj]) (isCan_objStat n x.obj) List.mem_cons_self
      have hf2 := a.flag_pb_self (f := (CAN_OBJ_STAT.PEND n.val).at x.obj) true (by simp [FRef.at]) rfl
      have hl2 := a.g_pb_sep (f := (CAN_OBJ_STAT.PEND n.val).at x.obj) (g := (CAN_OBJ_STAT.LAST n.val).at x.obj) true (by simp [FRef.sep, FRef.at])
      rw [State.pb] at hf2 hl2 ⊢
      obtain ⟨t, ht⟩ : ∃ t, a.p ((CAN_OBJ_STAT.PEND n.val).at x.obj) (b2n true) = t := ⟨_, rfl⟩
      rw [ht] at hk2 hf2 hl2 ⊢
      have hne : ∀ d, d < 0x2000 → t.rd (0x1C0000 + d + n.val * 0x2000) = a.rd (0x1C0000 + d + n.val * 0x2000) := fun d hd => hk2.same _ fun hm =>
        List.ne_of_not_mem_cons (bank_notMem n _ x.obj (l := [d]) (by simpa using hd)) (List.mem_singleton.1 hm).symm
      have h48 : t.rd (CAN_TX_FAIL.off n.val) = a.rd (CAN_TX_FAIL.off n.val) := hne 0x48 (by decide)
      have h50 : t.rd (CAN_CANCEL_CNT.off n.val) = a.rd (CAN_CANCEL_CNT.off n.val) := hne 0x50 (by decide)
      exact ⟨hk'.trans (hk2.toCanReg.mono (by simp)), hl2.trans hlast, hf2, hk2.toEff.pend _ (evCan_lt n) hev, fun hcnt => by rw [h48, hfail hcnt],
        fun _ => by rw [h50, hcan]⟩

/-- The registers that an error on the bus may change beside Sump's. -/
abbrev bumpRegs (n : Nat) : List Nat := CAN_STAT.off n :: CAN_BUSOFF_CNT.off n :: canEvRegs n

/-- An error on the bus raises TEC by 8. -/
def State.canBumped (s : State) (n : Nat) (bump : Bool) : State := if bump then s.canTec n (s.g (CAN_STAT.TEC n) + 8) else s

theorem State.canBumped_leaves (s : State) (n : Fin 8) (bump : Bool) : CanReg s (s.canBumped n.val bump) (bumpRegs n.val) := by
  unfold State.canBumped
  split
  · by_cases h : s.g (CAN_STAT.TEC n.val) + 8 ≤ 255
    · exact (s.canTec_low n h).1.toCanReg.mono (by simp)
    · exact (s.canTec_high n (by omega)).1
  · exact CanReg.refl s _

theorem bump_notMem (n : Fin 8) (o : Nat) : objStat n.val o ∉ bumpRegs n.val := bank_notMem n _ o (l := [4, 0x40, 0x58, 0x20]) (by decide)

/-- The outcome that a failed attempt reports. -/
def failCode (e : CanEnd) : Nat := if e = .arb then laARB else laERROR

theorem canTxDone_fails {e : CanEnd} {age : BitVec 24} {x : CanTx} (htx : (s.canc n.val).tx = some x) (he : e ≠ .ok) {a : State}
    (ha : s.setCan n.val { s.canc n.val with tx := none } = a) :
    canTxDone n e age s = (a.canBumped n.val (decide (e = .error true))).canFailed n.val x (failCode e) := by
  unfold canTxDone
  dsimp only
  rw [htx]
  dsimp only
  rw [ha]
  cases e with
  | ok => exact absurd rfl he
  | arb => rfl
  | error bump => cases bump <;> rfl

theorem failCode_lt (e : CanEnd) : failCode e ≠ 1 ∧ failCode e < 8 := by
  unfold failCode
  split <;> decide

theorem canTxDone_failed {e : CanEnd} {age : BitVec 24} {x : CanTx} (hs : s.resetReq = none) (htx : (s.canc n.val).tx = some x)
    (hfc : (s.rd (CAN_TX_FAIL.off n.val)).toNat + 1 < 0xFFFFFFFF) (hcc : (s.rd (CAN_CANCEL_CNT.off n.val)).toNat + 1 < 0xFFFFFFFF) (he : e ≠ .ok) :
    ∃ t, exec (.canTxDone n e age) s = .next t ∧ t.canc n.val = { s.canc n.val with tx := none } ∧
      t.g ((CAN_OBJ_STAT.LAST n.val).at x.obj) = (if x.cancelled then laCANCELLED else if e = .arb then laARB else laERROR) ∧
      t.flag ((CAN_OBJ_STAT.PEND n.val).at x.obj) =
        (if x.cancelled || x.single then s.flag ((CAN_OBJ_STAT.PEND n.val).at x.obj) else true) ∧
      (t.rd (CAN_CANCEL_CNT.off n.val)).toNat = (s.rd (CAN_CANCEL_CNT.off n.val)).toNat + (if x.cancelled then 1 else 0) ∧
      (t.rd (CAN_TX_FAIL.off n.val)).toNat = (s.rd (CAN_TX_FAIL.off n.val)).toNat + 1 ∧ t.evPend (evCan n.val) = true := by
  have hregs := s.setCan_regs n.val { s.canc n.val with tx := none }
  have hreset := s.setCan_resetReq n.val { s.canc n.val with tx := none }
  have hpend := s.setCan_pending n.val { s.canc n.val with tx := none }
  have hcan := s.setCan_canc n.val { s.canc n.val with tx := none }
  obtain ⟨a, ha⟩ : ∃ a, s.setCan n.val { s.canc n.val with tx := none } = a := ⟨_, rfl⟩
  rw [ha] at hregs hreset hpend hcan
  have hk := a.canBumped_leaves n (decide (e = .error true))
  rw [exec_canTxDone, canTxDone_fails htx he ha]
  generalize a.canBumped n.val (decide (e = .error true)) = b at *
  have hpf : b.flag ((CAN_OBJ_STAT.PEND n.val).at x.obj) = s.flag ((CAN_OBJ_STAT.PEND n.val).at x.obj) :=
    (hk.toEff.flag (f := (CAN_OBJ_STAT.PEND n.val).at x.obj) (bump_notMem n x.obj) (isCan_fixed (isCan_objStat n x.obj))).trans (State.flag_of_regs hregs _)
  have hrf : b.rd (CAN_TX_FAIL.off n.val) = s.rd (CAN_TX_FAIL.off n.val) :=
    (hk.toEff.word (can_notMem n.val (d := 0x48) (l := [4, 0x40, 0x58, 0x20]) (by decide)) (isCan_fixed (isCan_reg n (d := 0x48) (by decide)))).trans
      (State.rd_of_regs hregs _)
  have hrc : b.rd (CAN_CANCEL_CNT.off n.val) = s.rd (CAN_CANCEL_CNT.off n.val) :=
    (hk.toEff.word (can_notMem n.val (d := 0x50) (l := [4, 0x40, 0x58, 0x20]) (by decide)) (isCan_fixed (isCan_reg n (d := 0x50) (by decide)))).trans
      (State.rd_of_regs hregs _)
  obtain ⟨hk2, hlast, hp2, hev, hfail, hcancel⟩ := b.canFailed_leaves n x (failCode_lt e).1 (failCode_lt e).2
  rw [hpf] at hp2
  rw [hrf] at hfail
  rw [hrc] at hcancel
  generalize b.canFailed n.val x (failCode e) = t at *
  refine ⟨t, congrArg _ (State.finish_kept (hk2.resetReq.trans (hk.resetReq.trans (hreset.trans hs))) (hk2.pending.trans (hk.pending.trans hpend))), ?_, hlast, hp2,
    hcancel hcc, hfail hfc, hev⟩
  rw [State.canc_of_can hk2.can, State.canc_of_can hk.can, hcan]

theorem canTxDone_error {age : BitVec 24} {x : CanTx} (hs : s.resetReq = none) (htx : (s.canc n.val).tx = some x)
    (hst : s.canState n.val = csActive ∨ s.canState n.val = csPassive) (hbc : (s.rd (CAN_BUSOFF_CNT.off n.val)).toNat + 1 < 0xFFFFFFFF) :
    ∃ t, exec (.canTxDone n (.error true) age) s = .next t ∧ t.g (CAN_STAT.TEC n.val) = min 255 (s.g (CAN_STAT.TEC n.val) + 8) ∧
      t.canState n.val = (if 255 < s.g (CAN_STAT.TEC n.val) + 8 then csBusOff
        else if 128 ≤ s.g (CAN_STAT.TEC n.val) + 8 ∨ 128 ≤ s.g (CAN_STAT.REC n.val) then csPassive else csActive) ∧
      (255 < s.g (CAN_STAT.TEC n.val) + 8 → clDegraded ≤ t.evKept (evCan n.val) ∧
        (t.rd (CAN_BUSOFF_CNT.off n.val)).toNat = (s.rd (CAN_BUSOFF_CNT.off n.val)).toNat + 1) := by
  have hregs := s.setCan_regs n.val { s.canc n.val with tx := none }
  have hreset := s.setCan_resetReq n.val { s.canc n.val with tx := none }
  have hpend := s.setCan_pending n.val { s.canc n.val with tx := none }
  obtain ⟨a, ha⟩ : ∃ a, s.setCan n.val { s.canc n.val with tx := none } = a := ⟨_, rfl⟩
  rw [ha] at hregs hreset hpend
  have hk := a.canBumped_leaves n true
  have hbump : a.canBumped n.val true = a.canTec n.val (s.g (CAN_STAT.TEC n.val) + 8) := by
    rw [← State.g_of_regs hregs]
    exact if_pos rfl
  rw [exec_canTxDone, canTxDone_fails htx CanEnd.noConfusion ha]
  have hfacts : (a.canBumped n.val true).g (CAN_STAT.TEC n.val) = min 255 (s.g (CAN_STAT.TEC n.val) + 8) ∧
      (a.canBumped n.val true).canState n.val = (if 255 < s.g (CAN_STAT.TEC n.val) + 8 then csBusOff
        else if 128 ≤ s.g (CAN_STAT.TEC n.val) + 8 ∨ 128 ≤ s.g (CAN_STAT.REC n.val) then csPassive else csActive) ∧
      (255 < s.g (CAN_STAT.TEC n.val) + 8 → (a.canBumped n.val true).evPend (evCan n.val) = true ∧ clDegraded ≤ (a.canBumped n.val true).evKept (evCan n.val) ∧
        ((a.canBumped n.val true).rd (CAN_BUSOFF_CNT.off n.val)).toNat = (s.rd (CAN_BUSOFF_CNT.off n.val)).toNat + 1) := by
    rw [hbump]
    have hsta : a.canState n.val = s.canState n.val := State.g_of_regs hregs _
    generalize s.g (CAN_STAT.TEC n.val) + 8 = tec at *
    by_cases h : tec ≤ 255
    · obtain ⟨_, htec, hstate⟩ := a.canTec_low n h
      rw [hsta, if_pos hst, State.g_of_regs hregs] at hstate
      exact ⟨by rw [htec, Nat.min_eq_right h], by rw [hstate, if_neg (by omega)]; rfl, fun hc => absurd hc (by omega)⟩
    · obtain ⟨_, htec, hstate, hev, hkept, hcnt⟩ := a.canTec_high n (tec := tec) (by omega)
      rw [State.rd_of_regs hregs] at hcnt
      exact ⟨by rw [htec, Nat.min_eq_left (by omega)], by rw [hstate, if_pos (by omega)], fun _ => ⟨hev, hkept, hcnt hbc⟩⟩
  obtain ⟨htec, hstate, hoff⟩ := hfacts
  rw [show decide (CanEnd.error true = .error true) = true from rfl]
  generalize a.canBumped n.val true = b at *
  obtain ⟨hk2, _⟩ := b.canFailed_leaves n x (failCode_lt (.error true)).1 (failCode_lt (.error true)).2
  generalize b.canFailed n.val x (failCode (.error true)) = t at *
  have hnot : ∀ d, d < 0x2000 → d ∉ [0x50, 0x48, 0x58, 0x20] → 0x1C0000 + d + n.val * 0x2000 ∉ cancelRegs n.val x.obj := by
    intro d hd hm hin
    rcases List.mem_cons.1 hin with hin | hin
    · exact can_notMem n.val (d := d) (l := [0x50]) (fun h => hm (by simp [List.mem_singleton.1 h])) (List.mem_singleton.2 hin)
    · rcases List.mem_cons.1 hin with hin | hin
      · exact List.ne_of_not_mem_cons (bank_notMem n _ x.obj (l := [d]) (by simpa using hd)) hin.symm
      · exact can_notMem n.val (d := d) (l := [0x48, 0x58, 0x20]) (fun h => hm (List.mem_cons_of_mem _ h)) hin
  have h4 : ∀ f : FRef, f.off = CAN_STAT.off n.val → t.g f = b.g f := fun f hf =>
    hk2.toEff.g (by rw [hf]; exact hnot 4 (by decide) (by decide)) (by rw [hf]; exact isCan_fixed (isCan_stat n))
  have h40 : t.rd (CAN_BUSOFF_CNT.off n.val) = b.rd (CAN_BUSOFF_CNT.off n.val) :=
    hk2.toEff.word (hnot 0x40 (by decide) (by decide)) (isCan_fixed (isCan_reg n (d := 0x40) (by decide)))
  refine ⟨t, congrArg _ (State.finish_kept (hk2.resetReq.trans (hk.resetReq.trans (hreset.trans hs))) (hk2.pending.trans (hk.pending.trans hpend))),
    (h4 _ rfl).trans htec, (h4 _ rfl).trans hstate, fun hc => ?_⟩
  obtain ⟨hev, hkept, hcnt⟩ := hoff hc
  exact ⟨hkept.trans (hk2.toEff.kept _ (evCan_lt n) hev), by rw [h40, hcnt]⟩

/-! ### A frame sent (R351, R353) -/

/-- A frame sent, stamped and reported. -/
def State.canSent (s : State) (n o stamp : Nat) : State :=
  (((s.wr (bankKey (CAN_OBJ_STAMP_LO.off n) o) (BitVec.ofNat 32 stamp)).wr (bankKey (CAN_OBJ_STAMP_HI.off n) o) (BitVec.ofNat 32 (stamp / 2 ^ 32)))).p
    ((CAN_OBJ_STAT.LAST n).at o) laOK

/-- A late cancel noted. -/
def State.canLate (s : State) (n : Nat) (x : CanTx) : State := if x.cancelled then s.pb ((CAN_OBJ_STAT.CXL_LATE n).at x.obj) true else s

theorem canTxDone_sent {age : BitVec 24} {x : CanTx} (htx : (s.canc n.val).tx = some x) {a b : State} {stamp : Nat}
    (ha : s.setCan n.val { s.canc n.val with tx := none } = a)
    (hb : (a.canTec n.val (a.g (CAN_STAT.TEC n.val) - 1)).traffic (CAN_TX_FRAMES_LO.off n.val) 1 = b) (hstamp : b.sofStamp age.toNat = stamp)
    (hloop : ((b.canSent n.val x.obj stamp).canLate n.val x).canMode n.val ≠ cmLoop) :
    canTxDone n .ok age s = (b.canSent n.val x.obj stamp).canLate n.val x := by
  unfold State.canSent at hloop ⊢
  unfold State.canLate at hloop ⊢
  unfold canTxDone
  dsimp only
  rw [htx]
  dsimp only
  rw [ha, hb, hstamp]
  exact if_neg hloop

theorem State.sofStamp_congr {s t : State} (h : t.fns = s.fns) (age : Nat) : t.sofStamp age = s.sofStamp age := by
  rw [State.sofStamp, State.sofStamp, h]

theorem CanOp.fns {t : State} {l : List Nat} (h : CanOp s t l) : t.fns = s.fns :=
  State.fns_congr h.clep (State.rd64_congr (h.away _ (by decide)) (h.away _ (by decide)))

theorem State.canSent_leaves (s : State) (n : Fin 8) (o : Nat) {stamp : Nat} (hstamp : stamp < 2 ^ 48) :
    CanOp s (s.canSent n.val o stamp) [bankKey (CAN_OBJ_STAMP_LO.off n.val) o, bankKey (CAN_OBJ_STAMP_HI.off n.val) o, objStat n.val o] ∧
      (s.canSent n.val o stamp).g ((CAN_OBJ_STAT.LAST n.val).at o) = laOK ∧
      (∀ f : FRef, f.off = objStat n.val o → ((CAN_OBJ_STAT.LAST n.val).at o).sep f = true → (s.canSent n.val o stamp).g f = s.g f) ∧
      ((s.canSent n.val o stamp).rd (bankKey (CAN_OBJ_STAMP_LO.off n.val) o)).toNat +
        2 ^ 32 * ((s.canSent n.val o stamp).rd (bankKey (CAN_OBJ_STAMP_HI.off n.val) o)).toNat = stamp := by
  have hSL : objStat n.val o ≠ bankKey (CAN_OBJ_STAMP_LO.off n.val) o :=
    bankKey_ne (by simp only [CAN_OBJ_STAT.off]; omega) (by simp only [CAN_OBJ_STAMP_LO.off]; omega) (by simp only [CAN_OBJ_STAT.off, CAN_OBJ_STAMP_LO.off]; omega)
  have hSH : objStat n.val o ≠ bankKey (CAN_OBJ_STAMP_HI.off n.val) o :=
    bankKey_ne (by simp only [CAN_OBJ_STAT.off]; omega) (by simp only [CAN_OBJ_STAMP_HI.off]; omega) (by simp only [CAN_OBJ_STAT.off, CAN_OBJ_STAMP_HI.off]; omega)
  have hLH : bankKey (CAN_OBJ_STAMP_LO.off n.val) o ≠ bankKey (CAN_OBJ_STAMP_HI.off n.val) o :=
    bankKey_ne (by simp only [CAN_OBJ_STAMP_LO.off]; omega) (by simp only [CAN_OBJ_STAMP_HI.off]; omega)
      (by simp only [CAN_OBJ_STAMP_LO.off, CAN_OBJ_STAMP_HI.off]; omega)
  unfold State.canSent
  have hk1 := CanOp.wr s (BitVec.ofNat 32 stamp) (l := [bankKey (CAN_OBJ_STAMP_LO.off n.val) o]) (isCan_bank n (d := 0x114) (by decide) o) List.mem_cons_self
  have h1 := s.rd_wr_same (bankKey (CAN_OBJ_STAMP_LO.off n.val) o) (BitVec.ofNat 32 stamp)
  obtain ⟨a, ha⟩ : ∃ a, s.wr (bankKey (CAN_OBJ_STAMP_LO.off n.val) o) (BitVec.ofNat 32 stamp) = a := ⟨_, rfl⟩
  rw [ha] at hk1 h1 ⊢
  have hk2 := CanOp.wr a (BitVec.ofNat 32 (stamp / 2 ^ 32)) (l := [bankKey (CAN_OBJ_STAMP_HI.off n.val) o]) (isCan_bank n (d := 0x118) (by decide) o)
    List.mem_cons_self
  have h2 := a.rd_wr_same (bankKey (CAN_OBJ_STAMP_HI.off n.val) o) (BitVec.ofNat 32 (stamp / 2 ^ 32))
  obtain ⟨b, hb⟩ : ∃ b, a.wr (bankKey (CAN_OBJ_STAMP_HI.off n.val) o) (BitVec.ofNat 32 (stamp / 2 ^ 32)) = b := ⟨_, rfl⟩
  rw [hb] at hk2 h2 ⊢
  have hk3 := CanOp.p b ((CAN_OBJ_STAT.LAST n.val).at o) laOK (l := [objStat n.val o]) (isCan_objStat n o) List.mem_cons_self
  have h3 := b.g_p_fit (f := (CAN_OBJ_STAT.LAST n.val).at o) (v := laOK) (by simp [FRef.at, laOK]) (by simp [FRef.at])
  have hsep : ∀ f : FRef, ((CAN_OBJ_STAT.LAST n.val).at o).sep f = true → (b.p ((CAN_OBJ_STAT.LAST n.val).at o) laOK).g f = b.g f := fun f hf => b.g_p_sep _ hf
  obtain ⟨t, ht⟩ : ∃ t, b.p ((CAN_OBJ_STAT.LAST n.val).at o) laOK = t := ⟨_, rfl⟩
  rw [ht] at hk3 h3 hsep ⊢
  refine ⟨((hk1.mono (by simp)).trans (hk2.mono (by simp))).trans (hk3.mono (by simp)), h3, fun f hf hs => ?_, ?_⟩
  · rw [hsep f hs, hk2.g (by rw [hf]; simpa using hSH), hk1.g (by rw [hf]; simpa using hSL)]
  · rw [hk3.same _ (by simpa using hSL.symm), hk3.same _ (by simpa using hSH.symm), h2, hk2.same _ (by simpa using hLH), h1, BitVec.toNat_ofNat, BitVec.toNat_ofNat]
    omega

theorem State.canLate_leaves (s : State) (n : Fin 8) (x : CanTx) : CanOp s (s.canLate n.val x) [objStat n.val x.obj] ∧
    (s.canLate n.val x).flag ((CAN_OBJ_STAT.CXL_LATE n.val).at x.obj) = (x.cancelled || s.flag ((CAN_OBJ_STAT.CXL_LATE n.val).at x.obj)) ∧
    (∀ f : FRef, ((CAN_OBJ_STAT.CXL_LATE n.val).at x.obj).sep f = true → (s.canLate n.val x).g f = s.g f) := by
  unfold State.canLate
  cases x.cancelled with
  | true => exact ⟨CanOp.p s _ _ (isCan_objStat n x.obj) List.mem_cons_self,
      s.flag_pb_self (f := (CAN_OBJ_STAT.CXL_LATE n.val).at x.obj) true (by simp [FRef.at]) rfl, fun f hf => s.g_pb_sep true hf⟩
  | false => exact ⟨CanOp.refl s _, rfl, fun _ _ => rfl⟩

theorem canTxDone_ok {age : BitVec 24} {x : CanTx} (hs : s.resetReq = none) (htx : (s.canc n.val).tx = some x) (hloop : s.canMode n.val ≠ cmLoop) :
    ∃ t, exec (.canTxDone n .ok age) s = .next t ∧ t.canc n.val = { s.canc n.val with tx := none } ∧
      t.g ((CAN_OBJ_STAT.LAST n.val).at x.obj) = laOK ∧ t.g (CAN_STAT.TEC n.val) = s.g (CAN_STAT.TEC n.val) - 1 ∧
      t.flag ((CAN_OBJ_STAT.CXL_LATE n.val).at x.obj) = (x.cancelled || s.flag ((CAN_OBJ_STAT.CXL_LATE n.val).at x.obj)) ∧
      t.flag ((CAN_OBJ_STAT.PEND n.val).at x.obj) = s.flag ((CAN_OBJ_STAT.PEND n.val).at x.obj) ∧
      t.rd64 (CAN_TX_FRAMES_LO.off n.val) = (s.rd64 (CAN_TX_FRAMES_LO.off n.val) + 1) % 2 ^ 64 ∧
      (t.rd (bankKey (CAN_OBJ_STAMP_LO.off n.val) x.obj)).toNat +
        2 ^ 32 * (t.rd (bankKey (CAN_OBJ_STAMP_HI.off n.val) x.obj)).toNat = s.sofStamp age.toNat := by
  have hregs := s.setCan_regs n.val { s.canc n.val with tx := none }
  have hclep := s.setCan_clep n.val { s.canc n.val with tx := none }
  have hreset := s.setCan_resetReq n.val { s.canc n.val with tx := none }
  have hpend := s.setCan_pending n.val { s.canc n.val with tx := none }
  have hcan := s.setCan_canc n.val { s.canc n.val with tx := none }
  obtain ⟨a, ha⟩ : ∃ a, s.setCan n.val { s.canc n.val with tx := none } = a := ⟨_, rfl⟩
  rw [ha] at hregs hclep hreset hpend hcan
  have htlt := s.tec_lt n.val
  obtain ⟨hk1, htec1, _⟩ := a.canTec_low n (tec := a.g (CAN_STAT.TEC n.val) - 1) (by rw [State.g_of_regs hregs]; omega)
  rw [State.g_of_regs hregs] at htec1 hk1
  obtain ⟨b, hb⟩ : ∃ b, a.canTec n.val (s.g (CAN_STAT.TEC n.val) - 1) = b := ⟨_, rfl⟩
  rw [hb] at hk1 htec1
  obtain ⟨hk2, hcnt⟩ := State.traffic_canReg (n := n) b (d := 0x88) (by decide)
  obtain ⟨c, hc⟩ : ∃ c, b.traffic (CAN_TX_FRAMES_LO.off n.val) 1 = c := ⟨_, rfl⟩
  have hk2' : CanOp b c [CAN_TX_FRAMES_LO.off n.val, CAN_TX_FRAMES_LO.off n.val + 4] := hc ▸ hk2
  have hcnt' : c.rd64 (CAN_TX_FRAMES_LO.off n.val) = (b.rd64 (CAN_TX_FRAMES_LO.off n.val) + 1) % 2 ^ 64 := hc ▸ hcnt
  have hhi : CAN_TX_FRAMES_LO.off n.val + 4 = CAN_TX_FRAMES_HI.off n.val := by
    simp only [CAN_TX_FRAMES_LO.off, CAN_TX_FRAMES_HI.off]
    omega
  rw [hhi] at hk2'
  have hb64 : b.rd64 (CAN_TX_FRAMES_LO.off n.val) = s.rd64 (CAN_TX_FRAMES_LO.off n.val) := by
    refine State.rd64_congr ((hk1.same _ (can_notMem n.val (d := 0x88) (l := [4]) (by decide))).trans (State.rd_of_regs hregs _)) ?_
    rw [hhi]
    exact (hk1.same _ (can_notMem n.val (d := 0x8C) (l := [4]) (by decide))).trans (State.rd_of_regs hregs _)
  have hfns : c.fns = s.fns := hk2'.fns.trans (hk1.fns.trans (State.fns_congr hclep (State.rd64_congr (State.rd_of_regs hregs _) (State.rd_of_regs hregs _))))
  have hlt := s.sofStamp_lt age.toNat
  have hst := State.sofStamp_congr hfns age.toNat
  generalize s.sofStamp age.toNat = stamp at *
  obtain ⟨hk3, hlast, hsep3, hstamp⟩ := c.canSent_leaves n x.obj hlt
  obtain ⟨d, hd⟩ : ∃ d, c.canSent n.val x.obj stamp = d := ⟨_, rfl⟩
  rw [hd] at hk3 hlast hsep3 hstamp
  obtain ⟨hk4, hlate, hsep4⟩ := d.canLate_leaves n x
  obtain ⟨t, ht⟩ : ∃ t, d.canLate n.val x = t := ⟨_, rfl⟩
  rw [ht] at hk4 hlate hsep4
  have hstat12 : ∀ f : FRef, f.off = objStat n.val x.obj → c.g f = s.g f := fun f hf =>
    (hk2'.g (by rw [hf]; exact bank_notMem n _ x.obj (l := [0x88, 0x8C]) (by decide))).trans
      ((hk1.g (by rw [hf]; exact bank_notMem n _ x.obj (l := [4]) (by decide))).trans (State.g_of_regs hregs f))
  have hreg34 : ∀ e, e < 0x2000 → t.rd (0x1C0000 + e + n.val * 0x2000) = c.rd (0x1C0000 + e + n.val * 0x2000) := by
    intro e he
    have h1 : bankKey (CAN_OBJ_STAT.off n.val) x.obj ≠ 0x1C0000 + e + n.val * 0x2000 :=
      List.ne_of_not_mem_cons (bank_notMem n _ x.obj (l := [e]) (by simpa using he))
    have h2 : bankKey (CAN_OBJ_STAMP_LO.off n.val) x.obj ≠ 0x1C0000 + e + n.val * 0x2000 :=
      List.ne_of_not_mem_cons (bank_notMem n _ x.obj (l := [e]) (by simpa using he))
    have h3 : bankKey (CAN_OBJ_STAMP_HI.off n.val) x.obj ≠ 0x1C0000 + e + n.val * 0x2000 :=
      List.ne_of_not_mem_cons (bank_notMem n _ x.obj (l := [e]) (by simpa using he))
    rw [hk4.same _ (by simpa using h1.symm), hk3.same _ (by simpa using ⟨h2.symm, h3.symm, h1.symm⟩)]
  have hmode : t.canMode n.val = s.canMode n.val := by
    have hcfg : t.rd (CAN_CFG.off n.val) = c.rd (CAN_CFG.off n.val) := hreg34 0 (by decide)
    have hcfg2 : c.rd (CAN_CFG.off n.val) = b.rd (CAN_CFG.off n.val) := hk2'.same _ (can_notMem n.val (d := 0) (l := [0x88, 0x8C]) (by decide))
    have hcfg1 : b.rd (CAN_CFG.off n.val) = a.rd (CAN_CFG.off n.val) := hk1.same _ (can_notMem n.val (d := 0) (l := [4]) (by decide))
    rw [State.canMode, State.canMode, State.g, State.g, hcfg, hcfg2, hcfg1, State.rd_of_regs hregs]
  have hx := canTxDone_sent (b := c) (stamp := stamp) htx ha (by rw [State.g_of_regs hregs, hb, hc]) hst (by rw [hd, ht, hmode]; exact hloop)
  rw [hd, ht] at hx
  rw [exec_canTxDone, hx]
  have hstamps : ∀ k, k = bankKey (CAN_OBJ_STAMP_LO.off n.val) x.obj ∨ k = bankKey (CAN_OBJ_STAMP_HI.off n.val) x.obj → t.rd k = d.rd k := by
    rintro k (rfl | rfl)
    · exact hk4.same _ (by
        simpa using bankKey_ne (by simp only [CAN_OBJ_STAMP_LO.off]; omega) (by simp only [CAN_OBJ_STAT.off]; omega)
          (by simp only [CAN_OBJ_STAT.off, CAN_OBJ_STAMP_LO.off]; omega))
    · exact hk4.same _ (by
        simpa using bankKey_ne (by simp only [CAN_OBJ_STAMP_HI.off]; omega) (by simp only [CAN_OBJ_STAT.off]; omega)
          (by simp only [CAN_OBJ_STAT.off, CAN_OBJ_STAMP_HI.off]; omega))
  refine ⟨t, congrArg _ (State.finish_kept ?_ ?_), ?_, ?_, ?_, ?_, ?_, ?_, ?_⟩
  · exact hk4.resetReq.trans (hk3.resetReq.trans (hk2'.resetReq.trans (hk1.resetReq.trans (hreset.trans hs))))
  · exact hk4.pending.trans (hk3.pending.trans (hk2'.pending.trans (hk1.pending.trans hpend)))
  · rw [State.canc_of_can hk4.can, State.canc_of_can hk3.can, State.canc_of_can hk2'.can, State.canc_of_can hk1.can, hcan]
  · rw [hsep4 _ (by simp [FRef.sep, FRef.at]), hlast]
  · have hs4 : t.rd (CAN_STAT.off n.val) = c.rd (CAN_STAT.off n.val) := hreg34 4 (by decide)
    rw [State.g, hs4, hk2'.same _ (can_notMem n.val (d := 4) (l := [0x88, 0x8C]) (by decide)), ← State.g, htec1]
  · rw [hlate, State.flag_of_g (hsep3 _ rfl (by simp [FRef.sep, FRef.at])), State.flag_of_g (hstat12 _ rfl)]
  · rw [State.flag_of_g (hsep4 _ (by simp [FRef.sep, FRef.at])), State.flag_of_g (hsep3 _ rfl (by simp [FRef.sep, FRef.at])), State.flag_of_g (hstat12 _ rfl)]
  · have h88 : t.rd (CAN_TX_FRAMES_LO.off n.val) = c.rd (CAN_TX_FRAMES_LO.off n.val) := hreg34 0x88 (by decide)
    have h8C : t.rd (CAN_TX_FRAMES_HI.off n.val) = c.rd (CAN_TX_FRAMES_HI.off n.val) := hreg34 0x8C (by decide)
    rw [← hhi] at h8C
    rw [State.rd64_congr h88 h8C, hcnt', hb64]
  · rw [hstamps _ (.inl rfl), hstamps _ (.inr rfl), hstamp]

end

end Sys2Proof.Machine
end

section
/-! PROOF of CanControllers (R362), continued: a write that takes a controller to MODE INIT. -/

namespace Sys2Proof.Machine

/- One evaluation after another: each of them, left to itself, would hold a thread. -/
set_option Elab.async false

section
variable {n : Fin 8} {s : State}

/-! ### A frame cut (R362) -/

/-- An outcome leaves the other objects, and the other fields of its own. -/
theorem State.setLast_keeps (s : State) (n : Fin 8) (o : Nat) {v : Nat} (hv : v ≠ 1) (h8 : v < 8) {o' : Nat} {f : FRef} (hf : f.off = objStat n.val o')
    (h : o' ≠ o ∨ ((CAN_OBJ_STAT.LAST n.val).at o).sep f = true) : (s.setLast n.val o v).g f = s.g f := by
  obtain ⟨hk, _, _, hsep, _⟩ := s.setLast_leaves n o hv h8
  by_cases he : o' = o
  · exact hsep f (by rw [hf, he]) (h.resolve_left fun hc => hc he)
  · refine hk.toEff.g ?_ (by rw [hf]; exact isCan_fixed (isCan_objStat n o'))
    rw [hf]
    intro hm
    rcases List.mem_cons.1 hm with hm | hm
    · exact he (bankKey_inj hm)
    · exact bank_notMem n _ o' (l := [0x48, 0x58, 0x20]) (by decide) hm

/-- The end of the frame in the shift register as it is cut. -/
def State.cutTx (s : State) (n : Nat) (tx : Option CanTx) : State :=
  match tx with
  | some x => if x.single then s.setLast n x.obj laINIT else s.pb ((CAN_OBJ_STAT.PEND n).at x.obj) (!x.cancelled)
  | none => s

/-- The end of the single attempt that waits as it is cut. -/
def State.cutWait (s : State) (n : Nat) (w : Option (Nat × Bool × Int × Nat)) : State :=
  match w with
  | some e => s.setLast n e.1 laINIT
  | none => s

/-- A controller's record with what it sends cut. -/
def Can.cut (c : Can) : Can := { c with tx := none, waitSingle := none, arbOpen := false, tried := [] }

theorem State.canCut_eq {a : State} (ha : s.setCan n.val (s.canc n.val).cut = a) :
    s.canCut n.val = (a.cutTx n.val (s.canc n.val).tx).cutWait n.val (s.canc n.val).waitSingle := by
  unfold Can.cut at ha
  unfold State.canCut
  dsimp only
  rw [ha]
  generalize s.canc n.val = c
  obtain ⟨tx, wait, _, _, _, _, _, _, _, _, _, _, _⟩ := c
  cases tx with
  | none =>
    cases wait with
    | none => rfl
    | some e => rfl
  | some x =>
    cases wait with
    | none => rfl
    | some e => rfl

/-- What the end of a frame or of an attempt that is cut may change beside Sump's registers. -/
theorem State.cutTx_leaves (s : State) (n : Fin 8) (tx : Option CanTx) {k : Nat} (hk : isCan k = true) (hlow : k < 2 ^ 22)
    (hne : k ∉ [CAN_TX_FAIL.off n.val, CAN_EVT_CNT.off n.val, CAN_SAT.off n.val]) : (s.cutTx n.val tx).rd k = s.rd k ∧
      (s.cutTx n.val tx).bare = s.bare ∧ (s.cutTx n.val tx).resetReq = s.resetReq := by
  have hstat : ∀ o, k ≠ objStat n.val o := fun o hc => by
    have := bankKey_ge (CAN_OBJ_STAT.off n.val) o
    rw [hc] at hlow
    exact absurd hlow (Nat.not_lt.2 this)
  unfold State.cutTx
  cases tx with
  | none => exact ⟨rfl, rfl, rfl⟩
  | some x =>
    dsimp only
    split
    · obtain ⟨hc, _⟩ := s.setLast_leaves n x.obj (v := laINIT) (by decide) (by decide)
      exact ⟨hc.toEff.word (fun hm => (List.mem_cons.1 hm).elim (hstat x.obj) hne) (isCan_fixed hk), hc.bare, hc.resetReq⟩
    · have hc := CanOp.p s ((CAN_OBJ_STAT.PEND n.val).at x.obj) (b2n (!x.cancelled)) (l := [objStat n.val x.obj]) (isCan_objStat n x.obj) List.mem_cons_self
      exact ⟨hc.same k fun hm => hstat x.obj (List.mem_singleton.1 hm), hc.bare, hc.resetReq⟩

theorem State.cutTx_ends (s : State) (n : Fin 8) {x : CanTx} : if x.single then (s.cutTx n.val (some x)).g ((CAN_OBJ_STAT.LAST n.val).at x.obj) = laINIT
    else (s.cutTx n.val (some x)).flag ((CAN_OBJ_STAT.PEND n.val).at x.obj) = !x.cancelled := by
  unfold State.cutTx
  dsimp only
  split
  · exact (s.setLast_leaves n x.obj (v := laINIT) (by decide) (by decide)).2.1
  · exact s.flag_pb_self (f := (CAN_OBJ_STAT.PEND n.val).at x.obj) (!x.cancelled) (by simp [FRef.at]) rfl

theorem State.cutWait_leaves (s : State) (n : Fin 8) (w : Option (Nat × Bool × Int × Nat)) {k : Nat} (hk : isCan k = true) (hlow : k < 2 ^ 22)
    (hne : k ∉ [CAN_TX_FAIL.off n.val, CAN_EVT_CNT.off n.val, CAN_SAT.off n.val]) : (s.cutWait n.val w).rd k = s.rd k ∧
      (s.cutWait n.val w).bare = s.bare ∧ (s.cutWait n.val w).resetReq = s.resetReq := by
  unfold State.cutWait
  cases w with
  | none => exact ⟨rfl, rfl, rfl⟩
  | some e =>
    obtain ⟨hc, _⟩ := s.setLast_leaves n e.1 (v := laINIT) (by decide) (by decide)
    refine ⟨hc.toEff.word (fun hm => (List.mem_cons.1 hm).elim (fun he => ?_) hne) (isCan_fixed hk), hc.bare, hc.resetReq⟩
    have := bankKey_ge (CAN_OBJ_STAT.off n.val) e.1
    rw [he] at hlow
    exact absurd hlow (Nat.not_lt.2 this)

/-- The attempt that waits, cut, leaves what the frame's end reported. -/
theorem State.cutWait_keeps (s : State) (n : Fin 8) (w : Option (Nat × Bool × Int × Nat)) (o : Nat) :
    (s.cutWait n.val w).flag ((CAN_OBJ_STAT.PEND n.val).at o) = s.flag ((CAN_OBJ_STAT.PEND n.val).at o) ∧
      (s.g ((CAN_OBJ_STAT.LAST n.val).at o) = laINIT → (s.cutWait n.val w).g ((CAN_OBJ_STAT.LAST n.val).at o) = laINIT) := by
  unfold State.cutWait
  cases w with
  | none => exact ⟨rfl, id⟩
  | some e =>
    dsimp only
    refine ⟨State.flag_of_g (s.setLast_keeps n e.1 (by decide) (by decide) (o' := o) rfl (.inr ?_)), fun h => ?_⟩
    · simp [FRef.sep, FRef.at]
    · by_cases he : o = e.1
      · rw [he]
        exact (s.setLast_leaves n e.1 (v := laINIT) (by decide) (by decide)).2.1
      · rw [s.setLast_keeps n e.1 (by decide) (by decide) (o' := o) rfl (.inl he), h]

theorem State.cutWait_ends (s : State) (n : Fin 8) (e : Nat × Bool × Int × Nat) :
    (s.cutWait n.val (some e)).g ((CAN_OBJ_STAT.LAST n.val).at e.1) = laINIT := (s.setLast_leaves n e.1 (v := laINIT) (by decide) (by decide)).2.1

/-- What a controller whose frames are cut shows. -/
structure Cut (s t : State) (n : Fin 8) : Prop where
  regs : ∀ d, d < 0x2000 → d ∉ [0x48, 0x58, 0x20] → t.rd (0x1C0000 + d + n.val * 0x2000) = s.rd (0x1C0000 + d + n.val * 0x2000)
  canc : t.canc n.val = (s.canc n.val).cut
  tx : ∀ x, (s.canc n.val).tx = some x → if x.single then t.g ((CAN_OBJ_STAT.LAST n.val).at x.obj) = laINIT
    else t.flag ((CAN_OBJ_STAT.PEND n.val).at x.obj) = !x.cancelled
  wait : ∀ e, (s.canc n.val).waitSingle = some e → t.g ((CAN_OBJ_STAT.LAST n.val).at e.1) = laINIT
  idle : (s.canc n.val).tx = none → (s.canc n.val).waitSingle = none → t.regs = s.regs
  resetReq : t.resetReq = s.resetReq
  pending : t.pending = s.pending

theorem State.canCut_cut (s : State) (n : Fin 8) : Cut s (s.canCut n.val) n := by
  have hregs := s.setCan_regs n.val (s.canc n.val).cut
  have hreset := s.setCan_resetReq n.val (s.canc n.val).cut
  have hpend := s.setCan_pending n.val (s.canc n.val).cut
  have hcan := s.setCan_canc n.val (s.canc n.val).cut
  obtain ⟨a, ha⟩ : ∃ a, s.setCan n.val (s.canc n.val).cut = a := ⟨_, rfl⟩
  rw [ha] at hregs hreset hpend hcan
  rw [State.canCut_eq ha]
  have hmode := fun (u : State) => State.cutTx_leaves u n (s.canc n.val).tx (isCan_reg n (d := 0) (by decide)) (by omega) (can_notMem n.val (d := 0) (l := [0x48, 0x58, 0x20]) (by decide))
  have hwmode := fun (u : State) => State.cutWait_leaves u n (s.canc n.val).waitSingle (isCan_reg n (d := 0) (by decide)) (by omega)
    (can_notMem n.val (d := 0) (l := [0x48, 0x58, 0x20]) (by decide))
  have hbare := (hwmode (a.cutTx n.val (s.canc n.val).tx)).2.1.trans (hmode a).2.1
  obtain ⟨hp, _, _, _, _, _, _, _, _, _, _, _, hcan2, _⟩ := State.sameStores_of_bare hbare
  refine ⟨fun d hd hne => ?_, (State.canc_of_can hcan2 n.val).trans hcan, fun x hx => ?_, fun e he => ?_, fun htx hw => ?_, ?_, hp.trans hpend⟩
  · have hlow : 0x1C0000 + d + n.val * 0x2000 < 2 ^ 22 := by omega
    have hm := can_notMem n.val (l := [0x48, 0x58, 0x20]) hne
    rw [((a.cutTx n.val (s.canc n.val).tx).cutWait_leaves n (s.canc n.val).waitSingle (isCan_reg n hd) hlow hm).1, (a.cutTx_leaves n (s.canc n.val).tx (isCan_reg n hd) hlow hm).1, State.rd_of_regs hregs]
  · rw [hx]
    have hend := a.cutTx_ends n (x := x)
    obtain ⟨hpf, hlast⟩ := (a.cutTx n.val (some x)).cutWait_keeps n (s.canc n.val).waitSingle x.obj
    by_cases hs : x.single = true
    · rw [if_pos hs] at hend ⊢
      exact hlast hend
    · rw [if_neg hs] at hend ⊢
      rw [hpf, hend]
  · rw [he]
    exact State.cutWait_ends _ n e
  · rw [htx, hw]
    exact hregs
  · exact ((hwmode (a.cutTx n.val (s.canc n.val).tx)).2.2.trans (hmode a).2.2).trans hreset

/-! ### CAN_MODE_INIT_WRITE -/

theorem exec_canModeInitWrite (m : Master) : exec (.canModeInitWrite m n) s =
    .next (s.finish (s.regCmd m (CAN_CFG.off n.val) 4 ((CAN_CFG.MODE n.val).put (s.rd (CAN_CFG.off n.val)) 0))) := by rfl

/-- A controller's STATE as it comes to MODE INIT. -/
def State.canInit (s : State) (n : Nat) : State :=
  if s.canState n = csBusOff ∨ s.canState n = csRecovering then s else s.p (CAN_STAT.STATE n) csInit

theorem State.canInit_leaves (s : State) (n : Fin 8) : CanOp s (s.canInit n.val) [CAN_STAT.off n.val] ∧
    (s.canInit n.val).canState n.val = if s.canState n.val = csBusOff ∨ s.canState n.val = csRecovering then s.canState n.val else csInit := by
  unfold State.canInit
  split
  · exact ⟨CanOp.refl s _, rfl⟩
  · exact ⟨CanOp.p s _ _ (isCan_stat n) List.mem_cons_self, s.g_p_fit (f := CAN_STAT.STATE n.val) (v := csInit) (by simp [csInit]) (by simp)⟩

theorem State.canCfgWrite_init {new : Word} (hfd : (CAN_CFG.FD n.val).get new = (CAN_CFG.FD n.val).get (s.rd (CAN_CFG.off n.val)))
    (hm : (CAN_CFG.MODE n.val).get new = cmInit) (hmode : s.canMode n.val ≠ cmInit) :
    s.canCfgWrite n.val new = (stOK, ((s.canCut n.val).wr (CAN_CFG.off n.val) new).canInit n.val) := by
  unfold State.canCfgWrite State.canInit
  dsimp only
  rw [if_neg fun hc => hc.1 hfd, if_pos hm, if_neg hmode]

theorem canModeInitWrite_told {m : Master} (h : s.serves m (CAN_CFG.off n.val) 2) (hmode : s.canMode n.val ≠ cmInit) :
    ∃ t, exec (.canModeInitWrite m n) s = .next t ∧ t.toldOK m ∧ t.canMode n.val = cmInit ∧
      t.canState n.val = (if s.canState n.val = csBusOff ∨ s.canState n.val = csRecovering then s.canState n.val else csInit) ∧
      t.flag (CAN_CFG.TT n.val) = s.flag (CAN_CFG.TT n.val) ∧ t.flag (CAN_CFG.FD n.val) = s.flag (CAN_CFG.FD n.val) ∧
      t.canc n.val = { s.canc n.val with tx := none, waitSingle := none, arbOpen := false, tried := [] } ∧
      (∀ x, (s.canc n.val).tx = some x → x.obj < 64 → if x.single then t.g ((CAN_OBJ_STAT.LAST n.val).at x.obj) = laINIT
        else t.flag ((CAN_OBJ_STAT.PEND n.val).at x.obj) = !x.cancelled) ∧
      (∀ w, (s.canc n.val).waitSingle = some w → w.1 < 64 → t.g ((CAN_OBJ_STAT.LAST n.val).at w.1) = laINIT) ∧
      ((s.canc n.val).tx = none → (s.canc n.val).waitSingle = none → s.sameRegs t [CAN_CFG.off n.val, CAN_STAT.off n.val]) := by
  have hfield : ∀ g : FRef, rowCanCfg.fields.any (fun f => f.acc == .rw && decide (f.lo ≤ g.lsb) && decide (g.lsb + g.width ≤ f.hi + 1)) = true →
      g.get (s.regWr m (CAN_CFG.off n.val) ((CAN_CFG.MODE n.val).put (s.rd (CAN_CFG.off n.val)) 0)).new =
        g.get ((CAN_CFG.MODE n.val).put (s.rd (CAN_CFG.off n.val)) 0) := fun g hg =>
    newWord_get_rw (hasField_of (a := .rw) (g := g) (row_canCfg n) hg) _ _
  have hnm := (hfield (CAN_CFG.MODE n.val) (by simp [rowCanCfg])).trans (FRef.get_put _ (by simp [FRef.fits]) _ 0)
  have hnt := (hfield (CAN_CFG.TT n.val) (by simp [rowCanCfg])).trans (FRef.get_put_ne (CAN_CFG.MODE n.val) _ (by simp [FRef.fits]) (by simp) _ 0)
  have hnf := (hfield (CAN_CFG.FD n.val) (by simp [rowCanCfg])).trans (FRef.get_put_ne (CAN_CFG.MODE n.val) _ (by simp [FRef.fits]) (by simp) _ 0)
  have hop := State.blkTop_canCfg (s := s) (r := s.regWr m (CAN_CFG.off n.val) ((CAN_CFG.MODE n.val).put (s.rd (CAN_CFG.off n.val)) 0)) n rfl
  generalize (s.regWr m (CAN_CFG.off n.val) ((CAN_CFG.MODE n.val).put (s.rd (CAN_CFG.off n.val)) 0)).new = new at *
  rw [State.canCfgWrite_init hnf hnm hmode] at hop
  have hcut := s.canCut_cut n
  obtain ⟨a, ha⟩ : ∃ a, s.canCut n.val = a := ⟨_, rfl⟩
  rw [ha] at hcut hop
  have hk := CanOp.wr a new (l := [CAN_CFG.off n.val]) (isCan_reg n (d := 0) (by decide)) List.mem_cons_self
  have hself := a.rd_wr_same (CAN_CFG.off n.val) new
  obtain ⟨b, hb⟩ : ∃ b, a.wr (CAN_CFG.off n.val) new = b := ⟨_, rfl⟩
  rw [hb] at hk hself hop
  obtain ⟨hk2, hst⟩ := b.canInit_leaves n
  obtain ⟨u, hu⟩ : ∃ u, b.canInit n.val = u := ⟨_, rfl⟩
  rw [hu] at hk2 hst hop
  have hbst : b.canState n.val = s.canState n.val := by
    have h4 : a.rd (CAN_STAT.off n.val) = s.rd (CAN_STAT.off n.val) := hcut.regs 4 (by decide) (by decide)
    rw [State.canState, State.canState, State.g, State.g, hk.same _ (can_notMem n.val (d := 4) (l := [0]) (by decide)), h4]
  have hcfg : u.rd (CAN_CFG.off n.val) = new := (hk2.same _ (can_notMem n.val (d := 0) (l := [4]) (by decide))).trans hself
  have hstat : ∀ (f : FRef) (o : Nat), f.off = objStat n.val o → u.g f = a.g f := fun f o hf =>
    (hk2.g (by rw [hf]; exact bank_notMem n _ o (l := [4]) (by decide))).trans (hk.g (by rw [hf]; exact bank_notMem n _ o (l := [0]) (by decide)))
  obtain ⟨t, ht, htold, hshow⟩ := State.serves_told h (canCfg_open n) hop
    (hk2.resetReq.trans (hk.resetReq.trans (hcut.resetReq.trans (State.serves_noReset h)))) (hk2.pending.trans (hk.pending.trans hcut.pending))
  refine ⟨t, (exec_canModeInitWrite m).trans (congrArg _ ht), htold, ?_, ?_, ?_, ?_, ?_, fun x hx _ => ?_, fun w hw _ => ?_, fun htx hw => ?_⟩
  · rw [State.canMode, hshow.g, State.g, hcfg, hnm]
    rfl
  · rw [State.canState, hshow.g, ← State.canState, hst, hbst]
  · rw [hshow.flag, State.flag, State.flag, State.g, State.g, hcfg, hnt]
  · rw [hshow.flag, State.flag, State.flag, State.g, State.g, hcfg, hnf]
  · rw [hshow.canc, State.canc_of_can hk2.can, State.canc_of_can hk.can, hcut.canc]
    rfl
  · rw [hshow.g, hshow.flag, hstat _ x.obj rfl, State.flag_of_g (hstat _ x.obj rfl)]
    exact hcut.tx x hx
  · rw [hshow.g, hstat _ w.1 rfl]
    exact hcut.wait w hw
  · have hregs := hcut.idle htx hw
    exact hshow.same fun k hm => ((((hk.mono (by simp)).trans (hk2.mono (l' := [CAN_CFG.off n.val, CAN_STAT.off n.val]) (by simp))).same k hm)).trans
      (State.rd_of_regs hregs k)

end

end Sys2Proof.Machine
end

section
/-! PROOF of CanControllers (R253, R352), continued: what building a sink's payload leaves, and an object committed into the shift register. -/

namespace Sys2Proof.Machine

/- One evaluation after another: each of them, left to itself, would hold a thread. -/
set_option Elab.async false

/-! ### The controllers beside a read of points (R67, R82 to R84) -/

theorem State.can_of_bare {s t : State} (h : t.bare = s.bare) : t.can = s.can := by
  obtain ⟨_, _, _, _, _, _, _, _, _, _, _, _, hcan, _⟩ := State.sameStores_of_bare h
  exact hcan

/-- What leaves the controllers' records. -/
structure CanBeside (s t : State) : Prop where
  can : t.can = s.can

namespace CanBeside

theorem refl (s : State) : CanBeside s s := ⟨rfl⟩

theorem trans {s t u : State} (a : CanBeside s t) (b : CanBeside t u) : CanBeside s u := ⟨b.can.trans a.can⟩

theorem of_bare {s t : State} (h : t.bare = s.bare) : CanBeside s t := ⟨State.can_of_bare h⟩

theorem ite {c : Prop} [Decidable c] {s t u : State} (ht : CanBeside s t) (hu : CanBeside s u) : CanBeside s (if c then t else u) := by
  split
  · exact ht
  · exact hu

theorem foldl {α : Type} {f : State → α → State} (h : ∀ t e, CanBeside t (f t e)) : ∀ (es : List α) (s : State), CanBeside s (es.foldl f s)
  | [], s => refl s
  | e :: es, s => (h s e).trans (foldl h es (f s e))

theorem count (s : State) {k : Nat} (hk : k < 2 ^ 22) : CanBeside s (s.count k) := of_bare (s.count_bare hk)

theorem raise (s : State) (ev : Nat) {cls : Nat} (hc : cls < 4) : CanBeside s (s.raise ev cls) := of_bare (Quiet.raise s ev hc).bare

theorem p (s : State) (f : FRef) (v : Nat) : CanBeside s (s.p f v) := ⟨s.p_can f v⟩

theorem setD (s : State) (n : Nat) (b : Bool) : CanBeside s (s.setD n b) := by
  unfold State.setD
  dsimp only
  generalize BitVec.ofNat 32 _ = w
  have hw : CanBeside s (s.wr (FIO_LEVEL.off (n / 16)) w) := ⟨s.wr_can _ _⟩
  generalize s.wr (FIO_LEVEL.off (n / 16)) w = a at *
  exact ite (hw.trans ⟨rfl⟩) hw

theorem pfTile (s : State) (k : Nat) : CanBeside s (s.pfTile k) := by
  have hdrop : CanBeside s ({ s with brg := { s.brg with pf := none } } : State) := ⟨rfl⟩
  exact ite (ite (hdrop.trans (count _ (by decide))) (refl s)) (refl s)

theorem putRec (s : State) (i : Nat) (r : PRec) : CanBeside s (s.putRec i r) := by
  rw [s.putRec_eq, State.placed]
  generalize s.hdrAfter i r = w
  have hset : CanBeside s (s.setRecs (SMap.set PRec.dflt s.pts.recs i r)) := ⟨rfl⟩
  generalize s.setRecs (SMap.set PRec.dflt s.pts.recs i r) = u at *
  have hpf := hset.trans (pfTile u (i / 16))
  generalize u.pfTile (i / 16) = v at *
  have hhdr : CanBeside v (v.setHdr (i / 16) w) := ⟨v.setHdr_can _ w⟩
  generalize v.setHdr (i / 16) w = x at *
  have hfold := foldl (f := fun (s : State) (e : Nat × Bool) => s.setD e.1 (s.bindLevel i e.2)) (fun t e => setD t e.1 (t.bindLevel i e.2)) (x.boundPins i) x
  exact ite hpf ((hpf.trans hhdr).trans hfold)

theorem markTile (s : State) (j : Nat) : CanBeside s (s.markTile j) := by
  have hqual : CanBeside s (s.markQual j qTile) := ite (refl s) (putRec s _ _)
  unfold State.markTile
  exact ite (putRec s _ _) hqual

theorem tileNoted (s : State) (k : Nat) : CanBeside s (s.tileNoted k) := by
  unfold State.tileNoted
  dsimp only
  have hp := (p s PNT_TILE_LAST.VALID 1).trans (p _ PNT_TILE_LAST.TILE k)
  generalize (s.p PNT_TILE_LAST.VALID 1).p PNT_TILE_LAST.TILE k = u at *
  have hu := hp.trans (count u (k := PNT_TILE_CNT.off) (by decide))
  generalize u.count PNT_TILE_CNT.off = v at *
  exact ite ((hu.trans (p v PNT_STAT.REPEAT (b2n true))).trans (raise _ _ (by decide))) (hu.trans (raise _ _ (by decide)))

theorem tileFail (s : State) (k : Nat) : CanBeside s (s.tileFail k) := by
  have hmarked : CanBeside s ((List.range 16).foldl (fun s i => s.markTile (16 * k + i)) s) :=
    foldl (f := fun (s : State) i => s.markTile (16 * k + i)) (fun t i => markTile t (16 * k + i)) _ s
  have hhdr : ∀ (u : State) (w : Word), CanBeside u (u.setHdr k w) := fun u w => ⟨u.setHdr_can k w⟩
  exact s.tileFail_eq k ▸ (hmarked.trans (hhdr _ _)).trans (tileNoted _ k)

theorem asIf {f : State → State} (h : ∀ u, CanBeside u (f u)) (s : State) (b : Bool) : CanBeside s (s.asIf b f) := by
  cases b
  · exact h s
  · exact ⟨State.asInjected_keeps State.can (fun _ _ => rfl) fun u => (h u).can⟩

theorem touchTile (s : State) (k : Nat) : CanBeside s (s.touchTile k) := by
  have hmet : CanBeside s (s.injMet (Inject.tileCrc (Fin.ofNat 16384 k))) := ⟨s.injMet_can _⟩
  have hverified : CanBeside s (s.verifyTile k false false) := ite (hmet.trans (asIf (fun u => tileFail u k) _ _)) (refl s)
  have hin : CanBeside s (if s.pts.cache.contains k then s else s.verifyTile k false false) := ite (refl s) hverified
  unfold State.touchTile
  generalize (if s.pts.cache.contains k then s else s.verifyTile k false false) = u at *
  exact hin.trans ⟨u.pushTile_can k⟩

theorem fresh (s : State) (i : Nat) : CanBeside s (s.fresh i) := by
  have hcount : ∀ u : State, CanBeside u (u.count PNT_STALE_CNT.off) := fun u => count u (by decide)
  exact ite (refl s) (ite ((putRec s _ _).trans (hcount _)) ((putRec s _ _).trans (hcount _)))

theorem freshRead (s : State) (i : Nat) : CanBeside s (s.freshRead i) := (touchTile s _).trans (fresh _ i)

end CanBeside

theorem Beside.fresh (s : State) (i : Nat) : Beside s (s.fresh i) Beside.tileRegs := by
  have hcount : ∀ u : State, Beside u (u.count PNT_STALE_CNT.off) Beside.tileRegs := fun u => Beside.pointCount u (by decide)
  unfold State.fresh
  exact Beside.ite (Beside.refl s _) (Beside.ite ((Beside.putRec s _ _).trans (hcount _)) ((Beside.putRec s _ _).trans (hcount _)))

theorem Beside.freshRead (s : State) (i : Nat) : Beside s (s.freshRead i) Beside.tileRegs := (Beside.touchTile s _).trans (Beside.fresh _ i)

/-! ### The payload of a sink (R253) -/

theorem setPayloadBit_length (l : List Byte) (p : Nat) (b : Bool) : (setPayloadBit l p b).length = l.length := by
  rw [setPayloadBit, List.length_set]

theorem fieldSet_length (mot : Bool) (pos len v : Nat) (l : List Byte) : (fieldSet mot pos len v l).length = l.length := by
  unfold fieldSet
  dsimp only
  generalize (if mot then (fieldBits mot pos len).reverse else fieldBits mot pos len) = ps
  have hfold : ∀ (ks : List Nat) (l : List Byte), (ks.foldl (fun l k => setPayloadBit l (ps.getD k 0) (v.testBit k)) l).length = l.length := by
    intro ks
    induction ks with
    | nil => exact fun _ => rfl
    | cons k ks ih => exact fun l => (ih _).trans (setPayloadBit_length l _ _)
  exact hfold _ l

/-- One entry of the signal map placed in a sink's payload. -/
def sinkStep (acc : List Byte × State) (e : Nat) : List Byte × State :=
  let i := acc.2.g (BRG_SIG_DST.POINT.at e)
  let s := acc.2.freshRead i
  let r := s.pt i
  let v := if s.flag (BRG_SIG_SRC.QGATE.at e) && r.qual != qGood then s.safeOf (s.profOf i) else r.value.toNat
  (fieldSet (s.flag (BRG_SIG_SRC.MOTOROLA.at e)) (s.g (BRG_SIG_SRC.BITPOS.at e)) (s.g (BRG_SIG_DST.BITLEN.at e)) v acc.1, s)

/-- What building a payload leaves. -/
structure SinkOp (a b : List Byte × State) : Prop extends Beside a.2 b.2 Beside.tileRegs where
  can : b.2.can = a.2.can
  length : b.1.length = a.1.length

theorem sinkStep_leaves (a : List Byte × State) (e : Nat) : SinkOp a (sinkStep a e) :=
  ⟨Beside.freshRead a.2 _, (CanBeside.freshRead a.2 _).can, fieldSet_length _ _ _ _ a.1⟩

theorem sinkSteps_leaves : ∀ (es : List Nat) (a : List Byte × State), SinkOp a (es.foldl sinkStep a)
  | [], a => ⟨Beside.refl a.2 _, rfl, rfl⟩
  | e :: es, a => by
    have hone := sinkStep_leaves a e
    have hrest := sinkSteps_leaves es (sinkStep a e)
    rw [List.foldl_cons]
    generalize sinkStep a e = b at *
    exact ⟨hone.toBeside.trans hrest.toBeside, hrest.can.trans hone.can, hrest.length.trans hone.length⟩

theorem State.sinkBuild_leaves (s : State) (kind unit obj : Nat) (l : List Byte) : SinkOp (l, s) (s.sinkBuild kind unit obj l) :=
  sinkSteps_leaves (s.sigEntries true kind unit obj) (l, s)

/-- A sink that no entry names keeps its payload. -/
theorem State.sinkBuild_unnamed {s : State} {kind unit obj : Nat} (h : s.sigEntries true kind unit obj = []) (l : List Byte) :
    s.sinkBuild kind unit obj l = (l, s) := by
  rw [State.sinkBuild, h]
  rfl

end Sys2Proof.Machine
end

section
/-! PROOF of CanControllers (R352, R353, R356), continued: an object committed into the shift register, and the attempt that waits. -/

namespace Sys2Proof.Machine

/- One evaluation after another: each of them, left to itself, would hold a thread. -/
set_option Elab.async false

section
variable {n : Fin 8} {s : State}

/-! ### An object's frame (R352) -/

/-- The state with an object's bound fields filled into its live copy. -/
def State.canBuilt (s : State) (n o : Nat) : State :=
  (s.sinkBuild 1 n o (s.objLive n o)).2.setObjLive n o (s.sinkBuild 1 n o (s.objLive n o)).1

/-- The registers that filling an object's live copy may change. -/
abbrev builtRegs (n o : Nat) : List Nat := Beside.tileRegs ++ liveRegs n o

/-- What a commitment leaves beside the controller's own record. -/
structure CanFill (s t : State) (l : List Nat) : Prop extends Eff s t l where
  can : t.can = s.can
  pending : t.pending = s.pending

theorem State.canBuilt_leaves (s : State) (n : Fin 8) {o : Nat} (ho : o < 64) : CanFill s (s.canBuilt n.val o) (builtRegs n.val o) := by
  unfold State.canBuilt
  obtain ⟨hb, hcan, hlen⟩ := s.sinkBuild_leaves 1 n.val o (s.objLive n.val o)
  obtain ⟨⟨l, a⟩, hr⟩ : ∃ r, s.sinkBuild 1 n.val o (s.objLive n.val o) = r := ⟨_, rfl⟩
  rw [hr] at hb hcan hlen ⊢
  dsimp only at hb hcan hlen ⊢
  rw [State.objLive_length] at hlen
  obtain ⟨hk, _⟩ := a.setObjLive_whole n ho hlen
  exact ⟨(hb.toEff.mono fun k hm => List.mem_append_left _ hm).trans (hk.toEff.mono fun k hm => List.mem_append_right _ hm), hk.can.trans hcan,
    hk.pending.trans hb.pending⟩

/-- An object that no entry of the signal map fills keeps its live copy. -/
theorem State.canBuilt_unnamed {o : Nat} (ho : o < 64) (h : s.sigEntries true 1 n.val o = []) : (s.canBuilt n.val o).objLive n.val o = s.objLive n.val o := by
  unfold State.canBuilt
  rw [State.sinkBuild_unnamed h]
  exact (s.setObjLive_whole n ho (s.objLive_length n.val o)).2

/-- What stands in a frame that an object gives. -/
structure Sent (a : State) (n o : Nat) (f : CanFrame) : Prop where
  id : f.id = a.g ((CAN_OBJ_ID.ID n).at o)
  ide : f.ide = a.flag ((CAN_OBJ_ID.IDE n).at o)
  fdf : f.fdf = a.flag ((CAN_OBJ_ID.FDF n).at o)
  brs : f.brs = a.flag ((CAN_OBJ_ID.BRS n).at o)
  rtr : f.rtr = false
  data : f.data = (a.objLive n o).take (dlcBytes f.fdf f.dlc)

theorem State.objFrame_tells {a : State} {o : Nat} (ha : s.canBuilt n.val o = a) : ∃ f c, s.objFrame n.val o = (f, c) ∧ c.regs = a.regs ∧ c.can = a.can ∧
    c.resetReq = a.resetReq ∧ c.pending = a.pending ∧ (SMap.get (fun _ => none) (a.canc n.val).arr o = none → Sent a n.val o f) := by
  unfold State.canBuilt at ha
  unfold State.objFrame
  obtain ⟨⟨l, b⟩, hr⟩ : ∃ r, s.sinkBuild 1 n.val o (s.objLive n.val o) = r := ⟨_, rfl⟩
  rw [hr] at ha ⊢
  dsimp only at ha ⊢
  rw [ha]
  obtain ⟨x, hx⟩ : ∃ x, SMap.get (fun _ => none) (a.canc n.val).arr o = x := ⟨_, rfl⟩
  rw [hx]
  cases x with
  | some f => exact ⟨_, _, rfl, rfl, rfl, rfl, rfl, fun hc => absurd hc (by simp)⟩
  | none => exact ⟨_, _, rfl, rfl, rfl, rfl, rfl, fun _ => ⟨rfl, rfl, rfl, rfl, rfl, rfl⟩⟩

/-! ### An object committed (R352, R353) -/

/-- A controller's record with an object's frame in the shift register. -/
def Can.loaded (c : Can) (o : Nat) (f : CanFrame) (single : Bool) : Can :=
  { c with tx := some ⟨o, f, single, false⟩, waitSingle := none, tried := if single then c.tried else o :: c.tried }

theorem State.canLoad_eq {c : State} {o : Nat} {f : CanFrame} (h : s.objFrame n.val o = (f, c)) (single : Bool) :
    ∃ x, s.canLoad n.val o single = x.setCan n.val ((x.canc n.val).loaded o f single) ∧
      x = (c.p ((CAN_OBJ_STAT.DLC n.val).at o) f.dlc).pb ((CAN_OBJ_STAT.PEND n.val).at o) (single && c.flag ((CAN_OBJ_STAT.PEND n.val).at o)) := by
  unfold State.canLoad
  rw [h]
  exact ⟨_, rfl, rfl⟩

/-- No register that an operation on points changes is one of the block. -/
theorem isCan_notTile {k : Nat} (h : isCan k = true) : k ∉ Beside.tileRegs := by
  have hno : ∀ j ∈ Beside.tileRegs, isCan j = false := by decide +kernel
  exact fun hm => Bool.false_ne_true ((hno k hm).symm.trans h)

theorem bank_notBuilt (n : Fin 8) {d : Nat} (hd : d < 0x2000) (i : Nat) {o : Nat} (ho : o < 64) : bankKey (0x1C0000 + d + n.val * 0x2000) i ∉ builtRegs n.val o := by
  intro hm
  rcases List.mem_append.1 hm with hm | hm
  · exact isCan_notTile (isCan_bank n hd i) hm
  · obtain ⟨j, hj, hx⟩ := List.mem_map.1 hm
    have hge := bankKey_ge (0x1C0000 + d + n.val * 0x2000) i
    have := List.mem_range.1 hj
    simp only [CAN_OBJ_DATA.off] at hx
    omega

/-- What a commitment leaves. -/
structure Loaded (s t : State) (n : Fin 8) (o : Nat) (f : CanFrame) (single : Bool) : Prop where
  canc : t.canc n.val = (s.canc n.val).loaded o f single
  resetReq : t.resetReq = s.resetReq
  pending : t.pending = s.pending
  pend : t.flag ((CAN_OBJ_STAT.PEND n.val).at o) = (single && s.flag ((CAN_OBJ_STAT.PEND n.val).at o))
  live : t.objLive n.val o = (s.canBuilt n.val o).objLive n.val o
  word : ∀ k, isCan k = true → k ∉ builtRegs n.val o → k ≠ objStat n.val o → t.rd k = s.rd k
  sent : SMap.get (fun _ => none) (s.canc n.val).arr o = none → Sent t n.val o f

theorem Sent.congr {a t : State} {n : Fin 8} {o : Nat} {f : CanFrame} (h : Sent a n.val o f)
    (hid : t.rd (bankKey (CAN_OBJ_ID.off n.val) o) = a.rd (bankKey (CAN_OBJ_ID.off n.val) o)) (hl : t.objLive n.val o = a.objLive n.val o) :
    Sent t n.val o f := by
  obtain ⟨h1, h2, h3, h4, h5, h6⟩ := h
  have hg : ∀ g : FRef, g.off = bankKey (CAN_OBJ_ID.off n.val) o → t.g g = a.g g := fun g hg => by rw [State.g, State.g, hg, hid]
  exact ⟨h1.trans (hg _ rfl).symm, h2.trans (State.flag_of_g (hg _ rfl)).symm, h3.trans (State.flag_of_g (hg _ rfl)).symm,
    h4.trans (State.flag_of_g (hg _ rfl)).symm, h5, by rw [hl]; exact h6⟩

theorem State.canLoad_leaves (s : State) (n : Fin 8) {o : Nat} (ho : o < 64) (single : Bool) : ∃ f, Loaded s (s.canLoad n.val o single) n o f single := by
  obtain ⟨he, hcan, hpend⟩ := s.canBuilt_leaves n ho
  obtain ⟨a, ha⟩ : ∃ a, s.canBuilt n.val o = a := ⟨_, rfl⟩
  obtain ⟨f, c, hf, hcregs, hccan, hcreset, hcpend, hsent⟩ := State.objFrame_tells ha
  obtain ⟨x, hx, hxc⟩ := State.canLoad_eq hf single
  rw [ha] at he hcan hpend
  have hstat : c.flag ((CAN_OBJ_STAT.PEND n.val).at o) = s.flag ((CAN_OBJ_STAT.PEND n.val).at o) := by
    refine State.flag_of_g ((State.g_of_regs hcregs _).trans (he.g ?_ (isCan_fixed (isCan_objStat n o))))
    exact bank_notBuilt n (d := 0x110) (by decide) o ho
  rw [hstat] at hxc
  obtain ⟨p, hp⟩ : ∃ p, s.flag ((CAN_OBJ_STAT.PEND n.val).at o) = p := ⟨_, rfl⟩
  rw [hp] at hxc
  have hk1 := CanOp.p c ((CAN_OBJ_STAT.DLC n.val).at o) f.dlc (l := [objStat n.val o]) (isCan_objStat n o) List.mem_cons_self
  obtain ⟨d, hd⟩ : ∃ d, c.p ((CAN_OBJ_STAT.DLC n.val).at o) f.dlc = d := ⟨_, rfl⟩
  rw [hd] at hk1 hxc
  have hk2 := CanOp.p d ((CAN_OBJ_STAT.PEND n.val).at o) (b2n (single && p)) (l := [objStat n.val o]) (isCan_objStat n o) List.mem_cons_self
  have hfl := d.flag_pb_self (f := (CAN_OBJ_STAT.PEND n.val).at o) (single && p) (by simp [FRef.at]) rfl
  rw [← State.pb, ← hxc] at hk2
  rw [← hxc] at hfl
  have hk := hk1.trans hk2
  have hxcan : x.can = s.can := hk.can.trans (hccan.trans hcan)
  have hword : ∀ k, isCan k = true → k ∉ builtRegs n.val o → k ≠ objStat n.val o → x.rd k = s.rd k := fun k hi hb ho' =>
    (hk.same k (by simpa using ho')).trans ((State.rd_of_regs hcregs k).trans (he.word hb (isCan_fixed hi)))
  have hlive : x.objLive n.val o = a.objLive n.val o := State.objLive_congr fun k hk' => (hk.same _ fun hm => by
    have hge : 2 ^ 22 ≤ objStat n.val o := bankKey_ge _ _
    have := List.mem_singleton.1 hm
    simp only [CAN_OBJ_DATA.off] at this
    omega).trans (State.rd_of_regs hcregs _)
  have hidne : bankKey (CAN_OBJ_ID.off n.val) o ≠ objStat n.val o :=
    bankKey_ne (by simp only [CAN_OBJ_ID.off]; omega) (by simp only [CAN_OBJ_STAT.off]; omega) (by simp only [CAN_OBJ_ID.off, CAN_OBJ_STAT.off]; omega)
  have hid : x.rd (bankKey (CAN_OBJ_ID.off n.val) o) = a.rd (bankKey (CAN_OBJ_ID.off n.val) o) :=
    (hk.same _ (by simpa using hidne)).trans (State.rd_of_regs hcregs _)
  have hxreset : x.resetReq = s.resetReq := hk.resetReq.trans (hcreset.trans he.resetReq)
  have hxpend : x.pending = s.pending := hk.pending.trans (hcpend.trans hpend)
  rw [hx, State.canc_of_can hxcan]
  have hregs := x.setCan_regs n.val ((s.canc n.val).loaded o f single)
  have hlive2 := (State.objLive_congr fun k _ => State.rd_of_regs hregs (CAN_OBJ_DATA.off n.val o k)).trans hlive
  refine ⟨f, x.setCan_canc _ _, (x.setCan_resetReq ..).trans hxreset, (x.setCan_pending ..).trans hxpend, (x.setCan_flag ..).trans (by rw [hfl, hp]),
    hlive2.trans (by rw [ha]), fun k hi hb ho' => (State.rd_of_regs hregs k).trans (hword k hi hb ho'), fun harr => ?_⟩
  exact (hsent (by rw [State.canc_of_can hcan]; exact harr)).congr ((State.rd_of_regs hregs _).trans hid) hlive2

end

end Sys2Proof.Machine
end

section
/-! PROOF of CanControllers (R353, R356, R357), continued: CAN_TX_COMMIT and CAN_TXEN_EXPIRE. -/

namespace Sys2Proof.Machine

/- One evaluation after another: each of them, left to itself, would hold a thread. -/
set_option Elab.async false

section
variable {n : Fin 8} {s : State}

theorem exec_canTxCommit : exec (.canTxCommit n) s = .next (s.finish (canTxCommit n s)) := by rfl
theorem exec_canTxenExpire : exec (.canTxenExpire n) s = .next (s.finish (canTxenExpire n s)) := by rfl

/-! ### The pending object that goes first (R353) -/

/-- Whether an object may be the next one. -/
def State.canMay (s : State) (n : Nat) (ok : Nat → Bool) (o : Nat) : Bool := s.objTx n o && s.flag ((CAN_OBJ_STAT.PEND n).at o) && ok o

/-- The better one of the object found so far and another. -/
def State.canPick (s : State) (n : Nat) (ok : Nat → Bool) (a : Option Nat) (o : Nat) : Option Nat :=
  if s.canMay n ok o then
    match a with
    | some b => if s.objPrio n o < s.objPrio n b then some o else a
    | none => some o
  else a

theorem State.canNext_eq (s : State) (n : Nat) (ok : Nat → Bool) : s.canNext n ok = (List.range 64).foldl (s.canPick n ok) none := rfl

theorem State.canPick_some {ok : Nat → Bool} {k : Nat} (b : Nat) (h : s.canMay n.val ok k = true) :
    s.canPick n.val ok (some b) k = if s.objPrio n.val k < s.objPrio n.val b then some k else some b := if_pos h

theorem State.canPick_none {ok : Nat → Bool} {k : Nat} (h : s.canMay n.val ok k = true) : s.canPick n.val ok none k = some k := if_pos h

theorem State.canPick_not {ok : Nat → Bool} {k : Nat} (a : Option Nat) (h : s.canMay n.val ok k = false) : s.canPick n.val ok a k = a :=
  if_neg (by rw [h]; exact Bool.false_ne_true)

/-- The search over the first objects: before the best one it holds a worse one, and after it the best one. -/
theorem State.canPick_best {ok : Nat → Bool} {o M : Nat} (ho : s.canMay n.val ok o = true)
    (hbest : ∀ k, k < M → k ≠ o → s.canMay n.val ok k = true → s.objPrio n.val o < s.objPrio n.val k ∨ s.objPrio n.val o = s.objPrio n.val k ∧ o < k) :
    ∀ m, m ≤ M → (o < m → (List.range m).foldl (s.canPick n.val ok) none = some o) ∧
      (m ≤ o → ∀ b, (List.range m).foldl (s.canPick n.val ok) none = some b → b < m ∧ s.canMay n.val ok b = true) := by
  intro m
  induction m with
  | zero => exact fun _ => ⟨fun h => absurd h (Nat.not_lt_zero o), fun _ b h => absurd h (by simp)⟩
  | succ m ih =>
    intro hm
    obtain ⟨hafter, hbefore⟩ := ih (by omega)
    rw [List.range_succ, List.foldl_append, List.foldl_cons, List.foldl_nil]
    generalize (List.range m).foldl (s.canPick n.val ok) none = a at *
    refine ⟨fun hlt => ?_, fun hle b hb => ?_⟩
    · by_cases he : m = o
      · rw [he]
        cases a with
        | none => exact State.canPick_none ho
        | some b =>
          obtain ⟨hbm, hmay⟩ := hbefore (by omega) b rfl
          rw [State.canPick_some b ho, if_pos]
          exact (hbest b (by omega) (by omega) hmay).resolve_right fun hc => by omega
      · rw [hafter (by omega)]
        by_cases hmay : s.canMay n.val ok m = true
        · rw [State.canPick_some o hmay, if_neg]
          rcases hbest m (by omega) he hmay with hp | hp
          · omega
          · omega
        · exact State.canPick_not _ (Bool.eq_false_iff.2 hmay)
    · by_cases hmay : s.canMay n.val ok m = true
      · cases a with
        | none =>
          rw [State.canPick_none hmay] at hb
          exact Option.some.inj hb ▸ ⟨Nat.lt_succ_self m, hmay⟩
        | some c =>
          obtain ⟨hc, hcmay⟩ := hbefore (by omega) c rfl
          rw [State.canPick_some c hmay] at hb
          split at hb
          · exact Option.some.inj hb ▸ ⟨Nat.lt_succ_self m, hmay⟩
          · exact Option.some.inj hb ▸ ⟨by omega, hcmay⟩
      · rw [State.canPick_not _ (Bool.eq_false_iff.2 hmay)] at hb
        obtain ⟨hlt, hm'⟩ := hbefore (by omega) b hb
        exact ⟨by omega, hm'⟩

theorem State.canNext_best {ok : Nat → Bool} {o : Nat} (hlt : o < 64) (ho : s.canMay n.val ok o = true)
    (hbest : ∀ k, k < 64 → k ≠ o → s.canMay n.val ok k = true → s.objPrio n.val o < s.objPrio n.val k ∨ s.objPrio n.val o = s.objPrio n.val k ∧ o < k) :
    s.canNext n.val ok = some o := (s.canNext_eq n.val ok).trans ((State.canPick_best ho hbest 64 (Nat.le_refl 64)).1 hlt)

/-! ### CAN_TX_COMMIT -/

theorem canTxCommit_next {o : Nat} (hsend : s.canSends n.val = true) (htx : (s.canc n.val).tx = none) (hw : (s.canc n.val).waitSingle = none)
    (htt : s.flag (CAN_CFG.TT n.val) = true → s.arbNow n.val = true)
    (hnext : s.canNext n.val (fun k => !s.flag (CAN_CFG.TT n.val) || s.arbOk n.val k) = some o) : canTxCommit n s = s.canLoad n.val o false := by
  unfold canTxCommit
  dsimp only
  rw [if_neg (by rw [hsend, htx]; simp), hw]
  dsimp only
  rw [if_neg fun hc => by simp [htt hc.1] at hc, hnext]

theorem canTxCommit_waiting {o e : Nat} {r : Bool} {w : Int} (hsend : s.canSends n.val = true) (htx : (s.canc n.val).tx = none)
    (hw : (s.canc n.val).waitSingle = some (o, r, w, e)) (hpast : s.txenPast n.val w e = false) : canTxCommit n s = s.canLoad n.val o true := by
  unfold canTxCommit
  dsimp only
  rw [if_neg (by rw [hsend, htx]; simp), hw]
  dsimp only
  rw [if_neg (by rw [hpast]; exact Bool.false_ne_true)]

/-- The identifier's register is as it was. -/
theorem Loaded.sentOld {t : State} {o : Nat} {f : CanFrame} {single : Bool} (h : Loaded s t n o f single) (ho : o < 64)
    (harr : SMap.get (fun _ => none) (s.canc n.val).arr o = none) : (f.id, f.ide, f.fdf, f.brs, f.rtr) = (s.g ((CAN_OBJ_ID.ID n.val).at o),
      s.flag ((CAN_OBJ_ID.IDE n.val).at o), s.flag ((CAN_OBJ_ID.FDF n.val).at o), s.flag ((CAN_OBJ_ID.BRS n.val).at o), false) := by
  obtain ⟨h1, h2, h3, h4, h5, _⟩ := h.sent harr
  have hidne : bankKey (CAN_OBJ_ID.off n.val) o ≠ objStat n.val o :=
    bankKey_ne (by simp only [CAN_OBJ_ID.off]; omega) (by simp only [CAN_OBJ_STAT.off]; omega) (by simp only [CAN_OBJ_ID.off, CAN_OBJ_STAT.off]; omega)
  have hid := h.word (bankKey (CAN_OBJ_ID.off n.val) o) (isCan_bank n (d := 0x108) (by decide) o) (bank_notBuilt n (d := 0x108) (by decide) o ho) hidne
  have hg : ∀ g : FRef, g.off = bankKey (CAN_OBJ_ID.off n.val) o → t.g g = s.g g := fun g hg => by rw [State.g, State.g, hg, hid]
  rw [h1, h2, h3, h4, h5, hg _ rfl, State.flag_of_g (hg _ rfl), State.flag_of_g (hg _ rfl), State.flag_of_g (hg _ rfl)]

theorem canTxCommit_told {o : Fin 64} (hs : s.resetReq = none) (hsend : s.canSends n.val = true) (htx : (s.canc n.val).tx = none)
    (hw : (s.canc n.val).waitSingle = none) (ho : s.objTx n.val o.val = true) (hp : s.flag ((CAN_OBJ_STAT.PEND n.val).at o.val) = true)
    (htt : s.flag (CAN_CFG.TT n.val) = true → s.arbNow n.val = true ∧ s.arbOk n.val o.val = true)
    (hbest : ∀ k, k < 64 → k ≠ o.val → s.objTx n.val k = true → s.flag ((CAN_OBJ_STAT.PEND n.val).at k) = true →
      (s.flag (CAN_CFG.TT n.val) = true → s.arbOk n.val k = true) →
      s.objPrio n.val o.val < s.objPrio n.val k ∨ s.objPrio n.val o.val = s.objPrio n.val k ∧ o.val < k)
    (harr : SMap.get (fun _ => none) (s.canc n.val).arr o.val = none) :
    ∃ t, exec (.canTxCommit n) s = .next t ∧ t.flag ((CAN_OBJ_STAT.PEND n.val).at o.val) = false ∧
      (t.canc n.val).tx.map (fun x => (x.obj, x.single, x.cancelled)) = some (o.val, false, false) ∧
      (t.canc n.val).tx.map (fun x => (x.frame.id, x.frame.ide, x.frame.fdf, x.frame.brs, x.frame.rtr)) = some (s.g ((CAN_OBJ_ID.ID n.val).at o.val),
        s.flag ((CAN_OBJ_ID.IDE n.val).at o.val), s.flag ((CAN_OBJ_ID.FDF n.val).at o.val), s.flag ((CAN_OBJ_ID.BRS n.val).at o.val), false) ∧
      (t.canc n.val).tx.map (·.frame.data) = (t.canc n.val).tx.map (fun x => (t.objLive n.val o.val).take (dlcBytes x.frame.fdf x.frame.dlc)) := by
  have hok : ∀ k, (!s.flag (CAN_CFG.TT n.val) || s.arbOk n.val k) = true ↔ (s.flag (CAN_CFG.TT n.val) = true → s.arbOk n.val k = true) := fun k => by
    cases s.flag (CAN_CFG.TT n.val) <;> simp
  have hmay : ∀ k, s.canMay n.val (fun k => !s.flag (CAN_CFG.TT n.val) || s.arbOk n.val k) k = true ↔ s.objTx n.val k = true ∧
      s.flag ((CAN_OBJ_STAT.PEND n.val).at k) = true ∧ (s.flag (CAN_CFG.TT n.val) = true → s.arbOk n.val k = true) := fun k => by
    rw [State.canMay, Bool.and_eq_true, Bool.and_eq_true, hok, and_assoc]
  have hnext := State.canNext_best (n := n) o.isLt ((hmay o.val).2 ⟨ho, hp, fun h => (htt h).2⟩) fun k hk hne hm => by
    obtain ⟨h1, h2, h3⟩ := (hmay k).1 hm
    exact hbest k hk hne h1 h2 h3
  rw [exec_canTxCommit, canTxCommit_next hsend htx hw (fun h => (htt h).1) hnext]
  obtain ⟨f, hl⟩ := s.canLoad_leaves n o.isLt false
  generalize s.canLoad n.val o.val false = t at *
  have hsent := hl.sent harr
  refine ⟨t, congrArg _ (State.finish_kept (hl.resetReq.trans hs) hl.pending), hl.pend, ?_, ?_, ?_⟩
  · rw [hl.canc]
    rfl
  · rw [hl.canc]
    exact congrArg some (hl.sentOld o.isLt harr)
  · rw [hl.canc]
    exact congrArg some hsent.data

theorem canTxCommit_single {o : Fin 64} {r : Bool} {w : Int} {e : Nat} (hs : s.resetReq = none) (hw : (s.canc n.val).waitSingle = some (o.val, r, w, e))
    (hsend : s.canSends n.val = true) (htx : (s.canc n.val).tx = none) (hpast : s.txenPast n.val w e = false) :
    ∃ t, exec (.canTxCommit n) s = .next t ∧ (t.canc n.val).waitSingle = none ∧
      (t.canc n.val).tx.map (fun x => (x.obj, x.single, x.cancelled)) = some (o.val, true, false) := by
  rw [exec_canTxCommit, canTxCommit_waiting hsend htx hw hpast]
  obtain ⟨f, hl⟩ := s.canLoad_leaves n o.isLt true
  generalize s.canLoad n.val o.val true = t at *
  refine ⟨t, congrArg _ (State.finish_kept (hl.resetReq.trans hs) hl.pending), ?_, ?_⟩
  · rw [hl.canc]
    rfl
  · rw [hl.canc]
    rfl

/-! ### CAN_TXEN_EXPIRE (R357) -/

theorem canTxenExpire_told {o : Fin 64} {r : Bool} {w : Int} {e : Nat} (hs : s.resetReq = none)
    (hw : (s.canc n.val).waitSingle = some (o.val, r, w, e)) (hf : (s.rd (CAN_TX_FAIL.off n.val)).toNat + 1 < 0xFFFFFFFF) :
    ∃ t, exec (.canTxenExpire n) s = .next t ∧
      (if s.txenPast n.val w e then t.canc n.val = { s.canc n.val with waitSingle := none } ∧
        t.g ((CAN_OBJ_STAT.LAST n.val).at o.val) = laLATE ∧ t.evPend (evCan n.val) = true ∧
        (t.rd (CAN_TX_FAIL.off n.val)).toNat = (s.rd (CAN_TX_FAIL.off n.val)).toNat + 1
      else t = s) := by
  rw [exec_canTxenExpire]
  unfold canTxenExpire
  rw [hw]
  dsimp only
  by_cases hpast : s.txenPast n.val w e = true
  · rw [if_pos hpast]
    generalize ({ s.canc n.val with waitSingle := none } : Can) = c
    have hregs := s.setCan_regs n.val c
    have hreset := s.setCan_resetReq n.val c
    have hpend := s.setCan_pending n.val c
    have hcan := s.setCan_canc n.val c
    generalize s.setCan n.val c = a at *
    have hrd : a.rd (CAN_TX_FAIL.off n.val) = s.rd (CAN_TX_FAIL.off n.val) := State.rd_of_regs hregs _
    obtain ⟨hk, hlast, hev, _, hcnt⟩ := a.setLast_leaves n o.val (v := laLATE) (by decide) (by decide)
    generalize a.setLast n.val o.val laLATE = t at *
    refine ⟨t, congrArg _ (State.finish_kept (hk.resetReq.trans (hreset.trans hs)) (hk.pending.trans hpend)), ?_⟩
    rw [if_pos hpast]
    exact ⟨(State.canc_of_can hk.can _).trans hcan, hlast, hev, by rw [hcnt (by rw [hrd]; exact hf), hrd]⟩
  · rw [if_neg hpast]
    exact ⟨s, congrArg _ (State.finish_kept hs rfl), by rw [if_neg hpast]⟩

end

end Sys2Proof.Machine
end

section
/-! PROOF of CanControllers (R355 to R357), continued: CAN_WINDOW_OPEN. -/

namespace Sys2Proof.Machine

/- One evaluation after another: each of them, left to itself, would hold a thread. -/
set_option Elab.async false

section
variable {n : Fin 8} {s : State}

theorem exec_canWindowOpen (w : Fin 32) (idle : Bool) : exec (.canWindowOpen n w idle) s = .next (s.finish (canWindowOpen n w idle s)) := by rfl

/-! ### The schedule in force (R358) -/

theorem State.ttDue_leaves (s : State) (n : Fin 8) :
    (s.ttDue n.val).regs = s.regs ∧ (s.ttDue n.val).resetReq = s.resetReq ∧ (s.ttDue n.val).pending = s.pending := by
  have hset : ∀ c, (s.setCan n.val c).regs = s.regs ∧ (s.setCan n.val c).resetReq = s.resetReq ∧ (s.setCan n.val c).pending = s.pending := fun c =>
    ⟨s.setCan_regs n.val c, s.setCan_resetReq n.val c, s.setCan_pending n.val c⟩
  unfold State.ttDue
  dsimp only
  obtain ⟨x, hx⟩ : ∃ x, (s.canc n.val).stagedTT = x := ⟨_, rfl⟩
  rw [hx]
  cases x with
  | none => exact ⟨rfl, rfl, rfl⟩
  | some e =>
    dsimp only
    split
    · exact hset _
    · exact ⟨rfl, rfl, rfl⟩

/-! ### A window opened -/

/-- A controller's record as a window opens. -/
def Can.opening (c : Can) (arb : Bool) (cyc : Int) (w : Nat) : Can := { c with arbOpen := arb, tried := [], opened := some (cyc, w) }

/-- A controller that shows its window. -/
def State.canShown (u : State) (n w : Nat) : State := (u.p (CAN_TT_STAT.ROW n) (u.canRow n)).p (CAN_TT_STAT.WIN n) w

/-- A window opened. -/
def State.canOpened (u : State) (n w : Nat) (arb : Bool) : State :=
  (u.canShown n w).setCan n (((u.canShown n w).canc n).opening arb ((u.canShown n w).canCycle n).2 w)

theorem State.canCycle_congr {a u : State} {n : Nat} (hf : a.fns = u.fns) (hb : (a.canc n).bcLen = (u.canc n).bcLen)
    (hp : (a.canc n).phase = (u.canc n).phase) : a.canCycle n = u.canCycle n := by
  unfold State.canCycle
  dsimp only
  rw [hf, hb, hp]

theorem State.canRow_congr {a u : State} {n : Nat} (hc : a.canCycle n = u.canCycle n) (hm : (a.canc n).mc = (u.canc n).mc) : a.canRow n = u.canRow n := by
  rw [State.canRow, State.canRow, hc, hm]

/-- What the opening of a window leaves. -/
structure WindowOpen (u b : State) (n : Fin 8) (w : Nat) (arb : Bool) : Prop where
  word : ∀ k, k ≠ CAN_TT_STAT.off n.val → b.rd k = u.rd k
  win : b.g (CAN_TT_STAT.WIN n.val) = w
  row : b.g (CAN_TT_STAT.ROW n.val) = u.canRow n.val % 64
  canc : b.canc n.val = (u.canc n.val).opening arb (u.canCycle n.val).2 w
  resetReq : b.resetReq = u.resetReq
  pending : b.pending = u.pending
  fns : b.fns = u.fns
  sig : ∀ dir kind unit obj, b.sigEntries dir kind unit obj = u.sigEntries dir kind unit obj

theorem State.canOpened_leaves (u : State) (n : Fin 8) {w : Nat} (hw : w < 32) (arb : Bool) : WindowOpen u (u.canOpened n.val w arb) n w arb := by
  unfold State.canOpened State.canShown
  have hTT : isCan (CAN_TT_STAT.off n.val) = true := isCan_reg n (d := 0x1C) (by decide)
  have hk1 := CanOp.p u (CAN_TT_STAT.ROW n.val) (u.canRow n.val) (l := [CAN_TT_STAT.off n.val]) hTT List.mem_cons_self
  have hr1 := u.g_p_self (f := CAN_TT_STAT.ROW n.val) (u.canRow n.val) (by simp)
  obtain ⟨d, hd⟩ : ∃ d, u.p (CAN_TT_STAT.ROW n.val) (u.canRow n.val) = d := ⟨_, rfl⟩
  rw [hd] at hk1 hr1 ⊢
  have hk2 := CanOp.p d (CAN_TT_STAT.WIN n.val) w (l := [CAN_TT_STAT.off n.val]) hTT List.mem_cons_self
  have hr2 := d.g_p_sep (f := CAN_TT_STAT.WIN n.val) (g := CAN_TT_STAT.ROW n.val) w (by simp [FRef.sep])
  have hw2 := d.g_p_fit (f := CAN_TT_STAT.WIN n.val) (v := w) (by simpa using hw) (by simp)
  obtain ⟨a, ha⟩ : ∃ a, d.p (CAN_TT_STAT.WIN n.val) w = a := ⟨_, rfl⟩
  rw [ha] at hk2 hr2 hw2 ⊢
  have hk := hk1.trans hk2
  have hcanc := State.canc_of_can hk.can n.val
  rw [State.canCycle_congr hk.fns (by rw [hcanc]) (by rw [hcanc]), hcanc]
  obtain ⟨c, hc⟩ : ∃ c, (u.canc n.val).opening arb (u.canCycle n.val).2 w = c := ⟨_, rfl⟩
  rw [hc]
  have hregs := a.setCan_regs n.val c
  have hfns : (a.setCan n.val c).fns = a.fns := State.fns_congr (a.setCan_clep n.val c) (State.rd64_congr (State.rd_of_regs hregs _) (State.rd_of_regs hregs _))
  have hbank : (a.setCan n.val c).listedBank BRG_SIG_SRC.off = a.listedBank BRG_SIG_SRC.off := by rw [State.listedBank, State.listedBank, hregs]
  exact ⟨fun k hk' => (State.rd_of_regs hregs k).trans (hk.same k (by simpa using hk')), (State.g_of_regs hregs _).trans hw2,
    (State.g_of_regs hregs _).trans (hr2.trans hr1), (a.setCan_canc n.val c).trans hc.symm, (a.setCan_resetReq ..).trans hk.resetReq,
    (a.setCan_pending ..).trans hk.pending, hfns.trans hk.fns, fun dir kind unit obj => by
      rw [State.sigEntries, State.sigEntries, hbank, hk.sig]⟩

/-- The cell of the matrix in which a window opens. -/
def State.canCell (u : State) (n w : Nat) : Word := u.rd (bankKey (CAN_CELL.off n) (u.canRow n * 32 + w))

theorem canWindowOpen_eq {w : Fin 32} {idle : Bool} {u : State} (hu : s.ttDue n.val = u) (hon : u.domOn 11 = true) (htt : u.flag (CAN_CFG.TT n.val) = true)
    (hwin : u.winOpens n.val w.val = true) {cell : Word} (hcell : u.canCell n.val w.val = cell) {b : State}
    (hb : u.canOpened n.val w.val ((CAN_CELL.KIND n.val).get cell == 2) = b) :
    canWindowOpen n w idle s =
      if ((CAN_CELL.KIND n.val).get cell = 1 ∨ (CAN_CELL.KIND n.val).get cell = 3) ∧ b.objTx n.val ((CAN_CELL.OBJ n.val).get cell) then
        b.canSingle n.val ((CAN_CELL.OBJ n.val).get cell) (b.g (CAN_WIN.TXEN n.val w.val)) ((CAN_CELL.KIND n.val).get cell == 3) idle
      else b := by
  unfold State.canCell at hcell
  unfold State.canOpened State.canShown Can.opening at hb
  unfold canWindowOpen
  dsimp only
  rw [hu, if_neg (by simp [hon, htt, hwin]), hcell, hb]

/-! ### The attempt at its opening (R357) -/

/-- The outcome of an attempt that cannot begin. -/
def State.canUnable (s : State) (n : Nat) : Nat := if s.canMode n ≠ cmNormal then laINIT else laBUSOFF

theorem State.canSingle_refused {b : State} (h : b.canMode n.val ≠ cmNormal ∨ b.canSends n.val = false) (o txen : Nat) (ref idle : Bool) :
    b.canSingle n.val o txen ref idle = b.setLast n.val o (b.canUnable n.val) := by
  unfold State.canSingle State.canUnable
  by_cases hm : b.canMode n.val ≠ cmNormal
  · rw [if_pos hm, if_pos hm]
  · rw [if_neg hm, if_neg hm, if_pos (by rw [h.resolve_left hm]; rfl)]

/-- The object's data as its attempt begins. -/
def State.canRef (b : State) (n o : Nat) (ref : Bool) : State := if ref then b.refData n o (b.canRow n) else b

theorem State.canSingle_sends {b v : State} (hm : b.canMode n.val = cmNormal) (hs : b.canSends n.val = true) {o : Nat} {ref : Bool}
    (hv : b.canRef n.val o ref = v) (txen : Nat) (idle : Bool) : b.canSingle n.val o txen ref idle =
      if idle = true ∧ (v.canc n.val).tx.isNone = true then v.canLoad n.val o true
      else v.setCan n.val { v.canc n.val with waitSingle := some (o, ref, v.fns, txen) } := by
  unfold State.canRef at hv
  unfold State.canSingle
  rw [if_neg (fun hc => hc hm), if_neg (by rw [hs]; exact Bool.false_ne_true)]
  dsimp only
  rw [hv]

/-- The first bytes of a reference message. -/
def State.refHead (b : State) (n : Nat) : List Byte := bytesLE 1 (b.canRow n) ++ bytesLE 6 (wrapInt 48 (b.fns - (b.canCycle n).1))

theorem State.canRef_leaves (b : State) (n : Fin 8) {o : Nat} (ho : o < 64) (ref : Bool) : CanOp b (b.canRef n.val o ref) (liveRegs n.val o) ∧
    (ref = true → ((b.canRef n.val o ref).objLive n.val o).take 7 = b.refHead n.val) := by
  have hlen : (b.refHead n.val).length = 7 := by rw [State.refHead, List.length_append, bytesLE_length, bytesLE_length]
  have hall : (b.refHead n.val ++ (b.objLive n.val o).drop 7).length = 64 := by
    rw [List.length_append, List.length_drop, State.objLive_length, hlen]
  cases ref with
  | false => exact ⟨CanOp.refl b _, fun hc => absurd hc Bool.false_ne_true⟩
  | true =>
    have hx : b.canRef n.val o true = b.setObjLive n.val o (b.refHead n.val ++ (b.objLive n.val o).drop 7) := rfl
    obtain ⟨hk, hl⟩ := b.setObjLive_whole n ho hall
    rw [hx]
    exact ⟨hk, fun _ => by rw [hl, List.take_left' hlen]⟩

end

end Sys2Proof.Machine
end

section
/-! PROOF of CanControllers (R350 to R362): CAN_WINDOW_OPEN, concluded, and the clauses together. -/

namespace Sys2Proof.Machine

/- One evaluation after another: each of them, left to itself, would hold a thread. -/
set_option Elab.async false

section
variable {n : Fin 8} {s u b : State} {w : Fin 32} {arb : Bool}

/-! ### What an opened window does not change -/

theorem WindowOpen.g (h : WindowOpen u b n w.val arb) {f : FRef} (hf : f.off ≠ CAN_TT_STAT.off n.val) : b.g f = u.g f := by
  rw [State.g, State.g, h.word _ hf]

theorem bank_notTT (n : Fin 8) (off i : Nat) : bankKey off i ≠ CAN_TT_STAT.off n.val := by
  have := bankKey_ge off i
  simp only [CAN_TT_STAT.off]
  omega

theorem WindowOpen.objTx (h : WindowOpen u b n w.val arb) (o : Nat) : b.objTx n.val o = u.objTx n.val o := by
  rw [State.objTx, State.objTx, State.flag_of_g (h.g (bank_notTT n _ o)), State.flag_of_g (h.g (bank_notTT n _ o))]

theorem WindowOpen.canMode (h : WindowOpen u b n w.val arb) : b.canMode n.val = u.canMode n.val :=
  h.g (by simp only [CAN_CFG.off, CAN_TT_STAT.off]; omega)

theorem WindowOpen.canState (h : WindowOpen u b n w.val arb) : b.canState n.val = u.canState n.val :=
  h.g (by simp only [CAN_STAT.off, CAN_TT_STAT.off]; omega)

theorem WindowOpen.canSends (h : WindowOpen u b n w.val arb) : b.canSends n.val = u.canSends n.val := by
  have hdom : b.domOn 11 = u.domOn 11 := by
    rw [State.domOn, State.domOn, State.dom, State.dom, h.g (by simp only [PWR_DOM_STAT.off, CAN_TT_STAT.off]; omega)]
  rw [State.canSends, State.canSends, hdom, h.canMode, h.canState]

theorem WindowOpen.refHead (h : WindowOpen u b n w.val arb) :
    b.refHead n.val = bytesLE 1 (u.canRow n.val) ++ bytesLE 6 (wrapInt 48 (u.fns - (u.canCycle n.val).1)) := by
  have hcyc : b.canCycle n.val = u.canCycle n.val := State.canCycle_congr h.fns (by rw [h.canc]; rfl) (by rw [h.canc]; rfl)
  rw [State.refHead, State.canRow_congr hcyc (by rw [h.canc]; rfl), hcyc, h.fns]

/-! ### The attempt of an exclusive or a reference window -/

theorem ttStat_notLast (n : Fin 8) (o : Nat) : CAN_TT_STAT.off n.val ∉ lastRegs n.val o := by
  intro hm
  rcases List.mem_cons.1 hm with hm | hm
  · exact bank_notTT n _ o hm.symm
  · exact can_notMem n.val (d := 0x1C) (l := [0x48, 0x58, 0x20]) (by decide) hm

theorem ttStat_notLive (n : Fin 8) (o : Nat) : CAN_TT_STAT.off n.val ∉ liveRegs n.val o := by
  intro hm
  obtain ⟨j, _, hj⟩ := List.mem_map.1 hm
  simp only [CAN_OBJ_DATA.off, CAN_TT_STAT.off] at hj
  omega

theorem ttStat_notBuilt (n : Fin 8) (o : Nat) : CAN_TT_STAT.off n.val ∉ builtRegs n.val o := fun hm =>
  (List.mem_append.1 hm).elim (isCan_notTile (isCan_reg n (d := 0x1C) (by decide))) (ttStat_notLive n o)

/-- An attempt that cannot begin is reported. -/
structure Refused (u t : State) (n : Fin 8) (o v : Nat) : Prop where
  tt : t.rd (CAN_TT_STAT.off n.val) = u.rd (CAN_TT_STAT.off n.val)
  canc : t.canc n.val = u.canc n.val
  resetReq : t.resetReq = u.resetReq
  pending : t.pending = u.pending
  last : t.g ((CAN_OBJ_STAT.LAST n.val).at o) = v
  ev : t.evPend (evCan n.val) = true
  fails : (u.rd (CAN_TX_FAIL.off n.val)).toNat + 1 < 0xFFFFFFFF →
    (t.rd (CAN_TX_FAIL.off n.val)).toNat = (u.rd (CAN_TX_FAIL.off n.val)).toNat + 1

theorem State.setLast_refused (b : State) (n : Fin 8) (o : Nat) {v : Nat} (hv : v ≠ 1) (h8 : v < 8) : Refused b (b.setLast n.val o v) n o v := by
  obtain ⟨hk, hlast, hev, _, hcnt⟩ := b.setLast_leaves n o hv h8
  exact ⟨hk.toEff.word (ttStat_notLast n o) (isCan_fixed (isCan_reg n (d := 0x1C) (by decide))), State.canc_of_can hk.can _, hk.resetReq, hk.pending, hlast, hev,
    hcnt⟩

/-- An attempt that begins: its frame in the shift register, or the attempt waiting for the bus. -/
structure Begun (b t : State) (n : Fin 8) (o txen : Nat) (ref idle : Bool) : Prop where
  tt : t.rd (CAN_TT_STAT.off n.val) = b.rd (CAN_TT_STAT.off n.val)
  resetReq : t.resetReq = b.resetReq
  pending : t.pending = b.pending
  canc : if idle = true ∧ (b.canc n.val).tx = none then
      (t.canc n.val).tx.map (fun x => (x.obj, x.single, x.cancelled)) = some (o, true, false) ∧ (t.canc n.val).waitSingle = none
    else t.canc n.val = { b.canc n.val with waitSingle := some (o, ref, b.fns, txen) }
  live : ref = true → (t.objLive n.val o).take 7 = b.refHead n.val

theorem State.canSingle_begun {o : Nat} (ho : o < 64) (hm : b.canMode n.val = cmNormal) (hs : b.canSends n.val = true)
    (hsig : b.sigEntries true 1 n.val o = []) (txen : Nat) (ref idle : Bool) : Begun b (b.canSingle n.val o txen ref idle) n o txen ref idle := by
  obtain ⟨hk, hlive⟩ := b.canRef_leaves n ho ref
  obtain ⟨v, hv⟩ : ∃ v, b.canRef n.val o ref = v := ⟨_, rfl⟩
  rw [State.canSingle_sends hm hs hv txen idle]
  rw [hv] at hk hlive
  have hcanc := State.canc_of_can hk.can n.val
  have htt := hk.same _ (ttStat_notLive n o)
  by_cases hidle : idle = true ∧ (b.canc n.val).tx = none
  · rw [if_pos ⟨hidle.1, by rw [hcanc, hidle.2]; rfl⟩]
    obtain ⟨f, hl⟩ := v.canLoad_leaves n ho true
    have hfilled := State.canBuilt_unnamed (n := n) ho ((hk.sigEntries true 1 n.val o).trans hsig)
    generalize v.canLoad n.val o true = t at *
    refine ⟨(hl.word _ (isCan_reg n (d := 0x1C) (by decide)) (ttStat_notBuilt n o) (bank_notTT n _ o).symm).trans htt, hl.resetReq.trans hk.resetReq,
      hl.pending.trans hk.pending, ?_, fun hr => by rw [hl.live, hfilled, hlive hr]⟩
    rw [if_pos hidle, hl.canc]
    exact ⟨rfl, rfl⟩
  · rw [if_neg fun hc => hidle ⟨hc.1, hcanc ▸ Option.isNone_iff_eq_none.1 hc.2⟩, hcanc, hk.fns]
    obtain ⟨c, hc⟩ : ∃ c, ({ b.canc n.val with waitSingle := some (o, ref, b.fns, txen) } : Can) = c := ⟨_, rfl⟩
    rw [hc]
    have hregs := v.setCan_regs n.val c
    have hcan := v.setCan_canc n.val c
    refine ⟨(State.rd_of_regs hregs _).trans htt, (v.setCan_resetReq ..).trans hk.resetReq, (v.setCan_pending ..).trans hk.pending, ?_, fun hr => ?_⟩
    · rw [if_neg hidle, hc, hcan]
    · rw [State.objLive_congr fun k _ => State.rd_of_regs hregs _, hlive hr]

/-! ### CAN_WINDOW_OPEN -/

/-- The outcome of a window's attempt that cannot begin is one that is counted. -/
theorem State.canUnable_ne (s : State) (n : Nat) : s.canUnable n ≠ 1 ∧ s.canUnable n < 8 := by
  unfold State.canUnable
  split
  · decide
  · decide

theorem canWindowOpen_told {idle : Bool} {o : Fin 64} {cell : Word} {kind : Nat} (hs : s.resetReq = none) (hon : s.domOn 11 = true)
    (htt : s.flag (CAN_CFG.TT n.val) = true) (hu : s.ttDue n.val = u) (hcell : u.canCell n.val w.val = cell) (hkind : (CAN_CELL.KIND n.val).get cell = kind)
    (hwin : u.winOpens n.val w.val = true) (htx : u.objTx n.val o.val = true) (hobj : (CAN_CELL.OBJ n.val).get cell = o.val)
    (hsig : u.sigEntries true 1 n.val o.val = []) (hcnt : (u.rd (CAN_TX_FAIL.off n.val)).toNat + 1 < 0xFFFFFFFF) :
    ∃ t, exec (.canWindowOpen n w idle) s = .next t ∧ t.g (CAN_TT_STAT.WIN n.val) = w.val ∧ t.g (CAN_TT_STAT.ROW n.val) = u.canRow n.val % 64 ∧
      (kind = 0 ∨ kind = 2 → t.canc n.val = (u.canc n.val).opening (decide (kind = 2)) (u.canCycle n.val).2 w.val ∧ u.sameRegs t [CAN_TT_STAT.off n.val]) ∧
      (kind = 1 ∨ kind = 3 → u.canMode n.val ≠ cmNormal ∨ u.canSends n.val = false →
        t.canc n.val = (u.canc n.val).opening (decide (kind = 2)) (u.canCycle n.val).2 w.val ∧
        (t.rd (CAN_TX_FAIL.off n.val)).toNat = (u.rd (CAN_TX_FAIL.off n.val)).toNat + 1 ∧ t.evPend (evCan n.val) = true ∧
        t.g ((CAN_OBJ_STAT.LAST n.val).at o.val) = if u.canMode n.val ≠ cmNormal then laINIT else laBUSOFF) ∧
      (kind = 1 ∨ kind = 3 → u.canMode n.val = cmNormal → u.canSends n.val = true →
        (if idle = true ∧ (u.canc n.val).tx = none then
          (t.canc n.val).tx.map (fun x => (x.obj, x.single, x.cancelled)) = some (o.val, true, false) ∧ (t.canc n.val).waitSingle = none
        else t.canc n.val = { (u.canc n.val).opening (decide (kind = 2)) (u.canCycle n.val).2 w.val with
          waitSingle := some (o.val, decide (kind = 3), u.fns, u.g (CAN_WIN.TXEN n.val w.val)) }) ∧
        (kind = 3 → (t.objLive n.val o.val).take 7 =
          bytesLE 1 (u.canRow n.val) ++ bytesLE 6 (wrapInt 48 (u.fns - (u.canCycle n.val).1)))) := by
  obtain ⟨hregs, hreset, hpend⟩ := s.ttDue_leaves n
  rw [hu] at hregs hreset hpend
  have hon' : u.domOn 11 = true := by
    rw [State.domOn, State.dom, State.g_of_regs hregs]
    exact hon
  have hbeq : ∀ j, ((CAN_CELL.KIND n.val).get cell == j) = decide (kind = j) := fun j => by
    rw [hkind]
    rfl
  have hopen := u.canOpened_leaves n w.isLt (decide (kind = 2))
  obtain ⟨b, hb⟩ : ∃ b, u.canOpened n.val w.val (decide (kind = 2)) = b := ⟨_, rfl⟩
  rw [hb] at hopen
  have hTXEN : b.g (CAN_WIN.TXEN n.val w.val) = u.g (CAN_WIN.TXEN n.val w.val) := hopen.g (by simp only [CAN_WIN.off, CAN_TT_STAT.off]; omega)
  have hx := canWindowOpen_eq (idle := idle) hu hon' ((State.flag_of_regs hregs _).trans htt) hwin hcell (b := b) (by rw [hbeq]; exact hb)
  rw [hbeq, hkind, hobj, hTXEN] at hx
  have htold : ∀ t : State, t.rd (CAN_TT_STAT.off n.val) = b.rd (CAN_TT_STAT.off n.val) → t.resetReq = b.resetReq → t.pending = b.pending →
      s.finish t = t ∧ t.g (CAN_TT_STAT.WIN n.val) = w.val ∧ t.g (CAN_TT_STAT.ROW n.val) = u.canRow n.val % 64 := fun t h1 h2 h3 =>
    ⟨State.finish_kept (h2.trans (hopen.resetReq.trans (hreset.trans hs))) (h3.trans (hopen.pending.trans hpend)),
      (by rw [State.g, h1]; exact hopen.win), by rw [State.g, h1]; exact hopen.row⟩
  rw [exec_canWindowOpen, hx]
  by_cases hk : kind = 1 ∨ kind = 3
  · have hno : ¬(kind = 0 ∨ kind = 2) := by omega
    rw [if_pos ⟨hk, (hopen.objTx o.val).trans htx⟩]
    by_cases hr : u.canMode n.val ≠ cmNormal ∨ u.canSends n.val = false
    · rw [State.canSingle_refused (by rw [hopen.canMode, hopen.canSends]; exact hr)]
      obtain ⟨hv1, hv8⟩ := b.canUnable_ne n.val
      have href := b.setLast_refused n o.val hv1 hv8
      rw [State.canUnable, hopen.canMode] at href ⊢
      generalize b.setLast n.val o.val (if u.canMode n.val ≠ cmNormal then laINIT else laBUSOFF) = t at *
      obtain ⟨hfin, hw, hrow⟩ := htold t href.tt href.resetReq href.pending
      have hfail : b.rd (CAN_TX_FAIL.off n.val) = u.rd (CAN_TX_FAIL.off n.val) := hopen.word _ (by simp only [CAN_TX_FAIL.off, CAN_TT_STAT.off]; omega)
      exact ⟨t, congrArg _ hfin, hw, hrow, fun hc => absurd hc hno,
        fun _ _ => ⟨href.canc.trans hopen.canc, by rw [href.fails (by rw [hfail]; exact hcnt), hfail], href.ev, href.last⟩,
        fun _ hm hsn => absurd hr (by simp [hm, hsn])⟩
    · obtain ⟨hm, hsn⟩ := not_or.1 hr
      have hbegun := State.canSingle_begun (b := b) (n := n) o.isLt (hopen.canMode.trans (not_not.1 hm))
        (hopen.canSends.trans (Bool.eq_true_of_not_eq_false hsn)) ((hopen.sig ..).trans hsig) (u.g (CAN_WIN.TXEN n.val w.val)) (decide (kind = 3)) idle
      generalize b.canSingle n.val o.val (u.g (CAN_WIN.TXEN n.val w.val)) (decide (kind = 3)) idle = t at *
      obtain ⟨hfin, hw, hrow⟩ := htold t hbegun.tt hbegun.resetReq hbegun.pending
      have hcanc := hbegun.canc
      rw [hopen.canc, hopen.fns] at hcanc
      exact ⟨t, congrArg _ hfin, hw, hrow, fun hc => absurd hc hno, fun _ hc => absurd hc hr,
        fun _ _ _ => ⟨hcanc, fun h3 => (hbegun.live (decide_eq_true h3)).trans hopen.refHead⟩⟩
  · rw [if_neg fun hc => hk hc.1]
    obtain ⟨hfin, hw, hrow⟩ := htold b rfl rfl rfl
    exact ⟨b, congrArg _ hfin, hw, hrow, fun _ => ⟨hopen.canc, fun k hm => hopen.word k (by simpa using hm)⟩, fun hc => absurd hc hk, fun hc => absurd hc hk⟩

end

/-! ### The clauses together -/

/-- Settles O52: reception, requests, transmission, the schedule and the states of a CAN controller, clause by clause. -/
theorem canControllers : Obligations.CanControllers := by
  unfold Obligations.CanControllers
  refine ⟨fun n o f age s hs hon h1 h2 h3 h4 h5 h6 h7 h8 h9 h10 h11 h12 h13 => canFrameReceive_good hs hon h1 h2 h3 h4 h5 h6 h7 h8 h9 h10 h11 h12 h13,
    fun n f age err s hs hon h1 h2 h3 h4 h5 => canFrameReceive_error hs hon h1 h2 h3 h4 h5,
    fun m n o s h => ⟨fun ho => canTxreq_told h ho, fun h1 h2 h3 h4 h5 => canCancel_pending h h1 h2 h3 h4 h5,
      fun x hx hxo hw => canCancel_late h hx hxo hw, canCommitData_told h, fun hc => canRecover_begins h hc, fun hc hcnt => canRecover_refused h hc hcnt⟩,
    fun n o s hs ho hp => canPeriodExpire_told hs ho hp,
    fun n o s hs h1 h2 h3 h4 h5 h6 h7 h8 => canTxCommit_told hs h1 h2 h3 h4 h5 h6 h7 h8,
    fun n o r w e s hs hw hc => ⟨fun h1 h2 h3 => canTxCommit_single hs hw h1 h2 h3, canTxenExpire_told hs hw hc⟩,
    fun n age x s hs hx ho hl => ⟨canTxDone_ok hs hx hl, fun h1 h2 e he => canTxDone_failed hs hx h1 h2 he, fun h1 h2 => canTxDone_error hs hx h1 h2⟩,
    fun n w idle o s hs hon htt => fun h1 h2 h3 h4 h5 => canWindowOpen_told hs hon htt rfl rfl rfl h1 h2 h3 h4 h5,
    fun n b k p c s hs hst => canTtApply_told hs hst, fun n s hs hst => canRecoveryDone_told hs hst, fun m n s h hm => canModeInitWrite_told h hm⟩

end Sys2Proof.Machine
end
